-- ==== Sys2Proof/Word.lean ====
section
/-! DEFINITION. The plainest words of the model: bytes, byte strings and keyed lists. Quantities the manual counts with (times in ns,
cell counts, counters, addresses as cell keys) are `Nat`; every place that stores one in a field of fixed width narrows it there. -/

namespace Sys2Proof

/-- A byte of memory, of a frame or of a message. -/
abbrev Byte := BitVec 8

/-- A byte string, first byte first. -/
abbrev Bytes := List Byte

/-- Sparse data by key: (key, value) pairs with strictly rising keys. `Sys2Proof.Machine.KV` holds its operations. -/
abbrev KV (α : Type) := List (Nat × α)

end Sys2Proof
end

