-- ==== Sys2Proof/Types.lean ====
section
/-! DEFINITION. The data a command carries: status codes, concourse transactions, frames, dictionary requests. -/

namespace Sys2Proof

/-- Status codes of Table 2.1 (R31). -/
inductive Status where
  | ok | noObject | noSubindex | writeProtected | readProtected | worldDenied | hallDenied | outOfRange
  | lengthMismatch | typeMismatch | conflict | notAligned | accessAttr | leased | childInUse | busy | draining
  | aborted | staleEpoch | wrongState | notConfigured | noResource | quota | remoteFailed | remoteTimeout | integrity
  deriving DecidableEq, Repr

/-- The 16-bit code of Table 2.1. -/
def Status.code : Status → Nat
  | .ok => 0x0000 | .noObject => 0x0101 | .noSubindex => 0x0102 | .writeProtected => 0x0201 | .readProtected => 0x0202
  | .worldDenied => 0x0203 | .hallDenied => 0x0204 | .outOfRange => 0x0301 | .lengthMismatch => 0x0302
  | .typeMismatch => 0x0303 | .conflict => 0x0304 | .notAligned => 0x0305 | .accessAttr => 0x0306 | .leased => 0x0401
  | .childInUse => 0x0402 | .busy => 0x0501 | .draining => 0x0502 | .aborted => 0x0503 | .staleEpoch => 0x0601
  | .wrongState => 0x0701 | .notConfigured => 0x0702 | .noResource => 0x0801 | .quota => 0x0802
  | .remoteFailed => 0x0901 | .remoteTimeout => 0x0902 | .integrity => 0x0A01

/-- The CiA 301 abort code of Table 2.1; `none` for OK (R32). -/
def Status.abort : Status → Option Nat
  | .ok => none | .noObject => some 0x06020000 | .noSubindex => some 0x06090011 | .writeProtected => some 0x06010002
  | .readProtected => some 0x06010001 | .worldDenied => some 0x06010000 | .hallDenied => some 0x06010000
  | .outOfRange => some 0x06090030 | .lengthMismatch => some 0x06070010 | .typeMismatch => some 0x06070010
  | .conflict => some 0x06040043 | .notAligned => some 0x06040047 | .accessAttr => some 0x06010000
  | .leased => some 0x08000021 | .childInUse => some 0x08000021 | .busy => some 0x08000022
  | .draining => some 0x08000022 | .aborted => some 0x08000020 | .staleEpoch => some 0x08000020
  | .wrongState => some 0x08000022 | .notConfigured => some 0x08000022 | .noResource => some 0x05040005
  | .quota => some 0x05040005 | .remoteFailed => some 0x06060000 | .remoteTimeout => some 0x08000020
  | .integrity => some 0x06060000

/-- Kind of a concourse transaction (Table 1.3), an atomic with its function code (R547). -/
inductive TKind where
  | read | write | posted | atomic (fn : Nat)
  deriving DecidableEq, Repr

/-- Initiators of Table 1.2. -/
inductive Initiator where
  | aCore (n : Nat) | cCore (n : Nat) | executor (x : Nat) | se | m0 | mezzDma | crypto | engine (n : Nat) | switchCore | d0
  | dma (c : Nat) | bridge (u : Nat) | debug | hostEngine (n : Nat) | storage
  deriving DecidableEq, Repr

/-- A number for each initiator, the key of its latches and locks. -/
def Initiator.id : Initiator → Nat
  | .aCore n => n | .cCore n => 4 + n | .executor x => 12 + x | .se => 28 | .m0 => 29 | .mezzDma => 30 | .crypto => 31
  | .engine n => 32 + n | .switchCore => 34 | .d0 => 35 | .bridge u => 36 + u | .debug => 40 | .hostEngine n => 41 + n
  | .storage => 45 | .dma c => 64 + c

/-- A concourse transaction: the attributes of Table 1.3, its address and, for a write or an atomic, its data (little-endian). -/
structure Txn where
  initiator : Initiator
  secure : Bool
  hall : Nat
  epv : Bool
  epoch : Nat
  kind : TKind
  addr : Nat
  size : Nat
  data : Nat
  deriving DecidableEq, Repr

/-- A VLAN tag of a frame. -/
structure Tag where
  tpid : Nat
  pcp : Nat
  dei : Bool
  vid : Nat
  deriving DecidableEq, Repr

/-- An Ethernet frame between its addresses and its FCS: tags outermost first, the 802.1CB sequence number if it has an R-TAG. -/
structure Frame where
  dst : Nat
  src : Nat
  tags : List Tag
  rtag : Option Nat
  etype : Nat
  payload : Bytes
  deriving DecidableEq, Repr

/-- Bytes from the destination address through the FCS, padded to the 64 bytes of IEEE 802.3. -/
def Frame.len (f : Frame) : Nat :=
  max 64 (14 + 4 * f.tags.length + (if f.rtag.isSome then 6 else 0) + f.payload.length + 4)

/-- A CAN frame on the bus. -/
structure CanFrame where
  id : Nat
  ide : Bool
  fdf : Bool
  brs : Bool
  esi : Bool
  rtr : Bool
  dlc : Nat
  data : Bytes
  deriving DecidableEq, Repr

/-- Where ISO 11898-1 makes TEC and REC rise otherwise than by 8 of a transmitter and 1 of a receiver (R181): a stuff error of the transmitter
during arbitration whose recessive stuff bit was read dominant; an ACK error of an error-passive transmitter that reads no dominant bit in its passive
error flag; an error in or after the flag of the node that was the transmitter, or of a receiver. -/
inductive CanErrorAt where
  | frame
  | arbitrationStuff
  | quietAck
  | transmitterFlag
  | receiverFlag
  deriving DecidableEq, Repr

/-- Dictionary paths of Table 3.3, one per path instance. -/
inductive Path where
  | sdo (ch : Nat) | udp | gallery | servicePort | mailbox (hall : Nat) | secureMailbox
  deriving DecidableEq, Repr

/-- A number for each path, the key of its request queue (R63). -/
def Path.id : Path → Nat
  | .sdo ch => ch | .udp => 16 | .gallery => 17 | .servicePort => 18 | .secureMailbox => 19 | .mailbox h => 32 + h

/-- A dictionary request (Table 3.7 and the flags of Table 3.5). `ty` is `none` on a path that carries no type code (R61). -/
structure DictReq where
  write : Bool
  index : Nat
  sub : Nat
  offset : Nat
  ty : Option Nat
  total : Nat
  more : Bool
  shadow : Bool
  epv : Bool
  epoch : Nat
  data : Bytes
  deriving DecidableEq, Repr

/-- Units that can be disabled (R51, Table 2.8). -/
inductive UnitId where
  | port (p : Nat) | queue (p c : Nat) | can (n : Nat) | adc (a : Nat) | bridge (u k : Nat) | dma (c : Nat) | hostEngine (n : Nat)
  | queuePair (q : Nat)
  deriving DecidableEq, Repr

/-- The protocol request of Table 3.4 with the link, IP and UDP headers it came in: `sum` is the UDP checksum as sent, `fragment` says that the packet is
an IP fragment. -/
structure NdpMsg where
  version : Nat
  op : Nat
  flags : Nat
  session : Nat
  seq : Nat
  node : Nat
  status : Nat
  epoch : Nat
  payload : Bytes
  tag : Bytes
  srcMac : Nat
  vlan : Nat
  srcIp : Nat
  srcPort : Nat
  v6 : Bool
  dstIp : Nat
  dstPort : Nat
  fragment : Bool
  sum : Nat
  deriving DecidableEq, Repr

/-- When a frame passes the PCS boundary (R151): the raw counter, the interpolator's phase, and the pipeline latency the PCS reports, in 1/256 ns. -/
structure FrameStamp where
  raw : Nat
  phase : Nat
  latency : Nat
  deriving DecidableEq, Repr

/-- A PTP message that the timebase unit receives (R152, R153). Times of other clocks are in ns, corrections in 2 to the −16 ns. -/
inductive PtpMsg where
  /-- A Sync, for two steps with its Follow_Up: its origin, correction and receive stamp. -/
  | sync (origin : Nat) (correction : Int) (rx : FrameStamp)
  /-- An Announce, with the port state the selection gives this port, the grandmaster, and whether it is this device. -/
  | announce (gm : Nat) (portState : Nat) (self : Bool)
  /-- A Pdelay_Req, and the stamp with which its response leaves. -/
  | pdelayReq (seq : Nat) (rx tx : FrameStamp)
  /-- A Pdelay_Resp with its Follow_Up: when the peer received and answered the request. -/
  | pdelayResp (t2 t3 : Nat) (correction : Int) (rx : FrameStamp)
  /-- A Delay_Req. -/
  | delayReq (seq : Nat) (rx : FrameStamp)
  /-- A Delay_Resp: when the master received the request. -/
  | delayResp (t4 : Nat) (correction : Int)
  deriving DecidableEq, Repr

/-- The messages the timebase sends of its own (R152). A relayed Sync brings the port and stamp it came in with, its origin and correction, and the rate
ratio to the grandmaster less 1, in 2 to the −41. -/
inductive PtpSend where
  | syncOrigin | syncRelay (q : Nat) (rx : FrameStamp) (origin : Nat) (correction ratio : Int) | pdelayReq | delayReq | announce
  deriving DecidableEq, Repr

/-- A bridge message (Table 9.1) with its data and tag. Fields that the header reserves are not carried. -/
structure BMsg where
  ty : Nat
  op : Nat
  spec : Bool
  enc : Bool
  srcNode : Nat
  srcUnit : Nat
  dst : Nat
  sid : Nat
  epoch : Nat
  seq : Nat
  tag : Nat
  addr : Nat
  size : Nat
  status : Nat
  data : Bytes
  auth : Bytes
  deriving DecidableEq, Repr

/-- What the sense sequencer finds at one group (R296, R297): the code of the sense pin, the select inputs and whether they stood still (both
used with the strap SELEXT at 1), and the sensors: the channel's Tj and the substrate in °C, the group differential in K, VBAT in mV. -/
structure SensePin where
  code : Nat
  sel : Nat
  stable : Bool
  tj : Int
  substrate : Int
  delta : Nat
  vbat : Nat
  deriving DecidableEq, Repr

/-- The privilege modes of an A-core (Table 14.1). -/
inductive Mode where
  | m | hs | u | vs | vu
  deriving DecidableEq, Repr

/-- What the NAND die did during an operation (R458, R461, R462): codewords that needed a retry, sectors that stayed undecodable, blocks retired
with their cause (1 program, 2 erase, 3 read test), bytes programmed, and the mean and the highest erase count afterwards. -/
structure NandWork where
  retries : Nat
  bad : List Nat
  retired : List (Nat × Nat)
  programmed : Nat
  mean : Nat
  max : Nat
  deriving DecidableEq, Repr

/-- Why a cold or chip reset starts: KIND, CAUSE and DETAIL of Table 19.7. For a VIO rail out of range also which one (0 VIO33, 1 VIO18) and its
voltage in mV (R456); for the secure watchdog its period in ms (R413). -/
structure ResetCause where
  kind : Nat
  cause : Nat
  detail : Nat
  rail : Nat
  data : Nat
  deriving DecidableEq, Repr

/-- A start that ended before step 8 of Table 19.8 with another reset, after `cut` blocks of a copy of firmware if one was under way (R447, R479). -/
structure BootFail where
  cut : Option Nat
  reason : ResetCause
  deriving DecidableEq, Repr

/-- What a start-up meets (R447): the starts that ended early before it; whether training fails (1) or finds densities that differ (2; R349); VAUX in
mV; the external sources that are stable ([0] XO, [1] REFIN); the straps and which of them are unstable ([0] TWIN_POS, [1] SELEXT, [2] TESTEN; R522);
the time of the mount in ms and whether the last power-off was unclean (R472); the time from step 1 to step 12 in ms. -/
structure BootEnv where
  fails : List BootFail
  dramFault : Nat
  vauxMv : Nat
  sources : Nat
  straps : Nat
  unstable : Nat
  mountMs : Nat
  unclean : Bool
  bootMs : Nat
  deriving DecidableEq, Repr

/-- What goes with a wake from STANDBY or SLEEP (R201, R208): whether the bucks were still stopping, the other sources latched before the start, and the
start-up. `flags` are FRAME_MATCH (2) and FRAME_ERRORS (4) of the further sources, `watch` the place of a further watched source (R211). -/
structure WakeEnv where
  during : Bool
  more : Nat
  flags : Nat
  watch : Nat
  boot : BootEnv
  deriving DecidableEq, Repr

/-- What goes with the execution of a dictionary write, where its effect needs it from outside: the public key under which a token's signature is checked
(R409), the time of a warm reset in ms, the partner's answer to MIGRATE if it came in time (R387), and a wake's start-up (R454). -/
structure WriteEnv where
  pub : Bytes
  bootMs : Nat
  rsp : Option Status
  wake : WakeEnv
  deriving DecidableEq, Repr

end Sys2Proof
end

