-- ==== Sys2Proof/Syntax.lean ====
section
/-! DEFINITION. The commands of the block: one constructor per row of the opcode table, with what the sender or the environment
supplies with it. -/

namespace Sys2Proof

/-- The commands, in the table's order; each names its rule. -/
inductive Instr where
  /-- R16: A read or write transaction reaches its target, which checks it in the order of Table 1.4 and then performs it or refuses it. -/
  | concourseTransaction (t : Txn)
  /-- R547: An atomic transaction is performed as one read-modify-write at its target and answers the old value. -/
  | atomicTransaction (t : Txn)
  /-- R14: The logic die asserts a power die's safe-state line, and every channel of that group takes its safe value within 10 µs. -/
  | safeStateLine (g : Nat) (asserted : Bool)
  /-- R24: The pace monitor reports a pace code, once per microsecond. -/
  | paceSample (code : Nat)
  /-- R24: The supply controller moves the core rail by one 5 mV step, at most once per 10 µs. -/
  | trimStep (up : Bool)
  /-- R26: In mode WORST the pace code has stayed below 4096 for 20 µs with the rail at 0.88 V, so PACE_LOW is logged and FAULT_N is asserted. -/
  | paceFault
  /-- R26: The pace code has been at 4096 or above for 1 ms, so FAULT_N is released. -/
  | paceFaultEnd
  /-- R48: A read of a 64-bit counter's low word latches that counter's high word for the next high-word read by the same initiator. -/
  | counterLowRead (i : Initiator) (idx sub : Nat) (high : Bool)
  /-- R48: A 32-bit write to a counter's low word is staged until the next write to the same counter's high word. -/
  | counterLowWrite (idx sub v : Nat)
  /-- R48: A write to a counter's high word takes effect together with the staged low-word write. -/
  | counterHighWrite (idx sub v : Nat)
  /-- R51: A write of 1 to a unit's ENABLE makes a DISABLED unit ENABLED and has no effect in other states. -/
  | unitEnable (x : UnitId) (secure : Bool)
  /-- R51: A write of 0 to a unit's ENABLE starts DRAINING from ENABLED and has no effect in other states. -/
  | unitDisable (x : UnitId) (secure : Bool)
  /-- R52: The last in-flight item of a draining unit reaches its natural boundary, so the unit enters DISABLED and writes DRAIN_DONE. -/
  | drainDone (x : UnitId)
  /-- R52: A unit's drain timeout expires, so its remaining items complete with ABORTED and it enters DISABLED. -/
  | drainTimeout (x : UnitId)
  /-- R55: A FENCE is written on a bridge or gallery context and waits until every earlier posted write of that context has a known outcome. -/
  | fence (u k hall v : Nat)
  /-- R55: The posted writes that a FENCE waits on are all settled, and the FENCE completes with OK, REMOTE_TIMEOUT or REMOTE_FAILED. -/
  | fenceComplete (u k : Nat)
  /-- R60: D0 takes a read request from a path queue, checks it by Table 3.2 and returns the value. -/
  | dictReadExec
  /-- R60: D0 takes a write request from a path queue, checks it by Table 3.2, and writes the entry or its shadow. -/
  | dictWriteExec (env : WriteEnv)
  /-- R8: A write to a register or entry that has no row of its own sets the value as its access code states. -/
  | dictWriteGeneric (t : Option Txn)
  /-- R66: A write of 1 to APPLY checks the shadow of a group against itself and against the active values, and hands it to the unit or returns CONFLICT. -/
  | apply
  /-- R64: A write of 2 to APPLY by the owner discards the shadow and ends the ownership. -/
  | applyDiscard
  /-- R66: A checked group's values take effect together at the unit's next boundary, and the APPLY response is sent. -/
  | applyTakeEffect (i : Nat)
  /-- R65: 10 s pass without a write or APPLY from a shadow's owner, so the shadow is emptied and ownership ends. -/
  | shadowTimeout (i : Nat)
  /-- R77: 10 s pass without a segment of a DOMAIN transfer, so the transfer is abandoned and the partial value is discarded. -/
  | domainTransferTimeout (i sub : Nat)
  /-- R72: An OPEN request is authenticated by HMAC under the binding key and opens a session, or is dropped and counted with AUTH_FAIL. -/
  | ndpOpen (m : NdpMsg)
  /-- R74: A CLOSE request closes its session. -/
  | ndpClose (m : NdpMsg)
  /-- R75: A READ request of the dictionary protocol is verified and sequenced, then queued for D0 or answered from the response cache. -/
  | ndpRead (m : NdpMsg)
  /-- R75: A WRITE request of the dictionary protocol is verified and sequenced, then queued for D0 or answered from the response cache. -/
  | ndpWrite (m : NdpMsg)
  /-- R75: A NOP request is verified and sequenced and is answered with no payload. -/
  | ndpNop (m : NdpMsg)
  /-- R74: A session has been idle for IDLE_TIMEOUT_S and closes. -/
  | sessionIdleTimeout (id : Nat)
  /-- R81: A write of GO to a mailbox page submits a dictionary request for that page's hall, or sets OVERRUN while BUSY. -/
  | mbGo (p : Path) (v : Nat)
  /-- R83: A write of save to 0x1010 starts a store of one class of active persistent values into the alternate journal half. -/
  | storeParameters
  /-- R83: A write of load to 0x1011 marks one class for its defaults at the next reset, committed through the journal. -/
  | restoreDefaults
  /-- R83: A store or restore is committed in SETTINGS, and its response is sent. -/
  | storeCommit
  /-- R120: The classification engines take a received frame through the ingress steps of Table 5.5 and decide its VID, class, stream and destination set. -/
  | frameClassify (p : Nat) (f : Frame) (len : Nat) (fcs : Bool) (landed : Nat)
  /-- R90: A frame's last cell lands, and admission is decided for every copy together; or a cell past the headroom truncates the frame. -/
  | frameLanded (p : Nat)
  /-- R99: The stairwell write of a staged copy completes, the copy enters STAIRWELL, and its staging cells are released. -/
  | stwWriteComplete (p c : Nat)
  /-- R100: The stairwell engine starts reading a latched queue's next copy back, once the landing part holds fewer than twice the maximum frame and room and a descriptor are free. -/
  | refillStart (p c : Nat)
  /-- R101: The read of a refilled copy completes, and the copy enters LANDED or is dropped for residence or ECC. -/
  | refillComplete (p c : Nat) (err : Option Nat)
  /-- R126: An idle egress port picks its next copy, checks residence and gate fit, and starts transmitting it. -/
  | txSelect (p : Nat)
  /-- R95: The last byte of a copy leaves with a valid FCS, and the copy reaches SENT and releases its descriptor and cells. -/
  | copySent (p : Nat) (ecc : Bool) (col : Nat)
  /-- R107: A write of 1 to a queue's FLUSH drops every copy of the queue not in TX and clears the latch. -/
  | queueFlush (p c : Nat)
  /-- R127: A write to FDB_FLUSH removes the learned entries of one port, or all learned entries. -/
  | fdbFlush (v : Nat)
  /-- R127: A learned forwarding entry not refreshed for AGING_S is removed. -/
  | fdbAging (mac vid : Nat)
  /-- R132: A write to STREAM_UNBLOCK unblocks the named stream. -/
  | streamUnblock (n : Nat)
  /-- R136: A write to STREAM_CLEAR clears the counters and saturation bits of one stream or of all streams. -/
  | streamClear (n : Nat)
  /-- R135: The reset timeout RESET_MS of a stream's vector recovery function expires. -/
  | recoveryResetTimeout (n : Nat)
  /-- R117: A port's link conditions begin to hold, and qualification starts. -/
  | linkQualifyStart (p : Nat)
  /-- R117: A port's link conditions have held for LINK_QUAL_MS, so link-up is reported; a running hold resumes its copies with HOLD_RESUME. -/
  | linkUp (p : Nat)
  /-- R117: A link condition fails after a reported link-up, so link-down is reported and the port's queues are held. -/
  | linkDown (p pins : Nat)
  /-- R106: A port's hold time expires before link-up, so every queued copy is dropped with DROP_DOWN and HOLD_FLUSH is written. -/
  | holdExpiry (p : Nat)
  /-- R116: 1 ms after a MODE change of an X port has passed, and XTXDISn goes low unless the port is DISABLED. -/
  | xtxdisRelease (p : Nat)
  /-- R137: The interval of a gate control list entry ends, the port moves to the next entry, and closing gates count for R105. -/
  | gateIntervalEnd (p : Nat)
  /-- R138: The change time of a pending gate control list is reached, and the pending list becomes operational. -/
  | gclChange (p : Nat)
  /-- R158: Corrected time reaches a trigger unit's NEXT_NS, and the unit acts on its target and advances or disarms. -/
  | triggerFire (u : Nat)
  /-- R159: The PULSE_NS output pulse of a trigger pin ends. -/
  | triggerPulseEnd (n : Nat)
  /-- R148: A read of SNAP_RAW_LO captures the raw counter and the timebase values into the reading initiator's latch. -/
  | snapCapture (i : Initiator)
  /-- R146: A write of GO to ADJ_CTRL makes an adjustment pending, or sets OVERRUN if one is already pending. -/
  | adjGo (hall v : Nat)
  /-- R146: At the next raw tick after GO with DO_RATE, the timebase folds the old rate into OFFSET and takes the new RATE. -/
  | timeRateChange
  /-- R146: At the next raw tick after GO with DO_STEP, OFFSET moves by the step, TGEN increments and TIME_STEP is written. -/
  | timeStep
  /-- R146: At the next raw tick after GO with DO_QUALITY, the time quality takes QUALITY_NEW. -/
  | qualitySet
  /-- R154: A write of SET_TIME in PROFILE 4 steps corrected time to the written value. -/
  | setTime (v : Nat)
  /-- R149: An edge on a TRIGn input pin is stamped into its capture FIFO, or is lost to a full FIFO. -/
  | trigEdgeCapture (n : Nat) (rising : Bool) (phase : Nat)
  /-- R149: A read of CAPn_TIME returns the head capture and pops it from the FIFO. -/
  | capturePop (n : Nat)
  /-- R153: A PTP message delivered to the timebase unit is stamped and processed by the time firmware and servo. -/
  | ptpMessageReceive (p dom : Nat) (m : PtpMsg)
  /-- R152: The timebase unit sends a PTP event message, with one-step stamp insertion or a Follow_Up. -/
  | ptpMessageSend (p : Nat) (m : PtpSend) (phase latency : Nat)
  /-- R155: In SYNCHRONIZED no Sync arrives for SYNC_TIMEOUT sync intervals, so the quality becomes HOLDOVER. -/
  | syncTimeout
  /-- R155: HOLDOVER lasts HOLDOVER_S, so the quality becomes UNSYNCHRONIZED. -/
  | holdoverTimeout
  /-- R169: A write of SEND to a transmit buffer is checked and makes the buffer pending, or is refused. -/
  | canSend (n k v : Nat)
  /-- R171: A write of ABORT to a pending transmit buffer completes it with REASON 7, or marks it to end after the frame on the bus. -/
  | canAbort (n k : Nat)
  /-- R168: When the bus allows a start, the channel picks one candidate from the pending buffers and the service transmitter and starts arbitration. -/
  | canTxStart (n phase : Nat)
  /-- R170: A frame loses arbitration and is retried, or completes with ABORTED under ONESHOT or ABORT. -/
  | canArbitrationLost (n : Nat)
  /-- R170: A frame is sent without error, so its buffer completes with OK and is stamped. -/
  | canTxComplete (n : Nat)
  /-- R181: The controller detects a bus error, updates TEC and REC, and may enter error-passive or bus-off. -/
  | canError (n lec : Nat) (at_ : CanErrorAt)
  /-- R182: A write of RESTART starts bus-off recovery of a channel. -/
  | canRestart (n : Nat)
  /-- R182: Bus-off recovery counts 128 occurrences of 11 recessive bits, so the channel becomes error-active with zeroed counters. -/
  | canBusRecovered (n : Nat)
  /-- R165: The transceiver's TXD dominant time-out expires and releases the bus. -/
  | dominantTimeout (n : Nat)
  /-- R173: A frame received without error is offered to the reference unit, CANopen services, the bound object and the catch-all FIFO in turn. -/
  | canFrameReceive (n : Nat) (f : CanFrame) (res : Bool) (sof phase : Nat)
  /-- R176: A read of a receive object's or FIFO head's HDR word locks it to the reading initiator and notes LOSTCNT. -/
  | objHdrRead (n k : Nat) (i : Initiator)
  /-- R176: A read of TAIL by the lock holder releases the lock, clears NEW, subtracts the noted count and moves in the shadow frame or pops the FIFO. -/
  | objTailRead (n k : Nat) (i : Initiator)
  /-- R178: An object lock lasts LOCK_TIMEOUT_US and is released as a TAIL read would release it. -/
  | lockExpiry (n k : Nat)
  /-- R188: An NMT command addressed to the channel's node changes its NMT state or resets its communication. -/
  | nmtCommand (n cs node : Nat)
  /-- R189: An SDO request is received by a channel's SDO server and submitted to D0, or aborted for a protocol error. -/
  | sdoRequest (n : Nat) (b : Bytes)
  /-- R189: A segmented SDO transfer has had no segment for 1 s and is aborted. -/
  | sdoTimeout (n : Nat)
  /-- R187: The producer heartbeat time passes, and a heartbeat is sent on each channel with CO_ENABLE 1. -/
  | heartbeatProduce
  /-- R193: A consumer heartbeat time passes without a heartbeat from the watched node, and HB_LOST is written. -/
  | hbLost (i : Nat)
  /-- R190: The event timer of a TPDO of type 0xFF expires, and the TPDO is sent. -/
  | tpdoEventTimer (k : Nat)
  /-- R196: A keep-alive is received and validated, and a trigger keep-alive moves its domain or confirms a wake. -/
  | keepaliveReceive (k ty version node flags : Nat)
  /-- R197: KA_PERIOD_MS passes in REQUESTED or LISTENING, and the domain sends a keep-alive. -/
  | keepaliveSend (k : Nat)
  /-- R197: A LISTENING domain sees no trigger keep-alive for QUIET_MS and enters WAITING. -/
  | quietTimeout (k : Nat)
  /-- R197: A WAITING domain's WAIT_MS elapses, and the domain enters AGREED. -/
  | waitTimeout (k : Nat)
  /-- R197: A write to DOM_REQ sets or clears the local request bits and moves domains between REQUESTED and LISTENING. -/
  | domReqWrite (v : Nat)
  /-- R198: A write of 2 to POWER_REQ asks for STANDBY, pending until every domain is OFF or AGREED. -/
  | powerReqStandby
  /-- R198: A write of 3 to POWER_REQ asks for SLEEP, pending until every domain is OFF or AGREED. -/
  | powerReqSleep
  /-- R198: A write of 0 to POWER_REQ cancels a pending request, or aborts an entry before the commit. -/
  | powerReqCancel
  /-- R199: The conditions for STANDBY or SLEEP are met, and entry starts: domains stop sending, load channels turn off and units drain. -/
  | sleepEntry
  /-- R199: Once the drains and the self-refresh entry are done, the vestibule copies the wake configuration and arms its detectors. -/
  | sleepArm
  /-- R201: REGEN is deasserted after arming, the wake-source record is cleared, and the internal bucks stop. -/
  | sleepCommit
  /-- R206: A CAN transceiver in low-power mode detects the ISO 11898-2 wake-up pattern. -/
  | wakePattern (n : Nat) (env : WakeEnv)
  /-- R207: A selective-wake decoder matches a wake-up frame, or its frame error counter overflows. -/
  | wakeFrame (n rate : Nat) (f : Option CanFrame) (env : WakeEnv)
  /-- R206: A WAKE pin holds its wake level for FILTER_CUR. -/
  | wakePin (w : Nat) (high : Bool) (env : WakeEnv)
  /-- R213: A write of 1 to WAKE_REQ over the service port wakes the device or aborts an entry. -/
  | wakeReq (env : WakeEnv)
  /-- R210: A watched interrupt source becomes pending in IDLE or STANDBY and wakes the device. -/
  | watchWake (i : Nat) (env : WakeEnv)
  /-- R208: A write of 1 to a CONFIRM bit confirms a running wake window and resets the source's false-wake state. -/
  | wakeConfirm (v : Nat)
  /-- R209: A wake window FW_WINDOW_MS ends unconfirmed, so the wake is false and the source's filter and quarantine are updated. -/
  | falseWake (n : Nat)
  /-- R209: A write that clears FW_COUNT also resets FILTER_CUR and ends a quarantine. -/
  | fwCountClear (n v : Nat)
  /-- R205: In the ZC2408 model, CMD 1 puts a transceiver into NORMAL. -/
  | trxCmdNormal (n : Nat)
  /-- R205: In the ZC2408 model, CMD 2 puts a transceiver into RX_ONLY. -/
  | trxCmdRxOnly (n : Nat)
  /-- R205: In the ZC2408 model, CMD 3 puts a transceiver into STANDBY. -/
  | trxCmdStandby (n : Nat)
  /-- R205: In the ZC2408 model, CMD 4 puts a transceiver into GO_TO_SLEEP. -/
  | trxCmdGoToSleep (n : Nat)
  /-- R205: After 50 µs in GO_TO_SLEEP without a pattern, the transceiver enters SLEEP. -/
  | goToSleepTimeout (n : Nat)
  /-- R221: A read through a bridge window becomes a READ request of the context. -/
  | bridgeWindowRead (t : Txn)
  /-- R221: A posted write through a D window is queued as a POSTED_WRITE and answered OK. -/
  | bridgeWindowPostedWrite (t : Txn)
  /-- R221: A non-posted write through a D window becomes a WRITE request, answered after its outcome. -/
  | bridgeWindowWrite (t : Txn)
  /-- R221: An atomic through a D window becomes an ATOMIC request, answered after its outcome. -/
  | bridgeWindowAtomic (t : Txn)
  /-- R218: The responder receives a CONNECT, verifies its HMAC against the export's key, and opens a session or refuses it. -/
  | bridgeConnect (u : Nat) (m : BMsg) (mac : Nat)
  /-- R224: The responder checks a READ request and performs it on its concourse. -/
  | bridgeRead (u : Nat) (m : BMsg) (mac : Nat)
  /-- R225: The responder performs a POSTED_WRITE as a non-posted write and records its outcome for the next ACK. -/
  | bridgePostedWrite (u : Nat) (m : BMsg) (mac : Nat)
  /-- R224: The responder checks a WRITE request, performs it and returns its status. -/
  | bridgeWrite (u : Nat) (m : BMsg) (mac : Nat)
  /-- R224: The responder checks an ATOMIC request, performs it and returns the old value. -/
  | bridgeAtomic (u : Nat) (m : BMsg) (mac : Nat)
  /-- R227: The responder submits a DICT_READ to its D0 on the export hall's mailbox path. -/
  | bridgeDictRead (u : Nat) (m : BMsg) (mac : Nat)
  /-- R227: The responder submits a DICT_WRITE to its D0 on the export hall's mailbox path. -/
  | bridgeDictWrite (u : Nat) (m : BMsg) (mac : Nat)
  /-- R229: In EVT_MODE 0 the responder takes an EVENT into the matching endpoint and raises its interrupt. -/
  | bridgeEvent (u : Nat) (m : BMsg) (mac : Nat)
  /-- R226: The responder returns the context status block after every earlier request of the session has completed. -/
  | bridgeStatusRead (u : Nat) (m : BMsg) (mac : Nat)
  /-- R225: The responder answers a request for the current ACK with ACK_SEQ and FAIL_MAP. -/
  | bridgeAckRequest (u : Nat) (m : BMsg) (mac : Nat)
  /-- R225: After 16 posted writes and EVENTs, or 50 µs after an uncovered write, the responder sends an ACK. -/
  | bridgeAckSend (u node unit sid : Nat)
  /-- R219: A requester receives a response and settles its request, or places an orphaned response in the recovery slot. -/
  | bridgeResponse (u : Nat) (m : BMsg)
  /-- R225: A requester receives an ACK and settles each covered posted write as OK or REMOTE_FAILED. -/
  | bridgeAckReceive (u : Nat) (m : BMsg)
  /-- R220: RETRY_US passes without a resolving response, so unresolved requests are retransmitted, or settled with REMOTE_TIMEOUT after RETRIES. -/
  | bridgeRetry (u sid : Nat)
  /-- R223: A write of RSLOT_CLEAR empties the context's recovery slot. -/
  | rslotClear (u k hall v : Nat)
  /-- R228: A write of bits to EVT_SEND queues one EVENT per bit and updates the status block. -/
  | evtSend (u k hall v : Nat)
  /-- R228: A write that changes SIDEBAND_OUT queues one EVENT with the new value and updates the status block. -/
  | sidebandOutWrite (u k hall v : Nat)
  /-- R227: GO in a context's remote mailbox sends a DICT_READ or DICT_WRITE to the responder. -/
  | remoteMbGo (u k hall v : Nat)
  /-- R230: In EVT_MODE 1 the unit polls an endpoint with a STATUS_READ once per POLL_PERIOD_US. -/
  | endpointPoll (u e : Nat)
  /-- R230: A poll's STATUS_READ completes, and the endpoint takes the changed toggle bits or records POLL_FAIL. -/
  | pollResult (u : Nat) (m : BMsg)
  /-- R231: A tunnel's collected ACF_CAN messages reach BATCH, BATCH_US or 2,048 bytes, and one NTSCF PDU is sent. -/
  | tunnelPduSend (t : Nat)
  /-- R231: A unit receives an NTSCF PDU for one of its tunnels and queues its CAN messages for the service transmitter, or drops them. -/
  | tunnelPduReceive (u : Nat) (b : Bytes)
  /-- R237: CMD START claims and arms the cyclic tasks' trigger units, clears the task counters and enters RUN. -/
  | engineStart
  /-- R237: CMD STOP lets each task finish its cycle and enters STOPPING. -/
  | engineStop
  /-- R248: CMD ACK_FAULT clears FAULT_CAUSE and takes the engine from STOP_FAULT to STOPPED. -/
  | engineAckFault
  /-- R258: CMD LOAD checks the alternate scan image, loads the banks and stores it as the active image. -/
  | engineLoad
  /-- R241: A write of bits to EVT_FIRE triggers the event tasks whose EVT_KIND is 2. -/
  | evtFire (v : Nat)
  /-- R243: A task writes DONE, and SE publishes its outputs and starts any pending event run. -/
  | taskDone (x t : Nat)
  /-- R243: A write of FAULT by an executor's trap handler is a task fault and moves the engine to STOP_FAULT. -/
  | taskFault (x v : Nat)
  /-- R247: A run has not written DONE by its deadline, so the engine enters STOP_FAULT and applies safe values. -/
  | deadlineOverrun (ts : List Nat)
  /-- R251: The engine receives an input station frame, checks it, and stores it in its slot or counts it as bad or stale. -/
  | stationFrameReceive (src : Nat) (b : Bytes)
  /-- R255: The retentive save started at power fail completes, and RETAIN_SAVED is written. -/
  | retainSaveComplete
  /-- R261: CHANGE with OP 1 checks the new image by Table 11.1, prepares the alternate banks and enters CHANGING. -/
  | changeStart (v : Nat)
  /-- R262: CHANGE with OP 2 ends a change in progress with ABORTED and returns the engine to RUN. -/
  | changeCancel
  /-- R267: At a common boundary the engine moves variables by tag, applies forces, exchanges banks and updates tasks and slots. -/
  | changeSwitch
  /-- R269: The switch record is durable in SETTINGS, so the change commits and CHANGE_DONE is written. -/
  | changeCommit
  /-- R270: No common boundary occurs within the window, so the change ends with WRONG_STATE. -/
  | changeWindowTimeout
  /-- R275: The standby reports that it has prepared a change, or refuses it, and the active continues or ends the change. -/
  | changeStandbyReady (ready : Bool)
  /-- R275: The standby does not report within STANDBY_READY_MS, so the change ends with REMOTE_TIMEOUT. -/
  | standbyReadyTimeout
  /-- R276: The standby receives COMMIT naming instant I and switches before I, or becomes standby-degraded. -/
  | changeCommitReceive (i : Nat)
  /-- R272: A write of FORCE_SET checks a force record and sets or replaces the force on its tag. -/
  | forceSet (b : Bytes)
  /-- R272: A write of FORCE_RELEASE releases the force on one tag. -/
  | forceRelease (tag : Nat)
  /-- R272: A write of 1 to FORCE_RELEASE_ALL empties the force table. -/
  | forceReleaseAll
  /-- R283: A command with ON 1 takes an OFF channel to INRUSH or ON. -/
  | channelOn (n v : Nat)
  /-- R283: A command with ON 0 opens a channel and resets its retry budget. -/
  | channelOff (n v : Nat)
  /-- R287: A rising CLEAR bit or a write of CLEAR moves a LATCHED channel to OFF and resets its retry budget. -/
  | channelClear (n : Nat)
  /-- R300: A command with PWM_EN 1 switches the channel by PWM with the commanded DUTY. -/
  | channelPwmSet (n v : Nat)
  /-- R300: A PWM period starts, with its open phase and then its closed phase of DUTY. -/
  | pwmPeriodStart (n : Nat)
  /-- R285: A channel's INRUSH_MS window ends, and the limit drops to ILIM_MA as the channel enters ON. -/
  | inrushEnd (n : Nat)
  /-- R284: A channel's load current reaches its limit, and the channel starts limiting and counts LIMIT_EVENTS. -/
  | limitEntry (n : Nat)
  /-- R286: A channel's Tj reaches its shutdown threshold and the channel opens, as a trip or as a coupled trip. -/
  | thermalShutdown (n : Nat) (tj : Int) (delta : Nat)
  /-- R283: A TRIPPED channel's Tj falls to its restart level and RETRY_DELAY_MS has passed, so it restarts in INRUSH. -/
  | retryRestart (n : Nat)
  /-- R291: ΔT falls below the coupling threshold and the channel's own Tj is at or below its restart level, so it restarts from COUPLED_WAIT. -/
  | coupledRestart (n : Nat)
  /-- R291: COUPLED_MAX_MS passes in COUPLED_WAIT, so the channel enters LATCHED with reason 2. -/
  | coupledTimeout (n : Nat)
  /-- R287: A channel has stayed in ON for RETRY_CLEAR_MS without a trip, so RETRIES_LEFT returns to RETRY_MAX. -/
  | retryBudgetReset (n : Nat)
  /-- R289: VBATg falls below its undervoltage threshold, so every channel of the group opens with UV set. -/
  | vbatUndervoltage (g mv : Nat)
  /-- R289: VBATg rises above its rising threshold, and channels in INRUSH or ON restart their inrush window. -/
  | vbatRecover (g mv : Nat)
  /-- R293: A channel detects a conduction of its internal clamp, and counts it and writes CLAMP. -/
  | clampDetect (n : Nat)
  /-- R299: Every 100 ms a channel in OFF checks its output for a short to VBAT and for an open load. -/
  | offStateCheck (n : Nat) (short : Bool) (mv1 : Nat) (isOpen : Bool) (mv2 : Nat)
  /-- R296: The sense sequencer's SETTLE_US passes, and it converts the sense pins on AD1 and moves to the next select code. -/
  | senseStep (p0 p1 p2 : SensePin)
  /-- R305: HOLD_MS after a warm reset passes, and every channel not yet taken opens and HOLD_EXPIRED is written. -/
  | channelHoldExpiry
  /-- R306: A power die receives no valid link transfer for 1 ms and applies every channel's safe value. -/
  | dieLinkTimeout (g : Nat)
  /-- R306: The die link returns after a loss, and LINK_SAFE is written. -/
  | dieLinkReturn (g : Nat)
  /-- R309: The estimated conduction loss exceeds LOSS_LIMIT_MW for 1 s, and LOSS_HIGH is written once per episode. -/
  | lossHigh
  /-- R314: A write of bits to START starts sequences, or keeps them pending, or discards them as overlaps. -/
  | adcStart (a v : Nat)
  /-- R317: A sequence run completes, the results are updated in one step, and the next pending run starts. -/
  | adcRunComplete (a : Nat) (codes : List Nat)
  /-- R313: A RANGE 2 input draws more than 30 mA for 1 ms, so its shunt opens and SHUNT_OFF is set. -/
  | shuntOpen (i : Nat)
  /-- R313: 1 s after the shunt opened, the shunt closes again. -/
  | shuntClose (i : Nat)
  /-- R330: A unit asserts an interrupt source, which becomes pending and may assert the target core's request line. -/
  | interruptSourceAssert (n : Nat)
  /-- R335: A read of CLAIM returns the highest deliverable source, marks it ACTIVE and pushes the running priority. -/
  | claim (k : Nat) (i : Initiator)
  /-- R336: A write of the top source to COMPLETE pops the stack and re-evaluates delivery, or sets CERR. -/
  | complete (k : Nat) (i : Initiator) (v : Nat)
  /-- R337: A write of k to DOORBELL sets source k + 1 pending. -/
  | doorbell (hall v : Nat)
  /-- R339: A claimed source's MOD_US interval ends, and the source may be delivered again. -/
  | moderationExpiry (n : Nat) (m0 : Bool)
  /-- R339: A core enters WFI, and its held sources are released from moderation. -/
  | wfiEnter (k : Nat)
  /-- R325: A write of NHALL on an A-core sets its hall register or raises an exception. -/
  | nhallWrite (k : Nat) (mode : Mode) (v : Nat)
  /-- R329: The checker of a lockstep pair finds a mismatch, halts both cores and blocks the differing request. -/
  | lockstepMismatch (p kind pc : Nat)
  /-- R329: A write of RESET resets both cores of a halted pair and returns STATE to 1. -/
  | pairReset (p : Nat)
  /-- R341: The debug module halts a hart, if the enable that R341 names is in force. -/
  | debugHalt (k : Nat)
  /-- R341: The debug module resumes a halted hart. -/
  | debugResume (k : Nat)
  /-- R341: The debug module single-steps a halted hart. -/
  | debugStep (k : Nat)
  /-- R341: The Access Register abstract command reads or writes a register of a halted hart. -/
  | accessRegister (k reg : Nat) (write : Option Nat)
  /-- R341: The Access Memory abstract command reads or writes memory through a hart. -/
  | accessMemory (k addr size : Nat) (write : Option Nat)
  /-- R341: The debug module reads or writes memory through system bus access. -/
  | systemBusAccess (addr size : Nat) (write : Option Nat)
  /-- R348: The patrol scrubber reads a block of memory on its schedule and corrects or reports errors. -/
  | patrolScrub (a err : Nat)
  /-- R361: A write of TAIL posts descriptors to a DMA channel. -/
  | dmaTailWrite (c hall v : Nat)
  /-- R361: An ENABLED channel with HEAD unequal to TAIL fetches and checks its next descriptor. -/
  | dmaDescriptorFetch (c : Nat)
  /-- R364: At a burst boundary the ready channel of highest priority translates and moves its next burst of at most 512 bytes. -/
  | dmaBurst
  /-- R361: A descriptor completes: STATUS, DONE and CTRL are written back and HEAD advances. -/
  | dmaDescriptorComplete (c : Nat)
  /-- R366: A write of RESUME to a faulted channel invalidates the faulting page and continues from FAULT_DONE. -/
  | dmaResume (c hall : Nat)
  /-- R366: A write of ABORT to a faulted channel completes its descriptor with ABORTED. -/
  | dmaAbort (c hall : Nat)
  /-- R359: A write of 1 to INVAL invalidates a channel's cached translations. -/
  | dmaInval (c hall : Nat)
  /-- R359: Every access translated through the old entries has been answered, and INVAL_BUSY clears. -/
  | dmaInvalComplete (c : Nat)
  /-- R370: A host port picks a queue pair for a copy and writes the frame into its RX ring once a descriptor with OWN 1 is there. -/
  | qpRxFrame (p : Nat)
  /-- R371: A host engine takes a frame from a queue pair's TX ring and presents it to the switch when the headroom has room. -/
  | qpTxFrame (n : Nat)
  /-- R374: CMD CREATE brings an ABSENT hall to RUNNING and increments its epoch. -/
  | hallCreate (h : Nat)
  /-- R376: CMD DESTROY resets the hall, returns its instances to hall 0 and makes it ABSENT. -/
  | hallDestroy (h : Nat)
  /-- R383: CMD RESET resets the hall's units as Table 16.6 states and increments its epoch. -/
  | hallReset (h : Nat)
  /-- R384: CMD FREEZE stops a RUNNING hall's units and waits for it to come to rest. -/
  | hallFreeze (h : Nat)
  /-- R384: A freezing hall's DMA writes, bridge requests and TX frames have ended, so FREEZE completes. -/
  | hallAtRest (h : Nat)
  /-- R374: CMD THAW returns a FROZEN or IN_DOUBT hall to RUNNING. -/
  | hallThaw (h : Nat)
  /-- R385: CMD SAVE writes the hall's state record into HALL_STATE. -/
  | hallSave (h : Nat)
  /-- R386: CMD RESTORE checks HALL_STATE and loads the hall's instances and epochs, leaving it FROZEN. -/
  | hallRestore (h : Nat)
  /-- R387: CMD MIGRATE checks the migration, asks the partner to accept, and starts pre-copy. -/
  | hallMigrate (h : Nat) (rsp : Option Status)
  /-- R389: CMD GO starts the blackout that moves a hall to the partner. -/
  | hallGo (h : Nat)
  /-- R374: CMD CANCEL ends a pre-copy with ABORTED and returns the hall to RUNNING. -/
  | hallCancel (h : Nat)
  /-- R382: CMD FAULT raises a hall fault of cause 3. -/
  | hallFaultCmd (h : Nat)
  /-- R382: A write of 1 to WDT_KICK restarts the hall watchdog. -/
  | hallWdtKick (h hall v : Nat)
  /-- R382: The hall watchdog expires, a hall fault of cause 2 is raised, and the hall is FAULTED or reset. -/
  | hallWdtExpiry (h : Nat)
  /-- R380: A write of DOORBELL by hall 0 to a hall page sets the hall's DOORBELL line. -/
  | hallDoorbell (h hall v : Nat)
  /-- R387: The partner accepts a migration, and its hall enters ARRIVING. -/
  | migAccept (h : Nat) (insts : List (Nat × Nat)) (ccores : Nat) (windows : Bytes)
  /-- R388: A pre-copy pass completes, and MIG_READY is written, or a further pass starts, or the migration ends with BUSY. -/
  | migPassComplete
  /-- R389: The partner receives the final pass and the state record, restores the hall and answers READY. -/
  | migStateReceived (h : Nat) (pages : List (Nat × Bytes)) (record : Bytes)
  /-- R389: The source receives READY, sends COMMIT and makes its hall ABSENT. -/
  | migReadyReceive (st : Status)
  /-- R389: The partner receives COMMIT, sets the hall RUNNING and writes MIG_DONE. -/
  | migCommitReceive (h : Nat)
  /-- R390: The partner receives no COMMIT for 10 ms after a link failure and discards the hall, or holds it IN_DOUBT. -/
  | migCommitTimeout (h : Nat) (sent : Bool)
  /-- R396: A secure-world write sets and locks a watermark, or is refused. -/
  | watermarkWrite (i v : Nat) (reg : Bool)
  /-- R398: A secure-world write of VALID 1 takes a lease on a gate. -/
  | leaseTake (i g : Nat) (reg : Bool)
  /-- R400: A secure-world write of VALID 0 releases a lease, and a leased DMA channel is disabled. -/
  | leaseRelease (i : Nat) (reg : Bool)
  /-- R404: A write of 1 to CLEAR empties a key slot after its jobs and closes the sessions derived from it. -/
  | keyClear (k : Nat)
  /-- R405: The crypto unit takes the next job with OWN 1 from its ring and checks it by R406. -/
  | cryptoJobStart
  /-- R405: Job OP 1 encrypts with AES-256-GCM and writes the tag. -/
  | cryptoGcmEncrypt
  /-- R405: Job OP 2 decrypts with AES-256-GCM and checks the tag. -/
  | cryptoGcmDecrypt
  /-- R405: Job OP 3 computes a SHA-256 digest. -/
  | cryptoSha256
  /-- R405: Job OP 4 computes a SHA-384 digest. -/
  | cryptoSha384
  /-- R405: Job OP 5 computes HMAC-SHA-256. -/
  | cryptoHmac
  /-- R405: Job OP 6 verifies an ECDSA P-256 signature. -/
  | cryptoP256Verify
  /-- R405: Job OP 7 verifies an ECDSA P-384 signature. -/
  | cryptoP384Verify
  /-- R405: Job OP 8 signs with ECDSA P-256 and deterministic nonces. -/
  | cryptoP256Sign
  /-- R405: Job OP 9 signs with ECDSA P-384 and deterministic nonces. -/
  | cryptoP384Sign
  /-- R405: Job OP 10 writes random bytes from the entropy source. -/
  | cryptoRandom
  /-- R405: Job OP 11 moves data as the mezzanine DMA. -/
  | cryptoCopy
  /-- R406: A crypto job completes and writes its STATUS, then the next job starts. -/
  | cryptoJobComplete
  /-- R407: A secure-world write of LC_ADVANCE programs the fuses from DEVELOP to PRODUCTION. -/
  | lcAdvance
  /-- R409: A valid return token moves the lifecycle to RETURNED, erasing keys and secure memory. -/
  | returnToken (b pub : Bytes)
  /-- R409: A debug token is checked and turns on the enables it names, or is refused, and DBG_CHALLENGE is renewed. -/
  | debugToken (b pub : Bytes)
  /-- R410: A secure-world write of KEY_REVOKE sets the revoke bit of one fuse key. -/
  | keyRevoke (i : Nat)
  /-- R411: A secure-world write of ROLLBACK_SET blows rollback fuse bits up to the value. -/
  | rollbackSet (n : Nat)
  /-- R412: A secure-world write of 0x0000_C35A to KICK restarts the secure watchdog. -/
  | swdtKick (v : Nat)
  /-- R414: The secure watchdog reaches half its period and raises M0 source 5. -/
  | swdtHalfPeriod
  /-- R413: The secure watchdog expires, records cause SWDT and starts a chip reset. -/
  | swdtExpired (env : BootEnv)
  /-- R418: A reference source's detector first reports it stable. -/
  | sourceStable (src : Nat)
  /-- R419: A PLL phase-locks to its reference. -/
  | pllLock (k : Nat)
  /-- R420: The RCO trim source in use changes, and RCO_TRIM is written. -/
  | rcoTrim (err : Int)
  /-- R421: Spread-spectrum modulation ends at the end of its period, and a waiting CAN, ADC or PWM start proceeds. -/
  | sscEnd
  /-- R422: The clock monitor trips on a source, and the domains fed from it stop and switch to a fallback. -/
  | clkTrip (src cause : Nat)
  /-- R427: A REF_SEL APPLY or a revert starts the stop-handover-restart switch of a clocked domain. -/
  | domainSwitch (k : Nat)
  /-- R427: The islands of a switched domain restart, and the raw counter gains 480 ns after a TB switch. -/
  | domainSwitchComplete (k : Nat)
  /-- R429: The stop handshake times out after 16 cycles of the new reference, and the switch is forced and the domain marked UNCERTAIN. -/
  | forcedSwitch (k : Nat)
  /-- R423: A domain's REF_SEL source has been stable for REVERT_S, and the domain switches back to it. -/
  | revertTimeout (k : Nat)
  /-- R425: 40 µs pass after a trip with no stable fallback, and the device enters the reference-loss safe state. -/
  | refLoss
  /-- R426: A source has been stable for 100 µs, so the device restarts its domains and leaves the reference-loss safe state. -/
  | refLossEnd
  /-- R432: A gate write with REQ 1 turns a gate and its ancestors on. -/
  | gateOn (g v : Nat) (secure : Bool)
  /-- R432: A gate write with REQ 0 is checked by Table 18.8 and turns the gate off. -/
  | gateOff (g v : Nat) (secure : Bool)
  /-- R431: A gate with AUTO 1 parks while its unit is idle. -/
  | gatePark (g : Nat)
  /-- R431: A demand reaches a parked unit, and its gate returns to ON within 1 µs. -/
  | gateUnpark (g : Nat)
  /-- R441: VAUX rises through VAUX_ON after VAUX_POR, so cold reset is released and start-up begins. -/
  | vauxOn (env : BootEnv)
  /-- R441: VAUX falls below VAUX_POR, and cold reset is asserted. -/
  | vauxPor
  /-- R442: RESET_N is low for at least 1 µs, and a chip reset starts. -/
  | resetNLow
  /-- R442: RESET_N rises after a chip reset, and start-up begins. -/
  | resetNHigh (env : BootEnv)
  /-- R442: A fatal fault of Table 19.5 is detected, and a chip reset starts within 10 µs. -/
  | fatalFault (detail rail mv : Nat) (env : BootEnv)
  /-- R442: After an overtemperature chip reset, the logic-die Tj falls below 115 °C and start-up begins. -/
  | overtempClear (env : BootEnv)
  /-- R443: A write of 1 to WARM_RESET sends its response and starts a warm reset. -/
  | warmReset (secure : Bool) (ms : Nat)
  /-- R443: The resident M-mode firmware traps within its own handler or reports fatal, and a warm reset is requested. -/
  | aCoreFatal (core ms : Nat)
  /-- R444: A write of UNIT_RESET resets one unit or load group to its reset state. -/
  | unitReset (v : Nat) (secure : Bool)
  /-- R448: VAUX falls below the power-fail threshold past the filter, so the cores stop and the retentive save starts. -/
  | powerFail
  /-- R450: VAUX has stayed above threshold + 0.5 V for PF_RECOVER_MS, so the cores resume and PF_STATE returns to 0. -/
  | powerRestored
  /-- R453: A service-port WRITE_FRAME transaction delivers a request frame, or is discarded with FRAME_ERR. -/
  | spWriteFrame (len : Nat) (b : Bytes) (env : WakeEnv)
  /-- R453: A service-port READ_FRAME transaction clocks out the waiting response. -/
  | spReadFrame (whole : Bool)
  /-- R452: A service-port READ_STATUS transaction returns the status byte. -/
  | spReadStatus
  /-- R468: The storage unit fetches a ring descriptor with OWN 1 and checks it by Table 20.6. -/
  | storageDescriptorFetch (h : Nat)
  /-- R468: Storage OP 1 reads sectors of the hall's partition into a buffer. -/
  | storageRead (h i n : Nat) (w : NandWork)
  /-- R471: Storage OP 2 writes sectors of the hall's partition. -/
  | storageWrite (h i n : Nat) (w : NandWork)
  /-- R468: Storage OP 3 trims sectors of the partition. -/
  | storageTrim (h i : Nat)
  /-- R471: Storage OP 4 completes once every earlier completed command is durable. -/
  | storageFlush (h i : Nat)
  /-- R469: Storage OP 5 appends sectors to LOG at LOG_NEXT. -/
  | storageAppend (i n : Nat) (w : NandWork)
  /-- R468: Storage OP 6 reads bytes of LOG at a byte offset. -/
  | storageLogRead (i n : Nat) (w : NandWork)
  /-- R468: A storage command completes and is written back in ring order, with IRQ or STORAGE_IRQ. -/
  | storageCmdComplete (h i : Nat)
  /-- R465: Every 100 ms, or when 2,048 records wait, the event-log buffer is committed to EVENTS. -/
  | eventLogCommit
  /-- R463: A block reaches 100,000 reads or fails scrub limits, and its data is copied and the block erased. -/
  | blockRefresh (w : NandWork)
  /-- R463: The retention scrub reads a programmed block on its SCRUB_DAYS schedule. -/
  | retentionScrub (refresh : Bool) (w : NandWork)
  /-- R472: The translation layer is mounted from its journal after a cold or chip reset, and MOUNT is written. -/
  | storageMount (ms : Nat) (unclean : Bool)
  /-- R466: A write of 1 to ERASE trims a whole partition. -/
  | partitionErase (h : Nat)
  /-- R477: STAGING_CMD 1 arms a WRITTEN staging image. -/
  | stagingArm
  /-- R477: STAGING_CMD 2 abandons any transfer and sets STAGING_STATE to EMPTY. -/
  | stagingDiscard
  /-- R482: A write of CONFIRM sets CONFIRMED and advances the rollback counter if ADVANCE asks. -/
  | imageConfirm
  /-- R481: A write of RETRY_ACTIVE under the rescue image sets FAILED_STARTS to 0. -/
  | retryActive
  /-- R489: Every 50 µs with TWIN_EN 1 and FAULT_N high, TWIN_ALIVE_OUT toggles. -/
  | twinAliveToggle
  /-- R489: TWIN_ALIVE_IN shows no edge for 1 ms and counts as absent. -/
  | twinAliveLost
  /-- R504: TWIN_FLT_N counts as low, and the device acts on the first row of Table 22.9. -/
  | twinFltLow
  /-- R490: A write of LIVE_KICK restarts the liveness time and ends that cause of FAULT_N low. -/
  | liveKick
  /-- R490: LIVE_MS passes without LIVE_KICK, so FAULT_N goes low. -/
  | livenessTimeout
  /-- R493: Every 1 ms until authenticated, a gallery lane sends HELLO. -/
  | galleryHelloSend (n : Nat)
  /-- R493: A lane receives and verifies the partner's HELLO and derives the lane key. -/
  | galleryHelloReceive (n : Nat) (w : Bytes)
  /-- R494: A lane receives a DATA frame and accepts it by tag and SEQ, or drops it. -/
  | galleryDataReceive (n : Nat) (w : Bytes)
  /-- R495: Every 100 µs, each device sends HEARTBEAT on each gallery lane that is up. -/
  | heartbeatSend
  /-- R495: A HEARTBEAT from the partner is received, and the partner's role and flags are updated. -/
  | heartbeatReceive (n epoch role flags state change activeId forceGen : Nat)
  /-- R504: No gallery heartbeat arrives for 1 ms, and the device acts on Table 22.9. -/
  | heartbeatLost
  /-- R504: 200 µs after TWIN_FLT_N falls with no heartbeat, the device decides to promote. -/
  | promoteWaitTimeout
  /-- R499: CMD ATTACH on a DETACHED device sends ATTACH_REQ and enters JOINING. -/
  | twinCmdAttach
  /-- R510: CMD DETACH sends DETACH and makes the device DETACHED, or makes an active SOLO. -/
  | twinCmdDetach
  /-- R509: CMD HANDOVER on an ACTIVE device finds a boundary and offers the role to the standby. -/
  | twinCmdHandover
  /-- R500: The active checks an ATTACH_REQ by Table 22.8 and answers ATTACH_RSP. -/
  | attachReqReceive (node compat pos activeId : Nat) (digest : Bytes)
  /-- R500: A joiner receives ATTACH_RSP and proceeds or returns to DETACHED. -/
  | attachRspReceive (node status : Nat)
  /-- R500: At a common boundary the active copies its snapshot and sends it as STATE of kind 2. -/
  | attachSnapshot
  /-- R500: The joiner receives STATE messages, loads the image or snapshot, and enters STANDBY at LAST. -/
  | stateMessageReceive (q kind epoch off : Nat) (last : Bool) (b : Bytes)
  /-- R501: The standby receives a task's INPUTS and starts its run when they are complete. -/
  | inputsReceive (q t cycle startNs off : Nat) (last : Bool) (b : Bytes)
  /-- R501: The standby compares its own output CRC with OUTPUT_CRC and counts mismatches. -/
  | outputCrcReceive (t cycle crc : Nat)
  /-- R501: The standby receives RETAIN lines and applies them after its own run. -/
  | retainReceive (q : Nat) (b : Bytes)
  /-- R501: The standby receives the next sequence numbers of the SEQ_GEN streams. -/
  | streamsReceive (q : Nat) (b : Bytes)
  /-- R501: The standby receives the active's force table. -/
  | forcesReceive (q gen : Nat) (b : Bytes)
  /-- R502: A standby receives DETACH and becomes DETACHED. -/
  | detachReceive
  /-- R509: A HANDOVER message of STEP 1, 2 or 3 is received and the handover proceeds. -/
  | handoverReceive (step instant : Nat)
  /-- R509: STEP 3 was sent but the partner still shows STANDBY at I + 1 ms, so the sender resumes as ACTIVE. -/
  | handoverTimeout
  /-- R505: Every 500 µs a device with TWIN_EN 1 sends BEACON to BLOCK_MAC. -/
  | beaconSend
  /-- R505: A block controller receives a BEACON and updates NODE_ROLE. -/
  | beaconReceive (node role epoch : Nat)
  /-- R505: With both paths absent, the device reads the partner's NODE_ROLE record from the block controller. -/
  | partnerQuery
  /-- R505: The partner query completes, and the device promotes or holds and writes SPLIT_PATH. -/
  | partnerQueryResult (ok : Bool) (v : Nat)
  /-- R506: The device decides to promote and takes the next role epoch. -/
  | promote
  /-- R506: The new epoch is durable, so the device becomes SOLO, resumes publication and writes PROMOTED. -/
  | promoteComplete
  /-- R192: A channel in BUS state 3 (integrating) sees the recessive run that ends integration and becomes error-active. -/
  | canIntegrationEnd (n : Nat)
  /-- R284: A limiting channel's load current falls below its limit, and the LIMITING flag clears. -/
  | limitingEnd (n : Nat)
  /-- R387: The partner gives no answer to MIGRATE within 100 ms, and MIGRATE completes with REMOTE_TIMEOUT. -/
  | migrateAcceptTimeout
  /-- R390: A partner holding a hall IN_DOUBT receives the source's report on the commit, and sets the hall RUNNING or discards it. -/
  | inDoubtAnswer (h : Nat) (committed : Bool)
  /-- R499: A DETACHED device that was refused attach sends ATTACH_REQ again after 1 s while AUTO_ATTACH is 1. -/
  | attachRetry
  /-- R500: An attach finds no common boundary within the window of R270, and it ends with WRONG_STATE, returning the joiner to DETACHED. -/
  | attachWindowTimeout
  /-- R275: The standby receives the pending image and the CHANGE word from the active, checks them by Table 11.1 and prepares. -/
  | standbyChangeReceive (word : Nat) (img : Bytes)
  /-- R509: No STEP 2 accept arrives before I − 50 µs, and the handover ends with REMOTE_TIMEOUT with nothing changed. -/
  | handoverAcceptTimeout
  /-- R497: A DICT control message from the partner is received and queued on the gallery dictionary path, or answered from the cached response. -/
  | galleryDictRequest (b : Bytes)
  /-- R496: An ACK control message is received over the gallery link and settles the covered posted messages. -/
  | galleryAckReceive (q map : Nat)
  /-- R496: After 16 posted messages, or 50 µs after an uncovered one, the gallery receiver sends an ACK. -/
  | galleryAckSend
  /-- R496: GAL_TIMEOUT_US passes without an outcome for a posted gallery message, which settles as REMOTE_TIMEOUT with POSTED_FAIL. -/
  | galleryOutcomeTimeout
  /-- R489: Edges arrive again on TWIN_ALIVE_IN, so it counts as present, which abandons a running promotion query. -/
  | twinAliveEdge
  /-- R504: TWIN_FLT_N rises again when the partner releases FAULT_N, and PATHS [2] clears. -/
  | twinFltHigh
  /-- R70: D0 receives a broadcast ARP request or IPv6 neighbour solicitation for a configured address and answers it. -/
  | arpRequest (v6 : Bool) (target mac vlan ip : Nat)
  /-- R433: In IDLE with RUN_EN of gate 5 at 1, 10 µs pass without a DRAM access and DRAM enters self-refresh. -/
  | dramIdleSelfRefresh
  deriving DecidableEq, Repr

end Sys2Proof
end

