-- ==== Sys2Proof/Decode.lean ====
section
/-! DEFINITION. The command a word spells by the table's bits. No row of the table gives its command any bits, so no word spells one
(assumption 2). -/

namespace Sys2Proof

/-- The command that an `nbits`-bit word `w` spells: none, since the table gives no bits. -/
def decodeTableWord (_nbits _w : Nat) : Option Instr := none

end Sys2Proof
end

