-- ==== Sys2Proof/Config.lean ====
section
/-! DEFINITION. The free values: what the manual leaves to chance or does not state. They have no body, so nothing can be proved
about a particular one. -/

namespace Sys2Proof

/-- The value the manual leaves open, for the `n`-th time one is drawn, as a value of `w` bits. Each draw advances the counter
`free` of the state, so no two draws are linked. Used for device nonces (R72), DBG_CHALLENGE (R409), random bytes (R405) and for
values the manual does not state (DESIGN CHOICE, assumption 3). -/
opaque Config.freeValue (n w : Nat) : BitVec w

/-- The bytes of a MIGRATE message of kind `k` about hall `h` that carries `b`: the manual does not lay it out (R387, Table 22.6;
DESIGN CHOICE, assumption 3). -/
opaque Config.migrateBody (k h : Nat) (b : Bytes) : Bytes

end Sys2Proof
end

