-- ==== Sys2Proof/Machine/Bits.lean ====
section
/-! DEFINITION. Bit fields, two's complement, serial-number order (R50), saturation, byte strings and the CRC-32 of IEEE 802.3. -/

namespace Sys2Proof.Machine

/-- `x` modulo 2 to the `w`. -/
def wrap (w x : Nat) : Nat := x % 2 ^ w

/-- Bit `i` of `x`. -/
def bit (x i : Nat) : Bool := x / 2 ^ i % 2 == 1

/-- Bits `hi` to `lo` of `x`. -/
def bits (x hi lo : Nat) : Nat := x / 2 ^ lo % 2 ^ (hi + 1 - lo)

/-- `x` with bits `hi` to `lo` replaced by the low bits of `v`. -/
def setBits (x hi lo v : Nat) : Nat :=
  x / 2 ^ (hi + 1) * 2 ^ (hi + 1) + v % 2 ^ (hi + 1 - lo) * 2 ^ lo + x % 2 ^ lo

/-- `x` with bit `i` set to `b`. -/
def setBit (x i : Nat) (b : Bool) : Nat := setBits x i i (if b then 1 else 0)

/-- 1 for true. -/
def b2n (b : Bool) : Nat := if b then 1 else 0

/-- The two's-complement reading of the low `w` bits. -/
def toInt (w x : Nat) : Int :=
  let y := x % 2 ^ w
  if y < 2 ^ (w - 1) then (y : Int) else (y : Int) - 2 ^ w

/-- The low `w` bits of an integer. -/
def ofInt (w : Nat) (x : Int) : Nat := (x % (2 ^ w : Int)).toNat

/-- Saturate at all ones of `w` bits (R49). -/
def sat (w x : Nat) : Nat := min x (2 ^ w - 1)

/-- Serial-number order of R50: `a` is before `b`. -/
def before (w a b : Nat) : Bool :=
  let d := (b + 2 ^ w - a % 2 ^ w) % 2 ^ w
  decide (1 ≤ d) && decide (d ≤ 2 ^ (w - 1) - 1)

/-- The bits of `x` that are set in `m` cleared (w1c of Table 0.5), over `w` bits. -/
def clearBits (w x m : Nat) : Nat := (BitVec.ofNat w x &&& ~~~ BitVec.ofNat w m).toNat

/-- Bitwise or. -/
def orBits (x y : Nat) : Nat := x ||| y

/-- Number of set bits among the low `w`. -/
def popCount (w x : Nat) : Nat := ((List.range w).filter (bit x)).length

/-- The little-endian bytes of `x`. -/
def le : Nat → Nat → Bytes
  | 0, _ => []
  | n + 1, x => BitVec.ofNat 8 x :: le n (x / 256)

/-- The number a little-endian byte string spells. -/
def ofLe : Bytes → Nat
  | [] => 0
  | b :: r => b.toNat + 256 * ofLe r

/-- The big-endian bytes of `x`. -/
def be (n x : Nat) : Bytes := (le n x).reverse

/-- The number a big-endian byte string spells. -/
def ofBe (b : Bytes) : Nat := ofLe b.reverse

/-- `n` bytes from byte `i`; a string that is too short reads 0 past its end. -/
def slice (b : Bytes) (i n : Nat) : Bytes :=
  let s := (b.drop i).take n
  s ++ List.replicate (n - s.length) 0#8

/-- The little-endian number in bytes `i` to `i + n - 1`. -/
def leAt (b : Bytes) (i n : Nat) : Nat := ofLe (slice b i n)

/-- `b` with the bytes from `i` replaced by `v`. -/
def patch (b : Bytes) (i : Nat) (v : Bytes) : Bytes := slice b 0 i ++ v ++ b.drop (i + v.length)

/-- Bytes of a list of small numbers. -/
def bytesOf (l : List Nat) : Bytes := l.map (BitVec.ofNat 8)

/-- `n` zero bytes. -/
def zeros (n : Nat) : Bytes := List.replicate n 0#8

/-- Bitwise exclusive or of two byte strings. -/
def xorBytes (a b : Bytes) : Bytes := List.zipWith (· ^^^ ·) a b

/-- One bit of the reflected CRC-32 of IEEE 802.3. -/
def crcBit (c : BitVec 32) : BitVec 32 := if c.getLsbD 0 then (c >>> 1) ^^^ 0xEDB88320#32 else c >>> 1

/-- One byte of the CRC. -/
def crcByte (c : BitVec 32) (b : Byte) : BitVec 32 :=
  (List.range 8).foldl (fun x _ => crcBit x) (c ^^^ b.setWidth 32)

/-- CRC-32 of a byte string with the IEEE 802.3 polynomial. -/
def crc32 (b : Bytes) : Nat := (~~~ (b.foldl crcByte 0xFFFFFFFF#32)).toNat

/-- Update the element at `i`. -/
def listSet {α : Type} (l : List α) (i : Nat) (v : α) : List α := l.set i v

/-- `a` is before `b`, for sequence numbers of 64 bits (R50). -/
def before64 (a b : Nat) : Bool :=
  let n := (b + 2 ^ 64 - a % 2 ^ 64) % 2 ^ 64
  n != 0 && decide (n < 2 ^ 63)

end Sys2Proof.Machine
end

