-- ==== Sys2Proof/Machine/DictTypes.lean ====
section
/-! DEFINITION. The shapes of the dictionary's and the registers' description: data types (Table 3.1), access codes (Table 0.5),
notes, rows and the named entries and fields that the meanings use. -/

namespace Sys2Proof.Machine

/-- Data types of Table 3.1 that the device's entries use; `oct` and `dom` carry the length the Notes state. -/
inductive Ty where
  | u8 | u16 | u32 | u64 | i8 | i16 | i32 | i64 | oct (n : Nat) | dom (max : Nat) | str (max : Nat)
  deriving DecidableEq, Repr

/-- The type code of Table 3.1. -/
def Ty.code : Ty → Nat
  | .u8 => 0x05 | .u16 => 0x06 | .u32 => 0x07 | .u64 => 0x1B | .i8 => 0x02 | .i16 => 0x03 | .i32 => 0x04 | .i64 => 0x15
  | .oct _ => 0x0A | .dom _ => 0x0F | .str _ => 0x09

/-- Length in bytes of an integer type; `none` for strings and domains. -/
def Ty.bytes : Ty → Option Nat
  | .u8 | .i8 => some 1 | .u16 | .i16 => some 2 | .u32 | .i32 => some 4 | .u64 | .i64 => some 8 | _ => none

/-- The integer type is two's-complement signed. -/
def Ty.signed : Ty → Bool
  | .i8 | .i16 | .i32 | .i64 => true | _ => false

/-- Access codes of Table 0.5 (R8). -/
inductive Acc where
  | ro | rw | wo | w1c | rc | rws | const
  deriving DecidableEq, Repr

/-- What a Notes column grants or states. -/
inductive Note where
  | volatile | allHalls | owningHall | vestibule | secureOnly | keptInSettings | group
  deriving DecidableEq, Repr

/-- One row of an entry table, over `count` indices `stride` apart and `subs` subindices `subStride` apart; `spans` are the
accepted values, which must also be multiples of `step`. -/
structure DictRow where
  base : Nat
  count : Nat
  stride : Nat
  sub : Nat
  subs : Nat
  subStride : Nat
  ty : Ty
  acc : Acc
  dflt : Int
  spans : List (Int × Int)
  step : Nat
  notes : List Note
  deriving DecidableEq, Repr

/-- A named integer or string entry: index, subindex, width in bits (0 for a domain) and default. -/
structure Entry where
  idx : Nat
  sub : Nat
  bits : Nat
  dflt : Nat
  deriving DecidableEq, Repr

/-- The key of an entry in the dictionary store. -/
def Entry.key (e : Entry) : Nat := e.idx * 256 + e.sub

/-- One field of a register table: instances, offset, bits, access code and reset value. -/
structure RegRow where
  base : Nat
  dims : List (Nat × Nat)
  off : Nat
  hi : Nat
  lo : Nat
  acc : Acc
  reset : Nat
  deriving DecidableEq, Repr

/-- A named register field: the word's address, the field's bits and the word's reset value. -/
structure Field where
  addr : Nat
  hi : Nat
  lo : Nat
  wordReset : Nat
  deriving DecidableEq, Repr

end Sys2Proof.Machine
end

