-- ==== Sys2Proof/Machine/Entries.lean ====
section
/-! DEFINITION. The manual's names for dictionary entries, as `Entry` constants: the entry's index and subindex, its width in
bits and its default. An argument is the instance number the manual writes in the index (port, channel, unit, hall ...). R56. -/

namespace Sys2Proof.Machine.Ent

def Co.DEVICE_TYPE : Entry := ⟨0x1000, 0x0, 32, 0⟩
def Co.ERROR_REGISTER : Entry := ⟨0x1001, 0x0, 8, 0⟩
def Co.DEVICE_NAME : Entry := ⟨0x1008, 0x0, 0, 0⟩
def Co.HW_VERSION : Entry := ⟨0x1009, 0x0, 0, 0⟩
def Co.SW_VERSION : Entry := ⟨0x100A, 0x0, 0, 0⟩
def Co.STORE (i : Nat) : Entry := ⟨0x1010, 0x1 + i, 32, 1⟩
def Co.RESTORE (i : Nat) : Entry := ⟨0x1011, 0x1 + i, 32, 1⟩
def Co.HB_CONSUMERS : Entry := ⟨0x1016, 0x0, 8, 32⟩
def Co.CONSUMER_HB (i : Nat) : Entry := ⟨0x1016, 0x1 + i, 32, 0⟩
def Co.PRODUCER_HB : Entry := ⟨0x1017, 0x0, 16, 1000⟩
def Co.VENDOR_ID : Entry := ⟨0x1018, 0x1, 32, 0⟩
def Co.PRODUCT_CODE : Entry := ⟨0x1018, 0x2, 32, 18454⟩
def Co.REVISION : Entry := ⟨0x1018, 0x3, 32, 0⟩
def Co.SERIAL : Entry := ⟨0x1018, 0x4, 32, 0⟩
def Co.SDO_RX_COB (n : Nat) : Entry := ⟨0x1200 + n, 0x1, 32, 1537⟩
def Co.SDO_TX_COB (n : Nat) : Entry := ⟨0x1200 + n, 0x2, 32, 1409⟩
def Co.RPDO_COB (n : Nat) : Entry := ⟨0x1400 + n, 0x1, 32, 2147483648⟩
def Co.RPDO_TYPE (n : Nat) : Entry := ⟨0x1400 + n, 0x2, 8, 255⟩
def Co.RPDO_INHIBIT (n : Nat) : Entry := ⟨0x1400 + n, 0x3, 16, 0⟩
def Co.RPDO_EVENT_TIMER (n : Nat) : Entry := ⟨0x1400 + n, 0x5, 16, 0⟩
def Co.RPDO_CHANNEL (n : Nat) : Entry := ⟨0x1400 + n, 0x20, 8, 0⟩
def Co.RPDO_SLOT (n : Nat) : Entry := ⟨0x1400 + n, 0x21, 16, 65535⟩
def Co.RPDO_MAP_COUNT (n : Nat) : Entry := ⟨0x1600 + n, 0x0, 8, 0⟩
def Co.RPDO_MAP (n : Nat) (i : Nat) : Entry := ⟨0x1600 + n, 0x1 + i, 32, 0⟩
def Co.TPDO_COB (n : Nat) : Entry := ⟨0x1800 + n, 0x1, 32, 2147483648⟩
def Co.TPDO_TYPE (n : Nat) : Entry := ⟨0x1800 + n, 0x2, 8, 255⟩
def Co.TPDO_INHIBIT (n : Nat) : Entry := ⟨0x1800 + n, 0x3, 16, 0⟩
def Co.TPDO_EVENT_TIMER (n : Nat) : Entry := ⟨0x1800 + n, 0x5, 16, 0⟩
def Co.TPDO_CHANNEL (n : Nat) : Entry := ⟨0x1800 + n, 0x20, 8, 0⟩
def Co.TPDO_SLOT (n : Nat) : Entry := ⟨0x1800 + n, 0x21, 16, 65535⟩
def Co.TPDO_MAP_COUNT (n : Nat) : Entry := ⟨0x1A00 + n, 0x0, 8, 0⟩
def Co.TPDO_MAP (n : Nat) (i : Nat) : Entry := ⟨0x1A00 + n, 0x1 + i, 32, 0⟩
def Mod.STRAPS : Entry := ⟨0x2002, 0x1, 8, 0⟩
def Ndp.UDP_PORT : Entry := ⟨0x2010, 0x1, 16, 48211⟩
def Ndp.IPV4_ADDR : Entry := ⟨0x2010, 0x2, 32, 0⟩
def Ndp.IPV6_ADDR : Entry := ⟨0x2010, 0x4, 128, 0⟩
def Ndp.MGMT_VLAN : Entry := ⟨0x2010, 0x5, 16, 0⟩
def Ndp.IDLE_TIMEOUT_S : Entry := ⟨0x2010, 0x6, 16, 30⟩
def Ndp.SESSIONS_OPEN : Entry := ⟨0x2010, 0x7, 8, 0⟩
def Ndp.RX_REQUESTS : Entry := ⟨0x2010, 0x8, 64, 0⟩
def Ndp.RX_DROPPED : Entry := ⟨0x2010, 0x9, 64, 0⟩
def Ndp.COUNTER_SAT : Entry := ⟨0x2010, 0xA, 8, 0⟩
def Ndp.APPLY_STATUS : Entry := ⟨0x2010, 0xFD, 32, 0⟩
def Ndp.APPLY : Entry := ⟨0x2010, 0xFE, 8, 0⟩
def Bind.ENABLE (n : Nat) : Entry := ⟨0x2020 + n, 0x1, 8, 0⟩
def Bind.HALL (n : Nat) : Entry := ⟨0x2020 + n, 0x2, 8, 0⟩
def Bind.MODE (n : Nat) : Entry := ⟨0x2020 + n, 0x3, 8, 1⟩
def Bind.KEY_SLOT (n : Nat) : Entry := ⟨0x2020 + n, 0x4, 8, 0⟩
def Bind.MAX_SESSIONS (n : Nat) : Entry := ⟨0x2020 + n, 0x5, 8, 4⟩
def Bind.APPLY_STATUS (n : Nat) : Entry := ⟨0x2020 + n, 0xFD, 32, 0⟩
def Bind.APPLY (n : Nat) : Entry := ⟨0x2020 + n, 0xFE, 8, 0⟩
def Pwr.POWER_STATE : Entry := ⟨0x2100, 0x1, 8, 0⟩
def Pwr.RESET_REASON : Entry := ⟨0x2100, 0x2, 32, 65536⟩
def Pwr.WARM_RESET : Entry := ⟨0x2100, 0x3, 8, 0⟩
def Pwr.UNIT_RESET : Entry := ⟨0x2100, 0x4, 16, 0⟩
def Pwr.PF_STATE : Entry := ⟨0x2100, 0x5, 8, 0⟩
def Pwr.VAUX_MV : Entry := ⟨0x2100, 0x6, 16, 0⟩
def Pwr.VIO_STATUS : Entry := ⟨0x2100, 0x7, 8, 0⟩
def Pwr.BOOT_MS : Entry := ⟨0x2100, 0x8, 16, 0⟩
def Pwr.POWER_FAILS : Entry := ⟨0x2100, 0x9, 64, 0⟩
def Pwr.RECOVERIES : Entry := ⟨0x2100, 0xA, 64, 0⟩
def Pwr.CHIP_RESETS : Entry := ⟨0x2100, 0xB, 64, 0⟩
def Pwr.WARM_RESETS : Entry := ⟨0x2100, 0xC, 64, 0⟩
def Pwr.UNIT_RESETS : Entry := ⟨0x2100, 0xD, 64, 0⟩
def Pwr.SP_FRAME_ERRORS : Entry := ⟨0x2100, 0xE, 64, 0⟩
def Pwr.COUNTER_SAT : Entry := ⟨0x2100, 0x10, 8, 0⟩
def Pf.PF_THRESH_MV : Entry := ⟨0x2101, 0x1, 16, 8500⟩
def Pf.PF_RECOVER_MS : Entry := ⟨0x2101, 0x2, 16, 10⟩
def Pf.APPLY_STATUS : Entry := ⟨0x2101, 0xFD, 32, 0⟩
def Pf.APPLY : Entry := ⟨0x2101, 0xFE, 8, 0⟩
def Pace.PACE_MODE : Entry := ⟨0x2108, 0x1, 8, 0⟩
def Pace.FIXED_MV : Entry := ⟨0x2108, 0x2, 16, 800⟩
def Pace.RAIL_MV : Entry := ⟨0x2108, 0x3, 16, 800⟩
def Pace.PACE_CODE : Entry := ⟨0x2108, 0x4, 16, 0⟩
def Pace.PACE_TARGET : Entry := ⟨0x2108, 0x5, 16, 4096⟩
def Pace.PACE_SHORT_COUNT : Entry := ⟨0x2108, 0x6, 64, 0⟩
def Pace.COUNTER_SAT : Entry := ⟨0x2108, 0x7, 8, 0⟩
def Clk.XO_EN : Entry := ⟨0x2200, 0x1, 8, 1⟩
def Clk.REFIN_EN : Entry := ⟨0x2200, 0x2, 8, 0⟩
def Clk.SRC_STATUS : Entry := ⟨0x2200, 0x3, 8, 0⟩
def Clk.RCO_TRIM_SRC : Entry := ⟨0x2200, 0x4, 8, 0⟩
def Clk.TRIM_CAN_CH : Entry := ⟨0x2200, 0x5, 8, 0⟩
def Clk.TRIM_IN_USE : Entry := ⟨0x2200, 0x6, 8, 5⟩
def Clk.RCO_ERR_PPM : Entry := ⟨0x2200, 0x7, 32, 0⟩
def Clk.SSC_MODE : Entry := ⟨0x2200, 0x8, 8, 1⟩
def Clk.SSC_DEPTH : Entry := ⟨0x2200, 0x9, 8, 2⟩
def Clk.SSC_RATE_KHZ : Entry := ⟨0x2200, 0xA, 8, 32⟩
def Clk.SSC_ACTIVE : Entry := ⟨0x2200, 0xB, 8, 0⟩
def Clk.REF_LOSS : Entry := ⟨0x2200, 0xC, 8, 0⟩
def Clk.TRIPS : Entry := ⟨0x2200, 0xD, 64, 0⟩
def Clk.FORCED_SWITCHES : Entry := ⟨0x2200, 0xE, 64, 0⟩
def Clk.REF_LOSSES : Entry := ⟨0x2200, 0xF, 64, 0⟩
def Clk.COUNTER_SAT : Entry := ⟨0x2200, 0x10, 8, 0⟩
def Clk.APPLY_STATUS : Entry := ⟨0x2200, 0xFD, 32, 0⟩
def Clk.APPLY : Entry := ⟨0x2200, 0xFE, 8, 0⟩
def Dom.REF_SEL (n : Nat) : Entry := ⟨0x2210 + n, 0x1, 8, 0⟩
def Dom.REVERT_S (n : Nat) : Entry := ⟨0x2210 + n, 0x2, 16, 0⟩
def Dom.SOURCE (n : Nat) : Entry := ⟨0x2210 + n, 0x3, 8, 0⟩
def Dom.CLKSW_FORCED (n : Nat) : Entry := ⟨0x2210 + n, 0x4, 8, 0⟩
def Dom.UNCERTAIN (n : Nat) : Entry := ⟨0x2210 + n, 0x5, 8, 0⟩
def Dom.SWITCHES (n : Nat) : Entry := ⟨0x2210 + n, 0x6, 64, 0⟩
def Dom.COUNTER_SAT (n : Nat) : Entry := ⟨0x2210 + n, 0x7, 8, 0⟩
def Dom.APPLY_STATUS (n : Nat) : Entry := ⟨0x2210 + n, 0xFD, 32, 0⟩
def Dom.APPLY (n : Nat) : Entry := ⟨0x2210 + n, 0xFE, 8, 0⟩
def Gate.GATE (n : Nat) (i : Nat) : Entry := ⟨0x2300 + n, 0x1 + i, 32, 0⟩
def Sec.LIFECYCLE : Entry := ⟨0x2400, 0x1, 8, 0⟩
def Sec.LC_ADVANCE : Entry := ⟨0x2400, 0x2, 8, 0⟩
def Sec.RETURN_TOKEN : Entry := ⟨0x2400, 0x3, 1024, 0⟩
def Sec.DBG_EN : Entry := ⟨0x2400, 0x4, 8, 0⟩
def Sec.DBG_CHALLENGE : Entry := ⟨0x2400, 0x5, 128, 0⟩
def Sec.DEBUG_TOKEN : Entry := ⟨0x2400, 0x6, 1024, 0⟩
def Sec.DBG_ACTIVE : Entry := ⟨0x2400, 0x7, 8, 0⟩
def Sec.ROLLBACK : Entry := ⟨0x2400, 0x8, 8, 0⟩
def Sec.ROLLBACK_SET : Entry := ⟨0x2400, 0x9, 8, 0⟩
def Sec.KEY_REVOKED : Entry := ⟨0x2400, 0xA, 8, 0⟩
def Sec.KEY_REVOKE : Entry := ⟨0x2400, 0xB, 8, 0⟩
def Sec.WM_SRAM : Entry := ⟨0x2400, 0xC, 32, 1048575⟩
def Sec.WM_DRAM : Entry := ⟨0x2400, 0xD, 32, 1048575⟩
def Sec.WM_NAND : Entry := ⟨0x2400, 0xE, 32, 1048575⟩
def Lease.LEASE (i : Nat) : Entry := ⟨0x2410, 0x1 + i, 16, 0⟩
def Lease.LEASE_REFUSALS : Entry := ⟨0x2410, 0x41, 64, 0⟩
def Lease.COUNTER_SAT : Entry := ⟨0x2410, 0x42, 8, 0⟩
def Key.KEY (n : Nat) : Entry := ⟨0x2420 + n, 0x1, 384, 0⟩
def Key.USAGE (n : Nat) : Entry := ⟨0x2420 + n, 0x2, 8, 0⟩
def Key.LOADED (n : Nat) : Entry := ⟨0x2420 + n, 0x3, 8, 0⟩
def Key.CLEAR (n : Nat) : Entry := ⟨0x2420 + n, 0x4, 8, 0⟩
def Key.APPLY_STATUS (n : Nat) : Entry := ⟨0x2420 + n, 0xFD, 32, 0⟩
def Key.APPLY (n : Nat) : Entry := ⟨0x2420 + n, 0xFE, 8, 0⟩
def Slog.SECURE_LOG : Entry := ⟨0x2440, 0x1, 0, 0⟩
def Slog.SWDT_PERIOD_MS : Entry := ⟨0x2440, 0x2, 16, 2000⟩
def Slog.SWDT_EXPIRIES : Entry := ⟨0x2440, 0x3, 64, 0⟩
def Slog.COUNTER_SAT : Entry := ⟨0x2440, 0x4, 8, 0⟩
def Hall.STATE (n : Nat) : Entry := ⟨0x2600 + n, 0x1, 8, 0⟩
def Hall.CMD (n : Nat) : Entry := ⟨0x2600 + n, 0x2, 8, 0⟩
def Hall.CMD_STATUS (n : Nat) : Entry := ⟨0x2600 + n, 0x3, 32, 0⟩
def Hall.EPOCH (n : Nat) : Entry := ⟨0x2600 + n, 0x4, 16, 0⟩
def Hall.FAULT_CAUSE (n : Nat) : Entry := ⟨0x2600 + n, 0x5, 8, 0⟩
def Hall.AUTOCREATE (n : Nat) : Entry := ⟨0x2600 + n, 0x6, 8, 0⟩
def Hall.QP_MAX (n : Nat) : Entry := ⟨0x2600 + n, 0x10, 8, 1⟩
def Hall.DMA_MAX (n : Nat) : Entry := ⟨0x2600 + n, 0x11, 8, 1⟩
def Hall.DMA_PRIO_MAX (n : Nat) : Entry := ⟨0x2600 + n, 0x12, 8, 3⟩
def Hall.CAN_OBJ_MAX (n : Nat) : Entry := ⟨0x2600 + n, 0x13, 16, 0⟩
def Hall.CAN_TXB_MAX (n : Nat) : Entry := ⟨0x2600 + n, 0x14, 8, 0⟩
def Hall.BRIDGE_CTX_MAX (n : Nat) : Entry := ⟨0x2600 + n, 0x15, 16, 0⟩
def Hall.BINDING_MAX (n : Nat) : Entry := ⟨0x2600 + n, 0x16, 8, 0⟩
def Hall.ENDPOINT_MAX (n : Nat) : Entry := ⟨0x2600 + n, 0x17, 16, 0⟩
def Hall.CCORES (n : Nat) : Entry := ⟨0x2600 + n, 0x18, 8, 0⟩
def Hall.BIND_CORE (n : Nat) : Entry := ⟨0x2600 + n, 0x19, 8, 255⟩
def Hall.GEI (n : Nat) : Entry := ⟨0x2600 + n, 0x1A, 8, 0⟩
def Hall.WDT_MS (n : Nat) : Entry := ⟨0x2600 + n, 0x1B, 16, 0⟩
def Hall.FAULT_ACTION (n : Nat) : Entry := ⟨0x2600 + n, 0x1C, 8, 0⟩
def Hall.USE (n : Nat) (i : Nat) : Entry := ⟨0x2600 + n, 0x20 + i, 16, 0⟩
def Hall.FAULTS (n : Nat) : Entry := ⟨0x2600 + n, 0x28, 64, 0⟩
def Hall.RESETS (n : Nat) : Entry := ⟨0x2600 + n, 0x29, 64, 0⟩
def Hall.MIGRATIONS (n : Nat) : Entry := ⟨0x2600 + n, 0x2A, 64, 0⟩
def Hall.FROZEN_DROPS (n : Nat) : Entry := ⟨0x2600 + n, 0x2B, 64, 0⟩
def Hall.RING_LOST (n : Nat) : Entry := ⟨0x2600 + n, 0x2C, 64, 0⟩
def Hall.COUNTER_SAT (n : Nat) : Entry := ⟨0x2600 + n, 0x2D, 8, 0⟩
def Hall.HALL_STATE (n : Nat) : Entry := ⟨0x2600 + n, 0x30, 0, 0⟩
def Hall.GUEST_STATE (n : Nat) : Entry := ⟨0x2600 + n, 0x31, 0, 0⟩
def Hall.MIG_DIRTY_MAX (n : Nat) : Entry := ⟨0x2600 + n, 0x32, 32, 4096⟩
def Hall.MIG_PASSES_MAX (n : Nat) : Entry := ⟨0x2600 + n, 0x33, 8, 30⟩
def Hall.MIG_FORCE (n : Nat) : Entry := ⟨0x2600 + n, 0x34, 8, 0⟩
def Hall.MIG_STATUS (n : Nat) : Entry := ⟨0x2600 + n, 0x35, 32, 0⟩
def Hall.APPLY_STATUS (n : Nat) : Entry := ⟨0x2600 + n, 0xFD, 32, 0⟩
def Hall.APPLY (n : Nat) : Entry := ⟨0x2600 + n, 0xFE, 8, 0⟩
def Irq.SRC_CONFIG : Entry := ⟨0x2A01, 0x1, 0, 0⟩
def Irq.APPLY_STATUS : Entry := ⟨0x2A01, 0xFD, 32, 0⟩
def Irq.APPLY : Entry := ⟨0x2A01, 0xFE, 8, 0⟩
def Pair.LOCKSTEP (n : Nat) : Entry := ⟨0x2A10 + n, 0x1, 8, 0⟩
def Pair.MISMATCHES (n : Nat) : Entry := ⟨0x2A10 + n, 0x2, 64, 0⟩
def Pair.STATE (n : Nat) : Entry := ⟨0x2A10 + n, 0x3, 8, 0⟩
def Pair.RESET (n : Nat) : Entry := ⟨0x2A10 + n, 0x4, 8, 0⟩
def Pair.COUNTER_SAT (n : Nat) : Entry := ⟨0x2A10 + n, 0x5, 8, 0⟩
def Pair.APPLY_STATUS (n : Nat) : Entry := ⟨0x2A10 + n, 0xFD, 32, 0⟩
def Pair.APPLY (n : Nat) : Entry := ⟨0x2A10 + n, 0xFE, 8, 0⟩
def Core.THRESHOLD (n : Nat) : Entry := ⟨0x2A20 + n, 0x1, 8, 0⟩
def Core.RUNPRIO_DEPTH (n : Nat) : Entry := ⟨0x2A20 + n, 0x2, 8, 0⟩
def Core.CLAIMS (n : Nat) : Entry := ⟨0x2A20 + n, 0x3, 64, 0⟩
def Core.COMPLETE_ERRORS (n : Nat) : Entry := ⟨0x2A20 + n, 0x4, 64, 0⟩
def Core.STACK_FULL (n : Nat) : Entry := ⟨0x2A20 + n, 0x5, 64, 0⟩
def Core.COUNTER_SAT (n : Nat) : Entry := ⟨0x2A20 + n, 0x6, 8, 0⟩
def Mem.DRAM_SIZE_MIB : Entry := ⟨0x2C00, 0x1, 16, 0⟩
def Mem.STW_MIB : Entry := ⟨0x2C00, 0x2, 16, 256⟩
def Mem.STW_MIB_ACTIVE : Entry := ⟨0x2C00, 0x3, 16, 0⟩
def Mem.SCRUB_H : Entry := ⟨0x2C00, 0x4, 8, 24⟩
def Mem.SRAM_CE : Entry := ⟨0x2C00, 0x5, 64, 0⟩
def Mem.SRAM_UE : Entry := ⟨0x2C00, 0x6, 64, 0⟩
def Mem.L2_CE : Entry := ⟨0x2C00, 0x7, 64, 0⟩
def Mem.L2_UE : Entry := ⟨0x2C00, 0x8, 64, 0⟩
def Mem.DRAM_CE : Entry := ⟨0x2C00, 0x9, 64, 0⟩
def Mem.DRAM_UE : Entry := ⟨0x2C00, 0xA, 64, 0⟩
def Mem.CE_LAST : Entry := ⟨0x2C00, 0xB, 64, 0⟩
def Mem.UE_LAST : Entry := ⟨0x2C00, 0xC, 64, 0⟩
def Mem.COUNTER_SAT : Entry := ⟨0x2C00, 0xD, 8, 0⟩
def Dwin.DRAM_WIN (i : Nat) : Entry := ⟨0x2C01, 0x1 + i, 64, 4294967296⟩
def Dwin.DRAM_WIN_M0 : Entry := ⟨0x2C01, 0xA, 64, 4294967296⟩
def Dwin.APPLY_STATUS : Entry := ⟨0x2C01, 0xFD, 32, 0⟩
def Dwin.APPLY : Entry := ⟨0x2C01, 0xFE, 8, 0⟩
def Heng.ENABLE (n : Nat) : Entry := ⟨0x2C10 + n, 0x1, 8, 1⟩
def Heng.STATE (n : Nat) : Entry := ⟨0x2C10 + n, 0x2, 8, 1⟩
def Heng.DRAIN_MS (n : Nat) : Entry := ⟨0x2C10 + n, 0x3, 16, 5⟩
def Heng.DEF_QP (n : Nat) : Entry := ⟨0x2C10 + n, 0x4, 16, 65535⟩
def Heng.NO_QP (n : Nat) : Entry := ⟨0x2C10 + n, 0x5, 64, 0⟩
def Heng.COUNTER_SAT (n : Nat) : Entry := ⟨0x2C10 + n, 0x6, 8, 0⟩
def Heng.APPLY_STATUS (n : Nat) : Entry := ⟨0x2C10 + n, 0xFD, 32, 0⟩
def Heng.APPLY (n : Nat) : Entry := ⟨0x2C10 + n, 0xFE, 8, 0⟩
def H0qp.HALL0_QP : Entry := ⟨0x2C18, 0x1, 16, 65535⟩
def H0qp.APPLY_STATUS : Entry := ⟨0x2C18, 0xFD, 32, 0⟩
def H0qp.APPLY : Entry := ⟨0x2C18, 0xFE, 8, 0⟩
def Dma.ENABLE (n : Nat) : Entry := ⟨0x2C40 + n, 0x1, 8, 0⟩
def Dma.STATE (n : Nat) : Entry := ⟨0x2C40 + n, 0x2, 8, 0⟩
def Dma.DRAIN_MS (n : Nat) : Entry := ⟨0x2C40 + n, 0x3, 16, 5⟩
def Dma.HALL (n : Nat) : Entry := ⟨0x2C40 + n, 0x4, 8, 0⟩
def Dma.PRIORITY (n : Nat) : Entry := ⟨0x2C40 + n, 0x5, 8, 0⟩
def Dma.FAULT_MODE (n : Nat) : Entry := ⟨0x2C40 + n, 0x6, 8, 0⟩
def Dma.EPOCH (n : Nat) : Entry := ⟨0x2C40 + n, 0x10, 16, 0⟩
def Dma.DESCRIPTORS (n : Nat) : Entry := ⟨0x2C40 + n, 0x11, 64, 0⟩
def Dma.ERRORS (n : Nat) : Entry := ⟨0x2C40 + n, 0x12, 64, 0⟩
def Dma.FAULTS (n : Nat) : Entry := ⟨0x2C40 + n, 0x13, 64, 0⟩
def Dma.BYTES (n : Nat) : Entry := ⟨0x2C40 + n, 0x14, 64, 0⟩
def Dma.STALE (n : Nat) : Entry := ⟨0x2C40 + n, 0x15, 64, 0⟩
def Dma.COUNTER_SAT (n : Nat) : Entry := ⟨0x2C40 + n, 0x16, 8, 0⟩
def Dma.APPLY_STATUS (n : Nat) : Entry := ⟨0x2C40 + n, 0xFD, 32, 0⟩
def Dma.APPLY (n : Nat) : Entry := ⟨0x2C40 + n, 0xFE, 8, 0⟩
def Iommu.WINDOWS (n : Nat) : Entry := ⟨0x2D00 + n, 0x1, 0, 0⟩
def Iommu.APPLY_STATUS (n : Nat) : Entry := ⟨0x2D00 + n, 0xFD, 32, 0⟩
def Iommu.APPLY (n : Nat) : Entry := ⟨0x2D00 + n, 0xFE, 8, 0⟩
def Qp.ENABLE (n : Nat) : Entry := ⟨0x2E00 + n, 0x1, 8, 0⟩
def Qp.STATE (n : Nat) : Entry := ⟨0x2E00 + n, 0x2, 8, 0⟩
def Qp.DRAIN_MS (n : Nat) : Entry := ⟨0x2E00 + n, 0x3, 16, 5⟩
def Qp.HALL (n : Nat) : Entry := ⟨0x2E00 + n, 0x4, 8, 0⟩
def Qp.PORT (n : Nat) : Entry := ⟨0x2E00 + n, 0x5, 8, 48⟩
def Qp.RX_MAC (n : Nat) : Entry := ⟨0x2E00 + n, 0x6, 48, 0⟩
def Qp.EPOCH (n : Nat) : Entry := ⟨0x2E00 + n, 0x10, 16, 0⟩
def Qp.TX_FRAMES (n : Nat) : Entry := ⟨0x2E00 + n, 0x11, 64, 0⟩
def Qp.RX_FRAMES (n : Nat) : Entry := ⟨0x2E00 + n, 0x12, 64, 0⟩
def Qp.TX_ERRORS (n : Nat) : Entry := ⟨0x2E00 + n, 0x13, 64, 0⟩
def Qp.RX_TRUNC (n : Nat) : Entry := ⟨0x2E00 + n, 0x14, 64, 0⟩
def Qp.RX_FAULTS (n : Nat) : Entry := ⟨0x2E00 + n, 0x15, 64, 0⟩
def Qp.ERR_LOST (n : Nat) : Entry := ⟨0x2E00 + n, 0x16, 64, 0⟩
def Qp.COUNTER_SAT (n : Nat) : Entry := ⟨0x2E00 + n, 0x17, 8, 0⟩
def Qp.APPLY_STATUS (n : Nat) : Entry := ⟨0x2E00 + n, 0xFD, 32, 0⟩
def Qp.APPLY (n : Nat) : Entry := ⟨0x2E00 + n, 0xFE, 8, 0⟩
def Pcfg.MODE (n : Nat) : Entry := ⟨0x3000 + n, 0x1, 8, if n < 24 then 2 else if n < 40 then 3 else if n < 48 then 7 else if n < 52 then 8 else 9⟩
def Pcfg.ROLE (n : Nat) : Entry := ⟨0x3000 + n, 0x2, 8, 1⟩
def Pcfg.AN (n : Nat) : Entry := ⟨0x3000 + n, 0x3, 8, 0⟩
def Pcfg.HOLD_MS (n : Nat) : Entry := ⟨0x3000 + n, 0x4, 8, 10⟩
def Pcfg.LINK_QUAL_MS (n : Nat) : Entry := ⟨0x3000 + n, 0x5, 16, 0⟩
def Pcfg.PVID (n : Nat) : Entry := ⟨0x3000 + n, 0x6, 16, 1⟩
def Pcfg.ACCEPT (n : Nat) : Entry := ⟨0x3000 + n, 0x7, 8, 0⟩
def Pcfg.ING_FILTER (n : Nat) : Entry := ⟨0x3000 + n, 0x8, 8, 1⟩
def Pcfg.DEF_PCP (n : Nat) : Entry := ⟨0x3000 + n, 0x9, 8, 0⟩
def Pcfg.PCP_TC_MAP (n : Nat) : Entry := ⟨0x3000 + n, 0xA, 32, 1985229328⟩
def Pcfg.LEARN (n : Nat) : Entry := ⟨0x3000 + n, 0xB, 8, 1⟩
def Pcfg.MAX_LEARN (n : Nat) : Entry := ⟨0x3000 + n, 0xC, 16, 0⟩
def Pcfg.FLOOD_UNKNOWN (n : Nat) : Entry := ⟨0x3000 + n, 0xD, 8, 1⟩
def Pcfg.TCM_RATE (n : Nat) : Entry := ⟨0x3000 + n, 0xE, 32, if n < 24 then 20000 else if n < 40 then 1000 else 20000⟩
def Pcfg.TCM_BURST (n : Nat) : Entry := ⟨0x3000 + n, 0xF, 32, 32768⟩
def Pcfg.PLCA_ID (n : Nat) : Entry := ⟨0x3000 + n, 0x10, 8, 0⟩
def Pcfg.PLCA_COUNT (n : Nat) : Entry := ⟨0x3000 + n, 0x11, 8, 8⟩
def Pcfg.PLCA_TO (n : Nat) : Entry := ⟨0x3000 + n, 0x12, 8, 32⟩
def Pcfg.PLCA_BURST_CNT (n : Nat) : Entry := ⟨0x3000 + n, 0x13, 8, 0⟩
def Pcfg.PLCA_BURST_TMR (n : Nat) : Entry := ⟨0x3000 + n, 0x14, 8, 128⟩
def Pcfg.KIND (n : Nat) : Entry := ⟨0x3000 + n, 0x20, 8, if n < 24 then 0 else if n < 40 then 1 else if n < 48 then 2 else if n < 52 then 3 else 4⟩
def Pcfg.MAX_FRAME (n : Nat) : Entry := ⟨0x3000 + n, 0x21, 16, if n < 24 then 2048 else if n < 40 then 2048 else 9216⟩
def Pcfg.APPLY_STATUS (n : Nat) : Entry := ⟨0x3000 + n, 0xFD, 32, 0⟩
def Pcfg.APPLY (n : Nat) : Entry := ⟨0x3000 + n, 0xFE, 8, 0⟩
def Swc.CT_ENABLE : Entry := ⟨0x3400, 0x1, 8, 1⟩
def Swc.SPILL_STAGE : Entry := ⟨0x3400, 0x2, 16, 2048⟩
def Swc.SHARED_SIZE : Entry := ⟨0x3400, 0x4, 32, 81728⟩
def Swc.FREE_CELLS : Entry := ⟨0x3400, 0x5, 32, 0⟩
def Swc.SHARED_USE : Entry := ⟨0x3400, 0x6, 32, 0⟩
def Swc.DESC_FREE : Entry := ⟨0x3400, 0x7, 32, 0⟩
def Swc.TCM_CELLS : Entry := ⟨0x3400, 0x8, 16, 0⟩
def Swc.TCM_DESC : Entry := ⟨0x3400, 0x9, 16, 0⟩
def Swc.CELLS_TOTAL : Entry := ⟨0x3400, 0xA, 32, 98304⟩
def Swc.DESC_TOTAL : Entry := ⟨0x3400, 0xB, 32, 131072⟩
def Swc.APPLY_STATUS : Entry := ⟨0x3400, 0xFD, 32, 0⟩
def Swc.APPLY : Entry := ⟨0x3400, 0xFE, 8, 0⟩
def Stw.STW_SIZE : Entry := ⟨0x3401, 0x1, 32, 0⟩
def Stw.STW_USE : Entry := ⟨0x3401, 0x2, 32, 0⟩
def Stw.STW_RATE : Entry := ⟨0x3401, 0x3, 16, 0⟩
def Stw.STAGE_USE : Entry := ⟨0x3401, 0x4, 16, 0⟩
def Stw.STW_ECC_DROPS : Entry := ⟨0x3401, 0x5, 64, 0⟩
def Stw.COUNTER_SAT : Entry := ⟨0x3401, 0x6, 8, 0⟩
def Cls.ALPHA (n : Nat) : Entry := ⟨0x3402 + n, 0x1, 8, 4⟩
def Cls.RES_MAX_MS (n : Nat) : Entry := ⟨0x3402 + n, 0x2, 16, 50⟩
def Cls.SCHED_DROP (n : Nat) : Entry := ⟨0x3402 + n, 0x3, 8, 0⟩
def Cls.SPILL_EN (n : Nat) : Entry := ⟨0x3402 + n, 0x4, 8, if n < 4 then 1 else 0⟩
def Cls.STW_Q_MAX (n : Nat) : Entry := ⟨0x3402 + n, 0x5, 32, 262144⟩
def Cls.DRAIN_MS (n : Nat) : Entry := ⟨0x3402 + n, 0x6, 16, 10⟩
def Cls.APPLY_STATUS (n : Nat) : Entry := ⟨0x3402 + n, 0xFD, 32, 0⟩
def Cls.APPLY (n : Nat) : Entry := ⟨0x3402 + n, 0xFE, 8, 0⟩
def Pbuf.ING_RES (n : Nat) : Entry := ⟨0x3440 + n, 0x1, 16, if n < 40 then 64 else 288⟩
def Pbuf.PORT_SH_MAX (n : Nat) : Entry := ⟨0x3440 + n, 0x2, 32, 0⟩
def Pbuf.CUT_THROUGH (n : Nat) : Entry := ⟨0x3440 + n, 0x3, 8, 1⟩
def Pbuf.Q_MIN (n : Nat) (i : Nat) : Entry := ⟨0x3440 + n, 0x10 + i, 16, 16⟩
def Pbuf.TCM_Q_MAX (n : Nat) : Entry := ⟨0x3440 + n, 0x18, 16, 128⟩
def Pbuf.APPLY_STATUS (n : Nat) : Entry := ⟨0x3440 + n, 0xFD, 32, 0⟩
def Pbuf.APPLY (n : Nat) : Entry := ⟨0x3440 + n, 0xFE, 8, 0⟩
def Pq.Q_CELLS (n : Nat) (i : Nat) : Entry := ⟨0x3480 + n, 16 * i + 0x1, 32, 0⟩
def Pq.STW_CELLS (n : Nat) (i : Nat) : Entry := ⟨0x3480 + n, 16 * i + 0x2, 32, 0⟩
def Pq.QFLAGS (n : Nat) (i : Nat) : Entry := ⟨0x3480 + n, 16 * i + 0x3, 8, 0⟩
def Pq.Q_ENABLE (n : Nat) (i : Nat) : Entry := ⟨0x3480 + n, 16 * i + 0x4, 8, 1⟩
def Pq.Q_STATE (n : Nat) (i : Nat) : Entry := ⟨0x3480 + n, 16 * i + 0x5, 8, 1⟩
def Pq.FLUSH (n : Nat) (i : Nat) : Entry := ⟨0x3480 + n, 16 * i + 0x6, 8, 0⟩
def Pq.Q_TX_FRAMES (n : Nat) (i : Nat) : Entry := ⟨0x3480 + n, 16 * i + 0x7, 64, 0⟩
def Pq.DROP_FULL (n : Nat) (i : Nat) : Entry := ⟨0x3480 + n, 16 * i + 0x8, 64, 0⟩
def Pq.DROP_STW (n : Nat) (i : Nat) : Entry := ⟨0x3480 + n, 16 * i + 0x9, 64, 0⟩
def Pq.DROP_RESIDENCE (n : Nat) (i : Nat) : Entry := ⟨0x3480 + n, 16 * i + 0xA, 64, 0⟩
def Pq.DROP_DOWN (n : Nat) (i : Nat) : Entry := ⟨0x3480 + n, 16 * i + 0xB, 64, 0⟩
def Pq.DROP_DISABLED (n : Nat) (i : Nat) : Entry := ⟨0x3480 + n, 16 * i + 0xC, 64, 0⟩
def Pq.SPILLED (n : Nat) (i : Nat) : Entry := ⟨0x3480 + n, 16 * i + 0xD, 64, 0⟩
def Pq.Q_SAT (n : Nat) : Entry := ⟨0x3480 + n, 0x91, 64, 0⟩
def Pq.ING_CELLS (n : Nat) : Entry := ⟨0x3480 + n, 0x92, 16, 0⟩
def Pq.COPIES_SENT (n : Nat) : Entry := ⟨0x3480 + n, 0x93, 64, 0⟩
def Pq.COPIES_DROPPED (n : Nat) : Entry := ⟨0x3480 + n, 0x94, 64, 0⟩
def Pq.ING_OVF (n : Nat) : Entry := ⟨0x3480 + n, 0x95, 64, 0⟩
def Pq.NO_DESC (n : Nat) : Entry := ⟨0x3480 + n, 0x96, 64, 0⟩
def Pq.CT_COPIES (n : Nat) : Entry := ⟨0x3480 + n, 0x97, 64, 0⟩
def Pq.CT_ABORTED (n : Nat) : Entry := ⟨0x3480 + n, 0x98, 64, 0⟩
def Pq.OVERSIZE (n : Nat) : Entry := ⟨0x3480 + n, 0x99, 64, 0⟩
def Pq.PORT_SAT (n : Nat) : Entry := ⟨0x3480 + n, 0x9A, 8, 0⟩
def Fwd.AGING_S : Entry := ⟨0x3500, 0x1, 32, 300⟩
def Fwd.TRAP_LINKLOCAL : Entry := ⟨0x3500, 0x2, 8, 1⟩
def Fwd.NAVOS_ETYPE : Entry := ⟨0x3500, 0x3, 16, 34997⟩
def Fwd.DEVICE_MAC : Entry := ⟨0x3500, 0x4, 48, 0⟩
def Fwd.APPLY_STATUS : Entry := ⟨0x3500, 0xFD, 32, 0⟩
def Fwd.APPLY : Entry := ⟨0x3500, 0xFE, 8, 0⟩
def Tbl.VLAN_TABLE : Entry := ⟨0x3501, 0x1, 0, 0⟩
def Tbl.MCAST_TABLE : Entry := ⟨0x3501, 0x2, 0, 0⟩
def Tbl.STATIC_FDB : Entry := ⟨0x3501, 0x3, 0, 0⟩
def Tbl.STREAM_TABLE : Entry := ⟨0x3501, 0x4, 0, 0⟩
def Tbl.APPLY_STATUS : Entry := ⟨0x3501, 0xFD, 32, 0⟩
def Tbl.APPLY : Entry := ⟨0x3501, 0xFE, 8, 0⟩
def Fwds.FDB_LEARNED : Entry := ⟨0x3502, 0x1, 16, 0⟩
def Fwds.FDB_STATIC : Entry := ⟨0x3502, 0x2, 16, 0⟩
def Fwds.LEARN_FAIL : Entry := ⟨0x3502, 0x3, 64, 0⟩
def Fwds.FDB_FLUSH : Entry := ⟨0x3502, 0x4, 8, 0⟩
def Fwds.FDB_SNAPSHOT : Entry := ⟨0x3502, 0x5, 0, 0⟩
def Fwds.STREAM_COUNTERS : Entry := ⟨0x3502, 0x6, 0, 0⟩
def Fwds.STREAM_CLEAR : Entry := ⟨0x3502, 0x7, 16, 0⟩
def Fwds.STREAM_UNBLOCK : Entry := ⟨0x3502, 0x8, 16, 0⟩
def Fwds.COUNTER_SAT : Entry := ⟨0x3502, 0x9, 8, 0⟩
def Gcl.GATE_ENABLE (n : Nat) : Entry := ⟨0x3540 + n, 0x1, 8, 0⟩
def Gcl.ADMIN_BASE_NS (n : Nat) : Entry := ⟨0x3540 + n, 0x2, 64, 0⟩
def Gcl.ADMIN_CYCLE_NS (n : Nat) : Entry := ⟨0x3540 + n, 0x3, 32, 1000000⟩
def Gcl.ADMIN_EXT_NS (n : Nat) : Entry := ⟨0x3540 + n, 0x4, 32, 0⟩
def Gcl.ADMIN_LENGTH (n : Nat) : Entry := ⟨0x3540 + n, 0x5, 16, 1⟩
def Gcl.ADMIN_GCL (n : Nat) : Entry := ⟨0x3540 + n, 0x6, 0, 0⟩
def Gcl.DEF_GATES (n : Nat) : Entry := ⟨0x3540 + n, 0x7, 8, 255⟩
def Gcl.OPER_BASE_NS (n : Nat) : Entry := ⟨0x3540 + n, 0x10, 64, 0⟩
def Gcl.OPER_CYCLE_NS (n : Nat) : Entry := ⟨0x3540 + n, 0x11, 32, 0⟩
def Gcl.OPER_LENGTH (n : Nat) : Entry := ⟨0x3540 + n, 0x12, 16, 0⟩
def Gcl.OPER_GCL (n : Nat) : Entry := ⟨0x3540 + n, 0x13, 0, 0⟩
def Gcl.PENDING (n : Nat) : Entry := ⟨0x3540 + n, 0x14, 8, 0⟩
def Gcl.CHANGE_NS (n : Nat) : Entry := ⟨0x3540 + n, 0x15, 64, 0⟩
def Gcl.APPLY_STATUS (n : Nat) : Entry := ⟨0x3540 + n, 0xFD, 32, 0⟩
def Gcl.APPLY (n : Nat) : Entry := ⟨0x3540 + n, 0xFE, 8, 0⟩
def Port.ENABLE (n : Nat) : Entry := ⟨0x3580 + n, 0x1, 8, 1⟩
def Port.STATE (n : Nat) : Entry := ⟨0x3580 + n, 0x2, 8, 1⟩
def Port.DRAIN_MS (n : Nat) : Entry := ⟨0x3580 + n, 0x3, 16, 10⟩
def Port.LINK (n : Nat) : Entry := ⟨0x3580 + n, 0x4, 8, 0⟩
def Port.SPEED_MBPS (n : Nat) : Entry := ⟨0x3580 + n, 0x5, 16, 0⟩
def Port.RX_FRAMES (n : Nat) : Entry := ⟨0x3580 + n, 0x10, 64, 0⟩
def Port.RX_BYTES (n : Nat) : Entry := ⟨0x3580 + n, 0x11, 64, 0⟩
def Port.TX_FRAMES (n : Nat) : Entry := ⟨0x3580 + n, 0x12, 64, 0⟩
def Port.TX_BYTES (n : Nat) : Entry := ⟨0x3580 + n, 0x13, 64, 0⟩
def Port.RX_FCS (n : Nat) : Entry := ⟨0x3580 + n, 0x14, 64, 0⟩
def Port.RX_LENGTH (n : Nat) : Entry := ⟨0x3580 + n, 0x15, 64, 0⟩
def Port.RX_VLAN (n : Nat) : Entry := ⟨0x3580 + n, 0x16, 64, 0⟩
def Port.RX_TYPE (n : Nat) : Entry := ⟨0x3580 + n, 0x17, 64, 0⟩
def Port.RX_DISABLED (n : Nat) : Entry := ⟨0x3580 + n, 0x18, 64, 0⟩
def Port.TCM_POLICED (n : Nat) : Entry := ⟨0x3580 + n, 0x19, 64, 0⟩
def Port.EGRESS_FILTERED (n : Nat) : Entry := ⟨0x3580 + n, 0x1A, 64, 0⟩
def Port.STREAM_DROPS (n : Nat) : Entry := ⟨0x3580 + n, 0x1B, 64, 0⟩
def Port.TX_OVERRUN (n : Nat) : Entry := ⟨0x3580 + n, 0x1C, 64, 0⟩
def Port.LINK_DOWNS (n : Nat) : Entry := ⟨0x3580 + n, 0x1D, 64, 0⟩
def Port.COLLISIONS (n : Nat) : Entry := ⟨0x3580 + n, 0x1E, 64, 0⟩
def Port.PORT_SAT (n : Nat) : Entry := ⟨0x3580 + n, 0x1F, 16, 0⟩
def Time.QUALITY : Entry := ⟨0x3600, 0x1, 8, 0⟩
def Time.TGEN : Entry := ⟨0x3600, 0x2, 8, 0⟩
def Time.OFFSET : Entry := ⟨0x3600, 0x3, 64, 0⟩
def Time.RATE : Entry := ⟨0x3600, 0x4, 32, 0⟩
def Time.STEPS : Entry := ⟨0x3600, 0x5, 64, 0⟩
def Time.TIME_NOW : Entry := ⟨0x3600, 0x6, 64, 0⟩
def Time.RAW_NOW : Entry := ⟨0x3600, 0x7, 64, 0⟩
def Time.MASTER_OFFSET : Entry := ⟨0x3600, 0x8, 32, 0⟩
def Time.COUNTER_SAT : Entry := ⟨0x3600, 0x9, 8, 0⟩
def Time.SET_TIME : Entry := ⟨0x3600, 0xA, 64, 0⟩
def Time.GM_IDENTITY : Entry := ⟨0x3600, 0xB, 64, 0⟩
def Prof.PROFILE : Entry := ⟨0x3601, 0x1, 8, 0⟩
def Prof.DOMAIN : Entry := ⟨0x3601, 0x2, 8, 0⟩
def Prof.PRIORITY1 : Entry := ⟨0x3601, 0x3, 8, 248⟩
def Prof.PRIORITY2 : Entry := ⟨0x3601, 0x4, 8, 248⟩
def Prof.TRANSPORT : Entry := ⟨0x3601, 0x5, 8, 0⟩
def Prof.ONE_STEP : Entry := ⟨0x3601, 0x6, 8, 1⟩
def Prof.LOG_SYNC : Entry := ⟨0x3601, 0x7, 8, 253⟩
def Prof.LOG_PDELAY : Entry := ⟨0x3601, 0x8, 8, 0⟩
def Prof.SYNC_TIMEOUT : Entry := ⟨0x3601, 0x9, 8, 3⟩
def Prof.SYNC_THRESH_NS : Entry := ⟨0x3601, 0xA, 32, 100⟩
def Prof.LOCK_COUNT : Entry := ⟨0x3601, 0xB, 8, 16⟩
def Prof.HOLDOVER_S : Entry := ⟨0x3601, 0xC, 16, 60⟩
def Prof.STEP_THRESH_NS : Entry := ⟨0x3601, 0xD, 32, 1000000⟩
def Prof.EXT_PORT_CONFIG : Entry := ⟨0x3601, 0xE, 8, 0⟩
def Prof.SLAVE_ONLY : Entry := ⟨0x3601, 0xF, 8, 0⟩
def Prof.CAN_REF_CH : Entry := ⟨0x3601, 0x10, 8, 0⟩
def Prof.APPLY_STATUS : Entry := ⟨0x3601, 0xFD, 32, 0⟩
def Prof.APPLY : Entry := ⟨0x3601, 0xFE, 8, 0⟩
def Trgp.DIR (n : Nat) : Entry := ⟨0x3620 + n, 0x1, 8, 0⟩
def Trgp.POLARITY (n : Nat) : Entry := ⟨0x3620 + n, 0x2, 8, 0⟩
def Trgp.PULSE_NS (n : Nat) : Entry := ⟨0x3620 + n, 0x3, 32, 1000⟩
def Trgp.EDGE (n : Nat) : Entry := ⟨0x3620 + n, 0x4, 8, 1⟩
def Trgp.CAPTURE_LOST (n : Nat) : Entry := ⟨0x3620 + n, 0x10, 64, 0⟩
def Trgp.COUNTER_SAT (n : Nat) : Entry := ⟨0x3620 + n, 0x11, 8, 0⟩
def Trgp.APPLY_STATUS (n : Nat) : Entry := ⟨0x3620 + n, 0xFD, 32, 0⟩
def Trgp.APPLY (n : Nat) : Entry := ⟨0x3620 + n, 0xFE, 8, 0⟩
def Ptime.PTP_ENABLE (n : Nat) : Entry := ⟨0x3640 + n, 0x1, 8, 1⟩
def Ptime.EXT_ROLE (n : Nat) : Entry := ⟨0x3640 + n, 0x2, 8, 0⟩
def Ptime.RX_ADJ (n : Nat) : Entry := ⟨0x3640 + n, 0x3, 32, 0⟩
def Ptime.TX_ADJ (n : Nat) : Entry := ⟨0x3640 + n, 0x4, 32, 0⟩
def Ptime.LINK_DELAY_NS (n : Nat) : Entry := ⟨0x3640 + n, 0x5, 16, 50⟩
def Ptime.PORT_STATE (n : Nat) : Entry := ⟨0x3640 + n, 0x10, 8, 0⟩
def Ptime.MEAN_LINK_DELAY (n : Nat) : Entry := ⟨0x3640 + n, 0x11, 32, 0⟩
def Ptime.RX_STAMPS (n : Nat) : Entry := ⟨0x3640 + n, 0x12, 64, 0⟩
def Ptime.TX_STAMPS (n : Nat) : Entry := ⟨0x3640 + n, 0x13, 64, 0⟩
def Ptime.COUNTER_SAT (n : Nat) : Entry := ⟨0x3640 + n, 0x14, 8, 0⟩
def Ptime.APPLY_STATUS (n : Nat) : Entry := ⟨0x3640 + n, 0xFD, 32, 0⟩
def Ptime.APPLY (n : Nat) : Entry := ⟨0x3640 + n, 0xFE, 8, 0⟩
def Trgu.ENABLE (n : Nat) : Entry := ⟨0x3700 + n, 0x1, 8, 0⟩
def Trgu.START_NS (n : Nat) : Entry := ⟨0x3700 + n, 0x2, 64, 0⟩
def Trgu.PERIOD_NS (n : Nat) : Entry := ⟨0x3700 + n, 0x3, 32, 0⟩
def Trgu.COUNT (n : Nat) : Entry := ⟨0x3700 + n, 0x4, 32, 0⟩
def Trgu.TARGET (n : Nat) : Entry := ⟨0x3700 + n, 0x5, 16, 0⟩
def Trgu.OWNER (n : Nat) : Entry := ⟨0x3700 + n, 0x6, 8, 0⟩
def Trgu.NEXT_NS (n : Nat) : Entry := ⟨0x3700 + n, 0x10, 64, 0⟩
def Trgu.FIRED (n : Nat) : Entry := ⟨0x3700 + n, 0x11, 64, 0⟩
def Trgu.MISSED (n : Nat) : Entry := ⟨0x3700 + n, 0x12, 64, 0⟩
def Trgu.COUNTER_SAT (n : Nat) : Entry := ⟨0x3700 + n, 0x13, 8, 0⟩
def Trgu.APPLY_STATUS (n : Nat) : Entry := ⟨0x3700 + n, 0xFD, 32, 0⟩
def Trgu.APPLY (n : Nat) : Entry := ⟨0x3700 + n, 0xFE, 8, 0⟩
def Can.MODE (n : Nat) : Entry := ⟨0x3800 + 16 * n, 0x1, 8, 0⟩
def Can.NBRP (n : Nat) : Entry := ⟨0x3800 + 16 * n, 0x2, 16, 2⟩
def Can.NTSEG1 (n : Nat) : Entry := ⟨0x3800 + 16 * n, 0x3, 16, 63⟩
def Can.NTSEG2 (n : Nat) : Entry := ⟨0x3800 + 16 * n, 0x4, 16, 16⟩
def Can.NSJW (n : Nat) : Entry := ⟨0x3800 + 16 * n, 0x5, 16, 16⟩
def Can.DBRP (n : Nat) : Entry := ⟨0x3800 + 16 * n, 0x6, 8, 1⟩
def Can.DTSEG1 (n : Nat) : Entry := ⟨0x3800 + 16 * n, 0x7, 8, 29⟩
def Can.DTSEG2 (n : Nat) : Entry := ⟨0x3800 + 16 * n, 0x8, 8, 10⟩
def Can.DSJW (n : Nat) : Entry := ⟨0x3800 + 16 * n, 0x9, 8, 10⟩
def Can.TDC_OFFSET (n : Nat) : Entry := ⟨0x3800 + 16 * n, 0xA, 8, 30⟩
def Can.TX_ORDER (n : Nat) : Entry := ⟨0x3800 + 16 * n, 0xB, 8, 0⟩
def Can.LISTEN_ONLY (n : Nat) : Entry := ⟨0x3800 + 16 * n, 0xC, 8, 0⟩
def Can.AUTO_RECOVER (n : Nat) : Entry := ⟨0x3800 + 16 * n, 0xD, 8, 1⟩
def Can.CATCHALL_EN (n : Nat) : Entry := ⟨0x3800 + 16 * n, 0xE, 8, 0⟩
def Can.CATCHALL_ID (n : Nat) : Entry := ⟨0x3800 + 16 * n, 0xF, 32, 0⟩
def Can.CATCHALL_MASK (n : Nat) : Entry := ⟨0x3800 + 16 * n, 0x10, 32, 0⟩
def Can.LOCK_TIMEOUT_US (n : Nat) : Entry := ⟨0x3800 + 16 * n, 0x11, 32, 1000⟩
def Can.TEC_WARN1 (n : Nat) : Entry := ⟨0x3800 + 16 * n, 0x12, 8, 96⟩
def Can.TEC_WARN2 (n : Nat) : Entry := ⟨0x3800 + 16 * n, 0x13, 8, 120⟩
def Can.REC_WARN1 (n : Nat) : Entry := ⟨0x3800 + 16 * n, 0x14, 8, 96⟩
def Can.REC_WARN2 (n : Nat) : Entry := ⟨0x3800 + 16 * n, 0x15, 8, 120⟩
def Can.APPLY_STATUS (n : Nat) : Entry := ⟨0x3800 + 16 * n, 0xFD, 32, 0⟩
def Can.APPLY (n : Nat) : Entry := ⟨0x3800 + 16 * n, 0xFE, 8, 0⟩
def CanSt.ENABLE (n : Nat) : Entry := ⟨0x3801 + 16 * n, 0x1, 8, 1⟩
def CanSt.STATE (n : Nat) : Entry := ⟨0x3801 + 16 * n, 0x2, 8, 1⟩
def CanSt.DRAIN_MS (n : Nat) : Entry := ⟨0x3801 + 16 * n, 0x3, 16, 5⟩
def CanSt.BUS (n : Nat) : Entry := ⟨0x3801 + 16 * n, 0x4, 8, 3⟩
def CanSt.TEC (n : Nat) : Entry := ⟨0x3801 + 16 * n, 0x5, 8, 0⟩
def CanSt.REC (n : Nat) : Entry := ⟨0x3801 + 16 * n, 0x6, 8, 0⟩
def CanSt.RX_FRAMES (n : Nat) : Entry := ⟨0x3801 + 16 * n, 0x10, 64, 0⟩
def CanSt.TX_FRAMES (n : Nat) : Entry := ⟨0x3801 + 16 * n, 0x11, 64, 0⟩
def CanSt.RX_LOST (n : Nat) : Entry := ⟨0x3801 + 16 * n, 0x12, 64, 0⟩
def CanSt.FIFO_OVF (n : Nat) : Entry := ⟨0x3801 + 16 * n, 0x13, 64, 0⟩
def CanSt.RX_UNMATCHED (n : Nat) : Entry := ⟨0x3801 + 16 * n, 0x14, 64, 0⟩
def CanSt.ERR_FRAMES (n : Nat) : Entry := ⟨0x3801 + 16 * n, 0x15, 64, 0⟩
def CanSt.BUS_OFFS (n : Nat) : Entry := ⟨0x3801 + 16 * n, 0x16, 64, 0⟩
def CanSt.LOCK_EXPIRED (n : Nat) : Entry := ⟨0x3801 + 16 * n, 0x17, 64, 0⟩
def CanSt.REF_LATE (n : Nat) : Entry := ⟨0x3801 + 16 * n, 0x18, 64, 0⟩
def CanSt.TX_DISCARDED (n : Nat) : Entry := ⟨0x3801 + 16 * n, 0x19, 64, 0⟩
def CanSt.COUNTER_SAT (n : Nat) : Entry := ⟨0x3801 + 16 * n, 0x1A, 16, 0⟩
def CanObj.OBJ_TABLE (n : Nat) : Entry := ⟨0x3802 + 16 * n, 0x1, 0, 0⟩
def CanObj.TXB_HALL (n : Nat) : Entry := ⟨0x3802 + 16 * n, 0x2, 24, 0⟩
def CanObj.APPLY_STATUS (n : Nat) : Entry := ⟨0x3802 + 16 * n, 0xFD, 32, 0⟩
def CanObj.APPLY (n : Nat) : Entry := ⟨0x3802 + 16 * n, 0xFE, 8, 0⟩
def CanRef.REF_ROLE (n : Nat) : Entry := ⟨0x3803 + 16 * n, 0x1, 8, 0⟩
def CanRef.REF_ID (n : Nat) : Entry := ⟨0x3803 + 16 * n, 0x2, 32, 32⟩
def CanRef.REF_IDE (n : Nat) : Entry := ⟨0x3803 + 16 * n, 0x3, 8, 0⟩
def CanRef.REF_PRIO (n : Nat) : Entry := ⟨0x3803 + 16 * n, 0x4, 8, 0⟩
def CanRef.REF_DELAY_NS (n : Nat) : Entry := ⟨0x3803 + 16 * n, 0x5, 16, 0⟩
def CanRef.APPLY_STATUS (n : Nat) : Entry := ⟨0x3803 + 16 * n, 0xFD, 32, 0⟩
def CanRef.APPLY (n : Nat) : Entry := ⟨0x3803 + 16 * n, 0xFE, 8, 0⟩
def CanCo.CO_ENABLE (n : Nat) : Entry := ⟨0x3804 + 16 * n, 0x1, 8, 0⟩
def CanCo.NODE_ID (n : Nat) : Entry := ⟨0x3804 + 16 * n, 0x2, 8, 1⟩
def CanCo.SDO_ENABLE (n : Nat) : Entry := ⟨0x3804 + 16 * n, 0x3, 8, 0⟩
def CanCo.AUTO_OP (n : Nat) : Entry := ⟨0x3804 + 16 * n, 0x4, 8, 0⟩
def CanCo.NMT (n : Nat) : Entry := ⟨0x3804 + 16 * n, 0x5, 8, 0⟩
def CanCo.SDO_LAST_STATUS (n : Nat) : Entry := ⟨0x3804 + 16 * n, 0x6, 16, 0⟩
def CanCo.APPLY_STATUS (n : Nat) : Entry := ⟨0x3804 + 16 * n, 0xFD, 32, 0⟩
def CanCo.APPLY (n : Nat) : Entry := ⟨0x3804 + 16 * n, 0xFE, 8, 0⟩
def Bu.BU_MAC (n : Nat) : Entry := ⟨0x3A00 + n, 0x1, 48, 0⟩
def Bu.VLAN (n : Nat) : Entry := ⟨0x3A00 + n, 0x2, 16, 0⟩
def Bu.PCP (n : Nat) : Entry := ⟨0x3A00 + n, 0x3, 8, 4⟩
def Bu.EVT_MODE (n : Nat) : Entry := ⟨0x3A00 + n, 0x4, 8, 0⟩
def Bu.POLL_PERIOD_US (n : Nat) : Entry := ⟨0x3A00 + n, 0x5, 32, 10000⟩
def Bu.EXPORTS (n : Nat) : Entry := ⟨0x3A00 + n, 0x6, 0, 0⟩
def Bu.ENDPOINTS (n : Nat) : Entry := ⟨0x3A00 + n, 0x7, 0, 0⟩
def Bu.RETRY_US (n : Nat) : Entry := ⟨0x3A00 + n, 0x8, 32, 250⟩
def Bu.RETRIES (n : Nat) : Entry := ⟨0x3A00 + n, 0x9, 8, 3⟩
def Bu.POLL_KEY_SLOT (n : Nat) : Entry := ⟨0x3A00 + n, 0xA, 8, 0⟩
def Bu.RX_REJECTED (n : Nat) : Entry := ⟨0x3A00 + n, 0x10, 64, 0⟩
def Bu.EVT_UNKNOWN (n : Nat) : Entry := ⟨0x3A00 + n, 0x11, 64, 0⟩
def Bu.ORPHANS (n : Nat) : Entry := ⟨0x3A00 + n, 0x12, 64, 0⟩
def Bu.POLLS (n : Nat) : Entry := ⟨0x3A00 + n, 0x13, 64, 0⟩
def Bu.COUNTER_SAT (n : Nat) : Entry := ⟨0x3A00 + n, 0x14, 8, 0⟩
def Bu.APPLY_STATUS (n : Nat) : Entry := ⟨0x3A00 + n, 0xFD, 32, 0⟩
def Bu.APPLY (n : Nat) : Entry := ⟨0x3A00 + n, 0xFE, 8, 0⟩
def Tun.ENABLE (n : Nat) : Entry := ⟨0x3A20 + n, 0x1, 8, 0⟩
def Tun.UNIT (n : Nat) : Entry := ⟨0x3A20 + n, 0x2, 8, 0⟩
def Tun.CHANNEL (n : Nat) : Entry := ⟨0x3A20 + n, 0x3, 8, 0⟩
def Tun.DIR (n : Nat) : Entry := ⟨0x3A20 + n, 0x4, 8, 0⟩
def Tun.FILT_ID (n : Nat) : Entry := ⟨0x3A20 + n, 0x5, 32, 0⟩
def Tun.FILT_MASK (n : Nat) : Entry := ⟨0x3A20 + n, 0x6, 32, 0⟩
def Tun.DEST_MAC (n : Nat) : Entry := ⟨0x3A20 + n, 0x7, 48, 0⟩
def Tun.BUS_ID (n : Nat) : Entry := ⟨0x3A20 + n, 0x8, 8, 0⟩
def Tun.BATCH (n : Nat) : Entry := ⟨0x3A20 + n, 0x9, 8, 1⟩
def Tun.BATCH_US (n : Nat) : Entry := ⟨0x3A20 + n, 0xA, 16, 0⟩
def Tun.STREAM_ID (n : Nat) : Entry := ⟨0x3A20 + n, 0xB, 64, 0⟩
def Tun.TUN_OUT (n : Nat) : Entry := ⟨0x3A20 + n, 0x10, 64, 0⟩
def Tun.TUN_IN (n : Nat) : Entry := ⟨0x3A20 + n, 0x11, 64, 0⟩
def Tun.TUN_DROPPED (n : Nat) : Entry := ⟨0x3A20 + n, 0x12, 64, 0⟩
def Tun.COUNTER_SAT (n : Nat) : Entry := ⟨0x3A20 + n, 0x13, 8, 0⟩
def Tun.APPLY_STATUS (n : Nat) : Entry := ⟨0x3A20 + n, 0xFD, 32, 0⟩
def Tun.APPLY (n : Nat) : Entry := ⟨0x3A20 + n, 0xFE, 8, 0⟩
def Bctx.ENABLE (n : Nat) : Entry := ⟨0x3B00 + n, 0x1, 8, 0⟩
def Bctx.STATE (n : Nat) : Entry := ⟨0x3B00 + n, 0x2, 8, 0⟩
def Bctx.DRAIN_MS (n : Nat) : Entry := ⟨0x3B00 + n, 0x3, 16, 100⟩
def Bctx.HALL (n : Nat) : Entry := ⟨0x3B00 + n, 0x4, 8, 0⟩
def Bctx.REMOTE_NODE (n : Nat) : Entry := ⟨0x3B00 + n, 0x5, 16, 0⟩
def Bctx.REMOTE_MAC (n : Nat) : Entry := ⟨0x3B00 + n, 0x6, 48, 0⟩
def Bctx.WIN_OFFSET (n : Nat) : Entry := ⟨0x3B00 + n, 0x7, 32, 0⟩
def Bctx.WIN_SIZE (n : Nat) : Entry := ⟨0x3B00 + n, 0x8, 32, 0⟩
def Bctx.REMOTE_BASE (n : Nat) : Entry := ⟨0x3B00 + n, 0x9, 64, 0⟩
def Bctx.PREFETCH (n : Nat) : Entry := ⟨0x3B00 + n, 0xA, 8, 0⟩
def Bctx.KEY_SLOT (n : Nat) : Entry := ⟨0x3B00 + n, 0xB, 8, 0⟩
def Bctx.MODE (n : Nat) : Entry := ⟨0x3B00 + n, 0xC, 8, 1⟩
def Bctx.EVT_DELIVERY (n : Nat) : Entry := ⟨0x3B00 + n, 0xD, 8, 0⟩
def Bctx.EPOCH (n : Nat) : Entry := ⟨0x3B00 + n, 0x10, 16, 0⟩
def Bctx.SESSION (n : Nat) : Entry := ⟨0x3B00 + n, 0x11, 8, 0⟩
def Bctx.READS (n : Nat) : Entry := ⟨0x3B00 + n, 0x12, 64, 0⟩
def Bctx.POSTED (n : Nat) : Entry := ⟨0x3B00 + n, 0x13, 64, 0⟩
def Bctx.FAILURES (n : Nat) : Entry := ⟨0x3B00 + n, 0x14, 64, 0⟩
def Bctx.TIMEOUTS (n : Nat) : Entry := ⟨0x3B00 + n, 0x15, 64, 0⟩
def Bctx.RETRANSMITS (n : Nat) : Entry := ⟨0x3B00 + n, 0x16, 64, 0⟩
def Bctx.COUNTER_SAT (n : Nat) : Entry := ⟨0x3B00 + n, 0x17, 8, 0⟩
def Bctx.APPLY_STATUS (n : Nat) : Entry := ⟨0x3B00 + n, 0xFD, 32, 0⟩
def Bctx.APPLY (n : Nat) : Entry := ⟨0x3B00 + n, 0xFE, 8, 0⟩
def Slp.POWER_REQ : Entry := ⟨0x3C00, 0x1, 8, 0⟩
def Slp.ENTRY : Entry := ⟨0x3C00, 0x2, 8, 0⟩
def Slp.DOM_STATE : Entry := ⟨0x3C00, 0x3, 256, 0⟩
def Slp.WAKE_REQ : Entry := ⟨0x3C00, 0x4, 8, 0⟩
def Slp.WAKE_RECORD : Entry := ⟨0x3C00, 0x5, 128, 0⟩
def Slp.SLEEPS : Entry := ⟨0x3C00, 0x6, 64, 0⟩
def Slp.ABORTS : Entry := ⟨0x3C00, 0x7, 64, 0⟩
def Slp.COUNTER_SAT : Entry := ⟨0x3C00, 0x8, 8, 0⟩
def Slpm.MODEL : Entry := ⟨0x3C01, 0x1, 8, 0⟩
def Slpm.KA_CAN_BASE : Entry := ⟨0x3C01, 0x2, 32, 535822336⟩
def Slpm.APPLY_STATUS : Entry := ⟨0x3C01, 0xFD, 32, 0⟩
def Slpm.APPLY : Entry := ⟨0x3C01, 0xFE, 8, 0⟩
def Sdom.KA_EN (n : Nat) : Entry := ⟨0x3C10 + n, 0x1, 8, 0⟩
def Sdom.KA_PERIOD_MS (n : Nat) : Entry := ⟨0x3C10 + n, 0x2, 16, 100⟩
def Sdom.QUIET_MS (n : Nat) : Entry := ⟨0x3C10 + n, 0x3, 16, 2000⟩
def Sdom.WAIT_MS (n : Nat) : Entry := ⟨0x3C10 + n, 0x4, 16, 1000⟩
def Sdom.APPLY_STATUS (n : Nat) : Entry := ⟨0x3C10 + n, 0xFD, 32, 0⟩
def Sdom.APPLY (n : Nat) : Entry := ⟨0x3C10 + n, 0xFE, 8, 0⟩
def Watch.WATCH (i : Nat) : Entry := ⟨0x3C40, 0x1 + i, 16, 0⟩
def Watch.APPLY_STATUS : Entry := ⟨0x3C40, 0xFD, 32, 0⟩
def Watch.APPLY : Entry := ⟨0x3C40, 0xFE, 8, 0⟩
def Wsrc.WAKE_MODE (n : Nat) : Entry := ⟨0x3C50 + n, 0x1, 8, 0⟩
def Wsrc.FILTER_BASE (n : Nat) : Entry := ⟨0x3C50 + n, 0x2, 32, if n < 16 then 1250 else 1000000⟩
def Wsrc.FILTER_MAX (n : Nat) : Entry := ⟨0x3C50 + n, 0x3, 32, if n < 16 then 80000 else 64000000⟩
def Wsrc.FW_THRESH (n : Nat) : Entry := ⟨0x3C50 + n, 0x4, 8, 8⟩
def Wsrc.FW_WINDOW_MS (n : Nat) : Entry := ⟨0x3C50 + n, 0x5, 16, 2000⟩
def Wsrc.SW_ID (n : Nat) : Entry := ⟨0x3C50 + n, 0x6, 32, 0⟩
def Wsrc.SW_ID_MASK (n : Nat) : Entry := ⟨0x3C50 + n, 0x7, 32, 536870911⟩
def Wsrc.SW_DATA (n : Nat) : Entry := ⟨0x3C50 + n, 0x8, 64, 0⟩
def Wsrc.SW_DATA_MASK (n : Nat) : Entry := ⟨0x3C50 + n, 0x9, 64, 0⟩
def Wsrc.SW_DLC (n : Nat) : Entry := ⟨0x3C50 + n, 0xA, 8, 255⟩
def Wsrc.SW_RATE (n : Nat) : Entry := ⟨0x3C50 + n, 0xB, 8, 2⟩
def Wsrc.FW_COUNT (n : Nat) : Entry := ⟨0x3C50 + n, 0x10, 8, 0⟩
def Wsrc.FILTER_CUR (n : Nat) : Entry := ⟨0x3C50 + n, 0x11, 32, if n < 16 then 1250 else 1000000⟩
def Wsrc.QUARANTINED (n : Nat) : Entry := ⟨0x3C50 + n, 0x12, 8, 0⟩
def Wsrc.WAKES (n : Nat) : Entry := ⟨0x3C50 + n, 0x13, 64, 0⟩
def Wsrc.FALSE_WAKES (n : Nat) : Entry := ⟨0x3C50 + n, 0x14, 64, 0⟩
def Wsrc.COUNTER_SAT (n : Nat) : Entry := ⟨0x3C50 + n, 0x15, 8, 0⟩
def Wsrc.APPLY_STATUS (n : Nat) : Entry := ⟨0x3C50 + n, 0xFD, 32, 0⟩
def Wsrc.APPLY (n : Nat) : Entry := ⟨0x3C50 + n, 0xFE, 8, 0⟩
def Lc.OWNER (n : Nat) : Entry := ⟨0x4000 + n, 0x1, 8, 0⟩
def Lc.ILIM_MA (n : Nat) : Entry := ⟨0x4000 + n, 0x2, 16, if n < 20 then 7000 else 14000⟩
def Lc.INRUSH_MA (n : Nat) : Entry := ⟨0x4000 + n, 0x3, 16, if n < 20 then 12000 else 24000⟩
def Lc.INRUSH_MS (n : Nat) : Entry := ⟨0x4000 + n, 0x4, 8, 10⟩
def Lc.RETRY_MODE (n : Nat) : Entry := ⟨0x4000 + n, 0x5, 8, 1⟩
def Lc.RETRY_MAX (n : Nat) : Entry := ⟨0x4000 + n, 0x6, 8, 3⟩
def Lc.RETRY_DELAY_MS (n : Nat) : Entry := ⟨0x4000 + n, 0x7, 16, 100⟩
def Lc.RETRY_CLEAR_MS (n : Nat) : Entry := ⟨0x4000 + n, 0x8, 16, 1000⟩
def Lc.SAFE_STATE (n : Nat) : Entry := ⟨0x4000 + n, 0x9, 8, 0⟩
def Lc.SAFE_DUTY (n : Nat) : Entry := ⟨0x4000 + n, 0xA, 16, 10000⟩
def Lc.PWM_PERIOD_US (n : Nat) : Entry := ⟨0x4000 + n, 0xB, 32, 10000⟩
def Lc.PWM_PHASE_US (n : Nat) : Entry := ⟨0x4000 + n, 0xC, 32, 0⟩
def Lc.OL_EN (n : Nat) : Entry := ⟨0x4000 + n, 0xD, 8, 0⟩
def Lc.DIODE_OR (n : Nat) : Entry := ⟨0x4000 + n, 0xE, 8, 0⟩
def Lc.COUPLED_MAX_MS (n : Nat) : Entry := ⟨0x4000 + n, 0xF, 16, 5000⟩
def Lc.PAIR (n : Nat) : Entry := ⟨0x4000 + n, 0x10, 8, 0⟩
def Lc.CMD (n : Nat) : Entry := ⟨0x4000 + n, 0x20, 32, 0⟩
def Lc.STATE (n : Nat) : Entry := ⟨0x4000 + n, 0x21, 8, 0⟩
def Lc.FLAGS (n : Nat) : Entry := ⟨0x4000 + n, 0x22, 8, 0⟩
def Lc.CURRENT_MA (n : Nat) : Entry := ⟨0x4000 + n, 0x23, 16, 0⟩
def Lc.TJ_C (n : Nat) : Entry := ⟨0x4000 + n, 0x24, 16, 0⟩
def Lc.RETRIES_LEFT (n : Nat) : Entry := ⟨0x4000 + n, 0x25, 8, 3⟩
def Lc.CLEAR (n : Nat) : Entry := ⟨0x4000 + n, 0x26, 8, 0⟩
def Lc.TRIPS (n : Nat) : Entry := ⟨0x4000 + n, 0x30, 64, 0⟩
def Lc.COUPLED_TRIPS (n : Nat) : Entry := ⟨0x4000 + n, 0x31, 64, 0⟩
def Lc.LATCHES (n : Nat) : Entry := ⟨0x4000 + n, 0x32, 64, 0⟩
def Lc.LIMIT_EVENTS (n : Nat) : Entry := ⟨0x4000 + n, 0x33, 64, 0⟩
def Lc.OPEN_LOADS (n : Nat) : Entry := ⟨0x4000 + n, 0x34, 64, 0⟩
def Lc.SHORTS_VBAT (n : Nat) : Entry := ⟨0x4000 + n, 0x35, 64, 0⟩
def Lc.CLAMP_EVENTS (n : Nat) : Entry := ⟨0x4000 + n, 0x36, 64, 0⟩
def Lc.COUNTER_SAT (n : Nat) : Entry := ⟨0x4000 + n, 0x37, 8, 0⟩
def Lc.HOLD_MS : Entry := ⟨0x4000, 0x48, 16, 0⟩
def Lc.LOSS_MW : Entry := ⟨0x4000, 0x49, 32, 0⟩
def Lc.LOSS_LIMIT_MW : Entry := ⟨0x4000, 0x4A, 32, 8000⟩
def Lc.SELEXT : Entry := ⟨0x4000, 0x4B, 8, 0⟩
def Lc.APPLY_STATUS (n : Nat) : Entry := ⟨0x4000 + n, 0xFD, 32, 0⟩
def Lc.APPLY (n : Nat) : Entry := ⟨0x4000 + n, 0xFE, 8, 0⟩
def Lcg.R_SENSE_OHM (n : Nat) : Entry := ⟨0x4000 + 8 * n, 0x40, 16, 1000⟩
def Lcg.SETTLE_US (n : Nat) : Entry := ⟨0x4000 + 8 * n, 0x41, 16, 25⟩
def Lcg.DIE_TEMP_C (n : Nat) : Entry := ⟨0x4000 + 8 * n, 0x42, 16, 0⟩
def Lcg.DELTA_T_K (n : Nat) : Entry := ⟨0x4000 + 8 * n, 0x43, 16, 0⟩
def Lcg.VBAT_MV (n : Nat) : Entry := ⟨0x4000 + 8 * n, 0x44, 16, 0⟩
def Adc.ENABLE (n : Nat) : Entry := ⟨0x4100 + n, 0x1, 8, 1⟩
def Adc.STATE (n : Nat) : Entry := ⟨0x4100 + n, 0x2, 8, 1⟩
def Adc.DRAIN_MS (n : Nat) : Entry := ⟨0x4100 + n, 0x3, 16, 1⟩
def Adc.OVERLAPS (n : Nat) : Entry := ⟨0x4100 + n, 0x4, 64, 0⟩
def Adc.COUNTER_SAT (n : Nat) : Entry := ⟨0x4100 + n, 0x5, 8, 0⟩
def Aseq.LENGTH (n : Nat) : Entry := ⟨0x4110 + n, 0x1, 8, 1⟩
def Aseq.LIST (n : Nat) : Entry := ⟨0x4110 + n, 0x2, 128, 0⟩
def Aseq.APPLY_STATUS (n : Nat) : Entry := ⟨0x4110 + n, 0xFD, 32, 0⟩
def Aseq.APPLY (n : Nat) : Entry := ⟨0x4110 + n, 0xFE, 8, 0⟩
def Ain.RANGE (n : Nat) : Entry := ⟨0x4130 + n, 0x1, 8, 0⟩
def Ain.VALUE (n : Nat) : Entry := ⟨0x4130 + n, 0x2, 32, 0⟩
def Ain.FLAGS (n : Nat) : Entry := ⟨0x4130 + n, 0x3, 8, 0⟩
def Ain.APPLY_STATUS (n : Nat) : Entry := ⟨0x4130 + n, 0xFD, 32, 0⟩
def Ain.APPLY (n : Nat) : Entry := ⟨0x4130 + n, 0xFE, 8, 0⟩
def Aint.INTERNAL (i : Nat) : Entry := ⟨0x4140, 0x10 + i, 32, 0⟩
def Se.CMD : Entry := ⟨0x4400, 0x1, 8, 0⟩
def Se.STATE : Entry := ⟨0x4400, 0x2, 8, 0⟩
def Se.CMD_STATUS : Entry := ⟨0x4400, 0x3, 32, 0⟩
def Se.AUTOSTART : Entry := ⟨0x4400, 0x4, 8, 0⟩
def Se.ACTIVE_ID : Entry := ⟨0x4400, 0x5, 32, 0⟩
def Se.FAULT_CAUSE : Entry := ⟨0x4400, 0x6, 32, 0⟩
def Se.RETAIN_STATUS : Entry := ⟨0x4400, 0x7, 8, 0⟩
def Se.EVT_FIRE : Entry := ⟨0x4400, 0xA, 32, 0⟩
def Se.DONE_IGNORED : Entry := ⟨0x4400, 0xB, 64, 0⟩
def Se.STN_UNKNOWN : Entry := ⟨0x4400, 0xC, 64, 0⟩
def Se.COUNTER_SAT : Entry := ⟨0x4400, 0xD, 8, 0⟩
def Senet.SE_MAC : Entry := ⟨0x4401, 0x1, 48, 0⟩
def Senet.APPLY_STATUS : Entry := ⟨0x4401, 0xFD, 32, 0⟩
def Senet.APPLY : Entry := ⟨0x4401, 0xFE, 8, 0⟩
def Seimg.ALT_IMAGE : Entry := ⟨0x4402, 0x1, 0, 0⟩
def Seimg.ACTIVE_IMAGE : Entry := ⟨0x4402, 0x2, 0, 0⟩
def Task.CYCLES (n : Nat) : Entry := ⟨0x4410 + n, 0x1, 64, 0⟩
def Task.LAST_EXEC_NS (n : Nat) : Entry := ⟨0x4410 + n, 0x2, 32, 0⟩
def Task.MAX_EXEC_NS (n : Nat) : Entry := ⟨0x4410 + n, 0x3, 32, 0⟩
def Task.MAX_DELAY_NS (n : Nat) : Entry := ⟨0x4410 + n, 0x4, 32, 0⟩
def Task.MERGED (n : Nat) : Entry := ⟨0x4410 + n, 0x5, 64, 0⟩
def Task.SKIPPED (n : Nat) : Entry := ⟨0x4410 + n, 0x6, 64, 0⟩
def Task.COUNTER_SAT (n : Nat) : Entry := ⟨0x4410 + n, 0x7, 8, 0⟩
def Stn.KIND (n : Nat) : Entry := ⟨0x4480 + n, 0x1, 8, 0⟩
def Stn.MAC (n : Nat) : Entry := ⟨0x4480 + n, 0x2, 48, 0⟩
def Stn.PORT (n : Nat) : Entry := ⟨0x4480 + n, 0x3, 8, 255⟩
def Stn.VLAN (n : Nat) : Entry := ⟨0x4480 + n, 0x4, 16, 0⟩
def Stn.PCP (n : Nat) : Entry := ⟨0x4480 + n, 0x5, 8, 6⟩
def Stn.CHANNEL (n : Nat) : Entry := ⟨0x4480 + n, 0x6, 8, 0⟩
def Stn.STATE (n : Nat) : Entry := ⟨0x4480 + n, 0x10, 8, 0⟩
def Stn.EPOCH (n : Nat) : Entry := ⟨0x4480 + n, 0x11, 16, 0⟩
def Stn.RX_FRAMES (n : Nat) : Entry := ⟨0x4480 + n, 0x12, 64, 0⟩
def Stn.RX_STALE (n : Nat) : Entry := ⟨0x4480 + n, 0x13, 64, 0⟩
def Stn.RX_BAD (n : Nat) : Entry := ⟨0x4480 + n, 0x14, 64, 0⟩
def Stn.TX_FRAMES (n : Nat) : Entry := ⟨0x4480 + n, 0x15, 64, 0⟩
def Stn.TX_HELD (n : Nat) : Entry := ⟨0x4480 + n, 0x16, 64, 0⟩
def Stn.LOSSES (n : Nat) : Entry := ⟨0x4480 + n, 0x17, 64, 0⟩
def Stn.COUNTER_SAT (n : Nat) : Entry := ⟨0x4480 + n, 0x18, 8, 0⟩
def Stn.APPLY_STATUS (n : Nat) : Entry := ⟨0x4480 + n, 0xFD, 32, 0⟩
def Stn.APPLY (n : Nat) : Entry := ⟨0x4480 + n, 0xFE, 8, 0⟩
def Chg.CHANGE : Entry := ⟨0x4600, 0x1, 16, 0⟩
def Chg.CHANGE_STATE : Entry := ⟨0x4600, 0x2, 8, 0⟩
def Chg.CHANGE_STATUS : Entry := ⟨0x4600, 0x3, 32, 0⟩
def Chg.WINDOW_PERIODS : Entry := ⟨0x4600, 0x4, 8, 10⟩
def Chg.STANDBY_READY_MS : Entry := ⟨0x4600, 0x5, 16, 2000⟩
def Chg.CHANGE_RESULT : Entry := ⟨0x4600, 0x6, 0, 0⟩
def Chg.MAP_TABLE : Entry := ⟨0x4600, 0x7, 0, 0⟩
def Chg.CHANGES : Entry := ⟨0x4600, 0x8, 64, 0⟩
def Chg.REFUSALS : Entry := ⟨0x4600, 0x9, 64, 0⟩
def Chg.COUNTER_SAT : Entry := ⟨0x4600, 0xA, 8, 0⟩
def Frc.FORCE_SET : Entry := ⟨0x4610, 0x1, 576, 0⟩
def Frc.FORCE_RELEASE : Entry := ⟨0x4610, 0x2, 32, 0⟩
def Frc.FORCE_RELEASE_ALL : Entry := ⟨0x4610, 0x3, 8, 0⟩
def Frc.FORCE_COUNT : Entry := ⟨0x4610, 0x4, 16, 0⟩
def Frc.FORCE_TABLE : Entry := ⟨0x4610, 0x5, 0, 0⟩
def Frc.FORCE_GEN : Entry := ⟨0x4610, 0x6, 32, 0⟩
def Sto.HEALTH : Entry := ⟨0x4800, 0x1, 8, 0⟩
def Sto.LIFE_USED : Entry := ⟨0x4800, 0x2, 8, 0⟩
def Sto.SPARE_BLOCKS : Entry := ⟨0x4800, 0x3, 16, 1024⟩
def Sto.SPARE_INITIAL : Entry := ⟨0x4800, 0x4, 16, 1024⟩
def Sto.BAD_FACTORY : Entry := ⟨0x4800, 0x5, 16, 0⟩
def Sto.BAD_GROWN : Entry := ⟨0x4800, 0x6, 16, 0⟩
def Sto.ERASE_MEAN : Entry := ⟨0x4800, 0x7, 32, 0⟩
def Sto.ERASE_MAX : Entry := ⟨0x4800, 0x8, 32, 0⟩
def Sto.NAND_TEMP_C : Entry := ⟨0x4800, 0x9, 16, 0⟩
def Sto.SCRUB_DAYS : Entry := ⟨0x4800, 0xA, 16, 30⟩
def Sto.HOST_WRITE_BYTES : Entry := ⟨0x4800, 0x10, 64, 0⟩
def Sto.NAND_WRITE_BYTES : Entry := ⟨0x4800, 0x11, 64, 0⟩
def Sto.READ_BYTES : Entry := ⟨0x4800, 0x12, 64, 0⟩
def Sto.CORRECTED_CW : Entry := ⟨0x4800, 0x13, 64, 0⟩
def Sto.UNCORRECTABLE : Entry := ⟨0x4800, 0x14, 64, 0⟩
def Sto.REFRESHES : Entry := ⟨0x4800, 0x15, 64, 0⟩
def Sto.MOUNTS_UNCLEAN : Entry := ⟨0x4800, 0x16, 64, 0⟩
def Sto.COUNTER_SAT : Entry := ⟨0x4800, 0x17, 8, 0⟩
def Sto.WRITE_AMP : Entry := ⟨0x4800, 0x18, 16, 0⟩
def Stoc.HALLS_MIB : Entry := ⟨0x4801, 0x1, 32, 4096⟩
def Stoc.APPLY_STATUS : Entry := ⟨0x4801, 0xFD, 32, 0⟩
def Stoc.APPLY : Entry := ⟨0x4801, 0xFE, 8, 0⟩
def Stlog.LOG_MIB : Entry := ⟨0x4802, 0x1, 32, 6976⟩
def Stlog.LOG_OLDEST : Entry := ⟨0x4802, 0x2, 64, 0⟩
def Stlog.LOG_NEXT : Entry := ⟨0x4802, 0x3, 64, 0⟩
def Evl.EVENT_FIRST : Entry := ⟨0x4803, 0x1, 64, 0⟩
def Evl.EVENT_NEXT : Entry := ⟨0x4803, 0x2, 64, 0⟩
def Evl.EVENT_FROM : Entry := ⟨0x4803, 0x3, 64, 0⟩
def Evl.EVENT_WINDOW : Entry := ⟨0x4803, 0x4, 0, 0⟩
def Part.PART_MIB (n : Nat) : Entry := ⟨0x4820 + n, 0x1, 32, 0⟩
def Part.USED_MIB (n : Nat) : Entry := ⟨0x4820 + n, 0x2, 32, 0⟩
def Part.ERASE (n : Nat) : Entry := ⟨0x4820 + n, 0x3, 8, 0⟩
def Part.READ_BYTES (n : Nat) : Entry := ⟨0x4820 + n, 0x10, 64, 0⟩
def Part.WRITE_BYTES (n : Nat) : Entry := ⟨0x4820 + n, 0x11, 64, 0⟩
def Part.ERRORS (n : Nat) : Entry := ⟨0x4820 + n, 0x12, 64, 0⟩
def Part.COUNTER_SAT (n : Nat) : Entry := ⟨0x4820 + n, 0x13, 8, 0⟩
def Part.APPLY_STATUS (n : Nat) : Entry := ⟨0x4820 + n, 0xFD, 32, 0⟩
def Part.APPLY (n : Nat) : Entry := ⟨0x4820 + n, 0xFE, 8, 0⟩
def Upd.ACTIVE_VERSION : Entry := ⟨0x4A00, 0x1, 32, 0⟩
def Upd.STAGING_CMD : Entry := ⟨0x4A00, 0x2, 8, 0⟩
def Upd.STAGING_STATE : Entry := ⟨0x4A00, 0x3, 8, 0⟩
def Upd.STAGED_VERSION : Entry := ⟨0x4A00, 0x4, 32, 0⟩
def Upd.ACTIVE_SEC_VERSION : Entry := ⟨0x4A00, 0x5, 8, 0⟩
def Upd.IMAGE_STATE : Entry := ⟨0x4A00, 0x6, 8, 0⟩
def Upd.CONFIRM : Entry := ⟨0x4A00, 0x7, 8, 0⟩
def Upd.FAILED_STARTS : Entry := ⟨0x4A00, 0x8, 8, 0⟩
def Upd.RETRY_ACTIVE : Entry := ⟨0x4A00, 0x9, 8, 0⟩
def Upd.LAST_RESULT : Entry := ⟨0x4A00, 0xA, 32, 0⟩
def Upd.SETTINGS_VERSION : Entry := ⟨0x4A00, 0xB, 16, 0⟩
def Upd.TWIN_COMPAT : Entry := ⟨0x4A00, 0xC, 16, 0⟩
def Upd.UPDATES : Entry := ⟨0x4A00, 0xD, 64, 0⟩
def Upd.REJECTS : Entry := ⟨0x4A00, 0xE, 64, 0⟩
def Upd.RESCUE_STARTS : Entry := ⟨0x4A00, 0xF, 64, 0⟩
def Upd.COUNTER_SAT : Entry := ⟨0x4A00, 0x10, 8, 0⟩
def Stg.STAGING : Entry := ⟨0x4A01, 0x1, 0, 0⟩
def Twc.TWIN_EN : Entry := ⟨0x4C00, 0x1, 8, 0⟩
def Twc.PEER_NODE : Entry := ⟨0x4C00, 0x2, 16, 0⟩
def Twc.GAL_KEY_SLOT : Entry := ⟨0x4C00, 0x3, 8, 0⟩
def Twc.QUERY_CTX : Entry := ⟨0x4C00, 0x4, 16, 65535⟩
def Twc.BLOCK_MAC : Entry := ⟨0x4C00, 0x5, 48, 0⟩
def Twc.QUERY_FAIL_PROMOTE : Entry := ⟨0x4C00, 0x6, 8, 1⟩
def Twc.AUTO_ATTACH : Entry := ⟨0x4C00, 0x7, 8, 1⟩
def Twc.LIVE_MS : Entry := ⟨0x4C00, 0x8, 16, 0⟩
def Twc.MISMATCH_LIMIT : Entry := ⟨0x4C00, 0x9, 8, 3⟩
def Twc.GAL_TIMEOUT_US : Entry := ⟨0x4C00, 0xA, 32, 1000⟩
def Twc.BLOCK_ROLE : Entry := ⟨0x4C00, 0xB, 8, 0⟩
def Twc.APPLY_STATUS : Entry := ⟨0x4C00, 0xFD, 32, 0⟩
def Twc.APPLY : Entry := ⟨0x4C00, 0xFE, 8, 0⟩
def Tws.ROLE : Entry := ⟨0x4C01, 0x1, 8, 0⟩
def Tws.ROLE_EPOCH : Entry := ⟨0x4C01, 0x2, 16, 0⟩
def Tws.POSITION : Entry := ⟨0x4C01, 0x3, 8, 0⟩
def Tws.PEER_ROLE : Entry := ⟨0x4C01, 0x4, 8, 255⟩
def Tws.PATHS : Entry := ⟨0x4C01, 0x5, 8, 0⟩
def Tws.CMD : Entry := ⟨0x4C01, 0x6, 8, 0⟩
def Tws.CMD_STATUS : Entry := ⟨0x4C01, 0x7, 16, 0⟩
def Tws.LIVE_KICK : Entry := ⟨0x4C01, 0x8, 8, 0⟩
def Tws.REPL_MBPS : Entry := ⟨0x4C01, 0x9, 16, 0⟩
def Tws.PROMOTIONS : Entry := ⟨0x4C01, 0x10, 64, 0⟩
def Tws.HANDOVERS : Entry := ⟨0x4C01, 0x11, 64, 0⟩
def Tws.OUT_MISMATCHES : Entry := ⟨0x4C01, 0x12, 64, 0⟩
def Tws.GAL_AUTH_FAIL : Entry := ⟨0x4C01, 0x13, 64, 0⟩
def Tws.SPLIT_PATHS : Entry := ⟨0x4C01, 0x14, 64, 0⟩
def Tws.WIRING_FAULTS : Entry := ⟨0x4C01, 0x15, 64, 0⟩
def Tws.REPL_LATE : Entry := ⟨0x4C01, 0x16, 64, 0⟩
def Tws.COUNTER_SAT : Entry := ⟨0x4C01, 0x17, 8, 0⟩
def Tws.PEER_EPOCH : Entry := ⟨0x4C01, 0x18, 16, 0⟩
def Nrole.NODE_ROLE : Entry := ⟨0x4C40, 0x1, 0, 0⟩
def Evlog.LAST_SEQ : Entry := ⟨0x5000, 0x1, 32, 0⟩
def Evlog.LOG_LOST : Entry := ⟨0x5000, 0x2, 64, 0⟩
def Evlog.BOOT_COUNT : Entry := ⟨0x5000, 0x3, 32, 0⟩

end Sys2Proof.Machine.Ent
end

