-- ==== Sys2Proof/Machine/Kv.lean ====
section
/-! DEFINITION. Keyed lists in canonical form: keys strictly rising. `put` keeps a second condition for stores with a default: no
listed value equals the default, so equal contents are equal lists. -/

namespace Sys2Proof.Machine

/-- The value listed under `k`. -/
def KV.find {α : Type} (k : Nat) : KV α → Option α
  | [] => none
  | (j, v) :: r => if j = k then some v else KV.find k r

/-- List `v` under `k`, in order, in place of what was listed there. -/
def KV.insert {α : Type} (k : Nat) (v : α) : KV α → KV α
  | [] => [(k, v)]
  | (j, w) :: r => if k < j then (k, v) :: (j, w) :: r else if j = k then (k, v) :: r else (j, w) :: KV.insert k v r

/-- Take `k` out. -/
def KV.erase {α : Type} (k : Nat) : KV α → KV α
  | [] => []
  | (j, w) :: r => if j = k then KV.erase k r else (j, w) :: KV.erase k r

/-- The value at `k` where an unlisted key holds `d`. -/
def KV.get {α : Type} (d : α) (k : Nat) (st : KV α) : α := (KV.find k st).getD d

/-- Store `v` at `k` where an unlisted key holds `d`: storing `d` takes the entry out. -/
def KV.put {α : Type} [DecidableEq α] (d : α) (k : Nat) (v : α) (st : KV α) : KV α :=
  if v = d then KV.erase k st else KV.insert k v st

/-- Keep the entries that satisfy `p`. -/
def KV.keep {α : Type} (p : Nat → α → Bool) : KV α → KV α
  | [] => []
  | (j, w) :: r => if p j w then (j, w) :: KV.keep p r else KV.keep p r

/-- Change every value in place. -/
def KV.mapVal {α : Type} (f : Nat → α → α) : KV α → KV α
  | [] => []
  | (j, w) :: r => (j, f j w) :: KV.mapVal f r

/-- Every key of the list is above `n`. -/
def KV.above {α : Type} (n : Nat) : KV α → Bool
  | [] => true
  | (j, _) :: r => decide (n < j) && KV.above n r

/-- Keys strictly rising. -/
def KV.sorted {α : Type} : KV α → Bool
  | [] => true
  | (j, _) :: r => KV.above j r && KV.sorted r

/-- No listed value equals the default of its key. -/
def KV.noDefault {α : Type} [DecidableEq α] (d : Nat → α) : KV α → Bool
  | [] => true
  | (j, w) :: r => decide (w ≠ d j) && KV.noDefault d r

end Sys2Proof.Machine
end

