-- ==== Sys2Proof/Machine/Registers.lean ====
section
/-! DEFINITION. The manual's names for memory-mapped register fields, as `Field` constants: address, bits and the reset value of
the whole word the field lies in. Arguments are the instance numbers, outermost first. -/

namespace Sys2Proof.Machine.Rg

def Mb.OP (n : Nat) : Field := ⟨0x1EF00000 + 0x1000 * n, 31, 24, 0x0⟩
def Mb.SUBINDEX (n : Nat) : Field := ⟨0x1EF00000 + 0x1000 * n, 23, 16, 0x0⟩
def Mb.INDEX (n : Nat) : Field := ⟨0x1EF00000 + 0x1000 * n, 15, 0, 0x0⟩
def Mb.GO (n : Nat) : Field := ⟨0x1EF00000 + 0x1000 * n + 0x4, 31, 31, 0x0⟩
def Mb.IE (n : Nat) : Field := ⟨0x1EF00000 + 0x1000 * n + 0x4, 30, 30, 0x0⟩
def Mb.MORE (n : Nat) : Field := ⟨0x1EF00000 + 0x1000 * n + 0x4, 18, 18, 0x0⟩
def Mb.SHADOW (n : Nat) : Field := ⟨0x1EF00000 + 0x1000 * n + 0x4, 17, 17, 0x0⟩
def Mb.EPV (n : Nat) : Field := ⟨0x1EF00000 + 0x1000 * n + 0x4, 16, 16, 0x0⟩
def Mb.EPOCH (n : Nat) : Field := ⟨0x1EF00000 + 0x1000 * n + 0x4, 15, 0, 0x0⟩
def Mb.DONE (n : Nat) : Field := ⟨0x1EF00000 + 0x1000 * n + 0x18, 31, 31, 0x0⟩
def Mb.BUSY (n : Nat) : Field := ⟨0x1EF00000 + 0x1000 * n + 0x18, 30, 30, 0x0⟩
def Mb.OVERRUN (n : Nat) : Field := ⟨0x1EF00000 + 0x1000 * n + 0x18, 29, 29, 0x0⟩
def Mb.CODE (n : Nat) : Field := ⟨0x1EF00000 + 0x1000 * n + 0x18, 15, 0, 0x0⟩
def Mb.MB_LEN (n : Nat) : Field := ⟨0x1EF00000 + 0x1000 * n + 0x8, 31, 0, 0x0⟩
def Mb.MB_OFFSET (n : Nat) : Field := ⟨0x1EF00000 + 0x1000 * n + 0xC, 31, 0, 0x0⟩
def Mb.MB_TYPE (n : Nat) : Field := ⟨0x1EF00000 + 0x1000 * n + 0x10, 15, 0, 0x0⟩
def Mb.MB_TOTAL (n : Nat) : Field := ⟨0x1EF00000 + 0x1000 * n + 0x14, 31, 0, 0x0⟩
def Mb.MB_DATA (n : Nat) (k : Nat) : Field := ⟨0x1EF00000 + 0x1000 * n + 0x4 * k + 0x400, 31, 0, 0x0⟩
def Tb.SNAP_RAW_LO : Field := ⟨0x10100000, 31, 0, 0x0⟩
def Tb.SNAP_RAW_HI : Field := ⟨0x10100000 + 0x4, 31, 0, 0x0⟩
def Tb.SNAP_TIME_LO : Field := ⟨0x10100000 + 0x8, 31, 0, 0x0⟩
def Tb.SNAP_TIME_HI : Field := ⟨0x10100000 + 0xC, 31, 0, 0x0⟩
def Tb.TGEN : Field := ⟨0x10100000 + 0x10, 31, 24, 0x0⟩
def Tb.FRAC : Field := ⟨0x10100000 + 0x10, 15, 8, 0x0⟩
def Tb.QUALITY : Field := ⟨0x10100000 + 0x10, 1, 0, 0x0⟩
def Tb.OFFSET_LO : Field := ⟨0x10100000 + 0x20, 31, 0, 0x0⟩
def Tb.OFFSET_HI : Field := ⟨0x10100000 + 0x24, 31, 0, 0x0⟩
def Tb.RATE : Field := ⟨0x10100000 + 0x28, 31, 0, 0x0⟩
def Tb.EPOCH_LO : Field := ⟨0x10100000 + 0x2C, 31, 0, 0x0⟩
def Tb.EPOCH_HI : Field := ⟨0x10100000 + 0x30, 31, 0, 0x0⟩
def Tb.ADJ_RATE : Field := ⟨0x10100000 + 0x40, 31, 0, 0x0⟩
def Tb.ADJ_STEP_LO : Field := ⟨0x10100000 + 0x44, 31, 0, 0x0⟩
def Tb.ADJ_STEP_HI : Field := ⟨0x10100000 + 0x48, 31, 0, 0x0⟩
def Tb.GO : Field := ⟨0x10100000 + 0x4C, 31, 31, 0x0⟩
def Tb.OVERRUN : Field := ⟨0x10100000 + 0x4C, 30, 30, 0x0⟩
def Tb.DO_QUALITY : Field := ⟨0x10100000 + 0x4C, 6, 6, 0x0⟩
def Tb.QUALITY_NEW : Field := ⟨0x10100000 + 0x4C, 5, 4, 0x0⟩
def Tb.DO_STEP : Field := ⟨0x10100000 + 0x4C, 1, 1, 0x0⟩
def Tb.DO_RATE : Field := ⟨0x10100000 + 0x4C, 0, 0, 0x0⟩
def Tb.CAPn_TIME (n : Nat) : Field := ⟨0x10100000 + 0x10 * n + 0x100, 31, 0, 0x0⟩
def Tb.VALID (n : Nat) : Field := ⟨0x10100000 + 0x10 * n + 0x104, 31, 31, 0x0⟩
def Tb.OVF (n : Nat) : Field := ⟨0x10100000 + 0x10 * n + 0x104, 30, 30, 0x0⟩
def Tb.EDGE (n : Nat) : Field := ⟨0x10100000 + 0x10 * n + 0x104, 16, 16, 0x0⟩
def Tb.FRAC_104 (n : Nat) : Field := ⟨0x10100000 + 0x10 * n + 0x104, 15, 8, 0x0⟩
def Tb.TGEN_104 (n : Nat) : Field := ⟨0x10100000 + 0x10 * n + 0x104, 7, 0, 0x0⟩
def Txb.SEND (n : Nat) (k : Nat) : Field := ⟨0x10400400 + 0x4000 * n + 0x80 * k, 31, 31, 0x0⟩
def Txb.ABORT (n : Nat) (k : Nat) : Field := ⟨0x10400400 + 0x4000 * n + 0x80 * k, 30, 30, 0x0⟩
def Txb.ONESHOT (n : Nat) (k : Nat) : Field := ⟨0x10400400 + 0x4000 * n + 0x80 * k, 29, 29, 0x0⟩
def Txb.EPV (n : Nat) (k : Nat) : Field := ⟨0x10400400 + 0x4000 * n + 0x80 * k, 28, 28, 0x0⟩
def Txb.EPOCH (n : Nat) (k : Nat) : Field := ⟨0x10400400 + 0x4000 * n + 0x80 * k, 15, 0, 0x0⟩
def Txb.IDE (n : Nat) (k : Nat) : Field := ⟨0x10400400 + 0x4000 * n + 0x80 * k + 0x4, 29, 29, 0x0⟩
def Txb.ID (n : Nat) (k : Nat) : Field := ⟨0x10400400 + 0x4000 * n + 0x80 * k + 0x4, 28, 0, 0x0⟩
def Txb.FDF (n : Nat) (k : Nat) : Field := ⟨0x10400400 + 0x4000 * n + 0x80 * k + 0x8, 7, 7, 0x0⟩
def Txb.BRS (n : Nat) (k : Nat) : Field := ⟨0x10400400 + 0x4000 * n + 0x80 * k + 0x8, 6, 6, 0x0⟩
def Txb.RTR (n : Nat) (k : Nat) : Field := ⟨0x10400400 + 0x4000 * n + 0x80 * k + 0x8, 5, 5, 0x0⟩
def Txb.DLC (n : Nat) (k : Nat) : Field := ⟨0x10400400 + 0x4000 * n + 0x80 * k + 0x8, 3, 0, 0x0⟩
def Txb.CODE (n : Nat) (k : Nat) : Field := ⟨0x10400400 + 0x4000 * n + 0x80 * k + 0xC, 31, 16, 0x0⟩
def Txb.PENDING (n : Nat) (k : Nat) : Field := ⟨0x10400400 + 0x4000 * n + 0x80 * k + 0xC, 15, 15, 0x0⟩
def Txb.DONE (n : Nat) (k : Nat) : Field := ⟨0x10400400 + 0x4000 * n + 0x80 * k + 0xC, 14, 14, 0x0⟩
def Txb.OVERRUN (n : Nat) (k : Nat) : Field := ⟨0x10400400 + 0x4000 * n + 0x80 * k + 0xC, 13, 13, 0x0⟩
def Txb.REASON (n : Nat) (k : Nat) : Field := ⟨0x10400400 + 0x4000 * n + 0x80 * k + 0xC, 11, 8, 0x0⟩
def Txb.ATTEMPTS (n : Nat) (k : Nat) : Field := ⟨0x10400400 + 0x4000 * n + 0x80 * k + 0xC, 7, 0, 0x0⟩
def Txb.STAMP (n : Nat) (k : Nat) : Field := ⟨0x10400400 + 0x4000 * n + 0x80 * k + 0x10, 31, 0, 0x0⟩
def Txb.TGEN (n : Nat) (k : Nat) : Field := ⟨0x10400400 + 0x4000 * n + 0x80 * k + 0x14, 31, 24, 0x0⟩
def Txb.FRAC (n : Nat) (k : Nat) : Field := ⟨0x10400400 + 0x4000 * n + 0x80 * k + 0x14, 23, 16, 0x0⟩
def Txb.DATA (n : Nat) (k : Nat) (i : Nat) : Field := ⟨0x10400400 + 0x4000 * n + 0x80 * k + 0x4 * i + 0x20, 31, 0, 0x0⟩
def Obj.NEW (n : Nat) (k : Nat) : Field := ⟨0x10401000 + 0x4000 * n + 0x80 * k, 31, 31, 0x0⟩
def Obj.LOCKED_OTHER (n : Nat) (k : Nat) : Field := ⟨0x10401000 + 0x4000 * n + 0x80 * k, 30, 30, 0x0⟩
def Obj.FDF (n : Nat) (k : Nat) : Field := ⟨0x10401000 + 0x4000 * n + 0x80 * k, 29, 29, 0x0⟩
def Obj.BRS (n : Nat) (k : Nat) : Field := ⟨0x10401000 + 0x4000 * n + 0x80 * k, 28, 28, 0x0⟩
def Obj.ESI (n : Nat) (k : Nat) : Field := ⟨0x10401000 + 0x4000 * n + 0x80 * k, 27, 27, 0x0⟩
def Obj.IDE (n : Nat) (k : Nat) : Field := ⟨0x10401000 + 0x4000 * n + 0x80 * k, 26, 26, 0x0⟩
def Obj.RTR (n : Nat) (k : Nat) : Field := ⟨0x10401000 + 0x4000 * n + 0x80 * k, 25, 25, 0x0⟩
def Obj.DLC (n : Nat) (k : Nat) : Field := ⟨0x10401000 + 0x4000 * n + 0x80 * k, 19, 16, 0x0⟩
def Obj.LOSTCNT (n : Nat) (k : Nat) : Field := ⟨0x10401000 + 0x4000 * n + 0x80 * k, 15, 8, 0x0⟩
def Obj.ID (n : Nat) (k : Nat) : Field := ⟨0x10401000 + 0x4000 * n + 0x80 * k + 0x4, 28, 0, 0x0⟩
def Obj.STAMP (n : Nat) (k : Nat) : Field := ⟨0x10401000 + 0x4000 * n + 0x80 * k + 0x8, 31, 0, 0x0⟩
def Obj.TGEN (n : Nat) (k : Nat) : Field := ⟨0x10401000 + 0x4000 * n + 0x80 * k + 0xC, 31, 24, 0x0⟩
def Obj.FRAC (n : Nat) (k : Nat) : Field := ⟨0x10401000 + 0x4000 * n + 0x80 * k + 0xC, 23, 16, 0x0⟩
def Obj.EPOCH (n : Nat) (k : Nat) : Field := ⟨0x10401000 + 0x4000 * n + 0x80 * k + 0xC, 15, 0, 0x0⟩
def Obj.DATA (n : Nat) (k : Nat) (i : Nat) : Field := ⟨0x10401000 + 0x4000 * n + 0x80 * k + 0x4 * i + 0x10, 31, 0, 0x0⟩
def Obj.EXPIRED (n : Nat) (k : Nat) : Field := ⟨0x10401000 + 0x4000 * n + 0x80 * k + 0x50, 31, 31, 0x0⟩
def Obj.RXSEQ (n : Nat) (k : Nat) : Field := ⟨0x10401000 + 0x4000 * n + 0x80 * k + 0x50, 15, 0, 0x0⟩
def Ch.TEC (n : Nat) : Field := ⟨0x10400000 + 0x4000 * n, 31, 24, 0x300⟩
def Ch.REC (n : Nat) : Field := ⟨0x10400000 + 0x4000 * n, 23, 16, 0x300⟩
def Ch.BUS (n : Nat) : Field := ⟨0x10400000 + 0x4000 * n, 9, 8, 0x300⟩
def Ch.LEC (n : Nat) : Field := ⟨0x10400000 + 0x4000 * n, 7, 4, 0x300⟩
def Ch.STATE (n : Nat) : Field := ⟨0x10400000 + 0x4000 * n, 1, 0, 0x300⟩
def Ch.IRQ (n : Nat) : Field := ⟨0x10400000 + 0x4000 * n + 0x4, 16, 0, 0x0⟩
def Ch.IRQ_EN (n : Nat) : Field := ⟨0x10400000 + 0x4000 * n + 0x8, 16, 0, 0x0⟩
def Ch.RESTART (n : Nat) : Field := ⟨0x10400000 + 0x4000 * n + 0xC, 31, 31, 0x0⟩
def Ch.OBJ_NEW_LO (n : Nat) : Field := ⟨0x10400000 + 0x4000 * n + 0x10, 31, 0, 0x0⟩
def Ch.OBJ_NEW_HI (n : Nat) : Field := ⟨0x10400000 + 0x4000 * n + 0x14, 31, 0, 0x0⟩
def Ch.OBJ_LOST_LO (n : Nat) : Field := ⟨0x10400000 + 0x4000 * n + 0x18, 31, 0, 0x0⟩
def Ch.OBJ_LOST_HI (n : Nat) : Field := ⟨0x10400000 + 0x4000 * n + 0x1C, 31, 0, 0x0⟩
def Ch.OVF (n : Nat) : Field := ⟨0x10400000 + 0x4000 * n + 0x20, 31, 31, 0x0⟩
def Ch.COUNT (n : Nat) : Field := ⟨0x10400000 + 0x4000 * n + 0x20, 5, 0, 0x0⟩
def Ch.REF_SEC (n : Nat) : Field := ⟨0x10400000 + 0x4000 * n + 0x30, 15, 0, 0x0⟩
def Ch.REF_RX_TIME (n : Nat) : Field := ⟨0x10400000 + 0x4000 * n + 0x34, 31, 0, 0x0⟩
def Ch.REF_RX_STAMP (n : Nat) : Field := ⟨0x10400000 + 0x4000 * n + 0x38, 31, 0, 0x0⟩
def Ch.REF_RX_INFO (n : Nat) : Field := ⟨0x10400000 + 0x4000 * n + 0x3C, 31, 0, 0x0⟩
def Ch.REF_RX_SEC (n : Nat) : Field := ⟨0x10400000 + 0x4000 * n + 0x40, 15, 0, 0x0⟩
def Slpr.DOM_REQ : Field := ⟨0x10600000, 31, 0, 0x0⟩
def Slpr.DOM_AGREED : Field := ⟨0x10600000 + 0x4, 31, 0, 0x0⟩
def Slpr.CONFIRM : Field := ⟨0x10600000 + 0x8, 17, 0, 0x0⟩
def Slpr.FW_PENDING : Field := ⟨0x10600000 + 0xC, 17, 0, 0x0⟩
def Slpr.STATE (n : Nat) : Field := ⟨0x10600000 + 0x4 * n + 0x100, 23, 20, 0x0⟩
def Slpr.WAKE (n : Nat) : Field := ⟨0x10600000 + 0x4 * n + 0x100, 8, 8, 0x0⟩
def Slpr.CMD (n : Nat) : Field := ⟨0x10600000 + 0x4 * n + 0x100, 2, 0, 0x0⟩
def Ctx.FENCE (n : Nat) (k : Nat) : Field := ⟨0x10800000 + 0x40000 * n + 0x1000 * k, 31, 31, 0x0⟩
def Ctx.RSLOT_CLEAR (n : Nat) (k : Nat) : Field := ⟨0x10800000 + 0x40000 * n + 0x1000 * k, 30, 30, 0x0⟩
def Ctx.EPV (n : Nat) (k : Nat) : Field := ⟨0x10800000 + 0x40000 * n + 0x1000 * k, 16, 16, 0x0⟩
def Ctx.EPOCH (n : Nat) (k : Nat) : Field := ⟨0x10800000 + 0x40000 * n + 0x1000 * k, 15, 0, 0x0⟩
def Ctx.DONE (n : Nat) (k : Nat) : Field := ⟨0x10800000 + 0x40000 * n + 0x1000 * k + 0x4, 31, 31, 0x0⟩
def Ctx.BUSY (n : Nat) (k : Nat) : Field := ⟨0x10800000 + 0x40000 * n + 0x1000 * k + 0x4, 30, 30, 0x0⟩
def Ctx.OVERRUN (n : Nat) (k : Nat) : Field := ⟨0x10800000 + 0x40000 * n + 0x1000 * k + 0x4, 29, 29, 0x0⟩
def Ctx.CODE (n : Nat) (k : Nat) : Field := ⟨0x10800000 + 0x40000 * n + 0x1000 * k + 0x4, 15, 0, 0x0⟩
def Ctx.FAILED (n : Nat) (k : Nat) : Field := ⟨0x10800000 + 0x40000 * n + 0x1000 * k + 0x8, 31, 31, 0x0⟩
def Ctx.MULTI (n : Nat) (k : Nat) : Field := ⟨0x10800000 + 0x40000 * n + 0x1000 * k + 0x8, 30, 30, 0x0⟩
def Ctx.CODE_8 (n : Nat) (k : Nat) : Field := ⟨0x10800000 + 0x40000 * n + 0x1000 * k + 0x8, 15, 0, 0x0⟩
def Ctx.FAR_CODE (n : Nat) (k : Nat) : Field := ⟨0x10800000 + 0x40000 * n + 0x1000 * k + 0xC, 15, 0, 0x0⟩
def Ctx.BST_ADDR_LO (n : Nat) (k : Nat) : Field := ⟨0x10800000 + 0x40000 * n + 0x1000 * k + 0x10, 31, 0, 0x0⟩
def Ctx.BST_ADDR_HI (n : Nat) (k : Nat) : Field := ⟨0x10800000 + 0x40000 * n + 0x1000 * k + 0x14, 7, 0, 0x0⟩
def Ctx.PW_SEQ (n : Nat) (k : Nat) : Field := ⟨0x10800000 + 0x40000 * n + 0x1000 * k + 0x18, 31, 0, 0x0⟩
def Ctx.PW_DONE (n : Nat) (k : Nat) : Field := ⟨0x10800000 + 0x40000 * n + 0x1000 * k + 0x1C, 31, 0, 0x0⟩
def Ctx.SIDEBAND_OUT (n : Nat) (k : Nat) : Field := ⟨0x10800000 + 0x40000 * n + 0x1000 * k + 0x20, 31, 0, 0x0⟩
def Ctx.EVT_SEND (n : Nat) (k : Nat) : Field := ⟨0x10800000 + 0x40000 * n + 0x1000 * k + 0x24, 31, 0, 0x0⟩
def Ctx.SESSION (n : Nat) (k : Nat) : Field := ⟨0x10800000 + 0x40000 * n + 0x1000 * k + 0x28, 3, 2, 0x0⟩
def Ctx.STATE (n : Nat) (k : Nat) : Field := ⟨0x10800000 + 0x40000 * n + 0x1000 * k + 0x28, 1, 0, 0x0⟩
def Ctx.IRQ (n : Nat) (k : Nat) : Field := ⟨0x10800000 + 0x40000 * n + 0x1000 * k + 0x2C, 2, 0, 0x0⟩
def Ctx.IRQ_EN (n : Nat) (k : Nat) : Field := ⟨0x10800000 + 0x40000 * n + 0x1000 * k + 0x30, 2, 0, 0x0⟩
def Ctx.VALID (n : Nat) (k : Nat) : Field := ⟨0x10800000 + 0x40000 * n + 0x1000 * k + 0x40, 31, 31, 0x0⟩
def Ctx.LOST (n : Nat) (k : Nat) : Field := ⟨0x10800000 + 0x40000 * n + 0x1000 * k + 0x40, 30, 30, 0x0⟩
def Ctx.SIZE (n : Nat) (k : Nat) : Field := ⟨0x10800000 + 0x40000 * n + 0x1000 * k + 0x40, 22, 16, 0x0⟩
def Ctx.CODE_40 (n : Nat) (k : Nat) : Field := ⟨0x10800000 + 0x40000 * n + 0x1000 * k + 0x40, 15, 0, 0x0⟩
def Ctx.RSLOT_ADDR_LO (n : Nat) (k : Nat) : Field := ⟨0x10800000 + 0x40000 * n + 0x1000 * k + 0x44, 31, 0, 0x0⟩
def Ctx.RSLOT_ADDR_HI (n : Nat) (k : Nat) : Field := ⟨0x10800000 + 0x40000 * n + 0x1000 * k + 0x48, 7, 0, 0x0⟩
def Ctx.RSLOT_SEQ (n : Nat) (k : Nat) : Field := ⟨0x10800000 + 0x40000 * n + 0x1000 * k + 0x4C, 31, 0, 0x0⟩
def Ctx.RSLOT_DATA (n : Nat) (k : Nat) (i : Nat) : Field := ⟨0x10800000 + 0x40000 * n + 0x1000 * k + 0x4 * i + 0x80, 31, 0, 0x0⟩
def Ep.EVT_PENDING (n : Nat) (k : Nat) : Field := ⟨0x10900000 + 0x4000 * n + 0x10 * k, 31, 0, 0x0⟩
def Ep.SIDEBAND (n : Nat) (k : Nat) : Field := ⟨0x10900000 + 0x4000 * n + 0x10 * k + 0x4, 31, 0, 0x0⟩
def Ep.MERGED (n : Nat) (k : Nat) : Field := ⟨0x10900000 + 0x4000 * n + 0x10 * k + 0x8, 31, 31, 0x0⟩
def Ep.POLL_FAIL (n : Nat) (k : Nat) : Field := ⟨0x10900000 + 0x4000 * n + 0x10 * k + 0x8, 30, 30, 0x0⟩
def Ep.CODE (n : Nat) (k : Nat) : Field := ⟨0x10900000 + 0x4000 * n + 0x10 * k + 0x8, 15, 0, 0x0⟩
def Ep.EVT_SEQ (n : Nat) (k : Nat) : Field := ⟨0x10900000 + 0x4000 * n + 0x10 * k + 0xC, 31, 0, 0x0⟩
def Ser.DONE : Field := ⟨0x10A00000, 5, 0, 0x0⟩
def Ser.FAULT : Field := ⟨0x10A00000 + 0x4, 15, 0, 0x0⟩
def Ser.STATE : Field := ⟨0x10A00000 + 0x8, 2, 0, 0x0⟩
def Ser.BUSY (n : Nat) : Field := ⟨0x10A00000 + 0x4 * n + 0x10, 31, 31, 0x0⟩
def Ser.TASK (n : Nat) : Field := ⟨0x10A00000 + 0x4 * n + 0x10, 13, 8, 0x0⟩
def Ser.DEPTH (n : Nat) : Field := ⟨0x10A00000 + 0x4 * n + 0x10, 3, 0, 0x0⟩
def Adcr.BUSY (n : Nat) : Field := ⟨0x10C00000 + 0x1000 * n, 31, 31, 0x0⟩
def Adcr.RUNNING (n : Nat) : Field := ⟨0x10C00000 + 0x1000 * n, 10, 8, 0x0⟩
def Adcr.PENDING (n : Nat) : Field := ⟨0x10C00000 + 0x1000 * n, 7, 0, 0x0⟩
def Adcr.START (n : Nat) : Field := ⟨0x10C00000 + 0x1000 * n + 0x4, 7, 0, 0x0⟩
def Adcr.IRQ (n : Nat) : Field := ⟨0x10C00000 + 0x1000 * n + 0x8, 15, 0, 0x0⟩
def Adcr.IRQ_EN (n : Nat) : Field := ⟨0x10C00000 + 0x1000 * n + 0xC, 15, 0, 0x0⟩
def Adcr.SEQ_COUNT (n : Nat) (k : Nat) : Field := ⟨0x10C00000 + 0x1000 * n + 0x40 * k + 0x100, 31, 16, 0x0⟩
def Adcr.LATE (n : Nat) (k : Nat) : Field := ⟨0x10C00000 + 0x1000 * n + 0x40 * k + 0x100, 15, 15, 0x0⟩
def Adcr.LEN (n : Nat) (k : Nat) : Field := ⟨0x10C00000 + 0x1000 * n + 0x40 * k + 0x100, 12, 8, 0x0⟩
def Adcr.TGEN (n : Nat) (k : Nat) : Field := ⟨0x10C00000 + 0x1000 * n + 0x40 * k + 0x100, 7, 0, 0x0⟩
def Adcr.STAMP (n : Nat) (k : Nat) : Field := ⟨0x10C00000 + 0x1000 * n + 0x40 * k + 0x104, 31, 0, 0x0⟩
def Adcr.RESULT_ODD (n : Nat) (k : Nat) (i : Nat) : Field := ⟨0x10C00000 + 0x1000 * n + 0x40 * k + 0x4 * i + 0x110, 31, 16, 0x0⟩
def Adcr.RESULT_EVEN (n : Nat) (k : Nat) (i : Nat) : Field := ⟨0x10C00000 + 0x1000 * n + 0x40 * k + 0x4 * i + 0x110, 15, 0, 0x0⟩
def Src.PENDING (n : Nat) : Field := ⟨0x10000000 + 0x4 * n, 31, 31, 0x0⟩
def Src.ACTIVE (n : Nat) : Field := ⟨0x10000000 + 0x4 * n, 30, 30, 0x0⟩
def Src.ENABLE (n : Nat) : Field := ⟨0x10000000 + 0x4 * n, 29, 29, 0x0⟩
def Src.EDGE (n : Nat) : Field := ⟨0x10000000 + 0x4 * n, 28, 28, 0x0⟩
def Src.TARGET (n : Nat) : Field := ⟨0x10000000 + 0x4 * n, 27, 24, 0x0⟩
def Src.PRIORITY (n : Nat) : Field := ⟨0x10000000 + 0x4 * n, 19, 16, 0x0⟩
def Src.MOD_US (n : Nat) : Field := ⟨0x10000000 + 0x4 * n, 15, 0, 0x0⟩
def Cpg.CLAIM (n : Nat) : Field := ⟨0x10010000 + 0x1000 * n, 8, 0, 0x0⟩
def Cpg.COMPLETE (n : Nat) : Field := ⟨0x10010000 + 0x1000 * n + 0x4, 8, 0, 0x0⟩
def Cpg.WFI (n : Nat) : Field := ⟨0x10010000 + 0x1000 * n + 0x8, 2, 2, 0x0⟩
def Cpg.FULL (n : Nat) : Field := ⟨0x10010000 + 0x1000 * n + 0x8, 1, 1, 0x0⟩
def Cpg.CERR (n : Nat) : Field := ⟨0x10010000 + 0x1000 * n + 0x8, 0, 0, 0x0⟩
def Cpg.DEPTH (n : Nat) : Field := ⟨0x10010000 + 0x1000 * n + 0xC, 11, 8, 0x0⟩
def Cpg.RUNPRIO (n : Nat) : Field := ⟨0x10010000 + 0x1000 * n + 0xC, 7, 4, 0x0⟩
def Cpg.THRESHOLD (n : Nat) : Field := ⟨0x10010000 + 0x1000 * n + 0xC, 3, 0, 0x0⟩
def Cpg.STK_SRC (n : Nat) (k : Nat) : Field := ⟨0x10010000 + 0x1000 * n + 0x4 * k + 0x10, 12, 4, 0x0⟩
def Cpg.STK_PRIO (n : Nat) (k : Nat) : Field := ⟨0x10010000 + 0x1000 * n + 0x4 * k + 0x10, 3, 0, 0x0⟩
def Db.DOORBELL : Field := ⟨0x10000800, 3, 0, 0x0⟩
def Dmar.RING_LO (n : Nat) : Field := ⟨0x10200000 + 0x1000 * n, 31, 5, 0x0⟩
def Dmar.RING_HI (n : Nat) : Field := ⟨0x10200000 + 0x1000 * n + 0x4, 7, 0, 0x0⟩
def Dmar.RING_LOG2 (n : Nat) : Field := ⟨0x10200000 + 0x1000 * n + 0x8, 3, 0, 0x2⟩
def Dmar.TAIL (n : Nat) : Field := ⟨0x10200000 + 0x1000 * n + 0xC, 11, 0, 0x0⟩
def Dmar.HEAD (n : Nat) : Field := ⟨0x10200000 + 0x1000 * n + 0x10, 11, 0, 0x0⟩
def Dmar.ACTIVE (n : Nat) : Field := ⟨0x10200000 + 0x1000 * n + 0x14, 31, 31, 0x0⟩
def Dmar.FAULTED (n : Nat) : Field := ⟨0x10200000 + 0x1000 * n + 0x14, 30, 30, 0x0⟩
def Dmar.INVAL_BUSY (n : Nat) : Field := ⟨0x10200000 + 0x1000 * n + 0x14, 29, 29, 0x0⟩
def Dmar.STOPPED (n : Nat) : Field := ⟨0x10200000 + 0x1000 * n + 0x14, 28, 28, 0x0⟩
def Dmar.CODE (n : Nat) : Field := ⟨0x10200000 + 0x1000 * n + 0x14, 15, 0, 0x0⟩
def Dmar.FAULT_IOVA_LO (n : Nat) : Field := ⟨0x10200000 + 0x1000 * n + 0x18, 31, 0, 0x0⟩
def Dmar.FAULT_IOVA_HI (n : Nat) : Field := ⟨0x10200000 + 0x1000 * n + 0x1C, 31, 0, 0x0⟩
def Dmar.FAULT_DESC (n : Nat) : Field := ⟨0x10200000 + 0x1000 * n + 0x20, 27, 16, 0x0⟩
def Dmar.WRITE (n : Nat) : Field := ⟨0x10200000 + 0x1000 * n + 0x20, 15, 15, 0x0⟩
def Dmar.STAGE (n : Nat) : Field := ⟨0x10200000 + 0x1000 * n + 0x20, 14, 14, 0x0⟩
def Dmar.FAULT_DONE (n : Nat) : Field := ⟨0x10200000 + 0x1000 * n + 0x24, 24, 0, 0x0⟩
def Dmar.ABORT (n : Nat) : Field := ⟨0x10200000 + 0x1000 * n + 0x28, 1, 1, 0x0⟩
def Dmar.RESUME (n : Nat) : Field := ⟨0x10200000 + 0x1000 * n + 0x28, 0, 0, 0x0⟩
def Dmar.XLAT (n : Nat) : Field := ⟨0x10200000 + 0x1000 * n + 0x2C, 0, 0, 0x0⟩
def Dmar.ROOT_LO (n : Nat) : Field := ⟨0x10200000 + 0x1000 * n + 0x30, 31, 12, 0x0⟩
def Dmar.ROOT_HI (n : Nat) : Field := ⟨0x10200000 + 0x1000 * n + 0x34, 7, 0, 0x0⟩
def Dmar.INVAL (n : Nat) : Field := ⟨0x10200000 + 0x1000 * n + 0x38, 0, 0, 0x0⟩
def Dmar.IRQ (n : Nat) : Field := ⟨0x10200000 + 0x1000 * n + 0x3C, 3, 0, 0x0⟩
def Dmar.IRQ_EN (n : Nat) : Field := ⟨0x10200000 + 0x1000 * n + 0x40, 3, 0, 0x0⟩
def Qpr.TX_BASE_LO (n : Nat) : Field := ⟨0x10300000 + 0x1000 * n, 31, 4, 0x0⟩
def Qpr.TX_BASE_HI (n : Nat) : Field := ⟨0x10300000 + 0x1000 * n + 0x4, 7, 0, 0x0⟩
def Qpr.RX_BASE_LO (n : Nat) : Field := ⟨0x10300000 + 0x1000 * n + 0x8, 31, 4, 0x0⟩
def Qpr.RX_BASE_HI (n : Nat) : Field := ⟨0x10300000 + 0x1000 * n + 0xC, 7, 0, 0x0⟩
def Qpr.ERR_BASE_LO (n : Nat) : Field := ⟨0x10300000 + 0x1000 * n + 0x10, 31, 4, 0x0⟩
def Qpr.ERR_BASE_HI (n : Nat) : Field := ⟨0x10300000 + 0x1000 * n + 0x14, 7, 0, 0x0⟩
def Qpr.ERR_LOG2 (n : Nat) : Field := ⟨0x10300000 + 0x1000 * n + 0x18, 11, 8, 0x222⟩
def Qpr.RX_LOG2 (n : Nat) : Field := ⟨0x10300000 + 0x1000 * n + 0x18, 7, 4, 0x222⟩
def Qpr.TX_LOG2 (n : Nat) : Field := ⟨0x10300000 + 0x1000 * n + 0x18, 3, 0, 0x222⟩
def Qpr.TX_HEAD (n : Nat) : Field := ⟨0x10300000 + 0x1000 * n + 0x1C, 27, 16, 0x0⟩
def Qpr.TX_TAIL (n : Nat) : Field := ⟨0x10300000 + 0x1000 * n + 0x1C, 11, 0, 0x0⟩
def Qpr.RX_HEAD (n : Nat) : Field := ⟨0x10300000 + 0x1000 * n + 0x20, 27, 16, 0x0⟩
def Qpr.RX_TAIL (n : Nat) : Field := ⟨0x10300000 + 0x1000 * n + 0x20, 11, 0, 0x0⟩
def Qpr.ERR_HEAD (n : Nat) : Field := ⟨0x10300000 + 0x1000 * n + 0x24, 27, 16, 0x0⟩
def Qpr.ERR_TAIL (n : Nat) : Field := ⟨0x10300000 + 0x1000 * n + 0x24, 11, 0, 0x0⟩
def Qpr.IRQ (n : Nat) : Field := ⟨0x10300000 + 0x1000 * n + 0x28, 3, 0, 0x0⟩
def Qpr.IRQ_EN (n : Nat) : Field := ⟨0x10300000 + 0x1000 * n + 0x2C, 3, 0, 0x0⟩
def Hpg.LINES_SET (n : Nat) : Field := ⟨0x10E00000 + 0x1000 * n, 9, 8, 0x0⟩
def Hpg.LINES (n : Nat) : Field := ⟨0x10E00000 + 0x1000 * n, 7, 0, 0x0⟩
def Hpg.LINE_EN (n : Nat) : Field := ⟨0x10E00000 + 0x1000 * n + 0x4, 9, 0, 0x0⟩
def Hpg.RING_LO (n : Nat) : Field := ⟨0x10E00000 + 0x1000 * n + 0x8, 31, 4, 0x0⟩
def Hpg.RING_HI (n : Nat) : Field := ⟨0x10E00000 + 0x1000 * n + 0xC, 7, 0, 0x0⟩
def Hpg.RING_EN (n : Nat) : Field := ⟨0x10E00000 + 0x1000 * n + 0x10, 31, 31, 0x4⟩
def Hpg.RING_LOG2 (n : Nat) : Field := ⟨0x10E00000 + 0x1000 * n + 0x10, 3, 0, 0x4⟩
def Hpg.RING_HEAD (n : Nat) : Field := ⟨0x10E00000 + 0x1000 * n + 0x14, 15, 0, 0x0⟩
def Hpg.RING_TAIL (n : Nat) : Field := ⟨0x10E00000 + 0x1000 * n + 0x18, 15, 0, 0x0⟩
def Hpg.WDT_KICK (n : Nat) : Field := ⟨0x10E00000 + 0x1000 * n + 0x1C, 0, 0, 0x0⟩
def Hpg.FAULT_CAUSE (n : Nat) : Field := ⟨0x10E00000 + 0x1000 * n + 0x20, 31, 24, 0x10000⟩
def Hpg.STATE (n : Nat) : Field := ⟨0x10E00000 + 0x1000 * n + 0x20, 18, 16, 0x10000⟩
def Hpg.EPOCH (n : Nat) : Field := ⟨0x10E00000 + 0x1000 * n + 0x20, 15, 0, 0x10000⟩
def Hpg.DOORBELL (n : Nat) : Field := ⟨0x10E00000 + 0x1000 * n + 0x24, 0, 0, 0x0⟩
def Wm.LOCKED (n : Nat) : Field := ⟨0x1F000000 + 0x4 * n, 31, 31, 0xFFFFF⟩
def Wm.GRANULES (n : Nat) : Field := ⟨0x1F000000 + 0x4 * n, 19, 0, 0xFFFFF⟩
def Wm.ERR (n : Nat) : Field := ⟨0x1F000000 + 0x4 * n, 30, 30, 0xFFFFF⟩
def Lsr.VALID (n : Nat) : Field := ⟨0x1F010000 + 0x4 * n, 31, 31, 0x0⟩
def Lsr.ERR (n : Nat) : Field := ⟨0x1F010000 + 0x4 * n, 30, 30, 0x0⟩
def Lsr.GATE (n : Nat) : Field := ⟨0x1F010000 + 0x4 * n, 9, 0, 0x0⟩
def Cry.RING_LO : Field := ⟨0x1F020000, 31, 6, 0x0⟩
def Cry.RING_HI : Field := ⟨0x1F020000 + 0x4, 7, 0, 0x0⟩
def Cry.RING_LOG2 : Field := ⟨0x1F020000 + 0x8, 3, 0, 0x2⟩
def Cry.TAIL : Field := ⟨0x1F020000 + 0xC, 9, 0, 0x0⟩
def Cry.HEAD : Field := ⟨0x1F020000 + 0x10, 9, 0, 0x0⟩
def Cry.BUSY : Field := ⟨0x1F020000 + 0x14, 31, 31, 0x0⟩
def Cry.CODE : Field := ⟨0x1F020000 + 0x14, 15, 0, 0x0⟩
def Cry.IRQ : Field := ⟨0x1F020000 + 0x18, 1, 0, 0x0⟩
def Cry.IRQ_EN : Field := ⟨0x1F020000 + 0x1C, 1, 0, 0x0⟩
def Swd.EN : Field := ⟨0x1F030000, 31, 31, 0x7D0⟩
def Swd.PAUSE_DBG : Field := ⟨0x1F030000, 30, 30, 0x7D0⟩
def Swd.PERIOD_MS : Field := ⟨0x1F030000, 15, 0, 0x7D0⟩
def Swd.KICK : Field := ⟨0x1F030000 + 0x4, 31, 0, 0x0⟩
def Swd.LEFT_MS : Field := ⟨0x1F030000 + 0x8, 15, 0, 0x0⟩
def Stg.RING_LO (n : Nat) : Field := ⟨0x10F00000 + 0x1000 * n, 31, 5, 0x0⟩
def Stg.RING_HI (n : Nat) : Field := ⟨0x10F00000 + 0x1000 * n + 0x4, 7, 0, 0x0⟩
def Stg.RING_LOG2 (n : Nat) : Field := ⟨0x10F00000 + 0x1000 * n + 0x8, 3, 0, 0x2⟩
def Stg.TAIL (n : Nat) : Field := ⟨0x10F00000 + 0x1000 * n + 0xC, 9, 0, 0x0⟩
def Stg.HEAD (n : Nat) : Field := ⟨0x10F00000 + 0x1000 * n + 0x10, 9, 0, 0x0⟩
def Stg.ACTIVE (n : Nat) : Field := ⟨0x10F00000 + 0x1000 * n + 0x14, 31, 31, 0x0⟩
def Stg.STOPPED (n : Nat) : Field := ⟨0x10F00000 + 0x1000 * n + 0x14, 30, 30, 0x0⟩
def Stg.CODE (n : Nat) : Field := ⟨0x10F00000 + 0x1000 * n + 0x14, 15, 0, 0x0⟩
def Stg.IRQ (n : Nat) : Field := ⟨0x10F00000 + 0x1000 * n + 0x18, 1, 0, 0x0⟩
def Stg.IRQ_EN (n : Nat) : Field := ⟨0x10F00000 + 0x1000 * n + 0x1C, 1, 0, 0x0⟩
def Smb.OP : Field := ⟨0x1FF00000, 31, 24, 0x0⟩
def Smb.SUBINDEX : Field := ⟨0x1FF00000, 23, 16, 0x0⟩
def Smb.INDEX : Field := ⟨0x1FF00000, 15, 0, 0x0⟩
def Smb.GO : Field := ⟨0x1FF00000 + 0x4, 31, 31, 0x0⟩
def Smb.IE : Field := ⟨0x1FF00000 + 0x4, 30, 30, 0x0⟩
def Smb.MORE : Field := ⟨0x1FF00000 + 0x4, 18, 18, 0x0⟩
def Smb.SHADOW : Field := ⟨0x1FF00000 + 0x4, 17, 17, 0x0⟩
def Smb.EPV : Field := ⟨0x1FF00000 + 0x4, 16, 16, 0x0⟩
def Smb.EPOCH : Field := ⟨0x1FF00000 + 0x4, 15, 0, 0x0⟩
def Smb.DONE : Field := ⟨0x1FF00000 + 0x18, 31, 31, 0x0⟩
def Smb.BUSY : Field := ⟨0x1FF00000 + 0x18, 30, 30, 0x0⟩
def Smb.OVERRUN : Field := ⟨0x1FF00000 + 0x18, 29, 29, 0x0⟩
def Smb.CODE : Field := ⟨0x1FF00000 + 0x18, 15, 0, 0x0⟩
def Smb.MB_LEN : Field := ⟨0x1FF00000 + 0x8, 31, 0, 0x0⟩
def Smb.MB_OFFSET : Field := ⟨0x1FF00000 + 0xC, 31, 0, 0x0⟩
def Smb.MB_TYPE : Field := ⟨0x1FF00000 + 0x10, 15, 0, 0x0⟩
def Smb.MB_TOTAL : Field := ⟨0x1FF00000 + 0x14, 31, 0, 0x0⟩
def Smb.MB_DATA (n : Nat) : Field := ⟨0x1FF00000 + 0x4 * n + 0x400, 31, 0, 0x0⟩
def Plat.SYS_IRQ (n : Nat) : Field := ⟨0x10000C00 + 0x8 * n, 31, 0, 0x0⟩
def Plat.SYS_IRQ_EN (n : Nat) : Field := ⟨0x10000C00 + 0x8 * n + 0x4, 31, 0, 0x0⟩
def M0Src.PENDING (n : Nat) : Field := ⟨0x1F050000 + 0x4 * n, 31, 31, 0x0⟩
def M0Src.ACTIVE (n : Nat) : Field := ⟨0x1F050000 + 0x4 * n, 30, 30, 0x0⟩
def M0Src.ENABLE (n : Nat) : Field := ⟨0x1F050000 + 0x4 * n, 29, 29, 0x0⟩
def M0Src.EDGE (n : Nat) : Field := ⟨0x1F050000 + 0x4 * n, 28, 28, 0x0⟩
def M0Src.TARGET (n : Nat) : Field := ⟨0x1F050000 + 0x4 * n, 27, 24, 0x0⟩
def M0Src.PRIORITY (n : Nat) : Field := ⟨0x1F050000 + 0x4 * n, 19, 16, 0x0⟩
def M0Src.MOD_US (n : Nat) : Field := ⟨0x1F050000 + 0x4 * n, 15, 0, 0x0⟩
def M0Cpg.CLAIM : Field := ⟨0x1F051000, 8, 0, 0x0⟩
def M0Cpg.COMPLETE : Field := ⟨0x1F051000 + 0x4, 8, 0, 0x0⟩
def M0Cpg.WFI : Field := ⟨0x1F051000 + 0x8, 2, 2, 0x0⟩
def M0Cpg.FULL : Field := ⟨0x1F051000 + 0x8, 1, 1, 0x0⟩
def M0Cpg.CERR : Field := ⟨0x1F051000 + 0x8, 0, 0, 0x0⟩
def M0Cpg.DEPTH : Field := ⟨0x1F051000 + 0xC, 11, 8, 0x0⟩
def M0Cpg.RUNPRIO : Field := ⟨0x1F051000 + 0xC, 7, 4, 0x0⟩
def M0Cpg.THRESHOLD : Field := ⟨0x1F051000 + 0xC, 3, 0, 0x0⟩
def M0Cpg.STK_SRC (n : Nat) : Field := ⟨0x1F051000 + 0x4 * n + 0x10, 12, 4, 0x0⟩
def M0Cpg.STK_PRIO (n : Nat) : Field := ⟨0x1F051000 + 0x4 * n + 0x10, 3, 0, 0x0⟩

end Sys2Proof.Machine.Rg
end

