-- ==== Sys2Proof/Machine/UnitState.lean ====
section
/-! DEFINITION. The state of the units that is not an entry of the dictionary, a register or a byte of memory: queues, sessions,
transfers in progress, running waits, log sinks, latches. One structure per chapter. Plain data. -/

namespace Sys2Proof.Machine

/-! ### What a command puts out -/

/-- What leaves the device or answers the sender of a command, in the order it leaves. -/
inductive Out where
  /-- The answer to a transaction or request: status code and data (little-endian value or bytes). -/
  | answer (s : Status) (value : Nat)
  | bytes (s : Status) (total : Nat) (b : Bytes)
  /-- A dictionary response on a path, with the request's sequence number and session, and on UDP the MAC address, VLAN, IP address and port it goes to. -/
  | dict (p : Path) (session seq : Nat) (net : List Nat) (s : Status) (b : Bytes)
  /-- A frame leaves port `p`; `tail` true when its end was spoiled with a bad FCS. -/
  | frame (p : Nat) (f : Frame) (bad : Bool)
  /-- A frame the device itself sends, by its purpose and payload, toward `dst` in class TCM or as its rule says. -/
  | send (what : String) (port : Nat) (dst : Nat) (payload : Bytes)
  /-- A CAN frame is started or sent on channel `ch`. -/
  | can (ch : Nat) (f : CanFrame)
  /-- A pin or line takes a level. -/
  | line (name : String) (n : Nat) (high : Bool)
  /-- An access fault of a core, with its status code (R21). -/
  | accessFault (ini : Nat) (s : Status)
  /-- A received frame is delivered to a unit of the device (Table 5.6, R130). -/
  | deliver (unit : String) (port : Nat) (f : Frame)
  /-- A unit of the device presents a frame to the switch at a port. -/
  | inject (port : Nat) (f : Frame)
  /-- An exception of a core, with its cause code (R322, R325). -/
  | exception (core cause : Nat)
  /-- The debug module refuses a command, as the RISC-V debug specification states (R408). -/
  | debugRefused (hart : Nat)
  /-- The pages a pre-copy pass, or the final pass, copies to the partner, spread over both lanes (R388, R495). -/
  | migrate (hall pass : Nat) (pages : List Nat)
  /-- The outcome of a transaction that an initiator has been waiting for (R222). -/
  | complete (initiator : Nat) (s : Status) (value : Nat)
  deriving DecidableEq, Repr

/-! ### Logs -/

/-- A record in a sink (Table 2.2) or its extension record (R36). -/
inductive LogRec where
  | base (seq time source code data : Nat)
  | ext (seq : Nat) (payload : Bytes)
  deriving DecidableEq, Repr

/-- An event detected by a unit: TIME and the TU bit are taken at detection (R35). -/
structure Ev where
  time : Nat
  source : Nat
  code : Nat
  tu : Bool
  data : Nat
  ext : Option Bytes
  deriving DecidableEq, Repr

/-- A sink's lost-record count and its last anchor: raw counter and TGEN (R38, R39). -/
structure SinkMeta where
  lost : Nat
  anchor : Option (Nat × Nat)
  deriving DecidableEq, Repr

/-- The sinks: the device event log, the secure event log, the ring of a hall. -/
inductive SinkId where
  | device | secure | ring (h : Nat)
  deriving DecidableEq, Repr

/-- The logs: the shared sequence counter, the device log's buffer, what is committed to EVENTS, the secure log, and the sinks of
the hall rings. `ringHeld` keeps what is due to a stopped hall (Table 16.6). `isOpen` is false from a cold or chip reset until step 9 of Table 19.8; records detected then wait in `held`, with the sink they are for (R37). -/
structure Logs where
  seq : Nat
  isOpen : Bool
  held : List (SinkId × Ev)
  device : SinkMeta
  waiting : List LogRec
  events : List LogRec
  secure : SinkMeta
  secureRecs : List LogRec
  rings : KV SinkMeta
  ringHeld : KV (List Ev)
  deriving DecidableEq, Repr

/-- One scope of R548: the raw count of the last event written and what happened since. -/
structure Limit where
  last : Option Nat
  count : Nat
  deriving DecidableEq, Repr

/-! ### Chapter 6: time -/

/-- The set a read of SNAP_RAW_LO captures (R148). -/
structure Snap where
  raw : Nat
  time : Nat
  frac : Nat
  tgen : Nat
  quality : Nat
  offset : Nat
  rate : Nat
  epoch : Nat
  deriving DecidableEq, Repr

/-- One capture of a TRIGn FIFO (R149, R150). -/
structure Capture where
  time : Nat
  frac : Nat
  tgen : Nat
  rising : Bool
  deriving DecidableEq, Repr

/-- A pending adjustment (R146); each part is taken at the next raw tick. -/
structure Adjust where
  rate : Option Int
  step : Option Int
  quality : Option Nat
  deriving DecidableEq, Repr

/-- The values of the timebase that stood until a tick. -/
structure TimePast where
  upto : Nat
  offset : Nat
  rate : Nat
  rateEpoch : Nat
  tgen : Nat
  deriving DecidableEq, Repr

/-- The timebase (R143 to R149) and the servo. `sent` holds the transmit stamps of a port's last Pdelay_Req (key 2p) and Delay_Req (2p + 1), `seen` what
its last Sync said, local less master time; both in 1/256 ns. `past` holds what stood before the adjustments of the last second, newest first, for stamps
of an instant before them. -/
structure TimeBase where
  raw : Nat
  running : Bool
  offset : Nat
  rate : Nat
  rateEpoch : Nat
  tgen : Nat
  quality : Nat
  pending : Option Adjust
  latches : KV Snap
  captures : KV (List Capture)
  pulses : KV Nat
  trigCount : KV Nat
  goodSyncs : Nat
  lastSync : Option Nat
  holdoverAt : Option Nat
  grandmaster : Bool
  ptpSeq : Nat
  sent : KV Nat
  seen : KV Int
  past : List TimePast
  deriving DecidableEq, Repr

/-! ### Chapters 1 and 2: shared rules, the core supply -/

/-- The core supply: an unmet pace target runs an episode (R26); `low` counts µs below 4096 at the top rail, `good` µs at or above
it. -/
structure Supply where
  episode : Bool
  low : Nat
  good : Nat
  fault : Bool
  stepAt : Option Nat
  frozen : Bool
  deriving DecidableEq, Repr

/-- The counter latch of R48 for one initiator and unit. -/
structure CtrLatch where
  key : Nat
  high : Nat
  deriving DecidableEq, Repr

/-! ### Chapter 3: the dictionary unit -/

/-- Where a dictionary request came from, for its response: the path, session and SEQ, and on UDP the source MAC address, VLAN, IP address and
port (R70). A mailbox request with a session is a bridge requester's (R227). -/
structure Origin where
  path : Path
  session : Nat
  seq : Nat
  net : List Nat
  deriving DecidableEq, Repr

/-- A request that has reached D0 (R62, R63); `waits` once executed with its response outstanding. -/
structure QReq where
  req : DictReq
  origin : Origin
  waits : Bool
  deriving DecidableEq, Repr

/-- A shadow of a group: its owner (path, session), the values written and the raw time of its last write or APPLY (R64, R65). -/
structure Shadow where
  owner : Nat × Nat
  values : KV Nat
  blobs : KV Bytes
  since : Nat
  deriving DecidableEq, Repr

/-- An applied group waiting for its unit's boundary (R66): the values, and who asked, for the response. -/
structure Applying where
  origin : Origin
  owner : Nat × Nat
  values : KV Nat
  blobs : KV Bytes
  deriving DecidableEq, Repr

/-- What a session holds until its turn (R75): a dictionary request, a request that is only answered (NOP, an unknown OP), or CLOSE. -/
inductive SessReq where
  | dict (r : DictReq)
  | reply (op : Nat) (s : Status)
  | close
  deriving DecidableEq, Repr

/-- A session of the dictionary protocol (R72 to R75). `slot` is the key slot its key came from, `cache` holds the responses to the last 8
requests executed, `early` the requests held, `closing` a session that has closed but for a request it had started. -/
structure Session where
  binding : Nat
  slot : Nat
  key : Bytes
  last : Nat
  cache : List (Nat × Option Bytes)
  early : KV (SessReq × List Nat)
  idleSince : Nat
  closing : Bool
  deriving DecidableEq, Repr

/-- A DOMAIN value being written in segments (R77). -/
structure Transfer where
  owner : Nat × Nat
  total : Nat
  data : Bytes
  since : Nat
  deriving DecidableEq, Repr

/-- A running store (`restore` false) or restore of a class (R83) and who asked. -/
structure StoreJob where
  restore : Bool
  cls : Nat
  origin : Origin
  deriving DecidableEq, Repr

/-- The dictionary unit D0. `queue` holds the requests of all paths in the order they arrived, `waits` the requests whose response waits for the
operation of an entry, `spCache` and `galCache` the last response of the service port and the gallery (R79). -/
structure DictUnit where
  running : Bool
  queue : List QReq
  waits : KV Origin
  shadows : KV Shadow
  applying : KV Applying
  sessions : KV Session
  transfers : KV Transfer
  snapshots : KV Bytes
  store : Option StoreJob
  marks : List Nat
  stored : KV Nat
  storedBlobs : KV Bytes
  spCache : Option (Nat × Bytes)
  galCache : Option (Nat × Bytes)
  deriving DecidableEq, Repr

/-! ### Chapters 4 and 5: the switch -/

/-- Copy states of Table 4.2; SENT and DROPPED copies are gone. -/
inductive CopyState where
  | landed | staged | stairwell | refill | tx
  deriving DecidableEq, Repr

/-- Drop reasons of Table 4.3, the egress filter of Table 5.5, NO_QP of R370 and the queue pair of a frozen hall (Table 16.6). -/
inductive Drop where
  | full | stw | residence | down | disabled | ecc | ctAborted | noDesc | oversize | noQp | filtered | frozen (h : Nat)
  deriving DecidableEq, Repr

/-- A copy of a frame in one egress queue (R91 to R96). `id` numbers its frame, `store` is the key of the landing cells it refers to, `n` its cells, `r` and
`s` what it is charged to reservation and pool (TCM cells in `r`), `admitted` the raw counter and `window` the closings at admission
(R104, R105). `doomed` is a drop that reached the copy while it was in REFILL (R101), `handed` a host-port copy already written to its
ring (R370). `frame` is as it leaves the port. -/
structure Copy where
  id : Nat
  store : Option Nat
  state : CopyState
  n : Nat
  r : Nat
  s : Nat
  admitted : Nat
  window : Nat
  cut : Bool
  doomed : Option Drop
  handed : Bool
  frame : Frame
  vid : Nat
  ingress : Nat
  multi : Bool
  hall0 : Bool
  deriving DecidableEq, Repr

/-- An egress queue: its copies in admission order, the latch (R98), the gate closings it has seen (R105) and whether its refill is
under way (R100). -/
structure Queue where
  copies : List Copy
  latched : Bool
  window : Nat
  refilling : Bool
  deriving DecidableEq, Repr

/-- A frame in the landing buffers: cells and references (R95); `whole` once its last cell has landed, `bad` when it failed. -/
structure Stored where
  cells : Nat
  refs : Nat
  whole : Bool
  bad : Bool
  deriving DecidableEq, Repr

/-- One destination the classification decided: the egress port and the frame as it leaves there. -/
structure Dest where
  port : Nat
  frame : Frame
  deriving DecidableEq, Repr

/-- A frame being received on a port, classified (R120): the cells that had landed at classification, at raw counter `since`, its class, VID and
destinations; `cuts` are the ports that send it by cut-through (R102) and `store` their cells. -/
structure Rx where
  len : Nat
  fcs : Bool
  landed : Nat
  cls : Nat
  vid : Nat
  dests : List Dest
  multi : Bool
  hall0 : Bool
  cuts : List Nat
  store : Option Nat
  since : Nat
  deriving DecidableEq, Repr

/-- A port's link: reported up, qualifying, held with the hold time of its link-down (R117, R118), 1 ms after a MODE change, XPRESn_N (bit 0) and
XLOSn (bit 1) of an X port that are high (R116);
the TCM policer's bucket in 1/8,000,000 byte and the raw counter of its last use (R123); the carrier of COLLISIONS. -/
structure PortLink where
  up : Bool
  qualifying : Bool
  held : Bool
  modeWait : Bool
  bucket : Option (Nat × Nat)
  pins : Nat
  deriving DecidableEq, Repr

/-- A gate control list (R137, R138): (gates, interval in ns) entries, base, cycle, extension and change time. -/
structure GateList where
  base : Nat
  cycle : Nat
  ext : Nat
  ct : Nat
  entries : List (Nat × Nat)
  deriving DecidableEq, Repr

/-- A port's schedule: the lists, the entry being executed, the start of its cycle, the gates that are open, and the last CT. -/
structure Sched where
  oper : Option GateList
  pending : Option GateList
  pos : Nat
  start : Nat
  gates : Nat
  changeNs : Nat
  deriving DecidableEq, Repr

/-- A learned forwarding entry, with the raw counter of its last learn or refresh (R127). -/
structure Learned where
  mac : Nat
  vid : Nat
  port : Nat
  seen : Nat
  deriving DecidableEq, Repr

/-- State of a stream (R132 to R136): the seven counters, SAT, BLOCKED, the next generated number, the recovery function's last
number and history (bit i for number − i; `none` takes any), the two meter buckets and the raw counter they were filled at. -/
structure StreamSt where
  counts : List Nat
  sat : Nat
  blocked : Bool
  next : Nat
  recov : Option (Nat × Nat)
  green : Nat
  yellow : Nat
  filled : Option Nat
  deriving DecidableEq, Repr

/-- The switch; `moved` holds the stairwell cells written and read, with their raw counter, for STW_RATE. -/
structure Switch where
  queues : KV Queue
  stores : KV Stored
  nextStore : Nat
  rx : KV Rx
  links : KV PortLink
  scheds : KV Sched
  fdb : List Learned
  streams : KV StreamSt
  moved : List (Nat × Nat)
  deriving DecidableEq, Repr

/-! ### Chapter 7: CAN channels -/

/-- A received frame with its SOF stamp (R167) and, in the FIFO, its number. -/
structure RxFrame where
  frame : CanFrame
  stamp : Nat
  frac : Nat
  tgen : Nat
  seq : Nat
  deriving DecidableEq, Repr

/-- What is on the bus from this channel: a transmit buffer or the head of the service transmitter, with its SOF stamp. -/
structure OnBus where
  txb : Option Nat
  frame : CanFrame
  stamp : Nat
  frac : Nat
  tgen : Nat
  deriving DecidableEq, Repr

/-- A frame of the service transmitter; `ref` marks a reference message with its cycle count, built as it is sent (R185), `tunnel` a
frame of the queue of a tunnel (R231). -/
structure SvcFrame where
  frame : CanFrame
  ref : Option Nat
  tunnel : Option Nat
  deriving DecidableEq, Repr

/-- The lock of a receive object or of the FIFO head: holder and noted LOSTCNT (R176). -/
structure ObjLock where
  holder : Nat
  noted : Nat
  deriving DecidableEq, Repr

/-- The SDO server of a channel: a download being collected, an upload being sent, or a request that D0 has (R189). -/
inductive SdoState where
  | idle
  | download (index sub toggle total : Nat) (data : Bytes)
  | upload (index sub toggle : Nat) (rest : Bytes)
  | asked (index sub : Nat) (reply : Nat)
  deriving DecidableEq, Repr

/-- A channel's state beside its registers and entries. `aborts` are buffers to end after the frame on the bus (R171), `expired` the
former holders by object (R178), key 64 being the FIFO; `lastRef` the raw counter of the last reference message of higher priority
(R185); `late` says that the reference message on the bus was replaced by a later firing (R185); `upto` is the raw counter at which a drain began:
a frame in progress then is still received (R183); `sdoAt` the raw counter of the last segment (R189). -/
structure CanCh where
  onBus : Option OnBus
  aborts : List Nat
  service : List SvcFrame
  fifo : List RxFrame
  fifoSeq : Nat
  locks : KV ObjLock
  expired : KV (List Nat)
  shadow : Option (Nat × RxFrame)
  recovering : Bool
  released : Bool
  sdo : SdoState
  lastRef : Option Nat
  late : Bool
  upto : Option Nat
  sdoAt : Nat
  deriving DecidableEq, Repr

/-! ### Chapters 8 and 19: sleep, wake, power -/

/-- A sleep domain: its state of Table 8.3, KA_SEQ, the raw counter at which its running timer started, and whether its next keep-alive
carries REPEAT (R201); `sent` is the raw counter at its last keep-alive. -/
structure Domain where
  state : Nat
  seq : Nat
  timer : Nat
  again : Bool
  sent : Nat
  deriving DecidableEq, Repr

/-- The wake configuration and watch list as the vestibule copied them when it armed (Table 8.4 step 4): WAKE_MODE and FILTER_CUR by
source, and the watched sources. -/
structure Armed where
  modes : List Nat
  filters : List Nat
  watch : List Nat
  deriving DecidableEq, Repr

/-- Sleep and wake. `trx` holds the compatibility states of Table 8.6 of the channels that are not NORMAL; `target` the state being
entered; `paused` the units that step 1 found ENABLED; `quarantine` the false wakes of each quarantine; `owed` the channels whose wake opens a window
when they are ENABLED again, `opened` the raw counter at which each window opened (R208); `trxAt` the raw counter at which each transceiver took its
compatibility state (R205); `frameErr` the frame error counters of the selective-wake decoders (R207). -/
structure SleepSt where
  domains : KV Domain
  trx : KV Nat
  target : Nat
  paused : List UnitId
  armed : Option Armed
  quarantine : KV Nat
  owed : List Nat
  opened : KV Nat
  trxAt : KV Nat
  frameErr : KV Nat
  deriving DecidableEq, Repr

/-- Where the device is in its life (R440 to R442): without supply, held in chip reset by RESET_N at low or by its temperature, in STANDBY (2) or
SLEEP (3), or running. -/
inductive Phase where
  | off | held (pin hot : Bool) | asleep (target : Nat) | running
  deriving DecidableEq, Repr

/-- The service port (R453): RX_FREE, FRAME_ERR, the response that waits, and whether a request is in execution. -/
structure ServicePort where
  rxFree : Bool
  frameErr : Bool
  response : Option Bytes
  busy : Bool
  deriving DecidableEq, Repr

/-- Power: the phase, the raw counter at a power fail, the service port. -/
structure PowerSt where
  phase : Phase
  pfSince : Nat
  sp : ServicePort
  deriving DecidableEq, Repr

/-! ### Chapter 9: bridges -/

/-- A request a context or poll session has queued (R220): the message in the clear, who issued it and for which hall and epoch, and the
window address. `gone` says that its initiator left (R223); `back` is the served session that issued it through this device's responder (R224). -/
structure BReq where
  msg : BMsg
  initiator : Nat
  hall : Nat
  epoch : Nat
  addr : Nat
  gone : Bool
  back : Option Nat
  deriving DecidableEq, Repr

/-- The requester's side of a session (R218 to R220): 0 none, 1 connecting, 2 connected; its key and the slot it came from, the requester
nonce, the next MSG_SEQ, the unresolved and the waiting requests, the last 32 response numbers, retransmissions so far, and requests
that were settled while their response may still come (R223). -/
structure BSess where
  state : Nat
  slot : Nat
  key : Bytes
  nonce : Bytes
  next : Nat
  sent : List BReq
  waiting : List BReq
  seen : List Nat
  tries : Nat
  late : List BReq
  deriving DecidableEq, Repr

/-- What a context keeps beside its page: the sequence a FENCE waits for, failures since the last FENCE of the writes before it and of the writes
after a FENCE that waits, and the status block (Table 9.6). -/
structure BCtx where
  fence : Option Nat
  failed : Bool
  timedOut : Bool
  laterFailed : Bool
  laterTimedOut : Bool
  evtSeq : Nat
  toggle : Nat
  deriving DecidableEq, Repr

/-- The responder's side of a session (R218, R219, R225): peer MAC, key and slot, the last request performed, the responses to the last 32,
requests held early, the next response number, ACK_SEQ, FAIL_MAP, writes no ACK covers, a request that D0 has, and the epoch of the last request. -/
structure BServe where
  mac : Nat
  slot : Nat
  key : Bytes
  last : Nat
  cache : List (Nat × Option Bytes)
  early : KV BMsg
  resp : Nat
  ackSeq : Option Nat
  failMap : Nat
  uncovered : Nat
  asked : Option BMsg
  epoch : Nat
  deriving DecidableEq, Repr

/-- A tunnel's collected ACF messages and its next sequence_num (R231). -/
structure Tunnel where
  pdu : List Bytes
  seq : Nat
  deriving DecidableEq, Repr

/-- The bridge units. Sessions are keyed by unit × 2,048 + SID, contexts by unit × 64 + context, sessions served by (unit, requester unit,
node, SID), endpoint toggles by unit × 1,024 + endpoint. -/
structure Bridge where
  sess : KV BSess
  ctx : KV BCtx
  serve : KV BServe
  tunnels : KV Tunnel
  toggles : KV Nat
  deriving DecidableEq, Repr

/-! ### Chapters 12 and 13: load channels, analog inputs -/

/-- What a channel's power die holds beside its entries: the command in force (Table 12.6), the last CLEAR bit, the raw counter at entry to
its state and at its last entry to TRIPPED (R290), its own sensed current, SENSE_SEQ, and its PWM period: start, duty and length in
force and the end of a closed phase that a restart let run on (R300). Then on the raw counter: the first closing of the inrush window (R285), the
last off-state check (R299) and the last selection by external select pins (R297). -/
structure LoadCh where
  cmd : Nat
  clear : Bool
  since : Nat
  trippedAt : Option Nat
  ma : Nat
  seq : Nat
  pwmStart : Nat
  pwmDuty : Nat
  pwmUs : Nat
  pwmPhase : Nat
  tail : Nat
  first : Option Nat
  checked : Option Nat
  sensed : Nat
  deriving DecidableEq, Repr

/-- The load channels: the groups whose safe-state line is asserted, the raw counter at the last valid transfer of a lost die link, the
select code of the sequencer, whether a LOSS_HIGH episode runs and the raw counter since when the estimate exceeds its limit (R309), the raw
counter at the fall of each group's VBAT (R289) and at the last warm reset (R305). -/
structure LoadSt where
  chs : KV LoadCh
  safeLine : List Nat
  linkLost : KV Nat
  sel : Nat
  lossHigh : Bool
  lossAt : Option Nat
  uvAt : KV Nat
  heldAt : Nat
  deriving DecidableEq, Repr

/-- A run of a sequence: its list, the stamp of its first sample and whether that came late (R314, R317). -/
structure AdcRun where
  seq : Nat
  list : List Nat
  stamp : Nat
  tgen : Nat
  late : Bool
  at_ : Nat
  deriving DecidableEq, Repr

/-- A converter: the run in progress and the pending starts in order, each with the raw counter at its start (R315). -/
structure Conv where
  run : Option AdcRun
  pending : List (Nat × Nat)
  deriving DecidableEq, Repr

/-- The analog inputs: converters, latest codes by channel, the raw counter at the opening of each open shunt (R313)
and at a change of RANGE. -/
structure AnalogSt where
  convs : KV Conv
  codes : KV Nat
  shuntOpen : KV Nat
  ranged : KV Nat
  deriving DecidableEq, Repr

/-! ### Chapters 10 and 11: the scan engine, online change, forces -/

/-- A task's run (R241 to R244): `phase` 0 idle, 1 ready, 2 running; the raw counter at step 1; START_NS of the run; runs since START; a pending
event trigger's time; whether a forward step passed instants since the last run. -/
structure TaskRun where
  phase : Nat
  origin : Nat
  startNs : Nat
  cycle : Nat
  pending : Option Nat
  skipped : Bool
  fresh : Bool
  deriving DecidableEq, Repr

/-- A station slot (R252, R253): the data last accepted (an Ethernet station's whole, a CAN slot's by image offset), whether a frame came since
the last snapshot and since START, snapshots without one, whether the last publication held its outputs, snapshots that used a
substitute while LOST, and whether its next output carries FIRST. -/
structure Slot where
  data : Bytes
  pdo : KV Nat
  fresh : Bool
  got : Bool
  missed : Nat
  held : Bool
  subst : Nat
  first : Bool
  deriving DecidableEq, Repr

/-- A record of the RETAIN area (R255): the cells of the area, IMAGE_ID, RETAIN_LAYOUT, the time, the tasks that were running. -/
structure Retain where
  data : List Host.Cell
  imageId : Nat
  layout : Nat
  time : Nat
  mask : Nat
  deriving DecidableEq, Repr

/-- An online change in progress (R261 to R276): the new image, after the switch the old one until the commit, the CHANGE word, the raw counter at entry to CHANGE_STATE 3, whether the standby
follows, on a standby the instant COMMIT named, and what the switch did. -/
structure Change where
  image : Bytes
  old : Option Bytes
  word : Nat
  since : Nat
  twin : Bool
  commitAt : Option Nat
  oldId : Nat
  switchTime : Nat
  waitUs : Nat
  switchNs : Nat
  kept : Nat
  released : List Nat
  discarded : Nat
  deriving DecidableEq, Repr

/-- The scan engine: runs, slots, per executor the ready tasks in the order of their snapshots and the running ones innermost first, tasks whose
next run is the first after a warm reset, the saved records newest first, the save in progress with the raw counter at its start, the force table
(type and value by tag), the change. -/
structure ScanSt where
  runs : KV TaskRun
  slots : KV Slot
  ready : KV (List Nat)
  stackOf : KV (List Nat)
  warm : List Nat
  records : List Retain
  saving : Option (Nat × Retain)
  forces : KV (Nat × Bytes)
  change : Option Change
  deriving DecidableEq, Repr

/-! ### Chapter 14: interrupts and debug -/

/-- A core beside its page (R324, R325, R341): the fault-status CSRs of its modes, NHALL of an A-core, whether debug has halted it, and the
registers that debug has read or written since, by their number in the debug specification. -/
structure Hart where
  mfstat : Nat
  sfstat : Nat
  vsfstat : Nat
  nhall : Nat
  halted : Bool
  regs : KV Nat
  deriving DecidableEq, Repr

/-! ### Chapter 15: memory, DMA, queue pairs -/

/-- A DMA channel beside its page (R359 to R368): the descriptor in execution, its bytes moved, its outcome once it has one, whether it waits for
a write to TAIL, whether the descriptor before completed other than OK, cached translations: physical page by IOVA page and access, and its burst
through a bridge window: the window addresses not yet answered, the bytes read so far, and how many bytes its unanswered writes carry. -/
structure DmaCh where
  desc : Bytes
  done : Nat
  ended : Option Status
  waits : Bool
  bad : Bool
  tlb : KV Nat
  await : List Nat
  parts : KV Bytes
  moving : Nat
  deriving DecidableEq, Repr

/-- The channels, the channel that moved the last burst and the queue pair that each host engine served last (R364, R371), and the addresses of the
code words that hold an uncorrectable error (R346). -/
structure MemSt where
  chs : KV DmaCh
  last : Nat
  turn : KV Nat
  poison : List Nat
  deriving DecidableEq, Repr

/-! ### Chapter 16: halls -/

/-- A migration on its source (R387 to R390): the hall, whether the partner has accepted, the pass, whether MIG_READY has been written, GO's raw
counter, whether the state record has been sent, the settings read at MIGRATE, and the raw counter then. -/
structure Migration where
  hall : Nat
  accepted : Bool
  pass : Nat
  ready : Bool
  goAt : Option Nat
  sent : Bool
  dirtyMax : Nat
  passesMax : Nat
  force : Bool
  since : Nat
  deriving DecidableEq, Repr

/-- Halls: those on their way to rest after FREEZE, the raw counter at the last restart of each watchdog, the migration that leaves, the pages
written since its present pass began, the instances (section kind, number) each arriving hall will take, the arriving halls that have been
restored, mailbox requests whose completion a hall reset discards, the raw counter when the gallery link or the partner was last lost. -/
structure HallSt where
  freezing : List Nat
  kicked : KV Nat
  mig : Option Migration
  dirty : List Nat
  reserved : KV (List (Nat × Nat))
  arrived : List Nat
  mute : List Nat
  lostAt : Option Nat
  deriving DecidableEq, Repr

/-! ### Chapter 17: the mezzanine -/

/-- The crypto job that runs (R405): its descriptor, and its status once it has one. -/
structure CryptoJob where
  desc : Bytes
  ended : Option Status
  deriving DecidableEq, Repr

/-- The mezzanine: the job, the slots whose CLEAR waits for it (R404), the watchdog's raw counter at its last kick and the period in force since
(R412), the sealed copies of key slots with their usage (R403), whether the device key is inhibited (R408), and the raw counter at which debug
stopped the watchdog's count. -/
structure MezzSt where
  job : Option CryptoJob
  clearing : List Nat
  kick : Nat
  period : Nat
  sealed : KV (Nat × Bytes)
  inhibited : Bool
  paused : Option Nat
  deriving DecidableEq, Repr

/-! ### Chapter 18: clocks -/

/-- A clocked domain (R419, R423, R427): whether its PLL is locked, whether it holds a control word, the source before a stop, the source that a
switch goes to. -/
structure ClkDom where
  locked : Bool
  word : Bool
  old : Nat
  target : Option Nat
  deriving DecidableEq, Repr

/-- Clocks beside their entries: the raw counter since which each source is stable, the domains, whether the RCO domain runs on XO (R423), the raw
counter at entry to the reference-loss safe state, whether modulation may start at a lock of PLL_SYS (R421), whether DRAM is in the self-refresh of
R423 or R433, the raw counter when a domain last stopped without a fallback (R424), and at the last access to DRAM (R433). -/
structure ClockSt where
  since : KV Nat
  doms : KV ClkDom
  rcoOnXo : Bool
  lossAt : Nat
  sscOpen : Bool
  selfRefresh : Bool
  waitAt : Nat
  dramAt : Nat
  deriving DecidableEq, Repr

/-! ### Chapter 20: storage -/

/-- A storage command between its fetch and its write-back (R468): ring index, CTRL, COUNT, LBA and ADDR of its descriptor, sectors done, its
status once it has one, and whether it has been written back. -/
structure StCmd where
  idx : Nat
  ctrl : Nat
  count : Nat
  lba : Nat
  addr : Nat
  done : Nat
  ended : Option Status
  back : Bool
  deriving DecidableEq, Repr

/-- Storage: whether the translation layer is mounted, the commands of each ring from HEAD on, the written sectors (partition sector s of hall h
under h × 2²² + s, the log's under 2³² + offset / 4,096), those that answer INTEGRITY, the write buffer (per group of sectors that persists as a
whole, what each held before), and the raw counter at the last commit of the event log. -/
structure StoSt where
  mounted : Bool
  rings : KV (List StCmd)
  sectors : KV Bytes
  bad : List Nat
  buffer : List (List (Nat × Option Bytes))
  commitAt : Nat
  deriving DecidableEq, Repr

/-! ### Chapter 21: firmware update -/

/-- Firmware (R475 to R484): the image in FW_ACTIVE (`none` is the one the device was delivered with), the next block of a copy that the journal
records as begun, whether a resumed copy was rejected, whether the image awaits its confirmation, and the version of each record that stands in
SETTINGS, under KIND × 2³² + KEY of Table 21.4. -/
structure UpdSt where
  active : Option Bytes
  copying : Option Nat
  broken : Bool
  trial : Bool
  records : KV Nat
  deriving DecidableEq, Repr

/-! ### Chapter 22: twin operation -/

/-- A gallery lane since its link-up (R493, R494): own nonce (empty before block lock), lane key once the partner's HELLO has verified, frames
sent, the last SEQ accepted, whether a DATA frame under the key was accepted. -/
structure Lane where
  nonce : Bytes
  key : Option Bytes
  tx : Nat
  rx : Nat
  up : Bool
  pos : Nat
  deriving DecidableEq, Repr

/-- A posted gallery message without a known outcome (R496): its number, the hall and hall epoch that issued it, the raw counter at its issue, whether
an attach sent it. -/
structure GPost where
  seq : Nat
  hall : Nat
  epoch : Nat
  sent : Nat
  attach : Bool
  deriving DecidableEq, Repr

/-- What the standby keeps of a task (R501, R502): the INPUTS it is collecting, whether they are complete, its own CRC and the active's by
CYCLE, consecutive mismatches and late instants, the instant of the last complete INPUTS. -/
structure TwinRun where
  cycle : Nat
  startNs : Nat
  data : Bytes
  full : Bool
  own : Option (Nat × Nat)
  peer : Option (Nat × Nat)
  wrong : Nat
  late : Nat
  last : Nat
  deriving DecidableEq, Repr

/-- An attach in progress (R500): 1 the joiner has asked, 2 the joiner receives, 3 the active looks for a boundary. The raw counter at its
start, the image and snapshot bytes received, whether CMD asked for it. -/
structure Attach where
  step : Nat
  since : Nat
  image : Bytes
  snap : Bytes
  byCmd : Bool
  deriving DecidableEq, Repr

/-- A handover in progress (R509): 0 looks for a boundary, 1 offered, 3 sent go, 4 the standby accepted; the instant I, in step 0 the raw counter at its
start. -/
structure Handover where
  step : Nat
  instant : Nat
  deriving DecidableEq, Repr

/-- What a block controller keeps of a node (R505): the last beacon's epoch and role, the raw counter when it came. -/
structure NodeRec where
  epoch : Nat
  role : Nat
  seen : Nat
  deriving DecidableEq, Repr

/-- The partner's last heartbeat (Table 22.6). -/
structure PeerBeat where
  flags : Nat
  state : Nat
  change : Nat
  activeId : Nat
  forceGen : Nat
  deriving DecidableEq, Repr

/-- The twin unit. `low` is FAULT_N at low; `live` and `scan` are causes 5 and 6 of Table 22.2; `alive` the level of
TWIN_ALIVE_OUT; `peerMac` the partner's DEVICE_MAC from its HELLO; `mseq` the next posted number, `posts` those without an
outcome; `rxSeq`, `rxFail`, `rxOpen` what an ACK reports: the highest posted number performed, its fail map, messages no ACK covers; `sent`
the retentive bytes as last replicated, `lines` RETAIN lines that wait for a run's end; `repl` replication bytes sent by raw counter; `promote` the cause of a promotion decided on and whether its
epoch is taken; `fell` the raw counter when TWIN_FLT_N fell, while no decision was made; `refused` an attach was refused; `known` PEER_EPOCH is known;
`muted` tasks whose present run is not published (R506). The raw counter at the last TWIN_ALIVE edge, heartbeat, LIVE_KICK, refused attach and query
(`edgeAt` to `queryAt`); `answer` what the bridge returned to the query, with its first 4 bytes. -/
structure TwinSt where
  low : Bool
  live : Bool
  scan : Bool
  alive : Bool
  peerMac : Nat
  lanes : KV Lane
  mseq : Nat
  posts : List GPost
  rxSeq : Option Nat
  rxFail : Nat
  rxOpen : Nat
  hbSeq : Nat
  beat : Option PeerBeat
  attach : Option Attach
  hand : Option Handover
  runs : KV TwinRun
  sent : List Host.Cell
  lines : KV Bytes
  nodes : KV NodeRec
  query : Bool
  promote : Option (Nat × Bool)
  repl : List (Nat × Nat)
  fell : Option Nat
  refused : Bool
  known : Bool
  muted : List Nat
  edgeAt : Nat
  beatAt : Nat
  kickAt : Nat
  refusedAt : Nat
  queryAt : Nat
  answer : Option (Bool × Nat)
  deriving DecidableEq, Repr

/-! ### What is fixed on the board and at manufacture -/

/-- Identity and board facts: node ID (R2), DEVICE_MAC, serial number, installed DRAM in MiB, fuse keys. -/
structure Board where
  nodeId : Nat
  deviceMac : Nat
  serial : Nat
  dramMib : Nat
  keyHashes : List Bytes
  vendor : Nat
  revision : Nat
  hwVersion : Bytes
  swVersion : Bytes
  deriving DecidableEq, Repr

end Sys2Proof.Machine
end

