-- ==== Sys2Proof/Machine/State.lean ====
section
/-! DEFINITION. The state of the machine: the queue of waiting commands and the device. Every piece of state the manual names is
here: the dictionary's entries, the registers, memory, and the life of each unit. -/

namespace Sys2Proof.Machine

/-- The device: everything but the queue. -/
structure Dev where
  /-- Integer entries of the dictionary that differ from their default (R56), by index × 256 + subindex; signed ones in two's complement. -/
  dict : KV Nat
  /-- String and DOMAIN entries that have been written, by the same key. -/
  blobs : KV Bytes
  /-- 32-bit words of the memory-mapped registers that differ from their reset value, by address. -/
  regs : KV Nat
  /-- Bytes of memory that differ from what an unlisted address reads as, by physical address. -/
  mem : List Host.Cell
  /-- Role epochs that differ from the start value of this boot (R43, R44), by unit. -/
  epochs : KV Nat
  /-- How many free values have been drawn (the model's own field; R72, R405, R409). -/
  free : Nat
  /-- What the last command put out (the model's own field). -/
  out : List Out
  /-- The event logs (R35 to R39). -/
  logs : Logs
  /-- The once-per-second limits of R548, by scope. -/
  limits : KV Limit
  /-- The counter latches of R48, by initiator and unit. -/
  ctrLatch : KV CtrLatch
  /-- Low words staged for a counter (R48), by entry key. -/
  ctrStage : KV Nat
  /-- Raw counter at entry to DRAINING of each draining unit (R52). -/
  drains : KV Nat
  /-- The core supply (R24, R26). -/
  supply : Supply
  /-- The timebase (R143 to R149). -/
  time : TimeBase
  /-- The dictionary unit (R60 to R83). -/
  d0 : DictUnit
  /-- The switch (R86 to R142). -/
  sw : Switch
  /-- The CAN channels that are not at rest (R164 to R193), by number. -/
  can : KV CanCh
  /-- Sleep and wake (R194 to R214). -/
  sleep : SleepSt
  /-- Power (R440 to R456). -/
  power : PowerSt
  /-- The bridge units (R215 to R234). -/
  br : Bridge
  /-- The load channels (R279 to R311). -/
  load : LoadSt
  /-- The analog inputs (R312 to R321). -/
  adc : AnalogSt
  /-- The scan engine (R235 to R278). -/
  scan : ScanSt
  /-- DMA, queue pairs and the memories' codes (R346 to R373). -/
  dma : MemSt
  /-- Halls (R374 to R392). -/
  tenants : HallSt
  /-- The mezzanine (R393 to R417). -/
  mezz : MezzSt
  /-- Clocks (R418 to R429). -/
  clk : ClockSt
  /-- The storage unit (R457 to R474). -/
  sto : StoSt
  /-- Firmware (R475 to R487). -/
  upd : UpdSt
  /-- The raw counter at the claim of each source that moderation holds back (R339); M0's source n under 512 + n. -/
  held : KV Nat
  /-- The cores A0 to A3, C0 to C7 and M0 (R324, R325, R341), numbered 0 to 12. -/
  harts : KV Hart
  /-- The twin unit (R488 to R512). -/
  twin : TwinSt
  /-- Identity and board facts. -/
  board : Board
  deriving DecidableEq, Repr

/-- The machine: the commands that wait, first in first out, and the device. -/
structure State where
  pending : List Instr
  dev : Dev
  deriving DecidableEq, Repr

/-- Why the machine would stop with a fault. The block has no fault: every error is a status code, a record or a line (R31), so the
one constructor is raised by nobody. Safe: it allows nothing. -/
inductive Fault where
  /-- Raised by no command. -/
  | none
  deriving DecidableEq, Repr

/-- Why a command has no meaning. -/
inductive Refusal where
  /-- The command is not modelled; raised by an arm of `exec` only. Safe: the model stops where the hardware goes on. -/
  | notModelled (mnemonic : String)
  deriving DecidableEq, Repr

/-- The device before its supply comes up: cold reset asserted, every register at the reset value the manual gives, or at the value
the assumption log names. -/
def Dev.off : Dev where
  dict := []
  blobs := []
  regs := []
  mem := []
  epochs := []
  free := 0
  out := []
  logs := ⟨0, false, [], ⟨0, none⟩, [], [], ⟨0, none⟩, [], [], []⟩
  limits := []
  ctrLatch := []
  ctrStage := []
  drains := []
  supply := ⟨false, 0, 0, false, none, false⟩
  time := ⟨0, false, 0, 0, 0, 0, 0, none, [], [], [], [], 0, none, none, false, 0, [], [], []⟩
  d0 := ⟨false, [], [], [], [], [], [], [], none, [], [], [], none, none⟩
  sw := ⟨[], [], 0, [], [], [], [], [], []⟩
  can := []
  sleep := ⟨[], [], 0, [], none, [], [], [], [], []⟩
  power := ⟨.off, 0, ⟨true, false, none, false⟩⟩
  br := ⟨[], [], [], [], []⟩
  load := ⟨[], [], [], 0, false, none, [], 0⟩
  adc := ⟨[], [], [], []⟩
  scan := ⟨[], [], [], [], [], [], none, [], none⟩
  dma := ⟨[], 0, [], []⟩
  tenants := ⟨[], [], none, [], [], [], [], none⟩
  mezz := ⟨none, [], 0, 2000, [], false, none⟩
  clk := ⟨[], [], false, 0, true, false, 0, 0⟩
  sto := ⟨false, [], [], [], [], 0⟩
  upd := ⟨none, none, false, false, []⟩
  held := []
  harts := []
  twin := ⟨true, false, false, false, 0, [], 1, [], none, 0, 0, 0, none, none, none, [], [], [], [], false, none, [], none, false, false, [], 0, 0, 0, 0, 0, none⟩
  board := ⟨0, 0, 0, 8192, [], 0, 0, [], []⟩

/-- The device right after a cold reset, at the end of the start-up sequence of Table 19.8 on a board with 8 GiB of DRAM, VAUX at 12 V and XO stable
(assumption 57): what the sequence leaves beside the values of `Dev.off`. CHALLENGE is a free value. -/
def Dev.reset : Dev := { Dev.off with
  dict := [(0x210006, 12000), (0x210007, 15), (0x220003, 5), (0x2C0001, 8192), (0x2C0003, 256), (0x340101, 4194304), (0x500001, 12), (0x500003, 1)]
  blobs := [(0x240005, le 16 (Config.freeValue 0 128).toNat)]
  regs := [(0x10000C28, 8), (0x10000C30, 4), (0x10000C38, 32), (0x1F000000, 0x80000010), (0x1F000004, 0x80000400), (0x1F000008, 0x80001600),
           (0x1F030000, 0x800007D0)]
  free := 1
  logs := { Dev.off.logs with
    seq := 13
    isOpen := true
    device := ⟨0, some (0, 0)⟩
    waiting := [.base 0 0 0x3800 0x4001 0, .base 1 0 0x3000 0x4008 1, .base 2 0 0x3000 0x4022 0x10000, .base 3 0 0x2C07 0x4025 1,
                .base 4 0 0x4000 0x4020 0x10, .base 5 0 0x4000 0x4020 0x40000400, .base 6 0 0x4000 0x4020 0x80001600,
                .base 7 0 0x3400 0x4023 0, .base 12 0 0x2C07 0x4025 0]
    secure := ⟨0, some (0, 0)⟩
    secureRecs := [.base 8 0 0x3800 0x4001 0, .base 9 0 0x4000 0x4020 0x10, .base 10 0 0x4000 0x4020 0x40000400,
                   .base 11 0 0x4000 0x4020 0x80001600] }
  time := { Dev.off.time with running := true }
  d0 := { Dev.off.d0 with running := true }
  power := { Dev.off.power with phase := .running }
  clk := { Dev.off.clk with
    since := [(0, 0), (2, 0)]
    doms := [(0, ⟨true, true, 0, none⟩), (1, ⟨true, true, 0, none⟩), (2, ⟨true, true, 0, none⟩), (3, ⟨true, true, 0, none⟩)]
    sscOpen := false
    selfRefresh := false }
  sto := { Dev.off.sto with mounted := true }
  twin := { Dev.off.twin with low := false } }

/-- The machine right after reset: no command waits. -/
def State.reset : State := ⟨[], Dev.reset⟩

end Sys2Proof.Machine
end

