-- ==== Sys2Proof/Machine/Ops.lean ====
section
/-! DEFINITION. The named operations over entries, registers, memory and epochs, and the memory map (Table 1.10). -/

namespace Sys2Proof.Machine

/-- The device with the outputs of the command before dropped. -/
def Dev.fresh (d : Dev) : Dev := { d with out := [] }

/-- Run an effect in every phase: the outputs of the command before are dropped, the queue is left alone. -/
def onVest (s : State) (f : Dev → Dev) : Host.Outcome State Fault Refusal :=
  .next { s with dev := f s.dev.fresh }

/-- The device runs: it is neither without supply, nor in chip reset, nor in STANDBY or SLEEP. -/
def Dev.awake (d : Dev) : Bool := d.power.phase == .running

/-- Run an effect that needs a supply: without VAUX the vestibule does nothing either (R438). -/
def onVaux (s : State) (f : Dev → Dev) : Host.Outcome State Fault Refusal := onVest s fun d => if d.power.phase == .off then d else f d

/-- Run an effect of the interior, which needs the device to run (Table 19.3). -/
def onDev (s : State) (f : Dev → Dev) : Host.Outcome State Fault Refusal := onVest s fun d => if d.awake then f d else d

/-! ### Entries -/

/-- The active value of an integer entry. -/
def Dev.get (d : Dev) (e : Entry) : Nat := KV.get e.dflt e.key d.dict

/-- Store an integer entry, narrowed to its width. -/
def Dev.put (d : Dev) (e : Entry) (v : Nat) : Dev := { d with dict := KV.put e.dflt e.key (v % 2 ^ e.bits) d.dict }

/-- An entry read as two's complement. -/
def Dev.getInt (d : Dev) (e : Entry) : Int := toInt e.bits (d.get e)

/-- Store an integer in two's complement. -/
def Dev.putInt (d : Dev) (e : Entry) (v : Int) : Dev := d.put e (ofInt e.bits v)

/-- The entry is 1. -/
def Dev.flag (d : Dev) (e : Entry) : Bool := d.get e == 1

/-- Set or clear one bit of an entry. -/
def Dev.putBit (d : Dev) (e : Entry) (i : Nat) (b : Bool) : Dev := d.put e (setBit (d.get e) i b)

/-- The value of VLAN_TABLE at reset: VID 1 VALID and LEARN, P0 to P51 members and untagged (Tables 5.7 and 5.14). -/
def vlanTableReset : Bytes :=
  zeros 16 ++ (le 8 (2 ^ 52 - 1 + 2 ^ 56 + 2 ^ 57) ++ le 8 (2 ^ 52 - 1)) ++ zeros (65536 - 32)

/-- What a string or DOMAIN entry that was never written holds: all zeros, an empty value, or what its table gives. -/
def blobDefault (key bits : Nat) : Bytes :=
  if key = 0x350101 then vlanTableReset
  else if key = 0x350102 then zeros 16384
  else if key = 0x3C0005 then le 4 0 ++ le 1 0xFF ++ le 1 8 ++ le 1 0 ++ le 1 0xFF ++ zeros 8
  else if key = 0x350104 then zeros 65536
  else if 0x354006 ≤ key ∧ key ≤ 0x356F06 ∧ key % 256 = 6 then le 4 0xFF01E848
  else if key = 0x2A0101 then zeros 2048
  else if 0x2D0001 ≤ key ∧ key ≤ 0x2DFF01 ∧ key % 256 = 1 then zeros 512
  else if 0x380201 ≤ key ∧ key ≤ 0x38F201 ∧ key % 4096 = 0x201 then zeros 512
  else if 0x3A0006 ≤ key ∧ key ≤ 0x3A0306 ∧ key % 256 = 6 then zeros 1024
  else if 0x3A0007 ≤ key ∧ key ≤ 0x3A0307 ∧ key % 256 = 7 then zeros 8192
  else zeros (bits / 8)

/-- The value of a string or DOMAIN entry. -/
def Dev.oct (d : Dev) (e : Entry) : Bytes := (KV.find e.key d.blobs).getD (blobDefault e.key e.bits)

/-- Store a string or DOMAIN entry. -/
def Dev.putOct (d : Dev) (e : Entry) (b : Bytes) : Dev := { d with blobs := KV.insert e.key b d.blobs }

/-! ### Registers -/

/-- The 32-bit word at a register address. -/
def Dev.word (d : Dev) (a reset : Nat) : Nat := KV.get reset a d.regs

/-- Store a register word. -/
def Dev.putWord (d : Dev) (a reset v : Nat) : Dev := { d with regs := KV.put reset a (v % 2 ^ 32) d.regs }

/-- The value of a register field. -/
def Dev.fld (d : Dev) (f : Field) : Nat := bits (d.word f.addr f.wordReset) f.hi f.lo

/-- Store a register field, leaving the word's other bits. -/
def Dev.setFld (d : Dev) (f : Field) (v : Nat) : Dev :=
  d.putWord f.addr f.wordReset (setBits (d.word f.addr f.wordReset) f.hi f.lo v)

/-- The field is not 0. -/
def Dev.isSet (d : Dev) (f : Field) : Bool := d.fld f != 0

/-- Set bit `i` of a field. -/
def Dev.setFldBit (d : Dev) (f : Field) (i : Nat) (b : Bool) : Dev := d.setFld f (setBit (d.fld f) i b)

/-! ### Memory -/

/-- What an unlisted address reads as: 0 (DESIGN CHOICE, assumption 4). -/
def memDefault : BitVec 8 := 0#8

/-- One byte of memory. -/
def Dev.byte (d : Dev) (a : Nat) : BitVec 8 := KV.get memDefault a d.mem

/-- Store one byte, keeping the canonical form. -/
def Dev.setByte (d : Dev) (a : Nat) (b : BitVec 8) : Dev := { d with mem := KV.put memDefault a b d.mem }

/-- `n` bytes from `a`. -/
def Dev.readMem (d : Dev) : Nat → Nat → Bytes
  | _, 0 => []
  | a, n + 1 => d.byte a :: Dev.readMem d (a + 1) n

/-- Store a byte string from `a`, byte by byte. -/
def Dev.putBytes (d : Dev) : Nat → Bytes → Dev
  | _, [] => d
  | a, b :: r => Dev.putBytes (d.setByte a b) (a + 1) r

/-- The code word of an address: its base and its bytes (Table 15.1). -/
def codeWord (a : Nat) : Nat × Nat :=
  let n := if 0x100000000 ≤ a then 64 else if 0x2000000 ≤ a ∧ a ≤ 0x20FFFFF then 4 else 8
  (a / n * n, n)

/-- A range holds a code word with an uncorrectable error (R346). -/
def Dev.poisoned (d : Dev) (a n : Nat) : Bool := d.dma.poison.any fun w => decide (a < w + (codeWord w).2) && decide (w < a + n)

/-- A code word written whole is good again (R346). -/
def Dev.cure (d : Dev) (a n : Nat) : Dev :=
  match d.dma.poison with
  | [] => d
  | l => { d with dma := { d.dma with poison := l.filter fun w => !(decide (a ≤ w) && decide (w + (codeWord w).2 ≤ a + n)) } }

/-- While a hall migrates, the 4 KiB pages a write meets are noted (R388). -/
def Dev.touch (d : Dev) (a n : Nat) : Dev :=
  match d.tenants.mig with
  | none => d
  | some _ =>
    let new := ((List.range ((a % 4096 + n + 4095) / 4096)).map fun i => a / 4096 + i).filter fun p => !d.tenants.dirty.contains p
    { d with tenants := { d.tenants with dirty := d.tenants.dirty ++ new } }

/-- Store a byte string from `a`. -/
def Dev.writeMem (d : Dev) (a : Nat) (b : Bytes) : Dev := ((d.putBytes a b).cure a b.length).touch a b.length

/-- Memory is in its canonical form: addresses rising, nothing listed that reads as an unlisted address. -/
abbrev Memory.wf (m : List Host.Cell) : Prop := KV.sorted m = true ∧ KV.noDefault (fun _ => memDefault) m = true

/-! ### Outputs, free values -/

/-- Put something out. -/
def Dev.emit (d : Dev) (o : Out) : Dev := { d with out := d.out ++ [o] }

/-- Answer a transaction or request. -/
def Dev.answer (d : Dev) (s : Status) (v : Nat := 0) : Dev := d.emit (.answer s v)

/-- Draw a free value of `w` bits. -/
def Dev.draw (d : Dev) (w : Nat) : BitVec w × Dev := (Config.freeValue d.free w, { d with free := d.free + 1 })

/-! ### Role epochs -/

/-- The reassignable units whose epochs `Dev.epochs` holds; the twin role epoch is entry 0x4C01:02. -/
inductive EpochUnit where
  | hall (h : Nat) | dma (c : Nat) | qp (q : Nat) | bridge (n : Nat) | station (s : Nat) | canObj (n k : Nat) | canTxb (n k : Nat)
  deriving DecidableEq, Repr

/-- The key of a unit's epoch. -/
def EpochUnit.key : EpochUnit → Nat
  | .hall h => h | .dma c => 0x1000 + c | .qp q => 0x2000 + q | .bridge n => 0x3000 + n | .station s => 0x4000 + s
  | .canObj n k => 0x5000 + n * 64 + k | .canTxb n k => 0x6000 + n * 4 + k

/-- The epoch every unit starts the boot with (R44). -/
def Dev.epochStart (d : Dev) : Nat := d.get Ent.Evlog.BOOT_COUNT % 256 * 256 + 1

/-- A unit's current epoch. -/
def Dev.epoch (d : Dev) (u : EpochUnit) : Nat := KV.get d.epochStart u.key d.epochs

/-- The epoch after `e`: up by 1 modulo 2 to the 16, skipping 0 (R43). -/
def nextEpoch (e : Nat) : Nat := if (e + 1) % 65536 = 0 then 1 else (e + 1) % 65536

/-- A reassignment of the unit (R43). -/
def Dev.bumpEpoch (d : Dev) (u : EpochUnit) : Dev :=
  { d with epochs := KV.put d.epochStart u.key (nextEpoch (d.epoch u)) d.epochs }

/-- Check 4 of Table 1.4 and R17: a request for a unit that uses an epoch needs a valid, equal one (R46). -/
def Dev.epochOk (d : Dev) (u : EpochUnit) (epv : Bool) (e : Nat) : Bool := epv && d.epoch u == e

/-! ### The memory map -/

/-- Regions of Table 1.10; unit registers carry no bytes of their own. -/
inductive Region where
  | bootRom | mezzSram | sysSram | tcm | image | units | mezzRegs | bridgeWindow | dramWindow | dram
  deriving DecidableEq, Repr

/-- The region an address lies in. -/
def region (a : Nat) : Option Region :=
  if a ≤ 0xFFFF then some .bootRom
  else if a ≤ 0x4FFFF then some .mezzSram
  else if 0x1000000 ≤ a ∧ a ≤ 0x17FFFFF then some .sysSram
  else if 0x2000000 ≤ a ∧ a ≤ 0x20FFFFF then some .tcm
  else if 0x3000000 ≤ a ∧ a ≤ 0x305FFFF then some .image
  else if 0x10000000 ≤ a ∧ a ≤ 0x1EFFFFFF then some .units
  else if 0x1F000000 ≤ a ∧ a ≤ 0x1FFFFFFF then some .mezzRegs
  else if 0x40000000 ≤ a ∧ a ≤ 0x7FFFFFFF then some .bridgeWindow
  else if 0x80000000 ≤ a ∧ a ≤ 0xFFFFFFFF then some .dramWindow
  else if 0x100000000 ≤ a ∧ a ≤ 0x2FFFFFFFF then some .dram
  else none

/-- Bytes of DRAM installed and trained (R349). -/
def Dev.dramSize (d : Dev) : Nat := d.get Ent.Mem.DRAM_SIZE_MIB * 1048576

/-- First address of the stairwell: it takes the top of installed DRAM (R28, R351). -/
def Dev.stairwellBase (d : Dev) : Nat := 0x100000000 + d.dramSize - d.get Ent.Mem.STW_MIB_ACTIVE * 1048576

/-- The DRAM address lies in general DRAM, below the ECC store and the stairwell (Table 15.2, R350). -/
def Dev.dramMapped (d : Dev) (a : Nat) : Bool := decide (0x100000000 ≤ a) && decide (a + d.dramSize / 32 < d.stairwellBase)

/-- Bytes below a watermark: granules of 64 KiB (R396). -/
def Dev.watermark (d : Dev) (n : Nat) : Nat := d.fld (Rg.Wm.GRANULES n) * 65536

/-- The address needs the secure world (check 2 of Table 1.4). -/
def Dev.needsSecure (d : Dev) (a : Nat) : Bool :=
  match region a with
  | some .bootRom | some .mezzSram | some .mezzRegs => true
  | some .sysSram => decide (a < 0x1000000 + d.watermark 0)
  | some .dram => decide (a < 0x100000000 + d.watermark 1)
  | _ => false

/-- The gate is OFF (Table 18.12); every gate but those of Table 18.9 has the reset value 3. -/
def Dev.gateOff (d : Dev) (g : Nat) : Bool := bits (d.get { Ent.Gate.GATE (g / 128) (g % 128) with dflt := 3 }) 2 1 == 0

/-- The memory an address lies in is there: its gate is on (check 7 of Table 1.4), and for DRAM no reference-loss safe state (R425). -/
def Dev.memOff (d : Dev) (a : Nat) : Bool :=
  match region a with
  | some .dram | some .dramWindow => d.flag Ent.Clk.REF_LOSS || d.gateOff 144
  | some .sysSram => d.gateOff 51
  | some .tcm => d.gateOff (25 + (a - 0x2000000) / 0x20000)
  | some .image => d.gateOff 33
  | _ => false

/-- The address lies in a TCM of the lower (0) or the upper (1) core of a lockstep pair that runs as one hart (R239, R327). -/
def Dev.pairTcm (d : Dev) (a upper : Nat) : Bool :=
  decide (0x2000000 ≤ a) && decide (a < 0x2100000) && (a - 0x2000000) / 0x20000 % 2 == upper && d.get (Ent.Pair.STATE ((a - 0x2000000) / 0x40000)) != 0

/-- The part of `n` bytes at `a` that lies in the TCM at `base`: from where to where. -/
def tcmPart (a n base : Nat) : Nat × Nat := (max a base, min (a + n) (base + 0x20000))

/-- Some of `n` bytes at `a` lie in the TCM of the upper core of a pair that runs as one hart: a write there is refused (R327). -/
def Dev.coversUpper (d : Dev) (a n : Nat) : Bool :=
  (List.range 4).any fun k => decide ((tcmPart a n (0x2020000 + 0x40000 * k)).1 < (tcmPart a n (0x2020000 + 0x40000 * k)).2) && d.get (Ent.Pair.STATE k) != 0

/-- An initiator's write: what goes to the TCM of a pair's lower core is written to both cores (R327). -/
def Dev.storeMem (d : Dev) (a : Nat) (b : Bytes) : Dev :=
  (List.range 4).foldl (fun d k =>
    let p := tcmPart a b.length (0x2000000 + 0x40000 * k)
    if p.1 < p.2 ∧ d.get (Ent.Pair.STATE k) ≠ 0 then d.writeMem (p.1 + 0x20000) (slice b (p.1 - a) (p.2 - p.1)) else d) (d.writeMem a b)

/-- What a plain memory access by a DMA-like unit meets at its target, in the order of Table 1.4 (R16, R28 to R30). -/
def Dev.memStatus (d : Dev) (secure write : Bool) (a : Nat) : Status :=
  match region a with
  | some .dram =>
    if !d.dramMapped a then .accessAttr else if d.needsSecure a && !secure then .worldDenied else if d.memOff a then .wrongState else .ok
  | some .sysSram | some .tcm | some .image | some .mezzSram =>
    if d.needsSecure a && !secure then .worldDenied else if write && d.pairTcm a 1 then .accessAttr else if d.memOff a then .wrongState else .ok
  | some .bootRom => if !secure then .worldDenied else if write then .accessAttr else .ok
  | _ => .accessAttr

/-- Check 8 of Table 1.4: a read meets an uncorrectable error, or a write covers a faulty DRAM block in part (R346, R347). -/
def Dev.integrityFails (d : Dev) (write : Bool) (a n : Nat) : Bool :=
  if write then d.dma.poison.any fun w => decide (0x100000000 ≤ w) && decide (w < a + n) && decide (a < w + 64) && !(decide (a ≤ w) && decide (w + 64 ≤ a + n))
  else d.poisoned a n

/-- The first failing status over a range of `n` bytes, one byte at a time at its two ends, then its codes. -/
def Dev.rangeStatus (d : Dev) (secure write : Bool) (a n : Nat) : Status :=
  if n = 0 then .ok else
  match d.memStatus secure write a with
  | .ok =>
    if region a = region (a + n - 1) then
      match d.memStatus secure write (a + n - 1) with
      | .ok => if write && d.coversUpper a n then .accessAttr else if d.integrityFails write a n then .integrity else .ok
      | s => s
    else .accessAttr
  | s => s

/-! ### Hall windows (R356) -/

/-- Window record `i` of hall `h` (Table 15.4). -/
def Dev.windowRec (d : Dev) (h i : Nat) : Bytes := slice (d.oct (Ent.Iommu.WINDOWS h)) (32 * i) 32

/-- The physical address of `n` bytes at hall address `a`, if one VALID window with the right lets the access through. -/
def Dev.throughWindow (d : Dev) (h : Nat) (write : Bool) (a n : Nat) : Nat → Option Nat
  | 0 => none
  | i + 1 =>
    let r := d.windowRec h i
    let base := leAt r 0 8
    let size := leAt r 8 8
    let fl := leAt r 24 1
    if bit fl 0 && decide (base ≤ a) && decide (a + n ≤ base + size) && (if write then bit fl 2 else bit fl 1) then
      some (leAt r 16 8 + (a - base))
    else Dev.throughWindow d h write a n i

/-- The physical address a hall's channel or ring means: hall 0 uses physical addresses, a tenant hall goes through its windows. -/
def Dev.translate (d : Dev) (h : Nat) (write : Bool) (a n : Nat) : Option Nat :=
  if h = 0 then some a else Dev.throughWindow d h write a n 16

/-- Write bytes at a hall's address: the new memory, or the status of the first failing check. -/
def Dev.hallWrite (d : Dev) (h a : Nat) (b : Bytes) : Status × Dev :=
  match d.translate h true a b.length with
  | none => (.accessAttr, d)
  | some p => match d.rangeStatus false true p b.length with
    | .ok => (.ok, d.storeMem p b)
    | s => (s, d)

/-- Read `n` bytes at a hall's address. -/
def Dev.hallRead (d : Dev) (h a n : Nat) : Status × Bytes :=
  match d.translate h false a n with
  | none => (.accessAttr, [])
  | some p => match d.rangeStatus false false p n with
    | .ok => (.ok, d.readMem p n)
    | s => (s, [])

/-! ### Halls -/

/-- Table 16.1: the hall's state; hall 0 runs from reset on. -/
def Dev.hallState (d : Dev) (h : Nat) : Nat := if h = 0 then 1 else d.get (Ent.Hall.STATE h)

/-- The hall exists: it is not ABSENT. -/
def Dev.hallExists (d : Dev) (h : Nat) : Bool := d.hallState h != 0

end Sys2Proof.Machine
end

