-- ==== Sys2Proof/Machine/Events.lean ====
section
/-! DEFINITION. Corrected time (R144), event records and their sinks (R35 to R39, R381, R415, R465), limits (R548), statistics counters
(R47) and the raising of interrupt sources (R345, Table 14.3). -/

namespace Sys2Proof.Machine

/-! ### Corrected time -/

/-- Corrected time of a raw value, modulo 2 to the 64 (R144). -/
def TimeBase.correctedAt (t : TimeBase) (raw : Nat) : Nat :=
  ofInt 64 ((t.offset : Int) + raw + toInt 64 (ofInt 64 ((raw : Int) - t.rateEpoch)) * toInt 32 t.rate / 2 ^ 40)

/-- Corrected time in 1/256 ns, with a sub-tick phase (R144): bits [7:0] are the fraction, the rest is time modulo 2 to the 64. -/
def TimeBase.corrected256 (t : TimeBase) (raw phase : Nat) : Nat :=
  let r256 : Int := raw * 256 + phase
  ofInt 72 ((t.offset : Int) * 256 + r256 + (r256 - t.rateEpoch * 256) * toInt 32 t.rate / 2 ^ 40)

/-- The present values of the timebase join the past ones; those of the last second are kept. -/
def TimeBase.noted (t : TimeBase) : TimeBase :=
  { t with past := ⟨t.raw, t.offset, t.rate, t.rateEpoch, t.tgen⟩ :: t.past.filter fun x => decide ((t.raw + 2 ^ 64 - x.upto) % 2 ^ 64 < 1000000000) }

/-- The timebase with the values that stood at a raw tick: a stamp belongs to the time at its instant (R146, R150). -/
def TimeBase.asOf (t : TimeBase) (raw : Nat) : TimeBase :=
  match (t.past.filter fun x => decide (raw < x.upto)).getLast? with
  | some x => { t with offset := x.offset, rate := x.rate, rateEpoch := x.rateEpoch, tgen := x.tgen }
  | none => t

/-- `ns` of the raw counter have passed since it read `t`. -/
def Dev.passed (d : Dev) (t ns : Nat) : Bool := decide (ns ≤ (d.time.raw + 2 ^ 64 - t) % 2 ^ 64)

/-- The same for a timeout that runs on while the raw counter stands still, when its end is taken as due. -/
def Dev.aged (d : Dev) (t ns : Nat) : Bool := !d.time.running || d.passed t ns

/-- Corrected time now. -/
def Dev.now (d : Dev) : Nat := d.time.correctedAt d.time.raw

/-- The TU bit of a record taken now (R155). -/
def Dev.tu (d : Dev) : Bool := decide (d.time.quality ≤ 1)

/-! ### Source IDs (Table 2.4) -/

/-- Source ID of a class and instance (R35). -/
def sourceId (cls inst : Nat) : Nat := cls * 1024 + inst

/-- Source IDs of the classes of Table 2.4. -/
def srcPort (p : Nat) : Nat := sourceId 0x01 p
def srcQueue (p c : Nat) : Nat := sourceId 0x02 (p * 9 + c)
def srcCan (n : Nat) : Nat := sourceId 0x03 n
def srcLoad (n : Nat) : Nat := sourceId 0x04 n
def srcAdc (a : Nat) : Nat := sourceId 0x05 a
def srcBridge (u k : Nat) : Nat := sourceId 0x06 (u * 256 + k)
def srcScan (i : Nat) : Nat := sourceId 0x07 i
def srcCore (i : Nat) : Nat := sourceId 0x08 i
def srcDma (c : Nat) : Nat := sourceId 0x09 c
def srcHall (h : Nat) : Nat := sourceId 0x0A h
def srcClock (i : Nat) : Nat := sourceId 0x0B i
def srcPower (i : Nat) : Nat := sourceId 0x0C i
def srcStorage : Nat := sourceId 0x0D 0
def srcTime (i : Nat) : Nat := sourceId 0x0E i
def srcTwin : Nat := sourceId 0x0F 0
def srcMezz (i : Nat) : Nat := sourceId 0x10 i
def srcIrq : Nat := sourceId 0x11 0
def srcUpdate : Nat := sourceId 0x12 0
def srcVestibule : Nat := sourceId 0x13 0
/-- The switch core and forwarding (class 0x01, instance 0x3FF). -/
def srcSwitchCore : Nat := sourceId 0x01 0x3FF

/-! ### Records and sinks -/

/-- An event detected now. -/
def Dev.ev (d : Dev) (source code data : Nat) (ext : Option Bytes := none) : Ev :=
  ⟨d.now % 2 ^ 32, source, code, d.tu, data % 2 ^ 32, ext⟩

/-- The CODE field (Table 2.3). -/
def Ev.codeField (e : Ev) : Nat := e.code + (if e.tu then 2 ^ 14 else 0) + (if e.ext.isSome then 2 ^ 15 else 0)

/-- The 16 bytes of a record (Table 2.2, R36). -/
def LogRec.bytes : LogRec → Bytes
  | .base q t s c dt => le 4 q ++ le 4 t ++ le 2 s ++ le 2 c ++ le 4 dt
  | .ext q p => le 4 q ++ slice p 0 12

/-- A sink's lost-record count and last anchor. -/
def Dev.sinkMeta (d : Dev) : SinkId → SinkMeta
  | .device => d.logs.device
  | .secure => d.logs.secure
  | .ring h => KV.get ⟨0, none⟩ h d.logs.rings

/-- Change a sink's lost-record count and anchor. -/
def Dev.setSinkMeta (d : Dev) (k : SinkId) (m : SinkMeta) : Dev :=
  match k with
  | .device => { d with logs := { d.logs with device := m } }
  | .secure => { d with logs := { d.logs with secure := m } }
  | .ring h => { d with logs := { d.logs with rings := KV.put ⟨0, none⟩ h m d.logs.rings } }

/-- Records of a hall's ring (R381). -/
def Dev.ringSize (d : Dev) (h : Nat) : Nat := 2 ^ d.fld (Rg.Hpg.RING_LOG2 h)

/-- The ring's address: bits [31:4] of RING_LO and RING_HI. -/
def Dev.ringBase (d : Dev) (h : Nat) : Nat := d.fld (Rg.Hpg.RING_LO h) * 16 + d.fld (Rg.Hpg.RING_HI h) * 2 ^ 32

/-- How many records a sink can take (R38, R381, R415, R465). -/
def Dev.sinkRoom (d : Dev) : SinkId → Nat
  | .device => 8192 - d.logs.waiting.length
  | .secure => 4096 - d.logs.secureRecs.length
  | .ring h =>
    if d.isSet (Rg.Hpg.RING_EN h) then
      (d.fld (Rg.Hpg.RING_TAIL h) + 2 * d.ringSize h - d.fld (Rg.Hpg.RING_HEAD h) - 1) % d.ringSize h
    else 0

/-- An anchor must precede the next record of the sink (R39). -/
def Dev.anchorDue (d : Dev) (k : SinkId) : Bool :=
  match (d.sinkMeta k).anchor with
  | none => true
  | some (r, g) => decide (r + 1000000000 ≤ d.time.raw) || decide (g ≠ d.time.tgen)

/-- Source of a sink's RECORDS_LOST (Table 2.5, R465). -/
def SinkId.source : SinkId → Nat
  | .device => srcStorage
  | .secure => srcMezz 0
  | .ring h => srcHall h

/-- The records of one group, before they are numbered (R38). -/
def Dev.group (d : Dev) (k : SinkId) (e : Ev) : List Ev :=
  (if d.anchorDue k then [d.ev (srcTime 0) 0x0001 (d.now / 2 ^ 32)] else []) ++
  (if (d.sinkMeta k).lost = 0 then [] else [d.ev k.source 0x0007 (d.sinkMeta k).lost]) ++ [e]

/-- Number the records of a group from the shared counter (R37). -/
def numberRecs (q : Nat) : List Ev → List LogRec
  | [] => []
  | e :: r =>
    match e.ext with
    | none => .base (q % 2 ^ 32) e.time e.source e.codeField e.data :: numberRecs (q + 1) r
    | some p => .base (q % 2 ^ 32) e.time e.source e.codeField e.data :: .ext ((q + 1) % 2 ^ 32) p :: numberRecs (q + 2) r

/-- Write records into a hall's ring one by one, each at RING_HEAD (R381); the status of the first refused write. -/
def Dev.ringPut (d : Dev) (h : Nat) : List LogRec → Status × Dev
  | [] => (.ok, d)
  | r :: rest =>
    match d.hallWrite h (d.ringBase h + 16 * d.fld (Rg.Hpg.RING_HEAD h)) r.bytes with
    | (.ok, d') => Dev.ringPut (d'.setFld (Rg.Hpg.RING_HEAD h) ((d.fld (Rg.Hpg.RING_HEAD h) + 1) % d.ringSize h)) h rest
    | (s, d') => (s, d')

/-- Store numbered records in a sink. -/
def Dev.sinkPut (d : Dev) (k : SinkId) (l : List LogRec) : Status × Dev :=
  match k with
  | .device => (.ok, { d with logs := { d.logs with waiting := d.logs.waiting ++ l } })
  | .secure => (.ok, { d with logs := { d.logs with secureRecs := d.logs.secureRecs ++ l } })
  | .ring h => d.ringPut h l

/-- Count lost records of a sink: the count for RECORDS_LOST, and LOG_LOST or RING_LOST. -/
def Dev.loseRecs (d : Dev) (k : SinkId) (n : Nat) : Dev :=
  let m := d.sinkMeta k
  let d := d.setSinkMeta k { m with lost := min (m.lost + n) 0xFFFFFFFF }
  match k with
  | .device => d.put Ent.Evlog.LOG_LOST (min (d.get Ent.Evlog.LOG_LOST + n) (2 ^ 64 - 1))
  | .ring h => d.put (Ent.Hall.RING_LOST h) (min (d.get (Ent.Hall.RING_LOST h) + n) (2 ^ 64 - 1))
  | .secure => d

/-- A record is due in a sink (R38): the whole group is written, or none of it and the due record is counted lost. The status is
that of a refused ring write. LAST_SEQ is the SEQ of the last record written to any sink (DESIGN CHOICE, assumption 61). -/
def Dev.writeGroup (d : Dev) (k : SinkId) (e : Ev) : Status × Dev :=
  let n := if e.ext.isSome then 2 else 1
  let consumed : Dev := { d with logs := { d.logs with seq := (d.logs.seq + n) % 2 ^ 32 } }
  let g := numberRecs d.logs.seq (d.group k e)
  if g.length ≤ d.sinkRoom k then
    match d.sinkPut k g with
    | (.ok, d') =>
      let seq' := (d.logs.seq + g.length) % 2 ^ 32
      let d' : Dev := { d' with logs := { d'.logs with seq := seq' } }
      let d' := d'.put Ent.Evlog.LAST_SEQ ((seq' + 2 ^ 32 - 1) % 2 ^ 32)
      let anchor := if d.anchorDue k then some (d.time.raw, d.time.tgen) else (d.sinkMeta k).anchor
      (.ok, d'.setSinkMeta k ⟨0, anchor⟩)
    | (s, _) => (s, consumed.loseRecs k n)
  else (.ok, consumed.loseRecs k n)

/-- A record detected before step 9 of Table 19.8 waits in the interior's buffer (R37). -/
def Dev.holdEarly (d : Dev) (k : SinkId) (e : Ev) : Dev := { d with logs := { d.logs with held := d.logs.held ++ [(k, e)] } }

/-- The counter `e` has reached all ones since `old`. -/
def Dev.reachedTop (d old : Dev) (e : Entry) : Bool := old.get e != 2 ^ 64 - 1 && d.get e == 2 ^ 64 - 1

/-- The device log takes an event; before step 9 it is held (R37). LOG_LOST at all ones writes COUNTER_SAT once; its index has no saturation field
(R47). -/
def Dev.logDevice (d : Dev) (e : Ev) : Dev :=
  if d.logs.isOpen then
    let d' := (d.writeGroup .device e).2
    if d'.reachedTop d Ent.Evlog.LOG_LOST then (d'.writeGroup .device (d'.ev srcStorage 0x0002 0x500002)).2 else d'
  else d.holdEarly .device e

/-- A source of M0's controller becomes pending (R414). -/
def Dev.raiseM0 (d : Dev) (n : Nat) : Dev := d.setFld (Rg.M0Src.PENDING n) 1

/-- The secure log takes an event; at three quarters full M0's source 8 is raised (R414). -/
def Dev.logSecure (d : Dev) (e : Ev) : Dev :=
  if !d.logs.isOpen then d.holdEarly .secure e
  else
  let d' := (d.writeGroup .secure e).2
  if d.logs.secureRecs.length < 3072 ∧ 3072 ≤ d'.logs.secureRecs.length then d'.raiseM0 8 else d'

/-- RING_LOST of a hall at all ones: its saturation bit is set and one COUNTER_SAT is written (R47). -/
def Dev.ringSat (d old : Dev) (h : Nat) : Dev :=
  if d.reachedTop old (Ent.Hall.RING_LOST h) ∧ bit (d.get (Ent.Hall.COUNTER_SAT h)) 4 = false then
    (d.putBit (Ent.Hall.COUNTER_SAT h) 4 true).logDevice (d.ev (srcHall h) 0x0002 ((0x2600 + h) * 256 + 0x2C))
  else d

/-- Hall 0's ring takes an event; a refused write turns the ring off and is reported to the device log (R381). -/
def Dev.logRing0 (d : Dev) (e : Ev) : Dev :=
  match d.writeGroup (.ring 0) e with
  | (.ok, d') => d'.ringSat d 0
  | (s, d') => ((d'.setFld (Rg.Hpg.RING_EN 0) 0).logDevice (d.ev (srcHall 0) 0x0025 s.code)).ringSat d 0

/-- The hall is stopped: FROZEN, FAULTED, BLACKOUT, ARRIVING or IN_DOUBT (R384). -/
def Dev.hallStopped (d : Dev) (h : Nat) : Bool :=
  let s := d.hallState h
  s == 2 || s == 3 || s == 5 || s == 6 || s == 7

/-- A record due to a stopped hall is held, up to 64, then lost (Table 16.6), as R38 counts and numbers a lost record. -/
def Dev.holdRecord (d : Dev) (h : Nat) (e : Ev) : Dev :=
  let l := KV.get [] h d.logs.ringHeld
  if l.length < 64 then { d with logs := { d.logs with ringHeld := KV.insert h (l ++ [e]) d.logs.ringHeld } }
  else
    let n := if e.ext.isSome then 2 else 1
    let consumed : Dev := { d with logs := { d.logs with seq := (d.logs.seq + n) % 2 ^ 32 } }
    (consumed.loseRecs (.ring h) n).ringSat d h

/-- The ring of hall `h` takes an event, or hall 0's ring for an ABSENT hall (R381). -/
def Dev.logRing (d : Dev) (h : Nat) (e : Ev) : Dev :=
  if !d.logs.isOpen then d.holdEarly (.ring h) e
  else if h = 0 ∨ d.hallExists h = false then d.logRing0 e
  else if d.hallStopped h then d.holdRecord h e
  else
    match d.writeGroup (.ring h) e with
    | (.ok, d') => d'.ringSat d h
    | (s, d') =>
      let f := d.ev (srcHall h) 0x0025 s.code
      (((d'.setFld (Rg.Hpg.RING_EN h) 0).logDevice f).logRing0 f).ringSat d h

/-- A sink takes an event. -/
def Dev.logTo (d : Dev) (k : SinkId) (e : Ev) : Dev :=
  match k with
  | .device => d.logDevice e
  | .secure => d.logSecure e
  | .ring h => d.logRing h e

/-- An event to the device log. -/
def Dev.event (d : Dev) (source code data : Nat) (ext : Option Bytes := none) : Dev := d.logDevice (d.ev source code data ext)

/-- An event to the ring of a hall. -/
def Dev.eventRing (d : Dev) (h source code data : Nat) (ext : Option Bytes := none) : Dev :=
  d.logRing h (d.ev source code data ext)

/-- An event to the secure log. -/
def Dev.eventSecure (d : Dev) (source code data : Nat) : Dev := d.logSecure (d.ev source code data)

/-- An event to the device log and the secure log. -/
def Dev.eventBoth (d : Dev) (source code data : Nat) : Dev := (d.event source code data).eventSecure source code data

/-! ### The queues of D0 (R62, R63) -/

/-- Entries a path's queue holds, the early arrivals of R75 included. -/
def Dev.pathCount (d : Dev) (p : Path) : Nat :=
  (d.d0.queue.filter fun q => q.origin.path == p).length +
    (if p = .udp then d.d0.sessions.foldl (fun n s => n + s.2.early.length) 0 else 0)

/-- A request reaches D0. -/
def Dev.submit (d : Dev) (q : QReq) : Dev := { d with d0 := { d.d0 with queue := d.d0.queue ++ [q] } }

/-! ### Limits of once per second (R548) -/

/-- Happenings since the last event of a scope, this one (`n` of them) included, and whether an event is due. -/
def Dev.limitDue (d : Dev) (scope n : Nat) : Bool × Nat :=
  let l := KV.get ⟨none, 0⟩ scope d.limits
  match l.last with
  | none => (true, l.count + n)
  | some r => (decide (r + 1000000000 ≤ d.time.raw), l.count + n)

/-- Count `n` happenings in a scope; `f` writes the event with the count when one is due. -/
def Dev.limited (d : Dev) (scope n : Nat) (f : Dev → Nat → Dev) : Dev :=
  match d.limitDue scope n with
  | (true, c) => f { d with limits := KV.insert scope ⟨some d.time.raw, 0⟩ d.limits } c
  | (false, c) =>
    { d with limits := KV.insert scope ⟨(KV.get ⟨none, 0⟩ scope d.limits).last, c⟩ d.limits }

/-- The scope of an event code of a source. -/
def scopeOf (source code : Nat) : Nat := source * 65536 + code

/-- STALE_REJECT of a unit, at most once per second (R45). -/
def Dev.staleReject (d : Dev) (source cur : Nat) : Dev :=
  d.limited (scopeOf source 0x0003) 1 fun d c => d.event source 0x0003 (cur * 65536 + min c 0xFFFF)

/-! ### Statistics counters (R47) -/

/-- A statistics counter: its entry, its saturation field and bit, and the source ID its COUNTER_SAT carries. -/
structure Counter where
  entry : Entry
  satEntry : Entry
  satBit : Nat
  source : Nat
  deriving DecidableEq, Repr

/-- Count `n`: at all ones the counter stops, sets its saturation bit and writes one COUNTER_SAT until it is cleared. -/
def Dev.count (d : Dev) (c : Counter) (n : Nat := 1) : Dev :=
  let v := min (d.get c.entry + n) (2 ^ 64 - 1)
  let d1 := d.put c.entry v
  if v = 2 ^ 64 - 1 ∧ bit (d.get c.satEntry) c.satBit = false then
    (d1.putBit c.satEntry c.satBit true).event c.source 0x0002 (c.entry.idx * 256 + c.entry.sub)
  else d1

/-- Count without a saturation field of its own index given: the field is `sat` and the bit `b`. -/
def ctr (e sat : Entry) (b source : Nat) : Counter := ⟨e, sat, b, source⟩

/-! ### Interrupt sources -/

/-- An edge source latches one pending event (R330). -/
def Dev.raise (d : Dev) (n : Nat) : Dev := d.setFld (Rg.Src.PENDING n) 1

/-- The source number of each pair of the platform status block (Table 14.11). -/
def platSource (i : Nat) : Nat := ([25, 68, 71, 72, 73, 74, 75, 76, 77, 78][i]?).getD 0

/-- Set a SYS_IRQ bit; its source is pending while a set bit is enabled (R345). -/
def Dev.sysIrq (d : Dev) (i b : Nat) : Dev := d.setFldBit (Rg.Plat.SYS_IRQ i) b true

/-- A unit with a pair in the platform status block writes an event: bit code − 0x20 of SYS_IRQ is set (R345). -/
def Dev.eventSys (d : Dev) (i source code data : Nat) (ext : Option Bytes := none) : Dev :=
  (d.event source code data ext).sysIrq i (code - 0x20)

end Sys2Proof.Machine
end

