-- ==== Sys2Proof/Machine/Gates.lean ====
section
/-! DEFINITION. The gate tree (R430 to R433): numbers, parents, values, and which unit an address's gate belongs to (R18). -/

namespace Sys2Proof.Machine

/-- The rescue image runs (R481). -/
def Dev.rescue (d : Dev) : Bool := d.get Ent.Upd.IMAGE_STATE == 2

/-! ### Settings records (R483) -/

def Dev.setUpd (d : Dev) (f : UpdSt → UpdSt) : Dev := { d with upd := f d.upd }

/-- The running firmware writes a record of SETTINGS, or erases it. -/
def Dev.recordWritten (d : Dev) (kind key : Nat) : Dev :=
  d.setUpd fun u => { u with records := KV.insert (kind * 2 ^ 32 + key) (d.get Ent.Upd.SETTINGS_VERSION) u.records }
def Dev.recordGone (d : Dev) (kind key : Nat) : Dev := d.setUpd fun u => { u with records := KV.erase (kind * 2 ^ 32 + key) u.records }

/-! ### Spread spectrum (R421) -/

def Dev.setClk (d : Dev) (f : ClockSt → ClockSt) : Dev := { d with clk := f d.clk }

/-- An access to DRAM ends self-refresh (Table 18.9). -/
def Dev.dramUsed (d : Dev) (a : Nat) : Dev :=
  if region a = some .dram then d.setClk fun c => { c with selfRefresh := false, dramAt := d.time.raw } else d

/-- An event of Table 18.13: instance 0 monitor, 1 XO, 2 REFIN, 3 RCO, 4 to 7 the PLLs (R435). -/
def Dev.clockEvent (d : Dev) (inst code data : Nat) : Dev := d.eventSys 7 (srcClock inst) code data

def Dev.sscSet (d : Dev) (on : Bool) : Dev :=
  if d.flag Ent.Clk.SSC_ACTIVE = on then d else (d.put Ent.Clk.SSC_ACTIVE (b2n on)).clockEvent 7 0x0025 (b2n on)

/-- A CAN channel becomes ENABLED, an ADC sequence or a PWM period starts: modulation of mode 1 ends first (R421). The wait for the end of the
modulation period, 34 µs at most, is not modelled. -/
def Dev.sscEnds (d : Dev) : Dev :=
  let d := d.setClk fun c => { c with sscOpen := false }
  if d.get Ent.Clk.SSC_MODE = 2 then d else d.sscSet false

/-! ### The tree -/

/-- The parent of a listed gate (Table 18.7); gate 0 has none, and an unlisted number is reserved. -/
def gateParent (g : Nat) : Option (Option Nat) :=
  if g = 0 then some none
  else if g ≤ 5 ∨ (8 ≤ g ∧ g ≤ 10) ∨ g = 16 ∨ g = 24 ∨ g = 40 then some (some 0)
  else if 17 ≤ g ∧ g ≤ 20 then some (some 16)
  else if 25 ≤ g ∧ g ≤ 33 then some (some 24)
  else if 41 ≤ g ∧ g ≤ 46 then some (some 40)
  else if (48 ≤ g ∧ g ≤ 55) ∨ g = 57 then some (some 0)
  else if g = 56 then some (some 2)
  else if 64 ≤ g ∧ g ≤ 103 then some (some 8)
  else if 104 ≤ g ∧ g ≤ 113 then some (some 9)
  else if 128 ≤ g ∧ g ≤ 148 then some (some 10)
  else if 160 ≤ g ∧ g ≤ 191 then some (some 3)
  else if 192 ≤ g ∧ g ≤ 255 then some (some 57)
  else none

def gateListed (g : Nat) : Bool := (gateParent g).isSome

/-- Gate numbers of Table 18.7. -/
def allGates : List Nat := (List.range 256).filter gateListed

/-- The value of a gate at reset: REQ 1, STATE ON, and the enables of Table 18.9. -/
def gateDefault (g : Nat) : Nat :=
  if g = 1 then 0x383 else if g = 5 then 0x383 else if g = 2 ∨ g = 3 ∨ g = 4 then 0x83 else if gateListed g then 3 else 0

/-- The entry of a gate. -/
def gateEntry (g : Nat) : Entry := { Ent.Gate.GATE (g / 128) (g % 128) with dflt := gateDefault g }

/-- The clocked domain of a port (Table 18.2). -/
def portDomain (p : Nat) : Option Nat := if p < 40 then some 0 else if p < 48 ∨ p = 52 ∨ p = 53 then some 1 else none

/-- STATE of a gate: 0 OFF, 1 ON, 2 PARKED. -/
def Dev.gateState (d : Dev) (g : Nat) : Nat := bits (d.get (gateEntry g)) 2 1

/-- The gate is not off; a demand reaches a parked unit (R431). -/
def Dev.gateOn (d : Dev) (g : Nat) : Bool := d.gateState g != 0

def Dev.setGateState (d : Dev) (g st : Nat) : Dev := d.put (gateEntry g) (setBits (d.get (gateEntry g)) 2 1 st)

/-- Gate of lease entry `i`, while it holds one. -/
def Dev.leaseGate (d : Dev) (i : Nat) : Option Nat := if d.isSet (Rg.Lsr.VALID i) then some (d.fld (Rg.Lsr.GATE i)) else none

/-- The gate is leased to the secure world (R398). -/
def Dev.leased (d : Dev) (g : Nat) : Bool := (List.range 64).any fun i => d.leaseGate i == some g

/-- Any lease is VALID (R399). -/
def Dev.anyLease (d : Dev) : Bool := (List.range 64).any fun i => (d.leaseGate i).isSome

/-- The gate is on, parked or leased (R431). -/
def Dev.gateInUse (d : Dev) (g : Nat) : Bool := d.gateOn g || d.leased g

/-- A child of the gate is in use (R432). -/
def Dev.childInUse (d : Dev) (g : Nat) : Bool := allGates.any fun k => gateParent k == some (some g) && d.gateInUse k

/-- Descendants of a gate, in number order: no listed gate lies more than three below the root. -/
def isBelow (g k : Nat) : Bool :=
  let up (x : Nat) : Option Nat := (gateParent x).join
  (up k == some g) || ((up k).bind up == some g) || (((up k).bind up).bind up == some g)

/-- A leased gate lies below this one (R399). -/
def Dev.leasedBelow (d : Dev) (g : Nat) : Bool := allGates.any fun k => isBelow g k && d.leased k

/-- A gate's value as it reads (Table 18.12). -/
def Dev.gateValue (d : Dev) (g : Nat) : Nat :=
  setBit (setBit (d.get (gateEntry g)) 4 (d.leased g)) 5 (d.childInUse g)

/-- The gate entry takes a value of REQ, AUTO and the code of the request (R434). -/
def Dev.setGateCode (d : Dev) (g : Nat) (s : Status) : Dev := d.put (gateEntry g) (setBits (d.get (gateEntry g)) 31 16 s.code)

/-- Gates of the numbered units. -/
def gatePort (p : Nat) : Nat := if p < 48 then 64 + p else if p < 52 then 43 + (p - 48) else 112 + (p - 52)
def gateCan (n : Nat) : Nat := 128 + n
def gateDma (c : Nat) : Nat := 192 + c
def gateBridge (u : Nat) : Nat := 52 + u
def gateAdc (a : Nat) : Nat := 147 + a
def gateTrigger (u : Nat) : Nat := 160 + u

/-- Source ID of a gate: class 0x0B (R417). -/
def srcGate (g : Nat) : Nat := 0x2D00 + g

/-- A normal-world request on a leased gate, or above one, is refused (R399): the count, and LEASE_REFUSED to both logs at most once
per second per gate; M0's source 3 (R414). -/
def Dev.leaseRefused (d : Dev) (g : Nat) (s : Status) : Dev :=
  ((d.count (ctr Ent.Lease.LEASE_REFUSALS Ent.Lease.COUNTER_SAT 0 (srcMezz 0))).raiseM0 3).limited (scopeOf (srcGate g) 0x0021) 1
    fun d c => d.eventBoth (srcGate g) 0x0021 (s.code * 65536 + min c 0xFFFF)

end Sys2Proof.Machine
end

