-- ==== Sys2Proof/Machine/Load.lean ====
section
/-! DEFINITION. Protected load channels: commands, the protection state machine of Table 12.3, coupling, PWM, sense, safe values and holds
(R279 to R311). -/

namespace Sys2Proof.Machine

def Dev.setLoad (d : Dev) (f : LoadSt → LoadSt) : Dev := { d with load := f d.load }

def LoadCh.fresh : LoadCh := ⟨0, false, 0, none, 0, 0, 0, 0, 0, 0, 0, none, none, 0⟩

def Dev.loadCh (d : Dev) (n : Nat) : LoadCh := KV.get LoadCh.fresh n d.load.chs

def Dev.setLoadCh (d : Dev) (n : Nat) (f : LoadCh → LoadCh) : Dev :=
  d.setLoad fun s => { s with chs := KV.put LoadCh.fresh n (f (d.loadCh n)) s.chs }

/-- The device holds a twin role that does not drive: STANDBY, STANDBY_DEGRADED, JOINING or DETACHED (Table 22.7, R498). -/
def Dev.standby (d : Dev) : Bool := decide (2 ≤ d.get Ent.Tws.ROLE)

/-- Counters :30 to :36 of a channel. -/
def loadCounter (n i : Nat) : Counter := ⟨{ Ent.Lc.TRIPS n with sub := 0x30 + i }, Ent.Lc.COUNTER_SAT n, i, srcLoad n⟩

/-- Events of the channels make hall 0's load-channel interrupt pending (R311). -/
def Dev.loadEvent (d : Dev) (n code data : Nat) : Dev := d.eventSys 2 (srcLoad n) code data

/-- TRIP, COUPLED_TRIP and LATCHED also go to the ring of hall 0. -/
def Dev.loadEventRing (d : Dev) (n code data : Nat) : Dev := (d.loadEvent n code data).eventRing 0 (srcLoad n) code data

def Dev.loadState (d : Dev) (n : Nat) : Nat := d.get (Ent.Lc.STATE n)

/-- A flag of Table 12.7. -/
def Dev.loadFlag (d : Dev) (n i : Nat) : Bool := bit (d.get (Ent.Lc.FLAGS n)) i
def Dev.setLoadFlag (d : Dev) (n i : Nat) (b : Bool) : Dev := d.putBit (Ent.Lc.FLAGS n) i b

/-- HS20 or HS22 with PAIR 1 (R282). -/
def Dev.pairLower (d : Dev) (n : Nat) : Bool := (n == 20 || n == 22) && d.flag (Ent.Lc.PAIR n)
def Dev.pairUpper (d : Dev) (n : Nat) : Bool := (n == 21 || n == 23) && d.flag (Ent.Lc.PAIR (n - 1))

/-- The channel that stands for this one: the lower member of a pair. -/
def Dev.loadSelf (d : Dev) (n : Nat) : Nat := if d.pairUpper n then n - 1 else n

/-- Enter a state; limiting ends outside INRUSH and ON (R284). -/
def Dev.enterLoad (d : Dev) (n st : Nat) : Dev :=
  let d := (d.put (Ent.Lc.STATE n) st).setLoadCh n fun c =>
    { c with since := d.time.raw, first := none, checked := none, trippedAt := if st = 3 then some d.time.raw else c.trippedAt }
  if st = 1 ∨ st = 2 then d else d.setLoadFlag n 0 false

/-- A new inrush window (R285). -/
def Dev.startInrush (d : Dev) (n : Nat) : Dev := d.enterLoad n (if d.get (Ent.Lc.INRUSH_MS n) = 0 then 2 else 1)

/-- RETRIES_LEFT returns to RETRY_MAX (R287). -/
def Dev.refillRetries (d : Dev) (n : Nat) : Dev := d.put (Ent.Lc.RETRIES_LEFT n) (d.get (Ent.Lc.RETRY_MAX n))

/-- Entry to LATCHED with its reason (R286, R291). -/
def Dev.latchLoad (d : Dev) (n reason : Nat) : Dev :=
  ((d.enterLoad n 5).count (loadCounter n 2)).loadEventRing n 0x0022 reason

/-- CLEAR (R287): a LATCHED channel moves to OFF; in another state the state stays. RETRIES_LEFT returns to RETRY_MAX. -/
def Dev.clearLoad (d : Dev) (n : Nat) : Dev :=
  let d := if d.loadState n = 5 then d.enterLoad n 0 else d
  d.refillRetries n

/-- An OFF channel follows a command ON (Table 12.3). -/
def Dev.followOn (d : Dev) (n : Nat) : Dev :=
  if bit (d.loadCh n).cmd 0 ∧ d.loadState n = 0 then d.startInrush n else d

/-- A cause that keeps the safe values in force: the safe-state line, a lost die link, the reference-loss safe state (R303, R306). -/
def Dev.safeHeld (d : Dev) (n : Nat) : Bool :=
  d.load.safeLine.contains (n / 8) || (KV.find (n / 8) d.load.linkLost).isSome || d.flag Ent.Clk.REF_LOSS

/-- The end of the closed phase of the period in progress, on the raw counter. -/
def LoadCh.closedEnd (c : LoadCh) : Nat := c.pwmStart + c.pwmPhase * 1000 + c.pwmUs * c.pwmDuty / 10

/-- The first closing since the entry to INRUSH, if the command in force closes the switch in the period in progress. -/
def LoadCh.closing (c : LoadCh) : Option Nat :=
  if bit c.cmd 2 = false ∨ c.pwmDuty = 10000 then some c.since
  else if c.pwmDuty = 0 ∨ c.closedEnd ≤ c.since then none
  else some (max c.since (c.pwmStart + c.pwmPhase * 1000))

/-- The beginning of the inrush window, once the switch has closed (R285). -/
def LoadCh.window (c : LoadCh) (raw : Nat) : Option Nat := c.first.or (c.closing.filter fun t => decide (t ≤ raw))

/-- The command or the period changes in INRUSH: a window that has begun goes on, another waits for a closing from now on. -/
def Dev.windowGoesOn (d : Dev) (n : Nat) : Dev :=
  if d.loadState n = 1 then
    d.setLoadCh n fun c => { c with first := c.window d.time.raw, since := if (c.window d.time.raw).isNone then d.time.raw else c.since }
  else d

/-- A command of the owner reaches the channel (R301). It takes a held channel (R305); while a cause of the safe value lasts, the safe value
stands (R303). -/
def Dev.loadCommand (d : Dev) (m v : Nat) : Dev :=
  let n := m
  if d.pairUpper n ∨ d.safeHeld n then d
  else
    let rising := bit v 1 && !(d.loadCh n).clear
    let d := if bit v 2 && !bit (d.loadCh n).cmd 2 then d.sscEnds else d
    let d := ((d.windowGoesOn n).setLoadFlag n 4 false).setLoadFlag n 6 false
    let d := d.setLoadCh n fun c =>
      let first := bit v 2 && !bit c.cmd 2
      { c with cmd := v % 2 ^ 32, clear := bit v 1,
               pwmStart := if first then d.time.raw else c.pwmStart,
               pwmDuty := if first then v / 65536 % 65536 else c.pwmDuty,
               pwmUs := if first then d.get (Ent.Lc.PWM_PERIOD_US n) else c.pwmUs,
               pwmPhase := if first then d.get (Ent.Lc.PWM_PHASE_US n) else c.pwmPhase }
    let d := if rising then d.clearLoad n else d
    if bit v 0 then d.followOn n
    else
      let st := d.loadState n
      if st = 0 ∨ st = 5 then d else (d.enterLoad n 0).refillRetries n

/-- The command of the safe value (R303); a standby applies open (R308). -/
def Dev.safeCommand (d : Dev) (n : Nat) : Nat :=
  if d.standby ∨ d.get (Ent.Lc.SAFE_STATE n) = 0 then 0
  else if d.get (Ent.Lc.SAFE_DUTY n) = 10000 then 1 else 5 + d.get (Ent.Lc.SAFE_DUTY n) * 65536

/-- Apply the safe value of a channel (R303): SAFE is set, and a protection state stays in force (R288). -/
def Dev.applySafe (d : Dev) (n : Nat) : Dev :=
  if d.pairUpper n then d
  else
    let v := d.safeCommand n
    let d := if bit v 2 && !bit (d.loadCh n).cmd 2 then d.sscEnds else d
    let d := ((d.windowGoesOn n).setLoadFlag n 6 true).setLoadFlag n 4 false
    let d := d.setLoadCh n fun c =>
      { c with cmd := v, clear := false, pwmStart := d.time.raw, pwmDuty := v / 65536, pwmUs := d.get (Ent.Lc.PWM_PERIOD_US n),
               pwmPhase := d.get (Ent.Lc.PWM_PHASE_US n) }
    if bit v 0 then d.followOn n
    else if d.loadState n = 1 ∨ d.loadState n = 2 then d.enterLoad n 0 else d

/-- Channels of a group. -/
def groupChannels (g : Nat) : List Nat := (List.range 8).map (8 * g + ·)

/-- Apply the safe values of a group. -/
def Dev.applySafeGroup (d : Dev) (g : Nat) : Dev := (groupChannels g).foldl Dev.applySafe d

/-- The scan engine applies the safe values of its channels; at an entry to STOPPED those held through a warm reset stay held (R305). -/
def Dev.engineSafe (d : Dev) (fault : Bool := false) : Dev :=
  (List.range 24).foldl (fun d n => if d.get (Ent.Lc.OWNER n) = 1 ∧ (fault || !d.loadFlag n 4) then d.applySafe n else d) d

/-- The configured safe values return at a promotion: what stands at the open of a standby takes them (R308). -/
def Dev.safeReturns (d : Dev) : Dev :=
  (List.range 24).foldl (fun d n => if d.loadFlag n 6 then d.applySafe n else d) d

/-- The safe-state line of a power die (R14): asserted, it applies every safe value and ends a hold (R306). Without the interior the channels are
open, and only the line's level counts. -/
def safeStateLineOp (g : Nat) (asserted : Bool) (d : Dev) : Dev :=
  if d.awake = false then
    d.setLoad fun s => { s with safeLine := (s.safeLine.filter (· != g)) ++ (if asserted then [g] else []) }
  else if asserted then
    (d.setLoad fun s => { s with safeLine := if s.safeLine.contains g then s.safeLine else g :: s.safeLine }).applySafeGroup g
      |>.emit (.line "SAFE" g true)
  else (d.setLoad fun s => { s with safeLine := s.safeLine.filter (· != g) }).emit (.line "SAFE" g false)

/-! ### Commands to a channel -/

def channelOnOp (n v : Nat) (d : Dev) : Dev := if bit v 0 then d.loadCommand n v else d
def channelOffOp (n v : Nat) (d : Dev) : Dev := if bit v 0 then d else d.loadCommand n v
def channelPwmSetOp (n v : Nat) (d : Dev) : Dev := if bit v 2 then d.loadCommand n v else d

/-- A write of 1 to CLEAR, or a rising CLEAR bit (R287): the channel then follows its command. -/
def channelClearOp (n : Nat) (d : Dev) : Dev :=
  let n := d.loadSelf n
  (d.clearLoad n).followOn n

/-! ### PWM (R300) -/

/-- The closed phase of the period covers the raw interval from `a` to `b`, or DUTY keeps the switch closed. -/
def LoadCh.pwmClosed (c : LoadCh) (a b : Nat) : Bool :=
  c.pwmDuty == 10000 || (c.pwmDuty != 0 && decide (b < max c.closedEnd c.tail) && (decide (c.pwmStart + c.pwmPhase * 1000 ≤ a) || decide (b < c.tail)))

/-- A period starts, with the DUTY and PWM_PERIOD_US commanded by now. A restart within a closed phase lets that phase end at its duty. -/
def Dev.pwmRestart (d : Dev) (n : Nat) : Dev :=
  if bit (d.loadCh n).cmd 2 then
    (d.windowGoesOn n).setLoadCh n fun c =>
      { c with tail := if c.pwmClosed d.time.raw d.time.raw then c.closedEnd else 0, pwmStart := d.time.raw, pwmDuty := c.cmd / 65536 % 65536,
               pwmUs := d.get (Ent.Lc.PWM_PERIOD_US n), pwmPhase := d.get (Ent.Lc.PWM_PHASE_US n) }
  else d

def pwmPeriodStartOp (n : Nat) (d : Dev) : Dev := d.pwmRestart (d.loadSelf n)

/-- The switch is closed over a raw interval (Table 12.3, R289, R300). -/
def Dev.switchClosed (d : Dev) (n a b : Nat) : Bool :=
  let n := d.loadSelf n
  (d.loadState n == 1 || d.loadState n == 2) && !d.loadFlag n 3 && (!bit (d.loadCh n).cmd 2 || (d.loadCh n).pwmClosed a b)

/-! ### Protection -/

/-- `ms` have passed in the channel's state, on the raw counter. -/
def Dev.loadAged (d : Dev) (n ms : Nat) : Bool := d.passed (d.loadCh n).since (ms * 1000000)

/-- The inrush window is over: INRUSH_MS since the first closing, while undervoltage suspends it (R285, R289). -/
def Dev.inrushOver (d : Dev) (n : Nat) : Bool :=
  d.loadState n == 1 && !d.loadFlag n 3 && ((d.loadCh n).window d.time.raw).any fun t => d.passed t (d.get (Ent.Lc.INRUSH_MS n) * 1000000)

/-- INRUSH_MS elapsed (R285). The die clock of the window's end is kept for a shutdown in it. -/
def inrushEndOp (n : Nat) (d : Dev) : Dev :=
  if d.inrushOver n then (d.enterLoad n 2).setLoadCh n fun c => { c with first := some d.time.raw } else d

/-- The channel is in INRUSH, or its window ended in this die clock: a shutdown is judged as occurring in INRUSH. -/
def Dev.inInrush (d : Dev) (n : Nat) : Bool :=
  d.loadState n == 1 || (d.loadState n == 2 && (d.loadCh n).first == some d.time.raw)

/-- The load current reaches the limit (R284). -/
def limitEntryOp (n : Nat) (d : Dev) : Dev :=
  let n := d.loadSelf n
  if (d.loadState n = 1 ∨ d.loadState n = 2) ∧ !d.loadFlag n 3 ∧ !d.loadFlag n 0 then (d.setLoadFlag n 0 true).count (loadCounter n 3) else d

/-- The load current falls below the limit (R284). -/
def limitingEndOp (n : Nat) (d : Dev) : Dev := d.setLoadFlag (d.loadSelf n) 0 false

/-- The channel that makes a shutdown of `n` in INRUSH a coupled trip (R290): the lowest other one that limits or entered TRIPPED at an
earlier die clock, no more than 100 ms before. -/
def Dev.coupledBy (d : Dev) (n : Nat) : Option Nat :=
  (groupChannels (n / 8)).find? fun j => j != n &&
    (d.loadFlag j 0 || match (d.loadCh j).trippedAt with
      | some t => decide (t < d.time.raw) && decide (d.time.raw ≤ t + 100000000)
      | none => false)

/-- Tj at shutdown: a coupled trip (R290), or a trip that is retried or latches (R286). Either member of a pair trips both (R282). -/
def thermalShutdownOp (m : Nat) (tj : Int) (delta : Nat) (d : Dev) : Dev :=
  let n := d.loadSelf m
  let d := (d.putInt (Ent.Lc.TJ_C m) tj).put (Ent.Lcg.DELTA_T_K (m / 8)) delta
  let st := d.loadState n
  if st ≠ 1 ∧ st ≠ 2 then d
  else
    match (if d.inInrush n then d.coupledBy n else none) with
    | some j => ((d.enterLoad n 4).count (loadCounter n 1)).loadEventRing n 0x0021 (delta * 65536 + j)
    | none =>
      let left := d.get (Ent.Lc.RETRIES_LEFT n)
      let d := ((d.enterLoad n 3).count (loadCounter n 0)).loadEventRing n 0x0020 (ofInt 16 tj * 65536 + left * 256)
      if d.get (Ent.Lc.RETRY_MODE n) = 0 ∨ left = 0 then d.latchLoad n 1 else d

/-- RETRY_DELAY_MS has passed since the trip; undervoltage suspends the timer (Table 12.3, R289). -/
def Dev.retryDue (d : Dev) (n : Nat) : Bool :=
  d.loadState n == 3 && !d.loadFlag n 3 && d.loadAged n (d.get (Ent.Lc.RETRY_DELAY_MS n))

/-- Tj is at or below the restart level and RETRY_DELAY_MS has passed: the channel restarts in INRUSH (Table 12.3), or enters OFF when its
command has become off. -/
def retryRestartOp (n : Nat) (d : Dev) : Dev :=
  if !d.retryDue n then d
  else if !bit (d.loadCh n).cmd 0 then d.enterLoad n 0
  else (d.put (Ent.Lc.RETRIES_LEFT n) (d.get (Ent.Lc.RETRIES_LEFT n) - 1)).enterLoad n 1

/-- The restart condition of R291. -/
def coupledRestartOp (n : Nat) (d : Dev) : Dev :=
  if d.loadState n ≠ 4 then d else if !bit (d.loadCh n).cmd 0 then d.enterLoad n 0 else d.enterLoad n 1

/-- COUPLED_MAX_MS passes in COUPLED_WAIT (R291). -/
def coupledTimeoutOp (n : Nat) (d : Dev) : Dev :=
  if d.loadState n = 4 ∧ d.loadAged n (d.get (Ent.Lc.COUPLED_MAX_MS n)) then d.latchLoad n 2 else d

/-- RETRY_CLEAR_MS in ON without a trip (R287). -/
def retryBudgetResetOp (n : Nat) (d : Dev) : Dev :=
  if d.loadState n = 2 ∧ d.loadAged n (d.get (Ent.Lc.RETRY_CLEAR_MS n)) then d.refillRetries n else d

/-- VBATg falls below its undervoltage threshold (R289). -/
def vbatUndervoltageOp (g mv : Nat) (d : Dev) : Dev :=
  let d := d.put (Ent.Lcg.VBAT_MV g) mv
  if (KV.find g d.load.uvAt).isSome then d
  else
    let d := d.setLoad fun s => { s with uvAt := KV.insert g d.time.raw s.uvAt }
    ((groupChannels g).foldl (fun d n => (d.setLoadFlag n 3 true).setLoadFlag n 0 false) d).loadEvent (8 * g) 0x0026 mv

/-- VBATg rises above its rising threshold: channels in INRUSH or ON restart their inrush window, and the retry timers go on (R289). -/
def vbatRecoverOp (g mv : Nat) (d : Dev) : Dev :=
  let d := d.put (Ent.Lcg.VBAT_MV g) mv
  let off := d.time.raw - (KV.find g d.load.uvAt).getD d.time.raw
  let d := d.setLoad fun s => { s with uvAt := KV.erase g s.uvAt }
  (groupChannels g).foldl (fun d n =>
    let d := d.setLoadFlag n 3 false
    let d := if d.loadState n = 3 then d.setLoadCh n fun c => { c with since := c.since + off } else d
    if d.loadState n = 1 ∨ d.loadState n = 2 then d.startInrush n else d) d

/-- A clamp conduction (R293). -/
def clampDetectOp (n : Nat) (d : Dev) : Dev :=
  let d := d.count (loadCounter n 6)
  d.loadEvent n 0x0025 (min (d.get (Ent.Lc.CLAMP_EVENTS n)) 0xFFFFFFFF)

/-- The check is due: 10 ms in OFF, 100 ms since the last one (R299). -/
def Dev.checkDue (d : Dev) (n : Nat) : Bool :=
  d.loadState n == 0 && d.loadAged n 10 && (d.loadCh n).checked.all fun t => d.passed t 100000000

/-- The check of an OFF channel (R299): step 1 finds a short to VBAT at `mv1`, otherwise step 2 finds an open load at `mv2`. -/
def offStateCheckOp (n : Nat) (short : Bool) (mv1 : Nat) (isOpen : Bool) (mv2 : Nat) (d : Dev) : Dev :=
  let n := d.loadSelf n
  if d.flag (Ent.Lc.OL_EN n) = false ∨ d.checkDue n = false ∨ d.loadFlag n 3 ∨ (d.standby ∧ d.flag (Ent.Lc.DIODE_OR n)) then d
  else
  let d := d.setLoadCh n fun c => { c with checked := some d.time.raw }
  if short then
    if d.loadFlag n 2 then d
    else ((d.setLoadFlag n 2 true).count (loadCounter n 5)).loadEvent n 0x0024 mv1
  else
    let d := d.setLoadFlag n 2 false
    if isOpen then
      if d.loadFlag n 1 then d else ((d.setLoadFlag n 1 true).count (loadCounter n 4)).loadEvent n 0x0023 mv2
    else d.setLoadFlag n 1 false

/-! ### Sense (R294 to R297, R309) -/

/-- The code of a sense pin while channel `n` is selected, the mirror giving `code`: in TRIPPED, COUPLED_WAIT and LATCHED the pin sources the fault
current and stands between 3.2 V and its clamp of 3.6 V (R295, Table 12.5). -/
def Dev.sensePinCode (d : Dev) (n code : Nat) : Nat :=
  let st := d.loadState (d.loadSelf n)
  if st = 3 ∨ st = 4 ∨ st = 5 then max 40960 (min code 46080) else code

/-- Current in mA of a sense code: LSB 78.125 µV, ratio k, resistor of the group (R294). -/
def Dev.senseMa (d : Dev) (n code : Nat) : Nat :=
  min (code * 78125 * (if n < 20 then 10000 else 20000) / (1000000 * d.get (Ent.Lcg.R_SENSE_OHM (n / 8)))) 65535

/-- A conversion assigned to channel `n`. A pair reports the sum of its members (R282). A reading of 3.2 V or more is a fault of the channel and one
between 3.0 V and 3.2 V is out of range (R295): the current it gives is not stated (a free value, assumption 3). -/
def Dev.senseAssign (d : Dev) (n code : Nat) : Dev :=
  let (ma, d) := if code ≤ 38400 then (d.senseMa n code, d) else match d.draw 16 with
    | (v, d) => (v.toNat, d)
  let d := (d.setLoadCh n fun c => { c with ma, seq := (c.seq + 1) % 65536 }).setLoadFlag n 5 false
  let s := d.loadSelf n
  if d.pairLower s then d.put (Ent.Lc.CURRENT_MA s) (min ((d.loadCh s).ma + (d.loadCh (s + 1)).ma) 65535) else d.put (Ent.Lc.CURRENT_MA n) ma

/-- One sense pin converted: the channel's sensors and, if the conversion holds, its current. A PWM channel must have been closed for
SETTLE_US and stay closed (R296). -/
def Dev.sensePin (d : Dev) (g code : Nat) (p : SensePin) : Dev :=
  let n := 8 * g + code
  let d := ((d.putInt (Ent.Lc.TJ_C n) p.tj).putInt (Ent.Lcg.DIE_TEMP_C g) p.substrate).put (Ent.Lcg.DELTA_T_K g) p.delta
    |>.put (Ent.Lcg.VBAT_MV g) p.vbat
  let settle := d.get (Ent.Lcg.SETTLE_US g) * 1000
  if bit (d.loadCh (d.loadSelf n)).cmd 2 ∧ !d.switchClosed n (d.time.raw - settle) (d.time.raw + 1500) then d.setLoadFlag n 5 true
  else d.senseAssign n (d.sensePinCode n p.code)

/-- The sequencer stops with AD1: every channel carries SENSE_STALE (R316). -/
def Dev.senseStopped (d : Dev) : Dev := (List.range 24).foldl (fun d n => d.setLoadFlag n 5 true) d

/-- A sense pin under external select pins: the selected channel is noted, and the result assigned if the code stood (R297). -/
def Dev.senseExternal (d : Dev) (g : Nat) (p : SensePin) : Dev :=
  let d := d.setLoadCh (8 * g + p.sel % 8) fun c => { c with sensed := d.time.raw }
  if p.stable then d.sensePin g (p.sel % 8) p else d

/-- Channels not selected for 10 ms carry SENSE_STALE (R297). -/
def Dev.senseAges (d : Dev) : Dev :=
  (List.range 24).foldl (fun d n => if d.passed (d.loadCh n).sensed 10000000 then d.setLoadFlag n 5 true else d) d

/-- The sweep's estimate begins, goes on with, or ends an episode above LOSS_LIMIT_MW (R309). -/
def Dev.lossJudged (d : Dev) : Dev :=
  d.setLoad fun s =>
    if d.get Ent.Lc.LOSS_MW ≤ d.get Ent.Lc.LOSS_LIMIT_MW then { s with lossHigh := false, lossAt := none }
    else { s with lossAt := s.lossAt.or (some d.time.raw) }

/-- SETTLE_US passes (R296, R297). A sweep's end renews the loss estimate, whose on-resistance at Tj the manual does not state (a free
value, assumption 3). With AD1 disabled every channel carries SENSE_STALE (R316). -/
def senseStepOp (p0 p1 p2 : SensePin) (d : Dev) : Dev :=
  if d.get (Ent.Adc.STATE 1) ≠ 1 then d.senseStopped
  else if d.flag Ent.Lc.SELEXT then
    (((d.senseExternal 0 p0).senseExternal 1 p1).senseExternal 2 p2).senseAges
  else
    let c := d.load.sel
    let d := ((d.sensePin 0 c p0).sensePin 1 c p1).sensePin 2 c p2
    let d := d.setLoad fun s => { s with sel := (c + 1) % 8 }
    let d := (List.range 3).foldl (fun d k => d.emit (.line "SEL" k (bit d.load.sel k))) d
    if c = 7 then
      let (v, d) := d.draw 32
      (d.put Ent.Lc.LOSS_MW v.toNat).lossJudged
    else d

/-- The estimate has exceeded LOSS_LIMIT_MW for 1 s: LOSS_HIGH once per episode (R309). -/
def lossHighOp (d : Dev) : Dev :=
  if d.get Ent.Lc.LOSS_LIMIT_MW < d.get Ent.Lc.LOSS_MW ∧ d.load.lossHigh = false ∧ d.load.lossAt.any (d.passed · 1000000000) then
    (d.setLoad fun s => { s with lossHigh := true }).loadEvent 0 0x0029 (d.get Ent.Lc.LOSS_MW)
  else d

/-! ### Holds and the die link (R305, R306) -/

/-- HOLD_MS after a warm reset passes: every channel not taken opens and enters OFF; a LATCHED one stays latched (R288). In a power fail they keep
their command (R450). -/
def channelHoldExpiryOp (d : Dev) : Dev :=
  let held := if d.get Ent.Pwr.PF_STATE = 0 ∧ d.passed d.load.heldAt (d.get Ent.Lc.HOLD_MS * 1000000) then (List.range 24).filter fun n => d.loadFlag n 4 else []
  let d := held.foldl (fun d n =>
    let d := (d.setLoadFlag n 4 false).setLoadCh n fun c => { c with cmd := 0, clear := false }
    if d.loadState n = 5 ∨ d.loadState n = 0 then d else d.enterLoad n 0) d
  if held = [] then d else d.loadEvent 0 0x0027 (held.foldl (fun v n => setBit v n true) 0)

/-- A warm reset holds every channel at its last command, or opens it with HOLD_MS 0 (R305). -/
def Dev.holdChannels (d : Dev) : Dev :=
  let hold := d.get Ent.Lc.HOLD_MS != 0
  let d := d.setLoad fun s => { s with heldAt := d.time.raw }
  (List.range 24).foldl (fun d n =>
    if hold then (d.setLoadFlag n 4 true).setLoadFlag n 6 false
    else
      let d := (d.setLoadFlag n 6 false).setLoadCh n fun c => { c with cmd := 0, clear := false }
      if d.loadState n = 5 ∨ d.loadState n = 0 then d else d.enterLoad n 0) d

/-- A power die receives no valid transfer for 1 ms, outside a hold (R306). -/
def dieLinkTimeoutOp (g : Nat) (d : Dev) : Dev :=
  if (groupChannels g).any (fun n => d.loadFlag n 4) ∨ (KV.find g d.load.linkLost).isSome then d
  else (d.setLoad fun s => { s with linkLost := KV.insert g (d.time.raw - 1000000) s.linkLost }).applySafeGroup g

/-- The link returns (R306). -/
def dieLinkReturnOp (g : Nat) (d : Dev) : Dev :=
  match KV.find g d.load.linkLost with
  | none => d
  | some t =>
    (d.setLoad fun s => { s with linkLost := KV.erase g s.linkLost }).loadEvent (8 * g) 0x0028 (min ((d.time.raw - t) / 1000) 0xFFFFFFFF)

/-- The unit reset of a group (Table 12.8). -/
def Dev.loadGroupReset (d : Dev) (g : Nat) : Dev :=
  (groupChannels g).foldl (fun d n =>
    let d := d.setLoadCh n fun c => { LoadCh.fresh with seq := c.seq, since := d.time.raw }
    (((d.put (Ent.Lc.STATE n) 0).put (Ent.Lc.FLAGS n) (b2n (d.loadFlag n 3) * 8)).refillRetries n).put (Ent.Lc.CMD n) 0) d

/-! ### Status and checks -/

/-- FLAGS as they read, PAIRED included (Table 12.7). -/
def Dev.loadFlags (d : Dev) (n : Nat) : Nat := setBit (d.get (Ent.Lc.FLAGS n)) 7 (d.pairLower n || d.pairUpper n)

/-- The 8 bytes of a channel's status (Table 12.7). -/
def Dev.loadStatus (d : Dev) (n : Nat) : Bytes :=
  le 1 (if d.pairUpper n then 0 else d.loadState n) ++ le 1 (d.loadFlags n) ++ le 2 (d.get (Ent.Lc.CURRENT_MA n)) ++
  le 1 ((min (max (d.getInt (Ent.Lc.TJ_C n) + 50) 0) 255).toNat) ++ le 1 (d.get (Ent.Lc.RETRIES_LEFT n)) ++ le 2 (d.loadCh n).seq

/-- Local block LOAD_STATUS (Table 10.5). -/
def Dev.loadStatusBlock (d : Dev) : Bytes := (List.range 24).flatMap d.loadStatus

/-- Four bytes of LOAD_CMD as a command: values out of range are taken as DUTY 10,000 with reserved bits 0 (R301). -/
def loadCmdWord (v : Nat) : Nat := (if 10000 < v / 65536 % 65536 then 10000 else v / 65536 % 65536) * 65536 + v % 8

/-- A write to CMD by hall 0 (R281, R282, R301). -/
def Dev.loadCmdStatus (d : Dev) (n v : Nat) : Status :=
  if bits v 15 3 ≠ 0 ∨ 10000 < v / 65536 then .outOfRange
  else if d.get (Ent.Lc.OWNER n) = 1 ∨ d.pairUpper n then .wrongState else .ok

/-- The checks of a channel's group (R285, Table 12.9): limits by kind of output, inrush not below the limit, phase below the period. -/
def loadFault (x : Dev) (n : Nat) : Option Nat :=
  let inr := x.get (Ent.Lc.INRUSH_MA n)
  if inr < x.get (Ent.Lc.ILIM_MA n) then some 3
  else if x.get (Ent.Lc.PWM_PERIOD_US n) ≤ x.get (Ent.Lc.PWM_PHASE_US n) then some 0xC
  else none

/-! ### Meanings -/

def execSafeStateLine (g : Nat) (asserted : Bool) (s : State) := onVest s (safeStateLineOp g asserted)
def execChannelOn (n v : Nat) (s : State) := onDev s (channelOnOp n v)
def execChannelOff (n v : Nat) (s : State) := onDev s (channelOffOp n v)
def execChannelClear (n : Nat) (s : State) := onDev s (channelClearOp n)
def execChannelPwmSet (n v : Nat) (s : State) := onDev s (channelPwmSetOp n v)
def execPwmPeriodStart (n : Nat) (s : State) := onDev s (pwmPeriodStartOp n)
def execInrushEnd (n : Nat) (s : State) := onDev s (inrushEndOp n)
def execLimitEntry (n : Nat) (s : State) := onDev s (limitEntryOp n)
def execLimitingEnd (n : Nat) (s : State) := onDev s (limitingEndOp n)
def execThermalShutdown (n : Nat) (tj : Int) (delta : Nat) (s : State) := onDev s (thermalShutdownOp n tj delta)
def execRetryRestart (n : Nat) (s : State) := onDev s (retryRestartOp n)
def execCoupledRestart (n : Nat) (s : State) := onDev s (coupledRestartOp n)
def execCoupledTimeout (n : Nat) (s : State) := onDev s (coupledTimeoutOp n)
def execRetryBudgetReset (n : Nat) (s : State) := onDev s (retryBudgetResetOp n)
def execVbatUndervoltage (g mv : Nat) (s : State) := onDev s (vbatUndervoltageOp g mv)
def execVbatRecover (g mv : Nat) (s : State) := onDev s (vbatRecoverOp g mv)
def execClampDetect (n : Nat) (s : State) := onDev s (clampDetectOp n)
def execOffStateCheck (n : Nat) (short : Bool) (mv1 : Nat) (isOpen : Bool) (mv2 : Nat) (s : State) :=
  onDev s (offStateCheckOp n short mv1 isOpen mv2)
def execSenseStep (p0 p1 p2 : SensePin) (s : State) := onDev s (senseStepOp p0 p1 p2)
def execChannelHoldExpiry (s : State) := onDev s channelHoldExpiryOp
def execDieLinkTimeout (g : Nat) (s : State) := onDev s (dieLinkTimeoutOp g)
def execDieLinkReturn (g : Nat) (s : State) := onDev s (dieLinkReturnOp g)
def execLossHigh (s : State) := onDev s lossHighOp

end Sys2Proof.Machine
end

