-- ==== Sys2Proof/Machine/Analog.lean ====
section
/-! DEFINITION. Analog inputs: sequences, runs, results, flags (R312 to R321). -/

namespace Sys2Proof.Machine

def Dev.setAdc (d : Dev) (f : AnalogSt → AnalogSt) : Dev := { d with adc := f d.adc }
def Dev.conv (d : Dev) (a : Nat) : Conv := KV.get ⟨none, []⟩ a d.adc.convs
def Dev.setConv (d : Dev) (a : Nat) (f : Conv → Conv) : Dev :=
  d.setAdc fun s => { s with convs := KV.put ⟨none, []⟩ a (f (d.conv a)) s.convs }

/-- BUSY, RUNNING and PENDING of a converter (Table 13.3). -/
def Dev.showConv (d : Dev) (a : Nat) : Dev :=
  let c := d.conv a
  ((d.setFld (Rg.Adcr.BUSY a) (b2n c.run.isSome)).setFld (Rg.Adcr.RUNNING a) (c.run.elim 0 (·.seq))).setFld (Rg.Adcr.PENDING a)
    (c.pending.foldl (fun v s => setBit v s.1 true) 0)

/-- The channels a sequence converts (R314). -/
def Dev.seqList (d : Dev) (a s : Nat) : List Nat :=
  (slice (d.oct (Ent.Aseq.LIST (8 * a + s))) 0 (d.get (Ent.Aseq.LENGTH (8 * a + s)))).map (·.toNat)

/-- A run begins: its first sample is taken now (R314). -/
def Dev.beginRun (d : Dev) (a s : Nat) (late : Bool) : Dev :=
  (d.sscEnds.setConv a fun c =>
    { c with run := some ⟨s, d.seqList a s, d.now % 2 ^ 32, d.time.tgen, late, d.time.raw⟩ }).showConv a

/-- Counter OVERLAPS. -/
def overlaps (a : Nat) : Counter := ctr (Ent.Adc.OVERLAPS a) (Ent.Adc.COUNTER_SAT a) 0 (sourceId 0x05 a)

/-- The place of a start among the waiting ones: in the order of the starts, the lower sequence first of those that come together (R315). -/
def placeStart (s raw : Nat) (l : List (Nat × Nat)) : List (Nat × Nat) :=
  let before (p : Nat × Nat) : Bool := p.2 != raw || decide (p.1 < s)
  l.takeWhile before ++ (s, raw) :: l.dropWhile before

/-- Start a sequence (R314, R315). A converter that is not ENABLED discards the start uncounted. -/
def Dev.startSeq (d : Dev) (a s : Nat) : Dev :=
  let c := d.conv a
  if d.get (Ent.Adc.STATE a) ≠ 1 then d
  else if c.run.any (fun r => r.seq == s) ∨ c.pending.any (fun p => p.1 == s) then
    ((d.count (overlaps a)).setFldBit (Rg.Adcr.IRQ a) (8 + s) true).limited (scopeOf (srcAdc a) 0x0021) 1
      fun d n => d.event (srcAdc a) 0x0021 (min n 0xFFFFFFFF)
  else match c.run with
  | none => d.beginRun a s false
  | some r =>
    if r.at_ = d.time.raw ∧ r.late = false ∧ s < r.seq then
      (d.setConv a fun c => { c with pending := placeStart r.seq d.time.raw c.pending }).beginRun a s false
    else (d.setConv a fun c => { c with pending := placeStart s d.time.raw c.pending }).showConv a

/-- A write to START; the block accepts hall 0 and the executor cores (R319). Lower sequences start first (R315). -/
def adcStartOp (a v : Nat) (d : Dev) : Dev :=
  ((List.range 8).foldl (fun d s => if bit v s then d.startSeq a s else d) d).answer .ok

/-- Flags of an input after a conversion (R313): OVER, LOOP_LOW, SHUNT_OFF, SETTLING, LATE. RANGE_FAULT is written for each of the first three
that is newly set. -/
def Dev.inputFlags (d : Dev) (a i new : Nat) : Dev :=
  let old := d.get (Ent.Ain.FLAGS i)
  let d := d.put (Ent.Ain.FLAGS i) new
  let fresh := clearBits 8 (new % 8) old
  if fresh = 0 then d
  else d.limited (scopeOf (srcAdc a) 0x0020 * 256 + i) 1 fun d _ => d.event (srcAdc a) 0x0020 (i * 256 + fresh)

/-- One conversion's code: the channel's latest code, and for an input its value and flags. Channels 16 to 18 read the sense pins, whose selected
channel the device knows while it drives the select pins itself (R295, R316). Rounding is toward 0. -/
def Dev.converted (d : Dev) (a c code : Nat) (late : Bool) (at_ : Nat) : Dev :=
  if 16 ≤ c then
    let code := if c ≤ 18 ∧ d.flag Ent.Lc.SELEXT = false then d.sensePinCode (8 * (c - 16) + d.load.sel) code else code
    let d := d.setAdc fun s => { s with codes := KV.put 0 c code s.codes }
    let e := Ent.Aint.INTERNAL (c - 16)
    if 25 ≤ c ∧ c ≤ 28 then
      let (v, d) := d.draw 32
      d.put e v.toNat
    else d.put e (if c ≤ 18 ∨ c = 29 then code * 78125 / 1000000 else if c ≤ 22 then code * 125 / 100 else code * 15625 / 100000)
  else
    let range := d.get (Ent.Ain.RANGE c)
    let openS := range == 2 && (KV.find c d.adc.shuntOpen).isSome
    let code := if openS then 0 else code
    let settling := match KV.find c d.adc.ranged with
      | some t => decide (at_ < t + 10000)
      | none => false
    let off := openS || (bit (d.get (Ent.Ain.FLAGS c)) 2 && decide (65535 ≤ code))
    let fl := b2n (code == 65535) + 2 * b2n (range == 2 && decide (code < 11520)) + 4 * b2n off + 8 * b2n settling + 16 * b2n late
    let d := d.setAdc fun s => { s with codes := KV.put 0 c code s.codes }
    let d := d.put (Ent.Ain.VALUE c) (if range = 0 then code * 78125 / 1000 else if range = 1 then code * 15625 / 100 else code * 3125 / 10)
    d.inputFlags a c fl

/-- The next pending run begins, late (R314, R315). -/
def Dev.nextRun (d : Dev) (a : Nat) : Dev :=
  match (d.conv a).pending with
  | s :: rest => (d.setConv a fun _ => ⟨none, rest⟩).beginRun a s.1 true
  | [] => d

/-- A run ends: results, SEQ_COUNT and STAMP in one step, latest codes (R317). -/
def Dev.runEnds (d : Dev) (a : Nat) (codes : List Nat) (r : AdcRun) : Dev :=
    let code (i : Nat) : Nat := min ((codes[i]?).getD 0) 65535
    let d := ((List.range r.list.length).zip r.list).foldl (fun d x => d.converted a x.2 (code x.1) r.late (r.at_ + 500 * x.1)) d
    let shown (i : Nat) : Nat := KV.get 0 ((r.list[i]?).getD 0) d.adc.codes
    let d := (List.range r.list.length).foldl (fun d i =>
      d.setFld (if i % 2 = 0 then Rg.Adcr.RESULT_EVEN a r.seq (i / 2) else Rg.Adcr.RESULT_ODD a r.seq (i / 2)) (shown i)) d
    let d := d.setFld (Rg.Adcr.SEQ_COUNT a r.seq) ((d.fld (Rg.Adcr.SEQ_COUNT a r.seq) + 1) % 65536)
    let d := ((d.setFld (Rg.Adcr.LATE a r.seq) (b2n r.late)).setFld (Rg.Adcr.LEN a r.seq) r.list.length).setFld (Rg.Adcr.TGEN a r.seq) r.tgen
    let d := (d.setFld (Rg.Adcr.STAMP a r.seq) r.stamp).setFldBit (Rg.Adcr.IRQ a) r.seq true
    (d.setConv a fun c => { c with run := none }).showConv a

/-- The shunt of a RANGE 2 input opens, and closes 1 s later (R313). -/
def shuntOpenOp (i : Nat) (d : Dev) : Dev :=
  if d.get (Ent.Ain.RANGE i) = 2 ∧ (KV.find i d.adc.shuntOpen).isNone then
    (d.setAdc fun s => { s with shuntOpen := KV.insert i d.time.raw s.shuntOpen, codes := KV.put 0 i 0 s.codes }).inputFlags 0 i
      (setBit (d.get (Ent.Ain.FLAGS i)) 2 true)
  else d
def shuntCloseOp (i : Nat) (d : Dev) : Dev :=
  if (KV.find i d.adc.shuntOpen).any (d.passed · 1000000000) then d.setAdc fun s => { s with shuntOpen := KV.erase i s.shuntOpen } else d

/-- Entry to DRAINING discards pending triggers (Table 2.8); a drain timeout or unit reset cuts the run, which writes nothing (R317). -/
def Dev.adcDraining (d : Dev) (a : Nat) : Dev := (d.setConv a fun c => { c with pending := [] }).showConv a
def Dev.adcCut (d : Dev) (a : Nat) : Dev := (d.setConv a fun _ => ⟨none, []⟩).showConv a

/-- An APPLY changes RANGE: the next 10 µs carry SETTLING (R313). -/
def Dev.ainApplied (d old : Dev) (i : Nat) : Dev :=
  if d.get (Ent.Ain.RANGE i) = old.get (Ent.Ain.RANGE i) then d
  else d.setAdc fun s => { s with ranged := KV.insert i d.time.raw s.ranged }

/-- Local block ANALOG (Table 13.2). -/
def Dev.analogBlock (d : Dev) : Bytes :=
  ((List.range 30).flatMap fun c => le 2 (KV.get 0 c d.adc.codes)) ++ zeros 4 ++
  ((List.range 16).flatMap fun i => le 1 (d.get (Ent.Ain.FLAGS i))) ++
  ((List.range 16).flatMap fun k => le 2 (d.fld (Rg.Adcr.SEQ_COUNT (k / 8) (k % 8)))) ++ zeros 16

/-! ### Meanings -/

def execAdcStart (a v : Nat) (s : State) := onDev s (adcStartOp a v)
def execShuntOpen (i : Nat) (s : State) := onDev s (shuntOpenOp i)
def execShuntClose (i : Nat) (s : State) := onDev s (shuntCloseOp i)

end Sys2Proof.Machine
end

