-- ==== Sys2Proof/Machine/Crypto.lean ====
section
/-! DEFINITION. The algorithms the manual names by their standards (PRESUMED from those standards): SHA-256 and SHA-384 (FIPS 180-4),
HMAC (FIPS 198-1), AES-256-GCM (FIPS 197, SP 800-38D), ECDSA on P-256 and P-384 with deterministic nonces (FIPS 186-5, RFC 6979). -/

namespace Sys2Proof.Machine

/-! ### SHA-2 -/

/-- The first `n` primes. -/
def primes (n : Nat) : List Nat :=
  ((List.range 500).filter fun p => decide (2 ≤ p) && (List.range p).all fun k => decide (k < 2) || p % k != 0).take n

/-- The largest `r` below 2 to the `n` with `r ^ e ≤ x`. -/
def rootFloor (e x : Nat) : Nat → Nat → Nat
  | 0, r => r
  | n + 1, r => rootFloor e x n (if (r + 2 ^ n) ^ e ≤ x then r + 2 ^ n else r)

/-- The first `w` bits of the fractional part of the `e`-th root of `p`. -/
def rootFraction (e w p : Nat) : Nat := rootFloor e (p * 2 ^ (w * e)) (w + 8) 0 % 2 ^ w

def sha256K : List (BitVec 32) := (primes 64).map fun p => BitVec.ofNat 32 (rootFraction 3 32 p)
def sha256H : List (BitVec 32) := (primes 8).map fun p => BitVec.ofNat 32 (rootFraction 2 32 p)
def sha512K : List (BitVec 64) := (primes 80).map fun p => BitVec.ofNat 64 (rootFraction 3 64 p)
def sha384H : List (BitVec 64) := ((primes 16).drop 8).map fun p => BitVec.ofNat 64 (rootFraction 2 64 p)

/-- The shift and rotation amounts of a SHA-2 function. -/
structure ShaShape where
  S0 : Nat × Nat × Nat
  S1 : Nat × Nat × Nat
  s0 : Nat × Nat × Nat
  s1 : Nat × Nat × Nat

def rot3 {w : Nat} (x : BitVec w) (r : Nat × Nat × Nat) : BitVec w := x.rotateRight r.1 ^^^ x.rotateRight r.2.1 ^^^ x.rotateRight r.2.2

def rotShift {w : Nat} (x : BitVec w) (r : Nat × Nat × Nat) : BitVec w := x.rotateRight r.1 ^^^ x.rotateRight r.2.1 ^^^ (x >>> r.2.2)

/-- The message schedule, newest word first. -/
def shaSchedule {w : Nat} (c : ShaShape) : Nat → List (BitVec w) → List (BitVec w)
  | 0, l => l
  | n + 1, l =>
    let g (i : Nat) : BitVec w := (l[i]?).getD 0#w
    shaSchedule c n ((rotShift (g 1) c.s1 + g 6 + rotShift (g 14) c.s0 + g 15) :: l)

/-- One round on the working variables a to h. -/
def shaRound {w : Nat} (c : ShaShape) (v : List (BitVec w)) (kw : BitVec w × BitVec w) : List (BitVec w) :=
  match v with
  | [a, b, cc, d, e, f, g, h] =>
    let t1 := h + rot3 e c.S1 + ((e &&& f) ^^^ (~~~ e &&& g)) + kw.1 + kw.2
    let t2 := rot3 a c.S0 + ((a &&& b) ^^^ (a &&& cc) ^^^ (b &&& cc))
    [t1 + t2, a, b, cc, d + t1, e, f, g]
  | _ => v

/-- One block of `16 * bytes` bytes. -/
def shaBlock {w : Nat} (c : ShaShape) (k : List (BitVec w)) (bytes : Nat) (h : List (BitVec w)) (b : Bytes) : List (BitVec w) :=
  let m := (List.range 16).map fun i => BitVec.ofNat w (ofBe (slice b (bytes * i) bytes))
  let ws := (shaSchedule c (k.length - 16) m.reverse).reverse
  List.zipWith (· + ·) h ((List.zip k ws).foldl (shaRound c) h)

/-- The padded message of a hash with `blk`-byte blocks. -/
def shaPad (blk : Nat) (m : Bytes) : Bytes :=
  let lenBytes := blk / 8
  let z := (2 * blk - 1 - lenBytes - m.length % blk) % blk
  m ++ 0x80#8 :: zeros z ++ be lenBytes (8 * m.length)

def shaBlocks {w : Nat} (c : ShaShape) (k : List (BitVec w)) (bytes : Nat) : Nat → List (BitVec w) → Bytes → List (BitVec w)
  | 0, h, _ => h
  | n + 1, h, b => shaBlocks c k bytes n (shaBlock c k bytes h (b.take (16 * bytes))) (b.drop (16 * bytes))

def sha256Shape : ShaShape := ⟨(2, 13, 22), (6, 11, 25), (7, 18, 3), (17, 19, 10)⟩
def sha512Shape : ShaShape := ⟨(28, 34, 39), (14, 18, 41), (1, 8, 7), (19, 61, 6)⟩

/-- SHA-256. -/
def sha256 (m : Bytes) : Bytes :=
  let p := shaPad 64 m
  (shaBlocks sha256Shape sha256K 4 (p.length / 64) sha256H p).flatMap fun x => be 4 x.toNat

/-- SHA-384. -/
def sha384 (m : Bytes) : Bytes :=
  let p := shaPad 128 m
  ((shaBlocks sha512Shape sha512K 8 (p.length / 128) sha384H p).take 6).flatMap fun x => be 8 x.toNat

/-- HMAC over a hash with `blk`-byte blocks. -/
def hmac (hash : Bytes → Bytes) (blk : Nat) (key m : Bytes) : Bytes :=
  let k := slice (if blk < key.length then hash key else key) 0 blk
  hash (k.map (· ^^^ 0x5C#8) ++ hash (k.map (· ^^^ 0x36#8) ++ m))

/-- HMAC-SHA-256. -/
def hmacSha256 (key m : Bytes) : Bytes := hmac sha256 64 key m

/-! ### AES-256-GCM -/

/-- Multiplication by x in the field of AES. -/
def xtime (a : Byte) : Byte := (a <<< 1) ^^^ (if a.getLsbD 7 then 0x1B#8 else 0#8)

/-- Multiplication in the field of AES, `n` bits of `b`. -/
def gmul (a b : Byte) : Nat → Byte
  | 0 => 0#8
  | n + 1 => (if b.getLsbD 0 then a else 0#8) ^^^ gmul (xtime a) (b >>> 1) n

/-- The S-box: inverse, then the affine map. -/
def sboxOf (a : Byte) : Byte :=
  let i := (List.range 254).foldl (fun x _ => gmul x a 8) 1#8
  i ^^^ i.rotateLeft 1 ^^^ i.rotateLeft 2 ^^^ i.rotateLeft 3 ^^^ i.rotateLeft 4 ^^^ 0x63#8

def sboxTable : Array Byte := (Array.range 256).map fun n => sboxOf (BitVec.ofNat 8 n)

def sbox (a : Byte) : Byte := sboxTable.getD a.toNat 0#8

/-- The key schedule of AES-256: 60 words of 4 bytes, newest first. -/
def aesKeys : Nat → Byte → List Bytes → List Bytes
  | 0, _, l => l
  | n + 1, rcon, l =>
    let prev := l.headD []
    let back := (l[7]?).getD []
    let i := l.length
    let t := if i % 8 = 0 then xorBytes ((prev.drop 1 ++ prev.take 1).map sbox) [rcon, 0#8, 0#8, 0#8]
             else if i % 8 = 4 then prev.map sbox else prev
    aesKeys n (if i % 8 = 0 then xtime rcon else rcon) (xorBytes back t :: l)

/-- The 15 round keys. -/
def aesRoundKeys (key : Bytes) : List Bytes :=
  let ws := (aesKeys 52 1#8 ((List.range 8).map fun i => slice key (4 * i) 4).reverse).reverse
  (List.range 15).map fun r => ((ws.drop (4 * r)).take 4).flatten

/-- ShiftRows on 16 bytes, column by column. -/
def shiftRows (s : Bytes) : Bytes := (List.range 16).map fun i => (s[(i + 4 * (i % 4)) % 16]?).getD 0#8

/-- MixColumns on one column. -/
def mixColumn (col : Bytes) : Bytes :=
  (List.range 4).map fun i =>
    let g (k : Nat) : Byte := (col[(i + k) % 4]?).getD 0#8
    xtime (g 0) ^^^ (xtime (g 1) ^^^ g 1) ^^^ g 2 ^^^ g 3

def mixColumns (s : Bytes) : Bytes := (List.range 4).flatMap fun i => mixColumn (slice s (4 * i) 4)

/-- One block of AES-256. -/
def aes256 (key block : Bytes) : Bytes :=
  let ks := aesRoundKeys key
  let k (i : Nat) : Bytes := (ks[i]?).getD []
  let s := (List.range 13).foldl (fun s i => xorBytes (mixColumns (shiftRows (s.map sbox))) (k (i + 1))) (xorBytes block (k 0))
  xorBytes (shiftRows (s.map sbox)) (k 14)

/-- Multiplication in the field of GCM; bit 127 of a block is its first bit. -/
def ghashMul (x y : BitVec 128) : BitVec 128 :=
  ((List.range 128).foldl (fun (zv : BitVec 128 × BitVec 128) i =>
    (if x.getLsbD (127 - i) then zv.1 ^^^ zv.2 else zv.1,
     (zv.2 >>> 1) ^^^ (if zv.2.getLsbD 0 then 0xE1000000000000000000000000000000#128 else 0#128))) (0#128, y)).1

/-- 16-byte blocks, the last padded with zeros. -/
def blocks16 : Nat → Bytes → List Bytes
  | 0, _ => []
  | n + 1, b => if b.isEmpty then [] else slice b 0 16 :: blocks16 n (b.drop 16)

def ghash (h : BitVec 128) (b : List Bytes) : BitVec 128 :=
  b.foldl (fun y x => ghashMul (y ^^^ BitVec.ofNat 128 (ofBe x)) h) 0#128

/-- The key stream of GCM applied to `b`, the counter block being the 12-byte nonce and a count from 2. -/
def gcmCtr (key nonce b : Bytes) : Bytes :=
  let bs := blocks16 (b.length + 1) b
  ((List.zip bs (List.range bs.length)).flatMap fun x => xorBytes x.1 (aes256 key (nonce ++ be 4 (x.2 + 2)))).take b.length

/-- The 16-byte tag of GCM over additional data and ciphertext. -/
def gcmTag (key nonce aad c : Bytes) : Bytes :=
  let h := BitVec.ofNat 128 (ofBe (aes256 key (zeros 16)))
  let s := ghash h (blocks16 (aad.length + 1) aad ++ blocks16 (c.length + 1) c ++ [be 8 (8 * aad.length) ++ be 8 (8 * c.length)])
  xorBytes (be 16 s.toNat) (aes256 key (nonce ++ be 4 1))

/-- AES-256-GCM encryption: ciphertext and tag. -/
def gcmSeal (key nonce aad p : Bytes) : Bytes × Bytes :=
  let c := gcmCtr key nonce p
  (c, gcmTag key nonce aad c)

/-- AES-256-GCM decryption; `none` when the tag fails. -/
def gcmOpen (key nonce aad c tag : Bytes) : Option Bytes :=
  if gcmTag key nonce aad c = tag then some (gcmCtr key nonce c) else none

/-! ### ECDSA -/

/-- `b ^ e` modulo `m` over the low `n` bits of `e`. -/
def powMod (m : Nat) : Nat → Nat → Nat → Nat
  | 0, _, _ => 1 % m
  | n + 1, b, e => (if e % 2 = 1 then b else 1) * powMod m n (b * b % m) (e / 2) % m

/-- The inverse modulo a prime. -/
def invMod (m x : Nat) : Nat := powMod m 384 (x % m) (m - 2)

/-- A prime curve y² = x³ − 3x + b: field, b, order, base point, bytes of a scalar. -/
structure Curve where
  p : Nat
  b : Nat
  n : Nat
  gx : Nat
  gy : Nat
  bytes : Nat

def p256 : Curve :=
  ⟨0xFFFFFFFF00000001000000000000000000000000FFFFFFFFFFFFFFFFFFFFFFFF,
   0x5AC635D8AA3A93E7B3EBBD55769886BC651D06B0CC53B0F63BCE3C3E27D2604B,
   0xFFFFFFFF00000000FFFFFFFFFFFFFFFFBCE6FAADA7179E84F3B9CAC2FC632551,
   0x6B17D1F2E12C4247F8BCE6E563A440F277037D812DEB33A0F4A13945D898C296,
   0x4FE342E2FE1A7F9B8EE7EB4A7C0F9E162BCE33576B315ECECBB6406837BF51F5, 32⟩

def p384 : Curve :=
  ⟨0xFFFFFFFFFFFFFFFFFFFFFFFFFFFFFFFFFFFFFFFFFFFFFFFFFFFFFFFFFFFFFFFEFFFFFFFF0000000000000000FFFFFFFF,
   0xB3312FA7E23EE7E4988E056BE3F82D19181D9C6EFE8141120314088F5013875AC656398D8A2ED19D2A85C8EDD3EC2AEF,
   0xFFFFFFFFFFFFFFFFFFFFFFFFFFFFFFFFFFFFFFFFFFFFFFFFC7634D81F4372DDF581A0DB248B0A77AECEC196ACCC52973,
   0xAA87CA22BE8B05378EB1C71EF320AD746E1D3B628BA79B9859F741E082542A385502F25DBF55296C3A545E3872760AB7,
   0x3617DE4A96262C6F5D9E98BF9292DC29F8F41DBD289A147CE9DA3113B5F0B8C00A60B1CE1D7E819D7A431D7C90EA0E5F, 48⟩

/-- A point, or `none` at infinity. -/
abbrev Point := Option (Nat × Nat)

/-- The sum of two points. -/
def Curve.add (c : Curve) : Point → Point → Point
  | none, q => q
  | q, none => q
  | some (x1, y1), some (x2, y2) =>
    if x1 = x2 ∧ (y1 + y2) % c.p = 0 then none
    else
      let l := if x1 = x2 then 3 * (x1 * x1 + c.p - 1) % c.p * invMod c.p (2 * y1) % c.p
               else (y2 + c.p - y1) * invMod c.p (x2 + c.p - x1) % c.p
      let x := (l * l + 2 * c.p - x1 - x2) % c.p
      some (x, (l * (x1 + c.p - x) + c.p - y1) % c.p)

/-- `k` times a point over the low `n` bits of `k`. -/
def Curve.mul (c : Curve) : Nat → Nat → Point → Point
  | 0, _, _ => none
  | n + 1, k, q =>
    let r := Curve.mul c n (k / 2) (c.add q q)
    if k % 2 = 1 then c.add q r else r

def Curve.base (c : Curve) : Point := some (c.gx, c.gy)

/-- The point lies on the curve. -/
def Curve.on (c : Curve) (x y : Nat) : Bool :=
  decide (x < c.p) && decide (y < c.p) && (y * y) % c.p == (x * x * x + 3 * (c.p - x) + c.b) % c.p

/-- The public key of a private scalar, x‖y. -/
def Curve.publicKey (c : Curve) (k : Nat) : Bytes :=
  match c.mul 384 k c.base with
  | some (x, y) => be c.bytes x ++ be c.bytes y
  | none => zeros (2 * c.bytes)

/-- ECDSA verification of r‖s over a digest with public key x‖y. -/
def Curve.verify (c : Curve) (pub digest sig : Bytes) : Bool :=
  let x := ofBe (slice pub 0 c.bytes)
  let y := ofBe (slice pub c.bytes c.bytes)
  let r := ofBe (slice sig 0 c.bytes)
  let s := ofBe (slice sig c.bytes c.bytes)
  if r = 0 ∨ c.n ≤ r ∨ s = 0 ∨ c.n ≤ s ∨ !c.on x y then false
  else
    let w := invMod c.n s
    let e := ofBe (digest.take c.bytes)
    match c.add (c.mul 384 (e * w % c.n) c.base) (c.mul 384 (r * w % c.n) (some (x, y))) with
    | none => false
    | some (px, _) => px % c.n == r

/-- The candidates of RFC 6979: the first `k` from 1 to n − 1. -/
def Curve.nonce (c : Curve) (hash : Bytes → Bytes) (blk : Nat) : Nat → Bytes → Bytes → Nat
  | 0, _, _ => 1
  | f + 1, key, v =>
    let v := hmac hash blk key v
    let k := ofBe v
    if 1 ≤ k ∧ k < c.n then k
    else
      let key := hmac hash blk key (v ++ [0#8])
      Curve.nonce c hash blk f key (hmac hash blk key v)

/-- ECDSA signature r‖s over a digest with a deterministic nonce; `hash` is the hash of the curve's size. -/
def Curve.sign (c : Curve) (hash : Bytes → Bytes) (blk priv : Nat) (digest : Bytes) : Bytes :=
  let e := ofBe (digest.take c.bytes)
  let x := be c.bytes priv ++ be c.bytes (e % c.n)
  let v := List.replicate c.bytes 1#8
  let k0 := hmac hash blk (zeros c.bytes) (v ++ [0#8] ++ x)
  let v := hmac hash blk k0 v
  let k1 := hmac hash blk k0 (v ++ [1#8] ++ x)
  let v := hmac hash blk k1 v
  let k := c.nonce hash blk 64 k1 v
  match c.mul 384 k c.base with
  | none => zeros (2 * c.bytes)
  | some (rx, _) =>
    let r := rx % c.n
    be c.bytes r ++ be c.bytes (invMod c.n k * (e + r * priv) % c.n)

end Sys2Proof.Machine
end

