-- ==== Sys2Proof/Machine/Initiators.lean ====
section
/-! DEFINITION. What the concourse's initiators keep of their own transactions: the fault registers of the cores (R21, R324) and the answers that a
DMA channel waits for (R20, R21, R221). -/

namespace Sys2Proof.Machine

/-- The initiator with a number of `Initiator.id`. -/
def Initiator.ofId (n : Nat) : Option Initiator :=
  if n < 4 then some (.aCore n)
  else if n < 12 then some (.cCore (n - 4))
  else if n < 24 then some (.executor (n - 12))
  else if 64 ≤ n ∧ n < 128 then some (.dma (n - 64))
  else if 36 ≤ n ∧ n < 40 then some (.bridge (n - 36))
  else if 32 ≤ n ∧ n < 34 then some (.engine (n - 32))
  else if 41 ≤ n ∧ n < 45 then some (.hostEngine (n - 41))
  else match n with
    | 28 => some .se
    | 29 => some .m0
    | 30 => some .mezzDma
    | 31 => some .crypto
    | 34 => some .switchCore
    | 35 => some .d0
    | 40 => some .debug
    | 45 => some .storage
    | _ => none

/-! ### Cores -/

/-- The lower core of an executor: C0 to C7, then the lockstep pairs (R238). -/
def execLead (x : Nat) : Nat := if x < 8 then x else 2 * (x - 8)

/-- A core with nothing noted. -/
def Hart.fresh : Hart := ⟨0, 0, 0, 0, false, []⟩

def Dev.hart (d : Dev) (k : Nat) : Hart := KV.get Hart.fresh k d.harts
def Dev.setHart (d : Dev) (k : Nat) (f : Hart → Hart) : Dev := { d with harts := KV.put Hart.fresh k (f (d.hart k)) d.harts }

/-- The core an initiator is, as a target number of Table 14.3; 12 for M0. -/
def coreOf : Initiator → Option Nat
  | .aCore n => some n
  | .cCore n => some (4 + n)
  | .executor x => some (4 + execLead x)
  | .m0 => some 12
  | _ => none

/-- The fault-status CSR of the core takes the status of a refused load or store (R324): MFSTAT on a C-core and on M0. On an A-core the mode that takes
the trap is software's choice; hall 0's faults are taken in HS-mode and a tenant's in VS-mode (PRESUMED, assumption 42). -/
def Dev.accessFault (d : Dev) (i : Initiator) (hall : Nat) (s : Status) : Dev :=
  match coreOf i with
  | none => d
  | some k =>
    let d := if 4 ≤ k then d.setHart k fun h => { h with mfstat := s.code }
      else if hall = 0 then d.setHart k fun h => { h with sfstat := s.code } else d.setHart k fun h => { h with vsfstat := s.code }
    d.emit (.accessFault i.id s)

/-! ### DMA channels -/

def Dev.setDma (d : Dev) (f : MemSt → MemSt) : Dev := { d with dma := f d.dma }

def DmaCh.rest : DmaCh := ⟨[], 0, none, false, false, [], [], [], 0⟩
def Dev.ch (d : Dev) (c : Nat) : DmaCh := KV.get DmaCh.rest c d.dma.chs
def Dev.setCh (d : Dev) (c : Nat) (f : DmaCh → DmaCh) : Dev := d.setDma fun m => { m with chs := KV.put DmaCh.rest c (f (d.ch c)) m.chs }

/-- The channel takes the answer to its transaction at address `addr`: the bytes of a read are kept until the burst has all of them; a write has moved
its bytes, and the last one of the descriptor ends it; an answer other than OK ends it at once, and what follows counts no more (R21). -/
def DmaCh.answered (x : DmaCh) (addr : Nat) (s : Status) (b : Bytes) : DmaCh :=
  if !x.await.contains addr then x
  else
    let x := { x with await := x.await.erase addr }
    if x.ended.isSome then x
    else if s ≠ .ok then { x with parts := [], ended := some s }
    else if x.moving = 0 then { x with parts := KV.insert addr b x.parts }
    else
      let n := x.done + x.moving
      { x with done := n, ended := if leAt x.desc 4 4 ≤ n then some .ok else none, moving := if x.await = [] then 0 else x.moving }

/-- An answer that an initiator has been waiting for arrives (R222): a core's load or store completes, or faults with a status other than OK (R21); a
DMA channel goes on. -/
def Dev.answered (d : Dev) (id hall addr : Nat) (s : Status) (v : Nat) (b : Bytes) : Dev :=
  let d := d.emit (.complete id s v)
  match Initiator.ofId id with
  | some (.dma c) => d.setCh c fun x => x.answered addr s b
  | some i => if s = .ok then d else d.accessFault i hall s
  | none => d

end Sys2Proof.Machine
end

