-- ==== Sys2Proof/Machine/DictTable.lean ====
section
/-! DEFINITION. The object dictionary's entries: one row of `DictRow` per row of the manual's entry tables (columns
Entry, Name, Type, Access, Default, Range and Notes), grouped by unit. A counter written "In order: ..." in the manual is one row
per counter. Where a default depends on the port kind or on the channel, the row is split by index range. R56, R57, R82, R85. -/

set_option linter.unusedVariables false

namespace Sys2Proof.Machine

/-- Tables 3.11, 7.7: the entries of the index group 0x1000. -/
def rowsCo : List DictRow := [
  ⟨0x1000, 1, 1, 0x0, 1, 1, .u32, .const, 0, [(0, 4294967295)], 1, []⟩,
  ⟨0x1001, 1, 1, 0x0, 1, 1, .u8, .ro, 0, [(0, 255)], 1, [.volatile]⟩,
  ⟨0x1008, 1, 1, 0x0, 1, 1, (.str 16), .const, 0, [], 1, []⟩,
  ⟨0x1009, 1, 1, 0x0, 1, 1, (.str 16), .const, 0, [], 1, []⟩,
  ⟨0x100A, 1, 1, 0x0, 1, 1, (.str 16), .const, 0, [], 1, []⟩,
  ⟨0x1010, 1, 1, 0x0, 1, 1, .u8, .const, 4, [(0, 255)], 1, []⟩,
  ⟨0x1010, 1, 1, 0x1, 4, 1, .u32, .rw, 1, [(0, 4294967295)], 1, [.volatile]⟩,
  ⟨0x1011, 1, 1, 0x0, 1, 1, .u8, .const, 4, [(0, 255)], 1, []⟩,
  ⟨0x1011, 1, 1, 0x1, 4, 1, .u32, .rw, 1, [(0, 4294967295)], 1, [.volatile]⟩,
  ⟨0x1016, 1, 1, 0x0, 1, 1, .u8, .const, 32, [(0, 255)], 1, []⟩,
  ⟨0x1016, 1, 1, 0x1, 32, 1, .u32, .rw, 0, [(0, 268435455)], 1, []⟩,
  ⟨0x1017, 1, 1, 0x0, 1, 1, .u16, .rw, 1000, [(0, 65535)], 1, []⟩,
  ⟨0x1018, 1, 1, 0x0, 1, 1, .u8, .const, 4, [(0, 255)], 1, []⟩,
  ⟨0x1018, 1, 1, 0x1, 1, 1, .u32, .const, 0, [(0, 4294967295)], 1, []⟩,
  ⟨0x1018, 1, 1, 0x2, 1, 1, .u32, .const, 18454, [(0, 4294967295)], 1, []⟩,
  ⟨0x1018, 1, 1, 0x3, 1, 1, .u32, .const, 0, [(0, 4294967295)], 1, []⟩,
  ⟨0x1018, 1, 1, 0x4, 1, 1, .u32, .const, 0, [(0, 4294967295)], 1, []⟩,
  ⟨0x1200, 16, 1, 0x0, 1, 1, .u8, .const, 2, [(0, 255)], 1, []⟩,
  ⟨0x1200, 16, 1, 0x1, 1, 1, .u32, .rw, 1537, [(0, 4294967295)], 1, []⟩,
  ⟨0x1200, 16, 1, 0x2, 1, 1, .u32, .rw, 1409, [(0, 4294967295)], 1, []⟩,
  ⟨0x1400, 128, 1, 0x0, 1, 1, .u8, .const, 33, [(0, 255)], 1, []⟩,
  ⟨0x1400, 128, 1, 0x1, 1, 1, .u32, .rw, 2147483648, [(0, 4294967295)], 1, []⟩,
  ⟨0x1400, 128, 1, 0x2, 1, 1, .u8, .rw, 255, [(0, 255)], 1, []⟩,
  ⟨0x1400, 128, 1, 0x3, 1, 1, .u16, .rw, 0, [(0, 65535)], 1, []⟩,
  ⟨0x1400, 128, 1, 0x5, 1, 1, .u16, .rw, 0, [(0, 65535)], 1, []⟩,
  ⟨0x1400, 128, 1, 0x20, 1, 1, .u8, .rw, 0, [(0, 15)], 1, []⟩,
  ⟨0x1400, 128, 1, 0x21, 1, 1, .u16, .rw, 65535, [(0, 255), (65535, 65535)], 1, []⟩,
  ⟨0x1600, 128, 1, 0x0, 1, 1, .u8, .rw, 0, [(0, 8)], 1, []⟩,
  ⟨0x1600, 128, 1, 0x1, 8, 1, .u32, .rw, 0, [(0, 4294967295)], 1, []⟩,
  ⟨0x1800, 128, 1, 0x0, 1, 1, .u8, .const, 33, [(0, 255)], 1, []⟩,
  ⟨0x1800, 128, 1, 0x1, 1, 1, .u32, .rw, 2147483648, [(0, 4294967295)], 1, []⟩,
  ⟨0x1800, 128, 1, 0x2, 1, 1, .u8, .rw, 255, [(0, 255)], 1, []⟩,
  ⟨0x1800, 128, 1, 0x3, 1, 1, .u16, .rw, 0, [(0, 65535)], 1, []⟩,
  ⟨0x1800, 128, 1, 0x5, 1, 1, .u16, .rw, 0, [(0, 65535)], 1, []⟩,
  ⟨0x1800, 128, 1, 0x20, 1, 1, .u8, .rw, 0, [(0, 15)], 1, []⟩,
  ⟨0x1800, 128, 1, 0x21, 1, 1, .u16, .rw, 65535, [(0, 255), (65535, 65535)], 1, []⟩,
  ⟨0x1A00, 128, 1, 0x0, 1, 1, .u8, .rw, 0, [(0, 8)], 1, []⟩,
  ⟨0x1A00, 128, 1, 0x1, 8, 1, .u32, .rw, 0, [(0, 4294967295)], 1, []⟩]

/-- Table 23.9: the entries of the index group 0x2002. -/
def rowsMod : List DictRow := [
  ⟨0x2002, 1, 1, 0x0, 1, 1, .u8, .const, 1, [(0, 255)], 1, []⟩,
  ⟨0x2002, 1, 1, 0x1, 1, 1, .u8, .ro, 0, [(0, 255)], 1, [.volatile, .allHalls]⟩]

/-- Table 3.10: the entries of the index group 0x2010. -/
def rowsNdp : List DictRow := [
  ⟨0x2010, 1, 1, 0x0, 1, 1, .u8, .const, 254, [(0, 255)], 1, []⟩,
  ⟨0x2010, 1, 1, 0x1, 1, 1, .u16, .rw, 48211, [(1024, 65535)], 1, [.group]⟩,
  ⟨0x2010, 1, 1, 0x2, 1, 1, .u32, .rw, 0, [(0, 4294967295)], 1, [.group]⟩,
  ⟨0x2010, 1, 1, 0x4, 1, 1, (.oct 16), .rw, 0, [], 1, [.group]⟩,
  ⟨0x2010, 1, 1, 0x5, 1, 1, .u16, .rw, 0, [(0, 4094)], 1, [.group]⟩,
  ⟨0x2010, 1, 1, 0x6, 1, 1, .u16, .rw, 30, [(1, 3600)], 1, [.group]⟩,
  ⟨0x2010, 1, 1, 0x7, 1, 1, .u8, .ro, 0, [(0, 64)], 1, [.volatile]⟩,
  ⟨0x2010, 1, 1, 0x8, 1, 1, .u64, .w1c, 0, [(0, 18446744073709551615)], 1, []⟩,
  ⟨0x2010, 1, 1, 0x9, 1, 1, .u64, .w1c, 0, [(0, 18446744073709551615)], 1, []⟩,
  ⟨0x2010, 1, 1, 0xA, 1, 1, .u8, .ro, 0, [(0, 255)], 1, []⟩,
  ⟨0x2010, 1, 1, 0xFD, 1, 1, .u32, .ro, 0, [(0, 4294967295)], 1, []⟩,
  ⟨0x2010, 1, 1, 0xFE, 1, 1, .u8, .wo, 0, [(1, 2)], 1, []⟩]

/-- Table 3.10: the entries of the index group 0x2020. -/
def rowsBind : List DictRow := [
  ⟨0x2020, 16, 1, 0x0, 1, 1, .u8, .const, 254, [(0, 255)], 1, []⟩,
  ⟨0x2020, 16, 1, 0x1, 1, 1, .u8, .rw, 0, [(0, 1)], 1, [.group]⟩,
  ⟨0x2020, 16, 1, 0x2, 1, 1, .u8, .rw, 0, [(0, 255)], 1, [.group]⟩,
  ⟨0x2020, 16, 1, 0x3, 1, 1, .u8, .rw, 1, [(0, 1)], 1, [.group]⟩,
  ⟨0x2020, 16, 1, 0x4, 1, 1, .u8, .rw, 0, [(0, 31)], 1, [.group]⟩,
  ⟨0x2020, 16, 1, 0x5, 1, 1, .u8, .rw, 4, [(1, 64)], 1, [.group]⟩,
  ⟨0x2020, 16, 1, 0xFD, 1, 1, .u32, .ro, 0, [(0, 4294967295)], 1, []⟩,
  ⟨0x2020, 16, 1, 0xFE, 1, 1, .u8, .wo, 0, [(1, 2)], 1, []⟩]

/-- Table 19.12: the entries of the index group 0x2100. -/
def rowsPwr : List DictRow := [
  ⟨0x2100, 1, 1, 0x0, 1, 1, .u8, .const, 16, [(0, 255)], 1, []⟩,
  ⟨0x2100, 1, 1, 0x1, 1, 1, .u8, .ro, 0, [(0, 3)], 1, [.volatile, .allHalls, .vestibule]⟩,
  ⟨0x2100, 1, 1, 0x2, 1, 1, .u32, .ro, 65536, [(0, 4294967295)], 1, [.volatile, .vestibule]⟩,
  ⟨0x2100, 1, 1, 0x3, 1, 1, .u8, .wo, 0, [(1, 1)], 1, [.volatile]⟩,
  ⟨0x2100, 1, 1, 0x4, 1, 1, .u16, .wo, 0, [(0, 767), (4096, 4098)], 1, [.volatile]⟩,
  ⟨0x2100, 1, 1, 0x5, 1, 1, .u8, .ro, 0, [(0, 2)], 1, [.volatile]⟩,
  ⟨0x2100, 1, 1, 0x6, 1, 1, .u16, .ro, 0, [(0, 65535)], 1, [.volatile, .vestibule]⟩,
  ⟨0x2100, 1, 1, 0x7, 1, 1, .u8, .ro, 0, [(0, 255)], 1, [.volatile]⟩,
  ⟨0x2100, 1, 1, 0x8, 1, 1, .u16, .ro, 0, [(0, 65535)], 1, [.volatile]⟩,
  ⟨0x2100, 1, 1, 0x9, 1, 1, .u64, .w1c, 0, [(0, 18446744073709551615)], 1, [.keptInSettings]⟩,
  ⟨0x2100, 1, 1, 0xA, 1, 1, .u64, .w1c, 0, [(0, 18446744073709551615)], 1, [.keptInSettings]⟩,
  ⟨0x2100, 1, 1, 0xB, 1, 1, .u64, .w1c, 0, [(0, 18446744073709551615)], 1, [.keptInSettings]⟩,
  ⟨0x2100, 1, 1, 0xC, 1, 1, .u64, .w1c, 0, [(0, 18446744073709551615)], 1, [.keptInSettings]⟩,
  ⟨0x2100, 1, 1, 0xD, 1, 1, .u64, .w1c, 0, [(0, 18446744073709551615)], 1, []⟩,
  ⟨0x2100, 1, 1, 0xE, 1, 1, .u64, .w1c, 0, [(0, 18446744073709551615)], 1, []⟩,
  ⟨0x2100, 1, 1, 0x10, 1, 1, .u8, .ro, 0, [(0, 255)], 1, []⟩]

/-- Table 19.12: the entries of the index group 0x2101. -/
def rowsPf : List DictRow := [
  ⟨0x2101, 1, 1, 0x0, 1, 1, .u8, .const, 254, [(0, 255)], 1, []⟩,
  ⟨0x2101, 1, 1, 0x1, 1, 1, .u16, .rw, 8500, [(8500, 30000)], 1, [.group]⟩,
  ⟨0x2101, 1, 1, 0x2, 1, 1, .u16, .rw, 10, [(1, 1000)], 1, [.group]⟩,
  ⟨0x2101, 1, 1, 0xFD, 1, 1, .u32, .ro, 0, [(0, 4294967295)], 1, []⟩,
  ⟨0x2101, 1, 1, 0xFE, 1, 1, .u8, .wo, 0, [(1, 2)], 1, []⟩]

/-- Table 1.8: the entries of the index group 0x2108. -/
def rowsPace : List DictRow := [
  ⟨0x2108, 1, 1, 0x0, 1, 1, .u8, .const, 7, [(0, 255)], 1, []⟩,
  ⟨0x2108, 1, 1, 0x1, 1, 1, .u8, .rw, 0, [(0, 2)], 1, []⟩,
  ⟨0x2108, 1, 1, 0x2, 1, 1, .u16, .rw, 800, [(720, 880)], 5, []⟩,
  ⟨0x2108, 1, 1, 0x3, 1, 1, .u16, .ro, 800, [(720, 880)], 1, []⟩,
  ⟨0x2108, 1, 1, 0x4, 1, 1, .u16, .ro, 0, [(0, 65535)], 1, []⟩,
  ⟨0x2108, 1, 1, 0x5, 1, 1, .u16, .ro, 4096, [(0, 5960)], 1, []⟩,
  ⟨0x2108, 1, 1, 0x6, 1, 1, .u64, .w1c, 0, [(0, 18446744073709551615)], 1, []⟩,
  ⟨0x2108, 1, 1, 0x7, 1, 1, .u8, .ro, 0, [(0, 255)], 1, []⟩]

/-- Table 18.10: the entries of the index group 0x2200. -/
def rowsClk : List DictRow := [
  ⟨0x2200, 1, 1, 0x0, 1, 1, .u8, .const, 254, [(0, 255)], 1, []⟩,
  ⟨0x2200, 1, 1, 0x1, 1, 1, .u8, .rw, 1, [(0, 1)], 1, [.group]⟩,
  ⟨0x2200, 1, 1, 0x2, 1, 1, .u8, .rw, 0, [(0, 1)], 1, [.group]⟩,
  ⟨0x2200, 1, 1, 0x3, 1, 1, .u8, .ro, 0, [(0, 255)], 1, [.volatile]⟩,
  ⟨0x2200, 1, 1, 0x4, 1, 1, .u8, .rw, 0, [(0, 5)], 1, [.group]⟩,
  ⟨0x2200, 1, 1, 0x5, 1, 1, .u8, .rw, 0, [(0, 15)], 1, [.group]⟩,
  ⟨0x2200, 1, 1, 0x6, 1, 1, .u8, .ro, 5, [(1, 5)], 1, [.volatile]⟩,
  ⟨0x2200, 1, 1, 0x7, 1, 1, .i32, .ro, 0, [(-2147483648, 2147483647)], 1, [.volatile]⟩,
  ⟨0x2200, 1, 1, 0x8, 1, 1, .u8, .rw, 1, [(0, 2)], 1, [.group]⟩,
  ⟨0x2200, 1, 1, 0x9, 1, 1, .u8, .rw, 2, [(1, 8)], 1, [.group]⟩,
  ⟨0x2200, 1, 1, 0xA, 1, 1, .u8, .rw, 32, [(30, 60)], 1, [.group]⟩,
  ⟨0x2200, 1, 1, 0xB, 1, 1, .u8, .ro, 0, [(0, 1)], 1, [.volatile]⟩,
  ⟨0x2200, 1, 1, 0xC, 1, 1, .u8, .ro, 0, [(0, 1)], 1, [.volatile]⟩,
  ⟨0x2200, 1, 1, 0xD, 1, 1, .u64, .w1c, 0, [(0, 18446744073709551615)], 1, []⟩,
  ⟨0x2200, 1, 1, 0xE, 1, 1, .u64, .w1c, 0, [(0, 18446744073709551615)], 1, []⟩,
  ⟨0x2200, 1, 1, 0xF, 1, 1, .u64, .w1c, 0, [(0, 18446744073709551615)], 1, []⟩,
  ⟨0x2200, 1, 1, 0x10, 1, 1, .u8, .ro, 0, [(0, 255)], 1, []⟩,
  ⟨0x2200, 1, 1, 0xFD, 1, 1, .u32, .ro, 0, [(0, 4294967295)], 1, []⟩,
  ⟨0x2200, 1, 1, 0xFE, 1, 1, .u8, .wo, 0, [(1, 2)], 1, []⟩]

/-- Tables 17.9, 18.10: the entries of the index group 0x2210. -/
def rowsDom : List DictRow := [
  ⟨0x2210, 4, 1, 0x0, 1, 1, .u8, .const, 254, [(0, 255)], 1, []⟩,
  ⟨0x2210, 4, 1, 0x1, 1, 1, .u8, .rw, 0, [(0, 2)], 1, [.group]⟩,
  ⟨0x2210, 4, 1, 0x2, 1, 1, .u16, .rw, 0, [(0, 3600)], 1, [.group]⟩,
  ⟨0x2210, 4, 1, 0x3, 1, 1, .u8, .ro, 0, [(0, 2), (255, 255)], 1, [.volatile]⟩,
  ⟨0x2210, 4, 1, 0x4, 1, 1, .u8, .w1c, 0, [(0, 1)], 1, [.volatile]⟩,
  ⟨0x2210, 4, 1, 0x5, 1, 1, .u8, .w1c, 0, [(0, 1)], 1, [.volatile]⟩,
  ⟨0x2210, 4, 1, 0x6, 1, 1, .u64, .w1c, 0, [(0, 18446744073709551615)], 1, []⟩,
  ⟨0x2210, 4, 1, 0x7, 1, 1, .u8, .ro, 0, [(0, 255)], 1, []⟩,
  ⟨0x2210, 4, 1, 0xFD, 1, 1, .u32, .ro, 0, [(0, 4294967295)], 1, []⟩,
  ⟨0x2210, 4, 1, 0xFE, 1, 1, .u8, .wo, 0, [(1, 2)], 1, []⟩]

/-- Table 18.11: the entries of the index group 0x2300. -/
def rowsGate : List DictRow := [
  ⟨0x2300, 6, 1, 0x0, 1, 1, .u8, .const, 128, [(0, 255)], 1, []⟩,
  ⟨0x2300, 6, 1, 0x1, 128, 1, .u32, .rw, 0, [(0, 4294967295)], 1, [.volatile]⟩]

/-- Table 17.9: the entries of the index group 0x2400. -/
def rowsSec : List DictRow := [
  ⟨0x2400, 1, 1, 0x0, 1, 1, .u8, .const, 14, [(0, 255)], 1, []⟩,
  ⟨0x2400, 1, 1, 0x1, 1, 1, .u8, .ro, 0, [(0, 2)], 1, [.allHalls]⟩,
  ⟨0x2400, 1, 1, 0x2, 1, 1, .u8, .wo, 0, [(1, 1)], 1, [.secureOnly]⟩,
  ⟨0x2400, 1, 1, 0x3, 1, 1, (.oct 128), .wo, 0, [], 1, [.volatile]⟩,
  ⟨0x2400, 1, 1, 0x4, 1, 1, .u8, .rws, 0, [(0, 15)], 1, [.volatile]⟩,
  ⟨0x2400, 1, 1, 0x5, 1, 1, (.oct 16), .ro, 0, [], 1, [.volatile]⟩,
  ⟨0x2400, 1, 1, 0x6, 1, 1, (.oct 128), .wo, 0, [], 1, [.volatile]⟩,
  ⟨0x2400, 1, 1, 0x7, 1, 1, .u8, .ro, 0, [(0, 15)], 1, [.volatile]⟩,
  ⟨0x2400, 1, 1, 0x8, 1, 1, .u8, .ro, 0, [(0, 64)], 1, []⟩,
  ⟨0x2400, 1, 1, 0x9, 1, 1, .u8, .wo, 0, [(0, 64)], 1, [.secureOnly]⟩,
  ⟨0x2400, 1, 1, 0xA, 1, 1, .u8, .ro, 0, [(0, 15)], 1, []⟩,
  ⟨0x2400, 1, 1, 0xB, 1, 1, .u8, .wo, 0, [(0, 3)], 1, [.secureOnly]⟩,
  ⟨0x2400, 1, 1, 0xC, 1, 1, .u32, .rws, 1048575, [(0, 4294967295)], 1, [.volatile]⟩,
  ⟨0x2400, 1, 1, 0xD, 1, 1, .u32, .rws, 1048575, [(0, 4294967295)], 1, [.volatile]⟩,
  ⟨0x2400, 1, 1, 0xE, 1, 1, .u32, .rws, 1048575, [(0, 4294967295)], 1, [.volatile]⟩]

/-- Table 17.9: the entries of the index group 0x2410. -/
def rowsLease : List DictRow := [
  ⟨0x2410, 1, 1, 0x0, 1, 1, .u8, .const, 66, [(0, 255)], 1, []⟩,
  ⟨0x2410, 1, 1, 0x1, 64, 1, .u16, .rws, 0, [(0, 1023), (32768, 33791)], 1, [.volatile]⟩,
  ⟨0x2410, 1, 1, 0x41, 1, 1, .u64, .w1c, 0, [(0, 18446744073709551615)], 1, []⟩,
  ⟨0x2410, 1, 1, 0x42, 1, 1, .u8, .ro, 0, [(0, 255)], 1, []⟩]

/-- Table 17.9: the entries of the index group 0x2420. -/
def rowsKey : List DictRow := [
  ⟨0x2420, 32, 1, 0x0, 1, 1, .u8, .const, 254, [(0, 255)], 1, []⟩,
  ⟨0x2420, 32, 1, 0x1, 1, 1, (.oct 48), .wo, 0, [], 1, [.secureOnly, .group]⟩,
  ⟨0x2420, 32, 1, 0x2, 1, 1, .u8, .rws, 0, [(0, 3)], 1, [.group]⟩,
  ⟨0x2420, 32, 1, 0x3, 1, 1, .u8, .ro, 0, [(0, 1)], 1, [.allHalls]⟩,
  ⟨0x2420, 32, 1, 0x4, 1, 1, .u8, .wo, 0, [(1, 1)], 1, [.secureOnly]⟩,
  ⟨0x2420, 32, 1, 0xFD, 1, 1, .u32, .ro, 0, [(0, 4294967295)], 1, []⟩,
  ⟨0x2420, 32, 1, 0xFE, 1, 1, .u8, .wo, 0, [(1, 2)], 1, [.secureOnly]⟩]

/-- Table 17.9: the entries of the index group 0x2440. -/
def rowsSlog : List DictRow := [
  ⟨0x2440, 1, 1, 0x0, 1, 1, .u8, .const, 4, [(0, 255)], 1, []⟩,
  ⟨0x2440, 1, 1, 0x1, 1, 1, (.dom 65536), .ro, 0, [], 1, [.volatile, .secureOnly]⟩,
  ⟨0x2440, 1, 1, 0x2, 1, 1, .u16, .rws, 2000, [(10, 60000)], 1, []⟩,
  ⟨0x2440, 1, 1, 0x3, 1, 1, .u64, .w1c, 0, [(0, 18446744073709551615)], 1, [.keptInSettings]⟩,
  ⟨0x2440, 1, 1, 0x4, 1, 1, .u8, .ro, 0, [(0, 255)], 1, []⟩]

/-- Table 16.11: the entries of the index group 0x2600. -/
def rowsHall : List DictRow := [
  ⟨0x2600, 256, 1, 0x0, 1, 1, .u8, .const, 254, [(0, 255)], 1, []⟩,
  ⟨0x2600, 256, 1, 0x1, 1, 1, .u8, .ro, 0, [(0, 7)], 1, [.volatile]⟩,
  ⟨0x2600, 256, 1, 0x2, 1, 1, .u8, .wo, 0, [(1, 11)], 1, [.volatile]⟩,
  ⟨0x2600, 256, 1, 0x3, 1, 1, .u32, .ro, 0, [(0, 4294967295)], 1, [.volatile]⟩,
  ⟨0x2600, 256, 1, 0x4, 1, 1, .u16, .ro, 0, [(0, 65535)], 1, [.volatile]⟩,
  ⟨0x2600, 256, 1, 0x5, 1, 1, .u8, .ro, 0, [(0, 3)], 1, [.volatile]⟩,
  ⟨0x2600, 256, 1, 0x6, 1, 1, .u8, .rw, 0, [(0, 1)], 1, []⟩,
  ⟨0x2600, 256, 1, 0x10, 1, 1, .u8, .rw, 1, [(0, 4)], 1, [.group]⟩,
  ⟨0x2600, 256, 1, 0x11, 1, 1, .u8, .rw, 1, [(0, 64)], 1, [.group]⟩,
  ⟨0x2600, 256, 1, 0x12, 1, 1, .u8, .rw, 3, [(0, 7)], 1, [.group]⟩,
  ⟨0x2600, 256, 1, 0x13, 1, 1, .u16, .rw, 0, [(0, 1024)], 1, [.group]⟩,
  ⟨0x2600, 256, 1, 0x14, 1, 1, .u8, .rw, 0, [(0, 48)], 1, [.group]⟩,
  ⟨0x2600, 256, 1, 0x15, 1, 1, .u16, .rw, 0, [(0, 256)], 1, [.group]⟩,
  ⟨0x2600, 256, 1, 0x16, 1, 1, .u8, .rw, 0, [(0, 16)], 1, [.group]⟩,
  ⟨0x2600, 256, 1, 0x17, 1, 1, .u16, .rw, 0, [(0, 4096)], 1, [.group]⟩,
  ⟨0x2600, 256, 1, 0x18, 1, 1, .u8, .rw, 0, [(0, 255)], 1, [.group]⟩,
  ⟨0x2600, 256, 1, 0x19, 1, 1, .u8, .rw, 255, [(0, 11), (255, 255)], 1, [.group]⟩,
  ⟨0x2600, 256, 1, 0x1A, 1, 1, .u8, .rw, 0, [(0, 15)], 1, [.group]⟩,
  ⟨0x2600, 256, 1, 0x1B, 1, 1, .u16, .rw, 0, [(0, 60000)], 1, [.group]⟩,
  ⟨0x2600, 256, 1, 0x1C, 1, 1, .u8, .rw, 0, [(0, 1)], 1, [.group]⟩,
  ⟨0x2600, 256, 1, 0x20, 7, 1, .u16, .ro, 0, [(0, 65535)], 1, [.volatile]⟩,
  ⟨0x2600, 256, 1, 0x28, 1, 1, .u64, .w1c, 0, [(0, 18446744073709551615)], 1, []⟩,
  ⟨0x2600, 256, 1, 0x29, 1, 1, .u64, .w1c, 0, [(0, 18446744073709551615)], 1, []⟩,
  ⟨0x2600, 256, 1, 0x2A, 1, 1, .u64, .w1c, 0, [(0, 18446744073709551615)], 1, []⟩,
  ⟨0x2600, 256, 1, 0x2B, 1, 1, .u64, .w1c, 0, [(0, 18446744073709551615)], 1, []⟩,
  ⟨0x2600, 256, 1, 0x2C, 1, 1, .u64, .w1c, 0, [(0, 18446744073709551615)], 1, []⟩,
  ⟨0x2600, 256, 1, 0x2D, 1, 1, .u8, .ro, 0, [(0, 255)], 1, []⟩,
  ⟨0x2600, 256, 1, 0x30, 1, 1, (.dom 16777216), .rw, 0, [], 1, [.volatile]⟩,
  ⟨0x2600, 256, 1, 0x31, 1, 1, (.dom 1048576), .rw, 0, [], 1, [.volatile]⟩,
  ⟨0x2600, 256, 1, 0x32, 1, 1, .u32, .rw, 4096, [(0, 65536)], 1, []⟩,
  ⟨0x2600, 256, 1, 0x33, 1, 1, .u8, .rw, 30, [(1, 100)], 1, []⟩,
  ⟨0x2600, 256, 1, 0x34, 1, 1, .u8, .rw, 0, [(0, 1)], 1, []⟩,
  ⟨0x2600, 256, 1, 0x35, 1, 1, .u32, .ro, 0, [(0, 4294967295)], 1, [.volatile]⟩,
  ⟨0x2600, 256, 1, 0xFD, 1, 1, .u32, .ro, 0, [(0, 4294967295)], 1, []⟩,
  ⟨0x2600, 256, 1, 0xFE, 1, 1, .u8, .wo, 0, [(1, 2)], 1, []⟩]

/-- Table 14.9: the entries of the index group 0x2A01. -/
def rowsIrq : List DictRow := [
  ⟨0x2A01, 1, 1, 0x0, 1, 1, .u8, .const, 254, [(0, 255)], 1, []⟩,
  ⟨0x2A01, 1, 1, 0x1, 1, 1, (.dom 2048), .rw, 0, [], 1, [.group]⟩,
  ⟨0x2A01, 1, 1, 0xFD, 1, 1, .u32, .ro, 0, [(0, 4294967295)], 1, []⟩,
  ⟨0x2A01, 1, 1, 0xFE, 1, 1, .u8, .wo, 0, [(1, 2)], 1, []⟩]

/-- Table 14.9: the entries of the index group 0x2A10. -/
def rowsPair : List DictRow := [
  ⟨0x2A10, 4, 1, 0x0, 1, 1, .u8, .const, 254, [(0, 255)], 1, []⟩,
  ⟨0x2A10, 4, 1, 0x1, 1, 1, .u8, .rw, 0, [(0, 1)], 1, [.group]⟩,
  ⟨0x2A10, 4, 1, 0x2, 1, 1, .u64, .w1c, 0, [(0, 18446744073709551615)], 1, []⟩,
  ⟨0x2A10, 4, 1, 0x3, 1, 1, .u8, .ro, 0, [(0, 2)], 1, [.volatile]⟩,
  ⟨0x2A10, 4, 1, 0x4, 1, 1, .u8, .wo, 0, [(1, 1)], 1, [.volatile]⟩,
  ⟨0x2A10, 4, 1, 0x5, 1, 1, .u8, .ro, 0, [(0, 255)], 1, []⟩,
  ⟨0x2A10, 4, 1, 0xFD, 1, 1, .u32, .ro, 0, [(0, 4294967295)], 1, []⟩,
  ⟨0x2A10, 4, 1, 0xFE, 1, 1, .u8, .wo, 0, [(1, 2)], 1, []⟩]

/-- Table 14.9: the entries of the index group 0x2A20. -/
def rowsCore : List DictRow := [
  ⟨0x2A20, 12, 1, 0x0, 1, 1, .u8, .const, 6, [(0, 255)], 1, []⟩,
  ⟨0x2A20, 12, 1, 0x1, 1, 1, .u8, .rw, 0, [(0, 15)], 1, []⟩,
  ⟨0x2A20, 12, 1, 0x2, 1, 1, .u8, .ro, 0, [(0, 255)], 1, [.volatile]⟩,
  ⟨0x2A20, 12, 1, 0x3, 1, 1, .u64, .w1c, 0, [(0, 18446744073709551615)], 1, []⟩,
  ⟨0x2A20, 12, 1, 0x4, 1, 1, .u64, .w1c, 0, [(0, 18446744073709551615)], 1, []⟩,
  ⟨0x2A20, 12, 1, 0x5, 1, 1, .u64, .w1c, 0, [(0, 18446744073709551615)], 1, []⟩,
  ⟨0x2A20, 12, 1, 0x6, 1, 1, .u8, .ro, 0, [(0, 255)], 1, []⟩]

/-- Table 15.11: the entries of the index group 0x2C00. -/
def rowsMem : List DictRow := [
  ⟨0x2C00, 1, 1, 0x0, 1, 1, .u8, .const, 13, [(0, 255)], 1, []⟩,
  ⟨0x2C00, 1, 1, 0x1, 1, 1, .u16, .ro, 0, [(0, 8192)], 1, []⟩,
  ⟨0x2C00, 1, 1, 0x2, 1, 1, .u16, .rw, 256, [(0, 65535)], 1, []⟩,
  ⟨0x2C00, 1, 1, 0x3, 1, 1, .u16, .ro, 0, [(0, 1024)], 1, []⟩,
  ⟨0x2C00, 1, 1, 0x4, 1, 1, .u8, .rw, 24, [(1, 168)], 1, []⟩,
  ⟨0x2C00, 1, 1, 0x5, 1, 1, .u64, .w1c, 0, [(0, 18446744073709551615)], 1, []⟩,
  ⟨0x2C00, 1, 1, 0x6, 1, 1, .u64, .w1c, 0, [(0, 18446744073709551615)], 1, []⟩,
  ⟨0x2C00, 1, 1, 0x7, 1, 1, .u64, .w1c, 0, [(0, 18446744073709551615)], 1, []⟩,
  ⟨0x2C00, 1, 1, 0x8, 1, 1, .u64, .w1c, 0, [(0, 18446744073709551615)], 1, []⟩,
  ⟨0x2C00, 1, 1, 0x9, 1, 1, .u64, .w1c, 0, [(0, 18446744073709551615)], 1, []⟩,
  ⟨0x2C00, 1, 1, 0xA, 1, 1, .u64, .w1c, 0, [(0, 18446744073709551615)], 1, []⟩,
  ⟨0x2C00, 1, 1, 0xB, 1, 1, .u64, .ro, 0, [(0, 18446744073709551615)], 1, [.volatile]⟩,
  ⟨0x2C00, 1, 1, 0xC, 1, 1, .u64, .ro, 0, [(0, 18446744073709551615)], 1, [.volatile]⟩,
  ⟨0x2C00, 1, 1, 0xD, 1, 1, .u8, .ro, 0, [(0, 255)], 1, []⟩]

/-- Table 15.11: the entries of the index group 0x2C01. -/
def rowsDwin : List DictRow := [
  ⟨0x2C01, 1, 1, 0x0, 1, 1, .u8, .const, 254, [(0, 255)], 1, []⟩,
  ⟨0x2C01, 1, 1, 0x1, 9, 1, .u64, .rw, 4294967296, [(4294967296, 12616466432)], 268435456, [.group]⟩,
  ⟨0x2C01, 1, 1, 0xA, 1, 1, .u64, .rws, 4294967296, [(4294967296, 12616466432)], 268435456, [.group]⟩,
  ⟨0x2C01, 1, 1, 0xFD, 1, 1, .u32, .ro, 0, [(0, 4294967295)], 1, []⟩,
  ⟨0x2C01, 1, 1, 0xFE, 1, 1, .u8, .wo, 0, [(1, 2)], 1, []⟩]

/-- Table 15.11: the entries of the index group 0x2C10. -/
def rowsHeng : List DictRow := [
  ⟨0x2C10, 4, 1, 0x0, 1, 1, .u8, .const, 254, [(0, 255)], 1, []⟩,
  ⟨0x2C10, 4, 1, 0x1, 1, 1, .u8, .rw, 1, [(0, 1)], 1, []⟩,
  ⟨0x2C10, 4, 1, 0x2, 1, 1, .u8, .ro, 1, [(0, 2)], 1, [.volatile]⟩,
  ⟨0x2C10, 4, 1, 0x3, 1, 1, .u16, .rw, 5, [(0, 1000)], 1, []⟩,
  ⟨0x2C10, 4, 1, 0x4, 1, 1, .u16, .rw, 65535, [(0, 255), (65535, 65535)], 1, [.group]⟩,
  ⟨0x2C10, 4, 1, 0x5, 1, 1, .u64, .w1c, 0, [(0, 18446744073709551615)], 1, []⟩,
  ⟨0x2C10, 4, 1, 0x6, 1, 1, .u8, .ro, 0, [(0, 255)], 1, []⟩,
  ⟨0x2C10, 4, 1, 0xFD, 1, 1, .u32, .ro, 0, [(0, 4294967295)], 1, []⟩,
  ⟨0x2C10, 4, 1, 0xFE, 1, 1, .u8, .wo, 0, [(1, 2)], 1, []⟩]

/-- Table 15.11: the entries of the index group 0x2C18. -/
def rowsH0qp : List DictRow := [
  ⟨0x2C18, 1, 1, 0x0, 1, 1, .u8, .const, 254, [(0, 255)], 1, []⟩,
  ⟨0x2C18, 1, 1, 0x1, 1, 1, .u16, .rw, 65535, [(0, 255), (65535, 65535)], 1, [.group]⟩,
  ⟨0x2C18, 1, 1, 0xFD, 1, 1, .u32, .ro, 0, [(0, 4294967295)], 1, []⟩,
  ⟨0x2C18, 1, 1, 0xFE, 1, 1, .u8, .wo, 0, [(1, 2)], 1, []⟩]

/-- Table 15.11: the entries of the index group 0x2C40. -/
def rowsDma : List DictRow := [
  ⟨0x2C40, 64, 1, 0x0, 1, 1, .u8, .const, 254, [(0, 255)], 1, []⟩,
  ⟨0x2C40, 64, 1, 0x1, 1, 1, .u8, .rw, 0, [(0, 1)], 1, []⟩,
  ⟨0x2C40, 64, 1, 0x2, 1, 1, .u8, .ro, 0, [(0, 2)], 1, [.volatile]⟩,
  ⟨0x2C40, 64, 1, 0x3, 1, 1, .u16, .rw, 5, [(0, 1000)], 1, []⟩,
  ⟨0x2C40, 64, 1, 0x4, 1, 1, .u8, .rw, 0, [(0, 255)], 1, [.group]⟩,
  ⟨0x2C40, 64, 1, 0x5, 1, 1, .u8, .rw, 0, [(0, 7)], 1, [.group]⟩,
  ⟨0x2C40, 64, 1, 0x6, 1, 1, .u8, .rw, 0, [(0, 1)], 1, [.group]⟩,
  ⟨0x2C40, 64, 1, 0x10, 1, 1, .u16, .ro, 0, [(0, 65535)], 1, [.volatile]⟩,
  ⟨0x2C40, 64, 1, 0x11, 1, 1, .u64, .w1c, 0, [(0, 18446744073709551615)], 1, []⟩,
  ⟨0x2C40, 64, 1, 0x12, 1, 1, .u64, .w1c, 0, [(0, 18446744073709551615)], 1, []⟩,
  ⟨0x2C40, 64, 1, 0x13, 1, 1, .u64, .w1c, 0, [(0, 18446744073709551615)], 1, []⟩,
  ⟨0x2C40, 64, 1, 0x14, 1, 1, .u64, .w1c, 0, [(0, 18446744073709551615)], 1, []⟩,
  ⟨0x2C40, 64, 1, 0x15, 1, 1, .u64, .w1c, 0, [(0, 18446744073709551615)], 1, []⟩,
  ⟨0x2C40, 64, 1, 0x16, 1, 1, .u8, .ro, 0, [(0, 255)], 1, []⟩,
  ⟨0x2C40, 64, 1, 0xFD, 1, 1, .u32, .ro, 0, [(0, 4294967295)], 1, []⟩,
  ⟨0x2C40, 64, 1, 0xFE, 1, 1, .u8, .wo, 0, [(1, 2)], 1, []⟩]

/-- Table 15.11: the entries of the index group 0x2D00. -/
def rowsIommu : List DictRow := [
  ⟨0x2D00, 256, 1, 0x0, 1, 1, .u8, .const, 254, [(0, 255)], 1, []⟩,
  ⟨0x2D00, 256, 1, 0x1, 1, 1, (.dom 512), .rw, 0, [], 1, [.group]⟩,
  ⟨0x2D00, 256, 1, 0xFD, 1, 1, .u32, .ro, 0, [(0, 4294967295)], 1, []⟩,
  ⟨0x2D00, 256, 1, 0xFE, 1, 1, .u8, .wo, 0, [(1, 2)], 1, []⟩]

/-- Table 15.11: the entries of the index group 0x2E00. -/
def rowsQp : List DictRow := [
  ⟨0x2E00, 256, 1, 0x0, 1, 1, .u8, .const, 254, [(0, 255)], 1, []⟩,
  ⟨0x2E00, 256, 1, 0x1, 1, 1, .u8, .rw, 0, [(0, 1)], 1, []⟩,
  ⟨0x2E00, 256, 1, 0x2, 1, 1, .u8, .ro, 0, [(0, 2)], 1, [.volatile]⟩,
  ⟨0x2E00, 256, 1, 0x3, 1, 1, .u16, .rw, 5, [(0, 1000)], 1, []⟩,
  ⟨0x2E00, 256, 1, 0x4, 1, 1, .u8, .rw, 0, [(0, 255)], 1, [.group]⟩,
  ⟨0x2E00, 256, 1, 0x5, 1, 1, .u8, .rw, 48, [(48, 51)], 1, [.group]⟩,
  ⟨0x2E00, 256, 1, 0x6, 1, 1, (.oct 6), .rw, 0, [], 1, [.group]⟩,
  ⟨0x2E00, 256, 1, 0x10, 1, 1, .u16, .ro, 0, [(0, 65535)], 1, [.volatile]⟩,
  ⟨0x2E00, 256, 1, 0x11, 1, 1, .u64, .w1c, 0, [(0, 18446744073709551615)], 1, []⟩,
  ⟨0x2E00, 256, 1, 0x12, 1, 1, .u64, .w1c, 0, [(0, 18446744073709551615)], 1, []⟩,
  ⟨0x2E00, 256, 1, 0x13, 1, 1, .u64, .w1c, 0, [(0, 18446744073709551615)], 1, []⟩,
  ⟨0x2E00, 256, 1, 0x14, 1, 1, .u64, .w1c, 0, [(0, 18446744073709551615)], 1, []⟩,
  ⟨0x2E00, 256, 1, 0x15, 1, 1, .u64, .w1c, 0, [(0, 18446744073709551615)], 1, []⟩,
  ⟨0x2E00, 256, 1, 0x16, 1, 1, .u64, .w1c, 0, [(0, 18446744073709551615)], 1, []⟩,
  ⟨0x2E00, 256, 1, 0x17, 1, 1, .u8, .ro, 0, [(0, 255)], 1, []⟩,
  ⟨0x2E00, 256, 1, 0xFD, 1, 1, .u32, .ro, 0, [(0, 4294967295)], 1, []⟩,
  ⟨0x2E00, 256, 1, 0xFE, 1, 1, .u8, .wo, 0, [(1, 2)], 1, []⟩]

/-- Table 5.12: the entries of the index group 0x3000. -/
def rowsPcfg : List DictRow := [
  ⟨0x3000, 54, 1, 0x0, 1, 1, .u8, .const, 254, [(0, 255)], 1, []⟩,
  ⟨0x3000, 24, 1, 0x1, 1, 1, .u8, .rw, 2, [(1, 2)], 1, [.group]⟩,
  ⟨0x3000, 54, 1, 0x2, 1, 1, .u8, .rw, 1, [(0, 1)], 1, [.group]⟩,
  ⟨0x3000, 54, 1, 0x3, 1, 1, .u8, .rw, 0, [(0, 1)], 1, [.group]⟩,
  ⟨0x3000, 54, 1, 0x4, 1, 1, .u8, .rw, 10, [(0, 100)], 1, [.group]⟩,
  ⟨0x3000, 54, 1, 0x5, 1, 1, .u16, .rw, 0, [(0, 1000)], 1, [.group]⟩,
  ⟨0x3000, 54, 1, 0x6, 1, 1, .u16, .rw, 1, [(1, 4094)], 1, [.group]⟩,
  ⟨0x3000, 54, 1, 0x7, 1, 1, .u8, .rw, 0, [(0, 2)], 1, [.group]⟩,
  ⟨0x3000, 54, 1, 0x8, 1, 1, .u8, .rw, 1, [(0, 1)], 1, [.group]⟩,
  ⟨0x3000, 54, 1, 0x9, 1, 1, .u8, .rw, 0, [(0, 7)], 1, [.group]⟩,
  ⟨0x3000, 54, 1, 0xA, 1, 1, .u32, .rw, 1985229328, [(0, 4294967295)], 1, [.group]⟩,
  ⟨0x3000, 54, 1, 0xB, 1, 1, .u8, .rw, 1, [(0, 1)], 1, [.group]⟩,
  ⟨0x3000, 54, 1, 0xC, 1, 1, .u16, .rw, 0, [(0, 32768)], 1, [.group]⟩,
  ⟨0x3000, 54, 1, 0xD, 1, 1, .u8, .rw, 1, [(0, 1)], 1, [.group]⟩,
  ⟨0x3000, 24, 1, 0xE, 1, 1, .u32, .rw, 20000, [(0, 10000000)], 1, [.group]⟩,
  ⟨0x3000, 54, 1, 0xF, 1, 1, .u32, .rw, 32768, [(2048, 1048576)], 1, [.group]⟩,
  ⟨0x3000, 54, 1, 0x10, 1, 1, .u8, .rw, 0, [(0, 254)], 1, [.group]⟩,
  ⟨0x3000, 54, 1, 0x11, 1, 1, .u8, .rw, 8, [(1, 255)], 1, [.group]⟩,
  ⟨0x3000, 54, 1, 0x12, 1, 1, .u8, .rw, 32, [(1, 255)], 1, [.group]⟩,
  ⟨0x3000, 54, 1, 0x13, 1, 1, .u8, .rw, 0, [(0, 255)], 1, [.group]⟩,
  ⟨0x3000, 54, 1, 0x14, 1, 1, .u8, .rw, 128, [(0, 255)], 1, [.group]⟩,
  ⟨0x3000, 24, 1, 0x20, 1, 1, .u8, .const, 0, [(0, 4)], 1, []⟩,
  ⟨0x3000, 24, 1, 0x21, 1, 1, .u16, .const, 2048, [(0, 65535)], 1, []⟩,
  ⟨0x3000, 54, 1, 0xFD, 1, 1, .u32, .ro, 0, [(0, 4294967295)], 1, []⟩,
  ⟨0x3000, 54, 1, 0xFE, 1, 1, .u8, .wo, 0, [(1, 2)], 1, []⟩,
  ⟨0x3018, 16, 1, 0x1, 1, 1, .u8, .rw, 3, [(3, 4)], 1, [.group]⟩,
  ⟨0x3018, 16, 1, 0xE, 1, 1, .u32, .rw, 1000, [(0, 10000000)], 1, [.group]⟩,
  ⟨0x3018, 16, 1, 0x20, 1, 1, .u8, .const, 1, [(0, 4)], 1, []⟩,
  ⟨0x3018, 16, 1, 0x21, 1, 1, .u16, .const, 2048, [(0, 65535)], 1, []⟩,
  ⟨0x3028, 8, 1, 0x1, 1, 1, .u8, .rw, 7, [(5, 7)], 1, [.group]⟩,
  ⟨0x3028, 14, 1, 0xE, 1, 1, .u32, .rw, 20000, [(0, 10000000)], 1, [.group]⟩,
  ⟨0x3028, 8, 1, 0x20, 1, 1, .u8, .const, 2, [(0, 4)], 1, []⟩,
  ⟨0x3028, 14, 1, 0x21, 1, 1, .u16, .const, 9216, [(0, 65535)], 1, []⟩,
  ⟨0x3030, 4, 1, 0x1, 1, 1, .u8, .rw, 8, [(8, 8)], 1, [.group]⟩,
  ⟨0x3030, 4, 1, 0x20, 1, 1, .u8, .const, 3, [(0, 4)], 1, []⟩,
  ⟨0x3034, 2, 1, 0x1, 1, 1, .u8, .rw, 9, [(9, 9)], 1, [.group]⟩,
  ⟨0x3034, 2, 1, 0x20, 1, 1, .u8, .const, 4, [(0, 4)], 1, []⟩]

/-- Table 4.6: the entries of the index group 0x3400. -/
def rowsSwc : List DictRow := [
  ⟨0x3400, 1, 1, 0x0, 1, 1, .u8, .const, 254, [(0, 255)], 1, []⟩,
  ⟨0x3400, 1, 1, 0x1, 1, 1, .u8, .rw, 1, [(0, 1)], 1, [.group]⟩,
  ⟨0x3400, 1, 1, 0x2, 1, 1, .u16, .rw, 2048, [(512, 8192)], 1, [.group]⟩,
  ⟨0x3400, 1, 1, 0x4, 1, 1, .u32, .ro, 81728, [(0, 4294967295)], 1, [.volatile]⟩,
  ⟨0x3400, 1, 1, 0x5, 1, 1, .u32, .ro, 0, [(0, 98304)], 1, [.volatile]⟩,
  ⟨0x3400, 1, 1, 0x6, 1, 1, .u32, .ro, 0, [(0, 4294967295)], 1, [.volatile]⟩,
  ⟨0x3400, 1, 1, 0x7, 1, 1, .u32, .ro, 0, [(0, 131072)], 1, [.volatile]⟩,
  ⟨0x3400, 1, 1, 0x8, 1, 1, .u16, .ro, 0, [(0, 1024)], 1, [.volatile]⟩,
  ⟨0x3400, 1, 1, 0x9, 1, 1, .u16, .ro, 0, [(0, 256)], 1, [.volatile]⟩,
  ⟨0x3400, 1, 1, 0xA, 1, 1, .u32, .const, 98304, [(0, 4294967295)], 1, []⟩,
  ⟨0x3400, 1, 1, 0xB, 1, 1, .u32, .const, 131072, [(0, 4294967295)], 1, []⟩,
  ⟨0x3400, 1, 1, 0xFD, 1, 1, .u32, .ro, 0, [(0, 4294967295)], 1, []⟩,
  ⟨0x3400, 1, 1, 0xFE, 1, 1, .u8, .wo, 0, [(1, 2)], 1, []⟩]

/-- Table 4.6: the entries of the index group 0x3401. -/
def rowsStw : List DictRow := [
  ⟨0x3401, 1, 1, 0x0, 1, 1, .u8, .const, 6, [(0, 255)], 1, []⟩,
  ⟨0x3401, 1, 1, 0x1, 1, 1, .u32, .ro, 0, [(1048576, 16777216)], 1, []⟩,
  ⟨0x3401, 1, 1, 0x2, 1, 1, .u32, .ro, 0, [(0, 4294967295)], 1, [.volatile]⟩,
  ⟨0x3401, 1, 1, 0x3, 1, 1, .u16, .ro, 0, [(0, 12000)], 1, [.volatile]⟩,
  ⟨0x3401, 1, 1, 0x4, 1, 1, .u16, .ro, 0, [(0, 65535)], 1, [.volatile]⟩,
  ⟨0x3401, 1, 1, 0x5, 1, 1, .u64, .w1c, 0, [(0, 18446744073709551615)], 1, []⟩,
  ⟨0x3401, 1, 1, 0x6, 1, 1, .u8, .ro, 0, [(0, 255)], 1, []⟩]

/-- Table 4.7: the entries of the index group 0x3402. -/
def rowsCls : List DictRow := [
  ⟨0x3402, 9, 1, 0x0, 1, 1, .u8, .const, 254, [(0, 255)], 1, []⟩,
  ⟨0x3402, 8, 1, 0x1, 1, 1, .u8, .rw, 4, [(0, 7)], 1, [.group]⟩,
  ⟨0x3402, 9, 1, 0x2, 1, 1, .u16, .rw, 50, [(1, 60000)], 1, [.group]⟩,
  ⟨0x3402, 8, 1, 0x3, 1, 1, .u8, .rw, 0, [(0, 1)], 1, [.group]⟩,
  ⟨0x3402, 4, 1, 0x4, 1, 1, .u8, .rw, 1, [(0, 1)], 1, [.group]⟩,
  ⟨0x3402, 8, 1, 0x5, 1, 1, .u32, .rw, 262144, [(0, 16777216)], 1, [.group]⟩,
  ⟨0x3402, 9, 1, 0x6, 1, 1, .u16, .rw, 10, [(0, 1000)], 1, [.group]⟩,
  ⟨0x3402, 9, 1, 0xFD, 1, 1, .u32, .ro, 0, [(0, 4294967295)], 1, []⟩,
  ⟨0x3402, 9, 1, 0xFE, 1, 1, .u8, .wo, 0, [(1, 2)], 1, []⟩,
  ⟨0x3406, 4, 1, 0x4, 1, 1, .u8, .rw, 0, [(0, 1)], 1, [.group]⟩]

/-- Table 4.8: the entries of the index group 0x3440. -/
def rowsPbuf : List DictRow := [
  ⟨0x3440, 54, 1, 0x0, 1, 1, .u8, .const, 254, [(0, 255)], 1, []⟩,
  ⟨0x3440, 40, 1, 0x1, 1, 1, .u16, .rw, 64, [(0, 0), (32, 2048)], 1, [.group]⟩,
  ⟨0x3440, 54, 1, 0x2, 1, 1, .u32, .rw, 0, [(0, 98304)], 1, [.group]⟩,
  ⟨0x3440, 54, 1, 0x3, 1, 1, .u8, .rw, 1, [(0, 1)], 1, [.group]⟩,
  ⟨0x3440, 54, 1, 0x10, 8, 1, .u16, .rw, 16, [(0, 4096)], 1, [.group]⟩,
  ⟨0x3440, 54, 1, 0x18, 1, 1, .u16, .rw, 128, [(32, 1024)], 1, [.group]⟩,
  ⟨0x3440, 54, 1, 0xFD, 1, 1, .u32, .ro, 0, [(0, 4294967295)], 1, []⟩,
  ⟨0x3440, 54, 1, 0xFE, 1, 1, .u8, .wo, 0, [(1, 2)], 1, []⟩,
  ⟨0x3468, 14, 1, 0x1, 1, 1, .u16, .rw, 288, [(0, 0), (144, 2048)], 1, [.group]⟩]

/-- Table 4.9: the entries of the index group 0x3480. -/
def rowsPq : List DictRow := [
  ⟨0x3480, 54, 1, 0x0, 1, 1, .u8, .const, 154, [(0, 255)], 1, []⟩,
  ⟨0x3480, 54, 1, 0x1, 9, 16, .u32, .ro, 0, [(0, 4294967295)], 1, [.volatile]⟩,
  ⟨0x3480, 54, 1, 0x2, 9, 16, .u32, .ro, 0, [(0, 4294967295)], 1, [.volatile]⟩,
  ⟨0x3480, 54, 1, 0x3, 9, 16, .u8, .ro, 0, [(0, 255)], 1, [.volatile]⟩,
  ⟨0x3480, 48, 1, 0x4, 9, 16, .u8, .rw, 1, [(0, 1)], 1, []⟩,
  ⟨0x3480, 54, 1, 0x5, 9, 16, .u8, .ro, 1, [(0, 2)], 1, [.volatile]⟩,
  ⟨0x3480, 48, 1, 0x6, 9, 16, .u8, .wo, 0, [(1, 1)], 1, [.volatile]⟩,
  ⟨0x3480, 54, 1, 0x7, 9, 16, .u64, .w1c, 0, [(0, 18446744073709551615)], 1, []⟩,
  ⟨0x3480, 54, 1, 0x8, 9, 16, .u64, .w1c, 0, [(0, 18446744073709551615)], 1, []⟩,
  ⟨0x3480, 54, 1, 0x9, 9, 16, .u64, .w1c, 0, [(0, 18446744073709551615)], 1, []⟩,
  ⟨0x3480, 54, 1, 0xA, 9, 16, .u64, .w1c, 0, [(0, 18446744073709551615)], 1, []⟩,
  ⟨0x3480, 54, 1, 0xB, 9, 16, .u64, .w1c, 0, [(0, 18446744073709551615)], 1, []⟩,
  ⟨0x3480, 54, 1, 0xC, 9, 16, .u64, .w1c, 0, [(0, 18446744073709551615)], 1, []⟩,
  ⟨0x3480, 54, 1, 0xD, 9, 16, .u64, .w1c, 0, [(0, 18446744073709551615)], 1, []⟩,
  ⟨0x3480, 54, 1, 0x91, 1, 1, .u64, .ro, 0, [(0, 18446744073709551615)], 1, []⟩,
  ⟨0x3480, 54, 1, 0x92, 1, 1, .u16, .ro, 0, [(0, 65535)], 1, [.volatile]⟩,
  ⟨0x3480, 54, 1, 0x93, 1, 1, .u64, .w1c, 0, [(0, 18446744073709551615)], 1, []⟩,
  ⟨0x3480, 54, 1, 0x94, 1, 1, .u64, .w1c, 0, [(0, 18446744073709551615)], 1, []⟩,
  ⟨0x3480, 54, 1, 0x95, 1, 1, .u64, .w1c, 0, [(0, 18446744073709551615)], 1, []⟩,
  ⟨0x3480, 54, 1, 0x96, 1, 1, .u64, .w1c, 0, [(0, 18446744073709551615)], 1, []⟩,
  ⟨0x3480, 54, 1, 0x97, 1, 1, .u64, .w1c, 0, [(0, 18446744073709551615)], 1, []⟩,
  ⟨0x3480, 54, 1, 0x98, 1, 1, .u64, .w1c, 0, [(0, 18446744073709551615)], 1, []⟩,
  ⟨0x3480, 54, 1, 0x99, 1, 1, .u64, .w1c, 0, [(0, 18446744073709551615)], 1, []⟩,
  ⟨0x3480, 54, 1, 0x9A, 1, 1, .u8, .ro, 0, [(0, 255)], 1, []⟩,
  ⟨0x34B0, 4, 1, 0x4, 9, 16, .u8, .rw, 1, [(0, 1)], 1, [.owningHall]⟩,
  ⟨0x34B0, 4, 1, 0x6, 9, 16, .u8, .wo, 0, [(1, 1)], 1, [.volatile, .owningHall]⟩,
  ⟨0x34B4, 2, 1, 0x4, 9, 16, .u8, .rw, 1, [(0, 1)], 1, []⟩,
  ⟨0x34B4, 2, 1, 0x6, 9, 16, .u8, .wo, 0, [(1, 1)], 1, [.volatile]⟩]

/-- Table 5.13: the entries of the index group 0x3500. -/
def rowsFwd : List DictRow := [
  ⟨0x3500, 1, 1, 0x0, 1, 1, .u8, .const, 254, [(0, 255)], 1, []⟩,
  ⟨0x3500, 1, 1, 0x1, 1, 1, .u32, .rw, 300, [(10, 1000000)], 1, [.group]⟩,
  ⟨0x3500, 1, 1, 0x2, 1, 1, .u8, .rw, 1, [(0, 1)], 1, [.group]⟩,
  ⟨0x3500, 1, 1, 0x3, 1, 1, .u16, .rw, 34997, [(1536, 2047), (2049, 2053), (2055, 8943), (8945, 33023), (33025, 34524), (34526, 34983), (34985, 35062), (35064, 61888), (61890, 65535)], 1, [.group]⟩,
  ⟨0x3500, 1, 1, 0x4, 1, 1, (.oct 6), .const, 0, [], 1, []⟩,
  ⟨0x3500, 1, 1, 0xFD, 1, 1, .u32, .ro, 0, [(0, 4294967295)], 1, []⟩,
  ⟨0x3500, 1, 1, 0xFE, 1, 1, .u8, .wo, 0, [(1, 2)], 1, []⟩]

/-- Table 5.14: the entries of the index group 0x3501. -/
def rowsTbl : List DictRow := [
  ⟨0x3501, 1, 1, 0x0, 1, 1, .u8, .const, 254, [(0, 255)], 1, []⟩,
  ⟨0x3501, 1, 1, 0x1, 1, 1, (.dom 65536), .rw, 0, [], 1, [.group]⟩,
  ⟨0x3501, 1, 1, 0x2, 1, 1, (.dom 16384), .rw, 0, [], 1, [.group]⟩,
  ⟨0x3501, 1, 1, 0x3, 1, 1, (.dom 65536), .rw, 0, [], 1, [.group]⟩,
  ⟨0x3501, 1, 1, 0x4, 1, 1, (.dom 65536), .rw, 0, [], 1, [.group]⟩,
  ⟨0x3501, 1, 1, 0xFD, 1, 1, .u32, .ro, 0, [(0, 4294967295)], 1, []⟩,
  ⟨0x3501, 1, 1, 0xFE, 1, 1, .u8, .wo, 0, [(1, 2)], 1, []⟩]

/-- Table 5.15: the entries of the index group 0x3502. -/
def rowsFwds : List DictRow := [
  ⟨0x3502, 1, 1, 0x0, 1, 1, .u8, .const, 9, [(0, 255)], 1, []⟩,
  ⟨0x3502, 1, 1, 0x1, 1, 1, .u16, .ro, 0, [(0, 32768)], 1, [.volatile]⟩,
  ⟨0x3502, 1, 1, 0x2, 1, 1, .u16, .ro, 0, [(0, 4096)], 1, []⟩,
  ⟨0x3502, 1, 1, 0x3, 1, 1, .u64, .w1c, 0, [(0, 18446744073709551615)], 1, []⟩,
  ⟨0x3502, 1, 1, 0x4, 1, 1, .u8, .wo, 0, [(0, 53), (255, 255)], 1, [.volatile]⟩,
  ⟨0x3502, 1, 1, 0x5, 1, 1, (.dom 524288), .ro, 0, [], 1, []⟩,
  ⟨0x3502, 1, 1, 0x6, 1, 1, (.dom 131072), .ro, 0, [], 1, []⟩,
  ⟨0x3502, 1, 1, 0x7, 1, 1, .u16, .wo, 0, [(0, 2047), (65535, 65535)], 1, [.volatile]⟩,
  ⟨0x3502, 1, 1, 0x8, 1, 1, .u16, .wo, 0, [(0, 2047), (65535, 65535)], 1, [.volatile]⟩,
  ⟨0x3502, 1, 1, 0x9, 1, 1, .u8, .ro, 0, [(0, 255)], 1, []⟩]

/-- Table 5.16: the entries of the index group 0x3540. -/
def rowsGcl : List DictRow := [
  ⟨0x3540, 48, 1, 0x0, 1, 1, .u8, .const, 254, [(0, 255)], 1, []⟩,
  ⟨0x3540, 48, 1, 0x1, 1, 1, .u8, .rw, 0, [(0, 1)], 1, [.group]⟩,
  ⟨0x3540, 48, 1, 0x2, 1, 1, .u64, .rw, 0, [(0, 18446744073709551615)], 1, [.group]⟩,
  ⟨0x3540, 48, 1, 0x3, 1, 1, .u32, .rw, 1000000, [(10000, 1000000000)], 1, [.group]⟩,
  ⟨0x3540, 48, 1, 0x4, 1, 1, .u32, .rw, 0, [(0, 1000000)], 1, [.group]⟩,
  ⟨0x3540, 48, 1, 0x5, 1, 1, .u16, .rw, 1, [(1, 1024)], 1, [.group]⟩,
  ⟨0x3540, 48, 1, 0x6, 1, 1, (.dom 4096), .rw, 0, [], 1, [.group]⟩,
  ⟨0x3540, 48, 1, 0x7, 1, 1, .u8, .rw, 255, [(0, 255)], 1, [.group]⟩,
  ⟨0x3540, 48, 1, 0x10, 1, 1, .u64, .ro, 0, [(0, 18446744073709551615)], 1, [.volatile]⟩,
  ⟨0x3540, 48, 1, 0x11, 1, 1, .u32, .ro, 0, [(0, 4294967295)], 1, [.volatile]⟩,
  ⟨0x3540, 48, 1, 0x12, 1, 1, .u16, .ro, 0, [(0, 65535)], 1, [.volatile]⟩,
  ⟨0x3540, 48, 1, 0x13, 1, 1, (.dom 4096), .ro, 0, [], 1, [.volatile]⟩,
  ⟨0x3540, 48, 1, 0x14, 1, 1, .u8, .ro, 0, [(0, 1)], 1, [.volatile]⟩,
  ⟨0x3540, 48, 1, 0x15, 1, 1, .u64, .ro, 0, [(0, 18446744073709551615)], 1, [.volatile]⟩,
  ⟨0x3540, 48, 1, 0xFD, 1, 1, .u32, .ro, 0, [(0, 4294967295)], 1, []⟩,
  ⟨0x3540, 48, 1, 0xFE, 1, 1, .u8, .wo, 0, [(1, 2)], 1, []⟩]

/-- Table 5.17: the entries of the index group 0x3580. -/
def rowsPort : List DictRow := [
  ⟨0x3580, 54, 1, 0x0, 1, 1, .u8, .const, 31, [(0, 255)], 1, []⟩,
  ⟨0x3580, 54, 1, 0x1, 1, 1, .u8, .rw, 1, [(0, 1)], 1, []⟩,
  ⟨0x3580, 54, 1, 0x2, 1, 1, .u8, .ro, 1, [(0, 2)], 1, [.volatile]⟩,
  ⟨0x3580, 54, 1, 0x3, 1, 1, .u16, .rw, 10, [(0, 1000)], 1, []⟩,
  ⟨0x3580, 54, 1, 0x4, 1, 1, .u8, .ro, 0, [(0, 3)], 1, [.volatile]⟩,
  ⟨0x3580, 54, 1, 0x5, 1, 1, .u16, .ro, 0, [(0, 65535)], 1, [.volatile]⟩,
  ⟨0x3580, 54, 1, 0x10, 1, 1, .u64, .w1c, 0, [(0, 18446744073709551615)], 1, []⟩,
  ⟨0x3580, 54, 1, 0x11, 1, 1, .u64, .w1c, 0, [(0, 18446744073709551615)], 1, []⟩,
  ⟨0x3580, 54, 1, 0x12, 1, 1, .u64, .w1c, 0, [(0, 18446744073709551615)], 1, []⟩,
  ⟨0x3580, 54, 1, 0x13, 1, 1, .u64, .w1c, 0, [(0, 18446744073709551615)], 1, []⟩,
  ⟨0x3580, 54, 1, 0x14, 1, 1, .u64, .w1c, 0, [(0, 18446744073709551615)], 1, []⟩,
  ⟨0x3580, 54, 1, 0x15, 1, 1, .u64, .w1c, 0, [(0, 18446744073709551615)], 1, []⟩,
  ⟨0x3580, 54, 1, 0x16, 1, 1, .u64, .w1c, 0, [(0, 18446744073709551615)], 1, []⟩,
  ⟨0x3580, 54, 1, 0x17, 1, 1, .u64, .w1c, 0, [(0, 18446744073709551615)], 1, []⟩,
  ⟨0x3580, 54, 1, 0x18, 1, 1, .u64, .w1c, 0, [(0, 18446744073709551615)], 1, []⟩,
  ⟨0x3580, 54, 1, 0x19, 1, 1, .u64, .w1c, 0, [(0, 18446744073709551615)], 1, []⟩,
  ⟨0x3580, 54, 1, 0x1A, 1, 1, .u64, .w1c, 0, [(0, 18446744073709551615)], 1, []⟩,
  ⟨0x3580, 54, 1, 0x1B, 1, 1, .u64, .w1c, 0, [(0, 18446744073709551615)], 1, []⟩,
  ⟨0x3580, 54, 1, 0x1C, 1, 1, .u64, .w1c, 0, [(0, 18446744073709551615)], 1, []⟩,
  ⟨0x3580, 54, 1, 0x1D, 1, 1, .u64, .w1c, 0, [(0, 18446744073709551615)], 1, []⟩,
  ⟨0x3580, 54, 1, 0x1E, 1, 1, .u64, .w1c, 0, [(0, 18446744073709551615)], 1, []⟩,
  ⟨0x3580, 54, 1, 0x1F, 1, 1, .u16, .ro, 0, [(0, 65535)], 1, []⟩]

/-- Table 6.6: the entries of the index group 0x3600. -/
def rowsTime : List DictRow := [
  ⟨0x3600, 1, 1, 0x0, 1, 1, .u8, .const, 11, [(0, 255)], 1, []⟩,
  ⟨0x3600, 1, 1, 0x1, 1, 1, .u8, .ro, 0, [(0, 3)], 1, [.volatile, .allHalls]⟩,
  ⟨0x3600, 1, 1, 0x2, 1, 1, .u8, .ro, 0, [(0, 255)], 1, [.volatile, .allHalls]⟩,
  ⟨0x3600, 1, 1, 0x3, 1, 1, .i64, .ro, 0, [(-9223372036854775808, 9223372036854775807)], 1, [.volatile]⟩,
  ⟨0x3600, 1, 1, 0x4, 1, 1, .i32, .ro, 0, [(-2147483648, 2147483647)], 1, [.volatile]⟩,
  ⟨0x3600, 1, 1, 0x5, 1, 1, .u64, .w1c, 0, [(0, 18446744073709551615)], 1, []⟩,
  ⟨0x3600, 1, 1, 0x6, 1, 1, .u64, .ro, 0, [(0, 18446744073709551615)], 1, [.volatile, .allHalls]⟩,
  ⟨0x3600, 1, 1, 0x7, 1, 1, .u64, .ro, 0, [(0, 18446744073709551615)], 1, [.volatile, .allHalls]⟩,
  ⟨0x3600, 1, 1, 0x8, 1, 1, .i32, .ro, 0, [(-2147483648, 2147483647)], 1, [.volatile]⟩,
  ⟨0x3600, 1, 1, 0x9, 1, 1, .u8, .ro, 0, [(0, 255)], 1, []⟩,
  ⟨0x3600, 1, 1, 0xA, 1, 1, .u64, .wo, 0, [(0, 18446744073709551615)], 1, [.volatile]⟩,
  ⟨0x3600, 1, 1, 0xB, 1, 1, (.oct 8), .ro, 0, [], 1, [.volatile]⟩]

/-- Table 6.6: the entries of the index group 0x3601. -/
def rowsProf : List DictRow := [
  ⟨0x3601, 1, 1, 0x0, 1, 1, .u8, .const, 254, [(0, 255)], 1, []⟩,
  ⟨0x3601, 1, 1, 0x1, 1, 1, .u8, .rw, 0, [(0, 4)], 1, [.group]⟩,
  ⟨0x3601, 1, 1, 0x2, 1, 1, .u8, .rw, 0, [(0, 127)], 1, [.group]⟩,
  ⟨0x3601, 1, 1, 0x3, 1, 1, .u8, .rw, 248, [(0, 255)], 1, [.group]⟩,
  ⟨0x3601, 1, 1, 0x4, 1, 1, .u8, .rw, 248, [(0, 255)], 1, [.group]⟩,
  ⟨0x3601, 1, 1, 0x5, 1, 1, .u8, .rw, 0, [(0, 2)], 1, [.group]⟩,
  ⟨0x3601, 1, 1, 0x6, 1, 1, .u8, .rw, 1, [(0, 1)], 1, [.group]⟩,
  ⟨0x3601, 1, 1, 0x7, 1, 1, .i8, .rw, -3, [(-7, 0)], 1, [.group]⟩,
  ⟨0x3601, 1, 1, 0x8, 1, 1, .i8, .rw, 0, [(-3, 5)], 1, [.group]⟩,
  ⟨0x3601, 1, 1, 0x9, 1, 1, .u8, .rw, 3, [(2, 10)], 1, [.group]⟩,
  ⟨0x3601, 1, 1, 0xA, 1, 1, .u32, .rw, 100, [(10, 1000000)], 1, [.group]⟩,
  ⟨0x3601, 1, 1, 0xB, 1, 1, .u8, .rw, 16, [(1, 255)], 1, [.group]⟩,
  ⟨0x3601, 1, 1, 0xC, 1, 1, .u16, .rw, 60, [(1, 65535)], 1, [.group]⟩,
  ⟨0x3601, 1, 1, 0xD, 1, 1, .u32, .rw, 1000000, [(1000, 1000000000)], 1, [.group]⟩,
  ⟨0x3601, 1, 1, 0xE, 1, 1, .u8, .rw, 0, [(0, 1)], 1, [.group]⟩,
  ⟨0x3601, 1, 1, 0xF, 1, 1, .u8, .rw, 0, [(0, 1)], 1, [.group]⟩,
  ⟨0x3601, 1, 1, 0x10, 1, 1, .u8, .rw, 0, [(0, 15)], 1, [.group]⟩,
  ⟨0x3601, 1, 1, 0xFD, 1, 1, .u32, .ro, 0, [(0, 4294967295)], 1, []⟩,
  ⟨0x3601, 1, 1, 0xFE, 1, 1, .u8, .wo, 0, [(1, 2)], 1, []⟩]

/-- Table 6.8: the entries of the index group 0x3620. -/
def rowsTrgp : List DictRow := [
  ⟨0x3620, 4, 1, 0x0, 1, 1, .u8, .const, 254, [(0, 255)], 1, []⟩,
  ⟨0x3620, 4, 1, 0x1, 1, 1, .u8, .rw, 0, [(0, 1)], 1, [.group]⟩,
  ⟨0x3620, 4, 1, 0x2, 1, 1, .u8, .rw, 0, [(0, 1)], 1, [.group]⟩,
  ⟨0x3620, 4, 1, 0x3, 1, 1, .u32, .rw, 1000, [(8, 1000000)], 1, [.group]⟩,
  ⟨0x3620, 4, 1, 0x4, 1, 1, .u8, .rw, 1, [(1, 3)], 1, [.group]⟩,
  ⟨0x3620, 4, 1, 0x10, 1, 1, .u64, .w1c, 0, [(0, 18446744073709551615)], 1, []⟩,
  ⟨0x3620, 4, 1, 0x11, 1, 1, .u8, .ro, 0, [(0, 255)], 1, []⟩,
  ⟨0x3620, 4, 1, 0xFD, 1, 1, .u32, .ro, 0, [(0, 4294967295)], 1, []⟩,
  ⟨0x3620, 4, 1, 0xFE, 1, 1, .u8, .wo, 0, [(1, 2)], 1, []⟩]

/-- Table 6.7: the entries of the index group 0x3640. -/
def rowsPtime : List DictRow := [
  ⟨0x3640, 48, 1, 0x0, 1, 1, .u8, .const, 254, [(0, 255)], 1, []⟩,
  ⟨0x3640, 48, 1, 0x1, 1, 1, .u8, .rw, 1, [(0, 1)], 1, [.group]⟩,
  ⟨0x3640, 48, 1, 0x2, 1, 1, .u8, .rw, 0, [(0, 2)], 1, [.group]⟩,
  ⟨0x3640, 48, 1, 0x3, 1, 1, .i32, .rw, 0, [(-2560000, 2560000)], 1, [.group]⟩,
  ⟨0x3640, 48, 1, 0x4, 1, 1, .i32, .rw, 0, [(-2560000, 2560000)], 1, [.group]⟩,
  ⟨0x3640, 48, 1, 0x5, 1, 1, .u16, .rw, 50, [(0, 10000)], 1, [.group]⟩,
  ⟨0x3640, 48, 1, 0x10, 1, 1, .u8, .ro, 0, [(0, 3)], 1, [.volatile]⟩,
  ⟨0x3640, 48, 1, 0x11, 1, 1, .u32, .ro, 0, [(0, 4294967295)], 1, [.volatile]⟩,
  ⟨0x3640, 48, 1, 0x12, 1, 1, .u64, .w1c, 0, [(0, 18446744073709551615)], 1, []⟩,
  ⟨0x3640, 48, 1, 0x13, 1, 1, .u64, .w1c, 0, [(0, 18446744073709551615)], 1, []⟩,
  ⟨0x3640, 48, 1, 0x14, 1, 1, .u8, .ro, 0, [(0, 255)], 1, []⟩,
  ⟨0x3640, 48, 1, 0xFD, 1, 1, .u32, .ro, 0, [(0, 4294967295)], 1, []⟩,
  ⟨0x3640, 48, 1, 0xFE, 1, 1, .u8, .wo, 0, [(1, 2)], 1, []⟩]

/-- Table 6.9: the entries of the index group 0x3700. -/
def rowsTrgu : List DictRow := [
  ⟨0x3700, 32, 1, 0x0, 1, 1, .u8, .const, 254, [(0, 255)], 1, []⟩,
  ⟨0x3700, 32, 1, 0x1, 1, 1, .u8, .rw, 0, [(0, 1)], 1, [.volatile, .group]⟩,
  ⟨0x3700, 32, 1, 0x2, 1, 1, .u64, .rw, 0, [(0, 18446744073709551615)], 1, [.group]⟩,
  ⟨0x3700, 32, 1, 0x3, 1, 1, .u32, .rw, 0, [(0, 0), (1000, 4000000000)], 1, [.group]⟩,
  ⟨0x3700, 32, 1, 0x4, 1, 1, .u32, .rw, 0, [(0, 4294967295)], 1, [.group]⟩,
  ⟨0x3700, 32, 1, 0x5, 1, 1, .u16, .rw, 0, [(0, 24575)], 1, [.group]⟩,
  ⟨0x3700, 32, 1, 0x6, 1, 1, .u8, .ro, 0, [(0, 1)], 1, [.volatile]⟩,
  ⟨0x3700, 32, 1, 0x10, 1, 1, .u64, .ro, 0, [(0, 18446744073709551615)], 1, [.volatile]⟩,
  ⟨0x3700, 32, 1, 0x11, 1, 1, .u64, .w1c, 0, [(0, 18446744073709551615)], 1, []⟩,
  ⟨0x3700, 32, 1, 0x12, 1, 1, .u64, .w1c, 0, [(0, 18446744073709551615)], 1, []⟩,
  ⟨0x3700, 32, 1, 0x13, 1, 1, .u8, .ro, 0, [(0, 255)], 1, []⟩,
  ⟨0x3700, 32, 1, 0xFD, 1, 1, .u32, .ro, 0, [(0, 4294967295)], 1, []⟩,
  ⟨0x3700, 32, 1, 0xFE, 1, 1, .u8, .wo, 0, [(1, 2)], 1, []⟩]

/-- Table 7.9: the entries of the index group 0x3800. -/
def rowsCan : List DictRow := [
  ⟨0x3800, 16, 16, 0x0, 1, 1, .u8, .const, 254, [(0, 255)], 1, []⟩,
  ⟨0x3800, 16, 16, 0x1, 1, 1, .u8, .rw, 0, [(0, 1)], 1, [.group]⟩,
  ⟨0x3800, 16, 16, 0x2, 1, 1, .u16, .rw, 2, [(1, 32)], 1, [.group]⟩,
  ⟨0x3800, 16, 16, 0x3, 1, 1, .u16, .rw, 63, [(2, 256)], 1, [.group]⟩,
  ⟨0x3800, 16, 16, 0x4, 1, 1, .u16, .rw, 16, [(2, 128)], 1, [.group]⟩,
  ⟨0x3800, 16, 16, 0x5, 1, 1, .u16, .rw, 16, [(1, 128)], 1, [.group]⟩,
  ⟨0x3800, 16, 16, 0x6, 1, 1, .u8, .rw, 1, [(1, 32)], 1, [.group]⟩,
  ⟨0x3800, 16, 16, 0x7, 1, 1, .u8, .rw, 29, [(1, 32)], 1, [.group]⟩,
  ⟨0x3800, 16, 16, 0x8, 1, 1, .u8, .rw, 10, [(1, 16)], 1, [.group]⟩,
  ⟨0x3800, 16, 16, 0x9, 1, 1, .u8, .rw, 10, [(1, 16)], 1, [.group]⟩,
  ⟨0x3800, 16, 16, 0xA, 1, 1, .u8, .rw, 30, [(0, 127)], 1, [.group]⟩,
  ⟨0x3800, 16, 16, 0xB, 1, 1, .u8, .rw, 0, [(0, 1)], 1, [.group]⟩,
  ⟨0x3800, 16, 16, 0xC, 1, 1, .u8, .rw, 0, [(0, 1)], 1, [.group]⟩,
  ⟨0x3800, 16, 16, 0xD, 1, 1, .u8, .rw, 1, [(0, 1)], 1, [.group]⟩,
  ⟨0x3800, 16, 16, 0xE, 1, 1, .u8, .rw, 0, [(0, 1)], 1, [.group]⟩,
  ⟨0x3800, 16, 16, 0xF, 1, 1, .u32, .rw, 0, [(0, 1073741823)], 1, [.group]⟩,
  ⟨0x3800, 16, 16, 0x10, 1, 1, .u32, .rw, 0, [(0, 536870911)], 1, [.group]⟩,
  ⟨0x3800, 16, 16, 0x11, 1, 1, .u32, .rw, 1000, [(10, 100000)], 1, [.group]⟩,
  ⟨0x3800, 16, 16, 0x12, 1, 1, .u8, .rw, 96, [(1, 255)], 1, [.group]⟩,
  ⟨0x3800, 16, 16, 0x13, 1, 1, .u8, .rw, 120, [(1, 255)], 1, [.group]⟩,
  ⟨0x3800, 16, 16, 0x14, 1, 1, .u8, .rw, 96, [(1, 255)], 1, [.group]⟩,
  ⟨0x3800, 16, 16, 0x15, 1, 1, .u8, .rw, 120, [(1, 255)], 1, [.group]⟩,
  ⟨0x3800, 16, 16, 0xFD, 1, 1, .u32, .ro, 0, [(0, 4294967295)], 1, []⟩,
  ⟨0x3800, 16, 16, 0xFE, 1, 1, .u8, .wo, 0, [(1, 2)], 1, []⟩]

/-- Table 7.9: the entries of the index group 0x3801. -/
def rowsCanSt : List DictRow := [
  ⟨0x3801, 16, 16, 0x0, 1, 1, .u8, .const, 26, [(0, 255)], 1, []⟩,
  ⟨0x3801, 16, 16, 0x1, 1, 1, .u8, .rw, 1, [(0, 1)], 1, []⟩,
  ⟨0x3801, 16, 16, 0x2, 1, 1, .u8, .ro, 1, [(0, 2)], 1, [.volatile]⟩,
  ⟨0x3801, 16, 16, 0x3, 1, 1, .u16, .rw, 5, [(0, 1000)], 1, []⟩,
  ⟨0x3801, 16, 16, 0x4, 1, 1, .u8, .ro, 3, [(0, 3)], 1, [.volatile]⟩,
  ⟨0x3801, 16, 16, 0x5, 1, 1, .u8, .ro, 0, [(0, 255)], 1, [.volatile]⟩,
  ⟨0x3801, 16, 16, 0x6, 1, 1, .u8, .ro, 0, [(0, 255)], 1, [.volatile]⟩,
  ⟨0x3801, 16, 16, 0x10, 1, 1, .u64, .w1c, 0, [(0, 18446744073709551615)], 1, []⟩,
  ⟨0x3801, 16, 16, 0x11, 1, 1, .u64, .w1c, 0, [(0, 18446744073709551615)], 1, []⟩,
  ⟨0x3801, 16, 16, 0x12, 1, 1, .u64, .w1c, 0, [(0, 18446744073709551615)], 1, []⟩,
  ⟨0x3801, 16, 16, 0x13, 1, 1, .u64, .w1c, 0, [(0, 18446744073709551615)], 1, []⟩,
  ⟨0x3801, 16, 16, 0x14, 1, 1, .u64, .w1c, 0, [(0, 18446744073709551615)], 1, []⟩,
  ⟨0x3801, 16, 16, 0x15, 1, 1, .u64, .w1c, 0, [(0, 18446744073709551615)], 1, []⟩,
  ⟨0x3801, 16, 16, 0x16, 1, 1, .u64, .w1c, 0, [(0, 18446744073709551615)], 1, []⟩,
  ⟨0x3801, 16, 16, 0x17, 1, 1, .u64, .w1c, 0, [(0, 18446744073709551615)], 1, []⟩,
  ⟨0x3801, 16, 16, 0x18, 1, 1, .u64, .w1c, 0, [(0, 18446744073709551615)], 1, []⟩,
  ⟨0x3801, 16, 16, 0x19, 1, 1, .u64, .w1c, 0, [(0, 18446744073709551615)], 1, []⟩,
  ⟨0x3801, 16, 16, 0x1A, 1, 1, .u16, .ro, 0, [(0, 65535)], 1, []⟩]

/-- Table 7.9: the entries of the index group 0x3802. -/
def rowsCanObj : List DictRow := [
  ⟨0x3802, 16, 16, 0x0, 1, 1, .u8, .const, 254, [(0, 255)], 1, []⟩,
  ⟨0x3802, 16, 16, 0x1, 1, 1, (.dom 512), .rw, 0, [], 1, [.group]⟩,
  ⟨0x3802, 16, 16, 0x2, 1, 1, (.oct 3), .rw, 0, [], 1, [.group]⟩,
  ⟨0x3802, 16, 16, 0xFD, 1, 1, .u32, .ro, 0, [(0, 4294967295)], 1, []⟩,
  ⟨0x3802, 16, 16, 0xFE, 1, 1, .u8, .wo, 0, [(1, 2)], 1, []⟩]

/-- Table 7.9: the entries of the index group 0x3803. -/
def rowsCanRef : List DictRow := [
  ⟨0x3803, 16, 16, 0x0, 1, 1, .u8, .const, 254, [(0, 255)], 1, []⟩,
  ⟨0x3803, 16, 16, 0x1, 1, 1, .u8, .rw, 0, [(0, 3)], 1, [.group]⟩,
  ⟨0x3803, 16, 16, 0x2, 1, 1, .u32, .rw, 32, [(0, 536870911)], 1, [.group]⟩,
  ⟨0x3803, 16, 16, 0x3, 1, 1, .u8, .rw, 0, [(0, 1)], 1, [.group]⟩,
  ⟨0x3803, 16, 16, 0x4, 1, 1, .u8, .rw, 0, [(0, 7)], 1, [.group]⟩,
  ⟨0x3803, 16, 16, 0x5, 1, 1, .u16, .rw, 0, [(0, 10000)], 1, [.group]⟩,
  ⟨0x3803, 16, 16, 0xFD, 1, 1, .u32, .ro, 0, [(0, 4294967295)], 1, []⟩,
  ⟨0x3803, 16, 16, 0xFE, 1, 1, .u8, .wo, 0, [(1, 2)], 1, []⟩]

/-- Table 7.9: the entries of the index group 0x3804. -/
def rowsCanCo : List DictRow := [
  ⟨0x3804, 16, 16, 0x0, 1, 1, .u8, .const, 254, [(0, 255)], 1, []⟩,
  ⟨0x3804, 16, 16, 0x1, 1, 1, .u8, .rw, 0, [(0, 1)], 1, [.group]⟩,
  ⟨0x3804, 16, 16, 0x2, 1, 1, .u8, .rw, 1, [(1, 127)], 1, [.group]⟩,
  ⟨0x3804, 16, 16, 0x3, 1, 1, .u8, .rw, 0, [(0, 1)], 1, [.group]⟩,
  ⟨0x3804, 16, 16, 0x4, 1, 1, .u8, .rw, 0, [(0, 1)], 1, [.group]⟩,
  ⟨0x3804, 16, 16, 0x5, 1, 1, .u8, .ro, 0, [(0, 255)], 1, [.volatile]⟩,
  ⟨0x3804, 16, 16, 0x6, 1, 1, .u16, .ro, 0, [(0, 65535)], 1, [.volatile]⟩,
  ⟨0x3804, 16, 16, 0xFD, 1, 1, .u32, .ro, 0, [(0, 4294967295)], 1, []⟩,
  ⟨0x3804, 16, 16, 0xFE, 1, 1, .u8, .wo, 0, [(1, 2)], 1, []⟩]

/-- Table 9.9: the entries of the index group 0x3A00. -/
def rowsBu : List DictRow := [
  ⟨0x3A00, 4, 1, 0x0, 1, 1, .u8, .const, 254, [(0, 255)], 1, []⟩,
  ⟨0x3A00, 4, 1, 0x1, 1, 1, (.oct 6), .rw, 0, [], 1, [.group]⟩,
  ⟨0x3A00, 4, 1, 0x2, 1, 1, .u16, .rw, 0, [(0, 4094)], 1, [.group]⟩,
  ⟨0x3A00, 4, 1, 0x3, 1, 1, .u8, .rw, 4, [(0, 7)], 1, [.group]⟩,
  ⟨0x3A00, 4, 1, 0x4, 1, 1, .u8, .rw, 0, [(0, 1)], 1, [.group]⟩,
  ⟨0x3A00, 4, 1, 0x5, 1, 1, .u32, .rw, 10000, [(1000, 1000000)], 1, [.group]⟩,
  ⟨0x3A00, 4, 1, 0x6, 1, 1, (.dom 1024), .rw, 0, [], 1, [.group]⟩,
  ⟨0x3A00, 4, 1, 0x7, 1, 1, (.dom 8192), .rw, 0, [], 1, [.group]⟩,
  ⟨0x3A00, 4, 1, 0x8, 1, 1, .u32, .rw, 250, [(50, 100000)], 1, [.group]⟩,
  ⟨0x3A00, 4, 1, 0x9, 1, 1, .u8, .rw, 3, [(0, 15)], 1, [.group]⟩,
  ⟨0x3A00, 4, 1, 0xA, 1, 1, .u8, .rw, 0, [(0, 31)], 1, [.group]⟩,
  ⟨0x3A00, 4, 1, 0x10, 1, 1, .u64, .w1c, 0, [(0, 18446744073709551615)], 1, []⟩,
  ⟨0x3A00, 4, 1, 0x11, 1, 1, .u64, .w1c, 0, [(0, 18446744073709551615)], 1, []⟩,
  ⟨0x3A00, 4, 1, 0x12, 1, 1, .u64, .w1c, 0, [(0, 18446744073709551615)], 1, []⟩,
  ⟨0x3A00, 4, 1, 0x13, 1, 1, .u64, .w1c, 0, [(0, 18446744073709551615)], 1, []⟩,
  ⟨0x3A00, 4, 1, 0x14, 1, 1, .u8, .ro, 0, [(0, 255)], 1, []⟩,
  ⟨0x3A00, 4, 1, 0xFD, 1, 1, .u32, .ro, 0, [(0, 4294967295)], 1, []⟩,
  ⟨0x3A00, 4, 1, 0xFE, 1, 1, .u8, .wo, 0, [(1, 2)], 1, []⟩]

/-- Table 9.9: the entries of the index group 0x3A20. -/
def rowsTun : List DictRow := [
  ⟨0x3A20, 16, 1, 0x0, 1, 1, .u8, .const, 254, [(0, 255)], 1, []⟩,
  ⟨0x3A20, 16, 1, 0x1, 1, 1, .u8, .rw, 0, [(0, 1)], 1, [.group]⟩,
  ⟨0x3A20, 16, 1, 0x2, 1, 1, .u8, .rw, 0, [(0, 3)], 1, [.group]⟩,
  ⟨0x3A20, 16, 1, 0x3, 1, 1, .u8, .rw, 0, [(0, 15)], 1, [.group]⟩,
  ⟨0x3A20, 16, 1, 0x4, 1, 1, .u8, .rw, 0, [(0, 2)], 1, [.group]⟩,
  ⟨0x3A20, 16, 1, 0x5, 1, 1, .u32, .rw, 0, [(0, 1073741823)], 1, [.group]⟩,
  ⟨0x3A20, 16, 1, 0x6, 1, 1, .u32, .rw, 0, [(0, 536870911)], 1, [.group]⟩,
  ⟨0x3A20, 16, 1, 0x7, 1, 1, (.oct 6), .rw, 0, [], 1, [.group]⟩,
  ⟨0x3A20, 16, 1, 0x8, 1, 1, .u8, .rw, 0, [(0, 31)], 1, [.group]⟩,
  ⟨0x3A20, 16, 1, 0x9, 1, 1, .u8, .rw, 1, [(1, 16)], 1, [.group]⟩,
  ⟨0x3A20, 16, 1, 0xA, 1, 1, .u16, .rw, 0, [(0, 10000)], 1, [.group]⟩,
  ⟨0x3A20, 16, 1, 0xB, 1, 1, (.oct 8), .rw, 0, [], 1, [.group]⟩,
  ⟨0x3A20, 16, 1, 0x10, 1, 1, .u64, .w1c, 0, [(0, 18446744073709551615)], 1, []⟩,
  ⟨0x3A20, 16, 1, 0x11, 1, 1, .u64, .w1c, 0, [(0, 18446744073709551615)], 1, []⟩,
  ⟨0x3A20, 16, 1, 0x12, 1, 1, .u64, .w1c, 0, [(0, 18446744073709551615)], 1, []⟩,
  ⟨0x3A20, 16, 1, 0x13, 1, 1, .u8, .ro, 0, [(0, 255)], 1, []⟩,
  ⟨0x3A20, 16, 1, 0xFD, 1, 1, .u32, .ro, 0, [(0, 4294967295)], 1, []⟩,
  ⟨0x3A20, 16, 1, 0xFE, 1, 1, .u8, .wo, 0, [(1, 2)], 1, []⟩]

/-- Table 9.9: the entries of the index group 0x3B00. -/
def rowsBctx : List DictRow := [
  ⟨0x3B00, 256, 1, 0x0, 1, 1, .u8, .const, 254, [(0, 255)], 1, []⟩,
  ⟨0x3B00, 256, 1, 0x1, 1, 1, .u8, .rw, 0, [(0, 1)], 1, []⟩,
  ⟨0x3B00, 256, 1, 0x2, 1, 1, .u8, .ro, 0, [(0, 2)], 1, [.volatile]⟩,
  ⟨0x3B00, 256, 1, 0x3, 1, 1, .u16, .rw, 100, [(0, 10000)], 1, []⟩,
  ⟨0x3B00, 256, 1, 0x4, 1, 1, .u8, .rw, 0, [(0, 255)], 1, [.group]⟩,
  ⟨0x3B00, 256, 1, 0x5, 1, 1, .u16, .rw, 0, [(0, 4095)], 1, [.group]⟩,
  ⟨0x3B00, 256, 1, 0x6, 1, 1, (.oct 6), .rw, 0, [], 1, [.group]⟩,
  ⟨0x3B00, 256, 1, 0x7, 1, 1, .u32, .rw, 0, [(0, 268431360)], 4096, [.group]⟩,
  ⟨0x3B00, 256, 1, 0x8, 1, 1, .u32, .rw, 0, [(0, 0), (4096, 4096), (8192, 8192), (16384, 16384), (32768, 32768), (65536, 65536), (131072, 131072), (262144, 262144), (524288, 524288), (1048576, 1048576), (2097152, 2097152), (4194304, 4194304), (8388608, 8388608), (16777216, 16777216), (33554432, 33554432), (67108864, 67108864), (134217728, 134217728), (268435456, 268435456)], 1, [.group]⟩,
  ⟨0x3B00, 256, 1, 0x9, 1, 1, .u64, .rw, 0, [(0, 1099511623680)], 4096, [.group]⟩,
  ⟨0x3B00, 256, 1, 0xA, 1, 1, .u8, .rw, 0, [(0, 1)], 1, [.group]⟩,
  ⟨0x3B00, 256, 1, 0xB, 1, 1, .u8, .rw, 0, [(0, 31)], 1, [.group]⟩,
  ⟨0x3B00, 256, 1, 0xC, 1, 1, .u8, .rw, 1, [(0, 1)], 1, [.group]⟩,
  ⟨0x3B00, 256, 1, 0xD, 1, 1, .u8, .rw, 0, [(0, 1)], 1, [.group]⟩,
  ⟨0x3B00, 256, 1, 0x10, 1, 1, .u16, .ro, 0, [(0, 65535)], 1, [.volatile]⟩,
  ⟨0x3B00, 256, 1, 0x11, 1, 1, .u8, .ro, 0, [(0, 255)], 1, [.volatile]⟩,
  ⟨0x3B00, 256, 1, 0x12, 1, 1, .u64, .w1c, 0, [(0, 18446744073709551615)], 1, []⟩,
  ⟨0x3B00, 256, 1, 0x13, 1, 1, .u64, .w1c, 0, [(0, 18446744073709551615)], 1, []⟩,
  ⟨0x3B00, 256, 1, 0x14, 1, 1, .u64, .w1c, 0, [(0, 18446744073709551615)], 1, []⟩,
  ⟨0x3B00, 256, 1, 0x15, 1, 1, .u64, .w1c, 0, [(0, 18446744073709551615)], 1, []⟩,
  ⟨0x3B00, 256, 1, 0x16, 1, 1, .u64, .w1c, 0, [(0, 18446744073709551615)], 1, []⟩,
  ⟨0x3B00, 256, 1, 0x17, 1, 1, .u8, .ro, 0, [(0, 255)], 1, []⟩,
  ⟨0x3B00, 256, 1, 0xFD, 1, 1, .u32, .ro, 0, [(0, 4294967295)], 1, []⟩,
  ⟨0x3B00, 256, 1, 0xFE, 1, 1, .u8, .wo, 0, [(1, 2)], 1, []⟩]

/-- Table 8.11: the entries of the index group 0x3C00. -/
def rowsSlp : List DictRow := [
  ⟨0x3C00, 1, 1, 0x0, 1, 1, .u8, .const, 8, [(0, 255)], 1, []⟩,
  ⟨0x3C00, 1, 1, 0x1, 1, 1, .u8, .rw, 0, [(0, 0), (2, 3)], 1, [.volatile]⟩,
  ⟨0x3C00, 1, 1, 0x2, 1, 1, .u8, .ro, 0, [(0, 3)], 1, [.volatile]⟩,
  ⟨0x3C00, 1, 1, 0x3, 1, 1, (.oct 32), .ro, 0, [], 1, [.volatile]⟩,
  ⟨0x3C00, 1, 1, 0x4, 1, 1, .u8, .wo, 0, [(1, 1)], 1, [.volatile, .vestibule]⟩,
  ⟨0x3C00, 1, 1, 0x5, 1, 1, (.oct 16), .ro, 0, [], 1, [.vestibule]⟩,
  ⟨0x3C00, 1, 1, 0x6, 1, 1, .u64, .w1c, 0, [(0, 18446744073709551615)], 1, []⟩,
  ⟨0x3C00, 1, 1, 0x7, 1, 1, .u64, .w1c, 0, [(0, 18446744073709551615)], 1, []⟩,
  ⟨0x3C00, 1, 1, 0x8, 1, 1, .u8, .ro, 0, [(0, 255)], 1, []⟩]

/-- Table 8.11: the entries of the index group 0x3C01. -/
def rowsSlpm : List DictRow := [
  ⟨0x3C01, 1, 1, 0x0, 1, 1, .u8, .const, 254, [(0, 255)], 1, []⟩,
  ⟨0x3C01, 1, 1, 0x1, 1, 1, .u8, .rw, 0, [(0, 1)], 1, [.group]⟩,
  ⟨0x3C01, 1, 1, 0x2, 1, 1, .u32, .rw, 535822336, [(0, 536866816)], 4096, [.group]⟩,
  ⟨0x3C01, 1, 1, 0xFD, 1, 1, .u32, .ro, 0, [(0, 4294967295)], 1, []⟩,
  ⟨0x3C01, 1, 1, 0xFE, 1, 1, .u8, .wo, 0, [(1, 2)], 1, []⟩]

/-- Table 8.12: the entries of the index group 0x3C10. -/
def rowsSdom : List DictRow := [
  ⟨0x3C10, 32, 1, 0x0, 1, 1, .u8, .const, 254, [(0, 255)], 1, []⟩,
  ⟨0x3C10, 32, 1, 0x1, 1, 1, .u8, .rw, 0, [(0, 1)], 1, [.group]⟩,
  ⟨0x3C10, 32, 1, 0x2, 1, 1, .u16, .rw, 100, [(10, 1000)], 1, [.group]⟩,
  ⟨0x3C10, 32, 1, 0x3, 1, 1, .u16, .rw, 2000, [(100, 60000)], 1, [.group]⟩,
  ⟨0x3C10, 32, 1, 0x4, 1, 1, .u16, .rw, 1000, [(100, 60000)], 1, [.group]⟩,
  ⟨0x3C10, 32, 1, 0xFD, 1, 1, .u32, .ro, 0, [(0, 4294967295)], 1, []⟩,
  ⟨0x3C10, 32, 1, 0xFE, 1, 1, .u8, .wo, 0, [(1, 2)], 1, []⟩]

/-- Table 8.12: the entries of the index group 0x3C40. -/
def rowsWatch : List DictRow := [
  ⟨0x3C40, 1, 1, 0x0, 1, 1, .u8, .const, 254, [(0, 255)], 1, []⟩,
  ⟨0x3C40, 1, 1, 0x1, 32, 1, .u16, .rw, 0, [(0, 511)], 1, [.group, .vestibule]⟩,
  ⟨0x3C40, 1, 1, 0xFD, 1, 1, .u32, .ro, 0, [(0, 4294967295)], 1, []⟩,
  ⟨0x3C40, 1, 1, 0xFE, 1, 1, .u8, .wo, 0, [(1, 2)], 1, []⟩]

/-- Table 8.13: the entries of the index group 0x3C50. -/
def rowsWsrc : List DictRow := [
  ⟨0x3C50, 18, 1, 0x0, 1, 1, .u8, .const, 254, [(0, 255)], 1, []⟩,
  ⟨0x3C50, 18, 1, 0x1, 1, 1, .u8, .rw, 0, [(0, 2)], 1, [.group]⟩,
  ⟨0x3C50, 16, 1, 0x2, 1, 1, .u32, .rw, 1250, [(750, 80000)], 1, [.group]⟩,
  ⟨0x3C50, 16, 1, 0x3, 1, 1, .u32, .rw, 80000, [(750, 80000)], 1, [.group]⟩,
  ⟨0x3C50, 18, 1, 0x4, 1, 1, .u8, .rw, 8, [(1, 254)], 1, [.group]⟩,
  ⟨0x3C50, 18, 1, 0x5, 1, 1, .u16, .rw, 2000, [(100, 60000)], 1, [.group]⟩,
  ⟨0x3C50, 16, 1, 0x6, 1, 1, .u32, .rw, 0, [(0, 1073741823)], 1, [.group]⟩,
  ⟨0x3C50, 16, 1, 0x7, 1, 1, .u32, .rw, 536870911, [(0, 536870911)], 1, [.group]⟩,
  ⟨0x3C50, 16, 1, 0x8, 1, 1, (.oct 8), .rw, 0, [], 1, [.group]⟩,
  ⟨0x3C50, 16, 1, 0x9, 1, 1, (.oct 8), .rw, 0, [], 1, [.group]⟩,
  ⟨0x3C50, 16, 1, 0xA, 1, 1, .u8, .rw, 255, [(0, 8), (255, 255)], 1, [.group]⟩,
  ⟨0x3C50, 16, 1, 0xB, 1, 1, .u8, .rw, 2, [(0, 3)], 1, [.group]⟩,
  ⟨0x3C50, 18, 1, 0x10, 1, 1, .u8, .w1c, 0, [(0, 255)], 1, [.vestibule]⟩,
  ⟨0x3C50, 16, 1, 0x11, 1, 1, .u32, .ro, 1250, [(0, 4294967295)], 1, [.volatile, .vestibule]⟩,
  ⟨0x3C50, 18, 1, 0x12, 1, 1, .u8, .ro, 0, [(0, 1)], 1, [.volatile, .vestibule]⟩,
  ⟨0x3C50, 18, 1, 0x13, 1, 1, .u64, .w1c, 0, [(0, 18446744073709551615)], 1, []⟩,
  ⟨0x3C50, 18, 1, 0x14, 1, 1, .u64, .w1c, 0, [(0, 18446744073709551615)], 1, []⟩,
  ⟨0x3C50, 18, 1, 0x15, 1, 1, .u8, .ro, 0, [(0, 255)], 1, []⟩,
  ⟨0x3C50, 18, 1, 0xFD, 1, 1, .u32, .ro, 0, [(0, 4294967295)], 1, []⟩,
  ⟨0x3C50, 18, 1, 0xFE, 1, 1, .u8, .wo, 0, [(1, 2)], 1, []⟩,
  ⟨0x3C60, 2, 1, 0x2, 1, 1, .u32, .rw, 1000000, [(50000, 100000000)], 1, [.group]⟩,
  ⟨0x3C60, 2, 1, 0x3, 1, 1, .u32, .rw, 64000000, [(50000, 100000000)], 1, [.group]⟩,
  ⟨0x3C60, 2, 1, 0x11, 1, 1, .u32, .ro, 1000000, [(0, 4294967295)], 1, [.volatile, .vestibule]⟩]

/-- Tables 12.10, 12.9: the entries of the index group 0x4000. -/
def rowsLc : List DictRow := [
  ⟨0x4000, 24, 1, 0x0, 1, 1, .u8, .const, 254, [(0, 255)], 1, []⟩,
  ⟨0x4000, 24, 1, 0x1, 1, 1, .u8, .rw, 0, [(0, 1)], 1, [.group]⟩,
  ⟨0x4000, 20, 1, 0x2, 1, 1, .u16, .rw, 7000, [(500, 10000)], 1, [.group]⟩,
  ⟨0x4000, 20, 1, 0x3, 1, 1, .u16, .rw, 12000, [(500, 15000)], 1, [.group]⟩,
  ⟨0x4000, 24, 1, 0x4, 1, 1, .u8, .rw, 10, [(0, 200)], 1, [.group]⟩,
  ⟨0x4000, 24, 1, 0x5, 1, 1, .u8, .rw, 1, [(0, 1)], 1, [.group]⟩,
  ⟨0x4000, 24, 1, 0x6, 1, 1, .u8, .rw, 3, [(1, 15)], 1, [.group]⟩,
  ⟨0x4000, 24, 1, 0x7, 1, 1, .u16, .rw, 100, [(10, 60000)], 1, [.group]⟩,
  ⟨0x4000, 24, 1, 0x8, 1, 1, .u16, .rw, 1000, [(100, 60000)], 1, [.group]⟩,
  ⟨0x4000, 24, 1, 0x9, 1, 1, .u8, .rw, 0, [(0, 1)], 1, [.group]⟩,
  ⟨0x4000, 24, 1, 0xA, 1, 1, .u16, .rw, 10000, [(0, 10000)], 1, [.group]⟩,
  ⟨0x4000, 24, 1, 0xB, 1, 1, .u32, .rw, 10000, [(500, 100000)], 1, [.group]⟩,
  ⟨0x4000, 24, 1, 0xC, 1, 1, .u32, .rw, 0, [(0, 99999)], 1, [.group]⟩,
  ⟨0x4000, 24, 1, 0xD, 1, 1, .u8, .rw, 0, [(0, 1)], 1, [.group]⟩,
  ⟨0x4000, 24, 1, 0xE, 1, 1, .u8, .rw, 0, [(0, 1)], 1, [.group]⟩,
  ⟨0x4000, 24, 1, 0xF, 1, 1, .u16, .rw, 5000, [(100, 60000)], 1, [.group]⟩,
  ⟨0x4000, 24, 1, 0x10, 1, 1, .u8, .rw, 0, [(0, 1)], 1, [.group]⟩,
  ⟨0x4000, 24, 1, 0x20, 1, 1, .u32, .rw, 0, [(0, 4294967295)], 1, [.volatile]⟩,
  ⟨0x4000, 24, 1, 0x21, 1, 1, .u8, .ro, 0, [(0, 5)], 1, [.volatile]⟩,
  ⟨0x4000, 24, 1, 0x22, 1, 1, .u8, .ro, 0, [(0, 255)], 1, [.volatile]⟩,
  ⟨0x4000, 24, 1, 0x23, 1, 1, .u16, .ro, 0, [(0, 65535)], 1, [.volatile]⟩,
  ⟨0x4000, 24, 1, 0x24, 1, 1, .i16, .ro, 0, [(-50, 205)], 1, [.volatile]⟩,
  ⟨0x4000, 24, 1, 0x25, 1, 1, .u8, .ro, 3, [(0, 15)], 1, [.volatile]⟩,
  ⟨0x4000, 24, 1, 0x26, 1, 1, .u8, .wo, 0, [(1, 1)], 1, [.volatile]⟩,
  ⟨0x4000, 24, 1, 0x30, 1, 1, .u64, .w1c, 0, [(0, 18446744073709551615)], 1, []⟩,
  ⟨0x4000, 24, 1, 0x31, 1, 1, .u64, .w1c, 0, [(0, 18446744073709551615)], 1, []⟩,
  ⟨0x4000, 24, 1, 0x32, 1, 1, .u64, .w1c, 0, [(0, 18446744073709551615)], 1, []⟩,
  ⟨0x4000, 24, 1, 0x33, 1, 1, .u64, .w1c, 0, [(0, 18446744073709551615)], 1, []⟩,
  ⟨0x4000, 24, 1, 0x34, 1, 1, .u64, .w1c, 0, [(0, 18446744073709551615)], 1, []⟩,
  ⟨0x4000, 24, 1, 0x35, 1, 1, .u64, .w1c, 0, [(0, 18446744073709551615)], 1, []⟩,
  ⟨0x4000, 24, 1, 0x36, 1, 1, .u64, .w1c, 0, [(0, 18446744073709551615)], 1, []⟩,
  ⟨0x4000, 24, 1, 0x37, 1, 1, .u8, .ro, 0, [(0, 255)], 1, []⟩,
  ⟨0x4000, 1, 1, 0x48, 1, 1, .u16, .rw, 0, [(0, 500)], 1, []⟩,
  ⟨0x4000, 1, 1, 0x49, 1, 1, .u32, .ro, 0, [(0, 4294967295)], 1, [.volatile]⟩,
  ⟨0x4000, 1, 1, 0x4A, 1, 1, .u32, .rw, 8000, [(0, 8000)], 1, []⟩,
  ⟨0x4000, 1, 1, 0x4B, 1, 1, .u8, .ro, 0, [(0, 1)], 1, [.volatile]⟩,
  ⟨0x4000, 24, 1, 0xFD, 1, 1, .u32, .ro, 0, [(0, 4294967295)], 1, []⟩,
  ⟨0x4000, 24, 1, 0xFE, 1, 1, .u8, .wo, 0, [(1, 2)], 1, []⟩,
  ⟨0x4014, 4, 1, 0x2, 1, 1, .u16, .rw, 14000, [(1000, 20000)], 1, [.group]⟩,
  ⟨0x4014, 4, 1, 0x3, 1, 1, .u16, .rw, 24000, [(1000, 30000)], 1, [.group]⟩]

/-- Table 12.10: the entries of the index group 0x4000. -/
def rowsLcg : List DictRow := [
  ⟨0x4000, 3, 8, 0x40, 1, 1, .u16, .rw, 1000, [(1000, 2000)], 1, []⟩,
  ⟨0x4000, 3, 8, 0x41, 1, 1, .u16, .rw, 25, [(20, 1000)], 1, []⟩,
  ⟨0x4000, 3, 8, 0x42, 1, 1, .i16, .ro, 0, [(-32768, 32767)], 1, [.volatile]⟩,
  ⟨0x4000, 3, 8, 0x43, 1, 1, .u16, .ro, 0, [(0, 65535)], 1, [.volatile]⟩,
  ⟨0x4000, 3, 8, 0x44, 1, 1, .u16, .ro, 0, [(0, 65535)], 1, [.volatile]⟩]

/-- Table 13.5: the entries of the index group 0x4100. -/
def rowsAdc : List DictRow := [
  ⟨0x4100, 2, 1, 0x0, 1, 1, .u8, .const, 5, [(0, 255)], 1, []⟩,
  ⟨0x4100, 2, 1, 0x1, 1, 1, .u8, .rw, 1, [(0, 1)], 1, []⟩,
  ⟨0x4100, 2, 1, 0x2, 1, 1, .u8, .ro, 1, [(0, 2)], 1, [.volatile]⟩,
  ⟨0x4100, 2, 1, 0x3, 1, 1, .u16, .rw, 1, [(0, 100)], 1, []⟩,
  ⟨0x4100, 2, 1, 0x4, 1, 1, .u64, .w1c, 0, [(0, 18446744073709551615)], 1, []⟩,
  ⟨0x4100, 2, 1, 0x5, 1, 1, .u8, .ro, 0, [(0, 255)], 1, []⟩]

/-- Table 13.5: the entries of the index group 0x4110. -/
def rowsAseq : List DictRow := [
  ⟨0x4110, 16, 1, 0x0, 1, 1, .u8, .const, 254, [(0, 255)], 1, []⟩,
  ⟨0x4110, 16, 1, 0x1, 1, 1, .u8, .rw, 1, [(1, 16)], 1, [.group]⟩,
  ⟨0x4110, 16, 1, 0x2, 1, 1, (.oct 16), .rw, 0, [], 1, [.group]⟩,
  ⟨0x4110, 16, 1, 0xFD, 1, 1, .u32, .ro, 0, [(0, 4294967295)], 1, []⟩,
  ⟨0x4110, 16, 1, 0xFE, 1, 1, .u8, .wo, 0, [(1, 2)], 1, []⟩]

/-- Table 13.5: the entries of the index group 0x4130. -/
def rowsAin : List DictRow := [
  ⟨0x4130, 16, 1, 0x0, 1, 1, .u8, .const, 254, [(0, 255)], 1, []⟩,
  ⟨0x4130, 16, 1, 0x1, 1, 1, .u8, .rw, 0, [(0, 2)], 1, [.group]⟩,
  ⟨0x4130, 16, 1, 0x2, 1, 1, .i32, .ro, 0, [(-2147483648, 2147483647)], 1, [.volatile]⟩,
  ⟨0x4130, 16, 1, 0x3, 1, 1, .u8, .ro, 0, [(0, 255)], 1, [.volatile]⟩,
  ⟨0x4130, 16, 1, 0xFD, 1, 1, .u32, .ro, 0, [(0, 4294967295)], 1, []⟩,
  ⟨0x4130, 16, 1, 0xFE, 1, 1, .u8, .wo, 0, [(1, 2)], 1, []⟩]

/-- Table 13.5: the entries of the index group 0x4140. -/
def rowsAint : List DictRow := [
  ⟨0x4140, 1, 1, 0x0, 1, 1, .u8, .const, 29, [(0, 255)], 1, []⟩,
  ⟨0x4140, 1, 1, 0x10, 14, 1, .i32, .ro, 0, [(-2147483648, 2147483647)], 1, [.volatile]⟩]

/-- Table 10.19: the entries of the index group 0x4400. -/
def rowsSe : List DictRow := [
  ⟨0x4400, 1, 1, 0x0, 1, 1, .u8, .const, 13, [(0, 255)], 1, []⟩,
  ⟨0x4400, 1, 1, 0x1, 1, 1, .u8, .wo, 0, [(1, 4)], 1, [.volatile]⟩,
  ⟨0x4400, 1, 1, 0x2, 1, 1, .u8, .ro, 0, [(0, 5)], 1, [.volatile, .allHalls]⟩,
  ⟨0x4400, 1, 1, 0x3, 1, 1, .u32, .ro, 0, [(0, 4294967295)], 1, [.volatile]⟩,
  ⟨0x4400, 1, 1, 0x4, 1, 1, .u8, .rw, 0, [(0, 1)], 1, []⟩,
  ⟨0x4400, 1, 1, 0x5, 1, 1, .u32, .ro, 0, [(0, 4294967295)], 1, []⟩,
  ⟨0x4400, 1, 1, 0x6, 1, 1, .u32, .ro, 0, [(0, 4294967295)], 1, [.volatile]⟩,
  ⟨0x4400, 1, 1, 0x7, 1, 1, .u8, .ro, 0, [(0, 3)], 1, [.volatile]⟩,
  ⟨0x4400, 1, 1, 0xA, 1, 1, .u32, .wo, 0, [(0, 4294967295)], 1, [.volatile]⟩,
  ⟨0x4400, 1, 1, 0xB, 1, 1, .u64, .w1c, 0, [(0, 18446744073709551615)], 1, []⟩,
  ⟨0x4400, 1, 1, 0xC, 1, 1, .u64, .w1c, 0, [(0, 18446744073709551615)], 1, []⟩,
  ⟨0x4400, 1, 1, 0xD, 1, 1, .u8, .ro, 0, [(0, 255)], 1, []⟩]

/-- Table 10.19: the entries of the index group 0x4401. -/
def rowsSenet : List DictRow := [
  ⟨0x4401, 1, 1, 0x0, 1, 1, .u8, .const, 254, [(0, 255)], 1, []⟩,
  ⟨0x4401, 1, 1, 0x1, 1, 1, (.oct 6), .rw, 0, [], 1, [.group]⟩,
  ⟨0x4401, 1, 1, 0xFD, 1, 1, .u32, .ro, 0, [(0, 4294967295)], 1, []⟩,
  ⟨0x4401, 1, 1, 0xFE, 1, 1, .u8, .wo, 0, [(1, 2)], 1, []⟩]

/-- Table 10.19: the entries of the index group 0x4402. -/
def rowsSeimg : List DictRow := [
  ⟨0x4402, 1, 1, 0x0, 1, 1, .u8, .const, 2, [(0, 255)], 1, []⟩,
  ⟨0x4402, 1, 1, 0x1, 1, 1, (.dom 4194304), .rw, 0, [], 1, [.volatile]⟩,
  ⟨0x4402, 1, 1, 0x2, 1, 1, (.dom 4194304), .ro, 0, [], 1, []⟩]

/-- Table 10.20: the entries of the index group 0x4410. -/
def rowsTask : List DictRow := [
  ⟨0x4410, 48, 1, 0x0, 1, 1, .u8, .const, 7, [(0, 255)], 1, []⟩,
  ⟨0x4410, 48, 1, 0x1, 1, 1, .u64, .w1c, 0, [(0, 18446744073709551615)], 1, []⟩,
  ⟨0x4410, 48, 1, 0x2, 1, 1, .u32, .ro, 0, [(0, 4294967295)], 1, [.volatile]⟩,
  ⟨0x4410, 48, 1, 0x3, 1, 1, .u32, .w1c, 0, [(0, 4294967295)], 1, []⟩,
  ⟨0x4410, 48, 1, 0x4, 1, 1, .u32, .w1c, 0, [(0, 4294967295)], 1, []⟩,
  ⟨0x4410, 48, 1, 0x5, 1, 1, .u64, .w1c, 0, [(0, 18446744073709551615)], 1, []⟩,
  ⟨0x4410, 48, 1, 0x6, 1, 1, .u64, .w1c, 0, [(0, 18446744073709551615)], 1, []⟩,
  ⟨0x4410, 48, 1, 0x7, 1, 1, .u8, .ro, 0, [(0, 255)], 1, []⟩]

/-- Table 10.21: the entries of the index group 0x4480. -/
def rowsStn : List DictRow := [
  ⟨0x4480, 256, 1, 0x0, 1, 1, .u8, .const, 254, [(0, 255)], 1, []⟩,
  ⟨0x4480, 256, 1, 0x1, 1, 1, .u8, .rw, 0, [(0, 2)], 1, [.group]⟩,
  ⟨0x4480, 256, 1, 0x2, 1, 1, (.oct 6), .rw, 0, [], 1, [.group]⟩,
  ⟨0x4480, 256, 1, 0x3, 1, 1, .u8, .rw, 255, [(0, 47), (255, 255)], 1, [.group]⟩,
  ⟨0x4480, 256, 1, 0x4, 1, 1, .u16, .rw, 0, [(0, 4094)], 1, [.group]⟩,
  ⟨0x4480, 256, 1, 0x5, 1, 1, .u8, .rw, 6, [(0, 7)], 1, [.group]⟩,
  ⟨0x4480, 256, 1, 0x6, 1, 1, .u8, .rw, 0, [(0, 15)], 1, [.group]⟩,
  ⟨0x4480, 256, 1, 0x10, 1, 1, .u8, .ro, 0, [(0, 3)], 1, [.volatile]⟩,
  ⟨0x4480, 256, 1, 0x11, 1, 1, .u16, .ro, 0, [(0, 65535)], 1, [.volatile]⟩,
  ⟨0x4480, 256, 1, 0x12, 1, 1, .u64, .w1c, 0, [(0, 18446744073709551615)], 1, []⟩,
  ⟨0x4480, 256, 1, 0x13, 1, 1, .u64, .w1c, 0, [(0, 18446744073709551615)], 1, []⟩,
  ⟨0x4480, 256, 1, 0x14, 1, 1, .u64, .w1c, 0, [(0, 18446744073709551615)], 1, []⟩,
  ⟨0x4480, 256, 1, 0x15, 1, 1, .u64, .w1c, 0, [(0, 18446744073709551615)], 1, []⟩,
  ⟨0x4480, 256, 1, 0x16, 1, 1, .u64, .w1c, 0, [(0, 18446744073709551615)], 1, []⟩,
  ⟨0x4480, 256, 1, 0x17, 1, 1, .u64, .w1c, 0, [(0, 18446744073709551615)], 1, []⟩,
  ⟨0x4480, 256, 1, 0x18, 1, 1, .u8, .ro, 0, [(0, 255)], 1, []⟩,
  ⟨0x4480, 256, 1, 0xFD, 1, 1, .u32, .ro, 0, [(0, 4294967295)], 1, []⟩,
  ⟨0x4480, 256, 1, 0xFE, 1, 1, .u8, .wo, 0, [(1, 2)], 1, []⟩]

/-- Table 11.9: the entries of the index group 0x4600. -/
def rowsChg : List DictRow := [
  ⟨0x4600, 1, 1, 0x0, 1, 1, .u8, .const, 10, [(0, 255)], 1, []⟩,
  ⟨0x4600, 1, 1, 0x1, 1, 1, .u16, .wo, 0, [(0, 65535)], 1, [.volatile]⟩,
  ⟨0x4600, 1, 1, 0x2, 1, 1, .u8, .ro, 0, [(0, 4)], 1, [.volatile, .allHalls]⟩,
  ⟨0x4600, 1, 1, 0x3, 1, 1, .u32, .ro, 0, [(0, 4294967295)], 1, [.volatile]⟩,
  ⟨0x4600, 1, 1, 0x4, 1, 1, .u8, .rw, 10, [(1, 100)], 1, []⟩,
  ⟨0x4600, 1, 1, 0x5, 1, 1, .u16, .rw, 2000, [(100, 60000)], 1, []⟩,
  ⟨0x4600, 1, 1, 0x6, 1, 1, (.dom 1072), .ro, 0, [], 1, [.volatile]⟩,
  ⟨0x4600, 1, 1, 0x7, 1, 1, (.dom 524288), .ro, 0, [], 1, [.volatile]⟩,
  ⟨0x4600, 1, 1, 0x8, 1, 1, .u64, .w1c, 0, [(0, 18446744073709551615)], 1, []⟩,
  ⟨0x4600, 1, 1, 0x9, 1, 1, .u64, .w1c, 0, [(0, 18446744073709551615)], 1, []⟩,
  ⟨0x4600, 1, 1, 0xA, 1, 1, .u8, .ro, 0, [(0, 255)], 1, []⟩]

/-- Table 11.10: the entries of the index group 0x4610. -/
def rowsFrc : List DictRow := [
  ⟨0x4610, 1, 1, 0x0, 1, 1, .u8, .const, 6, [(0, 255)], 1, []⟩,
  ⟨0x4610, 1, 1, 0x1, 1, 1, (.oct 72), .wo, 0, [], 1, [.volatile]⟩,
  ⟨0x4610, 1, 1, 0x2, 1, 1, .u32, .wo, 0, [(1, 4294967295)], 1, [.volatile]⟩,
  ⟨0x4610, 1, 1, 0x3, 1, 1, .u8, .wo, 0, [(1, 1)], 1, [.volatile]⟩,
  ⟨0x4610, 1, 1, 0x4, 1, 1, .u16, .ro, 0, [(0, 256)], 1, [.volatile, .allHalls]⟩,
  ⟨0x4610, 1, 1, 0x5, 1, 1, (.dom 18432), .ro, 0, [], 1, [.volatile]⟩,
  ⟨0x4610, 1, 1, 0x6, 1, 1, .u32, .ro, 0, [(0, 4294967295)], 1, [.volatile]⟩]

/-- Table 20.7: the entries of the index group 0x4800. -/
def rowsSto : List DictRow := [
  ⟨0x4800, 1, 1, 0x0, 1, 1, .u8, .const, 24, [(0, 255)], 1, []⟩,
  ⟨0x4800, 1, 1, 0x1, 1, 1, .u8, .ro, 0, [(0, 2)], 1, [.allHalls]⟩,
  ⟨0x4800, 1, 1, 0x2, 1, 1, .u8, .ro, 0, [(0, 255)], 1, []⟩,
  ⟨0x4800, 1, 1, 0x3, 1, 1, .u16, .ro, 1024, [(0, 65535)], 1, []⟩,
  ⟨0x4800, 1, 1, 0x4, 1, 1, .u16, .ro, 1024, [(0, 65535)], 1, []⟩,
  ⟨0x4800, 1, 1, 0x5, 1, 1, .u16, .ro, 0, [(0, 65535)], 1, []⟩,
  ⟨0x4800, 1, 1, 0x6, 1, 1, .u16, .ro, 0, [(0, 65535)], 1, []⟩,
  ⟨0x4800, 1, 1, 0x7, 1, 1, .u32, .ro, 0, [(0, 4294967295)], 1, [.volatile]⟩,
  ⟨0x4800, 1, 1, 0x8, 1, 1, .u32, .ro, 0, [(0, 4294967295)], 1, [.volatile]⟩,
  ⟨0x4800, 1, 1, 0x9, 1, 1, .i16, .ro, 0, [(-50, 150)], 1, [.volatile]⟩,
  ⟨0x4800, 1, 1, 0xA, 1, 1, .u16, .rw, 30, [(1, 365)], 1, []⟩,
  ⟨0x4800, 1, 1, 0x10, 1, 1, .u64, .w1c, 0, [(0, 18446744073709551615)], 1, [.keptInSettings]⟩,
  ⟨0x4800, 1, 1, 0x11, 1, 1, .u64, .w1c, 0, [(0, 18446744073709551615)], 1, [.keptInSettings]⟩,
  ⟨0x4800, 1, 1, 0x12, 1, 1, .u64, .w1c, 0, [(0, 18446744073709551615)], 1, [.keptInSettings]⟩,
  ⟨0x4800, 1, 1, 0x13, 1, 1, .u64, .w1c, 0, [(0, 18446744073709551615)], 1, [.keptInSettings]⟩,
  ⟨0x4800, 1, 1, 0x14, 1, 1, .u64, .w1c, 0, [(0, 18446744073709551615)], 1, [.keptInSettings]⟩,
  ⟨0x4800, 1, 1, 0x15, 1, 1, .u64, .w1c, 0, [(0, 18446744073709551615)], 1, [.keptInSettings]⟩,
  ⟨0x4800, 1, 1, 0x16, 1, 1, .u64, .w1c, 0, [(0, 18446744073709551615)], 1, [.keptInSettings]⟩,
  ⟨0x4800, 1, 1, 0x17, 1, 1, .u8, .ro, 0, [(0, 255)], 1, []⟩,
  ⟨0x4800, 1, 1, 0x18, 1, 1, .u16, .ro, 0, [(0, 65535)], 1, [.volatile]⟩]

/-- Table 20.7: the entries of the index group 0x4801. -/
def rowsStoc : List DictRow := [
  ⟨0x4801, 1, 1, 0x0, 1, 1, .u8, .const, 254, [(0, 255)], 1, []⟩,
  ⟨0x4801, 1, 1, 0x1, 1, 1, .u32, .rw, 4096, [(0, 11072)], 64, [.group]⟩,
  ⟨0x4801, 1, 1, 0xFD, 1, 1, .u32, .ro, 0, [(0, 4294967295)], 1, []⟩,
  ⟨0x4801, 1, 1, 0xFE, 1, 1, .u8, .wo, 0, [(1, 2)], 1, []⟩]

/-- Table 20.7: the entries of the index group 0x4802. -/
def rowsStlog : List DictRow := [
  ⟨0x4802, 1, 1, 0x0, 1, 1, .u8, .const, 3, [(0, 255)], 1, []⟩,
  ⟨0x4802, 1, 1, 0x1, 1, 1, .u32, .ro, 6976, [(0, 4294967295)], 1, []⟩,
  ⟨0x4802, 1, 1, 0x2, 1, 1, .u64, .ro, 0, [(0, 18446744073709551615)], 1, [.volatile]⟩,
  ⟨0x4802, 1, 1, 0x3, 1, 1, .u64, .ro, 0, [(0, 18446744073709551615)], 1, [.volatile]⟩]

/-- Table 20.7: the entries of the index group 0x4803. -/
def rowsEvl : List DictRow := [
  ⟨0x4803, 1, 1, 0x0, 1, 1, .u8, .const, 4, [(0, 255)], 1, []⟩,
  ⟨0x4803, 1, 1, 0x1, 1, 1, .u64, .ro, 0, [(0, 18446744073709551615)], 1, [.volatile]⟩,
  ⟨0x4803, 1, 1, 0x2, 1, 1, .u64, .ro, 0, [(0, 18446744073709551615)], 1, [.volatile]⟩,
  ⟨0x4803, 1, 1, 0x3, 1, 1, .u64, .rw, 0, [(0, 18446744073709551615)], 1, [.volatile]⟩,
  ⟨0x4803, 1, 1, 0x4, 1, 1, (.dom 65536), .ro, 0, [], 1, [.volatile]⟩]

/-- Table 20.7: the entries of the index group 0x4820. -/
def rowsPart : List DictRow := [
  ⟨0x4820, 256, 1, 0x0, 1, 1, .u8, .const, 254, [(0, 255)], 1, []⟩,
  ⟨0x4820, 256, 1, 0x1, 1, 1, .u32, .rw, 0, [(0, 4294967295)], 64, [.group]⟩,
  ⟨0x4820, 256, 1, 0x2, 1, 1, .u32, .ro, 0, [(0, 4294967295)], 1, [.volatile]⟩,
  ⟨0x4820, 256, 1, 0x3, 1, 1, .u8, .wo, 0, [(1, 1)], 1, [.volatile]⟩,
  ⟨0x4820, 256, 1, 0x10, 1, 1, .u64, .w1c, 0, [(0, 18446744073709551615)], 1, []⟩,
  ⟨0x4820, 256, 1, 0x11, 1, 1, .u64, .w1c, 0, [(0, 18446744073709551615)], 1, []⟩,
  ⟨0x4820, 256, 1, 0x12, 1, 1, .u64, .w1c, 0, [(0, 18446744073709551615)], 1, []⟩,
  ⟨0x4820, 256, 1, 0x13, 1, 1, .u8, .ro, 0, [(0, 255)], 1, []⟩,
  ⟨0x4820, 256, 1, 0xFD, 1, 1, .u32, .ro, 0, [(0, 4294967295)], 1, []⟩,
  ⟨0x4820, 256, 1, 0xFE, 1, 1, .u8, .wo, 0, [(1, 2)], 1, []⟩]

/-- Table 21.6: the entries of the index group 0x4A00. -/
def rowsUpd : List DictRow := [
  ⟨0x4A00, 1, 1, 0x0, 1, 1, .u8, .const, 16, [(0, 255)], 1, []⟩,
  ⟨0x4A00, 1, 1, 0x1, 1, 1, .u32, .ro, 0, [(0, 4294967295)], 1, [.allHalls]⟩,
  ⟨0x4A00, 1, 1, 0x2, 1, 1, .u8, .wo, 0, [(1, 2)], 1, [.volatile]⟩,
  ⟨0x4A00, 1, 1, 0x3, 1, 1, .u8, .ro, 0, [(0, 3)], 1, []⟩,
  ⟨0x4A00, 1, 1, 0x4, 1, 1, .u32, .ro, 0, [(0, 4294967295)], 1, []⟩,
  ⟨0x4A00, 1, 1, 0x5, 1, 1, .u8, .ro, 0, [(0, 64)], 1, []⟩,
  ⟨0x4A00, 1, 1, 0x6, 1, 1, .u8, .ro, 0, [(0, 2)], 1, []⟩,
  ⟨0x4A00, 1, 1, 0x7, 1, 1, .u8, .wo, 0, [(1, 1)], 1, [.volatile]⟩,
  ⟨0x4A00, 1, 1, 0x8, 1, 1, .u8, .ro, 0, [(0, 3)], 1, [.volatile]⟩,
  ⟨0x4A00, 1, 1, 0x9, 1, 1, .u8, .wo, 0, [(1, 1)], 1, [.volatile]⟩,
  ⟨0x4A00, 1, 1, 0xA, 1, 1, .u32, .ro, 0, [(0, 4294967295)], 1, []⟩,
  ⟨0x4A00, 1, 1, 0xB, 1, 1, .u16, .ro, 0, [(0, 65535)], 1, []⟩,
  ⟨0x4A00, 1, 1, 0xC, 1, 1, .u16, .ro, 0, [(0, 65535)], 1, []⟩,
  ⟨0x4A00, 1, 1, 0xD, 1, 1, .u64, .w1c, 0, [(0, 18446744073709551615)], 1, [.keptInSettings]⟩,
  ⟨0x4A00, 1, 1, 0xE, 1, 1, .u64, .w1c, 0, [(0, 18446744073709551615)], 1, [.keptInSettings]⟩,
  ⟨0x4A00, 1, 1, 0xF, 1, 1, .u64, .w1c, 0, [(0, 18446744073709551615)], 1, [.keptInSettings]⟩,
  ⟨0x4A00, 1, 1, 0x10, 1, 1, .u8, .ro, 0, [(0, 255)], 1, []⟩]

/-- Table 21.6: the entries of the index group 0x4A01. -/
def rowsStg : List DictRow := [
  ⟨0x4A01, 1, 1, 0x0, 1, 1, .u8, .const, 1, [(0, 255)], 1, []⟩,
  ⟨0x4A01, 1, 1, 0x1, 1, 1, (.dom 67108864), .rw, 0, [], 1, [.volatile]⟩]

/-- Table 22.12: the entries of the index group 0x4C00. -/
def rowsTwc : List DictRow := [
  ⟨0x4C00, 1, 1, 0x0, 1, 1, .u8, .const, 254, [(0, 255)], 1, []⟩,
  ⟨0x4C00, 1, 1, 0x1, 1, 1, .u8, .rw, 0, [(0, 1)], 1, [.group]⟩,
  ⟨0x4C00, 1, 1, 0x2, 1, 1, .u16, .rw, 0, [(0, 4095)], 1, [.group]⟩,
  ⟨0x4C00, 1, 1, 0x3, 1, 1, .u8, .rw, 0, [(0, 31)], 1, [.group]⟩,
  ⟨0x4C00, 1, 1, 0x4, 1, 1, .u16, .rw, 65535, [(0, 255), (65535, 65535)], 1, [.group]⟩,
  ⟨0x4C00, 1, 1, 0x5, 1, 1, (.oct 6), .rw, 0, [], 1, [.group]⟩,
  ⟨0x4C00, 1, 1, 0x6, 1, 1, .u8, .rw, 1, [(0, 1)], 1, [.group]⟩,
  ⟨0x4C00, 1, 1, 0x7, 1, 1, .u8, .rw, 1, [(0, 1)], 1, [.group]⟩,
  ⟨0x4C00, 1, 1, 0x8, 1, 1, .u16, .rw, 0, [(0, 1000)], 1, [.group]⟩,
  ⟨0x4C00, 1, 1, 0x9, 1, 1, .u8, .rw, 3, [(1, 255)], 1, [.group]⟩,
  ⟨0x4C00, 1, 1, 0xA, 1, 1, .u32, .rw, 1000, [(100, 100000)], 1, [.group]⟩,
  ⟨0x4C00, 1, 1, 0xB, 1, 1, .u8, .rw, 0, [(0, 1)], 1, [.group]⟩,
  ⟨0x4C00, 1, 1, 0xC, 1, 1, .u8, .rw, 0, [(0, 0)], 1, [.group]⟩,
  ⟨0x4C00, 1, 1, 0xFD, 1, 1, .u32, .ro, 0, [(0, 4294967295)], 1, []⟩,
  ⟨0x4C00, 1, 1, 0xFE, 1, 1, .u8, .wo, 0, [(1, 2)], 1, []⟩]

/-- Table 22.12: the entries of the index group 0x4C01. -/
def rowsTws : List DictRow := [
  ⟨0x4C01, 1, 1, 0x0, 1, 1, .u8, .const, 24, [(0, 255)], 1, []⟩,
  ⟨0x4C01, 1, 1, 0x1, 1, 1, .u8, .ro, 0, [(0, 5)], 1, [.volatile, .allHalls]⟩,
  ⟨0x4C01, 1, 1, 0x2, 1, 1, .u16, .ro, 0, [(0, 65535)], 1, [.keptInSettings]⟩,
  ⟨0x4C01, 1, 1, 0x3, 1, 1, .u8, .ro, 0, [(0, 1)], 1, [.volatile]⟩,
  ⟨0x4C01, 1, 1, 0x4, 1, 1, .u8, .ro, 255, [(0, 5), (255, 255)], 1, [.volatile]⟩,
  ⟨0x4C01, 1, 1, 0x5, 1, 1, .u8, .ro, 0, [(0, 255)], 1, [.volatile]⟩,
  ⟨0x4C01, 1, 1, 0x6, 1, 1, .u8, .wo, 0, [(1, 3)], 1, [.volatile]⟩,
  ⟨0x4C01, 1, 1, 0x7, 1, 1, .u16, .ro, 0, [(0, 65535)], 1, [.volatile]⟩,
  ⟨0x4C01, 1, 1, 0x8, 1, 1, .u8, .wo, 0, [(1, 1)], 1, [.volatile]⟩,
  ⟨0x4C01, 1, 1, 0x9, 1, 1, .u16, .ro, 0, [(0, 65535)], 1, [.volatile]⟩,
  ⟨0x4C01, 1, 1, 0x10, 1, 1, .u64, .w1c, 0, [(0, 18446744073709551615)], 1, []⟩,
  ⟨0x4C01, 1, 1, 0x11, 1, 1, .u64, .w1c, 0, [(0, 18446744073709551615)], 1, []⟩,
  ⟨0x4C01, 1, 1, 0x12, 1, 1, .u64, .w1c, 0, [(0, 18446744073709551615)], 1, []⟩,
  ⟨0x4C01, 1, 1, 0x13, 1, 1, .u64, .w1c, 0, [(0, 18446744073709551615)], 1, []⟩,
  ⟨0x4C01, 1, 1, 0x14, 1, 1, .u64, .w1c, 0, [(0, 18446744073709551615)], 1, []⟩,
  ⟨0x4C01, 1, 1, 0x15, 1, 1, .u64, .w1c, 0, [(0, 18446744073709551615)], 1, []⟩,
  ⟨0x4C01, 1, 1, 0x16, 1, 1, .u64, .w1c, 0, [(0, 18446744073709551615)], 1, []⟩,
  ⟨0x4C01, 1, 1, 0x17, 1, 1, .u8, .ro, 0, [(0, 255)], 1, []⟩,
  ⟨0x4C01, 1, 1, 0x18, 1, 1, .u16, .ro, 0, [(0, 65535)], 1, [.volatile]⟩]

/-- Tables 20.7, 22.12: the entries of the index group 0x4C40. -/
def rowsNrole : List DictRow := [
  ⟨0x4C40, 1, 1, 0x0, 1, 1, .u8, .const, 1, [(0, 255)], 1, []⟩,
  ⟨0x4C40, 1, 1, 0x1, 1, 1, (.dom 16384), .ro, 0, [], 1, [.volatile, .allHalls]⟩]

/-- Table 2.6: the entries of the index group 0x5000. -/
def rowsEvlog : List DictRow := [
  ⟨0x5000, 1, 1, 0x0, 1, 1, .u8, .const, 3, [(0, 255)], 1, []⟩,
  ⟨0x5000, 1, 1, 0x1, 1, 1, .u32, .ro, 0, [(0, 4294967295)], 1, []⟩,
  ⟨0x5000, 1, 1, 0x2, 1, 1, .u64, .w1c, 0, [(0, 18446744073709551615)], 1, []⟩,
  ⟨0x5000, 1, 1, 0x3, 1, 1, .u32, .ro, 0, [(0, 4294967295)], 1, [.keptInSettings]⟩]

/-- The rows by the first index of their group: the table the dictionary unit searches (R56). -/
def dictRows : List DictRow :=
  rowsCo ++
  rowsMod ++
  rowsNdp ++
  rowsBind ++
  rowsPwr ++
  rowsPf ++
  rowsPace ++
  rowsClk ++
  rowsDom ++
  rowsGate ++
  rowsSec ++
  rowsLease ++
  rowsKey ++
  rowsSlog ++
  rowsHall ++
  rowsIrq ++
  rowsPair ++
  rowsCore ++
  rowsMem ++
  rowsDwin ++
  rowsHeng ++
  rowsH0qp ++
  rowsDma ++
  rowsIommu ++
  rowsQp ++
  rowsPcfg ++
  rowsSwc ++
  rowsStw ++
  rowsCls ++
  rowsPbuf ++
  rowsPq ++
  rowsFwd ++
  rowsTbl ++
  rowsFwds ++
  rowsGcl ++
  rowsPort ++
  rowsTime ++
  rowsProf ++
  rowsTrgp ++
  rowsPtime ++
  rowsTrgu ++
  rowsCan ++
  rowsCanSt ++
  rowsCanObj ++
  rowsCanRef ++
  rowsCanCo ++
  rowsBu ++
  rowsTun ++
  rowsBctx ++
  rowsSlp ++
  rowsSlpm ++
  rowsSdom ++
  rowsWatch ++
  rowsWsrc ++
  rowsLc ++
  rowsLcg ++
  rowsAdc ++
  rowsAseq ++
  rowsAin ++
  rowsAint ++
  rowsSe ++
  rowsSenet ++
  rowsSeimg ++
  rowsTask ++
  rowsStn ++
  rowsChg ++
  rowsFrc ++
  rowsSto ++
  rowsStoc ++
  rowsStlog ++
  rowsEvl ++
  rowsPart ++
  rowsUpd ++
  rowsStg ++
  rowsTwc ++
  rowsTws ++
  rowsNrole ++
  rowsEvlog

end Sys2Proof.Machine
end

