-- ==== Sys2Proof/Machine/Persist.lean ====
section
/-! DEFINITION. The dictionary's rows as one table, and its persistent entries (R82). -/

namespace Sys2Proof.Machine

/-- The row describes this index. -/
def DictRow.hasIndex (r : DictRow) (i : Nat) : Bool :=
  decide (r.base ≤ i) && decide (i < r.base + r.count * r.stride) && (i - r.base) % r.stride == 0

/-- The row describes this subindex. -/
def DictRow.hasSub (r : DictRow) (s : Nat) : Bool :=
  decide (r.sub ≤ s) && decide (s < r.sub + r.subs * r.subStride) && (s - r.sub) % r.subStride == 0

/-- Rows of an index, and the row of an entry. -/
def rowsOf (i : Nat) : List DictRow := dictRows.filter fun r => r.hasIndex i
def rowOf (i s : Nat) : Option DictRow := (rowsOf i).find? fun r => r.hasSub s

/-- Persistent: access rw or rws, not marked volatile (R82). -/
def DictRow.persistent (r : DictRow) : Bool := (r.acc == .rw || r.acc == .rws) && !r.notes.contains .volatile

/-- The persistent entry of a key, if it is one (R82). -/
def persistentKey (k : Nat) : Bool := (rowOf (k / 256) (k % 256)).any DictRow.persistent

/-- The persistent entries among those of `p` take their defaults. -/
def Dev.defaulted (d : Dev) (p : Nat → Bool) : Dev :=
  let gone (k : Nat) : Bool := p k && persistentKey k
  { d with dict := KV.keep (fun k _ => !gone k) d.dict, blobs := KV.keep (fun k _ => !gone k) d.blobs }

/-- The bits of an entry of a type: 0 for strings and domains. -/
def Ty.bits (t : Ty) : Nat := 8 * (t.bytes).getD 0

/-- The entry of a row at an index and subindex. -/
def DictRow.entry (r : DictRow) (i s : Nat) : Entry := ⟨i, s, r.ty.bits, (r.dflt % (2 ^ r.ty.bits : Nat)).toNat⟩

/-- The persistent entries of an index range, in index and subindex order. -/
def persistentIn (lo hi : Nat) : List (Ty × Entry) :=
  (List.range (hi + 1 - lo)).flatMap fun k =>
    let l := (rowsOf (lo + k)).filter DictRow.persistent
    (List.range 256).flatMap fun s => (l.filter fun r => r.hasSub s).map fun r => (r.ty, r.entry (lo + k) s)

/-- The value of an entry at its type's length. -/
def Dev.storedBytes (d : Dev) (x : Ty × Entry) : Bytes :=
  match x.1 with
  | .oct n => slice (d.oct x.2) 0 n
  | .dom _ | .str _ => d.oct x.2
  | _ => le (x.2.bits / 8) (d.get x.2)

end Sys2Proof.Machine
end

