-- ==== Sys2Proof/Machine/Can.lean ====
section
/-! DEFINITION. CAN channels: transmit buffers, receive objects, locks, fault confinement, reference messages and CANopen services
(R164 to R193). -/

namespace Sys2Proof.Machine

def canReset : CanCh := ⟨none, [], [], [], 0, [], [], none, false, false, .idle, none, false, none, 0⟩

def Dev.canCh (d : Dev) (n : Nat) : CanCh := KV.get canReset n d.can

def Dev.setCan (d : Dev) (n : Nat) (f : CanCh → CanCh) : Dev := { d with can := KV.put canReset n (f (d.canCh n)) d.can }

/-- A counter of Table 7.9: RX_FRAMES 0 to TX_DISCARDED 9. -/
def canCounter (n i : Nat) : Counter := ctr ⟨0x3801 + 16 * n, 0x10 + i, 64, 0⟩ (Ent.CanSt.COUNTER_SAT n) i (srcCan n)

/-- Set a bit of the channel's IRQ field. -/
def Dev.canIrq (d : Dev) (n b : Nat) : Dev := d.setFldBit (Rg.Ch.IRQ n) b true

/-- Payload length of a DLC (ISO 11898-1). -/
def dlcLen (fdf : Bool) (dlc : Nat) : Nat :=
  if dlc ≤ 8 then dlc else if fdf then ([12, 16, 20, 24, 32, 48, 64][dlc - 9]?).getD 64 else 8

/-- Identifiers in the order arbitration compares them (R168). -/
def arbKey (ide : Bool) (id : Nat) : Nat :=
  if ide then id / 2 ^ 18 % 2 ^ 11 * 2 ^ 19 + 2 ^ 18 + id % 2 ^ 18 else id % 2 ^ 11 * 2 ^ 19

/-- The stamp of an SOF at a raw tick: corrected time as it stood there, `phase` being the interpolator's (R150, R167). -/
def Dev.stampAt (d : Dev) (raw phase : Nat) : Nat × Nat × Nat :=
  let t := d.time.asOf raw
  let c := t.corrected256 raw phase
  (c / 256 % 2 ^ 32, c % 256, t.tgen)

/-- The transceiver keeps its controller on the bus: any other state of the ZC2408 model than NORMAL does not (R205), nor does a low-power state of a
sleep entry (Table 8.4 step 3). While the SYS domain stands still its transceivers are recessive and its controllers hear nothing (R423, R425). -/
def Dev.trxOnBus (d : Dev) (n : Nat) : Bool :=
  d.get Ent.Pwr.PF_STATE == 0 && d.get (Ent.Dom.SOURCE 3) != 0xFF && d.sleep.armed.isNone && (d.get Ent.Slpm.MODEL == 0 || KV.get 0 n d.sleep.trx == 0)

/-! ### Transmit buffers (R168 to R172) -/

/-- Payload of a transmit buffer: DATA0 to DATA15. -/
def Dev.txbData (d : Dev) (n k len : Nat) : Bytes :=
  ((List.range 16).flatMap fun i => le 4 (d.fld (Rg.Txb.DATA n k i))).take len

/-- The frame in a transmit buffer. -/
def Dev.txbFrame (d : Dev) (n k : Nat) : CanFrame :=
  let ide := d.isSet (Rg.Txb.IDE n k)
  let fdf := d.isSet (Rg.Txb.FDF n k)
  let rtr := d.isSet (Rg.Txb.RTR n k)
  let dlc := d.fld (Rg.Txb.DLC n k)
  ⟨d.fld (Rg.Txb.ID n k) % (if ide then 2 ^ 29 else 2 ^ 11), ide, fdf, d.isSet (Rg.Txb.BRS n k), false, rtr, dlc,
    if rtr then [] else d.txbData n k (dlcLen fdf dlc)⟩

/-- A completion of a buffer: CODE, REASON, DONE, PENDING clear, the TX interrupt (R170). -/
def Dev.txbDone (d : Dev) (n k : Nat) (s : Status) (reason : Nat) : Dev :=
  let d := ((d.setFld (Rg.Txb.CODE n k) s.code).setFld (Rg.Txb.REASON n k) reason).setFld (Rg.Txb.DONE n k) 1
  ((d.setFld (Rg.Txb.PENDING n k) 0).setCan n fun c => { c with aborts := c.aborts.filter (· ≠ k) }).canIrq n k

/-- The hall a transmit buffer is allocated to. -/
def Dev.txbHall (d : Dev) (n k : Nat) : Nat := leAt (d.oct (Ent.CanObj.TXB_HALL n)) k 1

/-- The first failing check of R169, steps 2 to 5. -/
def Dev.sendCheck (d : Dev) (n k : Nat) : Status :=
  let epv := d.isSet (Rg.Txb.EPV n k)
  let epochBad := (epv || d.txbHall n k != 0) && !d.epochOk (.canTxb n k) epv (d.fld (Rg.Txb.EPOCH n k))
  let fdf := d.isSet (Rg.Txb.FDF n k)
  if epochBad then .staleEpoch
  else if d.get (Ent.CanSt.STATE n) = 0 then .wrongState
  else if d.get (Ent.CanSt.STATE n) = 2 then .draining
  else if d.fld (Rg.Ch.BUS n) = 2 ∨ d.flag (Ent.Can.LISTEN_ONLY n) ∨ (d.get (Ent.Can.MODE n) = 0 ∧ fdf) then .wrongState
  else if (d.isSet (Rg.Txb.RTR n k) && fdf) || (d.isSet (Rg.Txb.BRS n k) && !fdf) then .outOfRange
  else .ok

/-- ABORT of a buffer: at once before SOF, else after the frame on the bus (R171). -/
def canAbortOp (n k : Nat) (d : Dev) : Dev :=
  if d.isSet (Rg.Txb.PENDING n k) then
    if (d.canCh n).onBus.any fun b => b.txb == some k then d.setCan n fun c => { c with aborts := k :: c.aborts.filter (· ≠ k) }
    else d.txbDone n k .aborted 7
  else d

/-- SEND after its checks: the mailbox is PENDING, or a refused SEND is DONE at once with its status (R169). -/
def Dev.sendDecided (d : Dev) (n k : Nat) (s : Status) : Dev :=
  match s with
  | .ok => (((d.setFld (Rg.Txb.PENDING n k) 1).setFld (Rg.Txb.DONE n k) 0).setFld (Rg.Txb.CODE n k) 0).setFld (Rg.Txb.ATTEMPTS n k) 0
  | s =>
    let d := if s = .staleEpoch then d.staleReject (srcCan n) (d.epoch (.canTxb n k)) else d
    (((d.setFld (Rg.Txb.CODE n k) s.code).setFld (Rg.Txb.REASON n k) 0).setFld (Rg.Txb.DONE n k) 1).canIrq n k

/-- A write of `v` with SEND 1 to a buffer's control word (R169); an ABORT in the same word follows the SEND (R172). -/
def canSendOp (n k v : Nat) (d : Dev) : Dev :=
  let d :=
    if d.isSet (Rg.Txb.PENDING n k) then d.setFld (Rg.Txb.OVERRUN n k) 1
    else
      let d := ((d.setFld (Rg.Txb.ONESHOT n k) (bits v 29 29)).setFld (Rg.Txb.EPV n k) (bits v 28 28)).setFld (Rg.Txb.EPOCH n k) (bits v 15 0)
      d.sendDecided n k (d.sendCheck n k)
  (if bit v 30 then canAbortOp n k d else d).answer .ok

/-- The pending buffer that TX_ORDER picks (R168); those of a stopped hall are held (Table 16.6). -/
def Dev.txCandidate (d : Dev) (n : Nat) : Option Nat :=
  let pend := (List.range 3).filter fun k => d.isSet (Rg.Txb.PENDING n k) && !d.hallStopped (d.txbHall n k)
  let key (k : Nat) : Nat := arbKey (d.txbFrame n k).ide (d.txbFrame n k).id
  if d.get (Ent.Can.TX_ORDER n) = 1 then pend.head?
  else pend.foldl (fun b k => match b with
    | none => some k
    | some j => if key k < key j then some k else some j) none

/-- The reference message of a channel at its SOF (Table 7.6). -/
def Dev.refFrame (d : Dev) (n cycle : Nat) : CanFrame :=
  let prio := d.get (Ent.CanRef.REF_PRIO n)
  let ide := d.flag (Ent.CanRef.REF_IDE n)
  let id := d.get (Ent.CanRef.REF_ID n) + prio
  ⟨if ide then id else id % 2 ^ 11, ide, false, false, false, false, 8,
    le 4 (d.now % 2 ^ 32) ++ le 2 (d.fld (Rg.Ch.REF_SEC n)) ++ le 1 cycle ++ le 1 (prio * 32 + b2n d.tu * 16)⟩

/-- The frame a service entry sends now. -/
def Dev.svcFrame (d : Dev) (n : Nat) (x : SvcFrame) : CanFrame :=
  match x.ref with
  | some c => d.refFrame n c
  | none => x.frame

/-- The bus allows a start: the candidate and the head of the service transmitter are compared and the lower identifier starts
(R168). A channel that is DISABLED, not error-active or error-passive, or in LISTEN_ONLY starts nothing. -/
def canTxStartOp (n phase : Nat) (d : Dev) : Dev :=
  let ch := d.canCh n
  if d.get (Ent.CanSt.STATE n) = 0 ∨ 2 ≤ d.fld (Rg.Ch.BUS n) ∨ d.flag (Ent.Can.LISTEN_ONLY n) ∨ ch.onBus.isSome ∨ !d.trxOnBus n then d
  else
    let s := d.stampAt d.time.raw phase
    let svc := ch.service.head?.map fun x => d.svcFrame n x
    let go (t : Option Nat) (f : CanFrame) (d : Dev) : Dev :=
      (d.setCan n fun c => { c with onBus := some ⟨t, f, s.1, s.2.1, s.2.2⟩ }).emit (.can n f)
    let txb (k : Nat) (d : Dev) : Dev :=
      go (some k) (d.txbFrame n k) (d.setFld (Rg.Txb.ATTEMPTS n k) (min 255 (d.fld (Rg.Txb.ATTEMPTS n k) + 1)))
    match d.txCandidate n, svc with
    | none, none => d
    | some k, none => txb k d
    | none, some f => go none f d
    | some k, some f =>
      if arbKey (d.txbFrame n k).ide (d.txbFrame n k).id < arbKey f.ide f.id then txb k d else go none f d

/-- The attempt of the frame on the bus has failed: its buffer completes by ABORT, by drain or with `reason` under ONESHOT, or it is
retried (R170, R171, R183); a service frame is retried, or discarded while the channel drains; a reference message that a later firing has replaced
is not retried (R185). -/
def Dev.attemptFailed (d : Dev) (n reason : Nat) : Dev :=
  match (d.canCh n).onBus with
  | none => d
  | some b =>
    let ab := (d.canCh n).aborts
    let drain := d.get (Ent.CanSt.STATE n) == 2
    let late := (d.canCh n).late
    let d := d.setCan n fun c => { c with onBus := none, released := false, late := false }
    match b.txb with
    | some k =>
      if ab.contains k then d.txbDone n k .aborted 7
      else if drain then d.txbDone n k .aborted 8
      else if d.isSet (Rg.Txb.ONESHOT n k) then d.txbDone n k .aborted reason
      else d
    | none =>
      if drain then (d.setCan n fun c => { c with service := [] }).count (canCounter n 9) (d.canCh n).service.length
      else if late then d.setCan n fun c => { c with service := c.service.drop 1 } else d

/-- Arbitration is lost (R170). -/
def canArbitrationLostOp (n : Nat) (d : Dev) : Dev := d.attemptFailed n 1

/-! ### Fault confinement (R181, R182) -/

/-- The error state of the counters: error-passive above 127. -/
def passiveOf (tec rec : Nat) : Nat := if 127 < tec ∨ 127 < rec then 1 else 0

/-- Take new error counters: warning interrupts when a counter rises to its threshold, ERROR_PASSIVE when the channel becomes
error-passive. The counters are 8 bits; above 255 TEC the channel is bus-off. -/
def Dev.setErrCounters (d : Dev) (n tec rec : Nat) : Dev :=
  let t0 := d.fld (Rg.Ch.TEC n)
  let r0 := d.fld (Rg.Ch.REC n)
  let d := (d.setFld (Rg.Ch.TEC n) (min tec 255)).setFld (Rg.Ch.REC n) (min rec 255)
  let warn (d : Dev) (b old new th : Nat) : Dev := if old < th ∧ th ≤ new then d.canIrq n b else d
  let d := warn d 6 t0 tec (d.get (Ent.Can.TEC_WARN1 n))
  let d := warn d 7 t0 tec (d.get (Ent.Can.TEC_WARN2 n))
  let d := warn d 8 r0 rec (d.get (Ent.Can.REC_WARN1 n))
  let d := warn d 9 r0 rec (d.get (Ent.Can.REC_WARN2 n))
  if 2 ≤ d.fld (Rg.Ch.BUS n) then d
  else
    let p := passiveOf tec rec
    let was := d.fld (Rg.Ch.BUS n)
    let d := d.setFld (Rg.Ch.BUS n) p
    if was = 0 ∧ p = 1 ∧ tec ≤ 255 then (d.canIrq n 10).event (srcCan n) 0x0020 (min tec 255 * 256 + min rec 255) else d

/-- The channel enters bus-off (R172, R182). -/
def Dev.busOff (d : Dev) (n : Nat) : Dev :=
  let pend := (List.range 3).filter fun k => d.isSet (Rg.Txb.PENDING n k)
  let svc := (d.canCh n).service.length
  let d := pend.foldl (fun d k => d.txbDone n k .aborted 6) d
  let d := (d.setFld (Rg.Ch.BUS n) 2).setCan n fun c =>
    { c with onBus := none, service := [], aborts := [], recovering := d.flag (Ent.Can.AUTO_RECOVER n), late := false }
  let d := (d.count (canCounter n 9) svc).count (canCounter n 6)
  (d.canIrq n 11).event (srcCan n) 0x0021 pend.length

/-- REASON of a one-shot error by LEC (Table 7.1); an error that only receivers see counts as form error (DEDUCED). -/
def errReason (lec : Nat) : Nat := ([0, 3, 4, 5, 2, 2, 4][lec]?).getD 4

/-- By how much TEC and REC rise (ISO 11898-1, R181). The channel is the transmitter while its frame is on the bus. -/
def Dev.errorSteps (d : Dev) (n lec : Nat) (at_ : CanErrorAt) : Nat × Nat :=
  let sends := (d.canCh n).onBus.isSome
  match at_ with
  | .transmitterFlag => (8, 0)
  | .receiverFlag => (0, 8)
  | .arbitrationStuff => if sends then (if lec = 1 then 0 else 8, 0) else (0, 1)
  | .quietAck => if sends then (if lec = 3 ∧ d.fld (Rg.Ch.BUS n) = 1 then 0 else 8, 0) else (0, 1)
  | .frame => if sends then (8, 0) else (0, 1)

/-- The controller detects a bus error of kind `lec` (Table 7.5). -/
def canErrorCore (n lec : Nat) (at_ : CanErrorAt) (d : Dev) : Dev :=
  if d.get (Ent.CanSt.STATE n) = 0 ∨ 2 ≤ d.fld (Rg.Ch.BUS n) ∨ !d.trxOnBus n then d
  else
    let up := d.errorSteps n lec at_
    let tec := d.fld (Rg.Ch.TEC n) + up.1
    let rec_ := d.fld (Rg.Ch.REC n) + up.2
    let d := ((d.setFld (Rg.Ch.LEC n) lec).count (canCounter n 5)).attemptFailed n (errReason lec)
    let d := d.setErrCounters n tec rec_
    if 255 < tec then d.busOff n else d

/-- RESTART starts recovery; outside bus-off it has no effect (R182). -/
def canRestartOp (n : Nat) (d : Dev) : Dev :=
  (if d.fld (Rg.Ch.BUS n) = 2 then d.setCan n fun c => { c with recovering := true } else d).answer .ok

/-- Recovery ends (R182). A DISABLED channel sees no bus. -/
def canBusRecoveredOp (n : Nat) (d : Dev) : Dev :=
  if d.fld (Rg.Ch.BUS n) = 2 ∧ (d.canCh n).recovering ∧ d.get (Ent.CanSt.STATE n) ≠ 0 then
    let d := ((d.setFld (Rg.Ch.BUS n) 0).setFld (Rg.Ch.TEC n) 0).setFld (Rg.Ch.REC n) 0
    ((d.setCan n fun c => { c with recovering := false }).canIrq n 12).event (srcCan n) 0x0022 0
  else d

/-- Integration ends: the channel becomes error-active (R192, Table 7.5). -/
def canIntegrationEndOp (n : Nat) (d : Dev) : Dev :=
  if d.fld (Rg.Ch.BUS n) = 3 ∧ d.get (Ent.CanSt.STATE n) ≠ 0 then
    d.setFld (Rg.Ch.BUS n) (passiveOf (d.fld (Rg.Ch.TEC n)) (d.fld (Rg.Ch.REC n)))
  else d

/-- The transceiver's TXD dominant time-out releases the bus until the frame on the bus ends (R165). -/
def dominantTimeoutOp (n : Nat) (d : Dev) : Dev :=
  if (d.canCh n).onBus.isSome then d.setCan n fun c => { c with released := true } else d

/-- The frame on the bus is sent without error (R170): its buffer completes with OK and its stamp; TEC falls by 1. A frame whose
transceiver has released the bus is not sent. -/
def canTxCompleteOp (n : Nat) (d : Dev) : Dev :=
  match (d.canCh n).onBus with
  | none => d
  | some b =>
    if (d.canCh n).released then d else
    let d := (d.setCan n fun c => { c with onBus := none, late := false }).count (canCounter n 1)
    let d := match b.txb with
      | some k =>
        let d := ((d.setFld (Rg.Txb.STAMP n k) b.stamp).setFld (Rg.Txb.TGEN n k) b.tgen).setFld (Rg.Txb.FRAC n k) b.frac
        d.txbDone n k .ok 0
      | none =>
        let isRef := ((d.canCh n).service.head?.bind (·.ref)).isSome
        let d := d.setCan n fun c => { c with service := c.service.drop 1 }
        if isRef then d.canIrq n 16 else d
    d.setErrCounters n (d.fld (Rg.Ch.TEC n) - 1) (d.fld (Rg.Ch.REC n))

/-! ### Receive objects, shadow, FIFO, locks (R174 to R180) -/

/-- Record `k` of OBJ_TABLE. -/
def Dev.objRec (d : Dev) (n k : Nat) : Bytes := slice (d.oct (Ent.CanObj.OBJ_TABLE n)) (8 * k) 8

def objValid (r : Bytes) : Bool := bit (leAt r 0 4) 31
def objIrqEn (r : Bytes) : Bool := bit (leAt r 0 4) 30
def objIde (r : Bytes) : Bool := bit (leAt r 0 4) 29
def objId (r : Bytes) : Nat := leAt r 0 4 % 2 ^ 29
def objHall (r : Bytes) : Nat := leAt r 4 1

/-- A frame is lost: RX_LOST, its event and interrupt (R175, R177). -/
def Dev.rxLost (d : Dev) (n k : Nat) : Dev :=
  let d := d.setFld (Rg.Obj.LOSTCNT n k) (min 255 (d.fld (Rg.Obj.LOSTCNT n k) + 1))
  ((d.count (canCounter n 2)).canIrq n 13).limited (scopeOf (srcCan n) 0x0023) 1
    fun d c => d.event (srcCan n) 0x0023 (min c 0xFFFFFFFF)

/-- Put the words of a frame into an object (Table 7.3). -/
def Dev.objWords (d : Dev) (n k : Nat) (x : RxFrame) : Dev :=
  let f := x.frame
  let d := (((d.setFld (Rg.Obj.FDF n k) (b2n f.fdf)).setFld (Rg.Obj.BRS n k) (b2n f.brs)).setFld (Rg.Obj.ESI n k) (b2n f.esi)).setFld
    (Rg.Obj.IDE n k) (b2n f.ide)
  let d := ((((d.setFld (Rg.Obj.DLC n k) f.dlc).setFld (Rg.Obj.ID n k) f.id).setFld (Rg.Obj.STAMP n k) x.stamp).setFld
    (Rg.Obj.TGEN n k) x.tgen).setFld (Rg.Obj.FRAC n k) x.frac
  (List.range 16).foldl (fun d i => d.setFld (Rg.Obj.DATA n k i) (leAt f.data (4 * i) 4)) d

/-- Store a frame in an object: NEW becomes 1 and RXSEQ counts (R175); hall 0's interrupt if IRQ_EN (R180). -/
def Dev.objStore (d : Dev) (n k : Nat) (x : RxFrame) : Dev :=
  let was := d.isSet (Rg.Obj.NEW n k)
  let d := ((d.objWords n k x).setFld (Rg.Obj.NEW n k) 1).setFld (Rg.Obj.RXSEQ n k) (d.fld (Rg.Obj.RXSEQ n k) + 1)
  let r := d.objRec n k
  if !was && objIrqEn r && objHall r == 0 then d.canIrq n 3 else d

/-- A frame for object `k` (R175, R177). -/
def Dev.objReceive (d : Dev) (n k : Nat) (x : RxFrame) : Dev :=
  match KV.find k (d.canCh n).locks with
  | some _ =>
    let d := match (d.canCh n).shadow with
      | some (j, _) => d.rxLost n j
      | none => d
    d.setCan n fun c => { c with shadow := some (k, x) }
  | none => (if d.isSet (Rg.Obj.NEW n k) then d.rxLost n k else d).objStore n k x

/-- The catch-all FIFO takes a frame, or drops it when it is full (R179). -/
def Dev.fifoReceive (d : Dev) (n : Nat) (x : RxFrame) : Dev :=
  if (d.canCh n).fifo.length < 32 then
    (d.setCan n fun c => { c with fifo := c.fifo ++ [{ x with seq := (c.fifoSeq + 1) % 65536 }], fifoSeq := (c.fifoSeq + 1) % 65536 }).canIrq n 4
  else ((d.setFld (Rg.Ch.OVF n) 1).count (canCounter n 3)).canIrq n 5

/-- The lock of object `k`, or of the FIFO head for 64, is released (R176, R178): NEW clears, the noted value leaves LOSTCNT, and the
shadow moves in; `pop` takes the head out of the FIFO (R179). -/
def Dev.release (d : Dev) (n k : Nat) (pop : Bool) : Dev :=
  match KV.find k (d.canCh n).locks with
  | none => d
  | some l =>
    let d := d.setCan n fun c => { c with locks := KV.erase k c.locks }
    if k = 64 then (if pop then d.setCan n fun c => { c with fifo := c.fifo.drop 1 } else d)
    else
      let d := (d.setFld (Rg.Obj.NEW n k) 0).setFld (Rg.Obj.LOSTCNT n k) (d.fld (Rg.Obj.LOSTCNT n k) - l.noted)
      match (d.canCh n).shadow with
      | some (j, x) => if j = k then (d.setCan n fun c => { c with shadow := none }).objStore n k x else d
      | none => d

/-- The HDR word of the FIFO head (Table 7.3). -/
def fifoHdr (x : RxFrame) : Nat :=
  let f := x.frame
  2 ^ 31 + b2n f.fdf * 2 ^ 29 + b2n f.brs * 2 ^ 28 + b2n f.esi * 2 ^ 27 + b2n f.ide * 2 ^ 26 + b2n f.rtr * 2 ^ 25 + f.dlc % 16 * 65536

/-- A word of the FIFO head's record. -/
def Dev.fifoWord (d : Dev) (n off : Nat) : Nat :=
  match (d.canCh n).fifo with
  | [] => 0
  | x :: _ =>
    if off = 0 then fifoHdr x else if off = 4 then x.frame.id else if off = 8 then x.stamp
    else if off = 12 then x.tgen * 2 ^ 24 + x.frac * 65536
    else if off = 0x50 then x.seq
    else if 0x10 ≤ off ∧ off < 0x50 then leAt x.frame.data (off - 0x10) 4 else 0

/-- The HDR word of object `k` or of the FIFO (64). -/
def Dev.hdrWord (d : Dev) (n k : Nat) : Nat :=
  if k = 64 then d.fifoWord n 0 else d.word (Rg.Obj.NEW n k).addr 0

/-- A read of HDR locks the object to the reading initiator and notes LOSTCNT, unless another holds the lock (R176); an empty FIFO
takes no lock (R179). -/
def objHdrReadOp (n k : Nat) (i : Initiator) (d : Dev) : Dev :=
  match KV.find k (d.canCh n).locks with
  | some l => d.answer .ok (if l.holder = i.id then d.hdrWord n k else setBit (d.hdrWord n k) 30 true)
  | none =>
    if k = 64 ∧ (d.canCh n).fifo = [] then d.answer .ok 0
    else
      let noted := if k = 64 then 0 else d.fld (Rg.Obj.LOSTCNT n k)
      (d.setCan n fun c => { c with locks := KV.insert k ⟨i.id, noted⟩ c.locks,
                                    expired := KV.put [] k ((KV.get [] k c.expired).filter (· ≠ i.id)) c.expired }).answer .ok (d.hdrWord n k)

/-- A read of TAIL by the holder releases the lock; the former holder of an expired lock reads EXPIRED 1; another's read has no
effect (R176, R178). -/
def objTailReadOp (n k : Nat) (i : Initiator) (d : Dev) : Dev :=
  let w := if k = 64 then d.fifoWord n 0x50 else d.fld (Rg.Obj.RXSEQ n k)
  let other := w + if (KV.get [] k (d.canCh n).expired).contains i.id then 2 ^ 31 else 0
  match KV.find k (d.canCh n).locks with
  | some l => if l.holder = i.id then (d.release n k true).answer .ok w else d.answer .ok other
  | none => d.answer .ok other

/-- A lock expires: after LOCK_TIMEOUT_US, or at the reset of the object's hall (R178). -/
def Dev.lockExpires (d : Dev) (n k : Nat) : Dev :=
  match KV.find k (d.canCh n).locks with
  | none => d
  | some l =>
    let d := (d.release n k false).setCan n fun c => { c with expired := KV.put [] k (l.holder :: (KV.get [] k c.expired).filter (· ≠ l.holder)) c.expired }
    ((d.count (canCounter n 7)).canIrq n 14).limited (scopeOf (srcCan n) 0x0024) 1
      fun d c => d.event (srcCan n) 0x0024 (min c 0xFFFF * 65536 + k % 64)

/-- The object bound to an identifier and IDE. -/
def Dev.objFor (d : Dev) (n : Nat) (f : CanFrame) : Option Nat :=
  (List.range 64).find? fun k => let r := d.objRec n k
    objValid r && objIde r == f.ide && objId r == f.id

/-- Steps 3 and 4 of R173 for a frame no service took. -/
def Dev.objOrFifo (d : Dev) (n : Nat) (x : RxFrame) : Dev :=
  let f := x.frame
  let want := d.get (Ent.Can.CATCHALL_ID n)
  let catchAll := d.flag (Ent.Can.CATCHALL_EN n) && bit want 29 == f.ide &&
    (BitVec.ofNat 29 f.id ^^^ BitVec.ofNat 29 want) &&& BitVec.ofNat 29 (d.get (Ent.Can.CATCHALL_MASK n)) == 0#29
  let rest (d : Dev) : Dev := if catchAll then d.fifoReceive n x else d.count (canCounter n 4)
  if f.rtr then rest d
  else match d.objFor n f with
    | some k => d.objReceive n k x
    | none => rest d

/-! ### Reference messages (R184 to R186) -/

/-- The identifier lies in the channel's reference group. -/
def Dev.inRefGroup (d : Dev) (n : Nat) (ide : Bool) (id : Nat) : Bool :=
  let b := d.get (Ent.CanRef.REF_ID n)
  ide == d.flag (Ent.CanRef.REF_IDE n) && decide (b ≤ id) && decide (id ≤ b + 7)

/-- A reference message is a classical data frame with DLC 8 (R184). -/
def refMessage (f : CanFrame) : Bool := !f.fdf && !f.rtr && f.dlc == 8

/-- A slave or backup master takes a reference message into the REF_RX registers (R186). -/
def Dev.refReceive (d : Dev) (n : Nat) (x : RxFrame) : Dev :=
  let b := x.frame.data
  let d := ((d.setFld (Rg.Ch.REF_RX_TIME n) (leAt b 0 4)).setFld (Rg.Ch.REF_RX_STAMP n) x.stamp).setFld (Rg.Ch.REF_RX_INFO n)
    (x.tgen * 2 ^ 24 + x.frac * 65536 + leAt b 6 1 * 256 + leAt b 7 1)
  let d := (d.setFld (Rg.Ch.REF_RX_SEC n) (leAt b 4 2)).canIrq n 15
  if leAt b 7 1 / 32 < d.get (Ent.CanRef.REF_PRIO n) then d.setCan n fun c => { c with lastRef := some d.time.raw } else d

/-- A trigger of kind 4 fires for the channel with its cycle count and period: a master queues its message, replacing one still
unsent (REF_LATE), also one whose attempt on the bus is not over; a backup master keeps quiet while a master of higher priority is heard; the
standby sends none (R185, R191). In bus-off the message is discarded (R172). -/
def Dev.refSend (d : Dev) (n cycle period : Nat) (standby : Bool) : Dev :=
  let ch := d.canCh n
  let role := d.get (Ent.CanRef.REF_ROLE n)
  let heard : Bool := match ch.lastRef with
    | some t => decide (2 * (d.time.raw - t) ≤ 3 * period)
    | none => false
  if d.get (Ent.CanSt.STATE n) ≠ 1 ∨ standby ∨ (role ≠ 1 ∧ role ≠ 3) ∨ (role = 3 ∧ heard) then d
  else if d.fld (Rg.Ch.BUS n) = 2 then d.count (canCounter n 9)
  else
    let sending := ch.onBus.any fun b => b.txb.isNone
    let kept := if sending then ch.service.take 1 else []
    let wait := if sending then ch.service.drop 1 else ch.service
    let queued := wait.any fun x => x.ref.isSome
    let onBus := (kept.any fun x => x.ref.isSome) && !ch.late
    let msg : SvcFrame := ⟨d.refFrame n cycle, some (cycle % 256), none⟩
    let q := kept ++ (if queued then wait.map fun x => if x.ref.isSome then msg else x else wait ++ [msg])
    let d := d.setCan n fun c => { c with service := q, late := c.late || onBus }
    if queued || onBus then
      (d.count (canCounter n 8)).limited (scopeOf (srcCan n) 0x0027) 1 fun d c => d.event (srcCan n) 0x0027 (min c 0xFFFFFFFF)
    else d

/-- `off` of R186 in two's complement of 32 bits. -/
def Dev.refOffset (d : Dev) (n : Nat) (x : RxFrame) : Int :=
  toInt 32 (ofInt 32 ((leAt x.frame.data 0 4 : Int) - (x.stamp - d.get (Ent.CanRef.REF_DELAY_NS n))))

/-- `master_time` of R186. -/
def masterTime (localNow sec16 lo32 : Nat) : Nat :=
  let ls := localNow / 1000000000
  let dl := (sec16 + 65536 - ls % 65536) % 65536
  let ds : Int := if dl < 0x8000 then dl else (dl : Int) - 0x10000
  let mid : Int := ((ls : Int) + ds) * 1000000000 + 500000000
  ofInt 64 (mid + toInt 32 (ofInt 32 ((lo32 : Int) - mid)))

/-! ### CANopen services (R187 to R190) -/

/-- A frame for the service transmitter of an ENABLED channel; in bus-off it is discarded and counted (R172). -/
def Dev.svcQueue (d : Dev) (n : Nat) (x : SvcFrame) : Dev :=
  if d.get (Ent.CanSt.STATE n) ≠ 1 then d
  else if d.fld (Rg.Ch.BUS n) = 2 then d.count (canCounter n 9)
  else d.setCan n fun c => { c with service := c.service ++ [x] }

/-- A classical data frame under a COB-ID, whose bit 29 says that it has 29 bits (CiA 301). -/
def cobFrame (cob : Nat) (b : Bytes) : CanFrame :=
  ⟨cob % (if bit cob 29 then 2 ^ 29 else 2 ^ 11), bit cob 29, false, false, false, false, b.length, b⟩

/-- Send a service frame under a COB-ID. -/
def Dev.svcSend (d : Dev) (n cob : Nat) (b : Bytes) : Dev := d.svcQueue n ⟨cobFrame cob b, none, none⟩

/-- The channel's NMT state changes, with NMT_STATE (R188). -/
def Dev.setNmt (d : Dev) (n st : Nat) : Dev :=
  if d.get (Ent.CanCo.NMT n) = st then d else (d.put (Ent.CanCo.NMT n) st).event (srcCan n) 0x0026 st

/-- An entry takes its stored value, or its default where none is stored (R188). -/
def Dev.restoreEntry (d : Dev) (e : Entry) : Dev :=
  { d with dict := match KV.find e.key d.d0.stored with
    | some v => KV.insert e.key v d.dict
    | none => KV.erase e.key d.dict }

/-- The communication entries of a channel (Table 7.7): its SDO COB-IDs, the consumer heartbeats that name it, and communication and mapping of the
PDOs that name it. The producer heartbeat time is every channel's and stays (DEDUCED, assumption 61). -/
def Dev.commEntries (d : Dev) (n : Nat) : List Entry :=
  let pdo (rx : Bool) (k : Nat) : List Entry :=
    if d.get (if rx then Ent.Co.RPDO_CHANNEL k else Ent.Co.TPDO_CHANNEL k) = n then
      if rx then [Ent.Co.RPDO_COB k, Ent.Co.RPDO_TYPE k, Ent.Co.RPDO_INHIBIT k, Ent.Co.RPDO_EVENT_TIMER k, Ent.Co.RPDO_CHANNEL k, Ent.Co.RPDO_SLOT k,
        Ent.Co.RPDO_MAP_COUNT k] ++ (List.range 8).map (Ent.Co.RPDO_MAP k)
      else [Ent.Co.TPDO_COB k, Ent.Co.TPDO_TYPE k, Ent.Co.TPDO_INHIBIT k, Ent.Co.TPDO_EVENT_TIMER k, Ent.Co.TPDO_CHANNEL k, Ent.Co.TPDO_SLOT k,
        Ent.Co.TPDO_MAP_COUNT k] ++ (List.range 8).map (Ent.Co.TPDO_MAP k)
    else []
  [Ent.Co.SDO_RX_COB n, Ent.Co.SDO_TX_COB n] ++ ((List.range 32).map Ent.Co.CONSUMER_HB).filter (fun e => bits (d.get e) 27 24 == n) ++
    (List.range 128).flatMap (pdo true) ++ (List.range 128).flatMap (pdo false)

/-- Reset communication of a channel: its communication entries take their stored values, the boot-up message is sent, and it enters
PRE-OPERATIONAL, then OPERATIONAL if AUTO_OP is 1 (R188). -/
def Dev.resetComm (d : Dev) (n : Nat) : Dev :=
  let d := (d.commEntries n).foldl Dev.restoreEntry d
  let d := d.setCan n fun c => { c with sdo := .idle }
  let d := (d.setNmt n 0).svcSend n (0x700 + d.get (Ent.CanCo.NODE_ID n)) [0#8]
  let d := d.setNmt n 127
  if d.flag (Ent.CanCo.AUTO_OP n) then d.setNmt n 5 else d

/-- An NMT command: obeyed when addressed to node 0 or NODE_ID (R188). -/
def nmtCommandOp (n cs node : Nat) (d : Dev) : Dev :=
  if d.flag (Ent.CanCo.CO_ENABLE n) ∧ (node = 0 ∨ node = d.get (Ent.CanCo.NODE_ID n)) then
    if cs = 1 then d.setNmt n 5 else if cs = 2 then d.setNmt n 4 else if cs = 128 then d.setNmt n 127
    else if cs = 129 ∨ cs = 130 then d.resetComm n else d
  else d

/-- COB-IDs of the SDO server: from the entries, or 0x600 and 0x580 + NODE_ID (Table 7.7). -/
def Dev.sdoCob (d : Dev) (n : Nat) (tx : Bool) : Nat :=
  let e := if tx then Ent.Co.SDO_TX_COB n else Ent.Co.SDO_RX_COB n
  match KV.find e.key d.dict with
  | some v => v
  | none => (if tx then 0x580 else 0x600) + d.get (Ent.CanCo.NODE_ID n)

/-- The channel has an SDO server: SDO_ENABLE 1 (R68) and two valid COB-IDs (bit 31 is 0, CiA 301). -/
def Dev.sdoServer (d : Dev) (n : Nat) : Bool :=
  d.flag (Ent.CanCo.CO_ENABLE n) && d.flag (Ent.CanCo.SDO_ENABLE n) && !bit (d.sdoCob n false) 31 && !bit (d.sdoCob n true) 31

/-- The SDO server runs: PRE-OPERATIONAL or OPERATIONAL (R188). -/
def Dev.sdoRuns (d : Dev) (n : Nat) : Bool :=
  d.sdoServer n && (d.get (Ent.CanCo.NMT n) == 5 || d.get (Ent.CanCo.NMT n) == 127)

/-- The state of the SDO server; a transfer waits for its next segment from now. -/
def Dev.setSdo (d : Dev) (n : Nat) (x : SdoState) : Dev := d.setCan n fun c => { c with sdo := x, sdoAt := d.time.raw }

/-- An SDO response of 8 bytes; SDO_LAST_STATUS holds its status (R189). -/
def Dev.sdoSend (d : Dev) (n : Nat) (s : Status) (b : Bytes) : Dev :=
  (d.put (Ent.CanCo.SDO_LAST_STATUS n) s.code).svcSend n (d.sdoCob n true) (slice b 0 8)

/-- An SDO abort with the code Table 2.1 maps (R189). -/
def Dev.sdoAbort (d : Dev) (n idx sub : Nat) (s : Status) : Dev :=
  (d.setSdo n .idle).sdoSend n s (le 1 0x80 ++ le 2 idx ++ le 1 sub ++ le 4 (s.abort.getD 0))

/-- Put an SDO request into the channel's queue in D0, or refuse it with BUSY when 16 wait (R63). -/
def Dev.sdoSubmit (d : Dev) (n idx sub reply : Nat) (write : Bool) (data : Bytes) : Dev :=
  let r : DictReq := ⟨write, idx, sub, 0, none, data.length, false, false, false, 0, data⟩
  if d.pathCount (.sdo n) < 16 then
    let d := d.setSdo n (.asked idx sub reply)
    d.submit ⟨r, ⟨.sdo n, 0, 0, []⟩, false⟩
  else d.sdoAbort n idx sub .busy

/-- A segment of an upload: up to 7 bytes, the last with bit 0 set. -/
def uploadSegment (toggle : Nat) (rest : Bytes) : Bytes :=
  let k := min 7 rest.length
  le 1 (toggle * 16 + (7 - k) * 2 + (if rest.length ≤ 7 then 1 else 0)) ++ rest.take 7

/-- An expedited download that indicates no size carries the entry's length (R61); for an entry of more than 4 bytes the rule gives none, and 4 bytes
are taken (DESIGN CHOICE, assumption 61). -/
def sdoLength (idx sub : Nat) : Nat :=
  match rowOf idx sub with
  | some r => match r.ty with
    | .oct n => min 4 n
    | t => min 4 (t.bytes.getD 4)
  | none => 4

/-- An SDO request of 8 bytes (CiA 301, R189): expedited and segmented transfers; anything else breaks the protocol and is aborted
with the code of WRONG_STATE. D0 answers a submitted request through `sdoAnswer`. -/
def sdoRequestOp (n : Nat) (b : Bytes) (d : Dev) : Dev :=
  let c := leAt b 0 1
  let idx := leAt b 1 2
  let sub := leAt b 3 1
  let spec := c / 32
  if !d.sdoRuns n || b.length != 8 || d.get (Ent.CanSt.STATE n) != 1 then d
  else match spec, (d.canCh n).sdo with
    | 4, _ => d.setSdo n .idle
    | 1, .asked _ _ _ => d.sdoAbort n idx sub .wrongState
    | 1, _ =>
      if bit c 1 then
        let len := if bit c 0 then 4 - c / 4 % 4 else sdoLength idx sub
        d.sdoSubmit n idx sub 0x60 true (slice b 4 len)
      else (d.setSdo n (.download idx sub 0 (if bit c 0 then leAt b 4 4 else 0) [])).sdoSend n .ok (le 1 0x60 ++ le 2 idx ++ le 1 sub)
    | 2, .asked _ _ _ => d.sdoAbort n idx sub .wrongState
    | 2, _ => d.sdoSubmit n idx sub 0x40 false []
    | 0, .download i s t total data =>
      if c / 16 % 2 ≠ t then d.sdoAbort n i s .wrongState
      else
        let data := data ++ slice b 1 (7 - c / 2 % 8)
        if bit c 0 ∧ total ≠ 0 ∧ total ≠ data.length then d.sdoAbort n i s .lengthMismatch
        else if bit c 0 then d.sdoSubmit n i s (0x20 + t * 16) true data
        else (d.setSdo n (.download i s (1 - t) total data)).sdoSend n .ok (le 1 (0x20 + t * 16))
    | 3, .upload i s t rest =>
      if c / 16 % 2 ≠ t then d.sdoAbort n i s .wrongState
      else (d.setSdo n (if rest.length ≤ 7 then .idle else .upload i s (1 - t) (rest.drop 7))).sdoSend n .ok (uploadSegment t rest)
    | _, _ => d.sdoAbort n idx sub .wrongState

/-- D0 has answered the channel's request with status `s` and, for a read, data. A DOMAIN is transferred segmented (R189), and so is a value of no
bytes, which an expedited transfer cannot carry. -/
def Dev.sdoAnswer (d : Dev) (n : Nat) (s : Status) (b : Bytes) : Dev :=
  match (d.canCh n).sdo with
  | .asked idx sub reply =>
    if s ≠ .ok then d.sdoAbort n idx sub s
    else
      let head := le 2 idx ++ le 1 sub
      if reply ≠ 0x40 then (d.setSdo n .idle).sdoSend n .ok (le 1 reply ++ (if reply = 0x60 then head else []))
      else if b.length ≤ 4 ∧ b ≠ [] ∧ !((rowOf idx sub).any fun r => match r.ty with
          | .dom _ => true
          | _ => false) then
        (d.setSdo n .idle).sdoSend n .ok (le 1 (0x43 + (4 - b.length) * 4) ++ head ++ b)
      else (d.setSdo n (.upload idx sub 0 b)).sdoSend n .ok (le 1 0x41 ++ head ++ le 4 b.length)
  | _ => d

/-- A segmented transfer without a segment for 1 s is aborted (R189). -/
def sdoTimeoutOp (n : Nat) (d : Dev) : Dev :=
  if !d.passed (d.canCh n).sdoAt 1000000000 then d
  else match (d.canCh n).sdo with
  | .download i s _ _ _ | .upload i s _ _ => d.sdoAbort n i s .aborted
  | .idle | .asked _ _ _ => d

/-- The producer heartbeat time passes: one heartbeat on every channel with CO_ENABLE 1 (Table 7.7). -/
def heartbeatProduceOp (d : Dev) : Dev :=
  if d.get Ent.Co.PRODUCER_HB = 0 then d
  else (List.range 16).foldl (fun d n =>
    if d.flag (Ent.CanCo.CO_ENABLE n) then d.svcSend n (0x700 + d.get (Ent.CanCo.NODE_ID n)) (le 1 (d.get (Ent.CanCo.NMT n))) else d) d

/-- The consumer time of heartbeat entry `i` (0 to 31) passes: HB_LOST to the device log and hall 0's ring (R193). -/
def hbLostOp (i : Nat) (d : Dev) : Dev :=
  let v := d.get (Ent.Co.CONSUMER_HB i)
  if v % 65536 = 0 then d
  else
    let n := bits v 27 24
    let d := d.event (srcCan n) 0x0025 (bits v 23 16)
    d.eventRing 0 (srcCan n) 0x0025 (bits v 23 16)

/-- A COB-ID names the identifier and its length (CiA 301: bit 31 is 0 while it is valid, bit 29 is 1 for 29 bits). -/
def cobIs (cob : Nat) (ide : Bool) (id : Nat) : Bool := !bit cob 31 && bit cob 29 == ide && cob % 2 ^ 29 == id

/-- A heartbeat that the channel consumes. -/
def Dev.consumesHeartbeat (d : Dev) (n : Nat) (ide : Bool) (id : Nat) : Bool :=
  !ide && (List.range 32).any fun i => let v := d.get (Ent.Co.CONSUMER_HB i)
    v % 65536 != 0 && bits v 27 24 == n && id == 0x700 + bits v 23 16

/-- A CANopen service of the channel serves this identifier now (R173, R188), RPDOs aside. -/
def Dev.serves (d : Dev) (n : Nat) (f : CanFrame) : Bool :=
  d.flag (Ent.CanCo.CO_ENABLE n) && ((!f.ide && f.id == 0) || (d.sdoRuns n && cobIs (d.sdoCob n false) f.ide f.id) || d.consumesHeartbeat n f.ide f.id)

/-- The valid RPDO of the channel under an identifier. -/
def Dev.rpdoUnder (d : Dev) (n : Nat) (ide : Bool) (id : Nat) : Option Nat :=
  (List.range 128).find? fun k => d.get (Ent.Co.RPDO_CHANNEL k) == n && cobIs (d.get (Ent.Co.RPDO_COB k)) ide id

/-- The RPDO that a frame belongs to, in OPERATIONAL (R188, R190). -/
def Dev.rpdoFor (d : Dev) (n : Nat) (f : CanFrame) : Option Nat :=
  if d.flag (Ent.CanCo.CO_ENABLE n) ∧ d.get (Ent.CanCo.NMT n) = 5 then d.rpdoUnder n f.ide f.id else none

/-- What a served frame does, RPDOs aside: NMT and SDO act as their own commands do; a heartbeat restarts its consumer's time. A remote frame under
a served COB-ID is taken and does nothing: none of the services is asked so. -/
def Dev.serve (d : Dev) (n : Nat) (f : CanFrame) : Dev :=
  if f.rtr then d
  else if f.id = 0 ∧ !f.ide then nmtCommandOp n (leAt f.data 0 1) (leAt f.data 1 1) d
  else if d.sdoRuns n && cobIs (d.sdoCob n false) f.ide f.id then sdoRequestOp n f.data d
  else d

/-- The channel takes part in a frame whose SOF was at a raw tick: ENABLED, or draining since the frame was in progress (R183), integrated (R192). -/
def Dev.canReceives (d : Dev) (n sof : Nat) : Bool :=
  decide (n < 16) && (d.get (Ent.CanSt.STATE n) == 1 || (d.canCh n).upto.any fun t => decide (sof ≤ t)) && decide (d.fld (Rg.Ch.BUS n) ≤ 1) && d.trxOnBus n

/-- A frame that the channel's MODE does not know: an FDF bit in MODE 0, or a res bit of 1, is a form error (R164). -/
def Dev.formError (d : Dev) (n : Nat) (f : CanFrame) (res : Bool) : Bool := f.fdf && (res || d.get (Ent.Can.MODE n) == 0)

/-- REC after a good reception: down by 1, or from above 127 to a value from 119 to 127 that ISO 11898-1 leaves open. -/
def Dev.recDown (d : Dev) (n : Nat) : Dev :=
  let r := d.fld (Rg.Ch.REC n)
  if 127 < r then
    match d.draw 32 with
    | (v, d) => d.setErrCounters n (d.fld (Rg.Ch.TEC n)) (119 + v.toNat % 9)
  else d.setErrCounters n (d.fld (Rg.Ch.TEC n)) (r - 1)

/-! ### Drain, enable, APPLY (R183, R192, R174, R166) -/

/-- Entry to DRAINING: pending buffers not on the bus complete with REASON 8, waiting service frames are discarded. -/
def Dev.canDraining (d : Dev) (n : Nat) : Dev :=
  let b := (d.canCh n).onBus
  let mine (k : Nat) : Bool := b.any fun x => x.txb == some k
  let d := (List.range 3).foldl (fun d k =>
    if d.isSet (Rg.Txb.PENDING n k) && !mine k then d.txbDone n k .aborted 8 else d) d
  let keep := if b.any fun x => x.txb.isNone then 1 else 0
  let lost := (d.canCh n).service.length - keep
  (d.setCan n fun c => { c with service := c.service.take keep, upto := some d.time.raw }).count (canCounter n 9) lost

/-- The drain is cut off: the frame on the bus ends with REASON 8. How many items it was. -/
def Dev.canCut (d : Dev) (n : Nat) : Nat × Dev :=
  let d := d.setCan n fun c => { c with upto := none }
  match (d.canCh n).onBus with
  | none => (0, d)
  | some _ => (1, (d.attemptFailed n 8).setCan n fun c => { c with onBus := none, service := [] })

/-- The channel integrates before it takes part (R192); one in bus-off stays there until its recovery ends (R182). -/
def Dev.integrate (d : Dev) (n : Nat) : Dev := if d.fld (Rg.Ch.BUS n) = 2 then d else d.setFld (Rg.Ch.BUS n) 3

def Dev.canEnabled (d : Dev) (n : Nat) : Dev := (d.sscEnds.setCan n fun c => { c with upto := none }).integrate n

/-- The checks of a channel group at APPLY (R166, R181): the subindex at fault. `x` holds the proposed values. -/
def canFault (x : Dev) (n : Nat) : Option Nat :=
  let nb := x.get (Ent.Can.NBRP n) * (1 + x.get (Ent.Can.NTSEG1 n) + x.get (Ent.Can.NTSEG2 n))
  let db := x.get (Ent.Can.DBRP n) * (1 + x.get (Ent.Can.DTSEG1 n) + x.get (Ent.Can.DTSEG2 n))
  if nb < 80 ∨ 8000 < nb then some 2
  else if x.get (Ent.Can.MODE n) = 1 ∧ (db < 16 ∨ nb < db) then some 6
  else if x.get (Ent.Can.NTSEG2 n) < x.get (Ent.Can.NSJW n) then some 5
  else if x.get (Ent.Can.DTSEG2 n) < x.get (Ent.Can.DSJW n) then some 9
  else if x.get (Ent.Can.TEC_WARN2 n) ≤ x.get (Ent.Can.TEC_WARN1 n) then some 0x12
  else if x.get (Ent.Can.REC_WARN2 n) ≤ x.get (Ent.Can.REC_WARN1 n) then some 0x14
  else none

/-- The checks of an object group (R174): no two valid objects of one identifier and IDE, none that a service or the reference group
owns; a buffer's hall exists. -/
def canObjFault (x : Dev) (n : Nat) : Option Nat :=
  let rs := (List.range 64).map (x.objRec n)
  let vs := rs.filter objValid
  let cob (r : Bytes) : Bool :=
    let ide := objIde r
    let id := objId r
    x.flag (Ent.CanCo.CO_ENABLE n) &&
    ((!ide && (id == 0 || id == 0x700 + x.get (Ent.CanCo.NODE_ID n))) || x.consumesHeartbeat n ide id ||
     (x.sdoServer n && (cobIs (x.sdoCob n false) ide id || cobIs (x.sdoCob n true) ide id)) ||
     (x.rpdoUnder n ide id).isSome)
  let ok := vs.all (fun r => !cob r && !x.inRefGroup n (objIde r) (objId r)
    && ((vs.filter fun q => objIde q == objIde r && objId q == objId r).length == 1))
    && rs.all fun r => leAt r 5 3 == 0
  if !ok then some 1
  else if (List.range 3).any fun k => !x.hallExists (x.txbHall n k) then some 2
  else none

/-- An object is reassigned (R174). -/
def Dev.objReassign (d : Dev) (n k : Nat) : Dev :=
  let d := d.setCan n fun c => { c with
    locks := KV.erase k c.locks
    shadow := match c.shadow with
      | some (j, x) => if j = k then none else some (j, x)
      | none => none }
  (((d.setFld (Rg.Obj.NEW n k) 0).setFld (Rg.Obj.LOSTCNT n k) 0).setFld (Rg.Obj.RXSEQ n k) 0).bumpEpoch (.canObj n k)

/-- The object group has taken effect; `old` is the device before (R174, R192). -/
def Dev.canObjApplied (d : Dev) (old : Dev) (n : Nat) : Dev :=
  let key (r : Bytes) : Nat × Nat := (leAt r 0 4 - b2n (objIrqEn r) * 2 ^ 30, objHall r)
  let d := (List.range 64).foldl (fun d k => if key (old.objRec n k) = key (d.objRec n k) then d else d.objReassign n k) d
  (List.range 3).foldl (fun d k =>
    if old.txbHall n k = d.txbHall n k then d
    else (if d.isSet (Rg.Txb.PENDING n k) then d.txbDone n k .aborted 9 else d).bumpEpoch (.canTxb n k)) d

/-- The channel group has taken effect: a change of bit timing, MODE or LISTEN_ONLY makes the channel integrate again (R192); with AUTO_RECOVER 1 a
channel in bus-off recovers (R182). -/
def Dev.canApplied (d : Dev) (old : Dev) (n : Nat) : Dev :=
  let es := [Ent.Can.MODE n, Ent.Can.NBRP n, Ent.Can.NTSEG1 n, Ent.Can.NTSEG2 n, Ent.Can.NSJW n, Ent.Can.DBRP n, Ent.Can.DTSEG1 n,
    Ent.Can.DTSEG2 n, Ent.Can.DSJW n, Ent.Can.TDC_OFFSET n, Ent.Can.LISTEN_ONLY n]
  let d := if d.fld (Rg.Ch.BUS n) = 2 ∧ d.flag (Ent.Can.AUTO_RECOVER n) then d.setCan n fun c => { c with recovering := true } else d
  if es.all fun e => old.get e == d.get e then d else d.integrate n

/-- The CANopen group has taken effect: a channel whose services start sends its boot-up message (R187, R188). -/
def Dev.canCoApplied (d : Dev) (old : Dev) (n : Nat) : Dev :=
  if d.flag (Ent.CanCo.CO_ENABLE n) then
    if old.flag (Ent.CanCo.CO_ENABLE n) ∧ old.get (Ent.CanCo.NODE_ID n) = d.get (Ent.CanCo.NODE_ID n) then d else d.resetComm n
  else (d.setNmt n 0).setCan n fun c => { c with sdo := .idle }

/-- The nodes start with the device: a channel whose CO_ENABLE is 1 sends its boot-up message (R187, R188). -/
def Dev.nodesStart (d : Dev) : Dev := (List.range 16).foldl (fun d n => if d.flag (Ent.CanCo.CO_ENABLE n) then d.resetComm n else d) d

/-! ### Meanings -/

def execCanSend (n k v : Nat) (s : State) := onDev s (canSendOp n k v)
def execCanAbort (n k : Nat) (s : State) := onDev s (canAbortOp n k)
def execCanTxStart (n phase : Nat) (s : State) := onDev s (canTxStartOp n phase)
def execCanArbitrationLost (n : Nat) (s : State) := onDev s (canArbitrationLostOp n)
def execCanTxComplete (n : Nat) (s : State) := onDev s (canTxCompleteOp n)
def execCanRestart (n : Nat) (s : State) := onDev s (canRestartOp n)
def execCanBusRecovered (n : Nat) (s : State) := onDev s (canBusRecoveredOp n)
def execDominantTimeout (n : Nat) (s : State) := onDev s (dominantTimeoutOp n)
def execObjHdrRead (n k : Nat) (i : Initiator) (s : State) := onDev s (objHdrReadOp n k i)
def execNmtCommand (n cs node : Nat) (s : State) := onDev s (nmtCommandOp n cs node)
def execSdoRequest (n : Nat) (b : Bytes) (s : State) := onDev s (sdoRequestOp n b)
def execSdoTimeout (n : Nat) (s : State) := onDev s (sdoTimeoutOp n)
def execHeartbeatProduce (s : State) := onDev s heartbeatProduceOp
def execHbLost (i : Nat) (s : State) := onDev s (hbLostOp i)
def execCanIntegrationEnd (n : Nat) (s : State) := onDev s (canIntegrationEndOp n)

end Sys2Proof.Machine
end

