-- ==== Sys2Proof/Machine/Headers.lean ====
section
/-! DEFINITION. What the classification engines read from a frame: tags (R121), IP and UDP headers (R122). -/

namespace Sys2Proof.Machine

/-- The outer C-tag, if the frame has one; any other outer EtherType makes it untagged (R121). -/
def Frame.ctag (f : Frame) : Option Tag :=
  match f.tags with
  | t :: _ => if t.tpid = 0x8100 then some t else none
  | [] => none

/-- The frame without its outer C-tag. -/
def Frame.untag (f : Frame) : Frame := if (Frame.ctag f).isSome then { f with tags := f.tags.drop 1 } else f

/-- The EtherType that follows the outer C-tag. -/
def Frame.seenType (f : Frame) : Nat :=
  match (Frame.untag f).tags, f.rtag with
  | t :: _, _ => t.tpid
  | [], some _ => 0xF1C1
  | [], none => f.etype

/-- The R-TAG's sequence number, where the R-TAG stands right after any C-tag (R134). -/
def Frame.seqNo (f : Frame) : Option Nat := if (Frame.untag f).tags = [] then f.rtag else none

/-- Tag control information. -/
def Tag.tci (t : Tag) : Nat := t.pcp * 8192 + b2n t.dei * 4096 + t.vid

/-- The frame with an R-TAG right after any C-tag (R134). What follows, further tags and an R-TAG behind them, is then the tagged frame's data. -/
def Frame.pushRtag (f : Frame) (n : Nat) : Frame :=
  match (Frame.untag f).tags with
  | [] => { f with rtag := some n }
  | t :: r =>
    let own := f.tags.take (f.tags.length - (r.length + 1))
    let inner := (r.flatMap fun x => be 2 x.tpid ++ be 2 (Tag.tci x)) ++ (f.rtag.elim [] fun k => be 2 0xF1C1 ++ be 2 0 ++ be 2 k) ++ be 2 f.etype
    { f with tags := own, rtag := some n, etype := t.tpid, payload := be 2 (Tag.tci t) ++ inner ++ f.payload }

/-- What R122 takes from an IP frame: destination address, IPv6 or not, UDP destination port. -/
structure UdpHead where
  dst : Nat
  v6 : Bool
  port : Nat
  deriving DecidableEq, Repr

/-- The UDP header of an IPv6 packet past Hop-by-Hop (0), Routing (43) and Destination Options (60) headers; a Fragment header or any
other one gives no match. -/
def udp6 (b : Bytes) (lim : Nat) : Nat → Nat → Nat → Option Nat
  | 0, _, _ => none
  | n + 1, next, at_ =>
    if next = 17 then (if at_ + 8 ≤ lim ∧ at_ + 8 ≤ b.length then some at_ else none)
    else if (next = 0 ∨ next = 43 ∨ next = 60) ∧ at_ + 8 ≤ b.length then
      udp6 b lim n (leAt b at_ 1) (at_ + 8 * (leAt b (at_ + 1) 1 + 1))
    else none

/-- The UDP header of an unfragmented IPv4 or IPv6 frame, if it lies within the first 128 bytes (R122). -/
def Frame.udp (f : Frame) : Option UdpHead :=
  let b := f.payload
  let lim := 128 - (14 + 4 * f.tags.length)
  if Frame.seenType f = 0x0800 ∧ 20 ≤ b.length ∧ leAt b 0 1 / 16 = 4 then
    let h := 4 * (leAt b 0 1 % 16)
    if ofBe (slice b 6 2) % 0x4000 = 0 ∧ leAt b 9 1 = 17 ∧ 20 ≤ h ∧ h + 8 ≤ lim ∧ h + 8 ≤ b.length then
      some ⟨ofBe (slice b 16 4), false, ofBe (slice b (h + 2) 2)⟩
    else none
  else if Frame.seenType f = 0x86DD ∧ 40 ≤ b.length ∧ leAt b 0 1 / 16 = 6 then
    match udp6 b lim 16 (leAt b 6 1) 40 with
    | some h => some ⟨ofBe (slice b 24 16), true, ofBe (slice b (h + 2) 2)⟩
    | none => none
  else none

/-- The multicast MAC address of an IP address. -/
def ipMulticastMac (u : UdpHead) : Nat :=
  if u.v6 then 0x3333 * 2 ^ 32 + u.dst % 2 ^ 32 else 0x01005E * 2 ^ 24 + u.dst % 2 ^ 23

/-- A PTP multicast address of IEEE 1588-2019 Annexes C and D (PRESUMED: 224.0.1.129, 224.0.0.107, FF0x::181, FF02::6B). -/
def ptpMulticast (u : UdpHead) : Bool :=
  if u.v6 then (u.dst / 2 ^ 120 == 0xFF && u.dst / 2 ^ 116 % 16 == 0 && u.dst % 2 ^ 112 == 0x181) || u.dst == 0xFF02 * 2 ^ 112 + 0x6B
  else u.dst == 0xE0000181 || u.dst == 0xE000006B

/-- A frame that the device sends: VLAN 0 means untagged, else one tag with the PCP. -/
def deviceFrame (dst src vlan pcp etype : Nat) (b : Bytes) : Frame :=
  ⟨dst, src, if vlan = 0 then [] else [⟨0x8100, pcp, false, vlan⟩], none, etype, b⟩

/-- The 16-bit words of a string, the first byte of each the higher, as one sum. -/
def words16 : Bytes → Nat
  | [] => 0
  | [a] => a.toNat * 256
  | a :: b :: r => a.toNat * 256 + b.toNat + words16 r

/-- The Internet checksum: the complement of the ones' complement sum. -/
def inetSum (b : Bytes) : Nat :=
  let n := words16 b
  let n := n % 65536 + n / 65536
  0xFFFF - (n % 65536 + n / 65536)

/-- A UDP header with its checksum field, for the checksum and for the wire. -/
def udpHead (sport dport len sum : Nat) : Bytes := be 2 sport ++ be 2 dport ++ be 2 len ++ be 2 sum

/-- The UDP checksum over the pseudo-header of IPv4 or IPv6, header and data; a sum of 0 is sent as all ones. -/
def udpSum (v6 : Bool) (src dst sport dport : Nat) (b : Bytes) : Nat :=
  let n := 8 + b.length
  let ps := if v6 then be 16 src ++ be 16 dst ++ be 4 n ++ be 4 17 else be 4 src ++ be 4 dst ++ be 2 17 ++ be 2 n
  let s := inetSum (ps ++ udpHead sport dport n 0 ++ b)
  if s = 0 then 0xFFFF else s

/-- An IP packet with one UDP datagram. What the manual leaves to IP is fixed (DESIGN CHOICE, assumption 61): no options, identification 0, do not
fragment, a hop limit of 64. `sum` is the UDP checksum. -/
def udpPacket (v6 : Bool) (src dst sport dport sum : Nat) (b : Bytes) : Bytes :=
  let n := 8 + b.length
  let u := udpHead sport dport n sum ++ b
  if v6 then be 4 0x60000000 ++ be 2 n ++ be 1 17 ++ be 1 64 ++ be 16 src ++ be 16 dst ++ u
  else
    let h (s : Nat) : Bytes := be 2 0x4500 ++ be 2 (20 + n) ++ be 2 0 ++ be 2 0x4000 ++ be 1 64 ++ be 1 17 ++ be 2 s ++ be 4 src ++ be 4 dst
    h (inetSum (h 0)) ++ u

/-- The EtherType of an IP packet. -/
def ipType (v6 : Bool) : Nat := if v6 then 0x86DD else 0x0800

/-- Broadcast ARP, or an IPv6 neighbour solicitation: D0 receives a copy (R70, R128). -/
def Frame.resolves (f : Frame) : Bool :=
  (Frame.seenType f == 0x0806 && f.dst == 0xFFFFFFFFFFFF) ||
  (Frame.seenType f == 0x86DD && leAt f.payload 6 1 == 58 && leAt f.payload 40 1 == 135)

end Sys2Proof.Machine
end

