-- ==== Sys2Proof/Machine/Lane.lean ====
section
/-! DEFINITION. The gallery lanes' frames (R492 to R494): what leaves ports P52 and P53. -/

namespace Sys2Proof.Machine

/-- A frame from its destination address to its last data byte, without padding and FCS. -/
def frameBytes (f : Frame) : Bytes :=
  be 6 f.dst ++ be 6 f.src ++ (f.tags.flatMap fun t => be 2 t.tpid ++ be 2 (Tag.tci t)) ++
  (match f.rtag with
   | none => []
   | some n => be 2 0xF1C1 ++ be 2 0 ++ be 2 n) ++ be 2 f.etype ++ f.payload

def Dev.setTwin (d : Dev) (f : TwinSt → TwinSt) : Dev := { d with twin := f d.twin }

/-- A lane before its PCS has block lock. -/
def Lane.down : Lane := ⟨[], none, 0, 0, false, 0⟩

def Dev.lane (d : Dev) (n : Nat) : Lane := KV.get Lane.down n d.twin.lanes
def Dev.setLane (d : Dev) (n : Nat) (f : Lane → Lane) : Dev :=
  d.setTwin fun t => { t with lanes := KV.put Lane.down n (f (d.lane n)) t.lanes }

/-- FLAGS of a gallery frame (Table 22.3): lane and sender position. -/
def laneFlags (n pos : Nat) : Nat := n % 2 + 2 * (pos % 2)

/-- Bytes 0 to 15 of a gallery frame (Table 22.3). -/
def laneHeader (kind flags len seq : Nat) : Bytes := le 1 kind ++ le 1 flags ++ le 2 len ++ zeros 4 ++ le 8 seq

/-- The GCM nonce: FLAGS, 3 zero bytes, SEQ (R493). -/
def laneNonce (flags seq : Nat) : Bytes := le 1 flags ++ zeros 3 ++ le 8 seq

/-- A gallery frame with its CRC. -/
def laneWire (b : Bytes) : Bytes := b ++ le 4 (crc32 b)

/-- An Ethernet frame leaves a lane as a DATA frame under the lane key. -/
def Dev.laneData (d : Dev) (n : Nat) (b : Bytes) : Dev :=
  let l := d.lane n
  match l.key with
  | none => d
  | some k =>
    let fl := laneFlags n (d.get Ent.Tws.POSITION)
    let h := laneHeader 2 fl b.length (l.tx + 1)
    let (c, t) := gcmSeal k (laneNonce fl (l.tx + 1)) h b
    (d.setLane n fun l => { l with tx := l.tx + 1 }).emit (.send "gallery frame" (52 + n) 0 (laneWire (h ++ c ++ t)))

/-- A HELLO leaves a lane in the clear, tagged under the gallery key (Tables 22.3, 22.4). -/
def Dev.laneHello (d : Dev) (n : Nat) (key payload : Bytes) : Dev :=
  let l := d.lane n
  let b := laneHeader 1 (laneFlags n (d.get Ent.Tws.POSITION)) payload.length (l.tx + 1) ++ payload
  (d.setLane n fun l => { l with tx := l.tx + 1 }).emit (.send "gallery frame" (52 + n) 0 (laneWire (b ++ (hmacSha256 key b).take 16)))

/-- A frame leaves a port; a gallery port carries it as a gallery frame. -/
def Dev.putFrame (d : Dev) (p : Nat) (f : Frame) (bad : Bool) : Dev :=
  let d := d.emit (.frame p f bad)
  if 52 ≤ p ∧ !bad then d.laneData (p - 52) (frameBytes f) else d

end Sys2Proof.Machine
end

