-- ==== Sys2Proof/Machine/SwitchCore.lean ====
section
/-! DEFINITION. The switch core: accounts, copies, admission, spill and refill, transmission, drops (R86 to R112), and the gates that
transmission selection looks at (R137 to R139). -/

namespace Sys2Proof.Machine

/-- Change the switch. -/
def Dev.setSw (d : Dev) (f : Switch → Switch) : Dev := { d with sw := f d.sw }

/-! ### Queues, links and schedules -/

/-- The key of queue `c` of port `p`; class 8 is TCM. -/
def qKey (p c : Nat) : Nat := p * 9 + c

def Switch.queue (w : Switch) (p c : Nat) : Queue := KV.get ⟨[], false, 0, false⟩ (qKey p c) w.queues

/-- Store a queue. The latch clears, and refill ends, when no copy is in STAGED, STAIRWELL or REFILL (R98). -/
def Switch.setQueue (w : Switch) (p c : Nat) (q : Queue) : Switch :=
  let away := q.copies.any fun x => x.state == .staged || x.state == .stairwell || x.state == .refill
  let q : Queue := { q with latched := q.latched && away, refilling := q.refilling && away }
  { w with queues := KV.put ⟨[], false, 0, false⟩ (qKey p c) q w.queues }

def Switch.link (w : Switch) (p : Nat) : PortLink := KV.get ⟨false, false, false, false, none, 0⟩ p w.links

def Dev.setLink (d : Dev) (p : Nat) (f : PortLink → PortLink) : Dev :=
  d.setSw fun w => { w with links := KV.put ⟨false, false, false, false, none, 0⟩ p (f (w.link p)) w.links }

/-- The schedule of a port at reset: no list, every gate as DEF_GATES at its default. -/
def schedReset : Sched := ⟨none, none, 0, 0, 0xFF, 0⟩

def Switch.sched (w : Switch) (p : Nat) : Sched := KV.get schedReset p w.scheds

def Dev.setSched (d : Dev) (p : Nat) (f : Sched → Sched) : Dev :=
  d.setSw fun w => { w with scheds := KV.put schedReset p (f (w.sched p)) w.scheds }

/-- Copies of every queue. -/
def Switch.allCopies (w : Switch) : List Copy := w.queues.flatMap fun kq => kq.2.copies

/-- Copies of the queues whose class satisfies `f`. -/
def Switch.copiesOf (w : Switch) (f : Nat → Bool) : List Copy :=
  (w.queues.filter fun kq => f (kq.1 % 9)).flatMap fun kq => kq.2.copies

def sumBy {α : Type} (f : α → Nat) (l : List α) : Nat := l.foldl (fun n x => n + f x) 0

/-! ### The five accounts (R89 to R94) -/

/-- Landing cells of the shared pool in use. -/
def Switch.sharedUse (w : Switch) : Nat := sumBy (·.s) (w.copiesOf (· < 8))

/-- Shared cells of one port's queues. -/
def Switch.portShared (w : Switch) (p : Nat) : Nat :=
  sumBy (fun c => sumBy (·.s) (w.queue p c).copies) (List.range 8)

/-- Cells of spill staging in use. -/
def Switch.stageUse (w : Switch) : Nat := sumBy (fun x => if x.state = .staged then x.n else 0) w.allCopies

/-- Cells of the stairwell a copy takes from its admission to the end of its refill: n + 1 (R91). -/
def Copy.stwCells (x : Copy) : Nat :=
  if x.state = .staged ∨ x.state = .stairwell ∨ x.state = .refill then x.n + 1 else 0

/-- Stairwell cells in use. -/
def Switch.stwUse (w : Switch) : Nat := sumBy Copy.stwCells w.allCopies

/-- TCM cells in use. -/
def Switch.tcmCells (w : Switch) : Nat := sumBy (·.r) (w.copiesOf (· = 8))

/-- The copy holds a descriptor on chip (R94). -/
def Copy.holds (x : Copy) : Bool := x.state != .stairwell

/-- Descriptors of the TCM pool in use. -/
def Switch.tcmDesc (w : Switch) : Nat := ((w.copiesOf (· = 8)).filter Copy.holds).length

/-- Free descriptors of the pool of TC0 to TC7. -/
def Switch.descFreeTc (w : Switch) : Nat := 130816 - ((w.copiesOf (· < 8)).filter Copy.holds).length

/-- A descriptor can be taken at admission (R94). -/
def Switch.canTake (w : Switch) (c : Nat) : Bool :=
  if c = 8 then decide (w.tcmDesc < 256) else decide (512 < w.descFreeTc)

/-- Line rate in Mbit/s by MODE (Table 5.1). -/
def Dev.lineRate (d : Dev) (p : Nat) : Nat :=
  match d.get (Ent.Pcfg.MODE p) with
  | 1 => 100 | 2 => 1000 | 3 => 10 | 4 => 10 | 5 => 1000 | 6 => 2500 | _ => 10000

/-- The cells of the frame being received on port `p` that have landed by now, at the line rate; none once the headroom has truncated the frame
(R90). -/
def Dev.landedNow (d : Dev) (p : Nat) (x : Rx) : Nat :=
  let n := min ((x.len + 63) / 64) (x.landed + (d.time.raw + 2 ^ 64 - x.since) % 2 ^ 64 * d.lineRate p / 512000)
  if d.get (Ent.Pbuf.ING_RES p) < n then 0 else n

/-- Ingress headroom in use on port `p`. -/
def Dev.ingCells (d : Dev) (p : Nat) : Nat := (KV.find p d.sw.rx).elim 0 (d.landedNow p)

/-- Cells on the free list; those of a frame still arriving are in its port's headroom. -/
def Dev.freeCells (d : Dev) : Nat :=
  98304 - sumBy (fun kv => if kv.2.whole then kv.2.cells else 0) d.sw.stores - sumBy (fun kv => d.landedNow kv.1 kv.2) d.sw.rx

/-- The size of the shared pool (R89); `none` below 8,192. -/
def Dev.sharedSize (d : Dev) : Option Nat :=
  let n : Int := 98304 - 1024 - sumBy (fun p => d.get (Ent.Pbuf.ING_RES p)) (List.range 54)
    - sumBy (fun p => sumBy (fun c => d.get (Ent.Pbuf.Q_MIN p c)) (List.range 8)) (List.range 54)
    - d.get Ent.Swc.SPILL_STAGE
  if n < 8192 then none else some n.toNat

/-- SHARED_SIZE stands as R89 computes it. -/
def Dev.sharedSizeSet (d : Dev) : Dev := d.put Ent.Swc.SHARED_SIZE ((d.sharedSize).getD 0)

/-- Cells of a frame of `l` bytes (R86). -/
def cellsOf (l : Nat) : Nat := (l + 63) / 64

/-- The port's maximum frame in cells. -/
def maxCells (p : Nat) : Nat := if p < 40 then 32 else 144

/-! ### Counters of queues and ports (Tables 4.3, 4.9 and 5.17) -/

/-- Counter `f` (7 to 13) of a queue. -/
def queueCounter (p c f : Nat) : Counter := ctr ⟨0x3480 + p, 16 * c + f, 64, 0⟩ (Ent.Pq.Q_SAT p) (c * 7 + f - 7) (srcQueue p c)

/-- Counter at subindex 0x93 + `i` of the switch core's port index. -/
def coreCounter (p i : Nat) : Counter := ctr ⟨0x3480 + p, 0x93 + i, 64, 0⟩ (Ent.Pq.PORT_SAT p) i (srcPort p)

/-- Counter at subindex 0x10 + `i` of the port's index. -/
def portCounter (p i : Nat) : Counter := ctr ⟨0x3580 + p, 0x10 + i, 64, 0⟩ (Ent.Port.PORT_SAT p) i (srcPort p)

def copiesSent (p : Nat) := coreCounter p 0
def copiesDropped (p : Nat) := coreCounter p 1
def ingOvf (p : Nat) := coreCounter p 2
def noDesc (p : Nat) := coreCounter p 3
def ctCopies (p : Nat) := coreCounter p 4
def ctAborted (p : Nat) := coreCounter p 5
def oversize (p : Nat) := coreCounter p 6
def rxFrames (p : Nat) := portCounter p 0
def rxBytes (p : Nat) := portCounter p 1
def txFrames (p : Nat) := portCounter p 2
def txBytes (p : Nat) := portCounter p 3
def rxFcs (p : Nat) := portCounter p 4
def rxLength (p : Nat) := portCounter p 5
def rxVlan (p : Nat) := portCounter p 6
def rxType (p : Nat) := portCounter p 7
def rxDisabled (p : Nat) := portCounter p 8
def tcmPoliced (p : Nat) := portCounter p 9
def egressFiltered (p : Nat) := portCounter p 10
def streamDrops (p : Nat) := portCounter p 11
def txOverrun (p : Nat) := portCounter p 12
def linkDowns (p : Nat) := portCounter p 13
def collisions (p : Nat) := portCounter p 14

/-- NO_QP of a host engine (R370). -/
def noQp (n : Nat) : Counter := ctr (Ent.Heng.NO_QP n) (Ent.Heng.COUNTER_SAT n) 0 (srcDma (64 + n))

/-- Count a drop under its reason (Table 4.3); `p` and `c` name the egress queue, `i` the ingress port. -/
def Dev.countDrop (d : Dev) (p c i : Nat) : Drop → Dev
  | .full => d.count (queueCounter p c 8)
  | .stw => d.count (queueCounter p c 9)
  | .residence => d.count (queueCounter p c 10)
  | .down => d.count (queueCounter p c 11)
  | .disabled => d.count (queueCounter p c 12)
  | .ecc => (d.count (queueCounter p c 9)).count (ctr Ent.Stw.STW_ECC_DROPS Ent.Stw.COUNTER_SAT 0 srcSwitchCore)
  | .ctAborted => d.count (ctAborted p)
  | .noDesc => d.count (noDesc i)
  | .oversize => d.count (oversize p)
  | .noQp => d.count (noQp (p - 48))
  | .filtered => d.count (egressFiltered p)
  | .frozen h => d.count ⟨Ent.Hall.FROZEN_DROPS h, Ent.Hall.COUNTER_SAT h, 3, srcHall h⟩

/-- A copy is dropped: its reason counts, and COPIES_DROPPED of the ingress port for a frame of several destinations (R96). -/
def Dev.dropped (d : Dev) (p c i : Nat) (multi : Bool) (w : Drop) : Dev :=
  let d := d.countDrop p c i w
  if multi then d.count (copiesDropped i) else d

/-! ### Landing cells and their references (R93, R95) -/

/-- One reference to stored cells ends; at 0 they return to the free list, or stay in the ingress headroom until the last one has landed. -/
def Switch.unref (w : Switch) : Option Nat → Switch
  | none => w
  | some k =>
    match KV.find k w.stores with
    | none => w
    | some st => if st.refs ≤ 1 ∧ st.whole then { w with stores := KV.erase k w.stores }
                 else { w with stores := KV.insert k { st with refs := st.refs - 1 } w.stores }

/-- The last cell of a frame has landed, or its truncation has ended it. -/
def Switch.landed (w : Switch) (k n : Nat) (failed : Bool) : Switch :=
  match KV.find k w.stores with
  | none => w
  | some st => { w with stores := KV.insert k { st with cells := n, whole := true, bad := st.bad || failed } w.stores }

/-- `m` more copies refer to stored cells; with no copy at all the cells are free (R90). -/
def Switch.addRefs (w : Switch) (k m : Nat) : Switch :=
  match KV.find k w.stores with
  | none => w
  | some st => { w with stores := if st.refs + m = 0 then KV.erase k w.stores else KV.insert k { st with refs := st.refs + m } w.stores }

/-- An uncorrectable error stands in a cell of the frame (R110). -/
def Switch.spoil (w : Switch) (k : Nat) : Switch :=
  match KV.find k w.stores with
  | none => w
  | some st => { w with stores := KV.insert k { st with bad := true } w.stores }

/-- Take landing cells with `refs` references. -/
def Switch.store (w : Switch) (st : Stored) : Nat × Switch :=
  (w.nextStore, { w with stores := KV.insert w.nextStore st w.stores, nextStore := w.nextStore + 1 })

/-- The copies of a queue that `f` picks leave it with a drop; each is counted (R96). A copy in REFILL completes its read first and
is dropped then (R101). -/
def Dev.dropWhere (d : Dev) (p c : Nat) (w : Drop) (f : Copy → Bool) : Dev :=
  let q := d.sw.queue p c
  let out := q.copies.filter fun x => f x && x.state != .refill
  let keep := (q.copies.filter fun x => !(f x && x.state != .refill)).map fun x =>
    if f x && x.state == .refill && x.doomed.isNone then { x with doomed := some w } else x
  let d := d.setSw fun s => (out.foldl (fun s x => s.unref x.store) s).setQueue p c { q with copies := keep }
  out.foldl (fun d x => d.dropped p c x.ingress x.multi w) d

/-- Copies of a port's nine queues that satisfy `f`. -/
def Switch.portCopies (w : Switch) (p : Nat) (f : Copy → Bool) : List Copy :=
  ((List.range 9).flatMap fun c => (w.queue p c).copies).filter f

/-- The copy being sent by a port, and its class. -/
def Switch.txOf (w : Switch) (p : Nat) : Option (Nat × Copy) :=
  (List.range 9).findSome? fun c => ((w.queue p c).copies.find? fun x => x.state == .tx).map fun x => (c, x)

/-- Replace the copies of a queue that satisfy `f`. -/
def Switch.mapCopies (w : Switch) (p c : Nat) (f : Copy → Bool) (g : Copy → Copy) : Switch :=
  let q := w.queue p c
  w.setQueue p c { q with copies := q.copies.map fun x => if f x then g x else x }

/-! ### Admission (R91, R92) -/

/-- A port is down past its hold (R106): it has not reported link-up and no hold runs. -/
def Switch.downPastHold (w : Switch) (p : Nat) : Bool := !(w.link p).up && !(w.link p).held

/-- What R91 or R92 answers for a copy of `n` cells. -/
inductive Verdict where
  | drop (w : Drop)
  | landed (r s : Nat)
  | staged
  deriving DecidableEq, Repr

/-- The `spill` part of R91; the α code of a class stands for 2 to the (code − 4). -/
def Dev.spillVerdict (d : Dev) (p c n : Nat) : Verdict :=
  let q := d.sw.queue p c
  if !q.latched && !d.flag (Ent.Cls.SPILL_EN c) then .drop .full
  else if d.flag Ent.Clk.REF_LOSS then .drop .stw
  else if d.get Ent.Swc.SPILL_STAGE < d.sw.stageUse + n ∨ d.get (Ent.Cls.STW_Q_MAX c) < sumBy Copy.stwCells q.copies + n + 1
      ∨ d.get Ent.Stw.STW_SIZE < d.sw.stwUse + n + 1 then .drop .stw
  else if !d.sw.canTake c then .drop .noDesc
  else .staged

/-- R91 for TC0 to TC7. -/
def Dev.admitTc (d : Dev) (p c n : Nat) : Verdict :=
  let q := d.sw.queue p c
  if q.latched then d.spillVerdict p c n
  else
    let r := min n (d.get (Ent.Pbuf.Q_MIN p c) - sumBy (·.r) q.copies)
    let s := n - r
    let room := d.get Ent.Swc.SHARED_SIZE - d.sw.sharedUse
    let limit := room * 2 ^ d.get (Ent.Cls.ALPHA c) / 16
    let cap := d.get (Ent.Pbuf.PORT_SH_MAX p)
    if 0 < s ∧ (limit < sumBy (·.s) q.copies + s ∨ room < s ∨ (cap ≠ 0 ∧ cap < d.sw.portShared p + s)) then d.spillVerdict p c n
    else if !d.sw.canTake c then .drop .noDesc
    else .landed r s

/-- R92 for TCM. -/
def Dev.admitTcm (d : Dev) (p n : Nat) : Verdict :=
  if 1024 < d.sw.tcmCells + n ∨ d.get (Ent.Pbuf.TCM_Q_MAX p) < sumBy (·.r) (d.sw.queue p 8).copies + n ∨ !d.sw.canTake 8
  then .drop .full else .landed n 0

/-- The admission of a copy (R91, R92, R119). -/
def Dev.admission (d : Dev) (p c n : Nat) : Verdict :=
  if d.get (Ent.Pq.Q_STATE p c) ≠ 1 ∨ d.get (Ent.Port.STATE p) ≠ 1 then .drop .disabled
  else if d.sw.downPastHold p then .drop .down
  else if maxCells p < n then .drop .oversize
  else if c = 8 then d.admitTcm p n
  else d.admitTc p c n

/-- A queue becomes latched: SPILL_START, at most once per second (Table 4.5). -/
def Dev.latchQueue (d : Dev) (p c : Nat) : Dev :=
  if (d.sw.queue p c).latched then d
  else
    let q := d.sw.queue p c
    let d := d.setSw fun w => { w with queues := KV.insert (qKey p c) { q with latched := true } w.queues }
    d.limited (scopeOf (srcQueue p c) 0x0020) 1 fun d k => d.event (srcQueue p c) 0x0020 (min k 0xFFFFFFFF)

/-- A copy joins its queue. -/
def Dev.enqueue (d : Dev) (p c : Nat) (x : Copy) : Dev :=
  d.setSw fun w => w.setQueue p c { w.queue p c with copies := (w.queue p c).copies ++ [x] }

/-- A frame that the device itself sends enters the TCM queue of a port (R92, R109); a frame the queue cannot take is counted there and gone. -/
def Dev.sendTcm (d : Dev) (p : Nat) (f : Frame) : Dev :=
  let n := cellsOf f.len
  match d.admission p 8 n with
  | .landed r s =>
    match d.sw.store ⟨n, 1, true, false⟩ with
    | (k, w) => Dev.enqueue { d with sw := w } p 8
        ⟨k, some k, .landed, n, r, s, d.time.raw, (d.sw.queue p 8).window, false, none, false, f, 0, p, false, false⟩
  | .drop w => d.countDrop p 8 p w
  | .staged => d

/-- One destination of a landed frame is decided. A staged copy refers to the frame's cells until its stairwell write completes; the
new copy makes the queue latched (R98). The flag says whether the copy was admitted. -/
def Dev.admitCopy (d : Dev) (k : Nat) (rx : Rx) (i n : Nat) (x : Dest) : Bool × Dev :=
  let y : Copy := ⟨k, some k, .landed, n, 0, 0, d.time.raw, (d.sw.queue x.port rx.cls).window, false, none, false, x.frame, rx.vid, i,
    rx.multi, rx.hall0⟩
  match d.admission x.port rx.cls n with
  | .drop w => (false, d.dropped x.port rx.cls i rx.multi w)
  | .landed r s => (true, d.enqueue x.port rx.cls { y with r := r, s := s })
  | .staged =>
    let d := d.count (queueCounter x.port rx.cls 13)
    (true, (d.enqueue x.port rx.cls { y with state := .staged }).latchQueue x.port rx.cls)

/-- Every destination of a landed frame is decided together (R90): how many copies were admitted. -/
def Dev.admitAll (d : Dev) (k : Nat) (rx : Rx) (i n : Nat) : List Dest → Nat × Dev
  | [] => (0, d)
  | x :: r =>
    match d.admitCopy k rx i n x with
    | (ok, d') => match Dev.admitAll d' k rx i n r with
      | (m, d'') => (m + b2n ok, d'')

/-! ### Reception (R90) -/

/-- A cut-through copy of a frame that landed well is charged as R91 states and counts in CT_COPIES (R102). -/
def Dev.settleCut (d : Dev) (k n p c : Nat) : Dev :=
  let mine (x : Copy) : Bool := x.cut && x.store == some k
  if (d.sw.queue p c).copies.any mine then
    let r := if c = 8 then n else min n (d.get (Ent.Pbuf.Q_MIN p c) - sumBy (·.r) (d.sw.queue p c).copies)
    (d.setSw fun w => w.mapCopies p c mine fun x => { x with n := n, r := r, s := n - r }).count (ctCopies p)
  else d

/-- The last cell of the frame being received on port `p` lands, or a cell past the headroom truncates it (R90). Admission is then
decided for the destinations that were not sent by cut-through. RX_FRAMES and RX_BYTES count every frame received (R549). -/
def frameLandedOp (p : Nat) (d : Dev) : Dev :=
  match KV.find p d.sw.rx with
  | none => d
  | some rx =>
    let n := cellsOf rx.len
    let d := (d.setSw fun w => { w with rx := KV.erase p w.rx }).count (rxFrames p)
    let d := d.count (rxBytes p) rx.len
    let cut := decide (d.get (Ent.Pbuf.ING_RES p) < n)
    let d := if cut then d.count (ingOvf p) else d
    let good := rx.fcs && !cut
    let rest := if good then rx.dests.filter fun x => !rx.cuts.contains x.port else []
    match (match rx.store with
        | some k => (k, d.sw)
        | none => d.sw.store ⟨n, 0, true, false⟩) with
    | (k, w) =>
      let d : Dev := { d with sw := w.landed k n (!good) }
      let d := if good then rx.cuts.foldl (fun d q => d.settleCut k n q rx.cls) d else d
      match d.admitAll k rx p n rest with
      | (m, d') => d'.setSw (·.addRefs k m)

/-! ### Stairwell (R99 to R101) -/

/-- `n` stairwell cells have been written or read; what is older than 1 ms no longer counts for STW_RATE. -/
def Dev.stwMoved (d : Dev) (n : Nat) : Dev :=
  d.setSw fun w => { w with moved := (d.time.raw, n) :: w.moved.filter fun x => decide ((d.time.raw + 2 ^ 64 - x.1) % 2 ^ 64 < 1000000) }

/-- STW_RATE: MB/s over the last 1 ms. -/
def Dev.stwRate (d : Dev) : Nat :=
  min 12000 (sumBy (·.2) (d.sw.moved.filter fun x => decide ((d.time.raw + 2 ^ 64 - x.1) % 2 ^ 64 < 1000000)) * 64 / 1000)

/-- The stairwell write of the first staged copy of a queue completes: the copy enters STAIRWELL and its staging cells are released. -/
def stwWriteCompleteOp (p c : Nat) (d : Dev) : Dev :=
  let q := d.sw.queue p c
  match q.copies.find? fun x => x.state == .staged with
  | none => d
  | some x =>
    (d.stwMoved (x.n + 1)).setSw fun w => (w.unref x.store).setQueue p c
      { q with copies := q.copies.map fun y => if y = x then { y with state := .stairwell, store := none } else y }

/-- Landing cells of the landing part. -/
def Queue.landingCells (q : Queue) : Nat := sumBy (fun x => if x.state = .landed then x.n else 0) q.copies

/-- The first of a queue's copies that is in the stairwell, if its refill may start: a latched queue's landing part holds fewer than
twice the maximum frame, or fewer than four times while its refill is under way, no other copy of the queue is being read or waits to
be written ahead of it, and room and a descriptor are free (R100). -/
def Dev.refillNext (d : Dev) (p c : Nat) : Option (Copy × Nat × Nat) :=
  let q := d.sw.queue p c
  let lim := (if q.refilling then 4 else 2) * maxCells p
  match q.copies.find? fun x => x.state == .staged || x.state == .stairwell || x.state == .refill with
  | some x =>
    if x.state = .stairwell ∧ q.latched ∧ q.landingCells < lim then
      let r := min x.n (d.get (Ent.Pbuf.Q_MIN p c) - sumBy (·.r) q.copies)
      let s := x.n - r
      if s ≤ d.get Ent.Swc.SHARED_SIZE - d.sw.sharedUse ∧ 0 < d.sw.descFreeTc then some (x, r, s) else none
    else none
  | none => none

/-- Refill of a queue's next copy starts: it is charged and takes landing cells of its own (R86, R100). -/
def refillStartOp (p c : Nat) (d : Dev) : Dev :=
  match d.refillNext p c with
  | none => d
  | some (x, r, s) =>
    match d.sw.store ⟨x.n, 1, true, false⟩ with
    | (k, w) =>
      let q := w.queue p c
      { d with sw := w.setQueue p c { q with
          refilling := true
          copies := q.copies.map fun y => if y = x then { y with state := .refill, store := some k, r := r, s := s } else y } }

/-- A copy's residence limit or window has passed (R104, R105). -/
def Dev.expired (d : Dev) (p c : Nat) (x : Copy) : Bool :=
  if c < 8 ∧ d.flag (Ent.Cls.SCHED_DROP c) then x.window != (d.sw.queue p c).window
  else decide (d.get (Ent.Cls.RES_MAX_MS c) * 1000000 < (d.time.raw + 2 ^ 64 - x.admitted) % 2 ^ 64)

/-- The read of a refilled copy completes (R101): a drop that arrived meanwhile, an uncorrectable error at stairwell cell `err` or a
passed residence limit drops it; otherwise it enters LANDED. Refill stops at four times the maximum frame (R100). A copy that a flush, disable or
hold expiry has doomed and whose read fails too counts under the first alone (DESIGN CHOICE, assumption 61). -/
def refillCompleteOp (p c : Nat) (err : Option Nat) (d : Dev) : Dev :=
  let q := d.sw.queue p c
  match q.copies.find? fun x => x.state == .refill with
  | none => d
  | some x =>
    let d := d.stwMoved (x.n + 1)
    let out (w : Drop) (d : Dev) : Dev :=
      (d.setSw fun s => (s.unref x.store).setQueue p c { q with copies := q.copies.filter fun y => y ≠ x }).dropped p c x.ingress x.multi w
    match x.doomed, err with
    | some w, _ => out w d
    | none, some cell => (out .ecc d).event (srcQueue p c) 0x0021 (cell % 2 ^ 32)
    | none, none =>
      if d.expired p c x then out .residence d
      else
        d.setSw fun s =>
          let q' : Queue := { q with copies := q.copies.map fun y => if y = x then { y with state := .landed } else y }
          s.setQueue p c { q' with refilling := q'.refilling && decide (q'.landingCells < 4 * maxCells p) }

/-! ### Gates (R137 to R139) -/

/-- The entries of a list that a cycle executes, with their ends: cut at the cycle's end (R137). -/
def cutEntries (cycle : Nat) : Nat → List (Nat × Nat) → List (Nat × Nat)
  | _, [] => []
  | t, (g, i) :: r => if cycle ≤ t then [] else (g, min (t + i) cycle) :: cutEntries cycle (t + i) r

/-- The gates and their ends within one cycle: the last entry holds to the cycle's end. -/
def GateList.steps (l : GateList) : List (Nat × Nat) :=
  let c := cutEntries l.cycle 0 l.entries
  match c.reverse with
  | [] => []
  | (g, _) :: r => (r.reverse) ++ [(g, l.cycle)]

/-- The cycle that would begin at `s` is left out, and the one before it extended, because a pending change time falls inside it at most ADMIN_EXT_NS
after `s` (R138). -/
def Sched.extendedAt (x : Sched) (s : Nat) : Bool :=
  match x.oper, x.pending with
  | some l, some m => decide (s ≤ m.ct) && decide (m.ct - s < l.cycle) && decide (m.ct - s ≤ m.ext)
  | _, _ => false

/-- The boundaries of a pending list from its change time to the end of its first cycle. -/
def GateList.firstCycle (m : GateList) : List (Nat × Nat) :=
  match m.steps with
  | [] => []
  | (g, e) :: r => (m.ct, g) :: (List.zip (e :: r.map (·.2)) (r.map (·.1) ++ [g])).map fun b => (m.ct + b.1, b.2)

/-- The boundaries after the present entry, at most one cycle ahead: (time, gates from then on). `s` is the cycle's start. -/
def Sched.boundaries (x : Sched) : List (Nat × Nat) :=
  match x.oper with
  | none => x.pending.elim [] GateList.firstCycle
  | some l =>
    let st := l.steps
    let gatesAt (i : Nat) : Nat := ((st[i]?).map (·.1)).getD x.gates
    let endAt (i : Nat) : Nat := ((st[i]?).map (·.2)).getD l.cycle
    let this := (List.range st.length).filterMap fun i =>
      if x.pos ≤ i then some (x.start + endAt i, if i + 1 < st.length then gatesAt (i + 1) else gatesAt 0) else none
    let next := (List.range st.length).filterMap fun i =>
      if i < x.pos then some (x.start + l.cycle + endAt i, gatesAt (i + 1)) else none
    let own := this ++ next
    match x.pending with
    | none => own
    | some m =>
      let s := x.start + l.cycle
      own.filter (fun b => b.1 < (if x.extendedAt s then s else m.ct)) ++ m.firstCycle

/-- The next closing of gate `k`, looking at most one cycle ahead of `now` (R139). -/
def Sched.nextClosing (x : Sched) (k now : Nat) : Option Nat :=
  let horizon := now + ((x.oper.orElse fun _ => x.pending).elim 0 (·.cycle))
  ((x.boundaries.find? fun b => !bit b.2 k && decide (b.1 ≤ horizon)).map (·.1))

/-- Gate `k` of the port is open; host and gallery ports have no gates (Table 5.2), TCM is always eligible. -/
def Dev.gateOpen (d : Dev) (p c : Nat) : Bool := decide (48 ≤ p) || decide (c = 8) || bit (d.sw.sched p).gates c

/-- A frame of `l` bytes completes before the gate next closes: frame, 8 bytes of preamble and SFD, 12 bytes of gap (R139). -/
def Dev.gateFits (d : Dev) (p c l : Nat) : Bool :=
  if 48 ≤ p ∨ c = 8 then true
  else match (d.sw.sched p).nextClosing c d.now with
    | none => true
    | some t => decide (d.now + ((l + 20) * 8000 + d.lineRate p - 1) / d.lineRate p ≤ t)

/-! ### Queue pairs of a host port (R370) -/

/-- The queue pair the engine of a host port picks for a frame. -/
def Dev.pickQp (d : Dev) (p : Nat) (hall0 : Bool) (dst : Nat) : Option Nat :=
  let own (q : Nat) : Bool := d.get (Ent.Qp.STATE q) == 1 && d.get (Ent.Qp.PORT q) == p
  if hall0 then
    let q := d.get Ent.H0qp.HALL0_QP
    if q < 256 ∧ d.get (Ent.Qp.STATE q) = 1 then some q else none
  else
    match (List.range 256).find? fun q => own q && dst / 2 ^ 40 % 2 == 0 && ofBe (d.oct (Ent.Qp.RX_MAC q)) == dst with
    | some q => some q
    | none =>
      let q := d.get (Ent.Heng.DEF_QP (p - 48))
      if q < 256 ∧ d.get (Ent.Qp.STATE q) = 1 then some q else none

/-- What takes a frame that port `p` hands to no queue pair: bridge unit n on P(48 + n) for its BU_MAC or EtherType 0x22F0 (R216), the engine's
station receiver on P48 for SE_MAC (R250). -/
def Dev.unitOfHost (d : Dev) (p : Nat) (f : Frame) : Option String :=
  if p < 48 ∨ 51 < p then none
  else if (f.dst != 0 && f.dst == ofBe (d.oct (Ent.Bu.BU_MAC (p - 48)))) || Frame.seenType f == 0x22F0 then some "bridge"
  else if p = 48 ∧ f.dst ≠ 0 ∧ f.dst = ofBe (d.oct Ent.Senet.SE_MAC) then some "stations"
  else none

/-- The hall address of RX record `RX_HEAD` of a queue pair. -/
def Dev.rxRecord (d : Dev) (q : Nat) : Nat :=
  d.fld (Rg.Qpr.RX_BASE_LO q) * 16 + d.fld (Rg.Qpr.RX_BASE_HI q) * 2 ^ 32 + 16 * d.fld (Rg.Qpr.RX_HEAD q)

/-- The RX ring of a queue pair holds a descriptor with OWN 1. -/
def Dev.rxReady (d : Dev) (q : Nat) : Bool :=
  d.fld (Rg.Qpr.RX_HEAD q) != d.fld (Rg.Qpr.RX_TAIL q) &&
  match d.hallRead (d.get (Ent.Qp.HALL q)) (d.rxRecord q) 16 with
  | (.ok, b) => bit (leAt b 10 1) 7
  | _ => false

/-! ### Transmission (R126, R139) -/

/-- What an idle port does next: a head to drop, a head to start, or nothing. -/
inductive Pick where
  | drop (c : Nat) (x : Copy) (w : Drop)
  | start (c : Nat) (x : Copy)
  | idle
  deriving DecidableEq, Repr

/-- The order of R126: TCM, then TC7 to TC0; the residence limit is checked when a copy is considered, then the gate fit. A host
port starts only with a free receive descriptor, and drops a copy no queue pair takes. -/
def Dev.pickCopy (d : Dev) (p : Nat) : List Nat → Pick
  | [] => .idle
  | c :: r =>
    match (d.sw.queue p c).copies.find? fun x => x.state == .landed with
    | none => Dev.pickCopy d p r
    | some x =>
      if !d.gateOpen p c then Dev.pickCopy d p r
      else if d.expired p c x then .drop c x .residence
      else if !d.gateFits p c x.frame.len then Dev.pickCopy d p r
      else if 48 ≤ p ∧ p ≤ 51 ∧ d.unitOfHost p x.frame = none then
        match d.pickQp p x.hall0 x.frame.dst with
        | none => .drop c x .noQp
        | some q =>
          if d.hallStopped (d.get (Ent.Qp.HALL q)) then .drop c x (.frozen (d.get (Ent.Qp.HALL q)))
          else if d.rxReady q then .start c x else .idle
      else .start c x

/-- Selection at an idle port, dropping the heads that may not be sent on the way. -/
def Dev.selectTx (d : Dev) (p : Nat) : Nat → Dev
  | 0 => d
  | n + 1 =>
    match d.pickCopy p [8, 7, 6, 5, 4, 3, 2, 1, 0] with
    | .idle => d
    | .drop c x w => Dev.selectTx (d.dropWhere p c w fun y => y == x) p n
    | .start c x => d.setSw fun s => s.mapCopies p c (fun y => y == x) fun y => { y with state := .tx, r := 0, s := 0 }

/-- An idle egress port picks its next copy (R126). Nothing enters TX while the link is down or held (R106). -/
def txSelectOp (p : Nat) (d : Dev) : Dev :=
  if (d.sw.txOf p).isSome ∨ !(d.sw.link p).up ∨ d.get (Ent.Port.STATE p) = 0 then d
  else d.selectTx p ((d.sw.portCopies p fun _ => true).length + 1)

/-- The copy leaves its queue and its cells. -/
def Dev.endTx (d : Dev) (p c : Nat) (x : Copy) : Dev :=
  d.setSw fun w => (w.unref x.store).setQueue p c { w.queue p c with copies := (w.queue p c).copies.filter fun y => y ≠ x }

/-- The copy in TX of a port ends with an inverted FCS and is dropped (R103, R107, R110). -/
def Dev.abortTx (d : Dev) (p : Nat) (w : Drop) : Dev :=
  match d.sw.txOf p with
  | none => d
  | some (c, x) => ((d.endTx p c x).putFrame p x.frame true).dropped p c x.ingress x.multi w

/-- The last byte of a copy leaves. A cut-through copy of a frame that failed, or an uncorrectable cell (`ecc`), ends it with an
inverted FCS and it counts in CT_ABORTED (R103, R110), as every other copy that reads the cell; otherwise the copy reaches SENT (R95, R96). A
cut-through copy cannot end before its frame, nor a host-port copy before it is in its ring, unless a unit of the device takes it. On an S port in
MODE 4 the copy has met `col` collisions on its way (R141). -/
def copySentOp (p : Nat) (ecc : Bool) (col : Nat) (d : Dev) : Dev :=
  match d.sw.txOf p with
  | none => d
  | some (c, x) =>
    let st := (x.store.bind fun k => KV.find k d.sw.stores).getD ⟨0, 1, true, false⟩
    if !st.whole then d
    else if st.bad || ecc then (match x.store with | some k => d.setSw (·.spoil k) | none => d).abortTx p .ctAborted
    else if 48 ≤ p ∧ p ≤ 51 ∧ !x.handed ∧ d.unitOfHost p x.frame = none then d
    else
      let d := if col ≠ 0 ∧ d.get (Ent.Pcfg.MODE p) = 4 then d.count (collisions p) col else d
      let d := match d.unitOfHost p x.frame with | some u => d.emit (.deliver u p x.frame) | none => d
      let d := (d.endTx p c x).putFrame p x.frame false
      let d := ((d.count (queueCounter p c 7)).count (txFrames p)).count (txBytes p) x.frame.len
      if x.multi then d.count (copiesSent x.ingress) else d

/-! ### Flush and drain (R107, R119) -/

/-- Every copy of the queue not in TX is dropped. -/
def Dev.clearQueue (d : Dev) (p c : Nat) (w : Drop) : Dev := d.dropWhere p c w fun x => x.state != .tx

/-- FLUSH: every copy not in TX is dropped with DROP_DISABLED and the latch clears; STATE stays (R107). -/
def queueFlushOp (p c : Nat) (d : Dev) : Dev :=
  let d := d.clearQueue p c .disabled
  d.setSw fun w => { w with queues := KV.put ⟨[], false, 0, false⟩ (qKey p c) { w.queue p c with latched := false } w.queues }

/-! ### Meanings -/

def execFrameLanded (p : Nat) (s : State) := onDev s (frameLandedOp p)
def execStwWriteComplete (p c : Nat) (s : State) := onDev s (stwWriteCompleteOp p c)
def execRefillStart (p c : Nat) (s : State) := onDev s (refillStartOp p c)
def execRefillComplete (p c : Nat) (err : Option Nat) (s : State) := onDev s (refillCompleteOp p c err)
def execTxSelect (p : Nat) (s : State) := onDev s (txSelectOp p)
def execCopySent (p : Nat) (ecc : Bool) (col : Nat) (s : State) := onDev s (copySentOp p ecc col)
def execQueueFlush (p c : Nat) (s : State) := onDev s (queueFlushOp p c)

end Sys2Proof.Machine
end

