-- ==== Sys2Proof/Machine/SleepDomains.lean ====
section
/-! DEFINITION. Sleep domains, keep-alives and transceiver states (R194 to R197, R204, R205). -/

namespace Sys2Proof.Machine

def Dev.setSleep (d : Dev) (f : SleepSt → SleepSt) : Dev := { d with sleep := f d.sleep }

def Dev.domain (d : Dev) (k : Nat) : Domain := KV.get ⟨0, 0, 0, false, 0⟩ k d.sleep.domains

def Dev.setDomain (d : Dev) (k : Nat) (f : Domain → Domain) : Dev :=
  d.setSleep fun s => { s with domains := KV.put ⟨0, 0, 0, false, 0⟩ k (f (d.domain k)) s.domains }

/-- The CAN channel or port of a domain is ENABLED or draining (R194). -/
def Dev.domainUnitOn (d : Dev) (k : Nat) : Bool :=
  if k < 16 then d.get (Ent.CanSt.STATE k) != 0 else d.get (Ent.Port.STATE (k + 8)) != 0

/-- The local request bit of a domain. -/
def Dev.requested (d : Dev) (k : Nat) : Bool := bit (d.fld Rg.Slpr.DOM_REQ) k

/-- FLAGS of a keep-alive (Table 8.1). -/
def kaFlags (state : Nat) (again : Bool) : Nat := (if state = 1 then 1 else 2) + b2n again * 4

/-- Send a keep-alive of a domain in REQUESTED or LISTENING (R195, R196): by the channel's service transmitter, or in the TCM queue of the S port. During sleep entry domains send nothing (Table 8.4). -/
def Dev.sendKeepalive (d : Dev) (k : Nat) : Dev :=
  let x := d.domain k
  if (x.state ≠ 1 ∧ x.state ≠ 2) ∨ 2 ≤ d.get Ent.Slp.ENTRY then d
  else
    let fl := kaFlags x.state x.again
    let d := d.setDomain k fun x => { x with seq := (x.seq + 1) % 65536, again := false, sent := d.time.raw }
    if k < 16 then
      let f : CanFrame := ⟨d.get Ent.Slpm.KA_CAN_BASE + d.board.nodeId, true, false, false, false, false, 8,
        le 1 1 ++ le 1 fl ++ le 2 x.seq ++ zeros 4⟩
      d.svcQueue k ⟨f, none, none⟩
    else
      let b := le 1 1 ++ le 1 1 ++ le 2 d.board.nodeId ++ le 1 fl ++ le 1 k ++ le 2 x.seq ++ zeros 38
      (d.emit (.send "keep-alive" (k + 8) 0xFFFFFFFFFFFF b)).sendTcm (k + 8)
        (deviceFrame 0xFFFFFFFFFFFF d.board.deviceMac 0 0 (d.get Ent.Fwd.NAVOS_ETYPE) b)

/-- A domain enters a state; REQUESTED and LISTENING send at once (Table 8.3), and the state's timer starts. -/
def Dev.enterDomain (d : Dev) (k st : Nat) : Dev :=
  (d.setDomain k fun x => { x with state := st, timer := d.time.raw }).sendKeepalive k

/-- A domain takes or leaves OFF as KA_EN and its unit say (R194, R197). -/
def Dev.refreshDomain (d : Dev) (k : Nat) : Dev :=
  let on := d.flag (Ent.Sdom.KA_EN k) && d.domainUnitOn k
  let st := (d.domain k).state
  if on ∧ st = 0 then d.enterDomain k (if d.requested k then 1 else 2)
  else if !on ∧ st ≠ 0 then d.setDomain k fun x => { x with state := 0 }
  else d

/-- A timer of the domain set to `ms` may have ended since `t`: it runs at most 0.2 % short (R197). -/
def Dev.timerEnded (d : Dev) (t ms : Nat) : Bool := d.passed t (ms * 998000)

/-- KA_PERIOD_MS passes (R197). -/
def keepaliveSendOp (k : Nat) (d : Dev) : Dev := if d.timerEnded (d.domain k).sent (d.get (Ent.Sdom.KA_PERIOD_MS k)) then d.sendKeepalive k else d

/-- QUIET_MS without a trigger keep-alive in LISTENING (R197). -/
def quietTimeoutOp (k : Nat) (d : Dev) : Dev :=
  if (d.domain k).state = 2 ∧ d.timerEnded (d.domain k).timer (d.get (Ent.Sdom.QUIET_MS k)) then d.enterDomain k 3 else d

/-- WAIT_MS elapsed in WAITING (R197). -/
def waitTimeoutOp (k : Nat) (d : Dev) : Dev :=
  if (d.domain k).state = 3 ∧ d.timerEnded (d.domain k).timer (d.get (Ent.Sdom.WAIT_MS k)) then d.enterDomain k 4 else d

/-- A write to DOM_REQ: request bits set take their domains to REQUESTED, bits cleared take them to LISTENING (R197). -/
def domReqWriteOp (v : Nat) (d : Dev) : Dev :=
  let old := d.fld Rg.Slpr.DOM_REQ
  let d := d.setFld Rg.Slpr.DOM_REQ v
  ((List.range 32).foldl (fun d k =>
    let st := (d.domain k).state
    if st = 0 ∨ bit old k = bit v k then d
    else d.enterDomain k (if bit v k then 1 else 2)) d).answer .ok

/-- A trigger keep-alive in a domain that is not OFF (R197). -/
def Dev.domainTriggered (d : Dev) (k : Nat) : Dev :=
  let st := (d.domain k).state
  if st = 2 then d.setDomain k fun x => { x with timer := d.time.raw }
  else if st = 3 ∨ st = 4 then d.enterDomain k 2 else d

/-- Every domain is OFF or AGREED (R198). -/
def Dev.domainsAgree (d : Dev) : Bool := (List.range 32).all fun k => (d.domain k).state == 0 || (d.domain k).state == 4

/-- DOM_AGREED (Table 8.10). -/
def Dev.domAgreed (d : Dev) : Nat :=
  sumBits ((List.range 32).map fun k => (d.domain k).state == 0 || (d.domain k).state == 4)
where
  /-- The number whose bits are listed, lowest first. -/
  sumBits : List Bool → Nat
    | [] => 0
    | b :: r => b2n b + 2 * sumBits r

/-! ### False wakes (R208, R209) -/

/-- SLEEPS 0 and ABORTS 1; WAKES 0 and FALSE_WAKES 1 of a source. -/
def sleepCounter (i : Nat) : Counter := ⟨⟨0x3C00, 6 + i, 64, 0⟩, Ent.Slp.COUNTER_SAT, i, srcVestibule⟩
def wakeCounter (s i : Nat) : Counter := ⟨⟨0x3C50 + s, 0x13 + i, 64, 0⟩, Ent.Wsrc.COUNTER_SAT s, i, srcVestibule + 1 + s⟩

/-- An event of Table 8.14; those of a source carry its instance. -/
def Dev.sleepEvent (d : Dev) (code data : Nat) : Dev := d.eventSys 3 srcVestibule code data
def Dev.sourceEvent (d : Dev) (s code data : Nat) : Dev := d.eventSys 3 (srcVestibule + 1 + s) code data

/-- The window of a source opens now. -/
def Dev.windowOpens (d : Dev) (s : Nat) : Dev := (d.setSleep fun x => { x with opened := KV.insert s d.time.raw x.opened }).setFldBit Rg.Slpr.FW_PENDING s true

/-- The window of a wake by channel `n` opens as it becomes ENABLED again (R208). -/
def Dev.wakeWindow (d : Dev) (n : Nat) : Dev :=
  if d.sleep.owed.contains n then (d.setSleep fun s => { s with owed := s.owed.filter (· ≠ n) }).windowOpens n else d

/-- A quarantine ends: its false wakes are reported. -/
def Dev.quarantineEnds (d : Dev) (s : Nat) : Dev :=
  if d.get (Ent.Wsrc.QUARANTINED s) = 0 then d
  else
    let n := (KV.find s d.sleep.quarantine).getD 0
    ((d.put (Ent.Wsrc.QUARANTINED s) 0).setSleep fun x => { x with quarantine := KV.erase s x.quarantine }).sourceEvent s 0x0025 (min n 0xFFFFFFFF)

/-- FILTER_CUR returns to FILTER_BASE and a quarantine ends. -/
def Dev.sourceClean (d : Dev) (s : Nat) : Dev := (d.put (Ent.Wsrc.FILTER_CUR s) (d.get (Ent.Wsrc.FILTER_BASE s))).quarantineEnds s

/-- A confirmed wake. -/
def Dev.wakeConfirmed (d : Dev) (s : Nat) : Dev := ((d.setFldBit Rg.Slpr.FW_PENDING s false).put (Ent.Wsrc.FW_COUNT s) 0).sourceClean s

/-- A window of the source runs. -/
def Dev.windowRuns (d : Dev) (s : Nat) : Bool := decide (s < 18) && bit (d.fld Rg.Slpr.FW_PENDING) s

/-- A false wake, in the order of R209. -/
def Dev.wakeFalse (d : Dev) (s : Nat) : Dev :=
  let n := min 255 (d.get (Ent.Wsrc.FW_COUNT s) + 1)
  let d := (((d.setFldBit Rg.Slpr.FW_PENDING s false).put (Ent.Wsrc.FW_COUNT s) n).count (wakeCounter s 1)).sourceEvent s 0x0023 n
  if d.get (Ent.Wsrc.FW_THRESH s) < n then
    let d := d.put (Ent.Wsrc.FILTER_CUR s) (min (2 * d.get (Ent.Wsrc.FILTER_CUR s)) (d.get (Ent.Wsrc.FILTER_MAX s)))
    if d.get (Ent.Wsrc.QUARANTINED s) = 0 then
      ((d.put (Ent.Wsrc.QUARANTINED s) 1).setSleep fun x => { x with quarantine := KV.insert s 0 x.quarantine }).sourceEvent s 0x0024
        (d.get (Ent.Wsrc.FILTER_CUR s))
    else d.setSleep fun x => { x with quarantine := KV.insert s ((KV.find s x.quarantine).getD 0 + 1) x.quarantine }
  else d

/-- Wakes that nothing has confirmed are false, those whose window has not opened among them: at a sleep entry and at a reset (R208). -/
def Dev.wakesFalse (d : Dev) : Dev :=
  ((List.range 18).foldl (fun d s => if d.windowRuns s || d.sleep.owed.contains s then d.wakeFalse s else d) d).setSleep fun s => { s with owed := [] }

/-! ### Transceivers (R204, R205) -/

/-- The wake configuration of a source: from arming on the copy in the vestibule (Table 8.4 step 4). -/
def Dev.wakeMode (d : Dev) (s : Nat) : Nat :=
  match d.sleep.armed with
  | some a => (a.modes[s]?).getD 0
  | none => d.get (Ent.Wsrc.WAKE_MODE s)

/-- The low-power state the transceivers have taken: the one entered, from arming on. -/
def Dev.lowPower (d : Dev) : Option Nat :=
  match d.power.phase with
  | .asleep t => some t
  | .running => if d.sleep.armed.isSome then some d.sleep.target else none
  | _ => none

/-- STATE of a transceiver: Table 8.5 in the native model, Table 8.6 in the ZC2408 model. -/
def Dev.trxState (d : Dev) (n : Nat) : Nat :=
  if d.get Ent.Slpm.MODEL = 1 then KV.get 0 n d.sleep.trx
  else
    match d.lowPower with
    | some t =>
      let m := d.wakeMode n
      if m = 0 then 0 else if m = 2 ∧ t = 2 ∧ d.get (Ent.Wsrc.QUARANTINED n) = 0 then 4 else 3
    | none => if d.get (Ent.CanSt.STATE n) = 0 then 0 else if d.flag (Ent.Can.LISTEN_ONLY n) then 2 else 1

/-- A transceiver takes a compatibility state. -/
def Dev.setTrx (d : Dev) (n st : Nat) : Dev := d.setSleep fun s => { s with trx := KV.put 0 n st s.trx, trxAt := KV.insert n d.time.raw s.trxAt }

/-- ENTRY in the ZC2408 model: 1 while a channel is in SLEEP and the other conditions are awaited (R198). -/
def Dev.refreshEntry (d : Dev) : Dev :=
  if d.get Ent.Slpm.MODEL = 1 ∧ d.get Ent.Slp.ENTRY ≤ 1 then
    d.put Ent.Slp.ENTRY (b2n ((List.range 16).any fun n => KV.get 0 n d.sleep.trx == 4))
  else d

/-- CMD 3 and CMD 4 put a transceiver into STANDBY or GO_TO_SLEEP; ignored in the native model (Table 8.6). -/
def trxCmdStandbyOp (n : Nat) (d : Dev) : Dev := (if d.get Ent.Slpm.MODEL = 1 then (d.setTrx n 2).refreshEntry else d).answer .ok
def trxCmdGoToSleepOp (n : Nat) (d : Dev) : Dev := (if d.get Ent.Slpm.MODEL = 1 then (d.setTrx n 3).refreshEntry else d).answer .ok

/-- 50 µs (±0.2 %) in GO_TO_SLEEP without a pattern (R205). -/
def goToSleepTimeoutOp (n : Nat) (d : Dev) : Dev :=
  if d.get Ent.Slpm.MODEL = 1 ∧ KV.get 0 n d.sleep.trx = 3 ∧ d.passed ((KV.find n d.sleep.trxAt).getD d.time.raw) 49900 then (d.setTrx n 4).refreshEntry else d

/-- The check of a domain group (Table 8.12): QUIET_MS at least twice KA_PERIOD_MS. -/
def domainFault (x : Dev) (k : Nat) : Option Nat :=
  if x.get (Ent.Sdom.QUIET_MS k) < 2 * x.get (Ent.Sdom.KA_PERIOD_MS k) then some 3 else none

/-- The check of the watch list (R210): no source number twice. -/
def watchFault (x : Dev) : Option Nat :=
  let v (i : Nat) : Nat := x.get (Ent.Watch.WATCH i)
  ((List.range 32).find? fun i => v i != 0 && (List.range i).any fun j => v j == v i).map (· + 1)

/-- The check of a wake source (Table 8.13): FILTER_MAX at least FILTER_BASE. -/
def wakeFault (x : Dev) (s : Nat) : Option Nat :=
  if x.get (Ent.Wsrc.FILTER_MAX s) < x.get (Ent.Wsrc.FILTER_BASE s) then some 3 else none

/-! ### Meanings -/

def execKeepaliveSend (k : Nat) (s : State) := onDev s (keepaliveSendOp k)
def execQuietTimeout (k : Nat) (s : State) := onDev s (quietTimeoutOp k)
def execWaitTimeout (k : Nat) (s : State) := onDev s (waitTimeoutOp k)
def execDomReqWrite (v : Nat) (s : State) := onDev s (domReqWriteOp v)
def execTrxCmdStandby (n : Nat) (s : State) := onDev s (trxCmdStandbyOp n)
def execTrxCmdGoToSleep (n : Nat) (s : State) := onDev s (trxCmdGoToSleepOp n)
def execGoToSleepTimeout (n : Nat) (s : State) := onDev s (goToSleepTimeoutOp n)

end Sys2Proof.Machine
end

