-- ==== Sys2Proof/Machine/Bridge.lean ====
section
/-! DEFINITION. Bridge requesters: windows, sessions, retries, ACKs, the recovery slot, events, polls, the remote mailbox and the CAN
tunnels (R215 to R223, R225, R227 to R231). -/

namespace Sys2Proof

open Sys2Proof.Machine

/-! ### Messages (Table 9.1) -/

/-- The 32 bytes of the header. -/
def BMsg.header (m : BMsg) : Bytes :=
  bytesOf [m.ty, m.op, b2n m.spec + 2 * b2n m.enc, 0] ++ le 2 (m.srcNode + m.srcUnit * 4096) ++ le 2 m.dst ++ le 2 m.sid ++
  le 2 m.epoch ++ le 4 m.seq ++ le 4 m.tag ++ le 5 m.addr ++ le 1 m.size ++ le 2 m.status ++ le 2 m.data.length ++ zeros 2

/-- The whole message. -/
def BMsg.wire (m : BMsg) : Bytes := m.header ++ m.data ++ m.auth

/-- The GCM nonce: MSG_SEQ, TYPE, seven zeros (R218). -/
def BMsg.nonce (m : BMsg) : Bytes := le 4 m.seq ++ le 1 m.ty ++ zeros 7

/-- Protect a message under a session key: MODE 1 encrypts the data, MODE 0 authenticates it (R73, R218). -/
def BMsg.protect (key : Bytes) (mode : Nat) (m : BMsg) : BMsg :=
  if mode = 1 then
    let m := { m with enc := true }
    let (c, t) := gcmSeal key m.nonce m.header m.data
    { m with data := c, auth := t }
  else
    let m := { m with enc := false }
    { m with auth := (gcmSeal key m.nonce (m.header ++ m.data) []).2 }

/-- Check and decrypt a message under a session key; `none` when the tag fails. -/
def BMsg.openUnder (key : Bytes) (m : BMsg) : Option BMsg :=
  if m.enc then (gcmOpen key m.nonce m.header m.data m.auth).map fun p => { m with data := p }
  else (gcmOpen key m.nonce (m.header ++ m.data) [] m.auth).map fun _ => m

/-- The tag of a CONNECT under the key of its slot (R218). -/
def BMsg.connectTag (key : Bytes) (m : BMsg) : Bytes := (hmacSha256 key (m.header ++ m.data)).take 16

end Sys2Proof

namespace Sys2Proof.Machine

/-- The session key (R218): "NBSK", requester nonce, responder nonce. -/
def bridgeKey (key req resp : Bytes) : Bytes := hmacSha256 key (bytesOf [0x4E, 0x42, 0x53, 0x4B] ++ req ++ resp)

/-- The key of a slot that holds one of usage 0 (R402, R403). -/
def Dev.hmacKey (d : Dev) (slot : Nat) : Option Bytes :=
  if d.flag (Ent.Key.LOADED slot) ∧ d.get (Ent.Key.USAGE slot) = 0 then some (slice (d.oct (Ent.Key.KEY slot)) 0 32) else none

/-! ### State of a unit -/

def Dev.setBr (d : Dev) (f : Bridge → Bridge) : Dev := { d with br := f d.br }

/-- A session at rest. -/
def BSess.none : BSess := ⟨0, 0, [], [], 1, [], [], [], 0, []⟩

def Dev.brSess (d : Dev) (u sid : Nat) : BSess := KV.get BSess.none (u * 2048 + sid) d.br.sess

def Dev.setBrSess (d : Dev) (u sid : Nat) (f : BSess → BSess) : Dev :=
  d.setBr fun b => { b with sess := KV.put BSess.none (u * 2048 + sid) (f (d.brSess u sid)) b.sess }

def BCtx.fresh : BCtx := ⟨Option.none, false, false, false, false, 0, 0⟩

def Dev.brCtx (d : Dev) (u k : Nat) : BCtx := KV.get BCtx.fresh (u * 64 + k) d.br.ctx

def Dev.setBrCtx (d : Dev) (u k : Nat) (f : BCtx → BCtx) : Dev :=
  d.setBr fun b => { b with ctx := KV.put BCtx.fresh (u * 64 + k) (f (d.brCtx u k)) b.ctx }

/-- Entry index offset of a context. -/
def bctx (u k : Nat) : Nat := u * 64 + k

/-- Counters of a unit (RX_REJECTED, EVT_UNKNOWN, ORPHANS, POLLS) and of a context (READS to RETRANSMITS). -/
def buCounter (u i : Nat) : Counter := ⟨{ Ent.Bu.RX_REJECTED u with sub := 0x10 + i }, Ent.Bu.COUNTER_SAT u, i, srcBridge u 255⟩
def bctxCounter (u k i : Nat) : Counter :=
  ⟨{ Ent.Bctx.READS (bctx u k) with sub := 0x12 + i }, Ent.Bctx.COUNTER_SAT (bctx u k), i, srcBridge u k⟩
def tunCounter (t i : Nat) (u : Nat) : Counter :=
  ⟨{ Ent.Tun.TUN_OUT t with sub := 0x10 + i }, Ent.Tun.COUNTER_SAT t, i, srcBridge u (64 + t)⟩

/-- Count for a context; poll sessions have no counters. -/
def Dev.ctxCount (d : Dev) (u sid i : Nat) (n : Nat := 1) : Dev := if sid < 64 then d.count (bctxCounter u sid i) n else d

/-- Source ID of a session's events: its context, or the unit for a poll session (R234). -/
def srcSession (u sid : Nat) : Nat := srcBridge u (if sid < 64 then sid else 255)

/-- A frame of a unit, with the VLAN and PCP of its entries (R216), into port P(48 + u). -/
def Dev.unitFrame (d : Dev) (u mac etype : Nat) (b : Bytes) : Dev :=
  d.emit (.inject (48 + u) (deviceFrame mac (ofBe (d.oct (Ent.Bu.BU_MAC u))) (d.get (Ent.Bu.VLAN u)) (d.get (Ent.Bu.PCP u)) etype b))

/-- The unit works: a BU_MAC of all zeros turns it off (R215), and so does its gate (R18). -/
def Dev.bridgeOn (d : Dev) (u : Nat) : Bool := decide (u < 4) && ofBe (d.oct (Ent.Bu.BU_MAC u)) != 0 && d.gateOn (gateBridge u)

/-- A message of a unit to a peer; a unit that is off sends nothing. -/
def Dev.bridgeSend (d : Dev) (u mac : Nat) (b : Bytes) : Dev :=
  if !d.bridgeOn u then d else d.unitFrame u mac (d.get Ent.Fwd.NAVOS_ETYPE) b

/-- Endpoint record (Table 9.9): node, unit, VALID, SID, hall. -/
def Dev.endpoint (d : Dev) (u e : Nat) : Bytes := slice (d.oct (Ent.Bu.ENDPOINTS u)) (8 * e) 8
def epNode (r : Bytes) : Nat := bits (leAt r 0 2) 11 0
def epUnit (r : Bytes) : Nat := bits (leAt r 0 2) 13 12
def epValid (r : Bytes) : Bool := bit (leAt r 0 2) 15
def epSid (r : Bytes) : Nat := leAt r 2 2
def epHall (r : Bytes) : Nat := leAt r 4 1

/-- The node a session talks to. -/
def Dev.peerNode (d : Dev) (u sid : Nat) : Nat :=
  if sid < 64 then d.get (Ent.Bctx.REMOTE_NODE (bctx u sid)) else epNode (d.endpoint u (sid - 0x400))

/-- Send to a session's peer. The manual gives no address for the peer of a poll session: a free value (R218, assumption 3). -/
def Dev.sessSend (d : Dev) (u sid : Nat) (b : Bytes) : Dev :=
  if sid < 64 then d.bridgeSend u (ofBe (d.oct (Ent.Bctx.REMOTE_MAC (bctx u sid)))) b
  else
    let (m, d) := d.draw 48
    d.bridgeSend u m.toNat b

/-- KEY_SLOT of a session (R218). -/
def Dev.sessSlot (d : Dev) (u sid : Nat) : Nat :=
  if sid < 64 then d.get (Ent.Bctx.KEY_SLOT (bctx u sid)) else d.get (Ent.Bu.POLL_KEY_SLOT u)

/-- MODE of a session; poll sessions, for which the manual names no MODE, encrypt (DESIGN CHOICE, assumption 30). -/
def Dev.sessMode (d : Dev) (u sid : Nat) : Nat := if sid < 64 then d.get (Ent.Bctx.MODE (bctx u sid)) else 1

/-- Epoch in the header: the context's; poll sessions belong to no context and carry 0. -/
def Dev.sessEpoch (d : Dev) (u sid : Nat) : Nat := if sid < 64 then d.epoch (.bridge (bctx u sid)) else 0

/-- A request message of a session, before it is numbered. -/
def Dev.request (d : Dev) (u sid op : Nat) (data : Bytes) : BMsg :=
  { ty := 3, op, spec := false, enc := false, srcNode := d.board.nodeId, srcUnit := u, dst := d.peerNode u sid, sid,
    epoch := d.sessEpoch u sid, seq := 0, tag := 0, addr := 0, size := 0, status := 0, data, auth := [] }

/-! ### The page of a context -/

/-- A remote-mailbox register: the field of Table 3.8 at offset 0x800 of the context page (R227). -/
def rmb (u k : Nat) (f : Nat → Field) : Field :=
  { f 0 with addr := (f 0).addr + 0x40000 * u + 0x1000 * k + 0x10800800 - 0x1EF00000 }

/-- The first `n` bytes of a mailbox's data words; `w i` is word `i`. -/
def Dev.mbBytes (d : Dev) (w : Nat → Field) (n : Nat) : Bytes :=
  ((List.range ((n + 3) / 4)).flatMap fun i => le 4 (d.fld (w i))).take n

/-- Write bytes into a mailbox's data words. -/
def Dev.setMbBytes (d : Dev) (w : Nat → Field) (b : Bytes) : Dev :=
  (List.range ((b.length + 3) / 4)).foldl (fun d i =>
    let old := le 4 (d.fld (w i))
    d.setFld (w i) (leAt (patch old 0 ((b.drop (4 * i)).take 4)) 0 4)) d

/-- Raise an interrupt bit of a context (Table 9.7). -/
def Dev.ctxIrq (d : Dev) (u k i : Nat) : Dev := d.setFldBit (Rg.Ctx.IRQ u k) i true

/-- Record a failure in BST (R222). -/
def Dev.bstFail (d : Dev) (u k code far addr : Nat) : Dev :=
  if d.isSet (Rg.Ctx.FAILED u k) then d.setFld (Rg.Ctx.MULTI u k) 1
  else
    ((((d.setFld (Rg.Ctx.FAILED u k) 1).setFld (Rg.Ctx.CODE_8 u k) code).setFld (Rg.Ctx.FAR_CODE u k) far).setFld
      (Rg.Ctx.BST_ADDR_LO u k) (addr % 2 ^ 32)).setFld (Rg.Ctx.BST_ADDR_HI u k) (addr / 2 ^ 32) |>.ctxIrq u k 2

/-- POSTED_FAIL to the ring of the hall that issued the write, or to hall 0 when the hall is gone or has changed (R54). -/
def Dev.postedFail (d : Dev) (source hall epoch seq addr status : Nat) : Dev :=
  let h := if d.hallExists hall && d.epoch (.hall hall) == epoch then hall else 0
  d.eventRing h source 0x0006 seq (some (le 8 addr ++ le 2 status ++ le 2 hall))

/-- PW_DONE: every posted write before it has a known outcome (R225). -/
def Dev.refreshPwDone (d : Dev) (u k : Nat) : Dev :=
  let s := d.brSess u k
  match (s.sent ++ s.waiting).find? fun r => r.msg.op == 3 || r.msg.op == 8 with
  | some r => d.setFld (Rg.Ctx.PW_DONE u k) r.msg.tag
  | none => d.setFld (Rg.Ctx.PW_DONE u k) (d.fld (Rg.Ctx.PW_SEQ u k))

/-- The remote mailbox completes (R81, R227). `far` is what BST FAR_CODE takes: the responder's code, or 0 after a timeout (R220); a failure of the
device's own leaves it as it is. -/
def Dev.remoteMbDone (d : Dev) (u k : Nat) (s : Status) (far : Option Nat) (data : Option (Nat × Bytes)) : Dev :=
  let d := match data with
    | some (total, b) => ((d.setMbBytes (fun i => rmb u k (fun n => Rg.Mb.MB_DATA n i)) b).setFld (rmb u k Rg.Mb.MB_LEN) b.length).setFld
        (rmb u k Rg.Mb.MB_TOTAL) total
    | none => d
  let d := match far with
    | some f => d.setFld (Rg.Ctx.FAR_CODE u k) f
    | none => d
  ((d.setFld (rmb u k Rg.Mb.CODE) s.code).setFld (rmb u k Rg.Mb.BUSY) 0).setFld (rmb u k Rg.Mb.DONE) 1

/-! ### Polls (R230) -/

/-- A poll failed: POLL_FAIL and CODE are set, POLL_FAIL goes to the device log and the hall's ring at most once per second. The code that the far side
gave is kept in the event's DATA (R34). -/
def Dev.pollFailed (d : Dev) (u e : Nat) (s : Status) (far : Nat) : Dev :=
  let d := (d.setFld (Rg.Ep.POLL_FAIL u e) 1).setFld (Rg.Ep.CODE u e) s.code
  d.limited (scopeOf (srcBridge u 255) 0x0024 * 1024 + e) 1 fun d _ =>
    let v := e + (if s = .remoteFailed then far else s.code) * 65536
    (d.event (srcBridge u 255) 0x0024 v).eventRing (epHall (d.endpoint u e)) (srcBridge u 255) 0x0024 v

/-- A poll's status block (Table 9.6) reaches the endpoint. -/
def Dev.pollTaken (d : Dev) (u e : Nat) (b : Bytes) : Dev :=
  let seq := leAt b 0 4
  let tog := leAt b 4 4
  let old := KV.get 0 (u * 1024 + e) d.br.toggles
  let changed := (BitVec.ofNat 32 old ^^^ BitVec.ofNat 32 tog).toNat
  let rose := (seq + 2 ^ 32 - d.fld (Rg.Ep.EVT_SEQ u e)) % 2 ^ 32
  let d := d.setFld (Rg.Ep.EVT_PENDING u e) (orBits (d.fld (Rg.Ep.EVT_PENDING u e)) changed)
  let d := if popCount 32 changed < rose then d.setFld (Rg.Ep.MERGED u e) 1 else d
  let d := (d.setFld (Rg.Ep.SIDEBAND u e) (leAt b 8 4)).setFld (Rg.Ep.EVT_SEQ u e) seq
  d.setBr fun x => { x with toggles := KV.put 0 (u * 1024 + e) tog x.toggles }

/-! ### Sessions served: the answers of this device's responder (R218, R219, R225) -/

/-- The request number after `q`: it wraps from all ones to 1 (R219). -/
def nextMsgSeq (q : Nat) : Nat := if q = 0xFFFFFFFF then 1 else q + 1

/-- The key of a served session: unit, requester unit, node, SID. -/
def serveKey (u : Nat) (m : BMsg) : Nat := ((u * 4 + m.srcUnit) * 4096 + m.srcNode) * 2048 + m.sid

def serveUnit (k : Nat) : Nat := k / 2048 / 4096 / 4
def serveSource (k : Nat) : Nat := k / 2048 % 16384

/-- Export records are 64 of 16 bytes (Table 9.5). -/
def Dev.export_ (d : Dev) (u i : Nat) : Bytes := slice (d.oct (Ent.Bu.EXPORTS u)) (16 * i) 16

/-- The VALID export record for a requester: SRC node and unit. -/
def Dev.exportFor (d : Dev) (u source : Nat) : Option Bytes :=
  ((List.range 64).map (d.export_ u)).find? fun r => bit (leAt r 0 2) 15 && bits (leAt r 0 2) 13 0 == source

/-- A served session takes a change; 0 is no key of one. -/
def Dev.setServe (d : Dev) (k : Nat) (f : BServe → BServe) : Dev :=
  match KV.find k d.br.serve with
  | some s => d.setBr fun b => { b with serve := KV.insert k (f s) b.serve }
  | none => d

/-- The answer to a request `m` of a session, in the clear: its fields echo the request's, MSG_SEQ counts the responder's answers. -/
def BServe.answerMsg (s : BServe) (m : BMsg) (status : Status) (data : Bytes) : BMsg :=
  { m with ty := 4, spec := false, enc := false, seq := s.resp, tag := m.seq, status := status.code, data, auth := [] }

/-- Answer a performed request: the response is protected by the export's MODE, cached and sent (R218, R219). -/
def Dev.serveAnswer (d : Dev) (k : Nat) (m : BMsg) (status : Status) (data : Bytes) : Dev :=
  match KV.find k d.br.serve with
  | none => d
  | some s =>
    let u := serveUnit k
    let mode := leAt ((d.exportFor u (serveSource k)).getD []) 5 1
    let w := ((s.answerMsg m status data).protect s.key mode).wire
    (d.setServe k fun s => { s with resp := nextMsgSeq s.resp, last := m.seq, asked := none,
                                    cache := ((m.seq, some w) :: s.cache).take 32 }).bridgeSend u s.mac w

/-- Send the current ACK of a session; the answer to request `q` is cached. Before its first posted write there is no ACK_SEQ: a free value. -/
def Dev.sendAck (d : Dev) (k : Nat) (req : Option Nat := none) : Dev :=
  match KV.find k d.br.serve with
  | none => d
  | some s =>
    let u := serveUnit k
    let src := serveSource k
    let (q, d) := match s.ackSeq with
      | some q => (q, d)
      | none => let (v, d) := d.draw 32; (v.toNat, d)
    let mode := leAt ((d.exportFor u src).getD []) 5 1
    let m : BMsg :=
      { ty := 4, op := 0x0A, spec := false, enc := false, srcNode := src % 4096, srcUnit := src / 4096, dst := d.board.nodeId, sid := k % 2048,
        epoch := s.epoch, seq := s.resp, tag := q, addr := 0, size := 0, status := 0, data := le 8 s.failMap, auth := [] }
    let w := (m.protect s.key mode).wire
    (d.setServe k fun s =>
      { s with resp := nextMsgSeq s.resp, uncovered := 0,
               cache := match req with | some r => ((r, some w) :: s.cache).take 32 | none => s.cache }).bridgeSend u s.mac w

/-- A posted write or an EVENT of the session has been performed: its bit of FAIL_MAP; an ACK goes out after every 16. -/
def Dev.postedDone (d : Dev) (k : Nat) (m : BMsg) (failed : Bool) : Dev :=
  let d := d.setServe k fun s =>
    let age := match s.ackSeq with | some q => (m.tag + 2 ^ 32 - q) % 2 ^ 32 | none => 64
    { s with last := m.seq, epoch := m.epoch, ackSeq := some m.tag, uncovered := s.uncovered + 1,
             failMap := (s.failMap * 2 ^ min age 64 + b2n failed) % 2 ^ 64, cache := ((m.seq, none) :: s.cache).take 32, asked := none }
  match KV.find k d.br.serve with
  | some s => if 16 ≤ s.uncovered then d.sendAck k else d
  | none => d

/-- The operation of a request that the responder performed through a bridge window of its own device has its outcome (R224): it is answered now. -/
def Dev.servedDone (d : Dev) (k : Nat) (s : Status) (v : Nat) : Dev :=
  match (KV.find k d.br.serve).bind (·.asked) with
  | none => d
  | some m =>
    if m.op = 3 then d.postedDone k m (s != .ok)
    else d.serveAnswer k m s (if s = .ok ∧ m.op ≠ 4 then le (2 ^ (m.size % 16)) v else [])

/-! ### Outcomes -/

/-- All ones of a request's size. -/
def allOnes (m : BMsg) : Nat := 2 ^ (8 * 2 ^ (m.size % 16)) - 1

/-- A request that could not be answered in time is kept for its late response, if that may go to the recovery slot (R223). -/
def BReq.recoverable (r : BReq) : Bool := (r.msg.op == 2 && !r.msg.spec) || r.msg.op == 5

/-- A concourse transaction that became a request has its outcome: its initiator is answered, unless it left (R222, R223). -/
def Dev.completeReq (d : Dev) (r : BReq) (s : Status) (v : Nat) : Dev :=
  if r.gone then d
  else match r.back with
  | some k => d.servedDone k s v
  | none => d.answered r.initiator r.hall r.addr s v (if r.msg.op = 2 then le (2 ^ (r.msg.size % 16)) v else [])

/-- A posted write or EVENT of a context failed: what the next FENCE reports. One issued after a FENCE that waits is the FENCE's after it (R55). -/
def BCtx.postFailed (c : BCtx) (tag : Nat) (timeout : Bool) : BCtx :=
  if (match c.fence with | some q => before 32 tag q | none => true) then
    { c with failed := c.failed || !timeout, timedOut := c.timedOut || timeout }
  else { c with laterFailed := c.laterFailed || !timeout, laterTimedOut := c.laterTimedOut || timeout }

/-- The twin unit's query completes with its outcome and the first 4 bytes of its data (R505). -/
def Dev.queryDone (d : Dev) (s : Status) (v : Nat) : Dev :=
  ({ d with twin := { d.twin with answer := some (s == .ok, v) } } : Dev).emit (.complete srcTwin s v)

/-- Settle a request that failed with a status, which is the local code, and the far side's code (R220, R222). A drain abort answers ABORTED (R52); BST
records what the responder or a timeout says (Table 9.7). A discarded speculative read is dropped (Table 9.3). -/
def Dev.settleFail (d : Dev) (u sid : Nat) (r : BReq) (s : Status) (far : Nat) : Dev :=
  let d := if s = .remoteTimeout then d.ctxCount u sid 3 else d.ctxCount u sid 2
  match r.msg.op with
  | 2 | 4 | 5 =>
    let v := if r.msg.op = 4 then 0 else allOnes r.msg
    if s = .aborted then d.completeReq r .aborted v
    else if r.gone && r.msg.spec then d
    else (d.bstFail u sid s.code far r.addr).completeReq r .ok v
  | 3 | 8 =>
    let d := d.setBrCtx u sid fun c => c.postFailed r.msg.tag (s == .remoteTimeout)
    d.postedFail (srcBridge u sid) r.hall r.epoch r.msg.tag r.msg.addr s.code
  | 6 | 7 => if r.initiator = srcTwin then d.queryDone s far else
      d.remoteMbDone u sid s (if s = .remoteFailed ∨ s = .remoteTimeout then some far else none) none
  | 9 => if 0x400 ≤ sid then d.pollFailed u (sid - 0x400) s far else d
  | _ => d

/-- Settle a request that the responder performed. -/
def Dev.settleOk (d : Dev) (u sid : Nat) (r : BReq) (data : Bytes) : Dev :=
  match r.msg.op with
  | 2 | 5 => d.completeReq r .ok (ofLe data)
  | 4 => d.completeReq r .ok 0
  | 6 =>
    if r.initiator = srcTwin then d.queryDone .ok (leAt data 16 4)
    else d.remoteMbDone u sid .ok none (some (leAt data 12 4, data.drop 16))
  | 7 => d.remoteMbDone u sid .ok none none
  | 9 => if 0x400 ≤ sid then d.pollTaken u (sid - 0x400) data else d
  | _ => d

/-- The answer of a responder settles its request (R222, R227). -/
def Dev.settle (d : Dev) (u sid : Nat) (r : BReq) (m : BMsg) : Dev :=
  if m.status = 0 then d.settleOk u sid r m.data else d.settleFail u sid r .remoteFailed m.status

/-- A late or orphaned response goes to the recovery slot (R223). -/
def Dev.recover (d : Dev) (u k : Nat) (r : BReq) (m : BMsg) : Dev :=
  let n := 2 ^ (r.msg.size % 16)
  let d := if d.isSet (Rg.Ctx.VALID u k) then d.setFld (Rg.Ctx.LOST u k) 1 else d
  let d := ((d.setFld (Rg.Ctx.VALID u k) 1).setFld (Rg.Ctx.SIZE u k) n).setFld (Rg.Ctx.CODE_40 u k) m.status
  let d := ((d.setFld (Rg.Ctx.RSLOT_ADDR_LO u k) (r.addr % 2 ^ 32)).setFld (Rg.Ctx.RSLOT_ADDR_HI u k) (r.addr / 2 ^ 32)).setFld
    (Rg.Ctx.RSLOT_SEQ u k) r.msg.seq
  let d := d.setMbBytes (Rg.Ctx.RSLOT_DATA u k) (slice m.data 0 64)
  let d := (d.ctxIrq u k 1).count (buCounter u 2)
  (d.event (srcBridge u k) 0x0023 (r.addr % 2 ^ 32)).eventRing (d.get (Ent.Bctx.HALL (bctx u k))) (srcBridge u k) 0x0023 (r.addr % 2 ^ 32)

/-! ### Sessions -/

/-- Show a session's state in the entry and the page. -/
def Dev.showSession (d : Dev) (u sid : Nat) : Dev :=
  if sid < 64 then
    let s := (d.brSess u sid).state
    (d.put (Ent.Bctx.SESSION (bctx u sid)) s).setFld (Rg.Ctx.SESSION u sid) s
  else d

/-- The CONNECT of a connecting session. It stands outside the numbering, with MSG_SEQ 0 (DESIGN CHOICE, assumption 30). -/
def Dev.connectMsg (d : Dev) (u sid : Nat) : BMsg :=
  let m := d.request u sid 1 (d.brSess u sid).nonce
  { m with auth := m.connectTag ((d.hmacKey (d.brSess u sid).slot).getD []) }

/-- Open a session: a fresh nonce, and CONNECT (R218). A slot without a key completes it with NOT_CONFIGURED (R404). -/
def Dev.bridgeConnect (d : Dev) (u sid : Nat) : Dev :=
  let slot := d.sessSlot u sid
  match d.hmacKey slot with
  | none =>
    let w := (d.brSess u sid).waiting
    let d := d.setBrSess u sid fun s => { s with waiting := [] }
    (w.foldl (fun d r => d.settleFail u sid r .notConfigured 0) d)
  | some _ =>
    let (n, d) := d.draw 128
    let d := d.setBrSess u sid fun s => { s with state := 1, slot, nonce := le 16 n.toNat, tries := 0 }
    (d.sessSend u sid (d.connectMsg u sid).wire).showSession u sid

/-- Put a numbered request on the wire. -/
def Dev.transmit (d : Dev) (u sid : Nat) (r : BReq) : Dev :=
  d.sessSend u sid (r.msg.protect (d.brSess u sid).key (d.sessMode u sid)).wire

/-- Issue waiting requests while fewer than 32 are unresolved (R220). -/
def Dev.issueWaiting (d : Dev) (u sid : Nat) : Nat → Dev
  | 0 => d
  | n + 1 =>
    let s := d.brSess u sid
    match s.waiting with
    | r :: rest =>
      if s.state = 2 ∧ s.sent.length < 32 then
        let r := { r with msg := { r.msg with seq := s.next } }
        let d := d.setBrSess u sid fun s => { s with waiting := rest, sent := s.sent ++ [r], next := nextMsgSeq s.next }
        (d.transmit u sid r).issueWaiting u sid n
      else d
    | [] => d

/-- Bring a session forward: open it if requests wait, or issue them. A context of a stopped hall issues nothing (Table 16.6). -/
def Dev.pump (d : Dev) (u sid : Nat) : Dev :=
  let s := d.brSess u sid
  let d := if sid < 64 && d.hallStopped (d.get (Ent.Bctx.HALL (bctx u sid))) then d else if s.state = 0 ∧ s.waiting ≠ [] then d.bridgeConnect u sid else d.issueWaiting u sid 32
  if sid < 64 then d.refreshPwDone u sid else d

/-- Queue a request of a session. -/
def Dev.queueReq (d : Dev) (u sid : Nat) (r : BReq) : Dev :=
  (d.setBrSess u sid fun s => { s with waiting := s.waiting ++ [r] }).pump u sid

/-- Give a posted write or EVENT the next number of its context's sequence (R53). -/
def Dev.takePwSeq (d : Dev) (u k : Nat) : Nat × Dev :=
  let q := d.fld (Rg.Ctx.PW_SEQ u k)
  (q, d.setFld (Rg.Ctx.PW_SEQ u k) ((q + 1) % 2 ^ 32))

/-- Settle every unresolved request with REMOTE_TIMEOUT; reads and atomics stay known for a late response. -/
def Dev.settleAllTimeout (d : Dev) (u sid : Nat) : Dev :=
  let l := (d.brSess u sid).sent
  let d := d.setBrSess u sid fun s => { s with sent := [], late := s.late ++ l.filter BReq.recoverable }
  l.foldl (fun d r => d.settleFail u sid r .remoteTimeout 0) d

/-- RETRY_US passes without a resolving response (R220). -/
def bridgeRetryOp (u sid : Nat) (d : Dev) : Dev :=
  let s := d.brSess u sid
  if s.state = 1 then
    if s.tries < d.get (Ent.Bu.RETRIES u) then
      let d := d.setBrSess u sid fun s => { s with tries := s.tries + 1 }
      (d.sessSend u sid (d.connectMsg u sid).wire).ctxCount u sid 4
    else
      let w := s.waiting
      let d := d.setBrSess u sid fun s => { s with state := 0, waiting := [], tries := 0 }
      let d := w.foldl (fun d r => d.settleFail u sid r .remoteTimeout 0) (d.showSession u sid)
      d.pump u sid
  else if s.state = 2 ∧ s.sent ≠ [] then
    if s.tries < d.get (Ent.Bu.RETRIES u) then
      let d := d.setBrSess u sid fun s => { s with tries := s.tries + 1 }
      (s.sent.foldl (fun d r => d.transmit u sid r) d).ctxCount u sid 4 s.sent.length
    else
      let d := d.settleAllTimeout u sid
      let d := (d.setBrSess u sid fun s => { s with state := 0, tries := 0 }).showSession u sid
      (d.event (srcSession u sid) 0x0021 (d.peerNode u sid)).pump u sid
  else d

/-- A WRONG_STATE answer: the responder lost the session, every request still unsettled times out and the requester reconnects at once. -/
def Dev.sessionForgotten (d : Dev) (u sid : Nat) : Dev :=
  let d := d.settleAllTimeout u sid
  let d := d.setBrSess u sid fun s => { s with state := 0, tries := 0 }
  (d.bridgeConnect u sid).refreshPwDone u (sid % 64)

/-- The response number is new: not among the last 32 received (R219). -/
def BSess.fresh (s : BSess) (q : Nat) : Bool := !s.seen.contains q

def BSess.saw (s : BSess) (q : Nat) : BSess := { s with seen := (q :: s.seen).take 32 }

/-- A response reaches its requester (R218 to R223). One whose ENC does not follow the session's MODE is dropped (R73, R218). -/
def Dev.bridgeResponse (d : Dev) (u : Nat) (m : BMsg) : Dev :=
  let sid := m.sid
  let s := d.brSess u sid
  if m.ty ≠ 4 ∨ m.srcNode ≠ d.board.nodeId ∨ m.srcUnit ≠ u then d
  else if m.auth = zeros 16 ∧ m.status ≠ 0 then
    -- Not authenticated (R218, R219): it must answer an open request of this session.
    if m.op = 1 ∧ s.state = 1 then
      let w := s.waiting
      let d := (d.setBrSess u sid fun s => { s with state := 0, waiting := [] }).showSession u sid
      w.foldl (fun d r => d.settleFail u sid r .remoteFailed m.status) d
    else if m.status = Status.wrongState.code ∧ s.state = 2 ∧ s.sent.any (fun r => r.msg.seq == m.tag) then d.sessionForgotten u sid
    else d
  else if m.op = 1 then
    match d.hmacKey s.slot with
    | none => d
    | some k =>
      let key := bridgeKey k s.nonce m.data
      if s.state = 1 ∧ (m.openUnder key).isSome ∧ m.enc = false then
        let d := d.setBrSess u sid fun s => { s with state := 2, key, next := 1, seen := [], tries := 0, late := [] }
        ((d.event (srcSession u sid) 0x0020 (d.peerNode u sid)).showSession u sid).pump u sid
      else d
  else
    match (if m.enc == (d.sessMode u sid == 1) then m.openUnder s.key else none) with
    | none => d
    | some m =>
      if s.key = [] ∨ !s.fresh m.seq ∨ m.op = 0x0A then d
      else
        let d := d.setBrSess u sid (·.saw m.seq)
        match s.sent.find? fun r => r.msg.seq == m.tag with
        | some r =>
          let d := d.setBrSess u sid fun s => { s with sent := s.sent.filter (fun x => x.msg.seq != m.tag), tries := 0 }
          let d := if r.gone && r.recoverable && decide (sid < 64) then d.recover u sid r m else d.settle u sid r m
          d.pump u sid
        | none =>
          match s.late.find? fun r => r.msg.seq == m.tag with
          | some r =>
            let d := d.setBrSess u sid fun s => { s with late := s.late.filter (fun x => x.msg.seq != m.tag) }
            if sid < 64 then d.recover u sid r m else d
          | none => d

def bridgeResponseOp (u : Nat) (m : BMsg) (d : Dev) : Dev := d.bridgeResponse u m

/-- A poll's STATUS_READ completes (R230): the response of a poll session. -/
def pollResultOp (u : Nat) (m : BMsg) (d : Dev) : Dev := if 0x400 ≤ m.sid ∧ m.op = 9 then d.bridgeResponse u m else d

/-- An ACK settles the posted writes and EVENTs it covers (R225). -/
def bridgeAckReceiveOp (u : Nat) (m : BMsg) (d : Dev) : Dev :=
  let sid := m.sid
  let s := d.brSess u sid
  if m.ty ≠ 4 ∨ m.op ≠ 0x0A ∨ m.srcNode ≠ d.board.nodeId ∨ m.srcUnit ≠ u ∨ s.state ≠ 2 ∨ !s.fresh m.seq then d
  else
    match (if m.enc == (d.sessMode u sid == 1) then m.openUnder s.key else none) with
    | none => d
    | some m =>
      let map := leAt m.data 0 8
      let posted (r : BReq) : Bool := r.msg.op == 3 || r.msg.op == 8
      let age (r : BReq) : Nat := (m.tag + 2 ^ 32 - r.msg.tag) % 2 ^ 32
      let covered (r : BReq) : Bool := posted r && decide (age r < 2 ^ 31)
      let l := s.sent.filter covered
      let d := d.setBrSess u sid fun s =>
        { s.saw m.seq with sent := s.sent.filter (fun r => !covered r), tries := if l = [] then s.tries else 0 }
      (l.foldl (fun d r =>
        if 64 ≤ age r then d.settleFail u sid r .remoteTimeout 0
        else if bit map (age r) then d.settleFail u sid r .remoteFailed 0 else d) d).pump u sid

/-! ### Windows (R221) -/

/-- The context whose window holds an address of a window region: not DISABLED, with a window. -/
def Dev.windowAt (d : Dev) (a : Nat) : Option (Nat × Nat) :=
  if region a ≠ some .bridgeWindow then none
  else
  let u := (a - 0x40000000) / 0x10000000
  let o := (a - 0x40000000) % 0x10000000
  ((List.range 64).find? fun k =>
    let off := d.get (Ent.Bctx.WIN_OFFSET (bctx u k))
    d.get (Ent.Bctx.STATE (bctx u k)) != 0 && decide (off ≤ o) && decide (o < off + d.get (Ent.Bctx.WIN_SIZE (bctx u k)))).map
      fun k => (u, k)

/-- The size code of Table 1.3. -/
def sizeCode (n : Nat) : Nat := ((List.range 7).find? fun i => 2 ^ i == n).getD 0

/-- An atomic of 4 or 8 bytes with a listed function (R547). -/
def atomicOk (t : Txn) : Bool :=
  match t.kind with
  | .atomic fn => (t.size == 4 || t.size == 8) && decide (fn ≤ 8)
  | _ => true

/-- The checks of a transaction to a bridge window, in the order of Table 1.4; the context when all pass. -/
def Dev.windowCheck (d : Dev) (t : Txn) : Status × Nat × Nat :=
  match d.windowAt t.addr with
  | none => (.accessAttr, 0, 0)
  | some (u, k) =>
    let c := bctx u k
    let pre := d.flag (Ent.Bctx.PREFETCH c)
    let dma := match t.initiator with | .dma _ | .mezzDma | .hostEngine _ => true | _ => false
    if d.get (Ent.Bctx.HALL c) ≠ t.hall then (.hallDenied, u, k)
    else if (pre && t.kind != .read) || (!pre && dma && t.kind == .read) || !atomicOk t then (.accessAttr, u, k)
    else if t.addr % t.size ≠ 0 then (.notAligned, u, k)
    else if !d.gateOn (gateBridge u) then (.wrongState, u, k)
    else if d.get (Ent.Bctx.STATE c) = 2 then (.draining, u, k)
    else (.ok, u, k)

/-- A window transaction becomes a request of its context (Table 9.3); `op` is the request, `back` the served session it comes from (R224). -/
def Dev.windowOp (d : Dev) (t : Txn) (op : Nat) (back : Option Nat := none) : Dev :=
  match d.windowCheck t with
  | (.ok, u, k) =>
    let c := bctx u k
    let off := (t.addr - 0x40000000) % 0x10000000 - d.get (Ent.Bctx.WIN_OFFSET c)
    let m := d.request u k op (if op = 2 then [] else le t.size t.data)
    let fn := match t.kind with | .atomic f => f | _ => 0
    let (q, d) := if op = 3 then d.takePwSeq u k else (0, d)
    let m := { m with spec := op == 2 && d.flag (Ent.Bctx.PREFETCH c), addr := d.get (Ent.Bctx.REMOTE_BASE c) + off,
                      size := sizeCode t.size + 16 * fn, tag := q }
    let d := if op = 2 then d.ctxCount u k 0 else if op = 3 then (d.ctxCount u k 1).answer .ok else d
    d.queueReq u k ⟨m, t.initiator.id, t.hall, d.epoch (.hall t.hall), t.addr, false, back⟩
  | (s, _, _) => d.answer s

def bridgeWindowReadOp (t : Txn) (d : Dev) : Dev := d.windowOp { t with kind := .read, data := 0 } 2
def bridgeWindowPostedWriteOp (t : Txn) (d : Dev) : Dev := d.windowOp { t with kind := .posted } 3
def bridgeWindowWriteOp (t : Txn) (d : Dev) : Dev := d.windowOp { t with kind := .write } 4
def bridgeWindowAtomicOp (t : Txn) (d : Dev) : Dev :=
  d.windowOp { t with kind := match t.kind with | .atomic f => .atomic f | _ => .atomic 0 } 5

/-! ### Context commands -/

/-- RSLOT_CLEAR empties the recovery slot (R223). -/
def Dev.rslotClear (d : Dev) (u k : Nat) : Dev := d.setFld (Rg.Ctx.VALID u k) 0

/-- A command in CTRL of a context is checked as SEND is (R232): a tenant's needs a valid, current epoch, hall 0's is checked when EPV is
set; the context must be ENABLED, or draining for a FENCE (R55). -/
def Dev.ctxCommand (d : Dev) (u k v : Nat) (fence : Bool) : Status :=
  let c := bctx u k
  let needs := d.get (Ent.Bctx.HALL c) ≠ 0 ∨ bit v 16
  if needs ∧ !d.epochOk (.bridge c) (bit v 16) (bits v 15 0) then .staleEpoch
  else match d.get (Ent.Bctx.STATE c) with
    | 0 => .wrongState
    | 2 => if fence then .ok else .draining
    | _ => .ok

/-- A refused command in CTRL: its status in FSTAT, with DONE as for a refused SEND (R169, R232); a stale epoch is reported (R45). -/
def Dev.ctxRefused (d : Dev) (u k : Nat) (s : Status) : Dev :=
  let d := (d.setFld (Rg.Ctx.CODE u k) s.code).setFld (Rg.Ctx.DONE u k) 1
  if s = .staleEpoch then d.staleReject (srcBridge u k) (d.epoch (.bridge (bctx u k))) else d

/-- A write of RSLOT_CLEAR to CTRL of a context. A page of another hall refuses it (R232). -/
def rslotClearOp (u k hall v : Nat) (d : Dev) : Dev :=
  if d.get (Ent.Bctx.HALL (bctx u k)) ≠ hall then d.answer .hallDenied
  else
    let d := (d.setFld (Rg.Ctx.EPV u k) (bits v 16 16)).setFld (Rg.Ctx.EPOCH u k) (bits v 15 0)
    let s := d.ctxCommand u k v false
    if s = .ok then ((d.rslotClear u k).setFld (Rg.Ctx.CODE u k) s.code).answer .ok else (d.ctxRefused u k s).answer .ok

/-- Queue an EVENT of a context (R228); it shares the posted-write sequence. -/
def Dev.queueEvent (d : Dev) (u k bitsV : Nat) : Dev :=
  if d.get (Ent.Bctx.EVT_DELIVERY (bctx u k)) = 1 then d
  else
    let (q, d) := d.takePwSeq u k
    let h := d.get (Ent.Bctx.HALL (bctx u k))
    let m := { d.request u k 8 (le 4 bitsV ++ le 4 (d.fld (Rg.Ctx.SIDEBAND_OUT u k))) with tag := q }
    (d.ctxCount u k 1).queueReq u k ⟨m, 0, h, d.epoch (.hall h), 0, false, none⟩

/-- A write to EVT_SEND (R228): each bit raises its event, in bit order. -/
def evtSendOp (u k hall v : Nat) (d : Dev) : Dev :=
  let c := bctx u k
  if d.get (Ent.Bctx.HALL c) ≠ hall then d.answer .hallDenied
  else if d.get (Ent.Bctx.STATE c) ≠ 1 then d.answer .ok
  else ((List.range 32).foldl (fun d i =>
    if bit v i then
      let d := d.setBrCtx u k fun x =>
        { x with evtSeq := (x.evtSeq + 1) % 2 ^ 32, toggle := setBit x.toggle i (!bit x.toggle i) }
      d.queueEvent u k (2 ^ i)
    else d) d).answer .ok

/-- A write to SIDEBAND_OUT (R228): a change queues one EVENT. -/
def sidebandOutWriteOp (u k hall v : Nat) (d : Dev) : Dev :=
  let c := bctx u k
  if d.get (Ent.Bctx.HALL c) ≠ hall then d.answer .hallDenied
  else
    let old := d.fld (Rg.Ctx.SIDEBAND_OUT u k)
    let d := d.setFld (Rg.Ctx.SIDEBAND_OUT u k) v
    (if old ≠ d.fld (Rg.Ctx.SIDEBAND_OUT u k) ∧ d.get (Ent.Bctx.STATE c) = 1 then d.queueEvent u k 0 else d).answer .ok

/-- A context's status block (Table 9.6). -/
def Dev.statusBlock (d : Dev) (u k : Nat) : Bytes :=
  le 4 (d.brCtx u k).evtSeq ++ le 4 (d.brCtx u k).toggle ++ le 4 (d.fld (Rg.Ctx.SIDEBAND_OUT u k)) ++ zeros 4

/-- A descriptor (Table 3.7). -/
def descriptor (index sub offset ty total : Nat) : Bytes :=
  le 2 index ++ le 1 sub ++ zeros 1 ++ le 4 offset ++ le 2 ty ++ zeros 2 ++ le 4 total

/-- A write of MB_CTRL with GO in a context's remote mailbox (R81, R227). Its EPV, EPOCH, MORE and SHADOW travel in ADDR as they stand in MB_CTRL (DESIGN
CHOICE, assumption 30). -/
def remoteMbGoOp (u k hall v : Nat) (d : Dev) : Dev :=
  let c := bctx u k
  let g (f : Nat → Field) := rmb u k f
  if d.get (Ent.Bctx.HALL c) ≠ hall then d.answer .hallDenied
  else if d.isSet (g Rg.Mb.BUSY) then (d.setFld (g Rg.Mb.OVERRUN) 1).answer .ok
  else
    let d := d.putWord (g Rg.Mb.GO).addr 0 (bits v 30 30 * 2 ^ 30 + v % 2 ^ 19)
    let op := d.fld (g Rg.Mb.OP)
    let len := d.fld (g Rg.Mb.MB_LEN)
    let fail (s : Status) : Dev := (d.remoteMbDone u k s none none).answer .ok
    if op ≠ 3 ∧ op ≠ 4 then fail .outOfRange
    else match d.get (Ent.Bctx.STATE c) with
    | 0 => fail .wrongState
    | 2 => fail .draining
    | _ =>
      let desc := descriptor (d.fld (g Rg.Mb.INDEX)) (d.fld (g Rg.Mb.SUBINDEX)) (d.fld (g Rg.Mb.MB_OFFSET)) (d.fld (g Rg.Mb.MB_TYPE))
        (d.fld (g Rg.Mb.MB_TOTAL))
      let body := if op = 4 then d.mbBytes (fun i => rmb u k (fun n => Rg.Mb.MB_DATA n i)) (min len 1024) else []
      let m := { d.request u k (op + 3) (desc ++ body) with addr := v % 2 ^ 19 }
      ((d.setFld (g Rg.Mb.BUSY) 1).queueReq u k ⟨m, 0, hall, d.epoch (.hall hall), 0, false, none⟩).answer .ok

/-- POLL_PERIOD_US passes for an endpoint in EVT_MODE 1 (R230). The endpoint's SID names the context polled, carried in ADDR (DESIGN
CHOICE, assumption 30). -/
def endpointPollOp (u e : Nat) (d : Dev) : Dev :=
  let r := d.endpoint u e
  if d.bridgeOn u ∧ d.get (Ent.Bu.EVT_MODE u) = 1 ∧ epValid r then
    let m := { d.request u (0x400 + e) 9 [] with addr := epSid r }
    (d.count (buCounter u 3)).queueReq u (0x400 + e) ⟨m, 0, epHall r, 0, 0, false, none⟩
  else d

/-! ### FENCE and disabling (R52, R55, Table 2.8) -/

/-- A FENCE written to CTRL: ignored with OVERRUN while one waits (R232). -/
def Dev.fenceStart (d : Dev) (u k hall v : Nat) : Dev :=
  if d.get (Ent.Bctx.HALL (bctx u k)) ≠ hall then d.answer .hallDenied
  else
    let d := (d.setFld (Rg.Ctx.EPV u k) (bits v 16 16)).setFld (Rg.Ctx.EPOCH u k) (bits v 15 0)
    if d.isSet (Rg.Ctx.BUSY u k) then (d.setFld (Rg.Ctx.OVERRUN u k) 1).answer .ok
    else
      match d.ctxCommand u k v true with
      | .ok => ((d.setFld (Rg.Ctx.BUSY u k) 1).setBrCtx u k fun c => { c with fence := some (d.fld (Rg.Ctx.PW_SEQ u k)) }).answer .ok
      | s => (d.ctxRefused u k s).answer .ok

/-- Every posted write the context issued before its FENCE has a known outcome: the FENCE completes (R55). -/
def Dev.fenceComplete (d : Dev) (u k : Nat) : Dev :=
  let c := d.brCtx u k
  let s := d.brSess u k
  match c.fence with
  | none => d
  | some q =>
    let open_ (r : BReq) : Bool := (r.msg.op == 3 || r.msg.op == 8) && before 32 r.msg.tag q
    if (s.sent ++ s.waiting).any open_ then d
    else
      let code : Status := if c.timedOut then .remoteTimeout else if c.failed then .remoteFailed else .ok
      let d := d.setBrCtx u k fun c =>
        { c with fence := none, failed := c.laterFailed, timedOut := c.laterTimedOut, laterFailed := false, laterTimedOut := false }
      (((d.setFld (Rg.Ctx.CODE u k) code.code).setFld (Rg.Ctx.BUSY u k) 0).setFld (Rg.Ctx.DONE u k) 1).ctxIrq u k 0

/-- Entry to DRAINING: what is not issued completes with ABORTED (Table 2.8). -/
def Dev.bctxDraining (d : Dev) (u k : Nat) : Dev :=
  let w := (d.brSess u k).waiting
  let d := d.setBrSess u k fun s => { s with waiting := [] }
  (w.foldl (fun d r => d.settleFail u k r .aborted 0) d).refreshPwDone u k

/-- No issued request waits for its outcome. -/
def Dev.bctxQuiet (d : Dev) (u k : Nat) : Bool := (d.brSess u k).sent.isEmpty

/-- The drain timeout: each item that is left completes with ABORTED; late responses go to the recovery slot (R52, R223). -/
def Dev.bctxCut (d : Dev) (u k : Nat) : Dev :=
  let l := (d.brSess u k).sent
  let d := d.setBrSess u k fun s => { s with sent := [], late := s.late ++ l.filter BReq.recoverable }
  (l.foldl (fun d r => d.settleFail u k r .aborted 0) d).refreshPwDone u k

/-- A context becomes ENABLED: it sends CONNECT (Table 9.9). -/
def Dev.bctxEnabled (d : Dev) (u k : Nat) : Dev := d.bridgeConnect u k

/-- A session closes: after a reassignment, or with its key (R233, R404). -/
def Dev.closeBridge (d : Dev) (u sid : Nat) : Dev :=
  (d.setBrSess u sid fun s => { s with state := 0, key := [], late := [], tries := 0 }).showSession u sid

/-- A core, hall or DMA channel is reset: its reads and atomics lose their initiator (R223). -/
def Dev.initiatorGone (d : Dev) (p : BReq → Bool) : Dev :=
  let m (r : BReq) : BReq := if p r then { r with gone := true } else r
  d.setBr fun b => { b with sess := KV.mapVal (fun _ s => { s with sent := s.sent.map m, waiting := s.waiting.map m }) b.sess }

/-- An initiator is reset: what it waits for comes to nobody (R223). -/
def Dev.leftBehind (d : Dev) (i : Initiator) : Dev := d.initiatorGone fun r => r.back.isNone && r.initiator == i.id

/-- The checks of a context's group (R233): the subindex of the first conflict in state `x`. Overlap is checked against the unit's
contexts that are not DISABLED. -/
def bctxFault (x : Dev) (u k : Nat) : Option Nat :=
  let c := bctx u k
  let off := x.get (Ent.Bctx.WIN_OFFSET c)
  let sz := x.get (Ent.Bctx.WIN_SIZE c)
  let overlaps (j : Nat) : Bool :=
    let o := x.get (Ent.Bctx.WIN_OFFSET (bctx u j))
    let z := x.get (Ent.Bctx.WIN_SIZE (bctx u j))
    j != k && x.get (Ent.Bctx.STATE (bctx u j)) != 0 && decide (0 < z) && decide (0 < sz) && decide (off < o + z) && decide (o < off + sz)
  if !x.hallExists (x.get (Ent.Bctx.HALL c)) then some 4
  else if 0 < sz ∧ (off % sz ≠ 0 ∨ 0x10000000 < off + sz) then some 7
  else if (List.range 64).any overlaps then some 7
  else if (x.hmacKey (x.get (Ent.Bctx.KEY_SLOT c))).isNone then some 0xB
  else none

/-- An APPLY that changes HALL, REMOTE_NODE, REMOTE_BASE, WIN_OFFSET or WIN_SIZE is a reassignment (R233). -/
def Dev.bctxApplied (d old : Dev) (u k : Nat) : Dev :=
  let c := bctx u k
  let same (e : Nat → Entry) : Bool := d.get (e c) == old.get (e c)
  if same Ent.Bctx.HALL && same Ent.Bctx.REMOTE_NODE && same Ent.Bctx.REMOTE_BASE && same Ent.Bctx.WIN_OFFSET && same Ent.Bctx.WIN_SIZE then d
  else (d.bumpEpoch (.bridge c)).closeBridge u k

/-- The checks of a unit's group (R215, R229, R233). -/
def buFault (x : Dev) (u : Nat) : Option Nat :=
  let mac := ofBe (x.oct (Ent.Bu.BU_MAC u))
  let valid := (List.range 1024).filter fun e => epValid (x.endpoint u e)
  let exp (i : Nat) : Bytes := slice (x.oct (Ent.Bu.EXPORTS u)) (16 * i) 16
  if mac ≠ 0 ∧ (bit mac 40 ∨ mac = x.board.deviceMac ∨
      (List.range 4).any (fun v => v != u && ofBe (x.oct (Ent.Bu.BU_MAC v)) == mac)) then some 1
  else if (List.range 64).any (fun i => bit (leAt (exp i) 0 2) 15 && (x.hmacKey (leAt (exp i) 4 1)).isNone) then some 6
  else if x.get (Ent.Bu.EVT_MODE u) = 0 ∧ 64 < valid.length then some 7
  else if (x.hmacKey (x.get (Ent.Bu.POLL_KEY_SLOT u))).isNone then some 0xA
  else none

/-! ### CAN tunnels (R231); the layout of IEEE 1722-2016 is PRESUMED (assumption 31) -/

def Dev.tunnel (d : Dev) (t : Nat) : Tunnel := KV.get ⟨[], 0⟩ t d.br.tunnels

def Dev.setTunnel (d : Dev) (t : Nat) (f : Tunnel → Tunnel) : Dev :=
  d.setBr fun b => { b with tunnels := KV.put ⟨[], 0⟩ t (f (d.tunnel t)) b.tunnels }

/-- Data length of a CAN DLC. -/
def dlcBytes (fdf : Bool) (n : Nat) : Nat := if n ≤ 8 then n else if fdf then ([12, 16, 20, 24, 32, 48, 64][n - 9]?).getD 64 else 8

/-- An ACF_CAN message with its timestamp. -/
def acfCan (bus : Nat) (f : CanFrame) (stamp : Nat) : Bytes :=
  let n := f.data.length
  let pad := (4 - n % 4) % 4
  let quads := 4 + (n + pad) / 4
  be 2 (1 * 512 + quads) ++ bytesOf [pad * 64 + 32 + b2n f.rtr * 16 + b2n f.ide * 8 + b2n f.brs * 4 + b2n f.fdf * 2 + b2n f.esi, bus] ++
  be 8 stamp ++ be 4 f.id ++ f.data ++ zeros pad

/-- Tunnels observe a received frame, in the manner of CATCHALL, without taking it (R231). `x` carries the extended SOF stamp. -/
def Dev.tunnelObserve (d : Dev) (n : Nat) (f : CanFrame) (stamp : Nat) : Dev :=
  (List.range 16).foldl (fun d t =>
    let id := d.get (Ent.Tun.FILT_ID t)
    let mask := d.get (Ent.Tun.FILT_MASK t)
    if d.bridgeOn (d.get (Ent.Tun.UNIT t)) ∧ d.flag (Ent.Tun.ENABLE t) ∧ d.get (Ent.Tun.CHANNEL t) = n ∧ d.get (Ent.Tun.DIR t) ≠ 2 ∧ bit id 29 = f.ide ∧
        (BitVec.ofNat 29 f.id ^^^ BitVec.ofNat 29 id) &&& BitVec.ofNat 29 mask = 0 then
      d.setTunnel t fun x => { x with pdu := x.pdu ++ [acfCan (d.get (Ent.Tun.BUS_ID t)) f stamp] }
    else d) d

/-- A tunnel's collected messages leave in one NTSCF PDU (R231). -/
def tunnelPduSendOp (t : Nat) (d : Dev) : Dev :=
  let x := d.tunnel t
  if !d.bridgeOn (d.get (Ent.Tun.UNIT t)) ∨ d.flag (Ent.Tun.ENABLE t) = false ∨ x.pdu = [] then d
  else
    let now := x.pdu.take (d.get (Ent.Tun.BATCH t))
    let body := now.flatten
    let u := d.get (Ent.Tun.UNIT t)
    let head := bytesOf [0x82] ++ be 2 (0x8000 + body.length) ++ le 1 x.seq ++ slice (d.oct (Ent.Tun.STREAM_ID t)) 0 8
    let d := d.setTunnel t fun x => { pdu := x.pdu.drop now.length, seq := (x.seq + 1) % 256 }
    (d.unitFrame u (ofBe (d.oct (Ent.Tun.DEST_MAC t))) 0x22F0 (head ++ body)).count (tunCounter t 0 u) now.length

/-- The CAN messages of an NTSCF PDU: bus number and frame; other ACF types are skipped. -/
def acfMessages : Nat → Bytes → List (Nat × CanFrame)
  | 0, _ => []
  | n + 1, b =>
    if b.length < 8 then []
    else
      let h := ofBe (slice b 0 2)
      let ty := h / 512
      let len := h % 512 * 4
      if len = 0 then []
      else
        let fl := leAt b 2 1
        let at_ := if ty = 1 then 12 else 4
        let id := ofBe (slice b at_ 4) % 2 ^ 29
        let data := slice b (at_ + 4) (len - (at_ + 4) - fl / 64)
        let f : CanFrame := ⟨id, bit fl 3, bit fl 1, bit fl 2, bit fl 0, bit fl 4, dlcOf data.length, data⟩
        if ty = 1 ∨ ty = 2 then (leAt b 3 1 % 32, f) :: acfMessages n (b.drop len) else acfMessages n (b.drop len)
where
  /-- The DLC that carries `n` bytes. -/
  dlcOf (n : Nat) : Nat := if n ≤ 8 then n else ((List.range 7).find? fun i => decide (n ≤ dlcBytes true (9 + i))).map (9 + ·) |>.getD 15

/-- A unit receives an NTSCF PDU (R231): messages of one of its tunnels go to the tunnel's queue of 32 before the service transmitter. -/
def tunnelPduReceiveOp (u : Nat) (b : Bytes) (d : Dev) : Dev :=
  let stream := slice b 4 8
  let len := ofBe (slice b 1 2) % 2048
  if !d.bridgeOn u ∨ leAt b 0 1 ≠ 0x82 then d
  else (List.range 16).foldl (fun d t =>
    if d.flag (Ent.Tun.ENABLE t) ∧ d.get (Ent.Tun.UNIT t) = u ∧ d.get (Ent.Tun.DIR t) ≠ 1 ∧ slice (d.oct (Ent.Tun.STREAM_ID t)) 0 8 = stream then
      let n := d.get (Ent.Tun.CHANNEL t)
      let role := d.get Ent.Tws.ROLE
      ((acfMessages 256 ((b.drop 12).take len)).filter fun m => m.1 == d.get (Ent.Tun.BUS_ID t)).foldl (fun d m =>
        let full : Bool := decide (32 ≤ ((d.canCh n).service.filter fun x => x.tunnel.isSome).length)
        if full || (m.2.fdf && d.get (Ent.Can.MODE n) == 0) || decide (2 ≤ role) || d.get (Ent.CanSt.STATE n) != 1 then
          (d.count (tunCounter t 2 u)).limited (scopeOf (srcBridge u (64 + t)) 0x0025) 1 fun d c =>
            d.event (srcBridge u (64 + t)) 0x0025 (min c 0xFFFFFFFF)
        else (d.setCan n fun c => { c with service := c.service ++ [⟨m.2, none, some t⟩] }).count (tunCounter t 1 u)) d
    else d) d

/-! ### Meanings -/

def execBridgeAckReceive (u : Nat) (m : BMsg) (s : State) := onDev s (bridgeAckReceiveOp u m)
def execRslotClear (u k hall v : Nat) (s : State) := onDev s (rslotClearOp u k hall v)
def execEvtSend (u k hall v : Nat) (s : State) := onDev s (evtSendOp u k hall v)
def execSidebandOutWrite (u k hall v : Nat) (s : State) := onDev s (sidebandOutWriteOp u k hall v)
def execRemoteMbGo (u k hall v : Nat) (s : State) := onDev s (remoteMbGoOp u k hall v)
def execEndpointPoll (u e : Nat) (s : State) := onDev s (endpointPollOp u e)
def execPollResult (u : Nat) (m : BMsg) (s : State) := onDev s (pollResultOp u m)
def execTunnelPduSend (t : Nat) (s : State) := onDev s (tunnelPduSendOp t)
def execTunnelPduReceive (u : Nat) (b : Bytes) (s : State) := onDev s (tunnelPduReceiveOp u b)

end Sys2Proof.Machine
end

