-- ==== Sys2Proof/Machine/ScanImage.lean ====
section
/-! DEFINITION. The scan image: its layout (Tables 10.11 to 10.17) and the checks of Table 10.18. -/

namespace Sys2Proof.Machine

/-- A section record (Table 10.12). -/
structure Sect where
  idx : Nat
  kind : Nat
  exec : Nat
  flags : Nat
  off : Nat
  len : Nat
  load : Nat
  deriving DecidableEq, Repr

/-- A task record (Table 10.14). -/
structure TaskRec where
  task : Nat
  exec : Nat
  prio : Nat
  unit : Nat
  period : Nat
  deadline : Nat
  phase : Nat
  entry : Nat
  stack : Nat
  evtKind : Nat
  evtA : Nat
  evtB : Nat
  rest : Nat
  deriving DecidableEq, Repr

/-- A map record (Table 10.15). -/
structure MapRec where
  task : Nat
  kind : Nat
  src : Nat
  srcOff : Nat
  len : Nat
  img : Nat
  qual : Nat
  rest : Nat
  deriving DecidableEq, Repr

/-- A station record (Table 10.16). -/
structure StnRec where
  slot : Nat
  task : Nat
  inLen : Nat
  outLen : Nat
  mode : Nat
  loss : Nat
  subst : Nat
  safe : Nat
  deriving DecidableEq, Repr

/-- A variable record (Table 10.17). -/
structure VarRec where
  tag : Nat
  ty : Nat
  area : Nat
  exec : Nat
  off : Nat
  size : Nat
  layout : Nat
  rest : Nat
  deriving DecidableEq, Repr

/-! ### Reading an image -/

def imgId (i : Bytes) : Nat := leAt i 12 4
def imgBase (i : Bytes) : Nat := leAt i 16 4
def imgRetain (i : Bytes) : Nat := leAt i 20 4

/-- The section table. -/
def imgSects (i : Bytes) : List Sect :=
  (List.range (leAt i 6 2)).map fun k =>
    let r := slice i (64 + 16 * k) 16
    ⟨k, leAt r 0 2, leAt r 2 1, leAt r 3 1, leAt r 4 4, leAt r 8 4, leAt r 12 4⟩

/-- The section of a kind. -/
def imgSect (i : Bytes) (kind : Nat) : Option Sect := (imgSects i).find? (·.kind == kind)

/-- The content of a section. -/
def Sect.bytes (s : Sect) (i : Bytes) : Bytes := slice i s.off s.len

/-- The records of `n` bytes of the section of a kind. -/
def imgRecs (i : Bytes) (kind n : Nat) : List Bytes :=
  match imgSect i kind with
  | none => []
  | some s => (List.range (s.len / n)).map fun k => slice i (s.off + n * k) n

def imgTasks (i : Bytes) : List TaskRec :=
  (imgRecs i 3 32).map fun r =>
    ⟨leAt r 0 1, leAt r 1 1, leAt r 2 1, leAt r 3 1, leAt r 4 4, leAt r 8 4, leAt r 12 4, leAt r 16 4, leAt r 20 4, leAt r 24 1, leAt r 25 1,
      leAt r 26 2, leAt r 28 4⟩

def mapRec (r : Bytes) : MapRec := ⟨leAt r 0 1, leAt r 1 1, leAt r 2 2, leAt r 4 2, leAt r 6 2, leAt r 8 2, leAt r 10 2, leAt r 12 4⟩
def imgIn (i : Bytes) : List MapRec := (imgRecs i 4 16).map mapRec
def imgOut (i : Bytes) : List MapRec := (imgRecs i 5 16).map mapRec

def stnRec (r : Bytes) : StnRec := ⟨leAt r 0 1, leAt r 1 1, leAt r 2 2, leAt r 4 2, leAt r 6 1, leAt r 7 1, leAt r 8 4, leAt r 12 4⟩

/-- Station records end where the lowest SUBST_DATA or SAFE_DATA begins (assumption 32). -/
def takeStations : Nat → List StnRec → Nat → Nat → List StnRec
  | 0, _, _, _ => []
  | _, [], _, _ => []
  | n + 1, r :: rest, at_, lim =>
    let lim := min lim (min (if r.inLen = 0 then lim else r.subst) (if r.outLen = 0 then lim else r.safe))
    if at_ + 16 ≤ lim then r :: takeStations n rest (at_ + 16) lim else []

def imgStations (i : Bytes) : List StnRec :=
  let l := (imgRecs i 6 16).map stnRec
  takeStations (l.length + 1) l 0 ((imgSect i 6).elim 0 (·.len))

def imgVars (i : Bytes) : List VarRec :=
  (imgRecs i 7 24).map fun r => ⟨leAt r 0 4, leAt r 4 2, leAt r 6 1, leAt r 7 1, leAt r 8 4, leAt r 12 4, leAt r 16 4, leAt r 20 4⟩

/-- RETAIN_INIT records: offset and data, each padded to 4 bytes; `none` marks one that does not fit. -/
def retainRecs : Nat → Bytes → List (Option (Nat × Bytes))
  | 0, _ => []
  | n + 1, b =>
    if b = [] then []
    else
      let len := leAt b 4 4
      let pad := (len + 3) / 4 * 4
      if b.length < 8 + len ∨ 0x40000 < leAt b 0 4 + len then [none]
      else some (leAt b 0 4, slice b 8 len) :: retainRecs n (b.drop (8 + pad))

def imgRetainInit (i : Bytes) : List (Option (Nat × Bytes)) :=
  match imgSect i 8 with
  | none => []
  | some s => retainRecs (s.len + 1) (s.bytes i)

/-- Bytes of a station's data area at an offset of the section. -/
def stationData (i : Bytes) (off n : Nat) : Bytes :=
  match imgSect i 6 with
  | none => zeros n
  | some s => slice i (s.off + off) n

def imgTask (i : Bytes) (t : Nat) : Option TaskRec := (imgTasks i).find? (·.task == t)
def imgStation (i : Bytes) (s : Nat) : Option StnRec := (imgStations i).find? (·.slot == s)

/-- The cores of an executor: C0 to C7, or the two cores of LP0 to LP3 (R238). -/
def execCores (x : Nat) : List Nat := if x < 8 then [x] else [2 * (x - 8), 2 * (x - 8) + 1]

/-- Base of a core's instruction TCM; its data TCM lies 0x1_0000 above. -/
def tcmBase (c : Nat) : Nat := 0x02000000 + c * 0x20000

/-- Executors an image names: in CODE, DATA or task records. -/
def imgExecs (i : Bytes) : List Nat :=
  let l := ((imgSects i).filter fun s => s.kind == 1 || s.kind == 2).map (·.exec) ++ (imgTasks i).map (·.exec)
  (List.range 12).filter l.contains

/-- Cores an image names. -/
def imgCores (i : Bytes) : List Nat := (imgExecs i).flatMap execCores

/-- Length of a type code's values in bytes; 0 for strings and domains (Table 3.1). -/
def typeBytes (ty : Nat) : Option Nat :=
  if ty = 1 ∨ ty = 2 ∨ ty = 5 then some 1
  else if ty = 3 ∨ ty = 6 then some 2
  else if ty = 4 ∨ ty = 7 ∨ ty = 8 then some 4
  else if ty = 0x11 ∨ ty = 0x15 ∨ ty = 0x1B then some 8
  else if ty = 9 ∨ ty = 0xA ∨ ty = 0xF then some 0
  else none

/-- Bytes of a variable's area. -/
def areaSize (a : Nat) : Nat := if a = 2 then 0x40000 else 0x10000

/-- Two variables have the same type (Table 10.17). -/
def VarRec.sameType (a b : VarRec) : Bool := a.ty == b.ty && a.size == b.size && a.layout == b.layout

/-- Address of a variable. -/
def VarRec.addr (v : VarRec) : Nat :=
  if v.area = 0 then 0x03000000 + v.off else if v.area = 1 then 0x03010000 + v.off else if v.area = 2 then 0x03020000 + v.off
  else tcmBase (execLead v.exec) + 0x10000 + v.off

/-! ### Field checks (check 6) -/

def TaskRec.ok (r : TaskRec) : Bool :=
  let base := tcmBase (execLead r.exec)
  decide (r.task < 48) && decide (r.exec < 12) && decide (1 ≤ r.prio) && decide (r.prio ≤ 15) && r.rest == 0 &&
  decide (base ≤ r.entry) && decide (r.entry < base + 0x8000) && decide (base + 0x10000 ≤ r.stack) && decide (r.stack ≤ base + 0x20000) &&
  if r.task < 16 then
    decide (r.unit < 32) && decide (125 ≤ r.period) && decide (r.period ≤ 10000000) && decide (r.phase < r.period) && r.evtKind == 0 &&
    (r.deadline == 0 || (decide (10 ≤ r.deadline) && decide (r.deadline ≤ r.period)))
  else
    r.unit == 0xFF && r.period == 0 && r.phase == 0 && decide (10 ≤ r.deadline) && decide (r.deadline ≤ 10000000) &&
    (match r.evtKind with
     | 0 => decide (r.evtA < 32) && r.evtB == 0
     | 1 => decide (r.evtA < 16) && decide (r.evtB < 64)
     | 2 => r.evtA == 0 && r.evtB == 0
     | 3 => decide (1 ≤ bits r.evtA 4 3) && bits r.evtA 7 5 == 0
     | _ => false)

/-- Length of a local block (Table 10.5). -/
def blockLen (isIn : Bool) (b : Nat) : Nat :=
  if isIn then (if b = 0 then 16 else if b = 1 then 192 else if b = 2 then 128 else 0) else if b = 1 then 96 else 0

def MapRec.ok (isIn : Bool) (r : MapRec) : Bool :=
  decide (r.task < 48) && decide (1 ≤ r.len) && decide (r.img + r.len ≤ 0x10000) && r.rest == 0 &&
  (match r.kind with
   | 0 => decide (r.src < 256) && (isIn || r.qual == 0)
   | 1 => decide (r.srcOff + r.len ≤ blockLen isIn r.src) && r.qual == 0
   | 2 => decide (r.src < 256) && r.srcOff == 0 && (isIn || r.qual == 0)
   | _ => false)

def StnRec.ok (d : Dev) (len : Nat) (r : StnRec) : Bool :=
  decide (r.task < 16) && decide (r.mode ≤ 1) && decide (1 ≤ r.loss) && decide (r.subst + r.inLen ≤ len) && decide (r.safe + r.outLen ≤ len) &&
  (d.get (Ent.Stn.KIND r.slot) != 1 || (decide (r.inLen ≤ 2000) && decide (r.outLen ≤ 2000)))

def VarRec.ok (r : VarRec) : Bool :=
  r.tag != 0 && decide (r.area ≤ 3) && (if r.area = 3 then decide (r.exec < 12) else r.exec == 0xFF) && decide (0 < r.size) &&
  decide (r.off + r.size ≤ areaSize r.area) && (r.layout == 0 || r.ty == 0xF) && r.rest == 0 &&
  (match typeBytes r.ty with
   | none => false
   | some 0 => true
   | some n => r.size % n == 0)

/-! ### Cross-checks (check 8) -/

/-- The element at its first place from `k`, if `p` holds of it. -/
def firstAt {α : Type} (p : α → Bool) : List α → Nat → Option Nat
  | [], _ => none
  | a :: r, k => if p a then some k else firstAt p r (k + 1)

/-- A core is allocated to a hall (R238; Halls). -/
def Dev.coreInHall (d : Dev) (c : Nat) : Bool :=
  (List.range 255).any fun h => d.hallState (h + 1) != 0 && bit (d.get (Ent.Hall.CCORES (h + 1))) c

/-- Two byte ranges meet. -/
def meets (a n b m : Nat) : Bool := decide (0 < n) && decide (0 < m) && decide (a < b + m) && decide (b < a + n)

/-- The first failure of a list of checks. -/
def firstSome {α : Type} (l : List (Option α)) : Option α := l.findSome? id

/-- Section index of a kind. -/
def sectIdx (i : Bytes) (k : Nat) : Nat := (imgSect i k).elim 0 (·.idx)

/-- The value at a place stands earlier in the list. -/
def dupAt (l : List Nat) (k : Nat) : Bool :=
  match l[k]? with
  | none => false
  | some a => (l.take k).contains a

/-- An image range that meets an earlier one of another task. -/
def mapOverlap (l : List MapRec) (k : Nat) : Bool :=
  match l[k]? with
  | none => false
  | some r => (l.take k).any fun q => q.task != r.task && meets q.img q.len r.img r.len

/-- A variable that meets an earlier one of its area. -/
def varOverlap (l : List VarRec) (k : Nat) : Bool :=
  match l[k]? with
  | none => false
  | some v => (l.take k).any fun w => w.area == v.area && w.exec == v.exec && meets w.off w.size v.off v.size

/-- A map record whose references fail: its task, its station record, the slot's KIND, its quality byte, or a LOAD_CMD channel that does not belong
to the engine (Table 10.5, R249). -/
def badMap (d : Dev) (i : Bytes) (isIn : Bool) (r : MapRec) : Bool :=
  let station : Bool := match imgStation i r.src with
    | none => true
    | some s => r.task != s.task || (r.kind == 0 && decide ((if isIn then s.inLen else s.outLen) < r.srcOff + r.len)) ||
        d.get (Ent.Stn.KIND r.src) != (if r.kind = 0 then 1 else 2)
  let qualOut := !((imgIn i).any fun q => q.task == r.task && decide (q.img ≤ r.qual) && decide (r.qual < q.img + q.len))
  !((imgTasks i).any (·.task == r.task)) || (r.kind != 1 && station) || (isIn && r.kind != 1 && r.qual != 0xFFFF && qualOut) ||
  (!isIn && r.kind == 1 && (List.range 24).any fun n => meets r.srcOff r.len (4 * n) 4 && d.get (Ent.Lc.OWNER n) != 1)

/-- A station record whose task or slot does not fit, or whose CAN lengths are not the sums of its maps (Table 10.16). -/
def badStation (d : Dev) (i : Bytes) (s : StnRec) : Bool :=
  let kind := d.get (Ent.Stn.KIND s.slot)
  let lenOf (l : List MapRec) : Nat := ((l.filter fun r => r.kind == 2 && r.src == s.slot).map (·.len)).sum
  !((imgTasks i).any (·.task == s.task)) || kind == 0 || (kind == 2 && (s.inLen != lenOf (imgIn i) || s.outLen != lenOf (imgOut i)))

/-- What an executor that the image names breaks of R238: 1 a core named both alone and in its pair, 2 a core of a hall, 3 more than 8 priorities. -/
def badExec (d : Dev) (i : Bytes) (cores : List Nat) (e : Nat) : Nat :=
  let prios := ((List.range 16).filter fun p => (imgTasks i).any fun u => u.exec == e && u.prio == p).length
  if (imgExecs i).any fun x => x != e && (execCores x).any (execCores e).contains then 1
  else if (execCores e).any fun c => cores.contains c && d.coreInHall c then 2
  else if 8 < prios then 3 else 0

/-- The first record that names an executor with the fault `k`: a task record, else a CODE or DATA section (the order is a DESIGN CHOICE, assumption
61). -/
def execFault (d : Dev) (i : Bytes) (cores : List Nat) (k : Nat) : Option (Nat × Nat) :=
  match firstAt (fun t => badExec d i cores t.exec == k) (imgTasks i) 0 with
  | some n => some (sectIdx i 3, n)
  | none => (firstAt (fun s => (s.kind == 1 || s.kind == 2) && badExec d i cores s.exec == k) (imgSects i) 0).map fun n => (n, 0)

/-- An event task whose trigger does not fit: an object of another hall, an edge byte that no cyclic task maps (Table 10.2). -/
def badEvent (d : Dev) (i : Bytes) (t : TaskRec) : Bool :=
  decide (16 ≤ t.task) &&
  ((t.evtKind == 1 && objHall (d.objRec t.evtA t.evtB) != 0) ||
   (t.evtKind == 3 && !((imgIn i).any fun r => decide (r.task < 16) && decide (r.img ≤ t.evtB) && decide (t.evtB < r.img + r.len))))

/-- The cross-checks, in the order of Table 10.18; `cores` are the cores that the hall check of R238 is applied to. The section index and record
index of the first conflict. -/
def crossFault (d : Dev) (i : Bytes) (cores : List Nat) : Option (Nat × Nat) :=
  let tasks := imgTasks i
  let vars := imgVars i
  let at_ (k : Nat) (o : Option Nat) : Option (Nat × Nat) := o.map fun n => (sectIdx i k, n)
  let units := tasks.map fun t => if t.task < 16 then t.unit else 256 + t.task
  let armed (t : TaskRec) : Bool := decide (t.task < 16) && d.flag (Ent.Trgu.ENABLE t.unit) && d.get (Ent.Trgu.OWNER t.unit) == 0
  firstSome
    [ execFault d i cores 1, execFault d i cores 2, execFault d i cores 3,
      at_ 4 (firstAt (mapOverlap (imgIn i)) (List.range (imgIn i).length) 0),
      at_ 5 (firstAt (mapOverlap (imgOut i)) (List.range (imgOut i).length) 0),
      at_ 4 (firstAt (badMap d i true) (imgIn i) 0),
      at_ 5 (firstAt (badMap d i false) (imgOut i) 0),
      at_ 7 (firstAt (dupAt (vars.map (·.tag))) (List.range vars.length) 0),
      at_ 3 (firstAt (dupAt units) (List.range tasks.length) 0),
      at_ 7 (firstAt (varOverlap vars) (List.range vars.length) 0),
      at_ 3 (firstAt armed tasks 0),
      at_ 6 (firstAt (badStation d i) (imgStations i) 0),
      at_ 3 (firstAt (badEvent d i) tasks 0) ]

/-! ### Checks 3 to 8 -/

/-- How often a kind may occur: exactly once, at most once, at most once per executor, any (Table 10.13). -/
def sectCounts (l : List Sect) : Option Nat :=
  let one (k : Nat) : Bool := (l.filter (·.kind == k)).length == 1
  let twice (s : Sect) : Bool :=
    (s.kind == 1 || s.kind == 2) && decide (1 < (l.filter fun x => x.kind == s.kind && x.exec == s.exec).length) ||
    ((s.kind == 3 || s.kind == 4 || s.kind == 5 || s.kind == 6 || s.kind == 7 || s.kind == 8) && decide (1 < (l.filter (·.kind == s.kind)).length))
  if !(one 3 && one 4 && one 5 && one 7) then (firstAt twice l 0).orElse fun _ => some 0 else firstAt twice l 0

/-- Section bounds: within the image, after the table, at a multiple of 16, no overlap; a REQUIRED unknown kind is refused. -/
def sectFault (i : Bytes) (l : List Sect) (s : Sect) : Bool :=
  (decide (9 < s.kind) || s.kind == 0) && bit s.flags 0 ||
  decide (s.off < 64 + 16 * l.length) || s.off % 16 != 0 || decide (i.length < s.off + s.len) ||
  (l.any fun x => x.idx != s.idx && meets x.off x.len s.off s.len)

/-- Section record fields (check 6). -/
def sectFields (s : Sect) : Bool :=
  let code := s.kind == 1 || s.kind == 2
  !(if code then decide (s.exec < 12) else s.exec == 0xFF && s.load == 0) || decide (1 < s.flags) ||
  (s.kind == 3 && s.len % 32 != 0) || ((s.kind == 4 || s.kind == 5) && s.len % 16 != 0) || (s.kind == 7 && s.len % 24 != 0)

/-- A station record that fails, or whose slot stands earlier. -/
def stationFault (d : Dev) (i : Bytes) (k : Nat) : Bool :=
  match (imgStations i)[k]? with
  | none => false
  | some r => !r.ok d ((imgSect i 6).elim 0 (·.len)) || ((imgStations i).take k).any (·.slot == r.slot)

/-- Check 6: every record field in range. -/
def fieldFault (d : Dev) (i : Bytes) : Option (Nat × Nat) :=
  let at_ (k : Nat) (o : Option Nat) : Option (Nat × Nat) := o.map fun n => (sectIdx i k, n)
  firstSome
    [ if imgId i = 0 ∨ leAt i 28 4 ≠ 0 then some (0, 0) else none,
      (firstAt sectFields (imgSects i) 0).map fun n => (n, 0),
      at_ 3 (firstAt (fun r => !TaskRec.ok r || decide (1 < ((imgTasks i).filter (·.task == r.task)).length)) (imgTasks i) 0),
      at_ 4 (firstAt (fun r => !MapRec.ok true r) (imgIn i) 0),
      at_ 5 (firstAt (fun r => !MapRec.ok false r) (imgOut i) 0),
      at_ 6 (firstAt (stationFault d i) (List.range (imgStations i).length) 0),
      at_ 7 (firstAt (fun r => !VarRec.ok r) (imgVars i) 0),
      at_ 8 (firstAt (fun r => r.isNone) (imgRetainInit i) 0) ]

/-- Check 7: CODE and DATA within the bank sizes, at most 256 station records. -/
def sizeFault (i : Bytes) : Option (Nat × Nat) :=
  let big (s : Sect) : Bool := (s.kind == 1 && decide (0x8000 < s.load + s.len)) || (s.kind == 2 && decide (0x10000 < s.load + s.len))
  firstSome
    [ (firstAt big (imgSects i) 0).map fun n => (n, 0),
      if 256 < (imgStations i).length then some (sectIdx i 6, 256) else none ]

/-- Check 5: the section table. -/
def tableFault (i : Bytes) : Option (Nat × Nat) :=
  if leAt i 6 2 = 0 ∨ 64 < leAt i 6 2 then some (0, 0)
  else firstSome
    [ (firstAt (sectFault i (imgSects i)) (imgSects i) 0).map fun n => (n, 0), (sectCounts (imgSects i)).map fun n => (n, 0) ]

/-- Check 3: MAGIC, FORMAT, IMAGE_LEN. -/
def headerBad (i : Bytes) : Bool :=
  decide (i.length < 64) || slice i 0 4 != bytesOf [0x4E, 0x53, 0x43, 0x4E] || leAt i 4 2 != 1 || leAt i 8 4 != i.length ||
  i.length % 16 != 0 || decide (0x400000 < i.length)

/-- Checks 3 to 8 of Table 10.18: the first failing status with section and record index. -/
def imageFault (d : Dev) (i : Bytes) (cores : List Nat) : Option (Status × Nat × Nat) :=
  if headerBad i then some (.outOfRange, 0, 0)
  else if sha256 (i.drop 64) ≠ slice i 32 32 then some (.integrity, 0, 0)
  else match tableFault i with
  | some x => some (.outOfRange, x)
  | none => match fieldFault d i with
    | some x => some (.outOfRange, x)
    | none => match sizeFault i with
      | some x => some (.noResource, x)
      | none => (crossFault d i cores).map fun x => (.conflict, x)

/-- CMD_STATUS and CHANGE_STATUS of a failed check (R258). -/
def imageStatus (s : Status) (sect rec_ : Nat) : Nat := s.code * 65536 + sect % 64 * 1024 + min rec_ 1023

end Sys2Proof.Machine
end

