-- ==== Sys2Proof/Machine/Interrupts.lean ====
section
/-! DEFINITION. The interrupt controllers of the normal world and of M0 (R330 to R340, R345, R380, R414), and what debug does to a hart
(R341). Controller page 12 stands for M0's, whose sources have keys from 512 up. -/

namespace Sys2Proof.Machine

/-! ### Cores -/

/-- The lockstep pair of a C-core while it runs as one hart (R327). -/
def Dev.paired (d : Dev) (c : Nat) : Bool := d.get (Ent.Pair.STATE (c / 2)) != 0

/-- Gate of a core (Table 18.7). -/
def gateCore (k : Nat) : Nat := if k < 4 then 17 + k else 25 + (k - 4)

/-- A C-core belongs to the scan engine (R238). -/
def Dev.engineCore (d : Dev) (c : Nat) : Bool :=
  d.get Ent.Se.STATE != 0 && (imgCores (d.oct Ent.Seimg.ACTIVE_IMAGE)).contains c

/-! ### Sources (Table 14.3) -/

/-- An edge source. -/
def isEdge (n : Nat) : Bool := decide (1 ≤ n) && decide (n ≤ 24) || decide (32 ≤ n) && decide (n ≤ 63)

/-- The fixed target of a source. -/
def fixedTarget (n : Nat) : Option Nat :=
  if 1 ≤ n ∧ n ≤ 12 then some (n - 1)
  else if 13 ≤ n ∧ n ≤ 24 then some (4 + execLead (n - 13))
  else if 481 ≤ n ∧ n ≤ 492 then some (n - 481)
  else none

def Dev.srcTarget (d : Dev) (n : Nat) : Nat := (fixedTarget n).getD (d.fld (Rg.Src.TARGET n))

/-- The number of a reserved source. -/
def srcReserved (n : Nat) : Bool :=
  n == 0 || decide (26 ≤ n) && decide (n ≤ 31) || n == 79 || decide (151 ≤ n) && decide (n ≤ 159) || decide (493 ≤ n)

/-- An IRQ field has an enabled bit. -/
def Dev.irqOn (d : Dev) (irq en : Field) : Bool := (List.range 32).any fun i => bit (d.fld irq) i && bit (d.fld en) i

/-- An enabled IRQ bit of a storage page is at 1; hall 0's makes source 74 pending (R470). -/
def Dev.storageIrq (d : Dev) (h : Nat) : Bool := d.irqOn (Rg.Stg.IRQ h) (Rg.Stg.IRQ_EN h)

/-- A line of a hall's interrupt word, by its number (Table 16.4). Hall 0's lines 1, 2, 5 and 6 read 0. -/
def Dev.hallLine (d : Dev) (h i : Nat) : Bool :=
  match i with
  | 0 => d.isSet (Rg.Mb.DONE h) && d.isSet (Rg.Mb.IE h)
  | 1 => h != 0 && (List.range 16).any fun n => (List.range 64).any fun k =>
      let r := d.objRec n k
      objValid r && objHall r == h && objIrqEn r && d.isSet (Rg.Obj.NEW n k)
  | 2 => h != 0 && (List.range 16).any fun n => (List.range 3).any fun k => d.txbHall n k == h && d.isSet (Rg.Txb.DONE n k)
  | 3 => d.fld (Rg.Hpg.RING_HEAD h) != d.fld (Rg.Hpg.RING_TAIL h)
  | 4 => (List.range 256).any fun q => d.get (Ent.Qp.HALL q) == h && d.irqOn (Rg.Qpr.IRQ q) (Rg.Qpr.IRQ_EN q)
  | 5 => h != 0 && (List.range 64).any fun c => d.get (Ent.Dma.HALL c) == h && d.irqOn (Rg.Dmar.IRQ c) (Rg.Dmar.IRQ_EN c)
  | 6 => h != 0 && (List.range 256).any fun k => d.get (Ent.Bctx.HALL k) == h && d.irqOn (Rg.Ctx.IRQ (k / 64) (k % 64)) (Rg.Ctx.IRQ_EN (k / 64) (k % 64))
  | 7 => (List.range 4).any fun u => (List.range 1024).any fun e =>
      let r := d.endpoint u e
      epValid r && epHall r == h && (d.isSet (Rg.Ep.EVT_PENDING u e) || d.isSet (Rg.Ep.MERGED u e) || d.isSet (Rg.Ep.POLL_FAIL u e))
  | 8 => bit (d.fld (Rg.Hpg.LINES_SET h)) 0
  | 9 => bit (d.fld (Rg.Hpg.LINES_SET h)) 1
  | _ => false

/-- LINES as the page reads. -/
def Dev.hallLines (d : Dev) (h : Nat) : Nat := (List.range 10).foldl (fun v i => setBit v i (d.hallLine h i)) 0

/-- A hall in RUNNING or PRECOPY has an enabled line pending (R380). -/
def Dev.hallPending (d : Dev) (h : Nat) : Bool :=
  (h == 0 || d.hallState h == 1 || d.hallState h == 4) && (List.range 10).any fun i => bit (d.fld (Rg.Hpg.LINE_EN h)) i && d.hallLine h i

/-- The highest priority among an executor's ready tasks (R333). -/
def Dev.dispatchPrio (d : Dev) (x : Nat) : Nat :=
  (KV.get [] x d.scan.ready).foldl (fun m t => max m (((imgTask (d.oct Ent.Seimg.ACTIVE_IMAGE) t).map (·.prio)).getD 0)) 0

/-- The source is pending: an edge source latches, a level source follows its unit (R330). Switch ports and the switch core have no IRQ field, so
nothing asserts theirs (DEDUCED, assumption 40). -/
def Dev.srcPending (d : Dev) (n : Nat) : Bool :=
  if isEdge n then d.isSet (Rg.Src.PENDING n)
  else if n = 25 then d.irqOn (Rg.Plat.SYS_IRQ 0) (Rg.Plat.SYS_IRQ_EN 0)
  else if n = 68 then d.irqOn (Rg.Plat.SYS_IRQ 1) (Rg.Plat.SYS_IRQ_EN 1)
  else if 71 ≤ n ∧ n ≤ 78 then
    d.irqOn (Rg.Plat.SYS_IRQ (n - 69)) (Rg.Plat.SYS_IRQ_EN (n - 69)) || (n == 74 && d.storageIrq 0)
  else if 64 ≤ n ∧ n ≤ 67 then KV.get [] (n - 64) d.time.captures != []
  else if n = 69 ∨ n = 70 then d.irqOn (Rg.Adcr.IRQ (n - 69)) (Rg.Adcr.IRQ_EN (n - 69))
  else if 80 ≤ n ∧ n ≤ 95 then d.irqOn (Rg.Ch.IRQ (n - 80)) (Rg.Ch.IRQ_EN (n - 80))
  else if 160 ≤ n ∧ n ≤ 415 then d.irqOn (Rg.Ctx.IRQ ((n - 160) / 64) ((n - 160) % 64)) (Rg.Ctx.IRQ_EN ((n - 160) / 64) ((n - 160) % 64))
  else if 416 ≤ n ∧ n ≤ 479 then d.get (Ent.Dma.HALL (n - 416)) == 0 && d.irqOn (Rg.Dmar.IRQ (n - 416)) (Rg.Dmar.IRQ_EN (n - 416))
  else if n = 480 then d.hallPending 0
  else if 481 ≤ n ∧ n ≤ 492 then
    (List.range 255).any fun h => d.hallState (h + 1) != 0 && d.get (Ent.Hall.BIND_CORE (h + 1)) == n - 481 && d.hallPending (h + 1)
  else false

def Dev.srcPriority (d : Dev) (n : Nat) : Nat :=
  if 13 ≤ n ∧ n ≤ 24 then d.dispatchPrio (n - 13) else d.fld (Rg.Src.PRIORITY n)

/-- A source of M0 is pending (R414): the crypto unit and the secure mailbox assert theirs, the others latch. -/
def Dev.m0Pending (d : Dev) (n : Nat) : Bool :=
  if n = 1 then d.irqOn Rg.Cry.IRQ Rg.Cry.IRQ_EN
  else if n = 2 then d.isSet Rg.Smb.DONE && d.isSet Rg.Smb.IE
  else d.isSet (Rg.M0Src.PENDING n)

/-! ### Core pages -/

def pgDepth (k : Nat) : Field := if k = 12 then Rg.M0Cpg.DEPTH else Rg.Cpg.DEPTH k
def pgPrio (k : Nat) : Field := if k = 12 then Rg.M0Cpg.RUNPRIO else Rg.Cpg.RUNPRIO k
def pgSrc (k i : Nat) : Field := if k = 12 then Rg.M0Cpg.STK_SRC i else Rg.Cpg.STK_SRC k i
def pgSaved (k i : Nat) : Field := if k = 12 then Rg.M0Cpg.STK_PRIO i else Rg.Cpg.STK_PRIO k i
def pgWfi (k : Nat) : Field := if k = 12 then Rg.M0Cpg.WFI else Rg.Cpg.WFI k
def pgFull (k : Nat) : Field := if k = 12 then Rg.M0Cpg.FULL else Rg.Cpg.FULL k
def pgCerr (k : Nat) : Field := if k = 12 then Rg.M0Cpg.CERR else Rg.Cpg.CERR k
def sActive (k n : Nat) : Field := if k = 12 then Rg.M0Src.ACTIVE n else Rg.Src.ACTIVE n
def sEnable (k n : Nat) : Field := if k = 12 then Rg.M0Src.ENABLE n else Rg.Src.ENABLE n
def sPending (k n : Nat) : Field := if k = 12 then Rg.M0Src.PENDING n else Rg.Src.PENDING n
def sMod (k n : Nat) : Field := if k = 12 then Rg.M0Src.MOD_US n else Rg.Src.MOD_US n

/-- The key of a source in `held`. -/
def heldKey (k n : Nat) : Nat := if k = 12 then 512 + n else n

/-- The base priority; the entry and the page show the same value. -/
def Dev.threshold (d : Dev) (k : Nat) : Nat := if k = 12 then d.fld Rg.M0Cpg.THRESHOLD else d.get (Ent.Core.THRESHOLD k)

/-- RUNPRIO equals THRESHOLD while the stack is empty (R334). -/
def Dev.runPrio (d : Dev) (k : Nat) : Nat := if d.fld (pgDepth k) = 0 then d.threshold k else d.fld (pgPrio k)

def Dev.prioOf (d : Dev) (k n : Nat) : Nat := if k = 12 then d.fld (Rg.M0Src.PRIORITY n) else d.srcPriority n

/-- The core may be delivered a source: its gate is on (R340), and while it belongs to the engine only its dispatch source (R332). -/
def Dev.mayReach (d : Dev) (k n : Nat) : Bool :=
  k == 12 || (d.gateOn (gateCore k) && (decide (k < 4) || !d.engineCore (k - 4) || decide (13 ≤ n) && decide (n ≤ 24)))

/-- The source is deliverable to the core (R334). A dispatch source is delivered again while a task that it started is running, so that a ready
task of higher priority preempts it (R242; DEDUCED, assumption 41). -/
def Dev.deliverable (d : Dev) (k n : Nat) : Bool :=
  d.isSet (sEnable k n) && (k == 12 || d.srcTarget n == k) && decide (d.runPrio k < d.prioOf k n) &&
  (!d.isSet (sActive k n) || (decide (13 ≤ n) && decide (n ≤ 24) && k != 12)) && (KV.find (heldKey k n) d.held).isNone &&
  (if k = 12 then d.m0Pending n else d.srcPending n) && d.mayReach k n

/-- Numbers of a controller's sources. -/
def srcNumbers (k : Nat) : List Nat := if k = 12 then (List.range 63).map (· + 1) else (List.range 511).map (· + 1)

/-- The deliverable source of highest priority, the lowest number among equals (R335). -/
def Dev.bestSource (d : Dev) (k : Nat) : Nat :=
  ((srcNumbers k).foldl (fun (b : Nat × Nat) n =>
    if d.deliverable k n ∧ b.2 < d.prioOf k n then (n, d.prioOf k n) else b) (0, 0)).1

/-- The request line of a core (R334). -/
def Dev.requestLine (d : Dev) (k : Nat) : Bool := decide (d.fld (pgDepth k) < 8) && d.bestSource k != 0

/-- The line as it stands after a change at the controller; an asserted line ends WFI. -/
def Dev.evalLine (d : Dev) (k : Nat) : Dev :=
  let on := d.requestLine k
  (if on then d.setFld (pgWfi k) 0 else d).emit (.line "IRQ" k on)

/-! ### CLAIM, COMPLETE, DOORBELL, moderation -/

/-- Counters of a core: CLAIMS 0, COMPLETE_ERRORS 1, STACK_FULL 2; M0's page has none. -/
def Dev.countCore (d : Dev) (k i : Nat) : Dev :=
  if k = 12 then d
  else d.count ⟨⟨0x2A20 + k, 3 + i, 64, 0⟩, Ent.Core.COUNTER_SAT k, i, srcCore k⟩

/-- Take the first element that satisfies `p`, and leave the rest. -/
def takeFirst (p : Nat → Bool) : List Nat → Option Nat × List Nat
  | [] => (none, [])
  | a :: r => if p a then (some a, r) else let (b, l) := takeFirst p r; (b, a :: l)

/-- A task that has not run since START. -/
def TaskRun.idle : TaskRun := ⟨0, 0, 0, 0, none, false, true⟩

/-- A claimed dispatch source starts the ready task of its priority whose snapshot began first (R242, R333); the time to its start is taken for
MAX_DELAY_NS. The source stays pending while tasks are ready. -/
def Dev.startTask (d : Dev) (x : Nat) : Dev :=
  let img := d.oct Ent.Seimg.ACTIVE_IMAGE
  let p := d.dispatchPrio x
  match takeFirst (fun t => ((imgTask img t).map (·.prio)).getD 0 == p) (KV.get [] x d.scan.ready) with
  | (none, _) => d
  | (some t, rest) =>
    let r := KV.get TaskRun.idle t d.scan.runs
    let d := { d with scan := { d.scan with
      ready := KV.put [] x rest d.scan.ready
      stackOf := KV.put [] x (t :: KV.get [] x d.scan.stackOf) d.scan.stackOf
      runs := KV.put TaskRun.idle t { r with phase := 2 } d.scan.runs } }
    let d := d.put (Ent.Task.MAX_DELAY_NS t) (max (d.get (Ent.Task.MAX_DELAY_NS t)) (min (d.time.raw - r.origin) 0xFFFFFFFF))
    if rest = [] then d else d.raise (13 + x)

/-- A claim of source `n` by core `k` (R335). -/
def Dev.claimSource (d : Dev) (k n : Nat) : Dev :=
  let depth := d.fld (pgDepth k)
  let old := d.runPrio k
  let pr := d.prioOf k n
  let d := d.setFld (sPending k n) 0
  let d := ((d.setFld (sActive k n) 1).setFld (pgSrc k depth) n).setFld (pgSaved k depth) old
  let d := ((d.setFld (pgDepth k) (depth + 1)).setFld (pgPrio k) pr).setFld (pgWfi k) 0
  let d := if d.fld (sMod k n) = 0 then d else { d with held := KV.insert (heldKey k n) d.time.raw d.held }
  let d := d.countCore k 0
  if k ≠ 12 ∧ 13 ≤ n ∧ n ≤ 24 then d.startTask (n - 13) else d

/-- A read of CLAIM of page `k` (R335). At DEPTH 8 it returns 0, sets FULL and counts. -/
def claimOp (k : Nat) (i : Initiator) (d : Dev) : Dev :=
  if coreOf i ≠ some k then d.answer .ok 0
  else if d.fld (pgDepth k) = 8 then
    let d := (d.setFld (pgFull k) 1).countCore k 2
    (if k = 12 then d else d.limited (scopeOf srcIrq 0x0021 * 16 + k) 1 fun d c => d.event srcIrq 0x0021 (k * 2 ^ 24 + min c 0xFFFF)).answer .ok 0
  else
    match d.bestSource k with
    | 0 => d.answer .ok 0
    | n => ((d.claimSource k n).answer .ok n).evalLine k

/-- A write of COMPLETE (R336). ACTIVE stays while a lower level of the stack still holds the source. -/
def completeOp (k : Nat) (i : Initiator) (v : Nat) (d : Dev) : Dev :=
  let depth := d.fld (pgDepth k)
  if coreOf i ≠ some k then d.answer .ok
  else if depth ≠ 0 ∧ d.fld (pgSrc k (depth - 1)) = v then
    let again := (List.range (depth - 1)).any fun j => d.fld (pgSrc k j) == v
    let d := if again then d else d.setFld (sActive k v) 0
    let saved := d.fld (pgSaved k (depth - 1))
    let d := ((d.setFld (pgSrc k (depth - 1)) 0).setFld (pgSaved k (depth - 1)) 0).setFld (pgDepth k) (depth - 1)
    ((d.setFld (pgPrio k) (if depth = 1 then 0 else saved)).answer .ok).evalLine k
  else
    let d := (d.setFld (pgCerr k) 1).countCore k 1
    (if k = 12 then d else d.limited (scopeOf srcIrq 0x0020 * 16 + k) 1 fun d _ => d.event srcIrq 0x0020 (k * 2 ^ 24 + v % 512)).answer .ok

/-- A write of DOORBELL (R337). -/
def doorbellOp (hall v : Nat) (d : Dev) : Dev :=
  if hall ≠ 0 then d.answer .hallDenied
  else if 11 < v % 16 then d.answer .ok
  else ((d.raise (v % 16 + 1)).answer .ok).evalLine (v % 16)

/-- A unit asserts a source (R330): an edge source latches one event; a level source is pending while its unit asserts it, so nothing is stored
for it. The target's request line follows. -/
def interruptSourceAssertOp (n : Nat) (d : Dev) : Dev :=
  if srcReserved n ∨ 511 < n then d
  else (if isEdge n then d.raise n else d).evalLine (d.srcTarget n)

/-- The source's hold is over: MOD_US since its claim, on the raw counter (R339). -/
def Dev.holdOver (d : Dev) (n : Nat) (m0 : Bool) : Bool :=
  (KV.find (if m0 then 512 + n else n) d.held).any fun t => d.passed t (d.fld (if m0 then Rg.M0Src.MOD_US n else Rg.Src.MOD_US n) * 1000)

/-- MOD_US ends: the source may be delivered again (R339). `m0` names a source of M0's controller. -/
def moderationExpiryOp (n : Nat) (m0 : Bool) (d : Dev) : Dev :=
  if d.holdOver n m0 then
    ({ d with held := KV.erase (if m0 then 512 + n else n) d.held } : Dev).evalLine (if m0 then 12 else d.srcTarget n)
  else d

/-- A core enters WFI: its held sources are released (R339). -/
def wfiEnterOp (k : Nat) (d : Dev) : Dev :=
  let mine (j : Nat) : Bool := if k = 12 then decide (512 ≤ j) else decide (j < 512) && d.srcTarget j == k
  ({ d with held := KV.keep (fun j _ => !mine j) d.held }.setFld (pgWfi k) 1).evalLine k

def Dev.setMezz (d : Dev) (f : MezzSt → MezzSt) : Dev := { d with mezz := f d.mezz }

/-- Debug holds M0 with PAUSE_DBG, which counts in DEVELOP only: the secure watchdog stands still (R412). -/
def Dev.swdtHeld (d : Dev) : Bool := d.isSet Rg.Swd.PAUSE_DBG && d.get Ent.Sec.LIFECYCLE == 0 && (d.hart 12).halted

/-- The watchdog's count stops or goes on where it stopped. -/
def Dev.swdtFollow (d : Dev) : Dev :=
  match d.mezz.paused, d.swdtHeld with
  | none, true => d.setMezz fun m => { m with paused := some d.time.raw }
  | some t, false => d.setMezz fun m => { m with paused := none, kick := m.kick + (d.time.raw - t) }
  | _, _ => d

/-- A reset of a core resets its page: the stack empties and every ACTIVE bit of its sources clears (R340). What debug saw is gone. -/
def Dev.resetCore (d : Dev) (k : Nat) : Dev :=
  let d := if k < 4 then d.leftBehind (.aCore k) else if k < 12 then d.leftBehind (.cCore (k - 4)) else d.leftBehind .m0
  let d := (List.range 8).foldl (fun d i => (d.setFld (pgSrc k i) 0).setFld (pgSaved k i) 0) d
  let d := (((d.setFld (pgDepth k) 0).setFld (pgPrio k) 0).setFld (pgWfi k) 0).setFld (pgFull k) 0 |>.setFld (pgCerr k) 0
  let d := (srcNumbers k).foldl (fun d n => if k = 12 || d.srcTarget n == k then d.setFld (sActive k n) 0 else d) d
  let d := { d with held := KV.keep (fun j _ => !(if k = 12 then decide (512 ≤ j) else decide (j < 512) && d.srcTarget j == k)) d.held }
  (d.setHart k fun h => if k < 4 then Hart.fresh else { Hart.fresh with nhall := h.nhall }).swdtFollow

/-! ### NHALL -/

/-- A write of NHALL on an A-core (R325): only HS-mode with NHALL 0 writes it. Causes 2 and 22 are the illegal-instruction and the
virtual-instruction exception; M-mode and U-mode take the first, VU-mode the second (PRESUMED, assumption 43). -/
def nhallWriteOp (k : Nat) (mode : Mode) (v : Nat) (d : Dev) : Dev :=
  if 3 < k then d
  else match mode with
  | .hs => if (d.hart k).nhall = 0 then d.setHart k fun h => { h with nhall := v % 256 } else d.emit (.exception k 2)
  | .vs | .vu => d.emit (.exception k 22)
  | .m | .u => d.emit (.exception k 2)

/-! ### Lockstep (R328, R329) -/

/-- The check of a pair's APPLY (R328). -/
def Dev.pairBusy (d : Dev) (p : Nat) : Bool :=
  d.coreInHall (2 * p) || d.coreInHall (2 * p + 1) ||
  ((imgCores (d.oct Ent.Seimg.ACTIVE_IMAGE)).any fun c => c / 2 == p)

/-- A pair's APPLY takes effect: both cores are reset and the state takes the new value. -/
def Dev.pairApplied (d : Dev) (p : Nat) : Dev :=
  ((d.resetCore (4 + 2 * p)).resetCore (5 + 2 * p)).put (Ent.Pair.STATE p) (d.get (Ent.Pair.LOCKSTEP p))

/-- A write of RESET to a halted pair resets both cores (R329); for a pair that is not halted the manual states no effect, and it is refused with
WRONG_STATE (DESIGN CHOICE, assumption 44). -/
def pairResetOp (p : Nat) (d : Dev) : Dev :=
  if d.get (Ent.Pair.STATE p) ≠ 2 then d.answer .wrongState
  else (((d.resetCore (4 + 2 * p)).resetCore (5 + 2 * p)).put (Ent.Pair.STATE p) 1).answer .ok

/-! ### Debug (R341, R408) -/

/-- The enables in force (Table 17.6): DBG_EN in DEVELOP and RETURNED, its normal-world bits in PRODUCTION, and what tokens turned on. -/
def Dev.dbgActive (d : Dev) : Nat :=
  let en := if d.get Ent.Sec.LIFECYCLE = 1 then d.get Ent.Sec.DBG_EN % 4 else d.get Ent.Sec.DBG_EN % 16
  orBits en (d.get Ent.Sec.DBG_ACTIVE)

/-- Harts of the debug module: the upper core of a pair is none. -/
def Dev.isHart (d : Dev) (k : Nat) : Bool := decide (k ≤ 12) && !(decide (4 ≤ k) && decide (k < 12) && k % 2 == 1 && d.paired (k - 4))

/-- The acting enable of a hart: NRM_INV or SEC_INV. -/
def Dev.mayAct (d : Dev) (k : Nat) : Bool := d.isHart k && bit d.dbgActive (if k = 12 then 3 else 1)

def debugHaltOp (k : Nat) (d : Dev) : Dev :=
  if d.mayAct k then (d.setHart k fun h => { h with halted := true }).swdtFollow else d.emit (.debugRefused k)

/-- The hart goes on: what debug knew of its registers holds no longer. -/
def debugResumeOp (k : Nat) (d : Dev) : Dev :=
  if d.mayAct k then (d.setHart k fun h => { h with halted := false, regs := [] }).swdtFollow else d.emit (.debugRefused k)

/-- One instruction of a halted hart. What it does is the hart's; its registers are unknown again (R341). -/
def debugStepOp (k : Nat) (d : Dev) : Dev :=
  if d.mayAct k && (d.hart k).halted then d.setHart k fun h => { h with regs := [] } else d.emit (.debugRefused k)

/-- A register of a halted hart is written, or read: one that debug has not seen since the hart last ran holds a free value. -/
def accessRegisterOp (k reg : Nat) (write : Option Nat) (d : Dev) : Dev :=
  if d.mayAct k && (d.hart k).halted then
    let w := if k < 4 then 64 else 32
    match write with
    | some v => (d.setHart k fun h => { h with regs := KV.insert reg (v % 2 ^ w) h.regs }).answer .ok
    | none => match KV.find reg (d.hart k).regs with
      | some v => d.answer .ok v
      | none =>
        let (v, d) := d.draw w
        (d.setHart k fun h => { h with regs := KV.insert reg v.toNat h.regs }).answer .ok v.toNat
  else d.emit (.debugRefused k)

/-! ### Meanings -/

def execInterruptSourceAssert (n : Nat) (s : State) := onDev s (interruptSourceAssertOp n)
def execClaim (k : Nat) (i : Initiator) (s : State) := onDev s (claimOp k i)
def execComplete (k : Nat) (i : Initiator) (v : Nat) (s : State) := onDev s (completeOp k i v)
def execDoorbell (hall v : Nat) (s : State) := onDev s (doorbellOp hall v)
def execModerationExpiry (n : Nat) (m0 : Bool) (s : State) := onDev s (moderationExpiryOp n m0)
def execWfiEnter (k : Nat) (s : State) := onDev s (wfiEnterOp k)
def execNhallWrite (k : Nat) (mode : Mode) (v : Nat) (s : State) := onDev s (nhallWriteOp k mode v)
def execPairReset (p : Nat) (s : State) := onDev s (pairResetOp p)
def execDebugHalt (k : Nat) (s : State) := onDev s (debugHaltOp k)
def execDebugResume (k : Nat) (s : State) := onDev s (debugResumeOp k)
def execDebugStep (k : Nat) (s : State) := onDev s (debugStepOp k)
def execAccessRegister (k reg : Nat) (write : Option Nat) (s : State) := onDev s (accessRegisterOp k reg write)

end Sys2Proof.Machine
end

