-- ==== Sys2Proof/Machine/Forwarding.lean ====
section
/-! DEFINITION. Classification of received frames: tags, VLANs, TCM rules and policer, streams, learning, the destination set and
cut-through (R120 to R136, R102); the checks of the tables at APPLY (R129). -/

namespace Sys2Proof.Machine

/-! ### The tables (R129) -/

/-- Records of `n` bytes; `fuel` bounds their number. -/
def recordsOf (n : Nat) : Nat → Bytes → List Bytes
  | 0, _ => []
  | _ + 1, [] => []
  | k + 1, b => b.take n :: recordsOf n k (b.drop n)

/-- A VLAN record (Table 5.7). -/
def Dev.vlanRec (d : Dev) (vid : Nat) : Bytes := slice (d.oct Ent.Tbl.VLAN_TABLE) (16 * vid) 16

def vlanValid (r : Bytes) : Bool := bit (leAt r 7 1) 0
def vlanLearn (r : Bytes) : Bool := bit (leAt r 7 1) 1
def vlanMember (r : Bytes) (p : Nat) : Bool := bit (leAt r 0 7) p
def vlanUntagged (r : Bytes) (p : Nat) : Bool := bit (leAt r 8 7) p

/-- The VID's VLAN record is VALID. -/
def Dev.vidValid (d : Dev) (vid : Nat) : Bool := vlanValid (d.vlanRec vid)

/-- The ports of a set of bits. -/
def portsOf (m : Nat) : List Nat := (List.range 54).filter (bit m)

/-- The ports of a multicast group. -/
def Dev.groupPorts (d : Dev) (g : Nat) : List Nat := portsOf (leAt (slice (d.oct Ent.Tbl.MCAST_TABLE) (16 * g) 16) 0 7)

/-- A static forwarding entry (Table 5.8) with VALID 1. -/
structure Static where
  mac : Nat
  vid : Nat
  dest : Nat
  deriving DecidableEq, Repr

/-- The VALID records of a static forwarding table. -/
def staticsOf (b : Bytes) : List Static :=
  (recordsOf 16 4096 b).filterMap fun r =>
    if bit (leAt r 10 1) 0 then some ⟨ofBe (slice r 0 6), leAt r 6 2, leAt r 8 2⟩ else none

/-- The static entries in force. -/
def Dev.statics (d : Dev) : List Static := staticsOf (d.oct Ent.Tbl.STATIC_FDB)

/-- The stream records in force, VALID or not; an unwritten table holds none that is VALID. -/
def Dev.streamRecs (d : Dev) : List Bytes :=
  match KV.find Ent.Tbl.STREAM_TABLE.key d.blobs with
  | none => []
  | some b => recordsOf 32 2048 b

/-- The record of a stream. -/
def Dev.streamRec (d : Dev) (s : Nat) : Bytes := slice (d.oct Ent.Tbl.STREAM_TABLE) (32 * s) 32

def streamMac (r : Bytes) : Nat := ofBe (slice r 0 6)
def streamValid (r : Bytes) : Bool := bit (leAt r 6 2) 15
def streamIdType (r : Bytes) : Nat := bits (leAt r 6 2) 13 12
def streamVid (r : Bytes) : Nat := bits (leAt r 6 2) 11 0
def streamIngress (r : Bytes) : Nat := leAt r 8 1
def streamFlag (r : Bytes) (i : Nat) : Bool := bit (leAt r 9 1) i
def streamGroup (r : Bytes) : Nat := bits (leAt r 24 2) 9 0

/-- The bucket of a MAC address and VID (R127). -/
def fdbBucket (mac vid : Nat) : Nat := crc32 (be 6 mac ++ le 2 (vid % 4096)) % 4096

/-- No two elements of the list are equal. -/
def noRepeat (l : List Nat) : Bool := l.eraseDups.length == l.length

/-- The first of the four tables at fault, by subindex (R129). A stream's VID names no VLAN record that must be VALID, and the fields of a stream record
with VALID 0 are not checked (DESIGN CHOICE, assumption 61). -/
def tablesFault (vlan mcast fdb streams : Bytes) : Option Nat :=
  let vl := recordsOf 16 4096 vlan
  let high (n : Nat) : Bool := decide (n < 2 ^ 54)
  let vOk := (List.zip vl (List.range 4096)).all fun rv =>
    ((rv.2 != 0 && rv.2 != 4095) || rv.1.all (· == 0#8)) && high (leAt rv.1 0 7) && high (leAt rv.1 8 7)
      && decide (leAt rv.1 7 1 < 4) && leAt rv.1 15 1 == 0
  let mc := recordsOf 16 1024 mcast
  let mOk := mc.all fun r => high (leAt r 0 7) && decide (leAt r 7 1 < 2) && leAt r 8 8 == 0
  let mValid (g : Nat) : Bool := bit (leAt ((mc[g]?).getD []) 7 1) 0
  let vValid (v : Nat) : Bool := vlanValid ((vl[v]?).getD [])
  let st := (recordsOf 16 4096 fdb).filter fun r => bit (leAt r 10 1) 0
  let keys := staticsOf fdb
  let sOk := st.all (fun r => decide (leAt r 6 2 < 4096) && leAt r 10 1 == 1 && leAt r 11 5 == 0 && vValid (leAt r 6 2) &&
      bits (leAt r 8 2) 14 10 == 0 &&
      (if bit (leAt r 8 2) 15 then mValid (bits (leAt r 8 2) 9 0) else decide (bits (leAt r 8 2) 9 0 ≤ 53)))
    && noRepeat (keys.map fun k => k.mac * 4096 + k.vid)
    && keys.all fun k => decide ((keys.filter fun j => fdbBucket j.mac j.vid == fdbBucket k.mac k.vid).length ≤ 8)
  let sr := (recordsOf 32 2048 streams).filter streamValid
  let tOk := sr.all (fun r => !bit (leAt r 6 2) 14 && decide (streamIdType r ≤ 1) &&
      (decide (streamIngress r ≤ 53) || streamIngress r == 0xFF) && !streamFlag r 7 &&
      (leAt r 10 2 == 0 || (decide (64 ≤ leAt r 10 2) && decide (leAt r 10 2 ≤ 9216))) &&
      decide (leAt r 12 4 ≤ 10000000) && decide (leAt r 18 4 ≤ 10000000) && decide (leAt r 24 2 < 1024) &&
      (!streamFlag r 4 || mValid (streamGroup r)) && decide (2 ≤ leAt r 26 1) && decide (leAt r 26 1 ≤ 32) &&
      decide (1 ≤ leAt r 27 1) && leAt r 28 4 == 0)
    && noRepeat (sr.map fun r => leAt r 0 9)
  if !vOk then some 1 else if !mOk then some 2 else if !sOk then some 3 else if !tOk then some 4 else none

/-! ### Streams (R131 to R136) -/

def streamReset : StreamSt := ⟨[0, 0, 0, 0, 0, 0, 0], 0, false, 0, none, 0, 0, none⟩

def Switch.stream (w : Switch) (s : Nat) : StreamSt := KV.get streamReset s w.streams

def Dev.setStream (d : Dev) (s : Nat) (f : StreamSt → StreamSt) : Dev :=
  d.setSw fun w => { w with streams := KV.put streamReset s (f (w.stream s)) w.streams }

/-- Count in field `i` of a stream; at all ones one COUNTER_SAT with EXT names the stream and the field (R136). -/
def Dev.countStream (d : Dev) (s i : Nat) : Dev :=
  let x := d.sw.stream s
  let v := min ((x.counts[i]?).getD 0 + 1) (2 ^ 64 - 1)
  let d1 := d.setStream s fun x => { x with counts := listSet x.counts i v }
  if v = 2 ^ 64 - 1 ∧ bit x.sat i = false then
    (d1.setStream s fun x => { x with sat := setBit x.sat i true }).event srcSwitchCore 0x0002 0x00350206
      (some (le 2 s ++ le 1 i ++ zeros 9))
  else d1

/-- Identification of a frame (R131): the number of the first record that matches, in the order of the rule. -/
def Dev.identify (d : Dev) (p vid : Nat) (f : Frame) : Option Nat :=
  let rs := List.zip d.streamRecs (List.range 2048)
  let look (ty ing mac : Nat) : Option Nat :=
    (rs.find? fun r => streamValid r.1 && streamIdType r.1 == ty && streamIngress r.1 == ing && streamMac r.1 == mac
      && streamVid r.1 == vid).map (·.2)
  match look 0 p f.dst with
  | some s => some s
  | none => match look 0 0xFF f.dst with
    | some s => some s
    | none => match look 1 p f.src with
      | some s => some s
      | none => look 1 0xFF f.src

/-- Tokens of a bucket in 1/8,000,000 byte after `t` ns at `rate` kbit/s, at most `size` bytes. -/
def fillBucket (old rate size t : Nat) : Nat := min (old + rate * t) (size * 8000000)

/-- The colours of R133. -/
inductive Colour where
  | green | yellow | red
  deriving DecidableEq, Repr

/-- The flow meter of a stream for a frame of `l` bytes (R133); both buckets start full. -/
def Dev.meter (d : Dev) (s l : Nat) : Colour × Dev :=
  let r := d.streamRec s
  let x := d.sw.stream s
  let cbs := leAt r 16 2 * 64
  let ebs := leAt r 22 2 * 64
  let g := match x.filled with
    | none => cbs * 8000000
    | some t => fillBucket x.green (leAt r 12 4) cbs (d.time.raw - t)
  let y := match x.filled with
    | none => ebs * 8000000
    | some t => fillBucket x.yellow (leAt r 18 4) ebs (d.time.raw - t)
  let n := l * 8000000
  let put (g y : Nat) : Dev := d.setStream s fun x => { x with green := g, yellow := y, filled := some d.time.raw }
  if n ≤ g then (.green, put (g - n) y) else if n ≤ y then (.yellow, put g (y - n)) else (.red, put g y)

/-- The outcome of the vector recovery algorithm (R135). -/
inductive Recov where
  | passed | duplicate | rogue
  deriving DecidableEq, Repr

/-- The vector recovery algorithm of IEEE 802.1CB with a history of `h` numbers. -/
def seqRecover (h : Nat) (st : Option (Nat × Nat)) (seq : Nat) : Recov × Option (Nat × Nat) :=
  match st with
  | none => (.passed, some (seq, 1))
  | some (base, hist) =>
    let delta := toInt 16 (ofInt 16 ((seq : Int) - base))
    let k := delta.natAbs
    if h ≤ k then (.rogue, st)
    else if 0 < delta then (.passed, some (seq, (hist * 2 ^ k + 1) % 2 ^ h))
    else if bit hist k then (.duplicate, st)
    else (.passed, some (base, setBit hist k true))

/-- What step 7 leaves: the frame as it goes on, DEI from the meter, the REPL_GROUP of a generated stream; `none` for a drop. -/
structure Streamed where
  frame : Frame
  yellow : Bool
  group : Option Nat
  deriving DecidableEq, Repr

/-- The filter of R132; the flag says that the frame is dropped. -/
def Dev.sduFilter (d : Dev) (p s len : Nat) (f : Frame) : Bool × Dev :=
  let r := d.streamRec s
  let sdu := len - (if (Frame.ctag f).isSome then 4 else 0) - (if (Frame.seqNo f).isSome then 6 else 0)
  let tooBig := leAt r 10 2 != 0 && decide (leAt r 10 2 < sdu)
  if (d.sw.stream s).blocked then (true, (d.countStream s 1).count (streamDrops p))
  else if streamFlag r 0 && tooBig then
    let d := (d.countStream s 1).count (streamDrops p)
    if streamFlag r 1 then
      (true, (d.setStream s fun x => { x with blocked := true }).event (srcPort p) 0x0065 s)
    else (true, d)
  else (false, d)

/-- The meter of R133: dropped, or whether the frame is yellow. -/
def Dev.metered (d : Dev) (p s len : Nat) : Option Bool × Dev :=
  let r := d.streamRec s
  if streamFlag r 2 then
    match d.meter s len with
    | (.green, d) => (some false, d)
    | (.yellow, d) =>
      let d := d.countStream s 3
      if streamFlag r 3 then (none, (d.countStream s 2).count (streamDrops p)) else (some true, d)
    | (.red, d) => (none, (d.countStream s 2).count (streamDrops p))
  else (some false, d)

/-- Sequence recovery and generation (R134, R135). -/
def Dev.sequenced (d : Dev) (p s : Nat) (f : Frame) : Option (Frame × Option Nat) × Dev :=
  let r := d.streamRec s
  match Frame.seqNo f with
  | some n =>
    if streamFlag r 5 then
      match seqRecover (leAt r 26 1) (d.sw.stream s).recov n with
      | (.passed, st) =>
        let d := (d.setStream s fun x => { x with recov := st }).countStream s 4
        (some (if streamFlag r 6 then { f with rtag := none } else f, none), d)
      | (.duplicate, _) => (none, (d.countStream s 5).count (streamDrops p))
      | (.rogue, _) => (none, (d.countStream s 6).count (streamDrops p))
    else (some (f, none), d)
  | none =>
    if streamFlag r 4 then
      let n := (d.sw.stream s).next
      (some (Frame.pushRtag f n, some (streamGroup r)), d.setStream s fun x => { x with next := (n + 1) % 65536 })
    else (some (f, none), d)

/-- Step 7 of Table 5.5. -/
def Dev.streamStep (d : Dev) (p vid len : Nat) (f : Frame) : Option Streamed × Dev :=
  match d.identify p vid f with
  | none => (some ⟨f, false, none⟩, d)
  | some s =>
    match (d.countStream s 0).sduFilter p s len f with
    | (true, d) => (none, d)
    | (false, d) =>
      match d.metered p s len with
      | (none, d) => (none, d)
      | (some y, d) =>
        match d.sequenced p s f with
        | (none, d) => (none, d)
        | (some (g, grp), d) => (some ⟨g, y, grp⟩, d)

/-! ### TCM rules and policer (R122, R123) -/

/-- Where a TCM frame goes: to a unit of the device, forwarded, or dropped without count. -/
inductive TcmTo where
  | unit (name : String) | forwarded | nowhere
  deriving DecidableEq, Repr

/-- The rules of Table 5.6. -/
def Dev.tcmRule (d : Dev) (p : Nat) (f : Frame) : Option TcmTo :=
  let mine := f.dst == d.board.deviceMac
  let ty := Frame.seenType f
  if ty = 0x88F7 ∧ (f.dst = 0x0180C200000E ∨ f.dst = 0x011B19000000) then some (.unit "timebase")
  else if ty = d.get Ent.Fwd.NAVOS_ETYPE ∧ leAt f.payload 0 1 = 1 then
    some (if 24 ≤ p ∧ p ≤ 39 then .unit "sleep" else .nowhere)
  else if ty = d.get Ent.Fwd.NAVOS_ETYPE ∧ leAt f.payload 0 1 = 2 then
    some (if mine then .unit "twin" else .forwarded)
  else match Frame.udp f with
    | none => none
    | some u =>
      let ip := u.dst == (if u.v6 then ofBe (d.oct Ent.Ndp.IPV6_ADDR) else d.get Ent.Ndp.IPV4_ADDR)
      if u.port = 319 ∨ u.port = 320 then
        some (if (mine || f.dst == ipMulticastMac u) && (ip || ptpMulticast u) then .unit "timebase" else .forwarded)
      else if u.port = d.get Ent.Ndp.UDP_PORT then some (if mine && ip then .unit "D0" else .forwarded)
      else none

/-- The policer's bucket now (R123): full after a reset. -/
def Dev.tcmTokens (d : Dev) (p : Nat) : Nat :=
  match (d.sw.link p).bucket with
  | none => d.get (Ent.Pcfg.TCM_BURST p) * 8000000
  | some (b, t) => fillBucket b (d.get (Ent.Pcfg.TCM_RATE p)) (d.get (Ent.Pcfg.TCM_BURST p)) (d.time.raw - t)

/-- A TCM frame of `len` bytes passes the policer, or is dropped and counted with TCM_POLICING. -/
def Dev.police (d : Dev) (p len : Nat) : Bool × Dev :=
  let b := d.tcmTokens p
  if len * 8000000 ≤ b then (true, d.setLink p fun l => { l with bucket := some (b - len * 8000000, d.time.raw) })
  else
    let d := (d.setLink p fun l => { l with bucket := some (b, d.time.raw) }).count (tcmPoliced p)
    (false, d.limited (scopeOf (srcPort p) 0x0066) 1 fun d k => d.event (srcPort p) 0x0066 (min k 0xFFFFFFFF))

/-! ### Learning (R127) -/

/-- A learn fails: LEARN_FAIL and LEARN_FULL. -/
def Dev.learnFail (d : Dev) (p : Nat) : Dev :=
  (d.count (ctr Ent.Fwds.LEARN_FAIL Ent.Fwds.COUNTER_SAT 0 srcSwitchCore)).limited (scopeOf (srcPort p) 0x0067) 1
    fun d k => d.event (srcPort p) 0x0067 (min k 0xFFFFFFFF)

/-- The least recently learned or refreshed of a list. -/
def oldest (now : Nat) : List Learned → Option Learned
  | [] => none
  | e :: r => match oldest now r with
    | none => some e
    | some g => if (now + 2 ^ 64 - g.seen) % 2 ^ 64 ≤ (now + 2 ^ 64 - e.seen) % 2 ^ 64 then some e else some g

/-- Step 8 for a source MAC on its ingress port. -/
def Dev.learn (d : Dev) (p vid mac : Nat) : Dev :=
  let full := d.get (Ent.Pcfg.MAX_LEARN p) != 0 &&
    decide (d.get (Ent.Pcfg.MAX_LEARN p) ≤ (d.sw.fdb.filter fun e => e.port == p).length)
  let e : Learned := ⟨mac, vid, p, d.time.raw⟩
  if d.get (Ent.Pcfg.LEARN p) ≠ 1 ∨ !vlanLearn (d.vlanRec vid) ∨ mac / 2 ^ 40 % 2 = 1 then d
  else if d.statics.any fun s => s.mac == mac && s.vid == vid then d
  else match d.sw.fdb.find? fun x => x.mac == mac && x.vid == vid with
    | some x =>
      if x.port ≠ p ∧ full then d.learnFail p
      else d.setSw fun w => { w with fdb := w.fdb.map fun y => if y = x then e else y }
    | none =>
      if full then d.learnFail p
      else
        let b := fdbBucket mac vid
        let ln := d.sw.fdb.filter fun x => fdbBucket x.mac x.vid == b
        let st := (d.statics.filter fun s => fdbBucket s.mac s.vid == b).length
        if ln.length + st < 8 then d.setSw fun w => { w with fdb := w.fdb ++ [e] }
        else match oldest d.time.raw ln with
          | some x => d.setSw fun w => { w with fdb := w.fdb.map fun y => if y = x then e else y }
          | none => d.learnFail p

/-! ### The destination set (R128, R130) -/

/-- Ports the frame goes to before step 10. -/
def Dev.destPorts (d : Dev) (p vid dst : Nat) (group : Option Nat) : List Nat :=
  match group with
  | some g => d.groupPorts g
  | none =>
    match d.statics.find? fun s => s.mac == dst && s.vid == vid with
    | some s => if bit s.dest 15 then d.groupPorts (bits s.dest 9 0) else [bits s.dest 9 0]
    | none =>
      match d.sw.fdb.find? fun e => e.mac == dst && e.vid == vid with
      | some e => [e.port]
      | none =>
        if dst / 2 ^ 40 % 2 = 1 ∨ d.get (Ent.Pcfg.FLOOD_UNKNOWN p) = 1 then
          (portsOf (leAt (d.vlanRec vid) 0 7)).filter fun q => q != p || (decide (48 ≤ q) && decide (q ≤ 51))
        else []

/-- A copy's frame at its egress port: untagged, or with a C-tag (R125). -/
def egressFrame (v : Bytes) (f : Frame) (vid pcp : Nat) (dei : Bool) (q : Nat) : Frame :=
  let g := Frame.untag f
  if vlanUntagged v q then g else { g with tags := ⟨0x8100, pcp, dei, vid⟩ :: g.tags }

/-- A frame that the device sends on a VLAN (R70, R109, R505), on ports below `n` only: forwarding finds its ports as for a received frame, a copy in each port's TCM queue. A frame to an address
the tables do not hold goes to every member; a tag carries PCP 0 (DESIGN CHOICE, assumption 61). -/
def Dev.sendSwitched (d : Dev) (vid : Nat) (f : Frame) (n : Nat := 54) : Dev :=
  let v := d.vlanRec vid
  let ports : List Nat :=
    match d.statics.find? fun s => s.mac == f.dst && s.vid == vid with
    | some s => if bit s.dest 15 then d.groupPorts (bits s.dest 9 0) else [bits s.dest 9 0]
    | none =>
      match d.sw.fdb.find? fun (e : Learned) => e.mac == f.dst && e.vid == vid with
      | some e => [e.port]
      | none => portsOf (leAt v 0 7)
  if !vlanValid v then d
  else (ports.filter fun q => decide (q < n) && vlanMember v q).foldl (fun d q => d.sendTcm q (egressFrame v f vid 0 false q)) d

/-- What classification decides: class, VID, destinations before step 10, and the deliveries to the device. -/
structure Decision where
  cls : Nat
  vid : Nat
  dests : List Dest
  multi : Bool
  hall0 : Bool
  deriving DecidableEq, Repr

/-- Step 10 for each destination; a filtered copy is counted (R96, R120). -/
def Dev.filterDests (d : Dev) (p cls vid : Nat) (multi : Bool) (f : Frame) (pcp : Nat) (dei : Bool) : List Nat → List Dest × Dev
  | [] => ([], d)
  | q :: r =>
    let v := d.vlanRec vid
    if vlanMember v q && (q != p || (decide (48 ≤ q) && decide (q ≤ 51))) then
      match Dev.filterDests d p cls vid multi f pcp dei r with
      | (l, d') => (⟨q, egressFrame v f vid pcp dei q⟩ :: l, d')
    else Dev.filterDests (d.dropped q cls p multi .filtered) p cls vid multi f pcp dei r

/-- The host port of the device's unit whose MAC address it is: P(48 + n) for BU_MAC of unit n, P48 for SE_MAC (R216, R250). -/
def Dev.unitPort (d : Dev) (mac : Nat) : Option Nat :=
  if mac = 0 then none
  else match (List.range 4).find? fun n => ofBe (d.oct (Ent.Bu.BU_MAC n)) == mac with
    | some n => some (48 + n)
    | none => if ofBe (d.oct Ent.Senet.SE_MAC) = mac then some 48 else none

/-- What step 6 decides: the one port a frame for the device goes to, its class, and whether it is hall 0's. -/
structure Own where
  port : Option Nat
  cls : Nat
  hall0 : Bool
  deriving DecidableEq, Repr

/-- Step 6: the port of hall 0's queue pair or of the unit addressed, the frame's class, or nothing. `none` drops the frame. -/
def Dev.ownDelivery (d : Dev) (f : Frame) (cls : Nat) : Option Own × Dev :=
  let local_ := f.dst / 16 == 0x0180C200000
  let mine := f.dst == d.board.deviceMac
  if local_ && !d.flag Ent.Fwd.TRAP_LINKLOCAL then (none, d)
  else if local_ || mine then
    let q := d.get Ent.H0qp.HALL0_QP
    if q < 256 then (some ⟨some (d.get (Ent.Qp.PORT q)), if local_ then 7 else cls, true⟩, d) else (none, d.count (noQp 0))
  else (some ⟨d.unitPort f.dst, cls, false⟩, d)

/-- Steps 6 to 10 (Table 5.5). `tcm` is where the TCM rule sends the frame; one for D0 is charged to the TCM reserve while D0 takes it, and is lost
uncounted when the reserve is full (R109; DESIGN CHOICE, assumption 61). -/
def Dev.forwardSteps (d : Dev) (p vid len cls pcp : Nat) (dei : Bool) (f : Frame) (tcm : Option TcmTo) : Option Decision × Dev :=
  match ((match tcm with
      | some (.unit _) => (some ⟨none, cls, false⟩, d)
      | _ => d.ownDelivery f cls) : Option Own × Dev) with
  | (none, d) => (none, d)
  | (some ⟨own, cls, hall0⟩, d) =>
    match d.streamStep p vid len f with
    | (none, d) => (none, d)
    | (some st, d) =>
      let d := d.learn p vid f.src
      let d := if Frame.resolves f then d.emit (.deliver "D0" p f) else d
      match tcm with
      | some (.unit n) => (some ⟨cls, vid, [], false, false⟩, if n = "D0" && 1024 < d.sw.tcmCells + cellsOf len then d else d.emit (.deliver n p f))
      | _ =>
        let ports := match own with
          | some q => [q]
          | none => d.destPorts p vid f.dst st.group
        let multi := decide (2 ≤ ports.length)
        match d.filterDests p cls vid multi st.frame pcp (dei || st.yellow) ports with
        | (l, d) => (some ⟨cls, vid, l, multi, hall0⟩, d)

/-- Steps 2 to 10 of Table 5.5 for a frame that passes step 1. -/
def Dev.classify (d : Dev) (p len : Nat) (f : Frame) : Option Decision × Dev :=
  let tag := Frame.ctag f
  let acc := d.get (Ent.Pcfg.ACCEPT p)
  let vidTag := (tag.map (·.vid)).getD 0
  let vid := if vidTag = 0 then d.get (Ent.Pcfg.PVID p) else vidTag
  let pcp := (tag.map (·.pcp)).getD (d.get (Ent.Pcfg.DEF_PCP p))
  let dei := (tag.map (·.dei)).getD false
  let v := d.vlanRec vid
  if d.get (Ent.Port.STATE p) ≠ 1 then (none, d.count (rxDisabled p))
  else if (acc = 1 ∧ vidTag = 0) ∨ (acc = 2 ∧ vidTag ≠ 0) then (none, d.count (rxType p))
  else if vid = 4095 ∨ !vlanValid v ∨ (d.get (Ent.Pcfg.ING_FILTER p) = 1 ∧ !vlanMember v p) then (none, d.count (rxVlan p))
  else
    let rule := if d.get (Ent.Pcfg.TCM_RATE p) = 0 then none else d.tcmRule p f
    match rule with
    | none => d.forwardSteps p vid len (bits (d.get (Ent.Pcfg.PCP_TC_MAP p)) (4 * pcp + 2) (4 * pcp)) pcp dei f none
    | some t =>
      match d.police p len with
      | (false, d) => (none, d)
      | (true, d) => if t = .nowhere then (none, d) else d.forwardSteps p vid len 8 pcp dei f (some t)

/-! ### Cut-through (R102) -/

/-- The conditions of R102 for one destination. A frame the egress port may not send is never cut through (DEDUCED). -/
def Dev.mayCut (d : Dev) (p cls n : Nat) (hall0 : Bool) (x : Dest) : Bool :=
  let q := d.sw.queue x.port cls
  d.flag Ent.Swc.CT_ENABLE && d.flag (Ent.Pbuf.CUT_THROUGH x.port) && decide (d.lineRate x.port ≤ d.lineRate p) &&
  q.copies.isEmpty && !q.latched && (d.sw.txOf x.port).isNone && (d.sw.link x.port).up &&
  d.get (Ent.Pq.Q_STATE x.port cls) == 1 && d.get (Ent.Port.STATE x.port) == 1 && d.gateOpen x.port cls &&
  d.gateFits x.port cls (d.get (Ent.Pcfg.MAX_FRAME x.port)) && d.sw.canTake cls && decide (n ≤ maxCells x.port) &&
  (if 48 ≤ x.port ∧ x.port ≤ 51 ∧ d.unitOfHost x.port x.frame = none then
    match d.pickQp x.port hall0 x.frame.dst with
    | some q => d.rxReady q
    | none => false
   else true)

/-- Start the cut-through copies a frame may have; `k` is the key of its cells. -/
def Dev.startCuts (d : Dev) (k p n : Nat) (dec : Decision) : List Dest → List Nat × Dev
  | [] => ([], d)
  | x :: r =>
    if d.mayCut p dec.cls n dec.hall0 x then
      let c : Copy := ⟨k, some k, .tx, 0, 0, 0, d.time.raw, (d.sw.queue x.port dec.cls).window, true, none, false, x.frame, dec.vid, p,
        dec.multi, dec.hall0⟩
      match Dev.startCuts (d.enqueue x.port dec.cls c) k p n dec r with
      | (l, d') => (x.port :: l, d')
    else Dev.startCuts d k p n dec r

/-- Record the frame being received, starting its cut-through copies. -/
def Dev.beginRx (d : Dev) (p len landed : Nat) (fcs : Bool) (dec : Decision) : Dev :=
  let n := cellsOf len
  match d.sw.store ⟨min landed n, 0, false, false⟩ with
  | (k, w) =>
    match Dev.startCuts { d with sw := w } k p n dec dec.dests with
    | ([], _) => d.setSw fun w => { w with rx := KV.insert p ⟨len, fcs, min landed n, dec.cls, dec.vid, dec.dests, dec.multi, dec.hall0, [], none, d.time.raw⟩ w.rx }
    | (l, d') => d'.setSw fun w =>
        { w with stores := KV.insert k ⟨min landed n, l.length, false, false⟩ w.stores,
                 rx := KV.insert p ⟨len, fcs, min landed n, dec.cls, dec.vid, dec.dests, dec.multi, dec.hall0, l, some k, d.time.raw⟩ w.rx }

/-- The engines take a frame that arrives on port `p` through Table 5.5 (R120), of which `landed` cells have landed. The port receives
once its link-up has been reported (DEDUCED from R117) and while no earlier frame is arriving. A frame that will fail step 1, or that
the headroom will truncate, has no other effect than the cut-through copies that have started (R103). -/
def frameClassifyOp (p : Nat) (f : Frame) (len : Nat) (fcs : Bool) (landed : Nat) (d : Dev) : Dev :=
  let ports := decide (p < 54)
  let off := d.get (Ent.Port.STATE p) != 1
  if !ports || (KV.find p d.sw.rx).isSome || (!(d.sw.link p).up && !off) then d
  else
    let nothing : Decision := ⟨0, 0, [], false, false⟩
    let short := decide (len < 64)
    let long := decide (d.get (Ent.Pcfg.MAX_FRAME p) < len)
    let cut := decide (d.get (Ent.Pbuf.ING_RES p) < cellsOf len)
    if cut && d.get (Ent.Pbuf.ING_RES p) == 0 then d.beginRx p len 0 fcs nothing
    else if !fcs || short || long || cut then
      let d1 := if cut then d else if !fcs then d.count (rxFcs p) else if short || long then d.count (rxLength p) else d
      let dec := if short || long then nothing else ((d.classify p len f).1).getD nothing
      d1.beginRx p len landed false dec
    else
      match d.classify p len f with
      | (none, d) => d.beginRx p len landed fcs nothing
      | (some dec, d) => d.beginRx p len landed fcs dec

/-! ### Table commands -/

/-- Remove learned entries. -/
def Dev.forget (d : Dev) (f : Learned → Bool) : Dev := d.setSw fun w => { w with fdb := w.fdb.filter fun e => !f e }

/-- FDB_FLUSH: one port's learned entries, or all for 0xFF (R127). -/
def fdbFlushOp (v : Nat) (d : Dev) : Dev := d.forget fun e => v == 0xFF || e.port == v

/-- A learned entry not refreshed for AGING_S is removed (R127). -/
def fdbAgingOp (mac vid : Nat) (d : Dev) : Dev :=
  d.forget fun e => e.mac == mac && e.vid == vid && d.passed e.seen (d.get Ent.Fwd.AGING_S * 1000000000)

/-- STREAM_UNBLOCK of one stream, or of all for 0xFFFF (R132). -/
def streamUnblockOp (s : Nat) (d : Dev) : Dev :=
  if s = 0xFFFF then d.setSw fun w => { w with streams := KV.mapVal (fun _ x => { x with blocked := false }) w.streams }
  else d.setStream s fun x => { x with blocked := false }

/-- STREAM_CLEAR of one stream, or of all for 0xFFFF (R136). -/
def streamClearOp (s : Nat) (d : Dev) : Dev :=
  let z (x : StreamSt) : StreamSt := { x with counts := [0, 0, 0, 0, 0, 0, 0], sat := 0 }
  if s = 0xFFFF then d.setSw fun w => { w with streams := KV.mapVal (fun _ x => z x) w.streams }
  else d.setStream s z

/-- The reset timeout of a stream's recovery function: its next frame is taken whatever its number (R135). -/
def recoveryResetTimeoutOp (s : Nat) (d : Dev) : Dev := d.setStream s fun x => { x with recov := none }

/-- The four tables switch (R129): learned entries go whose VID is no longer VALID, whose key a static entry now carries, or for which
their bucket has no way left, the least recently refreshed first and the lowest way first among equals (R127); a stream whose record changed starts
afresh. `old` is the stream table before. -/
def Dev.tablesSwitched (d : Dev) (old : List Bytes) : Dev :=
  let st := d.statics
  let d := d.forget fun e => !d.vidValid e.vid || st.any fun s => s.mac == e.mac && s.vid == e.vid
  let age (e : Learned) : Nat := (d.time.raw + 2 ^ 64 - e.seen) % 2 ^ 64
  let ways := d.sw.fdb.zipIdx
  let room (e : Learned × Nat) : Bool :=
    let b := fdbBucket e.1.mac e.1.vid
    let k := (st.filter fun s => fdbBucket s.mac s.vid == b).length
    let stay := (ways.filter fun x => fdbBucket x.1.mac x.1.vid == b &&
      (decide (age x.1 < age e.1) || (age x.1 == age e.1 && decide (e.2 < x.2)))).length
    decide (k + stay < 8)
  let d := d.setSw fun w => { w with fdb := (ways.filter room).map (·.1) }
  let new := d.streamRecs
  d.setSw fun w => { w with streams := KV.keep (fun s _ => ((old[s]?).getD (zeros 32)) == ((new[s]?).getD (zeros 32))) w.streams }

/-- A 64-byte record of STREAM_COUNTERS (Table 5.10). -/
def StreamSt.bytes (x : StreamSt) : Bytes :=
  x.counts.flatMap (le 8) ++ le 2 x.sat ++ le 1 (b2n x.blocked) ++ zeros 5

/-- The learned entries as records of Table 5.8. -/
def Dev.fdbSnapshot (d : Dev) : Bytes :=
  d.sw.fdb.flatMap fun e => be 6 e.mac ++ le 2 e.vid ++ le 2 e.port ++ le 1 3 ++ zeros 5

/-! ### Meanings -/

def execFrameClassify (p : Nat) (f : Frame) (len : Nat) (fcs : Bool) (landed : Nat) (s : State) :=
  onDev s (frameClassifyOp p f len fcs landed)
def execFdbFlush (v : Nat) (s : State) := onDev s (fdbFlushOp v)
def execFdbAging (mac vid : Nat) (s : State) := onDev s (fdbAgingOp mac vid)
def execStreamUnblock (n : Nat) (s : State) := onDev s (streamUnblockOp n)
def execStreamClear (n : Nat) (s : State) := onDev s (streamClearOp n)
def execRecoveryResetTimeout (n : Nat) (s : State) := onDev s (recoveryResetTimeoutOp n)

end Sys2Proof.Machine
end

