-- ==== Sys2Proof/Machine/Ports.lean ====
section
/-! DEFINITION. Ports: link, hold, enable and drain, transmit disable, gate schedules (R116 to R119, R106, R137 to R140). -/

namespace Sys2Proof.Machine

/-! ### Link and hold (R106, R117, R118) -/

/-- LINK of Table 5.17: up, qualifying, down and held, or down; a held port that qualifies again reads 1 (DESIGN CHOICE, assumption 61). -/
def Dev.linkValue (d : Dev) (p : Nat) : Nat :=
  let l := d.sw.link p
  if l.up then 2 else if l.qualifying then 1 else if l.held then 3 else 0

/-- Copies of a port not in TX. -/
def Dev.waitingCopies (d : Dev) (p : Nat) : Nat := (d.sw.portCopies p fun x => x.state != .tx).length

/-- Every copy of the port not in TX is dropped and the latches clear. -/
def Dev.flushPort (d : Dev) (p : Nat) (w : Drop) : Dev :=
  (List.range 9).foldl (fun d c => (d.clearQueue p c w).setSw fun s =>
    { s with queues := KV.put ⟨[], false, 0, false⟩ (qKey p c) { s.queue p c with latched := false } s.queues }) d

/-- The hold of a port ends without its link: its copies are dropped with DROP_DOWN, HOLD_FLUSH is written, and its learned entries
are removed (R106, R118). -/
def Dev.holdFlush (d : Dev) (p : Nat) : Dev :=
  let n := d.waitingCopies p
  let d := (d.setLink p fun l => { l with held := false }).flushPort p .down
  (d.event (srcPort p) 0x0060 (min n 0xFFFFFFFF)).forget fun e => e.port == p

/-- Link conditions that the device's own state decides: the port, and on a host port its engine, ENABLED; on a gallery port the lane authenticated
(Table 5.4, R493), XPRESn_N and XLOSn of an X port low (R116). -/
def Dev.linkAllowed (d : Dev) (p : Nat) : Bool :=
  (d.sw.link p).pins == 0 &&
  !((portDomain p).any fun k => d.get (Ent.Dom.SOURCE k) == 0xFF) && d.get Ent.Pwr.PF_STATE == 0 && d.get (Ent.Port.STATE p) == 1 && (if 48 ≤ p ∧ p ≤ 51 then d.get (Ent.Heng.STATE (p - 48)) == 1 else true) &&
  (if 52 ≤ p then (KV.find (p - 52) d.twin.lanes).any (·.up) else true)

/-- The link conditions begin to hold and qualification starts, or starts again (R117); XPRESn_N and XLOSn are low then. -/
def linkQualifyStartOp (p : Nat) (d : Dev) : Dev :=
  let d := if (d.sw.link p).pins = 0 then d else d.setLink p fun l => { l with pins := 0 }
  if p < 54 ∧ d.linkAllowed p ∧ !(d.sw.link p).up then d.setLink p fun l => { l with qualifying := true } else d

/-- Qualification ends: link-up is reported; a running hold resumes its copies with HOLD_RESUME (R117, R106). -/
def linkUpOp (p : Nat) (d : Dev) : Dev :=
  let l := d.sw.link p
  if l.qualifying ∧ !l.up ∧ d.linkAllowed p then
    let d := (d.setLink p fun l => { l with up := true, qualifying := false, held := false }).event (srcPort p) 0x0062 (d.lineRate p)
    if l.held then d.event (srcPort p) 0x0061 (min (d.waitingCopies p) 0xFFFFFFFF) else d
  else d

/-- A link condition fails after a reported link-up (R117): the copy in TX is lost and the queues are held for HOLD_MS, or flushed
at once where it is 0 (R106). While the port drains, or on its way to DISABLED, no hold runs (R119). -/
def Dev.linkDown (d : Dev) (p : Nat) : Dev :=
  if (d.sw.link p).up then
    let d := d.setLink p fun l => { l with up := false, qualifying := false }
    let d := (List.range 9).foldl (fun d c => d.dropWhere p c .down fun x => x.state == .tx) d
    let d := (d.count (linkDowns p)).event (srcPort p) 0x0063 (d.waitingCopies p)
    if d.get (Ent.Port.STATE p) ≠ 1 then d
    else if d.get (Ent.Pcfg.HOLD_MS p) = 0 then d.holdFlush p
    else d.setLink p fun l => { l with held := true }
  else d.setLink p fun l => { l with qualifying := false }

/-- A hold expires before link-up (R106). -/
def holdExpiryOp (p : Nat) (d : Dev) : Dev := if (d.sw.link p).held then d.holdFlush p else d

/-! ### Enable, drain, transmit disable (R116, R119) -/

/-- XTXDISn is high while the X port is DISABLED and for 1 ms after a MODE change. -/
def Dev.xtxdis (d : Dev) (p : Nat) : Bool := d.get (Ent.Port.STATE p) == 0 || (d.sw.link p).modeWait

/-- Put out XTXDISn of an X port. -/
def Dev.driveXtxdis (d : Dev) (p : Nat) : Dev :=
  if 40 ≤ p ∧ p ≤ 47 then d.emit (.line "XTXDIS" (p - 40) (d.xtxdis p)) else d

/-- 1 ms after a MODE change of an X port. -/
def xtxdisReleaseOp (p : Nat) (d : Dev) : Dev :=
  if 40 ≤ p ∧ p ≤ 47 ∧ (d.sw.link p).modeWait then
    (d.setLink p fun l => { l with modeWait := false }).driveXtxdis p
  else d

/-- A port enters DRAINING: its queued copies are dropped with DROP_DISABLED; a hold ends with no HOLD_FLUSH, and then the port's
learned entries are removed (R119). -/
def Dev.portDraining (d : Dev) (p : Nat) : Dev :=
  let held := (d.sw.link p).held
  let d := (d.setLink p fun l => { l with held := false }).flushPort p .disabled
  if held then d.forget fun e => e.port == p else d

/-- A port has entered DISABLED: its link is down. -/
def Dev.portDisabled (d : Dev) (p : Nat) : Dev := (d.linkDown p).driveXtxdis p

/-- An APPLY has changed a port's configuration (R118, R116, R123): MODE, ROLE or AN retrains the link, MODE of an X port raises
XTXDIS for 1 ms, and the policer's bucket keeps its content `tokens`, cut to a smaller TCM_BURST. -/
def Dev.portApplied (d : Dev) (p tokens : Nat) (modeChanged roleChanged : Bool) : Dev :=
  let d := d.setLink p fun l => { l with bucket := some (min tokens (d.get (Ent.Pcfg.TCM_BURST p) * 8000000), d.time.raw) }
  let d := if modeChanged || roleChanged then d.linkDown p else d
  if modeChanged then (d.setLink p fun l => { l with modeWait := decide (40 ≤ p) && decide (p ≤ 47) }).driveXtxdis p else d

/-! ### Gate schedules (R137, R138, R140) -/

/-- The gates of a port become `g`: each that closes counts for R105, and a copy of its class still in TX counts in TX_OVERRUN
(R139). -/
def Dev.setGates (d : Dev) (p g : Nat) : Dev :=
  let old := (d.sw.sched p).gates
  let shut (k : Nat) : Bool := bit old k && !bit g k
  let d := d.setSched p fun x => { x with gates := g }
  (List.range 8).foldl (fun d k =>
    if shut k then
      let d := d.setSw fun w => w.setQueue p k { w.queue p k with window := (w.queue p k).window + 1 }
      match d.sw.txOf p with
      | some (c, _) => if c = k then d.count (txOverrun p) else d
      | none => d
    else d) d

/-- The interval of the entry being executed ends: the next entry, or the next cycle, unless that cycle is left out because the last
one is extended to a pending change time (R137, R138). -/
def gateIntervalEndOp (p : Nat) (d : Dev) : Dev :=
  let x := d.sw.sched p
  match x.oper with
  | none => d
  | some l =>
    let st := l.steps
    match st[x.pos + 1]? with
    | some (g, _) => (d.setSched p fun x => { x with pos := x.pos + 1 }).setGates p g
    | none =>
      let s := x.start + l.cycle
      if x.extendedAt s then d
      else (d.setSched p fun x => { x with pos := 0, start := s }).setGates p (((st[0]?).map (·.1)).getD x.gates)

/-- A pending list becomes operational, with GCL_CHANGE (R138); its gates follow. -/
def Dev.gclPromoted (d : Dev) (p : Nat) (m : GateList) : Dev :=
  (d.setSched p fun x => { x with oper := some m, pending := none, pos := 0, start := m.ct, changeNs := m.ct }).event (srcPort p) 0x0064 (m.ct % 2 ^ 32)

/-- The change time of a pending list is reached (R138). -/
def gclChangeOp (p : Nat) (d : Dev) : Dev :=
  match (d.sw.sched p).pending with
  | none => d
  | some m => (d.gclPromoted p m).setGates p (((m.steps[0]?).map (·.1)).getD 0xFF)

/-- The entries of a gate control list (Table 5.11): gates and interval in ns. -/
def gclEntries (b : Bytes) : List (Nat × Nat) :=
  (recordsOf 4 1024 b).map fun r => (leAt r 3 1, leAt r 0 3 * 8)

/-- An APPLY of 0x3540+p (R138). With GATE_ENABLE 0, CHANGE_NS keeps the change time of a pending list that is discarded (DESIGN CHOICE,
assumption 61). -/
def Dev.gclApplied (d : Dev) (p : Nat) : Dev :=
  if d.flag (Ent.Gcl.GATE_ENABLE p) then
    let a := d.now
    let base := d.get (Ent.Gcl.ADMIN_BASE_NS p)
    let cyc := d.get (Ent.Gcl.ADMIN_CYCLE_NS p)
    let ct := if a + 100000 ≤ base then base else base + (a + 100000 - base + cyc - 1) / cyc * cyc
    d.setSched p fun x => { x with
      pending := some ⟨base, cyc, d.get (Ent.Gcl.ADMIN_EXT_NS p), ct, gclEntries (d.oct (Ent.Gcl.ADMIN_GCL p))⟩, changeNs := ct }
  else
    (d.setSched p fun x => { x with oper := none, pending := none, pos := 0, start := 0 }).setGates p (d.get (Ent.Gcl.DEF_GATES p))

/-- Corrected time has stepped: the port finds its place from the new time; a change whose time has passed takes effect (R140). -/
def Dev.schedStepped (d : Dev) (p : Nat) : Dev :=
  let d := match (d.sw.sched p).pending with
    | some m => if m.ct ≤ d.now then d.gclPromoted p m else d
    | none => d
  match (d.sw.sched p).oper with
  | none => d
  | some l =>
    let off := (((d.now : Int) - l.base) % (l.cycle : Int)).toNat
    let st := l.steps
    let i := (st.takeWhile fun e => decide (e.2 ≤ off)).length
    (d.setSched p fun x => { x with pos := i, start := d.now - off }).setGates p (((st[i]?).map (·.1)).getD (d.sw.sched p).gates)

/-! ### Meanings -/

def execLinkQualifyStart (p : Nat) (s : State) := onDev s (linkQualifyStartOp p)
def execLinkUp (p : Nat) (s : State) := onDev s (linkUpOp p)
def execHoldExpiry (p : Nat) (s : State) := onDev s (holdExpiryOp p)
def execXtxdisRelease (p : Nat) (s : State) := onDev s (xtxdisReleaseOp p)
def execGateIntervalEnd (p : Nat) (s : State) := onDev s (gateIntervalEndOp p)
def execGclChange (p : Nat) (s : State) := onDev s (gclChangeOp p)

end Sys2Proof.Machine
end

