-- ==== Sys2Proof/Machine/RegTable.lean ====
section
/-! DEFINITION. The memory-mapped registers: one `RegRow` per field of the manual's register tables (columns Offset, Bits, Name,
Access, Reset). `dims` gives the instances as (count, stride) pairs, outermost first. Reserved bits have no row: they read as 0 and
ignore writes (R9). Tables 3.8, 3.9, 6.1, 7.2, 7.3, 7.5, 8.10, 9.7, 9.8, 10.3, 13.3, 14.4 to 14.6, 14.11, 15.6, 15.10, 16.5, 17.2,
17.3, 17.5, 17.8 and 20.4. -/

namespace Sys2Proof.Machine

/-- Table 3.8/3.9: registers at 0x1EF00000. -/
def regRowsMb : List RegRow := [
  ⟨0x1EF00000, [(256, 0x1000)], 0x0, 31, 24, .rw, 0⟩,
  ⟨0x1EF00000, [(256, 0x1000)], 0x0, 23, 16, .rw, 0⟩,
  ⟨0x1EF00000, [(256, 0x1000)], 0x0, 15, 0, .rw, 0⟩,
  ⟨0x1EF00000, [(256, 0x1000)], 0x4, 31, 31, .wo, 0⟩,
  ⟨0x1EF00000, [(256, 0x1000)], 0x4, 30, 30, .rw, 0⟩,
  ⟨0x1EF00000, [(256, 0x1000)], 0x4, 18, 18, .rw, 0⟩,
  ⟨0x1EF00000, [(256, 0x1000)], 0x4, 17, 17, .rw, 0⟩,
  ⟨0x1EF00000, [(256, 0x1000)], 0x4, 16, 16, .rw, 0⟩,
  ⟨0x1EF00000, [(256, 0x1000)], 0x4, 15, 0, .rw, 0⟩,
  ⟨0x1EF00000, [(256, 0x1000)], 0x18, 31, 31, .w1c, 0⟩,
  ⟨0x1EF00000, [(256, 0x1000)], 0x18, 30, 30, .ro, 0⟩,
  ⟨0x1EF00000, [(256, 0x1000)], 0x18, 29, 29, .w1c, 0⟩,
  ⟨0x1EF00000, [(256, 0x1000)], 0x18, 15, 0, .ro, 0⟩,
  ⟨0x1EF00000, [(256, 0x1000)], 0x8, 31, 0, .rw, 0⟩,
  ⟨0x1EF00000, [(256, 0x1000)], 0xC, 31, 0, .rw, 0⟩,
  ⟨0x1EF00000, [(256, 0x1000)], 0x10, 15, 0, .rw, 0⟩,
  ⟨0x1EF00000, [(256, 0x1000)], 0x14, 31, 0, .rw, 0⟩,
  ⟨0x1EF00000, [(256, 0x1000), (256, 0x4)], 0x400, 31, 0, .rw, 0⟩]

/-- Table 6.1: registers at 0x10100000. -/
def regRowsTb : List RegRow := [
  ⟨0x10100000, [], 0x0, 31, 0, .ro, 0⟩,
  ⟨0x10100000, [], 0x4, 31, 0, .ro, 0⟩,
  ⟨0x10100000, [], 0x8, 31, 0, .ro, 0⟩,
  ⟨0x10100000, [], 0xC, 31, 0, .ro, 0⟩,
  ⟨0x10100000, [], 0x10, 31, 24, .ro, 0⟩,
  ⟨0x10100000, [], 0x10, 15, 8, .ro, 0⟩,
  ⟨0x10100000, [], 0x10, 1, 0, .ro, 0⟩,
  ⟨0x10100000, [], 0x20, 31, 0, .ro, 0⟩,
  ⟨0x10100000, [], 0x24, 31, 0, .ro, 0⟩,
  ⟨0x10100000, [], 0x28, 31, 0, .ro, 0⟩,
  ⟨0x10100000, [], 0x2C, 31, 0, .ro, 0⟩,
  ⟨0x10100000, [], 0x30, 31, 0, .ro, 0⟩,
  ⟨0x10100000, [], 0x40, 31, 0, .rw, 0⟩,
  ⟨0x10100000, [], 0x44, 31, 0, .rw, 0⟩,
  ⟨0x10100000, [], 0x48, 31, 0, .rw, 0⟩,
  ⟨0x10100000, [], 0x4C, 31, 31, .wo, 0⟩,
  ⟨0x10100000, [], 0x4C, 30, 30, .w1c, 0⟩,
  ⟨0x10100000, [], 0x4C, 6, 6, .rw, 0⟩,
  ⟨0x10100000, [], 0x4C, 5, 4, .rw, 0⟩,
  ⟨0x10100000, [], 0x4C, 1, 1, .rw, 0⟩,
  ⟨0x10100000, [], 0x4C, 0, 0, .rw, 0⟩,
  ⟨0x10100000, [(4, 0x10)], 0x100, 31, 0, .rc, 0⟩,
  ⟨0x10100000, [(4, 0x10)], 0x104, 31, 31, .ro, 0⟩,
  ⟨0x10100000, [(4, 0x10)], 0x104, 30, 30, .w1c, 0⟩,
  ⟨0x10100000, [(4, 0x10)], 0x104, 16, 16, .ro, 0⟩,
  ⟨0x10100000, [(4, 0x10)], 0x104, 15, 8, .ro, 0⟩,
  ⟨0x10100000, [(4, 0x10)], 0x104, 7, 0, .ro, 0⟩]

/-- Table 7.2: registers at 0x10400400. -/
def regRowsTxb : List RegRow := [
  ⟨0x10400400, [(16, 0x4000), (3, 0x80)], 0x0, 31, 31, .wo, 0⟩,
  ⟨0x10400400, [(16, 0x4000), (3, 0x80)], 0x0, 30, 30, .wo, 0⟩,
  ⟨0x10400400, [(16, 0x4000), (3, 0x80)], 0x0, 29, 29, .rw, 0⟩,
  ⟨0x10400400, [(16, 0x4000), (3, 0x80)], 0x0, 28, 28, .rw, 0⟩,
  ⟨0x10400400, [(16, 0x4000), (3, 0x80)], 0x0, 15, 0, .rw, 0⟩,
  ⟨0x10400400, [(16, 0x4000), (3, 0x80)], 0x4, 29, 29, .rw, 0⟩,
  ⟨0x10400400, [(16, 0x4000), (3, 0x80)], 0x4, 28, 0, .rw, 0⟩,
  ⟨0x10400400, [(16, 0x4000), (3, 0x80)], 0x8, 7, 7, .rw, 0⟩,
  ⟨0x10400400, [(16, 0x4000), (3, 0x80)], 0x8, 6, 6, .rw, 0⟩,
  ⟨0x10400400, [(16, 0x4000), (3, 0x80)], 0x8, 5, 5, .rw, 0⟩,
  ⟨0x10400400, [(16, 0x4000), (3, 0x80)], 0x8, 3, 0, .rw, 0⟩,
  ⟨0x10400400, [(16, 0x4000), (3, 0x80)], 0xC, 31, 16, .ro, 0⟩,
  ⟨0x10400400, [(16, 0x4000), (3, 0x80)], 0xC, 15, 15, .ro, 0⟩,
  ⟨0x10400400, [(16, 0x4000), (3, 0x80)], 0xC, 14, 14, .w1c, 0⟩,
  ⟨0x10400400, [(16, 0x4000), (3, 0x80)], 0xC, 13, 13, .w1c, 0⟩,
  ⟨0x10400400, [(16, 0x4000), (3, 0x80)], 0xC, 11, 8, .ro, 0⟩,
  ⟨0x10400400, [(16, 0x4000), (3, 0x80)], 0xC, 7, 0, .ro, 0⟩,
  ⟨0x10400400, [(16, 0x4000), (3, 0x80)], 0x10, 31, 0, .ro, 0⟩,
  ⟨0x10400400, [(16, 0x4000), (3, 0x80)], 0x14, 31, 24, .ro, 0⟩,
  ⟨0x10400400, [(16, 0x4000), (3, 0x80)], 0x14, 23, 16, .ro, 0⟩,
  ⟨0x10400400, [(16, 0x4000), (3, 0x80), (16, 0x4)], 0x20, 31, 0, .rw, 0⟩]

/-- Table 7.3: registers at 0x10401000. -/
def regRowsObj : List RegRow := [
  ⟨0x10401000, [(16, 0x4000), (64, 0x80)], 0x0, 31, 31, .ro, 0⟩,
  ⟨0x10401000, [(16, 0x4000), (64, 0x80)], 0x0, 30, 30, .ro, 0⟩,
  ⟨0x10401000, [(16, 0x4000), (64, 0x80)], 0x0, 29, 29, .ro, 0⟩,
  ⟨0x10401000, [(16, 0x4000), (64, 0x80)], 0x0, 28, 28, .ro, 0⟩,
  ⟨0x10401000, [(16, 0x4000), (64, 0x80)], 0x0, 27, 27, .ro, 0⟩,
  ⟨0x10401000, [(16, 0x4000), (64, 0x80)], 0x0, 26, 26, .ro, 0⟩,
  ⟨0x10401000, [(16, 0x4000), (64, 0x80)], 0x0, 25, 25, .ro, 0⟩,
  ⟨0x10401000, [(16, 0x4000), (64, 0x80)], 0x0, 19, 16, .ro, 0⟩,
  ⟨0x10401000, [(16, 0x4000), (64, 0x80)], 0x0, 15, 8, .ro, 0⟩,
  ⟨0x10401000, [(16, 0x4000), (64, 0x80)], 0x4, 28, 0, .ro, 0⟩,
  ⟨0x10401000, [(16, 0x4000), (64, 0x80)], 0x8, 31, 0, .ro, 0⟩,
  ⟨0x10401000, [(16, 0x4000), (64, 0x80)], 0xC, 31, 24, .ro, 0⟩,
  ⟨0x10401000, [(16, 0x4000), (64, 0x80)], 0xC, 23, 16, .ro, 0⟩,
  ⟨0x10401000, [(16, 0x4000), (64, 0x80)], 0xC, 15, 0, .ro, 0⟩,
  ⟨0x10401000, [(16, 0x4000), (64, 0x80), (16, 0x4)], 0x10, 31, 0, .ro, 0⟩,
  ⟨0x10401000, [(16, 0x4000), (64, 0x80)], 0x50, 31, 31, .ro, 0⟩,
  ⟨0x10401000, [(16, 0x4000), (64, 0x80)], 0x50, 15, 0, .ro, 0⟩]

/-- Table 7.5: registers at 0x10400000. -/
def regRowsCh : List RegRow := [
  ⟨0x10400000, [(16, 0x4000)], 0x0, 31, 24, .ro, 0⟩,
  ⟨0x10400000, [(16, 0x4000)], 0x0, 23, 16, .ro, 0⟩,
  ⟨0x10400000, [(16, 0x4000)], 0x0, 9, 8, .ro, 3⟩,
  ⟨0x10400000, [(16, 0x4000)], 0x0, 7, 4, .ro, 0⟩,
  ⟨0x10400000, [(16, 0x4000)], 0x0, 1, 0, .ro, 0⟩,
  ⟨0x10400000, [(16, 0x4000)], 0x4, 16, 0, .w1c, 0⟩,
  ⟨0x10400000, [(16, 0x4000)], 0x8, 16, 0, .rw, 0⟩,
  ⟨0x10400000, [(16, 0x4000)], 0xC, 31, 31, .wo, 0⟩,
  ⟨0x10400000, [(16, 0x4000)], 0x10, 31, 0, .ro, 0⟩,
  ⟨0x10400000, [(16, 0x4000)], 0x14, 31, 0, .ro, 0⟩,
  ⟨0x10400000, [(16, 0x4000)], 0x18, 31, 0, .ro, 0⟩,
  ⟨0x10400000, [(16, 0x4000)], 0x1C, 31, 0, .ro, 0⟩,
  ⟨0x10400000, [(16, 0x4000)], 0x20, 31, 31, .w1c, 0⟩,
  ⟨0x10400000, [(16, 0x4000)], 0x20, 5, 0, .ro, 0⟩,
  ⟨0x10400000, [(16, 0x4000)], 0x30, 15, 0, .rw, 0⟩,
  ⟨0x10400000, [(16, 0x4000)], 0x34, 31, 0, .ro, 0⟩,
  ⟨0x10400000, [(16, 0x4000)], 0x38, 31, 0, .ro, 0⟩,
  ⟨0x10400000, [(16, 0x4000)], 0x3C, 31, 0, .ro, 0⟩,
  ⟨0x10400000, [(16, 0x4000)], 0x40, 15, 0, .ro, 0⟩]

/-- Table 8.10: registers at 0x10600000. -/
def regRowsSlpr : List RegRow := [
  ⟨0x10600000, [], 0x0, 31, 0, .rw, 0⟩,
  ⟨0x10600000, [], 0x4, 31, 0, .ro, 0⟩,
  ⟨0x10600000, [], 0x8, 17, 0, .wo, 0⟩,
  ⟨0x10600000, [], 0xC, 17, 0, .ro, 0⟩,
  ⟨0x10600000, [(16, 0x4)], 0x100, 23, 20, .ro, 0⟩,
  ⟨0x10600000, [(16, 0x4)], 0x100, 8, 8, .w1c, 0⟩,
  ⟨0x10600000, [(16, 0x4)], 0x100, 2, 0, .wo, 0⟩]

/-- Table 9.7: registers at 0x10800000. -/
def regRowsCtx : List RegRow := [
  ⟨0x10800000, [(4, 0x40000), (64, 0x1000)], 0x0, 31, 31, .wo, 0⟩,
  ⟨0x10800000, [(4, 0x40000), (64, 0x1000)], 0x0, 30, 30, .wo, 0⟩,
  ⟨0x10800000, [(4, 0x40000), (64, 0x1000)], 0x0, 16, 16, .rw, 0⟩,
  ⟨0x10800000, [(4, 0x40000), (64, 0x1000)], 0x0, 15, 0, .rw, 0⟩,
  ⟨0x10800000, [(4, 0x40000), (64, 0x1000)], 0x4, 31, 31, .w1c, 0⟩,
  ⟨0x10800000, [(4, 0x40000), (64, 0x1000)], 0x4, 30, 30, .ro, 0⟩,
  ⟨0x10800000, [(4, 0x40000), (64, 0x1000)], 0x4, 29, 29, .w1c, 0⟩,
  ⟨0x10800000, [(4, 0x40000), (64, 0x1000)], 0x4, 15, 0, .ro, 0⟩,
  ⟨0x10800000, [(4, 0x40000), (64, 0x1000)], 0x8, 31, 31, .w1c, 0⟩,
  ⟨0x10800000, [(4, 0x40000), (64, 0x1000)], 0x8, 30, 30, .w1c, 0⟩,
  ⟨0x10800000, [(4, 0x40000), (64, 0x1000)], 0x8, 15, 0, .ro, 0⟩,
  ⟨0x10800000, [(4, 0x40000), (64, 0x1000)], 0xC, 15, 0, .ro, 0⟩,
  ⟨0x10800000, [(4, 0x40000), (64, 0x1000)], 0x10, 31, 0, .ro, 0⟩,
  ⟨0x10800000, [(4, 0x40000), (64, 0x1000)], 0x14, 7, 0, .ro, 0⟩,
  ⟨0x10800000, [(4, 0x40000), (64, 0x1000)], 0x18, 31, 0, .ro, 0⟩,
  ⟨0x10800000, [(4, 0x40000), (64, 0x1000)], 0x1C, 31, 0, .ro, 0⟩,
  ⟨0x10800000, [(4, 0x40000), (64, 0x1000)], 0x20, 31, 0, .rw, 0⟩,
  ⟨0x10800000, [(4, 0x40000), (64, 0x1000)], 0x24, 31, 0, .wo, 0⟩,
  ⟨0x10800000, [(4, 0x40000), (64, 0x1000)], 0x28, 3, 2, .ro, 0⟩,
  ⟨0x10800000, [(4, 0x40000), (64, 0x1000)], 0x28, 1, 0, .ro, 0⟩,
  ⟨0x10800000, [(4, 0x40000), (64, 0x1000)], 0x2C, 2, 0, .w1c, 0⟩,
  ⟨0x10800000, [(4, 0x40000), (64, 0x1000)], 0x30, 2, 0, .rw, 0⟩,
  ⟨0x10800000, [(4, 0x40000), (64, 0x1000)], 0x40, 31, 31, .ro, 0⟩,
  ⟨0x10800000, [(4, 0x40000), (64, 0x1000)], 0x40, 30, 30, .w1c, 0⟩,
  ⟨0x10800000, [(4, 0x40000), (64, 0x1000)], 0x40, 22, 16, .ro, 0⟩,
  ⟨0x10800000, [(4, 0x40000), (64, 0x1000)], 0x40, 15, 0, .ro, 0⟩,
  ⟨0x10800000, [(4, 0x40000), (64, 0x1000)], 0x44, 31, 0, .ro, 0⟩,
  ⟨0x10800000, [(4, 0x40000), (64, 0x1000)], 0x48, 7, 0, .ro, 0⟩,
  ⟨0x10800000, [(4, 0x40000), (64, 0x1000)], 0x4C, 31, 0, .ro, 0⟩,
  ⟨0x10800000, [(4, 0x40000), (64, 0x1000), (16, 0x4)], 0x80, 31, 0, .ro, 0⟩]

/-- Table 9.8: registers at 0x10900000. -/
def regRowsEp : List RegRow := [
  ⟨0x10900000, [(4, 0x4000), (1024, 0x10)], 0x0, 31, 0, .w1c, 0⟩,
  ⟨0x10900000, [(4, 0x4000), (1024, 0x10)], 0x4, 31, 0, .ro, 0⟩,
  ⟨0x10900000, [(4, 0x4000), (1024, 0x10)], 0x8, 31, 31, .w1c, 0⟩,
  ⟨0x10900000, [(4, 0x4000), (1024, 0x10)], 0x8, 30, 30, .w1c, 0⟩,
  ⟨0x10900000, [(4, 0x4000), (1024, 0x10)], 0x8, 15, 0, .ro, 0⟩,
  ⟨0x10900000, [(4, 0x4000), (1024, 0x10)], 0xC, 31, 0, .ro, 0⟩]

/-- Table 10.3: registers at 0x10A00000. -/
def regRowsSer : List RegRow := [
  ⟨0x10A00000, [], 0x0, 5, 0, .wo, 0⟩,
  ⟨0x10A00000, [], 0x4, 15, 0, .wo, 0⟩,
  ⟨0x10A00000, [], 0x8, 2, 0, .ro, 0⟩,
  ⟨0x10A00000, [(16, 0x4)], 0x10, 31, 31, .ro, 0⟩,
  ⟨0x10A00000, [(16, 0x4)], 0x10, 13, 8, .ro, 0⟩,
  ⟨0x10A00000, [(16, 0x4)], 0x10, 3, 0, .ro, 0⟩]

/-- Table 13.3: registers at 0x10C00000. -/
def regRowsAdcr : List RegRow := [
  ⟨0x10C00000, [(2, 0x1000)], 0x0, 31, 31, .ro, 0⟩,
  ⟨0x10C00000, [(2, 0x1000)], 0x0, 10, 8, .ro, 0⟩,
  ⟨0x10C00000, [(2, 0x1000)], 0x0, 7, 0, .ro, 0⟩,
  ⟨0x10C00000, [(2, 0x1000)], 0x4, 7, 0, .wo, 0⟩,
  ⟨0x10C00000, [(2, 0x1000)], 0x8, 15, 0, .w1c, 0⟩,
  ⟨0x10C00000, [(2, 0x1000)], 0xC, 15, 0, .rw, 0⟩,
  ⟨0x10C00000, [(2, 0x1000), (8, 0x40)], 0x100, 31, 16, .ro, 0⟩,
  ⟨0x10C00000, [(2, 0x1000), (8, 0x40)], 0x100, 15, 15, .ro, 0⟩,
  ⟨0x10C00000, [(2, 0x1000), (8, 0x40)], 0x100, 12, 8, .ro, 0⟩,
  ⟨0x10C00000, [(2, 0x1000), (8, 0x40)], 0x100, 7, 0, .ro, 0⟩,
  ⟨0x10C00000, [(2, 0x1000), (8, 0x40)], 0x104, 31, 0, .ro, 0⟩,
  ⟨0x10C00000, [(2, 0x1000), (8, 0x40), (8, 0x4)], 0x110, 31, 16, .ro, 0⟩,
  ⟨0x10C00000, [(2, 0x1000), (8, 0x40), (8, 0x4)], 0x110, 15, 0, .ro, 0⟩]

/-- Table 14.4: registers at 0x10000000. -/
def regRowsSrc : List RegRow := [
  ⟨0x10000000, [(512, 0x4)], 0x0, 31, 31, .ro, 0⟩,
  ⟨0x10000000, [(512, 0x4)], 0x0, 30, 30, .ro, 0⟩,
  ⟨0x10000000, [(512, 0x4)], 0x0, 29, 29, .rw, 0⟩,
  ⟨0x10000000, [(512, 0x4)], 0x0, 28, 28, .const, 0⟩,
  ⟨0x10000000, [(512, 0x4)], 0x0, 27, 24, .rw, 0⟩,
  ⟨0x10000000, [(512, 0x4)], 0x0, 19, 16, .rw, 0⟩,
  ⟨0x10000000, [(512, 0x4)], 0x0, 15, 0, .rw, 0⟩]

/-- Table 14.5: registers at 0x10010000. -/
def regRowsCpg : List RegRow := [
  ⟨0x10010000, [(12, 0x1000)], 0x0, 8, 0, .rc, 0⟩,
  ⟨0x10010000, [(12, 0x1000)], 0x4, 8, 0, .wo, 0⟩,
  ⟨0x10010000, [(12, 0x1000)], 0x8, 2, 2, .ro, 0⟩,
  ⟨0x10010000, [(12, 0x1000)], 0x8, 1, 1, .w1c, 0⟩,
  ⟨0x10010000, [(12, 0x1000)], 0x8, 0, 0, .w1c, 0⟩,
  ⟨0x10010000, [(12, 0x1000)], 0xC, 11, 8, .ro, 0⟩,
  ⟨0x10010000, [(12, 0x1000)], 0xC, 7, 4, .ro, 0⟩,
  ⟨0x10010000, [(12, 0x1000)], 0xC, 3, 0, .rw, 0⟩,
  ⟨0x10010000, [(12, 0x1000), (8, 0x4)], 0x10, 12, 4, .ro, 0⟩,
  ⟨0x10010000, [(12, 0x1000), (8, 0x4)], 0x10, 3, 0, .ro, 0⟩]

/-- Table 14.6: registers at 0x10000800. -/
def regRowsDb : List RegRow := [
  ⟨0x10000800, [], 0x0, 3, 0, .wo, 0⟩]

/-- Table 15.6: registers at 0x10200000. -/
def regRowsDmar : List RegRow := [
  ⟨0x10200000, [(64, 0x1000)], 0x0, 31, 5, .rw, 0⟩,
  ⟨0x10200000, [(64, 0x1000)], 0x4, 7, 0, .rw, 0⟩,
  ⟨0x10200000, [(64, 0x1000)], 0x8, 3, 0, .rw, 2⟩,
  ⟨0x10200000, [(64, 0x1000)], 0xC, 11, 0, .rw, 0⟩,
  ⟨0x10200000, [(64, 0x1000)], 0x10, 11, 0, .ro, 0⟩,
  ⟨0x10200000, [(64, 0x1000)], 0x14, 31, 31, .ro, 0⟩,
  ⟨0x10200000, [(64, 0x1000)], 0x14, 30, 30, .ro, 0⟩,
  ⟨0x10200000, [(64, 0x1000)], 0x14, 29, 29, .ro, 0⟩,
  ⟨0x10200000, [(64, 0x1000)], 0x14, 28, 28, .ro, 0⟩,
  ⟨0x10200000, [(64, 0x1000)], 0x14, 15, 0, .ro, 0⟩,
  ⟨0x10200000, [(64, 0x1000)], 0x18, 31, 0, .ro, 0⟩,
  ⟨0x10200000, [(64, 0x1000)], 0x1C, 31, 0, .ro, 0⟩,
  ⟨0x10200000, [(64, 0x1000)], 0x20, 27, 16, .ro, 0⟩,
  ⟨0x10200000, [(64, 0x1000)], 0x20, 15, 15, .ro, 0⟩,
  ⟨0x10200000, [(64, 0x1000)], 0x20, 14, 14, .ro, 0⟩,
  ⟨0x10200000, [(64, 0x1000)], 0x24, 24, 0, .ro, 0⟩,
  ⟨0x10200000, [(64, 0x1000)], 0x28, 1, 1, .wo, 0⟩,
  ⟨0x10200000, [(64, 0x1000)], 0x28, 0, 0, .wo, 0⟩,
  ⟨0x10200000, [(64, 0x1000)], 0x2C, 0, 0, .rw, 0⟩,
  ⟨0x10200000, [(64, 0x1000)], 0x30, 31, 12, .rw, 0⟩,
  ⟨0x10200000, [(64, 0x1000)], 0x34, 7, 0, .rw, 0⟩,
  ⟨0x10200000, [(64, 0x1000)], 0x38, 0, 0, .wo, 0⟩,
  ⟨0x10200000, [(64, 0x1000)], 0x3C, 3, 0, .w1c, 0⟩,
  ⟨0x10200000, [(64, 0x1000)], 0x40, 3, 0, .rw, 0⟩]

/-- Table 15.10: registers at 0x10300000. -/
def regRowsQpr : List RegRow := [
  ⟨0x10300000, [(256, 0x1000)], 0x0, 31, 4, .rw, 0⟩,
  ⟨0x10300000, [(256, 0x1000)], 0x4, 7, 0, .rw, 0⟩,
  ⟨0x10300000, [(256, 0x1000)], 0x8, 31, 4, .rw, 0⟩,
  ⟨0x10300000, [(256, 0x1000)], 0xC, 7, 0, .rw, 0⟩,
  ⟨0x10300000, [(256, 0x1000)], 0x10, 31, 4, .rw, 0⟩,
  ⟨0x10300000, [(256, 0x1000)], 0x14, 7, 0, .rw, 0⟩,
  ⟨0x10300000, [(256, 0x1000)], 0x18, 11, 8, .rw, 2⟩,
  ⟨0x10300000, [(256, 0x1000)], 0x18, 7, 4, .rw, 2⟩,
  ⟨0x10300000, [(256, 0x1000)], 0x18, 3, 0, .rw, 2⟩,
  ⟨0x10300000, [(256, 0x1000)], 0x1C, 27, 16, .ro, 0⟩,
  ⟨0x10300000, [(256, 0x1000)], 0x1C, 11, 0, .rw, 0⟩,
  ⟨0x10300000, [(256, 0x1000)], 0x20, 27, 16, .ro, 0⟩,
  ⟨0x10300000, [(256, 0x1000)], 0x20, 11, 0, .rw, 0⟩,
  ⟨0x10300000, [(256, 0x1000)], 0x24, 27, 16, .ro, 0⟩,
  ⟨0x10300000, [(256, 0x1000)], 0x24, 11, 0, .rw, 0⟩,
  ⟨0x10300000, [(256, 0x1000)], 0x28, 3, 0, .w1c, 0⟩,
  ⟨0x10300000, [(256, 0x1000)], 0x2C, 3, 0, .rw, 0⟩]

/-- Table 16.5: registers at 0x10E00000. -/
def regRowsHpg : List RegRow := [
  ⟨0x10E00000, [(256, 0x1000)], 0x0, 9, 8, .w1c, 0⟩,
  ⟨0x10E00000, [(256, 0x1000)], 0x0, 7, 0, .ro, 0⟩,
  ⟨0x10E00000, [(256, 0x1000)], 0x4, 9, 0, .rw, 0⟩,
  ⟨0x10E00000, [(256, 0x1000)], 0x8, 31, 4, .rw, 0⟩,
  ⟨0x10E00000, [(256, 0x1000)], 0xC, 7, 0, .rw, 0⟩,
  ⟨0x10E00000, [(256, 0x1000)], 0x10, 31, 31, .rw, 0⟩,
  ⟨0x10E00000, [(256, 0x1000)], 0x10, 3, 0, .rw, 4⟩,
  ⟨0x10E00000, [(256, 0x1000)], 0x14, 15, 0, .ro, 0⟩,
  ⟨0x10E00000, [(256, 0x1000)], 0x18, 15, 0, .rw, 0⟩,
  ⟨0x10E00000, [(256, 0x1000)], 0x1C, 0, 0, .wo, 0⟩,
  ⟨0x10E00000, [(256, 0x1000)], 0x20, 31, 24, .ro, 0⟩,
  ⟨0x10E00000, [(256, 0x1000)], 0x20, 18, 16, .ro, 1⟩,
  ⟨0x10E00000, [(256, 0x1000)], 0x20, 15, 0, .ro, 0⟩,
  ⟨0x10E00000, [(256, 0x1000)], 0x24, 0, 0, .wo, 0⟩]

/-- Table 17.2: registers at 0x1F000000. -/
def regRowsWm : List RegRow := [
  ⟨0x1F000000, [(3, 0x4)], 0x0, 31, 31, .ro, 0⟩,
  ⟨0x1F000000, [(3, 0x4)], 0x0, 19, 0, .rws, 1048575⟩,
  ⟨0x1F000000, [(3, 0x4)], 0x0, 30, 30, .w1c, 0⟩]

/-- Table 17.3: registers at 0x1F010000. -/
def regRowsLsr : List RegRow := [
  ⟨0x1F010000, [(64, 0x4)], 0x0, 31, 31, .rws, 0⟩,
  ⟨0x1F010000, [(64, 0x4)], 0x0, 30, 30, .w1c, 0⟩,
  ⟨0x1F010000, [(64, 0x4)], 0x0, 9, 0, .rws, 0⟩]

/-- Table 17.5: registers at 0x1F020000. -/
def regRowsCry : List RegRow := [
  ⟨0x1F020000, [], 0x0, 31, 6, .rws, 0⟩,
  ⟨0x1F020000, [], 0x4, 7, 0, .rws, 0⟩,
  ⟨0x1F020000, [], 0x8, 3, 0, .rws, 2⟩,
  ⟨0x1F020000, [], 0xC, 9, 0, .rws, 0⟩,
  ⟨0x1F020000, [], 0x10, 9, 0, .ro, 0⟩,
  ⟨0x1F020000, [], 0x14, 31, 31, .ro, 0⟩,
  ⟨0x1F020000, [], 0x14, 15, 0, .ro, 0⟩,
  ⟨0x1F020000, [], 0x18, 1, 0, .w1c, 0⟩,
  ⟨0x1F020000, [], 0x1C, 1, 0, .rws, 0⟩]

/-- Table 17.8: registers at 0x1F030000. -/
def regRowsSwd : List RegRow := [
  ⟨0x1F030000, [], 0x0, 31, 31, .rws, 0⟩,
  ⟨0x1F030000, [], 0x0, 30, 30, .rws, 0⟩,
  ⟨0x1F030000, [], 0x0, 15, 0, .rws, 2000⟩,
  ⟨0x1F030000, [], 0x4, 31, 0, .wo, 0⟩,
  ⟨0x1F030000, [], 0x8, 15, 0, .ro, 0⟩]

/-- Table 20.4: registers at 0x10F00000. -/
def regRowsStg : List RegRow := [
  ⟨0x10F00000, [(256, 0x1000)], 0x0, 31, 5, .rw, 0⟩,
  ⟨0x10F00000, [(256, 0x1000)], 0x4, 7, 0, .rw, 0⟩,
  ⟨0x10F00000, [(256, 0x1000)], 0x8, 3, 0, .rw, 2⟩,
  ⟨0x10F00000, [(256, 0x1000)], 0xC, 9, 0, .rw, 0⟩,
  ⟨0x10F00000, [(256, 0x1000)], 0x10, 9, 0, .ro, 0⟩,
  ⟨0x10F00000, [(256, 0x1000)], 0x14, 31, 31, .ro, 0⟩,
  ⟨0x10F00000, [(256, 0x1000)], 0x14, 30, 30, .ro, 0⟩,
  ⟨0x10F00000, [(256, 0x1000)], 0x14, 15, 0, .ro, 0⟩,
  ⟨0x10F00000, [(256, 0x1000)], 0x18, 1, 0, .w1c, 0⟩,
  ⟨0x10F00000, [(256, 0x1000)], 0x1C, 1, 0, .rw, 0⟩]

/-- Table 3.8/3.9: registers at 0x1FF00000. -/
def regRowsSmb : List RegRow := [
  ⟨0x1FF00000, [], 0x0, 31, 24, .rw, 0⟩,
  ⟨0x1FF00000, [], 0x0, 23, 16, .rw, 0⟩,
  ⟨0x1FF00000, [], 0x0, 15, 0, .rw, 0⟩,
  ⟨0x1FF00000, [], 0x4, 31, 31, .wo, 0⟩,
  ⟨0x1FF00000, [], 0x4, 30, 30, .rw, 0⟩,
  ⟨0x1FF00000, [], 0x4, 18, 18, .rw, 0⟩,
  ⟨0x1FF00000, [], 0x4, 17, 17, .rw, 0⟩,
  ⟨0x1FF00000, [], 0x4, 16, 16, .rw, 0⟩,
  ⟨0x1FF00000, [], 0x4, 15, 0, .rw, 0⟩,
  ⟨0x1FF00000, [], 0x18, 31, 31, .w1c, 0⟩,
  ⟨0x1FF00000, [], 0x18, 30, 30, .ro, 0⟩,
  ⟨0x1FF00000, [], 0x18, 29, 29, .w1c, 0⟩,
  ⟨0x1FF00000, [], 0x18, 15, 0, .ro, 0⟩,
  ⟨0x1FF00000, [], 0x8, 31, 0, .rw, 0⟩,
  ⟨0x1FF00000, [], 0xC, 31, 0, .rw, 0⟩,
  ⟨0x1FF00000, [], 0x10, 15, 0, .rw, 0⟩,
  ⟨0x1FF00000, [], 0x14, 31, 0, .rw, 0⟩,
  ⟨0x1FF00000, [(256, 0x4)], 0x400, 31, 0, .rw, 0⟩]

/-- Table 14.11: registers at 0x10000C00. -/
def regRowsPlat : List RegRow := [
  ⟨0x10000C00, [(10, 0x8)], 0x0, 31, 0, .w1c, 0⟩,
  ⟨0x10000C00, [(10, 0x8)], 0x4, 31, 0, .rw, 0⟩]

/-- Table 17 R414: registers at 0x1F050000. -/
def regRowsM0Src : List RegRow := [
  ⟨0x1F050000, [(64, 0x4)], 0x0, 31, 31, .ro, 0⟩,
  ⟨0x1F050000, [(64, 0x4)], 0x0, 30, 30, .ro, 0⟩,
  ⟨0x1F050000, [(64, 0x4)], 0x0, 29, 29, .rw, 0⟩,
  ⟨0x1F050000, [(64, 0x4)], 0x0, 28, 28, .const, 0⟩,
  ⟨0x1F050000, [(64, 0x4)], 0x0, 27, 24, .rw, 0⟩,
  ⟨0x1F050000, [(64, 0x4)], 0x0, 19, 16, .rw, 0⟩,
  ⟨0x1F050000, [(64, 0x4)], 0x0, 15, 0, .rw, 0⟩]

/-- Table 17 R414: registers at 0x1F051000. -/
def regRowsM0Cpg : List RegRow := [
  ⟨0x1F051000, [], 0x0, 8, 0, .rc, 0⟩,
  ⟨0x1F051000, [], 0x4, 8, 0, .wo, 0⟩,
  ⟨0x1F051000, [], 0x8, 2, 2, .ro, 0⟩,
  ⟨0x1F051000, [], 0x8, 1, 1, .w1c, 0⟩,
  ⟨0x1F051000, [], 0x8, 0, 0, .w1c, 0⟩,
  ⟨0x1F051000, [], 0xC, 11, 8, .ro, 0⟩,
  ⟨0x1F051000, [], 0xC, 7, 4, .ro, 0⟩,
  ⟨0x1F051000, [], 0xC, 3, 0, .rw, 0⟩,
  ⟨0x1F051000, [(8, 0x4)], 0x10, 12, 4, .ro, 0⟩,
  ⟨0x1F051000, [(8, 0x4)], 0x10, 3, 0, .ro, 0⟩]

/-- Every register field. -/
def regRows : List RegRow :=
  regRowsMb ++
  regRowsTb ++
  regRowsTxb ++
  regRowsObj ++
  regRowsCh ++
  regRowsSlpr ++
  regRowsCtx ++
  regRowsEp ++
  regRowsSer ++
  regRowsAdcr ++
  regRowsSrc ++
  regRowsCpg ++
  regRowsDb ++
  regRowsDmar ++
  regRowsQpr ++
  regRowsHpg ++
  regRowsWm ++
  regRowsLsr ++
  regRowsCry ++
  regRowsSwd ++
  regRowsStg ++
  regRowsSmb ++
  regRowsPlat ++
  regRowsM0Src ++
  regRowsM0Cpg

end Sys2Proof.Machine
end

