-- ==== Sys2Proof/Machine/Gallery.lean ====
section
/-! DEFINITION. The twin unit's control messages, roles, FAULT_N and replication (R490, R491, R495 to R498, R501). The commands of chapter 22
build on these. -/

namespace Sys2Proof.Machine

/-! ### Events and roles -/

/-- PROMOTIONS 0 to REPL_LATE 6 (Table 22.12). -/
def twinCounter (i : Nat) : Counter := ⟨⟨0x4C01, 0x10 + i, 64, 0⟩, Ent.Tws.COUNTER_SAT, i, srcTwin⟩

/-- An event of Table 22.13: device log, hall 0's ring, source 73 (R512). -/
def Dev.twinEvent (d : Dev) (code data : Nat) : Dev := (d.eventSys 4 srcTwin code data).eventRing 0 srcTwin code data

def Dev.role (d : Dev) : Nat := d.get Ent.Tws.ROLE

/-- The role changes, with ROLE_CHANGE. -/
def Dev.setRole (d : Dev) (r : Nat) : Dev :=
  if d.role = r then d else (d.put Ent.Tws.ROLE r).twinEvent 0x0020 (d.role * 256 + r)

/-! ### FAULT_N (Table 22.2) -/

/-- A cause of FAULT_N stands, by its row. -/
def Dev.faultStands (d : Dev) (row : Nat) : Bool :=
  match row with
  | 1 => d.power.phase != .running
  | 2 => d.get Ent.Pwr.PF_STATE != 0
  | 3 => d.supply.fault
  | 4 => d.flag Ent.Clk.REF_LOSS
  | 5 => d.twin.live
  | 6 => d.twin.scan
  | _ => false

/-- FAULT_N follows its causes; a device in role ACTIVE that drives it low steps down (R490, R491): it applies open as its safe values, takes
role DETACHED and writes STEP_DOWN with the row. -/
def Dev.faultRefresh (d : Dev) : Dev :=
  match ([1, 2, 3, 4, 5, 6] : List Nat).find? d.faultStands with
  | none => if d.twin.low then (d.setTwin fun t => { t with low := false }).emit (.line "FAULT_N" 0 true) else d
  | some row =>
    if d.twin.low then d
    else
      let d := (d.setTwin fun t => { t with low := true }).emit (.line "FAULT_N" 0 false)
      if d.role = 1 then ((d.setRole 5).engineSafe).twinEvent 0x0027 row else d

/-! ### Paths and lanes -/

/-- A bit of PATHS (Table 22.12): 0 heartbeats, 1 TWIN_ALIVE_IN, 2 TWIN_FLT_N low, 3 and 4 the lanes, 5 wiring fault, 6 split path. -/
def Dev.path (d : Dev) (i : Nat) : Bool := bit (d.get Ent.Tws.PATHS) i
def Dev.setPath (d : Dev) (i : Nat) (v : Bool) : Dev := d.put Ent.Tws.PATHS (setBit (d.get Ent.Tws.PATHS) i v)

/-- A lane is authenticated: it is up, with GALLERY_LANE (R493, R495). -/
def Dev.laneUp (d : Dev) (n : Nat) : Dev :=
  if (d.lane n).up then d else ((d.setLane n fun l => { l with up := true }).setPath (3 + n) true).twinEvent 0x0026 (n + 2)

/-- A lane's PCS loses its lock: the next link-up derives a new lane key. -/
def Dev.laneDown (d : Dev) (n : Nat) : Dev :=
  let was := (d.lane n).up
  let d := d.setLane n fun _ => Lane.down
  if was then (d.setPath (3 + n) false).twinEvent 0x0026 n else d

/-! ### Control messages (Tables 22.5, 22.6) -/

/-- The lowest-numbered lane that is up (R495). -/
def Dev.upLane (d : Dev) : Option Nat := (List.range 2).find? fun n => (d.lane n).up

/-- A control message: header, body, padding to 46 bytes. -/
def Dev.ctrlBytes (d : Dev) (msg mseq : Nat) (body : Bytes) : Bytes :=
  let b := le 1 2 ++ le 1 msg ++ le 2 d.board.nodeId ++ le 2 (d.get Ent.Tws.ROLE_EPOCH) ++ le 2 body.length ++ le 4 mseq ++ body
  b ++ zeros (46 - b.length)

/-- The Ethernet frame of a control message to a MAC address. -/
def Dev.ctrlFrame (d : Dev) (dst msg mseq : Nat) (body : Bytes) : Frame :=
  deviceFrame dst d.board.deviceMac 0 0 (d.get Ent.Fwd.NAVOS_ETYPE) (d.ctrlBytes msg mseq body)

/-- A control message leaves on a lane, at once (DESIGN CHOICE, assumption 45); the port counts it as sent (R549). -/
def Dev.ctrlOn (d : Dev) (n msg mseq : Nat) (body : Bytes) : Dev :=
  let f := d.ctrlFrame d.twin.peerMac msg mseq body
  ((d.putFrame (52 + n) f false).count (txFrames (52 + n))).count (txBytes (52 + n)) f.len

/-- A gallery frame whose CRC fails is dropped and counted in RX_FCS (R492), and among the frames received (R549): its bytes are the Ethernet frame's,
with FCS (DESIGN CHOICE, assumption 61). -/
def Dev.laneCrcBad (d : Dev) (n : Nat) (w : Bytes) : Dev :=
  ((d.count (rxFcs (52 + n))).count (rxFrames (52 + n))).count (rxBytes (52 + n)) (max 64 (w.length - 32))

/-- A control message leaves on the lowest-numbered lane that is up. -/
def Dev.ctrl (d : Dev) (msg : Nat) (body : Bytes) (mseq : Nat := 0) : Dev :=
  match d.upLane with
  | none => d
  | some n => d.ctrlOn n msg mseq body

/-- A posted message of a hall (R53, R496). -/
def Dev.posted (d : Dev) (hall msg : Nat) (body : Bytes) (attach : Bool := false) : Dev :=
  let q := d.twin.mseq
  (d.setTwin fun t => { t with mseq := (q + 1) % 2 ^ 32, posts := t.posts ++ [⟨q, hall, d.epoch (.hall hall), d.time.raw, attach⟩] }).ctrl msg body q

/-- A posted message of the replication, which REPL_MBPS counts. -/
def Dev.post (d : Dev) (hall msg : Nat) (body : Bytes) (attach : Bool := false) : Dev :=
  (d.setTwin fun t =>
    { t with repl := t.repl.filter (fun x => decide (d.time.raw < x.1 + 1000000000)) ++ [(d.time.raw, body.length)] }).posted hall msg body attach

/-- A message of a migration: kind `k` about hall `h` (R387 to R390). -/
def Dev.migSend (d : Dev) (k h : Nat) (b : Bytes) : Dev := d.posted 0 0x0E (Config.migrateBody k h b)

/-- A posted message settles without success (R54, R496). The rules give a gallery message no far-side target address: POSTED_FAIL has 0 (DESIGN
CHOICE, assumption 61). -/
def Dev.postLost (d : Dev) (p : GPost) (s : Status) : Dev := d.postedFail srcTwin p.hall p.epoch p.seq 0 s.code

/-- REPL_MBPS as it reads: replication over the last second. -/
def Dev.replMbps (d : Dev) : Nat :=
  (d.twin.repl.filter fun x => decide (d.time.raw < x.1 + 1000000000)).foldl (fun n x => n + x.2) 0 * 8 / 1000000

/-- A node's record: epoch, role, age in units of 10 µs (R505). -/
def Dev.nodeRole (d : Dev) (node : Nat) : Nat :=
  match KV.find node d.twin.nodes with
  | none => 0xFFFF0000
  | some r => r.epoch + r.role * 65536 + min 255 ((d.time.raw + 2 ^ 64 - r.seen) % 2 ^ 64 / 10000) * 2 ^ 24

/-- NODE_ROLE as it reads. -/
def Dev.nodeRoles (d : Dev) : Bytes := (List.range 4096).flatMap fun n => le 4 (d.nodeRole n)

/-! ### Replication (R501) -/

/-- The device is ACTIVE with its standby attached. -/
def Dev.replicates (d : Dev) : Bool := d.role == 1

/-- Pieces of at most 8,192 bytes with their offsets, the last one marked. -/
def pieces : Nat → Nat → Bytes → List (Nat × Bytes × Bool)
  | 0, _, _ => []
  | n + 1, off, b =>
    if b.length ≤ 8192 then [(off, b, true)] else (off, b.take 8192, false) :: pieces n (off + 8192) (b.drop 8192)

/-- INPUTS of a run. -/
def Dev.sendInputs (d : Dev) (t cycle startNs : Nat) (b : Bytes) : Dev :=
  if d.replicates then
    (pieces (b.length / 8192 + 1) 0 b).foldl (fun d p =>
      d.post 0 0x05 (le 1 t ++ le 1 (b2n p.2.2) ++ zeros 2 ++ le 4 cycle ++ le 8 startNs ++ le 4 p.1 ++ p.2.1)) d
  else d

/-- The retentive area's cells. -/
def Dev.retainCells (d : Dev) : List Host.Cell := KV.keep (fun a _ => decide (0x03020000 ≤ a) && decide (a < 0x03060000)) d.mem

/-- Lines of 64 bytes in which two lists of retentive cells differ. -/
def changedLines (a b : List Host.Cell) : List Nat :=
  let one (x y : List Host.Cell) : List Nat := (x.filter fun c => KV.find c.1 y != some c.2).map fun c => (c.1 - 0x03020000) / 64
  (one a b ++ one b a).eraseDups

/-- RETAIN with the lines written since the previous RETAIN, found by comparing with what was sent (DESIGN CHOICE, assumption 45). -/
def Dev.sendRetain (d : Dev) : Dev :=
  let now := d.retainCells
  let rec_ (i : Nat) : Bytes := le 4 i ++ d.readMem (0x03020000 + 64 * i) 64
  let ls := changedLines now d.twin.sent
  let d := (List.range ((ls.length + 119) / 120)).foldl (fun d k => d.post 0 0x07 (((ls.drop (120 * k)).take 120).flatMap rec_)) d
  d.setTwin fun t => { t with sent := now }

/-- STREAMS: the next number of every stream that generates numbers (R136). -/
def Dev.sendStreams (d : Dev) : Dev :=
  let l := (List.range 2048).filter fun s => streamValid (d.streamRec s) && streamFlag (d.streamRec s) 4
  d.post 0 0x08 (l.flatMap fun s => le 2 s ++ le 2 (d.sw.stream s).next)

/-- A force record (Table 11.4). -/
def forceRecord (tag ty : Nat) (v : Bytes) : Bytes := le 4 tag ++ le 2 ty ++ le 2 v.length ++ v ++ zeros (64 - v.length)

/-- FORCE_TABLE: the records in tag order. -/
def Dev.forceTable (d : Dev) : Bytes := d.scan.forces.flatMap fun f => forceRecord f.1 f.2.1 f.2.2

/-- The force table changed: FORCE_COUNT, FORCE_GEN, and FORCES to the standby. -/
def Dev.forcesChanged (d : Dev) : Dev :=
  let d := (d.put Ent.Frc.FORCE_COUNT d.scan.forces.length).put Ent.Frc.FORCE_GEN (d.get Ent.Frc.FORCE_GEN + 1)
  if d.replicates then d.post 0 0x09 (le 4 (d.get Ent.Frc.FORCE_GEN) ++ d.forceTable) else d

/-- A standby, joiner or degraded standby leaves the pair: DETACH is sent and the device becomes DETACHED (R502, R510). The manual does not state the
reason's values: a free value. -/
def Dev.detach (d : Dev) : Dev :=
  let (v, d) := d.draw 16
  ((d.ctrl 0x10 (le 2 v.toNat)).setTwin fun t => { t with attach := none, hand := none, runs := [], lines := [] }).setRole 5

/-! ### The standby's comparison (R501, R502) -/

def TwinRun.fresh : TwinRun := ⟨0, 0, [], false, none, none, 0, 0, 0⟩

def Dev.twinRun (d : Dev) (t : Nat) : TwinRun := KV.get TwinRun.fresh t d.twin.runs
def Dev.setTwinRun (d : Dev) (t : Nat) (f : TwinRun → TwinRun) : Dev :=
  d.setTwin fun x => { x with runs := KV.put TwinRun.fresh t (f (d.twinRun t)) x.runs }

/-- Both devices' CRCs of one cycle of a task are known: a difference counts, is written at most once per second per task, and detaches the
standby after MISMATCH_LIMIT consecutive ones. -/
def Dev.compareCrc (d : Dev) (t : Nat) : Dev :=
  let r := d.twinRun t
  match r.own, r.peer with
  | some (c, x), some (c', y) =>
    if c ≠ c' then d
    else if x = y then d.setTwinRun t fun r => { r with own := none, peer := none, wrong := 0 }
    else
      let d := (d.setTwinRun t fun r => { r with own := none, peer := none, wrong := r.wrong + 1 }).count (twinCounter 2)
      let d := d.limited (scopeOf srcTwin 0x0022 * 64 + t) 1 fun d _ => d.twinEvent 0x0022 (t * 65536 + c % 65536)
      if d.get Ent.Twc.MISMATCH_LIMIT ≤ (d.twinRun t).wrong then d.detach else d
  | _, _ => d

/-- RETAIN lines of the active are applied after the standby's own run (R501). -/
def Dev.applyLines (d : Dev) : Dev :=
  (d.twin.lines.foldl (fun d l => d.writeMem (0x03020000 + 64 * l.1) (slice l.2 0 64)) d).setTwin fun t => { t with lines := [] }

/-- The standby's own run of a cycle ended with these published bytes. -/
def Dev.ownOutputs (d : Dev) (t cycle : Nat) (b : Bytes) : Dev :=
  if d.role = 2 then ((d.applyLines).setTwinRun t fun r => { r with own := some (cycle, crc32 b) }).compareCrc t else d

/-- The active's run of a cycle is published: OUTPUT_CRC, RETAIN, and STREAMS after the lowest-numbered cyclic task (R501). -/
def Dev.sendOutputs (d : Dev) (t cycle : Nat) (b : Bytes) (lowest : Bool) : Dev :=
  if d.replicates then
    let d := (d.ctrl 0x06 (le 1 t ++ zeros 3 ++ le 4 cycle ++ le 4 (crc32 b))).sendRetain
    if lowest then d.sendStreams else d
  else d

end Sys2Proof.Machine
end

