-- ==== Sys2Proof/Machine/Respond.lean ====
section
/-! DEFINITION. The responses of D0 on every path (R70 to R75, R79, R81, R189, R227), and the bridge responder's answers (R218, R219, R225). -/

namespace Sys2Proof.Machine

def Dev.setD0 (d : Dev) (f : DictUnit → DictUnit) : Dev := { d with d0 := f d.d0 }

/-- The staging area after a transfer that is abandoned or cut off, a DISCARD, a rejected image (R476, R477). -/
def Dev.stagingEmpty (d : Dev) : Dev := ((d.put Ent.Upd.STAGING_STATE 0).put Ent.Upd.STAGED_VERSION 0).putOct Ent.Stg.STAGING []

/-- Every transfer that D0 holds is gone. -/
def Dev.transfersEnd (d : Dev) : Dev :=
  let d := if d.get Ent.Upd.STAGING_STATE = 1 then d.stagingEmpty else d
  d.setD0 fun u => { u with transfers := [] }

/-! ### The bridge responder's answers -/

/-- D0 has executed a remote dictionary request (R227). -/
def Dev.bridgeDictDone (d : Dev) (k : Nat) (status : Status) (data : Bytes) : Dev :=
  match (KV.find k d.br.serve).bind (·.asked) with
  | none => d
  | some m => d.serveAnswer k m status (if m.op = 6 ∧ status = .ok then data else [])

/-! ### The response of a request -/

/-- The header of a response (Table 3.4). -/
def Dev.ndpHeader (d : Dev) (op flags session seq status len : Nat) : Bytes :=
  le 1 1 ++ le 1 op ++ le 2 flags ++ le 4 session ++ le 4 seq ++ le 2 d.board.nodeId ++ le 2 status ++ le 2 0 ++ le 2 len

/-- MODE of a session's binding (R73). -/
def Dev.sessionMode (d : Dev) (s : Session) : Nat := d.get (Ent.Bind.MODE s.binding)

/-- The device's address for the protocol (Table 3.10); 0 is off. -/
def Dev.ndpAddr (d : Dev) (v6 : Bool) : Nat := if v6 then ofBe (d.oct Ent.Ndp.IPV6_ADDR) else d.get Ent.Ndp.IPV4_ADDR

/-- A frame of the protocol leaves for the MAC address, VLAN, IP address and port its request came from, as a UDP datagram in class TCM (R70, R109). -/
def Dev.ndpSend (d : Dev) (session seq : Nat) (net : List Nat) (s : Status) (w : Bytes) : Dev :=
  let n (i : Nat) : Nat := (net[i]?).getD 0
  let v6 := n 4 == 1
  let port := d.get Ent.Ndp.UDP_PORT
  (d.emit (.dict .udp session seq net s w)).sendSwitched (n 1) (deviceFrame (n 0) d.board.deviceMac 0 0 (ipType v6)
    (udpPacket v6 (d.ndpAddr v6) (n 2) port (n 3) (udpSum v6 (d.ndpAddr v6) (n 2) port (n 3) w) w))

/-- Protect a frame of a session: nonce SESSION, SEQ, direction 1 (R73). -/
def ndpSeal (key : Bytes) (mode session seq : Nat) (header payload : Bytes) : Bytes :=
  let nonce := le 4 session ++ le 4 seq ++ le 1 1 ++ zeros 3
  if mode = 1 then
    let (c, t) := gcmSeal key nonce header payload
    header ++ c ++ t
  else header ++ payload ++ (gcmSeal key nonce (header ++ payload) []).2

/-- A session's responses to the last 8 requests executed, newest first; a request whose response waits has none yet. -/
def cached (seq : Nat) (w : Bytes) (l : List (Nat × Option Bytes)) : List (Nat × Option Bytes) :=
  if l.any fun x => x.1 == seq then l.map fun x => if x.1 = seq then (seq, some w) else x else ((seq, some w) :: l).take 8

/-- A session executed a request: its response is cached and sent (R75). -/
def Dev.ndpRespond (d : Dev) (o : Origin) (op : Nat) (status : Status) (payload : Bytes) : Dev :=
  match KV.find o.session d.d0.sessions with
  | none => d
  | some s =>
    let mode := d.sessionMode s
    let w := ndpSeal s.key mode o.session o.seq (d.ndpHeader op (1 + 2 * mode) o.session o.seq status.code payload.length) payload
    let s := { s with cache := cached o.seq w s.cache, idleSince := d.time.raw }
    let more := d.d0.queue.any fun q => q.origin.path == .udp && q.origin.session == o.session
    (d.setD0 fun u => { u with sessions := if s.closing && !more then KV.erase o.session u.sessions else KV.insert o.session s u.sessions }).ndpSend
      o.session o.seq o.net status w

/-- A session closes (R74): the requests it has started complete, held and queued ones go, and its shadows are emptied (R65). Its transfers are abandoned
as R77 says, when 10 s pass without a segment. -/
def Dev.closeSession (d : Dev) (id : Nat) : Dev :=
  match KV.find id d.d0.sessions with
  | none => d
  | some s =>
    let mine (q : QReq) : Bool := q.origin.path == .udp && q.origin.session == id
    let d := d.setD0 fun u => { u with queue := u.queue.filter (fun q => q.waits || !mine q),
                                       shadows := KV.keep (fun _ x => x.owner != (Path.udp.id, id)) u.shadows }
    let left (u : DictUnit) : KV Session :=
      if u.queue.any mine then KV.insert id { s with closing := true, early := [] } u.sessions else KV.erase id u.sessions
    d.setD0 fun u => { u with sessions := left u }

/-- The sessions that a rule names close. -/
def Dev.closeSessions (d : Dev) (p : Session → Bool) : Dev :=
  ((d.d0.sessions.filter fun x => p x.2).map (·.1)).foldl Dev.closeSession d

/-- A frame of the service port (R79): header, payload and CRC-32. -/
def Dev.spFrame (d : Dev) (op seq : Nat) (status : Status) (payload : Bytes) : Bytes :=
  let b := d.ndpHeader op 1 0 seq status.code payload.length ++ payload
  b ++ le 4 (crc32 b)

/-- A mailbox completes: data, MB_LEN, MB_TOTAL, then CODE, then BUSY and DONE (R81); `f` is one of its registers. -/
def Dev.mbDone (d : Dev) (len total code busy done : Field) (data : Nat → Field) (read : Bool) (status : Status) (tot : Nat) (b : Bytes) : Dev :=
  let d := if read && status == .ok then ((d.setMbBytes data b).setFld len b.length).setFld total tot else d
  ((d.setFld code status.code).setFld busy 0).setFld done 1

/-- D0 answers a request: it leaves its path's queue and the response goes out on its path. `desc` is the descriptor of a read. -/
def Dev.respond (d : Dev) (o : Origin) (read : Bool) (status : Status) (desc : Bytes) (total : Nat) (b : Bytes) : Dev :=
  let d := d.setD0 fun u => { u with queue := dropOne o u.queue }
  let body := if read && status == .ok then desc ++ b else []
  match o.path with
  | .sdo n => d.sdoAnswer n status b
  | .udp => d.ndpRespond o (if read then 3 else 4) status body
  | .gallery =>
    let w := d.ndpHeader (if read then 3 else 4) 1 0 o.seq status.code body.length ++ body
    (d.setD0 fun u => { u with galCache := some (o.seq, w) }).ctrl 0x0C w
  | .servicePort =>
    let w := d.spFrame (if read then 3 else 4) o.seq status body
    let d := d.setD0 fun u => { u with spCache := some (o.seq, w) }
    { d with power := { d.power with sp := { d.power.sp with response := some w, busy := false } } }
  | .mailbox h =>
    if o.session ≠ 0 then d.bridgeDictDone (o.session - 1) status body
    else if d.tenants.mute.contains h then { d with tenants := { d.tenants with mute := d.tenants.mute.erase h } }
    else d.mbDone (Rg.Mb.MB_LEN h) (Rg.Mb.MB_TOTAL h) (Rg.Mb.CODE h) (Rg.Mb.BUSY h) (Rg.Mb.DONE h) (Rg.Mb.MB_DATA h) read status total b
  | .secureMailbox =>
    let d := d.mbDone Rg.Smb.MB_LEN Rg.Smb.MB_TOTAL Rg.Smb.CODE Rg.Smb.BUSY Rg.Smb.DONE Rg.Smb.MB_DATA read status total b
    d
where
  /-- Take the first entry of this origin out. -/
  dropOne (o : Origin) : List QReq → List QReq
    | [] => []
    | q :: r => if q.origin = o then r else q :: dropOne o r

/-- The operation that the entry `key` started has completed: its request, if one waits, is answered (R62). -/
def Dev.finish (d : Dev) (key : Nat) (status : Status) : Dev :=
  match KV.find key d.d0.waits with
  | none => d.answer status
  | some o => (d.setD0 fun u => { u with waits := KV.erase key u.waits }).respond o false status [] 0 []

end Sys2Proof.Machine
end

