-- ==== Sys2Proof/Machine/TimeBase.lean ====
section
/-! DEFINITION. The timebase: raw counter, adjustments, snapshots, captures, PTP messages, time quality (R143 to R157). -/

namespace Sys2Proof.Machine

/-- On an empty queue one raw tick passes while PLL_TB runs (R143; DESIGN CHOICE, assumption 1). -/
def idleTick (s : State) : State :=
  if s.dev.time.running then
    { s with dev := { s.dev with time := { s.dev.time with raw := (s.dev.time.raw + 1) % 2 ^ 64 } } }
  else s

/-- Change the timebase. -/
def Dev.setTime (d : Dev) (f : TimeBase → TimeBase) : Dev := { d with time := f d.time }

/-- The time quality moves to `q`, with QUALITY_CHANGE if it changes (R155, Table 6.4). -/
def Dev.setQuality (d : Dev) (q : Nat) : Dev :=
  if d.time.quality = q then d
  else
    let old := d.time.quality
    (d.setTime fun t => { t with quality := q % 4, goodSyncs := 0,
                                 holdoverAt := if q = 3 then some t.raw else none }).eventSys 1 (srcTime 0) 0x0021 (old * 256 + q)

/-- Fold the old rate into OFFSET at raw tick R and take a new RATE (R146). -/
def TimeBase.newRate (t : TimeBase) (r : Int) : TimeBase :=
  { t.noted with offset := ofInt 64 ((t.offset : Int) + toInt 64 (ofInt 64 ((t.raw : Int) - t.rateEpoch)) * toInt 32 t.rate / 2 ^ 40),
                 rateEpoch := t.raw, rate := ofInt 32 r }

/-- The rest of a pending adjustment, or nothing once every part is taken. -/
def Adjust.rest (a : Adjust) : Option Adjust :=
  if a.rate.isNone && a.step.isNone && a.quality.isNone then none else some a

/-- A write to ADJ_CTRL with GO: the clear of OVERRUN acts first; GO makes the adjustment pending, or sets OVERRUN and changes
nothing else while one is pending (R146). Only hall 0 writes it (R147). -/
def adjGoOp (hall v : Nat) (d : Dev) : Dev :=
  if hall ≠ 0 then d.answer .hallDenied
  else
    let d := if bit v 30 then d.setFld Rg.Tb.OVERRUN 0 else d
    match d.time.pending with
    | some _ =>
      if bit v 31 then ((d.setFld Rg.Tb.OVERRUN 1).sysIrq 1 31).answer .ok
      else (((d.setFld Rg.Tb.DO_QUALITY (bits v 6 6)).setFld Rg.Tb.QUALITY_NEW (bits v 5 4)).setFld Rg.Tb.DO_STEP (bits v 1 1)
        |>.setFld Rg.Tb.DO_RATE (bits v 0 0)).answer .ok
    | none =>
      let d := ((d.setFld Rg.Tb.DO_QUALITY (bits v 6 6)).setFld Rg.Tb.QUALITY_NEW (bits v 5 4)).setFld Rg.Tb.DO_STEP (bits v 1 1)
        |>.setFld Rg.Tb.DO_RATE (bits v 0 0)
      let d := if bit v 31 then
          let a : Adjust :=
            { rate := if bit v 0 then some (toInt 32 (d.fld Rg.Tb.ADJ_RATE)) else none
              step := if bit v 1 then some (toInt 64 (d.fld Rg.Tb.ADJ_STEP_LO + d.fld Rg.Tb.ADJ_STEP_HI * 2 ^ 32)) else none
              quality := if bit v 6 then some (bits v 5 4) else none }
          d.setTime fun t => { t with pending := a.rest }
        else d
      d.answer .ok

/-- A read of SNAP_RAW_LO fills the reading initiator's latch from one raw value and answers its low word (R148). -/
def snapCaptureOp (i : Initiator) (d : Dev) : Dev :=
  let t := d.time
  let c := t.corrected256 t.raw 0
  let s : Snap := ⟨t.raw, c / 256, c % 256, t.tgen, t.quality, t.offset, t.rate, t.rateEpoch⟩
  (d.setTime fun t => { t with latches := KV.insert i.id s t.latches }).answer .ok (t.raw % 2 ^ 32)

/-- The counter CAPTURE_LOST of a pin (R47, R149). -/
def captureLost (n : Nat) : Counter := ctr (Ent.Trgp.CAPTURE_LOST n) (Ent.Trgp.COUNTER_SAT n) 0 (srcTime (0x030 + n))

/-- An edge on pin TRIGn, with the interpolator's phase, is stamped into the pin's FIFO of 4, or lost to a full one (R149, R150).
A pin captures while DIR is 0, the edges EDGE names. -/
def trigEdgeCaptureOp (n : Nat) (rising : Bool) (phase : Nat) (d : Dev) : Dev :=
  let e := d.get (Ent.Trgp.EDGE n)
  if d.get (Ent.Trgp.DIR n) = 0 ∧ bit e (if rising then 0 else 1) then
    let q := KV.get [] n d.time.captures
    if q.length < 4 then
      let c := d.time.corrected256 d.time.raw phase
      d.setTime fun t => { t with captures := KV.insert n (q ++ [⟨c / 256 % 2 ^ 32, c % 256, t.tgen, rising⟩]) t.captures }
    else (d.setFld (Rg.Tb.OVF n) 1).count (captureLost n)
  else d

/-- A read of CAPn_TIME answers the head capture and pops it (R149); an empty FIFO reads 0 (Table 6.1). -/
def capturePopOp (n : Nat) (d : Dev) : Dev :=
  match KV.get [] n d.time.captures with
  | [] => d.answer .ok 0
  | c :: r => (d.setTime fun t => { t with captures := KV.put [] n r t.captures }).answer .ok c.time

/-- Step corrected time: OFFSET moves, TGEN counts, TIME_STEP is written (R146). What trigger units do is added by `stepTime`. -/
def Dev.moveTime (d : Dev) (s : Int) : Dev :=
  ((d.setTime fun t => { t.noted with offset := ofInt 64 ((t.offset : Int) + s), tgen := (t.tgen + 1) % 256 }).count
    (ctr Ent.Time.STEPS Ent.Time.COUNTER_SAT 0 (srcTime 0))).eventSys 1 (srcTime 0) 0x0020 (ofInt 32 s)

/-- The grandmaster changes (Table 6.10). -/
def Dev.setGrandmaster (d : Dev) (gm : Nat) : Dev :=
  if ofBe (d.oct Ent.Time.GM_IDENTITY) = gm then d
  else (d.putOct Ent.Time.GM_IDENTITY (be 8 gm)).eventSys 1 (srcTime 0) 0x0022 (gm % 2 ^ 32)

/-- A PTP port takes a state; a change writes PTP_PORT_STATE (Table 6.10). -/
def Dev.setPtpState (d : Dev) (p st : Nat) : Dev :=
  if d.get (Ent.Ptime.PORT_STATE p) = st then d
  else (d.put (Ent.Ptime.PORT_STATE p) st).event (srcTime (0x100 + p)) 0x0024 st

/-- What one Sync or reference message with offset `o` from the master does to the quality when no step is due (Table 6.4). The message that enters
LOCKING does not count toward LOCK_COUNT (DESIGN CHOICE, assumption 61). -/
def Dev.syncQuality (d : Dev) (o : Int) : Dev :=
  let good := decide (o.natAbs ≤ d.get Ent.Prof.SYNC_THRESH_NS)
  match d.time.quality with
  | 0 => d.setQuality 1
  | 1 =>
    if good then
      if d.get Ent.Prof.LOCK_COUNT ≤ d.time.goodSyncs + 1 then d.setQuality 2
      else d.setTime fun t => { t with goodSyncs := t.goodSyncs + 1 }
    else d.setTime fun t => { t with goodSyncs := 0 }
  | 3 => d.setQuality (if good then 2 else 1)
  | _ => d

/-- The sync interval, 2 to the LOG_SYNC s, in ns. -/
def Dev.syncInterval (d : Dev) : Nat := 1000000000 / 2 ^ (-(d.getInt Ent.Prof.LOG_SYNC)).toNat

/-- No Sync came for SYNC_TIMEOUT sync intervals. -/
def Dev.syncLost (d : Dev) : Bool := d.time.lastSync.all fun t => d.passed t (d.get Ent.Prof.SYNC_TIMEOUT * d.syncInterval)

/-- SYNC_TIMEOUT in SYNCHRONIZED gives HOLDOVER; a grandmaster has no master to lose (R155). -/
def syncTimeoutOp (d : Dev) : Dev :=
  if d.time.quality = 2 ∧ d.time.grandmaster = false ∧ d.syncLost then d.setQuality 3 else d

/-- HOLDOVER that lasts HOLDOVER_S gives UNSYNCHRONIZED (R155). -/
def holdoverTimeoutOp (d : Dev) : Dev :=
  if d.time.quality = 3 ∧ d.time.holdoverAt.all (fun t => d.passed t (d.get Ent.Prof.HOLDOVER_S * 1000000000)) then d.setQuality 0 else d

/-- Stamps of a port (Table 6.7). -/
def rxStamps (p : Nat) : Counter := ctr (Ent.Ptime.RX_STAMPS p) (Ent.Ptime.COUNTER_SAT p) 0 (srcTime (0x100 + p))
def txStamps (p : Nat) : Counter := ctr (Ent.Ptime.TX_STAMPS p) (Ent.Ptime.COUNTER_SAT p) 1 (srcTime (0x100 + p))

/-- The PTP timestamp of corrected time `t`: 48 bits of seconds and 32 of nanoseconds (R144). -/
def ptpTimestamp (t : Nat) : Bytes := be 6 (t / 1000000000) ++ be 4 (t % 1000000000)

/-- The receive and transmit stamps of a frame, in 1/256 ns of corrected time: taken at the PCS boundary, moved by the reported latency to the medium,
with RX_ADJ or TX_ADJ added (R150, R151). -/
def Dev.rxStampAt (d : Dev) (p : Nat) (x : FrameStamp) : Nat :=
  ofInt 72 (((d.time.asOf x.raw).corrected256 x.raw x.phase : Int) - x.latency + d.getInt (Ent.Ptime.RX_ADJ p))
def Dev.txStampAt (d : Dev) (p : Nat) (x : FrameStamp) : Nat :=
  ofInt 72 (((d.time.asOf x.raw).corrected256 x.raw x.phase : Int) + x.latency + d.getInt (Ent.Ptime.TX_ADJ p))

/-- An S port in PROFILE 0: master only, with a fixed link delay (Table 6.3). -/
def Dev.fixedDelay (d : Dev) (p : Nat) : Bool := decide (24 ≤ p) && decide (p ≤ 39) && d.get Ent.Prof.PROFILE == 0

/-- The delay to a port's peer in 1/256 ns: measured, or LINK_DELAY_NS. -/
def Dev.linkDelay (d : Dev) (p : Nat) : Nat :=
  if d.fixedDelay p then d.get (Ent.Ptime.LINK_DELAY_NS p) * 256 else d.get (Ent.Ptime.MEAN_LINK_DELAY p)

/-- The delay mechanism of the profile on a port: peer delay in PROFILE 0 and 2, delay request and response in PROFILE 1 (Table 6.3). -/
def Dev.peerDelay (d : Dev) (p : Nat) : Bool := d.get Ent.Prof.PROFILE != 1 && !d.fixedDelay p

/-- The port runs PTP. -/
def Dev.ptpOn (d : Dev) (p : Nat) : Bool := decide (p < 48) && decide (d.get Ent.Prof.PROFILE ≤ 2) && d.flag (Ent.Ptime.PTP_ENABLE p)

/-- The state of a port for which the selection says `st` (Table 6.3): with external port configuration EXT_ROLE decides; an S port in PROFILE 0 is no
slave, a SLAVE_ONLY device no master. -/
def Dev.ptpPortState (d : Dev) (p st : Nat) : Nat :=
  if d.get Ent.Prof.PROFILE = 0 ∧ d.flag Ent.Prof.EXT_PORT_CONFIG then d.get (Ent.Ptime.EXT_ROLE p) + 1
  else if st = 3 ∧ d.fixedDelay p then 2
  else if st = 2 ∧ d.flag Ent.Prof.SLAVE_ONLY then 1
  else st

/-- Ports whose PTP is off are disabled, and external port configuration stands, once the values of 0x3601 or 0x3640+p are in effect. -/
def Dev.ptpRoles (d : Dev) : Dev :=
  (List.range 48).foldl (fun d p =>
    if !d.ptpOn p then d.setPtpState p 0
    else if d.get Ent.Prof.PROFILE = 0 ∧ d.flag Ent.Prof.EXT_PORT_CONFIG then d.setPtpState p (d.ptpPortState p 0) else d) d

/-- The protocol state machines restart (R154): ports, grandmaster, exchanges and sequence numbers begin anew. -/
def Dev.ptpRestart (d : Dev) : Dev :=
  let d := ((List.range 48).foldl (fun d p => d.setPtpState p 0) d).setGrandmaster 0
  ((d.setTime fun t => { t with grandmaster := false, lastSync := none, goodSyncs := 0, ptpSeq := 0, sent := [], seen := [] }).setQuality 0).ptpRoles

/-! ### Messages on the wire

Their layouts are those of IEEE 1588-2019 and IEEE 802.1AS-2020, which R152 and R153 name (PRESUMED, assumption 61). -/

/-- The device's clock identity: the EUI-64 of DEVICE_MAC. -/
def Dev.clockId (d : Dev) : Bytes := be 3 (d.board.deviceMac / 2 ^ 24) ++ be 2 0xFFFE ++ be 3 (d.board.deviceMac % 2 ^ 24)

/-- Message types. -/
inductive PtpKind where
  | sync | delayReq | pdelayReq | pdelayResp | followUp | delayResp | pdelayFollowUp | announce
  deriving DecidableEq, Repr

def PtpKind.code : PtpKind → Nat
  | .sync => 0 | .delayReq => 1 | .pdelayReq => 2 | .pdelayResp => 3 | .followUp => 8 | .delayResp => 9 | .pdelayFollowUp => 0xA | .announce => 0xB

def PtpKind.name : PtpKind → String
  | .sync => "Sync" | .delayReq => "Delay_Req" | .pdelayReq => "Pdelay_Req" | .pdelayResp => "Pdelay_Resp" | .followUp => "Follow_Up"
  | .delayResp => "Delay_Resp" | .pdelayFollowUp => "Pdelay_Resp_Follow_Up" | .announce => "Announce"

/-- Event messages are stamped. -/
def PtpKind.event (k : PtpKind) : Bool := decide (k.code < 8)
/-- Messages of the peer delay mechanism. -/
def PtpKind.peer (k : PtpKind) : Bool := k == .pdelayReq || k == .pdelayResp || k == .pdelayFollowUp

/-- A message: the common header of 34 bytes and the body. -/
def Dev.ptpWire (d : Dev) (p : Nat) (k : PtpKind) (seq : Nat) (twoStep : Bool) (corr : Int) (body : Bytes) : Bytes :=
  be 1 (b2n (d.get Ent.Prof.PROFILE == 0) * 16 + k.code) ++ be 1 2 ++ be 2 (34 + body.length) ++ be 1 (d.get Ent.Prof.DOMAIN) ++ be 1 0 ++
  be 2 (b2n twoStep * 0x200 + 8) ++ be 8 (ofInt 64 corr) ++ zeros 4 ++ d.clockId ++ be 2 (p + 1) ++ be 2 seq ++ be 1 5 ++
  be 1 (if k = .sync ∨ k = .followUp then ofInt 8 (d.getInt Ent.Prof.LOG_SYNC) else 0x7F) ++ body

/-- The frame of a message in the transport of PROFILE 1 and 2, else on layer 2. A stamp inserted into an event message over IPv4 leaves checksum 0; over
IPv6 two trailing bytes keep the checksum right (R152). -/
def Dev.ptpFrame (d : Dev) (k : PtpKind) (w : Bytes) : Frame :=
  let tr := if d.get Ent.Prof.PROFILE = 0 then 0 else d.get Ent.Prof.TRANSPORT
  if tr = 0 then deviceFrame (if k.peer || d.get Ent.Prof.PROFILE == 0 then 0x0180C200000E else 0x011B19000000) d.board.deviceMac 0 0 0x88F7 w
  else
    let v6 := tr == 2
    let src := if v6 then ofBe (d.oct Ent.Ndp.IPV6_ADDR) else d.get Ent.Ndp.IPV4_ADDR
    let dst := if v6 then (if k.peer then 0xFF02 * 2 ^ 112 + 0x6B else 0xFF0E * 2 ^ 112 + 0x181) else if k.peer then 0xE000006B else 0xE0000181
    let port := if k.event then 319 else 320
    let w := if v6 then w ++ zeros 2 else w
    let sum := if !v6 && k.event && d.flag Ent.Prof.ONE_STEP then 0 else udpSum v6 src dst port port w
    deviceFrame (ipMulticastMac ⟨dst, v6, port⟩) d.board.deviceMac 0 0 (ipType v6) (udpPacket v6 src dst port port sum w)

/-- A message leaves port `p` in class TCM (R153). -/
def Dev.ptpOut (d : Dev) (p : Nat) (k : PtpKind) (seq : Nat) (twoStep : Bool) (corr : Int) (body : Bytes) : Dev :=
  let w := d.ptpWire p k seq twoStep corr body
  (d.emit (.send k.name p 0 w)).sendTcm p (d.ptpFrame k w)

/-- The timestamp of a stamp in 1/256 ns. -/
def stampBytes (t : Nat) : Bytes := ptpTimestamp (t / 256)

/-- A Sync with its stamp `t`, one-step, or two-step with its Follow_Up; `corr` in 2 to the −16 ns (R152). -/
def Dev.ptpSync (d : Dev) (p seq : Nat) (origin : Bytes) (corr : Int) : Dev :=
  if d.flag Ent.Prof.ONE_STEP then d.ptpOut p .sync seq false corr origin
  else (d.ptpOut p .sync seq true 0 (zeros 10)).ptpOut p .followUp seq false corr origin

/-- A PTP message leaves port `p`; an event message has the transmit stamp of now with an interpolator phase and a reported latency (R151, R152): the
origin timestamp of a Sync that the port originates, the residence time, scaled by the rate ratio, in the correction of one that it relays. -/
def ptpMessageSendOp (p : Nat) (m : PtpSend) (phase latency : Nat) (d : Dev) : Dev :=
  let peer := decide (m = .pdelayReq)
  if !d.ptpOn p || (peer && !d.peerDelay p) || (decide (m = .delayReq) && d.get Ent.Prof.PROFILE != 1) then d
  else
    let t := d.txStampAt p ⟨d.time.raw, phase, latency⟩
    let seq := d.time.ptpSeq
    let d := d.setTime fun x => { x with ptpSeq := (x.ptpSeq + 1) % 65536 }
    let stamped (d : Dev) : Dev := d.count (txStamps p)
    let noted (i : Nat) (d : Dev) : Dev := d.setTime fun x => { x with sent := KV.insert (2 * p + i) t x.sent }
    match m with
    | .syncOrigin => (stamped d).ptpSync p seq (stampBytes t) 0
    | .syncRelay q rx origin corr ratio =>
      let stay := toInt 72 (ofInt 72 ((t : Int) - d.rxStampAt q rx))
      (stamped d).ptpSync p seq (ptpTimestamp origin) (corr + (stay + stay * ratio / 2 ^ 41) * 256)
    | .pdelayReq => (noted 0 (stamped d)).ptpOut p .pdelayReq seq false 0 (zeros 20)
    | .delayReq => (noted 1 (stamped d)).ptpOut p .delayReq seq false 0 (zeros 10)
    | .announce =>
      let gm := if d.time.grandmaster then d.clockId else d.oct Ent.Time.GM_IDENTITY
      d.ptpOut p .announce seq false 0 (zeros 13 ++ be 1 (d.get Ent.Prof.PRIORITY1) ++ be 4 0xF8FEFFFF ++ be 1 (d.get Ent.Prof.PRIORITY2) ++ gm ++ zeros 2 ++ be 1 0xA0)

/-- The live values of the snapshot latch words of an initiator (R148); 0 before any capture. -/
def Dev.snapWord (d : Dev) (i : Initiator) (off : Nat) : Nat :=
  match KV.find i.id d.time.latches with
  | none => 0
  | some s =>
    match off with
    | 0x004 => s.raw / 2 ^ 32
    | 0x008 => s.time % 2 ^ 32
    | 0x00C => s.time / 2 ^ 32
    | 0x010 => s.tgen * 2 ^ 24 + s.frac * 256 + s.quality
    | 0x020 => s.offset % 2 ^ 32
    | 0x024 => s.offset / 2 ^ 32
    | 0x028 => s.rate
    | 0x02C => s.epoch % 2 ^ 32
    | 0x030 => s.epoch / 2 ^ 32
    | _ => 0

/-- CAPn_INFO of pin `n` (Table 6.1): the head capture's fields and OVF. -/
def Dev.captureInfo (d : Dev) (n : Nat) : Nat :=
  d.fld (Rg.Tb.OVF n) * 2 ^ 30 +
  match KV.get [] n d.time.captures with
  | [] => 0
  | c :: _ => 2 ^ 31 + b2n c.rising * 65536 + c.frac * 256 + c.tgen

/-! ### Meanings -/

def execSnapCapture (i : Initiator) (s : State) := onDev s (snapCaptureOp i)
def execAdjGo (hall v : Nat) (s : State) := onDev s (adjGoOp hall v)
def execTrigEdgeCapture (n : Nat) (rising : Bool) (phase : Nat) (s : State) := onDev s (trigEdgeCaptureOp n rising phase)
def execCapturePop (n : Nat) (s : State) := onDev s (capturePopOp n)
def execSyncTimeout (s : State) := onDev s syncTimeoutOp
def execHoldoverTimeout (s : State) := onDev s holdoverTimeoutOp
def execPtpMessageSend (p : Nat) (m : PtpSend) (phase latency : Nat) (s : State) := onDev s (ptpMessageSendOp p m phase latency)

end Sys2Proof.Machine
end

