-- ==== Sys2Proof/Machine/Scan.lean ====
section
/-! DEFINITION. The scan engine: states, tasks, snapshots, publication, stations, retentive data, LOAD (R235 to R260). -/

namespace Sys2Proof.Machine

/-! ### State and events -/

def Dev.setScan (d : Dev) (f : ScanSt → ScanSt) : Dev := { d with scan := f d.scan }

/-- The active scan image. -/
def Dev.image (d : Dev) : Bytes := d.oct Ent.Seimg.ACTIVE_IMAGE

def srcEngine : Nat := srcScan 0
def srcTask (t : Nat) : Nat := srcScan (0x10 + t)
def srcSlot (s : Nat) : Nat := srcScan (0x100 + s)

def Dev.run (d : Dev) (t : Nat) : TaskRun := KV.get TaskRun.idle t d.scan.runs
def Dev.setRun (d : Dev) (t : Nat) (f : TaskRun → TaskRun) : Dev :=
  d.setScan fun s => { s with runs := KV.put TaskRun.idle t (f (d.run t)) s.runs }

def Slot.new : Slot := ⟨[], [], false, false, 0, false, 0, true⟩
def Dev.slot (d : Dev) (s : Nat) : Slot := KV.get Slot.new s d.scan.slots
def Dev.setSlot (d : Dev) (s : Nat) (f : Slot → Slot) : Dev :=
  d.setScan fun x => { x with slots := KV.put Slot.new s (f (d.slot s)) x.slots }

/-- CYCLES 0, MERGED 1, SKIPPED 2 of a task (Table 10.20). -/
def taskCounter (t i : Nat) : Counter := ⟨⟨0x4410 + t, ([1, 5, 6][i]?).getD 1, 64, 0⟩, Ent.Task.COUNTER_SAT t, i, srcTask t⟩

/-- RX_FRAMES 0 to LOSSES 5 of a slot (Table 10.21). -/
def slotCounter (s i : Nat) : Counter := ⟨⟨0x4480 + s, 0x12 + i, 64, 0⟩, Ent.Stn.COUNTER_SAT s, i, srcSlot s⟩

/-- An event of Table 10.22 or 11.11 (R345). -/
def Dev.seEvent (d : Dev) (source code data : Nat) : Dev := d.eventSys 0 source code data

def Dev.engine (d : Dev) : Nat := d.get Ent.Se.STATE

/-- A transition of Table 10.1; one into STOP_FAULT also goes to hall 0's ring (R260). -/
def Dev.setEngine (d : Dev) (st : Nat) : Dev :=
  let v := d.engine * 256 + st
  if d.engine = st then d
  else
    let d := (d.put Ent.Se.STATE st).seEvent srcEngine 0x0020 v
    if st = 3 then d.eventRing 0 srcEngine 0x0020 v else d

/-- Tasks run: RUN, STOPPING or CHANGING. -/
def Dev.running (d : Dev) : Bool := d.engine == 2 || d.engine == 4 || d.engine == 5

/-- No task is ready or running. -/
def Dev.allIdle (d : Dev) : Bool := d.scan.runs.all fun r => r.2.phase == 0

/-! ### Trigger units of the engine (R240) -/

/-- The earliest instant at or after a time. -/
def instantFrom (phase period t : Nat) : Nat :=
  if t ≤ phase then phase else if period = 0 then t else phase + (t - phase + period - 1) / period * period

/-- A cyclic task's next instant at or after a time, in ns. -/
def TaskRec.instant (r : TaskRec) (t : Nat) : Nat := instantFrom (r.phase * 1000) (r.period * 1000) t

/-- The engine arms a task's unit from an instant; a period above 4 s is armed one-shot. -/
def Dev.armTask (d : Dev) (r : TaskRec) (first : Nat) : Dev :=
  let u := r.unit
  let d := ((d.put (Ent.Trgu.OWNER u) 1).put (Ent.Trgu.TARGET u) (0x1000 + r.task)).put (Ent.Trgu.START_NS u) first
  let d := (d.put (Ent.Trgu.PERIOD_NS u) (if 4000000 < r.period then 0 else r.period * 1000)).put (Ent.Trgu.COUNT u) 0
  ((d.put (Ent.Trgu.NEXT_NS u) first).put (Ent.Trgu.ENABLE u) 1).setTime fun t => { t with trigCount := KV.erase u t.trigCount }

/-- The unit returns to OWNER 0, disarmed. -/
def Dev.releaseUnit (d : Dev) (u : Nat) : Dev := (d.put (Ent.Trgu.OWNER u) 0).put (Ent.Trgu.ENABLE u) 0

/-- Cyclic tasks of an image. -/
def imgCyclic (i : Bytes) : List TaskRec := (imgTasks i).filter fun r => decide (r.task < 16)

/-! ### Online change and commands end -/

/-- An entry of the mapping table (R266): the action, the old and the new variable. -/
structure MapEntry where
  action : Nat
  old : Option VarRec
  new : Option VarRec
  deriving DecidableEq, Repr

/-- New variables in VARS order, then old ones whose tag the new image lacks (Table 11.3). -/
def mapEntries (old new : List VarRec) : List MapEntry :=
  (new.map fun v =>
    match old.find? fun o => o.tag == v.tag with
    | none => ⟨1, none, some v⟩
    | some o => if o.sameType v then ⟨0, some o, some v⟩ else ⟨2, some o, some v⟩) ++
  ((old.filter fun o => !(new.any fun v => v.tag == o.tag)).map fun o => ⟨3, some o, none⟩)

/-- A command of CMD completes: CMD_STATUS, and the response that waits for it (R235). -/
def Dev.cmdDone (d : Dev) (s : Status) (sect rec_ : Nat := 0) : Dev :=
  (d.put Ent.Se.CMD_STATUS (imageStatus s sect rec_)).finish Ent.Se.CMD.key s

/-- A command that the present state has no transition for (R235). -/
def Dev.cmdRefused (d : Dev) : Dev := (d.put Ent.Se.CMD_STATUS (imageStatus .wrongState 0 0)).answer .wrongState

/-- Entries of a mapping table with an ACTION (Table 11.6). -/
def actionCount (l : List MapEntry) (a : Nat) : Nat := (l.filter fun e => e.action == a).length

/-- The change result (Table 11.6). -/
def Dev.changeResult (d : Dev) (c : Change) (s : Status) (rolled : Bool) : Bytes :=
  let m := mapEntries (imgVars (c.old.getD d.image)) (imgVars c.image)
  le 4 c.oldId ++ le 4 (imgId c.image) ++ le 2 s.code ++ le 1 (b2n (bit c.word 8) + 2 * b2n c.twin + 4 * b2n rolled) ++ zeros 1 ++
  le 8 c.switchTime ++ le 4 c.waitUs ++ le 4 c.switchNs ++
  le 2 (actionCount m 0) ++ le 2 (actionCount m 1) ++ le 2 (actionCount m 2) ++ le 2 (actionCount m 3) ++
  le 2 c.kept ++ le 2 c.released.length ++ le 2 c.discarded ++ zeros 6 ++ c.released.flatMap (le 4)

/-- CHANGES 0 and REFUSALS 1 (Table 11.9). -/
def changeCounter (i : Nat) : Counter := ⟨⟨0x4600, 8 + i, 64, 0⟩, Ent.Chg.COUNTER_SAT, i, srcEngine⟩

/-- A change ends (R262, R269, R270, R277): result, CHANGE_STATE 0, CHANGE_STATUS, CHANGE_DONE to the device log and hall 0's ring. -/
def Dev.changeEnd (d : Dev) (s : Status) : Dev :=
  match d.scan.change with
  | none => d
  | some c =>
    let d := (d.putOct Ent.Chg.CHANGE_RESULT (d.changeResult c s false)).setScan fun x => { x with change := none }
    let d := (d.put Ent.Chg.CHANGE_STATE 0).put Ent.Chg.CHANGE_STATUS (s.code * 65536)
    let d := d.count (changeCounter (if s = .ok then 0 else 1))
    let v := s.code * 65536 + c.released.length
    (d.seEvent srcEngine 0x002A v).eventRing 0 srcEngine 0x002A v

/-! ### Stations (R250 to R253) -/

/-- A slot is lost, for cause 1, 2 or 3 of STATION_LOST. -/
def Dev.slotLost (d : Dev) (s cause : Nat) : Dev :=
  if d.get (Ent.Stn.STATE s) = 2 then
    (((d.put (Ent.Stn.STATE s) 3).setSlot s fun x => { x with subst := 0 }).count (slotCounter s 5)).seEvent (srcSlot s) 0x0023 cause
  else d

/-- The first accepted frame or RPDO brings a slot to OK (Table 10.9). -/
def Dev.slotBack (d : Dev) (s : Nat) : Dev :=
  let st := d.get (Ent.Stn.STATE s)
  if st = 3 then
    ((d.put (Ent.Stn.STATE s) 2).seEvent (srcSlot s) 0x0024 (min (d.slot s).subst 0xFFFFFFFF)).setSlot s fun x => { x with first := true, missed := 0 }
  else if st = 1 then (d.put (Ent.Stn.STATE s) 2).setSlot s fun x => { x with missed := 0 }
  else d

/-- Slots of a kind: link-down of their PORT or bus-off of their CHANNEL loses them (Table 10.9). -/
def Dev.portSlotsLost (d : Dev) (p : Nat) : Dev :=
  (List.range 256).foldl (fun d s => if d.get (Ent.Stn.KIND s) = 1 ∧ d.get (Ent.Stn.PORT s) = p then d.slotLost s 2 else d) d
def Dev.canSlotsLost (d : Dev) (n : Nat) : Dev :=
  (List.range 256).foldl (fun d s => if d.get (Ent.Stn.KIND s) = 2 ∧ d.get (Ent.Stn.CHANNEL s) = n then d.slotLost s 3 else d) d

/-- An Ethernet slot with a MAC address. -/
def Dev.slotFits (d : Dev) (s mac : Nat) : Bool := d.get (Ent.Stn.KIND s) == 1 && ofBe (d.oct (Ent.Stn.MAC s)) == mac

/-- An input frame from a station (R251): bad, stale, or stored in its slot. -/
def stationFrameReceiveOp (src : Nat) (b : Bytes) (d : Dev) : Dev :=
  let named := leAt b 4 1
  match (if d.slotFits named src then some named else (List.range 256).find? fun s => d.slotFits s src) with
  | none => d.count ⟨Ent.Se.STN_UNKNOWN, Ent.Se.COUNTER_SAT, 1, srcEngine⟩
  | some s =>
    let len := leAt b 16 2
    match imgStation d.image s with
    | none => d.count (slotCounter s 2)
    | some r =>
      if leAt b 0 1 ≠ 6 ∨ leAt b 1 1 ≠ 1 ∨ leAt b 2 2 ≠ d.board.nodeId ∨ named ≠ s ∨ len ≠ r.inLen ∨ b.length < 24 + len ∨ d.engine = 0 then
        d.count (slotCounter s 2)
      else if leAt b 6 2 ≠ d.epoch (.station s) then
        (d.count (slotCounter s 1)).staleReject (srcSlot s) (d.epoch (.station s))
      else
        ((d.slotBack s).setSlot s fun x => { x with data := slice b 24 len, fresh := true, got := true }).count (slotCounter s 0)

/-- The mapped bytes of a PDO: (offset, length) pairs (R190). -/
def Dev.pdoMap (d : Dev) (rx : Bool) (k : Nat) : List (Nat × Nat) :=
  (List.range (d.get (if rx then Ent.Co.RPDO_MAP_COUNT k else Ent.Co.TPDO_MAP_COUNT k))).map fun i =>
    let v := d.get (if rx then Ent.Co.RPDO_MAP k i else Ent.Co.TPDO_MAP k i)
    (v / 65536, v % 256 / 8)

/-- Bytes of an RPDO go to their image offsets. -/
def scatter : List (Nat × Nat) → Bytes → KV Bytes → KV Bytes
  | [], _, kv => kv
  | (off, n) :: r, b, kv => scatter r (b.drop n) (KV.insert off (b.take n) kv)

/-- An RPDO is received (R190, Table 10.9): its data waits for the next snapshot, in its slot or, of an RPDO that names none, under 0xFFFF. A remote
frame, and one shorter than the mapping (CiA 301), carries no data. -/
def Dev.rpdoReceive (d : Dev) (k : Nat) (f : CanFrame) : Dev :=
  let s := d.get (Ent.Co.RPDO_SLOT k)
  let m := d.pdoMap true k
  if f.rtr ∨ d.engine = 0 ∨ f.data.length < (m.map (·.2)).sum then d
  else
    let cells := (scatter m f.data []).flatMap fun x => (List.range x.2.length).map fun i => (x.1 + i, ((x.2[i]?).getD 0#8).toNat)
    let take (d : Dev) : Dev := d.setSlot s fun x => { x with pdo := cells.foldl (fun kv c => KV.insert c.1 c.2 kv) x.pdo, fresh := true, got := true }
    if 255 < s then take d
    else if d.get (Ent.Stn.KIND s) ≠ 2 ∨ (imgStation d.image s).isNone then d
    else (take (d.slotBack s)).count (slotCounter s 0)

/-! ### Output frames -/

/-- A station frame (Tables 10.8, R250); with SE_MAC all zeros Ethernet stations are off. -/
def Dev.stationSend (d : Dev) (r : StnRec) (safe : Bool) (cycle time : Nat) (data : Bytes) : Dev :=
  let s := r.slot
  let mac := ofBe (d.oct Ent.Senet.SE_MAC)
  if mac = 0 then d
  else
    let first := !safe && (d.slot s).first
    let b := le 1 5 ++ le 1 1 ++ le 2 d.board.nodeId ++ le 1 s ++ le 1 (b2n safe + 2 * b2n first) ++ le 2 (d.epoch (.station s)) ++
      le 2 (d.get Ent.Tws.ROLE_EPOCH) ++ le 2 cycle ++ le 4 time ++ le 2 r.outLen ++ zeros 6 ++ data
    let d := if first then d.setSlot s fun x => { x with first := false } else d
    (d.emit (.inject 48 (deviceFrame (ofBe (d.oct (Ent.Stn.MAC s))) mac (d.get (Ent.Stn.VLAN s)) (d.get (Ent.Stn.PCP s))
      (d.get Ent.Fwd.NAVOS_ETYPE) (b ++ zeros (46 - b.length))))).count (slotCounter s 3)

/-- Safe data to the Ethernet stations of a task at an instant (R247, R248): none to a LOST station, none in a role that does not drive. -/
def Dev.sendSafe (d : Dev) (t time : Nat) : Dev :=
  if d.standby then d
  else
    let img := d.image
    ((imgStations img).filter fun r => r.task == t).foldl (fun d r =>
      if d.get (Ent.Stn.KIND r.slot) = 1 ∧ 0 < r.outLen ∧ d.get (Ent.Stn.STATE r.slot) ≠ 3 then
        d.stationSend r true (d.run t).cycle time (stationData img r.safe r.outLen)
      else d) d

/-! ### Task faults (R247) -/

/-- The tasks are abandoned: nothing is ready or running, and no dispatch source is pending. The stack levels of dispatch sources leave their
cores' pages with them, so that the executors can be dispatched again (DEDUCED, assumption 46). -/
def Dev.abandonTasks (d : Dev) : Dev :=
  let d := d.setScan fun s => { s with ready := [], stackOf := [], runs := KV.mapVal (fun _ r => { r with phase := 0, pending := none }) s.runs }
  (List.range 12).foldl (fun d x =>
    let k := 4 + execLead x
    let d := (d.setFld (Rg.Src.PENDING (13 + x)) 0)
    if d.isSet (Rg.Src.ACTIVE (13 + x)) then
      ((((List.range 8).foldl (fun d i => (d.setFld (pgSrc k i) 0).setFld (pgSaved k i) 0) d).setFld (pgDepth k) 0).setFld (pgPrio k) 0).setFld
        (Rg.Src.ACTIVE (13 + x)) 0
    else d) d

/-- A task fault or overrun (R247): STOP_FAULT with cause, task and value; the tasks are abandoned, the engine's channels take their safe values, a
change before its switch ends with ABORTED, a STOP that waits completes with WRONG_STATE. `f` writes the events of the fault. FAULT_N falls for
causes 1 to 3 while the role drives (Table 22.2); a standby detaches (R502). -/
def Dev.scanFault (d : Dev) (cause task v : Nat) (f : Dev → Dev) : Dev :=
  let was := d.engine
  let d := (d.put Ent.Se.FAULT_CAUSE (cause * 2 ^ 24 + task * 65536 + v % 65536)).abandonTasks
  let chg := d.get Ent.Chg.CHANGE_STATE
  let d := f (d.engineSafe true)
  let d := if 1 ≤ chg ∧ chg ≤ 3 then d.changeEnd .aborted else d
  let d := d.setEngine 3
  let d := if was = 4 then d.cmdDone .wrongState else d
  let d := if cause ≤ 3 ∧ d.role ≤ 1 then (d.setTwin fun t => { t with scan := true }).faultRefresh else d
  if d.role = 2 then d.detach else d

/-- Runs have passed their deadline (R247, R248): FAULT_CAUSE names the first, OVERRUN is written for each. -/
def Dev.overrun (d : Dev) (busy : List Nat) : Dev :=
  match busy with
  | [] => d
  | t :: _ =>
    if d.running then
      let late := busy.map fun u => (u, min (d.time.raw - (d.run u).origin) 0xFFFFFFFF)
      d.scanFault 1 t 0 fun d => late.foldl (fun d x => (d.seEvent (srcTask x.1) 0x0021 x.2).eventRing 0 (srcTask x.1) 0x0021 x.2) d
    else d

/-- DEADLINE_US of a task in ns; 0 means the period (R247). -/
def TaskRec.deadlineNs (r : TaskRec) : Nat := (if r.deadline = 0 then r.period else r.deadline) * 1000

/-- A task's run is past its deadline: a DONE in the raw tick of the deadline meets it (R246, R247). -/
def Dev.overdue (d : Dev) (t : Nat) : Bool :=
  (d.run t).phase != 0 && match imgTask d.image t with
    | some r => d.passed (d.run t).origin (r.deadlineNs + 1)
    | none => false

/-- The runs among `ts` that have not written DONE by their deadline. -/
def deadlineOverrunOp (ts : List Nat) (d : Dev) : Dev :=
  d.overrun ((List.range 48).filter fun t => ts.contains t && d.overdue t)

/-- A task fault of cause 2 or 3 of the innermost task of an executor. -/
def Dev.executorFault (d : Dev) (x cause v : Nat) : Dev :=
  match KV.get [] x d.scan.stackOf with
  | [] => d
  | t :: _ =>
    let w := cause * 65536 + v % 65536
    d.scanFault cause t v fun d => (d.seEvent (srcTask t) 0x0022 w).eventRing 0 (srcTask t) 0x0022 w

def taskFaultOp (x v : Nat) (d : Dev) : Dev := if d.running then d.executorFault x 2 v else d

/-! ### Forces (R273) -/

/-- Forced variables of the active image with their values. -/
def Dev.forced (d : Dev) : List (VarRec × Bytes) :=
  if d.running then
    let vars := imgVars d.image
    d.scan.forces.filterMap fun f => (vars.find? fun v => v.tag == f.1).map fun v => (v, f.2.2)
  else []

/-- A task's map entries cover a variable. -/
def mapsCover (l : List MapRec) (v : VarRec) : Bool :=
  (List.range v.size).all fun i => l.any fun m => decide (m.img ≤ v.off + i) && decide (v.off + i < m.img + m.len)

/-- Bytes into an executor's data TCM: both cores of a pair hold them (R239). -/
def Dev.writeTcm (d : Dev) (x off : Nat) (b : Bytes) : Dev := (execCores x).foldl (fun d c => d.writeMem (tcmBase c + 0x10000 + off) b) d

/-- Forces on areas 0, 2 and 3 at step 2 of a cycle of a task (Table 11.5). -/
def Dev.forceInputs (d : Dev) (r : TaskRec) : Dev :=
  let maps := (imgIn d.image).filter fun m => m.task == r.task
  d.forced.foldl (fun d f =>
    if f.1.area = 0 ∧ mapsCover maps f.1 then d.writeMem (0x03000000 + f.1.off) f.2
    else if f.1.area = 2 then d.writeMem (0x03020000 + f.1.off) f.2
    else if f.1.area = 3 ∧ f.1.exec = r.exec then d.writeTcm r.exec f.1.off f.2
    else d) d

/-- A byte string with another laid over it where their ranges meet. -/
def overlay (b : Bytes) (at_ : Nat) (v : Bytes) (off : Nat) : Bytes :=
  (List.range b.length).map fun i =>
    if off ≤ at_ + i ∧ at_ + i < off + v.length then (v[at_ + i - off]?).getD 0#8 else (b[i]?).getD 0#8

/-- The bytes of the output image that a task publishes: forces on area 1 are substituted (Table 11.5). -/
def Dev.published (d : Dev) (maps : List MapRec) (off n : Nat) : Bytes :=
  d.forced.foldl (fun b f => if f.1.area = 1 ∧ mapsCover maps f.1 then overlay b off f.2 f.1.off else b) (d.readMem (0x03010000 + off) n)

/-! ### The snapshot (R244, R245, R252, R253) -/

/-- The fixed substitute is what a slot gives: WAITING, or LOST with SUBST_MODE 1 or nothing accepted since START. -/
def Dev.slotFixed (d : Dev) (r : StnRec) : Bool :=
  let st := d.get (Ent.Stn.STATE r.slot)
  st == 1 || (st == 3 && (r.mode == 1 || !(d.slot r.slot).got))

/-- A snapshot without fresh data counts toward LOSS_CYCLES. -/
def Dev.countLoss (d : Dev) (r : StnRec) : Dev :=
  let x := d.slot r.slot
  if d.get (Ent.Stn.STATE r.slot) ≠ 2 then d
  else if x.fresh then d.setSlot r.slot fun x => { x with missed := 0 }
  else
    let d := d.setSlot r.slot fun x => { x with missed := x.missed + 1 }
    if r.loss ≤ x.missed + 1 then d.slotLost r.slot 1 else d

/-- Bytes of a slot's earlier kind-2 input entries: where an entry's fixed substitute begins. -/
def pdoBefore : List MapRec → MapRec → Nat
  | [], _ => 0
  | a :: r, m => if a = m then 0 else a.len + pdoBefore r m

/-- The FLAGS of CYCLE (Table 10.6). -/
def Dev.cycleFlags (d : Dev) (t : Nat) : Nat :=
  let r := d.run t
  b2n d.tu + 2 * b2n r.fresh + 4 * b2n r.skipped + 8 * b2n (d.scan.warm.contains t)

/-- The CYCLE block of a run (Table 10.6). -/
def Dev.cycleBlock (d : Dev) (t delay : Nat) : Bytes :=
  le 8 (d.run t).startNs ++ le 4 (d.run t).cycle ++ le 2 delay ++ le 1 (d.cycleFlags t) ++ zeros 1

/-- The bytes that RPDOs have left under slot `s`, as far as the entry covers them. -/
def Dev.pdoIn (d : Dev) (s : Nat) (m : MapRec) : Dev :=
  (d.slot s).pdo.foldl (fun d c => if m.img ≤ c.1 ∧ c.1 < m.img + m.len then d.setByte (0x03000000 + c.1) (BitVec.ofNat 8 c.2) else d) d

/-- One map entry is copied into the input image; an entry of PDO bytes takes those of RPDOs without a slot too (R190). -/
def Dev.copyIn (d : Dev) (maps : List MapRec) (t delay : Nat) (m : MapRec) : Dev :=
  let a := 0x03000000 + m.img
  if m.kind = 1 then
    d.writeMem a (slice (if m.src = 0 then d.cycleBlock t delay else if m.src = 1 then d.loadStatusBlock else d.analogBlock) m.srcOff m.len)
  else match imgStation d.image m.src with
  | none => d
  | some r =>
    if m.kind = 0 then
      let b := if d.slotFixed r then stationData d.image r.subst r.inLen else (d.slot m.src).data
      d.writeMem a (slice b m.srcOff m.len)
    else
      (if d.slotFixed r then
        d.writeMem a (slice (stationData d.image r.subst r.inLen) (pdoBefore (maps.filter fun x => x.kind == 2 && x.src == m.src) m) m.len)
      else d.pdoIn m.src m).pdoIn 0xFFFF m

/-- The quality byte of an entry (Table 10.7), written over the data. -/
def Dev.qualityIn (d : Dev) (m : MapRec) : Dev :=
  if m.kind = 1 ∨ m.qual = 0xFFFF then d
  else match imgStation d.image m.src with
  | none => d
  | some r =>
    let x := d.slot m.src
    let st := d.get (Ent.Stn.STATE m.src)
    d.setByte (0x03000000 + m.qual) (BitVec.ofNat 8 (b2n x.fresh + 2 * b2n (st == 1 || st == 3) + 4 * b2n (d.slotFixed r) + 8 * b2n (st == 3) +
      16 * b2n x.held + 32 * b2n d.tu))

/-- The snapshot has taken a slot. -/
def Dev.slotTaken (d : Dev) (r : StnRec) : Dev :=
  d.setSlot r.slot fun x => { x with fresh := false, subst := if d.get (Ent.Stn.STATE r.slot) = 3 then x.subst + 1 else x.subst }

/-- A ready task's place: behind those whose snapshot started before its own, and behind lower task numbers of the same start (R242). -/
def Dev.placeReady (d : Dev) (t : Nat) (l : List Nat) : List Nat :=
  let before (u : Nat) : Bool := (d.run u).origin != (d.run t).origin || decide (u < t)
  l.takeWhile before ++ t :: l.dropWhile before

/-- A task becomes ready: its executor's dispatch source is raised (R242). -/
def Dev.makeReady (d : Dev) (r : TaskRec) : Dev :=
  let d := d.setScan fun s => { s with ready := KV.put [] r.exec (d.placeReady r.task (KV.get [] r.exec s.ready)) s.ready }
  (d.raise (13 + r.exec)).evalLine (4 + execLead r.exec)

/-- The bytes of a task's input ranges, in INMAP order (Table 22.6). -/
def Dev.inputBytes (d : Dev) (maps : List MapRec) : Bytes := maps.flatMap fun m => d.readMem (0x03000000 + m.img) m.len

/-- Steps 1 and 2 of a cycle (Table 10.4): the run begins at the raw counter, every input is copied, forces are written, and the task is ready. The
time from step 1 to step 2 is a free value (assumption 3). -/
def Dev.snapshot (d : Dev) (t startNs : Nat) : Dev :=
  match imgTask d.image t with
  | none => d
  | some r =>
    let maps := (imgIn d.image).filter fun m => m.task == t
    let stns := (imgStations d.image).filter fun s => s.task == t
    let d := d.setRun t fun x => { x with phase := 1, origin := d.time.raw, startNs, cycle := (x.cycle + 1) % 2 ^ 32, pending := none }
    let d := stns.foldl Dev.countLoss d
    let (delay, d) := d.draw 16
    let d := maps.foldl (fun d m => d.copyIn maps t delay.toNat m) d
    let d := maps.foldl Dev.qualityIn d
    let d := stns.foldl Dev.slotTaken d
    let d := (d.setRun t fun x => { x with skipped := false, fresh := false }).setScan fun s => { s with warm := s.warm.filter (· != t) }
    let d := (d.forceInputs r).makeReady r
    d.sendInputs t (d.run t).cycle startNs (d.inputBytes maps)

/-- An event trigger of image task `e` at a time (R241). A STOP ignores it (R237); a standby does not start runs on its own triggers (R501). -/
def Dev.eventTrigger (d : Dev) (e at_ : Nat) : Dev :=
  if (d.engine ≠ 2 ∧ d.engine ≠ 5) ∨ d.role = 2 ∨ d.role = 3 then d
  else
    let x := d.run e
    if x.phase = 0 then d.snapshot e at_
    else match x.pending with
    | none => d.setRun e fun x => { x with pending := some at_ }
    | some _ => d.count (taskCounter e 1)

/-- Event tasks of the active image. -/
def Dev.eventTasks (d : Dev) : List TaskRec := (imgTasks d.image).filter fun r => decide (16 ≤ r.task)

/-- Event triggers of kinds 0, 1 and 2 (Table 10.2). -/
def Dev.unitEvent (d : Dev) (u at_ : Nat) : Dev :=
  (d.eventTasks.filter fun r => r.evtKind == 0 && r.evtA == u).foldl (fun d r => d.eventTrigger r.task at_) d
def Dev.objectEvent (d : Dev) (n k : Nat) : Dev :=
  (d.eventTasks.filter fun r => r.evtKind == 1 && r.evtA == n && r.evtB == k).foldl (fun d r => d.eventTrigger r.task d.now) d

/-- A read of TAIL, or the expiry of a lock, may move the shadow into the object: NEW becomes 1 again. -/
def Dev.shadowMoved (d old : Dev) (n k : Nat) : Dev :=
  if k < 64 ∧ d.fld (Rg.Obj.RXSEQ n k) ≠ old.fld (Rg.Obj.RXSEQ n k) then d.objectEvent n k else d
def Dev.lockExpired (d : Dev) (n k : Nat) : Dev := (d.lockExpires n k).shadowMoved d n k

def evtFireOp (v : Nat) (d : Dev) : Dev :=
  ((d.eventTasks.filter fun r => r.evtKind == 2 && bit v (r.task - 16)).foldl (fun d r => d.eventTrigger r.task d.now) d).answer .ok

/-- The edges of an input bit that a kind-3 trigger takes. -/
def edgeHit (evtA : Nat) (old new : BitVec 8) : Bool :=
  let o := old.getLsbD (evtA % 8)
  let n := new.getLsbD (evtA % 8)
  (bit evtA 3 && !o && n) || (bit evtA 4 && o && !n)

/-- The snapshot of a cyclic task, and the edges that it finds (R244 step 2). -/
def Dev.cyclicSnapshot (d : Dev) (t startNs : Nat) : Dev :=
  let maps := (imgIn d.image).filter fun m => m.task == t
  let mine := d.eventTasks.filter fun r => r.evtKind == 3 && maps.any fun m => decide (m.img ≤ r.evtB) && decide (r.evtB < m.img + m.len)
  let d' := d.snapshot t startNs
  (mine.filter fun r => edgeHit r.evtA (d.byte (0x03000000 + r.evtB)) (d'.byte (0x03000000 + r.evtB))).foldl
    (fun x r => x.eventTrigger r.task x.now) d'

/-- An instant of a cyclic task (R240, R246, R248), with the instants that a forward step passed before it (R161). A run still under way has
missed its deadline, which the instant shows: the overrun is judged first, while stopping too. -/
def Dev.taskInstant (d : Dev) (t at_ missed : Nat) : Dev :=
  match d.engine with
  | 2 | 5 =>
    if d.role = 2 ∨ d.role = 3 ∨ d.role = 4 then d
    else
      let d := if missed = 0 then d
        else ((d.count (taskCounter t 2) missed).setRun t fun x => { x with skipped := true }).limited (scopeOf (srcTask t) 0x0027) missed
          fun d c => d.seEvent (srcTask t) 0x0027 (min c 0xFFFFFFFF)
      if (d.run t).phase ≠ 0 then (d.overrun [t]).sendSafe t at_ else d.cyclicSnapshot t at_
  | 4 => if (d.run t).phase ≠ 0 ∧ d.role ≠ 2 then (d.overrun [t]).sendSafe t at_ else d
  | 1 | 3 => d.sendSafe t at_
  | _ => d

/-! ### Publication (step 5 of Table 10.4) -/

/-- A publication to an Ethernet station: sent, or held while the slot is LOST (R252, R253). -/
def Dev.publishStation (d : Dev) (maps : List MapRec) (t : Nat) (r : StnRec) : Dev :=
  if d.get (Ent.Stn.KIND r.slot) ≠ 1 ∨ r.outLen = 0 then d
  else if d.get (Ent.Stn.STATE r.slot) = 3 then (d.setSlot r.slot fun x => { x with held := true }).count (slotCounter r.slot 4)
  else
    let data := (maps.filter fun m => m.kind == 0 && m.src == r.slot).foldl (fun b m => patch b m.srcOff (d.published maps m.img m.len)) (zeros r.outLen)
    ((d.setSlot r.slot fun x => { x with held := false }).stationSend r false (d.run t).cycle (d.run t).startNs (slice data 0 r.outLen))

/-- Load-channel commands of a publication: channels whose 4 bytes an entry covers (R301). -/
def Dev.publishLoads (d : Dev) (maps : List MapRec) : Dev :=
  (maps.filter fun m => m.kind == 1 && m.src == 1).foldl (fun d m =>
    (List.range 24).foldl (fun d n =>
      if m.srcOff ≤ 4 * n ∧ 4 * n + 4 ≤ m.srcOff + m.len ∧ d.get (Ent.Lc.OWNER n) = 1 then
        d.loadCommand n (loadCmdWord (ofLe (d.published maps (m.img + (4 * n - m.srcOff)) 4)))
      else d) d) d

/-- A TPDO goes to its channel's service transmitter. -/
def Dev.tpdoSend (d : Dev) (k : Nat) (b : Bytes) : Dev :=
  let v := d.get (Ent.Co.TPDO_COB k)
  let n := d.get (Ent.Co.TPDO_CHANNEL k)
  if bit v 31 ∨ d.flag (Ent.CanCo.CO_ENABLE n) = false ∨ d.get (Ent.CanCo.NMT n) ≠ 5 then d else d.svcSend n v b

/-- TPDOs of type 0xFE whose mapping lies wholly in the slot's kind-2 ranges, or in any of them if they name no slot; a LOST slot's are held (R190,
R252). -/
def Dev.publishPdos (d : Dev) (maps : List MapRec) : Dev :=
  let mine := maps.filter fun m => m.kind == 2
  let held := (mine.map (·.src)).eraseDups.filter fun s => d.get (Ent.Stn.STATE s) == 3
  let d := ((mine.map (·.src)).eraseDups).foldl (fun d s => d.setSlot s fun x => { x with held := held.contains s }) d
  let d := held.foldl (fun d s => d.count (slotCounter s 4)) d
  (List.range 128).foldl (fun d k =>
    let m := d.pdoMap false k
    let s := d.get (Ent.Co.TPDO_SLOT k)
    let inside (x : Nat × Nat) : Bool := mine.any fun r => (r.src == s || decide (255 < s)) && decide (r.img ≤ x.1) && decide (x.1 + x.2 ≤ r.img + r.len)
    if bit (d.get (Ent.Co.TPDO_COB k)) 31 = false ∧ d.get (Ent.Co.TPDO_TYPE k) = 0xFE ∧ m ≠ [] ∧ m.all inside ∧ !held.contains s then
      let d := d.tpdoSend k (m.flatMap fun x => d.published maps x.1 x.2)
      if 255 < s then d else (d.setSlot s fun x => { x with first := false }).count (slotCounter s 3)
    else d) d

/-- A run's outputs are not sent: the role does not drive (R254), or the run's INPUTS came before the promotion (R506). A device that has handed over
still publishes before I (R509). -/
def Dev.silent (d : Dev) (t : Nat) : Bool :=
  d.twin.muted.contains t || (d.standby && !(d.twin.hand.any fun h => h.step == 3 && decide (d.now < h.instant)))

/-- Publication of a task's run. A role that does not drive sends nothing (R254); both twins take the CRC of the bytes (R501). -/
def Dev.publish (d : Dev) (t : Nat) : Dev :=
  let maps := (imgOut d.image).filter fun m => m.task == t
  let stns := (imgStations d.image).filter fun s => s.task == t
  let bytes := maps.flatMap fun m => d.published maps m.img m.len
  let cycle := (d.run t).cycle
  let lowest := ((imgCyclic d.image).map (·.task)).foldl min 16 == t
  if d.silent t then (d.setTwin fun x => { x with muted := x.muted.filter (· != t) }).ownOutputs t cycle bytes
  else
    let d := stns.foldl (fun d r => d.publishStation maps t r) d
    ((d.publishLoads maps).publishPdos maps).sendOutputs t cycle bytes lowest

/-- Every task is idle while stopping: safe values, STOPPED, and the STOP completes (R237). -/
def Dev.stopIfIdle (d : Dev) : Dev := if d.engine = 4 ∧ d.allIdle then ((d.engineSafe).setEngine 1).cmdDone .ok else d

/-- Executor `x` writes DONE (R243): only its innermost running task can end. Its outputs are published, and a pending event run starts. -/
def taskDoneOp (x t : Nat) (d : Dev) : Dev :=
  match KV.get [] x d.scan.stackOf with
  | u :: rest =>
    if u = t ∧ d.running then
      let ns := min (d.time.raw - (d.run t).origin) 0xFFFFFFFF
      let d := (d.put (Ent.Task.LAST_EXEC_NS t) ns).put (Ent.Task.MAX_EXEC_NS t) (max (d.get (Ent.Task.MAX_EXEC_NS t)) ns)
      let d := (d.count (taskCounter t 0)).setScan fun s => { s with stackOf := KV.put [] x rest s.stackOf }
      let again := (d.run t).pending
      let d := (d.setRun t fun r => { r with phase := 0, pending := none }).publish t
      match again with
      | some at_ => if d.engine = 2 ∨ d.engine = 5 then d.snapshot t at_ else d.stopIfIdle
      | none => d.stopIfIdle
    else d.count ⟨Ent.Se.DONE_IGNORED, Ent.Se.COUNTER_SAT, 0, srcEngine⟩
  | [] => d.count ⟨Ent.Se.DONE_IGNORED, Ent.Se.COUNTER_SAT, 0, srcEngine⟩

/-! ### START, STOP, ACK_FAULT (R235, R237, R248) -/

/-- The task counters of 0x4410+t are cleared, and the runs and slots begin anew (R237). -/
def Dev.clearTasks (d : Dev) : Dev :=
  let d := (List.range 48).foldl (fun d t => [1, 2, 3, 4, 5, 6, 7].foldl (fun d s => d.put ⟨0x4410 + t, s, 64, 0⟩ 0) d) d
  (d.setScan fun s => { s with runs := [] }).setScan fun s => { s with slots := KV.mapVal (fun _ x => { x with got := false, first := true }) s.slots }

/-- START of a stopped engine at corrected time A: every cyclic task's unit is claimed and armed for the earliest instant at or after A + 1 ms. -/
def Dev.startEngine (d : Dev) : Dev :=
  let now := d.now
  let d := (imgCyclic d.image).foldl (fun d r => d.armTask r (r.instant (now + 1000000))) d
  d.clearTasks.setEngine 2

def engineStartOp (d : Dev) : Dev := if d.engine = 1 then d.startEngine.cmdDone .ok else d.cmdRefused

/-- STOP: each task finishes its cycle; pending triggers are dropped. -/
def engineStopOp (d : Dev) : Dev :=
  if d.engine = 2 then
    ((d.setEngine 4).setScan fun s => { s with runs := KV.mapVal (fun _ r => { r with pending := none }) s.runs }).stopIfIdle
  else d.cmdRefused

def engineAckFaultOp (d : Dev) : Dev :=
  if d.engine = 3 then
    ((((d.put Ent.Se.FAULT_CAUSE 0).setTwin fun t => { t with scan := false }).faultRefresh).setEngine 1).cmdDone .ok
  else d.cmdRefused

/-! ### Retentive data (R255, R256) -/

/-- Put cells in place of what a region holds. -/
def Dev.setRegion (d : Dev) (lo hi : Nat) (cells : List Host.Cell) : Dev :=
  cells.foldl (fun d c => if lo ≤ c.1 ∧ c.1 < hi then d.setByte c.1 c.2 else d) { d with mem := KV.keep (fun a _ => !(decide (lo ≤ a) && decide (a < hi))) d.mem }

/-- The area from RETAIN_INIT records, the rest zeroed. -/
def Dev.retainInit (d : Dev) (img : Bytes) : Dev :=
  (imgRetainInit img).foldl (fun d r => match r with
    | some (off, b) => d.writeMem (0x03020000 + off) (b.take (0x40000 - off))
    | none => d) (d.setRegion 0x03020000 0x03060000 [])

/-- RETAIN_STATUS and RETAIN_RESTORE. -/
def Dev.retainStatus (d : Dev) (v : Nat) : Dev := (d.put Ent.Se.RETAIN_STATUS v).seEvent srcEngine 0x0026 v

/-- The newest record whose RETAIN_LAYOUT equals the image's is restored, or the area is initialised (R256). -/
def Dev.retainRestore (d : Dev) (img : Bytes) : Dev :=
  match d.scan.records.find? fun r => r.layout == imgRetain img with
  | some r => (d.setRegion 0x03020000 0x03060000 r.data).retainStatus (if r.mask = 0 then 1 else 2)
  | none => (d.retainInit img).retainStatus 0

/-- Power fail (R255): the executors halt, the tasks are abandoned, and a save of the area as it stands begins. -/
def Dev.retainSave (d : Dev) : Dev :=
  let mask := d.scan.runs.foldl (fun v r => setBit v r.1 (r.2.phase == 2)) 0
  let rec_ : Retain := ⟨d.retainCells, d.get Ent.Se.ACTIVE_ID, imgRetain d.image, d.now, mask⟩
  (d.abandonTasks).setScan fun s => { s with saving := some (d.time.raw, rec_) }

/-- The save completes: the record takes the place of the older of two (R255). -/
def Dev.retainSaved (d : Dev) : Dev :=
  match d.scan.saving with
  | none => d
  | some (raw, r) =>
    (d.setScan fun s => { s with saving := none, records := (r :: s.records).take 2 }).seEvent srcEngine 0x0025
      (min ((d.time.raw - raw) / 1000) 0xFFFFFFFF)

/-! ### LOAD (R239, R258) -/

/-- Exchange the two instruction banks of a core (R239). -/
def Dev.swapBanks (d : Dev) (c : Nat) : Dev :=
  let a := tcmBase c
  let inside (x : Nat) : Bool := decide (a ≤ x) && decide (x < a + 0x10000)
  (KV.keep (fun x _ => inside x) d.mem).foldl (fun d c => d.setByte (if c.1 < a + 0x8000 then c.1 + 0x8000 else c.1 - 0x8000) c.2)
    { d with mem := KV.keep (fun x _ => !inside x) d.mem }

/-- The CODE sections go to the alternate banks, of both cores of a pair. -/
def Dev.loadBanks (d : Dev) (img : Bytes) : Dev :=
  (imgSects img).foldl (fun d s =>
    if s.kind = 1 then (execCores s.exec).foldl (fun d c => d.writeMem (tcmBase c + 0x8000 + s.load) (s.bytes img)) d else d) d

/-- The data TCM of an executor: zero but for its DATA section. -/
def Dev.loadData (d : Dev) (img : Bytes) (x : Nat) : Dev :=
  let d := (execCores x).foldl (fun d c => d.setRegion (tcmBase c + 0x10000) (tcmBase c + 0x20000) []) d
  match (imgSects img).find? fun s => s.kind == 2 && s.exec == x with
  | some s => d.writeTcm x s.load (s.bytes img)
  | none => d

def Dev.exchangeBanks (d : Dev) (img : Bytes) : Dev := (imgCores img).foldl Dev.swapBanks d

/-- Slots as a loaded image names them: WAITING, the others OFF (Table 10.9). -/
def Dev.loadSlots (d : Dev) (img : Bytes) : Dev :=
  let named := (imgStations img).map (·.slot)
  ((List.range 256).foldl (fun d s => d.put (Ent.Stn.STATE s) (if named.contains s then 1 else 0)) d).setScan fun x => { x with slots := [] }

/-- LOAD releases every force (R271). -/
def Dev.clearForces (d : Dev) : Dev :=
  let n := d.scan.forces.length
  if n = 0 then d else ((d.setScan fun s => { s with forces := [] }).forcesChanged).seEvent srcEngine 0x002D n

/-- The steps of a successful LOAD. A warm reset leaves the trigger units of the image as they are (R145) and keeps the retentive area (R256). -/
def Dev.loadImage (d : Dev) (img : Bytes) (warm : Bool := false) : Dev :=
  let old := d.image
  let had := d.engine != 0
  let d := (imgCyclic old).foldl (fun d r => if had && !warm then d.releaseUnit r.unit else d) d
  let d := (imgExecs img).foldl (fun d x => d.loadData img x) (d.loadBanks img)
  let d := d.exchangeBanks img
  let d := if warm then d.retainStatus 3 else if !had || imgRetain old != imgRetain img then d.retainRestore img else d
  let d := if warm then d else d.recordWritten 2 0
  let d := ((d.putOct Ent.Seimg.ACTIVE_IMAGE img).put Ent.Se.ACTIVE_ID (imgId img)).loadSlots img
  let d := (d.setScan fun s => { s with runs := [], ready := [], stackOf := [] }).clearForces
  (d.seEvent srcEngine 0x0028 (imgId img)).engineSafe.setEngine 1

/-- LOAD: the checks of Table 10.18 in order; a failed LOAD changes nothing. -/
def engineLoadOp (d : Dev) : Dev :=
  if (d.engine ≠ 0 ∧ d.engine ≠ 1) ∨ d.rescue then d.cmdRefused
  else match KV.find Ent.Seimg.ALT_IMAGE.key d.blobs with
  | none => d.cmdDone .notConfigured
  | some img =>
    match imageFault d img (imgCores img) with
    | some (s, a, b) => d.cmdDone s a b
    | none => (d.loadImage img).cmdDone .ok

/-! ### APPLY (R250, R259) -/

/-- SE_MAC is all zeros or unicast, and no other MAC address of the device (R250). -/
def senetFault (x : Dev) : Option Nat :=
  let m := ofBe (x.oct Ent.Senet.SE_MAC)
  if m = 0 then none
  else if bit m 40 ∨ m = x.board.deviceMac ∨ (List.range 4).any (fun u => ofBe (x.oct (Ent.Bu.BU_MAC u)) == m) then some 1 else none

/-- A slot's MAC is unicast for KIND 1 (Table 10.21). -/
def slotFault (x : Dev) (s : Nat) : Option Nat :=
  let m := ofBe (x.oct (Ent.Stn.MAC s))
  if x.get (Ent.Stn.KIND s) = 1 ∧ bit m 40 then some 2 else none

/-- An APPLY changes KIND, MAC, PORT or CHANNEL: a reassignment. -/
def slotMoves (old new : Dev) (s : Nat) : Bool :=
  new.get (Ent.Stn.KIND s) != old.get (Ent.Stn.KIND s) || new.oct (Ent.Stn.MAC s) != old.oct (Ent.Stn.MAC s) ||
  new.get (Ent.Stn.PORT s) != old.get (Ent.Stn.PORT s) || new.get (Ent.Stn.CHANNEL s) != old.get (Ent.Stn.CHANNEL s)

/-- Such an APPLY is refused while the engine runs an image that names the slot (R259). -/
def Dev.slotBusy (d : Dev) (s : Nat) : Bool := d.running && (imgStation d.image s).isSome

def Dev.slotApplied (d : Dev) (old : Dev) (s : Nat) : Dev :=
  if slotMoves old d s then
    (d.bumpEpoch (.station s)).put (Ent.Stn.STATE s) (if d.engine ≠ 0 ∧ (imgStation d.image s).isSome then 1 else 0)
      |>.setScan fun x => { x with slots := KV.erase s x.slots }
  else d

/-- Word of executor `x` as it reads (Table 10.3). -/
def Dev.executorWord (d : Dev) (x : Nat) : Nat :=
  match KV.get [] x d.scan.stackOf with
  | [] => 0
  | t :: r => 2 ^ 31 + t * 256 + (r.length + 1)

/-! ### Meanings -/

def execEngineStart (s : State) := onDev s engineStartOp
def execEngineStop (s : State) := onDev s engineStopOp
def execEngineAckFault (s : State) := onDev s engineAckFaultOp
def execEngineLoad (s : State) := onDev s engineLoadOp
def execEvtFire (v : Nat) (s : State) := onDev s (evtFireOp v)
def execTaskFault (x v : Nat) (s : State) := onDev s (taskFaultOp x v)
def execDeadlineOverrun (ts : List Nat) (s : State) := onDev s (deadlineOverrunOp ts)
def execStationFrameReceive (src : Nat) (b : Bytes) (s : State) := onDev s (stationFrameReceiveOp src b)

end Sys2Proof.Machine
end

