-- ==== Sys2Proof/Machine/Change.lean ====
section
/-! DEFINITION. Online change and forcing (R261 to R278). -/

namespace Sys2Proof.Machine

/-! ### The mapping table (R266) -/

/-- A mapping record (Table 11.7). -/
def mapRecord (e : MapEntry) : Bytes :=
  let nib (v : Option VarRec) : Nat := match v with
    | none => 0xF
    | some v => if v.exec = 0xFF then 0xF else v.exec
  le 4 (((e.new.map (·.tag)).getD ((e.old.map (·.tag)).getD 0))) ++ le 1 e.action ++ le 1 ((e.old.map (·.area)).getD 0xFF) ++
  le 1 ((e.new.map (·.area)).getD 0xFF) ++ le 1 (nib e.old * 16 + nib e.new) ++ le 4 ((e.old.map (·.off)).getD 0) ++ le 4 ((e.new.map (·.off)).getD 0)

/-- Carried bytes B (R266). -/
def carried (l : List MapEntry) : Nat := ((l.filter fun e => e.action == 0).map fun e => (e.new.map (·.size)).getD 0).sum

/-- Executors whose data TCM the switch rebuilds (R265). -/
def rebuilt (old new : Bytes) : List Nat :=
  (List.range 12).filter fun x =>
    ((imgSects new).any fun s => s.kind == 2 && s.exec == x) || (imgVars old ++ imgVars new).any fun v => v.area == 3 && v.exec == x

/-- SWITCH_EST in ns (R265). -/
def switchEst (x b : Nat) : Nat := 20000 + 6000 * x + (b + 1) / 2

/-- SWITCH_EST of a change. -/
def changeEst (old new : Bytes) : Nat := switchEst (rebuilt old new).length (carried (mapEntries (imgVars old) (imgVars new)))

/-- A force keeps its variable in an image (R271): same tag and type. -/
def keepsForce (old new : List VarRec) (tag : Nat) : Bool :=
  match old.find? (fun v => v.tag == tag), new.find? (fun v => v.tag == tag) with
  | some o, some v => o.sameType v
  | _, _ => false

/-! ### The checks of Table 11.1 -/

/-- A cyclic task of both images that differs in EXEC, PERIOD_US, PHASE_US or TRIG_UNIT. -/
def taskMoved (old : Bytes) (r : TaskRec) : Bool :=
  decide (r.task < 16) && match imgTask old r.task with
    | none => false
    | some o => o.exec != r.exec || o.period != r.period || o.phase != r.phase || o.unit != r.unit

/-- Checks 4 to 10, with the section and record of R258; where Table 11.1 names no record both are 0 (DESIGN CHOICE, assumption 48). -/
def Dev.changeFault (d : Dev) (new : Bytes) (release : Bool) : Option (Status × Nat × Nat) :=
  let old := d.image
  let m := mapEntries (imgVars old) (imgVars new)
  firstSome
    [ if imgBase new = 0 ∨ imgBase new ≠ d.get Ent.Se.ACTIVE_ID then some (.conflict, 0, 0) else none,
      if imgId new = d.get Ent.Se.ACTIVE_ID then some (.conflict, 0, 0) else none,
      (firstAt (taskMoved old) (imgTasks new) 0).map fun n => (.conflict, sectIdx new 3, n),
      if 16384 < (imgVars old).length ∨ 16384 < (imgVars new).length then some (.noResource, 0, 0) else none,
      if 1048576 < carried m then some (.noResource, 0, 0) else none,
      if 500000 < changeEst old new then some (.noResource, 0, 0) else none,
      if release then none
      else (firstAt (fun f => !keepsForce (imgVars old) (imgVars new) f) (d.scan.forces.map (·.1)) 0).map fun n => (.conflict, 0, n) ]

/-- The checks of Table 11.1; `standby` leaves out the role condition (R275). -/
def Dev.changeCheck (d : Dev) (img : Option Bytes) (release standby : Bool) : Option (Status × Nat × Nat) :=
  if d.engine ≠ 2 ∨ d.get Ent.Chg.CHANGE_STATE ≠ 0 ∨ (!standby ∧ (d.role = 2 ∨ d.role = 3)) then some (.wrongState, 0, 0)
  else match img with
  | none => some (.notConfigured, 0, 0)
  | some new =>
    match imageFault d new ((imgCores new).filter fun c => !(imgCores d.image).contains c) with
    | some x => some x
    | none => d.changeFault new release

/-! ### Preparation (R263) -/

/-- Alternate banks, mapping table, pending image; the engine enters CHANGING. -/
def Dev.prepareChange (d : Dev) (new : Bytes) (word : Nat) (twin : Bool) (st : Nat) : Dev :=
  let m := mapEntries (imgVars d.image) (imgVars new)
  let d := (d.loadBanks new).putOct Ent.Chg.MAP_TABLE (m.flatMap mapRecord)
  let d := d.setScan fun s => { s with change := some ⟨new, none, word, d.time.raw, twin, none, d.get Ent.Se.ACTIVE_ID, 0, 0, 0, 0, [], 0⟩ }
  ((d.setEngine 5).put Ent.Chg.CHANGE_STATE st).seEvent srcEngine 0x0029 (imgId new)

/-- Messages of an online change (CHANGE of Table 22.6). The manual does not give their bodies: kind 1 the word and a piece of the image, 2 the
standby's answer, 3 COMMIT with I (DESIGN CHOICE, assumption 49). -/
def Dev.sendChange (d : Dev) (word : Nat) (img : Bytes) : Dev :=
  (pieces (img.length / 8192 + 1) 0 img).foldl (fun d p =>
    d.post 0 0x0D (le 1 1 ++ le 1 (b2n p.2.2) ++ le 2 word ++ le 4 p.1 ++ p.2.1)) d
def Dev.sendReady (d : Dev) (s : Status) : Dev := d.post 0 0x0D (le 1 2 ++ zeros 1 ++ le 2 s.code)
def Dev.sendCommit (d : Dev) (i : Nat) : Dev := d.post 0 0x0D (le 1 3 ++ zeros 3 ++ le 8 i)

/-- CHANGE with OP 1 (R261). A refused request counts in REFUSALS and empties CHANGE_RESULT and MAP_TABLE (R277; DEDUCED, assumption 48). -/
def changeStartOp (v : Nat) (d : Dev) : Dev :=
  if bits v 3 0 ≠ 1 ∨ bits v 15 9 ≠ 0 ∨ bits v 7 4 ≠ 0 then d.answer .outOfRange
  else
    let img := KV.find Ent.Seimg.ALT_IMAGE.key d.blobs
    match d.changeCheck img (bit v 8) false with
    | some (s, a, b) =>
      let d := (d.count (changeCounter 1)).put Ent.Chg.CHANGE_STATUS (imageStatus s a b)
      ((d.putOct Ent.Chg.CHANGE_RESULT []).putOct Ent.Chg.MAP_TABLE []).finish Ent.Chg.CHANGE.key s
    | none =>
      let new := img.getD []
      let active := d.role = 1
      let d := (d.put Ent.Chg.CHANGE_STATUS 0).putOct Ent.Chg.CHANGE_RESULT []
      let d := d.prepareChange new v active (if active then 2 else 3)
      (if active then d.sendChange v new else d).finish Ent.Chg.CHANGE.key .ok

/-- A change in progress ends before its switch, and the engine returns to RUN (R262, R270, R275). -/
def Dev.dropChange (d : Dev) (s : Status) : Dev :=
  let st := d.get Ent.Chg.CHANGE_STATE
  if 1 ≤ st ∧ st ≤ 3 then (d.changeEnd s).setEngine 2 else d

/-- CHANGE with OP 2 (R262). -/
def changeCancelOp (d : Dev) : Dev :=
  let st := d.get Ent.Chg.CHANGE_STATE
  if 1 ≤ st ∧ st ≤ 3 then (d.dropChange .aborted).answer .ok else d.answer .wrongState

/-! ### The common boundary and the switch (R264 to R268) -/

/-- Every task is idle and no event trigger is pending. -/
def Dev.quiet (d : Dev) : Bool := d.allIdle && d.scan.runs.all fun r => r.2.pending.isNone

/-- Every armed cyclic task's next instant lies at least `ns` from now. -/
def Dev.clearFor (d : Dev) (ns : Nat) : Bool :=
  (imgCyclic d.image).all fun r => !d.flag (Ent.Trgu.ENABLE r.unit) || decide (d.now + ns ≤ d.get (Ent.Trgu.NEXT_NS r.unit))

/-- The earliest next instant of the armed cyclic tasks. -/
def Dev.nextInstant (d : Dev) : Nat :=
  let l := ((imgCyclic d.image).filter fun r => d.flag (Ent.Trgu.ENABLE r.unit)).map fun r => d.get (Ent.Trgu.NEXT_NS r.unit)
  l.foldl min (l.headD d.now)

/-- A common boundary, with margin M of 5 µs solo and 50 µs for the active twin (R264). -/
def Dev.boundary (d : Dev) (est : Nat) : Bool := d.quiet && d.clearFor (est + (if d.role = 1 then 50000 else 5000))

/-- A station record keeps its slot's state and epoch (R268). -/
def slotKept (old new : Bytes) (r : StnRec) : Bool :=
  match imgStation old r.slot with
  | none => false
  | some o => o.task == r.task && o.inLen == r.inLen && o.outLen == r.outLen && o.mode == r.mode && o.loss == r.loss &&
      stationData old o.subst o.inLen == stationData new r.subst r.inLen && stationData old o.safe o.outLen == stationData new r.safe r.outLen

/-- Slots at the switch (R268). -/
def Dev.switchSlots (d : Dev) (old new : Bytes) : Dev :=
  let named := (imgStations new).map (·.slot)
  let d := (imgStations new).foldl (fun d r =>
    if slotKept old new r then d
    else ((d.bumpEpoch (.station r.slot)).put (Ent.Stn.STATE r.slot) 1).setScan fun x => { x with slots := KV.erase r.slot x.slots }) d
  ((imgStations old).filter fun r => !named.contains r.slot).foldl (fun d r =>
    (d.put (Ent.Stn.STATE r.slot) 0).setScan fun x => { x with slots := KV.erase r.slot x.slots }) d

/-- Trigger units and runs at the switch (R268): new cyclic tasks are armed, removed ones released. -/
def Dev.switchTasks (d : Dev) (old new : Bytes) : Dev :=
  let now := d.now
  let d := ((imgCyclic old).filter fun r => (imgTask new r.task).isNone).foldl (fun d r => d.releaseUnit r.unit) d
  let d := ((imgCyclic new).filter fun r => (imgTask old r.task).isNone).foldl (fun d r => d.armTask r (r.instant (now + 1000000))) d
  d.setScan fun s => { s with runs := KV.keep (fun t _ => (imgTask new t).isSome) s.runs }

/-- The data steps 1 to 5 of R267. -/
def Dev.switchData (d : Dev) (old new : Bytes) : Dev :=
  let m := mapEntries (imgVars old) (imgVars new)
  let staged := m.filterMap fun e => match e.action, e.old, e.new with
    | 0, some o, some v => some (v, d.readMem o.addr o.size)
    | _, _, _ => none
  let d := (rebuilt old new).foldl (fun d x => d.loadData new x) d
  let d := if imgRetain old ≠ imgRetain new then d.retainInit new else d
  let d := m.foldl (fun d e => match e.new with
    | some v => if (e.action = 1 ∨ e.action = 2) ∧ v.area ≤ 1 then d.writeMem v.addr (zeros v.size) else d
    | none => d) d
  staged.foldl (fun d x => if x.1.area = 3 then d.writeTcm x.1.exec x.1.off x.2 else d.writeMem x.1.addr x.2) d

/-- Step 6: forces whose variable has the same tag and type stay; the others are released. -/
def Dev.switchForces (d : Dev) (old new : Bytes) : List Nat × Dev :=
  let gone := (d.scan.forces.map (·.1)).filter fun t => !keepsForce (imgVars old) (imgVars new) t
  if gone = [] then ([], d)
  else (gone, (d.setScan fun s => { s with forces := KV.keep (fun t _ => !gone.contains t) s.forces }).forcesChanged)

/-- The switch (R267). Its measured duration is a free value that SWITCH_EST bounds (R265). -/
def Dev.switchImage (d : Dev) (c : Change) : Dev :=
  let old := d.image
  let new := c.image
  let start := d.now
  let wait := min ((d.time.raw - c.since) / 1000) 0xFFFFFFFF
  let lost := (d.scan.runs.filter fun r => r.2.pending.isSome && (imgTask new r.1).isNone).length
  let again := (d.scan.runs.filter fun r => r.2.pending.isSome && (imgTask new r.1).isSome).map fun r => (r.1, (r.2.pending).getD 0)
  let (ns, d) := d.draw 32
  let d := d.switchData old new
  let (gone, d) := d.switchForces old new
  let d := ((d.exchangeBanks new).switchTasks old new).switchSlots old new
  let d := ((d.recordWritten 2 0).putOct Ent.Seimg.ACTIVE_IMAGE new).put Ent.Se.ACTIVE_ID (imgId new)
  let c := { c with old := some old, switchTime := start, waitUs := wait, switchNs := ns.toNat % (changeEst old new + 1),
                    kept := d.scan.forces.length, released := gone, discarded := lost }
  let d := ((d.setScan fun s => { s with change := some c }).setEngine 2).put Ent.Chg.CHANGE_STATE 4
  again.foldl (fun d x => d.snapshot x.1 x.2) d

/-- The engine finds the boundary (R264); the active names I in COMMIT and then switches, the standby switches before I once it knows it and every
task is idle (R276). -/
def changeSwitchOp (d : Dev) : Dev :=
  match d.scan.change with
  | none => d
  | some c =>
    if d.get Ent.Chg.CHANGE_STATE ≠ 3 then d
    else if d.role = 2 ∨ d.role = 3 then
      match c.commitAt with
      | none => d
      | some i =>
        if !d.allIdle then d
        else if i < d.now + changeEst d.image c.image then (d.dropChange .aborted).setRole 3
        else d.switchImage c
    else if d.boundary (changeEst d.image c.image) then (if c.twin then d.sendCommit d.nextInstant else d).switchImage c
    else d

/-- The switch record is durable (R269). -/
def changeCommitOp (d : Dev) : Dev := if d.get Ent.Chg.CHANGE_STATE = 4 then d.changeEnd .ok else d

/-- The window of a change in ns: WINDOW_PERIODS of the longest period of the old image's cyclic tasks, of 1 ms if it has none (R270). -/
def Dev.changeWindow (d : Dev) : Nat :=
  let l := (imgCyclic d.image).map (·.period)
  d.get Ent.Chg.WINDOW_PERIODS * (if l = [] then 1000 else l.foldl max 0) * 1000

/-- Since the change of the raw counter that it keeps, `ns` have passed. -/
def Dev.changeAged (d : Dev) (ns : Nat) : Bool := d.scan.change.any fun c => d.passed c.since ns

/-- The window passes (R270). -/
def changeWindowTimeoutOp (d : Dev) : Dev :=
  if d.get Ent.Chg.CHANGE_STATE = 3 ∧ d.changeAged d.changeWindow then d.dropChange .wrongState else d

/-- The standby's answer (R275): ready, or a refusal. -/
def changeStandbyReadyOp (ready : Bool) (d : Dev) : Dev :=
  if d.get Ent.Chg.CHANGE_STATE ≠ 2 then d
  else if ready then
    (d.put Ent.Chg.CHANGE_STATE 3).setScan fun s => { s with change := s.change.map fun c => { c with since := d.time.raw } }
  else d.dropChange .remoteFailed

/-- The standby does not report within STANDBY_READY_MS (R275). -/
def standbyReadyTimeoutOp (d : Dev) : Dev :=
  if d.get Ent.Chg.CHANGE_STATE = 2 ∧ d.changeAged (d.get Ent.Chg.STANDBY_READY_MS * 1000000) then d.dropChange .remoteTimeout else d

/-- The standby receives the pending image and the CHANGE word, checks and prepares, and reports (R275). -/
def standbyChangeReceiveOp (word : Nat) (img : Bytes) (d : Dev) : Dev :=
  if d.role ≠ 2 then d
  else match d.changeCheck (some img) (bit word 8) true with
  | some (s, _, _) => d.sendReady s
  | none => ((d.prepareChange img word true 3).sendReady .ok)

/-- The standby receives COMMIT naming I (R276): it switches at once when every task is idle, later otherwise, and if it cannot complete the switch
before I it discards the change and becomes standby-degraded. -/
def changeCommitReceiveOp (i : Nat) (d : Dev) : Dev :=
  match d.scan.change with
  | none => if d.role = 2 then d.setRole 3 else d
  | some c =>
    if d.role ≠ 2 ∨ d.get Ent.Chg.CHANGE_STATE ≠ 3 then d
    else changeSwitchOp (if i < d.now + changeEst d.image c.image then (d.dropChange .aborted).setRole 3
      else d.setScan fun s => { s with change := some { c with commitAt := some i } })

/-! ### Forces (R271, R272, R274) -/

/-- The standby refuses FORCE_SET and the releases (R274). -/
def Dev.forceClosed (d : Dev) : Bool := d.role == 2 || d.role == 3

/-- FORCE_SET (R272, Table 11.4). -/
def Dev.forceSet (d : Dev) (b : Bytes) : Status × Dev :=
  let tag := leAt b 0 4
  let ty := leAt b 4 2
  let len := leAt b 6 2
  if d.forceClosed || d.engine == 0 || d.get Ent.Chg.CHANGE_STATE != 0 then (.wrongState, d)
  else match (imgVars d.image).find? fun v => v.tag == tag with
  | none => (.outOfRange, d)
  | some v =>
    if tag = 0 then (.outOfRange, d)
    else if v.ty ≠ ty then (.typeMismatch, d)
    else if 64 < v.size then (.outOfRange, d)
    else if len ≠ v.size then (.lengthMismatch, d)
    else if (KV.find tag d.scan.forces).isNone ∧ 256 ≤ d.scan.forces.length then (.noResource, d)
    else (.ok, ((d.setScan fun s => { s with forces := KV.insert tag (ty, slice b 8 len) s.forces }).forcesChanged).seEvent srcEngine 0x002B tag)

/-- FORCE_RELEASE (R272). -/
def Dev.forceRelease (d : Dev) (tag : Nat) : Status × Dev :=
  if d.forceClosed then (.wrongState, d)
  else if (KV.find tag d.scan.forces).isNone then (.outOfRange, d)
  else (.ok, ((d.setScan fun s => { s with forces := KV.erase tag s.forces }).forcesChanged).seEvent srcEngine 0x002C tag)

/-- FORCE_RELEASE_ALL (R272). -/
def Dev.forceReleaseAll (d : Dev) : Status × Dev :=
  if d.forceClosed then (.wrongState, d)
  else
    let n := d.scan.forces.length
    (.ok, (if n = 0 then d else (d.setScan fun s => { s with forces := [] }).forcesChanged).seEvent srcEngine 0x002D n)

/-- Answer with a status and take the device that goes with it. -/
def answered (r : Status × Dev) : Dev := r.2.answer r.1

/-! ### Meanings -/

def execChangeStart (v : Nat) (s : State) := onDev s (changeStartOp v)
def execChangeCancel (s : State) := onDev s changeCancelOp
def execChangeSwitch (s : State) := onDev s changeSwitchOp
def execChangeCommit (s : State) := onDev s changeCommitOp
def execChangeWindowTimeout (s : State) := onDev s changeWindowTimeoutOp
def execChangeStandbyReady (ready : Bool) (s : State) := onDev s (changeStandbyReadyOp ready)
def execStandbyReadyTimeout (s : State) := onDev s standbyReadyTimeoutOp
def execChangeCommitReceive (i : Nat) (s : State) := onDev s (changeCommitReceiveOp i)
def execForceSet (b : Bytes) (s : State) := onDev s fun d => answered (d.forceSet b)
def execForceRelease (tag : Nat) (s : State) := onDev s fun d => answered (d.forceRelease tag)
def execForceReleaseAll (s : State) := onDev s fun d => answered d.forceReleaseAll
def execStandbyChangeReceive (word : Nat) (img : Bytes) (s : State) := onDev s (standbyChangeReceiveOp word img)

end Sys2Proof.Machine
end

