-- ==== Sys2Proof/Machine/Memory.lean ====
section
/-! DEFINITION. Memory codes, address translation, DMA channels, queue pairs and host engines (R346 to R373). -/

namespace Sys2Proof.Machine

/-- DESCRIPTORS 0 to STALE 4 of a channel, TX_FRAMES 0 to ERR_LOST 5 of a queue pair (Table 15.11). -/
def dmaCounter (c i : Nat) : Counter := ⟨⟨0x2C40 + c, 0x11 + i, 64, 0⟩, Ent.Dma.COUNTER_SAT c, i, srcDma c⟩
def qpCounter (q i : Nat) : Counter := ⟨⟨0x2E00 + q, 0x11 + i, 64, 0⟩, Ent.Qp.COUNTER_SAT q, i, srcDma (0x100 + q)⟩

/-! ### Codes (R346, R348) -/

def srcMemory : Nat := srcDma 0x3FF

/-- The CE or UE counter of the memory an address lies in. -/
def memCounter (a : Nat) (ue : Bool) : Counter :=
  let i := (if 0x100000000 ≤ a then 4 else 0) + b2n ue
  ⟨⟨0x2C00, 5 + i, 64, 0⟩, Ent.Mem.COUNTER_SAT, i, srcMemory⟩

/-- The memory of ECC_UNCORRECTABLE: 1 SRAM, 3 DRAM, 4 TCM or process image. -/
def memCode (a : Nat) : Nat := if 0x100000000 ≤ a then 3 else if 0x2000000 ≤ a then 4 else 1

/-- An uncorrectable error is found: counted, written as an event, source 78 pending. -/
def Dev.eccFound (d : Dev) (a : Nat) : Dev :=
  ((d.count (memCounter a true)).put Ent.Mem.UE_LAST a).eventSys 9 srcMemory 0x0023 (memCode a * 2 ^ 28 + a / 64 % 2 ^ 28)

/-- A read by an initiator met faulty words: each is found again. -/
def Dev.readPoison (d : Dev) (a n : Nat) : Dev :=
  match d.dma.poison.find? fun w => decide (a < w + (codeWord w).2) && decide (w < a + n) with
  | some w => d.eccFound w
  | none => d

/-- The scrubber reads a block (R348): 1 a correctable error, 2 an uncorrectable one, which the location keeps until it is written whole. -/
def patrolScrubOp (a err : Nat) (d : Dev) : Dev :=
  let mem : Bool := match region a with
    | some .dram => decide (a < 0x100000000 + d.dramSize)
    | some .sysSram | some .tcm | some .image => true
    | _ => false
  if !mem then d
  else match err with
  | 1 =>
    ((d.count (memCounter a false)).put Ent.Mem.CE_LAST a).limited (scopeOf srcMemory 0x0024) 1 fun d c =>
      d.eventSys 9 srcMemory 0x0024 (min c 0xFFFFFFFF)
  | 2 =>
    let w := (codeWord a).1
    (d.setDma fun m => { m with poison := if m.poison.contains w then m.poison else w :: m.poison }).eccFound w
  | _ => d

/-! ### Translation (R356 to R359) -/

/-- A translation: the physical page, or a fault of a stage. -/
inductive Walk where
  | page (pa : Nat)
  | fault (stage : Nat)
  deriving DecidableEq, Repr

/-- Sv39 at level `l` (2 to 0) of the table at hall address `t`: the hall page of an IOVA, or nothing on a fault of stage 0 (R358). -/
def Dev.sv39 (d : Dev) (h : Nat) (write : Bool) (iova : Nat) : Nat → Nat → Option Nat
  | 0, _ => none
  | l + 1, t =>
    match d.hallRead h (t + iova / 2 ^ (12 + 9 * l) % 512 * 8) 8 with
    | (.ok, b) =>
      let p := ofLe b
      let ppn := p / 1024 % 2 ^ 44
      if !bit p 0 || (!bit p 1 && bit p 2) then none
      else if bit p 1 || bit p 3 then
        if !bit p 6 || (write && !(bit p 2 && bit p 7)) || (!write && !bit p 1) || ppn % 2 ^ (9 * l) != 0 then none
        else some (ppn * 4096 + iova / 4096 % 2 ^ (9 * l) * 4096)
      else Dev.sv39 d h write iova l (ppn * 4096)
    | _ => none

/-- The IOVA's bits [63:39] equal bit 38. -/
def canonical39 (a : Nat) : Bool := a / 2 ^ 38 % 2 ^ 26 == 0 || a / 2 ^ 38 % 2 ^ 26 == 2 ^ 26 - 1

/-- A channel's translation of an IOVA page: from its cache, or through its tables and its hall's windows (Table 15.5). -/
def Dev.dmaWalk (d : Dev) (c iova : Nat) (write : Bool) : Walk :=
  let h := d.get (Ent.Dma.HALL c)
  match KV.find (iova / 4096 * 2 + b2n write) (d.ch c).tlb with
  | some pa => .page pa
  | none =>
    let ha : Option Nat :=
      if d.isSet (Rg.Dmar.XLAT c) then
        if canonical39 iova then d.sv39 h write iova 3 (d.fld (Rg.Dmar.ROOT_LO c) * 4096 + d.fld (Rg.Dmar.ROOT_HI c) * 2 ^ 32) else none
      else some (iova / 4096 * 4096)
    match ha with
    | none => .fault 0
    | some a => match d.translate h write a 4096 with
      | some pa => .page pa
      | none => .fault 1

/-- Keep a translation. -/
def Dev.keepPage (d : Dev) (c iova : Nat) (write : Bool) (pa : Nat) : Dev :=
  d.setCh c fun x => { x with tlb := KV.insert (iova / 4096 * 2 + b2n write) pa x.tlb }

/-- A leased channel works for the secure world (R398). -/
def Dev.dmaSecure (d : Dev) (c : Nat) : Bool := d.leased (gateDma c)

/-- Bytes at a channel's IOVA within one page, as its descriptor fetches and write-backs reach them. -/
def Dev.dmaRead (d : Dev) (c iova n : Nat) : Status × Bytes :=
  match d.dmaWalk c iova false with
  | .fault _ => (.accessAttr, [])
  | .page pa => match d.rangeStatus (d.dmaSecure c) false (pa + iova % 4096) n with
    | .ok => (.ok, d.readMem (pa + iova % 4096) n)
    | s => (s, [])

def Dev.dmaWrite (d : Dev) (c iova : Nat) (b : Bytes) : Status × Dev :=
  match d.dmaWalk c iova true with
  | .fault _ => (.accessAttr, d)
  | .page pa => match d.rangeStatus (d.dmaSecure c) true (pa + iova % 4096) b.length with
    | .ok => (.ok, d.storeMem (pa + iova % 4096) b)
    | s => (s, d)

/-! ### Descriptors (R361 to R363) -/

def Dev.dmaOwner (d : Dev) (c : Nat) : Nat := d.get (Ent.Dma.HALL c)

/-- IOVA of ring entry `i`. -/
def Dev.dmaRing (d : Dev) (c i : Nat) : Nat := d.fld (Rg.Dmar.RING_LO c) * 32 + d.fld (Rg.Dmar.RING_HI c) * 2 ^ 32 + 32 * i

def Dev.dmaRingSize (d : Dev) (c : Nat) : Nat := 2 ^ d.fld (Rg.Dmar.RING_LOG2 c)

def Dev.dmaIrq (d : Dev) (c i : Nat) : Dev := d.setFldBit (Rg.Dmar.IRQ c) i true

/-- The channel stops with a status (R355, R361). -/
def Dev.dmaStop (d : Dev) (c : Nat) (s : Status) : Dev :=
  let d := (((d.setFld (Rg.Dmar.STOPPED c) 1).setFld (Rg.Dmar.CODE c) s.code).setFld (Rg.Dmar.ACTIVE c) 0).dmaIrq c 3
  (d.event (srcDma c) 0x0022 s.code).eventRing (d.dmaOwner c) (srcDma c) 0x0022 s.code

/-- A completion not OK: DESC_ERROR at most once per second per source. -/
def Dev.descError (d : Dev) (source : Nat) : Dev :=
  d.limited (scopeOf source 0x0021) 1 fun d n => d.event source 0x0021 (min n 0xFFFFFFFF)

/-- The device's registers, counters and interrupts after the write-back of a descriptor: HEAD moves on, ACTIVE clears (R361). -/
def Dev.dmaRecorded (d : Dev) (c next : Nat) (irq : Bool) (done : Nat) (s : Status) : Dev :=
  let d := ((d.setFld (Rg.Dmar.HEAD c) next).setFld (Rg.Dmar.CODE c) s.code).setFld (Rg.Dmar.ACTIVE c) 0
  let d := (d.count (dmaCounter c 0)).count (dmaCounter c 3) done
  let d := if irq then d.dmaIrq c 0 else d
  let d := if s = .ok then d else ((d.dmaIrq c 1).count (dmaCounter c 1)).descError (srcDma c)
  if s = .staleEpoch then (d.count (dmaCounter c 4)).staleReject (srcDma c) (d.epoch (.dma c)) else d

/-- A descriptor completes (R361): STATUS and DONE, then CTRL with OWN 0, are written back; HEAD advances. -/
def Dev.dmaComplete (d : Dev) (c : Nat) (desc : Bytes) (done : Nat) (s : Status) : Dev :=
  let head := d.fld (Rg.Dmar.HEAD c)
  let at_ := d.dmaRing c head
  let ctrl := leAt desc 0 4
  let d := d.setCh c fun x => { x with desc := [], done := 0, ended := none, bad := s != .ok, await := [], parts := [], moving := 0 }
  let r1 := d.dmaWrite c (at_ + 26) (le 2 s.code ++ le 4 done)
  let r2 := r1.2.dmaWrite c at_ (le 4 (setBit ctrl 31 false))
  if r1.1 ≠ .ok then d.dmaStop c r1.1
  else if r2.1 ≠ .ok then r1.2.dmaStop c r2.1
  else
    r2.2.dmaRecorded c ((head + 1) % d.dmaRingSize c) (bit ctrl 29) done s

/-- The check of R361 that a descriptor fails first. -/
def Dev.descFault (d : Dev) (c : Nat) (b : Bytes) : Option Status :=
  let ctrl := leAt b 0 4
  let len := leAt b 4 4
  let e := leAt b 24 2
  if (d.dmaOwner c ≠ 0 ∨ e ≠ 0) ∧ e ≠ d.epoch (.dma c) then some .staleEpoch
  else if (bits ctrl 3 0 ≠ 1 ∧ bits ctrl 3 0 ≠ 2) ∨ len = 0 ∨ 16777216 < len then some .outOfRange
  else if bits ctrl 3 0 = 2 ∧ (leAt b 16 8 % 8 ≠ 0 ∨ len % 8 ≠ 0) then some .notAligned
  else if bit ctrl 30 ∧ (d.ch c).bad then some .aborted
  else none

/-- The fetch of the descriptor at HEAD (R361). A ring in a D region is not fetched (R355); a fetch that fails stops the channel with its status
(DEDUCED, assumption 50). -/
def dmaDescriptorFetchOp (c : Nat) (d : Dev) : Dev :=
  if d.get (Ent.Dma.STATE c) ≠ 1 ∨ d.isSet (Rg.Dmar.ACTIVE c) ∨ d.isSet (Rg.Dmar.STOPPED c) ∨ (d.ch c).waits ∨ d.hallStopped (d.dmaOwner c) ∨
      d.fld (Rg.Dmar.HEAD c) = d.fld (Rg.Dmar.TAIL c) % d.dmaRingSize c then d
  else match d.dmaRead c (d.dmaRing c (d.fld (Rg.Dmar.HEAD c))) 32 with
  | (.ok, b) =>
    if !bit (leAt b 0 4) 31 then d.setCh c fun x => { x with waits := true }
    else
      let fault := d.descFault c b
      (d.setFld (Rg.Dmar.ACTIVE c) 1).setCh c fun x => { x with desc := b, done := 0, ended := fault }
  | (s, _) => d.dmaStop c s

/-- A write of TAIL by the owning hall or hall 0 (R361). -/
def dmaTailWriteOp (c hall v : Nat) (d : Dev) : Dev :=
  if hall ≠ 0 ∧ hall ≠ d.dmaOwner c then d.answer .hallDenied
  else ((d.setFld (Rg.Dmar.TAIL c) v).setCh c fun x => { x with waits := false }).answer .ok

/-! ### Bursts (R355, R364, R365) -/

/-- The channel is ready for a burst: it waits for no answer. -/
def Dev.dmaReady (d : Dev) (c : Nat) : Bool :=
  (d.ch c).await.isEmpty && (d.get (Ent.Dma.STATE c) == 1 || d.get (Ent.Dma.STATE c) == 2) && d.isSet (Rg.Dmar.ACTIVE c) && (d.ch c).ended.isNone &&
  !d.isSet (Rg.Dmar.FAULTED c) && !d.isSet (Rg.Dmar.STOPPED c) && !d.hallStopped (d.dmaOwner c)

/-- The channel of the next burst: the highest PRIORITY, and among equals the next after the last one that moved. -/
def Dev.dmaWinner (d : Dev) : Option Nat :=
  let ready := ((List.range 64).map fun i => (d.dma.last + 1 + i) % 64).filter d.dmaReady
  ready.foldl (fun b c => match b with
    | none => some c
    | some a => if d.get (Ent.Dma.PRIORITY a) < d.get (Ent.Dma.PRIORITY c) then some c else some a) none

/-- A fault of Table 15.5: with FAULT_MODE 0 the descriptor ends with ACCESS_ATTR, with 1 the channel stalls (R365). -/
def Dev.dmaFaulted (d : Dev) (c iova stage : Nat) (write : Bool) : Dev :=
  if d.get (Ent.Dma.FAULT_MODE c) = 0 then d.setCh c fun x => { x with ended := some .accessAttr }
  else
    let d := ((d.setFld (Rg.Dmar.FAULT_IOVA_LO c) (iova % 2 ^ 32)).setFld (Rg.Dmar.FAULT_IOVA_HI c) (iova / 2 ^ 32)).setFld (Rg.Dmar.FAULT_DESC c)
      (d.fld (Rg.Dmar.HEAD c))
    let d := ((d.setFld (Rg.Dmar.WRITE c) (b2n write)).setFld (Rg.Dmar.STAGE c) stage).setFld (Rg.Dmar.FAULT_DONE c) (d.ch c).done
    let d := ((d.setFld (Rg.Dmar.FAULTED c) 1).dmaIrq c 2).count (dmaCounter c 2)
    let v := iova / 4096 % 2 ^ 20 * 4096 + b2n write * 2048 + stage * 1024
    let d := (d.event (srcDma c) 0x0020 v).eventRing (d.dmaOwner c) (srcDma c) 0x0020 v
    if stage = 1 ∧ d.dmaOwner c ≠ 0 then d.eventRing 0 (srcDma c) 0x0020 v else d

/-- A D region: unit registers, mezzanine registers, a bridge window without prefetch. -/
def Dev.isD (d : Dev) (a : Nat) : Bool :=
  match region a with
  | some .units | some .mezzRegs => true
  | some .bridgeWindow => match d.windowAt a with
    | some x => !d.flag (Ent.Bctx.PREFETCH (bctx x.1 x.2))
    | none => true
  | _ => false

/-- The transactions that read `n` bytes at `a`: aligned pieces of at most 64 bytes (Table 1.3). -/
def readPieces : Nat → Nat → Nat → List (Nat × Nat)
  | 0, _, _ => []
  | f + 1, a, n =>
    match ([64, 32, 16, 8, 4, 2, 1] : List Nat).find? fun k => a % k == 0 && decide (k ≤ n) with
    | some k => (a, k) :: readPieces f (a + k) (n - k)
    | none => []

/-- The aligned 4-byte writes of a burst into a D region, in address order (R355). -/
def wordPieces : Nat → Bytes → List (Nat × Nat)
  | a, b0 :: b1 :: b2 :: b3 :: r => (a, ofLe [b0, b1, b2, b3]) :: wordPieces (a + 4) r
  | _, _ => []

/-- The bytes a burst moves: the pattern, or the source's. `none`: they lie in a prefetchable window and have not been read yet. -/
def Dev.burstData (d : Dev) (c n pa : Nat) : Option (Status × Bytes) :=
  let x := d.ch c
  if leAt x.desc 0 1 % 16 = 2 then some (.ok, (List.range n).map fun i => (x.desc[8 + (x.done + i) % 8]?).getD 0#8)
  else if d.isD pa then some (.accessAttr, [])
  else if region pa = some .bridgeWindow then
    if x.parts.map (·.1) = (readPieces 512 pa n).map (·.1) then some (.ok, (x.parts.flatMap (·.2)).take n) else none
  else match d.rangeStatus (d.dmaSecure c) false pa n with
  | .ok => some (.ok, d.readMem pa n)
  | s => some (s, [])

/-- Issue transactions of a burst in order, through the concourse `w`: address and size of a read, or address and word of a write. The channel waits for
every answer; a refused one ends the descriptor, and nothing after it is issued (R21). -/
def Dev.dmaIssue (c : Nat) (w : Nat × Nat → Dev → Option (Status × Nat) × Dev) : List (Nat × Nat) → Dev → Dev
  | [], d => d
  | p :: r, d =>
    if (d.ch c).ended.isSome then Dev.dmaIssue c w r (d.setCh c fun x => { x with await := x.await.erase p.1 })
    else match w p d with
      | (some (s, v), d) => Dev.dmaIssue c w r (d.setCh c fun x => x.answered p.1 s (le p.2 v))
      | (none, d) => Dev.dmaIssue c w r d

/-- The concourse as a channel uses it: a read of bytes, and a non-posted write of a word. -/
structure DmaPort where
  read : Nat × Nat → Dev → Option (Status × Nat) × Dev
  write : Nat × Nat → Dev → Option (Status × Nat) × Dev

/-- One burst of a channel (R364): at most 512 bytes, within a page of source and destination. A source in a prefetchable window is read first, and the
channel takes a later burst boundary with its bytes; a burst into a D region or a window has moved what its writes' answers say. -/
def Dev.burst (d : Dev) (c : Nat) (w : DmaPort) : Dev :=
  let x := d.ch c
  let fill := leAt x.desc 0 1 % 16 = 2
  let len := leAt x.desc 4 4
  let src := leAt x.desc 8 8 + x.done
  let dst := leAt x.desc 16 8 + x.done
  let n := min (min 512 (len - x.done)) (min (4096 - dst % 4096) (if fill then 4096 else 4096 - src % 4096))
  let fail (d : Dev) (s : Status) : Dev := d.setCh c fun x => { x with ended := some s }
  match (if fill then Walk.page 0 else d.dmaWalk c src false) with
  | .fault st => d.dmaFaulted c src st false
  | .page sp => match d.dmaWalk c dst true with
    | .fault st => d.dmaFaulted c dst st true
    | .page dp =>
      let d := (if fill then d else d.keepPage c src false sp).keepPage c dst true dp
      let pa := dp + dst % 4096
      match d.burstData c n (sp + src % 4096) with
      | none =>
        let l := readPieces 512 (sp + src % 4096) n
        (d.setCh c fun x => { x with parts := [], moving := 0, await := l.map (·.1) }).dmaIssue c w.read l
      | some (.ok, b) =>
        let d := d.setCh c fun x => { x with parts := [] }
        if d.isD pa ∨ region pa = some .bridgeWindow then
          if dst % 4 ≠ 0 ∨ len % 4 ≠ 0 then fail d .notAligned
          else
            let l := wordPieces pa b
            (d.setCh c fun x => { x with moving := 4, await := l.map (·.1) }).dmaIssue c w.write l
        else match d.rangeStatus (d.dmaSecure c) true pa n with
          | .ok => (((if fill then d else d.dramUsed (sp + src % 4096)).dramUsed pa).storeMem pa b).setCh c fun x => { x with done := x.done + n, ended := if len ≤ x.done + n then some .ok else none }
          | s => fail d s
      | some (s, _) => fail ((if s = .integrity then d.readPoison (sp + src % 4096) n else d)) s

/-- The burst boundary (R364): the winner moves its next burst; a channel that loses the boundary keeps no translation (R366). -/
def Dev.burstBoundary (d : Dev) (w : Nat → DmaPort) : Dev :=
  match d.dmaWinner with
  | none => d
  | some c =>
    let d := d.setDma fun m => { m with last := c, chs := KV.mapVal (fun k x => if k = c then x else { x with tlb := [] }) m.chs }
    d.burst c (w c)

/-- Descriptors with OWN 1 from HEAD on are completed with ABORTED, in ring order. -/
def Dev.dmaWalkRing (d : Dev) (c : Nat) : Nat → Dev
  | 0 => d
  | n + 1 =>
    if d.isSet (Rg.Dmar.STOPPED c) ∨ d.fld (Rg.Dmar.HEAD c) = d.fld (Rg.Dmar.TAIL c) % d.dmaRingSize c then d
    else match d.dmaRead c (d.dmaRing c (d.fld (Rg.Dmar.HEAD c))) 32 with
    | (.ok, b) => if bit (leAt b 0 4) 31 then Dev.dmaWalkRing (d.dmaComplete c b 0 .aborted) c n else d
    | _ => d

/-- A descriptor that has ended completes once every access of it is answered (R20, R361, R363). In DRAINING the queued ones, which come after it in
ring order, then complete with ABORTED (Table 2.8, R367). -/
def dmaDescriptorCompleteOp (c : Nat) (d : Dev) : Dev :=
  match (d.ch c).ended with
  | some s =>
    if d.isSet (Rg.Dmar.ACTIVE c) && (d.ch c).await.isEmpty then
      let d := d.dmaComplete c (d.ch c).desc (d.ch c).done s
      if d.get (Ent.Dma.STATE c) = 2 then d.dmaWalkRing c (d.dmaRingSize c) else d
    else d
  | none => d

/-- RESUME of a faulted channel (R366): the faulting page's translations go. -/
def dmaResumeOp (c hall : Nat) (d : Dev) : Dev :=
  if hall ≠ 0 ∧ hall ≠ d.dmaOwner c then d.answer .hallDenied
  else if !d.isSet (Rg.Dmar.FAULTED c) then d.answer .ok
  else
    let page := (d.fld (Rg.Dmar.FAULT_IOVA_LO c) + d.fld (Rg.Dmar.FAULT_IOVA_HI c) * 2 ^ 32) / 4096
    ((d.setFld (Rg.Dmar.FAULTED c) 0).setCh c fun x => { x with tlb := KV.keep (fun k _ => k / 2 != page) x.tlb }).answer .ok

/-- The faulted descriptor ends with ABORTED and DONE equal to FAULT_DONE. -/
def Dev.dmaAbortFaulted (d : Dev) (c : Nat) : Dev :=
  (d.setFld (Rg.Dmar.FAULTED c) 0).dmaComplete c (d.ch c).desc (d.fld (Rg.Dmar.FAULT_DONE c)) .aborted

def dmaAbortOp (c hall : Nat) (d : Dev) : Dev :=
  if hall ≠ 0 ∧ hall ≠ d.dmaOwner c then d.answer .hallDenied
  else if !d.isSet (Rg.Dmar.FAULTED c) then d.answer .ok
  else (d.dmaAbortFaulted c).answer .ok

/-- INVAL (R359). A DISABLED channel does not act on it (R19). -/
def dmaInvalOp (c hall : Nat) (d : Dev) : Dev :=
  if hall ≠ 0 ∧ hall ≠ d.dmaOwner c then d.answer .hallDenied
  else if d.get (Ent.Dma.STATE c) = 0 then d.answer .ok
  else (d.setFld (Rg.Dmar.INVAL_BUSY c) 1).answer .ok

/-- INVAL_BUSY clears once every access made through the old entries is answered (R359). -/
def dmaInvalCompleteOp (c : Nat) (d : Dev) : Dev :=
  if d.isSet (Rg.Dmar.INVAL_BUSY c) && (d.ch c).await.isEmpty then (d.setFld (Rg.Dmar.INVAL_BUSY c) 0).setCh c fun x => { x with tlb := [] } else d

/-! ### Disable, reset, APPLY of channels (R357, R360, R367, R368) -/

/-- Entry to DRAINING: what is queued behind no descriptor in execution completes with ABORTED at once (Table 2.8). -/
def Dev.dmaDraining (d : Dev) (c : Nat) : Dev := if d.isSet (Rg.Dmar.ACTIVE c) then d else d.dmaWalkRing c (d.dmaRingSize c)

/-- No descriptor is in execution. -/
def Dev.dmaQuiet (d : Dev) (c : Nat) : Bool := !d.isSet (Rg.Dmar.ACTIVE c)

/-- The drain is cut off: the descriptor in execution completes with ABORTED, and then those queued behind it (R52, R367). How many they were. -/
def Dev.dmaCut (d : Dev) (c : Nat) : Nat × Dev :=
  if d.dmaQuiet c then (0, d)
  else
    let size := d.dmaRingSize c
    let x := d.leftBehind (.dma c)
    let x := if d.isSet (Rg.Dmar.FAULTED c) then x.dmaAbortFaulted c else x.dmaComplete c (d.ch c).desc (d.ch c).done .aborted
    let x := x.dmaWalkRing c size
    (max 1 ((x.fld (Rg.Dmar.HEAD c) + size - d.fld (Rg.Dmar.HEAD c)) % size), x)

/-- The channel becomes DISABLED. -/
def Dev.dmaDisabled (d : Dev) (c : Nat) : Dev := d.dmaWalkRing c (d.dmaRingSize c)

/-- It becomes ENABLED: STOPPED clears (R361). -/
def Dev.dmaEnabled (d : Dev) (c : Nat) : Dev := (d.setFld (Rg.Dmar.STOPPED c) 0).setCh c fun x => { x with waits := false }

/-- The words of a register page return to their reset values. -/
def Dev.resetPage (d : Dev) (base size : Nat) : Dev :=
  { d with regs := KV.keep (fun a _ => !(decide (base ≤ a) && decide (a < base + size))) d.regs }

/-- A hall reset (R368), or a unit reset of the channel. -/
def Dev.dmaReset (d : Dev) (c : Nat) : Dev :=
  (((d.leftBehind (.dma c)).resetPage (0x10200000 + 0x1000 * c) 0x1000).setDma fun m => { m with chs := KV.erase c m.chs }).bumpEpoch (.dma c)

/-- An APPLY of a channel that changes HALL (R360). -/
def Dev.dmaApplied (d : Dev) (old : Dev) (c : Nat) : Dev :=
  if d.get (Ent.Dma.HALL c) = old.get (Ent.Dma.HALL c) then d else d.bumpEpoch (.dma c)

/-- Window records (Table 15.4). -/
def winValid (r : Bytes) : Bool := bit (leAt r 24 1) 0
def winOk (r : Bytes) : Bool :=
  let b := leAt r 0 8
  let n := leAt r 8 8
  let p := leAt r 16 8
  b % 4096 == 0 && n % 4096 == 0 && p % 4096 == 0 && decide (b + n ≤ 2 ^ 40) && decide (4096 ≤ n) && leAt r 24 1 / 8 == 0 && ofLe (slice r 25 7) == 0

/-- A VALID window that meets another, or does not lie within one region, or lies in a mezzanine region (R357). -/
def windowsFault (x : Dev) (h : Nat) : Option Nat :=
  let rs := (List.range 16).map (x.windowRec h)
  let bad (i : Nat) : Bool :=
    let r := (rs[i]?).getD []
    winValid r && (!winOk r ||
      ((List.range i).any fun j => let q := (rs[j]?).getD []; winValid q && meets (leAt q 0 8) (leAt q 8 8) (leAt r 0 8) (leAt r 8 8)) ||
      (let p := leAt r 16 8
       let n := leAt r 8 8
       region p == none || region p != region (p + n - 1) || region p == some .mezzSram || region p == some .mezzRegs || region p == some .bootRom))
  if (List.range 16).any bad then some 1 else none
where
  /-- Two byte ranges meet. -/
  meets (a n b m : Nat) : Bool := decide (a < b + m) && decide (b < a + n)

/-- A WINDOWS APPLY empties the caches of the hall's channels (R357). -/
def Dev.windowsApplied (d : Dev) (h : Nat) : Dev :=
  d.setDma fun m => { m with chs := KV.mapVal (fun c x => if d.get (Ent.Dma.HALL c) = h then { x with tlb := [] } else x) m.chs }

/-! ### Queue pairs (R369 to R371) -/

def Dev.qpOwner (d : Dev) (q : Nat) : Nat := d.get (Ent.Qp.HALL q)
def Dev.qpIrq (d : Dev) (q i : Nat) : Dev := d.setFldBit (Rg.Qpr.IRQ q) i true

def Dev.txRecord (d : Dev) (q i : Nat) : Nat := d.fld (Rg.Qpr.TX_BASE_LO q) * 16 + d.fld (Rg.Qpr.TX_BASE_HI q) * 2 ^ 32 + 16 * i
def Dev.errRecord (d : Dev) (q i : Nat) : Nat := d.fld (Rg.Qpr.ERR_BASE_LO q) * 16 + d.fld (Rg.Qpr.ERR_BASE_HI q) * 2 ^ 32 + 16 * i

/-- The TX descriptor at TX_HEAD, if it is posted with OWN 1. -/
def Dev.txPosted (d : Dev) (q : Nat) : Option Bytes :=
  if d.fld (Rg.Qpr.TX_HEAD q) = d.fld (Rg.Qpr.TX_TAIL q) % 2 ^ d.fld (Rg.Qpr.TX_LOG2 q) then none
  else match d.hallRead (d.qpOwner q) (d.txRecord q (d.fld (Rg.Qpr.TX_HEAD q))) 16 with
  | (.ok, b) => if bit (leAt b 10 1) 7 then some b else none
  | _ => none

/-- A record of a completion not OK goes to the error ring; a full ring loses it (R371). -/
def Dev.errPut (d : Dev) (q : Nat) (b : Bytes) : Dev :=
  let size := 2 ^ d.fld (Rg.Qpr.ERR_LOG2 q)
  let head := d.fld (Rg.Qpr.ERR_HEAD q)
  let lost (d : Dev) : Dev := (d.count (qpCounter q 5)).qpIrq q 3
  if (head + 1) % size = d.fld (Rg.Qpr.ERR_TAIL q) % size then lost d
  else match d.hallWrite (d.qpOwner q) (d.errRecord q head) b with
  | (.ok, d) => (d.setFld (Rg.Qpr.ERR_HEAD q) ((head + 1) % size)).qpIrq q 2
  | (_, d) => lost d

/-- A TX descriptor completes: STATUS, OWN 0, TX_HEAD, IRQ; not OK also into the error ring. -/
def Dev.txComplete (d : Dev) (q : Nat) (b : Bytes) (s : Status) : Dev :=
  let head := d.fld (Rg.Qpr.TX_HEAD q)
  let b' := patch (patch b 14 (le 2 s.code)) 10 (le 1 (leAt b 10 1 % 128))
  let d := (d.hallWrite (d.qpOwner q) (d.txRecord q head) b').2
  let d := d.setFld (Rg.Qpr.TX_HEAD q) ((head + 1) % 2 ^ d.fld (Rg.Qpr.TX_LOG2 q))
  let d := if bit (leAt b 10 1) 6 then d.qpIrq q 0 else d
  if s = .ok then d.count (qpCounter q 0)
  else
    let d := ((d.count (qpCounter q 2)).descError (srcDma (0x100 + q))).errPut q b'
    if s = .staleEpoch then d.staleReject (srcDma (0x100 + q)) (d.epoch (.qp q)) else d

/-- A frame's bytes as a frame: addresses, tags, R-TAG, type, payload. -/
def parseTags : Nat → Bytes → List Tag × Bytes
  | 0, b => ([], b)
  | n + 1, b =>
    let t := ofBe (slice b 0 2)
    if t = 0x8100 ∨ t = 0x88A8 then
      let v := ofBe (slice b 2 2)
      let (l, r) := parseTags n (b.drop 4)
      (⟨t, v / 8192, bit v 12, v % 4096⟩ :: l, r)
    else ([], b)

def parseFrame (b : Bytes) : Frame :=
  let (tags, r) := parseTags (b.length / 4) (b.drop 12)
  let (rtag, r) := if ofBe (slice r 0 2) = 0xF1C1 then (some (ofBe (slice r 4 2)), r.drop 6) else (none, r)
  ⟨ofBe (slice b 0 6), ofBe (slice b 6 6), tags, rtag, ofBe (slice r 0 2), r.drop 2⟩

/-- The queue pair that host engine `n` serves next: its ENABLED ones with a posted descriptor, in turn. -/
def Dev.txNext (d : Dev) (n : Nat) : Option Nat :=
  let from_ := KV.get 255 n d.dma.turn
  ((List.range 256).map fun i => (from_ + 1 + i) % 256).find? fun q =>
    d.get (Ent.Qp.STATE q) == 1 && d.get (Ent.Qp.PORT q) == 48 + n && !d.hallStopped (d.qpOwner q) && (d.txPosted q).isSome

/-- The status of a TX descriptor before its frame is read (R371). -/
def Dev.txFault (d : Dev) (n q : Nat) (b : Bytes) : Option Status :=
  let e := leAt b 12 2
  let len := leAt b 8 2
  if (d.qpOwner q ≠ 0 ∨ e ≠ 0) ∧ e ≠ d.epoch (.qp q) then some .staleEpoch
  else if len < 14 ∨ d.get (Ent.Pcfg.MAX_FRAME (48 + n)) - 4 < len then some .outOfRange
  else if d.get (Ent.Pbuf.ING_RES (48 + n)) = 0 then some .noResource
  else none

/-- The host port's ingress headroom has room for a whole frame of `len` bytes without FCS, padded as it will be (R371). -/
def Dev.hostRoom (d : Dev) (p len : Nat) : Bool := decide (d.ingCells p + cellsOf (max 60 len + 4) ≤ d.get (Ent.Pbuf.ING_RES p))

/-- A host engine takes one frame from a TX ring and presents it to the switch once the headroom has room for it (R371). -/
def qpTxFrameOp (n : Nat) (d : Dev) : Dev :=
  if d.get (Ent.Heng.STATE n) ≠ 1 ∨ 3 < n then d
  else match d.txNext n with
  | none => d
  | some q =>
    let b := (d.txPosted q).getD []
    let turn (d : Dev) : Dev := d.setDma fun m => { m with turn := KV.insert n q m.turn }
    match d.txFault n q b with
    | some s => (turn d).txComplete q b s
    | none =>
      if !d.hostRoom (48 + n) (leAt b 8 2) then d
      else match d.hallRead (d.qpOwner q) (leAt b 0 8) (leAt b 8 2) with
      | (.ok, f) => ((turn d).txComplete q b .ok).emit (.inject (48 + n) (parseFrame (f ++ zeros (60 - f.length))))
      | (_, _) => (turn d).txComplete q b .accessAttr

/-- An RX descriptor completes: the frame's LENGTH, TC and VID, STATUS, OWN 0; RX_HEAD and IRQ. -/
def Dev.rxComplete (d : Dev) (q : Nat) (b : Bytes) (len tc vid : Nat) (s : Status) : Dev :=
  let head := d.fld (Rg.Qpr.RX_HEAD q)
  let fl := leAt b 10 1
  let b' := patch (patch (patch (patch b 8 (le 2 len)) 10 (le 1 (fl / 8 % 16 * 8 + tc % 8))) 12 (le 2 vid)) 14 (le 2 s.code)
  let d := (d.hallWrite (d.qpOwner q) (d.rxRecord q) b').2
  let d := d.setFld (Rg.Qpr.RX_HEAD q) ((head + 1) % 2 ^ d.fld (Rg.Qpr.RX_LOG2 q))
  if bit fl 6 then d.qpIrq q 1 else d

/-- The copy in TX of a host port reaches its queue pair's RX ring (R370). -/
def qpRxFrameOp (p : Nat) (d : Dev) : Dev :=
  if p < 48 ∨ 51 < p then d
  else match d.sw.txOf p with
  | none => d
  | some (c, x) =>
    if x.handed ∨ d.unitOfHost p x.frame ≠ none then d
    else match d.pickQp p x.hall0 x.frame.dst with
    | none => (d.endTx p c x).dropped p c x.ingress x.multi .noQp
    | some q =>
      let h := d.qpOwner q
      if d.hallStopped h then (d.endTx p c x).dropped p c x.ingress x.multi (.frozen h)
      else if !d.rxReady q then d
      else
        let b := (d.hallRead h (d.rxRecord q) 16).2
        let f := frameBytes x.frame
        let f := f ++ zeros (60 - f.length)
        let room := leAt b 8 2
        let vid := ((Frame.ctag x.frame).map (·.vid)).getD 0
        let handed (d : Dev) : Dev :=
          d.setSw fun w => w.setQueue p c { w.queue p c with copies := (w.queue p c).copies.map fun y => if y = x then { y with handed := true } else y }
        match d.hallWrite h (leAt b 0 8) (f.take room) with
        | (.ok, d) =>
          let s := if room < f.length then .lengthMismatch else .ok
          let d := (d.rxComplete q b f.length c vid s).count (qpCounter q 1)
          handed (if s = .ok then d else (d.count (qpCounter q 3)).descError (srcDma (0x100 + q)))
        | (_, d) =>
          (((d.rxComplete q b f.length c vid .accessAttr).count (qpCounter q 4)).descError (srcDma (0x100 + q))).endTx p c x

/-- Entry to DRAINING: posted TX descriptors complete with ABORTED (R369). -/
def Dev.qpDraining (d : Dev) (q : Nat) : Nat → Dev
  | 0 => d
  | n + 1 => match d.txPosted q with
    | some b => Dev.qpDraining (d.txComplete q b .aborted) q n
    | none => d

/-- Hall reset of a queue pair (Table 16.6): page to reset values, DISABLED, epoch. -/
def Dev.qpReset (d : Dev) (q : Nat) : Dev :=
  (((d.resetPage (0x10300000 + 0x1000 * q) 0x1000).put (Ent.Qp.ENABLE q) 0).put (Ent.Qp.STATE q) 0).bumpEpoch (.qp q)

/-- A change of HALL, PORT or RX_MAC (R369). -/
def qpMoves (old new : Dev) (q : Nat) : Bool :=
  new.get (Ent.Qp.HALL q) != old.get (Ent.Qp.HALL q) || new.get (Ent.Qp.PORT q) != old.get (Ent.Qp.PORT q) ||
  new.oct (Ent.Qp.RX_MAC q) != old.oct (Ent.Qp.RX_MAC q)

/-- Two queue pairs of one port with the same RX_MAC (R370). An all-zero RX_MAC, the default, names none. -/
def qpFault (x : Dev) (q : Nat) : Option Nat :=
  let m := x.oct (Ent.Qp.RX_MAC q)
  if ofBe m ≠ 0 ∧ (List.range 256).any fun r => r != q && x.get (Ent.Qp.PORT r) == x.get (Ent.Qp.PORT q) && x.oct (Ent.Qp.RX_MAC r) == m then some 6 else none

def Dev.qpApplied (d : Dev) (old : Dev) (q : Nat) : Dev := if qpMoves old d q then d.bumpEpoch (.qp q) else d

/-- DEF_QP is bound to its port, HALL0_QP belongs to hall 0 (Table 15.11). -/
def defQpFault (x : Dev) (n : Nat) : Option Nat :=
  let q := x.get (Ent.Heng.DEF_QP n)
  if q < 256 ∧ x.get (Ent.Qp.PORT q) ≠ 48 + n then some 4 else none
def hall0QpFault (x : Dev) : Option Nat :=
  let q := x.get Ent.H0qp.HALL0_QP
  if q < 256 ∧ x.get (Ent.Qp.HALL q) ≠ 0 then some 1 else none

/-! ### Meanings -/

def execPatrolScrub (a err : Nat) (s : State) := onDev s (patrolScrubOp a err)
def execDmaTailWrite (c hall v : Nat) (s : State) := onDev s (dmaTailWriteOp c hall v)
def execDmaDescriptorFetch (c : Nat) (s : State) := onDev s (dmaDescriptorFetchOp c)
def execDmaDescriptorComplete (c : Nat) (s : State) := onDev s (dmaDescriptorCompleteOp c)
def execDmaResume (c hall : Nat) (s : State) := onDev s (dmaResumeOp c hall)
def execDmaAbort (c hall : Nat) (s : State) := onDev s (dmaAbortOp c hall)
def execDmaInval (c hall : Nat) (s : State) := onDev s (dmaInvalOp c hall)
def execDmaInvalComplete (c : Nat) (s : State) := onDev s (dmaInvalCompleteOp c)
def execQpRxFrame (p : Nat) (s : State) := onDev s (qpRxFrameOp p)
def execQpTxFrame (n : Nat) (s : State) := onDev s (qpTxFrameOp n)

end Sys2Proof.Machine
end

