-- ==== Sys2Proof/Machine/Storage.lean ====
section
/-! DEFINITION. Storage: the NAND's health, storage rings, partitions, LOG and the event-log area (R457 to R474). -/

namespace Sys2Proof.Machine

def Dev.setSto (d : Dev) (f : StoSt → StoSt) : Dev := { d with sto := f d.sto }
def Dev.ring (d : Dev) (h : Nat) : List StCmd := KV.get [] h d.sto.rings

/-- The commands of a ring change; ACTIVE shows whether one is in progress. -/
def Dev.setRing (d : Dev) (h : Nat) (l : List StCmd) : Dev :=
  (d.setSto fun s => { s with rings := KV.put [] h l s.rings }).setFld (Rg.Stg.ACTIVE h) (b2n (l.any fun c => !c.back))

/-- The unit works on the NAND: the layer is mounted, and the NAND interface, an island of SYS, runs (R425, R472). -/
def Dev.nandOn (d : Dev) : Bool := d.sto.mounted && d.get (Ent.Dom.SOURCE 3) != 0xFF

/-- HOST_WRITE_BYTES 0 to MOUNTS_UNCLEAN 6 (Table 20.7), and READ_BYTES 0, WRITE_BYTES 1, ERRORS 2 of a hall. -/
def stoCounter (i : Nat) : Counter := ⟨⟨0x4800, 0x10 + i, 64, 0⟩, Ent.Sto.COUNTER_SAT, i, srcStorage⟩
def partCounter (h i : Nat) : Counter := ⟨⟨0x4820 + h, 0x10 + i, 64, 0⟩, Ent.Part.COUNTER_SAT h, i, srcStorage⟩

/-- HEALTH_CHANGE and UNCORRECTABLE also go to hall 0's ring (R474). -/
def Dev.stoEvent (d : Dev) (code data : Nat) : Dev :=
  let d := d.eventSys 5 srcStorage code data
  if code = 0x20 ∨ code = 0x22 then d.eventRing 0 srcStorage code data else d

/-! ### Sectors -/

def partKey (h s : Nat) : Nat := h * 2 ^ 22 + s
def logKey (off : Nat) : Nat := 2 ^ 32 + off / 4096
def Dev.sector (d : Dev) (k : Nat) : Bytes := KV.get (zeros 4096) k d.sto.sectors

/-- The sectors `ks` take new contents as one group of the write buffer, `none` for a trimmed one; the buffer holds 64 sectors, and what it gives up
has been programmed (R471). A sector written whole or trimmed is no longer uncorrectable (R458). -/
def Dev.putSectors (d : Dev) (w : List (Nat × Option Bytes)) : Dev :=
  let old := w.map fun x => (x.1, KV.find x.1 d.sto.sectors)
  d.setSto fun s =>
    { s with sectors := w.foldl (fun m x => match x.2 with | some b => KV.insert x.1 b m | none => KV.erase x.1 m) s.sectors,
             bad := s.bad.filter fun k => !(w.any fun x => x.1 == k),
             buffer := keepRoom (s.buffer ++ [old]) (s.buffer.length + 1) }
where
  keepRoom (l : List (List (Nat × Option Bytes))) : Nat → List (List (Nat × Option Bytes))
    | 0 => l
    | n + 1 => if 64 < (l.map List.length).foldl (· + ·) 0 then keepRoom (l.drop 1) n else l

/-- Sectors that have become durable leave the buffer. -/
def Dev.programmed (d : Dev) (p : Nat → Bool) : Dev :=
  d.setSto fun s => { s with buffer := (s.buffer.map fun g => g.filter fun x => !p x.1).filter fun g => !g.isEmpty }

/-- The write buffer is programmed whole, by a FLUSH or at power fail (R471). -/
def Dev.stoDurable (d : Dev) : Dev := d.programmed fun _ => true

/-- Power is lost with the buffer not programmed: each group of sectors holds its old or its new contents (R471), a free choice. -/
def Dev.stoLost (d : Dev) : Dev :=
  let r := d.sto.buffer.reverse.foldl (fun (x : List Nat × Dev) g =>
    let (v, d) := x.2.draw 1
    if v = 1#1 then (x.1 ++ g.map (·.1), d)
    else (x.1, d.setSto fun s =>
      { s with sectors := g.foldl (fun m e => if x.1.contains e.1 then m
                else match e.2 with | some b => KV.insert e.1 b m | none => KV.erase e.1 m) s.sectors })) ([], d)
  r.2.setSto fun s => { s with buffer := [] }

/-- USED_MIB of a hall as it reads. -/
def Dev.usedMib (d : Dev) (h : Nat) : Nat :=
  ((d.sto.sectors.filter fun x => decide (partKey h 0 ≤ x.1) && decide (x.1 < partKey (h + 1) 0)).length + 255) / 256

/-! ### Health (R461 to R464) -/

/-- HEALTH never returns to an earlier state. -/
def Dev.healthCheck (d : Dev) : Dev :=
  let old := d.get Ent.Sto.HEALTH
  let new := if d.get Ent.Sto.SPARE_BLOCKS ≤ 64 then 2
    else if d.get Ent.Sto.SPARE_BLOCKS * 4 < d.get Ent.Sto.SPARE_INITIAL ∨ 90 ≤ d.get Ent.Sto.LIFE_USED then 1 else 0
  if old < new then (d.put Ent.Sto.HEALTH new).stoEvent 0x20 new else d

/-- What the NAND did: retries, retired blocks, bytes programmed, wear. -/
def Dev.nand (d : Dev) (w : NandWork) : Dev :=
  let d := (d.count (stoCounter 3) w.retries).count (stoCounter 1) (w.programmed / 4096 * 4096)
  let d := w.retired.foldl (fun d b =>
    ((d.put Ent.Sto.BAD_GROWN (d.get Ent.Sto.BAD_GROWN + 1)).put Ent.Sto.SPARE_BLOCKS (d.get Ent.Sto.SPARE_BLOCKS - 1)).stoEvent 0x21
      (b.1 % 65536 * 65536 + b.2 % 65536)) d
  let d := ((d.put Ent.Sto.ERASE_MEAN w.mean).put Ent.Sto.ERASE_MAX w.max).put Ent.Sto.LIFE_USED (min 255 (w.mean * 100 / 30000))
  d.healthCheck

/-- A sector is found uncorrectable (R458). Where it lies on the die is not software's to see: the event's address is a free value. -/
def Dev.sectorBad (d : Dev) (k : Nat) : Dev :=
  if d.sto.bad.contains k then d
  else
    let (v, d) := (d.setSto fun s => { s with bad := s.bad ++ [k] }).draw 32
    (d.count (stoCounter 4)).stoEvent 0x22 v.toNat

/-! ### Rings (R467 to R472) -/

def Dev.stgRing (d : Dev) (h i : Nat) : Nat := d.fld (Rg.Stg.RING_LO h) * 32 + d.fld (Rg.Stg.RING_HI h) * 2 ^ 32 + 32 * i
def Dev.stgSize (d : Dev) (h : Nat) : Nat := 2 ^ d.fld (Rg.Stg.RING_LOG2 h)

def StCmd.op (c : StCmd) : Nat := bits c.ctrl 3 0
def StCmd.fua (c : StCmd) : Bool := bit c.ctrl 13
def StCmd.atomic (c : StCmd) : Bool := bit c.ctrl 12
def StCmd.running (c : StCmd) : Bool := c.ended == none

/-- The ring stops with the status of a failed fetch or write-back, as R361 states for DMA. -/
def Dev.stgStop (d : Dev) (h : Nat) (s : Status) : Dev := (d.setFld (Rg.Stg.STOPPED h) 1).setFld (Rg.Stg.CODE h) s.code

/-- Checks 1 to 6 of Table 20.6. -/
def Dev.stgFault (d : Dev) (h epoch : Nat) (c : StCmd) : Option Status :=
  let op := c.op
  if (h ≠ 0 ∨ epoch ≠ 0) ∧ epoch ≠ d.epoch (.hall h) then some .staleEpoch
  else if op = 0 ∨ 6 < op ∨ (if op = 4 then c.count ≠ 0 else c.count = 0 ∨ 4096 < c.count) ∨ (4 < op ∧ h ≠ 0) then some .outOfRange
  else if c.atomic ∧ (op ≠ 2 ∨ 64 < c.count) then some .outOfRange
  else if op ≤ 3 ∧ d.get (Ent.Part.PART_MIB h) * 256 < c.lba + c.count then some .outOfRange
  else if op = 6 ∧ (c.lba % 4096 ≠ 0 ∨ c.lba < d.get Ent.Stlog.LOG_OLDEST ∨ d.get Ent.Stlog.LOG_NEXT < c.lba + c.count * 4096) then
    some .outOfRange
  else if c.addr % 64 ≠ 0 then some .notAligned
  else if d.get Ent.Sto.HEALTH = 2 ∧ (op = 2 ∨ op = 3 ∨ op = 5) then some .noResource
  else none

/-- A descriptor is fetched and checked. It waits while the layer is not mounted, eight commands run, the hall is stopped, or a FLUSH has earlier
commands before it. -/
def storageDescriptorFetchOp (h : Nat) (d : Dev) : Dev :=
  let l := d.ring h
  let i := (d.fld (Rg.Stg.HEAD h) + l.length) % d.stgSize h
  if !d.nandOn || d.isSet (Rg.Stg.STOPPED h) || d.hallStopped h || !d.hallExists h || decide (8 ≤ (l.filter fun c => !c.back).length) ||
      i == d.fld (Rg.Stg.TAIL h) % d.stgSize h then d
  else if ((d.translate h false (d.stgRing h i) 32).map d.isD).getD false then d.stgStop h .accessAttr
  else match d.hallRead h (d.stgRing h i) 32 with
  | (.ok, b) =>
    let c : StCmd := ⟨i, leAt b 0 2, leAt b 4 4, leAt b 8 8, leAt b 16 8, 0, none, false⟩
    if !bit c.ctrl 15 || (c.op == 4 && l.any fun x => !x.back) then d
    else d.setRing h (l ++ [{ c with ended := d.stgFault h (leAt b 2 2) c }])
  | (s, _) => d.stgStop h s

/-- The command with ring index `i`, where it runs and has operation `op`. -/
def Dev.stgCmd (d : Dev) (h i op : Nat) : Option StCmd :=
  if d.hallStopped h || !d.nandOn then none else (d.ring h).find? fun c => c.idx == i && c.running && c.op == op

def Dev.setCmd (d : Dev) (h : Nat) (c : StCmd) : Dev := d.setRing h ((d.ring h).map fun x => if x.idx == c.idx then c else x)

/-- A command has its outcome. -/
def Dev.stgEnd (d : Dev) (h : Nat) (c : StCmd) (s : Status) : Dev := d.setCmd h { c with ended := some s }

/-- Check 7: the buffer lies in no D region. -/
def Dev.bufferOk (d : Dev) (h : Nat) (c : StCmd) : Bool := !((d.translate h (c.op == 1 || c.op == 6) c.addr 64).map d.isD).getD false

/-- A sector's bytes go to the buffer; a sector may meet two windows, so each page is its own access. -/
def Dev.bufferWrite (d : Dev) (h a : Nat) (b : Bytes) : Status × Dev :=
  let n := 4096 - a % 4096
  match d.hallWrite h a (b.take n) with
  | (.ok, d1) => if a % 4096 = 0 then (.ok, d1) else d1.hallWrite h (a + n) (b.drop n)
  | r => r

def Dev.bufferRead (d : Dev) (h a : Nat) : Status × Bytes :=
  let n := 4096 - a % 4096
  match d.hallRead h a n with
  | (.ok, x) => if a % 4096 = 0 then (.ok, x) else
    match d.hallRead h (a + n) (4096 - n) with
    | (.ok, y) => (.ok, x ++ y)
    | r => r
  | r => r

/-- Up to `n` sectors from the NAND to the buffer; `key` names the sector of an offset, `gone` those that LOG has given up. -/
def Dev.readSectors (d : Dev) (h : Nat) (c : StCmd) (key : Nat → Nat) (gone : Nat → Bool) (bad : List Nat) : Nat → Dev
  | 0 => d.setCmd h c
  | n + 1 =>
    if c.count ≤ c.done then d.stgEnd h c .ok
    else if gone c.done then d.stgEnd h c .outOfRange
    else if d.sto.bad.contains (key c.done) || bad.contains c.done then (d.sectorBad (key c.done)).stgEnd h c .integrity
    else match d.bufferWrite h (c.addr + 4096 * c.done) (d.sector (key c.done)) with
    | (.ok, d) =>
      let c := { c with done := c.done + 1 }
      Dev.readSectors ((d.count (stoCounter 2) 4096).count (partCounter h 0) 4096) h c key gone bad n
    | (s, _) => d.stgEnd h c s

/-- An earlier WRITE of the ring that overlaps a READ must reach the sectors first (R468). -/
def Dev.writeAhead (d : Dev) (h : Nat) (c : StCmd) : Bool :=
  ((d.ring h).takeWhile fun x => x.idx != c.idx).any fun x =>
    x.running && x.op == 2 && decide (x.lba < c.lba + c.count) && decide (c.lba < x.lba + x.count)

def storageReadOp (h i n : Nat) (w : NandWork) (d : Dev) : Dev :=
  match d.stgCmd h i 1 with
  | none => d
  | some c =>
    if d.writeAhead h c then d
    else if !d.bufferOk h c then d.stgEnd h c .accessAttr
    else (d.nand w).readSectors h c (fun k => partKey h (c.lba + k)) (fun _ => false) w.bad (n + 1)

def storageLogReadOp (i n : Nat) (w : NandWork) (d : Dev) : Dev :=
  match d.stgCmd 0 i 6 with
  | none => d
  | some c =>
    if !d.bufferOk 0 c then d.stgEnd 0 c .accessAttr
    else (d.nand w).readSectors 0 c (fun k => logKey (c.lba + 4096 * k)) (fun k => decide (c.lba + 4096 * k < d.get Ent.Stlog.LOG_OLDEST)) w.bad (n + 1)

/-- A write ends: a FUA command is durable when it completes. -/
def Dev.writeEnd (d : Dev) (h : Nat) (c : StCmd) (key : Nat → Nat) : Dev :=
  let d := if c.fua then d.programmed fun k => (List.range c.count).any fun j => key j == k else d
  d.stgEnd h c .ok

/-- Up to `n` sectors from the buffer to the NAND, each a group of its own. -/
def Dev.writeSectors (d : Dev) (h : Nat) (c : StCmd) (key : Nat → Nat) : Nat → Dev
  | 0 => d.setCmd h c
  | n + 1 =>
    if c.count ≤ c.done then d.writeEnd h c key
    else match d.bufferRead h (c.addr + 4096 * c.done) with
    | (.ok, b) =>
      let d := ((d.putSectors [(key c.done, some b)]).count (stoCounter 0) 4096).count (partCounter h 1) 4096
      Dev.writeSectors d h { c with done := c.done + 1 } key n
    | (s, _) => d.stgEnd h c s

/-- An ATOMIC write takes effect for all its sectors or for none. -/
def Dev.writeAtomic (d : Dev) (h : Nat) (c : StCmd) (key : Nat → Nat) : Dev :=
  let r := (List.range c.count).map fun j => d.bufferRead h (c.addr + 4096 * j)
  match r.find? fun x => x.1 != .ok with
  | some x => d.stgEnd h c x.1
  | none =>
    let d := d.putSectors ((List.range c.count).map fun j => (key j, (r[j]?).map (·.2)))
    let d := (d.count (stoCounter 0) (4096 * c.count)).count (partCounter h 1) (4096 * c.count)
    d.writeEnd h { c with done := c.count } key

def storageWriteOp (h i n : Nat) (w : NandWork) (d : Dev) : Dev :=
  match d.stgCmd h i 2 with
  | none => d
  | some c =>
    if !d.bufferOk h c then d.stgEnd h c .accessAttr
    else
      let key (k : Nat) := partKey h (c.lba + k)
      (if c.atomic then d.writeAtomic h c key else d.writeSectors h c key (n + 1)).nand w

def storageTrimOp (h i : Nat) (d : Dev) : Dev :=
  match d.stgCmd h i 3 with
  | none => d
  | some c => (d.putSectors ((List.range c.count).map fun j => (partKey h (c.lba + j), none))).stgEnd h { c with done := c.count } .ok

def storageFlushOp (h i : Nat) (d : Dev) : Dev :=
  match d.stgCmd h i 4 with
  | none => d
  | some c => d.stoDurable.stgEnd h c .ok

/-- The oldest 2 MiB of LOG are given up until `n` more bytes fit (R469). -/
def Dev.logRoom (d : Dev) (n : Nat) : Nat → Dev
  | 0 => d
  | k + 1 =>
    let o := d.get Ent.Stlog.LOG_OLDEST
    if d.get Ent.Stlog.LOG_NEXT + n ≤ o + d.get Ent.Stlog.LOG_MIB * 1048576 then d
    else
      let d := (d.put Ent.Stlog.LOG_OLDEST (min (o + 2097152) (d.get Ent.Stlog.LOG_NEXT))).setSto fun s =>
        { s with sectors := KV.keep (fun j _ => !(decide (logKey 0 ≤ j) && decide (j < logKey (o + 2097152)))) s.sectors,
                 bad := s.bad.filter fun j => !(decide (logKey 0 ≤ j) && decide (j < logKey (o + 2097152))),
                 buffer := (s.buffer.map fun g => g.filter fun e => !(decide (logKey 0 ≤ e.1) && decide (e.1 < logKey (o + 2097152)))).filter
                   fun g => !g.isEmpty }
      Dev.logRoom d n k

/-- APPEND takes its place in LOG with its first sectors (R469); a device whose LOG has no room at all has no resource for it (DEDUCED). -/
def storageAppendOp (i n : Nat) (w : NandWork) (d : Dev) : Dev :=
  match d.stgCmd 0 i 5 with
  | none => d
  | some c =>
    if !d.bufferOk 0 c then d.stgEnd 0 c .accessAttr
    else if d.get Ent.Stlog.LOG_MIB = 0 then d.stgEnd 0 c .noResource
    else
      let (c, d) := if bit c.ctrl 31 then (c, d) else
        let d := d.logRoom (c.count * 4096) (d.get Ent.Stlog.LOG_NEXT / 2097152 + 16)
        let at_ := d.get Ent.Stlog.LOG_NEXT
        ({ c with ctrl := setBit c.ctrl 31 true, lba := at_ }, d.put Ent.Stlog.LOG_NEXT (at_ + c.count * 4096))
      (d.writeSectors 0 c (fun k => logKey (c.lba + 4096 * k)) (n + 1)).nand w

/-- IRQ bits rise; for a tenant hall an enabled one writes STORAGE_IRQ to its ring (R470). -/
def Dev.stgIrq (d : Dev) (h new : Nat) : Dev :=
  let old := d.fld (Rg.Stg.IRQ h)
  let en := d.fld (Rg.Stg.IRQ_EN h)
  let rise := (List.range 2).foldl (fun v b => setBit v b (bit new b && !bit old b && bit en b)) 0
  let d := d.setFld (Rg.Stg.IRQ h) (orBits old new)
  if h ≠ 0 ∧ rise ≠ 0 then d.eventRing h srcStorage 0x24 rise else d

/-- HEAD passes the descriptors at the front that have been written back. -/
def Dev.headPass (d : Dev) (h : Nat) : Dev :=
  let l := d.ring h
  let n := (l.takeWhile (·.back)).length
  (d.setFld (Rg.Stg.HEAD h) ((d.fld (Rg.Stg.HEAD h) + n) % d.stgSize h)).setRing h (l.drop n)

/-- A command is written back: STATUS and DONE (and where an APPEND lies), then CTRL with OWN 0; IRQ as its flags ask. -/
def storageCmdCompleteOp (h i : Nat) (d : Dev) : Dev :=
  if d.hallStopped h || d.isSet (Rg.Stg.STOPPED h) then d
  else match (d.ring h).find? fun c => c.idx == i && !c.back with
  | none => d
  | some c =>
    match c.ended with
    | none => d
    | some s =>
      let at_ := d.stgRing h i
      let placed : Status × Dev := if c.op = 5 ∧ bit c.ctrl 31 then d.hallWrite h (at_ + 8) (le 8 c.lba) else (.ok, d)
      let (r0, d0) := placed
      let (r1, d1) := d0.hallWrite h (at_ + 24) (le 2 s.code ++ zeros 2 ++ le 4 c.done)
      let (r2, d2) := d1.hallWrite h at_ (le 2 (setBit (c.ctrl % 65536) 15 false))
      if r0 ≠ .ok then d.stgStop h r0
      else if r1 ≠ .ok then d0.stgStop h r1
      else if r2 ≠ .ok then d1.stgStop h r2
      else
        let d := (d2.setFld (Rg.Stg.CODE h) s.code).setCmd h { c with back := true }
        let d := if s = .ok then d else d.count (partCounter h 2)
        let d := if s = .staleEpoch then d.staleReject srcStorage (d.epoch (.hall h)) else d
        let d := d.headPass h
        d.stgIrq h ((if bit c.ctrl 14 then 1 else 0) + (if s = .ok then 0 else 2))

/-- A hall reset: started commands stop, nothing is written back, the page takes its reset values (R472). -/
def Dev.stgReset (d : Dev) (h : Nat) : Dev :=
  (d.setSto fun s => { s with rings := KV.erase h s.rings }).resetPage (0x10F00000 + 0x1000 * h) 0x1000

/-- The ring holds a started command (R472). -/
def Dev.stgStarted (d : Dev) (h : Nat) : Bool := (d.ring h).any fun c => !c.back

/-! ### Partitions and LOG (R460, R466) -/

/-- Every sector of a hall's partition from `s` on is trimmed. -/
def Dev.trimFrom (d : Dev) (h s : Nat) : Dev :=
  let mine (k : Nat) : Bool := decide (partKey h s ≤ k) && decide (k < partKey (h + 1) 0)
  d.setSto fun x => { x with sectors := KV.keep (fun k _ => !mine k) x.sectors, bad := x.bad.filter fun k => !mine k,
                             buffer := (x.buffer.map fun g => g.filter fun e => !mine e.1).filter fun g => !g.isEmpty }

def Dev.partitionErase (d : Dev) (h : Nat) : Status × Dev :=
  if h ≠ 0 ∧ d.hallExists h then (.wrongState, d) else (.ok, d.trimFrom h 0)

def partSum (x : Dev) : Nat := (List.range 256).foldl (fun n h => n + x.get (Ent.Part.PART_MIB h)) 0

/-- PART_MIB beyond HALLS_MIB conflicts, as R460 states for HALLS_MIB (DEDUCED). -/
def partFault (x : Dev) : Option Nat := if x.get Ent.Stoc.HALLS_MIB < partSum x then some 1 else none
def partBusy (d x : Dev) (h : Nat) : Bool :=
  decide (x.get (Ent.Part.PART_MIB h) < d.get (Ent.Part.PART_MIB h)) && d.hallExists h
def Dev.partApplied (d : Dev) (h : Nat) : Dev := d.trimFrom h (d.get (Ent.Part.PART_MIB h) * 256)

/-- What PART_MIB no longer covers is trimmed: a start may bring stored values or defaults in force (R466). -/
def Dev.partsApplied (d : Dev) : Dev :=
  let mine (k : Nat) : Bool := decide (logKey 0 ≤ k) || decide (k % 2 ^ 22 < d.get (Ent.Part.PART_MIB (k / 2 ^ 22)) * 256)
  d.setSto fun x => { x with sectors := KV.keep (fun k _ => mine k) x.sectors, bad := x.bad.filter mine,
                             buffer := (x.buffer.map fun g => g.filter fun e => mine e.1).filter fun g => !g.isEmpty }

/-- HALLS_MIB takes effect: LOG takes the rest, and gives up its oldest data where it no longer fits. -/
def Dev.hallsMibApplied (d : Dev) : Dev :=
  let d := d.put Ent.Stlog.LOG_MIB (11072 - d.get Ent.Stoc.HALLS_MIB)
  d.logRoom 0 ((d.get Ent.Stlog.LOG_NEXT - d.get Ent.Stlog.LOG_OLDEST) / 2097152 + 1)

/-! ### Events, background work, mount -/

/-- The waiting records are committed to EVENTS; when it is full the oldest 131,072 records go first (R465). -/
def Dev.commitEvents (d : Dev) : Dev :=
  let w := d.logs.waiting
  let drop := (d.logs.events.length + w.length - 33554432 + 131071) / 131072 * 131072
  let l := { d.logs with waiting := [], events := d.logs.events.drop drop ++ w }
  (({ d with logs := l }.setSto fun s => { s with commitAt := d.time.raw }).put Ent.Evl.EVENT_FIRST (d.get Ent.Evl.EVENT_FIRST + drop)).put Ent.Evl.EVENT_NEXT (d.get Ent.Evl.EVENT_NEXT + w.length)

/-- The buffer is committed every 100 ms and whenever 2,048 records wait (R465). -/
def Dev.commitDue (d : Dev) : Bool := decide (2048 ≤ d.logs.waiting.length) || d.aged d.sto.commitAt 100000000

def eventLogCommitOp (d : Dev) : Dev := if d.nandOn && d.commitDue then d.commitEvents else d

/-- A block is refreshed: its valid data stays what it was (R463). -/
def blockRefreshOp (w : NandWork) (d : Dev) : Dev := if d.nandOn then (d.count (stoCounter 5)).nand w else d

/-- The scrub reads a programmed block; one that needs it is refreshed. `w.bad` are the sectors found uncorrectable. -/
def retentionScrubOp (refresh : Bool) (w : NandWork) (d : Dev) : Dev :=
  if d.nandOn then
    let d := w.bad.foldl (fun d k => d.sectorBad k) (d.nand w)
    if refresh then d.count (stoCounter 5) else d
  else d

/-- The mount after a cold or chip reset (R472). -/
def storageMountOp (ms : Nat) (unclean : Bool) (d : Dev) : Dev :=
  if d.sto.mounted then d
  else
    let d := d.setSto fun s => { s with mounted := true }
    (if unclean then d.count (stoCounter 6) else d).stoEvent 0x23 (ms % 65536 * 65536 + b2n unclean)

/-! ### Meanings -/

def execStorageDescriptorFetch (h : Nat) (s : State) := onDev s (storageDescriptorFetchOp h)
def execStorageRead (h i n : Nat) (w : NandWork) (s : State) := onDev s (storageReadOp h i n w)
def execStorageWrite (h i n : Nat) (w : NandWork) (s : State) := onDev s (storageWriteOp h i n w)
def execStorageTrim (h i : Nat) (s : State) := onDev s (storageTrimOp h i)
def execStorageFlush (h i : Nat) (s : State) := onDev s (storageFlushOp h i)
def execStorageAppend (i n : Nat) (w : NandWork) (s : State) := onDev s (storageAppendOp i n w)
def execStorageLogRead (i n : Nat) (w : NandWork) (s : State) := onDev s (storageLogReadOp i n w)
def execStorageCmdComplete (h i : Nat) (s : State) := onDev s (storageCmdCompleteOp h i)
def execEventLogCommit (s : State) := onDev s eventLogCommitOp
def execBlockRefresh (w : NandWork) (s : State) := onDev s (blockRefreshOp w)
def execRetentionScrub (refresh : Bool) (w : NandWork) (s : State) := onDev s (retentionScrubOp refresh w)
def execStorageMount (ms : Nat) (unclean : Bool) (s : State) := onDev s (storageMountOp ms unclean)
def execPartitionErase (h : Nat) (s : State) := onDev s fun d => answered (d.partitionErase h)

end Sys2Proof.Machine
end

