-- ==== Sys2Proof/Machine/Live.lean ====
section
/-! DEFINITION. What entries and register words read as: the stored value, or the value that follows from the rest of the state. -/

namespace Sys2Proof.Machine

/-! ### Use of a hall (R377) -/

def Dev.dmaOf (d : Dev) (h : Nat) : List Nat := (List.range 64).filter fun c => d.get (Ent.Dma.HALL c) == h
def Dev.qpOf (d : Dev) (h : Nat) : List Nat := (List.range 256).filter fun q => d.get (Ent.Qp.HALL q) == h
def Dev.ctxOf (d : Dev) (h : Nat) : List Nat := (List.range 256).filter fun c => d.get (Ent.Bctx.HALL c) == h
def Dev.bindOf (d : Dev) (h : Nat) : List Nat := (List.range 16).filter fun b => d.get (Ent.Bind.HALL b) == h
def Dev.objOf (d : Dev) (h : Nat) : List (Nat × Nat) :=
  (List.range 16).flatMap fun n => ((List.range 64).filter fun k => objHall (d.objRec n k) == h).map fun k => (n, k)
def Dev.txbOf (d : Dev) (h : Nat) : List (Nat × Nat) :=
  (List.range 16).flatMap fun n => ((List.range 3).filter fun k => d.txbHall n k == h).map fun k => (n, k)
def Dev.epOf (d : Dev) (h : Nat) : List (Nat × Nat) :=
  (List.range 4).flatMap fun u => ((List.range 1024).filter fun e => epHall (d.endpoint u e) == h).map fun e => (u, e)

/-- USE in the order of :20 to :26. -/
def Dev.hallUse (d : Dev) (h i : Nat) : Nat :=
  match i with
  | 0 => (d.qpOf h).length | 1 => (d.dmaOf h).length | 2 => (d.objOf h).length | 3 => (d.txbOf h).length
  | 4 => (d.ctxOf h).length | 5 => (d.bindOf h).length | 6 => (d.epOf h).length | _ => 0

/-- The quotas in the order of USE, with their subindices. -/
def Dev.quota (d : Dev) (h i : Nat) : Nat :=
  match i with
  | 0 => d.get (Ent.Hall.QP_MAX h) | 1 => d.get (Ent.Hall.DMA_MAX h) | 2 => d.get (Ent.Hall.CAN_OBJ_MAX h) | 3 => d.get (Ent.Hall.CAN_TXB_MAX h)
  | 4 => d.get (Ent.Hall.BRIDGE_CTX_MAX h) | 5 => d.get (Ent.Hall.BINDING_MAX h) | 6 => d.get (Ent.Hall.ENDPOINT_MAX h) | _ => 0
def quotaSub (i : Nat) : Nat := ([0x10, 0x11, 0x13, 0x14, 0x15, 0x16, 0x17][i]?).getD 0

/-- The pages that the VALID windows of a hall map. -/
def Dev.mappedPages (d : Dev) (h : Nat) : List Nat :=
  (List.range 16).flatMap fun i =>
    let r := d.windowRec h i
    if bit (leAt r 24 1) 0 then (List.range (leAt r 8 8 / 4096)).map fun j => leAt r 16 8 / 4096 + j else []

def Dev.pageMapped (d : Dev) (h p : Nat) : Bool :=
  (List.range 16).any fun i =>
    let r := d.windowRec h i
    bit (leAt r 24 1) 0 && decide (leAt r 16 8 / 4096 ≤ p) && decide (p < leAt r 16 8 / 4096 + leAt r 8 8 / 4096)

/-- The dirty set of a migration: mapped pages written since the present pass began. -/
def Dev.dirtyPages (d : Dev) (h : Nat) : List Nat := d.tenants.dirty.filter (d.pageMapped h)

/-- MIG_STATUS: pass and dirty set in KiB (R388). -/
def Dev.migStatus (d : Dev) (h : Nat) : Nat :=
  match d.tenants.mig with
  | some m => if m.hall = h then m.pass % 256 * 2 ^ 24 + min (4 * (d.dirtyPages h).length) (2 ^ 24 - 1) else 0
  | none => 0

/-! ### Entries -/

/-- Descriptors in use by copies of TC0 to TC7 and of TCM (R94). -/
def Dev.descFree (d : Dev) : Nat := d.sw.descFreeTc + (256 - d.sw.tcmDesc)

/-- A queue's state of Table 4.9: landing cells, stairwell cells, QFLAGS. -/
def Dev.queueValue (d : Dev) (p c f : Nat) : Nat :=
  let q := d.sw.queue p c
  match f with
  | 1 => sumBy (fun x => x.r + x.s) q.copies
  | 2 => sumBy Copy.stwCells q.copies
  | _ => b2n q.latched + 2 * b2n (d.sw.link p).held + 4 * b2n (q.copies.any fun x => x.state == .tx && x.cut)

/-- The error register (R191): any channel error-passive or bus-off sets the communication bit, and with it the generic one (DEDUCED). -/
def Dev.errorRegister (d : Dev) : Nat :=
  if (List.range 16).any fun n => d.fld (Rg.Ch.BUS n) == 1 || d.fld (Rg.Ch.BUS n) == 2 then 0x11 else 0

/-- POWER_STATE (Table 19.3): what the vestibule holds while the device sleeps, otherwise IDLE while every core's gate is not ON. -/
def Dev.powerState (d : Dev) : Nat :=
  match d.power.phase with
  | .asleep t => t
  | _ => if ([17, 18, 19, 20, 25, 26, 27, 28, 29, 30, 31, 32] : List Nat).all fun g => d.gateState g != 1 then 1 else 0

def Dev.gateAt (idx sub : Nat) : Option Nat := allGates.find? fun g => (gateEntry g).idx == idx && (gateEntry g).sub == sub

/-- The value of an integer entry that follows from the rest of the state. -/
def Dev.liveEntry (d : Dev) (idx sub : Nat) : Option Nat :=
  let within (base n : Nat) : Bool := decide (base ≤ idx) && decide (idx < base + n)
  if idx = 0x1001 then some d.errorRegister
  else if idx = 0x1018 ∧ sub = 1 then some d.board.vendor
  else if idx = 0x1018 ∧ sub = 3 then some d.board.revision
  else if idx = 0x1018 ∧ sub = 4 then some d.board.serial
  else if idx = 0x2100 ∧ sub = 1 then some d.powerState
  else if idx = 0x2010 ∧ sub = 7 then some d.d0.sessions.length
  else if idx = 0x2400 ∧ sub = 7 then some d.dbgActive
  else if idx = 0x2400 ∧ 0xC ≤ sub ∧ sub ≤ 0xE then
    some (d.fld (Rg.Wm.LOCKED (sub - 0xC)) * 2 ^ 31 + d.fld (Rg.Wm.GRANULES (sub - 0xC)))
  else if idx = 0x2410 ∧ 1 ≤ sub ∧ sub ≤ 0x40 then some (d.fld (Rg.Lsr.VALID (sub - 1)) * 2 ^ 15 + d.fld (Rg.Lsr.GATE (sub - 1)))
  else if idx = 0x2440 ∧ sub = 2 then some (d.fld Rg.Swd.PERIOD_MS)
  else if within 0x2300 0x100 then (Dev.gateAt idx sub).map d.gateValue
  else if within 0x2600 256 then
    if sub = 4 then some (d.epoch (.hall (idx - 0x2600)))
    else if 0x20 ≤ sub ∧ sub ≤ 0x26 then some (d.hallUse (idx - 0x2600) (sub - 0x20))
    else if sub = 1 then some (d.hallState (idx - 0x2600))
    else if sub = 0x35 then some (d.migStatus (idx - 0x2600)) else none
  else if within 0x2A20 12 ∧ sub = 2 then some (d.runPrio (idx - 0x2A20) * 16 + d.fld (Rg.Cpg.DEPTH (idx - 0x2A20)))
  else if within 0x2C40 64 ∧ sub = 0x10 then some (d.epoch (.dma (idx - 0x2C40)))
  else if within 0x2E00 256 ∧ sub = 0x10 then some (d.epoch (.qp (idx - 0x2E00)))
  else if idx = 0x3400 then
    match sub with
    | 5 => some d.freeCells | 6 => some d.sw.sharedUse | 7 => some d.descFree | 8 => some d.sw.tcmCells | 9 => some d.sw.tcmDesc | _ => none
  else if idx = 0x3401 then
    match sub with
    | 2 => some d.sw.stwUse | 3 => some d.stwRate | 4 => some d.sw.stageUse | _ => none
  else if within 0x3480 54 then
    if sub = 0x92 then some (d.ingCells (idx - 0x3480))
    else if sub < 0x90 ∧ (sub % 16 = 1 ∨ sub % 16 = 2 ∨ sub % 16 = 3) then some (d.queueValue (idx - 0x3480) (sub / 16) (sub % 16))
    else none
  else if idx = 0x3502 ∧ sub = 1 then some d.sw.fdb.length
  else if idx = 0x3502 ∧ sub = 2 then some d.statics.length
  else if within 0x3540 48 then
    let s := d.sw.sched (idx - 0x3540)
    match sub with
    | 0x10 => some ((s.oper.map (·.base)).getD 0) | 0x11 => some ((s.oper.map (·.cycle)).getD 0)
    | 0x12 => some ((s.oper.map (·.entries.length)).getD 0) | 0x14 => some (b2n s.pending.isSome) | 0x15 => some s.changeNs | _ => none
  else if within 0x3580 54 ∧ sub = 4 then some (d.linkValue (idx - 0x3580))
  else if within 0x3580 54 ∧ sub = 5 then some (if d.linkValue (idx - 0x3580) = 2 then d.lineRate (idx - 0x3580) else 0)
  else if idx = 0x3600 then
    match sub with
    | 1 => some d.time.quality | 2 => some d.time.tgen | 3 => some d.time.offset | 4 => some d.time.rate | 6 => some d.now | 7 => some d.time.raw
    | _ => none
  else if within 0x3640 48 ∧ sub = 0x11 then some (d.linkDelay (idx - 0x3640))
  else if within 0x3800 256 ∧ idx % 16 = 1 then
    let n := (idx - 0x3800) / 16
    match sub with
    | 4 => some (d.fld (Rg.Ch.BUS n)) | 5 => some (d.fld (Rg.Ch.TEC n)) | 6 => some (d.fld (Rg.Ch.REC n)) | _ => none
  else if within 0x3B00 256 ∧ sub = 0x10 then some (d.epoch (.bridge (idx - 0x3B00)))
  else if within 0x4480 256 ∧ sub = 0x11 then some (d.epoch (.station (idx - 0x4480)))
  else if idx = 0x4610 ∧ sub = 4 then some d.scan.forces.length
  else if idx = 0x4800 ∧ sub = 0x18 then some (d.get Ent.Sto.NAND_WRITE_BYTES * 100 / max 1 (d.get Ent.Sto.HOST_WRITE_BYTES))
  else if within 0x4820 256 ∧ sub = 2 then some (d.usedMib (idx - 0x4820))
  else if idx = 0x4C01 ∧ sub = 9 then some d.replMbps
  else if idx = 0x5000 ∧ sub = 1 then some ((d.logs.seq + 2 ^ 32 - 1) % 2 ^ 32)
  else none

/-- An integer entry as it reads. -/
def Dev.value (d : Dev) (e : Entry) : Nat := ((d.liveEntry e.idx e.sub).getD (d.get e)) % 2 ^ e.bits

/-- A string entry that follows from the rest of the state. -/
def Dev.liveOct (d : Dev) (idx sub : Nat) : Option Bytes :=
  if idx = 0x1008 then some (bytesOf [0x5A, 0x43, 0x34, 0x38, 0x31, 0x36])
  else if idx = 0x1009 then some d.board.hwVersion
  else if idx = 0x100A then some d.board.swVersion
  else if idx = 0x3500 ∧ sub = 4 then some (be 6 d.board.deviceMac)
  else if idx = 0x3502 ∧ sub = 5 then some d.fdbSnapshot
  else if idx = 0x3502 ∧ sub = 6 then some ((List.range 2048).flatMap fun s => (d.sw.stream s).bytes)
  else if 0x3540 ≤ idx ∧ idx < 0x3570 ∧ sub = 0x13 then
    some ((((d.sw.sched (idx - 0x3540)).oper.map (·.entries)).getD []).flatMap fun e => le 3 (e.2 / 8) ++ le 1 e.1)
  else if idx = 0x3C00 ∧ sub = 3 then some ((List.range 32).flatMap fun k => le 1 (d.domain k).state)
  else if idx = 0x4610 ∧ sub = 5 then some d.forceTable
  else if idx = 0x4803 ∧ sub = 4 then
    let first := d.get Ent.Evl.EVENT_FIRST
    let at_ := max first (d.get Ent.Evl.EVENT_FROM)
    some ((((d.logs.events ++ d.logs.waiting).drop (at_ - first)).take 4096).flatMap LogRec.bytes)
  else if idx = 0x4C40 ∧ sub = 1 then some d.nodeRoles
  else if idx = 0x2440 ∧ sub = 1 then some (d.logs.secureRecs.flatMap LogRec.bytes)
  else none

/-- The bytes of an entry, each type at its length, as a read by hall 0 returns it; a write-only entry as 0. -/
def Dev.entryBytes (d : Dev) (r : DictRow) (idx sub : Nat) : Bytes :=
  match r.ty.bytes with
  | some n => if r.acc = .wo then zeros n else le n (d.value ⟨idx, sub, 8 * n, ofInt (8 * n) r.dflt⟩)
  | none =>
    let n : Nat := match r.ty with
      | .oct k => 8 * k
      | _ => 0
    (d.liveOct idx sub).getD (d.oct ⟨idx, sub, n, 0⟩)

/-! ### Register words -/

/-- The row has an instance at address `a`. -/
def RegRow.at_ (r : RegRow) (a : Nat) : Bool := decide (r.base + r.off ≤ a) && peel r.dims (a - (r.base + r.off))
where
  /-- What is left of an offset after the instances of each dimension, outermost first, is 0. -/
  peel : List (Nat × Nat) → Nat → Bool
    | [], n => n == 0
    | (c, s) :: rest, n => decide (n / s < c) && peel rest (n % s)

/-- The fields of the word at `a`. -/
def fieldsAt (a : Nat) : List RegRow := regRows.filter fun r => r.at_ a

/-- The reset value of the word at `a`. -/
def wordReset (a : Nat) : Nat := (fieldsAt a).foldl (fun v r => setBits v r.hi r.lo r.reset) 0

def Dev.listWord (f : Nat → Bool) (base : Nat) : Nat := (List.range 32).foldl (fun v i => setBit v i (f (base + i))) 0

/-- The words of a CAN channel's pages (Tables 7.2, 7.3, 7.5). -/
def Dev.canWord (d : Dev) (n off : Nat) (w : Nat) : Nat :=
  if off = 0 then setBits w 1 0 (d.get (Ent.CanSt.STATE n))
  else if off = 0x10 ∨ off = 0x14 then Dev.listWord (fun k => d.isSet (Rg.Obj.NEW n k)) ((off - 0x10) * 8)
  else if off = 0x18 ∨ off = 0x1C then Dev.listWord (fun k => d.isSet (Rg.Obj.LOSTCNT n k)) ((off - 0x18) * 8)
  else if off = 0x20 then setBits w 5 0 (d.canCh n).fifo.length
  else if 0x900 ≤ off ∧ off < 0x980 then d.fifoWord n (off - 0x900)
  else if 0x1000 ≤ off ∧ off < 0x3000 ∧ (off - 0x1000) % 0x80 = 0xC then setBits w 15 0 (d.epoch (.canObj n ((off - 0x1000) / 0x80)))
  else w

/-- The words of hall `h`'s page that are not stored (Table 16.5). -/
def Dev.hallWord (d : Dev) (h off : Nat) (w : Nat) : Nat :=
  if off = 0 then d.hallLines h
  else if off = 0x20 then d.get (Ent.Hall.FAULT_CAUSE h) * 2 ^ 24 + d.hallState h * 65536 + d.epoch (.hall h)
  else w

/-- A source word (Table 14.4): PENDING as it stands, EDGE as the source is. -/
def Dev.srcWord (d : Dev) (n : Nat) (w : Nat) : Nat :=
  if n = 0 ∨ 512 ≤ n then 0
  else
    let w := setBit (setBit w 31 (d.srcPending n)) 28 (isEdge n)
    let w := setBits w 27 24 (d.srcTarget n)
    setBits w 19 16 (d.srcPriority n)

/-- A register word as hall 0 reads it; `w` is what is stored. -/
def Dev.liveWord (d : Dev) (a w : Nat) : Nat :=
  let off (base : Nat) : Nat := a - base
  if 0x10000000 ≤ a ∧ a < 0x10000800 then d.srcWord (off 0x10000000 / 4) w
  else if 0x10010000 ≤ a ∧ a < 0x1001C000 ∧ a % 0x1000 = 0xC then
    let k := off 0x10010000 / 0x1000
    setBits (setBits w 7 4 (d.runPrio k)) 3 0 (d.threshold k)
  else if 0x10400000 ≤ a ∧ a < 0x10440000 then d.canWord (off 0x10400000 / 0x4000) (a % 0x4000) w
  else if a = 0x10600004 then d.domAgreed
  else if 0x10800000 ≤ a ∧ a < 0x10900000 ∧ a % 0x1000 = 0x28 then setBits w 1 0 (d.get (Ent.Bctx.STATE (off 0x10800000 / 0x1000)))
  else if a = 0x10A00008 then setBits w 2 0 d.engine
  else if 0x10A00010 ≤ a ∧ a < 0x10A00040 then d.executorWord (off 0x10A00010 / 4)
  else if 0x10E00000 ≤ a ∧ a < 0x10F00000 then d.hallWord (off 0x10E00000 / 0x1000) (a % 0x1000) w
  else if 0x1F050000 ≤ a ∧ a < 0x1F050100 then
    let n := off 0x1F050000 / 4
    if n = 0 then 0 else setBit (setBit w 31 (d.m0Pending n)) 28 (n != 1 && n != 2)
  else if a = 0x1F05100C then setBits w 7 4 (d.runPrio 12)
  else if a = 0x1F030008 then d.mezz.period - (d.mezz.paused.getD d.time.raw - d.mezz.kick) / 1000000
  else w

/-- The word at `a` as hall 0 reads it. -/
def Dev.wordNow (d : Dev) (a : Nat) : Nat := d.liveWord a (d.word a (wordReset a))

end Sys2Proof.Machine
end

