-- ==== Sys2Proof/Machine/Counters.lean ====
section
/-! DEFINITION. Clearing of statistics counters (R47), their 32-bit access (R48), and the core supply (R24 to R26). -/

namespace Sys2Proof.Machine

/-! ### Counters -/

/-- Counters of a table: indices, the subindices from `first` on, and where bit `bit0` of the saturation field counts from. -/
structure SatRow where
  base : Nat
  count : Nat
  stride : Nat
  first : Nat
  subs : Nat
  sat : Nat
  bit0 : Nat
  deriving DecidableEq, Repr

/-- The saturation fields that the entry tables name. -/
def satRows : List SatRow := [
  ⟨0x2010, 1, 1, 0x08, 2, 0x0A, 0⟩, ⟨0x2100, 1, 1, 0x09, 6, 0x10, 0⟩, ⟨0x2108, 1, 1, 0x06, 1, 0x07, 0⟩, ⟨0x2200, 1, 1, 0x0D, 3, 0x10, 0⟩,
  ⟨0x2210, 4, 1, 0x06, 1, 0x07, 0⟩, ⟨0x2410, 1, 1, 0x41, 1, 0x42, 0⟩, ⟨0x2440, 1, 1, 0x03, 1, 0x04, 0⟩, ⟨0x2600, 256, 1, 0x28, 5, 0x2D, 0⟩,
  ⟨0x2A10, 4, 1, 0x02, 1, 0x05, 0⟩, ⟨0x2A20, 12, 1, 0x03, 3, 0x06, 0⟩, ⟨0x2C00, 1, 1, 0x05, 6, 0x0D, 0⟩, ⟨0x2C10, 4, 1, 0x05, 1, 0x06, 0⟩,
  ⟨0x2C40, 64, 1, 0x11, 5, 0x16, 0⟩, ⟨0x2E00, 256, 1, 0x11, 6, 0x17, 0⟩, ⟨0x3401, 1, 1, 0x05, 1, 0x06, 0⟩, ⟨0x3480, 54, 1, 0x93, 7, 0x9A, 0⟩,
  ⟨0x3502, 1, 1, 0x03, 1, 0x09, 0⟩, ⟨0x3580, 54, 1, 0x10, 15, 0x1F, 0⟩, ⟨0x3600, 1, 1, 0x05, 1, 0x09, 0⟩] ++ [
  ⟨0x3620, 4, 1, 0x10, 1, 0x11, 0⟩, ⟨0x3640, 48, 1, 0x12, 2, 0x14, 0⟩, ⟨0x3700, 32, 1, 0x11, 2, 0x13, 0⟩, ⟨0x3801, 16, 16, 0x10, 10, 0x1A, 0⟩,
  ⟨0x3A00, 4, 1, 0x10, 4, 0x14, 0⟩, ⟨0x3A20, 16, 1, 0x10, 3, 0x13, 0⟩, ⟨0x3B00, 256, 1, 0x12, 5, 0x17, 0⟩, ⟨0x3C00, 1, 1, 0x06, 2, 0x08, 0⟩,
  ⟨0x3C50, 18, 1, 0x13, 2, 0x15, 0⟩, ⟨0x4000, 24, 1, 0x30, 7, 0x37, 0⟩, ⟨0x4100, 2, 1, 0x04, 1, 0x05, 0⟩, ⟨0x4400, 1, 1, 0x0B, 2, 0x0D, 0⟩,
  ⟨0x4410, 48, 1, 0x01, 1, 0x07, 0⟩, ⟨0x4410, 48, 1, 0x05, 2, 0x07, 1⟩, ⟨0x4480, 256, 1, 0x12, 6, 0x18, 0⟩, ⟨0x4600, 1, 1, 0x08, 2, 0x0A, 0⟩,
  ⟨0x4800, 1, 1, 0x10, 7, 0x17, 0⟩, ⟨0x4820, 256, 1, 0x10, 3, 0x13, 0⟩, ⟨0x4A00, 1, 1, 0x0D, 3, 0x10, 0⟩, ⟨0x4C01, 1, 1, 0x10, 7, 0x17, 0⟩]

/-- The saturation field and bit of a counter. Queue counters have their own rule: seven per class in Q_SAT (Table 4.9). -/
def counterSat (idx sub : Nat) : Option (Entry × Nat) :=
  if 0x3480 ≤ idx ∧ idx < 0x3480 + 54 ∧ sub < 0x90 then
    if 7 ≤ sub % 16 ∧ sub % 16 ≤ 13 then some (Ent.Pq.Q_SAT (idx - 0x3480), sub / 16 * 7 + sub % 16 - 7) else none
  else
    (satRows.find? fun r => decide (r.base ≤ idx) && (idx - r.base) % r.stride == 0 && decide ((idx - r.base) / r.stride < r.count) &&
        decide (r.first ≤ sub) && decide (sub < r.first + r.subs)).map
      fun r => (⟨idx, r.sat, if r.base = 0x3580 ∨ r.base = 0x3801 then 16 else 8, 0⟩, r.bit0 + (sub - r.first))

/-- Bits written as 1 clear; a counter that becomes 0 loses its saturation bit (R47). -/
def Dev.clearCounter (d : Dev) (idx sub v : Nat) : Dev :=
  let e : Entry := ⟨idx, sub, 64, 0⟩
  let w := clearBits 64 (d.get e) v
  let d := d.put e w
  match counterSat idx sub with
  | some (s, b) => if w = 0 then d.putBit s b false else d
  | none => d

/-- The latch of an initiator in a unit, which is the counter's index. -/
def latchKey (i : Initiator) (idx : Nat) : Nat := i.id * 65536 + idx

/-- A 32-bit read of a counter: the low word latches the high word; the high word gives what the latch holds for it, and empties it (R48). -/
def counterLowReadOp (i : Initiator) (idx sub : Nat) (high : Bool) (d : Dev) : Dev :=
  let v := d.get ⟨idx, sub, 64, 0⟩
  let k := latchKey i idx
  if high then
    match KV.find k d.ctrLatch with
    | some l =>
      if l.key = idx * 256 + sub then ({ d with ctrLatch := KV.erase k d.ctrLatch } : Dev).answer .ok l.high else d.answer .ok (v / 2 ^ 32)
    | none => d.answer .ok (v / 2 ^ 32)
  else ({ d with ctrLatch := KV.insert k ⟨idx * 256 + sub, v / 2 ^ 32⟩ d.ctrLatch } : Dev).answer .ok (v % 2 ^ 32)

/-- A 32-bit write to the low word is staged. -/
def counterLowWriteOp (idx sub v : Nat) (d : Dev) : Dev :=
  ({ d with ctrStage := KV.insert (idx * 256 + sub) (v % 2 ^ 32) d.ctrStage } : Dev).answer .ok

/-- A write to the high word takes effect together with the staged low word. -/
def counterHighWriteOp (idx sub v : Nat) (d : Dev) : Dev :=
  let k := idx * 256 + sub
  let low := KV.get 0 k d.ctrStage
  (({ d with ctrStage := KV.erase k d.ctrStage } : Dev).clearCounter idx sub (v % 2 ^ 32 * 2 ^ 32 + low)).answer .ok

/-! ### The core supply -/

def Dev.setSupply (d : Dev) (f : Supply → Supply) : Dev := { d with supply := f d.supply }

/-- The target of a pace mode (Table 1.7); FIXED has none. -/
def paceTarget (mode : Nat) : Nat := if mode = 0 then 4096 else if mode = 1 then 5960 else 0

/-- PACE_SHORT or PACE_LOW; the manual states no DATA: a free value. -/
def Dev.paceEvent (d : Dev) (code : Nat) : Dev :=
  let (v, d) := d.draw 32
  d.eventSys 6 (srcPower 0) code v.toNat

/-- The pace monitor reports a code (R24, R26): the target of PACE_MODE applies, and an unmet target at 0.88 V starts an episode. -/
def paceSampleOp (code : Nat) (d : Dev) : Dev :=
  let mode := d.get Ent.Pace.PACE_MODE
  let t := paceTarget mode
  let d := (d.put Ent.Pace.PACE_CODE (min code 65535)).put Ent.Pace.PACE_TARGET t
  let top := d.get Ent.Pace.RAIL_MV == 880
  let short := decide (mode ≤ 1) && top && decide (code < t)
  let d := if short && !d.supply.episode then
      (d.count (ctr Ent.Pace.PACE_SHORT_COUNT Ent.Pace.COUNTER_SAT 0 (srcPower 0))).paceEvent 0x0031
    else d
  d.setSupply fun s =>
    { s with episode := if t ≤ code then false else s.episode || short,
             low := if mode = 0 ∧ top ∧ code < 4096 then s.low + 1 else 0,
             good := if 4096 ≤ code then s.good + 1 else 0 }

/-- 10 µs have passed since the rail's last step. -/
def Dev.trimDue (d : Dev) : Bool :=
  match d.supply.stepAt with
  | none => true
  | some t => decide (t + 10000 ≤ d.time.raw)

/-- The rail moves by one 5 mV step toward the target in force, at most one per 10 µs, within 0.72 V to 0.88 V (R24, R26); target 0 is mode FIXED. Whether the next lower rail still meets
the target is known to the hardware alone: `up` false asks for a step down. -/
def trimStepOp (up : Bool) (d : Dev) : Dev :=
  let rail := d.get Ent.Pace.RAIL_MV
  let next :=
    if d.get Ent.Pace.PACE_TARGET = 0 then
      let f := d.get Ent.Pace.FIXED_MV
      if rail < f then rail + 5 else if f < rail then rail - 5 else rail
    else if up then (if d.get Ent.Pace.PACE_CODE < d.get Ent.Pace.PACE_TARGET then rail + 5 else rail)
    else (if d.get Ent.Pace.PACE_TARGET ≤ d.get Ent.Pace.PACE_CODE then rail - 5 else rail)
  if d.trimDue = false ∨ d.supply.frozen ∨ next < 720 ∨ 880 < next ∨ next = rail then d
  else (d.put Ent.Pace.RAIL_MV next).setSupply fun s => { s with stepAt := some d.time.raw }

/-- More than 20 µs below 4096 at the top rail in mode WORST: a pace fault (R26). -/
def paceFaultOp (d : Dev) : Dev :=
  if d.get Ent.Pace.PACE_TARGET = 4096 ∧ 20 < d.supply.low ∧ d.supply.fault = false then
    ((d.setSupply fun s => { s with fault := true }).paceEvent 0x0032).faultRefresh
  else d

/-- The pace code has been at 4096 or above for 1 ms. -/
def paceFaultEndOp (d : Dev) : Dev :=
  if d.supply.fault ∧ 1000 ≤ d.supply.good then (d.setSupply fun s => { s with fault := false }).faultRefresh else d

/-- Rows of R24, R26 and R48. -/
def execPaceSample (code : Nat) (s : State) := onDev s (paceSampleOp code)
def execTrimStep (up : Bool) (s : State) := onDev s (trimStepOp up)
def execPaceFault (s : State) := onDev s paceFaultOp
def execPaceFaultEnd (s : State) := onDev s paceFaultEndOp
def execCounterLowRead (i : Initiator) (idx sub : Nat) (high : Bool) (s : State) := onDev s (counterLowReadOp i idx sub high)
def execCounterLowWrite (idx sub v : Nat) (s : State) := onDev s (counterLowWriteOp idx sub v)
def execCounterHighWrite (idx sub v : Nat) (s : State) := onDev s (counterHighWriteOp idx sub v)

end Sys2Proof.Machine
end

