-- ==== Sys2Proof/Machine/HallImage.lean ====
section
/-! DEFINITION. A hall's state record: SAVE and RESTORE (R385, R386). -/

namespace Sys2Proof.Machine

/-- The start value of an epoch is kept out of the list, as for `bumpEpoch`. -/
def Dev.setEpoch (d : Dev) (u : EpochUnit) (e : Nat) : Dev := { d with epochs := KV.put d.epochStart u.key e d.epochs }

/-! ### Sections -/

/-- A section of the record. -/
structure HSect where
  kind : Nat
  inst : Nat
  epoch : Nat
  data : Bytes
  deriving DecidableEq, Repr

def pad16 (b : Bytes) : Bytes := b ++ zeros ((16 - b.length % 16) % 16)

def HSect.bytes (s : HSect) : Bytes :=
  let b := pad16 s.data
  le 2 s.kind ++ le 2 s.inst ++ le 4 b.length ++ le 2 s.epoch ++ zeros 6 ++ b

/-- The rows of an index group that a section of index `idx` carries, with their subindices, in the table's order. -/
def groupRows (idx lo hi : Nat) : List (DictRow × Nat) :=
  (dictRows.filter fun r => r.stride == 1 && decide (r.base ≤ idx) && decide (idx < r.base + r.count)).flatMap fun r =>
    ((List.range r.subs).map fun i => (r, r.sub + i * r.subStride)).filter fun x => decide (lo ≤ x.2) && decide (x.2 ≤ hi)

/-- Entries of an index, in subindex order. -/
def Dev.entriesImage (d : Dev) (idx lo hi : Nat) : Bytes := (groupRows idx lo hi).flatMap fun x => d.entryBytes x.1 idx x.2

/-- A register page as hall 0 reads it; a read clears nothing. -/
def Dev.pageImage (d : Dev) (base n : Nat) : Bytes := (List.range (n / 4)).flatMap fun i => le 4 (d.wordNow (base + 4 * i))

/-- The registers x1 to x31 and the pc as the debug module numbers them. -/
def coreRegs : List Nat := (List.range 32).map (· + 0x1000) ++ [0x7B1]

/-- A control core: fault status, registers (free where debug has not seen them), both TCMs (DESIGN CHOICE, assumption 52). -/
def Dev.coreImage (d : Dev) (c : Nat) : Bytes × Dev :=
  let h := d.hart (4 + c)
  let (b, d) := coreRegs.foldl (fun (x : Bytes × Dev) r =>
    match KV.find r h.regs with
    | some v => (x.1 ++ le 4 v, x.2)
    | none => let (v, e) := x.2.draw 32; (x.1 ++ le 4 v.toNat, e)) (le 4 h.mfstat, d)
  (b ++ d.readMem (0x2000000 + c * 0x20000) 0x20000, d)

def Dev.dmaImage (d : Dev) (c : Nat) : Bytes :=
  d.entriesImage (0x2C40 + c) 0 0xFF ++ d.pageImage (0x10200000 + 0x1000 * c) 0x1000 ++
  (if (d.ch c).desc = [] then [] else le 4 (d.ch c).done ++ (d.ch c).desc)

def Dev.objImage (d : Dev) (h n : Nat) : Bytes :=
  let mine := (List.range 64).filter fun k => objHall (d.objRec n k) == h
  ((List.range 64).flatMap fun k => if mine.contains k then slice (d.objRec n k) 0 8 else zeros 8) ++
  mine.flatMap fun k => d.pageImage (0x10401000 + 0x4000 * n + 0x80 * k) 0x80

/-- A held record, without its number. -/
def Ev.bytes (e : Ev) : Bytes :=
  le 4 0 ++ le 4 e.time ++ le 2 e.source ++ le 2 e.codeField ++ le 4 e.data ++
  (match e.ext with | none => [] | some p => le 4 0 ++ slice p 0 12)

/-- The cores of CCORES. -/
def Dev.coresOf (d : Dev) (h : Nat) : List Nat := (List.range 8).filter fun c => bit (d.get (Ent.Hall.CCORES h)) c

/-- Every section of hall `h` (Table 16.8), in the order of the kinds. -/
def Dev.hallSections (d : Dev) (h : Nat) : List HSect × Dev :=
  let chans := (List.range 16).filter fun n => (d.objOf h).any fun x => x.1 == n
  let held := KV.get [] h d.logs.ringHeld
  let guest := d.oct (Ent.Hall.GUEST_STATE h)
  let front : List HSect :=
    [⟨1, 0, 0, d.entriesImage (0x2600 + h) 0x10 0x1C⟩, ⟨2, 0, 0, d.pageImage (0x10E00000 + 0x1000 * h) 0x1000⟩,
     ⟨3, 0, 0, d.oct (Ent.Iommu.WINDOWS h)⟩] ++
    ((d.dmaOf h).map fun c => ⟨4, c, d.epoch (.dma c), d.dmaImage c⟩) ++
    ((d.qpOf h).map fun q => ⟨5, q, d.epoch (.qp q), d.entriesImage (0x2E00 + q) 0 0xFF ++ d.pageImage (0x10300000 + 0x1000 * q) 0x1000⟩) ++
    (chans.map fun n => ⟨6, n, 0, d.objImage h n⟩) ++
    ((d.txbOf h).map fun x => ⟨7, 3 * x.1 + x.2, d.epoch (.canTxb x.1 x.2), d.pageImage (0x10400400 + 0x4000 * x.1 + 0x80 * x.2) 0x80⟩) ++
    ((d.ctxOf h).map fun c =>
      ⟨8, c, d.epoch (.bridge c), d.entriesImage (0x3B00 + c) 0 0xFF ++ d.pageImage (0x10800000 + 0x1000 * c) 0x1000⟩) ++
    ((d.epOf h).map fun x =>
      ⟨9, 1024 * x.1 + x.2, 0, slice (d.endpoint x.1 x.2) 0 8 ++ d.pageImage (0x10900000 + 0x4000 * x.1 + 0x10 * x.2) 0x10⟩) ++
    ((d.bindOf h).map fun b => ⟨0xA, b, 0, d.entriesImage (0x2020 + b) 0 0xFF⟩) ++
    (if held = [] then [] else [⟨0xB, 0, 0, held.flatMap Ev.bytes⟩])
  let (cores, d) := (d.coresOf h).foldl (fun (x : List HSect × Dev) c => let (b, e) := x.2.coreImage c; (x.1 ++ [⟨0xC, c, 0, b⟩], e)) ([], d)
  (front ++ cores ++ (if guest = [] then [] else [⟨0xD, 0, 0, guest⟩]), d)

/-- The record of Table 16.7. -/
def Dev.hallRecord (d : Dev) (h : Nat) : Bytes × Dev :=
  let (l, d) := d.hallSections h
  let body := l.flatMap HSect.bytes
  let head := bytesOf [0x4E, 0x48, 0x53, 0x54] ++ le 2 1 ++ le 1 h ++ le 1 (b2n (d.hallState h == 3)) ++ le 4 (64 + body.length) ++
    le 2 d.board.nodeId ++ le 2 (d.epoch (.hall h)) ++ le 8 d.now ++ le 2 l.length ++ zeros 6
  (head ++ sha256 body ++ body, d)

/-! ### Restore -/

/-- The sections of a record's body; `none` with the index of the first that does not fit. -/
def parseSections : Nat → Nat → Bytes → Nat × Option (List HSect)
  | 0, i, _ => (i, none)
  | n + 1, i, b =>
    if b = [] then (i, some [])
    else
      let len := leAt b 4 4
      if b.length < 16 + len ∨ len % 16 ≠ 0 then (i, none)
      else match parseSections n (i + 1) (b.drop (16 + len)) with
      | (j, some l) => (j, some (⟨leAt b 0 2, leAt b 2 2, leAt b 8 2, slice b 16 len⟩ :: l))
      | r => r

/-- How many instances a kind has, and the least length of its data in `d` (Table 16.8). -/
def Dev.sectionShape (d : Dev) (s : HSect) : Nat × Nat :=
  match s.kind with
  | 1 => (1, (d.entriesImage 0x2601 0x10 0x1C).length)
  | 2 => (1, 0x1000) | 3 => (1, 0)
  | 4 => (64, (d.entriesImage 0x2C40 0 0xFF).length + 0x1000)
  | 5 => (256, (d.entriesImage 0x2E00 0 0xFF).length + 0x1000)
  | 6 => (16, 512) | 7 => (48, 0x80)
  | 8 => (256, (d.entriesImage 0x3B00 0 0xFF).length + 0x1000)
  | 9 => (4096, 0x18)
  | 0xA => (16, (d.entriesImage 0x2020 0 0xFF).length)
  | 0xB => (1, 0) | 0xC => (8, 4 + 4 * coreRegs.length + 0x20000) | 0xD => (1, 0)
  | _ => (0, 0)

def Dev.sectionValid (d : Dev) (s : HSect) : Bool :=
  let (n, l) := d.sectionShape s
  decide (s.inst < n) && decide (l ≤ s.data.length) && (s.kind != 3 || decide (s.data.length ≤ 512)) && (s.kind != 0xB || decide (s.data.length ≤ 2048)) &&
    (s.kind != 0xD || decide (s.data.length ≤ 1048576))

/-- Load the entries of an index from their image: everything but the constants, the write-only entries, APPLY_STATUS and what follows from other
state. -/
def Dev.loadEntries (d : Dev) (idx : Nat) : List (DictRow × Nat) → Bytes → Dev × Bytes
  | [], b => (d, b)
  | (r, sub) :: rest, b =>
    let skip := r.acc == .const || r.acc == .wo || sub == 0xFD || (d.liveEntry idx sub).isSome
    match r.ty.bytes with
    | some n =>
      let d := if skip then d else d.put ⟨idx, sub, 8 * n, ofInt (8 * n) r.dflt⟩ (leAt b 0 n)
      Dev.loadEntries d idx rest (b.drop n)
    | none =>
      let n := (d.entryBytes r idx sub).length
      Dev.loadEntries (if skip then d else d.putOct ⟨idx, sub, 8 * n, 0⟩ (slice b 0 n)) idx rest (b.drop n)

/-- Load a register page from its image. -/
def Dev.loadPage (d : Dev) (base n : Nat) (b : Bytes) : Dev :=
  (List.range (n / 4)).foldl (fun d i => d.putWord (base + 4 * i) (wordReset (base + 4 * i)) (leAt b (4 * i) 4)) d

/-- The events of held records. -/
def parseHeld : Nat → Bytes → List Ev
  | 0, _ => []
  | n + 1, b =>
    let code := leAt b 10 2
    if b.length < 16 ∨ leAt b 0 16 = 0 then []
    else
      let ext := if bit code 15 then some (slice b 20 12) else none
      ⟨leAt b 4 4, leAt b 8 2, code % 2 ^ 14, bit code 14, leAt b 12 4, ext⟩ :: parseHeld n (b.drop (if bit code 15 then 32 else 16))

/-- The OBJ_TABLE of a channel with the records that a section names; the epoch start value counts as one. -/
def Dev.loadObjects (d : Dev) (h n : Nat) (b : Bytes) : Dev :=
  let mine := (List.range 64).filter fun k => leAt b (8 * k + 4) 1 == h
  let t := (List.range 64).flatMap fun k => if mine.contains k then slice b (8 * k) 8 else slice (d.objRec n k) 0 8
  let d := d.putOct (Ent.CanObj.OBJ_TABLE n) t
  (List.range mine.length).foldl (fun d i =>
    let k := (mine[i]?).getD 0
    let p := slice b (512 + 0x80 * i) 0x80
    (d.loadPage (0x10401000 + 0x4000 * n + 0x80 * k) 0x80 p).setEpoch (.canObj n k) (leAt p 0xC 2)) d

/-- Load one section into hall `h`. -/
def Dev.loadSection (d : Dev) (h : Nat) (s : HSect) : Dev :=
  let i := s.inst
  match s.kind with
  | 1 => (d.loadEntries (0x2600 + h) (groupRows (0x2600 + h) 0x10 0x1C) s.data).1
  | 2 => d.loadPage (0x10E00000 + 0x1000 * h) 0x1000 s.data
  | 3 => d.putOct (Ent.Iommu.WINDOWS h) s.data
  | 4 =>
    let (d, rest) := d.loadEntries (0x2C40 + i) (groupRows (0x2C40 + i) 0 0xFF) s.data
    let d := ((d.loadPage (0x10200000 + 0x1000 * i) 0x1000 rest).setEpoch (.dma i) s.epoch).put (Ent.Dma.HALL i) h
    let r := rest.drop 0x1000
    if d.isSet (Rg.Dmar.ACTIVE i) ∧ 36 ≤ r.length then d.setCh i fun x => { x with done := leAt r 0 4, desc := slice r 4 32 } else d
  | 5 =>
    let (d, rest) := d.loadEntries (0x2E00 + i) (groupRows (0x2E00 + i) 0 0xFF) s.data
    ((d.loadPage (0x10300000 + 0x1000 * i) 0x1000 rest).setEpoch (.qp i) s.epoch).put (Ent.Qp.HALL i) h
  | 6 => d.loadObjects h i s.data
  | 7 =>
    let d := d.putOct (Ent.CanObj.TXB_HALL (i / 3)) (patch (d.oct (Ent.CanObj.TXB_HALL (i / 3))) (i % 3) (le 1 h))
    (d.loadPage (0x10400400 + 0x4000 * (i / 3) + 0x80 * (i % 3)) 0x80 s.data).setEpoch (.canTxb (i / 3) (i % 3)) s.epoch
  | 8 =>
    let (d, rest) := d.loadEntries (0x3B00 + i) (groupRows (0x3B00 + i) 0 0xFF) s.data
    let d := ((d.loadPage (0x10800000 + 0x1000 * i) 0x1000 rest).setEpoch (.bridge i) s.epoch).put (Ent.Bctx.HALL i) h
    d.closeBridge (i / 64) (i % 64)
  | 9 =>
    let d := d.putOct (Ent.Bu.ENDPOINTS (i / 1024)) (patch (d.oct (Ent.Bu.ENDPOINTS (i / 1024))) (8 * (i % 1024)) (patch (slice s.data 0 8) 4 (le 1 h)))
    d.loadPage (0x10900000 + 0x4000 * (i / 1024) + 0x10 * (i % 1024)) 0x10 (s.data.drop 8)
  | 0xA => ((d.loadEntries (0x2020 + i) (groupRows (0x2020 + i) 0 0xFF) s.data).1).put (Ent.Bind.HALL i) h
  | 0xB => { d with logs := { d.logs with ringHeld := KV.insert h (parseHeld 64 s.data) d.logs.ringHeld } }
  | 0xC =>
    let regs := (List.range coreRegs.length).foldl (fun m j => KV.insert ((coreRegs[j]?).getD 0) (leAt s.data (4 + 4 * j) 4) m) []
    let d := d.setHart (4 + i) fun x => { x with mfstat := leAt s.data 0 2, nhall := h, halted := true, regs := regs }
    d.writeMem (0x2000000 + i * 0x20000) (slice s.data (4 + 4 * coreRegs.length) 0x20000)
  | 0xD => d.putOct (Ent.Hall.GUEST_STATE h) s.data
  | _ => d

/-- Check 6 for one section: its instance is hall 0's, and DISABLED where it has a state. -/
def Dev.sectionFree (d : Dev) (s : HSect) : Bool :=
  let i := s.inst
  match s.kind with
  | 4 => d.get (Ent.Dma.HALL i) == 0 && d.get (Ent.Dma.STATE i) == 0
  | 5 => d.get (Ent.Qp.HALL i) == 0 && d.get (Ent.Qp.STATE i) == 0
  | 6 => (List.range 64).all fun k => leAt s.data (8 * k + 4) 1 == 0 || objHall (d.objRec i k) == 0
  | 7 => d.txbHall (i / 3) (i % 3) == 0
  | 8 => d.get (Ent.Bctx.HALL i) == 0 && d.get (Ent.Bctx.STATE i) == 0
  | 9 => epHall (d.endpoint (i / 1024) (i % 1024)) == 0
  | 0xA => d.get (Ent.Bind.HALL i) == 0 && !d.flag (Ent.Bind.ENABLE i)
  | 0xC => !d.coreInHall i && !d.engineCore i
  | _ => true

/-- Use within the quotas that the sections set; cores as the restored CCORES; windows as R357. -/
def Dev.restoredFits (x : Dev) (h : Nat) (l : List HSect) : Bool :=
  (List.range 7).all (fun i => decide (x.hallUse h i ≤ x.quota h i)) &&
  (x.dmaOf h).all (fun c => decide (x.get (Ent.Dma.PRIORITY c) ≤ x.get (Ent.Hall.DMA_PRIO_MAX h))) &&
  (windowsFault x h).isNone &&
  (List.range 8).all fun c => bit (x.get (Ent.Hall.CCORES h)) c == l.any fun s => s.kind == 0xC && s.inst == c

def Dev.firstIndex (p : HSect → Bool) (l : List HSect) : Option Nat := (List.range l.length).find? fun i => ((l[i]?).map p).getD false

/-- Checks 3 to 6 of Table 16.9 and the load of every section: the status, the index of the section at fault, the device. -/
def Dev.restoreRecord (d : Dev) (h : Nat) (b : Bytes) : Status × Nat × Dev :=
  let body := b.drop 64
  if slice b 0 6 ≠ bytesOf [0x4E, 0x48, 0x53, 0x54, 1, 0] ∨ leAt b 8 4 ≠ b.length ∨ b.length % 16 ≠ 0 ∨ b.length < 64 ∨ leAt b 6 1 ≠ h then
    (.outOfRange, 0, d)
  else if sha256 body ≠ slice b 32 32 then (.integrity, 0, d)
  else match parseSections (body.length / 16 + 1) 0 body with
  | (i, none) => (.outOfRange, i, d)
  | (_, some l) =>
    match Dev.firstIndex (fun s => !d.sectionValid s) l with
    | some i => (.outOfRange, i, d)
    | none =>
      if leAt b 24 2 ≠ l.length then (.outOfRange, 0, d)
      else match Dev.firstIndex (fun s => !d.sectionFree s) l with
      | some i => (.conflict, i, d)
      | none =>
        let x := l.foldl (fun d s => d.loadSection h s) d
        if x.restoredFits h l then (.ok, 0, x.setEpoch (.hall h) (leAt b 14 2)) else (.conflict, 0, d)

end Sys2Proof.Machine
end

