-- ==== Sys2Proof/Machine/Halls.lean ====
section
/-! DEFINITION. Halls: states and commands, resources, faults, reset, freeze and migration (R374 to R392), lockstep mismatches (R329). -/

namespace Sys2Proof.Machine

def Dev.setHalls (d : Dev) (f : HallSt → HallSt) : Dev := { d with tenants := f d.tenants }

/-- FAULTS 0, RESETS 1, MIGRATIONS 2, FROZEN_DROPS 3, RING_LOST 4. -/
def hallCounter (h i : Nat) : Counter := ⟨⟨0x2600 + h, 0x28 + i, 64, 0⟩, Ent.Hall.COUNTER_SAT h, i, srcHall h⟩

def Dev.hallEvent (d : Dev) (h code data : Nat) : Dev := (d.event (srcHall h) code data).eventRing 0 (srcHall h) code data

/-- Hall states in which a hall runs: RUNNING and PRECOPY. -/
def hallRuns (s : Nat) : Bool := s == 1 || s == 4

/-- The held records of a hall are written in order (Table 16.6). -/
def Dev.writeHeld (d : Dev) (h : Nat) : Dev :=
  let l := KV.get [] h d.logs.ringHeld
  l.foldl (fun d e => d.logRing h e) { d with logs := { d.logs with ringHeld := KV.erase h d.logs.ringHeld } }

/-- A transition of Table 16.1: the event, and on entry to RUNNING or PRECOPY the watchdog restarts and held records are written. -/
def Dev.setHall (d : Dev) (h s : Nat) : Dev :=
  let old := d.hallState h
  let d := (d.put (Ent.Hall.STATE h) s).hallEvent h 0x20 (old * 256 + s)
  if hallRuns s then (d.setHalls fun x => { x with kicked := KV.insert h d.time.raw x.kicked }).writeHeld h else d

/-- A command completes: CMD_STATUS, and the response that waits for it (R374). -/
def Dev.hallDone (d : Dev) (h : Nat) (s : Status) (detail : Nat := 0) : Dev :=
  (d.put (Ent.Hall.CMD_STATUS h) (s.code * 65536 + detail % 65536)).finish (Ent.Hall.CMD h).key s

/-- A command of hall 0 to hall `h`: index 0x2600 has no CMD (R391); while a FREEZE brings the hall to rest another command is answered BUSY
(DESIGN CHOICE, assumption 52); a state without a transition refuses with WRONG_STATE. -/
def Dev.hallCmd (d : Dev) (h : Nat) (states : List Nat) (f : Dev → Dev) : Dev :=
  if h = 0 ∨ 255 < h then d.finish (Ent.Hall.CMD h).key .noSubindex
  else if d.tenants.freezing.contains h then d.hallDone h .busy
  else if states.contains (d.hallState h) then f d else d.hallDone h .wrongState

/-! ### Units at hall reset, freeze and thaw (Table 16.6) -/

/-- The mailbox page at hall reset: a request in progress completes unseen, the registers are 0. -/
def Dev.mailboxReset (d : Dev) (h : Nat) : Dev :=
  let d := if d.isSet (Rg.Mb.BUSY h) then d.setHalls fun x => { x with mute := x.mute ++ [h] } else d
  d.resetPage (0x1EF00000 + 0x1000 * h) 0x1000

/-- A pending buffer not yet past SOF completes as an ABORT does; a frame on the bus goes on (R171). -/
def Dev.txbReset (d : Dev) (n k : Nat) : Dev :=
  if d.isSet (Rg.Txb.PENDING n k) && !((d.canCh n).onBus.any fun b => b.txb == some k) then d.txbDone n k .aborted 7 else d

/-- The hall reset of R383. -/
def Dev.hallReset (d : Dev) (h : Nat) : Dev :=
  let d := (d.coresOf h).foldl (fun d c => d.resetCore (4 + c)) d
  let d := (d.dmaOf h).foldl (fun d c => d.dmaReset c) d
  let d := (d.qpOf h).foldl (fun d q => d.qpReset q) d
  let d := (d.objOf h).foldl (fun d x => d.lockExpired x.1 x.2) d
  let d := (d.txbOf h).foldl (fun d x => d.txbReset x.1 x.2) d
  let d := d.initiatorGone fun r => r.hall == h
  let d := (d.mailboxReset h).stgReset h
  let d := { d.resetPage (0x10E00000 + 0x1000 * h) 0x1000 with logs := { d.logs with ringHeld := KV.erase h d.logs.ringHeld } }
  let d := (d.setHalls fun x => { x with kicked := KV.insert h d.time.raw x.kicked }).bumpEpoch (.hall h)
  (d.count (hallCounter h 1)).hallEvent h 0x22 (d.epoch (.hall h))

/-- Control cores halt with their registers kept. The other units look at the hall's state. -/
def Dev.coresHalt (d : Dev) (h : Nat) (on : Bool) : Dev :=
  (d.coresOf h).foldl (fun d c => d.setHart (4 + c) fun x => { x with halted := on, regs := if on then x.regs else [] }) d

/-- At THAW, cores and bridge contexts continue. -/
def Dev.hallThaw (d : Dev) (h : Nat) : Dev :=
  let d := (d.setHall h 1).coresHalt h false
  (d.ctxOf h).foldl (fun d c => d.pump (c / 64) (c % 64)) d

/-- The hall is at rest (R384). -/
def Dev.hallAtRest (d : Dev) (h : Nat) : Bool :=
  ((d.dmaOf h).all fun c => (d.ch c).await.isEmpty) &&
  ((d.ctxOf h).all fun c => d.bctxQuiet (c / 64) (c % 64)) &&
  ((d.txbOf h).all fun x => !((d.canCh x.1).onBus.any fun b => b.txb == some x.2))

/-- A core leaves a hall (R378). -/
def Dev.coreLeaves (d : Dev) (c : Nat) : Dev := (d.resetCore (4 + c)).setHart (4 + c) fun x => { x with nhall := 0 }

/-- The sessions of a binding close (R74). -/
def Dev.closeBinding (d : Dev) (b : Nat) : Dev := d.closeSessions fun s => s.binding == b

/-- Every instance of the hall goes to hall 0, with its epoch incremented, DISABLED where it has an ENABLE (R376). -/
def Dev.instancesReturn (d : Dev) (h : Nat) : Dev :=
  let d := (d.dmaOf h).foldl (fun d c =>
    (((d.put (Ent.Dma.HALL c) 0).put (Ent.Dma.ENABLE c) 0).put (Ent.Dma.STATE c) 0).bumpEpoch (.dma c)) d
  let d := (d.qpOf h).foldl (fun d q => (((d.put (Ent.Qp.HALL q) 0).put (Ent.Qp.ENABLE q) 0).put (Ent.Qp.STATE q) 0).bumpEpoch (.qp q)) d
  let d := (d.objOf h).foldl (fun d x =>
    let old := d
    (d.putOct (Ent.CanObj.OBJ_TABLE x.1) (patch (d.oct (Ent.CanObj.OBJ_TABLE x.1)) (8 * x.2 + 4) (le 1 0))).canObjApplied old x.1) d
  let d := (d.txbOf h).foldl (fun d x =>
    let old := d
    (d.putOct (Ent.CanObj.TXB_HALL x.1) (patch (d.oct (Ent.CanObj.TXB_HALL x.1)) x.2 (le 1 0))).canObjApplied old x.1) d
  let d := (d.ctxOf h).foldl (fun d c =>
    let old := d
    (((d.put (Ent.Bctx.HALL c) 0).put (Ent.Bctx.ENABLE c) 0).put (Ent.Bctx.STATE c) 0).bctxApplied old (c / 64) (c % 64)) d
  let d := (d.epOf h).foldl (fun d x =>
    d.putOct (Ent.Bu.ENDPOINTS x.1) (patch (d.oct (Ent.Bu.ENDPOINTS x.1)) (8 * x.2 + 4) (le 1 0))) d
  (d.bindOf h).foldl (fun d b => ((d.put (Ent.Bind.HALL b) 0).put (Ent.Bind.ENABLE b) 0).closeBinding b) d

/-- Steps 2 to 5 of DESTROY (R376); the partition is trimmed before the hall becomes ABSENT (R466). -/
def Dev.hallGone (d : Dev) (h : Nat) : Dev :=
  let cores := d.coresOf h
  let d := cores.foldl (fun d c => d.coreLeaves c) ((d.instancesReturn h).put (Ent.Hall.CCORES h) 0)
  (((d.putOct (Ent.Iommu.WINDOWS h) []).trimFrom h 0).bumpEpoch (.hall h)).setHall h 0

/-! ### The end of a migration (R387 to R390) -/

/-- MIG_DONE: status and, once GO has started it, the blackout in µs. -/
def Dev.migDone (d : Dev) (h : Nat) (s : Status) (us : Nat) : Dev := d.hallEvent h 0x24 (s.code * 65536 + min us 65535)

/-- The migration on the source ends without success; the partner is told. A hall in PRECOPY runs on, one in BLACKOUT is thawed and its GO
completes, a MIGRATE that waits for the partner completes. -/
def Dev.migEnd (d : Dev) (s : Status) : Dev :=
  match d.tenants.mig with
  | none => d
  | some m =>
    let h := m.hall
    let us := match m.goAt with | some t => (d.time.raw - t) / 1000 | none => 0
    let d := (d.setHalls fun x => { x with mig := none, dirty := [] }).migSend 6 h (le 2 s.code)
    if !m.accepted then d.hallDone h s
    else
      let d := (d.hallThaw h).migDone h s us
      if m.goAt.isSome then d.hallDone h s else d

/-- The gallery link, or the partner, is lost (R390). -/
def Dev.migLinkLost (d : Dev) : Dev := (d.migEnd .remoteTimeout).setHalls fun x => { x with lostAt := some d.time.raw }

/-- The partner forgets an arriving hall: its instances are no longer reserved, its record no longer waits. -/
def Dev.migForget (d : Dev) (h : Nat) : Dev := d.setHalls fun x => { x with reserved := KV.erase h x.reserved, arrived := x.arrived.erase h }

/-- The hall runs on the partner. How long its blackout lasted, the partner is not told: a free value. -/
def Dev.migArrived (d : Dev) (h : Nat) : Dev :=
  let (v, d) := (((d.migForget h).hallThaw h).count (hallCounter h 2)).draw 16
  d.migDone h .ok v.toNat

/-- The partner discards an arriving hall: its instances go back to hall 0 and it is ABSENT. -/
def Dev.migDiscard (d : Dev) (h : Nat) (s : Status) : Dev :=
  let (v, d) := (d.migForget h).draw 16
  ((d.hallReset h).hallGone h).migDone h s v.toNat

/-- The source's message that a migration has ended reaches the partner, which discards the arriving hall it names. -/
def Dev.migEndSeen (d : Dev) (b : Bytes) : Dev :=
  ((List.range 256).filter fun h => h != 0 && d.hallState h == 6).foldl (fun d h =>
    match [Status.aborted, .remoteTimeout, .remoteFailed, .busy].find? fun s => Config.migrateBody 6 h (le 2 s.code) == b with
    | some s => d.migDiscard h s
    | none => d) d

/-- A migration of this hall ends with ABORTED before a fault, RESET, DESTROY or CANCEL acts. -/
def Dev.migAbort (d : Dev) (h : Nat) : Dev := if d.tenants.mig.any (·.hall == h) && d.hallState h == 4 then d.migEnd .aborted else d

/-! ### Faults (R382) -/

/-- A hall fault. A FREEZE in progress completes with WRONG_STATE (R384). -/
def Dev.hallFault (d : Dev) (h cause : Nat) : Dev :=
  let freezing := d.tenants.freezing.contains h
  if h = 0 ∨ !(hallRuns (d.hallState h) || freezing) then d
  else
    let d := ((d.put (Ent.Hall.FAULT_CAUSE h) cause).count (hallCounter h 0)).hallEvent h 0x21 cause
    let d := d.migAbort h
    let d := d.setHalls fun x => { x with freezing := x.freezing.erase h }
    let d := if d.get (Ent.Hall.FAULT_ACTION h) = 1 then
        let d := d.hallReset h
        if d.hallState h = 1 then d else d.setHall h 1
      else (d.setHall h 3).coresHalt h true
    if freezing then d.hallDone h .wrongState else d

/-! ### Commands (R374 to R376, R382 to R386) -/

def hallCreateOp (h : Nat) (d : Dev) : Dev :=
  d.hallCmd h [0] fun d => if d.rescue then d.hallDone h .wrongState else ((d.bumpEpoch (.hall h)).setHall h 1).hallDone h .ok

def hallDestroyOp (h : Nat) (d : Dev) : Dev :=
  d.hallCmd h [1, 2, 3, 4, 7] fun d =>
    (if d.hallState h = 7 then d.migDiscard h .aborted else ((d.migAbort h).hallReset h).hallGone h).hallDone h .ok

def hallResetOp (h : Nat) (d : Dev) : Dev :=
  d.hallCmd h [1, 2, 3, 4] fun d =>
    let d := (d.migAbort h).hallReset h
    (if d.hallState h = 1 then d else d.setHall h 1).hallDone h .ok

/-- An A-core runs a guest of the hall. -/
def Dev.guestOn (d : Dev) (h : Nat) : Bool := (List.range 4).any fun k => (d.hart k).nhall == h

/-- FREEZE: the hall stops at once and its response waits for HALL_AT_REST. -/
def hallFreezeOp (h : Nat) (d : Dev) : Dev :=
  d.hallCmd h [1] fun d =>
    if d.guestOn h then d.hallDone h .busy
    else ((d.setHall h 2).coresHalt h true).setHalls fun x => { x with freezing := x.freezing ++ [h] }

def hallThawOp (h : Nat) (d : Dev) : Dev :=
  d.hallCmd h [2, 7] fun d => (if d.hallState h = 7 then d.migArrived h else d.hallThaw h).hallDone h .ok

def hallSaveOp (h : Nat) (d : Dev) : Dev :=
  d.hallCmd h [2, 3] fun d =>
    let (b, d) := d.hallRecord h
    (d.putOct (Ent.Hall.HALL_STATE h) b).hallDone h .ok

def hallRestoreOp (h : Nat) (d : Dev) : Dev :=
  d.hallCmd h [0] fun d =>
    let b := d.oct (Ent.Hall.HALL_STATE h)
    if b = [] then d.hallDone h .notConfigured
    else match d.restoreRecord h b with
    | (.ok, _, x) => (x.setHall h 2).hallDone h .ok
    | (s, i, _) => d.hallDone h s i

def hallFaultCmdOp (h : Nat) (d : Dev) : Dev := d.hallCmd h [1, 4] fun d => (d.hallFault h 3).hallDone h .ok

def hallCancelOp (h : Nat) (d : Dev) : Dev := d.hallCmd h [4] fun d => (d.migEnd .aborted).hallDone h .ok

/-! ### Watchdog and doorbell -/

/-- Who may write a hall's page: hall h, unless it is stopped, and hall 0 (R380, R384). -/
def Dev.pageStatus (d : Dev) (h hall : Nat) : Status :=
  if hall = 0 then .ok else if hall ≠ h then .hallDenied else if d.hallStopped h then .wrongState else .ok

def hallWdtKickOp (h hall v : Nat) (d : Dev) : Dev :=
  match d.pageStatus h hall with
  | .ok => (if bit v 0 then d.setHalls fun x => { x with kicked := KV.insert h d.time.raw x.kicked } else d).answer .ok
  | s => d.answer s

/-- WDT_MS passes on the raw counter without a kick in RUNNING or PRECOPY. -/
def hallWdtExpiryOp (h : Nat) (d : Dev) : Dev :=
  let ms := d.get (Ent.Hall.WDT_MS h)
  if 0 < h ∧ ms ≠ 0 ∧ hallRuns (d.hallState h) ∧ KV.get 0 h d.tenants.kicked + ms * 1000000 ≤ d.time.raw then d.hallFault h 2 else d

/-- DOORBELL sets line 8; only hall 0's write acts, hall h's is ignored (Table 16.5). -/
def hallDoorbellOp (h hall v : Nat) (d : Dev) : Dev :=
  match d.pageStatus h hall with
  | .ok => (if hall = 0 ∧ bit v 0 then d.setFldBit (Rg.Hpg.LINES_SET h) 0 true else d).answer .ok
  | s => d.answer s

/-! ### Migration (R387 to R390) -/

/-- MIGRATE; `rsp` is the partner's answer, if it has come with the command. -/
def hallMigrateOp (h : Nat) (rsp : Option Status) (d : Dev) : Dev :=
  d.hallCmd h [1] fun d =>
    if d.tenants.mig.isSome then d.hallDone h .busy
    else if !(d.role == 1 || d.role == 2) || d.upLane.isNone then d.hallDone h .wrongState
    else if 524288 < (d.mappedPages h).length then d.hallDone h .noResource
    else
      let d := d.migSend 1 h []
      let m : Migration := ⟨h, false, 1, false, none, false, d.get (Ent.Hall.MIG_DIRTY_MAX h), d.get (Ent.Hall.MIG_PASSES_MAX h),
        d.flag (Ent.Hall.MIG_FORCE h), d.time.raw⟩
      match rsp with
      | none => d.setHalls fun x => { x with mig := some m }
      | some .ok =>
        let pages := d.mappedPages h
        let d := (d.setHalls fun x => { x with mig := some { m with accepted := true }, dirty := [] }).setHall h 4
        (d.emit (.migrate h 1 pages)).hallDone h .ok
      | some s => d.hallDone h .remoteFailed s.code

/-- 100 ms without an answer. -/
def migrateAcceptTimeoutOp (d : Dev) : Dev :=
  match d.tenants.mig with
  | some m => if !m.accepted && d.passed m.since 100000000 then d.migEnd .remoteTimeout else d
  | none => d

/-- A pass of pre-copy ends (R388). -/
def migPassCompleteOp (d : Dev) : Dev :=
  match d.tenants.mig with
  | none => d
  | some m =>
    let h := m.hall
    if !m.accepted || m.goAt.isSome then d
    else
      let dirty := d.dirtyPages h
      let kib := 4 * dirty.length
      let tooMuch := decide (m.dirtyMax < kib)
      let ready (d : Dev) : Dev :=
        if m.ready then d
        else (d.setHalls fun x => { x with mig := some { m with ready := true } }).hallEvent h 0x23 (m.pass % 256 * 2 ^ 24 + min kib (2 ^ 24 - 1))
      if !tooMuch then ready d
      else if !m.ready ∧ m.passesMax ≤ m.pass then (if m.force then ready d else d.migEnd .busy)
      else (d.setHalls fun x => { x with mig := some { m with pass := m.pass + 1 }, dirty := [] }).emit (.migrate h (m.pass + 1) dirty)

/-- GO, from PRECOPY after MIG_READY (R388, R389, R472). -/
def hallGoOp (h : Nat) (d : Dev) : Dev :=
  d.hallCmd h [4] fun d =>
    match d.tenants.mig with
    | none => d.hallDone h .wrongState
    | some m =>
      if m.hall ≠ h ∨ !m.ready then d.hallDone h .wrongState
      else if d.guestOn h || d.stgStarted h then d.hallDone h .busy
      else ((d.setHalls fun x => { x with mig := some { m with goAt := some d.time.raw } }).setHall h 5).coresHalt h true

/-- The hall has come to rest: FREEZE completes, or in BLACKOUT the final pass and the state record leave (Table 16.10). -/
def hallAtRestOp (h : Nat) (d : Dev) : Dev :=
  if !d.hallAtRest h then d
  else if d.tenants.freezing.contains h then (d.setHalls fun x => { x with freezing := x.freezing.erase h }).hallDone h .ok
  else match d.tenants.mig with
  | none => d
  | some m =>
    if m.hall = h ∧ m.goAt.isSome ∧ !m.sent then
      let (b, d) := d.hallRecord h
      let d := (d.emit (.migrate h (m.pass + 1) (d.dirtyPages h))).migSend 3 h b
      d.setHalls fun x => { x with mig := some { m with sent := true }, dirty := [] }
    else d

/-- An instance is hall 0's, and DISABLED where it has a state. A CAN object has the number 64 × channel + object. -/
def Dev.instFree (d : Dev) (i : Nat × Nat) : Bool :=
  if i.1 = 6 then objHall (d.objRec (i.2 / 64) (i.2 % 64)) == 0 else d.sectionFree ⟨i.1, i.2, 0, []⟩

/-- The partner judges a MIGRATE: `insts` are the instances the source's hall holds (section kind, number), `ccores` its CCORES, `windows` its
WINDOWS. -/
def Dev.migFits (d : Dev) (h : Nat) (insts : List (Nat × Nat)) (ccores : Nat) (windows : Bytes) : Bool :=
  d.hallState h == 0 && insts.all d.instFree &&
  ((List.range 8).all fun c => !bit ccores c || d.sectionFree ⟨0xC, c, 0, []⟩) &&
  (windowsFault (d.putOct (Ent.Iommu.WINDOWS h) windows) h).isNone

def migAcceptOp (h : Nat) (insts : List (Nat × Nat)) (ccores : Nat) (windows : Bytes) (d : Dev) : Dev :=
  if h = 0 ∨ 255 < h then d
  else if d.migFits h insts ccores windows then
    let d := (d.setHall h 6).setHalls fun x => { x with reserved := KV.insert h insts x.reserved, lostAt := none }
    d.migSend 2 h (le 2 0)
  else d.migSend 2 h (le 2 (if d.hallState h = 0 then Status.conflict.code else Status.wrongState.code))

/-- The partner receives the final pass and the record: pages are in memory, the hall is restored and stays ARRIVING, READY is answered. A record
that fails R386 is answered with its status and the hall is discarded (DEDUCED). -/
def migStateReceivedOp (h : Nat) (pages : List (Nat × Bytes)) (record : Bytes) (d : Dev) : Dev :=
  if d.hallState h ≠ 6 ∨ h = 0 ∨ d.tenants.arrived.contains h then d
  else
    let d := pages.foldl (fun d p => d.writeMem (p.1 * 4096) (slice p.2 0 4096)) d
    match d.restoreRecord h record with
    | (.ok, _, x) =>
      (x.setHalls fun y => { y with arrived := y.arrived ++ [h], reserved := KV.erase h y.reserved }).migSend 4 h (le 2 0)
    | (s, _, _) => (d.migDiscard h s).migSend 4 h (le 2 s.code)

/-- The source receives READY: COMMIT leaves and the hall is ABSENT here, without a hall reset. -/
def migReadyReceiveOp (s : Status) (d : Dev) : Dev :=
  match d.tenants.mig with
  | none => d
  | some m =>
    let h := m.hall
    if !m.sent then d
    else if s ≠ .ok then d.migEnd .remoteFailed
    else
      let us := match m.goAt with | some t => (d.time.raw - t) / 1000 | none => 0
      let d := (d.migSend 5 h []).setHalls fun x => { x with mig := none, dirty := [] }
      (((d.hallGone h).count (hallCounter h 2)).migDone h .ok us).hallDone h .ok

def migCommitReceiveOp (h : Nat) (d : Dev) : Dev := if d.hallState h = 6 ∧ h ≠ 0 ∧ d.tenants.arrived.contains h then d.migArrived h else d

/-- 10 ms without COMMIT after the link has failed. `sent` says whether the source had sent COMMIT: what cannot be, while READY has not been
answered. -/
def migCommitTimeoutOp (h : Nat) (sent : Bool) (d : Dev) : Dev :=
  if d.hallState h ≠ 6 ∨ h = 0 ∨ !(d.tenants.lostAt.any fun t => d.passed t 10000000) then d
  else if sent ∧ d.tenants.arrived.contains h then d.setHall h 7
  else d.migDiscard h .remoteTimeout

def inDoubtAnswerOp (h : Nat) (committed : Bool) (d : Dev) : Dev :=
  if d.hallState h ≠ 7 ∨ h = 0 then d else if committed then d.migArrived h else d.migDiscard h .remoteTimeout

/-! ### Lockstep (R329) -/

/-- The checker of a pair finds a mismatch of `kind` 1 to 3 at `pc`; `i` is the executor, if the pair is one. -/
def lockstepMismatchOp (p kind pc : Nat) (d : Dev) : Dev :=
  if d.get (Ent.Pair.STATE p) ≠ 1 then d
  else
    let v := kind * 65536 + pc % 65536
    let d := (d.put (Ent.Pair.STATE p) 2).count ⟨Ent.Pair.MISMATCHES p, Ent.Pair.COUNTER_SAT p, 0, srcCore (2 * p)⟩
    let d := (d.setHart (4 + 2 * p) fun x => { x with halted := true }).setHart (5 + 2 * p) fun x => { x with halted := true }
    let d := ((d.event (srcCore (2 * p)) 0x0021 v).eventRing 0 (srcCore (2 * p)) 0x0021 v).sysIrq 8 p
    if d.engineCore (2 * p) then d.executorFault (8 + p) 3 0
    else (List.range 255).foldl (fun d h => if bit (d.get (Ent.Hall.CCORES (h + 1))) (2 * p) then d.hallFault (h + 1) 1 else d) d

/-! ### Groups -/

/-- The states in which a hall's allocations and windows do not change (R377). -/
def hallMoving (s : Nat) : Bool := decide (4 ≤ s) && decide (s ≤ 7)

/-- The quota group (R377 to R379): the first conflict in the proposed state `x`. -/
def hallGroupFault (d x : Dev) (h : Nat) : Option Nat :=
  let added (c : Nat) : Bool := bit (x.get (Ent.Hall.CCORES h)) c && !bit (d.get (Ent.Hall.CCORES h)) c
  let b := x.get (Ent.Hall.BIND_CORE h)
  let g := x.get (Ent.Hall.GEI h)
  match (List.range 7).find? fun i => decide (x.quota h i < d.hallUse h i) with
  | some i => some (quotaSub i)
  | none =>
    if (d.dmaOf h).any fun c => decide (x.get (Ent.Hall.DMA_PRIO_MAX h) < d.get (Ent.Dma.PRIORITY c)) then some 0x12
    else if (List.range 8).any fun c => added c &&
        (((List.range 256).any fun k => k != h && k != 0 && bit (d.get (Ent.Hall.CCORES k)) c) ||
         (d.flag (Ent.Pair.LOCKSTEP (c / 2)) && !added (if c % 2 = 0 then c + 1 else c - 1))) then some 0x18
    else if 4 ≤ b ∧ b ≤ 11 ∧ !bit (x.get (Ent.Hall.CCORES h)) (b - 4) then some 0x19
    else if b ≤ 3 ∧ (g = 0 ∨ (List.range 256).any fun k => k != h && k != 0 && d.get (Ent.Hall.BIND_CORE k) == b && d.get (Ent.Hall.GEI k) == g) then some 0x1A
    else if 4 ≤ b ∧ b ≤ 11 ∧ g ≠ 0 then some 0x1A
    else none

def hallGroupWrong (d x : Dev) (h : Nat) : Bool :=
  hallMoving (d.hallState h) ||
  (List.range 8).any fun c => bit (x.get (Ent.Hall.CCORES h)) c && !bit (d.get (Ent.Hall.CCORES h)) c && d.engineCore c

/-- The QUOTA line of a RUNNING hall (R377). -/
def Dev.quotaLine (d : Dev) (h : Nat) : Dev := if h ≠ 0 ∧ d.hallState h = 1 then d.setFldBit (Rg.Hpg.LINES_SET h) 1 true else d

def Dev.hallGroupApplied (d old : Dev) (h : Nat) : Dev :=
  let had (c : Nat) : Bool := bit (old.get (Ent.Hall.CCORES h)) c
  let has (c : Nat) : Bool := bit (d.get (Ent.Hall.CCORES h)) c
  let d := (List.range 8).foldl (fun d c =>
    if has c && !had c then (d.resetCore (4 + c)).setHart (4 + c) fun x => { x with nhall := h }
    else if had c && !has c then d.coreLeaves c else d) d
  if (List.range 7).all (fun i => d.quota h i == old.quota h i) && d.get (Ent.Hall.DMA_PRIO_MAX h) == old.get (Ent.Hall.DMA_PRIO_MAX h) &&
      d.get (Ent.Hall.CCORES h) == old.get (Ent.Hall.CCORES h) then d
  else d.quotaLine h

/-- The hall whose quota an APPLY would exceed, with the quota's subindex: the check that comes last (R377). -/
def quotaFault (d x : Dev) : Option Nat :=
  let stuck (h : Nat) : Option Nat :=
    match (List.range 7).find? fun i => decide (d.hallUse h i < x.hallUse h i) && decide (x.quota h i < x.hallUse h i) with
    | some i => some (quotaSub i)
    | none => if (x.dmaOf h).any fun c => decide (x.get (Ent.Hall.DMA_PRIO_MAX h) < x.get (Ent.Dma.PRIORITY c)) then some 0x12 else none
  ((List.range 255).filterMap fun h => stuck (h + 1)).head?

/-- Halls whose holdings an APPLY changes. -/
def hallsTouched (d x : Dev) : List Nat :=
  (List.range 255).map (· + 1) |>.filter fun h => d.dmaOf h != x.dmaOf h || d.qpOf h != x.qpOf h || d.objOf h != x.objOf h || d.txbOf h != x.txbOf h ||
    d.ctxOf h != x.ctxOf h || d.bindOf h != x.bindOf h || d.epOf h != x.epOf h

/-- An instance that an arriving hall will take (R387). -/
def Dev.reservedInst (d : Dev) (kind i : Nat) : Bool := d.tenants.reserved.any fun e => e.2.contains (kind, i)

/-! ### Meanings -/

def execHallCreate (h : Nat) (s : State) := onDev s (hallCreateOp h)
def execHallDestroy (h : Nat) (s : State) := onDev s (hallDestroyOp h)
def execHallReset (h : Nat) (s : State) := onDev s (hallResetOp h)
def execHallFreeze (h : Nat) (s : State) := onDev s (hallFreezeOp h)
def execHallAtRest (h : Nat) (s : State) := onDev s (hallAtRestOp h)
def execHallThaw (h : Nat) (s : State) := onDev s (hallThawOp h)
def execHallSave (h : Nat) (s : State) := onDev s (hallSaveOp h)
def execHallRestore (h : Nat) (s : State) := onDev s (hallRestoreOp h)
def execHallMigrate (h : Nat) (rsp : Option Status) (s : State) := onDev s (hallMigrateOp h rsp)
def execHallGo (h : Nat) (s : State) := onDev s (hallGoOp h)
def execHallCancel (h : Nat) (s : State) := onDev s (hallCancelOp h)
def execHallFaultCmd (h : Nat) (s : State) := onDev s (hallFaultCmdOp h)
def execHallWdtKick (h hall v : Nat) (s : State) := onDev s (hallWdtKickOp h hall v)
def execHallWdtExpiry (h : Nat) (s : State) := onDev s (hallWdtExpiryOp h)
def execHallDoorbell (h hall v : Nat) (s : State) := onDev s (hallDoorbellOp h hall v)
def execMigAccept (h : Nat) (insts : List (Nat × Nat)) (ccores : Nat) (windows : Bytes) (s : State) := onDev s (migAcceptOp h insts ccores windows)
def execMigPassComplete (s : State) := onDev s migPassCompleteOp
def execMigStateReceived (h : Nat) (pages : List (Nat × Bytes)) (record : Bytes) (s : State) := onDev s (migStateReceivedOp h pages record)
def execMigReadyReceive (st : Status) (s : State) := onDev s (migReadyReceiveOp st)
def execMigCommitReceive (h : Nat) (s : State) := onDev s (migCommitReceiveOp h)
def execMigCommitTimeout (h : Nat) (sent : Bool) (s : State) := onDev s (migCommitTimeoutOp h sent)
def execMigrateAcceptTimeout (s : State) := onDev s migrateAcceptTimeoutOp
def execInDoubtAnswer (h : Nat) (committed : Bool) (s : State) := onDev s (inDoubtAnswerOp h committed)
def execLockstepMismatch (p kind pc : Nat) (s : State) := onDev s (lockstepMismatchOp p kind pc)

end Sys2Proof.Machine
end

