-- ==== Sys2Proof/Machine/Units.lean ====
section
/-! DEFINITION. Units that can be disabled (R51, R52, Table 2.8): ports (R119), queues (R107), CAN channels (R183), converters (R320), bridge
contexts, DMA channels (R367), host engines and queue pairs (R369); and the FENCE of a bridge context (R55). -/

namespace Sys2Proof

/-- A number for each unit, the key of its drain. -/
def UnitId.key : UnitId → Nat
  | .port p => p | .queue p c => 0x1000 + p * 16 + c | .can n => 0x2000 + n | .adc a => 0x2100 + a
  | .bridge u k => 0x3000 + u * 64 + k | .dma c => 0x4000 + c | .hostEngine n => 0x4100 + n | .queuePair q => 0x5000 + q

/-- The unit exists. -/
def UnitId.valid : UnitId → Bool
  | .port p => decide (p < 54) | .queue p c => decide (p < 54) && decide (c < 9) | .can n => decide (n < 16) | .adc a => decide (a < 2)
  | .bridge u k => decide (u < 4) && decide (k < 64) | .dma c => decide (c < 64) | .hostEngine n => decide (n < 4)
  | .queuePair q => decide (q < 256)

end Sys2Proof

namespace Sys2Proof.Machine

/-- The unit's ENABLE, STATE and DRAIN_MS. -/
def unitEnableEntry : UnitId → Entry
  | .port p => Ent.Port.ENABLE p | .queue p c => Ent.Pq.Q_ENABLE p c | .can n => Ent.CanSt.ENABLE n | .adc a => Ent.Adc.ENABLE a
  | .bridge u k => Ent.Bctx.ENABLE (bctx u k) | .dma c => Ent.Dma.ENABLE c | .hostEngine n => Ent.Heng.ENABLE n
  | .queuePair q => Ent.Qp.ENABLE q
def unitStateEntry : UnitId → Entry
  | .port p => Ent.Port.STATE p | .queue p c => Ent.Pq.Q_STATE p c | .can n => Ent.CanSt.STATE n | .adc a => Ent.Adc.STATE a
  | .bridge u k => Ent.Bctx.STATE (bctx u k) | .dma c => Ent.Dma.STATE c | .hostEngine n => Ent.Heng.STATE n
  | .queuePair q => Ent.Qp.STATE q
def unitDrainEntry : UnitId → Entry
  | .port p => Ent.Port.DRAIN_MS p | .queue _ c => Ent.Cls.DRAIN_MS c | .can n => Ent.CanSt.DRAIN_MS n | .adc a => Ent.Adc.DRAIN_MS a
  | .bridge u k => Ent.Bctx.DRAIN_MS (bctx u k) | .dma c => Ent.Dma.DRAIN_MS c | .hostEngine n => Ent.Heng.DRAIN_MS n
  | .queuePair q => Ent.Qp.DRAIN_MS q

/-- The unit's source ID (Table 2.4). -/
def unitSource : UnitId → Nat
  | .port p => srcPort p | .queue p c => srcQueue p c | .can n => srcCan n | .adc a => srcAdc a | .bridge u k => srcBridge u k
  | .dma c => srcDma c | .hostEngine n => srcDma (64 + n) | .queuePair q => srcDma (0x100 + q)

/-- The gate that clocks the unit, for the leases of R399. -/
def unitGate : UnitId → Option Nat
  | .port p => some (gatePort p) | .queue p _ => some (gatePort p) | .can n => some (gateCan n) | .adc a => some (gateAdc a)
  | .bridge u _ => some (gateBridge u) | .dma c => some (gateDma c) | .hostEngine n => some (gatePort (48 + n)) | .queuePair _ => none

/-- STATE: 0 DISABLED, 1 ENABLED, 2 DRAINING. -/
def Dev.unitState (d : Dev) (x : UnitId) : Nat := d.get (unitStateEntry x)

/-- The sleep domain of a unit that carries keep-alives (R196). -/
def unitDomain : UnitId → Option Nat
  | .can n => some n
  | .port p => if 24 ≤ p ∧ p ≤ 39 then some (p - 8) else none
  | _ => none

/-- The unit's domain follows its state. -/
def Dev.unitDomains (d : Dev) (x : UnitId) : Dev :=
  match unitDomain x with
  | some k => d.refreshDomain k
  | none => d

/-- A gallery lane goes down. With both down the gallery link is lost (R495): a migration ends (R390), and a standby that still sees TWIN_ALIVE_IN
becomes STANDBY_DEGRADED (Table 22.9). -/
def Dev.galleryLaneDown (d : Dev) (n : Nat) : Dev :=
  let was := d.upLane.isSome
  let d := d.laneDown n
  if was ∧ d.upLane = none then
    let d := d.migLinkLost
    if d.role = 2 ∧ d.path 1 then d.setRole 3 else d
  else d

/-- Link-down of a port with its stations (R118, Table 10.9), and of a gallery port's lane. -/
def Dev.portDown (d : Dev) (p : Nat) : Dev :=
  let d := if (d.sw.link p).up then (d.linkDown p).portSlotsLost p else d.linkDown p
  if p = 52 ∨ p = 53 then d.galleryLaneDown (p - 52) else d

/-- What becoming ENABLED does in the unit. -/
def Dev.unitEnabled (d : Dev) : UnitId → Dev
  | .port p => d.driveXtxdis p
  | .can n => (d.canEnabled n).wakeWindow n
  | .bridge u k => d.bctxEnabled u k
  | .dma c => d.dmaEnabled c
  | .queue _ _ | .adc _ | .hostEngine _ | .queuePair _ => d

/-- Entry to DRAINING: what is queued and not started (Table 2.8). -/
def Dev.unitDraining (d : Dev) : UnitId → Dev
  | .port p => d.portDraining p
  | .queue p c => d.clearQueue p c .disabled
  | .can n => d.canDraining n
  | .adc a => d.adcDraining a
  | .bridge u k => d.bctxDraining u k
  | .dma c => d.dmaDraining c
  | .hostEngine n => (List.range 256).foldl (fun d q =>
      if d.get (Ent.Qp.PORT q) = 48 + n ∧ d.get (Ent.Qp.STATE q) = 1 then d.qpDraining q 65536 else d) d
  | .queuePair q => d.qpDraining q 65536

/-- No work of the unit is in flight: its natural boundary (Table 2.8). -/
def Dev.unitQuiet (d : Dev) : UnitId → Bool
  | .port p => (d.sw.txOf p).isNone && (KV.find p d.sw.rx).isNone
  | .queue p c => !((d.sw.queue p c).copies.any fun x => x.state == .tx)
  | .can n => (d.canCh n).onBus.isNone
  | .adc a => (d.conv a).run.isNone
  | .bridge u k => d.bctxQuiet u k
  | .dma c => d.dmaQuiet c
  | .hostEngine _ | .queuePair _ => true

/-- The drain timeout: each item left completes with ABORTED; how many they were. -/
def Dev.unitCut (d : Dev) : UnitId → Nat × Dev
  | .port p =>
    let n := (if (d.sw.txOf p).isSome then 1 else 0) + (if (KV.find p d.sw.rx).isSome then 1 else 0)
    (n, (d.abortTx p .disabled).setSw fun w => match KV.find p w.rx with
      | some r => { w with rx := KV.insert p { r with fcs := false } w.rx }
      | none => w)
  | .queue p c => if d.unitQuiet (.queue p c) then (0, d) else (1, d.abortTx p .disabled)
  | .can n => d.canCut n
  | .adc a => (if d.unitQuiet (.adc a) then 0 else 1, d.adcCut a)
  | .bridge u k => ((d.brSess u k).sent.length, d.bctxCut u k)
  | .dma c => d.dmaCut c
  | .hostEngine _ | .queuePair _ => (0, d)

/-- What becoming DISABLED does in the unit. -/
def Dev.unitDisabled (d : Dev) : UnitId → Dev
  | .port p => (d.portDown p).driveXtxdis p
  | .hostEngine n => d.portDown (48 + n)
  | .dma c => d.dmaDisabled c
  | .adc a => if a = 1 then d.senseStopped else d
  | .queue _ _ | .can _ | .bridge _ _ | .queuePair _ => d

/-- The unit enters DISABLED. -/
def Dev.toDisabled (d : Dev) (x : UnitId) : Dev :=
  let d : Dev := { d with drains := KV.erase x.key d.drains }
  ((d.put (unitStateEntry x) 0).unitDisabled x).unitDomains x

/-- The raw counter at the unit's entry to DRAINING. -/
def Dev.drainStart (d : Dev) (x : UnitId) : Nat := (KV.find x.key d.drains).getD d.time.raw

/-- The work in flight has reached its boundary: DRAIN_DONE with the drain's duration in µs (R52, Table 2.5). -/
def Dev.drainDone (d : Dev) (x : UnitId) : Dev :=
  let us := (d.time.raw - d.drainStart x) / 1000
  (d.toDisabled x).event (unitSource x) 0x0004 (min us 0xFFFFFFFF)

/-- The drain is cut off: DRAIN_TIMEOUT with the number of items completed with ABORTED (R52). -/
def Dev.drainCut (d : Dev) (x : UnitId) : Dev :=
  match d.unitCut x with
  | (n, d) => (d.toDisabled x).event (unitSource x) 0x0005 n

/-- A write of 1 to ENABLE (R51). -/
def Dev.enableUnit (d : Dev) (x : UnitId) : Dev :=
  if d.unitState x = 0 then
    (((d.put (unitEnableEntry x) 1).put (unitStateEntry x) 1).unitEnabled x).unitDomains x
  else d

/-- A write of 0 to ENABLE (R51, R52); with a drain timeout of 0 work in flight is aborted at once. -/
def Dev.disableUnit (d : Dev) (x : UnitId) : Dev :=
  if d.unitState x = 1 then
    let d := (d.put (unitEnableEntry x) 0).put (unitStateEntry x) 2
    let d := ({ d with drains := KV.insert x.key d.time.raw d.drains } : Dev).unitDraining x
    if d.get (unitDrainEntry x) = 0 ∧ d.unitQuiet x = false then d.drainCut x else d
  else d

/-- A normal-world write to a leased unit's entries is refused (R399). -/
def Dev.unitLeased (d : Dev) (x : UnitId) (secure : Bool) : Bool := !secure && (unitGate x).any d.leased

/-- The refusal, counted and logged (R399). -/
def Dev.refuseLeased (d : Dev) (x : UnitId) : Dev :=
  match unitGate x with
  | some g => (d.leaseRefused g .leased).answer .leased
  | none => d

def unitEnableOp (x : UnitId) (secure : Bool) (d : Dev) : Dev :=
  if !x.valid then d
  else if d.unitLeased x secure then d.refuseLeased x
  else (d.enableUnit x).answer .ok

def unitDisableOp (x : UnitId) (secure : Bool) (d : Dev) : Dev :=
  if !x.valid then d
  else if d.unitLeased x secure then d.refuseLeased x
  else (d.disableUnit x).answer .ok

def drainDoneOp (x : UnitId) (d : Dev) : Dev :=
  if x.valid ∧ d.unitState x = 2 ∧ d.unitQuiet x then d.drainDone x else d

/-- The drain timeout of a unit in ms; during a sleep entry at most 20 (Table 8.4). -/
def Dev.drainLimit (d : Dev) (x : UnitId) : Nat := if d.sleep.target = 0 then d.get (unitDrainEntry x) else min 20 (d.get (unitDrainEntry x))

/-- The drain timeout passes on the raw counter (R52); a unit that is quiet by then has drained. -/
def drainTimeoutOp (x : UnitId) (d : Dev) : Dev :=
  if x.valid ∧ d.unitState x = 2 ∧ d.unitQuiet x = false ∧ d.drainStart x + d.drainLimit x * 1000000 ≤ d.time.raw then d.drainCut x
  else d

/-- A FENCE written to a bridge context's command register by hall `hall` (R55, R232). -/
def fenceOp (u k hall v : Nat) (d : Dev) : Dev := if u < 4 ∧ k < 64 then d.fenceStart u k hall v else d

/-- Every posted write before a FENCE has its outcome (R55). -/
def fenceCompleteOp (u k : Nat) (d : Dev) : Dev := if u < 4 ∧ k < 64 then d.fenceComplete u k else d

/-- Rows of R51, R52 and R55. -/
def execUnitEnable (x : UnitId) (secure : Bool) (s : State) := onDev s (unitEnableOp x secure)
def execUnitDisable (x : UnitId) (secure : Bool) (s : State) := onDev s (unitDisableOp x secure)
def execDrainDone (x : UnitId) (s : State) := onDev s (drainDoneOp x)
def execDrainTimeout (x : UnitId) (s : State) := onDev s (drainTimeoutOp x)
def execFence (u k hall v : Nat) (s : State) := onDev s (fenceOp u k hall v)
def execFenceComplete (u k : Nat) (s : State) := onDev s (fenceCompleteOp u k)

end Sys2Proof.Machine
end

