-- ==== Sys2Proof/Machine/Mezzanine.lean ====
section
/-! DEFINITION. Worlds and the mezzanine (R393 to R417): watermarks, leases, key slots, the crypto unit, lifecycle and tokens, fuse keys, the
rollback counter and the secure watchdog. -/

namespace Sys2Proof.Machine

/-- Answer a write that came through a register, where a refusal is silent beside its ERR bit, or through an entry. -/
def Dev.refusal (d : Dev) (reg : Bool) (key : Nat) (s : Status) : Dev := if reg then d.answer .ok else d.finish key s

/-! ### Watermarks -/

/-- The largest value of a watermark (Table 17.1). -/
def Dev.watermarkMax (d : Dev) (i : Nat) : Nat :=
  if i = 0 then 128
  else if i = 1 then
    if d.dramSize = 0 then 0 else (d.stairwellBase - d.dramSize / 32 - 0x100000000) / 65536
  else 196608

/-- A secure-world write of a watermark (R396), through its register or its entry. -/
def watermarkWriteOp (i v : Nat) (reg : Bool) (d : Dev) : Dev :=
  let key := (⟨0x2400, 0xC + i, 32, 0⟩ : Entry).key
  if 2 < i then d
  else if d.isSet (Rg.Wm.LOCKED i) then d.refusal reg key .wrongState
  else if d.watermarkMax i < v then (if reg then d.setFld (Rg.Wm.ERR i) 1 else d).refusal reg key .outOfRange
  else
    let d := (d.setFld (Rg.Wm.GRANULES i) v).setFld (Rg.Wm.LOCKED i) 1
    (d.eventBoth (srcMezz 0) 0x0020 (i * 2 ^ 30 + v)).refusal reg key .ok

/-! ### Leases -/

/-- The DMA channel that a gate clocks. -/
def dmaGate (g : Nat) : Option Nat := if 192 ≤ g ∧ g ≤ 255 then some (g - 192) else none

/-- The lease of entry `i` ends; a DMA channel is disabled with a drain timeout of 0, and its epoch moves on (R400). -/
def Dev.leaseEnds (d : Dev) (i : Nat) : Dev :=
  match d.leaseGate i with
  | none => d
  | some g =>
    let d := d.setFld (Rg.Lsr.VALID i) 0
    match dmaGate g with
    | none => d
    | some c =>
      let x := UnitId.dma c
      let d := if d.unitState x = 1 then d.disableUnit x else d
      let d := if d.unitState x = 2 then (if d.unitQuiet x then d.drainDone x else d.drainCut x) else d
      d.bumpEpoch (.dma c)

/-- A lease may not be taken: no unit has the gate number (R430), the gate is leased by another entry (R398), or is a DMA channel that is in use (R400). -/
def Dev.leaseFault (d : Dev) (i g : Nat) : Option Status :=
  if gateListed g = false then some .noSubindex
  else if (List.range 64).any fun j => j != i && d.leaseGate j == some g then some .conflict
  else match dmaGate g with
    | some c => if d.leaseGate i ≠ some g ∧ (d.get (Ent.Dma.STATE c) ≠ 0 ∨ d.get (Ent.Dma.HALL c) ≠ 0) then some .wrongState else none
    | none => none

/-- A secure-world write of VALID 1 with gate `g` to lease entry `i` (R398). -/
def leaseTakeOp (i g : Nat) (reg : Bool) (d : Dev) : Dev :=
  let key := (Ent.Lease.LEASE i).key
  if 63 < i then d
  else if 767 < g then d.refusal reg key .outOfRange
  else match d.leaseFault i g with
    | some s => (if reg ∧ s ≠ .noSubindex then d.setFld (Rg.Lsr.ERR i) 1 else d).refusal reg key s
    | none =>
      let d := if d.leaseGate i = some g then d else d.leaseEnds i
      ((d.setFld (Rg.Lsr.GATE i) g).setFld (Rg.Lsr.VALID i) 1).refusal reg key .ok

/-- A secure-world write of VALID 0. -/
def leaseReleaseOp (i : Nat) (reg : Bool) (d : Dev) : Dev :=
  if 63 < i then d else (d.leaseEnds i).refusal reg (Ent.Lease.LEASE i).key .ok

/-! ### Key slots -/

/-- How many bytes a key of a usage fills (R403). -/
def keyLen (usage : Nat) : Nat := if usage = 3 then 48 else 32

/-- The subindex of a key group that APPLY finds at fault (R403). `x` holds the proposed values. -/
def keyFault (x : Dev) (k : Nat) : Option Nat :=
  let u := x.get (Ent.Key.USAGE k)
  let key := slice (x.oct (Ent.Key.KEY k)) 0 48
  let n := ofBe (key.take (keyLen u))
  let scalarBad : Bool := (u == 2 && (n == 0 || decide (p256.n ≤ n))) || (u == 3 && (n == 0 || decide (p384.n ≤ n)))
  if scalarBad || (key.drop (keyLen u)).any (fun b => b != 0) then some 1 else none

/-- The running job uses the slot: a CLEAR and a replacement wait for it (R404). -/
def Dev.keyBusy (d : Dev) (k : Nat) : Bool :=
  match d.mezz.job with
  | none => false
  | some j =>
    let op := leAt j.desc 0 1
    leAt j.desc 2 1 == k && bit (leAt j.desc 1 1) 3 == false && (op == 1 || op == 2 || op == 5 || op == 8 || op == 9)

/-- Every session whose key came from the slot closes (R404). -/
def Dev.slotSessionsEnd (d : Dev) (k : Nat) : Dev :=
  let d := d.closeSessions fun s => s.slot == k
  let d := ((d.br.sess.filter fun x => x.2.slot == k && x.2.state != 0).map (·.1)).foldl (fun d x => d.closeBridge (x / 2048) (x % 2048)) d
  d.setBr fun b => { b with serve := KV.keep (fun _ s => s.slot != k) b.serve }

/-- The slot is empty, its sealed copy gone. -/
def Dev.emptySlot (d : Dev) (k : Nat) : Dev :=
  let d := ((d.putOct (Ent.Key.KEY k) (zeros 48)).put (Ent.Key.USAGE k) 0).put (Ent.Key.LOADED k) 0
  ((d.setMezz fun m => { m with sealed := KV.erase k m.sealed }).recordGone 3 k).slotSessionsEnd k

/-- Installation is refused in RETURNED (Table 17.6). -/
def Dev.keysRefused (d : Dev) : Bool := d.get Ent.Sec.LIFECYCLE == 2

/-- An APPLY of a key group takes effect (R403, R404). -/
def Dev.keyApplied (d : Dev) (k : Nat) : Dev :=
  let d := (d.slotSessionsEnd k).put (Ent.Key.LOADED k) 1
  let d := d.setMezz fun m => { m with sealed := KV.insert k (d.get (Ent.Key.USAGE k), d.oct (Ent.Key.KEY k)) m.sealed }
  (d.recordWritten 3 k).eventSecure (srcMezz 1) 0x0025 (k * 256 + 1)

/-- A CLEAR is performed. -/
def Dev.clearSlot (d : Dev) (k : Nat) : Dev :=
  let d := d.setMezz fun m => { m with clearing := m.clearing.filter (· ≠ k) }
  ((d.emptySlot k).eventSecure (srcMezz 1) 0x0025 (k * 256 + 2)).finish (Ent.Key.CLEAR k).key .ok

/-- A secure-world write of 1 to CLEAR (R404). -/
def keyClearOp (k : Nat) (d : Dev) : Dev :=
  if 31 < k then d
  else if d.keyBusy k then d.setMezz fun m => { m with clearing := m.clearing.filter (· ≠ k) ++ [k] }
  else d.clearSlot k

/-! ### The crypto unit -/

def Dev.cryRing (d : Dev) : Nat := d.fld Rg.Cry.RING_LO * 64 + d.fld Rg.Cry.RING_HI * 2 ^ 32
def Dev.crySize (d : Dev) : Nat := 2 ^ max 2 (min 10 (d.fld Rg.Cry.RING_LOG2))

/-- The ring lies in mezzanine SRAM or secure DRAM (R405). -/
def Dev.cryRingOk (d : Dev) (a : Nat) : Bool :=
  region a == some .mezzSram || (region a == some .dram && d.needsSecure a && d.needsSecure (a + 63))

/-- Fields of a descriptor (Table 17.4). -/
structure CryDesc where
  op : Nat
  irq : Bool
  secure : Bool
  inlineKey : Bool
  slot : Nat
  len : Nat
  input : Nat
  output : Nat
  aad : Nat
  aadLen : Nat
  aux : Nat
  key : Nat
  tag : Nat
  deriving DecidableEq, Repr

def cryDesc (b : Bytes) : CryDesc :=
  let f := leAt b 1 1
  ⟨leAt b 0 1, bit f 1, bit f 2, bit f 3, leAt b 2 1, leAt b 4 4, leAt b 8 8, leAt b 16 8, leAt b 24 8, leAt b 32 4, leAt b 36 8,
   leAt b 44 8, leAt b 52 8⟩

/-- The usage a slot must have for an OP that takes a secret key. -/
def opUsage (op : Nat) : Option Nat :=
  if op = 1 ∨ op = 2 then some 1 else if op = 5 then some 0 else if op = 8 then some 2 else if op = 9 then some 3 else none

/-- Checks 1 and 2 of R406. -/
def Dev.cryFault (d : Dev) (c : CryDesc) : Option Status :=
  if c.op = 0 ∨ 11 < c.op then some .outOfRange
  else match opUsage c.op with
    | none => none
    | some u =>
      if c.inlineKey ∨ (c.slot ≤ 31 ∧ d.flag (Ent.Key.LOADED c.slot) ∧ d.get (Ent.Key.USAGE c.slot) = u) then none else some .notConfigured

/-- The unit takes the next job of the ring (R405). -/
def cryptoJobStartOp (d : Dev) : Dev :=
  let size := d.crySize
  let i := d.fld Rg.Cry.HEAD % size
  let a := d.cryRing + 64 * i
  if d.mezz.job.isSome ∨ i = d.fld Rg.Cry.TAIL % size then d
  else
    let s := if !d.cryRingOk a then .accessAttr else d.rangeStatus true false a 64
    if s ≠ .ok then (d.setFld Rg.Cry.BUSY 1).setMezz fun m => { m with job := some ⟨zeros 64, some s⟩ }
    else
      let b := d.readMem a 64
      if bit (leAt b 1 1) 0 then (d.setFld Rg.Cry.BUSY 1).setMezz fun m => { m with job := some ⟨b, d.cryFault (cryDesc b)⟩ } else d

/-- A data access of a job: `n` bytes from `a`. -/
def Dev.cryRead (d : Dev) (c : CryDesc) (a n : Nat) : Status × Bytes :=
  match d.rangeStatus c.secure false a n with
  | .ok => (.ok, d.readMem a n)
  | s => (s, [])

/-- The reads of a job in order: the bytes, or the first status that is not OK. -/
def Dev.cryReads (d : Dev) (c : CryDesc) : List (Nat × Nat) → Status × List Bytes
  | [] => (.ok, [])
  | (a, n) :: r =>
    match d.cryRead c a n with
    | (.ok, b) => match Dev.cryReads d c r with
      | (.ok, l) => (.ok, b :: l)
      | (s, _) => (s, [])
    | (s, _) => (s, [])

/-- Its writes, all or none. -/
def Dev.cryWrites (d : Dev) (c : CryDesc) (l : List (Nat × Bytes)) : Status × Dev :=
  match (l.map fun x => d.rangeStatus c.secure true x.1 x.2.length).find? (· != .ok) with
  | some s => (s, d)
  | none => (.ok, l.foldl (fun d x => d.storeMem x.1 x.2) d)

/-- The secret key of a job: where it is read, or what its slot holds. -/
def Dev.cryKeyAt (c : CryDesc) (n : Nat) : List (Nat × Nat) := if c.inlineKey then [(c.key, n)] else []
def Dev.cryKey (d : Dev) (c : CryDesc) (n : Nat) (l : List Bytes) : Bytes :=
  if c.inlineKey then (l.head?).getD [] else slice (d.oct (Ent.Key.KEY c.slot)) 0 n

/-- A job of OP `op` is performed: `f` gets what it reads at the places `at_` (an inline key first) and gives what it writes and its outcome. -/
def Dev.perform (d : Dev) (op : Nat) (at_ : CryDesc → List (Nat × Nat))
    (f : CryDesc → List Bytes → Dev → List (Nat × Bytes) × Status × Dev) : Dev :=
  match d.mezz.job with
  | none => d
  | some j =>
    let c := cryDesc j.desc
    if j.ended.isSome ∨ c.op ≠ op then d
    else
      let r : Status × Dev :=
        match d.cryReads c (at_ c) with
        | (.ok, l) =>
          match f c l d with
          | (w, s, d) => match d.cryWrites c w with
            | (.ok, d) => (s, d)
            | (t, d) => (t, d)
        | (s, _) => (s, if s = .integrity then (at_ c).foldl (fun d x => d.readPoison x.1 x.2) d else d)
      r.2.setMezz fun m => { m with job := some { j with ended := some r.1 } }

/-- The `i`-th thing read. -/
def nth (l : List Bytes) (i : Nat) : Bytes := (l[i]?).getD []

/-- What a keyed job read after its inline key. -/
def afterKey (c : CryDesc) (l : List Bytes) : List Bytes := if c.inlineKey then l.drop 1 else l

def cryptoGcmEncryptOp (d : Dev) : Dev :=
  d.perform 1 (fun c => Dev.cryKeyAt c 32 ++ [(c.input, c.len), (c.aad, c.aadLen), (c.aux, 12)]) fun c l d =>
    let x := afterKey c l
    let r := gcmSeal (d.cryKey c 32 l) (nth x 2) (nth x 1) (nth x 0)
    ([(c.output, r.1), (c.tag, r.2)], .ok, d)

/-- A tag that does not match leaves zeros in the output range (R406). -/
def cryptoGcmDecryptOp (d : Dev) : Dev :=
  d.perform 2 (fun c => Dev.cryKeyAt c 32 ++ [(c.input, c.len), (c.aad, c.aadLen), (c.aux, 12), (c.tag, 16)]) fun c l d =>
    let x := afterKey c l
    match gcmOpen (d.cryKey c 32 l) (nth x 2) (nth x 1) (nth x 0) (nth x 3) with
    | some p => ([(c.output, p)], .ok, d)
    | none => ([(c.output, zeros c.len)], .integrity, d)

def cryptoSha256Op (d : Dev) : Dev :=
  d.perform 3 (fun c => [(c.input, c.len)]) fun c l d => ([(c.output, sha256 (nth l 0))], .ok, d)

def cryptoSha384Op (d : Dev) : Dev :=
  d.perform 4 (fun c => [(c.input, c.len)]) fun c l d => ([(c.output, sha384 (nth l 0))], .ok, d)

def cryptoHmacOp (d : Dev) : Dev :=
  d.perform 5 (fun c => Dev.cryKeyAt c 32 ++ [(c.input, c.len)]) fun c l d =>
    ([(c.output, hmacSha256 (d.cryKey c 32 l) (nth (afterKey c l) 0))], .ok, d)

/-- A verification: digest at AUX_ADDR, signature at AAD_ADDR, public key x‖y at KEY_ADDR (R405). -/
def Dev.cryVerify (d : Dev) (op : Nat) (k : Curve) (n : Nat) : Dev :=
  d.perform op (fun c => [(c.aux, n), (c.aad, 2 * n), (c.key, 2 * n)]) fun _ l d =>
    ([], if k.verify (nth l 2) (nth l 0) (nth l 1) then .ok else .integrity, d)

/-- A signature of the digest at AUX_ADDR with a deterministic nonce. An inline key that is no scalar of the curve gives a free value. -/
def Dev.crySign (d : Dev) (op : Nat) (k : Curve) (n : Nat) (hash : Bytes → Bytes) (blk : Nat) : Dev :=
  d.perform op (fun c => Dev.cryKeyAt c n ++ [(c.aux, n)]) fun c l d =>
    let p := ofBe (d.cryKey c n l)
    if 0 < p ∧ p < k.n then ([(c.output, k.sign hash blk p (nth (afterKey c l) 0))], .ok, d)
    else
      let (v, d) := d.draw (16 * n)
      ([(c.output, le (2 * n) v.toNat)], .ok, d)

def cryptoP256VerifyOp (d : Dev) : Dev := d.cryVerify 6 p256 32
def cryptoP384VerifyOp (d : Dev) : Dev := d.cryVerify 7 p384 48
def cryptoP256SignOp (d : Dev) : Dev := d.crySign 8 p256 32 sha256 64
def cryptoP384SignOp (d : Dev) : Dev := d.crySign 9 p384 48 sha384 128

/-- Random bytes: a free value. -/
def cryptoRandomOp (d : Dev) : Dev :=
  d.perform 10 (fun _ => []) fun c _ d =>
    let (v, d) := d.draw (8 * c.len)
    ([(c.output, le c.len v.toNat)], .ok, d)

def cryptoCopyOp (d : Dev) : Dev :=
  d.perform 11 (fun c => [(c.input, c.len)]) fun c l d => ([(c.output, nth l 0)], .ok, d)

/-- The job that has its outcome completes: write-back, HEAD, CODE, IRQ; a CLEAR that waited for it is performed (R404, R405). -/
def cryptoJobCompleteOp (d : Dev) : Dev :=
  match d.mezz.job with
  | some ⟨b, some s⟩ =>
    let i := d.fld Rg.Cry.HEAD % d.crySize
    let a := d.cryRing + 64 * i
    let f := leAt b 1 1
    let d := if d.cryRingOk a && d.rangeStatus true true a 64 == .ok && bit f 0 then
        (d.writeMem (a + 60) (le 2 s.code)).writeMem (a + 1) (le 1 (setBit f 0 false)) else d
    let d := ((d.setFld Rg.Cry.HEAD ((i + 1) % d.crySize)).setFld Rg.Cry.BUSY 0).setFld Rg.Cry.CODE s.code
    let d := if bit f 1 then d.setFldBit Rg.Cry.IRQ 0 true else d
    let d := if s = .ok then d else d.setFldBit Rg.Cry.IRQ 1 true
    let d := d.setMezz fun m => { m with job := none }
    d.mezz.clearing.foldl Dev.clearSlot d
  | _ => d

/-! ### Lifecycle, debug, fuses -/

/-- DEBUG_CHANGE when the enables in force differ from what they were (R417). -/
def Dev.debugChanged (d : Dev) (old : Nat) : Dev :=
  if d.dbgActive = old then d else d.eventBoth (srcMezz 0) 0x0023 (old * 16 + d.dbgActive)

/-- The device enters a lifecycle state. -/
def Dev.enterLifecycle (d : Dev) (st : Nat) : Dev :=
  let old := d.dbgActive
  (((d.put Ent.Sec.LIFECYCLE st).eventBoth (srcMezz 0) 0x0022 st).debugChanged old).swdtFollow

/-- A write of 1 to LC_ADVANCE: DEVELOP to PRODUCTION (R407). -/
def lcAdvanceOp (d : Dev) : Dev :=
  if d.get Ent.Sec.LIFECYCLE = 0 then (d.enterLifecycle 1).finish Ent.Sec.LC_ADVANCE.key .ok
  else d.finish Ent.Sec.LC_ADVANCE.key .wrongState

/-- Memory reads as zero in a range. -/
def Dev.zeroMem (d : Dev) (a n : Nat) : Dev :=
  { d with mem := KV.keep (fun k _ => !(decide (a ≤ k) && decide (k < a + n))) d.mem,
           dma := { d.dma with poison := d.dma.poison.filter fun w => !(decide (a ≤ w) && decide (w < a + n)) } }

/-- Entry to RETURNED (R408): keys, the device key, secure memory. Where the running firmware ends in the mezzanine SRAM is a free value. -/
def Dev.enterReturned (d : Dev) : Dev :=
  let d := (List.range 32).foldl Dev.emptySlot d
  let d := d.setMezz fun m => { m with sealed := [], inhibited := true }
  let (v, d) := d.draw 18
  let d := d.zeroMem (0x10000 + v.toNat) (0x40000 - v.toNat)
  let d := (d.zeroMem 0x1000000 (min (d.watermark 0) 0x800000)).zeroMem 0x100000000 (min (d.watermark 1) d.dramSize)
  d.enterLifecycle 2

/-- DBG_CHALLENGE takes a new random value (R409). -/
def Dev.newChallenge (d : Dev) : Dev :=
  let (v, d) := d.draw 128
  d.putOct Ent.Sec.DBG_CHALLENGE (le 16 v.toNat)

/-- The fuse key `i` is not revoked and `pub` is the key whose hash it holds (R410). -/
def Dev.fuseKey (d : Dev) (i : Nat) (pub : Bytes) : Bool :=
  decide (i < 4) && !bit (d.get Ent.Sec.KEY_REVOKED) i && (d.board.keyHashes[i]? == some (sha384 pub)) && (pub.length == 96)

/-- A token passes the checks of R409; `pub` is the public key under which its signature is checked. -/
def Dev.tokenOk (d : Dev) (magic b pub : Bytes) : Bool :=
  b.length == 128 && slice b 0 4 == magic && leAt b 4 2 == 1 && leAt b 8 4 == d.board.serial &&
    slice b 16 16 == d.oct Ent.Sec.DBG_CHALLENGE && d.fuseKey (leAt b 7 1) pub && p384.verify pub (sha384 (b.take 32)) (slice b 32 96)

/-- A token has been written: M0 hears of it, a refusal is logged, the challenge changes, the write is answered (R409, R414, R417). -/
def Dev.tokenDone (d : Dev) (key : Nat) (s : Status) : Dev :=
  let d := if s = .ok then d else d.eventSecure (srcMezz 0) 0x0024 s.code
  ((d.raiseM0 4).newChallenge).finish key s

/-- A return token (R407, R409). -/
def returnTokenOp (b pub : Bytes) (d : Dev) : Dev :=
  let key := Ent.Sec.RETURN_TOKEN.key
  if d.get Ent.Sec.LIFECYCLE ≠ 1 then d.tokenDone key .wrongState
  else if d.tokenOk (bytesOf [0x4E, 0x52, 0x54, 0x4E]) b pub && leAt b 6 1 == 0 then d.enterReturned.tokenDone key .ok
  else d.tokenDone key .integrity

/-- A debug token (R409). -/
def debugTokenOp (b pub : Bytes) (d : Dev) : Dev :=
  let key := Ent.Sec.DEBUG_TOKEN.key
  if d.tokenOk (bytesOf [0x4E, 0x44, 0x42, 0x54]) b pub then
    let old := d.dbgActive
    ((d.put Ent.Sec.DBG_ACTIVE (orBits (d.get Ent.Sec.DBG_ACTIVE) (leAt b 6 1 % 16))).debugChanged old).tokenDone key .ok
  else d.tokenDone key .integrity

/-- A secure-world write of `i` to KEY_REVOKE (R410). -/
def keyRevokeOp (i : Nat) (d : Dev) : Dev :=
  let m := setBit (d.get Ent.Sec.KEY_REVOKED) i true
  if 3 < i then d
  else if m % 16 = 15 then d.finish Ent.Sec.KEY_REVOKE.key .conflict
  else ((d.put Ent.Sec.KEY_REVOKED m).eventBoth (srcMezz 0) 0x0026 i).finish Ent.Sec.KEY_REVOKE.key .ok

/-- The rollback counter moves on to `n` (R411). -/
def Dev.setRollback (d : Dev) (n : Nat) : Dev := (d.put Ent.Sec.ROLLBACK n).eventBoth (srcMezz 0) 0x0027 n

/-- A secure-world write of `n` to ROLLBACK_SET (R411). -/
def rollbackSetOp (n : Nat) (d : Dev) : Dev :=
  if n < d.get Ent.Sec.ROLLBACK ∨ 64 < n then d.finish Ent.Sec.ROLLBACK_SET.key .outOfRange
  else (d.setRollback n).finish Ent.Sec.ROLLBACK_SET.key .ok

/-! ### The secure watchdog -/

/-- The watchdog counts: not while the device sleeps, nor while debug holds M0 with PAUSE_DBG (R412). -/
def Dev.swdtRuns (d : Dev) : Bool := d.isSet Rg.Swd.EN && d.power.phase == .running && !d.swdtHeld

/-- `us` since the last kick may have passed on RCO, which may run 3 % fast; while the raw counter stands still, it says nothing (R412). -/
def Dev.swdtAged (d : Dev) (us : Nat) : Bool := !d.time.running || decide (d.mezz.kick + us * 970 ≤ d.time.raw)

/-- The count starts over with the period of the register. -/
def Dev.swdtRestart (d : Dev) : Dev :=
  d.setMezz fun m => { m with kick := d.time.raw, period := d.fld Rg.Swd.PERIOD_MS, paused := m.paused.map fun _ => d.time.raw }

/-- A secure-world write to KICK; other values than 0x0000_C35A are ignored (R412). -/
def swdtKickOp (v : Nat) (d : Dev) : Dev := if v = 0xC35A then d.swdtRestart else d

/-- Half the period has passed (R414). -/
def swdtHalfPeriodOp (d : Dev) : Dev := if d.swdtRuns && d.swdtAged (d.mezz.period * 500) then d.raiseM0 5 else d

/-- Rows of R396 to R412. -/
def execWatermarkWrite (i v : Nat) (reg : Bool) (s : State) := onDev s (watermarkWriteOp i v reg)
def execLeaseTake (i g : Nat) (reg : Bool) (s : State) := onDev s (leaseTakeOp i g reg)
def execLeaseRelease (i : Nat) (reg : Bool) (s : State) := onDev s (leaseReleaseOp i reg)
def execKeyClear (k : Nat) (s : State) := onDev s (keyClearOp k)
def execCryptoJobStart (s : State) := onDev s cryptoJobStartOp
def execCryptoGcmEncrypt (s : State) := onDev s cryptoGcmEncryptOp
def execCryptoGcmDecrypt (s : State) := onDev s cryptoGcmDecryptOp
def execCryptoSha256 (s : State) := onDev s cryptoSha256Op
def execCryptoSha384 (s : State) := onDev s cryptoSha384Op
def execCryptoHmac (s : State) := onDev s cryptoHmacOp
def execCryptoP256Verify (s : State) := onDev s cryptoP256VerifyOp
def execCryptoP384Verify (s : State) := onDev s cryptoP384VerifyOp
def execCryptoP256Sign (s : State) := onDev s cryptoP256SignOp
def execCryptoP384Sign (s : State) := onDev s cryptoP384SignOp
def execCryptoRandom (s : State) := onDev s cryptoRandomOp
def execCryptoCopy (s : State) := onDev s cryptoCopyOp
def execCryptoJobComplete (s : State) := onDev s cryptoJobCompleteOp
def execLcAdvance (s : State) := onDev s lcAdvanceOp
def execReturnToken (b pub : Bytes) (s : State) := onDev s (returnTokenOp b pub)
def execDebugToken (b pub : Bytes) (s : State) := onDev s (debugTokenOp b pub)
def execKeyRevoke (i : Nat) (s : State) := onDev s (keyRevokeOp i)
def execRollbackSet (n : Nat) (s : State) := onDev s (rollbackSetOp n)
def execSwdtKick (v : Nat) (s : State) := onDev s (swdtKickOp v)
def execSwdtHalfPeriod (s : State) := onDev s swdtHalfPeriodOp

end Sys2Proof.Machine
end

