-- ==== Sys2Proof/Machine/Clocks.lean ====
section
/-! DEFINITION. Clock sources, domains and PLLs, RCO trimming, spread spectrum, the clock monitor, the reference-loss safe state and domain switches
(R418 to R429, R434, R435). Sources are numbered as REF_SEL numbers them: 0 XO, 1 REFIN, 2 RCO. -/

namespace Sys2Proof.Machine

/-- TRIPS 0, FORCED_SWITCHES 1, REF_LOSSES 2 (Table 18.10). -/
def clockCounter (i : Nat) : Counter := ⟨⟨0x2200, 0xD + i, 64, 0⟩, Ent.Clk.COUNTER_SAT, i, srcClock 0⟩

def ClkDom.rest : ClkDom := ⟨false, false, 0, none⟩
def Dev.dom (d : Dev) (k : Nat) : ClkDom := KV.get ClkDom.rest k d.clk.doms
def Dev.setDom (d : Dev) (k : Nat) (f : ClkDom → ClkDom) : Dev :=
  d.setClk fun c => { c with doms := KV.put ClkDom.rest k (f (d.dom k)) c.doms }

/-- The source a domain runs on; 0xFF while it is stopped. -/
def Dev.domSource (d : Dev) (k : Nat) : Nat := d.get (Ent.Dom.SOURCE k)
def Dev.domStopped (d : Dev) (k : Nat) : Bool := d.domSource k == 0xFF

/-! ### Sources -/

def Dev.sourceStable (d : Dev) (s : Nat) : Bool := bit (d.get Ent.Clk.SRC_STATUS) s
/-- XO and REFIN have an enable; RCO always runs. -/
def Dev.sourceEnabled (d : Dev) (s : Nat) : Bool := if s = 0 then d.flag Ent.Clk.XO_EN else if s = 1 then d.flag Ent.Clk.REFIN_EN else s == 2

/-- What a domain falls back to (R423): the external sources that are not its REF_SEL, then RCO, then its REF_SEL if that is stable after all. -/
def Dev.fallback (d : Dev) (k : Nat) : Option Nat :=
  let sel := d.get (Ent.Dom.REF_SEL k)
  (([0, 1].filter (· ≠ sel)) ++ [2, sel]).find? fun s => d.sourceEnabled s && d.sourceStable s

/-- PLL_TB, of domain 2, stops or starts, and the raw counter with it (R143). -/
def Dev.tbRuns (d : Dev) (k : Nat) (v : Bool) : Dev := if k = 2 then d.setTime fun t => { t with running := v } else d

/-- The islands of a domain stop or go on: the raw counter of TB; with SYS, DRAM is in self-refresh while it stands (R423, R427). -/
def Dev.islandsRun (d : Dev) (k : Nat) (v : Bool) : Dev :=
  let d := d.tbRuns k v
  if k = 3 then d.setClk fun c => { c with selfRefresh := !v, dramAt := d.time.raw } else d

/-- A stopped domain waits for a fallback: the 40 µs of R424 begin. -/
def Dev.waitsFrom (d : Dev) (k : Nat) : Dev :=
  if (d.dom k).target.isNone then d.setClk fun c => { c with waitAt := d.time.raw } else d

/-- A domain's source is gone: the PLL holds its word, the domain stops and waits for the forced switch to its fallback (R423, R424). -/
def Dev.domLoses (d : Dev) (k s : Nat) : Dev :=
  if d.domSource k = s then
    (((d.put (Ent.Dom.SOURCE k) 0xFF).setDom k fun x => { x with locked := false, word := true, old := s, target := d.fallback k }).waitsFrom k).islandsRun k false
  else if d.domStopped k ∧ (d.dom k).target = some s then (d.setDom k fun x => { x with target := d.fallback k }).waitsFrom k
  else d

/-- A source is no longer stable. -/
def Dev.sourceGone (d : Dev) (s : Nat) : Dev :=
  let d := (d.putBit Ent.Clk.SRC_STATUS s false).setClk fun c => { c with since := KV.erase s c.since }
  (List.range 4).foldl (fun d k => d.domLoses k s) d

/-- The monitor trips on a source (R422): cause 1 missing edges, 2 frequency, 3 amplitude. When RCO trips while XO is stable, the RCO domain
switches to XO (R423). -/
def clkTripOp (s cause : Nat) (d : Dev) : Dev :=
  if 2 < s ∨ d.sourceEnabled s = false ∨ d.sourceStable s = false then d
  else
    let d := ((d.sourceGone s).count (clockCounter 0)).clockEvent (1 + s) 0x0020 cause
    let d := d.raiseM0 7
    if s = 2 ∧ d.sourceStable 0 ∧ d.clk.rcoOnXo = false then
      ((d.setClk fun c => { c with rcoOnXo := true }).count (clockCounter 1)).clockEvent 3 0x0021 (2 ^ 16 + 2 * 256 + 3)
    else d

/-- A source's detector reports it stable (R418). Domains that wait stopped outside the safe state take it as their fallback (R424). -/
def sourceStableOp (s : Nat) (d : Dev) : Dev :=
  if 2 < s ∨ d.sourceEnabled s = false ∨ d.sourceStable s then d
  else
    let d := (d.putBit Ent.Clk.SRC_STATUS s true).setClk fun c => { c with since := KV.insert s d.time.raw c.since }
    if d.flag Ent.Clk.REF_LOSS then d
    else (List.range 4).foldl (fun d k => if d.domStopped k ∧ (d.dom k).target = none then d.setDom k fun x => { x with target := d.fallback k } else d) d

/-! ### PLLs, spread spectrum -/

/-- The PLL of a running domain locks; that of SYS starts modulation where SSC_MODE has it (R419, R421). -/
def pllLockOp (k : Nat) (d : Dev) : Dev :=
  if 3 < k ∨ d.domStopped k ∨ (d.dom k).locked then d
  else
    let d := d.setDom k fun x => { x with locked := true, word := true }
    if k = 3 ∧ (d.get Ent.Clk.SSC_MODE = 2 ∨ (d.get Ent.Clk.SSC_MODE = 1 ∧ d.clk.sscOpen)) then d.sscSet true else d

/-- Modulation of mode 1 ends. -/
def sscEndOp (d : Dev) : Dev := if d.flag Ent.Clk.SSC_ACTIVE then d.sscEnds else d

/-! ### Trimming of RCO -/

/-- A trim source can serve (R420): 1 XO, 2 REFIN, 3 PTP, 4 CAN edges. -/
def Dev.trimServes (d : Dev) (n : Nat) : Bool :=
  let ch := d.get Ent.Clk.TRIM_CAN_CH
  match n with
  | 1 | 2 => d.sourceStable (n - 1)
  | 3 => d.time.quality == 2
  | 4 => d.get (Ent.CanSt.STATE ch) == 1 && d.fld (Rg.Ch.BUS ch) == 0 && d.fld (Rg.Ch.REC ch) == 0
  | _ => false

/-- The trim source in use; 5 is frozen. -/
def Dev.trimPick (d : Dev) : Nat :=
  let sel := d.get Ent.Clk.RCO_TRIM_SRC
  if d.clk.rcoOnXo then 5
  else if sel = 0 then
    let tb := d.domSource 2
    if tb ≤ 1 ∧ d.trimServes (tb + 1) then tb + 1 else if d.trimServes 3 then 3 else if d.trimServes 4 then 4 else 5
  else if d.trimServes sel then sel else 5

/-- RCO is measured against the trim source, `err` in ppm, and trimmed; a change of the source in use writes RCO_TRIM. -/
def rcoTrimOp (err : Int) (d : Dev) : Dev :=
  let n := d.trimPick
  let d := if n = 5 then d else (d.putInt Ent.Clk.RCO_ERR_PPM err).putBit Ent.Clk.SRC_STATUS 3 true
  if n = d.get Ent.Clk.TRIM_IN_USE then d else (d.put Ent.Clk.TRIM_IN_USE n).clockEvent 3 0x0024 n

/-! ### Switches -/

/-- Links of a stopped network domain go down (R427, R425). -/
def Dev.domLinksDown (d : Dev) (k : Nat) : Dev :=
  (List.range 54).foldl (fun d p => if portDomain p = some k then d.portDown p else d) d

/-- The islands of a domain restart on source `t`: CLKSW, SWITCHES; the PLL locks later. An APPLY that waited for the switch takes effect with the
row of R66. -/
def Dev.domRestarts (d : Dev) (k t : Nat) (forced : Bool) : Dev :=
  let old := (d.dom k).old
  let d := (((d.domLinksDown k).put (Ent.Dom.SOURCE k) t).setDom k fun x => { x with target := none, locked := false }).islandsRun k true
  let d := d.count ⟨Ent.Dom.SWITCHES k, Ent.Dom.COUNTER_SAT k, 0, srcClock (4 + k)⟩
  d.clockEvent (4 + k) 0x0021 (b2n forced * 2 ^ 16 + old * 256 + t)

/-- A switch of a running domain starts: the domain stops and hands over (R427). -/
def Dev.switchStart (d : Dev) (k t : Nat) : Dev :=
  let d := (d.setDom k fun x => { x with locked := false, word := true, old := d.domSource k, target := some t }).put (Ent.Dom.SOURCE k) 0xFF
  (d.domLinksDown k).islandsRun k false

/-- REF_SEL that an APPLY of the domain's group waits to bring in force. -/
def Dev.switchAsked (d : Dev) (k : Nat) : Option Nat :=
  (KV.find (0x2210 + k) d.d0.applying).bind fun a => KV.find (Ent.Dom.REF_SEL k).key a.values

/-- A running domain may be switched to source `t`. -/
def Dev.maySwitch (d : Dev) (k t : Nat) : Bool :=
  !d.domStopped k && t != d.domSource k && d.sourceEnabled t && d.sourceStable t && !d.flag Ent.Clk.REF_LOSS

/-- The switch that an accepted APPLY of REF_SEL asks for begins (R428). -/
def domainSwitchOp (k : Nat) (d : Dev) : Dev :=
  if 3 < k then d
  else match d.switchAsked k with
    | some t => if d.maySwitch k t then d.switchStart k t else d
    | none => d

/-- REF_SEL of a domain on its fallback has been stable for REVERT_S (R423). -/
def revertTimeoutOp (k : Nat) (d : Dev) : Dev :=
  let t := d.get (Ent.Dom.REF_SEL k)
  let s := d.get (Ent.Dom.REVERT_S k)
  let good := (KV.find t d.clk.since).any fun r => decide (r + s * 1000000000 ≤ d.time.raw)
  if k ≤ 3 ∧ s ≠ 0 ∧ good ∧ d.maySwitch k t then d.switchStart k t else d

/-- The islands restart after a switch from a running source; a TB switch adds 480 to the raw counter (R427, R143). -/
def domainSwitchCompleteOp (k : Nat) (d : Dev) : Dev :=
  if 3 < k ∨ d.domStopped k = false then d
  else match (d.dom k).target with
    | none => d
    | some t =>
      if d.sourceStable (d.dom k).old then
        let d := d.domRestarts k t false
        if k = 2 then d.setTime fun x => { x with raw := (x.raw + 480) % 2 ^ 64 } else d
      else d

/-- The old reference gives no edge: the switch is forced (R429). -/
def forcedSwitchOp (k : Nat) (d : Dev) : Dev :=
  if 3 < k ∨ d.domStopped k = false then d
  else match (d.dom k).target with
    | none => d
    | some t =>
      if d.sourceStable (d.dom k).old then d
      else
        let d := ((d.domRestarts k t true).count (clockCounter 1)).put (Ent.Dom.CLKSW_FORCED k) 1
        let d := d.put (Ent.Dom.UNCERTAIN k) 1
        if k = 2 then d.setQuality 0 else d

/-! ### The reference-loss safe state -/

/-- The domains that have stopped. -/
def Dev.stoppedMask (d : Dev) : Nat := sumBy (fun k => if d.domStopped k then 2 ^ k else 0) (List.range 4)

/-- The scan engine enters STOP_FAULT with cause 4 or 5 (R425, R448), once it has an image. -/
def Dev.engineLost (d : Dev) (cause : Nat) : Dev := if d.engine = 0 then d else d.scanFault cause 0xFF 0 fun d => d

/-- No source became stable in 40 µs (R424, R425); while the raw counter stands still, the command itself says so. A sleep entry goes on without the safe state (R426). -/
def refLossOp (d : Dev) : Dev :=
  let waiting := ((List.range 4).any fun k => d.domStopped k && (d.dom k).target.isNone) && d.aged d.clk.waitAt 40000
  if d.flag Ent.Clk.REF_LOSS ∨ d.sleep.target ≠ 0 ∨ d.power.phase ≠ .running ∨ !waiting then d
  else
    let mask := d.stoppedMask
    let d := (d.put Ent.Clk.REF_LOSS 1).setClk fun c => { c with lossAt := d.time.raw }
    let d := ([0, 1, 2] : List Nat).foldl (fun d g => (d.applySafeGroup g).emit (.line "SAFE" g true)) d
    let d := d.faultRefresh
    let d := (List.range 54).foldl (fun d p =>
      if (portDomain p).any (fun k => bit mask k) then
        let d := d.portDown p
        if (d.sw.link p).held then d.holdFlush p else d
      else d) d
    let d := (d.engineLost 4).setQuality 0
    (d.count (clockCounter 2)).clockEvent 0 0x0022 mask

/-- A stopped domain starts again without a stored word, on its REF_SEL if that is stable, else on a stable source (R426). -/
def Dev.domStarts (d : Dev) (k : Nat) : Dev :=
  let sel := d.get (Ent.Dom.REF_SEL k)
  match (sel :: [0, 1, 2]).find? fun s => d.sourceEnabled s && d.sourceStable s with
  | none => d
  | some s => ((d.put (Ent.Dom.SOURCE k) s).setDom k fun x => { x with locked := false, word := false, target := none }).islandsRun k true

/-- A source has been stable for 100 µs: the device leaves the safe state (R426). While the raw counter stood still, the command itself says that the time
has passed, and the duration that REF_LOSS_END gives is a free value (assumption 3). -/
def refLossEndOp (d : Dev) : Dev :=
  let ready := ([0, 1, 2] : List Nat).any fun s =>
    d.sourceEnabled s && d.sourceStable s && (!d.time.running || (KV.find s d.clk.since).any fun r => decide (r + 100000 ≤ d.time.raw))
  if d.flag Ent.Clk.REF_LOSS = false ∨ !ready then d
  else
    let sys := d.domStopped 3
    let (us, d) := if d.time.running then ((d.time.raw - d.clk.lossAt) / 1000, d) else match d.draw 32 with
      | (v, d) => (v.toNat, d)
    let d := (List.range 4).foldl (fun d k => if d.domStopped k then d.domStarts k else d) d
    let d := if sys then
        (List.range 16).foldl (fun d n => if d.get (Ent.CanSt.STATE n) = 0 then d else d.integrate n)
          (d.setClk fun c => { c with sscOpen := true })
      else d
    let d := ([0, 1, 2] : List Nat).foldl (fun d g => if d.load.safeLine.contains g then d else d.emit (.line "SAFE" g false)) d
    ((d.put Ent.Clk.REF_LOSS 0).faultRefresh).clockEvent 0 0x0023 (min us 0xFFFFFFFF)

/-! ### Groups -/

/-- The subindex of group 0x2200 at fault: a source that a domain's REF_SEL names is disabled (Table 18.10). -/
def clkFault (x : Dev) : Option Nat :=
  if x.get Ent.Clk.XO_EN = 0 ∧ (List.range 4).any (fun k => x.get (Ent.Dom.REF_SEL k) == 0) then some 1
  else if x.get Ent.Clk.REFIN_EN = 0 ∧ (List.range 4).any (fun k => x.get (Ent.Dom.REF_SEL k) == 1) then some 2
  else none

/-- SSC_MODE 2 outside DEVELOP is refused with WRONG_STATE (R421). -/
def clkWrong (x : Dev) : Bool := x.get Ent.Clk.SSC_MODE == 2 && x.get Ent.Sec.LIFECYCLE != 0

/-- Group 0x2200 has new values: a source that is disabled is no longer stable; modulation follows SSC_MODE. -/
def Dev.clkApplied (d : Dev) : Dev :=
  let d := if d.get Ent.Clk.XO_EN = 0 ∧ d.sourceStable 0 then d.sourceGone 0 else d
  let d := if d.get Ent.Clk.REFIN_EN = 0 ∧ d.sourceStable 1 then d.sourceGone 1 else d
  match d.get Ent.Clk.SSC_MODE with
  | 0 => d.sscSet false
  | 2 => if (d.dom 3).locked then d.sscSet true else d
  | _ => if d.clk.sscOpen then d else d.sscSet false

/-- A domain's group: REF_SEL names a disabled source (CONFLICT). -/
def domFault (x : Dev) (k : Nat) : Option Nat := if x.sourceEnabled (x.get (Ent.Dom.REF_SEL k)) then none else some 1

/-- WRONG_STATE for REF_SEL: the source named is not stable, or the safe state (R428). `written` says that REF_SEL is in the shadow. -/
def domWrong (x : Dev) (k : Nat) (written : Bool) : Bool :=
  written && (!x.sourceStable (x.get (Ent.Dom.REF_SEL k)) || x.flag Ent.Clk.REF_LOSS)

/-- The boundary of a domain's APPLY: the source in use is the one named (R428). -/
def Dev.domReady (d : Dev) (k : Nat) : Bool :=
  match d.switchAsked k with
  | some t => t == d.domSource k
  | none => true

/-- In IDLE, with RUN_EN of gate 5 at 1, DRAM enters self-refresh 10 µs after its last access (Table 18.9). -/
def Dev.idle (d : Dev) : Bool := ([17, 18, 19, 20, 25, 26, 27, 28, 29, 30, 31, 32] : List Nat).all fun g => d.gateState g != 1

def dramIdleSelfRefreshOp (d : Dev) : Dev :=
  if d.power.phase = .running ∧ d.idle ∧ bit (d.get (gateEntry 5)) 7 ∧ d.passed d.clk.dramAt 10000 then d.setClk fun c => { c with selfRefresh := true } else d

/-- Rows of R418 to R433. -/
def execSourceStable (src : Nat) (s : State) := onDev s (sourceStableOp src)
def execPllLock (k : Nat) (s : State) := onDev s (pllLockOp k)
def execRcoTrim (err : Int) (s : State) := onDev s (rcoTrimOp err)
def execSscEnd (s : State) := onDev s sscEndOp
def execClkTrip (src cause : Nat) (s : State) := onDev s (clkTripOp src cause)
def execDomainSwitch (k : Nat) (s : State) := onDev s (domainSwitchOp k)
def execDomainSwitchComplete (k : Nat) (s : State) := onDev s (domainSwitchCompleteOp k)
def execForcedSwitch (k : Nat) (s : State) := onDev s (forcedSwitchOp k)
def execRevertTimeout (k : Nat) (s : State) := onDev s (revertTimeoutOp k)
def execRefLoss (s : State) := onDev s refLossOp
def execRefLossEnd (s : State) := onDev s refLossEndOp
def execDramIdleSelfRefresh (s : State) := onDev s dramIdleSelfRefreshOp

end Sys2Proof.Machine
end

