-- ==== Sys2Proof/Machine/UnitReset.lean ====
section
/-! DEFINITION. The reset state of each unit of the gate tree (R431, R432, R444), the gate rows (R430 to R434) and UNIT_RESET. -/

namespace Sys2Proof.Machine

/-! ### Reset states -/

/-- A unit with an ENABLE after its reset: its items are gone, and STATE follows ENABLE (R444, R52). -/
def Dev.unitRestarts (d : Dev) (x : UnitId) : Dev :=
  let d := (d.unitDraining x).unitCut x |>.2
  let d : Dev := { d with drains := KV.erase x.key d.drains }
  d.put (unitStateEntry x) (min 1 (d.get (unitEnableEntry x)))

/-- A port: its frames end, its link goes down, its schedule starts over. -/
def Dev.portUnitReset (d : Dev) (p : Nat) : Dev :=
  let d := (d.unitRestarts (.port p)).portDown p
  let d := (if (d.sw.link p).held then d.holdFlush p else d).driveXtxdis p
  if p < 48 then (d.setSched p fun _ => schedReset).gclApplied p else d

/-- A CAN channel: it integrates again with its registers at reset. -/
def Dev.canUnitReset (d : Dev) (n : Nat) : Dev :=
  let d := d.unitRestarts (.can n)
  let d : Dev := { d.resetPage (0x10400000 + 0x4000 * n) 0x4000 with can := KV.erase n d.can }
  d.setFld (Rg.Ch.BUS n) 3

/-- A bridge unit: every session and tunnel starts over. -/
def Dev.bridgeUnitReset (d : Dev) (u : Nat) : Dev :=
  let d := (List.range 64).foldl (fun d k => if d.unitState (.bridge u k) = 0 then d else d.unitRestarts (.bridge u k)) d
  let d := d.setBr fun b => { b with sess := KV.keep (fun k _ => k / 2048 != u) b.sess, ctx := KV.keep (fun k _ => k / 64 != u) b.ctx,
                                     serve := KV.keep (fun k _ => serveUnit k != u) b.serve, toggles := KV.keep (fun k _ => k / 1024 != u) b.toggles }
  let d := (d.resetPage (0x10800000 + 0x40000 * u) 0x40000).resetPage (0x10900000 + 0x4000 * u) 0x4000
  (List.range 64).foldl (fun d k => if d.get (Ent.Bctx.STATE (bctx u k)) = 1 then d.bctxEnabled u k else d) d

/-- D0: every request it has accepted completes with ABORTED; a store or restore that is not committed is dropped. Shadows stay (R67). -/
def Dev.dictUnitReset (d : Dev) : Dev :=
  let l := d.d0.queue
  let d := d.transfersEnd.setD0 fun u => { u with waits := [], applying := [], store := none, snapshots := [] }
  l.foldl (fun d q => d.respond q.origin (!q.req.write) .aborted [] 0 []) d

/-- The crypto unit: its job ends with ABORTED. -/
def Dev.cryptoUnitReset (d : Dev) : Dev :=
  let d := d.setMezz fun m => { m with job := m.job.map fun j => { j with ended := some .aborted } }
  (cryptoJobCompleteOp d).resetPage 0x1F020000 0x1000

/-- The scan engine: it is stopped with its tasks abandoned and its image dropped from work; its trigger units return to OWNER 0, disarmed (R240). -/
def Dev.seUnitReset (d : Dev) : Dev :=
  let d := if d.get Ent.Chg.CHANGE_STATE = 0 then d else d.changeEnd .aborted
  let d := d.abandonTasks.engineSafe
  let d := (imgCyclic d.image).foldl (fun d r => if d.engine = 0 then d else d.releaseUnit r.unit) d
  (d.setScan fun s => { s with runs := [], slots := [], warm := [], saving := none }).setEngine 0

/-- A DMA channel keeps its epoch. -/
def Dev.dmaUnitReset (d : Dev) (c : Nat) : Dev :=
  let d := ((d.unitRestarts (.dma c)).leftBehind (.dma c)).resetPage (0x10200000 + 0x1000 * c) 0x1000
  d.setDma fun m => { m with chs := KV.erase c m.chs }

/-- A host engine and the queue pairs of its port. -/
def Dev.engineUnitReset (d : Dev) (n : Nat) : Dev :=
  let d := ((d.unitRestarts (.hostEngine n)).portDown (48 + n))
  (List.range 256).foldl (fun d q =>
    if d.get (Ent.Qp.PORT q) = 48 + n ∧ d.get (Ent.Qp.STATE q) ≠ 0 then
      (d.unitRestarts (.queuePair q)).resetPage (0x10300000 + 0x1000 * q) 0x1000
    else d) d

/-- The unit of gate `g` takes its reset state; its dictionary configuration, statistics counters and epochs stay (R444). A unit whose state the
manual names nowhere has none that changes; trigger units and the timebase are left running (R145). -/
def Dev.unitResetState (d : Dev) (g : Nat) : Dev :=
  if 17 ≤ g ∧ g ≤ 20 then d.resetCore (g - 17)
  else if 25 ≤ g ∧ g ≤ 32 then d.resetCore (4 + (g - 25))
  else if g = 33 then d.seUnitReset
  else if 43 ≤ g ∧ g ≤ 46 then d.engineUnitReset (g - 43)
  else if g = 48 then d.dictUnitReset
  else if g = 49 then ({ d.resetPage 0x10000000 0x1C000 with held := KV.keep (fun j _ => decide (512 ≤ j)) d.held } : Dev)
  else if g = 50 then d.setDma fun m => { m with chs := KV.mapVal (fun _ c => { c with tlb := [] }) m.chs }
  else if 52 ≤ g ∧ g ≤ 55 then d.bridgeUnitReset (g - 52)
  else if g = 56 then d.cryptoUnitReset
  else if 64 ≤ g ∧ g ≤ 111 then d.portUnitReset (g - 64)
  else if g = 112 ∨ g = 113 then d.portUnitReset (g - 60)
  else if 128 ≤ g ∧ g ≤ 143 then d.canUnitReset (g - 128)
  else if g = 145 then (List.range 256).foldl Dev.stgReset d
  else if g = 146 then d.setLoad fun s => { s with chs := KV.mapVal (fun _ c => if bit c.cmd 2 then { c with pwmStart := d.time.raw } else c) s.chs }
  else if g = 147 ∨ g = 148 then (d.unitRestarts (.adc (g - 147))).resetPage (0x10C00000 + 0x1000 * (g - 147)) 0x1000
  else if 192 ≤ g ∧ g ≤ 255 then d.dmaUnitReset (g - 192)
  else d

/-! ### Gates (R430 to R434) -/

/-- The cores, units with an ENABLE and contexts that a gate clocks. -/
def gateCoreOf (g : Nat) : Option Nat := if 17 ≤ g ∧ g ≤ 20 then some (g - 17) else if 25 ≤ g ∧ g ≤ 32 then some (4 + (g - 25)) else none
def gateUnits (g : Nat) : List UnitId :=
  if 43 ≤ g ∧ g ≤ 46 then [.hostEngine (g - 43)]
  else if 52 ≤ g ∧ g ≤ 55 then (List.range 64).map (.bridge (g - 52))
  else if 64 ≤ g ∧ g ≤ 111 then [.port (g - 64)]
  else if g = 112 ∨ g = 113 then [.port (g - 60)]
  else if 128 ≤ g ∧ g ≤ 143 then [.can (g - 128)]
  else if g = 147 ∨ g = 148 then [.adc (g - 147)]
  else if 192 ≤ g ∧ g ≤ 255 then [.dma (g - 192)]
  else []

/-- What drains behind a gate: its units, and the queues of a port or the queue pairs of a host engine (R52). -/
def Dev.gateDrains (d : Dev) (g : Nat) : Bool :=
  let parts (x : UnitId) : List UnitId := match x with
    | .port p => (List.range 9).map (.queue p)
    | .hostEngine n => ((List.range 256).filter fun q => d.get (Ent.Qp.PORT q) == 48 + n).map .queuePair
    | _ => []
  (gateUnits g).any fun x => (x :: parts x).any fun y => d.unitState y == 2

/-- A core belongs to the scan engine or to a tenant hall. -/
def Dev.coreTaken (d : Dev) (k : Nat) : Bool :=
  decide (4 ≤ k) && (d.engineCore (k - 4) || (List.range 255).any fun h => d.hallExists (h + 1) && bit (d.get (Ent.Hall.CCORES (h + 1))) (k - 4))

/-- The core waits in WFI with nothing deliverable (R431). -/
def Dev.coreIdle (d : Dev) (k : Nat) : Bool := d.isSet (pgWfi k) && d.bestSource k == 0

/-- The checks of Table 18.8 on a request to turn a gate off. -/
def Dev.gateOffFault (d : Dev) (g : Nat) (secure : Bool) : Status :=
  if g ≤ 5 then .writeProtected
  else if !secure && d.leased g then .leased
  else if d.childInUse g then .childInUse
  else if d.gateDrains g then .busy
  else if (gateUnits g).any (fun x => d.unitState x == 1) || (gateCoreOf g).any (fun k => !d.isSet (pgWfi k) || d.coreTaken k) then .wrongState
  else .ok

/-- The bits a write may set in a gate value: reserved bits must be 0 (R434). -/
def gateWriteOk (g v : Nat) : Bool := bits v 31 10 == 0 && (bits v 9 7 == 0 || (decide (1 ≤ g) && decide (g ≤ 5)))

/-- The rw enables of Table 18.9. -/
def gateEnables (g : Nat) : List Nat := if g = 3 ∨ g = 4 then [8] else if g = 5 then [7] else []

/-- A write lowers SLEEP_EN or DEEP_EN of a leased gate (R399, R433). -/
def Dev.lowers (d : Dev) (g v : Nat) (secure : Bool) : Bool :=
  !secure && d.leased g && (gateEnables g).any fun i => decide (8 ≤ i) && bit (d.get (gateEntry g)) i && !bit v i

/-- A gate write that is accepted: AUTO (not on gates 0 to 10) and the rw enables take their bits. -/
def Dev.gateBits (d : Dev) (g v : Nat) : Dev :=
  let w := d.get (gateEntry g)
  let w := if g ≤ 10 then w else setBit w 3 (bit v 3)
  d.put (gateEntry g) ((gateEnables g).foldl (fun w i => setBit w i (bit v i)) (setBit w 0 (bit v 0)))

/-- A PLL's gate goes off or on: its domain stops, or starts on its REF_SEL. -/
def Dev.pllGate (d : Dev) (g : Nat) (on : Bool) : Dev :=
  if 8 ≤ g ∧ g ≤ 10 then
    let k := if g = 10 then 3 else g - 8
    if on then d.domStarts k else ((d.put (Ent.Dom.SOURCE k) 0xFF).setDom k fun _ => ClkDom.rest).domLinksDown k
  else d

/-- One gate leaves OFF: its unit starts from its reset state (R432). -/
def Dev.gateUp (d : Dev) (g : Nat) : Dev :=
  if d.gateState g = 0 then (((d.setGateState g 1).putBit (gateEntry g) 0 true).pllGate g true).unitResetState g
  else if d.gateState g = 2 then d.setGateState g 1
  else d

/-- The gates from the root down to `g`. -/
def gateLine (g : Nat) : List Nat :=
  let up (x : Nat) : Option Nat := (gateParent x).join
  let a := up g
  let b := a.bind up
  let c := b.bind up
  [c, b, a].filterMap id ++ [g]

/-- The clocked domain a gate lies in. -/
def gateDomain (g : Nat) : Option Nat :=
  if (gateLine g).contains 8 then some 0 else if (gateLine g).contains 9 then some 1 else if (gateLine g).contains 3 then some 2
  else if (gateLine g).contains 10 then some 3 else none

/-- The refusal or completion of a gate write: CODE, LEASE_REFUSED where R432 has it, the response. -/
def Dev.gateDone (d : Dev) (g : Nat) (s : Status) : Dev :=
  let d := if s = .leased ∨ s = .childInUse then d.leaseRefused g s else d
  (d.setGateCode g s).finish (gateEntry g).key s

/-- A gate write with REQ 1: every ancestor that is off turns on first (R432). -/
def gateOnOp (g v : Nat) (secure : Bool) (d : Dev) : Dev :=
  if gateListed g = false then d.finish (gateEntry g).key .noSubindex
  else if gateWriteOk g v = false then d.gateDone g .outOfRange
  else if d.lowers g v secure then d.gateDone g .leased
  else if d.flag Ent.Clk.REF_LOSS ∧ (gateDomain g).any d.domStopped then d.gateDone g .wrongState
  else (((gateLine g).foldl Dev.gateUp d).gateBits g (setBit v 0 true)).gateDone g .ok

/-- A gate write with REQ 0 (Table 18.8). System SRAM, the TCMs and the process image lose their contents (DESIGN CHOICE). -/
def Dev.gateDown (d : Dev) (g : Nat) : Dev :=
  let d := (d.setGateState g 0).pllGate g false
  if g = 51 then d.zeroMem 0x1000000 0x800000
  else if 25 ≤ g ∧ g ≤ 32 then d.zeroMem (0x2000000 + (g - 25) * 0x20000) 0x20000
  else d

def gateOffOp (g v : Nat) (secure : Bool) (d : Dev) : Dev :=
  if gateListed g = false then d.finish (gateEntry g).key .noSubindex
  else if gateWriteOk g v = false then d.gateDone g .outOfRange
  else match d.gateOffFault g secure with
    | .ok => if d.lowers g v secure then d.gateDone g .leased else ((d.gateDown g).gateBits g (setBit v 0 false)).gateDone g .ok
    | s => d.gateDone g s

/-- The unit of a gate is idle (R431). A unit without an ENABLE is idle when the command says so. -/
def Dev.gateIdle (d : Dev) (g : Nat) : Bool :=
  (match gateCoreOf g with | some k => d.coreIdle k | none => true) && (gateUnits g).all (fun x => d.unitState x == 0) &&
    allGates.all fun k => !(gateParent k == some (some g)) || d.gateState k != 1

/-- A gate with AUTO 1 parks while its unit is idle (R431). -/
def gateParkOp (g : Nat) (d : Dev) : Dev :=
  if gateListed g ∧ 10 < g ∧ d.gateState g = 1 ∧ bit (d.get (gateEntry g)) 3 ∧ d.gateIdle g then d.setGateState g 2 else d

/-- A demand reaches a parked unit: its gate and the parked gates above it return to ON (R431). -/
def gateUnparkOp (g : Nat) (d : Dev) : Dev :=
  if gateListed g ∧ d.gateState g = 2 then (gateLine g).foldl (fun d k => if d.gateState k = 2 then d.setGateState k 1 else d) d else d

/-! ### UNIT_RESET (R444) -/

/-- POWER_FAILS 0 to SP_FRAME_ERRORS 5 (Table 19.12). -/
def powerCounter (i : Nat) : Counter := ⟨⟨0x2100, 9 + i, 64, 0⟩, Ent.Pwr.COUNTER_SAT, i, srcPower 0⟩

/-- A UNIT_RESET write that is refused (R430, R444). -/
def Dev.unitResetFault (d : Dev) (v : Nat) (secure : Bool) : Status :=
  if 0x1000 ≤ v ∧ v ≤ 0x1002 then .ok
  else if v ≤ 767 ∧ gateListed v = false then .noSubindex
  else if 767 < v ∨ v ≤ 10 ∨ v = 16 ∨ v = 24 ∨ v = 40 ∨ v = 57 then .outOfRange
  else if (gateCoreOf v).any d.coreTaken then .wrongState
  else if !secure && d.leased v then .leased
  else .ok

def unitResetOp (v : Nat) (secure : Bool) (d : Dev) : Dev :=
  match d.unitResetFault v secure with
  | .ok =>
    let d := if 0x1000 ≤ v then d.loadGroupReset (v - 0x1000) else d.unitResetState v
    (((d.count (powerCounter 4)).eventSys 6 (srcPower 0) 0x0024 v)).finish Ent.Pwr.UNIT_RESET.key .ok
  | s => (if s = .leased then d.leaseRefused v s else d).finish Ent.Pwr.UNIT_RESET.key s

/-- Rows of R430 to R434 and R444. -/
def execGateOn (g v : Nat) (secure : Bool) (s : State) := onDev s (gateOnOp g v secure)
def execGateOff (g v : Nat) (secure : Bool) (s : State) := onDev s (gateOffOp g v secure)
def execGatePark (g : Nat) (s : State) := onDev s (gateParkOp g)
def execGateUnpark (g : Nat) (s : State) := onDev s (gateUnparkOp g)
def execUnitReset (v : Nat) (secure : Bool) (s : State) := onDev s (unitResetOp v secure)

end Sys2Proof.Machine
end

