-- ==== Sys2Proof/Machine/Power.lean ====
section
/-! DEFINITION. Power fail and recovery (R448 to R450) with the retentive save (R255). -/

namespace Sys2Proof.Machine

/-- Events of power fail go to the device log and to hall 0's ring (R456). -/
def Dev.powerEvent (d : Dev) (code data : Nat) : Dev := (d.eventSys 6 (srcPower 1) code data).eventRing 0 (srcPower 1) code data

/-- The save applies: the engine has left NO_IMAGE, no sleep entry runs, and a source is stable to run the NAND interface (R448, R426). -/
def Dev.saveApplies (d : Dev) : Bool :=
  d.engine != 0 && d.sleep.target == 0 && !(d.flag Ent.Clk.REF_LOSS && !(List.range 3).any d.sourceStable)

/-- Power fail is detected: steps 1 and 2 of Table 19.9. While PF_STATE is not 0 the cores stand still: no command comes from one. -/
def powerFailOp (d : Dev) : Dev :=
  if d.power.phase ≠ .running ∨ d.get Ent.Pwr.PF_STATE ≠ 0 then d
  else
    let save := d.saveApplies
    let d : Dev := { d with power := { d.power with pfSince := d.time.raw } }
    let d := ((d.put Ent.Pwr.PF_STATE 1).count (powerCounter 0)).raiseM0 6
    let d := (d.powerEvent 0x0020 (d.get Ent.Pf.PF_THRESH_MV)).faultRefresh
    let d := if save then d.retainSave else d
    let d := d.engineLost 5
    let d := d.setSupply fun s => { s with frozen := true }
    (List.range 54).foldl (fun d p => if (portDomain p).isSome then d.portDown p else d) d

/-- The save completes, or there was none to make: step 3 of Table 19.9. -/
def retainSaveCompleteOp (d : Dev) : Dev :=
  if d.get Ent.Pwr.PF_STATE = 1 then
    let d := if d.nandOn then (d.stoDurable).commitEvents else d
    ((d.retainSaved).put Ent.Pwr.PF_STATE 2).setSupply fun s => { s with frozen := false }
  else d.retainSaved

/-- VAUX has stayed above the threshold for PF_RECOVER_MS (R450). -/
def powerRestoredOp (d : Dev) : Dev :=
  let due := d.aged d.power.pfSince (d.get Ent.Pf.PF_RECOVER_MS * 1000000)
  if d.get Ent.Pwr.PF_STATE = 0 ∨ d.scan.saving.isSome ∨ !due then d
  else
    let us := (d.time.raw - d.power.pfSince) / 1000
    let d := ((d.put Ent.Pwr.PF_STATE 0).count (powerCounter 1)).setSupply fun s => { s with frozen := false }
    let d := (List.range 16).foldl (fun d n => if d.get (Ent.CanSt.STATE n) = 1 then d.setFld (Rg.Ch.BUS n) 3 else d) d
    (d.powerEvent 0x0021 (min us 0xFFFFFFFF)).faultRefresh

/-- APPLY of 0x2101: PF_THRESH_MV must stay 1 V below VAUX (R449). -/
def pfFault (x : Dev) : Option Nat := if x.get Ent.Pwr.VAUX_MV < x.get Ent.Pf.PF_THRESH_MV + 1000 then some 1 else none

/-- Rows of R255, R448 and R450. -/
def execPowerFail (s : State) := onDev s powerFailOp
def execPowerRestored (s : State) := onDev s powerRestoredOp
def execRetainSaveComplete (s : State) := onDev s retainSaveCompleteOp

end Sys2Proof.Machine
end

