-- ==== Sys2Proof/Machine/Update.lean ====
section
/-! DEFINITION. Firmware update (R475 to R487): the update image and its check (Tables 21.1 to 21.3), staging, the boot decision, confirmation. -/

namespace Sys2Proof.Machine

/-- UPDATES 0, REJECTS 1, RESCUE_STARTS 2 (Table 21.6). -/
def updCounter (i : Nat) : Counter := ⟨⟨0x4A00, 0xD + i, 64, 0⟩, Ent.Upd.COUNTER_SAT, i, srcUpdate⟩

/-! ### The image (Tables 21.1, 21.2) -/

/-- Header fields of an image; of the image as delivered they are all 0. -/
structure FwHeader where
  version : Nat
  sec : Nat
  key : Nat
  advance : Bool
  settings : Nat
  minSettings : Nat
  compat : Nat
  deriving DecidableEq, Repr

def fwHeader (b : Bytes) : FwHeader :=
  ⟨leAt b 16 4, leAt b 20 1, leAt b 21 1, bit (leAt b 22 1) 0, leAt b 24 2, leAt b 26 2, leAt b 28 2⟩

/-- Section records: kind, REQUIRED, offset, length. -/
def fwSections (b : Bytes) : List (Nat × Bool × Nat × Nat) :=
  (List.range (leAt b 6 2)).map fun i =>
    let o := 272 + 16 * i
    (leAt b o 2, bit (leAt b (o + 2) 1) 0, leAt b (o + 4) 4, leAt b (o + 8) 4)

/-- Check 7 of Table 21.3: kinds, counts, bounds, alignment, no overlap. -/
def fwSectionsOk (b : Bytes) : Bool :=
  let l := fwSections b
  let n (k : Nat) : Nat := (l.filter fun x => x.1 == k).length
  let bounded (x : Nat × Bool × Nat × Nat) : Bool :=
    x.2.2.1 % 16 == 0 && decide (272 + 16 * l.length ≤ x.2.2.1) && decide (x.2.2.1 + x.2.2.2 ≤ leAt b 8 4)
  let known (x : Nat × Bool × Nat × Nat) : Bool := (decide (1 ≤ x.1) && decide (x.1 ≤ 6)) || !x.2.1
  let apart (i j : Nat) : Bool :=
    match l[i]?, l[j]? with
    | some x, some y => decide (x.2.2.1 + x.2.2.2 ≤ y.2.2.1) || decide (y.2.2.1 + y.2.2.2 ≤ x.2.2.1)
    | _, _ => true
  n 1 == 1 && n 2 == 1 && n 3 == 1 && n 4 == 1 && decide (n 5 ≤ 1) && l.all known && l.all bounded &&
    (List.range l.length).all fun i => (List.range i).all (apart i)

/-- The checks of Table 21.3 from the first to check `last` on an image of `len` bytes: the reason and status of the first that fails. -/
def Dev.fwCheck (d : Dev) (b : Bytes) (last : Nat) : Option (Nat × Status) :=
  let pub := slice b 80 96
  let n := leAt b 8 4
  let tests : List (Nat × Status × Bool) := [
    (1, .outOfRange, slice b 0 4 == bytesOf [0x4E, 0x55, 0x50, 0x44] && leAt b 4 2 == 1 && decide (1 ≤ leAt b 6 2) && decide (leAt b 6 2 ≤ 16) &&
      n == b.length && n % 16 == 0 && decide (4096 ≤ n) && decide (n ≤ 67108864)),
    (2, .conflict, leAt b 12 4 == 0x4816),
    (3, .integrity, d.fuseKey (leAt b 21 1) pub),
    (4, .integrity, p384.verify pub (sha384 (b.take 176)) (slice b 176 96)),
    (5, .integrity, slice b 32 48 == sha384 (b.drop 272)),
    (6, .outOfRange, decide (d.get Ent.Sec.ROLLBACK ≤ leAt b 20 1)),
    (7, .outOfRange, fwSectionsOk b),
    (8, .conflict, d.upd.records.all fun r => decide (leAt b 26 2 ≤ r.2))]
  (tests.find? fun t => decide (t.1 ≤ last) && !t.2.2).map fun t => (t.1, t.2.1)

/-- The check of FW_ACTIVE. Of the image as delivered only its key and its security version, 0, can fail (PRESUMED). -/
def Dev.activeCheck (d : Dev) : Option (Nat × Status) :=
  match d.upd.active with
  | some b => d.fwCheck b 7
  | none =>
    if bit (d.get Ent.Sec.KEY_REVOKED) 0 then some (3, .integrity) else if d.get Ent.Sec.ROLLBACK = 0 then none else some (6, .outOfRange)

/-- The header of the running image. That of the rescue image, as of the one delivered, is all 0 (PRESUMED, assumption 61). -/
def Dev.firmware (d : Dev) : FwHeader :=
  ((if d.rescue then none else d.upd.active).map fwHeader).getD ⟨0, 0, 0, false, 0, 0, 0⟩

/-! ### Staging (R476, R477) -/

def Dev.staging (d : Dev) : Bytes := d.oct Ent.Stg.STAGING

/-- A segment at OFFSET 0: what was staged before is gone. -/
def Dev.stagingBegun (d : Dev) : Dev := ((d.put Ent.Upd.STAGING_STATE 1).put Ent.Upd.STAGED_VERSION 0).putOct Ent.Stg.STAGING []

/-- The last segment. -/
def Dev.stagingDone (d : Dev) (b : Bytes) : Dev :=
  ((d.putOct Ent.Stg.STAGING b).put Ent.Upd.STAGING_STATE 2).put Ent.Upd.STAGED_VERSION (leAt b 16 4)

/-- STAGING_CMD 1. -/
def stagingArmOp (d : Dev) : Dev :=
  let st := d.get Ent.Upd.STAGING_STATE
  if st = 2 ∨ st = 3 then (d.put Ent.Upd.STAGING_STATE 3).finish Ent.Upd.STAGING_CMD.key .ok
  else d.finish Ent.Upd.STAGING_CMD.key .notConfigured

/-- STAGING_CMD 2: a transfer in progress is abandoned. -/
def stagingDiscardOp (d : Dev) : Dev :=
  ((d.setD0 fun u => { u with transfers := KV.erase Ent.Stg.STAGING.key u.transfers }).stagingEmpty).finish Ent.Upd.STAGING_CMD.key .ok

/-! ### Confirmation, rescue -/

/-- CONFIRM by hall 0 or the secure world (R482). -/
def imageConfirmOp (d : Dev) : Dev :=
  let key := Ent.Upd.CONFIRM.key
  match d.get Ent.Upd.IMAGE_STATE with
  | 0 => d.finish key .ok
  | 1 =>
    let h := d.firmware
    let d := if h.advance ∧ d.get Ent.Sec.ROLLBACK < h.sec then d.setRollback h.sec else d
    (((d.setUpd fun u => { u with trial := false }).put Ent.Upd.IMAGE_STATE 0).event srcUpdate 0x0024 (d.get Ent.Sec.ROLLBACK * 256 + h.sec)).finish key .ok
  | _ => d.finish key .wrongState

/-- RETRY_ACTIVE: the next start tries the active image again (R481). -/
def retryActiveOp (d : Dev) : Dev :=
  if d.get Ent.Upd.IMAGE_STATE = 2 then (d.put Ent.Upd.FAILED_STARTS 0).finish Ent.Upd.RETRY_ACTIVE.key .ok
  else d.finish Ent.Upd.RETRY_ACTIVE.key .wrongState

/-! ### The boot decision (R478, R479): its events are kept for their place after BOOT and RESET (R487) -/

/-- LAST_RESULT. -/
def lastResult (r : Option (Nat × Status)) (kind : Nat) : Nat :=
  match r with
  | none => kind
  | some (n, s) => s.code * 65536 + n * 256 + kind

/-- The staging image is taken, or rejected. `cut` says that the copy was cut off after that many blocks of this start; the events are (code,
DATA) in the order they occurred. -/
def Dev.bootCopy (d : Dev) (cut : Option Nat) : Bool × List (Nat × Nat) × Dev :=
  let resumed := d.upd.copying
  if resumed.isNone ∧ d.get Ent.Upd.STAGING_STATE ≠ 3 then (true, [], d)
  else
    let b := d.staging
    match d.fwCheck b 8 with
    | some r =>
      let d := ((d.put Ent.Upd.LAST_RESULT (lastResult (some r) (if resumed.isSome then 3 else 1))).count (updCounter 1)).stagingEmpty
      let d := if resumed.isSome then d.setUpd fun u => { u with copying := none, broken := true } else d
      (true, [(0x0021, r.2.code * 65536 + r.1 * 256)], d)
    | none =>
      let first := resumed.getD 0
      let ev := match resumed with | some k => [(0x0022, k)] | none => []
      let blocks := (b.length + 2097151) / 2097152
      match cut with
      | some n =>
        if first + n < blocks then
          (false, [], d.setUpd fun u => { u with copying := some (first + n), active := some (b.take ((first + n) * 2097152)) })
        else (false, [], d.setUpd fun u => { u with copying := some blocks, active := some b })
      | none =>
        let d := (d.setUpd fun u => { u with copying := none, active := some b, broken := false, trial := true }).stagingEmpty
        let d := (d.put Ent.Upd.FAILED_STARTS 0).count (updCounter 0)
        (true, ev ++ [(0x0020, leAt b 16 4)], d.put Ent.Upd.LAST_RESULT (lastResult none (if resumed.isSome then 3 else 1)))

/-- Which image starts: the active one, with FAILED_STARTS one up, or the rescue image with the reason of a failed check (R478, R481). -/
def Dev.bootStart (d : Dev) : List (Nat × Nat) × Dev :=
  let n := d.get Ent.Upd.FAILED_STARTS
  let chk := if d.upd.broken ∨ 3 ≤ n then none else d.activeCheck
  if d.upd.broken ∨ 3 ≤ n ∨ chk.isSome then
    let reason := match chk with | some r => r.1 | none => 0
    let d := if chk.isSome then d.put Ent.Upd.LAST_RESULT (lastResult chk 2) else d
    ([(0x0023, n * 256 + reason)], (d.put Ent.Upd.IMAGE_STATE 2).count (updCounter 2))
  else
    let d := d.put Ent.Upd.IMAGE_STATE (b2n d.upd.trial)
    let h := d.firmware
    let d := ((d.put Ent.Upd.ACTIVE_VERSION h.version).put Ent.Upd.ACTIVE_SEC_VERSION h.sec).put Ent.Upd.SETTINGS_VERSION h.settings
    ([], (d.put Ent.Upd.TWIN_COMPAT h.compat).put Ent.Upd.FAILED_STARTS (n + 1))

/-- A record that is not carried into the new copy: its entries take their defaults. -/
def Dev.recordDropped (d : Dev) (r : Nat) : Dev :=
  let key := r % 2 ^ 32
  let d := d.recordGone (r / 2 ^ 32) key
  match r / 2 ^ 32 with
  | 1 =>
    (d.setD0 fun u => { u with stored := KV.keep (fun k _ => k / 256 != key) u.stored, storedBlobs := KV.keep (fun k _ => k / 256 != key) u.storedBlobs }).defaulted
      fun k => k / 256 == key
  | 2 => { d with blobs := KV.erase Ent.Seimg.ACTIVE_IMAGE.key d.blobs }
  | 3 => d.emptySlot key
  | _ => d

/-- One half of SETTINGS is migrated if its version, the lowest of its records, is below the running firmware's (R484); the events in order. Converting
a record leaves its values as they are: the spec gives no other conversion (DESIGN CHOICE, assumption 61). -/
def Dev.migrateHalf (secure : Bool) (e : List (Nat × Nat)) (d : Dev) : List (Nat × Nat) × Dev :=
  let h := d.firmware
  let mine (r : Nat × Nat) : Bool := decide (3 ≤ r.1 / 2 ^ 32) == secure
  let half := d.upd.records.filter mine
  match (half.map (·.2)).min? with
  | none => (e, d)
  | some old =>
    if h.settings ≤ old then (e, d)
    else
      let out := half.filter fun r => decide (r.2 < h.minSettings) || decide (h.settings < r.2)
      let d := out.foldl (fun d r => d.recordDropped r.1) d
      (e ++ out.map (fun r => (0x0026, r.1 / 2 ^ 32 * 65536 + r.1 % 65536)) ++ [(0x0025, setBit (old * 65536 + h.settings) 31 secure)],
       d.setUpd fun u => { u with records := u.records.map fun r => if mine r then (r.1, h.settings) else r })

/-- The mezzanine firmware migrates the secure half, D0 the normal half. -/
def Dev.migrateSettings (d : Dev) : List (Nat × Nat) × Dev :=
  let x := d.migrateHalf true []
  x.2.migrateHalf false x.1

/-- Rows of R477, R481 and R482. -/
def execStagingArm (s : State) := onDev s stagingArmOp
def execStagingDiscard (s : State) := onDev s stagingDiscardOp
def execImageConfirm (s : State) := onDev s imageConfirmOp
def execRetryActive (s : State) := onDev s retryActiveOp

end Sys2Proof.Machine
end

