-- ==== Sys2Proof/Machine/Restart.lean ====
section
/-! DEFINITION. What a cold and a chip reset leave (Table 19.6, R82, R480), the values a start restores (R83), and the roll-forward of an online change
(R269). -/

namespace Sys2Proof.Machine

/-- Entries that a cold or chip reset leaves alone although no table marks them "kept in SETTINGS": fuses, what the NAND holds, the state of an
update, and on a chip reset the false-wake state and the watch list (Table 19.6, R203). -/
def keptByNature (cold : Bool) (i s : Nat) : Bool :=
  match i with
  | 0x2400 => s == 1 || s == 8 || s == 0xA
  | 0x4800 => decide (1 ≤ s) && decide (s ≤ 8)
  | 0x4802 => decide (1 ≤ s) && decide (s ≤ 3)
  | 0x4803 => s == 1 || s == 2
  | 0x4A00 => [1, 3, 4, 5, 6, 8, 0xA, 0xB, 0xC].contains s
  | 0x3C40 => !cold
  | _ => !cold && decide (0x3C50 ≤ i) && decide (i < 0x3C62) && decide (0x10 ≤ s) && decide (s ≤ 0x12)

def keptEntry (cold : Bool) (k : Nat) : Bool :=
  keptByNature cold (k / 256) (k % 256) || (rowOf (k / 256) (k % 256)).any fun r => r.notes.contains .keptInSettings

/-- Strings and domains that a reset leaves: the staging image, the active scan image, on a chip reset the wake-source record. -/
def keptBlob (cold : Bool) (k : Nat) : Bool :=
  k == Ent.Stg.STAGING.key || k == Ent.Seimg.ACTIVE_IMAGE.key || (!cold && k == Ent.Slp.WAKE_RECORD.key)

/-- The saturation bits of the counters that are kept at all ones. -/
def Dev.keptSat (d : Dev) : Dev :=
  d.dict.foldl (fun d e =>
    if e.2 = 2 ^ 64 - 1 then
      match counterSat (e.1 / 256) (e.1 % 256) with
      | some (s, b) => d.putBit s b true
      | none => d
    else d) d

/-- The image that the next start loads, and the result of a change that it completes (R269, R277). -/
def Dev.rolledForward (d : Dev) : Bytes × Option Bytes :=
  match d.scan.change with
  | none => (d.image, none)
  | some c =>
    if d.get Ent.Chg.CHANGE_STATE = 4 then
      if d.scan.records.head?.any (·.imageId == imgId c.image) then (c.image, some (d.changeResult c .ok true)) else (c.old.getD d.image, none)
    else (d.image, none)

/-- What Table 19.6 keeps of a device in cold or chip reset, everything else at its reset value. DRAM keeps its contents only through STANDBY. -/
def Dev.cleared (d : Dev) (cold dram : Bool) : Dev :=
  { Dev.off with
    dict := KV.keep (fun k _ => keptEntry cold k) d.dict
    blobs := KV.keep (fun k _ => keptBlob cold k) d.blobs
    mem := if dram then KV.keep (fun a _ => decide (0x100000000 ≤ a)) d.mem else []
    free := d.free
    out := d.out
    logs := { Dev.off.logs with events := d.logs.events }
    d0 := { Dev.off.d0 with marks := d.d0.marks, stored := d.d0.stored, storedBlobs := d.d0.storedBlobs }
    sleep := { Dev.off.sleep with quarantine := if cold then [] else d.sleep.quarantine }
    power := { Dev.off.power with phase := d.power.phase }
    load := { Dev.off.load with safeLine := d.load.safeLine }
    scan := { Dev.off.scan with records := d.scan.records }
    mezz := { Dev.off.mezz with sealed := d.mezz.sealed, inhibited := d.mezz.inhibited }
    sto := { Dev.off.sto with sectors := d.sto.sectors, bad := d.sto.bad }
    upd := d.upd
    board := d.board }

/-- The device in cold or chip reset: what is kept, after a change that was under way has gone back or forward (R269, R277). -/
def Dev.afterReset (d : Dev) (cold dram : Bool) : Dev :=
  let img := d.rolledForward.1
  let result := d.rolledForward.2
  let d := if d.get Ent.Upd.STAGING_STATE = 1 then d.stoLost.stagingEmpty else d.stoLost
  let n := d.cleared cold dram
  let n := match result with | some b => n.putOct Ent.Chg.CHANGE_RESULT b | none => n
  let n := if img = [] then n else n.putOct Ent.Seimg.ACTIVE_IMAGE img
  let n := n.keptSat
  if cold then n.put Ent.Upd.FAILED_STARTS 0 else n

/-! ### Stored values -/

/-- The store class of an index (Table 3.11). -/
def storeClass (i : Nat) : Nat := if 0x1000 ≤ i ∧ i < 0x2000 then 2 else if 0x4000 ≤ i ∧ i < 0x5000 then 3 else 4

/-- A class that 0x1011 marked covers the entry. -/
def Dev.marked (d : Dev) (k : Nat) : Bool := d.d0.marks.contains 1 || d.d0.marks.contains (storeClass (k / 256))

/-- The stored values of marked classes are erased and the marks with them (R83). -/
def Dev.eraseMarked (d : Dev) : Dev :=
  let d := d.setUpd fun u => { u with records := KV.keep (fun r _ => r / 2 ^ 32 != 1 || !d.marked (r % 2 ^ 32 * 256)) u.records }
  d.setD0 fun u => { u with stored := KV.keep (fun k _ => !d.marked k) u.stored, storedBlobs := KV.keep (fun k _ => !d.marked k) u.storedBlobs, marks := [] }

/-- Every persistent entry takes its stored value; the others are at their default already (R82). The watch list that a chip reset leaves in the vestibule
stands (R203). -/
def Dev.restoreStored (d : Dev) (cold : Bool) : Dev :=
  let d := d.eraseMarked
  { d with dict := d.d0.stored.foldl (fun m e => if !cold && e.1 / 256 == 0x3C40 then m else KV.insert e.1 e.2 m) d.dict, blobs := d.d0.storedBlobs.foldl (fun m e => KV.insert e.1 e.2 m) d.blobs }

/-- A warm reset gives the entries of marked classes their defaults (R82). -/
def Dev.defaultMarked (d : Dev) : Dev :=
  (d.defaulted d.marked).eraseMarked

end Sys2Proof.Machine
end

