-- ==== Sys2Proof/Machine/TwinLink.lean ====
section
/-! DEFINITION. The gallery link: lanes, posted messages, heartbeats and beacons, the discrete lines (R489, R490, R493 to R496, R505). -/

namespace Sys2Proof.Machine

/-! ### Discrete lines -/

/-- The pair operates: TWIN_EN is 1. -/
def Dev.twinOn (d : Dev) : Bool := d.flag Ent.Twc.TWIN_EN

/-- TWIN_ALIVE_OUT toggles while TWIN_EN is 1 and FAULT_N is high (R489). -/
def twinAliveToggleOp (d : Dev) : Dev :=
  if d.twinOn ∧ !d.twin.low then (d.setTwin fun t => { t with alive := !t.alive }).emit (.line "TWIN_ALIVE_OUT" 0 (!d.twin.alive)) else d

/-- A write of LIVE_KICK ends the liveness cause (Table 22.2). -/
def liveKickOp (d : Dev) : Dev := ((d.setTwin fun t => { t with live := false, kickAt := d.time.raw }).faultRefresh).answer .ok

/-- LIVE_MS passes without a kick; LIVE_MS 0 checks nothing. Without a kick it counts from the start or from the APPLY that sets it (DEDUCED). -/
def livenessTimeoutOp (d : Dev) : Dev :=
  if d.get Ent.Twc.LIVE_MS = 0 ∨ !d.aged d.twin.kickAt (d.get Ent.Twc.LIVE_MS * 1000000) then d else (d.setTwin fun t => { t with live := true }).faultRefresh

/-- A WIRING_FAULT of Table 22.9. -/
def Dev.wiringFault (d : Dev) (v : Nat) : Dev := ((d.setPath 5 true).count (twinCounter 5)).twinEvent 0x0023 v

/-! ### Lanes (R492 to R495) -/

/-- The gallery key (R493). -/
def Dev.galleryKey (d : Dev) : Option Bytes := d.hmacKey (d.get Ent.Twc.GAL_KEY_SLOT)

/-- HELLO of Table 22.4, every 1 ms until the lane is authenticated. The first one after block lock draws the nonce. -/
def galleryHelloSendOp (n : Nat) (d : Dev) : Dev :=
  match d.galleryKey with
  | none => d
  | some key =>
    if 2 ≤ n ∨ (d.lane n).up ∨ d.get (Ent.Port.STATE (52 + n)) ≠ 1 ∨ d.get Ent.Pwr.PF_STATE ≠ 0 then d
    else
      let d := if (d.lane n).nonce = [] then
          let (v, d) := d.draw 128
          d.setLane n fun l => { l with nonce := le 16 v.toNat }
        else d
      d.laneHello n key ((d.lane n).nonce ++ be 6 d.board.deviceMac ++ le 2 d.board.nodeId ++ le 2 (d.get Ent.Upd.TWIN_COMPAT) ++ zeros 6)

/-- The CRC of a gallery frame holds. -/
def wireOk (w : Bytes) : Bool := decide (36 ≤ w.length) && leAt w (w.length - 4) 4 == crc32 (w.take (w.length - 4))

/-- The frame has the length that its header states. -/
def wireFits (w : Bytes) : Bool := w.length == leAt w 2 2 + 36

/-- A frame that its tag or SEQ condemns (R494). -/
def Dev.galleryAuthFail (d : Dev) : Dev := d.count (twinCounter 3)

/-- The lane key (R493). With equal positions the manual gives no order of the nonces, so the key is a free value. -/
def Dev.laneKey (d : Dev) (key mine theirs : Bytes) (pos : Nat) : Bytes × Dev :=
  let own := d.get Ent.Tws.POSITION
  if own = pos then
    let (v, d) := d.draw 256
    (le 32 v.toNat, d)
  else (hmacSha256 key ([0x4E#8, 0x47#8, 0x53#8, 0x4B#8] ++ (if own = 0 then mine ++ theirs else theirs ++ mine)), d)

/-- A frame arrives as HELLO: its tag is the gallery key's, and the lane key follows. -/
def galleryHelloReceiveOp (n : Nat) (w : Bytes) (d : Dev) : Dev :=
  if 2 ≤ n then d
  else if !wireOk w then d.laneCrcBad n w
  else if leAt w 0 1 ≠ 1 then d
  else match d.galleryKey with
  | none => d.galleryAuthFail
  | some key =>
    let body := w.take (w.length - 20)
    if !wireFits w ∨ leAt w 2 2 ≠ 32 ∨ leAt w 1 1 % 2 ≠ n ∨ slice w (w.length - 20) 16 ≠ (hmacSha256 key body).take 16 then d.galleryAuthFail
    else if (d.lane n).up ∨ (d.lane n).nonce = [] then d
    else
      let pos := leAt w 1 1 / 2 % 2
      let (k, d) := d.laneKey key (d.lane n).nonce (slice w 16 16) pos
      (d.setLane n fun l => { l with key := some k, pos }).setTwin fun t => { t with peerMac := ofBe (slice w 32 6) }

/-- The tags at the front of a frame's rest. -/
def frameTags : Nat → Bytes → List Tag × Bytes
  | 0, b => ([], b)
  | n + 1, b =>
    let ty := ofBe (slice b 0 2)
    let v := ofBe (slice b 2 2)
    if ty = 0x8100 ∨ ty = 0x88A8 then
      let r := frameTags n (b.drop 4)
      (⟨ty, v / 8192, bit v 12, v % 4096⟩ :: r.1, r.2)
    else ([], b)

/-- An Ethernet frame from its bytes, without FCS. -/
def frameOf (b : Bytes) : Frame :=
  let (tags, r) := frameTags 8 (b.drop 12)
  let red := ofBe (slice r 0 2) = 0xF1C1
  let r' := if red then r.drop 6 else r
  ⟨ofBe (slice b 0 6), ofBe (slice b 6 6), tags, if red then some (ofBe (slice r 4 2)) else none, ofBe (slice r' 0 2), r'.drop 2⟩

/-- Posted control messages (Table 22.6). -/
def postedMsg (m : Nat) : Bool := [4, 5, 7, 8, 9, 0x0D, 0x0E].contains m

/-- A posted message has arrived: what the next ACK reports (R225, R496). -/
def Dev.postedSeen (d : Dev) (q : Nat) : Dev :=
  d.setTwin fun t =>
    let k := match t.rxSeq with
      | some p => (q + 2 ^ 32 - p) % 2 ^ 32
      | none => 64
    { t with rxSeq := some q, rxFail := if 64 ≤ k then 0 else t.rxFail * 2 ^ k % 2 ^ 64, rxOpen := t.rxOpen + 1 }

/-- A posted message could not be performed. -/
def Dev.postedBad (d : Dev) (q : Nat) : Dev :=
  match d.twin.rxSeq with
  | none => d
  | some p =>
    let k := (p + 2 ^ 32 - q) % 2 ^ 32
    if k < 64 then d.setTwin fun t => { t with rxFail := setBit t.rxFail k true } else d

/-- A DATA frame is accepted by tag and SEQ, or dropped (R494). An accepted one authenticates the lane; its Ethernet frame goes on to the port, and
a posted control message in it is noted for the ACK. -/
def galleryDataReceiveOp (n : Nat) (w : Bytes) (d : Dev) : Dev :=
  if 2 ≤ n then d
  else if !wireOk w then d.laneCrcBad n w
  else if leAt w 0 1 ≠ 2 then d
  else
    let l := d.lane n
    let fl := leAt w 1 1
    let seq := leAt w 8 8
    match (if wireFits w ∧ fl = laneFlags n l.pos ∧ before64 l.rx seq then
        l.key.bind fun k => gcmOpen k (laneNonce fl seq) (w.take 16) (slice w 16 (leAt w 2 2)) (slice w (w.length - 20) 16) else none) with
    | none => d.galleryAuthFail
    | some b =>
      let f := frameOf b
      let d := ((d.setLane n fun l => { l with rx := seq }).laneUp n).emit (.deliver "gallery" (52 + n) f)
      if f.etype = d.get Ent.Fwd.NAVOS_ETYPE ∧ leAt f.payload 0 1 = 2 ∧ f.dst = d.board.deviceMac ∧ postedMsg (leAt f.payload 1 1) then
        let d := d.postedSeen (leAt f.payload 8 4)
        if leAt f.payload 1 1 = 0x0E then d.migEndSeen (slice f.payload 12 (leAt f.payload 6 2)) else d
      else d

/-! ### Heartbeats and beacons -/

/-- FLAGS of HEARTBEAT and BEACON (Table 22.6). -/
def Dev.twinFlags (d : Dev) : Nat := b2n d.twin.low + 2 * b2n (d.path 1) + 4 * b2n (d.path 2)

/-- HEARTBEAT leaves on each lane that is up, and on a lane whose key is known, so that the partner gets its first DATA frame (R493). -/
def Dev.heartbeats (d : Dev) : Dev :=
  let q := (d.twin.hbSeq + 1) % 2 ^ 32
  let body := le 1 d.role ++ le 1 d.twinFlags ++ le 1 d.engine ++ le 1 (d.get Ent.Chg.CHANGE_STATE) ++ le 4 (d.get Ent.Se.ACTIVE_ID) ++
    le 4 (d.get Ent.Frc.FORCE_GEN) ++ le 4 q
  let d := d.setTwin fun t => { t with hbSeq := q }
  (List.range 2).foldl (fun d n => if (d.lane n).key.isSome then d.ctrlOn n 1 0 body else d) d

def heartbeatSendOp (d : Dev) : Dev := if d.twinOn then d.heartbeats else d

/-- The VLAN of frames that the device sends unasked: MGMT_VLAN, or VID 1 where it is 0 (DESIGN CHOICE, assumption 61). -/
def Dev.mgmtVid (d : Dev) : Nat := if d.get Ent.Ndp.MGMT_VLAN = 0 then 1 else d.get Ent.Ndp.MGMT_VLAN

/-- BEACON to BLOCK_MAC from DEVICE_MAC, in class TCM, on no gallery port (R505). -/
def beaconSendOp (d : Dev) : Dev :=
  let mac := ofBe (d.oct Ent.Twc.BLOCK_MAC)
  if d.twinOn ∧ mac ≠ 0 then
    let b := d.ctrlBytes 0x0F 0 (le 1 d.role ++ le 1 d.twinFlags ++ le 2 (d.get Ent.Twc.PEER_NODE))
    (d.emit (.send "beacon" 0 mac b)).sendSwitched d.mgmtVid (deviceFrame mac d.board.deviceMac 0 0 (d.get Ent.Fwd.NAVOS_ETYPE) b) 52
  else d

/-- A block controller keeps the last beacon of each node (R505). -/
def beaconReceiveOp (node role epoch : Nat) (d : Dev) : Dev :=
  if d.get Ent.Twc.BLOCK_ROLE = 1 ∧ node < 4096 then
    d.setTwin fun t => { t with nodes := KV.insert node ⟨epoch % 65536, role % 256, d.time.raw⟩ t.nodes }
  else d

/-! ### Attach, as far as posted messages end it -/

/-- CMD completes with its outcome. -/
def Dev.twinDone (d : Dev) (s : Status) : Dev := (d.put Ent.Tws.CMD_STATUS s.code).finish Ent.Tws.CMD.key s

/-- The event ATTACH with a status code and the partner's node. -/
def Dev.attachEvent (d : Dev) (code : Nat) : Dev := d.twinEvent 0x0025 (code % 65536 * 65536 + d.get Ent.Twc.PEER_NODE)

/-- An attach ends without success: the joiner returns to DETACHED, the active tells it with ATTACH_RSP and becomes SOLO again (R500). The event keeps
`code`, which is the partner's own where it refused (R34). -/
def Dev.attachEnds (d : Dev) (s : Status) (code : Nat) : Dev :=
  match d.twin.attach with
  | none => d
  | some a =>
    let d := (d.setTwin fun t => { t with attach := none }).attachEvent code
    if a.step ≤ 2 then
      let d := if d.role = 4 then (d.setTwin fun t => { t with refused := true, refusedAt := d.time.raw }).setRole 5 else d
      if a.byCmd then d.twinDone s else d
    else
      let d := d.ctrl 0x03 (le 2 s.code ++ zeros 2 ++ le 4 (d.get Ent.Se.ACTIVE_ID))
      if d.role = 1 then d.setRole 0 else d

def Dev.attachEnd (d : Dev) (s : Status) : Dev := d.attachEnds s s.code

/-! ### Posted messages (R496) -/

/-- A posted message failed; one of the attach ends the attach with it (R500). -/
def Dev.postFailed (d : Dev) (p : GPost) (s : Status) : Dev := if p.attach then (d.postLost p s).attachEnd s else d.postLost p s

/-- An ACK settles the posted messages it covers, as R225 states for bridges. -/
def galleryAckReceiveOp (q map : Nat) (d : Dev) : Dev :=
  let age (p : GPost) : Nat := (q + 2 ^ 32 - p.seq) % 2 ^ 32
  let l := d.twin.posts.filter fun p => decide (age p < 2 ^ 31)
  let d := d.setTwin fun t => { t with posts := t.posts.filter fun p => !decide (age p < 2 ^ 31) }
  l.foldl (fun d p => if 64 ≤ age p then d.postFailed p .remoteTimeout else if bit map (age p) then d.postFailed p .remoteFailed else d) d

/-- An ACK leaves after 16 posted messages, or 50 µs after one that none covers. -/
def galleryAckSendOp (d : Dev) : Dev :=
  match d.twin.rxSeq with
  | none => d
  | some q => if d.twin.rxOpen = 0 then d else (d.ctrl 0x0A (le 4 q ++ le 8 d.twin.rxFail)).setTwin fun t => { t with rxOpen := 0 }

/-- GAL_TIMEOUT_US passes for the oldest posted message. -/
def galleryOutcomeTimeoutOp (d : Dev) : Dev :=
  match d.twin.posts with
  | [] => d
  | p :: r => if d.aged p.sent (d.get Ent.Twc.GAL_TIMEOUT_US * 1000) then (d.setTwin fun t => { t with posts := r }).postFailed p .remoteTimeout else d

/-! ### Meanings -/

def execTwinAliveToggle (s : State) := onDev s twinAliveToggleOp
def execLiveKick (s : State) := onDev s liveKickOp
def execLivenessTimeout (s : State) := onDev s livenessTimeoutOp
def execGalleryHelloSend (n : Nat) (s : State) := onDev s (galleryHelloSendOp n)
def execGalleryHelloReceive (n : Nat) (w : Bytes) (s : State) := onDev s (galleryHelloReceiveOp n w)
def execGalleryDataReceive (n : Nat) (w : Bytes) (s : State) := onDev s (galleryDataReceiveOp n w)
def execHeartbeatSend (s : State) := onDev s heartbeatSendOp
def execBeaconSend (s : State) := onDev s beaconSendOp
def execBeaconReceive (node role epoch : Nat) (s : State) := onDev s (beaconReceiveOp node role epoch)
def execGalleryAckReceive (q map : Nat) (s : State) := onDev s (galleryAckReceiveOp q map)
def execGalleryAckSend (s : State) := onDev s galleryAckSendOp
def execGalleryOutcomeTimeout (s : State) := onDev s galleryOutcomeTimeoutOp

end Sys2Proof.Machine
end

