-- ==== Sys2Proof/Machine/Twin.lean ====
section
/-! DEFINITION. Twin roles: attach, replication, promotion, handover, detach (R498 to R502, R504 to R506, R509 to R511). -/

namespace Sys2Proof.Machine

/-! ### Taking and leaving roles -/

/-- A handover in progress ends without success; the device whose CMD asked for it answers. -/
def Dev.handEnd (d : Dev) (s : Status) : Dev :=
  match d.twin.hand with
  | none => d
  | some h =>
    let d := d.setTwin fun t => { t with hand := none }
    if h.step ≤ 3 then d.twinDone s else d

/-- The device takes SOLO; AUTOSTART then acts (R498, R236). -/
def Dev.takeSolo (d : Dev) : Dev :=
  let d := d.setRole 0
  if d.flag Ent.Se.AUTOSTART ∧ d.engine = 1 then d.startEngine else d

/-- An ACTIVE device without its partner becomes SOLO (Table 22.9). -/
def Dev.toSolo (d : Dev) : Dev := (d.handEnd .aborted).setRole 0

/-- Roles that promotion conditions act on (Table 22.9). -/
def Dev.spare (d : Dev) : Bool := d.role == 2 || d.role == 3 || d.role == 5

/-- The device decides to promote, for the cause of PROMOTED; a handover ends with ABORTED (R509). -/
def Dev.decideOn (d : Dev) (cause : Nat) : Dev :=
  if d.twin.promote.isSome then d
  else
    let d := if cause = 3 then d else d.handEnd .aborted
    d.setTwin fun t => { t with promote := some (cause, false), query := false, fell := none }

/-- The partner drives, by its heartbeats over a link that is up. -/
def Dev.peerDrives (d : Dev) : Bool := d.path 0 && d.upLane.isSome && decide (d.get Ent.Tws.PEER_ROLE ≤ 1)

/-! ### Attach (R499, R500) -/

/-- CONFIG_DIGEST (R500). -/
def Dev.configDigest (d : Dev) : Bytes :=
  sha256 ((persistentIn 0x3700 0x371F ++ persistentIn 0x4000 0x4017 ++ persistentIn 0x4400 0x45FF).flatMap d.storedBytes)

/-- ATTACH_REQ goes to the partner, and the device enters JOINING. -/
def Dev.attachRequest (d : Dev) (byCmd : Bool) : Dev :=
  let d := d.ctrl 0x02 (le 2 (d.get Ent.Upd.TWIN_COMPAT) ++ le 1 (d.get Ent.Tws.POSITION) ++ zeros 1 ++ le 4 (d.get Ent.Se.ACTIVE_ID) ++ d.configDigest)
  (d.setTwin fun t => { t with attach := some ⟨1, d.time.raw, [], [], byCmd⟩, refused := false }).setRole 4

/-- The checks of Table 22.8. What the partner's PEER_NODE names is not in ATTACH_REQ: each side checks its own (DEDUCED, assumption 53). -/
def Dev.attachCheck (d : Dev) (node compat pos : Nat) (digest : Bytes) : Status :=
  if 1 < d.role ∨ d.engine ≠ 2 ∨ d.get Ent.Chg.CHANGE_STATE ≠ 0 ∨ d.tenants.mig.isSome then .wrongState
  else if compat ≠ d.get Ent.Upd.TWIN_COMPAT ∨ pos = d.get Ent.Tws.POSITION ∨ node ≠ d.get Ent.Twc.PEER_NODE ∨ digest ≠ d.configDigest then .conflict
  else .ok

/-- STATE messages of a kind. -/
def Dev.sendState (d : Dev) (kind : Nat) (b : Bytes) : Dev :=
  (pieces (b.length / 8192 + 1) 0 b).foldl (fun d p => d.post 0 0x04 (le 1 kind ++ le 1 (b2n p.2.2) ++ zeros 2 ++ le 4 p.1 ++ p.2.1) true) d

def attachReqReceiveOp (node compat pos activeId : Nat) (digest : Bytes) (d : Dev) : Dev :=
  let s := d.attachCheck node compat pos digest
  let d := d.ctrl 0x03 (le 2 s.code ++ zeros 2 ++ le 4 (d.get Ent.Se.ACTIVE_ID))
  if s ≠ .ok then d.attachEvent s.code
  else
    let d := d.setTwin fun t => { t with attach := some ⟨3, d.time.raw, [], [], false⟩ }
    if activeId ≠ d.get Ent.Se.ACTIVE_ID then d.sendState 1 d.image else d

/-- A refusal ends the joiner's attach, here as REMOTE_FAILED (R34); OK lets it receive. -/
def attachRspReceiveOp (node status : Nat) (d : Dev) : Dev :=
  match d.twin.attach with
  | none => d
  | some a =>
    if 2 < a.step then d
    else if status = 0 then
      if node ≠ d.get Ent.Twc.PEER_NODE then d.attachEnd .conflict else d.setTwin fun t => { t with attach := some { a with step := 2 } }
    else d.attachEnds .remoteFailed status

/-- A slot in the snapshot. -/
def Dev.slotSnap (d : Dev) (r : StnRec) : Bytes :=
  let x := d.slot r.slot
  le 1 (d.get (Ent.Stn.STATE r.slot)) ++ le 1 (b2n x.got) ++ slice x.data 0 r.inLen ++ le 2 x.pdo.length ++ x.pdo.flatMap fun c => le 4 c.1 ++ le 1 c.2

/-- SEQ_GEN streams with their next numbers. -/
def Dev.streamSnap (d : Dev) : Bytes :=
  let l := (List.range 2048).filter fun s => streamValid (d.streamRec s) && streamFlag (d.streamRec s) 4
  le 2 l.length ++ l.flatMap fun s => le 2 s ++ le 2 (d.sw.stream s).next

/-- The snapshot of step 3 of R500. The manual lists what it holds and not its layout: the first instant, data TCMs, output image, retentive area,
forces, slots, tasks, streams (DESIGN CHOICE, assumption 53). -/
def Dev.twinSnapshot (d : Dev) : Bytes :=
  le 8 d.nextInstant ++ ((imgExecs d.image).flatMap fun x => d.readMem (tcmBase (execLead x) + 0x10000) 0x10000) ++ d.readMem 0x03010000 0x10000 ++
  d.readMem 0x03020000 0x40000 ++ le 4 (d.get Ent.Frc.FORCE_GEN) ++ le 4 d.scan.forces.length ++ d.forceTable ++
  ((imgStations d.image).flatMap d.slotSnap) ++
  ((imgTasks d.image).flatMap fun r => le 4 (d.run r.task).cycle ++ le 1 (b2n (d.run r.task).pending.isSome) ++ le 8 ((d.run r.task).pending.getD 0)) ++
  d.streamSnap

/-- A common boundary for an attach or a handover: R264 with M of 50 µs, for the executors and the snapshot bytes. -/
def Dev.twinBoundary (d : Dev) : Bool :=
  d.quiet && d.clearFor (switchEst (imgExecs d.image).length d.twinSnapshot.length + 50000)

/-- At the boundary the snapshot leaves, and the device becomes ACTIVE and replicates. -/
def attachSnapshotOp (d : Dev) : Dev :=
  match d.twin.attach with
  | none => d
  | some a =>
    if a.step ≠ 3 ∨ !d.twinBoundary then d
    else
      let d := d.sendState 2 d.twinSnapshot
      (d.setTwin fun t => { t with attach := some { a with step := 5 }, sent := d.retainCells }).setRole 1

/-- Force records of a table (Table 11.4). -/
def forceRecords (n : Nat) (b : Bytes) : List (Nat × Nat × Bytes) :=
  (List.range n).map fun i => (leAt b (72 * i) 4, leAt b (72 * i + 4) 2, slice b (72 * i + 8) (leAt b (72 * i + 6) 2))

/-- The force table becomes the active's. -/
def Dev.takeForces (d : Dev) (gen n : Nat) (b : Bytes) : Dev :=
  let d := d.setScan fun s => { s with forces := (forceRecords n b).foldl (fun kv r => KV.insert r.1 r.2 kv) [] }
  (d.put Ent.Frc.FORCE_COUNT d.scan.forces.length).put Ent.Frc.FORCE_GEN gen

/-- Stream numbers of the active (R136). -/
def Dev.takeStreams (d : Dev) (n : Nat) (b : Bytes) : Dev :=
  (List.range n).foldl (fun d i => d.setStream (leAt b (4 * i) 2) fun x => { x with next := leAt b (4 * i + 2) 2 }) d

/-- Slots of the snapshot; the rest of the bytes. -/
def Dev.takeSlots (d : Dev) (b : Bytes) : List StnRec → Bytes × Dev
  | [] => (b, d)
  | r :: l =>
    let n := leAt b (2 + r.inLen) 2
    let c := (List.range n).foldl (fun kv i => KV.insert (leAt b (4 + r.inLen + 5 * i) 4) (leAt b (8 + r.inLen + 5 * i) 1) kv) []
    let d := (d.put (Ent.Stn.STATE r.slot) (leAt b 0 1)).setSlot r.slot fun x => { x with got := leAt b 1 1 == 1, data := slice b 2 r.inLen, pdo := c }
    d.takeSlots (b.drop (4 + r.inLen + 5 * n)) l

/-- The joiner loads the snapshot: it runs from the instant that the snapshot precedes. -/
def Dev.takeSnapshot (d : Dev) (b : Bytes) : Dev :=
  let inst := leAt b 0 8
  let xs := imgExecs d.image
  let d := d.abandonTasks
  let (b, d) := xs.foldl (fun s x => (s.1.drop 0x10000, s.2.writeTcm x 0 (s.1.take 0x10000))) (b.drop 8, d)
  let d := (d.writeMem 0x03010000 (b.take 0x10000)).writeMem 0x03020000 (slice b 0x10000 0x40000)
  let n := leAt b 0x50004 4
  let d := d.takeForces (leAt b 0x50000 4) n (b.drop 0x50008)
  let (b, d) := d.takeSlots (b.drop (0x50008 + 72 * n)) (imgStations d.image)
  let ts := imgTasks d.image
  let d := d.setScan fun s => { s with runs := [] }
  let d := (List.range ts.length).foldl (fun d i =>
    match ts[i]? with
    | none => d
    | some r => (d.setRun r.task fun x =>
        { x with cycle := leAt b (13 * i) 4, fresh := leAt b (13 * i) 4 == 0, pending := if leAt b (13 * i + 4) 1 = 1 then some (leAt b (13 * i + 5) 8) else none }).setTwinRun r.task fun x =>
        { x with last := inst - r.period * 1000 }) d
  let b := b.drop (13 * ts.length)
  let d := d.takeStreams (leAt b 0 2) (b.drop 2)
  ((imgCyclic d.image).foldl (fun d r => d.armTask r (r.instant inst)) d).setEngine 2

/-- The joiner receives STATE (R500): an image is loaded, a snapshot makes it STANDBY with the active's epoch. -/
def stateMessageReceiveOp (q kind epoch off : Nat) (last : Bool) (b : Bytes) (d : Dev) : Dev :=
  match d.twin.attach with
  | none => d.postedBad q
  | some a =>
    let have_ := if kind = 1 then a.image else a.snap
    if a.step ≠ 2 ∨ (kind ≠ 1 ∧ kind ≠ 2) ∨ off ≠ have_.length then d.postedBad q
    else
      let all := have_ ++ b
      let d := d.setTwin fun t => { t with attach := some (if kind = 1 then { a with image := all } else { a with snap := all }) }
      if !last then d
      else if kind = 1 then
        match imageFault d all (imgCores all) with
        | some (s, _, _) => (d.postedBad q).attachEnd s
        | none => (d.dropChange .aborted).abandonTasks.loadImage all
      else
        let d := (d.setTwin fun t => { t with attach := none, runs := [], lines := [] }).takeSnapshot all
        let d := ((d.put Ent.Tws.ROLE_EPOCH epoch).setRole 2).attachEvent 0
        if a.byCmd then d.twinDone .ok else d

/-- No boundary within the window of R270: the attach, or a handover that looks for one, ends with WRONG_STATE. -/
def attachWindowTimeoutOp (d : Dev) : Dev :=
  let d := match d.twin.attach with
    | some a => if a.step = 5 ∨ !d.aged a.since d.changeWindow then d else d.attachEnd .wrongState
    | none => d
  match d.twin.hand with
  | some h => if h.step = 0 ∧ d.aged h.instant d.changeWindow then d.handEnd .wrongState else d
  | none => d

/-- A second after a refusal, while AUTO_ATTACH is 1 (R499). -/
def attachRetryOp (d : Dev) : Dev :=
  if d.twinOn ∧ d.role = 5 ∧ d.twin.refused ∧ d.flag Ent.Twc.AUTO_ATTACH ∧ d.peerDrives ∧ d.aged d.twin.refusedAt 1000000000 then
    d.attachRequest false
  else d

def twinCmdAttachOp (d : Dev) : Dev :=
  if d.twinOn ∧ d.role = 5 ∧ d.peerDrives ∧ d.twin.promote = none then d.attachRequest true else d.twinDone .wrongState

/-! ### Detach (R502, R510) -/

/-- A standby, degraded standby or joiner leaves the pair; a CMD that waits completes with ABORTED. -/
def Dev.leavePair (d : Dev) : Dev :=
  let waits := d.twin.attach.any (·.byCmd)
  let d := (d.handEnd .aborted).detach
  if waits then d.twinDone .aborted else d

def twinCmdDetachOp (d : Dev) : Dev :=
  if d.role = 2 ∨ d.role = 3 ∨ d.role = 4 then d.leavePair.twinDone .ok
  else if d.role = 1 then
    let (v, d) := d.draw 16
    (((d.ctrl 0x10 (le 2 v.toNat)).setTwin fun t => { t with attach := none }).toSolo).twinDone .ok
  else d.twinDone .wrongState

def detachReceiveOp (d : Dev) : Dev :=
  if d.role = 2 ∨ d.role = 3 ∨ d.role = 4 then d.leavePair
  else if d.role = 1 then (d.setTwin fun t => { t with attach := none }).toSolo
  else d

/-! ### Replication on the standby (R501) -/

/-- The run of a task whose INPUTS is complete starts when the task is idle: the active's bytes, the standby's own quality bytes, forces. -/
def Dev.startReplica (d : Dev) (t : Nat) : Dev :=
  let x := d.twinRun t
  match imgTask d.image t with
  | none => d
  | some r =>
    if !x.full ∨ (d.run t).phase ≠ 0 ∨ d.role ≠ 2 ∨ !d.running then d
    else
      let maps := (imgIn d.image).filter fun m => m.task == t
      let stns := (imgStations d.image).filter fun s => s.task == t
      let d := d.setTwinRun t fun x => { x with full := false, data := [] }
      let d := d.setRun t fun y =>
        { y with phase := 1, origin := d.time.raw - (d.now - x.startNs), startNs := x.startNs, cycle := x.cycle, pending := none, skipped := false, fresh := false }
      let d := stns.foldl Dev.countLoss d
      let d := (maps.foldl (fun (s : Bytes × Dev) m => (s.1.drop m.len, s.2.writeMem (0x03000000 + m.img) (s.1.take m.len))) (x.data, d)).2
      let d := stns.foldl Dev.slotTaken (maps.foldl Dev.qualityIn d)
      (d.forceInputs r).makeReady r

def inputsReceiveOp (q t cycle startNs off : Nat) (last : Bool) (b : Bytes) (d : Dev) : Dev :=
  let x := if off = 0 then { d.twinRun t with data := [], full := false } else d.twinRun t
  if d.role ≠ 2 ∨ (imgTask d.image t).isNone ∨ off ≠ x.data.length ∨ (off ≠ 0 ∧ cycle ≠ x.cycle) then d.postedBad q
  else
    let d := d.setTwinRun t fun _ => { x with cycle, startNs, data := x.data ++ b, full := last, last := if last then startNs else x.last, late := if last then 0 else x.late }
    d.startReplica t

def outputCrcReceiveOp (t cycle crc : Nat) (d : Dev) : Dev :=
  if d.role = 2 then (d.setTwinRun t fun r => { r with peer := some (cycle, crc) }).compareCrc t else d

/-- RETAIN lines wait for the standby's own run; with every task idle that run is over. -/
def retainReceiveOp (q : Nat) (b : Bytes) (d : Dev) : Dev :=
  if d.role ≠ 2 then d.postedBad q
  else
    let d := (List.range (b.length / 68)).foldl (fun d i =>
      let l := leAt b (68 * i) 4
      if l < 4096 then d.setTwin fun t => { t with lines := KV.insert l (slice b (68 * i + 4) 64) t.lines } else d) d
    if d.allIdle then d.applyLines else d

def streamsReceiveOp (q : Nat) (b : Bytes) (d : Dev) : Dev := if d.role ≠ 2 then d.postedBad q else d.takeStreams (b.length / 4) b

def forcesReceiveOp (q gen : Nat) (b : Bytes) (d : Dev) : Dev := if d.role ≠ 2 then d.postedBad q else d.takeForces gen (b.length / 72) b

/-- An instant of a cyclic task on the standby: INPUTS of the instant before must be complete by now (R502). -/
def Dev.standbyInstant (d : Dev) (t at_ : Nat) : Dev :=
  match imgTask d.image t with
  | none => d
  | some r =>
    if d.role ≠ 2 ∨ d.upLane.isNone ∨ !d.running then d
    else if at_ ≤ (d.twinRun t).last + r.period * 1000 then d.setTwinRun t fun x => { x with late := 0 }
    else
      let d := (d.count (twinCounter 6)).setTwinRun t fun x => { x with late := x.late + 1 }
      if 3 ≤ (d.twinRun t).late then d.leavePair else d

/-! ### Handover (R509) -/

/-- The offer, at a common boundary. -/
def Dev.handoverSeek (d : Dev) : Dev :=
  match d.twin.hand with
  | none => d
  | some h =>
    if h.step ≠ 0 ∨ d.role ≠ 1 ∨ !d.twinBoundary then d
    else
      let i := d.nextInstant
      (d.ctrl 0x0B (le 1 1 ++ zeros 3 ++ le 8 i)).setTwin fun t => { t with hand := some ⟨1, i⟩ }

def twinCmdHandoverOp (d : Dev) : Dev :=
  if d.role = 1 ∧ d.get Ent.Tws.PEER_ROLE = 2 ∧ d.twin.hand = none then
    (d.setTwin fun t => { t with hand := some ⟨0, d.time.raw⟩ }).handoverSeek
  else d.twinDone .wrongState

/-- STEP 1 is accepted by a standby; an accept that comes before I − 50 µs makes the active send STEP 3 and become STANDBY; STEP 3 before I makes
the standby promote. -/
def handoverReceiveOp (step instant : Nat) (d : Dev) : Dev :=
  match step, d.twin.hand with
  | 1, _ =>
    if d.role = 2 then (d.ctrl 0x0B (le 1 2 ++ zeros 3 ++ le 8 instant)).setTwin fun t => { t with hand := some ⟨4, instant⟩ } else d
  | 2, some h =>
    if h.step ≠ 1 ∨ d.role ≠ 1 ∨ instant ≠ h.instant then d
    else if d.now + 50000 < instant then
      ((d.ctrl 0x0B (le 1 3 ++ zeros 3 ++ le 8 instant)).setTwin fun t => { t with hand := some ⟨3, instant⟩ }).setRole 2
    else d.handEnd .remoteTimeout
  | 3, some h =>
    if h.step ≠ 4 ∨ d.role ≠ 2 ∨ instant ≠ h.instant ∨ instant ≤ d.now then d
    else (d.setTwin fun t => { t with hand := none }).decideOn 3
  | _, _ => d

/-- No accept before I − 50 µs. -/
def handoverAcceptTimeoutOp (d : Dev) : Dev :=
  match d.twin.hand with
  | some h => if h.step = 1 ∧ h.instant ≤ d.now + 50000 then d.handEnd .remoteTimeout else d
  | none => d

/-- FIRST on the first output to each slot (R508). -/
def Dev.firstAgain (d : Dev) : Dev := (imgStations d.image).foldl (fun d r => d.setSlot r.slot fun x => { x with first := true }) d

/-- I + 1 ms, and the partner still shows STANDBY: the device resumes as ACTIVE with the next epoch. -/
def handoverTimeoutOp (d : Dev) : Dev :=
  match d.twin.hand with
  | some h =>
    if h.step = 3 ∧ d.get Ent.Tws.PEER_ROLE = 2 ∧ h.instant + 1000000 ≤ d.now then
      ((d.put Ent.Tws.ROLE_EPOCH (nextEpoch (d.get Ent.Tws.ROLE_EPOCH))).setRole 1).firstAgain.handEnd .remoteFailed
    else d
  | none => d

/-- A task's DONE; on a twin the next replicated run may then start, and a handover may find its boundary. -/
def taskEndOp (x t : Nat) (d : Dev) : Dev := ((taskDoneOp x t d).startReplica t).handoverSeek

/-! ### Promotion (R504 to R506) -/

/-- What the partner's heartbeats, lanes and lines tell are absent together: an ACTIVE device becomes SOLO; a spare one queries. -/
def Dev.bothAbsent (d : Dev) : Dev := if d.twinOn ∧ d.role = 1 then d.toSolo else d

/-- TWIN_ALIVE_IN shows no edge for 1 ms. -/
def twinAliveLostOp (d : Dev) : Dev :=
  if !d.path 1 ∨ !d.aged d.twin.edgeAt 1000000 then d
  else
    let d := d.setPath 1 false
    if !d.twinOn then d else if d.path 0 then d.wiringFault 1 else d.bothAbsent

/-- A path has returned: a query is abandoned, and a split path ends. -/
def Dev.pathBack (d : Dev) : Dev := (d.setTwin fun t => { t with query := false }).setPath 6 false

def twinAliveEdgeOp (d : Dev) : Dev :=
  let d := ((d.setTwin fun t => { t with edgeAt := d.time.raw }).setPath 1 true).pathBack
  if d.path 2 then d else d.setPath 5 false

/-- TWIN_FLT_N has been low for 10 µs. A running query is not waited for; a joiner discards what it has. -/
def twinFltLowOp (d : Dev) : Dev :=
  let d := d.setPath 2 true
  if !d.twinOn then d
  else
    let d := if d.role = 4 then d.attachEnd .remoteFailed else d
    if d.role = 1 then d.toSolo
    else if d.spare then d.setTwin fun t => { t with fell := some d.time.raw, query := false }
    else d

def twinFltHighOp (d : Dev) : Dev :=
  let d := (d.setPath 2 false).setTwin fun t => { t with fell := none }
  if d.path 1 then d.setPath 5 false else d

/-- 200 µs after the fall without a heartbeat. -/
def promoteWaitTimeoutOp (d : Dev) : Dev := if d.twinOn ∧ d.spare ∧ (d.twin.fell.any fun t => d.aged t 200000) then d.decideOn 1 else d

/-- A heartbeat received more than 10 µs after the fall decides (Table 22.9). -/
def Dev.beatAfterFall (d : Dev) (role flags : Nat) : Dev :=
  match d.twin.fell with
  | none => d
  | some t =>
    if !d.passed t 10001 then d
    else if 1 < role then d.decideOn 1
    else
      let d := d.setTwin fun x => { x with fell := none }
      if role = 1 ∧ !bit flags 0 then d.wiringFault 2 else d

/-- What a heartbeat means to a DETACHED device (R499). -/
def Dev.beatDetached (d : Dev) (n role : Nat) : Dev :=
  if d.twin.promote.isSome ∨ d.twin.fell.isSome then d
  else if role ≤ 1 then if d.flag Ent.Twc.AUTO_ATTACH ∧ !d.twin.refused ∧ d.upLane.isSome then d.attachRequest false else d
  else if role ≠ 5 then d
  else if (d.lane n).pos = d.get Ent.Tws.POSITION then
    if d.twin.refused then d else (d.setTwin fun t => { t with refused := true, refusedAt := d.time.raw }).attachEvent Status.conflict.code
  else if d.get Ent.Tws.POSITION = 0 then d.takeSolo
  else d

/-- What it means to a standby: a handover is complete once the partner drives; a change that the active has given up is discarded. -/
def Dev.beatStandby (d : Dev) (role change : Nat) : Dev :=
  let d := if role ≤ 1 ∧ d.twin.hand.any (·.step == 3) then (d.count (twinCounter 1)).handEnd .ok else d
  if change = 0 ∧ d.get Ent.Chg.CHANGE_STATE = 3 ∧ d.scan.change.any (fun c => c.commitAt.isNone) then d.dropChange .aborted else d

/-- What it means to the device's own role. -/
def Dev.beatRole (d : Dev) (n role change : Nat) (back : Bool) : Dev :=
  match d.role with
  | 5 => d.beatDetached n role
  | 3 => if back ∧ role ≤ 1 ∧ d.twin.promote = none then d.attachRequest false else d
  | 4 => if 1 < role then d.attachEnd .remoteFailed else d
  | 2 => d.beatStandby role change
  | 1 => if role = 2 ∧ d.twin.attach.any (·.step == 5) then (d.setTwin fun t => { t with attach := none }).attachEvent 0 else d
  | _ => d

/-- HEARTBEAT from the partner on a lane (R495, R499, R504). -/
def heartbeatReceiveOp (n epoch role flags state change activeId forceGen : Nat) (d : Dev) : Dev :=
  let back := !d.path 0
  let d := (((d.put Ent.Tws.PEER_ROLE role).put Ent.Tws.PEER_EPOCH epoch).setPath 0 true).pathBack
  let d := d.setTwin fun t => { t with beat := some ⟨flags, state, change, activeId, forceGen⟩, known := true, refused := t.refused && !back, beatAt := d.time.raw }
  if !d.twinOn then d
  else
    let d := if back ∧ !d.path 1 then d.wiringFault 1 else d
    (d.beatAfterFall role flags).beatRole n role change back

/-- No heartbeat for 1 ms: the partner's role is unknown, a migration ends (R390), and Table 22.9 decides. -/
def heartbeatLostOp (d : Dev) : Dev :=
  if !d.aged d.twin.beatAt 1000000 then d else
  let d := ((d.setPath 0 false).put Ent.Tws.PEER_ROLE 0xFF).setTwin fun t => { t with beat := none }
  let d := d.migLinkLost
  if !d.twinOn then d
  else
    let d := if d.role = 4 then d.attachEnd .remoteTimeout else d
    if d.path 1 then if d.role = 2 then d.setRole 3 else d
    else d.bothAbsent

/-- With both paths absent the device reads the partner's record through QUERY_CTX; 0xFFFF promotes without a query (R505). While it holds on a split
path it reads again every 500 µs. -/
def partnerQueryOp (d : Dev) : Dev :=
  if !d.twinOn ∨ !d.spare ∨ d.path 0 ∨ d.path 1 ∨ d.twin.promote.isSome ∨ d.twin.fell.isSome ∨ d.twin.query ∨
      (d.path 6 ∧ !d.aged d.twin.queryAt 500000) then d
  else
    let c := d.get Ent.Twc.QUERY_CTX
    if c = 0xFFFF then d.decideOn 2
    else
      let u := c / 64
      let k := c % 64
      let d := d.setTwin fun t => { t with query := true, queryAt := d.time.raw, answer := none }
      if d.get (Ent.Bctx.STATE c) ≠ 1 then d.queryDone .remoteFailed 0
      else d.queueReq u k ⟨d.request u k 6 (descriptor 0x4C40 1 (4 * d.get Ent.Twc.PEER_NODE) 0x0F 0), srcTwin, 0, d.epoch (.hall 0), 0, false, none⟩

/-- The query completes as the bridge has answered, with the record, or fails. SPLIT_PATH is written and counted once for each time both paths are absent (DESIGN CHOICE,
assumption 53). -/
def partnerQueryResultOp (ok : Bool) (v : Nat) (d : Dev) : Dev :=
  if !d.twin.query ∨ !(d.twin.answer.any fun a => a.1 == ok && (!ok || a.2 == v)) then d
  else
    let d := d.setTwin fun t => { t with query := false, answer := none }
    if !ok then if d.flag Ent.Twc.QUERY_FAIL_PROMOTE then d.decideOn 2 else d
    else if bits v 23 16 ≤ 1 ∧ bits v 31 24 ≤ 75 then
      let d := if d.role = 2 then d.setRole 3 else d
      if d.path 6 then d else ((d.setPath 6 true).count (twinCounter 4)).twinEvent 0x0024 v
    else d.decideOn 2

/-- Step 1 of Table 22.10: the epoch. A change that the standby has prepared without COMMIT is discarded (R276). -/
def promoteOp (d : Dev) : Dev :=
  match d.twin.promote with
  | some (c, false) =>
    let e := nextEpoch (if d.twin.known then d.get Ent.Tws.PEER_EPOCH else d.get Ent.Tws.ROLE_EPOCH)
    let d := (d.put Ent.Tws.ROLE_EPOCH e).setTwin fun t => { t with promote := some (c, true) }
    if d.scan.change.any fun c => c.commitAt.isNone then d.dropChange .aborted else d
  | _ => d

/-- Streams at a promotion (R136). -/
def Dev.streamsResume (d : Dev) : Dev :=
  (List.range 2048).foldl (fun d s =>
    let r := d.streamRec s
    if !streamValid r then d
    else
      let d := if streamFlag r 4 then d.setStream s fun x => { x with next := (x.next + leAt r 26 1 + 65535) % 65536 } else d
      if streamFlag r 5 then d.setStream s fun x => { x with recov := none } else d) d

/-- Step 3 of Table 22.10: the role, the streams, FIRST, PROMOTED; the runs under way are not published; a device that was DETACHED starts. -/
def promoteCompleteOp (d : Dev) : Dev :=
  match d.twin.promote with
  | some (c, true) =>
    let was := d.role
    let busy := (d.scan.runs.filter fun r => r.2.phase != 0).map (·.1)
    let d := d.setTwin fun t => { t with promote := none, hand := none, attach := none, runs := [], lines := [], muted := busy }
    let d := (((d.setRole (if c = 3 then 1 else 0)).safeReturns).streamsResume).firstAgain
    let d := (d.count (twinCounter 0)).twinEvent 0x0021 (d.get Ent.Tws.ROLE_EPOCH * 65536 + c)
    let d := if c = 3 then d.count (twinCounter 1) else d
    if was = 5 ∧ d.engine = 1 then d.startEngine else d
  | _ => d

/-! ### APPLY of 0x4C00 (R511) -/

def twcFault (x : Dev) : Option Nat :=
  let c := x.get Ent.Twc.QUERY_CTX
  if x.get Ent.Twc.PEER_NODE = x.board.nodeId then some 2
  else if x.galleryKey.isNone then some 3
  else if c ≠ 0xFFFF ∧ x.get (Ent.Bctx.HALL c) ≠ 0 then some 4
  else none

/-- Changes that the role refuses. -/
def twcWrong (d x : Dev) : Bool :=
  (d.role != 0 && d.role != 5) &&
    [Ent.Twc.TWIN_EN, Ent.Twc.PEER_NODE, Ent.Twc.GAL_KEY_SLOT, Ent.Twc.BLOCK_ROLE].any fun e => d.get e != x.get e

/-- TWIN_EN 0 makes the device SOLO (R498); LIVE_MS 0 ends the liveness cause, and a new LIVE_MS counts from here. -/
def Dev.twcApplied (d : Dev) (old : Dev) : Dev :=
  let d := if d.get Ent.Twc.LIVE_MS = 0 then (d.setTwin fun t => { t with live := false }).faultRefresh
    else if d.get Ent.Twc.LIVE_MS = old.get Ent.Twc.LIVE_MS then d else d.setTwin fun t => { t with kickAt := d.time.raw }
  if !d.twinOn ∧ d.role ≠ 0 then (d.setTwin fun t => { t with promote := none, query := false, fell := none }).takeSolo else d

/-! ### Meanings -/

def execTaskDone (x t : Nat) (s : State) := onDev s (taskEndOp x t)
def execTwinAliveLost (s : State) := onDev s twinAliveLostOp
def execTwinAliveEdge (s : State) := onDev s twinAliveEdgeOp
def execTwinFltLow (s : State) := onDev s twinFltLowOp
def execTwinFltHigh (s : State) := onDev s twinFltHighOp
def execPromoteWaitTimeout (s : State) := onDev s promoteWaitTimeoutOp
def execHeartbeatReceive (n epoch role flags state change activeId forceGen : Nat) (s : State) :=
  onDev s (heartbeatReceiveOp n epoch role flags state change activeId forceGen)
def execHeartbeatLost (s : State) := onDev s heartbeatLostOp
def execTwinCmdAttach (s : State) := onDev s twinCmdAttachOp
def execTwinCmdDetach (s : State) := onDev s twinCmdDetachOp
def execTwinCmdHandover (s : State) := onDev s twinCmdHandoverOp
def execAttachReqReceive (node compat pos activeId : Nat) (digest : Bytes) (s : State) := onDev s (attachReqReceiveOp node compat pos activeId digest)
def execAttachRspReceive (node status : Nat) (s : State) := onDev s (attachRspReceiveOp node status)
def execAttachSnapshot (s : State) := onDev s attachSnapshotOp
def execStateMessageReceive (q kind epoch off : Nat) (last : Bool) (b : Bytes) (s : State) := onDev s (stateMessageReceiveOp q kind epoch off last b)
def execAttachWindowTimeout (s : State) := onDev s attachWindowTimeoutOp
def execAttachRetry (s : State) := onDev s attachRetryOp
def execInputsReceive (q t cycle startNs off : Nat) (last : Bool) (b : Bytes) (s : State) := onDev s (inputsReceiveOp q t cycle startNs off last b)
def execOutputCrcReceive (t cycle crc : Nat) (s : State) := onDev s (outputCrcReceiveOp t cycle crc)
def execRetainReceive (q : Nat) (b : Bytes) (s : State) := onDev s (retainReceiveOp q b)
def execStreamsReceive (q : Nat) (b : Bytes) (s : State) := onDev s (streamsReceiveOp q b)
def execForcesReceive (q gen : Nat) (b : Bytes) (s : State) := onDev s (forcesReceiveOp q gen b)
def execDetachReceive (s : State) := onDev s detachReceiveOp
def execHandoverReceive (step instant : Nat) (s : State) := onDev s (handoverReceiveOp step instant)
def execHandoverTimeout (s : State) := onDev s handoverTimeoutOp
def execHandoverAcceptTimeout (s : State) := onDev s handoverAcceptTimeoutOp
def execPartnerQuery (s : State) := onDev s partnerQueryOp
def execPartnerQueryResult (ok : Bool) (v : Nat) (s : State) := onDev s (partnerQueryResultOp ok v)
def execPromote (s : State) := onDev s promoteOp
def execPromoteComplete (s : State) := onDev s promoteCompleteOp

end Sys2Proof.Machine
end

