-- ==== Sys2Proof/Machine/StartUp.lean ====
section
/-! DEFINITION. The start-up after a cold or chip reset (Table 19.8) as one step that takes no time, and the chip and cold resets (R441, R442, R446). -/

namespace Sys2Proof

/-- The record of Table 19.7. -/
def ResetCause.record (r : ResetCause) : Nat := r.kind * 2 ^ 24 + r.cause * 2 ^ 16 + r.detail

end Sys2Proof

namespace Sys2Proof.Machine

/-! ### The boot ROM (R447, R478 to R480) -/

/-- A start that ended before step 8. A reset by RESET_N does not leave FAILED_STARTS raised (R480). Its events reach no log: they wait for step 9,
which it does not reach (DESIGN CHOICE, assumption 61). -/
def Dev.bootFailed (d : Dev) (f : BootFail) : Dev :=
  let (whole, _, d) := d.bootCopy f.cut
  let n := d.get Ent.Upd.FAILED_STARTS
  let d := if whole then d.bootStart.2 else d
  let d := if f.reason.cause = 2 then d.put Ent.Upd.FAILED_STARTS n else d
  let d := if f.reason.cause = 3 then d.count ⟨Ent.Slog.SWDT_EXPIRIES, Ent.Slog.COUNTER_SAT, 0, srcMezz 2⟩ else d
  d.count (powerCounter 2)

/-- The start that goes on: its events, for their place in the log. -/
def Dev.bootRom (d : Dev) : List (Nat × Nat) × Dev :=
  let (_, a, d) := d.bootCopy none
  let (b, d) := d.bootStart
  (a ++ b, d)

/-! ### Supplies, clocks, straps, memory: steps 1 to 8 -/

/-- Supplies and clocks: every domain starts and its PLL locks; spread spectrum starts in mode 1 (R421). -/
def Dev.clocksStart (d : Dev) (env : BootEnv) : Dev :=
  let d := (d.put Ent.Pwr.VAUX_MV env.vauxMv).put Ent.Pwr.VIO_STATUS 0xF
  let d := (d.emit (.line "REGEN" 0 true)).emit (.line "DRAM_EN" 0 true)
  let xo := b2n (bit env.sources 0 && d.flag Ent.Clk.XO_EN)
  let refin := b2n (bit env.sources 1 && d.flag Ent.Clk.REFIN_EN)
  let d := d.put Ent.Clk.SRC_STATUS (4 + xo + 2 * refin)
  let d := d.setClk fun c => { c with since := ([(0, xo == 1), (1, refin == 1), (2, true)] : List (Nat × Bool)).filterMap fun x => if x.2 then some (x.1, 0) else none }
  let d := (List.range 4).foldl (fun d k => (d.domStarts k).setDom k fun x => { x with locked := true, word := true }) d
  let d := d.setTime fun t => { t with running := true }
  if d.get Ent.Clk.SSC_MODE = 0 then d else d.sscSet true

/-- The straps (R522, R523). -/
def Dev.strapsRead (d : Dev) (env : BootEnv) : Dev :=
  let v (i : Nat) : Bool := bit env.straps i && !bit env.unstable i
  let d := ((d.put Ent.Tws.POSITION (b2n (v 0))).put Ent.Lc.SELEXT (b2n (v 1)))
  d.put Ent.Mod.STRAPS (b2n (v 0) + 2 * b2n (v 1) + 4 * b2n (v 2) + 8 * b2n (env.unstable % 8 != 0))

/-- DATA of STRAP_FAULT. -/
def strapFault (env : BootEnv) : Nat := env.unstable % 8 + 8 * b2n (bit env.straps 2 && !bit env.unstable 2)

/-- DRAM is trained and sized, the stairwell placed (R349, R351). -/
def Dev.dramStart (d : Dev) (env : BootEnv) : Dev :=
  let size := if env.dramFault = 0 then d.board.dramMib else 0
  let d := d.put Ent.Mem.DRAM_SIZE_MIB size
  let d := if env.dramFault = 0 then d else d.eventSys 9 srcMemory 0x0025 env.dramFault
  let w := d.get Ent.Mem.STW_MIB
  let w' := if w ≤ size / 4 then w else size / 4 / 64 * 64
  let d := (d.put Ent.Mem.STW_MIB_ACTIVE w').put Ent.Stw.STW_SIZE (w' * 16384)
  if size / 4 < w ∧ size ≠ 0 then d.eventSys 9 srcMemory 0x0025 3 else d

/-- Sealed keys return to their slots (R403); in RETURNED there is no device key (R408). -/
def Dev.keysRestored (d : Dev) : Dev :=
  if d.mezz.inhibited then d
  else d.mezz.sealed.foldl (fun d x => ((d.putOct (Ent.Key.KEY x.1) x.2.2).put (Ent.Key.USAGE x.1) x.2.1).put (Ent.Key.LOADED x.1) 1) d

/-- What the mezzanine firmware does before step 8: keys, the three watermarks at their fixed values (R397), the watchdog, a new challenge. -/
def Dev.mezzStart (d : Dev) : Dev :=
  let out := d.out
  let d := d.keysRestored
  let d := watermarkWriteOp 2 5632 true (watermarkWriteOp 1 (if d.dramSize = 0 then 0 else 1024) true (watermarkWriteOp 0 16 true d))
  ((({ d with out := out } : Dev).newChallenge).setFld Rg.Swd.EN 1).swdtRestart

/-- The records that the reset's cause leaves: SWDT_EXPIRED (R413), VIO_FAULT (R456). -/
def Dev.causeEvents (d : Dev) (r : ResetCause) : Dev :=
  let d := if r.cause = 3 then d.eventBoth (srcMezz 2) 0x0028 r.data else d
  if r.cause = 4 ∧ r.detail = 3 then d.eventSys 6 (srcPower (5 + r.rail % 2)) 0x0023 r.data else d

/-! ### Steps 9 to 12 -/

/-- The device log opens with its records in the order of R37; what was held for another sink follows. -/
def Dev.logsOpen (d : Dev) (r : ResetCause) (wake : Bool) (strap : Nat) (boot : List (Nat × Nat)) : Dev :=
  let w := d.oct Ent.Slp.WAKE_RECORD
  let first := [d.ev (srcPower 0) 0x0008 (d.get Ent.Evlog.BOOT_COUNT), d.ev (srcPower 0) 0x0022 r.record] ++
    (if wake then [d.ev srcVestibule 0x0022 (leAt w 0 4) (some (slice w 4 12))] else []) ++
    (if strap = 0 then [] else [d.ev 0x4C00 0x0026 strap]) ++ boot.map fun e => d.ev srcUpdate e.1 e.2
  let d := if wake then (d.sysIrq 6 2).sysIrq 3 2 else d.sysIrq 6 2
  let held := d.logs.held
  let d : Dev := { d with logs := { d.logs with isOpen := true, held := [] } }
  let mine := held.filterMap fun x => if x.1 = .device then some x.2 else none
  let d := (first ++ mine).foldl Dev.logDevice d
  let d := (held.filter fun x => x.1 != .device).foldl (fun d x => d.logTo x.1 x.2) d
  boot.foldl (fun d e => if e.1 = 0x22 then d else d.eventRing 0 srcUpdate e.1 e.2) d

/-- A hall that a stored unit entry names is ABSENT. -/
def Dev.noHall (d : Dev) (h : Nat) : Bool := h != 0 && !d.hallExists h

/-- A table with a hall in byte `off` of every `stride` bytes. -/
def Dev.hallBytes (d : Dev) (off stride : Nat) (b : Bytes) : Bytes :=
  b.mapIdx fun i x => if i % stride = off ∧ d.noHall x.toNat then 0 else x

/-- Instances of ABSENT halls go to hall 0 (R375). -/
def Dev.hallsAbsent (d : Dev) : Dev :=
  let fix (e : Nat → Entry) (n : Nat) (d : Dev) : Dev := (List.range n).foldl (fun d i => if d.noHall (d.get (e i)) then d.put (e i) 0 else d) d
  let d := fix Ent.Bind.HALL 16 (fix Ent.Bctx.HALL 256 (fix Ent.Qp.HALL 256 (fix Ent.Dma.HALL 64 d)))
  let blob (e : Nat → Entry) (n off stride : Nat) (d : Dev) : Dev :=
    (List.range n).foldl (fun d i => if (KV.find (e i).key d.blobs).isSome then d.putOct (e i) (d.hallBytes off stride (d.oct (e i))) else d) d
  blob Ent.Bu.ENDPOINTS 4 4 8 (blob Ent.CanObj.TXB_HALL 16 0 1 (blob Ent.CanObj.OBJ_TABLE 16 4 8 d))

/-- Halls with AUTOCREATE are created (R375). -/
def Dev.hallsStart (d : Dev) : Dev :=
  ((List.range 255).foldl (fun d h => if d.flag (Ent.Hall.AUTOCREATE (h + 1)) then (d.bumpEpoch (.hall (h + 1))).setHall (h + 1) 1 else d) d).hallsAbsent

/-- Every unit that has an ENABLE. -/
def allUnits : List UnitId :=
  (List.range 54).map .port ++ (List.range 54).flatMap (fun p => (List.range 9).map (.queue p)) ++ (List.range 16).map .can ++ (List.range 2).map .adc ++
    (List.range 4).flatMap (fun u => (List.range 64).map (.bridge u)) ++ (List.range 64).map .dma ++ (List.range 4).map .hostEngine ++
    (List.range 256).map .queuePair

/-- A unit takes its STATE from its ENABLE and starts. -/
def Dev.unitStarts (d : Dev) (x : UnitId) : Dev :=
  if d.get (unitEnableEntry x) = 0 then d.put (unitStateEntry x) 0 else (((d.put (unitStateEntry x) 1).unitEnabled x).unitDomains x)

/-- What follows stored values elsewhere: the shared pool, schedules, retry budgets, lockstep pairs, after a cold reset the filter times (R209). -/
def Dev.settingsInForce (d : Dev) (cold : Bool) : Dev :=
  let d := (List.range 48).foldl Dev.gclApplied d.sharedSizeSet.ptpRoles.partsApplied.hallsMibApplied
  let d := (List.range 24).foldl Dev.refillRetries d
  let d := (List.range 4).foldl (fun d p => d.put (Ent.Pair.STATE p) (d.get (Ent.Pair.LOCKSTEP p))) d
  if cold then (List.range 18).foldl (fun d s => d.put (Ent.Wsrc.FILTER_CUR s) (d.get (Ent.Wsrc.FILTER_BASE s))) d else d

/-- Units start, the twin unit takes DETACHED if TWIN_EN is 1, FAULT_N goes high (Tables 19.8, 22.2). The rescue image takes no twin role. -/
def Dev.unitsStart (d : Dev) (cold : Bool) : Dev :=
  let d := (d.settingsInForce cold).setD0 fun u => { u with running := true }
  let d := (allUnits.foldl Dev.unitStarts d).nodesStart
  let d := if d.twinOn ∧ !d.rescue then d.put Ent.Tws.ROLE 5 else d
  d.faultRefresh

/-- Steps 10 to 12: the active image is loaded with its retentive data and started with AUTOSTART (R236); a device that is not SOLO waits for its
role. -/
def Dev.engineBoots (d : Dev) (env : BootEnv) : Dev :=
  let d := if d.rescue ∨ d.image = [] then d else d.loadImage d.image
  let d := if d.engine = 1 ∧ d.flag Ent.Se.AUTOSTART ∧ d.role = 0 then d.startEngine else d
  d.sscEnds.put Ent.Pwr.BOOT_MS env.bootMs

/-- The start-up (Table 19.8) of a device in the state `afterReset` leaves. The record holds the cause of the last start that failed, else `r`. -/
def Dev.startUp (d : Dev) (r : ResetCause) (wake : Bool) (env : BootEnv) : Dev :=
  let d := env.fails.foldl Dev.bootFailed d
  let last := match env.fails.getLast? with | some f => f.reason | none => r
  let d := (({ d with power := { d.power with phase := .running } } : Dev).restoreStored (r.kind == 0)).put Ent.Pwr.RESET_REASON last.record
  let d := d.put Ent.Evlog.BOOT_COUNT (d.get Ent.Evlog.BOOT_COUNT + 1)
  let (boot, d) := d.bootRom
  let d := ((d.clocksStart env).strapsRead env).dramStart env
  let d := d.mezzStart.causeEvents last
  let d := if d.rescue then d else d.put Ent.Upd.FAILED_STARTS 0
  let (moved, d) := d.migrateSettings
  let d := moved.foldl (fun d e => d.event srcUpdate e.1 e.2) d
  let d := storageMountOp env.mountMs env.unclean d
  let d := d.logsOpen last (wake && env.fails.isEmpty) (strapFault env) boot
  let d := if d.rescue then d.hallsAbsent else d.hallsStart
  (d.unitsStart (r.kind == 0)).engineBoots env

/-! ### Resets -/

/-- Entry to cold reset: everything is off. -/
def Dev.supplyLost (d : Dev) : Dev :=
  let d := { d.afterReset true false with power := { Dev.off.power with phase := .off } }
  ((d.emit (.line "REGEN" 0 false)).emit (.line "DRAM_EN" 0 false)).emit (.line "FAULT_N" 0 false)

/-- Entry to chip reset with the record of `r`; `dram` says that DRAM keeps its contents (R203). The secure watchdog's expiries are counted. -/
def Dev.chipReset (d : Dev) (r : ResetCause) (dram : Bool) : Dev :=
  let d := (d.wakesFalse.afterReset false dram).put Ent.Pwr.RESET_REASON r.record
  let d := if r.cause = 3 then d.count ⟨Ent.Slog.SWDT_EXPIRIES, Ent.Slog.COUNTER_SAT, 0, srcMezz 2⟩ else d
  (d.count (powerCounter 2)).emit (.line "FAULT_N" 0 false)

/-- A chip reset that ends at once. -/
def Dev.chipRestart (d : Dev) (r : ResetCause) (wake dram : Bool) (env : BootEnv) : Dev := (d.chipReset r dram).startUp r wake env

/-- VAUX rises through VAUX_ON after VAUX_POR: a cold start (R437, R441). -/
def vauxOnOp (env : BootEnv) (d : Dev) : Dev := if d.power.phase = .off then d.startUp ⟨0, 1, 0, 0, 0⟩ false env else d

/-- VAUX falls below VAUX_POR: cold reset, in every phase (R437, R450). -/
def vauxPorOp (d : Dev) : Dev := if d.power.phase = .off then d else d.supplyLost

def setPhase (p : Phase) (d : Dev) : Dev := { d with power := { d.power with phase := p } }

/-- RESET_N is low for 1 µs: chip reset with cause 2, for as long as it is low (R442). -/
def resetNLowOp (d : Dev) : Dev :=
  match d.power.phase with
  | .off => d
  | .held _ hot => setPhase (.held true hot) d
  | _ => setPhase (.held true false) (d.chipReset ⟨1, 2, 0, 0, 0⟩ false)

/-- The record of a reset that holds the device: cause 2 for RESET_N, cause 4 with detail 2 for its temperature, whichever began it. -/
def Dev.heldCause (d : Dev) : ResetCause :=
  let v := d.get Ent.Pwr.RESET_REASON
  ⟨v / 2 ^ 24, v / 2 ^ 16 % 256, v % 2 ^ 16, 0, 0⟩

/-- RESET_N rises: start-up, unless the temperature holds the reset. -/
def resetNHighOp (env : BootEnv) (d : Dev) : Dev :=
  match d.power.phase with
  | .held true true => setPhase (.held false true) d
  | .held true false => d.startUp d.heldCause false env
  | _ => d

/-- A fatal fault of Table 19.5: a chip reset with cause 4; that of detail 2 holds until the die has cooled below 115 °C. -/
def fatalFaultOp (detail rail mv : Nat) (env : BootEnv) (d : Dev) : Dev :=
  if d.awake = false ∨ detail = 0 ∨ 4 < detail then d
  else if detail = 2 then setPhase (.held false true) (d.chipReset ⟨1, 4, 2, 0, 0⟩ false)
  else d.chipRestart ⟨1, 4, detail, rail, mv⟩ false false env

/-- The die has cooled (R442). -/
def overtempClearOp (env : BootEnv) (d : Dev) : Dev :=
  match d.power.phase with
  | .held true true => setPhase (.held true false) d
  | .held false true => d.startUp d.heldCause false env
  | _ => d

/-- The secure watchdog's period has passed without a kick (R412, R413). -/
def swdtExpiredOp (env : BootEnv) (d : Dev) : Dev :=
  if d.swdtRuns && d.swdtAged (d.mezz.period * 1000) then d.chipRestart ⟨1, 3, 0, 0, d.mezz.period⟩ false false env else d

/-- Rows of R413 and R437 to R442. -/
def execVauxOn (env : BootEnv) (s : State) := onVest s (vauxOnOp env)
def execVauxPor (s : State) := onVaux s vauxPorOp
def execResetNLow (s : State) := onVaux s resetNLowOp
def execResetNHigh (env : BootEnv) (s : State) := onVaux s (resetNHighOp env)
def execFatalFault (detail rail mv : Nat) (env : BootEnv) (s : State) := onVaux s (fatalFaultOp detail rail mv env)
def execOvertempClear (env : BootEnv) (s : State) := onVaux s (overtempClearOp env)
def execSwdtExpired (env : BootEnv) (s : State) := onDev s (swdtExpiredOp env)

end Sys2Proof.Machine
end

