-- ==== Sys2Proof/Machine/Sleep.lean ====
section
/-! DEFINITION. Sleep entry, wake, false wakes and the ZC2408 commands (R196 to R214): the rows that need the units and the start-up. -/

namespace Sys2Proof.Machine

/-! ### Confirming (R208, R209) -/

/-- Bits of CONFIRM outside their window are ignored. -/
def wakeConfirmOp (v : Nat) (d : Dev) : Dev :=
  ((List.range 18).foldl (fun d s => if bit v s ∧ d.windowRuns s then d.wakeConfirmed s else d) d).answer .ok

/-- FW_WINDOW_MS ends. -/
def falseWakeOp (s : Nat) (d : Dev) : Dev :=
  if d.windowRuns s ∧ d.passed ((KV.find s d.sleep.opened).getD 0) (d.get (Ent.Wsrc.FW_WINDOW_MS s) * 1000000) then d.wakeFalse s else d

/-- A write to FW_COUNT: a count that becomes 0 takes the filter and the quarantine with it. -/
def fwCountClearOp (s v : Nat) (d : Dev) : Dev :=
  if 17 < s then d
  else
    let n := clearBits 8 (d.get (Ent.Wsrc.FW_COUNT s)) v
    let d := d.put (Ent.Wsrc.FW_COUNT s) n
    (if n = 0 then d.sourceClean s else d).finish (Ent.Wsrc.FW_COUNT s).key .ok

/-! ### Entry (R198 to R200) -/

/-- POWER_REQ 2 or 3. While an entry runs, another request is refused (DESIGN CHOICE, assumption 54). -/
def powerReq (v : Nat) (d : Dev) : Dev :=
  let key := Ent.Slp.POWER_REQ.key
  if d.get Ent.Slpm.MODEL = 1 ∨ d.running ∨ d.role ≠ 0 ∨ 2 ≤ d.get Ent.Slp.ENTRY then d.finish key .wrongState
  else ((d.put Ent.Slp.POWER_REQ v).put Ent.Slp.ENTRY 1).finish key .ok

def powerReqStandbyOp (d : Dev) : Dev := powerReq 2 d
def powerReqSleepOp (d : Dev) : Dev := powerReq 3 d

/-- The state that an entry may start toward now (R198). -/
def Dev.entryTarget (d : Dev) : Option Nat :=
  if 2 ≤ d.get Ent.Slp.ENTRY then none
  else if d.get Ent.Slpm.MODEL = 0 then
    let v := d.get Ent.Slp.POWER_REQ
    if 2 ≤ v ∧ d.domainsAgree then some v else none
  else
    let trx (n : Nat) : Nat := KV.get 0 n d.sleep.trx
    let agree := (List.range 16).all fun i => (d.domain (16 + i)).state == 0 || (d.domain (16 + i)).state == 4
    if (List.range 16).any (fun n => trx n == 4) ∧ (List.range 16).all (fun n => d.get (Ent.CanSt.STATE n) == 0 || trx n == 4) ∧ agree ∧
      !d.running ∧ d.role = 0 then some 3 else none

/-- The units that an entry drains. -/
def entryUnits : List UnitId :=
  allUnits.filter fun x => match x with
    | .port _ | .can _ | .dma _ | .bridge _ _ | .adc _ => true
    | _ => false

/-- A unit goes to DRAINING with its ENABLE left at 1. -/
def Dev.unitPauses (d : Dev) (x : UnitId) : Dev :=
  let d := ({ d.put (unitStateEntry x) 2 with drains := KV.insert x.key d.time.raw d.drains } : Dev).unitDraining x
  if d.get (unitDrainEntry x) = 0 ∧ d.unitQuiet x = false then d.drainCut x else d

/-- Step 1 of Table 8.4. Wakes not confirmed by now are false (R208). -/
def sleepEntryOp (d : Dev) : Dev :=
  match d.entryTarget with
  | none => d
  | some t =>
    let d := ((d.put Ent.Slp.ENTRY 2).sleepEvent 0x0020 t).wakesFalse
    let d := ((d.loadGroupReset 0).loadGroupReset 1).loadGroupReset 2
    let l := entryUnits.filter fun x => d.unitState x == 1
    l.foldl Dev.unitPauses (d.setSleep fun s => { s with target := t, paused := l })

/-- The PLLs stop, each with its word (Table 8.4 step 3), and the raw counter with that of the timebase (R143). -/
def Dev.pllsStop (d : Dev) : Dev :=
  (List.range 4).foldl (fun d k =>
    if d.domStopped k then d
    else ((d.setDom k fun x => { x with locked := false, word := true, old := d.domSource k, target := none }).put (Ent.Dom.SOURCE k) 0xFF).islandsRun k false)
    (d.sscSet false)

/-- The PLLs that a sleep entry stopped start again, each on the source it had while that is stable. -/
def Dev.pllsStart (d : Dev) : Dev :=
  (List.range 4).foldl (fun d k =>
    let s := (d.dom k).old
    if !d.domStopped k then d
    else if d.sourceEnabled s ∧ d.sourceStable s then (d.put (Ent.Dom.SOURCE k) s).islandsRun k true else d.domStarts k) d

/-- Steps 2 to 4: all is drained; storage commits, DRAM goes to self-refresh, the PLLs stop, the vestibule copies and arms. -/
def sleepArmOp (d : Dev) : Dev :=
  if d.get Ent.Slp.ENTRY ≠ 2 ∨ (entryUnits.any fun x => d.unitState x != 0) then d
  else
    let d := if d.nandOn then d.stoDurable.commitEvents else d
    let a : Armed := ⟨(List.range 18).map fun s => d.get (Ent.Wsrc.WAKE_MODE s), (List.range 18).map fun s => d.get (Ent.Wsrc.FILTER_CUR s),
      (List.range 32).map fun i => d.get (Ent.Watch.WATCH i)⟩
    ((d.setClk fun c => { c with selfRefresh := true }).pllsStop.setSleep fun s => { s with armed := some a, frameErr := [] }).put Ent.Slp.ENTRY 3

/-- The wake-source record (Table 8.8). -/
def wakeRecord (sources first flags target watch time : Nat) : Bytes :=
  le 4 sources ++ le 1 first ++ le 1 flags ++ le 1 target ++ le 1 watch ++ le 8 time

/-- Steps 5 and 6: REGEN falls, the record starts anew. -/
def sleepCommitOp (d : Dev) : Dev :=
  if d.get Ent.Slp.ENTRY ≠ 3 then d
  else
    let t := d.sleep.target
    let d := (d.putOct Ent.Slp.WAKE_RECORD (wakeRecord 0 0xFF 0 t 0xFF d.now)).count (sleepCounter 0)
    let d := (d.put Ent.Pwr.VIO_STATUS (if t = 2 then 8 else 0)).emit (.line "REGEN" 0 false)
    let d := if t = 3 then d.emit (.line "DRAM_EN" 0 false) else d
    setPhase (.asleep t) (d.setTime fun x => { x with running := false })

/-- A wake before the commit (R200): units and domains return; `seen` is DATA of SLEEP_ABORTED. The wake's own sources open windows. -/
def Dev.entryAborts (d : Dev) (seen : Nat) : Dev :=
  let l := d.sleep.paused
  let d := if d.sleep.armed.isSome then d.pllsStart else d
  let d := ((d.put Ent.Slp.POWER_REQ 0).put Ent.Slp.ENTRY 0).setSleep fun s =>
    { s with target := 0, paused := [], armed := none, owed := (List.range 16).filter fun n => bit seen n }
  let d := (d.setClk fun c => { c with selfRefresh := false }).count (sleepCounter 1)
  let d := (d.sleepEvent 0x0021 seen)
  let d := (List.range 18).foldl (fun d s => if bit seen s then d.count (wakeCounter s 0) else d) d
  let d := ([16, 17] : List Nat).foldl (fun d s => if bit seen s then d.windowOpens s else d) d
  let d := l.foldl (fun d x =>
    let d : Dev := { d with drains := KV.erase x.key d.drains }
    if d.unitState x = 2 then d.put (unitStateEntry x) 1 else (d.put (unitStateEntry x) 1).unitEnabled x) d
  (List.range 32).foldl (fun d k =>
    if d.flag (Ent.Sdom.KA_EN k) ∧ d.domainUnitOn k then (d.setDomain k fun x => { x with again := true }).enterDomain k (if d.requested k then 1 else 2)
    else d.setDomain k fun x => { x with state := 0 }) d

/-- An entry runs and has not committed. -/
def Dev.entering (d : Dev) : Bool := d.awake && decide (2 ≤ d.get Ent.Slp.ENTRY)

/-- A write of 0 to POWER_REQ. -/
def powerReqCancelOp (d : Dev) : Dev :=
  let d := if d.entering then d.entryAborts (2 ^ 20) else (d.put Ent.Slp.POWER_REQ 0).put Ent.Slp.ENTRY 0 |>.refreshEntry
  d.finish Ent.Slp.POWER_REQ.key .ok

/-- The sleep unit listens in domain `k`: its channel or port is on, or was until a sleep entry drained it (R199); a transceiver off the bus hears
nothing (R205). -/
def Dev.listens (d : Dev) (k : Nat) : Bool :=
  (d.domainUnitOn k || (d.entering && d.sleep.paused.contains (if k < 16 then .can k else .port (k + 8)))) && (decide (16 ≤ k) || d.trxOnBus k)

/-- A keep-alive is received in domain `k` (R196): a trigger moves the domain (R197), confirms a wake (R208) or ends an entry (R200). On a CAN channel the
sleep unit observes its frames so (`canFrameReceiveOp`). -/
def keepaliveReceiveOp (k ty version node flags : Nat) (d : Dev) : Dev :=
  let valid := ty == 1 && (decide (k < 16) || version == 1) && (bit flags 0 != bit flags 1) && node != d.board.nodeId && decide (k < 32)
  if !valid ∨ !(bit flags 0 || bit flags 2) ∨ d.listens k = false then d
  else
    let d := if k < 16 ∧ d.windowRuns k then d.wakeConfirmed k else d
    if d.flag (Ent.Sdom.KA_EN k) = false then d
    else if d.entering then d.entryAborts (2 ^ 21)
    else if (d.domain k).state = 0 then d
    else d.domainTriggered k

/-! ### Wakes (R201, R203, R206 to R211) -/

/-- A wake latched after the commit starts the device (R201, R203). `fl` are FRAME_MATCH and FRAME_ERRORS, `watch` the place of a watched source; `s`
is the first source, and `env` says what further sources were latched before the start. -/
def Dev.vestibuleWake (d : Dev) (s fl watch : Nat) (env : WakeEnv) : Dev :=
  match d.power.phase with
  | .asleep t =>
    let w := d.oct Ent.Slp.WAKE_RECORD
    let sources := setBit (env.more % 2 ^ 20) s true
    let quarantined := decide (s < 18) && d.get (Ent.Wsrc.QUARANTINED s) == 1
    let watch := if s = 19 then watch else if bit sources 19 then env.watch % 32 else 0xFF
    let flags := b2n env.during + 2 * b2n (bit fl 1 || bit env.flags 1) + 4 * b2n (bit fl 2 || bit env.flags 2) + 16 * b2n quarantined
    let d := d.putOct Ent.Slp.WAKE_RECORD (wakeRecord sources s flags t watch (leAt w 8 8))
    let d := d.chipReset ⟨1, if t = 2 then 5 else 6, 0, 0, 0⟩ (t = 2)
    let d := (List.range 18).foldl (fun d s => if bit sources s then d.count (wakeCounter s 0) else d) d
    let d := d.setSleep fun x => { x with owed := (List.range 16).filter fun n => bit sources n }
    let d := ([16, 17] : List Nat).foldl (fun d s => if bit sources s then d.windowOpens s else d) d
    let d := if env.during then (List.range 32).foldl (fun d k => d.setDomain k fun x => { x with again := true }) d else d
    d.startUp ⟨1, if t = 2 then 5 else 6, 0, 0, 0⟩ true env.boot
  | _ => d

/-- A wake by a source: before the commit it ends the entry, after it it starts the device, without an entry it does nothing. -/
def Dev.woken (d : Dev) (s fl watch : Nat) (env : WakeEnv) : Dev := if d.entering then d.entryAborts (2 ^ s) else d.vestibuleWake s fl watch env

/-- The wake-up pattern on channel `n`: in the native model by LP_PATTERN, in the ZC2408 model by a low-power state, where it sets WAKE and takes the
transceiver to STANDBY. During an entry it is a wake (R200); after the commit, from SLEEP (Table 8.6). -/
def wakePatternOp (n : Nat) (env : WakeEnv) (d : Dev) : Dev :=
  if 15 < n then d
  else if d.get Ent.Slpm.MODEL = 0 then (if d.trxState n = 3 ∧ d.lowPower.isSome then d.woken n 0 0xFF env else d)
  else
    let st := d.trxState n
    if st < 2 then d
    else
      let d := ((d.setTrx n 2).setFld (Rg.Slpr.WAKE n) 1).refreshEntry
      if d.entering ∨ st = 4 then d.woken n 0 0xFF env else d

/-- A classical frame matches the wake-up frame of channel `n`; data bytes that the frame does not have are not compared (DESIGN CHOICE, assumption
54). -/
def Dev.wakeFrameMatches (d : Dev) (n : Nat) (f : CanFrame) : Bool :=
  let id := d.get (Ent.Wsrc.SW_ID n)
  let m := d.get (Ent.Wsrc.SW_ID_MASK n) % 2 ^ (if f.ide then 29 else 11)
  let dlc := d.get (Ent.Wsrc.SW_DLC n)
  let mask := d.oct (Ent.Wsrc.SW_DATA_MASK n)
  let want := d.oct (Ent.Wsrc.SW_DATA n)
  !f.fdf && !f.rtr && f.ide == bit id 29 && (f.id &&& m) == (id &&& m) && (dlc == 0xFF || dlc == f.dlc) &&
    (List.range (min 8 f.data.length)).all fun i => (leAt f.data i 1 &&& leAt mask i 1) == (leAt want i 1 &&& leAt mask i 1)

/-- A frame at bit rate `rate` (as SW_RATE codes it) on channel `n` in LP_SELECTIVE, or (none) one in error (R207). The frame error counter of ISO
11898-2 rises by 1 at a frame in error, which one at another rate is to the decoder, and falls by 1 at a valid classical frame; at 32 it overflows
(PRESUMED, assumption 54). FD frames leave it alone. -/
def wakeFrameOp (n rate : Nat) (f : Option CanFrame) (env : WakeEnv) (d : Dev) : Dev :=
  if 15 < n ∨ d.get Ent.Slpm.MODEL = 1 ∨ d.lowPower = none ∨ d.trxState n ≠ 4 then d
  else
    let e := KV.get 0 n d.sleep.frameErr
    let set (v : Nat) (d : Dev) : Dev := d.setSleep fun s => { s with frameErr := KV.put 0 n v s.frameErr }
    let bad (_ : Unit) : Dev := if 31 ≤ e then (set 0 d).woken n 4 0xFF env else set (e + 1) d
    match f with
    | none => bad ()
    | some f =>
      if rate ≠ d.get (Ent.Wsrc.SW_RATE n) then bad ()
      else if f.fdf then d
      else if d.wakeFrameMatches n f then d.woken n 2 0xFF env else set (e - 1) d

/-- A pin has held a level for FILTER_CUR (R206). -/
def wakePinOp (w : Nat) (high : Bool) (env : WakeEnv) (d : Dev) : Dev :=
  let m := d.wakeMode (16 + w)
  if w ≤ 1 ∧ m ≠ 0 ∧ (m = 1) = (high = true) then d.woken (16 + w) 0 0xFF env else d

/-- A write of 1 to WAKE_REQ: the response OK precedes the wake (R454). -/
def wakeReqOp (env : WakeEnv) (d : Dev) : Dev :=
  match d.power.phase with
  | .off | .held _ _ => d
  | _ => (d.finish Ent.Slp.WAKE_REQ.key .ok).woken 18 0 0xFF env

/-- The source number at a place of the watch list: in force is the vestibule's copy, once it has armed. -/
def Dev.watched (d : Dev) (i : Nat) : Nat :=
  match d.sleep.armed with
  | some a => (a.watch[i]?).getD 0
  | none => d.get (Ent.Watch.WATCH i)

/-- The watched source at place `i` becomes pending with a priority (R210): in IDLE its core's gates turn on. -/
def watchWakeOp (i : Nat) (env : WakeEnv) (d : Dev) : Dev :=
  let n := d.watched i
  if 31 < i ∨ n = 0 ∨ d.fld (Rg.Src.PRIORITY n) = 0 then d
  else match d.power.phase with
    | .asleep t => if t = 2 then d.woken 19 0 i env else d
    | .running =>
      if d.entering then d.entryAborts (2 ^ 19)
      else if d.idle then
        let k := d.srcTarget n
        (gateLine (if k < 4 then 17 + k else 21 + k)).foldl Dev.gateUp d
      else d
    | _ => d

/-! ### Commands of the ZC2408 model (R205) -/

/-- CMD 1 or 2: the transceiver leaves its low-power state, and an entry ends (R200). -/
def Dev.trxUp (d : Dev) (n st : Nat) : Dev :=
  if d.get Ent.Slpm.MODEL = 0 then d
  else
    let d := d.setTrx n st
    if d.entering then d.entryAborts (2 ^ 20) else d.refreshEntry

def trxCmdNormalOp (n : Nat) (d : Dev) : Dev := (d.trxUp n 0).answer .ok
def trxCmdRxOnlyOp (n : Nat) (d : Dev) : Dev := (d.trxUp n 1).answer .ok

/-- Rows of R196 to R210. -/
def execKeepaliveReceive (k ty version node flags : Nat) (s : State) := onDev s (keepaliveReceiveOp k ty version node flags)
def execPowerReqStandby (s : State) := onDev s powerReqStandbyOp
def execPowerReqSleep (s : State) := onDev s powerReqSleepOp
def execPowerReqCancel (s : State) := onDev s powerReqCancelOp
def execSleepEntry (s : State) := onDev s sleepEntryOp
def execSleepArm (s : State) := onDev s sleepArmOp
def execSleepCommit (s : State) := onDev s sleepCommitOp
def execWakePattern (n : Nat) (env : WakeEnv) (s : State) := onVaux s (wakePatternOp n env)
def execWakeFrame (n rate : Nat) (f : Option CanFrame) (env : WakeEnv) (s : State) := onVaux s (wakeFrameOp n rate f env)
def execWakePin (w : Nat) (high : Bool) (env : WakeEnv) (s : State) := onVaux s (wakePinOp w high env)
def execWakeReq (env : WakeEnv) (s : State) := onVaux s (wakeReqOp env)
def execWatchWake (i : Nat) (env : WakeEnv) (s : State) := onVaux s (watchWakeOp i env)
def execWakeConfirm (v : Nat) (s : State) := onDev s (wakeConfirmOp v)
def execFalseWake (n : Nat) (s : State) := onDev s (falseWakeOp n)
def execFwCountClear (n v : Nat) (s : State) := onDev s (fwCountClearOp n v)
def execTrxCmdNormal (n : Nat) (s : State) := onDev s (trxCmdNormalOp n)
def execTrxCmdRxOnly (n : Nat) (s : State) := onDev s (trxCmdRxOnlyOp n)

end Sys2Proof.Machine
end

