-- ==== Sys2Proof/Machine/Warm.lean ====
section
/-! DEFINITION. The warm reset (R443, R445, Table 19.6) with its start from step 9, as one step. -/

namespace Sys2Proof.Machine

/-- A unit whose gate is leased is not reset (R401). -/
def Dev.unitSpared (d : Dev) (x : UnitId) : Bool := (unitGate x).any d.leased

/-- Registers that a warm reset leaves: the timebase, the mezzanine but for its mailbox page (R80), and the pages of leased units. -/
def Dev.warmKeeps (d : Dev) (a : Nat) : Bool :=
  (decide (0x1F000000 ≤ a) && !(decide (0x1FF00000 ≤ a) && decide (a < 0x1FF01000))) || (decide (0x10100000 ≤ a) && decide (a < 0x10200000)) ||
  (decide (0x10200000 ≤ a) && decide (a < 0x10240000) && d.unitSpared (.dma ((a - 0x10200000) / 0x1000))) ||
  (decide (0x10400000 ≤ a) && decide (a < 0x10440000) && d.unitSpared (.can ((a - 0x10400000) / 0x4000))) ||
  (decide (0x10800000 ≤ a) && decide (a < 0x10900000) && d.unitSpared (.bridge ((a - 0x10800000) / 0x40000) 0)) ||
  (decide (0x10900000 ≤ a) && decide (a < 0x10910000) && d.unitSpared (.bridge ((a - 0x10900000) / 0x4000) 0)) ||
  (decide (0x10C00000 ≤ a) && decide (a < 0x10C02000) && d.unitSpared (.adc ((a - 0x10C00000) / 0x1000)))

/-- D0 and the service port: what was accepted is discarded, shadows and sessions are gone (R67, R74, R454). -/
def Dev.dictEmptied (d : Dev) : Dev :=
  let d := d.transfersEnd.setD0 fun u => { Dev.off.d0 with marks := u.marks, stored := u.stored, storedBlobs := u.storedBlobs }
  let d : Dev := { d with power := { d.power with sp := Dev.off.power.sp } }
  (d.setFld Rg.Smb.BUSY 0).put Ent.Ndp.SESSIONS_OPEN 0

/-- The cores A0 to A3 and C0 to C7 that no lease keeps. -/
def Dev.coresReset (d : Dev) : Dev :=
  (List.range 12).foldl (fun d k => if d.leased (if k < 4 then 17 + k else 21 + k) then d else d.resetCore k) d

/-- The switch: links retrain, what the buffers hold is gone uncounted; the counters of the streams stay. Ports under lease keep their link. -/
def Dev.switchReset (d : Dev) : Dev :=
  let streams := KV.mapVal (fun _ (s : StreamSt) => { s with blocked := false, next := 0, recov := none, green := 0, yellow := 0, filled := none }) d.sw.streams
  let spared (p : Nat) : Bool := d.unitSpared (.port p)
  let d : Dev := { d with sw := { Dev.off.sw with streams := streams, links := KV.keep (fun p _ => spared p) d.sw.links } }
  (List.range 2).foldl (fun d n => if spared (52 + n) then d else d.laneDown n) d

/-- CAN channels, bridges, DMA, converters. -/
def Dev.unitsReset (d : Dev) : Dev :=
  let units := allUnits.filter fun x => !d.unitSpared x
  let d := units.foldl (fun d x => d.put (unitStateEntry x) 0) d
  let keepCan (n : Nat) : Bool := d.unitSpared (.can n)
  let keepBr (u : Nat) : Bool := d.unitSpared (.bridge u 0)
  let keepDma (c : Nat) : Bool := d.unitSpared (.dma c)
  { d with
    drains := []
    can := KV.keep (fun n _ => keepCan n) d.can
    br := { d.br with sess := KV.keep (fun k _ => keepBr (k / 2048)) d.br.sess, ctx := KV.keep (fun k _ => keepBr (k / 64)) d.br.ctx,
                      serve := KV.keep (fun k _ => keepBr (serveUnit k)) d.br.serve, toggles := KV.keep (fun k _ => keepBr (k / 1024)) d.br.toggles,
                      tunnels := [] }
    dma := { d.dma with chs := KV.keep (fun c _ => keepDma c) d.dma.chs, last := 0, turn := [] }
    adc := { d.adc with convs := KV.keep (fun a _ => d.unitSpared (.adc a)) d.adc.convs, ranged := [] }
    sleep := { d.sleep with domains := [], trx := [], target := 0, paused := [], armed := none }
    sto := { d.sto with rings := [] }
    ctrLatch := []
    ctrStage := [] }

/-- Tenant halls end; those with AUTOCREATE are created again (R375). -/
def Dev.hallsReset (d : Dev) : Dev :=
  let old := d
  let d := (List.range 255).foldl (fun d h => if d.hallExists (h + 1) then d.put (Ent.Hall.STATE (h + 1)) 0 else d) d
  let d := ({ d with tenants := Dev.off.tenants, logs := { d.logs with ringHeld := [] } } : Dev).hallsStart
  let d := (List.range 64).foldl (fun d c => d.dmaApplied old c) d
  let d := (List.range 256).foldl (fun d q => d.qpApplied old q) d
  let d := (List.range 16).foldl (fun d n => d.canObjApplied old n) d
  (List.range 256).foldl (fun d c => d.bctxApplied old (c / 64) (c % 64)) d

/-- The twin unit begins anew; its inputs, the partner's role and the nodes heard stay known (Table 19.6: the vestibule is kept). -/
def Dev.twinReset (d : Dev) : Dev :=
  d.setTwin fun t => { Dev.off.twin with low := t.low, live := t.live, alive := t.alive, peerMac := t.peerMac, lanes := t.lanes, nodes := t.nodes, known := t.known }

/-- The scan engine loads the image that SETTINGS holds over the process image and retentive area as they stand (R236, R249, R256). -/
def Dev.engineReset (d : Dev) (env : Nat) : Dev :=
  let d := if d.get Ent.Chg.CHANGE_STATE = 0 then d else
    let old := d.scan.change.bind (·.old)
    let d := d.changeEnd .aborted
    match old with | some b => d.putOct Ent.Seimg.ACTIVE_IMAGE b | none => d
  let tasks := (imgTasks d.image).map (·.task)
  let d := d.setScan fun s => { Dev.off.scan with records := s.records, warm := tasks }
  let d := if d.rescue ∨ d.image = [] then d else d.loadImage d.image true
  let d := if d.engine = 1 ∧ d.flag Ent.Se.AUTOSTART ∧ d.role = 0 then d.startEngine else d
  d.put Ent.Pwr.BOOT_MS env

/-- The registers and held values after a warm reset. -/
def Dev.warmRegs (d : Dev) : Dev :=
  { d with regs := KV.keep (fun a _ => d.warmKeeps a) d.regs, held := KV.keep (fun j _ => decide (512 ≤ j)) d.held }

/-- A warm reset with its record's CAUSE and DETAIL. `ms` is BOOT_MS. The RESET record follows the start from step 9 on, in the log that goes on. -/
def Dev.warmReset (d : Dev) (cause detail ms : Nat) : Dev :=
  let record := (⟨2, cause, detail, 0, 0⟩ : ResetCause).record
  let d := ((d.wakesFalse.count (powerCounter 3)).put Ent.Pwr.RESET_REASON record).newChallenge
  let d := (setPhase (.held false false) d.holdChannels).faultRefresh
  let d := (d.dictEmptied.coresReset).switchReset.unitsReset
  let d := (setPhase .running d.warmRegs.twinReset).defaultMarked
  let d := (d.eventSys 6 (srcPower 0) 0x0022 record).hallsReset
  let d := (List.range 48).foldl Dev.gclApplied (d.sharedSizeSet.partsApplied.hallsMibApplied.setD0 fun u => { u with running := true })
  let d := ((allUnits.filter fun x => !d.unitSpared x).foldl Dev.unitStarts d).nodesStart
  let d := if d.rescue then d else d.setRole (if d.twinOn then 5 else 0)
  (d.faultRefresh).engineReset ms

/-- A warm reset may start (R443). -/
def Dev.warmAllowed (d : Dev) : Bool := d.sleep.target == 0 && decide (d.get Ent.Slp.ENTRY < 2)

/-- The service frame queued last goes out now. -/
def Dev.sendQueued (d : Dev) (n : Nat) : Dev :=
  match (d.canCh n).service.getLast? with
  | some x => ((d.setCan n fun c => { c with service := c.service.dropLast }).emit (.can n x.frame)).count (canCounter n 1)
  | none => d

/-- What the write of WARM_RESET leaves outside the reset: its response is sent first (R67). An SDO response goes out on its channel; the service port
keeps the one that it holds for the host. -/
def Dev.responseFirst (d : Dev) (o : Option Origin) (f : Dev → Dev) : Dev :=
  match o.map Origin.path with
  | some (Path.sdo n) => f (d.sendQueued n)
  | some Path.servicePort =>
    let w := d.power.sp.response
    let d := f d
    { d with power := { d.power with sp := { d.power.sp with response := w, rxFree := w.isNone } } }
  | _ => f d

/-- A write of 1 to WARM_RESET: its response is sent before the reset (R67, R443). -/
def warmResetOp (secure : Bool) (ms : Nat) (d : Dev) : Dev :=
  let key := Ent.Pwr.WARM_RESET.key
  if !d.warmAllowed ∨ d.get Ent.Pwr.PF_STATE ≠ 0 then d.finish key .wrongState
  else (d.finish key .ok).responseFirst (KV.find key d.d0.waits) fun d => d.warmReset 7 (b2n secure) ms

/-- The resident firmware traps in its trap handler on core A`core`, or reports a fatal (R443). -/
def aCoreFatalOp (core ms : Nat) (d : Dev) : Dev :=
  if 3 < core ∨ !d.warmAllowed ∨ d.get Ent.Pwr.PF_STATE ≠ 0 then d else d.warmReset 8 core ms

/-- Rows of R443. -/
def execWarmReset (secure : Bool) (ms : Nat) (s : State) := onDev s (warmResetOp secure ms)
def execACoreFatal (core ms : Nat) (s : State) := onDev s (aCoreFatalOp core ms)

end Sys2Proof.Machine
end

