-- ==== Sys2Proof/Machine/Groups.lean ====
section
/-! DEFINITION. The groups of the dictionary (R64 to R66): what each group's APPLY checks, when its values take effect, and what
their taking effect does in the unit. -/

namespace Sys2Proof.Machine

/-- The index is a group: it has an APPLY (R64). -/
def isGroup (i : Nat) : Bool := (rowOf i 0xFE).any fun r => r.acc == .wo && r.spans == [(1, 2)]

/-- The row is staged: a writable subindex of the group's span. -/
def DictRow.staged (r : DictRow) : Bool := r.notes.contains .group && r.acc != .ro && r.acc != .const

def applyStatus (i : Nat) : Entry := ⟨i, 0xFD, 32, 0⟩

/-- Store an integer entry under its key, with its row's default. -/
def Dev.putKey (d : Dev) (key v : Nat) : Dev :=
  match rowOf (key / 256) (key % 256) with
  | some r => d.put (r.entry (key / 256) (key % 256)) v
  | none => d

/-- The device with a shadow's values in effect. -/
def Dev.withValues (d : Dev) (vs : KV Nat) (bs : KV Bytes) : Dev :=
  let d := vs.foldl (fun d x => d.putKey x.1 x.2) d
  { d with blobs := bs.foldl (fun m x => KV.insert x.1 x.2 m) d.blobs }

/-! ### Allocations (R377) -/

/-- An instance that a group allocates: its kind of Table 16.8, its number, its hall and the subindex that names it. -/
structure Alloc where
  kind : Nat
  inst : Nat
  hall : Nat
  sub : Nat
  deriving DecidableEq, Repr

def within (i base n : Nat) : Bool := decide (base ≤ i) && decide (i < base + n)

/-- The allocations that stand in a group's entries. -/
def Dev.allocs (d : Dev) (i : Nat) : List Alloc :=
  if within i 0x2020 16 then [⟨0xA, i - 0x2020, d.get (Ent.Bind.HALL (i - 0x2020)), 2⟩]
  else if within i 0x2C40 64 then [⟨4, i - 0x2C40, d.get (Ent.Dma.HALL (i - 0x2C40)), (Ent.Dma.HALL 0).sub⟩]
  else if within i 0x2E00 256 then [⟨5, i - 0x2E00, d.get (Ent.Qp.HALL (i - 0x2E00)), (Ent.Qp.HALL 0).sub⟩]
  else if within i 0x3B00 256 then [⟨8, i - 0x3B00, d.get (Ent.Bctx.HALL (i - 0x3B00)), 4⟩]
  else if within i 0x3800 256 && i % 16 == 2 then
    let n := (i - 0x3800) / 16
    ((List.range 64).map fun k => ⟨6, n * 64 + k, objHall (d.objRec n k), 1⟩) ++ ((List.range 3).map fun k => ⟨7, 3 * n + k, d.txbHall n k, 2⟩)
  else if within i 0x3A00 4 then (List.range 1024).map fun e => ⟨9, 1024 * (i - 0x3A00) + e, epHall (d.endpoint (i - 0x3A00) e), 7⟩
  else []

/-- An APPLY changes an instance: its record where the group is a table of records, else its group. -/
def Alloc.changes (d x : Dev) (a : Alloc) : Bool :=
  match a.kind with
  | 6 => d.objRec (a.inst / 64) (a.inst % 64) != x.objRec (a.inst / 64) (a.inst % 64)
  | 7 => a.hall != x.txbHall (a.inst / 3) (a.inst % 3)
  | 9 => d.endpoint (a.inst / 1024) (a.inst % 1024) != x.endpoint (a.inst / 1024) (a.inst % 1024)
  | _ => true

/-- The allocations an APPLY changes: old and new. -/
def movedAllocs (d x : Dev) (i : Nat) : List (Alloc × Alloc) := ((d.allocs i).zip (x.allocs i)).filter fun p => p.1.hall != p.2.hall

/-- A hall on either side moves, or an arriving hall has an instance reserved that changes (R377, R387). -/
def allocWrong (d x : Dev) (i : Nat) : Bool :=
  ((movedAllocs d x i).any fun p => hallMoving (d.hallState p.1.hall) || hallMoving (d.hallState p.2.hall)) ||
  (d.allocs i).any fun a => d.reservedInst a.kind a.inst && a.changes d x

/-- The hall allocated to is ABSENT. -/
def allocFault (d x : Dev) (i : Nat) : Option Nat := ((movedAllocs d x i).find? fun p => !d.hallExists p.2.hall).map fun p => p.2.sub

/-! ### The checks of each group -/

/-- A DMA channel moves to another hall. -/
def dmaMoves (d x : Dev) (c : Nat) : Bool := d.get (Ent.Dma.HALL c) != x.get (Ent.Dma.HALL c)

/-- The initiator of subindex `s` of 0x2C01 is an executor of the active image (R353). -/
def winInUse (d : Dev) (s : Nat) : Bool :=
  decide (1 ≤ s) && decide (s ≤ 8) && (imgCores d.image).contains (s - 1) && (d.engine == 2 || d.engine == 4 || d.engine == 5)

/-- An entry of the active image's OUTMAP covers the command of channel `n` (R281). -/
def Dev.outCovers (d : Dev) (n : Nat) : Bool :=
  (imgOut d.image).any fun m => m.kind == 1 && m.src == 1 && decide (m.srcOff ≤ 4 * n) && decide (4 * n + 4 ≤ m.srcOff + m.len)

/-- A load channel's group (R281, R282). -/
def loadWrong (d x : Dev) (n : Nat) : Bool :=
  d.pairUpper n ||
  (d.get (Ent.Lc.OWNER n) != x.get (Ent.Lc.OWNER n) && d.engine != 0 && d.outCovers n) ||
  ((n == 20 || n == 22) && d.get (Ent.Lc.PAIR n) != x.get (Ent.Lc.PAIR n) && (d.loadState n != 0 || d.loadState (n + 1) != 0))

/-- The gate of a clock domain (Table 18.7): switch, CAN, PCS and load domains. -/
def domGate (k : Nat) : Nat := ([8, 9, 3, 10][k]?).getD 8

/-- Check 11 of an APPLY: the states in which it is refused. `x` is the device with the shadow's values, `written` the subindices in it. -/
def Dev.groupState (d x : Dev) (i : Nat) (written : List Nat) (secure : Bool) : Status :=
  let wrong (b : Bool) : Status := if b || allocWrong d x i then .wrongState else .ok
  if i = 0x2200 then wrong (clkWrong x)
  else if within i 0x2210 4 then
    if !secure && d.leased (domGate (i - 0x2210)) then .leased else wrong (domWrong x (i - 0x2210) (written.contains 1))
  else if within i 0x2420 32 then wrong d.keysRefused
  else if within i 0x2600 256 then wrong (hallGroupWrong d x (i - 0x2600))
  else if within i 0x2A10 4 then wrong (d.pairBusy (i - 0x2A10))
  else if i = 0x2C01 then wrong (written.any fun s => winInUse d s && d.get ⟨0x2C01, s, 64, 2 ^ 32⟩ != x.get ⟨0x2C01, s, 64, 2 ^ 32⟩)
  else if within i 0x2C40 64 then wrong (dmaMoves d x (i - 0x2C40) && d.get (Ent.Dma.STATE (i - 0x2C40)) != 0)
  else if within i 0x2D00 256 then wrong (hallMoving (d.hallState (i - 0x2D00)))
  else if within i 0x2E00 256 then wrong (qpMoves d x (i - 0x2E00) && d.get (Ent.Qp.STATE (i - 0x2E00)) != 0)
  else if within i 0x3700 32 then wrong (d.get (Ent.Trgu.OWNER (i - 0x3700)) == 1)
  else if within i 0x3B00 256 then wrong (d.get (Ent.Bctx.STATE (i - 0x3B00)) != 0)
  else if i = 0x3C01 then wrong (d.get Ent.Slpm.MODEL != x.get Ent.Slpm.MODEL && d.get Ent.Slp.ENTRY != 0)
  else if within i 0x4000 24 then wrong (loadWrong d x (i - 0x4000))
  else if within i 0x4480 256 then wrong (slotMoves d x (i - 0x4480) && d.slotBusy (i - 0x4480))
  else if within i 0x4820 256 then wrong (partBusy d x (i - 0x4820))
  else if i = 0x4C00 then wrong (twcWrong d x)
  else wrong false

/-- A binding (Table 3.10). -/
def bindFault (x : Dev) (b : Nat) : Option Nat :=
  if !x.hallExists (x.get (Ent.Bind.HALL b)) then some 2
  else if x.flag (Ent.Bind.ENABLE b) && (x.hmacKey (x.get (Ent.Bind.KEY_SLOT b))).isNone then some 4
  else none

/-- Records of SRC_CONFIG (Table 14.12): a TARGET may not be a core of the scan engine (R238). -/
def srcConfigFault (d x : Dev) : Option Nat :=
  let t (n : Nat) : Nat := leAt (x.oct Ent.Irq.SRC_CONFIG) (4 * n + 1) 1
  if (List.range 512).any fun n => (fixedTarget n).isNone && !srcReserved n && t n != d.srcTarget n && decide (4 ≤ t n) && decide (t n ≤ 11) && d.engineCore (t n - 4)
  then some 1 else none

/-- A port (Table 5.12). -/
def portFault (x : Dev) (p : Nat) : Option Nat :=
  if x.get (Ent.Pcfg.AN p) = 1 ∧ x.get (Ent.Pcfg.MODE p) ≠ 5 then some 3
  else if !x.vidValid (x.get (Ent.Pcfg.PVID p)) then some 6
  else if x.get (Ent.Pcfg.TCM_BURST p) < x.get (Ent.Pcfg.MAX_FRAME p) then some 0xF
  else none

/-- The shared pool would fall below 8,192 cells (R89): the first subindex whose value rises. -/
def poolFault (d x : Dev) (i : Nat) : Option Nat :=
  match x.sharedSize with
  | some n => if n < 8192 then first else none
  | none => first
where
  /-- The subindices that enter the sum. -/
  first : Option Nat :=
    let subs := if i = 0x3400 then [2] else [1, 0x10, 0x11, 0x12, 0x13, 0x14, 0x15, 0x16, 0x17]
    let v (y : Dev) (s : Nat) : Nat := (rowOf i s).elim 0 fun r => y.get (r.entry i s)
    some ((subs.find? fun s => decide (v d s < v x s)).getD 0)

/-- On an armed unit, an APPLY that leaves START_NS and PERIOD_NS as they are, with a COUNT not above the firings counted, disarms it (R161). -/
def trigDone (d x : Dev) (u : Nat) : Bool :=
  let same (e : Entry) : Bool := x.get e == d.get e
  let n := x.get (Ent.Trgu.COUNT u)
  d.flag (Ent.Trgu.ENABLE u) && same (Ent.Trgu.START_NS u) && same (Ent.Trgu.PERIOD_NS u) && n != 0 && decide (n ≤ KV.get 0 u d.time.trigCount)

/-- A trigger unit (R160): `x` holds the proposed values. The kind-5 checks are made when the APPLY leaves the unit armed. -/
def trigFault (d x : Dev) (u : Nat) : Option Nat :=
  let t := x.get (Ent.Trgu.TARGET u)
  let k := t / 4096
  let n := t % 4096
  let range : Nat := ([1, 0, 16, 24, 16, 4][k]?).getD 0
  if range ≤ n then some 5
  else if k = 5 ∧ x.flag (Ent.Trgu.ENABLE u) ∧ !trigDone d x u ∧
      (x.get (Ent.Trgp.DIR n) = 0 ∨ (List.range 32).any fun v => v != u && x.flag (Ent.Trgu.ENABLE v) && x.get (Ent.Trgu.TARGET v) == t) then some 5
  else none

/-- A trigger pin (R160). -/
def trigPinFault (x : Dev) (n : Nat) : Option Nat :=
  if x.get (Ent.Trgp.DIR n) = 0 ∧ (List.range 32).any fun u => x.flag (Ent.Trgu.ENABLE u) && x.get (Ent.Trgu.TARGET u) == 0x5000 + n then some 1 else none

/-- The checks of an APPLY that answer CONFLICT: the first subindex at fault (R66). -/
def groupFault (d x : Dev) (i : Nat) : Option Nat :=
  let f : Option Nat :=
    if within i 0x2020 16 then bindFault x (i - 0x2020)
    else if i = 0x2101 then pfFault x
    else if i = 0x2200 then clkFault x
    else if within i 0x2210 4 then domFault x (i - 0x2210)
    else if within i 0x2420 32 then keyFault x (i - 0x2420)
    else if within i 0x2600 256 then hallGroupFault d x (i - 0x2600)
    else if i = 0x2A01 then srcConfigFault d x
    else if within i 0x2C10 4 then defQpFault x (i - 0x2C10)
    else if i = 0x2C18 then hall0QpFault x
    else if within i 0x2D00 256 then windowsFault x (i - 0x2D00)
    else if within i 0x2E00 256 then qpFault x (i - 0x2E00)
    else if within i 0x3000 54 then portFault x (i - 0x3000)
    else if i = 0x3400 ∨ within i 0x3440 54 then poolFault d x i
    else if i = 0x3501 then tablesFault (x.oct Ent.Tbl.VLAN_TABLE) (x.oct Ent.Tbl.MCAST_TABLE) (x.oct Ent.Tbl.STATIC_FDB) (x.oct Ent.Tbl.STREAM_TABLE)
    else if within i 0x3540 48 then
      if (x.oct (Ent.Gcl.ADMIN_GCL (i - 0x3540))).length ≠ 4 * x.get (Ent.Gcl.ADMIN_LENGTH (i - 0x3540)) then some 6 else none
    else if i = 0x3601 then if x.get Ent.Prof.STEP_THRESH_NS ≤ x.get Ent.Prof.SYNC_THRESH_NS then some 0xD else none
    else if within i 0x3620 4 then trigPinFault x (i - 0x3620)
    else if within i 0x3700 32 then trigFault d x (i - 0x3700)
    else none
  f.orElse fun _ => (second d x i).orElse fun _ => allocFault d x i
where
  second (_ x : Dev) (i : Nat) : Option Nat :=
    if within i 0x3800 256 then
      let n := (i - 0x3800) / 16
      match i % 16 with
      | 0 => canFault x n
      | 2 => canObjFault x n
      | 3 => if x.get (Ent.CanRef.REF_ID n) % 8 ≠ 0 then some (Ent.CanRef.REF_ID n).sub else none
      | _ => none
    else if within i 0x3A00 4 then buFault x (i - 0x3A00)
    else if within i 0x3B00 256 then bctxFault x ((i - 0x3B00) / 64) ((i - 0x3B00) % 64)
    else if within i 0x3C10 32 then domainFault x (i - 0x3C10)
    else if i = 0x3C40 then watchFault x
    else if within i 0x3C50 18 then wakeFault x (i - 0x3C50)
    else if within i 0x4000 24 then loadFault x (i - 0x4000)
    else if i = 0x4401 then senetFault x
    else if within i 0x4480 256 then slotFault x (i - 0x4480)
    else if i = 0x4801 ∨ within i 0x4820 256 then partFault x
    else if i = 0x4C00 then twcFault x
    else none

/-! ### Boundaries and effects -/

/-- The unit's boundary is there: a domain's switch is done (R428), no crypto job uses the key slot (R404), no frame of the CAN
channel is on the bus (R192); every other group's boundary comes with the
command that makes its values take effect. -/
def Dev.groupReady (d : Dev) (i : Nat) : Bool :=
  if within i 0x2210 4 then d.domReady (i - 0x2210) else if within i 0x2420 32 then !d.keyBusy (i - 0x2420)
  else if within i 0x3800 256 then (d.canCh ((i - 0x3800) / 16)).onBus.isNone
  else if within i 0x4110 16 then (d.conv ((i - 0x4110) / 8)).run.isNone
  else if within i 0x4130 16 then ([0, 1] : List Nat).all fun a => !(d.conv a).run.any fun r => r.list.contains (i - 0x4130)
  else true

/-- SRC_CONFIG takes effect: record 0, reserved sources and fixed fields are left (R331). -/
def Dev.srcConfigApplied (d : Dev) : Dev :=
  let b := d.oct Ent.Irq.SRC_CONFIG
  (List.range 512).foldl (fun d n =>
    if srcReserved n then d
    else
      let d := (d.setFld (Rg.Src.ENABLE n) (leAt b (4 * n) 1 / 128)).setFld (Rg.Src.MOD_US n) (leAt b (4 * n + 2) 2)
      let d := if 13 ≤ n ∧ n ≤ 24 then d else d.setFld (Rg.Src.PRIORITY n) (leAt b (4 * n) 1)
      if (fixedTarget n).isSome ∨ 11 < leAt b (4 * n + 1) 1 then d else d.setFld (Rg.Src.TARGET n) (leAt b (4 * n + 1) 1)) d

/-- A trigger unit's values are in effect (R158, R161). -/
def Dev.trigApplied (d old : Dev) (u : Nat) : Dev :=
  if !d.flag (Ent.Trgu.ENABLE u) then d
  else
    let same (e : Entry) : Bool := d.get e == old.get e
    if trigDone old d u then d.put (Ent.Trgu.ENABLE u) 0
    else if old.flag (Ent.Trgu.ENABLE u) && same (Ent.Trgu.START_NS u) && same (Ent.Trgu.PERIOD_NS u) then d
    else (d.put (Ent.Trgu.NEXT_NS u) (d.get (Ent.Trgu.START_NS u))).setTime fun t => { t with trigCount := KV.erase u t.trigCount }

/-- The QUOTA line of each hall whose holdings changed (R377). -/
def Dev.allocLines (d old : Dev) (i : Nat) : Dev :=
  (((movedAllocs old d i).flatMap fun p => [p.1.hall, p.2.hall]).eraseDups).foldl Dev.quotaLine d

/-- The values are in effect: what that does in the unit. `old` is the device before. -/
def Dev.groupApplied (d old : Dev) (i : Nat) : Dev :=
  let same (e : Entry) : Bool := d.get e == old.get e
  let d := d.allocLines old i
  if within i 0x2020 16 then if d.flag (Ent.Bind.ENABLE (i - 0x2020)) then d else d.closeSessions fun s => s.binding == i - 0x2020
  else if i = 0x2200 then d.clkApplied
  else if within i 0x2420 32 then d.keyApplied (i - 0x2420)
  else if within i 0x2600 256 then d.hallGroupApplied old (i - 0x2600)
  else if i = 0x2A01 then d.srcConfigApplied
  else if within i 0x2A10 4 then d.pairApplied (i - 0x2A10)
  else if within i 0x2C40 64 then d.dmaApplied old (i - 0x2C40)
  else if within i 0x2D00 256 then (d.windowsApplied (i - 0x2D00)).quotaLine (i - 0x2D00)
  else if within i 0x2E00 256 then d.qpApplied old (i - 0x2E00)
  else if within i 0x3000 54 then
    let p := i - 0x3000
    let m := !same (Ent.Pcfg.MODE p)
    let tokens := if same (Ent.Pcfg.TCM_RATE p) && same (Ent.Pcfg.TCM_BURST p) then d.tcmTokens p else old.tcmTokens p
    d.portApplied p tokens m (!same (Ent.Pcfg.ROLE p) || !same (Ent.Pcfg.AN p))
  else if i = 0x3400 ∨ within i 0x3440 54 then d.sharedSizeSet
  else if i = 0x3501 then d.tablesSwitched (old.streamRecs)
  else if within i 0x3540 48 then d.gclApplied (i - 0x3540)
  else if i = 0x3601 then
    if same Ent.Prof.PROFILE && same Ent.Prof.DOMAIN && same Ent.Prof.TRANSPORT then d.ptpRoles else d.ptpRestart
  else if within i 0x3640 48 then d.ptpRoles
  else if within i 0x3700 32 then d.trigApplied old (i - 0x3700)
  else second d old i
where
  second (d old : Dev) (i : Nat) : Dev :=
    if within i 0x3800 256 then
      let n := (i - 0x3800) / 16
      match i % 16 with
      | 0 => d.canApplied old n
      | 2 => d.canObjApplied old n
      | 4 => d.canCoApplied old n
      | _ => d
    else if within i 0x3B00 256 then d.bctxApplied old ((i - 0x3B00) / 64) ((i - 0x3B00) % 64)
    else if within i 0x3C10 32 then d.refreshDomain (i - 0x3C10)
    else if within i 0x4110 16 then d.ainApplied old (i - 0x4110)
    else if within i 0x4480 256 then d.slotApplied old (i - 0x4480)
    else if i = 0x4801 then d.hallsMibApplied
    else if within i 0x4820 256 then d.partApplied (i - 0x4820)
    else if i = 0x4C00 then d.twcApplied old
    else d

end Sys2Proof.Machine
end

