-- ==== Sys2Proof/Machine/Triggers.lean ====
section
/-! DEFINITION. Trigger units and steps of time, and events that reach across units: link-down, CAN errors and received CAN frames, PDO timers
(R117, R146, R153, R154, R156, R158, R159, R161, R173, R181, R186, R190). -/

namespace Sys2Proof.Machine

/-! ### Trigger units -/

/-- FIRED 0 and MISSED 1 of a unit (Table 6.9). -/
def trigUnitCounter (u i : Nat) : Counter := ⟨⟨0x3700 + u, 0x11 + i, 64, 0⟩, Ent.Trgu.COUNTER_SAT u, i, srcTime (0x10 + u)⟩

/-- The level of a trigger pin, from its pulse (Table 6.8). -/
def Dev.pinOut (d : Dev) (n : Nat) (pulse : Bool) : Dev := d.emit (.line "TRIG" n (pulse != d.flag (Ent.Trgp.POLARITY n)))

/-- Kind 5: a pulse of PULSE_NS; during an earlier one no new edge, and the pulse is extended (R159). -/
def Dev.startPulse (d : Dev) (n : Nat) : Dev :=
  if d.get (Ent.Trgp.DIR n) ≠ 1 then d
  else
    let was := (KV.find n d.time.pulses).isSome
    let d := d.setTime fun t => { t with pulses := KV.insert n (t.raw + d.get (Ent.Trgp.PULSE_NS n)) t.pulses }
    if was then d else d.pinOut n true

/-- A pin's pulse ends PULSE_NS after the last firing that drove it (R159). -/
def triggerPulseEndOp (n : Nat) (d : Dev) : Dev :=
  if (KV.find n d.time.pulses).any fun t => decide (t ≤ d.time.raw) then (d.setTime fun t => { t with pulses := KV.erase n t.pulses }).pinOut n false else d

/-- What a firing for the instant `at_` does to its target (Table 6.5). -/
def Dev.trigTarget (d : Dev) (u at_ missed period : Nat) : Dev :=
  let k := d.get (Ent.Trgu.TARGET u) / 4096
  let n := d.get (Ent.Trgu.TARGET u) % 4096
  match k with
  | 1 => if d.role = 2 then d.standbyInstant n at_ else d.taskInstant n at_ missed
  | 2 => if n < 16 then d.startSeq (n / 8) (n % 8) else d
  | 3 => if n < 24 then d.pwmRestart n else d
  | 4 => if n < 16 then d.refSend n (d.get (Ent.Trgu.FIRED u)) period d.standby else d
  | 5 => if n < 4 then d.startPulse n else d
  | _ => d

/-- The period of a unit; of one that the scan engine re-arms one-shot, its task's (R240). -/
def Dev.trigPeriod (d : Dev) (u : Nat) : Nat :=
  if d.get (Ent.Trgu.OWNER u) = 1 then
    match imgTask d.image (d.get (Ent.Trgu.TARGET u) % 4096) with
    | some r => r.period * 1000
    | none => d.get (Ent.Trgu.PERIOD_NS u)
  else d.get (Ent.Trgu.PERIOD_NS u)

/-- How far the instant `t` lies behind corrected time now, by the comparison of R50; `none` for one still to come. -/
def Dev.behind (d : Dev) (t : Nat) : Option Nat :=
  let n := ofInt 64 ((d.now : Int) - t)
  if n < 2 ^ 63 then some n else none

/-- The unit fires once for the last instant not after now; of a step, the others it passed are missed (R158, R161). NEXT_NS becomes the first instant
after now. -/
def Dev.fireUnit (d : Dev) (u : Nat) (step : Bool) : Dev :=
  let nxt := d.get (Ent.Trgu.NEXT_NS u)
  if u ≥ 32 ∨ d.flag (Ent.Trgu.ENABLE u) = false then d
  else match d.behind nxt with
  | none => d
  | some late =>
    let per := d.trigPeriod u
    let n := if per = 0 then 0 else late / per
    let missed := if step then n else 0
    let own := d.get (Ent.Trgu.OWNER u)
    let fired := KV.get 0 u d.time.trigCount + 1
    let d := (d.count (trigUnitCounter u 0)).setTime fun t => { t with trigCount := KV.insert u fired t.trigCount }
    let d := if !step then d
      else (if missed = 0 then d else d.count (trigUnitCounter u 1) missed).limited (scopeOf (srcTime (0x10 + u)) 0x0023) missed fun d c =>
        d.event (srcTime (0x10 + u)) 0x0023 (min c 0xFFFFFFFF)
    let limit := d.get (Ent.Trgu.COUNT u)
    let d := d.put (Ent.Trgu.NEXT_NS u) (nxt + (n + 1) * per)
    let d := if per = 0 ∨ (limit ≠ 0 ∧ limit ≤ fired) then d.put (Ent.Trgu.ENABLE u) 0
      else if own = 1 ∧ d.get (Ent.Trgu.PERIOD_NS u) = 0 then d.put (Ent.Trgu.START_NS u) (nxt + (n + 1) * per)
      else d
    let d := (d.raise (32 + u)).trigTarget u (nxt + n * per) missed per
    if own = 0 then d.unitEvent u (nxt + n * per) else d

def triggerFireOp (u : Nat) (d : Dev) : Dev := d.fireUnit u false

/-! ### Steps of time -/

/-- Corrected time steps: TIME_STEP, the units whose instants a forward step passed, the gate schedules (R146, R161, R140). -/
def Dev.stepTime (d : Dev) (s : Int) : Dev :=
  let d := d.moveTime s
  let d := if 0 < s then (List.range 32).foldl (fun d u => d.fireUnit u true) d else d
  (List.range 48).foldl Dev.schedStepped d

/-- A pending adjustment is applied in one raw tick: its rate, then its step, then its quality (R146). -/
def Dev.takeAdjust (d : Dev) (a : Adjust) : Dev :=
  let d := d.setTime fun t => { (match a.rate with
    | some r => t.newRate r
    | none => t) with pending := none }
  let d := match a.step with
    | some s => d.stepTime s
    | none => d
  match a.quality with
  | some q => d.setQuality q
  | none => d

/-- The tick of an adjustment with a rate, a step, a quality: all that one GO asks for is taken together. -/
def Dev.adjustTick (d : Dev) (p : Adjust → Bool) : Dev :=
  match d.time.pending with
  | some a => if p a then d.takeAdjust a else d
  | none => d

def timeRateChangeOp (d : Dev) : Dev := d.adjustTick (·.rate.isSome)
def timeStepOp (d : Dev) : Dev := d.adjustTick (·.step.isSome)
def qualitySetOp (d : Dev) : Dev := d.adjustTick (·.quality.isSome)

/-- SET_TIME, only in PROFILE 4 (R154). -/
def setTimeOp (v : Nat) (d : Dev) : Dev :=
  if d.get Ent.Prof.PROFILE ≠ 4 then d.answer .wrongState
  else (d.stepTime (toInt 64 (ofInt 64 ((v : Int) - d.now)))).answer .ok

/-! ### The servo (R156) -/

/-- The servo has measured an offset, master less local: above STEP_THRESH_NS it steps once and enters LOCKING, otherwise it slews; the RATE it
chooses is a free value (assumption 3). A step begins the count of good messages anew; MASTER_OFFSET saturates (DESIGN CHOICE, assumption 61). -/
def Dev.servo (d : Dev) (o : Int) : Dev :=
  let d := d.put Ent.Time.MASTER_OFFSET (ofInt 32 (max (-2147483648) (min 2147483647 o)))
  if d.get Ent.Prof.STEP_THRESH_NS < o.natAbs then ((d.stepTime o).setTime fun t => { t with goodSyncs := 0 }).setQuality 1
  else
    let (v, d) := d.draw 32
    (d.setTime fun t => t.newRate (toInt 32 v.toNat)).syncQuality o

/-- The receive stamp of a PTP message, if it carries one. -/
def ptpRx : PtpMsg → Option FrameStamp
  | .sync _ _ x | .pdelayReq _ x _ | .pdelayResp _ _ _ x | .delayReq _ x => some x
  | .announce _ _ _ | .delayResp _ _ => none

/-- A difference of two stamps in 1/256 ns. -/
def stampDiff (a b : Int) : Int := toInt 72 (ofInt 72 (a - b))

/-- A mean delay in 1/256 ns, as MEAN_LINK_DELAY holds it. -/
def Dev.setDelay (d : Dev) (p : Nat) (v : Int) : Dev := d.put (Ent.Ptime.MEAN_LINK_DELAY p) (min v.toNat (2 ^ 32 - 1))

/-- A PTP message delivered to the timebase unit (R151 to R153, R155). One of another domain is stamped and goes no further. -/
def ptpMessageReceiveOp (p dom : Nat) (m : PtpMsg) (d : Dev) : Dev :=
  if !d.ptpOn p then d
  else
    let d := if (ptpRx m).isSome then d.count (rxStamps p) else d
    if dom ≠ d.get Ent.Prof.DOMAIN then d
    else match m with
    | .sync origin corr x =>
      if d.get (Ent.Ptime.PORT_STATE p) = 3 then
        let late := stampDiff (d.rxStampAt p x) ((origin : Int) * 256 + corr / 256)
        (d.setTime fun t => { t with lastSync := some t.raw, seen := KV.insert p late t.seen }).servo (((d.linkDelay p : Int) - late) / 256)
      else d
    | .announce gm st self =>
      let self := self && !d.flag Ent.Prof.SLAVE_ONLY
      let was := d.time.grandmaster
      let d := ((d.setPtpState p (d.ptpPortState p st)).setGrandmaster gm).setTime fun t => { t with grandmaster := self }
      if self ∧ !was then d.setQuality 2 else d
    | .pdelayReq seq x tx =>
      if d.peerDelay p then
        ((d.ptpOut p .pdelayResp seq true 0 (stampBytes (d.rxStampAt p x) ++ zeros 10)).count (txStamps p)).ptpOut p .pdelayFollowUp seq false 0
          (stampBytes (d.txStampAt p tx) ++ zeros 10)
      else d
    | .pdelayResp t2 t3 corr x =>
      match KV.find (2 * p) d.time.sent with
      | some t1 => if d.peerDelay p then d.setDelay p ((stampDiff (d.rxStampAt p x) t1 - ((t3 : Int) - t2) * 256 - corr / 256) / 2) else d
      | none => d
    | .delayReq seq x =>
      if d.get (Ent.Ptime.PORT_STATE p) = 2 ∧ d.get Ent.Prof.PROFILE = 1 then d.ptpOut p .delayResp seq false 0 (stampBytes (d.rxStampAt p x) ++ zeros 10) else d
    | .delayResp t4 corr =>
      match KV.find (2 * p + 1) d.time.sent, KV.find p d.time.seen with
      | some t3, some late =>
        if d.get (Ent.Ptime.PORT_STATE p) = 3 ∧ d.get Ent.Prof.PROFILE = 1 then d.setDelay p ((late + stampDiff ((t4 : Int) * 256 - corr / 256) t3) / 2) else d
      | _, _ => d

/-! ### CAN -/

/-- A CAN error; bus-off loses the stations of the channel (R181, Table 10.9). -/
def canErrorOp (n lec : Nat) (at_ : CanErrorAt) (d : Dev) : Dev :=
  let was := d.fld (Rg.Ch.BUS n)
  let d := canErrorCore n lec at_ d
  if was ≠ 2 ∧ d.fld (Rg.Ch.BUS n) = 2 then d.canSlotsLost n else d

/-- A stamp extended with the present time (R150). -/
def Dev.extendStamp (d : Dev) (stamp : Nat) : Nat := ofInt 64 ((d.now : Int) + toInt 32 (ofInt 32 ((stamp : Int) - d.now)))

/-- The reference unit takes a message; in PROFILE 3 on CAN_REF_CH the servo follows it (R186). -/
def Dev.refTaken (d : Dev) (n : Nat) (x : RxFrame) : Dev :=
  let d := d.refReceive n x
  if d.get Ent.Prof.PROFILE ≠ 3 ∨ d.get Ent.Prof.CAN_REF_CH ≠ n then d
  else
    let d := d.setTime fun t => { t with lastSync := some t.raw }
    if d.time.quality = 0 then
      let m := masterTime d.now (leAt x.frame.data 4 2) (leAt x.frame.data 0 4)
      (d.stepTime ((m : Int) - ((d.extendStamp x.stamp : Int) - d.get (Ent.CanRef.REF_DELAY_NS n)))).setQuality 1
    else d.servo (d.refOffset n x)

/-- A frame goes to the object or the FIFO; NEW becoming 1 triggers event tasks (Table 10.2). -/
def Dev.objTaken (d : Dev) (n : Nat) (x : RxFrame) : Dev :=
  let d' := d.objOrFifo n x
  match (if x.frame.rtr then none else d.objFor n x.frame) with
  | some k => if !d.isSet (Rg.Obj.NEW n k) ∧ d'.isSet (Rg.Obj.NEW n k) then d'.objectEvent n k else d'
  | none => d'

/-- The sleep unit observes keep-alives without taking them (R195, R196): their sender is the identifier less KA_CAN_BASE. -/
def Dev.sleepObserves (d : Dev) (n : Nat) (f : CanFrame) : Dev :=
  let base := d.get Ent.Slpm.KA_CAN_BASE
  if f.ide && refMessage f && decide (base ≤ f.id) && decide (f.id ≤ base + 0xFFF) then
    keepaliveReceiveOp n (leAt f.data 0 1) 1 (f.id - base) (leAt f.data 1 1) d
  else d

/-- A frame received without error, with its res bit and the raw time and phase of its SOF (R173): tunnels observe it, then the first consumer takes
it. The reference unit keeps whatever lies in the reference group and acts on reference messages. -/
def canFrameReceiveOp (n : Nat) (f : CanFrame) (res : Bool) (sof phase : Nat) (d : Dev) : Dev :=
  if !d.canReceives n sof then d
  else if d.formError n f res then canErrorOp n 2 .frame d
  else
    let s := d.stampAt sof phase
    let x : RxFrame := ⟨f, s.1, s.2.1, s.2.2, 0⟩
    let d := (d.recDown n).count (canCounter n 0)
    let d := d.sleepObserves n f
    let d := d.tunnelObserve n f (d.extendStamp s.1)
    let role := d.get (Ent.CanRef.REF_ROLE n)
    if (role = 2 ∨ role = 3) ∧ d.inRefGroup n f.ide f.id then (if refMessage f then d.refTaken n x else d)
    else if d.serves n f then d.serve n f
    else match d.rpdoFor n f with
    | some k => d.rpdoReceive k f
    | none => d.objTaken n x

def lockExpiredOp (n k : Nat) (d : Dev) : Dev := d.lockExpired n k
def objTailTakenOp (n k : Nat) (i : Initiator) (d : Dev) : Dev := (objTailReadOp n k i d).shadowMoved d n k

/-- The event timer of a TPDO of type 0xFF expires (R190); a LOST station's is held (Table 10.9), a role that does not drive sends none (R191). -/
def tpdoEventTimerOp (k : Nat) (d : Dev) : Dev :=
  let m := d.pdoMap false k
  let s := d.get (Ent.Co.TPDO_SLOT k)
  if 128 ≤ k ∨ d.get (Ent.Co.TPDO_TYPE k) ≠ 0xFF ∨ m = [] ∨ d.standby then d
  else if s < 256 ∧ d.get (Ent.Stn.STATE s) = 3 then d.count (slotCounter s 4)
  else
    let d := d.tpdoSend k (m.flatMap fun x => d.published (imgOut d.image) x.1 x.2)
    if s < 256 then d.count (slotCounter s 3) else d

/-! ### Links -/

/-- A link condition fails (R117); on an X port `pins` says which of XPRESn_N (bit 0) and XLOSn (bit 1) are high (R116). -/
def linkDownOp (p pins : Nat) (d : Dev) : Dev :=
  if p < 54 then (if 40 ≤ p ∧ p ≤ 47 then d.setLink p fun l => { l with pins := pins % 4 } else d).portDown p else d

/-! ### Meanings -/

def execTriggerFire (u : Nat) (s : State) := onDev s (triggerFireOp u)
def execTriggerPulseEnd (n : Nat) (s : State) := onDev s (triggerPulseEndOp n)
def execTimeStep (s : State) := onDev s timeStepOp
def execSetTime (v : Nat) (s : State) := onDev s (setTimeOp v)
def execTimeRateChange (s : State) := onDev s timeRateChangeOp
def execQualitySet (s : State) := onDev s qualitySetOp
def execPtpMessageReceive (p dom : Nat) (m : PtpMsg) (s : State) := onDev s (ptpMessageReceiveOp p dom m)
def execCanError (n lec : Nat) (at_ : CanErrorAt) (s : State) := onDev s (canErrorOp n lec at_)
def execCanFrameReceive (n : Nat) (f : CanFrame) (res : Bool) (sof phase : Nat) (s : State) := onDev s (canFrameReceiveOp n f res sof phase)
def execObjTailRead (n k : Nat) (i : Initiator) (s : State) := onDev s (objTailTakenOp n k i)
def execLockExpiry (n k : Nat) (s : State) := onDev s (lockExpiredOp n k)
def execTpdoEventTimer (k : Nat) (s : State) := onDev s (tpdoEventTimerOp k)
def execLinkDown (p pins : Nat) (s : State) := onDev s (linkDownOp p pins)

end Sys2Proof.Machine
end

