-- ==== Sys2Proof/Machine/Writes.lean ====
section
/-! DEFINITION. What a dictionary write that is not staged does in its unit (checks 11 and 12 of Table 3.2): the entries whose write acts, and all others,
which take the value as their access code states (R8). -/

namespace Sys2Proof.Machine

/-! ### Answers -/

/-- A request is under way: it counts in its queue until its response is sent (R62, R63). -/
def markWaits (o : Origin) : List QReq → List QReq
  | [] => []
  | q :: r => if q.origin = o ∧ q.waits = false then { q with waits := true } :: r else q :: markWaits o r

/-- The status that a unit answered with. -/
def answerIn (l : List Out) : Option Status :=
  l.findSome? fun
    | .answer s _ => some s
    | _ => none

def notAnswer : Out → Bool
  | .answer _ _ => false
  | _ => true

/-- An older request of the same entry goes on waiting, unless a reset has discarded it. -/
def Dev.waitsAgain (d : Dev) (key : Nat) : Option Origin → Dev
  | some w => if d.d0.queue.any fun q => q.origin == w then d.setD0 fun u => { u with waits := KV.insert key w u.waits } else d
  | none => d

/-- Hand a write to its unit (R62): the request is answered when the unit completes it, at once or later; a unit's own answer is its completion. -/
def Dev.runUnit (d : Dev) (o : Origin) (key : Nat) (f : Dev → Dev) : Dev :=
  let old := KV.find key d.d0.waits
  let before := d.out
  let d := d.setD0 fun u => { u with waits := KV.insert key o u.waits, queue := markWaits o u.queue }
  let d := f { d with out := [] }
  match KV.find key d.d0.waits with
  | none => ({ d with out := before ++ d.out } : Dev).waitsAgain key old
  | some _ =>
    match answerIn d.out with
    | none => { d with out := before ++ d.out }
    | some s =>
      let d := ({ d with out := before ++ d.out.filter notAnswer } : Dev).setD0 fun u => { u with waits := KV.erase key u.waits }
      (d.waitsAgain key old).respond o false s [] 0 []

/-! ### Leases (R399) -/

/-- The gates of the units whose entries an index holds (Table 18.7); entries of no unit with a gate have none. -/
def indexGates (i : Nat) : List Nat :=
  if within i 0x3000 54 then [gatePort (i - 0x3000)]
  else if within i 0x3440 54 then [gatePort (i - 0x3440)]
  else if within i 0x3480 54 then [gatePort (i - 0x3480)]
  else if within i 0x3540 48 then [gatePort (i - 0x3540)]
  else if within i 0x3580 54 then [gatePort (i - 0x3580)]
  else if within i 0x3640 48 then [gatePort (i - 0x3640)]
  else if i = 0x3400 ∨ i = 0x3401 ∨ within i 0x3402 9 ∨ within i 0x3500 3 then [40]
  else if i = 0x3600 ∨ i = 0x3601 then [3]
  else if within i 0x3700 32 then [gateTrigger (i - 0x3700)]
  else if within i 0x3800 256 then [gateCan ((i - 0x3800) / 16)]
  else if within i 0x3A00 4 then [gateBridge (i - 0x3A00)]
  else if within i 0x3B00 256 then [gateBridge ((i - 0x3B00) / 64)]
  else if within i 0x4000 24 then [4]
  else if within i 0x4100 2 then [gateAdc (i - 0x4100)]
  else if within i 0x4130 16 then [gateAdc ((i - 0x4130) / 8)]
  else if within i 0x4400 3 ∨ within i 0x4410 48 ∨ within i 0x4480 256 ∨ i = 0x4600 ∨ i = 0x4610 then [33]
  else if within i 0x4800 4 ∨ within i 0x4820 256 then [145]
  else if within i 0x2A10 4 then [gateCore (4 + 2 * (i - 0x2A10)), gateCore (5 + 2 * (i - 0x2A10))]
  else if within i 0x2A20 12 then [gateCore (i - 0x2A20)]
  else if i = 0x2A01 then [49]
  else if within i 0x2C10 4 then [gatePort (48 + (i - 0x2C10))]
  else if within i 0x2C40 64 then [gateDma (i - 0x2C40)]
  else if within i 0x2D00 256 then [50]
  else if i = 0x2010 ∨ within i 0x2020 16 then [48]
  else []

/-- The leased gate that refuses a normal-world write. -/
def Dev.writeLeased (d : Dev) (secure : Bool) (i : Nat) : Option Nat := if secure then none else (indexGates i).find? d.leased

/-! ### Units -/

/-- The unit whose ENABLE an entry is (R51). -/
def unitOf (i s : Nat) : Option UnitId :=
  if within i 0x3580 54 && s == 1 then some (.port (i - 0x3580))
  else if within i 0x3480 54 && s % 16 == 4 && decide (s < 0x90) then some (.queue (i - 0x3480) (s / 16))
  else if within i 0x3800 256 && i % 16 == 1 && s == 1 then some (.can ((i - 0x3800) / 16))
  else if within i 0x4100 2 && s == 1 then some (.adc (i - 0x4100))
  else if within i 0x3B00 256 && s == 1 then some (.bridge ((i - 0x3B00) / 64) ((i - 0x3B00) % 64))
  else if within i 0x2C40 64 && s == 1 then some (.dma (i - 0x2C40))
  else if within i 0x2C10 4 && s == 1 then some (.hostEngine (i - 0x2C10))
  else if within i 0x2E00 256 && s == 1 then some (.queuePair (i - 0x2E00))
  else none

/-! ### PDO mapping (R190) -/

/-- A mapping entry: nothing, or a length of 8 to 64 bits with bits [15:8] at 0. -/
def mappingOk (v : Nat) : Bool := v == 0 || (bits v 15 8 == 0 && ([8, 16, 32, 64] : List Nat).contains (v % 256))

/-- The first `n` entries of a mapping: at most 8 bytes, none overlapping. -/
def Dev.mappingFits (d : Dev) (i n : Nat) : Bool :=
  let l := (List.range n).map fun k => d.get ⟨i, k + 1, 32, 0⟩
  let spans := l.map fun v => (v / 65536, v % 256 / 8)
  decide (sumBy (·.2) spans ≤ 8) && (List.range n).all fun a => (List.range a).all fun b =>
    let x := (spans[a]?).getD (0, 0)
    let y := (spans[b]?).getD (0, 0)
    decide (x.1 + x.2 ≤ y.1) || decide (y.1 + y.2 ≤ x.1)

/-- A PDO entry (R190): types 0xFE and 0xFF, mapping changes only while the PDO is invalid; whichever entry is written, the entries in use fit. -/
def Dev.pdoStatus (d : Dev) (i s v : Nat) : Status :=
  if within i 0x1400 128 ∨ within i 0x1800 128 then if s = 2 ∧ v ≠ 0xFE ∧ v ≠ 0xFF then .outOfRange else .ok
  else
    if !bit (d.get ⟨i - 0x200, 1, 32, 0x80000000⟩) 31 then .wrongState
    else if s = 0 then (if d.mappingFits i v then .ok else .outOfRange)
    else if mappingOk v ∧ (d.put ⟨i, s, 32, 0⟩ v).mappingFits i (d.get ⟨i, 0, 8, 0⟩) then .ok else .outOfRange

/-! ### Values with a rule of their own (check 10) -/

def Dev.valueOk (d : Dev) (i s v : Nat) : Bool :=
  if within i 0x3000 54 && s == 0xA then (List.range 8).all fun k => !bit v (4 * k + 3)
  else if within i 0x3640 48 && s == 2 then !(v == 2 && decide (24 ≤ i - 0x3640) && decide (i - 0x3640 ≤ 39))
  else if i = 0x2C00 ∧ s = 2 then v % 64 == 0 && decide (64 ≤ v) && decide (v ≤ 1024) && decide (v * 4 ≤ d.get Ent.Mem.DRAM_SIZE_MIB)
  else if i = 0x2C01 then v % 0x10000000 == 0 && decide (0x100000000 ≤ v) && decide (v ≤ 0x2F0000000)
  else if i = 0x1010 then v == 0x65766173
  else if i = 0x1011 then v == 0x64616F6C
  else if i = 0x1016 then v % 65536 == 0 || (decide (1 ≤ bits v 23 16) && decide (bits v 23 16 ≤ 127))
  else if within i 0x2410 1 && decide (s ≤ 0x40) then decide (v < 32768) || decide (v - 32768 ≤ 767)
  else if within i 0x2300 6 then match Dev.gateAt i s with
    | some g => gateWriteOk g v
    | none => true
  else if within i 0x4000 24 && s == 0x20 then bits v 15 3 == 0 && decide (v / 65536 ≤ 10000)
  else if i = 0x4600 ∧ s = 1 then v % 16 == 1 || v % 16 == 2
  else if within i 0x1600 128 || within i 0x1A00 128 then s == 0 || mappingOk v
  else if within i 0x1400 128 || within i 0x1800 128 then s != 2 || v == 0xFE || v == 0xFF
  else true

/-- The same for strings and DOMAINs, as far as their bytes have arrived: LIST names channels 0 to 29 (Table 13.5), INTERVAL of a gate entry is at least
64 (Table 5.11). -/
def bytesOk (i s : Nat) (b : Bytes) : Bool :=
  if within i 0x4110 16 && s == 2 then b.all fun x => decide (x.toNat < 30)
  else if within i 0x3540 48 && s == 6 then (List.range (b.length / 4)).all fun k => decide (64 ≤ leAt b (4 * k) 3)
  else true

/-! ### Entries whose write acts -/

/-- A hall command (Table 16.2). -/
def hallCommand (h v : Nat) (env : WriteEnv) (d : Dev) : Dev :=
  match v with
  | 1 => hallCreateOp h d | 2 => hallDestroyOp h d | 3 => hallResetOp h d | 4 => hallFreezeOp h d | 5 => hallThawOp h d | 6 => hallSaveOp h d
  | 7 => hallRestoreOp h d | 8 => hallMigrateOp h env.rsp d | 9 => hallGoOp h d | 10 => hallCancelOp h d | _ => hallFaultCmdOp h d

/-- Indices 0x1000 to 0x2FFF; `none` for an entry whose write only takes the value. -/
def systemWrite (i s v : Nat) (b : Bytes) (secure : Bool) (env : WriteEnv) (d : Dev) : Option Dev :=
  let key := i * 256 + s
  if 0x1400 ≤ i ∧ i < 0x1B00 then
    match d.pdoStatus i s v with
    | .ok => none
    | st => some (d.finish key st)
  else if i = 0x2100 ∧ s = 3 then some (warmResetOp secure env.bootMs d)
  else if i = 0x2100 ∧ s = 4 then some (unitResetOp v secure d)
  else if i = 0x2108 ∧ s = 1 then
    if v = 2 ∧ d.get Ent.Sec.LIFECYCLE ≠ 0 then some (d.finish key .wrongState)
    else some ((d.put Ent.Pace.PACE_MODE v).finish key .ok)
  else if within i 0x2300 6 then
    match Dev.gateAt i s with
    | some g => some (if bit v 0 then gateOnOp g v secure d else gateOffOp g v secure d)
    | none => none
  else if i = 0x2400 then
    match s with
    | 2 => some (lcAdvanceOp d)
    | 3 => some (returnTokenOp b env.pub d)
    | 4 =>
      let old := d.dbgActive
      some (((d.put Ent.Sec.DBG_EN v).debugChanged old).finish key .ok)
    | 6 => some (debugTokenOp b env.pub d)
    | 9 => some (rollbackSetOp v d)
    | 0xB => some (keyRevokeOp v d)
    | 0xC | 0xD | 0xE => some (watermarkWriteOp (s - 0xC) v false d)
    | _ => none
  else if i = 0x2410 ∧ 1 ≤ s ∧ s ≤ 0x40 then some (if 32768 ≤ v then leaseTakeOp (s - 1) (v - 32768) false d else (leaseReleaseOp (s - 1) false d).setFld (Rg.Lsr.GATE (s - 1)) (v % 1024))
  else if within i 0x2420 32 ∧ s = 4 then some (keyClearOp (i - 0x2420) d)
  else if i = 0x2440 ∧ s = 2 then some (((d.put Ent.Slog.SWDT_PERIOD_MS v).setFld Rg.Swd.PERIOD_MS v).finish key .ok)
  else if within i 0x2600 256 ∧ s = 2 then some (hallCommand (i - 0x2600) v env d)
  else if within i 0x2A10 4 ∧ s = 4 then some (pairResetOp (i - 0x2A10) d)
  else none

/-- Indices 0x3000 to 0x3FFF. -/
def networkWrite (i s v : Nat) (env : WriteEnv) (d : Dev) : Option Dev :=
  let done (d : Dev) : Option Dev := some (d.finish (i * 256 + s) .ok)
  if within i 0x3480 54 ∧ s % 16 = 6 ∧ s < 0x90 then done (queueFlushOp (i - 0x3480) (s / 16) d)
  else if i = 0x3502 ∧ s = 4 then done (fdbFlushOp v d)
  else if i = 0x3502 ∧ s = 7 then done (streamClearOp v d)
  else if i = 0x3502 ∧ s = 8 then done (streamUnblockOp v d)
  else if i = 0x3600 ∧ s = 0xA then some (setTimeOp v d)
  else if i = 0x3C00 ∧ s = 1 then some (if v = 0 then powerReqCancelOp d else powerReq v d)
  else if i = 0x3C00 ∧ s = 4 then some (wakeReqOp env.wake d)
  else if within i 0x3C50 18 ∧ s = 0x10 then some (fwCountClearOp (i - 0x3C50) v d)
  else none

/-- Indices 0x4000 to 0x5FFF. -/
def plantWrite (i s v : Nat) (b : Bytes) (d : Dev) : Option Dev :=
  let key := i * 256 + s
  let said (r : Status × Dev) : Option Dev := some (r.2.finish key r.1)
  if within i 0x4000 24 ∧ s = 0x20 then
    match d.loadCmdStatus (i - 0x4000) v with
    | .ok => if d.rescue then some (d.finish key .wrongState) else some ((d.loadCommand (i - 0x4000) v).finish key .ok)
    | st => some (d.finish key st)
  else if within i 0x4000 24 ∧ s = 0x26 then some ((channelClearOp (i - 0x4000) d).finish key .ok)
  else if i = 0x4400 ∧ s = 1 then
    some (match v with
      | 1 => engineStartOp d | 2 => engineStopOp d | 3 => engineAckFaultOp d | _ => engineLoadOp d)
  else if i = 0x4400 ∧ s = 0xA then some (evtFireOp v d)
  else if i = 0x4600 ∧ s = 1 then some (if v % 16 = 1 then changeStartOp v d else changeCancelOp d)
  else if i = 0x4610 ∧ s = 1 then said (d.forceSet b)
  else if i = 0x4610 ∧ s = 2 then said (d.forceRelease v)
  else if i = 0x4610 ∧ s = 3 then said d.forceReleaseAll
  else if within i 0x4820 256 ∧ s = 3 then said (d.partitionErase (i - 0x4820))
  else if i = 0x4A00 ∧ s = 2 then some (if v = 1 then stagingArmOp d else stagingDiscardOp d)
  else if i = 0x4A00 ∧ s = 7 then some (imageConfirmOp d)
  else if i = 0x4A00 ∧ s = 9 then some (retryActiveOp d)
  else if i = 0x4C01 ∧ s = 6 then some (match v with
    | 1 => twinCmdAttachOp d | 2 => twinCmdDetachOp d | _ => twinCmdHandoverOp d)
  else if i = 0x4C01 ∧ s = 8 then some ((liveKickOp d).finish key .ok)
  else none

/-- A write that only sets the value (R8): bits written as 1 clear in a w1c entry, and a counter's saturation bit with it (R47). -/
def Dev.writeValue (d : Dev) (r : DictRow) (i s v : Nat) (b : Bytes) : Dev :=
  let e := r.entry i s
  match r.ty with
  | .oct _ | .dom _ | .str _ => d.putOct e b
  | .u64 => if r.acc = .w1c then d.clearCounter i s v else d.put e v
  | _ => if r.acc = .w1c then d.put e (clearBits e.bits (d.get e) v) else d.put e v

/-- A write acts in its unit and is completed, at once or later. -/
def Dev.actWrite (d : Dev) (r : DictRow) (i s v : Nat) (b : Bytes) (secure : Bool) (env : WriteEnv) : Dev :=
  match unitOf i s with
  | some x => if v = 1 then unitEnableOp x secure d else unitDisableOp x secure d
  | none =>
    match (if i < 0x3000 then systemWrite i s v b secure env d else if i < 0x4000 then networkWrite i s v env d else plantWrite i s v b d) with
    | some d => d
    | none => (d.writeValue r i s v b).finish (i * 256 + s) .ok

/-- The entry has a meaning of its own at a write: its row is not a plain set. -/
def ownWrite (i s : Nat) : Bool :=
  (unitOf i s).isSome || (i == 0x2100 && (s == 3 || s == 4)) || (within i 0x2300 6) || (i == 0x2400 && s != 0) || (i == 0x2410 && decide (s ≤ 0x40)) ||
  (within i 0x2420 32 && s == 4) || (within i 0x2600 256 && s == 2) || (within i 0x2A10 4 && s == 4) || (within i 0x3480 54 && s % 16 == 6 && decide (s < 0x90)) ||
  (i == 0x3502 && (s == 4 || s == 7 || s == 8)) || (i == 0x3600 && s == 0xA) || (i == 0x3C00 && (s == 1 || s == 4)) || (within i 0x3C50 18 && s == 0x10) ||
  (within i 0x4000 24 && (s == 0x20 || s == 0x26)) || (i == 0x4400 && (s == 1 || s == 0xA)) || (i == 0x4600 && s == 1) ||
  (i == 0x4610 && decide (s ≤ 3)) || (within i 0x4820 256 && s == 3) || (i == 0x4A00 && (s == 2 || s == 7 || s == 9)) || (i == 0x4C01 && (s == 6 || s == 8))

end Sys2Proof.Machine
end

