-- ==== Sys2Proof/Machine/Dictionary.lean ====
section
/-! DEFINITION. D0 executes a request (R60 to R66, R77, R78, R82, R83): the checks of Table 3.2, reads, writes, shadows, APPLY, DOMAIN transfers, and the
stores. -/

namespace Sys2Proof.Machine

/-! ### Who asks (Table 3.3) -/

/-- For whom a request acts, and the owner it is for shadows and transfers (R65). -/
structure Asker where
  hall : Nat
  secure : Bool
  owner : Nat × Nat
  deriving DecidableEq, Repr

def Dev.asker (d : Dev) (o : Origin) : Asker :=
  match o.path with
  | .udp => ⟨((KV.find o.session d.d0.sessions).map fun s => d.get (Ent.Bind.HALL s.binding)).getD 0, false, (o.path.id, o.session)⟩
  | .mailbox h => ⟨h, false, (o.path.id, o.session)⟩
  | .secureMailbox => ⟨0, true, (o.path.id, 0)⟩
  | _ => ⟨0, false, (o.path.id, 0)⟩

/-! ### The checks (Table 3.2) -/

/-- Check 1: NODE_ROLE is implemented with BLOCK_ROLE 1 only; hall 0 has no WINDOWS. -/
def Dev.implemented (d : Dev) (i : Nat) : Bool :=
  i != 0x2D00 && (i != 0x4C40 || d.flag Ent.Twc.BLOCK_ROLE) && !(rowsOf i).isEmpty

/-- A subindex of an index that its chapter does not implement: 0x2600 has :01, :04 and :28 to :2D only (R391), gate indices the listed gates only. -/
def subAbsent (i s : Nat) : Bool :=
  (i == 0x2600 && !(s == 1 || s == 4 || (decide (0x28 ≤ s) && decide (s ≤ 0x2D)))) ||
  (within i 0x2300 6 && s != 0 && (Dev.gateAt i s).isNone)

/-- The instance an index belongs to is allocated to hall `h` (R59); a host port's queues go with a queue pair of the hall. -/
def Dev.indexOwned (d : Dev) (h i s : Nat) : Bool :=
  (within i 0x2020 16 && d.get (Ent.Bind.HALL (i - 0x2020)) == h) || (within i 0x2A24 8 && bit (d.get (Ent.Hall.CCORES h)) (i - 0x2A24)) ||
  (within i 0x2C40 64 && d.get (Ent.Dma.HALL (i - 0x2C40)) == h) || (within i 0x2E00 256 && d.get (Ent.Qp.HALL (i - 0x2E00)) == h) ||
  (within i 0x3B00 256 && d.get (Ent.Bctx.HALL (i - 0x3B00)) == h) ||
  (within i 0x34B0 4 && (rowOf i s).any (fun r => r.notes.contains .owningHall) &&
    (d.qpOf h).any fun q => d.get (Ent.Qp.PORT q) == 48 + (i - 0x34B0))

/-- Check 2: a tenant hall's view (R59), its IOMMU windows among what it owns (Table 16.3). -/
def Dev.inView (d : Dev) (a : Asker) (i s : Nat) : Bool :=
  a.secure || a.hall == 0 || within i 0x1000 0x20 || i == 0x2000 || i == 0x2600 + a.hall || i == 0x2D00 + a.hall ||
  (rowOf i s).any (fun r => r.notes.contains .allHalls) || d.indexOwned a.hall i s

/-- The epoch of the reassignable unit whose own index this is (R61), with the source of its events. -/
def Dev.indexEpoch (d : Dev) (i : Nat) : Option (Nat × Nat) :=
  if within i 0x2600 256 then some (d.epoch (.hall (i - 0x2600)), srcHall (i - 0x2600))
  else if within i 0x2C40 64 then some (d.epoch (.dma (i - 0x2C40)), srcDma (i - 0x2C40))
  else if within i 0x2E00 256 then some (d.epoch (.qp (i - 0x2E00)), srcDma (0x100 + (i - 0x2E00)))
  else if within i 0x3B00 256 then some (d.epoch (.bridge (i - 0x3B00)), srcBridge ((i - 0x3B00) / 64) ((i - 0x3B00) % 64))
  else if within i 0x4480 256 then some (d.epoch (.station (i - 0x4480)), srcSlot (i - 0x4480))
  else if i = 0x4C00 ∨ i = 0x4C01 then some (d.get Ent.Tws.ROLE_EPOCH, srcTwin)
  else none

/-- Check 6. -/
def accessStatus (r : DictRow) (write : Bool) : Status :=
  match r.acc with
  | .ro | .const | .rc => if write then .writeProtected else .ok
  | .wo => if write then .ok else .readProtected
  | _ => .ok

/-- Check 8. -/
def typeFits (r : DictRow) (q : DictReq) : Bool :=
  match q.ty with
  | none => true
  | some t => t == r.ty.code || (t == 0 && !q.write)

/-- Check 9 for a value that is written whole; a DOMAIN's segments have rules of their own. -/
def lengthFits (r : DictRow) (n : Nat) : Bool :=
  match r.ty with
  | .oct k => n == k
  | .str k => decide (n ≤ k)
  | .dom _ => true
  | t => t.bytes == some n

/-- Check 10: the accepted values, and the multiples they must be. -/
def DictRow.accepts (r : DictRow) (v : Nat) : Bool :=
  let x : Int := if r.ty.signed then toInt r.ty.bits v else (v : Int)
  (r.spans.isEmpty || r.spans.any fun p => decide (p.1 ≤ x) && decide (x ≤ p.2)) && decide (x % (max 1 r.step : Nat) = 0)

/-- Checks 1 to 8: the entry's row, or the status of the first that fails. -/
def Dev.checkEntry (d : Dev) (a : Asker) (q : DictReq) : Except Status DictRow :=
  if !d.implemented q.index then .error .noObject
  else if !d.inView a q.index q.sub then .error .noObject
  else if subAbsent q.index q.sub then .error .noSubindex
  else match rowOf q.index q.sub with
  | none => .error .noSubindex
  | some r =>
    let tenant := !a.secure && a.hall != 0
    if !a.secure && (r.notes.contains .secureOnly || (q.write && r.acc == .rws)) then .error .worldDenied
    else if tenant && (within q.index 0x2600 256 && (q.sub == 0x30 || q.sub == 0x31)) then .error .hallDenied
    else if tenant && q.write && (r.acc == .rw || r.acc == .w1c || r.acc == .wo) && !r.notes.contains .owningHall then .error .hallDenied
    else match accessStatus r q.write with
    | .ok =>
      if q.epv && (d.indexEpoch q.index).any (fun e => e.1 != q.epoch) then .error .staleEpoch
      else if typeFits r q then .ok r else .error .typeMismatch
    | s => .error s

/-! ### Answers -/

/-- The descriptor of a read's response (Table 3.7). -/
def descriptorOf (r : DictRow) (q : DictReq) (total : Nat) : Bytes :=
  le 2 q.index ++ le 1 q.sub ++ zeros 1 ++ le 4 q.offset ++ le 2 r.ty.code ++ zeros 2 ++ le 4 total

/-- A write, or a refused request, is answered. -/
def Dev.answerReq (d : Dev) (o : Origin) (write : Bool) (s : Status) : Dev := d.respond o (!write) s [] 0 []

/-- A refusal by check 7 is the unit's to report (R45). -/
def Dev.refuseReq (d : Dev) (q : QReq) (s : Status) : Dev :=
  let d := match s, d.indexEpoch q.req.index with
    | .staleEpoch, some e => d.staleReject e.2 e.1
    | _, _ => d
  d.answerReq q.origin q.req.write s

/-! ### Reads -/

/-- The DOMAINs whose later segments come from one snapshot taken at OFFSET 0. -/
def snapshotDomain (i s : Nat) : Bool :=
  (i == 0x3502 && (s == 5 || s == 6)) || (i == 0x4803 && s == 4) || (i == 0x2440 && s == 1) || (i == 0x4402 && s == 2) || (i == 0x4610 && s == 5) || (within i 0x2600 256 && s == 0x30)

def snapshotKey (key : Nat) (w : Nat × Nat) : Nat := (key * 4096 + w.1) * 2 ^ 32 + w.2

/-- The value a read returns: the shadow's for its owner with the shadow flag, else the active one (R64); so it is while the group applies too
(DESIGN CHOICE, assumption 61). -/
def Dev.readValue (d : Dev) (a : Asker) (r : DictRow) (q : DictReq) : Bytes :=
  let key := q.index * 256 + q.sub
  let active := d.entryBytes r q.index q.sub
  match q.shadow, KV.find q.index d.d0.shadows with
  | true, some sh =>
    if sh.owner ≠ a.owner then active
    else match KV.find key sh.blobs, KV.find key sh.values with
      | some b, _ => b
      | none, some v => le (r.ty.bits / 8) v
      | none, none => active
  | _, _ => active

/-- Execute a read (R64, R78). -/
def Dev.readExec (d : Dev) (q : QReq) : Dev :=
  let a := d.asker q.origin
  match d.checkEntry a q.req with
  | .error s => d.refuseReq q s
  | .ok r =>
    if q.req.shadow ∧ (KV.find q.req.index d.d0.shadows).any (fun sh => sh.owner != a.owner) then d.refuseReq q .busy
    else match r.ty with
    | .dom _ =>
      let key := q.req.index * 256 + q.req.sub
      let k := snapshotKey key a.owner
      let d := if snapshotDomain q.req.index q.req.sub && q.req.offset == 0 then d.setD0 fun u => { u with snapshots := KV.insert k (d.readValue a r q.req) u.snapshots } else d
      let b := if snapshotDomain q.req.index q.req.sub then (KV.find k d.d0.snapshots).getD (d.readValue a r q.req) else d.readValue a r q.req
      if b.length < q.req.offset then d.refuseReq q .outOfRange
      else
        let seg := if q.req.ty.isSome then slice b q.req.offset (min 1024 (b.length - q.req.offset)) else b
        d.respond q.origin true .ok (descriptorOf r q.req b.length) b.length seg
    | _ =>
      let b := d.readValue a r q.req
      d.respond q.origin true .ok (descriptorOf r q.req b.length) b.length b

/-! ### DOMAIN segments (R77) -/

/-- The lengths a DOMAIN may have: the least, the greatest and what they are a multiple of. -/
def domainLengths (i s max : Nat) : Nat × Nat × Nat :=
  if i = 0x3501 ∧ s = 3 then (0, max, 16)
  else if i = 0x3501 ∨ i = 0x2A01 ∨ within i 0x2D00 256 ∨ (within i 0x3800 256 ∧ i % 16 = 2) ∨ within i 0x3A00 4 then (max, max, 1)
  else if i = 0x4A01 then (4096, max, 1)
  else (0, max, 1)

/-- Checks 9 and 10 of a segment, then BUSY for another writer's DOMAIN. -/
def Dev.segmentStatus (d : Dev) (a : Asker) (q : DictReq) (max : Nat) : Status :=
  let x := KV.find (q.index * 256 + q.sub) d.d0.transfers
  let stop := q.offset + q.data.length
  let (lo, hi, m) := domainLengths q.index q.sub max
  let before := if q.offset = 0 then [] else (x.map (·.data)).getD []
  if q.ty.isSome && decide (1024 < q.data.length) then .lengthMismatch
  else if decide (q.total < stop) || (decide (stop = q.total) == q.more) then .lengthMismatch
  else if !bytesOk q.index q.sub (before ++ q.data) then .outOfRange
  else if q.offset = 0 then
    if q.total < lo ∨ hi < q.total ∨ q.total % m ≠ 0 then .outOfRange else if x.any fun t => t.owner != a.owner then .busy else .ok
  else match x with
    | none => .outOfRange
    | some t =>
      if t.owner ≠ a.owner then .busy
      else if q.total ≠ t.total then .lengthMismatch
      else if q.offset ≠ t.data.length then .outOfRange else .ok

/-! ### Shadows (R64 to R66) -/

/-- A write into a group's shadow: refused with BUSY while another owns it or the group applies; with WRONG_STATE for the engine's trigger units
(R160). -/
def Dev.shadowStatus (d : Dev) (a : Asker) (i : Nat) : Status :=
  if (KV.find i d.d0.applying).isSome then .busy
  else if (KV.find i d.d0.shadows).any fun sh => sh.owner != a.owner then .busy
  else if within i 0x3700 32 ∧ d.get (Ent.Trgu.OWNER (i - 0x3700)) = 1 then .wrongState
  else .ok

def Dev.shadowWrite (d : Dev) (a : Asker) (i : Nat) (f : Shadow → Shadow) : Dev :=
  let sh := (KV.find i d.d0.shadows).getD ⟨a.owner, [], [], 0⟩
  d.setD0 fun u => { u with shadows := KV.insert i { f sh with since := d.time.raw } u.shadows }

/-- An APPLY ends with a status and the first subindex in conflict: APPLY_STATUS keeps both. -/
def Dev.applyEnds (d : Dev) (o : Origin) (i : Nat) (s : Status) (sub : Nat) : Dev :=
  (d.put (applyStatus i) (s.code * 65536 + sub % 256 * 256)).respond o false s [] 0 []

/-- Values and strings of a shadow that holds none. -/
def Dev.shadowOf (d : Dev) (i : Nat) : KV Nat × KV Bytes := ((KV.find i d.d0.shadows).map fun sh => (sh.values, sh.blobs)).getD ([], [])

/-- An APPLY of group `i` (R66, R377). -/
def Dev.applyGroup (d : Dev) (o : Origin) (i : Nat) : Dev :=
  let a := d.asker o
  let sh := KV.find i d.d0.shadows
  if (KV.find i d.d0.applying).isSome || sh.any (fun x => x.owner != a.owner) then d.applyEnds o i .busy 0
  else
    let (vs, bs) := d.shadowOf i
    let x := d.withValues vs bs
    let d := d.setD0 fun u => { u with shadows := KV.mapVal (fun k y => if k = i then { y with since := d.time.raw } else y) u.shadows }
    match d.groupState x i ((vs.map fun e => e.1 % 256) ++ bs.map fun e => e.1 % 256) a.secure with
    | .ok =>
      if vs.isEmpty && bs.isEmpty then d.applyEnds o i .ok 0
      else match groupFault d x i with
      | some sub => d.applyEnds o i .conflict sub
      | none =>
        match (if (d.allocs i).isEmpty then none else quotaFault d x) with
        | some sub => d.applyEnds o i .quota sub
        | none => d.setD0 fun u => { u with applying := KV.insert i ⟨o, a.owner, vs, bs⟩ u.applying, queue := markWaits o u.queue }
    | s =>
      let d := if s = .leased then d.leaseRefused (domGate (i - 0x2210)) .leased else d
      d.applyEnds o i s 0

/-- A write of 2 to APPLY (R64, R65). -/
def Dev.discardGroup (d : Dev) (o : Origin) (i : Nat) : Dev :=
  if (KV.find i d.d0.applying).isSome || (KV.find i d.d0.shadows).any (fun x => x.owner != (d.asker o).owner) then d.respond o false .busy [] 0 []
  else (d.setD0 fun u => { u with shadows := KV.erase i u.shadows }).respond o false .ok [] 0 []

/-- The applied values take effect together at the unit's boundary; the response follows, except that it precedes the values of 0x2010 (R66). A
trigger unit whose instant falls in the tick fires under the old values first (R161). -/
def Dev.applyEffect (d : Dev) (i : Nat) (x : Applying) : Dev :=
  let d := if within i 0x3700 32 then d.fireUnit (i - 0x3700) false else d
  let settle (d : Dev) : Dev :=
    ((d.withValues x.values x.blobs).groupApplied d i).setD0 fun u =>
      { u with applying := KV.erase i u.applying, shadows := KV.keep (fun k y => k != i || y.owner != x.owner) u.shadows }
  if i = 0x2010 then settle (d.applyEnds x.origin i .ok 0) else (settle d).applyEnds x.origin i .ok 0

/-! ### Stores (R83) -/

/-- A store or restore of class `n` runs until its commit. -/
def Dev.storeStart (d : Dev) (o : Origin) (restore : Bool) (n : Nat) : Dev :=
  if d.d0.store.isSome then d.respond o false .busy [] 0 []
  else d.setD0 fun u => { u with store := some ⟨restore, n, o⟩, queue := markWaits o u.queue }

/-- Persistent entries of a class; class 1 is every class. -/
def inClass (n k : Nat) : Bool := persistentKey k && (n == 1 || storeClass (k / 256) == n)

/-- The marks left when a store covers class `n`. -/
def marksLeft (n : Nat) (l : List Nat) : List Nat :=
  if n = 1 then [] else (if l.contains 1 then [2, 3, 4] else l).filter (· != n)

/-- The commit: the journal's other half holds the new set or the new mark. A store takes the values that are active at its commit (DESIGN CHOICE,
assumption 61). -/
def Dev.storeCommit (d : Dev) : Dev :=
  match d.d0.store with
  | none => d
  | some j =>
    let fresh : List Nat := if j.restore then [] else ((d.dict.map (·.1)) ++ d.blobs.map (·.1)).filter (inClass j.cls)
    let d := fresh.foldl (fun d k => d.recordWritten 1 (k / 256)) d
    let d := d.setD0 fun u =>
      if j.restore then { u with store := none, marks := if u.marks.contains j.cls then u.marks else u.marks ++ [j.cls] }
      else { u with
        store := none
        marks := marksLeft j.cls u.marks
        stored := d.dict.foldl (fun m e => if inClass j.cls e.1 then KV.insert e.1 e.2 m else m) (KV.keep (fun k _ => !inClass j.cls k) u.stored)
        storedBlobs := d.blobs.foldl (fun m e => if inClass j.cls e.1 then KV.insert e.1 e.2 m else m) (KV.keep (fun k _ => !inClass j.cls k) u.storedBlobs) }
    d.respond j.origin false .ok [] 0 []

/-! ### Writes -/

/-- A DOMAIN segment that passed its checks. -/
def Dev.takeSegment (d : Dev) (o : Origin) (a : Asker) (r : DictRow) (q : DictReq) : Dev :=
  let key := q.index * 256 + q.sub
  let before := if q.offset = 0 then [] else ((KV.find key d.d0.transfers).map (·.data)).getD []
  let b := before ++ q.data
  let d := if key = Ent.Stg.STAGING.key ∧ q.offset = 0 then d.stagingBegun else d
  if q.more then (d.setD0 fun u => { u with transfers := KV.insert key ⟨a.owner, q.total, b, d.time.raw⟩ u.transfers }).respond o false .ok [] 0 []
  else
    let d := d.setD0 fun u => { u with transfers := KV.erase key u.transfers }
    let d := if r.staged then d.shadowWrite a q.index fun sh => { sh with blobs := KV.insert key b sh.blobs }
      else if key = Ent.Stg.STAGING.key then d.stagingDone b
      else d.putOct (r.entry q.index q.sub) b
    d.respond o false .ok [] 0 []

/-- Check 11 of every write: a sleep entry refuses it on every path but the service port (Table 8.4), a lease refuses the normal world (R399). -/
def Dev.writeGuard (d : Dev) (q : QReq) (a : Asker) : Status × Dev :=
  if d.entering && q.origin.path != .servicePort then (.wrongState, d)
  else match d.writeLeased a.secure q.req.index with
    | some g => (.leased, d.leaseRefused g .leased)
    | none => (.ok, d)

/-- What a write that is not a DOMAIN's does after checks 1 to 10. -/
def Dev.writeWhole (d : Dev) (q : QReq) (a : Asker) (r : DictRow) (env : WriteEnv) : Dev :=
  let i := q.req.index
  let s := q.req.sub
  let v := ofLe q.req.data
  if isGroup i && s == 0xFE then (if v = 1 then d.applyGroup q.origin i else d.discardGroup q.origin i)
  else if i = 0x1010 ∨ i = 0x1011 then d.storeStart q.origin (i == 0x1011) s
  else if r.staged then
    match d.shadowStatus a i with
    | .ok =>
      (d.shadowWrite a i fun sh => match r.ty with
        | .oct _ | .str _ | .dom _ => { sh with blobs := KV.insert (i * 256 + s) q.req.data sh.blobs }
        | _ => { sh with values := KV.insert (i * 256 + s) v sh.values }).respond q.origin false .ok [] 0 []
    | st => d.answerReq q.origin true st
  else d.runUnit q.origin (i * 256 + s) fun d => d.actWrite r i s v q.req.data a.secure env

/-- Execute a write (R60, R64, R77). -/
def Dev.writeExec (d : Dev) (q : QReq) (env : WriteEnv) : Dev :=
  let a := d.asker q.origin
  match d.checkEntry a q.req with
  | .error s => d.refuseReq q s
  | .ok r =>
    match r.ty with
    | .dom max =>
      match d.segmentStatus a q.req max with
      | .ok =>
        let st := if r.staged then d.shadowStatus a q.req.index else .ok
        match d.writeGuard q a with
        | (.ok, d) => if st = .ok then d.takeSegment q.origin a r q.req else d.refuseReq q st
        | (s, d) => d.refuseReq q s
      | s => d.refuseReq q s
    | _ =>
      let v := ofLe q.req.data
      if !lengthFits r q.req.data.length then d.refuseReq q .lengthMismatch
      else if !(if r.ty.bytes.isSome then r.accepts v && d.valueOk q.req.index q.req.sub v else bytesOk q.req.index q.req.sub q.req.data) then
        d.refuseReq q .outOfRange
      else match d.writeGuard q a with
        | (.ok, d) => d.writeWhole q a r env
        | (s, d) => d.refuseReq q s

/-! ### The queue -/

/-- The request D0 executes next (R62): with the device's references lost, only the service port's (R425). -/
def Dev.nextReq (d : Dev) : Option QReq :=
  if !d.d0.running then none
  else d.d0.queue.find? fun q => !q.waits && (!d.flag Ent.Clk.REF_LOSS || q.origin.path == .servicePort)

/-- The request is a write of `v` to APPLY of a group. -/
def QReq.isApply (q : QReq) (v : Nat) : Bool := q.req.write && isGroup q.req.index && q.req.sub == 0xFE && ofLe q.req.data == v

/-- A write to an entry of index `i` that starts a store or restore. -/
def QReq.isStore (q : QReq) (i : Nat) : Bool := q.req.write && q.req.index == i && q.req.sub != 0

end Sys2Proof.Machine
end

