-- ==== Sys2Proof/Machine/Paths.lean ====
section
/-! DEFINITION. The paths to D0 (R63, R68 to R76, R79 to R81, R84, R451 to R454, R497): how a request arrives on each, and the answers that D0 does not
execute. -/

namespace Sys2Proof

open Machine

/-- The header of a request as it arrived (Table 3.4). -/
def NdpMsg.header (m : NdpMsg) : Bytes :=
  le 1 m.version ++ le 1 m.op ++ le 2 m.flags ++ le 4 m.session ++ le 4 m.seq ++ le 2 m.node ++ le 2 m.status ++ le 2 m.epoch ++ le 2 m.payload.length

def NdpMsg.net (m : NdpMsg) : List Nat := [m.srcMac, m.vlan, m.srcIp, m.srcPort, b2n m.v6]

end Sys2Proof

namespace Sys2Proof.Machine

/-! ### The protocol over UDP -/

/-- RX_REQUESTS 0 and RX_DROPPED 1 (Table 3.10). -/
def ndpCounter (i : Nat) : Counter := ⟨⟨0x2010, 8 + i, 64, 0⟩, Ent.Ndp.COUNTER_SAT, i, srcCore 15⟩

/-- An answer that no session protects: a tag of 16 zero bytes (R72, R74). -/
def Dev.ndpBare (d : Dev) (m : NdpMsg) (s : Status) : Dev :=
  d.ndpSend m.session m.seq m.net s (d.ndpHeader m.op 1 m.session m.seq s.code 0 ++ zeros 16)

/-- The datagram is for the device: an address of 0x2010 that is not off, its port, no IP fragment, and a UDP checksum that is 0 or right (R70). -/
def Dev.ndpFits (d : Dev) (m : NdpMsg) : Bool :=
  m.dstIp != 0 && m.dstIp == d.ndpAddr m.v6 && m.dstPort == d.get Ent.Ndp.UDP_PORT && !m.fragment &&
  (m.sum == 0 || m.sum == udpSum m.v6 m.srcIp m.dstIp m.srcPort m.dstPort (m.header ++ m.payload ++ m.tag))

/-- What every request passes first: D0 runs, the datagram is for it, the version and the node are the device's (R69 to R71). -/
def Dev.ndpIntake (d : Dev) (m : NdpMsg) (f : Dev → Dev) : Dev :=
  if !d.d0.running || d.flag Ent.Clk.REF_LOSS || !d.ndpFits m then d
  else if m.version ≠ 1 ∨ m.node ≠ d.board.nodeId then d.count (ndpCounter 1)
  else f d

/-- AUTH_FAIL of a binding, at most once per second (R84). -/
def Dev.authFail (d : Dev) (b : Nat) : Dev :=
  (d.count (ndpCounter 1)).limited (2 ^ 33 + b) 1 fun d c => d.event (srcCore 15) 0x0020 (b + min c 0xFFFF * 65536)

/-- A session ID that is not 0 and not in use: the drawn one, else the smallest. -/
def Dev.freshSession (d : Dev) (v : Nat) : Nat :=
  let bad (x : Nat) : Bool := x == 0 || (KV.find x d.d0.sessions).isSome
  if bad v then ((List.range 66).find? fun x => !bad x).getD 65 else v

/-- An OPEN request (R72). One whose payload is not 20 bytes long is treated as one whose HMAC check fails (DESIGN CHOICE, assumption 61). -/
def ndpOpenOp (m : NdpMsg) (d : Dev) : Dev :=
  if m.op ≠ 1 then d else d.ndpIntake m fun d =>
    let b := leAt m.payload 0 1
    let key := if b < 16 ∧ m.payload.length = 20 ∧ d.flag (Ent.Bind.ENABLE b) then d.hmacKey (d.get (Ent.Bind.KEY_SLOT b)) else none
    match key with
    | none => d.authFail b
    | some k =>
      if (hmacSha256 k (m.header ++ m.payload)).take 16 ≠ m.tag then d.authFail b
      else
        let d := d.count (ndpCounter 0)
        let held := (d.d0.sessions.filter fun x => x.2.binding == b).length
        if d.get (Ent.Bind.MAX_SESSIONS b) ≤ held ∨ 64 ≤ d.d0.sessions.length then d.ndpBare m .noResource
        else
          let (nonce, d) := d.draw 128
          let (sid, d) := d.draw 32
          let id := d.freshSession sid.toNat
          let n := le 16 nonce.toNat
          let sk := hmacSha256 k (bytesOf [0x4E, 0x44, 0x53, 0x4B] ++ slice m.payload 4 16 ++ n)
          let d := d.setD0 fun u => { u with sessions := KV.insert id ⟨b, d.get (Ent.Bind.KEY_SLOT b), sk, 0, [], [], d.time.raw, false⟩ u.sessions }
          let p := n ++ le 2 (d.get Ent.Ndp.IDLE_TIMEOUT_S) ++ le 1 8 ++ zeros 1
          d.ndpSend id 0 m.net .ok (ndpSeal sk 0 id 0 (d.ndpHeader 1 1 id 0 0 p.length) p)

/-- SEQ after `n`: from 0xFFFF_FFFF to 1 (R75). -/
def nextSeq (n : Nat) : Nat := if n = 2 ^ 32 - 1 then 1 else n + 1

def seqAfter : Nat → Nat → Nat
  | 0, s => s
  | k + 1, s => seqAfter k (nextSeq s)

/-- A session's requests in D0's queue that are not executed yet. -/
def Dev.ndpQueued (d : Dev) (id : Nat) : Nat := (d.d0.queue.filter fun q => q.origin.path == .udp && q.origin.session == id && !q.waits).length

/-- A session executes the request of number `seq`: it is the last one now. -/
def Dev.ndpExecuted (d : Dev) (id seq : Nat) : Dev :=
  d.setD0 fun u => { u with sessions := KV.mapVal (fun k s => if k = id then { s with last := seq, cache := ((seq, none) :: s.cache).take 8 } else s) u.sessions }

/-- Requests whose turn has come move on, strictly in order of SEQ (R75): dictionary requests into D0's queue, the others at once when nothing is queued
before them. -/
def Dev.ndpAdvance (d : Dev) (id : Nat) : Nat → Dev
  | 0 => d
  | n + 1 =>
    match KV.find id d.d0.sessions with
    | none => d
    | some s =>
      let waiting := d.ndpQueued id
      let seq := seqAfter (waiting + 1) s.last
      match KV.find seq s.early with
      | none => d
      | some (r, net) =>
        let o : Origin := ⟨.udp, id, seq, net⟩
        let taken (d : Dev) : Dev := d.setD0 fun u => { u with sessions := KV.insert id { s with early := KV.erase seq s.early } u.sessions }
        match r with
        | .dict q => Dev.ndpAdvance ((taken d).submit ⟨q, o, false⟩) id n
        | .reply op st => if waiting ≠ 0 then d else Dev.ndpAdvance (((taken d).ndpExecuted id seq).ndpRespond o op st []) id n
        | .close => if waiting ≠ 0 then d else (((taken d).ndpExecuted id seq).ndpRespond o 2 .ok []).closeSession id

/-- The dictionary request of a READ or WRITE payload (Tables 3.5, 3.7). -/
def ndpRequest (op flags epoch : Nat) (p : Bytes) : SessReq :=
  if op = 3 ∧ p.length ≠ 16 then .reply 3 .lengthMismatch
  else if op = 4 ∧ (p.length < 16 ∨ 1040 < p.length) then .reply 4 .lengthMismatch
  else .dict ⟨op == 4, leAt p 0 2, leAt p 2 1, leAt p 4 4, some (leAt p 8 2), leAt p 12 4, bit flags 3, bit flags 4, bit flags 2, epoch, p.drop 16⟩

/-- The plain payload of a frame of an open session: ENC must match the binding's mode, the tag must hold (R73). -/
def Dev.ndpOpened (d : Dev) (s : Session) (m : NdpMsg) : Option Bytes :=
  let mode := d.sessionMode s
  let nonce := le 4 m.session ++ le 4 m.seq ++ zeros 4
  if bit m.flags 1 != (mode == 1) then none
  else if mode = 1 then gcmOpen s.key nonce m.header m.payload m.tag
  else (gcmOpen s.key nonce (m.header ++ m.payload) [] m.tag).map fun _ => m.payload

/-- A request of an open session (R73 to R75): verified, then queued, held, answered from the cache, or dropped. -/
def Dev.ndpTake (d : Dev) (m : NdpMsg) (f : Bytes → SessReq) : Dev :=
  d.ndpIntake m fun d =>
    match KV.find m.session d.d0.sessions with
    | none => (d.count (ndpCounter 0)).ndpBare m .wrongState
    | some s =>
      if s.closing then (d.count (ndpCounter 0)).ndpBare m .wrongState
      else match d.ndpOpened s m with
      | none => d.count (ndpCounter 1)
      | some p =>
        match s.cache.find? fun x => x.1 == m.seq with
        | some (_, some w) => (d.count (ndpCounter 0)).ndpSend m.session m.seq m.net .ok w
        | some (_, none) => d.count (ndpCounter 0)
        | none =>
          if (List.range 8).all fun k => seqAfter (k + 1) s.last != m.seq then d.count (ndpCounter 1)
          else
            let d := d.count (ndpCounter 0)
            let queued := d.d0.queue.any fun q => q.origin.path == .udp && q.origin.session == m.session && q.origin.seq == m.seq
            if queued || (KV.find m.seq s.early).isSome then d
            else if 16 ≤ d.pathCount .udp then
              let mode := d.sessionMode s
              d.ndpSend m.session m.seq m.net .busy
                (ndpSeal s.key mode m.session m.seq (d.ndpHeader m.op (1 + 2 * mode) m.session m.seq Status.busy.code 0) [])
            else
              let s := { s with early := KV.insert m.seq (f p, m.net) s.early, idleSince := d.time.raw }
              (d.setD0 fun u => { u with sessions := KV.insert m.session s u.sessions }).ndpAdvance m.session 9

def ndpReadOp (m : NdpMsg) (d : Dev) : Dev := if m.op = 3 then d.ndpTake m (ndpRequest 3 m.flags m.epoch) else d
def ndpWriteOp (m : NdpMsg) (d : Dev) : Dev := if m.op = 4 then d.ndpTake m (ndpRequest 4 m.flags m.epoch) else d
def ndpCloseOp (m : NdpMsg) (d : Dev) : Dev := if m.op = 2 then d.ndpTake m fun _ => .close else d

/-- NOP; any other OP value is answered with OUT_OF_RANGE (Table 3.6). -/
def ndpNopOp (m : NdpMsg) (d : Dev) : Dev :=
  if 1 ≤ m.op ∧ m.op ≤ 4 then d else d.ndpTake m fun _ => .reply m.op (if m.op = 5 then .ok else .outOfRange)

/-- A session has been idle for IDLE_TIMEOUT_S (R74): no request of it is in D0, and that long has passed since its last request and response. -/
def Dev.sessionIdle (d : Dev) (id : Nat) : Bool :=
  !(d.d0.queue.any fun q => q.origin.path == .udp && q.origin.session == id) &&
  (KV.find id d.d0.sessions).any fun s => d.passed s.idleSince (d.get Ent.Ndp.IDLE_TIMEOUT_S * 1000000000)

def sessionIdleTimeoutOp (id : Nat) (d : Dev) : Dev := if d.sessionIdle id then d.closeSession id else d

/-! ### Mailbox pages (R80, R81) -/

/-- The base address of a mailbox page. -/
def mbBase : Path → Option Nat
  | .mailbox h => if h < 256 then some (0x1EF00000 + 0x1000 * h) else none
  | .secureMailbox => some 0x1FF00000
  | _ => none

/-- A write of `v` to MB_CTRL of a page, byte enables apart. -/
def mbGoOp (p : Path) (v : Nat) (d : Dev) : Dev :=
  match mbBase p with
  | none => d
  | some a =>
    let w (off : Nat) : Nat := d.word (a + off) 0
    let ctrl : Field := ⟨a + 4, 31, 0, 0⟩
    let busy : Field := ⟨a + 0x18, 30, 30, 0⟩
    let d := d.setFld ctrl (setBits (setBits (setBits 0 30 30 (bits v 30 30)) 18 16 (bits v 18 16)) 15 0 (bits v 15 0))
    if !bit v 31 then d
    else if d.isSet busy then d.setFld ⟨a + 0x18, 29, 29, 0⟩ 1
    else
      let op := bits (w 0) 31 24
      let done (s : Status) : Dev := d.mbDone ⟨a + 8, 31, 0, 0⟩ ⟨a + 0x14, 31, 0, 0⟩ ⟨a + 0x18, 15, 0, 0⟩ busy ⟨a + 0x18, 31, 31, 0⟩ (fun k => ⟨a + 0x400 + 4 * k, 31, 0, 0⟩)
        false s 0 []
      if op ≠ 3 ∧ op ≠ 4 then done .outOfRange
      else if 16 ≤ d.pathCount p then done .busy
      else
        let n := min (w 8) 1025
        let data := if op = 4 then (d.mbBytes (fun k => ⟨a + 0x400 + 4 * k, 31, 0, 0⟩) (min n 1024)) ++ zeros (n - 1024) else []
        let q : DictReq := ⟨op == 4, bits (w 0) 15 0, bits (w 0) 23 16, w 0xC, some (w 0x10 % 65536), w 0x14, bit v 18, bit v 17, bit v 16, v % 65536, data⟩
        (d.setFld busy 1).submit ⟨q, ⟨p, 0, 0, []⟩, false⟩

/-! ### Frames of the service port and the gallery (R79, R497) -/

/-- What a frame of R79 asks for: the header's OP and SEQ, and the request or the status it is answered with at once. -/
def frameRequest (b : Bytes) : Nat × Nat × SessReq :=
  let op := leAt b 1 1
  let p := b.drop 20
  let r : SessReq :=
    if leAt b 18 2 ≠ p.length then .reply op .lengthMismatch
    else if op = 3 ∨ op = 4 then
      match ndpRequest op (leAt b 2 2) 0 p with
      | .dict q => .dict { q with epv := false, epoch := 0 }
      | r => r
    else .reply op (if op = 5 then .ok else .outOfRange)
  (op, leAt b 8 4, r)

def Dev.setSp (d : Dev) (f : ServicePort → ServicePort) : Dev := { d with power := { d.power with sp := f d.power.sp } }

/-- A response of the service port that D0 does not execute; `cache` says whether a repeat of its SEQ gets it again. -/
def Dev.spReply (d : Dev) (op seq : Nat) (s : Status) (body : Bytes) (cache : Bool) : Dev :=
  let w := d.spFrame op seq s body
  (if cache then d.setD0 fun u => { u with spCache := some (seq, w) } else d).setSp fun p => { p with response := some w, busy := false }

/-- The vestibule answers: reads of the entries marked so, and a write of 1 to WAKE_REQ (R69, R454). -/
def Dev.vestibuleServe (d : Dev) (op seq : Nat) (q : DictReq) (env : WakeEnv) : Dev :=
  let a : Asker := ⟨0, false, (Path.servicePort.id, 0)⟩
  let vest : Bool := (rowOf q.index q.sub).any fun r => r.notes.contains .vestibule
  if !vest then d.spReply op seq .wrongState [] true
  else match d.checkEntry a q with
  | .error s => d.spReply op seq s [] true
  | .ok r =>
    if q.write then
      if q.index * 256 + q.sub = Ent.Slp.WAKE_REQ.key then
        if q.data = [1#8] then (wakeReqOp env d).spReply op seq .ok [] true
        else d.spReply op seq (if q.data.length = 1 then .outOfRange else .lengthMismatch) [] true
      else d.spReply op seq .wrongState [] true
    else
      let b := d.entryBytes r q.index q.sub
      d.spReply op seq .ok (descriptorOf r q b.length ++ b) true

/-- The vestibule serves the port: D0's interior is off, or a sleep entry runs (R454). -/
def Dev.vestibuleServes (d : Dev) : Bool := !d.awake || d.entering

/-- A WRITE_FRAME transaction with its LENGTH and the bytes that arrived (R453). -/
def spWriteFrameOp (len : Nat) (b : Bytes) (env : WakeEnv) (d : Dev) : Dev :=
  match d.power.phase with
  | .off | .held _ _ => d
  | _ =>
    if !d.power.sp.rxFree || len < 24 || 1064 < len || b.length != len then (d.count (powerCounter 5)).setSp fun p => { p with frameErr := true }
    else
      let d := d.setSp fun p => { p with rxFree := false, frameErr := false, busy := true }
      let (op, seq, r) := frameRequest (b.take (len - 4))
      if leAt b (len - 4) 4 ≠ crc32 (b.take (len - 4)) then d.spReply op seq .integrity [] false
      else if leAt b 0 1 ≠ 1 then d.setSp fun p => { p with rxFree := true, busy := false }
      else match d.d0.spCache.filter fun x => x.1 == seq with
        | some x => d.setSp fun p => { p with response := some x.2, busy := false }
        | none =>
          match r with
          | .dict q =>
            if d.vestibuleServes then d.vestibuleServe op seq q env
            else if 16 ≤ d.pathCount .servicePort then d.spReply op seq .busy [] false
            else d.submit ⟨q, ⟨.servicePort, 0, seq, []⟩, false⟩
          | .reply op st => d.spReply op seq (if d.vestibuleServes then .wrongState else st) [] true
          | .close => d

/-- A READ_FRAME transaction; `whole` says that it clocked the whole response out (R453). -/
def spReadFrameOp (whole : Bool) (d : Dev) : Dev :=
  match d.power.phase with
  | .off | .held _ _ => d
  | _ =>
    match d.power.sp.response with
    | none => d.emit (.bytes .ok 0 [])
    | some w =>
      let d := d.emit (.bytes .ok w.length w)
      if whole then d.setSp fun p => { p with response := none, rxFree := p.rxFree || !p.busy } else d

/-- The status byte (Table 19.11). -/
def Dev.spStatus (d : Dev) : Nat :=
  let ps := match d.power.phase with
    | .asleep t => t
    | _ => if d.entering then 1 else 0
  ps * 16 + b2n d.power.sp.frameErr * 8 + b2n d.power.sp.rxFree * 2 + b2n d.power.sp.response.isSome

def spReadStatusOp (d : Dev) : Dev :=
  match d.power.phase with
  | .off | .held _ _ => d
  | _ => d.answer .ok d.spStatus

/-- A DICT message of the partner: header and payload (R497). -/
def galleryDictRequestOp (b : Bytes) (d : Dev) : Dev :=
  let (op, seq, r) := frameRequest b
  if b.length < 20 ∨ leAt b 0 1 ≠ 1 ∨ bit (leAt b 2 2) 0 ∨ d.d0.running = false ∨ d.flag Ent.Clk.REF_LOSS then d
  else match d.d0.galCache.filter fun x => x.1 == seq with
    | some x => d.ctrl 0x0C x.2
    | none =>
      if d.d0.queue.any fun q => q.origin.path == .gallery && q.origin.seq == seq then d
      else
        let say (op : Nat) (s : Status) : Dev := d.ctrl 0x0C (d.ndpHeader op 1 0 seq s.code 0)
        match r with
        | .dict q => if 16 ≤ d.pathCount .gallery then say op .busy else d.submit ⟨q, ⟨.gallery, 0, seq, []⟩, false⟩
        | .reply op st => say op st
        | .close => d

/-! ### Address resolution (R70) -/

/-- The ARP reply: Ethernet, IPv4, operation 2, both pairs of addresses. -/
def Dev.arpReply (d : Dev) (target mac ip : Nat) : Bytes :=
  be 2 1 ++ be 2 0x0800 ++ be 1 6 ++ be 1 4 ++ be 2 2 ++ be 6 d.board.deviceMac ++ be 4 target ++ be 6 mac ++ be 4 ip

/-- The neighbour advertisement: ICMPv6 type 136, solicited and override, with the target's link-layer address; hop limit 255. -/
def Dev.advert (d : Dev) (target ip : Nat) : Bytes :=
  let m (s : Nat) : Bytes := be 2 0x8800 ++ be 2 s ++ be 4 0x60000000 ++ be 16 target ++ be 2 0x0201 ++ be 6 d.board.deviceMac
  let n := (m 0).length
  be 4 0x60000000 ++ be 2 n ++ be 1 58 ++ be 1 255 ++ be 16 target ++ be 16 ip ++ m (inetSum (be 16 target ++ be 16 ip ++ be 4 n ++ be 4 58 ++ m 0))

/-- D0 receives an ARP request (`v6` false) or a neighbour solicitation for an address, from a MAC and IP address, on the VLAN it came by, and answers it
for a configured address that is not off. -/
def arpRequestOp (v6 : Bool) (target mac vlan ip : Nat) (d : Dev) : Dev :=
  if d.d0.running && target != 0 && target == d.ndpAddr v6 && !d.flag Ent.Clk.REF_LOSS then
    (d.emit (.send (if v6 then "NA" else "ARP") vlan mac (be 6 d.board.deviceMac ++ (if v6 then be 16 target ++ be 16 ip else be 4 target ++ be 4 ip)))).sendSwitched
      vlan (deviceFrame mac d.board.deviceMac 0 0 (if v6 then 0x86DD else 0x0806) (if v6 then d.advert target ip else d.arpReply target mac ip))
  else d

/-! ### Meanings -/

def execNdpOpen (m : NdpMsg) (s : State) := onDev s (ndpOpenOp m)
def execNdpClose (m : NdpMsg) (s : State) := onDev s (ndpCloseOp m)
def execNdpRead (m : NdpMsg) (s : State) := onDev s (ndpReadOp m)
def execNdpWrite (m : NdpMsg) (s : State) := onDev s (ndpWriteOp m)
def execNdpNop (m : NdpMsg) (s : State) := onDev s (ndpNopOp m)
def execSessionIdleTimeout (id : Nat) (s : State) := onDev s (sessionIdleTimeoutOp id)
def execMbGo (p : Path) (v : Nat) (s : State) := onDev s (mbGoOp p v)
def execSpWriteFrame (len : Nat) (b : Bytes) (env : WakeEnv) (s : State) := onVaux s (spWriteFrameOp len b env)
def execSpReadFrame (whole : Bool) (s : State) := onVaux s (spReadFrameOp whole)
def execSpReadStatus (s : State) := onVaux s spReadStatusOp
def execGalleryDictRequest (b : Bytes) (s : State) := onDev s (galleryDictRequestOp b)
def execArpRequest (v6 : Bool) (target mac vlan ip : Nat) (s : State) := onDev s (arpRequestOp v6 target mac vlan ip)

end Sys2Proof.Machine
end

