-- ==== Sys2Proof/Machine/Concourse.lean ====
section
/-! DEFINITION. The concourse (chapter 1): the register pages and their hall checks, the target checks of Table 1.4, reads and writes of
memory and of register words, atomics, the debug module's memory accesses and the bursts of the DMA channels. -/

namespace Sys2Proof.Machine

/-! ### Register pages (R28) -/

/-- A unit's register page. -/
inductive Page where
  | irq | core (k : Nat) | timebase | dma (c : Nat) | qp (q : Nat) | can (n : Nat) | sleep | ctx (u k : Nat) | endpoint (u e : Nat)
  | scan | adc (a : Nat) | hall (h : Nat) | storage (h : Nat) | mailbox (h : Nat) | watermarks | leases | crypto | swdt | m0Sources | m0Core
  | secureMailbox
  deriving DecidableEq, Repr

/-- The page an address of a unit-register region lies in, and the offset within it; `none` where the address lies in no unit's page. -/
def pageOf (a : Nat) : Option (Page × Nat) :=
  let inst (base stride n : Nat) (f : Nat → Page) : Option (Page × Nat) :=
    if base ≤ a ∧ a < base + stride * n then some (f ((a - base) / stride), (a - base) % stride) else none
  [inst 0x10000000 0x1000 1 fun _ => .irq, inst 0x10010000 0x1000 12 .core, inst 0x10100000 0x1000 1 fun _ => .timebase,
   inst 0x10200000 0x1000 64 .dma, inst 0x10300000 0x1000 256 .qp, inst 0x10400000 0x4000 16 .can, inst 0x10600000 0x1000 1 fun _ => .sleep,
   inst 0x10800000 0x1000 256 fun i => .ctx (i / 64) (i % 64), inst 0x10900000 0x10 4096 fun i => .endpoint (i / 1024) (i % 1024),
   inst 0x10A00000 0x1000 1 fun _ => .scan, inst 0x10C00000 0x1000 2 .adc, inst 0x10E00000 0x1000 256 .hall,
   inst 0x10F00000 0x1000 256 .storage, inst 0x1EF00000 0x1000 256 .mailbox, inst 0x1F000000 0x1000 1 fun _ => .watermarks,
   inst 0x1F010000 0x1000 1 fun _ => .leases, inst 0x1F020000 0x1000 1 fun _ => .crypto, inst 0x1F030000 0x1000 1 fun _ => .swdt,
   inst 0x1F050000 0x1000 1 fun _ => .m0Sources, inst 0x1F051000 0x1000 1 fun _ => .m0Core,
   inst 0x1FF00000 0x1000 1 fun _ => .secureMailbox].findSome? id

/-- The executor an initiator is, while its core belongs to the scan engine (R238). -/
def Dev.executorOf (d : Dev) (i : Initiator) : Option Nat :=
  match i with
  | .executor x => if d.engineCore (execLead x) then some x else none
  | .cCore n => if d.engineCore n then some (if d.paired n then 8 + n / 2 else n) else none
  | _ => none

/-- The instance of CAN channel `n` whose words lie at an offset: the hall it is allocated to. The channel block and the FIFO are hall 0's; an object
with no VALID record and a reserved offset are nobody's. -/
def Dev.canOwner (d : Dev) (n off : Nat) : Option Nat :=
  if off < 0x100 ∨ (0x900 ≤ off ∧ off < 0x980) then some 0
  else if 0x400 ≤ off ∧ off < 0x580 then some (d.txbHall n ((off - 0x400) / 0x80))
  else if 0x1000 ≤ off ∧ off < 0x3000 then
    let r := d.objRec n ((off - 0x1000) / 0x80)
    some (if objValid r then objHall r else 0)
  else none

/-- Check 3 of Table 1.4: the hall may reach the word. -/
def Dev.hallMay (d : Dev) (t : Txn) (p : Page) (off : Nat) : Bool :=
  let sys := t.hall == 0
  let read := t.kind == .read
  match p with
  | .irq => if off < 0x804 then sys || read else if 0xC00 ≤ off ∧ off < 0xC50 then sys else true
  | .core _ => off != 0xC || sys || read
  | .timebase => if 0x40 ≤ off ∧ off < 0x50 then sys else sys || read
  | .dma c => sys || t.hall == d.dmaOwner c
  | .qp q => sys || t.hall == d.qpOwner q
  | .can n => match d.canOwner n off with
    | some h => t.hall == h
    | none => true
  | .sleep => sys
  | .ctx u k => t.hall == d.get (Ent.Bctx.HALL (bctx u k))
  | .endpoint u e => t.hall == (if epValid (d.endpoint u e) then epHall (d.endpoint u e) else 0)
  | .scan => (d.executorOf t.initiator).isSome || (read && sys)
  | .adc _ => sys || (d.executorOf t.initiator).isSome
  | .hall h => sys || t.hall == h
  | .storage h => sys || t.hall == h
  | .mailbox h => t.hall == h
  | _ => true

/-- Check 4 of Table 1.4: the reassignable unit whose epoch a word of a page uses (R17). -/
def pageEpoch (p : Page) (off : Nat) : Option EpochUnit :=
  match p with
  | .dma c => some (.dma c)
  | .qp q => some (.qp q)
  | .can n =>
    if 0x400 ≤ off ∧ off < 0x580 then some (.canTxb n ((off - 0x400) / 0x80))
    else if 0x1000 ≤ off ∧ off < 0x3000 then some (.canObj n ((off - 0x1000) / 0x80))
    else none
  | .ctx u k => some (.bridge (bctx u k))
  | .hall h => some (.hall h)
  | _ => none

/-- A transaction carries the epoch that the word's unit has now, or the word's unit uses none. -/
def Dev.epochMay (d : Dev) (t : Txn) (p : Page) (off : Nat) : Bool :=
  match pageEpoch p off with
  | some u => d.epochOk u t.epv t.epoch
  | none => true

/-- Check 2 for a page: a leased DMA channel's page counts as a secure region (R400). -/
def Dev.pageSecure (d : Dev) (p : Page) (a : Nat) : Bool :=
  d.needsSecure a || match p with | .dma c => d.dmaSecure c | _ => false

/-- Check 7 for a page: its unit's activity gate is on (R18, Table 18.7). -/
def Dev.pageOn (d : Dev) (p : Page) : Bool :=
  match p with
  | .irq | .core _ => d.gateOn 49
  | .timebase => d.gateOn 3
  | .dma c => d.gateOn (gateDma c)
  | .qp q => d.gateOn (43 + (d.get (Ent.Qp.PORT q) - 48))
  | .can n => d.gateOn (gateCan n)
  | .ctx u _ | .endpoint u _ => d.gateOn (gateBridge u)
  | .scan => d.gateOn 33
  | .adc a => d.gateOn (gateAdc a)
  | .storage _ => d.gateOn 145
  | .mailbox _ | .secureMailbox => d.gateOn 48
  | .crypto => d.gateOn 56
  | .watermarks | .leases | .swdt | .m0Sources | .m0Core => d.gateOn 2
  | .sleep | .hall _ => true

/-- A stopped hall's transaction to a page of one of its instances, its mailbox or its hall page (R384). -/
def Dev.pageStopped (d : Dev) (t : Txn) (p : Page) : Bool :=
  t.hall != 0 && d.hallStopped t.hall &&
  match p with
  | .dma _ | .qp _ | .can _ | .ctx _ _ | .endpoint _ _ | .hall _ | .storage _ | .mailbox _ => true
  | _ => false

/-! ### Register words -/

/-- The address whose rows describe a word: a context's remote mailbox has the registers of Table 3.8 (R227). -/
def tableAddr (p : Page) (off a : Nat) : Nat :=
  match p with
  | .ctx _ _ => if 0x800 ≤ off then 0x1EF00000 + (off - 0x800) else a
  | _ => a

/-- The bits of a word whose fields have one of the access codes. -/
def accessMask (a : Nat) (l : List Acc) : Nat :=
  (fieldsAt a).foldl (fun m r => if l.contains r.acc then setBits m r.hi r.lo (2 ^ (r.hi + 1 - r.lo) - 1) else m) 0

/-- A read of a word of a page by an initiator: the value, and what the read does (R8, R148, R149, R176, R335). -/
def Dev.readWord (d : Dev) (i : Initiator) (p : Page) (off a : Nat) : Dev :=
  match p with
  | .timebase =>
    if off = 0 then snapCaptureOp i d
    else if off < 0x14 ∨ (0x20 ≤ off ∧ off < 0x34) then d.answer .ok (d.snapWord i off)
    else if 0x100 ≤ off ∧ off < 0x140 ∧ off % 16 = 0 then capturePopOp ((off - 0x100) / 16) d
    else if 0x100 ≤ off ∧ off < 0x140 ∧ off % 16 = 4 then d.answer .ok (d.captureInfo ((off - 0x100) / 16))
    else d.answer .ok (d.wordNow a)
  | .core k => if off = 0 then claimOp k i d else d.answer .ok (d.wordNow a)
  | .m0Core => if off = 0 then claimOp 12 i d else d.answer .ok (d.wordNow a)
  | .can n =>
    if off = 0x900 then objHdrReadOp n 64 i d
    else if off = 0x950 then objTailTakenOp n 64 i d
    else if 0x1000 ≤ off ∧ off < 0x3000 ∧ off % 0x80 = 0 then objHdrReadOp n ((off - 0x1000) / 0x80) i d
    else if 0x1000 ≤ off ∧ off < 0x3000 ∧ off % 0x80 = 0x50 then objTailTakenOp n ((off - 0x1000) / 0x80) i d
    else d.answer .ok (d.wordNow a)
  | .sleep => if 0x100 ≤ off ∧ off < 0x140 then d.answer .ok (setBits (d.wordNow a) 23 20 (d.trxState ((off - 0x100) / 4))) else d.answer .ok (d.wordNow a)
  | .ctx u k => if 0x800 ≤ off then d.answer .ok (d.word a 0) else d.answer .ok (d.wordNow (0x10800000 + 0x40000 * u + 0x1000 * k + off))
  | _ => d.answer .ok (d.wordNow a)

/-- The bits of SYS_IRQ and SYS_IRQ_EN that Table 14.11 names (R345). -/
def sysIrqBits (i : Nat) : Nat := (([0x3FFF, 0x80000007, 0x3FF, 0x3F, 0xFF, 0xF, 0x1F, 0x3F, 0xF, 0x38] : List Nat)[i]?).getD 0

/-- Which bits of a word a write leaves as they are beyond what its access codes say: registers that are ignored in some states, and field values
that are ignored (R81, R331, R360, R369, Tables 7.2, 16.5, 17.8, 20.4). `v` is the word written. -/
def Dev.keptBits (d : Dev) (p : Page) (off v : Nat) : Nat :=
  let all := 2 ^ 32 - 1
  let log2 (lo hi : Nat) : Nat := if lo ≤ v % 16 ∧ v % 16 ≤ hi then 0 else 15
  let mb (busy : Bool) (off : Nat) : Nat := if busy ∧ off ≠ 4 ∧ off ≠ 0x18 then all else 0
  match p with
  | .irq =>
    let n := off / 4
    if 0xC00 ≤ off then (if off % 8 = 4 then clearBits 32 all (sysIrqBits ((off - 0xC00) / 8)) else 0)
    else if 0x800 ≤ off then 0
    else if srcReserved n then all
    else
      let target := bits v 27 24
      let fixed := (fixedTarget n).isSome || decide (11 < target) || (decide (4 ≤ target) && d.engineCore (target - 4))
      orBits (if fixed then 0x0F000000 else 0) (if 13 ≤ n ∧ n ≤ 24 then 0xF0000 else 0)
  | .m0Sources => if 256 ≤ off ∨ off = 0 then all else 0x0F000000
  | .dma c =>
    if d.isSet (Rg.Dmar.ACTIVE c) ∧ (off ≤ 8 ∨ off = 0x2C ∨ off = 0x30 ∨ off = 0x34) then all else if off = 8 then log2 2 12 else 0
  | .qp q =>
    if d.get (Ent.Qp.STATE q) = 1 ∧ off ≤ 0x18 then all
    else if off = 0x18 then ([0, 4, 8] : List Nat).foldl (fun m i => if 2 ≤ bits v (i + 3) i ∧ bits v (i + 3) i ≤ 12 then m else m + 15 * 2 ^ i) 0
    else 0
  | .can n => if 0x400 ≤ off ∧ off < 0x580 ∧ off % 0x80 ≠ 0 ∧ off % 0x80 ≠ 0xC ∧ d.isSet (Rg.Txb.PENDING n ((off - 0x400) / 0x80)) then all else 0
  | .hall h =>
    let on := d.isSet (Rg.Hpg.RING_EN h)
    if on ∧ (off = 8 ∨ off = 0xC) then all else if off = 0x10 then (if on then 15 else log2 4 15) else 0
  | .storage h => if off ≤ 8 ∧ d.fld (Rg.Stg.HEAD h) ≠ d.fld (Rg.Stg.TAIL h) then all else if off = 8 then log2 2 10 else 0
  | .crypto => if off = 8 then log2 2 10 else 0
  | .swdt =>
    if off ≠ 0 then 0
    else orBits (if 10 ≤ v % 65536 ∧ v % 65536 ≤ 60000 then 0 else 0xFFFF)
      ((if d.get Ent.Sec.LIFECYCLE = 0 then 0 else 2 ^ 30) + if bit v 31 then 0 else 2 ^ 31)
  | .mailbox h => mb (d.isSet (Rg.Mb.BUSY h)) off
  | .secureMailbox => mb (d.isSet Rg.Smb.BUSY) off
  | .ctx u k => if 0x800 ≤ off then mb (d.isSet (rmb u k Rg.Mb.BUSY)) (off - 0x800) else 0
  | _ => 0

/-- The word as a write of `v` under the byte mask `m` leaves it: rw fields take the written bytes, w1c bits written 1 clear (R8). -/
def Dev.plainWrite (d : Dev) (p : Page) (off a v m : Nat) : Dev :=
  let t := tableAddr p off a
  let old := d.word a (wordReset t)
  let rw := clearBits 32 (BitVec.ofNat 32 (accessMask t [.rw, .rws]) &&& BitVec.ofNat 32 m).toNat (d.keptBits p off v)
  let w1c := (BitVec.ofNat 32 (accessMask t [.w1c]) &&& BitVec.ofNat 32 m &&& BitVec.ofNat 32 v).toNat
  d.putWord a (wordReset t) (clearBits 32 (orBits (clearBits 32 old rw) (BitVec.ofNat 32 v &&& BitVec.ofNat 32 rw).toNat) w1c)

/-- The word a command register takes: bytes that are not written repeat the stored rw fields and ask for nothing. -/
def Dev.commandWord (d : Dev) (p : Page) (off a v m : Nat) : Nat :=
  let t := tableAddr p off a
  let keep := clearBits 32 (accessMask t [.rw, .rws]) m
  orBits (BitVec.ofNat 32 v &&& BitVec.ofNat 32 m).toNat (BitVec.ofNat 32 (d.word a (wordReset t)) &&& BitVec.ofNat 32 keep).toNat

/-- Command of a transceiver word (Table 8.10). -/
def Dev.trxWrite (d : Dev) (n a v m : Nat) : Dev :=
  let d := d.plainWrite .sleep (0x100 + 4 * n) a v m
  if bits v 2 0 = 1 then trxCmdNormalOp n d else if bits v 2 0 = 2 then trxCmdRxOnlyOp n d else if bits v 2 0 = 3 then trxCmdStandbyOp n d
  else if bits v 2 0 = 4 then trxCmdGoToSleepOp n d else d.answer .ok

/-- A write to a source word (Table 14.4): it takes effect at once. -/
def Dev.sourceWrite (d : Dev) (off a v m : Nat) : Dev :=
  let n := off / 4
  let was := d.srcTarget n
  let d := d.plainWrite .irq off a v m
  ((d.evalLine was).evalLine (d.srcTarget n)).answer .ok

/-- A write to CTRL of a context (Table 9.7). -/
def Dev.ctxWrite (d : Dev) (u k hall a v m : Nat) : Dev :=
  let d := if bit v 30 then rslotClearOp u k hall v d else d
  if bit v 31 then fenceOp u k hall v d else (d.plainWrite (.ctx u k) 0 a v m).answer .ok

/-- A write of a word of a mezzanine page. -/
def Dev.mezzWrite (d : Dev) (i : Initiator) (p : Page) (off a v m : Nat) : Dev :=
  match p with
  | .watermarks =>
    if 0xC ≤ off then d.answer .ok
    else
      let d := if bit v 30 then d.setFld (Rg.Wm.ERR (off / 4)) 0 else d
      if m % 2 ^ 20 = 0 then d.answer .ok else watermarkWriteOp (off / 4) (v % 2 ^ 20) true d
  | .leases =>
    if 0x100 ≤ off then d.answer .ok
    else
      let d := if bit v 30 then d.setFld (Rg.Lsr.ERR (off / 4)) 0 else d
      if bit v 31 then leaseTakeOp (off / 4) (v % 1024) true d else (leaseReleaseOp (off / 4) true d).setFld (Rg.Lsr.GATE (off / 4)) (v % 1024)
  | .swdt =>
    if off = 4 then swdtKickOp v d
    else
      let d := (d.plainWrite p off a v m).swdtFollow
      (if off = 0 then d.put Ent.Slog.SWDT_PERIOD_MS (d.fld Rg.Swd.PERIOD_MS) else d).answer .ok
  | .m0Core => if off = 4 then completeOp 12 i (v % 512) d else ((d.plainWrite p off a v m).evalLine 12).answer .ok
  | .m0Sources => ((d.plainWrite p off a v m).evalLine 12).answer .ok
  | .secureMailbox => if off = 4 then (mbGoOp .secureMailbox v d).answer .ok else (d.plainWrite p off a v m).answer .ok
  | _ => (d.plainWrite p off a v m).answer .ok

/-- A write of bytes `m` of a word of a page: the action its table gives it, or the fields its access codes let it set. -/
def Dev.writeWord (d : Dev) (t : Txn) (p : Page) (off a w m : Nat) : Dev :=
  let v := d.commandWord p off a w m
  let plain : Dev := (d.plainWrite p off a w m).answer .ok
  match p with
  | .irq => if off < 0x800 then d.sourceWrite off a v m else if off = 0x800 then doorbellOp t.hall v d else plain
  | .core k =>
    if off = 4 then completeOp k t.initiator (v % 512) d
    else if off = 0xC then ((if m % 16 = 0 then d else d.put (Ent.Core.THRESHOLD k) (v % 16)).evalLine k).answer .ok
    else plain
  | .timebase => if off = 0x4C then adjGoOp t.hall v d else plain
  | .dma c =>
    if off = 0xC then dmaTailWriteOp c t.hall v d
    else if off = 0x28 then (if bit v 1 then dmaAbortOp c t.hall d else if bit v 0 then dmaResumeOp c t.hall d else d.answer .ok)
    else if off = 0x38 then (if bit v 0 then dmaInvalOp c t.hall d else d.answer .ok)
    else plain
  | .can n =>
    if 0x400 ≤ off ∧ off < 0x580 ∧ off % 0x80 = 0 then
      let k := (off - 0x400) / 0x80
      if bit v 31 then canSendOp n k v d else if bit v 30 then (canAbortOp n k (d.plainWrite p off a w m)).answer .ok else plain
    else if off = 0xC then (if bit v 31 then canRestartOp n d else d.answer .ok)
    else plain
  | .sleep =>
    if off = 0 then domReqWriteOp v d else if off = 8 then wakeConfirmOp v d
    else if 0x100 ≤ off ∧ off < 0x140 then d.trxWrite ((off - 0x100) / 4) a v m else plain
  | .ctx u k =>
    if off = 0 then d.ctxWrite u k t.hall a v m
    else if off = 0x20 then sidebandOutWriteOp u k t.hall v d
    else if off = 0x24 then evtSendOp u k t.hall v d
    else if off = 0x804 then (if bit v 31 then remoteMbGoOp u k t.hall v d else plain)
    else plain
  | .scan =>
    match d.executorOf t.initiator with
    | none => d.answer .hallDenied
    | some x => (if off = 0 then taskEndOp x (v % 64) d else if off = 4 then taskFaultOp x (v % 65536) d else d).answer .ok
  | .adc n => if off = 4 then (adcStartOp n (v % 256) d).answer .ok else plain
  | .hall h =>
    if off = 0x1C then hallWdtKickOp h t.hall v d else if off = 0x24 then hallDoorbellOp h t.hall v d
    else plain
  | .mailbox h => if off = 4 then (mbGoOp (.mailbox h) v d).answer .ok else plain
  | .qp _ | .endpoint _ _ | .storage _ => plain
  | .watermarks | .leases | .crypto | .swdt | .m0Sources | .m0Core | .secureMailbox => d.mezzWrite t.initiator p off a v m

/-! ### Transactions -/

/-- Run an operation that answers: its answer, and the device with its other outputs; `none` while the answer is still to come. -/
def Dev.taken (d : Dev) (f : Dev → Dev) : Option (Status × Nat) × Dev :=
  let e := f { d with out := [] }
  (e.out.findSome? fun o => match o with | .answer s v => some (s, v) | _ => none,
   { e with out := d.out ++ e.out.filter fun o => match o with | .answer _ _ => false | _ => true })

/-- The words a page transaction covers, read in address order; the first status other than OK stands. -/
def Dev.readWords (d : Dev) (i : Initiator) (p : Page) (off a : Nat) : Nat → Status × Nat × Dev
  | 0 => (.ok, 0, d)
  | n + 1 =>
    match d.taken (fun d => d.readWord i p off a) with
    | (some (.ok, v), d) =>
      match Dev.readWords d i p (off + 4) (a + 4) n with
      | (s, w, d) => (s, v + 2 ^ 32 * w, d)
    | (some (s, _), d) => (s, 0, d)
    | (none, d) => (.ok, 0, d)

/-- The words a page transaction covers, written in address order with data `v` under the byte mask `m`. -/
def Dev.writeWords (d : Dev) (t : Txn) (p : Page) (off a v m : Nat) : Nat → Status × Dev
  | 0 => (.ok, d)
  | n + 1 =>
    match d.taken (fun d => d.writeWord t p off a (v % 2 ^ 32) (m % 2 ^ 32)) with
    | (some (.ok, _), d) | (none, d) => Dev.writeWords d t p (off + 4) (a + 4) (v / 2 ^ 32) (m / 2 ^ 32) n
    | (some (s, _), d) => (s, d)

/-- Bytes of a register page: 16 for an endpoint, a channel's block for CAN, else 4 KiB. -/
def pageSize : Page → Nat
  | .endpoint _ _ => 0x10
  | .can _ => 0x4000
  | _ => 0x1000

/-- The checks of Table 1.4 for a page. An access that runs past the page's end lies in no unit's page. -/
def Dev.pageCheck (d : Dev) (t : Txn) (p : Page) (off : Nat) : Status :=
  if pageSize p < off + t.size then .accessAttr
  else if d.pageSecure p t.addr && !t.secure then .worldDenied
  else if !d.hallMay t p off then .hallDenied
  else if !d.epochMay t p off then .staleEpoch
  else if (match t.kind with | .atomic _ => true | _ => false) then .accessAttr
  else if t.addr % t.size ≠ 0 then .notAligned
  else if !d.pageOn p || d.pageStopped t p then .wrongState
  else .ok

/-- A transaction to a region of unit registers. -/
def Dev.pageTxn (d : Dev) (t : Txn) : Dev :=
  match pageOf t.addr with
  | none => d.answer .accessAttr
  | some (p, off) =>
    match d.pageCheck t p off with
    | .ok =>
      let n := (off % 4 + t.size + 3) / 4
      let sh := 2 ^ (8 * (off % 4))
      let o := off - off % 4
      let a := t.addr - off % 4
      if t.kind = .read then
        match d.readWords t.initiator p o a n with
        | (s, v, d) => d.answer s (if s = .ok then v / sh % 2 ^ (8 * t.size) else 0)
      else
        match d.writeWords t p o a (t.data % 2 ^ (8 * t.size) * sh) ((2 ^ (8 * t.size) - 1) * sh) n with
        | (s, d) => d.answer s
    | s => d.answer s

/-- The DRAM window base of a 32-bit initiator (R30, R353); a lockstep pair uses its lower core's. -/
def Dev.dramWindow (d : Dev) : Initiator → Option Nat
  | .cCore n => some (d.get (Ent.Dwin.DRAM_WIN (if d.paired n then n / 2 * 2 else n)))
  | .executor x => some (d.get (Ent.Dwin.DRAM_WIN (execLead x)))
  | .se => some (d.get (Ent.Dwin.DRAM_WIN 8))
  | .m0 => some (d.get Ent.Dwin.DRAM_WIN_M0)
  | _ => none

/-- The memory address a transaction means; `none` where its window is refused. -/
def Dev.physical (d : Dev) (t : Txn) : Option Nat :=
  if region t.addr = some .dramWindow then (d.dramWindow t.initiator).map (· + (t.addr - 0x80000000)) else some t.addr

/-- Memory is mapped for an initiator at an address (check 1): DRAM below the ECC store and, for the switch core, the stairwell (R28, Table 15.2), and
the other memories whole. -/
def Dev.memMapped (d : Dev) (i : Initiator) (a : Nat) : Bool :=
  match region a with
  | some .dram => d.dramMapped a || (i == .switchCore && decide (d.stairwellBase ≤ a) && decide (a < 0x100000000 + d.dramSize))
  | some .bootRom | some .mezzSram | some .sysSram | some .tcm | some .image => true
  | _ => false

/-- The checks of Table 1.4 for `t` at memory address `a`. -/
def Dev.memCheck (d : Dev) (t : Txn) (a : Nat) : Status :=
  let e := a + t.size - 1
  let write := t.kind != .read
  if !(d.memMapped t.initiator a && d.memMapped t.initiator e && region a == region e) then .accessAttr
  else if (d.needsSecure a || d.needsSecure e) && !t.secure then .worldDenied
  else if (write && (region a == some .bootRom || d.coversUpper a t.size)) || !atomicOk t then .accessAttr
  else if a % t.size ≠ 0 then .notAligned
  else if d.memOff a then .wrongState
  else
    match t.kind with
    | .read => if d.integrityFails false a t.size then .integrity else .ok
    | .atomic _ => if d.integrityFails false a t.size || d.integrityFails true a t.size then .integrity else .ok
    | _ => if d.integrityFails true a t.size then .integrity else .ok

/-- The atomic functions of R547 over `w` bits: the new value from the old one and the operand. -/
def amo (fn w old v : Nat) : Nat :=
  match fn with
  | 0 => v
  | 1 => (old + v) % 2 ^ w
  | 2 => (BitVec.ofNat w old &&& BitVec.ofNat w v).toNat
  | 3 => (BitVec.ofNat w old ||| BitVec.ofNat w v).toNat
  | 4 => (BitVec.ofNat w old ^^^ BitVec.ofNat w v).toNat
  | 5 => if toInt w v < toInt w old then v else old
  | 6 => if toInt w old < toInt w v then v else old
  | 7 => min old v
  | 8 => max old v
  | _ => old

/-- A transaction to memory: performed whole, or refused with the first failing check's status (R16). -/
def Dev.memTxn (d : Dev) (t : Txn) : Dev :=
  match d.physical t with
  | none => d.answer .accessAttr
  | some a =>
    match d.memCheck t a with
    | .ok =>
      let d := d.dramUsed a
      let old := ofLe (d.readMem a t.size)
      let v := t.data % 2 ^ (8 * t.size)
      match t.kind with
      | .read => d.answer .ok old
      | .atomic fn => (d.storeMem a (le t.size (amo fn (8 * t.size) old v))).answer .ok old
      | _ => (d.storeMem a (le t.size v)).answer .ok
    | .integrity => (d.readPoison (a / 64 * 64) 64).answer .integrity
    | s => d.answer s

/-- A transaction reaches its target. A bridge window turns it into a request of its context; its answer then comes with the outcome (Table 9.3). -/
def Dev.access (d : Dev) (t : Txn) : Dev :=
  match region t.addr with
  | none => d.answer .accessAttr
  | some .units | some .mezzRegs => d.pageTxn t
  | some .bridgeWindow =>
    match t.kind with
    | .read => bridgeWindowReadOp t d
    | .posted => bridgeWindowPostedWriteOp t d
    | .write => bridgeWindowWriteOp t d
    | .atomic _ => bridgeWindowAtomicOp t d
  | some _ => d.memTxn t

/-- The initiators that issue atomics (R547). -/
def issuesAtomics : Initiator → Bool
  | .aCore _ | .bridge _ => true
  | _ => false

/-- The attributes that an initiator's hardware sets, as Table 1.2 gives them (R15, R225). A secure initiator chooses its world per transaction, and
those that serve a queue, a request or a context carry the hall they serve: these are the transaction's own. -/
def Dev.attributed (d : Dev) (t : Txn) : Txn :=
  match t.initiator with
  | .aCore k => { t with secure := false, hall := (d.hart k).nhall }
  | .cCore n => { t with secure := false, hall := (d.hart (4 + n)).nhall }
  | .executor x => { t with secure := false, hall := (d.hart (4 + execLead x)).nhall }
  | .se => { t with secure := false, hall := 0 }
  | .m0 | .mezzDma | .crypto => { t with hall := 0 }
  | .engine _ | .switchCore | .d0 | .hostEngine _ | .storage => { t with secure := false }
  | .bridge _ => { t with secure := false, epv := false }
  | .dma c => { t with secure := d.dmaSecure c, hall := d.dmaOwner c }
  | .debug => { t with secure := bit d.dbgActive 3, hall := 0 }

/-- A transaction of one of Table 1.2's initiators, performed by `f`; an atomic of another initiator than R547's is never issued. A core's refused access
also raises its access fault (R21, R324). -/
def Dev.issued (d : Dev) (t : Txn) (f : Txn → Dev → Dev) : Dev :=
  let t := d.attributed t
  if (match t.kind with | .atomic _ => true | _ => false) && !issuesAtomics t.initiator then d
  else match d.taken (f t) with
  | (none, d) => d
  | (some (.ok, v), d) => d.answer .ok v
  | (some (s, v), d) => (d.answer s v).accessFault t.initiator t.hall s

def Dev.transact (d : Dev) (t : Txn) : Dev := d.issued t fun t d => d.access t

/-- A transaction that the device builds itself carries the current epoch of the unit it addresses, if that uses one (R17; DESIGN CHOICE,
assumption 58). -/
def Dev.addressed (d : Dev) (t : Txn) : Txn :=
  match (pageOf t.addr).bind fun p => pageEpoch p.1 p.2 with
  | some u => { t with epv := true, epoch := d.epoch u }
  | none => t

/-- A read or write transaction (R16). -/
def concourseTransactionOp (t : Txn) (d : Dev) : Dev := d.transact t

/-- An atomic transaction (R547). -/
def atomicTransactionOp (t : Txn) (d : Dev) : Dev :=
  d.transact { t with kind := match t.kind with | .atomic f => .atomic f | _ => .atomic 0 }

/-- A write to a register of a page. -/
def Dev.registerWrite (d : Dev) (t : Txn) : Dev :=
  d.transact { t with kind := if t.kind = .posted then .posted else .write }

/-! ### Debug (R341, R408) -/

/-- The initiator a hart is. -/
def hartInitiator (k : Nat) : Initiator := if k < 4 then .aCore k else if k < 12 then .cCore (k - 4) else .m0

/-- The Access Memory abstract command through a halted hart: the access is the hart's, with its hall and, for M0, in the secure world. A refused
access reports its status and takes no trap. -/
def accessMemoryOp (k addr size : Nat) (write : Option Nat) (d : Dev) : Dev :=
  if d.mayAct k && (d.hart k).halted then
    d.access (d.addressed ⟨hartInitiator k, k == 12, if k = 12 then 0 else (d.hart k).nhall, false, 0, if write.isSome then .write else .read, addr, size,
      write.getD 0⟩)
  else d.emit (.debugRefused k)

/-- The address is of a secure region for the debug module. -/
def Dev.debugSecure (d : Dev) (a : Nat) : Bool :=
  d.needsSecure a || match pageOf a with | some (p, _) => d.pageSecure p a | none => false

/-- System bus access of 8 to 64 bits: SEC_INV for a secure region, NRM_INV for the rest; secure while SEC_INV is active (Table 1.2). 13 names the
debug module's bus master. -/
def systemBusAccessOp (addr size : Nat) (write : Option Nat) (d : Dev) : Dev :=
  if 8 < size ∨ !bit d.dbgActive (if d.debugSecure addr then 3 else 1) then d.emit (.debugRefused 13)
  else d.access (d.addressed ⟨.debug, bit d.dbgActive 3, 0, false, 0, if write.isSome then .write else .read, addr, size, write.getD 0⟩)

/-! ### DMA bursts (R364) -/

/-- A transaction of a channel. -/
def Dev.dmaTxn (c : Nat) (kind : TKind) (a n v : Nat) (d : Dev) : Option (Status × Nat) × Dev :=
  d.taken fun d => d.access (d.addressed ⟨.dma c, d.dmaSecure c, d.dmaOwner c, false, 0, kind, a, n, v⟩)

/-- A channel's reads of a prefetchable window, and its 4-byte non-posted writes to a D region (R355). -/
def dmaPort (c : Nat) : DmaPort := ⟨fun p => Dev.dmaTxn c .read p.1 p.2 0, fun p => Dev.dmaTxn c .write p.1 4 p.2⟩

def dmaBurstOp (d : Dev) : Dev := d.burstBoundary dmaPort

/-! ### Accesses of an initiator to a bridge window (R221) -/

def issueWindowReadOp (t : Txn) (d : Dev) : Dev := d.issued { t with kind := .read, data := 0 } bridgeWindowReadOp
def issueWindowPostedWriteOp (t : Txn) (d : Dev) : Dev := d.issued { t with kind := .posted } bridgeWindowPostedWriteOp
def issueWindowWriteOp (t : Txn) (d : Dev) : Dev := d.issued { t with kind := .write } bridgeWindowWriteOp
def issueWindowAtomicOp (t : Txn) (d : Dev) : Dev :=
  d.issued { t with kind := match t.kind with | .atomic f => .atomic f | _ => .atomic 0 } bridgeWindowAtomicOp

/-! ### Meanings -/

def execConcourseTransaction (t : Txn) (s : State) := onDev s (concourseTransactionOp t)
def execAtomicTransaction (t : Txn) (s : State) := onDev s (atomicTransactionOp t)
def execAccessMemory (k addr size : Nat) (write : Option Nat) (s : State) := onDev s (accessMemoryOp k addr size write)
def execSystemBusAccess (addr size : Nat) (write : Option Nat) (s : State) := onDev s (systemBusAccessOp addr size write)
def execBridgeWindowRead (t : Txn) (s : State) := onDev s (issueWindowReadOp t)
def execBridgeWindowPostedWrite (t : Txn) (s : State) := onDev s (issueWindowPostedWriteOp t)
def execBridgeWindowWrite (t : Txn) (s : State) := onDev s (issueWindowWriteOp t)
def execBridgeWindowAtomic (t : Txn) (s : State) := onDev s (issueWindowAtomicOp t)
def execDmaBurst (s : State) := onDev s dmaBurstOp

end Sys2Proof.Machine
end

