-- ==== Sys2Proof/Machine/BridgeServe.lean ====
section
/-! DEFINITION. Bridge responders: sessions served, the order of requests, export checks, remote memory and dictionary requests, EVENTs, status reads
and ACKs (R215, R218, R219, R224 to R229). -/

namespace Sys2Proof.Machine

/-! ### Rejections and unauthenticated answers -/

/-- A message is dropped and counted (R218, R219, Table 9.10). -/
def Dev.rxRejected (d : Dev) (u : Nat) : Dev :=
  (d.count (buCounter u 0)).limited (scopeOf (srcBridge u 255) 0x0022) 1 fun d c => d.event (srcBridge u 255) 0x0022 (min c 0xFFFFFFFF)

/-- An answer with a tag of 16 zero bytes: no key protects it (R218, R219). -/
def Dev.bareAnswer (d : Dev) (u mac : Nat) (m : BMsg) (s : Status) : Dev :=
  d.bridgeSend u mac ({ m with ty := 4, spec := false, enc := false, seq := 0, tag := m.seq, status := s.code, data := [], auth := zeros 16 } : BMsg).wire

/-! ### Sessions -/

/-- Sessions a unit holds. -/
def Dev.servedBy (d : Dev) (u : Nat) : Nat := (d.br.serve.filter fun x => serveUnit x.1 == u).length

/-- CONNECT (R218): the responder's nonce is a free value. A key slot without a key answers NOT_CONFIGURED (R404). -/
def Dev.serveConnect (d : Dev) (u : Nat) (m : BMsg) (mac : Nat) : Dev :=
  match d.exportFor u (m.srcNode + m.srcUnit * 4096) with
  | none => d.rxRejected u
  | some r =>
    let slot := leAt r 4 1
    match d.hmacKey slot with
    | none => d.bareAnswer u mac m .notConfigured
    | some key =>
      let k := serveKey u m
      if m.auth ≠ m.connectTag key then d.rxRejected u
      else if (KV.find k d.br.serve).isNone ∧ 256 ≤ d.servedBy u then d.bareAnswer u mac m .noResource
      else
        let (n, d) := d.draw 128
        let nonce := le 16 n.toNat
        let sk := bridgeKey key (slice m.data 0 16) nonce
        let s : BServe := ⟨mac, slot, sk, 0, [], [], 1, none, 0, 0, none, m.epoch⟩
        let a := ({ m with ty := 4, spec := false, seq := 0, tag := m.seq, status := 0, data := nonce, auth := [] } : BMsg).protect sk 0
        (d.setBr fun b => { b with serve := KV.insert k s b.serve }).bridgeSend u mac a.wire

/-! ### Requests (Table 9.4) -/

/-- The right of Table 9.5 an operation needs; an ACK request needs none. -/
def opRight (op : Nat) : Option Nat :=
  if op = 2 then some 0 else if op = 3 ∨ op = 4 then some 1 else if op = 5 then some 2 else if op = 6 ∨ op = 7 then some 3
  else if op = 8 then some 4 else if op = 9 then some 5 else none

/-- The operation acts on the responder's memory. -/
def opMemory (op : Nat) : Bool := decide (2 ≤ op) && decide (op ≤ 5)

/-- The address lies in an M region (Table 1.10). -/
def Dev.isM (d : Dev) (a : Nat) : Bool := (region a).isSome && !d.isD a

/-- Checks 2 to 5 of Table 9.4. -/
def Dev.exportCheck (d : Dev) (r : Option Bytes) (m : BMsg) : Status :=
  match r with
  | none => .hallDenied
  | some r =>
    let n := 2 ^ (m.size % 16)
    if (match opRight m.op with | some i => !bit (leAt r 3 1) i | none => false) then .hallDenied
    else if opMemory m.op && (decide (6 < m.size % 16) || decide (m.addr < leAt r 8 4 * 4096) ||
        decide ((leAt r 8 4 + leAt r 12 4) * 4096 < m.addr + n)) then .accessAttr
    else if m.op == 2 && m.spec && !d.isM m.addr then .accessAttr
    else if !d.hallExists (leAt r 2 1) then .hallDenied
    else .ok

/-- The memory operation of a request of session `k` on the responder's concourse (R225): its status and the value it answers; `none` where it went into a
bridge window of this device and the answer is still to come. -/
def Dev.serveMemory (d : Dev) (k hall : Nat) (m : BMsg) : Option (Status × Nat) × Dev :=
  let n := 2 ^ (m.size % 16)
  let kind : TKind := if m.op = 2 then .read else if m.op = 5 then .atomic (m.size / 16) else .write
  let t : Txn := ⟨.bridge (serveUnit k), false, hall, false, 0, kind, m.addr, n, ofLe (slice m.data 0 n)⟩
  d.taken fun d =>
    if region m.addr = some .bridgeWindow then d.windowOp t (if m.op = 2 then 2 else if m.op = 5 then 5 else 4) (some k) else d.access t

/-- An EVENT reaches its endpoint (R229); one from an unlisted source, or with EVT_MODE 1, is counted and acknowledged. -/
def Dev.takeEvent (d : Dev) (u : Nat) (m : BMsg) : Dev :=
  let matches_ (e : Nat) : Bool :=
    let r := d.endpoint u e
    epValid r && epNode r == m.srcNode && epUnit r == m.srcUnit && epSid r == m.sid
  match (if d.get (Ent.Bu.EVT_MODE u) = 0 then (List.range 1024).find? matches_ else none) with
  | none => d.count (buCounter u 1)
  | some e =>
    let v := leAt m.data 0 4
    let old := d.fld (Rg.Ep.EVT_PENDING u e)
    let d := if (BitVec.ofNat 32 old &&& BitVec.ofNat 32 v).toNat = 0 then d else d.setFld (Rg.Ep.MERGED u e) 1
    ((d.setFld (Rg.Ep.EVT_PENDING u e) (orBits old v)).setFld (Rg.Ep.SIDEBAND u e) (leAt m.data 4 4)).setFld (Rg.Ep.EVT_SEQ u e)
      ((d.fld (Rg.Ep.EVT_SEQ u e) + 1) % 2 ^ 32)

/-- A remote dictionary request goes to D0 on the mailbox path of the export's hall, or finds its queue full (R63, R227). MB_CTRL's EPOCH, EPV, SHADOW and
MORE stand in ADDR [18:0] (DESIGN CHOICE, assumption 30). -/
def Dev.serveDict (d : Dev) (k hall : Nat) (m : BMsg) : Dev :=
  if 16 ≤ d.pathCount (.mailbox hall) then d.serveAnswer k m .busy []
  else
    let b := m.data
    let q : DictReq := ⟨m.op == 7, leAt b 0 2, leAt b 2 1, leAt b 4 4, some (leAt b 8 2), leAt b 12 4, bit m.addr 18, bit m.addr 17, bit m.addr 16,
      bits m.addr 15 0,
      if m.op = 7 then b.drop 16 else []⟩
    (d.setServe k fun s => { s with asked := some m }).submit ⟨q, ⟨.mailbox hall, k + 1, 0, []⟩, false⟩

/-- Perform one request of a session (R224 to R229). -/
def Dev.performRequest (d : Dev) (k : Nat) (m : BMsg) : Dev :=
  let u := serveUnit k
  let d := d.setServe k fun s => { s with epoch := m.epoch }
  let r := d.exportFor u (serveSource k)
  let hall := leAt (r.getD []) 2 1
  let s := d.exportCheck r m
  if m.op = 8 then (if s = .ok then (d.takeEvent u m).postedDone k m false else d.postedDone k m true)
  else if s ≠ .ok then (if m.op = 3 then d.postedDone k m true else d.serveAnswer k m s [])
  else if opMemory m.op then
    match (d.setServe k fun s => { s with asked := some m }).serveMemory k hall m with
    | (some (s, v), d) => d.servedDone k s v
    | (none, d) => d
  else if m.op = 9 then d.serveAnswer k m .ok (d.statusBlock u (m.addr % 64))
  else if m.op = 0x0A then
    (d.setServe k fun s => { s with last := m.seq }).sendAck k (some m.seq)
  else d.serveDict k hall m

/-- Perform the requests held for a session that are next in order, while none of them is still to be answered (R219, R226). -/
def Dev.serveNext (d : Dev) (k : Nat) : Nat → Dev
  | 0 => d
  | n + 1 =>
    match KV.find k d.br.serve with
    | none => d
    | some s =>
      if s.asked.isSome then d
      else
        let q := nextMsgSeq s.last
        match KV.find q s.early with
        | none => d
        | some m => Dev.serveNext ((d.setServe k fun s => { s with early := KV.erase q s.early }).performRequest k m) k n

/-- Sessions whose request has been answered go on with what they hold. -/
def Dev.serveResume (d : Dev) : Dev := d.br.serve.foldl (fun d x => d.serveNext x.1 33) d

/-- How far a request number lies after the last one performed, over the numbers 1 to 0xFFFF_FFFF (R219). -/
def seqAhead (last q : Nat) : Nat := (q + 0xFFFFFFFF - last) % 0xFFFFFFFF

/-- A request message for a unit (R218, R219). Its number decides: held and performed in order, answered again, or dropped. -/
def Dev.serveRequest (d : Dev) (u : Nat) (m : BMsg) (mac : Nat) : Dev :=
  let k := serveKey u m
  match KV.find k d.br.serve with
  | none => d.bareAnswer u mac m .wrongState
  | some s =>
    let mode := leAt ((d.exportFor u (serveSource k)).getD []) 5 1
    match (if m.enc == (mode == 1) then m.openUnder s.key else none) with
    | none => d.rxRejected u
    | some x =>
      let n := seqAhead s.last m.seq
      if m.seq = 0 then d.rxRejected u
      else if 1 ≤ n ∧ n ≤ 32 then
        let held := s.asked.any (fun a => a.seq == m.seq) || (KV.find m.seq s.early).isSome
        let d := if held then d else d.setServe k fun s => { s with early := KV.insert m.seq x s.early }
        d.serveNext k 33
      else
        match s.cache.find? fun c => c.1 == m.seq with
        | some (_, some w) => d.bridgeSend u s.mac w
        | some (_, none) => d.sendAck k
        | none => d.rxRejected u

/-- A request of operation `op` arrives at unit `u` from source MAC `mac`. -/
def requestOp (op u : Nat) (m : BMsg) (mac : Nat) (d : Dev) : Dev :=
  if !d.bridgeOn u ∨ m.ty ≠ 3 ∨ m.op ≠ op then d else d.serveRequest u m mac

def bridgeConnectRxOp (u : Nat) (m : BMsg) (mac : Nat) (d : Dev) : Dev :=
  if !d.bridgeOn u ∨ m.ty ≠ 3 ∨ m.op ≠ 1 then d else d.serveConnect u m mac
def bridgeReadOp (u : Nat) (m : BMsg) (mac : Nat) (d : Dev) : Dev := requestOp 2 u m mac d
def bridgePostedWriteOp (u : Nat) (m : BMsg) (mac : Nat) (d : Dev) : Dev := requestOp 3 u m mac d
def bridgeWriteOp (u : Nat) (m : BMsg) (mac : Nat) (d : Dev) : Dev := requestOp 4 u m mac d
def bridgeAtomicOp (u : Nat) (m : BMsg) (mac : Nat) (d : Dev) : Dev := requestOp 5 u m mac d
def bridgeDictReadOp (u : Nat) (m : BMsg) (mac : Nat) (d : Dev) : Dev := requestOp 6 u m mac d
def bridgeDictWriteOp (u : Nat) (m : BMsg) (mac : Nat) (d : Dev) : Dev := requestOp 7 u m mac d
def bridgeEventOp (u : Nat) (m : BMsg) (mac : Nat) (d : Dev) : Dev := requestOp 8 u m mac d
def bridgeStatusReadOp (u : Nat) (m : BMsg) (mac : Nat) (d : Dev) : Dev := requestOp 9 u m mac d
def bridgeAckRequestOp (u : Nat) (m : BMsg) (mac : Nat) (d : Dev) : Dev := requestOp 0x0A u m mac d

/-- An ACK of the responder by itself: after every 16 writes, and within 50 µs of a write that no ACK covers (R225). -/
def bridgeAckSendOp (u node unit sid : Nat) (d : Dev) : Dev :=
  let k := ((u * 4 + unit) * 4096 + node) * 2048 + sid
  match KV.find k d.br.serve with
  | some s => if s.uncovered = 0 then d else d.sendAck k
  | none => d

/-! ### Answers that let served sessions go on -/

/-- A request of this device's contexts is answered or given up; a session that waits for it goes on (R224, R226). -/
def bridgeRetryServedOp (u sid : Nat) (d : Dev) : Dev := (bridgeRetryOp u sid d).serveResume
def bridgeResponseServedOp (u : Nat) (m : BMsg) (d : Dev) : Dev := (bridgeResponseOp u m d).serveResume

/-! ### Meanings -/

def execBridgeResponse (u : Nat) (m : BMsg) (s : State) := onDev s (bridgeResponseServedOp u m)
def execBridgeRetry (u sid : Nat) (s : State) := onDev s (bridgeRetryServedOp u sid)

def execBridgeConnect (u : Nat) (m : BMsg) (mac : Nat) (s : State) := onDev s (bridgeConnectRxOp u m mac)
def execBridgeRead (u : Nat) (m : BMsg) (mac : Nat) (s : State) := onDev s (bridgeReadOp u m mac)
def execBridgePostedWrite (u : Nat) (m : BMsg) (mac : Nat) (s : State) := onDev s (bridgePostedWriteOp u m mac)
def execBridgeWrite (u : Nat) (m : BMsg) (mac : Nat) (s : State) := onDev s (bridgeWriteOp u m mac)
def execBridgeAtomic (u : Nat) (m : BMsg) (mac : Nat) (s : State) := onDev s (bridgeAtomicOp u m mac)
def execBridgeDictRead (u : Nat) (m : BMsg) (mac : Nat) (s : State) := onDev s (bridgeDictReadOp u m mac)
def execBridgeDictWrite (u : Nat) (m : BMsg) (mac : Nat) (s : State) := onDev s (bridgeDictWriteOp u m mac)
def execBridgeEvent (u : Nat) (m : BMsg) (mac : Nat) (s : State) := onDev s (bridgeEventOp u m mac)
def execBridgeStatusRead (u : Nat) (m : BMsg) (mac : Nat) (s : State) := onDev s (bridgeStatusReadOp u m mac)
def execBridgeAckRequest (u : Nat) (m : BMsg) (mac : Nat) (s : State) := onDev s (bridgeAckRequestOp u m mac)
def execBridgeAckSend (u node unit sid : Nat) (s : State) := onDev s (bridgeAckSendOp u node unit sid)

end Sys2Proof.Machine
end

