-- ==== Sys2Proof/Machine/Execute.lean ====
section
/-! DEFINITION. D0's execution of the request at the front of its queue (R62), the boundaries of groups, stores and transfers, and the writes of registers
that have no row of their own (R8). -/

namespace Sys2Proof.Machine

/-- What surrounds the execution of a request: a session's order moves on (R75), and a bridge session goes on with what it holds (R219). -/
def Dev.executing (d : Dev) (q : QReq) (f : Dev → Dev) : Dev :=
  let o := q.origin
  let d := if o.path = .udp then d.ndpExecuted o.session o.seq else d
  let d := f d
  (if o.path = .udp then d.ndpAdvance o.session 9 else d).serveResume

/-- Execute the front request if it satisfies a condition. -/
def Dev.executeFront (d : Dev) (p : QReq → Bool) (f : QReq → Dev → Dev) : Dev :=
  match d.nextReq with
  | some q => if p q then d.executing q (f q) else d
  | none => d

def dictReadExecOp (d : Dev) : Dev := d.executeFront (fun q => !q.req.write) fun q d => d.readExec q
def dictWriteExecOp (env : WriteEnv) (d : Dev) : Dev := d.executeFront (fun q => q.req.write) fun q d => d.writeExec q env

/-- A wake that nothing surrounds. -/
def noWake : WakeEnv := ⟨false, 0, 0, 0, ⟨[], 0, 0, 0, 0, 0, 0, false, 0⟩⟩

/-- A write that brings nothing from outside. -/
def plainEnv : WriteEnv := ⟨[], 0, none, noWake⟩

/-- The front request writes an entry with no row of its own. -/
def QReq.isGeneric (q : QReq) : Bool :=
  q.req.write && !ownWrite q.req.index q.req.sub && !(isGroup q.req.index && q.req.sub == 0xFE) && !q.isStore 0x1010 && !q.isStore 0x1011

/-- A write that only sets a value (R8): of a register, or of the entry that D0's front request names. -/
def dictWriteGenericOp (t : Option Txn) (d : Dev) : Dev :=
  match t with
  | some t => d.registerWrite t
  | none => d.executeFront QReq.isGeneric fun q d => d.writeExec q plainEnv

def applyOp (d : Dev) : Dev := d.executeFront (·.isApply 1) fun q d => d.writeExec q plainEnv
def applyDiscardOp (d : Dev) : Dev := d.executeFront (·.isApply 2) fun q d => d.writeExec q plainEnv
def storeParametersOp (d : Dev) : Dev := d.executeFront (·.isStore 0x1010) fun q d => d.writeExec q plainEnv
def restoreDefaultsOp (d : Dev) : Dev := d.executeFront (·.isStore 0x1011) fun q d => d.writeExec q plainEnv

/-- The boundary of an applying group's unit (R66). -/
def applyTakeEffectOp (i : Nat) (d : Dev) : Dev :=
  match KV.find i d.d0.applying with
  | some x => if d.groupReady i then (d.applyEffect i x).serveResume else d
  | none => d

/-- A run of converter `a` completes (R317): the groups that waited for its end apply (R320), and the next pending run begins. -/
def adcRunCompleteOp (a : Nat) (codes : List Nat) (d : Dev) : Dev :=
  match (d.conv a).run with
  | none => d
  | some r =>
    let d := d.runEnds a codes r
    ((((List.range 8).map (0x4110 + 8 * a + ·)) ++ (List.range 16).map (0x4130 + ·)).foldl (fun d i => applyTakeEffectOp i d) d).nextRun a

/-- The time after which a shadow's ownership and a transfer end. -/
def tenSeconds : Nat := 10000000000

/-- A shadow's owner neither wrote nor applied for 10 s (R65). -/
def shadowTimeoutOp (i : Nat) (d : Dev) : Dev :=
  if (KV.find i d.d0.applying).isSome || !(KV.find i d.d0.shadows).any (fun x => d.passed x.since tenSeconds) then d else d.setD0 fun u => { u with shadows := KV.erase i u.shadows }

/-- A DOMAIN transfer had no segment for 10 s (R77). -/
def domainTransferTimeoutOp (i s : Nat) (d : Dev) : Dev :=
  match KV.find (i * 256 + s) d.d0.transfers with
  | none => d
  | some x =>
    if !d.passed x.since tenSeconds then d else
    let d := d.setD0 fun u => { u with transfers := KV.erase (i * 256 + s) u.transfers }
    if i * 256 + s = Ent.Stg.STAGING.key then d.stagingEmpty else d

def storeCommitOp (d : Dev) : Dev := d.storeCommit.serveResume

/-! ### Meanings -/

def execDictReadExec (s : State) := onDev s dictReadExecOp
def execDictWriteExec (env : WriteEnv) (s : State) := onDev s (dictWriteExecOp env)
def execDictWriteGeneric (t : Option Txn) (s : State) := onDev s (dictWriteGenericOp t)
def execApply (s : State) := onDev s applyOp
def execApplyDiscard (s : State) := onDev s applyDiscardOp
def execApplyTakeEffect (i : Nat) (s : State) := onDev s (applyTakeEffectOp i)
def execAdcRunComplete (a : Nat) (codes : List Nat) (s : State) := onDev s (adcRunCompleteOp a codes)
def execShadowTimeout (i : Nat) (s : State) := onDev s (shadowTimeoutOp i)
def execDomainTransferTimeout (i sub : Nat) (s : State) := onDev s (domainTransferTimeoutOp i sub)
def execStoreParameters (s : State) := onDev s storeParametersOp
def execRestoreDefaults (s : State) := onDev s restoreDefaultsOp
def execStoreCommit (s : State) := onDev s storeCommitOp

end Sys2Proof.Machine
end

