-- ==== Sys2Proof/Machine/Dispatch.lean ====
section
/-! DEFINITION. One arm per command: its meaning, or its rejection by name. -/

namespace Sys2Proof.Machine

/-- The effect of a command on everything but the queue. -/
def exec (i : Instr) (s : State) : Host.Outcome State Fault Refusal :=
  match i with
  | .concourseTransaction t => Sys2Proof.Machine.execConcourseTransaction t s
  | .atomicTransaction t => Sys2Proof.Machine.execAtomicTransaction t s
  | .safeStateLine g asserted => Sys2Proof.Machine.execSafeStateLine g asserted s
  | .paceSample code => Sys2Proof.Machine.execPaceSample code s
  | .trimStep up => Sys2Proof.Machine.execTrimStep up s
  | .paceFault => Sys2Proof.Machine.execPaceFault s
  | .paceFaultEnd => Sys2Proof.Machine.execPaceFaultEnd s
  | .counterLowRead ix idx sub high => Sys2Proof.Machine.execCounterLowRead ix idx sub high s
  | .counterLowWrite idx sub v => Sys2Proof.Machine.execCounterLowWrite idx sub v s
  | .counterHighWrite idx sub v => Sys2Proof.Machine.execCounterHighWrite idx sub v s
  | .unitEnable x secure => Sys2Proof.Machine.execUnitEnable x secure s
  | .unitDisable x secure => Sys2Proof.Machine.execUnitDisable x secure s
  | .drainDone x => Sys2Proof.Machine.execDrainDone x s
  | .drainTimeout x => Sys2Proof.Machine.execDrainTimeout x s
  | .fence u k hall v => Sys2Proof.Machine.execFence u k hall v s
  | .fenceComplete u k => Sys2Proof.Machine.execFenceComplete u k s
  | .dictReadExec => Sys2Proof.Machine.execDictReadExec s
  | .dictWriteExec env => Sys2Proof.Machine.execDictWriteExec env s
  | .dictWriteGeneric t => Sys2Proof.Machine.execDictWriteGeneric t s
  | .apply => Sys2Proof.Machine.execApply s
  | .applyDiscard => Sys2Proof.Machine.execApplyDiscard s
  | .applyTakeEffect ix => Sys2Proof.Machine.execApplyTakeEffect ix s
  | .shadowTimeout ix => Sys2Proof.Machine.execShadowTimeout ix s
  | .domainTransferTimeout ix sub => Sys2Proof.Machine.execDomainTransferTimeout ix sub s
  | .ndpOpen m => Sys2Proof.Machine.execNdpOpen m s
  | .ndpClose m => Sys2Proof.Machine.execNdpClose m s
  | .ndpRead m => Sys2Proof.Machine.execNdpRead m s
  | .ndpWrite m => Sys2Proof.Machine.execNdpWrite m s
  | .ndpNop m => Sys2Proof.Machine.execNdpNop m s
  | .sessionIdleTimeout id => Sys2Proof.Machine.execSessionIdleTimeout id s
  | .mbGo p v => Sys2Proof.Machine.execMbGo p v s
  | .storeParameters => Sys2Proof.Machine.execStoreParameters s
  | .restoreDefaults => Sys2Proof.Machine.execRestoreDefaults s
  | .storeCommit => Sys2Proof.Machine.execStoreCommit s
  | .frameClassify p f len fcs landed => Sys2Proof.Machine.execFrameClassify p f len fcs landed s
  | .frameLanded p => Sys2Proof.Machine.execFrameLanded p s
  | .stwWriteComplete p c => Sys2Proof.Machine.execStwWriteComplete p c s
  | .refillStart p c => Sys2Proof.Machine.execRefillStart p c s
  | .refillComplete p c err => Sys2Proof.Machine.execRefillComplete p c err s
  | .txSelect p => Sys2Proof.Machine.execTxSelect p s
  | .copySent p ecc col => Sys2Proof.Machine.execCopySent p ecc col s
  | .queueFlush p c => Sys2Proof.Machine.execQueueFlush p c s
  | .fdbFlush v => Sys2Proof.Machine.execFdbFlush v s
  | .fdbAging mac vid => Sys2Proof.Machine.execFdbAging mac vid s
  | .streamUnblock n => Sys2Proof.Machine.execStreamUnblock n s
  | .streamClear n => Sys2Proof.Machine.execStreamClear n s
  | .recoveryResetTimeout n => Sys2Proof.Machine.execRecoveryResetTimeout n s
  | .linkQualifyStart p => Sys2Proof.Machine.execLinkQualifyStart p s
  | .linkUp p => Sys2Proof.Machine.execLinkUp p s
  | .linkDown p pins => Sys2Proof.Machine.execLinkDown p pins s
  | .holdExpiry p => Sys2Proof.Machine.execHoldExpiry p s
  | .xtxdisRelease p => Sys2Proof.Machine.execXtxdisRelease p s
  | .gateIntervalEnd p => Sys2Proof.Machine.execGateIntervalEnd p s
  | .gclChange p => Sys2Proof.Machine.execGclChange p s
  | .triggerFire u => Sys2Proof.Machine.execTriggerFire u s
  | .triggerPulseEnd n => Sys2Proof.Machine.execTriggerPulseEnd n s
  | .snapCapture ix => Sys2Proof.Machine.execSnapCapture ix s
  | .adjGo hall v => Sys2Proof.Machine.execAdjGo hall v s
  | .timeRateChange => Sys2Proof.Machine.execTimeRateChange s
  | .timeStep => Sys2Proof.Machine.execTimeStep s
  | .qualitySet => Sys2Proof.Machine.execQualitySet s
  | .setTime v => Sys2Proof.Machine.execSetTime v s
  | .trigEdgeCapture n rising phase => Sys2Proof.Machine.execTrigEdgeCapture n rising phase s
  | .capturePop n => Sys2Proof.Machine.execCapturePop n s
  | .ptpMessageReceive p dom m => Sys2Proof.Machine.execPtpMessageReceive p dom m s
  | .ptpMessageSend p m phase latency => Sys2Proof.Machine.execPtpMessageSend p m phase latency s
  | .syncTimeout => Sys2Proof.Machine.execSyncTimeout s
  | .holdoverTimeout => Sys2Proof.Machine.execHoldoverTimeout s
  | .canSend n k v => Sys2Proof.Machine.execCanSend n k v s
  | .canAbort n k => Sys2Proof.Machine.execCanAbort n k s
  | .canTxStart n phase => Sys2Proof.Machine.execCanTxStart n phase s
  | .canArbitrationLost n => Sys2Proof.Machine.execCanArbitrationLost n s
  | .canTxComplete n => Sys2Proof.Machine.execCanTxComplete n s
  | .canError n lec at_ => Sys2Proof.Machine.execCanError n lec at_ s
  | .canRestart n => Sys2Proof.Machine.execCanRestart n s
  | .canBusRecovered n => Sys2Proof.Machine.execCanBusRecovered n s
  | .dominantTimeout n => Sys2Proof.Machine.execDominantTimeout n s
  | .canFrameReceive n f res sof phase => Sys2Proof.Machine.execCanFrameReceive n f res sof phase s
  | .objHdrRead n k ix => Sys2Proof.Machine.execObjHdrRead n k ix s
  | .objTailRead n k ix => Sys2Proof.Machine.execObjTailRead n k ix s
  | .lockExpiry n k => Sys2Proof.Machine.execLockExpiry n k s
  | .nmtCommand n cs node => Sys2Proof.Machine.execNmtCommand n cs node s
  | .sdoRequest n b => Sys2Proof.Machine.execSdoRequest n b s
  | .sdoTimeout n => Sys2Proof.Machine.execSdoTimeout n s
  | .heartbeatProduce => Sys2Proof.Machine.execHeartbeatProduce s
  | .hbLost ix => Sys2Proof.Machine.execHbLost ix s
  | .tpdoEventTimer k => Sys2Proof.Machine.execTpdoEventTimer k s
  | .keepaliveReceive k ty version node flags => Sys2Proof.Machine.execKeepaliveReceive k ty version node flags s
  | .keepaliveSend k => Sys2Proof.Machine.execKeepaliveSend k s
  | .quietTimeout k => Sys2Proof.Machine.execQuietTimeout k s
  | .waitTimeout k => Sys2Proof.Machine.execWaitTimeout k s
  | .domReqWrite v => Sys2Proof.Machine.execDomReqWrite v s
  | .powerReqStandby => Sys2Proof.Machine.execPowerReqStandby s
  | .powerReqSleep => Sys2Proof.Machine.execPowerReqSleep s
  | .powerReqCancel => Sys2Proof.Machine.execPowerReqCancel s
  | .sleepEntry => Sys2Proof.Machine.execSleepEntry s
  | .sleepArm => Sys2Proof.Machine.execSleepArm s
  | .sleepCommit => Sys2Proof.Machine.execSleepCommit s
  | .wakePattern n env => Sys2Proof.Machine.execWakePattern n env s
  | .wakeFrame n rate f env => Sys2Proof.Machine.execWakeFrame n rate f env s
  | .wakePin w high env => Sys2Proof.Machine.execWakePin w high env s
  | .wakeReq env => Sys2Proof.Machine.execWakeReq env s
  | .watchWake ix env => Sys2Proof.Machine.execWatchWake ix env s
  | .wakeConfirm v => Sys2Proof.Machine.execWakeConfirm v s
  | .falseWake n => Sys2Proof.Machine.execFalseWake n s
  | .fwCountClear n v => Sys2Proof.Machine.execFwCountClear n v s
  | .trxCmdNormal n => Sys2Proof.Machine.execTrxCmdNormal n s
  | .trxCmdRxOnly n => Sys2Proof.Machine.execTrxCmdRxOnly n s
  | .trxCmdStandby n => Sys2Proof.Machine.execTrxCmdStandby n s
  | .trxCmdGoToSleep n => Sys2Proof.Machine.execTrxCmdGoToSleep n s
  | .goToSleepTimeout n => Sys2Proof.Machine.execGoToSleepTimeout n s
  | .bridgeWindowRead t => Sys2Proof.Machine.execBridgeWindowRead t s
  | .bridgeWindowPostedWrite t => Sys2Proof.Machine.execBridgeWindowPostedWrite t s
  | .bridgeWindowWrite t => Sys2Proof.Machine.execBridgeWindowWrite t s
  | .bridgeWindowAtomic t => Sys2Proof.Machine.execBridgeWindowAtomic t s
  | .bridgeConnect u m mac => Sys2Proof.Machine.execBridgeConnect u m mac s
  | .bridgeRead u m mac => Sys2Proof.Machine.execBridgeRead u m mac s
  | .bridgePostedWrite u m mac => Sys2Proof.Machine.execBridgePostedWrite u m mac s
  | .bridgeWrite u m mac => Sys2Proof.Machine.execBridgeWrite u m mac s
  | .bridgeAtomic u m mac => Sys2Proof.Machine.execBridgeAtomic u m mac s
  | .bridgeDictRead u m mac => Sys2Proof.Machine.execBridgeDictRead u m mac s
  | .bridgeDictWrite u m mac => Sys2Proof.Machine.execBridgeDictWrite u m mac s
  | .bridgeEvent u m mac => Sys2Proof.Machine.execBridgeEvent u m mac s
  | .bridgeStatusRead u m mac => Sys2Proof.Machine.execBridgeStatusRead u m mac s
  | .bridgeAckRequest u m mac => Sys2Proof.Machine.execBridgeAckRequest u m mac s
  | .bridgeAckSend u node unit sid => Sys2Proof.Machine.execBridgeAckSend u node unit sid s
  | .bridgeResponse u m => Sys2Proof.Machine.execBridgeResponse u m s
  | .bridgeAckReceive u m => Sys2Proof.Machine.execBridgeAckReceive u m s
  | .bridgeRetry u sid => Sys2Proof.Machine.execBridgeRetry u sid s
  | .rslotClear u k hall v => Sys2Proof.Machine.execRslotClear u k hall v s
  | .evtSend u k hall v => Sys2Proof.Machine.execEvtSend u k hall v s
  | .sidebandOutWrite u k hall v => Sys2Proof.Machine.execSidebandOutWrite u k hall v s
  | .remoteMbGo u k hall v => Sys2Proof.Machine.execRemoteMbGo u k hall v s
  | .endpointPoll u e => Sys2Proof.Machine.execEndpointPoll u e s
  | .pollResult u m => Sys2Proof.Machine.execPollResult u m s
  | .tunnelPduSend t => Sys2Proof.Machine.execTunnelPduSend t s
  | .tunnelPduReceive u b => Sys2Proof.Machine.execTunnelPduReceive u b s
  | .engineStart => Sys2Proof.Machine.execEngineStart s
  | .engineStop => Sys2Proof.Machine.execEngineStop s
  | .engineAckFault => Sys2Proof.Machine.execEngineAckFault s
  | .engineLoad => Sys2Proof.Machine.execEngineLoad s
  | .evtFire v => Sys2Proof.Machine.execEvtFire v s
  | .taskDone x t => Sys2Proof.Machine.execTaskDone x t s
  | .taskFault x v => Sys2Proof.Machine.execTaskFault x v s
  | .deadlineOverrun ts => Sys2Proof.Machine.execDeadlineOverrun ts s
  | .stationFrameReceive src b => Sys2Proof.Machine.execStationFrameReceive src b s
  | .retainSaveComplete => Sys2Proof.Machine.execRetainSaveComplete s
  | .changeStart v => Sys2Proof.Machine.execChangeStart v s
  | .changeCancel => Sys2Proof.Machine.execChangeCancel s
  | .changeSwitch => Sys2Proof.Machine.execChangeSwitch s
  | .changeCommit => Sys2Proof.Machine.execChangeCommit s
  | .changeWindowTimeout => Sys2Proof.Machine.execChangeWindowTimeout s
  | .changeStandbyReady ready => Sys2Proof.Machine.execChangeStandbyReady ready s
  | .standbyReadyTimeout => Sys2Proof.Machine.execStandbyReadyTimeout s
  | .changeCommitReceive ix => Sys2Proof.Machine.execChangeCommitReceive ix s
  | .forceSet b => Sys2Proof.Machine.execForceSet b s
  | .forceRelease tag => Sys2Proof.Machine.execForceRelease tag s
  | .forceReleaseAll => Sys2Proof.Machine.execForceReleaseAll s
  | .channelOn n v => Sys2Proof.Machine.execChannelOn n v s
  | .channelOff n v => Sys2Proof.Machine.execChannelOff n v s
  | .channelClear n => Sys2Proof.Machine.execChannelClear n s
  | .channelPwmSet n v => Sys2Proof.Machine.execChannelPwmSet n v s
  | .pwmPeriodStart n => Sys2Proof.Machine.execPwmPeriodStart n s
  | .inrushEnd n => Sys2Proof.Machine.execInrushEnd n s
  | .limitEntry n => Sys2Proof.Machine.execLimitEntry n s
  | .thermalShutdown n tj delta => Sys2Proof.Machine.execThermalShutdown n tj delta s
  | .retryRestart n => Sys2Proof.Machine.execRetryRestart n s
  | .coupledRestart n => Sys2Proof.Machine.execCoupledRestart n s
  | .coupledTimeout n => Sys2Proof.Machine.execCoupledTimeout n s
  | .retryBudgetReset n => Sys2Proof.Machine.execRetryBudgetReset n s
  | .vbatUndervoltage g mv => Sys2Proof.Machine.execVbatUndervoltage g mv s
  | .vbatRecover g mv => Sys2Proof.Machine.execVbatRecover g mv s
  | .clampDetect n => Sys2Proof.Machine.execClampDetect n s
  | .offStateCheck n short mv1 isOpen mv2 => Sys2Proof.Machine.execOffStateCheck n short mv1 isOpen mv2 s
  | .senseStep p0 p1 p2 => Sys2Proof.Machine.execSenseStep p0 p1 p2 s
  | .channelHoldExpiry => Sys2Proof.Machine.execChannelHoldExpiry s
  | .dieLinkTimeout g => Sys2Proof.Machine.execDieLinkTimeout g s
  | .dieLinkReturn g => Sys2Proof.Machine.execDieLinkReturn g s
  | .lossHigh => Sys2Proof.Machine.execLossHigh s
  | .adcStart a v => Sys2Proof.Machine.execAdcStart a v s
  | .adcRunComplete a codes => Sys2Proof.Machine.execAdcRunComplete a codes s
  | .shuntOpen ix => Sys2Proof.Machine.execShuntOpen ix s
  | .shuntClose ix => Sys2Proof.Machine.execShuntClose ix s
  | .interruptSourceAssert n => Sys2Proof.Machine.execInterruptSourceAssert n s
  | .claim k ix => Sys2Proof.Machine.execClaim k ix s
  | .complete k ix v => Sys2Proof.Machine.execComplete k ix v s
  | .doorbell hall v => Sys2Proof.Machine.execDoorbell hall v s
  | .moderationExpiry n m0 => Sys2Proof.Machine.execModerationExpiry n m0 s
  | .wfiEnter k => Sys2Proof.Machine.execWfiEnter k s
  | .nhallWrite k mode v => Sys2Proof.Machine.execNhallWrite k mode v s
  | .lockstepMismatch p kind pc => Sys2Proof.Machine.execLockstepMismatch p kind pc s
  | .pairReset p => Sys2Proof.Machine.execPairReset p s
  | .debugHalt k => Sys2Proof.Machine.execDebugHalt k s
  | .debugResume k => Sys2Proof.Machine.execDebugResume k s
  | .debugStep k => Sys2Proof.Machine.execDebugStep k s
  | .accessRegister k reg write => Sys2Proof.Machine.execAccessRegister k reg write s
  | .accessMemory k addr size write => Sys2Proof.Machine.execAccessMemory k addr size write s
  | .systemBusAccess addr size write => Sys2Proof.Machine.execSystemBusAccess addr size write s
  | .patrolScrub a err => Sys2Proof.Machine.execPatrolScrub a err s
  | .dmaTailWrite c hall v => Sys2Proof.Machine.execDmaTailWrite c hall v s
  | .dmaDescriptorFetch c => Sys2Proof.Machine.execDmaDescriptorFetch c s
  | .dmaBurst => Sys2Proof.Machine.execDmaBurst s
  | .dmaDescriptorComplete c => Sys2Proof.Machine.execDmaDescriptorComplete c s
  | .dmaResume c hall => Sys2Proof.Machine.execDmaResume c hall s
  | .dmaAbort c hall => Sys2Proof.Machine.execDmaAbort c hall s
  | .dmaInval c hall => Sys2Proof.Machine.execDmaInval c hall s
  | .dmaInvalComplete c => Sys2Proof.Machine.execDmaInvalComplete c s
  | .qpRxFrame p => Sys2Proof.Machine.execQpRxFrame p s
  | .qpTxFrame n => Sys2Proof.Machine.execQpTxFrame n s
  | .hallCreate h => Sys2Proof.Machine.execHallCreate h s
  | .hallDestroy h => Sys2Proof.Machine.execHallDestroy h s
  | .hallReset h => Sys2Proof.Machine.execHallReset h s
  | .hallFreeze h => Sys2Proof.Machine.execHallFreeze h s
  | .hallAtRest h => Sys2Proof.Machine.execHallAtRest h s
  | .hallThaw h => Sys2Proof.Machine.execHallThaw h s
  | .hallSave h => Sys2Proof.Machine.execHallSave h s
  | .hallRestore h => Sys2Proof.Machine.execHallRestore h s
  | .hallMigrate h rsp => Sys2Proof.Machine.execHallMigrate h rsp s
  | .hallGo h => Sys2Proof.Machine.execHallGo h s
  | .hallCancel h => Sys2Proof.Machine.execHallCancel h s
  | .hallFaultCmd h => Sys2Proof.Machine.execHallFaultCmd h s
  | .hallWdtKick h hall v => Sys2Proof.Machine.execHallWdtKick h hall v s
  | .hallWdtExpiry h => Sys2Proof.Machine.execHallWdtExpiry h s
  | .hallDoorbell h hall v => Sys2Proof.Machine.execHallDoorbell h hall v s
  | .migAccept h insts ccores windows => Sys2Proof.Machine.execMigAccept h insts ccores windows s
  | .migPassComplete => Sys2Proof.Machine.execMigPassComplete s
  | .migStateReceived h pages record => Sys2Proof.Machine.execMigStateReceived h pages record s
  | .migReadyReceive st => Sys2Proof.Machine.execMigReadyReceive st s
  | .migCommitReceive h => Sys2Proof.Machine.execMigCommitReceive h s
  | .migCommitTimeout h sent => Sys2Proof.Machine.execMigCommitTimeout h sent s
  | .watermarkWrite ix v reg => Sys2Proof.Machine.execWatermarkWrite ix v reg s
  | .leaseTake ix g reg => Sys2Proof.Machine.execLeaseTake ix g reg s
  | .leaseRelease ix reg => Sys2Proof.Machine.execLeaseRelease ix reg s
  | .keyClear k => Sys2Proof.Machine.execKeyClear k s
  | .cryptoJobStart => Sys2Proof.Machine.execCryptoJobStart s
  | .cryptoGcmEncrypt => Sys2Proof.Machine.execCryptoGcmEncrypt s
  | .cryptoGcmDecrypt => Sys2Proof.Machine.execCryptoGcmDecrypt s
  | .cryptoSha256 => Sys2Proof.Machine.execCryptoSha256 s
  | .cryptoSha384 => Sys2Proof.Machine.execCryptoSha384 s
  | .cryptoHmac => Sys2Proof.Machine.execCryptoHmac s
  | .cryptoP256Verify => Sys2Proof.Machine.execCryptoP256Verify s
  | .cryptoP384Verify => Sys2Proof.Machine.execCryptoP384Verify s
  | .cryptoP256Sign => Sys2Proof.Machine.execCryptoP256Sign s
  | .cryptoP384Sign => Sys2Proof.Machine.execCryptoP384Sign s
  | .cryptoRandom => Sys2Proof.Machine.execCryptoRandom s
  | .cryptoCopy => Sys2Proof.Machine.execCryptoCopy s
  | .cryptoJobComplete => Sys2Proof.Machine.execCryptoJobComplete s
  | .lcAdvance => Sys2Proof.Machine.execLcAdvance s
  | .returnToken b pub => Sys2Proof.Machine.execReturnToken b pub s
  | .debugToken b pub => Sys2Proof.Machine.execDebugToken b pub s
  | .keyRevoke ix => Sys2Proof.Machine.execKeyRevoke ix s
  | .rollbackSet n => Sys2Proof.Machine.execRollbackSet n s
  | .swdtKick v => Sys2Proof.Machine.execSwdtKick v s
  | .swdtHalfPeriod => Sys2Proof.Machine.execSwdtHalfPeriod s
  | .swdtExpired env => Sys2Proof.Machine.execSwdtExpired env s
  | .sourceStable src => Sys2Proof.Machine.execSourceStable src s
  | .pllLock k => Sys2Proof.Machine.execPllLock k s
  | .rcoTrim err => Sys2Proof.Machine.execRcoTrim err s
  | .sscEnd => Sys2Proof.Machine.execSscEnd s
  | .clkTrip src cause => Sys2Proof.Machine.execClkTrip src cause s
  | .domainSwitch k => Sys2Proof.Machine.execDomainSwitch k s
  | .domainSwitchComplete k => Sys2Proof.Machine.execDomainSwitchComplete k s
  | .forcedSwitch k => Sys2Proof.Machine.execForcedSwitch k s
  | .revertTimeout k => Sys2Proof.Machine.execRevertTimeout k s
  | .refLoss => Sys2Proof.Machine.execRefLoss s
  | .refLossEnd => Sys2Proof.Machine.execRefLossEnd s
  | .gateOn g v secure => Sys2Proof.Machine.execGateOn g v secure s
  | .gateOff g v secure => Sys2Proof.Machine.execGateOff g v secure s
  | .gatePark g => Sys2Proof.Machine.execGatePark g s
  | .gateUnpark g => Sys2Proof.Machine.execGateUnpark g s
  | .vauxOn env => Sys2Proof.Machine.execVauxOn env s
  | .vauxPor => Sys2Proof.Machine.execVauxPor s
  | .resetNLow => Sys2Proof.Machine.execResetNLow s
  | .resetNHigh env => Sys2Proof.Machine.execResetNHigh env s
  | .fatalFault detail rail mv env => Sys2Proof.Machine.execFatalFault detail rail mv env s
  | .overtempClear env => Sys2Proof.Machine.execOvertempClear env s
  | .warmReset secure ms => Sys2Proof.Machine.execWarmReset secure ms s
  | .aCoreFatal core ms => Sys2Proof.Machine.execACoreFatal core ms s
  | .unitReset v secure => Sys2Proof.Machine.execUnitReset v secure s
  | .powerFail => Sys2Proof.Machine.execPowerFail s
  | .powerRestored => Sys2Proof.Machine.execPowerRestored s
  | .spWriteFrame len b env => Sys2Proof.Machine.execSpWriteFrame len b env s
  | .spReadFrame whole => Sys2Proof.Machine.execSpReadFrame whole s
  | .spReadStatus => Sys2Proof.Machine.execSpReadStatus s
  | .storageDescriptorFetch h => Sys2Proof.Machine.execStorageDescriptorFetch h s
  | .storageRead h ix n w => Sys2Proof.Machine.execStorageRead h ix n w s
  | .storageWrite h ix n w => Sys2Proof.Machine.execStorageWrite h ix n w s
  | .storageTrim h ix => Sys2Proof.Machine.execStorageTrim h ix s
  | .storageFlush h ix => Sys2Proof.Machine.execStorageFlush h ix s
  | .storageAppend ix n w => Sys2Proof.Machine.execStorageAppend ix n w s
  | .storageLogRead ix n w => Sys2Proof.Machine.execStorageLogRead ix n w s
  | .storageCmdComplete h ix => Sys2Proof.Machine.execStorageCmdComplete h ix s
  | .eventLogCommit => Sys2Proof.Machine.execEventLogCommit s
  | .blockRefresh w => Sys2Proof.Machine.execBlockRefresh w s
  | .retentionScrub refresh w => Sys2Proof.Machine.execRetentionScrub refresh w s
  | .storageMount ms unclean => Sys2Proof.Machine.execStorageMount ms unclean s
  | .partitionErase h => Sys2Proof.Machine.execPartitionErase h s
  | .stagingArm => Sys2Proof.Machine.execStagingArm s
  | .stagingDiscard => Sys2Proof.Machine.execStagingDiscard s
  | .imageConfirm => Sys2Proof.Machine.execImageConfirm s
  | .retryActive => Sys2Proof.Machine.execRetryActive s
  | .twinAliveToggle => Sys2Proof.Machine.execTwinAliveToggle s
  | .twinAliveLost => Sys2Proof.Machine.execTwinAliveLost s
  | .twinFltLow => Sys2Proof.Machine.execTwinFltLow s
  | .liveKick => Sys2Proof.Machine.execLiveKick s
  | .livenessTimeout => Sys2Proof.Machine.execLivenessTimeout s
  | .galleryHelloSend n => Sys2Proof.Machine.execGalleryHelloSend n s
  | .galleryHelloReceive n w => Sys2Proof.Machine.execGalleryHelloReceive n w s
  | .galleryDataReceive n w => Sys2Proof.Machine.execGalleryDataReceive n w s
  | .heartbeatSend => Sys2Proof.Machine.execHeartbeatSend s
  | .heartbeatReceive n epoch role flags state change activeId forceGen => Sys2Proof.Machine.execHeartbeatReceive n epoch role flags state change activeId forceGen s
  | .heartbeatLost => Sys2Proof.Machine.execHeartbeatLost s
  | .promoteWaitTimeout => Sys2Proof.Machine.execPromoteWaitTimeout s
  | .twinCmdAttach => Sys2Proof.Machine.execTwinCmdAttach s
  | .twinCmdDetach => Sys2Proof.Machine.execTwinCmdDetach s
  | .twinCmdHandover => Sys2Proof.Machine.execTwinCmdHandover s
  | .attachReqReceive node compat pos activeId digest => Sys2Proof.Machine.execAttachReqReceive node compat pos activeId digest s
  | .attachRspReceive node status => Sys2Proof.Machine.execAttachRspReceive node status s
  | .attachSnapshot => Sys2Proof.Machine.execAttachSnapshot s
  | .stateMessageReceive q kind epoch off last b => Sys2Proof.Machine.execStateMessageReceive q kind epoch off last b s
  | .inputsReceive q t cycle startNs off last b => Sys2Proof.Machine.execInputsReceive q t cycle startNs off last b s
  | .outputCrcReceive t cycle crc => Sys2Proof.Machine.execOutputCrcReceive t cycle crc s
  | .retainReceive q b => Sys2Proof.Machine.execRetainReceive q b s
  | .streamsReceive q b => Sys2Proof.Machine.execStreamsReceive q b s
  | .forcesReceive q gen b => Sys2Proof.Machine.execForcesReceive q gen b s
  | .detachReceive => Sys2Proof.Machine.execDetachReceive s
  | .handoverReceive step instant => Sys2Proof.Machine.execHandoverReceive step instant s
  | .handoverTimeout => Sys2Proof.Machine.execHandoverTimeout s
  | .beaconSend => Sys2Proof.Machine.execBeaconSend s
  | .beaconReceive node role epoch => Sys2Proof.Machine.execBeaconReceive node role epoch s
  | .partnerQuery => Sys2Proof.Machine.execPartnerQuery s
  | .partnerQueryResult ok v => Sys2Proof.Machine.execPartnerQueryResult ok v s
  | .promote => Sys2Proof.Machine.execPromote s
  | .promoteComplete => Sys2Proof.Machine.execPromoteComplete s
  | .canIntegrationEnd n => Sys2Proof.Machine.execCanIntegrationEnd n s
  | .limitingEnd n => Sys2Proof.Machine.execLimitingEnd n s
  | .migrateAcceptTimeout => Sys2Proof.Machine.execMigrateAcceptTimeout s
  | .inDoubtAnswer h committed => Sys2Proof.Machine.execInDoubtAnswer h committed s
  | .attachRetry => Sys2Proof.Machine.execAttachRetry s
  | .attachWindowTimeout => Sys2Proof.Machine.execAttachWindowTimeout s
  | .standbyChangeReceive word img => Sys2Proof.Machine.execStandbyChangeReceive word img s
  | .handoverAcceptTimeout => Sys2Proof.Machine.execHandoverAcceptTimeout s
  | .galleryDictRequest b => Sys2Proof.Machine.execGalleryDictRequest b s
  | .galleryAckReceive q map => Sys2Proof.Machine.execGalleryAckReceive q map s
  | .galleryAckSend => Sys2Proof.Machine.execGalleryAckSend s
  | .galleryOutcomeTimeout => Sys2Proof.Machine.execGalleryOutcomeTimeout s
  | .twinAliveEdge => Sys2Proof.Machine.execTwinAliveEdge s
  | .twinFltHigh => Sys2Proof.Machine.execTwinFltHigh s
  | .arpRequest v6 target mac vlan ip => Sys2Proof.Machine.execArpRequest v6 target mac vlan ip s
  | .dramIdleSelfRefresh => Sys2Proof.Machine.execDramIdleSelfRefresh s

end Sys2Proof.Machine
end

