-- ==== Sys2Proof/Safety.lean ====
section
/-! DEFINITION. The terms that claims use: a running device, a command that answers a next state, what a command may change, and the
invariants. -/

namespace Sys2Proof

open Sys2Proof.Machine

/-- The device runs: it has supply and is neither in chip reset nor in STANDBY or SLEEP. -/
abbrev Live (s : State) : Prop := s.dev.power.phase = .running

/-- The parts of the device, beside what the last command put out. -/
inductive Part where
  | dict | blobs | regs | mem | epochs | free | logs | limits | ctrLatch | ctrStage | drains | supply | time | d0 | sw | can | sleep | power | br | load | adc | scan | dma | tenants | mezz | clk | sto | upd | held | harts | twin | board
  deriving DecidableEq, Repr

/-- A family of dictionary entries, or of register words: every instance of one entry or word, by the key of its first instance and the steps
from one instance to the next (in up to three numbers). -/
structure Fam where
  base : Nat
  s1 : Nat
  s2 : Nat
  s3 : Nat
  deriving DecidableEq, Repr

/-- The key belongs to the family. -/
def Fam.has (f : Fam) (k : Nat) : Prop := ∃ a b c, k = f.base + a * f.s1 + b * f.s2 + c * f.s3

/-- The entry alone. -/
def ent0 (e : Entry) : Fam := ⟨e.key, 0, 0, 0⟩

/-- The entry of every instance. -/
def ent1 (e : Nat → Entry) : Fam := ⟨(e 0).key, (e 1).key - (e 0).key, 0, 0⟩

/-- The entry of every pair of instance numbers. -/
def ent2 (e : Nat → Nat → Entry) : Fam := ⟨(e 0 0).key, (e 1 0).key - (e 0 0).key, (e 0 1).key - (e 0 0).key, 0⟩

/-- The register word that holds the field. -/
def word0 (f : Field) : Fam := ⟨f.addr, 0, 0, 0⟩

/-- The word that holds the field, of every instance. -/
def word1 (f : Nat → Field) : Fam := ⟨(f 0).addr, (f 1).addr - (f 0).addr, 0, 0⟩

/-- The word that holds the field, of every pair of instance numbers. -/
def word2 (f : Nat → Nat → Field) : Fam := ⟨(f 0 0).addr, (f 1 0).addr - (f 0 0).addr, (f 0 1).addr - (f 0 0).addr, 0⟩

/-- The word that holds the field, of every three instance numbers. -/
def word3 (f : Nat → Nat → Nat → Field) : Fam :=
  ⟨(f 0 0 0).addr, (f 1 0 0).addr - (f 0 0 0).addr, (f 0 1 0).addr - (f 0 0 0).addr, (f 0 0 1).addr - (f 0 0 0).addr⟩

/-- What may change: whole parts of the device, dictionary entries of these families, register words of these families. -/
structure Foot where
  parts : List Part
  ents : List Fam := []
  words : List Fam := []
  deriving DecidableEq, Repr

/-- Two devices agree in a part that is not listed whole: of the dictionary and the registers, whatever lies outside the listed families is equal; of any
other part, all of it. -/
def Part.agree (F : Foot) (a b : Dev) : Part → Prop
  | .dict => ∀ k, (∀ f ∈ F.ents, ¬ f.has k) → KV.find k b.dict = KV.find k a.dict
  | .blobs => ∀ k, (∀ f ∈ F.ents, ¬ f.has k) → KV.find k b.blobs = KV.find k a.blobs
  | .regs => ∀ k, (∀ f ∈ F.words, ¬ f.has k) → KV.find k b.regs = KV.find k a.regs
  | .mem => b.mem = a.mem
  | .epochs => b.epochs = a.epochs
  | .free => b.free = a.free
  | .logs => b.logs = a.logs
  | .limits => b.limits = a.limits
  | .ctrLatch => b.ctrLatch = a.ctrLatch
  | .ctrStage => b.ctrStage = a.ctrStage
  | .drains => b.drains = a.drains
  | .supply => b.supply = a.supply
  | .time => b.time = a.time
  | .d0 => b.d0 = a.d0
  | .sw => b.sw = a.sw
  | .can => b.can = a.can
  | .sleep => b.sleep = a.sleep
  | .power => b.power = a.power
  | .br => b.br = a.br
  | .load => b.load = a.load
  | .adc => b.adc = a.adc
  | .scan => b.scan = a.scan
  | .dma => b.dma = a.dma
  | .tenants => b.tenants = a.tenants
  | .mezz => b.mezz = a.mezz
  | .clk => b.clk = a.clk
  | .sto => b.sto = a.sto
  | .upd => b.upd = a.upd
  | .held => b.held = a.held
  | .harts => b.harts = a.harts
  | .twin => b.twin = a.twin
  | .board => b.board = a.board

/-- The keyed stores are in canonical form: addresses and keys strictly rising, and no memory byte listed that reads as an unlisted one. -/
structure Canonical (d : Dev) : Prop where
  mem : Memory.wf d.mem
  dict : KV.sorted d.dict = true
  blobs : KV.sorted d.blobs = true
  regs : KV.sorted d.regs = true

/-- From `a` to `b` nothing changes but what the footprint lists (and what the command puts out), and canonical stores stay canonical. -/
structure Only (F : Foot) (a b : Dev) : Prop where
  keep : ∀ p, p ∉ F.parts → p.agree F a b
  canon : Canonical a → Canonical b

/-- The entries that writing an event to the logs changes: the number of the last record and the two counts of lost records. -/
def logEnts : List Fam := [ent0 Ent.Evlog.LAST_SEQ, ent0 Ent.Evlog.LOG_LOST, ent1 Ent.Hall.RING_LOST]

/-- What `concourseTransaction` may change. -/
def Foot.concourseTransaction : Foot := ⟨[.dict, .blobs, .regs, .mem, .epochs, .free, .logs, .limits, .drains, .time, .d0, .sw, .can, .sleep, .power,
  .br, .load, .adc, .scan, .dma, .tenants, .mezz, .clk, .held, .harts, .twin], [], []⟩

/-- What `atomicTransaction` may change. -/
def Foot.atomicTransaction : Foot := ⟨[.dict, .blobs, .regs, .mem, .epochs, .free, .logs, .limits, .drains, .time, .d0, .sw, .can, .sleep, .power,
  .br, .load, .adc, .scan, .dma, .tenants, .mezz, .clk, .held, .harts, .twin], [], []⟩

/-- What `safeStateLine` may change. -/
def Foot.safeStateLine : Foot := ⟨[.mem, .logs, .load, .dma, .tenants, .clk], logEnts ++ [ent0 Ent.Clk.SSC_ACTIVE, ent1 Ent.Lc.FLAGS, ent1
  Ent.Lc.STATE], [word1 Rg.Hpg.RING_HEAD, word1 Rg.Plat.SYS_IRQ]⟩

/-- What `paceSample` may change. -/
def Foot.paceSample : Foot := ⟨[.mem, .free, .logs, .supply, .dma, .tenants], logEnts ++ [ent0 Ent.Pace.COUNTER_SAT, ent0 Ent.Pace.PACE_CODE, ent0
  Ent.Pace.PACE_SHORT_COUNT, ent0 Ent.Pace.PACE_TARGET], [word1 Rg.Hpg.RING_HEAD, word1 Rg.Plat.SYS_IRQ]⟩

/-- What `trimStep` may change. -/
def Foot.trimStep : Foot := ⟨[.supply], [ent0 Ent.Pace.RAIL_MV], []⟩

/-- What `paceFault` may change. -/
def Foot.paceFault : Foot := ⟨[.mem, .free, .logs, .supply, .load, .dma, .tenants, .clk, .twin], logEnts ++ [ent0 Ent.Clk.SSC_ACTIVE, ent0
  Ent.Tws.ROLE, ent1 Ent.Hall.COUNTER_SAT, ent1 Ent.Lc.FLAGS, ent1 Ent.Lc.STATE], [word1 Rg.Hpg.RING_EN, word1 Rg.Hpg.RING_HEAD, word1
  Rg.Plat.SYS_IRQ]⟩

/-- What `paceFaultEnd` may change. -/
def Foot.paceFaultEnd : Foot := ⟨[.mem, .logs, .supply, .load, .dma, .tenants, .clk, .twin], logEnts ++ [ent0 Ent.Clk.SSC_ACTIVE, ent0 Ent.Tws.ROLE,
  ent1 Ent.Hall.COUNTER_SAT, ent1 Ent.Lc.FLAGS, ent1 Ent.Lc.STATE], [word1 Rg.Hpg.RING_EN, word1 Rg.Hpg.RING_HEAD, word1 Rg.Plat.SYS_IRQ]⟩

/-- What `counterLowRead` may change. -/
def Foot.counterLowRead : Foot := ⟨[.ctrLatch], [], []⟩

/-- What `counterLowWrite` may change. -/
def Foot.counterLowWrite : Foot := ⟨[.ctrStage], [], []⟩

/-- What `counterHighWrite` may change. -/
def Foot.counterHighWrite : Foot := ⟨[.dict, .blobs, .ctrStage], [], []⟩

/-- What `unitEnable` may change. -/
def Foot.unitEnable : Foot := ⟨[.mem, .free, .logs, .limits, .sw, .can, .sleep, .br, .dma, .tenants, .clk, .harts, .twin], logEnts ++ [ent0
  Ent.Clk.SSC_ACTIVE, ent0 Ent.Lease.COUNTER_SAT, ent0 Ent.Lease.LEASE_REFUSALS, ent0 Ent.Stw.COUNTER_SAT, ent0 Ent.Stw.STW_ECC_DROPS, ent1
  Ent.Adc.ENABLE, ent1 Ent.Adc.STATE, ent1 Ent.Bctx.COUNTER_SAT, ent1 Ent.Bctx.ENABLE, ent1 Ent.Bctx.FAILURES, ent1 Ent.Bctx.POSTED, ent1
  Ent.Bctx.READS, ent1 Ent.Bctx.RETRANSMITS, ent1 Ent.Bctx.SESSION, ent1 Ent.Bctx.STATE, ent1 Ent.Bctx.TIMEOUTS, ent1 Ent.CanSt.COUNTER_SAT, ent1
  Ent.CanSt.ENABLE, ent1 Ent.CanSt.STATE, ent1 Ent.CanSt.TX_DISCARDED, ent1 Ent.Dma.ENABLE, ent1 Ent.Dma.STATE, ent1 Ent.Hall.COUNTER_SAT, ent1
  Ent.Hall.FROZEN_DROPS, ent1 Ent.Heng.COUNTER_SAT, ent1 Ent.Heng.ENABLE, ent1 Ent.Heng.NO_QP, ent1 Ent.Heng.STATE, ent1 Ent.Port.EGRESS_FILTERED,
  ent1 Ent.Port.ENABLE, ent1 Ent.Port.PORT_SAT, ent1 Ent.Port.STATE, ent1 Ent.Pq.CT_ABORTED, ent1 Ent.Pq.NO_DESC, ent1 Ent.Pq.OVERSIZE, ent1
  Ent.Pq.PORT_SAT, ent1 Ent.Pq.Q_SAT, ent1 Ent.Qp.ENABLE, ent1 Ent.Qp.STATE, ent2 Ent.Pq.DROP_DISABLED, ent2 Ent.Pq.DROP_DOWN, ent2 Ent.Pq.DROP_FULL,
  ent2 Ent.Pq.DROP_RESIDENCE, ent2 Ent.Pq.DROP_STW, ent2 Ent.Pq.Q_ENABLE, ent2 Ent.Pq.Q_STATE], [word0 Rg.Slpr.FW_PENDING, word1 Rg.Ch.TEC, word1
  Rg.Dmar.ACTIVE, word1 Rg.Hpg.RING_EN, word1 Rg.Hpg.RING_HEAD, word1 Rg.M0Src.PENDING, word1 Rg.Plat.SYS_IRQ, word2 Rg.Ctx.BST_ADDR_HI, word2
  Rg.Ctx.BST_ADDR_LO, word2 Rg.Ctx.FAILED, word2 Rg.Ctx.FAR_CODE, word2 Rg.Ctx.IRQ, word2 Rg.Ctx.SESSION, word2 Rg.Ep.MERGED, word2 fun u k => rmb u k
  Rg.Mb.CODE, word2 fun u k => rmb u k Rg.Mb.GO, word2 fun u k => rmb u k Rg.Mb.MB_LEN, word2 fun u k => rmb u k Rg.Mb.MB_TOTAL, word3 fun u k i =>
  rmb u k fun n => Rg.Mb.MB_DATA n i]⟩

/-- What `unitDisable` may change. -/
def Foot.unitDisable : Foot := ⟨[.mem, .free, .logs, .limits, .drains, .d0, .sw, .can, .sleep, .power, .br, .adc, .scan, .dma, .tenants, .harts,
  .twin], logEnts ++ [ent0 Ent.Lease.COUNTER_SAT, ent0 Ent.Lease.LEASE_REFUSALS, ent0 Ent.Stw.COUNTER_SAT, ent0 Ent.Stw.STW_ECC_DROPS, ent0
  Ent.Tws.PATHS, ent0 Ent.Tws.ROLE, ent1 Ent.Adc.ENABLE, ent1 Ent.Adc.STATE, ent1 Ent.Bctx.COUNTER_SAT, ent1 Ent.Bctx.ENABLE, ent1 Ent.Bctx.FAILURES,
  ent1 Ent.Bctx.POSTED, ent1 Ent.Bctx.READS, ent1 Ent.Bctx.RETRANSMITS, ent1 Ent.Bctx.SESSION, ent1 Ent.Bctx.STATE, ent1 Ent.Bctx.TIMEOUTS, ent1
  Ent.CanCo.SDO_LAST_STATUS, ent1 Ent.CanSt.COUNTER_SAT, ent1 Ent.CanSt.ENABLE, ent1 Ent.CanSt.STATE, ent1 Ent.CanSt.TX_DISCARDED, ent1 Ent.Dma.BYTES,
  ent1 Ent.Dma.COUNTER_SAT, ent1 Ent.Dma.DESCRIPTORS, ent1 Ent.Dma.ENABLE, ent1 Ent.Dma.ERRORS, ent1 Ent.Dma.STALE, ent1 Ent.Dma.STATE, ent1
  Ent.Hall.CMD_STATUS, ent1 Ent.Hall.COUNTER_SAT, ent1 Ent.Hall.FROZEN_DROPS, ent1 Ent.Hall.STATE, ent1 Ent.Heng.COUNTER_SAT, ent1 Ent.Heng.ENABLE,
  ent1 Ent.Heng.NO_QP, ent1 Ent.Heng.STATE, ent1 Ent.Lc.FLAGS, ent1 Ent.Port.EGRESS_FILTERED, ent1 Ent.Port.ENABLE, ent1 Ent.Port.LINK_DOWNS, ent1
  Ent.Port.PORT_SAT, ent1 Ent.Port.STATE, ent1 Ent.Port.TX_BYTES, ent1 Ent.Port.TX_FRAMES, ent1 Ent.Pq.COPIES_DROPPED, ent1 Ent.Pq.CT_ABORTED, ent1
  Ent.Pq.NO_DESC, ent1 Ent.Pq.OVERSIZE, ent1 Ent.Pq.PORT_SAT, ent1 Ent.Pq.Q_SAT, ent1 Ent.Qp.COUNTER_SAT, ent1 Ent.Qp.ENABLE, ent1 Ent.Qp.ERR_LOST,
  ent1 Ent.Qp.STATE, ent1 Ent.Qp.TX_ERRORS, ent1 Ent.Qp.TX_FRAMES, ent1 Ent.Stn.COUNTER_SAT, ent1 Ent.Stn.LOSSES, ent1 Ent.Stn.STATE, ent2
  Ent.Pq.DROP_DISABLED, ent2 Ent.Pq.DROP_DOWN, ent2 Ent.Pq.DROP_FULL, ent2 Ent.Pq.DROP_RESIDENCE, ent2 Ent.Pq.DROP_STW, ent2 Ent.Pq.Q_ENABLE, ent2
  Ent.Pq.Q_STATE], [word0 Rg.Smb.DONE, word0 Rg.Smb.MB_LEN, word0 Rg.Smb.MB_TOTAL, word1 Rg.Adcr.BUSY, word1 Rg.Ch.IRQ, word1 Rg.Dmar.ACTIVE, word1
  Rg.Dmar.HEAD, word1 Rg.Dmar.IRQ, word1 Rg.Hpg.RING_EN, word1 Rg.Hpg.RING_HEAD, word1 Rg.M0Src.PENDING, word1 Rg.Mb.DONE, word1 Rg.Mb.MB_LEN, word1
  Rg.Mb.MB_TOTAL, word1 Rg.Plat.SYS_IRQ, word1 Rg.Qpr.ERR_HEAD, word1 Rg.Qpr.IRQ, word1 Rg.Qpr.TX_HEAD, word1 Rg.Smb.MB_DATA, word2
  Rg.Ctx.BST_ADDR_HI, word2 Rg.Ctx.BST_ADDR_LO, word2 Rg.Ctx.FAILED, word2 Rg.Ctx.FAR_CODE, word2 Rg.Ctx.IRQ, word2 Rg.Ctx.PW_DONE, word2
  Rg.Ctx.SESSION, word2 Rg.Ep.MERGED, word2 Rg.Mb.MB_DATA, word2 Rg.Txb.CODE, word2 fun u k => rmb u k Rg.Mb.CODE, word2 fun u k => rmb u k Rg.Mb.GO,
  word2 fun u k => rmb u k Rg.Mb.MB_LEN, word2 fun u k => rmb u k Rg.Mb.MB_TOTAL, word3 fun u k i => rmb u k fun n => Rg.Mb.MB_DATA n i]⟩

/-- What `drainDone` may change. -/
def Foot.drainDone : Foot := ⟨[.mem, .free, .logs, .limits, .drains, .d0, .sw, .can, .sleep, .power, .br, .scan, .dma, .tenants, .harts, .twin],
  logEnts ++ [ent0 Ent.Stw.COUNTER_SAT, ent0 Ent.Stw.STW_ECC_DROPS, ent0 Ent.Tws.PATHS, ent0 Ent.Tws.ROLE, ent1 Ent.Adc.STATE, ent1
  Ent.Bctx.COUNTER_SAT, ent1 Ent.Bctx.FAILURES, ent1 Ent.Bctx.POSTED, ent1 Ent.Bctx.READS, ent1 Ent.Bctx.RETRANSMITS, ent1 Ent.Bctx.SESSION, ent1
  Ent.Bctx.STATE, ent1 Ent.Bctx.TIMEOUTS, ent1 Ent.CanCo.SDO_LAST_STATUS, ent1 Ent.CanSt.COUNTER_SAT, ent1 Ent.CanSt.STATE, ent1
  Ent.CanSt.TX_DISCARDED, ent1 Ent.Dma.BYTES, ent1 Ent.Dma.COUNTER_SAT, ent1 Ent.Dma.DESCRIPTORS, ent1 Ent.Dma.ERRORS, ent1 Ent.Dma.STALE, ent1
  Ent.Dma.STATE, ent1 Ent.Hall.CMD_STATUS, ent1 Ent.Hall.COUNTER_SAT, ent1 Ent.Hall.FROZEN_DROPS, ent1 Ent.Hall.STATE, ent1 Ent.Heng.COUNTER_SAT, ent1
  Ent.Heng.NO_QP, ent1 Ent.Heng.STATE, ent1 Ent.Lc.FLAGS, ent1 Ent.Port.EGRESS_FILTERED, ent1 Ent.Port.LINK_DOWNS, ent1 Ent.Port.PORT_SAT, ent1
  Ent.Port.STATE, ent1 Ent.Port.TX_BYTES, ent1 Ent.Port.TX_FRAMES, ent1 Ent.Pq.COPIES_DROPPED, ent1 Ent.Pq.CT_ABORTED, ent1 Ent.Pq.NO_DESC, ent1
  Ent.Pq.OVERSIZE, ent1 Ent.Pq.PORT_SAT, ent1 Ent.Pq.Q_SAT, ent1 Ent.Qp.STATE, ent1 Ent.Stn.COUNTER_SAT, ent1 Ent.Stn.LOSSES, ent1 Ent.Stn.STATE, ent2
  Ent.Pq.DROP_DISABLED, ent2 Ent.Pq.DROP_DOWN, ent2 Ent.Pq.DROP_FULL, ent2 Ent.Pq.DROP_RESIDENCE, ent2 Ent.Pq.DROP_STW, ent2 Ent.Pq.Q_STATE], [word0
  Rg.Smb.DONE, word0 Rg.Smb.MB_LEN, word0 Rg.Smb.MB_TOTAL, word1 Rg.Dmar.ACTIVE, word1 Rg.Dmar.HEAD, word1 Rg.Dmar.IRQ, word1 Rg.Hpg.RING_EN, word1
  Rg.Hpg.RING_HEAD, word1 Rg.Mb.DONE, word1 Rg.Mb.MB_LEN, word1 Rg.Mb.MB_TOTAL, word1 Rg.Plat.SYS_IRQ, word1 Rg.Smb.MB_DATA, word2 Rg.Ctx.BST_ADDR_HI,
  word2 Rg.Ctx.BST_ADDR_LO, word2 Rg.Ctx.FAILED, word2 Rg.Ctx.FAR_CODE, word2 Rg.Ctx.IRQ, word2 Rg.Ctx.PW_DONE, word2 Rg.Ctx.SESSION, word2
  Rg.Ep.MERGED, word2 Rg.Mb.MB_DATA, word2 fun u k => rmb u k Rg.Mb.CODE, word2 fun u k => rmb u k Rg.Mb.GO, word2 fun u k => rmb u k Rg.Mb.MB_LEN,
  word2 fun u k => rmb u k Rg.Mb.MB_TOTAL, word3 fun u k i => rmb u k fun n => Rg.Mb.MB_DATA n i]⟩

/-- What `drainTimeout` may change. -/
def Foot.drainTimeout : Foot := ⟨[.mem, .free, .logs, .limits, .drains, .d0, .sw, .can, .sleep, .power, .br, .adc, .scan, .dma, .tenants, .harts,
  .twin], logEnts ++ [ent0 Ent.Stw.COUNTER_SAT, ent0 Ent.Stw.STW_ECC_DROPS, ent0 Ent.Tws.PATHS, ent0 Ent.Tws.ROLE, ent1 Ent.Adc.STATE, ent1
  Ent.Bctx.COUNTER_SAT, ent1 Ent.Bctx.FAILURES, ent1 Ent.Bctx.POSTED, ent1 Ent.Bctx.READS, ent1 Ent.Bctx.RETRANSMITS, ent1 Ent.Bctx.SESSION, ent1
  Ent.Bctx.STATE, ent1 Ent.Bctx.TIMEOUTS, ent1 Ent.CanCo.SDO_LAST_STATUS, ent1 Ent.CanSt.COUNTER_SAT, ent1 Ent.CanSt.STATE, ent1
  Ent.CanSt.TX_DISCARDED, ent1 Ent.Dma.BYTES, ent1 Ent.Dma.COUNTER_SAT, ent1 Ent.Dma.DESCRIPTORS, ent1 Ent.Dma.ERRORS, ent1 Ent.Dma.STALE, ent1
  Ent.Dma.STATE, ent1 Ent.Hall.CMD_STATUS, ent1 Ent.Hall.COUNTER_SAT, ent1 Ent.Hall.FROZEN_DROPS, ent1 Ent.Hall.STATE, ent1 Ent.Heng.COUNTER_SAT, ent1
  Ent.Heng.NO_QP, ent1 Ent.Heng.STATE, ent1 Ent.Lc.FLAGS, ent1 Ent.Port.EGRESS_FILTERED, ent1 Ent.Port.LINK_DOWNS, ent1 Ent.Port.PORT_SAT, ent1
  Ent.Port.STATE, ent1 Ent.Port.TX_BYTES, ent1 Ent.Port.TX_FRAMES, ent1 Ent.Pq.COPIES_DROPPED, ent1 Ent.Pq.CT_ABORTED, ent1 Ent.Pq.NO_DESC, ent1
  Ent.Pq.OVERSIZE, ent1 Ent.Pq.PORT_SAT, ent1 Ent.Pq.Q_SAT, ent1 Ent.Qp.STATE, ent1 Ent.Stn.COUNTER_SAT, ent1 Ent.Stn.LOSSES, ent1 Ent.Stn.STATE, ent2
  Ent.Pq.DROP_DISABLED, ent2 Ent.Pq.DROP_DOWN, ent2 Ent.Pq.DROP_FULL, ent2 Ent.Pq.DROP_RESIDENCE, ent2 Ent.Pq.DROP_STW, ent2 Ent.Pq.Q_STATE], [word0
  Rg.Smb.DONE, word0 Rg.Smb.MB_LEN, word0 Rg.Smb.MB_TOTAL, word1 Rg.Adcr.BUSY, word1 Rg.Ch.IRQ, word1 Rg.Dmar.ACTIVE, word1 Rg.Dmar.HEAD, word1
  Rg.Dmar.IRQ, word1 Rg.Hpg.RING_EN, word1 Rg.Hpg.RING_HEAD, word1 Rg.Mb.DONE, word1 Rg.Mb.MB_LEN, word1 Rg.Mb.MB_TOTAL, word1 Rg.Plat.SYS_IRQ, word1
  Rg.Smb.MB_DATA, word2 Rg.Ctx.BST_ADDR_HI, word2 Rg.Ctx.BST_ADDR_LO, word2 Rg.Ctx.FAILED, word2 Rg.Ctx.FAR_CODE, word2 Rg.Ctx.IRQ, word2
  Rg.Ctx.PW_DONE, word2 Rg.Ctx.SESSION, word2 Rg.Ep.MERGED, word2 Rg.Mb.MB_DATA, word2 Rg.Txb.CODE, word2 fun u k => rmb u k Rg.Mb.CODE, word2 fun u k
  => rmb u k Rg.Mb.GO, word2 fun u k => rmb u k Rg.Mb.MB_LEN, word2 fun u k => rmb u k Rg.Mb.MB_TOTAL, word3 fun u k i => rmb u k fun n =>
  Rg.Mb.MB_DATA n i]⟩

/-- What `fence` may change. -/
def Foot.fence : Foot := ⟨[.mem, .logs, .limits, .br, .dma, .tenants], logEnts, [word1 Rg.Hpg.RING_HEAD, word2 Rg.Ctx.DONE, word2 Rg.Ctx.FENCE]⟩

/-- What `fenceComplete` may change. -/
def Foot.fenceComplete : Foot := ⟨[.br], [], [word2 Rg.Ctx.DONE, word2 Rg.Ctx.IRQ]⟩

/-- What `dictReadExec` may change. -/
def Foot.dictReadExec : Foot := ⟨[.dict, .blobs, .regs, .mem, .epochs, .free, .logs, .limits, .drains, .time, .d0, .sw, .can, .sleep, .power, .br,
  .load, .adc, .scan, .dma, .tenants, .mezz, .clk, .held, .harts, .twin], [], []⟩

/-- What `dictWriteExec` may change. -/
def Foot.dictWriteExec : Foot := ⟨[.dict, .blobs, .regs, .mem, .epochs, .free, .logs, .limits, .ctrLatch, .ctrStage, .drains, .supply, .time, .d0,
  .sw, .can, .sleep, .power, .br, .load, .adc, .scan, .dma, .tenants, .mezz, .clk, .sto, .upd, .held, .harts, .twin], [], []⟩

/-- What `dictWriteGeneric` may change. -/
def Foot.dictWriteGeneric : Foot := ⟨[.dict, .blobs, .regs, .mem, .epochs, .free, .logs, .limits, .ctrLatch, .ctrStage, .drains, .supply, .time, .d0,
  .sw, .can, .sleep, .power, .br, .load, .adc, .scan, .dma, .tenants, .mezz, .clk, .sto, .upd, .held, .harts, .twin], [], []⟩

/-- What `apply` may change. -/
def Foot.apply : Foot := ⟨[.dict, .blobs, .regs, .mem, .epochs, .free, .logs, .limits, .ctrLatch, .ctrStage, .drains, .supply, .time, .d0, .sw, .can,
  .sleep, .power, .br, .load, .adc, .scan, .dma, .tenants, .mezz, .clk, .sto, .upd, .held, .harts, .twin], [], []⟩

/-- What `applyDiscard` may change. -/
def Foot.applyDiscard : Foot := ⟨[.dict, .blobs, .regs, .mem, .epochs, .free, .logs, .limits, .ctrLatch, .ctrStage, .drains, .supply, .time, .d0, .sw,
  .can, .sleep, .power, .br, .load, .adc, .scan, .dma, .tenants, .mezz, .clk, .sto, .upd, .held, .harts, .twin], [], []⟩

/-- What `applyTakeEffect` may change. -/
def Foot.applyTakeEffect : Foot := ⟨[.dict, .blobs, .regs, .mem, .epochs, .free, .logs, .limits, .drains, .time, .d0, .sw, .can, .sleep, .power, .br,
  .load, .adc, .scan, .dma, .tenants, .mezz, .clk, .sto, .upd, .held, .harts, .twin], [], []⟩

/-- What `shadowTimeout` may change. -/
def Foot.shadowTimeout : Foot := ⟨[.d0], [], []⟩

/-- What `domainTransferTimeout` may change. -/
def Foot.domainTransferTimeout : Foot := ⟨[.d0], [ent0 Ent.Stg.STAGING, ent0 Ent.Upd.STAGED_VERSION, ent0 Ent.Upd.STAGING_STATE], []⟩

/-- What `ndpOpen` may change. -/
def Foot.ndpOpen : Foot := ⟨[.mem, .free, .logs, .limits, .d0, .sw, .dma, .tenants], logEnts ++ [ent0 Ent.Ndp.COUNTER_SAT, ent0 Ent.Ndp.RX_DROPPED,
  ent0 Ent.Ndp.RX_REQUESTS, ent0 Ent.Stw.COUNTER_SAT, ent0 Ent.Stw.STW_ECC_DROPS, ent1 Ent.Hall.COUNTER_SAT, ent1 Ent.Hall.FROZEN_DROPS, ent1
  Ent.Heng.COUNTER_SAT, ent1 Ent.Heng.NO_QP, ent1 Ent.Port.EGRESS_FILTERED, ent1 Ent.Port.PORT_SAT, ent1 Ent.Pq.CT_ABORTED, ent1 Ent.Pq.NO_DESC, ent1
  Ent.Pq.OVERSIZE, ent1 Ent.Pq.PORT_SAT, ent1 Ent.Pq.Q_SAT, ent2 Ent.Pq.DROP_DISABLED, ent2 Ent.Pq.DROP_DOWN, ent2 Ent.Pq.DROP_FULL, ent2
  Ent.Pq.DROP_RESIDENCE, ent2 Ent.Pq.DROP_STW], [word1 Rg.Hpg.RING_HEAD]⟩

/-- What `ndpClose` may change. -/
def Foot.ndpClose : Foot := ⟨[.mem, .logs, .d0, .sw, .dma, .tenants], logEnts ++ [ent0 Ent.Ndp.COUNTER_SAT, ent0 Ent.Ndp.RX_DROPPED, ent0
  Ent.Ndp.RX_REQUESTS, ent0 Ent.Stw.COUNTER_SAT, ent0 Ent.Stw.STW_ECC_DROPS, ent1 Ent.Hall.COUNTER_SAT, ent1 Ent.Hall.FROZEN_DROPS, ent1
  Ent.Heng.COUNTER_SAT, ent1 Ent.Heng.NO_QP, ent1 Ent.Port.EGRESS_FILTERED, ent1 Ent.Port.PORT_SAT, ent1 Ent.Pq.CT_ABORTED, ent1 Ent.Pq.NO_DESC, ent1
  Ent.Pq.OVERSIZE, ent1 Ent.Pq.PORT_SAT, ent1 Ent.Pq.Q_SAT, ent2 Ent.Pq.DROP_DISABLED, ent2 Ent.Pq.DROP_DOWN, ent2 Ent.Pq.DROP_FULL, ent2
  Ent.Pq.DROP_RESIDENCE, ent2 Ent.Pq.DROP_STW], [word1 Rg.Hpg.RING_HEAD]⟩

/-- What `ndpRead` may change. -/
def Foot.ndpRead : Foot := ⟨[.mem, .logs, .d0, .sw, .dma, .tenants], logEnts ++ [ent0 Ent.Ndp.COUNTER_SAT, ent0 Ent.Ndp.RX_DROPPED, ent0
  Ent.Ndp.RX_REQUESTS, ent0 Ent.Stw.COUNTER_SAT, ent0 Ent.Stw.STW_ECC_DROPS, ent1 Ent.Hall.COUNTER_SAT, ent1 Ent.Hall.FROZEN_DROPS, ent1
  Ent.Heng.COUNTER_SAT, ent1 Ent.Heng.NO_QP, ent1 Ent.Port.EGRESS_FILTERED, ent1 Ent.Port.PORT_SAT, ent1 Ent.Pq.CT_ABORTED, ent1 Ent.Pq.NO_DESC, ent1
  Ent.Pq.OVERSIZE, ent1 Ent.Pq.PORT_SAT, ent1 Ent.Pq.Q_SAT, ent2 Ent.Pq.DROP_DISABLED, ent2 Ent.Pq.DROP_DOWN, ent2 Ent.Pq.DROP_FULL, ent2
  Ent.Pq.DROP_RESIDENCE, ent2 Ent.Pq.DROP_STW], [word1 Rg.Hpg.RING_HEAD]⟩

/-- What `ndpWrite` may change. -/
def Foot.ndpWrite : Foot := ⟨[.mem, .logs, .d0, .sw, .dma, .tenants], logEnts ++ [ent0 Ent.Ndp.COUNTER_SAT, ent0 Ent.Ndp.RX_DROPPED, ent0
  Ent.Ndp.RX_REQUESTS, ent0 Ent.Stw.COUNTER_SAT, ent0 Ent.Stw.STW_ECC_DROPS, ent1 Ent.Hall.COUNTER_SAT, ent1 Ent.Hall.FROZEN_DROPS, ent1
  Ent.Heng.COUNTER_SAT, ent1 Ent.Heng.NO_QP, ent1 Ent.Port.EGRESS_FILTERED, ent1 Ent.Port.PORT_SAT, ent1 Ent.Pq.CT_ABORTED, ent1 Ent.Pq.NO_DESC, ent1
  Ent.Pq.OVERSIZE, ent1 Ent.Pq.PORT_SAT, ent1 Ent.Pq.Q_SAT, ent2 Ent.Pq.DROP_DISABLED, ent2 Ent.Pq.DROP_DOWN, ent2 Ent.Pq.DROP_FULL, ent2
  Ent.Pq.DROP_RESIDENCE, ent2 Ent.Pq.DROP_STW], [word1 Rg.Hpg.RING_HEAD]⟩

/-- What `ndpNop` may change. -/
def Foot.ndpNop : Foot := ⟨[.mem, .logs, .d0, .sw, .dma, .tenants], logEnts ++ [ent0 Ent.Ndp.COUNTER_SAT, ent0 Ent.Ndp.RX_DROPPED, ent0
  Ent.Ndp.RX_REQUESTS, ent0 Ent.Stw.COUNTER_SAT, ent0 Ent.Stw.STW_ECC_DROPS, ent1 Ent.Hall.COUNTER_SAT, ent1 Ent.Hall.FROZEN_DROPS, ent1
  Ent.Heng.COUNTER_SAT, ent1 Ent.Heng.NO_QP, ent1 Ent.Port.EGRESS_FILTERED, ent1 Ent.Port.PORT_SAT, ent1 Ent.Pq.CT_ABORTED, ent1 Ent.Pq.NO_DESC, ent1
  Ent.Pq.OVERSIZE, ent1 Ent.Pq.PORT_SAT, ent1 Ent.Pq.Q_SAT, ent2 Ent.Pq.DROP_DISABLED, ent2 Ent.Pq.DROP_DOWN, ent2 Ent.Pq.DROP_FULL, ent2
  Ent.Pq.DROP_RESIDENCE, ent2 Ent.Pq.DROP_STW], [word1 Rg.Hpg.RING_HEAD]⟩

/-- What `sessionIdleTimeout` may change. -/
def Foot.sessionIdleTimeout : Foot := ⟨[.d0], [], []⟩

/-- What `mbGo` may change. -/
def Foot.mbGo : Foot := ⟨[.d0], [], [word0 Rg.Smb.DONE, word0 Rg.Smb.GO, word0 Rg.Smb.MB_LEN, word0 Rg.Smb.MB_TOTAL, word1 Rg.Mb.DONE, word1 Rg.Mb.GO,
  word1 Rg.Mb.MB_LEN, word1 Rg.Mb.MB_TOTAL, word1 Rg.Smb.MB_DATA, word2 Rg.Mb.MB_DATA]⟩

/-- What `storeParameters` may change. -/
def Foot.storeParameters : Foot := ⟨[.dict, .blobs, .regs, .mem, .epochs, .free, .logs, .limits, .ctrLatch, .ctrStage, .drains, .supply, .time, .d0,
  .sw, .can, .sleep, .power, .br, .load, .adc, .scan, .dma, .tenants, .mezz, .clk, .sto, .upd, .held, .harts, .twin], [], []⟩

/-- What `restoreDefaults` may change. -/
def Foot.restoreDefaults : Foot := ⟨[.dict, .blobs, .regs, .mem, .epochs, .free, .logs, .limits, .ctrLatch, .ctrStage, .drains, .supply, .time, .d0,
  .sw, .can, .sleep, .power, .br, .load, .adc, .scan, .dma, .tenants, .mezz, .clk, .sto, .upd, .held, .harts, .twin], [], []⟩

/-- What `storeCommit` may change. -/
def Foot.storeCommit : Foot := ⟨[.dict, .blobs, .regs, .mem, .epochs, .free, .logs, .limits, .drains, .time, .d0, .sw, .can, .sleep, .power, .br,
  .load, .adc, .scan, .dma, .tenants, .mezz, .clk, .upd, .held, .harts, .twin], [], []⟩

/-- What `frameClassify` may change. -/
def Foot.frameClassify : Foot := ⟨[.mem, .logs, .limits, .sw, .dma, .tenants], logEnts ++ [ent0 Ent.Fwds.COUNTER_SAT, ent0 Ent.Fwds.LEARN_FAIL, ent0
  Ent.Stw.COUNTER_SAT, ent0 Ent.Stw.STW_ECC_DROPS, ent1 Ent.Hall.COUNTER_SAT, ent1 Ent.Hall.FROZEN_DROPS, ent1 Ent.Heng.COUNTER_SAT, ent1
  Ent.Heng.NO_QP, ent1 Ent.Port.EGRESS_FILTERED, ent1 Ent.Port.PORT_SAT, ent1 Ent.Port.RX_DISABLED, ent1 Ent.Port.RX_FCS, ent1 Ent.Port.RX_LENGTH,
  ent1 Ent.Port.RX_TYPE, ent1 Ent.Port.RX_VLAN, ent1 Ent.Port.STREAM_DROPS, ent1 Ent.Port.TCM_POLICED, ent1 Ent.Pq.COPIES_DROPPED, ent1
  Ent.Pq.CT_ABORTED, ent1 Ent.Pq.NO_DESC, ent1 Ent.Pq.OVERSIZE, ent1 Ent.Pq.PORT_SAT, ent1 Ent.Pq.Q_SAT, ent2 Ent.Pq.DROP_DISABLED, ent2
  Ent.Pq.DROP_DOWN, ent2 Ent.Pq.DROP_FULL, ent2 Ent.Pq.DROP_RESIDENCE, ent2 Ent.Pq.DROP_STW], [word1 Rg.Hpg.RING_HEAD]⟩

/-- What `frameLanded` may change. -/
def Foot.frameLanded : Foot := ⟨[.mem, .logs, .limits, .sw, .dma, .tenants], logEnts ++ [ent0 Ent.Stw.COUNTER_SAT, ent0 Ent.Stw.STW_ECC_DROPS, ent1
  Ent.Hall.COUNTER_SAT, ent1 Ent.Hall.FROZEN_DROPS, ent1 Ent.Heng.COUNTER_SAT, ent1 Ent.Heng.NO_QP, ent1 Ent.Port.EGRESS_FILTERED, ent1
  Ent.Port.PORT_SAT, ent1 Ent.Port.RX_BYTES, ent1 Ent.Port.RX_FRAMES, ent1 Ent.Pq.COPIES_DROPPED, ent1 Ent.Pq.CT_ABORTED, ent1 Ent.Pq.CT_COPIES, ent1
  Ent.Pq.ING_OVF, ent1 Ent.Pq.NO_DESC, ent1 Ent.Pq.OVERSIZE, ent1 Ent.Pq.PORT_SAT, ent1 Ent.Pq.Q_SAT, ent2 Ent.Pq.DROP_DISABLED, ent2
  Ent.Pq.DROP_DOWN, ent2 Ent.Pq.DROP_FULL, ent2 Ent.Pq.DROP_RESIDENCE, ent2 Ent.Pq.DROP_STW, ent2 Ent.Pq.SPILLED], [word1 Rg.Hpg.RING_HEAD]⟩

/-- What `stwWriteComplete` may change. -/
def Foot.stwWriteComplete : Foot := ⟨[.sw], [], []⟩

/-- What `refillStart` may change. -/
def Foot.refillStart : Foot := ⟨[.sw], [], []⟩

/-- What `refillComplete` may change. -/
def Foot.refillComplete : Foot := ⟨[.mem, .logs, .sw, .dma, .tenants], logEnts ++ [ent0 Ent.Stw.COUNTER_SAT, ent0 Ent.Stw.STW_ECC_DROPS, ent1
  Ent.Hall.COUNTER_SAT, ent1 Ent.Hall.FROZEN_DROPS, ent1 Ent.Heng.COUNTER_SAT, ent1 Ent.Heng.NO_QP, ent1 Ent.Port.EGRESS_FILTERED, ent1
  Ent.Port.PORT_SAT, ent1 Ent.Pq.COPIES_DROPPED, ent1 Ent.Pq.CT_ABORTED, ent1 Ent.Pq.NO_DESC, ent1 Ent.Pq.OVERSIZE, ent1 Ent.Pq.PORT_SAT, ent1
  Ent.Pq.Q_SAT, ent2 Ent.Pq.DROP_DISABLED, ent2 Ent.Pq.DROP_DOWN, ent2 Ent.Pq.DROP_FULL, ent2 Ent.Pq.DROP_RESIDENCE, ent2 Ent.Pq.DROP_STW], [word1
  Rg.Hpg.RING_HEAD]⟩

/-- What `txSelect` may change. -/
def Foot.txSelect : Foot := ⟨[.mem, .logs, .sw, .dma, .tenants], logEnts ++ [ent0 Ent.Stw.COUNTER_SAT, ent0 Ent.Stw.STW_ECC_DROPS, ent1
  Ent.Hall.COUNTER_SAT, ent1 Ent.Hall.FROZEN_DROPS, ent1 Ent.Heng.COUNTER_SAT, ent1 Ent.Heng.NO_QP, ent1 Ent.Port.EGRESS_FILTERED, ent1
  Ent.Port.PORT_SAT, ent1 Ent.Pq.COPIES_DROPPED, ent1 Ent.Pq.CT_ABORTED, ent1 Ent.Pq.NO_DESC, ent1 Ent.Pq.OVERSIZE, ent1 Ent.Pq.PORT_SAT, ent1
  Ent.Pq.Q_SAT, ent2 Ent.Pq.DROP_DISABLED, ent2 Ent.Pq.DROP_DOWN, ent2 Ent.Pq.DROP_FULL, ent2 Ent.Pq.DROP_RESIDENCE, ent2 Ent.Pq.DROP_STW], [word1
  Rg.Hpg.RING_HEAD]⟩

/-- What `copySent` may change. -/
def Foot.copySent : Foot := ⟨[.mem, .logs, .sw, .dma, .tenants, .twin], logEnts ++ [ent0 Ent.Stw.COUNTER_SAT, ent0 Ent.Stw.STW_ECC_DROPS, ent1
  Ent.Hall.COUNTER_SAT, ent1 Ent.Hall.FROZEN_DROPS, ent1 Ent.Heng.COUNTER_SAT, ent1 Ent.Heng.NO_QP, ent1 Ent.Port.COLLISIONS, ent1
  Ent.Port.EGRESS_FILTERED, ent1 Ent.Port.PORT_SAT, ent1 Ent.Port.TX_BYTES, ent1 Ent.Port.TX_FRAMES, ent1 Ent.Pq.COPIES_DROPPED, ent1
  Ent.Pq.COPIES_SENT, ent1 Ent.Pq.CT_ABORTED, ent1 Ent.Pq.NO_DESC, ent1 Ent.Pq.OVERSIZE, ent1 Ent.Pq.PORT_SAT, ent1 Ent.Pq.Q_SAT, ent2
  Ent.Pq.DROP_DISABLED, ent2 Ent.Pq.DROP_DOWN, ent2 Ent.Pq.DROP_FULL, ent2 Ent.Pq.DROP_RESIDENCE, ent2 Ent.Pq.DROP_STW, ent2 Ent.Pq.Q_TX_FRAMES],
  [word1 Rg.Hpg.RING_HEAD]⟩

/-- What `queueFlush` may change. -/
def Foot.queueFlush : Foot := ⟨[.mem, .logs, .sw, .dma, .tenants], logEnts ++ [ent0 Ent.Stw.COUNTER_SAT, ent0 Ent.Stw.STW_ECC_DROPS, ent1
  Ent.Hall.COUNTER_SAT, ent1 Ent.Hall.FROZEN_DROPS, ent1 Ent.Heng.COUNTER_SAT, ent1 Ent.Heng.NO_QP, ent1 Ent.Port.EGRESS_FILTERED, ent1
  Ent.Port.PORT_SAT, ent1 Ent.Pq.COPIES_DROPPED, ent1 Ent.Pq.CT_ABORTED, ent1 Ent.Pq.NO_DESC, ent1 Ent.Pq.OVERSIZE, ent1 Ent.Pq.PORT_SAT, ent1
  Ent.Pq.Q_SAT, ent2 Ent.Pq.DROP_DISABLED, ent2 Ent.Pq.DROP_DOWN, ent2 Ent.Pq.DROP_FULL, ent2 Ent.Pq.DROP_RESIDENCE, ent2 Ent.Pq.DROP_STW], [word1
  Rg.Hpg.RING_HEAD]⟩

/-- What `fdbFlush` may change. -/
def Foot.fdbFlush : Foot := ⟨[.sw], [], []⟩

/-- What `fdbAging` may change. -/
def Foot.fdbAging : Foot := ⟨[.sw], [], []⟩

/-- What `streamUnblock` may change. -/
def Foot.streamUnblock : Foot := ⟨[.sw], [], []⟩

/-- What `streamClear` may change. -/
def Foot.streamClear : Foot := ⟨[.sw], [], []⟩

/-- What `recoveryResetTimeout` may change. -/
def Foot.recoveryResetTimeout : Foot := ⟨[.sw], [], []⟩

/-- What `linkQualifyStart` may change. -/
def Foot.linkQualifyStart : Foot := ⟨[.sw], [], []⟩

/-- What `linkUp` may change. -/
def Foot.linkUp : Foot := ⟨[.mem, .logs, .sw, .dma, .tenants], logEnts, [word1 Rg.Hpg.RING_HEAD]⟩

/-- What `linkDown` may change. -/
def Foot.linkDown : Foot := ⟨[.mem, .free, .logs, .limits, .d0, .sw, .can, .power, .br, .scan, .dma, .tenants, .harts, .twin], logEnts ++ [ent0
  Ent.Stw.COUNTER_SAT, ent0 Ent.Stw.STW_ECC_DROPS, ent0 Ent.Tws.PATHS, ent0 Ent.Tws.ROLE, ent1 Ent.Bctx.COUNTER_SAT, ent1 Ent.Bctx.FAILURES, ent1
  Ent.Bctx.POSTED, ent1 Ent.Bctx.READS, ent1 Ent.Bctx.RETRANSMITS, ent1 Ent.Bctx.SESSION, ent1 Ent.Bctx.TIMEOUTS, ent1 Ent.CanCo.SDO_LAST_STATUS, ent1
  Ent.CanSt.COUNTER_SAT, ent1 Ent.CanSt.TX_DISCARDED, ent1 Ent.Hall.CMD_STATUS, ent1 Ent.Hall.COUNTER_SAT, ent1 Ent.Hall.FROZEN_DROPS, ent1
  Ent.Hall.STATE, ent1 Ent.Heng.COUNTER_SAT, ent1 Ent.Heng.NO_QP, ent1 Ent.Port.EGRESS_FILTERED, ent1 Ent.Port.LINK_DOWNS, ent1 Ent.Port.PORT_SAT,
  ent1 Ent.Port.TX_BYTES, ent1 Ent.Port.TX_FRAMES, ent1 Ent.Pq.COPIES_DROPPED, ent1 Ent.Pq.CT_ABORTED, ent1 Ent.Pq.NO_DESC, ent1 Ent.Pq.OVERSIZE, ent1
  Ent.Pq.PORT_SAT, ent1 Ent.Pq.Q_SAT, ent1 Ent.Stn.COUNTER_SAT, ent1 Ent.Stn.LOSSES, ent1 Ent.Stn.STATE, ent2 Ent.Pq.DROP_DISABLED, ent2
  Ent.Pq.DROP_DOWN, ent2 Ent.Pq.DROP_FULL, ent2 Ent.Pq.DROP_RESIDENCE, ent2 Ent.Pq.DROP_STW], [word0 Rg.Smb.DONE, word0 Rg.Smb.MB_LEN, word0
  Rg.Smb.MB_TOTAL, word1 Rg.Hpg.RING_EN, word1 Rg.Hpg.RING_HEAD, word1 Rg.Mb.DONE, word1 Rg.Mb.MB_LEN, word1 Rg.Mb.MB_TOTAL, word1 Rg.Plat.SYS_IRQ,
  word1 Rg.Smb.MB_DATA, word2 Rg.Ctx.BST_ADDR_HI, word2 Rg.Ctx.BST_ADDR_LO, word2 Rg.Ctx.FAILED, word2 Rg.Ctx.FAR_CODE, word2 Rg.Ctx.IRQ, word2
  Rg.Ctx.PW_DONE, word2 Rg.Ctx.SESSION, word2 Rg.Ep.MERGED, word2 Rg.Mb.MB_DATA, word2 fun u k => rmb u k Rg.Mb.CODE, word2 fun u k => rmb u k
  Rg.Mb.GO, word2 fun u k => rmb u k Rg.Mb.MB_LEN, word2 fun u k => rmb u k Rg.Mb.MB_TOTAL, word3 fun u k i => rmb u k fun n => Rg.Mb.MB_DATA n i]⟩

/-- What `holdExpiry` may change. -/
def Foot.holdExpiry : Foot := ⟨[.mem, .logs, .sw, .dma, .tenants], logEnts ++ [ent0 Ent.Stw.COUNTER_SAT, ent0 Ent.Stw.STW_ECC_DROPS, ent1
  Ent.Hall.COUNTER_SAT, ent1 Ent.Hall.FROZEN_DROPS, ent1 Ent.Heng.COUNTER_SAT, ent1 Ent.Heng.NO_QP, ent1 Ent.Port.EGRESS_FILTERED, ent1
  Ent.Port.PORT_SAT, ent1 Ent.Pq.COPIES_DROPPED, ent1 Ent.Pq.CT_ABORTED, ent1 Ent.Pq.NO_DESC, ent1 Ent.Pq.OVERSIZE, ent1 Ent.Pq.PORT_SAT, ent1
  Ent.Pq.Q_SAT, ent2 Ent.Pq.DROP_DISABLED, ent2 Ent.Pq.DROP_DOWN, ent2 Ent.Pq.DROP_FULL, ent2 Ent.Pq.DROP_RESIDENCE, ent2 Ent.Pq.DROP_STW], [word1
  Rg.Hpg.RING_HEAD]⟩

/-- What `xtxdisRelease` may change. -/
def Foot.xtxdisRelease : Foot := ⟨[.sw], [], []⟩

/-- What `gateIntervalEnd` may change. -/
def Foot.gateIntervalEnd : Foot := ⟨[.mem, .logs, .sw, .dma, .tenants], logEnts ++ [ent1 Ent.Port.PORT_SAT, ent1 Ent.Port.TX_OVERRUN], [word1
  Rg.Hpg.RING_HEAD]⟩

/-- What `gclChange` may change. -/
def Foot.gclChange : Foot := ⟨[.mem, .logs, .sw, .dma, .tenants], logEnts ++ [ent1 Ent.Port.PORT_SAT, ent1 Ent.Port.TX_OVERRUN], [word1
  Rg.Hpg.RING_HEAD]⟩

/-- What `triggerFire` may change. -/
def Foot.triggerFire : Foot := ⟨[.mem, .free, .logs, .limits, .time, .d0, .sw, .can, .power, .br, .load, .adc, .scan, .dma, .tenants, .clk, .twin],
  logEnts ++ [ent0 Ent.Chg.CHANGES, ent0 Ent.Chg.CHANGE_RESULT, ent0 Ent.Chg.CHANGE_STATE, ent0 Ent.Chg.CHANGE_STATUS, ent0 Ent.Chg.COUNTER_SAT, ent0
  Ent.Chg.REFUSALS, ent0 Ent.Clk.SSC_ACTIVE, ent0 Ent.Se.CMD_STATUS, ent0 Ent.Se.FAULT_CAUSE, ent0 Ent.Se.STATE, ent0 Ent.Stw.COUNTER_SAT, ent0
  Ent.Stw.STW_ECC_DROPS, ent0 Ent.Tws.CMD_STATUS, ent0 Ent.Tws.COUNTER_SAT, ent0 Ent.Tws.REPL_LATE, ent0 Ent.Tws.ROLE, ent1 Ent.Adc.COUNTER_SAT, ent1
  Ent.Adc.OVERLAPS, ent1 Ent.CanCo.SDO_LAST_STATUS, ent1 Ent.CanSt.COUNTER_SAT, ent1 Ent.CanSt.REF_LATE, ent1 Ent.CanSt.TX_DISCARDED, ent1
  Ent.Hall.COUNTER_SAT, ent1 Ent.Hall.FROZEN_DROPS, ent1 Ent.Heng.COUNTER_SAT, ent1 Ent.Heng.NO_QP, ent1 Ent.Lc.FLAGS, ent1 Ent.Lc.STATE, ent1
  Ent.Port.EGRESS_FILTERED, ent1 Ent.Port.PORT_SAT, ent1 Ent.Port.TX_BYTES, ent1 Ent.Port.TX_FRAMES, ent1 Ent.Pq.CT_ABORTED, ent1 Ent.Pq.NO_DESC, ent1
  Ent.Pq.OVERSIZE, ent1 Ent.Pq.PORT_SAT, ent1 Ent.Pq.Q_SAT, ent1 Ent.Stn.COUNTER_SAT, ent1 Ent.Stn.LOSSES, ent1 Ent.Stn.STATE, ent1 Ent.Stn.TX_FRAMES,
  ent1 Ent.Task.COUNTER_SAT, ent1 Ent.Task.MERGED, ent1 Ent.Task.SKIPPED, ent1 Ent.Trgu.COUNTER_SAT, ent1 Ent.Trgu.ENABLE, ent1 Ent.Trgu.FIRED, ent1
  Ent.Trgu.MISSED, ent1 Ent.Trgu.NEXT_NS, ent1 Ent.Trgu.START_NS, ent2 Ent.Pq.DROP_DISABLED, ent2 Ent.Pq.DROP_DOWN, ent2 Ent.Pq.DROP_FULL, ent2
  Ent.Pq.DROP_RESIDENCE, ent2 Ent.Pq.DROP_STW], [word0 Rg.M0Cpg.DEPTH, word0 Rg.M0Cpg.WFI, word0 Rg.Smb.DONE, word0 Rg.Smb.MB_LEN, word0
  Rg.Smb.MB_TOTAL, word1 Rg.Adcr.BUSY, word1 Rg.Adcr.IRQ, word1 Rg.Cpg.DEPTH, word1 Rg.Cpg.WFI, word1 Rg.Hpg.RING_EN, word1 Rg.Hpg.RING_HEAD, word1
  Rg.M0Cpg.STK_SRC, word1 Rg.Mb.DONE, word1 Rg.Mb.MB_LEN, word1 Rg.Mb.MB_TOTAL, word1 Rg.Plat.SYS_IRQ, word1 Rg.Smb.MB_DATA, word1 Rg.Src.PENDING,
  word2 Rg.Cpg.STK_SRC, word2 Rg.Mb.MB_DATA]⟩

/-- What `triggerPulseEnd` may change. -/
def Foot.triggerPulseEnd : Foot := ⟨[.time], [], []⟩

/-- What `snapCapture` may change. -/
def Foot.snapCapture : Foot := ⟨[.time], [], []⟩

/-- What `adjGo` may change. -/
def Foot.adjGo : Foot := ⟨[.time], [], [word0 Rg.Tb.GO, word1 Rg.Plat.SYS_IRQ]⟩

/-- What `timeRateChange` may change. -/
def Foot.timeRateChange : Foot := ⟨[.mem, .free, .logs, .limits, .time, .d0, .sw, .can, .power, .br, .load, .adc, .scan, .dma, .tenants, .clk, .twin],
  logEnts ++ [ent0 Ent.Chg.CHANGES, ent0 Ent.Chg.CHANGE_RESULT, ent0 Ent.Chg.CHANGE_STATE, ent0 Ent.Chg.CHANGE_STATUS, ent0 Ent.Chg.COUNTER_SAT, ent0
  Ent.Chg.REFUSALS, ent0 Ent.Clk.SSC_ACTIVE, ent0 Ent.Se.CMD_STATUS, ent0 Ent.Se.FAULT_CAUSE, ent0 Ent.Se.STATE, ent0 Ent.Stw.COUNTER_SAT, ent0
  Ent.Stw.STW_ECC_DROPS, ent0 Ent.Time.COUNTER_SAT, ent0 Ent.Time.STEPS, ent0 Ent.Tws.CMD_STATUS, ent0 Ent.Tws.COUNTER_SAT, ent0 Ent.Tws.REPL_LATE,
  ent0 Ent.Tws.ROLE, ent1 Ent.Adc.COUNTER_SAT, ent1 Ent.Adc.OVERLAPS, ent1 Ent.CanCo.SDO_LAST_STATUS, ent1 Ent.CanSt.COUNTER_SAT, ent1
  Ent.CanSt.REF_LATE, ent1 Ent.CanSt.TX_DISCARDED, ent1 Ent.Hall.COUNTER_SAT, ent1 Ent.Hall.FROZEN_DROPS, ent1 Ent.Heng.COUNTER_SAT, ent1
  Ent.Heng.NO_QP, ent1 Ent.Lc.FLAGS, ent1 Ent.Lc.STATE, ent1 Ent.Port.EGRESS_FILTERED, ent1 Ent.Port.PORT_SAT, ent1 Ent.Port.TX_BYTES, ent1
  Ent.Port.TX_FRAMES, ent1 Ent.Port.TX_OVERRUN, ent1 Ent.Pq.CT_ABORTED, ent1 Ent.Pq.NO_DESC, ent1 Ent.Pq.OVERSIZE, ent1 Ent.Pq.PORT_SAT, ent1
  Ent.Pq.Q_SAT, ent1 Ent.Stn.COUNTER_SAT, ent1 Ent.Stn.LOSSES, ent1 Ent.Stn.STATE, ent1 Ent.Stn.TX_FRAMES, ent1 Ent.Task.COUNTER_SAT, ent1
  Ent.Task.MERGED, ent1 Ent.Task.SKIPPED, ent1 Ent.Trgu.COUNTER_SAT, ent1 Ent.Trgu.ENABLE, ent1 Ent.Trgu.FIRED, ent1 Ent.Trgu.MISSED, ent1
  Ent.Trgu.NEXT_NS, ent1 Ent.Trgu.START_NS, ent2 Ent.Pq.DROP_DISABLED, ent2 Ent.Pq.DROP_DOWN, ent2 Ent.Pq.DROP_FULL, ent2 Ent.Pq.DROP_RESIDENCE, ent2
  Ent.Pq.DROP_STW], [word0 Rg.M0Cpg.DEPTH, word0 Rg.M0Cpg.WFI, word0 Rg.Smb.DONE, word0 Rg.Smb.MB_LEN, word0 Rg.Smb.MB_TOTAL, word1 Rg.Adcr.BUSY,
  word1 Rg.Adcr.IRQ, word1 Rg.Cpg.DEPTH, word1 Rg.Cpg.WFI, word1 Rg.Hpg.RING_EN, word1 Rg.Hpg.RING_HEAD, word1 Rg.M0Cpg.STK_SRC, word1 Rg.Mb.DONE,
  word1 Rg.Mb.MB_LEN, word1 Rg.Mb.MB_TOTAL, word1 Rg.Plat.SYS_IRQ, word1 Rg.Smb.MB_DATA, word1 Rg.Src.PENDING, word2 Rg.Cpg.STK_SRC, word2
  Rg.Mb.MB_DATA]⟩

/-- What `timeStep` may change. -/
def Foot.timeStep : Foot := ⟨[.mem, .free, .logs, .limits, .time, .d0, .sw, .can, .power, .br, .load, .adc, .scan, .dma, .tenants, .clk, .twin],
  logEnts ++ [ent0 Ent.Chg.CHANGES, ent0 Ent.Chg.CHANGE_RESULT, ent0 Ent.Chg.CHANGE_STATE, ent0 Ent.Chg.CHANGE_STATUS, ent0 Ent.Chg.COUNTER_SAT, ent0
  Ent.Chg.REFUSALS, ent0 Ent.Clk.SSC_ACTIVE, ent0 Ent.Se.CMD_STATUS, ent0 Ent.Se.FAULT_CAUSE, ent0 Ent.Se.STATE, ent0 Ent.Stw.COUNTER_SAT, ent0
  Ent.Stw.STW_ECC_DROPS, ent0 Ent.Time.COUNTER_SAT, ent0 Ent.Time.STEPS, ent0 Ent.Tws.CMD_STATUS, ent0 Ent.Tws.COUNTER_SAT, ent0 Ent.Tws.REPL_LATE,
  ent0 Ent.Tws.ROLE, ent1 Ent.Adc.COUNTER_SAT, ent1 Ent.Adc.OVERLAPS, ent1 Ent.CanCo.SDO_LAST_STATUS, ent1 Ent.CanSt.COUNTER_SAT, ent1
  Ent.CanSt.REF_LATE, ent1 Ent.CanSt.TX_DISCARDED, ent1 Ent.Hall.COUNTER_SAT, ent1 Ent.Hall.FROZEN_DROPS, ent1 Ent.Heng.COUNTER_SAT, ent1
  Ent.Heng.NO_QP, ent1 Ent.Lc.FLAGS, ent1 Ent.Lc.STATE, ent1 Ent.Port.EGRESS_FILTERED, ent1 Ent.Port.PORT_SAT, ent1 Ent.Port.TX_BYTES, ent1
  Ent.Port.TX_FRAMES, ent1 Ent.Port.TX_OVERRUN, ent1 Ent.Pq.CT_ABORTED, ent1 Ent.Pq.NO_DESC, ent1 Ent.Pq.OVERSIZE, ent1 Ent.Pq.PORT_SAT, ent1
  Ent.Pq.Q_SAT, ent1 Ent.Stn.COUNTER_SAT, ent1 Ent.Stn.LOSSES, ent1 Ent.Stn.STATE, ent1 Ent.Stn.TX_FRAMES, ent1 Ent.Task.COUNTER_SAT, ent1
  Ent.Task.MERGED, ent1 Ent.Task.SKIPPED, ent1 Ent.Trgu.COUNTER_SAT, ent1 Ent.Trgu.ENABLE, ent1 Ent.Trgu.FIRED, ent1 Ent.Trgu.MISSED, ent1
  Ent.Trgu.NEXT_NS, ent1 Ent.Trgu.START_NS, ent2 Ent.Pq.DROP_DISABLED, ent2 Ent.Pq.DROP_DOWN, ent2 Ent.Pq.DROP_FULL, ent2 Ent.Pq.DROP_RESIDENCE, ent2
  Ent.Pq.DROP_STW], [word0 Rg.M0Cpg.DEPTH, word0 Rg.M0Cpg.WFI, word0 Rg.Smb.DONE, word0 Rg.Smb.MB_LEN, word0 Rg.Smb.MB_TOTAL, word1 Rg.Adcr.BUSY,
  word1 Rg.Adcr.IRQ, word1 Rg.Cpg.DEPTH, word1 Rg.Cpg.WFI, word1 Rg.Hpg.RING_EN, word1 Rg.Hpg.RING_HEAD, word1 Rg.M0Cpg.STK_SRC, word1 Rg.Mb.DONE,
  word1 Rg.Mb.MB_LEN, word1 Rg.Mb.MB_TOTAL, word1 Rg.Plat.SYS_IRQ, word1 Rg.Smb.MB_DATA, word1 Rg.Src.PENDING, word2 Rg.Cpg.STK_SRC, word2
  Rg.Mb.MB_DATA]⟩

/-- What `qualitySet` may change. -/
def Foot.qualitySet : Foot := ⟨[.mem, .free, .logs, .limits, .time, .d0, .sw, .can, .power, .br, .load, .adc, .scan, .dma, .tenants, .clk, .twin],
  logEnts ++ [ent0 Ent.Chg.CHANGES, ent0 Ent.Chg.CHANGE_RESULT, ent0 Ent.Chg.CHANGE_STATE, ent0 Ent.Chg.CHANGE_STATUS, ent0 Ent.Chg.COUNTER_SAT, ent0
  Ent.Chg.REFUSALS, ent0 Ent.Clk.SSC_ACTIVE, ent0 Ent.Se.CMD_STATUS, ent0 Ent.Se.FAULT_CAUSE, ent0 Ent.Se.STATE, ent0 Ent.Stw.COUNTER_SAT, ent0
  Ent.Stw.STW_ECC_DROPS, ent0 Ent.Time.COUNTER_SAT, ent0 Ent.Time.STEPS, ent0 Ent.Tws.CMD_STATUS, ent0 Ent.Tws.COUNTER_SAT, ent0 Ent.Tws.REPL_LATE,
  ent0 Ent.Tws.ROLE, ent1 Ent.Adc.COUNTER_SAT, ent1 Ent.Adc.OVERLAPS, ent1 Ent.CanCo.SDO_LAST_STATUS, ent1 Ent.CanSt.COUNTER_SAT, ent1
  Ent.CanSt.REF_LATE, ent1 Ent.CanSt.TX_DISCARDED, ent1 Ent.Hall.COUNTER_SAT, ent1 Ent.Hall.FROZEN_DROPS, ent1 Ent.Heng.COUNTER_SAT, ent1
  Ent.Heng.NO_QP, ent1 Ent.Lc.FLAGS, ent1 Ent.Lc.STATE, ent1 Ent.Port.EGRESS_FILTERED, ent1 Ent.Port.PORT_SAT, ent1 Ent.Port.TX_BYTES, ent1
  Ent.Port.TX_FRAMES, ent1 Ent.Port.TX_OVERRUN, ent1 Ent.Pq.CT_ABORTED, ent1 Ent.Pq.NO_DESC, ent1 Ent.Pq.OVERSIZE, ent1 Ent.Pq.PORT_SAT, ent1
  Ent.Pq.Q_SAT, ent1 Ent.Stn.COUNTER_SAT, ent1 Ent.Stn.LOSSES, ent1 Ent.Stn.STATE, ent1 Ent.Stn.TX_FRAMES, ent1 Ent.Task.COUNTER_SAT, ent1
  Ent.Task.MERGED, ent1 Ent.Task.SKIPPED, ent1 Ent.Trgu.COUNTER_SAT, ent1 Ent.Trgu.ENABLE, ent1 Ent.Trgu.FIRED, ent1 Ent.Trgu.MISSED, ent1
  Ent.Trgu.NEXT_NS, ent1 Ent.Trgu.START_NS, ent2 Ent.Pq.DROP_DISABLED, ent2 Ent.Pq.DROP_DOWN, ent2 Ent.Pq.DROP_FULL, ent2 Ent.Pq.DROP_RESIDENCE, ent2
  Ent.Pq.DROP_STW], [word0 Rg.M0Cpg.DEPTH, word0 Rg.M0Cpg.WFI, word0 Rg.Smb.DONE, word0 Rg.Smb.MB_LEN, word0 Rg.Smb.MB_TOTAL, word1 Rg.Adcr.BUSY,
  word1 Rg.Adcr.IRQ, word1 Rg.Cpg.DEPTH, word1 Rg.Cpg.WFI, word1 Rg.Hpg.RING_EN, word1 Rg.Hpg.RING_HEAD, word1 Rg.M0Cpg.STK_SRC, word1 Rg.Mb.DONE,
  word1 Rg.Mb.MB_LEN, word1 Rg.Mb.MB_TOTAL, word1 Rg.Plat.SYS_IRQ, word1 Rg.Smb.MB_DATA, word1 Rg.Src.PENDING, word2 Rg.Cpg.STK_SRC, word2
  Rg.Mb.MB_DATA]⟩

/-- What `setTime` may change. -/
def Foot.setTime : Foot := ⟨[.mem, .free, .logs, .limits, .time, .d0, .sw, .can, .power, .br, .load, .adc, .scan, .dma, .tenants, .clk, .twin],
  logEnts ++ [ent0 Ent.Chg.CHANGES, ent0 Ent.Chg.CHANGE_RESULT, ent0 Ent.Chg.CHANGE_STATE, ent0 Ent.Chg.CHANGE_STATUS, ent0 Ent.Chg.COUNTER_SAT, ent0
  Ent.Chg.REFUSALS, ent0 Ent.Clk.SSC_ACTIVE, ent0 Ent.Se.CMD_STATUS, ent0 Ent.Se.FAULT_CAUSE, ent0 Ent.Se.STATE, ent0 Ent.Stw.COUNTER_SAT, ent0
  Ent.Stw.STW_ECC_DROPS, ent0 Ent.Time.COUNTER_SAT, ent0 Ent.Time.STEPS, ent0 Ent.Tws.CMD_STATUS, ent0 Ent.Tws.COUNTER_SAT, ent0 Ent.Tws.REPL_LATE,
  ent0 Ent.Tws.ROLE, ent1 Ent.Adc.COUNTER_SAT, ent1 Ent.Adc.OVERLAPS, ent1 Ent.CanCo.SDO_LAST_STATUS, ent1 Ent.CanSt.COUNTER_SAT, ent1
  Ent.CanSt.REF_LATE, ent1 Ent.CanSt.TX_DISCARDED, ent1 Ent.Hall.COUNTER_SAT, ent1 Ent.Hall.FROZEN_DROPS, ent1 Ent.Heng.COUNTER_SAT, ent1
  Ent.Heng.NO_QP, ent1 Ent.Lc.FLAGS, ent1 Ent.Lc.STATE, ent1 Ent.Port.EGRESS_FILTERED, ent1 Ent.Port.PORT_SAT, ent1 Ent.Port.TX_BYTES, ent1
  Ent.Port.TX_FRAMES, ent1 Ent.Port.TX_OVERRUN, ent1 Ent.Pq.CT_ABORTED, ent1 Ent.Pq.NO_DESC, ent1 Ent.Pq.OVERSIZE, ent1 Ent.Pq.PORT_SAT, ent1
  Ent.Pq.Q_SAT, ent1 Ent.Stn.COUNTER_SAT, ent1 Ent.Stn.LOSSES, ent1 Ent.Stn.STATE, ent1 Ent.Stn.TX_FRAMES, ent1 Ent.Task.COUNTER_SAT, ent1
  Ent.Task.MERGED, ent1 Ent.Task.SKIPPED, ent1 Ent.Trgu.COUNTER_SAT, ent1 Ent.Trgu.ENABLE, ent1 Ent.Trgu.FIRED, ent1 Ent.Trgu.MISSED, ent1
  Ent.Trgu.NEXT_NS, ent1 Ent.Trgu.START_NS, ent2 Ent.Pq.DROP_DISABLED, ent2 Ent.Pq.DROP_DOWN, ent2 Ent.Pq.DROP_FULL, ent2 Ent.Pq.DROP_RESIDENCE, ent2
  Ent.Pq.DROP_STW], [word0 Rg.M0Cpg.DEPTH, word0 Rg.M0Cpg.WFI, word0 Rg.Smb.DONE, word0 Rg.Smb.MB_LEN, word0 Rg.Smb.MB_TOTAL, word1 Rg.Adcr.BUSY,
  word1 Rg.Adcr.IRQ, word1 Rg.Cpg.DEPTH, word1 Rg.Cpg.WFI, word1 Rg.Hpg.RING_EN, word1 Rg.Hpg.RING_HEAD, word1 Rg.M0Cpg.STK_SRC, word1 Rg.Mb.DONE,
  word1 Rg.Mb.MB_LEN, word1 Rg.Mb.MB_TOTAL, word1 Rg.Plat.SYS_IRQ, word1 Rg.Smb.MB_DATA, word1 Rg.Src.PENDING, word2 Rg.Cpg.STK_SRC, word2
  Rg.Mb.MB_DATA]⟩

/-- What `trigEdgeCapture` may change. -/
def Foot.trigEdgeCapture : Foot := ⟨[.mem, .logs, .time, .dma, .tenants], logEnts ++ [ent1 Ent.Trgp.CAPTURE_LOST, ent1 Ent.Trgp.COUNTER_SAT], [word1
  Rg.Hpg.RING_HEAD, word1 Rg.Tb.VALID]⟩

/-- What `capturePop` may change. -/
def Foot.capturePop : Foot := ⟨[.time], [], []⟩

/-- What `ptpMessageReceive` may change. -/
def Foot.ptpMessageReceive : Foot := ⟨[.mem, .free, .logs, .limits, .time, .d0, .sw, .can, .power, .br, .load, .adc, .scan, .dma, .tenants, .clk,
  .twin], logEnts ++ [ent0 Ent.Chg.CHANGES, ent0 Ent.Chg.CHANGE_RESULT, ent0 Ent.Chg.CHANGE_STATE, ent0 Ent.Chg.CHANGE_STATUS, ent0
  Ent.Chg.COUNTER_SAT, ent0 Ent.Chg.REFUSALS, ent0 Ent.Clk.SSC_ACTIVE, ent0 Ent.Se.CMD_STATUS, ent0 Ent.Se.FAULT_CAUSE, ent0 Ent.Se.STATE, ent0
  Ent.Stw.COUNTER_SAT, ent0 Ent.Stw.STW_ECC_DROPS, ent0 Ent.Time.COUNTER_SAT, ent0 Ent.Time.GM_IDENTITY, ent0 Ent.Time.MASTER_OFFSET, ent0
  Ent.Time.STEPS, ent0 Ent.Tws.CMD_STATUS, ent0 Ent.Tws.COUNTER_SAT, ent0 Ent.Tws.REPL_LATE, ent0 Ent.Tws.ROLE, ent1 Ent.Adc.COUNTER_SAT, ent1
  Ent.Adc.OVERLAPS, ent1 Ent.CanCo.SDO_LAST_STATUS, ent1 Ent.CanSt.COUNTER_SAT, ent1 Ent.CanSt.REF_LATE, ent1 Ent.CanSt.TX_DISCARDED, ent1
  Ent.Hall.COUNTER_SAT, ent1 Ent.Hall.FROZEN_DROPS, ent1 Ent.Heng.COUNTER_SAT, ent1 Ent.Heng.NO_QP, ent1 Ent.Lc.FLAGS, ent1 Ent.Lc.STATE, ent1
  Ent.Port.EGRESS_FILTERED, ent1 Ent.Port.PORT_SAT, ent1 Ent.Port.TX_BYTES, ent1 Ent.Port.TX_FRAMES, ent1 Ent.Port.TX_OVERRUN, ent1 Ent.Pq.CT_ABORTED,
  ent1 Ent.Pq.NO_DESC, ent1 Ent.Pq.OVERSIZE, ent1 Ent.Pq.PORT_SAT, ent1 Ent.Pq.Q_SAT, ent1 Ent.Ptime.COUNTER_SAT, ent1 Ent.Ptime.MEAN_LINK_DELAY, ent1
  Ent.Ptime.PORT_STATE, ent1 Ent.Ptime.RX_STAMPS, ent1 Ent.Ptime.TX_STAMPS, ent1 Ent.Stn.COUNTER_SAT, ent1 Ent.Stn.LOSSES, ent1 Ent.Stn.STATE, ent1
  Ent.Stn.TX_FRAMES, ent1 Ent.Task.COUNTER_SAT, ent1 Ent.Task.MERGED, ent1 Ent.Task.SKIPPED, ent1 Ent.Trgu.COUNTER_SAT, ent1 Ent.Trgu.ENABLE, ent1
  Ent.Trgu.FIRED, ent1 Ent.Trgu.MISSED, ent1 Ent.Trgu.NEXT_NS, ent1 Ent.Trgu.START_NS, ent2 Ent.Pq.DROP_DISABLED, ent2 Ent.Pq.DROP_DOWN, ent2
  Ent.Pq.DROP_FULL, ent2 Ent.Pq.DROP_RESIDENCE, ent2 Ent.Pq.DROP_STW], [word0 Rg.M0Cpg.DEPTH, word0 Rg.M0Cpg.WFI, word0 Rg.Smb.DONE, word0
  Rg.Smb.MB_LEN, word0 Rg.Smb.MB_TOTAL, word1 Rg.Adcr.BUSY, word1 Rg.Adcr.IRQ, word1 Rg.Cpg.DEPTH, word1 Rg.Cpg.WFI, word1 Rg.Hpg.RING_EN, word1
  Rg.Hpg.RING_HEAD, word1 Rg.M0Cpg.STK_SRC, word1 Rg.Mb.DONE, word1 Rg.Mb.MB_LEN, word1 Rg.Mb.MB_TOTAL, word1 Rg.Plat.SYS_IRQ, word1 Rg.Smb.MB_DATA,
  word1 Rg.Src.PENDING, word2 Rg.Cpg.STK_SRC, word2 Rg.Mb.MB_DATA]⟩

/-- What `ptpMessageSend` may change. -/
def Foot.ptpMessageSend : Foot := ⟨[.mem, .logs, .time, .sw, .dma, .tenants], logEnts ++ [ent0 Ent.Stw.COUNTER_SAT, ent0 Ent.Stw.STW_ECC_DROPS, ent1
  Ent.Hall.COUNTER_SAT, ent1 Ent.Hall.FROZEN_DROPS, ent1 Ent.Heng.COUNTER_SAT, ent1 Ent.Heng.NO_QP, ent1 Ent.Port.EGRESS_FILTERED, ent1
  Ent.Port.PORT_SAT, ent1 Ent.Pq.CT_ABORTED, ent1 Ent.Pq.NO_DESC, ent1 Ent.Pq.OVERSIZE, ent1 Ent.Pq.PORT_SAT, ent1 Ent.Pq.Q_SAT, ent1
  Ent.Ptime.COUNTER_SAT, ent1 Ent.Ptime.TX_STAMPS, ent2 Ent.Pq.DROP_DISABLED, ent2 Ent.Pq.DROP_DOWN, ent2 Ent.Pq.DROP_FULL, ent2
  Ent.Pq.DROP_RESIDENCE, ent2 Ent.Pq.DROP_STW], [word1 Rg.Hpg.RING_HEAD]⟩

/-- What `syncTimeout` may change. -/
def Foot.syncTimeout : Foot := ⟨[.mem, .logs, .time, .dma, .tenants], logEnts, [word1 Rg.Hpg.RING_HEAD, word1 Rg.Plat.SYS_IRQ]⟩

/-- What `holdoverTimeout` may change. -/
def Foot.holdoverTimeout : Foot := ⟨[.mem, .logs, .time, .dma, .tenants], logEnts, [word1 Rg.Hpg.RING_HEAD, word1 Rg.Plat.SYS_IRQ]⟩

/-- What `canSend` may change. -/
def Foot.canSend : Foot := ⟨[.mem, .logs, .limits, .can, .dma, .tenants], logEnts, [word1 Rg.Ch.IRQ, word1 Rg.Hpg.RING_HEAD, word2 Rg.Txb.CODE, word2
  Rg.Txb.SEND]⟩

/-- What `canAbort` may change. -/
def Foot.canAbort : Foot := ⟨[.can], [], [word1 Rg.Ch.IRQ, word2 Rg.Txb.CODE]⟩

/-- What `canTxStart` may change. -/
def Foot.canTxStart : Foot := ⟨[.can], [], [word2 Rg.Txb.CODE]⟩

/-- What `canArbitrationLost` may change. -/
def Foot.canArbitrationLost : Foot := ⟨[.mem, .logs, .can, .dma, .tenants], logEnts ++ [ent1 Ent.CanSt.COUNTER_SAT, ent1 Ent.CanSt.TX_DISCARDED],
  [word1 Rg.Ch.IRQ, word1 Rg.Hpg.RING_HEAD, word2 Rg.Txb.CODE]⟩

/-- What `canTxComplete` may change. -/
def Foot.canTxComplete : Foot := ⟨[.mem, .logs, .can, .dma, .tenants], logEnts ++ [ent1 Ent.CanSt.COUNTER_SAT, ent1 Ent.CanSt.TX_FRAMES], [word1
  Rg.Ch.IRQ, word1 Rg.Ch.TEC, word1 Rg.Hpg.RING_HEAD, word2 Rg.Txb.CODE, word2 Rg.Txb.STAMP, word2 Rg.Txb.TGEN]⟩

/-- What `canError` may change. -/
def Foot.canError : Foot := ⟨[.mem, .logs, .can, .scan, .dma, .tenants], logEnts ++ [ent1 Ent.CanSt.BUS_OFFS, ent1 Ent.CanSt.COUNTER_SAT, ent1
  Ent.CanSt.ERR_FRAMES, ent1 Ent.CanSt.TX_DISCARDED, ent1 Ent.Stn.COUNTER_SAT, ent1 Ent.Stn.LOSSES, ent1 Ent.Stn.STATE], [word1 Rg.Ch.IRQ, word1
  Rg.Ch.TEC, word1 Rg.Hpg.RING_HEAD, word1 Rg.Plat.SYS_IRQ, word2 Rg.Txb.CODE]⟩

/-- What `canRestart` may change. -/
def Foot.canRestart : Foot := ⟨[.can], [], []⟩

/-- What `canBusRecovered` may change. -/
def Foot.canBusRecovered : Foot := ⟨[.mem, .logs, .can, .dma, .tenants], logEnts, [word1 Rg.Ch.IRQ, word1 Rg.Ch.TEC, word1 Rg.Hpg.RING_HEAD]⟩

/-- What `dominantTimeout` may change. -/
def Foot.dominantTimeout : Foot := ⟨[.can], [], []⟩

/-- What `canFrameReceive` may change. -/
def Foot.canFrameReceive : Foot := ⟨[.dict, .blobs, .mem, .free, .logs, .limits, .drains, .time, .d0, .sw, .can, .sleep, .power, .br, .load, .adc,
  .scan, .dma, .tenants, .clk, .harts, .twin], [], [word0 Rg.M0Cpg.DEPTH, word0 Rg.M0Cpg.WFI, word0 Rg.Slpr.FW_PENDING, word0 Rg.Smb.DONE, word0
  Rg.Smb.MB_LEN, word0 Rg.Smb.MB_TOTAL, word1 Rg.Adcr.BUSY, word1 Rg.Adcr.IRQ, word1 Rg.Ch.IRQ, word1 Rg.Ch.OVF, word1 Rg.Ch.REF_RX_INFO, word1
  Rg.Ch.REF_RX_SEC, word1 Rg.Ch.REF_RX_STAMP, word1 Rg.Ch.REF_RX_TIME, word1 Rg.Ch.TEC, word1 Rg.Cpg.DEPTH, word1 Rg.Cpg.WFI, word1 Rg.Dmar.ACTIVE,
  word1 Rg.Hpg.RING_EN, word1 Rg.Hpg.RING_HEAD, word1 Rg.M0Cpg.STK_SRC, word1 Rg.Mb.DONE, word1 Rg.Mb.MB_LEN, word1 Rg.Mb.MB_TOTAL, word1
  Rg.Plat.SYS_IRQ, word1 Rg.Smb.MB_DATA, word1 Rg.Src.PENDING, word2 Rg.Cpg.STK_SRC, word2 Rg.Ctx.BST_ADDR_HI, word2 Rg.Ctx.BST_ADDR_LO, word2
  Rg.Ctx.FAILED, word2 Rg.Ctx.FAR_CODE, word2 Rg.Ctx.IRQ, word2 Rg.Ctx.SESSION, word2 Rg.Ep.MERGED, word2 Rg.Mb.MB_DATA, word2 Rg.Obj.EXPIRED, word2
  Rg.Obj.ID, word2 Rg.Obj.NEW, word2 Rg.Obj.STAMP, word2 Rg.Obj.TGEN, word2 Rg.Txb.CODE, word2 fun u k => rmb u k Rg.Mb.CODE, word2 fun u k => rmb u k
  Rg.Mb.GO, word2 fun u k => rmb u k Rg.Mb.MB_LEN, word2 fun u k => rmb u k Rg.Mb.MB_TOTAL, word3 Rg.Obj.DATA, word3 fun u k i => rmb u k fun n =>
  Rg.Mb.MB_DATA n i]⟩

/-- What `objHdrRead` may change. -/
def Foot.objHdrRead : Foot := ⟨[.can], [], []⟩

/-- What `objTailRead` may change. -/
def Foot.objTailRead : Foot := ⟨[.can], [], [word1 Rg.Ch.IRQ, word2 Rg.Obj.EXPIRED, word2 Rg.Obj.ID, word2 Rg.Obj.NEW, word2 Rg.Obj.STAMP, word2
  Rg.Obj.TGEN, word3 Rg.Obj.DATA]⟩

/-- What `lockExpiry` may change. -/
def Foot.lockExpiry : Foot := ⟨[.mem, .free, .logs, .limits, .can, .scan, .dma, .tenants, .twin], logEnts ++ [ent1 Ent.CanSt.COUNTER_SAT, ent1
  Ent.CanSt.LOCK_EXPIRED, ent1 Ent.Port.PORT_SAT, ent1 Ent.Port.TX_BYTES, ent1 Ent.Port.TX_FRAMES, ent1 Ent.Stn.COUNTER_SAT, ent1 Ent.Stn.LOSSES, ent1
  Ent.Stn.STATE, ent1 Ent.Task.COUNTER_SAT, ent1 Ent.Task.MERGED], [word0 Rg.M0Cpg.WFI, word1 Rg.Ch.IRQ, word1 Rg.Cpg.WFI, word1 Rg.Hpg.RING_HEAD,
  word1 Rg.Plat.SYS_IRQ, word1 Rg.Src.PENDING, word2 Rg.Obj.EXPIRED, word2 Rg.Obj.ID, word2 Rg.Obj.NEW, word2 Rg.Obj.STAMP, word2 Rg.Obj.TGEN, word3
  Rg.Obj.DATA]⟩

/-- What `nmtCommand` may change. -/
def Foot.nmtCommand : Foot := ⟨[.mem, .logs, .can, .dma, .tenants], logEnts ++ [ent1 Ent.CanCo.NMT, ent1 Ent.CanSt.COUNTER_SAT, ent1
  Ent.CanSt.TX_DISCARDED, ent1 Ent.Co.CONSUMER_HB, ent1 Ent.Co.RPDO_CHANNEL, ent1 Ent.Co.RPDO_COB, ent1 Ent.Co.RPDO_EVENT_TIMER, ent1
  Ent.Co.RPDO_INHIBIT, ent1 Ent.Co.RPDO_MAP_COUNT, ent1 Ent.Co.RPDO_SLOT, ent1 Ent.Co.RPDO_TYPE, ent1 Ent.Co.SDO_RX_COB, ent1 Ent.Co.SDO_TX_COB, ent1
  Ent.Co.TPDO_CHANNEL, ent1 Ent.Co.TPDO_COB, ent1 Ent.Co.TPDO_EVENT_TIMER, ent1 Ent.Co.TPDO_INHIBIT, ent1 Ent.Co.TPDO_MAP_COUNT, ent1
  Ent.Co.TPDO_SLOT, ent1 Ent.Co.TPDO_TYPE, ent2 Ent.Co.RPDO_MAP, ent2 Ent.Co.TPDO_MAP], [word1 Rg.Hpg.RING_HEAD]⟩

/-- What `sdoRequest` may change. -/
def Foot.sdoRequest : Foot := ⟨[.mem, .logs, .d0, .can, .dma, .tenants], logEnts ++ [ent1 Ent.CanCo.SDO_LAST_STATUS, ent1 Ent.CanSt.COUNTER_SAT, ent1
  Ent.CanSt.TX_DISCARDED], [word1 Rg.Hpg.RING_HEAD]⟩

/-- What `sdoTimeout` may change. -/
def Foot.sdoTimeout : Foot := ⟨[.mem, .logs, .can, .dma, .tenants], logEnts ++ [ent1 Ent.CanCo.SDO_LAST_STATUS, ent1 Ent.CanSt.COUNTER_SAT, ent1
  Ent.CanSt.TX_DISCARDED], [word1 Rg.Hpg.RING_HEAD]⟩

/-- What `heartbeatProduce` may change. -/
def Foot.heartbeatProduce : Foot := ⟨[.mem, .logs, .can, .dma, .tenants], logEnts ++ [ent1 Ent.CanSt.COUNTER_SAT, ent1 Ent.CanSt.TX_DISCARDED], [word1
  Rg.Hpg.RING_HEAD]⟩

/-- What `hbLost` may change. -/
def Foot.hbLost : Foot := ⟨[.mem, .logs, .dma, .tenants], logEnts ++ [ent1 Ent.Hall.COUNTER_SAT], [word1 Rg.Hpg.RING_EN, word1 Rg.Hpg.RING_HEAD]⟩

/-- What `tpdoEventTimer` may change. -/
def Foot.tpdoEventTimer : Foot := ⟨[.mem, .logs, .can, .dma, .tenants], logEnts ++ [ent1 Ent.CanSt.COUNTER_SAT, ent1 Ent.CanSt.TX_DISCARDED, ent1
  Ent.Stn.COUNTER_SAT, ent1 Ent.Stn.TX_FRAMES, ent1 Ent.Stn.TX_HELD], [word1 Rg.Hpg.RING_HEAD]⟩

/-- What `keepaliveReceive` may change. -/
def Foot.keepaliveReceive : Foot := ⟨[.mem, .free, .logs, .limits, .drains, .time, .sw, .can, .sleep, .br, .dma, .tenants, .clk, .harts, .twin],
  logEnts ++ [ent0 Ent.Clk.SSC_ACTIVE, ent0 Ent.Slp.ABORTS, ent0 Ent.Slp.COUNTER_SAT, ent0 Ent.Slp.ENTRY, ent0 Ent.Slp.POWER_REQ, ent0
  Ent.Stw.COUNTER_SAT, ent0 Ent.Stw.STW_ECC_DROPS, ent1 Ent.Adc.STATE, ent1 Ent.Bctx.COUNTER_SAT, ent1 Ent.Bctx.FAILURES, ent1 Ent.Bctx.POSTED, ent1
  Ent.Bctx.READS, ent1 Ent.Bctx.RETRANSMITS, ent1 Ent.Bctx.SESSION, ent1 Ent.Bctx.STATE, ent1 Ent.Bctx.TIMEOUTS, ent1 Ent.CanSt.COUNTER_SAT, ent1
  Ent.CanSt.STATE, ent1 Ent.CanSt.TX_DISCARDED, ent1 Ent.Dma.STATE, ent1 Ent.Dom.SOURCE, ent1 Ent.Hall.COUNTER_SAT, ent1 Ent.Hall.FROZEN_DROPS, ent1
  Ent.Heng.COUNTER_SAT, ent1 Ent.Heng.NO_QP, ent1 Ent.Heng.STATE, ent1 Ent.Port.EGRESS_FILTERED, ent1 Ent.Port.PORT_SAT, ent1 Ent.Port.STATE, ent1
  Ent.Pq.CT_ABORTED, ent1 Ent.Pq.NO_DESC, ent1 Ent.Pq.OVERSIZE, ent1 Ent.Pq.PORT_SAT, ent1 Ent.Pq.Q_SAT, ent1 Ent.Qp.STATE, ent1 Ent.Wsrc.COUNTER_SAT,
  ent1 Ent.Wsrc.FILTER_CUR, ent1 Ent.Wsrc.FW_COUNT, ent1 Ent.Wsrc.QUARANTINED, ent1 Ent.Wsrc.WAKES, ent2 Ent.Pq.DROP_DISABLED, ent2 Ent.Pq.DROP_DOWN,
  ent2 Ent.Pq.DROP_FULL, ent2 Ent.Pq.DROP_RESIDENCE, ent2 Ent.Pq.DROP_STW, ent2 Ent.Pq.Q_STATE], [word0 Rg.Slpr.FW_PENDING, word1 Rg.Ch.TEC, word1
  Rg.Dmar.ACTIVE, word1 Rg.Hpg.RING_EN, word1 Rg.Hpg.RING_HEAD, word1 Rg.Plat.SYS_IRQ, word2 Rg.Ctx.BST_ADDR_HI, word2 Rg.Ctx.BST_ADDR_LO, word2
  Rg.Ctx.FAILED, word2 Rg.Ctx.FAR_CODE, word2 Rg.Ctx.IRQ, word2 Rg.Ctx.SESSION, word2 Rg.Ep.MERGED, word2 fun u k => rmb u k Rg.Mb.CODE, word2 fun u k
  => rmb u k Rg.Mb.GO, word2 fun u k => rmb u k Rg.Mb.MB_LEN, word2 fun u k => rmb u k Rg.Mb.MB_TOTAL, word3 fun u k i => rmb u k fun n =>
  Rg.Mb.MB_DATA n i]⟩

/-- What `keepaliveSend` may change. -/
def Foot.keepaliveSend : Foot := ⟨[.mem, .logs, .sw, .can, .sleep, .dma, .tenants], logEnts ++ [ent0 Ent.Stw.COUNTER_SAT, ent0 Ent.Stw.STW_ECC_DROPS,
  ent1 Ent.CanSt.COUNTER_SAT, ent1 Ent.CanSt.TX_DISCARDED, ent1 Ent.Hall.COUNTER_SAT, ent1 Ent.Hall.FROZEN_DROPS, ent1 Ent.Heng.COUNTER_SAT, ent1
  Ent.Heng.NO_QP, ent1 Ent.Port.EGRESS_FILTERED, ent1 Ent.Port.PORT_SAT, ent1 Ent.Pq.CT_ABORTED, ent1 Ent.Pq.NO_DESC, ent1 Ent.Pq.OVERSIZE, ent1
  Ent.Pq.PORT_SAT, ent1 Ent.Pq.Q_SAT, ent2 Ent.Pq.DROP_DISABLED, ent2 Ent.Pq.DROP_DOWN, ent2 Ent.Pq.DROP_FULL, ent2 Ent.Pq.DROP_RESIDENCE, ent2
  Ent.Pq.DROP_STW], [word1 Rg.Hpg.RING_HEAD]⟩

/-- What `quietTimeout` may change. -/
def Foot.quietTimeout : Foot := ⟨[.mem, .logs, .sw, .can, .sleep, .dma, .tenants], logEnts ++ [ent0 Ent.Stw.COUNTER_SAT, ent0 Ent.Stw.STW_ECC_DROPS,
  ent1 Ent.CanSt.COUNTER_SAT, ent1 Ent.CanSt.TX_DISCARDED, ent1 Ent.Hall.COUNTER_SAT, ent1 Ent.Hall.FROZEN_DROPS, ent1 Ent.Heng.COUNTER_SAT, ent1
  Ent.Heng.NO_QP, ent1 Ent.Port.EGRESS_FILTERED, ent1 Ent.Port.PORT_SAT, ent1 Ent.Pq.CT_ABORTED, ent1 Ent.Pq.NO_DESC, ent1 Ent.Pq.OVERSIZE, ent1
  Ent.Pq.PORT_SAT, ent1 Ent.Pq.Q_SAT, ent2 Ent.Pq.DROP_DISABLED, ent2 Ent.Pq.DROP_DOWN, ent2 Ent.Pq.DROP_FULL, ent2 Ent.Pq.DROP_RESIDENCE, ent2
  Ent.Pq.DROP_STW], [word1 Rg.Hpg.RING_HEAD]⟩

/-- What `waitTimeout` may change. -/
def Foot.waitTimeout : Foot := ⟨[.mem, .logs, .sw, .can, .sleep, .dma, .tenants], logEnts ++ [ent0 Ent.Stw.COUNTER_SAT, ent0 Ent.Stw.STW_ECC_DROPS,
  ent1 Ent.CanSt.COUNTER_SAT, ent1 Ent.CanSt.TX_DISCARDED, ent1 Ent.Hall.COUNTER_SAT, ent1 Ent.Hall.FROZEN_DROPS, ent1 Ent.Heng.COUNTER_SAT, ent1
  Ent.Heng.NO_QP, ent1 Ent.Port.EGRESS_FILTERED, ent1 Ent.Port.PORT_SAT, ent1 Ent.Pq.CT_ABORTED, ent1 Ent.Pq.NO_DESC, ent1 Ent.Pq.OVERSIZE, ent1
  Ent.Pq.PORT_SAT, ent1 Ent.Pq.Q_SAT, ent2 Ent.Pq.DROP_DISABLED, ent2 Ent.Pq.DROP_DOWN, ent2 Ent.Pq.DROP_FULL, ent2 Ent.Pq.DROP_RESIDENCE, ent2
  Ent.Pq.DROP_STW], [word1 Rg.Hpg.RING_HEAD]⟩

/-- What `domReqWrite` may change. -/
def Foot.domReqWrite : Foot := ⟨[.mem, .logs, .sw, .can, .sleep, .dma, .tenants], logEnts ++ [ent0 Ent.Stw.COUNTER_SAT, ent0 Ent.Stw.STW_ECC_DROPS,
  ent1 Ent.CanSt.COUNTER_SAT, ent1 Ent.CanSt.TX_DISCARDED, ent1 Ent.Hall.COUNTER_SAT, ent1 Ent.Hall.FROZEN_DROPS, ent1 Ent.Heng.COUNTER_SAT, ent1
  Ent.Heng.NO_QP, ent1 Ent.Port.EGRESS_FILTERED, ent1 Ent.Port.PORT_SAT, ent1 Ent.Pq.CT_ABORTED, ent1 Ent.Pq.NO_DESC, ent1 Ent.Pq.OVERSIZE, ent1
  Ent.Pq.PORT_SAT, ent1 Ent.Pq.Q_SAT, ent2 Ent.Pq.DROP_DISABLED, ent2 Ent.Pq.DROP_DOWN, ent2 Ent.Pq.DROP_FULL, ent2 Ent.Pq.DROP_RESIDENCE, ent2
  Ent.Pq.DROP_STW], [word0 Rg.Slpr.DOM_REQ, word1 Rg.Hpg.RING_HEAD]⟩

/-- What `powerReqStandby` may change. -/
def Foot.powerReqStandby : Foot := ⟨[.mem, .logs, .d0, .sw, .can, .power, .br, .dma, .tenants, .twin], logEnts ++ [ent0 Ent.Slp.ENTRY, ent0
  Ent.Slp.POWER_REQ, ent0 Ent.Stw.COUNTER_SAT, ent0 Ent.Stw.STW_ECC_DROPS, ent1 Ent.CanCo.SDO_LAST_STATUS, ent1 Ent.CanSt.COUNTER_SAT, ent1
  Ent.CanSt.TX_DISCARDED, ent1 Ent.Hall.COUNTER_SAT, ent1 Ent.Hall.FROZEN_DROPS, ent1 Ent.Heng.COUNTER_SAT, ent1 Ent.Heng.NO_QP, ent1
  Ent.Port.EGRESS_FILTERED, ent1 Ent.Port.PORT_SAT, ent1 Ent.Port.TX_BYTES, ent1 Ent.Port.TX_FRAMES, ent1 Ent.Pq.CT_ABORTED, ent1 Ent.Pq.NO_DESC, ent1
  Ent.Pq.OVERSIZE, ent1 Ent.Pq.PORT_SAT, ent1 Ent.Pq.Q_SAT, ent2 Ent.Pq.DROP_DISABLED, ent2 Ent.Pq.DROP_DOWN, ent2 Ent.Pq.DROP_FULL, ent2
  Ent.Pq.DROP_RESIDENCE, ent2 Ent.Pq.DROP_STW], [word0 Rg.Smb.DONE, word0 Rg.Smb.MB_LEN, word0 Rg.Smb.MB_TOTAL, word1 Rg.Hpg.RING_HEAD, word1
  Rg.Mb.DONE, word1 Rg.Mb.MB_LEN, word1 Rg.Mb.MB_TOTAL, word1 Rg.Smb.MB_DATA, word2 Rg.Mb.MB_DATA]⟩

/-- What `powerReqSleep` may change. -/
def Foot.powerReqSleep : Foot := ⟨[.mem, .logs, .d0, .sw, .can, .power, .br, .dma, .tenants, .twin], logEnts ++ [ent0 Ent.Slp.ENTRY, ent0
  Ent.Slp.POWER_REQ, ent0 Ent.Stw.COUNTER_SAT, ent0 Ent.Stw.STW_ECC_DROPS, ent1 Ent.CanCo.SDO_LAST_STATUS, ent1 Ent.CanSt.COUNTER_SAT, ent1
  Ent.CanSt.TX_DISCARDED, ent1 Ent.Hall.COUNTER_SAT, ent1 Ent.Hall.FROZEN_DROPS, ent1 Ent.Heng.COUNTER_SAT, ent1 Ent.Heng.NO_QP, ent1
  Ent.Port.EGRESS_FILTERED, ent1 Ent.Port.PORT_SAT, ent1 Ent.Port.TX_BYTES, ent1 Ent.Port.TX_FRAMES, ent1 Ent.Pq.CT_ABORTED, ent1 Ent.Pq.NO_DESC, ent1
  Ent.Pq.OVERSIZE, ent1 Ent.Pq.PORT_SAT, ent1 Ent.Pq.Q_SAT, ent2 Ent.Pq.DROP_DISABLED, ent2 Ent.Pq.DROP_DOWN, ent2 Ent.Pq.DROP_FULL, ent2
  Ent.Pq.DROP_RESIDENCE, ent2 Ent.Pq.DROP_STW], [word0 Rg.Smb.DONE, word0 Rg.Smb.MB_LEN, word0 Rg.Smb.MB_TOTAL, word1 Rg.Hpg.RING_HEAD, word1
  Rg.Mb.DONE, word1 Rg.Mb.MB_LEN, word1 Rg.Mb.MB_TOTAL, word1 Rg.Smb.MB_DATA, word2 Rg.Mb.MB_DATA]⟩

/-- What `powerReqCancel` may change. -/
def Foot.powerReqCancel : Foot := ⟨[.mem, .free, .logs, .limits, .drains, .time, .d0, .sw, .can, .sleep, .power, .br, .dma, .tenants, .clk, .harts,
  .twin], logEnts ++ [ent0 Ent.Clk.SSC_ACTIVE, ent0 Ent.Slp.ABORTS, ent0 Ent.Slp.COUNTER_SAT, ent0 Ent.Slp.ENTRY, ent0 Ent.Slp.POWER_REQ, ent0
  Ent.Stw.COUNTER_SAT, ent0 Ent.Stw.STW_ECC_DROPS, ent1 Ent.Adc.STATE, ent1 Ent.Bctx.COUNTER_SAT, ent1 Ent.Bctx.FAILURES, ent1 Ent.Bctx.POSTED, ent1
  Ent.Bctx.READS, ent1 Ent.Bctx.RETRANSMITS, ent1 Ent.Bctx.SESSION, ent1 Ent.Bctx.STATE, ent1 Ent.Bctx.TIMEOUTS, ent1 Ent.CanCo.SDO_LAST_STATUS, ent1
  Ent.CanSt.COUNTER_SAT, ent1 Ent.CanSt.STATE, ent1 Ent.CanSt.TX_DISCARDED, ent1 Ent.Dma.STATE, ent1 Ent.Dom.SOURCE, ent1 Ent.Hall.COUNTER_SAT, ent1
  Ent.Hall.FROZEN_DROPS, ent1 Ent.Heng.COUNTER_SAT, ent1 Ent.Heng.NO_QP, ent1 Ent.Heng.STATE, ent1 Ent.Port.EGRESS_FILTERED, ent1 Ent.Port.PORT_SAT,
  ent1 Ent.Port.STATE, ent1 Ent.Port.TX_BYTES, ent1 Ent.Port.TX_FRAMES, ent1 Ent.Pq.CT_ABORTED, ent1 Ent.Pq.NO_DESC, ent1 Ent.Pq.OVERSIZE, ent1
  Ent.Pq.PORT_SAT, ent1 Ent.Pq.Q_SAT, ent1 Ent.Qp.STATE, ent1 Ent.Wsrc.COUNTER_SAT, ent1 Ent.Wsrc.WAKES, ent2 Ent.Pq.DROP_DISABLED, ent2
  Ent.Pq.DROP_DOWN, ent2 Ent.Pq.DROP_FULL, ent2 Ent.Pq.DROP_RESIDENCE, ent2 Ent.Pq.DROP_STW, ent2 Ent.Pq.Q_STATE], [word0 Rg.Slpr.FW_PENDING, word0
  Rg.Smb.DONE, word0 Rg.Smb.MB_LEN, word0 Rg.Smb.MB_TOTAL, word1 Rg.Ch.TEC, word1 Rg.Dmar.ACTIVE, word1 Rg.Hpg.RING_EN, word1 Rg.Hpg.RING_HEAD, word1
  Rg.Mb.DONE, word1 Rg.Mb.MB_LEN, word1 Rg.Mb.MB_TOTAL, word1 Rg.Plat.SYS_IRQ, word1 Rg.Smb.MB_DATA, word2 Rg.Ctx.BST_ADDR_HI, word2
  Rg.Ctx.BST_ADDR_LO, word2 Rg.Ctx.FAILED, word2 Rg.Ctx.FAR_CODE, word2 Rg.Ctx.IRQ, word2 Rg.Ctx.SESSION, word2 Rg.Ep.MERGED, word2 Rg.Mb.MB_DATA,
  word2 fun u k => rmb u k Rg.Mb.CODE, word2 fun u k => rmb u k Rg.Mb.GO, word2 fun u k => rmb u k Rg.Mb.MB_LEN, word2 fun u k => rmb u k
  Rg.Mb.MB_TOTAL, word3 fun u k i => rmb u k fun n => Rg.Mb.MB_DATA n i]⟩

/-- What `sleepEntry` may change. -/
def Foot.sleepEntry : Foot := ⟨[.mem, .free, .logs, .limits, .drains, .d0, .sw, .can, .sleep, .power, .br, .load, .adc, .scan, .dma, .tenants, .harts,
  .twin], logEnts ++ [ent0 Ent.Slp.ENTRY, ent0 Ent.Stw.COUNTER_SAT, ent0 Ent.Stw.STW_ECC_DROPS, ent0 Ent.Tws.PATHS, ent0 Ent.Tws.ROLE, ent1
  Ent.Adc.STATE, ent1 Ent.Bctx.COUNTER_SAT, ent1 Ent.Bctx.FAILURES, ent1 Ent.Bctx.POSTED, ent1 Ent.Bctx.READS, ent1 Ent.Bctx.RETRANSMITS, ent1
  Ent.Bctx.SESSION, ent1 Ent.Bctx.STATE, ent1 Ent.Bctx.TIMEOUTS, ent1 Ent.CanCo.SDO_LAST_STATUS, ent1 Ent.CanSt.COUNTER_SAT, ent1 Ent.CanSt.STATE,
  ent1 Ent.CanSt.TX_DISCARDED, ent1 Ent.Dma.BYTES, ent1 Ent.Dma.COUNTER_SAT, ent1 Ent.Dma.DESCRIPTORS, ent1 Ent.Dma.ERRORS, ent1 Ent.Dma.STALE, ent1
  Ent.Dma.STATE, ent1 Ent.Hall.CMD_STATUS, ent1 Ent.Hall.COUNTER_SAT, ent1 Ent.Hall.FROZEN_DROPS, ent1 Ent.Hall.STATE, ent1 Ent.Heng.COUNTER_SAT, ent1
  Ent.Heng.NO_QP, ent1 Ent.Heng.STATE, ent1 Ent.Lc.CMD, ent1 Ent.Lc.FLAGS, ent1 Ent.Lc.RETRIES_LEFT, ent1 Ent.Lc.STATE, ent1 Ent.Port.EGRESS_FILTERED,
  ent1 Ent.Port.LINK_DOWNS, ent1 Ent.Port.PORT_SAT, ent1 Ent.Port.STATE, ent1 Ent.Port.TX_BYTES, ent1 Ent.Port.TX_FRAMES, ent1 Ent.Pq.COPIES_DROPPED,
  ent1 Ent.Pq.CT_ABORTED, ent1 Ent.Pq.NO_DESC, ent1 Ent.Pq.OVERSIZE, ent1 Ent.Pq.PORT_SAT, ent1 Ent.Pq.Q_SAT, ent1 Ent.Qp.COUNTER_SAT, ent1
  Ent.Qp.ERR_LOST, ent1 Ent.Qp.STATE, ent1 Ent.Qp.TX_ERRORS, ent1 Ent.Qp.TX_FRAMES, ent1 Ent.Stn.COUNTER_SAT, ent1 Ent.Stn.LOSSES, ent1 Ent.Stn.STATE,
  ent1 Ent.Wsrc.COUNTER_SAT, ent1 Ent.Wsrc.FALSE_WAKES, ent1 Ent.Wsrc.FILTER_CUR, ent1 Ent.Wsrc.FW_COUNT, ent1 Ent.Wsrc.QUARANTINED, ent2
  Ent.Pq.DROP_DISABLED, ent2 Ent.Pq.DROP_DOWN, ent2 Ent.Pq.DROP_FULL, ent2 Ent.Pq.DROP_RESIDENCE, ent2 Ent.Pq.DROP_STW, ent2 Ent.Pq.Q_STATE], [word0
  Rg.Slpr.FW_PENDING, word0 Rg.Smb.DONE, word0 Rg.Smb.MB_LEN, word0 Rg.Smb.MB_TOTAL, word1 Rg.Adcr.BUSY, word1 Rg.Ch.IRQ, word1 Rg.Dmar.ACTIVE, word1
  Rg.Dmar.HEAD, word1 Rg.Dmar.IRQ, word1 Rg.Hpg.RING_EN, word1 Rg.Hpg.RING_HEAD, word1 Rg.Mb.DONE, word1 Rg.Mb.MB_LEN, word1 Rg.Mb.MB_TOTAL, word1
  Rg.Plat.SYS_IRQ, word1 Rg.Qpr.ERR_HEAD, word1 Rg.Qpr.IRQ, word1 Rg.Qpr.TX_HEAD, word1 Rg.Smb.MB_DATA, word2 Rg.Ctx.BST_ADDR_HI, word2
  Rg.Ctx.BST_ADDR_LO, word2 Rg.Ctx.FAILED, word2 Rg.Ctx.FAR_CODE, word2 Rg.Ctx.IRQ, word2 Rg.Ctx.PW_DONE, word2 Rg.Ctx.SESSION, word2 Rg.Ep.MERGED,
  word2 Rg.Mb.MB_DATA, word2 Rg.Txb.CODE, word2 fun u k => rmb u k Rg.Mb.CODE, word2 fun u k => rmb u k Rg.Mb.GO, word2 fun u k => rmb u k
  Rg.Mb.MB_LEN, word2 fun u k => rmb u k Rg.Mb.MB_TOTAL, word3 fun u k i => rmb u k fun n => Rg.Mb.MB_DATA n i]⟩

/-- What `sleepArm` may change. -/
def Foot.sleepArm : Foot := ⟨[.mem, .logs, .time, .sleep, .dma, .tenants, .clk, .sto], logEnts ++ [ent0 Ent.Clk.SSC_ACTIVE, ent0 Ent.Evl.EVENT_FIRST,
  ent0 Ent.Evl.EVENT_NEXT, ent0 Ent.Slp.ENTRY, ent1 Ent.Dom.SOURCE], [word1 Rg.Hpg.RING_HEAD, word1 Rg.Plat.SYS_IRQ]⟩

/-- What `sleepCommit` may change. -/
def Foot.sleepCommit : Foot := ⟨[.mem, .logs, .time, .power, .dma, .tenants], logEnts ++ [ent0 Ent.Pwr.VIO_STATUS, ent0 Ent.Slp.COUNTER_SAT, ent0
  Ent.Slp.SLEEPS, ent0 Ent.Slp.WAKE_RECORD], [word1 Rg.Hpg.RING_HEAD]⟩

/-- What `wakePattern` may change. -/
def Foot.wakePattern : Foot := ⟨[.dict, .blobs, .regs, .mem, .epochs, .free, .logs, .limits, .ctrLatch, .ctrStage, .drains, .supply, .time, .d0, .sw,
  .can, .sleep, .power, .br, .load, .adc, .scan, .dma, .tenants, .mezz, .clk, .sto, .upd, .held, .harts, .twin], [], []⟩

/-- What `wakeFrame` may change. -/
def Foot.wakeFrame : Foot := ⟨[.dict, .blobs, .regs, .mem, .epochs, .free, .logs, .limits, .ctrLatch, .ctrStage, .drains, .supply, .time, .d0, .sw,
  .can, .sleep, .power, .br, .load, .adc, .scan, .dma, .tenants, .mezz, .clk, .sto, .upd, .held, .harts, .twin], [], []⟩

/-- What `wakePin` may change. -/
def Foot.wakePin : Foot := ⟨[.dict, .blobs, .regs, .mem, .epochs, .free, .logs, .limits, .ctrLatch, .ctrStage, .drains, .supply, .time, .d0, .sw,
  .can, .sleep, .power, .br, .load, .adc, .scan, .dma, .tenants, .mezz, .clk, .sto, .upd, .held, .harts, .twin], [], []⟩

/-- What `wakeReq` may change. -/
def Foot.wakeReq : Foot := ⟨[.dict, .blobs, .regs, .mem, .epochs, .free, .logs, .limits, .ctrLatch, .ctrStage, .drains, .supply, .time, .d0, .sw,
  .can, .sleep, .power, .br, .load, .adc, .scan, .dma, .tenants, .mezz, .clk, .sto, .upd, .held, .harts, .twin], [], []⟩

/-- What `watchWake` may change. -/
def Foot.watchWake : Foot := ⟨[.dict, .blobs, .regs, .mem, .epochs, .free, .logs, .limits, .ctrLatch, .ctrStage, .drains, .supply, .time, .d0, .sw,
  .can, .sleep, .power, .br, .load, .adc, .scan, .dma, .tenants, .mezz, .clk, .sto, .upd, .held, .harts, .twin], [], []⟩

/-- What `wakeConfirm` may change. -/
def Foot.wakeConfirm : Foot := ⟨[.mem, .logs, .sleep, .dma, .tenants], logEnts ++ [ent1 Ent.Wsrc.FILTER_CUR, ent1 Ent.Wsrc.FW_COUNT, ent1
  Ent.Wsrc.QUARANTINED], [word0 Rg.Slpr.FW_PENDING, word1 Rg.Hpg.RING_HEAD, word1 Rg.Plat.SYS_IRQ]⟩

/-- What `falseWake` may change. -/
def Foot.falseWake : Foot := ⟨[.mem, .logs, .sleep, .dma, .tenants], logEnts ++ [ent1 Ent.Wsrc.COUNTER_SAT, ent1 Ent.Wsrc.FALSE_WAKES, ent1
  Ent.Wsrc.FILTER_CUR, ent1 Ent.Wsrc.FW_COUNT, ent1 Ent.Wsrc.QUARANTINED], [word0 Rg.Slpr.FW_PENDING, word1 Rg.Hpg.RING_HEAD, word1 Rg.Plat.SYS_IRQ]⟩

/-- What `fwCountClear` may change. -/
def Foot.fwCountClear : Foot := ⟨[.mem, .logs, .d0, .sw, .can, .sleep, .power, .br, .dma, .tenants, .twin], logEnts ++ [ent0 Ent.Stw.COUNTER_SAT, ent0
  Ent.Stw.STW_ECC_DROPS, ent1 Ent.CanCo.SDO_LAST_STATUS, ent1 Ent.CanSt.COUNTER_SAT, ent1 Ent.CanSt.TX_DISCARDED, ent1 Ent.Hall.COUNTER_SAT, ent1
  Ent.Hall.FROZEN_DROPS, ent1 Ent.Heng.COUNTER_SAT, ent1 Ent.Heng.NO_QP, ent1 Ent.Port.EGRESS_FILTERED, ent1 Ent.Port.PORT_SAT, ent1
  Ent.Port.TX_BYTES, ent1 Ent.Port.TX_FRAMES, ent1 Ent.Pq.CT_ABORTED, ent1 Ent.Pq.NO_DESC, ent1 Ent.Pq.OVERSIZE, ent1 Ent.Pq.PORT_SAT, ent1
  Ent.Pq.Q_SAT, ent1 Ent.Wsrc.FILTER_CUR, ent1 Ent.Wsrc.FW_COUNT, ent1 Ent.Wsrc.QUARANTINED, ent2 Ent.Pq.DROP_DISABLED, ent2 Ent.Pq.DROP_DOWN, ent2
  Ent.Pq.DROP_FULL, ent2 Ent.Pq.DROP_RESIDENCE, ent2 Ent.Pq.DROP_STW], [word0 Rg.Smb.DONE, word0 Rg.Smb.MB_LEN, word0 Rg.Smb.MB_TOTAL, word1
  Rg.Hpg.RING_HEAD, word1 Rg.Mb.DONE, word1 Rg.Mb.MB_LEN, word1 Rg.Mb.MB_TOTAL, word1 Rg.Plat.SYS_IRQ, word1 Rg.Smb.MB_DATA, word2 Rg.Mb.MB_DATA]⟩

/-- What `trxCmdNormal` may change. -/
def Foot.trxCmdNormal : Foot := ⟨[.mem, .free, .logs, .limits, .drains, .time, .sw, .can, .sleep, .br, .dma, .tenants, .clk, .harts, .twin], logEnts
  ++ [ent0 Ent.Clk.SSC_ACTIVE, ent0 Ent.Slp.ABORTS, ent0 Ent.Slp.COUNTER_SAT, ent0 Ent.Slp.ENTRY, ent0 Ent.Slp.POWER_REQ, ent0 Ent.Stw.COUNTER_SAT,
  ent0 Ent.Stw.STW_ECC_DROPS, ent1 Ent.Adc.STATE, ent1 Ent.Bctx.COUNTER_SAT, ent1 Ent.Bctx.FAILURES, ent1 Ent.Bctx.POSTED, ent1 Ent.Bctx.READS, ent1
  Ent.Bctx.RETRANSMITS, ent1 Ent.Bctx.SESSION, ent1 Ent.Bctx.STATE, ent1 Ent.Bctx.TIMEOUTS, ent1 Ent.CanSt.COUNTER_SAT, ent1 Ent.CanSt.STATE, ent1
  Ent.CanSt.TX_DISCARDED, ent1 Ent.Dma.STATE, ent1 Ent.Dom.SOURCE, ent1 Ent.Hall.COUNTER_SAT, ent1 Ent.Hall.FROZEN_DROPS, ent1 Ent.Heng.COUNTER_SAT,
  ent1 Ent.Heng.NO_QP, ent1 Ent.Heng.STATE, ent1 Ent.Port.EGRESS_FILTERED, ent1 Ent.Port.PORT_SAT, ent1 Ent.Port.STATE, ent1 Ent.Pq.CT_ABORTED, ent1
  Ent.Pq.NO_DESC, ent1 Ent.Pq.OVERSIZE, ent1 Ent.Pq.PORT_SAT, ent1 Ent.Pq.Q_SAT, ent1 Ent.Qp.STATE, ent1 Ent.Wsrc.COUNTER_SAT, ent1 Ent.Wsrc.WAKES,
  ent2 Ent.Pq.DROP_DISABLED, ent2 Ent.Pq.DROP_DOWN, ent2 Ent.Pq.DROP_FULL, ent2 Ent.Pq.DROP_RESIDENCE, ent2 Ent.Pq.DROP_STW, ent2 Ent.Pq.Q_STATE],
  [word0 Rg.Slpr.FW_PENDING, word1 Rg.Ch.TEC, word1 Rg.Dmar.ACTIVE, word1 Rg.Hpg.RING_EN, word1 Rg.Hpg.RING_HEAD, word1 Rg.Plat.SYS_IRQ, word2
  Rg.Ctx.BST_ADDR_HI, word2 Rg.Ctx.BST_ADDR_LO, word2 Rg.Ctx.FAILED, word2 Rg.Ctx.FAR_CODE, word2 Rg.Ctx.IRQ, word2 Rg.Ctx.SESSION, word2
  Rg.Ep.MERGED, word2 fun u k => rmb u k Rg.Mb.CODE, word2 fun u k => rmb u k Rg.Mb.GO, word2 fun u k => rmb u k Rg.Mb.MB_LEN, word2 fun u k => rmb u
  k Rg.Mb.MB_TOTAL, word3 fun u k i => rmb u k fun n => Rg.Mb.MB_DATA n i]⟩

/-- What `trxCmdRxOnly` may change. -/
def Foot.trxCmdRxOnly : Foot := ⟨[.mem, .free, .logs, .limits, .drains, .time, .sw, .can, .sleep, .br, .dma, .tenants, .clk, .harts, .twin], logEnts
  ++ [ent0 Ent.Clk.SSC_ACTIVE, ent0 Ent.Slp.ABORTS, ent0 Ent.Slp.COUNTER_SAT, ent0 Ent.Slp.ENTRY, ent0 Ent.Slp.POWER_REQ, ent0 Ent.Stw.COUNTER_SAT,
  ent0 Ent.Stw.STW_ECC_DROPS, ent1 Ent.Adc.STATE, ent1 Ent.Bctx.COUNTER_SAT, ent1 Ent.Bctx.FAILURES, ent1 Ent.Bctx.POSTED, ent1 Ent.Bctx.READS, ent1
  Ent.Bctx.RETRANSMITS, ent1 Ent.Bctx.SESSION, ent1 Ent.Bctx.STATE, ent1 Ent.Bctx.TIMEOUTS, ent1 Ent.CanSt.COUNTER_SAT, ent1 Ent.CanSt.STATE, ent1
  Ent.CanSt.TX_DISCARDED, ent1 Ent.Dma.STATE, ent1 Ent.Dom.SOURCE, ent1 Ent.Hall.COUNTER_SAT, ent1 Ent.Hall.FROZEN_DROPS, ent1 Ent.Heng.COUNTER_SAT,
  ent1 Ent.Heng.NO_QP, ent1 Ent.Heng.STATE, ent1 Ent.Port.EGRESS_FILTERED, ent1 Ent.Port.PORT_SAT, ent1 Ent.Port.STATE, ent1 Ent.Pq.CT_ABORTED, ent1
  Ent.Pq.NO_DESC, ent1 Ent.Pq.OVERSIZE, ent1 Ent.Pq.PORT_SAT, ent1 Ent.Pq.Q_SAT, ent1 Ent.Qp.STATE, ent1 Ent.Wsrc.COUNTER_SAT, ent1 Ent.Wsrc.WAKES,
  ent2 Ent.Pq.DROP_DISABLED, ent2 Ent.Pq.DROP_DOWN, ent2 Ent.Pq.DROP_FULL, ent2 Ent.Pq.DROP_RESIDENCE, ent2 Ent.Pq.DROP_STW, ent2 Ent.Pq.Q_STATE],
  [word0 Rg.Slpr.FW_PENDING, word1 Rg.Ch.TEC, word1 Rg.Dmar.ACTIVE, word1 Rg.Hpg.RING_EN, word1 Rg.Hpg.RING_HEAD, word1 Rg.Plat.SYS_IRQ, word2
  Rg.Ctx.BST_ADDR_HI, word2 Rg.Ctx.BST_ADDR_LO, word2 Rg.Ctx.FAILED, word2 Rg.Ctx.FAR_CODE, word2 Rg.Ctx.IRQ, word2 Rg.Ctx.SESSION, word2
  Rg.Ep.MERGED, word2 fun u k => rmb u k Rg.Mb.CODE, word2 fun u k => rmb u k Rg.Mb.GO, word2 fun u k => rmb u k Rg.Mb.MB_LEN, word2 fun u k => rmb u
  k Rg.Mb.MB_TOTAL, word3 fun u k i => rmb u k fun n => Rg.Mb.MB_DATA n i]⟩

/-- What `trxCmdStandby` may change. -/
def Foot.trxCmdStandby : Foot := ⟨[.sleep], [ent0 Ent.Slp.ENTRY], []⟩

/-- What `trxCmdGoToSleep` may change. -/
def Foot.trxCmdGoToSleep : Foot := ⟨[.sleep], [ent0 Ent.Slp.ENTRY], []⟩

/-- What `goToSleepTimeout` may change. -/
def Foot.goToSleepTimeout : Foot := ⟨[.sleep], [ent0 Ent.Slp.ENTRY], []⟩

/-- What `bridgeWindowRead` may change. -/
def Foot.bridgeWindowRead : Foot := ⟨[.mem, .free, .logs, .limits, .br, .dma, .tenants, .harts, .twin], logEnts ++ [ent1 Ent.Bctx.COUNTER_SAT, ent1
  Ent.Bctx.FAILURES, ent1 Ent.Bctx.POSTED, ent1 Ent.Bctx.READS, ent1 Ent.Bctx.RETRANSMITS, ent1 Ent.Bctx.SESSION, ent1 Ent.Bctx.TIMEOUTS, ent1
  Ent.Hall.COUNTER_SAT], [word1 Rg.Hpg.RING_EN, word1 Rg.Hpg.RING_HEAD, word2 Rg.Ctx.BST_ADDR_HI, word2 Rg.Ctx.BST_ADDR_LO, word2 Rg.Ctx.FAILED, word2
  Rg.Ctx.FAR_CODE, word2 Rg.Ctx.IRQ, word2 Rg.Ctx.PW_DONE, word2 Rg.Ctx.PW_SEQ, word2 Rg.Ctx.SESSION, word2 Rg.Ep.MERGED, word2 fun u k => rmb u k
  Rg.Mb.CODE, word2 fun u k => rmb u k Rg.Mb.GO, word2 fun u k => rmb u k Rg.Mb.MB_LEN, word2 fun u k => rmb u k Rg.Mb.MB_TOTAL, word3 fun u k i =>
  rmb u k fun n => Rg.Mb.MB_DATA n i]⟩

/-- What `bridgeWindowPostedWrite` may change. -/
def Foot.bridgeWindowPostedWrite : Foot := ⟨[.mem, .free, .logs, .limits, .br, .dma, .tenants, .harts, .twin], logEnts ++ [ent1 Ent.Bctx.COUNTER_SAT,
  ent1 Ent.Bctx.FAILURES, ent1 Ent.Bctx.POSTED, ent1 Ent.Bctx.READS, ent1 Ent.Bctx.RETRANSMITS, ent1 Ent.Bctx.SESSION, ent1 Ent.Bctx.TIMEOUTS, ent1
  Ent.Hall.COUNTER_SAT], [word1 Rg.Hpg.RING_EN, word1 Rg.Hpg.RING_HEAD, word2 Rg.Ctx.BST_ADDR_HI, word2 Rg.Ctx.BST_ADDR_LO, word2 Rg.Ctx.FAILED, word2
  Rg.Ctx.FAR_CODE, word2 Rg.Ctx.IRQ, word2 Rg.Ctx.PW_DONE, word2 Rg.Ctx.PW_SEQ, word2 Rg.Ctx.SESSION, word2 Rg.Ep.MERGED, word2 fun u k => rmb u k
  Rg.Mb.CODE, word2 fun u k => rmb u k Rg.Mb.GO, word2 fun u k => rmb u k Rg.Mb.MB_LEN, word2 fun u k => rmb u k Rg.Mb.MB_TOTAL, word3 fun u k i =>
  rmb u k fun n => Rg.Mb.MB_DATA n i]⟩

/-- What `bridgeWindowWrite` may change. -/
def Foot.bridgeWindowWrite : Foot := ⟨[.mem, .free, .logs, .limits, .br, .dma, .tenants, .harts, .twin], logEnts ++ [ent1 Ent.Bctx.COUNTER_SAT, ent1
  Ent.Bctx.FAILURES, ent1 Ent.Bctx.POSTED, ent1 Ent.Bctx.READS, ent1 Ent.Bctx.RETRANSMITS, ent1 Ent.Bctx.SESSION, ent1 Ent.Bctx.TIMEOUTS, ent1
  Ent.Hall.COUNTER_SAT], [word1 Rg.Hpg.RING_EN, word1 Rg.Hpg.RING_HEAD, word2 Rg.Ctx.BST_ADDR_HI, word2 Rg.Ctx.BST_ADDR_LO, word2 Rg.Ctx.FAILED, word2
  Rg.Ctx.FAR_CODE, word2 Rg.Ctx.IRQ, word2 Rg.Ctx.PW_DONE, word2 Rg.Ctx.PW_SEQ, word2 Rg.Ctx.SESSION, word2 Rg.Ep.MERGED, word2 fun u k => rmb u k
  Rg.Mb.CODE, word2 fun u k => rmb u k Rg.Mb.GO, word2 fun u k => rmb u k Rg.Mb.MB_LEN, word2 fun u k => rmb u k Rg.Mb.MB_TOTAL, word3 fun u k i =>
  rmb u k fun n => Rg.Mb.MB_DATA n i]⟩

/-- What `bridgeWindowAtomic` may change. -/
def Foot.bridgeWindowAtomic : Foot := ⟨[.mem, .free, .logs, .limits, .br, .dma, .tenants, .harts, .twin], logEnts ++ [ent1 Ent.Bctx.COUNTER_SAT, ent1
  Ent.Bctx.FAILURES, ent1 Ent.Bctx.POSTED, ent1 Ent.Bctx.READS, ent1 Ent.Bctx.RETRANSMITS, ent1 Ent.Bctx.SESSION, ent1 Ent.Bctx.TIMEOUTS, ent1
  Ent.Hall.COUNTER_SAT], [word1 Rg.Hpg.RING_EN, word1 Rg.Hpg.RING_HEAD, word2 Rg.Ctx.BST_ADDR_HI, word2 Rg.Ctx.BST_ADDR_LO, word2 Rg.Ctx.FAILED, word2
  Rg.Ctx.FAR_CODE, word2 Rg.Ctx.IRQ, word2 Rg.Ctx.PW_DONE, word2 Rg.Ctx.PW_SEQ, word2 Rg.Ctx.SESSION, word2 Rg.Ep.MERGED, word2 fun u k => rmb u k
  Rg.Mb.CODE, word2 fun u k => rmb u k Rg.Mb.GO, word2 fun u k => rmb u k Rg.Mb.MB_LEN, word2 fun u k => rmb u k Rg.Mb.MB_TOTAL, word3 fun u k i =>
  rmb u k fun n => Rg.Mb.MB_DATA n i]⟩

/-- What `bridgeConnect` may change. -/
def Foot.bridgeConnect : Foot := ⟨[.mem, .free, .logs, .limits, .br, .dma, .tenants], logEnts ++ [ent1 Ent.Bu.COUNTER_SAT, ent1 Ent.Bu.RX_REJECTED],
  [word1 Rg.Hpg.RING_HEAD]⟩

/-- What `bridgeRead` may change. -/
def Foot.bridgeRead : Foot := ⟨[.dict, .blobs, .regs, .mem, .epochs, .free, .logs, .limits, .drains, .time, .d0, .sw, .can, .sleep, .power, .br,
  .load, .adc, .scan, .dma, .tenants, .mezz, .clk, .held, .harts, .twin], [], []⟩

/-- What `bridgePostedWrite` may change. -/
def Foot.bridgePostedWrite : Foot := ⟨[.dict, .blobs, .regs, .mem, .epochs, .free, .logs, .limits, .drains, .time, .d0, .sw, .can, .sleep, .power,
  .br, .load, .adc, .scan, .dma, .tenants, .mezz, .clk, .held, .harts, .twin], [], []⟩

/-- What `bridgeWrite` may change. -/
def Foot.bridgeWrite : Foot := ⟨[.dict, .blobs, .regs, .mem, .epochs, .free, .logs, .limits, .drains, .time, .d0, .sw, .can, .sleep, .power, .br,
  .load, .adc, .scan, .dma, .tenants, .mezz, .clk, .held, .harts, .twin], [], []⟩

/-- What `bridgeAtomic` may change. -/
def Foot.bridgeAtomic : Foot := ⟨[.dict, .blobs, .regs, .mem, .epochs, .free, .logs, .limits, .drains, .time, .d0, .sw, .can, .sleep, .power, .br,
  .load, .adc, .scan, .dma, .tenants, .mezz, .clk, .held, .harts, .twin], [], []⟩

/-- What `bridgeDictRead` may change. -/
def Foot.bridgeDictRead : Foot := ⟨[.dict, .blobs, .regs, .mem, .epochs, .free, .logs, .limits, .drains, .time, .d0, .sw, .can, .sleep, .power, .br,
  .load, .adc, .scan, .dma, .tenants, .mezz, .clk, .held, .harts, .twin], [], []⟩

/-- What `bridgeDictWrite` may change. -/
def Foot.bridgeDictWrite : Foot := ⟨[.dict, .blobs, .regs, .mem, .epochs, .free, .logs, .limits, .drains, .time, .d0, .sw, .can, .sleep, .power, .br,
  .load, .adc, .scan, .dma, .tenants, .mezz, .clk, .held, .harts, .twin], [], []⟩

/-- What `bridgeEvent` may change. -/
def Foot.bridgeEvent : Foot := ⟨[.dict, .blobs, .regs, .mem, .epochs, .free, .logs, .limits, .drains, .time, .d0, .sw, .can, .sleep, .power, .br,
  .load, .adc, .scan, .dma, .tenants, .mezz, .clk, .held, .harts, .twin], [], []⟩

/-- What `bridgeStatusRead` may change. -/
def Foot.bridgeStatusRead : Foot := ⟨[.dict, .blobs, .regs, .mem, .epochs, .free, .logs, .limits, .drains, .time, .d0, .sw, .can, .sleep, .power, .br,
  .load, .adc, .scan, .dma, .tenants, .mezz, .clk, .held, .harts, .twin], [], []⟩

/-- What `bridgeAckRequest` may change. -/
def Foot.bridgeAckRequest : Foot := ⟨[.dict, .blobs, .regs, .mem, .epochs, .free, .logs, .limits, .drains, .time, .d0, .sw, .can, .sleep, .power, .br,
  .load, .adc, .scan, .dma, .tenants, .mezz, .clk, .held, .harts, .twin], [], []⟩

/-- What `bridgeAckSend` may change. -/
def Foot.bridgeAckSend : Foot := ⟨[.free, .br], [], []⟩

/-- What `bridgeResponse` may change. -/
def Foot.bridgeResponse : Foot := ⟨[.mem, .free, .logs, .limits, .br, .dma, .tenants, .harts, .twin], logEnts ++ [ent1 Ent.Bctx.COUNTER_SAT, ent1
  Ent.Bctx.FAILURES, ent1 Ent.Bctx.POSTED, ent1 Ent.Bctx.READS, ent1 Ent.Bctx.RETRANSMITS, ent1 Ent.Bctx.SESSION, ent1 Ent.Bctx.TIMEOUTS, ent1
  Ent.Bu.COUNTER_SAT, ent1 Ent.Bu.ORPHANS, ent1 Ent.Hall.COUNTER_SAT], [word1 Rg.Hpg.RING_EN, word1 Rg.Hpg.RING_HEAD, word2 Rg.Ctx.BST_ADDR_HI, word2
  Rg.Ctx.BST_ADDR_LO, word2 Rg.Ctx.FAILED, word2 Rg.Ctx.FAR_CODE, word2 Rg.Ctx.IRQ, word2 Rg.Ctx.PW_DONE, word2 Rg.Ctx.RSLOT_ADDR_HI, word2
  Rg.Ctx.RSLOT_ADDR_LO, word2 Rg.Ctx.RSLOT_SEQ, word2 Rg.Ctx.SESSION, word2 Rg.Ctx.VALID, word2 Rg.Ep.EVT_PENDING, word2 Rg.Ep.EVT_SEQ, word2
  Rg.Ep.MERGED, word2 Rg.Ep.SIDEBAND, word2 fun u k => rmb u k Rg.Mb.CODE, word2 fun u k => rmb u k Rg.Mb.GO, word2 fun u k => rmb u k Rg.Mb.MB_LEN,
  word2 fun u k => rmb u k Rg.Mb.MB_TOTAL, word3 Rg.Ctx.RSLOT_DATA, word3 fun u k i => rmb u k fun n => Rg.Mb.MB_DATA n i]⟩

/-- What `bridgeAckReceive` may change. -/
def Foot.bridgeAckReceive : Foot := ⟨[.mem, .free, .logs, .limits, .br, .dma, .tenants, .harts, .twin], logEnts ++ [ent1 Ent.Bctx.COUNTER_SAT, ent1
  Ent.Bctx.FAILURES, ent1 Ent.Bctx.POSTED, ent1 Ent.Bctx.READS, ent1 Ent.Bctx.RETRANSMITS, ent1 Ent.Bctx.SESSION, ent1 Ent.Bctx.TIMEOUTS, ent1
  Ent.Hall.COUNTER_SAT], [word1 Rg.Hpg.RING_EN, word1 Rg.Hpg.RING_HEAD, word2 Rg.Ctx.BST_ADDR_HI, word2 Rg.Ctx.BST_ADDR_LO, word2 Rg.Ctx.FAILED, word2
  Rg.Ctx.FAR_CODE, word2 Rg.Ctx.IRQ, word2 Rg.Ctx.PW_DONE, word2 Rg.Ctx.SESSION, word2 Rg.Ep.MERGED, word2 fun u k => rmb u k Rg.Mb.CODE, word2 fun u
  k => rmb u k Rg.Mb.GO, word2 fun u k => rmb u k Rg.Mb.MB_LEN, word2 fun u k => rmb u k Rg.Mb.MB_TOTAL, word3 fun u k i => rmb u k fun n =>
  Rg.Mb.MB_DATA n i]⟩

/-- What `bridgeRetry` may change. -/
def Foot.bridgeRetry : Foot := ⟨[.mem, .free, .logs, .limits, .br, .dma, .tenants, .harts, .twin], logEnts ++ [ent1 Ent.Bctx.COUNTER_SAT, ent1
  Ent.Bctx.FAILURES, ent1 Ent.Bctx.POSTED, ent1 Ent.Bctx.READS, ent1 Ent.Bctx.RETRANSMITS, ent1 Ent.Bctx.SESSION, ent1 Ent.Bctx.TIMEOUTS, ent1
  Ent.Hall.COUNTER_SAT], [word1 Rg.Hpg.RING_EN, word1 Rg.Hpg.RING_HEAD, word2 Rg.Ctx.BST_ADDR_HI, word2 Rg.Ctx.BST_ADDR_LO, word2 Rg.Ctx.FAILED, word2
  Rg.Ctx.FAR_CODE, word2 Rg.Ctx.IRQ, word2 Rg.Ctx.PW_DONE, word2 Rg.Ctx.SESSION, word2 Rg.Ep.MERGED, word2 fun u k => rmb u k Rg.Mb.CODE, word2 fun u
  k => rmb u k Rg.Mb.GO, word2 fun u k => rmb u k Rg.Mb.MB_LEN, word2 fun u k => rmb u k Rg.Mb.MB_TOTAL, word3 fun u k i => rmb u k fun n =>
  Rg.Mb.MB_DATA n i]⟩

/-- What `rslotClear` may change. -/
def Foot.rslotClear : Foot := ⟨[.mem, .logs, .limits, .dma, .tenants], logEnts, [word1 Rg.Hpg.RING_HEAD, word2 Rg.Ctx.DONE, word2 Rg.Ctx.FENCE, word2
  Rg.Ctx.VALID]⟩

/-- What `evtSend` may change. -/
def Foot.evtSend : Foot := ⟨[.mem, .free, .logs, .limits, .br, .dma, .tenants, .harts, .twin], logEnts ++ [ent1 Ent.Bctx.COUNTER_SAT, ent1
  Ent.Bctx.FAILURES, ent1 Ent.Bctx.POSTED, ent1 Ent.Bctx.READS, ent1 Ent.Bctx.RETRANSMITS, ent1 Ent.Bctx.SESSION, ent1 Ent.Bctx.TIMEOUTS, ent1
  Ent.Hall.COUNTER_SAT], [word1 Rg.Hpg.RING_EN, word1 Rg.Hpg.RING_HEAD, word2 Rg.Ctx.BST_ADDR_HI, word2 Rg.Ctx.BST_ADDR_LO, word2 Rg.Ctx.FAILED, word2
  Rg.Ctx.FAR_CODE, word2 Rg.Ctx.IRQ, word2 Rg.Ctx.PW_DONE, word2 Rg.Ctx.PW_SEQ, word2 Rg.Ctx.SESSION, word2 Rg.Ep.MERGED, word2 fun u k => rmb u k
  Rg.Mb.CODE, word2 fun u k => rmb u k Rg.Mb.GO, word2 fun u k => rmb u k Rg.Mb.MB_LEN, word2 fun u k => rmb u k Rg.Mb.MB_TOTAL, word3 fun u k i =>
  rmb u k fun n => Rg.Mb.MB_DATA n i]⟩

/-- What `sidebandOutWrite` may change. -/
def Foot.sidebandOutWrite : Foot := ⟨[.mem, .free, .logs, .limits, .br, .dma, .tenants, .harts, .twin], logEnts ++ [ent1 Ent.Bctx.COUNTER_SAT, ent1
  Ent.Bctx.FAILURES, ent1 Ent.Bctx.POSTED, ent1 Ent.Bctx.READS, ent1 Ent.Bctx.RETRANSMITS, ent1 Ent.Bctx.SESSION, ent1 Ent.Bctx.TIMEOUTS, ent1
  Ent.Hall.COUNTER_SAT], [word1 Rg.Hpg.RING_EN, word1 Rg.Hpg.RING_HEAD, word2 Rg.Ctx.BST_ADDR_HI, word2 Rg.Ctx.BST_ADDR_LO, word2 Rg.Ctx.FAILED, word2
  Rg.Ctx.FAR_CODE, word2 Rg.Ctx.IRQ, word2 Rg.Ctx.PW_DONE, word2 Rg.Ctx.PW_SEQ, word2 Rg.Ctx.SESSION, word2 Rg.Ctx.SIDEBAND_OUT, word2 Rg.Ep.MERGED,
  word2 fun u k => rmb u k Rg.Mb.CODE, word2 fun u k => rmb u k Rg.Mb.GO, word2 fun u k => rmb u k Rg.Mb.MB_LEN, word2 fun u k => rmb u k
  Rg.Mb.MB_TOTAL, word3 fun u k i => rmb u k fun n => Rg.Mb.MB_DATA n i]⟩

/-- What `remoteMbGo` may change. -/
def Foot.remoteMbGo : Foot := ⟨[.mem, .free, .logs, .limits, .br, .dma, .tenants, .harts, .twin], logEnts ++ [ent1 Ent.Bctx.COUNTER_SAT, ent1
  Ent.Bctx.FAILURES, ent1 Ent.Bctx.POSTED, ent1 Ent.Bctx.READS, ent1 Ent.Bctx.RETRANSMITS, ent1 Ent.Bctx.SESSION, ent1 Ent.Bctx.TIMEOUTS, ent1
  Ent.Hall.COUNTER_SAT], [word1 Rg.Hpg.RING_EN, word1 Rg.Hpg.RING_HEAD, word2 Rg.Ctx.BST_ADDR_HI, word2 Rg.Ctx.BST_ADDR_LO, word2 Rg.Ctx.FAILED, word2
  Rg.Ctx.FAR_CODE, word2 Rg.Ctx.IRQ, word2 Rg.Ctx.PW_DONE, word2 Rg.Ctx.SESSION, word2 Rg.Ep.MERGED, word2 fun u k => rmb u k Rg.Mb.CODE, word2 fun u
  k => rmb u k Rg.Mb.GO, word2 fun u k => rmb u k Rg.Mb.MB_LEN, word2 fun u k => rmb u k Rg.Mb.MB_TOTAL, word3 fun u k i => rmb u k fun n =>
  Rg.Mb.MB_DATA n i]⟩

/-- What `endpointPoll` may change. -/
def Foot.endpointPoll : Foot := ⟨[.mem, .free, .logs, .limits, .br, .dma, .tenants, .harts, .twin], logEnts ++ [ent1 Ent.Bctx.COUNTER_SAT, ent1
  Ent.Bctx.FAILURES, ent1 Ent.Bctx.POSTED, ent1 Ent.Bctx.READS, ent1 Ent.Bctx.RETRANSMITS, ent1 Ent.Bctx.SESSION, ent1 Ent.Bctx.TIMEOUTS, ent1
  Ent.Bu.COUNTER_SAT, ent1 Ent.Bu.POLLS, ent1 Ent.Hall.COUNTER_SAT], [word1 Rg.Hpg.RING_EN, word1 Rg.Hpg.RING_HEAD, word2 Rg.Ctx.BST_ADDR_HI, word2
  Rg.Ctx.BST_ADDR_LO, word2 Rg.Ctx.FAILED, word2 Rg.Ctx.FAR_CODE, word2 Rg.Ctx.IRQ, word2 Rg.Ctx.PW_DONE, word2 Rg.Ctx.SESSION, word2 Rg.Ep.MERGED,
  word2 fun u k => rmb u k Rg.Mb.CODE, word2 fun u k => rmb u k Rg.Mb.GO, word2 fun u k => rmb u k Rg.Mb.MB_LEN, word2 fun u k => rmb u k
  Rg.Mb.MB_TOTAL, word3 fun u k i => rmb u k fun n => Rg.Mb.MB_DATA n i]⟩

/-- What `pollResult` may change. -/
def Foot.pollResult : Foot := ⟨[.mem, .free, .logs, .limits, .br, .dma, .tenants, .harts, .twin], logEnts ++ [ent1 Ent.Bctx.COUNTER_SAT, ent1
  Ent.Bctx.FAILURES, ent1 Ent.Bctx.POSTED, ent1 Ent.Bctx.READS, ent1 Ent.Bctx.RETRANSMITS, ent1 Ent.Bctx.SESSION, ent1 Ent.Bctx.TIMEOUTS, ent1
  Ent.Bu.COUNTER_SAT, ent1 Ent.Bu.ORPHANS, ent1 Ent.Hall.COUNTER_SAT], [word1 Rg.Hpg.RING_EN, word1 Rg.Hpg.RING_HEAD, word2 Rg.Ctx.BST_ADDR_HI, word2
  Rg.Ctx.BST_ADDR_LO, word2 Rg.Ctx.FAILED, word2 Rg.Ctx.FAR_CODE, word2 Rg.Ctx.IRQ, word2 Rg.Ctx.PW_DONE, word2 Rg.Ctx.RSLOT_ADDR_HI, word2
  Rg.Ctx.RSLOT_ADDR_LO, word2 Rg.Ctx.RSLOT_SEQ, word2 Rg.Ctx.SESSION, word2 Rg.Ctx.VALID, word2 Rg.Ep.EVT_PENDING, word2 Rg.Ep.EVT_SEQ, word2
  Rg.Ep.MERGED, word2 Rg.Ep.SIDEBAND, word2 fun u k => rmb u k Rg.Mb.CODE, word2 fun u k => rmb u k Rg.Mb.GO, word2 fun u k => rmb u k Rg.Mb.MB_LEN,
  word2 fun u k => rmb u k Rg.Mb.MB_TOTAL, word3 Rg.Ctx.RSLOT_DATA, word3 fun u k i => rmb u k fun n => Rg.Mb.MB_DATA n i]⟩

/-- What `tunnelPduSend` may change. -/
def Foot.tunnelPduSend : Foot := ⟨[.mem, .logs, .br, .dma, .tenants], logEnts ++ [ent1 Ent.Tun.COUNTER_SAT, ent1 Ent.Tun.TUN_OUT], [word1
  Rg.Hpg.RING_HEAD]⟩

/-- What `tunnelPduReceive` may change. -/
def Foot.tunnelPduReceive : Foot := ⟨[.mem, .logs, .limits, .can, .dma, .tenants], logEnts ++ [ent1 Ent.Tun.COUNTER_SAT, ent1 Ent.Tun.TUN_DROPPED,
  ent1 Ent.Tun.TUN_IN], [word1 Rg.Hpg.RING_HEAD]⟩

/-- What `engineStart` may change. -/
def Foot.engineStart : Foot := ⟨[.mem, .logs, .time, .d0, .sw, .can, .power, .br, .scan, .dma, .tenants, .twin], logEnts ++ [ent0 Ent.Se.CMD_STATUS,
  ent0 Ent.Se.STATE, ent0 Ent.Stw.COUNTER_SAT, ent0 Ent.Stw.STW_ECC_DROPS, ent1 Ent.CanCo.SDO_LAST_STATUS, ent1 Ent.CanSt.COUNTER_SAT, ent1
  Ent.CanSt.TX_DISCARDED, ent1 Ent.Hall.COUNTER_SAT, ent1 Ent.Hall.FROZEN_DROPS, ent1 Ent.Heng.COUNTER_SAT, ent1 Ent.Heng.NO_QP, ent1
  Ent.Port.EGRESS_FILTERED, ent1 Ent.Port.PORT_SAT, ent1 Ent.Port.TX_BYTES, ent1 Ent.Port.TX_FRAMES, ent1 Ent.Pq.CT_ABORTED, ent1 Ent.Pq.NO_DESC, ent1
  Ent.Pq.OVERSIZE, ent1 Ent.Pq.PORT_SAT, ent1 Ent.Pq.Q_SAT, ent1 Ent.Task.COUNTER_SAT, ent1 Ent.Task.CYCLES, ent1 Ent.Task.LAST_EXEC_NS, ent1
  Ent.Task.MAX_DELAY_NS, ent1 Ent.Task.MAX_EXEC_NS, ent1 Ent.Task.MERGED, ent1 Ent.Task.SKIPPED, ent1 Ent.Trgu.COUNT, ent1 Ent.Trgu.ENABLE, ent1
  Ent.Trgu.NEXT_NS, ent1 Ent.Trgu.OWNER, ent1 Ent.Trgu.PERIOD_NS, ent1 Ent.Trgu.START_NS, ent1 Ent.Trgu.TARGET, ent2 Ent.Pq.DROP_DISABLED, ent2
  Ent.Pq.DROP_DOWN, ent2 Ent.Pq.DROP_FULL, ent2 Ent.Pq.DROP_RESIDENCE, ent2 Ent.Pq.DROP_STW], [word0 Rg.Smb.DONE, word0 Rg.Smb.MB_LEN, word0
  Rg.Smb.MB_TOTAL, word1 Rg.Hpg.RING_EN, word1 Rg.Hpg.RING_HEAD, word1 Rg.Mb.DONE, word1 Rg.Mb.MB_LEN, word1 Rg.Mb.MB_TOTAL, word1 Rg.Plat.SYS_IRQ,
  word1 Rg.Smb.MB_DATA, word2 Rg.Mb.MB_DATA]⟩

/-- What `engineStop` may change. -/
def Foot.engineStop : Foot := ⟨[.mem, .logs, .d0, .sw, .can, .power, .br, .load, .scan, .dma, .tenants, .clk, .twin], logEnts ++ [ent0
  Ent.Clk.SSC_ACTIVE, ent0 Ent.Se.CMD_STATUS, ent0 Ent.Se.STATE, ent0 Ent.Stw.COUNTER_SAT, ent0 Ent.Stw.STW_ECC_DROPS, ent1 Ent.CanCo.SDO_LAST_STATUS,
  ent1 Ent.CanSt.COUNTER_SAT, ent1 Ent.CanSt.TX_DISCARDED, ent1 Ent.Hall.COUNTER_SAT, ent1 Ent.Hall.FROZEN_DROPS, ent1 Ent.Heng.COUNTER_SAT, ent1
  Ent.Heng.NO_QP, ent1 Ent.Lc.FLAGS, ent1 Ent.Lc.STATE, ent1 Ent.Port.EGRESS_FILTERED, ent1 Ent.Port.PORT_SAT, ent1 Ent.Port.TX_BYTES, ent1
  Ent.Port.TX_FRAMES, ent1 Ent.Pq.CT_ABORTED, ent1 Ent.Pq.NO_DESC, ent1 Ent.Pq.OVERSIZE, ent1 Ent.Pq.PORT_SAT, ent1 Ent.Pq.Q_SAT, ent2
  Ent.Pq.DROP_DISABLED, ent2 Ent.Pq.DROP_DOWN, ent2 Ent.Pq.DROP_FULL, ent2 Ent.Pq.DROP_RESIDENCE, ent2 Ent.Pq.DROP_STW], [word0 Rg.Smb.DONE, word0
  Rg.Smb.MB_LEN, word0 Rg.Smb.MB_TOTAL, word1 Rg.Hpg.RING_EN, word1 Rg.Hpg.RING_HEAD, word1 Rg.Mb.DONE, word1 Rg.Mb.MB_LEN, word1 Rg.Mb.MB_TOTAL,
  word1 Rg.Plat.SYS_IRQ, word1 Rg.Smb.MB_DATA, word2 Rg.Mb.MB_DATA]⟩

/-- What `engineAckFault` may change. -/
def Foot.engineAckFault : Foot := ⟨[.mem, .logs, .d0, .sw, .can, .power, .br, .load, .dma, .tenants, .clk, .twin], logEnts ++ [ent0
  Ent.Clk.SSC_ACTIVE, ent0 Ent.Se.CMD_STATUS, ent0 Ent.Se.FAULT_CAUSE, ent0 Ent.Se.STATE, ent0 Ent.Stw.COUNTER_SAT, ent0 Ent.Stw.STW_ECC_DROPS, ent0
  Ent.Tws.ROLE, ent1 Ent.CanCo.SDO_LAST_STATUS, ent1 Ent.CanSt.COUNTER_SAT, ent1 Ent.CanSt.TX_DISCARDED, ent1 Ent.Hall.COUNTER_SAT, ent1
  Ent.Hall.FROZEN_DROPS, ent1 Ent.Heng.COUNTER_SAT, ent1 Ent.Heng.NO_QP, ent1 Ent.Lc.FLAGS, ent1 Ent.Lc.STATE, ent1 Ent.Port.EGRESS_FILTERED, ent1
  Ent.Port.PORT_SAT, ent1 Ent.Port.TX_BYTES, ent1 Ent.Port.TX_FRAMES, ent1 Ent.Pq.CT_ABORTED, ent1 Ent.Pq.NO_DESC, ent1 Ent.Pq.OVERSIZE, ent1
  Ent.Pq.PORT_SAT, ent1 Ent.Pq.Q_SAT, ent2 Ent.Pq.DROP_DISABLED, ent2 Ent.Pq.DROP_DOWN, ent2 Ent.Pq.DROP_FULL, ent2 Ent.Pq.DROP_RESIDENCE, ent2
  Ent.Pq.DROP_STW], [word0 Rg.Smb.DONE, word0 Rg.Smb.MB_LEN, word0 Rg.Smb.MB_TOTAL, word1 Rg.Hpg.RING_EN, word1 Rg.Hpg.RING_HEAD, word1 Rg.Mb.DONE,
  word1 Rg.Mb.MB_LEN, word1 Rg.Mb.MB_TOTAL, word1 Rg.Plat.SYS_IRQ, word1 Rg.Smb.MB_DATA, word2 Rg.Mb.MB_DATA]⟩

/-- What `engineLoad` may change. -/
def Foot.engineLoad : Foot := ⟨[.mem, .logs, .d0, .sw, .can, .power, .br, .load, .scan, .dma, .tenants, .clk, .upd, .twin], logEnts ++ [ent0
  Ent.Clk.SSC_ACTIVE, ent0 Ent.Frc.FORCE_COUNT, ent0 Ent.Frc.FORCE_GEN, ent0 Ent.Se.ACTIVE_ID, ent0 Ent.Se.CMD_STATUS, ent0 Ent.Se.RETAIN_STATUS, ent0
  Ent.Se.STATE, ent0 Ent.Seimg.ACTIVE_IMAGE, ent0 Ent.Stw.COUNTER_SAT, ent0 Ent.Stw.STW_ECC_DROPS, ent1 Ent.CanCo.SDO_LAST_STATUS, ent1
  Ent.CanSt.COUNTER_SAT, ent1 Ent.CanSt.TX_DISCARDED, ent1 Ent.Hall.COUNTER_SAT, ent1 Ent.Hall.FROZEN_DROPS, ent1 Ent.Heng.COUNTER_SAT, ent1
  Ent.Heng.NO_QP, ent1 Ent.Lc.FLAGS, ent1 Ent.Lc.STATE, ent1 Ent.Port.EGRESS_FILTERED, ent1 Ent.Port.PORT_SAT, ent1 Ent.Port.TX_BYTES, ent1
  Ent.Port.TX_FRAMES, ent1 Ent.Pq.CT_ABORTED, ent1 Ent.Pq.NO_DESC, ent1 Ent.Pq.OVERSIZE, ent1 Ent.Pq.PORT_SAT, ent1 Ent.Pq.Q_SAT, ent1 Ent.Stn.STATE,
  ent1 Ent.Trgu.ENABLE, ent1 Ent.Trgu.OWNER, ent2 Ent.Pq.DROP_DISABLED, ent2 Ent.Pq.DROP_DOWN, ent2 Ent.Pq.DROP_FULL, ent2 Ent.Pq.DROP_RESIDENCE, ent2
  Ent.Pq.DROP_STW], [word0 Rg.Smb.DONE, word0 Rg.Smb.MB_LEN, word0 Rg.Smb.MB_TOTAL, word1 Rg.Hpg.RING_EN, word1 Rg.Hpg.RING_HEAD, word1 Rg.Mb.DONE,
  word1 Rg.Mb.MB_LEN, word1 Rg.Mb.MB_TOTAL, word1 Rg.Plat.SYS_IRQ, word1 Rg.Smb.MB_DATA, word2 Rg.Mb.MB_DATA]⟩

/-- What `evtFire` may change. -/
def Foot.evtFire : Foot := ⟨[.mem, .free, .logs, .scan, .dma, .tenants, .twin], logEnts ++ [ent1 Ent.Port.PORT_SAT, ent1 Ent.Port.TX_BYTES, ent1
  Ent.Port.TX_FRAMES, ent1 Ent.Stn.COUNTER_SAT, ent1 Ent.Stn.LOSSES, ent1 Ent.Stn.STATE, ent1 Ent.Task.COUNTER_SAT, ent1 Ent.Task.MERGED], [word0
  Rg.M0Cpg.WFI, word1 Rg.Cpg.WFI, word1 Rg.Hpg.RING_HEAD, word1 Rg.Plat.SYS_IRQ, word1 Rg.Src.PENDING]⟩

/-- What `taskDone` may change. -/
def Foot.taskDone : Foot := ⟨[.mem, .free, .logs, .limits, .d0, .sw, .can, .power, .br, .load, .scan, .dma, .tenants, .clk, .twin], logEnts ++ [ent0
  Ent.Clk.SSC_ACTIVE, ent0 Ent.Se.CMD_STATUS, ent0 Ent.Se.COUNTER_SAT, ent0 Ent.Se.DONE_IGNORED, ent0 Ent.Se.STATE, ent0 Ent.Stw.COUNTER_SAT, ent0
  Ent.Stw.STW_ECC_DROPS, ent0 Ent.Tws.COUNTER_SAT, ent0 Ent.Tws.OUT_MISMATCHES, ent0 Ent.Tws.ROLE, ent1 Ent.CanCo.SDO_LAST_STATUS, ent1
  Ent.CanSt.COUNTER_SAT, ent1 Ent.CanSt.TX_DISCARDED, ent1 Ent.Hall.COUNTER_SAT, ent1 Ent.Hall.FROZEN_DROPS, ent1 Ent.Heng.COUNTER_SAT, ent1
  Ent.Heng.NO_QP, ent1 Ent.Lc.FLAGS, ent1 Ent.Lc.RETRIES_LEFT, ent1 Ent.Lc.STATE, ent1 Ent.Port.EGRESS_FILTERED, ent1 Ent.Port.PORT_SAT, ent1
  Ent.Port.TX_BYTES, ent1 Ent.Port.TX_FRAMES, ent1 Ent.Pq.CT_ABORTED, ent1 Ent.Pq.NO_DESC, ent1 Ent.Pq.OVERSIZE, ent1 Ent.Pq.PORT_SAT, ent1
  Ent.Pq.Q_SAT, ent1 Ent.Stn.COUNTER_SAT, ent1 Ent.Stn.LOSSES, ent1 Ent.Stn.STATE, ent1 Ent.Stn.TX_FRAMES, ent1 Ent.Stn.TX_HELD, ent1
  Ent.Task.COUNTER_SAT, ent1 Ent.Task.CYCLES, ent1 Ent.Task.LAST_EXEC_NS, ent1 Ent.Task.MAX_EXEC_NS, ent2 Ent.Pq.DROP_DISABLED, ent2 Ent.Pq.DROP_DOWN,
  ent2 Ent.Pq.DROP_FULL, ent2 Ent.Pq.DROP_RESIDENCE, ent2 Ent.Pq.DROP_STW], [word0 Rg.M0Cpg.WFI, word0 Rg.Smb.DONE, word0 Rg.Smb.MB_LEN, word0
  Rg.Smb.MB_TOTAL, word1 Rg.Cpg.WFI, word1 Rg.Hpg.RING_EN, word1 Rg.Hpg.RING_HEAD, word1 Rg.Mb.DONE, word1 Rg.Mb.MB_LEN, word1 Rg.Mb.MB_TOTAL, word1
  Rg.Plat.SYS_IRQ, word1 Rg.Smb.MB_DATA, word1 Rg.Src.PENDING, word2 Rg.Mb.MB_DATA]⟩

/-- What `taskFault` may change. -/
def Foot.taskFault : Foot := ⟨[.mem, .free, .logs, .d0, .sw, .can, .power, .br, .load, .scan, .dma, .tenants, .clk, .twin], logEnts ++ [ent0
  Ent.Chg.CHANGES, ent0 Ent.Chg.CHANGE_RESULT, ent0 Ent.Chg.CHANGE_STATE, ent0 Ent.Chg.CHANGE_STATUS, ent0 Ent.Chg.COUNTER_SAT, ent0 Ent.Chg.REFUSALS,
  ent0 Ent.Clk.SSC_ACTIVE, ent0 Ent.Se.CMD_STATUS, ent0 Ent.Se.FAULT_CAUSE, ent0 Ent.Se.STATE, ent0 Ent.Stw.COUNTER_SAT, ent0 Ent.Stw.STW_ECC_DROPS,
  ent0 Ent.Tws.ROLE, ent1 Ent.CanCo.SDO_LAST_STATUS, ent1 Ent.CanSt.COUNTER_SAT, ent1 Ent.CanSt.TX_DISCARDED, ent1 Ent.Hall.COUNTER_SAT, ent1
  Ent.Hall.FROZEN_DROPS, ent1 Ent.Heng.COUNTER_SAT, ent1 Ent.Heng.NO_QP, ent1 Ent.Lc.FLAGS, ent1 Ent.Lc.STATE, ent1 Ent.Port.EGRESS_FILTERED, ent1
  Ent.Port.PORT_SAT, ent1 Ent.Port.TX_BYTES, ent1 Ent.Port.TX_FRAMES, ent1 Ent.Pq.CT_ABORTED, ent1 Ent.Pq.NO_DESC, ent1 Ent.Pq.OVERSIZE, ent1
  Ent.Pq.PORT_SAT, ent1 Ent.Pq.Q_SAT, ent2 Ent.Pq.DROP_DISABLED, ent2 Ent.Pq.DROP_DOWN, ent2 Ent.Pq.DROP_FULL, ent2 Ent.Pq.DROP_RESIDENCE, ent2
  Ent.Pq.DROP_STW], [word0 Rg.M0Cpg.DEPTH, word0 Rg.Smb.DONE, word0 Rg.Smb.MB_LEN, word0 Rg.Smb.MB_TOTAL, word1 Rg.Cpg.DEPTH, word1 Rg.Hpg.RING_EN,
  word1 Rg.Hpg.RING_HEAD, word1 Rg.M0Cpg.STK_SRC, word1 Rg.Mb.DONE, word1 Rg.Mb.MB_LEN, word1 Rg.Mb.MB_TOTAL, word1 Rg.Plat.SYS_IRQ, word1
  Rg.Smb.MB_DATA, word1 Rg.Src.PENDING, word2 Rg.Cpg.STK_SRC, word2 Rg.Mb.MB_DATA]⟩

/-- What `deadlineOverrun` may change. -/
def Foot.deadlineOverrun : Foot := ⟨[.mem, .free, .logs, .d0, .sw, .can, .power, .br, .load, .scan, .dma, .tenants, .clk, .twin], logEnts ++ [ent0
  Ent.Chg.CHANGES, ent0 Ent.Chg.CHANGE_RESULT, ent0 Ent.Chg.CHANGE_STATE, ent0 Ent.Chg.CHANGE_STATUS, ent0 Ent.Chg.COUNTER_SAT, ent0 Ent.Chg.REFUSALS,
  ent0 Ent.Clk.SSC_ACTIVE, ent0 Ent.Se.CMD_STATUS, ent0 Ent.Se.FAULT_CAUSE, ent0 Ent.Se.STATE, ent0 Ent.Stw.COUNTER_SAT, ent0 Ent.Stw.STW_ECC_DROPS,
  ent0 Ent.Tws.ROLE, ent1 Ent.CanCo.SDO_LAST_STATUS, ent1 Ent.CanSt.COUNTER_SAT, ent1 Ent.CanSt.TX_DISCARDED, ent1 Ent.Hall.COUNTER_SAT, ent1
  Ent.Hall.FROZEN_DROPS, ent1 Ent.Heng.COUNTER_SAT, ent1 Ent.Heng.NO_QP, ent1 Ent.Lc.FLAGS, ent1 Ent.Lc.STATE, ent1 Ent.Port.EGRESS_FILTERED, ent1
  Ent.Port.PORT_SAT, ent1 Ent.Port.TX_BYTES, ent1 Ent.Port.TX_FRAMES, ent1 Ent.Pq.CT_ABORTED, ent1 Ent.Pq.NO_DESC, ent1 Ent.Pq.OVERSIZE, ent1
  Ent.Pq.PORT_SAT, ent1 Ent.Pq.Q_SAT, ent2 Ent.Pq.DROP_DISABLED, ent2 Ent.Pq.DROP_DOWN, ent2 Ent.Pq.DROP_FULL, ent2 Ent.Pq.DROP_RESIDENCE, ent2
  Ent.Pq.DROP_STW], [word0 Rg.M0Cpg.DEPTH, word0 Rg.Smb.DONE, word0 Rg.Smb.MB_LEN, word0 Rg.Smb.MB_TOTAL, word1 Rg.Cpg.DEPTH, word1 Rg.Hpg.RING_EN,
  word1 Rg.Hpg.RING_HEAD, word1 Rg.M0Cpg.STK_SRC, word1 Rg.Mb.DONE, word1 Rg.Mb.MB_LEN, word1 Rg.Mb.MB_TOTAL, word1 Rg.Plat.SYS_IRQ, word1
  Rg.Smb.MB_DATA, word1 Rg.Src.PENDING, word2 Rg.Cpg.STK_SRC, word2 Rg.Mb.MB_DATA]⟩

/-- What `stationFrameReceive` may change. -/
def Foot.stationFrameReceive : Foot := ⟨[.mem, .logs, .limits, .scan, .dma, .tenants], logEnts ++ [ent0 Ent.Se.COUNTER_SAT, ent0 Ent.Se.STN_UNKNOWN,
  ent1 Ent.Stn.COUNTER_SAT, ent1 Ent.Stn.RX_BAD, ent1 Ent.Stn.RX_FRAMES, ent1 Ent.Stn.RX_STALE, ent1 Ent.Stn.STATE], [word1 Rg.Hpg.RING_HEAD, word1
  Rg.Plat.SYS_IRQ]⟩

/-- What `retainSaveComplete` may change. -/
def Foot.retainSaveComplete : Foot := ⟨[.mem, .logs, .supply, .scan, .dma, .tenants, .sto], logEnts ++ [ent0 Ent.Evl.EVENT_FIRST, ent0
  Ent.Evl.EVENT_NEXT, ent0 Ent.Pwr.PF_STATE], [word1 Rg.Hpg.RING_HEAD, word1 Rg.Plat.SYS_IRQ]⟩

/-- What `changeStart` may change. -/
def Foot.changeStart : Foot := ⟨[.mem, .logs, .d0, .sw, .can, .power, .br, .scan, .dma, .tenants, .twin], logEnts ++ [ent0 Ent.Chg.CHANGE_RESULT, ent0
  Ent.Chg.CHANGE_STATE, ent0 Ent.Chg.CHANGE_STATUS, ent0 Ent.Chg.COUNTER_SAT, ent0 Ent.Chg.MAP_TABLE, ent0 Ent.Chg.REFUSALS, ent0 Ent.Se.STATE, ent0
  Ent.Stw.COUNTER_SAT, ent0 Ent.Stw.STW_ECC_DROPS, ent1 Ent.CanCo.SDO_LAST_STATUS, ent1 Ent.CanSt.COUNTER_SAT, ent1 Ent.CanSt.TX_DISCARDED, ent1
  Ent.Hall.COUNTER_SAT, ent1 Ent.Hall.FROZEN_DROPS, ent1 Ent.Heng.COUNTER_SAT, ent1 Ent.Heng.NO_QP, ent1 Ent.Port.EGRESS_FILTERED, ent1
  Ent.Port.PORT_SAT, ent1 Ent.Port.TX_BYTES, ent1 Ent.Port.TX_FRAMES, ent1 Ent.Pq.CT_ABORTED, ent1 Ent.Pq.NO_DESC, ent1 Ent.Pq.OVERSIZE, ent1
  Ent.Pq.PORT_SAT, ent1 Ent.Pq.Q_SAT, ent2 Ent.Pq.DROP_DISABLED, ent2 Ent.Pq.DROP_DOWN, ent2 Ent.Pq.DROP_FULL, ent2 Ent.Pq.DROP_RESIDENCE, ent2
  Ent.Pq.DROP_STW], [word0 Rg.Smb.DONE, word0 Rg.Smb.MB_LEN, word0 Rg.Smb.MB_TOTAL, word1 Rg.Hpg.RING_EN, word1 Rg.Hpg.RING_HEAD, word1 Rg.Mb.DONE,
  word1 Rg.Mb.MB_LEN, word1 Rg.Mb.MB_TOTAL, word1 Rg.Plat.SYS_IRQ, word1 Rg.Smb.MB_DATA, word2 Rg.Mb.MB_DATA]⟩

/-- What `changeCancel` may change. -/
def Foot.changeCancel : Foot := ⟨[.mem, .logs, .scan, .dma, .tenants], logEnts ++ [ent0 Ent.Chg.CHANGES, ent0 Ent.Chg.CHANGE_RESULT, ent0
  Ent.Chg.CHANGE_STATE, ent0 Ent.Chg.CHANGE_STATUS, ent0 Ent.Chg.COUNTER_SAT, ent0 Ent.Chg.REFUSALS, ent0 Ent.Se.STATE, ent1 Ent.Hall.COUNTER_SAT],
  [word1 Rg.Hpg.RING_EN, word1 Rg.Hpg.RING_HEAD, word1 Rg.Plat.SYS_IRQ]⟩

/-- What `changeSwitch` may change. -/
def Foot.changeSwitch : Foot := ⟨[.mem, .epochs, .free, .logs, .time, .scan, .dma, .tenants, .upd, .twin], logEnts ++ [ent0 Ent.Chg.CHANGES, ent0
  Ent.Chg.CHANGE_RESULT, ent0 Ent.Chg.CHANGE_STATE, ent0 Ent.Chg.CHANGE_STATUS, ent0 Ent.Chg.COUNTER_SAT, ent0 Ent.Chg.REFUSALS, ent0
  Ent.Frc.FORCE_COUNT, ent0 Ent.Frc.FORCE_GEN, ent0 Ent.Se.ACTIVE_ID, ent0 Ent.Se.STATE, ent0 Ent.Seimg.ACTIVE_IMAGE, ent0 Ent.Tws.ROLE, ent1
  Ent.Hall.COUNTER_SAT, ent1 Ent.Port.PORT_SAT, ent1 Ent.Port.TX_BYTES, ent1 Ent.Port.TX_FRAMES, ent1 Ent.Stn.COUNTER_SAT, ent1 Ent.Stn.LOSSES, ent1
  Ent.Stn.STATE, ent1 Ent.Trgu.COUNT, ent1 Ent.Trgu.ENABLE, ent1 Ent.Trgu.NEXT_NS, ent1 Ent.Trgu.OWNER, ent1 Ent.Trgu.PERIOD_NS, ent1
  Ent.Trgu.START_NS, ent1 Ent.Trgu.TARGET], [word0 Rg.M0Cpg.WFI, word1 Rg.Cpg.WFI, word1 Rg.Hpg.RING_EN, word1 Rg.Hpg.RING_HEAD, word1
  Rg.Plat.SYS_IRQ, word1 Rg.Src.PENDING]⟩

/-- What `changeCommit` may change. -/
def Foot.changeCommit : Foot := ⟨[.mem, .logs, .scan, .dma, .tenants], logEnts ++ [ent0 Ent.Chg.CHANGES, ent0 Ent.Chg.CHANGE_RESULT, ent0
  Ent.Chg.CHANGE_STATE, ent0 Ent.Chg.CHANGE_STATUS, ent0 Ent.Chg.COUNTER_SAT, ent0 Ent.Chg.REFUSALS, ent1 Ent.Hall.COUNTER_SAT], [word1
  Rg.Hpg.RING_EN, word1 Rg.Hpg.RING_HEAD, word1 Rg.Plat.SYS_IRQ]⟩

/-- What `changeWindowTimeout` may change. -/
def Foot.changeWindowTimeout : Foot := ⟨[.mem, .logs, .scan, .dma, .tenants], logEnts ++ [ent0 Ent.Chg.CHANGES, ent0 Ent.Chg.CHANGE_RESULT, ent0
  Ent.Chg.CHANGE_STATE, ent0 Ent.Chg.CHANGE_STATUS, ent0 Ent.Chg.COUNTER_SAT, ent0 Ent.Chg.REFUSALS, ent0 Ent.Se.STATE, ent1 Ent.Hall.COUNTER_SAT],
  [word1 Rg.Hpg.RING_EN, word1 Rg.Hpg.RING_HEAD, word1 Rg.Plat.SYS_IRQ]⟩

/-- What `changeStandbyReady` may change. -/
def Foot.changeStandbyReady : Foot := ⟨[.mem, .logs, .scan, .dma, .tenants], logEnts ++ [ent0 Ent.Chg.CHANGES, ent0 Ent.Chg.CHANGE_RESULT, ent0
  Ent.Chg.CHANGE_STATE, ent0 Ent.Chg.CHANGE_STATUS, ent0 Ent.Chg.COUNTER_SAT, ent0 Ent.Chg.REFUSALS, ent0 Ent.Se.STATE, ent1 Ent.Hall.COUNTER_SAT],
  [word1 Rg.Hpg.RING_EN, word1 Rg.Hpg.RING_HEAD, word1 Rg.Plat.SYS_IRQ]⟩

/-- What `standbyReadyTimeout` may change. -/
def Foot.standbyReadyTimeout : Foot := ⟨[.mem, .logs, .scan, .dma, .tenants], logEnts ++ [ent0 Ent.Chg.CHANGES, ent0 Ent.Chg.CHANGE_RESULT, ent0
  Ent.Chg.CHANGE_STATE, ent0 Ent.Chg.CHANGE_STATUS, ent0 Ent.Chg.COUNTER_SAT, ent0 Ent.Chg.REFUSALS, ent0 Ent.Se.STATE, ent1 Ent.Hall.COUNTER_SAT],
  [word1 Rg.Hpg.RING_EN, word1 Rg.Hpg.RING_HEAD, word1 Rg.Plat.SYS_IRQ]⟩

/-- What `changeCommitReceive` may change. -/
def Foot.changeCommitReceive : Foot := ⟨[.mem, .epochs, .free, .logs, .time, .scan, .dma, .tenants, .upd, .twin], logEnts ++ [ent0 Ent.Chg.CHANGES,
  ent0 Ent.Chg.CHANGE_RESULT, ent0 Ent.Chg.CHANGE_STATE, ent0 Ent.Chg.CHANGE_STATUS, ent0 Ent.Chg.COUNTER_SAT, ent0 Ent.Chg.REFUSALS, ent0
  Ent.Frc.FORCE_COUNT, ent0 Ent.Frc.FORCE_GEN, ent0 Ent.Se.ACTIVE_ID, ent0 Ent.Se.STATE, ent0 Ent.Seimg.ACTIVE_IMAGE, ent0 Ent.Tws.ROLE, ent1
  Ent.Hall.COUNTER_SAT, ent1 Ent.Port.PORT_SAT, ent1 Ent.Port.TX_BYTES, ent1 Ent.Port.TX_FRAMES, ent1 Ent.Stn.COUNTER_SAT, ent1 Ent.Stn.LOSSES, ent1
  Ent.Stn.STATE, ent1 Ent.Trgu.COUNT, ent1 Ent.Trgu.ENABLE, ent1 Ent.Trgu.NEXT_NS, ent1 Ent.Trgu.OWNER, ent1 Ent.Trgu.PERIOD_NS, ent1
  Ent.Trgu.START_NS, ent1 Ent.Trgu.TARGET], [word0 Rg.M0Cpg.WFI, word1 Rg.Cpg.WFI, word1 Rg.Hpg.RING_EN, word1 Rg.Hpg.RING_HEAD, word1
  Rg.Plat.SYS_IRQ, word1 Rg.Src.PENDING]⟩

/-- What `forceSet` may change. -/
def Foot.forceSet : Foot := ⟨[.mem, .logs, .scan, .dma, .tenants, .twin], logEnts ++ [ent0 Ent.Frc.FORCE_COUNT, ent0 Ent.Frc.FORCE_GEN, ent1
  Ent.Port.PORT_SAT, ent1 Ent.Port.TX_BYTES, ent1 Ent.Port.TX_FRAMES], [word1 Rg.Hpg.RING_HEAD, word1 Rg.Plat.SYS_IRQ]⟩

/-- What `forceRelease` may change. -/
def Foot.forceRelease : Foot := ⟨[.mem, .logs, .scan, .dma, .tenants, .twin], logEnts ++ [ent0 Ent.Frc.FORCE_COUNT, ent0 Ent.Frc.FORCE_GEN, ent1
  Ent.Port.PORT_SAT, ent1 Ent.Port.TX_BYTES, ent1 Ent.Port.TX_FRAMES], [word1 Rg.Hpg.RING_HEAD, word1 Rg.Plat.SYS_IRQ]⟩

/-- What `forceReleaseAll` may change. -/
def Foot.forceReleaseAll : Foot := ⟨[.mem, .logs, .scan, .dma, .tenants, .twin], logEnts ++ [ent0 Ent.Frc.FORCE_COUNT, ent0 Ent.Frc.FORCE_GEN, ent1
  Ent.Port.PORT_SAT, ent1 Ent.Port.TX_BYTES, ent1 Ent.Port.TX_FRAMES], [word1 Rg.Hpg.RING_HEAD, word1 Rg.Plat.SYS_IRQ]⟩

/-- What `channelOn` may change. -/
def Foot.channelOn : Foot := ⟨[.mem, .logs, .load, .dma, .tenants, .clk], logEnts ++ [ent0 Ent.Clk.SSC_ACTIVE, ent1 Ent.Lc.FLAGS, ent1
  Ent.Lc.RETRIES_LEFT, ent1 Ent.Lc.STATE], [word1 Rg.Hpg.RING_HEAD, word1 Rg.Plat.SYS_IRQ]⟩

/-- What `channelOff` may change. -/
def Foot.channelOff : Foot := ⟨[.mem, .logs, .load, .dma, .tenants, .clk], logEnts ++ [ent0 Ent.Clk.SSC_ACTIVE, ent1 Ent.Lc.FLAGS, ent1
  Ent.Lc.RETRIES_LEFT, ent1 Ent.Lc.STATE], [word1 Rg.Hpg.RING_HEAD, word1 Rg.Plat.SYS_IRQ]⟩

/-- What `channelClear` may change. -/
def Foot.channelClear : Foot := ⟨[.load], [ent1 Ent.Lc.FLAGS, ent1 Ent.Lc.RETRIES_LEFT, ent1 Ent.Lc.STATE], []⟩

/-- What `channelPwmSet` may change. -/
def Foot.channelPwmSet : Foot := ⟨[.mem, .logs, .load, .dma, .tenants, .clk], logEnts ++ [ent0 Ent.Clk.SSC_ACTIVE, ent1 Ent.Lc.FLAGS, ent1
  Ent.Lc.RETRIES_LEFT, ent1 Ent.Lc.STATE], [word1 Rg.Hpg.RING_HEAD, word1 Rg.Plat.SYS_IRQ]⟩

/-- What `pwmPeriodStart` may change. -/
def Foot.pwmPeriodStart : Foot := ⟨[.load], [], []⟩

/-- What `inrushEnd` may change. -/
def Foot.inrushEnd : Foot := ⟨[.load], [ent1 Ent.Lc.FLAGS, ent1 Ent.Lc.STATE], []⟩

/-- What `limitEntry` may change. -/
def Foot.limitEntry : Foot := ⟨[.mem, .logs, .dma, .tenants], logEnts ++ [ent1 Ent.Lc.COUNTER_SAT, ent1 Ent.Lc.FLAGS, ent1 Ent.Lc.LIMIT_EVENTS],
  [word1 Rg.Hpg.RING_HEAD]⟩

/-- What `thermalShutdown` may change. -/
def Foot.thermalShutdown : Foot := ⟨[.mem, .logs, .load, .dma, .tenants], logEnts ++ [ent1 Ent.Hall.COUNTER_SAT, ent1 Ent.Lc.COUNTER_SAT, ent1
  Ent.Lc.COUPLED_TRIPS, ent1 Ent.Lc.FLAGS, ent1 Ent.Lc.LATCHES, ent1 Ent.Lc.STATE, ent1 Ent.Lc.TJ_C, ent1 Ent.Lc.TRIPS, ent1 Ent.Lcg.DELTA_T_K],
  [word1 Rg.Hpg.RING_EN, word1 Rg.Hpg.RING_HEAD, word1 Rg.Plat.SYS_IRQ]⟩

/-- What `retryRestart` may change. -/
def Foot.retryRestart : Foot := ⟨[.load], [ent1 Ent.Lc.FLAGS, ent1 Ent.Lc.RETRIES_LEFT, ent1 Ent.Lc.STATE], []⟩

/-- What `coupledRestart` may change. -/
def Foot.coupledRestart : Foot := ⟨[.load], [ent1 Ent.Lc.FLAGS, ent1 Ent.Lc.STATE], []⟩

/-- What `coupledTimeout` may change. -/
def Foot.coupledTimeout : Foot := ⟨[.mem, .logs, .load, .dma, .tenants], logEnts ++ [ent1 Ent.Hall.COUNTER_SAT, ent1 Ent.Lc.COUNTER_SAT, ent1
  Ent.Lc.FLAGS, ent1 Ent.Lc.LATCHES, ent1 Ent.Lc.STATE], [word1 Rg.Hpg.RING_EN, word1 Rg.Hpg.RING_HEAD, word1 Rg.Plat.SYS_IRQ]⟩

/-- What `retryBudgetReset` may change. -/
def Foot.retryBudgetReset : Foot := ⟨[], [ent1 Ent.Lc.RETRIES_LEFT], []⟩

/-- What `vbatUndervoltage` may change. -/
def Foot.vbatUndervoltage : Foot := ⟨[.mem, .logs, .load, .dma, .tenants], logEnts ++ [ent1 Ent.Lc.FLAGS, ent1 Ent.Lcg.VBAT_MV], [word1
  Rg.Hpg.RING_HEAD, word1 Rg.Plat.SYS_IRQ]⟩

/-- What `vbatRecover` may change. -/
def Foot.vbatRecover : Foot := ⟨[.load], [ent1 Ent.Lc.FLAGS, ent1 Ent.Lc.STATE, ent1 Ent.Lcg.VBAT_MV], []⟩

/-- What `clampDetect` may change. -/
def Foot.clampDetect : Foot := ⟨[.mem, .logs, .dma, .tenants], logEnts ++ [ent1 Ent.Lc.CLAMP_EVENTS, ent1 Ent.Lc.COUNTER_SAT], [word1
  Rg.Hpg.RING_HEAD, word1 Rg.Plat.SYS_IRQ]⟩

/-- What `offStateCheck` may change. -/
def Foot.offStateCheck : Foot := ⟨[.mem, .logs, .load, .dma, .tenants], logEnts ++ [ent1 Ent.Lc.COUNTER_SAT, ent1 Ent.Lc.FLAGS, ent1
  Ent.Lc.OPEN_LOADS, ent1 Ent.Lc.SHORTS_VBAT], [word1 Rg.Hpg.RING_HEAD, word1 Rg.Plat.SYS_IRQ]⟩

/-- What `senseStep` may change. -/
def Foot.senseStep : Foot := ⟨[.free, .load], [ent0 Ent.Lc.LOSS_MW, ent1 Ent.Lc.CURRENT_MA, ent1 Ent.Lc.FLAGS, ent1 Ent.Lc.TJ_C, ent1
  Ent.Lcg.DELTA_T_K, ent1 Ent.Lcg.DIE_TEMP_C, ent1 Ent.Lcg.VBAT_MV], []⟩

/-- What `channelHoldExpiry` may change. -/
def Foot.channelHoldExpiry : Foot := ⟨[.mem, .logs, .load, .dma, .tenants], logEnts ++ [ent1 Ent.Lc.FLAGS, ent1 Ent.Lc.STATE], [word1
  Rg.Hpg.RING_HEAD, word1 Rg.Plat.SYS_IRQ]⟩

/-- What `dieLinkTimeout` may change. -/
def Foot.dieLinkTimeout : Foot := ⟨[.mem, .logs, .load, .dma, .tenants, .clk], logEnts ++ [ent0 Ent.Clk.SSC_ACTIVE, ent1 Ent.Lc.FLAGS, ent1
  Ent.Lc.STATE], [word1 Rg.Hpg.RING_HEAD, word1 Rg.Plat.SYS_IRQ]⟩

/-- What `dieLinkReturn` may change. -/
def Foot.dieLinkReturn : Foot := ⟨[.mem, .logs, .load, .dma, .tenants], logEnts, [word1 Rg.Hpg.RING_HEAD, word1 Rg.Plat.SYS_IRQ]⟩

/-- What `lossHigh` may change. -/
def Foot.lossHigh : Foot := ⟨[.mem, .logs, .load, .dma, .tenants], logEnts, [word1 Rg.Hpg.RING_HEAD, word1 Rg.Plat.SYS_IRQ]⟩

/-- What `adcStart` may change. -/
def Foot.adcStart : Foot := ⟨[.mem, .logs, .limits, .adc, .dma, .tenants, .clk], logEnts ++ [ent0 Ent.Clk.SSC_ACTIVE, ent1 Ent.Adc.COUNTER_SAT, ent1
  Ent.Adc.OVERLAPS], [word1 Rg.Adcr.BUSY, word1 Rg.Adcr.IRQ, word1 Rg.Hpg.RING_HEAD, word1 Rg.Plat.SYS_IRQ]⟩

/-- What `adcRunComplete` may change. -/
def Foot.adcRunComplete : Foot := ⟨[.dict, .blobs, .regs, .mem, .epochs, .free, .logs, .limits, .drains, .time, .d0, .sw, .can, .sleep, .power, .br,
  .load, .adc, .scan, .dma, .tenants, .mezz, .clk, .sto, .upd, .held, .harts, .twin], [], []⟩

/-- What `shuntOpen` may change. -/
def Foot.shuntOpen : Foot := ⟨[.mem, .logs, .limits, .adc, .dma, .tenants], logEnts ++ [ent1 Ent.Ain.FLAGS], [word1 Rg.Hpg.RING_HEAD]⟩

/-- What `shuntClose` may change. -/
def Foot.shuntClose : Foot := ⟨[.adc], [], []⟩

/-- What `interruptSourceAssert` may change. -/
def Foot.interruptSourceAssert : Foot := ⟨[], [], [word0 Rg.M0Cpg.WFI, word1 Rg.Cpg.WFI, word1 Rg.Src.PENDING]⟩

/-- What `claim` may change. -/
def Foot.claim : Foot := ⟨[.mem, .logs, .limits, .scan, .dma, .tenants, .held], logEnts ++ [ent1 Ent.Core.CLAIMS, ent1 Ent.Core.COMPLETE_ERRORS, ent1
  Ent.Core.COUNTER_SAT, ent1 Ent.Core.STACK_FULL, ent1 Ent.Task.MAX_DELAY_NS], [word0 Rg.M0Cpg.DEPTH, word0 Rg.M0Cpg.WFI, word1 Rg.Cpg.DEPTH, word1
  Rg.Cpg.WFI, word1 Rg.Hpg.RING_HEAD, word1 Rg.M0Cpg.STK_SRC, word1 Rg.M0Src.PENDING, word1 Rg.Src.PENDING, word2 Rg.Cpg.STK_SRC]⟩

/-- What `complete` may change. -/
def Foot.complete : Foot := ⟨[.mem, .logs, .limits, .dma, .tenants], logEnts ++ [ent1 Ent.Core.CLAIMS, ent1 Ent.Core.COMPLETE_ERRORS, ent1
  Ent.Core.COUNTER_SAT, ent1 Ent.Core.STACK_FULL], [word0 Rg.M0Cpg.DEPTH, word0 Rg.M0Cpg.WFI, word1 Rg.Cpg.DEPTH, word1 Rg.Cpg.WFI, word1
  Rg.Hpg.RING_HEAD, word1 Rg.M0Cpg.STK_SRC, word1 Rg.M0Src.PENDING, word1 Rg.Src.PENDING, word2 Rg.Cpg.STK_SRC]⟩

/-- What `doorbell` may change. -/
def Foot.doorbell : Foot := ⟨[], [], [word0 Rg.M0Cpg.WFI, word1 Rg.Cpg.WFI, word1 Rg.Src.PENDING]⟩

/-- What `moderationExpiry` may change. -/
def Foot.moderationExpiry : Foot := ⟨[.held], [], [word0 Rg.M0Cpg.WFI, word1 Rg.Cpg.WFI]⟩

/-- What `wfiEnter` may change. -/
def Foot.wfiEnter : Foot := ⟨[.held], [], [word0 Rg.M0Cpg.WFI, word1 Rg.Cpg.WFI]⟩

/-- What `nhallWrite` may change. -/
def Foot.nhallWrite : Foot := ⟨[.harts], [], []⟩

/-- What `lockstepMismatch` may change. -/
def Foot.lockstepMismatch : Foot := ⟨[.regs, .mem, .epochs, .free, .logs, .limits, .d0, .sw, .can, .power, .br, .load, .scan, .dma, .tenants, .mezz,
  .clk, .sto, .held, .harts, .twin], logEnts ++ [ent0 Ent.Chg.CHANGES, ent0 Ent.Chg.CHANGE_RESULT, ent0 Ent.Chg.CHANGE_STATE, ent0
  Ent.Chg.CHANGE_STATUS, ent0 Ent.Chg.COUNTER_SAT, ent0 Ent.Chg.REFUSALS, ent0 Ent.Clk.SSC_ACTIVE, ent0 Ent.Se.CMD_STATUS, ent0 Ent.Se.FAULT_CAUSE,
  ent0 Ent.Se.STATE, ent0 Ent.Stw.COUNTER_SAT, ent0 Ent.Stw.STW_ECC_DROPS, ent0 Ent.Tws.ROLE, ent1 Ent.Bctx.COUNTER_SAT, ent1 Ent.Bctx.FAILURES, ent1
  Ent.Bctx.POSTED, ent1 Ent.Bctx.READS, ent1 Ent.Bctx.RETRANSMITS, ent1 Ent.Bctx.SESSION, ent1 Ent.Bctx.TIMEOUTS, ent1 Ent.CanCo.SDO_LAST_STATUS, ent1
  Ent.CanSt.COUNTER_SAT, ent1 Ent.CanSt.LOCK_EXPIRED, ent1 Ent.CanSt.TX_DISCARDED, ent1 Ent.Hall.CMD_STATUS, ent1 Ent.Hall.COUNTER_SAT, ent1
  Ent.Hall.FAULTS, ent1 Ent.Hall.FAULT_CAUSE, ent1 Ent.Hall.FROZEN_DROPS, ent1 Ent.Hall.RESETS, ent1 Ent.Hall.STATE, ent1 Ent.Heng.COUNTER_SAT, ent1
  Ent.Heng.NO_QP, ent1 Ent.Lc.FLAGS, ent1 Ent.Lc.STATE, ent1 Ent.Pair.COUNTER_SAT, ent1 Ent.Pair.MISMATCHES, ent1 Ent.Pair.STATE, ent1
  Ent.Port.EGRESS_FILTERED, ent1 Ent.Port.PORT_SAT, ent1 Ent.Port.TX_BYTES, ent1 Ent.Port.TX_FRAMES, ent1 Ent.Pq.CT_ABORTED, ent1 Ent.Pq.NO_DESC, ent1
  Ent.Pq.OVERSIZE, ent1 Ent.Pq.PORT_SAT, ent1 Ent.Pq.Q_SAT, ent1 Ent.Qp.ENABLE, ent1 Ent.Qp.STATE, ent1 Ent.Stn.COUNTER_SAT, ent1 Ent.Stn.LOSSES, ent1
  Ent.Stn.STATE, ent1 Ent.Task.COUNTER_SAT, ent1 Ent.Task.MERGED, ent2 Ent.Pq.DROP_DISABLED, ent2 Ent.Pq.DROP_DOWN, ent2 Ent.Pq.DROP_FULL, ent2
  Ent.Pq.DROP_RESIDENCE, ent2 Ent.Pq.DROP_STW], []⟩

/-- What `pairReset` may change. -/
def Foot.pairReset : Foot := ⟨[.br, .mezz, .held, .harts], [ent1 Ent.Pair.STATE], [word0 Rg.M0Cpg.DEPTH, word0 Rg.M0Cpg.WFI, word1 Rg.Cpg.DEPTH, word1
  Rg.Cpg.WFI, word1 Rg.M0Cpg.STK_SRC, word1 Rg.M0Src.PENDING, word1 Rg.Src.PENDING, word2 Rg.Cpg.STK_SRC]⟩

/-- What `debugHalt` may change. -/
def Foot.debugHalt : Foot := ⟨[.mezz, .harts], [], []⟩

/-- What `debugResume` may change. -/
def Foot.debugResume : Foot := ⟨[.mezz, .harts], [], []⟩

/-- What `debugStep` may change. -/
def Foot.debugStep : Foot := ⟨[.harts], [], []⟩

/-- What `accessRegister` may change. -/
def Foot.accessRegister : Foot := ⟨[.free, .harts], [], []⟩

/-- What `accessMemory` may change. -/
def Foot.accessMemory : Foot := ⟨[.dict, .blobs, .regs, .mem, .epochs, .free, .logs, .limits, .drains, .time, .d0, .sw, .can, .sleep, .power, .br,
  .load, .adc, .scan, .dma, .tenants, .mezz, .clk, .held, .harts, .twin], [], []⟩

/-- What `systemBusAccess` may change. -/
def Foot.systemBusAccess : Foot := ⟨[.dict, .blobs, .regs, .mem, .epochs, .free, .logs, .limits, .drains, .time, .d0, .sw, .can, .sleep, .power, .br,
  .load, .adc, .scan, .dma, .tenants, .mezz, .clk, .held, .harts, .twin], [], []⟩

/-- What `patrolScrub` may change. -/
def Foot.patrolScrub : Foot := ⟨[.mem, .logs, .limits, .dma, .tenants], logEnts ++ [ent0 Ent.Mem.CE_LAST, ent0 Ent.Mem.COUNTER_SAT, ent0
  Ent.Mem.DRAM_CE, ent0 Ent.Mem.DRAM_UE, ent0 Ent.Mem.SRAM_CE, ent0 Ent.Mem.SRAM_UE, ent0 Ent.Mem.UE_LAST], [word1 Rg.Hpg.RING_HEAD, word1
  Rg.Plat.SYS_IRQ]⟩

/-- What `dmaTailWrite` may change. -/
def Foot.dmaTailWrite : Foot := ⟨[.dma], [], [word1 Rg.Dmar.TAIL]⟩

/-- What `dmaDescriptorFetch` may change. -/
def Foot.dmaDescriptorFetch : Foot := ⟨[.mem, .logs, .dma, .tenants], logEnts ++ [ent1 Ent.Hall.COUNTER_SAT], [word1 Rg.Dmar.ACTIVE, word1
  Rg.Dmar.IRQ, word1 Rg.Hpg.RING_EN, word1 Rg.Hpg.RING_HEAD]⟩

/-- What `dmaBurst` may change. -/
def Foot.dmaBurst : Foot := ⟨[.dict, .blobs, .regs, .mem, .epochs, .free, .logs, .limits, .drains, .time, .d0, .sw, .can, .sleep, .power, .br, .load,
  .adc, .scan, .dma, .tenants, .mezz, .clk, .held, .harts, .twin], [], []⟩

/-- What `dmaDescriptorComplete` may change. -/
def Foot.dmaDescriptorComplete : Foot := ⟨[.mem, .logs, .limits, .dma, .tenants], logEnts ++ [ent1 Ent.Dma.BYTES, ent1 Ent.Dma.COUNTER_SAT, ent1
  Ent.Dma.DESCRIPTORS, ent1 Ent.Dma.ERRORS, ent1 Ent.Dma.STALE, ent1 Ent.Hall.COUNTER_SAT], [word1 Rg.Dmar.ACTIVE, word1 Rg.Dmar.HEAD, word1
  Rg.Dmar.IRQ, word1 Rg.Hpg.RING_EN, word1 Rg.Hpg.RING_HEAD]⟩

/-- What `dmaResume` may change. -/
def Foot.dmaResume : Foot := ⟨[.dma], [], [word1 Rg.Dmar.ACTIVE]⟩

/-- What `dmaAbort` may change. -/
def Foot.dmaAbort : Foot := ⟨[.mem, .logs, .limits, .dma, .tenants], logEnts ++ [ent1 Ent.Dma.BYTES, ent1 Ent.Dma.COUNTER_SAT, ent1
  Ent.Dma.DESCRIPTORS, ent1 Ent.Dma.ERRORS, ent1 Ent.Dma.STALE, ent1 Ent.Hall.COUNTER_SAT], [word1 Rg.Dmar.ACTIVE, word1 Rg.Dmar.HEAD, word1
  Rg.Dmar.IRQ, word1 Rg.Hpg.RING_EN, word1 Rg.Hpg.RING_HEAD]⟩

/-- What `dmaInval` may change. -/
def Foot.dmaInval : Foot := ⟨[], [], [word1 Rg.Dmar.ACTIVE]⟩

/-- What `dmaInvalComplete` may change. -/
def Foot.dmaInvalComplete : Foot := ⟨[.dma], [], [word1 Rg.Dmar.ACTIVE]⟩

/-- What `qpRxFrame` may change. -/
def Foot.qpRxFrame : Foot := ⟨[.mem, .logs, .limits, .sw, .dma, .tenants], logEnts ++ [ent0 Ent.Stw.COUNTER_SAT, ent0 Ent.Stw.STW_ECC_DROPS, ent1
  Ent.Hall.COUNTER_SAT, ent1 Ent.Hall.FROZEN_DROPS, ent1 Ent.Heng.COUNTER_SAT, ent1 Ent.Heng.NO_QP, ent1 Ent.Port.EGRESS_FILTERED, ent1
  Ent.Port.PORT_SAT, ent1 Ent.Pq.COPIES_DROPPED, ent1 Ent.Pq.CT_ABORTED, ent1 Ent.Pq.NO_DESC, ent1 Ent.Pq.OVERSIZE, ent1 Ent.Pq.PORT_SAT, ent1
  Ent.Pq.Q_SAT, ent1 Ent.Qp.COUNTER_SAT, ent1 Ent.Qp.RX_FAULTS, ent1 Ent.Qp.RX_FRAMES, ent1 Ent.Qp.RX_TRUNC, ent2 Ent.Pq.DROP_DISABLED, ent2
  Ent.Pq.DROP_DOWN, ent2 Ent.Pq.DROP_FULL, ent2 Ent.Pq.DROP_RESIDENCE, ent2 Ent.Pq.DROP_STW], [word1 Rg.Hpg.RING_HEAD, word1 Rg.Qpr.IRQ, word1
  Rg.Qpr.RX_HEAD]⟩

/-- What `qpTxFrame` may change. -/
def Foot.qpTxFrame : Foot := ⟨[.mem, .logs, .limits, .dma, .tenants], logEnts ++ [ent1 Ent.Qp.COUNTER_SAT, ent1 Ent.Qp.ERR_LOST, ent1
  Ent.Qp.TX_ERRORS, ent1 Ent.Qp.TX_FRAMES], [word1 Rg.Hpg.RING_HEAD, word1 Rg.Qpr.ERR_HEAD, word1 Rg.Qpr.IRQ, word1 Rg.Qpr.TX_HEAD]⟩

/-- What `hallCreate` may change. -/
def Foot.hallCreate : Foot := ⟨[.mem, .epochs, .logs, .d0, .sw, .can, .power, .br, .dma, .tenants, .twin], logEnts ++ [ent0 Ent.Stw.COUNTER_SAT, ent0
  Ent.Stw.STW_ECC_DROPS, ent1 Ent.CanCo.SDO_LAST_STATUS, ent1 Ent.CanSt.COUNTER_SAT, ent1 Ent.CanSt.TX_DISCARDED, ent1 Ent.Hall.CMD_STATUS, ent1
  Ent.Hall.COUNTER_SAT, ent1 Ent.Hall.FROZEN_DROPS, ent1 Ent.Hall.STATE, ent1 Ent.Heng.COUNTER_SAT, ent1 Ent.Heng.NO_QP, ent1
  Ent.Port.EGRESS_FILTERED, ent1 Ent.Port.PORT_SAT, ent1 Ent.Port.TX_BYTES, ent1 Ent.Port.TX_FRAMES, ent1 Ent.Pq.CT_ABORTED, ent1 Ent.Pq.NO_DESC, ent1
  Ent.Pq.OVERSIZE, ent1 Ent.Pq.PORT_SAT, ent1 Ent.Pq.Q_SAT, ent2 Ent.Pq.DROP_DISABLED, ent2 Ent.Pq.DROP_DOWN, ent2 Ent.Pq.DROP_FULL, ent2
  Ent.Pq.DROP_RESIDENCE, ent2 Ent.Pq.DROP_STW], [word0 Rg.Smb.DONE, word0 Rg.Smb.MB_LEN, word0 Rg.Smb.MB_TOTAL, word1 Rg.Hpg.RING_EN, word1
  Rg.Hpg.RING_HEAD, word1 Rg.Mb.DONE, word1 Rg.Mb.MB_LEN, word1 Rg.Mb.MB_TOTAL, word1 Rg.Smb.MB_DATA, word2 Rg.Mb.MB_DATA]⟩

/-- What `hallDestroy` may change. -/
def Foot.hallDestroy : Foot := ⟨[.regs, .mem, .epochs, .free, .logs, .limits, .d0, .sw, .can, .power, .br, .scan, .dma, .tenants, .mezz, .sto, .held,
  .harts, .twin], logEnts ++ [ent0 Ent.Stw.COUNTER_SAT, ent0 Ent.Stw.STW_ECC_DROPS, ent1 Ent.Bctx.COUNTER_SAT, ent1 Ent.Bctx.ENABLE, ent1
  Ent.Bctx.FAILURES, ent1 Ent.Bctx.HALL, ent1 Ent.Bctx.POSTED, ent1 Ent.Bctx.READS, ent1 Ent.Bctx.RETRANSMITS, ent1 Ent.Bctx.SESSION, ent1
  Ent.Bctx.STATE, ent1 Ent.Bctx.TIMEOUTS, ent1 Ent.Bind.ENABLE, ent1 Ent.Bind.HALL, ent1 Ent.Bu.ENDPOINTS, ent1 Ent.CanCo.SDO_LAST_STATUS, ent1
  Ent.CanObj.OBJ_TABLE, ent1 Ent.CanObj.TXB_HALL, ent1 Ent.CanSt.COUNTER_SAT, ent1 Ent.CanSt.LOCK_EXPIRED, ent1 Ent.CanSt.TX_DISCARDED, ent1
  Ent.Dma.ENABLE, ent1 Ent.Dma.HALL, ent1 Ent.Dma.STATE, ent1 Ent.Hall.CCORES, ent1 Ent.Hall.CMD_STATUS, ent1 Ent.Hall.COUNTER_SAT, ent1
  Ent.Hall.FROZEN_DROPS, ent1 Ent.Hall.RESETS, ent1 Ent.Hall.STATE, ent1 Ent.Heng.COUNTER_SAT, ent1 Ent.Heng.NO_QP, ent1 Ent.Iommu.WINDOWS, ent1
  Ent.Port.EGRESS_FILTERED, ent1 Ent.Port.PORT_SAT, ent1 Ent.Port.TX_BYTES, ent1 Ent.Port.TX_FRAMES, ent1 Ent.Pq.CT_ABORTED, ent1 Ent.Pq.NO_DESC, ent1
  Ent.Pq.OVERSIZE, ent1 Ent.Pq.PORT_SAT, ent1 Ent.Pq.Q_SAT, ent1 Ent.Qp.ENABLE, ent1 Ent.Qp.HALL, ent1 Ent.Qp.STATE, ent1 Ent.Stn.COUNTER_SAT, ent1
  Ent.Stn.LOSSES, ent1 Ent.Stn.STATE, ent1 Ent.Task.COUNTER_SAT, ent1 Ent.Task.MERGED, ent2 Ent.Pq.DROP_DISABLED, ent2 Ent.Pq.DROP_DOWN, ent2
  Ent.Pq.DROP_FULL, ent2 Ent.Pq.DROP_RESIDENCE, ent2 Ent.Pq.DROP_STW], []⟩

/-- What `hallReset` may change. -/
def Foot.hallReset : Foot := ⟨[.regs, .mem, .epochs, .free, .logs, .limits, .d0, .sw, .can, .power, .br, .scan, .dma, .tenants, .mezz, .sto, .held,
  .harts, .twin], logEnts ++ [ent0 Ent.Stw.COUNTER_SAT, ent0 Ent.Stw.STW_ECC_DROPS, ent1 Ent.Bctx.COUNTER_SAT, ent1 Ent.Bctx.FAILURES, ent1
  Ent.Bctx.POSTED, ent1 Ent.Bctx.READS, ent1 Ent.Bctx.RETRANSMITS, ent1 Ent.Bctx.SESSION, ent1 Ent.Bctx.TIMEOUTS, ent1 Ent.CanCo.SDO_LAST_STATUS, ent1
  Ent.CanSt.COUNTER_SAT, ent1 Ent.CanSt.LOCK_EXPIRED, ent1 Ent.CanSt.TX_DISCARDED, ent1 Ent.Hall.CMD_STATUS, ent1 Ent.Hall.COUNTER_SAT, ent1
  Ent.Hall.FROZEN_DROPS, ent1 Ent.Hall.RESETS, ent1 Ent.Hall.STATE, ent1 Ent.Heng.COUNTER_SAT, ent1 Ent.Heng.NO_QP, ent1 Ent.Port.EGRESS_FILTERED,
  ent1 Ent.Port.PORT_SAT, ent1 Ent.Port.TX_BYTES, ent1 Ent.Port.TX_FRAMES, ent1 Ent.Pq.CT_ABORTED, ent1 Ent.Pq.NO_DESC, ent1 Ent.Pq.OVERSIZE, ent1
  Ent.Pq.PORT_SAT, ent1 Ent.Pq.Q_SAT, ent1 Ent.Qp.ENABLE, ent1 Ent.Qp.STATE, ent1 Ent.Stn.COUNTER_SAT, ent1 Ent.Stn.LOSSES, ent1 Ent.Stn.STATE, ent1
  Ent.Task.COUNTER_SAT, ent1 Ent.Task.MERGED, ent2 Ent.Pq.DROP_DISABLED, ent2 Ent.Pq.DROP_DOWN, ent2 Ent.Pq.DROP_FULL, ent2 Ent.Pq.DROP_RESIDENCE,
  ent2 Ent.Pq.DROP_STW], []⟩

/-- What `hallFreeze` may change. -/
def Foot.hallFreeze : Foot := ⟨[.mem, .logs, .d0, .sw, .can, .power, .br, .dma, .tenants, .harts, .twin], logEnts ++ [ent0 Ent.Stw.COUNTER_SAT, ent0
  Ent.Stw.STW_ECC_DROPS, ent1 Ent.CanCo.SDO_LAST_STATUS, ent1 Ent.CanSt.COUNTER_SAT, ent1 Ent.CanSt.TX_DISCARDED, ent1 Ent.Hall.CMD_STATUS, ent1
  Ent.Hall.COUNTER_SAT, ent1 Ent.Hall.FROZEN_DROPS, ent1 Ent.Hall.STATE, ent1 Ent.Heng.COUNTER_SAT, ent1 Ent.Heng.NO_QP, ent1
  Ent.Port.EGRESS_FILTERED, ent1 Ent.Port.PORT_SAT, ent1 Ent.Port.TX_BYTES, ent1 Ent.Port.TX_FRAMES, ent1 Ent.Pq.CT_ABORTED, ent1 Ent.Pq.NO_DESC, ent1
  Ent.Pq.OVERSIZE, ent1 Ent.Pq.PORT_SAT, ent1 Ent.Pq.Q_SAT, ent2 Ent.Pq.DROP_DISABLED, ent2 Ent.Pq.DROP_DOWN, ent2 Ent.Pq.DROP_FULL, ent2
  Ent.Pq.DROP_RESIDENCE, ent2 Ent.Pq.DROP_STW], [word0 Rg.Smb.DONE, word0 Rg.Smb.MB_LEN, word0 Rg.Smb.MB_TOTAL, word1 Rg.Hpg.RING_EN, word1
  Rg.Hpg.RING_HEAD, word1 Rg.Mb.DONE, word1 Rg.Mb.MB_LEN, word1 Rg.Mb.MB_TOTAL, word1 Rg.Smb.MB_DATA, word2 Rg.Mb.MB_DATA]⟩

/-- What `hallAtRest` may change. -/
def Foot.hallAtRest : Foot := ⟨[.mem, .free, .logs, .d0, .sw, .can, .power, .br, .dma, .tenants, .twin], logEnts ++ [ent0 Ent.Stw.COUNTER_SAT, ent0
  Ent.Stw.STW_ECC_DROPS, ent1 Ent.CanCo.SDO_LAST_STATUS, ent1 Ent.CanSt.COUNTER_SAT, ent1 Ent.CanSt.TX_DISCARDED, ent1 Ent.Hall.CMD_STATUS, ent1
  Ent.Hall.COUNTER_SAT, ent1 Ent.Hall.FROZEN_DROPS, ent1 Ent.Heng.COUNTER_SAT, ent1 Ent.Heng.NO_QP, ent1 Ent.Port.EGRESS_FILTERED, ent1
  Ent.Port.PORT_SAT, ent1 Ent.Port.TX_BYTES, ent1 Ent.Port.TX_FRAMES, ent1 Ent.Pq.CT_ABORTED, ent1 Ent.Pq.NO_DESC, ent1 Ent.Pq.OVERSIZE, ent1
  Ent.Pq.PORT_SAT, ent1 Ent.Pq.Q_SAT, ent2 Ent.Pq.DROP_DISABLED, ent2 Ent.Pq.DROP_DOWN, ent2 Ent.Pq.DROP_FULL, ent2 Ent.Pq.DROP_RESIDENCE, ent2
  Ent.Pq.DROP_STW], [word0 Rg.Smb.DONE, word0 Rg.Smb.MB_LEN, word0 Rg.Smb.MB_TOTAL, word1 Rg.Hpg.RING_HEAD, word1 Rg.Mb.DONE, word1 Rg.Mb.MB_LEN,
  word1 Rg.Mb.MB_TOTAL, word1 Rg.Smb.MB_DATA, word2 Rg.Mb.MB_DATA]⟩

/-- What `hallThaw` may change. -/
def Foot.hallThaw : Foot := ⟨[.mem, .free, .logs, .limits, .d0, .sw, .can, .power, .br, .dma, .tenants, .harts, .twin], logEnts ++ [ent0
  Ent.Stw.COUNTER_SAT, ent0 Ent.Stw.STW_ECC_DROPS, ent1 Ent.Bctx.COUNTER_SAT, ent1 Ent.Bctx.FAILURES, ent1 Ent.Bctx.POSTED, ent1 Ent.Bctx.READS, ent1
  Ent.Bctx.RETRANSMITS, ent1 Ent.Bctx.SESSION, ent1 Ent.Bctx.TIMEOUTS, ent1 Ent.CanCo.SDO_LAST_STATUS, ent1 Ent.CanSt.COUNTER_SAT, ent1
  Ent.CanSt.TX_DISCARDED, ent1 Ent.Hall.CMD_STATUS, ent1 Ent.Hall.COUNTER_SAT, ent1 Ent.Hall.FROZEN_DROPS, ent1 Ent.Hall.MIGRATIONS, ent1
  Ent.Hall.STATE, ent1 Ent.Heng.COUNTER_SAT, ent1 Ent.Heng.NO_QP, ent1 Ent.Port.EGRESS_FILTERED, ent1 Ent.Port.PORT_SAT, ent1 Ent.Port.TX_BYTES, ent1
  Ent.Port.TX_FRAMES, ent1 Ent.Pq.CT_ABORTED, ent1 Ent.Pq.NO_DESC, ent1 Ent.Pq.OVERSIZE, ent1 Ent.Pq.PORT_SAT, ent1 Ent.Pq.Q_SAT, ent2
  Ent.Pq.DROP_DISABLED, ent2 Ent.Pq.DROP_DOWN, ent2 Ent.Pq.DROP_FULL, ent2 Ent.Pq.DROP_RESIDENCE, ent2 Ent.Pq.DROP_STW], [word0 Rg.Smb.DONE, word0
  Rg.Smb.MB_LEN, word0 Rg.Smb.MB_TOTAL, word1 Rg.Hpg.RING_EN, word1 Rg.Hpg.RING_HEAD, word1 Rg.Mb.DONE, word1 Rg.Mb.MB_LEN, word1 Rg.Mb.MB_TOTAL,
  word1 Rg.Smb.MB_DATA, word2 Rg.Ctx.BST_ADDR_HI, word2 Rg.Ctx.BST_ADDR_LO, word2 Rg.Ctx.FAILED, word2 Rg.Ctx.FAR_CODE, word2 Rg.Ctx.IRQ, word2
  Rg.Ctx.PW_DONE, word2 Rg.Ctx.SESSION, word2 Rg.Ep.MERGED, word2 Rg.Mb.MB_DATA, word2 fun u k => rmb u k Rg.Mb.CODE, word2 fun u k => rmb u k
  Rg.Mb.GO, word2 fun u k => rmb u k Rg.Mb.MB_LEN, word2 fun u k => rmb u k Rg.Mb.MB_TOTAL, word3 fun u k i => rmb u k fun n => Rg.Mb.MB_DATA n i]⟩

/-- What `hallSave` may change. -/
def Foot.hallSave : Foot := ⟨[.mem, .free, .logs, .d0, .sw, .can, .power, .br, .dma, .tenants, .twin], logEnts ++ [ent0 Ent.Stw.COUNTER_SAT, ent0
  Ent.Stw.STW_ECC_DROPS, ent1 Ent.CanCo.SDO_LAST_STATUS, ent1 Ent.CanSt.COUNTER_SAT, ent1 Ent.CanSt.TX_DISCARDED, ent1 Ent.Hall.CMD_STATUS, ent1
  Ent.Hall.COUNTER_SAT, ent1 Ent.Hall.FROZEN_DROPS, ent1 Ent.Hall.HALL_STATE, ent1 Ent.Heng.COUNTER_SAT, ent1 Ent.Heng.NO_QP, ent1
  Ent.Port.EGRESS_FILTERED, ent1 Ent.Port.PORT_SAT, ent1 Ent.Port.TX_BYTES, ent1 Ent.Port.TX_FRAMES, ent1 Ent.Pq.CT_ABORTED, ent1 Ent.Pq.NO_DESC, ent1
  Ent.Pq.OVERSIZE, ent1 Ent.Pq.PORT_SAT, ent1 Ent.Pq.Q_SAT, ent2 Ent.Pq.DROP_DISABLED, ent2 Ent.Pq.DROP_DOWN, ent2 Ent.Pq.DROP_FULL, ent2
  Ent.Pq.DROP_RESIDENCE, ent2 Ent.Pq.DROP_STW], [word0 Rg.Smb.DONE, word0 Rg.Smb.MB_LEN, word0 Rg.Smb.MB_TOTAL, word1 Rg.Hpg.RING_HEAD, word1
  Rg.Mb.DONE, word1 Rg.Mb.MB_LEN, word1 Rg.Mb.MB_TOTAL, word1 Rg.Smb.MB_DATA, word2 Rg.Mb.MB_DATA]⟩

/-- What `hallRestore` may change. -/
def Foot.hallRestore : Foot := ⟨[.dict, .blobs, .regs, .mem, .epochs, .logs, .d0, .sw, .can, .power, .br, .dma, .tenants, .harts, .twin], [], []⟩

/-- What `hallMigrate` may change. -/
def Foot.hallMigrate : Foot := ⟨[.mem, .logs, .d0, .sw, .can, .power, .br, .dma, .tenants, .twin], logEnts ++ [ent0 Ent.Stw.COUNTER_SAT, ent0
  Ent.Stw.STW_ECC_DROPS, ent1 Ent.CanCo.SDO_LAST_STATUS, ent1 Ent.CanSt.COUNTER_SAT, ent1 Ent.CanSt.TX_DISCARDED, ent1 Ent.Hall.CMD_STATUS, ent1
  Ent.Hall.COUNTER_SAT, ent1 Ent.Hall.FROZEN_DROPS, ent1 Ent.Hall.STATE, ent1 Ent.Heng.COUNTER_SAT, ent1 Ent.Heng.NO_QP, ent1
  Ent.Port.EGRESS_FILTERED, ent1 Ent.Port.PORT_SAT, ent1 Ent.Port.TX_BYTES, ent1 Ent.Port.TX_FRAMES, ent1 Ent.Pq.CT_ABORTED, ent1 Ent.Pq.NO_DESC, ent1
  Ent.Pq.OVERSIZE, ent1 Ent.Pq.PORT_SAT, ent1 Ent.Pq.Q_SAT, ent2 Ent.Pq.DROP_DISABLED, ent2 Ent.Pq.DROP_DOWN, ent2 Ent.Pq.DROP_FULL, ent2
  Ent.Pq.DROP_RESIDENCE, ent2 Ent.Pq.DROP_STW], [word0 Rg.Smb.DONE, word0 Rg.Smb.MB_LEN, word0 Rg.Smb.MB_TOTAL, word1 Rg.Hpg.RING_EN, word1
  Rg.Hpg.RING_HEAD, word1 Rg.Mb.DONE, word1 Rg.Mb.MB_LEN, word1 Rg.Mb.MB_TOTAL, word1 Rg.Smb.MB_DATA, word2 Rg.Mb.MB_DATA]⟩

/-- What `hallGo` may change. -/
def Foot.hallGo : Foot := ⟨[.mem, .logs, .d0, .sw, .can, .power, .br, .dma, .tenants, .harts, .twin], logEnts ++ [ent0 Ent.Stw.COUNTER_SAT, ent0
  Ent.Stw.STW_ECC_DROPS, ent1 Ent.CanCo.SDO_LAST_STATUS, ent1 Ent.CanSt.COUNTER_SAT, ent1 Ent.CanSt.TX_DISCARDED, ent1 Ent.Hall.CMD_STATUS, ent1
  Ent.Hall.COUNTER_SAT, ent1 Ent.Hall.FROZEN_DROPS, ent1 Ent.Hall.STATE, ent1 Ent.Heng.COUNTER_SAT, ent1 Ent.Heng.NO_QP, ent1
  Ent.Port.EGRESS_FILTERED, ent1 Ent.Port.PORT_SAT, ent1 Ent.Port.TX_BYTES, ent1 Ent.Port.TX_FRAMES, ent1 Ent.Pq.CT_ABORTED, ent1 Ent.Pq.NO_DESC, ent1
  Ent.Pq.OVERSIZE, ent1 Ent.Pq.PORT_SAT, ent1 Ent.Pq.Q_SAT, ent2 Ent.Pq.DROP_DISABLED, ent2 Ent.Pq.DROP_DOWN, ent2 Ent.Pq.DROP_FULL, ent2
  Ent.Pq.DROP_RESIDENCE, ent2 Ent.Pq.DROP_STW], [word0 Rg.Smb.DONE, word0 Rg.Smb.MB_LEN, word0 Rg.Smb.MB_TOTAL, word1 Rg.Hpg.RING_EN, word1
  Rg.Hpg.RING_HEAD, word1 Rg.Mb.DONE, word1 Rg.Mb.MB_LEN, word1 Rg.Mb.MB_TOTAL, word1 Rg.Smb.MB_DATA, word2 Rg.Mb.MB_DATA]⟩

/-- What `hallCancel` may change. -/
def Foot.hallCancel : Foot := ⟨[.mem, .free, .logs, .limits, .d0, .sw, .can, .power, .br, .dma, .tenants, .harts, .twin], logEnts ++ [ent0
  Ent.Stw.COUNTER_SAT, ent0 Ent.Stw.STW_ECC_DROPS, ent1 Ent.Bctx.COUNTER_SAT, ent1 Ent.Bctx.FAILURES, ent1 Ent.Bctx.POSTED, ent1 Ent.Bctx.READS, ent1
  Ent.Bctx.RETRANSMITS, ent1 Ent.Bctx.SESSION, ent1 Ent.Bctx.TIMEOUTS, ent1 Ent.CanCo.SDO_LAST_STATUS, ent1 Ent.CanSt.COUNTER_SAT, ent1
  Ent.CanSt.TX_DISCARDED, ent1 Ent.Hall.CMD_STATUS, ent1 Ent.Hall.COUNTER_SAT, ent1 Ent.Hall.FROZEN_DROPS, ent1 Ent.Hall.STATE, ent1
  Ent.Heng.COUNTER_SAT, ent1 Ent.Heng.NO_QP, ent1 Ent.Port.EGRESS_FILTERED, ent1 Ent.Port.PORT_SAT, ent1 Ent.Port.TX_BYTES, ent1 Ent.Port.TX_FRAMES,
  ent1 Ent.Pq.CT_ABORTED, ent1 Ent.Pq.NO_DESC, ent1 Ent.Pq.OVERSIZE, ent1 Ent.Pq.PORT_SAT, ent1 Ent.Pq.Q_SAT, ent2 Ent.Pq.DROP_DISABLED, ent2
  Ent.Pq.DROP_DOWN, ent2 Ent.Pq.DROP_FULL, ent2 Ent.Pq.DROP_RESIDENCE, ent2 Ent.Pq.DROP_STW], [word0 Rg.Smb.DONE, word0 Rg.Smb.MB_LEN, word0
  Rg.Smb.MB_TOTAL, word1 Rg.Hpg.RING_EN, word1 Rg.Hpg.RING_HEAD, word1 Rg.Mb.DONE, word1 Rg.Mb.MB_LEN, word1 Rg.Mb.MB_TOTAL, word1 Rg.Smb.MB_DATA,
  word2 Rg.Ctx.BST_ADDR_HI, word2 Rg.Ctx.BST_ADDR_LO, word2 Rg.Ctx.FAILED, word2 Rg.Ctx.FAR_CODE, word2 Rg.Ctx.IRQ, word2 Rg.Ctx.PW_DONE, word2
  Rg.Ctx.SESSION, word2 Rg.Ep.MERGED, word2 Rg.Mb.MB_DATA, word2 fun u k => rmb u k Rg.Mb.CODE, word2 fun u k => rmb u k Rg.Mb.GO, word2 fun u k =>
  rmb u k Rg.Mb.MB_LEN, word2 fun u k => rmb u k Rg.Mb.MB_TOTAL, word3 fun u k i => rmb u k fun n => Rg.Mb.MB_DATA n i]⟩

/-- What `hallFaultCmd` may change. -/
def Foot.hallFaultCmd : Foot := ⟨[.regs, .mem, .epochs, .free, .logs, .limits, .d0, .sw, .can, .power, .br, .scan, .dma, .tenants, .mezz, .sto, .held,
  .harts, .twin], logEnts ++ [ent0 Ent.Stw.COUNTER_SAT, ent0 Ent.Stw.STW_ECC_DROPS, ent1 Ent.Bctx.COUNTER_SAT, ent1 Ent.Bctx.FAILURES, ent1
  Ent.Bctx.POSTED, ent1 Ent.Bctx.READS, ent1 Ent.Bctx.RETRANSMITS, ent1 Ent.Bctx.SESSION, ent1 Ent.Bctx.TIMEOUTS, ent1 Ent.CanCo.SDO_LAST_STATUS, ent1
  Ent.CanSt.COUNTER_SAT, ent1 Ent.CanSt.LOCK_EXPIRED, ent1 Ent.CanSt.TX_DISCARDED, ent1 Ent.Hall.CMD_STATUS, ent1 Ent.Hall.COUNTER_SAT, ent1
  Ent.Hall.FAULTS, ent1 Ent.Hall.FAULT_CAUSE, ent1 Ent.Hall.FROZEN_DROPS, ent1 Ent.Hall.RESETS, ent1 Ent.Hall.STATE, ent1 Ent.Heng.COUNTER_SAT, ent1
  Ent.Heng.NO_QP, ent1 Ent.Port.EGRESS_FILTERED, ent1 Ent.Port.PORT_SAT, ent1 Ent.Port.TX_BYTES, ent1 Ent.Port.TX_FRAMES, ent1 Ent.Pq.CT_ABORTED, ent1
  Ent.Pq.NO_DESC, ent1 Ent.Pq.OVERSIZE, ent1 Ent.Pq.PORT_SAT, ent1 Ent.Pq.Q_SAT, ent1 Ent.Qp.ENABLE, ent1 Ent.Qp.STATE, ent1 Ent.Stn.COUNTER_SAT, ent1
  Ent.Stn.LOSSES, ent1 Ent.Stn.STATE, ent1 Ent.Task.COUNTER_SAT, ent1 Ent.Task.MERGED, ent2 Ent.Pq.DROP_DISABLED, ent2 Ent.Pq.DROP_DOWN, ent2
  Ent.Pq.DROP_FULL, ent2 Ent.Pq.DROP_RESIDENCE, ent2 Ent.Pq.DROP_STW], []⟩

/-- What `hallWdtKick` may change. -/
def Foot.hallWdtKick : Foot := ⟨[.tenants], [], []⟩

/-- What `hallWdtExpiry` may change. -/
def Foot.hallWdtExpiry : Foot := ⟨[.regs, .mem, .epochs, .free, .logs, .limits, .d0, .sw, .can, .power, .br, .scan, .dma, .tenants, .mezz, .sto,
  .held, .harts, .twin], logEnts ++ [ent0 Ent.Stw.COUNTER_SAT, ent0 Ent.Stw.STW_ECC_DROPS, ent1 Ent.Bctx.COUNTER_SAT, ent1 Ent.Bctx.FAILURES, ent1
  Ent.Bctx.POSTED, ent1 Ent.Bctx.READS, ent1 Ent.Bctx.RETRANSMITS, ent1 Ent.Bctx.SESSION, ent1 Ent.Bctx.TIMEOUTS, ent1 Ent.CanCo.SDO_LAST_STATUS, ent1
  Ent.CanSt.COUNTER_SAT, ent1 Ent.CanSt.LOCK_EXPIRED, ent1 Ent.CanSt.TX_DISCARDED, ent1 Ent.Hall.CMD_STATUS, ent1 Ent.Hall.COUNTER_SAT, ent1
  Ent.Hall.FAULTS, ent1 Ent.Hall.FAULT_CAUSE, ent1 Ent.Hall.FROZEN_DROPS, ent1 Ent.Hall.RESETS, ent1 Ent.Hall.STATE, ent1 Ent.Heng.COUNTER_SAT, ent1
  Ent.Heng.NO_QP, ent1 Ent.Port.EGRESS_FILTERED, ent1 Ent.Port.PORT_SAT, ent1 Ent.Port.TX_BYTES, ent1 Ent.Port.TX_FRAMES, ent1 Ent.Pq.CT_ABORTED, ent1
  Ent.Pq.NO_DESC, ent1 Ent.Pq.OVERSIZE, ent1 Ent.Pq.PORT_SAT, ent1 Ent.Pq.Q_SAT, ent1 Ent.Qp.ENABLE, ent1 Ent.Qp.STATE, ent1 Ent.Stn.COUNTER_SAT, ent1
  Ent.Stn.LOSSES, ent1 Ent.Stn.STATE, ent1 Ent.Task.COUNTER_SAT, ent1 Ent.Task.MERGED, ent2 Ent.Pq.DROP_DISABLED, ent2 Ent.Pq.DROP_DOWN, ent2
  Ent.Pq.DROP_FULL, ent2 Ent.Pq.DROP_RESIDENCE, ent2 Ent.Pq.DROP_STW], []⟩

/-- What `hallDoorbell` may change. -/
def Foot.hallDoorbell : Foot := ⟨[], [], [word1 Rg.Hpg.LINES_SET]⟩

/-- What `migAccept` may change. -/
def Foot.migAccept : Foot := ⟨[.mem, .logs, .dma, .tenants, .twin], logEnts ++ [ent1 Ent.Hall.COUNTER_SAT, ent1 Ent.Hall.STATE, ent1
  Ent.Port.PORT_SAT, ent1 Ent.Port.TX_BYTES, ent1 Ent.Port.TX_FRAMES], [word1 Rg.Hpg.RING_EN, word1 Rg.Hpg.RING_HEAD]⟩

/-- What `migPassComplete` may change. -/
def Foot.migPassComplete : Foot := ⟨[.mem, .free, .logs, .limits, .d0, .sw, .can, .power, .br, .dma, .tenants, .harts, .twin], logEnts ++ [ent0
  Ent.Stw.COUNTER_SAT, ent0 Ent.Stw.STW_ECC_DROPS, ent1 Ent.Bctx.COUNTER_SAT, ent1 Ent.Bctx.FAILURES, ent1 Ent.Bctx.POSTED, ent1 Ent.Bctx.READS, ent1
  Ent.Bctx.RETRANSMITS, ent1 Ent.Bctx.SESSION, ent1 Ent.Bctx.TIMEOUTS, ent1 Ent.CanCo.SDO_LAST_STATUS, ent1 Ent.CanSt.COUNTER_SAT, ent1
  Ent.CanSt.TX_DISCARDED, ent1 Ent.Hall.CMD_STATUS, ent1 Ent.Hall.COUNTER_SAT, ent1 Ent.Hall.FROZEN_DROPS, ent1 Ent.Hall.STATE, ent1
  Ent.Heng.COUNTER_SAT, ent1 Ent.Heng.NO_QP, ent1 Ent.Port.EGRESS_FILTERED, ent1 Ent.Port.PORT_SAT, ent1 Ent.Port.TX_BYTES, ent1 Ent.Port.TX_FRAMES,
  ent1 Ent.Pq.CT_ABORTED, ent1 Ent.Pq.NO_DESC, ent1 Ent.Pq.OVERSIZE, ent1 Ent.Pq.PORT_SAT, ent1 Ent.Pq.Q_SAT, ent2 Ent.Pq.DROP_DISABLED, ent2
  Ent.Pq.DROP_DOWN, ent2 Ent.Pq.DROP_FULL, ent2 Ent.Pq.DROP_RESIDENCE, ent2 Ent.Pq.DROP_STW], [word0 Rg.Smb.DONE, word0 Rg.Smb.MB_LEN, word0
  Rg.Smb.MB_TOTAL, word1 Rg.Hpg.RING_EN, word1 Rg.Hpg.RING_HEAD, word1 Rg.Mb.DONE, word1 Rg.Mb.MB_LEN, word1 Rg.Mb.MB_TOTAL, word1 Rg.Smb.MB_DATA,
  word2 Rg.Ctx.BST_ADDR_HI, word2 Rg.Ctx.BST_ADDR_LO, word2 Rg.Ctx.FAILED, word2 Rg.Ctx.FAR_CODE, word2 Rg.Ctx.IRQ, word2 Rg.Ctx.PW_DONE, word2
  Rg.Ctx.SESSION, word2 Rg.Ep.MERGED, word2 Rg.Mb.MB_DATA, word2 fun u k => rmb u k Rg.Mb.CODE, word2 fun u k => rmb u k Rg.Mb.GO, word2 fun u k =>
  rmb u k Rg.Mb.MB_LEN, word2 fun u k => rmb u k Rg.Mb.MB_TOTAL, word3 fun u k i => rmb u k fun n => Rg.Mb.MB_DATA n i]⟩

/-- What `migStateReceived` may change. -/
def Foot.migStateReceived : Foot := ⟨[.dict, .blobs, .regs, .mem, .epochs, .free, .logs, .limits, .d0, .can, .br, .scan, .dma, .tenants, .mezz, .sto,
  .held, .harts, .twin], [], []⟩

/-- What `migReadyReceive` may change. -/
def Foot.migReadyReceive : Foot := ⟨[.mem, .epochs, .free, .logs, .limits, .d0, .sw, .can, .power, .br, .dma, .tenants, .mezz, .sto, .held, .harts,
  .twin], logEnts ++ [ent0 Ent.Stw.COUNTER_SAT, ent0 Ent.Stw.STW_ECC_DROPS, ent1 Ent.Bctx.COUNTER_SAT, ent1 Ent.Bctx.ENABLE, ent1 Ent.Bctx.FAILURES,
  ent1 Ent.Bctx.HALL, ent1 Ent.Bctx.POSTED, ent1 Ent.Bctx.READS, ent1 Ent.Bctx.RETRANSMITS, ent1 Ent.Bctx.SESSION, ent1 Ent.Bctx.STATE, ent1
  Ent.Bctx.TIMEOUTS, ent1 Ent.Bind.ENABLE, ent1 Ent.Bind.HALL, ent1 Ent.Bu.ENDPOINTS, ent1 Ent.CanCo.SDO_LAST_STATUS, ent1 Ent.CanObj.OBJ_TABLE, ent1
  Ent.CanObj.TXB_HALL, ent1 Ent.CanSt.COUNTER_SAT, ent1 Ent.CanSt.TX_DISCARDED, ent1 Ent.Dma.ENABLE, ent1 Ent.Dma.HALL, ent1 Ent.Dma.STATE, ent1
  Ent.Hall.CCORES, ent1 Ent.Hall.CMD_STATUS, ent1 Ent.Hall.COUNTER_SAT, ent1 Ent.Hall.FROZEN_DROPS, ent1 Ent.Hall.MIGRATIONS, ent1 Ent.Hall.STATE,
  ent1 Ent.Heng.COUNTER_SAT, ent1 Ent.Heng.NO_QP, ent1 Ent.Iommu.WINDOWS, ent1 Ent.Port.EGRESS_FILTERED, ent1 Ent.Port.PORT_SAT, ent1
  Ent.Port.TX_BYTES, ent1 Ent.Port.TX_FRAMES, ent1 Ent.Pq.CT_ABORTED, ent1 Ent.Pq.NO_DESC, ent1 Ent.Pq.OVERSIZE, ent1 Ent.Pq.PORT_SAT, ent1
  Ent.Pq.Q_SAT, ent1 Ent.Qp.ENABLE, ent1 Ent.Qp.HALL, ent1 Ent.Qp.STATE, ent2 Ent.Pq.DROP_DISABLED, ent2 Ent.Pq.DROP_DOWN, ent2 Ent.Pq.DROP_FULL, ent2
  Ent.Pq.DROP_RESIDENCE, ent2 Ent.Pq.DROP_STW], [word0 Rg.M0Cpg.DEPTH, word0 Rg.M0Cpg.WFI, word0 Rg.Smb.DONE, word0 Rg.Smb.MB_LEN, word0
  Rg.Smb.MB_TOTAL, word1 Rg.Ch.IRQ, word1 Rg.Cpg.DEPTH, word1 Rg.Cpg.WFI, word1 Rg.Hpg.RING_EN, word1 Rg.Hpg.RING_HEAD, word1 Rg.M0Cpg.STK_SRC, word1
  Rg.M0Src.PENDING, word1 Rg.Mb.DONE, word1 Rg.Mb.MB_LEN, word1 Rg.Mb.MB_TOTAL, word1 Rg.Smb.MB_DATA, word1 Rg.Src.PENDING, word2 Rg.Cpg.STK_SRC,
  word2 Rg.Ctx.BST_ADDR_HI, word2 Rg.Ctx.BST_ADDR_LO, word2 Rg.Ctx.FAILED, word2 Rg.Ctx.FAR_CODE, word2 Rg.Ctx.IRQ, word2 Rg.Ctx.PW_DONE, word2
  Rg.Ctx.SESSION, word2 Rg.Ep.MERGED, word2 Rg.Mb.MB_DATA, word2 Rg.Obj.EXPIRED, word2 Rg.Obj.NEW, word2 Rg.Txb.CODE, word2 fun u k => rmb u k
  Rg.Mb.CODE, word2 fun u k => rmb u k Rg.Mb.GO, word2 fun u k => rmb u k Rg.Mb.MB_LEN, word2 fun u k => rmb u k Rg.Mb.MB_TOTAL, word3 fun u k i =>
  rmb u k fun n => Rg.Mb.MB_DATA n i]⟩

/-- What `migCommitReceive` may change. -/
def Foot.migCommitReceive : Foot := ⟨[.mem, .free, .logs, .limits, .br, .dma, .tenants, .harts, .twin], logEnts ++ [ent1 Ent.Bctx.COUNTER_SAT, ent1
  Ent.Bctx.FAILURES, ent1 Ent.Bctx.POSTED, ent1 Ent.Bctx.READS, ent1 Ent.Bctx.RETRANSMITS, ent1 Ent.Bctx.SESSION, ent1 Ent.Bctx.TIMEOUTS, ent1
  Ent.Hall.COUNTER_SAT, ent1 Ent.Hall.MIGRATIONS, ent1 Ent.Hall.STATE], [word1 Rg.Hpg.RING_EN, word1 Rg.Hpg.RING_HEAD, word2 Rg.Ctx.BST_ADDR_HI, word2
  Rg.Ctx.BST_ADDR_LO, word2 Rg.Ctx.FAILED, word2 Rg.Ctx.FAR_CODE, word2 Rg.Ctx.IRQ, word2 Rg.Ctx.PW_DONE, word2 Rg.Ctx.SESSION, word2 Rg.Ep.MERGED,
  word2 fun u k => rmb u k Rg.Mb.CODE, word2 fun u k => rmb u k Rg.Mb.GO, word2 fun u k => rmb u k Rg.Mb.MB_LEN, word2 fun u k => rmb u k
  Rg.Mb.MB_TOTAL, word3 fun u k i => rmb u k fun n => Rg.Mb.MB_DATA n i]⟩

/-- What `migCommitTimeout` may change. -/
def Foot.migCommitTimeout : Foot := ⟨[.regs, .mem, .epochs, .free, .logs, .limits, .d0, .can, .br, .scan, .dma, .tenants, .mezz, .sto, .held, .harts,
  .twin], logEnts ++ [ent1 Ent.Bctx.ENABLE, ent1 Ent.Bctx.HALL, ent1 Ent.Bctx.SESSION, ent1 Ent.Bctx.STATE, ent1 Ent.Bind.ENABLE, ent1 Ent.Bind.HALL,
  ent1 Ent.Bu.ENDPOINTS, ent1 Ent.CanObj.OBJ_TABLE, ent1 Ent.CanObj.TXB_HALL, ent1 Ent.CanSt.COUNTER_SAT, ent1 Ent.CanSt.LOCK_EXPIRED, ent1
  Ent.Dma.ENABLE, ent1 Ent.Dma.HALL, ent1 Ent.Dma.STATE, ent1 Ent.Hall.CCORES, ent1 Ent.Hall.COUNTER_SAT, ent1 Ent.Hall.RESETS, ent1 Ent.Hall.STATE,
  ent1 Ent.Iommu.WINDOWS, ent1 Ent.Port.PORT_SAT, ent1 Ent.Port.TX_BYTES, ent1 Ent.Port.TX_FRAMES, ent1 Ent.Qp.ENABLE, ent1 Ent.Qp.HALL, ent1
  Ent.Qp.STATE, ent1 Ent.Stn.COUNTER_SAT, ent1 Ent.Stn.LOSSES, ent1 Ent.Stn.STATE, ent1 Ent.Task.COUNTER_SAT, ent1 Ent.Task.MERGED], []⟩

/-- What `watermarkWrite` may change. -/
def Foot.watermarkWrite : Foot := ⟨[.mem, .logs, .d0, .sw, .can, .power, .br, .dma, .tenants, .twin], logEnts ++ [ent0 Ent.Stw.COUNTER_SAT, ent0
  Ent.Stw.STW_ECC_DROPS, ent1 Ent.CanCo.SDO_LAST_STATUS, ent1 Ent.CanSt.COUNTER_SAT, ent1 Ent.CanSt.TX_DISCARDED, ent1 Ent.Hall.COUNTER_SAT, ent1
  Ent.Hall.FROZEN_DROPS, ent1 Ent.Heng.COUNTER_SAT, ent1 Ent.Heng.NO_QP, ent1 Ent.Port.EGRESS_FILTERED, ent1 Ent.Port.PORT_SAT, ent1
  Ent.Port.TX_BYTES, ent1 Ent.Port.TX_FRAMES, ent1 Ent.Pq.CT_ABORTED, ent1 Ent.Pq.NO_DESC, ent1 Ent.Pq.OVERSIZE, ent1 Ent.Pq.PORT_SAT, ent1
  Ent.Pq.Q_SAT, ent2 Ent.Pq.DROP_DISABLED, ent2 Ent.Pq.DROP_DOWN, ent2 Ent.Pq.DROP_FULL, ent2 Ent.Pq.DROP_RESIDENCE, ent2 Ent.Pq.DROP_STW], [word0
  Rg.Smb.DONE, word0 Rg.Smb.MB_LEN, word0 Rg.Smb.MB_TOTAL, word1 Rg.Hpg.RING_HEAD, word1 Rg.M0Src.PENDING, word1 Rg.Mb.DONE, word1 Rg.Mb.MB_LEN, word1
  Rg.Mb.MB_TOTAL, word1 Rg.Smb.MB_DATA, word1 Rg.Wm.LOCKED, word2 Rg.Mb.MB_DATA]⟩

/-- What `leaseTake` may change. -/
def Foot.leaseTake : Foot := ⟨[.mem, .epochs, .free, .logs, .limits, .drains, .d0, .sw, .can, .sleep, .power, .br, .adc, .scan, .dma, .tenants,
  .harts, .twin], logEnts ++ [ent0 Ent.Stw.COUNTER_SAT, ent0 Ent.Stw.STW_ECC_DROPS, ent0 Ent.Tws.PATHS, ent0 Ent.Tws.ROLE, ent1 Ent.Adc.ENABLE, ent1
  Ent.Adc.STATE, ent1 Ent.Bctx.COUNTER_SAT, ent1 Ent.Bctx.ENABLE, ent1 Ent.Bctx.FAILURES, ent1 Ent.Bctx.POSTED, ent1 Ent.Bctx.READS, ent1
  Ent.Bctx.RETRANSMITS, ent1 Ent.Bctx.SESSION, ent1 Ent.Bctx.STATE, ent1 Ent.Bctx.TIMEOUTS, ent1 Ent.CanCo.SDO_LAST_STATUS, ent1
  Ent.CanSt.COUNTER_SAT, ent1 Ent.CanSt.ENABLE, ent1 Ent.CanSt.STATE, ent1 Ent.CanSt.TX_DISCARDED, ent1 Ent.Dma.BYTES, ent1 Ent.Dma.COUNTER_SAT, ent1
  Ent.Dma.DESCRIPTORS, ent1 Ent.Dma.ENABLE, ent1 Ent.Dma.ERRORS, ent1 Ent.Dma.STALE, ent1 Ent.Dma.STATE, ent1 Ent.Hall.CMD_STATUS, ent1
  Ent.Hall.COUNTER_SAT, ent1 Ent.Hall.FROZEN_DROPS, ent1 Ent.Hall.STATE, ent1 Ent.Heng.COUNTER_SAT, ent1 Ent.Heng.ENABLE, ent1 Ent.Heng.NO_QP, ent1
  Ent.Heng.STATE, ent1 Ent.Lc.FLAGS, ent1 Ent.Port.EGRESS_FILTERED, ent1 Ent.Port.ENABLE, ent1 Ent.Port.LINK_DOWNS, ent1 Ent.Port.PORT_SAT, ent1
  Ent.Port.STATE, ent1 Ent.Port.TX_BYTES, ent1 Ent.Port.TX_FRAMES, ent1 Ent.Pq.COPIES_DROPPED, ent1 Ent.Pq.CT_ABORTED, ent1 Ent.Pq.NO_DESC, ent1
  Ent.Pq.OVERSIZE, ent1 Ent.Pq.PORT_SAT, ent1 Ent.Pq.Q_SAT, ent1 Ent.Qp.COUNTER_SAT, ent1 Ent.Qp.ENABLE, ent1 Ent.Qp.ERR_LOST, ent1 Ent.Qp.STATE, ent1
  Ent.Qp.TX_ERRORS, ent1 Ent.Qp.TX_FRAMES, ent1 Ent.Stn.COUNTER_SAT, ent1 Ent.Stn.LOSSES, ent1 Ent.Stn.STATE, ent2 Ent.Pq.DROP_DISABLED, ent2
  Ent.Pq.DROP_DOWN, ent2 Ent.Pq.DROP_FULL, ent2 Ent.Pq.DROP_RESIDENCE, ent2 Ent.Pq.DROP_STW, ent2 Ent.Pq.Q_ENABLE, ent2 Ent.Pq.Q_STATE], [word0
  Rg.Smb.DONE, word0 Rg.Smb.MB_LEN, word0 Rg.Smb.MB_TOTAL, word1 Rg.Adcr.BUSY, word1 Rg.Ch.IRQ, word1 Rg.Dmar.ACTIVE, word1 Rg.Dmar.HEAD, word1
  Rg.Dmar.IRQ, word1 Rg.Hpg.RING_EN, word1 Rg.Hpg.RING_HEAD, word1 Rg.Lsr.VALID, word1 Rg.Mb.DONE, word1 Rg.Mb.MB_LEN, word1 Rg.Mb.MB_TOTAL, word1
  Rg.Plat.SYS_IRQ, word1 Rg.Qpr.ERR_HEAD, word1 Rg.Qpr.IRQ, word1 Rg.Qpr.TX_HEAD, word1 Rg.Smb.MB_DATA, word2 Rg.Ctx.BST_ADDR_HI, word2
  Rg.Ctx.BST_ADDR_LO, word2 Rg.Ctx.FAILED, word2 Rg.Ctx.FAR_CODE, word2 Rg.Ctx.IRQ, word2 Rg.Ctx.PW_DONE, word2 Rg.Ctx.SESSION, word2 Rg.Ep.MERGED,
  word2 Rg.Mb.MB_DATA, word2 Rg.Txb.CODE, word2 fun u k => rmb u k Rg.Mb.CODE, word2 fun u k => rmb u k Rg.Mb.GO, word2 fun u k => rmb u k
  Rg.Mb.MB_LEN, word2 fun u k => rmb u k Rg.Mb.MB_TOTAL, word3 fun u k i => rmb u k fun n => Rg.Mb.MB_DATA n i]⟩

/-- What `leaseRelease` may change. -/
def Foot.leaseRelease : Foot := ⟨[.mem, .epochs, .free, .logs, .limits, .drains, .d0, .sw, .can, .sleep, .power, .br, .adc, .scan, .dma, .tenants,
  .harts, .twin], logEnts ++ [ent0 Ent.Stw.COUNTER_SAT, ent0 Ent.Stw.STW_ECC_DROPS, ent0 Ent.Tws.PATHS, ent0 Ent.Tws.ROLE, ent1 Ent.Adc.ENABLE, ent1
  Ent.Adc.STATE, ent1 Ent.Bctx.COUNTER_SAT, ent1 Ent.Bctx.ENABLE, ent1 Ent.Bctx.FAILURES, ent1 Ent.Bctx.POSTED, ent1 Ent.Bctx.READS, ent1
  Ent.Bctx.RETRANSMITS, ent1 Ent.Bctx.SESSION, ent1 Ent.Bctx.STATE, ent1 Ent.Bctx.TIMEOUTS, ent1 Ent.CanCo.SDO_LAST_STATUS, ent1
  Ent.CanSt.COUNTER_SAT, ent1 Ent.CanSt.ENABLE, ent1 Ent.CanSt.STATE, ent1 Ent.CanSt.TX_DISCARDED, ent1 Ent.Dma.BYTES, ent1 Ent.Dma.COUNTER_SAT, ent1
  Ent.Dma.DESCRIPTORS, ent1 Ent.Dma.ENABLE, ent1 Ent.Dma.ERRORS, ent1 Ent.Dma.STALE, ent1 Ent.Dma.STATE, ent1 Ent.Hall.CMD_STATUS, ent1
  Ent.Hall.COUNTER_SAT, ent1 Ent.Hall.FROZEN_DROPS, ent1 Ent.Hall.STATE, ent1 Ent.Heng.COUNTER_SAT, ent1 Ent.Heng.ENABLE, ent1 Ent.Heng.NO_QP, ent1
  Ent.Heng.STATE, ent1 Ent.Lc.FLAGS, ent1 Ent.Port.EGRESS_FILTERED, ent1 Ent.Port.ENABLE, ent1 Ent.Port.LINK_DOWNS, ent1 Ent.Port.PORT_SAT, ent1
  Ent.Port.STATE, ent1 Ent.Port.TX_BYTES, ent1 Ent.Port.TX_FRAMES, ent1 Ent.Pq.COPIES_DROPPED, ent1 Ent.Pq.CT_ABORTED, ent1 Ent.Pq.NO_DESC, ent1
  Ent.Pq.OVERSIZE, ent1 Ent.Pq.PORT_SAT, ent1 Ent.Pq.Q_SAT, ent1 Ent.Qp.COUNTER_SAT, ent1 Ent.Qp.ENABLE, ent1 Ent.Qp.ERR_LOST, ent1 Ent.Qp.STATE, ent1
  Ent.Qp.TX_ERRORS, ent1 Ent.Qp.TX_FRAMES, ent1 Ent.Stn.COUNTER_SAT, ent1 Ent.Stn.LOSSES, ent1 Ent.Stn.STATE, ent2 Ent.Pq.DROP_DISABLED, ent2
  Ent.Pq.DROP_DOWN, ent2 Ent.Pq.DROP_FULL, ent2 Ent.Pq.DROP_RESIDENCE, ent2 Ent.Pq.DROP_STW, ent2 Ent.Pq.Q_ENABLE, ent2 Ent.Pq.Q_STATE], [word0
  Rg.Smb.DONE, word0 Rg.Smb.MB_LEN, word0 Rg.Smb.MB_TOTAL, word1 Rg.Adcr.BUSY, word1 Rg.Ch.IRQ, word1 Rg.Dmar.ACTIVE, word1 Rg.Dmar.HEAD, word1
  Rg.Dmar.IRQ, word1 Rg.Hpg.RING_EN, word1 Rg.Hpg.RING_HEAD, word1 Rg.Lsr.VALID, word1 Rg.Mb.DONE, word1 Rg.Mb.MB_LEN, word1 Rg.Mb.MB_TOTAL, word1
  Rg.Plat.SYS_IRQ, word1 Rg.Qpr.ERR_HEAD, word1 Rg.Qpr.IRQ, word1 Rg.Qpr.TX_HEAD, word1 Rg.Smb.MB_DATA, word2 Rg.Ctx.BST_ADDR_HI, word2
  Rg.Ctx.BST_ADDR_LO, word2 Rg.Ctx.FAILED, word2 Rg.Ctx.FAR_CODE, word2 Rg.Ctx.IRQ, word2 Rg.Ctx.PW_DONE, word2 Rg.Ctx.SESSION, word2 Rg.Ep.MERGED,
  word2 Rg.Mb.MB_DATA, word2 Rg.Txb.CODE, word2 fun u k => rmb u k Rg.Mb.CODE, word2 fun u k => rmb u k Rg.Mb.GO, word2 fun u k => rmb u k
  Rg.Mb.MB_LEN, word2 fun u k => rmb u k Rg.Mb.MB_TOTAL, word3 fun u k i => rmb u k fun n => Rg.Mb.MB_DATA n i]⟩

/-- What `keyClear` may change. -/
def Foot.keyClear : Foot := ⟨[.mem, .logs, .d0, .sw, .can, .power, .br, .dma, .tenants, .mezz, .upd, .twin], logEnts ++ [ent0 Ent.Stw.COUNTER_SAT,
  ent0 Ent.Stw.STW_ECC_DROPS, ent1 Ent.Bctx.SESSION, ent1 Ent.CanCo.SDO_LAST_STATUS, ent1 Ent.CanSt.COUNTER_SAT, ent1 Ent.CanSt.TX_DISCARDED, ent1
  Ent.Hall.COUNTER_SAT, ent1 Ent.Hall.FROZEN_DROPS, ent1 Ent.Heng.COUNTER_SAT, ent1 Ent.Heng.NO_QP, ent1 Ent.Key.KEY, ent1 Ent.Key.LOADED, ent1
  Ent.Key.USAGE, ent1 Ent.Port.EGRESS_FILTERED, ent1 Ent.Port.PORT_SAT, ent1 Ent.Port.TX_BYTES, ent1 Ent.Port.TX_FRAMES, ent1 Ent.Pq.CT_ABORTED, ent1
  Ent.Pq.NO_DESC, ent1 Ent.Pq.OVERSIZE, ent1 Ent.Pq.PORT_SAT, ent1 Ent.Pq.Q_SAT, ent2 Ent.Pq.DROP_DISABLED, ent2 Ent.Pq.DROP_DOWN, ent2
  Ent.Pq.DROP_FULL, ent2 Ent.Pq.DROP_RESIDENCE, ent2 Ent.Pq.DROP_STW], [word0 Rg.Smb.DONE, word0 Rg.Smb.MB_LEN, word0 Rg.Smb.MB_TOTAL, word1
  Rg.Hpg.RING_HEAD, word1 Rg.M0Src.PENDING, word1 Rg.Mb.DONE, word1 Rg.Mb.MB_LEN, word1 Rg.Mb.MB_TOTAL, word1 Rg.Smb.MB_DATA, word2 Rg.Ctx.SESSION,
  word2 Rg.Mb.MB_DATA]⟩

/-- What `cryptoJobStart` may change. -/
def Foot.cryptoJobStart : Foot := ⟨[.mezz], [], [word0 Rg.Cry.BUSY]⟩

/-- What `cryptoGcmEncrypt` may change. -/
def Foot.cryptoGcmEncrypt : Foot := ⟨[.mem, .logs, .dma, .tenants, .mezz], logEnts ++ [ent0 Ent.Mem.COUNTER_SAT, ent0 Ent.Mem.DRAM_CE, ent0
  Ent.Mem.DRAM_UE, ent0 Ent.Mem.SRAM_CE, ent0 Ent.Mem.SRAM_UE, ent0 Ent.Mem.UE_LAST], [word1 Rg.Hpg.RING_HEAD, word1 Rg.Plat.SYS_IRQ]⟩

/-- What `cryptoGcmDecrypt` may change. -/
def Foot.cryptoGcmDecrypt : Foot := ⟨[.mem, .logs, .dma, .tenants, .mezz], logEnts ++ [ent0 Ent.Mem.COUNTER_SAT, ent0 Ent.Mem.DRAM_CE, ent0
  Ent.Mem.DRAM_UE, ent0 Ent.Mem.SRAM_CE, ent0 Ent.Mem.SRAM_UE, ent0 Ent.Mem.UE_LAST], [word1 Rg.Hpg.RING_HEAD, word1 Rg.Plat.SYS_IRQ]⟩

/-- What `cryptoSha256` may change. -/
def Foot.cryptoSha256 : Foot := ⟨[.mem, .logs, .dma, .tenants, .mezz], logEnts ++ [ent0 Ent.Mem.COUNTER_SAT, ent0 Ent.Mem.DRAM_CE, ent0
  Ent.Mem.DRAM_UE, ent0 Ent.Mem.SRAM_CE, ent0 Ent.Mem.SRAM_UE, ent0 Ent.Mem.UE_LAST], [word1 Rg.Hpg.RING_HEAD, word1 Rg.Plat.SYS_IRQ]⟩

/-- What `cryptoSha384` may change. -/
def Foot.cryptoSha384 : Foot := ⟨[.mem, .logs, .dma, .tenants, .mezz], logEnts ++ [ent0 Ent.Mem.COUNTER_SAT, ent0 Ent.Mem.DRAM_CE, ent0
  Ent.Mem.DRAM_UE, ent0 Ent.Mem.SRAM_CE, ent0 Ent.Mem.SRAM_UE, ent0 Ent.Mem.UE_LAST], [word1 Rg.Hpg.RING_HEAD, word1 Rg.Plat.SYS_IRQ]⟩

/-- What `cryptoHmac` may change. -/
def Foot.cryptoHmac : Foot := ⟨[.mem, .logs, .dma, .tenants, .mezz], logEnts ++ [ent0 Ent.Mem.COUNTER_SAT, ent0 Ent.Mem.DRAM_CE, ent0 Ent.Mem.DRAM_UE,
  ent0 Ent.Mem.SRAM_CE, ent0 Ent.Mem.SRAM_UE, ent0 Ent.Mem.UE_LAST], [word1 Rg.Hpg.RING_HEAD, word1 Rg.Plat.SYS_IRQ]⟩

/-- What `cryptoP256Verify` may change. -/
def Foot.cryptoP256Verify : Foot := ⟨[.mem, .logs, .dma, .tenants, .mezz], logEnts ++ [ent0 Ent.Mem.COUNTER_SAT, ent0 Ent.Mem.DRAM_CE, ent0
  Ent.Mem.DRAM_UE, ent0 Ent.Mem.SRAM_CE, ent0 Ent.Mem.SRAM_UE, ent0 Ent.Mem.UE_LAST], [word1 Rg.Hpg.RING_HEAD, word1 Rg.Plat.SYS_IRQ]⟩

/-- What `cryptoP384Verify` may change. -/
def Foot.cryptoP384Verify : Foot := ⟨[.mem, .logs, .dma, .tenants, .mezz], logEnts ++ [ent0 Ent.Mem.COUNTER_SAT, ent0 Ent.Mem.DRAM_CE, ent0
  Ent.Mem.DRAM_UE, ent0 Ent.Mem.SRAM_CE, ent0 Ent.Mem.SRAM_UE, ent0 Ent.Mem.UE_LAST], [word1 Rg.Hpg.RING_HEAD, word1 Rg.Plat.SYS_IRQ]⟩

/-- What `cryptoP256Sign` may change. -/
def Foot.cryptoP256Sign : Foot := ⟨[.mem, .free, .logs, .dma, .tenants, .mezz], logEnts ++ [ent0 Ent.Mem.COUNTER_SAT, ent0 Ent.Mem.DRAM_CE, ent0
  Ent.Mem.DRAM_UE, ent0 Ent.Mem.SRAM_CE, ent0 Ent.Mem.SRAM_UE, ent0 Ent.Mem.UE_LAST], [word1 Rg.Hpg.RING_HEAD, word1 Rg.Plat.SYS_IRQ]⟩

/-- What `cryptoP384Sign` may change. -/
def Foot.cryptoP384Sign : Foot := ⟨[.mem, .free, .logs, .dma, .tenants, .mezz], logEnts ++ [ent0 Ent.Mem.COUNTER_SAT, ent0 Ent.Mem.DRAM_CE, ent0
  Ent.Mem.DRAM_UE, ent0 Ent.Mem.SRAM_CE, ent0 Ent.Mem.SRAM_UE, ent0 Ent.Mem.UE_LAST], [word1 Rg.Hpg.RING_HEAD, word1 Rg.Plat.SYS_IRQ]⟩

/-- What `cryptoRandom` may change. -/
def Foot.cryptoRandom : Foot := ⟨[.mem, .free, .logs, .dma, .tenants, .mezz], logEnts ++ [ent0 Ent.Mem.COUNTER_SAT, ent0 Ent.Mem.DRAM_CE, ent0
  Ent.Mem.DRAM_UE, ent0 Ent.Mem.SRAM_CE, ent0 Ent.Mem.SRAM_UE, ent0 Ent.Mem.UE_LAST], [word1 Rg.Hpg.RING_HEAD, word1 Rg.Plat.SYS_IRQ]⟩

/-- What `cryptoCopy` may change. -/
def Foot.cryptoCopy : Foot := ⟨[.mem, .logs, .dma, .tenants, .mezz], logEnts ++ [ent0 Ent.Mem.COUNTER_SAT, ent0 Ent.Mem.DRAM_CE, ent0 Ent.Mem.DRAM_UE,
  ent0 Ent.Mem.SRAM_CE, ent0 Ent.Mem.SRAM_UE, ent0 Ent.Mem.UE_LAST], [word1 Rg.Hpg.RING_HEAD, word1 Rg.Plat.SYS_IRQ]⟩

/-- What `cryptoJobComplete` may change. -/
def Foot.cryptoJobComplete : Foot := ⟨[.mem, .logs, .d0, .sw, .can, .power, .br, .dma, .tenants, .mezz, .upd, .twin], logEnts ++ [ent0
  Ent.Stw.COUNTER_SAT, ent0 Ent.Stw.STW_ECC_DROPS, ent1 Ent.Bctx.SESSION, ent1 Ent.CanCo.SDO_LAST_STATUS, ent1 Ent.CanSt.COUNTER_SAT, ent1
  Ent.CanSt.TX_DISCARDED, ent1 Ent.Hall.COUNTER_SAT, ent1 Ent.Hall.FROZEN_DROPS, ent1 Ent.Heng.COUNTER_SAT, ent1 Ent.Heng.NO_QP, ent1 Ent.Key.KEY,
  ent1 Ent.Key.LOADED, ent1 Ent.Key.USAGE, ent1 Ent.Port.EGRESS_FILTERED, ent1 Ent.Port.PORT_SAT, ent1 Ent.Port.TX_BYTES, ent1 Ent.Port.TX_FRAMES,
  ent1 Ent.Pq.CT_ABORTED, ent1 Ent.Pq.NO_DESC, ent1 Ent.Pq.OVERSIZE, ent1 Ent.Pq.PORT_SAT, ent1 Ent.Pq.Q_SAT, ent2 Ent.Pq.DROP_DISABLED, ent2
  Ent.Pq.DROP_DOWN, ent2 Ent.Pq.DROP_FULL, ent2 Ent.Pq.DROP_RESIDENCE, ent2 Ent.Pq.DROP_STW], [word0 Rg.Cry.BUSY, word0 Rg.Cry.HEAD, word0 Rg.Cry.IRQ,
  word0 Rg.Smb.DONE, word0 Rg.Smb.MB_LEN, word0 Rg.Smb.MB_TOTAL, word1 Rg.Hpg.RING_HEAD, word1 Rg.M0Src.PENDING, word1 Rg.Mb.DONE, word1 Rg.Mb.MB_LEN,
  word1 Rg.Mb.MB_TOTAL, word1 Rg.Smb.MB_DATA, word2 Rg.Ctx.SESSION, word2 Rg.Mb.MB_DATA]⟩

/-- What `lcAdvance` may change. -/
def Foot.lcAdvance : Foot := ⟨[.mem, .logs, .d0, .sw, .can, .power, .br, .dma, .tenants, .mezz, .twin], logEnts ++ [ent0 Ent.Sec.LIFECYCLE, ent0
  Ent.Stw.COUNTER_SAT, ent0 Ent.Stw.STW_ECC_DROPS, ent1 Ent.CanCo.SDO_LAST_STATUS, ent1 Ent.CanSt.COUNTER_SAT, ent1 Ent.CanSt.TX_DISCARDED, ent1
  Ent.Hall.COUNTER_SAT, ent1 Ent.Hall.FROZEN_DROPS, ent1 Ent.Heng.COUNTER_SAT, ent1 Ent.Heng.NO_QP, ent1 Ent.Port.EGRESS_FILTERED, ent1
  Ent.Port.PORT_SAT, ent1 Ent.Port.TX_BYTES, ent1 Ent.Port.TX_FRAMES, ent1 Ent.Pq.CT_ABORTED, ent1 Ent.Pq.NO_DESC, ent1 Ent.Pq.OVERSIZE, ent1
  Ent.Pq.PORT_SAT, ent1 Ent.Pq.Q_SAT, ent2 Ent.Pq.DROP_DISABLED, ent2 Ent.Pq.DROP_DOWN, ent2 Ent.Pq.DROP_FULL, ent2 Ent.Pq.DROP_RESIDENCE, ent2
  Ent.Pq.DROP_STW], [word0 Rg.Smb.DONE, word0 Rg.Smb.MB_LEN, word0 Rg.Smb.MB_TOTAL, word1 Rg.Hpg.RING_HEAD, word1 Rg.M0Src.PENDING, word1 Rg.Mb.DONE,
  word1 Rg.Mb.MB_LEN, word1 Rg.Mb.MB_TOTAL, word1 Rg.Smb.MB_DATA, word2 Rg.Mb.MB_DATA]⟩

/-- What `returnToken` may change. -/
def Foot.returnToken : Foot := ⟨[.mem, .free, .logs, .d0, .sw, .can, .power, .br, .dma, .tenants, .mezz, .upd, .twin], logEnts ++ [ent0
  Ent.Sec.DBG_CHALLENGE, ent0 Ent.Sec.LIFECYCLE, ent0 Ent.Stw.COUNTER_SAT, ent0 Ent.Stw.STW_ECC_DROPS, ent1 Ent.Bctx.SESSION, ent1
  Ent.CanCo.SDO_LAST_STATUS, ent1 Ent.CanSt.COUNTER_SAT, ent1 Ent.CanSt.TX_DISCARDED, ent1 Ent.Hall.COUNTER_SAT, ent1 Ent.Hall.FROZEN_DROPS, ent1
  Ent.Heng.COUNTER_SAT, ent1 Ent.Heng.NO_QP, ent1 Ent.Key.KEY, ent1 Ent.Key.LOADED, ent1 Ent.Key.USAGE, ent1 Ent.Port.EGRESS_FILTERED, ent1
  Ent.Port.PORT_SAT, ent1 Ent.Port.TX_BYTES, ent1 Ent.Port.TX_FRAMES, ent1 Ent.Pq.CT_ABORTED, ent1 Ent.Pq.NO_DESC, ent1 Ent.Pq.OVERSIZE, ent1
  Ent.Pq.PORT_SAT, ent1 Ent.Pq.Q_SAT, ent2 Ent.Pq.DROP_DISABLED, ent2 Ent.Pq.DROP_DOWN, ent2 Ent.Pq.DROP_FULL, ent2 Ent.Pq.DROP_RESIDENCE, ent2
  Ent.Pq.DROP_STW], [word0 Rg.Smb.DONE, word0 Rg.Smb.MB_LEN, word0 Rg.Smb.MB_TOTAL, word1 Rg.Hpg.RING_HEAD, word1 Rg.M0Src.PENDING, word1 Rg.Mb.DONE,
  word1 Rg.Mb.MB_LEN, word1 Rg.Mb.MB_TOTAL, word1 Rg.Smb.MB_DATA, word2 Rg.Ctx.SESSION, word2 Rg.Mb.MB_DATA]⟩

/-- What `debugToken` may change. -/
def Foot.debugToken : Foot := ⟨[.mem, .free, .logs, .d0, .sw, .can, .power, .br, .dma, .tenants, .twin], logEnts ++ [ent0 Ent.Sec.DBG_ACTIVE, ent0
  Ent.Sec.DBG_CHALLENGE, ent0 Ent.Stw.COUNTER_SAT, ent0 Ent.Stw.STW_ECC_DROPS, ent1 Ent.CanCo.SDO_LAST_STATUS, ent1 Ent.CanSt.COUNTER_SAT, ent1
  Ent.CanSt.TX_DISCARDED, ent1 Ent.Hall.COUNTER_SAT, ent1 Ent.Hall.FROZEN_DROPS, ent1 Ent.Heng.COUNTER_SAT, ent1 Ent.Heng.NO_QP, ent1
  Ent.Port.EGRESS_FILTERED, ent1 Ent.Port.PORT_SAT, ent1 Ent.Port.TX_BYTES, ent1 Ent.Port.TX_FRAMES, ent1 Ent.Pq.CT_ABORTED, ent1 Ent.Pq.NO_DESC, ent1
  Ent.Pq.OVERSIZE, ent1 Ent.Pq.PORT_SAT, ent1 Ent.Pq.Q_SAT, ent2 Ent.Pq.DROP_DISABLED, ent2 Ent.Pq.DROP_DOWN, ent2 Ent.Pq.DROP_FULL, ent2
  Ent.Pq.DROP_RESIDENCE, ent2 Ent.Pq.DROP_STW], [word0 Rg.Smb.DONE, word0 Rg.Smb.MB_LEN, word0 Rg.Smb.MB_TOTAL, word1 Rg.Hpg.RING_HEAD, word1
  Rg.M0Src.PENDING, word1 Rg.Mb.DONE, word1 Rg.Mb.MB_LEN, word1 Rg.Mb.MB_TOTAL, word1 Rg.Smb.MB_DATA, word2 Rg.Mb.MB_DATA]⟩

/-- What `keyRevoke` may change. -/
def Foot.keyRevoke : Foot := ⟨[.mem, .logs, .d0, .sw, .can, .power, .br, .dma, .tenants, .twin], logEnts ++ [ent0 Ent.Sec.KEY_REVOKED, ent0
  Ent.Stw.COUNTER_SAT, ent0 Ent.Stw.STW_ECC_DROPS, ent1 Ent.CanCo.SDO_LAST_STATUS, ent1 Ent.CanSt.COUNTER_SAT, ent1 Ent.CanSt.TX_DISCARDED, ent1
  Ent.Hall.COUNTER_SAT, ent1 Ent.Hall.FROZEN_DROPS, ent1 Ent.Heng.COUNTER_SAT, ent1 Ent.Heng.NO_QP, ent1 Ent.Port.EGRESS_FILTERED, ent1
  Ent.Port.PORT_SAT, ent1 Ent.Port.TX_BYTES, ent1 Ent.Port.TX_FRAMES, ent1 Ent.Pq.CT_ABORTED, ent1 Ent.Pq.NO_DESC, ent1 Ent.Pq.OVERSIZE, ent1
  Ent.Pq.PORT_SAT, ent1 Ent.Pq.Q_SAT, ent2 Ent.Pq.DROP_DISABLED, ent2 Ent.Pq.DROP_DOWN, ent2 Ent.Pq.DROP_FULL, ent2 Ent.Pq.DROP_RESIDENCE, ent2
  Ent.Pq.DROP_STW], [word0 Rg.Smb.DONE, word0 Rg.Smb.MB_LEN, word0 Rg.Smb.MB_TOTAL, word1 Rg.Hpg.RING_HEAD, word1 Rg.M0Src.PENDING, word1 Rg.Mb.DONE,
  word1 Rg.Mb.MB_LEN, word1 Rg.Mb.MB_TOTAL, word1 Rg.Smb.MB_DATA, word2 Rg.Mb.MB_DATA]⟩

/-- What `rollbackSet` may change. -/
def Foot.rollbackSet : Foot := ⟨[.mem, .logs, .d0, .sw, .can, .power, .br, .dma, .tenants, .twin], logEnts ++ [ent0 Ent.Sec.ROLLBACK, ent0
  Ent.Stw.COUNTER_SAT, ent0 Ent.Stw.STW_ECC_DROPS, ent1 Ent.CanCo.SDO_LAST_STATUS, ent1 Ent.CanSt.COUNTER_SAT, ent1 Ent.CanSt.TX_DISCARDED, ent1
  Ent.Hall.COUNTER_SAT, ent1 Ent.Hall.FROZEN_DROPS, ent1 Ent.Heng.COUNTER_SAT, ent1 Ent.Heng.NO_QP, ent1 Ent.Port.EGRESS_FILTERED, ent1
  Ent.Port.PORT_SAT, ent1 Ent.Port.TX_BYTES, ent1 Ent.Port.TX_FRAMES, ent1 Ent.Pq.CT_ABORTED, ent1 Ent.Pq.NO_DESC, ent1 Ent.Pq.OVERSIZE, ent1
  Ent.Pq.PORT_SAT, ent1 Ent.Pq.Q_SAT, ent2 Ent.Pq.DROP_DISABLED, ent2 Ent.Pq.DROP_DOWN, ent2 Ent.Pq.DROP_FULL, ent2 Ent.Pq.DROP_RESIDENCE, ent2
  Ent.Pq.DROP_STW], [word0 Rg.Smb.DONE, word0 Rg.Smb.MB_LEN, word0 Rg.Smb.MB_TOTAL, word1 Rg.Hpg.RING_HEAD, word1 Rg.M0Src.PENDING, word1 Rg.Mb.DONE,
  word1 Rg.Mb.MB_LEN, word1 Rg.Mb.MB_TOTAL, word1 Rg.Smb.MB_DATA, word2 Rg.Mb.MB_DATA]⟩

/-- What `swdtKick` may change. -/
def Foot.swdtKick : Foot := ⟨[.mezz], [], []⟩

/-- What `swdtHalfPeriod` may change. -/
def Foot.swdtHalfPeriod : Foot := ⟨[], [], [word1 Rg.M0Src.PENDING]⟩

/-- What `swdtExpired` may change. -/
def Foot.swdtExpired : Foot := ⟨[.dict, .blobs, .regs, .mem, .epochs, .free, .logs, .limits, .ctrLatch, .ctrStage, .drains, .supply, .time, .d0, .sw,
  .can, .sleep, .power, .br, .load, .adc, .scan, .dma, .tenants, .mezz, .clk, .sto, .upd, .held, .harts, .twin], [], []⟩

/-- What `sourceStable` may change. -/
def Foot.sourceStable : Foot := ⟨[.clk], [ent0 Ent.Clk.SRC_STATUS], []⟩

/-- What `pllLock` may change. -/
def Foot.pllLock : Foot := ⟨[.mem, .logs, .dma, .tenants, .clk], logEnts ++ [ent0 Ent.Clk.SSC_ACTIVE], [word1 Rg.Hpg.RING_HEAD, word1
  Rg.Plat.SYS_IRQ]⟩

/-- What `rcoTrim` may change. -/
def Foot.rcoTrim : Foot := ⟨[.mem, .logs, .dma, .tenants], logEnts ++ [ent0 Ent.Clk.RCO_ERR_PPM, ent0 Ent.Clk.SRC_STATUS, ent0 Ent.Clk.TRIM_IN_USE],
  [word1 Rg.Hpg.RING_HEAD, word1 Rg.Plat.SYS_IRQ]⟩

/-- What `sscEnd` may change. -/
def Foot.sscEnd : Foot := ⟨[.mem, .logs, .dma, .tenants, .clk], logEnts ++ [ent0 Ent.Clk.SSC_ACTIVE], [word1 Rg.Hpg.RING_HEAD, word1 Rg.Plat.SYS_IRQ]⟩

/-- What `clkTrip` may change. -/
def Foot.clkTrip : Foot := ⟨[.mem, .logs, .time, .dma, .tenants, .clk], logEnts ++ [ent0 Ent.Clk.COUNTER_SAT, ent0 Ent.Clk.FORCED_SWITCHES, ent0
  Ent.Clk.SRC_STATUS, ent0 Ent.Clk.TRIPS, ent1 Ent.Dom.SOURCE], [word1 Rg.Hpg.RING_HEAD, word1 Rg.M0Src.PENDING, word1 Rg.Plat.SYS_IRQ]⟩

/-- What `domainSwitch` may change. -/
def Foot.domainSwitch : Foot := ⟨[.mem, .free, .logs, .limits, .time, .d0, .sw, .can, .power, .br, .scan, .dma, .tenants, .clk, .harts, .twin],
  logEnts ++ [ent0 Ent.Stw.COUNTER_SAT, ent0 Ent.Stw.STW_ECC_DROPS, ent0 Ent.Tws.PATHS, ent0 Ent.Tws.ROLE, ent1 Ent.Bctx.COUNTER_SAT, ent1
  Ent.Bctx.FAILURES, ent1 Ent.Bctx.POSTED, ent1 Ent.Bctx.READS, ent1 Ent.Bctx.RETRANSMITS, ent1 Ent.Bctx.SESSION, ent1 Ent.Bctx.TIMEOUTS, ent1
  Ent.CanCo.SDO_LAST_STATUS, ent1 Ent.CanSt.COUNTER_SAT, ent1 Ent.CanSt.TX_DISCARDED, ent1 Ent.Dom.SOURCE, ent1 Ent.Hall.CMD_STATUS, ent1
  Ent.Hall.COUNTER_SAT, ent1 Ent.Hall.FROZEN_DROPS, ent1 Ent.Hall.STATE, ent1 Ent.Heng.COUNTER_SAT, ent1 Ent.Heng.NO_QP, ent1
  Ent.Port.EGRESS_FILTERED, ent1 Ent.Port.LINK_DOWNS, ent1 Ent.Port.PORT_SAT, ent1 Ent.Port.TX_BYTES, ent1 Ent.Port.TX_FRAMES, ent1
  Ent.Pq.COPIES_DROPPED, ent1 Ent.Pq.CT_ABORTED, ent1 Ent.Pq.NO_DESC, ent1 Ent.Pq.OVERSIZE, ent1 Ent.Pq.PORT_SAT, ent1 Ent.Pq.Q_SAT, ent1
  Ent.Stn.COUNTER_SAT, ent1 Ent.Stn.LOSSES, ent1 Ent.Stn.STATE, ent2 Ent.Pq.DROP_DISABLED, ent2 Ent.Pq.DROP_DOWN, ent2 Ent.Pq.DROP_FULL, ent2
  Ent.Pq.DROP_RESIDENCE, ent2 Ent.Pq.DROP_STW], [word0 Rg.Smb.DONE, word0 Rg.Smb.MB_LEN, word0 Rg.Smb.MB_TOTAL, word1 Rg.Hpg.RING_EN, word1
  Rg.Hpg.RING_HEAD, word1 Rg.Mb.DONE, word1 Rg.Mb.MB_LEN, word1 Rg.Mb.MB_TOTAL, word1 Rg.Plat.SYS_IRQ, word1 Rg.Smb.MB_DATA, word2 Rg.Ctx.BST_ADDR_HI,
  word2 Rg.Ctx.BST_ADDR_LO, word2 Rg.Ctx.FAILED, word2 Rg.Ctx.FAR_CODE, word2 Rg.Ctx.IRQ, word2 Rg.Ctx.PW_DONE, word2 Rg.Ctx.SESSION, word2
  Rg.Ep.MERGED, word2 Rg.Mb.MB_DATA, word2 fun u k => rmb u k Rg.Mb.CODE, word2 fun u k => rmb u k Rg.Mb.GO, word2 fun u k => rmb u k Rg.Mb.MB_LEN,
  word2 fun u k => rmb u k Rg.Mb.MB_TOTAL, word3 fun u k i => rmb u k fun n => Rg.Mb.MB_DATA n i]⟩

/-- What `domainSwitchComplete` may change. -/
def Foot.domainSwitchComplete : Foot := ⟨[.mem, .free, .logs, .limits, .time, .d0, .sw, .can, .power, .br, .scan, .dma, .tenants, .clk, .harts,
  .twin], logEnts ++ [ent0 Ent.Stw.COUNTER_SAT, ent0 Ent.Stw.STW_ECC_DROPS, ent0 Ent.Tws.PATHS, ent0 Ent.Tws.ROLE, ent1 Ent.Bctx.COUNTER_SAT, ent1
  Ent.Bctx.FAILURES, ent1 Ent.Bctx.POSTED, ent1 Ent.Bctx.READS, ent1 Ent.Bctx.RETRANSMITS, ent1 Ent.Bctx.SESSION, ent1 Ent.Bctx.TIMEOUTS, ent1
  Ent.CanCo.SDO_LAST_STATUS, ent1 Ent.CanSt.COUNTER_SAT, ent1 Ent.CanSt.TX_DISCARDED, ent1 Ent.Dom.COUNTER_SAT, ent1 Ent.Dom.SOURCE, ent1
  Ent.Dom.SWITCHES, ent1 Ent.Hall.CMD_STATUS, ent1 Ent.Hall.COUNTER_SAT, ent1 Ent.Hall.FROZEN_DROPS, ent1 Ent.Hall.STATE, ent1 Ent.Heng.COUNTER_SAT,
  ent1 Ent.Heng.NO_QP, ent1 Ent.Port.EGRESS_FILTERED, ent1 Ent.Port.LINK_DOWNS, ent1 Ent.Port.PORT_SAT, ent1 Ent.Port.TX_BYTES, ent1
  Ent.Port.TX_FRAMES, ent1 Ent.Pq.COPIES_DROPPED, ent1 Ent.Pq.CT_ABORTED, ent1 Ent.Pq.NO_DESC, ent1 Ent.Pq.OVERSIZE, ent1 Ent.Pq.PORT_SAT, ent1
  Ent.Pq.Q_SAT, ent1 Ent.Stn.COUNTER_SAT, ent1 Ent.Stn.LOSSES, ent1 Ent.Stn.STATE, ent2 Ent.Pq.DROP_DISABLED, ent2 Ent.Pq.DROP_DOWN, ent2
  Ent.Pq.DROP_FULL, ent2 Ent.Pq.DROP_RESIDENCE, ent2 Ent.Pq.DROP_STW], [word0 Rg.Smb.DONE, word0 Rg.Smb.MB_LEN, word0 Rg.Smb.MB_TOTAL, word1
  Rg.Hpg.RING_EN, word1 Rg.Hpg.RING_HEAD, word1 Rg.Mb.DONE, word1 Rg.Mb.MB_LEN, word1 Rg.Mb.MB_TOTAL, word1 Rg.Plat.SYS_IRQ, word1 Rg.Smb.MB_DATA,
  word2 Rg.Ctx.BST_ADDR_HI, word2 Rg.Ctx.BST_ADDR_LO, word2 Rg.Ctx.FAILED, word2 Rg.Ctx.FAR_CODE, word2 Rg.Ctx.IRQ, word2 Rg.Ctx.PW_DONE, word2
  Rg.Ctx.SESSION, word2 Rg.Ep.MERGED, word2 Rg.Mb.MB_DATA, word2 fun u k => rmb u k Rg.Mb.CODE, word2 fun u k => rmb u k Rg.Mb.GO, word2 fun u k =>
  rmb u k Rg.Mb.MB_LEN, word2 fun u k => rmb u k Rg.Mb.MB_TOTAL, word3 fun u k i => rmb u k fun n => Rg.Mb.MB_DATA n i]⟩

/-- What `forcedSwitch` may change. -/
def Foot.forcedSwitch : Foot := ⟨[.mem, .free, .logs, .limits, .time, .d0, .sw, .can, .power, .br, .scan, .dma, .tenants, .clk, .harts, .twin],
  logEnts ++ [ent0 Ent.Clk.COUNTER_SAT, ent0 Ent.Clk.FORCED_SWITCHES, ent0 Ent.Stw.COUNTER_SAT, ent0 Ent.Stw.STW_ECC_DROPS, ent0 Ent.Tws.PATHS, ent0
  Ent.Tws.ROLE, ent1 Ent.Bctx.COUNTER_SAT, ent1 Ent.Bctx.FAILURES, ent1 Ent.Bctx.POSTED, ent1 Ent.Bctx.READS, ent1 Ent.Bctx.RETRANSMITS, ent1
  Ent.Bctx.SESSION, ent1 Ent.Bctx.TIMEOUTS, ent1 Ent.CanCo.SDO_LAST_STATUS, ent1 Ent.CanSt.COUNTER_SAT, ent1 Ent.CanSt.TX_DISCARDED, ent1
  Ent.Dom.CLKSW_FORCED, ent1 Ent.Dom.COUNTER_SAT, ent1 Ent.Dom.SOURCE, ent1 Ent.Dom.SWITCHES, ent1 Ent.Dom.UNCERTAIN, ent1 Ent.Hall.CMD_STATUS, ent1
  Ent.Hall.COUNTER_SAT, ent1 Ent.Hall.FROZEN_DROPS, ent1 Ent.Hall.STATE, ent1 Ent.Heng.COUNTER_SAT, ent1 Ent.Heng.NO_QP, ent1
  Ent.Port.EGRESS_FILTERED, ent1 Ent.Port.LINK_DOWNS, ent1 Ent.Port.PORT_SAT, ent1 Ent.Port.TX_BYTES, ent1 Ent.Port.TX_FRAMES, ent1
  Ent.Pq.COPIES_DROPPED, ent1 Ent.Pq.CT_ABORTED, ent1 Ent.Pq.NO_DESC, ent1 Ent.Pq.OVERSIZE, ent1 Ent.Pq.PORT_SAT, ent1 Ent.Pq.Q_SAT, ent1
  Ent.Stn.COUNTER_SAT, ent1 Ent.Stn.LOSSES, ent1 Ent.Stn.STATE, ent2 Ent.Pq.DROP_DISABLED, ent2 Ent.Pq.DROP_DOWN, ent2 Ent.Pq.DROP_FULL, ent2
  Ent.Pq.DROP_RESIDENCE, ent2 Ent.Pq.DROP_STW], [word0 Rg.Smb.DONE, word0 Rg.Smb.MB_LEN, word0 Rg.Smb.MB_TOTAL, word1 Rg.Hpg.RING_EN, word1
  Rg.Hpg.RING_HEAD, word1 Rg.Mb.DONE, word1 Rg.Mb.MB_LEN, word1 Rg.Mb.MB_TOTAL, word1 Rg.Plat.SYS_IRQ, word1 Rg.Smb.MB_DATA, word2 Rg.Ctx.BST_ADDR_HI,
  word2 Rg.Ctx.BST_ADDR_LO, word2 Rg.Ctx.FAILED, word2 Rg.Ctx.FAR_CODE, word2 Rg.Ctx.IRQ, word2 Rg.Ctx.PW_DONE, word2 Rg.Ctx.SESSION, word2
  Rg.Ep.MERGED, word2 Rg.Mb.MB_DATA, word2 fun u k => rmb u k Rg.Mb.CODE, word2 fun u k => rmb u k Rg.Mb.GO, word2 fun u k => rmb u k Rg.Mb.MB_LEN,
  word2 fun u k => rmb u k Rg.Mb.MB_TOTAL, word3 fun u k i => rmb u k fun n => Rg.Mb.MB_DATA n i]⟩

/-- What `revertTimeout` may change. -/
def Foot.revertTimeout : Foot := ⟨[.mem, .free, .logs, .limits, .time, .d0, .sw, .can, .power, .br, .scan, .dma, .tenants, .clk, .harts, .twin],
  logEnts ++ [ent0 Ent.Stw.COUNTER_SAT, ent0 Ent.Stw.STW_ECC_DROPS, ent0 Ent.Tws.PATHS, ent0 Ent.Tws.ROLE, ent1 Ent.Bctx.COUNTER_SAT, ent1
  Ent.Bctx.FAILURES, ent1 Ent.Bctx.POSTED, ent1 Ent.Bctx.READS, ent1 Ent.Bctx.RETRANSMITS, ent1 Ent.Bctx.SESSION, ent1 Ent.Bctx.TIMEOUTS, ent1
  Ent.CanCo.SDO_LAST_STATUS, ent1 Ent.CanSt.COUNTER_SAT, ent1 Ent.CanSt.TX_DISCARDED, ent1 Ent.Dom.SOURCE, ent1 Ent.Hall.CMD_STATUS, ent1
  Ent.Hall.COUNTER_SAT, ent1 Ent.Hall.FROZEN_DROPS, ent1 Ent.Hall.STATE, ent1 Ent.Heng.COUNTER_SAT, ent1 Ent.Heng.NO_QP, ent1
  Ent.Port.EGRESS_FILTERED, ent1 Ent.Port.LINK_DOWNS, ent1 Ent.Port.PORT_SAT, ent1 Ent.Port.TX_BYTES, ent1 Ent.Port.TX_FRAMES, ent1
  Ent.Pq.COPIES_DROPPED, ent1 Ent.Pq.CT_ABORTED, ent1 Ent.Pq.NO_DESC, ent1 Ent.Pq.OVERSIZE, ent1 Ent.Pq.PORT_SAT, ent1 Ent.Pq.Q_SAT, ent1
  Ent.Stn.COUNTER_SAT, ent1 Ent.Stn.LOSSES, ent1 Ent.Stn.STATE, ent2 Ent.Pq.DROP_DISABLED, ent2 Ent.Pq.DROP_DOWN, ent2 Ent.Pq.DROP_FULL, ent2
  Ent.Pq.DROP_RESIDENCE, ent2 Ent.Pq.DROP_STW], [word0 Rg.Smb.DONE, word0 Rg.Smb.MB_LEN, word0 Rg.Smb.MB_TOTAL, word1 Rg.Hpg.RING_EN, word1
  Rg.Hpg.RING_HEAD, word1 Rg.Mb.DONE, word1 Rg.Mb.MB_LEN, word1 Rg.Mb.MB_TOTAL, word1 Rg.Plat.SYS_IRQ, word1 Rg.Smb.MB_DATA, word2 Rg.Ctx.BST_ADDR_HI,
  word2 Rg.Ctx.BST_ADDR_LO, word2 Rg.Ctx.FAILED, word2 Rg.Ctx.FAR_CODE, word2 Rg.Ctx.IRQ, word2 Rg.Ctx.PW_DONE, word2 Rg.Ctx.SESSION, word2
  Rg.Ep.MERGED, word2 Rg.Mb.MB_DATA, word2 fun u k => rmb u k Rg.Mb.CODE, word2 fun u k => rmb u k Rg.Mb.GO, word2 fun u k => rmb u k Rg.Mb.MB_LEN,
  word2 fun u k => rmb u k Rg.Mb.MB_TOTAL, word3 fun u k i => rmb u k fun n => Rg.Mb.MB_DATA n i]⟩

/-- What `refLoss` may change. -/
def Foot.refLoss : Foot := ⟨[.mem, .free, .logs, .limits, .time, .d0, .sw, .can, .power, .br, .load, .scan, .dma, .tenants, .clk, .harts, .twin],
  logEnts ++ [ent0 Ent.Chg.CHANGES, ent0 Ent.Chg.CHANGE_RESULT, ent0 Ent.Chg.CHANGE_STATE, ent0 Ent.Chg.CHANGE_STATUS, ent0 Ent.Chg.COUNTER_SAT, ent0
  Ent.Chg.REFUSALS, ent0 Ent.Clk.COUNTER_SAT, ent0 Ent.Clk.REF_LOSS, ent0 Ent.Clk.REF_LOSSES, ent0 Ent.Clk.SSC_ACTIVE, ent0 Ent.Se.CMD_STATUS, ent0
  Ent.Se.FAULT_CAUSE, ent0 Ent.Se.STATE, ent0 Ent.Stw.COUNTER_SAT, ent0 Ent.Stw.STW_ECC_DROPS, ent0 Ent.Tws.PATHS, ent0 Ent.Tws.ROLE, ent1
  Ent.Bctx.COUNTER_SAT, ent1 Ent.Bctx.FAILURES, ent1 Ent.Bctx.POSTED, ent1 Ent.Bctx.READS, ent1 Ent.Bctx.RETRANSMITS, ent1 Ent.Bctx.SESSION, ent1
  Ent.Bctx.TIMEOUTS, ent1 Ent.CanCo.SDO_LAST_STATUS, ent1 Ent.CanSt.COUNTER_SAT, ent1 Ent.CanSt.TX_DISCARDED, ent1 Ent.Hall.CMD_STATUS, ent1
  Ent.Hall.COUNTER_SAT, ent1 Ent.Hall.FROZEN_DROPS, ent1 Ent.Hall.STATE, ent1 Ent.Heng.COUNTER_SAT, ent1 Ent.Heng.NO_QP, ent1 Ent.Lc.FLAGS, ent1
  Ent.Lc.STATE, ent1 Ent.Port.EGRESS_FILTERED, ent1 Ent.Port.LINK_DOWNS, ent1 Ent.Port.PORT_SAT, ent1 Ent.Port.TX_BYTES, ent1 Ent.Port.TX_FRAMES, ent1
  Ent.Pq.COPIES_DROPPED, ent1 Ent.Pq.CT_ABORTED, ent1 Ent.Pq.NO_DESC, ent1 Ent.Pq.OVERSIZE, ent1 Ent.Pq.PORT_SAT, ent1 Ent.Pq.Q_SAT, ent1
  Ent.Stn.COUNTER_SAT, ent1 Ent.Stn.LOSSES, ent1 Ent.Stn.STATE, ent2 Ent.Pq.DROP_DISABLED, ent2 Ent.Pq.DROP_DOWN, ent2 Ent.Pq.DROP_FULL, ent2
  Ent.Pq.DROP_RESIDENCE, ent2 Ent.Pq.DROP_STW], [word0 Rg.M0Cpg.DEPTH, word0 Rg.Smb.DONE, word0 Rg.Smb.MB_LEN, word0 Rg.Smb.MB_TOTAL, word1
  Rg.Cpg.DEPTH, word1 Rg.Hpg.RING_EN, word1 Rg.Hpg.RING_HEAD, word1 Rg.M0Cpg.STK_SRC, word1 Rg.Mb.DONE, word1 Rg.Mb.MB_LEN, word1 Rg.Mb.MB_TOTAL,
  word1 Rg.Plat.SYS_IRQ, word1 Rg.Smb.MB_DATA, word1 Rg.Src.PENDING, word2 Rg.Cpg.STK_SRC, word2 Rg.Ctx.BST_ADDR_HI, word2 Rg.Ctx.BST_ADDR_LO, word2
  Rg.Ctx.FAILED, word2 Rg.Ctx.FAR_CODE, word2 Rg.Ctx.IRQ, word2 Rg.Ctx.PW_DONE, word2 Rg.Ctx.SESSION, word2 Rg.Ep.MERGED, word2 Rg.Mb.MB_DATA, word2
  fun u k => rmb u k Rg.Mb.CODE, word2 fun u k => rmb u k Rg.Mb.GO, word2 fun u k => rmb u k Rg.Mb.MB_LEN, word2 fun u k => rmb u k Rg.Mb.MB_TOTAL,
  word3 fun u k i => rmb u k fun n => Rg.Mb.MB_DATA n i]⟩

/-- What `refLossEnd` may change. -/
def Foot.refLossEnd : Foot := ⟨[.mem, .free, .logs, .time, .load, .dma, .tenants, .clk, .twin], logEnts ++ [ent0 Ent.Clk.REF_LOSS, ent0
  Ent.Clk.SSC_ACTIVE, ent0 Ent.Tws.ROLE, ent1 Ent.Dom.SOURCE, ent1 Ent.Hall.COUNTER_SAT, ent1 Ent.Lc.FLAGS, ent1 Ent.Lc.STATE], [word1 Rg.Ch.TEC,
  word1 Rg.Hpg.RING_EN, word1 Rg.Hpg.RING_HEAD, word1 Rg.Plat.SYS_IRQ]⟩

/-- What `gateOn` may change. -/
def Foot.gateOn : Foot := ⟨[.regs, .mem, .free, .logs, .limits, .drains, .time, .d0, .sw, .can, .power, .br, .load, .adc, .scan, .dma, .tenants,
  .mezz, .clk, .sto, .upd, .held, .harts, .twin], logEnts ++ [ent0 Ent.Chg.CHANGES, ent0 Ent.Chg.CHANGE_RESULT, ent0 Ent.Chg.CHANGE_STATE, ent0
  Ent.Chg.CHANGE_STATUS, ent0 Ent.Chg.COUNTER_SAT, ent0 Ent.Chg.REFUSALS, ent0 Ent.Clk.SSC_ACTIVE, ent0 Ent.Lease.COUNTER_SAT, ent0
  Ent.Lease.LEASE_REFUSALS, ent0 Ent.Se.STATE, ent0 Ent.Stg.STAGING, ent0 Ent.Stw.COUNTER_SAT, ent0 Ent.Stw.STW_ECC_DROPS, ent0 Ent.Tws.PATHS, ent0
  Ent.Tws.ROLE, ent0 Ent.Upd.STAGED_VERSION, ent0 Ent.Upd.STAGING_STATE, ent1 Ent.Adc.STATE, ent1 Ent.Bctx.COUNTER_SAT, ent1 Ent.Bctx.FAILURES, ent1
  Ent.Bctx.POSTED, ent1 Ent.Bctx.READS, ent1 Ent.Bctx.RETRANSMITS, ent1 Ent.Bctx.SESSION, ent1 Ent.Bctx.STATE, ent1 Ent.Bctx.TIMEOUTS, ent1
  Ent.CanCo.SDO_LAST_STATUS, ent1 Ent.CanSt.COUNTER_SAT, ent1 Ent.CanSt.STATE, ent1 Ent.CanSt.TX_DISCARDED, ent1 Ent.Dma.BYTES, ent1
  Ent.Dma.COUNTER_SAT, ent1 Ent.Dma.DESCRIPTORS, ent1 Ent.Dma.ERRORS, ent1 Ent.Dma.STALE, ent1 Ent.Dma.STATE, ent1 Ent.Dom.SOURCE, ent1
  Ent.Hall.CMD_STATUS, ent1 Ent.Hall.COUNTER_SAT, ent1 Ent.Hall.FROZEN_DROPS, ent1 Ent.Hall.STATE, ent1 Ent.Heng.COUNTER_SAT, ent1 Ent.Heng.NO_QP,
  ent1 Ent.Heng.STATE, ent1 Ent.Key.KEY, ent1 Ent.Key.LOADED, ent1 Ent.Key.USAGE, ent1 Ent.Lc.FLAGS, ent1 Ent.Lc.STATE, ent1 Ent.Port.EGRESS_FILTERED,
  ent1 Ent.Port.LINK_DOWNS, ent1 Ent.Port.PORT_SAT, ent1 Ent.Port.STATE, ent1 Ent.Port.TX_BYTES, ent1 Ent.Port.TX_FRAMES, ent1 Ent.Port.TX_OVERRUN,
  ent1 Ent.Pq.COPIES_DROPPED, ent1 Ent.Pq.CT_ABORTED, ent1 Ent.Pq.NO_DESC, ent1 Ent.Pq.OVERSIZE, ent1 Ent.Pq.PORT_SAT, ent1 Ent.Pq.Q_SAT, ent1
  Ent.Qp.COUNTER_SAT, ent1 Ent.Qp.ERR_LOST, ent1 Ent.Qp.STATE, ent1 Ent.Qp.TX_ERRORS, ent1 Ent.Qp.TX_FRAMES, ent1 Ent.Stn.COUNTER_SAT, ent1
  Ent.Stn.LOSSES, ent1 Ent.Stn.STATE, ent1 Ent.Trgu.ENABLE, ent1 Ent.Trgu.OWNER, ent2 Ent.Gate.GATE, ent2 Ent.Pq.DROP_DISABLED, ent2 Ent.Pq.DROP_DOWN,
  ent2 Ent.Pq.DROP_FULL, ent2 Ent.Pq.DROP_RESIDENCE, ent2 Ent.Pq.DROP_STW, ent2 Ent.Pq.Q_STATE], []⟩

/-- What `gateOff` may change. -/
def Foot.gateOff : Foot := ⟨[.mem, .free, .logs, .limits, .time, .d0, .sw, .can, .power, .br, .scan, .dma, .tenants, .clk, .harts, .twin], logEnts ++
  [ent0 Ent.Lease.COUNTER_SAT, ent0 Ent.Lease.LEASE_REFUSALS, ent0 Ent.Stw.COUNTER_SAT, ent0 Ent.Stw.STW_ECC_DROPS, ent0 Ent.Tws.PATHS, ent0
  Ent.Tws.ROLE, ent1 Ent.Bctx.COUNTER_SAT, ent1 Ent.Bctx.FAILURES, ent1 Ent.Bctx.POSTED, ent1 Ent.Bctx.READS, ent1 Ent.Bctx.RETRANSMITS, ent1
  Ent.Bctx.SESSION, ent1 Ent.Bctx.TIMEOUTS, ent1 Ent.CanCo.SDO_LAST_STATUS, ent1 Ent.CanSt.COUNTER_SAT, ent1 Ent.CanSt.TX_DISCARDED, ent1
  Ent.Dom.SOURCE, ent1 Ent.Hall.CMD_STATUS, ent1 Ent.Hall.COUNTER_SAT, ent1 Ent.Hall.FROZEN_DROPS, ent1 Ent.Hall.STATE, ent1 Ent.Heng.COUNTER_SAT,
  ent1 Ent.Heng.NO_QP, ent1 Ent.Port.EGRESS_FILTERED, ent1 Ent.Port.LINK_DOWNS, ent1 Ent.Port.PORT_SAT, ent1 Ent.Port.TX_BYTES, ent1
  Ent.Port.TX_FRAMES, ent1 Ent.Pq.COPIES_DROPPED, ent1 Ent.Pq.CT_ABORTED, ent1 Ent.Pq.NO_DESC, ent1 Ent.Pq.OVERSIZE, ent1 Ent.Pq.PORT_SAT, ent1
  Ent.Pq.Q_SAT, ent1 Ent.Stn.COUNTER_SAT, ent1 Ent.Stn.LOSSES, ent1 Ent.Stn.STATE, ent2 Ent.Gate.GATE, ent2 Ent.Pq.DROP_DISABLED, ent2
  Ent.Pq.DROP_DOWN, ent2 Ent.Pq.DROP_FULL, ent2 Ent.Pq.DROP_RESIDENCE, ent2 Ent.Pq.DROP_STW], [word0 Rg.Smb.DONE, word0 Rg.Smb.MB_LEN, word0
  Rg.Smb.MB_TOTAL, word1 Rg.Hpg.RING_EN, word1 Rg.Hpg.RING_HEAD, word1 Rg.M0Src.PENDING, word1 Rg.Mb.DONE, word1 Rg.Mb.MB_LEN, word1 Rg.Mb.MB_TOTAL,
  word1 Rg.Plat.SYS_IRQ, word1 Rg.Smb.MB_DATA, word2 Rg.Ctx.BST_ADDR_HI, word2 Rg.Ctx.BST_ADDR_LO, word2 Rg.Ctx.FAILED, word2 Rg.Ctx.FAR_CODE, word2
  Rg.Ctx.IRQ, word2 Rg.Ctx.PW_DONE, word2 Rg.Ctx.SESSION, word2 Rg.Ep.MERGED, word2 Rg.Mb.MB_DATA, word2 fun u k => rmb u k Rg.Mb.CODE, word2 fun u k
  => rmb u k Rg.Mb.GO, word2 fun u k => rmb u k Rg.Mb.MB_LEN, word2 fun u k => rmb u k Rg.Mb.MB_TOTAL, word3 fun u k i => rmb u k fun n =>
  Rg.Mb.MB_DATA n i]⟩

/-- What `gatePark` may change. -/
def Foot.gatePark : Foot := ⟨[], [ent2 Ent.Gate.GATE], []⟩

/-- What `gateUnpark` may change. -/
def Foot.gateUnpark : Foot := ⟨[], [ent2 Ent.Gate.GATE], []⟩

/-- What `vauxOn` may change. -/
def Foot.vauxOn : Foot := ⟨[.dict, .blobs, .mem, .epochs, .free, .logs, .limits, .time, .d0, .sw, .can, .sleep, .power, .br, .load, .scan, .dma,
  .tenants, .mezz, .clk, .sto, .upd, .harts, .twin], [], [word0 Rg.Slpr.FW_PENDING, word0 Rg.Smb.DONE, word0 Rg.Smb.MB_LEN, word0 Rg.Smb.MB_TOTAL,
  word0 Rg.Swd.EN, word1 Rg.Ch.TEC, word1 Rg.Dmar.ACTIVE, word1 Rg.Hpg.RING_EN, word1 Rg.Hpg.RING_HEAD, word1 Rg.M0Src.PENDING, word1 Rg.Mb.DONE,
  word1 Rg.Mb.MB_LEN, word1 Rg.Mb.MB_TOTAL, word1 Rg.Plat.SYS_IRQ, word1 Rg.Smb.MB_DATA, word1 Rg.Wm.LOCKED, word2 Rg.Ctx.BST_ADDR_HI, word2
  Rg.Ctx.BST_ADDR_LO, word2 Rg.Ctx.FAILED, word2 Rg.Ctx.FAR_CODE, word2 Rg.Ctx.IRQ, word2 Rg.Ctx.SESSION, word2 Rg.Ep.MERGED, word2 Rg.Mb.MB_DATA,
  word2 fun u k => rmb u k Rg.Mb.CODE, word2 fun u k => rmb u k Rg.Mb.GO, word2 fun u k => rmb u k Rg.Mb.MB_LEN, word2 fun u k => rmb u k
  Rg.Mb.MB_TOTAL, word3 fun u k i => rmb u k fun n => Rg.Mb.MB_DATA n i]⟩

/-- What `vauxPor` may change. -/
def Foot.vauxPor : Foot := ⟨[.dict, .blobs, .regs, .mem, .epochs, .free, .logs, .limits, .ctrLatch, .ctrStage, .drains, .supply, .time, .d0, .sw,
  .can, .sleep, .power, .br, .load, .adc, .scan, .dma, .tenants, .mezz, .clk, .sto, .held, .harts, .twin], [], []⟩

/-- What `resetNLow` may change. -/
def Foot.resetNLow : Foot := ⟨[.dict, .blobs, .regs, .mem, .epochs, .free, .logs, .limits, .ctrLatch, .ctrStage, .drains, .supply, .time, .d0, .sw,
  .can, .sleep, .power, .br, .load, .adc, .scan, .dma, .tenants, .mezz, .clk, .sto, .held, .harts, .twin], [], []⟩

/-- What `resetNHigh` may change. -/
def Foot.resetNHigh : Foot := ⟨[.dict, .blobs, .mem, .epochs, .free, .logs, .limits, .time, .d0, .sw, .can, .sleep, .power, .br, .load, .scan, .dma,
  .tenants, .mezz, .clk, .sto, .upd, .harts, .twin], [], [word0 Rg.Slpr.FW_PENDING, word0 Rg.Smb.DONE, word0 Rg.Smb.MB_LEN, word0 Rg.Smb.MB_TOTAL,
  word0 Rg.Swd.EN, word1 Rg.Ch.TEC, word1 Rg.Dmar.ACTIVE, word1 Rg.Hpg.RING_EN, word1 Rg.Hpg.RING_HEAD, word1 Rg.M0Src.PENDING, word1 Rg.Mb.DONE,
  word1 Rg.Mb.MB_LEN, word1 Rg.Mb.MB_TOTAL, word1 Rg.Plat.SYS_IRQ, word1 Rg.Smb.MB_DATA, word1 Rg.Wm.LOCKED, word2 Rg.Ctx.BST_ADDR_HI, word2
  Rg.Ctx.BST_ADDR_LO, word2 Rg.Ctx.FAILED, word2 Rg.Ctx.FAR_CODE, word2 Rg.Ctx.IRQ, word2 Rg.Ctx.SESSION, word2 Rg.Ep.MERGED, word2 Rg.Mb.MB_DATA,
  word2 fun u k => rmb u k Rg.Mb.CODE, word2 fun u k => rmb u k Rg.Mb.GO, word2 fun u k => rmb u k Rg.Mb.MB_LEN, word2 fun u k => rmb u k
  Rg.Mb.MB_TOTAL, word3 fun u k i => rmb u k fun n => Rg.Mb.MB_DATA n i]⟩

/-- What `fatalFault` may change. -/
def Foot.fatalFault : Foot := ⟨[.dict, .blobs, .regs, .mem, .epochs, .free, .logs, .limits, .ctrLatch, .ctrStage, .drains, .supply, .time, .d0, .sw,
  .can, .sleep, .power, .br, .load, .adc, .scan, .dma, .tenants, .mezz, .clk, .sto, .upd, .held, .harts, .twin], [], []⟩

/-- What `overtempClear` may change. -/
def Foot.overtempClear : Foot := ⟨[.dict, .blobs, .mem, .epochs, .free, .logs, .limits, .time, .d0, .sw, .can, .sleep, .power, .br, .load, .scan,
  .dma, .tenants, .mezz, .clk, .sto, .upd, .harts, .twin], [], [word0 Rg.Slpr.FW_PENDING, word0 Rg.Smb.DONE, word0 Rg.Smb.MB_LEN, word0
  Rg.Smb.MB_TOTAL, word0 Rg.Swd.EN, word1 Rg.Ch.TEC, word1 Rg.Dmar.ACTIVE, word1 Rg.Hpg.RING_EN, word1 Rg.Hpg.RING_HEAD, word1 Rg.M0Src.PENDING, word1
  Rg.Mb.DONE, word1 Rg.Mb.MB_LEN, word1 Rg.Mb.MB_TOTAL, word1 Rg.Plat.SYS_IRQ, word1 Rg.Smb.MB_DATA, word1 Rg.Wm.LOCKED, word2 Rg.Ctx.BST_ADDR_HI,
  word2 Rg.Ctx.BST_ADDR_LO, word2 Rg.Ctx.FAILED, word2 Rg.Ctx.FAR_CODE, word2 Rg.Ctx.IRQ, word2 Rg.Ctx.SESSION, word2 Rg.Ep.MERGED, word2
  Rg.Mb.MB_DATA, word2 fun u k => rmb u k Rg.Mb.CODE, word2 fun u k => rmb u k Rg.Mb.GO, word2 fun u k => rmb u k Rg.Mb.MB_LEN, word2 fun u k => rmb u
  k Rg.Mb.MB_TOTAL, word3 fun u k i => rmb u k fun n => Rg.Mb.MB_DATA n i]⟩

/-- What `warmReset` may change. -/
def Foot.warmReset : Foot := ⟨[.dict, .blobs, .regs, .mem, .epochs, .free, .logs, .limits, .ctrLatch, .ctrStage, .drains, .time, .d0, .sw, .can,
  .sleep, .power, .br, .load, .adc, .scan, .dma, .tenants, .mezz, .clk, .sto, .upd, .held, .harts, .twin], [], []⟩

/-- What `aCoreFatal` may change. -/
def Foot.aCoreFatal : Foot := ⟨[.dict, .blobs, .regs, .mem, .epochs, .free, .logs, .limits, .ctrLatch, .ctrStage, .drains, .time, .d0, .sw, .can,
  .sleep, .power, .br, .load, .adc, .scan, .dma, .tenants, .mezz, .clk, .sto, .upd, .held, .harts, .twin], [], []⟩

/-- What `unitReset` may change. -/
def Foot.unitReset : Foot := ⟨[.regs, .mem, .free, .logs, .limits, .drains, .d0, .sw, .can, .power, .br, .load, .adc, .scan, .dma, .tenants, .mezz,
  .clk, .sto, .upd, .held, .harts, .twin], logEnts ++ [ent0 Ent.Chg.CHANGES, ent0 Ent.Chg.CHANGE_RESULT, ent0 Ent.Chg.CHANGE_STATE, ent0
  Ent.Chg.CHANGE_STATUS, ent0 Ent.Chg.COUNTER_SAT, ent0 Ent.Chg.REFUSALS, ent0 Ent.Clk.SSC_ACTIVE, ent0 Ent.Lease.COUNTER_SAT, ent0
  Ent.Lease.LEASE_REFUSALS, ent0 Ent.Pwr.COUNTER_SAT, ent0 Ent.Pwr.UNIT_RESETS, ent0 Ent.Se.STATE, ent0 Ent.Stg.STAGING, ent0 Ent.Stw.COUNTER_SAT,
  ent0 Ent.Stw.STW_ECC_DROPS, ent0 Ent.Tws.PATHS, ent0 Ent.Tws.ROLE, ent0 Ent.Upd.STAGED_VERSION, ent0 Ent.Upd.STAGING_STATE, ent1 Ent.Adc.STATE, ent1
  Ent.Bctx.COUNTER_SAT, ent1 Ent.Bctx.FAILURES, ent1 Ent.Bctx.POSTED, ent1 Ent.Bctx.READS, ent1 Ent.Bctx.RETRANSMITS, ent1 Ent.Bctx.SESSION, ent1
  Ent.Bctx.STATE, ent1 Ent.Bctx.TIMEOUTS, ent1 Ent.CanCo.SDO_LAST_STATUS, ent1 Ent.CanSt.COUNTER_SAT, ent1 Ent.CanSt.STATE, ent1
  Ent.CanSt.TX_DISCARDED, ent1 Ent.Dma.BYTES, ent1 Ent.Dma.COUNTER_SAT, ent1 Ent.Dma.DESCRIPTORS, ent1 Ent.Dma.ERRORS, ent1 Ent.Dma.STALE, ent1
  Ent.Dma.STATE, ent1 Ent.Hall.CMD_STATUS, ent1 Ent.Hall.COUNTER_SAT, ent1 Ent.Hall.FROZEN_DROPS, ent1 Ent.Hall.STATE, ent1 Ent.Heng.COUNTER_SAT, ent1
  Ent.Heng.NO_QP, ent1 Ent.Heng.STATE, ent1 Ent.Key.KEY, ent1 Ent.Key.LOADED, ent1 Ent.Key.USAGE, ent1 Ent.Lc.CMD, ent1 Ent.Lc.FLAGS, ent1
  Ent.Lc.RETRIES_LEFT, ent1 Ent.Lc.STATE, ent1 Ent.Port.EGRESS_FILTERED, ent1 Ent.Port.LINK_DOWNS, ent1 Ent.Port.PORT_SAT, ent1 Ent.Port.STATE, ent1
  Ent.Port.TX_BYTES, ent1 Ent.Port.TX_FRAMES, ent1 Ent.Port.TX_OVERRUN, ent1 Ent.Pq.COPIES_DROPPED, ent1 Ent.Pq.CT_ABORTED, ent1 Ent.Pq.NO_DESC, ent1
  Ent.Pq.OVERSIZE, ent1 Ent.Pq.PORT_SAT, ent1 Ent.Pq.Q_SAT, ent1 Ent.Qp.COUNTER_SAT, ent1 Ent.Qp.ERR_LOST, ent1 Ent.Qp.STATE, ent1 Ent.Qp.TX_ERRORS,
  ent1 Ent.Qp.TX_FRAMES, ent1 Ent.Stn.COUNTER_SAT, ent1 Ent.Stn.LOSSES, ent1 Ent.Stn.STATE, ent1 Ent.Trgu.ENABLE, ent1 Ent.Trgu.OWNER, ent2
  Ent.Pq.DROP_DISABLED, ent2 Ent.Pq.DROP_DOWN, ent2 Ent.Pq.DROP_FULL, ent2 Ent.Pq.DROP_RESIDENCE, ent2 Ent.Pq.DROP_STW, ent2 Ent.Pq.Q_STATE], []⟩

/-- What `powerFail` may change. -/
def Foot.powerFail : Foot := ⟨[.mem, .free, .logs, .limits, .supply, .d0, .sw, .can, .power, .br, .load, .scan, .dma, .tenants, .clk, .harts, .twin],
  logEnts ++ [ent0 Ent.Chg.CHANGES, ent0 Ent.Chg.CHANGE_RESULT, ent0 Ent.Chg.CHANGE_STATE, ent0 Ent.Chg.CHANGE_STATUS, ent0 Ent.Chg.COUNTER_SAT, ent0
  Ent.Chg.REFUSALS, ent0 Ent.Clk.SSC_ACTIVE, ent0 Ent.Pwr.COUNTER_SAT, ent0 Ent.Pwr.PF_STATE, ent0 Ent.Pwr.POWER_FAILS, ent0 Ent.Se.CMD_STATUS, ent0
  Ent.Se.FAULT_CAUSE, ent0 Ent.Se.STATE, ent0 Ent.Stw.COUNTER_SAT, ent0 Ent.Stw.STW_ECC_DROPS, ent0 Ent.Tws.PATHS, ent0 Ent.Tws.ROLE, ent1
  Ent.Bctx.COUNTER_SAT, ent1 Ent.Bctx.FAILURES, ent1 Ent.Bctx.POSTED, ent1 Ent.Bctx.READS, ent1 Ent.Bctx.RETRANSMITS, ent1 Ent.Bctx.SESSION, ent1
  Ent.Bctx.TIMEOUTS, ent1 Ent.CanCo.SDO_LAST_STATUS, ent1 Ent.CanSt.COUNTER_SAT, ent1 Ent.CanSt.TX_DISCARDED, ent1 Ent.Hall.CMD_STATUS, ent1
  Ent.Hall.COUNTER_SAT, ent1 Ent.Hall.FROZEN_DROPS, ent1 Ent.Hall.STATE, ent1 Ent.Heng.COUNTER_SAT, ent1 Ent.Heng.NO_QP, ent1 Ent.Lc.FLAGS, ent1
  Ent.Lc.STATE, ent1 Ent.Port.EGRESS_FILTERED, ent1 Ent.Port.LINK_DOWNS, ent1 Ent.Port.PORT_SAT, ent1 Ent.Port.TX_BYTES, ent1 Ent.Port.TX_FRAMES, ent1
  Ent.Pq.COPIES_DROPPED, ent1 Ent.Pq.CT_ABORTED, ent1 Ent.Pq.NO_DESC, ent1 Ent.Pq.OVERSIZE, ent1 Ent.Pq.PORT_SAT, ent1 Ent.Pq.Q_SAT, ent1
  Ent.Stn.COUNTER_SAT, ent1 Ent.Stn.LOSSES, ent1 Ent.Stn.STATE, ent2 Ent.Pq.DROP_DISABLED, ent2 Ent.Pq.DROP_DOWN, ent2 Ent.Pq.DROP_FULL, ent2
  Ent.Pq.DROP_RESIDENCE, ent2 Ent.Pq.DROP_STW], [word0 Rg.M0Cpg.DEPTH, word0 Rg.Smb.DONE, word0 Rg.Smb.MB_LEN, word0 Rg.Smb.MB_TOTAL, word1
  Rg.Cpg.DEPTH, word1 Rg.Hpg.RING_EN, word1 Rg.Hpg.RING_HEAD, word1 Rg.M0Cpg.STK_SRC, word1 Rg.M0Src.PENDING, word1 Rg.Mb.DONE, word1 Rg.Mb.MB_LEN,
  word1 Rg.Mb.MB_TOTAL, word1 Rg.Plat.SYS_IRQ, word1 Rg.Smb.MB_DATA, word1 Rg.Src.PENDING, word2 Rg.Cpg.STK_SRC, word2 Rg.Ctx.BST_ADDR_HI, word2
  Rg.Ctx.BST_ADDR_LO, word2 Rg.Ctx.FAILED, word2 Rg.Ctx.FAR_CODE, word2 Rg.Ctx.IRQ, word2 Rg.Ctx.PW_DONE, word2 Rg.Ctx.SESSION, word2 Rg.Ep.MERGED,
  word2 Rg.Mb.MB_DATA, word2 fun u k => rmb u k Rg.Mb.CODE, word2 fun u k => rmb u k Rg.Mb.GO, word2 fun u k => rmb u k Rg.Mb.MB_LEN, word2 fun u k =>
  rmb u k Rg.Mb.MB_TOTAL, word3 fun u k i => rmb u k fun n => Rg.Mb.MB_DATA n i]⟩

/-- What `powerRestored` may change. -/
def Foot.powerRestored : Foot := ⟨[.mem, .logs, .supply, .load, .dma, .tenants, .clk, .twin], logEnts ++ [ent0 Ent.Clk.SSC_ACTIVE, ent0
  Ent.Pwr.COUNTER_SAT, ent0 Ent.Pwr.PF_STATE, ent0 Ent.Pwr.RECOVERIES, ent0 Ent.Tws.ROLE, ent1 Ent.Hall.COUNTER_SAT, ent1 Ent.Lc.FLAGS, ent1
  Ent.Lc.STATE], [word1 Rg.Ch.TEC, word1 Rg.Hpg.RING_EN, word1 Rg.Hpg.RING_HEAD, word1 Rg.Plat.SYS_IRQ]⟩

/-- What `spWriteFrame` may change. -/
def Foot.spWriteFrame : Foot := ⟨[.dict, .blobs, .regs, .mem, .epochs, .free, .logs, .limits, .ctrLatch, .ctrStage, .drains, .supply, .time, .d0, .sw,
  .can, .sleep, .power, .br, .load, .adc, .scan, .dma, .tenants, .mezz, .clk, .sto, .upd, .held, .harts, .twin], [], []⟩

/-- What `spReadFrame` may change. -/
def Foot.spReadFrame : Foot := ⟨[.power], [], []⟩

/-- What `spReadStatus` may change. -/
def Foot.spReadStatus : Foot := ⟨[], [], []⟩

/-- What `storageDescriptorFetch` may change. -/
def Foot.storageDescriptorFetch : Foot := ⟨[.sto], [], [word1 Rg.Stg.ACTIVE]⟩

/-- What `storageRead` may change. -/
def Foot.storageRead : Foot := ⟨[.mem, .free, .logs, .dma, .tenants, .sto], logEnts ++ [ent0 Ent.Sto.BAD_GROWN, ent0 Ent.Sto.CORRECTED_CW, ent0
  Ent.Sto.COUNTER_SAT, ent0 Ent.Sto.ERASE_MAX, ent0 Ent.Sto.ERASE_MEAN, ent0 Ent.Sto.HEALTH, ent0 Ent.Sto.LIFE_USED, ent0 Ent.Sto.NAND_WRITE_BYTES,
  ent0 Ent.Sto.READ_BYTES, ent0 Ent.Sto.SPARE_BLOCKS, ent0 Ent.Sto.UNCORRECTABLE, ent1 Ent.Hall.COUNTER_SAT, ent1 Ent.Part.COUNTER_SAT, ent1
  Ent.Part.READ_BYTES], [word1 Rg.Hpg.RING_EN, word1 Rg.Hpg.RING_HEAD, word1 Rg.Plat.SYS_IRQ, word1 Rg.Stg.ACTIVE]⟩

/-- What `storageWrite` may change. -/
def Foot.storageWrite : Foot := ⟨[.mem, .logs, .dma, .tenants, .sto], logEnts ++ [ent0 Ent.Sto.BAD_GROWN, ent0 Ent.Sto.CORRECTED_CW, ent0
  Ent.Sto.COUNTER_SAT, ent0 Ent.Sto.ERASE_MAX, ent0 Ent.Sto.ERASE_MEAN, ent0 Ent.Sto.HEALTH, ent0 Ent.Sto.HOST_WRITE_BYTES, ent0 Ent.Sto.LIFE_USED,
  ent0 Ent.Sto.NAND_WRITE_BYTES, ent0 Ent.Sto.SPARE_BLOCKS, ent1 Ent.Hall.COUNTER_SAT, ent1 Ent.Part.COUNTER_SAT, ent1 Ent.Part.WRITE_BYTES], [word1
  Rg.Hpg.RING_EN, word1 Rg.Hpg.RING_HEAD, word1 Rg.Plat.SYS_IRQ, word1 Rg.Stg.ACTIVE]⟩

/-- What `storageTrim` may change. -/
def Foot.storageTrim : Foot := ⟨[.sto], [], [word1 Rg.Stg.ACTIVE]⟩

/-- What `storageFlush` may change. -/
def Foot.storageFlush : Foot := ⟨[.sto], [], [word1 Rg.Stg.ACTIVE]⟩

/-- What `storageAppend` may change. -/
def Foot.storageAppend : Foot := ⟨[.mem, .logs, .dma, .tenants, .sto], logEnts ++ [ent0 Ent.Stlog.LOG_NEXT, ent0 Ent.Stlog.LOG_OLDEST, ent0
  Ent.Sto.BAD_GROWN, ent0 Ent.Sto.CORRECTED_CW, ent0 Ent.Sto.COUNTER_SAT, ent0 Ent.Sto.ERASE_MAX, ent0 Ent.Sto.ERASE_MEAN, ent0 Ent.Sto.HEALTH, ent0
  Ent.Sto.HOST_WRITE_BYTES, ent0 Ent.Sto.LIFE_USED, ent0 Ent.Sto.NAND_WRITE_BYTES, ent0 Ent.Sto.SPARE_BLOCKS, ent1 Ent.Hall.COUNTER_SAT, ent1
  Ent.Part.COUNTER_SAT, ent1 Ent.Part.WRITE_BYTES], [word1 Rg.Hpg.RING_EN, word1 Rg.Hpg.RING_HEAD, word1 Rg.Plat.SYS_IRQ, word1 Rg.Stg.ACTIVE]⟩

/-- What `storageLogRead` may change. -/
def Foot.storageLogRead : Foot := ⟨[.mem, .free, .logs, .dma, .tenants, .sto], logEnts ++ [ent0 Ent.Sto.BAD_GROWN, ent0 Ent.Sto.CORRECTED_CW, ent0
  Ent.Sto.COUNTER_SAT, ent0 Ent.Sto.ERASE_MAX, ent0 Ent.Sto.ERASE_MEAN, ent0 Ent.Sto.HEALTH, ent0 Ent.Sto.LIFE_USED, ent0 Ent.Sto.NAND_WRITE_BYTES,
  ent0 Ent.Sto.READ_BYTES, ent0 Ent.Sto.SPARE_BLOCKS, ent0 Ent.Sto.UNCORRECTABLE, ent1 Ent.Hall.COUNTER_SAT, ent1 Ent.Part.COUNTER_SAT, ent1
  Ent.Part.READ_BYTES], [word1 Rg.Hpg.RING_EN, word1 Rg.Hpg.RING_HEAD, word1 Rg.Plat.SYS_IRQ, word1 Rg.Stg.ACTIVE]⟩

/-- What `storageCmdComplete` may change. -/
def Foot.storageCmdComplete : Foot := ⟨[.mem, .logs, .limits, .dma, .tenants, .sto], logEnts ++ [ent1 Ent.Hall.COUNTER_SAT, ent1 Ent.Part.COUNTER_SAT,
  ent1 Ent.Part.ERRORS], [word1 Rg.Hpg.RING_EN, word1 Rg.Hpg.RING_HEAD, word1 Rg.Stg.ACTIVE, word1 Rg.Stg.HEAD, word1 Rg.Stg.IRQ]⟩

/-- What `eventLogCommit` may change. -/
def Foot.eventLogCommit : Foot := ⟨[.logs, .sto], [ent0 Ent.Evl.EVENT_FIRST, ent0 Ent.Evl.EVENT_NEXT], []⟩

/-- What `blockRefresh` may change. -/
def Foot.blockRefresh : Foot := ⟨[.mem, .logs, .dma, .tenants], logEnts ++ [ent0 Ent.Sto.BAD_GROWN, ent0 Ent.Sto.CORRECTED_CW, ent0
  Ent.Sto.COUNTER_SAT, ent0 Ent.Sto.ERASE_MAX, ent0 Ent.Sto.ERASE_MEAN, ent0 Ent.Sto.HEALTH, ent0 Ent.Sto.LIFE_USED, ent0 Ent.Sto.NAND_WRITE_BYTES,
  ent0 Ent.Sto.REFRESHES, ent0 Ent.Sto.SPARE_BLOCKS, ent1 Ent.Hall.COUNTER_SAT], [word1 Rg.Hpg.RING_EN, word1 Rg.Hpg.RING_HEAD, word1
  Rg.Plat.SYS_IRQ]⟩

/-- What `retentionScrub` may change. -/
def Foot.retentionScrub : Foot := ⟨[.mem, .free, .logs, .dma, .tenants, .sto], logEnts ++ [ent0 Ent.Sto.BAD_GROWN, ent0 Ent.Sto.CORRECTED_CW, ent0
  Ent.Sto.COUNTER_SAT, ent0 Ent.Sto.ERASE_MAX, ent0 Ent.Sto.ERASE_MEAN, ent0 Ent.Sto.HEALTH, ent0 Ent.Sto.LIFE_USED, ent0 Ent.Sto.NAND_WRITE_BYTES,
  ent0 Ent.Sto.REFRESHES, ent0 Ent.Sto.SPARE_BLOCKS, ent0 Ent.Sto.UNCORRECTABLE, ent1 Ent.Hall.COUNTER_SAT], [word1 Rg.Hpg.RING_EN, word1
  Rg.Hpg.RING_HEAD, word1 Rg.Plat.SYS_IRQ]⟩

/-- What `storageMount` may change. -/
def Foot.storageMount : Foot := ⟨[.mem, .logs, .dma, .tenants, .sto], logEnts ++ [ent0 Ent.Sto.COUNTER_SAT, ent0 Ent.Sto.MOUNTS_UNCLEAN, ent1
  Ent.Hall.COUNTER_SAT], [word1 Rg.Hpg.RING_EN, word1 Rg.Hpg.RING_HEAD, word1 Rg.Plat.SYS_IRQ]⟩

/-- What `partitionErase` may change. -/
def Foot.partitionErase : Foot := ⟨[.sto], [], []⟩

/-- What `stagingArm` may change. -/
def Foot.stagingArm : Foot := ⟨[.mem, .logs, .d0, .sw, .can, .power, .br, .dma, .tenants, .twin], logEnts ++ [ent0 Ent.Stw.COUNTER_SAT, ent0
  Ent.Stw.STW_ECC_DROPS, ent0 Ent.Upd.STAGING_STATE, ent1 Ent.CanCo.SDO_LAST_STATUS, ent1 Ent.CanSt.COUNTER_SAT, ent1 Ent.CanSt.TX_DISCARDED, ent1
  Ent.Hall.COUNTER_SAT, ent1 Ent.Hall.FROZEN_DROPS, ent1 Ent.Heng.COUNTER_SAT, ent1 Ent.Heng.NO_QP, ent1 Ent.Port.EGRESS_FILTERED, ent1
  Ent.Port.PORT_SAT, ent1 Ent.Port.TX_BYTES, ent1 Ent.Port.TX_FRAMES, ent1 Ent.Pq.CT_ABORTED, ent1 Ent.Pq.NO_DESC, ent1 Ent.Pq.OVERSIZE, ent1
  Ent.Pq.PORT_SAT, ent1 Ent.Pq.Q_SAT, ent2 Ent.Pq.DROP_DISABLED, ent2 Ent.Pq.DROP_DOWN, ent2 Ent.Pq.DROP_FULL, ent2 Ent.Pq.DROP_RESIDENCE, ent2
  Ent.Pq.DROP_STW], [word0 Rg.Smb.DONE, word0 Rg.Smb.MB_LEN, word0 Rg.Smb.MB_TOTAL, word1 Rg.Hpg.RING_HEAD, word1 Rg.Mb.DONE, word1 Rg.Mb.MB_LEN,
  word1 Rg.Mb.MB_TOTAL, word1 Rg.Smb.MB_DATA, word2 Rg.Mb.MB_DATA]⟩

/-- What `stagingDiscard` may change. -/
def Foot.stagingDiscard : Foot := ⟨[.mem, .logs, .d0, .sw, .can, .power, .br, .dma, .tenants, .twin], logEnts ++ [ent0 Ent.Stg.STAGING, ent0
  Ent.Stw.COUNTER_SAT, ent0 Ent.Stw.STW_ECC_DROPS, ent0 Ent.Upd.STAGED_VERSION, ent0 Ent.Upd.STAGING_STATE, ent1 Ent.CanCo.SDO_LAST_STATUS, ent1
  Ent.CanSt.COUNTER_SAT, ent1 Ent.CanSt.TX_DISCARDED, ent1 Ent.Hall.COUNTER_SAT, ent1 Ent.Hall.FROZEN_DROPS, ent1 Ent.Heng.COUNTER_SAT, ent1
  Ent.Heng.NO_QP, ent1 Ent.Port.EGRESS_FILTERED, ent1 Ent.Port.PORT_SAT, ent1 Ent.Port.TX_BYTES, ent1 Ent.Port.TX_FRAMES, ent1 Ent.Pq.CT_ABORTED, ent1
  Ent.Pq.NO_DESC, ent1 Ent.Pq.OVERSIZE, ent1 Ent.Pq.PORT_SAT, ent1 Ent.Pq.Q_SAT, ent2 Ent.Pq.DROP_DISABLED, ent2 Ent.Pq.DROP_DOWN, ent2
  Ent.Pq.DROP_FULL, ent2 Ent.Pq.DROP_RESIDENCE, ent2 Ent.Pq.DROP_STW], [word0 Rg.Smb.DONE, word0 Rg.Smb.MB_LEN, word0 Rg.Smb.MB_TOTAL, word1
  Rg.Hpg.RING_HEAD, word1 Rg.Mb.DONE, word1 Rg.Mb.MB_LEN, word1 Rg.Mb.MB_TOTAL, word1 Rg.Smb.MB_DATA, word2 Rg.Mb.MB_DATA]⟩

/-- What `imageConfirm` may change. -/
def Foot.imageConfirm : Foot := ⟨[.mem, .logs, .d0, .sw, .can, .power, .br, .dma, .tenants, .upd, .twin], logEnts ++ [ent0 Ent.Sec.ROLLBACK, ent0
  Ent.Stw.COUNTER_SAT, ent0 Ent.Stw.STW_ECC_DROPS, ent0 Ent.Upd.IMAGE_STATE, ent1 Ent.CanCo.SDO_LAST_STATUS, ent1 Ent.CanSt.COUNTER_SAT, ent1
  Ent.CanSt.TX_DISCARDED, ent1 Ent.Hall.COUNTER_SAT, ent1 Ent.Hall.FROZEN_DROPS, ent1 Ent.Heng.COUNTER_SAT, ent1 Ent.Heng.NO_QP, ent1
  Ent.Port.EGRESS_FILTERED, ent1 Ent.Port.PORT_SAT, ent1 Ent.Port.TX_BYTES, ent1 Ent.Port.TX_FRAMES, ent1 Ent.Pq.CT_ABORTED, ent1 Ent.Pq.NO_DESC, ent1
  Ent.Pq.OVERSIZE, ent1 Ent.Pq.PORT_SAT, ent1 Ent.Pq.Q_SAT, ent2 Ent.Pq.DROP_DISABLED, ent2 Ent.Pq.DROP_DOWN, ent2 Ent.Pq.DROP_FULL, ent2
  Ent.Pq.DROP_RESIDENCE, ent2 Ent.Pq.DROP_STW], [word0 Rg.Smb.DONE, word0 Rg.Smb.MB_LEN, word0 Rg.Smb.MB_TOTAL, word1 Rg.Hpg.RING_HEAD, word1
  Rg.M0Src.PENDING, word1 Rg.Mb.DONE, word1 Rg.Mb.MB_LEN, word1 Rg.Mb.MB_TOTAL, word1 Rg.Smb.MB_DATA, word2 Rg.Mb.MB_DATA]⟩

/-- What `retryActive` may change. -/
def Foot.retryActive : Foot := ⟨[.mem, .logs, .d0, .sw, .can, .power, .br, .dma, .tenants, .twin], logEnts ++ [ent0 Ent.Stw.COUNTER_SAT, ent0
  Ent.Stw.STW_ECC_DROPS, ent0 Ent.Upd.FAILED_STARTS, ent1 Ent.CanCo.SDO_LAST_STATUS, ent1 Ent.CanSt.COUNTER_SAT, ent1 Ent.CanSt.TX_DISCARDED, ent1
  Ent.Hall.COUNTER_SAT, ent1 Ent.Hall.FROZEN_DROPS, ent1 Ent.Heng.COUNTER_SAT, ent1 Ent.Heng.NO_QP, ent1 Ent.Port.EGRESS_FILTERED, ent1
  Ent.Port.PORT_SAT, ent1 Ent.Port.TX_BYTES, ent1 Ent.Port.TX_FRAMES, ent1 Ent.Pq.CT_ABORTED, ent1 Ent.Pq.NO_DESC, ent1 Ent.Pq.OVERSIZE, ent1
  Ent.Pq.PORT_SAT, ent1 Ent.Pq.Q_SAT, ent2 Ent.Pq.DROP_DISABLED, ent2 Ent.Pq.DROP_DOWN, ent2 Ent.Pq.DROP_FULL, ent2 Ent.Pq.DROP_RESIDENCE, ent2
  Ent.Pq.DROP_STW], [word0 Rg.Smb.DONE, word0 Rg.Smb.MB_LEN, word0 Rg.Smb.MB_TOTAL, word1 Rg.Hpg.RING_HEAD, word1 Rg.Mb.DONE, word1 Rg.Mb.MB_LEN,
  word1 Rg.Mb.MB_TOTAL, word1 Rg.Smb.MB_DATA, word2 Rg.Mb.MB_DATA]⟩

/-- What `twinAliveToggle` may change. -/
def Foot.twinAliveToggle : Foot := ⟨[.twin], [], []⟩

/-- What `twinAliveLost` may change. -/
def Foot.twinAliveLost : Foot := ⟨[.mem, .logs, .d0, .sw, .can, .power, .br, .dma, .tenants, .twin], logEnts ++ [ent0 Ent.Stw.COUNTER_SAT, ent0
  Ent.Stw.STW_ECC_DROPS, ent0 Ent.Tws.CMD_STATUS, ent0 Ent.Tws.COUNTER_SAT, ent0 Ent.Tws.PATHS, ent0 Ent.Tws.ROLE, ent0 Ent.Tws.WIRING_FAULTS, ent1
  Ent.CanCo.SDO_LAST_STATUS, ent1 Ent.CanSt.COUNTER_SAT, ent1 Ent.CanSt.TX_DISCARDED, ent1 Ent.Hall.COUNTER_SAT, ent1 Ent.Hall.FROZEN_DROPS, ent1
  Ent.Heng.COUNTER_SAT, ent1 Ent.Heng.NO_QP, ent1 Ent.Port.EGRESS_FILTERED, ent1 Ent.Port.PORT_SAT, ent1 Ent.Port.TX_BYTES, ent1 Ent.Port.TX_FRAMES,
  ent1 Ent.Pq.CT_ABORTED, ent1 Ent.Pq.NO_DESC, ent1 Ent.Pq.OVERSIZE, ent1 Ent.Pq.PORT_SAT, ent1 Ent.Pq.Q_SAT, ent2 Ent.Pq.DROP_DISABLED, ent2
  Ent.Pq.DROP_DOWN, ent2 Ent.Pq.DROP_FULL, ent2 Ent.Pq.DROP_RESIDENCE, ent2 Ent.Pq.DROP_STW], [word0 Rg.Smb.DONE, word0 Rg.Smb.MB_LEN, word0
  Rg.Smb.MB_TOTAL, word1 Rg.Hpg.RING_EN, word1 Rg.Hpg.RING_HEAD, word1 Rg.Mb.DONE, word1 Rg.Mb.MB_LEN, word1 Rg.Mb.MB_TOTAL, word1 Rg.Plat.SYS_IRQ,
  word1 Rg.Smb.MB_DATA, word2 Rg.Mb.MB_DATA]⟩

/-- What `twinFltLow` may change. -/
def Foot.twinFltLow : Foot := ⟨[.mem, .logs, .d0, .sw, .can, .power, .br, .dma, .tenants, .twin], logEnts ++ [ent0 Ent.Stw.COUNTER_SAT, ent0
  Ent.Stw.STW_ECC_DROPS, ent0 Ent.Tws.CMD_STATUS, ent0 Ent.Tws.PATHS, ent0 Ent.Tws.ROLE, ent1 Ent.CanCo.SDO_LAST_STATUS, ent1 Ent.CanSt.COUNTER_SAT,
  ent1 Ent.CanSt.TX_DISCARDED, ent1 Ent.Hall.COUNTER_SAT, ent1 Ent.Hall.FROZEN_DROPS, ent1 Ent.Heng.COUNTER_SAT, ent1 Ent.Heng.NO_QP, ent1
  Ent.Port.EGRESS_FILTERED, ent1 Ent.Port.PORT_SAT, ent1 Ent.Port.TX_BYTES, ent1 Ent.Port.TX_FRAMES, ent1 Ent.Pq.CT_ABORTED, ent1 Ent.Pq.NO_DESC, ent1
  Ent.Pq.OVERSIZE, ent1 Ent.Pq.PORT_SAT, ent1 Ent.Pq.Q_SAT, ent2 Ent.Pq.DROP_DISABLED, ent2 Ent.Pq.DROP_DOWN, ent2 Ent.Pq.DROP_FULL, ent2
  Ent.Pq.DROP_RESIDENCE, ent2 Ent.Pq.DROP_STW], [word0 Rg.Smb.DONE, word0 Rg.Smb.MB_LEN, word0 Rg.Smb.MB_TOTAL, word1 Rg.Hpg.RING_EN, word1
  Rg.Hpg.RING_HEAD, word1 Rg.Mb.DONE, word1 Rg.Mb.MB_LEN, word1 Rg.Mb.MB_TOTAL, word1 Rg.Plat.SYS_IRQ, word1 Rg.Smb.MB_DATA, word2 Rg.Mb.MB_DATA]⟩

/-- What `liveKick` may change. -/
def Foot.liveKick : Foot := ⟨[.mem, .logs, .load, .dma, .tenants, .clk, .twin], logEnts ++ [ent0 Ent.Clk.SSC_ACTIVE, ent0 Ent.Tws.ROLE, ent1
  Ent.Hall.COUNTER_SAT, ent1 Ent.Lc.FLAGS, ent1 Ent.Lc.STATE], [word1 Rg.Hpg.RING_EN, word1 Rg.Hpg.RING_HEAD, word1 Rg.Plat.SYS_IRQ]⟩

/-- What `livenessTimeout` may change. -/
def Foot.livenessTimeout : Foot := ⟨[.mem, .logs, .load, .dma, .tenants, .clk, .twin], logEnts ++ [ent0 Ent.Clk.SSC_ACTIVE, ent0 Ent.Tws.ROLE, ent1
  Ent.Hall.COUNTER_SAT, ent1 Ent.Lc.FLAGS, ent1 Ent.Lc.STATE], [word1 Rg.Hpg.RING_EN, word1 Rg.Hpg.RING_HEAD, word1 Rg.Plat.SYS_IRQ]⟩

/-- What `galleryHelloSend` may change. -/
def Foot.galleryHelloSend : Foot := ⟨[.free, .twin], [], []⟩

/-- What `galleryHelloReceive` may change. -/
def Foot.galleryHelloReceive : Foot := ⟨[.mem, .free, .logs, .dma, .tenants, .twin], logEnts ++ [ent0 Ent.Tws.COUNTER_SAT, ent0 Ent.Tws.GAL_AUTH_FAIL,
  ent1 Ent.Port.PORT_SAT, ent1 Ent.Port.RX_BYTES, ent1 Ent.Port.RX_FCS, ent1 Ent.Port.RX_FRAMES], [word1 Rg.Hpg.RING_HEAD]⟩

/-- What `galleryDataReceive` may change. -/
def Foot.galleryDataReceive : Foot := ⟨[.regs, .mem, .epochs, .free, .logs, .limits, .d0, .can, .br, .scan, .dma, .tenants, .mezz, .sto, .held,
  .harts, .twin], logEnts ++ [ent0 Ent.Tws.COUNTER_SAT, ent0 Ent.Tws.GAL_AUTH_FAIL, ent0 Ent.Tws.PATHS, ent1 Ent.Bctx.ENABLE, ent1 Ent.Bctx.HALL, ent1
  Ent.Bctx.SESSION, ent1 Ent.Bctx.STATE, ent1 Ent.Bind.ENABLE, ent1 Ent.Bind.HALL, ent1 Ent.Bu.ENDPOINTS, ent1 Ent.CanObj.OBJ_TABLE, ent1
  Ent.CanObj.TXB_HALL, ent1 Ent.CanSt.COUNTER_SAT, ent1 Ent.CanSt.LOCK_EXPIRED, ent1 Ent.Dma.ENABLE, ent1 Ent.Dma.HALL, ent1 Ent.Dma.STATE, ent1
  Ent.Hall.CCORES, ent1 Ent.Hall.COUNTER_SAT, ent1 Ent.Hall.RESETS, ent1 Ent.Hall.STATE, ent1 Ent.Iommu.WINDOWS, ent1 Ent.Port.PORT_SAT, ent1
  Ent.Port.RX_BYTES, ent1 Ent.Port.RX_FCS, ent1 Ent.Port.RX_FRAMES, ent1 Ent.Port.TX_BYTES, ent1 Ent.Port.TX_FRAMES, ent1 Ent.Qp.ENABLE, ent1
  Ent.Qp.HALL, ent1 Ent.Qp.STATE, ent1 Ent.Stn.COUNTER_SAT, ent1 Ent.Stn.LOSSES, ent1 Ent.Stn.STATE, ent1 Ent.Task.COUNTER_SAT, ent1 Ent.Task.MERGED],
  []⟩

/-- What `heartbeatSend` may change. -/
def Foot.heartbeatSend : Foot := ⟨[.mem, .logs, .dma, .tenants, .twin], logEnts ++ [ent1 Ent.Port.PORT_SAT, ent1 Ent.Port.TX_BYTES, ent1
  Ent.Port.TX_FRAMES], [word1 Rg.Hpg.RING_HEAD]⟩

/-- What `heartbeatReceive` may change. -/
def Foot.heartbeatReceive : Foot := ⟨[.mem, .logs, .time, .d0, .sw, .can, .power, .br, .scan, .dma, .tenants, .twin], logEnts ++ [ent0
  Ent.Chg.CHANGES, ent0 Ent.Chg.CHANGE_RESULT, ent0 Ent.Chg.CHANGE_STATE, ent0 Ent.Chg.CHANGE_STATUS, ent0 Ent.Chg.COUNTER_SAT, ent0 Ent.Chg.REFUSALS,
  ent0 Ent.Se.STATE, ent0 Ent.Stw.COUNTER_SAT, ent0 Ent.Stw.STW_ECC_DROPS, ent0 Ent.Tws.CMD_STATUS, ent0 Ent.Tws.COUNTER_SAT, ent0 Ent.Tws.HANDOVERS,
  ent0 Ent.Tws.PATHS, ent0 Ent.Tws.PEER_EPOCH, ent0 Ent.Tws.PEER_ROLE, ent0 Ent.Tws.ROLE, ent0 Ent.Tws.WIRING_FAULTS, ent1 Ent.CanCo.SDO_LAST_STATUS,
  ent1 Ent.CanSt.COUNTER_SAT, ent1 Ent.CanSt.TX_DISCARDED, ent1 Ent.Hall.COUNTER_SAT, ent1 Ent.Hall.FROZEN_DROPS, ent1 Ent.Heng.COUNTER_SAT, ent1
  Ent.Heng.NO_QP, ent1 Ent.Port.EGRESS_FILTERED, ent1 Ent.Port.PORT_SAT, ent1 Ent.Port.TX_BYTES, ent1 Ent.Port.TX_FRAMES, ent1 Ent.Pq.CT_ABORTED, ent1
  Ent.Pq.NO_DESC, ent1 Ent.Pq.OVERSIZE, ent1 Ent.Pq.PORT_SAT, ent1 Ent.Pq.Q_SAT, ent1 Ent.Task.COUNTER_SAT, ent1 Ent.Task.CYCLES, ent1
  Ent.Task.LAST_EXEC_NS, ent1 Ent.Task.MAX_DELAY_NS, ent1 Ent.Task.MAX_EXEC_NS, ent1 Ent.Task.MERGED, ent1 Ent.Task.SKIPPED, ent1 Ent.Trgu.COUNT, ent1
  Ent.Trgu.ENABLE, ent1 Ent.Trgu.NEXT_NS, ent1 Ent.Trgu.OWNER, ent1 Ent.Trgu.PERIOD_NS, ent1 Ent.Trgu.START_NS, ent1 Ent.Trgu.TARGET, ent2
  Ent.Pq.DROP_DISABLED, ent2 Ent.Pq.DROP_DOWN, ent2 Ent.Pq.DROP_FULL, ent2 Ent.Pq.DROP_RESIDENCE, ent2 Ent.Pq.DROP_STW], [word0 Rg.Smb.DONE, word0
  Rg.Smb.MB_LEN, word0 Rg.Smb.MB_TOTAL, word1 Rg.Hpg.RING_EN, word1 Rg.Hpg.RING_HEAD, word1 Rg.Mb.DONE, word1 Rg.Mb.MB_LEN, word1 Rg.Mb.MB_TOTAL,
  word1 Rg.Plat.SYS_IRQ, word1 Rg.Smb.MB_DATA, word2 Rg.Mb.MB_DATA]⟩

/-- What `heartbeatLost` may change. -/
def Foot.heartbeatLost : Foot := ⟨[.mem, .free, .logs, .limits, .d0, .sw, .can, .power, .br, .dma, .tenants, .harts, .twin], logEnts ++ [ent0
  Ent.Stw.COUNTER_SAT, ent0 Ent.Stw.STW_ECC_DROPS, ent0 Ent.Tws.CMD_STATUS, ent0 Ent.Tws.PATHS, ent0 Ent.Tws.PEER_ROLE, ent0 Ent.Tws.ROLE, ent1
  Ent.Bctx.COUNTER_SAT, ent1 Ent.Bctx.FAILURES, ent1 Ent.Bctx.POSTED, ent1 Ent.Bctx.READS, ent1 Ent.Bctx.RETRANSMITS, ent1 Ent.Bctx.SESSION, ent1
  Ent.Bctx.TIMEOUTS, ent1 Ent.CanCo.SDO_LAST_STATUS, ent1 Ent.CanSt.COUNTER_SAT, ent1 Ent.CanSt.TX_DISCARDED, ent1 Ent.Hall.CMD_STATUS, ent1
  Ent.Hall.COUNTER_SAT, ent1 Ent.Hall.FROZEN_DROPS, ent1 Ent.Hall.STATE, ent1 Ent.Heng.COUNTER_SAT, ent1 Ent.Heng.NO_QP, ent1
  Ent.Port.EGRESS_FILTERED, ent1 Ent.Port.PORT_SAT, ent1 Ent.Port.TX_BYTES, ent1 Ent.Port.TX_FRAMES, ent1 Ent.Pq.CT_ABORTED, ent1 Ent.Pq.NO_DESC, ent1
  Ent.Pq.OVERSIZE, ent1 Ent.Pq.PORT_SAT, ent1 Ent.Pq.Q_SAT, ent2 Ent.Pq.DROP_DISABLED, ent2 Ent.Pq.DROP_DOWN, ent2 Ent.Pq.DROP_FULL, ent2
  Ent.Pq.DROP_RESIDENCE, ent2 Ent.Pq.DROP_STW], [word0 Rg.Smb.DONE, word0 Rg.Smb.MB_LEN, word0 Rg.Smb.MB_TOTAL, word1 Rg.Hpg.RING_EN, word1
  Rg.Hpg.RING_HEAD, word1 Rg.Mb.DONE, word1 Rg.Mb.MB_LEN, word1 Rg.Mb.MB_TOTAL, word1 Rg.Plat.SYS_IRQ, word1 Rg.Smb.MB_DATA, word2 Rg.Ctx.BST_ADDR_HI,
  word2 Rg.Ctx.BST_ADDR_LO, word2 Rg.Ctx.FAILED, word2 Rg.Ctx.FAR_CODE, word2 Rg.Ctx.IRQ, word2 Rg.Ctx.PW_DONE, word2 Rg.Ctx.SESSION, word2
  Rg.Ep.MERGED, word2 Rg.Mb.MB_DATA, word2 fun u k => rmb u k Rg.Mb.CODE, word2 fun u k => rmb u k Rg.Mb.GO, word2 fun u k => rmb u k Rg.Mb.MB_LEN,
  word2 fun u k => rmb u k Rg.Mb.MB_TOTAL, word3 fun u k i => rmb u k fun n => Rg.Mb.MB_DATA n i]⟩

/-- What `promoteWaitTimeout` may change. -/
def Foot.promoteWaitTimeout : Foot := ⟨[.mem, .logs, .d0, .sw, .can, .power, .br, .dma, .tenants, .twin], logEnts ++ [ent0 Ent.Stw.COUNTER_SAT, ent0
  Ent.Stw.STW_ECC_DROPS, ent0 Ent.Tws.CMD_STATUS, ent1 Ent.CanCo.SDO_LAST_STATUS, ent1 Ent.CanSt.COUNTER_SAT, ent1 Ent.CanSt.TX_DISCARDED, ent1
  Ent.Hall.COUNTER_SAT, ent1 Ent.Hall.FROZEN_DROPS, ent1 Ent.Heng.COUNTER_SAT, ent1 Ent.Heng.NO_QP, ent1 Ent.Port.EGRESS_FILTERED, ent1
  Ent.Port.PORT_SAT, ent1 Ent.Port.TX_BYTES, ent1 Ent.Port.TX_FRAMES, ent1 Ent.Pq.CT_ABORTED, ent1 Ent.Pq.NO_DESC, ent1 Ent.Pq.OVERSIZE, ent1
  Ent.Pq.PORT_SAT, ent1 Ent.Pq.Q_SAT, ent2 Ent.Pq.DROP_DISABLED, ent2 Ent.Pq.DROP_DOWN, ent2 Ent.Pq.DROP_FULL, ent2 Ent.Pq.DROP_RESIDENCE, ent2
  Ent.Pq.DROP_STW], [word0 Rg.Smb.DONE, word0 Rg.Smb.MB_LEN, word0 Rg.Smb.MB_TOTAL, word1 Rg.Hpg.RING_HEAD, word1 Rg.Mb.DONE, word1 Rg.Mb.MB_LEN,
  word1 Rg.Mb.MB_TOTAL, word1 Rg.Smb.MB_DATA, word2 Rg.Mb.MB_DATA]⟩

/-- What `twinCmdAttach` may change. -/
def Foot.twinCmdAttach : Foot := ⟨[.mem, .logs, .d0, .sw, .can, .power, .br, .dma, .tenants, .twin], logEnts ++ [ent0 Ent.Stw.COUNTER_SAT, ent0
  Ent.Stw.STW_ECC_DROPS, ent0 Ent.Tws.CMD_STATUS, ent0 Ent.Tws.ROLE, ent1 Ent.CanCo.SDO_LAST_STATUS, ent1 Ent.CanSt.COUNTER_SAT, ent1
  Ent.CanSt.TX_DISCARDED, ent1 Ent.Hall.COUNTER_SAT, ent1 Ent.Hall.FROZEN_DROPS, ent1 Ent.Heng.COUNTER_SAT, ent1 Ent.Heng.NO_QP, ent1
  Ent.Port.EGRESS_FILTERED, ent1 Ent.Port.PORT_SAT, ent1 Ent.Port.TX_BYTES, ent1 Ent.Port.TX_FRAMES, ent1 Ent.Pq.CT_ABORTED, ent1 Ent.Pq.NO_DESC, ent1
  Ent.Pq.OVERSIZE, ent1 Ent.Pq.PORT_SAT, ent1 Ent.Pq.Q_SAT, ent2 Ent.Pq.DROP_DISABLED, ent2 Ent.Pq.DROP_DOWN, ent2 Ent.Pq.DROP_FULL, ent2
  Ent.Pq.DROP_RESIDENCE, ent2 Ent.Pq.DROP_STW], [word0 Rg.Smb.DONE, word0 Rg.Smb.MB_LEN, word0 Rg.Smb.MB_TOTAL, word1 Rg.Hpg.RING_EN, word1
  Rg.Hpg.RING_HEAD, word1 Rg.Mb.DONE, word1 Rg.Mb.MB_LEN, word1 Rg.Mb.MB_TOTAL, word1 Rg.Plat.SYS_IRQ, word1 Rg.Smb.MB_DATA, word2 Rg.Mb.MB_DATA]⟩

/-- What `twinCmdDetach` may change. -/
def Foot.twinCmdDetach : Foot := ⟨[.mem, .free, .logs, .d0, .sw, .can, .power, .br, .dma, .tenants, .twin], logEnts ++ [ent0 Ent.Stw.COUNTER_SAT, ent0
  Ent.Stw.STW_ECC_DROPS, ent0 Ent.Tws.CMD_STATUS, ent0 Ent.Tws.ROLE, ent1 Ent.CanCo.SDO_LAST_STATUS, ent1 Ent.CanSt.COUNTER_SAT, ent1
  Ent.CanSt.TX_DISCARDED, ent1 Ent.Hall.COUNTER_SAT, ent1 Ent.Hall.FROZEN_DROPS, ent1 Ent.Heng.COUNTER_SAT, ent1 Ent.Heng.NO_QP, ent1
  Ent.Port.EGRESS_FILTERED, ent1 Ent.Port.PORT_SAT, ent1 Ent.Port.TX_BYTES, ent1 Ent.Port.TX_FRAMES, ent1 Ent.Pq.CT_ABORTED, ent1 Ent.Pq.NO_DESC, ent1
  Ent.Pq.OVERSIZE, ent1 Ent.Pq.PORT_SAT, ent1 Ent.Pq.Q_SAT, ent2 Ent.Pq.DROP_DISABLED, ent2 Ent.Pq.DROP_DOWN, ent2 Ent.Pq.DROP_FULL, ent2
  Ent.Pq.DROP_RESIDENCE, ent2 Ent.Pq.DROP_STW], [word0 Rg.Smb.DONE, word0 Rg.Smb.MB_LEN, word0 Rg.Smb.MB_TOTAL, word1 Rg.Hpg.RING_EN, word1
  Rg.Hpg.RING_HEAD, word1 Rg.Mb.DONE, word1 Rg.Mb.MB_LEN, word1 Rg.Mb.MB_TOTAL, word1 Rg.Plat.SYS_IRQ, word1 Rg.Smb.MB_DATA, word2 Rg.Mb.MB_DATA]⟩

/-- What `twinCmdHandover` may change. -/
def Foot.twinCmdHandover : Foot := ⟨[.mem, .logs, .d0, .sw, .can, .power, .br, .dma, .tenants, .twin], logEnts ++ [ent0 Ent.Stw.COUNTER_SAT, ent0
  Ent.Stw.STW_ECC_DROPS, ent0 Ent.Tws.CMD_STATUS, ent1 Ent.CanCo.SDO_LAST_STATUS, ent1 Ent.CanSt.COUNTER_SAT, ent1 Ent.CanSt.TX_DISCARDED, ent1
  Ent.Hall.COUNTER_SAT, ent1 Ent.Hall.FROZEN_DROPS, ent1 Ent.Heng.COUNTER_SAT, ent1 Ent.Heng.NO_QP, ent1 Ent.Port.EGRESS_FILTERED, ent1
  Ent.Port.PORT_SAT, ent1 Ent.Port.TX_BYTES, ent1 Ent.Port.TX_FRAMES, ent1 Ent.Pq.CT_ABORTED, ent1 Ent.Pq.NO_DESC, ent1 Ent.Pq.OVERSIZE, ent1
  Ent.Pq.PORT_SAT, ent1 Ent.Pq.Q_SAT, ent2 Ent.Pq.DROP_DISABLED, ent2 Ent.Pq.DROP_DOWN, ent2 Ent.Pq.DROP_FULL, ent2 Ent.Pq.DROP_RESIDENCE, ent2
  Ent.Pq.DROP_STW], [word0 Rg.Smb.DONE, word0 Rg.Smb.MB_LEN, word0 Rg.Smb.MB_TOTAL, word1 Rg.Hpg.RING_HEAD, word1 Rg.Mb.DONE, word1 Rg.Mb.MB_LEN,
  word1 Rg.Mb.MB_TOTAL, word1 Rg.Smb.MB_DATA, word2 Rg.Mb.MB_DATA]⟩

/-- What `attachReqReceive` may change. -/
def Foot.attachReqReceive : Foot := ⟨[.mem, .logs, .dma, .tenants, .twin], logEnts ++ [ent1 Ent.Hall.COUNTER_SAT, ent1 Ent.Port.PORT_SAT, ent1
  Ent.Port.TX_BYTES, ent1 Ent.Port.TX_FRAMES], [word1 Rg.Hpg.RING_EN, word1 Rg.Hpg.RING_HEAD, word1 Rg.Plat.SYS_IRQ]⟩

/-- What `attachRspReceive` may change. -/
def Foot.attachRspReceive : Foot := ⟨[.mem, .logs, .d0, .sw, .can, .power, .br, .dma, .tenants, .twin], logEnts ++ [ent0 Ent.Stw.COUNTER_SAT, ent0
  Ent.Stw.STW_ECC_DROPS, ent0 Ent.Tws.CMD_STATUS, ent0 Ent.Tws.ROLE, ent1 Ent.CanCo.SDO_LAST_STATUS, ent1 Ent.CanSt.COUNTER_SAT, ent1
  Ent.CanSt.TX_DISCARDED, ent1 Ent.Hall.COUNTER_SAT, ent1 Ent.Hall.FROZEN_DROPS, ent1 Ent.Heng.COUNTER_SAT, ent1 Ent.Heng.NO_QP, ent1
  Ent.Port.EGRESS_FILTERED, ent1 Ent.Port.PORT_SAT, ent1 Ent.Port.TX_BYTES, ent1 Ent.Port.TX_FRAMES, ent1 Ent.Pq.CT_ABORTED, ent1 Ent.Pq.NO_DESC, ent1
  Ent.Pq.OVERSIZE, ent1 Ent.Pq.PORT_SAT, ent1 Ent.Pq.Q_SAT, ent2 Ent.Pq.DROP_DISABLED, ent2 Ent.Pq.DROP_DOWN, ent2 Ent.Pq.DROP_FULL, ent2
  Ent.Pq.DROP_RESIDENCE, ent2 Ent.Pq.DROP_STW], [word0 Rg.Smb.DONE, word0 Rg.Smb.MB_LEN, word0 Rg.Smb.MB_TOTAL, word1 Rg.Hpg.RING_EN, word1
  Rg.Hpg.RING_HEAD, word1 Rg.Mb.DONE, word1 Rg.Mb.MB_LEN, word1 Rg.Mb.MB_TOTAL, word1 Rg.Plat.SYS_IRQ, word1 Rg.Smb.MB_DATA, word2 Rg.Mb.MB_DATA]⟩

/-- What `attachSnapshot` may change. -/
def Foot.attachSnapshot : Foot := ⟨[.mem, .logs, .dma, .tenants, .twin], logEnts ++ [ent0 Ent.Tws.ROLE, ent1 Ent.Hall.COUNTER_SAT, ent1
  Ent.Port.PORT_SAT, ent1 Ent.Port.TX_BYTES, ent1 Ent.Port.TX_FRAMES], [word1 Rg.Hpg.RING_EN, word1 Rg.Hpg.RING_HEAD, word1 Rg.Plat.SYS_IRQ]⟩

/-- What `stateMessageReceive` may change. -/
def Foot.stateMessageReceive : Foot := ⟨[.mem, .logs, .time, .d0, .sw, .can, .power, .br, .load, .scan, .dma, .tenants, .clk, .upd, .twin], logEnts ++
  [ent0 Ent.Chg.CHANGES, ent0 Ent.Chg.CHANGE_RESULT, ent0 Ent.Chg.CHANGE_STATE, ent0 Ent.Chg.CHANGE_STATUS, ent0 Ent.Chg.COUNTER_SAT, ent0
  Ent.Chg.REFUSALS, ent0 Ent.Clk.SSC_ACTIVE, ent0 Ent.Frc.FORCE_COUNT, ent0 Ent.Frc.FORCE_GEN, ent0 Ent.Se.ACTIVE_ID, ent0 Ent.Se.RETAIN_STATUS, ent0
  Ent.Se.STATE, ent0 Ent.Seimg.ACTIVE_IMAGE, ent0 Ent.Stw.COUNTER_SAT, ent0 Ent.Stw.STW_ECC_DROPS, ent0 Ent.Tws.CMD_STATUS, ent0 Ent.Tws.ROLE, ent0
  Ent.Tws.ROLE_EPOCH, ent1 Ent.CanCo.SDO_LAST_STATUS, ent1 Ent.CanSt.COUNTER_SAT, ent1 Ent.CanSt.TX_DISCARDED, ent1 Ent.Hall.COUNTER_SAT, ent1
  Ent.Hall.FROZEN_DROPS, ent1 Ent.Heng.COUNTER_SAT, ent1 Ent.Heng.NO_QP, ent1 Ent.Lc.FLAGS, ent1 Ent.Lc.STATE, ent1 Ent.Port.EGRESS_FILTERED, ent1
  Ent.Port.PORT_SAT, ent1 Ent.Port.TX_BYTES, ent1 Ent.Port.TX_FRAMES, ent1 Ent.Pq.CT_ABORTED, ent1 Ent.Pq.NO_DESC, ent1 Ent.Pq.OVERSIZE, ent1
  Ent.Pq.PORT_SAT, ent1 Ent.Pq.Q_SAT, ent1 Ent.Stn.STATE, ent1 Ent.Trgu.COUNT, ent1 Ent.Trgu.ENABLE, ent1 Ent.Trgu.NEXT_NS, ent1 Ent.Trgu.OWNER, ent1
  Ent.Trgu.PERIOD_NS, ent1 Ent.Trgu.START_NS, ent1 Ent.Trgu.TARGET, ent2 Ent.Pq.DROP_DISABLED, ent2 Ent.Pq.DROP_DOWN, ent2 Ent.Pq.DROP_FULL, ent2
  Ent.Pq.DROP_RESIDENCE, ent2 Ent.Pq.DROP_STW], [word0 Rg.M0Cpg.DEPTH, word0 Rg.Smb.DONE, word0 Rg.Smb.MB_LEN, word0 Rg.Smb.MB_TOTAL, word1
  Rg.Cpg.DEPTH, word1 Rg.Hpg.RING_EN, word1 Rg.Hpg.RING_HEAD, word1 Rg.M0Cpg.STK_SRC, word1 Rg.Mb.DONE, word1 Rg.Mb.MB_LEN, word1 Rg.Mb.MB_TOTAL,
  word1 Rg.Plat.SYS_IRQ, word1 Rg.Smb.MB_DATA, word1 Rg.Src.PENDING, word2 Rg.Cpg.STK_SRC, word2 Rg.Mb.MB_DATA]⟩

/-- What `inputsReceive` may change. -/
def Foot.inputsReceive : Foot := ⟨[.mem, .logs, .scan, .dma, .tenants, .twin], logEnts ++ [ent1 Ent.Stn.COUNTER_SAT, ent1 Ent.Stn.LOSSES, ent1
  Ent.Stn.STATE], [word0 Rg.M0Cpg.WFI, word1 Rg.Cpg.WFI, word1 Rg.Hpg.RING_HEAD, word1 Rg.Plat.SYS_IRQ, word1 Rg.Src.PENDING]⟩

/-- What `outputCrcReceive` may change. -/
def Foot.outputCrcReceive : Foot := ⟨[.mem, .free, .logs, .limits, .dma, .tenants, .twin], logEnts ++ [ent0 Ent.Tws.COUNTER_SAT, ent0
  Ent.Tws.OUT_MISMATCHES, ent0 Ent.Tws.ROLE, ent1 Ent.Hall.COUNTER_SAT, ent1 Ent.Port.PORT_SAT, ent1 Ent.Port.TX_BYTES, ent1 Ent.Port.TX_FRAMES],
  [word1 Rg.Hpg.RING_EN, word1 Rg.Hpg.RING_HEAD, word1 Rg.Plat.SYS_IRQ]⟩

/-- What `retainReceive` may change. -/
def Foot.retainReceive : Foot := ⟨[.mem, .dma, .tenants, .twin], [], []⟩

/-- What `streamsReceive` may change. -/
def Foot.streamsReceive : Foot := ⟨[.sw, .twin], [], []⟩

/-- What `forcesReceive` may change. -/
def Foot.forcesReceive : Foot := ⟨[.scan, .twin], [ent0 Ent.Frc.FORCE_COUNT, ent0 Ent.Frc.FORCE_GEN], []⟩

/-- What `detachReceive` may change. -/
def Foot.detachReceive : Foot := ⟨[.mem, .free, .logs, .d0, .sw, .can, .power, .br, .dma, .tenants, .twin], logEnts ++ [ent0 Ent.Stw.COUNTER_SAT, ent0
  Ent.Stw.STW_ECC_DROPS, ent0 Ent.Tws.CMD_STATUS, ent0 Ent.Tws.ROLE, ent1 Ent.CanCo.SDO_LAST_STATUS, ent1 Ent.CanSt.COUNTER_SAT, ent1
  Ent.CanSt.TX_DISCARDED, ent1 Ent.Hall.COUNTER_SAT, ent1 Ent.Hall.FROZEN_DROPS, ent1 Ent.Heng.COUNTER_SAT, ent1 Ent.Heng.NO_QP, ent1
  Ent.Port.EGRESS_FILTERED, ent1 Ent.Port.PORT_SAT, ent1 Ent.Port.TX_BYTES, ent1 Ent.Port.TX_FRAMES, ent1 Ent.Pq.CT_ABORTED, ent1 Ent.Pq.NO_DESC, ent1
  Ent.Pq.OVERSIZE, ent1 Ent.Pq.PORT_SAT, ent1 Ent.Pq.Q_SAT, ent2 Ent.Pq.DROP_DISABLED, ent2 Ent.Pq.DROP_DOWN, ent2 Ent.Pq.DROP_FULL, ent2
  Ent.Pq.DROP_RESIDENCE, ent2 Ent.Pq.DROP_STW], [word0 Rg.Smb.DONE, word0 Rg.Smb.MB_LEN, word0 Rg.Smb.MB_TOTAL, word1 Rg.Hpg.RING_EN, word1
  Rg.Hpg.RING_HEAD, word1 Rg.Mb.DONE, word1 Rg.Mb.MB_LEN, word1 Rg.Mb.MB_TOTAL, word1 Rg.Plat.SYS_IRQ, word1 Rg.Smb.MB_DATA, word2 Rg.Mb.MB_DATA]⟩

/-- What `handoverReceive` may change. -/
def Foot.handoverReceive : Foot := ⟨[.mem, .logs, .d0, .sw, .can, .power, .br, .dma, .tenants, .twin], logEnts ++ [ent0 Ent.Stw.COUNTER_SAT, ent0
  Ent.Stw.STW_ECC_DROPS, ent0 Ent.Tws.CMD_STATUS, ent0 Ent.Tws.ROLE, ent1 Ent.CanCo.SDO_LAST_STATUS, ent1 Ent.CanSt.COUNTER_SAT, ent1
  Ent.CanSt.TX_DISCARDED, ent1 Ent.Hall.COUNTER_SAT, ent1 Ent.Hall.FROZEN_DROPS, ent1 Ent.Heng.COUNTER_SAT, ent1 Ent.Heng.NO_QP, ent1
  Ent.Port.EGRESS_FILTERED, ent1 Ent.Port.PORT_SAT, ent1 Ent.Port.TX_BYTES, ent1 Ent.Port.TX_FRAMES, ent1 Ent.Pq.CT_ABORTED, ent1 Ent.Pq.NO_DESC, ent1
  Ent.Pq.OVERSIZE, ent1 Ent.Pq.PORT_SAT, ent1 Ent.Pq.Q_SAT, ent2 Ent.Pq.DROP_DISABLED, ent2 Ent.Pq.DROP_DOWN, ent2 Ent.Pq.DROP_FULL, ent2
  Ent.Pq.DROP_RESIDENCE, ent2 Ent.Pq.DROP_STW], [word0 Rg.Smb.DONE, word0 Rg.Smb.MB_LEN, word0 Rg.Smb.MB_TOTAL, word1 Rg.Hpg.RING_EN, word1
  Rg.Hpg.RING_HEAD, word1 Rg.Mb.DONE, word1 Rg.Mb.MB_LEN, word1 Rg.Mb.MB_TOTAL, word1 Rg.Plat.SYS_IRQ, word1 Rg.Smb.MB_DATA, word2 Rg.Mb.MB_DATA]⟩

/-- What `handoverTimeout` may change. -/
def Foot.handoverTimeout : Foot := ⟨[.mem, .logs, .d0, .sw, .can, .power, .br, .scan, .dma, .tenants, .twin], logEnts ++ [ent0 Ent.Stw.COUNTER_SAT,
  ent0 Ent.Stw.STW_ECC_DROPS, ent0 Ent.Tws.CMD_STATUS, ent0 Ent.Tws.ROLE, ent0 Ent.Tws.ROLE_EPOCH, ent1 Ent.CanCo.SDO_LAST_STATUS, ent1
  Ent.CanSt.COUNTER_SAT, ent1 Ent.CanSt.TX_DISCARDED, ent1 Ent.Hall.COUNTER_SAT, ent1 Ent.Hall.FROZEN_DROPS, ent1 Ent.Heng.COUNTER_SAT, ent1
  Ent.Heng.NO_QP, ent1 Ent.Port.EGRESS_FILTERED, ent1 Ent.Port.PORT_SAT, ent1 Ent.Port.TX_BYTES, ent1 Ent.Port.TX_FRAMES, ent1 Ent.Pq.CT_ABORTED, ent1
  Ent.Pq.NO_DESC, ent1 Ent.Pq.OVERSIZE, ent1 Ent.Pq.PORT_SAT, ent1 Ent.Pq.Q_SAT, ent2 Ent.Pq.DROP_DISABLED, ent2 Ent.Pq.DROP_DOWN, ent2
  Ent.Pq.DROP_FULL, ent2 Ent.Pq.DROP_RESIDENCE, ent2 Ent.Pq.DROP_STW], [word0 Rg.Smb.DONE, word0 Rg.Smb.MB_LEN, word0 Rg.Smb.MB_TOTAL, word1
  Rg.Hpg.RING_EN, word1 Rg.Hpg.RING_HEAD, word1 Rg.Mb.DONE, word1 Rg.Mb.MB_LEN, word1 Rg.Mb.MB_TOTAL, word1 Rg.Plat.SYS_IRQ, word1 Rg.Smb.MB_DATA,
  word2 Rg.Mb.MB_DATA]⟩

/-- What `beaconSend` may change. -/
def Foot.beaconSend : Foot := ⟨[.mem, .logs, .sw, .dma, .tenants], logEnts ++ [ent0 Ent.Stw.COUNTER_SAT, ent0 Ent.Stw.STW_ECC_DROPS, ent1
  Ent.Hall.COUNTER_SAT, ent1 Ent.Hall.FROZEN_DROPS, ent1 Ent.Heng.COUNTER_SAT, ent1 Ent.Heng.NO_QP, ent1 Ent.Port.EGRESS_FILTERED, ent1
  Ent.Port.PORT_SAT, ent1 Ent.Pq.CT_ABORTED, ent1 Ent.Pq.NO_DESC, ent1 Ent.Pq.OVERSIZE, ent1 Ent.Pq.PORT_SAT, ent1 Ent.Pq.Q_SAT, ent2
  Ent.Pq.DROP_DISABLED, ent2 Ent.Pq.DROP_DOWN, ent2 Ent.Pq.DROP_FULL, ent2 Ent.Pq.DROP_RESIDENCE, ent2 Ent.Pq.DROP_STW], [word1 Rg.Hpg.RING_HEAD]⟩

/-- What `beaconReceive` may change. -/
def Foot.beaconReceive : Foot := ⟨[.twin], [], []⟩

/-- What `partnerQuery` may change. -/
def Foot.partnerQuery : Foot := ⟨[.mem, .free, .logs, .limits, .d0, .sw, .can, .power, .br, .dma, .tenants, .harts, .twin], logEnts ++ [ent0
  Ent.Stw.COUNTER_SAT, ent0 Ent.Stw.STW_ECC_DROPS, ent0 Ent.Tws.CMD_STATUS, ent1 Ent.Bctx.COUNTER_SAT, ent1 Ent.Bctx.FAILURES, ent1 Ent.Bctx.POSTED,
  ent1 Ent.Bctx.READS, ent1 Ent.Bctx.RETRANSMITS, ent1 Ent.Bctx.SESSION, ent1 Ent.Bctx.TIMEOUTS, ent1 Ent.CanCo.SDO_LAST_STATUS, ent1
  Ent.CanSt.COUNTER_SAT, ent1 Ent.CanSt.TX_DISCARDED, ent1 Ent.Hall.COUNTER_SAT, ent1 Ent.Hall.FROZEN_DROPS, ent1 Ent.Heng.COUNTER_SAT, ent1
  Ent.Heng.NO_QP, ent1 Ent.Port.EGRESS_FILTERED, ent1 Ent.Port.PORT_SAT, ent1 Ent.Port.TX_BYTES, ent1 Ent.Port.TX_FRAMES, ent1 Ent.Pq.CT_ABORTED, ent1
  Ent.Pq.NO_DESC, ent1 Ent.Pq.OVERSIZE, ent1 Ent.Pq.PORT_SAT, ent1 Ent.Pq.Q_SAT, ent2 Ent.Pq.DROP_DISABLED, ent2 Ent.Pq.DROP_DOWN, ent2
  Ent.Pq.DROP_FULL, ent2 Ent.Pq.DROP_RESIDENCE, ent2 Ent.Pq.DROP_STW], [word0 Rg.Smb.DONE, word0 Rg.Smb.MB_LEN, word0 Rg.Smb.MB_TOTAL, word1
  Rg.Hpg.RING_EN, word1 Rg.Hpg.RING_HEAD, word1 Rg.Mb.DONE, word1 Rg.Mb.MB_LEN, word1 Rg.Mb.MB_TOTAL, word1 Rg.Smb.MB_DATA, word2 Rg.Ctx.BST_ADDR_HI,
  word2 Rg.Ctx.BST_ADDR_LO, word2 Rg.Ctx.FAILED, word2 Rg.Ctx.FAR_CODE, word2 Rg.Ctx.IRQ, word2 Rg.Ctx.PW_DONE, word2 Rg.Ctx.SESSION, word2
  Rg.Ep.MERGED, word2 Rg.Mb.MB_DATA, word2 fun u k => rmb u k Rg.Mb.CODE, word2 fun u k => rmb u k Rg.Mb.GO, word2 fun u k => rmb u k Rg.Mb.MB_LEN,
  word2 fun u k => rmb u k Rg.Mb.MB_TOTAL, word3 fun u k i => rmb u k fun n => Rg.Mb.MB_DATA n i]⟩

/-- What `partnerQueryResult` may change. -/
def Foot.partnerQueryResult : Foot := ⟨[.mem, .logs, .d0, .sw, .can, .power, .br, .dma, .tenants, .twin], logEnts ++ [ent0 Ent.Stw.COUNTER_SAT, ent0
  Ent.Stw.STW_ECC_DROPS, ent0 Ent.Tws.CMD_STATUS, ent0 Ent.Tws.COUNTER_SAT, ent0 Ent.Tws.PATHS, ent0 Ent.Tws.ROLE, ent0 Ent.Tws.SPLIT_PATHS, ent1
  Ent.CanCo.SDO_LAST_STATUS, ent1 Ent.CanSt.COUNTER_SAT, ent1 Ent.CanSt.TX_DISCARDED, ent1 Ent.Hall.COUNTER_SAT, ent1 Ent.Hall.FROZEN_DROPS, ent1
  Ent.Heng.COUNTER_SAT, ent1 Ent.Heng.NO_QP, ent1 Ent.Port.EGRESS_FILTERED, ent1 Ent.Port.PORT_SAT, ent1 Ent.Port.TX_BYTES, ent1 Ent.Port.TX_FRAMES,
  ent1 Ent.Pq.CT_ABORTED, ent1 Ent.Pq.NO_DESC, ent1 Ent.Pq.OVERSIZE, ent1 Ent.Pq.PORT_SAT, ent1 Ent.Pq.Q_SAT, ent2 Ent.Pq.DROP_DISABLED, ent2
  Ent.Pq.DROP_DOWN, ent2 Ent.Pq.DROP_FULL, ent2 Ent.Pq.DROP_RESIDENCE, ent2 Ent.Pq.DROP_STW], [word0 Rg.Smb.DONE, word0 Rg.Smb.MB_LEN, word0
  Rg.Smb.MB_TOTAL, word1 Rg.Hpg.RING_EN, word1 Rg.Hpg.RING_HEAD, word1 Rg.Mb.DONE, word1 Rg.Mb.MB_LEN, word1 Rg.Mb.MB_TOTAL, word1 Rg.Plat.SYS_IRQ,
  word1 Rg.Smb.MB_DATA, word2 Rg.Mb.MB_DATA]⟩

/-- What `promote` may change. -/
def Foot.promote : Foot := ⟨[.mem, .logs, .scan, .dma, .tenants, .twin], logEnts ++ [ent0 Ent.Chg.CHANGES, ent0 Ent.Chg.CHANGE_RESULT, ent0
  Ent.Chg.CHANGE_STATE, ent0 Ent.Chg.CHANGE_STATUS, ent0 Ent.Chg.COUNTER_SAT, ent0 Ent.Chg.REFUSALS, ent0 Ent.Se.STATE, ent0 Ent.Tws.ROLE_EPOCH, ent1
  Ent.Hall.COUNTER_SAT], [word1 Rg.Hpg.RING_EN, word1 Rg.Hpg.RING_HEAD, word1 Rg.Plat.SYS_IRQ]⟩

/-- What `promoteComplete` may change. -/
def Foot.promoteComplete : Foot := ⟨[.mem, .logs, .time, .sw, .load, .scan, .dma, .tenants, .clk, .twin], logEnts ++ [ent0 Ent.Clk.SSC_ACTIVE, ent0
  Ent.Se.STATE, ent0 Ent.Tws.COUNTER_SAT, ent0 Ent.Tws.HANDOVERS, ent0 Ent.Tws.PROMOTIONS, ent0 Ent.Tws.ROLE, ent1 Ent.Hall.COUNTER_SAT, ent1
  Ent.Lc.FLAGS, ent1 Ent.Lc.STATE, ent1 Ent.Task.COUNTER_SAT, ent1 Ent.Task.CYCLES, ent1 Ent.Task.LAST_EXEC_NS, ent1 Ent.Task.MAX_DELAY_NS, ent1
  Ent.Task.MAX_EXEC_NS, ent1 Ent.Task.MERGED, ent1 Ent.Task.SKIPPED, ent1 Ent.Trgu.COUNT, ent1 Ent.Trgu.ENABLE, ent1 Ent.Trgu.NEXT_NS, ent1
  Ent.Trgu.OWNER, ent1 Ent.Trgu.PERIOD_NS, ent1 Ent.Trgu.START_NS, ent1 Ent.Trgu.TARGET], [word1 Rg.Hpg.RING_EN, word1 Rg.Hpg.RING_HEAD, word1
  Rg.Plat.SYS_IRQ]⟩

/-- What `canIntegrationEnd` may change. -/
def Foot.canIntegrationEnd : Foot := ⟨[], [], [word1 Rg.Ch.TEC]⟩

/-- What `limitingEnd` may change. -/
def Foot.limitingEnd : Foot := ⟨[], [ent1 Ent.Lc.FLAGS], []⟩

/-- What `migrateAcceptTimeout` may change. -/
def Foot.migrateAcceptTimeout : Foot := ⟨[.mem, .free, .logs, .limits, .d0, .sw, .can, .power, .br, .dma, .tenants, .harts, .twin], logEnts ++ [ent0
  Ent.Stw.COUNTER_SAT, ent0 Ent.Stw.STW_ECC_DROPS, ent1 Ent.Bctx.COUNTER_SAT, ent1 Ent.Bctx.FAILURES, ent1 Ent.Bctx.POSTED, ent1 Ent.Bctx.READS, ent1
  Ent.Bctx.RETRANSMITS, ent1 Ent.Bctx.SESSION, ent1 Ent.Bctx.TIMEOUTS, ent1 Ent.CanCo.SDO_LAST_STATUS, ent1 Ent.CanSt.COUNTER_SAT, ent1
  Ent.CanSt.TX_DISCARDED, ent1 Ent.Hall.CMD_STATUS, ent1 Ent.Hall.COUNTER_SAT, ent1 Ent.Hall.FROZEN_DROPS, ent1 Ent.Hall.STATE, ent1
  Ent.Heng.COUNTER_SAT, ent1 Ent.Heng.NO_QP, ent1 Ent.Port.EGRESS_FILTERED, ent1 Ent.Port.PORT_SAT, ent1 Ent.Port.TX_BYTES, ent1 Ent.Port.TX_FRAMES,
  ent1 Ent.Pq.CT_ABORTED, ent1 Ent.Pq.NO_DESC, ent1 Ent.Pq.OVERSIZE, ent1 Ent.Pq.PORT_SAT, ent1 Ent.Pq.Q_SAT, ent2 Ent.Pq.DROP_DISABLED, ent2
  Ent.Pq.DROP_DOWN, ent2 Ent.Pq.DROP_FULL, ent2 Ent.Pq.DROP_RESIDENCE, ent2 Ent.Pq.DROP_STW], [word0 Rg.Smb.DONE, word0 Rg.Smb.MB_LEN, word0
  Rg.Smb.MB_TOTAL, word1 Rg.Hpg.RING_EN, word1 Rg.Hpg.RING_HEAD, word1 Rg.Mb.DONE, word1 Rg.Mb.MB_LEN, word1 Rg.Mb.MB_TOTAL, word1 Rg.Smb.MB_DATA,
  word2 Rg.Ctx.BST_ADDR_HI, word2 Rg.Ctx.BST_ADDR_LO, word2 Rg.Ctx.FAILED, word2 Rg.Ctx.FAR_CODE, word2 Rg.Ctx.IRQ, word2 Rg.Ctx.PW_DONE, word2
  Rg.Ctx.SESSION, word2 Rg.Ep.MERGED, word2 Rg.Mb.MB_DATA, word2 fun u k => rmb u k Rg.Mb.CODE, word2 fun u k => rmb u k Rg.Mb.GO, word2 fun u k =>
  rmb u k Rg.Mb.MB_LEN, word2 fun u k => rmb u k Rg.Mb.MB_TOTAL, word3 fun u k i => rmb u k fun n => Rg.Mb.MB_DATA n i]⟩

/-- What `inDoubtAnswer` may change. -/
def Foot.inDoubtAnswer : Foot := ⟨[.regs, .mem, .epochs, .free, .logs, .limits, .d0, .can, .br, .scan, .dma, .tenants, .mezz, .sto, .held, .harts,
  .twin], logEnts ++ [ent1 Ent.Bctx.COUNTER_SAT, ent1 Ent.Bctx.ENABLE, ent1 Ent.Bctx.FAILURES, ent1 Ent.Bctx.HALL, ent1 Ent.Bctx.POSTED, ent1
  Ent.Bctx.READS, ent1 Ent.Bctx.RETRANSMITS, ent1 Ent.Bctx.SESSION, ent1 Ent.Bctx.STATE, ent1 Ent.Bctx.TIMEOUTS, ent1 Ent.Bind.ENABLE, ent1
  Ent.Bind.HALL, ent1 Ent.Bu.ENDPOINTS, ent1 Ent.CanObj.OBJ_TABLE, ent1 Ent.CanObj.TXB_HALL, ent1 Ent.CanSt.COUNTER_SAT, ent1 Ent.CanSt.LOCK_EXPIRED,
  ent1 Ent.Dma.ENABLE, ent1 Ent.Dma.HALL, ent1 Ent.Dma.STATE, ent1 Ent.Hall.CCORES, ent1 Ent.Hall.COUNTER_SAT, ent1 Ent.Hall.MIGRATIONS, ent1
  Ent.Hall.RESETS, ent1 Ent.Hall.STATE, ent1 Ent.Iommu.WINDOWS, ent1 Ent.Port.PORT_SAT, ent1 Ent.Port.TX_BYTES, ent1 Ent.Port.TX_FRAMES, ent1
  Ent.Qp.ENABLE, ent1 Ent.Qp.HALL, ent1 Ent.Qp.STATE, ent1 Ent.Stn.COUNTER_SAT, ent1 Ent.Stn.LOSSES, ent1 Ent.Stn.STATE, ent1 Ent.Task.COUNTER_SAT,
  ent1 Ent.Task.MERGED], []⟩

/-- What `attachRetry` may change. -/
def Foot.attachRetry : Foot := ⟨[.mem, .logs, .dma, .tenants, .twin], logEnts ++ [ent0 Ent.Tws.ROLE, ent1 Ent.Hall.COUNTER_SAT, ent1
  Ent.Port.PORT_SAT, ent1 Ent.Port.TX_BYTES, ent1 Ent.Port.TX_FRAMES], [word1 Rg.Hpg.RING_EN, word1 Rg.Hpg.RING_HEAD, word1 Rg.Plat.SYS_IRQ]⟩

/-- What `attachWindowTimeout` may change. -/
def Foot.attachWindowTimeout : Foot := ⟨[.mem, .logs, .d0, .sw, .can, .power, .br, .dma, .tenants, .twin], logEnts ++ [ent0 Ent.Stw.COUNTER_SAT, ent0
  Ent.Stw.STW_ECC_DROPS, ent0 Ent.Tws.CMD_STATUS, ent0 Ent.Tws.ROLE, ent1 Ent.CanCo.SDO_LAST_STATUS, ent1 Ent.CanSt.COUNTER_SAT, ent1
  Ent.CanSt.TX_DISCARDED, ent1 Ent.Hall.COUNTER_SAT, ent1 Ent.Hall.FROZEN_DROPS, ent1 Ent.Heng.COUNTER_SAT, ent1 Ent.Heng.NO_QP, ent1
  Ent.Port.EGRESS_FILTERED, ent1 Ent.Port.PORT_SAT, ent1 Ent.Port.TX_BYTES, ent1 Ent.Port.TX_FRAMES, ent1 Ent.Pq.CT_ABORTED, ent1 Ent.Pq.NO_DESC, ent1
  Ent.Pq.OVERSIZE, ent1 Ent.Pq.PORT_SAT, ent1 Ent.Pq.Q_SAT, ent2 Ent.Pq.DROP_DISABLED, ent2 Ent.Pq.DROP_DOWN, ent2 Ent.Pq.DROP_FULL, ent2
  Ent.Pq.DROP_RESIDENCE, ent2 Ent.Pq.DROP_STW], [word0 Rg.Smb.DONE, word0 Rg.Smb.MB_LEN, word0 Rg.Smb.MB_TOTAL, word1 Rg.Hpg.RING_EN, word1
  Rg.Hpg.RING_HEAD, word1 Rg.Mb.DONE, word1 Rg.Mb.MB_LEN, word1 Rg.Mb.MB_TOTAL, word1 Rg.Plat.SYS_IRQ, word1 Rg.Smb.MB_DATA, word2 Rg.Mb.MB_DATA]⟩

/-- What `standbyChangeReceive` may change. -/
def Foot.standbyChangeReceive : Foot := ⟨[.mem, .logs, .scan, .dma, .tenants, .twin], logEnts ++ [ent0 Ent.Chg.CHANGE_STATE, ent0 Ent.Chg.MAP_TABLE,
  ent0 Ent.Se.STATE, ent1 Ent.Hall.COUNTER_SAT, ent1 Ent.Port.PORT_SAT, ent1 Ent.Port.TX_BYTES, ent1 Ent.Port.TX_FRAMES], [word1 Rg.Hpg.RING_EN, word1
  Rg.Hpg.RING_HEAD, word1 Rg.Plat.SYS_IRQ]⟩

/-- What `handoverAcceptTimeout` may change. -/
def Foot.handoverAcceptTimeout : Foot := ⟨[.mem, .logs, .d0, .sw, .can, .power, .br, .dma, .tenants, .twin], logEnts ++ [ent0 Ent.Stw.COUNTER_SAT,
  ent0 Ent.Stw.STW_ECC_DROPS, ent0 Ent.Tws.CMD_STATUS, ent1 Ent.CanCo.SDO_LAST_STATUS, ent1 Ent.CanSt.COUNTER_SAT, ent1 Ent.CanSt.TX_DISCARDED, ent1
  Ent.Hall.COUNTER_SAT, ent1 Ent.Hall.FROZEN_DROPS, ent1 Ent.Heng.COUNTER_SAT, ent1 Ent.Heng.NO_QP, ent1 Ent.Port.EGRESS_FILTERED, ent1
  Ent.Port.PORT_SAT, ent1 Ent.Port.TX_BYTES, ent1 Ent.Port.TX_FRAMES, ent1 Ent.Pq.CT_ABORTED, ent1 Ent.Pq.NO_DESC, ent1 Ent.Pq.OVERSIZE, ent1
  Ent.Pq.PORT_SAT, ent1 Ent.Pq.Q_SAT, ent2 Ent.Pq.DROP_DISABLED, ent2 Ent.Pq.DROP_DOWN, ent2 Ent.Pq.DROP_FULL, ent2 Ent.Pq.DROP_RESIDENCE, ent2
  Ent.Pq.DROP_STW], [word0 Rg.Smb.DONE, word0 Rg.Smb.MB_LEN, word0 Rg.Smb.MB_TOTAL, word1 Rg.Hpg.RING_HEAD, word1 Rg.Mb.DONE, word1 Rg.Mb.MB_LEN,
  word1 Rg.Mb.MB_TOTAL, word1 Rg.Smb.MB_DATA, word2 Rg.Mb.MB_DATA]⟩

/-- What `galleryDictRequest` may change. -/
def Foot.galleryDictRequest : Foot := ⟨[.mem, .logs, .d0, .dma, .tenants, .twin], logEnts ++ [ent1 Ent.Port.PORT_SAT, ent1 Ent.Port.TX_BYTES, ent1
  Ent.Port.TX_FRAMES], [word1 Rg.Hpg.RING_HEAD]⟩

/-- What `galleryAckReceive` may change. -/
def Foot.galleryAckReceive : Foot := ⟨[.mem, .logs, .d0, .sw, .can, .power, .br, .dma, .tenants, .twin], logEnts ++ [ent0 Ent.Stw.COUNTER_SAT, ent0
  Ent.Stw.STW_ECC_DROPS, ent0 Ent.Tws.CMD_STATUS, ent0 Ent.Tws.ROLE, ent1 Ent.CanCo.SDO_LAST_STATUS, ent1 Ent.CanSt.COUNTER_SAT, ent1
  Ent.CanSt.TX_DISCARDED, ent1 Ent.Hall.COUNTER_SAT, ent1 Ent.Hall.FROZEN_DROPS, ent1 Ent.Heng.COUNTER_SAT, ent1 Ent.Heng.NO_QP, ent1
  Ent.Port.EGRESS_FILTERED, ent1 Ent.Port.PORT_SAT, ent1 Ent.Port.TX_BYTES, ent1 Ent.Port.TX_FRAMES, ent1 Ent.Pq.CT_ABORTED, ent1 Ent.Pq.NO_DESC, ent1
  Ent.Pq.OVERSIZE, ent1 Ent.Pq.PORT_SAT, ent1 Ent.Pq.Q_SAT, ent2 Ent.Pq.DROP_DISABLED, ent2 Ent.Pq.DROP_DOWN, ent2 Ent.Pq.DROP_FULL, ent2
  Ent.Pq.DROP_RESIDENCE, ent2 Ent.Pq.DROP_STW], [word0 Rg.Smb.DONE, word0 Rg.Smb.MB_LEN, word0 Rg.Smb.MB_TOTAL, word1 Rg.Hpg.RING_EN, word1
  Rg.Hpg.RING_HEAD, word1 Rg.Mb.DONE, word1 Rg.Mb.MB_LEN, word1 Rg.Mb.MB_TOTAL, word1 Rg.Plat.SYS_IRQ, word1 Rg.Smb.MB_DATA, word2 Rg.Mb.MB_DATA]⟩

/-- What `galleryAckSend` may change. -/
def Foot.galleryAckSend : Foot := ⟨[.mem, .logs, .dma, .tenants, .twin], logEnts ++ [ent1 Ent.Port.PORT_SAT, ent1 Ent.Port.TX_BYTES, ent1
  Ent.Port.TX_FRAMES], [word1 Rg.Hpg.RING_HEAD]⟩

/-- What `galleryOutcomeTimeout` may change. -/
def Foot.galleryOutcomeTimeout : Foot := ⟨[.mem, .logs, .d0, .sw, .can, .power, .br, .dma, .tenants, .twin], logEnts ++ [ent0 Ent.Stw.COUNTER_SAT,
  ent0 Ent.Stw.STW_ECC_DROPS, ent0 Ent.Tws.CMD_STATUS, ent0 Ent.Tws.ROLE, ent1 Ent.CanCo.SDO_LAST_STATUS, ent1 Ent.CanSt.COUNTER_SAT, ent1
  Ent.CanSt.TX_DISCARDED, ent1 Ent.Hall.COUNTER_SAT, ent1 Ent.Hall.FROZEN_DROPS, ent1 Ent.Heng.COUNTER_SAT, ent1 Ent.Heng.NO_QP, ent1
  Ent.Port.EGRESS_FILTERED, ent1 Ent.Port.PORT_SAT, ent1 Ent.Port.TX_BYTES, ent1 Ent.Port.TX_FRAMES, ent1 Ent.Pq.CT_ABORTED, ent1 Ent.Pq.NO_DESC, ent1
  Ent.Pq.OVERSIZE, ent1 Ent.Pq.PORT_SAT, ent1 Ent.Pq.Q_SAT, ent2 Ent.Pq.DROP_DISABLED, ent2 Ent.Pq.DROP_DOWN, ent2 Ent.Pq.DROP_FULL, ent2
  Ent.Pq.DROP_RESIDENCE, ent2 Ent.Pq.DROP_STW], [word0 Rg.Smb.DONE, word0 Rg.Smb.MB_LEN, word0 Rg.Smb.MB_TOTAL, word1 Rg.Hpg.RING_EN, word1
  Rg.Hpg.RING_HEAD, word1 Rg.Mb.DONE, word1 Rg.Mb.MB_LEN, word1 Rg.Mb.MB_TOTAL, word1 Rg.Plat.SYS_IRQ, word1 Rg.Smb.MB_DATA, word2 Rg.Mb.MB_DATA]⟩

/-- What `twinAliveEdge` may change. -/
def Foot.twinAliveEdge : Foot := ⟨[.twin], [ent0 Ent.Tws.PATHS], []⟩

/-- What `twinFltHigh` may change. -/
def Foot.twinFltHigh : Foot := ⟨[.twin], [ent0 Ent.Tws.PATHS], []⟩

/-- What `arpRequest` may change. -/
def Foot.arpRequest : Foot := ⟨[.mem, .logs, .sw, .dma, .tenants], logEnts ++ [ent0 Ent.Stw.COUNTER_SAT, ent0 Ent.Stw.STW_ECC_DROPS, ent1
  Ent.Hall.COUNTER_SAT, ent1 Ent.Hall.FROZEN_DROPS, ent1 Ent.Heng.COUNTER_SAT, ent1 Ent.Heng.NO_QP, ent1 Ent.Port.EGRESS_FILTERED, ent1
  Ent.Port.PORT_SAT, ent1 Ent.Pq.CT_ABORTED, ent1 Ent.Pq.NO_DESC, ent1 Ent.Pq.OVERSIZE, ent1 Ent.Pq.PORT_SAT, ent1 Ent.Pq.Q_SAT, ent2
  Ent.Pq.DROP_DISABLED, ent2 Ent.Pq.DROP_DOWN, ent2 Ent.Pq.DROP_FULL, ent2 Ent.Pq.DROP_RESIDENCE, ent2 Ent.Pq.DROP_STW], [word1 Rg.Hpg.RING_HEAD]⟩

/-- What `dramIdleSelfRefresh` may change. -/
def Foot.dramIdleSelfRefresh : Foot := ⟨[.clk], [], []⟩


/-- Every integer entry but those listed reads as before. -/
def EntriesBut (es : List Entry) (a b : Dev) : Prop := ∀ e : Entry, (∀ x ∈ es, e.key ≠ x.key) → b.get e = a.get e

/-- Every register word but those at the listed addresses reads as before. -/
def WordsBut (as : List Nat) (a b : Dev) : Prop := ∀ x r, x ∉ as → b.word x r = a.word x r

/-- The device log's buffer holds the record of an event (Table 1.13). -/
def inDeviceLog (e : Ev) (d : Dev) : Bool :=
  d.logs.waiting.any fun r => match r with
    | .base _ time source code data => time == e.time && source == e.source && code == e.codeField && data == e.data
    | .ext _ _ => false

/-- The device log takes records now and has room for the event's (R37, R38). -/
abbrev takesEvent (e : Ev) (d : Dev) : Prop := d.logs.isOpen = true ∧ (d.group .device e).length ≤ d.sinkRoom .device

/-- The address lies in one of the memories: it is neither of a unit's registers nor of a bridge window, and its region exists (Table 1.10). -/
def inMemory (a : Nat) : Bool :=
  match region a with
  | none | some .units | some .mezzRegs | some .bridgeWindow => false
  | some _ => true

/-- Every byte outside the `n` from `a` reads as before; in the TCM of the upper core of a lockstep pair, a byte reads as the one of the lower core that was written (R327). -/
def KeptBeside (a n : Nat) (s t : Dev) : Prop := ∀ x, x < a ∨ a + n ≤ x →
  t.byte x = if s.pairTcm (x - 0x20000) 0 ∧ a ≤ x - 0x20000 ∧ x - 0x20000 < a + n then t.byte (x - 0x20000) else s.byte x

/-- The `n` bytes from `a` are those of `v`, and every other byte is kept. -/
def StoredAt (a n v : Nat) (s t : Dev) : Prop := t.readMem a n = le n v ∧ KeptBeside a n s t

/-- The access that a hart makes for the debug module (R341). -/
def hartAccess (d : Dev) (k addr size : Nat) (write : Option Nat) : Txn :=
  ⟨hartInitiator k, k == 12, if k = 12 then 0 else (d.hart k).nhall, false, 0, if write.isSome then .write else .read, addr, size, write.getD 0⟩

/-- OFFSET once the old rate is folded into it, if a new one is taken (R146). -/
def foldedOffset (t : TimeBase) (rate : Option Int) : Nat := rate.elim t.offset fun r => (t.newRate r).offset

/-- A mailbox page shows a completed request with this status (R81). -/
def MailboxDone (h : Nat) (st : Status) (d : Dev) : Prop :=
  d.fld (Rg.Mb.CODE h) = st.code ∧ d.fld (Rg.Mb.BUSY h) = 0 ∧ d.fld (Rg.Mb.DONE h) = 1

/-- D0's next request came by the mailbox page of hall `h` itself, the page waits for it, and no bridge session is being served. -/
abbrev MailboxRequest (d : Dev) (q : QReq) (h : Nat) : Prop :=
  d.nextReq = some q ∧ q.origin.path = .mailbox h ∧ q.origin.session = 0 ∧ d.tenants.mute.contains h = false ∧ d.br.serve = []

/-- A write of the entry sets its value and does nothing else in its unit. -/
def takesValue (i s : Nat) : Bool :=
  !ownWrite i s && !(decide (0x1400 ≤ i) && decide (i < 0x1B00)) && i != 0x1010 && i != 0x1011 && i * 256 + s != 0x210801 && i * 256 + s != 0x244002

/-- The request writes an integer entry of row `r` and passes the checks of Table 3.2: no sleep entry runs, and no lease refuses it. -/
abbrev PassesChecks (d : Dev) (q : QReq) (r : DictRow) : Prop :=
  d.checkEntry (d.asker q.origin) q.req = .ok r ∧ r.ty.bytes = some q.req.data.length ∧ r.accepts (ofLe q.req.data) = true ∧
    d.valueOk q.req.index q.req.sub (ofLe q.req.data) = true ∧ d.entering = false ∧ d.writeLeased (d.asker q.origin).secure q.req.index = none

/-- A write that passes the checks, of an entry that is not staged in a group and whose write does nothing but set the value. -/
abbrev PlainEntryWrite (d : Dev) (q : QReq) (r : DictRow) : Prop :=
  PassesChecks d q r ∧ r.acc = .rw ∧ r.staged = false ∧ takesValue q.req.index q.req.sub = true

/-- In a device whose D0 runs with its references, `m` is addressed to it, is a request for an open session `x`, opens to `p`, and is the next one in order that the session
has neither executed, nor queued, nor held (R70 to R75). -/
abbrev NextInSession (d : Dev) (m : NdpMsg) (x : Session) (p : Bytes) : Prop :=
  d.d0.running = true ∧ d.flag Ent.Clk.REF_LOSS = false ∧ d.ndpFits m = true ∧ m.version = 1 ∧ m.node = d.board.nodeId ∧
    KV.find m.session d.d0.sessions = some x ∧
    x.closing = false ∧ d.ndpOpened x m = some p ∧ (x.cache.find? fun c => c.1 == m.seq) = none ∧ d.ndpQueued m.session < 8 ∧
    m.seq = seqAfter (d.ndpQueued m.session + 1) x.last ∧ KV.find m.seq x.early = none ∧
    (d.d0.queue.any fun q => q.origin.path == .udp && q.origin.session == m.session && q.origin.seq == m.seq) = false

/-- `m` is the next request of a session `x` that unit `u` serves: it opens to `p`, the session holds no other request, and the checks of Table 9.4 pass
(R218, R219). -/
abbrev NextServed (d : Dev) (u op : Nat) (m : BMsg) (x : BServe) (p : BMsg) : Prop :=
  d.bridgeOn u = true ∧ m.ty = 3 ∧ m.op = op ∧ m.srcUnit < 4 ∧ m.srcNode < 4096 ∧ m.sid < 2048 ∧ KV.find (serveKey u m) d.br.serve = some x ∧
    x.asked = none ∧ x.early = [] ∧ m.seq = nextMsgSeq x.last ∧
    m.enc = (leAt ((d.exportFor u (m.srcNode + m.srcUnit * 4096)).getD []) 5 1 == 1) ∧ m.openUnder x.key = some p ∧
    d.exportCheck (d.exportFor u (m.srcNode + m.srcUnit * 4096)) p = .ok

/-- The memory access of a served request. -/
def servedTxn (d : Dev) (u : Nat) (kind : TKind) (p : BMsg) : Txn :=
  ⟨.bridge u, false, leAt ((d.exportFor u (p.srcNode + p.srcUnit * 4096)).getD []) 2 1, false, 0, kind, p.addr, 2 ^ (p.size % 16),
    ofLe (slice p.data 0 (2 ^ (p.size % 16)))⟩

/-- The session has performed `m` and answered it: the answer is cached and sent (R218, R219). -/
def Answered (u : Nat) (m : BMsg) (x : BServe) (p : BMsg) (st : Status) (data : Bytes) (s d : Dev) : Prop :=
  let w := ((x.answerMsg p st data).protect x.key (leAt ((s.exportFor u (m.srcNode + m.srcUnit * 4096)).getD []) 5 1)).wire
  KV.find (serveKey u m) d.br.serve =
      some { x with epoch := p.epoch, resp := nextMsgSeq x.resp, last := m.seq, cache := ((m.seq, some w) :: x.cache).take 32 } ∧
    Out.inject (48 + u) (deviceFrame x.mac (ofBe (s.oct (Ent.Bu.BU_MAC u))) (s.get (Ent.Bu.VLAN u)) (s.get (Ent.Bu.PCP u)) (s.get Ent.Fwd.NAVOS_ETYPE) w) ∈ d.out

/-- The requester's session `sid` of unit `u` is open, has room for a request and none waits for it (R218, R220). -/
abbrev SessionOpen (d : Dev) (u sid : Nat) : Prop :=
  (d.brSess u sid).state = 2 ∧ (d.brSess u sid).sent.length < 32 ∧ (d.brSess u sid).waiting = [] ∧
    (64 ≤ sid ∨ d.hallStopped (d.get (Ent.Bctx.HALL (bctx u sid))) = false)

/-- The session has put one request more on the wire, with its next number. -/
def Issued (u sid op addr : Nat) (s d : Dev) : Bool :=
  (d.brSess u sid).sent.length == (s.brSess u sid).sent.length + 1 &&
    (d.brSess u sid).sent.getLast?.any fun r => r.msg.op == op && r.msg.addr == addr && r.msg.seq == (s.brSess u sid).next

/-- `m` is a genuine response of the session's peer, not seen before, that opens to `p` and resolves the request `r` (R218 to R220). -/
abbrev Resolves (d : Dev) (u : Nat) (m p : BMsg) (r : BReq) : Prop :=
  m.ty = 4 ∧ m.srcNode = d.board.nodeId ∧ m.srcUnit = u ∧ (m.auth = zeros 16 → m.status = 0) ∧ m.op ≠ 1 ∧ m.op ≠ 0x0A ∧
    (d.brSess u m.sid).key ≠ [] ∧ m.enc = (d.sessMode u m.sid == 1) ∧ m.openUnder (d.brSess u m.sid).key = some p ∧ (d.brSess u m.sid).fresh m.seq = true ∧
    ((d.brSess u m.sid).sent.find? fun x => x.msg.seq == m.tag) = some r ∧ r.gone = false ∧ (d.brSess u m.sid).waiting = []

/-- The bytes from `a` are `b`, and every other byte is kept. -/
def BytesAt (a : Nat) (b : Bytes) (s t : Dev) : Prop := t.readMem a b.length = b ∧ KeptBeside a b.length s t

/-- The crypto unit runs a job `j` of operation `op` that has no outcome yet; `c` are its fields (R405). -/
abbrev JobRuns (d : Dev) (op : Nat) (j : CryptoJob) (c : CryDesc) : Prop :=
  d.mezz.job = some j ∧ j.ended = none ∧ c = cryDesc j.desc ∧ c.op = op

/-- The command answers a next state: the queue is left alone, and `P` holds of the device. -/
def Gives (c : Instr) (s : State) (P : Dev → Prop) : Prop := ∃ t, exec c s = .next t ∧ t.pending = s.pending ∧ P t.dev

end Sys2Proof
end

