-- ==== Sys2Proof/Certificates/Slice0/Obligations.lean ====
section
/-! DEFINITION. The statements about the model, from the numbered rules of the spec. In a clause about a command, `Gives` says that the command
answers a next state, and `Only`, `EntriesBut` and `WordsBut` say what it leaves alone. -/

open Sys2Proof Sys2Proof.Machine

/-- Pace samples, rail steps and pace faults of the core supply complete. In a running device: a pace sample stores the code (at most 65,535) and the
target of PACE_MODE, and counts how long the code has been low or good; a trim step up, down or toward FIXED_MV (target 0, set by a pace sample in
mode FIXED) moves the rail by 5 mV within 720 mV to 880 mV when the supply is not frozen and 10 µs have passed since the last step; more than 20 µs
below 4,096 at the top rail in mode WORST set the pace fault and drive FAULT_N low; 1 ms at 4,096 or above clears it. -/
def Obligations.SupplyAndPaceCommands : Prop :=
  ∀ s : State, Live s →
  (∀ (code : Nat), Gives (.paceSample code) s fun d =>
      d.get Ent.Pace.PACE_CODE = min code 65535 ∧ (d.get Ent.Pace.PACE_TARGET = if s.dev.get Ent.Pace.PACE_MODE = 0 then 4096 else if s.dev.get Ent.Pace.PACE_MODE = 1 then 5960 else 0) ∧ (d.supply.low = if s.dev.get Ent.Pace.PACE_MODE = 0 ∧ s.dev.get Ent.Pace.RAIL_MV = 880 ∧ code < 4096 then s.dev.supply.low + 1 else 0) ∧ (d.supply.good = if 4096 ≤ code then s.dev.supply.good + 1 else 0) ∧ Only Foot.paceSample s.dev d) ∧
  (s.dev.supply.frozen = false → s.dev.trimDue = true → s.dev.get Ent.Pace.PACE_TARGET ≠ 0 → s.dev.get Ent.Pace.PACE_CODE < s.dev.get Ent.Pace.PACE_TARGET → 715 ≤ s.dev.get Ent.Pace.RAIL_MV → s.dev.get Ent.Pace.RAIL_MV ≤ 875 →
    Gives (.trimStep true) s fun d =>
      d.get Ent.Pace.RAIL_MV = s.dev.get Ent.Pace.RAIL_MV + 5 ∧ d.supply.stepAt = some s.dev.time.raw ∧ Only Foot.trimStep s.dev d) ∧
  (s.dev.supply.frozen = false → s.dev.trimDue = true → s.dev.get Ent.Pace.PACE_TARGET ≠ 0 → s.dev.get Ent.Pace.PACE_TARGET ≤ s.dev.get Ent.Pace.PACE_CODE → 725 ≤ s.dev.get Ent.Pace.RAIL_MV → s.dev.get Ent.Pace.RAIL_MV ≤ 885 →
    Gives (.trimStep false) s fun d =>
      d.get Ent.Pace.RAIL_MV = s.dev.get Ent.Pace.RAIL_MV - 5 ∧ d.supply.stepAt = some s.dev.time.raw ∧ Only Foot.trimStep s.dev d) ∧
  (∀ (up : Bool), s.dev.supply.frozen = false → s.dev.trimDue = true → s.dev.get Ent.Pace.PACE_TARGET = 0 → s.dev.get Ent.Pace.RAIL_MV < s.dev.get Ent.Pace.FIXED_MV → 715 ≤ s.dev.get Ent.Pace.RAIL_MV → s.dev.get Ent.Pace.RAIL_MV ≤ 875 →
    Gives (.trimStep up) s fun d =>
      d.get Ent.Pace.RAIL_MV = s.dev.get Ent.Pace.RAIL_MV + 5 ∧ Only Foot.trimStep s.dev d) ∧
  (s.dev.get Ent.Pace.PACE_TARGET = 4096 → 20 < s.dev.supply.low → s.dev.supply.fault = false →
    Gives (.paceFault) s fun d =>
      d.supply.fault = true ∧ d.twin.low = true ∧ Only Foot.paceFault s.dev d) ∧
  (s.dev.supply.fault = true → 1000 ≤ s.dev.supply.good →
    Gives (.paceFaultEnd) s fun d =>
      d.supply.fault = false ∧ Only Foot.paceFaultEnd s.dev d)

/-- 32-bit reads and writes of 64-bit counters latch, stage and take effect together. In a running device: a read of a counter's low word answers bits
31 to 0 and latches bits 63 to 32 for that initiator and unit; the initiator's next high-word read answers the latched half and empties the latch; a
low-word write is staged; the high-word write clears in the counter every bit that is 1 in the high word and the staged low word. -/
def Obligations.CounterWordAccess : Prop :=
  ∀ s : State, Live s →
  (∀ (i : Initiator) (idx sub : Nat), Gives (.counterLowRead i idx sub false) s fun d =>
      d.out = [.answer .ok (s.dev.get ⟨idx, sub, 64, 0⟩ % 2 ^ 32)] ∧ KV.find (latchKey i idx) d.ctrLatch = some ⟨idx * 256 + sub, s.dev.get ⟨idx, sub, 64, 0⟩ / 2 ^ 32⟩ ∧ Only Foot.counterLowRead s.dev d) ∧
  (∀ (i : Initiator) (idx sub high : Nat), KV.find (latchKey i idx) s.dev.ctrLatch = some ⟨idx * 256 + sub, high⟩ →
    Gives (.counterLowRead i idx sub true) s fun d =>
      d.out = [.answer .ok high] ∧ KV.find (latchKey i idx) d.ctrLatch = none ∧ Only Foot.counterLowRead s.dev d) ∧
  (∀ (idx sub v : Nat), Gives (.counterLowWrite idx sub v) s fun d =>
      d.out = [.answer .ok 0] ∧ KV.find (idx * 256 + sub) d.ctrStage = some (v % 2 ^ 32) ∧ Only Foot.counterLowWrite s.dev d) ∧
  (∀ (idx sub v : Nat), (counterSat idx sub = none ∨ ∃ e b, counterSat idx sub = some (e, b) ∧ e.key ≠ idx * 256 + sub) →
    Gives (.counterHighWrite idx sub v) s fun d =>
      d.get ⟨idx, sub, 64, 0⟩ = clearBits 64 (s.dev.get ⟨idx, sub, 64, 0⟩) (v % 2 ^ 32 * 2 ^ 32 + KV.get 0 (idx * 256 + sub) s.dev.ctrStage) ∧ KV.find (idx * 256 + sub) d.ctrStage = none ∧ Only Foot.counterHighWrite s.dev d)

/-- ENABLE, DRAINING, the drain's end and its timeout move a unit as Table 2.8 says; FENCE waits and completes. In a running device, for every unit
that exists: a write of 1 to ENABLE, not refused by a lease, makes a DISABLED unit ENABLED; a write of 0 clears ENABLE of an ENABLED unit, which is
then DRAINING, or DISABLED at once where its drain timeout is 0; a DRAINING unit with nothing in flight becomes DISABLED; so does one whose drain
timeout has passed with work in flight. A FENCE that the context's hall writes, that passes the checks of R232 while no FENCE waits, sets BUSY and is
remembered with the sequence of the next posted write; once every earlier posted write is settled it completes with OK, REMOTE_TIMEOUT or
REMOTE_FAILED. -/
def Obligations.UnitLifeCommands : Prop :=
  ∀ s : State, Live s →
  (∀ (x : UnitId) (secure : Bool), x.valid = true → s.dev.unitLeased x secure = false → s.dev.unitState x = 0 →
    Gives (.unitEnable x secure) s fun d =>
      d.get (unitEnableEntry x) = 1 ∧ d.unitState x = 1 ∧ Out.answer .ok 0 ∈ d.out ∧ Only Foot.unitEnable s.dev d) ∧
  (∀ (x : UnitId) (secure : Bool), x.valid = true → s.dev.unitLeased x secure = false → s.dev.unitState x = 1 →
    Gives (.unitDisable x secure) s fun d =>
      d.get (unitEnableEntry x) = 0 ∧ (d.unitState x = 2 ∨ s.dev.get (unitDrainEntry x) = 0 ∧ d.unitState x = 0) ∧ Out.answer .ok 0 ∈ d.out ∧ Only Foot.unitDisable s.dev d) ∧
  (∀ (x : UnitId), x.valid = true → s.dev.unitState x = 2 → s.dev.unitQuiet x = true →
    Gives (.drainDone x) s fun d =>
      d.unitState x = 0 ∧ KV.find x.key d.drains = none ∧ Only Foot.drainDone s.dev d) ∧
  (∀ (x : UnitId), x.valid = true → s.dev.unitState x = 2 → s.dev.unitQuiet x = false → s.dev.drainStart x + s.dev.drainLimit x * 1000000 ≤ s.dev.time.raw →
    Gives (.drainTimeout x) s fun d =>
      d.unitState x = 0 ∧ KV.find x.key d.drains = none ∧ Only Foot.drainTimeout s.dev d) ∧
  (∀ (u k hall v : Nat), u < 4 → k < 64 → s.dev.get (Ent.Bctx.HALL (bctx u k)) = hall → s.dev.ctxCommand u k v true = .ok → s.dev.isSet (Rg.Ctx.BUSY u k) = false →
    Gives (.fence u k hall v) s fun d =>
      d.fld (Rg.Ctx.BUSY u k) = 1 ∧ (d.brCtx u k).fence = some (s.dev.fld (Rg.Ctx.PW_SEQ u k)) ∧ d.out = [.answer .ok 0] ∧ Only Foot.fence s.dev d) ∧
  (∀ (u k q : Nat), u < 4 → k < 64 → (s.dev.brCtx u k).fence = some q → ((((s.dev.brSess u k).sent ++ (s.dev.brSess u k).waiting).any fun r => (r.msg.op == 3 || r.msg.op == 8) && before 32 r.msg.tag q) = false) →
    Gives (.fenceComplete u k) s fun d =>
      (d.brCtx u k).fence = none ∧ (d.fld (Rg.Ctx.CODE u k) = (if (s.dev.brCtx u k).timedOut then Status.remoteTimeout else if (s.dev.brCtx u k).failed then .remoteFailed else .ok).code) ∧ d.fld (Rg.Ctx.BUSY u k) = 0 ∧ d.fld (Rg.Ctx.DONE u k) = 1 ∧ Only Foot.fenceComplete s.dev d)

/-- A memory transaction that passes the checks of Table 1.4 is performed whole and answered OK. In a running device, for a transaction to one of the
memories that, with the world and hall its initiator gives it, passes at its address (through the initiator's DRAM window where it uses one) the
checks of Table 1.4: a read answers the bytes there and changes no memory; a posted or non-posted write stores its data, leaves every byte outside
them, and answers OK; an atomic answers the old value and stores the function of R547 of it and the operand. A hart that the debug module may act on
and has halted reads and writes memory the same way; so does the debug module's bus master, for accesses of at most 8 bytes where the debug enable of
the region's world is active. -/
def Obligations.MemoryTransactions : Prop :=
  ∀ s : State, Live s →
  (∀ (t : Txn) (a : Nat), inMemory t.addr = true → t.kind = .read → s.dev.physical (s.dev.attributed t) = some a → s.dev.memCheck (s.dev.attributed t) a = .ok →
    Gives (.concourseTransaction t) s fun d =>
      d.out = [.answer .ok (ofLe (s.dev.readMem a t.size))] ∧ Only ⟨[.clk], [], []⟩ s.dev d) ∧
  (∀ (t : Txn) (a : Nat), inMemory t.addr = true → t.kind = .write ∨ t.kind = .posted → s.dev.physical (s.dev.attributed t) = some a → s.dev.memCheck (s.dev.attributed t) a = .ok →
    Gives (.concourseTransaction t) s fun d =>
      d.out = [.answer .ok 0] ∧ StoredAt a t.size (t.data % 2 ^ (8 * t.size)) s.dev d ∧ Only ⟨[.mem, .dma, .tenants, .clk], [], []⟩ s.dev d) ∧
  (∀ (t : Txn) (fn a : Nat), inMemory t.addr = true → t.kind = .atomic fn → issuesAtomics t.initiator = true → s.dev.physical (s.dev.attributed t) = some a → s.dev.memCheck (s.dev.attributed t) a = .ok →
    Gives (.atomicTransaction t) s fun d =>
      d.out = [.answer .ok (ofLe (s.dev.readMem a t.size))] ∧ StoredAt a t.size (amo fn (8 * t.size) (ofLe (s.dev.readMem a t.size)) (t.data % 2 ^ (8 * t.size))) s.dev d ∧ Only ⟨[.mem, .dma, .tenants, .clk], [], []⟩ s.dev d) ∧
  (∀ (k addr size a : Nat), inMemory addr = true → s.dev.mayAct k = true → (s.dev.hart k).halted = true → s.dev.physical (hartAccess s.dev k addr size none) = some a → s.dev.memCheck (hartAccess s.dev k addr size none) a = .ok →
    Gives (.accessMemory k addr size none) s fun d =>
      d.out = [.answer .ok (ofLe (s.dev.readMem a size))] ∧ Only ⟨[.clk], [], []⟩ s.dev d) ∧
  (∀ (k addr size v a : Nat), inMemory addr = true → s.dev.mayAct k = true → (s.dev.hart k).halted = true → s.dev.physical (hartAccess s.dev k addr size (some v)) = some a → s.dev.memCheck (hartAccess s.dev k addr size (some v)) a = .ok →
    Gives (.accessMemory k addr size (some v)) s fun d =>
      d.out = [.answer .ok 0] ∧ StoredAt a size (v % 2 ^ (8 * size)) s.dev d ∧ Only ⟨[.mem, .dma, .tenants, .clk], [], []⟩ s.dev d) ∧
  (∀ (addr size : Nat), inMemory addr = true → region addr ≠ some .dramWindow → size ≤ 8 → (bit s.dev.dbgActive (if s.dev.debugSecure addr then 3 else 1) = true) → s.dev.memCheck ⟨.debug, bit s.dev.dbgActive 3, 0, false, 0, .read, addr, size, 0⟩ addr = .ok →
    Gives (.systemBusAccess addr size none) s fun d =>
      d.out = [.answer .ok (ofLe (s.dev.readMem addr size))] ∧ Only ⟨[.clk], [], []⟩ s.dev d) ∧
  (∀ (addr size v : Nat), inMemory addr = true → region addr ≠ some .dramWindow → size ≤ 8 → (bit s.dev.dbgActive (if s.dev.debugSecure addr then 3 else 1) = true) → s.dev.memCheck ⟨.debug, bit s.dev.dbgActive 3, 0, false, 0, .write, addr, size, v⟩ addr = .ok →
    Gives (.systemBusAccess addr size (some v)) s fun d =>
      d.out = [.answer .ok 0] ∧ StoredAt addr size (v % 2 ^ (8 * size)) s.dev d ∧ Only ⟨[.mem, .dma, .tenants, .clk], [], []⟩ s.dev d)

/-- D0 executes the front request, groups apply and stores commit. In a running device, for a request of a hall's mailbox page at the front of D0's
queue that passes the checks of Table 3.2, while no bridge session is served: a read of an integer entry puts its value and length into the page and
completes it with OK; a write of an integer entry that is not staged, not leased and whose write does nothing else stores the value and completes with
OK, by the command for writes and by that for generic writes; a checked APPLY hands the shadow's values to the unit; a discard empties the shadow; a
store and a restore start and, committed, end. At the unit's boundary an applied class configuration's RES_MAX_MS takes its value and the group ends
with status OK. A shadow or a DOMAIN transfer left for 10 s is given up. A generic write to a storage or queue-pair page stores the word as its access
codes let it. -/
def Obligations.DictionaryExecutionCommands : Prop :=
  ∀ s : State, Live s →
  (∀ (q : QReq) (r : DictRow) (h n : Nat), MailboxRequest s.dev q h → q.req.write = false → s.dev.checkEntry (s.dev.asker q.origin) q.req = .ok r → q.req.shadow = false → r.ty.bytes = some n →
    Gives (.dictReadExec) s fun d =>
      MailboxDone h .ok d ∧ d.fld (Rg.Mb.MB_LEN h) = n ∧ d.mbBytes (Rg.Mb.MB_DATA h) n = s.dev.readValue (s.dev.asker q.origin) r q.req ∧ Only Foot.dictReadExec s.dev d) ∧
  (∀ (env : WriteEnv) (q : QReq) (r : DictRow) (h : Nat), MailboxRequest s.dev q h → q.req.write = true → PlainEntryWrite s.dev q r →
    Gives (.dictWriteExec env) s fun d =>
      d.get (r.entry q.req.index q.req.sub) = ofLe q.req.data ∧ MailboxDone h .ok d ∧ Only Foot.dictWriteExec s.dev d) ∧
  (∀ (q : QReq) (r : DictRow) (h : Nat), MailboxRequest s.dev q h → q.isGeneric = true → PlainEntryWrite s.dev q r →
    Gives (.dictWriteGeneric none) s fun d =>
      d.get (r.entry q.req.index q.req.sub) = ofLe q.req.data ∧ MailboxDone h .ok d ∧ Only Foot.dictWriteGeneric s.dev d) ∧
  (∀ (t : Txn) (p : Page) (off : Nat), region t.addr = some .units → pageOf t.addr = some (p, off) → ((∃ n, p = .storage n) ∨ (∃ n, p = .qp n)) → t.kind = .write ∨ t.kind = .posted → t.size = 4 → s.dev.pageCheck (s.dev.attributed t) p off = .ok →
    Gives (.dictWriteGeneric (some t)) s fun d =>
      d.out = [.answer .ok 0] ∧ d.regs = (s.dev.plainWrite p off t.addr (t.data % 2 ^ 32) (2 ^ 32 - 1)).regs ∧ Only Foot.dictWriteGeneric s.dev d) ∧
  (∀ (q : QReq) (r : DictRow) (h : Nat) (sh : Shadow), MailboxRequest s.dev q h → q.isApply 1 = true → PassesChecks s.dev q r → KV.find q.req.index s.dev.d0.applying = none → KV.find q.req.index s.dev.d0.shadows = some sh → sh.owner = (s.dev.asker q.origin).owner → sh.values ≠ [] → (s.dev.groupState (s.dev.withValues sh.values sh.blobs) q.req.index ((sh.values.map fun e => e.1 % 256) ++ sh.blobs.map fun e => e.1 % 256) (s.dev.asker q.origin).secure = .ok) → groupFault s.dev (s.dev.withValues sh.values sh.blobs) q.req.index = none → s.dev.allocs q.req.index = [] →
    Gives (.apply) s fun d =>
      KV.find q.req.index d.d0.applying = some ⟨q.origin, sh.owner, sh.values, sh.blobs⟩ ∧ Only Foot.apply s.dev d) ∧
  (∀ (q : QReq) (r : DictRow) (h : Nat), MailboxRequest s.dev q h → q.isApply 2 = true → PassesChecks s.dev q r → KV.find q.req.index s.dev.d0.applying = none → (((KV.find q.req.index s.dev.d0.shadows).any fun x => x.owner != (s.dev.asker q.origin).owner) = false) →
    Gives (.applyDiscard) s fun d =>
      KV.find q.req.index d.d0.shadows = none ∧ MailboxDone h .ok d ∧ Only Foot.applyDiscard s.dev d) ∧
  (∀ (i c h v : Nat) (x : Applying), i = 0x3402 + c → c < 9 → KV.find i s.dev.d0.applying = some x → x.origin.path = .mailbox h → x.origin.session = 0 → s.dev.tenants.mute.contains h = false → s.dev.br.serve = [] → x.values = [(i * 256 + 2, v)] → v < 65536 →
    Gives (.applyTakeEffect i) s fun d =>
      d.get (Ent.Cls.RES_MAX_MS c) = v ∧ d.get (applyStatus i) = 0 ∧ KV.find i d.d0.applying = none ∧ MailboxDone h .ok d ∧ Only Foot.applyTakeEffect s.dev d) ∧
  (∀ (i : Nat) (x : Shadow), KV.find i s.dev.d0.shadows = some x → s.dev.passed x.since 10000000000 = true → KV.find i s.dev.d0.applying = none →
    Gives (.shadowTimeout i) s fun d =>
      KV.find i d.d0.shadows = none ∧ ((∀ j ≠ i, KV.find j d.d0.shadows = KV.find j s.dev.d0.shadows)) ∧ Only Foot.shadowTimeout s.dev d) ∧
  (∀ (i sub : Nat) (x : Transfer), KV.find (i * 256 + sub) s.dev.d0.transfers = some x → s.dev.passed x.since 10000000000 = true →
    Gives (.domainTransferTimeout i sub) s fun d =>
      KV.find (i * 256 + sub) d.d0.transfers = none ∧ Only Foot.domainTransferTimeout s.dev d) ∧
  (∀ (q : QReq) (r : DictRow) (h : Nat), MailboxRequest s.dev q h → q.isStore 0x1010 = true → PassesChecks s.dev q r →
    Gives (.storeParameters) s fun d =>
      d.d0.store = some ⟨false, q.req.sub, q.origin⟩ ∧ Only Foot.storeParameters s.dev d) ∧
  (∀ (q : QReq) (r : DictRow) (h : Nat), MailboxRequest s.dev q h → q.isStore 0x1011 = true → PassesChecks s.dev q r →
    Gives (.restoreDefaults) s fun d =>
      d.d0.store = some ⟨true, q.req.sub, q.origin⟩ ∧ Only Foot.restoreDefaults s.dev d) ∧
  (∀ (j : StoreJob) (h : Nat), s.dev.d0.store = some j → j.origin.path = .mailbox h → j.origin.session = 0 → s.dev.tenants.mute.contains h = false → s.dev.br.serve = [] →
    Gives (.storeCommit) s fun d =>
      d.d0.store = none ∧ ((j.restore = true → d.d0.marks.contains j.cls = true)) ∧ ((j.restore = false → ∀ k v, (k, v) ∈ s.dev.dict → inClass j.cls k = true → KV.sorted s.dev.dict = true → KV.find k d.d0.stored = some v)) ∧ MailboxDone h .ok d ∧ Only Foot.storeCommit s.dev d)

/-- Requests of the dictionary protocol, of mailbox pages and for addresses complete. In a running device whose references stand, for datagrams
addressed to it: an OPEN under an enabled binding with the right tag, while the binding and the device have a session left, opens a session of that
binding and answers it; a READ or WRITE of an open session that opens under its key, is the next in order and finds room in the path's queue is queued
for D0; a NOP, when nothing of the session is queued before it, is answered with OK; a CLOSE then closes the session, and so does its idle timeout. GO
with a READ or WRITE in a mailbox page that is not BUSY sets BUSY and queues the request. A request for one of the device's addresses is answered with
its MAC address. -/
def Obligations.NetworkDictionaryPath : Prop :=
  ∀ s : State, Live s →
  (∀ (m : NdpMsg) (b : Nat) (k : Bytes), m.op = 1 → s.dev.ndpFits m = true → m.version = 1 → m.node = s.dev.board.nodeId → s.dev.d0.running = true → s.dev.flag Ent.Clk.REF_LOSS = false → b = leAt m.payload 0 1 → b < 16 → m.payload.length = 20 → s.dev.flag (Ent.Bind.ENABLE b) = true → s.dev.hmacKey (s.dev.get (Ent.Bind.KEY_SLOT b)) = some k → (hmacSha256 k (m.header ++ m.payload)).take 16 = m.tag → ((s.dev.d0.sessions.filter fun x => x.2.binding == b).length < s.dev.get (Ent.Bind.MAX_SESSIONS b)) → s.dev.d0.sessions.length < 64 →
    Gives (.ndpOpen m) s fun d =>
      ((∃ id key w, KV.find id d.d0.sessions = some ⟨b, s.dev.get (Ent.Bind.KEY_SLOT b), key, 0, [], [], s.dev.time.raw, false⟩ ∧ d.out = [.dict .udp id 0 m.net .ok w])) ∧ Only Foot.ndpOpen s.dev d) ∧
  (∀ (m : NdpMsg) (x : Session) (p : Bytes) (q : DictReq), m.op = 3 → NextInSession s.dev m x p → ndpRequest 3 m.flags m.epoch p = .dict q → s.dev.pathCount .udp < 16 →
    Gives (.ndpRead m) s fun d =>
      (⟨q, ⟨.udp, m.session, m.seq, m.net⟩, false⟩ ∈ d.d0.queue) ∧ Only Foot.ndpRead s.dev d) ∧
  (∀ (m : NdpMsg) (x : Session) (p : Bytes) (q : DictReq), m.op = 4 → NextInSession s.dev m x p → ndpRequest 4 m.flags m.epoch p = .dict q → s.dev.pathCount .udp < 16 →
    Gives (.ndpWrite m) s fun d =>
      (⟨q, ⟨.udp, m.session, m.seq, m.net⟩, false⟩ ∈ d.d0.queue) ∧ Only Foot.ndpWrite s.dev d) ∧
  (∀ (m : NdpMsg) (x : Session) (p : Bytes), m.op = 5 → NextInSession s.dev m x p → s.dev.ndpQueued m.session = 0 → s.dev.pathCount .udp < 16 →
    Gives (.ndpNop m) s fun d =>
      ((∃ w, Out.dict .udp m.session m.seq m.net .ok w ∈ d.out)) ∧ Only Foot.ndpNop s.dev d) ∧
  (∀ (m : NdpMsg) (x : Session) (p : Bytes), m.op = 2 → NextInSession s.dev m x p → ((s.dev.d0.queue.any fun q => q.origin.path == .udp && q.origin.session == m.session) = false) → s.dev.pathCount .udp < 16 →
    Gives (.ndpClose m) s fun d =>
      KV.find m.session d.d0.sessions = none ∧ ((∃ w, Out.dict .udp m.session m.seq m.net .ok w ∈ d.out)) ∧ Only Foot.ndpClose s.dev d) ∧
  (∀ (id : Nat), s.dev.sessionIdle id = true →
    Gives (.sessionIdleTimeout id) s fun d =>
      KV.find id d.d0.sessions = none ∧ Only Foot.sessionIdleTimeout s.dev d) ∧
  (∀ (p : Path) (v a : Nat), mbBase p = some a → bit v 31 = true → s.dev.fld ⟨a + 0x18, 30, 30, 0⟩ = 0 → bits (s.dev.word a 0) 31 24 = 3 ∨ bits (s.dev.word a 0) 31 24 = 4 → s.dev.pathCount p < 16 →
    Gives (.mbGo p v) s fun d =>
      d.fld ⟨a + 0x18, 30, 30, 0⟩ = 1 ∧ ((∃ q : DictReq, d.d0.queue = s.dev.d0.queue ++ [⟨q, ⟨p, 0, 0, []⟩, false⟩] ∧ q.write = (bits (s.dev.word a 0) 31 24 == 4) ∧ q.index = bits (s.dev.word a 0) 15 0 ∧ q.sub = bits (s.dev.word a 0) 23 16)) ∧ Only Foot.mbGo s.dev d) ∧
  (∀ (v6 : Bool) (target mac vlan ip : Nat), s.dev.d0.running = true → s.dev.flag Ent.Clk.REF_LOSS = false → target ≠ 0 → (target = if v6 then ofBe (s.dev.oct Ent.Ndp.IPV6_ADDR) else s.dev.get Ent.Ndp.IPV4_ADDR) →
    Gives (.arpRequest v6 target mac vlan ip) s fun d =>
      (d.out = [.send (if v6 then "NA" else "ARP") vlan mac (be 6 s.dev.board.deviceMac ++ (if v6 then be 16 target ++ be 16 ip else be 4 target ++ be 4 ip))]) ∧ Only Foot.arpRequest s.dev d)

/-- Frames of the service port and dictionary requests of the partner reach D0 or are answered. On a device with supply, out of chip reset: a
WRITE_FRAME with a valid frame of a request that has not been answered before is, in a running device with no sleep entry, queued for D0; in STANDBY
or SLEEP a read of an entry that the vestibule serves is answered by it with OK and the entry's value. A READ_FRAME answers the whole response and,
clocked out whole, frees it; READ_STATUS answers the status byte of Table 19.11. In a running device a dictionary request of the partner that is new
and finds room is queued for D0. -/
def Obligations.ServicePortAndGalleryPath : Prop :=
  ∀ s : State,
  (∀ (len op seq : Nat) (b : Bytes) (env : WakeEnv) (q : DictReq), s.dev.power.phase = .running → s.dev.entering = false → s.dev.power.sp.rxFree = true → 24 ≤ len → len ≤ 1064 → b.length = len → leAt b (len - 4) 4 = crc32 (b.take (len - 4)) → leAt b 0 1 = 1 → frameRequest (b.take (len - 4)) = (op, seq, .dict q) → s.dev.d0.spCache = none → s.dev.pathCount .servicePort < 16 →
    Gives (.spWriteFrame len b env) s fun d =>
      d.d0.queue = s.dev.d0.queue ++ [⟨q, ⟨.servicePort, 0, seq, []⟩, false⟩] ∧ d.power.sp.busy = true ∧ d.power.sp.rxFree = false ∧ Only ⟨[.power, .d0], [], []⟩ s.dev d) ∧
  (∀ (len op seq t : Nat) (b : Bytes) (env : WakeEnv) (q : DictReq) (r : DictRow), s.dev.power.phase = .asleep t → s.dev.power.sp.rxFree = true → 24 ≤ len → len ≤ 1064 → b.length = len → leAt b (len - 4) 4 = crc32 (b.take (len - 4)) → leAt b 0 1 = 1 → frameRequest (b.take (len - 4)) = (op, seq, .dict q) → s.dev.d0.spCache = none → q.write = false → ((rowOf q.index q.sub).any (fun r => r.notes.contains .vestibule) = true) → s.dev.checkEntry ⟨0, false, (Path.servicePort.id, 0)⟩ q = .ok r →
    Gives (.spWriteFrame len b env) s fun d =>
      d.power.sp.response = some (s.dev.spFrame op seq .ok (descriptorOf r q (s.dev.entryBytes r q.index q.sub).length ++ s.dev.entryBytes r q.index q.sub)) ∧ d.power.sp.busy = false ∧ Only ⟨[.power, .d0], [], []⟩ s.dev d) ∧
  (∀ (whole : Bool) (w : Bytes), s.dev.power.phase = .running ∨ s.dev.power.phase = .asleep 2 ∨ s.dev.power.phase = .asleep 3 → s.dev.power.sp.response = some w →
    Gives (.spReadFrame whole) s fun d =>
      d.out = [.bytes .ok w.length w] ∧ (d.power.sp.response = if whole then none else some w) ∧ Only Foot.spReadFrame s.dev d) ∧
  (s.dev.power.phase = .running →
    Gives (.spReadStatus) s fun d =>
      (d.out = [.answer .ok ((if s.dev.entering then 16 else 0) + b2n s.dev.power.sp.frameErr * 8 + b2n s.dev.power.sp.rxFree * 2 + b2n s.dev.power.sp.response.isSome)]) ∧ Only ⟨[], [], []⟩ s.dev d) ∧
  (∀ (b : Bytes) (op seq : Nat) (q : DictReq), s.dev.power.phase = .running → s.dev.d0.running = true → s.dev.flag Ent.Clk.REF_LOSS = false → 20 ≤ b.length → leAt b 0 1 = 1 → bit (leAt b 2 2) 0 = false → frameRequest b = (op, seq, .dict q) → ((s.dev.d0.galCache.filter fun x => x.1 == seq) = none) → ((s.dev.d0.queue.any fun q => q.origin.path == .gallery && q.origin.seq == seq) = false) → s.dev.pathCount .gallery < 16 →
    Gives (.galleryDictRequest b) s fun d =>
      d.d0.queue = s.dev.d0.queue ++ [⟨q, ⟨.gallery, 0, seq, []⟩, false⟩] ∧ Only Foot.galleryDictRequest s.dev d)

/-- A frame is received, classified, landed, spilled, refilled, sent and flushed as the switch core's rules say. In a running device: a frame with a
valid FCS and length that arrives at a port whose link is up is recorded with the class and destinations that Table 5.5 decides; when its last cell
lands it is received no more and RX_FRAMES counts it; the first staged copy of a queue whose stairwell write completes enters STAIRWELL without
landing cells; a queue's next copy whose refill may start enters REFILL with cells of its own; a refilled copy read without error within its residence
limit enters LANDED; an idle port whose selection picks a copy puts it into TX; a copy in TX whose frame has landed well leaves the queue and the port
puts the frame out; FLUSH leaves only copies in TX, or in a refill that ends in a drop, and clears the latch. -/
def Obligations.SwitchCoreCommands : Prop :=
  ∀ s : State, Live s →
  (∀ (p len landed : Nat) (f : Frame) (dec : Decision), p < 54 → KV.find p s.dev.sw.rx = none → (s.dev.sw.link p).up = true → 64 ≤ len → len ≤ s.dev.get (Ent.Pcfg.MAX_FRAME p) → cellsOf len ≤ s.dev.get (Ent.Pbuf.ING_RES p) → (s.dev.fresh.classify p len f).1 = some dec →
    Gives (.frameClassify p f len true landed) s fun d =>
      ((KV.find p d.sw.rx).map (fun r => (r.len, r.fcs, r.cls, r.dests)) = some (len, true, dec.cls, dec.dests)) ∧ Only Foot.frameClassify s.dev d) ∧
  (∀ (p : Nat) (rx : Rx), p < 54 → KV.find p s.dev.sw.rx = some rx → rx.cuts = [] → rx.store = none → rx.cls < 9 → ((rx.dests.all fun x => decide (x.port < 54)) = true) →
    Gives (.frameLanded p) s fun d =>
      KV.find p d.sw.rx = none ∧ d.get (rxFrames p).entry = min (s.dev.get (rxFrames p).entry + 1) (2 ^ 64 - 1) ∧ d.get (rxBytes p).entry = min (s.dev.get (rxBytes p).entry + rx.len) (2 ^ 64 - 1) ∧ Only Foot.frameLanded s.dev d) ∧
  (∀ (p c : Nat) (x : Copy), ((s.dev.sw.queue p c).copies.find? (fun x => x.state == .staged) = some x) →
    Gives (.stwWriteComplete p c) s fun d =>
      ((d.sw.queue p c).copies = (s.dev.sw.queue p c).copies.map fun y => if y = x then { y with state := .stairwell, store := none } else y) ∧ Only Foot.stwWriteComplete s.dev d) ∧
  (∀ (p c r m : Nat) (x : Copy), s.dev.refillNext p c = some (x, r, m) →
    Gives (.refillStart p c) s fun d =>
      ((d.sw.queue p c).copies = (s.dev.sw.queue p c).copies.map fun y => if y = x then { y with state := .refill, store := some s.dev.sw.nextStore, r := r, s := m } else y) ∧ KV.find s.dev.sw.nextStore d.sw.stores = some ⟨x.n, 1, true, false⟩ ∧ Only Foot.refillStart s.dev d) ∧
  (∀ (p c : Nat) (x : Copy), ((s.dev.sw.queue p c).copies.find? (fun x => x.state == .refill) = some x) → x.doomed = none → s.dev.expired p c x = false →
    Gives (.refillComplete p c none) s fun d =>
      ((d.sw.queue p c).copies = (s.dev.sw.queue p c).copies.map fun y => if y = x then { y with state := .landed } else y) ∧ Only Foot.refillComplete s.dev d) ∧
  (∀ (p c : Nat) (x : Copy), s.dev.sw.txOf p = none → (s.dev.sw.link p).up = true → s.dev.get (Ent.Port.STATE p) ≠ 0 → s.dev.pickCopy p [8, 7, 6, 5, 4, 3, 2, 1, 0] = .start c x →
    Gives (.txSelect p) s fun d =>
      ((d.sw.queue p c).copies = (s.dev.sw.queue p c).copies.map fun y => if y == x then { y with state := .tx, r := 0, s := 0 } else y) ∧ Only Foot.txSelect s.dev d) ∧
  (∀ (p c k col : Nat) (x : Copy) (st : Stored), p < 54 → s.dev.sw.txOf p = some (c, x) → x.store = some k → KV.find k s.dev.sw.stores = some st → st.whole = true → st.bad = false → p < 48 ∨ 52 ≤ p ∨ x.handed = true ∨ s.dev.unitOfHost p x.frame ≠ none →
    Gives (.copySent p false col) s fun d =>
      ((d.sw.queue p c).copies = (s.dev.sw.queue p c).copies.filter fun y => y ≠ x) ∧ (Out.frame p x.frame false ∈ d.out) ∧ d.get (txFrames p).entry = min (s.dev.get (txFrames p).entry + 1) (2 ^ 64 - 1) ∧ Only Foot.copySent s.dev d) ∧
  (∀ (p c : Nat), Gives (.queueFlush p c) s fun d =>
      (d.sw.queue p c).latched = false ∧ (((d.sw.queue p c).copies.all fun x => x.state == .tx || x.state == .refill && x.doomed.isSome) = true) ∧ Only Foot.queueFlush s.dev d)

/-- Table commands, link changes and gate schedules complete. In a running device: FDB_FLUSH removes the learned entries of one port, or all; aging
removes one that was not refreshed for AGING_S; STREAM_UNBLOCK, STREAM_CLEAR and the recovery reset act on one stream, or the first two on all; a port
whose link conditions hold starts to qualify, and a qualified one reports link-up and is held no more; a link-down takes the link down; a hold that
ends flushes the port's learned entries; 1 ms after a MODE change XTXDIS falls in an ENABLED port; the end of a gate interval brings the next entry
or, in a cycle that is not extended, the first one of the next cycle; a pending list becomes operational at its change time. -/
def Obligations.ForwardingAndPortCommands : Prop :=
  ∀ s : State, Live s →
  (∀ (v : Nat), Gives (.fdbFlush v) s fun d =>
      (d.sw = { s.dev.sw with fdb := s.dev.sw.fdb.filter fun e => !(v == 0xFF || e.port == v) }) ∧ Only Foot.fdbFlush s.dev d) ∧
  (∀ (mac vid : Nat), Gives (.fdbAging mac vid) s fun d =>
      (d.sw = { s.dev.sw with fdb := s.dev.sw.fdb.filter fun e => !(e.mac == mac && e.vid == vid && s.dev.passed e.seen (s.dev.get Ent.Fwd.AGING_S * 1000000000)) }) ∧ Only Foot.fdbAging s.dev d) ∧
  (∀ (n k : Nat), n = k ∨ n = 0xFFFF →
    Gives (.streamUnblock n) s fun d =>
      d.sw.stream k = { s.dev.sw.stream k with blocked := false } ∧ Only Foot.streamUnblock s.dev d) ∧
  (∀ (n k : Nat), n = k ∨ n = 0xFFFF →
    Gives (.streamClear n) s fun d =>
      d.sw.stream k = { s.dev.sw.stream k with counts := [0, 0, 0, 0, 0, 0, 0], sat := 0 } ∧ Only Foot.streamClear s.dev d) ∧
  (∀ (n : Nat), Gives (.recoveryResetTimeout n) s fun d =>
      d.sw.stream n = { s.dev.sw.stream n with recov := none } ∧ Only Foot.recoveryResetTimeout s.dev d) ∧
  (∀ (p : Nat), p < 54 → s.dev.linkAllowed p = true → (s.dev.sw.link p).up = false →
    Gives (.linkQualifyStart p) s fun d =>
      d.sw.link p = { s.dev.sw.link p with qualifying := true } ∧ Only Foot.linkQualifyStart s.dev d) ∧
  (∀ (p : Nat), (s.dev.sw.link p).qualifying = true → (s.dev.sw.link p).up = false → s.dev.linkAllowed p = true →
    Gives (.linkUp p) s fun d =>
      d.sw.link p = { s.dev.sw.link p with up := true, qualifying := false, held := false } ∧ Only Foot.linkUp s.dev d) ∧
  (∀ (p pins : Nat), p < 54 → (s.dev.sw.link p).up = true →
    Gives (.linkDown p pins) s fun d =>
      (d.sw.link p).up = false ∧ (d.sw.link p).qualifying = false ∧ Only Foot.linkDown s.dev d) ∧
  (∀ (p : Nat), (s.dev.sw.link p).held = true →
    Gives (.holdExpiry p) s fun d =>
      (d.sw.link p).held = false ∧ ((d.sw.fdb.all fun e => e.port != p) = true) ∧ Only Foot.holdExpiry s.dev d) ∧
  (∀ (p : Nat), 40 ≤ p → p ≤ 47 → (s.dev.sw.link p).modeWait = true →
    Gives (.xtxdisRelease p) s fun d =>
      d.sw.link p = { s.dev.sw.link p with modeWait := false } ∧ d.out = [.line "XTXDIS" (p - 40) (s.dev.get (Ent.Port.STATE p) == 0)] ∧ Only Foot.xtxdisRelease s.dev d) ∧
  (∀ (p : Nat) (l : GateList), (s.dev.sw.sched p).oper = some l → (s.dev.sw.sched p).pending = none →
    Gives (.gateIntervalEnd p) s fun d =>
      (d.sw.sched p = match l.steps[(s.dev.sw.sched p).pos + 1]? with | some (g, _) => { s.dev.sw.sched p with pos := (s.dev.sw.sched p).pos + 1, gates := g } | none => { s.dev.sw.sched p with pos := 0, start := (s.dev.sw.sched p).start + l.cycle, gates := ((l.steps[0]?).map (·.1)).getD (s.dev.sw.sched p).gates }) ∧ Only Foot.gateIntervalEnd s.dev d) ∧
  (∀ (p : Nat) (m : GateList), (s.dev.sw.sched p).pending = some m →
    Gives (.gclChange p) s fun d =>
      d.sw.sched p = { s.dev.sw.sched p with oper := some m, pending := none, pos := 0, start := m.ct, changeNs := m.ct, gates := ((m.steps[0]?).map (·.1)).getD 0xFF } ∧ Only Foot.gclChange s.dev d)

/-- Snapshots, adjustments, captures, PTP messages and quality timeouts of the timebase complete. In a running device: a read of SNAP_RAW_LO latches
one consistent snapshot for its initiator; GO of hall 0 with no adjustment pending makes its parts pending; at one tick all parts are taken together,
a rate folding the old rate into OFFSET, a step then moving OFFSET and counting TGEN, a quality being set, and nothing pends any more; SET_TIME in
PROFILE 4 steps to the time written; an edge on an enabled pin is stamped into a FIFO of 4 and a read pops the oldest; an Announce, a peer delay and a
two-step peer request are taken; a Sync leaves with its transmit stamp; SYNC_TIMEOUT without a Sync gives HOLDOVER, and HOLDOVER_S of it
UNSYNCHRONIZED. -/
def Obligations.TimebaseCommands : Prop :=
  ∀ s : State, Live s →
  (∀ (i : Initiator), Gives (.snapCapture i) s fun d =>
      d.out = [.answer .ok (s.dev.time.raw % 2 ^ 32)] ∧ KV.find i.id d.time.latches = some ⟨s.dev.time.raw, s.dev.time.corrected256 s.dev.time.raw 0 / 256, s.dev.time.corrected256 s.dev.time.raw 0 % 256, s.dev.time.tgen, s.dev.time.quality, s.dev.time.offset, s.dev.time.rate, s.dev.time.rateEpoch⟩ ∧ Only Foot.snapCapture s.dev d) ∧
  (∀ (v : Nat), s.dev.time.pending = none → bit v 31 = true →
    Gives (.adjGo 0 v) s fun d =>
      (d.time.pending = Adjust.rest { rate := if bit v 0 then some (toInt 32 (s.dev.fld Rg.Tb.ADJ_RATE)) else none, step := if bit v 1 then some (toInt 64 (s.dev.fld Rg.Tb.ADJ_STEP_LO + s.dev.fld Rg.Tb.ADJ_STEP_HI * 2 ^ 32)) else none, quality := if bit v 6 then some (bits v 5 4) else none }) ∧ d.out = [.answer .ok 0] ∧ Only Foot.adjGo s.dev d) ∧
  (∀ (a : Adjust), s.dev.time.pending = some a → a.rate.isSome = true → ((a.quality.all fun q => decide (q < 4)) = true) →
    Gives (.timeRateChange) s fun d =>
      d.time.rate = a.rate.elim s.dev.time.rate (ofInt 32) ∧ (d.time.rateEpoch = a.rate.elim s.dev.time.rateEpoch fun _ => s.dev.time.raw) ∧ (d.time.offset = a.step.elim (foldedOffset s.dev.time a.rate) fun x => ofInt 64 ((foldedOffset s.dev.time a.rate : Int) + x)) ∧ (d.time.tgen = a.step.elim s.dev.time.tgen fun _ => (s.dev.time.tgen + 1) % 256) ∧ d.time.quality = a.quality.getD s.dev.time.quality ∧ d.time.pending = none ∧ Only Foot.timeRateChange s.dev d) ∧
  (∀ (a : Adjust), s.dev.time.pending = some a → a.step.isSome = true → ((a.quality.all fun q => decide (q < 4)) = true) →
    Gives (.timeStep) s fun d =>
      d.time.rate = a.rate.elim s.dev.time.rate (ofInt 32) ∧ (d.time.rateEpoch = a.rate.elim s.dev.time.rateEpoch fun _ => s.dev.time.raw) ∧ (d.time.offset = a.step.elim (foldedOffset s.dev.time a.rate) fun x => ofInt 64 ((foldedOffset s.dev.time a.rate : Int) + x)) ∧ (d.time.tgen = a.step.elim s.dev.time.tgen fun _ => (s.dev.time.tgen + 1) % 256) ∧ d.time.quality = a.quality.getD s.dev.time.quality ∧ d.time.pending = none ∧ Only Foot.timeStep s.dev d) ∧
  (∀ (a : Adjust), s.dev.time.pending = some a → a.quality.isSome = true → ((a.quality.all fun q => decide (q < 4)) = true) →
    Gives (.qualitySet) s fun d =>
      d.time.rate = a.rate.elim s.dev.time.rate (ofInt 32) ∧ (d.time.rateEpoch = a.rate.elim s.dev.time.rateEpoch fun _ => s.dev.time.raw) ∧ (d.time.offset = a.step.elim (foldedOffset s.dev.time a.rate) fun x => ofInt 64 ((foldedOffset s.dev.time a.rate : Int) + x)) ∧ (d.time.tgen = a.step.elim s.dev.time.tgen fun _ => (s.dev.time.tgen + 1) % 256) ∧ d.time.quality = a.quality.getD s.dev.time.quality ∧ d.time.pending = none ∧ Only Foot.qualitySet s.dev d) ∧
  (∀ (v : Nat), s.dev.get Ent.Prof.PROFILE = 4 →
    Gives (.setTime v) s fun d =>
      d.time.offset = ofInt 64 ((s.dev.time.offset : Int) + toInt 64 (ofInt 64 ((v : Int) - s.dev.now))) ∧ d.time.tgen = (s.dev.time.tgen + 1) % 256 ∧ (Out.answer .ok 0 ∈ d.out) ∧ Only Foot.setTime s.dev d) ∧
  (∀ (n phase : Nat) (rising : Bool), s.dev.get (Ent.Trgp.DIR n) = 0 → (bit (s.dev.get (Ent.Trgp.EDGE n)) (if rising then 0 else 1) = true) → (KV.get [] n s.dev.time.captures).length < 4 →
    Gives (.trigEdgeCapture n rising phase) s fun d =>
      KV.get [] n d.time.captures = KV.get [] n s.dev.time.captures ++ [⟨s.dev.time.corrected256 s.dev.time.raw phase / 256 % 2 ^ 32, s.dev.time.corrected256 s.dev.time.raw phase % 256, s.dev.time.tgen, rising⟩] ∧ Only Foot.trigEdgeCapture s.dev d) ∧
  (∀ (n : Nat) (c : Capture) (r : List Capture), KV.get [] n s.dev.time.captures = c :: r →
    Gives (.capturePop n) s fun d =>
      d.out = [.answer .ok c.time] ∧ KV.get [] n d.time.captures = r ∧ Only Foot.capturePop s.dev d) ∧
  (∀ (p dom gm st : Nat) (self : Bool), s.dev.ptpOn p = true → dom = s.dev.get Ent.Prof.DOMAIN → s.dev.ptpPortState p st < 256 →
    Gives (.ptpMessageReceive p dom (.announce gm st self)) s fun d =>
      d.get (Ent.Ptime.PORT_STATE p) = s.dev.ptpPortState p st ∧ d.time.grandmaster = (self && !s.dev.flag Ent.Prof.SLAVE_ONLY) ∧ Only Foot.ptpMessageReceive s.dev d) ∧
  (∀ (p dom t1 t2 t3 : Nat) (corr : Int) (rx : FrameStamp), s.dev.ptpOn p = true → s.dev.peerDelay p = true → dom = s.dev.get Ent.Prof.DOMAIN → KV.find (2 * p) s.dev.time.sent = some t1 →
    Gives (.ptpMessageReceive p dom (.pdelayResp t2 t3 corr rx)) s fun d =>
      d.get (Ent.Ptime.MEAN_LINK_DELAY p) = min ((stampDiff (s.dev.rxStampAt p rx) t1 - ((t3 : Int) - t2) * 256 - corr / 256) / 2).toNat (2 ^ 32 - 1) ∧ Only Foot.ptpMessageReceive s.dev d) ∧
  (∀ (p phase latency : Nat), s.dev.ptpOn p = true → s.dev.flag Ent.Prof.ONE_STEP = true →
    Gives (.ptpMessageSend p .syncOrigin phase latency) s fun d =>
      d.time.ptpSeq = (s.dev.time.ptpSeq + 1) % 65536 ∧ d.out = [.send "Sync" p 0 (s.dev.ptpWire p .sync s.dev.time.ptpSeq false 0 (stampBytes (s.dev.txStampAt p ⟨s.dev.time.raw, phase, latency⟩)))] ∧ Only Foot.ptpMessageSend s.dev d) ∧
  (s.dev.time.quality = 2 → s.dev.time.grandmaster = false → s.dev.syncLost = true →
    Gives (.syncTimeout) s fun d =>
      d.time.quality = 3 ∧ d.time.holdoverAt = some s.dev.time.raw ∧ Only Foot.syncTimeout s.dev d) ∧
  (s.dev.time.quality = 3 → ((s.dev.time.holdoverAt.all fun t => s.dev.passed t (s.dev.get Ent.Prof.HOLDOVER_S * 1000000000)) = true) →
    Gives (.holdoverTimeout) s fun d =>
      d.time.quality = 0 ∧ Only Foot.holdoverTimeout s.dev d)

/-- A trigger unit fires for its instant and re-arms; a pin's pulse ends. In a running device: an enabled unit of software whose next instant is not
after the corrected time, whose target is no scan task, with a period and no count limit, fires: FIRED counts it and the next instant is the first one
of its period after now; a pulse of a trigger pin whose end is reached takes its pin to the level that is no pulse. -/
def Obligations.TriggerCommands : Prop :=
  ∀ s : State, Live s →
  (∀ (u : Nat), u < 32 → s.dev.flag (Ent.Trgu.ENABLE u) = true → s.dev.get (Ent.Trgu.OWNER u) = 0 → s.dev.get (Ent.Trgu.TARGET u) / 4096 ≠ 1 → s.dev.get (Ent.Trgu.COUNT u) = 0 → s.dev.get (Ent.Trgu.PERIOD_NS u) ≠ 0 → ofInt 64 ((s.dev.now : Int) - s.dev.get (Ent.Trgu.NEXT_NS u)) < 2 ^ 63 →
    Gives (.triggerFire u) s fun d =>
      d.get (Ent.Trgu.FIRED u) = min (s.dev.get (Ent.Trgu.FIRED u) + 1) (2 ^ 64 - 1) ∧ d.get (Ent.Trgu.NEXT_NS u) = (s.dev.get (Ent.Trgu.NEXT_NS u) + (ofInt 64 ((s.dev.now : Int) - s.dev.get (Ent.Trgu.NEXT_NS u)) / s.dev.get (Ent.Trgu.PERIOD_NS u) + 1) * s.dev.get (Ent.Trgu.PERIOD_NS u)) % 2 ^ 64 ∧ Only Foot.triggerFire s.dev d) ∧
  (∀ (n x : Nat), KV.find n s.dev.time.pulses = some x → x ≤ s.dev.time.raw →
    Gives (.triggerPulseEnd n) s fun d =>
      KV.find n d.time.pulses = none ∧ d.out = [.line "TRIG" n (s.dev.flag (Ent.Trgp.POLARITY n))] ∧ Only Foot.triggerPulseEnd s.dev d)

/-- CAN transmit buffers and fault confinement complete. In a running device: SEND to a buffer that is not pending and passes R169 makes it pending
with DONE, CODE and ATTEMPTS 0, SEND to a pending one sets OVERRUN; ABORT of a pending buffer not on the bus completes it with ABORTED and REASON 7;
the pending buffer that TX_ORDER picks starts when the bus allows and no service frame goes before it; a lost arbitration completes a ONESHOT buffer
with REASON 1 and leaves another one pending; a frame sent completes its buffer with OK and its stamp; an error notes LEC and raises the counters by
ISO 11898-1's steps; RESTART starts the recovery of a bus-off channel, and its end clears the counters; integration ends in error-active or error-
passive; a dominant time-out releases the bus. -/
def Obligations.CanTransmission : Prop :=
  ∀ s : State, Live s →
  (∀ (n k v : Nat), s.dev.isSet (Rg.Txb.PENDING n k) = false → bit v 30 = false → (((s.dev.setFld (Rg.Txb.ONESHOT n k) (bits v 29 29)).setFld (Rg.Txb.EPV n k) (bits v 28 28)).setFld (Rg.Txb.EPOCH n k) (bits v 15 0)).sendCheck n k = .ok →
    Gives (.canSend n k v) s fun d =>
      d.fld (Rg.Txb.PENDING n k) = 1 ∧ d.fld (Rg.Txb.DONE n k) = 0 ∧ d.fld (Rg.Txb.CODE n k) = 0 ∧ d.fld (Rg.Txb.ATTEMPTS n k) = 0 ∧ d.fld (Rg.Txb.ONESHOT n k) = bits v 29 29 ∧ d.out = [.answer .ok 0] ∧ WordsBut [(Rg.Txb.SEND n k).addr, (Rg.Txb.CODE n k).addr] s.dev d ∧ Only ⟨[.regs], [], []⟩ s.dev d) ∧
  (∀ (n k v : Nat), s.dev.isSet (Rg.Txb.PENDING n k) = true → bit v 30 = false →
    Gives (.canSend n k v) s fun d =>
      d.fld (Rg.Txb.OVERRUN n k) = 1 ∧ d.fld (Rg.Txb.PENDING n k) = 1 ∧ d.out = [.answer .ok 0] ∧ WordsBut [(Rg.Txb.CODE n k).addr] s.dev d ∧ Only ⟨[.regs], [], []⟩ s.dev d) ∧
  (∀ (n k : Nat), s.dev.isSet (Rg.Txb.PENDING n k) = true → (((s.dev.canCh n).onBus.any fun b => b.txb == some k) = false) →
    Gives (.canAbort n k) s fun d =>
      d.fld (Rg.Txb.CODE n k) = Status.aborted.code ∧ d.fld (Rg.Txb.REASON n k) = 7 ∧ d.fld (Rg.Txb.DONE n k) = 1 ∧ d.fld (Rg.Txb.PENDING n k) = 0 ∧ WordsBut [(Rg.Txb.CODE n k).addr, (Rg.Ch.IRQ n).addr] s.dev d ∧ Only Foot.canAbort s.dev d) ∧
  (∀ (n phase k : Nat), s.dev.get (Ent.CanSt.STATE n) ≠ 0 → s.dev.fld (Rg.Ch.BUS n) < 2 → s.dev.flag (Ent.Can.LISTEN_ONLY n) = false → (s.dev.canCh n).onBus = none → s.dev.trxOnBus n = true → s.dev.txCandidate n = some k → (((s.dev.canCh n).service.head?.all fun x => arbKey (s.dev.txbFrame n k).ide (s.dev.txbFrame n k).id < arbKey (s.dev.svcFrame n x).ide (s.dev.svcFrame n x).id) = true) →
    Gives (.canTxStart n phase) s fun d =>
      ((d.canCh n).onBus.map (fun b => (b.txb, b.frame)) = some (some k, s.dev.txbFrame n k)) ∧ d.fld (Rg.Txb.ATTEMPTS n k) = min 255 (s.dev.fld (Rg.Txb.ATTEMPTS n k) + 1) ∧ d.out = [.can n (s.dev.txbFrame n k)] ∧ Only Foot.canTxStart s.dev d) ∧
  (∀ (n k : Nat) (b : OnBus), (s.dev.canCh n).onBus = some b → b.txb = some k → (s.dev.canCh n).aborts = [] → s.dev.get (Ent.CanSt.STATE n) ≠ 2 →
    Gives (.canArbitrationLost n) s fun d =>
      (d.canCh n).onBus = none ∧ (if s.dev.isSet (Rg.Txb.ONESHOT n k) = true then d.fld (Rg.Txb.CODE n k) = Status.aborted.code ∧ d.fld (Rg.Txb.REASON n k) = 1 ∧ d.fld (Rg.Txb.DONE n k) = 1 ∧ d.fld (Rg.Txb.PENDING n k) = 0 else d.regs = s.dev.regs) ∧ Only Foot.canArbitrationLost s.dev d) ∧
  (∀ (n k : Nat) (b : OnBus), n < 16 → (s.dev.canCh n).onBus = some b → (s.dev.canCh n).released = false → b.txb = some k → k < 3 →
    Gives (.canTxComplete n) s fun d =>
      (d.canCh n).onBus = none ∧ d.fld (Rg.Txb.CODE n k) = Status.ok.code ∧ d.fld (Rg.Txb.DONE n k) = 1 ∧ d.fld (Rg.Txb.PENDING n k) = 0 ∧ d.fld (Rg.Txb.STAMP n k) = b.stamp % 2 ^ 32 ∧ d.get (canCounter n 1).entry = min (s.dev.get (canCounter n 1).entry + 1) (2 ^ 64 - 1) ∧ Only Foot.canTxComplete s.dev d) ∧
  (∀ (n lec : Nat) (at_ : CanErrorAt), n < 16 → lec < 8 → s.dev.get (Ent.CanSt.STATE n) ≠ 0 → s.dev.fld (Rg.Ch.BUS n) < 2 → s.dev.trxOnBus n = true → s.dev.fld (Rg.Ch.TEC n) + (s.dev.errorSteps n lec at_).1 ≤ 255 →
    Gives (.canError n lec at_) s fun d =>
      d.fld (Rg.Ch.LEC n) = lec ∧ d.fld (Rg.Ch.TEC n) = s.dev.fld (Rg.Ch.TEC n) + (s.dev.errorSteps n lec at_).1 ∧ d.fld (Rg.Ch.REC n) = min (s.dev.fld (Rg.Ch.REC n) + (s.dev.errorSteps n lec at_).2) 255 ∧ d.fld (Rg.Ch.BUS n) = passiveOf (s.dev.fld (Rg.Ch.TEC n) + (s.dev.errorSteps n lec at_).1) (s.dev.fld (Rg.Ch.REC n) + (s.dev.errorSteps n lec at_).2) ∧ Only Foot.canError s.dev d) ∧
  (∀ (n : Nat), s.dev.fld (Rg.Ch.BUS n) = 2 →
    Gives (.canRestart n) s fun d =>
      (d.canCh n).recovering = true ∧ d.out = [.answer .ok 0] ∧ Only Foot.canRestart s.dev d) ∧
  (∀ (n : Nat), s.dev.fld (Rg.Ch.BUS n) = 2 → (s.dev.canCh n).recovering = true → s.dev.get (Ent.CanSt.STATE n) ≠ 0 →
    Gives (.canBusRecovered n) s fun d =>
      d.fld (Rg.Ch.BUS n) = 0 ∧ d.fld (Rg.Ch.TEC n) = 0 ∧ d.fld (Rg.Ch.REC n) = 0 ∧ (d.canCh n).recovering = false ∧ Only Foot.canBusRecovered s.dev d) ∧
  (∀ (n : Nat), s.dev.fld (Rg.Ch.BUS n) = 3 → s.dev.get (Ent.CanSt.STATE n) ≠ 0 →
    Gives (.canIntegrationEnd n) s fun d =>
      d.fld (Rg.Ch.BUS n) = passiveOf (s.dev.fld (Rg.Ch.TEC n)) (s.dev.fld (Rg.Ch.REC n)) ∧ WordsBut [(Rg.Ch.BUS n).addr] s.dev d ∧ Only Foot.canIntegrationEnd s.dev d) ∧
  (∀ (n : Nat), (s.dev.canCh n).onBus.isSome = true →
    Gives (.dominantTimeout n) s fun d =>
      d.canCh n = { s.dev.canCh n with released := true } ∧ Only Foot.dominantTimeout s.dev d)

/-- CAN reception, object locks and CANopen services complete. In a running device: a received data frame that no reference or CANopen consumer takes
goes into the unlocked object bound to its identifier, with its words, NEW 1 and RXSEQ one higher; a read of HDR locks the object for its initiator
and notes LOSTCNT; its read of TAIL gives RXSEQ and releases the lock, and without a shadow NEW clears; an expired lock is released the same way and
its holder remembered; an NMT start addressed to the node makes the channel OPERATIONAL; an SDO upload request waits in D0's queue; a segmented
transfer that stalls for 1 s is aborted; heartbeats are produced on every enabled channel; a lost consumer heartbeat is logged; the event timer of a
TPDO of type 0xFF sends its mapped bytes. -/
def Obligations.CanReceptionAndServices : Prop :=
  ∀ s : State, Live s →
  (∀ (n k sof phase : Nat) (f : CanFrame) (res : Bool), s.dev.canReceives n sof = true → s.dev.formError n f res = false → s.dev.get (Ent.CanRef.REF_ROLE n) < 2 → s.dev.serves n f = false → s.dev.rpdoFor n f = none → f.rtr = false → f.id < 2 ^ 29 → k < 64 → s.dev.objFor n f = some k → KV.find k (s.dev.canCh n).locks = none →
    Gives (.canFrameReceive n f res sof phase) s fun d =>
      d.fld (Rg.Obj.NEW n k) = 1 ∧ d.fld (Rg.Obj.RXSEQ n k) = (s.dev.fld (Rg.Obj.RXSEQ n k) + 1) % 2 ^ 16 ∧ d.fld (Rg.Obj.ID n k) = f.id ∧ d.fld (Rg.Obj.DATA n k 0) = leAt f.data 0 4 ∧ Only Foot.canFrameReceive s.dev d) ∧
  (∀ (n k : Nat) (i : Initiator), k < 64 → KV.find k (s.dev.canCh n).locks = none →
    Gives (.objHdrRead n k i) s fun d =>
      KV.find k (d.canCh n).locks = some ⟨i.id, s.dev.fld (Rg.Obj.LOSTCNT n k)⟩ ∧ d.out = [.answer .ok (s.dev.word (Rg.Obj.NEW n k).addr 0)] ∧ Only Foot.objHdrRead s.dev d) ∧
  (∀ (n k : Nat) (i : Initiator) (l : ObjLock), k < 64 → KV.find k (s.dev.canCh n).locks = some l → l.holder = i.id → (s.dev.canCh n).shadow = none →
    Gives (.objTailRead n k i) s fun d =>
      KV.find k (d.canCh n).locks = none ∧ d.fld (Rg.Obj.NEW n k) = 0 ∧ d.fld (Rg.Obj.LOSTCNT n k) = s.dev.fld (Rg.Obj.LOSTCNT n k) - l.noted ∧ d.out = [.answer .ok (s.dev.fld (Rg.Obj.RXSEQ n k))] ∧ WordsBut [(Rg.Obj.NEW n k).addr] s.dev d ∧ Only Foot.objTailRead s.dev d) ∧
  (∀ (n k : Nat) (l : ObjLock), k < 64 → KV.find k (s.dev.canCh n).locks = some l → (s.dev.canCh n).shadow = none →
    Gives (.lockExpiry n k) s fun d =>
      KV.find k (d.canCh n).locks = none ∧ (KV.get [] k (d.canCh n).expired).contains l.holder = true ∧ d.fld (Rg.Obj.NEW n k) = 0 ∧ Only Foot.lockExpiry s.dev d) ∧
  (∀ (n node : Nat), n < 16 → s.dev.flag (Ent.CanCo.CO_ENABLE n) = true → node = 0 ∨ node = s.dev.get (Ent.CanCo.NODE_ID n) →
    Gives (.nmtCommand n 1 node) s fun d =>
      d.get (Ent.CanCo.NMT n) = 5 ∧ Only Foot.nmtCommand s.dev d) ∧
  (∀ (n idx sub : Nat) (b : Bytes), s.dev.sdoRuns n = true → s.dev.get (Ent.CanSt.STATE n) = 1 → b = le 1 0x40 ++ le 2 idx ++ le 1 sub ++ zeros 4 → idx < 2 ^ 16 → sub < 2 ^ 8 → (s.dev.canCh n).sdo = .idle → s.dev.pathCount (.sdo n) < 16 →
    Gives (.sdoRequest n b) s fun d =>
      (d.canCh n).sdo = .asked idx sub 0x40 ∧ d.pathCount (.sdo n) = s.dev.pathCount (.sdo n) + 1 ∧ Only Foot.sdoRequest s.dev d) ∧
  (∀ (n i sub t : Nat) (b : Bytes), n < 16 → (s.dev.canCh n).sdo = .upload i sub t b → s.dev.passed (s.dev.canCh n).sdoAt 1000000000 = true →
    Gives (.sdoTimeout n) s fun d =>
      (d.canCh n).sdo = .idle ∧ d.get (Ent.CanCo.SDO_LAST_STATUS n) = Status.aborted.code ∧ Only Foot.sdoTimeout s.dev d) ∧
  (∀ (n : Nat), n < 16 → s.dev.get Ent.Co.PRODUCER_HB ≠ 0 → s.dev.flag (Ent.CanCo.CO_ENABLE n) = true → s.dev.get (Ent.CanSt.STATE n) = 1 → s.dev.fld (Rg.Ch.BUS n) ≠ 2 →
    Gives (.heartbeatProduce) s fun d =>
      (d.canCh n).service = (s.dev.canCh n).service ++ [⟨⟨(0x700 + s.dev.get (Ent.CanCo.NODE_ID n)) % 2 ^ 11, false, false, false, false, false, 1, le 1 (s.dev.get (Ent.CanCo.NMT n))⟩, none, none⟩] ∧ Only Foot.heartbeatProduce s.dev d) ∧
  (∀ (i : Nat), i < 32 → s.dev.get (Ent.Co.CONSUMER_HB i) % 65536 ≠ 0 → takesEvent (s.dev.ev (srcCan (bits (s.dev.get (Ent.Co.CONSUMER_HB i)) 27 24)) 0x0025 (bits (s.dev.get (Ent.Co.CONSUMER_HB i)) 23 16)) s.dev →
    Gives (.hbLost i) s fun d =>
      inDeviceLog (s.dev.ev (srcCan (bits (s.dev.get (Ent.Co.CONSUMER_HB i)) 27 24)) 0x0025 (bits (s.dev.get (Ent.Co.CONSUMER_HB i)) 23 16)) d = true ∧ Only Foot.hbLost s.dev d) ∧
  (∀ (k n : Nat), k < 128 → s.dev.get (Ent.Co.TPDO_TYPE k) = 0xFF → s.dev.pdoMap false k ≠ [] → s.dev.standby = false → 256 ≤ s.dev.get (Ent.Co.TPDO_SLOT k) → bit (s.dev.get (Ent.Co.TPDO_COB k)) 31 = false → s.dev.get (Ent.Co.TPDO_CHANNEL k) = n → s.dev.flag (Ent.CanCo.CO_ENABLE n) = true → s.dev.get (Ent.CanCo.NMT n) = 5 → s.dev.get (Ent.CanSt.STATE n) = 1 → s.dev.fld (Rg.Ch.BUS n) ≠ 2 →
    Gives (.tpdoEventTimer k) s fun d =>
      (d.canCh n).service.length = (s.dev.canCh n).service.length + 1 ∧ (((d.canCh n).service.getLast?.map fun x => x.frame.data) = some ((s.dev.pdoMap false k).flatMap fun x => s.dev.published (imgOut s.dev.image) x.1 x.2)) ∧ Only Foot.tpdoEventTimer s.dev d)

/-- Keep-alives move domains, transceivers take their states and false wakes count. In a running device with no sleep entry: a write to DOM_REQ takes
the domains whose bit it sets to REQUESTED; an elapsed keep-alive period sends one and counts KA_SEQ; QUIET_MS takes LISTENING to WAITING and WAIT_MS
takes WAITING to AGREED; a trigger keep-alive takes WAITING or AGREED to LISTENING; in the ZC2408 model the commands put a transceiver into NORMAL,
RX_ONLY, STANDBY and GO_TO_SLEEP, and 50 us of it into SLEEP; in the native model they do nothing; CONFIRM ends a running window of its source with
count 0 and the filter at its base; a window that ends counts one more false wake; a write that makes FW_COUNT 0 restores the filter. -/
def Obligations.DomainAndTransceiverCommands : Prop :=
  ∀ s : State, Live s →
  (∀ (v k : Nat), k < 32 → v < 2 ^ 32 → bit v k = true → s.dev.requested k = false → (s.dev.domain k).state ≠ 0 →
    Gives (.domReqWrite v) s fun d =>
      d.fld Rg.Slpr.DOM_REQ = v ∧ (d.domain k).state = 1 ∧ (Out.answer .ok 0 ∈ d.out) ∧ Only Foot.domReqWrite s.dev d) ∧
  (∀ (k : Nat), 16 ≤ k → (s.dev.domain k).state = 1 ∨ (s.dev.domain k).state = 2 → s.dev.get Ent.Slp.ENTRY < 2 → s.dev.timerEnded (s.dev.domain k).sent (s.dev.get (Ent.Sdom.KA_PERIOD_MS k)) = true →
    Gives (.keepaliveSend k) s fun d =>
      d.domain k = { s.dev.domain k with seq := ((s.dev.domain k).seq + 1) % 65536, again := false, sent := s.dev.time.raw } ∧ d.out = [.send "keep-alive" (k + 8) 0xFFFFFFFFFFFF (le 1 1 ++ le 1 1 ++ le 2 s.dev.board.nodeId ++ le 1 (kaFlags (s.dev.domain k).state (s.dev.domain k).again) ++ le 1 k ++ le 2 (s.dev.domain k).seq ++ zeros 38)] ∧ Only Foot.keepaliveSend s.dev d) ∧
  (∀ (k : Nat), (s.dev.domain k).state = 2 → s.dev.timerEnded (s.dev.domain k).timer (s.dev.get (Ent.Sdom.QUIET_MS k)) = true →
    Gives (.quietTimeout k) s fun d =>
      (d.domain k).state = 3 ∧ (d.domain k).timer = s.dev.time.raw ∧ Only Foot.quietTimeout s.dev d) ∧
  (∀ (k : Nat), (s.dev.domain k).state = 3 → s.dev.timerEnded (s.dev.domain k).timer (s.dev.get (Ent.Sdom.WAIT_MS k)) = true →
    Gives (.waitTimeout k) s fun d =>
      (d.domain k).state = 4 ∧ Only Foot.waitTimeout s.dev d) ∧
  (∀ (k node : Nat), 16 ≤ k → k < 32 → node ≠ s.dev.board.nodeId → s.dev.listens k = true → s.dev.flag (Ent.Sdom.KA_EN k) = true → (s.dev.domain k).state = 3 ∨ (s.dev.domain k).state = 4 → s.dev.get Ent.Slp.ENTRY < 2 →
    Gives (.keepaliveReceive k 1 1 node 1) s fun d =>
      (d.domain k).state = 2 ∧ Only Foot.keepaliveReceive s.dev d) ∧
  (∀ (n : Nat), s.dev.get Ent.Slpm.MODEL = 1 → s.dev.get Ent.Slp.ENTRY < 2 →
    Gives (.trxCmdNormal n) s fun d =>
      KV.get 0 n d.sleep.trx = 0 ∧ d.out = [.answer .ok 0] ∧ Only Foot.trxCmdNormal s.dev d) ∧
  (∀ (n : Nat), s.dev.get Ent.Slpm.MODEL = 1 → s.dev.get Ent.Slp.ENTRY < 2 →
    Gives (.trxCmdRxOnly n) s fun d =>
      KV.get 0 n d.sleep.trx = 1 ∧ d.out = [.answer .ok 0] ∧ Only Foot.trxCmdRxOnly s.dev d) ∧
  (∀ (n : Nat), Gives (.trxCmdStandby n) s fun d =>
      (KV.get 0 n d.sleep.trx = if s.dev.get Ent.Slpm.MODEL = 1 then 2 else KV.get 0 n s.dev.sleep.trx) ∧ d.out = [.answer .ok 0] ∧ Only Foot.trxCmdStandby s.dev d) ∧
  (∀ (n : Nat), Gives (.trxCmdGoToSleep n) s fun d =>
      (KV.get 0 n d.sleep.trx = if s.dev.get Ent.Slpm.MODEL = 1 then 3 else KV.get 0 n s.dev.sleep.trx) ∧ d.out = [.answer .ok 0] ∧ Only Foot.trxCmdGoToSleep s.dev d) ∧
  (∀ (n : Nat), s.dev.get Ent.Slpm.MODEL = 1 → KV.get 0 n s.dev.sleep.trx = 3 → s.dev.passed ((KV.find n s.dev.sleep.trxAt).getD s.dev.time.raw) 49900 = true →
    Gives (.goToSleepTimeout n) s fun d =>
      KV.get 0 n d.sleep.trx = 4 ∧ (if s.dev.get Ent.Slp.ENTRY ≤ 1 ∧ n < 16 then d.get Ent.Slp.ENTRY = 1 else True) ∧ Only Foot.goToSleepTimeout s.dev d) ∧
  (∀ (v n : Nat), n < 18 → bit v n = true → s.dev.windowRuns n = true →
    Gives (.wakeConfirm v) s fun d =>
      d.windowRuns n = false ∧ d.get (Ent.Wsrc.FW_COUNT n) = 0 ∧ d.get (Ent.Wsrc.FILTER_CUR n) = s.dev.get (Ent.Wsrc.FILTER_BASE n) ∧ d.get (Ent.Wsrc.QUARANTINED n) = 0 ∧ Only Foot.wakeConfirm s.dev d) ∧
  (∀ (n : Nat), s.dev.windowRuns n = true → s.dev.passed ((KV.find n s.dev.sleep.opened).getD 0) (s.dev.get (Ent.Wsrc.FW_WINDOW_MS n) * 1000000) = true → s.dev.get (Ent.Wsrc.FW_COUNT n) < s.dev.get (Ent.Wsrc.FW_THRESH n) →
    Gives (.falseWake n) s fun d =>
      d.windowRuns n = false ∧ d.get (Ent.Wsrc.FW_COUNT n) = min 255 (s.dev.get (Ent.Wsrc.FW_COUNT n) + 1) ∧ d.get (Ent.Wsrc.FILTER_CUR n) = s.dev.get (Ent.Wsrc.FILTER_CUR n) ∧ d.get (wakeCounter n 1).entry = min (s.dev.get (wakeCounter n 1).entry + 1) (2 ^ 64 - 1) ∧ Only Foot.falseWake s.dev d) ∧
  (∀ (n v : Nat), n < 18 →
    Gives (.fwCountClear n v) s fun d =>
      d.get (Ent.Wsrc.FW_COUNT n) = clearBits 8 (s.dev.get (Ent.Wsrc.FW_COUNT n)) v ∧ (if clearBits 8 (s.dev.get (Ent.Wsrc.FW_COUNT n)) v = 0 then d.get (Ent.Wsrc.FILTER_CUR n) = s.dev.get (Ent.Wsrc.FILTER_BASE n) ∧ d.get (Ent.Wsrc.QUARANTINED n) = 0 else True) ∧ Only Foot.fwCountClear s.dev d)

/-- Sleep is entered step by step, and each kind of wake starts the device. In a running device: POWER_REQ 2 or 3 of an idle device in the native
model sets ENTRY 1, and 0 cancels; when the domains agree the entry starts toward the state requested, with ENTRY 2; when all entry units have drained
the vestibule arms with ENTRY 3 and DRAM in self-refresh; the commit puts the device into that state and drops REGEN. A device that sleeps is started
by a wake-up pattern on a channel armed for it, by the channel's wake-up frame, by a pin at its level, by WAKE_REQ, and from STANDBY by a watched
source with a priority. -/
def Obligations.SleepEntryAndWakeCommands : Prop :=
  ∀ s : State,
  (Live s → s.dev.get Ent.Slpm.MODEL = 0 → s.dev.running = false → s.dev.role = 0 → s.dev.get Ent.Slp.ENTRY < 2 →
    Gives (.powerReqStandby) s fun d =>
      d.get Ent.Slp.POWER_REQ = 2 ∧ d.get Ent.Slp.ENTRY = 1 ∧ Only Foot.powerReqStandby s.dev d) ∧
  (Live s → s.dev.get Ent.Slpm.MODEL = 0 → s.dev.running = false → s.dev.role = 0 → s.dev.get Ent.Slp.ENTRY < 2 →
    Gives (.powerReqSleep) s fun d =>
      d.get Ent.Slp.POWER_REQ = 3 ∧ d.get Ent.Slp.ENTRY = 1 ∧ Only Foot.powerReqSleep s.dev d) ∧
  (Live s → s.dev.get Ent.Slpm.MODEL = 0 → s.dev.get Ent.Slp.ENTRY < 2 →
    Gives (.powerReqCancel) s fun d =>
      d.get Ent.Slp.POWER_REQ = 0 ∧ d.get Ent.Slp.ENTRY = 0 ∧ Only Foot.powerReqCancel s.dev d) ∧
  (∀ (t : Nat), Live s → s.dev.entryTarget = some t →
    Gives (.sleepEntry) s fun d =>
      d.get Ent.Slp.ENTRY = 2 ∧ d.sleep.target = t ∧ Only Foot.sleepEntry s.dev d) ∧
  (Live s → s.dev.get Ent.Slp.ENTRY = 2 → ((entryUnits.any fun x => s.dev.unitState x != 0) = false) →
    Gives (.sleepArm) s fun d =>
      d.get Ent.Slp.ENTRY = 3 ∧ d.clk.selfRefresh = true ∧ (d.sleep.armed.map (fun a => a.modes) = some ((List.range 18).map fun n => s.dev.get (Ent.Wsrc.WAKE_MODE n))) ∧ Only Foot.sleepArm s.dev d) ∧
  (Live s → s.dev.get Ent.Slp.ENTRY = 3 →
    Gives (.sleepCommit) s fun d =>
      d.power.phase = .asleep s.dev.sleep.target ∧ d.oct Ent.Slp.WAKE_RECORD = wakeRecord 0 0xFF 0 s.dev.sleep.target 0xFF s.dev.now ∧ d.get (sleepCounter 0).entry = min (s.dev.get (sleepCounter 0).entry + 1) (2 ^ 64 - 1) ∧ Out.line "REGEN" 0 false ∈ d.out ∧ Only Foot.sleepCommit s.dev d) ∧
  (∀ (n t : Nat) (env : WakeEnv), n < 16 → s.dev.power.phase = .asleep t → s.dev.get Ent.Slpm.MODEL = 0 → s.dev.trxState n = 3 →
    Gives (.wakePattern n env) s fun d =>
      d.power.phase = .running ∧ Only Foot.wakePattern s.dev d) ∧
  (∀ (n t rate : Nat) (f : CanFrame) (env : WakeEnv), n < 16 → s.dev.power.phase = .asleep t → s.dev.get Ent.Slpm.MODEL = 0 → s.dev.trxState n = 4 → s.dev.wakeFrameMatches n f = true → rate = s.dev.get (Ent.Wsrc.SW_RATE n) →
    Gives (.wakeFrame n rate (some f) env) s fun d =>
      d.power.phase = .running ∧ Only Foot.wakeFrame s.dev d) ∧
  (∀ (n t : Nat) (high : Bool) (env : WakeEnv), n ≤ 1 → s.dev.power.phase = .asleep t → (s.dev.wakeMode (16 + n) = if high then 1 else 2) →
    Gives (.wakePin n high env) s fun d =>
      d.power.phase = .running ∧ Only Foot.wakePin s.dev d) ∧
  (∀ (t : Nat) (env : WakeEnv), s.dev.power.phase = .asleep t →
    Gives (.wakeReq env) s fun d =>
      d.power.phase = .running ∧ Only Foot.wakeReq s.dev d) ∧
  (∀ (i : Nat) (env : WakeEnv), i < 32 → s.dev.power.phase = .asleep 2 → s.dev.watched i ≠ 0 → s.dev.fld (Rg.Src.PRIORITY (s.dev.watched i)) ≠ 0 →
    Gives (.watchWake i env) s fun d =>
      d.power.phase = .running ∧ Only Foot.watchWake s.dev d)

/-- A bridge responder opens sessions and performs the next request of one in order. In a running device, at a unit with an address and a clock: a
CONNECT with a right tag under an export with a key opens a session whose key both nonces make; the next request of a session that passes the checks
of Table 9.4 is performed and answered: a read with the memory's bytes, a write stored, an atomic with the old value, a status read with the context's
block; a posted write is stored and noted for the ACK; an EVENT reaches its endpoint; a dictionary request waits in D0's queue of the export's hall;
an ACK request, and 50 us with a write that no ACK covers, send the ACK. -/
def Obligations.BridgeResponderCommands : Prop :=
  ∀ s : State, Live s →
  (∀ (u mac : Nat) (m : BMsg) (r key : Bytes), s.dev.bridgeOn u = true → m.ty = 3 → m.op = 1 → s.dev.exportFor u (m.srcNode + m.srcUnit * 4096) = some r → s.dev.hmacKey (leAt r 4 1) = some key → m.auth = m.connectTag key → s.dev.servedBy u < 256 →
    Gives (.bridgeConnect u m mac) s fun d =>
      ((KV.find (serveKey u m) d.br.serve).map (fun y => (y.mac, y.slot, y.last, y.resp)) = some (mac, leAt r 4 1, 0, 1)) ∧ ((KV.find (serveKey u m) d.br.serve).map (fun y => y.key) = some (bridgeKey key (slice m.data 0 16) (le 16 (Config.freeValue 128 s.dev.free).toNat))) ∧ Only Foot.bridgeConnect s.dev d) ∧
  (∀ (u mac a : Nat) (m p : BMsg) (x : BServe), NextServed s.dev u 2 m x p → inMemory p.addr = true → s.dev.physical (servedTxn s.dev u .read p) = some a → s.dev.memCheck (servedTxn s.dev u .read p) a = .ok →
    Gives (.bridgeRead u m mac) s fun d =>
      Answered u m x p .ok (s.dev.readMem a (2 ^ (p.size % 16))) s.dev d ∧ Only Foot.bridgeRead s.dev d) ∧
  (∀ (u mac a : Nat) (m p : BMsg) (x : BServe), NextServed s.dev u 3 m x p → inMemory p.addr = true → x.uncovered < 15 → s.dev.physical (servedTxn s.dev u .write p) = some a → s.dev.memCheck (servedTxn s.dev u .write p) a = .ok →
    Gives (.bridgePostedWrite u m mac) s fun d =>
      StoredAt a (2 ^ (p.size % 16)) (ofLe (slice p.data 0 (2 ^ (p.size % 16))) % 2 ^ (8 * 2 ^ (p.size % 16))) s.dev d ∧ ((KV.find (serveKey u m) d.br.serve).map (fun y => (y.last, y.ackSeq, y.uncovered, y.failMap % 2)) = some (m.seq, some p.tag, x.uncovered + 1, 0)) ∧ Only Foot.bridgePostedWrite s.dev d) ∧
  (∀ (u mac a : Nat) (m p : BMsg) (x : BServe), NextServed s.dev u 4 m x p → inMemory p.addr = true → s.dev.physical (servedTxn s.dev u .write p) = some a → s.dev.memCheck (servedTxn s.dev u .write p) a = .ok →
    Gives (.bridgeWrite u m mac) s fun d =>
      StoredAt a (2 ^ (p.size % 16)) (ofLe (slice p.data 0 (2 ^ (p.size % 16))) % 2 ^ (8 * 2 ^ (p.size % 16))) s.dev d ∧ Answered u m x p .ok [] s.dev d ∧ Only Foot.bridgeWrite s.dev d) ∧
  (∀ (u mac a : Nat) (m p : BMsg) (x : BServe), NextServed s.dev u 5 m x p → inMemory p.addr = true → s.dev.physical (servedTxn s.dev u (.atomic (p.size / 16)) p) = some a → s.dev.memCheck (servedTxn s.dev u (.atomic (p.size / 16)) p) a = .ok →
    Gives (.bridgeAtomic u m mac) s fun d =>
      StoredAt a (2 ^ (p.size % 16)) (amo (p.size / 16) (8 * 2 ^ (p.size % 16)) (ofLe (s.dev.readMem a (2 ^ (p.size % 16)))) (ofLe (slice p.data 0 (2 ^ (p.size % 16))) % 2 ^ (8 * 2 ^ (p.size % 16)))) s.dev d ∧ Answered u m x p .ok (s.dev.readMem a (2 ^ (p.size % 16))) s.dev d ∧ Only Foot.bridgeAtomic s.dev d) ∧
  (∀ (u mac hall : Nat) (m p : BMsg) (x : BServe), NextServed s.dev u 6 m x p → hall = leAt ((s.dev.exportFor u (m.srcNode + m.srcUnit * 4096)).getD []) 2 1 → s.dev.pathCount (.mailbox hall) < 16 →
    Gives (.bridgeDictRead u m mac) s fun d =>
      ((KV.find (serveKey u m) d.br.serve).map (fun y => y.asked) = some (some p)) ∧ d.pathCount (.mailbox hall) = s.dev.pathCount (.mailbox hall) + 1 ∧ Only Foot.bridgeDictRead s.dev d) ∧
  (∀ (u mac hall : Nat) (m p : BMsg) (x : BServe), NextServed s.dev u 7 m x p → hall = leAt ((s.dev.exportFor u (m.srcNode + m.srcUnit * 4096)).getD []) 2 1 → s.dev.pathCount (.mailbox hall) < 16 →
    Gives (.bridgeDictWrite u m mac) s fun d =>
      ((KV.find (serveKey u m) d.br.serve).map (fun y => y.asked) = some (some p)) ∧ d.pathCount (.mailbox hall) = s.dev.pathCount (.mailbox hall) + 1 ∧ Only Foot.bridgeDictWrite s.dev d) ∧
  (∀ (u mac e : Nat) (m p : BMsg) (x : BServe), NextServed s.dev u 8 m x p → x.uncovered < 15 → s.dev.get (Ent.Bu.EVT_MODE u) = 0 → (((List.range 1024).find? fun e => epValid (s.dev.endpoint u e) && epNode (s.dev.endpoint u e) == p.srcNode && epUnit (s.dev.endpoint u e) == p.srcUnit && epSid (s.dev.endpoint u e) == p.sid) = some e) →
    Gives (.bridgeEvent u m mac) s fun d =>
      d.fld (Rg.Ep.EVT_PENDING u e) = orBits (s.dev.fld (Rg.Ep.EVT_PENDING u e)) (leAt p.data 0 4) ∧ d.fld (Rg.Ep.SIDEBAND u e) = leAt p.data 4 4 ∧ ((KV.find (serveKey u m) d.br.serve).map (fun y => (y.last, y.ackSeq)) = some (m.seq, some p.tag)) ∧ Only Foot.bridgeEvent s.dev d) ∧
  (∀ (u mac : Nat) (m p : BMsg) (x : BServe), NextServed s.dev u 9 m x p →
    Gives (.bridgeStatusRead u m mac) s fun d =>
      Answered u m x p .ok (s.dev.statusBlock u (p.addr % 64)) s.dev d ∧ Only Foot.bridgeStatusRead s.dev d) ∧
  (∀ (u mac : Nat) (m p : BMsg) (x : BServe), NextServed s.dev u 0x0A m x p →
    Gives (.bridgeAckRequest u m mac) s fun d =>
      ((KV.find (serveKey u m) d.br.serve).map (fun y => (y.last, y.uncovered, y.resp)) = some (m.seq, 0, nextMsgSeq x.resp)) ∧ d.out.length = 1 ∧ Only Foot.bridgeAckRequest s.dev d) ∧
  (∀ (u node unit sid : Nat) (x : BServe), s.dev.bridgeOn u = true → unit < 4 → node < 4096 → sid < 2048 → KV.find (((u * 4 + unit) * 4096 + node) * 2048 + sid) s.dev.br.serve = some x → x.uncovered ≠ 0 →
    Gives (.bridgeAckSend u node unit sid) s fun d =>
      ((KV.find (((u * 4 + unit) * 4096 + node) * 2048 + sid) d.br.serve).map (fun y => (y.uncovered, y.resp)) = some (0, nextMsgSeq x.resp)) ∧ d.out.length = 1 ∧ Only Foot.bridgeAckSend s.dev d)

/-- A bridge requester issues window accesses, events, polls and remote dictionary requests, and takes their outcomes. In a running device, for a
context whose session is open and has room: a window access of the context's own hall that passes Table 1.4 puts its request on the wire with the
session's next number, and a posted write is answered OK at once and takes the next posted number; an event, a changed sideband, a poll that is due
and a remote mailbox request are issued; a genuine response that resolves a request completes it with its data and takes it out; an ACK settles the
posted writes that it covers; a retry that is left counts and sends again; RSLOT_CLEAR empties the recovery slot; a poll's result reaches its
endpoint. -/
def Obligations.BridgeRequesterCommands : Prop :=
  ∀ s : State, Live s →
  (∀ (t : Txn) (u k : Nat), s.dev.windowCheck (s.dev.attributed { t with kind := .read, data := 0 }) = (.ok, u, k) → SessionOpen s.dev u k →
    Gives (.bridgeWindowRead t) s fun d =>
      Issued u k 2 (s.dev.get (Ent.Bctx.REMOTE_BASE (bctx u k)) + ((t.addr - 0x40000000) % 0x10000000 - s.dev.get (Ent.Bctx.WIN_OFFSET (bctx u k)))) s.dev d = true ∧ Only Foot.bridgeWindowRead s.dev d) ∧
  (∀ (t : Txn) (u k : Nat), s.dev.windowCheck (s.dev.attributed { t with kind := .posted }) = (.ok, u, k) → SessionOpen s.dev u k →
    Gives (.bridgeWindowPostedWrite t) s fun d =>
      Issued u k 3 (s.dev.get (Ent.Bctx.REMOTE_BASE (bctx u k)) + ((t.addr - 0x40000000) % 0x10000000 - s.dev.get (Ent.Bctx.WIN_OFFSET (bctx u k)))) s.dev d = true ∧ d.fld (Rg.Ctx.PW_SEQ u k) = (s.dev.fld (Rg.Ctx.PW_SEQ u k) + 1) % 2 ^ 32 ∧ (Out.answer .ok 0 ∈ d.out) ∧ Only Foot.bridgeWindowPostedWrite s.dev d) ∧
  (∀ (t : Txn) (u k : Nat), s.dev.windowCheck (s.dev.attributed { t with kind := .write }) = (.ok, u, k) → SessionOpen s.dev u k →
    Gives (.bridgeWindowWrite t) s fun d =>
      Issued u k 4 (s.dev.get (Ent.Bctx.REMOTE_BASE (bctx u k)) + ((t.addr - 0x40000000) % 0x10000000 - s.dev.get (Ent.Bctx.WIN_OFFSET (bctx u k)))) s.dev d = true ∧ Only Foot.bridgeWindowWrite s.dev d) ∧
  (∀ (t : Txn) (u k fn : Nat), t.kind = .atomic fn → issuesAtomics t.initiator = true → s.dev.windowCheck (s.dev.attributed t) = (.ok, u, k) → SessionOpen s.dev u k →
    Gives (.bridgeWindowAtomic t) s fun d =>
      Issued u k 5 (s.dev.get (Ent.Bctx.REMOTE_BASE (bctx u k)) + ((t.addr - 0x40000000) % 0x10000000 - s.dev.get (Ent.Bctx.WIN_OFFSET (bctx u k)))) s.dev d = true ∧ Only Foot.bridgeWindowAtomic s.dev d) ∧
  (∀ (u : Nat) (m p : BMsg) (r : BReq), Resolves s.dev u m p r → r.back = none → r.msg.op = 2 ∨ r.msg.op = 5 → p.status = 0 →
    Gives (.bridgeResponse u m) s fun d =>
      (Out.complete r.initiator .ok (ofLe p.data) ∈ d.out) ∧ ((d.brSess u m.sid).sent = (s.dev.brSess u m.sid).sent.filter fun x => x.msg.seq != m.tag) ∧ Only Foot.bridgeResponse s.dev d) ∧
  (∀ (u : Nat) (m p : BMsg) (r : BReq), Resolves s.dev u m p r → r.back = none → r.msg.op = 4 → p.status = 0 →
    Gives (.bridgeResponse u m) s fun d =>
      (Out.complete r.initiator .ok 0 ∈ d.out) ∧ ((d.brSess u m.sid).sent = (s.dev.brSess u m.sid).sent.filter fun x => x.msg.seq != m.tag) ∧ Only Foot.bridgeResponse s.dev d) ∧
  (∀ (u : Nat) (m p : BMsg) (r : BReq), m.ty = 4 → m.op = 0x0A → m.srcNode = s.dev.board.nodeId → m.srcUnit = u → (s.dev.brSess u m.sid).state = 2 → (s.dev.brSess u m.sid).fresh m.seq = true → m.enc = (s.dev.sessMode u m.sid == 1) → m.openUnder (s.dev.brSess u m.sid).key = some p → (s.dev.brSess u m.sid).waiting = [] → r ∈ (s.dev.brSess u m.sid).sent → r.msg.op = 3 ∨ r.msg.op = 8 → (p.tag + 2 ^ 32 - r.msg.tag) % 2 ^ 32 < 2 ^ 31 →
    Gives (.bridgeAckReceive u m) s fun d =>
      r ∉ (d.brSess u m.sid).sent ∧ Only Foot.bridgeAckReceive s.dev d) ∧
  (∀ (u sid : Nat), (s.dev.brSess u sid).state = 2 → (s.dev.brSess u sid).sent ≠ [] → (s.dev.brSess u sid).tries < s.dev.get (Ent.Bu.RETRIES u) →
    Gives (.bridgeRetry u sid) s fun d =>
      d.brSess u sid = { s.dev.brSess u sid with tries := (s.dev.brSess u sid).tries + 1 } ∧ Only Foot.bridgeRetry s.dev d) ∧
  (∀ (u k hall v : Nat), s.dev.get (Ent.Bctx.HALL (bctx u k)) = hall → s.dev.ctxCommand u k v false = .ok →
    Gives (.rslotClear u k hall v) s fun d =>
      d.fld (Rg.Ctx.VALID u k) = 0 ∧ d.fld (Rg.Ctx.CODE u k) = 0 ∧ d.out = [.answer .ok 0] ∧ Only Foot.rslotClear s.dev d) ∧
  (∀ (u k hall v i : Nat), i < 32 → v = 2 ^ i → s.dev.get (Ent.Bctx.HALL (bctx u k)) = hall → s.dev.get (Ent.Bctx.STATE (bctx u k)) = 1 → s.dev.get (Ent.Bctx.EVT_DELIVERY (bctx u k)) = 0 → SessionOpen s.dev u k →
    Gives (.evtSend u k hall v) s fun d =>
      (d.brCtx u k).evtSeq = ((s.dev.brCtx u k).evtSeq + 1) % 2 ^ 32 ∧ bit (d.brCtx u k).toggle i = !bit (s.dev.brCtx u k).toggle i ∧ Issued u k 8 0 s.dev d = true ∧ Only Foot.evtSend s.dev d) ∧
  (∀ (u k hall v : Nat), v < 2 ^ 32 → s.dev.get (Ent.Bctx.HALL (bctx u k)) = hall → s.dev.get (Ent.Bctx.STATE (bctx u k)) = 1 → s.dev.get (Ent.Bctx.EVT_DELIVERY (bctx u k)) = 0 → s.dev.fld (Rg.Ctx.SIDEBAND_OUT u k) ≠ v → SessionOpen s.dev u k →
    Gives (.sidebandOutWrite u k hall v) s fun d =>
      d.fld (Rg.Ctx.SIDEBAND_OUT u k) = v ∧ Issued u k 8 0 s.dev d = true ∧ Only Foot.sidebandOutWrite s.dev d)

/-- Remote mailbox requests, polls and CAN tunnels complete. In a running device: GO of a context's remote mailbox that is not busy, with a read,
issues the dictionary request and sets BUSY; a due poll of a valid endpoint counts and issues a status read; its genuine result sets EVT_SEQ and
SIDEBAND of the endpoint; a tunnel that has collected messages sends one PDU with its sequence number and keeps the rest; a message of a received PDU
of the tunnel enters the channel's transmit queue. -/
def Obligations.BridgePollAndTunnelCommands : Prop :=
  ∀ s : State, Live s →
  (∀ (u k hall v : Nat), u < 4 → k < 64 → s.dev.get (Ent.Bctx.HALL (bctx u k)) = hall → s.dev.get (Ent.Bctx.STATE (bctx u k)) = 1 → s.dev.isSet (rmb u k Rg.Mb.BUSY) = false → s.dev.fld (rmb u k Rg.Mb.OP) = 3 → SessionOpen s.dev u k →
    Gives (.remoteMbGo u k hall v) s fun d =>
      d.fld (rmb u k Rg.Mb.BUSY) = 1 ∧ Issued u k 6 (v % 2 ^ 19) s.dev d = true ∧ Only Foot.remoteMbGo s.dev d) ∧
  (∀ (u e : Nat), u < 4 → e < 1024 → s.dev.get (Ent.Bu.EVT_MODE u) = 1 → epValid (s.dev.endpoint u e) = true → s.dev.bridgeOn u = true → SessionOpen s.dev u (0x400 + e) →
    Gives (.endpointPoll u e) s fun d =>
      d.get (buCounter u 3).entry = min (s.dev.get (buCounter u 3).entry + 1) (2 ^ 64 - 1) ∧ Issued u (0x400 + e) 9 (epSid (s.dev.endpoint u e)) s.dev d = true ∧ Only Foot.endpointPoll s.dev d) ∧
  (∀ (u : Nat) (m p : BMsg) (r : BReq), Resolves s.dev u m p r → 0x400 ≤ m.sid → m.op = 9 → r.msg.op = 9 → p.status = 0 →
    Gives (.pollResult u m) s fun d =>
      d.fld (Rg.Ep.EVT_SEQ u (m.sid - 0x400)) = leAt p.data 0 4 ∧ d.fld (Rg.Ep.SIDEBAND u (m.sid - 0x400)) = leAt p.data 8 4 ∧ Only Foot.pollResult s.dev d) ∧
  (∀ (t : Nat), s.dev.flag (Ent.Tun.ENABLE t) = true → s.dev.bridgeOn (s.dev.get (Ent.Tun.UNIT t)) = true → (s.dev.tunnel t).pdu ≠ [] →
    Gives (.tunnelPduSend t) s fun d =>
      d.tunnel t = ⟨(s.dev.tunnel t).pdu.drop (s.dev.get (Ent.Tun.BATCH t)), ((s.dev.tunnel t).seq + 1) % 256⟩ ∧ d.out.length = 1 ∧ Only Foot.tunnelPduSend s.dev d) ∧
  (∀ (u t n : Nat) (b : Bytes) (f : CanFrame), t < 16 → s.dev.bridgeOn u = true → leAt b 0 1 = 0x82 → s.dev.flag (Ent.Tun.ENABLE t) = true → s.dev.get (Ent.Tun.UNIT t) = u → s.dev.get (Ent.Tun.DIR t) ≠ 1 → slice (s.dev.oct (Ent.Tun.STREAM_ID t)) 0 8 = slice b 4 8 → acfMessages 256 ((b.drop 12).take (ofBe (slice b 1 2) % 2048)) = [(s.dev.get (Ent.Tun.BUS_ID t), f)] → s.dev.get (Ent.Tun.CHANNEL t) = n → (((s.dev.canCh n).service.filter fun x => x.tunnel.isSome).length < 32) → f.fdf = false ∨ s.dev.get (Ent.Can.MODE n) ≠ 0 → s.dev.get Ent.Tws.ROLE < 2 → s.dev.get (Ent.CanSt.STATE n) = 1 →
    Gives (.tunnelPduReceive u b) s fun d =>
      ⟨f, none, some t⟩ ∈ (d.canCh n).service ∧ Only Foot.tunnelPduReceive s.dev d)

/-- The scan engine loads, starts, stops and faults, and its tasks run. In a running device: LOAD of a stored image that passes the checks, in
NO_IMAGE or STOPPED, makes it the active image in STOPPED; START of a stopped engine gives RUN with the unit of every cyclic task armed; STOP gives
STOPPED when all tasks are idle, else STOPPING; ACK_FAULT of a faulted engine gives STOPPED with no cause; EVT_FIRE starts an idle event task of its
bit; DONE of the innermost task ends its run with its time; a task fault or a missed deadline gives STOP_FAULT with its cause, task and value; a
station's good frame is stored fresh in its slot; a completed save becomes the newest record. -/
def Obligations.ScanEngineCommands : Prop :=
  ∀ s : State, Live s →
  (∀ (img : Bytes), s.dev.engine < 2 → s.dev.rescue = false → KV.find Ent.Seimg.ALT_IMAGE.key s.dev.blobs = some img → imageFault s.dev img (imgCores img) = none →
    Gives (.engineLoad) s fun d =>
      d.engine = 1 ∧ d.image = img ∧ d.get Ent.Se.ACTIVE_ID = imgId img ∧ d.get Ent.Se.CMD_STATUS = imageStatus .ok 0 0 ∧ Only Foot.engineLoad s.dev d) ∧
  (∀ (r : TaskRec), s.dev.engine = 1 → r ∈ imgCyclic s.dev.image → r.unit < 32 →
    Gives (.engineStart) s fun d =>
      d.engine = 2 ∧ d.get (Ent.Trgu.OWNER r.unit) = 1 ∧ d.get (Ent.Trgu.ENABLE r.unit) = 1 ∧ d.get Ent.Se.CMD_STATUS = imageStatus .ok 0 0 ∧ Only Foot.engineStart s.dev d) ∧
  (s.dev.engine = 2 →
    Gives (.engineStop) s fun d =>
      (d.engine = if s.dev.allIdle = true then 1 else 4) ∧ Only Foot.engineStop s.dev d) ∧
  (s.dev.engine = 3 →
    Gives (.engineAckFault) s fun d =>
      d.engine = 1 ∧ d.get Ent.Se.FAULT_CAUSE = 0 ∧ d.get Ent.Se.CMD_STATUS = imageStatus .ok 0 0 ∧ Only Foot.engineAckFault s.dev d) ∧
  (∀ (v : Nat) (r : TaskRec), s.dev.engine = 2 → s.dev.role < 2 → r ∈ s.dev.eventTasks → r.evtKind = 2 → bit v (r.task - 16) = true → (s.dev.run r.task).phase = 0 →
    Gives (.evtFire v) s fun d =>
      (d.run r.task).phase = 1 ∧ (d.run r.task).cycle = ((s.dev.run r.task).cycle + 1) % 2 ^ 32 ∧ (Out.answer .ok 0 ∈ d.out) ∧ Only Foot.evtFire s.dev d) ∧
  (∀ (x t : Nat) (rest : List Nat), t < 48 → s.dev.engine = 2 → s.dev.role < 2 → s.dev.twin.hand = none → KV.get [] x s.dev.scan.stackOf = t :: rest → (s.dev.run t).pending = none →
    Gives (.taskDone x t) s fun d =>
      (d.run t).phase = 0 ∧ KV.get [] x d.scan.stackOf = rest ∧ d.get (Ent.Task.LAST_EXEC_NS t) = min (s.dev.time.raw - (s.dev.run t).origin) 0xFFFFFFFF ∧ Only Foot.taskDone s.dev d) ∧
  (∀ (x v t : Nat) (rest : List Nat), s.dev.running = true → KV.get [] x s.dev.scan.stackOf = t :: rest →
    Gives (.taskFault x v) s fun d =>
      d.engine = 3 ∧ d.get Ent.Se.FAULT_CAUSE = 2 * 2 ^ 24 + t * 65536 + v % 65536 ∧ d.allIdle = true ∧ Only Foot.taskFault s.dev d) ∧
  (∀ (ts : List Nat) (t : Nat), s.dev.running = true → (((List.range 48).find? fun u => ts.contains u && s.dev.overdue u) = some t) →
    Gives (.deadlineOverrun ts) s fun d =>
      d.engine = 3 ∧ d.get Ent.Se.FAULT_CAUSE = 2 ^ 24 + t * 65536 ∧ Only Foot.deadlineOverrun s.dev d) ∧
  (∀ (src n : Nat) (b : Bytes) (r : StnRec), n < 256 → leAt b 4 1 = n → s.dev.slotFits n src = true → imgStation s.dev.image n = some r → leAt b 0 1 = 6 → leAt b 1 1 = 1 → leAt b 2 2 = s.dev.board.nodeId → leAt b 16 2 = r.inLen → 24 + r.inLen ≤ b.length → s.dev.engine ≠ 0 → leAt b 6 2 = s.dev.epoch (.station n) →
    Gives (.stationFrameReceive src b) s fun d =>
      (d.slot n).data = slice b 24 r.inLen ∧ (d.slot n).fresh = true ∧ d.get (slotCounter n 0).entry = min (s.dev.get (slotCounter n 0).entry + 1) (2 ^ 64 - 1) ∧ (if s.dev.get (Ent.Stn.STATE n) = 1 ∨ s.dev.get (Ent.Stn.STATE n) = 3 then d.get (Ent.Stn.STATE n) = 2 else d.get (Ent.Stn.STATE n) = s.dev.get (Ent.Stn.STATE n)) ∧ Only Foot.stationFrameReceive s.dev d) ∧
  (∀ (t : Nat) (r : Retain), s.dev.scan.saving = some (t, r) →
    Gives (.retainSaveComplete) s fun d =>
      d.scan.saving = none ∧ d.scan.records = (r :: s.dev.scan.records).take 2 ∧ Only Foot.retainSaveComplete s.dev d)

/-- An online change is started, switched, committed or dropped, and forces are set and released. In a running device: a CHANGE request in RUN that
passes Table 11.1 prepares the image and waits for a boundary; CANCEL, the window's end and the standby's timeout end a change before its switch with
ABORTED, WRONG_STATE and REMOTE_TIMEOUT and the engine runs on; at a common boundary the new image becomes active; a durable switch record ends the
change with OK; the standby's answer opens the window; a standby prepares a change it receives and switches on COMMIT when it can before I; FORCE_SET
of a variable of the active image enters its value, FORCE_RELEASE removes one, FORCE_RELEASE_ALL all. -/
def Obligations.OnlineChangeAndForceCommands : Prop :=
  ∀ s : State, Live s →
  (∀ (v : Nat) (img : Bytes), bits v 3 0 = 1 → bits v 7 4 = 0 → bits v 15 9 = 0 → s.dev.role = 0 → KV.find Ent.Seimg.ALT_IMAGE.key s.dev.blobs = some img → s.dev.changeCheck (some img) (bit v 8) false = none →
    Gives (.changeStart v) s fun d =>
      d.get Ent.Chg.CHANGE_STATE = 3 ∧ d.engine = 5 ∧ (d.scan.change.map (fun c => (c.image, c.word)) = some (img, v)) ∧ Only Foot.changeStart s.dev d) ∧
  (∀ (c : Change), 1 ≤ s.dev.get Ent.Chg.CHANGE_STATE → s.dev.get Ent.Chg.CHANGE_STATE ≤ 3 → s.dev.scan.change = some c →
    Gives (.changeCancel) s fun d =>
      d.get Ent.Chg.CHANGE_STATE = 0 ∧ d.get Ent.Chg.CHANGE_STATUS = Status.aborted.code * 65536 ∧ d.engine = 2 ∧ d.scan.change = none ∧ Only Foot.changeCancel s.dev d) ∧
  (∀ (c : Change), s.dev.scan.change = some c → s.dev.get Ent.Chg.CHANGE_STATE = 3 → s.dev.role < 2 → s.dev.boundary (changeEst s.dev.image c.image) = true →
    Gives (.changeSwitch) s fun d =>
      d.image = c.image ∧ d.get Ent.Se.ACTIVE_ID = imgId c.image ∧ d.engine = 2 ∧ d.get Ent.Chg.CHANGE_STATE = 4 ∧ Only Foot.changeSwitch s.dev d) ∧
  (∀ (c : Change), s.dev.scan.change = some c → s.dev.get Ent.Chg.CHANGE_STATE = 4 →
    Gives (.changeCommit) s fun d =>
      d.get Ent.Chg.CHANGE_STATE = 0 ∧ d.get Ent.Chg.CHANGE_STATUS = 0 ∧ d.scan.change = none ∧ Only Foot.changeCommit s.dev d) ∧
  (∀ (c : Change), s.dev.scan.change = some c → s.dev.get Ent.Chg.CHANGE_STATE = 3 → s.dev.passed c.since s.dev.changeWindow = true →
    Gives (.changeWindowTimeout) s fun d =>
      d.get Ent.Chg.CHANGE_STATE = 0 ∧ d.get Ent.Chg.CHANGE_STATUS = Status.wrongState.code * 65536 ∧ d.engine = 2 ∧ Only Foot.changeWindowTimeout s.dev d) ∧
  (s.dev.get Ent.Chg.CHANGE_STATE = 2 →
    Gives (.changeStandbyReady true) s fun d =>
      d.get Ent.Chg.CHANGE_STATE = 3 ∧ Only Foot.changeStandbyReady s.dev d) ∧
  (∀ (c : Change), s.dev.scan.change = some c → s.dev.get Ent.Chg.CHANGE_STATE = 2 → s.dev.passed c.since (s.dev.get Ent.Chg.STANDBY_READY_MS * 1000000) = true →
    Gives (.standbyReadyTimeout) s fun d =>
      d.get Ent.Chg.CHANGE_STATE = 0 ∧ d.get Ent.Chg.CHANGE_STATUS = Status.remoteTimeout.code * 65536 ∧ d.engine = 2 ∧ Only Foot.standbyReadyTimeout s.dev d) ∧
  (∀ (i : Nat) (c : Change), s.dev.scan.change = some c → s.dev.get Ent.Chg.CHANGE_STATE = 3 → s.dev.role = 2 → s.dev.allIdle = true → s.dev.now + changeEst s.dev.image c.image ≤ i →
    Gives (.changeCommitReceive i) s fun d =>
      d.image = c.image ∧ d.get Ent.Chg.CHANGE_STATE = 4 ∧ Only Foot.changeCommitReceive s.dev d) ∧
  (∀ (word : Nat) (img : Bytes), s.dev.role = 2 → s.dev.changeCheck (some img) (bit word 8) true = none →
    Gives (.standbyChangeReceive word img) s fun d =>
      d.get Ent.Chg.CHANGE_STATE = 3 ∧ d.engine = 5 ∧ (d.scan.change.map (fun c => (c.image, c.word)) = some (img, word)) ∧ Only Foot.standbyChangeReceive s.dev d) ∧
  (∀ (b : Bytes) (v : VarRec), s.dev.role < 2 → s.dev.engine ≠ 0 → s.dev.get Ent.Chg.CHANGE_STATE = 0 → leAt b 0 4 ≠ 0 → (((imgVars s.dev.image).find? fun x => x.tag == leAt b 0 4) = some v) → v.ty = leAt b 4 2 → v.size ≤ 64 → leAt b 6 2 = v.size → s.dev.scan.forces.length < 256 →
    Gives (.forceSet b) s fun d =>
      KV.find (leAt b 0 4) d.scan.forces = some (leAt b 4 2, slice b 8 v.size) ∧ d.get Ent.Frc.FORCE_COUNT = d.scan.forces.length ∧ (Out.answer .ok 0 ∈ d.out) ∧ Only Foot.forceSet s.dev d) ∧
  (∀ (tag : Nat), s.dev.role < 2 → (KV.find tag s.dev.scan.forces).isSome = true →
    Gives (.forceRelease tag) s fun d =>
      KV.find tag d.scan.forces = none ∧ (Out.answer .ok 0 ∈ d.out) ∧ Only Foot.forceRelease s.dev d) ∧
  (s.dev.role < 2 →
    Gives (.forceReleaseAll) s fun d =>
      d.scan.forces = [] ∧ (Out.answer .ok 0 ∈ d.out) ∧ Only Foot.forceReleaseAll s.dev d)

/-- Load channels follow their commands and protections. In a running device, for a channel that is no upper member of a pair and under no safe cause:
a command ON starts an OFF channel in INRUSH, or ON with no inrush time; a command off opens one; the PWM bit starts its period; CLEAR takes a LATCHED
channel out of it with its retries full; the end of INRUSH gives ON; limiting starts and ends; a thermal shutdown trips a channel with retries left,
and at the last one latches it; a restart takes one retry and begins in INRUSH; a coupled channel restarts or latches; a safe-state line applies the
safe values of its group. -/
def Obligations.LoadCommandsAndStates : Prop :=
  ∀ s : State, Live s →
  (∀ (n v : Nat), n < 24 → bit v 0 = true → s.dev.pairUpper n = false → s.dev.safeHeld n = false → s.dev.loadState n = 0 →
    Gives (.channelOn n v) s fun d =>
      (d.loadState n = if s.dev.get (Ent.Lc.INRUSH_MS n) = 0 then 2 else 1) ∧ (d.loadCh n).cmd = v % 2 ^ 32 ∧ Only Foot.channelOn s.dev d) ∧
  (∀ (n v : Nat), n < 24 → bit v 0 = false → bit v 1 = false → s.dev.pairUpper n = false → s.dev.safeHeld n = false → s.dev.loadState n ≠ 5 →
    Gives (.channelOff n v) s fun d =>
      d.loadState n = 0 ∧ (d.loadCh n).cmd = v % 2 ^ 32 ∧ Only Foot.channelOff s.dev d) ∧
  (∀ (n v : Nat), n < 24 → bit v 2 = true → bit (s.dev.loadCh n).cmd 2 = false → s.dev.pairUpper n = false → s.dev.safeHeld n = false →
    Gives (.channelPwmSet n v) s fun d =>
      (d.loadCh n).cmd = v % 2 ^ 32 ∧ (d.loadCh n).pwmStart = s.dev.time.raw ∧ (d.loadCh n).pwmDuty = v / 65536 % 65536 ∧ (d.loadCh n).pwmUs = s.dev.get (Ent.Lc.PWM_PERIOD_US n) ∧ Only Foot.channelPwmSet s.dev d) ∧
  (∀ (n : Nat), bit (s.dev.loadCh (s.dev.loadSelf n)).cmd 2 = true →
    Gives (.pwmPeriodStart n) s fun d =>
      (d.loadCh (s.dev.loadSelf n)).pwmStart = s.dev.time.raw ∧ (d.loadCh (s.dev.loadSelf n)).pwmDuty = (s.dev.loadCh (s.dev.loadSelf n)).cmd / 65536 % 65536 ∧ Only Foot.pwmPeriodStart s.dev d) ∧
  (∀ (n : Nat), n < 24 → s.dev.loadState (s.dev.loadSelf n) = 5 → bit (s.dev.loadCh (s.dev.loadSelf n)).cmd 0 = false →
    Gives (.channelClear n) s fun d =>
      d.loadState (s.dev.loadSelf n) = 0 ∧ d.get (Ent.Lc.RETRIES_LEFT (s.dev.loadSelf n)) = s.dev.get (Ent.Lc.RETRY_MAX (s.dev.loadSelf n)) ∧ Only Foot.channelClear s.dev d) ∧
  (∀ (n : Nat), n < 24 → s.dev.inrushOver n = true →
    Gives (.inrushEnd n) s fun d =>
      d.loadState n = 2 ∧ Only Foot.inrushEnd s.dev d) ∧
  (∀ (n : Nat), n < 24 → s.dev.loadState (s.dev.loadSelf n) = 1 ∨ s.dev.loadState (s.dev.loadSelf n) = 2 → s.dev.loadFlag (s.dev.loadSelf n) 3 = false → s.dev.loadFlag (s.dev.loadSelf n) 0 = false →
    Gives (.limitEntry n) s fun d =>
      d.loadFlag (s.dev.loadSelf n) 0 = true ∧ d.get (loadCounter (s.dev.loadSelf n) 3).entry = min (s.dev.get (loadCounter (s.dev.loadSelf n) 3).entry + 1) (2 ^ 64 - 1) ∧ Only Foot.limitEntry s.dev d) ∧
  (∀ (n : Nat), n < 24 →
    Gives (.limitingEnd n) s fun d =>
      d.loadFlag (s.dev.loadSelf n) 0 = false ∧ EntriesBut [Ent.Lc.FLAGS (s.dev.loadSelf n)] s.dev d ∧ Only Foot.limitingEnd s.dev d) ∧
  (∀ (n delta : Nat) (tj : Int), n < 24 → s.dev.loadState (s.dev.loadSelf n) = 2 → s.dev.inInrush (s.dev.loadSelf n) = false →
    Gives (.thermalShutdown n tj delta) s fun d =>
      (d.loadState (s.dev.loadSelf n) = if s.dev.get (Ent.Lc.RETRY_MODE (s.dev.loadSelf n)) = 0 ∨ s.dev.get (Ent.Lc.RETRIES_LEFT (s.dev.loadSelf n)) = 0 then 5 else 3) ∧ d.get (loadCounter (s.dev.loadSelf n) 0).entry = min (s.dev.get (loadCounter (s.dev.loadSelf n) 0).entry + 1) (2 ^ 64 - 1) ∧ Only Foot.thermalShutdown s.dev d) ∧
  (∀ (n : Nat), n < 24 → s.dev.retryDue n = true →
    Gives (.retryRestart n) s fun d =>
      (d.loadState n = if bit (s.dev.loadCh n).cmd 0 then 1 else 0) ∧ (d.get (Ent.Lc.RETRIES_LEFT n) = if bit (s.dev.loadCh n).cmd 0 then s.dev.get (Ent.Lc.RETRIES_LEFT n) - 1 else s.dev.get (Ent.Lc.RETRIES_LEFT n)) ∧ Only Foot.retryRestart s.dev d) ∧
  (∀ (n : Nat), n < 24 → s.dev.loadState n = 4 →
    Gives (.coupledRestart n) s fun d =>
      (d.loadState n = if bit (s.dev.loadCh n).cmd 0 then 1 else 0) ∧ Only Foot.coupledRestart s.dev d) ∧
  (∀ (n : Nat), n < 24 → s.dev.loadState n = 4 → s.dev.loadAged n (s.dev.get (Ent.Lc.COUPLED_MAX_MS n)) = true →
    Gives (.coupledTimeout n) s fun d =>
      d.loadState n = 5 ∧ d.get (loadCounter n 2).entry = min (s.dev.get (loadCounter n 2).entry + 1) (2 ^ 64 - 1) ∧ Only Foot.coupledTimeout s.dev d)

/-- Load supplies, sense, diagnosis, holds and safe values act as stated. In a running device: a retry budget refills after RETRY_CLEAR_MS in ON;
undervoltage flags every channel of its group and recovery clears the flag and restarts the inrush window of those that are on; a clamp is counted;
the check of an OFF channel flags a short; a sense step that is stable takes the code assigned to each die's selected channel and moves the selection;
a loss above its limit for 1 s is flagged; the end of a hold opens every held channel; a lost die link or an asserted safe-state line applies the safe
values, and the link's return ends the loss. -/
def Obligations.LoadSupplySenseAndSafeCommands : Prop :=
  ∀ s : State, Live s →
  (∀ (n : Nat), n < 24 → s.dev.loadState n = 2 → s.dev.loadAged n (s.dev.get (Ent.Lc.RETRY_CLEAR_MS n)) = true →
    Gives (.retryBudgetReset n) s fun d =>
      d.get (Ent.Lc.RETRIES_LEFT n) = s.dev.get (Ent.Lc.RETRY_MAX n) ∧ EntriesBut [Ent.Lc.RETRIES_LEFT n] s.dev d ∧ Only Foot.retryBudgetReset s.dev d) ∧
  (∀ (g mv n : Nat), g < 3 → n / 8 = g → mv < 2 ^ 16 → KV.find g s.dev.load.uvAt = none →
    Gives (.vbatUndervoltage g mv) s fun d =>
      d.get (Ent.Lcg.VBAT_MV g) = mv ∧ d.loadFlag n 3 = true ∧ d.loadFlag n 0 = false ∧ d.loadState n = s.dev.loadState n ∧ Only Foot.vbatUndervoltage s.dev d) ∧
  (∀ (g mv n : Nat), g < 3 → n / 8 = g → mv < 2 ^ 16 →
    Gives (.vbatRecover g mv) s fun d =>
      d.get (Ent.Lcg.VBAT_MV g) = mv ∧ d.loadFlag n 3 = false ∧ (d.loadState n = if s.dev.loadState n = 1 ∨ s.dev.loadState n = 2 then (if s.dev.get (Ent.Lc.INRUSH_MS n) = 0 then 2 else 1) else s.dev.loadState n) ∧ Only Foot.vbatRecover s.dev d) ∧
  (∀ (n : Nat), n < 24 →
    Gives (.clampDetect n) s fun d =>
      d.get (loadCounter n 6).entry = min (s.dev.get (loadCounter n 6).entry + 1) (2 ^ 64 - 1) ∧ Only Foot.clampDetect s.dev d) ∧
  (∀ (n mv1 mv2 : Nat) (isOpen : Bool), n < 24 → s.dev.flag (Ent.Lc.OL_EN (s.dev.loadSelf n)) = true → s.dev.loadState (s.dev.loadSelf n) = 0 → s.dev.loadFlag (s.dev.loadSelf n) 3 = false → s.dev.loadFlag (s.dev.loadSelf n) 2 = false → s.dev.checkDue (s.dev.loadSelf n) = true → s.dev.standby = false →
    Gives (.offStateCheck n true mv1 isOpen mv2) s fun d =>
      d.loadFlag (s.dev.loadSelf n) 2 = true ∧ d.get (loadCounter (s.dev.loadSelf n) 5).entry = min (s.dev.get (loadCounter (s.dev.loadSelf n) 5).entry + 1) (2 ^ 64 - 1) ∧ Only Foot.offStateCheck s.dev d) ∧
  (∀ (p0 p1 p2 : SensePin), s.dev.get (Ent.Adc.STATE 1) = 1 → s.dev.flag Ent.Lc.SELEXT = false → s.dev.load.sel < 7 → bit (s.dev.loadCh s.dev.load.sel).cmd 2 = false → s.dev.get (Ent.Lcg.R_SENSE_OHM 0) ≠ 0 → s.dev.sensePinCode s.dev.load.sel p0.code ≤ 38400 →
    Gives (.senseStep p0 p1 p2) s fun d =>
      d.load.sel = s.dev.load.sel + 1 ∧ d.get (Ent.Lc.CURRENT_MA s.dev.load.sel) = s.dev.senseMa s.dev.load.sel p0.code ∧ (d.loadCh s.dev.load.sel).seq = ((s.dev.loadCh s.dev.load.sel).seq + 1) % 65536 ∧ d.loadFlag s.dev.load.sel 5 = false ∧ Only Foot.senseStep s.dev d) ∧
  (s.dev.get Ent.Lc.LOSS_LIMIT_MW < s.dev.get Ent.Lc.LOSS_MW → s.dev.load.lossHigh = false → s.dev.load.lossAt.any (s.dev.passed · 1000000000) = true →
    Gives (.lossHigh) s fun d =>
      d.load.lossHigh = true ∧ Only Foot.lossHigh s.dev d) ∧
  (∀ (n : Nat), n < 24 → s.dev.loadFlag n 4 = true → s.dev.get Ent.Pwr.PF_STATE = 0 → s.dev.passed s.dev.load.heldAt (s.dev.get Ent.Lc.HOLD_MS * 1000000) = true →
    Gives (.channelHoldExpiry) s fun d =>
      d.loadFlag n 4 = false ∧ (d.loadCh n).cmd = 0 ∧ (d.loadState n = if s.dev.loadState n = 5 then 5 else 0) ∧ Only Foot.channelHoldExpiry s.dev d) ∧
  (∀ (g n : Nat), g < 3 → n / 8 = g → (((groupChannels g).any fun k => s.dev.loadFlag k 4) = false) → KV.find g s.dev.load.linkLost = none → s.dev.pairUpper n = false →
    Gives (.dieLinkTimeout g) s fun d =>
      KV.find g d.load.linkLost = some (s.dev.time.raw - 1000000) ∧ d.loadFlag n 6 = true ∧ (d.loadCh n).cmd = s.dev.safeCommand n ∧ Only Foot.dieLinkTimeout s.dev d) ∧
  (∀ (g r : Nat), KV.find g s.dev.load.linkLost = some r →
    Gives (.dieLinkReturn g) s fun d =>
      KV.find g d.load.linkLost = none ∧ Only Foot.dieLinkReturn s.dev d) ∧
  (∀ (g n : Nat), g < 3 → n / 8 = g → s.dev.pairUpper n = false →
    Gives (.safeStateLine g true) s fun d =>
      d.load.safeLine.contains g = true ∧ d.loadFlag n 6 = true ∧ (d.loadCh n).cmd = s.dev.safeCommand n ∧ (Out.line "SAFE" g true ∈ d.out) ∧ Only Foot.safeStateLine s.dev d)

/-- Interrupt sources are raised, claimed, completed and released, and cores enter WFI. In a running device: an edge source that its unit asserts
becomes pending; a core's CLAIM with fewer than 8 levels takes its best source, makes it active and pushes the stack; COMPLETE of the source on top
pops it, and ACTIVE clears unless a lower level holds it; hall 0's DOORBELL makes a core's doorbell pending; the end of moderation and WFI release
held sources; HS-mode of hall 0 writes NHALL; a mismatch halts a pair in lockstep, and RESET of a halted pair starts it again. -/
def Obligations.InterruptCommands : Prop :=
  ∀ s : State, Live s →
  (∀ (n : Nat), isEdge n = true → srcReserved n = false →
    Gives (.interruptSourceAssert n) s fun d =>
      d.fld (Rg.Src.PENDING n) = 1 ∧ Only Foot.interruptSourceAssert s.dev d) ∧
  (∀ (k n : Nat) (i : Initiator), k ≤ 12 → coreOf i = some k → s.dev.fld (pgDepth k) < 8 → s.dev.bestSource k = n → n ≠ 0 →
    Gives (.claim k i) s fun d =>
      d.fld (sActive k n) = 1 ∧ d.fld (pgDepth k) = s.dev.fld (pgDepth k) + 1 ∧ d.fld (pgSrc k (s.dev.fld (pgDepth k))) = n ∧ d.fld (pgPrio k) = s.dev.prioOf k n % 16 ∧ (Out.answer .ok n ∈ d.out) ∧ Only Foot.claim s.dev d) ∧
  (∀ (k v : Nat) (i : Initiator), k ≤ 12 → coreOf i = some k → 0 < s.dev.fld (pgDepth k) → s.dev.fld (pgDepth k) ≤ 8 → s.dev.fld (pgSrc k (s.dev.fld (pgDepth k) - 1)) = v →
    Gives (.complete k i v) s fun d =>
      d.fld (pgDepth k) = s.dev.fld (pgDepth k) - 1 ∧ (((List.range (s.dev.fld (pgDepth k) - 1)).any fun j => s.dev.fld (pgSrc k j) == v) = false → d.fld (sActive k v) = 0) ∧ (Out.answer .ok 0 ∈ d.out) ∧ Only Foot.complete s.dev d) ∧
  (∀ (v : Nat), v % 16 ≤ 11 →
    Gives (.doorbell 0 v) s fun d =>
      d.fld (Rg.Src.PENDING (v % 16 + 1)) = 1 ∧ (Out.answer .ok 0 ∈ d.out) ∧ Only Foot.doorbell s.dev d) ∧
  (∀ (n : Nat) (m0 : Bool), s.dev.holdOver n m0 = true →
    Gives (.moderationExpiry n m0) s fun d =>
      (KV.find (if m0 then 512 + n else n) d.held = none) ∧ Only Foot.moderationExpiry s.dev d) ∧
  (∀ (k n : Nat), k ≤ 12 → n < 512 → k = 12 ∨ s.dev.srcTarget n = k →
    Gives (.wfiEnter k) s fun d =>
      (d.fld (pgWfi k) = if d.requestLine k then 0 else 1) ∧ KV.find (heldKey k n) d.held = none ∧ Only Foot.wfiEnter s.dev d) ∧
  (∀ (k v : Nat), k < 4 → (s.dev.hart k).nhall = 0 →
    Gives (.nhallWrite k .hs v) s fun d =>
      d.hart k = { s.dev.hart k with nhall := v % 256 } ∧ Only Foot.nhallWrite s.dev d) ∧
  (∀ (p kind pc : Nat), p < 4 → s.dev.get (Ent.Pair.STATE p) = 1 →
    Gives (.lockstepMismatch p kind pc) s fun d =>
      d.get (Ent.Pair.STATE p) = 2 ∧ Only Foot.lockstepMismatch s.dev d) ∧
  (∀ (p : Nat), p < 4 → s.dev.get (Ent.Pair.STATE p) = 2 →
    Gives (.pairReset p) s fun d =>
      d.get (Ent.Pair.STATE p) = 1 ∧ (d.hart (4 + 2 * p)).halted = false ∧ (d.hart (5 + 2 * p)).halted = false ∧ (Out.answer .ok 0 ∈ d.out) ∧ Only Foot.pairReset s.dev d)

/-- Converter runs, shunts and debug accesses complete. In a running device: a start of one sequence of an idle, enabled converter begins its run with
the stamp of its first sample; a run that completes shows its length, stamp and one more count, the code of its first channel in the first result, and
leaves an idle converter; a shunt of a RANGE 2 input opens with its flag and closes; a hart that debug may act on halts and resumes, steps when
halted, and its registers are written and read back. -/
def Obligations.AnalogAndDebugCommands : Prop :=
  ∀ s : State, Live s →
  (∀ (a v i : Nat), a < 2 → i < 8 → v = 2 ^ i → s.dev.get (Ent.Adc.STATE a) = 1 → s.dev.conv a = ⟨none, []⟩ →
    Gives (.adcStart a v) s fun d =>
      ((d.conv a).run.map (fun r => (r.seq, r.stamp, r.late, r.at_)) = some (i, s.dev.now % 2 ^ 32, false, s.dev.time.raw)) ∧ d.fld (Rg.Adcr.BUSY a) = 1 ∧ d.fld (Rg.Adcr.RUNNING a) = i ∧ (Out.answer .ok 0 ∈ d.out) ∧ Only Foot.adcStart s.dev d) ∧
  (∀ (a c : Nat) (codes : List Nat) (r : AdcRun), a < 2 → (s.dev.conv a).run = some r → (s.dev.conv a).pending = [] → r.seq < 8 → r.list.head? = some c → r.list.length ≤ 24 → (((List.range 48).all fun i => (KV.find (0x4110 + i) s.dev.d0.applying).isNone) = true) →
    Gives (.adcRunComplete a codes) s fun d =>
      d.conv a = ⟨none, []⟩ ∧ d.fld (Rg.Adcr.BUSY a) = 0 ∧ d.fld (Rg.Adcr.SEQ_COUNT a r.seq) = (s.dev.fld (Rg.Adcr.SEQ_COUNT a r.seq) + 1) % 65536 ∧ d.fld (Rg.Adcr.LEN a r.seq) = r.list.length ∧ d.fld (Rg.Adcr.STAMP a r.seq) = r.stamp % 2 ^ 32 ∧ d.fld (Rg.Adcr.RESULT_EVEN a r.seq 0) = KV.get 0 c d.adc.codes % 65536 ∧ Only Foot.adcRunComplete s.dev d) ∧
  (∀ (i : Nat), i < 16 → s.dev.get (Ent.Ain.RANGE i) = 2 → KV.find i s.dev.adc.shuntOpen = none →
    Gives (.shuntOpen i) s fun d =>
      KV.find i d.adc.shuntOpen = some s.dev.time.raw ∧ bit (d.get (Ent.Ain.FLAGS i)) 2 = true ∧ Only Foot.shuntOpen s.dev d) ∧
  (∀ (i t : Nat), KV.find i s.dev.adc.shuntOpen = some t → s.dev.passed t 1000000000 = true →
    Gives (.shuntClose i) s fun d =>
      KV.find i d.adc.shuntOpen = none ∧ Only Foot.shuntClose s.dev d) ∧
  (∀ (k : Nat), s.dev.mayAct k = true →
    Gives (.debugHalt k) s fun d =>
      d.hart k = { s.dev.hart k with halted := true } ∧ Only Foot.debugHalt s.dev d) ∧
  (∀ (k : Nat), s.dev.mayAct k = true →
    Gives (.debugResume k) s fun d =>
      d.hart k = { s.dev.hart k with halted := false, regs := [] } ∧ Only Foot.debugResume s.dev d) ∧
  (∀ (k : Nat), s.dev.mayAct k = true → (s.dev.hart k).halted = true →
    Gives (.debugStep k) s fun d =>
      d.hart k = { s.dev.hart k with regs := [] } ∧ Only Foot.debugStep s.dev d) ∧
  (∀ (k reg v : Nat), s.dev.mayAct k = true → (s.dev.hart k).halted = true →
    Gives (.accessRegister k reg (some v)) s fun d =>
      (KV.find reg (d.hart k).regs = some (v % 2 ^ (if k < 4 then 64 else 32))) ∧ d.out = [.answer .ok 0] ∧ Only Foot.accessRegister s.dev d) ∧
  (∀ (k reg v : Nat), s.dev.mayAct k = true → (s.dev.hart k).halted = true → KV.find reg (s.dev.hart k).regs = some v →
    Gives (.accessRegister k reg none) s fun d =>
      d.out = [.answer .ok v] ∧ Only Foot.accessRegister s.dev d)

/-- DMA channels move descriptors' data, and queue pairs move frames. In a running device: a scrub read with an uncorrectable error marks the code
word and counts; a TAIL write takes its value; an idle channel fetches the posted descriptor at HEAD; a copy that one burst covers moves the source's
bytes to the destination and ends OK; an ended descriptor whose write-backs are stored completes, HEAD advances; RESUME and ABORT clear a fault; INVAL
empties the translations; a posted TX frame that can be read is presented and completes; a frame for a ready queue pair is stored and completes. -/
def Obligations.DmaAndQueuePairCommands : Prop :=
  ∀ s : State, Live s →
  (∀ (a : Nat), region a = some .sysSram ∨ region a = some .tcm ∨ region a = some .image →
    Gives (.patrolScrub a 2) s fun d =>
      d.dma.poison.contains (codeWord a).1 = true ∧ d.get Ent.Mem.UE_LAST = (codeWord a).1 ∧ Only Foot.patrolScrub s.dev d) ∧
  (∀ (c hall v : Nat), hall = 0 ∨ hall = s.dev.dmaOwner c →
    Gives (.dmaTailWrite c hall v) s fun d =>
      d.fld (Rg.Dmar.TAIL c) = v % 2 ^ 12 ∧ (d.ch c).waits = false ∧ d.out = [.answer .ok 0] ∧ WordsBut [(Rg.Dmar.TAIL c).addr] s.dev d ∧ Only Foot.dmaTailWrite s.dev d) ∧
  (∀ (c : Nat) (b : Bytes), s.dev.get (Ent.Dma.STATE c) = 1 → s.dev.isSet (Rg.Dmar.ACTIVE c) = false → s.dev.isSet (Rg.Dmar.STOPPED c) = false → (s.dev.ch c).waits = false → s.dev.hallStopped (s.dev.dmaOwner c) = false → s.dev.fld (Rg.Dmar.HEAD c) ≠ s.dev.fld (Rg.Dmar.TAIL c) % s.dev.dmaRingSize c → s.dev.dmaRead c (s.dev.dmaRing c (s.dev.fld (Rg.Dmar.HEAD c))) 32 = (.ok, b) → bit (leAt b 0 4) 31 = true →
    Gives (.dmaDescriptorFetch c) s fun d =>
      d.fld (Rg.Dmar.ACTIVE c) = 1 ∧ (d.ch c).desc = b ∧ (d.ch c).done = 0 ∧ (d.ch c).ended = s.dev.descFault c b ∧ Only Foot.dmaDescriptorFetch s.dev d) ∧
  (∀ (c n src dst sp dp : Nat), s.dev.dmaWinner = some c → leAt (s.dev.ch c).desc 0 1 % 16 = 1 → (s.dev.ch c).done = 0 → n = leAt (s.dev.ch c).desc 4 4 → src = leAt (s.dev.ch c).desc 8 8 → dst = leAt (s.dev.ch c).desc 16 8 → n ≤ 512 → src % 4096 + n ≤ 4096 → dst % 4096 + n ≤ 4096 → s.dev.dmaWalk c src false = .page sp → s.dev.dmaWalk c dst true = .page dp → inMemory (sp + src % 4096) = true → inMemory (dp + dst % 4096) = true → s.dev.rangeStatus (s.dev.dmaSecure c) false (sp + src % 4096) n = .ok → s.dev.rangeStatus (s.dev.dmaSecure c) true (dp + dst % 4096) n = .ok →
    Gives (.dmaBurst) s fun d =>
      StoredAt (dp + dst % 4096) n (ofLe (s.dev.readMem (sp + src % 4096) n)) s.dev d ∧ (d.ch c).done = n ∧ (d.ch c).ended = some .ok ∧ Only Foot.dmaBurst s.dev d) ∧
  (∀ (c at_ : Nat) (e : Status), (s.dev.ch c).ended = some e → s.dev.isSet (Rg.Dmar.ACTIVE c) = true → s.dev.get (Ent.Dma.STATE c) ≠ 2 → (s.dev.ch c).await = [] → at_ = s.dev.dmaRing c (s.dev.fld (Rg.Dmar.HEAD c)) → (s.dev.dmaWrite c (at_ + 26) (le 2 e.code ++ le 4 (s.dev.ch c).done)).1 = .ok → ((s.dev.dmaWrite c (at_ + 26) (le 2 e.code ++ le 4 (s.dev.ch c).done)).2.dmaWrite c at_ (le 4 (setBit (leAt (s.dev.ch c).desc 0 4) 31 false))).1 = .ok →
    Gives (.dmaDescriptorComplete c) s fun d =>
      d.fld (Rg.Dmar.ACTIVE c) = 0 ∧ d.fld (Rg.Dmar.HEAD c) = (s.dev.fld (Rg.Dmar.HEAD c) + 1) % s.dev.dmaRingSize c % 2 ^ 12 ∧ d.fld (Rg.Dmar.CODE c) = e.code ∧ (d.ch c).ended = none ∧ Only Foot.dmaDescriptorComplete s.dev d) ∧
  (∀ (c hall : Nat), hall = 0 ∨ hall = s.dev.dmaOwner c → s.dev.isSet (Rg.Dmar.FAULTED c) = true →
    Gives (.dmaResume c hall) s fun d =>
      d.fld (Rg.Dmar.FAULTED c) = 0 ∧ d.out = [.answer .ok 0] ∧ Only Foot.dmaResume s.dev d) ∧
  (∀ (c hall : Nat), hall = 0 ∨ hall = s.dev.dmaOwner c → s.dev.isSet (Rg.Dmar.FAULTED c) = true → c < 64 →
    Gives (.dmaAbort c hall) s fun d =>
      d.fld (Rg.Dmar.FAULTED c) = 0 ∧ d.fld (Rg.Dmar.ACTIVE c) = 0 ∧ (Out.answer .ok 0 ∈ d.out) ∧ Only Foot.dmaAbort s.dev d) ∧
  (∀ (c hall : Nat), hall = 0 ∨ hall = s.dev.dmaOwner c → s.dev.get (Ent.Dma.STATE c) ≠ 0 →
    Gives (.dmaInval c hall) s fun d =>
      d.fld (Rg.Dmar.INVAL_BUSY c) = 1 ∧ d.out = [.answer .ok 0] ∧ Only Foot.dmaInval s.dev d) ∧
  (∀ (c : Nat), s.dev.isSet (Rg.Dmar.INVAL_BUSY c) = true → (s.dev.ch c).await = [] →
    Gives (.dmaInvalComplete c) s fun d =>
      d.fld (Rg.Dmar.INVAL_BUSY c) = 0 ∧ (d.ch c).tlb = [] ∧ Only Foot.dmaInvalComplete s.dev d) ∧
  (∀ (n q : Nat) (b f : Bytes), n < 4 → s.dev.get (Ent.Heng.STATE n) = 1 → s.dev.txNext n = some q → s.dev.txPosted q = some b → s.dev.txFault n q b = none → s.dev.hostRoom (48 + n) (leAt b 8 2) = true → s.dev.hallRead (s.dev.qpOwner q) (leAt b 0 8) (leAt b 8 2) = (.ok, f) →
    Gives (.qpTxFrame n) s fun d =>
      d.fld (Rg.Qpr.TX_HEAD q) = (s.dev.fld (Rg.Qpr.TX_HEAD q) + 1) % 2 ^ s.dev.fld (Rg.Qpr.TX_LOG2 q) % 2 ^ 12 ∧ d.get (qpCounter q 0).entry = min (s.dev.get (qpCounter q 0).entry + 1) (2 ^ 64 - 1) ∧ (Out.inject (48 + n) (parseFrame (f ++ zeros (60 - f.length))) ∈ d.out) ∧ Only Foot.qpTxFrame s.dev d) ∧
  (∀ (p c q h : Nat) (x : Copy) (b f : Bytes), 48 ≤ p → p ≤ 51 → s.dev.sw.txOf p = some (c, x) → x.handed = false → s.dev.unitOfHost p x.frame = none → s.dev.pickQp p x.hall0 x.frame.dst = some q → h = s.dev.qpOwner q → s.dev.hallStopped h = false → s.dev.rxReady q = true → b = (s.dev.hallRead h (s.dev.rxRecord q) 16).2 → f = frameBytes x.frame ++ zeros (60 - (frameBytes x.frame).length) → (s.dev.hallWrite h (leAt b 0 8) (f.take (leAt b 8 2))).1 = .ok → q < 256 →
    Gives (.qpRxFrame p) s fun d =>
      d.fld (Rg.Qpr.RX_HEAD q) = (s.dev.fld (Rg.Qpr.RX_HEAD q) + 1) % 2 ^ s.dev.fld (Rg.Qpr.RX_LOG2 q) % 2 ^ 12 ∧ d.get (qpCounter q 1).entry = min (s.dev.get (qpCounter q 1).entry + 1) (2 ^ 64 - 1) ∧ ((d.sw.queue p c).copies = (s.dev.sw.queue p c).copies.map fun y => if y = x then { y with handed := true } else y) ∧ Only Foot.qpRxFrame s.dev d)

/-- Hall commands, watchdogs and doorbells move a hall through its states. In a running device, for a hall 1 to 255 that no FREEZE brings to rest:
CREATE of an ABSENT hall gives RUNNING with a new epoch; DESTROY gives ABSENT; RESET gives RUNNING; FREEZE of a hall whose guests no core runs gives
FROZEN and waits for its rest, which completes it; THAW gives RUNNING; SAVE stores the state record; RESTORE of a valid record gives FROZEN; FAULT,
and a watchdog that is not kicked in time, fault the hall with its cause, FAULTED or reset as FAULT_ACTION says; a kick restarts the watchdog; hall
0's DOORBELL sets line 8. -/
def Obligations.HallCommands : Prop :=
  ∀ s : State, Live s →
  (∀ (n : Nat), 0 < n → n < 256 → s.dev.tenants.freezing.contains n = false → s.dev.hallState n = 0 → s.dev.rescue = false →
    Gives (.hallCreate n) s fun d =>
      d.hallState n = 1 ∧ d.epoch (.hall n) = nextEpoch (s.dev.epoch (.hall n)) ∧ d.get (Ent.Hall.CMD_STATUS n) = 0 ∧ Only Foot.hallCreate s.dev d) ∧
  (∀ (n : Nat), 0 < n → n < 256 → s.dev.tenants.freezing.contains n = false → [1, 2, 3, 4, 7].contains (s.dev.hallState n) = true →
    Gives (.hallDestroy n) s fun d =>
      d.hallState n = 0 ∧ d.get (Ent.Hall.CMD_STATUS n) = 0 ∧ Only Foot.hallDestroy s.dev d) ∧
  (∀ (n : Nat), 0 < n → n < 256 → s.dev.tenants.freezing.contains n = false → [1, 2, 3, 4].contains (s.dev.hallState n) = true →
    Gives (.hallReset n) s fun d =>
      d.hallState n = 1 ∧ d.get (Ent.Hall.CMD_STATUS n) = 0 ∧ Only Foot.hallReset s.dev d) ∧
  (∀ (n : Nat), 0 < n → n < 256 → s.dev.tenants.freezing.contains n = false → s.dev.hallState n = 1 → s.dev.guestOn n = false →
    Gives (.hallFreeze n) s fun d =>
      d.hallState n = 2 ∧ d.tenants.freezing.contains n = true ∧ Only Foot.hallFreeze s.dev d) ∧
  (∀ (n : Nat), s.dev.hallAtRest n = true → s.dev.tenants.freezing.contains n = true →
    Gives (.hallAtRest n) s fun d =>
      d.tenants.freezing = s.dev.tenants.freezing.erase n ∧ d.get (Ent.Hall.CMD_STATUS n) = 0 ∧ Only Foot.hallAtRest s.dev d) ∧
  (∀ (n : Nat), 0 < n → n < 256 → s.dev.tenants.freezing.contains n = false → s.dev.hallState n = 2 ∨ s.dev.hallState n = 7 →
    Gives (.hallThaw n) s fun d =>
      d.hallState n = 1 ∧ d.get (Ent.Hall.CMD_STATUS n) = 0 ∧ Only Foot.hallThaw s.dev d) ∧
  (∀ (n : Nat), 0 < n → n < 256 → s.dev.tenants.freezing.contains n = false → s.dev.hallState n = 2 ∨ s.dev.hallState n = 3 →
    Gives (.hallSave n) s fun d =>
      d.oct (Ent.Hall.HALL_STATE n) = (s.dev.hallRecord n).1 ∧ d.get (Ent.Hall.CMD_STATUS n) = 0 ∧ Only Foot.hallSave s.dev d) ∧
  (∀ (n : Nat), 0 < n → n < 256 → s.dev.tenants.freezing.contains n = false → s.dev.hallState n = 0 → s.dev.oct (Ent.Hall.HALL_STATE n) ≠ [] → (s.dev.restoreRecord n (s.dev.oct (Ent.Hall.HALL_STATE n))).1 = .ok →
    Gives (.hallRestore n) s fun d =>
      d.hallState n = 2 ∧ d.get (Ent.Hall.CMD_STATUS n) = 0 ∧ Only Foot.hallRestore s.dev d) ∧
  (∀ (n : Nat), 0 < n → n < 256 → s.dev.tenants.freezing.contains n = false → s.dev.hallState n = 1 ∨ s.dev.hallState n = 4 →
    Gives (.hallFaultCmd n) s fun d =>
      (d.hallState n = if s.dev.get (Ent.Hall.FAULT_ACTION n) = 1 then 1 else 3) ∧ d.get (Ent.Hall.FAULT_CAUSE n) = 3 ∧ d.get (Ent.Hall.CMD_STATUS n) = 0 ∧ Only Foot.hallFaultCmd s.dev d) ∧
  (∀ (n hall v : Nat), s.dev.pageStatus n hall = .ok → bit v 0 = true →
    Gives (.hallWdtKick n hall v) s fun d =>
      KV.find n d.tenants.kicked = some s.dev.time.raw ∧ d.out = [.answer .ok 0] ∧ Only Foot.hallWdtKick s.dev d) ∧
  (∀ (n : Nat), 0 < n → n < 256 → s.dev.get (Ent.Hall.WDT_MS n) ≠ 0 → s.dev.hallState n = 1 ∨ s.dev.hallState n = 4 → KV.get 0 n s.dev.tenants.kicked + s.dev.get (Ent.Hall.WDT_MS n) * 1000000 ≤ s.dev.time.raw →
    Gives (.hallWdtExpiry n) s fun d =>
      (d.hallState n = if s.dev.get (Ent.Hall.FAULT_ACTION n) = 1 then 1 else 3) ∧ d.get (Ent.Hall.FAULT_CAUSE n) = 2 ∧ Only Foot.hallWdtExpiry s.dev d) ∧
  (∀ (n v : Nat), bit v 0 = true →
    Gives (.hallDoorbell n 0 v) s fun d =>
      bit (d.fld (Rg.Hpg.LINES_SET n)) 0 = true ∧ d.out = [.answer .ok 0] ∧ Only Foot.hallDoorbell s.dev d)

/-- A hall's migration runs from MIGRATE to COMMIT, and its failures end it. In a running device: MIGRATE of a RUNNING hall on a device with a partner
and a lane, once accepted, gives PRECOPY; without an answer the request ends; a pass with no more dirty pages than MIG_DIRTY_MAX makes the migration
ready; GO then gives BLACKOUT, CANCEL gives RUNNING; READY of the partner makes the hall ABSENT here. On the partner a hall that fits ARRIVES, its
valid record restores it, COMMIT makes it RUN, and without COMMIT it is IN_DOUBT until the answer, which makes it RUN or ABSENT. -/
def Obligations.HallMigrationCommands : Prop :=
  ∀ s : State, Live s →
  (∀ (n : Nat), 0 < n → n < 256 → s.dev.tenants.freezing.contains n = false → s.dev.hallState n = 1 → s.dev.tenants.mig = none → s.dev.role = 1 ∨ s.dev.role = 2 → s.dev.upLane ≠ none → (s.dev.mappedPages n).length ≤ 524288 →
    Gives (.hallMigrate n (some .ok)) s fun d =>
      d.hallState n = 4 ∧ (d.tenants.mig.map (fun m => (m.hall, m.accepted, m.ready)) = some (n, true, false)) ∧ d.get (Ent.Hall.CMD_STATUS n) = 0 ∧ Only Foot.hallMigrate s.dev d) ∧
  (∀ (m : Migration), s.dev.tenants.mig = some m → m.accepted = false → s.dev.passed m.since 100000000 = true → m.hall < 256 →
    Gives (.migrateAcceptTimeout) s fun d =>
      d.tenants.mig = none ∧ d.get (Ent.Hall.CMD_STATUS m.hall) = Status.remoteTimeout.code * 65536 ∧ Only Foot.migrateAcceptTimeout s.dev d) ∧
  (∀ (m : Migration), s.dev.tenants.mig = some m → m.accepted = true → m.goAt = none → m.ready = false → 4 * (s.dev.dirtyPages m.hall).length ≤ m.dirtyMax →
    Gives (.migPassComplete) s fun d =>
      d.tenants.mig = some { m with ready := true } ∧ Only Foot.migPassComplete s.dev d) ∧
  (∀ (n : Nat) (m : Migration), 0 < n → n < 256 → s.dev.tenants.freezing.contains n = false → s.dev.hallState n = 4 → s.dev.tenants.mig = some m → m.hall = n → m.ready = true → s.dev.guestOn n = false → s.dev.stgStarted n = false →
    Gives (.hallGo n) s fun d =>
      d.hallState n = 5 ∧ d.tenants.mig = some { m with goAt := some s.dev.time.raw } ∧ Only Foot.hallGo s.dev d) ∧
  (∀ (n : Nat) (m : Migration), 0 < n → n < 256 → s.dev.tenants.freezing.contains n = false → s.dev.hallState n = 4 → s.dev.tenants.mig = some m → m.hall = n → m.accepted = true →
    Gives (.hallCancel n) s fun d =>
      d.hallState n = 1 ∧ d.tenants.mig = none ∧ d.get (Ent.Hall.CMD_STATUS n) = 0 ∧ Only Foot.hallCancel s.dev d) ∧
  (∀ (m : Migration), s.dev.tenants.mig = some m → m.sent = true → 0 < m.hall → m.hall < 256 →
    Gives (.migReadyReceive .ok) s fun d =>
      d.hallState m.hall = 0 ∧ d.tenants.mig = none ∧ d.get (Ent.Hall.CMD_STATUS m.hall) = 0 ∧ Only Foot.migReadyReceive s.dev d) ∧
  (∀ (n ccores : Nat) (insts : List (Nat × Nat)) (windows : Bytes), 0 < n → n < 256 → s.dev.migFits n insts ccores windows = true →
    Gives (.migAccept n insts ccores windows) s fun d =>
      d.hallState n = 6 ∧ KV.find n d.tenants.reserved = some insts ∧ Only Foot.migAccept s.dev d) ∧
  (∀ (n : Nat) (pages : List (Nat × Bytes)) (record : Bytes), 0 < n → n < 256 → s.dev.hallState n = 6 → s.dev.tenants.arrived.contains n = false → (((pages.foldl (fun d x => d.writeMem (x.1 * 4096) (slice x.2 0 4096)) s.dev).restoreRecord n record).1 = .ok) →
    Gives (.migStateReceived n pages record) s fun d =>
      d.tenants.arrived.contains n = true ∧ KV.find n d.tenants.reserved = none ∧ Only Foot.migStateReceived s.dev d) ∧
  (∀ (n : Nat), 0 < n → n < 256 → s.dev.hallState n = 6 → s.dev.tenants.arrived.contains n = true →
    Gives (.migCommitReceive n) s fun d =>
      d.hallState n = 1 ∧ d.get (hallCounter n 2).entry = min (s.dev.get (hallCounter n 2).entry + 1) (2 ^ 64 - 1) ∧ Only Foot.migCommitReceive s.dev d) ∧
  (∀ (n t : Nat), s.dev.tenants.lostAt = some t → s.dev.passed t 10000000 = true → 0 < n → n < 256 → s.dev.hallState n = 6 → s.dev.tenants.arrived.contains n = true →
    Gives (.migCommitTimeout n true) s fun d =>
      d.hallState n = 7 ∧ Only Foot.migCommitTimeout s.dev d) ∧
  (∀ (n : Nat) (committed : Bool), 0 < n → n < 256 → s.dev.hallState n = 7 →
    Gives (.inDoubtAnswer n committed) s fun d =>
      (d.hallState n = if committed then 1 else 0) ∧ Only Foot.inDoubtAnswer s.dev d)

/-- The crypto unit takes a job, performs its operation and completes it. In a running device: the idle unit takes a valid descriptor that software
owns at HEAD of its ring, with the first fault of R406; a job without an outcome whose reads and writes are allowed writes what its operation computes
from what it reads and ends with OK: the GCM ciphertext and tag, the plaintext of a matching tag, the SHA-256 or SHA-384 hash, the HMAC, the ECDSA
signature of P-256 or P-384, the free value of a random job, a copy; a verification ends with OK or INTEGRITY as the signature is valid, and writes
nothing; a job with an outcome completes: HEAD moves on, BUSY clears, CODE shows the status. -/
def Obligations.CryptoJobCommands : Prop :=
  ∀ s : State, Live s →
  (∀ (i a : Nat) (b : Bytes), i = s.dev.fld Rg.Cry.HEAD % s.dev.crySize → a = s.dev.cryRing + 64 * i → s.dev.mezz.job = none → i ≠ s.dev.fld Rg.Cry.TAIL % s.dev.crySize → s.dev.cryRingOk a = true → s.dev.rangeStatus true false a 64 = .ok → b = s.dev.readMem a 64 → bit (leAt b 1 1) 0 = true →
    Gives (.cryptoJobStart) s fun d =>
      d.mezz.job = some ⟨b, s.dev.cryFault (cryDesc b)⟩ ∧ d.fld Rg.Cry.BUSY = 1 ∧ Only Foot.cryptoJobStart s.dev d) ∧
  (∀ (j : CryptoJob) (c : CryDesc) (l : List Bytes) (r : Bytes × Bytes), JobRuns s.dev 1 j c → s.dev.cryReads c (Dev.cryKeyAt c 32 ++ [(c.input, c.len), (c.aad, c.aadLen), (c.aux, 12)]) = (.ok, l) → r = gcmSeal (s.dev.cryKey c 32 l) (nth (afterKey c l) 2) (nth (afterKey c l) 1) (nth (afterKey c l) 0) → s.dev.rangeStatus c.secure true c.output r.1.length = .ok → s.dev.rangeStatus c.secure true c.tag r.2.length = .ok →
    Gives (.cryptoGcmEncrypt) s fun d =>
      d.mem = ((s.dev.storeMem c.output r.1).storeMem c.tag r.2).mem ∧ d.mezz.job = some { j with ended := some .ok } ∧ Only Foot.cryptoGcmEncrypt s.dev d) ∧
  (∀ (j : CryptoJob) (c : CryDesc) (l : List Bytes) (t : Bytes), JobRuns s.dev 2 j c → s.dev.cryReads c (Dev.cryKeyAt c 32 ++ [(c.input, c.len), (c.aad, c.aadLen), (c.aux, 12), (c.tag, 16)]) = (.ok, l) → gcmOpen (s.dev.cryKey c 32 l) (nth (afterKey c l) 2) (nth (afterKey c l) 1) (nth (afterKey c l) 0) (nth (afterKey c l) 3) = some t → s.dev.rangeStatus c.secure true c.output t.length = .ok →
    Gives (.cryptoGcmDecrypt) s fun d =>
      BytesAt c.output t s.dev d ∧ d.mezz.job = some { j with ended := some .ok } ∧ Only Foot.cryptoGcmDecrypt s.dev d) ∧
  (∀ (j : CryptoJob) (c : CryDesc) (b : Bytes), JobRuns s.dev 3 j c → s.dev.cryRead c c.input c.len = (.ok, b) → s.dev.rangeStatus c.secure true c.output (sha256 b).length = .ok →
    Gives (.cryptoSha256) s fun d =>
      BytesAt c.output (sha256 b) s.dev d ∧ d.mezz.job = some { j with ended := some .ok } ∧ Only Foot.cryptoSha256 s.dev d) ∧
  (∀ (j : CryptoJob) (c : CryDesc) (b : Bytes), JobRuns s.dev 4 j c → s.dev.cryRead c c.input c.len = (.ok, b) → s.dev.rangeStatus c.secure true c.output (sha384 b).length = .ok →
    Gives (.cryptoSha384) s fun d =>
      BytesAt c.output (sha384 b) s.dev d ∧ d.mezz.job = some { j with ended := some .ok } ∧ Only Foot.cryptoSha384 s.dev d) ∧
  (∀ (j : CryptoJob) (c : CryDesc) (l : List Bytes) (t : Bytes), JobRuns s.dev 5 j c → s.dev.cryReads c (Dev.cryKeyAt c 32 ++ [(c.input, c.len)]) = (.ok, l) → t = hmacSha256 (s.dev.cryKey c 32 l) (nth (afterKey c l) 0) → s.dev.rangeStatus c.secure true c.output t.length = .ok →
    Gives (.cryptoHmac) s fun d =>
      BytesAt c.output t s.dev d ∧ d.mezz.job = some { j with ended := some .ok } ∧ Only Foot.cryptoHmac s.dev d) ∧
  (∀ (j : CryptoJob) (c : CryDesc) (l : List Bytes), JobRuns s.dev 6 j c → s.dev.cryReads c [(c.aux, 32), (c.aad, 64), (c.key, 64)] = (.ok, l) →
    Gives (.cryptoP256Verify) s fun d =>
      (d.mezz.job = some { j with ended := some (if p256.verify (nth l 2) (nth l 0) (nth l 1) then .ok else .integrity) }) ∧ Only Foot.cryptoP256Verify s.dev d) ∧
  (∀ (j : CryptoJob) (c : CryDesc) (l : List Bytes), JobRuns s.dev 7 j c → s.dev.cryReads c [(c.aux, 48), (c.aad, 96), (c.key, 96)] = (.ok, l) →
    Gives (.cryptoP384Verify) s fun d =>
      (d.mezz.job = some { j with ended := some (if p384.verify (nth l 2) (nth l 0) (nth l 1) then .ok else .integrity) }) ∧ Only Foot.cryptoP384Verify s.dev d) ∧
  (∀ (j : CryptoJob) (c : CryDesc) (l : List Bytes) (k : Nat), JobRuns s.dev 8 j c → s.dev.cryReads c (Dev.cryKeyAt c 32 ++ [(c.aux, 32)]) = (.ok, l) → k = ofBe (s.dev.cryKey c 32 l) → 0 < k → k < p256.n → s.dev.rangeStatus c.secure true c.output (p256.sign sha256 64 k (nth (afterKey c l) 0)).length = .ok →
    Gives (.cryptoP256Sign) s fun d =>
      BytesAt c.output (p256.sign sha256 64 k (nth (afterKey c l) 0)) s.dev d ∧ d.mezz.job = some { j with ended := some .ok } ∧ Only Foot.cryptoP256Sign s.dev d) ∧
  (∀ (j : CryptoJob) (c : CryDesc) (l : List Bytes) (k : Nat), JobRuns s.dev 9 j c → s.dev.cryReads c (Dev.cryKeyAt c 48 ++ [(c.aux, 48)]) = (.ok, l) → k = ofBe (s.dev.cryKey c 48 l) → 0 < k → k < p384.n → s.dev.rangeStatus c.secure true c.output (p384.sign sha384 128 k (nth (afterKey c l) 0)).length = .ok →
    Gives (.cryptoP384Sign) s fun d =>
      BytesAt c.output (p384.sign sha384 128 k (nth (afterKey c l) 0)) s.dev d ∧ d.mezz.job = some { j with ended := some .ok } ∧ Only Foot.cryptoP384Sign s.dev d) ∧
  (∀ (j : CryptoJob) (c : CryDesc), JobRuns s.dev 10 j c → s.dev.rangeStatus c.secure true c.output c.len = .ok →
    Gives (.cryptoRandom) s fun d =>
      BytesAt c.output (le c.len (Config.freeValue (8 * c.len) s.dev.free).toNat) s.dev d ∧ d.mezz.job = some { j with ended := some .ok } ∧ Only Foot.cryptoRandom s.dev d) ∧
  (∀ (j : CryptoJob) (c : CryDesc) (b : Bytes), JobRuns s.dev 11 j c → s.dev.cryRead c c.input c.len = (.ok, b) → s.dev.rangeStatus c.secure true c.output b.length = .ok →
    Gives (.cryptoCopy) s fun d =>
      BytesAt c.output b s.dev d ∧ d.mezz.job = some { j with ended := some .ok } ∧ Only Foot.cryptoCopy s.dev d) ∧
  (∀ (b : Bytes) (e : Status), s.dev.mezz.job = some ⟨b, some e⟩ → s.dev.mezz.clearing = [] →
    Gives (.cryptoJobComplete) s fun d =>
      d.mezz.job = none ∧ d.fld Rg.Cry.HEAD = (s.dev.fld Rg.Cry.HEAD % s.dev.crySize + 1) % s.dev.crySize ∧ d.fld Rg.Cry.BUSY = 0 ∧ d.fld Rg.Cry.CODE = e.code ∧ Only Foot.cryptoJobComplete s.dev d)

/-- Watermarks, leases, key slots, lifecycle, fuses and the secure watchdog take their commands. In a running device: a watermark that is not locked
takes a value up to its limit and locks; a lease entry takes a gate that no other entry has, and is released; CLEAR of a slot that no job uses empties
it; LC_ADVANCE takes DEVELOP to PRODUCTION; a valid return token takes PRODUCTION to RETURNED, a valid debug token turns its enables on; a fuse key
that is not the last is revoked; the rollback counter moves up to at most 64; a kick restarts the secure watchdog, half its period raises M0's source
5, and its expiry restarts the device. -/
def Obligations.MezzanineCommands : Prop :=
  ∀ s : State, Live s →
  (∀ (i v : Nat) (reg : Bool), i ≤ 2 → s.dev.isSet (Rg.Wm.LOCKED i) = false → v ≤ s.dev.watermarkMax i → v < 2 ^ 20 →
    Gives (.watermarkWrite i v reg) s fun d =>
      d.fld (Rg.Wm.GRANULES i) = v ∧ d.fld (Rg.Wm.LOCKED i) = 1 ∧ Only Foot.watermarkWrite s.dev d) ∧
  (∀ (i g : Nat) (reg : Bool), i ≤ 63 → g ≤ 767 → s.dev.leaseFault i g = none →
    Gives (.leaseTake i g reg) s fun d =>
      d.fld (Rg.Lsr.VALID i) = 1 ∧ d.fld (Rg.Lsr.GATE i) = g ∧ Only Foot.leaseTake s.dev d) ∧
  (∀ (i : Nat) (reg : Bool), i ≤ 63 →
    Gives (.leaseRelease i reg) s fun d =>
      d.leaseGate i = none ∧ Only Foot.leaseRelease s.dev d) ∧
  (∀ (k : Nat), k ≤ 31 → s.dev.keyBusy k = false →
    Gives (.keyClear k) s fun d =>
      d.flag (Ent.Key.LOADED k) = false ∧ d.get (Ent.Key.USAGE k) = 0 ∧ d.oct (Ent.Key.KEY k) = zeros 48 ∧ Only Foot.keyClear s.dev d) ∧
  (s.dev.get Ent.Sec.LIFECYCLE = 0 →
    Gives (.lcAdvance) s fun d =>
      d.get Ent.Sec.LIFECYCLE = 1 ∧ Only Foot.lcAdvance s.dev d) ∧
  (∀ (b pub : Bytes), s.dev.get Ent.Sec.LIFECYCLE = 1 → s.dev.tokenOk (bytesOf [0x4E, 0x52, 0x54, 0x4E]) b pub = true → leAt b 6 1 = 0 →
    Gives (.returnToken b pub) s fun d =>
      d.get Ent.Sec.LIFECYCLE = 2 ∧ d.flag (Ent.Key.LOADED 0) = false ∧ d.mezz.inhibited = true ∧ Only Foot.returnToken s.dev d) ∧
  (∀ (b pub : Bytes), s.dev.tokenOk (bytesOf [0x4E, 0x44, 0x42, 0x54]) b pub = true →
    Gives (.debugToken b pub) s fun d =>
      d.get Ent.Sec.DBG_ACTIVE = orBits (s.dev.get Ent.Sec.DBG_ACTIVE) (leAt b 6 1 % 16) ∧ Only Foot.debugToken s.dev d) ∧
  (∀ (i : Nat), i ≤ 3 → setBit (s.dev.get Ent.Sec.KEY_REVOKED) i true % 16 ≠ 15 →
    Gives (.keyRevoke i) s fun d =>
      d.get Ent.Sec.KEY_REVOKED = setBit (s.dev.get Ent.Sec.KEY_REVOKED) i true ∧ Only Foot.keyRevoke s.dev d) ∧
  (∀ (n : Nat), s.dev.get Ent.Sec.ROLLBACK ≤ n → n ≤ 64 →
    Gives (.rollbackSet n) s fun d =>
      d.get Ent.Sec.ROLLBACK = n ∧ Only Foot.rollbackSet s.dev d) ∧
  (Gives (.swdtKick 0xC35A) s fun d =>
      d.mezz.kick = s.dev.time.raw ∧ d.mezz.period = s.dev.fld Rg.Swd.PERIOD_MS ∧ Only Foot.swdtKick s.dev d) ∧
  (s.dev.swdtRuns = true → s.dev.swdtAged (s.dev.mezz.period * 500) = true →
    Gives (.swdtHalfPeriod) s fun d =>
      d.fld (Rg.M0Src.PENDING 5) = 1 ∧ WordsBut [(Rg.M0Src.PENDING 5).addr] s.dev d ∧ Only Foot.swdtHalfPeriod s.dev d) ∧
  (∀ (env : BootEnv), s.dev.swdtRuns = true → s.dev.swdtAged (s.dev.mezz.period * 1000) = true →
    Gives (.swdtExpired env) s fun d =>
      d.power.phase = .running ∧ Only Foot.swdtExpired s.dev d)

/-- Sources, PLLs and domain switches go on, fail and recover as the clock rules say. In a running device: a detector's report makes an enabled source
stable; a PLL of a running domain locks; a measurement of RCO takes the trim source in use and its error; modulation of mode 1 ends; a trip takes the
source out of the stable ones, raises M0's source 7, and a domain that ran on it stops and waits for its fallback; an APPLY's switch and a revert stop
the domain and name the new source; the restart takes it, with SWITCHES one more, and adds 480 to the raw counter for TB; a forced switch marks the
domain forced and uncertain; with no source the device enters the safe state, raises the SAFE lines and puts the time base out of quality; a source
stable for 100 us ends it; an idle device's DRAM enters self-refresh. -/
def Obligations.ClockSourceAndSwitchCommands : Prop :=
  ∀ s : State, Live s →
  (∀ (src : Nat), src ≤ 2 → s.dev.sourceEnabled src = true → s.dev.sourceStable src = false →
    Gives (.sourceStable src) s fun d =>
      d.sourceStable src = true ∧ KV.find src d.clk.since = some s.dev.time.raw ∧ Only Foot.sourceStable s.dev d) ∧
  (∀ (k : Nat), k ≤ 3 → s.dev.domStopped k = false → (s.dev.dom k).locked = false →
    Gives (.pllLock k) s fun d =>
      (d.dom k).locked = true ∧ (d.dom k).word = true ∧ (if k = 3 ∧ s.dev.get Ent.Clk.SSC_MODE = 2 then d.flag Ent.Clk.SSC_ACTIVE = true else True) ∧ Only Foot.pllLock s.dev d) ∧
  (∀ (err : Int), Gives (.rcoTrim err) s fun d =>
      d.get Ent.Clk.TRIM_IN_USE = s.dev.trimPick ∧ (if s.dev.trimPick = 5 then d.get Ent.Clk.RCO_ERR_PPM = s.dev.get Ent.Clk.RCO_ERR_PPM else d.get Ent.Clk.RCO_ERR_PPM = ofInt 32 err) ∧ Only Foot.rcoTrim s.dev d) ∧
  (Gives (.sscEnd) s fun d =>
      d.flag Ent.Clk.SSC_ACTIVE = (s.dev.flag Ent.Clk.SSC_ACTIVE && s.dev.get Ent.Clk.SSC_MODE == 2) ∧ Only Foot.sscEnd s.dev d) ∧
  (∀ (src cause k : Nat), src ≤ 2 → k ≤ 3 → s.dev.sourceEnabled src = true → s.dev.sourceStable src = true → s.dev.domSource k = src →
    Gives (.clkTrip src cause) s fun d =>
      d.sourceStable src = false ∧ d.domStopped k = true ∧ (d.dom k).old = src ∧ (d.dom k).target = (s.dev.putBit Ent.Clk.SRC_STATUS src false).fallback k ∧ d.fld (Rg.M0Src.PENDING 7) = 1 ∧ Only Foot.clkTrip s.dev d) ∧
  (∀ (k t : Nat), k ≤ 3 → s.dev.switchAsked k = some t → s.dev.maySwitch k t = true →
    Gives (.domainSwitch k) s fun d =>
      d.domStopped k = true ∧ d.dom k = { s.dev.dom k with locked := false, word := true, old := s.dev.domSource k, target := some t } ∧ Only Foot.domainSwitch s.dev d) ∧
  (∀ (k r : Nat), k ≤ 3 → 0 < s.dev.get (Ent.Dom.REVERT_S k) → KV.find (s.dev.get (Ent.Dom.REF_SEL k)) s.dev.clk.since = some r → r + s.dev.get (Ent.Dom.REVERT_S k) * 1000000000 ≤ s.dev.time.raw → s.dev.maySwitch k (s.dev.get (Ent.Dom.REF_SEL k)) = true →
    Gives (.revertTimeout k) s fun d =>
      d.domStopped k = true ∧ (d.dom k).target = some (s.dev.get (Ent.Dom.REF_SEL k)) ∧ Only Foot.revertTimeout s.dev d) ∧
  (∀ (k t : Nat), k ≤ 3 → s.dev.domStopped k = true → (s.dev.dom k).target = some t → s.dev.sourceStable (s.dev.dom k).old = true →
    Gives (.domainSwitchComplete k) s fun d =>
      d.domSource k = t % 256 ∧ (d.dom k).locked = false ∧ (d.dom k).target = none ∧ (d.time.raw = if k = 2 then s.dev.time.raw + 480 else s.dev.time.raw) ∧ Only Foot.domainSwitchComplete s.dev d) ∧
  (∀ (k t : Nat), k ≤ 3 → s.dev.domStopped k = true → (s.dev.dom k).target = some t → s.dev.sourceStable (s.dev.dom k).old = false →
    Gives (.forcedSwitch k) s fun d =>
      d.domSource k = t % 256 ∧ d.get (Ent.Dom.CLKSW_FORCED k) = 1 ∧ d.get (Ent.Dom.UNCERTAIN k) = 1 ∧ (if k = 2 then d.time.quality = 0 else True) ∧ Only Foot.forcedSwitch s.dev d) ∧
  (∀ (k : Nat), k ≤ 3 → s.dev.flag Ent.Clk.REF_LOSS = false → s.dev.sleep.target = 0 → s.dev.domStopped k = true → (s.dev.dom k).target = none → s.dev.aged s.dev.clk.waitAt 40000 = true →
    Gives (.refLoss) s fun d =>
      d.flag Ent.Clk.REF_LOSS = true ∧ d.time.quality = 0 ∧ d.clk.lossAt = s.dev.time.raw ∧ ((∀ g, g < 3 → Out.line "SAFE" g true ∈ d.out)) ∧ Only Foot.refLoss s.dev d) ∧
  (∀ (src r : Nat), s.dev.flag Ent.Clk.REF_LOSS = true → src ≤ 2 → s.dev.sourceEnabled src = true → s.dev.sourceStable src = true → KV.find src s.dev.clk.since = some r → r + 100000 ≤ s.dev.time.raw →
    Gives (.refLossEnd) s fun d =>
      d.flag Ent.Clk.REF_LOSS = false ∧ ((List.range 4).all (fun k => !d.domStopped k) = true) ∧ Only Foot.refLossEnd s.dev d) ∧
  (s.dev.idle = true → s.dev.passed s.dev.clk.dramAt 10000 = true → bit (s.dev.get (gateEntry 5)) 7 = true →
    Gives (.dramIdleSelfRefresh) s fun d =>
      d.clk.selfRefresh = true ∧ Only Foot.dramIdleSelfRefresh s.dev d)

/-- Gate writes turn a unit's clock on or off and UNIT_RESET gives a unit its reset state. In a running device: a gate write with REQ 1 to a listed
gate that nothing refuses turns the gate and those above it on, and completes with OK in its entry's CODE; one with REQ 0 that passes the checks of
Table 18.8 turns the gate off; on a gate that may not go off it completes with the code of the first check that fails, and the state stays; a gate
with AUTO 1 parks while its unit is idle, and a demand turns a parked gate back on; a UNIT_RESET of a gate whose unit is free counts, and a trigger
unit goes on with its enable and its next instant through its own; a value that names no unit completes with NO_SUBINDEX where it could be a gate and
OUT_OF_RANGE beyond. -/
def Obligations.GateAndUnitResetCommands : Prop :=
  ∀ s : State, Live s →
  (∀ (g v : Nat) (secure : Bool), gateListed g = true → gateWriteOk g v = true → s.dev.lowers g v secure = false → s.dev.flag Ent.Clk.REF_LOSS = false → s.dev.gateState g ≤ 2 →
    Gives (.gateOn g v secure) s fun d =>
      d.gateState g = 1 ∧ bits (d.get (gateEntry g)) 31 16 = Status.ok.code ∧ Only Foot.gateOn s.dev d) ∧
  (∀ (g v : Nat) (secure : Bool), gateListed g = true → gateWriteOk g v = true → s.dev.gateOffFault g secure = .ok → s.dev.lowers g v secure = false →
    Gives (.gateOff g v secure) s fun d =>
      d.gateState g = 0 ∧ bits (d.get (gateEntry g)) 31 16 = Status.ok.code ∧ Only Foot.gateOff s.dev d) ∧
  (∀ (g v : Nat) (secure : Bool) (st : Status), gateListed g = true → gateWriteOk g v = true → s.dev.gateOffFault g secure = st → st ≠ .ok →
    Gives (.gateOff g v secure) s fun d =>
      d.gateState g = s.dev.gateState g ∧ bits (d.get (gateEntry g)) 31 16 = st.code ∧ Only Foot.gateOff s.dev d) ∧
  (∀ (g : Nat), gateListed g = true → 10 < g → s.dev.gateState g = 1 → bit (s.dev.get (gateEntry g)) 3 = true → s.dev.gateIdle g = true →
    Gives (.gatePark g) s fun d =>
      d.gateState g = 2 ∧ Only Foot.gatePark s.dev d) ∧
  (∀ (g : Nat), gateListed g = true → s.dev.gateState g = 2 →
    Gives (.gateUnpark g) s fun d =>
      d.gateState g = 1 ∧ Only Foot.gateUnpark s.dev d) ∧
  (∀ (v : Nat) (secure : Bool), 160 ≤ v → v ≤ 191 → secure = true ∨ s.dev.leased v = false →
    Gives (.unitReset v secure) s fun d =>
      d.get (Ent.Trgu.ENABLE (v - 160)) = s.dev.get (Ent.Trgu.ENABLE (v - 160)) ∧ d.get (Ent.Trgu.NEXT_NS (v - 160)) = s.dev.get (Ent.Trgu.NEXT_NS (v - 160)) ∧ d.get (powerCounter 4).entry = min (s.dev.get (powerCounter 4).entry + 1) (2 ^ 64 - 1) ∧ Only Foot.unitReset s.dev d) ∧
  (∀ (v : Nat) (secure : Bool), gateListed v = false → v < 0x1000 ∨ 0x1002 < v → KV.find Ent.Pwr.UNIT_RESET.key s.dev.d0.waits = none →
    Gives (.unitReset v secure) s fun d =>
      (d.out = [.answer (if v ≤ 767 then .noSubindex else .outOfRange) 0]) ∧ Only ⟨[], [], []⟩ s.dev d)

/-- Supply and resets take the device through its phases. VAUX_ON starts a device without supply: it runs, its dictionary answers and its device log
is open. VAUX below VAUX_POR leaves a device in any other phase without supply, with its memories empty. RESET_N low holds the device in chip reset,
with the record of cause 2; RESET_N high starts it again. A fatal fault with detail 2 holds it with the record of cause 4, and another one restarts
it; the held device starts when the die has cooled. -/
def Obligations.SupplyAndResetCommands : Prop :=
  ∀ s : State,
  (∀ (env : BootEnv), s.dev.power.phase = .off →
    Gives (.vauxOn env) s fun d =>
      d.power.phase = .running ∧ d.d0.running = true ∧ d.logs.isOpen = true ∧ Only Foot.vauxOn s.dev d) ∧
  (s.dev.power.phase ≠ .off →
    Gives (.vauxPor) s fun d =>
      d.power.phase = .off ∧ d.mem = [] ∧ Out.line "REGEN" 0 false ∈ d.out ∧ Only Foot.vauxPor s.dev d) ∧
  (s.dev.power.phase = .running →
    Gives (.resetNLow) s fun d =>
      d.power.phase = .held true false ∧ d.get Ent.Pwr.RESET_REASON = 0x01020000 ∧ Out.line "FAULT_N" 0 false ∈ d.out ∧ Only Foot.resetNLow s.dev d) ∧
  (∀ (env : BootEnv), s.dev.power.phase = .held true false →
    Gives (.resetNHigh env) s fun d =>
      d.power.phase = .running ∧ d.d0.running = true ∧ d.logs.isOpen = true ∧ Only Foot.resetNHigh s.dev d) ∧
  (∀ (rail mv : Nat) (env : BootEnv), s.dev.awake = true →
    Gives (.fatalFault 2 rail mv env) s fun d =>
      d.power.phase = .held false true ∧ d.get Ent.Pwr.RESET_REASON = 0x01040002 ∧ Only Foot.fatalFault s.dev d) ∧
  (∀ (detail rail mv : Nat) (env : BootEnv), s.dev.awake = true → detail = 1 ∨ detail = 3 ∨ detail = 4 →
    Gives (.fatalFault detail rail mv env) s fun d =>
      d.power.phase = .running ∧ d.d0.running = true ∧ d.logs.isOpen = true ∧ Only Foot.fatalFault s.dev d) ∧
  (∀ (env : BootEnv), s.dev.power.phase = .held false true →
    Gives (.overtempClear env) s fun d =>
      d.power.phase = .running ∧ d.d0.running = true ∧ d.logs.isOpen = true ∧ Only Foot.overtempClear s.dev d)

/-- WARM_RESET and an A core's fatal complete, and restart the device. In a running device, while no sleep entry has begun its steps and no power fail
lasts: a write of 1 to WARM_RESET and a fatal of an A core each give a next state, in which the device runs again, its dictionary answers,
RESET_REASON holds the record of a warm reset with cause 7 and the writer's world or cause 8 and the core, and WARM_RESETS has counted; a write in a
power fail gives a next state too, with the answer WRONG_STATE and nothing else. -/
def Obligations.WarmResetCommands : Prop :=
  ∀ s : State, Live s →
  (∀ (secure : Bool) (ms : Nat), s.dev.warmAllowed = true → s.dev.get Ent.Pwr.PF_STATE = 0 →
    Gives (.warmReset secure ms) s fun d =>
      d.power.phase = .running ∧ d.d0.running = true ∧ d.get Ent.Pwr.RESET_REASON = 0x02070000 + b2n secure ∧ d.get (powerCounter 3).entry = min (s.dev.get (powerCounter 3).entry + 1) (2 ^ 64 - 1) ∧ Only Foot.warmReset s.dev d) ∧
  (∀ (core ms : Nat), core ≤ 3 → s.dev.warmAllowed = true → s.dev.get Ent.Pwr.PF_STATE = 0 →
    Gives (.aCoreFatal core ms) s fun d =>
      d.power.phase = .running ∧ d.d0.running = true ∧ d.get Ent.Pwr.RESET_REASON = 0x02080000 + core ∧ d.get (powerCounter 3).entry = min (s.dev.get (powerCounter 3).entry + 1) (2 ^ 64 - 1) ∧ Only Foot.aCoreFatal s.dev d) ∧
  (∀ (secure : Bool) (ms : Nat), s.dev.get Ent.Pwr.PF_STATE ≠ 0 → KV.find Ent.Pwr.WARM_RESET.key s.dev.d0.waits = none →
    Gives (.warmReset secure ms) s fun d =>
      d.out = [.answer .wrongState 0] ∧ Only ⟨[], [], []⟩ s.dev d)

/-- A power fail and its end complete. In a running device: a power fail where none lasts gives a next state in which PF_STATE is 1, the supply's
loads are frozen, M0's source 6 is pending and POWER_FAILS has counted; the recovery of VAUX after PF_RECOVER_MS, while no save runs, gives a next
state in which PF_STATE is 0, the loads go on, RECOVERIES has counted and every enabled CAN channel waits for its bus. -/
def Obligations.PowerFailCommands : Prop :=
  ∀ s : State, Live s →
  (s.dev.get Ent.Pwr.PF_STATE = 0 →
    Gives (.powerFail) s fun d =>
      d.get Ent.Pwr.PF_STATE = 1 ∧ d.supply.frozen = true ∧ d.power.pfSince = s.dev.time.raw ∧ d.fld (Rg.M0Src.PENDING 6) = 1 ∧ d.get (powerCounter 0).entry = min (s.dev.get (powerCounter 0).entry + 1) (2 ^ 64 - 1) ∧ Only Foot.powerFail s.dev d) ∧
  (s.dev.get Ent.Pwr.PF_STATE ≠ 0 → s.dev.scan.saving = none → s.dev.aged s.dev.power.pfSince (s.dev.get Ent.Pf.PF_RECOVER_MS * 1000000) = true →
    Gives (.powerRestored) s fun d =>
      d.get Ent.Pwr.PF_STATE = 0 ∧ d.supply.frozen = false ∧ d.get (powerCounter 1).entry = min (s.dev.get (powerCounter 1).entry + 1) (2 ^ 64 - 1) ∧ (((List.range 16).all fun n => s.dev.get (Ent.CanSt.STATE n) != 1 || d.fld (Rg.Ch.BUS n) == 3) = true) ∧ Only Foot.powerRestored s.dev d)

/-- Storage commands are fetched, run against the sectors and written back. In a running device with storage mounted: a descriptor of the hall's ring
that is owned is fetched, with the outcome of the checks of Table 20.6; for a command of one sector, READ stores the sector at the buffer and nothing
else, WRITE gives the sector the buffer's bytes, APPEND places them at LOG_NEXT and moves it 4,096 on, and LOG_READ stores the log's sector; TRIM
makes every sector it names read as zeros; FLUSH empties the write buffer; a command with its outcome writes STATUS, DONE and its flags with OWN 0 to
the descriptor, and HEAD passes it. -/
def Obligations.StorageRingCommands : Prop :=
  ∀ s : State, Live s →
  (∀ (h i : Nat) (x : Bytes) (c : StCmd), s.dev.nandOn = true → s.dev.isSet (Rg.Stg.STOPPED h) = false → s.dev.hallStopped h = false → s.dev.hallExists h = true → (((s.dev.ring h).filter fun c => !c.back).length < 8) → i = (s.dev.fld (Rg.Stg.HEAD h) + (s.dev.ring h).length) % s.dev.stgSize h → i ≠ s.dev.fld (Rg.Stg.TAIL h) % s.dev.stgSize h → ((s.dev.translate h false (s.dev.stgRing h i) 32).all (fun a => !s.dev.isD a) = true) → s.dev.hallRead h (s.dev.stgRing h i) 32 = (.ok, x) → c = ⟨i, leAt x 0 2, leAt x 4 4, leAt x 8 8, leAt x 16 8, 0, none, false⟩ → bit c.ctrl 15 = true → (c.op = 4 → (s.dev.ring h).all (·.back) = true) →
    Gives (.storageDescriptorFetch h) s fun d =>
      d.ring h = s.dev.ring h ++ [{ c with ended := s.dev.stgFault h (leAt x 2 2) c }] ∧ d.isSet (Rg.Stg.ACTIVE h) = true ∧ Only Foot.storageDescriptorFetch s.dev d) ∧
  (∀ (i n : Nat) (w : NandWork) (c : StCmd), s.dev.stgCmd 0 i 1 = some c → s.dev.writeAhead 0 c = false → 1 ≤ n → c.done = 0 → c.count = 1 → c.addr % 4096 = 0 → s.dev.isD c.addr = false → s.dev.rangeStatus false true c.addr 4096 = .ok → s.dev.sto.bad.contains (partKey 0 c.lba) = false → w.bad.contains 0 = false → (s.dev.sector (partKey 0 c.lba)).length = 4096 →
    Gives (.storageRead 0 i n w) s fun d =>
      BytesAt c.addr (s.dev.sector (partKey 0 c.lba)) s.dev d ∧ { c with done := 1, ended := some .ok } ∈ d.ring 0 ∧ Only Foot.storageRead s.dev d) ∧
  (∀ (h i n : Nat) (w : NandWork) (c : StCmd) (x : Bytes), s.dev.stgCmd h i 2 = some c → 1 ≤ n → c.done = 0 → c.count = 1 → c.addr % 4096 = 0 → s.dev.bufferOk h c = true → s.dev.hallRead h c.addr 4096 = (.ok, x) →
    Gives (.storageWrite h i n w) s fun d =>
      d.sector (partKey h c.lba) = x ∧ { c with done := 1, ended := some .ok } ∈ d.ring h ∧ Only Foot.storageWrite s.dev d) ∧
  (∀ (h i j : Nat) (c : StCmd), s.dev.stgCmd h i 3 = some c → j < c.count →
    Gives (.storageTrim h i) s fun d =>
      d.sector (partKey h (c.lba + j)) = zeros 4096 ∧ { c with done := c.count, ended := some .ok } ∈ d.ring h ∧ Only Foot.storageTrim s.dev d) ∧
  (∀ (h i : Nat) (c : StCmd), s.dev.stgCmd h i 4 = some c →
    Gives (.storageFlush h i) s fun d =>
      d.sto.buffer = [] ∧ { c with ended := some .ok } ∈ d.ring h ∧ Only Foot.storageFlush s.dev d) ∧
  (∀ (i n : Nat) (w : NandWork) (c : StCmd) (x : Bytes), s.dev.stgCmd 0 i 5 = some c → 1 ≤ n → c.done = 0 → c.count = 1 → bit c.ctrl 31 = false → c.addr % 4096 = 0 → s.dev.bufferOk 0 c = true → s.dev.hallRead 0 c.addr 4096 = (.ok, x) → s.dev.get Ent.Stlog.LOG_MIB ≠ 0 → s.dev.get Ent.Stlog.LOG_NEXT + 4096 ≤ s.dev.get Ent.Stlog.LOG_OLDEST + s.dev.get Ent.Stlog.LOG_MIB * 1048576 → s.dev.get Ent.Stlog.LOG_NEXT + 4096 < 2 ^ 64 →
    Gives (.storageAppend i n w) s fun d =>
      d.get Ent.Stlog.LOG_NEXT = s.dev.get Ent.Stlog.LOG_NEXT + 4096 ∧ d.sector (logKey (s.dev.get Ent.Stlog.LOG_NEXT)) = x ∧ { c with ctrl := setBit c.ctrl 31 true, lba := s.dev.get Ent.Stlog.LOG_NEXT, done := 1, ended := some .ok } ∈ d.ring 0 ∧ Only Foot.storageAppend s.dev d) ∧
  (∀ (i n : Nat) (w : NandWork) (c : StCmd), s.dev.stgCmd 0 i 6 = some c → 1 ≤ n → c.done = 0 → c.count = 1 → c.addr % 4096 = 0 → s.dev.isD c.addr = false → s.dev.rangeStatus false true c.addr 4096 = .ok → s.dev.get Ent.Stlog.LOG_OLDEST ≤ c.lba → s.dev.sto.bad.contains (logKey c.lba) = false → w.bad.contains 0 = false → (s.dev.sector (logKey c.lba)).length = 4096 →
    Gives (.storageLogRead i n w) s fun d =>
      BytesAt c.addr (s.dev.sector (logKey c.lba)) s.dev d ∧ { c with done := 1, ended := some .ok } ∈ d.ring 0 ∧ Only Foot.storageLogRead s.dev d) ∧
  (∀ (i : Nat) (c : StCmd) (st : Status), s.dev.hallStopped 0 = false → s.dev.isSet (Rg.Stg.STOPPED 0) = false → s.dev.ring 0 = [c] → c.idx = i → c.back = false → c.ended = some st → c.op ≠ 5 → s.dev.rangeStatus false true (s.dev.stgRing 0 i + 24) 8 = .ok → s.dev.rangeStatus false true (s.dev.stgRing 0 i) 2 = .ok →
    Gives (.storageCmdComplete 0 i) s fun d =>
      d.readMem (s.dev.stgRing 0 i + 24) 8 = le 2 st.code ++ zeros 2 ++ le 4 c.done ∧ d.readMem (s.dev.stgRing 0 i) 2 = le 2 (setBit (c.ctrl % 65536) 15 false) ∧ d.fld (Rg.Stg.CODE 0) = st.code ∧ d.fld (Rg.Stg.HEAD 0) = (s.dev.fld (Rg.Stg.HEAD 0) + 1) % s.dev.stgSize 0 % 1024 ∧ d.ring 0 = [] ∧ Only Foot.storageCmdComplete s.dev d)

/-- Storage upkeep counts and keeps its records; the update commands move the staged and the running image's states. In a running device: the event
log's waiting records become durable in order once a commit is due, while there is room; a block refresh counts; the scrub marks the sectors it finds
bad; a mount makes storage ready; erasing the partition of a hall that does not run makes it read as zeros, and that of a tenant hall that exists is
refused; ARM arms a whole staged image, and without one is refused; DISCARD empties the staging area; CONFIRM ends the trial of the running image;
RETRY_ACTIVE, in the rescue image, clears FAILED_STARTS. -/
def Obligations.StorageUpkeepAndUpdateCommands : Prop :=
  ∀ s : State, Live s →
  (s.dev.nandOn = true → s.dev.commitDue = true → s.dev.logs.events.length + s.dev.logs.waiting.length ≤ 33554432 →
    Gives (.eventLogCommit) s fun d =>
      d.logs.waiting = [] ∧ d.logs.events = s.dev.logs.events ++ s.dev.logs.waiting ∧ d.get Ent.Evl.EVENT_NEXT = (s.dev.get Ent.Evl.EVENT_NEXT + s.dev.logs.waiting.length) % 2 ^ Ent.Evl.EVENT_NEXT.bits ∧ Only Foot.eventLogCommit s.dev d) ∧
  (∀ (w : NandWork), s.dev.nandOn = true → s.dev.get Ent.Sto.REFRESHES < 2 ^ 64 - 1 →
    Gives (.blockRefresh w) s fun d =>
      d.get Ent.Sto.REFRESHES = s.dev.get Ent.Sto.REFRESHES + 1 ∧ d.get Ent.Sto.ERASE_MEAN = w.mean % 2 ^ 32 ∧ d.get Ent.Sto.ERASE_MAX = w.max % 2 ^ 32 ∧ Only Foot.blockRefresh s.dev d) ∧
  (∀ (refresh : Bool) (w : NandWork) (k : Nat), s.dev.nandOn = true → k ∈ w.bad →
    Gives (.retentionScrub refresh w) s fun d =>
      d.sto.bad.contains k = true ∧ Only Foot.retentionScrub s.dev d) ∧
  (∀ (ms : Nat) (unclean : Bool), s.dev.sto.mounted = false → s.dev.get Ent.Sto.MOUNTS_UNCLEAN < 2 ^ 64 - 1 →
    Gives (.storageMount ms unclean) s fun d =>
      d.sto.mounted = true ∧ d.get Ent.Sto.MOUNTS_UNCLEAN = s.dev.get Ent.Sto.MOUNTS_UNCLEAN + b2n unclean ∧ Only Foot.storageMount s.dev d) ∧
  (∀ (h k : Nat), h = 0 ∨ s.dev.hallExists h = false → k < 2 ^ 22 →
    Gives (.partitionErase h) s fun d =>
      d.sector (partKey h k) = zeros 4096 ∧ d.out = [.answer .ok 0] ∧ Only Foot.partitionErase s.dev d) ∧
  (∀ (h : Nat), h ≠ 0 → s.dev.hallExists h = true →
    Gives (.partitionErase h) s fun d =>
      d.out = [.answer .wrongState 0] ∧ Only ⟨[], [], []⟩ s.dev d) ∧
  (s.dev.get Ent.Upd.STAGING_STATE = 2 → KV.find Ent.Upd.STAGING_CMD.key s.dev.d0.waits = none →
    Gives (.stagingArm) s fun d =>
      d.get Ent.Upd.STAGING_STATE = 3 ∧ d.out = [.answer .ok 0] ∧ Only Foot.stagingArm s.dev d) ∧
  (s.dev.get Ent.Upd.STAGING_STATE < 2 → KV.find Ent.Upd.STAGING_CMD.key s.dev.d0.waits = none →
    Gives (.stagingArm) s fun d =>
      d.out = [.answer .notConfigured 0] ∧ Only ⟨[], [], []⟩ s.dev d) ∧
  (KV.find Ent.Upd.STAGING_CMD.key s.dev.d0.waits = none →
    Gives (.stagingDiscard) s fun d =>
      d.get Ent.Upd.STAGING_STATE = 0 ∧ d.get Ent.Upd.STAGED_VERSION = 0 ∧ d.oct Ent.Stg.STAGING = [] ∧ d.out = [.answer .ok 0] ∧ Only Foot.stagingDiscard s.dev d) ∧
  (s.dev.get Ent.Upd.IMAGE_STATE = 1 →
    Gives (.imageConfirm) s fun d =>
      d.get Ent.Upd.IMAGE_STATE = 0 ∧ d.upd.trial = false ∧ Only Foot.imageConfirm s.dev d) ∧
  (s.dev.get Ent.Upd.IMAGE_STATE = 2 → KV.find Ent.Upd.RETRY_ACTIVE.key s.dev.d0.waits = none →
    Gives (.retryActive) s fun d =>
      d.get Ent.Upd.FAILED_STARTS = 0 ∧ d.out = [.answer .ok 0] ∧ Only Foot.retryActive s.dev d)

/-- The gallery link's lines, lanes, acknowledgements, heartbeats and beacons. In a running device: TWIN_ALIVE_OUT toggles while the pair operates and
FAULT_N is high; LIVE_KICK ends the liveness cause and its timeout raises it, with FAULT_N low; a HELLO leaves a lane that is not authenticated, with
its nonce; a genuine HELLO of the partner at the other position gives the lane its key; a genuine DATA frame with a newer SEQ brings the lane up and
delivers its Ethernet frame; an ACK settles the posted messages it covers, an ACK leaves for those received, and a timeout settles the oldest one
sent; heartbeats leave each lane whose key is known; beacons leave to BLOCK_MAC, and a block controller keeps the last of each node. -/
def Obligations.GalleryLinkCommands : Prop :=
  ∀ s : State, Live s →
  (s.dev.twinOn = true → s.dev.twin.low = false →
    Gives (.twinAliveToggle) s fun d =>
      d.twin.alive = !s.dev.twin.alive ∧ d.out = [.line "TWIN_ALIVE_OUT" 0 (!s.dev.twin.alive)] ∧ Only Foot.twinAliveToggle s.dev d) ∧
  (Gives (.liveKick) s fun d =>
      d.twin.live = false ∧ Out.answer .ok 0 ∈ d.out ∧ Only Foot.liveKick s.dev d) ∧
  (s.dev.get Ent.Twc.LIVE_MS ≠ 0 → s.dev.aged s.dev.twin.kickAt (s.dev.get Ent.Twc.LIVE_MS * 1000000) = true →
    Gives (.livenessTimeout) s fun d =>
      d.twin.live = true ∧ d.twin.low = true ∧ Only Foot.livenessTimeout s.dev d) ∧
  (∀ (n : Nat) (key : Bytes), s.dev.galleryKey = some key → n < 2 → (s.dev.lane n).up = false → s.dev.get (Ent.Port.STATE (52 + n)) = 1 → s.dev.get Ent.Pwr.PF_STATE = 0 →
    Gives (.galleryHelloSend n) s fun d =>
      let body := (d.lane n).nonce ++ be 6 s.dev.board.deviceMac ++ le 2 s.dev.board.nodeId ++ le 2 (s.dev.get Ent.Upd.TWIN_COMPAT) ++ zeros 6; let b := laneHeader 1 (laneFlags n (s.dev.get Ent.Tws.POSITION)) body.length ((s.dev.lane n).tx + 1) ++ body; ((d.lane n).nonce = if (s.dev.lane n).nonce = [] then le 16 (Config.freeValue 128 s.dev.free).toNat else (s.dev.lane n).nonce) ∧ (d.lane n).tx = (s.dev.lane n).tx + 1 ∧ d.out = [.send "gallery frame" (52 + n) 0 (laneWire (b ++ (hmacSha256 key b).take 16))] ∧ Only Foot.galleryHelloSend s.dev d) ∧
  (∀ (n : Nat) (w key : Bytes), s.dev.galleryKey = some key → n < 2 → wireOk w = true → leAt w 0 1 = 1 → wireFits w = true → leAt w 2 2 = 32 → leAt w 1 1 % 2 = n → slice w (w.length - 20) 16 = (hmacSha256 key (w.take (w.length - 20))).take 16 → (s.dev.lane n).up = false → (s.dev.lane n).nonce ≠ [] → s.dev.get Ent.Tws.POSITION ≠ leAt w 1 1 / 2 % 2 →
    Gives (.galleryHelloReceive n w) s fun d =>
      ((d.lane n).key = some (hmacSha256 key ([0x4E#8, 0x47#8, 0x53#8, 0x4B#8] ++ (if s.dev.get Ent.Tws.POSITION = 0 then (s.dev.lane n).nonce ++ slice w 16 16 else slice w 16 16 ++ (s.dev.lane n).nonce)))) ∧ (d.lane n).pos = leAt w 1 1 / 2 % 2 ∧ d.twin.peerMac = ofBe (slice w 32 6) ∧ Only Foot.galleryHelloReceive s.dev d) ∧
  (∀ (n : Nat) (w k b : Bytes), n < 2 → wireOk w = true → leAt w 0 1 = 2 → wireFits w = true → leAt w 1 1 = laneFlags n (s.dev.lane n).pos → before64 (s.dev.lane n).rx (leAt w 8 8) = true → (s.dev.lane n).key = some k → gcmOpen k (laneNonce (leAt w 1 1) (leAt w 8 8)) (w.take 16) (slice w 16 (leAt w 2 2)) (slice w (w.length - 20) 16) = some b →
    Gives (.galleryDataReceive n w) s fun d =>
      (d.lane n).rx = leAt w 8 8 ∧ (d.lane n).up = true ∧ Out.deliver "gallery" (52 + n) (frameOf b) ∈ d.out ∧ Only Foot.galleryDataReceive s.dev d) ∧
  (∀ (q map : Nat), Gives (.galleryAckReceive q map) s fun d =>
      (d.twin.posts = s.dev.twin.posts.filter fun x => !decide ((q + 2 ^ 32 - x.seq) % 2 ^ 32 < 2 ^ 31)) ∧ Only Foot.galleryAckReceive s.dev d) ∧
  (∀ (q n : Nat), s.dev.twin.rxSeq = some q → 0 < s.dev.twin.rxOpen → s.dev.upLane = some n →
    Gives (.galleryAckSend) s fun d =>
      d.twin.rxOpen = 0 ∧ Out.frame (52 + n) (s.dev.ctrlFrame s.dev.twin.peerMac 0x0A 0 (le 4 q ++ le 8 s.dev.twin.rxFail)) false ∈ d.out ∧ Only Foot.galleryAckSend s.dev d) ∧
  (∀ (x : GPost) (r : List GPost), s.dev.twin.posts = x :: r → s.dev.aged x.sent (s.dev.get Ent.Twc.GAL_TIMEOUT_US * 1000) = true →
    Gives (.galleryOutcomeTimeout) s fun d =>
      d.twin.posts = r ∧ Only Foot.galleryOutcomeTimeout s.dev d) ∧
  (∀ (n : Nat), s.dev.twinOn = true → n < 2 → (s.dev.lane n).key.isSome = true →
    Gives (.heartbeatSend) s fun d =>
      let q := (s.dev.twin.hbSeq + 1) % 2 ^ 32; let body := le 1 s.dev.role ++ le 1 s.dev.twinFlags ++ le 1 s.dev.engine ++ le 1 (s.dev.get Ent.Chg.CHANGE_STATE) ++ le 4 (s.dev.get Ent.Se.ACTIVE_ID) ++ le 4 (s.dev.get Ent.Frc.FORCE_GEN) ++ le 4 q; d.twin.hbSeq = q ∧ Out.frame (52 + n) (s.dev.ctrlFrame s.dev.twin.peerMac 1 0 body) false ∈ d.out ∧ Only Foot.heartbeatSend s.dev d) ∧
  (∀ (mac : Nat), s.dev.twinOn = true → mac = ofBe (s.dev.oct Ent.Twc.BLOCK_MAC) → mac ≠ 0 →
    Gives (.beaconSend) s fun d =>
      d.out = [.send "beacon" 0 mac (s.dev.ctrlBytes 0x0F 0 (le 1 s.dev.role ++ le 1 s.dev.twinFlags ++ le 2 (s.dev.get Ent.Twc.PEER_NODE)))] ∧ Only Foot.beaconSend s.dev d) ∧
  (∀ (node role epoch : Nat), s.dev.get Ent.Twc.BLOCK_ROLE = 1 → node < 4096 →
    Gives (.beaconReceive node role epoch) s fun d =>
      KV.find node d.twin.nodes = some ⟨epoch % 65536, role % 256, s.dev.time.raw⟩ ∧ Only Foot.beaconReceive s.dev d)

/-- Losing the partner leads to SOLO or to a promotion, through the wait, the query and the epoch. In a running device of a pair: TWIN_ALIVE_IN
without an edge while heartbeats come is a wiring fault; an edge brings its path back; a fall of TWIN_FLT_N on a device that may take over starts the
wait, and its rise ends it; a heartbeat gives the partner's role and epoch and brings its path back; an ACTIVE device that loses both becomes SOLO,
and a standby that loses only heartbeats becomes STANDBY_DEGRADED; the end of the wait decides on a promotion; with both paths absent a device without
QUERY_CTX decides at once, and one with a query decides by its result; the promotion takes the next epoch and then the role. -/
def Obligations.PartnerWatchAndPromotionCommands : Prop :=
  ∀ s : State, Live s →
  (s.dev.twinOn = true → s.dev.path 0 = true → s.dev.path 1 = true → s.dev.aged s.dev.twin.edgeAt 1000000 = true →
    Gives (.twinAliveLost) s fun d =>
      d.path 1 = false ∧ d.path 5 = true ∧ Only Foot.twinAliveLost s.dev d) ∧
  (Gives (.twinAliveEdge) s fun d =>
      d.path 1 = true ∧ d.path 6 = false ∧ d.twin.query = false ∧ d.path 5 = (s.dev.path 5 && s.dev.path 2) ∧ Only Foot.twinAliveEdge s.dev d) ∧
  (s.dev.twinOn = true → s.dev.spare = true →
    Gives (.twinFltLow) s fun d =>
      d.path 2 = true ∧ d.twin.fell = some s.dev.time.raw ∧ d.twin.query = false ∧ Only Foot.twinFltLow s.dev d) ∧
  (Gives (.twinFltHigh) s fun d =>
      d.path 2 = false ∧ d.twin.fell = none ∧ d.path 5 = (s.dev.path 5 && !s.dev.path 1) ∧ Only Foot.twinFltHigh s.dev d) ∧
  (∀ (n epoch role flags state change activeId forceGen : Nat), n < 2 → epoch < 65536 → role < 256 →
    Gives (.heartbeatReceive n epoch role flags state change activeId forceGen) s fun d =>
      d.get Ent.Tws.PEER_ROLE = role ∧ d.get Ent.Tws.PEER_EPOCH = epoch ∧ d.path 0 = true ∧ d.twin.beat = some ⟨flags, state, change, activeId, forceGen⟩ ∧ Only Foot.heartbeatReceive s.dev d) ∧
  (s.dev.twinOn = true → s.dev.aged s.dev.twin.beatAt 1000000 = true → s.dev.path 1 = false → s.dev.role = 1 →
    Gives (.heartbeatLost) s fun d =>
      d.path 0 = false ∧ d.get Ent.Tws.PEER_ROLE = 0xFF ∧ d.role = 0 ∧ Only Foot.heartbeatLost s.dev d) ∧
  (s.dev.twinOn = true → s.dev.aged s.dev.twin.beatAt 1000000 = true → s.dev.path 1 = true → s.dev.role = 2 →
    Gives (.heartbeatLost) s fun d =>
      d.path 0 = false ∧ d.role = 3 ∧ Only Foot.heartbeatLost s.dev d) ∧
  (∀ (t : Nat), s.dev.twinOn = true → s.dev.spare = true → s.dev.twin.fell = some t → s.dev.aged t 200000 = true → s.dev.twin.promote = none →
    Gives (.promoteWaitTimeout) s fun d =>
      d.twin.promote = some (1, false) ∧ Only Foot.promoteWaitTimeout s.dev d) ∧
  (s.dev.twinOn = true → s.dev.spare = true → s.dev.path 0 = false → s.dev.path 1 = false → s.dev.twin.promote = none → s.dev.twin.fell = none → s.dev.twin.query = false → s.dev.path 6 = false ∨ s.dev.aged s.dev.twin.queryAt 500000 = true →
    Gives (.partnerQuery) s fun d =>
      (if s.dev.get Ent.Twc.QUERY_CTX = 0xFFFF then d.twin.promote = some (2, false) else d.twin.query = true) ∧ Only Foot.partnerQuery s.dev d) ∧
  (∀ (v : Nat), s.dev.twin.query = true → s.dev.twin.answer = some (true, v) → s.dev.twin.promote = none →
    Gives (.partnerQueryResult true v) s fun d =>
      (if bits v 23 16 ≤ 1 ∧ bits v 31 24 ≤ 75 then d.path 6 = true ∧ d.twin.promote = none else d.twin.promote = some (2, false)) ∧ Only Foot.partnerQueryResult s.dev d) ∧
  (∀ (c : Nat), s.dev.twin.promote = some (c, false) →
    Gives (.promote) s fun d =>
      (d.get Ent.Tws.ROLE_EPOCH = nextEpoch (if s.dev.twin.known then s.dev.get Ent.Tws.PEER_EPOCH else s.dev.get Ent.Tws.ROLE_EPOCH)) ∧ d.twin.promote = some (c, true) ∧ Only Foot.promote s.dev d) ∧
  (∀ (c : Nat), s.dev.twin.promote = some (c, true) →
    Gives (.promoteComplete) s fun d =>
      (d.role = if c = 3 then 1 else 0) ∧ d.twin.promote = none ∧ Only Foot.promoteComplete s.dev d)

/-- An attach goes through its steps, and a standby takes what the active replicates. In a running device: an ATTACH_REQ that passes the checks of
Table 22.8 begins the active's side of an attach; OK from the partner lets the joiner receive; at a common boundary the active sends its snapshot and
takes role ACTIVE; a joiner that was refused asks again; without a boundary in the window an attach ends; the joiner gathers the image's pieces in
order, and the last piece of the snapshot makes it STANDBY with the active's epoch. On a STANDBY: INPUTS of a task are gathered; an OUTPUT_CRC that
differs from the device's own counts against the limit; RETAIN lines are applied once no task runs; STREAMS set the next numbers; FORCES replace the
force table. -/
def Obligations.AttachAndReplicationCommands : Prop :=
  ∀ s : State, Live s →
  (∀ (node compat pos activeId : Nat) (digest : Bytes), s.dev.attachCheck node compat pos digest = .ok →
    Gives (.attachReqReceive node compat pos activeId digest) s fun d =>
      d.twin.attach = some ⟨3, s.dev.time.raw, [], [], false⟩ ∧ Only Foot.attachReqReceive s.dev d) ∧
  (∀ (node : Nat) (a : Attach), s.dev.twin.attach = some a → a.step ≤ 2 → node = s.dev.get Ent.Twc.PEER_NODE →
    Gives (.attachRspReceive node 0) s fun d =>
      d.twin.attach = some { a with step := 2 } ∧ Only Foot.attachRspReceive s.dev d) ∧
  (∀ (a : Attach), s.dev.twin.attach = some a → a.step = 3 → s.dev.twinBoundary = true →
    Gives (.attachSnapshot) s fun d =>
      d.role = 1 ∧ d.twin.attach = some { a with step := 5 } ∧ d.twin.sent = s.dev.retainCells ∧ Only Foot.attachSnapshot s.dev d) ∧
  (s.dev.twinOn = true → s.dev.role = 5 → s.dev.twin.refused = true → s.dev.flag Ent.Twc.AUTO_ATTACH = true → s.dev.peerDrives = true → s.dev.aged s.dev.twin.refusedAt 1000000000 = true →
    Gives (.attachRetry) s fun d =>
      d.role = 4 ∧ d.twin.attach = some ⟨1, s.dev.time.raw, [], [], false⟩ ∧ d.twin.refused = false ∧ Only Foot.attachRetry s.dev d) ∧
  (∀ (a : Attach), s.dev.twin.attach = some a → a.step ≠ 5 → s.dev.aged a.since s.dev.changeWindow = true →
    Gives (.attachWindowTimeout) s fun d =>
      d.twin.attach = none ∧ Only Foot.attachWindowTimeout s.dev d) ∧
  (∀ (q epoch off : Nat) (b : Bytes) (a : Attach), s.dev.twin.attach = some a → a.step = 2 → off = a.image.length →
    Gives (.stateMessageReceive q 1 epoch off false b) s fun d =>
      d.twin.attach = some { a with image := a.image ++ b } ∧ Only Foot.stateMessageReceive s.dev d) ∧
  (∀ (q epoch off : Nat) (b : Bytes) (a : Attach), s.dev.twin.attach = some a → a.step = 2 → off = a.snap.length → epoch < 65536 →
    Gives (.stateMessageReceive q 2 epoch off true b) s fun d =>
      d.role = 2 ∧ d.get Ent.Tws.ROLE_EPOCH = epoch ∧ d.twin.attach = none ∧ Only Foot.stateMessageReceive s.dev d) ∧
  (∀ (q t cycle startNs : Nat) (last : Bool) (b : Bytes), s.dev.role = 2 → (imgTask s.dev.image t).isSome = true → last = false ∨ (s.dev.run t).phase ≠ 0 →
    Gives (.inputsReceive q t cycle startNs 0 last b) s fun d =>
      (d.twinRun t).data = b ∧ (d.twinRun t).cycle = cycle ∧ (d.twinRun t).full = last ∧ Only Foot.inputsReceive s.dev d) ∧
  (∀ (t cycle crc x : Nat), s.dev.role = 2 → (s.dev.twinRun t).own = some (cycle, x) → x ≠ crc → (s.dev.twinRun t).wrong + 1 < s.dev.get Ent.Twc.MISMATCH_LIMIT →
    Gives (.outputCrcReceive t cycle crc) s fun d =>
      (d.twinRun t).wrong = (s.dev.twinRun t).wrong + 1 ∧ (d.twinRun t).own = none ∧ Only Foot.outputCrcReceive s.dev d) ∧
  (∀ (q i : Nat) (b x : Bytes), s.dev.role = 2 → s.dev.allIdle = true → s.dev.twin.lines = [] → i < 4096 → x.length = 64 → b = le 4 i ++ x →
    Gives (.retainReceive q b) s fun d =>
      BytesAt (0x03020000 + 64 * i) x s.dev d ∧ d.twin.lines = [] ∧ Only Foot.retainReceive s.dev d) ∧
  (∀ (q st v : Nat) (b : Bytes), s.dev.role = 2 → st < 2048 → v < 65536 → b = le 2 st ++ le 2 v →
    Gives (.streamsReceive q b) s fun d =>
      (d.sw.stream st).next = v ∧ Only Foot.streamsReceive s.dev d) ∧
  (∀ (q gen : Nat) (b : Bytes), s.dev.role = 2 →
    Gives (.forcesReceive q gen b) s fun d =>
      (d.scan.forces = (forceRecords (b.length / 72) b).foldl (fun kv r => KV.insert r.1 r.2 kv) []) ∧ d.get Ent.Frc.FORCE_GEN = gen % 2 ^ 32 ∧ Only Foot.forcesReceive s.dev d)

/-- CMD attaches, detaches and hands over, and a handover goes through its steps. In a running device: ATTACH of a DETACHED device whose partner
drives makes it JOINING; DETACH takes a standby, degraded standby or joiner to DETACHED and an ACTIVE device to SOLO, each with OK; DETACH of the
partner makes an ACTIVE device SOLO; HANDOVER of an ACTIVE device with an attached standby offers the next boundary, or seeks one; the standby accepts
the offer; the accept makes the active STANDBY; STEP 3 makes the standby decide +kernel on its promotion; a handover whose partner still shows STANDBY
after it returns to ACTIVE with the next epoch; without an accept in time it ends. -/
def Obligations.TwinCommandAndHandoverCommands : Prop :=
  ∀ s : State, Live s →
  (s.dev.twinOn = true → s.dev.role = 5 → s.dev.peerDrives = true → s.dev.twin.promote = none →
    Gives (.twinCmdAttach) s fun d =>
      d.role = 4 ∧ d.twin.attach = some ⟨1, s.dev.time.raw, [], [], true⟩ ∧ Only Foot.twinCmdAttach s.dev d) ∧
  (s.dev.role = 2 ∨ s.dev.role = 3 ∨ s.dev.role = 4 →
    Gives (.twinCmdDetach) s fun d =>
      d.role = 5 ∧ d.twin.attach = none ∧ d.get Ent.Tws.CMD_STATUS = Status.ok.code ∧ Only Foot.twinCmdDetach s.dev d) ∧
  (s.dev.role = 1 →
    Gives (.twinCmdDetach) s fun d =>
      d.role = 0 ∧ d.get Ent.Tws.CMD_STATUS = Status.ok.code ∧ Only Foot.twinCmdDetach s.dev d) ∧
  (s.dev.role = 1 →
    Gives (.detachReceive) s fun d =>
      d.role = 0 ∧ d.twin.attach = none ∧ Only Foot.detachReceive s.dev d) ∧
  (s.dev.role = 1 → s.dev.get Ent.Tws.PEER_ROLE = 2 → s.dev.twin.hand = none →
    Gives (.twinCmdHandover) s fun d =>
      (d.twin.hand = some (if s.dev.twinBoundary then ⟨1, s.dev.nextInstant⟩ else ⟨0, s.dev.time.raw⟩)) ∧ Only Foot.twinCmdHandover s.dev d) ∧
  (∀ (instant n : Nat), s.dev.role = 2 → s.dev.upLane = some n →
    Gives (.handoverReceive 1 instant) s fun d =>
      d.twin.hand = some ⟨4, instant⟩ ∧ Out.frame (52 + n) (s.dev.ctrlFrame s.dev.twin.peerMac 0x0B 0 (le 1 2 ++ zeros 3 ++ le 8 instant)) false ∈ d.out ∧ Only Foot.handoverReceive s.dev d) ∧
  (∀ (instant : Nat), s.dev.role = 1 → s.dev.twin.hand = some ⟨1, instant⟩ → s.dev.now + 50000 < instant →
    Gives (.handoverReceive 2 instant) s fun d =>
      d.role = 2 ∧ d.twin.hand = some ⟨3, instant⟩ ∧ Only Foot.handoverReceive s.dev d) ∧
  (∀ (instant : Nat), s.dev.role = 2 → s.dev.twin.hand = some ⟨4, instant⟩ → s.dev.now < instant → s.dev.twin.promote = none →
    Gives (.handoverReceive 3 instant) s fun d =>
      d.twin.hand = none ∧ d.twin.promote = some (3, false) ∧ Only Foot.handoverReceive s.dev d) ∧
  (∀ (x : Handover), s.dev.twin.hand = some x → x.step = 3 → s.dev.get Ent.Tws.PEER_ROLE = 2 → x.instant + 1000000 ≤ s.dev.now →
    Gives (.handoverTimeout) s fun d =>
      d.role = 1 ∧ d.twin.hand = none ∧ d.get Ent.Tws.ROLE_EPOCH = nextEpoch (s.dev.get Ent.Tws.ROLE_EPOCH) ∧ Only Foot.handoverTimeout s.dev d) ∧
  (∀ (x : Handover), s.dev.twin.hand = some x → x.step = 1 → x.instant ≤ s.dev.now + 50000 →
    Gives (.handoverAcceptTimeout) s fun d =>
      d.twin.hand = none ∧ Only Foot.handoverAcceptTimeout s.dev d)

/-- A step runs the command at the front of the queue with the queue's rest. For every command c and state s with c at the front of its queue, step of
s is exec of c on s with the queue's rest, and its next state has the queue's rest: no command adds or takes a waiting command. Which command waits is
the model's choice (log entry 1); the rules cited are those by which a transaction reaches the device. -/
def Obligations.StepRunsTheFrontCommand : Prop :=
  (∀ (c : Instr) (r : List Instr) (s : State), s.pending = c :: r → step s = exec c { s with pending := r }) ∧
  (∀ (c : Instr) (r : List Instr) (s t : State), s.pending = c :: r → step s = .next t → t.pending = r)

/-- On an empty queue the step lets one tick of the raw counter pass. The model's choice (log entry 1): a step on an empty queue changes the raw
counter alone, which counts one tick modulo 2^64 while the timebase runs; while it does not run, nothing changes. -/
def Obligations.IdleStepCountsOneTick : Prop :=
  (∀ s : State, s.pending = [] → s.dev.time.running = true →
    step s = .next { s with dev := { s.dev with time := { s.dev.time with raw := (s.dev.time.raw + 1) % 2 ^ 64 } } }) ∧
  (∀ s : State, s.pending = [] → s.dev.time.running = false → step s = .next s)

/-- The reset state is what a cold start leaves. The model's choice of its state after reset (log entry 57): a device without supply in which VAUX
rises, at 12,000 mV, with the XO stable, straps 0, 8 GiB of DRAM, no failed start, and the start-up's outputs taken away; the queue is empty. -/
def Obligations.ResetIsAColdStart : Prop :=
  State.reset.pending = [] ∧ { vauxOnOp ⟨[], 0, 12000, 1, 0, 0, 0, false, 0⟩ Dev.off with out := [] } = State.reset.dev

/-- No word of bits spells a command. The table gives none of its rows any bits (log entry 2): the decoder reads no command from any word, and placing
a word changes nothing. -/
def Obligations.NoWordSpellsACommand : Prop :=
  ∀ (n w : Nat) (s : State), decodeTableWord n w = none ∧ s.withFetchWord n w = s

/-- The reset state's stores are in canonical form. Right after reset, memory lists addresses that rise and no byte that reads as an unlisted one, and
the dictionary's values, its octet strings and the register words are listed with keys that rise. -/
def Obligations.CanonicalAtReset : Prop :=
  Canonical State.reset.dev

/-- A device that does not run takes only the commands of its supply and its vestibule. Without VAUX every command but VAUX_ON and the safe-state line
leaves the device as it is, with nothing put out; in chip reset and in STANDBY or SLEEP the same holds of every command but those two and the 13 of
the vestibule. -/
def Obligations.StoppedDevice : Prop :=
  (∀ (c : Instr) (s : State), s.dev.power.phase = .off →
    match c with
    | .vauxOn .. | .safeStateLine .. => True
    | _ => exec c s = .next { s with dev := s.dev.fresh }) ∧
  (∀ (c : Instr) (s : State), s.dev.power.phase ≠ .running →
    match c with
    | .vauxOn .. | .safeStateLine .. | .spWriteFrame .. | .spReadFrame .. | .spReadStatus .. | .wakePattern .. | .wakeFrame .. | .wakePin .. | .wakeReq ..
    | .watchWake .. | .vauxPor .. | .resetNLow .. | .resetNHigh .. | .fatalFault .. | .overtempClear .. => True
    | _ => exec c s = .next { s with dev := s.dev.fresh })

/-- An access to the ECC store by any initiator is refused with ACCESS_ATTR. In a running device, a transaction of any initiator, or an atomic of one
that issues atomics, at an address of DRAM, or one that its DRAM window moves there, in the top thirty-second of DRAM below the stairwell, or beyond
it where the initiator is not the switch core, is answered ACCESS_ATTR and changes nothing but the initiating core's fault record; a range of
addresses that a unit reads or writes and that begins or ends there is refused with ACCESS_ATTR too, unless its beginning is refused for another
reason. -/
def Obligations.EccStoreRefused : Prop :=
  (∀ s : State, Live s → ∀ (t : Txn) (a : Nat), s.dev.physical t = some a → region t.addr = some .dram ∨ region t.addr = some .dramWindow →
    0x100000000 ≤ a → s.dev.stairwellBase ≤ a + s.dev.dramSize / 32 → (a < s.dev.stairwellBase ∨ t.initiator ≠ .switchCore) →
    ((∀ f, t.kind = .atomic f → issuesAtomics t.initiator = true) →
      Gives (.concourseTransaction t) s fun d => Out.answer .accessAttr 0 ∈ d.out ∧ Only ⟨[.harts], [], []⟩ s.dev d) ∧
    (issuesAtomics t.initiator = true → Gives (.atomicTransaction t) s fun d => Out.answer .accessAttr 0 ∈ d.out ∧ Only ⟨[.harts], [], []⟩ s.dev d)) ∧
  (∀ (d : Dev) (secure write : Bool) (a n : Nat), 0 < n → 0x100000000 ≤ a → a ≤ 0x2FFFFFFFF → d.stairwellBase ≤ a + d.dramSize / 32 →
    d.rangeStatus secure write a n = .accessAttr) ∧
  (∀ (d : Dev) (secure write : Bool) (a n : Nat), 0 < n → d.memStatus secure write a = .ok → 0x100000000 ≤ a + n - 1 →
    d.stairwellBase ≤ a + n - 1 + d.dramSize / 32 → d.rangeStatus secure write a n = .accessAttr)

/-- A transaction to no region, or to an address of the unit registers in no unit's page, is refused. In a running device, a transaction, or an atomic
of an initiator that issues atomics, at an address of no region, at an address of the unit registers that lies in no unit's page, or of an initiator
without a DRAM window in the window's region, is answered ACCESS_ATTR and changes nothing but the initiating core's fault record. -/
def Obligations.UnmappedRefused : Prop :=
  ∀ s : State, Live s → ∀ t : Txn,
    region t.addr = none ∨ ((region t.addr = some .units ∨ region t.addr = some .mezzRegs) ∧ pageOf t.addr = none) ∨
      (region t.addr = some .dramWindow ∧ s.dev.physical t = none) →
    ((∀ f, t.kind = .atomic f → issuesAtomics t.initiator = true) →
      Gives (.concourseTransaction t) s fun d => Out.answer .accessAttr 0 ∈ d.out ∧ Only ⟨[.harts], [], []⟩ s.dev d) ∧
    (issuesAtomics t.initiator = true → Gives (.atomicTransaction t) s fun d => Out.answer .accessAttr 0 ∈ d.out ∧ Only ⟨[.harts], [], []⟩ s.dev d)

/-- A transaction that reaches a target whose gate is off is refused with WRONG_STATE. In a running device: a transaction to a register page, to
memory or to a bridge window that, with the attributes of its initiator, passes the checks before check 7 of Table 1.4 and whose target's activity
gate is off is answered WRONG_STATE; nothing changes but the initiating core's fault record, so no gate turns on. A unit's own access to such memory
gets WRONG_STATE too. -/
def Obligations.GateOffRefused : Prop :=
  (∀ s : State, Live s → ∀ (t u : Txn) (p : Page) (off : Nat), u = s.dev.attributed t → region t.addr = some .units ∨ region t.addr = some .mezzRegs → pageOf t.addr = some (p, off) →
    off + t.size ≤ pageSize p → (s.dev.pageSecure p t.addr = true → u.secure = true) → s.dev.hallMay u p off = true → s.dev.epochMay u p off = true →
    t.kind = .read ∨ t.kind = .write ∨ t.kind = .posted → t.addr % t.size = 0 → s.dev.pageOn p = false →
    Gives (.concourseTransaction t) s fun d => Out.answer .wrongState 0 ∈ d.out ∧ Only ⟨[.harts], [], []⟩ s.dev d) ∧
  (∀ s : State, Live s → ∀ (t u : Txn) (a : Nat), u = s.dev.attributed t → s.dev.physical t = some a →
    region t.addr ≠ none → region t.addr ≠ some .units → region t.addr ≠ some .mezzRegs → region t.addr ≠ some .bridgeWindow →
    s.dev.memMapped t.initiator a = true → s.dev.memMapped t.initiator (a + t.size - 1) = true → region a = region (a + t.size - 1) →
    (s.dev.needsSecure a = true ∨ s.dev.needsSecure (a + t.size - 1) = true → u.secure = true) →
    (t.kind = .read ∨ (region a ≠ some .bootRom ∧ s.dev.coversUpper a t.size = false)) → atomicOk t = true → (∀ f, t.kind = .atomic f → issuesAtomics t.initiator = true) →
    a % t.size = 0 → s.dev.memOff a = true →
    Gives (.concourseTransaction t) s fun d => Out.answer .wrongState 0 ∈ d.out ∧ Only ⟨[.harts], [], []⟩ s.dev d) ∧
  (∀ s : State, Live s → ∀ (t v : Txn) (u k : Nat), v = s.dev.attributed t → region t.addr = some .bridgeWindow → s.dev.windowAt t.addr = some (u, k) → t.kind = .read →
    s.dev.get (Ent.Bctx.HALL (bctx u k)) = v.hall →
    (s.dev.flag (Ent.Bctx.PREFETCH (bctx u k)) = true ∨ ((∀ c, t.initiator ≠ .dma c ∧ t.initiator ≠ .hostEngine c) ∧ t.initiator ≠ .mezzDma)) →
    t.addr % t.size = 0 → s.dev.gateOn (gateBridge u) = false →
    Gives (.concourseTransaction t) s fun d => Out.answer .wrongState 0 ∈ d.out ∧ Only ⟨[.harts], [], []⟩ s.dev d) ∧
  (∀ (d : Dev) (secure write : Bool) (a : Nat), (region a = some .dram → d.dramMapped a = true) → region a = some .dram ∨ region a = some .sysSram ∨ region a = some .tcm ∨ region a = some .image →
    (d.needsSecure a = true → secure = true) → (write = true → d.pairTcm a 1 = false) → d.memOff a = true → d.memStatus secure write a = .wrongState)

/-- The gates are those of Table 18.7, and a gate of another number is refused. The numbers the model takes as gates are those that Table 18.7 lists;
in a running device a GATE_ON or GATE_OFF of any other number ends with NO_SUBINDEX, which its waiting request is answered with, and no entry of the
dictionary changes but those of that answer. -/
def Obligations.GateNumbers : Prop :=
  (∀ g : Nat, gateListed g = true ↔ g ∈ [0, 1, 2, 3, 4, 5, 8, 9, 10, 16, 24, 33, 40, 41, 42, 48, 49, 50, 51, 56, 57, 112, 113, 144, 145, 146, 147, 148] ∨ (17 ≤ g ∧ g ≤ 20) ∨
    (25 ≤ g ∧ g ≤ 32) ∨ (43 ≤ g ∧ g ≤ 46) ∨ (52 ≤ g ∧ g ≤ 55) ∨ (64 ≤ g ∧ g ≤ 111) ∨ (128 ≤ g ∧ g ≤ 143) ∨ (160 ≤ g ∧ g ≤ 191) ∨ (192 ≤ g ∧ g ≤ 255)) ∧
  (∀ s : State, Live s → ∀ (g v : Nat) (secure : Bool), gateListed g = false →
    (Gives (.gateOn g v secure) s fun d => d = s.dev.fresh.finish (gateEntry g).key .noSubindex) ∧
    (Gives (.gateOff g v secure) s fun d => d = s.dev.fresh.finish (gateEntry g).key .noSubindex))

/-- A frame for an object that is not locked is stored in it, and an unread frame is lost. For an object that is not locked: its words hold the frame
and NEW is 1, and RXSEQ counts modulo 2^16. If NEW was 1, LOSTCNT counts up to 255 and RX_LOST counts up to its greatest value; if it was 0, neither
changes. The frame of another object and the lock of every object stay as they are. -/
def Obligations.ReceiveObjectStores : Prop :=
  ∀ (d : Dev) (n k : Nat) (x : RxFrame), n < 16 → k < 64 → KV.find k (d.canCh n).locks = none →
    let e := d.objReceive n k x
    e.fld (Rg.Obj.NEW n k) = 1 ∧ e.fld (Rg.Obj.RXSEQ n k) = (d.fld (Rg.Obj.RXSEQ n k) + 1) % 2 ^ 16 ∧
    e.fld (Rg.Obj.IDE n k) = b2n x.frame.ide ∧ e.fld (Rg.Obj.FDF n k) = b2n x.frame.fdf ∧ e.fld (Rg.Obj.BRS n k) = b2n x.frame.brs ∧
    e.fld (Rg.Obj.ESI n k) = b2n x.frame.esi ∧ e.fld (Rg.Obj.DLC n k) = x.frame.dlc % 16 ∧ e.fld (Rg.Obj.ID n k) = x.frame.id % 2 ^ 29 ∧
    e.fld (Rg.Obj.STAMP n k) = x.stamp % 2 ^ 32 ∧ e.fld (Rg.Obj.TGEN n k) = x.tgen % 256 ∧ e.fld (Rg.Obj.FRAC n k) = x.frac % 256 ∧
    (∀ i, i < 16 → e.fld (Rg.Obj.DATA n k i) = leAt x.frame.data (4 * i) 4 % 2 ^ 32) ∧
    (d.isSet (Rg.Obj.NEW n k) = true → e.fld (Rg.Obj.LOSTCNT n k) = min 255 (d.fld (Rg.Obj.LOSTCNT n k) + 1) ∧
      e.get (canCounter n 2).entry = min (d.get (canCounter n 2).entry + 1) (2 ^ 64 - 1)) ∧
    (d.isSet (Rg.Obj.NEW n k) = false → e.fld (Rg.Obj.LOSTCNT n k) = d.fld (Rg.Obj.LOSTCNT n k) ∧ e.get (canCounter n 2).entry = d.get (canCounter n 2).entry) ∧
    (∀ j, j < 64 → j ≠ k → ∀ i, i < 16 → e.fld (Rg.Obj.ID n j) = d.fld (Rg.Obj.ID n j) ∧ e.fld (Rg.Obj.DATA n j i) = d.fld (Rg.Obj.DATA n j i)) ∧
    (e.canCh n).locks = (d.canCh n).locks

/-- A write of k to DOORBELL sets source k + 1 pending, and only hall 0 writes it. In a running device, hall 0's write of k, 0 to 11, makes source k +
1 pending and is answered OK; the pending state of every other source stays as it is, and no part of the device changes but that source's PENDING and
its core's WFI bit. Another hall's write is answered HALL_DENIED and changes nothing. -/
def Obligations.DoorbellRings : Prop :=
  ∀ s : State, Live s →
    (∀ k : Nat, k ≤ 11 → Gives (.doorbell 0 k) s fun d => d.fld (Rg.Src.PENDING (k + 1)) = 1 ∧ Out.answer .ok 0 ∈ d.out ∧
      (∀ j, j < 512 → j ≠ k + 1 → d.fld (Rg.Src.PENDING j) = s.dev.fld (Rg.Src.PENDING j)) ∧ Only Foot.doorbell s.dev d) ∧
    (∀ hall v : Nat, hall ≠ 0 → Gives (.doorbell hall v) s fun d => d = s.dev.fresh.answer .hallDenied)

/-- Cold and chip resets zero the timebase's adjustment, and warm resets keep it. At every cold and chip reset, and after the start-up that follows it
whatever the environment is, OFFSET, RATE and RATE_EPOCH are 0, TGEN is 0 and the time quality is UNSYNCHRONIZED; a warm reset keeps all five. -/
def Obligations.TimebaseAtResets : Prop :=
  (∀ (d : Dev) (r : ResetCause) (dram : Bool) (l : ResetCause) (wake : Bool) (env : BootEnv),
    ∀ t ∈ [d.supplyLost.time, (d.chipReset r dram).time, (d.chipRestart r wake dram env).time, (d.supplyLost.startUp l wake env).time],
      t.offset = 0 ∧ t.rate = 0 ∧ t.rateEpoch = 0 ∧ t.tgen = 0 ∧ t.quality = 0) ∧
  (∀ (d : Dev) (cause detail ms : Nat), let t := (d.warmReset cause detail ms).time
    t.offset = d.time.offset ∧ t.rate = d.time.rate ∧ t.rateEpoch = d.time.rateEpoch ∧ t.tgen = d.time.tgen ∧ t.quality = d.time.quality)

/-- No step changes what is fixed for the board. What the board and the die are made with (installed DRAM, key hashes, serial number and the like) is
the same after every step, in every state and for every command. -/
def Obligations.BoardFactsNeverChange : Prop :=
  ∀ s t : State, step s = .next t → t.dev.board = s.dev.board

/-- Only these commands change the images and records of the update unit. The update unit's own state (its staged image, its slots, what a start-up
would do with them, and the versions of SETTINGS records) is changed by no command but the dictionary writes and transfers that execute or apply a
value, storing and restoring parameters, the service port's requests, an image's confirmation, and what starts the device again: a wake, the secure
watchdog, the supply, RESET_N and a fatal fault. The commands that store an image, a sealed key or a configuration, or erase one (a commit of stored
values, a group's taking effect, the engine's load, a change's switch, a cleared key slot, the return token, a warm reset and the like) change the
versions of the records alone. -/
def Obligations.FirmwareStateWriters : Prop :=
  ∀ (c : Instr) (s t : State), exec c s = .next t →
    match c with
    | .dictWriteExec .. | .dictWriteGeneric .. | .apply .. | .applyDiscard .. | .storeParameters .. | .restoreDefaults .. | .wakePattern .. | .wakeFrame .. | .wakePin ..
    | .wakeReq .. | .watchWake .. | .swdtExpired .. | .vauxOn .. | .resetNHigh .. | .fatalFault .. | .overtempClear .. | .spWriteFrame .. | .imageConfirm .. => True
    | .applyTakeEffect .. | .storeCommit .. | .engineLoad .. | .changeSwitch .. | .changeCommitReceive .. | .adcRunComplete .. | .keyClear .. | .cryptoJobComplete ..
    | .returnToken .. | .gateOn .. | .warmReset .. | .aCoreFatal .. | .unitReset .. | .stateMessageReceive .. => { t.dev.upd with records := s.dev.upd.records } = s.dev.upd
    | _ => t.dev.upd = s.dev.upd

/-- Every step keeps the stores in canonical form. From every state whose memory lists rising addresses and no byte that reads as an unlisted one, and
whose dictionary values, octet strings and register words are listed with rising keys, every step that answers a next state, of every command, leaves
them so: equal contents stay equal data. -/
def Obligations.EveryStepKeepsCanonical : Prop :=
  ∀ s t : State, Canonical s.dev → step s = .next t → Canonical t.dev

/-- Every command answers a next state. No command stops the machine: in every state every command answers a next state, with the waiting commands as
they were. -/
def Obligations.EveryCommandAnswers : Prop :=
  ∀ (c : Instr) (s : State), ∃ t, exec c s = .next t ∧ t.pending = s.pending
end

