-- ==== Sys2Proof/Laws/Kv.lean ====
section
/-! SUPPORT. The laws of keyed lists: reading what was stored, and the canonical form kept. -/

namespace Sys2Proof.Machine

variable {α : Type}

@[simp] theorem KV.find_insert_same (k : Nat) (v : α) (m : KV α) : KV.find k (KV.insert k v m) = some v := by
  induction m with
  | nil => simp [KV.insert, KV.find]
  | cons e r ih =>
    obtain ⟨j, w⟩ := e
    simp only [KV.insert]
    split
    · simp [KV.find]
    · split <;> simp [KV.find, *]

theorem KV.find_insert_other {k j : Nat} (h : j ≠ k) (v : α) (m : KV α) : KV.find j (KV.insert k v m) = KV.find j m := by
  induction m with
  | nil => simp [KV.insert, KV.find, h.symm]
  | cons e r ih =>
    obtain ⟨i, w⟩ := e
    simp only [KV.insert]
    split
    · simp [KV.find, h.symm]
    · split
      · simp_all [KV.find, h.symm]
      · simp [KV.find, ih]

@[simp] theorem KV.find_erase_same (k : Nat) (m : KV α) : KV.find k (KV.erase k m) = none := by
  induction m with
  | nil => rfl
  | cons e r ih =>
    obtain ⟨j, w⟩ := e
    simp only [KV.erase]
    split <;> simp_all [KV.find]

theorem KV.find_erase_other {k j : Nat} (h : j ≠ k) (m : KV α) : KV.find j (KV.erase k m) = KV.find j m := by
  induction m with
  | nil => rfl
  | cons e r ih =>
    obtain ⟨i, w⟩ := e
    simp only [KV.erase]
    split
    · rename_i hi
      simp [KV.find, hi, h.symm, ih]
    · simp [KV.find, ih]

@[simp] theorem KV.get_put_same [DecidableEq α] (d v : α) (k : Nat) (m : KV α) : KV.get d k (KV.put d k v m) = v := by
  simp only [KV.get, KV.put]
  split <;> simp_all

theorem KV.get_put_other [DecidableEq α] {k j : Nat} (h : j ≠ k) (d e v : α) (m : KV α) :
    KV.get d j (KV.put e k v m) = KV.get d j m := by
  simp only [KV.get, KV.put]
  split
  · rw [KV.find_erase_other h]
  · rw [KV.find_insert_other h]

@[simp] theorem KV.get_insert_same (d v : α) (k : Nat) (m : KV α) : KV.get d k (KV.insert k v m) = v := by
  simp [KV.get]

theorem KV.above_of_lt {n k : Nat} {m : KV α} (h : KV.above k m = true) (hn : n < k) : KV.above n m = true := by
  induction m with
  | nil => rfl
  | cons e r ih =>
    obtain ⟨j, w⟩ := e
    simp only [KV.above, Bool.and_eq_true, decide_eq_true_eq] at h ⊢
    exact ⟨by omega, ih h.2⟩

theorem KV.above_insert {n k : Nat} {v : α} {m : KV α} (h : KV.above n m = true) (hk : n < k) : KV.above n (KV.insert k v m) = true := by
  induction m with
  | nil => simpa [KV.insert, KV.above] using hk
  | cons e r ih =>
    obtain ⟨j, w⟩ := e
    simp only [KV.above, Bool.and_eq_true, decide_eq_true_eq] at h
    simp only [KV.insert]
    split
    · simp_all [KV.above]
    · split <;> simp_all [KV.above]

theorem KV.above_erase {n k : Nat} {m : KV α} (h : KV.above n m = true) : KV.above n (KV.erase k m) = true := by
  induction m with
  | nil => rfl
  | cons e r ih =>
    obtain ⟨j, w⟩ := e
    simp only [KV.above, Bool.and_eq_true, decide_eq_true_eq] at h
    simp only [KV.erase]
    split <;> simp_all [KV.above]

/-- Inserting keeps the order of keys. -/
theorem KV.sorted_insert {k : Nat} {v : α} {m : KV α} (h : KV.sorted m = true) : KV.sorted (KV.insert k v m) = true := by
  induction m with
  | nil => rfl
  | cons e r ih =>
    obtain ⟨j, w⟩ := e
    simp only [KV.sorted, Bool.and_eq_true] at h
    simp only [KV.insert]
    split
    · rename_i hk
      simp [KV.sorted, KV.above, hk, h.1, h.2, KV.above_of_lt h.1 hk]
    · split
      · rename_i hj
        subst hj
        simp [KV.sorted, h.1, h.2]
      · rename_i h1 h2
        simp [KV.sorted, ih h.2, KV.above_insert h.1 (by omega : j < k)]

/-- Erasing keeps the order of keys. -/
theorem KV.sorted_erase {k : Nat} {m : KV α} (h : KV.sorted m = true) : KV.sorted (KV.erase k m) = true := by
  induction m with
  | nil => rfl
  | cons e r ih =>
    obtain ⟨j, w⟩ := e
    simp only [KV.sorted, Bool.and_eq_true] at h
    simp only [KV.erase]
    split
    · exact ih h.2
    · simp [KV.sorted, ih h.2, KV.above_erase h.1]

variable [DecidableEq α]

theorem KV.noDefault_insert {d : Nat → α} {k : Nat} {v : α} {m : KV α} (h : KV.noDefault d m = true) (hv : v ≠ d k) :
    KV.noDefault d (KV.insert k v m) = true := by
  induction m with
  | nil => simpa [KV.insert, KV.noDefault] using hv
  | cons e r ih =>
    obtain ⟨j, w⟩ := e
    simp only [KV.noDefault, Bool.and_eq_true, decide_eq_true_eq] at h
    simp only [KV.insert]
    split
    · simp_all [KV.noDefault]
    · split <;> simp_all [KV.noDefault]

theorem KV.noDefault_erase {d : Nat → α} {k : Nat} {m : KV α} (h : KV.noDefault d m = true) : KV.noDefault d (KV.erase k m) = true := by
  induction m with
  | nil => rfl
  | cons e r ih =>
    obtain ⟨j, w⟩ := e
    simp only [KV.noDefault, Bool.and_eq_true, decide_eq_true_eq] at h
    simp only [KV.erase]
    split <;> simp_all [KV.noDefault]

/-- Storing keeps the canonical form. -/
theorem KV.put_wf {d : α} {k : Nat} {v : α} {m : KV α} (h : KV.sorted m = true ∧ KV.noDefault (fun _ => d) m = true) :
    KV.sorted (KV.put d k v m) = true ∧ KV.noDefault (fun _ => d) (KV.put d k v m) = true := by
  simp only [KV.put]
  split
  · exact ⟨KV.sorted_erase h.1, KV.noDefault_erase h.2⟩
  · rename_i hv
    exact ⟨KV.sorted_insert h.1, KV.noDefault_insert h.2 hv⟩

/-- Keeping some entries keeps the order of keys. -/
theorem KV.above_keep {n : Nat} {p : Nat → α → Bool} {m : KV α} (h : KV.above n m = true) : KV.above n (KV.keep p m) = true := by
  induction m with
  | nil => rfl
  | cons e r ih =>
    obtain ⟨j, w⟩ := e
    simp only [KV.above, Bool.and_eq_true, decide_eq_true_eq] at h
    simp only [KV.keep]
    split <;> simp_all [KV.above]

/-- Keeping some entries keeps the canonical form. -/
theorem KV.keep_wf {d : α} {p : Nat → α → Bool} {m : KV α} (h : KV.sorted m = true ∧ KV.noDefault (fun _ => d) m = true) :
    KV.sorted (KV.keep p m) = true ∧ KV.noDefault (fun _ => d) (KV.keep p m) = true := by
  induction m with
  | nil => exact ⟨rfl, rfl⟩
  | cons e r ih =>
    obtain ⟨j, w⟩ := e
    simp only [KV.sorted, KV.noDefault, Bool.and_eq_true, decide_eq_true_eq] at h
    have hr := ih ⟨h.1.2, h.2.2⟩
    simp only [KV.keep]
    split
    · simp [KV.sorted, KV.noDefault, h.2.1, hr.1, hr.2, KV.above_keep h.1.1]
    · exact hr

end Sys2Proof.Machine
end

