-- ==== Sys2Proof/Laws/State.lean ====
section
/-! SUPPORT. One lemma per field of the device per update: each update leaves the other fields alone. -/

namespace Sys2Proof.Machine

@[simp] theorem Dev.emit_out (d : Dev) (o : Out) : (d.emit o).out = d.out ++ [o] := rfl
@[simp] theorem Dev.answer_out (d : Dev) (s : Status) (v : Nat) : (d.answer s v).out = d.out ++ [.answer s v] := rfl
@[simp] theorem Dev.fresh_out (d : Dev) : d.fresh.out = [] := rfl
@[simp] theorem Dev.setTime_time (d : Dev) (f : TimeBase → TimeBase) : (d.setTime f).time = f d.time := rfl
@[simp] theorem Dev.submit_queue (d : Dev) (q : QReq) : (d.submit q).d0.queue = d.d0.queue ++ [q] := rfl

@[simp] theorem Dev.fresh_dict (d : Dev)  : (d.fresh ).dict = d.dict := rfl
@[simp] theorem Dev.fresh_blobs (d : Dev)  : (d.fresh ).blobs = d.blobs := rfl
@[simp] theorem Dev.fresh_regs (d : Dev)  : (d.fresh ).regs = d.regs := rfl
@[simp] theorem Dev.fresh_mem (d : Dev)  : (d.fresh ).mem = d.mem := rfl
@[simp] theorem Dev.fresh_epochs (d : Dev)  : (d.fresh ).epochs = d.epochs := rfl
@[simp] theorem Dev.fresh_free (d : Dev)  : (d.fresh ).free = d.free := rfl
@[simp] theorem Dev.fresh_logs (d : Dev)  : (d.fresh ).logs = d.logs := rfl
@[simp] theorem Dev.fresh_limits (d : Dev)  : (d.fresh ).limits = d.limits := rfl
@[simp] theorem Dev.fresh_ctrLatch (d : Dev)  : (d.fresh ).ctrLatch = d.ctrLatch := rfl
@[simp] theorem Dev.fresh_ctrStage (d : Dev)  : (d.fresh ).ctrStage = d.ctrStage := rfl
@[simp] theorem Dev.fresh_drains (d : Dev)  : (d.fresh ).drains = d.drains := rfl
@[simp] theorem Dev.fresh_supply (d : Dev)  : (d.fresh ).supply = d.supply := rfl
@[simp] theorem Dev.fresh_time (d : Dev)  : (d.fresh ).time = d.time := rfl
@[simp] theorem Dev.fresh_d0 (d : Dev)  : (d.fresh ).d0 = d.d0 := rfl
@[simp] theorem Dev.fresh_sw (d : Dev)  : (d.fresh ).sw = d.sw := rfl
@[simp] theorem Dev.fresh_can (d : Dev)  : (d.fresh ).can = d.can := rfl
@[simp] theorem Dev.fresh_sleep (d : Dev)  : (d.fresh ).sleep = d.sleep := rfl
@[simp] theorem Dev.fresh_power (d : Dev)  : (d.fresh ).power = d.power := rfl
@[simp] theorem Dev.fresh_br (d : Dev)  : (d.fresh ).br = d.br := rfl
@[simp] theorem Dev.fresh_load (d : Dev)  : (d.fresh ).load = d.load := rfl
@[simp] theorem Dev.fresh_adc (d : Dev)  : (d.fresh ).adc = d.adc := rfl
@[simp] theorem Dev.fresh_scan (d : Dev)  : (d.fresh ).scan = d.scan := rfl
@[simp] theorem Dev.fresh_dma (d : Dev)  : (d.fresh ).dma = d.dma := rfl
@[simp] theorem Dev.fresh_tenants (d : Dev)  : (d.fresh ).tenants = d.tenants := rfl
@[simp] theorem Dev.fresh_mezz (d : Dev)  : (d.fresh ).mezz = d.mezz := rfl
@[simp] theorem Dev.fresh_clk (d : Dev)  : (d.fresh ).clk = d.clk := rfl
@[simp] theorem Dev.fresh_sto (d : Dev)  : (d.fresh ).sto = d.sto := rfl
@[simp] theorem Dev.fresh_upd (d : Dev)  : (d.fresh ).upd = d.upd := rfl
@[simp] theorem Dev.fresh_held (d : Dev)  : (d.fresh ).held = d.held := rfl
@[simp] theorem Dev.fresh_harts (d : Dev)  : (d.fresh ).harts = d.harts := rfl
@[simp] theorem Dev.fresh_twin (d : Dev)  : (d.fresh ).twin = d.twin := rfl
@[simp] theorem Dev.fresh_board (d : Dev)  : (d.fresh ).board = d.board := rfl
@[simp] theorem Dev.get_fresh (d : Dev)  (y : Entry) : (d.fresh ).get y = d.get y := rfl
@[simp] theorem Dev.getInt_fresh (d : Dev)  (y : Entry) : (d.fresh ).getInt y = d.getInt y := rfl
@[simp] theorem Dev.flag_fresh (d : Dev)  (y : Entry) : (d.fresh ).flag y = d.flag y := rfl
@[simp] theorem Dev.oct_fresh (d : Dev)  (y : Entry) : (d.fresh ).oct y = d.oct y := rfl
@[simp] theorem Dev.word_fresh (d : Dev)  (y z : Nat) : (d.fresh ).word y z = d.word y z := rfl
@[simp] theorem Dev.fld_fresh (d : Dev)  (y : Field) : (d.fresh ).fld y = d.fld y := rfl
@[simp] theorem Dev.isSet_fresh (d : Dev)  (y : Field) : (d.fresh ).isSet y = d.isSet y := rfl
@[simp] theorem Dev.byte_fresh (d : Dev)  (y : Nat) : (d.fresh ).byte y = d.byte y := rfl
@[simp] theorem Dev.epoch_fresh (d : Dev)  (y : EpochUnit) : (d.fresh ).epoch y = d.epoch y := rfl

@[simp] theorem Dev.emit_dict (d : Dev) (o : Out) : (d.emit o).dict = d.dict := rfl
@[simp] theorem Dev.emit_blobs (d : Dev) (o : Out) : (d.emit o).blobs = d.blobs := rfl
@[simp] theorem Dev.emit_regs (d : Dev) (o : Out) : (d.emit o).regs = d.regs := rfl
@[simp] theorem Dev.emit_mem (d : Dev) (o : Out) : (d.emit o).mem = d.mem := rfl
@[simp] theorem Dev.emit_epochs (d : Dev) (o : Out) : (d.emit o).epochs = d.epochs := rfl
@[simp] theorem Dev.emit_free (d : Dev) (o : Out) : (d.emit o).free = d.free := rfl
@[simp] theorem Dev.emit_logs (d : Dev) (o : Out) : (d.emit o).logs = d.logs := rfl
@[simp] theorem Dev.emit_limits (d : Dev) (o : Out) : (d.emit o).limits = d.limits := rfl
@[simp] theorem Dev.emit_ctrLatch (d : Dev) (o : Out) : (d.emit o).ctrLatch = d.ctrLatch := rfl
@[simp] theorem Dev.emit_ctrStage (d : Dev) (o : Out) : (d.emit o).ctrStage = d.ctrStage := rfl
@[simp] theorem Dev.emit_drains (d : Dev) (o : Out) : (d.emit o).drains = d.drains := rfl
@[simp] theorem Dev.emit_supply (d : Dev) (o : Out) : (d.emit o).supply = d.supply := rfl
@[simp] theorem Dev.emit_time (d : Dev) (o : Out) : (d.emit o).time = d.time := rfl
@[simp] theorem Dev.emit_d0 (d : Dev) (o : Out) : (d.emit o).d0 = d.d0 := rfl
@[simp] theorem Dev.emit_sw (d : Dev) (o : Out) : (d.emit o).sw = d.sw := rfl
@[simp] theorem Dev.emit_can (d : Dev) (o : Out) : (d.emit o).can = d.can := rfl
@[simp] theorem Dev.emit_sleep (d : Dev) (o : Out) : (d.emit o).sleep = d.sleep := rfl
@[simp] theorem Dev.emit_power (d : Dev) (o : Out) : (d.emit o).power = d.power := rfl
@[simp] theorem Dev.emit_br (d : Dev) (o : Out) : (d.emit o).br = d.br := rfl
@[simp] theorem Dev.emit_load (d : Dev) (o : Out) : (d.emit o).load = d.load := rfl
@[simp] theorem Dev.emit_adc (d : Dev) (o : Out) : (d.emit o).adc = d.adc := rfl
@[simp] theorem Dev.emit_scan (d : Dev) (o : Out) : (d.emit o).scan = d.scan := rfl
@[simp] theorem Dev.emit_dma (d : Dev) (o : Out) : (d.emit o).dma = d.dma := rfl
@[simp] theorem Dev.emit_tenants (d : Dev) (o : Out) : (d.emit o).tenants = d.tenants := rfl
@[simp] theorem Dev.emit_mezz (d : Dev) (o : Out) : (d.emit o).mezz = d.mezz := rfl
@[simp] theorem Dev.emit_clk (d : Dev) (o : Out) : (d.emit o).clk = d.clk := rfl
@[simp] theorem Dev.emit_sto (d : Dev) (o : Out) : (d.emit o).sto = d.sto := rfl
@[simp] theorem Dev.emit_upd (d : Dev) (o : Out) : (d.emit o).upd = d.upd := rfl
@[simp] theorem Dev.emit_held (d : Dev) (o : Out) : (d.emit o).held = d.held := rfl
@[simp] theorem Dev.emit_harts (d : Dev) (o : Out) : (d.emit o).harts = d.harts := rfl
@[simp] theorem Dev.emit_twin (d : Dev) (o : Out) : (d.emit o).twin = d.twin := rfl
@[simp] theorem Dev.emit_board (d : Dev) (o : Out) : (d.emit o).board = d.board := rfl
@[simp] theorem Dev.get_emit (d : Dev) (o : Out) (y : Entry) : (d.emit o).get y = d.get y := rfl
@[simp] theorem Dev.getInt_emit (d : Dev) (o : Out) (y : Entry) : (d.emit o).getInt y = d.getInt y := rfl
@[simp] theorem Dev.flag_emit (d : Dev) (o : Out) (y : Entry) : (d.emit o).flag y = d.flag y := rfl
@[simp] theorem Dev.oct_emit (d : Dev) (o : Out) (y : Entry) : (d.emit o).oct y = d.oct y := rfl
@[simp] theorem Dev.word_emit (d : Dev) (o : Out) (y z : Nat) : (d.emit o).word y z = d.word y z := rfl
@[simp] theorem Dev.fld_emit (d : Dev) (o : Out) (y : Field) : (d.emit o).fld y = d.fld y := rfl
@[simp] theorem Dev.isSet_emit (d : Dev) (o : Out) (y : Field) : (d.emit o).isSet y = d.isSet y := rfl
@[simp] theorem Dev.byte_emit (d : Dev) (o : Out) (y : Nat) : (d.emit o).byte y = d.byte y := rfl
@[simp] theorem Dev.epoch_emit (d : Dev) (o : Out) (y : EpochUnit) : (d.emit o).epoch y = d.epoch y := rfl

@[simp] theorem Dev.answer_dict (d : Dev) (s : Status) (v : Nat) : (d.answer s v).dict = d.dict := rfl
@[simp] theorem Dev.answer_blobs (d : Dev) (s : Status) (v : Nat) : (d.answer s v).blobs = d.blobs := rfl
@[simp] theorem Dev.answer_regs (d : Dev) (s : Status) (v : Nat) : (d.answer s v).regs = d.regs := rfl
@[simp] theorem Dev.answer_mem (d : Dev) (s : Status) (v : Nat) : (d.answer s v).mem = d.mem := rfl
@[simp] theorem Dev.answer_epochs (d : Dev) (s : Status) (v : Nat) : (d.answer s v).epochs = d.epochs := rfl
@[simp] theorem Dev.answer_free (d : Dev) (s : Status) (v : Nat) : (d.answer s v).free = d.free := rfl
@[simp] theorem Dev.answer_logs (d : Dev) (s : Status) (v : Nat) : (d.answer s v).logs = d.logs := rfl
@[simp] theorem Dev.answer_limits (d : Dev) (s : Status) (v : Nat) : (d.answer s v).limits = d.limits := rfl
@[simp] theorem Dev.answer_ctrLatch (d : Dev) (s : Status) (v : Nat) : (d.answer s v).ctrLatch = d.ctrLatch := rfl
@[simp] theorem Dev.answer_ctrStage (d : Dev) (s : Status) (v : Nat) : (d.answer s v).ctrStage = d.ctrStage := rfl
@[simp] theorem Dev.answer_drains (d : Dev) (s : Status) (v : Nat) : (d.answer s v).drains = d.drains := rfl
@[simp] theorem Dev.answer_supply (d : Dev) (s : Status) (v : Nat) : (d.answer s v).supply = d.supply := rfl
@[simp] theorem Dev.answer_time (d : Dev) (s : Status) (v : Nat) : (d.answer s v).time = d.time := rfl
@[simp] theorem Dev.answer_d0 (d : Dev) (s : Status) (v : Nat) : (d.answer s v).d0 = d.d0 := rfl
@[simp] theorem Dev.answer_sw (d : Dev) (s : Status) (v : Nat) : (d.answer s v).sw = d.sw := rfl
@[simp] theorem Dev.answer_can (d : Dev) (s : Status) (v : Nat) : (d.answer s v).can = d.can := rfl
@[simp] theorem Dev.answer_sleep (d : Dev) (s : Status) (v : Nat) : (d.answer s v).sleep = d.sleep := rfl
@[simp] theorem Dev.answer_power (d : Dev) (s : Status) (v : Nat) : (d.answer s v).power = d.power := rfl
@[simp] theorem Dev.answer_br (d : Dev) (s : Status) (v : Nat) : (d.answer s v).br = d.br := rfl
@[simp] theorem Dev.answer_load (d : Dev) (s : Status) (v : Nat) : (d.answer s v).load = d.load := rfl
@[simp] theorem Dev.answer_adc (d : Dev) (s : Status) (v : Nat) : (d.answer s v).adc = d.adc := rfl
@[simp] theorem Dev.answer_scan (d : Dev) (s : Status) (v : Nat) : (d.answer s v).scan = d.scan := rfl
@[simp] theorem Dev.answer_dma (d : Dev) (s : Status) (v : Nat) : (d.answer s v).dma = d.dma := rfl
@[simp] theorem Dev.answer_tenants (d : Dev) (s : Status) (v : Nat) : (d.answer s v).tenants = d.tenants := rfl
@[simp] theorem Dev.answer_mezz (d : Dev) (s : Status) (v : Nat) : (d.answer s v).mezz = d.mezz := rfl
@[simp] theorem Dev.answer_clk (d : Dev) (s : Status) (v : Nat) : (d.answer s v).clk = d.clk := rfl
@[simp] theorem Dev.answer_sto (d : Dev) (s : Status) (v : Nat) : (d.answer s v).sto = d.sto := rfl
@[simp] theorem Dev.answer_upd (d : Dev) (s : Status) (v : Nat) : (d.answer s v).upd = d.upd := rfl
@[simp] theorem Dev.answer_held (d : Dev) (s : Status) (v : Nat) : (d.answer s v).held = d.held := rfl
@[simp] theorem Dev.answer_harts (d : Dev) (s : Status) (v : Nat) : (d.answer s v).harts = d.harts := rfl
@[simp] theorem Dev.answer_twin (d : Dev) (s : Status) (v : Nat) : (d.answer s v).twin = d.twin := rfl
@[simp] theorem Dev.answer_board (d : Dev) (s : Status) (v : Nat) : (d.answer s v).board = d.board := rfl
@[simp] theorem Dev.get_answer (d : Dev) (s : Status) (v : Nat) (y : Entry) : (d.answer s v).get y = d.get y := rfl
@[simp] theorem Dev.getInt_answer (d : Dev) (s : Status) (v : Nat) (y : Entry) : (d.answer s v).getInt y = d.getInt y := rfl
@[simp] theorem Dev.flag_answer (d : Dev) (s : Status) (v : Nat) (y : Entry) : (d.answer s v).flag y = d.flag y := rfl
@[simp] theorem Dev.oct_answer (d : Dev) (s : Status) (v : Nat) (y : Entry) : (d.answer s v).oct y = d.oct y := rfl
@[simp] theorem Dev.word_answer (d : Dev) (s : Status) (v : Nat) (y z : Nat) : (d.answer s v).word y z = d.word y z := rfl
@[simp] theorem Dev.fld_answer (d : Dev) (s : Status) (v : Nat) (y : Field) : (d.answer s v).fld y = d.fld y := rfl
@[simp] theorem Dev.isSet_answer (d : Dev) (s : Status) (v : Nat) (y : Field) : (d.answer s v).isSet y = d.isSet y := rfl
@[simp] theorem Dev.byte_answer (d : Dev) (s : Status) (v : Nat) (y : Nat) : (d.answer s v).byte y = d.byte y := rfl
@[simp] theorem Dev.epoch_answer (d : Dev) (s : Status) (v : Nat) (y : EpochUnit) : (d.answer s v).epoch y = d.epoch y := rfl

@[simp] theorem Dev.put_blobs (d : Dev) (e : Entry) (v : Nat) : (d.put e v).blobs = d.blobs := rfl
@[simp] theorem Dev.put_regs (d : Dev) (e : Entry) (v : Nat) : (d.put e v).regs = d.regs := rfl
@[simp] theorem Dev.put_mem (d : Dev) (e : Entry) (v : Nat) : (d.put e v).mem = d.mem := rfl
@[simp] theorem Dev.put_epochs (d : Dev) (e : Entry) (v : Nat) : (d.put e v).epochs = d.epochs := rfl
@[simp] theorem Dev.put_free (d : Dev) (e : Entry) (v : Nat) : (d.put e v).free = d.free := rfl
@[simp] theorem Dev.put_out (d : Dev) (e : Entry) (v : Nat) : (d.put e v).out = d.out := rfl
@[simp] theorem Dev.put_logs (d : Dev) (e : Entry) (v : Nat) : (d.put e v).logs = d.logs := rfl
@[simp] theorem Dev.put_limits (d : Dev) (e : Entry) (v : Nat) : (d.put e v).limits = d.limits := rfl
@[simp] theorem Dev.put_ctrLatch (d : Dev) (e : Entry) (v : Nat) : (d.put e v).ctrLatch = d.ctrLatch := rfl
@[simp] theorem Dev.put_ctrStage (d : Dev) (e : Entry) (v : Nat) : (d.put e v).ctrStage = d.ctrStage := rfl
@[simp] theorem Dev.put_drains (d : Dev) (e : Entry) (v : Nat) : (d.put e v).drains = d.drains := rfl
@[simp] theorem Dev.put_supply (d : Dev) (e : Entry) (v : Nat) : (d.put e v).supply = d.supply := rfl
@[simp] theorem Dev.put_time (d : Dev) (e : Entry) (v : Nat) : (d.put e v).time = d.time := rfl
@[simp] theorem Dev.put_d0 (d : Dev) (e : Entry) (v : Nat) : (d.put e v).d0 = d.d0 := rfl
@[simp] theorem Dev.put_sw (d : Dev) (e : Entry) (v : Nat) : (d.put e v).sw = d.sw := rfl
@[simp] theorem Dev.put_can (d : Dev) (e : Entry) (v : Nat) : (d.put e v).can = d.can := rfl
@[simp] theorem Dev.put_sleep (d : Dev) (e : Entry) (v : Nat) : (d.put e v).sleep = d.sleep := rfl
@[simp] theorem Dev.put_power (d : Dev) (e : Entry) (v : Nat) : (d.put e v).power = d.power := rfl
@[simp] theorem Dev.put_br (d : Dev) (e : Entry) (v : Nat) : (d.put e v).br = d.br := rfl
@[simp] theorem Dev.put_load (d : Dev) (e : Entry) (v : Nat) : (d.put e v).load = d.load := rfl
@[simp] theorem Dev.put_adc (d : Dev) (e : Entry) (v : Nat) : (d.put e v).adc = d.adc := rfl
@[simp] theorem Dev.put_scan (d : Dev) (e : Entry) (v : Nat) : (d.put e v).scan = d.scan := rfl
@[simp] theorem Dev.put_dma (d : Dev) (e : Entry) (v : Nat) : (d.put e v).dma = d.dma := rfl
@[simp] theorem Dev.put_tenants (d : Dev) (e : Entry) (v : Nat) : (d.put e v).tenants = d.tenants := rfl
@[simp] theorem Dev.put_mezz (d : Dev) (e : Entry) (v : Nat) : (d.put e v).mezz = d.mezz := rfl
@[simp] theorem Dev.put_clk (d : Dev) (e : Entry) (v : Nat) : (d.put e v).clk = d.clk := rfl
@[simp] theorem Dev.put_sto (d : Dev) (e : Entry) (v : Nat) : (d.put e v).sto = d.sto := rfl
@[simp] theorem Dev.put_upd (d : Dev) (e : Entry) (v : Nat) : (d.put e v).upd = d.upd := rfl
@[simp] theorem Dev.put_held (d : Dev) (e : Entry) (v : Nat) : (d.put e v).held = d.held := rfl
@[simp] theorem Dev.put_harts (d : Dev) (e : Entry) (v : Nat) : (d.put e v).harts = d.harts := rfl
@[simp] theorem Dev.put_twin (d : Dev) (e : Entry) (v : Nat) : (d.put e v).twin = d.twin := rfl
@[simp] theorem Dev.put_board (d : Dev) (e : Entry) (v : Nat) : (d.put e v).board = d.board := rfl
@[simp] theorem Dev.oct_put (d : Dev) (e : Entry) (v : Nat) (y : Entry) : (d.put e v).oct y = d.oct y := rfl
@[simp] theorem Dev.word_put (d : Dev) (e : Entry) (v : Nat) (y z : Nat) : (d.put e v).word y z = d.word y z := rfl
@[simp] theorem Dev.fld_put (d : Dev) (e : Entry) (v : Nat) (y : Field) : (d.put e v).fld y = d.fld y := rfl
@[simp] theorem Dev.isSet_put (d : Dev) (e : Entry) (v : Nat) (y : Field) : (d.put e v).isSet y = d.isSet y := rfl
@[simp] theorem Dev.byte_put (d : Dev) (e : Entry) (v : Nat) (y : Nat) : (d.put e v).byte y = d.byte y := rfl

@[simp] theorem Dev.putOct_dict (d : Dev) (e : Entry) (b : Bytes) : (d.putOct e b).dict = d.dict := rfl
@[simp] theorem Dev.putOct_regs (d : Dev) (e : Entry) (b : Bytes) : (d.putOct e b).regs = d.regs := rfl
@[simp] theorem Dev.putOct_mem (d : Dev) (e : Entry) (b : Bytes) : (d.putOct e b).mem = d.mem := rfl
@[simp] theorem Dev.putOct_epochs (d : Dev) (e : Entry) (b : Bytes) : (d.putOct e b).epochs = d.epochs := rfl
@[simp] theorem Dev.putOct_free (d : Dev) (e : Entry) (b : Bytes) : (d.putOct e b).free = d.free := rfl
@[simp] theorem Dev.putOct_out (d : Dev) (e : Entry) (b : Bytes) : (d.putOct e b).out = d.out := rfl
@[simp] theorem Dev.putOct_logs (d : Dev) (e : Entry) (b : Bytes) : (d.putOct e b).logs = d.logs := rfl
@[simp] theorem Dev.putOct_limits (d : Dev) (e : Entry) (b : Bytes) : (d.putOct e b).limits = d.limits := rfl
@[simp] theorem Dev.putOct_ctrLatch (d : Dev) (e : Entry) (b : Bytes) : (d.putOct e b).ctrLatch = d.ctrLatch := rfl
@[simp] theorem Dev.putOct_ctrStage (d : Dev) (e : Entry) (b : Bytes) : (d.putOct e b).ctrStage = d.ctrStage := rfl
@[simp] theorem Dev.putOct_drains (d : Dev) (e : Entry) (b : Bytes) : (d.putOct e b).drains = d.drains := rfl
@[simp] theorem Dev.putOct_supply (d : Dev) (e : Entry) (b : Bytes) : (d.putOct e b).supply = d.supply := rfl
@[simp] theorem Dev.putOct_time (d : Dev) (e : Entry) (b : Bytes) : (d.putOct e b).time = d.time := rfl
@[simp] theorem Dev.putOct_d0 (d : Dev) (e : Entry) (b : Bytes) : (d.putOct e b).d0 = d.d0 := rfl
@[simp] theorem Dev.putOct_sw (d : Dev) (e : Entry) (b : Bytes) : (d.putOct e b).sw = d.sw := rfl
@[simp] theorem Dev.putOct_can (d : Dev) (e : Entry) (b : Bytes) : (d.putOct e b).can = d.can := rfl
@[simp] theorem Dev.putOct_sleep (d : Dev) (e : Entry) (b : Bytes) : (d.putOct e b).sleep = d.sleep := rfl
@[simp] theorem Dev.putOct_power (d : Dev) (e : Entry) (b : Bytes) : (d.putOct e b).power = d.power := rfl
@[simp] theorem Dev.putOct_br (d : Dev) (e : Entry) (b : Bytes) : (d.putOct e b).br = d.br := rfl
@[simp] theorem Dev.putOct_load (d : Dev) (e : Entry) (b : Bytes) : (d.putOct e b).load = d.load := rfl
@[simp] theorem Dev.putOct_adc (d : Dev) (e : Entry) (b : Bytes) : (d.putOct e b).adc = d.adc := rfl
@[simp] theorem Dev.putOct_scan (d : Dev) (e : Entry) (b : Bytes) : (d.putOct e b).scan = d.scan := rfl
@[simp] theorem Dev.putOct_dma (d : Dev) (e : Entry) (b : Bytes) : (d.putOct e b).dma = d.dma := rfl
@[simp] theorem Dev.putOct_tenants (d : Dev) (e : Entry) (b : Bytes) : (d.putOct e b).tenants = d.tenants := rfl
@[simp] theorem Dev.putOct_mezz (d : Dev) (e : Entry) (b : Bytes) : (d.putOct e b).mezz = d.mezz := rfl
@[simp] theorem Dev.putOct_clk (d : Dev) (e : Entry) (b : Bytes) : (d.putOct e b).clk = d.clk := rfl
@[simp] theorem Dev.putOct_sto (d : Dev) (e : Entry) (b : Bytes) : (d.putOct e b).sto = d.sto := rfl
@[simp] theorem Dev.putOct_upd (d : Dev) (e : Entry) (b : Bytes) : (d.putOct e b).upd = d.upd := rfl
@[simp] theorem Dev.putOct_held (d : Dev) (e : Entry) (b : Bytes) : (d.putOct e b).held = d.held := rfl
@[simp] theorem Dev.putOct_harts (d : Dev) (e : Entry) (b : Bytes) : (d.putOct e b).harts = d.harts := rfl
@[simp] theorem Dev.putOct_twin (d : Dev) (e : Entry) (b : Bytes) : (d.putOct e b).twin = d.twin := rfl
@[simp] theorem Dev.putOct_board (d : Dev) (e : Entry) (b : Bytes) : (d.putOct e b).board = d.board := rfl
@[simp] theorem Dev.get_putOct (d : Dev) (e : Entry) (b : Bytes) (y : Entry) : (d.putOct e b).get y = d.get y := rfl
@[simp] theorem Dev.getInt_putOct (d : Dev) (e : Entry) (b : Bytes) (y : Entry) : (d.putOct e b).getInt y = d.getInt y := rfl
@[simp] theorem Dev.flag_putOct (d : Dev) (e : Entry) (b : Bytes) (y : Entry) : (d.putOct e b).flag y = d.flag y := rfl
@[simp] theorem Dev.word_putOct (d : Dev) (e : Entry) (b : Bytes) (y z : Nat) : (d.putOct e b).word y z = d.word y z := rfl
@[simp] theorem Dev.fld_putOct (d : Dev) (e : Entry) (b : Bytes) (y : Field) : (d.putOct e b).fld y = d.fld y := rfl
@[simp] theorem Dev.isSet_putOct (d : Dev) (e : Entry) (b : Bytes) (y : Field) : (d.putOct e b).isSet y = d.isSet y := rfl
@[simp] theorem Dev.byte_putOct (d : Dev) (e : Entry) (b : Bytes) (y : Nat) : (d.putOct e b).byte y = d.byte y := rfl
@[simp] theorem Dev.epoch_putOct (d : Dev) (e : Entry) (b : Bytes) (y : EpochUnit) : (d.putOct e b).epoch y = d.epoch y := rfl

@[simp] theorem Dev.putWord_dict (d : Dev) (a r v : Nat) : (d.putWord a r v).dict = d.dict := rfl
@[simp] theorem Dev.putWord_blobs (d : Dev) (a r v : Nat) : (d.putWord a r v).blobs = d.blobs := rfl
@[simp] theorem Dev.putWord_mem (d : Dev) (a r v : Nat) : (d.putWord a r v).mem = d.mem := rfl
@[simp] theorem Dev.putWord_epochs (d : Dev) (a r v : Nat) : (d.putWord a r v).epochs = d.epochs := rfl
@[simp] theorem Dev.putWord_free (d : Dev) (a r v : Nat) : (d.putWord a r v).free = d.free := rfl
@[simp] theorem Dev.putWord_out (d : Dev) (a r v : Nat) : (d.putWord a r v).out = d.out := rfl
@[simp] theorem Dev.putWord_logs (d : Dev) (a r v : Nat) : (d.putWord a r v).logs = d.logs := rfl
@[simp] theorem Dev.putWord_limits (d : Dev) (a r v : Nat) : (d.putWord a r v).limits = d.limits := rfl
@[simp] theorem Dev.putWord_ctrLatch (d : Dev) (a r v : Nat) : (d.putWord a r v).ctrLatch = d.ctrLatch := rfl
@[simp] theorem Dev.putWord_ctrStage (d : Dev) (a r v : Nat) : (d.putWord a r v).ctrStage = d.ctrStage := rfl
@[simp] theorem Dev.putWord_drains (d : Dev) (a r v : Nat) : (d.putWord a r v).drains = d.drains := rfl
@[simp] theorem Dev.putWord_supply (d : Dev) (a r v : Nat) : (d.putWord a r v).supply = d.supply := rfl
@[simp] theorem Dev.putWord_time (d : Dev) (a r v : Nat) : (d.putWord a r v).time = d.time := rfl
@[simp] theorem Dev.putWord_d0 (d : Dev) (a r v : Nat) : (d.putWord a r v).d0 = d.d0 := rfl
@[simp] theorem Dev.putWord_sw (d : Dev) (a r v : Nat) : (d.putWord a r v).sw = d.sw := rfl
@[simp] theorem Dev.putWord_can (d : Dev) (a r v : Nat) : (d.putWord a r v).can = d.can := rfl
@[simp] theorem Dev.putWord_sleep (d : Dev) (a r v : Nat) : (d.putWord a r v).sleep = d.sleep := rfl
@[simp] theorem Dev.putWord_power (d : Dev) (a r v : Nat) : (d.putWord a r v).power = d.power := rfl
@[simp] theorem Dev.putWord_br (d : Dev) (a r v : Nat) : (d.putWord a r v).br = d.br := rfl
@[simp] theorem Dev.putWord_load (d : Dev) (a r v : Nat) : (d.putWord a r v).load = d.load := rfl
@[simp] theorem Dev.putWord_adc (d : Dev) (a r v : Nat) : (d.putWord a r v).adc = d.adc := rfl
@[simp] theorem Dev.putWord_scan (d : Dev) (a r v : Nat) : (d.putWord a r v).scan = d.scan := rfl
@[simp] theorem Dev.putWord_dma (d : Dev) (a r v : Nat) : (d.putWord a r v).dma = d.dma := rfl
@[simp] theorem Dev.putWord_tenants (d : Dev) (a r v : Nat) : (d.putWord a r v).tenants = d.tenants := rfl
@[simp] theorem Dev.putWord_mezz (d : Dev) (a r v : Nat) : (d.putWord a r v).mezz = d.mezz := rfl
@[simp] theorem Dev.putWord_clk (d : Dev) (a r v : Nat) : (d.putWord a r v).clk = d.clk := rfl
@[simp] theorem Dev.putWord_sto (d : Dev) (a r v : Nat) : (d.putWord a r v).sto = d.sto := rfl
@[simp] theorem Dev.putWord_upd (d : Dev) (a r v : Nat) : (d.putWord a r v).upd = d.upd := rfl
@[simp] theorem Dev.putWord_held (d : Dev) (a r v : Nat) : (d.putWord a r v).held = d.held := rfl
@[simp] theorem Dev.putWord_harts (d : Dev) (a r v : Nat) : (d.putWord a r v).harts = d.harts := rfl
@[simp] theorem Dev.putWord_twin (d : Dev) (a r v : Nat) : (d.putWord a r v).twin = d.twin := rfl
@[simp] theorem Dev.putWord_board (d : Dev) (a r v : Nat) : (d.putWord a r v).board = d.board := rfl
@[simp] theorem Dev.get_putWord (d : Dev) (a r v : Nat) (y : Entry) : (d.putWord a r v).get y = d.get y := rfl
@[simp] theorem Dev.getInt_putWord (d : Dev) (a r v : Nat) (y : Entry) : (d.putWord a r v).getInt y = d.getInt y := rfl
@[simp] theorem Dev.flag_putWord (d : Dev) (a r v : Nat) (y : Entry) : (d.putWord a r v).flag y = d.flag y := rfl
@[simp] theorem Dev.oct_putWord (d : Dev) (a r v : Nat) (y : Entry) : (d.putWord a r v).oct y = d.oct y := rfl
@[simp] theorem Dev.byte_putWord (d : Dev) (a r v : Nat) (y : Nat) : (d.putWord a r v).byte y = d.byte y := rfl
@[simp] theorem Dev.epoch_putWord (d : Dev) (a r v : Nat) (y : EpochUnit) : (d.putWord a r v).epoch y = d.epoch y := rfl

@[simp] theorem Dev.setFld_dict (d : Dev) (f : Field) (v : Nat) : (d.setFld f v).dict = d.dict := rfl
@[simp] theorem Dev.setFld_blobs (d : Dev) (f : Field) (v : Nat) : (d.setFld f v).blobs = d.blobs := rfl
@[simp] theorem Dev.setFld_mem (d : Dev) (f : Field) (v : Nat) : (d.setFld f v).mem = d.mem := rfl
@[simp] theorem Dev.setFld_epochs (d : Dev) (f : Field) (v : Nat) : (d.setFld f v).epochs = d.epochs := rfl
@[simp] theorem Dev.setFld_free (d : Dev) (f : Field) (v : Nat) : (d.setFld f v).free = d.free := rfl
@[simp] theorem Dev.setFld_out (d : Dev) (f : Field) (v : Nat) : (d.setFld f v).out = d.out := rfl
@[simp] theorem Dev.setFld_logs (d : Dev) (f : Field) (v : Nat) : (d.setFld f v).logs = d.logs := rfl
@[simp] theorem Dev.setFld_limits (d : Dev) (f : Field) (v : Nat) : (d.setFld f v).limits = d.limits := rfl
@[simp] theorem Dev.setFld_ctrLatch (d : Dev) (f : Field) (v : Nat) : (d.setFld f v).ctrLatch = d.ctrLatch := rfl
@[simp] theorem Dev.setFld_ctrStage (d : Dev) (f : Field) (v : Nat) : (d.setFld f v).ctrStage = d.ctrStage := rfl
@[simp] theorem Dev.setFld_drains (d : Dev) (f : Field) (v : Nat) : (d.setFld f v).drains = d.drains := rfl
@[simp] theorem Dev.setFld_supply (d : Dev) (f : Field) (v : Nat) : (d.setFld f v).supply = d.supply := rfl
@[simp] theorem Dev.setFld_time (d : Dev) (f : Field) (v : Nat) : (d.setFld f v).time = d.time := rfl
@[simp] theorem Dev.setFld_d0 (d : Dev) (f : Field) (v : Nat) : (d.setFld f v).d0 = d.d0 := rfl
@[simp] theorem Dev.setFld_sw (d : Dev) (f : Field) (v : Nat) : (d.setFld f v).sw = d.sw := rfl
@[simp] theorem Dev.setFld_can (d : Dev) (f : Field) (v : Nat) : (d.setFld f v).can = d.can := rfl
@[simp] theorem Dev.setFld_sleep (d : Dev) (f : Field) (v : Nat) : (d.setFld f v).sleep = d.sleep := rfl
@[simp] theorem Dev.setFld_power (d : Dev) (f : Field) (v : Nat) : (d.setFld f v).power = d.power := rfl
@[simp] theorem Dev.setFld_br (d : Dev) (f : Field) (v : Nat) : (d.setFld f v).br = d.br := rfl
@[simp] theorem Dev.setFld_load (d : Dev) (f : Field) (v : Nat) : (d.setFld f v).load = d.load := rfl
@[simp] theorem Dev.setFld_adc (d : Dev) (f : Field) (v : Nat) : (d.setFld f v).adc = d.adc := rfl
@[simp] theorem Dev.setFld_scan (d : Dev) (f : Field) (v : Nat) : (d.setFld f v).scan = d.scan := rfl
@[simp] theorem Dev.setFld_dma (d : Dev) (f : Field) (v : Nat) : (d.setFld f v).dma = d.dma := rfl
@[simp] theorem Dev.setFld_tenants (d : Dev) (f : Field) (v : Nat) : (d.setFld f v).tenants = d.tenants := rfl
@[simp] theorem Dev.setFld_mezz (d : Dev) (f : Field) (v : Nat) : (d.setFld f v).mezz = d.mezz := rfl
@[simp] theorem Dev.setFld_clk (d : Dev) (f : Field) (v : Nat) : (d.setFld f v).clk = d.clk := rfl
@[simp] theorem Dev.setFld_sto (d : Dev) (f : Field) (v : Nat) : (d.setFld f v).sto = d.sto := rfl
@[simp] theorem Dev.setFld_upd (d : Dev) (f : Field) (v : Nat) : (d.setFld f v).upd = d.upd := rfl
@[simp] theorem Dev.setFld_held (d : Dev) (f : Field) (v : Nat) : (d.setFld f v).held = d.held := rfl
@[simp] theorem Dev.setFld_harts (d : Dev) (f : Field) (v : Nat) : (d.setFld f v).harts = d.harts := rfl
@[simp] theorem Dev.setFld_twin (d : Dev) (f : Field) (v : Nat) : (d.setFld f v).twin = d.twin := rfl
@[simp] theorem Dev.setFld_board (d : Dev) (f : Field) (v : Nat) : (d.setFld f v).board = d.board := rfl
@[simp] theorem Dev.get_setFld (d : Dev) (f : Field) (v : Nat) (y : Entry) : (d.setFld f v).get y = d.get y := rfl
@[simp] theorem Dev.getInt_setFld (d : Dev) (f : Field) (v : Nat) (y : Entry) : (d.setFld f v).getInt y = d.getInt y := rfl
@[simp] theorem Dev.flag_setFld (d : Dev) (f : Field) (v : Nat) (y : Entry) : (d.setFld f v).flag y = d.flag y := rfl
@[simp] theorem Dev.oct_setFld (d : Dev) (f : Field) (v : Nat) (y : Entry) : (d.setFld f v).oct y = d.oct y := rfl
@[simp] theorem Dev.byte_setFld (d : Dev) (f : Field) (v : Nat) (y : Nat) : (d.setFld f v).byte y = d.byte y := rfl
@[simp] theorem Dev.epoch_setFld (d : Dev) (f : Field) (v : Nat) (y : EpochUnit) : (d.setFld f v).epoch y = d.epoch y := rfl

@[simp] theorem Dev.setByte_dict (d : Dev) (a : Nat) (b : BitVec 8) : (d.setByte a b).dict = d.dict := rfl
@[simp] theorem Dev.setByte_blobs (d : Dev) (a : Nat) (b : BitVec 8) : (d.setByte a b).blobs = d.blobs := rfl
@[simp] theorem Dev.setByte_regs (d : Dev) (a : Nat) (b : BitVec 8) : (d.setByte a b).regs = d.regs := rfl
@[simp] theorem Dev.setByte_epochs (d : Dev) (a : Nat) (b : BitVec 8) : (d.setByte a b).epochs = d.epochs := rfl
@[simp] theorem Dev.setByte_free (d : Dev) (a : Nat) (b : BitVec 8) : (d.setByte a b).free = d.free := rfl
@[simp] theorem Dev.setByte_out (d : Dev) (a : Nat) (b : BitVec 8) : (d.setByte a b).out = d.out := rfl
@[simp] theorem Dev.setByte_logs (d : Dev) (a : Nat) (b : BitVec 8) : (d.setByte a b).logs = d.logs := rfl
@[simp] theorem Dev.setByte_limits (d : Dev) (a : Nat) (b : BitVec 8) : (d.setByte a b).limits = d.limits := rfl
@[simp] theorem Dev.setByte_ctrLatch (d : Dev) (a : Nat) (b : BitVec 8) : (d.setByte a b).ctrLatch = d.ctrLatch := rfl
@[simp] theorem Dev.setByte_ctrStage (d : Dev) (a : Nat) (b : BitVec 8) : (d.setByte a b).ctrStage = d.ctrStage := rfl
@[simp] theorem Dev.setByte_drains (d : Dev) (a : Nat) (b : BitVec 8) : (d.setByte a b).drains = d.drains := rfl
@[simp] theorem Dev.setByte_supply (d : Dev) (a : Nat) (b : BitVec 8) : (d.setByte a b).supply = d.supply := rfl
@[simp] theorem Dev.setByte_time (d : Dev) (a : Nat) (b : BitVec 8) : (d.setByte a b).time = d.time := rfl
@[simp] theorem Dev.setByte_d0 (d : Dev) (a : Nat) (b : BitVec 8) : (d.setByte a b).d0 = d.d0 := rfl
@[simp] theorem Dev.setByte_sw (d : Dev) (a : Nat) (b : BitVec 8) : (d.setByte a b).sw = d.sw := rfl
@[simp] theorem Dev.setByte_can (d : Dev) (a : Nat) (b : BitVec 8) : (d.setByte a b).can = d.can := rfl
@[simp] theorem Dev.setByte_sleep (d : Dev) (a : Nat) (b : BitVec 8) : (d.setByte a b).sleep = d.sleep := rfl
@[simp] theorem Dev.setByte_power (d : Dev) (a : Nat) (b : BitVec 8) : (d.setByte a b).power = d.power := rfl
@[simp] theorem Dev.setByte_br (d : Dev) (a : Nat) (b : BitVec 8) : (d.setByte a b).br = d.br := rfl
@[simp] theorem Dev.setByte_load (d : Dev) (a : Nat) (b : BitVec 8) : (d.setByte a b).load = d.load := rfl
@[simp] theorem Dev.setByte_adc (d : Dev) (a : Nat) (b : BitVec 8) : (d.setByte a b).adc = d.adc := rfl
@[simp] theorem Dev.setByte_scan (d : Dev) (a : Nat) (b : BitVec 8) : (d.setByte a b).scan = d.scan := rfl
@[simp] theorem Dev.setByte_dma (d : Dev) (a : Nat) (b : BitVec 8) : (d.setByte a b).dma = d.dma := rfl
@[simp] theorem Dev.setByte_tenants (d : Dev) (a : Nat) (b : BitVec 8) : (d.setByte a b).tenants = d.tenants := rfl
@[simp] theorem Dev.setByte_mezz (d : Dev) (a : Nat) (b : BitVec 8) : (d.setByte a b).mezz = d.mezz := rfl
@[simp] theorem Dev.setByte_clk (d : Dev) (a : Nat) (b : BitVec 8) : (d.setByte a b).clk = d.clk := rfl
@[simp] theorem Dev.setByte_sto (d : Dev) (a : Nat) (b : BitVec 8) : (d.setByte a b).sto = d.sto := rfl
@[simp] theorem Dev.setByte_upd (d : Dev) (a : Nat) (b : BitVec 8) : (d.setByte a b).upd = d.upd := rfl
@[simp] theorem Dev.setByte_held (d : Dev) (a : Nat) (b : BitVec 8) : (d.setByte a b).held = d.held := rfl
@[simp] theorem Dev.setByte_harts (d : Dev) (a : Nat) (b : BitVec 8) : (d.setByte a b).harts = d.harts := rfl
@[simp] theorem Dev.setByte_twin (d : Dev) (a : Nat) (b : BitVec 8) : (d.setByte a b).twin = d.twin := rfl
@[simp] theorem Dev.setByte_board (d : Dev) (a : Nat) (b : BitVec 8) : (d.setByte a b).board = d.board := rfl
@[simp] theorem Dev.get_setByte (d : Dev) (a : Nat) (b : BitVec 8) (y : Entry) : (d.setByte a b).get y = d.get y := rfl
@[simp] theorem Dev.getInt_setByte (d : Dev) (a : Nat) (b : BitVec 8) (y : Entry) : (d.setByte a b).getInt y = d.getInt y := rfl
@[simp] theorem Dev.flag_setByte (d : Dev) (a : Nat) (b : BitVec 8) (y : Entry) : (d.setByte a b).flag y = d.flag y := rfl
@[simp] theorem Dev.oct_setByte (d : Dev) (a : Nat) (b : BitVec 8) (y : Entry) : (d.setByte a b).oct y = d.oct y := rfl
@[simp] theorem Dev.word_setByte (d : Dev) (a : Nat) (b : BitVec 8) (y z : Nat) : (d.setByte a b).word y z = d.word y z := rfl
@[simp] theorem Dev.fld_setByte (d : Dev) (a : Nat) (b : BitVec 8) (y : Field) : (d.setByte a b).fld y = d.fld y := rfl
@[simp] theorem Dev.isSet_setByte (d : Dev) (a : Nat) (b : BitVec 8) (y : Field) : (d.setByte a b).isSet y = d.isSet y := rfl
@[simp] theorem Dev.epoch_setByte (d : Dev) (a : Nat) (b : BitVec 8) (y : EpochUnit) : (d.setByte a b).epoch y = d.epoch y := rfl

@[simp] theorem Dev.bumpEpoch_dict (d : Dev) (u : EpochUnit) : (d.bumpEpoch u).dict = d.dict := rfl
@[simp] theorem Dev.bumpEpoch_blobs (d : Dev) (u : EpochUnit) : (d.bumpEpoch u).blobs = d.blobs := rfl
@[simp] theorem Dev.bumpEpoch_regs (d : Dev) (u : EpochUnit) : (d.bumpEpoch u).regs = d.regs := rfl
@[simp] theorem Dev.bumpEpoch_mem (d : Dev) (u : EpochUnit) : (d.bumpEpoch u).mem = d.mem := rfl
@[simp] theorem Dev.bumpEpoch_free (d : Dev) (u : EpochUnit) : (d.bumpEpoch u).free = d.free := rfl
@[simp] theorem Dev.bumpEpoch_out (d : Dev) (u : EpochUnit) : (d.bumpEpoch u).out = d.out := rfl
@[simp] theorem Dev.bumpEpoch_logs (d : Dev) (u : EpochUnit) : (d.bumpEpoch u).logs = d.logs := rfl
@[simp] theorem Dev.bumpEpoch_limits (d : Dev) (u : EpochUnit) : (d.bumpEpoch u).limits = d.limits := rfl
@[simp] theorem Dev.bumpEpoch_ctrLatch (d : Dev) (u : EpochUnit) : (d.bumpEpoch u).ctrLatch = d.ctrLatch := rfl
@[simp] theorem Dev.bumpEpoch_ctrStage (d : Dev) (u : EpochUnit) : (d.bumpEpoch u).ctrStage = d.ctrStage := rfl
@[simp] theorem Dev.bumpEpoch_drains (d : Dev) (u : EpochUnit) : (d.bumpEpoch u).drains = d.drains := rfl
@[simp] theorem Dev.bumpEpoch_supply (d : Dev) (u : EpochUnit) : (d.bumpEpoch u).supply = d.supply := rfl
@[simp] theorem Dev.bumpEpoch_time (d : Dev) (u : EpochUnit) : (d.bumpEpoch u).time = d.time := rfl
@[simp] theorem Dev.bumpEpoch_d0 (d : Dev) (u : EpochUnit) : (d.bumpEpoch u).d0 = d.d0 := rfl
@[simp] theorem Dev.bumpEpoch_sw (d : Dev) (u : EpochUnit) : (d.bumpEpoch u).sw = d.sw := rfl
@[simp] theorem Dev.bumpEpoch_can (d : Dev) (u : EpochUnit) : (d.bumpEpoch u).can = d.can := rfl
@[simp] theorem Dev.bumpEpoch_sleep (d : Dev) (u : EpochUnit) : (d.bumpEpoch u).sleep = d.sleep := rfl
@[simp] theorem Dev.bumpEpoch_power (d : Dev) (u : EpochUnit) : (d.bumpEpoch u).power = d.power := rfl
@[simp] theorem Dev.bumpEpoch_br (d : Dev) (u : EpochUnit) : (d.bumpEpoch u).br = d.br := rfl
@[simp] theorem Dev.bumpEpoch_load (d : Dev) (u : EpochUnit) : (d.bumpEpoch u).load = d.load := rfl
@[simp] theorem Dev.bumpEpoch_adc (d : Dev) (u : EpochUnit) : (d.bumpEpoch u).adc = d.adc := rfl
@[simp] theorem Dev.bumpEpoch_scan (d : Dev) (u : EpochUnit) : (d.bumpEpoch u).scan = d.scan := rfl
@[simp] theorem Dev.bumpEpoch_dma (d : Dev) (u : EpochUnit) : (d.bumpEpoch u).dma = d.dma := rfl
@[simp] theorem Dev.bumpEpoch_tenants (d : Dev) (u : EpochUnit) : (d.bumpEpoch u).tenants = d.tenants := rfl
@[simp] theorem Dev.bumpEpoch_mezz (d : Dev) (u : EpochUnit) : (d.bumpEpoch u).mezz = d.mezz := rfl
@[simp] theorem Dev.bumpEpoch_clk (d : Dev) (u : EpochUnit) : (d.bumpEpoch u).clk = d.clk := rfl
@[simp] theorem Dev.bumpEpoch_sto (d : Dev) (u : EpochUnit) : (d.bumpEpoch u).sto = d.sto := rfl
@[simp] theorem Dev.bumpEpoch_upd (d : Dev) (u : EpochUnit) : (d.bumpEpoch u).upd = d.upd := rfl
@[simp] theorem Dev.bumpEpoch_held (d : Dev) (u : EpochUnit) : (d.bumpEpoch u).held = d.held := rfl
@[simp] theorem Dev.bumpEpoch_harts (d : Dev) (u : EpochUnit) : (d.bumpEpoch u).harts = d.harts := rfl
@[simp] theorem Dev.bumpEpoch_twin (d : Dev) (u : EpochUnit) : (d.bumpEpoch u).twin = d.twin := rfl
@[simp] theorem Dev.bumpEpoch_board (d : Dev) (u : EpochUnit) : (d.bumpEpoch u).board = d.board := rfl
@[simp] theorem Dev.get_bumpEpoch (d : Dev) (u : EpochUnit) (y : Entry) : (d.bumpEpoch u).get y = d.get y := rfl
@[simp] theorem Dev.getInt_bumpEpoch (d : Dev) (u : EpochUnit) (y : Entry) : (d.bumpEpoch u).getInt y = d.getInt y := rfl
@[simp] theorem Dev.flag_bumpEpoch (d : Dev) (u : EpochUnit) (y : Entry) : (d.bumpEpoch u).flag y = d.flag y := rfl
@[simp] theorem Dev.oct_bumpEpoch (d : Dev) (u : EpochUnit) (y : Entry) : (d.bumpEpoch u).oct y = d.oct y := rfl
@[simp] theorem Dev.word_bumpEpoch (d : Dev) (u : EpochUnit) (y z : Nat) : (d.bumpEpoch u).word y z = d.word y z := rfl
@[simp] theorem Dev.fld_bumpEpoch (d : Dev) (u : EpochUnit) (y : Field) : (d.bumpEpoch u).fld y = d.fld y := rfl
@[simp] theorem Dev.isSet_bumpEpoch (d : Dev) (u : EpochUnit) (y : Field) : (d.bumpEpoch u).isSet y = d.isSet y := rfl
@[simp] theorem Dev.byte_bumpEpoch (d : Dev) (u : EpochUnit) (y : Nat) : (d.bumpEpoch u).byte y = d.byte y := rfl

@[simp] theorem Dev.setTime_dict (d : Dev) (f : TimeBase → TimeBase) : (d.setTime f).dict = d.dict := rfl
@[simp] theorem Dev.setTime_blobs (d : Dev) (f : TimeBase → TimeBase) : (d.setTime f).blobs = d.blobs := rfl
@[simp] theorem Dev.setTime_regs (d : Dev) (f : TimeBase → TimeBase) : (d.setTime f).regs = d.regs := rfl
@[simp] theorem Dev.setTime_mem (d : Dev) (f : TimeBase → TimeBase) : (d.setTime f).mem = d.mem := rfl
@[simp] theorem Dev.setTime_epochs (d : Dev) (f : TimeBase → TimeBase) : (d.setTime f).epochs = d.epochs := rfl
@[simp] theorem Dev.setTime_free (d : Dev) (f : TimeBase → TimeBase) : (d.setTime f).free = d.free := rfl
@[simp] theorem Dev.setTime_out (d : Dev) (f : TimeBase → TimeBase) : (d.setTime f).out = d.out := rfl
@[simp] theorem Dev.setTime_logs (d : Dev) (f : TimeBase → TimeBase) : (d.setTime f).logs = d.logs := rfl
@[simp] theorem Dev.setTime_limits (d : Dev) (f : TimeBase → TimeBase) : (d.setTime f).limits = d.limits := rfl
@[simp] theorem Dev.setTime_ctrLatch (d : Dev) (f : TimeBase → TimeBase) : (d.setTime f).ctrLatch = d.ctrLatch := rfl
@[simp] theorem Dev.setTime_ctrStage (d : Dev) (f : TimeBase → TimeBase) : (d.setTime f).ctrStage = d.ctrStage := rfl
@[simp] theorem Dev.setTime_drains (d : Dev) (f : TimeBase → TimeBase) : (d.setTime f).drains = d.drains := rfl
@[simp] theorem Dev.setTime_supply (d : Dev) (f : TimeBase → TimeBase) : (d.setTime f).supply = d.supply := rfl
@[simp] theorem Dev.setTime_d0 (d : Dev) (f : TimeBase → TimeBase) : (d.setTime f).d0 = d.d0 := rfl
@[simp] theorem Dev.setTime_sw (d : Dev) (f : TimeBase → TimeBase) : (d.setTime f).sw = d.sw := rfl
@[simp] theorem Dev.setTime_can (d : Dev) (f : TimeBase → TimeBase) : (d.setTime f).can = d.can := rfl
@[simp] theorem Dev.setTime_sleep (d : Dev) (f : TimeBase → TimeBase) : (d.setTime f).sleep = d.sleep := rfl
@[simp] theorem Dev.setTime_power (d : Dev) (f : TimeBase → TimeBase) : (d.setTime f).power = d.power := rfl
@[simp] theorem Dev.setTime_br (d : Dev) (f : TimeBase → TimeBase) : (d.setTime f).br = d.br := rfl
@[simp] theorem Dev.setTime_load (d : Dev) (f : TimeBase → TimeBase) : (d.setTime f).load = d.load := rfl
@[simp] theorem Dev.setTime_adc (d : Dev) (f : TimeBase → TimeBase) : (d.setTime f).adc = d.adc := rfl
@[simp] theorem Dev.setTime_scan (d : Dev) (f : TimeBase → TimeBase) : (d.setTime f).scan = d.scan := rfl
@[simp] theorem Dev.setTime_dma (d : Dev) (f : TimeBase → TimeBase) : (d.setTime f).dma = d.dma := rfl
@[simp] theorem Dev.setTime_tenants (d : Dev) (f : TimeBase → TimeBase) : (d.setTime f).tenants = d.tenants := rfl
@[simp] theorem Dev.setTime_mezz (d : Dev) (f : TimeBase → TimeBase) : (d.setTime f).mezz = d.mezz := rfl
@[simp] theorem Dev.setTime_clk (d : Dev) (f : TimeBase → TimeBase) : (d.setTime f).clk = d.clk := rfl
@[simp] theorem Dev.setTime_sto (d : Dev) (f : TimeBase → TimeBase) : (d.setTime f).sto = d.sto := rfl
@[simp] theorem Dev.setTime_upd (d : Dev) (f : TimeBase → TimeBase) : (d.setTime f).upd = d.upd := rfl
@[simp] theorem Dev.setTime_held (d : Dev) (f : TimeBase → TimeBase) : (d.setTime f).held = d.held := rfl
@[simp] theorem Dev.setTime_harts (d : Dev) (f : TimeBase → TimeBase) : (d.setTime f).harts = d.harts := rfl
@[simp] theorem Dev.setTime_twin (d : Dev) (f : TimeBase → TimeBase) : (d.setTime f).twin = d.twin := rfl
@[simp] theorem Dev.setTime_board (d : Dev) (f : TimeBase → TimeBase) : (d.setTime f).board = d.board := rfl
@[simp] theorem Dev.get_setTime (d : Dev) (f : TimeBase → TimeBase) (y : Entry) : (d.setTime f).get y = d.get y := rfl
@[simp] theorem Dev.getInt_setTime (d : Dev) (f : TimeBase → TimeBase) (y : Entry) : (d.setTime f).getInt y = d.getInt y := rfl
@[simp] theorem Dev.flag_setTime (d : Dev) (f : TimeBase → TimeBase) (y : Entry) : (d.setTime f).flag y = d.flag y := rfl
@[simp] theorem Dev.oct_setTime (d : Dev) (f : TimeBase → TimeBase) (y : Entry) : (d.setTime f).oct y = d.oct y := rfl
@[simp] theorem Dev.word_setTime (d : Dev) (f : TimeBase → TimeBase) (y z : Nat) : (d.setTime f).word y z = d.word y z := rfl
@[simp] theorem Dev.fld_setTime (d : Dev) (f : TimeBase → TimeBase) (y : Field) : (d.setTime f).fld y = d.fld y := rfl
@[simp] theorem Dev.isSet_setTime (d : Dev) (f : TimeBase → TimeBase) (y : Field) : (d.setTime f).isSet y = d.isSet y := rfl
@[simp] theorem Dev.byte_setTime (d : Dev) (f : TimeBase → TimeBase) (y : Nat) : (d.setTime f).byte y = d.byte y := rfl
@[simp] theorem Dev.epoch_setTime (d : Dev) (f : TimeBase → TimeBase) (y : EpochUnit) : (d.setTime f).epoch y = d.epoch y := rfl

@[simp] theorem Dev.submit_dict (d : Dev) (q : QReq) : (d.submit q).dict = d.dict := rfl
@[simp] theorem Dev.submit_blobs (d : Dev) (q : QReq) : (d.submit q).blobs = d.blobs := rfl
@[simp] theorem Dev.submit_regs (d : Dev) (q : QReq) : (d.submit q).regs = d.regs := rfl
@[simp] theorem Dev.submit_mem (d : Dev) (q : QReq) : (d.submit q).mem = d.mem := rfl
@[simp] theorem Dev.submit_epochs (d : Dev) (q : QReq) : (d.submit q).epochs = d.epochs := rfl
@[simp] theorem Dev.submit_free (d : Dev) (q : QReq) : (d.submit q).free = d.free := rfl
@[simp] theorem Dev.submit_out (d : Dev) (q : QReq) : (d.submit q).out = d.out := rfl
@[simp] theorem Dev.submit_logs (d : Dev) (q : QReq) : (d.submit q).logs = d.logs := rfl
@[simp] theorem Dev.submit_limits (d : Dev) (q : QReq) : (d.submit q).limits = d.limits := rfl
@[simp] theorem Dev.submit_ctrLatch (d : Dev) (q : QReq) : (d.submit q).ctrLatch = d.ctrLatch := rfl
@[simp] theorem Dev.submit_ctrStage (d : Dev) (q : QReq) : (d.submit q).ctrStage = d.ctrStage := rfl
@[simp] theorem Dev.submit_drains (d : Dev) (q : QReq) : (d.submit q).drains = d.drains := rfl
@[simp] theorem Dev.submit_supply (d : Dev) (q : QReq) : (d.submit q).supply = d.supply := rfl
@[simp] theorem Dev.submit_time (d : Dev) (q : QReq) : (d.submit q).time = d.time := rfl
@[simp] theorem Dev.submit_sw (d : Dev) (q : QReq) : (d.submit q).sw = d.sw := rfl
@[simp] theorem Dev.submit_can (d : Dev) (q : QReq) : (d.submit q).can = d.can := rfl
@[simp] theorem Dev.submit_sleep (d : Dev) (q : QReq) : (d.submit q).sleep = d.sleep := rfl
@[simp] theorem Dev.submit_power (d : Dev) (q : QReq) : (d.submit q).power = d.power := rfl
@[simp] theorem Dev.submit_br (d : Dev) (q : QReq) : (d.submit q).br = d.br := rfl
@[simp] theorem Dev.submit_load (d : Dev) (q : QReq) : (d.submit q).load = d.load := rfl
@[simp] theorem Dev.submit_adc (d : Dev) (q : QReq) : (d.submit q).adc = d.adc := rfl
@[simp] theorem Dev.submit_scan (d : Dev) (q : QReq) : (d.submit q).scan = d.scan := rfl
@[simp] theorem Dev.submit_dma (d : Dev) (q : QReq) : (d.submit q).dma = d.dma := rfl
@[simp] theorem Dev.submit_tenants (d : Dev) (q : QReq) : (d.submit q).tenants = d.tenants := rfl
@[simp] theorem Dev.submit_mezz (d : Dev) (q : QReq) : (d.submit q).mezz = d.mezz := rfl
@[simp] theorem Dev.submit_clk (d : Dev) (q : QReq) : (d.submit q).clk = d.clk := rfl
@[simp] theorem Dev.submit_sto (d : Dev) (q : QReq) : (d.submit q).sto = d.sto := rfl
@[simp] theorem Dev.submit_upd (d : Dev) (q : QReq) : (d.submit q).upd = d.upd := rfl
@[simp] theorem Dev.submit_held (d : Dev) (q : QReq) : (d.submit q).held = d.held := rfl
@[simp] theorem Dev.submit_harts (d : Dev) (q : QReq) : (d.submit q).harts = d.harts := rfl
@[simp] theorem Dev.submit_twin (d : Dev) (q : QReq) : (d.submit q).twin = d.twin := rfl
@[simp] theorem Dev.submit_board (d : Dev) (q : QReq) : (d.submit q).board = d.board := rfl
@[simp] theorem Dev.get_submit (d : Dev) (q : QReq) (y : Entry) : (d.submit q).get y = d.get y := rfl
@[simp] theorem Dev.getInt_submit (d : Dev) (q : QReq) (y : Entry) : (d.submit q).getInt y = d.getInt y := rfl
@[simp] theorem Dev.flag_submit (d : Dev) (q : QReq) (y : Entry) : (d.submit q).flag y = d.flag y := rfl
@[simp] theorem Dev.oct_submit (d : Dev) (q : QReq) (y : Entry) : (d.submit q).oct y = d.oct y := rfl
@[simp] theorem Dev.word_submit (d : Dev) (q : QReq) (y z : Nat) : (d.submit q).word y z = d.word y z := rfl
@[simp] theorem Dev.fld_submit (d : Dev) (q : QReq) (y : Field) : (d.submit q).fld y = d.fld y := rfl
@[simp] theorem Dev.isSet_submit (d : Dev) (q : QReq) (y : Field) : (d.submit q).isSet y = d.isSet y := rfl
@[simp] theorem Dev.byte_submit (d : Dev) (q : QReq) (y : Nat) : (d.submit q).byte y = d.byte y := rfl
@[simp] theorem Dev.epoch_submit (d : Dev) (q : QReq) (y : EpochUnit) : (d.submit q).epoch y = d.epoch y := rfl

end Sys2Proof.Machine
end

