-- ==== Sys2Proof/Laws/Ops.lean ====
section
/-! SUPPORT. What each shared operation does, once: entries, register fields, memory, outputs, events, counters. -/

namespace Sys2Proof.Machine

/-! ### Entries -/

@[simp] theorem Dev.get_put_same (d : Dev) (e : Entry) (v : Nat) : (d.put e v).get e = v % 2 ^ e.bits := by
  simp [Dev.get, Dev.put]

theorem Dev.get_put_other (d : Dev) {e x : Entry} (v : Nat) (h : x.key ≠ e.key) : (d.put e v).get x = d.get x := by
  simp [Dev.get, Dev.put, KV.get_put_other h]

@[simp] theorem Dev.oct_putOct_same (d : Dev) (e : Entry) (b : Bytes) : (d.putOct e b).oct e = b := by
  simp [Dev.oct, Dev.putOct]

theorem Dev.oct_putOct_other (d : Dev) {e x : Entry} (b : Bytes) (h : x.key ≠ e.key) : (d.putOct e b).oct x = d.oct x := by
  simp [Dev.oct, Dev.putOct, KV.find_insert_other h]

/-! ### Bit fields and registers -/

theorem bits_setBits_same {x hi lo v : Nat} (h : lo ≤ hi) : bits (setBits x hi lo v) hi lo = v % 2 ^ (hi + 1 - lo) := by
  obtain ⟨w, rfl⟩ : ∃ w, hi = lo + w := ⟨hi - lo, by omega⟩
  have e : lo + w + 1 - lo = w + 1 := by omega
  have p : 2 ^ (lo + w + 1) = 2 ^ lo * 2 ^ (w + 1) := by rw [← Nat.pow_add]; ring_nf
  have hl : 0 < 2 ^ lo := Nat.two_pow_pos lo
  simp only [bits, setBits, e, p]
  have s : x / (2 ^ lo * 2 ^ (w + 1)) * (2 ^ lo * 2 ^ (w + 1)) + v % 2 ^ (w + 1) * 2 ^ lo + x % 2 ^ lo =
      x % 2 ^ lo + 2 ^ lo * (v % 2 ^ (w + 1) + 2 ^ (w + 1) * (x / (2 ^ lo * 2 ^ (w + 1)))) := by ring
  rw [s, Nat.add_mul_div_left _ _ hl, Nat.div_eq_of_lt (Nat.mod_lt x hl), Nat.zero_add, Nat.add_mul_mod_self_left, Nat.mod_mod]

/-- Bits above a field stay as they are. -/
theorem bits_setBits_above {x hi lo v h l : Nat} (hl : lo ≤ hi) (g : hi < l) : bits (setBits x hi lo v) h l = bits x h l := by
  have lt : v % 2 ^ (hi + 1 - lo) * 2 ^ lo + x % 2 ^ lo < 2 ^ (hi + 1) := by
    have e : 2 ^ (hi + 1) = 2 ^ (hi + 1 - lo) * 2 ^ lo := by rw [← Nat.pow_add]; congr 1; omega
    have a := Nat.mod_lt v (Nat.two_pow_pos (hi + 1 - lo))
    have b := Nat.mod_lt x (Nat.two_pow_pos lo)
    rw [e]
    have c : (v % 2 ^ (hi + 1 - lo) + 1) * 2 ^ lo ≤ 2 ^ (hi + 1 - lo) * 2 ^ lo := Nat.mul_le_mul_right _ a
    rw [Nat.add_mul, Nat.one_mul] at c
    omega
  have q : setBits x hi lo v / 2 ^ l = x / 2 ^ l := by
    obtain ⟨w, rfl⟩ : ∃ w, l = hi + 1 + w := ⟨l - (hi + 1), by omega⟩
    rw [Nat.pow_add, ← Nat.div_div_eq_div_mul, ← Nat.div_div_eq_div_mul, setBits, Nat.add_assoc, Nat.add_comm,
      Nat.add_mul_div_right _ _ (Nat.two_pow_pos _), Nat.div_eq_of_lt lt, Nat.zero_add]
  rw [bits, q, bits]

/-- Bits below a field stay as they are. -/
theorem bits_setBits_below {x hi lo v h l : Nat} (hl : lo ≤ hi) (g : h < lo) : bits (setBits x hi lo v) h l = bits x h l := by
  by_cases c : l ≤ h
  · have m : setBits x hi lo v % 2 ^ lo = x % 2 ^ lo := by
      have e : 2 ^ (hi + 1) = 2 ^ lo * 2 ^ (hi + 1 - lo) := by rw [← Nat.pow_add]; congr 1; omega
      rw [setBits, e, show x / (2 ^ lo * 2 ^ (hi + 1 - lo)) * (2 ^ lo * 2 ^ (hi + 1 - lo)) + v % 2 ^ (hi + 1 - lo) * 2 ^ lo + x % 2 ^ lo =
        x % 2 ^ lo + 2 ^ lo * (x / (2 ^ lo * 2 ^ (hi + 1 - lo)) * 2 ^ (hi + 1 - lo) + v % 2 ^ (hi + 1 - lo)) by ring,
        Nat.add_mul_mod_self_left, Nat.mod_mod]
    obtain ⟨w, rfl⟩ : ∃ w, h = l + w := ⟨h - l, by omega⟩
    obtain ⟨k, rfl⟩ : ∃ k, lo = l + (w + 1) + k := ⟨lo - (l + (w + 1)), by omega⟩
    have r : ∀ y, bits y (l + w) l = bits (y % 2 ^ (l + (w + 1) + k)) (l + w) l := by
      intro y
      have e : l + w + 1 - l = w + 1 := by omega
      simp only [bits, e]
      rw [show 2 ^ (l + (w + 1) + k) = 2 ^ l * (2 ^ (w + 1) * 2 ^ k) by rw [Nat.pow_add, Nat.pow_add, Nat.mul_assoc],
        Nat.mod_mul_right_div_self, Nat.mod_mul_right_mod]
    rw [r, m, ← r]
  · have z : h + 1 - l = 0 := by omega
    simp [bits, z, Nat.mod_one]

theorem bits_mod {x hi lo n : Nat} (h : hi < n) (hl : lo ≤ hi) : bits (x % 2 ^ n) hi lo = bits x hi lo := by
  obtain ⟨w, rfl⟩ : ∃ w, hi = lo + w := ⟨hi - lo, by omega⟩
  obtain ⟨k, rfl⟩ : ∃ k, n = lo + (w + 1) + k := ⟨n - (lo + (w + 1)), by omega⟩
  have e : lo + w + 1 - lo = w + 1 := by omega
  simp only [bits, e]
  rw [Nat.pow_add, Nat.pow_add, Nat.mul_assoc, Nat.mod_mul_right_div_self, Nat.mod_mul_right_mod]

theorem Dev.word_putWord_same (d : Dev) (a r v : Nat) : (d.putWord a r v).word a r = v % 2 ^ 32 := by
  simp [Dev.word, Dev.putWord]

theorem Dev.word_putWord_other (d : Dev) {a b : Nat} (r q v : Nat) (h : b ≠ a) : (d.putWord a r v).word b q = d.word b q := by
  simp [Dev.word, Dev.putWord, KV.get_put_other h]

/-- A field reads as it was set. -/
theorem Dev.fld_setFld_same (d : Dev) {f : Field} (v : Nat) (h : f.hi < 32) (hl : f.lo ≤ f.hi) :
    (d.setFld f v).fld f = v % 2 ^ (f.hi + 1 - f.lo) := by
  simp only [Dev.fld, Dev.setFld, Dev.word_putWord_same, bits_mod h hl, bits_setBits_same hl]

/-- Another field of the same word stays as it is. -/
theorem Dev.fld_setFld_beside (d : Dev) {f g : Field} (v : Nat) (a : g.addr = f.addr) (r : g.wordReset = f.wordReset) (hl : f.lo ≤ f.hi)
    (gl : g.lo ≤ g.hi) (gh : g.hi < 32) (h : f.hi < g.lo ∨ g.hi < f.lo) : (d.setFld f v).fld g = d.fld g := by
  simp only [Dev.fld, Dev.setFld, a, r, Dev.word_putWord_same]
  rw [bits_mod gh gl]
  rcases h with h | h
  · exact bits_setBits_above hl h
  · exact bits_setBits_below hl h

theorem Dev.fld_setFld_other (d : Dev) {f g : Field} (v : Nat) (h : g.addr ≠ f.addr) : (d.setFld f v).fld g = d.fld g := by
  simp only [Dev.fld, Dev.setFld, Dev.word_putWord_other d _ _ _ h]

/-! ### Memory -/

@[simp] theorem Dev.byte_setByte_same (d : Dev) (a : Nat) (b : BitVec 8) : (d.setByte a b).byte a = b := by
  simp [Dev.byte, Dev.setByte]

theorem Dev.byte_setByte_other (d : Dev) {a x : Nat} (b : BitVec 8) (h : x ≠ a) : (d.setByte a b).byte x = d.byte x := by
  simp [Dev.byte, Dev.setByte, KV.get_put_other h]

/-- A byte outside the stored ones reads as before. -/
theorem Dev.byte_putBytes_other (b : Bytes) (d : Dev) (a x : Nat) (h : x < a ∨ a + b.length ≤ x) : (d.putBytes a b).byte x = d.byte x := by
  induction b generalizing d a with
  | nil => rfl
  | cons c r ih =>
    simp only [List.length_cons] at h
    rw [Dev.putBytes, ih _ _ (by omega), Dev.byte_setByte_other _ _ (by omega)]

/-- A stored byte reads as it was stored. -/
theorem Dev.byte_putBytes_same (b : Bytes) (d : Dev) (a i : Nat) (h : i < b.length) : (d.putBytes a b).byte (a + i) = b[i] := by
  induction b generalizing d a i with
  | nil => simp at h
  | cons c r ih =>
    rw [Dev.putBytes]
    cases i with
    | zero => rw [Dev.byte_putBytes_other _ _ _ _ (by omega)]; simp
    | succ i =>
      have := ih (d.setByte a c) (a + 1) i (by simpa using h)
      rw [show a + (i + 1) = a + 1 + i by omega, this]
      rfl

theorem Dev.cure_mem (d : Dev) (a n : Nat) : (d.cure a n).mem = d.mem := by
  unfold Dev.cure; split <;> rfl

theorem Dev.touch_mem (d : Dev) (a n : Nat) : (d.touch a n).mem = d.mem := by
  unfold Dev.touch; split <;> rfl

theorem Dev.writeMem_mem (d : Dev) (a : Nat) (b : Bytes) : (d.writeMem a b).mem = (d.putBytes a b).mem := by
  rw [Dev.writeMem, Dev.touch_mem, Dev.cure_mem]

theorem Dev.byte_writeMem_other (d : Dev) (a : Nat) (b : Bytes) (x : Nat) (h : x < a ∨ a + b.length ≤ x) : (d.writeMem a b).byte x = d.byte x := by
  simp only [Dev.byte, Dev.writeMem_mem]
  exact Dev.byte_putBytes_other b d a x h

theorem Dev.byte_writeMem_same (d : Dev) (a : Nat) (b : Bytes) (i : Nat) (h : i < b.length) : (d.writeMem a b).byte (a + i) = b[i] := by
  simp only [Dev.byte, Dev.writeMem_mem]
  exact Dev.byte_putBytes_same b d a i h

/-- Every store keeps the canonical form of memory. -/
theorem Dev.setByte_wf {d : Dev} (a : Nat) (b : BitVec 8) (h : Memory.wf d.mem) : Memory.wf (d.setByte a b).mem := KV.put_wf h

theorem Dev.putBytes_wf (b : Bytes) {d : Dev} (a : Nat) (h : Memory.wf d.mem) : Memory.wf (d.putBytes a b).mem := by
  induction b generalizing d a with
  | nil => exact h
  | cons c r ih => exact ih (a + 1) (Dev.setByte_wf a c h)

theorem Dev.writeMem_wf {d : Dev} (a : Nat) (b : Bytes) (h : Memory.wf d.mem) : Memory.wf (d.writeMem a b).mem := by
  rw [Dev.writeMem_mem]; exact Dev.putBytes_wf b a h

/-- Dropping memory, as gates and resets do, keeps the canonical form. -/
theorem Memory.keep_wf {m : List Host.Cell} (p : Nat → BitVec 8 → Bool) (h : Memory.wf m) : Memory.wf (KV.keep p m) := KV.keep_wf h

/-! ### Byte strings -/

@[simp] theorem le_length (n x : Nat) : (le n x).length = n := by
  induction n generalizing x with
  | zero => rfl
  | succ n ih => simp [le, ih]

/-- Little-endian bytes spell their number. -/
theorem ofLe_le (n x : Nat) : ofLe (le n x) = x % 256 ^ n := by
  induction n generalizing x with
  | zero => simp [le, ofLe, Nat.mod_one]
  | succ n ih =>
    simp only [le, ofLe, ih, BitVec.toNat_ofNat]
    rw [show (2 : Nat) ^ 8 = 256 by norm_num, Nat.pow_succ, Nat.mul_comm (256 ^ n) 256, Nat.mod_mul]

/-! ### Outcomes of the wrappers -/

/-- A command that runs in every phase answers a next state, and the queue is left alone. -/
theorem onVest_eq (s : State) (f : Dev → Dev) : onVest s f = .next { s with dev := f s.dev.fresh } := rfl

theorem onDev_running {s : State} (f : Dev → Dev) (h : s.dev.power.phase = .running) : onDev s f = .next { s with dev := f s.dev.fresh } := by
  simp [onDev, onVest, Dev.awake, h]

theorem onDev_not_running {s : State} (f : Dev → Dev) (h : s.dev.power.phase ≠ .running) : onDev s f = .next { s with dev := s.dev.fresh } := by
  simp [onDev, onVest, Dev.awake, h]

theorem onVaux_off {s : State} (f : Dev → Dev) (h : s.dev.power.phase = .off) : onVaux s f = .next { s with dev := s.dev.fresh } := by
  simp [onVaux, onVest, h]

theorem onVaux_on {s : State} (f : Dev → Dev) (h : s.dev.power.phase ≠ .off) : onVaux s f = .next { s with dev := f s.dev.fresh } := by
  simp [onVaux, onVest, h]

/-! ### Events and counters -/

/-- Two devices differ in their entries and logs only. -/
def Dev.logged (d x : Dev) : Prop := ∃ k l, x = { d with dict := k, logs := l }

theorem Dev.logged_refl (d : Dev) : d.logged d := ⟨d.dict, d.logs, rfl⟩
theorem Dev.logged_put {d x : Dev} (e : Entry) (v : Nat) : d.logged x → d.logged (x.put e v)
  | ⟨_, l, h⟩ => ⟨_, l, by rw [h]; rfl⟩
theorem Dev.logged_logs {d x : Dev} (g : Logs) : d.logged x → d.logged { x with logs := g }
  | ⟨k, _, h⟩ => ⟨k, g, by rw [h]⟩
theorem Dev.logged_meta {d x : Dev} (m : SinkMeta) : d.logged x → d.logged (x.setSinkMeta .device m)
  | h => Dev.logged_logs _ h
theorem Dev.logged_trans {d x y : Dev} : d.logged x → x.logged y → d.logged y
  | ⟨_, _, h⟩, ⟨k, l, g⟩ => ⟨k, l, by rw [g, h]⟩

theorem Dev.loseRecs_logged (d : Dev) (n : Nat) : d.logged (d.loseRecs .device n) :=
  Dev.logged_put _ _ (Dev.logged_meta _ (Dev.logged_refl d))

theorem Dev.writeGroup_logged (d : Dev) (e : Ev) : d.logged (d.writeGroup .device e).2 := by
  unfold Dev.writeGroup
  extract_lets n seq consumed g
  split
  · exact Dev.logged_meta _ (Dev.logged_put _ _ (Dev.logged_logs _ (Dev.logged_logs _ (Dev.logged_refl d))))
  · exact Dev.logged_trans (Dev.logged_logs _ (Dev.logged_refl d)) (Dev.loseRecs_logged _ n)

/-- A record for the device log changes the logs and the log's own entries only. -/
theorem Dev.logDevice_logged (d : Dev) (e : Ev) : d.logged (d.logDevice e) := by
  unfold Dev.logDevice
  split
  · extract_lets d'
    split
    · exact Dev.logged_trans (Dev.writeGroup_logged d e) (Dev.writeGroup_logged _ _)
    · exact Dev.writeGroup_logged d e
  · exact Dev.logged_logs _ (Dev.logged_refl d)

theorem Dev.event_logged (d : Dev) (src code data : Nat) (ext : Option Bytes) : d.logged (d.event src code data ext) := Dev.logDevice_logged d _

/-- A counter's increment changes its entry, its saturation bit, and the logs where COUNTER_SAT is written. -/
theorem Dev.count_logged (d : Dev) (c : Counter) (n : Nat) : d.logged (d.count c n) := by
  unfold Dev.count
  extract_lets v d1
  split
  · exact Dev.logged_trans (Dev.logged_put _ _ (Dev.logged_put _ _ (Dev.logged_refl d))) (Dev.event_logged _ _ _ _ _)
  · exact Dev.logged_put _ _ (Dev.logged_refl d)

/-- What a limited event leaves alone, given what its event leaves alone. -/
theorem Dev.limited_shape (d : Dev) (scope n : Nat) (f : Dev → Nat → Dev) (hf : ∀ d c, Dev.logged d (f d c)) :
    ∃ m, Dev.logged { d with limits := m } (d.limited scope n f) := by
  unfold Dev.limited
  split
  · exact ⟨_, hf _ _⟩
  · exact ⟨_, Dev.logged_refl _⟩

end Sys2Proof.Machine
end

