-- ==== Sys2Proof/Laws/Events.lean ====
section
/-! SUPPORT. What events, counters and interrupt lines leave alone: every part of the device but entries, logs and register words, every
entry but the log's own, every register word but the line's. -/

namespace Sys2Proof.Machine

/-- The entries that the writing of a device event may change. -/
def logKeys : List Nat := [Ent.Evlog.LAST_SEQ.key, Ent.Evlog.LOG_LOST.key]

/-- Two devices differ in their logs and in the log's own entries. -/
def Dev.loggedAt (d x : Dev) : Prop := d.logged x ∧ ∀ v k, k ∉ logKeys → KV.get v k x.dict = KV.get v k d.dict

theorem Dev.loggedAt_refl (d : Dev) : d.loggedAt d := ⟨d.logged_refl, fun _ _ _ => rfl⟩
theorem Dev.loggedAt_trans {d x y : Dev} (h : d.loggedAt x) (g : x.loggedAt y) : d.loggedAt y :=
  ⟨Dev.logged_trans h.1 g.1, fun v k n => (g.2 v k n).trans (h.2 v k n)⟩
theorem Dev.loggedAt_logs {d x : Dev} (g : Logs) (h : d.loggedAt x) : d.loggedAt { x with logs := g } := ⟨Dev.logged_logs g h.1, h.2⟩
theorem Dev.loggedAt_put {d x : Dev} (e : Entry) (v : Nat) (m : e.key ∈ logKeys) (h : d.loggedAt x) : d.loggedAt (x.put e v) :=
  ⟨Dev.logged_put e v h.1, fun w k n => (KV.get_put_other (fun c => n (by rw [c]; exact m)) ..).trans (h.2 w k n)⟩
theorem Dev.loggedAt_last {d x : Dev} (v : Nat) (h : d.loggedAt x) : d.loggedAt (x.put Ent.Evlog.LAST_SEQ v) :=
  Dev.loggedAt_put _ v (List.mem_cons_self ..) h
theorem Dev.loggedAt_meta {d x : Dev} (k : SinkId) (m : SinkMeta) (h : d.loggedAt x) : d.loggedAt (x.setSinkMeta k m) := by
  cases k <;> exact Dev.loggedAt_logs _ h

theorem Dev.loseRecs_loggedAt {d x : Dev} (k : SinkId) (n : Nat) (hk : k = .device ∨ k = .secure) (h : d.loggedAt x) :
    d.loggedAt (x.loseRecs k n) := by
  rcases hk with rfl | rfl
  · exact Dev.loggedAt_put Ent.Evlog.LOG_LOST _ (List.mem_cons_of_mem _ (List.mem_cons_self ..)) (Dev.loggedAt_meta .device _ h)
  · exact Dev.loggedAt_meta .secure _ h

theorem Dev.writeGroup_loggedAt (d : Dev) (k : SinkId) (e : Ev) (hk : k = .device ∨ k = .secure) : d.loggedAt (d.writeGroup k e).2 := by
  unfold Dev.writeGroup
  extract_lets n seq consumed g
  split
  · rcases hk with rfl | rfl
    all_goals
      dsimp only [Dev.sinkPut]
      refine Dev.loggedAt_meta _ _ ?_
      refine Dev.loggedAt_last _ ?_
      refine Dev.loggedAt_logs _ ?_
      exact Dev.loggedAt_logs _ (Dev.loggedAt_refl d)
  · exact Dev.loseRecs_loggedAt _ n hk (Dev.loggedAt_logs _ (Dev.loggedAt_refl d))

theorem Dev.loggedAt_group {d x : Dev} (k : SinkId) (e : Ev) (hk : k = .device ∨ k = .secure) (h : d.loggedAt x) : d.loggedAt (x.writeGroup k e).2 :=
  Dev.loggedAt_trans h (Dev.writeGroup_loggedAt x k e hk)

/-- An event for the device log changes the logs and the log's own entries only. -/
theorem Dev.event_loggedAt (d : Dev) (src code data : Nat) (ext : Option Bytes) : d.loggedAt (d.event src code data ext) := by
  unfold Dev.event Dev.logDevice
  split
  · extract_lets d'
    have h := Dev.writeGroup_loggedAt d .device (d.ev src code data ext) (.inl rfl)
    split
    · exact Dev.loggedAt_group _ _ (.inl rfl) h
    · exact h
  · exact Dev.loggedAt_logs _ (Dev.loggedAt_refl d)

/-- An event for the secure log changes, beside them, the pending bit of M0's source 8. -/
theorem Dev.eventSecure_eq (d : Dev) (src code data : Nat) :
    ∃ x : Dev, d.loggedAt x ∧ (d.eventSecure src code data = x ∨ d.eventSecure src code data = x.raiseM0 8) := by
  unfold Dev.eventSecure Dev.logSecure
  split
  · exact ⟨_, Dev.loggedAt_logs _ (Dev.loggedAt_refl d), .inl rfl⟩
  · refine ⟨_, Dev.writeGroup_loggedAt d .secure (d.ev src code data) (.inr rfl), ?_⟩
    extract_lets d'
    split
    · exact .inr rfl
    · exact .inl rfl

/-- A counter's increment leaves every entry alone but its own, its saturation field and the log's. -/
theorem Dev.count_get (d : Dev) (c : Counter) (n v k : Nat) (h : k ≠ c.entry.key) (g : k ≠ c.satEntry.key) (l : k ∉ logKeys) :
    KV.get v k (d.count c n).dict = KV.get v k d.dict := by
  unfold Dev.count
  extract_lets w d1
  split
  · rw [(Dev.event_loggedAt _ _ _ _ _).2 v k l]
    exact (KV.get_put_other g ..).trans (KV.get_put_other h ..)
  · exact KV.get_put_other h ..

/-- A counter's increment counts, and stops at all ones (R47). -/
theorem Dev.count_same (d : Dev) (c : Counter) (n : Nat) (b : c.entry.bits = 64) (g : c.entry.key ≠ c.satEntry.key) (l : c.entry.key ∉ logKeys) :
    KV.get c.entry.dflt c.entry.key (d.count c n).dict = min (d.get c.entry + n) (2 ^ 64 - 1) := by
  have e : min (d.get c.entry + n) (2 ^ 64 - 1) % 2 ^ c.entry.bits = min (d.get c.entry + n) (2 ^ 64 - 1) := by
    rw [b]; exact Nat.mod_eq_of_lt (Nat.lt_of_le_of_lt (Nat.min_le_right ..) (by norm_num))
  unfold Dev.count
  extract_lets w d1
  split
  · rw [(Dev.event_loggedAt _ _ _ _ _).2 _ _ l]
    refine (KV.get_put_other g ..).trans ((KV.get_put_same ..).trans e)
  · exact (KV.get_put_same ..).trans e


@[simp] theorem Dev.event_blobs (d : Dev) (s c t : Nat) (x : Option Bytes) : (d.event s c t x).blobs = d.blobs := by obtain ⟨k, l, h⟩ := d.event_logged s c t x; rw [h]
@[simp] theorem Dev.event_regs (d : Dev) (s c t : Nat) (x : Option Bytes) : (d.event s c t x).regs = d.regs := by obtain ⟨k, l, h⟩ := d.event_logged s c t x; rw [h]
@[simp] theorem Dev.event_mem (d : Dev) (s c t : Nat) (x : Option Bytes) : (d.event s c t x).mem = d.mem := by obtain ⟨k, l, h⟩ := d.event_logged s c t x; rw [h]
@[simp] theorem Dev.event_epochs (d : Dev) (s c t : Nat) (x : Option Bytes) : (d.event s c t x).epochs = d.epochs := by obtain ⟨k, l, h⟩ := d.event_logged s c t x; rw [h]
@[simp] theorem Dev.event_free (d : Dev) (s c t : Nat) (x : Option Bytes) : (d.event s c t x).free = d.free := by obtain ⟨k, l, h⟩ := d.event_logged s c t x; rw [h]
@[simp] theorem Dev.event_out (d : Dev) (s c t : Nat) (x : Option Bytes) : (d.event s c t x).out = d.out := by obtain ⟨k, l, h⟩ := d.event_logged s c t x; rw [h]
@[simp] theorem Dev.event_limits (d : Dev) (s c t : Nat) (x : Option Bytes) : (d.event s c t x).limits = d.limits := by obtain ⟨k, l, h⟩ := d.event_logged s c t x; rw [h]
@[simp] theorem Dev.event_ctrLatch (d : Dev) (s c t : Nat) (x : Option Bytes) : (d.event s c t x).ctrLatch = d.ctrLatch := by obtain ⟨k, l, h⟩ := d.event_logged s c t x; rw [h]
@[simp] theorem Dev.event_ctrStage (d : Dev) (s c t : Nat) (x : Option Bytes) : (d.event s c t x).ctrStage = d.ctrStage := by obtain ⟨k, l, h⟩ := d.event_logged s c t x; rw [h]
@[simp] theorem Dev.event_drains (d : Dev) (s c t : Nat) (x : Option Bytes) : (d.event s c t x).drains = d.drains := by obtain ⟨k, l, h⟩ := d.event_logged s c t x; rw [h]
@[simp] theorem Dev.event_supply (d : Dev) (s c t : Nat) (x : Option Bytes) : (d.event s c t x).supply = d.supply := by obtain ⟨k, l, h⟩ := d.event_logged s c t x; rw [h]
@[simp] theorem Dev.event_time (d : Dev) (s c t : Nat) (x : Option Bytes) : (d.event s c t x).time = d.time := by obtain ⟨k, l, h⟩ := d.event_logged s c t x; rw [h]
@[simp] theorem Dev.event_d0 (d : Dev) (s c t : Nat) (x : Option Bytes) : (d.event s c t x).d0 = d.d0 := by obtain ⟨k, l, h⟩ := d.event_logged s c t x; rw [h]
@[simp] theorem Dev.event_sw (d : Dev) (s c t : Nat) (x : Option Bytes) : (d.event s c t x).sw = d.sw := by obtain ⟨k, l, h⟩ := d.event_logged s c t x; rw [h]
@[simp] theorem Dev.event_can (d : Dev) (s c t : Nat) (x : Option Bytes) : (d.event s c t x).can = d.can := by obtain ⟨k, l, h⟩ := d.event_logged s c t x; rw [h]
@[simp] theorem Dev.event_sleep (d : Dev) (s c t : Nat) (x : Option Bytes) : (d.event s c t x).sleep = d.sleep := by obtain ⟨k, l, h⟩ := d.event_logged s c t x; rw [h]
@[simp] theorem Dev.event_power (d : Dev) (s c t : Nat) (x : Option Bytes) : (d.event s c t x).power = d.power := by obtain ⟨k, l, h⟩ := d.event_logged s c t x; rw [h]
@[simp] theorem Dev.event_br (d : Dev) (s c t : Nat) (x : Option Bytes) : (d.event s c t x).br = d.br := by obtain ⟨k, l, h⟩ := d.event_logged s c t x; rw [h]
@[simp] theorem Dev.event_load (d : Dev) (s c t : Nat) (x : Option Bytes) : (d.event s c t x).load = d.load := by obtain ⟨k, l, h⟩ := d.event_logged s c t x; rw [h]
@[simp] theorem Dev.event_adc (d : Dev) (s c t : Nat) (x : Option Bytes) : (d.event s c t x).adc = d.adc := by obtain ⟨k, l, h⟩ := d.event_logged s c t x; rw [h]
@[simp] theorem Dev.event_scan (d : Dev) (s c t : Nat) (x : Option Bytes) : (d.event s c t x).scan = d.scan := by obtain ⟨k, l, h⟩ := d.event_logged s c t x; rw [h]
@[simp] theorem Dev.event_dma (d : Dev) (s c t : Nat) (x : Option Bytes) : (d.event s c t x).dma = d.dma := by obtain ⟨k, l, h⟩ := d.event_logged s c t x; rw [h]
@[simp] theorem Dev.event_tenants (d : Dev) (s c t : Nat) (x : Option Bytes) : (d.event s c t x).tenants = d.tenants := by obtain ⟨k, l, h⟩ := d.event_logged s c t x; rw [h]
@[simp] theorem Dev.event_mezz (d : Dev) (s c t : Nat) (x : Option Bytes) : (d.event s c t x).mezz = d.mezz := by obtain ⟨k, l, h⟩ := d.event_logged s c t x; rw [h]
@[simp] theorem Dev.event_clk (d : Dev) (s c t : Nat) (x : Option Bytes) : (d.event s c t x).clk = d.clk := by obtain ⟨k, l, h⟩ := d.event_logged s c t x; rw [h]
@[simp] theorem Dev.event_sto (d : Dev) (s c t : Nat) (x : Option Bytes) : (d.event s c t x).sto = d.sto := by obtain ⟨k, l, h⟩ := d.event_logged s c t x; rw [h]
@[simp] theorem Dev.event_upd (d : Dev) (s c t : Nat) (x : Option Bytes) : (d.event s c t x).upd = d.upd := by obtain ⟨k, l, h⟩ := d.event_logged s c t x; rw [h]
@[simp] theorem Dev.event_held (d : Dev) (s c t : Nat) (x : Option Bytes) : (d.event s c t x).held = d.held := by obtain ⟨k, l, h⟩ := d.event_logged s c t x; rw [h]
@[simp] theorem Dev.event_harts (d : Dev) (s c t : Nat) (x : Option Bytes) : (d.event s c t x).harts = d.harts := by obtain ⟨k, l, h⟩ := d.event_logged s c t x; rw [h]
@[simp] theorem Dev.event_twin (d : Dev) (s c t : Nat) (x : Option Bytes) : (d.event s c t x).twin = d.twin := by obtain ⟨k, l, h⟩ := d.event_logged s c t x; rw [h]
@[simp] theorem Dev.event_board (d : Dev) (s c t : Nat) (x : Option Bytes) : (d.event s c t x).board = d.board := by obtain ⟨k, l, h⟩ := d.event_logged s c t x; rw [h]

@[simp] theorem Dev.count_blobs (d : Dev) (c : Counter) (n : Nat) : (d.count c n).blobs = d.blobs := by obtain ⟨k, l, h⟩ := d.count_logged c n; rw [h]
@[simp] theorem Dev.count_regs (d : Dev) (c : Counter) (n : Nat) : (d.count c n).regs = d.regs := by obtain ⟨k, l, h⟩ := d.count_logged c n; rw [h]
@[simp] theorem Dev.count_mem (d : Dev) (c : Counter) (n : Nat) : (d.count c n).mem = d.mem := by obtain ⟨k, l, h⟩ := d.count_logged c n; rw [h]
@[simp] theorem Dev.count_epochs (d : Dev) (c : Counter) (n : Nat) : (d.count c n).epochs = d.epochs := by obtain ⟨k, l, h⟩ := d.count_logged c n; rw [h]
@[simp] theorem Dev.count_free (d : Dev) (c : Counter) (n : Nat) : (d.count c n).free = d.free := by obtain ⟨k, l, h⟩ := d.count_logged c n; rw [h]
@[simp] theorem Dev.count_out (d : Dev) (c : Counter) (n : Nat) : (d.count c n).out = d.out := by obtain ⟨k, l, h⟩ := d.count_logged c n; rw [h]
@[simp] theorem Dev.count_limits (d : Dev) (c : Counter) (n : Nat) : (d.count c n).limits = d.limits := by obtain ⟨k, l, h⟩ := d.count_logged c n; rw [h]
@[simp] theorem Dev.count_ctrLatch (d : Dev) (c : Counter) (n : Nat) : (d.count c n).ctrLatch = d.ctrLatch := by obtain ⟨k, l, h⟩ := d.count_logged c n; rw [h]
@[simp] theorem Dev.count_ctrStage (d : Dev) (c : Counter) (n : Nat) : (d.count c n).ctrStage = d.ctrStage := by obtain ⟨k, l, h⟩ := d.count_logged c n; rw [h]
@[simp] theorem Dev.count_drains (d : Dev) (c : Counter) (n : Nat) : (d.count c n).drains = d.drains := by obtain ⟨k, l, h⟩ := d.count_logged c n; rw [h]
@[simp] theorem Dev.count_supply (d : Dev) (c : Counter) (n : Nat) : (d.count c n).supply = d.supply := by obtain ⟨k, l, h⟩ := d.count_logged c n; rw [h]
@[simp] theorem Dev.count_time (d : Dev) (c : Counter) (n : Nat) : (d.count c n).time = d.time := by obtain ⟨k, l, h⟩ := d.count_logged c n; rw [h]
@[simp] theorem Dev.count_d0 (d : Dev) (c : Counter) (n : Nat) : (d.count c n).d0 = d.d0 := by obtain ⟨k, l, h⟩ := d.count_logged c n; rw [h]
@[simp] theorem Dev.count_sw (d : Dev) (c : Counter) (n : Nat) : (d.count c n).sw = d.sw := by obtain ⟨k, l, h⟩ := d.count_logged c n; rw [h]
@[simp] theorem Dev.count_can (d : Dev) (c : Counter) (n : Nat) : (d.count c n).can = d.can := by obtain ⟨k, l, h⟩ := d.count_logged c n; rw [h]
@[simp] theorem Dev.count_sleep (d : Dev) (c : Counter) (n : Nat) : (d.count c n).sleep = d.sleep := by obtain ⟨k, l, h⟩ := d.count_logged c n; rw [h]
@[simp] theorem Dev.count_power (d : Dev) (c : Counter) (n : Nat) : (d.count c n).power = d.power := by obtain ⟨k, l, h⟩ := d.count_logged c n; rw [h]
@[simp] theorem Dev.count_br (d : Dev) (c : Counter) (n : Nat) : (d.count c n).br = d.br := by obtain ⟨k, l, h⟩ := d.count_logged c n; rw [h]
@[simp] theorem Dev.count_load (d : Dev) (c : Counter) (n : Nat) : (d.count c n).load = d.load := by obtain ⟨k, l, h⟩ := d.count_logged c n; rw [h]
@[simp] theorem Dev.count_adc (d : Dev) (c : Counter) (n : Nat) : (d.count c n).adc = d.adc := by obtain ⟨k, l, h⟩ := d.count_logged c n; rw [h]
@[simp] theorem Dev.count_scan (d : Dev) (c : Counter) (n : Nat) : (d.count c n).scan = d.scan := by obtain ⟨k, l, h⟩ := d.count_logged c n; rw [h]
@[simp] theorem Dev.count_dma (d : Dev) (c : Counter) (n : Nat) : (d.count c n).dma = d.dma := by obtain ⟨k, l, h⟩ := d.count_logged c n; rw [h]
@[simp] theorem Dev.count_tenants (d : Dev) (c : Counter) (n : Nat) : (d.count c n).tenants = d.tenants := by obtain ⟨k, l, h⟩ := d.count_logged c n; rw [h]
@[simp] theorem Dev.count_mezz (d : Dev) (c : Counter) (n : Nat) : (d.count c n).mezz = d.mezz := by obtain ⟨k, l, h⟩ := d.count_logged c n; rw [h]
@[simp] theorem Dev.count_clk (d : Dev) (c : Counter) (n : Nat) : (d.count c n).clk = d.clk := by obtain ⟨k, l, h⟩ := d.count_logged c n; rw [h]
@[simp] theorem Dev.count_sto (d : Dev) (c : Counter) (n : Nat) : (d.count c n).sto = d.sto := by obtain ⟨k, l, h⟩ := d.count_logged c n; rw [h]
@[simp] theorem Dev.count_upd (d : Dev) (c : Counter) (n : Nat) : (d.count c n).upd = d.upd := by obtain ⟨k, l, h⟩ := d.count_logged c n; rw [h]
@[simp] theorem Dev.count_held (d : Dev) (c : Counter) (n : Nat) : (d.count c n).held = d.held := by obtain ⟨k, l, h⟩ := d.count_logged c n; rw [h]
@[simp] theorem Dev.count_harts (d : Dev) (c : Counter) (n : Nat) : (d.count c n).harts = d.harts := by obtain ⟨k, l, h⟩ := d.count_logged c n; rw [h]
@[simp] theorem Dev.count_twin (d : Dev) (c : Counter) (n : Nat) : (d.count c n).twin = d.twin := by obtain ⟨k, l, h⟩ := d.count_logged c n; rw [h]
@[simp] theorem Dev.count_board (d : Dev) (c : Counter) (n : Nat) : (d.count c n).board = d.board := by obtain ⟨k, l, h⟩ := d.count_logged c n; rw [h]

@[simp] theorem Dev.setFldBit_dict (d : Dev) (f : Field) (i : Nat) (b : Bool) : (d.setFldBit f i b).dict = d.dict := Dev.setFld_dict ..
@[simp] theorem Dev.setFldBit_blobs (d : Dev) (f : Field) (i : Nat) (b : Bool) : (d.setFldBit f i b).blobs = d.blobs := Dev.setFld_blobs ..
@[simp] theorem Dev.setFldBit_mem (d : Dev) (f : Field) (i : Nat) (b : Bool) : (d.setFldBit f i b).mem = d.mem := Dev.setFld_mem ..
@[simp] theorem Dev.setFldBit_epochs (d : Dev) (f : Field) (i : Nat) (b : Bool) : (d.setFldBit f i b).epochs = d.epochs := Dev.setFld_epochs ..
@[simp] theorem Dev.setFldBit_free (d : Dev) (f : Field) (i : Nat) (b : Bool) : (d.setFldBit f i b).free = d.free := Dev.setFld_free ..
@[simp] theorem Dev.setFldBit_out (d : Dev) (f : Field) (i : Nat) (b : Bool) : (d.setFldBit f i b).out = d.out := Dev.setFld_out ..
@[simp] theorem Dev.setFldBit_logs (d : Dev) (f : Field) (i : Nat) (b : Bool) : (d.setFldBit f i b).logs = d.logs := Dev.setFld_logs ..
@[simp] theorem Dev.setFldBit_limits (d : Dev) (f : Field) (i : Nat) (b : Bool) : (d.setFldBit f i b).limits = d.limits := Dev.setFld_limits ..
@[simp] theorem Dev.setFldBit_ctrLatch (d : Dev) (f : Field) (i : Nat) (b : Bool) : (d.setFldBit f i b).ctrLatch = d.ctrLatch := Dev.setFld_ctrLatch ..
@[simp] theorem Dev.setFldBit_ctrStage (d : Dev) (f : Field) (i : Nat) (b : Bool) : (d.setFldBit f i b).ctrStage = d.ctrStage := Dev.setFld_ctrStage ..
@[simp] theorem Dev.setFldBit_drains (d : Dev) (f : Field) (i : Nat) (b : Bool) : (d.setFldBit f i b).drains = d.drains := Dev.setFld_drains ..
@[simp] theorem Dev.setFldBit_supply (d : Dev) (f : Field) (i : Nat) (b : Bool) : (d.setFldBit f i b).supply = d.supply := Dev.setFld_supply ..
@[simp] theorem Dev.setFldBit_time (d : Dev) (f : Field) (i : Nat) (b : Bool) : (d.setFldBit f i b).time = d.time := Dev.setFld_time ..
@[simp] theorem Dev.setFldBit_d0 (d : Dev) (f : Field) (i : Nat) (b : Bool) : (d.setFldBit f i b).d0 = d.d0 := Dev.setFld_d0 ..
@[simp] theorem Dev.setFldBit_sw (d : Dev) (f : Field) (i : Nat) (b : Bool) : (d.setFldBit f i b).sw = d.sw := Dev.setFld_sw ..
@[simp] theorem Dev.setFldBit_can (d : Dev) (f : Field) (i : Nat) (b : Bool) : (d.setFldBit f i b).can = d.can := Dev.setFld_can ..
@[simp] theorem Dev.setFldBit_sleep (d : Dev) (f : Field) (i : Nat) (b : Bool) : (d.setFldBit f i b).sleep = d.sleep := Dev.setFld_sleep ..
@[simp] theorem Dev.setFldBit_power (d : Dev) (f : Field) (i : Nat) (b : Bool) : (d.setFldBit f i b).power = d.power := Dev.setFld_power ..
@[simp] theorem Dev.setFldBit_br (d : Dev) (f : Field) (i : Nat) (b : Bool) : (d.setFldBit f i b).br = d.br := Dev.setFld_br ..
@[simp] theorem Dev.setFldBit_load (d : Dev) (f : Field) (i : Nat) (b : Bool) : (d.setFldBit f i b).load = d.load := Dev.setFld_load ..
@[simp] theorem Dev.setFldBit_adc (d : Dev) (f : Field) (i : Nat) (b : Bool) : (d.setFldBit f i b).adc = d.adc := Dev.setFld_adc ..
@[simp] theorem Dev.setFldBit_scan (d : Dev) (f : Field) (i : Nat) (b : Bool) : (d.setFldBit f i b).scan = d.scan := Dev.setFld_scan ..
@[simp] theorem Dev.setFldBit_dma (d : Dev) (f : Field) (i : Nat) (b : Bool) : (d.setFldBit f i b).dma = d.dma := Dev.setFld_dma ..
@[simp] theorem Dev.setFldBit_tenants (d : Dev) (f : Field) (i : Nat) (b : Bool) : (d.setFldBit f i b).tenants = d.tenants := Dev.setFld_tenants ..
@[simp] theorem Dev.setFldBit_mezz (d : Dev) (f : Field) (i : Nat) (b : Bool) : (d.setFldBit f i b).mezz = d.mezz := Dev.setFld_mezz ..
@[simp] theorem Dev.setFldBit_clk (d : Dev) (f : Field) (i : Nat) (b : Bool) : (d.setFldBit f i b).clk = d.clk := Dev.setFld_clk ..
@[simp] theorem Dev.setFldBit_sto (d : Dev) (f : Field) (i : Nat) (b : Bool) : (d.setFldBit f i b).sto = d.sto := Dev.setFld_sto ..
@[simp] theorem Dev.setFldBit_upd (d : Dev) (f : Field) (i : Nat) (b : Bool) : (d.setFldBit f i b).upd = d.upd := Dev.setFld_upd ..
@[simp] theorem Dev.setFldBit_held (d : Dev) (f : Field) (i : Nat) (b : Bool) : (d.setFldBit f i b).held = d.held := Dev.setFld_held ..
@[simp] theorem Dev.setFldBit_harts (d : Dev) (f : Field) (i : Nat) (b : Bool) : (d.setFldBit f i b).harts = d.harts := Dev.setFld_harts ..
@[simp] theorem Dev.setFldBit_twin (d : Dev) (f : Field) (i : Nat) (b : Bool) : (d.setFldBit f i b).twin = d.twin := Dev.setFld_twin ..
@[simp] theorem Dev.setFldBit_board (d : Dev) (f : Field) (i : Nat) (b : Bool) : (d.setFldBit f i b).board = d.board := Dev.setFld_board ..

@[simp] theorem Dev.sysIrq_dict (d : Dev) (i b : Nat) : (d.sysIrq i b).dict = d.dict := Dev.setFldBit_dict ..
@[simp] theorem Dev.sysIrq_blobs (d : Dev) (i b : Nat) : (d.sysIrq i b).blobs = d.blobs := Dev.setFldBit_blobs ..
@[simp] theorem Dev.sysIrq_mem (d : Dev) (i b : Nat) : (d.sysIrq i b).mem = d.mem := Dev.setFldBit_mem ..
@[simp] theorem Dev.sysIrq_epochs (d : Dev) (i b : Nat) : (d.sysIrq i b).epochs = d.epochs := Dev.setFldBit_epochs ..
@[simp] theorem Dev.sysIrq_free (d : Dev) (i b : Nat) : (d.sysIrq i b).free = d.free := Dev.setFldBit_free ..
@[simp] theorem Dev.sysIrq_out (d : Dev) (i b : Nat) : (d.sysIrq i b).out = d.out := Dev.setFldBit_out ..
@[simp] theorem Dev.sysIrq_logs (d : Dev) (i b : Nat) : (d.sysIrq i b).logs = d.logs := Dev.setFldBit_logs ..
@[simp] theorem Dev.sysIrq_limits (d : Dev) (i b : Nat) : (d.sysIrq i b).limits = d.limits := Dev.setFldBit_limits ..
@[simp] theorem Dev.sysIrq_ctrLatch (d : Dev) (i b : Nat) : (d.sysIrq i b).ctrLatch = d.ctrLatch := Dev.setFldBit_ctrLatch ..
@[simp] theorem Dev.sysIrq_ctrStage (d : Dev) (i b : Nat) : (d.sysIrq i b).ctrStage = d.ctrStage := Dev.setFldBit_ctrStage ..
@[simp] theorem Dev.sysIrq_drains (d : Dev) (i b : Nat) : (d.sysIrq i b).drains = d.drains := Dev.setFldBit_drains ..
@[simp] theorem Dev.sysIrq_supply (d : Dev) (i b : Nat) : (d.sysIrq i b).supply = d.supply := Dev.setFldBit_supply ..
@[simp] theorem Dev.sysIrq_time (d : Dev) (i b : Nat) : (d.sysIrq i b).time = d.time := Dev.setFldBit_time ..
@[simp] theorem Dev.sysIrq_d0 (d : Dev) (i b : Nat) : (d.sysIrq i b).d0 = d.d0 := Dev.setFldBit_d0 ..
@[simp] theorem Dev.sysIrq_sw (d : Dev) (i b : Nat) : (d.sysIrq i b).sw = d.sw := Dev.setFldBit_sw ..
@[simp] theorem Dev.sysIrq_can (d : Dev) (i b : Nat) : (d.sysIrq i b).can = d.can := Dev.setFldBit_can ..
@[simp] theorem Dev.sysIrq_sleep (d : Dev) (i b : Nat) : (d.sysIrq i b).sleep = d.sleep := Dev.setFldBit_sleep ..
@[simp] theorem Dev.sysIrq_power (d : Dev) (i b : Nat) : (d.sysIrq i b).power = d.power := Dev.setFldBit_power ..
@[simp] theorem Dev.sysIrq_br (d : Dev) (i b : Nat) : (d.sysIrq i b).br = d.br := Dev.setFldBit_br ..
@[simp] theorem Dev.sysIrq_load (d : Dev) (i b : Nat) : (d.sysIrq i b).load = d.load := Dev.setFldBit_load ..
@[simp] theorem Dev.sysIrq_adc (d : Dev) (i b : Nat) : (d.sysIrq i b).adc = d.adc := Dev.setFldBit_adc ..
@[simp] theorem Dev.sysIrq_scan (d : Dev) (i b : Nat) : (d.sysIrq i b).scan = d.scan := Dev.setFldBit_scan ..
@[simp] theorem Dev.sysIrq_dma (d : Dev) (i b : Nat) : (d.sysIrq i b).dma = d.dma := Dev.setFldBit_dma ..
@[simp] theorem Dev.sysIrq_tenants (d : Dev) (i b : Nat) : (d.sysIrq i b).tenants = d.tenants := Dev.setFldBit_tenants ..
@[simp] theorem Dev.sysIrq_mezz (d : Dev) (i b : Nat) : (d.sysIrq i b).mezz = d.mezz := Dev.setFldBit_mezz ..
@[simp] theorem Dev.sysIrq_clk (d : Dev) (i b : Nat) : (d.sysIrq i b).clk = d.clk := Dev.setFldBit_clk ..
@[simp] theorem Dev.sysIrq_sto (d : Dev) (i b : Nat) : (d.sysIrq i b).sto = d.sto := Dev.setFldBit_sto ..
@[simp] theorem Dev.sysIrq_upd (d : Dev) (i b : Nat) : (d.sysIrq i b).upd = d.upd := Dev.setFldBit_upd ..
@[simp] theorem Dev.sysIrq_held (d : Dev) (i b : Nat) : (d.sysIrq i b).held = d.held := Dev.setFldBit_held ..
@[simp] theorem Dev.sysIrq_harts (d : Dev) (i b : Nat) : (d.sysIrq i b).harts = d.harts := Dev.setFldBit_harts ..
@[simp] theorem Dev.sysIrq_twin (d : Dev) (i b : Nat) : (d.sysIrq i b).twin = d.twin := Dev.setFldBit_twin ..
@[simp] theorem Dev.sysIrq_board (d : Dev) (i b : Nat) : (d.sysIrq i b).board = d.board := Dev.setFldBit_board ..

@[simp] theorem Dev.raise_dict (d : Dev) (n : Nat) : (d.raise n).dict = d.dict := Dev.setFld_dict ..
@[simp] theorem Dev.raise_blobs (d : Dev) (n : Nat) : (d.raise n).blobs = d.blobs := Dev.setFld_blobs ..
@[simp] theorem Dev.raise_mem (d : Dev) (n : Nat) : (d.raise n).mem = d.mem := Dev.setFld_mem ..
@[simp] theorem Dev.raise_epochs (d : Dev) (n : Nat) : (d.raise n).epochs = d.epochs := Dev.setFld_epochs ..
@[simp] theorem Dev.raise_free (d : Dev) (n : Nat) : (d.raise n).free = d.free := Dev.setFld_free ..
@[simp] theorem Dev.raise_out (d : Dev) (n : Nat) : (d.raise n).out = d.out := Dev.setFld_out ..
@[simp] theorem Dev.raise_logs (d : Dev) (n : Nat) : (d.raise n).logs = d.logs := Dev.setFld_logs ..
@[simp] theorem Dev.raise_limits (d : Dev) (n : Nat) : (d.raise n).limits = d.limits := Dev.setFld_limits ..
@[simp] theorem Dev.raise_ctrLatch (d : Dev) (n : Nat) : (d.raise n).ctrLatch = d.ctrLatch := Dev.setFld_ctrLatch ..
@[simp] theorem Dev.raise_ctrStage (d : Dev) (n : Nat) : (d.raise n).ctrStage = d.ctrStage := Dev.setFld_ctrStage ..
@[simp] theorem Dev.raise_drains (d : Dev) (n : Nat) : (d.raise n).drains = d.drains := Dev.setFld_drains ..
@[simp] theorem Dev.raise_supply (d : Dev) (n : Nat) : (d.raise n).supply = d.supply := Dev.setFld_supply ..
@[simp] theorem Dev.raise_time (d : Dev) (n : Nat) : (d.raise n).time = d.time := Dev.setFld_time ..
@[simp] theorem Dev.raise_d0 (d : Dev) (n : Nat) : (d.raise n).d0 = d.d0 := Dev.setFld_d0 ..
@[simp] theorem Dev.raise_sw (d : Dev) (n : Nat) : (d.raise n).sw = d.sw := Dev.setFld_sw ..
@[simp] theorem Dev.raise_can (d : Dev) (n : Nat) : (d.raise n).can = d.can := Dev.setFld_can ..
@[simp] theorem Dev.raise_sleep (d : Dev) (n : Nat) : (d.raise n).sleep = d.sleep := Dev.setFld_sleep ..
@[simp] theorem Dev.raise_power (d : Dev) (n : Nat) : (d.raise n).power = d.power := Dev.setFld_power ..
@[simp] theorem Dev.raise_br (d : Dev) (n : Nat) : (d.raise n).br = d.br := Dev.setFld_br ..
@[simp] theorem Dev.raise_load (d : Dev) (n : Nat) : (d.raise n).load = d.load := Dev.setFld_load ..
@[simp] theorem Dev.raise_adc (d : Dev) (n : Nat) : (d.raise n).adc = d.adc := Dev.setFld_adc ..
@[simp] theorem Dev.raise_scan (d : Dev) (n : Nat) : (d.raise n).scan = d.scan := Dev.setFld_scan ..
@[simp] theorem Dev.raise_dma (d : Dev) (n : Nat) : (d.raise n).dma = d.dma := Dev.setFld_dma ..
@[simp] theorem Dev.raise_tenants (d : Dev) (n : Nat) : (d.raise n).tenants = d.tenants := Dev.setFld_tenants ..
@[simp] theorem Dev.raise_mezz (d : Dev) (n : Nat) : (d.raise n).mezz = d.mezz := Dev.setFld_mezz ..
@[simp] theorem Dev.raise_clk (d : Dev) (n : Nat) : (d.raise n).clk = d.clk := Dev.setFld_clk ..
@[simp] theorem Dev.raise_sto (d : Dev) (n : Nat) : (d.raise n).sto = d.sto := Dev.setFld_sto ..
@[simp] theorem Dev.raise_upd (d : Dev) (n : Nat) : (d.raise n).upd = d.upd := Dev.setFld_upd ..
@[simp] theorem Dev.raise_held (d : Dev) (n : Nat) : (d.raise n).held = d.held := Dev.setFld_held ..
@[simp] theorem Dev.raise_harts (d : Dev) (n : Nat) : (d.raise n).harts = d.harts := Dev.setFld_harts ..
@[simp] theorem Dev.raise_twin (d : Dev) (n : Nat) : (d.raise n).twin = d.twin := Dev.setFld_twin ..
@[simp] theorem Dev.raise_board (d : Dev) (n : Nat) : (d.raise n).board = d.board := Dev.setFld_board ..

@[simp] theorem Dev.raiseM0_dict (d : Dev) (n : Nat) : (d.raiseM0 n).dict = d.dict := Dev.setFld_dict ..
@[simp] theorem Dev.raiseM0_blobs (d : Dev) (n : Nat) : (d.raiseM0 n).blobs = d.blobs := Dev.setFld_blobs ..
@[simp] theorem Dev.raiseM0_mem (d : Dev) (n : Nat) : (d.raiseM0 n).mem = d.mem := Dev.setFld_mem ..
@[simp] theorem Dev.raiseM0_epochs (d : Dev) (n : Nat) : (d.raiseM0 n).epochs = d.epochs := Dev.setFld_epochs ..
@[simp] theorem Dev.raiseM0_free (d : Dev) (n : Nat) : (d.raiseM0 n).free = d.free := Dev.setFld_free ..
@[simp] theorem Dev.raiseM0_out (d : Dev) (n : Nat) : (d.raiseM0 n).out = d.out := Dev.setFld_out ..
@[simp] theorem Dev.raiseM0_logs (d : Dev) (n : Nat) : (d.raiseM0 n).logs = d.logs := Dev.setFld_logs ..
@[simp] theorem Dev.raiseM0_limits (d : Dev) (n : Nat) : (d.raiseM0 n).limits = d.limits := Dev.setFld_limits ..
@[simp] theorem Dev.raiseM0_ctrLatch (d : Dev) (n : Nat) : (d.raiseM0 n).ctrLatch = d.ctrLatch := Dev.setFld_ctrLatch ..
@[simp] theorem Dev.raiseM0_ctrStage (d : Dev) (n : Nat) : (d.raiseM0 n).ctrStage = d.ctrStage := Dev.setFld_ctrStage ..
@[simp] theorem Dev.raiseM0_drains (d : Dev) (n : Nat) : (d.raiseM0 n).drains = d.drains := Dev.setFld_drains ..
@[simp] theorem Dev.raiseM0_supply (d : Dev) (n : Nat) : (d.raiseM0 n).supply = d.supply := Dev.setFld_supply ..
@[simp] theorem Dev.raiseM0_time (d : Dev) (n : Nat) : (d.raiseM0 n).time = d.time := Dev.setFld_time ..
@[simp] theorem Dev.raiseM0_d0 (d : Dev) (n : Nat) : (d.raiseM0 n).d0 = d.d0 := Dev.setFld_d0 ..
@[simp] theorem Dev.raiseM0_sw (d : Dev) (n : Nat) : (d.raiseM0 n).sw = d.sw := Dev.setFld_sw ..
@[simp] theorem Dev.raiseM0_can (d : Dev) (n : Nat) : (d.raiseM0 n).can = d.can := Dev.setFld_can ..
@[simp] theorem Dev.raiseM0_sleep (d : Dev) (n : Nat) : (d.raiseM0 n).sleep = d.sleep := Dev.setFld_sleep ..
@[simp] theorem Dev.raiseM0_power (d : Dev) (n : Nat) : (d.raiseM0 n).power = d.power := Dev.setFld_power ..
@[simp] theorem Dev.raiseM0_br (d : Dev) (n : Nat) : (d.raiseM0 n).br = d.br := Dev.setFld_br ..
@[simp] theorem Dev.raiseM0_load (d : Dev) (n : Nat) : (d.raiseM0 n).load = d.load := Dev.setFld_load ..
@[simp] theorem Dev.raiseM0_adc (d : Dev) (n : Nat) : (d.raiseM0 n).adc = d.adc := Dev.setFld_adc ..
@[simp] theorem Dev.raiseM0_scan (d : Dev) (n : Nat) : (d.raiseM0 n).scan = d.scan := Dev.setFld_scan ..
@[simp] theorem Dev.raiseM0_dma (d : Dev) (n : Nat) : (d.raiseM0 n).dma = d.dma := Dev.setFld_dma ..
@[simp] theorem Dev.raiseM0_tenants (d : Dev) (n : Nat) : (d.raiseM0 n).tenants = d.tenants := Dev.setFld_tenants ..
@[simp] theorem Dev.raiseM0_mezz (d : Dev) (n : Nat) : (d.raiseM0 n).mezz = d.mezz := Dev.setFld_mezz ..
@[simp] theorem Dev.raiseM0_clk (d : Dev) (n : Nat) : (d.raiseM0 n).clk = d.clk := Dev.setFld_clk ..
@[simp] theorem Dev.raiseM0_sto (d : Dev) (n : Nat) : (d.raiseM0 n).sto = d.sto := Dev.setFld_sto ..
@[simp] theorem Dev.raiseM0_upd (d : Dev) (n : Nat) : (d.raiseM0 n).upd = d.upd := Dev.setFld_upd ..
@[simp] theorem Dev.raiseM0_held (d : Dev) (n : Nat) : (d.raiseM0 n).held = d.held := Dev.setFld_held ..
@[simp] theorem Dev.raiseM0_harts (d : Dev) (n : Nat) : (d.raiseM0 n).harts = d.harts := Dev.setFld_harts ..
@[simp] theorem Dev.raiseM0_twin (d : Dev) (n : Nat) : (d.raiseM0 n).twin = d.twin := Dev.setFld_twin ..
@[simp] theorem Dev.raiseM0_board (d : Dev) (n : Nat) : (d.raiseM0 n).board = d.board := Dev.setFld_board ..

@[simp] theorem Dev.putBit_blobs (d : Dev) (e : Entry) (i : Nat) (b : Bool) : (d.putBit e i b).blobs = d.blobs := Dev.put_blobs ..
@[simp] theorem Dev.putBit_regs (d : Dev) (e : Entry) (i : Nat) (b : Bool) : (d.putBit e i b).regs = d.regs := Dev.put_regs ..
@[simp] theorem Dev.putBit_mem (d : Dev) (e : Entry) (i : Nat) (b : Bool) : (d.putBit e i b).mem = d.mem := Dev.put_mem ..
@[simp] theorem Dev.putBit_epochs (d : Dev) (e : Entry) (i : Nat) (b : Bool) : (d.putBit e i b).epochs = d.epochs := Dev.put_epochs ..
@[simp] theorem Dev.putBit_free (d : Dev) (e : Entry) (i : Nat) (b : Bool) : (d.putBit e i b).free = d.free := Dev.put_free ..
@[simp] theorem Dev.putBit_out (d : Dev) (e : Entry) (i : Nat) (b : Bool) : (d.putBit e i b).out = d.out := Dev.put_out ..
@[simp] theorem Dev.putBit_logs (d : Dev) (e : Entry) (i : Nat) (b : Bool) : (d.putBit e i b).logs = d.logs := Dev.put_logs ..
@[simp] theorem Dev.putBit_limits (d : Dev) (e : Entry) (i : Nat) (b : Bool) : (d.putBit e i b).limits = d.limits := Dev.put_limits ..
@[simp] theorem Dev.putBit_ctrLatch (d : Dev) (e : Entry) (i : Nat) (b : Bool) : (d.putBit e i b).ctrLatch = d.ctrLatch := Dev.put_ctrLatch ..
@[simp] theorem Dev.putBit_ctrStage (d : Dev) (e : Entry) (i : Nat) (b : Bool) : (d.putBit e i b).ctrStage = d.ctrStage := Dev.put_ctrStage ..
@[simp] theorem Dev.putBit_drains (d : Dev) (e : Entry) (i : Nat) (b : Bool) : (d.putBit e i b).drains = d.drains := Dev.put_drains ..
@[simp] theorem Dev.putBit_supply (d : Dev) (e : Entry) (i : Nat) (b : Bool) : (d.putBit e i b).supply = d.supply := Dev.put_supply ..
@[simp] theorem Dev.putBit_time (d : Dev) (e : Entry) (i : Nat) (b : Bool) : (d.putBit e i b).time = d.time := Dev.put_time ..
@[simp] theorem Dev.putBit_d0 (d : Dev) (e : Entry) (i : Nat) (b : Bool) : (d.putBit e i b).d0 = d.d0 := Dev.put_d0 ..
@[simp] theorem Dev.putBit_sw (d : Dev) (e : Entry) (i : Nat) (b : Bool) : (d.putBit e i b).sw = d.sw := Dev.put_sw ..
@[simp] theorem Dev.putBit_can (d : Dev) (e : Entry) (i : Nat) (b : Bool) : (d.putBit e i b).can = d.can := Dev.put_can ..
@[simp] theorem Dev.putBit_sleep (d : Dev) (e : Entry) (i : Nat) (b : Bool) : (d.putBit e i b).sleep = d.sleep := Dev.put_sleep ..
@[simp] theorem Dev.putBit_power (d : Dev) (e : Entry) (i : Nat) (b : Bool) : (d.putBit e i b).power = d.power := Dev.put_power ..
@[simp] theorem Dev.putBit_br (d : Dev) (e : Entry) (i : Nat) (b : Bool) : (d.putBit e i b).br = d.br := Dev.put_br ..
@[simp] theorem Dev.putBit_load (d : Dev) (e : Entry) (i : Nat) (b : Bool) : (d.putBit e i b).load = d.load := Dev.put_load ..
@[simp] theorem Dev.putBit_adc (d : Dev) (e : Entry) (i : Nat) (b : Bool) : (d.putBit e i b).adc = d.adc := Dev.put_adc ..
@[simp] theorem Dev.putBit_scan (d : Dev) (e : Entry) (i : Nat) (b : Bool) : (d.putBit e i b).scan = d.scan := Dev.put_scan ..
@[simp] theorem Dev.putBit_dma (d : Dev) (e : Entry) (i : Nat) (b : Bool) : (d.putBit e i b).dma = d.dma := Dev.put_dma ..
@[simp] theorem Dev.putBit_tenants (d : Dev) (e : Entry) (i : Nat) (b : Bool) : (d.putBit e i b).tenants = d.tenants := Dev.put_tenants ..
@[simp] theorem Dev.putBit_mezz (d : Dev) (e : Entry) (i : Nat) (b : Bool) : (d.putBit e i b).mezz = d.mezz := Dev.put_mezz ..
@[simp] theorem Dev.putBit_clk (d : Dev) (e : Entry) (i : Nat) (b : Bool) : (d.putBit e i b).clk = d.clk := Dev.put_clk ..
@[simp] theorem Dev.putBit_sto (d : Dev) (e : Entry) (i : Nat) (b : Bool) : (d.putBit e i b).sto = d.sto := Dev.put_sto ..
@[simp] theorem Dev.putBit_upd (d : Dev) (e : Entry) (i : Nat) (b : Bool) : (d.putBit e i b).upd = d.upd := Dev.put_upd ..
@[simp] theorem Dev.putBit_held (d : Dev) (e : Entry) (i : Nat) (b : Bool) : (d.putBit e i b).held = d.held := Dev.put_held ..
@[simp] theorem Dev.putBit_harts (d : Dev) (e : Entry) (i : Nat) (b : Bool) : (d.putBit e i b).harts = d.harts := Dev.put_harts ..
@[simp] theorem Dev.putBit_twin (d : Dev) (e : Entry) (i : Nat) (b : Bool) : (d.putBit e i b).twin = d.twin := Dev.put_twin ..
@[simp] theorem Dev.putBit_board (d : Dev) (e : Entry) (i : Nat) (b : Bool) : (d.putBit e i b).board = d.board := Dev.put_board ..

@[simp] theorem Dev.putInt_blobs (d : Dev) (e : Entry) (v : Int) : (d.putInt e v).blobs = d.blobs := Dev.put_blobs ..
@[simp] theorem Dev.putInt_regs (d : Dev) (e : Entry) (v : Int) : (d.putInt e v).regs = d.regs := Dev.put_regs ..
@[simp] theorem Dev.putInt_mem (d : Dev) (e : Entry) (v : Int) : (d.putInt e v).mem = d.mem := Dev.put_mem ..
@[simp] theorem Dev.putInt_epochs (d : Dev) (e : Entry) (v : Int) : (d.putInt e v).epochs = d.epochs := Dev.put_epochs ..
@[simp] theorem Dev.putInt_free (d : Dev) (e : Entry) (v : Int) : (d.putInt e v).free = d.free := Dev.put_free ..
@[simp] theorem Dev.putInt_out (d : Dev) (e : Entry) (v : Int) : (d.putInt e v).out = d.out := Dev.put_out ..
@[simp] theorem Dev.putInt_logs (d : Dev) (e : Entry) (v : Int) : (d.putInt e v).logs = d.logs := Dev.put_logs ..
@[simp] theorem Dev.putInt_limits (d : Dev) (e : Entry) (v : Int) : (d.putInt e v).limits = d.limits := Dev.put_limits ..
@[simp] theorem Dev.putInt_ctrLatch (d : Dev) (e : Entry) (v : Int) : (d.putInt e v).ctrLatch = d.ctrLatch := Dev.put_ctrLatch ..
@[simp] theorem Dev.putInt_ctrStage (d : Dev) (e : Entry) (v : Int) : (d.putInt e v).ctrStage = d.ctrStage := Dev.put_ctrStage ..
@[simp] theorem Dev.putInt_drains (d : Dev) (e : Entry) (v : Int) : (d.putInt e v).drains = d.drains := Dev.put_drains ..
@[simp] theorem Dev.putInt_supply (d : Dev) (e : Entry) (v : Int) : (d.putInt e v).supply = d.supply := Dev.put_supply ..
@[simp] theorem Dev.putInt_time (d : Dev) (e : Entry) (v : Int) : (d.putInt e v).time = d.time := Dev.put_time ..
@[simp] theorem Dev.putInt_d0 (d : Dev) (e : Entry) (v : Int) : (d.putInt e v).d0 = d.d0 := Dev.put_d0 ..
@[simp] theorem Dev.putInt_sw (d : Dev) (e : Entry) (v : Int) : (d.putInt e v).sw = d.sw := Dev.put_sw ..
@[simp] theorem Dev.putInt_can (d : Dev) (e : Entry) (v : Int) : (d.putInt e v).can = d.can := Dev.put_can ..
@[simp] theorem Dev.putInt_sleep (d : Dev) (e : Entry) (v : Int) : (d.putInt e v).sleep = d.sleep := Dev.put_sleep ..
@[simp] theorem Dev.putInt_power (d : Dev) (e : Entry) (v : Int) : (d.putInt e v).power = d.power := Dev.put_power ..
@[simp] theorem Dev.putInt_br (d : Dev) (e : Entry) (v : Int) : (d.putInt e v).br = d.br := Dev.put_br ..
@[simp] theorem Dev.putInt_load (d : Dev) (e : Entry) (v : Int) : (d.putInt e v).load = d.load := Dev.put_load ..
@[simp] theorem Dev.putInt_adc (d : Dev) (e : Entry) (v : Int) : (d.putInt e v).adc = d.adc := Dev.put_adc ..
@[simp] theorem Dev.putInt_scan (d : Dev) (e : Entry) (v : Int) : (d.putInt e v).scan = d.scan := Dev.put_scan ..
@[simp] theorem Dev.putInt_dma (d : Dev) (e : Entry) (v : Int) : (d.putInt e v).dma = d.dma := Dev.put_dma ..
@[simp] theorem Dev.putInt_tenants (d : Dev) (e : Entry) (v : Int) : (d.putInt e v).tenants = d.tenants := Dev.put_tenants ..
@[simp] theorem Dev.putInt_mezz (d : Dev) (e : Entry) (v : Int) : (d.putInt e v).mezz = d.mezz := Dev.put_mezz ..
@[simp] theorem Dev.putInt_clk (d : Dev) (e : Entry) (v : Int) : (d.putInt e v).clk = d.clk := Dev.put_clk ..
@[simp] theorem Dev.putInt_sto (d : Dev) (e : Entry) (v : Int) : (d.putInt e v).sto = d.sto := Dev.put_sto ..
@[simp] theorem Dev.putInt_upd (d : Dev) (e : Entry) (v : Int) : (d.putInt e v).upd = d.upd := Dev.put_upd ..
@[simp] theorem Dev.putInt_held (d : Dev) (e : Entry) (v : Int) : (d.putInt e v).held = d.held := Dev.put_held ..
@[simp] theorem Dev.putInt_harts (d : Dev) (e : Entry) (v : Int) : (d.putInt e v).harts = d.harts := Dev.put_harts ..
@[simp] theorem Dev.putInt_twin (d : Dev) (e : Entry) (v : Int) : (d.putInt e v).twin = d.twin := Dev.put_twin ..
@[simp] theorem Dev.putInt_board (d : Dev) (e : Entry) (v : Int) : (d.putInt e v).board = d.board := Dev.put_board ..

@[simp] theorem Dev.draw_dict (d : Dev) (w : Nat) : (d.draw w).2.dict = d.dict := rfl
@[simp] theorem Dev.draw_blobs (d : Dev) (w : Nat) : (d.draw w).2.blobs = d.blobs := rfl
@[simp] theorem Dev.draw_regs (d : Dev) (w : Nat) : (d.draw w).2.regs = d.regs := rfl
@[simp] theorem Dev.draw_mem (d : Dev) (w : Nat) : (d.draw w).2.mem = d.mem := rfl
@[simp] theorem Dev.draw_epochs (d : Dev) (w : Nat) : (d.draw w).2.epochs = d.epochs := rfl
@[simp] theorem Dev.draw_out (d : Dev) (w : Nat) : (d.draw w).2.out = d.out := rfl
@[simp] theorem Dev.draw_logs (d : Dev) (w : Nat) : (d.draw w).2.logs = d.logs := rfl
@[simp] theorem Dev.draw_limits (d : Dev) (w : Nat) : (d.draw w).2.limits = d.limits := rfl
@[simp] theorem Dev.draw_ctrLatch (d : Dev) (w : Nat) : (d.draw w).2.ctrLatch = d.ctrLatch := rfl
@[simp] theorem Dev.draw_ctrStage (d : Dev) (w : Nat) : (d.draw w).2.ctrStage = d.ctrStage := rfl
@[simp] theorem Dev.draw_drains (d : Dev) (w : Nat) : (d.draw w).2.drains = d.drains := rfl
@[simp] theorem Dev.draw_supply (d : Dev) (w : Nat) : (d.draw w).2.supply = d.supply := rfl
@[simp] theorem Dev.draw_time (d : Dev) (w : Nat) : (d.draw w).2.time = d.time := rfl
@[simp] theorem Dev.draw_d0 (d : Dev) (w : Nat) : (d.draw w).2.d0 = d.d0 := rfl
@[simp] theorem Dev.draw_sw (d : Dev) (w : Nat) : (d.draw w).2.sw = d.sw := rfl
@[simp] theorem Dev.draw_can (d : Dev) (w : Nat) : (d.draw w).2.can = d.can := rfl
@[simp] theorem Dev.draw_sleep (d : Dev) (w : Nat) : (d.draw w).2.sleep = d.sleep := rfl
@[simp] theorem Dev.draw_power (d : Dev) (w : Nat) : (d.draw w).2.power = d.power := rfl
@[simp] theorem Dev.draw_br (d : Dev) (w : Nat) : (d.draw w).2.br = d.br := rfl
@[simp] theorem Dev.draw_load (d : Dev) (w : Nat) : (d.draw w).2.load = d.load := rfl
@[simp] theorem Dev.draw_adc (d : Dev) (w : Nat) : (d.draw w).2.adc = d.adc := rfl
@[simp] theorem Dev.draw_scan (d : Dev) (w : Nat) : (d.draw w).2.scan = d.scan := rfl
@[simp] theorem Dev.draw_dma (d : Dev) (w : Nat) : (d.draw w).2.dma = d.dma := rfl
@[simp] theorem Dev.draw_tenants (d : Dev) (w : Nat) : (d.draw w).2.tenants = d.tenants := rfl
@[simp] theorem Dev.draw_mezz (d : Dev) (w : Nat) : (d.draw w).2.mezz = d.mezz := rfl
@[simp] theorem Dev.draw_clk (d : Dev) (w : Nat) : (d.draw w).2.clk = d.clk := rfl
@[simp] theorem Dev.draw_sto (d : Dev) (w : Nat) : (d.draw w).2.sto = d.sto := rfl
@[simp] theorem Dev.draw_upd (d : Dev) (w : Nat) : (d.draw w).2.upd = d.upd := rfl
@[simp] theorem Dev.draw_held (d : Dev) (w : Nat) : (d.draw w).2.held = d.held := rfl
@[simp] theorem Dev.draw_harts (d : Dev) (w : Nat) : (d.draw w).2.harts = d.harts := rfl
@[simp] theorem Dev.draw_twin (d : Dev) (w : Nat) : (d.draw w).2.twin = d.twin := rfl
@[simp] theorem Dev.draw_board (d : Dev) (w : Nat) : (d.draw w).2.board = d.board := rfl

@[simp] theorem Dev.eventSys_blobs (d : Dev) (i : Nat) (s c t : Nat) (x : Option Bytes) : (d.eventSys i s c t x).blobs = d.blobs := by simp [Dev.eventSys]
@[simp] theorem Dev.eventSys_mem (d : Dev) (i : Nat) (s c t : Nat) (x : Option Bytes) : (d.eventSys i s c t x).mem = d.mem := by simp [Dev.eventSys]
@[simp] theorem Dev.eventSys_epochs (d : Dev) (i : Nat) (s c t : Nat) (x : Option Bytes) : (d.eventSys i s c t x).epochs = d.epochs := by simp [Dev.eventSys]
@[simp] theorem Dev.eventSys_free (d : Dev) (i : Nat) (s c t : Nat) (x : Option Bytes) : (d.eventSys i s c t x).free = d.free := by simp [Dev.eventSys]
@[simp] theorem Dev.eventSys_out (d : Dev) (i : Nat) (s c t : Nat) (x : Option Bytes) : (d.eventSys i s c t x).out = d.out := by simp [Dev.eventSys]
@[simp] theorem Dev.eventSys_limits (d : Dev) (i : Nat) (s c t : Nat) (x : Option Bytes) : (d.eventSys i s c t x).limits = d.limits := by simp [Dev.eventSys]
@[simp] theorem Dev.eventSys_ctrLatch (d : Dev) (i : Nat) (s c t : Nat) (x : Option Bytes) : (d.eventSys i s c t x).ctrLatch = d.ctrLatch := by simp [Dev.eventSys]
@[simp] theorem Dev.eventSys_ctrStage (d : Dev) (i : Nat) (s c t : Nat) (x : Option Bytes) : (d.eventSys i s c t x).ctrStage = d.ctrStage := by simp [Dev.eventSys]
@[simp] theorem Dev.eventSys_drains (d : Dev) (i : Nat) (s c t : Nat) (x : Option Bytes) : (d.eventSys i s c t x).drains = d.drains := by simp [Dev.eventSys]
@[simp] theorem Dev.eventSys_supply (d : Dev) (i : Nat) (s c t : Nat) (x : Option Bytes) : (d.eventSys i s c t x).supply = d.supply := by simp [Dev.eventSys]
@[simp] theorem Dev.eventSys_time (d : Dev) (i : Nat) (s c t : Nat) (x : Option Bytes) : (d.eventSys i s c t x).time = d.time := by simp [Dev.eventSys]
@[simp] theorem Dev.eventSys_d0 (d : Dev) (i : Nat) (s c t : Nat) (x : Option Bytes) : (d.eventSys i s c t x).d0 = d.d0 := by simp [Dev.eventSys]
@[simp] theorem Dev.eventSys_sw (d : Dev) (i : Nat) (s c t : Nat) (x : Option Bytes) : (d.eventSys i s c t x).sw = d.sw := by simp [Dev.eventSys]
@[simp] theorem Dev.eventSys_can (d : Dev) (i : Nat) (s c t : Nat) (x : Option Bytes) : (d.eventSys i s c t x).can = d.can := by simp [Dev.eventSys]
@[simp] theorem Dev.eventSys_sleep (d : Dev) (i : Nat) (s c t : Nat) (x : Option Bytes) : (d.eventSys i s c t x).sleep = d.sleep := by simp [Dev.eventSys]
@[simp] theorem Dev.eventSys_power (d : Dev) (i : Nat) (s c t : Nat) (x : Option Bytes) : (d.eventSys i s c t x).power = d.power := by simp [Dev.eventSys]
@[simp] theorem Dev.eventSys_br (d : Dev) (i : Nat) (s c t : Nat) (x : Option Bytes) : (d.eventSys i s c t x).br = d.br := by simp [Dev.eventSys]
@[simp] theorem Dev.eventSys_load (d : Dev) (i : Nat) (s c t : Nat) (x : Option Bytes) : (d.eventSys i s c t x).load = d.load := by simp [Dev.eventSys]
@[simp] theorem Dev.eventSys_adc (d : Dev) (i : Nat) (s c t : Nat) (x : Option Bytes) : (d.eventSys i s c t x).adc = d.adc := by simp [Dev.eventSys]
@[simp] theorem Dev.eventSys_scan (d : Dev) (i : Nat) (s c t : Nat) (x : Option Bytes) : (d.eventSys i s c t x).scan = d.scan := by simp [Dev.eventSys]
@[simp] theorem Dev.eventSys_dma (d : Dev) (i : Nat) (s c t : Nat) (x : Option Bytes) : (d.eventSys i s c t x).dma = d.dma := by simp [Dev.eventSys]
@[simp] theorem Dev.eventSys_tenants (d : Dev) (i : Nat) (s c t : Nat) (x : Option Bytes) : (d.eventSys i s c t x).tenants = d.tenants := by simp [Dev.eventSys]
@[simp] theorem Dev.eventSys_mezz (d : Dev) (i : Nat) (s c t : Nat) (x : Option Bytes) : (d.eventSys i s c t x).mezz = d.mezz := by simp [Dev.eventSys]
@[simp] theorem Dev.eventSys_clk (d : Dev) (i : Nat) (s c t : Nat) (x : Option Bytes) : (d.eventSys i s c t x).clk = d.clk := by simp [Dev.eventSys]
@[simp] theorem Dev.eventSys_sto (d : Dev) (i : Nat) (s c t : Nat) (x : Option Bytes) : (d.eventSys i s c t x).sto = d.sto := by simp [Dev.eventSys]
@[simp] theorem Dev.eventSys_upd (d : Dev) (i : Nat) (s c t : Nat) (x : Option Bytes) : (d.eventSys i s c t x).upd = d.upd := by simp [Dev.eventSys]
@[simp] theorem Dev.eventSys_held (d : Dev) (i : Nat) (s c t : Nat) (x : Option Bytes) : (d.eventSys i s c t x).held = d.held := by simp [Dev.eventSys]
@[simp] theorem Dev.eventSys_harts (d : Dev) (i : Nat) (s c t : Nat) (x : Option Bytes) : (d.eventSys i s c t x).harts = d.harts := by simp [Dev.eventSys]
@[simp] theorem Dev.eventSys_twin (d : Dev) (i : Nat) (s c t : Nat) (x : Option Bytes) : (d.eventSys i s c t x).twin = d.twin := by simp [Dev.eventSys]
@[simp] theorem Dev.eventSys_board (d : Dev) (i : Nat) (s c t : Nat) (x : Option Bytes) : (d.eventSys i s c t x).board = d.board := by simp [Dev.eventSys]

@[simp] theorem Dev.eventSecure_blobs (d : Dev) (s c t : Nat) : (d.eventSecure s c t).blobs = d.blobs := by obtain ⟨y, ⟨⟨k, l, rfl⟩, -⟩, e | e⟩ := d.eventSecure_eq s c t <;> rw [e]; exact Dev.raiseM0_blobs ..
@[simp] theorem Dev.eventSecure_mem (d : Dev) (s c t : Nat) : (d.eventSecure s c t).mem = d.mem := by obtain ⟨y, ⟨⟨k, l, rfl⟩, -⟩, e | e⟩ := d.eventSecure_eq s c t <;> rw [e]; exact Dev.raiseM0_mem ..
@[simp] theorem Dev.eventSecure_epochs (d : Dev) (s c t : Nat) : (d.eventSecure s c t).epochs = d.epochs := by obtain ⟨y, ⟨⟨k, l, rfl⟩, -⟩, e | e⟩ := d.eventSecure_eq s c t <;> rw [e]; exact Dev.raiseM0_epochs ..
@[simp] theorem Dev.eventSecure_free (d : Dev) (s c t : Nat) : (d.eventSecure s c t).free = d.free := by obtain ⟨y, ⟨⟨k, l, rfl⟩, -⟩, e | e⟩ := d.eventSecure_eq s c t <;> rw [e]; exact Dev.raiseM0_free ..
@[simp] theorem Dev.eventSecure_out (d : Dev) (s c t : Nat) : (d.eventSecure s c t).out = d.out := by obtain ⟨y, ⟨⟨k, l, rfl⟩, -⟩, e | e⟩ := d.eventSecure_eq s c t <;> rw [e]; exact Dev.raiseM0_out ..
@[simp] theorem Dev.eventSecure_limits (d : Dev) (s c t : Nat) : (d.eventSecure s c t).limits = d.limits := by obtain ⟨y, ⟨⟨k, l, rfl⟩, -⟩, e | e⟩ := d.eventSecure_eq s c t <;> rw [e]; exact Dev.raiseM0_limits ..
@[simp] theorem Dev.eventSecure_ctrLatch (d : Dev) (s c t : Nat) : (d.eventSecure s c t).ctrLatch = d.ctrLatch := by obtain ⟨y, ⟨⟨k, l, rfl⟩, -⟩, e | e⟩ := d.eventSecure_eq s c t <;> rw [e]; exact Dev.raiseM0_ctrLatch ..
@[simp] theorem Dev.eventSecure_ctrStage (d : Dev) (s c t : Nat) : (d.eventSecure s c t).ctrStage = d.ctrStage := by obtain ⟨y, ⟨⟨k, l, rfl⟩, -⟩, e | e⟩ := d.eventSecure_eq s c t <;> rw [e]; exact Dev.raiseM0_ctrStage ..
@[simp] theorem Dev.eventSecure_drains (d : Dev) (s c t : Nat) : (d.eventSecure s c t).drains = d.drains := by obtain ⟨y, ⟨⟨k, l, rfl⟩, -⟩, e | e⟩ := d.eventSecure_eq s c t <;> rw [e]; exact Dev.raiseM0_drains ..
@[simp] theorem Dev.eventSecure_supply (d : Dev) (s c t : Nat) : (d.eventSecure s c t).supply = d.supply := by obtain ⟨y, ⟨⟨k, l, rfl⟩, -⟩, e | e⟩ := d.eventSecure_eq s c t <;> rw [e]; exact Dev.raiseM0_supply ..
@[simp] theorem Dev.eventSecure_time (d : Dev) (s c t : Nat) : (d.eventSecure s c t).time = d.time := by obtain ⟨y, ⟨⟨k, l, rfl⟩, -⟩, e | e⟩ := d.eventSecure_eq s c t <;> rw [e]; exact Dev.raiseM0_time ..
@[simp] theorem Dev.eventSecure_d0 (d : Dev) (s c t : Nat) : (d.eventSecure s c t).d0 = d.d0 := by obtain ⟨y, ⟨⟨k, l, rfl⟩, -⟩, e | e⟩ := d.eventSecure_eq s c t <;> rw [e]; exact Dev.raiseM0_d0 ..
@[simp] theorem Dev.eventSecure_sw (d : Dev) (s c t : Nat) : (d.eventSecure s c t).sw = d.sw := by obtain ⟨y, ⟨⟨k, l, rfl⟩, -⟩, e | e⟩ := d.eventSecure_eq s c t <;> rw [e]; exact Dev.raiseM0_sw ..
@[simp] theorem Dev.eventSecure_can (d : Dev) (s c t : Nat) : (d.eventSecure s c t).can = d.can := by obtain ⟨y, ⟨⟨k, l, rfl⟩, -⟩, e | e⟩ := d.eventSecure_eq s c t <;> rw [e]; exact Dev.raiseM0_can ..
@[simp] theorem Dev.eventSecure_sleep (d : Dev) (s c t : Nat) : (d.eventSecure s c t).sleep = d.sleep := by obtain ⟨y, ⟨⟨k, l, rfl⟩, -⟩, e | e⟩ := d.eventSecure_eq s c t <;> rw [e]; exact Dev.raiseM0_sleep ..
@[simp] theorem Dev.eventSecure_power (d : Dev) (s c t : Nat) : (d.eventSecure s c t).power = d.power := by obtain ⟨y, ⟨⟨k, l, rfl⟩, -⟩, e | e⟩ := d.eventSecure_eq s c t <;> rw [e]; exact Dev.raiseM0_power ..
@[simp] theorem Dev.eventSecure_br (d : Dev) (s c t : Nat) : (d.eventSecure s c t).br = d.br := by obtain ⟨y, ⟨⟨k, l, rfl⟩, -⟩, e | e⟩ := d.eventSecure_eq s c t <;> rw [e]; exact Dev.raiseM0_br ..
@[simp] theorem Dev.eventSecure_load (d : Dev) (s c t : Nat) : (d.eventSecure s c t).load = d.load := by obtain ⟨y, ⟨⟨k, l, rfl⟩, -⟩, e | e⟩ := d.eventSecure_eq s c t <;> rw [e]; exact Dev.raiseM0_load ..
@[simp] theorem Dev.eventSecure_adc (d : Dev) (s c t : Nat) : (d.eventSecure s c t).adc = d.adc := by obtain ⟨y, ⟨⟨k, l, rfl⟩, -⟩, e | e⟩ := d.eventSecure_eq s c t <;> rw [e]; exact Dev.raiseM0_adc ..
@[simp] theorem Dev.eventSecure_scan (d : Dev) (s c t : Nat) : (d.eventSecure s c t).scan = d.scan := by obtain ⟨y, ⟨⟨k, l, rfl⟩, -⟩, e | e⟩ := d.eventSecure_eq s c t <;> rw [e]; exact Dev.raiseM0_scan ..
@[simp] theorem Dev.eventSecure_dma (d : Dev) (s c t : Nat) : (d.eventSecure s c t).dma = d.dma := by obtain ⟨y, ⟨⟨k, l, rfl⟩, -⟩, e | e⟩ := d.eventSecure_eq s c t <;> rw [e]; exact Dev.raiseM0_dma ..
@[simp] theorem Dev.eventSecure_tenants (d : Dev) (s c t : Nat) : (d.eventSecure s c t).tenants = d.tenants := by obtain ⟨y, ⟨⟨k, l, rfl⟩, -⟩, e | e⟩ := d.eventSecure_eq s c t <;> rw [e]; exact Dev.raiseM0_tenants ..
@[simp] theorem Dev.eventSecure_mezz (d : Dev) (s c t : Nat) : (d.eventSecure s c t).mezz = d.mezz := by obtain ⟨y, ⟨⟨k, l, rfl⟩, -⟩, e | e⟩ := d.eventSecure_eq s c t <;> rw [e]; exact Dev.raiseM0_mezz ..
@[simp] theorem Dev.eventSecure_clk (d : Dev) (s c t : Nat) : (d.eventSecure s c t).clk = d.clk := by obtain ⟨y, ⟨⟨k, l, rfl⟩, -⟩, e | e⟩ := d.eventSecure_eq s c t <;> rw [e]; exact Dev.raiseM0_clk ..
@[simp] theorem Dev.eventSecure_sto (d : Dev) (s c t : Nat) : (d.eventSecure s c t).sto = d.sto := by obtain ⟨y, ⟨⟨k, l, rfl⟩, -⟩, e | e⟩ := d.eventSecure_eq s c t <;> rw [e]; exact Dev.raiseM0_sto ..
@[simp] theorem Dev.eventSecure_upd (d : Dev) (s c t : Nat) : (d.eventSecure s c t).upd = d.upd := by obtain ⟨y, ⟨⟨k, l, rfl⟩, -⟩, e | e⟩ := d.eventSecure_eq s c t <;> rw [e]; exact Dev.raiseM0_upd ..
@[simp] theorem Dev.eventSecure_held (d : Dev) (s c t : Nat) : (d.eventSecure s c t).held = d.held := by obtain ⟨y, ⟨⟨k, l, rfl⟩, -⟩, e | e⟩ := d.eventSecure_eq s c t <;> rw [e]; exact Dev.raiseM0_held ..
@[simp] theorem Dev.eventSecure_harts (d : Dev) (s c t : Nat) : (d.eventSecure s c t).harts = d.harts := by obtain ⟨y, ⟨⟨k, l, rfl⟩, -⟩, e | e⟩ := d.eventSecure_eq s c t <;> rw [e]; exact Dev.raiseM0_harts ..
@[simp] theorem Dev.eventSecure_twin (d : Dev) (s c t : Nat) : (d.eventSecure s c t).twin = d.twin := by obtain ⟨y, ⟨⟨k, l, rfl⟩, -⟩, e | e⟩ := d.eventSecure_eq s c t <;> rw [e]; exact Dev.raiseM0_twin ..
@[simp] theorem Dev.eventSecure_board (d : Dev) (s c t : Nat) : (d.eventSecure s c t).board = d.board := by obtain ⟨y, ⟨⟨k, l, rfl⟩, -⟩, e | e⟩ := d.eventSecure_eq s c t <;> rw [e]; exact Dev.raiseM0_board ..

@[simp] theorem Dev.eventBoth_blobs (d : Dev) (s c t : Nat) : (d.eventBoth s c t).blobs = d.blobs := by simp [Dev.eventBoth]
@[simp] theorem Dev.eventBoth_mem (d : Dev) (s c t : Nat) : (d.eventBoth s c t).mem = d.mem := by simp [Dev.eventBoth]
@[simp] theorem Dev.eventBoth_epochs (d : Dev) (s c t : Nat) : (d.eventBoth s c t).epochs = d.epochs := by simp [Dev.eventBoth]
@[simp] theorem Dev.eventBoth_free (d : Dev) (s c t : Nat) : (d.eventBoth s c t).free = d.free := by simp [Dev.eventBoth]
@[simp] theorem Dev.eventBoth_out (d : Dev) (s c t : Nat) : (d.eventBoth s c t).out = d.out := by simp [Dev.eventBoth]
@[simp] theorem Dev.eventBoth_limits (d : Dev) (s c t : Nat) : (d.eventBoth s c t).limits = d.limits := by simp [Dev.eventBoth]
@[simp] theorem Dev.eventBoth_ctrLatch (d : Dev) (s c t : Nat) : (d.eventBoth s c t).ctrLatch = d.ctrLatch := by simp [Dev.eventBoth]
@[simp] theorem Dev.eventBoth_ctrStage (d : Dev) (s c t : Nat) : (d.eventBoth s c t).ctrStage = d.ctrStage := by simp [Dev.eventBoth]
@[simp] theorem Dev.eventBoth_drains (d : Dev) (s c t : Nat) : (d.eventBoth s c t).drains = d.drains := by simp [Dev.eventBoth]
@[simp] theorem Dev.eventBoth_supply (d : Dev) (s c t : Nat) : (d.eventBoth s c t).supply = d.supply := by simp [Dev.eventBoth]
@[simp] theorem Dev.eventBoth_time (d : Dev) (s c t : Nat) : (d.eventBoth s c t).time = d.time := by simp [Dev.eventBoth]
@[simp] theorem Dev.eventBoth_d0 (d : Dev) (s c t : Nat) : (d.eventBoth s c t).d0 = d.d0 := by simp [Dev.eventBoth]
@[simp] theorem Dev.eventBoth_sw (d : Dev) (s c t : Nat) : (d.eventBoth s c t).sw = d.sw := by simp [Dev.eventBoth]
@[simp] theorem Dev.eventBoth_can (d : Dev) (s c t : Nat) : (d.eventBoth s c t).can = d.can := by simp [Dev.eventBoth]
@[simp] theorem Dev.eventBoth_sleep (d : Dev) (s c t : Nat) : (d.eventBoth s c t).sleep = d.sleep := by simp [Dev.eventBoth]
@[simp] theorem Dev.eventBoth_power (d : Dev) (s c t : Nat) : (d.eventBoth s c t).power = d.power := by simp [Dev.eventBoth]
@[simp] theorem Dev.eventBoth_br (d : Dev) (s c t : Nat) : (d.eventBoth s c t).br = d.br := by simp [Dev.eventBoth]
@[simp] theorem Dev.eventBoth_load (d : Dev) (s c t : Nat) : (d.eventBoth s c t).load = d.load := by simp [Dev.eventBoth]
@[simp] theorem Dev.eventBoth_adc (d : Dev) (s c t : Nat) : (d.eventBoth s c t).adc = d.adc := by simp [Dev.eventBoth]
@[simp] theorem Dev.eventBoth_scan (d : Dev) (s c t : Nat) : (d.eventBoth s c t).scan = d.scan := by simp [Dev.eventBoth]
@[simp] theorem Dev.eventBoth_dma (d : Dev) (s c t : Nat) : (d.eventBoth s c t).dma = d.dma := by simp [Dev.eventBoth]
@[simp] theorem Dev.eventBoth_tenants (d : Dev) (s c t : Nat) : (d.eventBoth s c t).tenants = d.tenants := by simp [Dev.eventBoth]
@[simp] theorem Dev.eventBoth_mezz (d : Dev) (s c t : Nat) : (d.eventBoth s c t).mezz = d.mezz := by simp [Dev.eventBoth]
@[simp] theorem Dev.eventBoth_clk (d : Dev) (s c t : Nat) : (d.eventBoth s c t).clk = d.clk := by simp [Dev.eventBoth]
@[simp] theorem Dev.eventBoth_sto (d : Dev) (s c t : Nat) : (d.eventBoth s c t).sto = d.sto := by simp [Dev.eventBoth]
@[simp] theorem Dev.eventBoth_upd (d : Dev) (s c t : Nat) : (d.eventBoth s c t).upd = d.upd := by simp [Dev.eventBoth]
@[simp] theorem Dev.eventBoth_held (d : Dev) (s c t : Nat) : (d.eventBoth s c t).held = d.held := by simp [Dev.eventBoth]
@[simp] theorem Dev.eventBoth_harts (d : Dev) (s c t : Nat) : (d.eventBoth s c t).harts = d.harts := by simp [Dev.eventBoth]
@[simp] theorem Dev.eventBoth_twin (d : Dev) (s c t : Nat) : (d.eventBoth s c t).twin = d.twin := by simp [Dev.eventBoth]
@[simp] theorem Dev.eventBoth_board (d : Dev) (s c t : Nat) : (d.eventBoth s c t).board = d.board := by simp [Dev.eventBoth]

theorem Dev.cure_dict (d : Dev) (a n : Nat) : (d.cure a n).dict = d.dict := by unfold Dev.cure; split <;> rfl
theorem Dev.touch_dict (d : Dev) (a n : Nat) : (d.touch a n).dict = d.dict := by unfold Dev.touch; split <;> rfl
theorem Dev.cure_blobs (d : Dev) (a n : Nat) : (d.cure a n).blobs = d.blobs := by unfold Dev.cure; split <;> rfl
theorem Dev.touch_blobs (d : Dev) (a n : Nat) : (d.touch a n).blobs = d.blobs := by unfold Dev.touch; split <;> rfl
theorem Dev.cure_regs (d : Dev) (a n : Nat) : (d.cure a n).regs = d.regs := by unfold Dev.cure; split <;> rfl
theorem Dev.touch_regs (d : Dev) (a n : Nat) : (d.touch a n).regs = d.regs := by unfold Dev.touch; split <;> rfl
theorem Dev.cure_epochs (d : Dev) (a n : Nat) : (d.cure a n).epochs = d.epochs := by unfold Dev.cure; split <;> rfl
theorem Dev.touch_epochs (d : Dev) (a n : Nat) : (d.touch a n).epochs = d.epochs := by unfold Dev.touch; split <;> rfl
theorem Dev.cure_free (d : Dev) (a n : Nat) : (d.cure a n).free = d.free := by unfold Dev.cure; split <;> rfl
theorem Dev.touch_free (d : Dev) (a n : Nat) : (d.touch a n).free = d.free := by unfold Dev.touch; split <;> rfl
theorem Dev.cure_out (d : Dev) (a n : Nat) : (d.cure a n).out = d.out := by unfold Dev.cure; split <;> rfl
theorem Dev.touch_out (d : Dev) (a n : Nat) : (d.touch a n).out = d.out := by unfold Dev.touch; split <;> rfl
theorem Dev.cure_logs (d : Dev) (a n : Nat) : (d.cure a n).logs = d.logs := by unfold Dev.cure; split <;> rfl
theorem Dev.touch_logs (d : Dev) (a n : Nat) : (d.touch a n).logs = d.logs := by unfold Dev.touch; split <;> rfl
theorem Dev.cure_limits (d : Dev) (a n : Nat) : (d.cure a n).limits = d.limits := by unfold Dev.cure; split <;> rfl
theorem Dev.touch_limits (d : Dev) (a n : Nat) : (d.touch a n).limits = d.limits := by unfold Dev.touch; split <;> rfl
theorem Dev.cure_ctrLatch (d : Dev) (a n : Nat) : (d.cure a n).ctrLatch = d.ctrLatch := by unfold Dev.cure; split <;> rfl
theorem Dev.touch_ctrLatch (d : Dev) (a n : Nat) : (d.touch a n).ctrLatch = d.ctrLatch := by unfold Dev.touch; split <;> rfl
theorem Dev.cure_ctrStage (d : Dev) (a n : Nat) : (d.cure a n).ctrStage = d.ctrStage := by unfold Dev.cure; split <;> rfl
theorem Dev.touch_ctrStage (d : Dev) (a n : Nat) : (d.touch a n).ctrStage = d.ctrStage := by unfold Dev.touch; split <;> rfl
theorem Dev.cure_drains (d : Dev) (a n : Nat) : (d.cure a n).drains = d.drains := by unfold Dev.cure; split <;> rfl
theorem Dev.touch_drains (d : Dev) (a n : Nat) : (d.touch a n).drains = d.drains := by unfold Dev.touch; split <;> rfl
theorem Dev.cure_supply (d : Dev) (a n : Nat) : (d.cure a n).supply = d.supply := by unfold Dev.cure; split <;> rfl
theorem Dev.touch_supply (d : Dev) (a n : Nat) : (d.touch a n).supply = d.supply := by unfold Dev.touch; split <;> rfl
theorem Dev.cure_time (d : Dev) (a n : Nat) : (d.cure a n).time = d.time := by unfold Dev.cure; split <;> rfl
theorem Dev.touch_time (d : Dev) (a n : Nat) : (d.touch a n).time = d.time := by unfold Dev.touch; split <;> rfl
theorem Dev.cure_d0 (d : Dev) (a n : Nat) : (d.cure a n).d0 = d.d0 := by unfold Dev.cure; split <;> rfl
theorem Dev.touch_d0 (d : Dev) (a n : Nat) : (d.touch a n).d0 = d.d0 := by unfold Dev.touch; split <;> rfl
theorem Dev.cure_sw (d : Dev) (a n : Nat) : (d.cure a n).sw = d.sw := by unfold Dev.cure; split <;> rfl
theorem Dev.touch_sw (d : Dev) (a n : Nat) : (d.touch a n).sw = d.sw := by unfold Dev.touch; split <;> rfl
theorem Dev.cure_can (d : Dev) (a n : Nat) : (d.cure a n).can = d.can := by unfold Dev.cure; split <;> rfl
theorem Dev.touch_can (d : Dev) (a n : Nat) : (d.touch a n).can = d.can := by unfold Dev.touch; split <;> rfl
theorem Dev.cure_sleep (d : Dev) (a n : Nat) : (d.cure a n).sleep = d.sleep := by unfold Dev.cure; split <;> rfl
theorem Dev.touch_sleep (d : Dev) (a n : Nat) : (d.touch a n).sleep = d.sleep := by unfold Dev.touch; split <;> rfl
theorem Dev.cure_power (d : Dev) (a n : Nat) : (d.cure a n).power = d.power := by unfold Dev.cure; split <;> rfl
theorem Dev.touch_power (d : Dev) (a n : Nat) : (d.touch a n).power = d.power := by unfold Dev.touch; split <;> rfl
theorem Dev.cure_br (d : Dev) (a n : Nat) : (d.cure a n).br = d.br := by unfold Dev.cure; split <;> rfl
theorem Dev.touch_br (d : Dev) (a n : Nat) : (d.touch a n).br = d.br := by unfold Dev.touch; split <;> rfl
theorem Dev.cure_load (d : Dev) (a n : Nat) : (d.cure a n).load = d.load := by unfold Dev.cure; split <;> rfl
theorem Dev.touch_load (d : Dev) (a n : Nat) : (d.touch a n).load = d.load := by unfold Dev.touch; split <;> rfl
theorem Dev.cure_adc (d : Dev) (a n : Nat) : (d.cure a n).adc = d.adc := by unfold Dev.cure; split <;> rfl
theorem Dev.touch_adc (d : Dev) (a n : Nat) : (d.touch a n).adc = d.adc := by unfold Dev.touch; split <;> rfl
theorem Dev.cure_scan (d : Dev) (a n : Nat) : (d.cure a n).scan = d.scan := by unfold Dev.cure; split <;> rfl
theorem Dev.touch_scan (d : Dev) (a n : Nat) : (d.touch a n).scan = d.scan := by unfold Dev.touch; split <;> rfl
theorem Dev.cure_mezz (d : Dev) (a n : Nat) : (d.cure a n).mezz = d.mezz := by unfold Dev.cure; split <;> rfl
theorem Dev.touch_mezz (d : Dev) (a n : Nat) : (d.touch a n).mezz = d.mezz := by unfold Dev.touch; split <;> rfl
theorem Dev.cure_clk (d : Dev) (a n : Nat) : (d.cure a n).clk = d.clk := by unfold Dev.cure; split <;> rfl
theorem Dev.touch_clk (d : Dev) (a n : Nat) : (d.touch a n).clk = d.clk := by unfold Dev.touch; split <;> rfl
theorem Dev.cure_sto (d : Dev) (a n : Nat) : (d.cure a n).sto = d.sto := by unfold Dev.cure; split <;> rfl
theorem Dev.touch_sto (d : Dev) (a n : Nat) : (d.touch a n).sto = d.sto := by unfold Dev.touch; split <;> rfl
theorem Dev.cure_upd (d : Dev) (a n : Nat) : (d.cure a n).upd = d.upd := by unfold Dev.cure; split <;> rfl
theorem Dev.touch_upd (d : Dev) (a n : Nat) : (d.touch a n).upd = d.upd := by unfold Dev.touch; split <;> rfl
theorem Dev.cure_held (d : Dev) (a n : Nat) : (d.cure a n).held = d.held := by unfold Dev.cure; split <;> rfl
theorem Dev.touch_held (d : Dev) (a n : Nat) : (d.touch a n).held = d.held := by unfold Dev.touch; split <;> rfl
theorem Dev.cure_harts (d : Dev) (a n : Nat) : (d.cure a n).harts = d.harts := by unfold Dev.cure; split <;> rfl
theorem Dev.touch_harts (d : Dev) (a n : Nat) : (d.touch a n).harts = d.harts := by unfold Dev.touch; split <;> rfl
theorem Dev.cure_twin (d : Dev) (a n : Nat) : (d.cure a n).twin = d.twin := by unfold Dev.cure; split <;> rfl
theorem Dev.touch_twin (d : Dev) (a n : Nat) : (d.touch a n).twin = d.twin := by unfold Dev.touch; split <;> rfl
theorem Dev.cure_board (d : Dev) (a n : Nat) : (d.cure a n).board = d.board := by unfold Dev.cure; split <;> rfl
theorem Dev.touch_board (d : Dev) (a n : Nat) : (d.touch a n).board = d.board := by unfold Dev.touch; split <;> rfl

theorem Dev.putBytes_keeps_dict (b : Bytes) (d : Dev) (a : Nat) : (d.putBytes a b).dict = d.dict := by
  induction b generalizing d a with
  | nil => rfl
  | cons c r ih => exact (ih (d.setByte a c) (a + 1)).trans rfl
theorem Dev.putBytes_keeps_blobs (b : Bytes) (d : Dev) (a : Nat) : (d.putBytes a b).blobs = d.blobs := by
  induction b generalizing d a with
  | nil => rfl
  | cons c r ih => exact (ih (d.setByte a c) (a + 1)).trans rfl
theorem Dev.putBytes_keeps_regs (b : Bytes) (d : Dev) (a : Nat) : (d.putBytes a b).regs = d.regs := by
  induction b generalizing d a with
  | nil => rfl
  | cons c r ih => exact (ih (d.setByte a c) (a + 1)).trans rfl
theorem Dev.putBytes_keeps_epochs (b : Bytes) (d : Dev) (a : Nat) : (d.putBytes a b).epochs = d.epochs := by
  induction b generalizing d a with
  | nil => rfl
  | cons c r ih => exact (ih (d.setByte a c) (a + 1)).trans rfl
theorem Dev.putBytes_keeps_free (b : Bytes) (d : Dev) (a : Nat) : (d.putBytes a b).free = d.free := by
  induction b generalizing d a with
  | nil => rfl
  | cons c r ih => exact (ih (d.setByte a c) (a + 1)).trans rfl
theorem Dev.putBytes_keeps_out (b : Bytes) (d : Dev) (a : Nat) : (d.putBytes a b).out = d.out := by
  induction b generalizing d a with
  | nil => rfl
  | cons c r ih => exact (ih (d.setByte a c) (a + 1)).trans rfl
theorem Dev.putBytes_keeps_logs (b : Bytes) (d : Dev) (a : Nat) : (d.putBytes a b).logs = d.logs := by
  induction b generalizing d a with
  | nil => rfl
  | cons c r ih => exact (ih (d.setByte a c) (a + 1)).trans rfl
theorem Dev.putBytes_keeps_limits (b : Bytes) (d : Dev) (a : Nat) : (d.putBytes a b).limits = d.limits := by
  induction b generalizing d a with
  | nil => rfl
  | cons c r ih => exact (ih (d.setByte a c) (a + 1)).trans rfl
theorem Dev.putBytes_keeps_ctrLatch (b : Bytes) (d : Dev) (a : Nat) : (d.putBytes a b).ctrLatch = d.ctrLatch := by
  induction b generalizing d a with
  | nil => rfl
  | cons c r ih => exact (ih (d.setByte a c) (a + 1)).trans rfl
theorem Dev.putBytes_keeps_ctrStage (b : Bytes) (d : Dev) (a : Nat) : (d.putBytes a b).ctrStage = d.ctrStage := by
  induction b generalizing d a with
  | nil => rfl
  | cons c r ih => exact (ih (d.setByte a c) (a + 1)).trans rfl
theorem Dev.putBytes_keeps_drains (b : Bytes) (d : Dev) (a : Nat) : (d.putBytes a b).drains = d.drains := by
  induction b generalizing d a with
  | nil => rfl
  | cons c r ih => exact (ih (d.setByte a c) (a + 1)).trans rfl
theorem Dev.putBytes_keeps_supply (b : Bytes) (d : Dev) (a : Nat) : (d.putBytes a b).supply = d.supply := by
  induction b generalizing d a with
  | nil => rfl
  | cons c r ih => exact (ih (d.setByte a c) (a + 1)).trans rfl
theorem Dev.putBytes_keeps_time (b : Bytes) (d : Dev) (a : Nat) : (d.putBytes a b).time = d.time := by
  induction b generalizing d a with
  | nil => rfl
  | cons c r ih => exact (ih (d.setByte a c) (a + 1)).trans rfl
theorem Dev.putBytes_keeps_d0 (b : Bytes) (d : Dev) (a : Nat) : (d.putBytes a b).d0 = d.d0 := by
  induction b generalizing d a with
  | nil => rfl
  | cons c r ih => exact (ih (d.setByte a c) (a + 1)).trans rfl
theorem Dev.putBytes_keeps_sw (b : Bytes) (d : Dev) (a : Nat) : (d.putBytes a b).sw = d.sw := by
  induction b generalizing d a with
  | nil => rfl
  | cons c r ih => exact (ih (d.setByte a c) (a + 1)).trans rfl
theorem Dev.putBytes_keeps_can (b : Bytes) (d : Dev) (a : Nat) : (d.putBytes a b).can = d.can := by
  induction b generalizing d a with
  | nil => rfl
  | cons c r ih => exact (ih (d.setByte a c) (a + 1)).trans rfl
theorem Dev.putBytes_keeps_sleep (b : Bytes) (d : Dev) (a : Nat) : (d.putBytes a b).sleep = d.sleep := by
  induction b generalizing d a with
  | nil => rfl
  | cons c r ih => exact (ih (d.setByte a c) (a + 1)).trans rfl
theorem Dev.putBytes_keeps_power (b : Bytes) (d : Dev) (a : Nat) : (d.putBytes a b).power = d.power := by
  induction b generalizing d a with
  | nil => rfl
  | cons c r ih => exact (ih (d.setByte a c) (a + 1)).trans rfl
theorem Dev.putBytes_keeps_br (b : Bytes) (d : Dev) (a : Nat) : (d.putBytes a b).br = d.br := by
  induction b generalizing d a with
  | nil => rfl
  | cons c r ih => exact (ih (d.setByte a c) (a + 1)).trans rfl
theorem Dev.putBytes_keeps_load (b : Bytes) (d : Dev) (a : Nat) : (d.putBytes a b).load = d.load := by
  induction b generalizing d a with
  | nil => rfl
  | cons c r ih => exact (ih (d.setByte a c) (a + 1)).trans rfl
theorem Dev.putBytes_keeps_adc (b : Bytes) (d : Dev) (a : Nat) : (d.putBytes a b).adc = d.adc := by
  induction b generalizing d a with
  | nil => rfl
  | cons c r ih => exact (ih (d.setByte a c) (a + 1)).trans rfl
theorem Dev.putBytes_keeps_scan (b : Bytes) (d : Dev) (a : Nat) : (d.putBytes a b).scan = d.scan := by
  induction b generalizing d a with
  | nil => rfl
  | cons c r ih => exact (ih (d.setByte a c) (a + 1)).trans rfl
theorem Dev.putBytes_keeps_dma (b : Bytes) (d : Dev) (a : Nat) : (d.putBytes a b).dma = d.dma := by
  induction b generalizing d a with
  | nil => rfl
  | cons c r ih => exact (ih (d.setByte a c) (a + 1)).trans rfl
theorem Dev.putBytes_keeps_tenants (b : Bytes) (d : Dev) (a : Nat) : (d.putBytes a b).tenants = d.tenants := by
  induction b generalizing d a with
  | nil => rfl
  | cons c r ih => exact (ih (d.setByte a c) (a + 1)).trans rfl
theorem Dev.putBytes_keeps_mezz (b : Bytes) (d : Dev) (a : Nat) : (d.putBytes a b).mezz = d.mezz := by
  induction b generalizing d a with
  | nil => rfl
  | cons c r ih => exact (ih (d.setByte a c) (a + 1)).trans rfl
theorem Dev.putBytes_keeps_clk (b : Bytes) (d : Dev) (a : Nat) : (d.putBytes a b).clk = d.clk := by
  induction b generalizing d a with
  | nil => rfl
  | cons c r ih => exact (ih (d.setByte a c) (a + 1)).trans rfl
theorem Dev.putBytes_keeps_sto (b : Bytes) (d : Dev) (a : Nat) : (d.putBytes a b).sto = d.sto := by
  induction b generalizing d a with
  | nil => rfl
  | cons c r ih => exact (ih (d.setByte a c) (a + 1)).trans rfl
theorem Dev.putBytes_keeps_upd (b : Bytes) (d : Dev) (a : Nat) : (d.putBytes a b).upd = d.upd := by
  induction b generalizing d a with
  | nil => rfl
  | cons c r ih => exact (ih (d.setByte a c) (a + 1)).trans rfl
theorem Dev.putBytes_keeps_held (b : Bytes) (d : Dev) (a : Nat) : (d.putBytes a b).held = d.held := by
  induction b generalizing d a with
  | nil => rfl
  | cons c r ih => exact (ih (d.setByte a c) (a + 1)).trans rfl
theorem Dev.putBytes_keeps_harts (b : Bytes) (d : Dev) (a : Nat) : (d.putBytes a b).harts = d.harts := by
  induction b generalizing d a with
  | nil => rfl
  | cons c r ih => exact (ih (d.setByte a c) (a + 1)).trans rfl
theorem Dev.putBytes_keeps_twin (b : Bytes) (d : Dev) (a : Nat) : (d.putBytes a b).twin = d.twin := by
  induction b generalizing d a with
  | nil => rfl
  | cons c r ih => exact (ih (d.setByte a c) (a + 1)).trans rfl
theorem Dev.putBytes_keeps_board (b : Bytes) (d : Dev) (a : Nat) : (d.putBytes a b).board = d.board := by
  induction b generalizing d a with
  | nil => rfl
  | cons c r ih => exact (ih (d.setByte a c) (a + 1)).trans rfl

@[simp] theorem Dev.writeMem_dict (d : Dev) (a : Nat) (b : Bytes) : (d.writeMem a b).dict = d.dict := by rw [Dev.writeMem, Dev.touch_dict, Dev.cure_dict, Dev.putBytes_keeps_dict]
@[simp] theorem Dev.writeMem_blobs (d : Dev) (a : Nat) (b : Bytes) : (d.writeMem a b).blobs = d.blobs := by rw [Dev.writeMem, Dev.touch_blobs, Dev.cure_blobs, Dev.putBytes_keeps_blobs]
@[simp] theorem Dev.writeMem_regs (d : Dev) (a : Nat) (b : Bytes) : (d.writeMem a b).regs = d.regs := by rw [Dev.writeMem, Dev.touch_regs, Dev.cure_regs, Dev.putBytes_keeps_regs]
@[simp] theorem Dev.writeMem_epochs (d : Dev) (a : Nat) (b : Bytes) : (d.writeMem a b).epochs = d.epochs := by rw [Dev.writeMem, Dev.touch_epochs, Dev.cure_epochs, Dev.putBytes_keeps_epochs]
@[simp] theorem Dev.writeMem_free (d : Dev) (a : Nat) (b : Bytes) : (d.writeMem a b).free = d.free := by rw [Dev.writeMem, Dev.touch_free, Dev.cure_free, Dev.putBytes_keeps_free]
@[simp] theorem Dev.writeMem_out (d : Dev) (a : Nat) (b : Bytes) : (d.writeMem a b).out = d.out := by rw [Dev.writeMem, Dev.touch_out, Dev.cure_out, Dev.putBytes_keeps_out]
@[simp] theorem Dev.writeMem_logs (d : Dev) (a : Nat) (b : Bytes) : (d.writeMem a b).logs = d.logs := by rw [Dev.writeMem, Dev.touch_logs, Dev.cure_logs, Dev.putBytes_keeps_logs]
@[simp] theorem Dev.writeMem_limits (d : Dev) (a : Nat) (b : Bytes) : (d.writeMem a b).limits = d.limits := by rw [Dev.writeMem, Dev.touch_limits, Dev.cure_limits, Dev.putBytes_keeps_limits]
@[simp] theorem Dev.writeMem_ctrLatch (d : Dev) (a : Nat) (b : Bytes) : (d.writeMem a b).ctrLatch = d.ctrLatch := by rw [Dev.writeMem, Dev.touch_ctrLatch, Dev.cure_ctrLatch, Dev.putBytes_keeps_ctrLatch]
@[simp] theorem Dev.writeMem_ctrStage (d : Dev) (a : Nat) (b : Bytes) : (d.writeMem a b).ctrStage = d.ctrStage := by rw [Dev.writeMem, Dev.touch_ctrStage, Dev.cure_ctrStage, Dev.putBytes_keeps_ctrStage]
@[simp] theorem Dev.writeMem_drains (d : Dev) (a : Nat) (b : Bytes) : (d.writeMem a b).drains = d.drains := by rw [Dev.writeMem, Dev.touch_drains, Dev.cure_drains, Dev.putBytes_keeps_drains]
@[simp] theorem Dev.writeMem_supply (d : Dev) (a : Nat) (b : Bytes) : (d.writeMem a b).supply = d.supply := by rw [Dev.writeMem, Dev.touch_supply, Dev.cure_supply, Dev.putBytes_keeps_supply]
@[simp] theorem Dev.writeMem_time (d : Dev) (a : Nat) (b : Bytes) : (d.writeMem a b).time = d.time := by rw [Dev.writeMem, Dev.touch_time, Dev.cure_time, Dev.putBytes_keeps_time]
@[simp] theorem Dev.writeMem_d0 (d : Dev) (a : Nat) (b : Bytes) : (d.writeMem a b).d0 = d.d0 := by rw [Dev.writeMem, Dev.touch_d0, Dev.cure_d0, Dev.putBytes_keeps_d0]
@[simp] theorem Dev.writeMem_sw (d : Dev) (a : Nat) (b : Bytes) : (d.writeMem a b).sw = d.sw := by rw [Dev.writeMem, Dev.touch_sw, Dev.cure_sw, Dev.putBytes_keeps_sw]
@[simp] theorem Dev.writeMem_can (d : Dev) (a : Nat) (b : Bytes) : (d.writeMem a b).can = d.can := by rw [Dev.writeMem, Dev.touch_can, Dev.cure_can, Dev.putBytes_keeps_can]
@[simp] theorem Dev.writeMem_sleep (d : Dev) (a : Nat) (b : Bytes) : (d.writeMem a b).sleep = d.sleep := by rw [Dev.writeMem, Dev.touch_sleep, Dev.cure_sleep, Dev.putBytes_keeps_sleep]
@[simp] theorem Dev.writeMem_power (d : Dev) (a : Nat) (b : Bytes) : (d.writeMem a b).power = d.power := by rw [Dev.writeMem, Dev.touch_power, Dev.cure_power, Dev.putBytes_keeps_power]
@[simp] theorem Dev.writeMem_br (d : Dev) (a : Nat) (b : Bytes) : (d.writeMem a b).br = d.br := by rw [Dev.writeMem, Dev.touch_br, Dev.cure_br, Dev.putBytes_keeps_br]
@[simp] theorem Dev.writeMem_load (d : Dev) (a : Nat) (b : Bytes) : (d.writeMem a b).load = d.load := by rw [Dev.writeMem, Dev.touch_load, Dev.cure_load, Dev.putBytes_keeps_load]
@[simp] theorem Dev.writeMem_adc (d : Dev) (a : Nat) (b : Bytes) : (d.writeMem a b).adc = d.adc := by rw [Dev.writeMem, Dev.touch_adc, Dev.cure_adc, Dev.putBytes_keeps_adc]
@[simp] theorem Dev.writeMem_scan (d : Dev) (a : Nat) (b : Bytes) : (d.writeMem a b).scan = d.scan := by rw [Dev.writeMem, Dev.touch_scan, Dev.cure_scan, Dev.putBytes_keeps_scan]
@[simp] theorem Dev.writeMem_mezz (d : Dev) (a : Nat) (b : Bytes) : (d.writeMem a b).mezz = d.mezz := by rw [Dev.writeMem, Dev.touch_mezz, Dev.cure_mezz, Dev.putBytes_keeps_mezz]
@[simp] theorem Dev.writeMem_clk (d : Dev) (a : Nat) (b : Bytes) : (d.writeMem a b).clk = d.clk := by rw [Dev.writeMem, Dev.touch_clk, Dev.cure_clk, Dev.putBytes_keeps_clk]
@[simp] theorem Dev.writeMem_sto (d : Dev) (a : Nat) (b : Bytes) : (d.writeMem a b).sto = d.sto := by rw [Dev.writeMem, Dev.touch_sto, Dev.cure_sto, Dev.putBytes_keeps_sto]
@[simp] theorem Dev.writeMem_upd (d : Dev) (a : Nat) (b : Bytes) : (d.writeMem a b).upd = d.upd := by rw [Dev.writeMem, Dev.touch_upd, Dev.cure_upd, Dev.putBytes_keeps_upd]
@[simp] theorem Dev.writeMem_held (d : Dev) (a : Nat) (b : Bytes) : (d.writeMem a b).held = d.held := by rw [Dev.writeMem, Dev.touch_held, Dev.cure_held, Dev.putBytes_keeps_held]
@[simp] theorem Dev.writeMem_harts (d : Dev) (a : Nat) (b : Bytes) : (d.writeMem a b).harts = d.harts := by rw [Dev.writeMem, Dev.touch_harts, Dev.cure_harts, Dev.putBytes_keeps_harts]
@[simp] theorem Dev.writeMem_twin (d : Dev) (a : Nat) (b : Bytes) : (d.writeMem a b).twin = d.twin := by rw [Dev.writeMem, Dev.touch_twin, Dev.cure_twin, Dev.putBytes_keeps_twin]
@[simp] theorem Dev.writeMem_board (d : Dev) (a : Nat) (b : Bytes) : (d.writeMem a b).board = d.board := by rw [Dev.writeMem, Dev.touch_board, Dev.cure_board, Dev.putBytes_keeps_board]

/-! ### Entries and register words that events leave alone -/

theorem Dev.event_kv (d : Dev) (s c t : Nat) (x : Option Bytes) {v k : Nat} (l : k ∉ logKeys) : KV.get v k (d.event s c t x).dict = KV.get v k d.dict :=
  (Dev.event_loggedAt d s c t x).2 v k l
theorem Dev.eventSys_kv (d : Dev) (i s c t : Nat) (x : Option Bytes) {v k : Nat} (l : k ∉ logKeys) :
    KV.get v k (d.eventSys i s c t x).dict = KV.get v k d.dict := by
  rw [Dev.eventSys, Dev.sysIrq_dict]; exact Dev.event_kv d s c t x l
theorem Dev.eventSecure_kv (d : Dev) (s c t : Nat) {v k : Nat} (l : k ∉ logKeys) : KV.get v k (d.eventSecure s c t).dict = KV.get v k d.dict := by
  obtain ⟨y, h, e | e⟩ := d.eventSecure_eq s c t <;> rw [e]
  · exact h.2 v k l
  · rw [Dev.raiseM0_dict]; exact h.2 v k l
theorem Dev.eventBoth_kv (d : Dev) (s c t : Nat) {v k : Nat} (l : k ∉ logKeys) : KV.get v k (d.eventBoth s c t).dict = KV.get v k d.dict :=
  (Dev.eventSecure_kv _ s c t l).trans (Dev.event_kv d s c t none l)

theorem Dev.event_get (d : Dev) (s c t : Nat) (x : Option Bytes) {e : Entry} (l : e.key ∉ logKeys) : (d.event s c t x).get e = d.get e :=
  Dev.event_kv d s c t x l
theorem Dev.eventSys_get (d : Dev) (i s c t : Nat) (x : Option Bytes) {e : Entry} (l : e.key ∉ logKeys) :
    (d.eventSys i s c t x).get e = d.get e := Dev.eventSys_kv d i s c t x l
theorem Dev.eventSecure_get (d : Dev) (s c t : Nat) {e : Entry} (l : e.key ∉ logKeys) : (d.eventSecure s c t).get e = d.get e :=
  Dev.eventSecure_kv d s c t l
theorem Dev.eventBoth_get (d : Dev) (s c t : Nat) {e : Entry} (l : e.key ∉ logKeys) : (d.eventBoth s c t).get e = d.get e :=
  Dev.eventBoth_kv d s c t l
theorem Dev.count_get_same (d : Dev) (e s : Entry) (b q n : Nat) (w : e.bits = 64) (g : e.key ≠ s.key) (l : e.key ∉ logKeys) :
    (d.count (ctr e s b q) n).get e = min (d.get e + n) (2 ^ 64 - 1) := Dev.count_same d (ctr e s b q) n w g l
theorem Dev.count_get_other (d : Dev) (e s : Entry) (b q n : Nat) {y : Entry} (h : y.key ≠ e.key) (g : y.key ≠ s.key) (l : y.key ∉ logKeys) :
    (d.count (ctr e s b q) n).get y = d.get y := Dev.count_get d (ctr e s b q) n y.dflt y.key h g l
@[simp] theorem Dev.event_fld (d : Dev) (s c t : Nat) (x : Option Bytes) (f : Field) : (d.event s c t x).fld f = d.fld f := by
  simp only [Dev.fld, Dev.word, Dev.event_regs]
@[simp] theorem Dev.count_fld (d : Dev) (c : Counter) (n : Nat) (f : Field) : (d.count c n).fld f = d.fld f := by
  simp only [Dev.fld, Dev.word, Dev.count_regs]
@[simp] theorem Dev.raise_get (d : Dev) (n : Nat) (e : Entry) : (d.raise n).get e = d.get e := Dev.get_setFld ..
@[simp] theorem Dev.raiseM0_get (d : Dev) (n : Nat) (e : Entry) : (d.raiseM0 n).get e = d.get e := Dev.get_setFld ..
@[simp] theorem Dev.sysIrq_get (d : Dev) (i b : Nat) (e : Entry) : (d.sysIrq i b).get e = d.get e := Dev.get_setFld ..
@[simp] theorem Dev.draw_get (d : Dev) (w : Nat) (e : Entry) : (d.draw w).2.get e = d.get e := rfl
@[simp] theorem Dev.draw_fld (d : Dev) (w : Nat) (f : Field) : (d.draw w).2.fld f = d.fld f := rfl

end Sys2Proof.Machine
end

