-- ==== Sys2Proof/Laws/Frame.lean ====
section
/-! SUPPORT. What may change, put together: the laws of `Only`, one for each way in which a device is built from another, and the families of the
entries, register words and counters that the operations write. -/

namespace Sys2Proof

open Sys2Proof.Machine

def Part.same (a b : Part) : Bool := decide (a = b)
def Fam.same (f g : Fam) : Bool := Nat.beq f.base g.base && (Nat.beq f.s1 g.s1 && (Nat.beq f.s2 g.s2 && Nat.beq f.s3 g.s3))
def Part.isIn (p : Part) (l : List Part) : Bool := l.any p.same
def Fam.isIn (f : Fam) (l : List Fam) : Bool := l.any f.same
def Foot.le (F G : Foot) : Bool :=
  (F.parts.all fun p => p.isIn G.parts) &&
  ((Part.isIn .dict G.parts && Part.isIn .blobs G.parts) || F.ents.all fun f => f.isIn G.ents) &&
  (Part.isIn .regs G.parts || F.words.all fun f => f.isIn G.words)

theorem Part.isIn_mem {p : Part} {l : List Part} (h : p.isIn l = true) : p ∈ l := by
  obtain ⟨q, m, e⟩ := List.any_eq_true.1 h
  exact of_decide_eq_true e ▸ m

theorem Fam.isIn_mem {f : Fam} {l : List Fam} (h : f.isIn l = true) : f ∈ l := by
  obtain ⟨g, m, e⟩ := List.any_eq_true.1 h
  simp only [Fam.same, Bool.and_eq_true, Nat.beq_eq] at e
  obtain ⟨e1, e2, e3, e4⟩ := e
  have : f = g := by cases f; cases g; simp_all
  exact this ▸ m

theorem Part.isIn_self {p : Part} {l : List Part} (h : p ∈ l) : p.isIn l = true :=
  List.any_eq_true.2 ⟨p, h, decide_eq_true rfl⟩
theorem Fam.isIn_self {f : Fam} {l : List Fam} (h : f ∈ l) : f.isIn l = true :=
  List.any_eq_true.2 ⟨f, h, by simp [Fam.same]⟩

theorem Foot.le_refl (F : Foot) : F.le F = true := by
  simp only [Foot.le, Bool.and_eq_true, Bool.or_eq_true, List.all_eq_true]
  exact ⟨⟨fun p m => Part.isIn_self m, .inr fun f m => Fam.isIn_self m⟩, .inr fun f m => Fam.isIn_self m⟩

structure Foot.Sub (F G : Foot) : Prop where
  holds : F.le G = true

theorem Foot.Sub.trans {F G H : Foot} (h : F.Sub G) (g : G.Sub H) : F.Sub H := by
  obtain ⟨h⟩ := h; obtain ⟨g⟩ := g
  simp only [Foot.le, Bool.and_eq_true, Bool.or_eq_true, List.all_eq_true] at h g
  obtain ⟨⟨hp, he⟩, hw⟩ := h
  obtain ⟨⟨gp, ge⟩, gw⟩ := g
  refine ⟨?_⟩
  simp only [Foot.le, Bool.and_eq_true, Bool.or_eq_true, List.all_eq_true]
  refine ⟨⟨fun p m => gp p (Part.isIn_mem (hp p m)), ?_⟩, ?_⟩
  · rcases he with he | he
    · exact .inl ⟨gp _ (Part.isIn_mem he.1), gp _ (Part.isIn_mem he.2)⟩
    · rcases ge with ge | ge
      · exact .inl ge
      · exact .inr fun f m => ge f (Fam.isIn_mem (he f m))
  · rcases hw with hw | hw
    · exact .inl (gp _ (Part.isIn_mem hw))
    · rcases gw with gw | gw
      · exact .inl gw
      · exact .inr fun f m => gw f (Fam.isIn_mem (hw f m))

structure Part.In (p : Part) (F : Foot) : Prop where
  holds : p.isIn F.parts = true

theorem Part.In.trans {p : Part} {F G : Foot} (h : p.In F) (g : F.Sub G) : p.In G := by
  obtain ⟨g⟩ := g
  simp only [Foot.le, Bool.and_eq_true, List.all_eq_true] at g
  exact ⟨g.1.1 p (Part.isIn_mem h.holds)⟩

theorem KV.sorted_put {α : Type} [DecidableEq α] {d v : α} {k : Nat} {m : KV α} (h : KV.sorted m = true) : KV.sorted (KV.put d k v m) = true := by
  unfold KV.put; split
  · exact KV.sorted_erase h
  · exact KV.sorted_insert h

theorem KV.sorted_keep {α : Type} [DecidableEq α] {p : Nat → α → Bool} {m : KV α} (h : KV.sorted m = true) : KV.sorted (KV.keep p m) = true := by
  induction m with
  | nil => rfl
  | cons e r ih =>
    obtain ⟨j, w⟩ := e
    simp only [KV.sorted, Bool.and_eq_true] at h
    simp only [KV.keep]
    split
    · simp only [KV.sorted, Bool.and_eq_true]; exact ⟨KV.above_keep h.1, ih h.2⟩
    · exact ih h.2

theorem KV.sorted_inserts {α : Type} (l : List (Nat × α)) {m : KV α} (h : KV.sorted m = true) :
    KV.sorted (l.foldl (fun m e => KV.insert e.1 e.2 m) m) = true := by
  induction l generalizing m with
  | nil => exact h
  | cons e r ih => exact ih (KV.sorted_insert h)

/-- The same where some of the entries are left out. -/
theorem KV.sorted_insertsIf {α : Type} (p : Nat × α → Bool) (l : List (Nat × α)) {m : KV α} (h : KV.sorted m = true) :
    KV.sorted (l.foldl (fun m e => if p e then m else KV.insert e.1 e.2 m) m) = true := by
  induction l generalizing m with
  | nil => exact h
  | cons e r ih =>
    rw [List.foldl_cons]
    split
    · exact ih h
    · exact ih (KV.sorted_insert h)

theorem Only.refl {F : Foot} {a : Dev} : Only F a a := by
  refine ⟨fun p _ => ?_, id⟩; cases p <;> first | rfl | (intro k _; rfl)

theorem Only.step {F G : Foot} {a b c : Dev} (g : Only F b c) (hs : F.Sub G) (h : Only G a b) : Only G a c := by
  obtain ⟨hs⟩ := hs
  simp only [Foot.le, Bool.and_eq_true, Bool.or_eq_true, List.all_eq_true] at hs
  obtain ⟨⟨hp, he⟩, hw⟩ := hs
  refine ⟨fun p hn => ?_, fun k => g.canon (h.canon k)⟩
  have h1 := h.keep p hn
  have h2 := g.keep p (fun m => hn (Part.isIn_mem (hp p m)))
  cases p
  case dict =>
    intro k hk
    have he' := he.resolve_left (fun x => hn (Part.isIn_mem x.1))
    exact (h2 k (fun f m => hk f (Fam.isIn_mem (he' f m)))).trans (h1 k hk)
  case blobs =>
    intro k hk
    have he' := he.resolve_left (fun x => hn (Part.isIn_mem x.2))
    exact (h2 k (fun f m => hk f (Fam.isIn_mem (he' f m)))).trans (h1 k hk)
  case regs =>
    intro k hk
    have hw' := hw.resolve_left (fun x => hn (Part.isIn_mem x))
    exact (h2 k (fun f m => hk f (Fam.isIn_mem (hw' f m)))).trans (h1 k hk)
  all_goals exact Eq.trans h2 h1

theorem Only.ite {F : Foot} {a x y : Dev} {c : Prop} [Decidable c] (hx : Only F a x) (hy : Only F a y) : Only F a (if c then x else y) := by
  split <;> assumption

theorem Only.cond {F : Foot} {a x y : Dev} {c : Bool} (hx : Only F a x) (hy : Only F a y) : Only F a (bif c then x else y) := by
  cases c <;> assumption

theorem Only.ite2 {F : Foot} {α : Type} {a : Dev} {x y : α × Dev} {c : Prop} [Decidable c] (hx : Only F a x.2) (hy : Only F a y.2) :
    Only F a (if c then x else y).2 := by
  split <;> assumption

theorem Only.snd {F : Foot} {α : Type} {a d : Dev} {x : α × Dev} {v : α} (e : x = (v, d)) (h : Only F a x.2) : Only F a d := by
  rw [e] at h; exact h

theorem Only.foldl {F : Foot} {α : Type} {a b : Dev} {f : Dev → α → Dev} {l : List α} (hf : ∀ d x, Only F d (f d x)) (h : Only F a b) :
    Only F a (l.foldl f b) := by
  induction l generalizing b with
  | nil => exact h
  | cons x l ih => exact ih ((hf b x).step ⟨F.le_refl⟩ h)

theorem Only.foldl2 {F : Foot} {α β : Type} {a : Dev} {b : β × Dev} {f : β × Dev → α → β × Dev} {l : List α}
    (hf : ∀ d x, Only F d.2 (f d x).2) (h : Only F a b.2) : Only F a (l.foldl f b).2 := by
  induction l generalizing b with
  | nil => exact h
  | cons x l ih => exact ih ((hf b x).step ⟨F.le_refl⟩ h)

theorem Only.foldl_mem {F : Foot} {α : Type} {a b : Dev} {f : Dev → α → Dev} {l : List α} (hf : ∀ d x, x ∈ l → Only F d (f d x)) (h : Only F a b) :
    Only F a (l.foldl f b) := by
  induction l generalizing b with
  | nil => exact h
  | cons x r ih => exact ih (fun d y m => hf d y (List.mem_cons_of_mem _ m)) ((hf b x (List.mem_cons_self ..)).step ⟨F.le_refl⟩ h)

def hasKey (fs : List Fam) (k : Nat) : Prop := ∃ f ∈ fs, f.has k
def hasCtr (fs : List Fam) (c : Counter) : Prop := hasKey fs c.entry.key ∧ hasKey fs c.satEntry.key

theorem hasCtr.mk {f g : Fam} {c : Counter} (h : hasKey [f] c.entry.key) (k : hasKey [g] c.satEntry.key) : hasCtr [f, g] c := by
  obtain ⟨f', m, h⟩ := h; obtain ⟨g', n, k⟩ := k
  obtain rfl := List.mem_singleton.1 m; obtain rfl := List.mem_singleton.1 n
  exact ⟨⟨_, List.mem_cons_self .., h⟩, ⟨_, List.mem_cons_of_mem _ (List.mem_cons_self ..), k⟩⟩

structure Lit (p : Bool) : Prop where
  holds : p = true

theorem Only.trans {F : Foot} {a b c : Dev} (g : Only F b c) (h : Only F a b) : Only F a c := g.step ⟨F.le_refl⟩ h

theorem Only.self_put {fs : List Fam} {e : Entry} (hk : hasKey fs e.key) (d : Dev) (v : Nat) : Only ⟨[], fs, []⟩ d (d.put e v) := by
  refine ⟨fun p _ => ?_, fun k => ⟨k.mem, KV.sorted_put k.dict, k.blobs, k.regs⟩⟩
  cases p
  case dict =>
    intro k g
    obtain ⟨f, m, h⟩ := hk
    have : k ≠ e.key := fun c => g f m (c ▸ h)
    simp only [Dev.put, KV.put]
    split
    · exact KV.find_erase_other this _
    · exact KV.find_insert_other this _ _
  all_goals first | rfl | (intro k _; rfl)

theorem Only.self_putOct {fs : List Fam} {e : Entry} (hk : hasKey fs e.key) (d : Dev) (b : Bytes) : Only ⟨[], fs, []⟩ d (d.putOct e b) := by
  refine ⟨fun p _ => ?_, fun k => ⟨k.mem, k.dict, KV.sorted_insert k.blobs, k.regs⟩⟩
  cases p
  case blobs =>
    intro k g
    obtain ⟨f, m, h⟩ := hk
    have : k ≠ e.key := fun c => g f m (c ▸ h)
    exact KV.find_insert_other this _ _
  all_goals first | rfl | (intro k _; rfl)

theorem Only.self_putWord {fs : List Fam} {a : Nat} (hk : hasKey fs a) (d : Dev) (r v : Nat) : Only ⟨[], [], fs⟩ d (d.putWord a r v) := by
  refine ⟨fun p _ => ?_, fun k => ⟨k.mem, k.dict, k.blobs, KV.sorted_put k.regs⟩⟩
  cases p
  case regs =>
    intro k g
    obtain ⟨f, m, h⟩ := hk
    have : k ≠ a := fun c => g f m (c ▸ h)
    simp only [Dev.putWord, KV.put]
    split
    · exact KV.find_erase_other this _
    · exact KV.find_insert_other this _ _
  all_goals first | rfl | (intro k _; rfl)

theorem Only.self_restoreEntry {fs : List Fam} {e : Entry} (hk : hasKey fs e.key) (d : Dev) : Only ⟨[], fs, []⟩ d (d.restoreEntry e) := by
  refine ⟨fun p _ => ?_, fun k => ⟨k.mem, ?_, k.blobs, k.regs⟩⟩
  · cases p
    case dict =>
      intro k g
      obtain ⟨f, m, h⟩ := hk
      have : k ≠ e.key := fun c => g f m (c ▸ h)
      simp only [Dev.restoreEntry]
      split
      · exact KV.find_insert_other this _ _
      · exact KV.find_erase_other this _
    all_goals first | rfl | (intro k _; rfl)
  · simp only [Dev.restoreEntry]
    split
    · exact KV.sorted_insert k.dict
    · exact KV.sorted_erase k.dict

theorem Only.put {F : Foot} {fs : List Fam} {a b : Dev} {e : Entry} {v : Nat} (hk : hasKey fs e.key) (hs : Foot.Sub ⟨[], fs, []⟩ F)
    (h : Only F a b) : Only F a (b.put e v) := (Only.self_put hk b v).step hs h
theorem Only.restoreEntry {F : Foot} {fs : List Fam} {a b : Dev} {e : Entry} (hk : hasKey fs e.key) (hs : Foot.Sub ⟨[], fs, []⟩ F)
    (h : Only F a b) : Only F a (b.restoreEntry e) := (Only.self_restoreEntry hk b).step hs h
theorem Only.putBit {F : Foot} {fs : List Fam} {a b : Dev} {e : Entry} {i : Nat} {v : Bool} (hk : hasKey fs e.key)
    (hs : Foot.Sub ⟨[], fs, []⟩ F) (h : Only F a b) : Only F a (b.putBit e i v) := (Only.self_put hk b _).step hs h
theorem Only.putInt {F : Foot} {fs : List Fam} {a b : Dev} {e : Entry} {v : Int} (hk : hasKey fs e.key)
    (hs : Foot.Sub ⟨[], fs, []⟩ F) (h : Only F a b) : Only F a (b.putInt e v) := (Only.self_put hk b _).step hs h
theorem Only.putOct {F : Foot} {fs : List Fam} {a b : Dev} {e : Entry} {v : Bytes} (hk : hasKey fs e.key)
    (hs : Foot.Sub ⟨[], fs, []⟩ F) (h : Only F a b) : Only F a (b.putOct e v) := (Only.self_putOct hk b _).step hs h
theorem Only.putWord {F : Foot} {fs : List Fam} {a b : Dev} {x r v : Nat} (hk : hasKey fs x) (hs : Foot.Sub ⟨[], [], fs⟩ F)
    (h : Only F a b) : Only F a (b.putWord x r v) := (Only.self_putWord hk b _ _).step hs h
theorem Only.setFld {F : Foot} {fs : List Fam} {a b : Dev} {f : Field} {v : Nat} (hk : hasKey fs f.addr) (hs : Foot.Sub ⟨[], [], fs⟩ F)
    (h : Only F a b) : Only F a (b.setFld f v) := (Only.self_putWord hk b _ _).step hs h
theorem Only.setFldBit {F : Foot} {fs : List Fam} {a b : Dev} {f : Field} {i : Nat} {v : Bool} (hk : hasKey fs f.addr)
    (hs : Foot.Sub ⟨[], [], fs⟩ F) (h : Only F a b) : Only F a (b.setFldBit f i v) := (Only.self_putWord hk b _ _).step hs h
theorem Only.set_mem {F : Foot} {a b : Dev} {v} (hw : Memory.wf b.mem → Memory.wf v) (h : Only F a b) (hs : Part.In .mem F) : Only F a { b with mem := v } := by
  refine ⟨fun p hn => ?_, fun c => let k := h.canon c; ⟨hw k.mem, k.dict, k.blobs, k.regs⟩⟩
  have h1 := h.keep p hn
  cases p
  case mem => exact absurd (Part.isIn_mem hs.holds) hn
  all_goals exact h1
theorem Only.set_epochs {F : Foot} {a b : Dev} {v} (h : Only F a b) (hs : Part.In .epochs F) : Only F a { b with epochs := v } := by
  refine ⟨fun p hn => ?_, fun c => let k := h.canon c; ⟨k.mem, k.dict, k.blobs, k.regs⟩⟩
  have h1 := h.keep p hn
  cases p
  case epochs => exact absurd (Part.isIn_mem hs.holds) hn
  all_goals exact h1
theorem Only.set_free {F : Foot} {a b : Dev} {v} (h : Only F a b) (hs : Part.In .free F) : Only F a { b with free := v } := by
  refine ⟨fun p hn => ?_, fun c => let k := h.canon c; ⟨k.mem, k.dict, k.blobs, k.regs⟩⟩
  have h1 := h.keep p hn
  cases p
  case free => exact absurd (Part.isIn_mem hs.holds) hn
  all_goals exact h1
theorem Only.set_logs {F : Foot} {a b : Dev} {v} (h : Only F a b) (hs : Part.In .logs F) : Only F a { b with logs := v } := by
  refine ⟨fun p hn => ?_, fun c => let k := h.canon c; ⟨k.mem, k.dict, k.blobs, k.regs⟩⟩
  have h1 := h.keep p hn
  cases p
  case logs => exact absurd (Part.isIn_mem hs.holds) hn
  all_goals exact h1
theorem Only.set_limits {F : Foot} {a b : Dev} {v} (h : Only F a b) (hs : Part.In .limits F) : Only F a { b with limits := v } := by
  refine ⟨fun p hn => ?_, fun c => let k := h.canon c; ⟨k.mem, k.dict, k.blobs, k.regs⟩⟩
  have h1 := h.keep p hn
  cases p
  case limits => exact absurd (Part.isIn_mem hs.holds) hn
  all_goals exact h1
theorem Only.set_ctrLatch {F : Foot} {a b : Dev} {v} (h : Only F a b) (hs : Part.In .ctrLatch F) : Only F a { b with ctrLatch := v } := by
  refine ⟨fun p hn => ?_, fun c => let k := h.canon c; ⟨k.mem, k.dict, k.blobs, k.regs⟩⟩
  have h1 := h.keep p hn
  cases p
  case ctrLatch => exact absurd (Part.isIn_mem hs.holds) hn
  all_goals exact h1
theorem Only.set_ctrStage {F : Foot} {a b : Dev} {v} (h : Only F a b) (hs : Part.In .ctrStage F) : Only F a { b with ctrStage := v } := by
  refine ⟨fun p hn => ?_, fun c => let k := h.canon c; ⟨k.mem, k.dict, k.blobs, k.regs⟩⟩
  have h1 := h.keep p hn
  cases p
  case ctrStage => exact absurd (Part.isIn_mem hs.holds) hn
  all_goals exact h1
theorem Only.set_drains {F : Foot} {a b : Dev} {v} (h : Only F a b) (hs : Part.In .drains F) : Only F a { b with drains := v } := by
  refine ⟨fun p hn => ?_, fun c => let k := h.canon c; ⟨k.mem, k.dict, k.blobs, k.regs⟩⟩
  have h1 := h.keep p hn
  cases p
  case drains => exact absurd (Part.isIn_mem hs.holds) hn
  all_goals exact h1
theorem Only.set_supply {F : Foot} {a b : Dev} {v} (h : Only F a b) (hs : Part.In .supply F) : Only F a { b with supply := v } := by
  refine ⟨fun p hn => ?_, fun c => let k := h.canon c; ⟨k.mem, k.dict, k.blobs, k.regs⟩⟩
  have h1 := h.keep p hn
  cases p
  case supply => exact absurd (Part.isIn_mem hs.holds) hn
  all_goals exact h1
theorem Only.set_time {F : Foot} {a b : Dev} {v} (h : Only F a b) (hs : Part.In .time F) : Only F a { b with time := v } := by
  refine ⟨fun p hn => ?_, fun c => let k := h.canon c; ⟨k.mem, k.dict, k.blobs, k.regs⟩⟩
  have h1 := h.keep p hn
  cases p
  case time => exact absurd (Part.isIn_mem hs.holds) hn
  all_goals exact h1
theorem Only.set_d0 {F : Foot} {a b : Dev} {v} (h : Only F a b) (hs : Part.In .d0 F) : Only F a { b with d0 := v } := by
  refine ⟨fun p hn => ?_, fun c => let k := h.canon c; ⟨k.mem, k.dict, k.blobs, k.regs⟩⟩
  have h1 := h.keep p hn
  cases p
  case d0 => exact absurd (Part.isIn_mem hs.holds) hn
  all_goals exact h1
theorem Only.set_sw {F : Foot} {a b : Dev} {v} (h : Only F a b) (hs : Part.In .sw F) : Only F a { b with sw := v } := by
  refine ⟨fun p hn => ?_, fun c => let k := h.canon c; ⟨k.mem, k.dict, k.blobs, k.regs⟩⟩
  have h1 := h.keep p hn
  cases p
  case sw => exact absurd (Part.isIn_mem hs.holds) hn
  all_goals exact h1
theorem Only.set_can {F : Foot} {a b : Dev} {v} (h : Only F a b) (hs : Part.In .can F) : Only F a { b with can := v } := by
  refine ⟨fun p hn => ?_, fun c => let k := h.canon c; ⟨k.mem, k.dict, k.blobs, k.regs⟩⟩
  have h1 := h.keep p hn
  cases p
  case can => exact absurd (Part.isIn_mem hs.holds) hn
  all_goals exact h1
theorem Only.set_sleep {F : Foot} {a b : Dev} {v} (h : Only F a b) (hs : Part.In .sleep F) : Only F a { b with sleep := v } := by
  refine ⟨fun p hn => ?_, fun c => let k := h.canon c; ⟨k.mem, k.dict, k.blobs, k.regs⟩⟩
  have h1 := h.keep p hn
  cases p
  case sleep => exact absurd (Part.isIn_mem hs.holds) hn
  all_goals exact h1
theorem Only.set_power {F : Foot} {a b : Dev} {v} (h : Only F a b) (hs : Part.In .power F) : Only F a { b with power := v } := by
  refine ⟨fun p hn => ?_, fun c => let k := h.canon c; ⟨k.mem, k.dict, k.blobs, k.regs⟩⟩
  have h1 := h.keep p hn
  cases p
  case power => exact absurd (Part.isIn_mem hs.holds) hn
  all_goals exact h1
theorem Only.set_br {F : Foot} {a b : Dev} {v} (h : Only F a b) (hs : Part.In .br F) : Only F a { b with br := v } := by
  refine ⟨fun p hn => ?_, fun c => let k := h.canon c; ⟨k.mem, k.dict, k.blobs, k.regs⟩⟩
  have h1 := h.keep p hn
  cases p
  case br => exact absurd (Part.isIn_mem hs.holds) hn
  all_goals exact h1
theorem Only.set_load {F : Foot} {a b : Dev} {v} (h : Only F a b) (hs : Part.In .load F) : Only F a { b with load := v } := by
  refine ⟨fun p hn => ?_, fun c => let k := h.canon c; ⟨k.mem, k.dict, k.blobs, k.regs⟩⟩
  have h1 := h.keep p hn
  cases p
  case load => exact absurd (Part.isIn_mem hs.holds) hn
  all_goals exact h1
theorem Only.set_adc {F : Foot} {a b : Dev} {v} (h : Only F a b) (hs : Part.In .adc F) : Only F a { b with adc := v } := by
  refine ⟨fun p hn => ?_, fun c => let k := h.canon c; ⟨k.mem, k.dict, k.blobs, k.regs⟩⟩
  have h1 := h.keep p hn
  cases p
  case adc => exact absurd (Part.isIn_mem hs.holds) hn
  all_goals exact h1
theorem Only.set_scan {F : Foot} {a b : Dev} {v} (h : Only F a b) (hs : Part.In .scan F) : Only F a { b with scan := v } := by
  refine ⟨fun p hn => ?_, fun c => let k := h.canon c; ⟨k.mem, k.dict, k.blobs, k.regs⟩⟩
  have h1 := h.keep p hn
  cases p
  case scan => exact absurd (Part.isIn_mem hs.holds) hn
  all_goals exact h1
theorem Only.set_dma {F : Foot} {a b : Dev} {v} (h : Only F a b) (hs : Part.In .dma F) : Only F a { b with dma := v } := by
  refine ⟨fun p hn => ?_, fun c => let k := h.canon c; ⟨k.mem, k.dict, k.blobs, k.regs⟩⟩
  have h1 := h.keep p hn
  cases p
  case dma => exact absurd (Part.isIn_mem hs.holds) hn
  all_goals exact h1
theorem Only.set_tenants {F : Foot} {a b : Dev} {v} (h : Only F a b) (hs : Part.In .tenants F) : Only F a { b with tenants := v } := by
  refine ⟨fun p hn => ?_, fun c => let k := h.canon c; ⟨k.mem, k.dict, k.blobs, k.regs⟩⟩
  have h1 := h.keep p hn
  cases p
  case tenants => exact absurd (Part.isIn_mem hs.holds) hn
  all_goals exact h1
theorem Only.set_mezz {F : Foot} {a b : Dev} {v} (h : Only F a b) (hs : Part.In .mezz F) : Only F a { b with mezz := v } := by
  refine ⟨fun p hn => ?_, fun c => let k := h.canon c; ⟨k.mem, k.dict, k.blobs, k.regs⟩⟩
  have h1 := h.keep p hn
  cases p
  case mezz => exact absurd (Part.isIn_mem hs.holds) hn
  all_goals exact h1
theorem Only.set_clk {F : Foot} {a b : Dev} {v} (h : Only F a b) (hs : Part.In .clk F) : Only F a { b with clk := v } := by
  refine ⟨fun p hn => ?_, fun c => let k := h.canon c; ⟨k.mem, k.dict, k.blobs, k.regs⟩⟩
  have h1 := h.keep p hn
  cases p
  case clk => exact absurd (Part.isIn_mem hs.holds) hn
  all_goals exact h1
theorem Only.set_sto {F : Foot} {a b : Dev} {v} (h : Only F a b) (hs : Part.In .sto F) : Only F a { b with sto := v } := by
  refine ⟨fun p hn => ?_, fun c => let k := h.canon c; ⟨k.mem, k.dict, k.blobs, k.regs⟩⟩
  have h1 := h.keep p hn
  cases p
  case sto => exact absurd (Part.isIn_mem hs.holds) hn
  all_goals exact h1
theorem Only.set_upd {F : Foot} {a b : Dev} {v} (h : Only F a b) (hs : Part.In .upd F) : Only F a { b with upd := v } := by
  refine ⟨fun p hn => ?_, fun c => let k := h.canon c; ⟨k.mem, k.dict, k.blobs, k.regs⟩⟩
  have h1 := h.keep p hn
  cases p
  case upd => exact absurd (Part.isIn_mem hs.holds) hn
  all_goals exact h1
theorem Only.set_held {F : Foot} {a b : Dev} {v} (h : Only F a b) (hs : Part.In .held F) : Only F a { b with held := v } := by
  refine ⟨fun p hn => ?_, fun c => let k := h.canon c; ⟨k.mem, k.dict, k.blobs, k.regs⟩⟩
  have h1 := h.keep p hn
  cases p
  case held => exact absurd (Part.isIn_mem hs.holds) hn
  all_goals exact h1
theorem Only.set_harts {F : Foot} {a b : Dev} {v} (h : Only F a b) (hs : Part.In .harts F) : Only F a { b with harts := v } := by
  refine ⟨fun p hn => ?_, fun c => let k := h.canon c; ⟨k.mem, k.dict, k.blobs, k.regs⟩⟩
  have h1 := h.keep p hn
  cases p
  case harts => exact absurd (Part.isIn_mem hs.holds) hn
  all_goals exact h1
theorem Only.set_twin {F : Foot} {a b : Dev} {v} (h : Only F a b) (hs : Part.In .twin F) : Only F a { b with twin := v } := by
  refine ⟨fun p hn => ?_, fun c => let k := h.canon c; ⟨k.mem, k.dict, k.blobs, k.regs⟩⟩
  have h1 := h.keep p hn
  cases p
  case twin => exact absurd (Part.isIn_mem hs.holds) hn
  all_goals exact h1
theorem Only.set_board {F : Foot} {a b : Dev} {v} (h : Only F a b) (hs : Part.In .board F) : Only F a { b with board := v } := by
  refine ⟨fun p hn => ?_, fun c => let k := h.canon c; ⟨k.mem, k.dict, k.blobs, k.regs⟩⟩
  have h1 := h.keep p hn
  cases p
  case board => exact absurd (Part.isIn_mem hs.holds) hn
  all_goals exact h1
theorem Only.set_dict {F : Foot} {a b : Dev} {v} (hw : KV.sorted b.dict = true → KV.sorted v = true) (h : Only F a b) (hs : Part.In .dict F) : Only F a { b with dict := v } := by
  refine ⟨fun p hn => ?_, fun c => let k := h.canon c; ⟨k.mem, hw k.dict, k.blobs, k.regs⟩⟩
  have h1 := h.keep p hn
  cases p
  case dict => exact absurd (Part.isIn_mem hs.holds) hn
  all_goals exact h1
theorem Only.set_blobs {F : Foot} {a b : Dev} {v} (hw : KV.sorted b.blobs = true → KV.sorted v = true) (h : Only F a b) (hs : Part.In .blobs F) : Only F a { b with blobs := v } := by
  refine ⟨fun p hn => ?_, fun c => let k := h.canon c; ⟨k.mem, k.dict, hw k.blobs, k.regs⟩⟩
  have h1 := h.keep p hn
  cases p
  case blobs => exact absurd (Part.isIn_mem hs.holds) hn
  all_goals exact h1
theorem Only.set_regs {F : Foot} {a b : Dev} {v} (hw : KV.sorted b.regs = true → KV.sorted v = true) (h : Only F a b) (hs : Part.In .regs F) : Only F a { b with regs := v } := by
  refine ⟨fun p hn => ?_, fun c => let k := h.canon c; ⟨k.mem, k.dict, k.blobs, hw k.regs⟩⟩
  have h1 := h.keep p hn
  cases p
  case regs => exact absurd (Part.isIn_mem hs.holds) hn
  all_goals exact h1
theorem Only.set_out {F : Foot} {a b : Dev} {v} (h : Only F a b) : Only F a { b with out := v } := by
  refine ⟨fun p hn => ?_, fun c => let k := h.canon c; ⟨k.mem, k.dict, k.blobs, k.regs⟩⟩
  have h1 := h.keep p hn
  cases p
  all_goals exact h1
theorem Only.emit {F : Foot} {a b : Dev} {o : Out} (h : Only F a b) : Only F a (b.emit o) := h.set_out
theorem Only.answer {F : Foot} {a b : Dev} {s : Status} {v : Nat} (h : Only F a b) : Only F a (b.answer s v) := h.set_out
theorem Only.ite22 {F : Foot} {α β : Type} {a : Dev} {x y : α × β × Dev} {c : Prop} [Decidable c] (hx : Only F a x.2.2) (hy : Only F a y.2.2) :
    Only F a (if c then x else y).2.2 := by
  split <;> assumption
theorem Only.ite1 {F : Foot} {α : Type} {a : Dev} {x y : Dev × α} {c : Prop} [Decidable c] (hx : Only F a x.1) (hy : Only F a y.1) :
    Only F a (if c then x else y).1 := by
  split <;> assumption
theorem Only.snd2 {F : Foot} {α β : Type} {a d : Dev} {x : α × β × Dev} {v : α} {w : β} (e : x = (v, w, d)) (h : Only F a x.2.2) : Only F a d := by
  rw [e] at h; exact h
theorem Only.fst {F : Foot} {α : Type} {a d : Dev} {x : Dev × α} {v : α} (e : x = (d, v)) (h : Only F a x.1) : Only F a d := by
  rw [e] at h; exact h
theorem Only.set_epochs_eq {F : Foot} {a b : Dev} {v} (hs : Part.In .epochs F) : Only F a { b with epochs := v } = Only F a b :=
  propext ⟨fun h => (h.set_epochs (v := b.epochs) hs :), fun h => h.set_epochs hs⟩
theorem Only.set_free_eq {F : Foot} {a b : Dev} {v} (hs : Part.In .free F) : Only F a { b with free := v } = Only F a b :=
  propext ⟨fun h => (h.set_free (v := b.free) hs :), fun h => h.set_free hs⟩
theorem Only.set_logs_eq {F : Foot} {a b : Dev} {v} (hs : Part.In .logs F) : Only F a { b with logs := v } = Only F a b :=
  propext ⟨fun h => (h.set_logs (v := b.logs) hs :), fun h => h.set_logs hs⟩
theorem Only.set_limits_eq {F : Foot} {a b : Dev} {v} (hs : Part.In .limits F) : Only F a { b with limits := v } = Only F a b :=
  propext ⟨fun h => (h.set_limits (v := b.limits) hs :), fun h => h.set_limits hs⟩
theorem Only.set_ctrLatch_eq {F : Foot} {a b : Dev} {v} (hs : Part.In .ctrLatch F) : Only F a { b with ctrLatch := v } = Only F a b :=
  propext ⟨fun h => (h.set_ctrLatch (v := b.ctrLatch) hs :), fun h => h.set_ctrLatch hs⟩
theorem Only.set_ctrStage_eq {F : Foot} {a b : Dev} {v} (hs : Part.In .ctrStage F) : Only F a { b with ctrStage := v } = Only F a b :=
  propext ⟨fun h => (h.set_ctrStage (v := b.ctrStage) hs :), fun h => h.set_ctrStage hs⟩
theorem Only.set_drains_eq {F : Foot} {a b : Dev} {v} (hs : Part.In .drains F) : Only F a { b with drains := v } = Only F a b :=
  propext ⟨fun h => (h.set_drains (v := b.drains) hs :), fun h => h.set_drains hs⟩
theorem Only.set_supply_eq {F : Foot} {a b : Dev} {v} (hs : Part.In .supply F) : Only F a { b with supply := v } = Only F a b :=
  propext ⟨fun h => (h.set_supply (v := b.supply) hs :), fun h => h.set_supply hs⟩
theorem Only.set_time_eq {F : Foot} {a b : Dev} {v} (hs : Part.In .time F) : Only F a { b with time := v } = Only F a b :=
  propext ⟨fun h => (h.set_time (v := b.time) hs :), fun h => h.set_time hs⟩
theorem Only.set_d0_eq {F : Foot} {a b : Dev} {v} (hs : Part.In .d0 F) : Only F a { b with d0 := v } = Only F a b :=
  propext ⟨fun h => (h.set_d0 (v := b.d0) hs :), fun h => h.set_d0 hs⟩
theorem Only.set_sw_eq {F : Foot} {a b : Dev} {v} (hs : Part.In .sw F) : Only F a { b with sw := v } = Only F a b :=
  propext ⟨fun h => (h.set_sw (v := b.sw) hs :), fun h => h.set_sw hs⟩
theorem Only.set_can_eq {F : Foot} {a b : Dev} {v} (hs : Part.In .can F) : Only F a { b with can := v } = Only F a b :=
  propext ⟨fun h => (h.set_can (v := b.can) hs :), fun h => h.set_can hs⟩
theorem Only.set_sleep_eq {F : Foot} {a b : Dev} {v} (hs : Part.In .sleep F) : Only F a { b with sleep := v } = Only F a b :=
  propext ⟨fun h => (h.set_sleep (v := b.sleep) hs :), fun h => h.set_sleep hs⟩
theorem Only.set_power_eq {F : Foot} {a b : Dev} {v} (hs : Part.In .power F) : Only F a { b with power := v } = Only F a b :=
  propext ⟨fun h => (h.set_power (v := b.power) hs :), fun h => h.set_power hs⟩
theorem Only.set_br_eq {F : Foot} {a b : Dev} {v} (hs : Part.In .br F) : Only F a { b with br := v } = Only F a b :=
  propext ⟨fun h => (h.set_br (v := b.br) hs :), fun h => h.set_br hs⟩
theorem Only.set_load_eq {F : Foot} {a b : Dev} {v} (hs : Part.In .load F) : Only F a { b with load := v } = Only F a b :=
  propext ⟨fun h => (h.set_load (v := b.load) hs :), fun h => h.set_load hs⟩
theorem Only.set_adc_eq {F : Foot} {a b : Dev} {v} (hs : Part.In .adc F) : Only F a { b with adc := v } = Only F a b :=
  propext ⟨fun h => (h.set_adc (v := b.adc) hs :), fun h => h.set_adc hs⟩
theorem Only.set_scan_eq {F : Foot} {a b : Dev} {v} (hs : Part.In .scan F) : Only F a { b with scan := v } = Only F a b :=
  propext ⟨fun h => (h.set_scan (v := b.scan) hs :), fun h => h.set_scan hs⟩
theorem Only.set_dma_eq {F : Foot} {a b : Dev} {v} (hs : Part.In .dma F) : Only F a { b with dma := v } = Only F a b :=
  propext ⟨fun h => (h.set_dma (v := b.dma) hs :), fun h => h.set_dma hs⟩
theorem Only.set_tenants_eq {F : Foot} {a b : Dev} {v} (hs : Part.In .tenants F) : Only F a { b with tenants := v } = Only F a b :=
  propext ⟨fun h => (h.set_tenants (v := b.tenants) hs :), fun h => h.set_tenants hs⟩
theorem Only.set_mezz_eq {F : Foot} {a b : Dev} {v} (hs : Part.In .mezz F) : Only F a { b with mezz := v } = Only F a b :=
  propext ⟨fun h => (h.set_mezz (v := b.mezz) hs :), fun h => h.set_mezz hs⟩
theorem Only.set_clk_eq {F : Foot} {a b : Dev} {v} (hs : Part.In .clk F) : Only F a { b with clk := v } = Only F a b :=
  propext ⟨fun h => (h.set_clk (v := b.clk) hs :), fun h => h.set_clk hs⟩
theorem Only.set_sto_eq {F : Foot} {a b : Dev} {v} (hs : Part.In .sto F) : Only F a { b with sto := v } = Only F a b :=
  propext ⟨fun h => (h.set_sto (v := b.sto) hs :), fun h => h.set_sto hs⟩
theorem Only.set_upd_eq {F : Foot} {a b : Dev} {v} (hs : Part.In .upd F) : Only F a { b with upd := v } = Only F a b :=
  propext ⟨fun h => (h.set_upd (v := b.upd) hs :), fun h => h.set_upd hs⟩
theorem Only.set_held_eq {F : Foot} {a b : Dev} {v} (hs : Part.In .held F) : Only F a { b with held := v } = Only F a b :=
  propext ⟨fun h => (h.set_held (v := b.held) hs :), fun h => h.set_held hs⟩
theorem Only.set_harts_eq {F : Foot} {a b : Dev} {v} (hs : Part.In .harts F) : Only F a { b with harts := v } = Only F a b :=
  propext ⟨fun h => (h.set_harts (v := b.harts) hs :), fun h => h.set_harts hs⟩
theorem Only.set_twin_eq {F : Foot} {a b : Dev} {v} (hs : Part.In .twin F) : Only F a { b with twin := v } = Only F a b :=
  propext ⟨fun h => (h.set_twin (v := b.twin) hs :), fun h => h.set_twin hs⟩
theorem Only.set_board_eq {F : Foot} {a b : Dev} {v} (hs : Part.In .board F) : Only F a { b with board := v } = Only F a b :=
  propext ⟨fun h => (h.set_board (v := b.board) hs :), fun h => h.set_board hs⟩
theorem Only.set_out_eq {F : Foot} {a b : Dev} {v} : Only F a { b with out := v } = Only F a b :=
  propext ⟨fun h => (h.set_out (v := b.out) :), fun h => h.set_out⟩
theorem Only.set_tenants_logs_eq {F : Foot} {a b : Dev} {v0 v1} (h0 : Part.In .tenants F) (h1 : Part.In .logs F) : Only F a { b with tenants := v0, logs := v1 } = Only F a b :=
  (Only.set_tenants_eq (b := { b with logs := v1 }) h0).trans (Only.set_logs_eq h1)
theorem Only.set_drains_can_br_dma_adc_sleep_sto_ctrLatch_ctrStage_eq {F : Foot} {a b : Dev} {v0 v1 v2 v3 v4 v5 v6 v7 v8} (h0 : Part.In .drains F) (h1 : Part.In .can F) (h2 : Part.In .br F) (h3 : Part.In .dma F) (h4 : Part.In .adc F) (h5 : Part.In .sleep F) (h6 : Part.In .sto F) (h7 : Part.In .ctrLatch F) (h8 : Part.In .ctrStage F) : Only F a { b with drains := v0, can := v1, br := v2, dma := v3, adc := v4, sleep := v5, sto := v6, ctrLatch := v7, ctrStage := v8 } = Only F a b :=
  (Only.set_drains_eq (b := { b with can := v1, br := v2, dma := v3, adc := v4, sleep := v5, sto := v6, ctrLatch := v7, ctrStage := v8 }) h0).trans ((Only.set_can_eq (b := { b with br := v2, dma := v3, adc := v4, sleep := v5, sto := v6, ctrLatch := v7, ctrStage := v8 }) h1).trans ((Only.set_br_eq (b := { b with dma := v3, adc := v4, sleep := v5, sto := v6, ctrLatch := v7, ctrStage := v8 }) h2).trans ((Only.set_dma_eq (b := { b with adc := v4, sleep := v5, sto := v6, ctrLatch := v7, ctrStage := v8 }) h3).trans ((Only.set_adc_eq (b := { b with sleep := v5, sto := v6, ctrLatch := v7, ctrStage := v8 }) h4).trans ((Only.set_sleep_eq (b := { b with sto := v6, ctrLatch := v7, ctrStage := v8 }) h5).trans ((Only.set_sto_eq (b := { b with ctrLatch := v7, ctrStage := v8 }) h6).trans ((Only.set_ctrLatch_eq (b := { b with ctrStage := v8 }) h7).trans (Only.set_ctrStage_eq h8))))))))
theorem Only.put_all {F : Foot} {a b : Dev} {e : Entry} {v : Nat} (hs : Part.In .dict F) (h : Only F a b) : Only F a (b.put e v) := Only.set_dict KV.sorted_put h hs
theorem Only.putBit_all {F : Foot} {a b : Dev} {e : Entry} {i : Nat} {v : Bool} (hs : Part.In .dict F) (h : Only F a b) : Only F a (b.putBit e i v) := Only.set_dict KV.sorted_put h hs
theorem Only.putInt_all {F : Foot} {a b : Dev} {e : Entry} {v : Int} (hs : Part.In .dict F) (h : Only F a b) : Only F a (b.putInt e v) := Only.set_dict KV.sorted_put h hs
theorem Only.putOct_all {F : Foot} {a b : Dev} {e : Entry} {v : Bytes} (hs : Part.In .blobs F) (h : Only F a b) : Only F a (b.putOct e v) := Only.set_blobs KV.sorted_insert h hs
theorem Only.putWord_all {F : Foot} {a b : Dev} {x r v : Nat} (hs : Part.In .regs F) (h : Only F a b) : Only F a (b.putWord x r v) := Only.set_regs KV.sorted_put h hs
theorem Only.setFld_all {F : Foot} {a b : Dev} {f : Field} {v : Nat} (hs : Part.In .regs F) (h : Only F a b) : Only F a (b.setFld f v) := Only.set_regs KV.sorted_put h hs
theorem Only.setFldBit_all {F : Foot} {a b : Dev} {f : Field} {i : Nat} {v : Bool} (hs : Part.In .regs F) (h : Only F a b) : Only F a (b.setFldBit f i v) := Only.set_regs KV.sorted_put h hs
structure OnlyO (F : Foot) (a : Dev) (o : Option Dev) : Prop where
  keep : ∀ d, o = some d → Only F a d
theorem OnlyO.none {F : Foot} {a : Dev} : OnlyO F a none := ⟨fun _ h => by cases h⟩
theorem OnlyO.some {F : Foot} {a d : Dev} (h : Only F a d) : OnlyO F a (some d) := ⟨fun _ e => Option.some.inj e ▸ h⟩
theorem OnlyO.ite {F : Foot} {a : Dev} {x y : Option Dev} {c : Prop} [Decidable c] (hx : OnlyO F a x) (hy : OnlyO F a y) : OnlyO F a (if c then x else y) := by
  split <;> assumption
theorem Only.iteL {F : Foot} {a b x : Dev} {c : Prop} [Decidable c] (hx : Only F b x) (h : Only F a b) : Only F a (if c then x else b) := by
  split
  · exact hx.trans h
  · exact h
theorem Only.iteR {F : Foot} {a b x : Dev} {c : Prop} [Decidable c] (hx : Only F b x) (h : Only F a b) : Only F a (if c then b else x) := by
  split
  · exact h
  · exact hx.trans h
theorem has_Adc_COUNTER_SAT (n : Nat) : hasKey [ent1 Ent.Adc.COUNTER_SAT] (Ent.Adc.COUNTER_SAT n).key := ⟨_, List.mem_singleton.2 rfl, n, 0, 0, by simp only [ent1, Entry.key, Ent.Adc.COUNTER_SAT]; omega⟩
theorem has_Adc_ENABLE (n : Nat) : hasKey [ent1 Ent.Adc.ENABLE] (Ent.Adc.ENABLE n).key := ⟨_, List.mem_singleton.2 rfl, n, 0, 0, by simp only [ent1, Entry.key, Ent.Adc.ENABLE]; omega⟩
theorem has_Adc_OVERLAPS (n : Nat) : hasKey [ent1 Ent.Adc.OVERLAPS] (Ent.Adc.OVERLAPS n).key := ⟨_, List.mem_singleton.2 rfl, n, 0, 0, by simp only [ent1, Entry.key, Ent.Adc.OVERLAPS]; omega⟩
theorem has_Adc_STATE (n : Nat) : hasKey [ent1 Ent.Adc.STATE] (Ent.Adc.STATE n).key := ⟨_, List.mem_singleton.2 rfl, n, 0, 0, by simp only [ent1, Entry.key, Ent.Adc.STATE]; omega⟩
theorem has_Ain_FLAGS (n : Nat) : hasKey [ent1 Ent.Ain.FLAGS] (Ent.Ain.FLAGS n).key := ⟨_, List.mem_singleton.2 rfl, n, 0, 0, by simp only [ent1, Entry.key, Ent.Ain.FLAGS]; omega⟩
theorem has_Ain_RANGE (n : Nat) : hasKey [ent1 Ent.Ain.RANGE] (Ent.Ain.RANGE n).key := ⟨_, List.mem_singleton.2 rfl, n, 0, 0, by simp only [ent1, Entry.key, Ent.Ain.RANGE]; omega⟩
theorem has_Ain_VALUE (n : Nat) : hasKey [ent1 Ent.Ain.VALUE] (Ent.Ain.VALUE n).key := ⟨_, List.mem_singleton.2 rfl, n, 0, 0, by simp only [ent1, Entry.key, Ent.Ain.VALUE]; omega⟩
theorem has_Aint_INTERNAL (n : Nat) : hasKey [ent1 Ent.Aint.INTERNAL] (Ent.Aint.INTERNAL n).key := ⟨_, List.mem_singleton.2 rfl, n, 0, 0, by simp only [ent1, Entry.key, Ent.Aint.INTERNAL]; omega⟩
theorem has_Bctx_COUNTER_SAT (n : Nat) : hasKey [ent1 Ent.Bctx.COUNTER_SAT] (Ent.Bctx.COUNTER_SAT n).key := ⟨_, List.mem_singleton.2 rfl, n, 0, 0, by simp only [ent1, Entry.key, Ent.Bctx.COUNTER_SAT]; omega⟩
theorem has_Bctx_ENABLE (n : Nat) : hasKey [ent1 Ent.Bctx.ENABLE] (Ent.Bctx.ENABLE n).key := ⟨_, List.mem_singleton.2 rfl, n, 0, 0, by simp only [ent1, Entry.key, Ent.Bctx.ENABLE]; omega⟩
theorem has_Bctx_FAILURES (n : Nat) : hasKey [ent1 Ent.Bctx.FAILURES] (Ent.Bctx.FAILURES n).key := ⟨_, List.mem_singleton.2 rfl, n, 0, 0, by simp only [ent1, Entry.key, Ent.Bctx.FAILURES]; omega⟩
theorem has_Bctx_HALL (n : Nat) : hasKey [ent1 Ent.Bctx.HALL] (Ent.Bctx.HALL n).key := ⟨_, List.mem_singleton.2 rfl, n, 0, 0, by simp only [ent1, Entry.key, Ent.Bctx.HALL]; omega⟩
theorem has_Bctx_POSTED (n : Nat) : hasKey [ent1 Ent.Bctx.POSTED] (Ent.Bctx.POSTED n).key := ⟨_, List.mem_singleton.2 rfl, n, 0, 0, by simp only [ent1, Entry.key, Ent.Bctx.POSTED]; omega⟩
theorem has_Bctx_READS (n : Nat) : hasKey [ent1 Ent.Bctx.READS] (Ent.Bctx.READS n).key := ⟨_, List.mem_singleton.2 rfl, n, 0, 0, by simp only [ent1, Entry.key, Ent.Bctx.READS]; omega⟩
theorem has_Bctx_RETRANSMITS (n : Nat) : hasKey [ent1 Ent.Bctx.RETRANSMITS] (Ent.Bctx.RETRANSMITS n).key := ⟨_, List.mem_singleton.2 rfl, n, 0, 0, by simp only [ent1, Entry.key, Ent.Bctx.RETRANSMITS]; omega⟩
theorem has_Bctx_SESSION (n : Nat) : hasKey [ent1 Ent.Bctx.SESSION] (Ent.Bctx.SESSION n).key := ⟨_, List.mem_singleton.2 rfl, n, 0, 0, by simp only [ent1, Entry.key, Ent.Bctx.SESSION]; omega⟩
theorem has_Bctx_STATE (n : Nat) : hasKey [ent1 Ent.Bctx.STATE] (Ent.Bctx.STATE n).key := ⟨_, List.mem_singleton.2 rfl, n, 0, 0, by simp only [ent1, Entry.key, Ent.Bctx.STATE]; omega⟩
theorem has_Bctx_TIMEOUTS (n : Nat) : hasKey [ent1 Ent.Bctx.TIMEOUTS] (Ent.Bctx.TIMEOUTS n).key := ⟨_, List.mem_singleton.2 rfl, n, 0, 0, by simp only [ent1, Entry.key, Ent.Bctx.TIMEOUTS]; omega⟩
theorem has_Bind_ENABLE (n : Nat) : hasKey [ent1 Ent.Bind.ENABLE] (Ent.Bind.ENABLE n).key := ⟨_, List.mem_singleton.2 rfl, n, 0, 0, by simp only [ent1, Entry.key, Ent.Bind.ENABLE]; omega⟩
theorem has_Bind_HALL (n : Nat) : hasKey [ent1 Ent.Bind.HALL] (Ent.Bind.HALL n).key := ⟨_, List.mem_singleton.2 rfl, n, 0, 0, by simp only [ent1, Entry.key, Ent.Bind.HALL]; omega⟩
theorem has_Bu_COUNTER_SAT (n : Nat) : hasKey [ent1 Ent.Bu.COUNTER_SAT] (Ent.Bu.COUNTER_SAT n).key := ⟨_, List.mem_singleton.2 rfl, n, 0, 0, by simp only [ent1, Entry.key, Ent.Bu.COUNTER_SAT]; omega⟩
theorem has_Bu_ENDPOINTS (n : Nat) : hasKey [ent1 Ent.Bu.ENDPOINTS] (Ent.Bu.ENDPOINTS n).key := ⟨_, List.mem_singleton.2 rfl, n, 0, 0, by simp only [ent1, Entry.key, Ent.Bu.ENDPOINTS]; omega⟩
theorem has_Bu_EVT_UNKNOWN (n : Nat) : hasKey [ent1 Ent.Bu.EVT_UNKNOWN] (Ent.Bu.EVT_UNKNOWN n).key := ⟨_, List.mem_singleton.2 rfl, n, 0, 0, by simp only [ent1, Entry.key, Ent.Bu.EVT_UNKNOWN]; omega⟩
theorem has_Bu_ORPHANS (n : Nat) : hasKey [ent1 Ent.Bu.ORPHANS] (Ent.Bu.ORPHANS n).key := ⟨_, List.mem_singleton.2 rfl, n, 0, 0, by simp only [ent1, Entry.key, Ent.Bu.ORPHANS]; omega⟩
theorem has_Bu_POLLS (n : Nat) : hasKey [ent1 Ent.Bu.POLLS] (Ent.Bu.POLLS n).key := ⟨_, List.mem_singleton.2 rfl, n, 0, 0, by simp only [ent1, Entry.key, Ent.Bu.POLLS]; omega⟩
theorem has_Bu_RX_REJECTED (n : Nat) : hasKey [ent1 Ent.Bu.RX_REJECTED] (Ent.Bu.RX_REJECTED n).key := ⟨_, List.mem_singleton.2 rfl, n, 0, 0, by simp only [ent1, Entry.key, Ent.Bu.RX_REJECTED]; omega⟩
theorem has_CanCo_NMT (n : Nat) : hasKey [ent1 Ent.CanCo.NMT] (Ent.CanCo.NMT n).key := ⟨_, List.mem_singleton.2 rfl, n, 0, 0, by simp only [ent1, Entry.key, Ent.CanCo.NMT]; omega⟩
theorem has_CanCo_SDO_LAST_STATUS (n : Nat) : hasKey [ent1 Ent.CanCo.SDO_LAST_STATUS] (Ent.CanCo.SDO_LAST_STATUS n).key := ⟨_, List.mem_singleton.2 rfl, n, 0, 0, by simp only [ent1, Entry.key, Ent.CanCo.SDO_LAST_STATUS]; omega⟩
theorem has_CanObj_OBJ_TABLE (n : Nat) : hasKey [ent1 Ent.CanObj.OBJ_TABLE] (Ent.CanObj.OBJ_TABLE n).key := ⟨_, List.mem_singleton.2 rfl, n, 0, 0, by simp only [ent1, Entry.key, Ent.CanObj.OBJ_TABLE]; omega⟩
theorem has_CanObj_TXB_HALL (n : Nat) : hasKey [ent1 Ent.CanObj.TXB_HALL] (Ent.CanObj.TXB_HALL n).key := ⟨_, List.mem_singleton.2 rfl, n, 0, 0, by simp only [ent1, Entry.key, Ent.CanObj.TXB_HALL]; omega⟩
theorem has_CanSt_BUS_OFFS (n : Nat) : hasKey [ent1 Ent.CanSt.BUS_OFFS] (Ent.CanSt.BUS_OFFS n).key := ⟨_, List.mem_singleton.2 rfl, n, 0, 0, by simp only [ent1, Entry.key, Ent.CanSt.BUS_OFFS]; omega⟩
theorem has_CanSt_COUNTER_SAT (n : Nat) : hasKey [ent1 Ent.CanSt.COUNTER_SAT] (Ent.CanSt.COUNTER_SAT n).key := ⟨_, List.mem_singleton.2 rfl, n, 0, 0, by simp only [ent1, Entry.key, Ent.CanSt.COUNTER_SAT]; omega⟩
theorem has_CanSt_ENABLE (n : Nat) : hasKey [ent1 Ent.CanSt.ENABLE] (Ent.CanSt.ENABLE n).key := ⟨_, List.mem_singleton.2 rfl, n, 0, 0, by simp only [ent1, Entry.key, Ent.CanSt.ENABLE]; omega⟩
theorem has_CanSt_ERR_FRAMES (n : Nat) : hasKey [ent1 Ent.CanSt.ERR_FRAMES] (Ent.CanSt.ERR_FRAMES n).key := ⟨_, List.mem_singleton.2 rfl, n, 0, 0, by simp only [ent1, Entry.key, Ent.CanSt.ERR_FRAMES]; omega⟩
theorem has_CanSt_FIFO_OVF (n : Nat) : hasKey [ent1 Ent.CanSt.FIFO_OVF] (Ent.CanSt.FIFO_OVF n).key := ⟨_, List.mem_singleton.2 rfl, n, 0, 0, by simp only [ent1, Entry.key, Ent.CanSt.FIFO_OVF]; omega⟩
theorem has_CanSt_LOCK_EXPIRED (n : Nat) : hasKey [ent1 Ent.CanSt.LOCK_EXPIRED] (Ent.CanSt.LOCK_EXPIRED n).key := ⟨_, List.mem_singleton.2 rfl, n, 0, 0, by simp only [ent1, Entry.key, Ent.CanSt.LOCK_EXPIRED]; omega⟩
theorem has_CanSt_REF_LATE (n : Nat) : hasKey [ent1 Ent.CanSt.REF_LATE] (Ent.CanSt.REF_LATE n).key := ⟨_, List.mem_singleton.2 rfl, n, 0, 0, by simp only [ent1, Entry.key, Ent.CanSt.REF_LATE]; omega⟩
theorem has_CanSt_RX_FRAMES (n : Nat) : hasKey [ent1 Ent.CanSt.RX_FRAMES] (Ent.CanSt.RX_FRAMES n).key := ⟨_, List.mem_singleton.2 rfl, n, 0, 0, by simp only [ent1, Entry.key, Ent.CanSt.RX_FRAMES]; omega⟩
theorem has_CanSt_RX_LOST (n : Nat) : hasKey [ent1 Ent.CanSt.RX_LOST] (Ent.CanSt.RX_LOST n).key := ⟨_, List.mem_singleton.2 rfl, n, 0, 0, by simp only [ent1, Entry.key, Ent.CanSt.RX_LOST]; omega⟩
theorem has_CanSt_RX_UNMATCHED (n : Nat) : hasKey [ent1 Ent.CanSt.RX_UNMATCHED] (Ent.CanSt.RX_UNMATCHED n).key := ⟨_, List.mem_singleton.2 rfl, n, 0, 0, by simp only [ent1, Entry.key, Ent.CanSt.RX_UNMATCHED]; omega⟩
theorem has_CanSt_STATE (n : Nat) : hasKey [ent1 Ent.CanSt.STATE] (Ent.CanSt.STATE n).key := ⟨_, List.mem_singleton.2 rfl, n, 0, 0, by simp only [ent1, Entry.key, Ent.CanSt.STATE]; omega⟩
theorem has_CanSt_TX_DISCARDED (n : Nat) : hasKey [ent1 Ent.CanSt.TX_DISCARDED] (Ent.CanSt.TX_DISCARDED n).key := ⟨_, List.mem_singleton.2 rfl, n, 0, 0, by simp only [ent1, Entry.key, Ent.CanSt.TX_DISCARDED]; omega⟩
theorem has_CanSt_TX_FRAMES (n : Nat) : hasKey [ent1 Ent.CanSt.TX_FRAMES] (Ent.CanSt.TX_FRAMES n).key := ⟨_, List.mem_singleton.2 rfl, n, 0, 0, by simp only [ent1, Entry.key, Ent.CanSt.TX_FRAMES]; omega⟩
theorem has_Chg_CHANGES : hasKey [ent0 Ent.Chg.CHANGES] Ent.Chg.CHANGES.key := ⟨_, List.mem_singleton.2 rfl, 0, 0, 0, by simp [ent0, Entry.key, Ent.Chg.CHANGES]⟩
theorem has_Chg_CHANGE_RESULT : hasKey [ent0 Ent.Chg.CHANGE_RESULT] Ent.Chg.CHANGE_RESULT.key := ⟨_, List.mem_singleton.2 rfl, 0, 0, 0, by simp [ent0, Entry.key, Ent.Chg.CHANGE_RESULT]⟩
theorem has_Chg_CHANGE_STATE : hasKey [ent0 Ent.Chg.CHANGE_STATE] Ent.Chg.CHANGE_STATE.key := ⟨_, List.mem_singleton.2 rfl, 0, 0, 0, by simp [ent0, Entry.key, Ent.Chg.CHANGE_STATE]⟩
theorem has_Chg_CHANGE_STATUS : hasKey [ent0 Ent.Chg.CHANGE_STATUS] Ent.Chg.CHANGE_STATUS.key := ⟨_, List.mem_singleton.2 rfl, 0, 0, 0, by simp [ent0, Entry.key, Ent.Chg.CHANGE_STATUS]⟩
theorem has_Chg_COUNTER_SAT : hasKey [ent0 Ent.Chg.COUNTER_SAT] Ent.Chg.COUNTER_SAT.key := ⟨_, List.mem_singleton.2 rfl, 0, 0, 0, by simp [ent0, Entry.key, Ent.Chg.COUNTER_SAT]⟩
theorem has_Chg_MAP_TABLE : hasKey [ent0 Ent.Chg.MAP_TABLE] Ent.Chg.MAP_TABLE.key := ⟨_, List.mem_singleton.2 rfl, 0, 0, 0, by simp [ent0, Entry.key, Ent.Chg.MAP_TABLE]⟩
theorem has_Chg_REFUSALS : hasKey [ent0 Ent.Chg.REFUSALS] Ent.Chg.REFUSALS.key := ⟨_, List.mem_singleton.2 rfl, 0, 0, 0, by simp [ent0, Entry.key, Ent.Chg.REFUSALS]⟩
theorem has_Clk_COUNTER_SAT : hasKey [ent0 Ent.Clk.COUNTER_SAT] Ent.Clk.COUNTER_SAT.key := ⟨_, List.mem_singleton.2 rfl, 0, 0, 0, by simp [ent0, Entry.key, Ent.Clk.COUNTER_SAT]⟩
theorem has_Clk_FORCED_SWITCHES : hasKey [ent0 Ent.Clk.FORCED_SWITCHES] Ent.Clk.FORCED_SWITCHES.key := ⟨_, List.mem_singleton.2 rfl, 0, 0, 0, by simp [ent0, Entry.key, Ent.Clk.FORCED_SWITCHES]⟩
theorem has_Clk_RCO_ERR_PPM : hasKey [ent0 Ent.Clk.RCO_ERR_PPM] Ent.Clk.RCO_ERR_PPM.key := ⟨_, List.mem_singleton.2 rfl, 0, 0, 0, by simp [ent0, Entry.key, Ent.Clk.RCO_ERR_PPM]⟩
theorem has_Clk_REF_LOSS : hasKey [ent0 Ent.Clk.REF_LOSS] Ent.Clk.REF_LOSS.key := ⟨_, List.mem_singleton.2 rfl, 0, 0, 0, by simp [ent0, Entry.key, Ent.Clk.REF_LOSS]⟩
theorem has_Clk_REF_LOSSES : hasKey [ent0 Ent.Clk.REF_LOSSES] Ent.Clk.REF_LOSSES.key := ⟨_, List.mem_singleton.2 rfl, 0, 0, 0, by simp [ent0, Entry.key, Ent.Clk.REF_LOSSES]⟩
theorem has_Clk_SRC_STATUS : hasKey [ent0 Ent.Clk.SRC_STATUS] Ent.Clk.SRC_STATUS.key := ⟨_, List.mem_singleton.2 rfl, 0, 0, 0, by simp [ent0, Entry.key, Ent.Clk.SRC_STATUS]⟩
theorem has_Clk_SSC_ACTIVE : hasKey [ent0 Ent.Clk.SSC_ACTIVE] Ent.Clk.SSC_ACTIVE.key := ⟨_, List.mem_singleton.2 rfl, 0, 0, 0, by simp [ent0, Entry.key, Ent.Clk.SSC_ACTIVE]⟩
theorem has_Clk_TRIM_IN_USE : hasKey [ent0 Ent.Clk.TRIM_IN_USE] Ent.Clk.TRIM_IN_USE.key := ⟨_, List.mem_singleton.2 rfl, 0, 0, 0, by simp [ent0, Entry.key, Ent.Clk.TRIM_IN_USE]⟩
theorem has_Clk_TRIPS : hasKey [ent0 Ent.Clk.TRIPS] Ent.Clk.TRIPS.key := ⟨_, List.mem_singleton.2 rfl, 0, 0, 0, by simp [ent0, Entry.key, Ent.Clk.TRIPS]⟩
theorem has_Co_CONSUMER_HB (n : Nat) : hasKey [ent1 Ent.Co.CONSUMER_HB] (Ent.Co.CONSUMER_HB n).key := ⟨_, List.mem_singleton.2 rfl, n, 0, 0, by simp only [ent1, Entry.key, Ent.Co.CONSUMER_HB]; omega⟩
theorem has_Co_RPDO_CHANNEL (n : Nat) : hasKey [ent1 Ent.Co.RPDO_CHANNEL] (Ent.Co.RPDO_CHANNEL n).key := ⟨_, List.mem_singleton.2 rfl, n, 0, 0, by simp only [ent1, Entry.key, Ent.Co.RPDO_CHANNEL]; omega⟩
theorem has_Co_RPDO_COB (n : Nat) : hasKey [ent1 Ent.Co.RPDO_COB] (Ent.Co.RPDO_COB n).key := ⟨_, List.mem_singleton.2 rfl, n, 0, 0, by simp only [ent1, Entry.key, Ent.Co.RPDO_COB]; omega⟩
theorem has_Co_RPDO_EVENT_TIMER (n : Nat) : hasKey [ent1 Ent.Co.RPDO_EVENT_TIMER] (Ent.Co.RPDO_EVENT_TIMER n).key := ⟨_, List.mem_singleton.2 rfl, n, 0, 0, by simp only [ent1, Entry.key, Ent.Co.RPDO_EVENT_TIMER]; omega⟩
theorem has_Co_RPDO_INHIBIT (n : Nat) : hasKey [ent1 Ent.Co.RPDO_INHIBIT] (Ent.Co.RPDO_INHIBIT n).key := ⟨_, List.mem_singleton.2 rfl, n, 0, 0, by simp only [ent1, Entry.key, Ent.Co.RPDO_INHIBIT]; omega⟩
theorem has_Co_RPDO_MAP (n m : Nat) : hasKey [ent2 Ent.Co.RPDO_MAP] (Ent.Co.RPDO_MAP n m).key := ⟨_, List.mem_singleton.2 rfl, n, m, 0, by simp only [ent2, Entry.key, Ent.Co.RPDO_MAP]; omega⟩
theorem has_Co_RPDO_MAP_COUNT (n : Nat) : hasKey [ent1 Ent.Co.RPDO_MAP_COUNT] (Ent.Co.RPDO_MAP_COUNT n).key := ⟨_, List.mem_singleton.2 rfl, n, 0, 0, by simp only [ent1, Entry.key, Ent.Co.RPDO_MAP_COUNT]; omega⟩
theorem has_Co_RPDO_SLOT (n : Nat) : hasKey [ent1 Ent.Co.RPDO_SLOT] (Ent.Co.RPDO_SLOT n).key := ⟨_, List.mem_singleton.2 rfl, n, 0, 0, by simp only [ent1, Entry.key, Ent.Co.RPDO_SLOT]; omega⟩
theorem has_Co_RPDO_TYPE (n : Nat) : hasKey [ent1 Ent.Co.RPDO_TYPE] (Ent.Co.RPDO_TYPE n).key := ⟨_, List.mem_singleton.2 rfl, n, 0, 0, by simp only [ent1, Entry.key, Ent.Co.RPDO_TYPE]; omega⟩
theorem has_Co_SDO_RX_COB (n : Nat) : hasKey [ent1 Ent.Co.SDO_RX_COB] (Ent.Co.SDO_RX_COB n).key := ⟨_, List.mem_singleton.2 rfl, n, 0, 0, by simp only [ent1, Entry.key, Ent.Co.SDO_RX_COB]; omega⟩
theorem has_Co_SDO_TX_COB (n : Nat) : hasKey [ent1 Ent.Co.SDO_TX_COB] (Ent.Co.SDO_TX_COB n).key := ⟨_, List.mem_singleton.2 rfl, n, 0, 0, by simp only [ent1, Entry.key, Ent.Co.SDO_TX_COB]; omega⟩
theorem has_Co_TPDO_CHANNEL (n : Nat) : hasKey [ent1 Ent.Co.TPDO_CHANNEL] (Ent.Co.TPDO_CHANNEL n).key := ⟨_, List.mem_singleton.2 rfl, n, 0, 0, by simp only [ent1, Entry.key, Ent.Co.TPDO_CHANNEL]; omega⟩
theorem has_Co_TPDO_COB (n : Nat) : hasKey [ent1 Ent.Co.TPDO_COB] (Ent.Co.TPDO_COB n).key := ⟨_, List.mem_singleton.2 rfl, n, 0, 0, by simp only [ent1, Entry.key, Ent.Co.TPDO_COB]; omega⟩
theorem has_Co_TPDO_EVENT_TIMER (n : Nat) : hasKey [ent1 Ent.Co.TPDO_EVENT_TIMER] (Ent.Co.TPDO_EVENT_TIMER n).key := ⟨_, List.mem_singleton.2 rfl, n, 0, 0, by simp only [ent1, Entry.key, Ent.Co.TPDO_EVENT_TIMER]; omega⟩
theorem has_Co_TPDO_INHIBIT (n : Nat) : hasKey [ent1 Ent.Co.TPDO_INHIBIT] (Ent.Co.TPDO_INHIBIT n).key := ⟨_, List.mem_singleton.2 rfl, n, 0, 0, by simp only [ent1, Entry.key, Ent.Co.TPDO_INHIBIT]; omega⟩
theorem has_Co_TPDO_MAP (n m : Nat) : hasKey [ent2 Ent.Co.TPDO_MAP] (Ent.Co.TPDO_MAP n m).key := ⟨_, List.mem_singleton.2 rfl, n, m, 0, by simp only [ent2, Entry.key, Ent.Co.TPDO_MAP]; omega⟩
theorem has_Co_TPDO_MAP_COUNT (n : Nat) : hasKey [ent1 Ent.Co.TPDO_MAP_COUNT] (Ent.Co.TPDO_MAP_COUNT n).key := ⟨_, List.mem_singleton.2 rfl, n, 0, 0, by simp only [ent1, Entry.key, Ent.Co.TPDO_MAP_COUNT]; omega⟩
theorem has_Co_TPDO_SLOT (n : Nat) : hasKey [ent1 Ent.Co.TPDO_SLOT] (Ent.Co.TPDO_SLOT n).key := ⟨_, List.mem_singleton.2 rfl, n, 0, 0, by simp only [ent1, Entry.key, Ent.Co.TPDO_SLOT]; omega⟩
theorem has_Co_TPDO_TYPE (n : Nat) : hasKey [ent1 Ent.Co.TPDO_TYPE] (Ent.Co.TPDO_TYPE n).key := ⟨_, List.mem_singleton.2 rfl, n, 0, 0, by simp only [ent1, Entry.key, Ent.Co.TPDO_TYPE]; omega⟩
theorem has_Core_CLAIMS (n : Nat) : hasKey [ent1 Ent.Core.CLAIMS] (Ent.Core.CLAIMS n).key := ⟨_, List.mem_singleton.2 rfl, n, 0, 0, by simp only [ent1, Entry.key, Ent.Core.CLAIMS]; omega⟩
theorem has_Core_COMPLETE_ERRORS (n : Nat) : hasKey [ent1 Ent.Core.COMPLETE_ERRORS] (Ent.Core.COMPLETE_ERRORS n).key := ⟨_, List.mem_singleton.2 rfl, n, 0, 0, by simp only [ent1, Entry.key, Ent.Core.COMPLETE_ERRORS]; omega⟩
theorem has_Core_COUNTER_SAT (n : Nat) : hasKey [ent1 Ent.Core.COUNTER_SAT] (Ent.Core.COUNTER_SAT n).key := ⟨_, List.mem_singleton.2 rfl, n, 0, 0, by simp only [ent1, Entry.key, Ent.Core.COUNTER_SAT]; omega⟩
theorem has_Core_STACK_FULL (n : Nat) : hasKey [ent1 Ent.Core.STACK_FULL] (Ent.Core.STACK_FULL n).key := ⟨_, List.mem_singleton.2 rfl, n, 0, 0, by simp only [ent1, Entry.key, Ent.Core.STACK_FULL]; omega⟩
theorem has_Core_THRESHOLD (n : Nat) : hasKey [ent1 Ent.Core.THRESHOLD] (Ent.Core.THRESHOLD n).key := ⟨_, List.mem_singleton.2 rfl, n, 0, 0, by simp only [ent1, Entry.key, Ent.Core.THRESHOLD]; omega⟩
theorem has_Dma_BYTES (n : Nat) : hasKey [ent1 Ent.Dma.BYTES] (Ent.Dma.BYTES n).key := ⟨_, List.mem_singleton.2 rfl, n, 0, 0, by simp only [ent1, Entry.key, Ent.Dma.BYTES]; omega⟩
theorem has_Dma_COUNTER_SAT (n : Nat) : hasKey [ent1 Ent.Dma.COUNTER_SAT] (Ent.Dma.COUNTER_SAT n).key := ⟨_, List.mem_singleton.2 rfl, n, 0, 0, by simp only [ent1, Entry.key, Ent.Dma.COUNTER_SAT]; omega⟩
theorem has_Dma_DESCRIPTORS (n : Nat) : hasKey [ent1 Ent.Dma.DESCRIPTORS] (Ent.Dma.DESCRIPTORS n).key := ⟨_, List.mem_singleton.2 rfl, n, 0, 0, by simp only [ent1, Entry.key, Ent.Dma.DESCRIPTORS]; omega⟩
theorem has_Dma_ENABLE (n : Nat) : hasKey [ent1 Ent.Dma.ENABLE] (Ent.Dma.ENABLE n).key := ⟨_, List.mem_singleton.2 rfl, n, 0, 0, by simp only [ent1, Entry.key, Ent.Dma.ENABLE]; omega⟩
theorem has_Dma_ERRORS (n : Nat) : hasKey [ent1 Ent.Dma.ERRORS] (Ent.Dma.ERRORS n).key := ⟨_, List.mem_singleton.2 rfl, n, 0, 0, by simp only [ent1, Entry.key, Ent.Dma.ERRORS]; omega⟩
theorem has_Dma_FAULTS (n : Nat) : hasKey [ent1 Ent.Dma.FAULTS] (Ent.Dma.FAULTS n).key := ⟨_, List.mem_singleton.2 rfl, n, 0, 0, by simp only [ent1, Entry.key, Ent.Dma.FAULTS]; omega⟩
theorem has_Dma_HALL (n : Nat) : hasKey [ent1 Ent.Dma.HALL] (Ent.Dma.HALL n).key := ⟨_, List.mem_singleton.2 rfl, n, 0, 0, by simp only [ent1, Entry.key, Ent.Dma.HALL]; omega⟩
theorem has_Dma_STALE (n : Nat) : hasKey [ent1 Ent.Dma.STALE] (Ent.Dma.STALE n).key := ⟨_, List.mem_singleton.2 rfl, n, 0, 0, by simp only [ent1, Entry.key, Ent.Dma.STALE]; omega⟩
theorem has_Dma_STATE (n : Nat) : hasKey [ent1 Ent.Dma.STATE] (Ent.Dma.STATE n).key := ⟨_, List.mem_singleton.2 rfl, n, 0, 0, by simp only [ent1, Entry.key, Ent.Dma.STATE]; omega⟩
theorem has_Dom_CLKSW_FORCED (n : Nat) : hasKey [ent1 Ent.Dom.CLKSW_FORCED] (Ent.Dom.CLKSW_FORCED n).key := ⟨_, List.mem_singleton.2 rfl, n, 0, 0, by simp only [ent1, Entry.key, Ent.Dom.CLKSW_FORCED]; omega⟩
theorem has_Dom_COUNTER_SAT (n : Nat) : hasKey [ent1 Ent.Dom.COUNTER_SAT] (Ent.Dom.COUNTER_SAT n).key := ⟨_, List.mem_singleton.2 rfl, n, 0, 0, by simp only [ent1, Entry.key, Ent.Dom.COUNTER_SAT]; omega⟩
theorem has_Dom_SOURCE (n : Nat) : hasKey [ent1 Ent.Dom.SOURCE] (Ent.Dom.SOURCE n).key := ⟨_, List.mem_singleton.2 rfl, n, 0, 0, by simp only [ent1, Entry.key, Ent.Dom.SOURCE]; omega⟩
theorem has_Dom_SWITCHES (n : Nat) : hasKey [ent1 Ent.Dom.SWITCHES] (Ent.Dom.SWITCHES n).key := ⟨_, List.mem_singleton.2 rfl, n, 0, 0, by simp only [ent1, Entry.key, Ent.Dom.SWITCHES]; omega⟩
theorem has_Dom_UNCERTAIN (n : Nat) : hasKey [ent1 Ent.Dom.UNCERTAIN] (Ent.Dom.UNCERTAIN n).key := ⟨_, List.mem_singleton.2 rfl, n, 0, 0, by simp only [ent1, Entry.key, Ent.Dom.UNCERTAIN]; omega⟩
theorem has_Evl_EVENT_FIRST : hasKey [ent0 Ent.Evl.EVENT_FIRST] Ent.Evl.EVENT_FIRST.key := ⟨_, List.mem_singleton.2 rfl, 0, 0, 0, by simp [ent0, Entry.key, Ent.Evl.EVENT_FIRST]⟩
theorem has_Evl_EVENT_NEXT : hasKey [ent0 Ent.Evl.EVENT_NEXT] Ent.Evl.EVENT_NEXT.key := ⟨_, List.mem_singleton.2 rfl, 0, 0, 0, by simp [ent0, Entry.key, Ent.Evl.EVENT_NEXT]⟩
theorem has_Evlog_BOOT_COUNT : hasKey [ent0 Ent.Evlog.BOOT_COUNT] Ent.Evlog.BOOT_COUNT.key := ⟨_, List.mem_singleton.2 rfl, 0, 0, 0, by simp [ent0, Entry.key, Ent.Evlog.BOOT_COUNT]⟩
theorem has_Evlog_LAST_SEQ : hasKey [ent0 Ent.Evlog.LAST_SEQ] Ent.Evlog.LAST_SEQ.key := ⟨_, List.mem_singleton.2 rfl, 0, 0, 0, by simp [ent0, Entry.key, Ent.Evlog.LAST_SEQ]⟩
theorem has_Evlog_LOG_LOST : hasKey [ent0 Ent.Evlog.LOG_LOST] Ent.Evlog.LOG_LOST.key := ⟨_, List.mem_singleton.2 rfl, 0, 0, 0, by simp [ent0, Entry.key, Ent.Evlog.LOG_LOST]⟩
theorem has_Frc_FORCE_COUNT : hasKey [ent0 Ent.Frc.FORCE_COUNT] Ent.Frc.FORCE_COUNT.key := ⟨_, List.mem_singleton.2 rfl, 0, 0, 0, by simp [ent0, Entry.key, Ent.Frc.FORCE_COUNT]⟩
theorem has_Frc_FORCE_GEN : hasKey [ent0 Ent.Frc.FORCE_GEN] Ent.Frc.FORCE_GEN.key := ⟨_, List.mem_singleton.2 rfl, 0, 0, 0, by simp [ent0, Entry.key, Ent.Frc.FORCE_GEN]⟩
theorem has_Fwds_COUNTER_SAT : hasKey [ent0 Ent.Fwds.COUNTER_SAT] Ent.Fwds.COUNTER_SAT.key := ⟨_, List.mem_singleton.2 rfl, 0, 0, 0, by simp [ent0, Entry.key, Ent.Fwds.COUNTER_SAT]⟩
theorem has_Fwds_LEARN_FAIL : hasKey [ent0 Ent.Fwds.LEARN_FAIL] Ent.Fwds.LEARN_FAIL.key := ⟨_, List.mem_singleton.2 rfl, 0, 0, 0, by simp [ent0, Entry.key, Ent.Fwds.LEARN_FAIL]⟩
theorem has_Gate_GATE (n m : Nat) : hasKey [ent2 Ent.Gate.GATE] (Ent.Gate.GATE n m).key := ⟨_, List.mem_singleton.2 rfl, n, m, 0, by simp only [ent2, Entry.key, Ent.Gate.GATE]; omega⟩
theorem has_Hall_CCORES (n : Nat) : hasKey [ent1 Ent.Hall.CCORES] (Ent.Hall.CCORES n).key := ⟨_, List.mem_singleton.2 rfl, n, 0, 0, by simp only [ent1, Entry.key, Ent.Hall.CCORES]; omega⟩
theorem has_Hall_CMD_STATUS (n : Nat) : hasKey [ent1 Ent.Hall.CMD_STATUS] (Ent.Hall.CMD_STATUS n).key := ⟨_, List.mem_singleton.2 rfl, n, 0, 0, by simp only [ent1, Entry.key, Ent.Hall.CMD_STATUS]; omega⟩
theorem has_Hall_COUNTER_SAT (n : Nat) : hasKey [ent1 Ent.Hall.COUNTER_SAT] (Ent.Hall.COUNTER_SAT n).key := ⟨_, List.mem_singleton.2 rfl, n, 0, 0, by simp only [ent1, Entry.key, Ent.Hall.COUNTER_SAT]; omega⟩
theorem has_Hall_FAULTS (n : Nat) : hasKey [ent1 Ent.Hall.FAULTS] (Ent.Hall.FAULTS n).key := ⟨_, List.mem_singleton.2 rfl, n, 0, 0, by simp only [ent1, Entry.key, Ent.Hall.FAULTS]; omega⟩
theorem has_Hall_FAULT_CAUSE (n : Nat) : hasKey [ent1 Ent.Hall.FAULT_CAUSE] (Ent.Hall.FAULT_CAUSE n).key := ⟨_, List.mem_singleton.2 rfl, n, 0, 0, by simp only [ent1, Entry.key, Ent.Hall.FAULT_CAUSE]; omega⟩
theorem has_Hall_FROZEN_DROPS (n : Nat) : hasKey [ent1 Ent.Hall.FROZEN_DROPS] (Ent.Hall.FROZEN_DROPS n).key := ⟨_, List.mem_singleton.2 rfl, n, 0, 0, by simp only [ent1, Entry.key, Ent.Hall.FROZEN_DROPS]; omega⟩
theorem has_Hall_GUEST_STATE (n : Nat) : hasKey [ent1 Ent.Hall.GUEST_STATE] (Ent.Hall.GUEST_STATE n).key := ⟨_, List.mem_singleton.2 rfl, n, 0, 0, by simp only [ent1, Entry.key, Ent.Hall.GUEST_STATE]; omega⟩
theorem has_Hall_HALL_STATE (n : Nat) : hasKey [ent1 Ent.Hall.HALL_STATE] (Ent.Hall.HALL_STATE n).key := ⟨_, List.mem_singleton.2 rfl, n, 0, 0, by simp only [ent1, Entry.key, Ent.Hall.HALL_STATE]; omega⟩
theorem has_Hall_MIGRATIONS (n : Nat) : hasKey [ent1 Ent.Hall.MIGRATIONS] (Ent.Hall.MIGRATIONS n).key := ⟨_, List.mem_singleton.2 rfl, n, 0, 0, by simp only [ent1, Entry.key, Ent.Hall.MIGRATIONS]; omega⟩
theorem has_Hall_RESETS (n : Nat) : hasKey [ent1 Ent.Hall.RESETS] (Ent.Hall.RESETS n).key := ⟨_, List.mem_singleton.2 rfl, n, 0, 0, by simp only [ent1, Entry.key, Ent.Hall.RESETS]; omega⟩
theorem has_Hall_RING_LOST (n : Nat) : hasKey [ent1 Ent.Hall.RING_LOST] (Ent.Hall.RING_LOST n).key := ⟨_, List.mem_singleton.2 rfl, n, 0, 0, by simp only [ent1, Entry.key, Ent.Hall.RING_LOST]; omega⟩
theorem has_Hall_STATE (n : Nat) : hasKey [ent1 Ent.Hall.STATE] (Ent.Hall.STATE n).key := ⟨_, List.mem_singleton.2 rfl, n, 0, 0, by simp only [ent1, Entry.key, Ent.Hall.STATE]; omega⟩
theorem has_Heng_COUNTER_SAT (n : Nat) : hasKey [ent1 Ent.Heng.COUNTER_SAT] (Ent.Heng.COUNTER_SAT n).key := ⟨_, List.mem_singleton.2 rfl, n, 0, 0, by simp only [ent1, Entry.key, Ent.Heng.COUNTER_SAT]; omega⟩
theorem has_Heng_ENABLE (n : Nat) : hasKey [ent1 Ent.Heng.ENABLE] (Ent.Heng.ENABLE n).key := ⟨_, List.mem_singleton.2 rfl, n, 0, 0, by simp only [ent1, Entry.key, Ent.Heng.ENABLE]; omega⟩
theorem has_Heng_NO_QP (n : Nat) : hasKey [ent1 Ent.Heng.NO_QP] (Ent.Heng.NO_QP n).key := ⟨_, List.mem_singleton.2 rfl, n, 0, 0, by simp only [ent1, Entry.key, Ent.Heng.NO_QP]; omega⟩
theorem has_Heng_STATE (n : Nat) : hasKey [ent1 Ent.Heng.STATE] (Ent.Heng.STATE n).key := ⟨_, List.mem_singleton.2 rfl, n, 0, 0, by simp only [ent1, Entry.key, Ent.Heng.STATE]; omega⟩
theorem has_Iommu_WINDOWS (n : Nat) : hasKey [ent1 Ent.Iommu.WINDOWS] (Ent.Iommu.WINDOWS n).key := ⟨_, List.mem_singleton.2 rfl, n, 0, 0, by simp only [ent1, Entry.key, Ent.Iommu.WINDOWS]; omega⟩
theorem has_Key_KEY (n : Nat) : hasKey [ent1 Ent.Key.KEY] (Ent.Key.KEY n).key := ⟨_, List.mem_singleton.2 rfl, n, 0, 0, by simp only [ent1, Entry.key, Ent.Key.KEY]; omega⟩
theorem has_Key_LOADED (n : Nat) : hasKey [ent1 Ent.Key.LOADED] (Ent.Key.LOADED n).key := ⟨_, List.mem_singleton.2 rfl, n, 0, 0, by simp only [ent1, Entry.key, Ent.Key.LOADED]; omega⟩
theorem has_Key_USAGE (n : Nat) : hasKey [ent1 Ent.Key.USAGE] (Ent.Key.USAGE n).key := ⟨_, List.mem_singleton.2 rfl, n, 0, 0, by simp only [ent1, Entry.key, Ent.Key.USAGE]; omega⟩
theorem has_Lc_CLAMP_EVENTS (n : Nat) : hasKey [ent1 Ent.Lc.CLAMP_EVENTS] (Ent.Lc.CLAMP_EVENTS n).key := ⟨_, List.mem_singleton.2 rfl, n, 0, 0, by simp only [ent1, Entry.key, Ent.Lc.CLAMP_EVENTS]; omega⟩
theorem has_Lc_CMD (n : Nat) : hasKey [ent1 Ent.Lc.CMD] (Ent.Lc.CMD n).key := ⟨_, List.mem_singleton.2 rfl, n, 0, 0, by simp only [ent1, Entry.key, Ent.Lc.CMD]; omega⟩
theorem has_Lc_COUNTER_SAT (n : Nat) : hasKey [ent1 Ent.Lc.COUNTER_SAT] (Ent.Lc.COUNTER_SAT n).key := ⟨_, List.mem_singleton.2 rfl, n, 0, 0, by simp only [ent1, Entry.key, Ent.Lc.COUNTER_SAT]; omega⟩
theorem has_Lc_COUPLED_TRIPS (n : Nat) : hasKey [ent1 Ent.Lc.COUPLED_TRIPS] (Ent.Lc.COUPLED_TRIPS n).key := ⟨_, List.mem_singleton.2 rfl, n, 0, 0, by simp only [ent1, Entry.key, Ent.Lc.COUPLED_TRIPS]; omega⟩
theorem has_Lc_CURRENT_MA (n : Nat) : hasKey [ent1 Ent.Lc.CURRENT_MA] (Ent.Lc.CURRENT_MA n).key := ⟨_, List.mem_singleton.2 rfl, n, 0, 0, by simp only [ent1, Entry.key, Ent.Lc.CURRENT_MA]; omega⟩
theorem has_Lc_FLAGS (n : Nat) : hasKey [ent1 Ent.Lc.FLAGS] (Ent.Lc.FLAGS n).key := ⟨_, List.mem_singleton.2 rfl, n, 0, 0, by simp only [ent1, Entry.key, Ent.Lc.FLAGS]; omega⟩
theorem has_Lc_LATCHES (n : Nat) : hasKey [ent1 Ent.Lc.LATCHES] (Ent.Lc.LATCHES n).key := ⟨_, List.mem_singleton.2 rfl, n, 0, 0, by simp only [ent1, Entry.key, Ent.Lc.LATCHES]; omega⟩
theorem has_Lc_LIMIT_EVENTS (n : Nat) : hasKey [ent1 Ent.Lc.LIMIT_EVENTS] (Ent.Lc.LIMIT_EVENTS n).key := ⟨_, List.mem_singleton.2 rfl, n, 0, 0, by simp only [ent1, Entry.key, Ent.Lc.LIMIT_EVENTS]; omega⟩
theorem has_Lc_LOSS_MW : hasKey [ent0 Ent.Lc.LOSS_MW] Ent.Lc.LOSS_MW.key := ⟨_, List.mem_singleton.2 rfl, 0, 0, 0, by simp [ent0, Entry.key, Ent.Lc.LOSS_MW]⟩
theorem has_Lc_OPEN_LOADS (n : Nat) : hasKey [ent1 Ent.Lc.OPEN_LOADS] (Ent.Lc.OPEN_LOADS n).key := ⟨_, List.mem_singleton.2 rfl, n, 0, 0, by simp only [ent1, Entry.key, Ent.Lc.OPEN_LOADS]; omega⟩
theorem has_Lc_RETRIES_LEFT (n : Nat) : hasKey [ent1 Ent.Lc.RETRIES_LEFT] (Ent.Lc.RETRIES_LEFT n).key := ⟨_, List.mem_singleton.2 rfl, n, 0, 0, by simp only [ent1, Entry.key, Ent.Lc.RETRIES_LEFT]; omega⟩
theorem has_Lc_SELEXT : hasKey [ent0 Ent.Lc.SELEXT] Ent.Lc.SELEXT.key := ⟨_, List.mem_singleton.2 rfl, 0, 0, 0, by simp [ent0, Entry.key, Ent.Lc.SELEXT]⟩
theorem has_Lc_SHORTS_VBAT (n : Nat) : hasKey [ent1 Ent.Lc.SHORTS_VBAT] (Ent.Lc.SHORTS_VBAT n).key := ⟨_, List.mem_singleton.2 rfl, n, 0, 0, by simp only [ent1, Entry.key, Ent.Lc.SHORTS_VBAT]; omega⟩
theorem has_Lc_STATE (n : Nat) : hasKey [ent1 Ent.Lc.STATE] (Ent.Lc.STATE n).key := ⟨_, List.mem_singleton.2 rfl, n, 0, 0, by simp only [ent1, Entry.key, Ent.Lc.STATE]; omega⟩
theorem has_Lc_TJ_C (n : Nat) : hasKey [ent1 Ent.Lc.TJ_C] (Ent.Lc.TJ_C n).key := ⟨_, List.mem_singleton.2 rfl, n, 0, 0, by simp only [ent1, Entry.key, Ent.Lc.TJ_C]; omega⟩
theorem has_Lc_TRIPS (n : Nat) : hasKey [ent1 Ent.Lc.TRIPS] (Ent.Lc.TRIPS n).key := ⟨_, List.mem_singleton.2 rfl, n, 0, 0, by simp only [ent1, Entry.key, Ent.Lc.TRIPS]; omega⟩
theorem has_Lcg_DELTA_T_K (n : Nat) : hasKey [ent1 Ent.Lcg.DELTA_T_K] (Ent.Lcg.DELTA_T_K n).key := ⟨_, List.mem_singleton.2 rfl, n, 0, 0, by simp only [ent1, Entry.key, Ent.Lcg.DELTA_T_K]; omega⟩
theorem has_Lcg_DIE_TEMP_C (n : Nat) : hasKey [ent1 Ent.Lcg.DIE_TEMP_C] (Ent.Lcg.DIE_TEMP_C n).key := ⟨_, List.mem_singleton.2 rfl, n, 0, 0, by simp only [ent1, Entry.key, Ent.Lcg.DIE_TEMP_C]; omega⟩
theorem has_Lcg_VBAT_MV (n : Nat) : hasKey [ent1 Ent.Lcg.VBAT_MV] (Ent.Lcg.VBAT_MV n).key := ⟨_, List.mem_singleton.2 rfl, n, 0, 0, by simp only [ent1, Entry.key, Ent.Lcg.VBAT_MV]; omega⟩
theorem has_Lease_COUNTER_SAT : hasKey [ent0 Ent.Lease.COUNTER_SAT] Ent.Lease.COUNTER_SAT.key := ⟨_, List.mem_singleton.2 rfl, 0, 0, 0, by simp [ent0, Entry.key, Ent.Lease.COUNTER_SAT]⟩
theorem has_Lease_LEASE_REFUSALS : hasKey [ent0 Ent.Lease.LEASE_REFUSALS] Ent.Lease.LEASE_REFUSALS.key := ⟨_, List.mem_singleton.2 rfl, 0, 0, 0, by simp [ent0, Entry.key, Ent.Lease.LEASE_REFUSALS]⟩
theorem has_Mem_CE_LAST : hasKey [ent0 Ent.Mem.CE_LAST] Ent.Mem.CE_LAST.key := ⟨_, List.mem_singleton.2 rfl, 0, 0, 0, by simp [ent0, Entry.key, Ent.Mem.CE_LAST]⟩
theorem has_Mem_COUNTER_SAT : hasKey [ent0 Ent.Mem.COUNTER_SAT] Ent.Mem.COUNTER_SAT.key := ⟨_, List.mem_singleton.2 rfl, 0, 0, 0, by simp [ent0, Entry.key, Ent.Mem.COUNTER_SAT]⟩
theorem has_Mem_DRAM_CE : hasKey [ent0 Ent.Mem.DRAM_CE] Ent.Mem.DRAM_CE.key := ⟨_, List.mem_singleton.2 rfl, 0, 0, 0, by simp [ent0, Entry.key, Ent.Mem.DRAM_CE]⟩
theorem has_Mem_DRAM_SIZE_MIB : hasKey [ent0 Ent.Mem.DRAM_SIZE_MIB] Ent.Mem.DRAM_SIZE_MIB.key := ⟨_, List.mem_singleton.2 rfl, 0, 0, 0, by simp [ent0, Entry.key, Ent.Mem.DRAM_SIZE_MIB]⟩
theorem has_Mem_DRAM_UE : hasKey [ent0 Ent.Mem.DRAM_UE] Ent.Mem.DRAM_UE.key := ⟨_, List.mem_singleton.2 rfl, 0, 0, 0, by simp [ent0, Entry.key, Ent.Mem.DRAM_UE]⟩
theorem has_Mem_SRAM_CE : hasKey [ent0 Ent.Mem.SRAM_CE] Ent.Mem.SRAM_CE.key := ⟨_, List.mem_singleton.2 rfl, 0, 0, 0, by simp [ent0, Entry.key, Ent.Mem.SRAM_CE]⟩
theorem has_Mem_SRAM_UE : hasKey [ent0 Ent.Mem.SRAM_UE] Ent.Mem.SRAM_UE.key := ⟨_, List.mem_singleton.2 rfl, 0, 0, 0, by simp [ent0, Entry.key, Ent.Mem.SRAM_UE]⟩
theorem has_Mem_STW_MIB_ACTIVE : hasKey [ent0 Ent.Mem.STW_MIB_ACTIVE] Ent.Mem.STW_MIB_ACTIVE.key := ⟨_, List.mem_singleton.2 rfl, 0, 0, 0, by simp [ent0, Entry.key, Ent.Mem.STW_MIB_ACTIVE]⟩
theorem has_Mem_UE_LAST : hasKey [ent0 Ent.Mem.UE_LAST] Ent.Mem.UE_LAST.key := ⟨_, List.mem_singleton.2 rfl, 0, 0, 0, by simp [ent0, Entry.key, Ent.Mem.UE_LAST]⟩
theorem has_Mod_STRAPS : hasKey [ent0 Ent.Mod.STRAPS] Ent.Mod.STRAPS.key := ⟨_, List.mem_singleton.2 rfl, 0, 0, 0, by simp [ent0, Entry.key, Ent.Mod.STRAPS]⟩
theorem has_Ndp_COUNTER_SAT : hasKey [ent0 Ent.Ndp.COUNTER_SAT] Ent.Ndp.COUNTER_SAT.key := ⟨_, List.mem_singleton.2 rfl, 0, 0, 0, by simp [ent0, Entry.key, Ent.Ndp.COUNTER_SAT]⟩
theorem has_Ndp_RX_DROPPED : hasKey [ent0 Ent.Ndp.RX_DROPPED] Ent.Ndp.RX_DROPPED.key := ⟨_, List.mem_singleton.2 rfl, 0, 0, 0, by simp [ent0, Entry.key, Ent.Ndp.RX_DROPPED]⟩
theorem has_Ndp_RX_REQUESTS : hasKey [ent0 Ent.Ndp.RX_REQUESTS] Ent.Ndp.RX_REQUESTS.key := ⟨_, List.mem_singleton.2 rfl, 0, 0, 0, by simp [ent0, Entry.key, Ent.Ndp.RX_REQUESTS]⟩
theorem has_Ndp_SESSIONS_OPEN : hasKey [ent0 Ent.Ndp.SESSIONS_OPEN] Ent.Ndp.SESSIONS_OPEN.key := ⟨_, List.mem_singleton.2 rfl, 0, 0, 0, by simp [ent0, Entry.key, Ent.Ndp.SESSIONS_OPEN]⟩
theorem has_Pace_COUNTER_SAT : hasKey [ent0 Ent.Pace.COUNTER_SAT] Ent.Pace.COUNTER_SAT.key := ⟨_, List.mem_singleton.2 rfl, 0, 0, 0, by simp [ent0, Entry.key, Ent.Pace.COUNTER_SAT]⟩
theorem has_Pace_PACE_CODE : hasKey [ent0 Ent.Pace.PACE_CODE] Ent.Pace.PACE_CODE.key := ⟨_, List.mem_singleton.2 rfl, 0, 0, 0, by simp [ent0, Entry.key, Ent.Pace.PACE_CODE]⟩
theorem has_Pace_PACE_MODE : hasKey [ent0 Ent.Pace.PACE_MODE] Ent.Pace.PACE_MODE.key := ⟨_, List.mem_singleton.2 rfl, 0, 0, 0, by simp [ent0, Entry.key, Ent.Pace.PACE_MODE]⟩
theorem has_Pace_PACE_SHORT_COUNT : hasKey [ent0 Ent.Pace.PACE_SHORT_COUNT] Ent.Pace.PACE_SHORT_COUNT.key := ⟨_, List.mem_singleton.2 rfl, 0, 0, 0, by simp [ent0, Entry.key, Ent.Pace.PACE_SHORT_COUNT]⟩
theorem has_Pace_PACE_TARGET : hasKey [ent0 Ent.Pace.PACE_TARGET] Ent.Pace.PACE_TARGET.key := ⟨_, List.mem_singleton.2 rfl, 0, 0, 0, by simp [ent0, Entry.key, Ent.Pace.PACE_TARGET]⟩
theorem has_Pace_RAIL_MV : hasKey [ent0 Ent.Pace.RAIL_MV] Ent.Pace.RAIL_MV.key := ⟨_, List.mem_singleton.2 rfl, 0, 0, 0, by simp [ent0, Entry.key, Ent.Pace.RAIL_MV]⟩
theorem has_Pair_COUNTER_SAT (n : Nat) : hasKey [ent1 Ent.Pair.COUNTER_SAT] (Ent.Pair.COUNTER_SAT n).key := ⟨_, List.mem_singleton.2 rfl, n, 0, 0, by simp only [ent1, Entry.key, Ent.Pair.COUNTER_SAT]; omega⟩
theorem has_Pair_MISMATCHES (n : Nat) : hasKey [ent1 Ent.Pair.MISMATCHES] (Ent.Pair.MISMATCHES n).key := ⟨_, List.mem_singleton.2 rfl, n, 0, 0, by simp only [ent1, Entry.key, Ent.Pair.MISMATCHES]; omega⟩
theorem has_Pair_STATE (n : Nat) : hasKey [ent1 Ent.Pair.STATE] (Ent.Pair.STATE n).key := ⟨_, List.mem_singleton.2 rfl, n, 0, 0, by simp only [ent1, Entry.key, Ent.Pair.STATE]; omega⟩
theorem has_Part_COUNTER_SAT (n : Nat) : hasKey [ent1 Ent.Part.COUNTER_SAT] (Ent.Part.COUNTER_SAT n).key := ⟨_, List.mem_singleton.2 rfl, n, 0, 0, by simp only [ent1, Entry.key, Ent.Part.COUNTER_SAT]; omega⟩
theorem has_Part_ERRORS (n : Nat) : hasKey [ent1 Ent.Part.ERRORS] (Ent.Part.ERRORS n).key := ⟨_, List.mem_singleton.2 rfl, n, 0, 0, by simp only [ent1, Entry.key, Ent.Part.ERRORS]; omega⟩
theorem has_Part_READ_BYTES (n : Nat) : hasKey [ent1 Ent.Part.READ_BYTES] (Ent.Part.READ_BYTES n).key := ⟨_, List.mem_singleton.2 rfl, n, 0, 0, by simp only [ent1, Entry.key, Ent.Part.READ_BYTES]; omega⟩
theorem has_Part_WRITE_BYTES (n : Nat) : hasKey [ent1 Ent.Part.WRITE_BYTES] (Ent.Part.WRITE_BYTES n).key := ⟨_, List.mem_singleton.2 rfl, n, 0, 0, by simp only [ent1, Entry.key, Ent.Part.WRITE_BYTES]; omega⟩
theorem has_Port_COLLISIONS (n : Nat) : hasKey [ent1 Ent.Port.COLLISIONS] (Ent.Port.COLLISIONS n).key := ⟨_, List.mem_singleton.2 rfl, n, 0, 0, by simp only [ent1, Entry.key, Ent.Port.COLLISIONS]; omega⟩
theorem has_Port_EGRESS_FILTERED (n : Nat) : hasKey [ent1 Ent.Port.EGRESS_FILTERED] (Ent.Port.EGRESS_FILTERED n).key := ⟨_, List.mem_singleton.2 rfl, n, 0, 0, by simp only [ent1, Entry.key, Ent.Port.EGRESS_FILTERED]; omega⟩
theorem has_Port_ENABLE (n : Nat) : hasKey [ent1 Ent.Port.ENABLE] (Ent.Port.ENABLE n).key := ⟨_, List.mem_singleton.2 rfl, n, 0, 0, by simp only [ent1, Entry.key, Ent.Port.ENABLE]; omega⟩
theorem has_Port_LINK_DOWNS (n : Nat) : hasKey [ent1 Ent.Port.LINK_DOWNS] (Ent.Port.LINK_DOWNS n).key := ⟨_, List.mem_singleton.2 rfl, n, 0, 0, by simp only [ent1, Entry.key, Ent.Port.LINK_DOWNS]; omega⟩
theorem has_Port_PORT_SAT (n : Nat) : hasKey [ent1 Ent.Port.PORT_SAT] (Ent.Port.PORT_SAT n).key := ⟨_, List.mem_singleton.2 rfl, n, 0, 0, by simp only [ent1, Entry.key, Ent.Port.PORT_SAT]; omega⟩
theorem has_Port_RX_BYTES (n : Nat) : hasKey [ent1 Ent.Port.RX_BYTES] (Ent.Port.RX_BYTES n).key := ⟨_, List.mem_singleton.2 rfl, n, 0, 0, by simp only [ent1, Entry.key, Ent.Port.RX_BYTES]; omega⟩
theorem has_Port_RX_DISABLED (n : Nat) : hasKey [ent1 Ent.Port.RX_DISABLED] (Ent.Port.RX_DISABLED n).key := ⟨_, List.mem_singleton.2 rfl, n, 0, 0, by simp only [ent1, Entry.key, Ent.Port.RX_DISABLED]; omega⟩
theorem has_Port_RX_FCS (n : Nat) : hasKey [ent1 Ent.Port.RX_FCS] (Ent.Port.RX_FCS n).key := ⟨_, List.mem_singleton.2 rfl, n, 0, 0, by simp only [ent1, Entry.key, Ent.Port.RX_FCS]; omega⟩
theorem has_Port_RX_FRAMES (n : Nat) : hasKey [ent1 Ent.Port.RX_FRAMES] (Ent.Port.RX_FRAMES n).key := ⟨_, List.mem_singleton.2 rfl, n, 0, 0, by simp only [ent1, Entry.key, Ent.Port.RX_FRAMES]; omega⟩
theorem has_Port_RX_LENGTH (n : Nat) : hasKey [ent1 Ent.Port.RX_LENGTH] (Ent.Port.RX_LENGTH n).key := ⟨_, List.mem_singleton.2 rfl, n, 0, 0, by simp only [ent1, Entry.key, Ent.Port.RX_LENGTH]; omega⟩
theorem has_Port_RX_TYPE (n : Nat) : hasKey [ent1 Ent.Port.RX_TYPE] (Ent.Port.RX_TYPE n).key := ⟨_, List.mem_singleton.2 rfl, n, 0, 0, by simp only [ent1, Entry.key, Ent.Port.RX_TYPE]; omega⟩
theorem has_Port_RX_VLAN (n : Nat) : hasKey [ent1 Ent.Port.RX_VLAN] (Ent.Port.RX_VLAN n).key := ⟨_, List.mem_singleton.2 rfl, n, 0, 0, by simp only [ent1, Entry.key, Ent.Port.RX_VLAN]; omega⟩
theorem has_Port_STATE (n : Nat) : hasKey [ent1 Ent.Port.STATE] (Ent.Port.STATE n).key := ⟨_, List.mem_singleton.2 rfl, n, 0, 0, by simp only [ent1, Entry.key, Ent.Port.STATE]; omega⟩
theorem has_Port_STREAM_DROPS (n : Nat) : hasKey [ent1 Ent.Port.STREAM_DROPS] (Ent.Port.STREAM_DROPS n).key := ⟨_, List.mem_singleton.2 rfl, n, 0, 0, by simp only [ent1, Entry.key, Ent.Port.STREAM_DROPS]; omega⟩
theorem has_Port_TCM_POLICED (n : Nat) : hasKey [ent1 Ent.Port.TCM_POLICED] (Ent.Port.TCM_POLICED n).key := ⟨_, List.mem_singleton.2 rfl, n, 0, 0, by simp only [ent1, Entry.key, Ent.Port.TCM_POLICED]; omega⟩
theorem has_Port_TX_BYTES (n : Nat) : hasKey [ent1 Ent.Port.TX_BYTES] (Ent.Port.TX_BYTES n).key := ⟨_, List.mem_singleton.2 rfl, n, 0, 0, by simp only [ent1, Entry.key, Ent.Port.TX_BYTES]; omega⟩
theorem has_Port_TX_FRAMES (n : Nat) : hasKey [ent1 Ent.Port.TX_FRAMES] (Ent.Port.TX_FRAMES n).key := ⟨_, List.mem_singleton.2 rfl, n, 0, 0, by simp only [ent1, Entry.key, Ent.Port.TX_FRAMES]; omega⟩
theorem has_Port_TX_OVERRUN (n : Nat) : hasKey [ent1 Ent.Port.TX_OVERRUN] (Ent.Port.TX_OVERRUN n).key := ⟨_, List.mem_singleton.2 rfl, n, 0, 0, by simp only [ent1, Entry.key, Ent.Port.TX_OVERRUN]; omega⟩
theorem has_Pq_COPIES_DROPPED (n : Nat) : hasKey [ent1 Ent.Pq.COPIES_DROPPED] (Ent.Pq.COPIES_DROPPED n).key := ⟨_, List.mem_singleton.2 rfl, n, 0, 0, by simp only [ent1, Entry.key, Ent.Pq.COPIES_DROPPED]; omega⟩
theorem has_Pq_COPIES_SENT (n : Nat) : hasKey [ent1 Ent.Pq.COPIES_SENT] (Ent.Pq.COPIES_SENT n).key := ⟨_, List.mem_singleton.2 rfl, n, 0, 0, by simp only [ent1, Entry.key, Ent.Pq.COPIES_SENT]; omega⟩
theorem has_Pq_CT_ABORTED (n : Nat) : hasKey [ent1 Ent.Pq.CT_ABORTED] (Ent.Pq.CT_ABORTED n).key := ⟨_, List.mem_singleton.2 rfl, n, 0, 0, by simp only [ent1, Entry.key, Ent.Pq.CT_ABORTED]; omega⟩
theorem has_Pq_CT_COPIES (n : Nat) : hasKey [ent1 Ent.Pq.CT_COPIES] (Ent.Pq.CT_COPIES n).key := ⟨_, List.mem_singleton.2 rfl, n, 0, 0, by simp only [ent1, Entry.key, Ent.Pq.CT_COPIES]; omega⟩
theorem has_Pq_DROP_DISABLED (n m : Nat) : hasKey [ent2 Ent.Pq.DROP_DISABLED] (Ent.Pq.DROP_DISABLED n m).key := ⟨_, List.mem_singleton.2 rfl, n, m, 0, by simp only [ent2, Entry.key, Ent.Pq.DROP_DISABLED]; omega⟩
theorem has_Pq_DROP_DOWN (n m : Nat) : hasKey [ent2 Ent.Pq.DROP_DOWN] (Ent.Pq.DROP_DOWN n m).key := ⟨_, List.mem_singleton.2 rfl, n, m, 0, by simp only [ent2, Entry.key, Ent.Pq.DROP_DOWN]; omega⟩
theorem has_Pq_DROP_FULL (n m : Nat) : hasKey [ent2 Ent.Pq.DROP_FULL] (Ent.Pq.DROP_FULL n m).key := ⟨_, List.mem_singleton.2 rfl, n, m, 0, by simp only [ent2, Entry.key, Ent.Pq.DROP_FULL]; omega⟩
theorem has_Pq_DROP_RESIDENCE (n m : Nat) : hasKey [ent2 Ent.Pq.DROP_RESIDENCE] (Ent.Pq.DROP_RESIDENCE n m).key := ⟨_, List.mem_singleton.2 rfl, n, m, 0, by simp only [ent2, Entry.key, Ent.Pq.DROP_RESIDENCE]; omega⟩
theorem has_Pq_DROP_STW (n m : Nat) : hasKey [ent2 Ent.Pq.DROP_STW] (Ent.Pq.DROP_STW n m).key := ⟨_, List.mem_singleton.2 rfl, n, m, 0, by simp only [ent2, Entry.key, Ent.Pq.DROP_STW]; omega⟩
theorem has_Pq_ING_OVF (n : Nat) : hasKey [ent1 Ent.Pq.ING_OVF] (Ent.Pq.ING_OVF n).key := ⟨_, List.mem_singleton.2 rfl, n, 0, 0, by simp only [ent1, Entry.key, Ent.Pq.ING_OVF]; omega⟩
theorem has_Pq_NO_DESC (n : Nat) : hasKey [ent1 Ent.Pq.NO_DESC] (Ent.Pq.NO_DESC n).key := ⟨_, List.mem_singleton.2 rfl, n, 0, 0, by simp only [ent1, Entry.key, Ent.Pq.NO_DESC]; omega⟩
theorem has_Pq_OVERSIZE (n : Nat) : hasKey [ent1 Ent.Pq.OVERSIZE] (Ent.Pq.OVERSIZE n).key := ⟨_, List.mem_singleton.2 rfl, n, 0, 0, by simp only [ent1, Entry.key, Ent.Pq.OVERSIZE]; omega⟩
theorem has_Pq_PORT_SAT (n : Nat) : hasKey [ent1 Ent.Pq.PORT_SAT] (Ent.Pq.PORT_SAT n).key := ⟨_, List.mem_singleton.2 rfl, n, 0, 0, by simp only [ent1, Entry.key, Ent.Pq.PORT_SAT]; omega⟩
theorem has_Pq_Q_ENABLE (n m : Nat) : hasKey [ent2 Ent.Pq.Q_ENABLE] (Ent.Pq.Q_ENABLE n m).key := ⟨_, List.mem_singleton.2 rfl, n, m, 0, by simp only [ent2, Entry.key, Ent.Pq.Q_ENABLE]; omega⟩
theorem has_Pq_Q_SAT (n : Nat) : hasKey [ent1 Ent.Pq.Q_SAT] (Ent.Pq.Q_SAT n).key := ⟨_, List.mem_singleton.2 rfl, n, 0, 0, by simp only [ent1, Entry.key, Ent.Pq.Q_SAT]; omega⟩
theorem has_Pq_Q_STATE (n m : Nat) : hasKey [ent2 Ent.Pq.Q_STATE] (Ent.Pq.Q_STATE n m).key := ⟨_, List.mem_singleton.2 rfl, n, m, 0, by simp only [ent2, Entry.key, Ent.Pq.Q_STATE]; omega⟩
theorem has_Pq_Q_TX_FRAMES (n m : Nat) : hasKey [ent2 Ent.Pq.Q_TX_FRAMES] (Ent.Pq.Q_TX_FRAMES n m).key := ⟨_, List.mem_singleton.2 rfl, n, m, 0, by simp only [ent2, Entry.key, Ent.Pq.Q_TX_FRAMES]; omega⟩
theorem has_Pq_SPILLED (n m : Nat) : hasKey [ent2 Ent.Pq.SPILLED] (Ent.Pq.SPILLED n m).key := ⟨_, List.mem_singleton.2 rfl, n, m, 0, by simp only [ent2, Entry.key, Ent.Pq.SPILLED]; omega⟩
theorem has_Ptime_COUNTER_SAT (n : Nat) : hasKey [ent1 Ent.Ptime.COUNTER_SAT] (Ent.Ptime.COUNTER_SAT n).key := ⟨_, List.mem_singleton.2 rfl, n, 0, 0, by simp only [ent1, Entry.key, Ent.Ptime.COUNTER_SAT]; omega⟩
theorem has_Ptime_MEAN_LINK_DELAY (n : Nat) : hasKey [ent1 Ent.Ptime.MEAN_LINK_DELAY] (Ent.Ptime.MEAN_LINK_DELAY n).key := ⟨_, List.mem_singleton.2 rfl, n, 0, 0, by simp only [ent1, Entry.key, Ent.Ptime.MEAN_LINK_DELAY]; omega⟩
theorem has_Ptime_PORT_STATE (n : Nat) : hasKey [ent1 Ent.Ptime.PORT_STATE] (Ent.Ptime.PORT_STATE n).key := ⟨_, List.mem_singleton.2 rfl, n, 0, 0, by simp only [ent1, Entry.key, Ent.Ptime.PORT_STATE]; omega⟩
theorem has_Ptime_RX_STAMPS (n : Nat) : hasKey [ent1 Ent.Ptime.RX_STAMPS] (Ent.Ptime.RX_STAMPS n).key := ⟨_, List.mem_singleton.2 rfl, n, 0, 0, by simp only [ent1, Entry.key, Ent.Ptime.RX_STAMPS]; omega⟩
theorem has_Ptime_TX_STAMPS (n : Nat) : hasKey [ent1 Ent.Ptime.TX_STAMPS] (Ent.Ptime.TX_STAMPS n).key := ⟨_, List.mem_singleton.2 rfl, n, 0, 0, by simp only [ent1, Entry.key, Ent.Ptime.TX_STAMPS]; omega⟩
theorem has_Pwr_BOOT_MS : hasKey [ent0 Ent.Pwr.BOOT_MS] Ent.Pwr.BOOT_MS.key := ⟨_, List.mem_singleton.2 rfl, 0, 0, 0, by simp [ent0, Entry.key, Ent.Pwr.BOOT_MS]⟩
theorem has_Pwr_CHIP_RESETS : hasKey [ent0 Ent.Pwr.CHIP_RESETS] Ent.Pwr.CHIP_RESETS.key := ⟨_, List.mem_singleton.2 rfl, 0, 0, 0, by simp [ent0, Entry.key, Ent.Pwr.CHIP_RESETS]⟩
theorem has_Pwr_COUNTER_SAT : hasKey [ent0 Ent.Pwr.COUNTER_SAT] Ent.Pwr.COUNTER_SAT.key := ⟨_, List.mem_singleton.2 rfl, 0, 0, 0, by simp [ent0, Entry.key, Ent.Pwr.COUNTER_SAT]⟩
theorem has_Pwr_PF_STATE : hasKey [ent0 Ent.Pwr.PF_STATE] Ent.Pwr.PF_STATE.key := ⟨_, List.mem_singleton.2 rfl, 0, 0, 0, by simp [ent0, Entry.key, Ent.Pwr.PF_STATE]⟩
theorem has_Pwr_POWER_FAILS : hasKey [ent0 Ent.Pwr.POWER_FAILS] Ent.Pwr.POWER_FAILS.key := ⟨_, List.mem_singleton.2 rfl, 0, 0, 0, by simp [ent0, Entry.key, Ent.Pwr.POWER_FAILS]⟩
theorem has_Pwr_RECOVERIES : hasKey [ent0 Ent.Pwr.RECOVERIES] Ent.Pwr.RECOVERIES.key := ⟨_, List.mem_singleton.2 rfl, 0, 0, 0, by simp [ent0, Entry.key, Ent.Pwr.RECOVERIES]⟩
theorem has_Pwr_RESET_REASON : hasKey [ent0 Ent.Pwr.RESET_REASON] Ent.Pwr.RESET_REASON.key := ⟨_, List.mem_singleton.2 rfl, 0, 0, 0, by simp [ent0, Entry.key, Ent.Pwr.RESET_REASON]⟩
theorem has_Pwr_SP_FRAME_ERRORS : hasKey [ent0 Ent.Pwr.SP_FRAME_ERRORS] Ent.Pwr.SP_FRAME_ERRORS.key := ⟨_, List.mem_singleton.2 rfl, 0, 0, 0, by simp [ent0, Entry.key, Ent.Pwr.SP_FRAME_ERRORS]⟩
theorem has_Pwr_UNIT_RESETS : hasKey [ent0 Ent.Pwr.UNIT_RESETS] Ent.Pwr.UNIT_RESETS.key := ⟨_, List.mem_singleton.2 rfl, 0, 0, 0, by simp [ent0, Entry.key, Ent.Pwr.UNIT_RESETS]⟩
theorem has_Pwr_VAUX_MV : hasKey [ent0 Ent.Pwr.VAUX_MV] Ent.Pwr.VAUX_MV.key := ⟨_, List.mem_singleton.2 rfl, 0, 0, 0, by simp [ent0, Entry.key, Ent.Pwr.VAUX_MV]⟩
theorem has_Pwr_VIO_STATUS : hasKey [ent0 Ent.Pwr.VIO_STATUS] Ent.Pwr.VIO_STATUS.key := ⟨_, List.mem_singleton.2 rfl, 0, 0, 0, by simp [ent0, Entry.key, Ent.Pwr.VIO_STATUS]⟩
theorem has_Pwr_WARM_RESETS : hasKey [ent0 Ent.Pwr.WARM_RESETS] Ent.Pwr.WARM_RESETS.key := ⟨_, List.mem_singleton.2 rfl, 0, 0, 0, by simp [ent0, Entry.key, Ent.Pwr.WARM_RESETS]⟩
theorem has_Qp_COUNTER_SAT (n : Nat) : hasKey [ent1 Ent.Qp.COUNTER_SAT] (Ent.Qp.COUNTER_SAT n).key := ⟨_, List.mem_singleton.2 rfl, n, 0, 0, by simp only [ent1, Entry.key, Ent.Qp.COUNTER_SAT]; omega⟩
theorem has_Qp_ENABLE (n : Nat) : hasKey [ent1 Ent.Qp.ENABLE] (Ent.Qp.ENABLE n).key := ⟨_, List.mem_singleton.2 rfl, n, 0, 0, by simp only [ent1, Entry.key, Ent.Qp.ENABLE]; omega⟩
theorem has_Qp_ERR_LOST (n : Nat) : hasKey [ent1 Ent.Qp.ERR_LOST] (Ent.Qp.ERR_LOST n).key := ⟨_, List.mem_singleton.2 rfl, n, 0, 0, by simp only [ent1, Entry.key, Ent.Qp.ERR_LOST]; omega⟩
theorem has_Qp_HALL (n : Nat) : hasKey [ent1 Ent.Qp.HALL] (Ent.Qp.HALL n).key := ⟨_, List.mem_singleton.2 rfl, n, 0, 0, by simp only [ent1, Entry.key, Ent.Qp.HALL]; omega⟩
theorem has_Qp_RX_FAULTS (n : Nat) : hasKey [ent1 Ent.Qp.RX_FAULTS] (Ent.Qp.RX_FAULTS n).key := ⟨_, List.mem_singleton.2 rfl, n, 0, 0, by simp only [ent1, Entry.key, Ent.Qp.RX_FAULTS]; omega⟩
theorem has_Qp_RX_FRAMES (n : Nat) : hasKey [ent1 Ent.Qp.RX_FRAMES] (Ent.Qp.RX_FRAMES n).key := ⟨_, List.mem_singleton.2 rfl, n, 0, 0, by simp only [ent1, Entry.key, Ent.Qp.RX_FRAMES]; omega⟩
theorem has_Qp_RX_TRUNC (n : Nat) : hasKey [ent1 Ent.Qp.RX_TRUNC] (Ent.Qp.RX_TRUNC n).key := ⟨_, List.mem_singleton.2 rfl, n, 0, 0, by simp only [ent1, Entry.key, Ent.Qp.RX_TRUNC]; omega⟩
theorem has_Qp_STATE (n : Nat) : hasKey [ent1 Ent.Qp.STATE] (Ent.Qp.STATE n).key := ⟨_, List.mem_singleton.2 rfl, n, 0, 0, by simp only [ent1, Entry.key, Ent.Qp.STATE]; omega⟩
theorem has_Qp_TX_ERRORS (n : Nat) : hasKey [ent1 Ent.Qp.TX_ERRORS] (Ent.Qp.TX_ERRORS n).key := ⟨_, List.mem_singleton.2 rfl, n, 0, 0, by simp only [ent1, Entry.key, Ent.Qp.TX_ERRORS]; omega⟩
theorem has_Qp_TX_FRAMES (n : Nat) : hasKey [ent1 Ent.Qp.TX_FRAMES] (Ent.Qp.TX_FRAMES n).key := ⟨_, List.mem_singleton.2 rfl, n, 0, 0, by simp only [ent1, Entry.key, Ent.Qp.TX_FRAMES]; omega⟩
theorem has_Se_ACTIVE_ID : hasKey [ent0 Ent.Se.ACTIVE_ID] Ent.Se.ACTIVE_ID.key := ⟨_, List.mem_singleton.2 rfl, 0, 0, 0, by simp [ent0, Entry.key, Ent.Se.ACTIVE_ID]⟩
theorem has_Se_CMD_STATUS : hasKey [ent0 Ent.Se.CMD_STATUS] Ent.Se.CMD_STATUS.key := ⟨_, List.mem_singleton.2 rfl, 0, 0, 0, by simp [ent0, Entry.key, Ent.Se.CMD_STATUS]⟩
theorem has_Se_COUNTER_SAT : hasKey [ent0 Ent.Se.COUNTER_SAT] Ent.Se.COUNTER_SAT.key := ⟨_, List.mem_singleton.2 rfl, 0, 0, 0, by simp [ent0, Entry.key, Ent.Se.COUNTER_SAT]⟩
theorem has_Se_DONE_IGNORED : hasKey [ent0 Ent.Se.DONE_IGNORED] Ent.Se.DONE_IGNORED.key := ⟨_, List.mem_singleton.2 rfl, 0, 0, 0, by simp [ent0, Entry.key, Ent.Se.DONE_IGNORED]⟩
theorem has_Se_FAULT_CAUSE : hasKey [ent0 Ent.Se.FAULT_CAUSE] Ent.Se.FAULT_CAUSE.key := ⟨_, List.mem_singleton.2 rfl, 0, 0, 0, by simp [ent0, Entry.key, Ent.Se.FAULT_CAUSE]⟩
theorem has_Se_RETAIN_STATUS : hasKey [ent0 Ent.Se.RETAIN_STATUS] Ent.Se.RETAIN_STATUS.key := ⟨_, List.mem_singleton.2 rfl, 0, 0, 0, by simp [ent0, Entry.key, Ent.Se.RETAIN_STATUS]⟩
theorem has_Se_STATE : hasKey [ent0 Ent.Se.STATE] Ent.Se.STATE.key := ⟨_, List.mem_singleton.2 rfl, 0, 0, 0, by simp [ent0, Entry.key, Ent.Se.STATE]⟩
theorem has_Se_STN_UNKNOWN : hasKey [ent0 Ent.Se.STN_UNKNOWN] Ent.Se.STN_UNKNOWN.key := ⟨_, List.mem_singleton.2 rfl, 0, 0, 0, by simp [ent0, Entry.key, Ent.Se.STN_UNKNOWN]⟩
theorem has_Sec_DBG_ACTIVE : hasKey [ent0 Ent.Sec.DBG_ACTIVE] Ent.Sec.DBG_ACTIVE.key := ⟨_, List.mem_singleton.2 rfl, 0, 0, 0, by simp [ent0, Entry.key, Ent.Sec.DBG_ACTIVE]⟩
theorem has_Sec_DBG_CHALLENGE : hasKey [ent0 Ent.Sec.DBG_CHALLENGE] Ent.Sec.DBG_CHALLENGE.key := ⟨_, List.mem_singleton.2 rfl, 0, 0, 0, by simp [ent0, Entry.key, Ent.Sec.DBG_CHALLENGE]⟩
theorem has_Sec_DBG_EN : hasKey [ent0 Ent.Sec.DBG_EN] Ent.Sec.DBG_EN.key := ⟨_, List.mem_singleton.2 rfl, 0, 0, 0, by simp [ent0, Entry.key, Ent.Sec.DBG_EN]⟩
theorem has_Sec_KEY_REVOKED : hasKey [ent0 Ent.Sec.KEY_REVOKED] Ent.Sec.KEY_REVOKED.key := ⟨_, List.mem_singleton.2 rfl, 0, 0, 0, by simp [ent0, Entry.key, Ent.Sec.KEY_REVOKED]⟩
theorem has_Sec_LIFECYCLE : hasKey [ent0 Ent.Sec.LIFECYCLE] Ent.Sec.LIFECYCLE.key := ⟨_, List.mem_singleton.2 rfl, 0, 0, 0, by simp [ent0, Entry.key, Ent.Sec.LIFECYCLE]⟩
theorem has_Sec_ROLLBACK : hasKey [ent0 Ent.Sec.ROLLBACK] Ent.Sec.ROLLBACK.key := ⟨_, List.mem_singleton.2 rfl, 0, 0, 0, by simp [ent0, Entry.key, Ent.Sec.ROLLBACK]⟩
theorem has_Seimg_ACTIVE_IMAGE : hasKey [ent0 Ent.Seimg.ACTIVE_IMAGE] Ent.Seimg.ACTIVE_IMAGE.key := ⟨_, List.mem_singleton.2 rfl, 0, 0, 0, by simp [ent0, Entry.key, Ent.Seimg.ACTIVE_IMAGE]⟩
theorem has_Slog_COUNTER_SAT : hasKey [ent0 Ent.Slog.COUNTER_SAT] Ent.Slog.COUNTER_SAT.key := ⟨_, List.mem_singleton.2 rfl, 0, 0, 0, by simp [ent0, Entry.key, Ent.Slog.COUNTER_SAT]⟩
theorem has_Slog_SWDT_EXPIRIES : hasKey [ent0 Ent.Slog.SWDT_EXPIRIES] Ent.Slog.SWDT_EXPIRIES.key := ⟨_, List.mem_singleton.2 rfl, 0, 0, 0, by simp [ent0, Entry.key, Ent.Slog.SWDT_EXPIRIES]⟩
theorem has_Slog_SWDT_PERIOD_MS : hasKey [ent0 Ent.Slog.SWDT_PERIOD_MS] Ent.Slog.SWDT_PERIOD_MS.key := ⟨_, List.mem_singleton.2 rfl, 0, 0, 0, by simp [ent0, Entry.key, Ent.Slog.SWDT_PERIOD_MS]⟩
theorem has_Slp_ABORTS : hasKey [ent0 Ent.Slp.ABORTS] Ent.Slp.ABORTS.key := ⟨_, List.mem_singleton.2 rfl, 0, 0, 0, by simp [ent0, Entry.key, Ent.Slp.ABORTS]⟩
theorem has_Slp_COUNTER_SAT : hasKey [ent0 Ent.Slp.COUNTER_SAT] Ent.Slp.COUNTER_SAT.key := ⟨_, List.mem_singleton.2 rfl, 0, 0, 0, by simp [ent0, Entry.key, Ent.Slp.COUNTER_SAT]⟩
theorem has_Slp_ENTRY : hasKey [ent0 Ent.Slp.ENTRY] Ent.Slp.ENTRY.key := ⟨_, List.mem_singleton.2 rfl, 0, 0, 0, by simp [ent0, Entry.key, Ent.Slp.ENTRY]⟩
theorem has_Slp_POWER_REQ : hasKey [ent0 Ent.Slp.POWER_REQ] Ent.Slp.POWER_REQ.key := ⟨_, List.mem_singleton.2 rfl, 0, 0, 0, by simp [ent0, Entry.key, Ent.Slp.POWER_REQ]⟩
theorem has_Slp_SLEEPS : hasKey [ent0 Ent.Slp.SLEEPS] Ent.Slp.SLEEPS.key := ⟨_, List.mem_singleton.2 rfl, 0, 0, 0, by simp [ent0, Entry.key, Ent.Slp.SLEEPS]⟩
theorem has_Slp_WAKE_RECORD : hasKey [ent0 Ent.Slp.WAKE_RECORD] Ent.Slp.WAKE_RECORD.key := ⟨_, List.mem_singleton.2 rfl, 0, 0, 0, by simp [ent0, Entry.key, Ent.Slp.WAKE_RECORD]⟩
theorem has_Stg_STAGING : hasKey [ent0 Ent.Stg.STAGING] Ent.Stg.STAGING.key := ⟨_, List.mem_singleton.2 rfl, 0, 0, 0, by simp [ent0, Entry.key, Ent.Stg.STAGING]⟩
theorem has_Stlog_LOG_MIB : hasKey [ent0 Ent.Stlog.LOG_MIB] Ent.Stlog.LOG_MIB.key := ⟨_, List.mem_singleton.2 rfl, 0, 0, 0, by simp [ent0, Entry.key, Ent.Stlog.LOG_MIB]⟩
theorem has_Stlog_LOG_NEXT : hasKey [ent0 Ent.Stlog.LOG_NEXT] Ent.Stlog.LOG_NEXT.key := ⟨_, List.mem_singleton.2 rfl, 0, 0, 0, by simp [ent0, Entry.key, Ent.Stlog.LOG_NEXT]⟩
theorem has_Stlog_LOG_OLDEST : hasKey [ent0 Ent.Stlog.LOG_OLDEST] Ent.Stlog.LOG_OLDEST.key := ⟨_, List.mem_singleton.2 rfl, 0, 0, 0, by simp [ent0, Entry.key, Ent.Stlog.LOG_OLDEST]⟩
theorem has_Stn_COUNTER_SAT (n : Nat) : hasKey [ent1 Ent.Stn.COUNTER_SAT] (Ent.Stn.COUNTER_SAT n).key := ⟨_, List.mem_singleton.2 rfl, n, 0, 0, by simp only [ent1, Entry.key, Ent.Stn.COUNTER_SAT]; omega⟩
theorem has_Stn_LOSSES (n : Nat) : hasKey [ent1 Ent.Stn.LOSSES] (Ent.Stn.LOSSES n).key := ⟨_, List.mem_singleton.2 rfl, n, 0, 0, by simp only [ent1, Entry.key, Ent.Stn.LOSSES]; omega⟩
theorem has_Stn_RX_BAD (n : Nat) : hasKey [ent1 Ent.Stn.RX_BAD] (Ent.Stn.RX_BAD n).key := ⟨_, List.mem_singleton.2 rfl, n, 0, 0, by simp only [ent1, Entry.key, Ent.Stn.RX_BAD]; omega⟩
theorem has_Stn_RX_FRAMES (n : Nat) : hasKey [ent1 Ent.Stn.RX_FRAMES] (Ent.Stn.RX_FRAMES n).key := ⟨_, List.mem_singleton.2 rfl, n, 0, 0, by simp only [ent1, Entry.key, Ent.Stn.RX_FRAMES]; omega⟩
theorem has_Stn_RX_STALE (n : Nat) : hasKey [ent1 Ent.Stn.RX_STALE] (Ent.Stn.RX_STALE n).key := ⟨_, List.mem_singleton.2 rfl, n, 0, 0, by simp only [ent1, Entry.key, Ent.Stn.RX_STALE]; omega⟩
theorem has_Stn_STATE (n : Nat) : hasKey [ent1 Ent.Stn.STATE] (Ent.Stn.STATE n).key := ⟨_, List.mem_singleton.2 rfl, n, 0, 0, by simp only [ent1, Entry.key, Ent.Stn.STATE]; omega⟩
theorem has_Stn_TX_FRAMES (n : Nat) : hasKey [ent1 Ent.Stn.TX_FRAMES] (Ent.Stn.TX_FRAMES n).key := ⟨_, List.mem_singleton.2 rfl, n, 0, 0, by simp only [ent1, Entry.key, Ent.Stn.TX_FRAMES]; omega⟩
theorem has_Stn_TX_HELD (n : Nat) : hasKey [ent1 Ent.Stn.TX_HELD] (Ent.Stn.TX_HELD n).key := ⟨_, List.mem_singleton.2 rfl, n, 0, 0, by simp only [ent1, Entry.key, Ent.Stn.TX_HELD]; omega⟩
theorem has_Sto_BAD_GROWN : hasKey [ent0 Ent.Sto.BAD_GROWN] Ent.Sto.BAD_GROWN.key := ⟨_, List.mem_singleton.2 rfl, 0, 0, 0, by simp [ent0, Entry.key, Ent.Sto.BAD_GROWN]⟩
theorem has_Sto_CORRECTED_CW : hasKey [ent0 Ent.Sto.CORRECTED_CW] Ent.Sto.CORRECTED_CW.key := ⟨_, List.mem_singleton.2 rfl, 0, 0, 0, by simp [ent0, Entry.key, Ent.Sto.CORRECTED_CW]⟩
theorem has_Sto_COUNTER_SAT : hasKey [ent0 Ent.Sto.COUNTER_SAT] Ent.Sto.COUNTER_SAT.key := ⟨_, List.mem_singleton.2 rfl, 0, 0, 0, by simp [ent0, Entry.key, Ent.Sto.COUNTER_SAT]⟩
theorem has_Sto_ERASE_MAX : hasKey [ent0 Ent.Sto.ERASE_MAX] Ent.Sto.ERASE_MAX.key := ⟨_, List.mem_singleton.2 rfl, 0, 0, 0, by simp [ent0, Entry.key, Ent.Sto.ERASE_MAX]⟩
theorem has_Sto_ERASE_MEAN : hasKey [ent0 Ent.Sto.ERASE_MEAN] Ent.Sto.ERASE_MEAN.key := ⟨_, List.mem_singleton.2 rfl, 0, 0, 0, by simp [ent0, Entry.key, Ent.Sto.ERASE_MEAN]⟩
theorem has_Sto_HEALTH : hasKey [ent0 Ent.Sto.HEALTH] Ent.Sto.HEALTH.key := ⟨_, List.mem_singleton.2 rfl, 0, 0, 0, by simp [ent0, Entry.key, Ent.Sto.HEALTH]⟩
theorem has_Sto_HOST_WRITE_BYTES : hasKey [ent0 Ent.Sto.HOST_WRITE_BYTES] Ent.Sto.HOST_WRITE_BYTES.key := ⟨_, List.mem_singleton.2 rfl, 0, 0, 0, by simp [ent0, Entry.key, Ent.Sto.HOST_WRITE_BYTES]⟩
theorem has_Sto_LIFE_USED : hasKey [ent0 Ent.Sto.LIFE_USED] Ent.Sto.LIFE_USED.key := ⟨_, List.mem_singleton.2 rfl, 0, 0, 0, by simp [ent0, Entry.key, Ent.Sto.LIFE_USED]⟩
theorem has_Sto_MOUNTS_UNCLEAN : hasKey [ent0 Ent.Sto.MOUNTS_UNCLEAN] Ent.Sto.MOUNTS_UNCLEAN.key := ⟨_, List.mem_singleton.2 rfl, 0, 0, 0, by simp [ent0, Entry.key, Ent.Sto.MOUNTS_UNCLEAN]⟩
theorem has_Sto_NAND_WRITE_BYTES : hasKey [ent0 Ent.Sto.NAND_WRITE_BYTES] Ent.Sto.NAND_WRITE_BYTES.key := ⟨_, List.mem_singleton.2 rfl, 0, 0, 0, by simp [ent0, Entry.key, Ent.Sto.NAND_WRITE_BYTES]⟩
theorem has_Sto_READ_BYTES : hasKey [ent0 Ent.Sto.READ_BYTES] Ent.Sto.READ_BYTES.key := ⟨_, List.mem_singleton.2 rfl, 0, 0, 0, by simp [ent0, Entry.key, Ent.Sto.READ_BYTES]⟩
theorem has_Sto_REFRESHES : hasKey [ent0 Ent.Sto.REFRESHES] Ent.Sto.REFRESHES.key := ⟨_, List.mem_singleton.2 rfl, 0, 0, 0, by simp [ent0, Entry.key, Ent.Sto.REFRESHES]⟩
theorem has_Sto_SPARE_BLOCKS : hasKey [ent0 Ent.Sto.SPARE_BLOCKS] Ent.Sto.SPARE_BLOCKS.key := ⟨_, List.mem_singleton.2 rfl, 0, 0, 0, by simp [ent0, Entry.key, Ent.Sto.SPARE_BLOCKS]⟩
theorem has_Sto_UNCORRECTABLE : hasKey [ent0 Ent.Sto.UNCORRECTABLE] Ent.Sto.UNCORRECTABLE.key := ⟨_, List.mem_singleton.2 rfl, 0, 0, 0, by simp [ent0, Entry.key, Ent.Sto.UNCORRECTABLE]⟩
theorem has_Stw_COUNTER_SAT : hasKey [ent0 Ent.Stw.COUNTER_SAT] Ent.Stw.COUNTER_SAT.key := ⟨_, List.mem_singleton.2 rfl, 0, 0, 0, by simp [ent0, Entry.key, Ent.Stw.COUNTER_SAT]⟩
theorem has_Stw_STW_ECC_DROPS : hasKey [ent0 Ent.Stw.STW_ECC_DROPS] Ent.Stw.STW_ECC_DROPS.key := ⟨_, List.mem_singleton.2 rfl, 0, 0, 0, by simp [ent0, Entry.key, Ent.Stw.STW_ECC_DROPS]⟩
theorem has_Stw_STW_SIZE : hasKey [ent0 Ent.Stw.STW_SIZE] Ent.Stw.STW_SIZE.key := ⟨_, List.mem_singleton.2 rfl, 0, 0, 0, by simp [ent0, Entry.key, Ent.Stw.STW_SIZE]⟩
theorem has_Swc_SHARED_SIZE : hasKey [ent0 Ent.Swc.SHARED_SIZE] Ent.Swc.SHARED_SIZE.key := ⟨_, List.mem_singleton.2 rfl, 0, 0, 0, by simp [ent0, Entry.key, Ent.Swc.SHARED_SIZE]⟩
theorem has_Task_COUNTER_SAT (n : Nat) : hasKey [ent1 Ent.Task.COUNTER_SAT] (Ent.Task.COUNTER_SAT n).key := ⟨_, List.mem_singleton.2 rfl, n, 0, 0, by simp only [ent1, Entry.key, Ent.Task.COUNTER_SAT]; omega⟩
theorem has_Task_CYCLES (n : Nat) : hasKey [ent1 Ent.Task.CYCLES] (Ent.Task.CYCLES n).key := ⟨_, List.mem_singleton.2 rfl, n, 0, 0, by simp only [ent1, Entry.key, Ent.Task.CYCLES]; omega⟩
theorem has_Task_LAST_EXEC_NS (n : Nat) : hasKey [ent1 Ent.Task.LAST_EXEC_NS] (Ent.Task.LAST_EXEC_NS n).key := ⟨_, List.mem_singleton.2 rfl, n, 0, 0, by simp only [ent1, Entry.key, Ent.Task.LAST_EXEC_NS]; omega⟩
theorem has_Task_MAX_DELAY_NS (n : Nat) : hasKey [ent1 Ent.Task.MAX_DELAY_NS] (Ent.Task.MAX_DELAY_NS n).key := ⟨_, List.mem_singleton.2 rfl, n, 0, 0, by simp only [ent1, Entry.key, Ent.Task.MAX_DELAY_NS]; omega⟩
theorem has_Task_MAX_EXEC_NS (n : Nat) : hasKey [ent1 Ent.Task.MAX_EXEC_NS] (Ent.Task.MAX_EXEC_NS n).key := ⟨_, List.mem_singleton.2 rfl, n, 0, 0, by simp only [ent1, Entry.key, Ent.Task.MAX_EXEC_NS]; omega⟩
theorem has_Task_MERGED (n : Nat) : hasKey [ent1 Ent.Task.MERGED] (Ent.Task.MERGED n).key := ⟨_, List.mem_singleton.2 rfl, n, 0, 0, by simp only [ent1, Entry.key, Ent.Task.MERGED]; omega⟩
theorem has_Task_SKIPPED (n : Nat) : hasKey [ent1 Ent.Task.SKIPPED] (Ent.Task.SKIPPED n).key := ⟨_, List.mem_singleton.2 rfl, n, 0, 0, by simp only [ent1, Entry.key, Ent.Task.SKIPPED]; omega⟩
theorem has_Time_COUNTER_SAT : hasKey [ent0 Ent.Time.COUNTER_SAT] Ent.Time.COUNTER_SAT.key := ⟨_, List.mem_singleton.2 rfl, 0, 0, 0, by simp [ent0, Entry.key, Ent.Time.COUNTER_SAT]⟩
theorem has_Time_GM_IDENTITY : hasKey [ent0 Ent.Time.GM_IDENTITY] Ent.Time.GM_IDENTITY.key := ⟨_, List.mem_singleton.2 rfl, 0, 0, 0, by simp [ent0, Entry.key, Ent.Time.GM_IDENTITY]⟩
theorem has_Time_MASTER_OFFSET : hasKey [ent0 Ent.Time.MASTER_OFFSET] Ent.Time.MASTER_OFFSET.key := ⟨_, List.mem_singleton.2 rfl, 0, 0, 0, by simp [ent0, Entry.key, Ent.Time.MASTER_OFFSET]⟩
theorem has_Time_STEPS : hasKey [ent0 Ent.Time.STEPS] Ent.Time.STEPS.key := ⟨_, List.mem_singleton.2 rfl, 0, 0, 0, by simp [ent0, Entry.key, Ent.Time.STEPS]⟩
theorem has_Trgp_CAPTURE_LOST (n : Nat) : hasKey [ent1 Ent.Trgp.CAPTURE_LOST] (Ent.Trgp.CAPTURE_LOST n).key := ⟨_, List.mem_singleton.2 rfl, n, 0, 0, by simp only [ent1, Entry.key, Ent.Trgp.CAPTURE_LOST]; omega⟩
theorem has_Trgp_COUNTER_SAT (n : Nat) : hasKey [ent1 Ent.Trgp.COUNTER_SAT] (Ent.Trgp.COUNTER_SAT n).key := ⟨_, List.mem_singleton.2 rfl, n, 0, 0, by simp only [ent1, Entry.key, Ent.Trgp.COUNTER_SAT]; omega⟩
theorem has_Trgu_COUNT (n : Nat) : hasKey [ent1 Ent.Trgu.COUNT] (Ent.Trgu.COUNT n).key := ⟨_, List.mem_singleton.2 rfl, n, 0, 0, by simp only [ent1, Entry.key, Ent.Trgu.COUNT]; omega⟩
theorem has_Trgu_COUNTER_SAT (n : Nat) : hasKey [ent1 Ent.Trgu.COUNTER_SAT] (Ent.Trgu.COUNTER_SAT n).key := ⟨_, List.mem_singleton.2 rfl, n, 0, 0, by simp only [ent1, Entry.key, Ent.Trgu.COUNTER_SAT]; omega⟩
theorem has_Trgu_ENABLE (n : Nat) : hasKey [ent1 Ent.Trgu.ENABLE] (Ent.Trgu.ENABLE n).key := ⟨_, List.mem_singleton.2 rfl, n, 0, 0, by simp only [ent1, Entry.key, Ent.Trgu.ENABLE]; omega⟩
theorem has_Trgu_FIRED (n : Nat) : hasKey [ent1 Ent.Trgu.FIRED] (Ent.Trgu.FIRED n).key := ⟨_, List.mem_singleton.2 rfl, n, 0, 0, by simp only [ent1, Entry.key, Ent.Trgu.FIRED]; omega⟩
theorem has_Trgu_MISSED (n : Nat) : hasKey [ent1 Ent.Trgu.MISSED] (Ent.Trgu.MISSED n).key := ⟨_, List.mem_singleton.2 rfl, n, 0, 0, by simp only [ent1, Entry.key, Ent.Trgu.MISSED]; omega⟩
theorem has_Trgu_NEXT_NS (n : Nat) : hasKey [ent1 Ent.Trgu.NEXT_NS] (Ent.Trgu.NEXT_NS n).key := ⟨_, List.mem_singleton.2 rfl, n, 0, 0, by simp only [ent1, Entry.key, Ent.Trgu.NEXT_NS]; omega⟩
theorem has_Trgu_OWNER (n : Nat) : hasKey [ent1 Ent.Trgu.OWNER] (Ent.Trgu.OWNER n).key := ⟨_, List.mem_singleton.2 rfl, n, 0, 0, by simp only [ent1, Entry.key, Ent.Trgu.OWNER]; omega⟩
theorem has_Trgu_PERIOD_NS (n : Nat) : hasKey [ent1 Ent.Trgu.PERIOD_NS] (Ent.Trgu.PERIOD_NS n).key := ⟨_, List.mem_singleton.2 rfl, n, 0, 0, by simp only [ent1, Entry.key, Ent.Trgu.PERIOD_NS]; omega⟩
theorem has_Trgu_START_NS (n : Nat) : hasKey [ent1 Ent.Trgu.START_NS] (Ent.Trgu.START_NS n).key := ⟨_, List.mem_singleton.2 rfl, n, 0, 0, by simp only [ent1, Entry.key, Ent.Trgu.START_NS]; omega⟩
theorem has_Trgu_TARGET (n : Nat) : hasKey [ent1 Ent.Trgu.TARGET] (Ent.Trgu.TARGET n).key := ⟨_, List.mem_singleton.2 rfl, n, 0, 0, by simp only [ent1, Entry.key, Ent.Trgu.TARGET]; omega⟩
theorem has_Tun_COUNTER_SAT (n : Nat) : hasKey [ent1 Ent.Tun.COUNTER_SAT] (Ent.Tun.COUNTER_SAT n).key := ⟨_, List.mem_singleton.2 rfl, n, 0, 0, by simp only [ent1, Entry.key, Ent.Tun.COUNTER_SAT]; omega⟩
theorem has_Tun_TUN_DROPPED (n : Nat) : hasKey [ent1 Ent.Tun.TUN_DROPPED] (Ent.Tun.TUN_DROPPED n).key := ⟨_, List.mem_singleton.2 rfl, n, 0, 0, by simp only [ent1, Entry.key, Ent.Tun.TUN_DROPPED]; omega⟩
theorem has_Tun_TUN_IN (n : Nat) : hasKey [ent1 Ent.Tun.TUN_IN] (Ent.Tun.TUN_IN n).key := ⟨_, List.mem_singleton.2 rfl, n, 0, 0, by simp only [ent1, Entry.key, Ent.Tun.TUN_IN]; omega⟩
theorem has_Tun_TUN_OUT (n : Nat) : hasKey [ent1 Ent.Tun.TUN_OUT] (Ent.Tun.TUN_OUT n).key := ⟨_, List.mem_singleton.2 rfl, n, 0, 0, by simp only [ent1, Entry.key, Ent.Tun.TUN_OUT]; omega⟩
theorem has_Tws_CMD_STATUS : hasKey [ent0 Ent.Tws.CMD_STATUS] Ent.Tws.CMD_STATUS.key := ⟨_, List.mem_singleton.2 rfl, 0, 0, 0, by simp [ent0, Entry.key, Ent.Tws.CMD_STATUS]⟩
theorem has_Tws_COUNTER_SAT : hasKey [ent0 Ent.Tws.COUNTER_SAT] Ent.Tws.COUNTER_SAT.key := ⟨_, List.mem_singleton.2 rfl, 0, 0, 0, by simp [ent0, Entry.key, Ent.Tws.COUNTER_SAT]⟩
theorem has_Tws_GAL_AUTH_FAIL : hasKey [ent0 Ent.Tws.GAL_AUTH_FAIL] Ent.Tws.GAL_AUTH_FAIL.key := ⟨_, List.mem_singleton.2 rfl, 0, 0, 0, by simp [ent0, Entry.key, Ent.Tws.GAL_AUTH_FAIL]⟩
theorem has_Tws_HANDOVERS : hasKey [ent0 Ent.Tws.HANDOVERS] Ent.Tws.HANDOVERS.key := ⟨_, List.mem_singleton.2 rfl, 0, 0, 0, by simp [ent0, Entry.key, Ent.Tws.HANDOVERS]⟩
theorem has_Tws_OUT_MISMATCHES : hasKey [ent0 Ent.Tws.OUT_MISMATCHES] Ent.Tws.OUT_MISMATCHES.key := ⟨_, List.mem_singleton.2 rfl, 0, 0, 0, by simp [ent0, Entry.key, Ent.Tws.OUT_MISMATCHES]⟩
theorem has_Tws_PATHS : hasKey [ent0 Ent.Tws.PATHS] Ent.Tws.PATHS.key := ⟨_, List.mem_singleton.2 rfl, 0, 0, 0, by simp [ent0, Entry.key, Ent.Tws.PATHS]⟩
theorem has_Tws_PEER_EPOCH : hasKey [ent0 Ent.Tws.PEER_EPOCH] Ent.Tws.PEER_EPOCH.key := ⟨_, List.mem_singleton.2 rfl, 0, 0, 0, by simp [ent0, Entry.key, Ent.Tws.PEER_EPOCH]⟩
theorem has_Tws_PEER_ROLE : hasKey [ent0 Ent.Tws.PEER_ROLE] Ent.Tws.PEER_ROLE.key := ⟨_, List.mem_singleton.2 rfl, 0, 0, 0, by simp [ent0, Entry.key, Ent.Tws.PEER_ROLE]⟩
theorem has_Tws_POSITION : hasKey [ent0 Ent.Tws.POSITION] Ent.Tws.POSITION.key := ⟨_, List.mem_singleton.2 rfl, 0, 0, 0, by simp [ent0, Entry.key, Ent.Tws.POSITION]⟩
theorem has_Tws_PROMOTIONS : hasKey [ent0 Ent.Tws.PROMOTIONS] Ent.Tws.PROMOTIONS.key := ⟨_, List.mem_singleton.2 rfl, 0, 0, 0, by simp [ent0, Entry.key, Ent.Tws.PROMOTIONS]⟩
theorem has_Tws_REPL_LATE : hasKey [ent0 Ent.Tws.REPL_LATE] Ent.Tws.REPL_LATE.key := ⟨_, List.mem_singleton.2 rfl, 0, 0, 0, by simp [ent0, Entry.key, Ent.Tws.REPL_LATE]⟩
theorem has_Tws_ROLE : hasKey [ent0 Ent.Tws.ROLE] Ent.Tws.ROLE.key := ⟨_, List.mem_singleton.2 rfl, 0, 0, 0, by simp [ent0, Entry.key, Ent.Tws.ROLE]⟩
theorem has_Tws_ROLE_EPOCH : hasKey [ent0 Ent.Tws.ROLE_EPOCH] Ent.Tws.ROLE_EPOCH.key := ⟨_, List.mem_singleton.2 rfl, 0, 0, 0, by simp [ent0, Entry.key, Ent.Tws.ROLE_EPOCH]⟩
theorem has_Tws_SPLIT_PATHS : hasKey [ent0 Ent.Tws.SPLIT_PATHS] Ent.Tws.SPLIT_PATHS.key := ⟨_, List.mem_singleton.2 rfl, 0, 0, 0, by simp [ent0, Entry.key, Ent.Tws.SPLIT_PATHS]⟩
theorem has_Tws_WIRING_FAULTS : hasKey [ent0 Ent.Tws.WIRING_FAULTS] Ent.Tws.WIRING_FAULTS.key := ⟨_, List.mem_singleton.2 rfl, 0, 0, 0, by simp [ent0, Entry.key, Ent.Tws.WIRING_FAULTS]⟩
theorem has_Upd_ACTIVE_SEC_VERSION : hasKey [ent0 Ent.Upd.ACTIVE_SEC_VERSION] Ent.Upd.ACTIVE_SEC_VERSION.key := ⟨_, List.mem_singleton.2 rfl, 0, 0, 0, by simp [ent0, Entry.key, Ent.Upd.ACTIVE_SEC_VERSION]⟩
theorem has_Upd_ACTIVE_VERSION : hasKey [ent0 Ent.Upd.ACTIVE_VERSION] Ent.Upd.ACTIVE_VERSION.key := ⟨_, List.mem_singleton.2 rfl, 0, 0, 0, by simp [ent0, Entry.key, Ent.Upd.ACTIVE_VERSION]⟩
theorem has_Upd_COUNTER_SAT : hasKey [ent0 Ent.Upd.COUNTER_SAT] Ent.Upd.COUNTER_SAT.key := ⟨_, List.mem_singleton.2 rfl, 0, 0, 0, by simp [ent0, Entry.key, Ent.Upd.COUNTER_SAT]⟩
theorem has_Upd_FAILED_STARTS : hasKey [ent0 Ent.Upd.FAILED_STARTS] Ent.Upd.FAILED_STARTS.key := ⟨_, List.mem_singleton.2 rfl, 0, 0, 0, by simp [ent0, Entry.key, Ent.Upd.FAILED_STARTS]⟩
theorem has_Upd_IMAGE_STATE : hasKey [ent0 Ent.Upd.IMAGE_STATE] Ent.Upd.IMAGE_STATE.key := ⟨_, List.mem_singleton.2 rfl, 0, 0, 0, by simp [ent0, Entry.key, Ent.Upd.IMAGE_STATE]⟩
theorem has_Upd_LAST_RESULT : hasKey [ent0 Ent.Upd.LAST_RESULT] Ent.Upd.LAST_RESULT.key := ⟨_, List.mem_singleton.2 rfl, 0, 0, 0, by simp [ent0, Entry.key, Ent.Upd.LAST_RESULT]⟩
theorem has_Upd_REJECTS : hasKey [ent0 Ent.Upd.REJECTS] Ent.Upd.REJECTS.key := ⟨_, List.mem_singleton.2 rfl, 0, 0, 0, by simp [ent0, Entry.key, Ent.Upd.REJECTS]⟩
theorem has_Upd_RESCUE_STARTS : hasKey [ent0 Ent.Upd.RESCUE_STARTS] Ent.Upd.RESCUE_STARTS.key := ⟨_, List.mem_singleton.2 rfl, 0, 0, 0, by simp [ent0, Entry.key, Ent.Upd.RESCUE_STARTS]⟩
theorem has_Upd_SETTINGS_VERSION : hasKey [ent0 Ent.Upd.SETTINGS_VERSION] Ent.Upd.SETTINGS_VERSION.key := ⟨_, List.mem_singleton.2 rfl, 0, 0, 0, by simp [ent0, Entry.key, Ent.Upd.SETTINGS_VERSION]⟩
theorem has_Upd_STAGED_VERSION : hasKey [ent0 Ent.Upd.STAGED_VERSION] Ent.Upd.STAGED_VERSION.key := ⟨_, List.mem_singleton.2 rfl, 0, 0, 0, by simp [ent0, Entry.key, Ent.Upd.STAGED_VERSION]⟩
theorem has_Upd_STAGING_STATE : hasKey [ent0 Ent.Upd.STAGING_STATE] Ent.Upd.STAGING_STATE.key := ⟨_, List.mem_singleton.2 rfl, 0, 0, 0, by simp [ent0, Entry.key, Ent.Upd.STAGING_STATE]⟩
theorem has_Upd_TWIN_COMPAT : hasKey [ent0 Ent.Upd.TWIN_COMPAT] Ent.Upd.TWIN_COMPAT.key := ⟨_, List.mem_singleton.2 rfl, 0, 0, 0, by simp [ent0, Entry.key, Ent.Upd.TWIN_COMPAT]⟩
theorem has_Upd_UPDATES : hasKey [ent0 Ent.Upd.UPDATES] Ent.Upd.UPDATES.key := ⟨_, List.mem_singleton.2 rfl, 0, 0, 0, by simp [ent0, Entry.key, Ent.Upd.UPDATES]⟩
theorem has_Wsrc_COUNTER_SAT (n : Nat) : hasKey [ent1 Ent.Wsrc.COUNTER_SAT] (Ent.Wsrc.COUNTER_SAT n).key := ⟨_, List.mem_singleton.2 rfl, n, 0, 0, by simp only [ent1, Entry.key, Ent.Wsrc.COUNTER_SAT]; omega⟩
theorem has_Wsrc_FALSE_WAKES (n : Nat) : hasKey [ent1 Ent.Wsrc.FALSE_WAKES] (Ent.Wsrc.FALSE_WAKES n).key := ⟨_, List.mem_singleton.2 rfl, n, 0, 0, by simp only [ent1, Entry.key, Ent.Wsrc.FALSE_WAKES]; omega⟩
theorem has_Wsrc_FILTER_CUR (n : Nat) : hasKey [ent1 Ent.Wsrc.FILTER_CUR] (Ent.Wsrc.FILTER_CUR n).key := ⟨_, List.mem_singleton.2 rfl, n, 0, 0, by simp only [ent1, Entry.key, Ent.Wsrc.FILTER_CUR]; omega⟩
theorem has_Wsrc_FW_COUNT (n : Nat) : hasKey [ent1 Ent.Wsrc.FW_COUNT] (Ent.Wsrc.FW_COUNT n).key := ⟨_, List.mem_singleton.2 rfl, n, 0, 0, by simp only [ent1, Entry.key, Ent.Wsrc.FW_COUNT]; omega⟩
theorem has_Wsrc_QUARANTINED (n : Nat) : hasKey [ent1 Ent.Wsrc.QUARANTINED] (Ent.Wsrc.QUARANTINED n).key := ⟨_, List.mem_singleton.2 rfl, n, 0, 0, by simp only [ent1, Entry.key, Ent.Wsrc.QUARANTINED]; omega⟩
theorem has_Wsrc_WAKES (n : Nat) : hasKey [ent1 Ent.Wsrc.WAKES] (Ent.Wsrc.WAKES n).key := ⟨_, List.mem_singleton.2 rfl, n, 0, 0, by simp only [ent1, Entry.key, Ent.Wsrc.WAKES]; omega⟩
theorem has_Adcr_BUSY (n : Nat) : hasKey [word1 Rg.Adcr.BUSY] (Rg.Adcr.BUSY n).addr := ⟨_, List.mem_singleton.2 rfl, n, 0, 0, by simp only [word1, Rg.Adcr.BUSY]; omega⟩
theorem has_Adcr_IRQ (n : Nat) : hasKey [word1 Rg.Adcr.IRQ] (Rg.Adcr.IRQ n).addr := ⟨_, List.mem_singleton.2 rfl, n, 0, 0, by simp only [word1, Rg.Adcr.IRQ]; omega⟩
theorem has_Adcr_LATE (n m : Nat) : hasKey [word2 Rg.Adcr.SEQ_COUNT] (Rg.Adcr.LATE n m).addr := ⟨_, List.mem_singleton.2 rfl, n, m, 0, by simp only [word2, Rg.Adcr.LATE, Rg.Adcr.SEQ_COUNT]; omega⟩
theorem has_Adcr_LEN (n m : Nat) : hasKey [word2 Rg.Adcr.SEQ_COUNT] (Rg.Adcr.LEN n m).addr := ⟨_, List.mem_singleton.2 rfl, n, m, 0, by simp only [word2, Rg.Adcr.LEN, Rg.Adcr.SEQ_COUNT]; omega⟩
theorem has_Adcr_PENDING (n : Nat) : hasKey [word1 Rg.Adcr.BUSY] (Rg.Adcr.PENDING n).addr := ⟨_, List.mem_singleton.2 rfl, n, 0, 0, by simp only [word1, Rg.Adcr.PENDING, Rg.Adcr.BUSY]; omega⟩
theorem has_Adcr_RESULT_EVEN (n m k : Nat) : hasKey [word3 Rg.Adcr.RESULT_ODD] (Rg.Adcr.RESULT_EVEN n m k).addr := ⟨_, List.mem_singleton.2 rfl, n, m, k, by simp only [word3, Rg.Adcr.RESULT_EVEN, Rg.Adcr.RESULT_ODD]; omega⟩
theorem has_Adcr_RESULT_ODD (n m k : Nat) : hasKey [word3 Rg.Adcr.RESULT_ODD] (Rg.Adcr.RESULT_ODD n m k).addr := ⟨_, List.mem_singleton.2 rfl, n, m, k, by simp only [word3, Rg.Adcr.RESULT_ODD]; omega⟩
theorem has_Adcr_RUNNING (n : Nat) : hasKey [word1 Rg.Adcr.BUSY] (Rg.Adcr.RUNNING n).addr := ⟨_, List.mem_singleton.2 rfl, n, 0, 0, by simp only [word1, Rg.Adcr.RUNNING, Rg.Adcr.BUSY]; omega⟩
theorem has_Adcr_SEQ_COUNT (n m : Nat) : hasKey [word2 Rg.Adcr.SEQ_COUNT] (Rg.Adcr.SEQ_COUNT n m).addr := ⟨_, List.mem_singleton.2 rfl, n, m, 0, by simp only [word2, Rg.Adcr.SEQ_COUNT]; omega⟩
theorem has_Adcr_STAMP (n m : Nat) : hasKey [word2 Rg.Adcr.STAMP] (Rg.Adcr.STAMP n m).addr := ⟨_, List.mem_singleton.2 rfl, n, m, 0, by simp only [word2, Rg.Adcr.STAMP]; omega⟩
theorem has_Adcr_TGEN (n m : Nat) : hasKey [word2 Rg.Adcr.SEQ_COUNT] (Rg.Adcr.TGEN n m).addr := ⟨_, List.mem_singleton.2 rfl, n, m, 0, by simp only [word2, Rg.Adcr.TGEN, Rg.Adcr.SEQ_COUNT]; omega⟩
theorem has_Ch_BUS (n : Nat) : hasKey [word1 Rg.Ch.TEC] (Rg.Ch.BUS n).addr := ⟨_, List.mem_singleton.2 rfl, n, 0, 0, by simp only [word1, Rg.Ch.BUS, Rg.Ch.TEC]; omega⟩
theorem has_Ch_IRQ (n : Nat) : hasKey [word1 Rg.Ch.IRQ] (Rg.Ch.IRQ n).addr := ⟨_, List.mem_singleton.2 rfl, n, 0, 0, by simp only [word1, Rg.Ch.IRQ]; omega⟩
theorem has_Ch_LEC (n : Nat) : hasKey [word1 Rg.Ch.TEC] (Rg.Ch.LEC n).addr := ⟨_, List.mem_singleton.2 rfl, n, 0, 0, by simp only [word1, Rg.Ch.LEC, Rg.Ch.TEC]; omega⟩
theorem has_Ch_OVF (n : Nat) : hasKey [word1 Rg.Ch.OVF] (Rg.Ch.OVF n).addr := ⟨_, List.mem_singleton.2 rfl, n, 0, 0, by simp only [word1, Rg.Ch.OVF]; omega⟩
theorem has_Ch_REC (n : Nat) : hasKey [word1 Rg.Ch.TEC] (Rg.Ch.REC n).addr := ⟨_, List.mem_singleton.2 rfl, n, 0, 0, by simp only [word1, Rg.Ch.REC, Rg.Ch.TEC]; omega⟩
theorem has_Ch_REF_RX_INFO (n : Nat) : hasKey [word1 Rg.Ch.REF_RX_INFO] (Rg.Ch.REF_RX_INFO n).addr := ⟨_, List.mem_singleton.2 rfl, n, 0, 0, by simp only [word1, Rg.Ch.REF_RX_INFO]; omega⟩
theorem has_Ch_REF_RX_SEC (n : Nat) : hasKey [word1 Rg.Ch.REF_RX_SEC] (Rg.Ch.REF_RX_SEC n).addr := ⟨_, List.mem_singleton.2 rfl, n, 0, 0, by simp only [word1, Rg.Ch.REF_RX_SEC]; omega⟩
theorem has_Ch_REF_RX_STAMP (n : Nat) : hasKey [word1 Rg.Ch.REF_RX_STAMP] (Rg.Ch.REF_RX_STAMP n).addr := ⟨_, List.mem_singleton.2 rfl, n, 0, 0, by simp only [word1, Rg.Ch.REF_RX_STAMP]; omega⟩
theorem has_Ch_REF_RX_TIME (n : Nat) : hasKey [word1 Rg.Ch.REF_RX_TIME] (Rg.Ch.REF_RX_TIME n).addr := ⟨_, List.mem_singleton.2 rfl, n, 0, 0, by simp only [word1, Rg.Ch.REF_RX_TIME]; omega⟩
theorem has_Ch_TEC (n : Nat) : hasKey [word1 Rg.Ch.TEC] (Rg.Ch.TEC n).addr := ⟨_, List.mem_singleton.2 rfl, n, 0, 0, by simp only [word1, Rg.Ch.TEC]; omega⟩
theorem has_Cry_BUSY : hasKey [word0 Rg.Cry.BUSY] Rg.Cry.BUSY.addr := ⟨_, List.mem_singleton.2 rfl, 0, 0, 0, by simp [word0, Rg.Cry.BUSY]⟩
theorem has_Cry_CODE : hasKey [word0 Rg.Cry.BUSY] Rg.Cry.CODE.addr := ⟨_, List.mem_singleton.2 rfl, 0, 0, 0, by simp [word0, Rg.Cry.CODE, Rg.Cry.BUSY]⟩
theorem has_Cry_HEAD : hasKey [word0 Rg.Cry.HEAD] Rg.Cry.HEAD.addr := ⟨_, List.mem_singleton.2 rfl, 0, 0, 0, by simp [word0, Rg.Cry.HEAD]⟩
theorem has_Cry_IRQ : hasKey [word0 Rg.Cry.IRQ] Rg.Cry.IRQ.addr := ⟨_, List.mem_singleton.2 rfl, 0, 0, 0, by simp [word0, Rg.Cry.IRQ]⟩
theorem has_Ctx_BST_ADDR_HI (n m : Nat) : hasKey [word2 Rg.Ctx.BST_ADDR_HI] (Rg.Ctx.BST_ADDR_HI n m).addr := ⟨_, List.mem_singleton.2 rfl, n, m, 0, by simp only [word2, Rg.Ctx.BST_ADDR_HI]; omega⟩
theorem has_Ctx_BST_ADDR_LO (n m : Nat) : hasKey [word2 Rg.Ctx.BST_ADDR_LO] (Rg.Ctx.BST_ADDR_LO n m).addr := ⟨_, List.mem_singleton.2 rfl, n, m, 0, by simp only [word2, Rg.Ctx.BST_ADDR_LO]; omega⟩
theorem has_Ctx_BUSY (n m : Nat) : hasKey [word2 Rg.Ctx.DONE] (Rg.Ctx.BUSY n m).addr := ⟨_, List.mem_singleton.2 rfl, n, m, 0, by simp only [word2, Rg.Ctx.BUSY, Rg.Ctx.DONE]; omega⟩
theorem has_Ctx_CODE (n m : Nat) : hasKey [word2 Rg.Ctx.DONE] (Rg.Ctx.CODE n m).addr := ⟨_, List.mem_singleton.2 rfl, n, m, 0, by simp only [word2, Rg.Ctx.CODE, Rg.Ctx.DONE]; omega⟩
theorem has_Ctx_CODE_40 (n m : Nat) : hasKey [word2 Rg.Ctx.VALID] (Rg.Ctx.CODE_40 n m).addr := ⟨_, List.mem_singleton.2 rfl, n, m, 0, by simp only [word2, Rg.Ctx.CODE_40, Rg.Ctx.VALID]; omega⟩
theorem has_Ctx_CODE_8 (n m : Nat) : hasKey [word2 Rg.Ctx.FAILED] (Rg.Ctx.CODE_8 n m).addr := ⟨_, List.mem_singleton.2 rfl, n, m, 0, by simp only [word2, Rg.Ctx.CODE_8, Rg.Ctx.FAILED]; omega⟩
theorem has_Ctx_DONE (n m : Nat) : hasKey [word2 Rg.Ctx.DONE] (Rg.Ctx.DONE n m).addr := ⟨_, List.mem_singleton.2 rfl, n, m, 0, by simp only [word2, Rg.Ctx.DONE]; omega⟩
theorem has_Ctx_EPOCH (n m : Nat) : hasKey [word2 Rg.Ctx.FENCE] (Rg.Ctx.EPOCH n m).addr := ⟨_, List.mem_singleton.2 rfl, n, m, 0, by simp only [word2, Rg.Ctx.EPOCH, Rg.Ctx.FENCE]; omega⟩
theorem has_Ctx_EPV (n m : Nat) : hasKey [word2 Rg.Ctx.FENCE] (Rg.Ctx.EPV n m).addr := ⟨_, List.mem_singleton.2 rfl, n, m, 0, by simp only [word2, Rg.Ctx.EPV, Rg.Ctx.FENCE]; omega⟩
theorem has_Ctx_FAILED (n m : Nat) : hasKey [word2 Rg.Ctx.FAILED] (Rg.Ctx.FAILED n m).addr := ⟨_, List.mem_singleton.2 rfl, n, m, 0, by simp only [word2, Rg.Ctx.FAILED]; omega⟩
theorem has_Ctx_FAR_CODE (n m : Nat) : hasKey [word2 Rg.Ctx.FAR_CODE] (Rg.Ctx.FAR_CODE n m).addr := ⟨_, List.mem_singleton.2 rfl, n, m, 0, by simp only [word2, Rg.Ctx.FAR_CODE]; omega⟩
theorem has_Ctx_IRQ (n m : Nat) : hasKey [word2 Rg.Ctx.IRQ] (Rg.Ctx.IRQ n m).addr := ⟨_, List.mem_singleton.2 rfl, n, m, 0, by simp only [word2, Rg.Ctx.IRQ]; omega⟩
theorem has_Ctx_LOST (n m : Nat) : hasKey [word2 Rg.Ctx.VALID] (Rg.Ctx.LOST n m).addr := ⟨_, List.mem_singleton.2 rfl, n, m, 0, by simp only [word2, Rg.Ctx.LOST, Rg.Ctx.VALID]; omega⟩
theorem has_Ctx_MULTI (n m : Nat) : hasKey [word2 Rg.Ctx.FAILED] (Rg.Ctx.MULTI n m).addr := ⟨_, List.mem_singleton.2 rfl, n, m, 0, by simp only [word2, Rg.Ctx.MULTI, Rg.Ctx.FAILED]; omega⟩
theorem has_Ctx_OVERRUN (n m : Nat) : hasKey [word2 Rg.Ctx.DONE] (Rg.Ctx.OVERRUN n m).addr := ⟨_, List.mem_singleton.2 rfl, n, m, 0, by simp only [word2, Rg.Ctx.OVERRUN, Rg.Ctx.DONE]; omega⟩
theorem has_Ctx_PW_DONE (n m : Nat) : hasKey [word2 Rg.Ctx.PW_DONE] (Rg.Ctx.PW_DONE n m).addr := ⟨_, List.mem_singleton.2 rfl, n, m, 0, by simp only [word2, Rg.Ctx.PW_DONE]; omega⟩
theorem has_Ctx_PW_SEQ (n m : Nat) : hasKey [word2 Rg.Ctx.PW_SEQ] (Rg.Ctx.PW_SEQ n m).addr := ⟨_, List.mem_singleton.2 rfl, n, m, 0, by simp only [word2, Rg.Ctx.PW_SEQ]; omega⟩
theorem has_Ctx_RSLOT_ADDR_HI (n m : Nat) : hasKey [word2 Rg.Ctx.RSLOT_ADDR_HI] (Rg.Ctx.RSLOT_ADDR_HI n m).addr := ⟨_, List.mem_singleton.2 rfl, n, m, 0, by simp only [word2, Rg.Ctx.RSLOT_ADDR_HI]; omega⟩
theorem has_Ctx_RSLOT_ADDR_LO (n m : Nat) : hasKey [word2 Rg.Ctx.RSLOT_ADDR_LO] (Rg.Ctx.RSLOT_ADDR_LO n m).addr := ⟨_, List.mem_singleton.2 rfl, n, m, 0, by simp only [word2, Rg.Ctx.RSLOT_ADDR_LO]; omega⟩
theorem has_Ctx_RSLOT_DATA (n m k : Nat) : hasKey [word3 Rg.Ctx.RSLOT_DATA] (Rg.Ctx.RSLOT_DATA n m k).addr := ⟨_, List.mem_singleton.2 rfl, n, m, k, by simp only [word3, Rg.Ctx.RSLOT_DATA]; omega⟩
theorem has_Ctx_RSLOT_SEQ (n m : Nat) : hasKey [word2 Rg.Ctx.RSLOT_SEQ] (Rg.Ctx.RSLOT_SEQ n m).addr := ⟨_, List.mem_singleton.2 rfl, n, m, 0, by simp only [word2, Rg.Ctx.RSLOT_SEQ]; omega⟩
theorem has_Ctx_SESSION (n m : Nat) : hasKey [word2 Rg.Ctx.SESSION] (Rg.Ctx.SESSION n m).addr := ⟨_, List.mem_singleton.2 rfl, n, m, 0, by simp only [word2, Rg.Ctx.SESSION]; omega⟩
theorem has_Ctx_SIDEBAND_OUT (n m : Nat) : hasKey [word2 Rg.Ctx.SIDEBAND_OUT] (Rg.Ctx.SIDEBAND_OUT n m).addr := ⟨_, List.mem_singleton.2 rfl, n, m, 0, by simp only [word2, Rg.Ctx.SIDEBAND_OUT]; omega⟩
theorem has_Ctx_SIZE (n m : Nat) : hasKey [word2 Rg.Ctx.VALID] (Rg.Ctx.SIZE n m).addr := ⟨_, List.mem_singleton.2 rfl, n, m, 0, by simp only [word2, Rg.Ctx.SIZE, Rg.Ctx.VALID]; omega⟩
theorem has_Ctx_VALID (n m : Nat) : hasKey [word2 Rg.Ctx.VALID] (Rg.Ctx.VALID n m).addr := ⟨_, List.mem_singleton.2 rfl, n, m, 0, by simp only [word2, Rg.Ctx.VALID]; omega⟩
theorem has_Dmar_ACTIVE (n : Nat) : hasKey [word1 Rg.Dmar.ACTIVE] (Rg.Dmar.ACTIVE n).addr := ⟨_, List.mem_singleton.2 rfl, n, 0, 0, by simp only [word1, Rg.Dmar.ACTIVE]; omega⟩
theorem has_Dmar_CODE (n : Nat) : hasKey [word1 Rg.Dmar.ACTIVE] (Rg.Dmar.CODE n).addr := ⟨_, List.mem_singleton.2 rfl, n, 0, 0, by simp only [word1, Rg.Dmar.CODE, Rg.Dmar.ACTIVE]; omega⟩
theorem has_Dmar_FAULTED (n : Nat) : hasKey [word1 Rg.Dmar.ACTIVE] (Rg.Dmar.FAULTED n).addr := ⟨_, List.mem_singleton.2 rfl, n, 0, 0, by simp only [word1, Rg.Dmar.FAULTED, Rg.Dmar.ACTIVE]; omega⟩
theorem has_Dmar_FAULT_DESC (n : Nat) : hasKey [word1 Rg.Dmar.FAULT_DESC] (Rg.Dmar.FAULT_DESC n).addr := ⟨_, List.mem_singleton.2 rfl, n, 0, 0, by simp only [word1, Rg.Dmar.FAULT_DESC]; omega⟩
theorem has_Dmar_FAULT_DONE (n : Nat) : hasKey [word1 Rg.Dmar.FAULT_DONE] (Rg.Dmar.FAULT_DONE n).addr := ⟨_, List.mem_singleton.2 rfl, n, 0, 0, by simp only [word1, Rg.Dmar.FAULT_DONE]; omega⟩
theorem has_Dmar_FAULT_IOVA_HI (n : Nat) : hasKey [word1 Rg.Dmar.FAULT_IOVA_HI] (Rg.Dmar.FAULT_IOVA_HI n).addr := ⟨_, List.mem_singleton.2 rfl, n, 0, 0, by simp only [word1, Rg.Dmar.FAULT_IOVA_HI]; omega⟩
theorem has_Dmar_FAULT_IOVA_LO (n : Nat) : hasKey [word1 Rg.Dmar.FAULT_IOVA_LO] (Rg.Dmar.FAULT_IOVA_LO n).addr := ⟨_, List.mem_singleton.2 rfl, n, 0, 0, by simp only [word1, Rg.Dmar.FAULT_IOVA_LO]; omega⟩
theorem has_Dmar_HEAD (n : Nat) : hasKey [word1 Rg.Dmar.HEAD] (Rg.Dmar.HEAD n).addr := ⟨_, List.mem_singleton.2 rfl, n, 0, 0, by simp only [word1, Rg.Dmar.HEAD]; omega⟩
theorem has_Dmar_INVAL_BUSY (n : Nat) : hasKey [word1 Rg.Dmar.ACTIVE] (Rg.Dmar.INVAL_BUSY n).addr := ⟨_, List.mem_singleton.2 rfl, n, 0, 0, by simp only [word1, Rg.Dmar.INVAL_BUSY, Rg.Dmar.ACTIVE]; omega⟩
theorem has_Dmar_IRQ (n : Nat) : hasKey [word1 Rg.Dmar.IRQ] (Rg.Dmar.IRQ n).addr := ⟨_, List.mem_singleton.2 rfl, n, 0, 0, by simp only [word1, Rg.Dmar.IRQ]; omega⟩
theorem has_Dmar_STAGE (n : Nat) : hasKey [word1 Rg.Dmar.FAULT_DESC] (Rg.Dmar.STAGE n).addr := ⟨_, List.mem_singleton.2 rfl, n, 0, 0, by simp only [word1, Rg.Dmar.STAGE, Rg.Dmar.FAULT_DESC]; omega⟩
theorem has_Dmar_STOPPED (n : Nat) : hasKey [word1 Rg.Dmar.ACTIVE] (Rg.Dmar.STOPPED n).addr := ⟨_, List.mem_singleton.2 rfl, n, 0, 0, by simp only [word1, Rg.Dmar.STOPPED, Rg.Dmar.ACTIVE]; omega⟩
theorem has_Dmar_TAIL (n : Nat) : hasKey [word1 Rg.Dmar.TAIL] (Rg.Dmar.TAIL n).addr := ⟨_, List.mem_singleton.2 rfl, n, 0, 0, by simp only [word1, Rg.Dmar.TAIL]; omega⟩
theorem has_Dmar_WRITE (n : Nat) : hasKey [word1 Rg.Dmar.FAULT_DESC] (Rg.Dmar.WRITE n).addr := ⟨_, List.mem_singleton.2 rfl, n, 0, 0, by simp only [word1, Rg.Dmar.WRITE, Rg.Dmar.FAULT_DESC]; omega⟩
theorem has_Ep_CODE (n m : Nat) : hasKey [word2 Rg.Ep.MERGED] (Rg.Ep.CODE n m).addr := ⟨_, List.mem_singleton.2 rfl, n, m, 0, by simp only [word2, Rg.Ep.CODE, Rg.Ep.MERGED]; omega⟩
theorem has_Ep_EVT_PENDING (n m : Nat) : hasKey [word2 Rg.Ep.EVT_PENDING] (Rg.Ep.EVT_PENDING n m).addr := ⟨_, List.mem_singleton.2 rfl, n, m, 0, by simp only [word2, Rg.Ep.EVT_PENDING]; omega⟩
theorem has_Ep_EVT_SEQ (n m : Nat) : hasKey [word2 Rg.Ep.EVT_SEQ] (Rg.Ep.EVT_SEQ n m).addr := ⟨_, List.mem_singleton.2 rfl, n, m, 0, by simp only [word2, Rg.Ep.EVT_SEQ]; omega⟩
theorem has_Ep_MERGED (n m : Nat) : hasKey [word2 Rg.Ep.MERGED] (Rg.Ep.MERGED n m).addr := ⟨_, List.mem_singleton.2 rfl, n, m, 0, by simp only [word2, Rg.Ep.MERGED]; omega⟩
theorem has_Ep_POLL_FAIL (n m : Nat) : hasKey [word2 Rg.Ep.MERGED] (Rg.Ep.POLL_FAIL n m).addr := ⟨_, List.mem_singleton.2 rfl, n, m, 0, by simp only [word2, Rg.Ep.POLL_FAIL, Rg.Ep.MERGED]; omega⟩
theorem has_Ep_SIDEBAND (n m : Nat) : hasKey [word2 Rg.Ep.SIDEBAND] (Rg.Ep.SIDEBAND n m).addr := ⟨_, List.mem_singleton.2 rfl, n, m, 0, by simp only [word2, Rg.Ep.SIDEBAND]; omega⟩
theorem has_Hpg_LINES_SET (n : Nat) : hasKey [word1 Rg.Hpg.LINES_SET] (Rg.Hpg.LINES_SET n).addr := ⟨_, List.mem_singleton.2 rfl, n, 0, 0, by simp only [word1, Rg.Hpg.LINES_SET]; omega⟩
theorem has_Hpg_RING_EN (n : Nat) : hasKey [word1 Rg.Hpg.RING_EN] (Rg.Hpg.RING_EN n).addr := ⟨_, List.mem_singleton.2 rfl, n, 0, 0, by simp only [word1, Rg.Hpg.RING_EN]; omega⟩
theorem has_Hpg_RING_HEAD (n : Nat) : hasKey [word1 Rg.Hpg.RING_HEAD] (Rg.Hpg.RING_HEAD n).addr := ⟨_, List.mem_singleton.2 rfl, n, 0, 0, by simp only [word1, Rg.Hpg.RING_HEAD]; omega⟩
theorem has_Lsr_ERR (n : Nat) : hasKey [word1 Rg.Lsr.VALID] (Rg.Lsr.ERR n).addr := ⟨_, List.mem_singleton.2 rfl, n, 0, 0, by simp only [word1, Rg.Lsr.ERR, Rg.Lsr.VALID]; omega⟩
theorem has_Lsr_GATE (n : Nat) : hasKey [word1 Rg.Lsr.VALID] (Rg.Lsr.GATE n).addr := ⟨_, List.mem_singleton.2 rfl, n, 0, 0, by simp only [word1, Rg.Lsr.GATE, Rg.Lsr.VALID]; omega⟩
theorem has_Lsr_VALID (n : Nat) : hasKey [word1 Rg.Lsr.VALID] (Rg.Lsr.VALID n).addr := ⟨_, List.mem_singleton.2 rfl, n, 0, 0, by simp only [word1, Rg.Lsr.VALID]; omega⟩
theorem has_M0Src_PENDING (n : Nat) : hasKey [word1 Rg.M0Src.PENDING] (Rg.M0Src.PENDING n).addr := ⟨_, List.mem_singleton.2 rfl, n, 0, 0, by simp only [word1, Rg.M0Src.PENDING]; omega⟩
theorem has_Mb_BUSY (n : Nat) : hasKey [word1 Rg.Mb.DONE] (Rg.Mb.BUSY n).addr := ⟨_, List.mem_singleton.2 rfl, n, 0, 0, by simp only [word1, Rg.Mb.BUSY, Rg.Mb.DONE]; omega⟩
theorem has_Mb_CODE (n : Nat) : hasKey [word1 Rg.Mb.DONE] (Rg.Mb.CODE n).addr := ⟨_, List.mem_singleton.2 rfl, n, 0, 0, by simp only [word1, Rg.Mb.CODE, Rg.Mb.DONE]; omega⟩
theorem has_Mb_DONE (n : Nat) : hasKey [word1 Rg.Mb.DONE] (Rg.Mb.DONE n).addr := ⟨_, List.mem_singleton.2 rfl, n, 0, 0, by simp only [word1, Rg.Mb.DONE]; omega⟩
theorem has_Mb_GO (n : Nat) : hasKey [word1 Rg.Mb.GO] (Rg.Mb.GO n).addr := ⟨_, List.mem_singleton.2 rfl, n, 0, 0, by simp only [word1, Rg.Mb.GO]; omega⟩
theorem has_Mb_MB_DATA (n m : Nat) : hasKey [word2 Rg.Mb.MB_DATA] (Rg.Mb.MB_DATA n m).addr := ⟨_, List.mem_singleton.2 rfl, n, m, 0, by simp only [word2, Rg.Mb.MB_DATA]; omega⟩
theorem has_Mb_MB_LEN (n : Nat) : hasKey [word1 Rg.Mb.MB_LEN] (Rg.Mb.MB_LEN n).addr := ⟨_, List.mem_singleton.2 rfl, n, 0, 0, by simp only [word1, Rg.Mb.MB_LEN]; omega⟩
theorem has_Mb_MB_TOTAL (n : Nat) : hasKey [word1 Rg.Mb.MB_TOTAL] (Rg.Mb.MB_TOTAL n).addr := ⟨_, List.mem_singleton.2 rfl, n, 0, 0, by simp only [word1, Rg.Mb.MB_TOTAL]; omega⟩
theorem has_Mb_OVERRUN (n : Nat) : hasKey [word1 Rg.Mb.DONE] (Rg.Mb.OVERRUN n).addr := ⟨_, List.mem_singleton.2 rfl, n, 0, 0, by simp only [word1, Rg.Mb.OVERRUN, Rg.Mb.DONE]; omega⟩
theorem has_Obj_BRS (n m : Nat) : hasKey [word2 Rg.Obj.NEW] (Rg.Obj.BRS n m).addr := ⟨_, List.mem_singleton.2 rfl, n, m, 0, by simp only [word2, Rg.Obj.BRS, Rg.Obj.NEW]; omega⟩
theorem has_Obj_DATA (n m k : Nat) : hasKey [word3 Rg.Obj.DATA] (Rg.Obj.DATA n m k).addr := ⟨_, List.mem_singleton.2 rfl, n, m, k, by simp only [word3, Rg.Obj.DATA]; omega⟩
theorem has_Obj_DLC (n m : Nat) : hasKey [word2 Rg.Obj.NEW] (Rg.Obj.DLC n m).addr := ⟨_, List.mem_singleton.2 rfl, n, m, 0, by simp only [word2, Rg.Obj.DLC, Rg.Obj.NEW]; omega⟩
theorem has_Obj_ESI (n m : Nat) : hasKey [word2 Rg.Obj.NEW] (Rg.Obj.ESI n m).addr := ⟨_, List.mem_singleton.2 rfl, n, m, 0, by simp only [word2, Rg.Obj.ESI, Rg.Obj.NEW]; omega⟩
theorem has_Obj_FDF (n m : Nat) : hasKey [word2 Rg.Obj.NEW] (Rg.Obj.FDF n m).addr := ⟨_, List.mem_singleton.2 rfl, n, m, 0, by simp only [word2, Rg.Obj.FDF, Rg.Obj.NEW]; omega⟩
theorem has_Obj_FRAC (n m : Nat) : hasKey [word2 Rg.Obj.TGEN] (Rg.Obj.FRAC n m).addr := ⟨_, List.mem_singleton.2 rfl, n, m, 0, by simp only [word2, Rg.Obj.FRAC, Rg.Obj.TGEN]; omega⟩
theorem has_Obj_ID (n m : Nat) : hasKey [word2 Rg.Obj.ID] (Rg.Obj.ID n m).addr := ⟨_, List.mem_singleton.2 rfl, n, m, 0, by simp only [word2, Rg.Obj.ID]; omega⟩
theorem has_Obj_IDE (n m : Nat) : hasKey [word2 Rg.Obj.NEW] (Rg.Obj.IDE n m).addr := ⟨_, List.mem_singleton.2 rfl, n, m, 0, by simp only [word2, Rg.Obj.IDE, Rg.Obj.NEW]; omega⟩
theorem has_Obj_LOSTCNT (n m : Nat) : hasKey [word2 Rg.Obj.NEW] (Rg.Obj.LOSTCNT n m).addr := ⟨_, List.mem_singleton.2 rfl, n, m, 0, by simp only [word2, Rg.Obj.LOSTCNT, Rg.Obj.NEW]; omega⟩
theorem has_Obj_NEW (n m : Nat) : hasKey [word2 Rg.Obj.NEW] (Rg.Obj.NEW n m).addr := ⟨_, List.mem_singleton.2 rfl, n, m, 0, by simp only [word2, Rg.Obj.NEW]; omega⟩
theorem has_Obj_RXSEQ (n m : Nat) : hasKey [word2 Rg.Obj.EXPIRED] (Rg.Obj.RXSEQ n m).addr := ⟨_, List.mem_singleton.2 rfl, n, m, 0, by simp only [word2, Rg.Obj.RXSEQ, Rg.Obj.EXPIRED]; omega⟩
theorem has_Obj_STAMP (n m : Nat) : hasKey [word2 Rg.Obj.STAMP] (Rg.Obj.STAMP n m).addr := ⟨_, List.mem_singleton.2 rfl, n, m, 0, by simp only [word2, Rg.Obj.STAMP]; omega⟩
theorem has_Obj_TGEN (n m : Nat) : hasKey [word2 Rg.Obj.TGEN] (Rg.Obj.TGEN n m).addr := ⟨_, List.mem_singleton.2 rfl, n, m, 0, by simp only [word2, Rg.Obj.TGEN]; omega⟩
theorem has_Plat_SYS_IRQ (n : Nat) : hasKey [word1 Rg.Plat.SYS_IRQ] (Rg.Plat.SYS_IRQ n).addr := ⟨_, List.mem_singleton.2 rfl, n, 0, 0, by simp only [word1, Rg.Plat.SYS_IRQ]; omega⟩
theorem has_Qpr_ERR_HEAD (n : Nat) : hasKey [word1 Rg.Qpr.ERR_HEAD] (Rg.Qpr.ERR_HEAD n).addr := ⟨_, List.mem_singleton.2 rfl, n, 0, 0, by simp only [word1, Rg.Qpr.ERR_HEAD]; omega⟩
theorem has_Qpr_IRQ (n : Nat) : hasKey [word1 Rg.Qpr.IRQ] (Rg.Qpr.IRQ n).addr := ⟨_, List.mem_singleton.2 rfl, n, 0, 0, by simp only [word1, Rg.Qpr.IRQ]; omega⟩
theorem has_Qpr_RX_HEAD (n : Nat) : hasKey [word1 Rg.Qpr.RX_HEAD] (Rg.Qpr.RX_HEAD n).addr := ⟨_, List.mem_singleton.2 rfl, n, 0, 0, by simp only [word1, Rg.Qpr.RX_HEAD]; omega⟩
theorem has_Qpr_TX_HEAD (n : Nat) : hasKey [word1 Rg.Qpr.TX_HEAD] (Rg.Qpr.TX_HEAD n).addr := ⟨_, List.mem_singleton.2 rfl, n, 0, 0, by simp only [word1, Rg.Qpr.TX_HEAD]; omega⟩
theorem has_Slpr_DOM_REQ : hasKey [word0 Rg.Slpr.DOM_REQ] Rg.Slpr.DOM_REQ.addr := ⟨_, List.mem_singleton.2 rfl, 0, 0, 0, by simp [word0, Rg.Slpr.DOM_REQ]⟩
theorem has_Slpr_FW_PENDING : hasKey [word0 Rg.Slpr.FW_PENDING] Rg.Slpr.FW_PENDING.addr := ⟨_, List.mem_singleton.2 rfl, 0, 0, 0, by simp [word0, Rg.Slpr.FW_PENDING]⟩
theorem has_Slpr_WAKE (n : Nat) : hasKey [word1 Rg.Slpr.STATE] (Rg.Slpr.WAKE n).addr := ⟨_, List.mem_singleton.2 rfl, n, 0, 0, by simp only [word1, Rg.Slpr.WAKE, Rg.Slpr.STATE]; omega⟩
theorem has_Smb_BUSY : hasKey [word0 Rg.Smb.DONE] Rg.Smb.BUSY.addr := ⟨_, List.mem_singleton.2 rfl, 0, 0, 0, by simp [word0, Rg.Smb.BUSY, Rg.Smb.DONE]⟩
theorem has_Smb_CODE : hasKey [word0 Rg.Smb.DONE] Rg.Smb.CODE.addr := ⟨_, List.mem_singleton.2 rfl, 0, 0, 0, by simp [word0, Rg.Smb.CODE, Rg.Smb.DONE]⟩
theorem has_Smb_DONE : hasKey [word0 Rg.Smb.DONE] Rg.Smb.DONE.addr := ⟨_, List.mem_singleton.2 rfl, 0, 0, 0, by simp [word0, Rg.Smb.DONE]⟩
theorem has_Smb_MB_DATA (n : Nat) : hasKey [word1 Rg.Smb.MB_DATA] (Rg.Smb.MB_DATA n).addr := ⟨_, List.mem_singleton.2 rfl, n, 0, 0, by simp only [word1, Rg.Smb.MB_DATA]; omega⟩
theorem has_Smb_MB_LEN : hasKey [word0 Rg.Smb.MB_LEN] Rg.Smb.MB_LEN.addr := ⟨_, List.mem_singleton.2 rfl, 0, 0, 0, by simp [word0, Rg.Smb.MB_LEN]⟩
theorem has_Smb_MB_TOTAL : hasKey [word0 Rg.Smb.MB_TOTAL] Rg.Smb.MB_TOTAL.addr := ⟨_, List.mem_singleton.2 rfl, 0, 0, 0, by simp [word0, Rg.Smb.MB_TOTAL]⟩
theorem has_Src_ACTIVE (n : Nat) : hasKey [word1 Rg.Src.PENDING] (Rg.Src.ACTIVE n).addr := ⟨_, List.mem_singleton.2 rfl, n, 0, 0, by simp only [word1, Rg.Src.ACTIVE, Rg.Src.PENDING]; omega⟩
theorem has_Src_ENABLE (n : Nat) : hasKey [word1 Rg.Src.PENDING] (Rg.Src.ENABLE n).addr := ⟨_, List.mem_singleton.2 rfl, n, 0, 0, by simp only [word1, Rg.Src.ENABLE, Rg.Src.PENDING]; omega⟩
theorem has_Src_MOD_US (n : Nat) : hasKey [word1 Rg.Src.PENDING] (Rg.Src.MOD_US n).addr := ⟨_, List.mem_singleton.2 rfl, n, 0, 0, by simp only [word1, Rg.Src.MOD_US, Rg.Src.PENDING]; omega⟩
theorem has_Src_PENDING (n : Nat) : hasKey [word1 Rg.Src.PENDING] (Rg.Src.PENDING n).addr := ⟨_, List.mem_singleton.2 rfl, n, 0, 0, by simp only [word1, Rg.Src.PENDING]; omega⟩
theorem has_Src_PRIORITY (n : Nat) : hasKey [word1 Rg.Src.PENDING] (Rg.Src.PRIORITY n).addr := ⟨_, List.mem_singleton.2 rfl, n, 0, 0, by simp only [word1, Rg.Src.PRIORITY, Rg.Src.PENDING]; omega⟩
theorem has_Src_TARGET (n : Nat) : hasKey [word1 Rg.Src.PENDING] (Rg.Src.TARGET n).addr := ⟨_, List.mem_singleton.2 rfl, n, 0, 0, by simp only [word1, Rg.Src.TARGET, Rg.Src.PENDING]; omega⟩
theorem has_Stg_ACTIVE (n : Nat) : hasKey [word1 Rg.Stg.ACTIVE] (Rg.Stg.ACTIVE n).addr := ⟨_, List.mem_singleton.2 rfl, n, 0, 0, by simp only [word1, Rg.Stg.ACTIVE]; omega⟩
theorem has_Stg_CODE (n : Nat) : hasKey [word1 Rg.Stg.ACTIVE] (Rg.Stg.CODE n).addr := ⟨_, List.mem_singleton.2 rfl, n, 0, 0, by simp only [word1, Rg.Stg.CODE, Rg.Stg.ACTIVE]; omega⟩
theorem has_Stg_HEAD (n : Nat) : hasKey [word1 Rg.Stg.HEAD] (Rg.Stg.HEAD n).addr := ⟨_, List.mem_singleton.2 rfl, n, 0, 0, by simp only [word1, Rg.Stg.HEAD]; omega⟩
theorem has_Stg_IRQ (n : Nat) : hasKey [word1 Rg.Stg.IRQ] (Rg.Stg.IRQ n).addr := ⟨_, List.mem_singleton.2 rfl, n, 0, 0, by simp only [word1, Rg.Stg.IRQ]; omega⟩
theorem has_Stg_STOPPED (n : Nat) : hasKey [word1 Rg.Stg.ACTIVE] (Rg.Stg.STOPPED n).addr := ⟨_, List.mem_singleton.2 rfl, n, 0, 0, by simp only [word1, Rg.Stg.STOPPED, Rg.Stg.ACTIVE]; omega⟩
theorem has_Swd_EN : hasKey [word0 Rg.Swd.EN] Rg.Swd.EN.addr := ⟨_, List.mem_singleton.2 rfl, 0, 0, 0, by simp [word0, Rg.Swd.EN]⟩
theorem has_Swd_PERIOD_MS : hasKey [word0 Rg.Swd.EN] Rg.Swd.PERIOD_MS.addr := ⟨_, List.mem_singleton.2 rfl, 0, 0, 0, by simp [word0, Rg.Swd.PERIOD_MS, Rg.Swd.EN]⟩
theorem has_Tb_DO_QUALITY : hasKey [word0 Rg.Tb.GO] Rg.Tb.DO_QUALITY.addr := ⟨_, List.mem_singleton.2 rfl, 0, 0, 0, by simp [word0, Rg.Tb.DO_QUALITY, Rg.Tb.GO]⟩
theorem has_Tb_DO_RATE : hasKey [word0 Rg.Tb.GO] Rg.Tb.DO_RATE.addr := ⟨_, List.mem_singleton.2 rfl, 0, 0, 0, by simp [word0, Rg.Tb.DO_RATE, Rg.Tb.GO]⟩
theorem has_Tb_DO_STEP : hasKey [word0 Rg.Tb.GO] Rg.Tb.DO_STEP.addr := ⟨_, List.mem_singleton.2 rfl, 0, 0, 0, by simp [word0, Rg.Tb.DO_STEP, Rg.Tb.GO]⟩
theorem has_Tb_OVERRUN : hasKey [word0 Rg.Tb.GO] Rg.Tb.OVERRUN.addr := ⟨_, List.mem_singleton.2 rfl, 0, 0, 0, by simp [word0, Rg.Tb.OVERRUN, Rg.Tb.GO]⟩
theorem has_Tb_OVF (n : Nat) : hasKey [word1 Rg.Tb.VALID] (Rg.Tb.OVF n).addr := ⟨_, List.mem_singleton.2 rfl, n, 0, 0, by simp only [word1, Rg.Tb.OVF, Rg.Tb.VALID]; omega⟩
theorem has_Tb_QUALITY_NEW : hasKey [word0 Rg.Tb.GO] Rg.Tb.QUALITY_NEW.addr := ⟨_, List.mem_singleton.2 rfl, 0, 0, 0, by simp [word0, Rg.Tb.QUALITY_NEW, Rg.Tb.GO]⟩
theorem has_Txb_ATTEMPTS (n m : Nat) : hasKey [word2 Rg.Txb.CODE] (Rg.Txb.ATTEMPTS n m).addr := ⟨_, List.mem_singleton.2 rfl, n, m, 0, by simp only [word2, Rg.Txb.ATTEMPTS, Rg.Txb.CODE]; omega⟩
theorem has_Txb_CODE (n m : Nat) : hasKey [word2 Rg.Txb.CODE] (Rg.Txb.CODE n m).addr := ⟨_, List.mem_singleton.2 rfl, n, m, 0, by simp only [word2, Rg.Txb.CODE]; omega⟩
theorem has_Txb_DONE (n m : Nat) : hasKey [word2 Rg.Txb.CODE] (Rg.Txb.DONE n m).addr := ⟨_, List.mem_singleton.2 rfl, n, m, 0, by simp only [word2, Rg.Txb.DONE, Rg.Txb.CODE]; omega⟩
theorem has_Txb_EPOCH (n m : Nat) : hasKey [word2 Rg.Txb.SEND] (Rg.Txb.EPOCH n m).addr := ⟨_, List.mem_singleton.2 rfl, n, m, 0, by simp only [word2, Rg.Txb.EPOCH, Rg.Txb.SEND]; omega⟩
theorem has_Txb_EPV (n m : Nat) : hasKey [word2 Rg.Txb.SEND] (Rg.Txb.EPV n m).addr := ⟨_, List.mem_singleton.2 rfl, n, m, 0, by simp only [word2, Rg.Txb.EPV, Rg.Txb.SEND]; omega⟩
theorem has_Txb_FRAC (n m : Nat) : hasKey [word2 Rg.Txb.TGEN] (Rg.Txb.FRAC n m).addr := ⟨_, List.mem_singleton.2 rfl, n, m, 0, by simp only [word2, Rg.Txb.FRAC, Rg.Txb.TGEN]; omega⟩
theorem has_Txb_ONESHOT (n m : Nat) : hasKey [word2 Rg.Txb.SEND] (Rg.Txb.ONESHOT n m).addr := ⟨_, List.mem_singleton.2 rfl, n, m, 0, by simp only [word2, Rg.Txb.ONESHOT, Rg.Txb.SEND]; omega⟩
theorem has_Txb_OVERRUN (n m : Nat) : hasKey [word2 Rg.Txb.CODE] (Rg.Txb.OVERRUN n m).addr := ⟨_, List.mem_singleton.2 rfl, n, m, 0, by simp only [word2, Rg.Txb.OVERRUN, Rg.Txb.CODE]; omega⟩
theorem has_Txb_PENDING (n m : Nat) : hasKey [word2 Rg.Txb.CODE] (Rg.Txb.PENDING n m).addr := ⟨_, List.mem_singleton.2 rfl, n, m, 0, by simp only [word2, Rg.Txb.PENDING, Rg.Txb.CODE]; omega⟩
theorem has_Txb_REASON (n m : Nat) : hasKey [word2 Rg.Txb.CODE] (Rg.Txb.REASON n m).addr := ⟨_, List.mem_singleton.2 rfl, n, m, 0, by simp only [word2, Rg.Txb.REASON, Rg.Txb.CODE]; omega⟩
theorem has_Txb_STAMP (n m : Nat) : hasKey [word2 Rg.Txb.STAMP] (Rg.Txb.STAMP n m).addr := ⟨_, List.mem_singleton.2 rfl, n, m, 0, by simp only [word2, Rg.Txb.STAMP]; omega⟩
theorem has_Txb_TGEN (n m : Nat) : hasKey [word2 Rg.Txb.TGEN] (Rg.Txb.TGEN n m).addr := ⟨_, List.mem_singleton.2 rfl, n, m, 0, by simp only [word2, Rg.Txb.TGEN]; omega⟩
theorem has_Wm_ERR (n : Nat) : hasKey [word1 Rg.Wm.LOCKED] (Rg.Wm.ERR n).addr := ⟨_, List.mem_singleton.2 rfl, n, 0, 0, by simp only [word1, Rg.Wm.ERR, Rg.Wm.LOCKED]; omega⟩
theorem has_Wm_GRANULES (n : Nat) : hasKey [word1 Rg.Wm.LOCKED] (Rg.Wm.GRANULES n).addr := ⟨_, List.mem_singleton.2 rfl, n, 0, 0, by simp only [word1, Rg.Wm.GRANULES, Rg.Wm.LOCKED]; omega⟩
theorem has_Wm_LOCKED (n : Nat) : hasKey [word1 Rg.Wm.LOCKED] (Rg.Wm.LOCKED n).addr := ⟨_, List.mem_singleton.2 rfl, n, 0, 0, by simp only [word1, Rg.Wm.LOCKED]; omega⟩
theorem has_memCounter (a : Nat) (ue : Bool) : hasCtr [ent0 Ent.Mem.SRAM_CE, ent0 Ent.Mem.SRAM_UE, ent0 Ent.Mem.DRAM_CE, ent0 Ent.Mem.DRAM_UE, ent0 Ent.Mem.COUNTER_SAT] (memCounter a ue) := by
  refine ⟨?_, _, List.mem_of_getElem? (i := 4) rfl, 0, 0, 0, by show Entry.key Ent.Mem.COUNTER_SAT = _; decide⟩
  unfold memCounter
  split <;> cases ue
  · exact ⟨_, List.mem_of_getElem? (i := 2) rfl, 0, 0, 0, by decide⟩
  · exact ⟨_, List.mem_of_getElem? (i := 3) rfl, 0, 0, 0, by decide⟩
  · exact ⟨_, List.mem_of_getElem? (i := 0) rfl, 0, 0, 0, by decide⟩
  · exact ⟨_, List.mem_of_getElem? (i := 1) rfl, 0, 0, 0, by decide⟩
theorem has_changeCounter_if (c : Prop) [Decidable c] : hasCtr [ent0 Ent.Chg.CHANGES, ent0 Ent.Chg.COUNTER_SAT, ent0 Ent.Chg.REFUSALS, ent0 Ent.Chg.COUNTER_SAT] (changeCounter (if c then 0 else 1)) := by
  split
  · exact ⟨⟨_, List.mem_of_getElem? (i := 0) rfl, 0, 0, 0, by decide⟩, _, List.mem_of_getElem? (i := 1) rfl, 0, 0, 0, by decide⟩
  · exact ⟨⟨_, List.mem_of_getElem? (i := 2) rfl, 0, 0, 0, by decide⟩, _, List.mem_of_getElem? (i := 1) rfl, 0, 0, 0, by decide⟩
theorem has_gateEntry (g : Nat) : hasKey [ent2 Ent.Gate.GATE] (gateEntry g).key :=
  ⟨_, List.mem_singleton.2 rfl, g / 128, g % 128, 0, by simp only [ent2, Entry.key, gateEntry, Ent.Gate.GATE]; omega⟩
theorem has_applyStatus (i : Nat) : hasKey [ent1 fun i => ⟨i, 0xFD, 64, 0⟩] (applyStatus i).key :=
  ⟨_, List.mem_singleton.2 rfl, i, 0, 0, by simp only [ent1, Entry.key, applyStatus]; omega⟩
theorem has_unitStateEntry (x : UnitId) : hasKey [ent1 Ent.Port.STATE, ent2 Ent.Pq.Q_STATE, ent1 Ent.CanSt.STATE, ent1 Ent.Adc.STATE, ent1 Ent.Bctx.STATE, ent1 Ent.Dma.STATE, ent1 Ent.Heng.STATE, ent1 Ent.Qp.STATE] (unitStateEntry x).key := by
  cases x with
  | port p => exact ⟨ent1 Ent.Port.STATE, by decide, p, 0, 0, by simp only [ent1, Entry.key, unitStateEntry, Ent.Port.STATE]; omega⟩
  | queue p c => exact ⟨ent2 Ent.Pq.Q_STATE, by decide, p, c, 0, by simp only [ent2, Entry.key, unitStateEntry, Ent.Pq.Q_STATE]; omega⟩
  | can n => exact ⟨ent1 Ent.CanSt.STATE, by decide, n, 0, 0, by simp only [ent1, Entry.key, unitStateEntry, Ent.CanSt.STATE]; omega⟩
  | adc n => exact ⟨ent1 Ent.Adc.STATE, by decide, n, 0, 0, by simp only [ent1, Entry.key, unitStateEntry, Ent.Adc.STATE]; omega⟩
  | bridge u k => exact ⟨ent1 Ent.Bctx.STATE, by decide, bctx u k, 0, 0, by simp only [ent1, Entry.key, unitStateEntry, Ent.Bctx.STATE]; omega⟩
  | dma n => exact ⟨ent1 Ent.Dma.STATE, by decide, n, 0, 0, by simp only [ent1, Entry.key, unitStateEntry, Ent.Dma.STATE]; omega⟩
  | hostEngine n => exact ⟨ent1 Ent.Heng.STATE, by decide, n, 0, 0, by simp only [ent1, Entry.key, unitStateEntry, Ent.Heng.STATE]; omega⟩
  | queuePair n => exact ⟨ent1 Ent.Qp.STATE, by decide, n, 0, 0, by simp only [ent1, Entry.key, unitStateEntry, Ent.Qp.STATE]; omega⟩
theorem has_unitEnableEntry (x : UnitId) : hasKey [ent1 Ent.Port.ENABLE, ent2 Ent.Pq.Q_ENABLE, ent1 Ent.CanSt.ENABLE, ent1 Ent.Adc.ENABLE, ent1 Ent.Bctx.ENABLE, ent1 Ent.Dma.ENABLE, ent1 Ent.Heng.ENABLE, ent1 Ent.Qp.ENABLE] (unitEnableEntry x).key := by
  cases x with
  | port p => exact ⟨ent1 Ent.Port.ENABLE, by decide, p, 0, 0, by simp only [ent1, Entry.key, unitEnableEntry, Ent.Port.ENABLE]; omega⟩
  | queue p c => exact ⟨ent2 Ent.Pq.Q_ENABLE, by decide, p, c, 0, by simp only [ent2, Entry.key, unitEnableEntry, Ent.Pq.Q_ENABLE]; omega⟩
  | can n => exact ⟨ent1 Ent.CanSt.ENABLE, by decide, n, 0, 0, by simp only [ent1, Entry.key, unitEnableEntry, Ent.CanSt.ENABLE]; omega⟩
  | adc n => exact ⟨ent1 Ent.Adc.ENABLE, by decide, n, 0, 0, by simp only [ent1, Entry.key, unitEnableEntry, Ent.Adc.ENABLE]; omega⟩
  | bridge u k => exact ⟨ent1 Ent.Bctx.ENABLE, by decide, bctx u k, 0, 0, by simp only [ent1, Entry.key, unitEnableEntry, Ent.Bctx.ENABLE]; omega⟩
  | dma n => exact ⟨ent1 Ent.Dma.ENABLE, by decide, n, 0, 0, by simp only [ent1, Entry.key, unitEnableEntry, Ent.Dma.ENABLE]; omega⟩
  | hostEngine n => exact ⟨ent1 Ent.Heng.ENABLE, by decide, n, 0, 0, by simp only [ent1, Entry.key, unitEnableEntry, Ent.Heng.ENABLE]; omega⟩
  | queuePair n => exact ⟨ent1 Ent.Qp.ENABLE, by decide, n, 0, 0, by simp only [ent1, Entry.key, unitEnableEntry, Ent.Qp.ENABLE]; omega⟩
theorem rmb_addr (u k a : Nat) (f : Nat → Field) (h : (f 0).addr = 0x1EF00000 + a) : (rmb u k f).addr = 0x10800800 + a + u * 0x40000 + k * 0x1000 := by
  unfold rmb; dsimp only; rw [h]; omega
theorem has_rmb_MB_LEN (u k : Nat) : hasKey [word2 fun u k => rmb u k Rg.Mb.MB_LEN] (rmb u k Rg.Mb.MB_LEN).addr := by
  refine ⟨_, List.mem_singleton.2 rfl, u, k, 0, ?_⟩
  rw [show (word2 fun u k => rmb u k Rg.Mb.MB_LEN) = (⟨0x10800800 + 8, 0x40000, 0x1000, 0⟩ : Fam) by decide +kernel, rmb_addr u k 8 _ (by decide)]
  dsimp only
  omega
theorem has_rmb_MB_TOTAL (u k : Nat) : hasKey [word2 fun u k => rmb u k Rg.Mb.MB_TOTAL] (rmb u k Rg.Mb.MB_TOTAL).addr := by
  refine ⟨_, List.mem_singleton.2 rfl, u, k, 0, ?_⟩
  rw [show (word2 fun u k => rmb u k Rg.Mb.MB_TOTAL) = (⟨0x10800800 + 20, 0x40000, 0x1000, 0⟩ : Fam) by decide +kernel, rmb_addr u k 20 _ (by decide)]
  dsimp only
  omega
theorem has_rmb_CODE (u k : Nat) : hasKey [word2 fun u k => rmb u k Rg.Mb.CODE] (rmb u k Rg.Mb.CODE).addr := by
  refine ⟨_, List.mem_singleton.2 rfl, u, k, 0, ?_⟩
  rw [show (word2 fun u k => rmb u k Rg.Mb.CODE) = (⟨0x10800800 + 24, 0x40000, 0x1000, 0⟩ : Fam) by decide +kernel, rmb_addr u k 24 _ (by decide)]
  dsimp only
  omega
theorem has_rmb_BUSY (u k : Nat) : hasKey [word2 fun u k => rmb u k Rg.Mb.CODE] (rmb u k Rg.Mb.BUSY).addr := by
  refine ⟨_, List.mem_singleton.2 rfl, u, k, 0, ?_⟩
  rw [show (word2 fun u k => rmb u k Rg.Mb.CODE) = (⟨0x10800800 + 24, 0x40000, 0x1000, 0⟩ : Fam) by decide +kernel, rmb_addr u k 24 _ (by decide)]
  dsimp only
  omega
theorem has_rmb_DONE (u k : Nat) : hasKey [word2 fun u k => rmb u k Rg.Mb.CODE] (rmb u k Rg.Mb.DONE).addr := by
  refine ⟨_, List.mem_singleton.2 rfl, u, k, 0, ?_⟩
  rw [show (word2 fun u k => rmb u k Rg.Mb.CODE) = (⟨0x10800800 + 24, 0x40000, 0x1000, 0⟩ : Fam) by decide +kernel, rmb_addr u k 24 _ (by decide)]
  dsimp only
  omega
theorem has_rmb_OVERRUN (u k : Nat) : hasKey [word2 fun u k => rmb u k Rg.Mb.CODE] (rmb u k Rg.Mb.OVERRUN).addr := by
  refine ⟨_, List.mem_singleton.2 rfl, u, k, 0, ?_⟩
  rw [show (word2 fun u k => rmb u k Rg.Mb.CODE) = (⟨0x10800800 + 24, 0x40000, 0x1000, 0⟩ : Fam) by decide +kernel, rmb_addr u k 24 _ (by decide)]
  dsimp only
  omega
theorem has_rmb_GO (u k : Nat) : hasKey [word2 fun u k => rmb u k Rg.Mb.GO] (rmb u k Rg.Mb.GO).addr := by
  refine ⟨_, List.mem_singleton.2 rfl, u, k, 0, ?_⟩
  rw [show (word2 fun u k => rmb u k Rg.Mb.GO) = (⟨0x10800800 + 4, 0x40000, 0x1000, 0⟩ : Fam) by decide +kernel, rmb_addr u k 4 _ (by decide)]
  dsimp only
  omega
theorem has_rmb_MB_DATA (u k i : Nat) : hasKey [word3 fun u k i => rmb u k fun n => Rg.Mb.MB_DATA n i] (rmb u k fun n => Rg.Mb.MB_DATA n i).addr := by
  refine ⟨_, List.mem_singleton.2 rfl, u, k, i, ?_⟩
  rw [show (word3 fun u k i => rmb u k fun n => Rg.Mb.MB_DATA n i) = (⟨0x10800800 + 0x400, 0x40000, 0x1000, 4⟩ : Fam) by decide +kernel,
    rmb_addr u k (0x400 + 4 * i) _ (by simp only [Rg.Mb.MB_DATA]; omega)]
  dsimp only
  omega
theorem has_pgDepth (k : Nat) : hasKey [word0 Rg.M0Cpg.DEPTH, word1 Rg.Cpg.DEPTH] (pgDepth k).addr := by
  unfold pgDepth; split
  · exact ⟨word0 Rg.M0Cpg.DEPTH, by decide, 0, 0, 0, by simp only [word0, word1, word2, Rg.M0Cpg.DEPTH, Rg.Cpg.DEPTH] <;> omega⟩
  · exact ⟨word1 Rg.Cpg.DEPTH, by decide, k, 0, 0, by simp only [word0, word1, word2, Rg.M0Cpg.DEPTH, Rg.Cpg.DEPTH] <;> omega⟩
theorem has_pgPrio (k : Nat) : hasKey [word0 Rg.M0Cpg.DEPTH, word1 Rg.Cpg.DEPTH] (pgPrio k).addr := by
  unfold pgPrio; split
  · exact ⟨word0 Rg.M0Cpg.DEPTH, by decide, 0, 0, 0, by simp only [word0, word1, word2, Rg.M0Cpg.RUNPRIO, Rg.M0Cpg.DEPTH, Rg.Cpg.RUNPRIO, Rg.Cpg.DEPTH] <;> omega⟩
  · exact ⟨word1 Rg.Cpg.DEPTH, by decide, k, 0, 0, by simp only [word0, word1, word2, Rg.M0Cpg.RUNPRIO, Rg.M0Cpg.DEPTH, Rg.Cpg.RUNPRIO, Rg.Cpg.DEPTH] <;> omega⟩
theorem has_pgSrc (k i : Nat) : hasKey [word1 Rg.M0Cpg.STK_SRC, word2 Rg.Cpg.STK_SRC] (pgSrc k i).addr := by
  unfold pgSrc; split
  · exact ⟨word1 Rg.M0Cpg.STK_SRC, by decide, i, 0, 0, by simp only [word0, word1, word2, Rg.M0Cpg.STK_SRC, Rg.Cpg.STK_SRC] <;> omega⟩
  · exact ⟨word2 Rg.Cpg.STK_SRC, by decide, k, i, 0, by simp only [word0, word1, word2, Rg.M0Cpg.STK_SRC, Rg.Cpg.STK_SRC] <;> omega⟩
theorem has_pgSaved (k i : Nat) : hasKey [word1 Rg.M0Cpg.STK_SRC, word2 Rg.Cpg.STK_SRC] (pgSaved k i).addr := by
  unfold pgSaved; split
  · exact ⟨word1 Rg.M0Cpg.STK_SRC, by decide, i, 0, 0, by simp only [word0, word1, word2, Rg.M0Cpg.STK_PRIO, Rg.M0Cpg.STK_SRC, Rg.Cpg.STK_PRIO, Rg.Cpg.STK_SRC] <;> omega⟩
  · exact ⟨word2 Rg.Cpg.STK_SRC, by decide, k, i, 0, by simp only [word0, word1, word2, Rg.M0Cpg.STK_PRIO, Rg.M0Cpg.STK_SRC, Rg.Cpg.STK_PRIO, Rg.Cpg.STK_SRC] <;> omega⟩
theorem has_pgWfi (k : Nat) : hasKey [word0 Rg.M0Cpg.WFI, word1 Rg.Cpg.WFI] (pgWfi k).addr := by
  unfold pgWfi; split
  · exact ⟨word0 Rg.M0Cpg.WFI, by decide, 0, 0, 0, by simp only [word0, word1, word2, Rg.M0Cpg.WFI, Rg.Cpg.WFI] <;> omega⟩
  · exact ⟨word1 Rg.Cpg.WFI, by decide, k, 0, 0, by simp only [word0, word1, word2, Rg.M0Cpg.WFI, Rg.Cpg.WFI] <;> omega⟩
theorem has_pgFull (k : Nat) : hasKey [word0 Rg.M0Cpg.WFI, word1 Rg.Cpg.WFI] (pgFull k).addr := by
  unfold pgFull; split
  · exact ⟨word0 Rg.M0Cpg.WFI, by decide, 0, 0, 0, by simp only [word0, word1, word2, Rg.M0Cpg.FULL, Rg.M0Cpg.WFI, Rg.Cpg.FULL, Rg.Cpg.WFI] <;> omega⟩
  · exact ⟨word1 Rg.Cpg.WFI, by decide, k, 0, 0, by simp only [word0, word1, word2, Rg.M0Cpg.FULL, Rg.M0Cpg.WFI, Rg.Cpg.FULL, Rg.Cpg.WFI] <;> omega⟩
theorem has_pgCerr (k : Nat) : hasKey [word0 Rg.M0Cpg.WFI, word1 Rg.Cpg.WFI] (pgCerr k).addr := by
  unfold pgCerr; split
  · exact ⟨word0 Rg.M0Cpg.WFI, by decide, 0, 0, 0, by simp only [word0, word1, word2, Rg.M0Cpg.CERR, Rg.M0Cpg.WFI, Rg.Cpg.CERR, Rg.Cpg.WFI] <;> omega⟩
  · exact ⟨word1 Rg.Cpg.WFI, by decide, k, 0, 0, by simp only [word0, word1, word2, Rg.M0Cpg.CERR, Rg.M0Cpg.WFI, Rg.Cpg.CERR, Rg.Cpg.WFI] <;> omega⟩
theorem has_sActive (k n : Nat) : hasKey [word1 Rg.M0Src.PENDING, word1 Rg.Src.PENDING] (sActive k n).addr := by
  unfold sActive; split
  · exact ⟨word1 Rg.M0Src.PENDING, by decide, n, 0, 0, by simp only [word1, Rg.M0Src.ACTIVE, Rg.M0Src.PENDING, Rg.Src.ACTIVE, Rg.Src.PENDING]; omega⟩
  · exact ⟨word1 Rg.Src.PENDING, by decide, n, 0, 0, by simp only [word1, Rg.M0Src.ACTIVE, Rg.M0Src.PENDING, Rg.Src.ACTIVE, Rg.Src.PENDING]; omega⟩
theorem has_sEnable (k n : Nat) : hasKey [word1 Rg.M0Src.PENDING, word1 Rg.Src.PENDING] (sEnable k n).addr := by
  unfold sEnable; split
  · exact ⟨word1 Rg.M0Src.PENDING, by decide, n, 0, 0, by simp only [word1, Rg.M0Src.ENABLE, Rg.M0Src.PENDING, Rg.Src.ENABLE, Rg.Src.PENDING]; omega⟩
  · exact ⟨word1 Rg.Src.PENDING, by decide, n, 0, 0, by simp only [word1, Rg.M0Src.ENABLE, Rg.M0Src.PENDING, Rg.Src.ENABLE, Rg.Src.PENDING]; omega⟩
theorem has_sPending (k n : Nat) : hasKey [word1 Rg.M0Src.PENDING, word1 Rg.Src.PENDING] (sPending k n).addr := by
  unfold sPending; split
  · exact ⟨word1 Rg.M0Src.PENDING, by decide, n, 0, 0, by simp only [word1, Rg.M0Src.PENDING, Rg.Src.PENDING]; omega⟩
  · exact ⟨word1 Rg.Src.PENDING, by decide, n, 0, 0, by simp only [word1, Rg.M0Src.PENDING, Rg.Src.PENDING]; omega⟩
theorem has_sMod (k n : Nat) : hasKey [word1 Rg.M0Src.PENDING, word1 Rg.Src.PENDING] (sMod k n).addr := by
  unfold sMod; split
  · exact ⟨word1 Rg.M0Src.PENDING, by decide, n, 0, 0, by simp only [word1, Rg.M0Src.MOD_US, Rg.M0Src.PENDING, Rg.Src.MOD_US, Rg.Src.PENDING]; omega⟩
  · exact ⟨word1 Rg.Src.PENDING, by decide, n, 0, 0, by simp only [word1, Rg.M0Src.MOD_US, Rg.M0Src.PENDING, Rg.Src.MOD_US, Rg.Src.PENDING]; omega⟩
theorem has_buCounter_0 (n : Nat) : hasCtr [ent1 Ent.Bu.RX_REJECTED, ent1 Ent.Bu.COUNTER_SAT] (buCounter n 0) := hasCtr.mk (has_Bu_RX_REJECTED n) (has_Bu_COUNTER_SAT n)
theorem has_buCounter_1 (n : Nat) : hasCtr [ent1 Ent.Bu.EVT_UNKNOWN, ent1 Ent.Bu.COUNTER_SAT] (buCounter n 1) := hasCtr.mk (has_Bu_EVT_UNKNOWN n) (has_Bu_COUNTER_SAT n)
theorem has_buCounter_2 (n : Nat) : hasCtr [ent1 Ent.Bu.ORPHANS, ent1 Ent.Bu.COUNTER_SAT] (buCounter n 2) := hasCtr.mk (has_Bu_ORPHANS n) (has_Bu_COUNTER_SAT n)
theorem has_buCounter_3 (n : Nat) : hasCtr [ent1 Ent.Bu.POLLS, ent1 Ent.Bu.COUNTER_SAT] (buCounter n 3) := hasCtr.mk (has_Bu_POLLS n) (has_Bu_COUNTER_SAT n)
theorem has_canCounter_0 (n : Nat) : hasCtr [ent1 Ent.CanSt.RX_FRAMES, ent1 Ent.CanSt.COUNTER_SAT] (canCounter n 0) := hasCtr.mk (has_CanSt_RX_FRAMES n) (has_CanSt_COUNTER_SAT n)
theorem has_canCounter_1 (n : Nat) : hasCtr [ent1 Ent.CanSt.TX_FRAMES, ent1 Ent.CanSt.COUNTER_SAT] (canCounter n 1) := hasCtr.mk (has_CanSt_TX_FRAMES n) (has_CanSt_COUNTER_SAT n)
theorem has_canCounter_2 (n : Nat) : hasCtr [ent1 Ent.CanSt.RX_LOST, ent1 Ent.CanSt.COUNTER_SAT] (canCounter n 2) := hasCtr.mk (has_CanSt_RX_LOST n) (has_CanSt_COUNTER_SAT n)
theorem has_canCounter_3 (n : Nat) : hasCtr [ent1 Ent.CanSt.FIFO_OVF, ent1 Ent.CanSt.COUNTER_SAT] (canCounter n 3) := hasCtr.mk (has_CanSt_FIFO_OVF n) (has_CanSt_COUNTER_SAT n)
theorem has_canCounter_4 (n : Nat) : hasCtr [ent1 Ent.CanSt.RX_UNMATCHED, ent1 Ent.CanSt.COUNTER_SAT] (canCounter n 4) := hasCtr.mk (has_CanSt_RX_UNMATCHED n) (has_CanSt_COUNTER_SAT n)
theorem has_canCounter_5 (n : Nat) : hasCtr [ent1 Ent.CanSt.ERR_FRAMES, ent1 Ent.CanSt.COUNTER_SAT] (canCounter n 5) := hasCtr.mk (has_CanSt_ERR_FRAMES n) (has_CanSt_COUNTER_SAT n)
theorem has_canCounter_6 (n : Nat) : hasCtr [ent1 Ent.CanSt.BUS_OFFS, ent1 Ent.CanSt.COUNTER_SAT] (canCounter n 6) := hasCtr.mk (has_CanSt_BUS_OFFS n) (has_CanSt_COUNTER_SAT n)
theorem has_canCounter_7 (n : Nat) : hasCtr [ent1 Ent.CanSt.LOCK_EXPIRED, ent1 Ent.CanSt.COUNTER_SAT] (canCounter n 7) := hasCtr.mk (has_CanSt_LOCK_EXPIRED n) (has_CanSt_COUNTER_SAT n)
theorem has_canCounter_8 (n : Nat) : hasCtr [ent1 Ent.CanSt.REF_LATE, ent1 Ent.CanSt.COUNTER_SAT] (canCounter n 8) := hasCtr.mk (has_CanSt_REF_LATE n) (has_CanSt_COUNTER_SAT n)
theorem has_canCounter_9 (n : Nat) : hasCtr [ent1 Ent.CanSt.TX_DISCARDED, ent1 Ent.CanSt.COUNTER_SAT] (canCounter n 9) := hasCtr.mk (has_CanSt_TX_DISCARDED n) (has_CanSt_COUNTER_SAT n)
theorem has_captureLost (n : Nat) : hasCtr [ent1 Ent.Trgp.CAPTURE_LOST, ent1 Ent.Trgp.COUNTER_SAT] (captureLost n) := hasCtr.mk (has_Trgp_CAPTURE_LOST n) (has_Trgp_COUNTER_SAT n)
theorem has_changeCounter_1 : hasCtr [ent0 Ent.Chg.REFUSALS, ent0 Ent.Chg.COUNTER_SAT] (changeCounter  1) := hasCtr.mk (has_Chg_REFUSALS ) (has_Chg_COUNTER_SAT )
theorem has_clockCounter_0 : hasCtr [ent0 Ent.Clk.TRIPS, ent0 Ent.Clk.COUNTER_SAT] (clockCounter  0) := hasCtr.mk (has_Clk_TRIPS ) (has_Clk_COUNTER_SAT )
theorem has_clockCounter_1 : hasCtr [ent0 Ent.Clk.FORCED_SWITCHES, ent0 Ent.Clk.COUNTER_SAT] (clockCounter  1) := hasCtr.mk (has_Clk_FORCED_SWITCHES ) (has_Clk_COUNTER_SAT )
theorem has_clockCounter_2 : hasCtr [ent0 Ent.Clk.REF_LOSSES, ent0 Ent.Clk.COUNTER_SAT] (clockCounter  2) := hasCtr.mk (has_Clk_REF_LOSSES ) (has_Clk_COUNTER_SAT )
theorem has_collisions (n : Nat) : hasCtr [ent1 Ent.Port.COLLISIONS, ent1 Ent.Port.PORT_SAT] (collisions n) := hasCtr.mk (has_Port_COLLISIONS n) (has_Port_PORT_SAT n)
theorem has_copiesDropped (n : Nat) : hasCtr [ent1 Ent.Pq.COPIES_DROPPED, ent1 Ent.Pq.PORT_SAT] (copiesDropped n) := hasCtr.mk (has_Pq_COPIES_DROPPED n) (has_Pq_PORT_SAT n)
theorem has_copiesSent (n : Nat) : hasCtr [ent1 Ent.Pq.COPIES_SENT, ent1 Ent.Pq.PORT_SAT] (copiesSent n) := hasCtr.mk (has_Pq_COPIES_SENT n) (has_Pq_PORT_SAT n)
theorem has_ctAborted (n : Nat) : hasCtr [ent1 Ent.Pq.CT_ABORTED, ent1 Ent.Pq.PORT_SAT] (ctAborted n) := hasCtr.mk (has_Pq_CT_ABORTED n) (has_Pq_PORT_SAT n)
theorem has_ctCopies (n : Nat) : hasCtr [ent1 Ent.Pq.CT_COPIES, ent1 Ent.Pq.PORT_SAT] (ctCopies n) := hasCtr.mk (has_Pq_CT_COPIES n) (has_Pq_PORT_SAT n)
theorem has_dmaCounter_0 (n : Nat) : hasCtr [ent1 Ent.Dma.DESCRIPTORS, ent1 Ent.Dma.COUNTER_SAT] (dmaCounter n 0) := hasCtr.mk (has_Dma_DESCRIPTORS n) (has_Dma_COUNTER_SAT n)
theorem has_dmaCounter_1 (n : Nat) : hasCtr [ent1 Ent.Dma.ERRORS, ent1 Ent.Dma.COUNTER_SAT] (dmaCounter n 1) := hasCtr.mk (has_Dma_ERRORS n) (has_Dma_COUNTER_SAT n)
theorem has_dmaCounter_2 (n : Nat) : hasCtr [ent1 Ent.Dma.FAULTS, ent1 Ent.Dma.COUNTER_SAT] (dmaCounter n 2) := hasCtr.mk (has_Dma_FAULTS n) (has_Dma_COUNTER_SAT n)
theorem has_dmaCounter_3 (n : Nat) : hasCtr [ent1 Ent.Dma.BYTES, ent1 Ent.Dma.COUNTER_SAT] (dmaCounter n 3) := hasCtr.mk (has_Dma_BYTES n) (has_Dma_COUNTER_SAT n)
theorem has_dmaCounter_4 (n : Nat) : hasCtr [ent1 Ent.Dma.STALE, ent1 Ent.Dma.COUNTER_SAT] (dmaCounter n 4) := hasCtr.mk (has_Dma_STALE n) (has_Dma_COUNTER_SAT n)
theorem has_egressFiltered (n : Nat) : hasCtr [ent1 Ent.Port.EGRESS_FILTERED, ent1 Ent.Port.PORT_SAT] (egressFiltered n) := hasCtr.mk (has_Port_EGRESS_FILTERED n) (has_Port_PORT_SAT n)
theorem has_hallCounter_0 (n : Nat) : hasCtr [ent1 Ent.Hall.FAULTS, ent1 Ent.Hall.COUNTER_SAT] (hallCounter n 0) := hasCtr.mk (has_Hall_FAULTS n) (has_Hall_COUNTER_SAT n)
theorem has_hallCounter_1 (n : Nat) : hasCtr [ent1 Ent.Hall.RESETS, ent1 Ent.Hall.COUNTER_SAT] (hallCounter n 1) := hasCtr.mk (has_Hall_RESETS n) (has_Hall_COUNTER_SAT n)
theorem has_hallCounter_2 (n : Nat) : hasCtr [ent1 Ent.Hall.MIGRATIONS, ent1 Ent.Hall.COUNTER_SAT] (hallCounter n 2) := hasCtr.mk (has_Hall_MIGRATIONS n) (has_Hall_COUNTER_SAT n)
theorem has_ingOvf (n : Nat) : hasCtr [ent1 Ent.Pq.ING_OVF, ent1 Ent.Pq.PORT_SAT] (ingOvf n) := hasCtr.mk (has_Pq_ING_OVF n) (has_Pq_PORT_SAT n)
theorem has_linkDowns (n : Nat) : hasCtr [ent1 Ent.Port.LINK_DOWNS, ent1 Ent.Port.PORT_SAT] (linkDowns n) := hasCtr.mk (has_Port_LINK_DOWNS n) (has_Port_PORT_SAT n)
theorem has_loadCounter_0 (n : Nat) : hasCtr [ent1 Ent.Lc.TRIPS, ent1 Ent.Lc.COUNTER_SAT] (loadCounter n 0) := hasCtr.mk (has_Lc_TRIPS n) (has_Lc_COUNTER_SAT n)
theorem has_loadCounter_1 (n : Nat) : hasCtr [ent1 Ent.Lc.COUPLED_TRIPS, ent1 Ent.Lc.COUNTER_SAT] (loadCounter n 1) := hasCtr.mk (has_Lc_COUPLED_TRIPS n) (has_Lc_COUNTER_SAT n)
theorem has_loadCounter_2 (n : Nat) : hasCtr [ent1 Ent.Lc.LATCHES, ent1 Ent.Lc.COUNTER_SAT] (loadCounter n 2) := hasCtr.mk (has_Lc_LATCHES n) (has_Lc_COUNTER_SAT n)
theorem has_loadCounter_3 (n : Nat) : hasCtr [ent1 Ent.Lc.LIMIT_EVENTS, ent1 Ent.Lc.COUNTER_SAT] (loadCounter n 3) := hasCtr.mk (has_Lc_LIMIT_EVENTS n) (has_Lc_COUNTER_SAT n)
theorem has_loadCounter_4 (n : Nat) : hasCtr [ent1 Ent.Lc.OPEN_LOADS, ent1 Ent.Lc.COUNTER_SAT] (loadCounter n 4) := hasCtr.mk (has_Lc_OPEN_LOADS n) (has_Lc_COUNTER_SAT n)
theorem has_loadCounter_5 (n : Nat) : hasCtr [ent1 Ent.Lc.SHORTS_VBAT, ent1 Ent.Lc.COUNTER_SAT] (loadCounter n 5) := hasCtr.mk (has_Lc_SHORTS_VBAT n) (has_Lc_COUNTER_SAT n)
theorem has_loadCounter_6 (n : Nat) : hasCtr [ent1 Ent.Lc.CLAMP_EVENTS, ent1 Ent.Lc.COUNTER_SAT] (loadCounter n 6) := hasCtr.mk (has_Lc_CLAMP_EVENTS n) (has_Lc_COUNTER_SAT n)
theorem has_ndpCounter_0 : hasCtr [ent0 Ent.Ndp.RX_REQUESTS, ent0 Ent.Ndp.COUNTER_SAT] (ndpCounter  0) := hasCtr.mk (has_Ndp_RX_REQUESTS ) (has_Ndp_COUNTER_SAT )
theorem has_ndpCounter_1 : hasCtr [ent0 Ent.Ndp.RX_DROPPED, ent0 Ent.Ndp.COUNTER_SAT] (ndpCounter  1) := hasCtr.mk (has_Ndp_RX_DROPPED ) (has_Ndp_COUNTER_SAT )
theorem has_noDesc (n : Nat) : hasCtr [ent1 Ent.Pq.NO_DESC, ent1 Ent.Pq.PORT_SAT] (noDesc n) := hasCtr.mk (has_Pq_NO_DESC n) (has_Pq_PORT_SAT n)
theorem has_noQp (n : Nat) : hasCtr [ent1 Ent.Heng.NO_QP, ent1 Ent.Heng.COUNTER_SAT] (noQp n) := hasCtr.mk (has_Heng_NO_QP n) (has_Heng_COUNTER_SAT n)
theorem has_overlaps (n : Nat) : hasCtr [ent1 Ent.Adc.OVERLAPS, ent1 Ent.Adc.COUNTER_SAT] (overlaps n) := hasCtr.mk (has_Adc_OVERLAPS n) (has_Adc_COUNTER_SAT n)
theorem has_oversize (n : Nat) : hasCtr [ent1 Ent.Pq.OVERSIZE, ent1 Ent.Pq.PORT_SAT] (oversize n) := hasCtr.mk (has_Pq_OVERSIZE n) (has_Pq_PORT_SAT n)
theorem has_partCounter_0 (n : Nat) : hasCtr [ent1 Ent.Part.READ_BYTES, ent1 Ent.Part.COUNTER_SAT] (partCounter n 0) := hasCtr.mk (has_Part_READ_BYTES n) (has_Part_COUNTER_SAT n)
theorem has_partCounter_1 (n : Nat) : hasCtr [ent1 Ent.Part.WRITE_BYTES, ent1 Ent.Part.COUNTER_SAT] (partCounter n 1) := hasCtr.mk (has_Part_WRITE_BYTES n) (has_Part_COUNTER_SAT n)
theorem has_partCounter_2 (n : Nat) : hasCtr [ent1 Ent.Part.ERRORS, ent1 Ent.Part.COUNTER_SAT] (partCounter n 2) := hasCtr.mk (has_Part_ERRORS n) (has_Part_COUNTER_SAT n)
theorem has_powerCounter_0 : hasCtr [ent0 Ent.Pwr.POWER_FAILS, ent0 Ent.Pwr.COUNTER_SAT] (powerCounter  0) := hasCtr.mk (has_Pwr_POWER_FAILS ) (has_Pwr_COUNTER_SAT )
theorem has_powerCounter_1 : hasCtr [ent0 Ent.Pwr.RECOVERIES, ent0 Ent.Pwr.COUNTER_SAT] (powerCounter  1) := hasCtr.mk (has_Pwr_RECOVERIES ) (has_Pwr_COUNTER_SAT )
theorem has_powerCounter_2 : hasCtr [ent0 Ent.Pwr.CHIP_RESETS, ent0 Ent.Pwr.COUNTER_SAT] (powerCounter  2) := hasCtr.mk (has_Pwr_CHIP_RESETS ) (has_Pwr_COUNTER_SAT )
theorem has_powerCounter_3 : hasCtr [ent0 Ent.Pwr.WARM_RESETS, ent0 Ent.Pwr.COUNTER_SAT] (powerCounter  3) := hasCtr.mk (has_Pwr_WARM_RESETS ) (has_Pwr_COUNTER_SAT )
theorem has_powerCounter_4 : hasCtr [ent0 Ent.Pwr.UNIT_RESETS, ent0 Ent.Pwr.COUNTER_SAT] (powerCounter  4) := hasCtr.mk (has_Pwr_UNIT_RESETS ) (has_Pwr_COUNTER_SAT )
theorem has_powerCounter_5 : hasCtr [ent0 Ent.Pwr.SP_FRAME_ERRORS, ent0 Ent.Pwr.COUNTER_SAT] (powerCounter  5) := hasCtr.mk (has_Pwr_SP_FRAME_ERRORS ) (has_Pwr_COUNTER_SAT )
theorem has_qpCounter_0 (n : Nat) : hasCtr [ent1 Ent.Qp.TX_FRAMES, ent1 Ent.Qp.COUNTER_SAT] (qpCounter n 0) := hasCtr.mk (has_Qp_TX_FRAMES n) (has_Qp_COUNTER_SAT n)
theorem has_qpCounter_1 (n : Nat) : hasCtr [ent1 Ent.Qp.RX_FRAMES, ent1 Ent.Qp.COUNTER_SAT] (qpCounter n 1) := hasCtr.mk (has_Qp_RX_FRAMES n) (has_Qp_COUNTER_SAT n)
theorem has_qpCounter_2 (n : Nat) : hasCtr [ent1 Ent.Qp.TX_ERRORS, ent1 Ent.Qp.COUNTER_SAT] (qpCounter n 2) := hasCtr.mk (has_Qp_TX_ERRORS n) (has_Qp_COUNTER_SAT n)
theorem has_qpCounter_3 (n : Nat) : hasCtr [ent1 Ent.Qp.RX_TRUNC, ent1 Ent.Qp.COUNTER_SAT] (qpCounter n 3) := hasCtr.mk (has_Qp_RX_TRUNC n) (has_Qp_COUNTER_SAT n)
theorem has_qpCounter_4 (n : Nat) : hasCtr [ent1 Ent.Qp.RX_FAULTS, ent1 Ent.Qp.COUNTER_SAT] (qpCounter n 4) := hasCtr.mk (has_Qp_RX_FAULTS n) (has_Qp_COUNTER_SAT n)
theorem has_qpCounter_5 (n : Nat) : hasCtr [ent1 Ent.Qp.ERR_LOST, ent1 Ent.Qp.COUNTER_SAT] (qpCounter n 5) := hasCtr.mk (has_Qp_ERR_LOST n) (has_Qp_COUNTER_SAT n)
theorem has_queueCounter_10 (n m : Nat) : hasCtr [ent2 Ent.Pq.DROP_RESIDENCE, ent1 Ent.Pq.Q_SAT] (queueCounter n m 10) := hasCtr.mk (has_Pq_DROP_RESIDENCE n m) (has_Pq_Q_SAT n)
theorem has_queueCounter_11 (n m : Nat) : hasCtr [ent2 Ent.Pq.DROP_DOWN, ent1 Ent.Pq.Q_SAT] (queueCounter n m 11) := hasCtr.mk (has_Pq_DROP_DOWN n m) (has_Pq_Q_SAT n)
theorem has_queueCounter_12 (n m : Nat) : hasCtr [ent2 Ent.Pq.DROP_DISABLED, ent1 Ent.Pq.Q_SAT] (queueCounter n m 12) := hasCtr.mk (has_Pq_DROP_DISABLED n m) (has_Pq_Q_SAT n)
theorem has_queueCounter_13 (n m : Nat) : hasCtr [ent2 Ent.Pq.SPILLED, ent1 Ent.Pq.Q_SAT] (queueCounter n m 13) := hasCtr.mk (has_Pq_SPILLED n m) (has_Pq_Q_SAT n)
theorem has_queueCounter_7 (n m : Nat) : hasCtr [ent2 Ent.Pq.Q_TX_FRAMES, ent1 Ent.Pq.Q_SAT] (queueCounter n m 7) := hasCtr.mk (has_Pq_Q_TX_FRAMES n m) (has_Pq_Q_SAT n)
theorem has_queueCounter_8 (n m : Nat) : hasCtr [ent2 Ent.Pq.DROP_FULL, ent1 Ent.Pq.Q_SAT] (queueCounter n m 8) := hasCtr.mk (has_Pq_DROP_FULL n m) (has_Pq_Q_SAT n)
theorem has_queueCounter_9 (n m : Nat) : hasCtr [ent2 Ent.Pq.DROP_STW, ent1 Ent.Pq.Q_SAT] (queueCounter n m 9) := hasCtr.mk (has_Pq_DROP_STW n m) (has_Pq_Q_SAT n)
theorem has_rxBytes (n : Nat) : hasCtr [ent1 Ent.Port.RX_BYTES, ent1 Ent.Port.PORT_SAT] (rxBytes n) := hasCtr.mk (has_Port_RX_BYTES n) (has_Port_PORT_SAT n)
theorem has_rxDisabled (n : Nat) : hasCtr [ent1 Ent.Port.RX_DISABLED, ent1 Ent.Port.PORT_SAT] (rxDisabled n) := hasCtr.mk (has_Port_RX_DISABLED n) (has_Port_PORT_SAT n)
theorem has_rxFcs (n : Nat) : hasCtr [ent1 Ent.Port.RX_FCS, ent1 Ent.Port.PORT_SAT] (rxFcs n) := hasCtr.mk (has_Port_RX_FCS n) (has_Port_PORT_SAT n)
theorem has_rxFrames (n : Nat) : hasCtr [ent1 Ent.Port.RX_FRAMES, ent1 Ent.Port.PORT_SAT] (rxFrames n) := hasCtr.mk (has_Port_RX_FRAMES n) (has_Port_PORT_SAT n)
theorem has_rxLength (n : Nat) : hasCtr [ent1 Ent.Port.RX_LENGTH, ent1 Ent.Port.PORT_SAT] (rxLength n) := hasCtr.mk (has_Port_RX_LENGTH n) (has_Port_PORT_SAT n)
theorem has_rxStamps (n : Nat) : hasCtr [ent1 Ent.Ptime.RX_STAMPS, ent1 Ent.Ptime.COUNTER_SAT] (rxStamps n) := hasCtr.mk (has_Ptime_RX_STAMPS n) (has_Ptime_COUNTER_SAT n)
theorem has_rxType (n : Nat) : hasCtr [ent1 Ent.Port.RX_TYPE, ent1 Ent.Port.PORT_SAT] (rxType n) := hasCtr.mk (has_Port_RX_TYPE n) (has_Port_PORT_SAT n)
theorem has_rxVlan (n : Nat) : hasCtr [ent1 Ent.Port.RX_VLAN, ent1 Ent.Port.PORT_SAT] (rxVlan n) := hasCtr.mk (has_Port_RX_VLAN n) (has_Port_PORT_SAT n)
theorem has_sleepCounter_0 : hasCtr [ent0 Ent.Slp.SLEEPS, ent0 Ent.Slp.COUNTER_SAT] (sleepCounter  0) := hasCtr.mk (has_Slp_SLEEPS ) (has_Slp_COUNTER_SAT )
theorem has_sleepCounter_1 : hasCtr [ent0 Ent.Slp.ABORTS, ent0 Ent.Slp.COUNTER_SAT] (sleepCounter  1) := hasCtr.mk (has_Slp_ABORTS ) (has_Slp_COUNTER_SAT )
theorem has_slotCounter_0 (n : Nat) : hasCtr [ent1 Ent.Stn.RX_FRAMES, ent1 Ent.Stn.COUNTER_SAT] (slotCounter n 0) := hasCtr.mk (has_Stn_RX_FRAMES n) (has_Stn_COUNTER_SAT n)
theorem has_slotCounter_1 (n : Nat) : hasCtr [ent1 Ent.Stn.RX_STALE, ent1 Ent.Stn.COUNTER_SAT] (slotCounter n 1) := hasCtr.mk (has_Stn_RX_STALE n) (has_Stn_COUNTER_SAT n)
theorem has_slotCounter_2 (n : Nat) : hasCtr [ent1 Ent.Stn.RX_BAD, ent1 Ent.Stn.COUNTER_SAT] (slotCounter n 2) := hasCtr.mk (has_Stn_RX_BAD n) (has_Stn_COUNTER_SAT n)
theorem has_slotCounter_3 (n : Nat) : hasCtr [ent1 Ent.Stn.TX_FRAMES, ent1 Ent.Stn.COUNTER_SAT] (slotCounter n 3) := hasCtr.mk (has_Stn_TX_FRAMES n) (has_Stn_COUNTER_SAT n)
theorem has_slotCounter_4 (n : Nat) : hasCtr [ent1 Ent.Stn.TX_HELD, ent1 Ent.Stn.COUNTER_SAT] (slotCounter n 4) := hasCtr.mk (has_Stn_TX_HELD n) (has_Stn_COUNTER_SAT n)
theorem has_slotCounter_5 (n : Nat) : hasCtr [ent1 Ent.Stn.LOSSES, ent1 Ent.Stn.COUNTER_SAT] (slotCounter n 5) := hasCtr.mk (has_Stn_LOSSES n) (has_Stn_COUNTER_SAT n)
theorem has_stoCounter_0 : hasCtr [ent0 Ent.Sto.HOST_WRITE_BYTES, ent0 Ent.Sto.COUNTER_SAT] (stoCounter  0) := hasCtr.mk (has_Sto_HOST_WRITE_BYTES ) (has_Sto_COUNTER_SAT )
theorem has_stoCounter_1 : hasCtr [ent0 Ent.Sto.NAND_WRITE_BYTES, ent0 Ent.Sto.COUNTER_SAT] (stoCounter  1) := hasCtr.mk (has_Sto_NAND_WRITE_BYTES ) (has_Sto_COUNTER_SAT )
theorem has_stoCounter_2 : hasCtr [ent0 Ent.Sto.READ_BYTES, ent0 Ent.Sto.COUNTER_SAT] (stoCounter  2) := hasCtr.mk (has_Sto_READ_BYTES ) (has_Sto_COUNTER_SAT )
theorem has_stoCounter_3 : hasCtr [ent0 Ent.Sto.CORRECTED_CW, ent0 Ent.Sto.COUNTER_SAT] (stoCounter  3) := hasCtr.mk (has_Sto_CORRECTED_CW ) (has_Sto_COUNTER_SAT )
theorem has_stoCounter_4 : hasCtr [ent0 Ent.Sto.UNCORRECTABLE, ent0 Ent.Sto.COUNTER_SAT] (stoCounter  4) := hasCtr.mk (has_Sto_UNCORRECTABLE ) (has_Sto_COUNTER_SAT )
theorem has_stoCounter_5 : hasCtr [ent0 Ent.Sto.REFRESHES, ent0 Ent.Sto.COUNTER_SAT] (stoCounter  5) := hasCtr.mk (has_Sto_REFRESHES ) (has_Sto_COUNTER_SAT )
theorem has_stoCounter_6 : hasCtr [ent0 Ent.Sto.MOUNTS_UNCLEAN, ent0 Ent.Sto.COUNTER_SAT] (stoCounter  6) := hasCtr.mk (has_Sto_MOUNTS_UNCLEAN ) (has_Sto_COUNTER_SAT )
theorem has_streamDrops (n : Nat) : hasCtr [ent1 Ent.Port.STREAM_DROPS, ent1 Ent.Port.PORT_SAT] (streamDrops n) := hasCtr.mk (has_Port_STREAM_DROPS n) (has_Port_PORT_SAT n)
theorem has_taskCounter_0 (n : Nat) : hasCtr [ent1 Ent.Task.CYCLES, ent1 Ent.Task.COUNTER_SAT] (taskCounter n 0) := hasCtr.mk (has_Task_CYCLES n) (has_Task_COUNTER_SAT n)
theorem has_taskCounter_1 (n : Nat) : hasCtr [ent1 Ent.Task.MERGED, ent1 Ent.Task.COUNTER_SAT] (taskCounter n 1) := hasCtr.mk (has_Task_MERGED n) (has_Task_COUNTER_SAT n)
theorem has_taskCounter_2 (n : Nat) : hasCtr [ent1 Ent.Task.SKIPPED, ent1 Ent.Task.COUNTER_SAT] (taskCounter n 2) := hasCtr.mk (has_Task_SKIPPED n) (has_Task_COUNTER_SAT n)
theorem has_tcmPoliced (n : Nat) : hasCtr [ent1 Ent.Port.TCM_POLICED, ent1 Ent.Port.PORT_SAT] (tcmPoliced n) := hasCtr.mk (has_Port_TCM_POLICED n) (has_Port_PORT_SAT n)
theorem has_trigUnitCounter_0 (n : Nat) : hasCtr [ent1 Ent.Trgu.FIRED, ent1 Ent.Trgu.COUNTER_SAT] (trigUnitCounter n 0) := hasCtr.mk (has_Trgu_FIRED n) (has_Trgu_COUNTER_SAT n)
theorem has_trigUnitCounter_1 (n : Nat) : hasCtr [ent1 Ent.Trgu.MISSED, ent1 Ent.Trgu.COUNTER_SAT] (trigUnitCounter n 1) := hasCtr.mk (has_Trgu_MISSED n) (has_Trgu_COUNTER_SAT n)
theorem has_tunCounter_0 (n u : Nat) : hasCtr [ent1 Ent.Tun.TUN_OUT, ent1 Ent.Tun.COUNTER_SAT] (tunCounter n 0 u) := hasCtr.mk (has_Tun_TUN_OUT n) (has_Tun_COUNTER_SAT n)
theorem has_tunCounter_1 (n u : Nat) : hasCtr [ent1 Ent.Tun.TUN_IN, ent1 Ent.Tun.COUNTER_SAT] (tunCounter n 1 u) := hasCtr.mk (has_Tun_TUN_IN n) (has_Tun_COUNTER_SAT n)
theorem has_tunCounter_2 (n u : Nat) : hasCtr [ent1 Ent.Tun.TUN_DROPPED, ent1 Ent.Tun.COUNTER_SAT] (tunCounter n 2 u) := hasCtr.mk (has_Tun_TUN_DROPPED n) (has_Tun_COUNTER_SAT n)
theorem has_twinCounter_0 : hasCtr [ent0 Ent.Tws.PROMOTIONS, ent0 Ent.Tws.COUNTER_SAT] (twinCounter  0) := hasCtr.mk (has_Tws_PROMOTIONS ) (has_Tws_COUNTER_SAT )
theorem has_twinCounter_1 : hasCtr [ent0 Ent.Tws.HANDOVERS, ent0 Ent.Tws.COUNTER_SAT] (twinCounter  1) := hasCtr.mk (has_Tws_HANDOVERS ) (has_Tws_COUNTER_SAT )
theorem has_twinCounter_2 : hasCtr [ent0 Ent.Tws.OUT_MISMATCHES, ent0 Ent.Tws.COUNTER_SAT] (twinCounter  2) := hasCtr.mk (has_Tws_OUT_MISMATCHES ) (has_Tws_COUNTER_SAT )
theorem has_twinCounter_3 : hasCtr [ent0 Ent.Tws.GAL_AUTH_FAIL, ent0 Ent.Tws.COUNTER_SAT] (twinCounter  3) := hasCtr.mk (has_Tws_GAL_AUTH_FAIL ) (has_Tws_COUNTER_SAT )
theorem has_twinCounter_4 : hasCtr [ent0 Ent.Tws.SPLIT_PATHS, ent0 Ent.Tws.COUNTER_SAT] (twinCounter  4) := hasCtr.mk (has_Tws_SPLIT_PATHS ) (has_Tws_COUNTER_SAT )
theorem has_twinCounter_5 : hasCtr [ent0 Ent.Tws.WIRING_FAULTS, ent0 Ent.Tws.COUNTER_SAT] (twinCounter  5) := hasCtr.mk (has_Tws_WIRING_FAULTS ) (has_Tws_COUNTER_SAT )
theorem has_twinCounter_6 : hasCtr [ent0 Ent.Tws.REPL_LATE, ent0 Ent.Tws.COUNTER_SAT] (twinCounter  6) := hasCtr.mk (has_Tws_REPL_LATE ) (has_Tws_COUNTER_SAT )
theorem has_txBytes (n : Nat) : hasCtr [ent1 Ent.Port.TX_BYTES, ent1 Ent.Port.PORT_SAT] (txBytes n) := hasCtr.mk (has_Port_TX_BYTES n) (has_Port_PORT_SAT n)
theorem has_txFrames (n : Nat) : hasCtr [ent1 Ent.Port.TX_FRAMES, ent1 Ent.Port.PORT_SAT] (txFrames n) := hasCtr.mk (has_Port_TX_FRAMES n) (has_Port_PORT_SAT n)
theorem has_txOverrun (n : Nat) : hasCtr [ent1 Ent.Port.TX_OVERRUN, ent1 Ent.Port.PORT_SAT] (txOverrun n) := hasCtr.mk (has_Port_TX_OVERRUN n) (has_Port_PORT_SAT n)
theorem has_txStamps (n : Nat) : hasCtr [ent1 Ent.Ptime.TX_STAMPS, ent1 Ent.Ptime.COUNTER_SAT] (txStamps n) := hasCtr.mk (has_Ptime_TX_STAMPS n) (has_Ptime_COUNTER_SAT n)
theorem has_updCounter_0 : hasCtr [ent0 Ent.Upd.UPDATES, ent0 Ent.Upd.COUNTER_SAT] (updCounter  0) := hasCtr.mk (has_Upd_UPDATES ) (has_Upd_COUNTER_SAT )
theorem has_updCounter_1 : hasCtr [ent0 Ent.Upd.REJECTS, ent0 Ent.Upd.COUNTER_SAT] (updCounter  1) := hasCtr.mk (has_Upd_REJECTS ) (has_Upd_COUNTER_SAT )
theorem has_updCounter_2 : hasCtr [ent0 Ent.Upd.RESCUE_STARTS, ent0 Ent.Upd.COUNTER_SAT] (updCounter  2) := hasCtr.mk (has_Upd_RESCUE_STARTS ) (has_Upd_COUNTER_SAT )
theorem has_wakeCounter_0 (n : Nat) : hasCtr [ent1 Ent.Wsrc.WAKES, ent1 Ent.Wsrc.COUNTER_SAT] (wakeCounter n 0) := hasCtr.mk (has_Wsrc_WAKES n) (has_Wsrc_COUNTER_SAT n)
theorem has_wakeCounter_1 (n : Nat) : hasCtr [ent1 Ent.Wsrc.FALSE_WAKES, ent1 Ent.Wsrc.COUNTER_SAT] (wakeCounter n 1) := hasCtr.mk (has_Wsrc_FALSE_WAKES n) (has_Wsrc_COUNTER_SAT n)

theorem Only.of_fresh {F : Foot} {a b : Dev} (h : Only F a.fresh b) : Only F a b := by
  refine ⟨fun p hn => ?_, fun k => h.canon ⟨k.mem, k.dict, k.blobs, k.regs⟩⟩
  have h1 := h.keep p hn
  cases p
  all_goals exact h1

theorem Only.mono {F G : Foot} {a b : Dev} (h : Only F a b) (hs : F.Sub G) : Only G a b := h.step hs Only.refl

end Sys2Proof
end

