-- ==== Sys2Proof/Laws/Frames1.lean ====
section
/-! SUPPORT. What each function on the device may change, part 1 of 6: one lemma per function, in an order in which callees come first. -/

set_option maxRecDepth 4000
set_option Elab.async false

namespace Sys2Proof

open Sys2Proof.Machine

def foot0 : Foot := ⟨[.scan], [], []⟩
def foot1 : Foot := ⟨[.scan], [], [word0 Rg.M0Cpg.DEPTH, word1 Rg.Cpg.DEPTH, word1 Rg.M0Cpg.STK_SRC, word1 Rg.Src.PENDING, word2 Rg.Cpg.STK_SRC]⟩
def foot2 : Foot := ⟨[.tenants], [], []⟩
def foot3 : Foot := ⟨[.dma], [], []⟩
def foot4 : Foot := ⟨[.mem], [], []⟩
def foot5 : Foot := ⟨[.mem, .dma, .tenants], [], []⟩
def foot6 : Foot := ⟨[.mem, .dma, .tenants], [], [word1 Rg.Hpg.RING_HEAD]⟩
def foot7 : Foot := ⟨[.mem, .logs, .dma, .tenants], [], [word1 Rg.Hpg.RING_HEAD]⟩
def foot8 : Foot := ⟨[.logs], [], []⟩
def foot9 : Foot := ⟨[.logs], [ent0 Ent.Evlog.LOG_LOST, ent1 Ent.Hall.RING_LOST], []⟩
def foot10 : Foot := ⟨[.mem, .logs, .dma, .tenants], [ent0 Ent.Evlog.LAST_SEQ, ent0 Ent.Evlog.LOG_LOST, ent1 Ent.Hall.RING_LOST], [word1
  Rg.Hpg.RING_HEAD]⟩
def foot11 : Foot := ⟨[.mem, .logs, .dma, .tenants], [ent0 Ent.Evlog.LAST_SEQ, ent0 Ent.Evlog.LOG_LOST, ent0 Ent.Stw.COUNTER_SAT, ent0
  Ent.Stw.STW_ECC_DROPS, ent1 Ent.Hall.COUNTER_SAT, ent1 Ent.Hall.FROZEN_DROPS, ent1 Ent.Hall.RING_LOST, ent1 Ent.Heng.COUNTER_SAT, ent1
  Ent.Heng.NO_QP, ent1 Ent.Port.EGRESS_FILTERED, ent1 Ent.Port.PORT_SAT, ent1 Ent.Pq.CT_ABORTED, ent1 Ent.Pq.NO_DESC, ent1 Ent.Pq.OVERSIZE, ent1
  Ent.Pq.PORT_SAT, ent1 Ent.Pq.Q_SAT, ent2 Ent.Pq.DROP_DISABLED, ent2 Ent.Pq.DROP_DOWN, ent2 Ent.Pq.DROP_FULL, ent2 Ent.Pq.DROP_RESIDENCE, ent2
  Ent.Pq.DROP_STW], [word1 Rg.Hpg.RING_HEAD]⟩
def foot12 : Foot := ⟨[.mem, .logs, .dma, .tenants], [ent0 Ent.Evlog.LAST_SEQ, ent0 Ent.Evlog.LOG_LOST, ent0 Ent.Stw.COUNTER_SAT, ent0
  Ent.Stw.STW_ECC_DROPS, ent1 Ent.Hall.COUNTER_SAT, ent1 Ent.Hall.FROZEN_DROPS, ent1 Ent.Hall.RING_LOST, ent1 Ent.Heng.COUNTER_SAT, ent1
  Ent.Heng.NO_QP, ent1 Ent.Port.EGRESS_FILTERED, ent1 Ent.Port.PORT_SAT, ent1 Ent.Pq.COPIES_DROPPED, ent1 Ent.Pq.CT_ABORTED, ent1 Ent.Pq.NO_DESC, ent1
  Ent.Pq.OVERSIZE, ent1 Ent.Pq.PORT_SAT, ent1 Ent.Pq.Q_SAT, ent2 Ent.Pq.DROP_DISABLED, ent2 Ent.Pq.DROP_DOWN, ent2 Ent.Pq.DROP_FULL, ent2
  Ent.Pq.DROP_RESIDENCE, ent2 Ent.Pq.DROP_STW], [word1 Rg.Hpg.RING_HEAD]⟩
def foot13 : Foot := ⟨[.twin], [], []⟩
def foot14 : Foot := ⟨[.sw], [], []⟩
def foot15 : Foot := ⟨[.mem, .logs, .sw, .dma, .tenants, .twin], [ent0 Ent.Evlog.LAST_SEQ, ent0 Ent.Evlog.LOG_LOST, ent0 Ent.Stw.COUNTER_SAT, ent0
  Ent.Stw.STW_ECC_DROPS, ent1 Ent.Hall.COUNTER_SAT, ent1 Ent.Hall.FROZEN_DROPS, ent1 Ent.Hall.RING_LOST, ent1 Ent.Heng.COUNTER_SAT, ent1
  Ent.Heng.NO_QP, ent1 Ent.Port.EGRESS_FILTERED, ent1 Ent.Port.PORT_SAT, ent1 Ent.Pq.COPIES_DROPPED, ent1 Ent.Pq.CT_ABORTED, ent1 Ent.Pq.NO_DESC, ent1
  Ent.Pq.OVERSIZE, ent1 Ent.Pq.PORT_SAT, ent1 Ent.Pq.Q_SAT, ent2 Ent.Pq.DROP_DISABLED, ent2 Ent.Pq.DROP_DOWN, ent2 Ent.Pq.DROP_FULL, ent2
  Ent.Pq.DROP_RESIDENCE, ent2 Ent.Pq.DROP_STW], [word1 Rg.Hpg.RING_HEAD]⟩
def foot16 : Foot := ⟨[], [], []⟩
def foot17 : Foot := ⟨[.time], [], []⟩
def foot18 : Foot := ⟨[.mem, .logs, .dma, .tenants], [ent0 Ent.Evlog.LAST_SEQ, ent0 Ent.Evlog.LOG_LOST, ent1 Ent.Core.CLAIMS, ent1
  Ent.Core.COMPLETE_ERRORS, ent1 Ent.Core.COUNTER_SAT, ent1 Ent.Core.STACK_FULL, ent1 Ent.Hall.RING_LOST], [word1 Rg.Hpg.RING_HEAD]⟩
def foot19 : Foot := ⟨[.limits], [], []⟩
def foot20 : Foot := ⟨[], [], [word0 Rg.M0Cpg.WFI, word1 Rg.Cpg.WFI]⟩
def foot21 : Foot := ⟨[], [], [word1 Rg.Src.PENDING]⟩
def foot22 : Foot := ⟨[.scan], [ent1 Ent.Task.MAX_DELAY_NS], [word1 Rg.Src.PENDING]⟩
def foot23 : Foot := ⟨[.mem, .logs, .scan, .dma, .tenants, .held], [ent0 Ent.Evlog.LAST_SEQ, ent0 Ent.Evlog.LOG_LOST, ent1 Ent.Core.CLAIMS, ent1
  Ent.Core.COMPLETE_ERRORS, ent1 Ent.Core.COUNTER_SAT, ent1 Ent.Core.STACK_FULL, ent1 Ent.Hall.RING_LOST, ent1 Ent.Task.MAX_DELAY_NS], [word0
  Rg.M0Cpg.DEPTH, word0 Rg.M0Cpg.WFI, word1 Rg.Cpg.DEPTH, word1 Rg.Cpg.WFI, word1 Rg.Hpg.RING_HEAD, word1 Rg.M0Cpg.STK_SRC, word1 Rg.M0Src.PENDING,
  word1 Rg.Src.PENDING, word2 Rg.Cpg.STK_SRC]⟩
def foot24 : Foot := ⟨[.can], [], []⟩
def foot25 : Foot := ⟨[], [], [word1 Rg.Plat.SYS_IRQ]⟩
def foot26 : Foot := ⟨[.mem, .logs, .dma, .tenants], [ent0 Ent.Evlog.LAST_SEQ, ent0 Ent.Evlog.LOG_LOST, ent1 Ent.Hall.RING_LOST], [word1
  Rg.Hpg.RING_HEAD, word1 Rg.Plat.SYS_IRQ]⟩
def foot27 : Foot := ⟨[.mem, .logs, .scan, .dma, .tenants], [ent0 Ent.Evlog.LAST_SEQ, ent0 Ent.Evlog.LOG_LOST, ent1 Ent.Hall.RING_LOST, ent1
  Ent.Stn.COUNTER_SAT, ent1 Ent.Stn.LOSSES, ent1 Ent.Stn.STATE], [word1 Rg.Hpg.RING_HEAD, word1 Rg.Plat.SYS_IRQ]⟩
def foot28 : Foot := ⟨[.free], [], []⟩
def foot29 : Foot := ⟨[.scan], [], [word0 Rg.M0Cpg.WFI, word1 Rg.Cpg.WFI, word1 Rg.Src.PENDING]⟩
def foot30 : Foot := ⟨[.mem, .logs, .dma, .tenants, .twin], [ent0 Ent.Evlog.LAST_SEQ, ent0 Ent.Evlog.LOG_LOST, ent1 Ent.Hall.RING_LOST, ent1
  Ent.Port.PORT_SAT, ent1 Ent.Port.TX_BYTES, ent1 Ent.Port.TX_FRAMES], [word1 Rg.Hpg.RING_HEAD]⟩
def foot31 : Foot := ⟨[.mem, .free, .logs, .scan, .dma, .tenants, .twin], [ent0 Ent.Evlog.LAST_SEQ, ent0 Ent.Evlog.LOG_LOST, ent1 Ent.Hall.RING_LOST,
  ent1 Ent.Port.PORT_SAT, ent1 Ent.Port.TX_BYTES, ent1 Ent.Port.TX_FRAMES, ent1 Ent.Stn.COUNTER_SAT, ent1 Ent.Stn.LOSSES, ent1 Ent.Stn.STATE], [word0
  Rg.M0Cpg.WFI, word1 Rg.Cpg.WFI, word1 Rg.Hpg.RING_HEAD, word1 Rg.Plat.SYS_IRQ, word1 Rg.Src.PENDING]⟩
def foot32 : Foot := ⟨[.mem, .free, .logs, .scan, .dma, .tenants, .twin], [ent0 Ent.Evlog.LAST_SEQ, ent0 Ent.Evlog.LOG_LOST, ent1 Ent.Hall.RING_LOST,
  ent1 Ent.Port.PORT_SAT, ent1 Ent.Port.TX_BYTES, ent1 Ent.Port.TX_FRAMES, ent1 Ent.Stn.COUNTER_SAT, ent1 Ent.Stn.LOSSES, ent1 Ent.Stn.STATE, ent1
  Ent.Task.COUNTER_SAT, ent1 Ent.Task.MERGED], [word0 Rg.M0Cpg.WFI, word1 Rg.Cpg.WFI, word1 Rg.Hpg.RING_HEAD, word1 Rg.Plat.SYS_IRQ, word1
  Rg.Src.PENDING]⟩
def foot33 : Foot := ⟨[], [], [word2 Rg.Obj.ID, word2 Rg.Obj.NEW, word2 Rg.Obj.STAMP, word2 Rg.Obj.TGEN, word3 Rg.Obj.DATA]⟩
def foot34 : Foot := ⟨[], [], [word1 Rg.Ch.IRQ]⟩
def foot35 : Foot := ⟨[], [], [word1 Rg.Ch.IRQ, word2 Rg.Obj.EXPIRED, word2 Rg.Obj.ID, word2 Rg.Obj.NEW, word2 Rg.Obj.STAMP, word2 Rg.Obj.TGEN, word3
  Rg.Obj.DATA]⟩
def foot36 : Foot := ⟨[.can], [], [word1 Rg.Ch.IRQ, word2 Rg.Obj.EXPIRED, word2 Rg.Obj.ID, word2 Rg.Obj.NEW, word2 Rg.Obj.STAMP, word2 Rg.Obj.TGEN,
  word3 Rg.Obj.DATA]⟩
def foot37 : Foot := ⟨[.mem, .free, .logs, .can, .scan, .dma, .tenants, .twin], [ent0 Ent.Evlog.LAST_SEQ, ent0 Ent.Evlog.LOG_LOST, ent1
  Ent.Hall.RING_LOST, ent1 Ent.Port.PORT_SAT, ent1 Ent.Port.TX_BYTES, ent1 Ent.Port.TX_FRAMES, ent1 Ent.Stn.COUNTER_SAT, ent1 Ent.Stn.LOSSES, ent1
  Ent.Stn.STATE, ent1 Ent.Task.COUNTER_SAT, ent1 Ent.Task.MERGED], [word0 Rg.M0Cpg.WFI, word1 Rg.Ch.IRQ, word1 Rg.Cpg.WFI, word1 Rg.Hpg.RING_HEAD,
  word1 Rg.Plat.SYS_IRQ, word1 Rg.Src.PENDING, word2 Rg.Obj.EXPIRED, word2 Rg.Obj.ID, word2 Rg.Obj.NEW, word2 Rg.Obj.STAMP, word2 Rg.Obj.TGEN, word3
  Rg.Obj.DATA]⟩
def foot38 : Foot := ⟨[.mem, .free, .logs, .limits, .time, .can, .scan, .dma, .tenants, .held, .twin], [ent0 Ent.Evlog.LAST_SEQ, ent0
  Ent.Evlog.LOG_LOST, ent1 Ent.Core.CLAIMS, ent1 Ent.Core.COMPLETE_ERRORS, ent1 Ent.Core.COUNTER_SAT, ent1 Ent.Core.STACK_FULL, ent1
  Ent.Hall.RING_LOST, ent1 Ent.Port.PORT_SAT, ent1 Ent.Port.TX_BYTES, ent1 Ent.Port.TX_FRAMES, ent1 Ent.Stn.COUNTER_SAT, ent1 Ent.Stn.LOSSES, ent1
  Ent.Stn.STATE, ent1 Ent.Task.COUNTER_SAT, ent1 Ent.Task.MAX_DELAY_NS, ent1 Ent.Task.MERGED], [word0 Rg.M0Cpg.DEPTH, word0 Rg.M0Cpg.WFI, word1
  Rg.Ch.IRQ, word1 Rg.Cpg.DEPTH, word1 Rg.Cpg.WFI, word1 Rg.Hpg.RING_HEAD, word1 Rg.M0Cpg.STK_SRC, word1 Rg.M0Src.PENDING, word1 Rg.Plat.SYS_IRQ,
  word1 Rg.Src.PENDING, word2 Rg.Cpg.STK_SRC, word2 Rg.Obj.EXPIRED, word2 Rg.Obj.ID, word2 Rg.Obj.NEW, word2 Rg.Obj.STAMP, word2 Rg.Obj.TGEN, word3
  Rg.Obj.DATA]⟩
def foot39 : Foot := ⟨[.regs], [], []⟩
def foot40 : Foot := ⟨[], [], [word1 Rg.Dmar.IRQ]⟩
def foot41 : Foot := ⟨[.mem, .logs, .dma, .tenants], [ent0 Ent.Evlog.LAST_SEQ, ent0 Ent.Evlog.LOG_LOST, ent1 Ent.Hall.COUNTER_SAT, ent1
  Ent.Hall.RING_LOST], [word1 Rg.Hpg.RING_HEAD]⟩
def foot42 : Foot := ⟨[.mem, .logs, .dma, .tenants], [ent0 Ent.Evlog.LAST_SEQ, ent0 Ent.Evlog.LOG_LOST, ent1 Ent.Hall.COUNTER_SAT, ent1
  Ent.Hall.RING_LOST], [word1 Rg.Hpg.RING_EN, word1 Rg.Hpg.RING_HEAD]⟩
def foot43 : Foot := ⟨[.mem, .logs, .dma, .tenants], [ent0 Ent.Evlog.LAST_SEQ, ent0 Ent.Evlog.LOG_LOST, ent1 Ent.Hall.COUNTER_SAT, ent1
  Ent.Hall.RING_LOST], [word1 Rg.Dmar.ACTIVE, word1 Rg.Dmar.IRQ, word1 Rg.Hpg.RING_EN, word1 Rg.Hpg.RING_HEAD]⟩
def foot44 : Foot := ⟨[.mem, .logs, .limits, .dma, .tenants], [ent0 Ent.Evlog.LAST_SEQ, ent0 Ent.Evlog.LOG_LOST, ent1 Ent.Hall.RING_LOST], [word1
  Rg.Hpg.RING_HEAD]⟩
def foot45 : Foot := ⟨[.mem, .logs, .limits, .dma, .tenants], [ent0 Ent.Evlog.LAST_SEQ, ent0 Ent.Evlog.LOG_LOST, ent1 Ent.Dma.BYTES, ent1
  Ent.Dma.COUNTER_SAT, ent1 Ent.Dma.DESCRIPTORS, ent1 Ent.Dma.ERRORS, ent1 Ent.Dma.STALE, ent1 Ent.Hall.RING_LOST], [word1 Rg.Dmar.ACTIVE, word1
  Rg.Dmar.HEAD, word1 Rg.Dmar.IRQ, word1 Rg.Hpg.RING_HEAD]⟩
def foot46 : Foot := ⟨[.mem, .logs, .limits, .dma, .tenants], [ent0 Ent.Evlog.LAST_SEQ, ent0 Ent.Evlog.LOG_LOST, ent1 Ent.Dma.BYTES, ent1
  Ent.Dma.COUNTER_SAT, ent1 Ent.Dma.DESCRIPTORS, ent1 Ent.Dma.ERRORS, ent1 Ent.Dma.STALE, ent1 Ent.Hall.COUNTER_SAT, ent1 Ent.Hall.RING_LOST], [word1
  Rg.Dmar.ACTIVE, word1 Rg.Dmar.HEAD, word1 Rg.Dmar.IRQ, word1 Rg.Hpg.RING_EN, word1 Rg.Hpg.RING_HEAD]⟩
def foot47 : Foot := ⟨[.mem, .logs, .limits, .dma, .tenants], [ent0 Ent.Evlog.LAST_SEQ, ent0 Ent.Evlog.LOG_LOST, ent1 Ent.Hall.RING_LOST], [word1
  Rg.Ch.IRQ, word1 Rg.Hpg.RING_HEAD, word2 Rg.Txb.CODE]⟩
def foot48 : Foot := ⟨[.can], [], [word1 Rg.Ch.IRQ, word2 Rg.Txb.CODE]⟩
def foot49 : Foot := ⟨[.sleep], [], []⟩
def foot50 : Foot := ⟨[.mem, .logs, .can, .dma, .tenants], [ent0 Ent.Evlog.LAST_SEQ, ent0 Ent.Evlog.LOG_LOST, ent1 Ent.CanSt.COUNTER_SAT, ent1
  Ent.CanSt.TX_DISCARDED, ent1 Ent.Hall.RING_LOST], [word1 Rg.Hpg.RING_HEAD]⟩
def foot51 : Foot := ⟨[.mem, .logs, .sw, .dma, .tenants], [ent0 Ent.Evlog.LAST_SEQ, ent0 Ent.Evlog.LOG_LOST, ent0 Ent.Stw.COUNTER_SAT, ent0
  Ent.Stw.STW_ECC_DROPS, ent1 Ent.Hall.COUNTER_SAT, ent1 Ent.Hall.FROZEN_DROPS, ent1 Ent.Hall.RING_LOST, ent1 Ent.Heng.COUNTER_SAT, ent1
  Ent.Heng.NO_QP, ent1 Ent.Port.EGRESS_FILTERED, ent1 Ent.Port.PORT_SAT, ent1 Ent.Pq.CT_ABORTED, ent1 Ent.Pq.NO_DESC, ent1 Ent.Pq.OVERSIZE, ent1
  Ent.Pq.PORT_SAT, ent1 Ent.Pq.Q_SAT, ent2 Ent.Pq.DROP_DISABLED, ent2 Ent.Pq.DROP_DOWN, ent2 Ent.Pq.DROP_FULL, ent2 Ent.Pq.DROP_RESIDENCE, ent2
  Ent.Pq.DROP_STW], [word1 Rg.Hpg.RING_HEAD]⟩
def foot52 : Foot := ⟨[.mem, .logs, .sw, .can, .sleep, .dma, .tenants], [ent0 Ent.Evlog.LAST_SEQ, ent0 Ent.Evlog.LOG_LOST, ent0 Ent.Stw.COUNTER_SAT,
  ent0 Ent.Stw.STW_ECC_DROPS, ent1 Ent.CanSt.COUNTER_SAT, ent1 Ent.CanSt.TX_DISCARDED, ent1 Ent.Hall.COUNTER_SAT, ent1 Ent.Hall.FROZEN_DROPS, ent1
  Ent.Hall.RING_LOST, ent1 Ent.Heng.COUNTER_SAT, ent1 Ent.Heng.NO_QP, ent1 Ent.Port.EGRESS_FILTERED, ent1 Ent.Port.PORT_SAT, ent1 Ent.Pq.CT_ABORTED,
  ent1 Ent.Pq.NO_DESC, ent1 Ent.Pq.OVERSIZE, ent1 Ent.Pq.PORT_SAT, ent1 Ent.Pq.Q_SAT, ent2 Ent.Pq.DROP_DISABLED, ent2 Ent.Pq.DROP_DOWN, ent2
  Ent.Pq.DROP_FULL, ent2 Ent.Pq.DROP_RESIDENCE, ent2 Ent.Pq.DROP_STW], [word1 Rg.Hpg.RING_HEAD]⟩
def foot53 : Foot := ⟨[.mem, .logs, .sleep, .dma, .tenants], [ent0 Ent.Evlog.LAST_SEQ, ent0 Ent.Evlog.LOG_LOST, ent1 Ent.Hall.RING_LOST, ent1
  Ent.Wsrc.QUARANTINED], [word1 Rg.Hpg.RING_HEAD, word1 Rg.Plat.SYS_IRQ]⟩
def foot54 : Foot := ⟨[.mem, .logs, .sleep, .dma, .tenants], [ent0 Ent.Evlog.LAST_SEQ, ent0 Ent.Evlog.LOG_LOST, ent1 Ent.Hall.RING_LOST, ent1
  Ent.Wsrc.FILTER_CUR, ent1 Ent.Wsrc.QUARANTINED], [word1 Rg.Hpg.RING_HEAD, word1 Rg.Plat.SYS_IRQ]⟩
def foot55 : Foot := ⟨[.mem, .logs, .sleep, .dma, .tenants], [ent0 Ent.Evlog.LAST_SEQ, ent0 Ent.Evlog.LOG_LOST, ent1 Ent.Hall.RING_LOST, ent1
  Ent.Wsrc.FILTER_CUR, ent1 Ent.Wsrc.FW_COUNT, ent1 Ent.Wsrc.QUARANTINED], [word0 Rg.Slpr.FW_PENDING, word1 Rg.Hpg.RING_HEAD, word1 Rg.Plat.SYS_IRQ]⟩
def foot56 : Foot := ⟨[.clk], [], []⟩
def foot57 : Foot := ⟨[.time, .clk], [], []⟩
def foot58 : Foot := ⟨[.time, .clk], [ent1 Ent.Dom.SOURCE], []⟩
def foot59 : Foot := ⟨[.sleep], [], [word0 Rg.Slpr.FW_PENDING]⟩
def foot60 : Foot := ⟨[], [], [word1 Rg.Ch.TEC]⟩
def foot61 : Foot := ⟨[.mem, .logs, .dma, .tenants], [ent0 Ent.Clk.SSC_ACTIVE, ent0 Ent.Evlog.LAST_SEQ, ent0 Ent.Evlog.LOG_LOST, ent1
  Ent.Hall.RING_LOST], [word1 Rg.Hpg.RING_HEAD, word1 Rg.Plat.SYS_IRQ]⟩
def foot62 : Foot := ⟨[.mem, .logs, .dma, .tenants, .clk], [ent0 Ent.Clk.SSC_ACTIVE, ent0 Ent.Evlog.LAST_SEQ, ent0 Ent.Evlog.LOG_LOST, ent1
  Ent.Hall.RING_LOST], [word1 Rg.Hpg.RING_HEAD, word1 Rg.Plat.SYS_IRQ]⟩
def foot63 : Foot := ⟨[.mem, .logs, .can, .dma, .tenants, .clk], [ent0 Ent.Clk.SSC_ACTIVE, ent0 Ent.Evlog.LAST_SEQ, ent0 Ent.Evlog.LOG_LOST, ent1
  Ent.Hall.RING_LOST], [word1 Rg.Ch.TEC, word1 Rg.Hpg.RING_HEAD, word1 Rg.Plat.SYS_IRQ]⟩
def foot64 : Foot := ⟨[.br], [], []⟩
def foot65 : Foot := ⟨[.mem, .logs, .dma, .tenants], [ent0 Ent.Evlog.LAST_SEQ, ent0 Ent.Evlog.LOG_LOST, ent1 Ent.Bctx.COUNTER_SAT, ent1
  Ent.Bctx.FAILURES, ent1 Ent.Bctx.POSTED, ent1 Ent.Bctx.READS, ent1 Ent.Bctx.RETRANSMITS, ent1 Ent.Bctx.TIMEOUTS, ent1 Ent.Hall.RING_LOST], [word1
  Rg.Hpg.RING_HEAD]⟩
def foot66 : Foot := ⟨[.free, .br], [], []⟩
def foot67 : Foot := ⟨[.harts], [], []⟩
def foot68 : Foot := ⟨[.dma, .harts], [], []⟩
def foot69 : Foot := ⟨[.free, .br, .dma, .harts], [], []⟩
def foot70 : Foot := ⟨[], [], [word2 Rg.Ctx.IRQ]⟩
def foot71 : Foot := ⟨[], [], [word2 Rg.Ctx.BST_ADDR_HI, word2 Rg.Ctx.BST_ADDR_LO, word2 Rg.Ctx.FAILED, word2 Rg.Ctx.FAR_CODE, word2 Rg.Ctx.IRQ]⟩
def foot72 : Foot := ⟨[], [], [word2 Rg.Ctx.FAR_CODE, word2 fun u k => rmb u k Rg.Mb.CODE, word2 fun u k => rmb u k Rg.Mb.GO, word2 fun u k => rmb u k
  Rg.Mb.MB_LEN, word2 fun u k => rmb u k Rg.Mb.MB_TOTAL, word3 fun u k i => rmb u k fun n => Rg.Mb.MB_DATA n i]⟩
def foot73 : Foot := ⟨[.mem, .logs, .limits, .dma, .tenants], [ent0 Ent.Evlog.LAST_SEQ, ent0 Ent.Evlog.LOG_LOST, ent1 Ent.Hall.COUNTER_SAT, ent1
  Ent.Hall.RING_LOST], [word1 Rg.Hpg.RING_EN, word1 Rg.Hpg.RING_HEAD, word2 Rg.Ep.MERGED]⟩
def foot74 : Foot := ⟨[.mem, .free, .logs, .limits, .br, .dma, .tenants, .harts, .twin], [ent0 Ent.Evlog.LAST_SEQ, ent0 Ent.Evlog.LOG_LOST, ent1
  Ent.Bctx.COUNTER_SAT, ent1 Ent.Bctx.FAILURES, ent1 Ent.Bctx.POSTED, ent1 Ent.Bctx.READS, ent1 Ent.Bctx.RETRANSMITS, ent1 Ent.Bctx.TIMEOUTS, ent1
  Ent.Hall.COUNTER_SAT, ent1 Ent.Hall.RING_LOST], [word1 Rg.Hpg.RING_EN, word1 Rg.Hpg.RING_HEAD, word2 Rg.Ctx.BST_ADDR_HI, word2 Rg.Ctx.BST_ADDR_LO,
  word2 Rg.Ctx.FAILED, word2 Rg.Ctx.FAR_CODE, word2 Rg.Ctx.IRQ, word2 Rg.Ep.MERGED, word2 fun u k => rmb u k Rg.Mb.CODE, word2 fun u k => rmb u k
  Rg.Mb.GO, word2 fun u k => rmb u k Rg.Mb.MB_LEN, word2 fun u k => rmb u k Rg.Mb.MB_TOTAL, word3 fun u k i => rmb u k fun n => Rg.Mb.MB_DATA n i]⟩
def foot75 : Foot := ⟨[], [ent1 Ent.Bctx.SESSION], [word2 Rg.Ctx.SESSION]⟩
def foot76 : Foot := ⟨[.mem, .free, .logs, .limits, .br, .dma, .tenants, .harts, .twin], [ent0 Ent.Evlog.LAST_SEQ, ent0 Ent.Evlog.LOG_LOST, ent1
  Ent.Bctx.COUNTER_SAT, ent1 Ent.Bctx.FAILURES, ent1 Ent.Bctx.POSTED, ent1 Ent.Bctx.READS, ent1 Ent.Bctx.RETRANSMITS, ent1 Ent.Bctx.SESSION, ent1
  Ent.Bctx.TIMEOUTS, ent1 Ent.Hall.COUNTER_SAT, ent1 Ent.Hall.RING_LOST], [word1 Rg.Hpg.RING_EN, word1 Rg.Hpg.RING_HEAD, word2 Rg.Ctx.BST_ADDR_HI,
  word2 Rg.Ctx.BST_ADDR_LO, word2 Rg.Ctx.FAILED, word2 Rg.Ctx.FAR_CODE, word2 Rg.Ctx.IRQ, word2 Rg.Ctx.SESSION, word2 Rg.Ep.MERGED, word2 fun u k =>
  rmb u k Rg.Mb.CODE, word2 fun u k => rmb u k Rg.Mb.GO, word2 fun u k => rmb u k Rg.Mb.MB_LEN, word2 fun u k => rmb u k Rg.Mb.MB_TOTAL, word3 fun u k
  i => rmb u k fun n => Rg.Mb.MB_DATA n i]⟩
def foot77 : Foot := ⟨[.dma], [], [word1 Rg.Dmar.ACTIVE]⟩
def foot78 : Foot := ⟨[.mem, .free, .logs, .limits, .can, .sleep, .br, .dma, .tenants, .clk, .harts, .twin], [ent0 Ent.Clk.SSC_ACTIVE, ent0
  Ent.Evlog.LAST_SEQ, ent0 Ent.Evlog.LOG_LOST, ent1 Ent.Bctx.COUNTER_SAT, ent1 Ent.Bctx.FAILURES, ent1 Ent.Bctx.POSTED, ent1 Ent.Bctx.READS, ent1
  Ent.Bctx.RETRANSMITS, ent1 Ent.Bctx.SESSION, ent1 Ent.Bctx.TIMEOUTS, ent1 Ent.Hall.COUNTER_SAT, ent1 Ent.Hall.RING_LOST], [word0 Rg.Slpr.FW_PENDING,
  word1 Rg.Ch.TEC, word1 Rg.Dmar.ACTIVE, word1 Rg.Hpg.RING_EN, word1 Rg.Hpg.RING_HEAD, word1 Rg.Plat.SYS_IRQ, word2 Rg.Ctx.BST_ADDR_HI, word2
  Rg.Ctx.BST_ADDR_LO, word2 Rg.Ctx.FAILED, word2 Rg.Ctx.FAR_CODE, word2 Rg.Ctx.IRQ, word2 Rg.Ctx.SESSION, word2 Rg.Ep.MERGED, word2 fun u k => rmb u k
  Rg.Mb.CODE, word2 fun u k => rmb u k Rg.Mb.GO, word2 fun u k => rmb u k Rg.Mb.MB_LEN, word2 fun u k => rmb u k Rg.Mb.MB_TOTAL, word3 fun u k i =>
  rmb u k fun n => Rg.Mb.MB_DATA n i]⟩
def foot79 : Foot := ⟨[.mem, .free, .logs, .limits, .drains, .time, .sw, .can, .sleep, .br, .dma, .tenants, .clk, .harts, .twin], [ent0
  Ent.Clk.SSC_ACTIVE, ent0 Ent.Evlog.LAST_SEQ, ent0 Ent.Evlog.LOG_LOST, ent0 Ent.Slp.ABORTS, ent0 Ent.Slp.COUNTER_SAT, ent0 Ent.Slp.ENTRY, ent0
  Ent.Slp.POWER_REQ, ent0 Ent.Stw.COUNTER_SAT, ent0 Ent.Stw.STW_ECC_DROPS, ent1 Ent.Adc.STATE, ent1 Ent.Bctx.COUNTER_SAT, ent1 Ent.Bctx.FAILURES, ent1
  Ent.Bctx.POSTED, ent1 Ent.Bctx.READS, ent1 Ent.Bctx.RETRANSMITS, ent1 Ent.Bctx.SESSION, ent1 Ent.Bctx.STATE, ent1 Ent.Bctx.TIMEOUTS, ent1
  Ent.CanSt.COUNTER_SAT, ent1 Ent.CanSt.STATE, ent1 Ent.CanSt.TX_DISCARDED, ent1 Ent.Dma.STATE, ent1 Ent.Dom.SOURCE, ent1 Ent.Hall.COUNTER_SAT, ent1
  Ent.Hall.FROZEN_DROPS, ent1 Ent.Hall.RING_LOST, ent1 Ent.Heng.COUNTER_SAT, ent1 Ent.Heng.NO_QP, ent1 Ent.Heng.STATE, ent1 Ent.Port.EGRESS_FILTERED,
  ent1 Ent.Port.PORT_SAT, ent1 Ent.Port.STATE, ent1 Ent.Pq.CT_ABORTED, ent1 Ent.Pq.NO_DESC, ent1 Ent.Pq.OVERSIZE, ent1 Ent.Pq.PORT_SAT, ent1
  Ent.Pq.Q_SAT, ent1 Ent.Qp.STATE, ent1 Ent.Wsrc.COUNTER_SAT, ent1 Ent.Wsrc.WAKES, ent2 Ent.Pq.DROP_DISABLED, ent2 Ent.Pq.DROP_DOWN, ent2
  Ent.Pq.DROP_FULL, ent2 Ent.Pq.DROP_RESIDENCE, ent2 Ent.Pq.DROP_STW, ent2 Ent.Pq.Q_STATE], [word0 Rg.Slpr.FW_PENDING, word1 Rg.Ch.TEC, word1
  Rg.Dmar.ACTIVE, word1 Rg.Hpg.RING_EN, word1 Rg.Hpg.RING_HEAD, word1 Rg.Plat.SYS_IRQ, word2 Rg.Ctx.BST_ADDR_HI, word2 Rg.Ctx.BST_ADDR_LO, word2
  Rg.Ctx.FAILED, word2 Rg.Ctx.FAR_CODE, word2 Rg.Ctx.IRQ, word2 Rg.Ctx.SESSION, word2 Rg.Ep.MERGED, word2 fun u k => rmb u k Rg.Mb.CODE, word2 fun u k
  => rmb u k Rg.Mb.GO, word2 fun u k => rmb u k Rg.Mb.MB_LEN, word2 fun u k => rmb u k Rg.Mb.MB_TOTAL, word3 fun u k i => rmb u k fun n =>
  Rg.Mb.MB_DATA n i]⟩
def foot80 : Foot := ⟨[], [ent0 Ent.Slp.ENTRY], []⟩
def foot81 : Foot := ⟨[.regs, .mem, .free, .logs, .limits, .drains, .time, .sw, .can, .sleep, .br, .dma, .tenants, .clk, .harts, .twin], [ent0
  Ent.Clk.SSC_ACTIVE, ent0 Ent.Evlog.LAST_SEQ, ent0 Ent.Evlog.LOG_LOST, ent0 Ent.Slp.ABORTS, ent0 Ent.Slp.COUNTER_SAT, ent0 Ent.Slp.ENTRY, ent0
  Ent.Slp.POWER_REQ, ent0 Ent.Stw.COUNTER_SAT, ent0 Ent.Stw.STW_ECC_DROPS, ent1 Ent.Adc.STATE, ent1 Ent.Bctx.COUNTER_SAT, ent1 Ent.Bctx.FAILURES, ent1
  Ent.Bctx.POSTED, ent1 Ent.Bctx.READS, ent1 Ent.Bctx.RETRANSMITS, ent1 Ent.Bctx.SESSION, ent1 Ent.Bctx.STATE, ent1 Ent.Bctx.TIMEOUTS, ent1
  Ent.CanSt.COUNTER_SAT, ent1 Ent.CanSt.STATE, ent1 Ent.CanSt.TX_DISCARDED, ent1 Ent.Dma.STATE, ent1 Ent.Dom.SOURCE, ent1 Ent.Hall.COUNTER_SAT, ent1
  Ent.Hall.FROZEN_DROPS, ent1 Ent.Hall.RING_LOST, ent1 Ent.Heng.COUNTER_SAT, ent1 Ent.Heng.NO_QP, ent1 Ent.Heng.STATE, ent1 Ent.Port.EGRESS_FILTERED,
  ent1 Ent.Port.PORT_SAT, ent1 Ent.Port.STATE, ent1 Ent.Pq.CT_ABORTED, ent1 Ent.Pq.NO_DESC, ent1 Ent.Pq.OVERSIZE, ent1 Ent.Pq.PORT_SAT, ent1
  Ent.Pq.Q_SAT, ent1 Ent.Qp.STATE, ent1 Ent.Wsrc.COUNTER_SAT, ent1 Ent.Wsrc.WAKES, ent2 Ent.Pq.DROP_DISABLED, ent2 Ent.Pq.DROP_DOWN, ent2
  Ent.Pq.DROP_FULL, ent2 Ent.Pq.DROP_RESIDENCE, ent2 Ent.Pq.DROP_STW, ent2 Ent.Pq.Q_STATE], []⟩
def foot82 : Foot := ⟨[], [], [word2 Rg.Ctx.VALID]⟩
def foot83 : Foot := ⟨[.mem, .logs, .limits, .dma, .tenants], [ent0 Ent.Evlog.LAST_SEQ, ent0 Ent.Evlog.LOG_LOST, ent1 Ent.Hall.RING_LOST], [word1
  Rg.Hpg.RING_HEAD, word2 Rg.Ctx.DONE]⟩
def foot84 : Foot := ⟨[.mem, .logs, .limits, .br, .dma, .tenants], [ent0 Ent.Evlog.LAST_SEQ, ent0 Ent.Evlog.LOG_LOST, ent1 Ent.Hall.RING_LOST], [word1
  Rg.Hpg.RING_HEAD, word2 Rg.Ctx.DONE, word2 Rg.Ctx.FENCE]⟩
def foot85 : Foot := ⟨[.regs, .mem, .logs, .limits, .br, .dma, .tenants], [ent0 Ent.Evlog.LAST_SEQ, ent0 Ent.Evlog.LOG_LOST, ent1 Ent.Hall.RING_LOST],
  []⟩
def foot86 : Foot := ⟨[], [], [word2 Rg.Ctx.PW_SEQ]⟩
def foot87 : Foot := ⟨[], [], [word2 Rg.Ctx.PW_DONE]⟩
def foot88 : Foot := ⟨[.mem, .free, .logs, .limits, .br, .dma, .tenants, .harts, .twin], [ent0 Ent.Evlog.LAST_SEQ, ent0 Ent.Evlog.LOG_LOST, ent1
  Ent.Bctx.COUNTER_SAT, ent1 Ent.Bctx.FAILURES, ent1 Ent.Bctx.POSTED, ent1 Ent.Bctx.READS, ent1 Ent.Bctx.RETRANSMITS, ent1 Ent.Bctx.SESSION, ent1
  Ent.Bctx.TIMEOUTS, ent1 Ent.Hall.COUNTER_SAT, ent1 Ent.Hall.RING_LOST], [word1 Rg.Hpg.RING_EN, word1 Rg.Hpg.RING_HEAD, word2 Rg.Ctx.BST_ADDR_HI,
  word2 Rg.Ctx.BST_ADDR_LO, word2 Rg.Ctx.FAILED, word2 Rg.Ctx.FAR_CODE, word2 Rg.Ctx.IRQ, word2 Rg.Ctx.PW_DONE, word2 Rg.Ctx.SESSION, word2
  Rg.Ep.MERGED, word2 fun u k => rmb u k Rg.Mb.CODE, word2 fun u k => rmb u k Rg.Mb.GO, word2 fun u k => rmb u k Rg.Mb.MB_LEN, word2 fun u k => rmb u
  k Rg.Mb.MB_TOTAL, word3 fun u k i => rmb u k fun n => Rg.Mb.MB_DATA n i]⟩
def foot89 : Foot := ⟨[.mem, .free, .logs, .limits, .br, .dma, .tenants, .harts, .twin], [ent0 Ent.Evlog.LAST_SEQ, ent0 Ent.Evlog.LOG_LOST, ent1
  Ent.Bctx.COUNTER_SAT, ent1 Ent.Bctx.FAILURES, ent1 Ent.Bctx.POSTED, ent1 Ent.Bctx.READS, ent1 Ent.Bctx.RETRANSMITS, ent1 Ent.Bctx.SESSION, ent1
  Ent.Bctx.TIMEOUTS, ent1 Ent.Hall.COUNTER_SAT, ent1 Ent.Hall.RING_LOST], [word1 Rg.Hpg.RING_EN, word1 Rg.Hpg.RING_HEAD, word2 Rg.Ctx.BST_ADDR_HI,
  word2 Rg.Ctx.BST_ADDR_LO, word2 Rg.Ctx.FAILED, word2 Rg.Ctx.FAR_CODE, word2 Rg.Ctx.IRQ, word2 Rg.Ctx.PW_DONE, word2 Rg.Ctx.PW_SEQ, word2
  Rg.Ctx.SESSION, word2 Rg.Ep.MERGED, word2 fun u k => rmb u k Rg.Mb.CODE, word2 fun u k => rmb u k Rg.Mb.GO, word2 fun u k => rmb u k Rg.Mb.MB_LEN,
  word2 fun u k => rmb u k Rg.Mb.MB_TOTAL, word3 fun u k i => rmb u k fun n => Rg.Mb.MB_DATA n i]⟩
def foot90 : Foot := ⟨[.mem, .logs, .scan, .dma, .tenants, .twin], [ent0 Ent.Evlog.LAST_SEQ, ent0 Ent.Evlog.LOG_LOST, ent1 Ent.Hall.RING_LOST, ent1
  Ent.Stn.COUNTER_SAT, ent1 Ent.Stn.LOSSES, ent1 Ent.Stn.STATE], [word0 Rg.M0Cpg.WFI, word1 Rg.Cpg.WFI, word1 Rg.Hpg.RING_HEAD, word1 Rg.Plat.SYS_IRQ,
  word1 Rg.Src.PENDING]⟩
def foot91 : Foot := ⟨[.mem, .logs, .dma, .tenants], [ent0 Ent.Evlog.LAST_SEQ, ent0 Ent.Evlog.LOG_LOST, ent1 Ent.Hall.COUNTER_SAT, ent1
  Ent.Hall.RING_LOST], [word1 Rg.Hpg.RING_EN, word1 Rg.Hpg.RING_HEAD, word1 Rg.Plat.SYS_IRQ]⟩
def foot92 : Foot := ⟨[.mem, .logs, .dma, .tenants], [ent0 Ent.Evlog.LAST_SEQ, ent0 Ent.Evlog.LOG_LOST, ent0 Ent.Tws.ROLE, ent1 Ent.Hall.COUNTER_SAT,
  ent1 Ent.Hall.RING_LOST], [word1 Rg.Hpg.RING_EN, word1 Rg.Hpg.RING_HEAD, word1 Rg.Plat.SYS_IRQ]⟩
def foot93 : Foot := ⟨[.mem, .free, .logs, .dma, .tenants, .twin], [ent0 Ent.Evlog.LAST_SEQ, ent0 Ent.Evlog.LOG_LOST, ent0 Ent.Tws.ROLE, ent1
  Ent.Hall.COUNTER_SAT, ent1 Ent.Hall.RING_LOST, ent1 Ent.Port.PORT_SAT, ent1 Ent.Port.TX_BYTES, ent1 Ent.Port.TX_FRAMES], [word1 Rg.Hpg.RING_EN,
  word1 Rg.Hpg.RING_HEAD, word1 Rg.Plat.SYS_IRQ]⟩
def foot94 : Foot := ⟨[.mem, .free, .logs, .limits, .dma, .tenants, .twin], [ent0 Ent.Evlog.LAST_SEQ, ent0 Ent.Evlog.LOG_LOST, ent0
  Ent.Tws.COUNTER_SAT, ent0 Ent.Tws.OUT_MISMATCHES, ent0 Ent.Tws.ROLE, ent1 Ent.Hall.COUNTER_SAT, ent1 Ent.Hall.RING_LOST, ent1 Ent.Port.PORT_SAT,
  ent1 Ent.Port.TX_BYTES, ent1 Ent.Port.TX_FRAMES], [word1 Rg.Hpg.RING_EN, word1 Rg.Hpg.RING_HEAD, word1 Rg.Plat.SYS_IRQ]⟩
def foot95 : Foot := ⟨[.mem, .dma, .tenants, .twin], [], []⟩
def foot96 : Foot := ⟨[.mem, .logs, .scan, .dma, .tenants], [ent0 Ent.Evlog.LAST_SEQ, ent0 Ent.Evlog.LOG_LOST, ent1 Ent.Hall.RING_LOST, ent1
  Ent.Stn.COUNTER_SAT, ent1 Ent.Stn.TX_FRAMES], [word1 Rg.Hpg.RING_HEAD]⟩
def foot97 : Foot := ⟨[.mem, .logs, .scan, .dma, .tenants], [ent0 Ent.Evlog.LAST_SEQ, ent0 Ent.Evlog.LOG_LOST, ent1 Ent.Hall.RING_LOST, ent1
  Ent.Stn.COUNTER_SAT, ent1 Ent.Stn.TX_FRAMES, ent1 Ent.Stn.TX_HELD], [word1 Rg.Hpg.RING_HEAD]⟩

theorem Dev.setScan_only (d : Dev) (f : ScanSt → ScanSt) : Only foot0 d (Dev.setScan d f) := by
  have h_scan : Part.In .scan foot0 := ⟨by decide +kernel⟩
  unfold Dev.setScan
  repeat' first
    | with_reducible exact Only.refl
    | simp only [Only.set_scan_eq h_scan]

theorem Dev.abandonTasks_only (d : Dev) : Only foot1 d (Dev.abandonTasks d) := by
  unfold Dev.abandonTasks
  repeat' first
    | with_reducible exact Only.refl
    | with_reducible apply Foot.Sub.mk; decide +kernel
    | with_reducible apply Only.ite
    | with_reducible apply Only.foldl
    | with_reducible apply Only.setFld (has_pgDepth ..)
    | with_reducible apply Only.setFld (has_pgPrio ..)
    | with_reducible apply Only.setFld (has_pgSaved ..)
    | with_reducible apply Only.setFld (has_pgSrc ..)
    | with_reducible apply Only.setFld (has_Src_ACTIVE ..)
    | with_reducible apply Only.setFld (has_Src_PENDING ..)
    | with_reducible apply Only.step (Dev.setScan_only ..)
    | with_reducible intro _

theorem Dev.touch_only (d : Dev) (a : Nat) (n : Nat) : Only foot2 d (Dev.touch d a n) := by
  have h_tenants : Part.In .tenants foot2 := ⟨by decide +kernel⟩
  unfold Dev.touch
  repeat' first
    | with_reducible exact Only.refl
    | simp only [Only.set_tenants_eq h_tenants]
    | split

theorem Dev.cure_only (d : Dev) (a : Nat) (n : Nat) : Only foot3 d (Dev.cure d a n) := by
  have h_dma : Part.In .dma foot3 := ⟨by decide +kernel⟩
  unfold Dev.cure
  repeat' first
    | with_reducible exact Only.refl
    | simp only [Only.set_dma_eq h_dma]
    | split

theorem Dev.setByte_only (d : Dev) (a : Nat) (b : BitVec 8) : Only foot4 d (Dev.setByte d a b) :=
  Only.set_mem KV.put_wf Only.refl ⟨by decide +kernel⟩

theorem Dev.putBytes_only (d : Dev) (x0 : Nat) (x02 : Bytes) : Only foot4 d (Dev.putBytes d x0 x02) := by
  fun_induction Dev.putBytes d x0 x02
  all_goals repeat' first
    | with_reducible exact Only.refl
    | with_reducible apply Foot.Sub.mk; decide +kernel
    | with_reducible refine Only.trans (by assumption) ?_
    | with_reducible apply Only.step (Dev.setByte_only ..)

theorem Dev.writeMem_only (d : Dev) (a : Nat) (b : Bytes) : Only foot5 d (Dev.writeMem d a b) := by
  unfold Dev.writeMem
  repeat' first
    | with_reducible exact Only.refl
    | with_reducible apply Foot.Sub.mk; decide +kernel
    | with_reducible apply Only.step (Dev.cure_only ..)
    | with_reducible apply Only.step (Dev.putBytes_only ..)
    | with_reducible apply Only.step (Dev.touch_only ..)

theorem Dev.storeMem_only (d : Dev) (a : Nat) (b : Bytes) : Only foot5 d (Dev.storeMem d a b) := by
  unfold Dev.storeMem
  repeat' first
    | with_reducible exact Only.refl
    | with_reducible apply Foot.Sub.mk; decide +kernel
    | with_reducible apply Only.ite
    | with_reducible apply Only.foldl
    | with_reducible apply Only.step (Dev.writeMem_only ..)
    | with_reducible intro _

theorem Dev.hallWrite_only (d : Dev) (h : Nat) (a : Nat) (b : Bytes) : Only foot5 d (Dev.hallWrite d h a b).2 := by
  unfold Dev.hallWrite
  repeat' first
    | with_reducible exact Only.refl
    | with_reducible apply Foot.Sub.mk; decide +kernel
    | with_reducible apply Only.step (Dev.storeMem_only ..)
    | split

theorem Dev.ringPut_only (d : Dev) (h : Nat) (x0 : List LogRec) : Only foot6 d (Dev.ringPut d h x0).2 := by
  fun_induction Dev.ringPut d h x0
  all_goals repeat' first
    | with_reducible exact Only.refl
    | with_reducible apply Foot.Sub.mk; decide +kernel
    | with_reducible refine Only.trans (by assumption) ?_
    | with_reducible apply Only.setFld (has_Hpg_RING_HEAD ..)
    | with_reducible apply Only.step (Dev.hallWrite_only ..)
    | with_reducible refine Only.snd (by assumption) ?_

theorem Dev.sinkPut_only (d : Dev) (k : SinkId) (l : List LogRec) : Only foot7 d (Dev.sinkPut d k l).2 := by
  have h_logs : Part.In .logs foot7 := ⟨by decide +kernel⟩
  unfold Dev.sinkPut
  repeat' first
    | with_reducible exact Only.refl
    | with_reducible apply Foot.Sub.mk; decide +kernel
    | with_reducible apply Only.step (Dev.ringPut_only ..)
    | simp only [Only.set_logs_eq h_logs]
    | split

theorem Dev.setSinkMeta_only (d : Dev) (k : SinkId) (m : SinkMeta) : Only foot8 d (Dev.setSinkMeta d k m) := by
  have h_logs : Part.In .logs foot8 := ⟨by decide +kernel⟩
  unfold Dev.setSinkMeta
  repeat' first
    | with_reducible exact Only.refl
    | simp only [Only.set_logs_eq h_logs]
    | split

theorem Dev.loseRecs_only (d : Dev) (k : SinkId) (n : Nat) : Only foot9 d (Dev.loseRecs d k n) := by
  unfold Dev.loseRecs
  repeat' first
    | with_reducible exact Only.refl
    | with_reducible apply Foot.Sub.mk; decide +kernel
    | with_reducible apply Only.put (has_Evlog_LOG_LOST ..)
    | with_reducible apply Only.put (has_Hall_RING_LOST ..)
    | with_reducible apply Only.step (Dev.setSinkMeta_only ..)
    | dsimp only
    | split

theorem Dev.writeGroup_only (d : Dev) (k : SinkId) (e : Ev) : Only foot10 d (Dev.writeGroup d k e).2 := by
  have h_logs : Part.In .logs foot10 := ⟨by decide +kernel⟩
  unfold Dev.writeGroup
  repeat' first
    | with_reducible exact Only.refl
    | with_reducible apply Foot.Sub.mk; decide +kernel
    | with_reducible apply Only.ite2
    | with_reducible apply Only.put (has_Evlog_LAST_SEQ ..)
    | with_reducible apply Only.step (Dev.loseRecs_only ..)
    | with_reducible apply Only.step (Dev.setSinkMeta_only ..)
    | with_reducible apply Only.step (Dev.sinkPut_only ..)
    | with_reducible refine Only.snd (by assumption) ?_
    | simp only [Only.set_logs_eq h_logs]
    | split

theorem Dev.holdEarly_only (d : Dev) (k : SinkId) (e : Ev) : Only foot8 d (Dev.holdEarly d k e) := by
  have h_logs : Part.In .logs foot8 := ⟨by decide +kernel⟩
  unfold Dev.holdEarly
  repeat' first
    | with_reducible exact Only.refl
    | simp only [Only.set_logs_eq h_logs]

theorem Dev.logDevice_only (d : Dev) (e : Ev) : Only foot10 d (Dev.logDevice d e) := by
  unfold Dev.logDevice
  repeat' first
    | with_reducible exact Only.refl
    | with_reducible apply Foot.Sub.mk; decide +kernel
    | with_reducible apply Only.ite
    | with_reducible apply Only.step (Dev.holdEarly_only ..)
    | with_reducible apply Only.step (Dev.writeGroup_only ..)

theorem Dev.event_only (d : Dev) (source : Nat) (code : Nat) (data : Nat) (ext : Option Bytes) : Only foot10 d (Dev.event d source code data ext) := by
  unfold Dev.event
  repeat' first
    | with_reducible exact Only.refl
    | with_reducible apply Foot.Sub.mk; decide +kernel
    | with_reducible apply Only.step (Dev.logDevice_only ..)

theorem Only.count2 {F : Foot} {a b : Dev} {fs gs : List Fam} {c : Counter} {n : Nat} (hk : hasKey fs c.entry.key) (hl : hasKey gs c.satEntry.key) (hf : Foot.Sub ⟨[], fs, []⟩ F) (hg : Foot.Sub ⟨[], gs, []⟩ F) (hs : Foot.Sub foot10 F) (h : Only F a b) : Only F a (b.count c n) := by
  simp only [Dev.count]
  repeat' first
    | with_reducible exact ‹Only _ _ _›
    | with_reducible apply Foot.Sub.mk; decide +kernel
    | with_reducible refine Foot.Sub.trans (G := foot10) ?_ hs
    | with_reducible apply Only.ite
    | with_reducible apply Only.put hk hf
    | with_reducible apply Only.putBit hl hg
    | with_reducible apply Only.step (Dev.event_only ..)

theorem Only.count {F : Foot} {a b : Dev} {fs : List Fam} {c : Counter} {n : Nat} (hk : hasCtr fs c) (hf : Foot.Sub ⟨[], fs, []⟩ F) (hs : Foot.Sub foot10 F) (h : Only F a b) : Only F a (b.count c n) :=
  Only.count2 hk.1 hk.2 hf hf hs h

theorem Only.countCtr {F : Foot} {a b : Dev} {fs gs : List Fam} {e s : Entry} {i x n : Nat} (hk : hasKey fs e.key) (hl : hasKey gs s.key) (hf : Foot.Sub ⟨[], fs, []⟩ F) (hg : Foot.Sub ⟨[], gs, []⟩ F) (hs : Foot.Sub foot10 F) (h : Only F a b) : Only F a (b.count (ctr e s i x) n) :=
  Only.count2 hk hl hf hg hs h

theorem Only.countMk {F : Foot} {a b : Dev} {fs gs : List Fam} {e s : Entry} {i x n : Nat} (hk : hasKey fs e.key) (hl : hasKey gs s.key) (hf : Foot.Sub ⟨[], fs, []⟩ F) (hg : Foot.Sub ⟨[], gs, []⟩ F) (hs : Foot.Sub foot10 F) (h : Only F a b) : Only F a (b.count ⟨e, s, i, x⟩ n) :=
  Only.count2 hk hl hf hg hs h

theorem Dev.countDrop_only (d : Dev) (p : Nat) (c : Nat) (i : Nat) (x0 : Drop) : Only foot11 d (Dev.countDrop d p c i x0) := by
  unfold Dev.countDrop
  repeat' first
    | with_reducible exact Only.refl
    | with_reducible apply Foot.Sub.mk; decide +kernel
    | with_reducible apply Only.count (has_ctAborted ..)
    | with_reducible apply Only.count (has_egressFiltered ..)
    | with_reducible apply Only.count (has_noDesc ..)
    | with_reducible apply Only.count (has_noQp ..)
    | with_reducible apply Only.count (has_oversize ..)
    | with_reducible apply Only.count (has_queueCounter_10 ..)
    | with_reducible apply Only.count (has_queueCounter_11 ..)
    | with_reducible apply Only.count (has_queueCounter_12 ..)
    | with_reducible apply Only.count (has_queueCounter_8 ..)
    | with_reducible apply Only.count (has_queueCounter_9 ..)
    | with_reducible apply Only.countMk (has_Hall_FROZEN_DROPS ..) (has_Hall_COUNTER_SAT ..)
    | with_reducible apply Only.countCtr (has_Stw_STW_ECC_DROPS ..) (has_Stw_COUNTER_SAT ..)
    | split

theorem Dev.dropped_only (d : Dev) (p : Nat) (c : Nat) (i : Nat) (multi : Bool) (w : Drop) : Only foot12 d (Dev.dropped d p c i multi w) := by
  unfold Dev.dropped
  repeat' first
    | with_reducible exact Only.refl
    | with_reducible apply Foot.Sub.mk; decide +kernel
    | with_reducible apply Only.ite
    | with_reducible apply Only.count (has_copiesDropped ..)
    | with_reducible apply Only.step (Dev.countDrop_only ..)

theorem Dev.setTwin_only (d : Dev) (f : TwinSt → TwinSt) : Only foot13 d (Dev.setTwin d f) := by
  have h_twin : Part.In .twin foot13 := ⟨by decide +kernel⟩
  unfold Dev.setTwin
  repeat' first
    | with_reducible exact Only.refl
    | simp only [Only.set_twin_eq h_twin]

theorem Dev.setLane_only (d : Dev) (n : Nat) (f : Lane → Lane) : Only foot13 d (Dev.setLane d n f) := by
  unfold Dev.setLane
  repeat' first
    | with_reducible exact Only.refl
    | with_reducible apply Foot.Sub.mk; decide +kernel
    | with_reducible apply Only.step (Dev.setTwin_only ..)

theorem Dev.laneData_only (d : Dev) (n : Nat) (b : Bytes) : Only foot13 d (Dev.laneData d n b) := by
  unfold Dev.laneData
  repeat' first
    | with_reducible exact Only.refl
    | with_reducible apply Foot.Sub.mk; decide +kernel
    | with_reducible apply Only.emit
    | with_reducible apply Only.step (Dev.setLane_only ..)
    | dsimp only
    | split

theorem Dev.putFrame_only (d : Dev) (p : Nat) (f : Frame) (bad : Bool) : Only foot13 d (Dev.putFrame d p f bad) := by
  unfold Dev.putFrame
  repeat' first
    | with_reducible exact Only.refl
    | with_reducible apply Foot.Sub.mk; decide +kernel
    | with_reducible apply Only.ite
    | with_reducible apply Only.emit
    | with_reducible apply Only.step (Dev.laneData_only ..)

theorem Dev.setSw_only (d : Dev) (f : Switch → Switch) : Only foot14 d (Dev.setSw d f) := by
  have h_sw : Part.In .sw foot14 := ⟨by decide +kernel⟩
  unfold Dev.setSw
  repeat' first
    | with_reducible exact Only.refl
    | simp only [Only.set_sw_eq h_sw]

theorem Dev.endTx_only (d : Dev) (p : Nat) (c : Nat) (x : Copy) : Only foot14 d (Dev.endTx d p c x) := by
  unfold Dev.endTx
  repeat' first
    | with_reducible exact Only.refl
    | with_reducible apply Foot.Sub.mk; decide +kernel
    | with_reducible apply Only.step (Dev.setSw_only ..)

theorem Dev.abortTx_only (d : Dev) (p : Nat) (w : Drop) : Only foot15 d (Dev.abortTx d p w) := by
  unfold Dev.abortTx
  repeat' first
    | with_reducible exact Only.refl
    | with_reducible apply Foot.Sub.mk; decide +kernel
    | with_reducible apply Only.step (Dev.dropped_only ..)
    | with_reducible apply Only.step (Dev.endTx_only ..)
    | with_reducible apply Only.step (Dev.putFrame_only ..)
    | split

theorem Only.taken {F : Foot} {a b : Dev} {f : Dev → Dev} (hf : ∀ d, Only F d (f d)) (h : Only F a b) : Only F a (b.taken f).2 :=
  ((hf _).trans h.set_out).set_out

theorem Dev.setTime_only (d : Dev) (f : TimeBase → TimeBase) : Only foot17 d (Dev.setTime d f) := by
  have h_time : Part.In .time foot17 := ⟨by decide +kernel⟩
  unfold Dev.setTime
  repeat' first
    | with_reducible exact Only.refl
    | simp only [Only.set_time_eq h_time]

theorem snapCaptureOp_only (i : Initiator) (d : Dev) : Only Foot.snapCapture d (snapCaptureOp i d) := by
  unfold snapCaptureOp
  repeat' first
    | with_reducible exact Only.refl
    | with_reducible apply Foot.Sub.mk; decide +kernel
    | with_reducible apply Only.answer
    | with_reducible apply Only.step (Dev.setTime_only ..)

theorem capturePopOp_only (n : Nat) (d : Dev) : Only Foot.capturePop d (capturePopOp n d) := by
  unfold capturePopOp
  repeat' first
    | with_reducible exact Only.refl
    | with_reducible apply Foot.Sub.mk; decide +kernel
    | with_reducible apply Only.answer
    | with_reducible apply Only.step (Dev.setTime_only ..)
    | split

theorem Only.countCore {F : Foot} {a b : Dev} {k i : Nat} (hi : Lit (Nat.blt i 3)) (hf : Foot.Sub foot18 F) (h : Only F a b) : Only F a (b.countCore k i) := by
  have e : Only foot18 b (b.countCore k i) := by
    unfold Dev.countCore
    split
    · exact Only.refl
    · refine Only.countMk ?_ (has_Core_COUNTER_SAT k) (fs := [ent1 Ent.Core.CLAIMS, ent1 Ent.Core.COMPLETE_ERRORS, ent1 Ent.Core.STACK_FULL]) ⟨by decide +kernel⟩ ⟨by decide +kernel⟩ ⟨by decide +kernel⟩ Only.refl
      have := hi.holds
      rcases i with _ | _ | _ | i
      · exact ⟨_, List.mem_of_getElem? (i := 0) rfl, k, 0, 0, by simp only [ent1, Entry.key, Ent.Core.CLAIMS]; omega⟩
      · exact ⟨_, List.mem_of_getElem? (i := 1) rfl, k, 0, 0, by simp only [ent1, Entry.key, Ent.Core.COMPLETE_ERRORS]; omega⟩
      · exact ⟨_, List.mem_of_getElem? (i := 2) rfl, k, 0, 0, by simp only [ent1, Entry.key, Ent.Core.STACK_FULL]; omega⟩
      · simp at this; omega
  exact e.step hf h

theorem Only.limited {F : Foot} {a b : Dev} {k n : Nat} {f : Dev → Nat → Dev} (hs : Foot.Sub foot19 F) (hf : ∀ d n, Only F d (f d n)) (h : Only F a b) : Only F a (b.limited k n f) := by
  have hl : Part.In .limits F := Part.In.trans (F := foot19) ⟨by decide +kernel⟩ hs
  unfold Dev.limited
  split
  · exact (hf _ _).trans (h.set_limits hl)
  · exact h.set_limits hl

theorem Dev.evalLine_only (d : Dev) (k : Nat) : Only foot20 d (Dev.evalLine d k) := by
  unfold Dev.evalLine
  repeat' first
    | with_reducible exact Only.refl
    | with_reducible apply Foot.Sub.mk; decide +kernel
    | with_reducible apply Only.ite
    | with_reducible apply Only.emit
    | with_reducible apply Only.setFld (has_pgWfi ..)

theorem Dev.raise_only (d : Dev) (n : Nat) : Only foot21 d (Dev.raise d n) := by
  unfold Dev.raise
  repeat' first
    | with_reducible exact Only.refl
    | with_reducible apply Foot.Sub.mk; decide +kernel
    | with_reducible apply Only.setFld (has_Src_PENDING ..)

theorem Dev.startTask_only (d : Dev) (x : Nat) : Only foot22 d (Dev.startTask d x) := by
  have h_scan : Part.In .scan foot22 := ⟨by decide +kernel⟩
  unfold Dev.startTask
  repeat' first
    | with_reducible exact Only.refl
    | with_reducible apply Foot.Sub.mk; decide +kernel
    | with_reducible apply Only.ite
    | with_reducible apply Only.put (has_Task_MAX_DELAY_NS ..)
    | with_reducible apply Only.step (Dev.raise_only ..)
    | simp only [Only.set_scan_eq h_scan]
    | split

theorem Dev.claimSource_only (d : Dev) (k : Nat) (n : Nat) : Only foot23 d (Dev.claimSource d k n) := by
  have h_held : Part.In .held foot23 := ⟨by decide +kernel⟩
  unfold Dev.claimSource
  repeat' first
    | with_reducible exact Only.refl
    | with_reducible apply Foot.Sub.mk; decide +kernel
    | with_reducible apply Lit.mk; decide
    | with_reducible apply Only.ite
    | with_reducible apply Only.setFld (has_pgDepth ..)
    | with_reducible apply Only.setFld (has_pgPrio ..)
    | with_reducible apply Only.setFld (has_pgSaved ..)
    | with_reducible apply Only.setFld (has_pgSrc ..)
    | with_reducible apply Only.setFld (has_pgWfi ..)
    | with_reducible apply Only.setFld (has_sActive ..)
    | with_reducible apply Only.setFld (has_sPending ..)
    | with_reducible apply Only.countCore
    | with_reducible apply Only.step (Dev.startTask_only ..)
    | simp only [Only.set_held_eq h_held]

theorem claimOp_only (k : Nat) (i : Initiator) (d : Dev) : Only Foot.claim d (claimOp k i d) := by
  unfold claimOp
  repeat' first
    | with_reducible exact Only.refl
    | with_reducible apply Foot.Sub.mk; decide +kernel
    | with_reducible apply Lit.mk; decide
    | with_reducible apply Only.ite
    | with_reducible apply Only.answer
    | with_reducible apply Only.setFld (has_pgFull ..)
    | with_reducible apply Only.step (Dev.claimSource_only ..)
    | with_reducible apply Only.countCore
    | with_reducible apply Only.step (Dev.evalLine_only ..)
    | with_reducible apply Only.step (Dev.event_only ..)
    | with_reducible apply Only.limited
    | with_reducible intro _
    | split

theorem Dev.setCan_only (d : Dev) (n : Nat) (f : CanCh → CanCh) : Only foot24 d (Dev.setCan d n f) := by
  have h_can : Part.In .can foot24 := ⟨by decide +kernel⟩
  unfold Dev.setCan
  repeat' first
    | with_reducible exact Only.refl
    | simp only [Only.set_can_eq h_can]

theorem objHdrReadOp_only (n : Nat) (k : Nat) (i : Initiator) (d : Dev) : Only Foot.objHdrRead d (objHdrReadOp n k i d) := by
  unfold objHdrReadOp
  repeat' first
    | with_reducible exact Only.refl
    | with_reducible apply Foot.Sub.mk; decide +kernel
    | with_reducible apply Only.ite
    | with_reducible apply Only.answer
    | with_reducible apply Only.step (Dev.setCan_only ..)
    | dsimp only
    | split

theorem Dev.setRun_only (d : Dev) (t : Nat) (f : TaskRun → TaskRun) : Only foot0 d (Dev.setRun d t f) := by
  unfold Dev.setRun
  repeat' first
    | with_reducible exact Only.refl
    | with_reducible apply Foot.Sub.mk; decide +kernel
    | with_reducible apply Only.step (Dev.setScan_only ..)

theorem Dev.setSlot_only (d : Dev) (s : Nat) (f : Slot → Slot) : Only foot0 d (Dev.setSlot d s f) := by
  unfold Dev.setSlot
  repeat' first
    | with_reducible exact Only.refl
    | with_reducible apply Foot.Sub.mk; decide +kernel
    | with_reducible apply Only.step (Dev.setScan_only ..)

theorem Dev.sysIrq_only (d : Dev) (i : Nat) (b : Nat) : Only foot25 d (Dev.sysIrq d i b) := by
  unfold Dev.sysIrq
  repeat' first
    | with_reducible exact Only.refl
    | with_reducible apply Foot.Sub.mk; decide +kernel
    | with_reducible apply Only.setFldBit (has_Plat_SYS_IRQ ..)

theorem Dev.eventSys_only (d : Dev) (i : Nat) (source : Nat) (code : Nat) (data : Nat) (ext : Option Bytes) : Only foot26 d (Dev.eventSys d i source code data ext) := by
  unfold Dev.eventSys
  repeat' first
    | with_reducible exact Only.refl
    | with_reducible apply Foot.Sub.mk; decide +kernel
    | with_reducible apply Only.step (Dev.event_only ..)
    | with_reducible apply Only.step (Dev.sysIrq_only ..)

theorem Dev.seEvent_only (d : Dev) (source : Nat) (code : Nat) (data : Nat) : Only foot26 d (Dev.seEvent d source code data) := by
  unfold Dev.seEvent
  repeat' first
    | with_reducible exact Only.refl
    | with_reducible apply Foot.Sub.mk; decide +kernel
    | with_reducible apply Only.step (Dev.eventSys_only ..)

theorem Dev.slotLost_only (d : Dev) (s : Nat) (cause : Nat) : Only foot27 d (Dev.slotLost d s cause) := by
  unfold Dev.slotLost
  repeat' first
    | with_reducible exact Only.refl
    | with_reducible apply Foot.Sub.mk; decide +kernel
    | with_reducible apply Only.ite
    | with_reducible apply Only.put (has_Stn_STATE ..)
    | with_reducible apply Only.count (has_slotCounter_5 ..)
    | with_reducible apply Only.step (Dev.seEvent_only ..)
    | with_reducible apply Only.step (Dev.setSlot_only ..)

theorem Dev.countLoss_only (d : Dev) (r : StnRec) : Only foot27 d (Dev.countLoss d r) := by
  unfold Dev.countLoss
  repeat' first
    | with_reducible exact Only.refl
    | with_reducible apply Foot.Sub.mk; decide +kernel
    | with_reducible apply Only.ite
    | with_reducible apply Only.step (Dev.setSlot_only ..)
    | with_reducible apply Only.step (Dev.slotLost_only ..)

theorem Dev.draw_only (d : Dev) (w : Nat) : Only foot28 d (Dev.draw d w).2 := by
  have h_free : Part.In .free foot28 := ⟨by decide +kernel⟩
  unfold Dev.draw
  repeat' first
    | with_reducible exact Only.refl
    | simp only [Only.set_free_eq h_free]

theorem Dev.pdoIn_only (d : Dev) (s : Nat) (m : MapRec) : Only foot4 d (Dev.pdoIn d s m) := by
  unfold Dev.pdoIn
  repeat' first
    | with_reducible exact Only.refl
    | with_reducible apply Foot.Sub.mk; decide +kernel
    | with_reducible apply Only.ite
    | with_reducible apply Only.foldl
    | with_reducible apply Only.step (Dev.setByte_only ..)
    | with_reducible intro _

theorem Dev.copyIn_only (d : Dev) (maps : List MapRec) (t : Nat) (delay : Nat) (m : MapRec) : Only foot5 d (Dev.copyIn d maps t delay m) := by
  unfold Dev.copyIn
  repeat' first
    | with_reducible exact Only.refl
    | with_reducible apply Foot.Sub.mk; decide +kernel
    | with_reducible apply Only.ite
    | with_reducible apply Only.step (Dev.pdoIn_only ..)
    | with_reducible apply Only.step (Dev.writeMem_only ..)
    | dsimp only
    | split

theorem Dev.qualityIn_only (d : Dev) (m : MapRec) : Only foot4 d (Dev.qualityIn d m) := by
  unfold Dev.qualityIn
  repeat' first
    | with_reducible exact Only.refl
    | with_reducible apply Foot.Sub.mk; decide +kernel
    | with_reducible apply Only.ite
    | with_reducible apply Only.step (Dev.setByte_only ..)
    | dsimp only
    | split

theorem Dev.slotTaken_only (d : Dev) (r : StnRec) : Only foot0 d (Dev.slotTaken d r) := by
  unfold Dev.slotTaken
  repeat' first
    | with_reducible exact Only.refl
    | with_reducible apply Foot.Sub.mk; decide +kernel
    | with_reducible apply Only.step (Dev.setSlot_only ..)

theorem Dev.makeReady_only (d : Dev) (r : TaskRec) : Only foot29 d (Dev.makeReady d r) := by
  unfold Dev.makeReady
  repeat' first
    | with_reducible exact Only.refl
    | with_reducible apply Foot.Sub.mk; decide +kernel
    | with_reducible apply Only.step (Dev.evalLine_only ..)
    | with_reducible apply Only.step (Dev.raise_only ..)
    | with_reducible apply Only.step (Dev.setScan_only ..)

theorem Dev.writeTcm_only (d : Dev) (x : Nat) (off : Nat) (b : Bytes) : Only foot5 d (Dev.writeTcm d x off b) := by
  unfold Dev.writeTcm
  repeat' first
    | with_reducible exact Only.refl
    | with_reducible apply Foot.Sub.mk; decide +kernel
    | with_reducible apply Only.foldl
    | with_reducible apply Only.step (Dev.writeMem_only ..)
    | with_reducible intro _

theorem Dev.forceInputs_only (d : Dev) (r : TaskRec) : Only foot5 d (Dev.forceInputs d r) := by
  unfold Dev.forceInputs
  repeat' first
    | with_reducible exact Only.refl
    | with_reducible apply Foot.Sub.mk; decide +kernel
    | with_reducible apply Only.ite
    | with_reducible apply Only.foldl
    | with_reducible apply Only.step (Dev.writeMem_only ..)
    | with_reducible apply Only.step (Dev.writeTcm_only ..)
    | with_reducible intro _

theorem Dev.ctrlOn_only (d : Dev) (n : Nat) (msg : Nat) (mseq : Nat) (body : Bytes) : Only foot30 d (Dev.ctrlOn d n msg mseq body) := by
  unfold Dev.ctrlOn
  repeat' first
    | with_reducible exact Only.refl
    | with_reducible apply Foot.Sub.mk; decide +kernel
    | with_reducible apply Only.count (has_txBytes ..)
    | with_reducible apply Only.count (has_txFrames ..)
    | with_reducible apply Only.step (Dev.putFrame_only ..)

theorem Dev.ctrl_only (d : Dev) (msg : Nat) (body : Bytes) (mseq : Nat) : Only foot30 d (Dev.ctrl d msg body mseq) := by
  unfold Dev.ctrl
  repeat' first
    | with_reducible exact Only.refl
    | with_reducible apply Foot.Sub.mk; decide +kernel
    | with_reducible apply Only.step (Dev.ctrlOn_only ..)
    | split

theorem Dev.posted_only (d : Dev) (hall : Nat) (msg : Nat) (body : Bytes) (attach : Bool) : Only foot30 d (Dev.posted d hall msg body attach) := by
  unfold Dev.posted
  repeat' first
    | with_reducible exact Only.refl
    | with_reducible apply Foot.Sub.mk; decide +kernel
    | with_reducible apply Only.step (Dev.ctrl_only ..)
    | with_reducible apply Only.step (Dev.setTwin_only ..)

theorem Dev.post_only (d : Dev) (hall : Nat) (msg : Nat) (body : Bytes) (attach : Bool) : Only foot30 d (Dev.post d hall msg body attach) := by
  unfold Dev.post
  repeat' first
    | with_reducible exact Only.refl
    | with_reducible apply Foot.Sub.mk; decide +kernel
    | with_reducible apply Only.step (Dev.posted_only ..)
    | with_reducible apply Only.step (Dev.setTwin_only ..)

theorem Dev.sendInputs_only (d : Dev) (t : Nat) (cycle : Nat) (startNs : Nat) (b : Bytes) : Only foot30 d (Dev.sendInputs d t cycle startNs b) := by
  unfold Dev.sendInputs
  repeat' first
    | with_reducible exact Only.refl
    | with_reducible apply Foot.Sub.mk; decide +kernel
    | with_reducible apply Only.ite
    | with_reducible apply Only.foldl
    | with_reducible apply Only.step (Dev.post_only ..)
    | with_reducible intro _

theorem Dev.snapshot_only (d : Dev) (t : Nat) (startNs : Nat) : Only foot31 d (Dev.snapshot d t startNs) := by
  unfold Dev.snapshot
  repeat' first
    | with_reducible exact Only.refl
    | with_reducible apply Foot.Sub.mk; decide +kernel
    | with_reducible apply Only.foldl
    | with_reducible apply Only.step (Dev.copyIn_only ..)
    | with_reducible apply Only.step (Dev.countLoss_only ..)
    | with_reducible apply Only.step (Dev.draw_only ..)
    | with_reducible apply Only.step (Dev.forceInputs_only ..)
    | with_reducible apply Only.step (Dev.makeReady_only ..)
    | with_reducible apply Only.step (Dev.qualityIn_only ..)
    | with_reducible apply Only.step (Dev.sendInputs_only ..)
    | with_reducible apply Only.step (Dev.setRun_only ..)
    | with_reducible apply Only.step (Dev.setScan_only ..)
    | with_reducible apply Only.step (Dev.slotTaken_only ..)
    | with_reducible intro _
    | dsimp only
    | split

theorem Dev.eventTrigger_only (d : Dev) (e : Nat) (at_ : Nat) : Only foot32 d (Dev.eventTrigger d e at_) := by
  unfold Dev.eventTrigger
  repeat' first
    | with_reducible exact Only.refl
    | with_reducible apply Foot.Sub.mk; decide +kernel
    | with_reducible apply Only.ite
    | with_reducible apply Only.count (has_taskCounter_1 ..)
    | with_reducible apply Only.step (Dev.setRun_only ..)
    | with_reducible apply Only.step (Dev.snapshot_only ..)
    | split

theorem Dev.objectEvent_only (d : Dev) (n : Nat) (k : Nat) : Only foot32 d (Dev.objectEvent d n k) := by
  unfold Dev.objectEvent
  repeat' first
    | with_reducible exact Only.refl
    | with_reducible apply Foot.Sub.mk; decide +kernel
    | with_reducible apply Only.foldl
    | with_reducible apply Only.step (Dev.eventTrigger_only ..)
    | with_reducible intro _

theorem Dev.shadowMoved_only (d : Dev) (old : Dev) (n : Nat) (k : Nat) : Only foot32 d (Dev.shadowMoved d old n k) := by
  unfold Dev.shadowMoved
  repeat' first
    | with_reducible exact Only.refl
    | with_reducible apply Foot.Sub.mk; decide +kernel
    | with_reducible apply Only.ite
    | with_reducible apply Only.step (Dev.objectEvent_only ..)

theorem Dev.objWords_only (d : Dev) (n : Nat) (k : Nat) (x : RxFrame) : Only foot33 d (Dev.objWords d n k x) := by
  unfold Dev.objWords
  repeat' first
    | with_reducible exact Only.refl
    | with_reducible apply Foot.Sub.mk; decide +kernel
    | with_reducible apply Only.foldl
    | with_reducible apply Only.setFld (has_Obj_BRS ..)
    | with_reducible apply Only.setFld (has_Obj_DATA ..)
    | with_reducible apply Only.setFld (has_Obj_DLC ..)
    | with_reducible apply Only.setFld (has_Obj_ESI ..)
    | with_reducible apply Only.setFld (has_Obj_FDF ..)
    | with_reducible apply Only.setFld (has_Obj_FRAC ..)
    | with_reducible apply Only.setFld (has_Obj_ID ..)
    | with_reducible apply Only.setFld (has_Obj_IDE ..)
    | with_reducible apply Only.setFld (has_Obj_STAMP ..)
    | with_reducible apply Only.setFld (has_Obj_TGEN ..)
    | with_reducible intro _

theorem Dev.canIrq_only (d : Dev) (n : Nat) (b : Nat) : Only foot34 d (Dev.canIrq d n b) := by
  unfold Dev.canIrq
  repeat' first
    | with_reducible exact Only.refl
    | with_reducible apply Foot.Sub.mk; decide +kernel
    | with_reducible apply Only.setFldBit (has_Ch_IRQ ..)

theorem Dev.objStore_only (d : Dev) (n : Nat) (k : Nat) (x : RxFrame) : Only foot35 d (Dev.objStore d n k x) := by
  unfold Dev.objStore
  repeat' first
    | with_reducible exact Only.refl
    | with_reducible apply Foot.Sub.mk; decide +kernel
    | with_reducible apply Only.ite
    | with_reducible apply Only.setFld (has_Obj_NEW ..)
    | with_reducible apply Only.setFld (has_Obj_RXSEQ ..)
    | with_reducible apply Only.step (Dev.canIrq_only ..)
    | with_reducible apply Only.step (Dev.objWords_only ..)

theorem Dev.release_only (d : Dev) (n : Nat) (k : Nat) (pop : Bool) : Only foot36 d (Dev.release d n k pop) := by
  unfold Dev.release
  repeat' first
    | with_reducible exact Only.refl
    | with_reducible apply Foot.Sub.mk; decide +kernel
    | with_reducible apply Only.ite
    | with_reducible apply Only.setFld (has_Obj_LOSTCNT ..)
    | with_reducible apply Only.setFld (has_Obj_NEW ..)
    | with_reducible apply Only.step (Dev.objStore_only ..)
    | with_reducible apply Only.step (Dev.setCan_only ..)
    | dsimp only
    | split

theorem objTailReadOp_only (n : Nat) (k : Nat) (i : Initiator) (d : Dev) : Only Foot.objTailRead d (objTailReadOp n k i d) := by
  unfold objTailReadOp
  repeat' first
    | with_reducible exact Only.refl
    | with_reducible apply Foot.Sub.mk; decide +kernel
    | with_reducible apply Only.ite
    | with_reducible apply Only.answer
    | with_reducible apply Only.step (Dev.release_only ..)
    | dsimp only
    | split

theorem objTailTakenOp_only (n : Nat) (k : Nat) (i : Initiator) (d : Dev) : Only foot37 d (objTailTakenOp n k i d) := by
  unfold objTailTakenOp
  repeat' first
    | with_reducible exact Only.refl
    | with_reducible apply Foot.Sub.mk; decide +kernel
    | with_reducible apply Only.step (Dev.shadowMoved_only ..)
    | with_reducible apply Only.step (objTailReadOp_only ..)

theorem Dev.readWord_only (d : Dev) (i : Initiator) (p : Page) (off : Nat) (a : Nat) : Only foot38 d (Dev.readWord d i p off a) := by
  unfold Dev.readWord
  repeat' first
    | with_reducible exact Only.refl
    | with_reducible apply Foot.Sub.mk; decide +kernel
    | with_reducible apply Only.ite
    | with_reducible apply Only.answer
    | with_reducible apply Only.step (capturePopOp_only ..)
    | with_reducible apply Only.step (claimOp_only ..)
    | with_reducible apply Only.step (objHdrReadOp_only ..)
    | with_reducible apply Only.step (objTailTakenOp_only ..)
    | with_reducible apply Only.step (snapCaptureOp_only ..)
    | split

theorem Dev.readWords_only (d : Dev) (i : Initiator) (p : Page) (off : Nat) (a : Nat) (x0 : Nat) : Only foot38 d (Dev.readWords d i p off a x0).2.2 := by
  fun_induction Dev.readWords d i p off a x0
  all_goals repeat' first
    | with_reducible exact Only.refl
    | with_reducible apply Foot.Sub.mk; decide +kernel
    | with_reducible refine Only.trans (by assumption) ?_
    | with_reducible apply Only.step (Dev.readWord_only ..)
    | with_reducible apply Only.taken
    | with_reducible intro _
    | with_reducible refine Only.snd (by assumption) ?_
    | with_reducible refine Only.snd2 (by assumption) ?_

theorem Dev.plainWrite_only (d : Dev) (p : Page) (off : Nat) (a : Nat) (v : Nat) (m : Nat) : Only foot39 d (Dev.plainWrite d p off a v m) := by
  unfold Dev.plainWrite
  repeat' first
    | with_reducible exact Only.refl
    | with_reducible apply Part.In.mk; decide +kernel
    | with_reducible apply Only.putWord_all

theorem Dev.sourceWrite_only (d : Dev) (off : Nat) (a : Nat) (v : Nat) (m : Nat) : Only foot39 d (Dev.sourceWrite d off a v m) := by
  unfold Dev.sourceWrite
  repeat' first
    | with_reducible exact Only.refl
    | with_reducible apply Foot.Sub.mk; decide +kernel
    | with_reducible apply Only.answer
    | with_reducible apply Only.step (Dev.evalLine_only ..)
    | with_reducible apply Only.step (Dev.plainWrite_only ..)

theorem doorbellOp_only (hall : Nat) (v : Nat) (d : Dev) : Only Foot.doorbell d (doorbellOp hall v d) := by
  unfold doorbellOp
  repeat' first
    | with_reducible exact Only.refl
    | with_reducible apply Foot.Sub.mk; decide +kernel
    | with_reducible apply Only.ite
    | with_reducible apply Only.answer
    | with_reducible apply Only.step (Dev.evalLine_only ..)
    | with_reducible apply Only.step (Dev.raise_only ..)

theorem completeOp_only (k : Nat) (i : Initiator) (v : Nat) (d : Dev) : Only Foot.complete d (completeOp k i v d) := by
  unfold completeOp
  repeat' first
    | with_reducible exact Only.refl
    | with_reducible apply Foot.Sub.mk; decide +kernel
    | with_reducible apply Lit.mk; decide
    | with_reducible apply Only.ite
    | with_reducible apply Only.answer
    | with_reducible apply Only.setFld (has_pgCerr ..)
    | with_reducible apply Only.setFld (has_pgDepth ..)
    | with_reducible apply Only.setFld (has_pgPrio ..)
    | with_reducible apply Only.setFld (has_pgSaved ..)
    | with_reducible apply Only.setFld (has_pgSrc ..)
    | with_reducible apply Only.setFld (has_sActive ..)
    | with_reducible apply Only.countCore
    | with_reducible apply Only.step (Dev.evalLine_only ..)
    | with_reducible apply Only.step (Dev.event_only ..)
    | with_reducible apply Only.limited
    | with_reducible intro _

theorem adjGoOp_only (hall : Nat) (v : Nat) (d : Dev) : Only Foot.adjGo d (adjGoOp hall v d) := by
  unfold adjGoOp
  repeat' first
    | with_reducible exact Only.refl
    | with_reducible apply Foot.Sub.mk; decide +kernel
    | with_reducible apply Only.ite
    | with_reducible apply Only.answer
    | with_reducible apply Only.setFld (has_Tb_DO_QUALITY ..)
    | with_reducible apply Only.setFld (has_Tb_DO_RATE ..)
    | with_reducible apply Only.setFld (has_Tb_DO_STEP ..)
    | with_reducible apply Only.setFld (has_Tb_OVERRUN ..)
    | with_reducible apply Only.setFld (has_Tb_QUALITY_NEW ..)
    | with_reducible apply Only.step (Dev.setTime_only ..)
    | with_reducible apply Only.step (Dev.sysIrq_only ..)
    | dsimp only
    | split

theorem Dev.setDma_only (d : Dev) (f : MemSt → MemSt) : Only foot3 d (Dev.setDma d f) := by
  have h_dma : Part.In .dma foot3 := ⟨by decide +kernel⟩
  unfold Dev.setDma
  repeat' first
    | with_reducible exact Only.refl
    | simp only [Only.set_dma_eq h_dma]

theorem Dev.setCh_only (d : Dev) (c : Nat) (f : DmaCh → DmaCh) : Only foot3 d (Dev.setCh d c f) := by
  unfold Dev.setCh
  repeat' first
    | with_reducible exact Only.refl
    | with_reducible apply Foot.Sub.mk; decide +kernel
    | with_reducible apply Only.step (Dev.setDma_only ..)

theorem dmaTailWriteOp_only (c : Nat) (hall : Nat) (v : Nat) (d : Dev) : Only Foot.dmaTailWrite d (dmaTailWriteOp c hall v d) := by
  unfold dmaTailWriteOp
  repeat' first
    | with_reducible exact Only.refl
    | with_reducible apply Foot.Sub.mk; decide +kernel
    | with_reducible apply Only.ite
    | with_reducible apply Only.answer
    | with_reducible apply Only.setFld (has_Dmar_TAIL ..)
    | with_reducible apply Only.step (Dev.setCh_only ..)

theorem Dev.dmaWrite_only (d : Dev) (c : Nat) (iova : Nat) (b : Bytes) : Only foot5 d (Dev.dmaWrite d c iova b).2 := by
  unfold Dev.dmaWrite
  repeat' first
    | with_reducible exact Only.refl
    | with_reducible apply Foot.Sub.mk; decide +kernel
    | with_reducible apply Only.step (Dev.storeMem_only ..)
    | split

theorem Dev.dmaIrq_only (d : Dev) (c : Nat) (i : Nat) : Only foot40 d (Dev.dmaIrq d c i) := by
  unfold Dev.dmaIrq
  repeat' first
    | with_reducible exact Only.refl
    | with_reducible apply Foot.Sub.mk; decide +kernel
    | with_reducible apply Only.setFldBit (has_Dmar_IRQ ..)

theorem Dev.ringSat_only (d : Dev) (old : Dev) (h : Nat) : Only foot41 d (Dev.ringSat d old h) := by
  unfold Dev.ringSat
  repeat' first
    | with_reducible exact Only.refl
    | with_reducible apply Foot.Sub.mk; decide +kernel
    | with_reducible apply Only.ite
    | with_reducible apply Only.putBit (has_Hall_COUNTER_SAT ..)
    | with_reducible apply Only.step (Dev.logDevice_only ..)

theorem Dev.logRing0_only (d : Dev) (e : Ev) : Only foot42 d (Dev.logRing0 d e) := by
  unfold Dev.logRing0
  repeat' first
    | with_reducible exact Only.refl
    | with_reducible apply Foot.Sub.mk; decide +kernel
    | with_reducible apply Only.setFld (has_Hpg_RING_EN ..)
    | with_reducible apply Only.step (Dev.logDevice_only ..)
    | with_reducible apply Only.step (Dev.ringSat_only ..)
    | with_reducible apply Only.step (Dev.writeGroup_only ..)
    | with_reducible refine Only.snd (by assumption) ?_
    | split

theorem Dev.holdRecord_only (d : Dev) (h : Nat) (e : Ev) : Only foot41 d (Dev.holdRecord d h e) := by
  have h_logs : Part.In .logs foot41 := ⟨by decide +kernel⟩
  unfold Dev.holdRecord
  repeat' first
    | with_reducible exact Only.refl
    | with_reducible apply Foot.Sub.mk; decide +kernel
    | with_reducible apply Only.ite
    | with_reducible apply Only.step (Dev.loseRecs_only ..)
    | with_reducible apply Only.step (Dev.ringSat_only ..)
    | simp only [Only.set_logs_eq h_logs]

theorem Dev.logRing_only (d : Dev) (h : Nat) (e : Ev) : Only foot42 d (Dev.logRing d h e) := by
  unfold Dev.logRing
  repeat' first
    | with_reducible exact Only.refl
    | with_reducible apply Foot.Sub.mk; decide +kernel
    | with_reducible apply Only.ite
    | with_reducible apply Only.setFld (has_Hpg_RING_EN ..)
    | with_reducible apply Only.step (Dev.holdEarly_only ..)
    | with_reducible apply Only.step (Dev.holdRecord_only ..)
    | with_reducible apply Only.step (Dev.logDevice_only ..)
    | with_reducible apply Only.step (Dev.logRing0_only ..)
    | with_reducible apply Only.step (Dev.ringSat_only ..)
    | with_reducible apply Only.step (Dev.writeGroup_only ..)
    | with_reducible refine Only.snd (by assumption) ?_
    | dsimp only
    | split

theorem Dev.eventRing_only (d : Dev) (h : Nat) (source : Nat) (code : Nat) (data : Nat) (ext : Option Bytes) : Only foot42 d (Dev.eventRing d h source code data ext) := by
  unfold Dev.eventRing
  repeat' first
    | with_reducible exact Only.refl
    | with_reducible apply Foot.Sub.mk; decide +kernel
    | with_reducible apply Only.step (Dev.logRing_only ..)

theorem Dev.dmaStop_only (d : Dev) (c : Nat) (s : Status) : Only foot43 d (Dev.dmaStop d c s) := by
  unfold Dev.dmaStop
  repeat' first
    | with_reducible exact Only.refl
    | with_reducible apply Foot.Sub.mk; decide +kernel
    | with_reducible apply Only.setFld (has_Dmar_ACTIVE ..)
    | with_reducible apply Only.setFld (has_Dmar_CODE ..)
    | with_reducible apply Only.setFld (has_Dmar_STOPPED ..)
    | with_reducible apply Only.step (Dev.dmaIrq_only ..)
    | with_reducible apply Only.step (Dev.event_only ..)
    | with_reducible apply Only.step (Dev.eventRing_only ..)

theorem Dev.descError_only (d : Dev) (source : Nat) : Only foot44 d (Dev.descError d source) := by
  unfold Dev.descError
  repeat' first
    | with_reducible exact Only.refl
    | with_reducible apply Foot.Sub.mk; decide +kernel
    | with_reducible apply Only.step (Dev.event_only ..)
    | with_reducible apply Only.limited
    | with_reducible intro _

theorem Dev.staleReject_only (d : Dev) (source : Nat) (cur : Nat) : Only foot44 d (Dev.staleReject d source cur) := by
  unfold Dev.staleReject
  repeat' first
    | with_reducible exact Only.refl
    | with_reducible apply Foot.Sub.mk; decide +kernel
    | with_reducible apply Only.step (Dev.event_only ..)
    | with_reducible apply Only.limited
    | with_reducible intro _

theorem Dev.dmaRecorded_only (d : Dev) (c : Nat) (next : Nat) (irq : Bool) (done : Nat) (s : Status) : Only foot45 d (Dev.dmaRecorded d c next irq done s) := by
  unfold Dev.dmaRecorded
  repeat' first
    | with_reducible exact Only.refl
    | with_reducible apply Foot.Sub.mk; decide +kernel
    | with_reducible apply Only.ite
    | with_reducible apply Only.count (has_dmaCounter_0 ..)
    | with_reducible apply Only.count (has_dmaCounter_1 ..)
    | with_reducible apply Only.count (has_dmaCounter_3 ..)
    | with_reducible apply Only.count (has_dmaCounter_4 ..)
    | with_reducible apply Only.setFld (has_Dmar_ACTIVE ..)
    | with_reducible apply Only.setFld (has_Dmar_CODE ..)
    | with_reducible apply Only.setFld (has_Dmar_HEAD ..)
    | with_reducible apply Only.step (Dev.descError_only ..)
    | with_reducible apply Only.step (Dev.dmaIrq_only ..)
    | with_reducible apply Only.step (Dev.staleReject_only ..)

theorem Dev.dmaComplete_only (d : Dev) (c : Nat) (desc : Bytes) (done : Nat) (s : Status) : Only foot46 d (Dev.dmaComplete d c desc done s) := by
  unfold Dev.dmaComplete
  repeat' first
    | with_reducible exact Only.refl
    | with_reducible apply Foot.Sub.mk; decide +kernel
    | with_reducible apply Only.ite
    | with_reducible apply Only.step (Dev.dmaRecorded_only ..)
    | with_reducible apply Only.step (Dev.dmaStop_only ..)
    | with_reducible apply Only.step (Dev.dmaWrite_only ..)
    | with_reducible apply Only.step (Dev.setCh_only ..)

theorem Dev.dmaAbortFaulted_only (d : Dev) (c : Nat) : Only foot46 d (Dev.dmaAbortFaulted d c) := by
  unfold Dev.dmaAbortFaulted
  repeat' first
    | with_reducible exact Only.refl
    | with_reducible apply Foot.Sub.mk; decide +kernel
    | with_reducible apply Only.setFld (has_Dmar_FAULTED ..)
    | with_reducible apply Only.step (Dev.dmaComplete_only ..)

theorem dmaAbortOp_only (c : Nat) (hall : Nat) (d : Dev) : Only Foot.dmaAbort d (dmaAbortOp c hall d) := by
  unfold dmaAbortOp
  repeat' first
    | with_reducible exact Only.refl
    | with_reducible apply Foot.Sub.mk; decide +kernel
    | with_reducible apply Only.ite
    | with_reducible apply Only.answer
    | with_reducible apply Only.step (Dev.dmaAbortFaulted_only ..)

theorem dmaResumeOp_only (c : Nat) (hall : Nat) (d : Dev) : Only Foot.dmaResume d (dmaResumeOp c hall d) := by
  unfold dmaResumeOp
  repeat' first
    | with_reducible exact Only.refl
    | with_reducible apply Foot.Sub.mk; decide +kernel
    | with_reducible apply Only.ite
    | with_reducible apply Only.answer
    | with_reducible apply Only.setFld (has_Dmar_FAULTED ..)
    | with_reducible apply Only.step (Dev.setCh_only ..)

theorem dmaInvalOp_only (c : Nat) (hall : Nat) (d : Dev) : Only Foot.dmaInval d (dmaInvalOp c hall d) := by
  unfold dmaInvalOp
  repeat' first
    | with_reducible exact Only.refl
    | with_reducible apply Foot.Sub.mk; decide +kernel
    | with_reducible apply Only.ite
    | with_reducible apply Only.answer
    | with_reducible apply Only.setFld (has_Dmar_INVAL_BUSY ..)

theorem Dev.sendDecided_only (d : Dev) (n : Nat) (k : Nat) (s : Status) : Only foot47 d (Dev.sendDecided d n k s) := by
  unfold Dev.sendDecided
  repeat' first
    | with_reducible exact Only.refl
    | with_reducible apply Foot.Sub.mk; decide +kernel
    | with_reducible apply Only.ite
    | with_reducible apply Only.setFld (has_Txb_ATTEMPTS ..)
    | with_reducible apply Only.setFld (has_Txb_CODE ..)
    | with_reducible apply Only.setFld (has_Txb_DONE ..)
    | with_reducible apply Only.setFld (has_Txb_PENDING ..)
    | with_reducible apply Only.setFld (has_Txb_REASON ..)
    | with_reducible apply Only.step (Dev.canIrq_only ..)
    | with_reducible apply Only.step (Dev.staleReject_only ..)
    | dsimp only
    | split

theorem Dev.txbDone_only (d : Dev) (n : Nat) (k : Nat) (s : Status) (reason : Nat) : Only foot48 d (Dev.txbDone d n k s reason) := by
  unfold Dev.txbDone
  repeat' first
    | with_reducible exact Only.refl
    | with_reducible apply Foot.Sub.mk; decide +kernel
    | with_reducible apply Only.setFld (has_Txb_CODE ..)
    | with_reducible apply Only.setFld (has_Txb_DONE ..)
    | with_reducible apply Only.setFld (has_Txb_PENDING ..)
    | with_reducible apply Only.setFld (has_Txb_REASON ..)
    | with_reducible apply Only.step (Dev.canIrq_only ..)
    | with_reducible apply Only.step (Dev.setCan_only ..)

theorem canAbortOp_only (n : Nat) (k : Nat) (d : Dev) : Only Foot.canAbort d (canAbortOp n k d) := by
  unfold canAbortOp
  repeat' first
    | with_reducible exact Only.refl
    | with_reducible apply Foot.Sub.mk; decide +kernel
    | with_reducible apply Only.ite
    | with_reducible apply Only.step (Dev.setCan_only ..)
    | with_reducible apply Only.step (Dev.txbDone_only ..)

theorem canSendOp_only (n : Nat) (k : Nat) (v : Nat) (d : Dev) : Only Foot.canSend d (canSendOp n k v d) := by
  unfold canSendOp
  repeat' first
    | with_reducible exact Only.refl
    | with_reducible apply Foot.Sub.mk; decide +kernel
    | with_reducible apply Only.ite
    | with_reducible apply Only.answer
    | with_reducible apply Only.setFld (has_Txb_EPOCH ..)
    | with_reducible apply Only.setFld (has_Txb_EPV ..)
    | with_reducible apply Only.setFld (has_Txb_ONESHOT ..)
    | with_reducible apply Only.setFld (has_Txb_OVERRUN ..)
    | with_reducible apply Only.step (Dev.sendDecided_only ..)
    | with_reducible apply Only.step (canAbortOp_only ..)

theorem canRestartOp_only (n : Nat) (d : Dev) : Only Foot.canRestart d (canRestartOp n d) := by
  unfold canRestartOp
  repeat' first
    | with_reducible exact Only.refl
    | with_reducible apply Foot.Sub.mk; decide +kernel
    | with_reducible apply Only.ite
    | with_reducible apply Only.answer
    | with_reducible apply Only.step (Dev.setCan_only ..)

theorem Dev.setSleep_only (d : Dev) (f : SleepSt → SleepSt) : Only foot49 d (Dev.setSleep d f) := by
  have h_sleep : Part.In .sleep foot49 := ⟨by decide +kernel⟩
  unfold Dev.setSleep
  repeat' first
    | with_reducible exact Only.refl
    | simp only [Only.set_sleep_eq h_sleep]

theorem Dev.setDomain_only (d : Dev) (k : Nat) (f : Domain → Domain) : Only foot49 d (Dev.setDomain d k f) := by
  unfold Dev.setDomain
  repeat' first
    | with_reducible exact Only.refl
    | with_reducible apply Foot.Sub.mk; decide +kernel
    | with_reducible apply Only.step (Dev.setSleep_only ..)

theorem Dev.svcQueue_only (d : Dev) (n : Nat) (x : SvcFrame) : Only foot50 d (Dev.svcQueue d n x) := by
  unfold Dev.svcQueue
  repeat' first
    | with_reducible exact Only.refl
    | with_reducible apply Foot.Sub.mk; decide +kernel
    | with_reducible apply Only.ite
    | with_reducible apply Only.count (has_canCounter_9 ..)
    | with_reducible apply Only.step (Dev.setCan_only ..)

theorem Dev.enqueue_only (d : Dev) (p : Nat) (c : Nat) (x : Copy) : Only foot14 d (Dev.enqueue d p c x) := by
  unfold Dev.enqueue
  repeat' first
    | with_reducible exact Only.refl
    | with_reducible apply Foot.Sub.mk; decide +kernel
    | with_reducible apply Only.step (Dev.setSw_only ..)

theorem Dev.sendTcm_only (d : Dev) (p : Nat) (f : Frame) : Only foot51 d (Dev.sendTcm d p f) := by
  have h_sw : Part.In .sw foot51 := ⟨by decide +kernel⟩
  unfold Dev.sendTcm
  repeat' first
    | with_reducible exact Only.refl
    | with_reducible apply Foot.Sub.mk; decide +kernel
    | with_reducible apply Only.step (Dev.countDrop_only ..)
    | with_reducible apply Only.step (Dev.enqueue_only ..)
    | simp only [Only.set_sw_eq h_sw]
    | split

theorem Dev.sendKeepalive_only (d : Dev) (k : Nat) : Only foot52 d (Dev.sendKeepalive d k) := by
  unfold Dev.sendKeepalive
  repeat' first
    | with_reducible exact Only.refl
    | with_reducible apply Foot.Sub.mk; decide +kernel
    | with_reducible apply Only.ite
    | with_reducible apply Only.emit
    | with_reducible apply Only.step (Dev.sendTcm_only ..)
    | with_reducible apply Only.step (Dev.setDomain_only ..)
    | with_reducible apply Only.step (Dev.svcQueue_only ..)

theorem Dev.enterDomain_only (d : Dev) (k : Nat) (st : Nat) : Only foot52 d (Dev.enterDomain d k st) := by
  unfold Dev.enterDomain
  repeat' first
    | with_reducible exact Only.refl
    | with_reducible apply Foot.Sub.mk; decide +kernel
    | with_reducible apply Only.step (Dev.sendKeepalive_only ..)
    | with_reducible apply Only.step (Dev.setDomain_only ..)

theorem domReqWriteOp_only (v : Nat) (d : Dev) : Only Foot.domReqWrite d (domReqWriteOp v d) := by
  unfold domReqWriteOp
  repeat' first
    | with_reducible exact Only.refl
    | with_reducible apply Foot.Sub.mk; decide +kernel
    | with_reducible apply Only.ite
    | with_reducible apply Only.foldl
    | with_reducible apply Only.answer
    | with_reducible apply Only.setFld (has_Slpr_DOM_REQ ..)
    | with_reducible apply Only.step (Dev.enterDomain_only ..)
    | with_reducible intro _

theorem Dev.sourceEvent_only (d : Dev) (s : Nat) (code : Nat) (data : Nat) : Only foot26 d (Dev.sourceEvent d s code data) := by
  unfold Dev.sourceEvent
  repeat' first
    | with_reducible exact Only.refl
    | with_reducible apply Foot.Sub.mk; decide +kernel
    | with_reducible apply Only.step (Dev.eventSys_only ..)

theorem Dev.quarantineEnds_only (d : Dev) (s : Nat) : Only foot53 d (Dev.quarantineEnds d s) := by
  unfold Dev.quarantineEnds
  repeat' first
    | with_reducible exact Only.refl
    | with_reducible apply Foot.Sub.mk; decide +kernel
    | with_reducible apply Only.ite
    | with_reducible apply Only.put (has_Wsrc_QUARANTINED ..)
    | with_reducible apply Only.step (Dev.setSleep_only ..)
    | with_reducible apply Only.step (Dev.sourceEvent_only ..)

theorem Dev.sourceClean_only (d : Dev) (s : Nat) : Only foot54 d (Dev.sourceClean d s) := by
  unfold Dev.sourceClean
  repeat' first
    | with_reducible exact Only.refl
    | with_reducible apply Foot.Sub.mk; decide +kernel
    | with_reducible apply Only.put (has_Wsrc_FILTER_CUR ..)
    | with_reducible apply Only.step (Dev.quarantineEnds_only ..)

theorem Dev.wakeConfirmed_only (d : Dev) (s : Nat) : Only foot55 d (Dev.wakeConfirmed d s) := by
  unfold Dev.wakeConfirmed
  repeat' first
    | with_reducible exact Only.refl
    | with_reducible apply Foot.Sub.mk; decide +kernel
    | with_reducible apply Only.put (has_Wsrc_FW_COUNT ..)
    | with_reducible apply Only.setFldBit (has_Slpr_FW_PENDING ..)
    | with_reducible apply Only.step (Dev.sourceClean_only ..)

theorem wakeConfirmOp_only (v : Nat) (d : Dev) : Only Foot.wakeConfirm d (wakeConfirmOp v d) := by
  unfold wakeConfirmOp
  repeat' first
    | with_reducible exact Only.refl
    | with_reducible apply Foot.Sub.mk; decide +kernel
    | with_reducible apply Only.ite
    | with_reducible apply Only.foldl
    | with_reducible apply Only.answer
    | with_reducible apply Only.step (Dev.wakeConfirmed_only ..)
    | with_reducible intro _

theorem Dev.setTrx_only (d : Dev) (n : Nat) (st : Nat) : Only foot49 d (Dev.setTrx d n st) := by
  unfold Dev.setTrx
  repeat' first
    | with_reducible exact Only.refl
    | with_reducible apply Foot.Sub.mk; decide +kernel
    | with_reducible apply Only.step (Dev.setSleep_only ..)

theorem Dev.tbRuns_only (d : Dev) (k : Nat) (v : Bool) : Only foot17 d (Dev.tbRuns d k v) := by
  unfold Dev.tbRuns
  repeat' first
    | with_reducible exact Only.refl
    | with_reducible apply Foot.Sub.mk; decide +kernel
    | with_reducible apply Only.ite
    | with_reducible apply Only.step (Dev.setTime_only ..)

theorem Dev.setClk_only (d : Dev) (f : ClockSt → ClockSt) : Only foot56 d (Dev.setClk d f) := by
  have h_clk : Part.In .clk foot56 := ⟨by decide +kernel⟩
  unfold Dev.setClk
  repeat' first
    | with_reducible exact Only.refl
    | simp only [Only.set_clk_eq h_clk]

theorem Dev.islandsRun_only (d : Dev) (k : Nat) (v : Bool) : Only foot57 d (Dev.islandsRun d k v) := by
  unfold Dev.islandsRun
  repeat' first
    | with_reducible exact Only.refl
    | with_reducible apply Foot.Sub.mk; decide +kernel
    | with_reducible apply Only.ite
    | with_reducible apply Only.step (Dev.setClk_only ..)
    | with_reducible apply Only.step (Dev.tbRuns_only ..)

theorem Dev.setDom_only (d : Dev) (k : Nat) (f : ClkDom → ClkDom) : Only foot56 d (Dev.setDom d k f) := by
  unfold Dev.setDom
  repeat' first
    | with_reducible exact Only.refl
    | with_reducible apply Foot.Sub.mk; decide +kernel
    | with_reducible apply Only.step (Dev.setClk_only ..)

theorem Dev.domStarts_only (d : Dev) (k : Nat) : Only foot58 d (Dev.domStarts d k) := by
  unfold Dev.domStarts
  repeat' first
    | with_reducible exact Only.refl
    | with_reducible apply Foot.Sub.mk; decide +kernel
    | with_reducible apply Only.put (has_Dom_SOURCE ..)
    | with_reducible apply Only.step (Dev.islandsRun_only ..)
    | with_reducible apply Only.step (Dev.setDom_only ..)
    | dsimp only
    | split

theorem Dev.pllsStart_only (d : Dev) : Only foot58 d (Dev.pllsStart d) := by
  unfold Dev.pllsStart
  repeat' first
    | with_reducible exact Only.refl
    | with_reducible apply Foot.Sub.mk; decide +kernel
    | with_reducible apply Only.ite
    | with_reducible apply Only.foldl
    | with_reducible apply Only.put (has_Dom_SOURCE ..)
    | with_reducible apply Only.step (Dev.domStarts_only ..)
    | with_reducible apply Only.step (Dev.islandsRun_only ..)
    | with_reducible intro _

theorem Dev.sleepEvent_only (d : Dev) (code : Nat) (data : Nat) : Only foot26 d (Dev.sleepEvent d code data) := by
  unfold Dev.sleepEvent
  repeat' first
    | with_reducible exact Only.refl
    | with_reducible apply Foot.Sub.mk; decide +kernel
    | with_reducible apply Only.step (Dev.eventSys_only ..)

theorem Dev.windowOpens_only (d : Dev) (s : Nat) : Only foot59 d (Dev.windowOpens d s) := by
  unfold Dev.windowOpens
  repeat' first
    | with_reducible exact Only.refl
    | with_reducible apply Foot.Sub.mk; decide +kernel
    | with_reducible apply Only.setFldBit (has_Slpr_FW_PENDING ..)
    | with_reducible apply Only.step (Dev.setSleep_only ..)

theorem Dev.driveXtxdis_only (d : Dev) (p : Nat) : Only foot16 d (Dev.driveXtxdis d p) := by
  unfold Dev.driveXtxdis
  repeat' first
    | with_reducible exact Only.refl
    | with_reducible apply Only.ite
    | with_reducible apply Only.emit

theorem Dev.wakeWindow_only (d : Dev) (n : Nat) : Only foot59 d (Dev.wakeWindow d n) := by
  unfold Dev.wakeWindow
  repeat' first
    | with_reducible exact Only.refl
    | with_reducible apply Foot.Sub.mk; decide +kernel
    | with_reducible apply Only.ite
    | with_reducible apply Only.step (Dev.setSleep_only ..)
    | with_reducible apply Only.step (Dev.windowOpens_only ..)

theorem Dev.integrate_only (d : Dev) (n : Nat) : Only foot60 d (Dev.integrate d n) := by
  unfold Dev.integrate
  repeat' first
    | with_reducible exact Only.refl
    | with_reducible apply Foot.Sub.mk; decide +kernel
    | with_reducible apply Only.ite
    | with_reducible apply Only.setFld (has_Ch_BUS ..)

theorem Dev.clockEvent_only (d : Dev) (inst : Nat) (code : Nat) (data : Nat) : Only foot26 d (Dev.clockEvent d inst code data) := by
  unfold Dev.clockEvent
  repeat' first
    | with_reducible exact Only.refl
    | with_reducible apply Foot.Sub.mk; decide +kernel
    | with_reducible apply Only.step (Dev.eventSys_only ..)

theorem Dev.sscSet_only (d : Dev) (on : Bool) : Only foot61 d (Dev.sscSet d on) := by
  unfold Dev.sscSet
  repeat' first
    | with_reducible exact Only.refl
    | with_reducible apply Foot.Sub.mk; decide +kernel
    | with_reducible apply Only.ite
    | with_reducible apply Only.put (has_Clk_SSC_ACTIVE ..)
    | with_reducible apply Only.step (Dev.clockEvent_only ..)

theorem Dev.sscEnds_only (d : Dev) : Only foot62 d (Dev.sscEnds d) := by
  unfold Dev.sscEnds
  repeat' first
    | with_reducible exact Only.refl
    | with_reducible apply Foot.Sub.mk; decide +kernel
    | with_reducible apply Only.ite
    | with_reducible apply Only.step (Dev.setClk_only ..)
    | with_reducible apply Only.step (Dev.sscSet_only ..)

theorem Dev.canEnabled_only (d : Dev) (n : Nat) : Only foot63 d (Dev.canEnabled d n) := by
  unfold Dev.canEnabled
  repeat' first
    | with_reducible exact Only.refl
    | with_reducible apply Foot.Sub.mk; decide +kernel
    | with_reducible apply Only.step (Dev.integrate_only ..)
    | with_reducible apply Only.step (Dev.setCan_only ..)
    | with_reducible apply Only.step (Dev.sscEnds_only ..)

theorem Dev.setBr_only (d : Dev) (f : Bridge → Bridge) : Only foot64 d (Dev.setBr d f) := by
  have h_br : Part.In .br foot64 := ⟨by decide +kernel⟩
  unfold Dev.setBr
  repeat' first
    | with_reducible exact Only.refl
    | simp only [Only.set_br_eq h_br]

theorem Dev.setBrSess_only (d : Dev) (u : Nat) (sid : Nat) (f : BSess → BSess) : Only foot64 d (Dev.setBrSess d u sid f) := by
  unfold Dev.setBrSess
  repeat' first
    | with_reducible exact Only.refl
    | with_reducible apply Foot.Sub.mk; decide +kernel
    | with_reducible apply Only.step (Dev.setBr_only ..)

theorem Only.ctxCount {F : Foot} {a b : Dev} {u sid i n : Nat} (hi : Lit (Nat.blt i 5)) (hf : Foot.Sub foot65 F) (h : Only F a b) : Only F a (b.ctxCount u sid i n) := by
  have e : Only foot65 b (b.ctxCount u sid i n) := by
    unfold Dev.ctxCount
    split
    · refine Only.count ⟨?_, ⟨_, List.mem_of_getElem? (i := 5) rfl, bctx u sid, 0, 0, ?_⟩⟩ (fs := [ent1 Ent.Bctx.READS, ent1 Ent.Bctx.POSTED, ent1 Ent.Bctx.FAILURES, ent1 Ent.Bctx.TIMEOUTS, ent1 Ent.Bctx.RETRANSMITS, ent1 Ent.Bctx.COUNTER_SAT]) ⟨by decide +kernel⟩ ⟨by decide +kernel⟩ Only.refl
      · have := hi.holds
        rcases i with _ | _ | _ | _ | _ | i
        · exact ⟨_, List.mem_of_getElem? (i := 0) rfl, bctx u sid, 0, 0, by simp only [ent1, Entry.key, bctxCounter, Ent.Bctx.READS]; omega⟩
        · exact ⟨_, List.mem_of_getElem? (i := 1) rfl, bctx u sid, 0, 0, by simp only [ent1, Entry.key, bctxCounter, Ent.Bctx.READS, Ent.Bctx.POSTED]; omega⟩
        · exact ⟨_, List.mem_of_getElem? (i := 2) rfl, bctx u sid, 0, 0, by simp only [ent1, Entry.key, bctxCounter, Ent.Bctx.READS, Ent.Bctx.FAILURES]; omega⟩
        · exact ⟨_, List.mem_of_getElem? (i := 3) rfl, bctx u sid, 0, 0, by simp only [ent1, Entry.key, bctxCounter, Ent.Bctx.READS, Ent.Bctx.TIMEOUTS]; omega⟩
        · exact ⟨_, List.mem_of_getElem? (i := 4) rfl, bctx u sid, 0, 0, by simp only [ent1, Entry.key, bctxCounter, Ent.Bctx.READS, Ent.Bctx.RETRANSMITS]; omega⟩
        · simp at this; omega
      · simp only [ent1, Entry.key, bctxCounter, Ent.Bctx.COUNTER_SAT]; omega
    · exact Only.refl
  exact e.step hf h

theorem Dev.setServe_only (d : Dev) (k : Nat) (f : BServe → BServe) : Only foot64 d (Dev.setServe d k f) := by
  unfold Dev.setServe
  repeat' first
    | with_reducible exact Only.refl
    | with_reducible apply Foot.Sub.mk; decide +kernel
    | with_reducible apply Only.step (Dev.setBr_only ..)
    | split

theorem Dev.unitFrame_only (d : Dev) (u : Nat) (mac : Nat) (etype : Nat) (b : Bytes) : Only foot16 d (Dev.unitFrame d u mac etype b) := by
  unfold Dev.unitFrame
  repeat' first
    | with_reducible exact Only.refl
    | with_reducible apply Only.emit

theorem Dev.bridgeSend_only (d : Dev) (u : Nat) (mac : Nat) (b : Bytes) : Only foot16 d (Dev.bridgeSend d u mac b) := by
  unfold Dev.bridgeSend
  repeat' first
    | with_reducible exact Only.refl
    | with_reducible apply Foot.Sub.mk; decide +kernel
    | with_reducible apply Only.ite
    | with_reducible apply Only.step (Dev.unitFrame_only ..)

theorem Dev.sendAck_only (d : Dev) (k : Nat) (req : Option Nat) : Only foot66 d (Dev.sendAck d k req) := by
  unfold Dev.sendAck
  repeat' first
    | with_reducible exact Only.refl
    | with_reducible apply Foot.Sub.mk; decide +kernel
    | with_reducible apply Only.step (Dev.bridgeSend_only ..)
    | with_reducible apply Only.step (Dev.draw_only ..)
    | with_reducible apply Only.step (Dev.setServe_only ..)
    | dsimp only
    | split

theorem Dev.postedDone_only (d : Dev) (k : Nat) (m : BMsg) (failed : Bool) : Only foot66 d (Dev.postedDone d k m failed) := by
  unfold Dev.postedDone
  repeat' first
    | with_reducible exact Only.refl
    | with_reducible apply Foot.Sub.mk; decide +kernel
    | with_reducible apply Only.ite
    | with_reducible apply Only.step (Dev.sendAck_only ..)
    | with_reducible apply Only.step (Dev.setServe_only ..)
    | dsimp only
    | split

theorem Dev.serveAnswer_only (d : Dev) (k : Nat) (m : BMsg) (status : Status) (data : Bytes) : Only foot64 d (Dev.serveAnswer d k m status data) := by
  unfold Dev.serveAnswer
  repeat' first
    | with_reducible exact Only.refl
    | with_reducible apply Foot.Sub.mk; decide +kernel
    | with_reducible apply Only.step (Dev.bridgeSend_only ..)
    | with_reducible apply Only.step (Dev.setServe_only ..)
    | dsimp only
    | split

theorem Dev.servedDone_only (d : Dev) (k : Nat) (s : Status) (v : Nat) : Only foot66 d (Dev.servedDone d k s v) := by
  unfold Dev.servedDone
  repeat' first
    | with_reducible exact Only.refl
    | with_reducible apply Foot.Sub.mk; decide +kernel
    | with_reducible apply Only.ite
    | with_reducible apply Only.step (Dev.postedDone_only ..)
    | with_reducible apply Only.step (Dev.serveAnswer_only ..)
    | split

theorem Dev.setHart_only (d : Dev) (k : Nat) (f : Hart → Hart) : Only foot67 d (Dev.setHart d k f) := by
  have h_harts : Part.In .harts foot67 := ⟨by decide +kernel⟩
  unfold Dev.setHart
  repeat' first
    | with_reducible exact Only.refl
    | simp only [Only.set_harts_eq h_harts]

theorem Dev.accessFault_only (d : Dev) (i : Initiator) (hall : Nat) (s : Status) : Only foot67 d (Dev.accessFault d i hall s) := by
  unfold Dev.accessFault
  repeat' first
    | with_reducible exact Only.refl
    | with_reducible apply Foot.Sub.mk; decide +kernel
    | with_reducible apply Only.ite
    | with_reducible apply Only.emit
    | with_reducible apply Only.step (Dev.setHart_only ..)
    | dsimp only
    | split

theorem Dev.answered_only (d : Dev) (id : Nat) (hall : Nat) (addr : Nat) (s : Status) (v : Nat) (b : Bytes) : Only foot68 d (Dev.answered d id hall addr s v b) := by
  unfold Dev.answered
  repeat' first
    | with_reducible exact Only.refl
    | with_reducible apply Foot.Sub.mk; decide +kernel
    | with_reducible apply Only.ite
    | with_reducible apply Only.emit
    | with_reducible apply Only.step (Dev.accessFault_only ..)
    | with_reducible apply Only.step (Dev.setCh_only ..)
    | dsimp only
    | split

theorem Dev.completeReq_only (d : Dev) (r : BReq) (s : Status) (v : Nat) : Only foot69 d (Dev.completeReq d r s v) := by
  unfold Dev.completeReq
  repeat' first
    | with_reducible exact Only.refl
    | with_reducible apply Foot.Sub.mk; decide +kernel
    | with_reducible apply Only.ite
    | with_reducible apply Only.step (Dev.answered_only ..)
    | with_reducible apply Only.step (Dev.servedDone_only ..)
    | split

theorem Dev.ctxIrq_only (d : Dev) (u : Nat) (k : Nat) (i : Nat) : Only foot70 d (Dev.ctxIrq d u k i) := by
  unfold Dev.ctxIrq
  repeat' first
    | with_reducible exact Only.refl
    | with_reducible apply Foot.Sub.mk; decide +kernel
    | with_reducible apply Only.setFldBit (has_Ctx_IRQ ..)

theorem Dev.bstFail_only (d : Dev) (u : Nat) (k : Nat) (code : Nat) (far : Nat) (addr : Nat) : Only foot71 d (Dev.bstFail d u k code far addr) := by
  unfold Dev.bstFail
  repeat' first
    | with_reducible exact Only.refl
    | with_reducible apply Foot.Sub.mk; decide +kernel
    | with_reducible apply Only.ite
    | with_reducible apply Only.setFld (has_Ctx_BST_ADDR_HI ..)
    | with_reducible apply Only.setFld (has_Ctx_BST_ADDR_LO ..)
    | with_reducible apply Only.setFld (has_Ctx_CODE_8 ..)
    | with_reducible apply Only.setFld (has_Ctx_FAILED ..)
    | with_reducible apply Only.setFld (has_Ctx_FAR_CODE ..)
    | with_reducible apply Only.setFld (has_Ctx_MULTI ..)
    | with_reducible apply Only.step (Dev.ctxIrq_only ..)

theorem Dev.setBrCtx_only (d : Dev) (u : Nat) (k : Nat) (f : BCtx → BCtx) : Only foot64 d (Dev.setBrCtx d u k f) := by
  unfold Dev.setBrCtx
  repeat' first
    | with_reducible exact Only.refl
    | with_reducible apply Foot.Sub.mk; decide +kernel
    | with_reducible apply Only.step (Dev.setBr_only ..)

theorem Dev.postedFail_only (d : Dev) (source : Nat) (hall : Nat) (epoch : Nat) (seq : Nat) (addr : Nat) (status : Nat) : Only foot42 d (Dev.postedFail d source hall epoch seq addr status) := by
  unfold Dev.postedFail
  repeat' first
    | with_reducible exact Only.refl
    | with_reducible apply Foot.Sub.mk; decide +kernel
    | with_reducible apply Only.step (Dev.eventRing_only ..)

theorem Dev.queryDone_only (d : Dev) (s : Status) (v : Nat) : Only foot13 d (Dev.queryDone d s v) := by
  have h_twin : Part.In .twin foot13 := ⟨by decide +kernel⟩
  unfold Dev.queryDone
  repeat' first
    | with_reducible exact Only.refl
    | with_reducible apply Only.emit
    | simp only [Only.set_twin_eq h_twin]

theorem Only.setMbBytes {F : Foot} {a b : Dev} {fs : List Fam} {w : Nat → Field} {l : Bytes} (hk : ∀ i, hasKey fs (w i).addr) (hf : Foot.Sub ⟨[], [], fs⟩ F) (h : Only F a b) : Only F a (b.setMbBytes w l) :=
  Only.foldl (fun _ i => Only.setFld (hk i) hf Only.refl) h

theorem Dev.remoteMbDone_only (d : Dev) (u : Nat) (k : Nat) (s : Status) (far : Option Nat) (data : Option (Nat × Bytes)) : Only foot72 d (Dev.remoteMbDone d u k s far data) := by
  unfold Dev.remoteMbDone
  repeat' first
    | with_reducible exact Only.refl
    | with_reducible apply Foot.Sub.mk; decide +kernel
    | with_reducible apply Only.setFld (has_Ctx_FAR_CODE ..)
    | with_reducible apply Only.setFld (has_rmb_MB_LEN ..)
    | with_reducible apply Only.setFld (has_rmb_MB_TOTAL ..)
    | with_reducible apply Only.setFld (has_rmb_CODE ..)
    | with_reducible apply Only.setFld (has_rmb_BUSY ..)
    | with_reducible apply Only.setFld (has_rmb_DONE ..)
    | with_reducible apply Only.setMbBytes (fun i => has_rmb_MB_DATA _ _ i)
    | split

theorem Dev.pollFailed_only (d : Dev) (u : Nat) (e : Nat) (s : Status) (far : Nat) : Only foot73 d (Dev.pollFailed d u e s far) := by
  unfold Dev.pollFailed
  repeat' first
    | with_reducible exact Only.refl
    | with_reducible apply Foot.Sub.mk; decide +kernel
    | with_reducible apply Only.setFld (has_Ep_CODE ..)
    | with_reducible apply Only.setFld (has_Ep_POLL_FAIL ..)
    | with_reducible apply Only.step (Dev.event_only ..)
    | with_reducible apply Only.step (Dev.eventRing_only ..)
    | with_reducible apply Only.limited
    | with_reducible intro _

theorem Dev.settleFail_only (d : Dev) (u : Nat) (sid : Nat) (r : BReq) (s : Status) (far : Nat) : Only foot74 d (Dev.settleFail d u sid r s far) := by
  unfold Dev.settleFail
  repeat' first
    | with_reducible exact Only.refl
    | with_reducible apply Foot.Sub.mk; decide +kernel
    | with_reducible apply Lit.mk; decide
    | with_reducible apply Only.ite
    | with_reducible apply Only.step (Dev.bstFail_only ..)
    | with_reducible apply Only.step (Dev.completeReq_only ..)
    | with_reducible apply Only.ctxCount
    | with_reducible apply Only.step (Dev.pollFailed_only ..)
    | with_reducible apply Only.step (Dev.postedFail_only ..)
    | with_reducible apply Only.step (Dev.queryDone_only ..)
    | with_reducible apply Only.step (Dev.remoteMbDone_only ..)
    | with_reducible apply Only.step (Dev.setBrCtx_only ..)
    | dsimp only
    | split

theorem Dev.showSession_only (d : Dev) (u : Nat) (sid : Nat) : Only foot75 d (Dev.showSession d u sid) := by
  unfold Dev.showSession
  repeat' first
    | with_reducible exact Only.refl
    | with_reducible apply Foot.Sub.mk; decide +kernel
    | with_reducible apply Only.ite
    | with_reducible apply Only.put (has_Bctx_SESSION ..)
    | with_reducible apply Only.setFld (has_Ctx_SESSION ..)

theorem Dev.sessSend_only (d : Dev) (u : Nat) (sid : Nat) (b : Bytes) : Only foot28 d (Dev.sessSend d u sid b) := by
  unfold Dev.sessSend
  repeat' first
    | with_reducible exact Only.refl
    | with_reducible apply Foot.Sub.mk; decide +kernel
    | with_reducible apply Only.ite
    | with_reducible apply Only.step (Dev.bridgeSend_only ..)
    | with_reducible apply Only.step (Dev.draw_only ..)

theorem Dev.bridgeConnect_only (d : Dev) (u : Nat) (sid : Nat) : Only foot76 d (Dev.bridgeConnect d u sid) := by
  unfold Dev.bridgeConnect
  repeat' first
    | with_reducible exact Only.refl
    | with_reducible apply Foot.Sub.mk; decide +kernel
    | with_reducible apply Only.foldl
    | with_reducible apply Only.step (Dev.draw_only ..)
    | with_reducible apply Only.step (Dev.sessSend_only ..)
    | with_reducible apply Only.step (Dev.setBrSess_only ..)
    | with_reducible apply Only.step (Dev.settleFail_only ..)
    | with_reducible apply Only.step (Dev.showSession_only ..)
    | with_reducible intro _
    | dsimp only
    | split

theorem Dev.bctxEnabled_only (d : Dev) (u : Nat) (k : Nat) : Only foot76 d (Dev.bctxEnabled d u k) := by
  unfold Dev.bctxEnabled
  repeat' first
    | with_reducible exact Only.refl
    | with_reducible apply Foot.Sub.mk; decide +kernel
    | with_reducible apply Only.step (Dev.bridgeConnect_only ..)

theorem Dev.dmaEnabled_only (d : Dev) (c : Nat) : Only foot77 d (Dev.dmaEnabled d c) := by
  unfold Dev.dmaEnabled
  repeat' first
    | with_reducible exact Only.refl
    | with_reducible apply Foot.Sub.mk; decide +kernel
    | with_reducible apply Only.setFld (has_Dmar_STOPPED ..)
    | with_reducible apply Only.step (Dev.setCh_only ..)

theorem Dev.unitEnabled_only (d : Dev) (x0 : UnitId) : Only foot78 d (Dev.unitEnabled d x0) := by
  unfold Dev.unitEnabled
  repeat' first
    | with_reducible exact Only.refl
    | with_reducible apply Foot.Sub.mk; decide +kernel
    | with_reducible apply Only.step (Dev.bctxEnabled_only ..)
    | with_reducible apply Only.step (Dev.canEnabled_only ..)
    | with_reducible apply Only.step (Dev.dmaEnabled_only ..)
    | with_reducible apply Only.step (Dev.driveXtxdis_only ..)
    | with_reducible apply Only.step (Dev.wakeWindow_only ..)
    | split

theorem Dev.entryAborts_only (d : Dev) (seen : Nat) : Only foot79 d (Dev.entryAborts d seen) := by
  have h_drains : Part.In .drains foot79 := ⟨by decide +kernel⟩
  unfold Dev.entryAborts
  repeat' first
    | with_reducible exact Only.refl
    | with_reducible apply Foot.Sub.mk; decide +kernel
    | with_reducible apply Only.ite
    | with_reducible apply Only.foldl
    | with_reducible apply Only.put (has_Slp_ENTRY ..)
    | with_reducible apply Only.put (has_Slp_POWER_REQ ..)
    | with_reducible apply Only.count (has_sleepCounter_1 ..)
    | with_reducible apply Only.put (has_unitStateEntry ..)
    | with_reducible apply Only.count (has_wakeCounter_0 ..)
    | with_reducible apply Only.step (Dev.enterDomain_only ..)
    | with_reducible apply Only.step (Dev.pllsStart_only ..)
    | with_reducible apply Only.step (Dev.setClk_only ..)
    | with_reducible apply Only.step (Dev.setDomain_only ..)
    | with_reducible apply Only.step (Dev.setSleep_only ..)
    | with_reducible apply Only.step (Dev.sleepEvent_only ..)
    | with_reducible apply Only.step (Dev.unitEnabled_only ..)
    | with_reducible apply Only.step (Dev.windowOpens_only ..)
    | with_reducible intro _
    | simp only [Only.set_drains_eq h_drains]

theorem Dev.refreshEntry_only (d : Dev) : Only foot80 d (Dev.refreshEntry d) := by
  unfold Dev.refreshEntry
  repeat' first
    | with_reducible exact Only.refl
    | with_reducible apply Foot.Sub.mk; decide +kernel
    | with_reducible apply Only.ite
    | with_reducible apply Only.put (has_Slp_ENTRY ..)

theorem Dev.trxUp_only (d : Dev) (n : Nat) (st : Nat) : Only foot79 d (Dev.trxUp d n st) := by
  unfold Dev.trxUp
  repeat' first
    | with_reducible exact Only.refl
    | with_reducible apply Foot.Sub.mk; decide +kernel
    | with_reducible apply Only.ite
    | with_reducible apply Only.step (Dev.entryAborts_only ..)
    | with_reducible apply Only.step (Dev.refreshEntry_only ..)
    | with_reducible apply Only.step (Dev.setTrx_only ..)

theorem trxCmdNormalOp_only (n : Nat) (d : Dev) : Only Foot.trxCmdNormal d (trxCmdNormalOp n d) := by
  unfold trxCmdNormalOp
  repeat' first
    | with_reducible exact Only.refl
    | with_reducible apply Foot.Sub.mk; decide +kernel
    | with_reducible apply Only.answer
    | with_reducible apply Only.step (Dev.trxUp_only ..)

theorem trxCmdRxOnlyOp_only (n : Nat) (d : Dev) : Only Foot.trxCmdRxOnly d (trxCmdRxOnlyOp n d) := by
  unfold trxCmdRxOnlyOp
  repeat' first
    | with_reducible exact Only.refl
    | with_reducible apply Foot.Sub.mk; decide +kernel
    | with_reducible apply Only.answer
    | with_reducible apply Only.step (Dev.trxUp_only ..)

theorem trxCmdStandbyOp_only (n : Nat) (d : Dev) : Only Foot.trxCmdStandby d (trxCmdStandbyOp n d) := by
  unfold trxCmdStandbyOp
  repeat' first
    | with_reducible exact Only.refl
    | with_reducible apply Foot.Sub.mk; decide +kernel
    | with_reducible apply Only.ite
    | with_reducible apply Only.answer
    | with_reducible apply Only.step (Dev.refreshEntry_only ..)
    | with_reducible apply Only.step (Dev.setTrx_only ..)

theorem trxCmdGoToSleepOp_only (n : Nat) (d : Dev) : Only Foot.trxCmdGoToSleep d (trxCmdGoToSleepOp n d) := by
  unfold trxCmdGoToSleepOp
  repeat' first
    | with_reducible exact Only.refl
    | with_reducible apply Foot.Sub.mk; decide +kernel
    | with_reducible apply Only.ite
    | with_reducible apply Only.answer
    | with_reducible apply Only.step (Dev.refreshEntry_only ..)
    | with_reducible apply Only.step (Dev.setTrx_only ..)

theorem Dev.trxWrite_only (d : Dev) (n : Nat) (a : Nat) (v : Nat) (m : Nat) : Only foot81 d (Dev.trxWrite d n a v m) := by
  unfold Dev.trxWrite
  repeat' first
    | with_reducible exact Only.refl
    | with_reducible apply Foot.Sub.mk; decide +kernel
    | with_reducible apply Only.ite
    | with_reducible apply Only.answer
    | with_reducible apply Only.step (Dev.plainWrite_only ..)
    | with_reducible apply Only.step (trxCmdGoToSleepOp_only ..)
    | with_reducible apply Only.step (trxCmdNormalOp_only ..)
    | with_reducible apply Only.step (trxCmdRxOnlyOp_only ..)
    | with_reducible apply Only.step (trxCmdStandbyOp_only ..)

theorem Dev.rslotClear_only (d : Dev) (u : Nat) (k : Nat) : Only foot82 d (Dev.rslotClear d u k) := by
  unfold Dev.rslotClear
  repeat' first
    | with_reducible exact Only.refl
    | with_reducible apply Foot.Sub.mk; decide +kernel
    | with_reducible apply Only.setFld (has_Ctx_VALID ..)

theorem Dev.ctxRefused_only (d : Dev) (u : Nat) (k : Nat) (s : Status) : Only foot83 d (Dev.ctxRefused d u k s) := by
  unfold Dev.ctxRefused
  repeat' first
    | with_reducible exact Only.refl
    | with_reducible apply Foot.Sub.mk; decide +kernel
    | with_reducible apply Only.ite
    | with_reducible apply Only.setFld (has_Ctx_CODE ..)
    | with_reducible apply Only.setFld (has_Ctx_DONE ..)
    | with_reducible apply Only.step (Dev.staleReject_only ..)

theorem rslotClearOp_only (u : Nat) (k : Nat) (hall : Nat) (v : Nat) (d : Dev) : Only Foot.rslotClear d (rslotClearOp u k hall v d) := by
  unfold rslotClearOp
  repeat' first
    | with_reducible exact Only.refl
    | with_reducible apply Foot.Sub.mk; decide +kernel
    | with_reducible apply Only.ite
    | with_reducible apply Only.answer
    | with_reducible apply Only.setFld (has_Ctx_CODE ..)
    | with_reducible apply Only.setFld (has_Ctx_EPOCH ..)
    | with_reducible apply Only.setFld (has_Ctx_EPV ..)
    | with_reducible apply Only.step (Dev.ctxRefused_only ..)
    | with_reducible apply Only.step (Dev.rslotClear_only ..)

theorem Dev.fenceStart_only (d : Dev) (u : Nat) (k : Nat) (hall : Nat) (v : Nat) : Only foot84 d (Dev.fenceStart d u k hall v) := by
  unfold Dev.fenceStart
  repeat' first
    | with_reducible exact Only.refl
    | with_reducible apply Foot.Sub.mk; decide +kernel
    | with_reducible apply Only.ite
    | with_reducible apply Only.answer
    | with_reducible apply Only.setFld (has_Ctx_BUSY ..)
    | with_reducible apply Only.setFld (has_Ctx_EPOCH ..)
    | with_reducible apply Only.setFld (has_Ctx_EPV ..)
    | with_reducible apply Only.setFld (has_Ctx_OVERRUN ..)
    | with_reducible apply Only.step (Dev.ctxRefused_only ..)
    | with_reducible apply Only.step (Dev.setBrCtx_only ..)
    | split

theorem fenceOp_only (u : Nat) (k : Nat) (hall : Nat) (v : Nat) (d : Dev) : Only Foot.fence d (fenceOp u k hall v d) := by
  unfold fenceOp
  repeat' first
    | with_reducible exact Only.refl
    | with_reducible apply Foot.Sub.mk; decide +kernel
    | with_reducible apply Only.ite
    | with_reducible apply Only.step (Dev.fenceStart_only ..)

theorem Dev.ctxWrite_only (d : Dev) (u : Nat) (k : Nat) (hall : Nat) (a : Nat) (v : Nat) (m : Nat) : Only foot85 d (Dev.ctxWrite d u k hall a v m) := by
  unfold Dev.ctxWrite
  repeat' first
    | with_reducible exact Only.refl
    | with_reducible apply Foot.Sub.mk; decide +kernel
    | with_reducible apply Only.ite
    | with_reducible apply Only.answer
    | with_reducible apply Only.step (Dev.plainWrite_only ..)
    | with_reducible apply Only.step (fenceOp_only ..)
    | with_reducible apply Only.step (rslotClearOp_only ..)

theorem Dev.takePwSeq_only (d : Dev) (u : Nat) (k : Nat) : Only foot86 d (Dev.takePwSeq d u k).2 := by
  unfold Dev.takePwSeq
  repeat' first
    | with_reducible exact Only.refl
    | with_reducible apply Foot.Sub.mk; decide +kernel
    | with_reducible apply Only.setFld (has_Ctx_PW_SEQ ..)

theorem Dev.transmit_only (d : Dev) (u : Nat) (sid : Nat) (r : BReq) : Only foot28 d (Dev.transmit d u sid r) := by
  unfold Dev.transmit
  repeat' first
    | with_reducible exact Only.refl
    | with_reducible apply Foot.Sub.mk; decide +kernel
    | with_reducible apply Only.step (Dev.sessSend_only ..)

theorem Dev.issueWaiting_only (d : Dev) (u : Nat) (sid : Nat) (x0 : Nat) : Only foot66 d (Dev.issueWaiting d u sid x0) := by
  fun_induction Dev.issueWaiting d u sid x0
  all_goals repeat' first
    | with_reducible exact Only.refl
    | with_reducible apply Foot.Sub.mk; decide +kernel
    | with_reducible refine Only.trans (by assumption) ?_
    | with_reducible apply Only.step (Dev.setBrSess_only ..)
    | with_reducible apply Only.step (Dev.transmit_only ..)

theorem Dev.refreshPwDone_only (d : Dev) (u : Nat) (k : Nat) : Only foot87 d (Dev.refreshPwDone d u k) := by
  unfold Dev.refreshPwDone
  repeat' first
    | with_reducible exact Only.refl
    | with_reducible apply Foot.Sub.mk; decide +kernel
    | with_reducible apply Only.setFld (has_Ctx_PW_DONE ..)
    | dsimp only
    | split

theorem Dev.pump_only (d : Dev) (u : Nat) (sid : Nat) : Only foot88 d (Dev.pump d u sid) := by
  unfold Dev.pump
  repeat' first
    | with_reducible exact Only.refl
    | with_reducible apply Foot.Sub.mk; decide +kernel
    | with_reducible apply Only.ite
    | with_reducible apply Only.step (Dev.bridgeConnect_only ..)
    | with_reducible apply Only.step (Dev.issueWaiting_only ..)
    | with_reducible apply Only.step (Dev.refreshPwDone_only ..)

theorem Dev.queueReq_only (d : Dev) (u : Nat) (sid : Nat) (r : BReq) : Only foot88 d (Dev.queueReq d u sid r) := by
  unfold Dev.queueReq
  repeat' first
    | with_reducible exact Only.refl
    | with_reducible apply Foot.Sub.mk; decide +kernel
    | with_reducible apply Only.step (Dev.pump_only ..)
    | with_reducible apply Only.step (Dev.setBrSess_only ..)

theorem Dev.queueEvent_only (d : Dev) (u : Nat) (k : Nat) (bitsV : Nat) : Only foot89 d (Dev.queueEvent d u k bitsV) := by
  unfold Dev.queueEvent
  repeat' first
    | with_reducible exact Only.refl
    | with_reducible apply Foot.Sub.mk; decide +kernel
    | with_reducible apply Lit.mk; decide
    | with_reducible apply Only.ite
    | with_reducible apply Only.ctxCount
    | with_reducible apply Only.step (Dev.queueReq_only ..)
    | with_reducible apply Only.step (Dev.takePwSeq_only ..)

theorem sidebandOutWriteOp_only (u : Nat) (k : Nat) (hall : Nat) (v : Nat) (d : Dev) : Only Foot.sidebandOutWrite d (sidebandOutWriteOp u k hall v d) := by
  unfold sidebandOutWriteOp
  repeat' first
    | with_reducible exact Only.refl
    | with_reducible apply Foot.Sub.mk; decide +kernel
    | with_reducible apply Only.ite
    | with_reducible apply Only.answer
    | with_reducible apply Only.setFld (has_Ctx_SIDEBAND_OUT ..)
    | with_reducible apply Only.step (Dev.queueEvent_only ..)

theorem evtSendOp_only (u : Nat) (k : Nat) (hall : Nat) (v : Nat) (d : Dev) : Only Foot.evtSend d (evtSendOp u k hall v d) := by
  unfold evtSendOp
  repeat' first
    | with_reducible exact Only.refl
    | with_reducible apply Foot.Sub.mk; decide +kernel
    | with_reducible apply Only.ite
    | with_reducible apply Only.foldl
    | with_reducible apply Only.answer
    | with_reducible apply Only.step (Dev.queueEvent_only ..)
    | with_reducible apply Only.step (Dev.setBrCtx_only ..)
    | with_reducible intro _

theorem remoteMbGoOp_only (u : Nat) (k : Nat) (hall : Nat) (v : Nat) (d : Dev) : Only Foot.remoteMbGo d (remoteMbGoOp u k hall v d) := by
  unfold remoteMbGoOp
  repeat' first
    | with_reducible exact Only.refl
    | with_reducible apply Foot.Sub.mk; decide +kernel
    | with_reducible apply Only.ite
    | with_reducible apply Only.answer
    | with_reducible apply Only.setFld (has_rmb_BUSY ..)
    | with_reducible apply Only.setFld (has_rmb_OVERRUN ..)
    | with_reducible apply Only.putWord (has_rmb_GO ..)
    | with_reducible apply Only.step (Dev.queueReq_only ..)
    | with_reducible apply Only.step (Dev.remoteMbDone_only ..)
    | dsimp only
    | split

theorem Dev.handoverSeek_only (d : Dev) : Only foot30 d (Dev.handoverSeek d) := by
  unfold Dev.handoverSeek
  repeat' first
    | with_reducible exact Only.refl
    | with_reducible apply Foot.Sub.mk; decide +kernel
    | with_reducible apply Only.ite
    | with_reducible apply Only.step (Dev.ctrl_only ..)
    | with_reducible apply Only.step (Dev.setTwin_only ..)
    | dsimp only
    | split

theorem Dev.setTwinRun_only (d : Dev) (t : Nat) (f : TwinRun → TwinRun) : Only foot13 d (Dev.setTwinRun d t f) := by
  unfold Dev.setTwinRun
  repeat' first
    | with_reducible exact Only.refl
    | with_reducible apply Foot.Sub.mk; decide +kernel
    | with_reducible apply Only.step (Dev.setTwin_only ..)

theorem Dev.startReplica_only (d : Dev) (t : Nat) : Only foot90 d (Dev.startReplica d t) := by
  unfold Dev.startReplica
  repeat' first
    | with_reducible exact Only.refl
    | with_reducible apply Foot.Sub.mk; decide +kernel
    | with_reducible apply Only.ite
    | with_reducible apply Only.foldl
    | with_reducible apply Only.foldl2
    | with_reducible apply Only.step (Dev.countLoss_only ..)
    | with_reducible apply Only.step (Dev.forceInputs_only ..)
    | with_reducible apply Only.step (Dev.makeReady_only ..)
    | with_reducible apply Only.step (Dev.qualityIn_only ..)
    | with_reducible apply Only.step (Dev.setRun_only ..)
    | with_reducible apply Only.step (Dev.setTwinRun_only ..)
    | with_reducible apply Only.step (Dev.slotTaken_only ..)
    | with_reducible apply Only.step (Dev.writeMem_only ..)
    | with_reducible intro _
    | dsimp only
    | split

theorem Dev.twinEvent_only (d : Dev) (code : Nat) (data : Nat) : Only foot91 d (Dev.twinEvent d code data) := by
  unfold Dev.twinEvent
  repeat' first
    | with_reducible exact Only.refl
    | with_reducible apply Foot.Sub.mk; decide +kernel
    | with_reducible apply Only.step (Dev.eventRing_only ..)
    | with_reducible apply Only.step (Dev.eventSys_only ..)

theorem Dev.setRole_only (d : Dev) (r : Nat) : Only foot92 d (Dev.setRole d r) := by
  unfold Dev.setRole
  repeat' first
    | with_reducible exact Only.refl
    | with_reducible apply Foot.Sub.mk; decide +kernel
    | with_reducible apply Only.ite
    | with_reducible apply Only.put (has_Tws_ROLE ..)
    | with_reducible apply Only.step (Dev.twinEvent_only ..)

theorem Dev.detach_only (d : Dev) : Only foot93 d (Dev.detach d) := by
  unfold Dev.detach
  repeat' first
    | with_reducible exact Only.refl
    | with_reducible apply Foot.Sub.mk; decide +kernel
    | with_reducible apply Only.step (Dev.ctrl_only ..)
    | with_reducible apply Only.step (Dev.draw_only ..)
    | with_reducible apply Only.step (Dev.setRole_only ..)
    | with_reducible apply Only.step (Dev.setTwin_only ..)

theorem Dev.compareCrc_only (d : Dev) (t : Nat) : Only foot94 d (Dev.compareCrc d t) := by
  unfold Dev.compareCrc
  repeat' first
    | with_reducible exact Only.refl
    | with_reducible apply Foot.Sub.mk; decide +kernel
    | with_reducible apply Only.ite
    | with_reducible apply Only.count (has_twinCounter_2 ..)
    | with_reducible apply Only.step (Dev.detach_only ..)
    | with_reducible apply Only.limited
    | with_reducible apply Only.step (Dev.setTwinRun_only ..)
    | with_reducible apply Only.step (Dev.twinEvent_only ..)
    | with_reducible intro _
    | dsimp only
    | split

theorem Dev.applyLines_only (d : Dev) : Only foot95 d (Dev.applyLines d) := by
  unfold Dev.applyLines
  repeat' first
    | with_reducible exact Only.refl
    | with_reducible apply Foot.Sub.mk; decide +kernel
    | with_reducible apply Only.foldl
    | with_reducible apply Only.step (Dev.setTwin_only ..)
    | with_reducible apply Only.step (Dev.writeMem_only ..)
    | with_reducible intro _

theorem Dev.ownOutputs_only (d : Dev) (t : Nat) (cycle : Nat) (b : Bytes) : Only foot94 d (Dev.ownOutputs d t cycle b) := by
  unfold Dev.ownOutputs
  repeat' first
    | with_reducible exact Only.refl
    | with_reducible apply Foot.Sub.mk; decide +kernel
    | with_reducible apply Only.ite
    | with_reducible apply Only.step (Dev.applyLines_only ..)
    | with_reducible apply Only.step (Dev.compareCrc_only ..)
    | with_reducible apply Only.step (Dev.setTwinRun_only ..)

theorem Dev.stationSend_only (d : Dev) (r : StnRec) (safe : Bool) (cycle : Nat) (time : Nat) (data : Bytes) : Only foot96 d (Dev.stationSend d r safe cycle time data) := by
  unfold Dev.stationSend
  repeat' first
    | with_reducible exact Only.refl
    | with_reducible apply Foot.Sub.mk; decide +kernel
    | with_reducible apply Only.ite
    | with_reducible apply Only.emit
    | with_reducible apply Only.count (has_slotCounter_3 ..)
    | with_reducible apply Only.step (Dev.setSlot_only ..)

theorem Dev.publishStation_only (d : Dev) (maps : List MapRec) (t : Nat) (r : StnRec) : Only foot97 d (Dev.publishStation d maps t r) := by
  unfold Dev.publishStation
  repeat' first
    | with_reducible exact Only.refl
    | with_reducible apply Foot.Sub.mk; decide +kernel
    | with_reducible apply Only.ite
    | with_reducible apply Only.count (has_slotCounter_4 ..)
    | with_reducible apply Only.step (Dev.setSlot_only ..)
    | with_reducible apply Only.step (Dev.stationSend_only ..)

theorem Dev.sendRetain_only (d : Dev) : Only foot30 d (Dev.sendRetain d) := by
  unfold Dev.sendRetain
  repeat' first
    | with_reducible exact Only.refl
    | with_reducible apply Foot.Sub.mk; decide +kernel
    | with_reducible apply Only.foldl
    | with_reducible apply Only.step (Dev.post_only ..)
    | with_reducible apply Only.step (Dev.setTwin_only ..)
    | with_reducible intro _

theorem Dev.sendStreams_only (d : Dev) : Only foot30 d (Dev.sendStreams d) := by
  unfold Dev.sendStreams
  repeat' first
    | with_reducible exact Only.refl
    | with_reducible apply Foot.Sub.mk; decide +kernel
    | with_reducible apply Only.step (Dev.post_only ..)

theorem Dev.sendOutputs_only (d : Dev) (t : Nat) (cycle : Nat) (b : Bytes) (lowest : Bool) : Only foot30 d (Dev.sendOutputs d t cycle b lowest) := by
  unfold Dev.sendOutputs
  repeat' first
    | with_reducible exact Only.refl
    | with_reducible apply Foot.Sub.mk; decide +kernel
    | with_reducible apply Only.ite
    | with_reducible apply Only.step (Dev.ctrl_only ..)
    | with_reducible apply Only.step (Dev.sendRetain_only ..)
    | with_reducible apply Only.step (Dev.sendStreams_only ..)

end Sys2Proof
end

