-- ==== Sys2Proof/Laws/Frames2.lean ====
section
/-! SUPPORT. What each function on the device may change, part 2 of 6: one lemma per function, in an order in which callees come first. -/

set_option maxRecDepth 4000
set_option Elab.async false

namespace Sys2Proof

open Sys2Proof.Machine

def foot98 : Foot := ⟨[.mem, .logs, .can, .scan, .dma, .tenants], [ent0 Ent.Evlog.LAST_SEQ, ent0 Ent.Evlog.LOG_LOST, ent1 Ent.CanSt.COUNTER_SAT, ent1
  Ent.CanSt.TX_DISCARDED, ent1 Ent.Hall.RING_LOST, ent1 Ent.Stn.COUNTER_SAT, ent1 Ent.Stn.TX_FRAMES, ent1 Ent.Stn.TX_HELD], [word1 Rg.Hpg.RING_HEAD]⟩
def foot99 : Foot := ⟨[], [ent1 Ent.Lc.FLAGS], []⟩
def foot100 : Foot := ⟨[.load], [], []⟩
def foot101 : Foot := ⟨[.load], [ent1 Ent.Lc.FLAGS, ent1 Ent.Lc.STATE], []⟩
def foot102 : Foot := ⟨[], [ent1 Ent.Lc.RETRIES_LEFT], []⟩
def foot103 : Foot := ⟨[.load], [ent1 Ent.Lc.FLAGS, ent1 Ent.Lc.RETRIES_LEFT, ent1 Ent.Lc.STATE], []⟩
def foot104 : Foot := ⟨[.mem, .logs, .load, .dma, .tenants, .clk], [ent0 Ent.Clk.SSC_ACTIVE, ent0 Ent.Evlog.LAST_SEQ, ent0 Ent.Evlog.LOG_LOST, ent1
  Ent.Hall.RING_LOST, ent1 Ent.Lc.FLAGS, ent1 Ent.Lc.RETRIES_LEFT, ent1 Ent.Lc.STATE], [word1 Rg.Hpg.RING_HEAD, word1 Rg.Plat.SYS_IRQ]⟩
def foot105 : Foot := ⟨[.mem, .free, .logs, .limits, .can, .load, .scan, .dma, .tenants, .clk, .twin], [ent0 Ent.Clk.SSC_ACTIVE, ent0
  Ent.Evlog.LAST_SEQ, ent0 Ent.Evlog.LOG_LOST, ent0 Ent.Tws.COUNTER_SAT, ent0 Ent.Tws.OUT_MISMATCHES, ent0 Ent.Tws.ROLE, ent1 Ent.CanSt.COUNTER_SAT,
  ent1 Ent.CanSt.TX_DISCARDED, ent1 Ent.Hall.COUNTER_SAT, ent1 Ent.Hall.RING_LOST, ent1 Ent.Lc.FLAGS, ent1 Ent.Lc.RETRIES_LEFT, ent1 Ent.Lc.STATE,
  ent1 Ent.Port.PORT_SAT, ent1 Ent.Port.TX_BYTES, ent1 Ent.Port.TX_FRAMES, ent1 Ent.Stn.COUNTER_SAT, ent1 Ent.Stn.TX_FRAMES, ent1 Ent.Stn.TX_HELD],
  [word1 Rg.Hpg.RING_EN, word1 Rg.Hpg.RING_HEAD, word1 Rg.Plat.SYS_IRQ]⟩
def foot106 : Foot := ⟨[.d0], [], []⟩
def foot107 : Foot := ⟨[.mem, .logs, .can, .dma, .tenants], [ent0 Ent.Evlog.LAST_SEQ, ent0 Ent.Evlog.LOG_LOST, ent1 Ent.CanCo.SDO_LAST_STATUS, ent1
  Ent.CanSt.COUNTER_SAT, ent1 Ent.CanSt.TX_DISCARDED, ent1 Ent.Hall.RING_LOST], [word1 Rg.Hpg.RING_HEAD]⟩
def foot108 : Foot := ⟨[.mem, .logs, .d0, .sw, .dma, .tenants], [ent0 Ent.Evlog.LAST_SEQ, ent0 Ent.Evlog.LOG_LOST, ent0 Ent.Stw.COUNTER_SAT, ent0
  Ent.Stw.STW_ECC_DROPS, ent1 Ent.Hall.COUNTER_SAT, ent1 Ent.Hall.FROZEN_DROPS, ent1 Ent.Hall.RING_LOST, ent1 Ent.Heng.COUNTER_SAT, ent1
  Ent.Heng.NO_QP, ent1 Ent.Port.EGRESS_FILTERED, ent1 Ent.Port.PORT_SAT, ent1 Ent.Pq.CT_ABORTED, ent1 Ent.Pq.NO_DESC, ent1 Ent.Pq.OVERSIZE, ent1
  Ent.Pq.PORT_SAT, ent1 Ent.Pq.Q_SAT, ent2 Ent.Pq.DROP_DISABLED, ent2 Ent.Pq.DROP_DOWN, ent2 Ent.Pq.DROP_FULL, ent2 Ent.Pq.DROP_RESIDENCE, ent2
  Ent.Pq.DROP_STW], [word1 Rg.Hpg.RING_HEAD]⟩
def foot109 : Foot := ⟨[.mem, .logs, .d0, .sw, .can, .power, .br, .dma, .tenants, .twin], [ent0 Ent.Evlog.LAST_SEQ, ent0 Ent.Evlog.LOG_LOST, ent0
  Ent.Stw.COUNTER_SAT, ent0 Ent.Stw.STW_ECC_DROPS, ent1 Ent.CanCo.SDO_LAST_STATUS, ent1 Ent.CanSt.COUNTER_SAT, ent1 Ent.CanSt.TX_DISCARDED, ent1
  Ent.Hall.COUNTER_SAT, ent1 Ent.Hall.FROZEN_DROPS, ent1 Ent.Hall.RING_LOST, ent1 Ent.Heng.COUNTER_SAT, ent1 Ent.Heng.NO_QP, ent1
  Ent.Port.EGRESS_FILTERED, ent1 Ent.Port.PORT_SAT, ent1 Ent.Port.TX_BYTES, ent1 Ent.Port.TX_FRAMES, ent1 Ent.Pq.CT_ABORTED, ent1 Ent.Pq.NO_DESC, ent1
  Ent.Pq.OVERSIZE, ent1 Ent.Pq.PORT_SAT, ent1 Ent.Pq.Q_SAT, ent2 Ent.Pq.DROP_DISABLED, ent2 Ent.Pq.DROP_DOWN, ent2 Ent.Pq.DROP_FULL, ent2
  Ent.Pq.DROP_RESIDENCE, ent2 Ent.Pq.DROP_STW], [word0 Rg.Smb.DONE, word0 Rg.Smb.MB_LEN, word0 Rg.Smb.MB_TOTAL, word1 Rg.Hpg.RING_HEAD, word1
  Rg.Mb.DONE, word1 Rg.Mb.MB_LEN, word1 Rg.Mb.MB_TOTAL, word1 Rg.Smb.MB_DATA, word2 Rg.Mb.MB_DATA]⟩
def foot110 : Foot := ⟨[.mem, .logs, .d0, .sw, .can, .power, .br, .dma, .tenants, .twin], [ent0 Ent.Evlog.LAST_SEQ, ent0 Ent.Evlog.LOG_LOST, ent0
  Ent.Se.CMD_STATUS, ent0 Ent.Stw.COUNTER_SAT, ent0 Ent.Stw.STW_ECC_DROPS, ent1 Ent.CanCo.SDO_LAST_STATUS, ent1 Ent.CanSt.COUNTER_SAT, ent1
  Ent.CanSt.TX_DISCARDED, ent1 Ent.Hall.COUNTER_SAT, ent1 Ent.Hall.FROZEN_DROPS, ent1 Ent.Hall.RING_LOST, ent1 Ent.Heng.COUNTER_SAT, ent1
  Ent.Heng.NO_QP, ent1 Ent.Port.EGRESS_FILTERED, ent1 Ent.Port.PORT_SAT, ent1 Ent.Port.TX_BYTES, ent1 Ent.Port.TX_FRAMES, ent1 Ent.Pq.CT_ABORTED, ent1
  Ent.Pq.NO_DESC, ent1 Ent.Pq.OVERSIZE, ent1 Ent.Pq.PORT_SAT, ent1 Ent.Pq.Q_SAT, ent2 Ent.Pq.DROP_DISABLED, ent2 Ent.Pq.DROP_DOWN, ent2
  Ent.Pq.DROP_FULL, ent2 Ent.Pq.DROP_RESIDENCE, ent2 Ent.Pq.DROP_STW], [word0 Rg.Smb.DONE, word0 Rg.Smb.MB_LEN, word0 Rg.Smb.MB_TOTAL, word1
  Rg.Hpg.RING_HEAD, word1 Rg.Mb.DONE, word1 Rg.Mb.MB_LEN, word1 Rg.Mb.MB_TOTAL, word1 Rg.Smb.MB_DATA, word2 Rg.Mb.MB_DATA]⟩
def foot111 : Foot := ⟨[.mem, .logs, .dma, .tenants], [ent0 Ent.Evlog.LAST_SEQ, ent0 Ent.Evlog.LOG_LOST, ent0 Ent.Se.STATE, ent1 Ent.Hall.COUNTER_SAT,
  ent1 Ent.Hall.RING_LOST], [word1 Rg.Hpg.RING_EN, word1 Rg.Hpg.RING_HEAD, word1 Rg.Plat.SYS_IRQ]⟩
def foot112 : Foot := ⟨[.mem, .logs, .load, .dma, .tenants, .clk], [ent0 Ent.Clk.SSC_ACTIVE, ent0 Ent.Evlog.LAST_SEQ, ent0 Ent.Evlog.LOG_LOST, ent1
  Ent.Hall.RING_LOST, ent1 Ent.Lc.FLAGS, ent1 Ent.Lc.STATE], [word1 Rg.Hpg.RING_HEAD, word1 Rg.Plat.SYS_IRQ]⟩
def foot113 : Foot := ⟨[.mem, .logs, .d0, .sw, .can, .power, .br, .load, .dma, .tenants, .clk, .twin], [ent0 Ent.Clk.SSC_ACTIVE, ent0
  Ent.Evlog.LAST_SEQ, ent0 Ent.Evlog.LOG_LOST, ent0 Ent.Se.CMD_STATUS, ent0 Ent.Se.STATE, ent0 Ent.Stw.COUNTER_SAT, ent0 Ent.Stw.STW_ECC_DROPS, ent1
  Ent.CanCo.SDO_LAST_STATUS, ent1 Ent.CanSt.COUNTER_SAT, ent1 Ent.CanSt.TX_DISCARDED, ent1 Ent.Hall.COUNTER_SAT, ent1 Ent.Hall.FROZEN_DROPS, ent1
  Ent.Hall.RING_LOST, ent1 Ent.Heng.COUNTER_SAT, ent1 Ent.Heng.NO_QP, ent1 Ent.Lc.FLAGS, ent1 Ent.Lc.STATE, ent1 Ent.Port.EGRESS_FILTERED, ent1
  Ent.Port.PORT_SAT, ent1 Ent.Port.TX_BYTES, ent1 Ent.Port.TX_FRAMES, ent1 Ent.Pq.CT_ABORTED, ent1 Ent.Pq.NO_DESC, ent1 Ent.Pq.OVERSIZE, ent1
  Ent.Pq.PORT_SAT, ent1 Ent.Pq.Q_SAT, ent2 Ent.Pq.DROP_DISABLED, ent2 Ent.Pq.DROP_DOWN, ent2 Ent.Pq.DROP_FULL, ent2 Ent.Pq.DROP_RESIDENCE, ent2
  Ent.Pq.DROP_STW], [word0 Rg.Smb.DONE, word0 Rg.Smb.MB_LEN, word0 Rg.Smb.MB_TOTAL, word1 Rg.Hpg.RING_EN, word1 Rg.Hpg.RING_HEAD, word1 Rg.Mb.DONE,
  word1 Rg.Mb.MB_LEN, word1 Rg.Mb.MB_TOTAL, word1 Rg.Plat.SYS_IRQ, word1 Rg.Smb.MB_DATA, word2 Rg.Mb.MB_DATA]⟩
def foot114 : Foot := ⟨[.mem, .free, .logs, .limits, .d0, .sw, .can, .power, .br, .load, .scan, .dma, .tenants, .clk, .twin], [ent0
  Ent.Clk.SSC_ACTIVE, ent0 Ent.Evlog.LAST_SEQ, ent0 Ent.Evlog.LOG_LOST, ent0 Ent.Se.CMD_STATUS, ent0 Ent.Se.COUNTER_SAT, ent0 Ent.Se.DONE_IGNORED,
  ent0 Ent.Se.STATE, ent0 Ent.Stw.COUNTER_SAT, ent0 Ent.Stw.STW_ECC_DROPS, ent0 Ent.Tws.COUNTER_SAT, ent0 Ent.Tws.OUT_MISMATCHES, ent0 Ent.Tws.ROLE,
  ent1 Ent.CanCo.SDO_LAST_STATUS, ent1 Ent.CanSt.COUNTER_SAT, ent1 Ent.CanSt.TX_DISCARDED, ent1 Ent.Hall.COUNTER_SAT, ent1 Ent.Hall.FROZEN_DROPS, ent1
  Ent.Hall.RING_LOST, ent1 Ent.Heng.COUNTER_SAT, ent1 Ent.Heng.NO_QP, ent1 Ent.Lc.FLAGS, ent1 Ent.Lc.RETRIES_LEFT, ent1 Ent.Lc.STATE, ent1
  Ent.Port.EGRESS_FILTERED, ent1 Ent.Port.PORT_SAT, ent1 Ent.Port.TX_BYTES, ent1 Ent.Port.TX_FRAMES, ent1 Ent.Pq.CT_ABORTED, ent1 Ent.Pq.NO_DESC, ent1
  Ent.Pq.OVERSIZE, ent1 Ent.Pq.PORT_SAT, ent1 Ent.Pq.Q_SAT, ent1 Ent.Stn.COUNTER_SAT, ent1 Ent.Stn.LOSSES, ent1 Ent.Stn.STATE, ent1 Ent.Stn.TX_FRAMES,
  ent1 Ent.Stn.TX_HELD, ent1 Ent.Task.COUNTER_SAT, ent1 Ent.Task.CYCLES, ent1 Ent.Task.LAST_EXEC_NS, ent1 Ent.Task.MAX_EXEC_NS, ent2
  Ent.Pq.DROP_DISABLED, ent2 Ent.Pq.DROP_DOWN, ent2 Ent.Pq.DROP_FULL, ent2 Ent.Pq.DROP_RESIDENCE, ent2 Ent.Pq.DROP_STW], [word0 Rg.M0Cpg.WFI, word0
  Rg.Smb.DONE, word0 Rg.Smb.MB_LEN, word0 Rg.Smb.MB_TOTAL, word1 Rg.Cpg.WFI, word1 Rg.Hpg.RING_EN, word1 Rg.Hpg.RING_HEAD, word1 Rg.Mb.DONE, word1
  Rg.Mb.MB_LEN, word1 Rg.Mb.MB_TOTAL, word1 Rg.Plat.SYS_IRQ, word1 Rg.Smb.MB_DATA, word1 Rg.Src.PENDING, word2 Rg.Mb.MB_DATA]⟩
def foot115 : Foot := ⟨[.mem, .logs, .scan, .dma, .tenants], [ent0 Ent.Chg.CHANGES, ent0 Ent.Chg.CHANGE_RESULT, ent0 Ent.Chg.CHANGE_STATE, ent0
  Ent.Chg.CHANGE_STATUS, ent0 Ent.Chg.COUNTER_SAT, ent0 Ent.Chg.REFUSALS, ent0 Ent.Evlog.LAST_SEQ, ent0 Ent.Evlog.LOG_LOST, ent1 Ent.Hall.COUNTER_SAT,
  ent1 Ent.Hall.RING_LOST], [word1 Rg.Hpg.RING_EN, word1 Rg.Hpg.RING_HEAD, word1 Rg.Plat.SYS_IRQ]⟩
def foot116 : Foot := ⟨[.mem, .logs, .load, .dma, .tenants, .clk, .twin], [ent0 Ent.Clk.SSC_ACTIVE, ent0 Ent.Evlog.LAST_SEQ, ent0 Ent.Evlog.LOG_LOST,
  ent0 Ent.Tws.ROLE, ent1 Ent.Hall.COUNTER_SAT, ent1 Ent.Hall.RING_LOST, ent1 Ent.Lc.FLAGS, ent1 Ent.Lc.STATE], [word1 Rg.Hpg.RING_EN, word1
  Rg.Hpg.RING_HEAD, word1 Rg.Plat.SYS_IRQ]⟩
def foot117 : Foot := ⟨[.mem, .free, .logs, .d0, .sw, .can, .power, .br, .load, .scan, .dma, .tenants, .clk, .twin], [ent0 Ent.Chg.CHANGES, ent0
  Ent.Chg.CHANGE_RESULT, ent0 Ent.Chg.CHANGE_STATE, ent0 Ent.Chg.CHANGE_STATUS, ent0 Ent.Chg.COUNTER_SAT, ent0 Ent.Chg.REFUSALS, ent0
  Ent.Clk.SSC_ACTIVE, ent0 Ent.Evlog.LAST_SEQ, ent0 Ent.Evlog.LOG_LOST, ent0 Ent.Se.CMD_STATUS, ent0 Ent.Se.FAULT_CAUSE, ent0 Ent.Se.STATE, ent0
  Ent.Stw.COUNTER_SAT, ent0 Ent.Stw.STW_ECC_DROPS, ent0 Ent.Tws.ROLE, ent1 Ent.CanCo.SDO_LAST_STATUS, ent1 Ent.CanSt.COUNTER_SAT, ent1
  Ent.CanSt.TX_DISCARDED, ent1 Ent.Hall.COUNTER_SAT, ent1 Ent.Hall.FROZEN_DROPS, ent1 Ent.Hall.RING_LOST, ent1 Ent.Heng.COUNTER_SAT, ent1
  Ent.Heng.NO_QP, ent1 Ent.Lc.FLAGS, ent1 Ent.Lc.STATE, ent1 Ent.Port.EGRESS_FILTERED, ent1 Ent.Port.PORT_SAT, ent1 Ent.Port.TX_BYTES, ent1
  Ent.Port.TX_FRAMES, ent1 Ent.Pq.CT_ABORTED, ent1 Ent.Pq.NO_DESC, ent1 Ent.Pq.OVERSIZE, ent1 Ent.Pq.PORT_SAT, ent1 Ent.Pq.Q_SAT, ent2
  Ent.Pq.DROP_DISABLED, ent2 Ent.Pq.DROP_DOWN, ent2 Ent.Pq.DROP_FULL, ent2 Ent.Pq.DROP_RESIDENCE, ent2 Ent.Pq.DROP_STW], [word0 Rg.M0Cpg.DEPTH, word0
  Rg.Smb.DONE, word0 Rg.Smb.MB_LEN, word0 Rg.Smb.MB_TOTAL, word1 Rg.Cpg.DEPTH, word1 Rg.Hpg.RING_EN, word1 Rg.Hpg.RING_HEAD, word1 Rg.M0Cpg.STK_SRC,
  word1 Rg.Mb.DONE, word1 Rg.Mb.MB_LEN, word1 Rg.Mb.MB_TOTAL, word1 Rg.Plat.SYS_IRQ, word1 Rg.Smb.MB_DATA, word1 Rg.Src.PENDING, word2 Rg.Cpg.STK_SRC,
  word2 Rg.Mb.MB_DATA]⟩
def foot118 : Foot := ⟨[], [], [word1 Rg.Adcr.BUSY]⟩
def foot119 : Foot := ⟨[.adc], [], []⟩
def foot120 : Foot := ⟨[.mem, .logs, .adc, .dma, .tenants, .clk], [ent0 Ent.Clk.SSC_ACTIVE, ent0 Ent.Evlog.LAST_SEQ, ent0 Ent.Evlog.LOG_LOST, ent1
  Ent.Hall.RING_LOST], [word1 Rg.Adcr.BUSY, word1 Rg.Hpg.RING_HEAD, word1 Rg.Plat.SYS_IRQ]⟩
def foot121 : Foot := ⟨[.mem, .logs, .limits, .adc, .dma, .tenants, .clk], [ent0 Ent.Clk.SSC_ACTIVE, ent0 Ent.Evlog.LAST_SEQ, ent0 Ent.Evlog.LOG_LOST,
  ent1 Ent.Adc.COUNTER_SAT, ent1 Ent.Adc.OVERLAPS, ent1 Ent.Hall.RING_LOST], [word1 Rg.Adcr.BUSY, word1 Rg.Adcr.IRQ, word1 Rg.Hpg.RING_HEAD, word1
  Rg.Plat.SYS_IRQ]⟩
def foot122 : Foot := ⟨[], [], [word1 Rg.M0Src.PENDING]⟩
def foot123 : Foot := ⟨[.mem, .logs, .dma, .tenants], [ent0 Ent.Evlog.LAST_SEQ, ent0 Ent.Evlog.LOG_LOST, ent1 Ent.Hall.RING_LOST], [word1
  Rg.Hpg.RING_HEAD, word1 Rg.M0Src.PENDING]⟩
def foot124 : Foot := ⟨[.mem, .logs, .sw, .dma, .tenants], [ent0 Ent.Evlog.LAST_SEQ, ent0 Ent.Evlog.LOG_LOST, ent0 Ent.Stw.COUNTER_SAT, ent0
  Ent.Stw.STW_ECC_DROPS, ent1 Ent.Hall.COUNTER_SAT, ent1 Ent.Hall.FROZEN_DROPS, ent1 Ent.Hall.RING_LOST, ent1 Ent.Heng.COUNTER_SAT, ent1
  Ent.Heng.NO_QP, ent1 Ent.Port.EGRESS_FILTERED, ent1 Ent.Port.PORT_SAT, ent1 Ent.Pq.COPIES_DROPPED, ent1 Ent.Pq.CT_ABORTED, ent1 Ent.Pq.NO_DESC, ent1
  Ent.Pq.OVERSIZE, ent1 Ent.Pq.PORT_SAT, ent1 Ent.Pq.Q_SAT, ent2 Ent.Pq.DROP_DISABLED, ent2 Ent.Pq.DROP_DOWN, ent2 Ent.Pq.DROP_FULL, ent2
  Ent.Pq.DROP_RESIDENCE, ent2 Ent.Pq.DROP_STW], [word1 Rg.Hpg.RING_HEAD]⟩
def foot125 : Foot := ⟨[.mem, .logs, .can, .dma, .tenants], [ent0 Ent.Evlog.LAST_SEQ, ent0 Ent.Evlog.LOG_LOST, ent1 Ent.CanSt.COUNTER_SAT, ent1
  Ent.CanSt.TX_DISCARDED, ent1 Ent.Hall.RING_LOST], [word1 Rg.Ch.IRQ, word1 Rg.Hpg.RING_HEAD, word2 Rg.Txb.CODE]⟩
def foot126 : Foot := ⟨[.adc], [], [word1 Rg.Adcr.BUSY]⟩
def foot127 : Foot := ⟨[.mem, .free, .logs, .limits, .br, .dma, .tenants, .harts, .twin], [ent0 Ent.Evlog.LAST_SEQ, ent0 Ent.Evlog.LOG_LOST, ent1
  Ent.Bctx.COUNTER_SAT, ent1 Ent.Bctx.FAILURES, ent1 Ent.Bctx.POSTED, ent1 Ent.Bctx.READS, ent1 Ent.Bctx.RETRANSMITS, ent1 Ent.Bctx.TIMEOUTS, ent1
  Ent.Hall.COUNTER_SAT, ent1 Ent.Hall.RING_LOST], [word1 Rg.Hpg.RING_EN, word1 Rg.Hpg.RING_HEAD, word2 Rg.Ctx.BST_ADDR_HI, word2 Rg.Ctx.BST_ADDR_LO,
  word2 Rg.Ctx.FAILED, word2 Rg.Ctx.FAR_CODE, word2 Rg.Ctx.IRQ, word2 Rg.Ctx.PW_DONE, word2 Rg.Ep.MERGED, word2 fun u k => rmb u k Rg.Mb.CODE, word2
  fun u k => rmb u k Rg.Mb.GO, word2 fun u k => rmb u k Rg.Mb.MB_LEN, word2 fun u k => rmb u k Rg.Mb.MB_TOTAL, word3 fun u k i => rmb u k fun n =>
  Rg.Mb.MB_DATA n i]⟩
def foot128 : Foot := ⟨[], [], [word1 Rg.Qpr.IRQ]⟩
def foot129 : Foot := ⟨[.mem, .logs, .dma, .tenants], [ent0 Ent.Evlog.LAST_SEQ, ent0 Ent.Evlog.LOG_LOST, ent1 Ent.Hall.RING_LOST, ent1
  Ent.Qp.COUNTER_SAT, ent1 Ent.Qp.ERR_LOST], [word1 Rg.Hpg.RING_HEAD, word1 Rg.Qpr.ERR_HEAD, word1 Rg.Qpr.IRQ]⟩
def foot130 : Foot := ⟨[.mem, .logs, .limits, .dma, .tenants], [ent0 Ent.Evlog.LAST_SEQ, ent0 Ent.Evlog.LOG_LOST, ent1 Ent.Hall.RING_LOST, ent1
  Ent.Qp.COUNTER_SAT, ent1 Ent.Qp.ERR_LOST, ent1 Ent.Qp.TX_ERRORS, ent1 Ent.Qp.TX_FRAMES], [word1 Rg.Hpg.RING_HEAD, word1 Rg.Qpr.ERR_HEAD, word1
  Rg.Qpr.IRQ, word1 Rg.Qpr.TX_HEAD]⟩
def foot131 : Foot := ⟨[.mem, .free, .logs, .limits, .sw, .can, .br, .adc, .dma, .tenants, .harts, .twin], [ent0 Ent.Evlog.LAST_SEQ, ent0
  Ent.Evlog.LOG_LOST, ent0 Ent.Stw.COUNTER_SAT, ent0 Ent.Stw.STW_ECC_DROPS, ent1 Ent.Bctx.COUNTER_SAT, ent1 Ent.Bctx.FAILURES, ent1 Ent.Bctx.POSTED,
  ent1 Ent.Bctx.READS, ent1 Ent.Bctx.RETRANSMITS, ent1 Ent.Bctx.TIMEOUTS, ent1 Ent.CanSt.COUNTER_SAT, ent1 Ent.CanSt.TX_DISCARDED, ent1 Ent.Dma.BYTES,
  ent1 Ent.Dma.COUNTER_SAT, ent1 Ent.Dma.DESCRIPTORS, ent1 Ent.Dma.ERRORS, ent1 Ent.Dma.STALE, ent1 Ent.Hall.COUNTER_SAT, ent1 Ent.Hall.FROZEN_DROPS,
  ent1 Ent.Hall.RING_LOST, ent1 Ent.Heng.COUNTER_SAT, ent1 Ent.Heng.NO_QP, ent1 Ent.Port.EGRESS_FILTERED, ent1 Ent.Port.PORT_SAT, ent1
  Ent.Pq.COPIES_DROPPED, ent1 Ent.Pq.CT_ABORTED, ent1 Ent.Pq.NO_DESC, ent1 Ent.Pq.OVERSIZE, ent1 Ent.Pq.PORT_SAT, ent1 Ent.Pq.Q_SAT, ent1
  Ent.Qp.COUNTER_SAT, ent1 Ent.Qp.ERR_LOST, ent1 Ent.Qp.TX_ERRORS, ent1 Ent.Qp.TX_FRAMES, ent2 Ent.Pq.DROP_DISABLED, ent2 Ent.Pq.DROP_DOWN, ent2
  Ent.Pq.DROP_FULL, ent2 Ent.Pq.DROP_RESIDENCE, ent2 Ent.Pq.DROP_STW], [word1 Rg.Adcr.BUSY, word1 Rg.Ch.IRQ, word1 Rg.Dmar.ACTIVE, word1 Rg.Dmar.HEAD,
  word1 Rg.Dmar.IRQ, word1 Rg.Hpg.RING_EN, word1 Rg.Hpg.RING_HEAD, word1 Rg.Qpr.ERR_HEAD, word1 Rg.Qpr.IRQ, word1 Rg.Qpr.TX_HEAD, word2
  Rg.Ctx.BST_ADDR_HI, word2 Rg.Ctx.BST_ADDR_LO, word2 Rg.Ctx.FAILED, word2 Rg.Ctx.FAR_CODE, word2 Rg.Ctx.IRQ, word2 Rg.Ctx.PW_DONE, word2
  Rg.Ep.MERGED, word2 Rg.Txb.CODE, word2 fun u k => rmb u k Rg.Mb.CODE, word2 fun u k => rmb u k Rg.Mb.GO, word2 fun u k => rmb u k Rg.Mb.MB_LEN,
  word2 fun u k => rmb u k Rg.Mb.MB_TOTAL, word3 fun u k i => rmb u k fun n => Rg.Mb.MB_DATA n i]⟩
def foot132 : Foot := ⟨[.mem, .logs, .limits, .br, .dma, .tenants], [ent0 Ent.Evlog.LAST_SEQ, ent0 Ent.Evlog.LOG_LOST, ent1 Ent.Dma.BYTES, ent1
  Ent.Dma.COUNTER_SAT, ent1 Ent.Dma.DESCRIPTORS, ent1 Ent.Dma.ERRORS, ent1 Ent.Dma.STALE, ent1 Ent.Hall.COUNTER_SAT, ent1 Ent.Hall.RING_LOST], [word1
  Rg.Dmar.ACTIVE, word1 Rg.Dmar.HEAD, word1 Rg.Dmar.IRQ, word1 Rg.Hpg.RING_EN, word1 Rg.Hpg.RING_HEAD]⟩
def foot133 : Foot := ⟨[.mem, .free, .logs, .limits, .sw, .can, .br, .adc, .dma, .tenants, .harts, .twin], [ent0 Ent.Evlog.LAST_SEQ, ent0
  Ent.Evlog.LOG_LOST, ent0 Ent.Stw.COUNTER_SAT, ent0 Ent.Stw.STW_ECC_DROPS, ent1 Ent.Bctx.COUNTER_SAT, ent1 Ent.Bctx.FAILURES, ent1 Ent.Bctx.POSTED,
  ent1 Ent.Bctx.READS, ent1 Ent.Bctx.RETRANSMITS, ent1 Ent.Bctx.TIMEOUTS, ent1 Ent.CanSt.COUNTER_SAT, ent1 Ent.CanSt.TX_DISCARDED, ent1 Ent.Dma.BYTES,
  ent1 Ent.Dma.COUNTER_SAT, ent1 Ent.Dma.DESCRIPTORS, ent1 Ent.Dma.ERRORS, ent1 Ent.Dma.STALE, ent1 Ent.Hall.COUNTER_SAT, ent1 Ent.Hall.FROZEN_DROPS,
  ent1 Ent.Hall.RING_LOST, ent1 Ent.Heng.COUNTER_SAT, ent1 Ent.Heng.NO_QP, ent1 Ent.Port.EGRESS_FILTERED, ent1 Ent.Port.PORT_SAT, ent1
  Ent.Pq.COPIES_DROPPED, ent1 Ent.Pq.CT_ABORTED, ent1 Ent.Pq.NO_DESC, ent1 Ent.Pq.OVERSIZE, ent1 Ent.Pq.PORT_SAT, ent1 Ent.Pq.Q_SAT, ent2
  Ent.Pq.DROP_DISABLED, ent2 Ent.Pq.DROP_DOWN, ent2 Ent.Pq.DROP_FULL, ent2 Ent.Pq.DROP_RESIDENCE, ent2 Ent.Pq.DROP_STW], [word1 Rg.Adcr.BUSY, word1
  Rg.Ch.IRQ, word1 Rg.Dmar.ACTIVE, word1 Rg.Dmar.HEAD, word1 Rg.Dmar.IRQ, word1 Rg.Hpg.RING_EN, word1 Rg.Hpg.RING_HEAD, word2 Rg.Ctx.BST_ADDR_HI,
  word2 Rg.Ctx.BST_ADDR_LO, word2 Rg.Ctx.FAILED, word2 Rg.Ctx.FAR_CODE, word2 Rg.Ctx.IRQ, word2 Rg.Ctx.PW_DONE, word2 Rg.Ep.MERGED, word2 Rg.Txb.CODE,
  word2 fun u k => rmb u k Rg.Mb.CODE, word2 fun u k => rmb u k Rg.Mb.GO, word2 fun u k => rmb u k Rg.Mb.MB_LEN, word2 fun u k => rmb u k
  Rg.Mb.MB_TOTAL, word3 fun u k i => rmb u k fun n => Rg.Mb.MB_DATA n i]⟩
def foot134 : Foot := ⟨[.mem, .logs, .sw, .dma, .tenants], [ent0 Ent.Evlog.LAST_SEQ, ent0 Ent.Evlog.LOG_LOST, ent0 Ent.Stw.COUNTER_SAT, ent0
  Ent.Stw.STW_ECC_DROPS, ent1 Ent.Hall.COUNTER_SAT, ent1 Ent.Hall.FROZEN_DROPS, ent1 Ent.Hall.RING_LOST, ent1 Ent.Heng.COUNTER_SAT, ent1
  Ent.Heng.NO_QP, ent1 Ent.Port.EGRESS_FILTERED, ent1 Ent.Port.LINK_DOWNS, ent1 Ent.Port.PORT_SAT, ent1 Ent.Pq.COPIES_DROPPED, ent1 Ent.Pq.CT_ABORTED,
  ent1 Ent.Pq.NO_DESC, ent1 Ent.Pq.OVERSIZE, ent1 Ent.Pq.PORT_SAT, ent1 Ent.Pq.Q_SAT, ent2 Ent.Pq.DROP_DISABLED, ent2 Ent.Pq.DROP_DOWN, ent2
  Ent.Pq.DROP_FULL, ent2 Ent.Pq.DROP_RESIDENCE, ent2 Ent.Pq.DROP_STW], [word1 Rg.Hpg.RING_HEAD]⟩
def foot135 : Foot := ⟨[], [ent0 Ent.Tws.PATHS], []⟩
def foot136 : Foot := ⟨[.mem, .logs, .dma, .tenants, .twin], [ent0 Ent.Evlog.LAST_SEQ, ent0 Ent.Evlog.LOG_LOST, ent0 Ent.Tws.PATHS, ent1
  Ent.Hall.COUNTER_SAT, ent1 Ent.Hall.RING_LOST], [word1 Rg.Hpg.RING_EN, word1 Rg.Hpg.RING_HEAD, word1 Rg.Plat.SYS_IRQ]⟩
def foot137 : Foot := ⟨[.mem, .logs, .d0, .sw, .can, .power, .br, .dma, .tenants, .twin], [ent0 Ent.Evlog.LAST_SEQ, ent0 Ent.Evlog.LOG_LOST, ent0
  Ent.Stw.COUNTER_SAT, ent0 Ent.Stw.STW_ECC_DROPS, ent1 Ent.CanCo.SDO_LAST_STATUS, ent1 Ent.CanSt.COUNTER_SAT, ent1 Ent.CanSt.TX_DISCARDED, ent1
  Ent.Hall.CMD_STATUS, ent1 Ent.Hall.COUNTER_SAT, ent1 Ent.Hall.FROZEN_DROPS, ent1 Ent.Hall.RING_LOST, ent1 Ent.Heng.COUNTER_SAT, ent1 Ent.Heng.NO_QP,
  ent1 Ent.Port.EGRESS_FILTERED, ent1 Ent.Port.PORT_SAT, ent1 Ent.Port.TX_BYTES, ent1 Ent.Port.TX_FRAMES, ent1 Ent.Pq.CT_ABORTED, ent1 Ent.Pq.NO_DESC,
  ent1 Ent.Pq.OVERSIZE, ent1 Ent.Pq.PORT_SAT, ent1 Ent.Pq.Q_SAT, ent2 Ent.Pq.DROP_DISABLED, ent2 Ent.Pq.DROP_DOWN, ent2 Ent.Pq.DROP_FULL, ent2
  Ent.Pq.DROP_RESIDENCE, ent2 Ent.Pq.DROP_STW], [word0 Rg.Smb.DONE, word0 Rg.Smb.MB_LEN, word0 Rg.Smb.MB_TOTAL, word1 Rg.Hpg.RING_HEAD, word1
  Rg.Mb.DONE, word1 Rg.Mb.MB_LEN, word1 Rg.Mb.MB_TOTAL, word1 Rg.Smb.MB_DATA, word2 Rg.Mb.MB_DATA]⟩
def foot138 : Foot := ⟨[.mem, .logs, .dma, .tenants], [ent0 Ent.Evlog.LAST_SEQ, ent0 Ent.Evlog.LOG_LOST, ent1 Ent.Hall.COUNTER_SAT, ent1
  Ent.Hall.RING_LOST, ent1 Ent.Hall.STATE], [word1 Rg.Hpg.RING_EN, word1 Rg.Hpg.RING_HEAD]⟩
def foot139 : Foot := ⟨[.mem, .free, .logs, .limits, .br, .dma, .tenants, .harts, .twin], [ent0 Ent.Evlog.LAST_SEQ, ent0 Ent.Evlog.LOG_LOST, ent1
  Ent.Bctx.COUNTER_SAT, ent1 Ent.Bctx.FAILURES, ent1 Ent.Bctx.POSTED, ent1 Ent.Bctx.READS, ent1 Ent.Bctx.RETRANSMITS, ent1 Ent.Bctx.SESSION, ent1
  Ent.Bctx.TIMEOUTS, ent1 Ent.Hall.COUNTER_SAT, ent1 Ent.Hall.RING_LOST, ent1 Ent.Hall.STATE], [word1 Rg.Hpg.RING_EN, word1 Rg.Hpg.RING_HEAD, word2
  Rg.Ctx.BST_ADDR_HI, word2 Rg.Ctx.BST_ADDR_LO, word2 Rg.Ctx.FAILED, word2 Rg.Ctx.FAR_CODE, word2 Rg.Ctx.IRQ, word2 Rg.Ctx.PW_DONE, word2
  Rg.Ctx.SESSION, word2 Rg.Ep.MERGED, word2 fun u k => rmb u k Rg.Mb.CODE, word2 fun u k => rmb u k Rg.Mb.GO, word2 fun u k => rmb u k Rg.Mb.MB_LEN,
  word2 fun u k => rmb u k Rg.Mb.MB_TOTAL, word3 fun u k i => rmb u k fun n => Rg.Mb.MB_DATA n i]⟩
def foot140 : Foot := ⟨[.mem, .free, .logs, .limits, .d0, .sw, .can, .power, .br, .dma, .tenants, .harts, .twin], [ent0 Ent.Evlog.LAST_SEQ, ent0
  Ent.Evlog.LOG_LOST, ent0 Ent.Stw.COUNTER_SAT, ent0 Ent.Stw.STW_ECC_DROPS, ent1 Ent.Bctx.COUNTER_SAT, ent1 Ent.Bctx.FAILURES, ent1 Ent.Bctx.POSTED,
  ent1 Ent.Bctx.READS, ent1 Ent.Bctx.RETRANSMITS, ent1 Ent.Bctx.SESSION, ent1 Ent.Bctx.TIMEOUTS, ent1 Ent.CanCo.SDO_LAST_STATUS, ent1
  Ent.CanSt.COUNTER_SAT, ent1 Ent.CanSt.TX_DISCARDED, ent1 Ent.Hall.CMD_STATUS, ent1 Ent.Hall.COUNTER_SAT, ent1 Ent.Hall.FROZEN_DROPS, ent1
  Ent.Hall.RING_LOST, ent1 Ent.Hall.STATE, ent1 Ent.Heng.COUNTER_SAT, ent1 Ent.Heng.NO_QP, ent1 Ent.Port.EGRESS_FILTERED, ent1 Ent.Port.PORT_SAT, ent1
  Ent.Port.TX_BYTES, ent1 Ent.Port.TX_FRAMES, ent1 Ent.Pq.CT_ABORTED, ent1 Ent.Pq.NO_DESC, ent1 Ent.Pq.OVERSIZE, ent1 Ent.Pq.PORT_SAT, ent1
  Ent.Pq.Q_SAT, ent2 Ent.Pq.DROP_DISABLED, ent2 Ent.Pq.DROP_DOWN, ent2 Ent.Pq.DROP_FULL, ent2 Ent.Pq.DROP_RESIDENCE, ent2 Ent.Pq.DROP_STW], [word0
  Rg.Smb.DONE, word0 Rg.Smb.MB_LEN, word0 Rg.Smb.MB_TOTAL, word1 Rg.Hpg.RING_EN, word1 Rg.Hpg.RING_HEAD, word1 Rg.Mb.DONE, word1 Rg.Mb.MB_LEN, word1
  Rg.Mb.MB_TOTAL, word1 Rg.Smb.MB_DATA, word2 Rg.Ctx.BST_ADDR_HI, word2 Rg.Ctx.BST_ADDR_LO, word2 Rg.Ctx.FAILED, word2 Rg.Ctx.FAR_CODE, word2
  Rg.Ctx.IRQ, word2 Rg.Ctx.PW_DONE, word2 Rg.Ctx.SESSION, word2 Rg.Ep.MERGED, word2 Rg.Mb.MB_DATA, word2 fun u k => rmb u k Rg.Mb.CODE, word2 fun u k
  => rmb u k Rg.Mb.GO, word2 fun u k => rmb u k Rg.Mb.MB_LEN, word2 fun u k => rmb u k Rg.Mb.MB_TOTAL, word3 fun u k i => rmb u k fun n =>
  Rg.Mb.MB_DATA n i]⟩
def foot141 : Foot := ⟨[.mem, .free, .logs, .limits, .d0, .sw, .can, .power, .br, .dma, .tenants, .harts, .twin], [ent0 Ent.Evlog.LAST_SEQ, ent0
  Ent.Evlog.LOG_LOST, ent0 Ent.Stw.COUNTER_SAT, ent0 Ent.Stw.STW_ECC_DROPS, ent0 Ent.Tws.PATHS, ent0 Ent.Tws.ROLE, ent1 Ent.Bctx.COUNTER_SAT, ent1
  Ent.Bctx.FAILURES, ent1 Ent.Bctx.POSTED, ent1 Ent.Bctx.READS, ent1 Ent.Bctx.RETRANSMITS, ent1 Ent.Bctx.SESSION, ent1 Ent.Bctx.TIMEOUTS, ent1
  Ent.CanCo.SDO_LAST_STATUS, ent1 Ent.CanSt.COUNTER_SAT, ent1 Ent.CanSt.TX_DISCARDED, ent1 Ent.Hall.CMD_STATUS, ent1 Ent.Hall.COUNTER_SAT, ent1
  Ent.Hall.FROZEN_DROPS, ent1 Ent.Hall.RING_LOST, ent1 Ent.Hall.STATE, ent1 Ent.Heng.COUNTER_SAT, ent1 Ent.Heng.NO_QP, ent1 Ent.Port.EGRESS_FILTERED,
  ent1 Ent.Port.PORT_SAT, ent1 Ent.Port.TX_BYTES, ent1 Ent.Port.TX_FRAMES, ent1 Ent.Pq.CT_ABORTED, ent1 Ent.Pq.NO_DESC, ent1 Ent.Pq.OVERSIZE, ent1
  Ent.Pq.PORT_SAT, ent1 Ent.Pq.Q_SAT, ent2 Ent.Pq.DROP_DISABLED, ent2 Ent.Pq.DROP_DOWN, ent2 Ent.Pq.DROP_FULL, ent2 Ent.Pq.DROP_RESIDENCE, ent2
  Ent.Pq.DROP_STW], [word0 Rg.Smb.DONE, word0 Rg.Smb.MB_LEN, word0 Rg.Smb.MB_TOTAL, word1 Rg.Hpg.RING_EN, word1 Rg.Hpg.RING_HEAD, word1 Rg.Mb.DONE,
  word1 Rg.Mb.MB_LEN, word1 Rg.Mb.MB_TOTAL, word1 Rg.Plat.SYS_IRQ, word1 Rg.Smb.MB_DATA, word2 Rg.Ctx.BST_ADDR_HI, word2 Rg.Ctx.BST_ADDR_LO, word2
  Rg.Ctx.FAILED, word2 Rg.Ctx.FAR_CODE, word2 Rg.Ctx.IRQ, word2 Rg.Ctx.PW_DONE, word2 Rg.Ctx.SESSION, word2 Rg.Ep.MERGED, word2 Rg.Mb.MB_DATA, word2
  fun u k => rmb u k Rg.Mb.CODE, word2 fun u k => rmb u k Rg.Mb.GO, word2 fun u k => rmb u k Rg.Mb.MB_LEN, word2 fun u k => rmb u k Rg.Mb.MB_TOTAL,
  word3 fun u k i => rmb u k fun n => Rg.Mb.MB_DATA n i]⟩
def foot142 : Foot := ⟨[.mem, .free, .logs, .limits, .d0, .sw, .can, .power, .br, .scan, .dma, .tenants, .harts, .twin], [ent0 Ent.Evlog.LAST_SEQ,
  ent0 Ent.Evlog.LOG_LOST, ent0 Ent.Stw.COUNTER_SAT, ent0 Ent.Stw.STW_ECC_DROPS, ent0 Ent.Tws.PATHS, ent0 Ent.Tws.ROLE, ent1 Ent.Bctx.COUNTER_SAT,
  ent1 Ent.Bctx.FAILURES, ent1 Ent.Bctx.POSTED, ent1 Ent.Bctx.READS, ent1 Ent.Bctx.RETRANSMITS, ent1 Ent.Bctx.SESSION, ent1 Ent.Bctx.TIMEOUTS, ent1
  Ent.CanCo.SDO_LAST_STATUS, ent1 Ent.CanSt.COUNTER_SAT, ent1 Ent.CanSt.TX_DISCARDED, ent1 Ent.Hall.CMD_STATUS, ent1 Ent.Hall.COUNTER_SAT, ent1
  Ent.Hall.FROZEN_DROPS, ent1 Ent.Hall.RING_LOST, ent1 Ent.Hall.STATE, ent1 Ent.Heng.COUNTER_SAT, ent1 Ent.Heng.NO_QP, ent1 Ent.Port.EGRESS_FILTERED,
  ent1 Ent.Port.LINK_DOWNS, ent1 Ent.Port.PORT_SAT, ent1 Ent.Port.TX_BYTES, ent1 Ent.Port.TX_FRAMES, ent1 Ent.Pq.COPIES_DROPPED, ent1
  Ent.Pq.CT_ABORTED, ent1 Ent.Pq.NO_DESC, ent1 Ent.Pq.OVERSIZE, ent1 Ent.Pq.PORT_SAT, ent1 Ent.Pq.Q_SAT, ent1 Ent.Stn.COUNTER_SAT, ent1
  Ent.Stn.LOSSES, ent1 Ent.Stn.STATE, ent2 Ent.Pq.DROP_DISABLED, ent2 Ent.Pq.DROP_DOWN, ent2 Ent.Pq.DROP_FULL, ent2 Ent.Pq.DROP_RESIDENCE, ent2
  Ent.Pq.DROP_STW], [word0 Rg.Smb.DONE, word0 Rg.Smb.MB_LEN, word0 Rg.Smb.MB_TOTAL, word1 Rg.Hpg.RING_EN, word1 Rg.Hpg.RING_HEAD, word1 Rg.Mb.DONE,
  word1 Rg.Mb.MB_LEN, word1 Rg.Mb.MB_TOTAL, word1 Rg.Plat.SYS_IRQ, word1 Rg.Smb.MB_DATA, word2 Rg.Ctx.BST_ADDR_HI, word2 Rg.Ctx.BST_ADDR_LO, word2
  Rg.Ctx.FAILED, word2 Rg.Ctx.FAR_CODE, word2 Rg.Ctx.IRQ, word2 Rg.Ctx.PW_DONE, word2 Rg.Ctx.SESSION, word2 Rg.Ep.MERGED, word2 Rg.Mb.MB_DATA, word2
  fun u k => rmb u k Rg.Mb.CODE, word2 fun u k => rmb u k Rg.Mb.GO, word2 fun u k => rmb u k Rg.Mb.MB_LEN, word2 fun u k => rmb u k Rg.Mb.MB_TOTAL,
  word3 fun u k i => rmb u k fun n => Rg.Mb.MB_DATA n i]⟩
def foot143 : Foot := ⟨[.mem, .free, .logs, .limits, .d0, .sw, .can, .power, .br, .scan, .dma, .tenants, .harts, .twin], [ent0 Ent.Evlog.LAST_SEQ,
  ent0 Ent.Evlog.LOG_LOST, ent0 Ent.Stw.COUNTER_SAT, ent0 Ent.Stw.STW_ECC_DROPS, ent0 Ent.Tws.PATHS, ent0 Ent.Tws.ROLE, ent1 Ent.Bctx.COUNTER_SAT,
  ent1 Ent.Bctx.FAILURES, ent1 Ent.Bctx.POSTED, ent1 Ent.Bctx.READS, ent1 Ent.Bctx.RETRANSMITS, ent1 Ent.Bctx.SESSION, ent1 Ent.Bctx.TIMEOUTS, ent1
  Ent.CanCo.SDO_LAST_STATUS, ent1 Ent.CanSt.COUNTER_SAT, ent1 Ent.CanSt.TX_DISCARDED, ent1 Ent.Dma.BYTES, ent1 Ent.Dma.COUNTER_SAT, ent1
  Ent.Dma.DESCRIPTORS, ent1 Ent.Dma.ERRORS, ent1 Ent.Dma.STALE, ent1 Ent.Hall.CMD_STATUS, ent1 Ent.Hall.COUNTER_SAT, ent1 Ent.Hall.FROZEN_DROPS, ent1
  Ent.Hall.RING_LOST, ent1 Ent.Hall.STATE, ent1 Ent.Heng.COUNTER_SAT, ent1 Ent.Heng.NO_QP, ent1 Ent.Lc.FLAGS, ent1 Ent.Port.EGRESS_FILTERED, ent1
  Ent.Port.LINK_DOWNS, ent1 Ent.Port.PORT_SAT, ent1 Ent.Port.TX_BYTES, ent1 Ent.Port.TX_FRAMES, ent1 Ent.Pq.COPIES_DROPPED, ent1 Ent.Pq.CT_ABORTED,
  ent1 Ent.Pq.NO_DESC, ent1 Ent.Pq.OVERSIZE, ent1 Ent.Pq.PORT_SAT, ent1 Ent.Pq.Q_SAT, ent1 Ent.Stn.COUNTER_SAT, ent1 Ent.Stn.LOSSES, ent1
  Ent.Stn.STATE, ent2 Ent.Pq.DROP_DISABLED, ent2 Ent.Pq.DROP_DOWN, ent2 Ent.Pq.DROP_FULL, ent2 Ent.Pq.DROP_RESIDENCE, ent2 Ent.Pq.DROP_STW], [word0
  Rg.Smb.DONE, word0 Rg.Smb.MB_LEN, word0 Rg.Smb.MB_TOTAL, word1 Rg.Dmar.ACTIVE, word1 Rg.Dmar.HEAD, word1 Rg.Dmar.IRQ, word1 Rg.Hpg.RING_EN, word1
  Rg.Hpg.RING_HEAD, word1 Rg.Mb.DONE, word1 Rg.Mb.MB_LEN, word1 Rg.Mb.MB_TOTAL, word1 Rg.Plat.SYS_IRQ, word1 Rg.Smb.MB_DATA, word2 Rg.Ctx.BST_ADDR_HI,
  word2 Rg.Ctx.BST_ADDR_LO, word2 Rg.Ctx.FAILED, word2 Rg.Ctx.FAR_CODE, word2 Rg.Ctx.IRQ, word2 Rg.Ctx.PW_DONE, word2 Rg.Ctx.SESSION, word2
  Rg.Ep.MERGED, word2 Rg.Mb.MB_DATA, word2 fun u k => rmb u k Rg.Mb.CODE, word2 fun u k => rmb u k Rg.Mb.GO, word2 fun u k => rmb u k Rg.Mb.MB_LEN,
  word2 fun u k => rmb u k Rg.Mb.MB_TOTAL, word3 fun u k i => rmb u k fun n => Rg.Mb.MB_DATA n i]⟩
def foot144 : Foot := ⟨[.mem, .free, .logs, .limits, .drains, .d0, .sw, .can, .sleep, .power, .br, .scan, .dma, .tenants, .harts, .twin], [ent0
  Ent.Evlog.LAST_SEQ, ent0 Ent.Evlog.LOG_LOST, ent0 Ent.Stw.COUNTER_SAT, ent0 Ent.Stw.STW_ECC_DROPS, ent0 Ent.Tws.PATHS, ent0 Ent.Tws.ROLE, ent1
  Ent.Adc.STATE, ent1 Ent.Bctx.COUNTER_SAT, ent1 Ent.Bctx.FAILURES, ent1 Ent.Bctx.POSTED, ent1 Ent.Bctx.READS, ent1 Ent.Bctx.RETRANSMITS, ent1
  Ent.Bctx.SESSION, ent1 Ent.Bctx.STATE, ent1 Ent.Bctx.TIMEOUTS, ent1 Ent.CanCo.SDO_LAST_STATUS, ent1 Ent.CanSt.COUNTER_SAT, ent1 Ent.CanSt.STATE,
  ent1 Ent.CanSt.TX_DISCARDED, ent1 Ent.Dma.BYTES, ent1 Ent.Dma.COUNTER_SAT, ent1 Ent.Dma.DESCRIPTORS, ent1 Ent.Dma.ERRORS, ent1 Ent.Dma.STALE, ent1
  Ent.Dma.STATE, ent1 Ent.Hall.CMD_STATUS, ent1 Ent.Hall.COUNTER_SAT, ent1 Ent.Hall.FROZEN_DROPS, ent1 Ent.Hall.RING_LOST, ent1 Ent.Hall.STATE, ent1
  Ent.Heng.COUNTER_SAT, ent1 Ent.Heng.NO_QP, ent1 Ent.Heng.STATE, ent1 Ent.Lc.FLAGS, ent1 Ent.Port.EGRESS_FILTERED, ent1 Ent.Port.LINK_DOWNS, ent1
  Ent.Port.PORT_SAT, ent1 Ent.Port.STATE, ent1 Ent.Port.TX_BYTES, ent1 Ent.Port.TX_FRAMES, ent1 Ent.Pq.COPIES_DROPPED, ent1 Ent.Pq.CT_ABORTED, ent1
  Ent.Pq.NO_DESC, ent1 Ent.Pq.OVERSIZE, ent1 Ent.Pq.PORT_SAT, ent1 Ent.Pq.Q_SAT, ent1 Ent.Qp.STATE, ent1 Ent.Stn.COUNTER_SAT, ent1 Ent.Stn.LOSSES,
  ent1 Ent.Stn.STATE, ent2 Ent.Pq.DROP_DISABLED, ent2 Ent.Pq.DROP_DOWN, ent2 Ent.Pq.DROP_FULL, ent2 Ent.Pq.DROP_RESIDENCE, ent2 Ent.Pq.DROP_STW, ent2
  Ent.Pq.Q_STATE], [word0 Rg.Smb.DONE, word0 Rg.Smb.MB_LEN, word0 Rg.Smb.MB_TOTAL, word1 Rg.Dmar.ACTIVE, word1 Rg.Dmar.HEAD, word1 Rg.Dmar.IRQ, word1
  Rg.Hpg.RING_EN, word1 Rg.Hpg.RING_HEAD, word1 Rg.Mb.DONE, word1 Rg.Mb.MB_LEN, word1 Rg.Mb.MB_TOTAL, word1 Rg.Plat.SYS_IRQ, word1 Rg.Smb.MB_DATA,
  word2 Rg.Ctx.BST_ADDR_HI, word2 Rg.Ctx.BST_ADDR_LO, word2 Rg.Ctx.FAILED, word2 Rg.Ctx.FAR_CODE, word2 Rg.Ctx.IRQ, word2 Rg.Ctx.PW_DONE, word2
  Rg.Ctx.SESSION, word2 Rg.Ep.MERGED, word2 Rg.Mb.MB_DATA, word2 fun u k => rmb u k Rg.Mb.CODE, word2 fun u k => rmb u k Rg.Mb.GO, word2 fun u k =>
  rmb u k Rg.Mb.MB_LEN, word2 fun u k => rmb u k Rg.Mb.MB_TOTAL, word3 fun u k i => rmb u k fun n => Rg.Mb.MB_DATA n i]⟩
def foot145 : Foot := ⟨[.mem, .free, .logs, .limits, .drains, .d0, .sw, .can, .sleep, .power, .br, .adc, .scan, .dma, .tenants, .harts, .twin], [ent0
  Ent.Evlog.LAST_SEQ, ent0 Ent.Evlog.LOG_LOST, ent0 Ent.Stw.COUNTER_SAT, ent0 Ent.Stw.STW_ECC_DROPS, ent0 Ent.Tws.PATHS, ent0 Ent.Tws.ROLE, ent1
  Ent.Adc.STATE, ent1 Ent.Bctx.COUNTER_SAT, ent1 Ent.Bctx.FAILURES, ent1 Ent.Bctx.POSTED, ent1 Ent.Bctx.READS, ent1 Ent.Bctx.RETRANSMITS, ent1
  Ent.Bctx.SESSION, ent1 Ent.Bctx.STATE, ent1 Ent.Bctx.TIMEOUTS, ent1 Ent.CanCo.SDO_LAST_STATUS, ent1 Ent.CanSt.COUNTER_SAT, ent1 Ent.CanSt.STATE,
  ent1 Ent.CanSt.TX_DISCARDED, ent1 Ent.Dma.BYTES, ent1 Ent.Dma.COUNTER_SAT, ent1 Ent.Dma.DESCRIPTORS, ent1 Ent.Dma.ERRORS, ent1 Ent.Dma.STALE, ent1
  Ent.Dma.STATE, ent1 Ent.Hall.CMD_STATUS, ent1 Ent.Hall.COUNTER_SAT, ent1 Ent.Hall.FROZEN_DROPS, ent1 Ent.Hall.RING_LOST, ent1 Ent.Hall.STATE, ent1
  Ent.Heng.COUNTER_SAT, ent1 Ent.Heng.NO_QP, ent1 Ent.Heng.STATE, ent1 Ent.Lc.FLAGS, ent1 Ent.Port.EGRESS_FILTERED, ent1 Ent.Port.LINK_DOWNS, ent1
  Ent.Port.PORT_SAT, ent1 Ent.Port.STATE, ent1 Ent.Port.TX_BYTES, ent1 Ent.Port.TX_FRAMES, ent1 Ent.Pq.COPIES_DROPPED, ent1 Ent.Pq.CT_ABORTED, ent1
  Ent.Pq.NO_DESC, ent1 Ent.Pq.OVERSIZE, ent1 Ent.Pq.PORT_SAT, ent1 Ent.Pq.Q_SAT, ent1 Ent.Qp.STATE, ent1 Ent.Stn.COUNTER_SAT, ent1 Ent.Stn.LOSSES,
  ent1 Ent.Stn.STATE, ent2 Ent.Pq.DROP_DISABLED, ent2 Ent.Pq.DROP_DOWN, ent2 Ent.Pq.DROP_FULL, ent2 Ent.Pq.DROP_RESIDENCE, ent2 Ent.Pq.DROP_STW, ent2
  Ent.Pq.Q_STATE], [word0 Rg.Smb.DONE, word0 Rg.Smb.MB_LEN, word0 Rg.Smb.MB_TOTAL, word1 Rg.Adcr.BUSY, word1 Rg.Ch.IRQ, word1 Rg.Dmar.ACTIVE, word1
  Rg.Dmar.HEAD, word1 Rg.Dmar.IRQ, word1 Rg.Hpg.RING_EN, word1 Rg.Hpg.RING_HEAD, word1 Rg.Mb.DONE, word1 Rg.Mb.MB_LEN, word1 Rg.Mb.MB_TOTAL, word1
  Rg.Plat.SYS_IRQ, word1 Rg.Smb.MB_DATA, word2 Rg.Ctx.BST_ADDR_HI, word2 Rg.Ctx.BST_ADDR_LO, word2 Rg.Ctx.FAILED, word2 Rg.Ctx.FAR_CODE, word2
  Rg.Ctx.IRQ, word2 Rg.Ctx.PW_DONE, word2 Rg.Ctx.SESSION, word2 Rg.Ep.MERGED, word2 Rg.Mb.MB_DATA, word2 Rg.Txb.CODE, word2 fun u k => rmb u k
  Rg.Mb.CODE, word2 fun u k => rmb u k Rg.Mb.GO, word2 fun u k => rmb u k Rg.Mb.MB_LEN, word2 fun u k => rmb u k Rg.Mb.MB_TOTAL, word3 fun u k i =>
  rmb u k fun n => Rg.Mb.MB_DATA n i]⟩
def foot146 : Foot := ⟨[.mem, .free, .logs, .limits, .drains, .d0, .sw, .can, .sleep, .power, .br, .adc, .scan, .dma, .tenants, .harts, .twin], [ent0
  Ent.Evlog.LAST_SEQ, ent0 Ent.Evlog.LOG_LOST, ent0 Ent.Stw.COUNTER_SAT, ent0 Ent.Stw.STW_ECC_DROPS, ent0 Ent.Tws.PATHS, ent0 Ent.Tws.ROLE, ent1
  Ent.Adc.ENABLE, ent1 Ent.Adc.STATE, ent1 Ent.Bctx.COUNTER_SAT, ent1 Ent.Bctx.ENABLE, ent1 Ent.Bctx.FAILURES, ent1 Ent.Bctx.POSTED, ent1
  Ent.Bctx.READS, ent1 Ent.Bctx.RETRANSMITS, ent1 Ent.Bctx.SESSION, ent1 Ent.Bctx.STATE, ent1 Ent.Bctx.TIMEOUTS, ent1 Ent.CanCo.SDO_LAST_STATUS, ent1
  Ent.CanSt.COUNTER_SAT, ent1 Ent.CanSt.ENABLE, ent1 Ent.CanSt.STATE, ent1 Ent.CanSt.TX_DISCARDED, ent1 Ent.Dma.BYTES, ent1 Ent.Dma.COUNTER_SAT, ent1
  Ent.Dma.DESCRIPTORS, ent1 Ent.Dma.ENABLE, ent1 Ent.Dma.ERRORS, ent1 Ent.Dma.STALE, ent1 Ent.Dma.STATE, ent1 Ent.Hall.CMD_STATUS, ent1
  Ent.Hall.COUNTER_SAT, ent1 Ent.Hall.FROZEN_DROPS, ent1 Ent.Hall.RING_LOST, ent1 Ent.Hall.STATE, ent1 Ent.Heng.COUNTER_SAT, ent1 Ent.Heng.ENABLE,
  ent1 Ent.Heng.NO_QP, ent1 Ent.Heng.STATE, ent1 Ent.Lc.FLAGS, ent1 Ent.Port.EGRESS_FILTERED, ent1 Ent.Port.ENABLE, ent1 Ent.Port.LINK_DOWNS, ent1
  Ent.Port.PORT_SAT, ent1 Ent.Port.STATE, ent1 Ent.Port.TX_BYTES, ent1 Ent.Port.TX_FRAMES, ent1 Ent.Pq.COPIES_DROPPED, ent1 Ent.Pq.CT_ABORTED, ent1
  Ent.Pq.NO_DESC, ent1 Ent.Pq.OVERSIZE, ent1 Ent.Pq.PORT_SAT, ent1 Ent.Pq.Q_SAT, ent1 Ent.Qp.COUNTER_SAT, ent1 Ent.Qp.ENABLE, ent1 Ent.Qp.ERR_LOST,
  ent1 Ent.Qp.STATE, ent1 Ent.Qp.TX_ERRORS, ent1 Ent.Qp.TX_FRAMES, ent1 Ent.Stn.COUNTER_SAT, ent1 Ent.Stn.LOSSES, ent1 Ent.Stn.STATE, ent2
  Ent.Pq.DROP_DISABLED, ent2 Ent.Pq.DROP_DOWN, ent2 Ent.Pq.DROP_FULL, ent2 Ent.Pq.DROP_RESIDENCE, ent2 Ent.Pq.DROP_STW, ent2 Ent.Pq.Q_ENABLE, ent2
  Ent.Pq.Q_STATE], [word0 Rg.Smb.DONE, word0 Rg.Smb.MB_LEN, word0 Rg.Smb.MB_TOTAL, word1 Rg.Adcr.BUSY, word1 Rg.Ch.IRQ, word1 Rg.Dmar.ACTIVE, word1
  Rg.Dmar.HEAD, word1 Rg.Dmar.IRQ, word1 Rg.Hpg.RING_EN, word1 Rg.Hpg.RING_HEAD, word1 Rg.Mb.DONE, word1 Rg.Mb.MB_LEN, word1 Rg.Mb.MB_TOTAL, word1
  Rg.Plat.SYS_IRQ, word1 Rg.Qpr.ERR_HEAD, word1 Rg.Qpr.IRQ, word1 Rg.Qpr.TX_HEAD, word1 Rg.Smb.MB_DATA, word2 Rg.Ctx.BST_ADDR_HI, word2
  Rg.Ctx.BST_ADDR_LO, word2 Rg.Ctx.FAILED, word2 Rg.Ctx.FAR_CODE, word2 Rg.Ctx.IRQ, word2 Rg.Ctx.PW_DONE, word2 Rg.Ctx.SESSION, word2 Rg.Ep.MERGED,
  word2 Rg.Mb.MB_DATA, word2 Rg.Txb.CODE, word2 fun u k => rmb u k Rg.Mb.CODE, word2 fun u k => rmb u k Rg.Mb.GO, word2 fun u k => rmb u k
  Rg.Mb.MB_LEN, word2 fun u k => rmb u k Rg.Mb.MB_TOTAL, word3 fun u k i => rmb u k fun n => Rg.Mb.MB_DATA n i]⟩
def foot147 : Foot := ⟨[.epochs], [], []⟩
def foot148 : Foot := ⟨[.mem, .epochs, .free, .logs, .limits, .drains, .d0, .sw, .can, .sleep, .power, .br, .adc, .scan, .dma, .tenants, .harts,
  .twin], [ent0 Ent.Evlog.LAST_SEQ, ent0 Ent.Evlog.LOG_LOST, ent0 Ent.Stw.COUNTER_SAT, ent0 Ent.Stw.STW_ECC_DROPS, ent0 Ent.Tws.PATHS, ent0
  Ent.Tws.ROLE, ent1 Ent.Adc.ENABLE, ent1 Ent.Adc.STATE, ent1 Ent.Bctx.COUNTER_SAT, ent1 Ent.Bctx.ENABLE, ent1 Ent.Bctx.FAILURES, ent1
  Ent.Bctx.POSTED, ent1 Ent.Bctx.READS, ent1 Ent.Bctx.RETRANSMITS, ent1 Ent.Bctx.SESSION, ent1 Ent.Bctx.STATE, ent1 Ent.Bctx.TIMEOUTS, ent1
  Ent.CanCo.SDO_LAST_STATUS, ent1 Ent.CanSt.COUNTER_SAT, ent1 Ent.CanSt.ENABLE, ent1 Ent.CanSt.STATE, ent1 Ent.CanSt.TX_DISCARDED, ent1 Ent.Dma.BYTES,
  ent1 Ent.Dma.COUNTER_SAT, ent1 Ent.Dma.DESCRIPTORS, ent1 Ent.Dma.ENABLE, ent1 Ent.Dma.ERRORS, ent1 Ent.Dma.STALE, ent1 Ent.Dma.STATE, ent1
  Ent.Hall.CMD_STATUS, ent1 Ent.Hall.COUNTER_SAT, ent1 Ent.Hall.FROZEN_DROPS, ent1 Ent.Hall.RING_LOST, ent1 Ent.Hall.STATE, ent1 Ent.Heng.COUNTER_SAT,
  ent1 Ent.Heng.ENABLE, ent1 Ent.Heng.NO_QP, ent1 Ent.Heng.STATE, ent1 Ent.Lc.FLAGS, ent1 Ent.Port.EGRESS_FILTERED, ent1 Ent.Port.ENABLE, ent1
  Ent.Port.LINK_DOWNS, ent1 Ent.Port.PORT_SAT, ent1 Ent.Port.STATE, ent1 Ent.Port.TX_BYTES, ent1 Ent.Port.TX_FRAMES, ent1 Ent.Pq.COPIES_DROPPED, ent1
  Ent.Pq.CT_ABORTED, ent1 Ent.Pq.NO_DESC, ent1 Ent.Pq.OVERSIZE, ent1 Ent.Pq.PORT_SAT, ent1 Ent.Pq.Q_SAT, ent1 Ent.Qp.COUNTER_SAT, ent1 Ent.Qp.ENABLE,
  ent1 Ent.Qp.ERR_LOST, ent1 Ent.Qp.STATE, ent1 Ent.Qp.TX_ERRORS, ent1 Ent.Qp.TX_FRAMES, ent1 Ent.Stn.COUNTER_SAT, ent1 Ent.Stn.LOSSES, ent1
  Ent.Stn.STATE, ent2 Ent.Pq.DROP_DISABLED, ent2 Ent.Pq.DROP_DOWN, ent2 Ent.Pq.DROP_FULL, ent2 Ent.Pq.DROP_RESIDENCE, ent2 Ent.Pq.DROP_STW, ent2
  Ent.Pq.Q_ENABLE, ent2 Ent.Pq.Q_STATE], [word0 Rg.Smb.DONE, word0 Rg.Smb.MB_LEN, word0 Rg.Smb.MB_TOTAL, word1 Rg.Adcr.BUSY, word1 Rg.Ch.IRQ, word1
  Rg.Dmar.ACTIVE, word1 Rg.Dmar.HEAD, word1 Rg.Dmar.IRQ, word1 Rg.Hpg.RING_EN, word1 Rg.Hpg.RING_HEAD, word1 Rg.Lsr.VALID, word1 Rg.Mb.DONE, word1
  Rg.Mb.MB_LEN, word1 Rg.Mb.MB_TOTAL, word1 Rg.Plat.SYS_IRQ, word1 Rg.Qpr.ERR_HEAD, word1 Rg.Qpr.IRQ, word1 Rg.Qpr.TX_HEAD, word1 Rg.Smb.MB_DATA,
  word2 Rg.Ctx.BST_ADDR_HI, word2 Rg.Ctx.BST_ADDR_LO, word2 Rg.Ctx.FAILED, word2 Rg.Ctx.FAR_CODE, word2 Rg.Ctx.IRQ, word2 Rg.Ctx.PW_DONE, word2
  Rg.Ctx.SESSION, word2 Rg.Ep.MERGED, word2 Rg.Mb.MB_DATA, word2 Rg.Txb.CODE, word2 fun u k => rmb u k Rg.Mb.CODE, word2 fun u k => rmb u k Rg.Mb.GO,
  word2 fun u k => rmb u k Rg.Mb.MB_LEN, word2 fun u k => rmb u k Rg.Mb.MB_TOTAL, word3 fun u k i => rmb u k fun n => Rg.Mb.MB_DATA n i]⟩
def foot149 : Foot := ⟨[.mezz], [], []⟩
def foot150 : Foot := ⟨[.regs, .mem, .epochs, .free, .logs, .limits, .drains, .d0, .sw, .can, .sleep, .power, .br, .adc, .scan, .dma, .tenants, .mezz,
  .harts, .twin], [ent0 Ent.Evlog.LAST_SEQ, ent0 Ent.Evlog.LOG_LOST, ent0 Ent.Slog.SWDT_PERIOD_MS, ent0 Ent.Stw.COUNTER_SAT, ent0
  Ent.Stw.STW_ECC_DROPS, ent0 Ent.Tws.PATHS, ent0 Ent.Tws.ROLE, ent1 Ent.Adc.ENABLE, ent1 Ent.Adc.STATE, ent1 Ent.Bctx.COUNTER_SAT, ent1
  Ent.Bctx.ENABLE, ent1 Ent.Bctx.FAILURES, ent1 Ent.Bctx.POSTED, ent1 Ent.Bctx.READS, ent1 Ent.Bctx.RETRANSMITS, ent1 Ent.Bctx.SESSION, ent1
  Ent.Bctx.STATE, ent1 Ent.Bctx.TIMEOUTS, ent1 Ent.CanCo.SDO_LAST_STATUS, ent1 Ent.CanSt.COUNTER_SAT, ent1 Ent.CanSt.ENABLE, ent1 Ent.CanSt.STATE,
  ent1 Ent.CanSt.TX_DISCARDED, ent1 Ent.Core.CLAIMS, ent1 Ent.Core.COMPLETE_ERRORS, ent1 Ent.Core.COUNTER_SAT, ent1 Ent.Core.STACK_FULL, ent1
  Ent.Dma.BYTES, ent1 Ent.Dma.COUNTER_SAT, ent1 Ent.Dma.DESCRIPTORS, ent1 Ent.Dma.ENABLE, ent1 Ent.Dma.ERRORS, ent1 Ent.Dma.STALE, ent1 Ent.Dma.STATE,
  ent1 Ent.Hall.CMD_STATUS, ent1 Ent.Hall.COUNTER_SAT, ent1 Ent.Hall.FROZEN_DROPS, ent1 Ent.Hall.RING_LOST, ent1 Ent.Hall.STATE, ent1
  Ent.Heng.COUNTER_SAT, ent1 Ent.Heng.ENABLE, ent1 Ent.Heng.NO_QP, ent1 Ent.Heng.STATE, ent1 Ent.Lc.FLAGS, ent1 Ent.Port.EGRESS_FILTERED, ent1
  Ent.Port.ENABLE, ent1 Ent.Port.LINK_DOWNS, ent1 Ent.Port.PORT_SAT, ent1 Ent.Port.STATE, ent1 Ent.Port.TX_BYTES, ent1 Ent.Port.TX_FRAMES, ent1
  Ent.Pq.COPIES_DROPPED, ent1 Ent.Pq.CT_ABORTED, ent1 Ent.Pq.NO_DESC, ent1 Ent.Pq.OVERSIZE, ent1 Ent.Pq.PORT_SAT, ent1 Ent.Pq.Q_SAT, ent1
  Ent.Qp.COUNTER_SAT, ent1 Ent.Qp.ENABLE, ent1 Ent.Qp.ERR_LOST, ent1 Ent.Qp.STATE, ent1 Ent.Qp.TX_ERRORS, ent1 Ent.Qp.TX_FRAMES, ent1
  Ent.Stn.COUNTER_SAT, ent1 Ent.Stn.LOSSES, ent1 Ent.Stn.STATE, ent2 Ent.Pq.DROP_DISABLED, ent2 Ent.Pq.DROP_DOWN, ent2 Ent.Pq.DROP_FULL, ent2
  Ent.Pq.DROP_RESIDENCE, ent2 Ent.Pq.DROP_STW, ent2 Ent.Pq.Q_ENABLE, ent2 Ent.Pq.Q_STATE], []⟩
def foot151 : Foot := ⟨[.dict, .blobs, .regs, .mem, .epochs, .free, .logs, .limits, .drains, .time, .d0, .sw, .can, .sleep, .power, .br, .load, .adc,
  .scan, .dma, .tenants, .mezz, .clk, .harts, .twin], [], []⟩
def foot152 : Foot := ⟨[.dict, .blobs, .regs, .mem, .epochs, .free, .logs, .limits, .drains, .time, .d0, .sw, .can, .sleep, .power, .br, .load, .adc,
  .scan, .dma, .tenants, .mezz, .clk, .held, .harts, .twin], [], []⟩
def foot153 : Foot := ⟨[.mem, .logs, .dma, .tenants], [ent0 Ent.Evlog.LAST_SEQ, ent0 Ent.Evlog.LOG_LOST, ent0 Ent.Mem.COUNTER_SAT, ent0
  Ent.Mem.DRAM_CE, ent0 Ent.Mem.DRAM_UE, ent0 Ent.Mem.SRAM_CE, ent0 Ent.Mem.SRAM_UE, ent0 Ent.Mem.UE_LAST, ent1 Ent.Hall.RING_LOST], [word1
  Rg.Hpg.RING_HEAD, word1 Rg.Plat.SYS_IRQ]⟩
def foot154 : Foot := ⟨[.mem, .logs, .dma, .tenants, .clk], [ent0 Ent.Evlog.LAST_SEQ, ent0 Ent.Evlog.LOG_LOST, ent0 Ent.Mem.COUNTER_SAT, ent0
  Ent.Mem.DRAM_CE, ent0 Ent.Mem.DRAM_UE, ent0 Ent.Mem.SRAM_CE, ent0 Ent.Mem.SRAM_UE, ent0 Ent.Mem.UE_LAST, ent1 Ent.Hall.RING_LOST], [word1
  Rg.Hpg.RING_HEAD, word1 Rg.Plat.SYS_IRQ]⟩
def foot155 : Foot := ⟨[.mem, .logs, .limits, .dma, .tenants], [ent0 Ent.Evlog.LAST_SEQ, ent0 Ent.Evlog.LOG_LOST, ent0 Ent.Lease.COUNTER_SAT, ent0
  Ent.Lease.LEASE_REFUSALS, ent1 Ent.Hall.RING_LOST], [word1 Rg.Hpg.RING_HEAD, word1 Rg.M0Src.PENDING]⟩
def foot156 : Foot := ⟨[.mem, .free, .logs, .limits, .sw, .can, .sleep, .br, .dma, .tenants, .clk, .harts, .twin], [ent0 Ent.Clk.SSC_ACTIVE, ent0
  Ent.Evlog.LAST_SEQ, ent0 Ent.Evlog.LOG_LOST, ent0 Ent.Stw.COUNTER_SAT, ent0 Ent.Stw.STW_ECC_DROPS, ent1 Ent.Adc.ENABLE, ent1 Ent.Adc.STATE, ent1
  Ent.Bctx.COUNTER_SAT, ent1 Ent.Bctx.ENABLE, ent1 Ent.Bctx.FAILURES, ent1 Ent.Bctx.POSTED, ent1 Ent.Bctx.READS, ent1 Ent.Bctx.RETRANSMITS, ent1
  Ent.Bctx.SESSION, ent1 Ent.Bctx.STATE, ent1 Ent.Bctx.TIMEOUTS, ent1 Ent.CanSt.COUNTER_SAT, ent1 Ent.CanSt.ENABLE, ent1 Ent.CanSt.STATE, ent1
  Ent.CanSt.TX_DISCARDED, ent1 Ent.Dma.ENABLE, ent1 Ent.Dma.STATE, ent1 Ent.Hall.COUNTER_SAT, ent1 Ent.Hall.FROZEN_DROPS, ent1 Ent.Hall.RING_LOST,
  ent1 Ent.Heng.COUNTER_SAT, ent1 Ent.Heng.ENABLE, ent1 Ent.Heng.NO_QP, ent1 Ent.Heng.STATE, ent1 Ent.Port.EGRESS_FILTERED, ent1 Ent.Port.ENABLE, ent1
  Ent.Port.PORT_SAT, ent1 Ent.Port.STATE, ent1 Ent.Pq.CT_ABORTED, ent1 Ent.Pq.NO_DESC, ent1 Ent.Pq.OVERSIZE, ent1 Ent.Pq.PORT_SAT, ent1 Ent.Pq.Q_SAT,
  ent1 Ent.Qp.ENABLE, ent1 Ent.Qp.STATE, ent2 Ent.Pq.DROP_DISABLED, ent2 Ent.Pq.DROP_DOWN, ent2 Ent.Pq.DROP_FULL, ent2 Ent.Pq.DROP_RESIDENCE, ent2
  Ent.Pq.DROP_STW, ent2 Ent.Pq.Q_ENABLE, ent2 Ent.Pq.Q_STATE], [word0 Rg.Slpr.FW_PENDING, word1 Rg.Ch.TEC, word1 Rg.Dmar.ACTIVE, word1 Rg.Hpg.RING_EN,
  word1 Rg.Hpg.RING_HEAD, word1 Rg.Plat.SYS_IRQ, word2 Rg.Ctx.BST_ADDR_HI, word2 Rg.Ctx.BST_ADDR_LO, word2 Rg.Ctx.FAILED, word2 Rg.Ctx.FAR_CODE, word2
  Rg.Ctx.IRQ, word2 Rg.Ctx.SESSION, word2 Rg.Ep.MERGED, word2 fun u k => rmb u k Rg.Mb.CODE, word2 fun u k => rmb u k Rg.Mb.GO, word2 fun u k => rmb u
  k Rg.Mb.MB_LEN, word2 fun u k => rmb u k Rg.Mb.MB_TOTAL, word3 fun u k i => rmb u k fun n => Rg.Mb.MB_DATA n i]⟩
def foot157 : Foot := ⟨[.mem, .logs, .can, .dma, .tenants], [ent0 Ent.Evlog.LAST_SEQ, ent0 Ent.Evlog.LOG_LOST, ent1 Ent.CanSt.COUNTER_SAT, ent1
  Ent.CanSt.TX_FRAMES, ent1 Ent.Hall.RING_LOST], [word1 Rg.Hpg.RING_HEAD]⟩
def foot158 : Foot := ⟨[.mem, .logs, .can, .power, .dma, .tenants], [ent0 Ent.Evlog.LAST_SEQ, ent0 Ent.Evlog.LOG_LOST, ent1 Ent.CanSt.COUNTER_SAT,
  ent1 Ent.CanSt.TX_FRAMES, ent1 Ent.Hall.RING_LOST], [word1 Rg.Hpg.RING_HEAD]⟩
def foot159 : Foot := ⟨[.free], [ent0 Ent.Sec.DBG_CHALLENGE], []⟩
def foot160 : Foot := ⟨[.mem, .logs, .sleep, .dma, .tenants], [ent0 Ent.Evlog.LAST_SEQ, ent0 Ent.Evlog.LOG_LOST, ent1 Ent.Hall.RING_LOST, ent1
  Ent.Wsrc.COUNTER_SAT, ent1 Ent.Wsrc.FALSE_WAKES, ent1 Ent.Wsrc.FILTER_CUR, ent1 Ent.Wsrc.FW_COUNT, ent1 Ent.Wsrc.QUARANTINED], [word0
  Rg.Slpr.FW_PENDING, word1 Rg.Hpg.RING_HEAD, word1 Rg.Plat.SYS_IRQ]⟩
def foot161 : Foot := ⟨[.power], [], []⟩
def foot162 : Foot := ⟨[.ctrLatch, .ctrStage, .drains, .can, .sleep, .br, .adc, .dma, .sto], [ent1 Ent.Adc.STATE, ent1 Ent.Bctx.STATE, ent1
  Ent.CanSt.STATE, ent1 Ent.Dma.STATE, ent1 Ent.Heng.STATE, ent1 Ent.Port.STATE, ent1 Ent.Qp.STATE, ent2 Ent.Pq.Q_STATE], []⟩
def foot163 : Foot := ⟨[.mem, .logs, .sw, .dma, .tenants, .twin], [ent0 Ent.Evlog.LAST_SEQ, ent0 Ent.Evlog.LOG_LOST, ent0 Ent.Tws.PATHS, ent1
  Ent.Hall.COUNTER_SAT, ent1 Ent.Hall.RING_LOST], [word1 Rg.Hpg.RING_EN, word1 Rg.Hpg.RING_HEAD, word1 Rg.Plat.SYS_IRQ]⟩
def foot164 : Foot := ⟨[.br, .mezz, .held, .harts], [], [word0 Rg.M0Cpg.DEPTH, word0 Rg.M0Cpg.WFI, word1 Rg.Cpg.DEPTH, word1 Rg.Cpg.WFI, word1
  Rg.M0Cpg.STK_SRC, word1 Rg.M0Src.PENDING, word1 Rg.Src.PENDING, word2 Rg.Cpg.STK_SRC]⟩
def foot165 : Foot := ⟨[], [ent0 Ent.Stg.STAGING, ent0 Ent.Upd.STAGED_VERSION, ent0 Ent.Upd.STAGING_STATE], []⟩
def foot166 : Foot := ⟨[.d0], [ent0 Ent.Stg.STAGING, ent0 Ent.Upd.STAGED_VERSION, ent0 Ent.Upd.STAGING_STATE], []⟩
def foot167 : Foot := ⟨[.d0, .power], [ent0 Ent.Ndp.SESSIONS_OPEN, ent0 Ent.Stg.STAGING, ent0 Ent.Upd.STAGED_VERSION, ent0 Ent.Upd.STAGING_STATE],
  [word0 Rg.Smb.DONE]⟩
def foot168 : Foot := ⟨[.upd], [], []⟩
def foot169 : Foot := ⟨[.d0, .upd], [], []⟩
def foot170 : Foot := ⟨[.dict, .blobs], [], []⟩
def foot171 : Foot := ⟨[.dict, .blobs, .d0, .upd], [], []⟩
def foot172 : Foot := ⟨[.regs, .held], [], []⟩
def foot173 : Foot := ⟨[], [ent1 Ent.Bctx.HALL, ent1 Ent.Bind.HALL, ent1 Ent.Bu.ENDPOINTS, ent1 Ent.CanObj.OBJ_TABLE, ent1 Ent.CanObj.TXB_HALL, ent1
  Ent.Dma.HALL, ent1 Ent.Qp.HALL], []⟩
def foot174 : Foot := ⟨[.mem, .epochs, .logs, .dma, .tenants], [ent0 Ent.Evlog.LAST_SEQ, ent0 Ent.Evlog.LOG_LOST, ent1 Ent.Bctx.HALL, ent1
  Ent.Bind.HALL, ent1 Ent.Bu.ENDPOINTS, ent1 Ent.CanObj.OBJ_TABLE, ent1 Ent.CanObj.TXB_HALL, ent1 Ent.Dma.HALL, ent1 Ent.Hall.COUNTER_SAT, ent1
  Ent.Hall.RING_LOST, ent1 Ent.Hall.STATE, ent1 Ent.Qp.HALL], [word1 Rg.Hpg.RING_EN, word1 Rg.Hpg.RING_HEAD]⟩
def foot175 : Foot := ⟨[.epochs, .can], [], [word2 Rg.Obj.EXPIRED, word2 Rg.Obj.NEW]⟩
def foot176 : Foot := ⟨[.epochs, .can], [], [word1 Rg.Ch.IRQ, word2 Rg.Obj.EXPIRED, word2 Rg.Obj.NEW, word2 Rg.Txb.CODE]⟩
def foot177 : Foot := ⟨[.br], [ent1 Ent.Bctx.SESSION], [word2 Rg.Ctx.SESSION]⟩
def foot178 : Foot := ⟨[.epochs, .br], [ent1 Ent.Bctx.SESSION], [word2 Rg.Ctx.SESSION]⟩
def foot179 : Foot := ⟨[.mem, .epochs, .logs, .can, .br, .dma, .tenants], [ent0 Ent.Evlog.LAST_SEQ, ent0 Ent.Evlog.LOG_LOST, ent1 Ent.Bctx.HALL, ent1
  Ent.Bctx.SESSION, ent1 Ent.Bind.HALL, ent1 Ent.Bu.ENDPOINTS, ent1 Ent.CanObj.OBJ_TABLE, ent1 Ent.CanObj.TXB_HALL, ent1 Ent.Dma.HALL, ent1
  Ent.Hall.COUNTER_SAT, ent1 Ent.Hall.RING_LOST, ent1 Ent.Hall.STATE, ent1 Ent.Qp.HALL], [word1 Rg.Ch.IRQ, word1 Rg.Hpg.RING_EN, word1
  Rg.Hpg.RING_HEAD, word2 Rg.Ctx.SESSION, word2 Rg.Obj.EXPIRED, word2 Rg.Obj.NEW, word2 Rg.Txb.CODE]⟩
def foot180 : Foot := ⟨[.mem, .logs, .sw, .dma, .tenants], [ent0 Ent.Evlog.LAST_SEQ, ent0 Ent.Evlog.LOG_LOST, ent1 Ent.Hall.RING_LOST, ent1
  Ent.Port.PORT_SAT, ent1 Ent.Port.TX_OVERRUN], [word1 Rg.Hpg.RING_HEAD]⟩
def foot181 : Foot := ⟨[.sto], [], []⟩
def foot182 : Foot := ⟨[.sto], [ent0 Ent.Stlog.LOG_OLDEST], []⟩
def foot183 : Foot := ⟨[.sto], [ent0 Ent.Stlog.LOG_MIB, ent0 Ent.Stlog.LOG_OLDEST], []⟩
def foot184 : Foot := ⟨[], [ent0 Ent.Swc.SHARED_SIZE], []⟩
def foot185 : Foot := ⟨[.mem, .logs, .dma, .tenants], [ent0 Ent.Evlog.LAST_SEQ, ent0 Ent.Evlog.LOG_LOST, ent1 Ent.CanCo.NMT, ent1 Ent.Hall.RING_LOST],
  [word1 Rg.Hpg.RING_HEAD]⟩
def foot186 : Foot := ⟨[.mem, .logs, .can, .dma, .tenants], [ent0 Ent.Evlog.LAST_SEQ, ent0 Ent.Evlog.LOG_LOST, ent1 Ent.CanCo.NMT, ent1
  Ent.CanSt.COUNTER_SAT, ent1 Ent.CanSt.TX_DISCARDED, ent1 Ent.Co.CONSUMER_HB, ent1 Ent.Co.RPDO_CHANNEL, ent1 Ent.Co.RPDO_COB, ent1
  Ent.Co.RPDO_EVENT_TIMER, ent1 Ent.Co.RPDO_INHIBIT, ent1 Ent.Co.RPDO_MAP_COUNT, ent1 Ent.Co.RPDO_SLOT, ent1 Ent.Co.RPDO_TYPE, ent1 Ent.Co.SDO_RX_COB,
  ent1 Ent.Co.SDO_TX_COB, ent1 Ent.Co.TPDO_CHANNEL, ent1 Ent.Co.TPDO_COB, ent1 Ent.Co.TPDO_EVENT_TIMER, ent1 Ent.Co.TPDO_INHIBIT, ent1
  Ent.Co.TPDO_MAP_COUNT, ent1 Ent.Co.TPDO_SLOT, ent1 Ent.Co.TPDO_TYPE, ent1 Ent.Hall.RING_LOST, ent2 Ent.Co.RPDO_MAP, ent2 Ent.Co.TPDO_MAP], [word1
  Rg.Hpg.RING_HEAD]⟩
def foot187 : Foot := ⟨[.mem, .free, .logs, .limits, .sw, .can, .sleep, .br, .dma, .tenants, .clk, .harts, .twin], [ent0 Ent.Clk.SSC_ACTIVE, ent0
  Ent.Evlog.LAST_SEQ, ent0 Ent.Evlog.LOG_LOST, ent0 Ent.Stw.COUNTER_SAT, ent0 Ent.Stw.STW_ECC_DROPS, ent1 Ent.Adc.STATE, ent1 Ent.Bctx.COUNTER_SAT,
  ent1 Ent.Bctx.FAILURES, ent1 Ent.Bctx.POSTED, ent1 Ent.Bctx.READS, ent1 Ent.Bctx.RETRANSMITS, ent1 Ent.Bctx.SESSION, ent1 Ent.Bctx.STATE, ent1
  Ent.Bctx.TIMEOUTS, ent1 Ent.CanSt.COUNTER_SAT, ent1 Ent.CanSt.STATE, ent1 Ent.CanSt.TX_DISCARDED, ent1 Ent.Dma.STATE, ent1 Ent.Hall.COUNTER_SAT,
  ent1 Ent.Hall.FROZEN_DROPS, ent1 Ent.Hall.RING_LOST, ent1 Ent.Heng.COUNTER_SAT, ent1 Ent.Heng.NO_QP, ent1 Ent.Heng.STATE, ent1
  Ent.Port.EGRESS_FILTERED, ent1 Ent.Port.PORT_SAT, ent1 Ent.Port.STATE, ent1 Ent.Pq.CT_ABORTED, ent1 Ent.Pq.NO_DESC, ent1 Ent.Pq.OVERSIZE, ent1
  Ent.Pq.PORT_SAT, ent1 Ent.Pq.Q_SAT, ent1 Ent.Qp.STATE, ent2 Ent.Pq.DROP_DISABLED, ent2 Ent.Pq.DROP_DOWN, ent2 Ent.Pq.DROP_FULL, ent2
  Ent.Pq.DROP_RESIDENCE, ent2 Ent.Pq.DROP_STW, ent2 Ent.Pq.Q_STATE], [word0 Rg.Slpr.FW_PENDING, word1 Rg.Ch.TEC, word1 Rg.Dmar.ACTIVE, word1
  Rg.Hpg.RING_EN, word1 Rg.Hpg.RING_HEAD, word1 Rg.Plat.SYS_IRQ, word2 Rg.Ctx.BST_ADDR_HI, word2 Rg.Ctx.BST_ADDR_LO, word2 Rg.Ctx.FAILED, word2
  Rg.Ctx.FAR_CODE, word2 Rg.Ctx.IRQ, word2 Rg.Ctx.SESSION, word2 Rg.Ep.MERGED, word2 fun u k => rmb u k Rg.Mb.CODE, word2 fun u k => rmb u k Rg.Mb.GO,
  word2 fun u k => rmb u k Rg.Mb.MB_LEN, word2 fun u k => rmb u k Rg.Mb.MB_TOTAL, word3 fun u k i => rmb u k fun n => Rg.Mb.MB_DATA n i]⟩
def foot188 : Foot := ⟨[], [ent1 Ent.Trgu.ENABLE, ent1 Ent.Trgu.OWNER], []⟩
def foot189 : Foot := ⟨[.mem, .logs, .dma, .tenants], [ent0 Ent.Evlog.LAST_SEQ, ent0 Ent.Evlog.LOG_LOST, ent0 Ent.Se.RETAIN_STATUS, ent1
  Ent.Hall.RING_LOST], [word1 Rg.Hpg.RING_HEAD, word1 Rg.Plat.SYS_IRQ]⟩
def foot190 : Foot := ⟨[.scan], [ent1 Ent.Stn.STATE], []⟩
def foot191 : Foot := ⟨[.mem, .logs, .dma, .tenants, .twin], [ent0 Ent.Evlog.LAST_SEQ, ent0 Ent.Evlog.LOG_LOST, ent0 Ent.Frc.FORCE_COUNT, ent0
  Ent.Frc.FORCE_GEN, ent1 Ent.Hall.RING_LOST, ent1 Ent.Port.PORT_SAT, ent1 Ent.Port.TX_BYTES, ent1 Ent.Port.TX_FRAMES], [word1 Rg.Hpg.RING_HEAD]⟩
def foot192 : Foot := ⟨[.mem, .logs, .scan, .dma, .tenants, .twin], [ent0 Ent.Evlog.LAST_SEQ, ent0 Ent.Evlog.LOG_LOST, ent0 Ent.Frc.FORCE_COUNT, ent0
  Ent.Frc.FORCE_GEN, ent1 Ent.Hall.RING_LOST, ent1 Ent.Port.PORT_SAT, ent1 Ent.Port.TX_BYTES, ent1 Ent.Port.TX_FRAMES], [word1 Rg.Hpg.RING_HEAD, word1
  Rg.Plat.SYS_IRQ]⟩
def foot193 : Foot := ⟨[.mem, .logs, .load, .scan, .dma, .tenants, .clk, .upd, .twin], [ent0 Ent.Clk.SSC_ACTIVE, ent0 Ent.Evlog.LAST_SEQ, ent0
  Ent.Evlog.LOG_LOST, ent0 Ent.Frc.FORCE_COUNT, ent0 Ent.Frc.FORCE_GEN, ent0 Ent.Se.ACTIVE_ID, ent0 Ent.Se.RETAIN_STATUS, ent0 Ent.Se.STATE, ent0
  Ent.Seimg.ACTIVE_IMAGE, ent1 Ent.Hall.COUNTER_SAT, ent1 Ent.Hall.RING_LOST, ent1 Ent.Lc.FLAGS, ent1 Ent.Lc.STATE, ent1 Ent.Port.PORT_SAT, ent1
  Ent.Port.TX_BYTES, ent1 Ent.Port.TX_FRAMES, ent1 Ent.Stn.STATE, ent1 Ent.Trgu.ENABLE, ent1 Ent.Trgu.OWNER], [word1 Rg.Hpg.RING_EN, word1
  Rg.Hpg.RING_HEAD, word1 Rg.Plat.SYS_IRQ]⟩
def foot194 : Foot := ⟨[.time], [ent1 Ent.Trgu.COUNT, ent1 Ent.Trgu.ENABLE, ent1 Ent.Trgu.NEXT_NS, ent1 Ent.Trgu.OWNER, ent1 Ent.Trgu.PERIOD_NS, ent1
  Ent.Trgu.START_NS, ent1 Ent.Trgu.TARGET], []⟩
def foot195 : Foot := ⟨[.scan], [ent1 Ent.Task.COUNTER_SAT, ent1 Ent.Task.CYCLES, ent1 Ent.Task.LAST_EXEC_NS, ent1 Ent.Task.MAX_DELAY_NS, ent1
  Ent.Task.MAX_EXEC_NS, ent1 Ent.Task.MERGED, ent1 Ent.Task.SKIPPED], []⟩
def foot196 : Foot := ⟨[.mem, .logs, .time, .scan, .dma, .tenants], [ent0 Ent.Evlog.LAST_SEQ, ent0 Ent.Evlog.LOG_LOST, ent0 Ent.Se.STATE, ent1
  Ent.Hall.COUNTER_SAT, ent1 Ent.Hall.RING_LOST, ent1 Ent.Task.COUNTER_SAT, ent1 Ent.Task.CYCLES, ent1 Ent.Task.LAST_EXEC_NS, ent1
  Ent.Task.MAX_DELAY_NS, ent1 Ent.Task.MAX_EXEC_NS, ent1 Ent.Task.MERGED, ent1 Ent.Task.SKIPPED, ent1 Ent.Trgu.COUNT, ent1 Ent.Trgu.ENABLE, ent1
  Ent.Trgu.NEXT_NS, ent1 Ent.Trgu.OWNER, ent1 Ent.Trgu.PERIOD_NS, ent1 Ent.Trgu.START_NS, ent1 Ent.Trgu.TARGET], [word1 Rg.Hpg.RING_EN, word1
  Rg.Hpg.RING_HEAD, word1 Rg.Plat.SYS_IRQ]⟩
def foot197 : Foot := ⟨[.mem, .logs, .time, .load, .scan, .dma, .tenants, .clk, .upd, .twin], [ent0 Ent.Chg.CHANGES, ent0 Ent.Chg.CHANGE_RESULT, ent0
  Ent.Chg.CHANGE_STATE, ent0 Ent.Chg.CHANGE_STATUS, ent0 Ent.Chg.COUNTER_SAT, ent0 Ent.Chg.REFUSALS, ent0 Ent.Clk.SSC_ACTIVE, ent0 Ent.Evlog.LAST_SEQ,
  ent0 Ent.Evlog.LOG_LOST, ent0 Ent.Frc.FORCE_COUNT, ent0 Ent.Frc.FORCE_GEN, ent0 Ent.Pwr.BOOT_MS, ent0 Ent.Se.ACTIVE_ID, ent0 Ent.Se.RETAIN_STATUS,
  ent0 Ent.Se.STATE, ent0 Ent.Seimg.ACTIVE_IMAGE, ent1 Ent.Hall.COUNTER_SAT, ent1 Ent.Hall.RING_LOST, ent1 Ent.Lc.FLAGS, ent1 Ent.Lc.STATE, ent1
  Ent.Port.PORT_SAT, ent1 Ent.Port.TX_BYTES, ent1 Ent.Port.TX_FRAMES, ent1 Ent.Stn.STATE, ent1 Ent.Task.COUNTER_SAT, ent1 Ent.Task.CYCLES, ent1
  Ent.Task.LAST_EXEC_NS, ent1 Ent.Task.MAX_DELAY_NS, ent1 Ent.Task.MAX_EXEC_NS, ent1 Ent.Task.MERGED, ent1 Ent.Task.SKIPPED, ent1 Ent.Trgu.COUNT, ent1
  Ent.Trgu.ENABLE, ent1 Ent.Trgu.NEXT_NS, ent1 Ent.Trgu.OWNER, ent1 Ent.Trgu.PERIOD_NS, ent1 Ent.Trgu.START_NS, ent1 Ent.Trgu.TARGET], [word1
  Rg.Hpg.RING_EN, word1 Rg.Hpg.RING_HEAD, word1 Rg.Plat.SYS_IRQ]⟩
def foot198 : Foot := ⟨[.dict, .blobs, .regs, .mem, .epochs, .free, .logs, .limits, .ctrLatch, .ctrStage, .drains, .time, .d0, .sw, .can, .sleep,
  .power, .br, .load, .adc, .scan, .dma, .tenants, .mezz, .clk, .sto, .upd, .held, .harts, .twin], [], []⟩
def foot199 : Foot := ⟨[.load], [ent1 Ent.Lc.CMD, ent1 Ent.Lc.FLAGS, ent1 Ent.Lc.RETRIES_LEFT, ent1 Ent.Lc.STATE], []⟩
def foot200 : Foot := ⟨[.mem, .logs, .load, .scan, .dma, .tenants, .clk], [ent0 Ent.Chg.CHANGES, ent0 Ent.Chg.CHANGE_RESULT, ent0
  Ent.Chg.CHANGE_STATE, ent0 Ent.Chg.CHANGE_STATUS, ent0 Ent.Chg.COUNTER_SAT, ent0 Ent.Chg.REFUSALS, ent0 Ent.Clk.SSC_ACTIVE, ent0 Ent.Evlog.LAST_SEQ,
  ent0 Ent.Evlog.LOG_LOST, ent0 Ent.Se.STATE, ent1 Ent.Hall.COUNTER_SAT, ent1 Ent.Hall.RING_LOST, ent1 Ent.Lc.FLAGS, ent1 Ent.Lc.STATE, ent1
  Ent.Trgu.ENABLE, ent1 Ent.Trgu.OWNER], [word0 Rg.M0Cpg.DEPTH, word1 Rg.Cpg.DEPTH, word1 Rg.Hpg.RING_EN, word1 Rg.Hpg.RING_HEAD, word1
  Rg.M0Cpg.STK_SRC, word1 Rg.Plat.SYS_IRQ, word1 Rg.Src.PENDING, word2 Rg.Cpg.STK_SRC]⟩

theorem Dev.svcSend_only (d : Dev) (n : Nat) (cob : Nat) (b : Bytes) : Only foot50 d (Dev.svcSend d n cob b) := by
  unfold Dev.svcSend
  repeat' first
    | with_reducible exact Only.refl
    | with_reducible apply Foot.Sub.mk; decide +kernel
    | with_reducible apply Only.step (Dev.svcQueue_only ..)

theorem Dev.tpdoSend_only (d : Dev) (k : Nat) (b : Bytes) : Only foot50 d (Dev.tpdoSend d k b) := by
  unfold Dev.tpdoSend
  repeat' first
    | with_reducible exact Only.refl
    | with_reducible apply Foot.Sub.mk; decide +kernel
    | with_reducible apply Only.ite
    | with_reducible apply Only.step (Dev.svcSend_only ..)

theorem Dev.publishPdos_only (d : Dev) (maps : List MapRec) : Only foot98 d (Dev.publishPdos d maps) := by
  unfold Dev.publishPdos
  repeat' first
    | with_reducible exact Only.refl
    | with_reducible apply Foot.Sub.mk; decide +kernel
    | with_reducible apply Only.ite
    | with_reducible apply Only.foldl
    | with_reducible apply Only.count (has_slotCounter_3 ..)
    | with_reducible apply Only.count (has_slotCounter_4 ..)
    | with_reducible apply Only.step (Dev.setSlot_only ..)
    | with_reducible apply Only.step (Dev.tpdoSend_only ..)
    | with_reducible intro _

theorem Dev.setLoadFlag_only (d : Dev) (n : Nat) (i : Nat) (b : Bool) : Only foot99 d (Dev.setLoadFlag d n i b) := by
  unfold Dev.setLoadFlag
  repeat' first
    | with_reducible exact Only.refl
    | with_reducible apply Foot.Sub.mk; decide +kernel
    | with_reducible apply Only.putBit (has_Lc_FLAGS ..)

theorem Dev.setLoad_only (d : Dev) (f : LoadSt → LoadSt) : Only foot100 d (Dev.setLoad d f) := by
  have h_load : Part.In .load foot100 := ⟨by decide +kernel⟩
  unfold Dev.setLoad
  repeat' first
    | with_reducible exact Only.refl
    | simp only [Only.set_load_eq h_load]

theorem Dev.setLoadCh_only (d : Dev) (n : Nat) (f : LoadCh → LoadCh) : Only foot100 d (Dev.setLoadCh d n f) := by
  unfold Dev.setLoadCh
  repeat' first
    | with_reducible exact Only.refl
    | with_reducible apply Foot.Sub.mk; decide +kernel
    | with_reducible apply Only.step (Dev.setLoad_only ..)

theorem Dev.windowGoesOn_only (d : Dev) (n : Nat) : Only foot100 d (Dev.windowGoesOn d n) := by
  unfold Dev.windowGoesOn
  repeat' first
    | with_reducible exact Only.refl
    | with_reducible apply Foot.Sub.mk; decide +kernel
    | with_reducible apply Only.ite
    | with_reducible apply Only.step (Dev.setLoadCh_only ..)

theorem Dev.enterLoad_only (d : Dev) (n : Nat) (st : Nat) : Only foot101 d (Dev.enterLoad d n st) := by
  unfold Dev.enterLoad
  repeat' first
    | with_reducible exact Only.refl
    | with_reducible apply Foot.Sub.mk; decide +kernel
    | with_reducible apply Only.ite
    | with_reducible apply Only.put (has_Lc_STATE ..)
    | with_reducible apply Only.step (Dev.setLoadCh_only ..)
    | with_reducible apply Only.step (Dev.setLoadFlag_only ..)

theorem Dev.refillRetries_only (d : Dev) (n : Nat) : Only foot102 d (Dev.refillRetries d n) := by
  unfold Dev.refillRetries
  repeat' first
    | with_reducible exact Only.refl
    | with_reducible apply Foot.Sub.mk; decide +kernel
    | with_reducible apply Only.put (has_Lc_RETRIES_LEFT ..)

theorem Dev.clearLoad_only (d : Dev) (n : Nat) : Only foot103 d (Dev.clearLoad d n) := by
  unfold Dev.clearLoad
  repeat' first
    | with_reducible exact Only.refl
    | with_reducible apply Foot.Sub.mk; decide +kernel
    | with_reducible apply Only.ite
    | with_reducible apply Only.step (Dev.enterLoad_only ..)
    | with_reducible apply Only.step (Dev.refillRetries_only ..)

theorem Dev.startInrush_only (d : Dev) (n : Nat) : Only foot101 d (Dev.startInrush d n) := by
  unfold Dev.startInrush
  repeat' first
    | with_reducible exact Only.refl
    | with_reducible apply Foot.Sub.mk; decide +kernel
    | with_reducible apply Only.step (Dev.enterLoad_only ..)

theorem Dev.followOn_only (d : Dev) (n : Nat) : Only foot101 d (Dev.followOn d n) := by
  unfold Dev.followOn
  repeat' first
    | with_reducible exact Only.refl
    | with_reducible apply Foot.Sub.mk; decide +kernel
    | with_reducible apply Only.ite
    | with_reducible apply Only.step (Dev.startInrush_only ..)

theorem Dev.loadCommand_only (d : Dev) (m : Nat) (v : Nat) : Only foot104 d (Dev.loadCommand d m v) := by
  unfold Dev.loadCommand
  repeat' first
    | with_reducible exact Only.refl
    | with_reducible apply Foot.Sub.mk; decide +kernel
    | with_reducible apply Only.ite
    | with_reducible apply Only.step (Dev.clearLoad_only ..)
    | with_reducible apply Only.step (Dev.enterLoad_only ..)
    | with_reducible apply Only.step (Dev.followOn_only ..)
    | with_reducible apply Only.step (Dev.refillRetries_only ..)
    | with_reducible apply Only.step (Dev.setLoadCh_only ..)
    | with_reducible apply Only.step (Dev.setLoadFlag_only ..)
    | with_reducible apply Only.step (Dev.sscEnds_only ..)
    | with_reducible apply Only.step (Dev.windowGoesOn_only ..)

theorem Dev.publishLoads_only (d : Dev) (maps : List MapRec) : Only foot104 d (Dev.publishLoads d maps) := by
  unfold Dev.publishLoads
  repeat' first
    | with_reducible exact Only.refl
    | with_reducible apply Foot.Sub.mk; decide +kernel
    | with_reducible apply Only.ite
    | with_reducible apply Only.foldl
    | with_reducible apply Only.step (Dev.loadCommand_only ..)
    | with_reducible intro _

theorem Dev.publish_only (d : Dev) (t : Nat) : Only foot105 d (Dev.publish d t) := by
  unfold Dev.publish
  repeat' first
    | with_reducible exact Only.refl
    | with_reducible apply Foot.Sub.mk; decide +kernel
    | with_reducible apply Only.ite
    | with_reducible apply Only.foldl
    | with_reducible apply Only.step (Dev.ownOutputs_only ..)
    | with_reducible apply Only.step (Dev.publishLoads_only ..)
    | with_reducible apply Only.step (Dev.publishPdos_only ..)
    | with_reducible apply Only.step (Dev.publishStation_only ..)
    | with_reducible apply Only.step (Dev.sendOutputs_only ..)
    | with_reducible apply Only.step (Dev.setTwin_only ..)
    | with_reducible intro _

theorem Dev.setD0_only (d : Dev) (f : DictUnit → DictUnit) : Only foot106 d (Dev.setD0 d f) := by
  have h_d0 : Part.In .d0 foot106 := ⟨by decide +kernel⟩
  unfold Dev.setD0
  repeat' first
    | with_reducible exact Only.refl
    | simp only [Only.set_d0_eq h_d0]

theorem Dev.sdoSend_only (d : Dev) (n : Nat) (s : Status) (b : Bytes) : Only foot107 d (Dev.sdoSend d n s b) := by
  unfold Dev.sdoSend
  repeat' first
    | with_reducible exact Only.refl
    | with_reducible apply Foot.Sub.mk; decide +kernel
    | with_reducible apply Only.put (has_CanCo_SDO_LAST_STATUS ..)
    | with_reducible apply Only.step (Dev.svcSend_only ..)

theorem Dev.setSdo_only (d : Dev) (n : Nat) (x : SdoState) : Only foot24 d (Dev.setSdo d n x) := by
  unfold Dev.setSdo
  repeat' first
    | with_reducible exact Only.refl
    | with_reducible apply Foot.Sub.mk; decide +kernel
    | with_reducible apply Only.step (Dev.setCan_only ..)

theorem Dev.sdoAbort_only (d : Dev) (n : Nat) (idx : Nat) (sub : Nat) (s : Status) : Only foot107 d (Dev.sdoAbort d n idx sub s) := by
  unfold Dev.sdoAbort
  repeat' first
    | with_reducible exact Only.refl
    | with_reducible apply Foot.Sub.mk; decide +kernel
    | with_reducible apply Only.step (Dev.sdoSend_only ..)
    | with_reducible apply Only.step (Dev.setSdo_only ..)

theorem Dev.sdoAnswer_only (d : Dev) (n : Nat) (s : Status) (b : Bytes) : Only foot107 d (Dev.sdoAnswer d n s b) := by
  unfold Dev.sdoAnswer
  repeat' first
    | with_reducible exact Only.refl
    | with_reducible apply Foot.Sub.mk; decide +kernel
    | with_reducible apply Only.ite
    | with_reducible apply Only.step (Dev.sdoAbort_only ..)
    | with_reducible apply Only.step (Dev.sdoSend_only ..)
    | with_reducible apply Only.step (Dev.setSdo_only ..)
    | dsimp only
    | split

theorem Dev.sendSwitched_only (d : Dev) (vid : Nat) (f : Frame) (n : Nat) : Only foot51 d (Dev.sendSwitched d vid f n) := by
  unfold Dev.sendSwitched
  repeat' first
    | with_reducible exact Only.refl
    | with_reducible apply Foot.Sub.mk; decide +kernel
    | with_reducible apply Only.ite
    | with_reducible apply Only.foldl
    | with_reducible apply Only.step (Dev.sendTcm_only ..)
    | with_reducible intro _

theorem Dev.ndpSend_only (d : Dev) (session : Nat) (seq : Nat) (net : List Nat) (s : Status) (w : Bytes) : Only foot51 d (Dev.ndpSend d session seq net s w) := by
  unfold Dev.ndpSend
  repeat' first
    | with_reducible exact Only.refl
    | with_reducible apply Foot.Sub.mk; decide +kernel
    | with_reducible apply Only.emit
    | with_reducible apply Only.step (Dev.sendSwitched_only ..)

theorem Dev.ndpRespond_only (d : Dev) (o : Origin) (op : Nat) (status : Status) (payload : Bytes) : Only foot108 d (Dev.ndpRespond d o op status payload) := by
  unfold Dev.ndpRespond
  repeat' first
    | with_reducible exact Only.refl
    | with_reducible apply Foot.Sub.mk; decide +kernel
    | with_reducible apply Only.step (Dev.ndpSend_only ..)
    | with_reducible apply Only.step (Dev.setD0_only ..)
    | dsimp only
    | split

theorem Dev.bridgeDictDone_only (d : Dev) (k : Nat) (status : Status) (data : Bytes) : Only foot64 d (Dev.bridgeDictDone d k status data) := by
  unfold Dev.bridgeDictDone
  repeat' first
    | with_reducible exact Only.refl
    | with_reducible apply Foot.Sub.mk; decide +kernel
    | with_reducible apply Only.step (Dev.serveAnswer_only ..)
    | split

theorem Only.mbDone {F : Foot} {a b : Dev} {fs : List Fam} {len total code busy dn : Field} {data : Nat → Field} {r : Bool} {s : Status} {t : Nat} {l : Bytes} (h1 : hasKey fs len.addr) (h2 : hasKey fs total.addr) (h3 : hasKey fs code.addr) (h4 : hasKey fs busy.addr) (h5 : hasKey fs dn.addr) (hk : ∀ i, hasKey fs (data i).addr) (hf : Foot.Sub ⟨[], [], fs⟩ F) (h : Only F a b) : Only F a (b.mbDone len total code busy dn data r s t l) := by
  unfold Dev.mbDone
  refine Only.setFld h5 hf (Only.setFld h4 hf (Only.setFld h3 hf ?_))
  split
  · exact Only.setFld h2 hf (Only.setFld h1 hf (Only.setMbBytes hk hf h))
  · exact h

theorem Only.mbDoneHall {F : Foot} {a b : Dev} {h : Nat} {r : Bool} {s : Status} {t : Nat} {l : Bytes} (hf : Foot.Sub ⟨[], [], [word1 Rg.Mb.MB_LEN, word1 Rg.Mb.MB_TOTAL, word1 Rg.Mb.DONE, word2 Rg.Mb.MB_DATA]⟩ F) (g : Only F a b) :
    Only F a (b.mbDone (Rg.Mb.MB_LEN h) (Rg.Mb.MB_TOTAL h) (Rg.Mb.CODE h) (Rg.Mb.BUSY h) (Rg.Mb.DONE h) (Rg.Mb.MB_DATA h) r s t l) :=
  Only.mbDone ⟨_, List.mem_of_getElem? (i := 0) rfl, h, 0, 0, by simp only [word1, Rg.Mb.MB_LEN]; omega⟩ ⟨_, List.mem_of_getElem? (i := 1) rfl, h, 0, 0, by simp only [word1, Rg.Mb.MB_TOTAL]; omega⟩ ⟨_, List.mem_of_getElem? (i := 2) rfl, h, 0, 0, by simp only [word1, Rg.Mb.CODE, Rg.Mb.DONE]; omega⟩ ⟨_, List.mem_of_getElem? (i := 2) rfl, h, 0, 0, by simp only [word1, Rg.Mb.BUSY, Rg.Mb.DONE]; omega⟩ ⟨_, List.mem_of_getElem? (i := 2) rfl, h, 0, 0, by simp only [word1, Rg.Mb.DONE]; omega⟩ (fun i => ⟨_, List.mem_of_getElem? (i := 3) rfl, h, i, 0, by simp only [word2, Rg.Mb.MB_DATA]; omega⟩) hf g

theorem Only.mbDoneSecure {F : Foot} {a b : Dev} {r : Bool} {s : Status} {t : Nat} {l : Bytes} (hf : Foot.Sub ⟨[], [], [word0 Rg.Smb.MB_LEN, word0 Rg.Smb.MB_TOTAL, word0 Rg.Smb.DONE, word1 Rg.Smb.MB_DATA]⟩ F) (g : Only F a b) :
    Only F a (b.mbDone Rg.Smb.MB_LEN Rg.Smb.MB_TOTAL Rg.Smb.CODE Rg.Smb.BUSY Rg.Smb.DONE Rg.Smb.MB_DATA r s t l) :=
  Only.mbDone ⟨_, List.mem_of_getElem? (i := 0) rfl, 0, 0, 0, by decide⟩ ⟨_, List.mem_of_getElem? (i := 1) rfl, 0, 0, 0, by decide⟩ ⟨_, List.mem_of_getElem? (i := 2) rfl, 0, 0, 0, by decide⟩ ⟨_, List.mem_of_getElem? (i := 2) rfl, 0, 0, 0, by decide⟩ ⟨_, List.mem_of_getElem? (i := 2) rfl, 0, 0, 0, by decide⟩ (fun i => ⟨_, List.mem_of_getElem? (i := 3) rfl, i, 0, 0, by simp only [word1, Rg.Smb.MB_DATA]; omega⟩) hf g

theorem Dev.respond_only (d : Dev) (o : Origin) (read : Bool) (status : Status) (desc : Bytes) (total : Nat) (b : Bytes) : Only foot109 d (Dev.respond d o read status desc total b) := by
  have h_power : Part.In .power foot109 := ⟨by decide +kernel⟩
  have h_tenants : Part.In .tenants foot109 := ⟨by decide +kernel⟩
  unfold Dev.respond
  repeat' first
    | with_reducible exact Only.refl
    | with_reducible apply Foot.Sub.mk; decide +kernel
    | with_reducible apply Only.ite
    | with_reducible apply Only.mbDoneHall
    | with_reducible apply Only.mbDoneSecure
    | with_reducible apply Only.step (Dev.bridgeDictDone_only ..)
    | with_reducible apply Only.step (Dev.ctrl_only ..)
    | with_reducible apply Only.step (Dev.ndpRespond_only ..)
    | with_reducible apply Only.step (Dev.sdoAnswer_only ..)
    | with_reducible apply Only.step (Dev.setD0_only ..)
    | simp only [Only.set_power_eq h_power]
    | simp only [Only.set_tenants_eq h_tenants]
    | split

theorem Dev.finish_only (d : Dev) (key : Nat) (status : Status) : Only foot109 d (Dev.finish d key status) := by
  unfold Dev.finish
  repeat' first
    | with_reducible exact Only.refl
    | with_reducible apply Foot.Sub.mk; decide +kernel
    | with_reducible apply Only.answer
    | with_reducible apply Only.step (Dev.respond_only ..)
    | with_reducible apply Only.step (Dev.setD0_only ..)
    | split

theorem Dev.cmdDone_only (d : Dev) (s : Status) (sect : Nat) (rec_ : Nat) : Only foot110 d (Dev.cmdDone d s sect rec_) := by
  unfold Dev.cmdDone
  repeat' first
    | with_reducible exact Only.refl
    | with_reducible apply Foot.Sub.mk; decide +kernel
    | with_reducible apply Only.put (has_Se_CMD_STATUS ..)
    | with_reducible apply Only.step (Dev.finish_only ..)

theorem Dev.setEngine_only (d : Dev) (st : Nat) : Only foot111 d (Dev.setEngine d st) := by
  unfold Dev.setEngine
  repeat' first
    | with_reducible exact Only.refl
    | with_reducible apply Foot.Sub.mk; decide +kernel
    | with_reducible apply Only.ite
    | with_reducible apply Only.put (has_Se_STATE ..)
    | with_reducible apply Only.step (Dev.eventRing_only ..)
    | with_reducible apply Only.step (Dev.seEvent_only ..)

theorem Dev.applySafe_only (d : Dev) (n : Nat) : Only foot112 d (Dev.applySafe d n) := by
  unfold Dev.applySafe
  repeat' first
    | with_reducible exact Only.refl
    | with_reducible apply Foot.Sub.mk; decide +kernel
    | with_reducible apply Only.ite
    | with_reducible apply Only.step (Dev.enterLoad_only ..)
    | with_reducible apply Only.step (Dev.followOn_only ..)
    | with_reducible apply Only.step (Dev.setLoadCh_only ..)
    | with_reducible apply Only.step (Dev.setLoadFlag_only ..)
    | with_reducible apply Only.step (Dev.sscEnds_only ..)
    | with_reducible apply Only.step (Dev.windowGoesOn_only ..)

theorem Dev.engineSafe_only (d : Dev) (fault : Bool) : Only foot112 d (Dev.engineSafe d fault) := by
  unfold Dev.engineSafe
  repeat' first
    | with_reducible exact Only.refl
    | with_reducible apply Foot.Sub.mk; decide +kernel
    | with_reducible apply Only.ite
    | with_reducible apply Only.foldl
    | with_reducible apply Only.step (Dev.applySafe_only ..)
    | with_reducible intro _

theorem Dev.stopIfIdle_only (d : Dev) : Only foot113 d (Dev.stopIfIdle d) := by
  unfold Dev.stopIfIdle
  repeat' first
    | with_reducible exact Only.refl
    | with_reducible apply Foot.Sub.mk; decide +kernel
    | with_reducible apply Only.ite
    | with_reducible apply Only.step (Dev.cmdDone_only ..)
    | with_reducible apply Only.step (Dev.engineSafe_only ..)
    | with_reducible apply Only.step (Dev.setEngine_only ..)

theorem taskDoneOp_only (x : Nat) (t : Nat) (d : Dev) : Only Foot.taskDone d (taskDoneOp x t d) := by
  unfold taskDoneOp
  repeat' first
    | with_reducible exact Only.refl
    | with_reducible apply Foot.Sub.mk; decide +kernel
    | with_reducible apply Only.ite
    | with_reducible apply Only.put (has_Task_LAST_EXEC_NS ..)
    | with_reducible apply Only.put (has_Task_MAX_EXEC_NS ..)
    | with_reducible apply Only.count (has_taskCounter_0 ..)
    | with_reducible apply Only.countMk (has_Se_DONE_IGNORED ..) (has_Se_COUNTER_SAT ..)
    | with_reducible apply Only.step (Dev.publish_only ..)
    | with_reducible apply Only.step (Dev.setRun_only ..)
    | with_reducible apply Only.step (Dev.setScan_only ..)
    | with_reducible apply Only.step (Dev.snapshot_only ..)
    | with_reducible apply Only.step (Dev.stopIfIdle_only ..)
    | dsimp only
    | split

theorem taskEndOp_only (x : Nat) (t : Nat) (d : Dev) : Only foot114 d (taskEndOp x t d) := by
  unfold taskEndOp
  repeat' first
    | with_reducible exact Only.refl
    | with_reducible apply Foot.Sub.mk; decide +kernel
    | with_reducible apply Only.step (Dev.handoverSeek_only ..)
    | with_reducible apply Only.step (Dev.startReplica_only ..)
    | with_reducible apply Only.step (taskDoneOp_only ..)

theorem Dev.changeEnd_only (d : Dev) (s : Status) : Only foot115 d (Dev.changeEnd d s) := by
  unfold Dev.changeEnd
  repeat' first
    | with_reducible exact Only.refl
    | with_reducible apply Foot.Sub.mk; decide +kernel
    | with_reducible apply Only.putOct (has_Chg_CHANGE_RESULT ..)
    | with_reducible apply Only.put (has_Chg_CHANGE_STATE ..)
    | with_reducible apply Only.put (has_Chg_CHANGE_STATUS ..)
    | with_reducible apply Only.count (has_changeCounter_if ..)
    | with_reducible apply Only.step (Dev.eventRing_only ..)
    | with_reducible apply Only.step (Dev.seEvent_only ..)
    | with_reducible apply Only.step (Dev.setScan_only ..)
    | dsimp only
    | split

theorem Dev.faultRefresh_only (d : Dev) : Only foot116 d (Dev.faultRefresh d) := by
  unfold Dev.faultRefresh
  repeat' first
    | with_reducible exact Only.refl
    | with_reducible apply Foot.Sub.mk; decide +kernel
    | with_reducible apply Only.ite
    | with_reducible apply Only.emit
    | with_reducible apply Only.step (Dev.engineSafe_only ..)
    | with_reducible apply Only.step (Dev.setRole_only ..)
    | with_reducible apply Only.step (Dev.setTwin_only ..)
    | with_reducible apply Only.step (Dev.twinEvent_only ..)
    | dsimp only
    | split

theorem Only.scanFault {F : Foot} {a b : Dev} {c t v : Nat} {f : Dev → Dev} (hs : Foot.Sub foot117 F) (hf : ∀ d, Only F d (f d)) (h : Only F a b) : Only F a (b.scanFault c t v f) := by
  unfold Dev.scanFault
  repeat' first
    | with_reducible exact ‹Only _ _ _›
    | with_reducible apply Foot.Sub.mk; decide +kernel
    | with_reducible refine Foot.Sub.trans (G := foot117) ?_ hs
    | with_reducible apply Only.ite
    | with_reducible apply Only.trans (hf _)
    | with_reducible apply Only.step (Dev.detach_only ..)
    | with_reducible apply Only.step (Dev.faultRefresh_only ..)
    | with_reducible apply Only.step (Dev.setTwin_only ..)
    | with_reducible apply Only.step (Dev.cmdDone_only ..)
    | with_reducible apply Only.step (Dev.setEngine_only ..)
    | with_reducible apply Only.step (Dev.changeEnd_only ..)
    | with_reducible apply Only.step (Dev.engineSafe_only ..)
    | with_reducible apply Only.step (Dev.abandonTasks_only ..)
    | with_reducible apply Only.put (has_Se_FAULT_CAUSE ..)

theorem Dev.executorFault_only (d : Dev) (x : Nat) (cause : Nat) (v : Nat) : Only foot117 d (Dev.executorFault d x cause v) := by
  unfold Dev.executorFault
  repeat' first
    | with_reducible exact Only.refl
    | with_reducible apply Foot.Sub.mk; decide +kernel
    | with_reducible apply Only.step (Dev.eventRing_only ..)
    | with_reducible apply Only.scanFault
    | with_reducible apply Only.step (Dev.seEvent_only ..)
    | with_reducible intro _
    | dsimp only
    | split

theorem taskFaultOp_only (x : Nat) (v : Nat) (d : Dev) : Only Foot.taskFault d (taskFaultOp x v d) := by
  unfold taskFaultOp
  repeat' first
    | with_reducible exact Only.refl
    | with_reducible apply Foot.Sub.mk; decide +kernel
    | with_reducible apply Only.ite
    | with_reducible apply Only.step (Dev.executorFault_only ..)

theorem Dev.showConv_only (d : Dev) (a : Nat) : Only foot118 d (Dev.showConv d a) := by
  unfold Dev.showConv
  repeat' first
    | with_reducible exact Only.refl
    | with_reducible apply Foot.Sub.mk; decide +kernel
    | with_reducible apply Only.setFld (has_Adcr_BUSY ..)
    | with_reducible apply Only.setFld (has_Adcr_PENDING ..)
    | with_reducible apply Only.setFld (has_Adcr_RUNNING ..)

theorem Dev.setAdc_only (d : Dev) (f : AnalogSt → AnalogSt) : Only foot119 d (Dev.setAdc d f) := by
  have h_adc : Part.In .adc foot119 := ⟨by decide +kernel⟩
  unfold Dev.setAdc
  repeat' first
    | with_reducible exact Only.refl
    | simp only [Only.set_adc_eq h_adc]

theorem Dev.setConv_only (d : Dev) (a : Nat) (f : Conv → Conv) : Only foot119 d (Dev.setConv d a f) := by
  unfold Dev.setConv
  repeat' first
    | with_reducible exact Only.refl
    | with_reducible apply Foot.Sub.mk; decide +kernel
    | with_reducible apply Only.step (Dev.setAdc_only ..)

theorem Dev.beginRun_only (d : Dev) (a : Nat) (s : Nat) (late : Bool) : Only foot120 d (Dev.beginRun d a s late) := by
  unfold Dev.beginRun
  repeat' first
    | with_reducible exact Only.refl
    | with_reducible apply Foot.Sub.mk; decide +kernel
    | with_reducible apply Only.step (Dev.setConv_only ..)
    | with_reducible apply Only.step (Dev.showConv_only ..)
    | with_reducible apply Only.step (Dev.sscEnds_only ..)

theorem Dev.startSeq_only (d : Dev) (a : Nat) (s : Nat) : Only foot121 d (Dev.startSeq d a s) := by
  unfold Dev.startSeq
  repeat' first
    | with_reducible exact Only.refl
    | with_reducible apply Foot.Sub.mk; decide +kernel
    | with_reducible apply Only.ite
    | with_reducible apply Only.count (has_overlaps ..)
    | with_reducible apply Only.setFldBit (has_Adcr_IRQ ..)
    | with_reducible apply Only.step (Dev.beginRun_only ..)
    | with_reducible apply Only.step (Dev.event_only ..)
    | with_reducible apply Only.limited
    | with_reducible apply Only.step (Dev.setConv_only ..)
    | with_reducible apply Only.step (Dev.showConv_only ..)
    | with_reducible intro _
    | split

theorem adcStartOp_only (a : Nat) (v : Nat) (d : Dev) : Only Foot.adcStart d (adcStartOp a v d) := by
  unfold adcStartOp
  repeat' first
    | with_reducible exact Only.refl
    | with_reducible apply Foot.Sub.mk; decide +kernel
    | with_reducible apply Only.ite
    | with_reducible apply Only.foldl
    | with_reducible apply Only.answer
    | with_reducible apply Only.step (Dev.startSeq_only ..)
    | with_reducible intro _

theorem Dev.setHalls_only (d : Dev) (f : HallSt → HallSt) : Only foot2 d (Dev.setHalls d f) := by
  have h_tenants : Part.In .tenants foot2 := ⟨by decide +kernel⟩
  unfold Dev.setHalls
  repeat' first
    | with_reducible exact Only.refl
    | simp only [Only.set_tenants_eq h_tenants]

theorem hallWdtKickOp_only (h : Nat) (hall : Nat) (v : Nat) (d : Dev) : Only Foot.hallWdtKick d (hallWdtKickOp h hall v d) := by
  unfold hallWdtKickOp
  repeat' first
    | with_reducible exact Only.refl
    | with_reducible apply Foot.Sub.mk; decide +kernel
    | with_reducible apply Only.ite
    | with_reducible apply Only.answer
    | with_reducible apply Only.step (Dev.setHalls_only ..)
    | split

theorem hallDoorbellOp_only (h : Nat) (hall : Nat) (v : Nat) (d : Dev) : Only Foot.hallDoorbell d (hallDoorbellOp h hall v d) := by
  unfold hallDoorbellOp
  repeat' first
    | with_reducible exact Only.refl
    | with_reducible apply Foot.Sub.mk; decide +kernel
    | with_reducible apply Only.ite
    | with_reducible apply Only.answer
    | with_reducible apply Only.setFldBit (has_Hpg_LINES_SET ..)
    | split

theorem Dev.submit_only (d : Dev) (q : QReq) : Only foot106 d (Dev.submit d q) := by
  have h_d0 : Part.In .d0 foot106 := ⟨by decide +kernel⟩
  unfold Dev.submit
  repeat' first
    | with_reducible exact Only.refl
    | simp only [Only.set_d0_eq h_d0]

theorem mbGoOp_only (p : Path) (v : Nat) (d : Dev) : Only Foot.mbGo d (mbGoOp p v d) := by
  unfold mbGoOp
  split
  · exact Only.refl
  · rename_i a ha
    have hk : ∀ o, (o = 4 ∨ o = 8 ∨ o = 0x14 ∨ o = 0x18) ∨ (∃ i, o = 0x400 + 4 * i) → hasKey [word1 Rg.Mb.GO, word1 Rg.Mb.MB_LEN, word1 Rg.Mb.MB_TOTAL, word1 Rg.Mb.DONE, word2 Rg.Mb.MB_DATA, word0 Rg.Smb.GO, word0 Rg.Smb.MB_LEN, word0 Rg.Smb.MB_TOTAL, word0 Rg.Smb.DONE, word1 Rg.Smb.MB_DATA] (a + o) := by
      intro o ho
      cases p <;> simp only [mbBase, reduceCtorEq] at ha
      · rename_i h
        split at ha
        · obtain rfl := Option.some.inj ha
          rcases ho with (rfl | rfl | rfl | rfl) | ⟨i, rfl⟩
          · exact ⟨_, List.mem_of_getElem? (i := 0) rfl, h, 0, 0, by simp only [word1, Rg.Mb.GO]; omega⟩
          · exact ⟨_, List.mem_of_getElem? (i := 1) rfl, h, 0, 0, by simp only [word1, Rg.Mb.MB_LEN]; omega⟩
          · exact ⟨_, List.mem_of_getElem? (i := 2) rfl, h, 0, 0, by simp only [word1, Rg.Mb.MB_TOTAL]; omega⟩
          · exact ⟨_, List.mem_of_getElem? (i := 3) rfl, h, 0, 0, by simp only [word1, Rg.Mb.DONE]; omega⟩
          · exact ⟨_, List.mem_of_getElem? (i := 4) rfl, h, i, 0, by simp only [word2, Rg.Mb.MB_DATA]; omega⟩
        · exact absurd ha (by simp)
      · obtain rfl := Option.some.inj ha
        rcases ho with (rfl | rfl | rfl | rfl) | ⟨i, rfl⟩
        · exact ⟨_, List.mem_of_getElem? (i := 5) rfl, 0, 0, 0, by decide⟩
        · exact ⟨_, List.mem_of_getElem? (i := 6) rfl, 0, 0, 0, by decide⟩
        · exact ⟨_, List.mem_of_getElem? (i := 7) rfl, 0, 0, 0, by decide⟩
        · exact ⟨_, List.mem_of_getElem? (i := 8) rfl, 0, 0, 0, by decide⟩
        · exact ⟨_, List.mem_of_getElem? (i := 9) rfl, i, 0, 0, by simp only [word1, Rg.Smb.MB_DATA]; omega⟩
    have hs : Foot.Sub ⟨[], [], [word1 Rg.Mb.GO, word1 Rg.Mb.MB_LEN, word1 Rg.Mb.MB_TOTAL, word1 Rg.Mb.DONE, word2 Rg.Mb.MB_DATA, word0 Rg.Smb.GO, word0 Rg.Smb.MB_LEN, word0 Rg.Smb.MB_TOTAL, word0 Rg.Smb.DONE, word1 Rg.Smb.MB_DATA]⟩ Foot.mbGo := ⟨by decide +kernel⟩
    have k4 := hk 4 (by simp)
    have k8 := hk 8 (by simp)
    have k14 := hk 0x14 (by simp)
    have k18 := hk 0x18 (by simp)
    have kd : ∀ i, hasKey [word1 Rg.Mb.GO, word1 Rg.Mb.MB_LEN, word1 Rg.Mb.MB_TOTAL, word1 Rg.Mb.DONE, word2 Rg.Mb.MB_DATA, word0 Rg.Smb.GO, word0 Rg.Smb.MB_LEN, word0 Rg.Smb.MB_TOTAL, word0 Rg.Smb.DONE, word1 Rg.Smb.MB_DATA] (a + 0x400 + 4 * i) := fun i => by rw [Nat.add_assoc]; exact hk _ (.inr ⟨i, rfl⟩)
    repeat' first
      | with_reducible exact Only.refl
      | with_reducible apply Foot.Sub.mk; decide +kernel
      | with_reducible apply Only.ite
      | with_reducible apply Only.step (Dev.submit_only ..)
      | with_reducible apply Only.setFld k18 hs
      | with_reducible apply Only.setFld k4 hs
      | with_reducible apply Only.mbDone k8 k14 k18 k18 k18 kd hs

theorem Dev.refusal_only (d : Dev) (reg : Bool) (key : Nat) (s : Status) : Only foot109 d (Dev.refusal d reg key s) := by
  unfold Dev.refusal
  repeat' first
    | with_reducible exact Only.refl
    | with_reducible apply Foot.Sub.mk; decide +kernel
    | with_reducible apply Only.ite
    | with_reducible apply Only.answer
    | with_reducible apply Only.step (Dev.finish_only ..)

theorem Dev.raiseM0_only (d : Dev) (n : Nat) : Only foot122 d (Dev.raiseM0 d n) := by
  unfold Dev.raiseM0
  repeat' first
    | with_reducible exact Only.refl
    | with_reducible apply Foot.Sub.mk; decide +kernel
    | with_reducible apply Only.setFld (has_M0Src_PENDING ..)

theorem Dev.logSecure_only (d : Dev) (e : Ev) : Only foot123 d (Dev.logSecure d e) := by
  unfold Dev.logSecure
  repeat' first
    | with_reducible exact Only.refl
    | with_reducible apply Foot.Sub.mk; decide +kernel
    | with_reducible apply Only.ite
    | with_reducible apply Only.step (Dev.holdEarly_only ..)
    | with_reducible apply Only.step (Dev.raiseM0_only ..)
    | with_reducible apply Only.step (Dev.writeGroup_only ..)

theorem Dev.eventSecure_only (d : Dev) (source : Nat) (code : Nat) (data : Nat) : Only foot123 d (Dev.eventSecure d source code data) := by
  unfold Dev.eventSecure
  repeat' first
    | with_reducible exact Only.refl
    | with_reducible apply Foot.Sub.mk; decide +kernel
    | with_reducible apply Only.step (Dev.logSecure_only ..)

theorem Dev.eventBoth_only (d : Dev) (source : Nat) (code : Nat) (data : Nat) : Only foot123 d (Dev.eventBoth d source code data) := by
  unfold Dev.eventBoth
  repeat' first
    | with_reducible exact Only.refl
    | with_reducible apply Foot.Sub.mk; decide +kernel
    | with_reducible apply Only.step (Dev.event_only ..)
    | with_reducible apply Only.step (Dev.eventSecure_only ..)

theorem watermarkWriteOp_only (i : Nat) (v : Nat) (reg : Bool) (d : Dev) : Only Foot.watermarkWrite d (watermarkWriteOp i v reg d) := by
  unfold watermarkWriteOp
  repeat' first
    | with_reducible exact Only.refl
    | with_reducible apply Foot.Sub.mk; decide +kernel
    | with_reducible apply Only.ite
    | with_reducible apply Only.setFld (has_Wm_ERR ..)
    | with_reducible apply Only.setFld (has_Wm_GRANULES ..)
    | with_reducible apply Only.setFld (has_Wm_LOCKED ..)
    | with_reducible apply Only.step (Dev.eventBoth_only ..)
    | with_reducible apply Only.step (Dev.refusal_only ..)

theorem Dev.dropWhere_only (d : Dev) (p : Nat) (c : Nat) (w : Drop) (f : Copy → Bool) : Only foot124 d (Dev.dropWhere d p c w f) := by
  unfold Dev.dropWhere
  repeat' first
    | with_reducible exact Only.refl
    | with_reducible apply Foot.Sub.mk; decide +kernel
    | with_reducible apply Only.foldl
    | with_reducible apply Only.step (Dev.dropped_only ..)
    | with_reducible apply Only.step (Dev.setSw_only ..)
    | with_reducible intro _

theorem Dev.clearQueue_only (d : Dev) (p : Nat) (c : Nat) (w : Drop) : Only foot124 d (Dev.clearQueue d p c w) := by
  unfold Dev.clearQueue
  repeat' first
    | with_reducible exact Only.refl
    | with_reducible apply Foot.Sub.mk; decide +kernel
    | with_reducible apply Only.step (Dev.dropWhere_only ..)

theorem Dev.flushPort_only (d : Dev) (p : Nat) (w : Drop) : Only foot124 d (Dev.flushPort d p w) := by
  unfold Dev.flushPort
  repeat' first
    | with_reducible exact Only.refl
    | with_reducible apply Foot.Sub.mk; decide +kernel
    | with_reducible apply Only.foldl
    | with_reducible apply Only.step (Dev.clearQueue_only ..)
    | with_reducible apply Only.step (Dev.setSw_only ..)
    | with_reducible intro _

theorem Dev.setLink_only (d : Dev) (p : Nat) (f : PortLink → PortLink) : Only foot14 d (Dev.setLink d p f) := by
  unfold Dev.setLink
  repeat' first
    | with_reducible exact Only.refl
    | with_reducible apply Foot.Sub.mk; decide +kernel
    | with_reducible apply Only.step (Dev.setSw_only ..)

theorem Dev.forget_only (d : Dev) (f : Learned → Bool) : Only foot14 d (Dev.forget d f) := by
  unfold Dev.forget
  repeat' first
    | with_reducible exact Only.refl
    | with_reducible apply Foot.Sub.mk; decide +kernel
    | with_reducible apply Only.step (Dev.setSw_only ..)

theorem Dev.portDraining_only (d : Dev) (p : Nat) : Only foot124 d (Dev.portDraining d p) := by
  unfold Dev.portDraining
  repeat' first
    | with_reducible exact Only.refl
    | with_reducible apply Foot.Sub.mk; decide +kernel
    | with_reducible apply Only.ite
    | with_reducible apply Only.step (Dev.flushPort_only ..)
    | with_reducible apply Only.step (Dev.forget_only ..)
    | with_reducible apply Only.step (Dev.setLink_only ..)

theorem Dev.canDraining_only (d : Dev) (n : Nat) : Only foot125 d (Dev.canDraining d n) := by
  unfold Dev.canDraining
  repeat' first
    | with_reducible exact Only.refl
    | with_reducible apply Foot.Sub.mk; decide +kernel
    | with_reducible apply Only.ite
    | with_reducible apply Only.foldl
    | with_reducible apply Only.count (has_canCounter_9 ..)
    | with_reducible apply Only.step (Dev.setCan_only ..)
    | with_reducible apply Only.step (Dev.txbDone_only ..)
    | with_reducible intro _

theorem Dev.adcDraining_only (d : Dev) (a : Nat) : Only foot126 d (Dev.adcDraining d a) := by
  unfold Dev.adcDraining
  repeat' first
    | with_reducible exact Only.refl
    | with_reducible apply Foot.Sub.mk; decide +kernel
    | with_reducible apply Only.step (Dev.setConv_only ..)
    | with_reducible apply Only.step (Dev.showConv_only ..)

theorem Dev.bctxDraining_only (d : Dev) (u : Nat) (k : Nat) : Only foot127 d (Dev.bctxDraining d u k) := by
  unfold Dev.bctxDraining
  repeat' first
    | with_reducible exact Only.refl
    | with_reducible apply Foot.Sub.mk; decide +kernel
    | with_reducible apply Only.foldl
    | with_reducible apply Only.step (Dev.refreshPwDone_only ..)
    | with_reducible apply Only.step (Dev.setBrSess_only ..)
    | with_reducible apply Only.step (Dev.settleFail_only ..)
    | with_reducible intro _

theorem Dev.dmaWalkRing_only (d : Dev) (c : Nat) (x0 : Nat) : Only foot46 d (Dev.dmaWalkRing d c x0) := by
  fun_induction Dev.dmaWalkRing d c x0
  all_goals repeat' first
    | with_reducible exact Only.refl
    | with_reducible apply Foot.Sub.mk; decide +kernel
    | with_reducible refine Only.trans (by assumption) ?_
    | with_reducible apply Only.step (Dev.dmaComplete_only ..)

theorem Dev.dmaDraining_only (d : Dev) (c : Nat) : Only foot46 d (Dev.dmaDraining d c) := by
  unfold Dev.dmaDraining
  repeat' first
    | with_reducible exact Only.refl
    | with_reducible apply Foot.Sub.mk; decide +kernel
    | with_reducible apply Only.ite
    | with_reducible apply Only.step (Dev.dmaWalkRing_only ..)

theorem Dev.qpIrq_only (d : Dev) (q : Nat) (i : Nat) : Only foot128 d (Dev.qpIrq d q i) := by
  unfold Dev.qpIrq
  repeat' first
    | with_reducible exact Only.refl
    | with_reducible apply Foot.Sub.mk; decide +kernel
    | with_reducible apply Only.setFldBit (has_Qpr_IRQ ..)

theorem Dev.errPut_only (d : Dev) (q : Nat) (b : Bytes) : Only foot129 d (Dev.errPut d q b) := by
  unfold Dev.errPut
  repeat' first
    | with_reducible exact Only.refl
    | with_reducible apply Foot.Sub.mk; decide +kernel
    | with_reducible apply Only.ite
    | with_reducible apply Only.count (has_qpCounter_5 ..)
    | with_reducible apply Only.setFld (has_Qpr_ERR_HEAD ..)
    | with_reducible apply Only.step (Dev.hallWrite_only ..)
    | with_reducible apply Only.step (Dev.qpIrq_only ..)
    | with_reducible refine Only.snd (by assumption) ?_
    | dsimp only
    | split

theorem Dev.txComplete_only (d : Dev) (q : Nat) (b : Bytes) (s : Status) : Only foot130 d (Dev.txComplete d q b s) := by
  unfold Dev.txComplete
  repeat' first
    | with_reducible exact Only.refl
    | with_reducible apply Foot.Sub.mk; decide +kernel
    | with_reducible apply Only.ite
    | with_reducible apply Only.count (has_qpCounter_0 ..)
    | with_reducible apply Only.count (has_qpCounter_2 ..)
    | with_reducible apply Only.setFld (has_Qpr_TX_HEAD ..)
    | with_reducible apply Only.step (Dev.descError_only ..)
    | with_reducible apply Only.step (Dev.errPut_only ..)
    | with_reducible apply Only.step (Dev.hallWrite_only ..)
    | with_reducible apply Only.step (Dev.qpIrq_only ..)
    | with_reducible apply Only.step (Dev.staleReject_only ..)

theorem Dev.qpDraining_only (d : Dev) (q : Nat) (x0 : Nat) : Only foot130 d (Dev.qpDraining d q x0) := by
  fun_induction Dev.qpDraining d q x0
  all_goals repeat' first
    | with_reducible exact Only.refl
    | with_reducible apply Foot.Sub.mk; decide +kernel
    | with_reducible refine Only.trans (by assumption) ?_
    | with_reducible apply Only.step (Dev.txComplete_only ..)

theorem Dev.unitDraining_only (d : Dev) (x0 : UnitId) : Only foot131 d (Dev.unitDraining d x0) := by
  unfold Dev.unitDraining
  repeat' first
    | with_reducible exact Only.refl
    | with_reducible apply Foot.Sub.mk; decide +kernel
    | with_reducible apply Only.ite
    | with_reducible apply Only.foldl
    | with_reducible apply Only.step (Dev.adcDraining_only ..)
    | with_reducible apply Only.step (Dev.bctxDraining_only ..)
    | with_reducible apply Only.step (Dev.canDraining_only ..)
    | with_reducible apply Only.step (Dev.clearQueue_only ..)
    | with_reducible apply Only.step (Dev.dmaDraining_only ..)
    | with_reducible apply Only.step (Dev.portDraining_only ..)
    | with_reducible apply Only.step (Dev.qpDraining_only ..)
    | with_reducible intro _
    | split

theorem Dev.attemptFailed_only (d : Dev) (n : Nat) (reason : Nat) : Only foot125 d (Dev.attemptFailed d n reason) := by
  unfold Dev.attemptFailed
  repeat' first
    | with_reducible exact Only.refl
    | with_reducible apply Foot.Sub.mk; decide +kernel
    | with_reducible apply Only.ite
    | with_reducible apply Only.count (has_canCounter_9 ..)
    | with_reducible apply Only.step (Dev.setCan_only ..)
    | with_reducible apply Only.step (Dev.txbDone_only ..)
    | dsimp only
    | split

theorem Dev.canCut_only (d : Dev) (n : Nat) : Only foot125 d (Dev.canCut d n).2 := by
  unfold Dev.canCut
  repeat' first
    | with_reducible exact Only.refl
    | with_reducible apply Foot.Sub.mk; decide +kernel
    | with_reducible apply Only.step (Dev.attemptFailed_only ..)
    | with_reducible apply Only.step (Dev.setCan_only ..)
    | dsimp only
    | split

theorem Dev.adcCut_only (d : Dev) (a : Nat) : Only foot126 d (Dev.adcCut d a) := by
  unfold Dev.adcCut
  repeat' first
    | with_reducible exact Only.refl
    | with_reducible apply Foot.Sub.mk; decide +kernel
    | with_reducible apply Only.step (Dev.setConv_only ..)
    | with_reducible apply Only.step (Dev.showConv_only ..)

theorem Dev.bctxCut_only (d : Dev) (u : Nat) (k : Nat) : Only foot127 d (Dev.bctxCut d u k) := by
  unfold Dev.bctxCut
  repeat' first
    | with_reducible exact Only.refl
    | with_reducible apply Foot.Sub.mk; decide +kernel
    | with_reducible apply Only.foldl
    | with_reducible apply Only.step (Dev.refreshPwDone_only ..)
    | with_reducible apply Only.step (Dev.setBrSess_only ..)
    | with_reducible apply Only.step (Dev.settleFail_only ..)
    | with_reducible intro _

theorem Dev.initiatorGone_only (d : Dev) (p : BReq → Bool) : Only foot64 d (Dev.initiatorGone d p) := by
  unfold Dev.initiatorGone
  repeat' first
    | with_reducible exact Only.refl
    | with_reducible apply Foot.Sub.mk; decide +kernel
    | with_reducible apply Only.step (Dev.setBr_only ..)

theorem Dev.leftBehind_only (d : Dev) (i : Initiator) : Only foot64 d (Dev.leftBehind d i) := by
  unfold Dev.leftBehind
  repeat' first
    | with_reducible exact Only.refl
    | with_reducible apply Foot.Sub.mk; decide +kernel
    | with_reducible apply Only.step (Dev.initiatorGone_only ..)

theorem Dev.dmaCut_only (d : Dev) (c : Nat) : Only foot132 d (Dev.dmaCut d c).2 := by
  unfold Dev.dmaCut
  repeat' first
    | with_reducible exact Only.refl
    | with_reducible apply Foot.Sub.mk; decide +kernel
    | with_reducible apply Only.ite
    | with_reducible apply Only.ite2
    | with_reducible apply Only.step (Dev.dmaAbortFaulted_only ..)
    | with_reducible apply Only.step (Dev.dmaComplete_only ..)
    | with_reducible apply Only.step (Dev.dmaWalkRing_only ..)
    | with_reducible apply Only.step (Dev.leftBehind_only ..)

theorem Dev.unitCut_only (d : Dev) (x0 : UnitId) : Only foot133 d (Dev.unitCut d x0).2 := by
  unfold Dev.unitCut
  repeat' first
    | with_reducible exact Only.refl
    | with_reducible apply Foot.Sub.mk; decide +kernel
    | with_reducible apply Only.ite2
    | with_reducible apply Only.step (Dev.abortTx_only ..)
    | with_reducible apply Only.step (Dev.adcCut_only ..)
    | with_reducible apply Only.step (Dev.bctxCut_only ..)
    | with_reducible apply Only.step (Dev.canCut_only ..)
    | with_reducible apply Only.step (Dev.dmaCut_only ..)
    | with_reducible apply Only.step (Dev.setSw_only ..)
    | dsimp only
    | split

theorem Dev.refreshDomain_only (d : Dev) (k : Nat) : Only foot52 d (Dev.refreshDomain d k) := by
  unfold Dev.refreshDomain
  repeat' first
    | with_reducible exact Only.refl
    | with_reducible apply Foot.Sub.mk; decide +kernel
    | with_reducible apply Only.ite
    | with_reducible apply Only.step (Dev.enterDomain_only ..)
    | with_reducible apply Only.step (Dev.setDomain_only ..)

theorem Dev.unitDomains_only (d : Dev) (x : UnitId) : Only foot52 d (Dev.unitDomains d x) := by
  unfold Dev.unitDomains
  repeat' first
    | with_reducible exact Only.refl
    | with_reducible apply Foot.Sub.mk; decide +kernel
    | with_reducible apply Only.step (Dev.refreshDomain_only ..)
    | split

theorem Dev.portSlotsLost_only (d : Dev) (p : Nat) : Only foot27 d (Dev.portSlotsLost d p) := by
  unfold Dev.portSlotsLost
  repeat' first
    | with_reducible exact Only.refl
    | with_reducible apply Foot.Sub.mk; decide +kernel
    | with_reducible apply Only.ite
    | with_reducible apply Only.foldl
    | with_reducible apply Only.step (Dev.slotLost_only ..)
    | with_reducible intro _

theorem Dev.holdFlush_only (d : Dev) (p : Nat) : Only foot124 d (Dev.holdFlush d p) := by
  unfold Dev.holdFlush
  repeat' first
    | with_reducible exact Only.refl
    | with_reducible apply Foot.Sub.mk; decide +kernel
    | with_reducible apply Only.step (Dev.event_only ..)
    | with_reducible apply Only.step (Dev.flushPort_only ..)
    | with_reducible apply Only.step (Dev.forget_only ..)
    | with_reducible apply Only.step (Dev.setLink_only ..)

theorem Dev.linkDown_only (d : Dev) (p : Nat) : Only foot134 d (Dev.linkDown d p) := by
  unfold Dev.linkDown
  repeat' first
    | with_reducible exact Only.refl
    | with_reducible apply Foot.Sub.mk; decide +kernel
    | with_reducible apply Only.ite
    | with_reducible apply Only.foldl
    | with_reducible apply Only.count (has_linkDowns ..)
    | with_reducible apply Only.step (Dev.dropWhere_only ..)
    | with_reducible apply Only.step (Dev.event_only ..)
    | with_reducible apply Only.step (Dev.holdFlush_only ..)
    | with_reducible apply Only.step (Dev.setLink_only ..)
    | with_reducible intro _

theorem Dev.setPath_only (d : Dev) (i : Nat) (v : Bool) : Only foot135 d (Dev.setPath d i v) := by
  unfold Dev.setPath
  repeat' first
    | with_reducible exact Only.refl
    | with_reducible apply Foot.Sub.mk; decide +kernel
    | with_reducible apply Only.put (has_Tws_PATHS ..)

theorem Dev.laneDown_only (d : Dev) (n : Nat) : Only foot136 d (Dev.laneDown d n) := by
  unfold Dev.laneDown
  repeat' first
    | with_reducible exact Only.refl
    | with_reducible apply Foot.Sub.mk; decide +kernel
    | with_reducible apply Only.ite
    | with_reducible apply Only.step (Dev.setLane_only ..)
    | with_reducible apply Only.step (Dev.setPath_only ..)
    | with_reducible apply Only.step (Dev.twinEvent_only ..)

theorem Dev.migSend_only (d : Dev) (k : Nat) (h : Nat) (b : Bytes) : Only foot30 d (Dev.migSend d k h b) := by
  unfold Dev.migSend
  repeat' first
    | with_reducible exact Only.refl
    | with_reducible apply Foot.Sub.mk; decide +kernel
    | with_reducible apply Only.step (Dev.posted_only ..)

theorem Dev.hallDone_only (d : Dev) (h : Nat) (s : Status) (detail : Nat) : Only foot137 d (Dev.hallDone d h s detail) := by
  unfold Dev.hallDone
  repeat' first
    | with_reducible exact Only.refl
    | with_reducible apply Foot.Sub.mk; decide +kernel
    | with_reducible apply Only.put (has_Hall_CMD_STATUS ..)
    | with_reducible apply Only.step (Dev.finish_only ..)

theorem Dev.hallEvent_only (d : Dev) (h : Nat) (code : Nat) (data : Nat) : Only foot42 d (Dev.hallEvent d h code data) := by
  unfold Dev.hallEvent
  repeat' first
    | with_reducible exact Only.refl
    | with_reducible apply Foot.Sub.mk; decide +kernel
    | with_reducible apply Only.step (Dev.event_only ..)
    | with_reducible apply Only.step (Dev.eventRing_only ..)

theorem Dev.migDone_only (d : Dev) (h : Nat) (s : Status) (us : Nat) : Only foot42 d (Dev.migDone d h s us) := by
  unfold Dev.migDone
  repeat' first
    | with_reducible exact Only.refl
    | with_reducible apply Foot.Sub.mk; decide +kernel
    | with_reducible apply Only.step (Dev.hallEvent_only ..)

theorem Dev.coresHalt_only (d : Dev) (h : Nat) (on : Bool) : Only foot67 d (Dev.coresHalt d h on) := by
  unfold Dev.coresHalt
  repeat' first
    | with_reducible exact Only.refl
    | with_reducible apply Foot.Sub.mk; decide +kernel
    | with_reducible apply Only.foldl
    | with_reducible apply Only.step (Dev.setHart_only ..)
    | with_reducible intro _

theorem Dev.writeHeld_only (d : Dev) (h : Nat) : Only foot42 d (Dev.writeHeld d h) := by
  have h_logs : Part.In .logs foot42 := ⟨by decide +kernel⟩
  unfold Dev.writeHeld
  repeat' first
    | with_reducible exact Only.refl
    | with_reducible apply Foot.Sub.mk; decide +kernel
    | with_reducible apply Only.foldl
    | with_reducible apply Only.step (Dev.logRing_only ..)
    | with_reducible intro _
    | simp only [Only.set_logs_eq h_logs]

theorem Dev.setHall_only (d : Dev) (h : Nat) (s : Nat) : Only foot138 d (Dev.setHall d h s) := by
  unfold Dev.setHall
  repeat' first
    | with_reducible exact Only.refl
    | with_reducible apply Foot.Sub.mk; decide +kernel
    | with_reducible apply Only.ite
    | with_reducible apply Only.put (has_Hall_STATE ..)
    | with_reducible apply Only.step (Dev.hallEvent_only ..)
    | with_reducible apply Only.step (Dev.setHalls_only ..)
    | with_reducible apply Only.step (Dev.writeHeld_only ..)

theorem Dev.hallThaw_only (d : Dev) (h : Nat) : Only foot139 d (Dev.hallThaw d h) := by
  unfold Dev.hallThaw
  repeat' first
    | with_reducible exact Only.refl
    | with_reducible apply Foot.Sub.mk; decide +kernel
    | with_reducible apply Only.foldl
    | with_reducible apply Only.step (Dev.coresHalt_only ..)
    | with_reducible apply Only.step (Dev.pump_only ..)
    | with_reducible apply Only.step (Dev.setHall_only ..)
    | with_reducible intro _

theorem Dev.migEnd_only (d : Dev) (s : Status) : Only foot140 d (Dev.migEnd d s) := by
  unfold Dev.migEnd
  repeat' first
    | with_reducible exact Only.refl
    | with_reducible apply Foot.Sub.mk; decide +kernel
    | with_reducible apply Only.ite
    | with_reducible apply Only.step (Dev.hallDone_only ..)
    | with_reducible apply Only.step (Dev.hallThaw_only ..)
    | with_reducible apply Only.step (Dev.migDone_only ..)
    | with_reducible apply Only.step (Dev.migSend_only ..)
    | with_reducible apply Only.step (Dev.setHalls_only ..)
    | dsimp only
    | split

theorem Dev.migLinkLost_only (d : Dev) : Only foot140 d (Dev.migLinkLost d) := by
  unfold Dev.migLinkLost
  repeat' first
    | with_reducible exact Only.refl
    | with_reducible apply Foot.Sub.mk; decide +kernel
    | with_reducible apply Only.step (Dev.migEnd_only ..)
    | with_reducible apply Only.step (Dev.setHalls_only ..)

theorem Dev.galleryLaneDown_only (d : Dev) (n : Nat) : Only foot141 d (Dev.galleryLaneDown d n) := by
  unfold Dev.galleryLaneDown
  repeat' first
    | with_reducible exact Only.refl
    | with_reducible apply Foot.Sub.mk; decide +kernel
    | with_reducible apply Only.ite
    | with_reducible apply Only.step (Dev.laneDown_only ..)
    | with_reducible apply Only.step (Dev.migLinkLost_only ..)
    | with_reducible apply Only.step (Dev.setRole_only ..)

theorem Dev.portDown_only (d : Dev) (p : Nat) : Only foot142 d (Dev.portDown d p) := by
  unfold Dev.portDown
  repeat' first
    | with_reducible exact Only.refl
    | with_reducible apply Foot.Sub.mk; decide +kernel
    | with_reducible apply Only.ite
    | with_reducible apply Only.step (Dev.galleryLaneDown_only ..)
    | with_reducible apply Only.step (Dev.linkDown_only ..)
    | with_reducible apply Only.step (Dev.portSlotsLost_only ..)

theorem Dev.dmaDisabled_only (d : Dev) (c : Nat) : Only foot46 d (Dev.dmaDisabled d c) := by
  unfold Dev.dmaDisabled
  repeat' first
    | with_reducible exact Only.refl
    | with_reducible apply Foot.Sub.mk; decide +kernel
    | with_reducible apply Only.step (Dev.dmaWalkRing_only ..)

theorem Dev.senseStopped_only (d : Dev) : Only foot99 d (Dev.senseStopped d) := by
  unfold Dev.senseStopped
  repeat' first
    | with_reducible exact Only.refl
    | with_reducible apply Foot.Sub.mk; decide +kernel
    | with_reducible apply Only.foldl
    | with_reducible apply Only.step (Dev.setLoadFlag_only ..)
    | with_reducible intro _

theorem Dev.unitDisabled_only (d : Dev) (x0 : UnitId) : Only foot143 d (Dev.unitDisabled d x0) := by
  unfold Dev.unitDisabled
  repeat' first
    | with_reducible exact Only.refl
    | with_reducible apply Foot.Sub.mk; decide +kernel
    | with_reducible apply Only.ite
    | with_reducible apply Only.step (Dev.dmaDisabled_only ..)
    | with_reducible apply Only.step (Dev.driveXtxdis_only ..)
    | with_reducible apply Only.step (Dev.portDown_only ..)
    | with_reducible apply Only.step (Dev.senseStopped_only ..)
    | split

theorem Dev.toDisabled_only (d : Dev) (x : UnitId) : Only foot144 d (Dev.toDisabled d x) := by
  have h_drains : Part.In .drains foot144 := ⟨by decide +kernel⟩
  unfold Dev.toDisabled
  repeat' first
    | with_reducible exact Only.refl
    | with_reducible apply Foot.Sub.mk; decide +kernel
    | with_reducible apply Only.put (has_unitStateEntry ..)
    | with_reducible apply Only.step (Dev.unitDisabled_only ..)
    | with_reducible apply Only.step (Dev.unitDomains_only ..)
    | simp only [Only.set_drains_eq h_drains]

theorem Dev.drainCut_only (d : Dev) (x : UnitId) : Only foot145 d (Dev.drainCut d x) := by
  unfold Dev.drainCut
  repeat' first
    | with_reducible exact Only.refl
    | with_reducible apply Foot.Sub.mk; decide +kernel
    | with_reducible apply Only.step (Dev.event_only ..)
    | with_reducible apply Only.step (Dev.toDisabled_only ..)
    | with_reducible apply Only.step (Dev.unitCut_only ..)

theorem Dev.disableUnit_only (d : Dev) (x : UnitId) : Only foot146 d (Dev.disableUnit d x) := by
  have h_drains : Part.In .drains foot146 := ⟨by decide +kernel⟩
  unfold Dev.disableUnit
  repeat' first
    | with_reducible exact Only.refl
    | with_reducible apply Foot.Sub.mk; decide +kernel
    | with_reducible apply Only.ite
    | with_reducible apply Only.put (has_unitEnableEntry ..)
    | with_reducible apply Only.put (has_unitStateEntry ..)
    | with_reducible apply Only.step (Dev.drainCut_only ..)
    | with_reducible apply Only.step (Dev.unitDraining_only ..)
    | simp only [Only.set_drains_eq h_drains]

theorem Dev.drainDone_only (d : Dev) (x : UnitId) : Only foot144 d (Dev.drainDone d x) := by
  unfold Dev.drainDone
  repeat' first
    | with_reducible exact Only.refl
    | with_reducible apply Foot.Sub.mk; decide +kernel
    | with_reducible apply Only.step (Dev.event_only ..)
    | with_reducible apply Only.step (Dev.toDisabled_only ..)

theorem Dev.bumpEpoch_only (d : Dev) (u : EpochUnit) : Only foot147 d (Dev.bumpEpoch d u) := by
  have h_epochs : Part.In .epochs foot147 := ⟨by decide +kernel⟩
  unfold Dev.bumpEpoch
  repeat' first
    | with_reducible exact Only.refl
    | simp only [Only.set_epochs_eq h_epochs]

theorem Dev.leaseEnds_only (d : Dev) (i : Nat) : Only foot148 d (Dev.leaseEnds d i) := by
  unfold Dev.leaseEnds
  repeat' first
    | with_reducible exact Only.refl
    | with_reducible apply Foot.Sub.mk; decide +kernel
    | with_reducible apply Only.ite
    | with_reducible apply Only.setFld (has_Lsr_VALID ..)
    | with_reducible apply Only.step (Dev.bumpEpoch_only ..)
    | with_reducible apply Only.step (Dev.disableUnit_only ..)
    | with_reducible apply Only.step (Dev.drainCut_only ..)
    | with_reducible apply Only.step (Dev.drainDone_only ..)
    | dsimp only
    | split

theorem leaseTakeOp_only (i : Nat) (g : Nat) (reg : Bool) (d : Dev) : Only Foot.leaseTake d (leaseTakeOp i g reg d) := by
  unfold leaseTakeOp
  repeat' first
    | with_reducible exact Only.refl
    | with_reducible apply Foot.Sub.mk; decide +kernel
    | with_reducible apply Only.ite
    | with_reducible apply Only.setFld (has_Lsr_ERR ..)
    | with_reducible apply Only.setFld (has_Lsr_GATE ..)
    | with_reducible apply Only.setFld (has_Lsr_VALID ..)
    | with_reducible apply Only.step (Dev.leaseEnds_only ..)
    | with_reducible apply Only.step (Dev.refusal_only ..)
    | dsimp only
    | split

theorem leaseReleaseOp_only (i : Nat) (reg : Bool) (d : Dev) : Only Foot.leaseRelease d (leaseReleaseOp i reg d) := by
  unfold leaseReleaseOp
  repeat' first
    | with_reducible exact Only.refl
    | with_reducible apply Foot.Sub.mk; decide +kernel
    | with_reducible apply Only.ite
    | with_reducible apply Only.step (Dev.leaseEnds_only ..)
    | with_reducible apply Only.step (Dev.refusal_only ..)

theorem Dev.setMezz_only (d : Dev) (f : MezzSt → MezzSt) : Only foot149 d (Dev.setMezz d f) := by
  have h_mezz : Part.In .mezz foot149 := ⟨by decide +kernel⟩
  unfold Dev.setMezz
  repeat' first
    | with_reducible exact Only.refl
    | simp only [Only.set_mezz_eq h_mezz]

theorem Dev.swdtRestart_only (d : Dev) : Only foot149 d (Dev.swdtRestart d) := by
  unfold Dev.swdtRestart
  repeat' first
    | with_reducible exact Only.refl
    | with_reducible apply Foot.Sub.mk; decide +kernel
    | with_reducible apply Only.step (Dev.setMezz_only ..)

theorem swdtKickOp_only (v : Nat) (d : Dev) : Only Foot.swdtKick d (swdtKickOp v d) := by
  unfold swdtKickOp
  repeat' first
    | with_reducible exact Only.refl
    | with_reducible apply Foot.Sub.mk; decide +kernel
    | with_reducible apply Only.ite
    | with_reducible apply Only.step (Dev.swdtRestart_only ..)

theorem Dev.swdtFollow_only (d : Dev) : Only foot149 d (Dev.swdtFollow d) := by
  unfold Dev.swdtFollow
  repeat' first
    | with_reducible exact Only.refl
    | with_reducible apply Foot.Sub.mk; decide +kernel
    | with_reducible apply Only.step (Dev.setMezz_only ..)
    | split

theorem Dev.mezzWrite_only (d : Dev) (i : Initiator) (p : Page) (off : Nat) (a : Nat) (v : Nat) (m : Nat) : Only foot150 d (Dev.mezzWrite d i p off a v m) := by
  unfold Dev.mezzWrite
  repeat' first
    | with_reducible exact Only.refl
    | with_reducible apply Foot.Sub.mk; decide +kernel
    | with_reducible apply Only.ite
    | with_reducible apply Only.answer
    | with_reducible apply Only.put (has_Slog_SWDT_PERIOD_MS ..)
    | with_reducible apply Only.setFld (has_Lsr_ERR ..)
    | with_reducible apply Only.setFld (has_Lsr_GATE ..)
    | with_reducible apply Only.setFld (has_Wm_ERR ..)
    | with_reducible apply Only.step (Dev.evalLine_only ..)
    | with_reducible apply Only.step (Dev.plainWrite_only ..)
    | with_reducible apply Only.step (Dev.swdtFollow_only ..)
    | with_reducible apply Only.step (completeOp_only ..)
    | with_reducible apply Only.step (leaseReleaseOp_only ..)
    | with_reducible apply Only.step (leaseTakeOp_only ..)
    | with_reducible apply Only.step (mbGoOp_only ..)
    | with_reducible apply Only.step (swdtKickOp_only ..)
    | with_reducible apply Only.step (watermarkWriteOp_only ..)
    | dsimp only
    | split

theorem Dev.writeWord_only (d : Dev) (t : Txn) (p : Page) (off : Nat) (a : Nat) (w : Nat) (m : Nat) : Only foot151 d (Dev.writeWord d t p off a w m) := by
  unfold Dev.writeWord
  repeat' first
    | with_reducible exact Only.refl
    | with_reducible apply Foot.Sub.mk; decide +kernel
    | with_reducible apply Only.ite
    | with_reducible apply Only.answer
    | with_reducible apply Only.put (has_Core_THRESHOLD ..)
    | with_reducible apply Only.step (Dev.ctxWrite_only ..)
    | with_reducible apply Only.step (Dev.evalLine_only ..)
    | with_reducible apply Only.step (Dev.mezzWrite_only ..)
    | with_reducible apply Only.step (Dev.plainWrite_only ..)
    | with_reducible apply Only.step (Dev.sourceWrite_only ..)
    | with_reducible apply Only.step (Dev.trxWrite_only ..)
    | with_reducible apply Only.step (adcStartOp_only ..)
    | with_reducible apply Only.step (adjGoOp_only ..)
    | with_reducible apply Only.step (canAbortOp_only ..)
    | with_reducible apply Only.step (canRestartOp_only ..)
    | with_reducible apply Only.step (canSendOp_only ..)
    | with_reducible apply Only.step (completeOp_only ..)
    | with_reducible apply Only.step (dmaAbortOp_only ..)
    | with_reducible apply Only.step (dmaInvalOp_only ..)
    | with_reducible apply Only.step (dmaResumeOp_only ..)
    | with_reducible apply Only.step (dmaTailWriteOp_only ..)
    | with_reducible apply Only.step (domReqWriteOp_only ..)
    | with_reducible apply Only.step (doorbellOp_only ..)
    | with_reducible apply Only.step (evtSendOp_only ..)
    | with_reducible apply Only.step (hallDoorbellOp_only ..)
    | with_reducible apply Only.step (hallWdtKickOp_only ..)
    | with_reducible apply Only.step (mbGoOp_only ..)
    | with_reducible apply Only.step (remoteMbGoOp_only ..)
    | with_reducible apply Only.step (sidebandOutWriteOp_only ..)
    | with_reducible apply Only.step (taskEndOp_only ..)
    | with_reducible apply Only.step (taskFaultOp_only ..)
    | with_reducible apply Only.step (wakeConfirmOp_only ..)
    | dsimp only
    | split

theorem Dev.writeWords_only (d : Dev) (t : Txn) (p : Page) (off : Nat) (a : Nat) (v : Nat) (m : Nat) (x0 : Nat) : Only foot151 d (Dev.writeWords d t p off a v m x0).2 := by
  fun_induction Dev.writeWords d t p off a v m x0
  all_goals repeat' first
    | with_reducible exact Only.refl
    | with_reducible apply Foot.Sub.mk; decide +kernel
    | with_reducible refine Only.trans (by assumption) ?_
    | with_reducible apply Only.taken
    | with_reducible apply Only.step (Dev.writeWord_only ..)
    | with_reducible intro _
    | with_reducible refine Only.snd (by assumption) ?_

theorem Dev.pageTxn_only (d : Dev) (t : Txn) : Only foot152 d (Dev.pageTxn d t) := by
  unfold Dev.pageTxn
  repeat' first
    | with_reducible exact Only.refl
    | with_reducible apply Foot.Sub.mk; decide +kernel
    | with_reducible apply Only.ite
    | with_reducible apply Only.answer
    | with_reducible apply Only.step (Dev.readWords_only ..)
    | with_reducible apply Only.step (Dev.writeWords_only ..)
    | dsimp only
    | split

theorem Dev.windowOp_only (d : Dev) (t : Txn) (op : Nat) (back : Option Nat) : Only foot89 d (Dev.windowOp d t op back) := by
  unfold Dev.windowOp
  repeat' first
    | with_reducible exact Only.refl
    | with_reducible apply Foot.Sub.mk; decide +kernel
    | with_reducible apply Lit.mk; decide
    | with_reducible apply Only.ite
    | with_reducible apply Only.ite2
    | with_reducible apply Only.answer
    | with_reducible apply Only.ctxCount
    | with_reducible apply Only.step (Dev.queueReq_only ..)
    | with_reducible apply Only.step (Dev.takePwSeq_only ..)
    | dsimp only
    | split

theorem bridgeWindowReadOp_only (t : Txn) (d : Dev) : Only foot89 d (bridgeWindowReadOp t d) := by
  unfold bridgeWindowReadOp
  repeat' first
    | with_reducible exact Only.refl
    | with_reducible apply Foot.Sub.mk; decide +kernel
    | with_reducible apply Only.step (Dev.windowOp_only ..)

theorem bridgeWindowPostedWriteOp_only (t : Txn) (d : Dev) : Only foot89 d (bridgeWindowPostedWriteOp t d) := by
  unfold bridgeWindowPostedWriteOp
  repeat' first
    | with_reducible exact Only.refl
    | with_reducible apply Foot.Sub.mk; decide +kernel
    | with_reducible apply Only.step (Dev.windowOp_only ..)

theorem bridgeWindowWriteOp_only (t : Txn) (d : Dev) : Only foot89 d (bridgeWindowWriteOp t d) := by
  unfold bridgeWindowWriteOp
  repeat' first
    | with_reducible exact Only.refl
    | with_reducible apply Foot.Sub.mk; decide +kernel
    | with_reducible apply Only.step (Dev.windowOp_only ..)

theorem bridgeWindowAtomicOp_only (t : Txn) (d : Dev) : Only foot89 d (bridgeWindowAtomicOp t d) := by
  unfold bridgeWindowAtomicOp
  repeat' first
    | with_reducible exact Only.refl
    | with_reducible apply Foot.Sub.mk; decide +kernel
    | with_reducible apply Only.step (Dev.windowOp_only ..)

theorem Dev.dramUsed_only (d : Dev) (a : Nat) : Only foot56 d (Dev.dramUsed d a) := by
  unfold Dev.dramUsed
  repeat' first
    | with_reducible exact Only.refl
    | with_reducible apply Foot.Sub.mk; decide +kernel
    | with_reducible apply Only.ite
    | with_reducible apply Only.step (Dev.setClk_only ..)

theorem Dev.eccFound_only (d : Dev) (a : Nat) : Only foot153 d (Dev.eccFound d a) := by
  unfold Dev.eccFound
  repeat' first
    | with_reducible exact Only.refl
    | with_reducible apply Foot.Sub.mk; decide +kernel
    | with_reducible apply Only.put (has_Mem_UE_LAST ..)
    | with_reducible apply Only.count (has_memCounter ..)
    | with_reducible apply Only.step (Dev.eventSys_only ..)

theorem Dev.readPoison_only (d : Dev) (a : Nat) (n : Nat) : Only foot153 d (Dev.readPoison d a n) := by
  unfold Dev.readPoison
  repeat' first
    | with_reducible exact Only.refl
    | with_reducible apply Foot.Sub.mk; decide +kernel
    | with_reducible apply Only.step (Dev.eccFound_only ..)
    | split

theorem Dev.memTxn_only (d : Dev) (t : Txn) : Only foot154 d (Dev.memTxn d t) := by
  unfold Dev.memTxn
  repeat' first
    | with_reducible exact Only.refl
    | with_reducible apply Foot.Sub.mk; decide +kernel
    | with_reducible apply Only.answer
    | with_reducible apply Only.step (Dev.dramUsed_only ..)
    | with_reducible apply Only.step (Dev.readPoison_only ..)
    | with_reducible apply Only.step (Dev.storeMem_only ..)
    | dsimp only
    | split

theorem Dev.access_only (d : Dev) (t : Txn) : Only foot152 d (Dev.access d t) := by
  unfold Dev.access
  repeat' first
    | with_reducible exact Only.refl
    | with_reducible apply Foot.Sub.mk; decide +kernel
    | with_reducible apply Only.answer
    | with_reducible apply Only.step (Dev.memTxn_only ..)
    | with_reducible apply Only.step (Dev.pageTxn_only ..)
    | with_reducible apply Only.step (bridgeWindowAtomicOp_only ..)
    | with_reducible apply Only.step (bridgeWindowPostedWriteOp_only ..)
    | with_reducible apply Only.step (bridgeWindowReadOp_only ..)
    | with_reducible apply Only.step (bridgeWindowWriteOp_only ..)
    | split

theorem Dev.leaseRefused_only (d : Dev) (g : Nat) (s : Status) : Only foot155 d (Dev.leaseRefused d g s) := by
  unfold Dev.leaseRefused
  repeat' first
    | with_reducible exact Only.refl
    | with_reducible apply Foot.Sub.mk; decide +kernel
    | with_reducible apply Only.countCtr (has_Lease_LEASE_REFUSALS ..) (has_Lease_COUNTER_SAT ..)
    | with_reducible apply Only.step (Dev.eventBoth_only ..)
    | with_reducible apply Only.limited
    | with_reducible apply Only.step (Dev.raiseM0_only ..)
    | with_reducible intro _

theorem Dev.refuseLeased_only (d : Dev) (x : UnitId) : Only foot155 d (Dev.refuseLeased d x) := by
  unfold Dev.refuseLeased
  repeat' first
    | with_reducible exact Only.refl
    | with_reducible apply Foot.Sub.mk; decide +kernel
    | with_reducible apply Only.answer
    | with_reducible apply Only.step (Dev.leaseRefused_only ..)
    | split

theorem Dev.enableUnit_only (d : Dev) (x : UnitId) : Only foot156 d (Dev.enableUnit d x) := by
  unfold Dev.enableUnit
  repeat' first
    | with_reducible exact Only.refl
    | with_reducible apply Foot.Sub.mk; decide +kernel
    | with_reducible apply Only.ite
    | with_reducible apply Only.put (has_unitEnableEntry ..)
    | with_reducible apply Only.put (has_unitStateEntry ..)
    | with_reducible apply Only.step (Dev.unitDomains_only ..)
    | with_reducible apply Only.step (Dev.unitEnabled_only ..)

theorem unitEnableOp_only (x : UnitId) (secure : Bool) (d : Dev) : Only Foot.unitEnable d (unitEnableOp x secure d) := by
  unfold unitEnableOp
  repeat' first
    | with_reducible exact Only.refl
    | with_reducible apply Foot.Sub.mk; decide +kernel
    | with_reducible apply Only.ite
    | with_reducible apply Only.answer
    | with_reducible apply Only.step (Dev.enableUnit_only ..)
    | with_reducible apply Only.step (Dev.refuseLeased_only ..)

theorem unitDisableOp_only (x : UnitId) (secure : Bool) (d : Dev) : Only Foot.unitDisable d (unitDisableOp x secure d) := by
  unfold unitDisableOp
  repeat' first
    | with_reducible exact Only.refl
    | with_reducible apply Foot.Sub.mk; decide +kernel
    | with_reducible apply Only.ite
    | with_reducible apply Only.answer
    | with_reducible apply Only.step (Dev.disableUnit_only ..)
    | with_reducible apply Only.step (Dev.refuseLeased_only ..)

theorem Dev.sendQueued_only (d : Dev) (n : Nat) : Only foot157 d (Dev.sendQueued d n) := by
  unfold Dev.sendQueued
  repeat' first
    | with_reducible exact Only.refl
    | with_reducible apply Foot.Sub.mk; decide +kernel
    | with_reducible apply Only.emit
    | with_reducible apply Only.count (has_canCounter_1 ..)
    | with_reducible apply Only.step (Dev.setCan_only ..)
    | split

theorem Only.responseFirst {F : Foot} {a b : Dev} {o : Option Origin} {f : Dev → Dev} (hs : Foot.Sub foot158 F) (hf : ∀ d, Only F d (f d)) (h : Only F a b) :
    Only F a (b.responseFirst o f) := by
  have hp : Part.In .power F := Part.In.trans (F := foot158) ⟨by decide +kernel⟩ hs
  unfold Dev.responseFirst
  split
  · exact (hf _).trans ((Dev.sendQueued_only ..).step (Foot.Sub.trans ⟨by decide +kernel⟩ hs) h)
  · exact Only.set_power ((hf b).trans h) hp
  · exact (hf b).trans h

theorem Dev.newChallenge_only (d : Dev) : Only foot159 d (Dev.newChallenge d) := by
  unfold Dev.newChallenge
  repeat' first
    | with_reducible exact Only.refl
    | with_reducible apply Foot.Sub.mk; decide +kernel
    | with_reducible apply Only.putOct (has_Sec_DBG_CHALLENGE ..)
    | with_reducible apply Only.step (Dev.draw_only ..)

theorem Dev.wakeFalse_only (d : Dev) (s : Nat) : Only foot160 d (Dev.wakeFalse d s) := by
  unfold Dev.wakeFalse
  repeat' first
    | with_reducible exact Only.refl
    | with_reducible apply Foot.Sub.mk; decide +kernel
    | with_reducible apply Only.ite
    | with_reducible apply Only.put (has_Wsrc_FILTER_CUR ..)
    | with_reducible apply Only.put (has_Wsrc_FW_COUNT ..)
    | with_reducible apply Only.put (has_Wsrc_QUARANTINED ..)
    | with_reducible apply Only.count (has_wakeCounter_1 ..)
    | with_reducible apply Only.setFldBit (has_Slpr_FW_PENDING ..)
    | with_reducible apply Only.step (Dev.setSleep_only ..)
    | with_reducible apply Only.step (Dev.sourceEvent_only ..)

theorem Dev.wakesFalse_only (d : Dev) : Only foot160 d (Dev.wakesFalse d) := by
  unfold Dev.wakesFalse
  repeat' first
    | with_reducible exact Only.refl
    | with_reducible apply Foot.Sub.mk; decide +kernel
    | with_reducible apply Only.ite
    | with_reducible apply Only.foldl
    | with_reducible apply Only.step (Dev.setSleep_only ..)
    | with_reducible apply Only.step (Dev.wakeFalse_only ..)
    | with_reducible intro _

theorem setPhase_only (p : Phase) (d : Dev) : Only foot161 d (setPhase p d) := by
  have h_power : Part.In .power foot161 := ⟨by decide +kernel⟩
  unfold setPhase
  repeat' first
    | with_reducible exact Only.refl
    | simp only [Only.set_power_eq h_power]

theorem Dev.holdChannels_only (d : Dev) : Only foot101 d (Dev.holdChannels d) := by
  unfold Dev.holdChannels
  repeat' first
    | with_reducible exact Only.refl
    | with_reducible apply Foot.Sub.mk; decide +kernel
    | with_reducible apply Only.ite
    | with_reducible apply Only.foldl
    | with_reducible apply Only.step (Dev.enterLoad_only ..)
    | with_reducible apply Only.step (Dev.setLoad_only ..)
    | with_reducible apply Only.step (Dev.setLoadCh_only ..)
    | with_reducible apply Only.step (Dev.setLoadFlag_only ..)
    | with_reducible intro _

theorem Dev.unitsReset_only (d : Dev) : Only foot162 d (Dev.unitsReset d) := by
  have h_adc : Part.In .adc foot162 := ⟨by decide +kernel⟩
  have h_br : Part.In .br foot162 := ⟨by decide +kernel⟩
  have h_can : Part.In .can foot162 := ⟨by decide +kernel⟩
  have h_ctrLatch : Part.In .ctrLatch foot162 := ⟨by decide +kernel⟩
  have h_ctrStage : Part.In .ctrStage foot162 := ⟨by decide +kernel⟩
  have h_dma : Part.In .dma foot162 := ⟨by decide +kernel⟩
  have h_drains : Part.In .drains foot162 := ⟨by decide +kernel⟩
  have h_sleep : Part.In .sleep foot162 := ⟨by decide +kernel⟩
  have h_sto : Part.In .sto foot162 := ⟨by decide +kernel⟩
  unfold Dev.unitsReset
  repeat' first
    | with_reducible exact Only.refl
    | with_reducible apply Foot.Sub.mk; decide +kernel
    | with_reducible apply Only.foldl
    | with_reducible apply Only.put (has_unitStateEntry ..)
    | with_reducible intro _
    | simp only [Only.set_drains_can_br_dma_adc_sleep_sto_ctrLatch_ctrStage_eq h_drains h_can h_br h_dma h_adc h_sleep h_sto h_ctrLatch h_ctrStage]

theorem Dev.switchReset_only (d : Dev) : Only foot163 d (Dev.switchReset d) := by
  have h_sw : Part.In .sw foot163 := ⟨by decide +kernel⟩
  unfold Dev.switchReset
  repeat' first
    | with_reducible exact Only.refl
    | with_reducible apply Foot.Sub.mk; decide +kernel
    | with_reducible apply Only.ite
    | with_reducible apply Only.foldl
    | with_reducible apply Only.step (Dev.laneDown_only ..)
    | with_reducible intro _
    | simp only [Only.set_sw_eq h_sw]

theorem Dev.resetCore_only (d : Dev) (k : Nat) : Only foot164 d (Dev.resetCore d k) := by
  have h_held : Part.In .held foot164 := ⟨by decide +kernel⟩
  unfold Dev.resetCore
  repeat' first
    | with_reducible exact Only.refl
    | with_reducible apply Foot.Sub.mk; decide +kernel
    | with_reducible apply Only.ite
    | with_reducible apply Only.foldl
    | with_reducible apply Only.setFld (has_pgCerr ..)
    | with_reducible apply Only.setFld (has_pgDepth ..)
    | with_reducible apply Only.setFld (has_pgFull ..)
    | with_reducible apply Only.setFld (has_pgPrio ..)
    | with_reducible apply Only.setFld (has_pgSaved ..)
    | with_reducible apply Only.setFld (has_pgSrc ..)
    | with_reducible apply Only.setFld (has_pgWfi ..)
    | with_reducible apply Only.setFld (has_sActive ..)
    | with_reducible apply Only.step (Dev.leftBehind_only ..)
    | with_reducible apply Only.step (Dev.setHart_only ..)
    | with_reducible apply Only.step (Dev.swdtFollow_only ..)
    | with_reducible intro _
    | simp only [Only.set_held_eq h_held]

theorem Dev.coresReset_only (d : Dev) : Only foot164 d (Dev.coresReset d) := by
  unfold Dev.coresReset
  repeat' first
    | with_reducible exact Only.refl
    | with_reducible apply Foot.Sub.mk; decide +kernel
    | with_reducible apply Only.ite
    | with_reducible apply Only.foldl
    | with_reducible apply Only.step (Dev.resetCore_only ..)
    | with_reducible intro _

theorem Dev.stagingEmpty_only (d : Dev) : Only foot165 d (Dev.stagingEmpty d) := by
  unfold Dev.stagingEmpty
  repeat' first
    | with_reducible exact Only.refl
    | with_reducible apply Foot.Sub.mk; decide +kernel
    | with_reducible apply Only.putOct (has_Stg_STAGING ..)
    | with_reducible apply Only.put (has_Upd_STAGED_VERSION ..)
    | with_reducible apply Only.put (has_Upd_STAGING_STATE ..)

theorem Dev.transfersEnd_only (d : Dev) : Only foot166 d (Dev.transfersEnd d) := by
  unfold Dev.transfersEnd
  repeat' first
    | with_reducible exact Only.refl
    | with_reducible apply Foot.Sub.mk; decide +kernel
    | with_reducible apply Only.ite
    | with_reducible apply Only.step (Dev.setD0_only ..)
    | with_reducible apply Only.step (Dev.stagingEmpty_only ..)

theorem Dev.dictEmptied_only (d : Dev) : Only foot167 d (Dev.dictEmptied d) := by
  have h_power : Part.In .power foot167 := ⟨by decide +kernel⟩
  unfold Dev.dictEmptied
  repeat' first
    | with_reducible exact Only.refl
    | with_reducible apply Foot.Sub.mk; decide +kernel
    | with_reducible apply Only.put (has_Ndp_SESSIONS_OPEN ..)
    | with_reducible apply Only.setFld (has_Smb_BUSY ..)
    | with_reducible apply Only.step (Dev.setD0_only ..)
    | with_reducible apply Only.step (Dev.transfersEnd_only ..)
    | simp only [Only.set_power_eq h_power]

theorem Dev.setUpd_only (d : Dev) (f : UpdSt → UpdSt) : Only foot168 d (Dev.setUpd d f) := by
  have h_upd : Part.In .upd foot168 := ⟨by decide +kernel⟩
  unfold Dev.setUpd
  repeat' first
    | with_reducible exact Only.refl
    | simp only [Only.set_upd_eq h_upd]

theorem Dev.eraseMarked_only (d : Dev) : Only foot169 d (Dev.eraseMarked d) := by
  unfold Dev.eraseMarked
  repeat' first
    | with_reducible exact Only.refl
    | with_reducible apply Foot.Sub.mk; decide +kernel
    | with_reducible apply Only.step (Dev.setD0_only ..)
    | with_reducible apply Only.step (Dev.setUpd_only ..)

theorem Dev.defaulted_only (d : Dev) (p : Nat → Bool) : Only foot170 d (Dev.defaulted d p) :=
  Only.set_dict (b := { d with blobs := _ }) KV.sorted_keep (Only.set_blobs KV.sorted_keep Only.refl ⟨by decide +kernel⟩) ⟨by decide +kernel⟩

theorem Dev.defaultMarked_only (d : Dev) : Only foot171 d (Dev.defaultMarked d) := by
  unfold Dev.defaultMarked
  repeat' first
    | with_reducible exact Only.refl
    | with_reducible apply Foot.Sub.mk; decide +kernel
    | with_reducible apply Only.step (Dev.defaulted_only ..)
    | with_reducible apply Only.step (Dev.eraseMarked_only ..)

theorem Dev.twinReset_only (d : Dev) : Only foot13 d (Dev.twinReset d) := by
  unfold Dev.twinReset
  repeat' first
    | with_reducible exact Only.refl
    | with_reducible apply Foot.Sub.mk; decide +kernel
    | with_reducible apply Only.step (Dev.setTwin_only ..)

theorem Dev.warmRegs_only (d : Dev) : Only foot172 d (Dev.warmRegs d) := by
  have h : Only foot172 d { d with held := KV.keep (fun j _ => decide (512 ≤ j)) d.held } := Only.set_held Only.refl ⟨by decide +kernel⟩
  exact Only.set_regs (F := foot172) KV.sorted_keep h ⟨by decide +kernel⟩

theorem Dev.hallsAbsent_only (d : Dev) : Only foot173 d (Dev.hallsAbsent d) := by
  unfold Dev.hallsAbsent
  repeat' first
    | with_reducible exact Only.refl
    | with_reducible apply Foot.Sub.mk; decide +kernel
    | with_reducible apply Only.ite
    | with_reducible apply Only.foldl
    | with_reducible apply Only.put (has_Bctx_HALL ..)
    | with_reducible apply Only.put (has_Bind_HALL ..)
    | with_reducible apply Only.putOct (has_Bu_ENDPOINTS ..)
    | with_reducible apply Only.putOct (has_CanObj_OBJ_TABLE ..)
    | with_reducible apply Only.putOct (has_CanObj_TXB_HALL ..)
    | with_reducible apply Only.put (has_Dma_HALL ..)
    | with_reducible apply Only.put (has_Qp_HALL ..)
    | with_reducible intro _

theorem Dev.hallsStart_only (d : Dev) : Only foot174 d (Dev.hallsStart d) := by
  unfold Dev.hallsStart
  repeat' first
    | with_reducible exact Only.refl
    | with_reducible apply Foot.Sub.mk; decide +kernel
    | with_reducible apply Only.ite
    | with_reducible apply Only.foldl
    | with_reducible apply Only.step (Dev.bumpEpoch_only ..)
    | with_reducible apply Only.step (Dev.hallsAbsent_only ..)
    | with_reducible apply Only.step (Dev.setHall_only ..)
    | with_reducible intro _

theorem Dev.dmaApplied_only (d : Dev) (old : Dev) (c : Nat) : Only foot147 d (Dev.dmaApplied d old c) := by
  unfold Dev.dmaApplied
  repeat' first
    | with_reducible exact Only.refl
    | with_reducible apply Foot.Sub.mk; decide +kernel
    | with_reducible apply Only.ite
    | with_reducible apply Only.step (Dev.bumpEpoch_only ..)

theorem Dev.qpApplied_only (d : Dev) (old : Dev) (q : Nat) : Only foot147 d (Dev.qpApplied d old q) := by
  unfold Dev.qpApplied
  repeat' first
    | with_reducible exact Only.refl
    | with_reducible apply Foot.Sub.mk; decide +kernel
    | with_reducible apply Only.ite
    | with_reducible apply Only.step (Dev.bumpEpoch_only ..)

theorem Dev.objReassign_only (d : Dev) (n : Nat) (k : Nat) : Only foot175 d (Dev.objReassign d n k) := by
  unfold Dev.objReassign
  repeat' first
    | with_reducible exact Only.refl
    | with_reducible apply Foot.Sub.mk; decide +kernel
    | with_reducible apply Only.setFld (has_Obj_LOSTCNT ..)
    | with_reducible apply Only.setFld (has_Obj_NEW ..)
    | with_reducible apply Only.setFld (has_Obj_RXSEQ ..)
    | with_reducible apply Only.step (Dev.bumpEpoch_only ..)
    | with_reducible apply Only.step (Dev.setCan_only ..)

theorem Dev.canObjApplied_only (d : Dev) (old : Dev) (n : Nat) : Only foot176 d (Dev.canObjApplied d old n) := by
  unfold Dev.canObjApplied
  repeat' first
    | with_reducible exact Only.refl
    | with_reducible apply Foot.Sub.mk; decide +kernel
    | with_reducible apply Only.ite
    | with_reducible apply Only.foldl
    | with_reducible apply Only.step (Dev.bumpEpoch_only ..)
    | with_reducible apply Only.step (Dev.objReassign_only ..)
    | with_reducible apply Only.step (Dev.txbDone_only ..)
    | with_reducible intro _

theorem Dev.closeBridge_only (d : Dev) (u : Nat) (sid : Nat) : Only foot177 d (Dev.closeBridge d u sid) := by
  unfold Dev.closeBridge
  repeat' first
    | with_reducible exact Only.refl
    | with_reducible apply Foot.Sub.mk; decide +kernel
    | with_reducible apply Only.step (Dev.setBrSess_only ..)
    | with_reducible apply Only.step (Dev.showSession_only ..)

theorem Dev.bctxApplied_only (d : Dev) (old : Dev) (u : Nat) (k : Nat) : Only foot178 d (Dev.bctxApplied d old u k) := by
  unfold Dev.bctxApplied
  repeat' first
    | with_reducible exact Only.refl
    | with_reducible apply Foot.Sub.mk; decide +kernel
    | with_reducible apply Only.ite
    | with_reducible apply Only.step (Dev.bumpEpoch_only ..)
    | with_reducible apply Only.step (Dev.closeBridge_only ..)

theorem Dev.hallsReset_only (d : Dev) : Only foot179 d (Dev.hallsReset d) := by
  have h_logs : Part.In .logs foot179 := ⟨by decide +kernel⟩
  have h_tenants : Part.In .tenants foot179 := ⟨by decide +kernel⟩
  unfold Dev.hallsReset
  repeat' first
    | with_reducible exact Only.refl
    | with_reducible apply Foot.Sub.mk; decide +kernel
    | with_reducible apply Only.ite
    | with_reducible apply Only.foldl
    | with_reducible apply Only.put (has_Hall_STATE ..)
    | with_reducible apply Only.step (Dev.bctxApplied_only ..)
    | with_reducible apply Only.step (Dev.canObjApplied_only ..)
    | with_reducible apply Only.step (Dev.dmaApplied_only ..)
    | with_reducible apply Only.step (Dev.hallsStart_only ..)
    | with_reducible apply Only.step (Dev.qpApplied_only ..)
    | with_reducible intro _
    | simp only [Only.set_tenants_logs_eq h_tenants h_logs]

theorem Dev.setSched_only (d : Dev) (p : Nat) (f : Sched → Sched) : Only foot14 d (Dev.setSched d p f) := by
  unfold Dev.setSched
  repeat' first
    | with_reducible exact Only.refl
    | with_reducible apply Foot.Sub.mk; decide +kernel
    | with_reducible apply Only.step (Dev.setSw_only ..)

theorem Dev.setGates_only (d : Dev) (p : Nat) (g : Nat) : Only foot180 d (Dev.setGates d p g) := by
  unfold Dev.setGates
  repeat' first
    | with_reducible exact Only.refl
    | with_reducible apply Foot.Sub.mk; decide +kernel
    | with_reducible apply Only.ite
    | with_reducible apply Only.foldl
    | with_reducible apply Only.count (has_txOverrun ..)
    | with_reducible apply Only.step (Dev.setSched_only ..)
    | with_reducible apply Only.step (Dev.setSw_only ..)
    | with_reducible intro _
    | dsimp only
    | split

theorem Dev.gclApplied_only (d : Dev) (p : Nat) : Only foot180 d (Dev.gclApplied d p) := by
  unfold Dev.gclApplied
  repeat' first
    | with_reducible exact Only.refl
    | with_reducible apply Foot.Sub.mk; decide +kernel
    | with_reducible apply Only.ite
    | with_reducible apply Only.step (Dev.setGates_only ..)
    | with_reducible apply Only.step (Dev.setSched_only ..)

theorem Dev.setSto_only (d : Dev) (f : StoSt → StoSt) : Only foot181 d (Dev.setSto d f) := by
  have h_sto : Part.In .sto foot181 := ⟨by decide +kernel⟩
  unfold Dev.setSto
  repeat' first
    | with_reducible exact Only.refl
    | simp only [Only.set_sto_eq h_sto]

theorem Dev.logRoom_only (d : Dev) (n : Nat) (x0 : Nat) : Only foot182 d (Dev.logRoom d n x0) := by
  fun_induction Dev.logRoom d n x0
  all_goals repeat' first
    | with_reducible exact Only.refl
    | with_reducible apply Foot.Sub.mk; decide +kernel
    | with_reducible refine Only.trans (by assumption) ?_
    | with_reducible apply Only.put (has_Stlog_LOG_OLDEST ..)
    | with_reducible apply Only.step (Dev.setSto_only ..)

theorem Dev.hallsMibApplied_only (d : Dev) : Only foot183 d (Dev.hallsMibApplied d) := by
  unfold Dev.hallsMibApplied
  repeat' first
    | with_reducible exact Only.refl
    | with_reducible apply Foot.Sub.mk; decide +kernel
    | with_reducible apply Only.put (has_Stlog_LOG_MIB ..)
    | with_reducible apply Only.step (Dev.logRoom_only ..)

theorem Dev.partsApplied_only (d : Dev) : Only foot181 d (Dev.partsApplied d) := by
  unfold Dev.partsApplied
  repeat' first
    | with_reducible exact Only.refl
    | with_reducible apply Foot.Sub.mk; decide +kernel
    | with_reducible apply Only.step (Dev.setSto_only ..)

theorem Dev.sharedSizeSet_only (d : Dev) : Only foot184 d (Dev.sharedSizeSet d) := by
  unfold Dev.sharedSizeSet
  repeat' first
    | with_reducible exact Only.refl
    | with_reducible apply Foot.Sub.mk; decide +kernel
    | with_reducible apply Only.put (has_Swc_SHARED_SIZE ..)

theorem Dev.setNmt_only (d : Dev) (n : Nat) (st : Nat) : Only foot185 d (Dev.setNmt d n st) := by
  unfold Dev.setNmt
  repeat' first
    | with_reducible exact Only.refl
    | with_reducible apply Foot.Sub.mk; decide +kernel
    | with_reducible apply Only.ite
    | with_reducible apply Only.put (has_CanCo_NMT ..)
    | with_reducible apply Only.step (Dev.event_only ..)

theorem hasKey.mem {f : Fam} {l : List Fam} {k : Nat} (m : f ∈ l) (h : hasKey [f] k) : hasKey l k := by
  obtain ⟨g, n, h⟩ := h
  obtain rfl := List.mem_singleton.1 n
  exact ⟨_, m, h⟩

theorem Dev.commEntries_key (d : Dev) (n : Nat) (e : Entry) (he : e ∈ d.commEntries n) : hasKey [ent1 Ent.Co.SDO_RX_COB, ent1 Ent.Co.SDO_TX_COB, ent1 Ent.Co.CONSUMER_HB, ent1 Ent.Co.RPDO_COB, ent1 Ent.Co.RPDO_TYPE, ent1 Ent.Co.RPDO_INHIBIT, ent1 Ent.Co.RPDO_EVENT_TIMER, ent1 Ent.Co.RPDO_CHANNEL, ent1 Ent.Co.RPDO_SLOT, ent1 Ent.Co.RPDO_MAP_COUNT, ent2 Ent.Co.RPDO_MAP, ent1 Ent.Co.TPDO_COB, ent1 Ent.Co.TPDO_TYPE, ent1 Ent.Co.TPDO_INHIBIT, ent1 Ent.Co.TPDO_EVENT_TIMER, ent1 Ent.Co.TPDO_CHANNEL, ent1 Ent.Co.TPDO_SLOT, ent1 Ent.Co.TPDO_MAP_COUNT, ent2 Ent.Co.TPDO_MAP] e.key := by
  simp only [Dev.commEntries, List.mem_append, List.mem_cons, List.not_mem_nil, or_false, List.mem_map, List.mem_filter, List.mem_flatMap,
    List.mem_range] at he
  rcases he with (((rfl | rfl) | ⟨⟨k, -, rfl⟩, -⟩) | ⟨k, -, he⟩) | ⟨k, -, he⟩
  · exact (has_Co_SDO_RX_COB n).mem (List.mem_of_getElem? (i := 0) rfl)
  · exact (has_Co_SDO_TX_COB n).mem (List.mem_of_getElem? (i := 1) rfl)
  · exact (has_Co_CONSUMER_HB k).mem (List.mem_of_getElem? (i := 2) rfl)
  · simp only [↓reduceIte] at he
    split at he
    · simp only [List.mem_append, List.mem_cons, List.not_mem_nil, or_false, List.mem_map, List.mem_range] at he
      rcases he with (rfl | rfl | rfl | rfl | rfl | rfl | rfl) | ⟨i, -, rfl⟩
      · exact (has_Co_RPDO_COB k).mem (List.mem_of_getElem? (i := 3) rfl)
      · exact (has_Co_RPDO_TYPE k).mem (List.mem_of_getElem? (i := 4) rfl)
      · exact (has_Co_RPDO_INHIBIT k).mem (List.mem_of_getElem? (i := 5) rfl)
      · exact (has_Co_RPDO_EVENT_TIMER k).mem (List.mem_of_getElem? (i := 6) rfl)
      · exact (has_Co_RPDO_CHANNEL k).mem (List.mem_of_getElem? (i := 7) rfl)
      · exact (has_Co_RPDO_SLOT k).mem (List.mem_of_getElem? (i := 8) rfl)
      · exact (has_Co_RPDO_MAP_COUNT k).mem (List.mem_of_getElem? (i := 9) rfl)
      · exact (has_Co_RPDO_MAP k i).mem (List.mem_of_getElem? (i := 10) rfl)
    · exact absurd he (List.not_mem_nil)
  · simp only [Bool.false_eq_true, ↓reduceIte] at he
    split at he
    · simp only [List.mem_append, List.mem_cons, List.not_mem_nil, or_false, List.mem_map, List.mem_range] at he
      rcases he with (rfl | rfl | rfl | rfl | rfl | rfl | rfl) | ⟨i, -, rfl⟩
      · exact (has_Co_TPDO_COB k).mem (List.mem_of_getElem? (i := 11) rfl)
      · exact (has_Co_TPDO_TYPE k).mem (List.mem_of_getElem? (i := 12) rfl)
      · exact (has_Co_TPDO_INHIBIT k).mem (List.mem_of_getElem? (i := 13) rfl)
      · exact (has_Co_TPDO_EVENT_TIMER k).mem (List.mem_of_getElem? (i := 14) rfl)
      · exact (has_Co_TPDO_CHANNEL k).mem (List.mem_of_getElem? (i := 15) rfl)
      · exact (has_Co_TPDO_SLOT k).mem (List.mem_of_getElem? (i := 16) rfl)
      · exact (has_Co_TPDO_MAP_COUNT k).mem (List.mem_of_getElem? (i := 17) rfl)
      · exact (has_Co_TPDO_MAP k i).mem (List.mem_of_getElem? (i := 18) rfl)
    · exact absurd he (List.not_mem_nil)

theorem Dev.resetComm_only (d : Dev) (n : Nat) : Only foot186 d (Dev.resetComm d n) := by
  have h : Only foot186 d ((d.commEntries n).foldl Dev.restoreEntry d) :=
    Only.foldl_mem (fun x e m => Only.restoreEntry (Dev.commEntries_key d n e m) ⟨by decide +kernel⟩ Only.refl) Only.refl
  unfold Dev.resetComm
  generalize (d.commEntries n).foldl Dev.restoreEntry d = x at h ⊢
  repeat' first
    | with_reducible apply Foot.Sub.mk; decide +kernel
    | with_reducible apply Only.ite
    | with_reducible apply Only.step (Dev.setCan_only ..)
    | with_reducible apply Only.step (Dev.setNmt_only ..)
    | with_reducible apply Only.step (Dev.svcSend_only ..)
    | exact h

theorem Dev.nodesStart_only (d : Dev) : Only foot186 d (Dev.nodesStart d) := by
  unfold Dev.nodesStart
  repeat' first
    | with_reducible exact Only.refl
    | with_reducible apply Foot.Sub.mk; decide +kernel
    | with_reducible apply Only.ite
    | with_reducible apply Only.foldl
    | with_reducible apply Only.step (Dev.resetComm_only ..)
    | with_reducible intro _

theorem Dev.unitStarts_only (d : Dev) (x : UnitId) : Only foot187 d (Dev.unitStarts d x) := by
  unfold Dev.unitStarts
  repeat' first
    | with_reducible exact Only.refl
    | with_reducible apply Foot.Sub.mk; decide +kernel
    | with_reducible apply Only.ite
    | with_reducible apply Only.put (has_unitStateEntry ..)
    | with_reducible apply Only.step (Dev.unitDomains_only ..)
    | with_reducible apply Only.step (Dev.unitEnabled_only ..)

theorem Dev.releaseUnit_only (d : Dev) (u : Nat) : Only foot188 d (Dev.releaseUnit d u) := by
  unfold Dev.releaseUnit
  repeat' first
    | with_reducible exact Only.refl
    | with_reducible apply Foot.Sub.mk; decide +kernel
    | with_reducible apply Only.put (has_Trgu_ENABLE ..)
    | with_reducible apply Only.put (has_Trgu_OWNER ..)

theorem Dev.setRegion_only (d : Dev) (lo hi : Nat) (cells : List Host.Cell) : Only foot4 d (Dev.setRegion d lo hi cells) := by
  unfold Dev.setRegion
  exact Only.foldl (fun d c => Only.iteL ((Dev.setByte_only d c.1 c.2).mono ⟨by decide +kernel⟩) Only.refl) (Only.set_mem KV.keep_wf Only.refl ⟨by decide +kernel⟩)

theorem Dev.loadData_only (d : Dev) (img : Bytes) (x : Nat) : Only foot5 d (Dev.loadData d img x) := by
  unfold Dev.loadData
  repeat' first
    | with_reducible exact Only.refl
    | with_reducible apply Foot.Sub.mk; decide +kernel
    | with_reducible apply Only.foldl
    | with_reducible apply Only.step (Dev.setRegion_only ..)
    | with_reducible apply Only.step (Dev.writeTcm_only ..)
    | with_reducible intro _
    | dsimp only
    | split

theorem Dev.loadBanks_only (d : Dev) (img : Bytes) : Only foot5 d (Dev.loadBanks d img) := by
  unfold Dev.loadBanks
  repeat' first
    | with_reducible exact Only.refl
    | with_reducible apply Foot.Sub.mk; decide +kernel
    | with_reducible apply Only.ite
    | with_reducible apply Only.foldl
    | with_reducible apply Only.step (Dev.writeMem_only ..)
    | with_reducible intro _

theorem Dev.swapBanks_only (d : Dev) (c : Nat) : Only foot4 d (Dev.swapBanks d c) := by
  unfold Dev.swapBanks
  exact Only.foldl (fun d x => (Dev.setByte_only d _ x.2).mono ⟨by decide +kernel⟩) (Only.set_mem KV.keep_wf Only.refl ⟨by decide +kernel⟩)

theorem Dev.exchangeBanks_only (d : Dev) (img : Bytes) : Only foot4 d (Dev.exchangeBanks d img) := by
  unfold Dev.exchangeBanks
  repeat' first
    | with_reducible exact Only.refl
    | with_reducible apply Foot.Sub.mk; decide +kernel
    | with_reducible apply Only.foldl
    | with_reducible apply Only.step (Dev.swapBanks_only ..)
    | with_reducible intro _

theorem Dev.retainStatus_only (d : Dev) (v : Nat) : Only foot189 d (Dev.retainStatus d v) := by
  unfold Dev.retainStatus
  repeat' first
    | with_reducible exact Only.refl
    | with_reducible apply Foot.Sub.mk; decide +kernel
    | with_reducible apply Only.put (has_Se_RETAIN_STATUS ..)
    | with_reducible apply Only.step (Dev.seEvent_only ..)

theorem Dev.retainInit_only (d : Dev) (img : Bytes) : Only foot5 d (Dev.retainInit d img) := by
  unfold Dev.retainInit
  repeat' first
    | with_reducible exact Only.refl
    | with_reducible apply Foot.Sub.mk; decide +kernel
    | with_reducible apply Only.foldl
    | with_reducible apply Only.step (Dev.setRegion_only ..)
    | with_reducible apply Only.step (Dev.writeMem_only ..)
    | with_reducible intro _
    | split

theorem Dev.retainRestore_only (d : Dev) (img : Bytes) : Only foot189 d (Dev.retainRestore d img) := by
  unfold Dev.retainRestore
  repeat' first
    | with_reducible exact Only.refl
    | with_reducible apply Foot.Sub.mk; decide +kernel
    | with_reducible apply Only.step (Dev.retainInit_only ..)
    | with_reducible apply Only.step (Dev.retainStatus_only ..)
    | with_reducible apply Only.step (Dev.setRegion_only ..)
    | split

theorem Dev.recordWritten_only (d : Dev) (kind : Nat) (key : Nat) : Only foot168 d (Dev.recordWritten d kind key) := by
  unfold Dev.recordWritten
  repeat' first
    | with_reducible exact Only.refl
    | with_reducible apply Foot.Sub.mk; decide +kernel
    | with_reducible apply Only.step (Dev.setUpd_only ..)

theorem Dev.loadSlots_only (d : Dev) (img : Bytes) : Only foot190 d (Dev.loadSlots d img) := by
  unfold Dev.loadSlots
  repeat' first
    | with_reducible exact Only.refl
    | with_reducible apply Foot.Sub.mk; decide +kernel
    | with_reducible apply Only.foldl
    | with_reducible apply Only.put (has_Stn_STATE ..)
    | with_reducible apply Only.step (Dev.setScan_only ..)
    | with_reducible intro _

theorem Dev.forcesChanged_only (d : Dev) : Only foot191 d (Dev.forcesChanged d) := by
  unfold Dev.forcesChanged
  repeat' first
    | with_reducible exact Only.refl
    | with_reducible apply Foot.Sub.mk; decide +kernel
    | with_reducible apply Only.ite
    | with_reducible apply Only.put (has_Frc_FORCE_COUNT ..)
    | with_reducible apply Only.put (has_Frc_FORCE_GEN ..)
    | with_reducible apply Only.step (Dev.post_only ..)

theorem Dev.clearForces_only (d : Dev) : Only foot192 d (Dev.clearForces d) := by
  unfold Dev.clearForces
  repeat' first
    | with_reducible exact Only.refl
    | with_reducible apply Foot.Sub.mk; decide +kernel
    | with_reducible apply Only.ite
    | with_reducible apply Only.step (Dev.forcesChanged_only ..)
    | with_reducible apply Only.step (Dev.seEvent_only ..)
    | with_reducible apply Only.step (Dev.setScan_only ..)

theorem Dev.loadImage_only (d : Dev) (img : Bytes) (warm : Bool) : Only foot193 d (Dev.loadImage d img warm) := by
  unfold Dev.loadImage
  repeat' first
    | with_reducible exact Only.refl
    | with_reducible apply Foot.Sub.mk; decide +kernel
    | with_reducible apply Only.ite
    | with_reducible apply Only.foldl
    | with_reducible apply Only.put (has_Se_ACTIVE_ID ..)
    | with_reducible apply Only.putOct (has_Seimg_ACTIVE_IMAGE ..)
    | with_reducible apply Only.step (Dev.clearForces_only ..)
    | with_reducible apply Only.step (Dev.engineSafe_only ..)
    | with_reducible apply Only.step (Dev.exchangeBanks_only ..)
    | with_reducible apply Only.step (Dev.loadBanks_only ..)
    | with_reducible apply Only.step (Dev.loadData_only ..)
    | with_reducible apply Only.step (Dev.loadSlots_only ..)
    | with_reducible apply Only.step (Dev.recordWritten_only ..)
    | with_reducible apply Only.step (Dev.releaseUnit_only ..)
    | with_reducible apply Only.step (Dev.retainRestore_only ..)
    | with_reducible apply Only.step (Dev.retainStatus_only ..)
    | with_reducible apply Only.step (Dev.seEvent_only ..)
    | with_reducible apply Only.step (Dev.setEngine_only ..)
    | with_reducible apply Only.step (Dev.setScan_only ..)
    | with_reducible intro _

theorem Dev.armTask_only (d : Dev) (r : TaskRec) (first : Nat) : Only foot194 d (Dev.armTask d r first) := by
  unfold Dev.armTask
  repeat' first
    | with_reducible exact Only.refl
    | with_reducible apply Foot.Sub.mk; decide +kernel
    | with_reducible apply Only.put (has_Trgu_COUNT ..)
    | with_reducible apply Only.put (has_Trgu_ENABLE ..)
    | with_reducible apply Only.put (has_Trgu_NEXT_NS ..)
    | with_reducible apply Only.put (has_Trgu_OWNER ..)
    | with_reducible apply Only.put (has_Trgu_PERIOD_NS ..)
    | with_reducible apply Only.put (has_Trgu_START_NS ..)
    | with_reducible apply Only.put (has_Trgu_TARGET ..)
    | with_reducible apply Only.step (Dev.setTime_only ..)

theorem Dev.clearTasks_only (d : Dev) : Only foot195 d (Dev.clearTasks d) := by
  have key : ∀ (d : Dev) (t : Nat), Only foot195 d ([1, 2, 3, 4, 5, 6, 7].foldl (fun d s => d.put ⟨0x4410 + t, s, 64, 0⟩ 0) d) := by
    intro d t
    simp only [List.foldl]
    exact Only.put (has_Task_COUNTER_SAT t) ⟨by decide +kernel⟩ (Only.put (has_Task_SKIPPED t) ⟨by decide +kernel⟩ (Only.put (has_Task_MERGED t) ⟨by decide +kernel⟩
      (Only.put (has_Task_MAX_DELAY_NS t) ⟨by decide +kernel⟩ (Only.put (has_Task_MAX_EXEC_NS t) ⟨by decide +kernel⟩ (Only.put (has_Task_LAST_EXEC_NS t) ⟨by decide +kernel⟩
      (Only.put (has_Task_CYCLES t) ⟨by decide +kernel⟩ Only.refl))))))
  unfold Dev.clearTasks
  exact (Dev.setScan_only ..).step ⟨by decide +kernel⟩ ((Dev.setScan_only ..).step ⟨by decide +kernel⟩ (Only.foldl key Only.refl))

theorem Dev.startEngine_only (d : Dev) : Only foot196 d (Dev.startEngine d) := by
  unfold Dev.startEngine
  repeat' first
    | with_reducible exact Only.refl
    | with_reducible apply Foot.Sub.mk; decide +kernel
    | with_reducible apply Only.foldl
    | with_reducible apply Only.step (Dev.armTask_only ..)
    | with_reducible apply Only.step (Dev.clearTasks_only ..)
    | with_reducible apply Only.step (Dev.setEngine_only ..)
    | with_reducible intro _

theorem Dev.engineReset_only (d : Dev) (env : Nat) : Only foot197 d (Dev.engineReset d env) := by
  unfold Dev.engineReset
  repeat' first
    | with_reducible exact Only.refl
    | with_reducible apply Foot.Sub.mk; decide +kernel
    | with_reducible apply Only.ite
    | with_reducible apply Only.put (has_Pwr_BOOT_MS ..)
    | with_reducible apply Only.putOct (has_Seimg_ACTIVE_IMAGE ..)
    | with_reducible apply Only.step (Dev.changeEnd_only ..)
    | with_reducible apply Only.step (Dev.loadImage_only ..)
    | with_reducible apply Only.step (Dev.setScan_only ..)
    | with_reducible apply Only.step (Dev.startEngine_only ..)
    | dsimp only
    | split

theorem Dev.warmReset_only (d : Dev) (cause : Nat) (detail : Nat) (ms : Nat) : Only foot198 d (Dev.warmReset d cause detail ms) := by
  unfold Dev.warmReset
  repeat' first
    | with_reducible exact Only.refl
    | with_reducible apply Foot.Sub.mk; decide +kernel
    | with_reducible apply Only.ite
    | with_reducible apply Only.foldl
    | with_reducible apply Only.put (has_Pwr_RESET_REASON ..)
    | with_reducible apply Only.count (has_powerCounter_3 ..)
    | with_reducible apply Only.step (Dev.coresReset_only ..)
    | with_reducible apply Only.step (Dev.defaultMarked_only ..)
    | with_reducible apply Only.step (Dev.dictEmptied_only ..)
    | with_reducible apply Only.step (Dev.engineReset_only ..)
    | with_reducible apply Only.step (Dev.eventSys_only ..)
    | with_reducible apply Only.step (Dev.faultRefresh_only ..)
    | with_reducible apply Only.step (Dev.gclApplied_only ..)
    | with_reducible apply Only.step (Dev.hallsMibApplied_only ..)
    | with_reducible apply Only.step (Dev.hallsReset_only ..)
    | with_reducible apply Only.step (Dev.holdChannels_only ..)
    | with_reducible apply Only.step (Dev.newChallenge_only ..)
    | with_reducible apply Only.step (Dev.nodesStart_only ..)
    | with_reducible apply Only.step (Dev.partsApplied_only ..)
    | with_reducible apply Only.step (Dev.setD0_only ..)
    | with_reducible apply Only.step (Dev.setRole_only ..)
    | with_reducible apply Only.step (Dev.sharedSizeSet_only ..)
    | with_reducible apply Only.step (Dev.switchReset_only ..)
    | with_reducible apply Only.step (Dev.twinReset_only ..)
    | with_reducible apply Only.step (Dev.unitStarts_only ..)
    | with_reducible apply Only.step (Dev.unitsReset_only ..)
    | with_reducible apply Only.step (Dev.wakesFalse_only ..)
    | with_reducible apply Only.step (Dev.warmRegs_only ..)
    | with_reducible apply Only.step (setPhase_only ..)
    | with_reducible intro _

theorem warmResetOp_only (secure : Bool) (ms : Nat) (d : Dev) : Only Foot.warmReset d (warmResetOp secure ms d) := by
  unfold warmResetOp
  repeat' first
    | with_reducible exact Only.refl
    | with_reducible apply Foot.Sub.mk; decide +kernel
    | with_reducible apply Only.ite
    | with_reducible apply Only.step (Dev.finish_only ..)
    | with_reducible apply Only.responseFirst
    | with_reducible apply Only.step (Dev.warmReset_only ..)
    | with_reducible intro _

theorem Dev.loadGroupReset_only (d : Dev) (g : Nat) : Only foot199 d (Dev.loadGroupReset d g) := by
  unfold Dev.loadGroupReset
  repeat' first
    | with_reducible exact Only.refl
    | with_reducible apply Foot.Sub.mk; decide +kernel
    | with_reducible apply Only.foldl
    | with_reducible apply Only.put (has_Lc_CMD ..)
    | with_reducible apply Only.put (has_Lc_FLAGS ..)
    | with_reducible apply Only.put (has_Lc_STATE ..)
    | with_reducible apply Only.step (Dev.refillRetries_only ..)
    | with_reducible apply Only.step (Dev.setLoadCh_only ..)
    | with_reducible intro _

theorem Dev.seUnitReset_only (d : Dev) : Only foot200 d (Dev.seUnitReset d) := by
  unfold Dev.seUnitReset
  repeat' first
    | with_reducible exact Only.refl
    | with_reducible apply Foot.Sub.mk; decide +kernel
    | with_reducible apply Only.ite
    | with_reducible apply Only.foldl
    | with_reducible apply Only.step (Dev.abandonTasks_only ..)
    | with_reducible apply Only.step (Dev.changeEnd_only ..)
    | with_reducible apply Only.step (Dev.engineSafe_only ..)
    | with_reducible apply Only.step (Dev.releaseUnit_only ..)
    | with_reducible apply Only.step (Dev.setEngine_only ..)
    | with_reducible apply Only.step (Dev.setScan_only ..)
    | with_reducible intro _

end Sys2Proof
end

