-- ==== Sys2Proof/Laws/Frames3.lean ====
section
/-! SUPPORT. What each function on the device may change, part 3 of 6: one lemma per function, in an order in which callees come first. -/

set_option maxRecDepth 4000
set_option Elab.async false

namespace Sys2Proof

open Sys2Proof.Machine

def foot201 : Foot := ⟨[.mem, .free, .logs, .limits, .drains, .sw, .can, .br, .adc, .dma, .tenants, .harts, .twin], [ent0 Ent.Evlog.LAST_SEQ, ent0
  Ent.Evlog.LOG_LOST, ent0 Ent.Stw.COUNTER_SAT, ent0 Ent.Stw.STW_ECC_DROPS, ent1 Ent.Adc.STATE, ent1 Ent.Bctx.COUNTER_SAT, ent1 Ent.Bctx.FAILURES,
  ent1 Ent.Bctx.POSTED, ent1 Ent.Bctx.READS, ent1 Ent.Bctx.RETRANSMITS, ent1 Ent.Bctx.STATE, ent1 Ent.Bctx.TIMEOUTS, ent1 Ent.CanSt.COUNTER_SAT, ent1
  Ent.CanSt.STATE, ent1 Ent.CanSt.TX_DISCARDED, ent1 Ent.Dma.BYTES, ent1 Ent.Dma.COUNTER_SAT, ent1 Ent.Dma.DESCRIPTORS, ent1 Ent.Dma.ERRORS, ent1
  Ent.Dma.STALE, ent1 Ent.Dma.STATE, ent1 Ent.Hall.COUNTER_SAT, ent1 Ent.Hall.FROZEN_DROPS, ent1 Ent.Hall.RING_LOST, ent1 Ent.Heng.COUNTER_SAT, ent1
  Ent.Heng.NO_QP, ent1 Ent.Heng.STATE, ent1 Ent.Port.EGRESS_FILTERED, ent1 Ent.Port.PORT_SAT, ent1 Ent.Port.STATE, ent1 Ent.Pq.COPIES_DROPPED, ent1
  Ent.Pq.CT_ABORTED, ent1 Ent.Pq.NO_DESC, ent1 Ent.Pq.OVERSIZE, ent1 Ent.Pq.PORT_SAT, ent1 Ent.Pq.Q_SAT, ent1 Ent.Qp.COUNTER_SAT, ent1
  Ent.Qp.ERR_LOST, ent1 Ent.Qp.STATE, ent1 Ent.Qp.TX_ERRORS, ent1 Ent.Qp.TX_FRAMES, ent2 Ent.Pq.DROP_DISABLED, ent2 Ent.Pq.DROP_DOWN, ent2
  Ent.Pq.DROP_FULL, ent2 Ent.Pq.DROP_RESIDENCE, ent2 Ent.Pq.DROP_STW, ent2 Ent.Pq.Q_STATE], [word1 Rg.Adcr.BUSY, word1 Rg.Ch.IRQ, word1
  Rg.Dmar.ACTIVE, word1 Rg.Dmar.HEAD, word1 Rg.Dmar.IRQ, word1 Rg.Hpg.RING_EN, word1 Rg.Hpg.RING_HEAD, word1 Rg.Qpr.ERR_HEAD, word1 Rg.Qpr.IRQ, word1
  Rg.Qpr.TX_HEAD, word2 Rg.Ctx.BST_ADDR_HI, word2 Rg.Ctx.BST_ADDR_LO, word2 Rg.Ctx.FAILED, word2 Rg.Ctx.FAR_CODE, word2 Rg.Ctx.IRQ, word2
  Rg.Ctx.PW_DONE, word2 Rg.Ep.MERGED, word2 Rg.Txb.CODE, word2 fun u k => rmb u k Rg.Mb.CODE, word2 fun u k => rmb u k Rg.Mb.GO, word2 fun u k => rmb
  u k Rg.Mb.MB_LEN, word2 fun u k => rmb u k Rg.Mb.MB_TOTAL, word3 fun u k i => rmb u k fun n => Rg.Mb.MB_DATA n i]⟩
def foot202 : Foot := ⟨[.regs, .mem, .free, .logs, .limits, .drains, .d0, .sw, .can, .power, .br, .adc, .scan, .dma, .tenants, .harts, .twin], [ent0
  Ent.Evlog.LAST_SEQ, ent0 Ent.Evlog.LOG_LOST, ent0 Ent.Stw.COUNTER_SAT, ent0 Ent.Stw.STW_ECC_DROPS, ent0 Ent.Tws.PATHS, ent0 Ent.Tws.ROLE, ent1
  Ent.Adc.STATE, ent1 Ent.Bctx.COUNTER_SAT, ent1 Ent.Bctx.FAILURES, ent1 Ent.Bctx.POSTED, ent1 Ent.Bctx.READS, ent1 Ent.Bctx.RETRANSMITS, ent1
  Ent.Bctx.SESSION, ent1 Ent.Bctx.STATE, ent1 Ent.Bctx.TIMEOUTS, ent1 Ent.CanCo.SDO_LAST_STATUS, ent1 Ent.CanSt.COUNTER_SAT, ent1 Ent.CanSt.STATE,
  ent1 Ent.CanSt.TX_DISCARDED, ent1 Ent.Dma.BYTES, ent1 Ent.Dma.COUNTER_SAT, ent1 Ent.Dma.DESCRIPTORS, ent1 Ent.Dma.ERRORS, ent1 Ent.Dma.STALE, ent1
  Ent.Dma.STATE, ent1 Ent.Hall.CMD_STATUS, ent1 Ent.Hall.COUNTER_SAT, ent1 Ent.Hall.FROZEN_DROPS, ent1 Ent.Hall.RING_LOST, ent1 Ent.Hall.STATE, ent1
  Ent.Heng.COUNTER_SAT, ent1 Ent.Heng.NO_QP, ent1 Ent.Heng.STATE, ent1 Ent.Port.EGRESS_FILTERED, ent1 Ent.Port.LINK_DOWNS, ent1 Ent.Port.PORT_SAT,
  ent1 Ent.Port.STATE, ent1 Ent.Port.TX_BYTES, ent1 Ent.Port.TX_FRAMES, ent1 Ent.Pq.COPIES_DROPPED, ent1 Ent.Pq.CT_ABORTED, ent1 Ent.Pq.NO_DESC, ent1
  Ent.Pq.OVERSIZE, ent1 Ent.Pq.PORT_SAT, ent1 Ent.Pq.Q_SAT, ent1 Ent.Qp.COUNTER_SAT, ent1 Ent.Qp.ERR_LOST, ent1 Ent.Qp.STATE, ent1 Ent.Qp.TX_ERRORS,
  ent1 Ent.Qp.TX_FRAMES, ent1 Ent.Stn.COUNTER_SAT, ent1 Ent.Stn.LOSSES, ent1 Ent.Stn.STATE, ent2 Ent.Pq.DROP_DISABLED, ent2 Ent.Pq.DROP_DOWN, ent2
  Ent.Pq.DROP_FULL, ent2 Ent.Pq.DROP_RESIDENCE, ent2 Ent.Pq.DROP_STW, ent2 Ent.Pq.Q_STATE], []⟩
def foot203 : Foot := ⟨[.mem, .logs, .d0, .sw, .can, .power, .br, .dma, .tenants, .twin], [ent0 Ent.Evlog.LAST_SEQ, ent0 Ent.Evlog.LOG_LOST, ent0
  Ent.Stg.STAGING, ent0 Ent.Stw.COUNTER_SAT, ent0 Ent.Stw.STW_ECC_DROPS, ent0 Ent.Upd.STAGED_VERSION, ent0 Ent.Upd.STAGING_STATE, ent1
  Ent.CanCo.SDO_LAST_STATUS, ent1 Ent.CanSt.COUNTER_SAT, ent1 Ent.CanSt.TX_DISCARDED, ent1 Ent.Hall.COUNTER_SAT, ent1 Ent.Hall.FROZEN_DROPS, ent1
  Ent.Hall.RING_LOST, ent1 Ent.Heng.COUNTER_SAT, ent1 Ent.Heng.NO_QP, ent1 Ent.Port.EGRESS_FILTERED, ent1 Ent.Port.PORT_SAT, ent1 Ent.Port.TX_BYTES,
  ent1 Ent.Port.TX_FRAMES, ent1 Ent.Pq.CT_ABORTED, ent1 Ent.Pq.NO_DESC, ent1 Ent.Pq.OVERSIZE, ent1 Ent.Pq.PORT_SAT, ent1 Ent.Pq.Q_SAT, ent2
  Ent.Pq.DROP_DISABLED, ent2 Ent.Pq.DROP_DOWN, ent2 Ent.Pq.DROP_FULL, ent2 Ent.Pq.DROP_RESIDENCE, ent2 Ent.Pq.DROP_STW], [word0 Rg.Smb.DONE, word0
  Rg.Smb.MB_LEN, word0 Rg.Smb.MB_TOTAL, word1 Rg.Hpg.RING_HEAD, word1 Rg.Mb.DONE, word1 Rg.Mb.MB_LEN, word1 Rg.Mb.MB_TOTAL, word1 Rg.Smb.MB_DATA,
  word2 Rg.Mb.MB_DATA]⟩
def foot204 : Foot := ⟨[.regs, .mem, .free, .logs, .limits, .drains, .sw, .can, .br, .adc, .dma, .tenants, .harts, .twin], [ent0 Ent.Evlog.LAST_SEQ,
  ent0 Ent.Evlog.LOG_LOST, ent0 Ent.Stw.COUNTER_SAT, ent0 Ent.Stw.STW_ECC_DROPS, ent1 Ent.Adc.STATE, ent1 Ent.Bctx.COUNTER_SAT, ent1
  Ent.Bctx.FAILURES, ent1 Ent.Bctx.POSTED, ent1 Ent.Bctx.READS, ent1 Ent.Bctx.RETRANSMITS, ent1 Ent.Bctx.SESSION, ent1 Ent.Bctx.STATE, ent1
  Ent.Bctx.TIMEOUTS, ent1 Ent.CanSt.COUNTER_SAT, ent1 Ent.CanSt.STATE, ent1 Ent.CanSt.TX_DISCARDED, ent1 Ent.Dma.BYTES, ent1 Ent.Dma.COUNTER_SAT, ent1
  Ent.Dma.DESCRIPTORS, ent1 Ent.Dma.ERRORS, ent1 Ent.Dma.STALE, ent1 Ent.Dma.STATE, ent1 Ent.Hall.COUNTER_SAT, ent1 Ent.Hall.FROZEN_DROPS, ent1
  Ent.Hall.RING_LOST, ent1 Ent.Heng.COUNTER_SAT, ent1 Ent.Heng.NO_QP, ent1 Ent.Heng.STATE, ent1 Ent.Port.EGRESS_FILTERED, ent1 Ent.Port.PORT_SAT, ent1
  Ent.Port.STATE, ent1 Ent.Pq.COPIES_DROPPED, ent1 Ent.Pq.CT_ABORTED, ent1 Ent.Pq.NO_DESC, ent1 Ent.Pq.OVERSIZE, ent1 Ent.Pq.PORT_SAT, ent1
  Ent.Pq.Q_SAT, ent1 Ent.Qp.COUNTER_SAT, ent1 Ent.Qp.ERR_LOST, ent1 Ent.Qp.STATE, ent1 Ent.Qp.TX_ERRORS, ent1 Ent.Qp.TX_FRAMES, ent2
  Ent.Pq.DROP_DISABLED, ent2 Ent.Pq.DROP_DOWN, ent2 Ent.Pq.DROP_FULL, ent2 Ent.Pq.DROP_RESIDENCE, ent2 Ent.Pq.DROP_STW, ent2 Ent.Pq.Q_STATE], []⟩
def foot205 : Foot := ⟨[.d0, .br], [ent1 Ent.Bctx.SESSION], [word2 Rg.Ctx.SESSION]⟩
def foot206 : Foot := ⟨[.d0, .br, .mezz, .upd], [ent1 Ent.Bctx.SESSION, ent1 Ent.Key.KEY, ent1 Ent.Key.LOADED, ent1 Ent.Key.USAGE], [word2
  Rg.Ctx.SESSION]⟩
def foot207 : Foot := ⟨[.mem, .logs, .d0, .sw, .can, .power, .br, .dma, .tenants, .mezz, .upd, .twin], [ent0 Ent.Evlog.LAST_SEQ, ent0
  Ent.Evlog.LOG_LOST, ent0 Ent.Stw.COUNTER_SAT, ent0 Ent.Stw.STW_ECC_DROPS, ent1 Ent.Bctx.SESSION, ent1 Ent.CanCo.SDO_LAST_STATUS, ent1
  Ent.CanSt.COUNTER_SAT, ent1 Ent.CanSt.TX_DISCARDED, ent1 Ent.Hall.COUNTER_SAT, ent1 Ent.Hall.FROZEN_DROPS, ent1 Ent.Hall.RING_LOST, ent1
  Ent.Heng.COUNTER_SAT, ent1 Ent.Heng.NO_QP, ent1 Ent.Key.KEY, ent1 Ent.Key.LOADED, ent1 Ent.Key.USAGE, ent1 Ent.Port.EGRESS_FILTERED, ent1
  Ent.Port.PORT_SAT, ent1 Ent.Port.TX_BYTES, ent1 Ent.Port.TX_FRAMES, ent1 Ent.Pq.CT_ABORTED, ent1 Ent.Pq.NO_DESC, ent1 Ent.Pq.OVERSIZE, ent1
  Ent.Pq.PORT_SAT, ent1 Ent.Pq.Q_SAT, ent2 Ent.Pq.DROP_DISABLED, ent2 Ent.Pq.DROP_DOWN, ent2 Ent.Pq.DROP_FULL, ent2 Ent.Pq.DROP_RESIDENCE, ent2
  Ent.Pq.DROP_STW], [word0 Rg.Smb.DONE, word0 Rg.Smb.MB_LEN, word0 Rg.Smb.MB_TOTAL, word1 Rg.Hpg.RING_HEAD, word1 Rg.M0Src.PENDING, word1 Rg.Mb.DONE,
  word1 Rg.Mb.MB_LEN, word1 Rg.Mb.MB_TOTAL, word1 Rg.Smb.MB_DATA, word2 Rg.Ctx.SESSION, word2 Rg.Mb.MB_DATA]⟩
def foot208 : Foot := ⟨[.regs, .mem, .logs, .d0, .sw, .can, .power, .br, .dma, .tenants, .mezz, .upd, .twin], [ent0 Ent.Evlog.LAST_SEQ, ent0
  Ent.Evlog.LOG_LOST, ent0 Ent.Stw.COUNTER_SAT, ent0 Ent.Stw.STW_ECC_DROPS, ent1 Ent.Bctx.SESSION, ent1 Ent.CanCo.SDO_LAST_STATUS, ent1
  Ent.CanSt.COUNTER_SAT, ent1 Ent.CanSt.TX_DISCARDED, ent1 Ent.Hall.COUNTER_SAT, ent1 Ent.Hall.FROZEN_DROPS, ent1 Ent.Hall.RING_LOST, ent1
  Ent.Heng.COUNTER_SAT, ent1 Ent.Heng.NO_QP, ent1 Ent.Key.KEY, ent1 Ent.Key.LOADED, ent1 Ent.Key.USAGE, ent1 Ent.Port.EGRESS_FILTERED, ent1
  Ent.Port.PORT_SAT, ent1 Ent.Port.TX_BYTES, ent1 Ent.Port.TX_FRAMES, ent1 Ent.Pq.CT_ABORTED, ent1 Ent.Pq.NO_DESC, ent1 Ent.Pq.OVERSIZE, ent1
  Ent.Pq.PORT_SAT, ent1 Ent.Pq.Q_SAT, ent2 Ent.Pq.DROP_DISABLED, ent2 Ent.Pq.DROP_DOWN, ent2 Ent.Pq.DROP_FULL, ent2 Ent.Pq.DROP_RESIDENCE, ent2
  Ent.Pq.DROP_STW], []⟩
def foot209 : Foot := ⟨[.mem, .free, .logs, .limits, .drains, .d0, .sw, .can, .power, .br, .adc, .scan, .dma, .tenants, .harts, .twin], [ent0
  Ent.Evlog.LAST_SEQ, ent0 Ent.Evlog.LOG_LOST, ent0 Ent.Stw.COUNTER_SAT, ent0 Ent.Stw.STW_ECC_DROPS, ent0 Ent.Tws.PATHS, ent0 Ent.Tws.ROLE, ent1
  Ent.Adc.STATE, ent1 Ent.Bctx.COUNTER_SAT, ent1 Ent.Bctx.FAILURES, ent1 Ent.Bctx.POSTED, ent1 Ent.Bctx.READS, ent1 Ent.Bctx.RETRANSMITS, ent1
  Ent.Bctx.SESSION, ent1 Ent.Bctx.STATE, ent1 Ent.Bctx.TIMEOUTS, ent1 Ent.CanCo.SDO_LAST_STATUS, ent1 Ent.CanSt.COUNTER_SAT, ent1 Ent.CanSt.STATE,
  ent1 Ent.CanSt.TX_DISCARDED, ent1 Ent.Dma.BYTES, ent1 Ent.Dma.COUNTER_SAT, ent1 Ent.Dma.DESCRIPTORS, ent1 Ent.Dma.ERRORS, ent1 Ent.Dma.STALE, ent1
  Ent.Dma.STATE, ent1 Ent.Hall.CMD_STATUS, ent1 Ent.Hall.COUNTER_SAT, ent1 Ent.Hall.FROZEN_DROPS, ent1 Ent.Hall.RING_LOST, ent1 Ent.Hall.STATE, ent1
  Ent.Heng.COUNTER_SAT, ent1 Ent.Heng.NO_QP, ent1 Ent.Heng.STATE, ent1 Ent.Port.EGRESS_FILTERED, ent1 Ent.Port.LINK_DOWNS, ent1 Ent.Port.PORT_SAT,
  ent1 Ent.Port.STATE, ent1 Ent.Port.TX_BYTES, ent1 Ent.Port.TX_FRAMES, ent1 Ent.Port.TX_OVERRUN, ent1 Ent.Pq.COPIES_DROPPED, ent1 Ent.Pq.CT_ABORTED,
  ent1 Ent.Pq.NO_DESC, ent1 Ent.Pq.OVERSIZE, ent1 Ent.Pq.PORT_SAT, ent1 Ent.Pq.Q_SAT, ent1 Ent.Qp.COUNTER_SAT, ent1 Ent.Qp.ERR_LOST, ent1
  Ent.Qp.STATE, ent1 Ent.Qp.TX_ERRORS, ent1 Ent.Qp.TX_FRAMES, ent1 Ent.Stn.COUNTER_SAT, ent1 Ent.Stn.LOSSES, ent1 Ent.Stn.STATE, ent2
  Ent.Pq.DROP_DISABLED, ent2 Ent.Pq.DROP_DOWN, ent2 Ent.Pq.DROP_FULL, ent2 Ent.Pq.DROP_RESIDENCE, ent2 Ent.Pq.DROP_STW, ent2 Ent.Pq.Q_STATE], [word0
  Rg.Smb.DONE, word0 Rg.Smb.MB_LEN, word0 Rg.Smb.MB_TOTAL, word1 Rg.Adcr.BUSY, word1 Rg.Ch.IRQ, word1 Rg.Dmar.ACTIVE, word1 Rg.Dmar.HEAD, word1
  Rg.Dmar.IRQ, word1 Rg.Hpg.RING_EN, word1 Rg.Hpg.RING_HEAD, word1 Rg.Mb.DONE, word1 Rg.Mb.MB_LEN, word1 Rg.Mb.MB_TOTAL, word1 Rg.Plat.SYS_IRQ, word1
  Rg.Qpr.ERR_HEAD, word1 Rg.Qpr.IRQ, word1 Rg.Qpr.TX_HEAD, word1 Rg.Smb.MB_DATA, word2 Rg.Ctx.BST_ADDR_HI, word2 Rg.Ctx.BST_ADDR_LO, word2
  Rg.Ctx.FAILED, word2 Rg.Ctx.FAR_CODE, word2 Rg.Ctx.IRQ, word2 Rg.Ctx.PW_DONE, word2 Rg.Ctx.SESSION, word2 Rg.Ep.MERGED, word2 Rg.Mb.MB_DATA, word2
  Rg.Txb.CODE, word2 fun u k => rmb u k Rg.Mb.CODE, word2 fun u k => rmb u k Rg.Mb.GO, word2 fun u k => rmb u k Rg.Mb.MB_LEN, word2 fun u k => rmb u k
  Rg.Mb.MB_TOTAL, word3 fun u k i => rmb u k fun n => Rg.Mb.MB_DATA n i]⟩
def foot210 : Foot := ⟨[.regs, .mem, .free, .logs, .limits, .drains, .sw, .can, .br, .adc, .dma, .tenants, .harts, .twin], [ent0 Ent.Evlog.LAST_SEQ,
  ent0 Ent.Evlog.LOG_LOST, ent0 Ent.Stw.COUNTER_SAT, ent0 Ent.Stw.STW_ECC_DROPS, ent1 Ent.Adc.STATE, ent1 Ent.Bctx.COUNTER_SAT, ent1
  Ent.Bctx.FAILURES, ent1 Ent.Bctx.POSTED, ent1 Ent.Bctx.READS, ent1 Ent.Bctx.RETRANSMITS, ent1 Ent.Bctx.STATE, ent1 Ent.Bctx.TIMEOUTS, ent1
  Ent.CanSt.COUNTER_SAT, ent1 Ent.CanSt.STATE, ent1 Ent.CanSt.TX_DISCARDED, ent1 Ent.Dma.BYTES, ent1 Ent.Dma.COUNTER_SAT, ent1 Ent.Dma.DESCRIPTORS,
  ent1 Ent.Dma.ERRORS, ent1 Ent.Dma.STALE, ent1 Ent.Dma.STATE, ent1 Ent.Hall.COUNTER_SAT, ent1 Ent.Hall.FROZEN_DROPS, ent1 Ent.Hall.RING_LOST, ent1
  Ent.Heng.COUNTER_SAT, ent1 Ent.Heng.NO_QP, ent1 Ent.Heng.STATE, ent1 Ent.Port.EGRESS_FILTERED, ent1 Ent.Port.PORT_SAT, ent1 Ent.Port.STATE, ent1
  Ent.Pq.COPIES_DROPPED, ent1 Ent.Pq.CT_ABORTED, ent1 Ent.Pq.NO_DESC, ent1 Ent.Pq.OVERSIZE, ent1 Ent.Pq.PORT_SAT, ent1 Ent.Pq.Q_SAT, ent1
  Ent.Qp.COUNTER_SAT, ent1 Ent.Qp.ERR_LOST, ent1 Ent.Qp.STATE, ent1 Ent.Qp.TX_ERRORS, ent1 Ent.Qp.TX_FRAMES, ent2 Ent.Pq.DROP_DISABLED, ent2
  Ent.Pq.DROP_DOWN, ent2 Ent.Pq.DROP_FULL, ent2 Ent.Pq.DROP_RESIDENCE, ent2 Ent.Pq.DROP_STW, ent2 Ent.Pq.Q_STATE], []⟩
def foot211 : Foot := ⟨[.regs, .sto], [], []⟩
def foot212 : Foot := ⟨[.regs, .mem, .free, .logs, .limits, .drains, .d0, .sw, .can, .power, .br, .load, .adc, .scan, .dma, .tenants, .mezz, .clk,
  .sto, .upd, .held, .harts, .twin], [ent0 Ent.Chg.CHANGES, ent0 Ent.Chg.CHANGE_RESULT, ent0 Ent.Chg.CHANGE_STATE, ent0 Ent.Chg.CHANGE_STATUS, ent0
  Ent.Chg.COUNTER_SAT, ent0 Ent.Chg.REFUSALS, ent0 Ent.Clk.SSC_ACTIVE, ent0 Ent.Evlog.LAST_SEQ, ent0 Ent.Evlog.LOG_LOST, ent0 Ent.Se.STATE, ent0
  Ent.Stg.STAGING, ent0 Ent.Stw.COUNTER_SAT, ent0 Ent.Stw.STW_ECC_DROPS, ent0 Ent.Tws.PATHS, ent0 Ent.Tws.ROLE, ent0 Ent.Upd.STAGED_VERSION, ent0
  Ent.Upd.STAGING_STATE, ent1 Ent.Adc.STATE, ent1 Ent.Bctx.COUNTER_SAT, ent1 Ent.Bctx.FAILURES, ent1 Ent.Bctx.POSTED, ent1 Ent.Bctx.READS, ent1
  Ent.Bctx.RETRANSMITS, ent1 Ent.Bctx.SESSION, ent1 Ent.Bctx.STATE, ent1 Ent.Bctx.TIMEOUTS, ent1 Ent.CanCo.SDO_LAST_STATUS, ent1
  Ent.CanSt.COUNTER_SAT, ent1 Ent.CanSt.STATE, ent1 Ent.CanSt.TX_DISCARDED, ent1 Ent.Dma.BYTES, ent1 Ent.Dma.COUNTER_SAT, ent1 Ent.Dma.DESCRIPTORS,
  ent1 Ent.Dma.ERRORS, ent1 Ent.Dma.STALE, ent1 Ent.Dma.STATE, ent1 Ent.Hall.CMD_STATUS, ent1 Ent.Hall.COUNTER_SAT, ent1 Ent.Hall.FROZEN_DROPS, ent1
  Ent.Hall.RING_LOST, ent1 Ent.Hall.STATE, ent1 Ent.Heng.COUNTER_SAT, ent1 Ent.Heng.NO_QP, ent1 Ent.Heng.STATE, ent1 Ent.Key.KEY, ent1 Ent.Key.LOADED,
  ent1 Ent.Key.USAGE, ent1 Ent.Lc.FLAGS, ent1 Ent.Lc.STATE, ent1 Ent.Port.EGRESS_FILTERED, ent1 Ent.Port.LINK_DOWNS, ent1 Ent.Port.PORT_SAT, ent1
  Ent.Port.STATE, ent1 Ent.Port.TX_BYTES, ent1 Ent.Port.TX_FRAMES, ent1 Ent.Port.TX_OVERRUN, ent1 Ent.Pq.COPIES_DROPPED, ent1 Ent.Pq.CT_ABORTED, ent1
  Ent.Pq.NO_DESC, ent1 Ent.Pq.OVERSIZE, ent1 Ent.Pq.PORT_SAT, ent1 Ent.Pq.Q_SAT, ent1 Ent.Qp.COUNTER_SAT, ent1 Ent.Qp.ERR_LOST, ent1 Ent.Qp.STATE,
  ent1 Ent.Qp.TX_ERRORS, ent1 Ent.Qp.TX_FRAMES, ent1 Ent.Stn.COUNTER_SAT, ent1 Ent.Stn.LOSSES, ent1 Ent.Stn.STATE, ent1 Ent.Trgu.ENABLE, ent1
  Ent.Trgu.OWNER, ent2 Ent.Pq.DROP_DISABLED, ent2 Ent.Pq.DROP_DOWN, ent2 Ent.Pq.DROP_FULL, ent2 Ent.Pq.DROP_RESIDENCE, ent2 Ent.Pq.DROP_STW, ent2
  Ent.Pq.Q_STATE], []⟩
def foot213 : Foot := ⟨[], [ent2 Ent.Gate.GATE], []⟩
def foot214 : Foot := ⟨[.mem, .logs, .limits, .d0, .sw, .can, .power, .br, .dma, .tenants, .twin], [ent0 Ent.Evlog.LAST_SEQ, ent0 Ent.Evlog.LOG_LOST,
  ent0 Ent.Lease.COUNTER_SAT, ent0 Ent.Lease.LEASE_REFUSALS, ent0 Ent.Stw.COUNTER_SAT, ent0 Ent.Stw.STW_ECC_DROPS, ent1 Ent.CanCo.SDO_LAST_STATUS,
  ent1 Ent.CanSt.COUNTER_SAT, ent1 Ent.CanSt.TX_DISCARDED, ent1 Ent.Hall.COUNTER_SAT, ent1 Ent.Hall.FROZEN_DROPS, ent1 Ent.Hall.RING_LOST, ent1
  Ent.Heng.COUNTER_SAT, ent1 Ent.Heng.NO_QP, ent1 Ent.Port.EGRESS_FILTERED, ent1 Ent.Port.PORT_SAT, ent1 Ent.Port.TX_BYTES, ent1 Ent.Port.TX_FRAMES,
  ent1 Ent.Pq.CT_ABORTED, ent1 Ent.Pq.NO_DESC, ent1 Ent.Pq.OVERSIZE, ent1 Ent.Pq.PORT_SAT, ent1 Ent.Pq.Q_SAT, ent2 Ent.Gate.GATE, ent2
  Ent.Pq.DROP_DISABLED, ent2 Ent.Pq.DROP_DOWN, ent2 Ent.Pq.DROP_FULL, ent2 Ent.Pq.DROP_RESIDENCE, ent2 Ent.Pq.DROP_STW], [word0 Rg.Smb.DONE, word0
  Rg.Smb.MB_LEN, word0 Rg.Smb.MB_TOTAL, word1 Rg.Hpg.RING_HEAD, word1 Rg.M0Src.PENDING, word1 Rg.Mb.DONE, word1 Rg.Mb.MB_LEN, word1 Rg.Mb.MB_TOTAL,
  word1 Rg.Smb.MB_DATA, word2 Rg.Mb.MB_DATA]⟩
def foot215 : Foot := ⟨[.mem, .free, .logs, .limits, .time, .d0, .sw, .can, .power, .br, .scan, .dma, .tenants, .clk, .harts, .twin], [ent0
  Ent.Evlog.LAST_SEQ, ent0 Ent.Evlog.LOG_LOST, ent0 Ent.Stw.COUNTER_SAT, ent0 Ent.Stw.STW_ECC_DROPS, ent0 Ent.Tws.PATHS, ent0 Ent.Tws.ROLE, ent1
  Ent.Bctx.COUNTER_SAT, ent1 Ent.Bctx.FAILURES, ent1 Ent.Bctx.POSTED, ent1 Ent.Bctx.READS, ent1 Ent.Bctx.RETRANSMITS, ent1 Ent.Bctx.SESSION, ent1
  Ent.Bctx.TIMEOUTS, ent1 Ent.CanCo.SDO_LAST_STATUS, ent1 Ent.CanSt.COUNTER_SAT, ent1 Ent.CanSt.TX_DISCARDED, ent1 Ent.Dom.SOURCE, ent1
  Ent.Hall.CMD_STATUS, ent1 Ent.Hall.COUNTER_SAT, ent1 Ent.Hall.FROZEN_DROPS, ent1 Ent.Hall.RING_LOST, ent1 Ent.Hall.STATE, ent1 Ent.Heng.COUNTER_SAT,
  ent1 Ent.Heng.NO_QP, ent1 Ent.Port.EGRESS_FILTERED, ent1 Ent.Port.LINK_DOWNS, ent1 Ent.Port.PORT_SAT, ent1 Ent.Port.TX_BYTES, ent1
  Ent.Port.TX_FRAMES, ent1 Ent.Pq.COPIES_DROPPED, ent1 Ent.Pq.CT_ABORTED, ent1 Ent.Pq.NO_DESC, ent1 Ent.Pq.OVERSIZE, ent1 Ent.Pq.PORT_SAT, ent1
  Ent.Pq.Q_SAT, ent1 Ent.Stn.COUNTER_SAT, ent1 Ent.Stn.LOSSES, ent1 Ent.Stn.STATE, ent2 Ent.Pq.DROP_DISABLED, ent2 Ent.Pq.DROP_DOWN, ent2
  Ent.Pq.DROP_FULL, ent2 Ent.Pq.DROP_RESIDENCE, ent2 Ent.Pq.DROP_STW], [word0 Rg.Smb.DONE, word0 Rg.Smb.MB_LEN, word0 Rg.Smb.MB_TOTAL, word1
  Rg.Hpg.RING_EN, word1 Rg.Hpg.RING_HEAD, word1 Rg.Mb.DONE, word1 Rg.Mb.MB_LEN, word1 Rg.Mb.MB_TOTAL, word1 Rg.Plat.SYS_IRQ, word1 Rg.Smb.MB_DATA,
  word2 Rg.Ctx.BST_ADDR_HI, word2 Rg.Ctx.BST_ADDR_LO, word2 Rg.Ctx.FAILED, word2 Rg.Ctx.FAR_CODE, word2 Rg.Ctx.IRQ, word2 Rg.Ctx.PW_DONE, word2
  Rg.Ctx.SESSION, word2 Rg.Ep.MERGED, word2 Rg.Mb.MB_DATA, word2 fun u k => rmb u k Rg.Mb.CODE, word2 fun u k => rmb u k Rg.Mb.GO, word2 fun u k =>
  rmb u k Rg.Mb.MB_LEN, word2 fun u k => rmb u k Rg.Mb.MB_TOTAL, word3 fun u k i => rmb u k fun n => Rg.Mb.MB_DATA n i]⟩
def foot216 : Foot := ⟨[.regs, .mem, .free, .logs, .limits, .drains, .time, .d0, .sw, .can, .power, .br, .load, .adc, .scan, .dma, .tenants, .mezz,
  .clk, .sto, .upd, .held, .harts, .twin], [ent0 Ent.Chg.CHANGES, ent0 Ent.Chg.CHANGE_RESULT, ent0 Ent.Chg.CHANGE_STATE, ent0 Ent.Chg.CHANGE_STATUS,
  ent0 Ent.Chg.COUNTER_SAT, ent0 Ent.Chg.REFUSALS, ent0 Ent.Clk.SSC_ACTIVE, ent0 Ent.Evlog.LAST_SEQ, ent0 Ent.Evlog.LOG_LOST, ent0 Ent.Se.STATE, ent0
  Ent.Stg.STAGING, ent0 Ent.Stw.COUNTER_SAT, ent0 Ent.Stw.STW_ECC_DROPS, ent0 Ent.Tws.PATHS, ent0 Ent.Tws.ROLE, ent0 Ent.Upd.STAGED_VERSION, ent0
  Ent.Upd.STAGING_STATE, ent1 Ent.Adc.STATE, ent1 Ent.Bctx.COUNTER_SAT, ent1 Ent.Bctx.FAILURES, ent1 Ent.Bctx.POSTED, ent1 Ent.Bctx.READS, ent1
  Ent.Bctx.RETRANSMITS, ent1 Ent.Bctx.SESSION, ent1 Ent.Bctx.STATE, ent1 Ent.Bctx.TIMEOUTS, ent1 Ent.CanCo.SDO_LAST_STATUS, ent1
  Ent.CanSt.COUNTER_SAT, ent1 Ent.CanSt.STATE, ent1 Ent.CanSt.TX_DISCARDED, ent1 Ent.Dma.BYTES, ent1 Ent.Dma.COUNTER_SAT, ent1 Ent.Dma.DESCRIPTORS,
  ent1 Ent.Dma.ERRORS, ent1 Ent.Dma.STALE, ent1 Ent.Dma.STATE, ent1 Ent.Dom.SOURCE, ent1 Ent.Hall.CMD_STATUS, ent1 Ent.Hall.COUNTER_SAT, ent1
  Ent.Hall.FROZEN_DROPS, ent1 Ent.Hall.RING_LOST, ent1 Ent.Hall.STATE, ent1 Ent.Heng.COUNTER_SAT, ent1 Ent.Heng.NO_QP, ent1 Ent.Heng.STATE, ent1
  Ent.Key.KEY, ent1 Ent.Key.LOADED, ent1 Ent.Key.USAGE, ent1 Ent.Lc.FLAGS, ent1 Ent.Lc.STATE, ent1 Ent.Port.EGRESS_FILTERED, ent1 Ent.Port.LINK_DOWNS,
  ent1 Ent.Port.PORT_SAT, ent1 Ent.Port.STATE, ent1 Ent.Port.TX_BYTES, ent1 Ent.Port.TX_FRAMES, ent1 Ent.Port.TX_OVERRUN, ent1 Ent.Pq.COPIES_DROPPED,
  ent1 Ent.Pq.CT_ABORTED, ent1 Ent.Pq.NO_DESC, ent1 Ent.Pq.OVERSIZE, ent1 Ent.Pq.PORT_SAT, ent1 Ent.Pq.Q_SAT, ent1 Ent.Qp.COUNTER_SAT, ent1
  Ent.Qp.ERR_LOST, ent1 Ent.Qp.STATE, ent1 Ent.Qp.TX_ERRORS, ent1 Ent.Qp.TX_FRAMES, ent1 Ent.Stn.COUNTER_SAT, ent1 Ent.Stn.LOSSES, ent1 Ent.Stn.STATE,
  ent1 Ent.Trgu.ENABLE, ent1 Ent.Trgu.OWNER, ent2 Ent.Gate.GATE, ent2 Ent.Pq.DROP_DISABLED, ent2 Ent.Pq.DROP_DOWN, ent2 Ent.Pq.DROP_FULL, ent2
  Ent.Pq.DROP_RESIDENCE, ent2 Ent.Pq.DROP_STW, ent2 Ent.Pq.Q_STATE], []⟩
def foot217 : Foot := ⟨[.mem, .dma], [], []⟩
def foot218 : Foot := ⟨[.mem, .free, .logs, .limits, .time, .d0, .sw, .can, .power, .br, .scan, .dma, .tenants, .clk, .harts, .twin], [ent0
  Ent.Evlog.LAST_SEQ, ent0 Ent.Evlog.LOG_LOST, ent0 Ent.Stw.COUNTER_SAT, ent0 Ent.Stw.STW_ECC_DROPS, ent0 Ent.Tws.PATHS, ent0 Ent.Tws.ROLE, ent1
  Ent.Bctx.COUNTER_SAT, ent1 Ent.Bctx.FAILURES, ent1 Ent.Bctx.POSTED, ent1 Ent.Bctx.READS, ent1 Ent.Bctx.RETRANSMITS, ent1 Ent.Bctx.SESSION, ent1
  Ent.Bctx.TIMEOUTS, ent1 Ent.CanCo.SDO_LAST_STATUS, ent1 Ent.CanSt.COUNTER_SAT, ent1 Ent.CanSt.TX_DISCARDED, ent1 Ent.Dom.SOURCE, ent1
  Ent.Hall.CMD_STATUS, ent1 Ent.Hall.COUNTER_SAT, ent1 Ent.Hall.FROZEN_DROPS, ent1 Ent.Hall.RING_LOST, ent1 Ent.Hall.STATE, ent1 Ent.Heng.COUNTER_SAT,
  ent1 Ent.Heng.NO_QP, ent1 Ent.Port.EGRESS_FILTERED, ent1 Ent.Port.LINK_DOWNS, ent1 Ent.Port.PORT_SAT, ent1 Ent.Port.TX_BYTES, ent1
  Ent.Port.TX_FRAMES, ent1 Ent.Pq.COPIES_DROPPED, ent1 Ent.Pq.CT_ABORTED, ent1 Ent.Pq.NO_DESC, ent1 Ent.Pq.OVERSIZE, ent1 Ent.Pq.PORT_SAT, ent1
  Ent.Pq.Q_SAT, ent1 Ent.Stn.COUNTER_SAT, ent1 Ent.Stn.LOSSES, ent1 Ent.Stn.STATE, ent2 Ent.Gate.GATE, ent2 Ent.Pq.DROP_DISABLED, ent2
  Ent.Pq.DROP_DOWN, ent2 Ent.Pq.DROP_FULL, ent2 Ent.Pq.DROP_RESIDENCE, ent2 Ent.Pq.DROP_STW], [word0 Rg.Smb.DONE, word0 Rg.Smb.MB_LEN, word0
  Rg.Smb.MB_TOTAL, word1 Rg.Hpg.RING_EN, word1 Rg.Hpg.RING_HEAD, word1 Rg.Mb.DONE, word1 Rg.Mb.MB_LEN, word1 Rg.Mb.MB_TOTAL, word1 Rg.Plat.SYS_IRQ,
  word1 Rg.Smb.MB_DATA, word2 Rg.Ctx.BST_ADDR_HI, word2 Rg.Ctx.BST_ADDR_LO, word2 Rg.Ctx.FAILED, word2 Rg.Ctx.FAR_CODE, word2 Rg.Ctx.IRQ, word2
  Rg.Ctx.PW_DONE, word2 Rg.Ctx.SESSION, word2 Rg.Ep.MERGED, word2 Rg.Mb.MB_DATA, word2 fun u k => rmb u k Rg.Mb.CODE, word2 fun u k => rmb u k
  Rg.Mb.GO, word2 fun u k => rmb u k Rg.Mb.MB_LEN, word2 fun u k => rmb u k Rg.Mb.MB_TOTAL, word3 fun u k i => rmb u k fun n => Rg.Mb.MB_DATA n i]⟩
def foot219 : Foot := ⟨[.mem, .logs, .dma, .tenants, .mezz], [ent0 Ent.Evlog.LAST_SEQ, ent0 Ent.Evlog.LOG_LOST, ent0 Ent.Sec.LIFECYCLE, ent1
  Ent.Hall.RING_LOST], [word1 Rg.Hpg.RING_HEAD, word1 Rg.M0Src.PENDING]⟩
def foot220 : Foot := ⟨[.mem, .free, .logs, .d0, .sw, .can, .power, .br, .dma, .tenants, .twin], [ent0 Ent.Evlog.LAST_SEQ, ent0 Ent.Evlog.LOG_LOST,
  ent0 Ent.Sec.DBG_CHALLENGE, ent0 Ent.Stw.COUNTER_SAT, ent0 Ent.Stw.STW_ECC_DROPS, ent1 Ent.CanCo.SDO_LAST_STATUS, ent1 Ent.CanSt.COUNTER_SAT, ent1
  Ent.CanSt.TX_DISCARDED, ent1 Ent.Hall.COUNTER_SAT, ent1 Ent.Hall.FROZEN_DROPS, ent1 Ent.Hall.RING_LOST, ent1 Ent.Heng.COUNTER_SAT, ent1
  Ent.Heng.NO_QP, ent1 Ent.Port.EGRESS_FILTERED, ent1 Ent.Port.PORT_SAT, ent1 Ent.Port.TX_BYTES, ent1 Ent.Port.TX_FRAMES, ent1 Ent.Pq.CT_ABORTED, ent1
  Ent.Pq.NO_DESC, ent1 Ent.Pq.OVERSIZE, ent1 Ent.Pq.PORT_SAT, ent1 Ent.Pq.Q_SAT, ent2 Ent.Pq.DROP_DISABLED, ent2 Ent.Pq.DROP_DOWN, ent2
  Ent.Pq.DROP_FULL, ent2 Ent.Pq.DROP_RESIDENCE, ent2 Ent.Pq.DROP_STW], [word0 Rg.Smb.DONE, word0 Rg.Smb.MB_LEN, word0 Rg.Smb.MB_TOTAL, word1
  Rg.Hpg.RING_HEAD, word1 Rg.M0Src.PENDING, word1 Rg.Mb.DONE, word1 Rg.Mb.MB_LEN, word1 Rg.Mb.MB_TOTAL, word1 Rg.Smb.MB_DATA, word2 Rg.Mb.MB_DATA]⟩
def foot221 : Foot := ⟨[.mem, .free, .logs, .d0, .br, .dma, .tenants, .mezz, .upd], [ent0 Ent.Evlog.LAST_SEQ, ent0 Ent.Evlog.LOG_LOST, ent0
  Ent.Sec.LIFECYCLE, ent1 Ent.Bctx.SESSION, ent1 Ent.Hall.RING_LOST, ent1 Ent.Key.KEY, ent1 Ent.Key.LOADED, ent1 Ent.Key.USAGE], [word1
  Rg.Hpg.RING_HEAD, word1 Rg.M0Src.PENDING, word2 Rg.Ctx.SESSION]⟩
def foot222 : Foot := ⟨[.mem, .logs, .dma, .tenants], [ent0 Ent.Evlog.LAST_SEQ, ent0 Ent.Evlog.LOG_LOST, ent0 Ent.Sec.ROLLBACK, ent1
  Ent.Hall.RING_LOST], [word1 Rg.Hpg.RING_HEAD, word1 Rg.M0Src.PENDING]⟩
def foot223 : Foot := ⟨[.epochs, .d0, .can, .br], [ent1 Ent.Bctx.ENABLE, ent1 Ent.Bctx.HALL, ent1 Ent.Bctx.SESSION, ent1 Ent.Bctx.STATE, ent1
  Ent.Bind.ENABLE, ent1 Ent.Bind.HALL, ent1 Ent.Bu.ENDPOINTS, ent1 Ent.CanObj.OBJ_TABLE, ent1 Ent.CanObj.TXB_HALL, ent1 Ent.Dma.ENABLE, ent1
  Ent.Dma.HALL, ent1 Ent.Dma.STATE, ent1 Ent.Qp.ENABLE, ent1 Ent.Qp.HALL, ent1 Ent.Qp.STATE], [word1 Rg.Ch.IRQ, word2 Rg.Ctx.SESSION, word2
  Rg.Obj.EXPIRED, word2 Rg.Obj.NEW, word2 Rg.Txb.CODE]⟩
def foot224 : Foot := ⟨[.mem, .epochs, .logs, .d0, .can, .br, .dma, .tenants, .mezz, .sto, .held, .harts], [ent0 Ent.Evlog.LAST_SEQ, ent0
  Ent.Evlog.LOG_LOST, ent1 Ent.Bctx.ENABLE, ent1 Ent.Bctx.HALL, ent1 Ent.Bctx.SESSION, ent1 Ent.Bctx.STATE, ent1 Ent.Bind.ENABLE, ent1 Ent.Bind.HALL,
  ent1 Ent.Bu.ENDPOINTS, ent1 Ent.CanObj.OBJ_TABLE, ent1 Ent.CanObj.TXB_HALL, ent1 Ent.Dma.ENABLE, ent1 Ent.Dma.HALL, ent1 Ent.Dma.STATE, ent1
  Ent.Hall.CCORES, ent1 Ent.Hall.COUNTER_SAT, ent1 Ent.Hall.RING_LOST, ent1 Ent.Hall.STATE, ent1 Ent.Iommu.WINDOWS, ent1 Ent.Qp.ENABLE, ent1
  Ent.Qp.HALL, ent1 Ent.Qp.STATE], [word0 Rg.M0Cpg.DEPTH, word0 Rg.M0Cpg.WFI, word1 Rg.Ch.IRQ, word1 Rg.Cpg.DEPTH, word1 Rg.Cpg.WFI, word1
  Rg.Hpg.RING_EN, word1 Rg.Hpg.RING_HEAD, word1 Rg.M0Cpg.STK_SRC, word1 Rg.M0Src.PENDING, word1 Rg.Src.PENDING, word2 Rg.Cpg.STK_SRC, word2
  Rg.Ctx.SESSION, word2 Rg.Obj.EXPIRED, word2 Rg.Obj.NEW, word2 Rg.Txb.CODE]⟩
def foot225 : Foot := ⟨[.regs, .epochs, .br, .dma], [], []⟩
def foot226 : Foot := ⟨[.regs, .epochs], [ent1 Ent.Qp.ENABLE, ent1 Ent.Qp.STATE], []⟩
def foot227 : Foot := ⟨[.mem, .logs, .limits, .can, .dma, .tenants], [ent0 Ent.Evlog.LAST_SEQ, ent0 Ent.Evlog.LOG_LOST, ent1 Ent.CanSt.COUNTER_SAT,
  ent1 Ent.CanSt.LOCK_EXPIRED, ent1 Ent.Hall.RING_LOST], [word1 Rg.Ch.IRQ, word1 Rg.Hpg.RING_HEAD, word2 Rg.Obj.EXPIRED, word2 Rg.Obj.ID, word2
  Rg.Obj.NEW, word2 Rg.Obj.STAMP, word2 Rg.Obj.TGEN, word3 Rg.Obj.DATA]⟩
def foot228 : Foot := ⟨[.mem, .free, .logs, .limits, .can, .scan, .dma, .tenants, .twin], [ent0 Ent.Evlog.LAST_SEQ, ent0 Ent.Evlog.LOG_LOST, ent1
  Ent.CanSt.COUNTER_SAT, ent1 Ent.CanSt.LOCK_EXPIRED, ent1 Ent.Hall.RING_LOST, ent1 Ent.Port.PORT_SAT, ent1 Ent.Port.TX_BYTES, ent1
  Ent.Port.TX_FRAMES, ent1 Ent.Stn.COUNTER_SAT, ent1 Ent.Stn.LOSSES, ent1 Ent.Stn.STATE, ent1 Ent.Task.COUNTER_SAT, ent1 Ent.Task.MERGED], [word0
  Rg.M0Cpg.WFI, word1 Rg.Ch.IRQ, word1 Rg.Cpg.WFI, word1 Rg.Hpg.RING_HEAD, word1 Rg.Plat.SYS_IRQ, word1 Rg.Src.PENDING, word2 Rg.Obj.EXPIRED, word2
  Rg.Obj.ID, word2 Rg.Obj.NEW, word2 Rg.Obj.STAMP, word2 Rg.Obj.TGEN, word3 Rg.Obj.DATA]⟩
def foot229 : Foot := ⟨[.regs, .tenants], [], []⟩
def foot230 : Foot := ⟨[.regs, .mem, .epochs, .free, .logs, .limits, .can, .br, .scan, .dma, .tenants, .mezz, .sto, .held, .harts, .twin], [ent0
  Ent.Evlog.LAST_SEQ, ent0 Ent.Evlog.LOG_LOST, ent1 Ent.CanSt.COUNTER_SAT, ent1 Ent.CanSt.LOCK_EXPIRED, ent1 Ent.Hall.COUNTER_SAT, ent1
  Ent.Hall.RESETS, ent1 Ent.Hall.RING_LOST, ent1 Ent.Port.PORT_SAT, ent1 Ent.Port.TX_BYTES, ent1 Ent.Port.TX_FRAMES, ent1 Ent.Qp.ENABLE, ent1
  Ent.Qp.STATE, ent1 Ent.Stn.COUNTER_SAT, ent1 Ent.Stn.LOSSES, ent1 Ent.Stn.STATE, ent1 Ent.Task.COUNTER_SAT, ent1 Ent.Task.MERGED], []⟩
def foot231 : Foot := ⟨[.regs, .mem, .epochs, .free, .logs, .limits, .d0, .can, .br, .scan, .dma, .tenants, .mezz, .sto, .held, .harts, .twin], [ent0
  Ent.Evlog.LAST_SEQ, ent0 Ent.Evlog.LOG_LOST, ent1 Ent.Bctx.ENABLE, ent1 Ent.Bctx.HALL, ent1 Ent.Bctx.SESSION, ent1 Ent.Bctx.STATE, ent1
  Ent.Bind.ENABLE, ent1 Ent.Bind.HALL, ent1 Ent.Bu.ENDPOINTS, ent1 Ent.CanObj.OBJ_TABLE, ent1 Ent.CanObj.TXB_HALL, ent1 Ent.CanSt.COUNTER_SAT, ent1
  Ent.CanSt.LOCK_EXPIRED, ent1 Ent.Dma.ENABLE, ent1 Ent.Dma.HALL, ent1 Ent.Dma.STATE, ent1 Ent.Hall.CCORES, ent1 Ent.Hall.COUNTER_SAT, ent1
  Ent.Hall.RESETS, ent1 Ent.Hall.RING_LOST, ent1 Ent.Hall.STATE, ent1 Ent.Iommu.WINDOWS, ent1 Ent.Port.PORT_SAT, ent1 Ent.Port.TX_BYTES, ent1
  Ent.Port.TX_FRAMES, ent1 Ent.Qp.ENABLE, ent1 Ent.Qp.HALL, ent1 Ent.Qp.STATE, ent1 Ent.Stn.COUNTER_SAT, ent1 Ent.Stn.LOSSES, ent1 Ent.Stn.STATE, ent1
  Ent.Task.COUNTER_SAT, ent1 Ent.Task.MERGED], []⟩
def foot232 : Foot := ⟨[.mem, .free, .logs, .limits, .br, .dma, .tenants, .harts, .twin], [ent0 Ent.Evlog.LAST_SEQ, ent0 Ent.Evlog.LOG_LOST, ent1
  Ent.Bctx.COUNTER_SAT, ent1 Ent.Bctx.FAILURES, ent1 Ent.Bctx.POSTED, ent1 Ent.Bctx.READS, ent1 Ent.Bctx.RETRANSMITS, ent1 Ent.Bctx.SESSION, ent1
  Ent.Bctx.TIMEOUTS, ent1 Ent.Hall.COUNTER_SAT, ent1 Ent.Hall.MIGRATIONS, ent1 Ent.Hall.RING_LOST, ent1 Ent.Hall.STATE], [word1 Rg.Hpg.RING_EN, word1
  Rg.Hpg.RING_HEAD, word2 Rg.Ctx.BST_ADDR_HI, word2 Rg.Ctx.BST_ADDR_LO, word2 Rg.Ctx.FAILED, word2 Rg.Ctx.FAR_CODE, word2 Rg.Ctx.IRQ, word2
  Rg.Ctx.PW_DONE, word2 Rg.Ctx.SESSION, word2 Rg.Ep.MERGED, word2 fun u k => rmb u k Rg.Mb.CODE, word2 fun u k => rmb u k Rg.Mb.GO, word2 fun u k =>
  rmb u k Rg.Mb.MB_LEN, word2 fun u k => rmb u k Rg.Mb.MB_TOTAL, word3 fun u k i => rmb u k fun n => Rg.Mb.MB_DATA n i]⟩
def foot233 : Foot := ⟨[.regs, .epochs], [ent1 Ent.CanObj.OBJ_TABLE], []⟩
def foot234 : Foot := ⟨[.dict, .blobs, .regs, .mem, .epochs, .logs, .br, .dma, .tenants, .harts], [], []⟩
def foot235 : Foot := ⟨[.regs, .mem, .epochs, .free, .logs, .limits, .d0, .sw, .can, .power, .br, .scan, .dma, .tenants, .mezz, .sto, .held, .harts,
  .twin], [ent0 Ent.Evlog.LAST_SEQ, ent0 Ent.Evlog.LOG_LOST, ent0 Ent.Stw.COUNTER_SAT, ent0 Ent.Stw.STW_ECC_DROPS, ent1 Ent.Bctx.COUNTER_SAT, ent1
  Ent.Bctx.FAILURES, ent1 Ent.Bctx.POSTED, ent1 Ent.Bctx.READS, ent1 Ent.Bctx.RETRANSMITS, ent1 Ent.Bctx.SESSION, ent1 Ent.Bctx.TIMEOUTS, ent1
  Ent.CanCo.SDO_LAST_STATUS, ent1 Ent.CanSt.COUNTER_SAT, ent1 Ent.CanSt.LOCK_EXPIRED, ent1 Ent.CanSt.TX_DISCARDED, ent1 Ent.Hall.CMD_STATUS, ent1
  Ent.Hall.COUNTER_SAT, ent1 Ent.Hall.FAULTS, ent1 Ent.Hall.FAULT_CAUSE, ent1 Ent.Hall.FROZEN_DROPS, ent1 Ent.Hall.RESETS, ent1 Ent.Hall.RING_LOST,
  ent1 Ent.Hall.STATE, ent1 Ent.Heng.COUNTER_SAT, ent1 Ent.Heng.NO_QP, ent1 Ent.Port.EGRESS_FILTERED, ent1 Ent.Port.PORT_SAT, ent1 Ent.Port.TX_BYTES,
  ent1 Ent.Port.TX_FRAMES, ent1 Ent.Pq.CT_ABORTED, ent1 Ent.Pq.NO_DESC, ent1 Ent.Pq.OVERSIZE, ent1 Ent.Pq.PORT_SAT, ent1 Ent.Pq.Q_SAT, ent1
  Ent.Qp.ENABLE, ent1 Ent.Qp.STATE, ent1 Ent.Stn.COUNTER_SAT, ent1 Ent.Stn.LOSSES, ent1 Ent.Stn.STATE, ent1 Ent.Task.COUNTER_SAT, ent1
  Ent.Task.MERGED, ent2 Ent.Pq.DROP_DISABLED, ent2 Ent.Pq.DROP_DOWN, ent2 Ent.Pq.DROP_FULL, ent2 Ent.Pq.DROP_RESIDENCE, ent2 Ent.Pq.DROP_STW], []⟩
def foot236 : Foot := ⟨[.dict, .blobs, .regs, .mem, .epochs, .free, .logs, .limits, .d0, .sw, .can, .power, .br, .scan, .dma, .tenants, .mezz, .sto,
  .held, .harts, .twin], [], []⟩
def foot237 : Foot := ⟨[.mem, .logs, .time, .dma, .tenants], [ent0 Ent.Evlog.LAST_SEQ, ent0 Ent.Evlog.LOG_LOST, ent0 Ent.Time.COUNTER_SAT, ent0
  Ent.Time.STEPS, ent1 Ent.Hall.RING_LOST], [word1 Rg.Hpg.RING_HEAD, word1 Rg.Plat.SYS_IRQ]⟩
def foot238 : Foot := ⟨[.mem, .logs, .d0, .sw, .can, .power, .br, .dma, .tenants, .twin], [ent0 Ent.Evlog.LAST_SEQ, ent0 Ent.Evlog.LOG_LOST, ent0
  Ent.Stw.COUNTER_SAT, ent0 Ent.Stw.STW_ECC_DROPS, ent0 Ent.Tws.CMD_STATUS, ent1 Ent.CanCo.SDO_LAST_STATUS, ent1 Ent.CanSt.COUNTER_SAT, ent1
  Ent.CanSt.TX_DISCARDED, ent1 Ent.Hall.COUNTER_SAT, ent1 Ent.Hall.FROZEN_DROPS, ent1 Ent.Hall.RING_LOST, ent1 Ent.Heng.COUNTER_SAT, ent1
  Ent.Heng.NO_QP, ent1 Ent.Port.EGRESS_FILTERED, ent1 Ent.Port.PORT_SAT, ent1 Ent.Port.TX_BYTES, ent1 Ent.Port.TX_FRAMES, ent1 Ent.Pq.CT_ABORTED, ent1
  Ent.Pq.NO_DESC, ent1 Ent.Pq.OVERSIZE, ent1 Ent.Pq.PORT_SAT, ent1 Ent.Pq.Q_SAT, ent2 Ent.Pq.DROP_DISABLED, ent2 Ent.Pq.DROP_DOWN, ent2
  Ent.Pq.DROP_FULL, ent2 Ent.Pq.DROP_RESIDENCE, ent2 Ent.Pq.DROP_STW], [word0 Rg.Smb.DONE, word0 Rg.Smb.MB_LEN, word0 Rg.Smb.MB_TOTAL, word1
  Rg.Hpg.RING_HEAD, word1 Rg.Mb.DONE, word1 Rg.Mb.MB_LEN, word1 Rg.Mb.MB_TOTAL, word1 Rg.Smb.MB_DATA, word2 Rg.Mb.MB_DATA]⟩
def foot239 : Foot := ⟨[.mem, .free, .logs, .d0, .sw, .can, .power, .br, .dma, .tenants, .twin], [ent0 Ent.Evlog.LAST_SEQ, ent0 Ent.Evlog.LOG_LOST,
  ent0 Ent.Stw.COUNTER_SAT, ent0 Ent.Stw.STW_ECC_DROPS, ent0 Ent.Tws.CMD_STATUS, ent0 Ent.Tws.ROLE, ent1 Ent.CanCo.SDO_LAST_STATUS, ent1
  Ent.CanSt.COUNTER_SAT, ent1 Ent.CanSt.TX_DISCARDED, ent1 Ent.Hall.COUNTER_SAT, ent1 Ent.Hall.FROZEN_DROPS, ent1 Ent.Hall.RING_LOST, ent1
  Ent.Heng.COUNTER_SAT, ent1 Ent.Heng.NO_QP, ent1 Ent.Port.EGRESS_FILTERED, ent1 Ent.Port.PORT_SAT, ent1 Ent.Port.TX_BYTES, ent1 Ent.Port.TX_FRAMES,
  ent1 Ent.Pq.CT_ABORTED, ent1 Ent.Pq.NO_DESC, ent1 Ent.Pq.OVERSIZE, ent1 Ent.Pq.PORT_SAT, ent1 Ent.Pq.Q_SAT, ent2 Ent.Pq.DROP_DISABLED, ent2
  Ent.Pq.DROP_DOWN, ent2 Ent.Pq.DROP_FULL, ent2 Ent.Pq.DROP_RESIDENCE, ent2 Ent.Pq.DROP_STW], [word0 Rg.Smb.DONE, word0 Rg.Smb.MB_LEN, word0
  Rg.Smb.MB_TOTAL, word1 Rg.Hpg.RING_EN, word1 Rg.Hpg.RING_HEAD, word1 Rg.Mb.DONE, word1 Rg.Mb.MB_LEN, word1 Rg.Mb.MB_TOTAL, word1 Rg.Plat.SYS_IRQ,
  word1 Rg.Smb.MB_DATA, word2 Rg.Mb.MB_DATA]⟩
def foot240 : Foot := ⟨[.mem, .free, .logs, .d0, .sw, .can, .power, .br, .dma, .tenants, .twin], [ent0 Ent.Evlog.LAST_SEQ, ent0 Ent.Evlog.LOG_LOST,
  ent0 Ent.Stw.COUNTER_SAT, ent0 Ent.Stw.STW_ECC_DROPS, ent0 Ent.Tws.CMD_STATUS, ent0 Ent.Tws.COUNTER_SAT, ent0 Ent.Tws.REPL_LATE, ent0 Ent.Tws.ROLE,
  ent1 Ent.CanCo.SDO_LAST_STATUS, ent1 Ent.CanSt.COUNTER_SAT, ent1 Ent.CanSt.TX_DISCARDED, ent1 Ent.Hall.COUNTER_SAT, ent1 Ent.Hall.FROZEN_DROPS, ent1
  Ent.Hall.RING_LOST, ent1 Ent.Heng.COUNTER_SAT, ent1 Ent.Heng.NO_QP, ent1 Ent.Port.EGRESS_FILTERED, ent1 Ent.Port.PORT_SAT, ent1 Ent.Port.TX_BYTES,
  ent1 Ent.Port.TX_FRAMES, ent1 Ent.Pq.CT_ABORTED, ent1 Ent.Pq.NO_DESC, ent1 Ent.Pq.OVERSIZE, ent1 Ent.Pq.PORT_SAT, ent1 Ent.Pq.Q_SAT, ent2
  Ent.Pq.DROP_DISABLED, ent2 Ent.Pq.DROP_DOWN, ent2 Ent.Pq.DROP_FULL, ent2 Ent.Pq.DROP_RESIDENCE, ent2 Ent.Pq.DROP_STW], [word0 Rg.Smb.DONE, word0
  Rg.Smb.MB_LEN, word0 Rg.Smb.MB_TOTAL, word1 Rg.Hpg.RING_EN, word1 Rg.Hpg.RING_HEAD, word1 Rg.Mb.DONE, word1 Rg.Mb.MB_LEN, word1 Rg.Mb.MB_TOTAL,
  word1 Rg.Plat.SYS_IRQ, word1 Rg.Smb.MB_DATA, word2 Rg.Mb.MB_DATA]⟩
def foot241 : Foot := ⟨[.mem, .free, .logs, .limits, .d0, .sw, .can, .power, .br, .load, .scan, .dma, .tenants, .clk, .twin], [ent0 Ent.Chg.CHANGES,
  ent0 Ent.Chg.CHANGE_RESULT, ent0 Ent.Chg.CHANGE_STATE, ent0 Ent.Chg.CHANGE_STATUS, ent0 Ent.Chg.COUNTER_SAT, ent0 Ent.Chg.REFUSALS, ent0
  Ent.Clk.SSC_ACTIVE, ent0 Ent.Evlog.LAST_SEQ, ent0 Ent.Evlog.LOG_LOST, ent0 Ent.Se.CMD_STATUS, ent0 Ent.Se.FAULT_CAUSE, ent0 Ent.Se.STATE, ent0
  Ent.Stw.COUNTER_SAT, ent0 Ent.Stw.STW_ECC_DROPS, ent0 Ent.Tws.ROLE, ent1 Ent.CanCo.SDO_LAST_STATUS, ent1 Ent.CanSt.COUNTER_SAT, ent1
  Ent.CanSt.TX_DISCARDED, ent1 Ent.Hall.COUNTER_SAT, ent1 Ent.Hall.FROZEN_DROPS, ent1 Ent.Hall.RING_LOST, ent1 Ent.Heng.COUNTER_SAT, ent1
  Ent.Heng.NO_QP, ent1 Ent.Lc.FLAGS, ent1 Ent.Lc.STATE, ent1 Ent.Port.EGRESS_FILTERED, ent1 Ent.Port.PORT_SAT, ent1 Ent.Port.TX_BYTES, ent1
  Ent.Port.TX_FRAMES, ent1 Ent.Pq.CT_ABORTED, ent1 Ent.Pq.NO_DESC, ent1 Ent.Pq.OVERSIZE, ent1 Ent.Pq.PORT_SAT, ent1 Ent.Pq.Q_SAT, ent1
  Ent.Stn.COUNTER_SAT, ent1 Ent.Stn.LOSSES, ent1 Ent.Stn.STATE, ent1 Ent.Stn.TX_FRAMES, ent1 Ent.Task.COUNTER_SAT, ent1 Ent.Task.MERGED, ent1
  Ent.Task.SKIPPED, ent2 Ent.Pq.DROP_DISABLED, ent2 Ent.Pq.DROP_DOWN, ent2 Ent.Pq.DROP_FULL, ent2 Ent.Pq.DROP_RESIDENCE, ent2 Ent.Pq.DROP_STW], [word0
  Rg.M0Cpg.DEPTH, word0 Rg.M0Cpg.WFI, word0 Rg.Smb.DONE, word0 Rg.Smb.MB_LEN, word0 Rg.Smb.MB_TOTAL, word1 Rg.Cpg.DEPTH, word1 Rg.Cpg.WFI, word1
  Rg.Hpg.RING_EN, word1 Rg.Hpg.RING_HEAD, word1 Rg.M0Cpg.STK_SRC, word1 Rg.Mb.DONE, word1 Rg.Mb.MB_LEN, word1 Rg.Mb.MB_TOTAL, word1 Rg.Plat.SYS_IRQ,
  word1 Rg.Smb.MB_DATA, word1 Rg.Src.PENDING, word2 Rg.Cpg.STK_SRC, word2 Rg.Mb.MB_DATA]⟩
def foot242 : Foot := ⟨[.mem, .logs, .limits, .can, .dma, .tenants], [ent0 Ent.Evlog.LAST_SEQ, ent0 Ent.Evlog.LOG_LOST, ent1 Ent.CanSt.COUNTER_SAT,
  ent1 Ent.CanSt.REF_LATE, ent1 Ent.CanSt.TX_DISCARDED, ent1 Ent.Hall.RING_LOST], [word1 Rg.Hpg.RING_HEAD]⟩
def foot243 : Foot := ⟨[.mem, .free, .logs, .limits, .time, .d0, .sw, .can, .power, .br, .load, .adc, .scan, .dma, .tenants, .clk, .twin], [ent0
  Ent.Chg.CHANGES, ent0 Ent.Chg.CHANGE_RESULT, ent0 Ent.Chg.CHANGE_STATE, ent0 Ent.Chg.CHANGE_STATUS, ent0 Ent.Chg.COUNTER_SAT, ent0 Ent.Chg.REFUSALS,
  ent0 Ent.Clk.SSC_ACTIVE, ent0 Ent.Evlog.LAST_SEQ, ent0 Ent.Evlog.LOG_LOST, ent0 Ent.Se.CMD_STATUS, ent0 Ent.Se.FAULT_CAUSE, ent0 Ent.Se.STATE, ent0
  Ent.Stw.COUNTER_SAT, ent0 Ent.Stw.STW_ECC_DROPS, ent0 Ent.Tws.CMD_STATUS, ent0 Ent.Tws.COUNTER_SAT, ent0 Ent.Tws.REPL_LATE, ent0 Ent.Tws.ROLE, ent1
  Ent.Adc.COUNTER_SAT, ent1 Ent.Adc.OVERLAPS, ent1 Ent.CanCo.SDO_LAST_STATUS, ent1 Ent.CanSt.COUNTER_SAT, ent1 Ent.CanSt.REF_LATE, ent1
  Ent.CanSt.TX_DISCARDED, ent1 Ent.Hall.COUNTER_SAT, ent1 Ent.Hall.FROZEN_DROPS, ent1 Ent.Hall.RING_LOST, ent1 Ent.Heng.COUNTER_SAT, ent1
  Ent.Heng.NO_QP, ent1 Ent.Lc.FLAGS, ent1 Ent.Lc.STATE, ent1 Ent.Port.EGRESS_FILTERED, ent1 Ent.Port.PORT_SAT, ent1 Ent.Port.TX_BYTES, ent1
  Ent.Port.TX_FRAMES, ent1 Ent.Pq.CT_ABORTED, ent1 Ent.Pq.NO_DESC, ent1 Ent.Pq.OVERSIZE, ent1 Ent.Pq.PORT_SAT, ent1 Ent.Pq.Q_SAT, ent1
  Ent.Stn.COUNTER_SAT, ent1 Ent.Stn.LOSSES, ent1 Ent.Stn.STATE, ent1 Ent.Stn.TX_FRAMES, ent1 Ent.Task.COUNTER_SAT, ent1 Ent.Task.MERGED, ent1
  Ent.Task.SKIPPED, ent2 Ent.Pq.DROP_DISABLED, ent2 Ent.Pq.DROP_DOWN, ent2 Ent.Pq.DROP_FULL, ent2 Ent.Pq.DROP_RESIDENCE, ent2 Ent.Pq.DROP_STW], [word0
  Rg.M0Cpg.DEPTH, word0 Rg.M0Cpg.WFI, word0 Rg.Smb.DONE, word0 Rg.Smb.MB_LEN, word0 Rg.Smb.MB_TOTAL, word1 Rg.Adcr.BUSY, word1 Rg.Adcr.IRQ, word1
  Rg.Cpg.DEPTH, word1 Rg.Cpg.WFI, word1 Rg.Hpg.RING_EN, word1 Rg.Hpg.RING_HEAD, word1 Rg.M0Cpg.STK_SRC, word1 Rg.Mb.DONE, word1 Rg.Mb.MB_LEN, word1
  Rg.Mb.MB_TOTAL, word1 Rg.Plat.SYS_IRQ, word1 Rg.Smb.MB_DATA, word1 Rg.Src.PENDING, word2 Rg.Cpg.STK_SRC, word2 Rg.Mb.MB_DATA]⟩
def foot244 : Foot := ⟨[.mem, .free, .logs, .limits, .time, .d0, .sw, .can, .power, .br, .load, .adc, .scan, .dma, .tenants, .clk, .twin], [ent0
  Ent.Chg.CHANGES, ent0 Ent.Chg.CHANGE_RESULT, ent0 Ent.Chg.CHANGE_STATE, ent0 Ent.Chg.CHANGE_STATUS, ent0 Ent.Chg.COUNTER_SAT, ent0 Ent.Chg.REFUSALS,
  ent0 Ent.Clk.SSC_ACTIVE, ent0 Ent.Evlog.LAST_SEQ, ent0 Ent.Evlog.LOG_LOST, ent0 Ent.Se.CMD_STATUS, ent0 Ent.Se.FAULT_CAUSE, ent0 Ent.Se.STATE, ent0
  Ent.Stw.COUNTER_SAT, ent0 Ent.Stw.STW_ECC_DROPS, ent0 Ent.Tws.CMD_STATUS, ent0 Ent.Tws.COUNTER_SAT, ent0 Ent.Tws.REPL_LATE, ent0 Ent.Tws.ROLE, ent1
  Ent.Adc.COUNTER_SAT, ent1 Ent.Adc.OVERLAPS, ent1 Ent.CanCo.SDO_LAST_STATUS, ent1 Ent.CanSt.COUNTER_SAT, ent1 Ent.CanSt.REF_LATE, ent1
  Ent.CanSt.TX_DISCARDED, ent1 Ent.Hall.COUNTER_SAT, ent1 Ent.Hall.FROZEN_DROPS, ent1 Ent.Hall.RING_LOST, ent1 Ent.Heng.COUNTER_SAT, ent1
  Ent.Heng.NO_QP, ent1 Ent.Lc.FLAGS, ent1 Ent.Lc.STATE, ent1 Ent.Port.EGRESS_FILTERED, ent1 Ent.Port.PORT_SAT, ent1 Ent.Port.TX_BYTES, ent1
  Ent.Port.TX_FRAMES, ent1 Ent.Pq.CT_ABORTED, ent1 Ent.Pq.NO_DESC, ent1 Ent.Pq.OVERSIZE, ent1 Ent.Pq.PORT_SAT, ent1 Ent.Pq.Q_SAT, ent1
  Ent.Stn.COUNTER_SAT, ent1 Ent.Stn.LOSSES, ent1 Ent.Stn.STATE, ent1 Ent.Stn.TX_FRAMES, ent1 Ent.Task.COUNTER_SAT, ent1 Ent.Task.MERGED, ent1
  Ent.Task.SKIPPED, ent1 Ent.Trgu.COUNTER_SAT, ent1 Ent.Trgu.ENABLE, ent1 Ent.Trgu.FIRED, ent1 Ent.Trgu.MISSED, ent1 Ent.Trgu.NEXT_NS, ent1
  Ent.Trgu.START_NS, ent2 Ent.Pq.DROP_DISABLED, ent2 Ent.Pq.DROP_DOWN, ent2 Ent.Pq.DROP_FULL, ent2 Ent.Pq.DROP_RESIDENCE, ent2 Ent.Pq.DROP_STW],
  [word0 Rg.M0Cpg.DEPTH, word0 Rg.M0Cpg.WFI, word0 Rg.Smb.DONE, word0 Rg.Smb.MB_LEN, word0 Rg.Smb.MB_TOTAL, word1 Rg.Adcr.BUSY, word1 Rg.Adcr.IRQ,
  word1 Rg.Cpg.DEPTH, word1 Rg.Cpg.WFI, word1 Rg.Hpg.RING_EN, word1 Rg.Hpg.RING_HEAD, word1 Rg.M0Cpg.STK_SRC, word1 Rg.Mb.DONE, word1 Rg.Mb.MB_LEN,
  word1 Rg.Mb.MB_TOTAL, word1 Rg.Plat.SYS_IRQ, word1 Rg.Smb.MB_DATA, word1 Rg.Src.PENDING, word2 Rg.Cpg.STK_SRC, word2 Rg.Mb.MB_DATA]⟩
def foot245 : Foot := ⟨[.mem, .logs, .sw, .dma, .tenants], [ent0 Ent.Evlog.LAST_SEQ, ent0 Ent.Evlog.LOG_LOST, ent1 Ent.Hall.RING_LOST], [word1
  Rg.Hpg.RING_HEAD]⟩
def foot246 : Foot := ⟨[.mem, .free, .logs, .limits, .time, .d0, .sw, .can, .power, .br, .load, .adc, .scan, .dma, .tenants, .clk, .twin], [ent0
  Ent.Chg.CHANGES, ent0 Ent.Chg.CHANGE_RESULT, ent0 Ent.Chg.CHANGE_STATE, ent0 Ent.Chg.CHANGE_STATUS, ent0 Ent.Chg.COUNTER_SAT, ent0 Ent.Chg.REFUSALS,
  ent0 Ent.Clk.SSC_ACTIVE, ent0 Ent.Evlog.LAST_SEQ, ent0 Ent.Evlog.LOG_LOST, ent0 Ent.Se.CMD_STATUS, ent0 Ent.Se.FAULT_CAUSE, ent0 Ent.Se.STATE, ent0
  Ent.Stw.COUNTER_SAT, ent0 Ent.Stw.STW_ECC_DROPS, ent0 Ent.Time.COUNTER_SAT, ent0 Ent.Time.STEPS, ent0 Ent.Tws.CMD_STATUS, ent0 Ent.Tws.COUNTER_SAT,
  ent0 Ent.Tws.REPL_LATE, ent0 Ent.Tws.ROLE, ent1 Ent.Adc.COUNTER_SAT, ent1 Ent.Adc.OVERLAPS, ent1 Ent.CanCo.SDO_LAST_STATUS, ent1
  Ent.CanSt.COUNTER_SAT, ent1 Ent.CanSt.REF_LATE, ent1 Ent.CanSt.TX_DISCARDED, ent1 Ent.Hall.COUNTER_SAT, ent1 Ent.Hall.FROZEN_DROPS, ent1
  Ent.Hall.RING_LOST, ent1 Ent.Heng.COUNTER_SAT, ent1 Ent.Heng.NO_QP, ent1 Ent.Lc.FLAGS, ent1 Ent.Lc.STATE, ent1 Ent.Port.EGRESS_FILTERED, ent1
  Ent.Port.PORT_SAT, ent1 Ent.Port.TX_BYTES, ent1 Ent.Port.TX_FRAMES, ent1 Ent.Port.TX_OVERRUN, ent1 Ent.Pq.CT_ABORTED, ent1 Ent.Pq.NO_DESC, ent1
  Ent.Pq.OVERSIZE, ent1 Ent.Pq.PORT_SAT, ent1 Ent.Pq.Q_SAT, ent1 Ent.Stn.COUNTER_SAT, ent1 Ent.Stn.LOSSES, ent1 Ent.Stn.STATE, ent1 Ent.Stn.TX_FRAMES,
  ent1 Ent.Task.COUNTER_SAT, ent1 Ent.Task.MERGED, ent1 Ent.Task.SKIPPED, ent1 Ent.Trgu.COUNTER_SAT, ent1 Ent.Trgu.ENABLE, ent1 Ent.Trgu.FIRED, ent1
  Ent.Trgu.MISSED, ent1 Ent.Trgu.NEXT_NS, ent1 Ent.Trgu.START_NS, ent2 Ent.Pq.DROP_DISABLED, ent2 Ent.Pq.DROP_DOWN, ent2 Ent.Pq.DROP_FULL, ent2
  Ent.Pq.DROP_RESIDENCE, ent2 Ent.Pq.DROP_STW], [word0 Rg.M0Cpg.DEPTH, word0 Rg.M0Cpg.WFI, word0 Rg.Smb.DONE, word0 Rg.Smb.MB_LEN, word0
  Rg.Smb.MB_TOTAL, word1 Rg.Adcr.BUSY, word1 Rg.Adcr.IRQ, word1 Rg.Cpg.DEPTH, word1 Rg.Cpg.WFI, word1 Rg.Hpg.RING_EN, word1 Rg.Hpg.RING_HEAD, word1
  Rg.M0Cpg.STK_SRC, word1 Rg.Mb.DONE, word1 Rg.Mb.MB_LEN, word1 Rg.Mb.MB_TOTAL, word1 Rg.Plat.SYS_IRQ, word1 Rg.Smb.MB_DATA, word1 Rg.Src.PENDING,
  word2 Rg.Cpg.STK_SRC, word2 Rg.Mb.MB_DATA]⟩
def foot247 : Foot := ⟨[.mem, .logs, .d0, .sw, .can, .power, .br, .dma, .tenants, .twin], [ent0 Ent.Evlog.LAST_SEQ, ent0 Ent.Evlog.LOG_LOST, ent0
  Ent.Slp.ENTRY, ent0 Ent.Slp.POWER_REQ, ent0 Ent.Stw.COUNTER_SAT, ent0 Ent.Stw.STW_ECC_DROPS, ent1 Ent.CanCo.SDO_LAST_STATUS, ent1
  Ent.CanSt.COUNTER_SAT, ent1 Ent.CanSt.TX_DISCARDED, ent1 Ent.Hall.COUNTER_SAT, ent1 Ent.Hall.FROZEN_DROPS, ent1 Ent.Hall.RING_LOST, ent1
  Ent.Heng.COUNTER_SAT, ent1 Ent.Heng.NO_QP, ent1 Ent.Port.EGRESS_FILTERED, ent1 Ent.Port.PORT_SAT, ent1 Ent.Port.TX_BYTES, ent1 Ent.Port.TX_FRAMES,
  ent1 Ent.Pq.CT_ABORTED, ent1 Ent.Pq.NO_DESC, ent1 Ent.Pq.OVERSIZE, ent1 Ent.Pq.PORT_SAT, ent1 Ent.Pq.Q_SAT, ent2 Ent.Pq.DROP_DISABLED, ent2
  Ent.Pq.DROP_DOWN, ent2 Ent.Pq.DROP_FULL, ent2 Ent.Pq.DROP_RESIDENCE, ent2 Ent.Pq.DROP_STW], [word0 Rg.Smb.DONE, word0 Rg.Smb.MB_LEN, word0
  Rg.Smb.MB_TOTAL, word1 Rg.Hpg.RING_HEAD, word1 Rg.Mb.DONE, word1 Rg.Mb.MB_LEN, word1 Rg.Mb.MB_TOTAL, word1 Rg.Smb.MB_DATA, word2 Rg.Mb.MB_DATA]⟩
def foot248 : Foot := ⟨[.free, .sto], [], []⟩
def foot249 : Foot := ⟨[.dict, .blobs, .regs, .mem, .epochs, .logs, .limits, .ctrLatch, .ctrStage, .drains, .supply, .time, .d0, .sw, .can, .sleep,
  .power, .br, .load, .adc, .scan, .dma, .tenants, .mezz, .clk, .sto, .held, .harts, .twin], [], []⟩
def foot250 : Foot := ⟨[.dict, .blobs, .regs, .mem, .epochs, .free, .logs, .limits, .ctrLatch, .ctrStage, .drains, .supply, .time, .d0, .sw, .can,
  .sleep, .power, .br, .load, .adc, .scan, .dma, .tenants, .mezz, .clk, .sto, .held, .harts, .twin], [], []⟩
def foot251 : Foot := ⟨[.mem, .logs, .dma, .tenants, .upd], [ent0 Ent.Evlog.LAST_SEQ, ent0 Ent.Evlog.LOG_LOST, ent0 Ent.Stg.STAGING, ent0
  Ent.Upd.COUNTER_SAT, ent0 Ent.Upd.FAILED_STARTS, ent0 Ent.Upd.LAST_RESULT, ent0 Ent.Upd.REJECTS, ent0 Ent.Upd.STAGED_VERSION, ent0
  Ent.Upd.STAGING_STATE, ent0 Ent.Upd.UPDATES, ent1 Ent.Hall.RING_LOST], [word1 Rg.Hpg.RING_HEAD]⟩
def foot252 : Foot := ⟨[.mem, .logs, .dma, .tenants], [ent0 Ent.Evlog.LAST_SEQ, ent0 Ent.Evlog.LOG_LOST, ent0 Ent.Upd.ACTIVE_SEC_VERSION, ent0
  Ent.Upd.ACTIVE_VERSION, ent0 Ent.Upd.COUNTER_SAT, ent0 Ent.Upd.FAILED_STARTS, ent0 Ent.Upd.IMAGE_STATE, ent0 Ent.Upd.LAST_RESULT, ent0
  Ent.Upd.RESCUE_STARTS, ent0 Ent.Upd.SETTINGS_VERSION, ent0 Ent.Upd.TWIN_COMPAT, ent1 Ent.Hall.RING_LOST], [word1 Rg.Hpg.RING_HEAD]⟩
def foot253 : Foot := ⟨[.mem, .logs, .dma, .tenants, .upd], [ent0 Ent.Evlog.LAST_SEQ, ent0 Ent.Evlog.LOG_LOST, ent0 Ent.Pwr.CHIP_RESETS, ent0
  Ent.Pwr.COUNTER_SAT, ent0 Ent.Slog.COUNTER_SAT, ent0 Ent.Slog.SWDT_EXPIRIES, ent0 Ent.Stg.STAGING, ent0 Ent.Upd.ACTIVE_SEC_VERSION, ent0
  Ent.Upd.ACTIVE_VERSION, ent0 Ent.Upd.COUNTER_SAT, ent0 Ent.Upd.FAILED_STARTS, ent0 Ent.Upd.IMAGE_STATE, ent0 Ent.Upd.LAST_RESULT, ent0
  Ent.Upd.REJECTS, ent0 Ent.Upd.RESCUE_STARTS, ent0 Ent.Upd.SETTINGS_VERSION, ent0 Ent.Upd.STAGED_VERSION, ent0 Ent.Upd.STAGING_STATE, ent0
  Ent.Upd.TWIN_COMPAT, ent0 Ent.Upd.UPDATES, ent1 Ent.Hall.RING_LOST], [word1 Rg.Hpg.RING_HEAD]⟩
def foot254 : Foot := ⟨[.mem, .logs, .dma, .tenants, .upd], [ent0 Ent.Evlog.LAST_SEQ, ent0 Ent.Evlog.LOG_LOST, ent0 Ent.Stg.STAGING, ent0
  Ent.Upd.ACTIVE_SEC_VERSION, ent0 Ent.Upd.ACTIVE_VERSION, ent0 Ent.Upd.COUNTER_SAT, ent0 Ent.Upd.FAILED_STARTS, ent0 Ent.Upd.IMAGE_STATE, ent0
  Ent.Upd.LAST_RESULT, ent0 Ent.Upd.REJECTS, ent0 Ent.Upd.RESCUE_STARTS, ent0 Ent.Upd.SETTINGS_VERSION, ent0 Ent.Upd.STAGED_VERSION, ent0
  Ent.Upd.STAGING_STATE, ent0 Ent.Upd.TWIN_COMPAT, ent0 Ent.Upd.UPDATES, ent1 Ent.Hall.RING_LOST], [word1 Rg.Hpg.RING_HEAD]⟩
def foot255 : Foot := ⟨[.mem, .logs, .dma, .tenants], [ent0 Ent.Evlog.LAST_SEQ, ent0 Ent.Evlog.LOG_LOST, ent0 Ent.Mem.DRAM_SIZE_MIB, ent0
  Ent.Mem.STW_MIB_ACTIVE, ent0 Ent.Stw.STW_SIZE, ent1 Ent.Hall.RING_LOST], [word1 Rg.Hpg.RING_HEAD, word1 Rg.Plat.SYS_IRQ]⟩
def foot256 : Foot := ⟨[], [ent0 Ent.Lc.SELEXT, ent0 Ent.Mod.STRAPS, ent0 Ent.Tws.POSITION], []⟩
def foot257 : Foot := ⟨[.mem, .logs, .time, .dma, .tenants, .clk], [ent0 Ent.Clk.SRC_STATUS, ent0 Ent.Clk.SSC_ACTIVE, ent0 Ent.Evlog.LAST_SEQ, ent0
  Ent.Evlog.LOG_LOST, ent0 Ent.Pwr.VAUX_MV, ent0 Ent.Pwr.VIO_STATUS, ent1 Ent.Dom.SOURCE, ent1 Ent.Hall.RING_LOST], [word1 Rg.Hpg.RING_HEAD, word1
  Rg.Plat.SYS_IRQ]⟩
def foot258 : Foot := ⟨[.mem, .logs, .dma, .tenants], [ent0 Ent.Evlog.LAST_SEQ, ent0 Ent.Evlog.LOG_LOST, ent1 Ent.Hall.RING_LOST], [word1
  Rg.Hpg.RING_HEAD, word1 Rg.M0Src.PENDING, word1 Rg.Plat.SYS_IRQ]⟩
def foot259 : Foot := ⟨[], [ent1 Ent.Key.KEY, ent1 Ent.Key.LOADED, ent1 Ent.Key.USAGE], []⟩
def foot260 : Foot := ⟨[.mem, .free, .logs, .d0, .sw, .can, .power, .br, .dma, .tenants, .mezz, .twin], [ent0 Ent.Evlog.LAST_SEQ, ent0
  Ent.Evlog.LOG_LOST, ent0 Ent.Sec.DBG_CHALLENGE, ent0 Ent.Stw.COUNTER_SAT, ent0 Ent.Stw.STW_ECC_DROPS, ent1 Ent.CanCo.SDO_LAST_STATUS, ent1
  Ent.CanSt.COUNTER_SAT, ent1 Ent.CanSt.TX_DISCARDED, ent1 Ent.Hall.COUNTER_SAT, ent1 Ent.Hall.FROZEN_DROPS, ent1 Ent.Hall.RING_LOST, ent1
  Ent.Heng.COUNTER_SAT, ent1 Ent.Heng.NO_QP, ent1 Ent.Key.KEY, ent1 Ent.Key.LOADED, ent1 Ent.Key.USAGE, ent1 Ent.Port.EGRESS_FILTERED, ent1
  Ent.Port.PORT_SAT, ent1 Ent.Port.TX_BYTES, ent1 Ent.Port.TX_FRAMES, ent1 Ent.Pq.CT_ABORTED, ent1 Ent.Pq.NO_DESC, ent1 Ent.Pq.OVERSIZE, ent1
  Ent.Pq.PORT_SAT, ent1 Ent.Pq.Q_SAT, ent2 Ent.Pq.DROP_DISABLED, ent2 Ent.Pq.DROP_DOWN, ent2 Ent.Pq.DROP_FULL, ent2 Ent.Pq.DROP_RESIDENCE, ent2
  Ent.Pq.DROP_STW], [word0 Rg.Smb.DONE, word0 Rg.Smb.MB_LEN, word0 Rg.Smb.MB_TOTAL, word0 Rg.Swd.EN, word1 Rg.Hpg.RING_HEAD, word1 Rg.M0Src.PENDING,
  word1 Rg.Mb.DONE, word1 Rg.Mb.MB_LEN, word1 Rg.Mb.MB_TOTAL, word1 Rg.Smb.MB_DATA, word1 Rg.Wm.LOCKED, word2 Rg.Mb.MB_DATA]⟩
def foot261 : Foot := ⟨[.dict, .blobs, .d0, .br, .mezz, .upd], [], [word2 Rg.Ctx.SESSION]⟩
def foot262 : Foot := ⟨[.mem, .logs, .dma, .tenants], [ent0 Ent.Evlog.LAST_SEQ, ent0 Ent.Evlog.LOG_LOST, ent1 Ent.Hall.COUNTER_SAT, ent1
  Ent.Hall.RING_LOST], [word1 Rg.Hpg.RING_EN, word1 Rg.Hpg.RING_HEAD, word1 Rg.M0Src.PENDING]⟩
def foot263 : Foot := ⟨[.mem, .logs, .dma, .tenants], [ent0 Ent.Evlog.LAST_SEQ, ent0 Ent.Evlog.LOG_LOST, ent1 Ent.Hall.COUNTER_SAT, ent1
  Ent.Hall.RING_LOST], [word1 Rg.Hpg.RING_EN, word1 Rg.Hpg.RING_HEAD, word1 Rg.M0Src.PENDING, word1 Rg.Plat.SYS_IRQ]⟩
def foot264 : Foot := ⟨[.mem, .logs, .time, .load, .scan, .dma, .tenants, .clk, .upd, .twin], [ent0 Ent.Clk.SSC_ACTIVE, ent0 Ent.Evlog.LAST_SEQ, ent0
  Ent.Evlog.LOG_LOST, ent0 Ent.Frc.FORCE_COUNT, ent0 Ent.Frc.FORCE_GEN, ent0 Ent.Pwr.BOOT_MS, ent0 Ent.Se.ACTIVE_ID, ent0 Ent.Se.RETAIN_STATUS, ent0
  Ent.Se.STATE, ent0 Ent.Seimg.ACTIVE_IMAGE, ent1 Ent.Hall.COUNTER_SAT, ent1 Ent.Hall.RING_LOST, ent1 Ent.Lc.FLAGS, ent1 Ent.Lc.STATE, ent1
  Ent.Port.PORT_SAT, ent1 Ent.Port.TX_BYTES, ent1 Ent.Port.TX_FRAMES, ent1 Ent.Stn.STATE, ent1 Ent.Task.COUNTER_SAT, ent1 Ent.Task.CYCLES, ent1
  Ent.Task.LAST_EXEC_NS, ent1 Ent.Task.MAX_DELAY_NS, ent1 Ent.Task.MAX_EXEC_NS, ent1 Ent.Task.MERGED, ent1 Ent.Task.SKIPPED, ent1 Ent.Trgu.COUNT, ent1
  Ent.Trgu.ENABLE, ent1 Ent.Trgu.NEXT_NS, ent1 Ent.Trgu.OWNER, ent1 Ent.Trgu.PERIOD_NS, ent1 Ent.Trgu.START_NS, ent1 Ent.Trgu.TARGET], [word1
  Rg.Hpg.RING_EN, word1 Rg.Hpg.RING_HEAD, word1 Rg.Plat.SYS_IRQ]⟩
def foot265 : Foot := ⟨[.mem, .logs, .dma, .tenants], [ent0 Ent.Evlog.LAST_SEQ, ent0 Ent.Evlog.LOG_LOST, ent1 Ent.Hall.RING_LOST, ent1
  Ent.Ptime.PORT_STATE], [word1 Rg.Hpg.RING_HEAD]⟩
def foot266 : Foot := ⟨[.mem, .logs, .sw, .dma, .tenants, .sto], [ent0 Ent.Evlog.LAST_SEQ, ent0 Ent.Evlog.LOG_LOST, ent0 Ent.Stlog.LOG_MIB, ent0
  Ent.Stlog.LOG_OLDEST, ent0 Ent.Swc.SHARED_SIZE, ent1 Ent.Hall.RING_LOST, ent1 Ent.Lc.RETRIES_LEFT, ent1 Ent.Pair.STATE, ent1 Ent.Port.PORT_SAT, ent1
  Ent.Port.TX_OVERRUN, ent1 Ent.Ptime.PORT_STATE, ent1 Ent.Wsrc.FILTER_CUR], [word1 Rg.Hpg.RING_HEAD]⟩
def foot267 : Foot := ⟨[.mem, .free, .logs, .limits, .d0, .sw, .can, .sleep, .br, .load, .dma, .tenants, .clk, .sto, .harts, .twin], [ent0
  Ent.Clk.SSC_ACTIVE, ent0 Ent.Evlog.LAST_SEQ, ent0 Ent.Evlog.LOG_LOST, ent0 Ent.Stlog.LOG_MIB, ent0 Ent.Stlog.LOG_OLDEST, ent0 Ent.Stw.COUNTER_SAT,
  ent0 Ent.Stw.STW_ECC_DROPS, ent0 Ent.Swc.SHARED_SIZE, ent0 Ent.Tws.ROLE, ent1 Ent.Adc.STATE, ent1 Ent.Bctx.COUNTER_SAT, ent1 Ent.Bctx.FAILURES, ent1
  Ent.Bctx.POSTED, ent1 Ent.Bctx.READS, ent1 Ent.Bctx.RETRANSMITS, ent1 Ent.Bctx.SESSION, ent1 Ent.Bctx.STATE, ent1 Ent.Bctx.TIMEOUTS, ent1
  Ent.CanCo.NMT, ent1 Ent.CanSt.COUNTER_SAT, ent1 Ent.CanSt.STATE, ent1 Ent.CanSt.TX_DISCARDED, ent1 Ent.Co.CONSUMER_HB, ent1 Ent.Co.RPDO_CHANNEL,
  ent1 Ent.Co.RPDO_COB, ent1 Ent.Co.RPDO_EVENT_TIMER, ent1 Ent.Co.RPDO_INHIBIT, ent1 Ent.Co.RPDO_MAP_COUNT, ent1 Ent.Co.RPDO_SLOT, ent1
  Ent.Co.RPDO_TYPE, ent1 Ent.Co.SDO_RX_COB, ent1 Ent.Co.SDO_TX_COB, ent1 Ent.Co.TPDO_CHANNEL, ent1 Ent.Co.TPDO_COB, ent1 Ent.Co.TPDO_EVENT_TIMER, ent1
  Ent.Co.TPDO_INHIBIT, ent1 Ent.Co.TPDO_MAP_COUNT, ent1 Ent.Co.TPDO_SLOT, ent1 Ent.Co.TPDO_TYPE, ent1 Ent.Dma.STATE, ent1 Ent.Hall.COUNTER_SAT, ent1
  Ent.Hall.FROZEN_DROPS, ent1 Ent.Hall.RING_LOST, ent1 Ent.Heng.COUNTER_SAT, ent1 Ent.Heng.NO_QP, ent1 Ent.Heng.STATE, ent1 Ent.Lc.FLAGS, ent1
  Ent.Lc.RETRIES_LEFT, ent1 Ent.Lc.STATE, ent1 Ent.Pair.STATE, ent1 Ent.Port.EGRESS_FILTERED, ent1 Ent.Port.PORT_SAT, ent1 Ent.Port.STATE, ent1
  Ent.Port.TX_OVERRUN, ent1 Ent.Pq.CT_ABORTED, ent1 Ent.Pq.NO_DESC, ent1 Ent.Pq.OVERSIZE, ent1 Ent.Pq.PORT_SAT, ent1 Ent.Pq.Q_SAT, ent1
  Ent.Ptime.PORT_STATE, ent1 Ent.Qp.STATE, ent1 Ent.Wsrc.FILTER_CUR, ent2 Ent.Co.RPDO_MAP, ent2 Ent.Co.TPDO_MAP, ent2 Ent.Pq.DROP_DISABLED, ent2
  Ent.Pq.DROP_DOWN, ent2 Ent.Pq.DROP_FULL, ent2 Ent.Pq.DROP_RESIDENCE, ent2 Ent.Pq.DROP_STW, ent2 Ent.Pq.Q_STATE], [word0 Rg.Slpr.FW_PENDING, word1
  Rg.Ch.TEC, word1 Rg.Dmar.ACTIVE, word1 Rg.Hpg.RING_EN, word1 Rg.Hpg.RING_HEAD, word1 Rg.Plat.SYS_IRQ, word2 Rg.Ctx.BST_ADDR_HI, word2
  Rg.Ctx.BST_ADDR_LO, word2 Rg.Ctx.FAILED, word2 Rg.Ctx.FAR_CODE, word2 Rg.Ctx.IRQ, word2 Rg.Ctx.SESSION, word2 Rg.Ep.MERGED, word2 fun u k => rmb u k
  Rg.Mb.CODE, word2 fun u k => rmb u k Rg.Mb.GO, word2 fun u k => rmb u k Rg.Mb.MB_LEN, word2 fun u k => rmb u k Rg.Mb.MB_TOTAL, word3 fun u k i =>
  rmb u k fun n => Rg.Mb.MB_DATA n i]⟩
def foot268 : Foot := ⟨[.dict, .blobs, .mem, .epochs, .free, .logs, .limits, .time, .d0, .sw, .can, .sleep, .power, .br, .load, .scan, .dma, .tenants,
  .mezz, .clk, .sto, .upd, .harts, .twin], [], [word0 Rg.Slpr.FW_PENDING, word0 Rg.Smb.DONE, word0 Rg.Smb.MB_LEN, word0 Rg.Smb.MB_TOTAL, word0
  Rg.Swd.EN, word1 Rg.Ch.TEC, word1 Rg.Dmar.ACTIVE, word1 Rg.Hpg.RING_EN, word1 Rg.Hpg.RING_HEAD, word1 Rg.M0Src.PENDING, word1 Rg.Mb.DONE, word1
  Rg.Mb.MB_LEN, word1 Rg.Mb.MB_TOTAL, word1 Rg.Plat.SYS_IRQ, word1 Rg.Smb.MB_DATA, word1 Rg.Wm.LOCKED, word2 Rg.Ctx.BST_ADDR_HI, word2
  Rg.Ctx.BST_ADDR_LO, word2 Rg.Ctx.FAILED, word2 Rg.Ctx.FAR_CODE, word2 Rg.Ctx.IRQ, word2 Rg.Ctx.SESSION, word2 Rg.Ep.MERGED, word2 Rg.Mb.MB_DATA,
  word2 fun u k => rmb u k Rg.Mb.CODE, word2 fun u k => rmb u k Rg.Mb.GO, word2 fun u k => rmb u k Rg.Mb.MB_LEN, word2 fun u k => rmb u k
  Rg.Mb.MB_TOTAL, word3 fun u k i => rmb u k fun n => Rg.Mb.MB_DATA n i]⟩
def foot269 : Foot := ⟨[.dict, .blobs, .regs, .mem, .epochs, .free, .logs, .limits, .ctrLatch, .ctrStage, .drains, .supply, .time, .d0, .sw, .can,
  .sleep, .power, .br, .load, .adc, .scan, .dma, .tenants, .mezz, .clk, .sto, .upd, .held, .harts, .twin], [], []⟩
def foot270 : Foot := ⟨[], [ent0 Ent.Se.CMD_STATUS], []⟩
def foot271 : Foot := ⟨[.mem, .logs, .scan, .dma, .tenants], [ent0 Ent.Chg.CHANGE_STATE, ent0 Ent.Chg.MAP_TABLE, ent0 Ent.Evlog.LAST_SEQ, ent0
  Ent.Evlog.LOG_LOST, ent0 Ent.Se.STATE, ent1 Ent.Hall.COUNTER_SAT, ent1 Ent.Hall.RING_LOST], [word1 Rg.Hpg.RING_EN, word1 Rg.Hpg.RING_HEAD, word1
  Rg.Plat.SYS_IRQ]⟩
def foot272 : Foot := ⟨[.mem, .logs, .scan, .dma, .tenants], [ent0 Ent.Chg.CHANGES, ent0 Ent.Chg.CHANGE_RESULT, ent0 Ent.Chg.CHANGE_STATE, ent0
  Ent.Chg.CHANGE_STATUS, ent0 Ent.Chg.COUNTER_SAT, ent0 Ent.Chg.REFUSALS, ent0 Ent.Evlog.LAST_SEQ, ent0 Ent.Evlog.LOG_LOST, ent0 Ent.Se.STATE, ent1
  Ent.Hall.COUNTER_SAT, ent1 Ent.Hall.RING_LOST], [word1 Rg.Hpg.RING_EN, word1 Rg.Hpg.RING_HEAD, word1 Rg.Plat.SYS_IRQ]⟩
def foot273 : Foot := ⟨[.mem, .logs, .dma, .tenants, .twin], [ent0 Ent.Evlog.LAST_SEQ, ent0 Ent.Evlog.LOG_LOST, ent0 Ent.Tws.ROLE, ent1
  Ent.Hall.COUNTER_SAT, ent1 Ent.Hall.RING_LOST, ent1 Ent.Port.PORT_SAT, ent1 Ent.Port.TX_BYTES, ent1 Ent.Port.TX_FRAMES], [word1 Rg.Hpg.RING_EN,
  word1 Rg.Hpg.RING_HEAD, word1 Rg.Plat.SYS_IRQ]⟩
def foot274 : Foot := ⟨[.mem, .logs, .d0, .sw, .can, .power, .br, .dma, .tenants, .twin], [ent0 Ent.Evlog.LAST_SEQ, ent0 Ent.Evlog.LOG_LOST, ent0
  Ent.Stw.COUNTER_SAT, ent0 Ent.Stw.STW_ECC_DROPS, ent0 Ent.Tws.CMD_STATUS, ent0 Ent.Tws.ROLE, ent1 Ent.CanCo.SDO_LAST_STATUS, ent1
  Ent.CanSt.COUNTER_SAT, ent1 Ent.CanSt.TX_DISCARDED, ent1 Ent.Hall.COUNTER_SAT, ent1 Ent.Hall.FROZEN_DROPS, ent1 Ent.Hall.RING_LOST, ent1
  Ent.Heng.COUNTER_SAT, ent1 Ent.Heng.NO_QP, ent1 Ent.Port.EGRESS_FILTERED, ent1 Ent.Port.PORT_SAT, ent1 Ent.Port.TX_BYTES, ent1 Ent.Port.TX_FRAMES,
  ent1 Ent.Pq.CT_ABORTED, ent1 Ent.Pq.NO_DESC, ent1 Ent.Pq.OVERSIZE, ent1 Ent.Pq.PORT_SAT, ent1 Ent.Pq.Q_SAT, ent2 Ent.Pq.DROP_DISABLED, ent2
  Ent.Pq.DROP_DOWN, ent2 Ent.Pq.DROP_FULL, ent2 Ent.Pq.DROP_RESIDENCE, ent2 Ent.Pq.DROP_STW], [word0 Rg.Smb.DONE, word0 Rg.Smb.MB_LEN, word0
  Rg.Smb.MB_TOTAL, word1 Rg.Hpg.RING_EN, word1 Rg.Hpg.RING_HEAD, word1 Rg.Mb.DONE, word1 Rg.Mb.MB_LEN, word1 Rg.Mb.MB_TOTAL, word1 Rg.Plat.SYS_IRQ,
  word1 Rg.Smb.MB_DATA, word2 Rg.Mb.MB_DATA]⟩
def foot275 : Foot := ⟨[.mem, .free, .logs, .time, .d0, .sw, .can, .power, .br, .load, .scan, .dma, .tenants, .clk, .sto, .upd, .twin], [ent0
  Ent.Chg.CHANGES, ent0 Ent.Chg.CHANGE_RESULT, ent0 Ent.Chg.CHANGE_STATE, ent0 Ent.Chg.CHANGE_STATUS, ent0 Ent.Chg.COUNTER_SAT, ent0
  Ent.Chg.MAP_TABLE, ent0 Ent.Chg.REFUSALS, ent0 Ent.Clk.SSC_ACTIVE, ent0 Ent.Evlog.LAST_SEQ, ent0 Ent.Evlog.LOG_LOST, ent0 Ent.Frc.FORCE_COUNT, ent0
  Ent.Frc.FORCE_GEN, ent0 Ent.Se.ACTIVE_ID, ent0 Ent.Se.CMD_STATUS, ent0 Ent.Se.FAULT_CAUSE, ent0 Ent.Se.RETAIN_STATUS, ent0 Ent.Se.STATE, ent0
  Ent.Sec.ROLLBACK, ent0 Ent.Seimg.ACTIVE_IMAGE, ent0 Ent.Stg.STAGING, ent0 Ent.Stw.COUNTER_SAT, ent0 Ent.Stw.STW_ECC_DROPS, ent0 Ent.Tws.CMD_STATUS,
  ent0 Ent.Tws.ROLE, ent0 Ent.Upd.FAILED_STARTS, ent0 Ent.Upd.IMAGE_STATE, ent0 Ent.Upd.STAGED_VERSION, ent0 Ent.Upd.STAGING_STATE, ent1
  Ent.CanCo.SDO_LAST_STATUS, ent1 Ent.CanSt.COUNTER_SAT, ent1 Ent.CanSt.TX_DISCARDED, ent1 Ent.Hall.COUNTER_SAT, ent1 Ent.Hall.FROZEN_DROPS, ent1
  Ent.Hall.RING_LOST, ent1 Ent.Heng.COUNTER_SAT, ent1 Ent.Heng.NO_QP, ent1 Ent.Lc.FLAGS, ent1 Ent.Lc.RETRIES_LEFT, ent1 Ent.Lc.STATE, ent1
  Ent.Port.EGRESS_FILTERED, ent1 Ent.Port.PORT_SAT, ent1 Ent.Port.TX_BYTES, ent1 Ent.Port.TX_FRAMES, ent1 Ent.Pq.CT_ABORTED, ent1 Ent.Pq.NO_DESC, ent1
  Ent.Pq.OVERSIZE, ent1 Ent.Pq.PORT_SAT, ent1 Ent.Pq.Q_SAT, ent1 Ent.Stn.COUNTER_SAT, ent1 Ent.Stn.LOSSES, ent1 Ent.Stn.STATE, ent1
  Ent.Task.COUNTER_SAT, ent1 Ent.Task.CYCLES, ent1 Ent.Task.LAST_EXEC_NS, ent1 Ent.Task.MAX_DELAY_NS, ent1 Ent.Task.MAX_EXEC_NS, ent1 Ent.Task.MERGED,
  ent1 Ent.Task.SKIPPED, ent1 Ent.Trgu.COUNT, ent1 Ent.Trgu.ENABLE, ent1 Ent.Trgu.NEXT_NS, ent1 Ent.Trgu.OWNER, ent1 Ent.Trgu.PERIOD_NS, ent1
  Ent.Trgu.START_NS, ent1 Ent.Trgu.TARGET, ent2 Ent.Pq.DROP_DISABLED, ent2 Ent.Pq.DROP_DOWN, ent2 Ent.Pq.DROP_FULL, ent2 Ent.Pq.DROP_RESIDENCE, ent2
  Ent.Pq.DROP_STW], [word0 Rg.M0Cpg.WFI, word0 Rg.Smb.DONE, word0 Rg.Smb.MB_LEN, word0 Rg.Smb.MB_TOTAL, word1 Rg.Cpg.WFI, word1 Rg.Hpg.RING_EN, word1
  Rg.Hpg.RING_HEAD, word1 Rg.M0Src.PENDING, word1 Rg.Mb.DONE, word1 Rg.Mb.MB_LEN, word1 Rg.Mb.MB_TOTAL, word1 Rg.Plat.SYS_IRQ, word1 Rg.Smb.MB_DATA,
  word1 Rg.Src.PENDING, word2 Rg.Mb.MB_DATA]⟩
def foot276 : Foot := ⟨[.mem, .logs, .time, .dma, .tenants], [ent0 Ent.Evlog.LAST_SEQ, ent0 Ent.Evlog.LOG_LOST, ent1 Ent.Hall.RING_LOST], [word1
  Rg.Hpg.RING_HEAD, word1 Rg.Plat.SYS_IRQ]⟩
def foot277 : Foot := ⟨[.mem, .logs, .limits, .sw, .dma, .tenants], [ent0 Ent.Evlog.LAST_SEQ, ent0 Ent.Evlog.LOG_LOST, ent1 Ent.Hall.RING_LOST],
  [word1 Rg.Hpg.RING_HEAD]⟩
def foot278 : Foot := ⟨[.mem, .logs, .limits, .sw, .dma, .tenants], [ent0 Ent.Evlog.LAST_SEQ, ent0 Ent.Evlog.LOG_LOST, ent0 Ent.Stw.COUNTER_SAT, ent0
  Ent.Stw.STW_ECC_DROPS, ent1 Ent.Hall.COUNTER_SAT, ent1 Ent.Hall.FROZEN_DROPS, ent1 Ent.Hall.RING_LOST, ent1 Ent.Heng.COUNTER_SAT, ent1
  Ent.Heng.NO_QP, ent1 Ent.Port.EGRESS_FILTERED, ent1 Ent.Port.PORT_SAT, ent1 Ent.Pq.COPIES_DROPPED, ent1 Ent.Pq.CT_ABORTED, ent1 Ent.Pq.NO_DESC, ent1
  Ent.Pq.OVERSIZE, ent1 Ent.Pq.PORT_SAT, ent1 Ent.Pq.Q_SAT, ent2 Ent.Pq.DROP_DISABLED, ent2 Ent.Pq.DROP_DOWN, ent2 Ent.Pq.DROP_FULL, ent2
  Ent.Pq.DROP_RESIDENCE, ent2 Ent.Pq.DROP_STW, ent2 Ent.Pq.SPILLED], [word1 Rg.Hpg.RING_HEAD]⟩
def foot279 : Foot := ⟨[], [], [word1 Rg.Hpg.LINES_SET]⟩
def foot280 : Foot := ⟨[.time, .clk], [ent0 Ent.Clk.SRC_STATUS, ent1 Ent.Dom.SOURCE], []⟩
def foot281 : Foot := ⟨[.mem, .logs, .time, .dma, .tenants, .clk], [ent0 Ent.Clk.SRC_STATUS, ent0 Ent.Clk.SSC_ACTIVE, ent0 Ent.Evlog.LAST_SEQ, ent0
  Ent.Evlog.LOG_LOST, ent1 Ent.Dom.SOURCE, ent1 Ent.Hall.RING_LOST], [word1 Rg.Hpg.RING_HEAD, word1 Rg.Plat.SYS_IRQ]⟩
def foot282 : Foot := ⟨[.mem, .logs, .d0, .br, .dma, .tenants, .mezz, .upd], [ent0 Ent.Evlog.LAST_SEQ, ent0 Ent.Evlog.LOG_LOST, ent1 Ent.Bctx.SESSION,
  ent1 Ent.Hall.RING_LOST, ent1 Ent.Key.LOADED], [word1 Rg.Hpg.RING_HEAD, word1 Rg.M0Src.PENDING, word2 Rg.Ctx.SESSION]⟩
def foot283 : Foot := ⟨[.br, .mezz, .held, .harts], [], [word0 Rg.M0Cpg.DEPTH, word0 Rg.M0Cpg.WFI, word1 Rg.Cpg.DEPTH, word1 Rg.Cpg.WFI, word1
  Rg.Hpg.LINES_SET, word1 Rg.M0Cpg.STK_SRC, word1 Rg.M0Src.PENDING, word1 Rg.Src.PENDING, word2 Rg.Cpg.STK_SRC]⟩
def foot284 : Foot := ⟨[.br, .mezz, .held, .harts], [ent1 Ent.Pair.STATE], [word0 Rg.M0Cpg.DEPTH, word0 Rg.M0Cpg.WFI, word1 Rg.Cpg.DEPTH, word1
  Rg.Cpg.WFI, word1 Rg.M0Cpg.STK_SRC, word1 Rg.M0Src.PENDING, word1 Rg.Src.PENDING, word2 Rg.Cpg.STK_SRC]⟩
def foot285 : Foot := ⟨[.mem, .logs, .dma, .tenants], [ent0 Ent.Evlog.LAST_SEQ, ent0 Ent.Evlog.LOG_LOST, ent0 Ent.Time.GM_IDENTITY, ent1
  Ent.Hall.RING_LOST], [word1 Rg.Hpg.RING_HEAD, word1 Rg.Plat.SYS_IRQ]⟩
def foot286 : Foot := ⟨[.mem, .logs, .time, .dma, .tenants], [ent0 Ent.Evlog.LAST_SEQ, ent0 Ent.Evlog.LOG_LOST, ent0 Ent.Time.GM_IDENTITY, ent1
  Ent.Hall.RING_LOST, ent1 Ent.Ptime.PORT_STATE], [word1 Rg.Hpg.RING_HEAD, word1 Rg.Plat.SYS_IRQ]⟩
def foot287 : Foot := ⟨[.time], [ent1 Ent.Trgu.ENABLE, ent1 Ent.Trgu.NEXT_NS], []⟩
def foot288 : Foot := ⟨[.can], [], [word1 Rg.Ch.TEC]⟩
def foot289 : Foot := ⟨[.epochs, .scan], [ent1 Ent.Stn.STATE], []⟩

theorem Dev.unitRestarts_only (d : Dev) (x : UnitId) : Only foot201 d (Dev.unitRestarts d x) := by
  have h_drains : Part.In .drains foot201 := ⟨by decide +kernel⟩
  unfold Dev.unitRestarts
  repeat' first
    | with_reducible exact Only.refl
    | with_reducible apply Foot.Sub.mk; decide +kernel
    | with_reducible apply Only.put (has_unitStateEntry ..)
    | with_reducible apply Only.step (Dev.unitCut_only ..)
    | with_reducible apply Only.step (Dev.unitDraining_only ..)
    | simp only [Only.set_drains_eq h_drains]

theorem Dev.resetPage_only (d : Dev) (base size : Nat) : Only foot39 d (Dev.resetPage d base size) :=
  Only.set_regs KV.sorted_keep Only.refl ⟨by decide +kernel⟩

theorem Dev.engineUnitReset_only (d : Dev) (n : Nat) : Only foot202 d (Dev.engineUnitReset d n) := by
  unfold Dev.engineUnitReset
  repeat' first
    | with_reducible exact Only.refl
    | with_reducible apply Foot.Sub.mk; decide +kernel
    | with_reducible apply Only.ite
    | with_reducible apply Only.foldl
    | with_reducible apply Only.step (Dev.portDown_only ..)
    | with_reducible apply Only.step (Dev.resetPage_only ..)
    | with_reducible apply Only.step (Dev.unitRestarts_only ..)
    | with_reducible intro _

theorem Dev.dictUnitReset_only (d : Dev) : Only foot203 d (Dev.dictUnitReset d) := by
  unfold Dev.dictUnitReset
  repeat' first
    | with_reducible exact Only.refl
    | with_reducible apply Foot.Sub.mk; decide +kernel
    | with_reducible apply Only.foldl
    | with_reducible apply Only.step (Dev.respond_only ..)
    | with_reducible apply Only.step (Dev.setD0_only ..)
    | with_reducible apply Only.step (Dev.transfersEnd_only ..)
    | with_reducible intro _

theorem Dev.bridgeUnitReset_only (d : Dev) (u : Nat) : Only foot204 d (Dev.bridgeUnitReset d u) := by
  unfold Dev.bridgeUnitReset
  repeat' first
    | with_reducible exact Only.refl
    | with_reducible apply Foot.Sub.mk; decide +kernel
    | with_reducible apply Only.ite
    | with_reducible apply Only.foldl
    | with_reducible apply Only.step (Dev.bctxEnabled_only ..)
    | with_reducible apply Only.step (Dev.resetPage_only ..)
    | with_reducible apply Only.step (Dev.setBr_only ..)
    | with_reducible apply Only.step (Dev.unitRestarts_only ..)
    | with_reducible intro _

theorem Dev.closeSession_only (d : Dev) (id : Nat) : Only foot106 d (Dev.closeSession d id) := by
  unfold Dev.closeSession
  repeat' first
    | with_reducible exact Only.refl
    | with_reducible apply Foot.Sub.mk; decide +kernel
    | with_reducible apply Only.step (Dev.setD0_only ..)
    | dsimp only
    | split

theorem Dev.closeSessions_only (d : Dev) (p : Session → Bool) : Only foot106 d (Dev.closeSessions d p) := by
  unfold Dev.closeSessions
  repeat' first
    | with_reducible exact Only.refl
    | with_reducible apply Foot.Sub.mk; decide +kernel
    | with_reducible apply Only.foldl
    | with_reducible apply Only.step (Dev.closeSession_only ..)
    | with_reducible intro _

theorem Dev.slotSessionsEnd_only (d : Dev) (k : Nat) : Only foot205 d (Dev.slotSessionsEnd d k) := by
  unfold Dev.slotSessionsEnd
  repeat' first
    | with_reducible exact Only.refl
    | with_reducible apply Foot.Sub.mk; decide +kernel
    | with_reducible apply Only.foldl
    | with_reducible apply Only.step (Dev.closeBridge_only ..)
    | with_reducible apply Only.step (Dev.closeSessions_only ..)
    | with_reducible apply Only.step (Dev.setBr_only ..)
    | with_reducible intro _

theorem Dev.recordGone_only (d : Dev) (kind : Nat) (key : Nat) : Only foot168 d (Dev.recordGone d kind key) := by
  unfold Dev.recordGone
  repeat' first
    | with_reducible exact Only.refl
    | with_reducible apply Foot.Sub.mk; decide +kernel
    | with_reducible apply Only.step (Dev.setUpd_only ..)

theorem Dev.emptySlot_only (d : Dev) (k : Nat) : Only foot206 d (Dev.emptySlot d k) := by
  unfold Dev.emptySlot
  repeat' first
    | with_reducible exact Only.refl
    | with_reducible apply Foot.Sub.mk; decide +kernel
    | with_reducible apply Only.putOct (has_Key_KEY ..)
    | with_reducible apply Only.put (has_Key_LOADED ..)
    | with_reducible apply Only.put (has_Key_USAGE ..)
    | with_reducible apply Only.step (Dev.recordGone_only ..)
    | with_reducible apply Only.step (Dev.setMezz_only ..)
    | with_reducible apply Only.step (Dev.slotSessionsEnd_only ..)

theorem Dev.clearSlot_only (d : Dev) (k : Nat) : Only foot207 d (Dev.clearSlot d k) := by
  unfold Dev.clearSlot
  repeat' first
    | with_reducible exact Only.refl
    | with_reducible apply Foot.Sub.mk; decide +kernel
    | with_reducible apply Only.step (Dev.emptySlot_only ..)
    | with_reducible apply Only.step (Dev.eventSecure_only ..)
    | with_reducible apply Only.step (Dev.finish_only ..)
    | with_reducible apply Only.step (Dev.setMezz_only ..)

theorem cryptoJobCompleteOp_only (d : Dev) : Only Foot.cryptoJobComplete d (cryptoJobCompleteOp d) := by
  unfold cryptoJobCompleteOp
  repeat' first
    | with_reducible exact Only.refl
    | with_reducible apply Foot.Sub.mk; decide +kernel
    | with_reducible apply Only.ite
    | with_reducible apply Only.foldl
    | with_reducible apply Only.setFld (has_Cry_BUSY ..)
    | with_reducible apply Only.setFld (has_Cry_CODE ..)
    | with_reducible apply Only.setFld (has_Cry_HEAD ..)
    | with_reducible apply Only.setFldBit (has_Cry_IRQ ..)
    | with_reducible apply Only.step (Dev.clearSlot_only ..)
    | with_reducible apply Only.step (Dev.setMezz_only ..)
    | with_reducible apply Only.step (Dev.writeMem_only ..)
    | with_reducible intro _
    | dsimp only
    | split

theorem Dev.cryptoUnitReset_only (d : Dev) : Only foot208 d (Dev.cryptoUnitReset d) := by
  unfold Dev.cryptoUnitReset
  repeat' first
    | with_reducible exact Only.refl
    | with_reducible apply Foot.Sub.mk; decide +kernel
    | with_reducible apply Only.step (Dev.resetPage_only ..)
    | with_reducible apply Only.step (Dev.setMezz_only ..)
    | with_reducible apply Only.step (cryptoJobCompleteOp_only ..)

theorem Dev.portUnitReset_only (d : Dev) (p : Nat) : Only foot209 d (Dev.portUnitReset d p) := by
  unfold Dev.portUnitReset
  repeat' first
    | with_reducible exact Only.refl
    | with_reducible apply Foot.Sub.mk; decide +kernel
    | with_reducible apply Only.ite
    | with_reducible apply Only.step (Dev.driveXtxdis_only ..)
    | with_reducible apply Only.step (Dev.gclApplied_only ..)
    | with_reducible apply Only.step (Dev.holdFlush_only ..)
    | with_reducible apply Only.step (Dev.portDown_only ..)
    | with_reducible apply Only.step (Dev.setSched_only ..)
    | with_reducible apply Only.step (Dev.unitRestarts_only ..)

theorem Dev.canUnitReset_only (d : Dev) (n : Nat) : Only foot210 d (Dev.canUnitReset d n) := by
  have h_can : Part.In .can foot210 := ⟨by decide +kernel⟩
  unfold Dev.canUnitReset
  repeat' first
    | with_reducible exact Only.refl
    | with_reducible apply Foot.Sub.mk; decide +kernel
    | with_reducible apply Only.setFld (has_Ch_BUS ..)
    | with_reducible apply Only.step (Dev.resetPage_only ..)
    | with_reducible apply Only.step (Dev.unitRestarts_only ..)
    | simp only [Only.set_can_eq h_can]

theorem Dev.stgReset_only (d : Dev) (h : Nat) : Only foot211 d (Dev.stgReset d h) := by
  unfold Dev.stgReset
  repeat' first
    | with_reducible exact Only.refl
    | with_reducible apply Foot.Sub.mk; decide +kernel
    | with_reducible apply Only.step (Dev.resetPage_only ..)
    | with_reducible apply Only.step (Dev.setSto_only ..)

theorem Dev.dmaUnitReset_only (d : Dev) (c : Nat) : Only foot210 d (Dev.dmaUnitReset d c) := by
  unfold Dev.dmaUnitReset
  repeat' first
    | with_reducible exact Only.refl
    | with_reducible apply Foot.Sub.mk; decide +kernel
    | with_reducible apply Only.step (Dev.leftBehind_only ..)
    | with_reducible apply Only.step (Dev.resetPage_only ..)
    | with_reducible apply Only.step (Dev.setDma_only ..)
    | with_reducible apply Only.step (Dev.unitRestarts_only ..)

theorem Dev.unitResetState_only (d : Dev) (g : Nat) : Only foot212 d (Dev.unitResetState d g) := by
  have h_held : Part.In .held foot212 := ⟨by decide +kernel⟩
  unfold Dev.unitResetState
  repeat' first
    | with_reducible exact Only.refl
    | with_reducible apply Foot.Sub.mk; decide +kernel
    | with_reducible apply Only.ite
    | with_reducible apply Only.foldl
    | with_reducible apply Only.step (Dev.bridgeUnitReset_only ..)
    | with_reducible apply Only.step (Dev.canUnitReset_only ..)
    | with_reducible apply Only.step (Dev.cryptoUnitReset_only ..)
    | with_reducible apply Only.step (Dev.dictUnitReset_only ..)
    | with_reducible apply Only.step (Dev.dmaUnitReset_only ..)
    | with_reducible apply Only.step (Dev.engineUnitReset_only ..)
    | with_reducible apply Only.step (Dev.portUnitReset_only ..)
    | with_reducible apply Only.step (Dev.resetCore_only ..)
    | with_reducible apply Only.step (Dev.resetPage_only ..)
    | with_reducible apply Only.step (Dev.seUnitReset_only ..)
    | with_reducible apply Only.step (Dev.setDma_only ..)
    | with_reducible apply Only.step (Dev.setLoad_only ..)
    | with_reducible apply Only.step (Dev.stgReset_only ..)
    | with_reducible apply Only.step (Dev.unitRestarts_only ..)
    | with_reducible intro _
    | simp only [Only.set_held_eq h_held]

theorem unitResetOp_only (v : Nat) (secure : Bool) (d : Dev) : Only Foot.unitReset d (unitResetOp v secure d) := by
  unfold unitResetOp
  repeat' first
    | with_reducible exact Only.refl
    | with_reducible apply Foot.Sub.mk; decide +kernel
    | with_reducible apply Only.ite
    | with_reducible apply Only.count (has_powerCounter_4 ..)
    | with_reducible apply Only.step (Dev.eventSys_only ..)
    | with_reducible apply Only.step (Dev.finish_only ..)
    | with_reducible apply Only.step (Dev.leaseRefused_only ..)
    | with_reducible apply Only.step (Dev.loadGroupReset_only ..)
    | with_reducible apply Only.step (Dev.unitResetState_only ..)
    | dsimp only
    | split

theorem Dev.setGateCode_only (d : Dev) (g : Nat) (s : Status) : Only foot213 d (Dev.setGateCode d g s) := by
  unfold Dev.setGateCode
  repeat' first
    | with_reducible exact Only.refl
    | with_reducible apply Foot.Sub.mk; decide +kernel
    | with_reducible apply Only.put (has_gateEntry ..)

theorem Dev.gateDone_only (d : Dev) (g : Nat) (s : Status) : Only foot214 d (Dev.gateDone d g s) := by
  unfold Dev.gateDone
  repeat' first
    | with_reducible exact Only.refl
    | with_reducible apply Foot.Sub.mk; decide +kernel
    | with_reducible apply Only.ite
    | with_reducible apply Only.step (Dev.finish_only ..)
    | with_reducible apply Only.step (Dev.leaseRefused_only ..)
    | with_reducible apply Only.step (Dev.setGateCode_only ..)

theorem Dev.gateBits_only (d : Dev) (g : Nat) (v : Nat) : Only foot213 d (Dev.gateBits d g v) := by
  unfold Dev.gateBits
  repeat' first
    | with_reducible exact Only.refl
    | with_reducible apply Foot.Sub.mk; decide +kernel
    | with_reducible apply Only.put (has_gateEntry ..)

theorem Dev.domLinksDown_only (d : Dev) (k : Nat) : Only foot142 d (Dev.domLinksDown d k) := by
  unfold Dev.domLinksDown
  repeat' first
    | with_reducible exact Only.refl
    | with_reducible apply Foot.Sub.mk; decide +kernel
    | with_reducible apply Only.ite
    | with_reducible apply Only.foldl
    | with_reducible apply Only.step (Dev.portDown_only ..)
    | with_reducible intro _

theorem Dev.pllGate_only (d : Dev) (g : Nat) (on : Bool) : Only foot215 d (Dev.pllGate d g on) := by
  unfold Dev.pllGate
  repeat' first
    | with_reducible exact Only.refl
    | with_reducible apply Foot.Sub.mk; decide +kernel
    | with_reducible apply Only.ite
    | with_reducible apply Only.put (has_Dom_SOURCE ..)
    | with_reducible apply Only.step (Dev.domLinksDown_only ..)
    | with_reducible apply Only.step (Dev.domStarts_only ..)
    | with_reducible apply Only.step (Dev.setDom_only ..)

theorem Dev.setGateState_only (d : Dev) (g : Nat) (st : Nat) : Only foot213 d (Dev.setGateState d g st) := by
  unfold Dev.setGateState
  repeat' first
    | with_reducible exact Only.refl
    | with_reducible apply Foot.Sub.mk; decide +kernel
    | with_reducible apply Only.put (has_gateEntry ..)

theorem Dev.gateUp_only (d : Dev) (g : Nat) : Only foot216 d (Dev.gateUp d g) := by
  unfold Dev.gateUp
  repeat' first
    | with_reducible exact Only.refl
    | with_reducible apply Foot.Sub.mk; decide +kernel
    | with_reducible apply Only.ite
    | with_reducible apply Only.putBit (has_gateEntry ..)
    | with_reducible apply Only.step (Dev.pllGate_only ..)
    | with_reducible apply Only.step (Dev.setGateState_only ..)
    | with_reducible apply Only.step (Dev.unitResetState_only ..)

theorem gateOnOp_only (g : Nat) (v : Nat) (secure : Bool) (d : Dev) : Only Foot.gateOn d (gateOnOp g v secure d) := by
  unfold gateOnOp
  repeat' first
    | with_reducible exact Only.refl
    | with_reducible apply Foot.Sub.mk; decide +kernel
    | with_reducible apply Only.ite
    | with_reducible apply Only.foldl
    | with_reducible apply Only.step (Dev.finish_only ..)
    | with_reducible apply Only.step (Dev.gateBits_only ..)
    | with_reducible apply Only.step (Dev.gateDone_only ..)
    | with_reducible apply Only.step (Dev.gateUp_only ..)
    | with_reducible intro _

theorem Dev.zeroMem_only (d : Dev) (a n : Nat) : Only foot217 d (Dev.zeroMem d a n) :=
  Only.set_mem (b := { d with dma := { d.dma with poison := d.dma.poison.filter fun w => !(decide (a ≤ w) && decide (w < a + n)) } }) KV.keep_wf
    (Only.set_dma Only.refl ⟨by decide +kernel⟩) ⟨by decide +kernel⟩

theorem Dev.gateDown_only (d : Dev) (g : Nat) : Only foot218 d (Dev.gateDown d g) := by
  unfold Dev.gateDown
  repeat' first
    | with_reducible exact Only.refl
    | with_reducible apply Foot.Sub.mk; decide +kernel
    | with_reducible apply Only.ite
    | with_reducible apply Only.step (Dev.pllGate_only ..)
    | with_reducible apply Only.step (Dev.setGateState_only ..)
    | with_reducible apply Only.step (Dev.zeroMem_only ..)

theorem gateOffOp_only (g : Nat) (v : Nat) (secure : Bool) (d : Dev) : Only Foot.gateOff d (gateOffOp g v secure d) := by
  unfold gateOffOp
  repeat' first
    | with_reducible exact Only.refl
    | with_reducible apply Foot.Sub.mk; decide +kernel
    | with_reducible apply Only.ite
    | with_reducible apply Only.step (Dev.finish_only ..)
    | with_reducible apply Only.step (Dev.gateBits_only ..)
    | with_reducible apply Only.step (Dev.gateDone_only ..)
    | with_reducible apply Only.step (Dev.gateDown_only ..)
    | split

theorem Dev.debugChanged_only (d : Dev) (old : Nat) : Only foot123 d (Dev.debugChanged d old) := by
  unfold Dev.debugChanged
  repeat' first
    | with_reducible exact Only.refl
    | with_reducible apply Foot.Sub.mk; decide +kernel
    | with_reducible apply Only.ite
    | with_reducible apply Only.step (Dev.eventBoth_only ..)

theorem Dev.enterLifecycle_only (d : Dev) (st : Nat) : Only foot219 d (Dev.enterLifecycle d st) := by
  unfold Dev.enterLifecycle
  repeat' first
    | with_reducible exact Only.refl
    | with_reducible apply Foot.Sub.mk; decide +kernel
    | with_reducible apply Only.put (has_Sec_LIFECYCLE ..)
    | with_reducible apply Only.step (Dev.debugChanged_only ..)
    | with_reducible apply Only.step (Dev.eventBoth_only ..)
    | with_reducible apply Only.step (Dev.swdtFollow_only ..)

theorem lcAdvanceOp_only (d : Dev) : Only Foot.lcAdvance d (lcAdvanceOp d) := by
  unfold lcAdvanceOp
  repeat' first
    | with_reducible exact Only.refl
    | with_reducible apply Foot.Sub.mk; decide +kernel
    | with_reducible apply Only.ite
    | with_reducible apply Only.step (Dev.enterLifecycle_only ..)
    | with_reducible apply Only.step (Dev.finish_only ..)

theorem Dev.tokenDone_only (d : Dev) (key : Nat) (s : Status) : Only foot220 d (Dev.tokenDone d key s) := by
  unfold Dev.tokenDone
  repeat' first
    | with_reducible exact Only.refl
    | with_reducible apply Foot.Sub.mk; decide +kernel
    | with_reducible apply Only.ite
    | with_reducible apply Only.step (Dev.eventSecure_only ..)
    | with_reducible apply Only.step (Dev.finish_only ..)
    | with_reducible apply Only.step (Dev.newChallenge_only ..)
    | with_reducible apply Only.step (Dev.raiseM0_only ..)

theorem Dev.enterReturned_only (d : Dev) : Only foot221 d (Dev.enterReturned d) := by
  unfold Dev.enterReturned
  repeat' first
    | with_reducible exact Only.refl
    | with_reducible apply Foot.Sub.mk; decide +kernel
    | with_reducible apply Only.foldl
    | with_reducible apply Only.step (Dev.draw_only ..)
    | with_reducible apply Only.step (Dev.emptySlot_only ..)
    | with_reducible apply Only.step (Dev.enterLifecycle_only ..)
    | with_reducible apply Only.step (Dev.setMezz_only ..)
    | with_reducible apply Only.step (Dev.zeroMem_only ..)
    | with_reducible intro _

theorem returnTokenOp_only (b : Bytes) (pub : Bytes) (d : Dev) : Only Foot.returnToken d (returnTokenOp b pub d) := by
  unfold returnTokenOp
  repeat' first
    | with_reducible exact Only.refl
    | with_reducible apply Foot.Sub.mk; decide +kernel
    | with_reducible apply Only.ite
    | with_reducible apply Only.step (Dev.enterReturned_only ..)
    | with_reducible apply Only.step (Dev.tokenDone_only ..)

theorem debugTokenOp_only (b : Bytes) (pub : Bytes) (d : Dev) : Only Foot.debugToken d (debugTokenOp b pub d) := by
  unfold debugTokenOp
  repeat' first
    | with_reducible exact Only.refl
    | with_reducible apply Foot.Sub.mk; decide +kernel
    | with_reducible apply Only.ite
    | with_reducible apply Only.put (has_Sec_DBG_ACTIVE ..)
    | with_reducible apply Only.step (Dev.debugChanged_only ..)
    | with_reducible apply Only.step (Dev.tokenDone_only ..)

theorem Dev.setRollback_only (d : Dev) (n : Nat) : Only foot222 d (Dev.setRollback d n) := by
  unfold Dev.setRollback
  repeat' first
    | with_reducible exact Only.refl
    | with_reducible apply Foot.Sub.mk; decide +kernel
    | with_reducible apply Only.put (has_Sec_ROLLBACK ..)
    | with_reducible apply Only.step (Dev.eventBoth_only ..)

theorem rollbackSetOp_only (n : Nat) (d : Dev) : Only Foot.rollbackSet d (rollbackSetOp n d) := by
  unfold rollbackSetOp
  repeat' first
    | with_reducible exact Only.refl
    | with_reducible apply Foot.Sub.mk; decide +kernel
    | with_reducible apply Only.ite
    | with_reducible apply Only.step (Dev.finish_only ..)
    | with_reducible apply Only.step (Dev.setRollback_only ..)

theorem keyRevokeOp_only (i : Nat) (d : Dev) : Only Foot.keyRevoke d (keyRevokeOp i d) := by
  unfold keyRevokeOp
  repeat' first
    | with_reducible exact Only.refl
    | with_reducible apply Foot.Sub.mk; decide +kernel
    | with_reducible apply Only.ite
    | with_reducible apply Only.put (has_Sec_KEY_REVOKED ..)
    | with_reducible apply Only.step (Dev.eventBoth_only ..)
    | with_reducible apply Only.step (Dev.finish_only ..)

theorem keyClearOp_only (k : Nat) (d : Dev) : Only Foot.keyClear d (keyClearOp k d) := by
  unfold keyClearOp
  repeat' first
    | with_reducible exact Only.refl
    | with_reducible apply Foot.Sub.mk; decide +kernel
    | with_reducible apply Only.ite
    | with_reducible apply Only.step (Dev.clearSlot_only ..)
    | with_reducible apply Only.step (Dev.setMezz_only ..)

theorem Only.hallCmd {F : Foot} {a b : Dev} {k : Nat} {l : List Nat} {f : Dev → Dev} (hs : Foot.Sub foot137 F) (hf : ∀ d, Only F d (f d)) (h : Only F a b) : Only F a (b.hallCmd k l f) := by
  unfold Dev.hallCmd
  repeat' first
    | with_reducible exact ‹Only _ _ _›
    | with_reducible apply Foot.Sub.mk; decide +kernel
    | with_reducible refine Foot.Sub.trans (G := foot137) ?_ hs
    | with_reducible apply Only.ite
    | with_reducible apply Only.trans (hf _)
    | with_reducible apply Only.step (Dev.finish_only ..)
    | with_reducible apply Only.step (Dev.hallDone_only ..)

theorem hallCreateOp_only (h : Nat) (d : Dev) : Only Foot.hallCreate d (hallCreateOp h d) := by
  unfold hallCreateOp
  repeat' first
    | with_reducible exact Only.refl
    | with_reducible apply Foot.Sub.mk; decide +kernel
    | with_reducible apply Only.ite
    | with_reducible apply Only.step (Dev.bumpEpoch_only ..)
    | with_reducible apply Only.hallCmd
    | with_reducible apply Only.step (Dev.hallDone_only ..)
    | with_reducible apply Only.step (Dev.setHall_only ..)
    | with_reducible intro _

theorem Dev.migForget_only (d : Dev) (h : Nat) : Only foot2 d (Dev.migForget d h) := by
  unfold Dev.migForget
  repeat' first
    | with_reducible exact Only.refl
    | with_reducible apply Foot.Sub.mk; decide +kernel
    | with_reducible apply Only.step (Dev.setHalls_only ..)

theorem Dev.coreLeaves_only (d : Dev) (c : Nat) : Only foot164 d (Dev.coreLeaves d c) := by
  unfold Dev.coreLeaves
  repeat' first
    | with_reducible exact Only.refl
    | with_reducible apply Foot.Sub.mk; decide +kernel
    | with_reducible apply Only.step (Dev.resetCore_only ..)
    | with_reducible apply Only.step (Dev.setHart_only ..)

theorem Dev.closeBinding_only (d : Dev) (b : Nat) : Only foot106 d (Dev.closeBinding d b) := by
  unfold Dev.closeBinding
  repeat' first
    | with_reducible exact Only.refl
    | with_reducible apply Foot.Sub.mk; decide +kernel
    | with_reducible apply Only.step (Dev.closeSessions_only ..)

theorem Dev.instancesReturn_only (d : Dev) (h : Nat) : Only foot223 d (Dev.instancesReturn d h) := by
  unfold Dev.instancesReturn
  repeat' first
    | with_reducible exact Only.refl
    | with_reducible apply Foot.Sub.mk; decide +kernel
    | with_reducible apply Only.foldl
    | with_reducible apply Only.put (has_Bctx_ENABLE ..)
    | with_reducible apply Only.put (has_Bctx_HALL ..)
    | with_reducible apply Only.put (has_Bctx_STATE ..)
    | with_reducible apply Only.put (has_Bind_ENABLE ..)
    | with_reducible apply Only.put (has_Bind_HALL ..)
    | with_reducible apply Only.putOct (has_Bu_ENDPOINTS ..)
    | with_reducible apply Only.putOct (has_CanObj_OBJ_TABLE ..)
    | with_reducible apply Only.putOct (has_CanObj_TXB_HALL ..)
    | with_reducible apply Only.put (has_Dma_ENABLE ..)
    | with_reducible apply Only.put (has_Dma_HALL ..)
    | with_reducible apply Only.put (has_Dma_STATE ..)
    | with_reducible apply Only.put (has_Qp_ENABLE ..)
    | with_reducible apply Only.put (has_Qp_HALL ..)
    | with_reducible apply Only.put (has_Qp_STATE ..)
    | with_reducible apply Only.step (Dev.bctxApplied_only ..)
    | with_reducible apply Only.step (Dev.bumpEpoch_only ..)
    | with_reducible apply Only.step (Dev.canObjApplied_only ..)
    | with_reducible apply Only.step (Dev.closeBinding_only ..)
    | with_reducible intro _

theorem Dev.trimFrom_only (d : Dev) (h : Nat) (s : Nat) : Only foot181 d (Dev.trimFrom d h s) := by
  unfold Dev.trimFrom
  repeat' first
    | with_reducible exact Only.refl
    | with_reducible apply Foot.Sub.mk; decide +kernel
    | with_reducible apply Only.step (Dev.setSto_only ..)

theorem Dev.hallGone_only (d : Dev) (h : Nat) : Only foot224 d (Dev.hallGone d h) := by
  unfold Dev.hallGone
  repeat' first
    | with_reducible exact Only.refl
    | with_reducible apply Foot.Sub.mk; decide +kernel
    | with_reducible apply Only.foldl
    | with_reducible apply Only.put (has_Hall_CCORES ..)
    | with_reducible apply Only.putOct (has_Iommu_WINDOWS ..)
    | with_reducible apply Only.step (Dev.bumpEpoch_only ..)
    | with_reducible apply Only.step (Dev.coreLeaves_only ..)
    | with_reducible apply Only.step (Dev.instancesReturn_only ..)
    | with_reducible apply Only.step (Dev.setHall_only ..)
    | with_reducible apply Only.step (Dev.trimFrom_only ..)
    | with_reducible intro _

theorem Dev.dmaReset_only (d : Dev) (c : Nat) : Only foot225 d (Dev.dmaReset d c) := by
  unfold Dev.dmaReset
  repeat' first
    | with_reducible exact Only.refl
    | with_reducible apply Foot.Sub.mk; decide +kernel
    | with_reducible apply Only.step (Dev.bumpEpoch_only ..)
    | with_reducible apply Only.step (Dev.leftBehind_only ..)
    | with_reducible apply Only.step (Dev.resetPage_only ..)
    | with_reducible apply Only.step (Dev.setDma_only ..)

theorem Dev.qpReset_only (d : Dev) (q : Nat) : Only foot226 d (Dev.qpReset d q) := by
  unfold Dev.qpReset
  repeat' first
    | with_reducible exact Only.refl
    | with_reducible apply Foot.Sub.mk; decide +kernel
    | with_reducible apply Only.put (has_Qp_ENABLE ..)
    | with_reducible apply Only.put (has_Qp_STATE ..)
    | with_reducible apply Only.step (Dev.bumpEpoch_only ..)
    | with_reducible apply Only.step (Dev.resetPage_only ..)

theorem Dev.lockExpires_only (d : Dev) (n : Nat) (k : Nat) : Only foot227 d (Dev.lockExpires d n k) := by
  unfold Dev.lockExpires
  repeat' first
    | with_reducible exact Only.refl
    | with_reducible apply Foot.Sub.mk; decide +kernel
    | with_reducible apply Only.count (has_canCounter_7 ..)
    | with_reducible apply Only.step (Dev.canIrq_only ..)
    | with_reducible apply Only.step (Dev.event_only ..)
    | with_reducible apply Only.limited
    | with_reducible apply Only.step (Dev.release_only ..)
    | with_reducible apply Only.step (Dev.setCan_only ..)
    | with_reducible intro _
    | dsimp only
    | split

theorem Dev.lockExpired_only (d : Dev) (n : Nat) (k : Nat) : Only foot228 d (Dev.lockExpired d n k) := by
  unfold Dev.lockExpired
  repeat' first
    | with_reducible exact Only.refl
    | with_reducible apply Foot.Sub.mk; decide +kernel
    | with_reducible apply Only.step (Dev.lockExpires_only ..)
    | with_reducible apply Only.step (Dev.shadowMoved_only ..)

theorem Dev.txbReset_only (d : Dev) (n : Nat) (k : Nat) : Only foot48 d (Dev.txbReset d n k) := by
  unfold Dev.txbReset
  repeat' first
    | with_reducible exact Only.refl
    | with_reducible apply Foot.Sub.mk; decide +kernel
    | with_reducible apply Only.ite
    | with_reducible apply Only.step (Dev.txbDone_only ..)

theorem Dev.mailboxReset_only (d : Dev) (h : Nat) : Only foot229 d (Dev.mailboxReset d h) := by
  unfold Dev.mailboxReset
  repeat' first
    | with_reducible exact Only.refl
    | with_reducible apply Foot.Sub.mk; decide +kernel
    | with_reducible apply Only.ite
    | with_reducible apply Only.step (Dev.resetPage_only ..)
    | with_reducible apply Only.step (Dev.setHalls_only ..)

theorem Dev.hallReset_only (d : Dev) (h : Nat) : Only foot230 d (Dev.hallReset d h) := by
  have h_logs : Part.In .logs foot230 := ⟨by decide +kernel⟩
  unfold Dev.hallReset
  repeat' first
    | with_reducible exact Only.refl
    | with_reducible apply Foot.Sub.mk; decide +kernel
    | with_reducible apply Only.foldl
    | with_reducible apply Only.count (has_hallCounter_1 ..)
    | with_reducible apply Only.step (Dev.bumpEpoch_only ..)
    | with_reducible apply Only.step (Dev.dmaReset_only ..)
    | with_reducible apply Only.step (Dev.hallEvent_only ..)
    | with_reducible apply Only.step (Dev.initiatorGone_only ..)
    | with_reducible apply Only.step (Dev.lockExpired_only ..)
    | with_reducible apply Only.step (Dev.mailboxReset_only ..)
    | with_reducible apply Only.step (Dev.qpReset_only ..)
    | with_reducible apply Only.step (Dev.resetCore_only ..)
    | with_reducible apply Only.step (Dev.resetPage_only ..)
    | with_reducible apply Only.step (Dev.setHalls_only ..)
    | with_reducible apply Only.step (Dev.stgReset_only ..)
    | with_reducible apply Only.step (Dev.txbReset_only ..)
    | with_reducible intro _
    | simp only [Only.set_logs_eq h_logs]

theorem Dev.migDiscard_only (d : Dev) (h : Nat) (s : Status) : Only foot231 d (Dev.migDiscard d h s) := by
  unfold Dev.migDiscard
  repeat' first
    | with_reducible exact Only.refl
    | with_reducible apply Foot.Sub.mk; decide +kernel
    | with_reducible apply Only.step (Dev.draw_only ..)
    | with_reducible apply Only.step (Dev.hallGone_only ..)
    | with_reducible apply Only.step (Dev.hallReset_only ..)
    | with_reducible apply Only.step (Dev.migDone_only ..)
    | with_reducible apply Only.step (Dev.migForget_only ..)

theorem Dev.migAbort_only (d : Dev) (h : Nat) : Only foot140 d (Dev.migAbort d h) := by
  unfold Dev.migAbort
  repeat' first
    | with_reducible exact Only.refl
    | with_reducible apply Foot.Sub.mk; decide +kernel
    | with_reducible apply Only.ite
    | with_reducible apply Only.step (Dev.migEnd_only ..)

theorem hallDestroyOp_only (h : Nat) (d : Dev) : Only Foot.hallDestroy d (hallDestroyOp h d) := by
  unfold hallDestroyOp
  repeat' first
    | with_reducible exact Only.refl
    | with_reducible apply Foot.Sub.mk; decide +kernel
    | with_reducible apply Only.ite
    | with_reducible apply Only.hallCmd
    | with_reducible apply Only.step (Dev.hallDone_only ..)
    | with_reducible apply Only.step (Dev.hallGone_only ..)
    | with_reducible apply Only.step (Dev.hallReset_only ..)
    | with_reducible apply Only.step (Dev.migAbort_only ..)
    | with_reducible apply Only.step (Dev.migDiscard_only ..)
    | with_reducible intro _

theorem hallResetOp_only (h : Nat) (d : Dev) : Only Foot.hallReset d (hallResetOp h d) := by
  unfold hallResetOp
  repeat' first
    | with_reducible exact Only.refl
    | with_reducible apply Foot.Sub.mk; decide +kernel
    | with_reducible apply Only.ite
    | with_reducible apply Only.hallCmd
    | with_reducible apply Only.step (Dev.hallDone_only ..)
    | with_reducible apply Only.step (Dev.hallReset_only ..)
    | with_reducible apply Only.step (Dev.migAbort_only ..)
    | with_reducible apply Only.step (Dev.setHall_only ..)
    | with_reducible intro _

theorem hallFreezeOp_only (h : Nat) (d : Dev) : Only Foot.hallFreeze d (hallFreezeOp h d) := by
  unfold hallFreezeOp
  repeat' first
    | with_reducible exact Only.refl
    | with_reducible apply Foot.Sub.mk; decide +kernel
    | with_reducible apply Only.ite
    | with_reducible apply Only.step (Dev.coresHalt_only ..)
    | with_reducible apply Only.hallCmd
    | with_reducible apply Only.step (Dev.hallDone_only ..)
    | with_reducible apply Only.step (Dev.setHall_only ..)
    | with_reducible apply Only.step (Dev.setHalls_only ..)
    | with_reducible intro _

theorem Dev.migArrived_only (d : Dev) (h : Nat) : Only foot232 d (Dev.migArrived d h) := by
  unfold Dev.migArrived
  repeat' first
    | with_reducible exact Only.refl
    | with_reducible apply Foot.Sub.mk; decide +kernel
    | with_reducible apply Only.count (has_hallCounter_2 ..)
    | with_reducible apply Only.step (Dev.draw_only ..)
    | with_reducible apply Only.step (Dev.hallThaw_only ..)
    | with_reducible apply Only.step (Dev.migDone_only ..)
    | with_reducible apply Only.step (Dev.migForget_only ..)

theorem hallThawOp_only (h : Nat) (d : Dev) : Only Foot.hallThaw d (hallThawOp h d) := by
  unfold hallThawOp
  repeat' first
    | with_reducible exact Only.refl
    | with_reducible apply Foot.Sub.mk; decide +kernel
    | with_reducible apply Only.ite
    | with_reducible apply Only.hallCmd
    | with_reducible apply Only.step (Dev.hallDone_only ..)
    | with_reducible apply Only.step (Dev.hallThaw_only ..)
    | with_reducible apply Only.step (Dev.migArrived_only ..)
    | with_reducible intro _

theorem Dev.coreImage_only (d : Dev) (c : Nat) : Only foot28 d (Dev.coreImage d c).2 := by
  unfold Dev.coreImage
  repeat' first
    | with_reducible exact Only.refl
    | with_reducible apply Foot.Sub.mk; decide +kernel
    | with_reducible apply Only.foldl2
    | with_reducible apply Only.step (Dev.draw_only ..)
    | with_reducible intro _
    | dsimp only
    | split

theorem Dev.hallSections_only (d : Dev) (h : Nat) : Only foot28 d (Dev.hallSections d h).2 := by
  unfold Dev.hallSections
  repeat' first
    | with_reducible exact Only.refl
    | with_reducible apply Foot.Sub.mk; decide +kernel
    | with_reducible apply Only.foldl2
    | with_reducible apply Only.step (Dev.coreImage_only ..)
    | with_reducible intro _

theorem Dev.hallRecord_only (d : Dev) (h : Nat) : Only foot28 d (Dev.hallRecord d h).2 := by
  unfold Dev.hallRecord
  repeat' first
    | with_reducible exact Only.refl
    | with_reducible apply Foot.Sub.mk; decide +kernel
    | with_reducible apply Only.step (Dev.hallSections_only ..)

theorem hallSaveOp_only (h : Nat) (d : Dev) : Only Foot.hallSave d (hallSaveOp h d) := by
  unfold hallSaveOp
  repeat' first
    | with_reducible exact Only.refl
    | with_reducible apply Foot.Sub.mk; decide +kernel
    | with_reducible apply Only.putOct (has_Hall_HALL_STATE ..)
    | with_reducible apply Only.hallCmd
    | with_reducible apply Only.step (Dev.hallDone_only ..)
    | with_reducible apply Only.step (Dev.hallRecord_only ..)
    | with_reducible intro _

theorem Dev.loadEntries_only (d : Dev) (idx : Nat) (x0 : List (DictRow × Nat)) (x02 : Bytes) : Only foot170 d (Dev.loadEntries d idx x0 x02).1 := by
  fun_induction Dev.loadEntries d idx x0 x02
  all_goals repeat' first
    | with_reducible exact Only.refl
    | with_reducible apply Part.In.mk; decide +kernel
    | with_reducible apply Only.ite
    | with_reducible refine Only.trans (by assumption) ?_
    | with_reducible apply Only.put_all
    | with_reducible apply Only.putOct_all

theorem Dev.loadPage_only (d : Dev) (base : Nat) (n : Nat) (b : Bytes) : Only foot39 d (Dev.loadPage d base n b) := by
  unfold Dev.loadPage
  repeat' first
    | with_reducible exact Only.refl
    | with_reducible apply Part.In.mk; decide +kernel
    | with_reducible apply Only.foldl
    | with_reducible apply Only.putWord_all
    | with_reducible intro _

theorem Dev.setEpoch_only (d : Dev) (u : EpochUnit) (e : Nat) : Only foot147 d (Dev.setEpoch d u e) := by
  have h_epochs : Part.In .epochs foot147 := ⟨by decide +kernel⟩
  unfold Dev.setEpoch
  repeat' first
    | with_reducible exact Only.refl
    | simp only [Only.set_epochs_eq h_epochs]

theorem Dev.loadObjects_only (d : Dev) (h : Nat) (n : Nat) (b : Bytes) : Only foot233 d (Dev.loadObjects d h n b) := by
  unfold Dev.loadObjects
  repeat' first
    | with_reducible exact Only.refl
    | with_reducible apply Foot.Sub.mk; decide +kernel
    | with_reducible apply Only.foldl
    | with_reducible apply Only.putOct (has_CanObj_OBJ_TABLE ..)
    | with_reducible apply Only.step (Dev.loadPage_only ..)
    | with_reducible apply Only.step (Dev.setEpoch_only ..)
    | with_reducible intro _

theorem Dev.loadSection_only (d : Dev) (h : Nat) (s : HSect) : Only foot234 d (Dev.loadSection d h s) := by
  have h_logs : Part.In .logs foot234 := ⟨by decide +kernel⟩
  unfold Dev.loadSection
  repeat' first
    | with_reducible exact Only.refl
    | with_reducible apply Foot.Sub.mk; decide +kernel
    | with_reducible apply Only.ite
    | with_reducible apply Only.put (has_Bctx_HALL ..)
    | with_reducible apply Only.put (has_Bind_HALL ..)
    | with_reducible apply Only.putOct (has_Bu_ENDPOINTS ..)
    | with_reducible apply Only.putOct (has_CanObj_TXB_HALL ..)
    | with_reducible apply Only.put (has_Dma_HALL ..)
    | with_reducible apply Only.putOct (has_Hall_GUEST_STATE ..)
    | with_reducible apply Only.putOct (has_Iommu_WINDOWS ..)
    | with_reducible apply Only.put (has_Qp_HALL ..)
    | with_reducible apply Only.step (Dev.closeBridge_only ..)
    | with_reducible apply Only.step (Dev.loadEntries_only ..)
    | with_reducible apply Only.step (Dev.loadObjects_only ..)
    | with_reducible apply Only.step (Dev.loadPage_only ..)
    | with_reducible apply Only.step (Dev.setCh_only ..)
    | with_reducible apply Only.step (Dev.setEpoch_only ..)
    | with_reducible apply Only.step (Dev.setHart_only ..)
    | with_reducible apply Only.step (Dev.writeMem_only ..)
    | simp only [Only.set_logs_eq h_logs]
    | split

theorem Dev.restoreRecord_only (d : Dev) (h : Nat) (b : Bytes) : Only foot234 d (Dev.restoreRecord d h b).2.2 := by
  unfold Dev.restoreRecord
  repeat' first
    | with_reducible exact Only.refl
    | with_reducible apply Foot.Sub.mk; decide +kernel
    | with_reducible apply Only.ite22
    | with_reducible apply Only.foldl
    | with_reducible apply Only.step (Dev.loadSection_only ..)
    | with_reducible apply Only.step (Dev.setEpoch_only ..)
    | with_reducible intro _
    | dsimp only
    | split

theorem hallRestoreOp_only (h : Nat) (d : Dev) : Only Foot.hallRestore d (hallRestoreOp h d) := by
  unfold hallRestoreOp
  repeat' first
    | with_reducible exact Only.refl
    | with_reducible apply Foot.Sub.mk; decide +kernel
    | with_reducible apply Only.ite
    | with_reducible apply Only.hallCmd
    | with_reducible apply Only.step (Dev.hallDone_only ..)
    | with_reducible apply Only.step (Dev.restoreRecord_only ..)
    | with_reducible apply Only.step (Dev.setHall_only ..)
    | with_reducible intro _
    | with_reducible refine Only.snd2 (by assumption) ?_
    | split

theorem hallMigrateOp_only (h : Nat) (rsp : Option Status) (d : Dev) : Only Foot.hallMigrate d (hallMigrateOp h rsp d) := by
  unfold hallMigrateOp
  repeat' first
    | with_reducible exact Only.refl
    | with_reducible apply Foot.Sub.mk; decide +kernel
    | with_reducible apply Only.ite
    | with_reducible apply Only.emit
    | with_reducible apply Only.hallCmd
    | with_reducible apply Only.step (Dev.hallDone_only ..)
    | with_reducible apply Only.step (Dev.migSend_only ..)
    | with_reducible apply Only.step (Dev.setHall_only ..)
    | with_reducible apply Only.step (Dev.setHalls_only ..)
    | with_reducible intro _
    | dsimp only
    | split

theorem hallGoOp_only (h : Nat) (d : Dev) : Only Foot.hallGo d (hallGoOp h d) := by
  unfold hallGoOp
  repeat' first
    | with_reducible exact Only.refl
    | with_reducible apply Foot.Sub.mk; decide +kernel
    | with_reducible apply Only.ite
    | with_reducible apply Only.step (Dev.coresHalt_only ..)
    | with_reducible apply Only.hallCmd
    | with_reducible apply Only.step (Dev.hallDone_only ..)
    | with_reducible apply Only.step (Dev.setHall_only ..)
    | with_reducible apply Only.step (Dev.setHalls_only ..)
    | with_reducible intro _
    | split

theorem hallCancelOp_only (h : Nat) (d : Dev) : Only Foot.hallCancel d (hallCancelOp h d) := by
  unfold hallCancelOp
  repeat' first
    | with_reducible exact Only.refl
    | with_reducible apply Foot.Sub.mk; decide +kernel
    | with_reducible apply Only.hallCmd
    | with_reducible apply Only.step (Dev.hallDone_only ..)
    | with_reducible apply Only.step (Dev.migEnd_only ..)
    | with_reducible intro _

theorem Dev.hallFault_only (d : Dev) (h : Nat) (cause : Nat) : Only foot235 d (Dev.hallFault d h cause) := by
  unfold Dev.hallFault
  repeat' first
    | with_reducible exact Only.refl
    | with_reducible apply Foot.Sub.mk; decide +kernel
    | with_reducible apply Only.ite
    | with_reducible apply Only.put (has_Hall_FAULT_CAUSE ..)
    | with_reducible apply Only.count (has_hallCounter_0 ..)
    | with_reducible apply Only.step (Dev.coresHalt_only ..)
    | with_reducible apply Only.step (Dev.hallDone_only ..)
    | with_reducible apply Only.step (Dev.hallEvent_only ..)
    | with_reducible apply Only.step (Dev.hallReset_only ..)
    | with_reducible apply Only.step (Dev.migAbort_only ..)
    | with_reducible apply Only.step (Dev.setHall_only ..)
    | with_reducible apply Only.step (Dev.setHalls_only ..)

theorem hallFaultCmdOp_only (h : Nat) (d : Dev) : Only Foot.hallFaultCmd d (hallFaultCmdOp h d) := by
  unfold hallFaultCmdOp
  repeat' first
    | with_reducible exact Only.refl
    | with_reducible apply Foot.Sub.mk; decide +kernel
    | with_reducible apply Only.hallCmd
    | with_reducible apply Only.step (Dev.hallDone_only ..)
    | with_reducible apply Only.step (Dev.hallFault_only ..)
    | with_reducible intro _

theorem hallCommand_only (h : Nat) (v : Nat) (env : WriteEnv) (d : Dev) : Only foot236 d (hallCommand h v env d) := by
  unfold hallCommand
  repeat' first
    | with_reducible exact Only.refl
    | with_reducible apply Foot.Sub.mk; decide +kernel
    | with_reducible apply Only.step (hallCancelOp_only ..)
    | with_reducible apply Only.step (hallCreateOp_only ..)
    | with_reducible apply Only.step (hallDestroyOp_only ..)
    | with_reducible apply Only.step (hallFaultCmdOp_only ..)
    | with_reducible apply Only.step (hallFreezeOp_only ..)
    | with_reducible apply Only.step (hallGoOp_only ..)
    | with_reducible apply Only.step (hallMigrateOp_only ..)
    | with_reducible apply Only.step (hallResetOp_only ..)
    | with_reducible apply Only.step (hallRestoreOp_only ..)
    | with_reducible apply Only.step (hallSaveOp_only ..)
    | with_reducible apply Only.step (hallThawOp_only ..)
    | split

theorem pairResetOp_only (p : Nat) (d : Dev) : Only Foot.pairReset d (pairResetOp p d) := by
  unfold pairResetOp
  repeat' first
    | with_reducible exact Only.refl
    | with_reducible apply Foot.Sub.mk; decide +kernel
    | with_reducible apply Only.ite
    | with_reducible apply Only.answer
    | with_reducible apply Only.put (has_Pair_STATE ..)
    | with_reducible apply Only.step (Dev.resetCore_only ..)

theorem systemWrite_only (i : Nat) (s : Nat) (v : Nat) (b : Bytes) (secure : Bool) (env : WriteEnv) (d : Dev) : OnlyO foot198 d (systemWrite i s v b secure env d) := by
  unfold systemWrite
  repeat' first
    | with_reducible apply OnlyO.ite
    | with_reducible exact OnlyO.none
    | with_reducible apply OnlyO.some
    | with_reducible exact Only.refl
    | with_reducible apply Foot.Sub.mk; decide +kernel
    | with_reducible apply Only.ite
    | with_reducible apply Only.put (has_Pace_PACE_MODE ..)
    | with_reducible apply Only.put (has_Sec_DBG_EN ..)
    | with_reducible apply Only.put (has_Slog_SWDT_PERIOD_MS ..)
    | with_reducible apply Only.setFld (has_Lsr_GATE ..)
    | with_reducible apply Only.setFld (has_Swd_PERIOD_MS ..)
    | with_reducible apply Only.step (Dev.debugChanged_only ..)
    | with_reducible apply Only.step (Dev.finish_only ..)
    | with_reducible apply Only.step (debugTokenOp_only ..)
    | with_reducible apply Only.step (gateOffOp_only ..)
    | with_reducible apply Only.step (gateOnOp_only ..)
    | with_reducible apply Only.step (hallCommand_only ..)
    | with_reducible apply Only.step (keyClearOp_only ..)
    | with_reducible apply Only.step (keyRevokeOp_only ..)
    | with_reducible apply Only.step (lcAdvanceOp_only ..)
    | with_reducible apply Only.step (leaseReleaseOp_only ..)
    | with_reducible apply Only.step (leaseTakeOp_only ..)
    | with_reducible apply Only.step (pairResetOp_only ..)
    | with_reducible apply Only.step (returnTokenOp_only ..)
    | with_reducible apply Only.step (rollbackSetOp_only ..)
    | with_reducible apply Only.step (unitResetOp_only ..)
    | with_reducible apply Only.step (warmResetOp_only ..)
    | with_reducible apply Only.step (watermarkWriteOp_only ..)
    | dsimp only
    | split

theorem queueFlushOp_only (p : Nat) (c : Nat) (d : Dev) : Only Foot.queueFlush d (queueFlushOp p c d) := by
  unfold queueFlushOp
  repeat' first
    | with_reducible exact Only.refl
    | with_reducible apply Foot.Sub.mk; decide +kernel
    | with_reducible apply Only.step (Dev.clearQueue_only ..)
    | with_reducible apply Only.step (Dev.setSw_only ..)

theorem fdbFlushOp_only (v : Nat) (d : Dev) : Only Foot.fdbFlush d (fdbFlushOp v d) := by
  unfold fdbFlushOp
  repeat' first
    | with_reducible exact Only.refl
    | with_reducible apply Foot.Sub.mk; decide +kernel
    | with_reducible apply Only.step (Dev.forget_only ..)

theorem Dev.setStream_only (d : Dev) (s : Nat) (f : StreamSt → StreamSt) : Only foot14 d (Dev.setStream d s f) := by
  unfold Dev.setStream
  repeat' first
    | with_reducible exact Only.refl
    | with_reducible apply Foot.Sub.mk; decide +kernel
    | with_reducible apply Only.step (Dev.setSw_only ..)

theorem streamClearOp_only (s : Nat) (d : Dev) : Only Foot.streamClear d (streamClearOp s d) := by
  unfold streamClearOp
  repeat' first
    | with_reducible exact Only.refl
    | with_reducible apply Foot.Sub.mk; decide +kernel
    | with_reducible apply Only.ite
    | with_reducible apply Only.step (Dev.setStream_only ..)
    | with_reducible apply Only.step (Dev.setSw_only ..)

theorem streamUnblockOp_only (s : Nat) (d : Dev) : Only Foot.streamUnblock d (streamUnblockOp s d) := by
  unfold streamUnblockOp
  repeat' first
    | with_reducible exact Only.refl
    | with_reducible apply Foot.Sub.mk; decide +kernel
    | with_reducible apply Only.ite
    | with_reducible apply Only.step (Dev.setStream_only ..)
    | with_reducible apply Only.step (Dev.setSw_only ..)

theorem Dev.moveTime_only (d : Dev) (s : Int) : Only foot237 d (Dev.moveTime d s) := by
  unfold Dev.moveTime
  repeat' first
    | with_reducible exact Only.refl
    | with_reducible apply Foot.Sub.mk; decide +kernel
    | with_reducible apply Only.countCtr (has_Time_STEPS ..) (has_Time_COUNTER_SAT ..)
    | with_reducible apply Only.step (Dev.eventSys_only ..)
    | with_reducible apply Only.step (Dev.setTime_only ..)

theorem Dev.twinDone_only (d : Dev) (s : Status) : Only foot238 d (Dev.twinDone d s) := by
  unfold Dev.twinDone
  repeat' first
    | with_reducible exact Only.refl
    | with_reducible apply Foot.Sub.mk; decide +kernel
    | with_reducible apply Only.put (has_Tws_CMD_STATUS ..)
    | with_reducible apply Only.step (Dev.finish_only ..)

theorem Dev.handEnd_only (d : Dev) (s : Status) : Only foot238 d (Dev.handEnd d s) := by
  unfold Dev.handEnd
  repeat' first
    | with_reducible exact Only.refl
    | with_reducible apply Foot.Sub.mk; decide +kernel
    | with_reducible apply Only.ite
    | with_reducible apply Only.step (Dev.setTwin_only ..)
    | with_reducible apply Only.step (Dev.twinDone_only ..)
    | dsimp only
    | split

theorem Dev.leavePair_only (d : Dev) : Only foot239 d (Dev.leavePair d) := by
  unfold Dev.leavePair
  repeat' first
    | with_reducible exact Only.refl
    | with_reducible apply Foot.Sub.mk; decide +kernel
    | with_reducible apply Only.ite
    | with_reducible apply Only.step (Dev.detach_only ..)
    | with_reducible apply Only.step (Dev.handEnd_only ..)
    | with_reducible apply Only.step (Dev.twinDone_only ..)

theorem Dev.standbyInstant_only (d : Dev) (t : Nat) (at_ : Nat) : Only foot240 d (Dev.standbyInstant d t at_) := by
  unfold Dev.standbyInstant
  repeat' first
    | with_reducible exact Only.refl
    | with_reducible apply Foot.Sub.mk; decide +kernel
    | with_reducible apply Only.ite
    | with_reducible apply Only.count (has_twinCounter_6 ..)
    | with_reducible apply Only.step (Dev.leavePair_only ..)
    | with_reducible apply Only.step (Dev.setTwinRun_only ..)
    | dsimp only
    | split

theorem Dev.sendSafe_only (d : Dev) (t : Nat) (time : Nat) : Only foot96 d (Dev.sendSafe d t time) := by
  unfold Dev.sendSafe
  repeat' first
    | with_reducible exact Only.refl
    | with_reducible apply Foot.Sub.mk; decide +kernel
    | with_reducible apply Only.ite
    | with_reducible apply Only.foldl
    | with_reducible apply Only.step (Dev.stationSend_only ..)
    | with_reducible intro _

theorem Dev.overrun_only (d : Dev) (busy : List Nat) : Only foot117 d (Dev.overrun d busy) := by
  unfold Dev.overrun
  repeat' first
    | with_reducible exact Only.refl
    | with_reducible apply Foot.Sub.mk; decide +kernel
    | with_reducible apply Only.ite
    | with_reducible apply Only.foldl
    | with_reducible apply Only.step (Dev.eventRing_only ..)
    | with_reducible apply Only.scanFault
    | with_reducible apply Only.step (Dev.seEvent_only ..)
    | with_reducible intro _
    | dsimp only
    | split

theorem Dev.cyclicSnapshot_only (d : Dev) (t : Nat) (startNs : Nat) : Only foot32 d (Dev.cyclicSnapshot d t startNs) := by
  unfold Dev.cyclicSnapshot
  repeat' first
    | with_reducible exact Only.refl
    | with_reducible apply Foot.Sub.mk; decide +kernel
    | with_reducible apply Only.foldl
    | with_reducible apply Only.step (Dev.eventTrigger_only ..)
    | with_reducible apply Only.step (Dev.snapshot_only ..)
    | with_reducible intro _

theorem Dev.taskInstant_only (d : Dev) (t : Nat) (at_ : Nat) (missed : Nat) : Only foot241 d (Dev.taskInstant d t at_ missed) := by
  unfold Dev.taskInstant
  repeat' first
    | with_reducible exact Only.refl
    | with_reducible apply Foot.Sub.mk; decide +kernel
    | with_reducible apply Only.ite
    | with_reducible apply Only.count (has_taskCounter_2 ..)
    | with_reducible apply Only.step (Dev.cyclicSnapshot_only ..)
    | with_reducible apply Only.limited
    | with_reducible apply Only.step (Dev.overrun_only ..)
    | with_reducible apply Only.step (Dev.seEvent_only ..)
    | with_reducible apply Only.step (Dev.sendSafe_only ..)
    | with_reducible apply Only.step (Dev.setRun_only ..)
    | with_reducible intro _
    | dsimp only
    | split

theorem Dev.pwmRestart_only (d : Dev) (n : Nat) : Only foot100 d (Dev.pwmRestart d n) := by
  unfold Dev.pwmRestart
  repeat' first
    | with_reducible exact Only.refl
    | with_reducible apply Foot.Sub.mk; decide +kernel
    | with_reducible apply Only.ite
    | with_reducible apply Only.step (Dev.setLoadCh_only ..)
    | with_reducible apply Only.step (Dev.windowGoesOn_only ..)

theorem Dev.refSend_only (d : Dev) (n : Nat) (cycle : Nat) (period : Nat) (standby : Bool) : Only foot242 d (Dev.refSend d n cycle period standby) := by
  unfold Dev.refSend
  repeat' first
    | with_reducible exact Only.refl
    | with_reducible apply Foot.Sub.mk; decide +kernel
    | with_reducible apply Only.ite
    | with_reducible apply Only.count (has_canCounter_8 ..)
    | with_reducible apply Only.count (has_canCounter_9 ..)
    | with_reducible apply Only.step (Dev.event_only ..)
    | with_reducible apply Only.limited
    | with_reducible apply Only.step (Dev.setCan_only ..)
    | with_reducible intro _

theorem Dev.pinOut_only (d : Dev) (n : Nat) (pulse : Bool) : Only foot16 d (Dev.pinOut d n pulse) := by
  unfold Dev.pinOut
  repeat' first
    | with_reducible exact Only.refl
    | with_reducible apply Only.emit

theorem Dev.startPulse_only (d : Dev) (n : Nat) : Only foot17 d (Dev.startPulse d n) := by
  unfold Dev.startPulse
  repeat' first
    | with_reducible exact Only.refl
    | with_reducible apply Foot.Sub.mk; decide +kernel
    | with_reducible apply Only.ite
    | with_reducible apply Only.step (Dev.pinOut_only ..)
    | with_reducible apply Only.step (Dev.setTime_only ..)

theorem Dev.trigTarget_only (d : Dev) (u : Nat) (at_ : Nat) (missed : Nat) (period : Nat) : Only foot243 d (Dev.trigTarget d u at_ missed period) := by
  unfold Dev.trigTarget
  repeat' first
    | with_reducible exact Only.refl
    | with_reducible apply Foot.Sub.mk; decide +kernel
    | with_reducible apply Only.ite
    | with_reducible apply Only.step (Dev.pwmRestart_only ..)
    | with_reducible apply Only.step (Dev.refSend_only ..)
    | with_reducible apply Only.step (Dev.standbyInstant_only ..)
    | with_reducible apply Only.step (Dev.startPulse_only ..)
    | with_reducible apply Only.step (Dev.startSeq_only ..)
    | with_reducible apply Only.step (Dev.taskInstant_only ..)
    | dsimp only
    | split

theorem Dev.unitEvent_only (d : Dev) (u : Nat) (at_ : Nat) : Only foot32 d (Dev.unitEvent d u at_) := by
  unfold Dev.unitEvent
  repeat' first
    | with_reducible exact Only.refl
    | with_reducible apply Foot.Sub.mk; decide +kernel
    | with_reducible apply Only.foldl
    | with_reducible apply Only.step (Dev.eventTrigger_only ..)
    | with_reducible intro _

theorem Dev.fireUnit_only (d : Dev) (u : Nat) (step : Bool) : Only foot244 d (Dev.fireUnit d u step) := by
  unfold Dev.fireUnit
  repeat' first
    | with_reducible exact Only.refl
    | with_reducible apply Foot.Sub.mk; decide +kernel
    | with_reducible apply Only.ite
    | with_reducible apply Only.put (has_Trgu_ENABLE ..)
    | with_reducible apply Only.put (has_Trgu_NEXT_NS ..)
    | with_reducible apply Only.put (has_Trgu_START_NS ..)
    | with_reducible apply Only.count (has_trigUnitCounter_0 ..)
    | with_reducible apply Only.count (has_trigUnitCounter_1 ..)
    | with_reducible apply Only.step (Dev.event_only ..)
    | with_reducible apply Only.limited
    | with_reducible apply Only.step (Dev.raise_only ..)
    | with_reducible apply Only.step (Dev.setTime_only ..)
    | with_reducible apply Only.step (Dev.trigTarget_only ..)
    | with_reducible apply Only.step (Dev.unitEvent_only ..)
    | with_reducible intro _
    | dsimp only
    | split

theorem Dev.gclPromoted_only (d : Dev) (p : Nat) (m : GateList) : Only foot245 d (Dev.gclPromoted d p m) := by
  unfold Dev.gclPromoted
  repeat' first
    | with_reducible exact Only.refl
    | with_reducible apply Foot.Sub.mk; decide +kernel
    | with_reducible apply Only.step (Dev.event_only ..)
    | with_reducible apply Only.step (Dev.setSched_only ..)

theorem Dev.schedStepped_only (d : Dev) (p : Nat) : Only foot180 d (Dev.schedStepped d p) := by
  unfold Dev.schedStepped
  repeat' first
    | with_reducible exact Only.refl
    | with_reducible apply Foot.Sub.mk; decide +kernel
    | with_reducible apply Only.ite
    | with_reducible apply Only.step (Dev.gclPromoted_only ..)
    | with_reducible apply Only.step (Dev.setGates_only ..)
    | with_reducible apply Only.step (Dev.setSched_only ..)
    | dsimp only
    | split

theorem Dev.stepTime_only (d : Dev) (s : Int) : Only foot246 d (Dev.stepTime d s) := by
  unfold Dev.stepTime
  repeat' first
    | with_reducible exact Only.refl
    | with_reducible apply Foot.Sub.mk; decide +kernel
    | with_reducible apply Only.ite
    | with_reducible apply Only.foldl
    | with_reducible apply Only.step (Dev.fireUnit_only ..)
    | with_reducible apply Only.step (Dev.moveTime_only ..)
    | with_reducible apply Only.step (Dev.schedStepped_only ..)
    | with_reducible intro _

theorem setTimeOp_only (v : Nat) (d : Dev) : Only Foot.setTime d (setTimeOp v d) := by
  unfold setTimeOp
  repeat' first
    | with_reducible exact Only.refl
    | with_reducible apply Foot.Sub.mk; decide +kernel
    | with_reducible apply Only.ite
    | with_reducible apply Only.answer
    | with_reducible apply Only.step (Dev.stepTime_only ..)

theorem powerReqCancelOp_only (d : Dev) : Only Foot.powerReqCancel d (powerReqCancelOp d) := by
  unfold powerReqCancelOp
  repeat' first
    | with_reducible exact Only.refl
    | with_reducible apply Foot.Sub.mk; decide +kernel
    | with_reducible apply Only.ite
    | with_reducible apply Only.put (has_Slp_ENTRY ..)
    | with_reducible apply Only.put (has_Slp_POWER_REQ ..)
    | with_reducible apply Only.step (Dev.entryAborts_only ..)
    | with_reducible apply Only.step (Dev.finish_only ..)
    | with_reducible apply Only.step (Dev.refreshEntry_only ..)

theorem powerReq_only (v : Nat) (d : Dev) : Only foot247 d (powerReq v d) := by
  unfold powerReq
  repeat' first
    | with_reducible exact Only.refl
    | with_reducible apply Foot.Sub.mk; decide +kernel
    | with_reducible apply Only.ite
    | with_reducible apply Only.put (has_Slp_ENTRY ..)
    | with_reducible apply Only.put (has_Slp_POWER_REQ ..)
    | with_reducible apply Only.step (Dev.finish_only ..)

theorem Dev.stoLost_only (d : Dev) : Only foot248 d (Dev.stoLost d) := by
  unfold Dev.stoLost
  repeat' first
    | with_reducible exact Only.refl
    | with_reducible apply Foot.Sub.mk; decide +kernel
    | with_reducible apply Only.ite2
    | with_reducible apply Only.foldl2
    | with_reducible apply Only.step (Dev.draw_only ..)
    | with_reducible apply Only.step (Dev.setSto_only ..)
    | with_reducible intro _

theorem Dev.cleared_only (d : Dev) (cold dram : Bool) : Only foot249 d (Dev.cleared d cold dram) := by
  refine ⟨fun p hn => ?_, fun k => ⟨?_, KV.sorted_keep k.dict, KV.sorted_keep k.blobs, rfl⟩⟩
  · cases p
    case board => rfl
    case upd => rfl
    case free => rfl
    all_goals exact absurd (by decide) hn
  · unfold Dev.cleared
    dsimp only
    split
    · exact KV.keep_wf k.mem
    · exact ⟨rfl, rfl⟩

theorem Dev.keptSat_only (d : Dev) : Only foot170 d (Dev.keptSat d) := by
  unfold Dev.keptSat
  repeat' first
    | with_reducible exact Only.refl
    | with_reducible apply Part.In.mk; decide +kernel
    | with_reducible apply Only.ite
    | with_reducible apply Only.foldl
    | with_reducible apply Only.putBit_all
    | with_reducible intro _
    | split

theorem Dev.afterReset_only (d : Dev) (cold : Bool) (dram : Bool) : Only foot250 d (Dev.afterReset d cold dram) := by
  unfold Dev.afterReset
  repeat' first
    | with_reducible exact Only.refl
    | with_reducible apply Foot.Sub.mk; decide +kernel
    | with_reducible apply Only.ite
    | with_reducible apply Only.putOct (has_Chg_CHANGE_RESULT ..)
    | with_reducible apply Only.putOct (has_Seimg_ACTIVE_IMAGE ..)
    | with_reducible apply Only.put (has_Upd_FAILED_STARTS ..)
    | with_reducible apply Only.step (Dev.cleared_only ..)
    | with_reducible apply Only.step (Dev.keptSat_only ..)
    | with_reducible apply Only.step (Dev.stagingEmpty_only ..)
    | with_reducible apply Only.step (Dev.stoLost_only ..)
    | split

theorem Dev.chipReset_only (d : Dev) (r : ResetCause) (dram : Bool) : Only foot250 d (Dev.chipReset d r dram) := by
  unfold Dev.chipReset
  repeat' first
    | with_reducible exact Only.refl
    | with_reducible apply Foot.Sub.mk; decide +kernel
    | with_reducible apply Only.ite
    | with_reducible apply Only.emit
    | with_reducible apply Only.put (has_Pwr_RESET_REASON ..)
    | with_reducible apply Only.count (has_powerCounter_2 ..)
    | with_reducible apply Only.countMk (has_Slog_SWDT_EXPIRIES ..) (has_Slog_COUNTER_SAT ..)
    | with_reducible apply Only.step (Dev.afterReset_only ..)
    | with_reducible apply Only.step (Dev.wakesFalse_only ..)

theorem Dev.bootCopy_only (d : Dev) (cut : Option Nat) : Only foot251 d (Dev.bootCopy d cut).2.2 := by
  unfold Dev.bootCopy
  repeat' first
    | with_reducible exact Only.refl
    | with_reducible apply Foot.Sub.mk; decide +kernel
    | with_reducible apply Only.ite
    | with_reducible apply Only.ite22
    | with_reducible apply Only.put (has_Upd_FAILED_STARTS ..)
    | with_reducible apply Only.put (has_Upd_LAST_RESULT ..)
    | with_reducible apply Only.count (has_updCounter_0 ..)
    | with_reducible apply Only.count (has_updCounter_1 ..)
    | with_reducible apply Only.step (Dev.setUpd_only ..)
    | with_reducible apply Only.step (Dev.stagingEmpty_only ..)
    | dsimp only
    | split

theorem Dev.bootStart_only (d : Dev) : Only foot252 d (Dev.bootStart d).2 := by
  unfold Dev.bootStart
  repeat' first
    | with_reducible exact Only.refl
    | with_reducible apply Foot.Sub.mk; decide +kernel
    | with_reducible apply Only.ite
    | with_reducible apply Only.ite2
    | with_reducible apply Only.put (has_Upd_ACTIVE_SEC_VERSION ..)
    | with_reducible apply Only.put (has_Upd_ACTIVE_VERSION ..)
    | with_reducible apply Only.put (has_Upd_FAILED_STARTS ..)
    | with_reducible apply Only.put (has_Upd_IMAGE_STATE ..)
    | with_reducible apply Only.put (has_Upd_LAST_RESULT ..)
    | with_reducible apply Only.put (has_Upd_SETTINGS_VERSION ..)
    | with_reducible apply Only.put (has_Upd_TWIN_COMPAT ..)
    | with_reducible apply Only.count (has_updCounter_2 ..)

theorem Dev.bootFailed_only (d : Dev) (f : BootFail) : Only foot253 d (Dev.bootFailed d f) := by
  unfold Dev.bootFailed
  repeat' first
    | with_reducible exact Only.refl
    | with_reducible apply Foot.Sub.mk; decide +kernel
    | with_reducible apply Only.ite
    | with_reducible apply Only.put (has_Upd_FAILED_STARTS ..)
    | with_reducible apply Only.count (has_powerCounter_2 ..)
    | with_reducible apply Only.countMk (has_Slog_SWDT_EXPIRIES ..) (has_Slog_COUNTER_SAT ..)
    | with_reducible apply Only.step (Dev.bootCopy_only ..)
    | with_reducible apply Only.step (Dev.bootStart_only ..)

theorem Dev.restoreStored_only (d : Dev) (cold : Bool) : Only foot171 d (Dev.restoreStored d cold) := by
  have h : Only foot171 d d.eraseMarked := (Dev.eraseMarked_only d).mono ⟨by decide +kernel⟩
  exact Only.set_dict (b := { d.eraseMarked with blobs := _ }) (KV.sorted_insertsIf (fun e => !cold && e.1 / 256 == 0x3C40) _)
    (Only.set_blobs (KV.sorted_inserts _) h ⟨by decide +kernel⟩) ⟨by decide +kernel⟩

theorem Dev.bootRom_only (d : Dev) : Only foot254 d (Dev.bootRom d).2 := by
  unfold Dev.bootRom
  repeat' first
    | with_reducible exact Only.refl
    | with_reducible apply Foot.Sub.mk; decide +kernel
    | with_reducible apply Only.step (Dev.bootCopy_only ..)
    | with_reducible apply Only.step (Dev.bootStart_only ..)

theorem Dev.dramStart_only (d : Dev) (env : BootEnv) : Only foot255 d (Dev.dramStart d env) := by
  unfold Dev.dramStart
  repeat' first
    | with_reducible exact Only.refl
    | with_reducible apply Foot.Sub.mk; decide +kernel
    | with_reducible apply Only.ite
    | with_reducible apply Only.put (has_Mem_DRAM_SIZE_MIB ..)
    | with_reducible apply Only.put (has_Mem_STW_MIB_ACTIVE ..)
    | with_reducible apply Only.put (has_Stw_STW_SIZE ..)
    | with_reducible apply Only.step (Dev.eventSys_only ..)

theorem Dev.strapsRead_only (d : Dev) (env : BootEnv) : Only foot256 d (Dev.strapsRead d env) := by
  unfold Dev.strapsRead
  repeat' first
    | with_reducible exact Only.refl
    | with_reducible apply Foot.Sub.mk; decide +kernel
    | with_reducible apply Only.put (has_Lc_SELEXT ..)
    | with_reducible apply Only.put (has_Mod_STRAPS ..)
    | with_reducible apply Only.put (has_Tws_POSITION ..)

theorem Dev.clocksStart_only (d : Dev) (env : BootEnv) : Only foot257 d (Dev.clocksStart d env) := by
  unfold Dev.clocksStart
  repeat' first
    | with_reducible exact Only.refl
    | with_reducible apply Foot.Sub.mk; decide +kernel
    | with_reducible apply Only.ite
    | with_reducible apply Only.foldl
    | with_reducible apply Only.emit
    | with_reducible apply Only.put (has_Clk_SRC_STATUS ..)
    | with_reducible apply Only.put (has_Pwr_VAUX_MV ..)
    | with_reducible apply Only.put (has_Pwr_VIO_STATUS ..)
    | with_reducible apply Only.step (Dev.domStarts_only ..)
    | with_reducible apply Only.step (Dev.setClk_only ..)
    | with_reducible apply Only.step (Dev.setDom_only ..)
    | with_reducible apply Only.step (Dev.setTime_only ..)
    | with_reducible apply Only.step (Dev.sscSet_only ..)
    | with_reducible intro _

theorem Dev.causeEvents_only (d : Dev) (r : ResetCause) : Only foot258 d (Dev.causeEvents d r) := by
  unfold Dev.causeEvents
  repeat' first
    | with_reducible exact Only.refl
    | with_reducible apply Foot.Sub.mk; decide +kernel
    | with_reducible apply Only.ite
    | with_reducible apply Only.step (Dev.eventBoth_only ..)
    | with_reducible apply Only.step (Dev.eventSys_only ..)

theorem Dev.keysRestored_only (d : Dev) : Only foot259 d (Dev.keysRestored d) := by
  unfold Dev.keysRestored
  repeat' first
    | with_reducible exact Only.refl
    | with_reducible apply Foot.Sub.mk; decide +kernel
    | with_reducible apply Only.ite
    | with_reducible apply Only.foldl
    | with_reducible apply Only.putOct (has_Key_KEY ..)
    | with_reducible apply Only.put (has_Key_LOADED ..)
    | with_reducible apply Only.put (has_Key_USAGE ..)
    | with_reducible intro _

theorem Dev.mezzStart_only (d : Dev) : Only foot260 d (Dev.mezzStart d) := by
  unfold Dev.mezzStart
  repeat' first
    | with_reducible exact Only.refl
    | with_reducible apply Foot.Sub.mk; decide +kernel
    | with_reducible apply Only.setFld (has_Swd_EN ..)
    | with_reducible apply Only.step (Dev.keysRestored_only ..)
    | with_reducible apply Only.step (Dev.newChallenge_only ..)
    | with_reducible apply Only.step (Dev.swdtRestart_only ..)
    | with_reducible apply Only.step (watermarkWriteOp_only ..)
    | simp only [Only.set_out_eq]

theorem Dev.recordDropped_only (d : Dev) (r : Nat) : Only foot261 d (Dev.recordDropped d r) := by
  have h : Only foot261 d (d.recordGone (r / 2 ^ 32) (r % 2 ^ 32)) := (Dev.recordGone_only ..).mono ⟨by decide +kernel⟩
  unfold Dev.recordDropped
  dsimp only
  split
  · exact (Dev.defaulted_only ..).step ⟨by decide +kernel⟩ ((Dev.setD0_only ..).step ⟨by decide +kernel⟩ h)
  · exact Only.set_blobs KV.sorted_erase h ⟨by decide +kernel⟩
  · exact (Dev.emptySlot_only ..).step ⟨by decide +kernel⟩ h
  · exact h

theorem Dev.migrateHalf_only (secure : Bool) (e : List (Nat × Nat)) (d : Dev) : Only foot261 d (Dev.migrateHalf secure e d).2 := by
  unfold Dev.migrateHalf
  repeat' first
    | with_reducible exact Only.refl
    | with_reducible apply Foot.Sub.mk; decide +kernel
    | with_reducible apply Only.ite2
    | with_reducible apply Only.foldl
    | with_reducible apply Only.step (Dev.recordDropped_only ..)
    | with_reducible apply Only.step (Dev.setUpd_only ..)
    | with_reducible intro _
    | dsimp only
    | split

theorem Dev.migrateSettings_only (d : Dev) : Only foot261 d (Dev.migrateSettings d).2 := by
  unfold Dev.migrateSettings
  repeat' first
    | with_reducible exact Only.refl
    | with_reducible apply Foot.Sub.mk; decide +kernel
    | with_reducible apply Only.step (Dev.migrateHalf_only ..)

theorem Dev.stoEvent_only (d : Dev) (code : Nat) (data : Nat) : Only foot91 d (Dev.stoEvent d code data) := by
  unfold Dev.stoEvent
  repeat' first
    | with_reducible exact Only.refl
    | with_reducible apply Foot.Sub.mk; decide +kernel
    | with_reducible apply Only.ite
    | with_reducible apply Only.step (Dev.eventRing_only ..)
    | with_reducible apply Only.step (Dev.eventSys_only ..)

theorem storageMountOp_only (ms : Nat) (unclean : Bool) (d : Dev) : Only Foot.storageMount d (storageMountOp ms unclean d) := by
  unfold storageMountOp
  repeat' first
    | with_reducible exact Only.refl
    | with_reducible apply Foot.Sub.mk; decide +kernel
    | with_reducible apply Only.ite
    | with_reducible apply Only.count (has_stoCounter_6 ..)
    | with_reducible apply Only.step (Dev.setSto_only ..)
    | with_reducible apply Only.step (Dev.stoEvent_only ..)

theorem Dev.logTo_only (d : Dev) (k : SinkId) (e : Ev) : Only foot262 d (Dev.logTo d k e) := by
  unfold Dev.logTo
  repeat' first
    | with_reducible exact Only.refl
    | with_reducible apply Foot.Sub.mk; decide +kernel
    | with_reducible apply Only.step (Dev.logDevice_only ..)
    | with_reducible apply Only.step (Dev.logRing_only ..)
    | with_reducible apply Only.step (Dev.logSecure_only ..)
    | split

theorem Dev.logsOpen_only (d : Dev) (r : ResetCause) (wake : Bool) (strap : Nat) (boot : List (Nat × Nat)) : Only foot263 d (Dev.logsOpen d r wake strap boot) := by
  have h_logs : Part.In .logs foot263 := ⟨by decide +kernel⟩
  unfold Dev.logsOpen
  repeat' first
    | with_reducible exact Only.refl
    | with_reducible apply Foot.Sub.mk; decide +kernel
    | with_reducible apply Only.ite
    | with_reducible apply Only.foldl
    | with_reducible apply Only.step (Dev.eventRing_only ..)
    | with_reducible apply Only.step (Dev.logDevice_only ..)
    | with_reducible apply Only.step (Dev.logTo_only ..)
    | with_reducible apply Only.step (Dev.sysIrq_only ..)
    | with_reducible intro _
    | simp only [Only.set_logs_eq h_logs]

theorem Dev.engineBoots_only (d : Dev) (env : BootEnv) : Only foot264 d (Dev.engineBoots d env) := by
  unfold Dev.engineBoots
  repeat' first
    | with_reducible exact Only.refl
    | with_reducible apply Foot.Sub.mk; decide +kernel
    | with_reducible apply Only.ite
    | with_reducible apply Only.put (has_Pwr_BOOT_MS ..)
    | with_reducible apply Only.step (Dev.loadImage_only ..)
    | with_reducible apply Only.step (Dev.sscEnds_only ..)
    | with_reducible apply Only.step (Dev.startEngine_only ..)

theorem Dev.setPtpState_only (d : Dev) (p : Nat) (st : Nat) : Only foot265 d (Dev.setPtpState d p st) := by
  unfold Dev.setPtpState
  repeat' first
    | with_reducible exact Only.refl
    | with_reducible apply Foot.Sub.mk; decide +kernel
    | with_reducible apply Only.ite
    | with_reducible apply Only.put (has_Ptime_PORT_STATE ..)
    | with_reducible apply Only.step (Dev.event_only ..)

theorem Dev.ptpRoles_only (d : Dev) : Only foot265 d (Dev.ptpRoles d) := by
  unfold Dev.ptpRoles
  repeat' first
    | with_reducible exact Only.refl
    | with_reducible apply Foot.Sub.mk; decide +kernel
    | with_reducible apply Only.ite
    | with_reducible apply Only.foldl
    | with_reducible apply Only.step (Dev.setPtpState_only ..)
    | with_reducible intro _

theorem Dev.settingsInForce_only (d : Dev) (cold : Bool) : Only foot266 d (Dev.settingsInForce d cold) := by
  unfold Dev.settingsInForce
  repeat' first
    | with_reducible exact Only.refl
    | with_reducible apply Foot.Sub.mk; decide +kernel
    | with_reducible apply Only.ite
    | with_reducible apply Only.foldl
    | with_reducible apply Only.put (has_Pair_STATE ..)
    | with_reducible apply Only.put (has_Wsrc_FILTER_CUR ..)
    | with_reducible apply Only.step (Dev.gclApplied_only ..)
    | with_reducible apply Only.step (Dev.hallsMibApplied_only ..)
    | with_reducible apply Only.step (Dev.partsApplied_only ..)
    | with_reducible apply Only.step (Dev.ptpRoles_only ..)
    | with_reducible apply Only.step (Dev.refillRetries_only ..)
    | with_reducible apply Only.step (Dev.sharedSizeSet_only ..)
    | with_reducible intro _

theorem Dev.unitsStart_only (d : Dev) (cold : Bool) : Only foot267 d (Dev.unitsStart d cold) := by
  unfold Dev.unitsStart
  repeat' first
    | with_reducible exact Only.refl
    | with_reducible apply Foot.Sub.mk; decide +kernel
    | with_reducible apply Only.ite
    | with_reducible apply Only.foldl
    | with_reducible apply Only.put (has_Tws_ROLE ..)
    | with_reducible apply Only.step (Dev.faultRefresh_only ..)
    | with_reducible apply Only.step (Dev.nodesStart_only ..)
    | with_reducible apply Only.step (Dev.setD0_only ..)
    | with_reducible apply Only.step (Dev.settingsInForce_only ..)
    | with_reducible apply Only.step (Dev.unitStarts_only ..)
    | with_reducible intro _

theorem Dev.startUp_only (d : Dev) (r : ResetCause) (wake : Bool) (env : BootEnv) : Only foot268 d (Dev.startUp d r wake env) := by
  have h_power : Part.In .power foot268 := ⟨by decide +kernel⟩
  unfold Dev.startUp
  repeat' first
    | with_reducible exact Only.refl
    | with_reducible apply Foot.Sub.mk; decide +kernel
    | with_reducible apply Only.ite
    | with_reducible apply Only.foldl
    | with_reducible apply Only.put (has_Evlog_BOOT_COUNT ..)
    | with_reducible apply Only.put (has_Pwr_RESET_REASON ..)
    | with_reducible apply Only.put (has_Upd_FAILED_STARTS ..)
    | with_reducible apply Only.step (Dev.bootFailed_only ..)
    | with_reducible apply Only.step (Dev.bootRom_only ..)
    | with_reducible apply Only.step (Dev.causeEvents_only ..)
    | with_reducible apply Only.step (Dev.clocksStart_only ..)
    | with_reducible apply Only.step (Dev.dramStart_only ..)
    | with_reducible apply Only.step (Dev.engineBoots_only ..)
    | with_reducible apply Only.step (Dev.event_only ..)
    | with_reducible apply Only.step (Dev.hallsAbsent_only ..)
    | with_reducible apply Only.step (Dev.hallsStart_only ..)
    | with_reducible apply Only.step (Dev.logsOpen_only ..)
    | with_reducible apply Only.step (Dev.mezzStart_only ..)
    | with_reducible apply Only.step (Dev.migrateSettings_only ..)
    | with_reducible apply Only.step (Dev.restoreStored_only ..)
    | with_reducible apply Only.step (Dev.strapsRead_only ..)
    | with_reducible apply Only.step (Dev.unitsStart_only ..)
    | with_reducible apply Only.step (storageMountOp_only ..)
    | with_reducible intro _
    | simp only [Only.set_power_eq h_power]

theorem Dev.vestibuleWake_only (d : Dev) (s : Nat) (fl : Nat) (watch : Nat) (env : WakeEnv) : Only foot269 d (Dev.vestibuleWake d s fl watch env) := by
  unfold Dev.vestibuleWake
  repeat' first
    | with_reducible exact Only.refl
    | with_reducible apply Foot.Sub.mk; decide +kernel
    | with_reducible apply Only.ite
    | with_reducible apply Only.foldl
    | with_reducible apply Only.putOct (has_Slp_WAKE_RECORD ..)
    | with_reducible apply Only.count (has_wakeCounter_0 ..)
    | with_reducible apply Only.step (Dev.chipReset_only ..)
    | with_reducible apply Only.step (Dev.setDomain_only ..)
    | with_reducible apply Only.step (Dev.setSleep_only ..)
    | with_reducible apply Only.step (Dev.startUp_only ..)
    | with_reducible apply Only.step (Dev.windowOpens_only ..)
    | with_reducible intro _
    | dsimp only
    | split

theorem Dev.woken_only (d : Dev) (s : Nat) (fl : Nat) (watch : Nat) (env : WakeEnv) : Only foot269 d (Dev.woken d s fl watch env) := by
  unfold Dev.woken
  repeat' first
    | with_reducible exact Only.refl
    | with_reducible apply Foot.Sub.mk; decide +kernel
    | with_reducible apply Only.ite
    | with_reducible apply Only.step (Dev.entryAborts_only ..)
    | with_reducible apply Only.step (Dev.vestibuleWake_only ..)

theorem wakeReqOp_only (env : WakeEnv) (d : Dev) : Only Foot.wakeReq d (wakeReqOp env d) := by
  unfold wakeReqOp
  repeat' first
    | with_reducible exact Only.refl
    | with_reducible apply Foot.Sub.mk; decide +kernel
    | with_reducible apply Only.step (Dev.finish_only ..)
    | with_reducible apply Only.step (Dev.woken_only ..)
    | split

theorem fwCountClearOp_only (s : Nat) (v : Nat) (d : Dev) : Only Foot.fwCountClear d (fwCountClearOp s v d) := by
  unfold fwCountClearOp
  repeat' first
    | with_reducible exact Only.refl
    | with_reducible apply Foot.Sub.mk; decide +kernel
    | with_reducible apply Only.ite
    | with_reducible apply Only.put (has_Wsrc_FW_COUNT ..)
    | with_reducible apply Only.step (Dev.finish_only ..)
    | with_reducible apply Only.step (Dev.sourceClean_only ..)

theorem networkWrite_only (i : Nat) (s : Nat) (v : Nat) (env : WriteEnv) (d : Dev) : OnlyO foot269 d (networkWrite i s v env d) := by
  unfold networkWrite
  repeat' first
    | with_reducible apply OnlyO.ite
    | with_reducible exact OnlyO.none
    | with_reducible apply OnlyO.some
    | with_reducible exact Only.refl
    | with_reducible apply Foot.Sub.mk; decide +kernel
    | with_reducible apply Only.ite
    | with_reducible apply Only.step (Dev.finish_only ..)
    | with_reducible apply Only.step (fdbFlushOp_only ..)
    | with_reducible apply Only.step (fwCountClearOp_only ..)
    | with_reducible apply Only.step (powerReq_only ..)
    | with_reducible apply Only.step (powerReqCancelOp_only ..)
    | with_reducible apply Only.step (queueFlushOp_only ..)
    | with_reducible apply Only.step (setTimeOp_only ..)
    | with_reducible apply Only.step (streamClearOp_only ..)
    | with_reducible apply Only.step (streamUnblockOp_only ..)
    | with_reducible apply Only.step (wakeReqOp_only ..)

theorem channelClearOp_only (n : Nat) (d : Dev) : Only Foot.channelClear d (channelClearOp n d) := by
  unfold channelClearOp
  repeat' first
    | with_reducible exact Only.refl
    | with_reducible apply Foot.Sub.mk; decide +kernel
    | with_reducible apply Only.step (Dev.clearLoad_only ..)
    | with_reducible apply Only.step (Dev.followOn_only ..)

theorem Dev.cmdRefused_only (d : Dev) : Only foot270 d (Dev.cmdRefused d) := by
  unfold Dev.cmdRefused
  repeat' first
    | with_reducible exact Only.refl
    | with_reducible apply Foot.Sub.mk; decide +kernel
    | with_reducible apply Only.answer
    | with_reducible apply Only.put (has_Se_CMD_STATUS ..)

theorem engineStartOp_only (d : Dev) : Only Foot.engineStart d (engineStartOp d) := by
  unfold engineStartOp
  repeat' first
    | with_reducible exact Only.refl
    | with_reducible apply Foot.Sub.mk; decide +kernel
    | with_reducible apply Only.ite
    | with_reducible apply Only.step (Dev.cmdDone_only ..)
    | with_reducible apply Only.step (Dev.cmdRefused_only ..)
    | with_reducible apply Only.step (Dev.startEngine_only ..)

theorem engineStopOp_only (d : Dev) : Only Foot.engineStop d (engineStopOp d) := by
  unfold engineStopOp
  repeat' first
    | with_reducible exact Only.refl
    | with_reducible apply Foot.Sub.mk; decide +kernel
    | with_reducible apply Only.ite
    | with_reducible apply Only.step (Dev.cmdRefused_only ..)
    | with_reducible apply Only.step (Dev.setEngine_only ..)
    | with_reducible apply Only.step (Dev.setScan_only ..)
    | with_reducible apply Only.step (Dev.stopIfIdle_only ..)

theorem engineAckFaultOp_only (d : Dev) : Only Foot.engineAckFault d (engineAckFaultOp d) := by
  unfold engineAckFaultOp
  repeat' first
    | with_reducible exact Only.refl
    | with_reducible apply Foot.Sub.mk; decide +kernel
    | with_reducible apply Only.ite
    | with_reducible apply Only.put (has_Se_FAULT_CAUSE ..)
    | with_reducible apply Only.step (Dev.cmdDone_only ..)
    | with_reducible apply Only.step (Dev.cmdRefused_only ..)
    | with_reducible apply Only.step (Dev.faultRefresh_only ..)
    | with_reducible apply Only.step (Dev.setEngine_only ..)
    | with_reducible apply Only.step (Dev.setTwin_only ..)

theorem engineLoadOp_only (d : Dev) : Only Foot.engineLoad d (engineLoadOp d) := by
  unfold engineLoadOp
  repeat' first
    | with_reducible exact Only.refl
    | with_reducible apply Foot.Sub.mk; decide +kernel
    | with_reducible apply Only.ite
    | with_reducible apply Only.step (Dev.cmdDone_only ..)
    | with_reducible apply Only.step (Dev.cmdRefused_only ..)
    | with_reducible apply Only.step (Dev.loadImage_only ..)
    | split

theorem evtFireOp_only (v : Nat) (d : Dev) : Only Foot.evtFire d (evtFireOp v d) := by
  unfold evtFireOp
  repeat' first
    | with_reducible exact Only.refl
    | with_reducible apply Foot.Sub.mk; decide +kernel
    | with_reducible apply Only.foldl
    | with_reducible apply Only.answer
    | with_reducible apply Only.step (Dev.eventTrigger_only ..)
    | with_reducible intro _

theorem Dev.prepareChange_only (d : Dev) (new : Bytes) (word : Nat) (twin : Bool) (st : Nat) : Only foot271 d (Dev.prepareChange d new word twin st) := by
  unfold Dev.prepareChange
  repeat' first
    | with_reducible exact Only.refl
    | with_reducible apply Foot.Sub.mk; decide +kernel
    | with_reducible apply Only.put (has_Chg_CHANGE_STATE ..)
    | with_reducible apply Only.putOct (has_Chg_MAP_TABLE ..)
    | with_reducible apply Only.step (Dev.loadBanks_only ..)
    | with_reducible apply Only.step (Dev.seEvent_only ..)
    | with_reducible apply Only.step (Dev.setEngine_only ..)
    | with_reducible apply Only.step (Dev.setScan_only ..)

theorem Dev.sendChange_only (d : Dev) (word : Nat) (img : Bytes) : Only foot30 d (Dev.sendChange d word img) := by
  unfold Dev.sendChange
  repeat' first
    | with_reducible exact Only.refl
    | with_reducible apply Foot.Sub.mk; decide +kernel
    | with_reducible apply Only.foldl
    | with_reducible apply Only.step (Dev.post_only ..)
    | with_reducible intro _

theorem changeStartOp_only (v : Nat) (d : Dev) : Only Foot.changeStart d (changeStartOp v d) := by
  unfold changeStartOp
  repeat' first
    | with_reducible exact Only.refl
    | with_reducible apply Foot.Sub.mk; decide +kernel
    | with_reducible apply Only.ite
    | with_reducible apply Only.answer
    | with_reducible apply Only.putOct (has_Chg_CHANGE_RESULT ..)
    | with_reducible apply Only.put (has_Chg_CHANGE_STATUS ..)
    | with_reducible apply Only.putOct (has_Chg_MAP_TABLE ..)
    | with_reducible apply Only.count (has_changeCounter_1 ..)
    | with_reducible apply Only.step (Dev.finish_only ..)
    | with_reducible apply Only.step (Dev.prepareChange_only ..)
    | with_reducible apply Only.step (Dev.sendChange_only ..)
    | dsimp only
    | split

theorem Dev.dropChange_only (d : Dev) (s : Status) : Only foot272 d (Dev.dropChange d s) := by
  unfold Dev.dropChange
  repeat' first
    | with_reducible exact Only.refl
    | with_reducible apply Foot.Sub.mk; decide +kernel
    | with_reducible apply Only.ite
    | with_reducible apply Only.step (Dev.changeEnd_only ..)
    | with_reducible apply Only.step (Dev.setEngine_only ..)

theorem changeCancelOp_only (d : Dev) : Only Foot.changeCancel d (changeCancelOp d) := by
  unfold changeCancelOp
  repeat' first
    | with_reducible exact Only.refl
    | with_reducible apply Foot.Sub.mk; decide +kernel
    | with_reducible apply Only.ite
    | with_reducible apply Only.answer
    | with_reducible apply Only.step (Dev.dropChange_only ..)

theorem Dev.forceSet_only (d : Dev) (b : Bytes) : Only Foot.forceSet d (Dev.forceSet d b).2 := by
  unfold Dev.forceSet
  repeat' first
    | with_reducible exact Only.refl
    | with_reducible apply Foot.Sub.mk; decide +kernel
    | with_reducible apply Only.ite2
    | with_reducible apply Only.step (Dev.forcesChanged_only ..)
    | with_reducible apply Only.step (Dev.seEvent_only ..)
    | with_reducible apply Only.step (Dev.setScan_only ..)
    | split

theorem Dev.forceRelease_only (d : Dev) (tag : Nat) : Only Foot.forceRelease d (Dev.forceRelease d tag).2 := by
  unfold Dev.forceRelease
  repeat' first
    | with_reducible exact Only.refl
    | with_reducible apply Foot.Sub.mk; decide +kernel
    | with_reducible apply Only.ite2
    | with_reducible apply Only.step (Dev.forcesChanged_only ..)
    | with_reducible apply Only.step (Dev.seEvent_only ..)
    | with_reducible apply Only.step (Dev.setScan_only ..)

theorem Dev.forceReleaseAll_only (d : Dev) : Only Foot.forceReleaseAll d (Dev.forceReleaseAll d).2 := by
  unfold Dev.forceReleaseAll
  repeat' first
    | with_reducible exact Only.refl
    | with_reducible apply Foot.Sub.mk; decide +kernel
    | with_reducible apply Only.ite
    | with_reducible apply Only.ite2
    | with_reducible apply Only.step (Dev.forcesChanged_only ..)
    | with_reducible apply Only.step (Dev.seEvent_only ..)
    | with_reducible apply Only.step (Dev.setScan_only ..)

theorem Dev.partitionErase_only (d : Dev) (h : Nat) : Only Foot.partitionErase d (Dev.partitionErase d h).2 := by
  unfold Dev.partitionErase
  repeat' first
    | with_reducible exact Only.refl
    | with_reducible apply Foot.Sub.mk; decide +kernel
    | with_reducible apply Only.ite2
    | with_reducible apply Only.step (Dev.trimFrom_only ..)

theorem stagingArmOp_only (d : Dev) : Only Foot.stagingArm d (stagingArmOp d) := by
  unfold stagingArmOp
  repeat' first
    | with_reducible exact Only.refl
    | with_reducible apply Foot.Sub.mk; decide +kernel
    | with_reducible apply Only.ite
    | with_reducible apply Only.put (has_Upd_STAGING_STATE ..)
    | with_reducible apply Only.step (Dev.finish_only ..)

theorem stagingDiscardOp_only (d : Dev) : Only Foot.stagingDiscard d (stagingDiscardOp d) := by
  unfold stagingDiscardOp
  repeat' first
    | with_reducible exact Only.refl
    | with_reducible apply Foot.Sub.mk; decide +kernel
    | with_reducible apply Only.step (Dev.finish_only ..)
    | with_reducible apply Only.step (Dev.setD0_only ..)
    | with_reducible apply Only.step (Dev.stagingEmpty_only ..)

theorem imageConfirmOp_only (d : Dev) : Only Foot.imageConfirm d (imageConfirmOp d) := by
  unfold imageConfirmOp
  repeat' first
    | with_reducible exact Only.refl
    | with_reducible apply Foot.Sub.mk; decide +kernel
    | with_reducible apply Only.ite
    | with_reducible apply Only.put (has_Upd_IMAGE_STATE ..)
    | with_reducible apply Only.step (Dev.event_only ..)
    | with_reducible apply Only.step (Dev.finish_only ..)
    | with_reducible apply Only.step (Dev.setRollback_only ..)
    | with_reducible apply Only.step (Dev.setUpd_only ..)
    | dsimp only
    | split

theorem retryActiveOp_only (d : Dev) : Only Foot.retryActive d (retryActiveOp d) := by
  unfold retryActiveOp
  repeat' first
    | with_reducible exact Only.refl
    | with_reducible apply Foot.Sub.mk; decide +kernel
    | with_reducible apply Only.ite
    | with_reducible apply Only.put (has_Upd_FAILED_STARTS ..)
    | with_reducible apply Only.step (Dev.finish_only ..)

theorem Dev.attachRequest_only (d : Dev) (byCmd : Bool) : Only foot273 d (Dev.attachRequest d byCmd) := by
  unfold Dev.attachRequest
  repeat' first
    | with_reducible exact Only.refl
    | with_reducible apply Foot.Sub.mk; decide +kernel
    | with_reducible apply Only.step (Dev.ctrl_only ..)
    | with_reducible apply Only.step (Dev.setRole_only ..)
    | with_reducible apply Only.step (Dev.setTwin_only ..)

theorem twinCmdAttachOp_only (d : Dev) : Only Foot.twinCmdAttach d (twinCmdAttachOp d) := by
  unfold twinCmdAttachOp
  repeat' first
    | with_reducible exact Only.refl
    | with_reducible apply Foot.Sub.mk; decide +kernel
    | with_reducible apply Only.ite
    | with_reducible apply Only.step (Dev.attachRequest_only ..)
    | with_reducible apply Only.step (Dev.twinDone_only ..)

theorem Dev.toSolo_only (d : Dev) : Only foot274 d (Dev.toSolo d) := by
  unfold Dev.toSolo
  repeat' first
    | with_reducible exact Only.refl
    | with_reducible apply Foot.Sub.mk; decide +kernel
    | with_reducible apply Only.step (Dev.handEnd_only ..)
    | with_reducible apply Only.step (Dev.setRole_only ..)

theorem twinCmdDetachOp_only (d : Dev) : Only Foot.twinCmdDetach d (twinCmdDetachOp d) := by
  unfold twinCmdDetachOp
  repeat' first
    | with_reducible exact Only.refl
    | with_reducible apply Foot.Sub.mk; decide +kernel
    | with_reducible apply Only.ite
    | with_reducible apply Only.step (Dev.ctrl_only ..)
    | with_reducible apply Only.step (Dev.draw_only ..)
    | with_reducible apply Only.step (Dev.leavePair_only ..)
    | with_reducible apply Only.step (Dev.setTwin_only ..)
    | with_reducible apply Only.step (Dev.toSolo_only ..)
    | with_reducible apply Only.step (Dev.twinDone_only ..)

theorem twinCmdHandoverOp_only (d : Dev) : Only Foot.twinCmdHandover d (twinCmdHandoverOp d) := by
  unfold twinCmdHandoverOp
  repeat' first
    | with_reducible exact Only.refl
    | with_reducible apply Foot.Sub.mk; decide +kernel
    | with_reducible apply Only.ite
    | with_reducible apply Only.step (Dev.handoverSeek_only ..)
    | with_reducible apply Only.step (Dev.setTwin_only ..)
    | with_reducible apply Only.step (Dev.twinDone_only ..)

theorem liveKickOp_only (d : Dev) : Only Foot.liveKick d (liveKickOp d) := by
  unfold liveKickOp
  repeat' first
    | with_reducible exact Only.refl
    | with_reducible apply Foot.Sub.mk; decide +kernel
    | with_reducible apply Only.answer
    | with_reducible apply Only.step (Dev.faultRefresh_only ..)
    | with_reducible apply Only.step (Dev.setTwin_only ..)

theorem plantWrite_only (i : Nat) (s : Nat) (v : Nat) (b : Bytes) (d : Dev) : OnlyO foot275 d (plantWrite i s v b d) := by
  unfold plantWrite
  repeat' first
    | with_reducible apply OnlyO.ite
    | with_reducible exact OnlyO.none
    | with_reducible apply OnlyO.some
    | with_reducible exact Only.refl
    | with_reducible apply Foot.Sub.mk; decide +kernel
    | with_reducible apply Only.ite
    | with_reducible apply Only.step (Dev.finish_only ..)
    | with_reducible apply Only.step (Dev.forceRelease_only ..)
    | with_reducible apply Only.step (Dev.forceReleaseAll_only ..)
    | with_reducible apply Only.step (Dev.forceSet_only ..)
    | with_reducible apply Only.step (Dev.loadCommand_only ..)
    | with_reducible apply Only.step (Dev.partitionErase_only ..)
    | with_reducible apply Only.step (changeCancelOp_only ..)
    | with_reducible apply Only.step (changeStartOp_only ..)
    | with_reducible apply Only.step (channelClearOp_only ..)
    | with_reducible apply Only.step (engineAckFaultOp_only ..)
    | with_reducible apply Only.step (engineLoadOp_only ..)
    | with_reducible apply Only.step (engineStartOp_only ..)
    | with_reducible apply Only.step (engineStopOp_only ..)
    | with_reducible apply Only.step (evtFireOp_only ..)
    | with_reducible apply Only.step (imageConfirmOp_only ..)
    | with_reducible apply Only.step (liveKickOp_only ..)
    | with_reducible apply Only.step (retryActiveOp_only ..)
    | with_reducible apply Only.step (stagingArmOp_only ..)
    | with_reducible apply Only.step (stagingDiscardOp_only ..)
    | with_reducible apply Only.step (twinCmdAttachOp_only ..)
    | with_reducible apply Only.step (twinCmdDetachOp_only ..)
    | with_reducible apply Only.step (twinCmdHandoverOp_only ..)
    | split

theorem Dev.clearCounter_only (d : Dev) (idx : Nat) (sub : Nat) (v : Nat) : Only foot170 d (Dev.clearCounter d idx sub v) := by
  unfold Dev.clearCounter
  repeat' first
    | with_reducible exact Only.refl
    | with_reducible apply Part.In.mk; decide +kernel
    | with_reducible apply Only.ite
    | with_reducible apply Only.put_all
    | with_reducible apply Only.putBit_all
    | dsimp only
    | split

theorem Dev.writeValue_only (d : Dev) (r : DictRow) (i : Nat) (s : Nat) (v : Nat) (b : Bytes) : Only foot170 d (Dev.writeValue d r i s v b) := by
  unfold Dev.writeValue
  repeat' first
    | with_reducible exact Only.refl
    | with_reducible apply Foot.Sub.mk; decide +kernel
    | with_reducible apply Part.In.mk; decide +kernel
    | with_reducible apply Only.ite
    | with_reducible apply Only.put_all
    | with_reducible apply Only.putOct_all
    | with_reducible apply Only.step (Dev.clearCounter_only ..)
    | dsimp only
    | split

theorem Dev.actWrite_only (d : Dev) (r : DictRow) (i : Nat) (s : Nat) (v : Nat) (b : Bytes) (secure : Bool) (env : WriteEnv) :
    Only foot269 d (Dev.actWrite d r i s v b secure env) := by
  unfold Dev.actWrite
  split
  · split
    · exact Only.step (unitEnableOp_only ..) ⟨by decide +kernel⟩ Only.refl
    · exact Only.step (unitDisableOp_only ..) ⟨by decide +kernel⟩ Only.refl
  · split
    · rename_i e
      split at e
      · exact Only.step ((systemWrite_only ..).keep _ e) ⟨by decide +kernel⟩ Only.refl
      · split at e
        · exact Only.step ((networkWrite_only ..).keep _ e) ⟨by decide +kernel⟩ Only.refl
        · exact Only.step ((plantWrite_only ..).keep _ e) ⟨by decide +kernel⟩ Only.refl
    · exact Only.step (Dev.finish_only ..) ⟨by decide +kernel⟩ (Only.step (Dev.writeValue_only ..) ⟨by decide +kernel⟩ Only.refl)

theorem Dev.setQuality_only (d : Dev) (q : Nat) : Only foot276 d (Dev.setQuality d q) := by
  unfold Dev.setQuality
  repeat' first
    | with_reducible exact Only.refl
    | with_reducible apply Foot.Sub.mk; decide +kernel
    | with_reducible apply Only.ite
    | with_reducible apply Only.step (Dev.eventSys_only ..)
    | with_reducible apply Only.step (Dev.setTime_only ..)

theorem Dev.takeAdjust_only (d : Dev) (a : Adjust) : Only foot246 d (Dev.takeAdjust d a) := by
  unfold Dev.takeAdjust
  repeat' first
    | with_reducible exact Only.refl
    | with_reducible apply Foot.Sub.mk; decide +kernel
    | with_reducible apply Only.step (Dev.setQuality_only ..)
    | with_reducible apply Only.step (Dev.setTime_only ..)
    | with_reducible apply Only.step (Dev.stepTime_only ..)
    | dsimp only
    | split

theorem Dev.adjustTick_only (d : Dev) (p : Adjust → Bool) : Only foot246 d (Dev.adjustTick d p) := by
  unfold Dev.adjustTick
  repeat' first
    | with_reducible exact Only.refl
    | with_reducible apply Foot.Sub.mk; decide +kernel
    | with_reducible apply Only.ite
    | with_reducible apply Only.step (Dev.takeAdjust_only ..)
    | split

theorem Dev.latchQueue_only (d : Dev) (p : Nat) (c : Nat) : Only foot277 d (Dev.latchQueue d p c) := by
  unfold Dev.latchQueue
  repeat' first
    | with_reducible exact Only.refl
    | with_reducible apply Foot.Sub.mk; decide +kernel
    | with_reducible apply Only.ite
    | with_reducible apply Only.step (Dev.event_only ..)
    | with_reducible apply Only.limited
    | with_reducible apply Only.step (Dev.setSw_only ..)
    | with_reducible intro _

theorem Dev.admitCopy_only (d : Dev) (k : Nat) (rx : Rx) (i : Nat) (n : Nat) (x : Dest) : Only foot278 d (Dev.admitCopy d k rx i n x).2 := by
  unfold Dev.admitCopy
  repeat' first
    | with_reducible exact Only.refl
    | with_reducible apply Foot.Sub.mk; decide +kernel
    | with_reducible apply Only.count (has_queueCounter_13 ..)
    | with_reducible apply Only.step (Dev.dropped_only ..)
    | with_reducible apply Only.step (Dev.enqueue_only ..)
    | with_reducible apply Only.step (Dev.latchQueue_only ..)
    | dsimp only
    | split

theorem Dev.admitAll_only (d : Dev) (k : Nat) (rx : Rx) (i : Nat) (n : Nat) (x0 : List Dest) : Only foot278 d (Dev.admitAll d k rx i n x0).2 := by
  fun_induction Dev.admitAll d k rx i n x0
  all_goals repeat' first
    | with_reducible exact Only.refl
    | with_reducible apply Foot.Sub.mk; decide +kernel
    | with_reducible refine Only.trans (by assumption) ?_
    | with_reducible apply Only.step (Dev.admitCopy_only ..)
    | with_reducible refine Only.snd (by assumption) ?_

theorem Dev.ainApplied_only (d : Dev) (old : Dev) (i : Nat) : Only foot119 d (Dev.ainApplied d old i) := by
  unfold Dev.ainApplied
  repeat' first
    | with_reducible exact Only.refl
    | with_reducible apply Foot.Sub.mk; decide +kernel
    | with_reducible apply Only.ite
    | with_reducible apply Only.step (Dev.setAdc_only ..)

theorem Dev.quotaLine_only (d : Dev) (h : Nat) : Only foot279 d (Dev.quotaLine d h) := by
  unfold Dev.quotaLine
  repeat' first
    | with_reducible exact Only.refl
    | with_reducible apply Foot.Sub.mk; decide +kernel
    | with_reducible apply Only.ite
    | with_reducible apply Only.setFldBit (has_Hpg_LINES_SET ..)

theorem Dev.allocLines_only (d : Dev) (old : Dev) (i : Nat) : Only foot279 d (Dev.allocLines d old i) := by
  unfold Dev.allocLines
  repeat' first
    | with_reducible exact Only.refl
    | with_reducible apply Foot.Sub.mk; decide +kernel
    | with_reducible apply Only.foldl
    | with_reducible apply Only.step (Dev.quotaLine_only ..)
    | with_reducible intro _

theorem Dev.answerReq_only (d : Dev) (o : Origin) (write : Bool) (s : Status) : Only foot109 d (Dev.answerReq d o write s) := by
  unfold Dev.answerReq
  repeat' first
    | with_reducible exact Only.refl
    | with_reducible apply Foot.Sub.mk; decide +kernel
    | with_reducible apply Only.step (Dev.respond_only ..)

theorem Dev.waitsFrom_only (d : Dev) (k : Nat) : Only foot56 d (Dev.waitsFrom d k) := by
  unfold Dev.waitsFrom
  repeat' first
    | with_reducible exact Only.refl
    | with_reducible apply Foot.Sub.mk; decide +kernel
    | with_reducible apply Only.ite
    | with_reducible apply Only.step (Dev.setClk_only ..)

theorem Dev.domLoses_only (d : Dev) (k : Nat) (s : Nat) : Only foot58 d (Dev.domLoses d k s) := by
  unfold Dev.domLoses
  repeat' first
    | with_reducible exact Only.refl
    | with_reducible apply Foot.Sub.mk; decide +kernel
    | with_reducible apply Only.ite
    | with_reducible apply Only.put (has_Dom_SOURCE ..)
    | with_reducible apply Only.step (Dev.islandsRun_only ..)
    | with_reducible apply Only.step (Dev.setDom_only ..)
    | with_reducible apply Only.step (Dev.waitsFrom_only ..)

theorem Dev.sourceGone_only (d : Dev) (s : Nat) : Only foot280 d (Dev.sourceGone d s) := by
  unfold Dev.sourceGone
  repeat' first
    | with_reducible exact Only.refl
    | with_reducible apply Foot.Sub.mk; decide +kernel
    | with_reducible apply Only.foldl
    | with_reducible apply Only.putBit (has_Clk_SRC_STATUS ..)
    | with_reducible apply Only.step (Dev.domLoses_only ..)
    | with_reducible apply Only.step (Dev.setClk_only ..)
    | with_reducible intro _

theorem Dev.clkApplied_only (d : Dev) : Only foot281 d (Dev.clkApplied d) := by
  unfold Dev.clkApplied
  repeat' first
    | with_reducible exact Only.refl
    | with_reducible apply Foot.Sub.mk; decide +kernel
    | with_reducible apply Only.ite
    | with_reducible apply Only.step (Dev.sourceGone_only ..)
    | with_reducible apply Only.step (Dev.sscSet_only ..)
    | dsimp only
    | split

theorem Dev.keyApplied_only (d : Dev) (k : Nat) : Only foot282 d (Dev.keyApplied d k) := by
  unfold Dev.keyApplied
  repeat' first
    | with_reducible exact Only.refl
    | with_reducible apply Foot.Sub.mk; decide +kernel
    | with_reducible apply Only.put (has_Key_LOADED ..)
    | with_reducible apply Only.step (Dev.eventSecure_only ..)
    | with_reducible apply Only.step (Dev.recordWritten_only ..)
    | with_reducible apply Only.step (Dev.setMezz_only ..)
    | with_reducible apply Only.step (Dev.slotSessionsEnd_only ..)

theorem Dev.hallGroupApplied_only (d : Dev) (old : Dev) (h : Nat) : Only foot283 d (Dev.hallGroupApplied d old h) := by
  unfold Dev.hallGroupApplied
  repeat' first
    | with_reducible exact Only.refl
    | with_reducible apply Foot.Sub.mk; decide +kernel
    | with_reducible apply Only.ite
    | with_reducible apply Only.foldl
    | with_reducible apply Only.step (Dev.coreLeaves_only ..)
    | with_reducible apply Only.step (Dev.quotaLine_only ..)
    | with_reducible apply Only.step (Dev.resetCore_only ..)
    | with_reducible apply Only.step (Dev.setHart_only ..)
    | with_reducible intro _

theorem Dev.srcConfigApplied_only (d : Dev) : Only foot21 d (Dev.srcConfigApplied d) := by
  unfold Dev.srcConfigApplied
  repeat' first
    | with_reducible exact Only.refl
    | with_reducible apply Foot.Sub.mk; decide +kernel
    | with_reducible apply Only.ite
    | with_reducible apply Only.foldl
    | with_reducible apply Only.setFld (has_Src_ENABLE ..)
    | with_reducible apply Only.setFld (has_Src_MOD_US ..)
    | with_reducible apply Only.setFld (has_Src_PRIORITY ..)
    | with_reducible apply Only.setFld (has_Src_TARGET ..)
    | with_reducible intro _

theorem Dev.pairApplied_only (d : Dev) (p : Nat) : Only foot284 d (Dev.pairApplied d p) := by
  unfold Dev.pairApplied
  repeat' first
    | with_reducible exact Only.refl
    | with_reducible apply Foot.Sub.mk; decide +kernel
    | with_reducible apply Only.put (has_Pair_STATE ..)
    | with_reducible apply Only.step (Dev.resetCore_only ..)

theorem Dev.windowsApplied_only (d : Dev) (h : Nat) : Only foot3 d (Dev.windowsApplied d h) := by
  unfold Dev.windowsApplied
  repeat' first
    | with_reducible exact Only.refl
    | with_reducible apply Foot.Sub.mk; decide +kernel
    | with_reducible apply Only.step (Dev.setDma_only ..)

theorem Dev.portApplied_only (d : Dev) (p : Nat) (tokens : Nat) (modeChanged : Bool) (roleChanged : Bool) : Only foot134 d (Dev.portApplied d p tokens modeChanged roleChanged) := by
  unfold Dev.portApplied
  repeat' first
    | with_reducible exact Only.refl
    | with_reducible apply Foot.Sub.mk; decide +kernel
    | with_reducible apply Only.ite
    | with_reducible apply Only.step (Dev.driveXtxdis_only ..)
    | with_reducible apply Only.step (Dev.linkDown_only ..)
    | with_reducible apply Only.step (Dev.setLink_only ..)

theorem Dev.tablesSwitched_only (d : Dev) (old : List Bytes) : Only foot14 d (Dev.tablesSwitched d old) := by
  unfold Dev.tablesSwitched
  repeat' first
    | with_reducible exact Only.refl
    | with_reducible apply Foot.Sub.mk; decide +kernel
    | with_reducible apply Only.step (Dev.forget_only ..)
    | with_reducible apply Only.step (Dev.setSw_only ..)

theorem Dev.setGrandmaster_only (d : Dev) (gm : Nat) : Only foot285 d (Dev.setGrandmaster d gm) := by
  unfold Dev.setGrandmaster
  repeat' first
    | with_reducible exact Only.refl
    | with_reducible apply Foot.Sub.mk; decide +kernel
    | with_reducible apply Only.ite
    | with_reducible apply Only.putOct (has_Time_GM_IDENTITY ..)
    | with_reducible apply Only.step (Dev.eventSys_only ..)

theorem Dev.ptpRestart_only (d : Dev) : Only foot286 d (Dev.ptpRestart d) := by
  unfold Dev.ptpRestart
  repeat' first
    | with_reducible exact Only.refl
    | with_reducible apply Foot.Sub.mk; decide +kernel
    | with_reducible apply Only.foldl
    | with_reducible apply Only.step (Dev.ptpRoles_only ..)
    | with_reducible apply Only.step (Dev.setGrandmaster_only ..)
    | with_reducible apply Only.step (Dev.setPtpState_only ..)
    | with_reducible apply Only.step (Dev.setQuality_only ..)
    | with_reducible apply Only.step (Dev.setTime_only ..)
    | with_reducible intro _

theorem Dev.trigApplied_only (d : Dev) (old : Dev) (u : Nat) : Only foot287 d (Dev.trigApplied d old u) := by
  unfold Dev.trigApplied
  repeat' first
    | with_reducible exact Only.refl
    | with_reducible apply Foot.Sub.mk; decide +kernel
    | with_reducible apply Only.ite
    | with_reducible apply Only.put (has_Trgu_ENABLE ..)
    | with_reducible apply Only.put (has_Trgu_NEXT_NS ..)
    | with_reducible apply Only.step (Dev.setTime_only ..)

theorem Dev.canApplied_only (d : Dev) (old : Dev) (n : Nat) : Only foot288 d (Dev.canApplied d old n) := by
  unfold Dev.canApplied
  repeat' first
    | with_reducible exact Only.refl
    | with_reducible apply Foot.Sub.mk; decide +kernel
    | with_reducible apply Only.ite
    | with_reducible apply Only.step (Dev.integrate_only ..)
    | with_reducible apply Only.step (Dev.setCan_only ..)

theorem Dev.canCoApplied_only (d : Dev) (old : Dev) (n : Nat) : Only foot186 d (Dev.canCoApplied d old n) := by
  unfold Dev.canCoApplied
  repeat' first
    | with_reducible exact Only.refl
    | with_reducible apply Foot.Sub.mk; decide +kernel
    | with_reducible apply Only.ite
    | with_reducible apply Only.step (Dev.resetComm_only ..)
    | with_reducible apply Only.step (Dev.setCan_only ..)
    | with_reducible apply Only.step (Dev.setNmt_only ..)

theorem Dev.slotApplied_only (d : Dev) (old : Dev) (s : Nat) : Only foot289 d (Dev.slotApplied d old s) := by
  unfold Dev.slotApplied
  repeat' first
    | with_reducible exact Only.refl
    | with_reducible apply Foot.Sub.mk; decide +kernel
    | with_reducible apply Only.ite
    | with_reducible apply Only.put (has_Stn_STATE ..)
    | with_reducible apply Only.step (Dev.bumpEpoch_only ..)
    | with_reducible apply Only.step (Dev.setScan_only ..)

end Sys2Proof
end

