-- ==== Sys2Proof/Laws/Frames4.lean ====
section
/-! SUPPORT. What each function on the device may change, part 4 of 6: one lemma per function, in an order in which callees come first. -/

set_option maxRecDepth 4000
set_option Elab.async false

namespace Sys2Proof

open Sys2Proof.Machine

def foot290 : Foot := ⟨[.mem, .logs, .time, .scan, .dma, .tenants], [ent0 Ent.Evlog.LAST_SEQ, ent0 Ent.Evlog.LOG_LOST, ent0 Ent.Se.STATE, ent0
  Ent.Tws.ROLE, ent1 Ent.Hall.COUNTER_SAT, ent1 Ent.Hall.RING_LOST, ent1 Ent.Task.COUNTER_SAT, ent1 Ent.Task.CYCLES, ent1 Ent.Task.LAST_EXEC_NS, ent1
  Ent.Task.MAX_DELAY_NS, ent1 Ent.Task.MAX_EXEC_NS, ent1 Ent.Task.MERGED, ent1 Ent.Task.SKIPPED, ent1 Ent.Trgu.COUNT, ent1 Ent.Trgu.ENABLE, ent1
  Ent.Trgu.NEXT_NS, ent1 Ent.Trgu.OWNER, ent1 Ent.Trgu.PERIOD_NS, ent1 Ent.Trgu.START_NS, ent1 Ent.Trgu.TARGET], [word1 Rg.Hpg.RING_EN, word1
  Rg.Hpg.RING_HEAD, word1 Rg.Plat.SYS_IRQ]⟩
def foot291 : Foot := ⟨[.mem, .logs, .time, .load, .scan, .dma, .tenants, .clk, .twin], [ent0 Ent.Clk.SSC_ACTIVE, ent0 Ent.Evlog.LAST_SEQ, ent0
  Ent.Evlog.LOG_LOST, ent0 Ent.Se.STATE, ent0 Ent.Tws.ROLE, ent1 Ent.Hall.COUNTER_SAT, ent1 Ent.Hall.RING_LOST, ent1 Ent.Lc.FLAGS, ent1 Ent.Lc.STATE,
  ent1 Ent.Task.COUNTER_SAT, ent1 Ent.Task.CYCLES, ent1 Ent.Task.LAST_EXEC_NS, ent1 Ent.Task.MAX_DELAY_NS, ent1 Ent.Task.MAX_EXEC_NS, ent1
  Ent.Task.MERGED, ent1 Ent.Task.SKIPPED, ent1 Ent.Trgu.COUNT, ent1 Ent.Trgu.ENABLE, ent1 Ent.Trgu.NEXT_NS, ent1 Ent.Trgu.OWNER, ent1
  Ent.Trgu.PERIOD_NS, ent1 Ent.Trgu.START_NS, ent1 Ent.Trgu.TARGET], [word1 Rg.Hpg.RING_EN, word1 Rg.Hpg.RING_HEAD, word1 Rg.Plat.SYS_IRQ]⟩
def foot292 : Foot := ⟨[.mem, .epochs, .logs, .time, .sw, .can, .sleep, .br, .load, .adc, .scan, .dma, .tenants, .clk, .sto, .twin], [ent0
  Ent.Clk.SSC_ACTIVE, ent0 Ent.Evlog.LAST_SEQ, ent0 Ent.Evlog.LOG_LOST, ent0 Ent.Se.STATE, ent0 Ent.Stlog.LOG_MIB, ent0 Ent.Stlog.LOG_OLDEST, ent0
  Ent.Stw.COUNTER_SAT, ent0 Ent.Stw.STW_ECC_DROPS, ent0 Ent.Tws.ROLE, ent1 Ent.Bctx.SESSION, ent1 Ent.CanCo.NMT, ent1 Ent.CanSt.COUNTER_SAT, ent1
  Ent.CanSt.TX_DISCARDED, ent1 Ent.Co.CONSUMER_HB, ent1 Ent.Co.RPDO_CHANNEL, ent1 Ent.Co.RPDO_COB, ent1 Ent.Co.RPDO_EVENT_TIMER, ent1
  Ent.Co.RPDO_INHIBIT, ent1 Ent.Co.RPDO_MAP_COUNT, ent1 Ent.Co.RPDO_SLOT, ent1 Ent.Co.RPDO_TYPE, ent1 Ent.Co.SDO_RX_COB, ent1 Ent.Co.SDO_TX_COB, ent1
  Ent.Co.TPDO_CHANNEL, ent1 Ent.Co.TPDO_COB, ent1 Ent.Co.TPDO_EVENT_TIMER, ent1 Ent.Co.TPDO_INHIBIT, ent1 Ent.Co.TPDO_MAP_COUNT, ent1
  Ent.Co.TPDO_SLOT, ent1 Ent.Co.TPDO_TYPE, ent1 Ent.Hall.COUNTER_SAT, ent1 Ent.Hall.FROZEN_DROPS, ent1 Ent.Hall.RING_LOST, ent1 Ent.Heng.COUNTER_SAT,
  ent1 Ent.Heng.NO_QP, ent1 Ent.Lc.FLAGS, ent1 Ent.Lc.STATE, ent1 Ent.Port.EGRESS_FILTERED, ent1 Ent.Port.PORT_SAT, ent1 Ent.Pq.CT_ABORTED, ent1
  Ent.Pq.NO_DESC, ent1 Ent.Pq.OVERSIZE, ent1 Ent.Pq.PORT_SAT, ent1 Ent.Pq.Q_SAT, ent1 Ent.Stn.STATE, ent1 Ent.Task.COUNTER_SAT, ent1 Ent.Task.CYCLES,
  ent1 Ent.Task.LAST_EXEC_NS, ent1 Ent.Task.MAX_DELAY_NS, ent1 Ent.Task.MAX_EXEC_NS, ent1 Ent.Task.MERGED, ent1 Ent.Task.SKIPPED, ent1 Ent.Trgu.COUNT,
  ent1 Ent.Trgu.ENABLE, ent1 Ent.Trgu.NEXT_NS, ent1 Ent.Trgu.OWNER, ent1 Ent.Trgu.PERIOD_NS, ent1 Ent.Trgu.START_NS, ent1 Ent.Trgu.TARGET, ent2
  Ent.Co.RPDO_MAP, ent2 Ent.Co.TPDO_MAP, ent2 Ent.Pq.DROP_DISABLED, ent2 Ent.Pq.DROP_DOWN, ent2 Ent.Pq.DROP_FULL, ent2 Ent.Pq.DROP_RESIDENCE, ent2
  Ent.Pq.DROP_STW], [word1 Rg.Ch.IRQ, word1 Rg.Ch.TEC, word1 Rg.Hpg.RING_EN, word1 Rg.Hpg.RING_HEAD, word1 Rg.Plat.SYS_IRQ, word2 Rg.Ctx.SESSION,
  word2 Rg.Obj.EXPIRED, word2 Rg.Obj.NEW, word2 Rg.Txb.CODE]⟩
def foot293 : Foot := ⟨[.mem, .epochs, .logs, .time, .d0, .sw, .can, .sleep, .br, .load, .adc, .scan, .dma, .tenants, .mezz, .clk, .sto, .upd, .held,
  .harts, .twin], [ent0 Ent.Clk.SRC_STATUS, ent0 Ent.Clk.SSC_ACTIVE, ent0 Ent.Evlog.LAST_SEQ, ent0 Ent.Evlog.LOG_LOST, ent0 Ent.Se.STATE, ent0
  Ent.Stlog.LOG_MIB, ent0 Ent.Stlog.LOG_OLDEST, ent0 Ent.Stw.COUNTER_SAT, ent0 Ent.Stw.STW_ECC_DROPS, ent0 Ent.Swc.SHARED_SIZE, ent0
  Ent.Time.GM_IDENTITY, ent0 Ent.Tws.ROLE, ent1 Ent.Bctx.SESSION, ent1 Ent.CanCo.NMT, ent1 Ent.CanSt.COUNTER_SAT, ent1 Ent.CanSt.TX_DISCARDED, ent1
  Ent.Co.CONSUMER_HB, ent1 Ent.Co.RPDO_CHANNEL, ent1 Ent.Co.RPDO_COB, ent1 Ent.Co.RPDO_EVENT_TIMER, ent1 Ent.Co.RPDO_INHIBIT, ent1
  Ent.Co.RPDO_MAP_COUNT, ent1 Ent.Co.RPDO_SLOT, ent1 Ent.Co.RPDO_TYPE, ent1 Ent.Co.SDO_RX_COB, ent1 Ent.Co.SDO_TX_COB, ent1 Ent.Co.TPDO_CHANNEL, ent1
  Ent.Co.TPDO_COB, ent1 Ent.Co.TPDO_EVENT_TIMER, ent1 Ent.Co.TPDO_INHIBIT, ent1 Ent.Co.TPDO_MAP_COUNT, ent1 Ent.Co.TPDO_SLOT, ent1 Ent.Co.TPDO_TYPE,
  ent1 Ent.Dom.SOURCE, ent1 Ent.Hall.COUNTER_SAT, ent1 Ent.Hall.FROZEN_DROPS, ent1 Ent.Hall.RING_LOST, ent1 Ent.Heng.COUNTER_SAT, ent1 Ent.Heng.NO_QP,
  ent1 Ent.Key.LOADED, ent1 Ent.Lc.FLAGS, ent1 Ent.Lc.STATE, ent1 Ent.Pair.STATE, ent1 Ent.Port.EGRESS_FILTERED, ent1 Ent.Port.LINK_DOWNS, ent1
  Ent.Port.PORT_SAT, ent1 Ent.Port.TX_OVERRUN, ent1 Ent.Pq.COPIES_DROPPED, ent1 Ent.Pq.CT_ABORTED, ent1 Ent.Pq.NO_DESC, ent1 Ent.Pq.OVERSIZE, ent1
  Ent.Pq.PORT_SAT, ent1 Ent.Pq.Q_SAT, ent1 Ent.Ptime.PORT_STATE, ent1 Ent.Stn.STATE, ent1 Ent.Task.COUNTER_SAT, ent1 Ent.Task.CYCLES, ent1
  Ent.Task.LAST_EXEC_NS, ent1 Ent.Task.MAX_DELAY_NS, ent1 Ent.Task.MAX_EXEC_NS, ent1 Ent.Task.MERGED, ent1 Ent.Task.SKIPPED, ent1 Ent.Trgu.COUNT, ent1
  Ent.Trgu.ENABLE, ent1 Ent.Trgu.NEXT_NS, ent1 Ent.Trgu.OWNER, ent1 Ent.Trgu.PERIOD_NS, ent1 Ent.Trgu.START_NS, ent1 Ent.Trgu.TARGET, ent2
  Ent.Co.RPDO_MAP, ent2 Ent.Co.TPDO_MAP, ent2 Ent.Pq.DROP_DISABLED, ent2 Ent.Pq.DROP_DOWN, ent2 Ent.Pq.DROP_FULL, ent2 Ent.Pq.DROP_RESIDENCE, ent2
  Ent.Pq.DROP_STW], [word0 Rg.M0Cpg.DEPTH, word0 Rg.M0Cpg.WFI, word1 Rg.Ch.IRQ, word1 Rg.Ch.TEC, word1 Rg.Cpg.DEPTH, word1 Rg.Cpg.WFI, word1
  Rg.Hpg.LINES_SET, word1 Rg.Hpg.RING_EN, word1 Rg.Hpg.RING_HEAD, word1 Rg.M0Cpg.STK_SRC, word1 Rg.M0Src.PENDING, word1 Rg.Plat.SYS_IRQ, word1
  Rg.Src.PENDING, word2 Rg.Cpg.STK_SRC, word2 Rg.Ctx.SESSION, word2 Rg.Obj.EXPIRED, word2 Rg.Obj.NEW, word2 Rg.Txb.CODE]⟩
def foot294 : Foot := ⟨[.mem, .logs, .d0, .sw, .can, .power, .br, .dma, .tenants, .twin], [ent0 Ent.Evlog.LAST_SEQ, ent0 Ent.Evlog.LOG_LOST, ent0
  Ent.Stw.COUNTER_SAT, ent0 Ent.Stw.STW_ECC_DROPS, ent1 Ent.CanCo.SDO_LAST_STATUS, ent1 Ent.CanSt.COUNTER_SAT, ent1 Ent.CanSt.TX_DISCARDED, ent1
  Ent.Hall.COUNTER_SAT, ent1 Ent.Hall.FROZEN_DROPS, ent1 Ent.Hall.RING_LOST, ent1 Ent.Heng.COUNTER_SAT, ent1 Ent.Heng.NO_QP, ent1
  Ent.Port.EGRESS_FILTERED, ent1 Ent.Port.PORT_SAT, ent1 Ent.Port.TX_BYTES, ent1 Ent.Port.TX_FRAMES, ent1 Ent.Pq.CT_ABORTED, ent1 Ent.Pq.NO_DESC, ent1
  Ent.Pq.OVERSIZE, ent1 Ent.Pq.PORT_SAT, ent1 Ent.Pq.Q_SAT, ent1 fun i => ⟨i, 0xFD, 64, 0⟩, ent2 Ent.Pq.DROP_DISABLED, ent2 Ent.Pq.DROP_DOWN, ent2
  Ent.Pq.DROP_FULL, ent2 Ent.Pq.DROP_RESIDENCE, ent2 Ent.Pq.DROP_STW], [word0 Rg.Smb.DONE, word0 Rg.Smb.MB_LEN, word0 Rg.Smb.MB_TOTAL, word1
  Rg.Hpg.RING_HEAD, word1 Rg.Mb.DONE, word1 Rg.Mb.MB_LEN, word1 Rg.Mb.MB_TOTAL, word1 Rg.Smb.MB_DATA, word2 Rg.Mb.MB_DATA]⟩
def foot295 : Foot := ⟨[.dict, .blobs, .mem, .epochs, .free, .logs, .limits, .time, .d0, .sw, .can, .sleep, .power, .br, .load, .adc, .scan, .dma,
  .tenants, .mezz, .clk, .sto, .upd, .held, .harts, .twin], [], [word0 Rg.M0Cpg.DEPTH, word0 Rg.M0Cpg.WFI, word0 Rg.Smb.DONE, word0 Rg.Smb.MB_LEN,
  word0 Rg.Smb.MB_TOTAL, word1 Rg.Adcr.BUSY, word1 Rg.Adcr.IRQ, word1 Rg.Ch.IRQ, word1 Rg.Ch.TEC, word1 Rg.Cpg.DEPTH, word1 Rg.Cpg.WFI, word1
  Rg.Hpg.LINES_SET, word1 Rg.Hpg.RING_EN, word1 Rg.Hpg.RING_HEAD, word1 Rg.M0Cpg.STK_SRC, word1 Rg.M0Src.PENDING, word1 Rg.Mb.DONE, word1
  Rg.Mb.MB_LEN, word1 Rg.Mb.MB_TOTAL, word1 Rg.Plat.SYS_IRQ, word1 Rg.Smb.MB_DATA, word1 Rg.Src.PENDING, word2 Rg.Cpg.STK_SRC, word2 Rg.Ctx.SESSION,
  word2 Rg.Mb.MB_DATA, word2 Rg.Obj.EXPIRED, word2 Rg.Obj.NEW, word2 Rg.Txb.CODE]⟩
def foot296 : Foot := ⟨[.dict, .blobs, .mem, .logs, .limits, .d0, .sw, .can, .power, .br, .dma, .tenants, .twin], [], [word0 Rg.Smb.DONE, word0
  Rg.Smb.MB_LEN, word0 Rg.Smb.MB_TOTAL, word1 Rg.Hpg.RING_HEAD, word1 Rg.M0Src.PENDING, word1 Rg.Mb.DONE, word1 Rg.Mb.MB_LEN, word1 Rg.Mb.MB_TOTAL,
  word1 Rg.Smb.MB_DATA, word2 Rg.Mb.MB_DATA]⟩
def foot297 : Foot := ⟨[.mem, .logs, .limits, .dma, .tenants], [ent0 Ent.Evlog.LAST_SEQ, ent0 Ent.Evlog.LOG_LOST, ent0 Ent.Ndp.COUNTER_SAT, ent0
  Ent.Ndp.RX_DROPPED, ent1 Ent.Hall.RING_LOST], [word1 Rg.Hpg.RING_HEAD]⟩
def foot298 : Foot := ⟨[.mem, .logs, .dma, .tenants], [ent0 Ent.Evlog.LAST_SEQ, ent0 Ent.Evlog.LOG_LOST, ent0 Ent.Tws.COUNTER_SAT, ent0 Ent.Tws.PATHS,
  ent0 Ent.Tws.WIRING_FAULTS, ent1 Ent.Hall.COUNTER_SAT, ent1 Ent.Hall.RING_LOST], [word1 Rg.Hpg.RING_EN, word1 Rg.Hpg.RING_HEAD, word1
  Rg.Plat.SYS_IRQ]⟩
def foot299 : Foot := ⟨[.mem, .logs, .d0, .sw, .can, .power, .br, .dma, .tenants, .twin], [ent0 Ent.Evlog.LAST_SEQ, ent0 Ent.Evlog.LOG_LOST, ent0
  Ent.Stw.COUNTER_SAT, ent0 Ent.Stw.STW_ECC_DROPS, ent0 Ent.Tws.CMD_STATUS, ent0 Ent.Tws.COUNTER_SAT, ent0 Ent.Tws.PATHS, ent0 Ent.Tws.WIRING_FAULTS,
  ent1 Ent.CanCo.SDO_LAST_STATUS, ent1 Ent.CanSt.COUNTER_SAT, ent1 Ent.CanSt.TX_DISCARDED, ent1 Ent.Hall.COUNTER_SAT, ent1 Ent.Hall.FROZEN_DROPS, ent1
  Ent.Hall.RING_LOST, ent1 Ent.Heng.COUNTER_SAT, ent1 Ent.Heng.NO_QP, ent1 Ent.Port.EGRESS_FILTERED, ent1 Ent.Port.PORT_SAT, ent1 Ent.Port.TX_BYTES,
  ent1 Ent.Port.TX_FRAMES, ent1 Ent.Pq.CT_ABORTED, ent1 Ent.Pq.NO_DESC, ent1 Ent.Pq.OVERSIZE, ent1 Ent.Pq.PORT_SAT, ent1 Ent.Pq.Q_SAT, ent2
  Ent.Pq.DROP_DISABLED, ent2 Ent.Pq.DROP_DOWN, ent2 Ent.Pq.DROP_FULL, ent2 Ent.Pq.DROP_RESIDENCE, ent2 Ent.Pq.DROP_STW], [word0 Rg.Smb.DONE, word0
  Rg.Smb.MB_LEN, word0 Rg.Smb.MB_TOTAL, word1 Rg.Hpg.RING_EN, word1 Rg.Hpg.RING_HEAD, word1 Rg.Mb.DONE, word1 Rg.Mb.MB_LEN, word1 Rg.Mb.MB_TOTAL,
  word1 Rg.Plat.SYS_IRQ, word1 Rg.Smb.MB_DATA, word2 Rg.Mb.MB_DATA]⟩
def foot300 : Foot := ⟨[.mem, .logs, .time, .scan, .dma, .tenants, .twin], [ent0 Ent.Evlog.LAST_SEQ, ent0 Ent.Evlog.LOG_LOST, ent0 Ent.Se.STATE, ent0
  Ent.Tws.ROLE, ent1 Ent.Hall.COUNTER_SAT, ent1 Ent.Hall.RING_LOST, ent1 Ent.Port.PORT_SAT, ent1 Ent.Port.TX_BYTES, ent1 Ent.Port.TX_FRAMES, ent1
  Ent.Task.COUNTER_SAT, ent1 Ent.Task.CYCLES, ent1 Ent.Task.LAST_EXEC_NS, ent1 Ent.Task.MAX_DELAY_NS, ent1 Ent.Task.MAX_EXEC_NS, ent1 Ent.Task.MERGED,
  ent1 Ent.Task.SKIPPED, ent1 Ent.Trgu.COUNT, ent1 Ent.Trgu.ENABLE, ent1 Ent.Trgu.NEXT_NS, ent1 Ent.Trgu.OWNER, ent1 Ent.Trgu.PERIOD_NS, ent1
  Ent.Trgu.START_NS, ent1 Ent.Trgu.TARGET], [word1 Rg.Hpg.RING_EN, word1 Rg.Hpg.RING_HEAD, word1 Rg.Plat.SYS_IRQ]⟩
def foot301 : Foot := ⟨[.mem, .logs, .d0, .sw, .can, .power, .br, .scan, .dma, .tenants, .twin], [ent0 Ent.Chg.CHANGES, ent0 Ent.Chg.CHANGE_RESULT,
  ent0 Ent.Chg.CHANGE_STATE, ent0 Ent.Chg.CHANGE_STATUS, ent0 Ent.Chg.COUNTER_SAT, ent0 Ent.Chg.REFUSALS, ent0 Ent.Evlog.LAST_SEQ, ent0
  Ent.Evlog.LOG_LOST, ent0 Ent.Se.STATE, ent0 Ent.Stw.COUNTER_SAT, ent0 Ent.Stw.STW_ECC_DROPS, ent0 Ent.Tws.CMD_STATUS, ent0 Ent.Tws.COUNTER_SAT, ent0
  Ent.Tws.HANDOVERS, ent1 Ent.CanCo.SDO_LAST_STATUS, ent1 Ent.CanSt.COUNTER_SAT, ent1 Ent.CanSt.TX_DISCARDED, ent1 Ent.Hall.COUNTER_SAT, ent1
  Ent.Hall.FROZEN_DROPS, ent1 Ent.Hall.RING_LOST, ent1 Ent.Heng.COUNTER_SAT, ent1 Ent.Heng.NO_QP, ent1 Ent.Port.EGRESS_FILTERED, ent1
  Ent.Port.PORT_SAT, ent1 Ent.Port.TX_BYTES, ent1 Ent.Port.TX_FRAMES, ent1 Ent.Pq.CT_ABORTED, ent1 Ent.Pq.NO_DESC, ent1 Ent.Pq.OVERSIZE, ent1
  Ent.Pq.PORT_SAT, ent1 Ent.Pq.Q_SAT, ent2 Ent.Pq.DROP_DISABLED, ent2 Ent.Pq.DROP_DOWN, ent2 Ent.Pq.DROP_FULL, ent2 Ent.Pq.DROP_RESIDENCE, ent2
  Ent.Pq.DROP_STW], [word0 Rg.Smb.DONE, word0 Rg.Smb.MB_LEN, word0 Rg.Smb.MB_TOTAL, word1 Rg.Hpg.RING_EN, word1 Rg.Hpg.RING_HEAD, word1 Rg.Mb.DONE,
  word1 Rg.Mb.MB_LEN, word1 Rg.Mb.MB_TOTAL, word1 Rg.Plat.SYS_IRQ, word1 Rg.Smb.MB_DATA, word2 Rg.Mb.MB_DATA]⟩
def foot302 : Foot := ⟨[.mem, .logs, .time, .d0, .sw, .can, .power, .br, .scan, .dma, .tenants, .twin], [ent0 Ent.Chg.CHANGES, ent0
  Ent.Chg.CHANGE_RESULT, ent0 Ent.Chg.CHANGE_STATE, ent0 Ent.Chg.CHANGE_STATUS, ent0 Ent.Chg.COUNTER_SAT, ent0 Ent.Chg.REFUSALS, ent0
  Ent.Evlog.LAST_SEQ, ent0 Ent.Evlog.LOG_LOST, ent0 Ent.Se.STATE, ent0 Ent.Stw.COUNTER_SAT, ent0 Ent.Stw.STW_ECC_DROPS, ent0 Ent.Tws.CMD_STATUS, ent0
  Ent.Tws.COUNTER_SAT, ent0 Ent.Tws.HANDOVERS, ent0 Ent.Tws.ROLE, ent1 Ent.CanCo.SDO_LAST_STATUS, ent1 Ent.CanSt.COUNTER_SAT, ent1
  Ent.CanSt.TX_DISCARDED, ent1 Ent.Hall.COUNTER_SAT, ent1 Ent.Hall.FROZEN_DROPS, ent1 Ent.Hall.RING_LOST, ent1 Ent.Heng.COUNTER_SAT, ent1
  Ent.Heng.NO_QP, ent1 Ent.Port.EGRESS_FILTERED, ent1 Ent.Port.PORT_SAT, ent1 Ent.Port.TX_BYTES, ent1 Ent.Port.TX_FRAMES, ent1 Ent.Pq.CT_ABORTED, ent1
  Ent.Pq.NO_DESC, ent1 Ent.Pq.OVERSIZE, ent1 Ent.Pq.PORT_SAT, ent1 Ent.Pq.Q_SAT, ent1 Ent.Task.COUNTER_SAT, ent1 Ent.Task.CYCLES, ent1
  Ent.Task.LAST_EXEC_NS, ent1 Ent.Task.MAX_DELAY_NS, ent1 Ent.Task.MAX_EXEC_NS, ent1 Ent.Task.MERGED, ent1 Ent.Task.SKIPPED, ent1 Ent.Trgu.COUNT, ent1
  Ent.Trgu.ENABLE, ent1 Ent.Trgu.NEXT_NS, ent1 Ent.Trgu.OWNER, ent1 Ent.Trgu.PERIOD_NS, ent1 Ent.Trgu.START_NS, ent1 Ent.Trgu.TARGET, ent2
  Ent.Pq.DROP_DISABLED, ent2 Ent.Pq.DROP_DOWN, ent2 Ent.Pq.DROP_FULL, ent2 Ent.Pq.DROP_RESIDENCE, ent2 Ent.Pq.DROP_STW], [word0 Rg.Smb.DONE, word0
  Rg.Smb.MB_LEN, word0 Rg.Smb.MB_TOTAL, word1 Rg.Hpg.RING_EN, word1 Rg.Hpg.RING_HEAD, word1 Rg.Mb.DONE, word1 Rg.Mb.MB_LEN, word1 Rg.Mb.MB_TOTAL,
  word1 Rg.Plat.SYS_IRQ, word1 Rg.Smb.MB_DATA, word2 Rg.Mb.MB_DATA]⟩
def foot303 : Foot := ⟨[.mem, .logs, .dma, .tenants], [ent0 Ent.Evlog.LAST_SEQ, ent0 Ent.Evlog.LOG_LOST, ent1 Ent.Bu.COUNTER_SAT, ent1 Ent.Bu.ORPHANS,
  ent1 Ent.Hall.COUNTER_SAT, ent1 Ent.Hall.RING_LOST], [word1 Rg.Hpg.RING_EN, word1 Rg.Hpg.RING_HEAD, word2 Rg.Ctx.IRQ, word2 Rg.Ctx.RSLOT_ADDR_HI,
  word2 Rg.Ctx.RSLOT_ADDR_LO, word2 Rg.Ctx.RSLOT_SEQ, word2 Rg.Ctx.VALID, word3 Rg.Ctx.RSLOT_DATA]⟩
def foot304 : Foot := ⟨[.br], [], [word2 Rg.Ep.EVT_PENDING, word2 Rg.Ep.EVT_SEQ, word2 Rg.Ep.MERGED, word2 Rg.Ep.SIDEBAND]⟩
def foot305 : Foot := ⟨[.free, .br, .dma, .harts, .twin], [], [word2 Rg.Ctx.FAR_CODE, word2 Rg.Ep.EVT_PENDING, word2 Rg.Ep.EVT_SEQ, word2
  Rg.Ep.MERGED, word2 Rg.Ep.SIDEBAND, word2 fun u k => rmb u k Rg.Mb.CODE, word2 fun u k => rmb u k Rg.Mb.GO, word2 fun u k => rmb u k Rg.Mb.MB_LEN,
  word2 fun u k => rmb u k Rg.Mb.MB_TOTAL, word3 fun u k i => rmb u k fun n => Rg.Mb.MB_DATA n i]⟩
def foot306 : Foot := ⟨[.mem, .free, .logs, .limits, .br, .dma, .tenants, .harts, .twin], [ent0 Ent.Evlog.LAST_SEQ, ent0 Ent.Evlog.LOG_LOST, ent1
  Ent.Bctx.COUNTER_SAT, ent1 Ent.Bctx.FAILURES, ent1 Ent.Bctx.POSTED, ent1 Ent.Bctx.READS, ent1 Ent.Bctx.RETRANSMITS, ent1 Ent.Bctx.TIMEOUTS, ent1
  Ent.Hall.COUNTER_SAT, ent1 Ent.Hall.RING_LOST], [word1 Rg.Hpg.RING_EN, word1 Rg.Hpg.RING_HEAD, word2 Rg.Ctx.BST_ADDR_HI, word2 Rg.Ctx.BST_ADDR_LO,
  word2 Rg.Ctx.FAILED, word2 Rg.Ctx.FAR_CODE, word2 Rg.Ctx.IRQ, word2 Rg.Ep.EVT_PENDING, word2 Rg.Ep.EVT_SEQ, word2 Rg.Ep.MERGED, word2
  Rg.Ep.SIDEBAND, word2 fun u k => rmb u k Rg.Mb.CODE, word2 fun u k => rmb u k Rg.Mb.GO, word2 fun u k => rmb u k Rg.Mb.MB_LEN, word2 fun u k => rmb
  u k Rg.Mb.MB_TOTAL, word3 fun u k i => rmb u k fun n => Rg.Mb.MB_DATA n i]⟩
def foot307 : Foot := ⟨[.mem, .free, .logs, .limits, .br, .dma, .tenants, .harts, .twin], [ent0 Ent.Evlog.LAST_SEQ, ent0 Ent.Evlog.LOG_LOST, ent1
  Ent.Bctx.COUNTER_SAT, ent1 Ent.Bctx.FAILURES, ent1 Ent.Bctx.POSTED, ent1 Ent.Bctx.READS, ent1 Ent.Bctx.RETRANSMITS, ent1 Ent.Bctx.SESSION, ent1
  Ent.Bctx.TIMEOUTS, ent1 Ent.Bu.COUNTER_SAT, ent1 Ent.Bu.ORPHANS, ent1 Ent.Hall.COUNTER_SAT, ent1 Ent.Hall.RING_LOST], [word1 Rg.Hpg.RING_EN, word1
  Rg.Hpg.RING_HEAD, word2 Rg.Ctx.BST_ADDR_HI, word2 Rg.Ctx.BST_ADDR_LO, word2 Rg.Ctx.FAILED, word2 Rg.Ctx.FAR_CODE, word2 Rg.Ctx.IRQ, word2
  Rg.Ctx.PW_DONE, word2 Rg.Ctx.RSLOT_ADDR_HI, word2 Rg.Ctx.RSLOT_ADDR_LO, word2 Rg.Ctx.RSLOT_SEQ, word2 Rg.Ctx.SESSION, word2 Rg.Ctx.VALID, word2
  Rg.Ep.EVT_PENDING, word2 Rg.Ep.EVT_SEQ, word2 Rg.Ep.MERGED, word2 Rg.Ep.SIDEBAND, word2 fun u k => rmb u k Rg.Mb.CODE, word2 fun u k => rmb u k
  Rg.Mb.GO, word2 fun u k => rmb u k Rg.Mb.MB_LEN, word2 fun u k => rmb u k Rg.Mb.MB_TOTAL, word3 Rg.Ctx.RSLOT_DATA, word3 fun u k i => rmb u k fun n
  => Rg.Mb.MB_DATA n i]⟩
def foot308 : Foot := ⟨[.mem, .logs, .dma, .tenants], [ent0 Ent.Evlog.LAST_SEQ, ent0 Ent.Evlog.LOG_LOST, ent1 Ent.Dma.COUNTER_SAT, ent1
  Ent.Dma.FAULTS, ent1 Ent.Hall.COUNTER_SAT, ent1 Ent.Hall.RING_LOST], [word1 Rg.Dmar.ACTIVE, word1 Rg.Dmar.FAULT_DESC, word1 Rg.Dmar.FAULT_DONE,
  word1 Rg.Dmar.FAULT_IOVA_HI, word1 Rg.Dmar.FAULT_IOVA_LO, word1 Rg.Dmar.IRQ, word1 Rg.Hpg.RING_EN, word1 Rg.Hpg.RING_HEAD]⟩
def foot309 : Foot := ⟨[.mem, .logs, .dma, .tenants, .clk], [ent0 Ent.Evlog.LAST_SEQ, ent0 Ent.Evlog.LOG_LOST, ent0 Ent.Mem.COUNTER_SAT, ent0
  Ent.Mem.DRAM_CE, ent0 Ent.Mem.DRAM_UE, ent0 Ent.Mem.SRAM_CE, ent0 Ent.Mem.SRAM_UE, ent0 Ent.Mem.UE_LAST, ent1 Ent.Dma.COUNTER_SAT, ent1
  Ent.Dma.FAULTS, ent1 Ent.Hall.COUNTER_SAT, ent1 Ent.Hall.RING_LOST], [word1 Rg.Dmar.ACTIVE, word1 Rg.Dmar.FAULT_DESC, word1 Rg.Dmar.FAULT_DONE,
  word1 Rg.Dmar.FAULT_IOVA_HI, word1 Rg.Dmar.FAULT_IOVA_LO, word1 Rg.Dmar.IRQ, word1 Rg.Hpg.RING_EN, word1 Rg.Hpg.RING_HEAD, word1 Rg.Plat.SYS_IRQ]⟩
def foot310 : Foot := ⟨[.mem, .logs, .can, .dma, .tenants], [ent0 Ent.Evlog.LAST_SEQ, ent0 Ent.Evlog.LOG_LOST, ent1 Ent.CanSt.BUS_OFFS, ent1
  Ent.CanSt.COUNTER_SAT, ent1 Ent.CanSt.TX_DISCARDED, ent1 Ent.Hall.RING_LOST], [word1 Rg.Ch.IRQ, word1 Rg.Ch.TEC, word1 Rg.Hpg.RING_HEAD, word2
  Rg.Txb.CODE]⟩
def foot311 : Foot := ⟨[.mem, .logs, .dma, .tenants], [ent0 Ent.Evlog.LAST_SEQ, ent0 Ent.Evlog.LOG_LOST, ent1 Ent.Hall.RING_LOST, ent1
  Ent.Heng.COUNTER_SAT, ent1 Ent.Heng.NO_QP], [word1 Rg.Hpg.RING_HEAD]⟩
def foot312 : Foot := ⟨[.mem, .logs, .sw, .dma, .tenants], [ent0 Ent.Evlog.LAST_SEQ, ent0 Ent.Evlog.LOG_LOST, ent1 Ent.Hall.RING_LOST, ent1
  Ent.Port.PORT_SAT, ent1 Ent.Port.STREAM_DROPS], [word1 Rg.Hpg.RING_HEAD]⟩
def foot313 : Foot := ⟨[.mem, .logs, .limits, .dma, .tenants], [ent0 Ent.Evlog.LAST_SEQ, ent0 Ent.Evlog.LOG_LOST, ent0 Ent.Fwds.COUNTER_SAT, ent0
  Ent.Fwds.LEARN_FAIL, ent1 Ent.Hall.RING_LOST], [word1 Rg.Hpg.RING_HEAD]⟩
def foot314 : Foot := ⟨[.mem, .logs, .limits, .sw, .dma, .tenants], [ent0 Ent.Evlog.LAST_SEQ, ent0 Ent.Evlog.LOG_LOST, ent0 Ent.Fwds.COUNTER_SAT, ent0
  Ent.Fwds.LEARN_FAIL, ent1 Ent.Hall.RING_LOST], [word1 Rg.Hpg.RING_HEAD]⟩
def foot315 : Foot := ⟨[.mem, .logs, .limits, .sw, .dma, .tenants], [ent0 Ent.Evlog.LAST_SEQ, ent0 Ent.Evlog.LOG_LOST, ent0 Ent.Fwds.COUNTER_SAT, ent0
  Ent.Fwds.LEARN_FAIL, ent0 Ent.Stw.COUNTER_SAT, ent0 Ent.Stw.STW_ECC_DROPS, ent1 Ent.Hall.COUNTER_SAT, ent1 Ent.Hall.FROZEN_DROPS, ent1
  Ent.Hall.RING_LOST, ent1 Ent.Heng.COUNTER_SAT, ent1 Ent.Heng.NO_QP, ent1 Ent.Port.EGRESS_FILTERED, ent1 Ent.Port.PORT_SAT, ent1
  Ent.Port.STREAM_DROPS, ent1 Ent.Pq.COPIES_DROPPED, ent1 Ent.Pq.CT_ABORTED, ent1 Ent.Pq.NO_DESC, ent1 Ent.Pq.OVERSIZE, ent1 Ent.Pq.PORT_SAT, ent1
  Ent.Pq.Q_SAT, ent2 Ent.Pq.DROP_DISABLED, ent2 Ent.Pq.DROP_DOWN, ent2 Ent.Pq.DROP_FULL, ent2 Ent.Pq.DROP_RESIDENCE, ent2 Ent.Pq.DROP_STW], [word1
  Rg.Hpg.RING_HEAD]⟩
def foot316 : Foot := ⟨[.mem, .logs, .limits, .sw, .dma, .tenants], [ent0 Ent.Evlog.LAST_SEQ, ent0 Ent.Evlog.LOG_LOST, ent1 Ent.Hall.RING_LOST, ent1
  Ent.Port.PORT_SAT, ent1 Ent.Port.TCM_POLICED], [word1 Rg.Hpg.RING_HEAD]⟩
def foot317 : Foot := ⟨[.mem, .logs, .limits, .sw, .dma, .tenants], [ent0 Ent.Evlog.LAST_SEQ, ent0 Ent.Evlog.LOG_LOST, ent0 Ent.Fwds.COUNTER_SAT, ent0
  Ent.Fwds.LEARN_FAIL, ent0 Ent.Stw.COUNTER_SAT, ent0 Ent.Stw.STW_ECC_DROPS, ent1 Ent.Hall.COUNTER_SAT, ent1 Ent.Hall.FROZEN_DROPS, ent1
  Ent.Hall.RING_LOST, ent1 Ent.Heng.COUNTER_SAT, ent1 Ent.Heng.NO_QP, ent1 Ent.Port.EGRESS_FILTERED, ent1 Ent.Port.PORT_SAT, ent1
  Ent.Port.RX_DISABLED, ent1 Ent.Port.RX_TYPE, ent1 Ent.Port.RX_VLAN, ent1 Ent.Port.STREAM_DROPS, ent1 Ent.Port.TCM_POLICED, ent1
  Ent.Pq.COPIES_DROPPED, ent1 Ent.Pq.CT_ABORTED, ent1 Ent.Pq.NO_DESC, ent1 Ent.Pq.OVERSIZE, ent1 Ent.Pq.PORT_SAT, ent1 Ent.Pq.Q_SAT, ent2
  Ent.Pq.DROP_DISABLED, ent2 Ent.Pq.DROP_DOWN, ent2 Ent.Pq.DROP_FULL, ent2 Ent.Pq.DROP_RESIDENCE, ent2 Ent.Pq.DROP_STW], [word1 Rg.Hpg.RING_HEAD]⟩
def foot318 : Foot := ⟨[.logs, .sto], [ent0 Ent.Evl.EVENT_FIRST, ent0 Ent.Evl.EVENT_NEXT], []⟩
def foot319 : Foot := ⟨[.mem, .logs, .limits, .dma, .tenants], [ent0 Ent.Evlog.LAST_SEQ, ent0 Ent.Evlog.LOG_LOST, ent1 Ent.Ain.FLAGS, ent1
  Ent.Hall.RING_LOST], [word1 Rg.Hpg.RING_HEAD]⟩
def foot320 : Foot := ⟨[.mem, .free, .logs, .limits, .adc, .dma, .tenants], [ent0 Ent.Evlog.LAST_SEQ, ent0 Ent.Evlog.LOG_LOST, ent0 Ent.Lc.SELEXT,
  ent1 Ent.Ain.FLAGS, ent1 Ent.Ain.RANGE, ent1 Ent.Ain.VALUE, ent1 Ent.Aint.INTERNAL, ent1 Ent.Hall.RING_LOST], [word1 Rg.Hpg.RING_HEAD]⟩
def foot321 : Foot := ⟨[.mem, .logs, .dma, .tenants, .mezz], [ent0 Ent.Evlog.LAST_SEQ, ent0 Ent.Evlog.LOG_LOST, ent0 Ent.Mem.COUNTER_SAT, ent0
  Ent.Mem.DRAM_CE, ent0 Ent.Mem.DRAM_UE, ent0 Ent.Mem.SRAM_CE, ent0 Ent.Mem.SRAM_UE, ent0 Ent.Mem.UE_LAST, ent1 Ent.Hall.RING_LOST], [word1
  Rg.Hpg.RING_HEAD, word1 Rg.Plat.SYS_IRQ]⟩
def foot322 : Foot := ⟨[.mem, .free, .logs, .dma, .tenants, .mezz], [ent0 Ent.Evlog.LAST_SEQ, ent0 Ent.Evlog.LOG_LOST, ent0 Ent.Mem.COUNTER_SAT, ent0
  Ent.Mem.DRAM_CE, ent0 Ent.Mem.DRAM_UE, ent0 Ent.Mem.SRAM_CE, ent0 Ent.Mem.SRAM_UE, ent0 Ent.Mem.UE_LAST, ent1 Ent.Hall.RING_LOST], [word1
  Rg.Hpg.RING_HEAD, word1 Rg.Plat.SYS_IRQ]⟩
def foot323 : Foot := ⟨[.mem, .free, .logs, .limits, .time, .d0, .sw, .can, .power, .br, .scan, .dma, .tenants, .clk, .harts, .twin], [ent0
  Ent.Evlog.LAST_SEQ, ent0 Ent.Evlog.LOG_LOST, ent0 Ent.Stw.COUNTER_SAT, ent0 Ent.Stw.STW_ECC_DROPS, ent0 Ent.Tws.PATHS, ent0 Ent.Tws.ROLE, ent1
  Ent.Bctx.COUNTER_SAT, ent1 Ent.Bctx.FAILURES, ent1 Ent.Bctx.POSTED, ent1 Ent.Bctx.READS, ent1 Ent.Bctx.RETRANSMITS, ent1 Ent.Bctx.SESSION, ent1
  Ent.Bctx.TIMEOUTS, ent1 Ent.CanCo.SDO_LAST_STATUS, ent1 Ent.CanSt.COUNTER_SAT, ent1 Ent.CanSt.TX_DISCARDED, ent1 Ent.Dom.COUNTER_SAT, ent1
  Ent.Dom.SOURCE, ent1 Ent.Dom.SWITCHES, ent1 Ent.Hall.CMD_STATUS, ent1 Ent.Hall.COUNTER_SAT, ent1 Ent.Hall.FROZEN_DROPS, ent1 Ent.Hall.RING_LOST,
  ent1 Ent.Hall.STATE, ent1 Ent.Heng.COUNTER_SAT, ent1 Ent.Heng.NO_QP, ent1 Ent.Port.EGRESS_FILTERED, ent1 Ent.Port.LINK_DOWNS, ent1
  Ent.Port.PORT_SAT, ent1 Ent.Port.TX_BYTES, ent1 Ent.Port.TX_FRAMES, ent1 Ent.Pq.COPIES_DROPPED, ent1 Ent.Pq.CT_ABORTED, ent1 Ent.Pq.NO_DESC, ent1
  Ent.Pq.OVERSIZE, ent1 Ent.Pq.PORT_SAT, ent1 Ent.Pq.Q_SAT, ent1 Ent.Stn.COUNTER_SAT, ent1 Ent.Stn.LOSSES, ent1 Ent.Stn.STATE, ent2
  Ent.Pq.DROP_DISABLED, ent2 Ent.Pq.DROP_DOWN, ent2 Ent.Pq.DROP_FULL, ent2 Ent.Pq.DROP_RESIDENCE, ent2 Ent.Pq.DROP_STW], [word0 Rg.Smb.DONE, word0
  Rg.Smb.MB_LEN, word0 Rg.Smb.MB_TOTAL, word1 Rg.Hpg.RING_EN, word1 Rg.Hpg.RING_HEAD, word1 Rg.Mb.DONE, word1 Rg.Mb.MB_LEN, word1 Rg.Mb.MB_TOTAL,
  word1 Rg.Plat.SYS_IRQ, word1 Rg.Smb.MB_DATA, word2 Rg.Ctx.BST_ADDR_HI, word2 Rg.Ctx.BST_ADDR_LO, word2 Rg.Ctx.FAILED, word2 Rg.Ctx.FAR_CODE, word2
  Rg.Ctx.IRQ, word2 Rg.Ctx.PW_DONE, word2 Rg.Ctx.SESSION, word2 Rg.Ep.MERGED, word2 Rg.Mb.MB_DATA, word2 fun u k => rmb u k Rg.Mb.CODE, word2 fun u k
  => rmb u k Rg.Mb.GO, word2 fun u k => rmb u k Rg.Mb.MB_LEN, word2 fun u k => rmb u k Rg.Mb.MB_TOTAL, word3 fun u k i => rmb u k fun n =>
  Rg.Mb.MB_DATA n i]⟩
def foot324 : Foot := ⟨[.mem, .logs, .dma, .tenants], [ent0 Ent.Evlog.LAST_SEQ, ent0 Ent.Evlog.LOG_LOST, ent1 Ent.Bu.COUNTER_SAT, ent1
  Ent.Bu.EVT_UNKNOWN, ent1 Ent.Hall.RING_LOST], [word1 Rg.Hpg.RING_HEAD, word2 Rg.Ep.EVT_PENDING, word2 Rg.Ep.EVT_SEQ, word2 Rg.Ep.MERGED, word2
  Rg.Ep.SIDEBAND]⟩
def foot325 : Foot := ⟨[.d0, .br], [], []⟩
def foot326 : Foot := ⟨[.br], [], [word2 Rg.Ctx.DONE, word2 Rg.Ctx.IRQ]⟩
def foot327 : Foot := ⟨[.mem, .logs, .can, .dma, .tenants], [ent0 Ent.Evlog.LAST_SEQ, ent0 Ent.Evlog.LOG_LOST, ent1 Ent.CanSt.COUNTER_SAT, ent1
  Ent.CanSt.FIFO_OVF, ent1 Ent.Hall.RING_LOST], [word1 Rg.Ch.IRQ, word1 Rg.Ch.OVF, word1 Rg.Hpg.RING_HEAD]⟩
def foot328 : Foot := ⟨[.mem, .logs, .dma, .tenants], [ent0 Ent.Evlog.LAST_SEQ, ent0 Ent.Evlog.LOG_LOST, ent0 Ent.Tws.COUNTER_SAT, ent0
  Ent.Tws.GAL_AUTH_FAIL, ent1 Ent.Hall.RING_LOST], [word1 Rg.Hpg.RING_HEAD]⟩
def foot329 : Foot := ⟨[.sto], [], [word1 Rg.Stg.ACTIVE]⟩
def foot330 : Foot := ⟨[.sto], [], [word1 Rg.Stg.ACTIVE, word1 Rg.Stg.HEAD]⟩
def foot331 : Foot := ⟨[.mem, .logs, .dma, .tenants], [ent0 Ent.Evlog.LAST_SEQ, ent0 Ent.Evlog.LOG_LOST, ent0 Ent.Sto.HEALTH, ent1
  Ent.Hall.COUNTER_SAT, ent1 Ent.Hall.RING_LOST], [word1 Rg.Hpg.RING_EN, word1 Rg.Hpg.RING_HEAD, word1 Rg.Plat.SYS_IRQ]⟩
def foot332 : Foot := ⟨[.mem, .logs, .dma, .tenants], [ent0 Ent.Evlog.LAST_SEQ, ent0 Ent.Evlog.LOG_LOST, ent1 Ent.Hall.RING_LOST, ent1
  Ent.Port.PORT_SAT, ent1 Ent.Port.RX_BYTES, ent1 Ent.Port.RX_FCS, ent1 Ent.Port.RX_FRAMES], [word1 Rg.Hpg.RING_HEAD]⟩
def foot333 : Foot := ⟨[.mem, .logs, .load, .dma, .tenants], [ent0 Ent.Evlog.LAST_SEQ, ent0 Ent.Evlog.LOG_LOST, ent1 Ent.Hall.COUNTER_SAT, ent1
  Ent.Hall.RING_LOST, ent1 Ent.Lc.COUNTER_SAT, ent1 Ent.Lc.FLAGS, ent1 Ent.Lc.LATCHES, ent1 Ent.Lc.STATE], [word1 Rg.Hpg.RING_EN, word1
  Rg.Hpg.RING_HEAD, word1 Rg.Plat.SYS_IRQ]⟩
def foot334 : Foot := ⟨[.mem, .logs, .dma, .tenants], [ent0 Ent.Evlog.LAST_SEQ, ent0 Ent.Evlog.LOG_LOST, ent0 Ent.Sto.BAD_GROWN, ent0
  Ent.Sto.CORRECTED_CW, ent0 Ent.Sto.COUNTER_SAT, ent0 Ent.Sto.ERASE_MAX, ent0 Ent.Sto.ERASE_MEAN, ent0 Ent.Sto.HEALTH, ent0 Ent.Sto.LIFE_USED, ent0
  Ent.Sto.NAND_WRITE_BYTES, ent0 Ent.Sto.SPARE_BLOCKS, ent1 Ent.Hall.COUNTER_SAT, ent1 Ent.Hall.RING_LOST], [word1 Rg.Hpg.RING_EN, word1
  Rg.Hpg.RING_HEAD, word1 Rg.Plat.SYS_IRQ]⟩
def foot335 : Foot := ⟨[.mem, .logs, .dma, .tenants], [ent0 Ent.Evlog.LAST_SEQ, ent0 Ent.Evlog.LOG_LOST, ent0 Ent.Ndp.COUNTER_SAT, ent0
  Ent.Ndp.RX_DROPPED, ent1 Ent.Hall.RING_LOST], [word1 Rg.Hpg.RING_HEAD]⟩
def foot336 : Foot := ⟨[.mem, .logs, .d0, .sw, .dma, .tenants], [ent0 Ent.Evlog.LAST_SEQ, ent0 Ent.Evlog.LOG_LOST, ent0 Ent.Ndp.COUNTER_SAT, ent0
  Ent.Ndp.RX_DROPPED, ent0 Ent.Ndp.RX_REQUESTS, ent0 Ent.Stw.COUNTER_SAT, ent0 Ent.Stw.STW_ECC_DROPS, ent1 Ent.Hall.COUNTER_SAT, ent1
  Ent.Hall.FROZEN_DROPS, ent1 Ent.Hall.RING_LOST, ent1 Ent.Heng.COUNTER_SAT, ent1 Ent.Heng.NO_QP, ent1 Ent.Port.EGRESS_FILTERED, ent1
  Ent.Port.PORT_SAT, ent1 Ent.Pq.CT_ABORTED, ent1 Ent.Pq.NO_DESC, ent1 Ent.Pq.OVERSIZE, ent1 Ent.Pq.PORT_SAT, ent1 Ent.Pq.Q_SAT, ent2
  Ent.Pq.DROP_DISABLED, ent2 Ent.Pq.DROP_DOWN, ent2 Ent.Pq.DROP_FULL, ent2 Ent.Pq.DROP_RESIDENCE, ent2 Ent.Pq.DROP_STW], [word1 Rg.Hpg.RING_HEAD]⟩
def foot337 : Foot := ⟨[.mem, .logs, .limits, .dma, .tenants], [ent0 Ent.Evlog.LAST_SEQ, ent0 Ent.Evlog.LOG_LOST, ent1 Ent.CanSt.COUNTER_SAT, ent1
  Ent.CanSt.RX_LOST, ent1 Ent.Hall.RING_LOST], [word1 Rg.Ch.IRQ, word1 Rg.Hpg.RING_HEAD, word2 Rg.Obj.NEW]⟩
def foot338 : Foot := ⟨[.mem, .logs, .limits, .can, .dma, .tenants], [ent0 Ent.Evlog.LAST_SEQ, ent0 Ent.Evlog.LOG_LOST, ent1 Ent.CanSt.COUNTER_SAT,
  ent1 Ent.CanSt.RX_LOST, ent1 Ent.Hall.RING_LOST], [word1 Rg.Ch.IRQ, word1 Rg.Hpg.RING_HEAD, word2 Rg.Obj.EXPIRED, word2 Rg.Obj.ID, word2 Rg.Obj.NEW,
  word2 Rg.Obj.STAMP, word2 Rg.Obj.TGEN, word3 Rg.Obj.DATA]⟩
def foot339 : Foot := ⟨[.mem, .logs, .limits, .can, .dma, .tenants], [ent0 Ent.Evlog.LAST_SEQ, ent0 Ent.Evlog.LOG_LOST, ent1 Ent.CanSt.COUNTER_SAT,
  ent1 Ent.CanSt.FIFO_OVF, ent1 Ent.CanSt.RX_LOST, ent1 Ent.CanSt.RX_UNMATCHED, ent1 Ent.Hall.RING_LOST], [word1 Rg.Ch.IRQ, word1 Rg.Ch.OVF, word1
  Rg.Hpg.RING_HEAD, word2 Rg.Obj.EXPIRED, word2 Rg.Obj.ID, word2 Rg.Obj.NEW, word2 Rg.Obj.STAMP, word2 Rg.Obj.TGEN, word3 Rg.Obj.DATA]⟩
def foot340 : Foot := ⟨[.mem, .free, .logs, .limits, .can, .scan, .dma, .tenants, .twin], [ent0 Ent.Evlog.LAST_SEQ, ent0 Ent.Evlog.LOG_LOST, ent1
  Ent.CanSt.COUNTER_SAT, ent1 Ent.CanSt.FIFO_OVF, ent1 Ent.CanSt.RX_LOST, ent1 Ent.CanSt.RX_UNMATCHED, ent1 Ent.Hall.RING_LOST, ent1
  Ent.Port.PORT_SAT, ent1 Ent.Port.TX_BYTES, ent1 Ent.Port.TX_FRAMES, ent1 Ent.Stn.COUNTER_SAT, ent1 Ent.Stn.LOSSES, ent1 Ent.Stn.STATE, ent1
  Ent.Task.COUNTER_SAT, ent1 Ent.Task.MERGED], [word0 Rg.M0Cpg.WFI, word1 Rg.Ch.IRQ, word1 Rg.Ch.OVF, word1 Rg.Cpg.WFI, word1 Rg.Hpg.RING_HEAD, word1
  Rg.Plat.SYS_IRQ, word1 Rg.Src.PENDING, word2 Rg.Obj.EXPIRED, word2 Rg.Obj.ID, word2 Rg.Obj.NEW, word2 Rg.Obj.STAMP, word2 Rg.Obj.TGEN, word3
  Rg.Obj.DATA]⟩
def foot341 : Foot := ⟨[.mem, .free, .logs, .dma, .tenants], [ent0 Ent.Evlog.LAST_SEQ, ent0 Ent.Evlog.LOG_LOST, ent1 Ent.Hall.RING_LOST], [word1
  Rg.Hpg.RING_HEAD, word1 Rg.Plat.SYS_IRQ]⟩
def foot342 : Foot := ⟨[.twin], [ent0 Ent.Tws.PATHS], []⟩
def foot343 : Foot := ⟨[.mem, .logs, .time, .dma, .tenants, .clk], [ent0 Ent.Clk.SSC_ACTIVE, ent0 Ent.Evlog.LAST_SEQ, ent0 Ent.Evlog.LOG_LOST, ent1
  Ent.Dom.SOURCE, ent1 Ent.Hall.RING_LOST], [word1 Rg.Hpg.RING_HEAD, word1 Rg.Plat.SYS_IRQ]⟩
def foot344 : Foot := ⟨[.mem, .logs, .limits, .d0, .sw, .can, .power, .br, .dma, .tenants, .twin], [ent0 Ent.Evlog.LAST_SEQ, ent0 Ent.Evlog.LOG_LOST,
  ent0 Ent.Stw.COUNTER_SAT, ent0 Ent.Stw.STW_ECC_DROPS, ent1 Ent.CanCo.SDO_LAST_STATUS, ent1 Ent.CanSt.COUNTER_SAT, ent1 Ent.CanSt.TX_DISCARDED, ent1
  Ent.Hall.COUNTER_SAT, ent1 Ent.Hall.FROZEN_DROPS, ent1 Ent.Hall.RING_LOST, ent1 Ent.Heng.COUNTER_SAT, ent1 Ent.Heng.NO_QP, ent1
  Ent.Port.EGRESS_FILTERED, ent1 Ent.Port.PORT_SAT, ent1 Ent.Port.TX_BYTES, ent1 Ent.Port.TX_FRAMES, ent1 Ent.Pq.CT_ABORTED, ent1 Ent.Pq.NO_DESC, ent1
  Ent.Pq.OVERSIZE, ent1 Ent.Pq.PORT_SAT, ent1 Ent.Pq.Q_SAT, ent2 Ent.Pq.DROP_DISABLED, ent2 Ent.Pq.DROP_DOWN, ent2 Ent.Pq.DROP_FULL, ent2
  Ent.Pq.DROP_RESIDENCE, ent2 Ent.Pq.DROP_STW], [word0 Rg.Smb.DONE, word0 Rg.Smb.MB_LEN, word0 Rg.Smb.MB_TOTAL, word1 Rg.Hpg.RING_HEAD, word1
  Rg.Mb.DONE, word1 Rg.Mb.MB_LEN, word1 Rg.Mb.MB_TOTAL, word1 Rg.Smb.MB_DATA, word2 Rg.Mb.MB_DATA]⟩
def foot345 : Foot := ⟨[.mem, .free, .logs, .dma, .tenants, .sto], [ent0 Ent.Evlog.LAST_SEQ, ent0 Ent.Evlog.LOG_LOST, ent0 Ent.Sto.COUNTER_SAT, ent0
  Ent.Sto.UNCORRECTABLE, ent1 Ent.Hall.COUNTER_SAT, ent1 Ent.Hall.RING_LOST], [word1 Rg.Hpg.RING_EN, word1 Rg.Hpg.RING_HEAD, word1 Rg.Plat.SYS_IRQ]⟩
def foot346 : Foot := ⟨[.mem, .free, .logs, .dma, .tenants, .sto], [ent0 Ent.Evlog.LAST_SEQ, ent0 Ent.Evlog.LOG_LOST, ent0 Ent.Sto.COUNTER_SAT, ent0
  Ent.Sto.READ_BYTES, ent0 Ent.Sto.UNCORRECTABLE, ent1 Ent.Hall.COUNTER_SAT, ent1 Ent.Hall.RING_LOST, ent1 Ent.Part.COUNTER_SAT, ent1
  Ent.Part.READ_BYTES], [word1 Rg.Hpg.RING_EN, word1 Rg.Hpg.RING_HEAD, word1 Rg.Plat.SYS_IRQ, word1 Rg.Stg.ACTIVE]⟩
def foot347 : Foot := ⟨[.mem, .logs, .dma, .tenants], [ent0 Ent.Evlog.LAST_SEQ, ent0 Ent.Evlog.LOG_LOST, ent1 Ent.Hall.RING_LOST], [word1 Rg.Ch.IRQ,
  word1 Rg.Ch.TEC, word1 Rg.Hpg.RING_HEAD]⟩
def foot348 : Foot := ⟨[.mem, .free, .logs, .dma, .tenants], [ent0 Ent.Evlog.LAST_SEQ, ent0 Ent.Evlog.LOG_LOST, ent1 Ent.Hall.RING_LOST], [word1
  Rg.Ch.IRQ, word1 Rg.Ch.TEC, word1 Rg.Hpg.RING_HEAD]⟩
def foot349 : Foot := ⟨[.can], [], [word1 Rg.Ch.IRQ, word1 Rg.Ch.REF_RX_INFO, word1 Rg.Ch.REF_RX_SEC, word1 Rg.Ch.REF_RX_STAMP, word1
  Rg.Ch.REF_RX_TIME]⟩
def foot350 : Foot := ⟨[.mem, .free, .logs, .limits, .time, .d0, .sw, .can, .power, .br, .load, .adc, .scan, .dma, .tenants, .clk, .twin], [ent0
  Ent.Chg.CHANGES, ent0 Ent.Chg.CHANGE_RESULT, ent0 Ent.Chg.CHANGE_STATE, ent0 Ent.Chg.CHANGE_STATUS, ent0 Ent.Chg.COUNTER_SAT, ent0 Ent.Chg.REFUSALS,
  ent0 Ent.Clk.SSC_ACTIVE, ent0 Ent.Evlog.LAST_SEQ, ent0 Ent.Evlog.LOG_LOST, ent0 Ent.Se.CMD_STATUS, ent0 Ent.Se.FAULT_CAUSE, ent0 Ent.Se.STATE, ent0
  Ent.Stw.COUNTER_SAT, ent0 Ent.Stw.STW_ECC_DROPS, ent0 Ent.Time.COUNTER_SAT, ent0 Ent.Time.MASTER_OFFSET, ent0 Ent.Time.STEPS, ent0
  Ent.Tws.CMD_STATUS, ent0 Ent.Tws.COUNTER_SAT, ent0 Ent.Tws.REPL_LATE, ent0 Ent.Tws.ROLE, ent1 Ent.Adc.COUNTER_SAT, ent1 Ent.Adc.OVERLAPS, ent1
  Ent.CanCo.SDO_LAST_STATUS, ent1 Ent.CanSt.COUNTER_SAT, ent1 Ent.CanSt.REF_LATE, ent1 Ent.CanSt.TX_DISCARDED, ent1 Ent.Hall.COUNTER_SAT, ent1
  Ent.Hall.FROZEN_DROPS, ent1 Ent.Hall.RING_LOST, ent1 Ent.Heng.COUNTER_SAT, ent1 Ent.Heng.NO_QP, ent1 Ent.Lc.FLAGS, ent1 Ent.Lc.STATE, ent1
  Ent.Port.EGRESS_FILTERED, ent1 Ent.Port.PORT_SAT, ent1 Ent.Port.TX_BYTES, ent1 Ent.Port.TX_FRAMES, ent1 Ent.Port.TX_OVERRUN, ent1 Ent.Pq.CT_ABORTED,
  ent1 Ent.Pq.NO_DESC, ent1 Ent.Pq.OVERSIZE, ent1 Ent.Pq.PORT_SAT, ent1 Ent.Pq.Q_SAT, ent1 Ent.Stn.COUNTER_SAT, ent1 Ent.Stn.LOSSES, ent1
  Ent.Stn.STATE, ent1 Ent.Stn.TX_FRAMES, ent1 Ent.Task.COUNTER_SAT, ent1 Ent.Task.MERGED, ent1 Ent.Task.SKIPPED, ent1 Ent.Trgu.COUNTER_SAT, ent1
  Ent.Trgu.ENABLE, ent1 Ent.Trgu.FIRED, ent1 Ent.Trgu.MISSED, ent1 Ent.Trgu.NEXT_NS, ent1 Ent.Trgu.START_NS, ent2 Ent.Pq.DROP_DISABLED, ent2
  Ent.Pq.DROP_DOWN, ent2 Ent.Pq.DROP_FULL, ent2 Ent.Pq.DROP_RESIDENCE, ent2 Ent.Pq.DROP_STW], [word0 Rg.M0Cpg.DEPTH, word0 Rg.M0Cpg.WFI, word0
  Rg.Smb.DONE, word0 Rg.Smb.MB_LEN, word0 Rg.Smb.MB_TOTAL, word1 Rg.Adcr.BUSY, word1 Rg.Adcr.IRQ, word1 Rg.Cpg.DEPTH, word1 Rg.Cpg.WFI, word1
  Rg.Hpg.RING_EN, word1 Rg.Hpg.RING_HEAD, word1 Rg.M0Cpg.STK_SRC, word1 Rg.Mb.DONE, word1 Rg.Mb.MB_LEN, word1 Rg.Mb.MB_TOTAL, word1 Rg.Plat.SYS_IRQ,
  word1 Rg.Smb.MB_DATA, word1 Rg.Src.PENDING, word2 Rg.Cpg.STK_SRC, word2 Rg.Mb.MB_DATA]⟩
def foot351 : Foot := ⟨[.mem, .free, .logs, .limits, .time, .d0, .sw, .can, .power, .br, .load, .adc, .scan, .dma, .tenants, .clk, .twin], [ent0
  Ent.Chg.CHANGES, ent0 Ent.Chg.CHANGE_RESULT, ent0 Ent.Chg.CHANGE_STATE, ent0 Ent.Chg.CHANGE_STATUS, ent0 Ent.Chg.COUNTER_SAT, ent0 Ent.Chg.REFUSALS,
  ent0 Ent.Clk.SSC_ACTIVE, ent0 Ent.Evlog.LAST_SEQ, ent0 Ent.Evlog.LOG_LOST, ent0 Ent.Se.CMD_STATUS, ent0 Ent.Se.FAULT_CAUSE, ent0 Ent.Se.STATE, ent0
  Ent.Stw.COUNTER_SAT, ent0 Ent.Stw.STW_ECC_DROPS, ent0 Ent.Time.COUNTER_SAT, ent0 Ent.Time.MASTER_OFFSET, ent0 Ent.Time.STEPS, ent0
  Ent.Tws.CMD_STATUS, ent0 Ent.Tws.COUNTER_SAT, ent0 Ent.Tws.REPL_LATE, ent0 Ent.Tws.ROLE, ent1 Ent.Adc.COUNTER_SAT, ent1 Ent.Adc.OVERLAPS, ent1
  Ent.CanCo.SDO_LAST_STATUS, ent1 Ent.CanSt.COUNTER_SAT, ent1 Ent.CanSt.REF_LATE, ent1 Ent.CanSt.TX_DISCARDED, ent1 Ent.Hall.COUNTER_SAT, ent1
  Ent.Hall.FROZEN_DROPS, ent1 Ent.Hall.RING_LOST, ent1 Ent.Heng.COUNTER_SAT, ent1 Ent.Heng.NO_QP, ent1 Ent.Lc.FLAGS, ent1 Ent.Lc.STATE, ent1
  Ent.Port.EGRESS_FILTERED, ent1 Ent.Port.PORT_SAT, ent1 Ent.Port.TX_BYTES, ent1 Ent.Port.TX_FRAMES, ent1 Ent.Port.TX_OVERRUN, ent1 Ent.Pq.CT_ABORTED,
  ent1 Ent.Pq.NO_DESC, ent1 Ent.Pq.OVERSIZE, ent1 Ent.Pq.PORT_SAT, ent1 Ent.Pq.Q_SAT, ent1 Ent.Stn.COUNTER_SAT, ent1 Ent.Stn.LOSSES, ent1
  Ent.Stn.STATE, ent1 Ent.Stn.TX_FRAMES, ent1 Ent.Task.COUNTER_SAT, ent1 Ent.Task.MERGED, ent1 Ent.Task.SKIPPED, ent1 Ent.Trgu.COUNTER_SAT, ent1
  Ent.Trgu.ENABLE, ent1 Ent.Trgu.FIRED, ent1 Ent.Trgu.MISSED, ent1 Ent.Trgu.NEXT_NS, ent1 Ent.Trgu.START_NS, ent2 Ent.Pq.DROP_DISABLED, ent2
  Ent.Pq.DROP_DOWN, ent2 Ent.Pq.DROP_FULL, ent2 Ent.Pq.DROP_RESIDENCE, ent2 Ent.Pq.DROP_STW], [word0 Rg.M0Cpg.DEPTH, word0 Rg.M0Cpg.WFI, word0
  Rg.Smb.DONE, word0 Rg.Smb.MB_LEN, word0 Rg.Smb.MB_TOTAL, word1 Rg.Adcr.BUSY, word1 Rg.Adcr.IRQ, word1 Rg.Ch.IRQ, word1 Rg.Ch.REF_RX_INFO, word1
  Rg.Ch.REF_RX_SEC, word1 Rg.Ch.REF_RX_STAMP, word1 Rg.Ch.REF_RX_TIME, word1 Rg.Cpg.DEPTH, word1 Rg.Cpg.WFI, word1 Rg.Hpg.RING_EN, word1
  Rg.Hpg.RING_HEAD, word1 Rg.M0Cpg.STK_SRC, word1 Rg.Mb.DONE, word1 Rg.Mb.MB_LEN, word1 Rg.Mb.MB_TOTAL, word1 Rg.Plat.SYS_IRQ, word1 Rg.Smb.MB_DATA,
  word1 Rg.Src.PENDING, word2 Rg.Cpg.STK_SRC, word2 Rg.Mb.MB_DATA]⟩
def foot352 : Foot := ⟨[.mem, .logs, .scan, .dma, .tenants], [ent0 Ent.Evlog.LAST_SEQ, ent0 Ent.Evlog.LOG_LOST, ent1 Ent.Hall.RING_LOST], [word1
  Rg.Hpg.RING_HEAD, word1 Rg.Plat.SYS_IRQ]⟩
def foot353 : Foot := ⟨[.mem, .logs, .scan, .dma, .tenants], [ent0 Ent.Evlog.LAST_SEQ, ent0 Ent.Evlog.LOG_LOST, ent1 Ent.Hall.RING_LOST, ent1
  Ent.Stn.STATE], [word1 Rg.Hpg.RING_HEAD, word1 Rg.Plat.SYS_IRQ]⟩
def foot354 : Foot := ⟨[.mem, .logs, .scan, .dma, .tenants], [ent0 Ent.Evlog.LAST_SEQ, ent0 Ent.Evlog.LOG_LOST, ent1 Ent.Hall.RING_LOST, ent1
  Ent.Stn.COUNTER_SAT, ent1 Ent.Stn.RX_FRAMES, ent1 Ent.Stn.STATE], [word1 Rg.Hpg.RING_HEAD, word1 Rg.Plat.SYS_IRQ]⟩
def foot355 : Foot := ⟨[.mem, .free, .logs, .limits, .adc, .dma, .tenants], [ent0 Ent.Evlog.LAST_SEQ, ent0 Ent.Evlog.LOG_LOST, ent0 Ent.Lc.SELEXT,
  ent1 Ent.Ain.FLAGS, ent1 Ent.Ain.RANGE, ent1 Ent.Ain.VALUE, ent1 Ent.Aint.INTERNAL, ent1 Ent.Hall.RING_LOST], [word1 Rg.Adcr.BUSY, word1
  Rg.Adcr.IRQ, word1 Rg.Hpg.RING_HEAD, word2 Rg.Adcr.SEQ_COUNT, word2 Rg.Adcr.STAMP, word3 Rg.Adcr.RESULT_ODD]⟩
def foot356 : Foot := ⟨[.mem, .dma, .tenants], [], [word1 Rg.Qpr.IRQ, word1 Rg.Qpr.RX_HEAD]⟩
def foot357 : Foot := ⟨[.mem, .logs, .limits, .dma, .tenants], [ent0 Ent.Evlog.LAST_SEQ, ent0 Ent.Evlog.LOG_LOST, ent1 Ent.Bu.COUNTER_SAT, ent1
  Ent.Bu.RX_REJECTED, ent1 Ent.Hall.RING_LOST], [word1 Rg.Hpg.RING_HEAD]⟩
def foot358 : Foot := ⟨[.mem, .logs, .d0, .can, .dma, .tenants], [ent0 Ent.Evlog.LAST_SEQ, ent0 Ent.Evlog.LOG_LOST, ent1 Ent.CanCo.SDO_LAST_STATUS,
  ent1 Ent.CanSt.COUNTER_SAT, ent1 Ent.CanSt.TX_DISCARDED, ent1 Ent.Hall.RING_LOST], [word1 Rg.Hpg.RING_HEAD]⟩
def foot359 : Foot := ⟨[.free, .load], [ent1 Ent.Lc.CURRENT_MA, ent1 Ent.Lc.FLAGS], []⟩
def foot360 : Foot := ⟨[.free, .load], [ent1 Ent.Lc.CURRENT_MA, ent1 Ent.Lc.FLAGS, ent1 Ent.Lc.TJ_C, ent1 Ent.Lcg.DELTA_T_K, ent1 Ent.Lcg.DIE_TEMP_C,
  ent1 Ent.Lcg.VBAT_MV], []⟩
def foot361 : Foot := ⟨[.mem, .logs, .d0, .can, .dma, .tenants], [ent0 Ent.Evlog.LAST_SEQ, ent0 Ent.Evlog.LOG_LOST, ent1 Ent.CanCo.NMT, ent1
  Ent.CanCo.SDO_LAST_STATUS, ent1 Ent.CanSt.COUNTER_SAT, ent1 Ent.CanSt.TX_DISCARDED, ent1 Ent.Co.CONSUMER_HB, ent1 Ent.Co.RPDO_CHANNEL, ent1
  Ent.Co.RPDO_COB, ent1 Ent.Co.RPDO_EVENT_TIMER, ent1 Ent.Co.RPDO_INHIBIT, ent1 Ent.Co.RPDO_MAP_COUNT, ent1 Ent.Co.RPDO_SLOT, ent1 Ent.Co.RPDO_TYPE,
  ent1 Ent.Co.SDO_RX_COB, ent1 Ent.Co.SDO_TX_COB, ent1 Ent.Co.TPDO_CHANNEL, ent1 Ent.Co.TPDO_COB, ent1 Ent.Co.TPDO_EVENT_TIMER, ent1
  Ent.Co.TPDO_INHIBIT, ent1 Ent.Co.TPDO_MAP_COUNT, ent1 Ent.Co.TPDO_SLOT, ent1 Ent.Co.TPDO_TYPE, ent1 Ent.Hall.RING_LOST, ent2 Ent.Co.RPDO_MAP, ent2
  Ent.Co.TPDO_MAP], [word1 Rg.Hpg.RING_HEAD]⟩
def foot362 : Foot := ⟨[.mem, .free, .logs, .limits, .br, .dma, .tenants], [ent0 Ent.Evlog.LAST_SEQ, ent0 Ent.Evlog.LOG_LOST, ent1 Ent.Bu.COUNTER_SAT,
  ent1 Ent.Bu.RX_REJECTED, ent1 Ent.Hall.RING_LOST], [word1 Rg.Hpg.RING_HEAD]⟩
def foot363 : Foot := ⟨[], [ent1 Ent.Ptime.MEAN_LINK_DELAY], []⟩
def foot364 : Foot := ⟨[.supply], [], []⟩
def foot365 : Foot := ⟨[.mem, .logs, .sw, .dma, .tenants], [ent0 Ent.Evlog.LAST_SEQ, ent0 Ent.Evlog.LOG_LOST, ent1 Ent.Hall.RING_LOST, ent1
  Ent.Pq.CT_COPIES, ent1 Ent.Pq.PORT_SAT], [word1 Rg.Hpg.RING_HEAD]⟩
def foot366 : Foot := ⟨[.mem, .free, .logs, .limits, .drains, .time, .sw, .can, .sleep, .br, .dma, .tenants, .clk, .harts, .twin], [ent0
  Ent.Clk.SSC_ACTIVE, ent0 Ent.Evlog.LAST_SEQ, ent0 Ent.Evlog.LOG_LOST, ent0 Ent.Slp.ABORTS, ent0 Ent.Slp.COUNTER_SAT, ent0 Ent.Slp.ENTRY, ent0
  Ent.Slp.POWER_REQ, ent0 Ent.Stw.COUNTER_SAT, ent0 Ent.Stw.STW_ECC_DROPS, ent1 Ent.Adc.STATE, ent1 Ent.Bctx.COUNTER_SAT, ent1 Ent.Bctx.FAILURES, ent1
  Ent.Bctx.POSTED, ent1 Ent.Bctx.READS, ent1 Ent.Bctx.RETRANSMITS, ent1 Ent.Bctx.SESSION, ent1 Ent.Bctx.STATE, ent1 Ent.Bctx.TIMEOUTS, ent1
  Ent.CanSt.COUNTER_SAT, ent1 Ent.CanSt.STATE, ent1 Ent.CanSt.TX_DISCARDED, ent1 Ent.Dma.STATE, ent1 Ent.Dom.SOURCE, ent1 Ent.Hall.COUNTER_SAT, ent1
  Ent.Hall.FROZEN_DROPS, ent1 Ent.Hall.RING_LOST, ent1 Ent.Heng.COUNTER_SAT, ent1 Ent.Heng.NO_QP, ent1 Ent.Heng.STATE, ent1 Ent.Port.EGRESS_FILTERED,
  ent1 Ent.Port.PORT_SAT, ent1 Ent.Port.STATE, ent1 Ent.Pq.CT_ABORTED, ent1 Ent.Pq.NO_DESC, ent1 Ent.Pq.OVERSIZE, ent1 Ent.Pq.PORT_SAT, ent1
  Ent.Pq.Q_SAT, ent1 Ent.Qp.STATE, ent1 Ent.Wsrc.COUNTER_SAT, ent1 Ent.Wsrc.FILTER_CUR, ent1 Ent.Wsrc.FW_COUNT, ent1 Ent.Wsrc.QUARANTINED, ent1
  Ent.Wsrc.WAKES, ent2 Ent.Pq.DROP_DISABLED, ent2 Ent.Pq.DROP_DOWN, ent2 Ent.Pq.DROP_FULL, ent2 Ent.Pq.DROP_RESIDENCE, ent2 Ent.Pq.DROP_STW, ent2
  Ent.Pq.Q_STATE], [word0 Rg.Slpr.FW_PENDING, word1 Rg.Ch.TEC, word1 Rg.Dmar.ACTIVE, word1 Rg.Hpg.RING_EN, word1 Rg.Hpg.RING_HEAD, word1
  Rg.Plat.SYS_IRQ, word2 Rg.Ctx.BST_ADDR_HI, word2 Rg.Ctx.BST_ADDR_LO, word2 Rg.Ctx.FAILED, word2 Rg.Ctx.FAR_CODE, word2 Rg.Ctx.IRQ, word2
  Rg.Ctx.SESSION, word2 Rg.Ep.MERGED, word2 fun u k => rmb u k Rg.Mb.CODE, word2 fun u k => rmb u k Rg.Mb.GO, word2 fun u k => rmb u k Rg.Mb.MB_LEN,
  word2 fun u k => rmb u k Rg.Mb.MB_TOTAL, word3 fun u k i => rmb u k fun n => Rg.Mb.MB_DATA n i]⟩
def foot367 : Foot := ⟨[.d0, .power], [], []⟩
def foot368 : Foot := ⟨[.mem, .logs, .dma, .tenants], [ent0 Ent.Evlog.LAST_SEQ, ent0 Ent.Evlog.LOG_LOST, ent1 Ent.Hall.COUNTER_SAT, ent1
  Ent.Hall.RING_LOST], [word1 Rg.Hpg.RING_EN, word1 Rg.Hpg.RING_HEAD, word1 Rg.Stg.IRQ]⟩
def foot369 : Foot := ⟨[], [], [word1 Rg.Stg.ACTIVE]⟩
def foot370 : Foot := ⟨[.mem, .logs, .d0, .sw, .can, .power, .br, .dma, .tenants, .upd, .twin], [ent0 Ent.Evlog.LAST_SEQ, ent0 Ent.Evlog.LOG_LOST,
  ent0 Ent.Stw.COUNTER_SAT, ent0 Ent.Stw.STW_ECC_DROPS, ent1 Ent.CanCo.SDO_LAST_STATUS, ent1 Ent.CanSt.COUNTER_SAT, ent1 Ent.CanSt.TX_DISCARDED, ent1
  Ent.Hall.COUNTER_SAT, ent1 Ent.Hall.FROZEN_DROPS, ent1 Ent.Hall.RING_LOST, ent1 Ent.Heng.COUNTER_SAT, ent1 Ent.Heng.NO_QP, ent1
  Ent.Port.EGRESS_FILTERED, ent1 Ent.Port.PORT_SAT, ent1 Ent.Port.TX_BYTES, ent1 Ent.Port.TX_FRAMES, ent1 Ent.Pq.CT_ABORTED, ent1 Ent.Pq.NO_DESC, ent1
  Ent.Pq.OVERSIZE, ent1 Ent.Pq.PORT_SAT, ent1 Ent.Pq.Q_SAT, ent2 Ent.Pq.DROP_DISABLED, ent2 Ent.Pq.DROP_DOWN, ent2 Ent.Pq.DROP_FULL, ent2
  Ent.Pq.DROP_RESIDENCE, ent2 Ent.Pq.DROP_STW], [word0 Rg.Smb.DONE, word0 Rg.Smb.MB_LEN, word0 Rg.Smb.MB_TOTAL, word1 Rg.Hpg.RING_HEAD, word1
  Rg.Mb.DONE, word1 Rg.Mb.MB_LEN, word1 Rg.Mb.MB_TOTAL, word1 Rg.Smb.MB_DATA, word2 Rg.Mb.MB_DATA]⟩
def foot371 : Foot := ⟨[.mem, .logs, .scan, .dma, .tenants, .twin], [ent0 Ent.Evlog.LAST_SEQ, ent0 Ent.Evlog.LOG_LOST, ent0 Ent.Frc.FORCE_COUNT, ent0
  Ent.Frc.FORCE_GEN, ent1 Ent.Hall.RING_LOST, ent1 Ent.Port.PORT_SAT, ent1 Ent.Port.TX_BYTES, ent1 Ent.Port.TX_FRAMES], [word1 Rg.Hpg.RING_HEAD]⟩
def foot372 : Foot := ⟨[.time, .scan], [ent1 Ent.Trgu.COUNT, ent1 Ent.Trgu.ENABLE, ent1 Ent.Trgu.NEXT_NS, ent1 Ent.Trgu.OWNER, ent1
  Ent.Trgu.PERIOD_NS, ent1 Ent.Trgu.START_NS, ent1 Ent.Trgu.TARGET], []⟩
def foot373 : Foot := ⟨[.mem, .epochs, .free, .logs, .time, .scan, .dma, .tenants, .upd, .twin], [ent0 Ent.Chg.CHANGE_STATE, ent0 Ent.Evlog.LAST_SEQ,
  ent0 Ent.Evlog.LOG_LOST, ent0 Ent.Frc.FORCE_COUNT, ent0 Ent.Frc.FORCE_GEN, ent0 Ent.Se.ACTIVE_ID, ent0 Ent.Se.STATE, ent0 Ent.Seimg.ACTIVE_IMAGE,
  ent1 Ent.Hall.COUNTER_SAT, ent1 Ent.Hall.RING_LOST, ent1 Ent.Port.PORT_SAT, ent1 Ent.Port.TX_BYTES, ent1 Ent.Port.TX_FRAMES, ent1
  Ent.Stn.COUNTER_SAT, ent1 Ent.Stn.LOSSES, ent1 Ent.Stn.STATE, ent1 Ent.Trgu.COUNT, ent1 Ent.Trgu.ENABLE, ent1 Ent.Trgu.NEXT_NS, ent1 Ent.Trgu.OWNER,
  ent1 Ent.Trgu.PERIOD_NS, ent1 Ent.Trgu.START_NS, ent1 Ent.Trgu.TARGET], [word0 Rg.M0Cpg.WFI, word1 Rg.Cpg.WFI, word1 Rg.Hpg.RING_EN, word1
  Rg.Hpg.RING_HEAD, word1 Rg.Plat.SYS_IRQ, word1 Rg.Src.PENDING]⟩
def foot374 : Foot := ⟨[.scan], [ent0 Ent.Frc.FORCE_COUNT, ent0 Ent.Frc.FORCE_GEN], []⟩
def foot375 : Foot := ⟨[.dict, .blobs, .mem, .logs, .d0, .sw, .can, .power, .br, .dma, .tenants, .twin], [], [word0 Rg.Smb.DONE, word0 Rg.Smb.MB_LEN,
  word0 Rg.Smb.MB_TOTAL, word1 Rg.Hpg.RING_HEAD, word1 Rg.Mb.DONE, word1 Rg.Mb.MB_LEN, word1 Rg.Mb.MB_TOTAL, word1 Rg.Smb.MB_DATA, word2
  Rg.Mb.MB_DATA]⟩
def foot376 : Foot := ⟨[.mem, .logs, .time, .sw, .scan, .dma, .tenants, .twin], [ent0 Ent.Evlog.LAST_SEQ, ent0 Ent.Evlog.LOG_LOST, ent0
  Ent.Frc.FORCE_COUNT, ent0 Ent.Frc.FORCE_GEN, ent0 Ent.Se.STATE, ent1 Ent.Hall.COUNTER_SAT, ent1 Ent.Hall.RING_LOST, ent1 Ent.Stn.STATE, ent1
  Ent.Trgu.COUNT, ent1 Ent.Trgu.ENABLE, ent1 Ent.Trgu.NEXT_NS, ent1 Ent.Trgu.OWNER, ent1 Ent.Trgu.PERIOD_NS, ent1 Ent.Trgu.START_NS, ent1
  Ent.Trgu.TARGET], [word0 Rg.M0Cpg.DEPTH, word1 Rg.Cpg.DEPTH, word1 Rg.Hpg.RING_EN, word1 Rg.Hpg.RING_HEAD, word1 Rg.M0Cpg.STK_SRC, word1
  Rg.Plat.SYS_IRQ, word1 Rg.Src.PENDING, word2 Rg.Cpg.STK_SRC]⟩
def foot377 : Foot := ⟨[.mem, .free, .logs, .limits, .drains, .d0, .sw, .can, .sleep, .power, .br, .adc, .scan, .dma, .tenants, .harts, .twin], [ent0
  Ent.Evlog.LAST_SEQ, ent0 Ent.Evlog.LOG_LOST, ent0 Ent.Stw.COUNTER_SAT, ent0 Ent.Stw.STW_ECC_DROPS, ent0 Ent.Tws.PATHS, ent0 Ent.Tws.ROLE, ent1
  Ent.Adc.STATE, ent1 Ent.Bctx.COUNTER_SAT, ent1 Ent.Bctx.FAILURES, ent1 Ent.Bctx.POSTED, ent1 Ent.Bctx.READS, ent1 Ent.Bctx.RETRANSMITS, ent1
  Ent.Bctx.SESSION, ent1 Ent.Bctx.STATE, ent1 Ent.Bctx.TIMEOUTS, ent1 Ent.CanCo.SDO_LAST_STATUS, ent1 Ent.CanSt.COUNTER_SAT, ent1 Ent.CanSt.STATE,
  ent1 Ent.CanSt.TX_DISCARDED, ent1 Ent.Dma.BYTES, ent1 Ent.Dma.COUNTER_SAT, ent1 Ent.Dma.DESCRIPTORS, ent1 Ent.Dma.ERRORS, ent1 Ent.Dma.STALE, ent1
  Ent.Dma.STATE, ent1 Ent.Hall.CMD_STATUS, ent1 Ent.Hall.COUNTER_SAT, ent1 Ent.Hall.FROZEN_DROPS, ent1 Ent.Hall.RING_LOST, ent1 Ent.Hall.STATE, ent1
  Ent.Heng.COUNTER_SAT, ent1 Ent.Heng.NO_QP, ent1 Ent.Heng.STATE, ent1 Ent.Lc.FLAGS, ent1 Ent.Port.EGRESS_FILTERED, ent1 Ent.Port.LINK_DOWNS, ent1
  Ent.Port.PORT_SAT, ent1 Ent.Port.STATE, ent1 Ent.Port.TX_BYTES, ent1 Ent.Port.TX_FRAMES, ent1 Ent.Pq.COPIES_DROPPED, ent1 Ent.Pq.CT_ABORTED, ent1
  Ent.Pq.NO_DESC, ent1 Ent.Pq.OVERSIZE, ent1 Ent.Pq.PORT_SAT, ent1 Ent.Pq.Q_SAT, ent1 Ent.Qp.COUNTER_SAT, ent1 Ent.Qp.ERR_LOST, ent1 Ent.Qp.STATE,
  ent1 Ent.Qp.TX_ERRORS, ent1 Ent.Qp.TX_FRAMES, ent1 Ent.Stn.COUNTER_SAT, ent1 Ent.Stn.LOSSES, ent1 Ent.Stn.STATE, ent2 Ent.Pq.DROP_DISABLED, ent2
  Ent.Pq.DROP_DOWN, ent2 Ent.Pq.DROP_FULL, ent2 Ent.Pq.DROP_RESIDENCE, ent2 Ent.Pq.DROP_STW, ent2 Ent.Pq.Q_STATE], [word0 Rg.Smb.DONE, word0
  Rg.Smb.MB_LEN, word0 Rg.Smb.MB_TOTAL, word1 Rg.Adcr.BUSY, word1 Rg.Ch.IRQ, word1 Rg.Dmar.ACTIVE, word1 Rg.Dmar.HEAD, word1 Rg.Dmar.IRQ, word1
  Rg.Hpg.RING_EN, word1 Rg.Hpg.RING_HEAD, word1 Rg.Mb.DONE, word1 Rg.Mb.MB_LEN, word1 Rg.Mb.MB_TOTAL, word1 Rg.Plat.SYS_IRQ, word1 Rg.Qpr.ERR_HEAD,
  word1 Rg.Qpr.IRQ, word1 Rg.Qpr.TX_HEAD, word1 Rg.Smb.MB_DATA, word2 Rg.Ctx.BST_ADDR_HI, word2 Rg.Ctx.BST_ADDR_LO, word2 Rg.Ctx.FAILED, word2
  Rg.Ctx.FAR_CODE, word2 Rg.Ctx.IRQ, word2 Rg.Ctx.PW_DONE, word2 Rg.Ctx.SESSION, word2 Rg.Ep.MERGED, word2 Rg.Mb.MB_DATA, word2 Rg.Txb.CODE, word2 fun
  u k => rmb u k Rg.Mb.CODE, word2 fun u k => rmb u k Rg.Mb.GO, word2 fun u k => rmb u k Rg.Mb.MB_LEN, word2 fun u k => rmb u k Rg.Mb.MB_TOTAL, word3
  fun u k i => rmb u k fun n => Rg.Mb.MB_DATA n i]⟩
def foot378 : Foot := ⟨[.mem, .logs, .dma, .tenants, .sto], [ent0 Ent.Evlog.LAST_SEQ, ent0 Ent.Evlog.LOG_LOST, ent0 Ent.Sto.COUNTER_SAT, ent0
  Ent.Sto.HOST_WRITE_BYTES, ent1 Ent.Hall.RING_LOST, ent1 Ent.Part.COUNTER_SAT, ent1 Ent.Part.WRITE_BYTES], [word1 Rg.Hpg.RING_HEAD, word1
  Rg.Stg.ACTIVE]⟩

theorem Dev.partApplied_only (d : Dev) (h : Nat) : Only foot181 d (Dev.partApplied d h) := by
  unfold Dev.partApplied
  repeat' first
    | with_reducible exact Only.refl
    | with_reducible apply Foot.Sub.mk; decide +kernel
    | with_reducible apply Only.step (Dev.trimFrom_only ..)

theorem Dev.takeSolo_only (d : Dev) : Only foot290 d (Dev.takeSolo d) := by
  unfold Dev.takeSolo
  repeat' first
    | with_reducible exact Only.refl
    | with_reducible apply Foot.Sub.mk; decide +kernel
    | with_reducible apply Only.ite
    | with_reducible apply Only.step (Dev.setRole_only ..)
    | with_reducible apply Only.step (Dev.startEngine_only ..)

theorem Dev.twcApplied_only (d : Dev) (old : Dev) : Only foot291 d (Dev.twcApplied d old) := by
  unfold Dev.twcApplied
  repeat' first
    | with_reducible exact Only.refl
    | with_reducible apply Foot.Sub.mk; decide +kernel
    | with_reducible apply Only.ite
    | with_reducible apply Only.step (Dev.faultRefresh_only ..)
    | with_reducible apply Only.step (Dev.setTwin_only ..)
    | with_reducible apply Only.step (Dev.takeSolo_only ..)

theorem Dev.groupApplied.second_only (d : Dev) (old : Dev) (i : Nat) : Only foot292 d (Dev.groupApplied.second d old i) := by
  unfold Dev.groupApplied.second
  repeat' first
    | with_reducible exact Only.refl
    | with_reducible apply Foot.Sub.mk; decide +kernel
    | with_reducible apply Only.ite
    | with_reducible apply Only.step (Dev.ainApplied_only ..)
    | with_reducible apply Only.step (Dev.bctxApplied_only ..)
    | with_reducible apply Only.step (Dev.canApplied_only ..)
    | with_reducible apply Only.step (Dev.canCoApplied_only ..)
    | with_reducible apply Only.step (Dev.canObjApplied_only ..)
    | with_reducible apply Only.step (Dev.hallsMibApplied_only ..)
    | with_reducible apply Only.step (Dev.partApplied_only ..)
    | with_reducible apply Only.step (Dev.refreshDomain_only ..)
    | with_reducible apply Only.step (Dev.slotApplied_only ..)
    | with_reducible apply Only.step (Dev.twcApplied_only ..)
    | dsimp only
    | split

theorem Dev.groupApplied_only (d : Dev) (old : Dev) (i : Nat) : Only foot293 d (Dev.groupApplied d old i) := by
  unfold Dev.groupApplied
  repeat' first
    | with_reducible exact Only.refl
    | with_reducible apply Foot.Sub.mk; decide +kernel
    | with_reducible apply Only.ite
    | with_reducible apply Only.step (Dev.allocLines_only ..)
    | with_reducible apply Only.step (Dev.clkApplied_only ..)
    | with_reducible apply Only.step (Dev.closeSessions_only ..)
    | with_reducible apply Only.step (Dev.dmaApplied_only ..)
    | with_reducible apply Only.step (Dev.gclApplied_only ..)
    | with_reducible apply Only.step (Dev.groupApplied.second_only ..)
    | with_reducible apply Only.step (Dev.hallGroupApplied_only ..)
    | with_reducible apply Only.step (Dev.keyApplied_only ..)
    | with_reducible apply Only.step (Dev.pairApplied_only ..)
    | with_reducible apply Only.step (Dev.portApplied_only ..)
    | with_reducible apply Only.step (Dev.ptpRestart_only ..)
    | with_reducible apply Only.step (Dev.ptpRoles_only ..)
    | with_reducible apply Only.step (Dev.qpApplied_only ..)
    | with_reducible apply Only.step (Dev.quotaLine_only ..)
    | with_reducible apply Only.step (Dev.sharedSizeSet_only ..)
    | with_reducible apply Only.step (Dev.srcConfigApplied_only ..)
    | with_reducible apply Only.step (Dev.tablesSwitched_only ..)
    | with_reducible apply Only.step (Dev.trigApplied_only ..)
    | with_reducible apply Only.step (Dev.windowsApplied_only ..)

theorem Dev.putKey_only (d : Dev) (key : Nat) (v : Nat) : Only foot170 d (Dev.putKey d key v) := by
  unfold Dev.putKey
  repeat' first
    | with_reducible exact Only.refl
    | with_reducible apply Part.In.mk; decide +kernel
    | with_reducible apply Only.put_all
    | split

theorem Dev.withValues_only (d : Dev) (vs : KV Nat) (bs : KV Bytes) : Only foot170 d (Dev.withValues d vs bs) := by
  unfold Dev.withValues
  exact Only.set_blobs (KV.sorted_inserts _) (Only.foldl (fun d x => (Dev.putKey_only d x.1 x.2).mono ⟨by decide +kernel⟩) Only.refl) ⟨by decide +kernel⟩

theorem Dev.applyEnds_only (d : Dev) (o : Origin) (i : Nat) (s : Status) (sub : Nat) : Only foot294 d (Dev.applyEnds d o i s sub) := by
  unfold Dev.applyEnds
  repeat' first
    | with_reducible exact Only.refl
    | with_reducible apply Foot.Sub.mk; decide +kernel
    | with_reducible apply Only.put (has_applyStatus ..)
    | with_reducible apply Only.step (Dev.respond_only ..)

theorem Dev.applyEffect_only (d : Dev) (i : Nat) (x : Applying) : Only foot295 d (Dev.applyEffect d i x) := by
  unfold Dev.applyEffect
  repeat' first
    | with_reducible exact Only.refl
    | with_reducible apply Foot.Sub.mk; decide +kernel
    | with_reducible apply Only.ite
    | with_reducible apply Only.step (Dev.applyEnds_only ..)
    | with_reducible apply Only.step (Dev.fireUnit_only ..)
    | with_reducible apply Only.step (Dev.groupApplied_only ..)
    | with_reducible apply Only.step (Dev.setD0_only ..)
    | with_reducible apply Only.step (Dev.withValues_only ..)

theorem Dev.applyGroup_only (d : Dev) (o : Origin) (i : Nat) : Only foot296 d (Dev.applyGroup d o i) := by
  unfold Dev.applyGroup
  repeat' first
    | with_reducible exact Only.refl
    | with_reducible apply Foot.Sub.mk; decide +kernel
    | with_reducible apply Only.ite
    | with_reducible apply Only.step (Dev.applyEnds_only ..)
    | with_reducible apply Only.step (Dev.leaseRefused_only ..)
    | with_reducible apply Only.step (Dev.setD0_only ..)
    | dsimp only
    | split

theorem Dev.applySafeGroup_only (d : Dev) (g : Nat) : Only foot112 d (Dev.applySafeGroup d g) := by
  unfold Dev.applySafeGroup
  repeat' first
    | with_reducible exact Only.refl
    | with_reducible apply Foot.Sub.mk; decide +kernel
    | with_reducible apply Only.foldl
    | with_reducible apply Only.step (Dev.applySafe_only ..)
    | with_reducible intro _

theorem Dev.attachEvent_only (d : Dev) (code : Nat) : Only foot91 d (Dev.attachEvent d code) := by
  unfold Dev.attachEvent
  repeat' first
    | with_reducible exact Only.refl
    | with_reducible apply Foot.Sub.mk; decide +kernel
    | with_reducible apply Only.step (Dev.twinEvent_only ..)

theorem Dev.attachEnds_only (d : Dev) (s : Status) (code : Nat) : Only foot274 d (Dev.attachEnds d s code) := by
  unfold Dev.attachEnds
  repeat' first
    | with_reducible exact Only.refl
    | with_reducible apply Foot.Sub.mk; decide +kernel
    | with_reducible apply Only.ite
    | with_reducible apply Only.step (Dev.attachEvent_only ..)
    | with_reducible apply Only.step (Dev.ctrl_only ..)
    | with_reducible apply Only.step (Dev.setRole_only ..)
    | with_reducible apply Only.step (Dev.setTwin_only ..)
    | with_reducible apply Only.step (Dev.twinDone_only ..)
    | dsimp only
    | split

theorem Dev.attachEnd_only (d : Dev) (s : Status) : Only foot274 d (Dev.attachEnd d s) := by
  unfold Dev.attachEnd
  repeat' first
    | with_reducible exact Only.refl
    | with_reducible apply Foot.Sub.mk; decide +kernel
    | with_reducible apply Only.step (Dev.attachEnds_only ..)

theorem Dev.authFail_only (d : Dev) (b : Nat) : Only foot297 d (Dev.authFail d b) := by
  unfold Dev.authFail
  repeat' first
    | with_reducible exact Only.refl
    | with_reducible apply Foot.Sub.mk; decide +kernel
    | with_reducible apply Only.count (has_ndpCounter_1 ..)
    | with_reducible apply Only.step (Dev.event_only ..)
    | with_reducible apply Only.limited
    | with_reducible intro _

theorem Dev.bareAnswer_only (d : Dev) (u : Nat) (mac : Nat) (m : BMsg) (s : Status) : Only foot16 d (Dev.bareAnswer d u mac m s) := by
  unfold Dev.bareAnswer
  repeat' first
    | with_reducible exact Only.refl
    | with_reducible apply Foot.Sub.mk; decide +kernel
    | with_reducible apply Only.step (Dev.bridgeSend_only ..)

theorem Dev.decideOn_only (d : Dev) (cause : Nat) : Only foot238 d (Dev.decideOn d cause) := by
  unfold Dev.decideOn
  repeat' first
    | with_reducible exact Only.refl
    | with_reducible apply Foot.Sub.mk; decide +kernel
    | with_reducible apply Only.ite
    | with_reducible apply Only.step (Dev.handEnd_only ..)
    | with_reducible apply Only.step (Dev.setTwin_only ..)

theorem Dev.wiringFault_only (d : Dev) (v : Nat) : Only foot298 d (Dev.wiringFault d v) := by
  unfold Dev.wiringFault
  repeat' first
    | with_reducible exact Only.refl
    | with_reducible apply Foot.Sub.mk; decide +kernel
    | with_reducible apply Only.count (has_twinCounter_5 ..)
    | with_reducible apply Only.step (Dev.setPath_only ..)
    | with_reducible apply Only.step (Dev.twinEvent_only ..)

theorem Dev.beatAfterFall_only (d : Dev) (role : Nat) (flags : Nat) : Only foot299 d (Dev.beatAfterFall d role flags) := by
  unfold Dev.beatAfterFall
  repeat' first
    | with_reducible exact Only.refl
    | with_reducible apply Foot.Sub.mk; decide +kernel
    | with_reducible apply Only.ite
    | with_reducible apply Only.step (Dev.decideOn_only ..)
    | with_reducible apply Only.step (Dev.setTwin_only ..)
    | with_reducible apply Only.step (Dev.wiringFault_only ..)
    | dsimp only
    | split

theorem Dev.beatDetached_only (d : Dev) (n : Nat) (role : Nat) : Only foot300 d (Dev.beatDetached d n role) := by
  unfold Dev.beatDetached
  repeat' first
    | with_reducible exact Only.refl
    | with_reducible apply Foot.Sub.mk; decide +kernel
    | with_reducible apply Only.ite
    | with_reducible apply Only.step (Dev.attachEvent_only ..)
    | with_reducible apply Only.step (Dev.attachRequest_only ..)
    | with_reducible apply Only.step (Dev.setTwin_only ..)
    | with_reducible apply Only.step (Dev.takeSolo_only ..)

theorem Dev.beatStandby_only (d : Dev) (role : Nat) (change : Nat) : Only foot301 d (Dev.beatStandby d role change) := by
  unfold Dev.beatStandby
  repeat' first
    | with_reducible exact Only.refl
    | with_reducible apply Foot.Sub.mk; decide +kernel
    | with_reducible apply Only.ite
    | with_reducible apply Only.count (has_twinCounter_1 ..)
    | with_reducible apply Only.step (Dev.dropChange_only ..)
    | with_reducible apply Only.step (Dev.handEnd_only ..)

theorem Dev.beatRole_only (d : Dev) (n : Nat) (role : Nat) (change : Nat) (back : Bool) : Only foot302 d (Dev.beatRole d n role change back) := by
  unfold Dev.beatRole
  repeat' first
    | with_reducible exact Only.refl
    | with_reducible apply Foot.Sub.mk; decide +kernel
    | with_reducible apply Only.ite
    | with_reducible apply Only.step (Dev.attachEnd_only ..)
    | with_reducible apply Only.step (Dev.attachEvent_only ..)
    | with_reducible apply Only.step (Dev.attachRequest_only ..)
    | with_reducible apply Only.step (Dev.beatDetached_only ..)
    | with_reducible apply Only.step (Dev.beatStandby_only ..)
    | with_reducible apply Only.step (Dev.setTwin_only ..)
    | split

theorem Dev.startCuts_only (d : Dev) (k : Nat) (p : Nat) (n : Nat) (dec : Decision) (x0 : List Dest) : Only foot14 d (Dev.startCuts d k p n dec x0).2 := by
  fun_induction Dev.startCuts d k p n dec x0
  all_goals repeat' first
    | with_reducible exact Only.refl
    | with_reducible apply Foot.Sub.mk; decide +kernel
    | with_reducible refine Only.trans (by assumption) ?_
    | with_reducible apply Only.step (Dev.enqueue_only ..)
    | with_reducible refine Only.snd (by assumption) ?_

theorem Dev.beginRx_only (d : Dev) (p : Nat) (len : Nat) (landed : Nat) (fcs : Bool) (dec : Decision) : Only foot14 d (Dev.beginRx d p len landed fcs dec) := by
  have h_sw : Part.In .sw foot14 := ⟨by decide +kernel⟩
  unfold Dev.beginRx
  repeat' first
    | with_reducible exact Only.refl
    | with_reducible apply Foot.Sub.mk; decide +kernel
    | with_reducible apply Only.step (Dev.setSw_only ..)
    | with_reducible apply Only.step (Dev.startCuts_only ..)
    | with_reducible refine Only.snd (by assumption) ?_
    | simp only [Only.set_sw_eq h_sw]
    | split

theorem Dev.bothAbsent_only (d : Dev) : Only foot274 d (Dev.bothAbsent d) := by
  unfold Dev.bothAbsent
  repeat' first
    | with_reducible exact Only.refl
    | with_reducible apply Foot.Sub.mk; decide +kernel
    | with_reducible apply Only.ite
    | with_reducible apply Only.step (Dev.toSolo_only ..)

theorem Dev.settleAllTimeout_only (d : Dev) (u : Nat) (sid : Nat) : Only foot74 d (Dev.settleAllTimeout d u sid) := by
  unfold Dev.settleAllTimeout
  repeat' first
    | with_reducible exact Only.refl
    | with_reducible apply Foot.Sub.mk; decide +kernel
    | with_reducible apply Only.foldl
    | with_reducible apply Only.step (Dev.setBrSess_only ..)
    | with_reducible apply Only.step (Dev.settleFail_only ..)
    | with_reducible intro _

theorem Dev.sessionForgotten_only (d : Dev) (u : Nat) (sid : Nat) : Only foot88 d (Dev.sessionForgotten d u sid) := by
  unfold Dev.sessionForgotten
  repeat' first
    | with_reducible exact Only.refl
    | with_reducible apply Foot.Sub.mk; decide +kernel
    | with_reducible apply Only.step (Dev.bridgeConnect_only ..)
    | with_reducible apply Only.step (Dev.refreshPwDone_only ..)
    | with_reducible apply Only.step (Dev.setBrSess_only ..)
    | with_reducible apply Only.step (Dev.settleAllTimeout_only ..)

theorem Dev.recover_only (d : Dev) (u : Nat) (k : Nat) (r : BReq) (m : BMsg) : Only foot303 d (Dev.recover d u k r m) := by
  unfold Dev.recover
  repeat' first
    | with_reducible exact Only.refl
    | with_reducible apply Foot.Sub.mk; decide +kernel
    | with_reducible apply Only.ite
    | with_reducible apply Only.count (has_buCounter_2 ..)
    | with_reducible apply Only.setFld (has_Ctx_CODE_40 ..)
    | with_reducible apply Only.setFld (has_Ctx_LOST ..)
    | with_reducible apply Only.setFld (has_Ctx_RSLOT_ADDR_HI ..)
    | with_reducible apply Only.setFld (has_Ctx_RSLOT_ADDR_LO ..)
    | with_reducible apply Only.setFld (has_Ctx_RSLOT_SEQ ..)
    | with_reducible apply Only.setFld (has_Ctx_SIZE ..)
    | with_reducible apply Only.setFld (has_Ctx_VALID ..)
    | with_reducible apply Only.setMbBytes (fun i => has_Ctx_RSLOT_DATA _ _ i)
    | with_reducible apply Only.step (Dev.ctxIrq_only ..)
    | with_reducible apply Only.step (Dev.event_only ..)
    | with_reducible apply Only.step (Dev.eventRing_only ..)

theorem Dev.pollTaken_only (d : Dev) (u : Nat) (e : Nat) (b : Bytes) : Only foot304 d (Dev.pollTaken d u e b) := by
  unfold Dev.pollTaken
  repeat' first
    | with_reducible exact Only.refl
    | with_reducible apply Foot.Sub.mk; decide +kernel
    | with_reducible apply Only.ite
    | with_reducible apply Only.setFld (has_Ep_EVT_PENDING ..)
    | with_reducible apply Only.setFld (has_Ep_EVT_SEQ ..)
    | with_reducible apply Only.setFld (has_Ep_MERGED ..)
    | with_reducible apply Only.setFld (has_Ep_SIDEBAND ..)
    | with_reducible apply Only.step (Dev.setBr_only ..)

theorem Dev.settleOk_only (d : Dev) (u : Nat) (sid : Nat) (r : BReq) (data : Bytes) : Only foot305 d (Dev.settleOk d u sid r data) := by
  unfold Dev.settleOk
  repeat' first
    | with_reducible exact Only.refl
    | with_reducible apply Foot.Sub.mk; decide +kernel
    | with_reducible apply Only.ite
    | with_reducible apply Only.step (Dev.completeReq_only ..)
    | with_reducible apply Only.step (Dev.pollTaken_only ..)
    | with_reducible apply Only.step (Dev.queryDone_only ..)
    | with_reducible apply Only.step (Dev.remoteMbDone_only ..)
    | split

theorem Dev.settle_only (d : Dev) (u : Nat) (sid : Nat) (r : BReq) (m : BMsg) : Only foot306 d (Dev.settle d u sid r m) := by
  unfold Dev.settle
  repeat' first
    | with_reducible exact Only.refl
    | with_reducible apply Foot.Sub.mk; decide +kernel
    | with_reducible apply Only.ite
    | with_reducible apply Only.step (Dev.settleFail_only ..)
    | with_reducible apply Only.step (Dev.settleOk_only ..)

theorem Dev.bridgeResponse_only (d : Dev) (u : Nat) (m : BMsg) : Only foot307 d (Dev.bridgeResponse d u m) := by
  unfold Dev.bridgeResponse
  repeat' first
    | with_reducible exact Only.refl
    | with_reducible apply Foot.Sub.mk; decide +kernel
    | with_reducible apply Only.ite
    | with_reducible apply Only.foldl
    | with_reducible apply Only.step (Dev.event_only ..)
    | with_reducible apply Only.step (Dev.pump_only ..)
    | with_reducible apply Only.step (Dev.recover_only ..)
    | with_reducible apply Only.step (Dev.sessionForgotten_only ..)
    | with_reducible apply Only.step (Dev.setBrSess_only ..)
    | with_reducible apply Only.step (Dev.settle_only ..)
    | with_reducible apply Only.step (Dev.settleFail_only ..)
    | with_reducible apply Only.step (Dev.showSession_only ..)
    | with_reducible intro _
    | dsimp only
    | split

theorem Dev.bufferWrite_only (d : Dev) (h : Nat) (a : Nat) (b : Bytes) : Only foot5 d (Dev.bufferWrite d h a b).2 := by
  unfold Dev.bufferWrite
  repeat' first
    | with_reducible exact Only.refl
    | with_reducible apply Foot.Sub.mk; decide +kernel
    | with_reducible apply Only.ite2
    | with_reducible apply Only.step (Dev.hallWrite_only ..)
    | with_reducible refine Only.snd (by assumption) ?_
    | dsimp only
    | split

theorem Dev.dmaFaulted_only (d : Dev) (c : Nat) (iova : Nat) (stage : Nat) (write : Bool) : Only foot308 d (Dev.dmaFaulted d c iova stage write) := by
  unfold Dev.dmaFaulted
  repeat' first
    | with_reducible exact Only.refl
    | with_reducible apply Foot.Sub.mk; decide +kernel
    | with_reducible apply Only.ite
    | with_reducible apply Only.count (has_dmaCounter_2 ..)
    | with_reducible apply Only.setFld (has_Dmar_FAULTED ..)
    | with_reducible apply Only.setFld (has_Dmar_FAULT_DESC ..)
    | with_reducible apply Only.setFld (has_Dmar_FAULT_DONE ..)
    | with_reducible apply Only.setFld (has_Dmar_FAULT_IOVA_HI ..)
    | with_reducible apply Only.setFld (has_Dmar_FAULT_IOVA_LO ..)
    | with_reducible apply Only.setFld (has_Dmar_STAGE ..)
    | with_reducible apply Only.setFld (has_Dmar_WRITE ..)
    | with_reducible apply Only.step (Dev.dmaIrq_only ..)
    | with_reducible apply Only.step (Dev.event_only ..)
    | with_reducible apply Only.step (Dev.eventRing_only ..)
    | with_reducible apply Only.step (Dev.setCh_only ..)

theorem Dev.keepPage_only (d : Dev) (c : Nat) (iova : Nat) (write : Bool) (pa : Nat) : Only foot3 d (Dev.keepPage d c iova write pa) := by
  unfold Dev.keepPage
  repeat' first
    | with_reducible exact Only.refl
    | with_reducible apply Foot.Sub.mk; decide +kernel
    | with_reducible apply Only.step (Dev.setCh_only ..)

theorem Only.dmaIssue {F : Foot} {a b : Dev} {c : Nat} {w : Nat × Nat → Dev → Option (Status × Nat) × Dev} {l : List (Nat × Nat)} (hs : Foot.Sub foot3 F) (hf : ∀ p d, Only F d (w p d).2)
    (h : Only F a b) : Only F a (Dev.dmaIssue c w l b) := by
  induction l generalizing b with
  | nil => exact h
  | cons p r ih =>
    unfold Dev.dmaIssue
    split
    · exact ih ((Dev.setCh_only ..).step (Foot.Sub.trans ⟨by decide +kernel⟩ hs) h)
    · have g := (hf p b).trans h
      generalize w p b = x at g ⊢
      obtain ⟨x, e⟩ := x
      cases x with
      | none => exact ih g
      | some v => exact ih ((Dev.setCh_only ..).step (Foot.Sub.trans ⟨by decide +kernel⟩ hs) g)

theorem Only.burst {F : Foot} {a b : Dev} {c : Nat} {w : DmaPort} (hs : Foot.Sub foot309 F) (hr : ∀ p d, Only F d (w.read p d).2) (hf : ∀ p d, Only F d (w.write p d).2) (h : Only F a b) : Only F a (b.burst c w) := by
  unfold Dev.burst
  repeat' first
    | with_reducible exact ‹Only _ _ _›
    | with_reducible apply Foot.Sub.mk; decide +kernel
    | with_reducible refine Foot.Sub.trans (G := foot309) ?_ hs
    | with_reducible apply Only.ite
    | with_reducible apply Only.dmaIssue
    | with_reducible apply Only.step (Dev.storeMem_only ..)
    | with_reducible apply Only.step (Dev.readPoison_only ..)
    | with_reducible apply Only.step (Dev.dmaFaulted_only ..)
    | with_reducible apply Only.step (Dev.setCh_only ..)
    | with_reducible apply Only.step (Dev.keepPage_only ..)
    | with_reducible apply Only.step (Dev.dramUsed_only ..)
    | with_reducible intro _
    | dsimp only
    | exact hr _ _
    | exact hf _ _
    | split

theorem Only.burstBoundary {F : Foot} {a b : Dev} {w : Nat → DmaPort} (hs : Foot.Sub foot309 F) (hr : ∀ c p d, Only F d ((w c).read p d).2) (hf : ∀ c p d, Only F d ((w c).write p d).2) (h : Only F a b) : Only F a (b.burstBoundary w) := by
  unfold Dev.burstBoundary
  repeat' first
    | with_reducible exact ‹Only _ _ _›
    | with_reducible apply Foot.Sub.mk; decide +kernel
    | with_reducible refine Foot.Sub.trans (G := foot309) ?_ hs
    | with_reducible apply Only.burst
    | with_reducible apply Only.step (Dev.setDma_only ..)
    | with_reducible intro _
    | dsimp only
    | exact hr _ _ _
    | exact hf _ _ _
    | split

theorem Dev.busOff_only (d : Dev) (n : Nat) : Only foot310 d (Dev.busOff d n) := by
  unfold Dev.busOff
  repeat' first
    | with_reducible exact Only.refl
    | with_reducible apply Foot.Sub.mk; decide +kernel
    | with_reducible apply Only.foldl
    | with_reducible apply Only.count (has_canCounter_6 ..)
    | with_reducible apply Only.count (has_canCounter_9 ..)
    | with_reducible apply Only.setFld (has_Ch_BUS ..)
    | with_reducible apply Only.step (Dev.canIrq_only ..)
    | with_reducible apply Only.step (Dev.event_only ..)
    | with_reducible apply Only.step (Dev.setCan_only ..)
    | with_reducible apply Only.step (Dev.txbDone_only ..)
    | with_reducible intro _

theorem Dev.canSlotsLost_only (d : Dev) (n : Nat) : Only foot27 d (Dev.canSlotsLost d n) := by
  unfold Dev.canSlotsLost
  repeat' first
    | with_reducible exact Only.refl
    | with_reducible apply Foot.Sub.mk; decide +kernel
    | with_reducible apply Only.ite
    | with_reducible apply Only.foldl
    | with_reducible apply Only.step (Dev.slotLost_only ..)
    | with_reducible intro _

theorem Dev.chipRestart_only (d : Dev) (r : ResetCause) (wake : Bool) (dram : Bool) (env : BootEnv) : Only foot269 d (Dev.chipRestart d r wake dram env) := by
  unfold Dev.chipRestart
  repeat' first
    | with_reducible exact Only.refl
    | with_reducible apply Foot.Sub.mk; decide +kernel
    | with_reducible apply Only.step (Dev.chipReset_only ..)
    | with_reducible apply Only.step (Dev.startUp_only ..)

theorem Dev.ownDelivery_only (d : Dev) (f : Frame) (cls : Nat) : Only foot311 d (Dev.ownDelivery d f cls).2 := by
  unfold Dev.ownDelivery
  repeat' first
    | with_reducible exact Only.refl
    | with_reducible apply Foot.Sub.mk; decide +kernel
    | with_reducible apply Only.ite2
    | with_reducible apply Only.count (has_noQp ..)

theorem Dev.countStream_only (d : Dev) (s : Nat) (i : Nat) : Only foot245 d (Dev.countStream d s i) := by
  unfold Dev.countStream
  repeat' first
    | with_reducible exact Only.refl
    | with_reducible apply Foot.Sub.mk; decide +kernel
    | with_reducible apply Only.ite
    | with_reducible apply Only.step (Dev.event_only ..)
    | with_reducible apply Only.step (Dev.setStream_only ..)

theorem Dev.sduFilter_only (d : Dev) (p : Nat) (s : Nat) (len : Nat) (f : Frame) : Only foot312 d (Dev.sduFilter d p s len f).2 := by
  unfold Dev.sduFilter
  repeat' first
    | with_reducible exact Only.refl
    | with_reducible apply Foot.Sub.mk; decide +kernel
    | with_reducible apply Only.ite2
    | with_reducible apply Only.count (has_streamDrops ..)
    | with_reducible apply Only.step (Dev.countStream_only ..)
    | with_reducible apply Only.step (Dev.event_only ..)
    | with_reducible apply Only.step (Dev.setStream_only ..)

theorem Dev.meter_only (d : Dev) (s : Nat) (l : Nat) : Only foot14 d (Dev.meter d s l).2 := by
  unfold Dev.meter
  repeat' first
    | with_reducible exact Only.refl
    | with_reducible apply Foot.Sub.mk; decide +kernel
    | with_reducible apply Only.ite2
    | with_reducible apply Only.step (Dev.setStream_only ..)

theorem Dev.metered_only (d : Dev) (p : Nat) (s : Nat) (len : Nat) : Only foot312 d (Dev.metered d p s len).2 := by
  have h := Dev.meter_only d s len
  unfold Dev.metered
  generalize d.meter s len = x at h ⊢
  obtain ⟨c, e⟩ := x
  replace h : Only foot312 d e := h.step (a := d) (by constructor; decide +kernel) Only.refl
  cases c
  all_goals dsimp only
  repeat' first
    | with_reducible exact Only.refl
    | with_reducible apply Foot.Sub.mk; decide +kernel
    | with_reducible apply Only.ite2
    | with_reducible apply Only.count (has_streamDrops ..)
    | with_reducible apply Only.step (Dev.countStream_only ..)
    | dsimp only
    | exact h

theorem Dev.sequenced_only (d : Dev) (p : Nat) (s : Nat) (f : Frame) : Only foot312 d (Dev.sequenced d p s f).2 := by
  unfold Dev.sequenced
  repeat' first
    | with_reducible exact Only.refl
    | with_reducible apply Foot.Sub.mk; decide +kernel
    | with_reducible apply Only.ite2
    | with_reducible apply Only.count (has_streamDrops ..)
    | with_reducible apply Only.step (Dev.countStream_only ..)
    | with_reducible apply Only.step (Dev.setStream_only ..)
    | dsimp only
    | split

theorem Dev.streamStep_only (d : Dev) (p : Nat) (vid : Nat) (len : Nat) (f : Frame) : Only foot312 d (Dev.streamStep d p vid len f).2 := by
  unfold Dev.streamStep
  repeat' first
    | with_reducible exact Only.refl
    | with_reducible apply Foot.Sub.mk; decide +kernel
    | with_reducible apply Only.step (Dev.countStream_only ..)
    | with_reducible apply Only.step (Dev.metered_only ..)
    | with_reducible apply Only.step (Dev.sduFilter_only ..)
    | with_reducible apply Only.step (Dev.sequenced_only ..)
    | with_reducible refine Only.snd (by assumption) ?_
    | split

theorem Dev.learnFail_only (d : Dev) (p : Nat) : Only foot313 d (Dev.learnFail d p) := by
  unfold Dev.learnFail
  repeat' first
    | with_reducible exact Only.refl
    | with_reducible apply Foot.Sub.mk; decide +kernel
    | with_reducible apply Only.countCtr (has_Fwds_LEARN_FAIL ..) (has_Fwds_COUNTER_SAT ..)
    | with_reducible apply Only.step (Dev.event_only ..)
    | with_reducible apply Only.limited
    | with_reducible intro _

theorem Dev.learn_only (d : Dev) (p : Nat) (vid : Nat) (mac : Nat) : Only foot314 d (Dev.learn d p vid mac) := by
  unfold Dev.learn
  repeat' first
    | with_reducible exact Only.refl
    | with_reducible apply Foot.Sub.mk; decide +kernel
    | with_reducible apply Only.ite
    | with_reducible apply Only.step (Dev.learnFail_only ..)
    | with_reducible apply Only.step (Dev.setSw_only ..)
    | dsimp only
    | split

theorem Dev.filterDests_only (d : Dev) (p : Nat) (cls : Nat) (vid : Nat) (multi : Bool) (f : Frame) (pcp : Nat) (dei : Bool) (x0 : List Nat) : Only foot12 d (Dev.filterDests d p cls vid multi f pcp dei x0).2 := by
  fun_induction Dev.filterDests d p cls vid multi f pcp dei x0
  all_goals repeat' first
    | with_reducible exact Only.refl
    | with_reducible apply Foot.Sub.mk; decide +kernel
    | with_reducible refine Only.trans (by assumption) ?_
    | with_reducible apply Only.step (Dev.dropped_only ..)
    | with_reducible refine Only.snd (by assumption) ?_

theorem Dev.forwardSteps_only (d : Dev) (p : Nat) (vid : Nat) (len : Nat) (cls : Nat) (pcp : Nat) (dei : Bool) (f : Frame) (tcm : Option TcmTo) : Only foot315 d (Dev.forwardSteps d p vid len cls pcp dei f tcm).2 := by
  unfold Dev.forwardSteps
  repeat' first
    | with_reducible exact Only.refl
    | with_reducible apply Foot.Sub.mk; decide +kernel
    | with_reducible apply Only.ite
    | with_reducible apply Only.emit
    | with_reducible apply Only.step (Dev.filterDests_only ..)
    | with_reducible apply Only.step (Dev.learn_only ..)
    | with_reducible apply Only.step (Dev.ownDelivery_only ..)
    | with_reducible apply Only.step (Dev.streamStep_only ..)
    | with_reducible refine Only.snd (by assumption) ?_
    | dsimp only
    | split

theorem Dev.police_only (d : Dev) (p : Nat) (len : Nat) : Only foot316 d (Dev.police d p len).2 := by
  unfold Dev.police
  repeat' first
    | with_reducible exact Only.refl
    | with_reducible apply Foot.Sub.mk; decide +kernel
    | with_reducible apply Only.ite2
    | with_reducible apply Only.count (has_tcmPoliced ..)
    | with_reducible apply Only.step (Dev.event_only ..)
    | with_reducible apply Only.limited
    | with_reducible apply Only.step (Dev.setLink_only ..)
    | with_reducible intro _

theorem Dev.classify_only (d : Dev) (p : Nat) (len : Nat) (f : Frame) : Only foot317 d (Dev.classify d p len f).2 := by
  have h := Dev.police_only d p len
  unfold Dev.classify
  generalize d.police p len = x at h ⊢
  obtain ⟨c, e⟩ := x
  replace h : Only foot317 d e := h.step (a := d) (by constructor; decide +kernel) Only.refl
  cases c
  all_goals dsimp only
  repeat' first
    | with_reducible exact Only.refl
    | with_reducible apply Foot.Sub.mk; decide +kernel
    | with_reducible apply Only.ite2
    | with_reducible apply Only.count (has_rxDisabled ..)
    | with_reducible apply Only.count (has_rxType ..)
    | with_reducible apply Only.count (has_rxVlan ..)
    | with_reducible apply Only.step (Dev.forwardSteps_only ..)
    | dsimp only
    | split
    | exact h

theorem Dev.commitEvents_only (d : Dev) : Only foot318 d (Dev.commitEvents d) := by
  have h_logs : Part.In .logs foot318 := ⟨by decide +kernel⟩
  unfold Dev.commitEvents
  repeat' first
    | with_reducible exact Only.refl
    | with_reducible apply Foot.Sub.mk; decide +kernel
    | with_reducible apply Only.put (has_Evl_EVENT_FIRST ..)
    | with_reducible apply Only.put (has_Evl_EVENT_NEXT ..)
    | with_reducible apply Only.step (Dev.setSto_only ..)
    | simp only [Only.set_logs_eq h_logs]

theorem Dev.inputFlags_only (d : Dev) (a : Nat) (i : Nat) (new : Nat) : Only foot319 d (Dev.inputFlags d a i new) := by
  unfold Dev.inputFlags
  repeat' first
    | with_reducible exact Only.refl
    | with_reducible apply Foot.Sub.mk; decide +kernel
    | with_reducible apply Only.ite
    | with_reducible apply Only.put (has_Ain_FLAGS ..)
    | with_reducible apply Only.step (Dev.event_only ..)
    | with_reducible apply Only.limited
    | with_reducible intro _

theorem Dev.converted_only (d : Dev) (a : Nat) (c : Nat) (code : Nat) (late : Bool) (at_ : Nat) : Only foot320 d (Dev.converted d a c code late at_) := by
  unfold Dev.converted
  repeat' first
    | with_reducible exact Only.refl
    | with_reducible apply Foot.Sub.mk; decide +kernel
    | with_reducible apply Only.ite
    | with_reducible apply Only.put (has_Ain_VALUE ..)
    | with_reducible apply Only.put (has_Aint_INTERNAL ..)
    | with_reducible apply Only.step (Dev.draw_only ..)
    | with_reducible apply Only.step (Dev.inputFlags_only ..)
    | with_reducible apply Only.step (Dev.setAdc_only ..)

theorem Dev.cryWrites_only (d : Dev) (c : CryDesc) (l : List (Nat × Bytes)) : Only foot5 d (Dev.cryWrites d c l).2 := by
  unfold Dev.cryWrites
  repeat' first
    | with_reducible exact Only.refl
    | with_reducible apply Foot.Sub.mk; decide +kernel
    | with_reducible apply Only.foldl
    | with_reducible apply Only.step (Dev.storeMem_only ..)
    | with_reducible intro _
    | split

theorem Only.perform {F : Foot} {a b : Dev} {op : Nat} {g : CryDesc → List (Nat × Nat)} {f : CryDesc → List Bytes → Dev → List (Nat × Bytes) × Status × Dev} (hs : Foot.Sub foot321 F) (hf : ∀ c l d, Only F d (f c l d).2.2) (h : Only F a b) : Only F a (b.perform op g f) := by
  unfold Dev.perform
  repeat' first
    | with_reducible exact Only.refl
    | with_reducible exact ‹Only _ _ _›
    | with_reducible apply Foot.Sub.mk; decide +kernel
    | with_reducible refine Foot.Sub.trans (G := foot321) ?_ hs
    | with_reducible apply Only.ite
    | with_reducible apply Only.foldl
    | with_reducible apply Only.step (Dev.cryWrites_only ..)
    | with_reducible apply Only.trans (hf _ _ _)
    | with_reducible apply Only.step (Dev.setMezz_only ..)
    | with_reducible apply Only.step (Dev.readPoison_only ..)
    | with_reducible refine Only.snd (by assumption) ?_
    | with_reducible intro _
    | dsimp only
    | split

theorem Dev.crySign_only (d : Dev) (op : Nat) (k : Curve) (n : Nat) (hash : Bytes → Bytes) (blk : Nat) : Only foot322 d (Dev.crySign d op k n hash blk) := by
  unfold Dev.crySign
  repeat' first
    | with_reducible exact Only.refl
    | with_reducible apply Foot.Sub.mk; decide +kernel
    | with_reducible apply Only.ite22
    | with_reducible apply Only.step (Dev.draw_only ..)
    | with_reducible apply Only.perform
    | with_reducible intro _

theorem Dev.cryVerify_only (d : Dev) (op : Nat) (k : Curve) (n : Nat) : Only foot321 d (Dev.cryVerify d op k n) := by
  unfold Dev.cryVerify
  repeat' first
    | with_reducible exact Only.refl
    | with_reducible apply Foot.Sub.mk; decide +kernel
    | with_reducible apply Only.perform
    | with_reducible intro _

theorem Dev.discardGroup_only (d : Dev) (o : Origin) (i : Nat) : Only foot109 d (Dev.discardGroup d o i) := by
  unfold Dev.discardGroup
  repeat' first
    | with_reducible exact Only.refl
    | with_reducible apply Foot.Sub.mk; decide +kernel
    | with_reducible apply Only.ite
    | with_reducible apply Only.step (Dev.respond_only ..)
    | with_reducible apply Only.step (Dev.setD0_only ..)

theorem Dev.dmaTxn_only (c : Nat) (kind : TKind) (a : Nat) (n : Nat) (v : Nat) (d : Dev) : Only foot152 d (Dev.dmaTxn c kind a n v d).2 := by
  unfold Dev.dmaTxn
  repeat' first
    | with_reducible exact Only.refl
    | with_reducible apply Foot.Sub.mk; decide +kernel
    | with_reducible apply Only.step (Dev.access_only ..)
    | with_reducible apply Only.taken
    | with_reducible intro _

theorem Dev.domRestarts_only (d : Dev) (k : Nat) (t : Nat) (forced : Bool) : Only foot323 d (Dev.domRestarts d k t forced) := by
  unfold Dev.domRestarts
  repeat' first
    | with_reducible exact Only.refl
    | with_reducible apply Foot.Sub.mk; decide +kernel
    | with_reducible apply Only.put (has_Dom_SOURCE ..)
    | with_reducible apply Only.countMk (has_Dom_SWITCHES ..) (has_Dom_COUNTER_SAT ..)
    | with_reducible apply Only.step (Dev.clockEvent_only ..)
    | with_reducible apply Only.step (Dev.domLinksDown_only ..)
    | with_reducible apply Only.step (Dev.islandsRun_only ..)
    | with_reducible apply Only.step (Dev.setDom_only ..)

theorem Dev.domainTriggered_only (d : Dev) (k : Nat) : Only foot52 d (Dev.domainTriggered d k) := by
  unfold Dev.domainTriggered
  repeat' first
    | with_reducible exact Only.refl
    | with_reducible apply Foot.Sub.mk; decide +kernel
    | with_reducible apply Only.ite
    | with_reducible apply Only.step (Dev.enterDomain_only ..)
    | with_reducible apply Only.step (Dev.setDomain_only ..)

theorem Dev.engineLost_only (d : Dev) (cause : Nat) : Only foot117 d (Dev.engineLost d cause) := by
  unfold Dev.engineLost
  repeat' first
    | with_reducible exact Only.refl
    | with_reducible apply Foot.Sub.mk; decide +kernel
    | with_reducible apply Only.ite
    | with_reducible apply Only.scanFault
    | with_reducible intro _

theorem Dev.ndpExecuted_only (d : Dev) (id : Nat) (seq : Nat) : Only foot106 d (Dev.ndpExecuted d id seq) := by
  unfold Dev.ndpExecuted
  repeat' first
    | with_reducible exact Only.refl
    | with_reducible apply Foot.Sub.mk; decide +kernel
    | with_reducible apply Only.step (Dev.setD0_only ..)

theorem Dev.takeEvent_only (d : Dev) (u : Nat) (m : BMsg) : Only foot324 d (Dev.takeEvent d u m) := by
  unfold Dev.takeEvent
  repeat' first
    | with_reducible exact Only.refl
    | with_reducible apply Foot.Sub.mk; decide +kernel
    | with_reducible apply Only.ite
    | with_reducible apply Only.count (has_buCounter_1 ..)
    | with_reducible apply Only.setFld (has_Ep_EVT_PENDING ..)
    | with_reducible apply Only.setFld (has_Ep_EVT_SEQ ..)
    | with_reducible apply Only.setFld (has_Ep_MERGED ..)
    | with_reducible apply Only.setFld (has_Ep_SIDEBAND ..)
    | dsimp only
    | split

theorem Dev.serveMemory_only (d : Dev) (k : Nat) (hall : Nat) (m : BMsg) : Only foot152 d (Dev.serveMemory d k hall m).2 := by
  unfold Dev.serveMemory
  repeat' first
    | with_reducible exact Only.refl
    | with_reducible apply Foot.Sub.mk; decide +kernel
    | with_reducible apply Only.ite
    | with_reducible apply Only.step (Dev.access_only ..)
    | with_reducible apply Only.taken
    | with_reducible apply Only.step (Dev.windowOp_only ..)
    | with_reducible intro _

theorem Dev.serveDict_only (d : Dev) (k : Nat) (hall : Nat) (m : BMsg) : Only foot325 d (Dev.serveDict d k hall m) := by
  unfold Dev.serveDict
  repeat' first
    | with_reducible exact Only.refl
    | with_reducible apply Foot.Sub.mk; decide +kernel
    | with_reducible apply Only.ite
    | with_reducible apply Only.step (Dev.serveAnswer_only ..)
    | with_reducible apply Only.step (Dev.setServe_only ..)
    | with_reducible apply Only.step (Dev.submit_only ..)

theorem Dev.performRequest_only (d : Dev) (k : Nat) (m : BMsg) : Only foot152 d (Dev.performRequest d k m) := by
  unfold Dev.performRequest
  repeat' first
    | with_reducible exact Only.refl
    | with_reducible apply Foot.Sub.mk; decide +kernel
    | with_reducible apply Only.ite
    | with_reducible apply Only.step (Dev.postedDone_only ..)
    | with_reducible apply Only.step (Dev.sendAck_only ..)
    | with_reducible apply Only.step (Dev.serveAnswer_only ..)
    | with_reducible apply Only.step (Dev.serveDict_only ..)
    | with_reducible apply Only.step (Dev.serveMemory_only ..)
    | with_reducible apply Only.step (Dev.servedDone_only ..)
    | with_reducible apply Only.step (Dev.setServe_only ..)
    | with_reducible apply Only.step (Dev.takeEvent_only ..)
    | with_reducible refine Only.snd (by assumption) ?_
    | split

theorem Dev.serveNext_only (d : Dev) (k : Nat) (x0 : Nat) : Only foot152 d (Dev.serveNext d k x0) := by
  fun_induction Dev.serveNext d k x0
  all_goals repeat' first
    | with_reducible exact Only.refl
    | with_reducible apply Foot.Sub.mk; decide +kernel
    | with_reducible refine Only.trans (by assumption) ?_
    | with_reducible apply Only.step (Dev.performRequest_only ..)
    | with_reducible apply Only.step (Dev.setServe_only ..)

theorem Dev.serveResume_only (d : Dev) : Only foot152 d (Dev.serveResume d) := by
  unfold Dev.serveResume
  repeat' first
    | with_reducible exact Only.refl
    | with_reducible apply Foot.Sub.mk; decide +kernel
    | with_reducible apply Only.foldl
    | with_reducible apply Only.step (Dev.serveNext_only ..)
    | with_reducible intro _

theorem Dev.ndpAdvance_only (d : Dev) (id : Nat) (x0 : Nat) : Only foot108 d (Dev.ndpAdvance d id x0) := by
  fun_induction Dev.ndpAdvance d id x0
  all_goals repeat' first
    | with_reducible exact Only.refl
    | with_reducible apply Foot.Sub.mk; decide +kernel
    | with_reducible refine Only.trans (by assumption) ?_
    | with_reducible apply Only.step (Dev.closeSession_only ..)
    | with_reducible apply Only.step (Dev.ndpExecuted_only ..)
    | with_reducible apply Only.step (Dev.ndpRespond_only ..)
    | with_reducible apply Only.step (Dev.setD0_only ..)
    | with_reducible apply Only.step (Dev.submit_only ..)

theorem Only.executing {F : Foot} {a b : Dev} {q : QReq} {f : Dev → Dev} (hs : Foot.Sub foot152 F) (hf : ∀ d, Only F d (f d)) (h : Only F a b) : Only F a (b.executing q f) := by
  unfold Dev.executing
  repeat' first
    | with_reducible exact ‹Only _ _ _›
    | with_reducible apply Foot.Sub.mk; decide +kernel
    | with_reducible refine Foot.Sub.trans (G := foot152) ?_ hs
    | with_reducible apply Only.ite
    | with_reducible apply Only.trans (hf _)
    | with_reducible apply Only.step (Dev.serveResume_only ..)
    | with_reducible apply Only.step (Dev.ndpAdvance_only ..)
    | with_reducible apply Only.step (Dev.ndpExecuted_only ..)

theorem Only.executeFront {F : Foot} {a b : Dev} {p : QReq → Bool} {f : QReq → Dev → Dev} (hs : Foot.Sub foot152 F) (hf : ∀ q d, Only F d (f q d)) (h : Only F a b) : Only F a (b.executeFront p f) := by
  unfold Dev.executeFront
  repeat' first
    | with_reducible exact ‹Only _ _ _›
    | with_reducible apply Foot.Sub.mk; decide +kernel
    | with_reducible refine Foot.Sub.trans (G := foot152) ?_ hs
    | with_reducible apply Only.ite
    | with_reducible apply Only.executing
    | (with_reducible intro _; exact hf _ _)
    | split

theorem Dev.fenceComplete_only (d : Dev) (u : Nat) (k : Nat) : Only foot326 d (Dev.fenceComplete d u k) := by
  unfold Dev.fenceComplete
  repeat' first
    | with_reducible exact Only.refl
    | with_reducible apply Foot.Sub.mk; decide +kernel
    | with_reducible apply Only.ite
    | with_reducible apply Only.setFld (has_Ctx_BUSY ..)
    | with_reducible apply Only.setFld (has_Ctx_CODE ..)
    | with_reducible apply Only.setFld (has_Ctx_DONE ..)
    | with_reducible apply Only.step (Dev.ctxIrq_only ..)
    | with_reducible apply Only.step (Dev.setBrCtx_only ..)
    | dsimp only
    | split

theorem Dev.fifoReceive_only (d : Dev) (n : Nat) (x : RxFrame) : Only foot327 d (Dev.fifoReceive d n x) := by
  unfold Dev.fifoReceive
  repeat' first
    | with_reducible exact Only.refl
    | with_reducible apply Foot.Sub.mk; decide +kernel
    | with_reducible apply Only.ite
    | with_reducible apply Only.count (has_canCounter_3 ..)
    | with_reducible apply Only.setFld (has_Ch_OVF ..)
    | with_reducible apply Only.step (Dev.canIrq_only ..)
    | with_reducible apply Only.step (Dev.setCan_only ..)

theorem Dev.firstAgain_only (d : Dev) : Only foot0 d (Dev.firstAgain d) := by
  unfold Dev.firstAgain
  repeat' first
    | with_reducible exact Only.refl
    | with_reducible apply Foot.Sub.mk; decide +kernel
    | with_reducible apply Only.foldl
    | with_reducible apply Only.step (Dev.setSlot_only ..)
    | with_reducible intro _

theorem Dev.galleryAuthFail_only (d : Dev) : Only foot328 d (Dev.galleryAuthFail d) := by
  unfold Dev.galleryAuthFail
  repeat' first
    | with_reducible exact Only.refl
    | with_reducible apply Foot.Sub.mk; decide +kernel
    | with_reducible apply Only.count (has_twinCounter_3 ..)

theorem Dev.setRing_only (d : Dev) (h : Nat) (l : List StCmd) : Only foot329 d (Dev.setRing d h l) := by
  unfold Dev.setRing
  repeat' first
    | with_reducible exact Only.refl
    | with_reducible apply Foot.Sub.mk; decide +kernel
    | with_reducible apply Only.setFld (has_Stg_ACTIVE ..)
    | with_reducible apply Only.step (Dev.setSto_only ..)

theorem Dev.headPass_only (d : Dev) (h : Nat) : Only foot330 d (Dev.headPass d h) := by
  unfold Dev.headPass
  repeat' first
    | with_reducible exact Only.refl
    | with_reducible apply Foot.Sub.mk; decide +kernel
    | with_reducible apply Only.setFld (has_Stg_HEAD ..)
    | with_reducible apply Only.step (Dev.setRing_only ..)

theorem Dev.healthCheck_only (d : Dev) : Only foot331 d (Dev.healthCheck d) := by
  unfold Dev.healthCheck
  repeat' first
    | with_reducible exact Only.refl
    | with_reducible apply Foot.Sub.mk; decide +kernel
    | with_reducible apply Only.ite
    | with_reducible apply Only.put (has_Sto_HEALTH ..)
    | with_reducible apply Only.step (Dev.stoEvent_only ..)

theorem Dev.heartbeats_only (d : Dev) : Only foot30 d (Dev.heartbeats d) := by
  unfold Dev.heartbeats
  repeat' first
    | with_reducible exact Only.refl
    | with_reducible apply Foot.Sub.mk; decide +kernel
    | with_reducible apply Only.ite
    | with_reducible apply Only.foldl
    | with_reducible apply Only.step (Dev.ctrlOn_only ..)
    | with_reducible apply Only.step (Dev.setTwin_only ..)
    | with_reducible intro _

theorem Only.issued {F : Foot} {a b : Dev} {t : Txn} {f : Txn → Dev → Dev} (hs : Foot.Sub foot67 F) (hf : ∀ t d, Only F d (f t d)) (h : Only F a b) : Only F a (b.issued t f) := by
  unfold Dev.issued
  repeat' first
    | with_reducible exact ‹Only _ _ _›
    | with_reducible apply Foot.Sub.mk; decide +kernel
    | with_reducible refine Foot.Sub.trans (G := foot67) ?_ hs
    | with_reducible apply Only.ite
    | with_reducible apply Only.taken (hf _)
    | with_reducible apply Only.answer
    | with_reducible apply Only.step (Dev.accessFault_only ..)
    | with_reducible refine Only.snd (by assumption) ?_
    | split

theorem Dev.laneCrcBad_only (d : Dev) (n : Nat) (w : Bytes) : Only foot332 d (Dev.laneCrcBad d n w) := by
  unfold Dev.laneCrcBad
  repeat' first
    | with_reducible exact Only.refl
    | with_reducible apply Foot.Sub.mk; decide +kernel
    | with_reducible apply Only.count (has_rxBytes ..)
    | with_reducible apply Only.count (has_rxFcs ..)
    | with_reducible apply Only.count (has_rxFrames ..)

theorem Dev.laneHello_only (d : Dev) (n : Nat) (key : Bytes) (payload : Bytes) : Only foot13 d (Dev.laneHello d n key payload) := by
  unfold Dev.laneHello
  repeat' first
    | with_reducible exact Only.refl
    | with_reducible apply Foot.Sub.mk; decide +kernel
    | with_reducible apply Only.emit
    | with_reducible apply Only.step (Dev.setLane_only ..)

theorem Dev.laneKey_only (d : Dev) (key : Bytes) (mine : Bytes) (theirs : Bytes) (pos : Nat) : Only foot28 d (Dev.laneKey d key mine theirs pos).2 := by
  unfold Dev.laneKey
  repeat' first
    | with_reducible exact Only.refl
    | with_reducible apply Foot.Sub.mk; decide +kernel
    | with_reducible apply Only.ite2
    | with_reducible apply Only.step (Dev.draw_only ..)

theorem Dev.laneUp_only (d : Dev) (n : Nat) : Only foot136 d (Dev.laneUp d n) := by
  unfold Dev.laneUp
  repeat' first
    | with_reducible exact Only.refl
    | with_reducible apply Foot.Sub.mk; decide +kernel
    | with_reducible apply Only.ite
    | with_reducible apply Only.step (Dev.setLane_only ..)
    | with_reducible apply Only.step (Dev.setPath_only ..)
    | with_reducible apply Only.step (Dev.twinEvent_only ..)

theorem Dev.loadEvent_only (d : Dev) (n : Nat) (code : Nat) (data : Nat) : Only foot26 d (Dev.loadEvent d n code data) := by
  unfold Dev.loadEvent
  repeat' first
    | with_reducible exact Only.refl
    | with_reducible apply Foot.Sub.mk; decide +kernel
    | with_reducible apply Only.step (Dev.eventSys_only ..)

theorem Dev.loadEventRing_only (d : Dev) (n : Nat) (code : Nat) (data : Nat) : Only foot91 d (Dev.loadEventRing d n code data) := by
  unfold Dev.loadEventRing
  repeat' first
    | with_reducible exact Only.refl
    | with_reducible apply Foot.Sub.mk; decide +kernel
    | with_reducible apply Only.step (Dev.eventRing_only ..)
    | with_reducible apply Only.step (Dev.loadEvent_only ..)

theorem Dev.latchLoad_only (d : Dev) (n : Nat) (reason : Nat) : Only foot333 d (Dev.latchLoad d n reason) := by
  unfold Dev.latchLoad
  repeat' first
    | with_reducible exact Only.refl
    | with_reducible apply Foot.Sub.mk; decide +kernel
    | with_reducible apply Only.count (has_loadCounter_2 ..)
    | with_reducible apply Only.step (Dev.enterLoad_only ..)
    | with_reducible apply Only.step (Dev.loadEventRing_only ..)

theorem Dev.lossJudged_only (d : Dev) : Only foot100 d (Dev.lossJudged d) := by
  unfold Dev.lossJudged
  repeat' first
    | with_reducible exact Only.refl
    | with_reducible apply Foot.Sub.mk; decide +kernel
    | with_reducible apply Only.step (Dev.setLoad_only ..)

theorem Dev.migEndSeen_only (d : Dev) (b : Bytes) : Only foot231 d (Dev.migEndSeen d b) := by
  unfold Dev.migEndSeen
  repeat' first
    | with_reducible exact Only.refl
    | with_reducible apply Foot.Sub.mk; decide +kernel
    | with_reducible apply Only.foldl
    | with_reducible apply Only.step (Dev.migDiscard_only ..)
    | with_reducible intro _
    | split

theorem Dev.nand_only (d : Dev) (w : NandWork) : Only foot334 d (Dev.nand d w) := by
  unfold Dev.nand
  repeat' first
    | with_reducible exact Only.refl
    | with_reducible apply Foot.Sub.mk; decide +kernel
    | with_reducible apply Only.foldl
    | with_reducible apply Only.put (has_Sto_BAD_GROWN ..)
    | with_reducible apply Only.put (has_Sto_ERASE_MAX ..)
    | with_reducible apply Only.put (has_Sto_ERASE_MEAN ..)
    | with_reducible apply Only.put (has_Sto_LIFE_USED ..)
    | with_reducible apply Only.put (has_Sto_SPARE_BLOCKS ..)
    | with_reducible apply Only.count (has_stoCounter_1 ..)
    | with_reducible apply Only.count (has_stoCounter_3 ..)
    | with_reducible apply Only.step (Dev.healthCheck_only ..)
    | with_reducible apply Only.step (Dev.stoEvent_only ..)
    | with_reducible intro _

theorem Dev.ndpBare_only (d : Dev) (m : NdpMsg) (s : Status) : Only foot51 d (Dev.ndpBare d m s) := by
  unfold Dev.ndpBare
  repeat' first
    | with_reducible exact Only.refl
    | with_reducible apply Foot.Sub.mk; decide +kernel
    | with_reducible apply Only.step (Dev.ndpSend_only ..)

theorem Only.ndpIntake {F : Foot} {a b : Dev} {m : NdpMsg} {f : Dev → Dev} (hs : Foot.Sub foot335 F) (hf : ∀ d, Only F d (f d)) (h : Only F a b) : Only F a (b.ndpIntake m f) := by
  unfold Dev.ndpIntake
  repeat' first
    | with_reducible exact ‹Only _ _ _›
    | with_reducible apply Foot.Sub.mk; decide +kernel
    | with_reducible refine Foot.Sub.trans (G := foot335) ?_ hs
    | with_reducible apply Only.ite
    | with_reducible apply Only.trans (hf _)
    | with_reducible apply Only.count (has_ndpCounter_1 ..)

theorem Dev.ndpTake_only (d : Dev) (m : NdpMsg) (f : Bytes → SessReq) : Only foot336 d (Dev.ndpTake d m f) := by
  unfold Dev.ndpTake
  repeat' first
    | with_reducible exact Only.refl
    | with_reducible apply Foot.Sub.mk; decide +kernel
    | with_reducible apply Only.ite
    | with_reducible apply Only.count (has_ndpCounter_0 ..)
    | with_reducible apply Only.count (has_ndpCounter_1 ..)
    | with_reducible apply Only.step (Dev.ndpAdvance_only ..)
    | with_reducible apply Only.step (Dev.ndpBare_only ..)
    | with_reducible apply Only.ndpIntake
    | with_reducible apply Only.step (Dev.ndpSend_only ..)
    | with_reducible apply Only.step (Dev.setD0_only ..)
    | with_reducible intro _
    | dsimp only
    | split

theorem Dev.nextRun_only (d : Dev) (a : Nat) : Only foot120 d (Dev.nextRun d a) := by
  unfold Dev.nextRun
  repeat' first
    | with_reducible exact Only.refl
    | with_reducible apply Foot.Sub.mk; decide +kernel
    | with_reducible apply Only.step (Dev.beginRun_only ..)
    | with_reducible apply Only.step (Dev.setConv_only ..)
    | split

theorem Dev.rxLost_only (d : Dev) (n : Nat) (k : Nat) : Only foot337 d (Dev.rxLost d n k) := by
  unfold Dev.rxLost
  repeat' first
    | with_reducible exact Only.refl
    | with_reducible apply Foot.Sub.mk; decide +kernel
    | with_reducible apply Only.count (has_canCounter_2 ..)
    | with_reducible apply Only.setFld (has_Obj_LOSTCNT ..)
    | with_reducible apply Only.step (Dev.canIrq_only ..)
    | with_reducible apply Only.step (Dev.event_only ..)
    | with_reducible apply Only.limited
    | with_reducible intro _

theorem Dev.objReceive_only (d : Dev) (n : Nat) (k : Nat) (x : RxFrame) : Only foot338 d (Dev.objReceive d n k x) := by
  unfold Dev.objReceive
  repeat' first
    | with_reducible exact Only.refl
    | with_reducible apply Foot.Sub.mk; decide +kernel
    | with_reducible apply Only.ite
    | with_reducible apply Only.step (Dev.objStore_only ..)
    | with_reducible apply Only.step (Dev.rxLost_only ..)
    | with_reducible apply Only.step (Dev.setCan_only ..)
    | dsimp only
    | split

theorem Dev.objOrFifo_only (d : Dev) (n : Nat) (x : RxFrame) : Only foot339 d (Dev.objOrFifo d n x) := by
  unfold Dev.objOrFifo
  repeat' first
    | with_reducible exact Only.refl
    | with_reducible apply Foot.Sub.mk; decide +kernel
    | with_reducible apply Only.ite
    | with_reducible apply Only.count (has_canCounter_4 ..)
    | with_reducible apply Only.step (Dev.fifoReceive_only ..)
    | with_reducible apply Only.step (Dev.objReceive_only ..)
    | dsimp only
    | split

theorem Dev.objTaken_only (d : Dev) (n : Nat) (x : RxFrame) : Only foot340 d (Dev.objTaken d n x) := by
  unfold Dev.objTaken
  repeat' first
    | with_reducible exact Only.refl
    | with_reducible apply Foot.Sub.mk; decide +kernel
    | with_reducible apply Only.ite
    | with_reducible apply Only.step (Dev.objOrFifo_only ..)
    | with_reducible apply Only.step (Dev.objectEvent_only ..)
    | dsimp only
    | split

theorem Dev.paceEvent_only (d : Dev) (code : Nat) : Only foot341 d (Dev.paceEvent d code) := by
  unfold Dev.paceEvent
  repeat' first
    | with_reducible exact Only.refl
    | with_reducible apply Foot.Sub.mk; decide +kernel
    | with_reducible apply Only.step (Dev.draw_only ..)
    | with_reducible apply Only.step (Dev.eventSys_only ..)

theorem Dev.pathBack_only (d : Dev) : Only foot342 d (Dev.pathBack d) := by
  unfold Dev.pathBack
  repeat' first
    | with_reducible exact Only.refl
    | with_reducible apply Foot.Sub.mk; decide +kernel
    | with_reducible apply Only.step (Dev.setPath_only ..)
    | with_reducible apply Only.step (Dev.setTwin_only ..)

theorem Dev.pllsStop_only (d : Dev) : Only foot343 d (Dev.pllsStop d) := by
  unfold Dev.pllsStop
  repeat' first
    | with_reducible exact Only.refl
    | with_reducible apply Foot.Sub.mk; decide +kernel
    | with_reducible apply Only.ite
    | with_reducible apply Only.foldl
    | with_reducible apply Only.put (has_Dom_SOURCE ..)
    | with_reducible apply Only.step (Dev.islandsRun_only ..)
    | with_reducible apply Only.step (Dev.setDom_only ..)
    | with_reducible apply Only.step (Dev.sscSet_only ..)
    | with_reducible intro _

theorem Dev.portDisabled_only (d : Dev) (p : Nat) : Only foot134 d (Dev.portDisabled d p) := by
  unfold Dev.portDisabled
  repeat' first
    | with_reducible exact Only.refl
    | with_reducible apply Foot.Sub.mk; decide +kernel
    | with_reducible apply Only.step (Dev.driveXtxdis_only ..)
    | with_reducible apply Only.step (Dev.linkDown_only ..)

theorem Dev.postLost_only (d : Dev) (p : GPost) (s : Status) : Only foot42 d (Dev.postLost d p s) := by
  unfold Dev.postLost
  repeat' first
    | with_reducible exact Only.refl
    | with_reducible apply Foot.Sub.mk; decide +kernel
    | with_reducible apply Only.step (Dev.postedFail_only ..)

theorem Dev.postFailed_only (d : Dev) (p : GPost) (s : Status) : Only foot274 d (Dev.postFailed d p s) := by
  unfold Dev.postFailed
  repeat' first
    | with_reducible exact Only.refl
    | with_reducible apply Foot.Sub.mk; decide +kernel
    | with_reducible apply Only.ite
    | with_reducible apply Only.step (Dev.attachEnd_only ..)
    | with_reducible apply Only.step (Dev.postLost_only ..)

theorem Dev.postedBad_only (d : Dev) (q : Nat) : Only foot13 d (Dev.postedBad d q) := by
  unfold Dev.postedBad
  repeat' first
    | with_reducible exact Only.refl
    | with_reducible apply Foot.Sub.mk; decide +kernel
    | with_reducible apply Only.ite
    | with_reducible apply Only.step (Dev.setTwin_only ..)
    | dsimp only
    | split

theorem Dev.postedSeen_only (d : Dev) (q : Nat) : Only foot13 d (Dev.postedSeen d q) := by
  unfold Dev.postedSeen
  repeat' first
    | with_reducible exact Only.refl
    | with_reducible apply Foot.Sub.mk; decide +kernel
    | with_reducible apply Only.step (Dev.setTwin_only ..)

theorem Dev.powerEvent_only (d : Dev) (code : Nat) (data : Nat) : Only foot91 d (Dev.powerEvent d code data) := by
  unfold Dev.powerEvent
  repeat' first
    | with_reducible exact Only.refl
    | with_reducible apply Foot.Sub.mk; decide +kernel
    | with_reducible apply Only.step (Dev.eventRing_only ..)
    | with_reducible apply Only.step (Dev.eventSys_only ..)

theorem Dev.programmed_only (d : Dev) (p : Nat → Bool) : Only foot181 d (Dev.programmed d p) := by
  unfold Dev.programmed
  repeat' first
    | with_reducible exact Only.refl
    | with_reducible apply Foot.Sub.mk; decide +kernel
    | with_reducible apply Only.step (Dev.setSto_only ..)

theorem Dev.ptpOut_only (d : Dev) (p : Nat) (k : PtpKind) (seq : Nat) (twoStep : Bool) (corr : Int) (body : Bytes) : Only foot51 d (Dev.ptpOut d p k seq twoStep corr body) := by
  unfold Dev.ptpOut
  repeat' first
    | with_reducible exact Only.refl
    | with_reducible apply Foot.Sub.mk; decide +kernel
    | with_reducible apply Only.emit
    | with_reducible apply Only.step (Dev.sendTcm_only ..)

theorem Dev.ptpSync_only (d : Dev) (p : Nat) (seq : Nat) (origin : Bytes) (corr : Int) : Only foot51 d (Dev.ptpSync d p seq origin corr) := by
  unfold Dev.ptpSync
  repeat' first
    | with_reducible exact Only.refl
    | with_reducible apply Foot.Sub.mk; decide +kernel
    | with_reducible apply Only.ite
    | with_reducible apply Only.step (Dev.ptpOut_only ..)

theorem Dev.putSectors_only (d : Dev) (w : List (Nat × Option Bytes)) : Only foot181 d (Dev.putSectors d w) := by
  unfold Dev.putSectors
  repeat' first
    | with_reducible exact Only.refl
    | with_reducible apply Foot.Sub.mk; decide +kernel
    | with_reducible apply Only.step (Dev.setSto_only ..)

theorem Dev.refuseReq_only (d : Dev) (q : QReq) (s : Status) : Only foot344 d (Dev.refuseReq d q s) := by
  unfold Dev.refuseReq
  repeat' first
    | with_reducible exact Only.refl
    | with_reducible apply Foot.Sub.mk; decide +kernel
    | with_reducible apply Only.step (Dev.answerReq_only ..)
    | with_reducible apply Only.step (Dev.staleReject_only ..)
    | split

theorem Dev.readExec_only (d : Dev) (q : QReq) : Only foot344 d (Dev.readExec d q) := by
  unfold Dev.readExec
  repeat' first
    | with_reducible exact Only.refl
    | with_reducible apply Foot.Sub.mk; decide +kernel
    | with_reducible apply Only.ite
    | with_reducible apply Only.step (Dev.refuseReq_only ..)
    | with_reducible apply Only.step (Dev.respond_only ..)
    | with_reducible apply Only.step (Dev.setD0_only ..)
    | dsimp only
    | split

theorem Dev.setCmd_only (d : Dev) (h : Nat) (c : StCmd) : Only foot329 d (Dev.setCmd d h c) := by
  unfold Dev.setCmd
  repeat' first
    | with_reducible exact Only.refl
    | with_reducible apply Foot.Sub.mk; decide +kernel
    | with_reducible apply Only.step (Dev.setRing_only ..)

theorem Dev.stgEnd_only (d : Dev) (h : Nat) (c : StCmd) (s : Status) : Only foot329 d (Dev.stgEnd d h c s) := by
  unfold Dev.stgEnd
  repeat' first
    | with_reducible exact Only.refl
    | with_reducible apply Foot.Sub.mk; decide +kernel
    | with_reducible apply Only.step (Dev.setCmd_only ..)

theorem Dev.sectorBad_only (d : Dev) (k : Nat) : Only foot345 d (Dev.sectorBad d k) := by
  unfold Dev.sectorBad
  repeat' first
    | with_reducible exact Only.refl
    | with_reducible apply Foot.Sub.mk; decide +kernel
    | with_reducible apply Only.ite
    | with_reducible apply Only.count (has_stoCounter_4 ..)
    | with_reducible apply Only.step (Dev.draw_only ..)
    | with_reducible apply Only.step (Dev.setSto_only ..)
    | with_reducible apply Only.step (Dev.stoEvent_only ..)

theorem Dev.readSectors_only (d : Dev) (h : Nat) (c : StCmd) (key : Nat → Nat) (gone : Nat → Bool) (bad : List Nat) (x0 : Nat) : Only foot346 d (Dev.readSectors d h c key gone bad x0) := by
  fun_induction Dev.readSectors d h c key gone bad x0
  all_goals repeat' first
    | with_reducible exact Only.refl
    | with_reducible apply Foot.Sub.mk; decide +kernel
    | with_reducible refine Only.trans (by assumption) ?_
    | with_reducible apply Only.count (has_partCounter_0 ..)
    | with_reducible apply Only.count (has_stoCounter_2 ..)
    | with_reducible apply Only.step (Dev.bufferWrite_only ..)
    | with_reducible apply Only.step (Dev.sectorBad_only ..)
    | with_reducible apply Only.step (Dev.setCmd_only ..)
    | with_reducible apply Only.step (Dev.stgEnd_only ..)
    | with_reducible refine Only.snd (by assumption) ?_

theorem Dev.setErrCounters_only (d : Dev) (n : Nat) (tec : Nat) (rec : Nat) : Only foot347 d (Dev.setErrCounters d n tec rec) := by
  unfold Dev.setErrCounters
  repeat' first
    | with_reducible exact Only.refl
    | with_reducible apply Foot.Sub.mk; decide +kernel
    | with_reducible apply Only.ite
    | with_reducible apply Only.setFld (has_Ch_BUS ..)
    | with_reducible apply Only.setFld (has_Ch_REC ..)
    | with_reducible apply Only.setFld (has_Ch_TEC ..)
    | with_reducible apply Only.step (Dev.canIrq_only ..)
    | with_reducible apply Only.step (Dev.event_only ..)

theorem Dev.recDown_only (d : Dev) (n : Nat) : Only foot348 d (Dev.recDown d n) := by
  unfold Dev.recDown
  repeat' first
    | with_reducible exact Only.refl
    | with_reducible apply Foot.Sub.mk; decide +kernel
    | with_reducible apply Only.ite
    | with_reducible apply Only.step (Dev.draw_only ..)
    | with_reducible apply Only.step (Dev.setErrCounters_only ..)

theorem Dev.refReceive_only (d : Dev) (n : Nat) (x : RxFrame) : Only foot349 d (Dev.refReceive d n x) := by
  unfold Dev.refReceive
  repeat' first
    | with_reducible exact Only.refl
    | with_reducible apply Foot.Sub.mk; decide +kernel
    | with_reducible apply Only.ite
    | with_reducible apply Only.setFld (has_Ch_REF_RX_INFO ..)
    | with_reducible apply Only.setFld (has_Ch_REF_RX_SEC ..)
    | with_reducible apply Only.setFld (has_Ch_REF_RX_STAMP ..)
    | with_reducible apply Only.setFld (has_Ch_REF_RX_TIME ..)
    | with_reducible apply Only.step (Dev.canIrq_only ..)
    | with_reducible apply Only.step (Dev.setCan_only ..)

theorem Dev.syncQuality_only (d : Dev) (o : Int) : Only foot276 d (Dev.syncQuality d o) := by
  unfold Dev.syncQuality
  repeat' first
    | with_reducible exact Only.refl
    | with_reducible apply Foot.Sub.mk; decide +kernel
    | with_reducible apply Only.ite
    | with_reducible apply Only.step (Dev.setQuality_only ..)
    | with_reducible apply Only.step (Dev.setTime_only ..)
    | dsimp only
    | split

theorem Dev.servo_only (d : Dev) (o : Int) : Only foot350 d (Dev.servo d o) := by
  unfold Dev.servo
  repeat' first
    | with_reducible exact Only.refl
    | with_reducible apply Foot.Sub.mk; decide +kernel
    | with_reducible apply Only.ite
    | with_reducible apply Only.put (has_Time_MASTER_OFFSET ..)
    | with_reducible apply Only.step (Dev.draw_only ..)
    | with_reducible apply Only.step (Dev.setQuality_only ..)
    | with_reducible apply Only.step (Dev.setTime_only ..)
    | with_reducible apply Only.step (Dev.stepTime_only ..)
    | with_reducible apply Only.step (Dev.syncQuality_only ..)

theorem Dev.refTaken_only (d : Dev) (n : Nat) (x : RxFrame) : Only foot351 d (Dev.refTaken d n x) := by
  unfold Dev.refTaken
  repeat' first
    | with_reducible exact Only.refl
    | with_reducible apply Foot.Sub.mk; decide +kernel
    | with_reducible apply Only.ite
    | with_reducible apply Only.step (Dev.refReceive_only ..)
    | with_reducible apply Only.step (Dev.servo_only ..)
    | with_reducible apply Only.step (Dev.setQuality_only ..)
    | with_reducible apply Only.step (Dev.setTime_only ..)
    | with_reducible apply Only.step (Dev.stepTime_only ..)

theorem Dev.transact_only (d : Dev) (t : Txn) : Only foot152 d (Dev.transact d t) := by
  unfold Dev.transact
  repeat' first
    | with_reducible exact Only.refl
    | with_reducible apply Foot.Sub.mk; decide +kernel
    | with_reducible apply Only.step (Dev.access_only ..)
    | with_reducible apply Only.issued
    | with_reducible intro _

theorem Dev.registerWrite_only (d : Dev) (t : Txn) : Only foot152 d (Dev.registerWrite d t) := by
  unfold Dev.registerWrite
  repeat' first
    | with_reducible exact Only.refl
    | with_reducible apply Foot.Sub.mk; decide +kernel
    | with_reducible apply Only.step (Dev.transact_only ..)

theorem Dev.retainSave_only (d : Dev) : Only foot1 d (Dev.retainSave d) := by
  unfold Dev.retainSave
  repeat' first
    | with_reducible exact Only.refl
    | with_reducible apply Foot.Sub.mk; decide +kernel
    | with_reducible apply Only.step (Dev.abandonTasks_only ..)
    | with_reducible apply Only.step (Dev.setScan_only ..)

theorem Dev.retainSaved_only (d : Dev) : Only foot352 d (Dev.retainSaved d) := by
  unfold Dev.retainSaved
  repeat' first
    | with_reducible exact Only.refl
    | with_reducible apply Foot.Sub.mk; decide +kernel
    | with_reducible apply Only.step (Dev.seEvent_only ..)
    | with_reducible apply Only.step (Dev.setScan_only ..)
    | split

theorem Dev.slotBack_only (d : Dev) (s : Nat) : Only foot353 d (Dev.slotBack d s) := by
  unfold Dev.slotBack
  repeat' first
    | with_reducible exact Only.refl
    | with_reducible apply Foot.Sub.mk; decide +kernel
    | with_reducible apply Only.ite
    | with_reducible apply Only.put (has_Stn_STATE ..)
    | with_reducible apply Only.step (Dev.seEvent_only ..)
    | with_reducible apply Only.step (Dev.setSlot_only ..)

theorem Dev.rpdoReceive_only (d : Dev) (k : Nat) (f : CanFrame) : Only foot354 d (Dev.rpdoReceive d k f) := by
  unfold Dev.rpdoReceive
  repeat' first
    | with_reducible exact Only.refl
    | with_reducible apply Foot.Sub.mk; decide +kernel
    | with_reducible apply Only.ite
    | with_reducible apply Only.count (has_slotCounter_0 ..)
    | with_reducible apply Only.step (Dev.setSlot_only ..)
    | with_reducible apply Only.step (Dev.slotBack_only ..)

theorem Dev.runEnds_only (d : Dev) (a : Nat) (codes : List Nat) (r : AdcRun) : Only foot355 d (Dev.runEnds d a codes r) := by
  unfold Dev.runEnds
  repeat' first
    | with_reducible exact Only.refl
    | with_reducible apply Foot.Sub.mk; decide +kernel
    | with_reducible apply Only.foldl
    | with_reducible apply Only.setFldBit (has_Adcr_IRQ ..)
    | with_reducible apply Only.setFld (has_Adcr_LATE ..)
    | with_reducible apply Only.setFld (has_Adcr_LEN ..)
    | with_reducible apply Only.setFld (has_Adcr_RESULT_EVEN ..)
    | with_reducible apply Only.setFld (has_Adcr_RESULT_ODD ..)
    | with_reducible apply Only.setFld (has_Adcr_SEQ_COUNT ..)
    | with_reducible apply Only.setFld (has_Adcr_STAMP ..)
    | with_reducible apply Only.setFld (has_Adcr_TGEN ..)
    | with_reducible apply Only.step (Dev.converted_only ..)
    | with_reducible apply Only.step (Dev.setConv_only ..)
    | with_reducible apply Only.step (Dev.showConv_only ..)
    | with_reducible intro _
    | dsimp only
    | split

theorem Dev.waitsAgain_only (d : Dev) (key : Nat) (x0 : Option Origin) : Only foot106 d (Dev.waitsAgain d key x0) := by
  unfold Dev.waitsAgain
  repeat' first
    | with_reducible exact Only.refl
    | with_reducible apply Foot.Sub.mk; decide +kernel
    | with_reducible apply Only.ite
    | with_reducible apply Only.step (Dev.setD0_only ..)
    | split

theorem Only.runUnit {F : Foot} {a b : Dev} {o : Origin} {k : Nat} {f : Dev → Dev} (hs : Foot.Sub foot109 F) (hf : ∀ d, Only F d (f d)) (h : Only F a b) : Only F a (b.runUnit o k f) := by
  unfold Dev.runUnit
  repeat' first
    | with_reducible exact ‹Only _ _ _›
    | with_reducible apply Foot.Sub.mk; decide +kernel
    | with_reducible refine Foot.Sub.trans (G := foot109) ?_ hs
    | with_reducible apply Only.trans (hf _)
    | with_reducible apply Only.step (Dev.waitsAgain_only ..)
    | with_reducible apply Only.step (Dev.respond_only ..)
    | with_reducible apply Only.step (Dev.setD0_only ..)
    | dsimp only
    | split
    | with_reducible apply Only.set_out

theorem Dev.rxComplete_only (d : Dev) (q : Nat) (b : Bytes) (len : Nat) (tc : Nat) (vid : Nat) (s : Status) : Only foot356 d (Dev.rxComplete d q b len tc vid s) := by
  unfold Dev.rxComplete
  repeat' first
    | with_reducible exact Only.refl
    | with_reducible apply Foot.Sub.mk; decide +kernel
    | with_reducible apply Only.ite
    | with_reducible apply Only.setFld (has_Qpr_RX_HEAD ..)
    | with_reducible apply Only.step (Dev.hallWrite_only ..)
    | with_reducible apply Only.step (Dev.qpIrq_only ..)

theorem Dev.rxRejected_only (d : Dev) (u : Nat) : Only foot357 d (Dev.rxRejected d u) := by
  unfold Dev.rxRejected
  repeat' first
    | with_reducible exact Only.refl
    | with_reducible apply Foot.Sub.mk; decide +kernel
    | with_reducible apply Only.count (has_buCounter_0 ..)
    | with_reducible apply Only.step (Dev.event_only ..)
    | with_reducible apply Only.limited
    | with_reducible intro _

theorem Dev.safeReturns_only (d : Dev) : Only foot112 d (Dev.safeReturns d) := by
  unfold Dev.safeReturns
  repeat' first
    | with_reducible exact Only.refl
    | with_reducible apply Foot.Sub.mk; decide +kernel
    | with_reducible apply Only.ite
    | with_reducible apply Only.foldl
    | with_reducible apply Only.step (Dev.applySafe_only ..)
    | with_reducible intro _

theorem Dev.sdoSubmit_only (d : Dev) (n : Nat) (idx : Nat) (sub : Nat) (reply : Nat) (write : Bool) (data : Bytes) : Only foot358 d (Dev.sdoSubmit d n idx sub reply write data) := by
  unfold Dev.sdoSubmit
  repeat' first
    | with_reducible exact Only.refl
    | with_reducible apply Foot.Sub.mk; decide +kernel
    | with_reducible apply Only.ite
    | with_reducible apply Only.step (Dev.sdoAbort_only ..)
    | with_reducible apply Only.step (Dev.setSdo_only ..)
    | with_reducible apply Only.step (Dev.submit_only ..)

theorem Dev.selectTx_only (d : Dev) (p : Nat) (x0 : Nat) : Only foot124 d (Dev.selectTx d p x0) := by
  fun_induction Dev.selectTx d p x0
  all_goals repeat' first
    | with_reducible exact Only.refl
    | with_reducible apply Foot.Sub.mk; decide +kernel
    | with_reducible refine Only.trans (by assumption) ?_
    | with_reducible apply Only.step (Dev.dropWhere_only ..)
    | with_reducible apply Only.step (Dev.setSw_only ..)

theorem Dev.sendCommit_only (d : Dev) (i : Nat) : Only foot30 d (Dev.sendCommit d i) := by
  unfold Dev.sendCommit
  repeat' first
    | with_reducible exact Only.refl
    | with_reducible apply Foot.Sub.mk; decide +kernel
    | with_reducible apply Only.step (Dev.post_only ..)

theorem Dev.sendReady_only (d : Dev) (s : Status) : Only foot30 d (Dev.sendReady d s) := by
  unfold Dev.sendReady
  repeat' first
    | with_reducible exact Only.refl
    | with_reducible apply Foot.Sub.mk; decide +kernel
    | with_reducible apply Only.step (Dev.post_only ..)

theorem Dev.sendState_only (d : Dev) (kind : Nat) (b : Bytes) : Only foot30 d (Dev.sendState d kind b) := by
  unfold Dev.sendState
  repeat' first
    | with_reducible exact Only.refl
    | with_reducible apply Foot.Sub.mk; decide +kernel
    | with_reducible apply Only.foldl
    | with_reducible apply Only.step (Dev.post_only ..)
    | with_reducible intro _

theorem Dev.senseAges_only (d : Dev) : Only foot99 d (Dev.senseAges d) := by
  unfold Dev.senseAges
  repeat' first
    | with_reducible exact Only.refl
    | with_reducible apply Foot.Sub.mk; decide +kernel
    | with_reducible apply Only.ite
    | with_reducible apply Only.foldl
    | with_reducible apply Only.step (Dev.setLoadFlag_only ..)
    | with_reducible intro _

theorem Dev.senseAssign_only (d : Dev) (n : Nat) (code : Nat) : Only foot359 d (Dev.senseAssign d n code) := by
  unfold Dev.senseAssign
  repeat' first
    | with_reducible exact Only.refl
    | with_reducible apply Foot.Sub.mk; decide +kernel
    | with_reducible apply Only.ite
    | with_reducible apply Only.ite2
    | with_reducible apply Only.put (has_Lc_CURRENT_MA ..)
    | with_reducible apply Only.step (Dev.draw_only ..)
    | with_reducible apply Only.step (Dev.setLoadCh_only ..)
    | with_reducible apply Only.step (Dev.setLoadFlag_only ..)

theorem Dev.sensePin_only (d : Dev) (g : Nat) (code : Nat) (p : SensePin) : Only foot360 d (Dev.sensePin d g code p) := by
  unfold Dev.sensePin
  repeat' first
    | with_reducible exact Only.refl
    | with_reducible apply Foot.Sub.mk; decide +kernel
    | with_reducible apply Only.ite
    | with_reducible apply Only.putInt (has_Lc_TJ_C ..)
    | with_reducible apply Only.put (has_Lcg_DELTA_T_K ..)
    | with_reducible apply Only.putInt (has_Lcg_DIE_TEMP_C ..)
    | with_reducible apply Only.put (has_Lcg_VBAT_MV ..)
    | with_reducible apply Only.step (Dev.senseAssign_only ..)
    | with_reducible apply Only.step (Dev.setLoadFlag_only ..)

theorem Dev.senseExternal_only (d : Dev) (g : Nat) (p : SensePin) : Only foot360 d (Dev.senseExternal d g p) := by
  unfold Dev.senseExternal
  repeat' first
    | with_reducible exact Only.refl
    | with_reducible apply Foot.Sub.mk; decide +kernel
    | with_reducible apply Only.ite
    | with_reducible apply Only.step (Dev.sensePin_only ..)
    | with_reducible apply Only.step (Dev.setLoadCh_only ..)

theorem nmtCommandOp_only (n : Nat) (cs : Nat) (node : Nat) (d : Dev) : Only Foot.nmtCommand d (nmtCommandOp n cs node d) := by
  unfold nmtCommandOp
  repeat' first
    | with_reducible exact Only.refl
    | with_reducible apply Foot.Sub.mk; decide +kernel
    | with_reducible apply Only.ite
    | with_reducible apply Only.step (Dev.resetComm_only ..)
    | with_reducible apply Only.step (Dev.setNmt_only ..)

theorem sdoRequestOp_only (n : Nat) (b : Bytes) (d : Dev) : Only Foot.sdoRequest d (sdoRequestOp n b d) := by
  unfold sdoRequestOp
  repeat' first
    | with_reducible exact Only.refl
    | with_reducible apply Foot.Sub.mk; decide +kernel
    | with_reducible apply Only.ite
    | with_reducible apply Only.step (Dev.sdoAbort_only ..)
    | with_reducible apply Only.step (Dev.sdoSend_only ..)
    | with_reducible apply Only.step (Dev.sdoSubmit_only ..)
    | with_reducible apply Only.step (Dev.setSdo_only ..)
    | dsimp only
    | split

theorem Dev.serve_only (d : Dev) (n : Nat) (f : CanFrame) : Only foot361 d (Dev.serve d n f) := by
  unfold Dev.serve
  repeat' first
    | with_reducible exact Only.refl
    | with_reducible apply Foot.Sub.mk; decide +kernel
    | with_reducible apply Only.ite
    | with_reducible apply Only.step (nmtCommandOp_only ..)
    | with_reducible apply Only.step (sdoRequestOp_only ..)

theorem Dev.serveConnect_only (d : Dev) (u : Nat) (m : BMsg) (mac : Nat) : Only foot362 d (Dev.serveConnect d u m mac) := by
  unfold Dev.serveConnect
  repeat' first
    | with_reducible exact Only.refl
    | with_reducible apply Foot.Sub.mk; decide +kernel
    | with_reducible apply Only.ite
    | with_reducible apply Only.step (Dev.bareAnswer_only ..)
    | with_reducible apply Only.step (Dev.bridgeSend_only ..)
    | with_reducible apply Only.step (Dev.draw_only ..)
    | with_reducible apply Only.step (Dev.rxRejected_only ..)
    | with_reducible apply Only.step (Dev.setBr_only ..)
    | dsimp only
    | split

theorem Dev.serveRequest_only (d : Dev) (u : Nat) (m : BMsg) (mac : Nat) : Only foot152 d (Dev.serveRequest d u m mac) := by
  unfold Dev.serveRequest
  repeat' first
    | with_reducible exact Only.refl
    | with_reducible apply Foot.Sub.mk; decide +kernel
    | with_reducible apply Only.ite
    | with_reducible apply Only.step (Dev.bareAnswer_only ..)
    | with_reducible apply Only.step (Dev.bridgeSend_only ..)
    | with_reducible apply Only.step (Dev.rxRejected_only ..)
    | with_reducible apply Only.step (Dev.sendAck_only ..)
    | with_reducible apply Only.step (Dev.serveNext_only ..)
    | with_reducible apply Only.step (Dev.setServe_only ..)
    | dsimp only
    | split

theorem Dev.setDelay_only (d : Dev) (p : Nat) (v : Int) : Only foot363 d (Dev.setDelay d p v) := by
  unfold Dev.setDelay
  repeat' first
    | with_reducible exact Only.refl
    | with_reducible apply Foot.Sub.mk; decide +kernel
    | with_reducible apply Only.put (has_Ptime_MEAN_LINK_DELAY ..)

theorem Dev.setSp_only (d : Dev) (f : ServicePort → ServicePort) : Only foot161 d (Dev.setSp d f) := by
  have h_power : Part.In .power foot161 := ⟨by decide +kernel⟩
  unfold Dev.setSp
  repeat' first
    | with_reducible exact Only.refl
    | simp only [Only.set_power_eq h_power]

theorem Dev.setSupply_only (d : Dev) (f : Supply → Supply) : Only foot364 d (Dev.setSupply d f) := by
  have h_supply : Part.In .supply foot364 := ⟨by decide +kernel⟩
  unfold Dev.setSupply
  repeat' first
    | with_reducible exact Only.refl
    | simp only [Only.set_supply_eq h_supply]

theorem Dev.setTunnel_only (d : Dev) (t : Nat) (f : Tunnel → Tunnel) : Only foot64 d (Dev.setTunnel d t f) := by
  unfold Dev.setTunnel
  repeat' first
    | with_reducible exact Only.refl
    | with_reducible apply Foot.Sub.mk; decide +kernel
    | with_reducible apply Only.step (Dev.setBr_only ..)

theorem Dev.settleCut_only (d : Dev) (k : Nat) (n : Nat) (p : Nat) (c : Nat) : Only foot365 d (Dev.settleCut d k n p c) := by
  unfold Dev.settleCut
  repeat' first
    | with_reducible exact Only.refl
    | with_reducible apply Foot.Sub.mk; decide +kernel
    | with_reducible apply Only.ite
    | with_reducible apply Only.count (has_ctCopies ..)
    | with_reducible apply Only.step (Dev.setSw_only ..)

theorem Dev.shadowWrite_only (d : Dev) (a : Asker) (i : Nat) (f : Shadow → Shadow) : Only foot106 d (Dev.shadowWrite d a i f) := by
  unfold Dev.shadowWrite
  repeat' first
    | with_reducible exact Only.refl
    | with_reducible apply Foot.Sub.mk; decide +kernel
    | with_reducible apply Only.step (Dev.setD0_only ..)

theorem keepaliveReceiveOp_only (k : Nat) (ty : Nat) (version : Nat) (node : Nat) (flags : Nat) (d : Dev) : Only Foot.keepaliveReceive d (keepaliveReceiveOp k ty version node flags d) := by
  unfold keepaliveReceiveOp
  repeat' first
    | with_reducible exact Only.refl
    | with_reducible apply Foot.Sub.mk; decide +kernel
    | with_reducible apply Only.ite
    | with_reducible apply Only.step (Dev.domainTriggered_only ..)
    | with_reducible apply Only.step (Dev.entryAborts_only ..)
    | with_reducible apply Only.step (Dev.wakeConfirmed_only ..)

theorem Dev.sleepObserves_only (d : Dev) (n : Nat) (f : CanFrame) : Only foot366 d (Dev.sleepObserves d n f) := by
  unfold Dev.sleepObserves
  repeat' first
    | with_reducible exact Only.refl
    | with_reducible apply Foot.Sub.mk; decide +kernel
    | with_reducible apply Only.ite
    | with_reducible apply Only.step (keepaliveReceiveOp_only ..)

theorem Dev.spReply_only (d : Dev) (op : Nat) (seq : Nat) (s : Status) (body : Bytes) (cache : Bool) : Only foot367 d (Dev.spReply d op seq s body cache) := by
  unfold Dev.spReply
  repeat' first
    | with_reducible exact Only.refl
    | with_reducible apply Foot.Sub.mk; decide +kernel
    | with_reducible apply Only.ite
    | with_reducible apply Only.step (Dev.setD0_only ..)
    | with_reducible apply Only.step (Dev.setSp_only ..)

theorem Dev.stagingBegun_only (d : Dev) : Only foot165 d (Dev.stagingBegun d) := by
  unfold Dev.stagingBegun
  repeat' first
    | with_reducible exact Only.refl
    | with_reducible apply Foot.Sub.mk; decide +kernel
    | with_reducible apply Only.putOct (has_Stg_STAGING ..)
    | with_reducible apply Only.put (has_Upd_STAGED_VERSION ..)
    | with_reducible apply Only.put (has_Upd_STAGING_STATE ..)

theorem Dev.stagingDone_only (d : Dev) (b : Bytes) : Only foot165 d (Dev.stagingDone d b) := by
  unfold Dev.stagingDone
  repeat' first
    | with_reducible exact Only.refl
    | with_reducible apply Foot.Sub.mk; decide +kernel
    | with_reducible apply Only.putOct (has_Stg_STAGING ..)
    | with_reducible apply Only.put (has_Upd_STAGED_VERSION ..)
    | with_reducible apply Only.put (has_Upd_STAGING_STATE ..)

theorem Dev.stgIrq_only (d : Dev) (h : Nat) (new : Nat) : Only foot368 d (Dev.stgIrq d h new) := by
  unfold Dev.stgIrq
  repeat' first
    | with_reducible exact Only.refl
    | with_reducible apply Foot.Sub.mk; decide +kernel
    | with_reducible apply Only.ite
    | with_reducible apply Only.setFld (has_Stg_IRQ ..)
    | with_reducible apply Only.step (Dev.eventRing_only ..)

theorem Dev.stgStop_only (d : Dev) (h : Nat) (s : Status) : Only foot369 d (Dev.stgStop d h s) := by
  unfold Dev.stgStop
  repeat' first
    | with_reducible exact Only.refl
    | with_reducible apply Foot.Sub.mk; decide +kernel
    | with_reducible apply Only.setFld (has_Stg_CODE ..)
    | with_reducible apply Only.setFld (has_Stg_STOPPED ..)

theorem Dev.stoDurable_only (d : Dev) : Only foot181 d (Dev.stoDurable d) := by
  unfold Dev.stoDurable
  repeat' first
    | with_reducible exact Only.refl
    | with_reducible apply Foot.Sub.mk; decide +kernel
    | with_reducible apply Only.step (Dev.programmed_only ..)

theorem Dev.storeCommit_only (d : Dev) : Only foot370 d (Dev.storeCommit d) := by
  unfold Dev.storeCommit
  repeat' first
    | with_reducible exact Only.refl
    | with_reducible apply Foot.Sub.mk; decide +kernel
    | with_reducible apply Only.foldl
    | with_reducible apply Only.step (Dev.recordWritten_only ..)
    | with_reducible apply Only.step (Dev.respond_only ..)
    | with_reducible apply Only.step (Dev.setD0_only ..)
    | with_reducible intro _
    | dsimp only
    | split

theorem Dev.storeStart_only (d : Dev) (o : Origin) (restore : Bool) (n : Nat) : Only foot109 d (Dev.storeStart d o restore n) := by
  unfold Dev.storeStart
  repeat' first
    | with_reducible exact Only.refl
    | with_reducible apply Foot.Sub.mk; decide +kernel
    | with_reducible apply Only.ite
    | with_reducible apply Only.step (Dev.respond_only ..)
    | with_reducible apply Only.step (Dev.setD0_only ..)

theorem Dev.streamsResume_only (d : Dev) : Only foot14 d (Dev.streamsResume d) := by
  unfold Dev.streamsResume
  repeat' first
    | with_reducible exact Only.refl
    | with_reducible apply Foot.Sub.mk; decide +kernel
    | with_reducible apply Only.ite
    | with_reducible apply Only.foldl
    | with_reducible apply Only.step (Dev.setStream_only ..)
    | with_reducible intro _

theorem Dev.stwMoved_only (d : Dev) (n : Nat) : Only foot14 d (Dev.stwMoved d n) := by
  unfold Dev.stwMoved
  repeat' first
    | with_reducible exact Only.refl
    | with_reducible apply Foot.Sub.mk; decide +kernel
    | with_reducible apply Only.step (Dev.setSw_only ..)

theorem Dev.supplyLost_only (d : Dev) : Only foot250 d (Dev.supplyLost d) := by
  have h_power : Part.In .power foot250 := ⟨by decide +kernel⟩
  unfold Dev.supplyLost
  repeat' first
    | with_reducible exact Only.refl
    | with_reducible apply Foot.Sub.mk; decide +kernel
    | with_reducible apply Only.emit
    | with_reducible apply Only.step (Dev.afterReset_only ..)
    | simp only [Only.set_power_eq h_power]

theorem Dev.switchData_only (d : Dev) (old : Bytes) (new : Bytes) : Only foot5 d (Dev.switchData d old new) := by
  unfold Dev.switchData
  repeat' first
    | with_reducible exact Only.refl
    | with_reducible apply Foot.Sub.mk; decide +kernel
    | with_reducible apply Only.ite
    | with_reducible apply Only.foldl
    | with_reducible apply Only.step (Dev.loadData_only ..)
    | with_reducible apply Only.step (Dev.retainInit_only ..)
    | with_reducible apply Only.step (Dev.writeMem_only ..)
    | with_reducible apply Only.step (Dev.writeTcm_only ..)
    | with_reducible intro _
    | split

theorem Dev.switchForces_only (d : Dev) (old : Bytes) (new : Bytes) : Only foot371 d (Dev.switchForces d old new).2 := by
  unfold Dev.switchForces
  repeat' first
    | with_reducible exact Only.refl
    | with_reducible apply Foot.Sub.mk; decide +kernel
    | with_reducible apply Only.ite2
    | with_reducible apply Only.step (Dev.forcesChanged_only ..)
    | with_reducible apply Only.step (Dev.setScan_only ..)

theorem Dev.switchSlots_only (d : Dev) (old : Bytes) (new : Bytes) : Only foot289 d (Dev.switchSlots d old new) := by
  unfold Dev.switchSlots
  repeat' first
    | with_reducible exact Only.refl
    | with_reducible apply Foot.Sub.mk; decide +kernel
    | with_reducible apply Only.ite
    | with_reducible apply Only.foldl
    | with_reducible apply Only.put (has_Stn_STATE ..)
    | with_reducible apply Only.step (Dev.bumpEpoch_only ..)
    | with_reducible apply Only.step (Dev.setScan_only ..)
    | with_reducible intro _

theorem Dev.switchTasks_only (d : Dev) (old : Bytes) (new : Bytes) : Only foot372 d (Dev.switchTasks d old new) := by
  unfold Dev.switchTasks
  repeat' first
    | with_reducible exact Only.refl
    | with_reducible apply Foot.Sub.mk; decide +kernel
    | with_reducible apply Only.foldl
    | with_reducible apply Only.step (Dev.armTask_only ..)
    | with_reducible apply Only.step (Dev.releaseUnit_only ..)
    | with_reducible apply Only.step (Dev.setScan_only ..)
    | with_reducible intro _

theorem Dev.switchImage_only (d : Dev) (c : Change) : Only foot373 d (Dev.switchImage d c) := by
  unfold Dev.switchImage
  repeat' first
    | with_reducible exact Only.refl
    | with_reducible apply Foot.Sub.mk; decide +kernel
    | with_reducible apply Only.foldl
    | with_reducible apply Only.put (has_Chg_CHANGE_STATE ..)
    | with_reducible apply Only.put (has_Se_ACTIVE_ID ..)
    | with_reducible apply Only.putOct (has_Seimg_ACTIVE_IMAGE ..)
    | with_reducible apply Only.step (Dev.draw_only ..)
    | with_reducible apply Only.step (Dev.exchangeBanks_only ..)
    | with_reducible apply Only.step (Dev.recordWritten_only ..)
    | with_reducible apply Only.step (Dev.setEngine_only ..)
    | with_reducible apply Only.step (Dev.setScan_only ..)
    | with_reducible apply Only.step (Dev.snapshot_only ..)
    | with_reducible apply Only.step (Dev.switchData_only ..)
    | with_reducible apply Only.step (Dev.switchForces_only ..)
    | with_reducible apply Only.step (Dev.switchSlots_only ..)
    | with_reducible apply Only.step (Dev.switchTasks_only ..)
    | with_reducible intro _

theorem Dev.switchStart_only (d : Dev) (k : Nat) (t : Nat) : Only foot215 d (Dev.switchStart d k t) := by
  unfold Dev.switchStart
  repeat' first
    | with_reducible exact Only.refl
    | with_reducible apply Foot.Sub.mk; decide +kernel
    | with_reducible apply Only.put (has_Dom_SOURCE ..)
    | with_reducible apply Only.step (Dev.domLinksDown_only ..)
    | with_reducible apply Only.step (Dev.islandsRun_only ..)
    | with_reducible apply Only.step (Dev.setDom_only ..)

theorem Dev.takeForces_only (d : Dev) (gen : Nat) (n : Nat) (b : Bytes) : Only foot374 d (Dev.takeForces d gen n b) := by
  unfold Dev.takeForces
  repeat' first
    | with_reducible exact Only.refl
    | with_reducible apply Foot.Sub.mk; decide +kernel
    | with_reducible apply Only.put (has_Frc_FORCE_COUNT ..)
    | with_reducible apply Only.put (has_Frc_FORCE_GEN ..)
    | with_reducible apply Only.step (Dev.setScan_only ..)

theorem Dev.takeSegment_only (d : Dev) (o : Origin) (a : Asker) (r : DictRow) (q : DictReq) : Only foot375 d (Dev.takeSegment d o a r q) := by
  unfold Dev.takeSegment
  repeat' first
    | with_reducible exact Only.refl
    | with_reducible apply Foot.Sub.mk; decide +kernel
    | with_reducible apply Part.In.mk; decide +kernel
    | with_reducible apply Only.ite
    | with_reducible apply Only.putOct_all
    | with_reducible apply Only.step (Dev.respond_only ..)
    | with_reducible apply Only.step (Dev.setD0_only ..)
    | with_reducible apply Only.step (Dev.shadowWrite_only ..)
    | with_reducible apply Only.step (Dev.stagingBegun_only ..)
    | with_reducible apply Only.step (Dev.stagingDone_only ..)

theorem Dev.takeSlots_only (d : Dev) (b : Bytes) (x0 : List StnRec) : Only foot190 d (Dev.takeSlots d b x0).2 := by
  fun_induction Dev.takeSlots d b x0
  all_goals repeat' first
    | with_reducible exact Only.refl
    | with_reducible apply Foot.Sub.mk; decide +kernel
    | with_reducible refine Only.trans (by assumption) ?_
    | with_reducible apply Only.put (has_Stn_STATE ..)
    | with_reducible apply Only.step (Dev.setSlot_only ..)

theorem Dev.takeStreams_only (d : Dev) (n : Nat) (b : Bytes) : Only foot14 d (Dev.takeStreams d n b) := by
  unfold Dev.takeStreams
  repeat' first
    | with_reducible exact Only.refl
    | with_reducible apply Foot.Sub.mk; decide +kernel
    | with_reducible apply Only.foldl
    | with_reducible apply Only.step (Dev.setStream_only ..)
    | with_reducible intro _

theorem Dev.takeSnapshot_only (d : Dev) (b : Bytes) : Only foot376 d (Dev.takeSnapshot d b) := by
  unfold Dev.takeSnapshot
  repeat' first
    | with_reducible exact Only.refl
    | with_reducible apply Foot.Sub.mk; decide +kernel
    | with_reducible apply Only.foldl
    | with_reducible apply Only.foldl2
    | with_reducible apply Only.step (Dev.abandonTasks_only ..)
    | with_reducible apply Only.step (Dev.armTask_only ..)
    | with_reducible apply Only.step (Dev.setEngine_only ..)
    | with_reducible apply Only.step (Dev.setRun_only ..)
    | with_reducible apply Only.step (Dev.setScan_only ..)
    | with_reducible apply Only.step (Dev.setTwinRun_only ..)
    | with_reducible apply Only.step (Dev.takeForces_only ..)
    | with_reducible apply Only.step (Dev.takeSlots_only ..)
    | with_reducible apply Only.step (Dev.takeStreams_only ..)
    | with_reducible apply Only.step (Dev.writeMem_only ..)
    | with_reducible apply Only.step (Dev.writeTcm_only ..)
    | with_reducible intro _
    | split

theorem Dev.tunnelObserve_only (d : Dev) (n : Nat) (f : CanFrame) (stamp : Nat) : Only foot64 d (Dev.tunnelObserve d n f stamp) := by
  unfold Dev.tunnelObserve
  repeat' first
    | with_reducible exact Only.refl
    | with_reducible apply Foot.Sub.mk; decide +kernel
    | with_reducible apply Only.ite
    | with_reducible apply Only.foldl
    | with_reducible apply Only.step (Dev.setTunnel_only ..)
    | with_reducible intro _

theorem Dev.unitPauses_only (d : Dev) (x : UnitId) : Only foot377 d (Dev.unitPauses d x) := by
  have h_drains : Part.In .drains foot377 := ⟨by decide +kernel⟩
  unfold Dev.unitPauses
  repeat' first
    | with_reducible exact Only.refl
    | with_reducible apply Foot.Sub.mk; decide +kernel
    | with_reducible apply Only.ite
    | with_reducible apply Only.put (has_unitStateEntry ..)
    | with_reducible apply Only.step (Dev.drainCut_only ..)
    | with_reducible apply Only.step (Dev.unitDraining_only ..)
    | simp only [Only.set_drains_eq h_drains]

theorem Dev.vestibuleServe_only (d : Dev) (op : Nat) (seq : Nat) (q : DictReq) (env : WakeEnv) : Only foot269 d (Dev.vestibuleServe d op seq q env) := by
  unfold Dev.vestibuleServe
  repeat' first
    | with_reducible exact Only.refl
    | with_reducible apply Foot.Sub.mk; decide +kernel
    | with_reducible apply Only.ite
    | with_reducible apply Only.step (Dev.spReply_only ..)
    | with_reducible apply Only.step (wakeReqOp_only ..)
    | dsimp only
    | split

theorem Dev.writeEnd_only (d : Dev) (h : Nat) (c : StCmd) (key : Nat → Nat) : Only foot329 d (Dev.writeEnd d h c key) := by
  unfold Dev.writeEnd
  repeat' first
    | with_reducible exact Only.refl
    | with_reducible apply Foot.Sub.mk; decide +kernel
    | with_reducible apply Only.ite
    | with_reducible apply Only.step (Dev.programmed_only ..)
    | with_reducible apply Only.step (Dev.stgEnd_only ..)

theorem Dev.writeAtomic_only (d : Dev) (h : Nat) (c : StCmd) (key : Nat → Nat) : Only foot378 d (Dev.writeAtomic d h c key) := by
  unfold Dev.writeAtomic
  repeat' first
    | with_reducible exact Only.refl
    | with_reducible apply Foot.Sub.mk; decide +kernel
    | with_reducible apply Only.count (has_partCounter_1 ..)
    | with_reducible apply Only.count (has_stoCounter_0 ..)
    | with_reducible apply Only.step (Dev.putSectors_only ..)
    | with_reducible apply Only.step (Dev.stgEnd_only ..)
    | with_reducible apply Only.step (Dev.writeEnd_only ..)
    | dsimp only
    | split

theorem Dev.writeGuard_only (d : Dev) (q : QReq) (a : Asker) : Only foot155 d (Dev.writeGuard d q a).2 := by
  unfold Dev.writeGuard
  repeat' first
    | with_reducible exact Only.refl
    | with_reducible apply Foot.Sub.mk; decide +kernel
    | with_reducible apply Only.ite2
    | with_reducible apply Only.step (Dev.leaseRefused_only ..)
    | split

theorem Dev.writeWhole_only (d : Dev) (q : QReq) (a : Asker) (r : DictRow) (env : WriteEnv) : Only foot269 d (Dev.writeWhole d q a r env) := by
  unfold Dev.writeWhole
  repeat' first
    | with_reducible exact Only.refl
    | with_reducible apply Foot.Sub.mk; decide +kernel
    | with_reducible apply Only.ite
    | with_reducible apply Only.step (Dev.actWrite_only ..)
    | with_reducible apply Only.step (Dev.answerReq_only ..)
    | with_reducible apply Only.step (Dev.applyGroup_only ..)
    | with_reducible apply Only.step (Dev.discardGroup_only ..)
    | with_reducible apply Only.step (Dev.respond_only ..)
    | with_reducible apply Only.runUnit
    | with_reducible apply Only.step (Dev.shadowWrite_only ..)
    | with_reducible apply Only.step (Dev.storeStart_only ..)
    | with_reducible intro _
    | split

theorem Dev.writeExec_only (d : Dev) (q : QReq) (env : WriteEnv) : Only foot269 d (Dev.writeExec d q env) := by
  unfold Dev.writeExec
  repeat' first
    | with_reducible exact Only.refl
    | with_reducible apply Foot.Sub.mk; decide +kernel
    | with_reducible apply Only.ite
    | with_reducible apply Only.step (Dev.refuseReq_only ..)
    | with_reducible apply Only.step (Dev.takeSegment_only ..)
    | with_reducible apply Only.step (Dev.writeGuard_only ..)
    | with_reducible apply Only.step (Dev.writeWhole_only ..)
    | with_reducible refine Only.snd (by assumption) ?_
    | dsimp only
    | split

theorem Dev.writeSectors_only (d : Dev) (h : Nat) (c : StCmd) (key : Nat → Nat) (x0 : Nat) : Only foot378 d (Dev.writeSectors d h c key x0) := by
  fun_induction Dev.writeSectors d h c key x0
  all_goals repeat' first
    | with_reducible exact Only.refl
    | with_reducible apply Foot.Sub.mk; decide +kernel
    | with_reducible refine Only.trans (by assumption) ?_
    | with_reducible apply Only.count (has_partCounter_1 ..)
    | with_reducible apply Only.count (has_stoCounter_0 ..)
    | with_reducible apply Only.step (Dev.putSectors_only ..)
    | with_reducible apply Only.step (Dev.setCmd_only ..)
    | with_reducible apply Only.step (Dev.stgEnd_only ..)
    | with_reducible apply Only.step (Dev.writeEnd_only ..)

theorem aCoreFatalOp_only (core : Nat) (ms : Nat) (d : Dev) : Only Foot.aCoreFatal d (aCoreFatalOp core ms d) := by
  unfold aCoreFatalOp
  repeat' first
    | with_reducible exact Only.refl
    | with_reducible apply Foot.Sub.mk; decide +kernel
    | with_reducible apply Only.ite
    | with_reducible apply Only.step (Dev.warmReset_only ..)

theorem accessMemoryOp_only (k : Nat) (addr : Nat) (size : Nat) (write : Option Nat) (d : Dev) : Only Foot.accessMemory d (accessMemoryOp k addr size write d) := by
  unfold accessMemoryOp
  repeat' first
    | with_reducible exact Only.refl
    | with_reducible apply Foot.Sub.mk; decide +kernel
    | with_reducible apply Only.ite
    | with_reducible apply Only.emit
    | with_reducible apply Only.step (Dev.access_only ..)

theorem accessRegisterOp_only (k : Nat) (reg : Nat) (write : Option Nat) (d : Dev) : Only Foot.accessRegister d (accessRegisterOp k reg write d) := by
  unfold accessRegisterOp
  repeat' first
    | with_reducible exact Only.refl
    | with_reducible apply Foot.Sub.mk; decide +kernel
    | with_reducible apply Only.ite
    | with_reducible apply Only.emit
    | with_reducible apply Only.answer
    | with_reducible apply Only.step (Dev.draw_only ..)
    | with_reducible apply Only.step (Dev.setHart_only ..)
    | dsimp only
    | split

theorem applyTakeEffectOp_only (i : Nat) (d : Dev) : Only Foot.applyTakeEffect d (applyTakeEffectOp i d) := by
  unfold applyTakeEffectOp
  repeat' first
    | with_reducible exact Only.refl
    | with_reducible apply Foot.Sub.mk; decide +kernel
    | with_reducible apply Only.ite
    | with_reducible apply Only.step (Dev.applyEffect_only ..)
    | with_reducible apply Only.step (Dev.serveResume_only ..)
    | split

theorem adcRunCompleteOp_only (a : Nat) (codes : List Nat) (d : Dev) : Only Foot.adcRunComplete d (adcRunCompleteOp a codes d) := by
  unfold adcRunCompleteOp
  repeat' first
    | with_reducible exact Only.refl
    | with_reducible apply Foot.Sub.mk; decide +kernel
    | with_reducible apply Only.foldl
    | with_reducible apply Only.step (Dev.nextRun_only ..)
    | with_reducible apply Only.step (Dev.runEnds_only ..)
    | with_reducible apply Only.step (applyTakeEffectOp_only ..)
    | with_reducible intro _
    | dsimp only
    | split

theorem applyDiscardOp_only (d : Dev) : Only Foot.applyDiscard d (applyDiscardOp d) := by
  unfold applyDiscardOp
  repeat' first
    | with_reducible exact Only.refl
    | with_reducible apply Foot.Sub.mk; decide +kernel
    | with_reducible apply Only.executeFront
    | with_reducible apply Only.step (Dev.writeExec_only ..)
    | with_reducible intro _

theorem applyOp_only (d : Dev) : Only Foot.apply d (applyOp d) := by
  unfold applyOp
  repeat' first
    | with_reducible exact Only.refl
    | with_reducible apply Foot.Sub.mk; decide +kernel
    | with_reducible apply Only.executeFront
    | with_reducible apply Only.step (Dev.writeExec_only ..)
    | with_reducible intro _

end Sys2Proof
end

