-- ==== Sys2Proof/Laws/Frames5.lean ====
section
/-! SUPPORT. What each function on the device may change, part 5 of 6: one lemma per function, in an order in which callees come first. -/

set_option maxRecDepth 4000
set_option Elab.async false

namespace Sys2Proof

open Sys2Proof.Machine

def foot379 : Foot := ⟨[.mem, .logs, .can, .dma, .tenants], [ent0 Ent.Evlog.LAST_SEQ, ent0 Ent.Evlog.LOG_LOST, ent1 Ent.CanSt.BUS_OFFS, ent1
  Ent.CanSt.COUNTER_SAT, ent1 Ent.CanSt.ERR_FRAMES, ent1 Ent.CanSt.TX_DISCARDED, ent1 Ent.Hall.RING_LOST], [word1 Rg.Ch.IRQ, word1 Rg.Ch.TEC, word1
  Rg.Hpg.RING_HEAD, word2 Rg.Txb.CODE]⟩

theorem arpRequestOp_only (v6 : Bool) (target : Nat) (mac : Nat) (vlan : Nat) (ip : Nat) (d : Dev) : Only Foot.arpRequest d (arpRequestOp v6 target mac vlan ip d) := by
  unfold arpRequestOp
  repeat' first
    | with_reducible exact Only.refl
    | with_reducible apply Foot.Sub.mk; decide +kernel
    | with_reducible apply Only.ite
    | with_reducible apply Only.emit
    | with_reducible apply Only.step (Dev.sendSwitched_only ..)

theorem atomicTransactionOp_only (t : Txn) (d : Dev) : Only Foot.atomicTransaction d (atomicTransactionOp t d) := by
  unfold atomicTransactionOp
  repeat' first
    | with_reducible exact Only.refl
    | with_reducible apply Foot.Sub.mk; decide +kernel
    | with_reducible apply Only.step (Dev.transact_only ..)

theorem attachReqReceiveOp_only (node : Nat) (compat : Nat) (pos : Nat) (activeId : Nat) (digest : Bytes) (d : Dev) : Only Foot.attachReqReceive d (attachReqReceiveOp node compat pos activeId digest d) := by
  unfold attachReqReceiveOp
  repeat' first
    | with_reducible exact Only.refl
    | with_reducible apply Foot.Sub.mk; decide +kernel
    | with_reducible apply Only.ite
    | with_reducible apply Only.step (Dev.attachEvent_only ..)
    | with_reducible apply Only.step (Dev.ctrl_only ..)
    | with_reducible apply Only.step (Dev.sendState_only ..)
    | with_reducible apply Only.step (Dev.setTwin_only ..)

theorem attachRetryOp_only (d : Dev) : Only Foot.attachRetry d (attachRetryOp d) := by
  unfold attachRetryOp
  repeat' first
    | with_reducible exact Only.refl
    | with_reducible apply Foot.Sub.mk; decide +kernel
    | with_reducible apply Only.ite
    | with_reducible apply Only.step (Dev.attachRequest_only ..)

theorem attachRspReceiveOp_only (node : Nat) (status : Nat) (d : Dev) : Only Foot.attachRspReceive d (attachRspReceiveOp node status d) := by
  unfold attachRspReceiveOp
  repeat' first
    | with_reducible exact Only.refl
    | with_reducible apply Foot.Sub.mk; decide +kernel
    | with_reducible apply Only.ite
    | with_reducible apply Only.step (Dev.attachEnd_only ..)
    | with_reducible apply Only.step (Dev.attachEnds_only ..)
    | with_reducible apply Only.step (Dev.setTwin_only ..)
    | split

theorem attachSnapshotOp_only (d : Dev) : Only Foot.attachSnapshot d (attachSnapshotOp d) := by
  unfold attachSnapshotOp
  repeat' first
    | with_reducible exact Only.refl
    | with_reducible apply Foot.Sub.mk; decide +kernel
    | with_reducible apply Only.ite
    | with_reducible apply Only.step (Dev.sendState_only ..)
    | with_reducible apply Only.step (Dev.setRole_only ..)
    | with_reducible apply Only.step (Dev.setTwin_only ..)
    | dsimp only
    | split

theorem attachWindowTimeoutOp_only (d : Dev) : Only Foot.attachWindowTimeout d (attachWindowTimeoutOp d) := by
  unfold attachWindowTimeoutOp
  repeat' first
    | with_reducible exact Only.refl
    | with_reducible apply Foot.Sub.mk; decide +kernel
    | with_reducible apply Only.ite
    | with_reducible apply Only.step (Dev.attachEnd_only ..)
    | with_reducible apply Only.step (Dev.handEnd_only ..)
    | dsimp only
    | split

theorem beaconReceiveOp_only (node : Nat) (role : Nat) (epoch : Nat) (d : Dev) : Only Foot.beaconReceive d (beaconReceiveOp node role epoch d) := by
  unfold beaconReceiveOp
  repeat' first
    | with_reducible exact Only.refl
    | with_reducible apply Foot.Sub.mk; decide +kernel
    | with_reducible apply Only.ite
    | with_reducible apply Only.step (Dev.setTwin_only ..)

theorem beaconSendOp_only (d : Dev) : Only Foot.beaconSend d (beaconSendOp d) := by
  unfold beaconSendOp
  repeat' first
    | with_reducible exact Only.refl
    | with_reducible apply Foot.Sub.mk; decide +kernel
    | with_reducible apply Only.ite
    | with_reducible apply Only.emit
    | with_reducible apply Only.step (Dev.sendSwitched_only ..)

theorem blockRefreshOp_only (w : NandWork) (d : Dev) : Only Foot.blockRefresh d (blockRefreshOp w d) := by
  unfold blockRefreshOp
  repeat' first
    | with_reducible exact Only.refl
    | with_reducible apply Foot.Sub.mk; decide +kernel
    | with_reducible apply Only.ite
    | with_reducible apply Only.count (has_stoCounter_5 ..)
    | with_reducible apply Only.step (Dev.nand_only ..)

theorem bridgeAckReceiveOp_only (u : Nat) (m : BMsg) (d : Dev) : Only Foot.bridgeAckReceive d (bridgeAckReceiveOp u m d) := by
  unfold bridgeAckReceiveOp
  repeat' first
    | with_reducible exact Only.refl
    | with_reducible apply Foot.Sub.mk; decide +kernel
    | with_reducible apply Only.ite
    | with_reducible apply Only.foldl
    | with_reducible apply Only.step (Dev.pump_only ..)
    | with_reducible apply Only.step (Dev.setBrSess_only ..)
    | with_reducible apply Only.step (Dev.settleFail_only ..)
    | with_reducible intro _
    | dsimp only
    | split

theorem requestOp_only (op : Nat) (u : Nat) (m : BMsg) (mac : Nat) (d : Dev) : Only foot152 d (requestOp op u m mac d) := by
  unfold requestOp
  repeat' first
    | with_reducible exact Only.refl
    | with_reducible apply Foot.Sub.mk; decide +kernel
    | with_reducible apply Only.ite
    | with_reducible apply Only.step (Dev.serveRequest_only ..)

theorem bridgeAckRequestOp_only (u : Nat) (m : BMsg) (mac : Nat) (d : Dev) : Only Foot.bridgeAckRequest d (bridgeAckRequestOp u m mac d) := by
  unfold bridgeAckRequestOp
  repeat' first
    | with_reducible exact Only.refl
    | with_reducible apply Foot.Sub.mk; decide +kernel
    | with_reducible apply Only.step (requestOp_only ..)

theorem bridgeAckSendOp_only (u : Nat) (node : Nat) (unit : Nat) (sid : Nat) (d : Dev) : Only Foot.bridgeAckSend d (bridgeAckSendOp u node unit sid d) := by
  unfold bridgeAckSendOp
  repeat' first
    | with_reducible exact Only.refl
    | with_reducible apply Foot.Sub.mk; decide +kernel
    | with_reducible apply Only.ite
    | with_reducible apply Only.step (Dev.sendAck_only ..)
    | dsimp only
    | split

theorem bridgeAtomicOp_only (u : Nat) (m : BMsg) (mac : Nat) (d : Dev) : Only Foot.bridgeAtomic d (bridgeAtomicOp u m mac d) := by
  unfold bridgeAtomicOp
  repeat' first
    | with_reducible exact Only.refl
    | with_reducible apply Foot.Sub.mk; decide +kernel
    | with_reducible apply Only.step (requestOp_only ..)

theorem bridgeConnectRxOp_only (u : Nat) (m : BMsg) (mac : Nat) (d : Dev) : Only Foot.bridgeConnect d (bridgeConnectRxOp u m mac d) := by
  unfold bridgeConnectRxOp
  repeat' first
    | with_reducible exact Only.refl
    | with_reducible apply Foot.Sub.mk; decide +kernel
    | with_reducible apply Only.ite
    | with_reducible apply Only.step (Dev.serveConnect_only ..)

theorem bridgeDictReadOp_only (u : Nat) (m : BMsg) (mac : Nat) (d : Dev) : Only Foot.bridgeDictRead d (bridgeDictReadOp u m mac d) := by
  unfold bridgeDictReadOp
  repeat' first
    | with_reducible exact Only.refl
    | with_reducible apply Foot.Sub.mk; decide +kernel
    | with_reducible apply Only.step (requestOp_only ..)

theorem bridgeDictWriteOp_only (u : Nat) (m : BMsg) (mac : Nat) (d : Dev) : Only Foot.bridgeDictWrite d (bridgeDictWriteOp u m mac d) := by
  unfold bridgeDictWriteOp
  repeat' first
    | with_reducible exact Only.refl
    | with_reducible apply Foot.Sub.mk; decide +kernel
    | with_reducible apply Only.step (requestOp_only ..)

theorem bridgeEventOp_only (u : Nat) (m : BMsg) (mac : Nat) (d : Dev) : Only Foot.bridgeEvent d (bridgeEventOp u m mac d) := by
  unfold bridgeEventOp
  repeat' first
    | with_reducible exact Only.refl
    | with_reducible apply Foot.Sub.mk; decide +kernel
    | with_reducible apply Only.step (requestOp_only ..)

theorem bridgePostedWriteOp_only (u : Nat) (m : BMsg) (mac : Nat) (d : Dev) : Only Foot.bridgePostedWrite d (bridgePostedWriteOp u m mac d) := by
  unfold bridgePostedWriteOp
  repeat' first
    | with_reducible exact Only.refl
    | with_reducible apply Foot.Sub.mk; decide +kernel
    | with_reducible apply Only.step (requestOp_only ..)

theorem bridgeReadOp_only (u : Nat) (m : BMsg) (mac : Nat) (d : Dev) : Only Foot.bridgeRead d (bridgeReadOp u m mac d) := by
  unfold bridgeReadOp
  repeat' first
    | with_reducible exact Only.refl
    | with_reducible apply Foot.Sub.mk; decide +kernel
    | with_reducible apply Only.step (requestOp_only ..)

theorem bridgeResponseOp_only (u : Nat) (m : BMsg) (d : Dev) : Only Foot.bridgeResponse d (bridgeResponseOp u m d) := by
  unfold bridgeResponseOp
  repeat' first
    | with_reducible exact Only.refl
    | with_reducible apply Foot.Sub.mk; decide +kernel
    | with_reducible apply Only.step (Dev.bridgeResponse_only ..)

theorem bridgeResponseServedOp_only (u : Nat) (m : BMsg) (d : Dev) : Only foot152 d (bridgeResponseServedOp u m d) := by
  unfold bridgeResponseServedOp
  repeat' first
    | with_reducible exact Only.refl
    | with_reducible apply Foot.Sub.mk; decide +kernel
    | with_reducible apply Only.step (Dev.serveResume_only ..)
    | with_reducible apply Only.step (bridgeResponseOp_only ..)

theorem bridgeRetryOp_only (u : Nat) (sid : Nat) (d : Dev) : Only Foot.bridgeRetry d (bridgeRetryOp u sid d) := by
  unfold bridgeRetryOp
  repeat' first
    | with_reducible exact Only.refl
    | with_reducible apply Foot.Sub.mk; decide +kernel
    | with_reducible apply Lit.mk; decide
    | with_reducible apply Only.ite
    | with_reducible apply Only.foldl
    | with_reducible apply Only.ctxCount
    | with_reducible apply Only.step (Dev.event_only ..)
    | with_reducible apply Only.step (Dev.pump_only ..)
    | with_reducible apply Only.step (Dev.sessSend_only ..)
    | with_reducible apply Only.step (Dev.setBrSess_only ..)
    | with_reducible apply Only.step (Dev.settleAllTimeout_only ..)
    | with_reducible apply Only.step (Dev.settleFail_only ..)
    | with_reducible apply Only.step (Dev.showSession_only ..)
    | with_reducible apply Only.step (Dev.transmit_only ..)
    | with_reducible intro _

theorem bridgeRetryServedOp_only (u : Nat) (sid : Nat) (d : Dev) : Only foot152 d (bridgeRetryServedOp u sid d) := by
  unfold bridgeRetryServedOp
  repeat' first
    | with_reducible exact Only.refl
    | with_reducible apply Foot.Sub.mk; decide +kernel
    | with_reducible apply Only.step (Dev.serveResume_only ..)
    | with_reducible apply Only.step (bridgeRetryOp_only ..)

theorem bridgeStatusReadOp_only (u : Nat) (m : BMsg) (mac : Nat) (d : Dev) : Only Foot.bridgeStatusRead d (bridgeStatusReadOp u m mac d) := by
  unfold bridgeStatusReadOp
  repeat' first
    | with_reducible exact Only.refl
    | with_reducible apply Foot.Sub.mk; decide +kernel
    | with_reducible apply Only.step (requestOp_only ..)

theorem bridgeWriteOp_only (u : Nat) (m : BMsg) (mac : Nat) (d : Dev) : Only Foot.bridgeWrite d (bridgeWriteOp u m mac d) := by
  unfold bridgeWriteOp
  repeat' first
    | with_reducible exact Only.refl
    | with_reducible apply Foot.Sub.mk; decide +kernel
    | with_reducible apply Only.step (requestOp_only ..)

theorem canArbitrationLostOp_only (n : Nat) (d : Dev) : Only Foot.canArbitrationLost d (canArbitrationLostOp n d) := by
  unfold canArbitrationLostOp
  repeat' first
    | with_reducible exact Only.refl
    | with_reducible apply Foot.Sub.mk; decide +kernel
    | with_reducible apply Only.step (Dev.attemptFailed_only ..)

theorem canBusRecoveredOp_only (n : Nat) (d : Dev) : Only Foot.canBusRecovered d (canBusRecoveredOp n d) := by
  unfold canBusRecoveredOp
  repeat' first
    | with_reducible exact Only.refl
    | with_reducible apply Foot.Sub.mk; decide +kernel
    | with_reducible apply Only.ite
    | with_reducible apply Only.setFld (has_Ch_BUS ..)
    | with_reducible apply Only.setFld (has_Ch_REC ..)
    | with_reducible apply Only.setFld (has_Ch_TEC ..)
    | with_reducible apply Only.step (Dev.canIrq_only ..)
    | with_reducible apply Only.step (Dev.event_only ..)
    | with_reducible apply Only.step (Dev.setCan_only ..)

theorem canErrorCore_only (n : Nat) (lec : Nat) (at_ : CanErrorAt) (d : Dev) : Only foot379 d (canErrorCore n lec at_ d) := by
  unfold canErrorCore
  repeat' first
    | with_reducible exact Only.refl
    | with_reducible apply Foot.Sub.mk; decide +kernel
    | with_reducible apply Only.ite
    | with_reducible apply Only.count (has_canCounter_5 ..)
    | with_reducible apply Only.setFld (has_Ch_LEC ..)
    | with_reducible apply Only.step (Dev.attemptFailed_only ..)
    | with_reducible apply Only.step (Dev.busOff_only ..)
    | with_reducible apply Only.step (Dev.setErrCounters_only ..)

theorem canErrorOp_only (n : Nat) (lec : Nat) (at_ : CanErrorAt) (d : Dev) : Only Foot.canError d (canErrorOp n lec at_ d) := by
  unfold canErrorOp
  repeat' first
    | with_reducible exact Only.refl
    | with_reducible apply Foot.Sub.mk; decide +kernel
    | with_reducible apply Only.ite
    | with_reducible apply Only.step (Dev.canSlotsLost_only ..)
    | with_reducible apply Only.step (canErrorCore_only ..)

theorem canFrameReceiveOp_only (n : Nat) (f : CanFrame) (res : Bool) (sof : Nat) (phase : Nat) (d : Dev) : Only Foot.canFrameReceive d (canFrameReceiveOp n f res sof phase d) := by
  unfold canFrameReceiveOp
  repeat' first
    | with_reducible exact Only.refl
    | with_reducible apply Foot.Sub.mk; decide +kernel
    | with_reducible apply Only.ite
    | with_reducible apply Only.count (has_canCounter_0 ..)
    | with_reducible apply Only.step (Dev.objTaken_only ..)
    | with_reducible apply Only.step (Dev.recDown_only ..)
    | with_reducible apply Only.step (Dev.refTaken_only ..)
    | with_reducible apply Only.step (Dev.rpdoReceive_only ..)
    | with_reducible apply Only.step (Dev.serve_only ..)
    | with_reducible apply Only.step (Dev.sleepObserves_only ..)
    | with_reducible apply Only.step (Dev.tunnelObserve_only ..)
    | with_reducible apply Only.step (canErrorOp_only ..)
    | split

theorem canIntegrationEndOp_only (n : Nat) (d : Dev) : Only Foot.canIntegrationEnd d (canIntegrationEndOp n d) := by
  unfold canIntegrationEndOp
  repeat' first
    | with_reducible exact Only.refl
    | with_reducible apply Foot.Sub.mk; decide +kernel
    | with_reducible apply Only.ite
    | with_reducible apply Only.setFld (has_Ch_BUS ..)

theorem canTxCompleteOp_only (n : Nat) (d : Dev) : Only Foot.canTxComplete d (canTxCompleteOp n d) := by
  unfold canTxCompleteOp
  repeat' first
    | with_reducible exact Only.refl
    | with_reducible apply Foot.Sub.mk; decide +kernel
    | with_reducible apply Only.ite
    | with_reducible apply Only.count (has_canCounter_1 ..)
    | with_reducible apply Only.setFld (has_Txb_FRAC ..)
    | with_reducible apply Only.setFld (has_Txb_STAMP ..)
    | with_reducible apply Only.setFld (has_Txb_TGEN ..)
    | with_reducible apply Only.step (Dev.canIrq_only ..)
    | with_reducible apply Only.step (Dev.setCan_only ..)
    | with_reducible apply Only.step (Dev.setErrCounters_only ..)
    | with_reducible apply Only.step (Dev.txbDone_only ..)
    | dsimp only
    | split

theorem canTxStartOp_only (n : Nat) (phase : Nat) (d : Dev) : Only Foot.canTxStart d (canTxStartOp n phase d) := by
  unfold canTxStartOp
  repeat' first
    | with_reducible exact Only.refl
    | with_reducible apply Foot.Sub.mk; decide +kernel
    | with_reducible apply Only.ite
    | with_reducible apply Only.emit
    | with_reducible apply Only.setFld (has_Txb_ATTEMPTS ..)
    | with_reducible apply Only.step (Dev.setCan_only ..)
    | dsimp only
    | split

theorem changeCommitOp_only (d : Dev) : Only Foot.changeCommit d (changeCommitOp d) := by
  unfold changeCommitOp
  repeat' first
    | with_reducible exact Only.refl
    | with_reducible apply Foot.Sub.mk; decide +kernel
    | with_reducible apply Only.ite
    | with_reducible apply Only.step (Dev.changeEnd_only ..)

theorem changeSwitchOp_only (d : Dev) : Only Foot.changeSwitch d (changeSwitchOp d) := by
  unfold changeSwitchOp
  repeat' first
    | with_reducible exact Only.refl
    | with_reducible apply Foot.Sub.mk; decide +kernel
    | with_reducible apply Only.ite
    | with_reducible apply Only.step (Dev.dropChange_only ..)
    | with_reducible apply Only.step (Dev.sendCommit_only ..)
    | with_reducible apply Only.step (Dev.setRole_only ..)
    | with_reducible apply Only.step (Dev.switchImage_only ..)
    | split

theorem changeCommitReceiveOp_only (i : Nat) (d : Dev) : Only Foot.changeCommitReceive d (changeCommitReceiveOp i d) := by
  unfold changeCommitReceiveOp
  repeat' first
    | with_reducible exact Only.refl
    | with_reducible apply Foot.Sub.mk; decide +kernel
    | with_reducible apply Only.ite
    | with_reducible apply Only.step (Dev.dropChange_only ..)
    | with_reducible apply Only.step (Dev.setRole_only ..)
    | with_reducible apply Only.step (Dev.setScan_only ..)
    | with_reducible apply Only.step (changeSwitchOp_only ..)
    | split

theorem changeStandbyReadyOp_only (ready : Bool) (d : Dev) : Only Foot.changeStandbyReady d (changeStandbyReadyOp ready d) := by
  unfold changeStandbyReadyOp
  repeat' first
    | with_reducible exact Only.refl
    | with_reducible apply Foot.Sub.mk; decide +kernel
    | with_reducible apply Only.ite
    | with_reducible apply Only.put (has_Chg_CHANGE_STATE ..)
    | with_reducible apply Only.step (Dev.dropChange_only ..)
    | with_reducible apply Only.step (Dev.setScan_only ..)

theorem changeWindowTimeoutOp_only (d : Dev) : Only Foot.changeWindowTimeout d (changeWindowTimeoutOp d) := by
  unfold changeWindowTimeoutOp
  repeat' first
    | with_reducible exact Only.refl
    | with_reducible apply Foot.Sub.mk; decide +kernel
    | with_reducible apply Only.ite
    | with_reducible apply Only.step (Dev.dropChange_only ..)

theorem channelHoldExpiryOp_only (d : Dev) : Only Foot.channelHoldExpiry d (channelHoldExpiryOp d) := by
  unfold channelHoldExpiryOp
  repeat' first
    | with_reducible exact Only.refl
    | with_reducible apply Foot.Sub.mk; decide +kernel
    | with_reducible apply Only.ite
    | with_reducible apply Only.foldl
    | with_reducible apply Only.step (Dev.enterLoad_only ..)
    | with_reducible apply Only.step (Dev.loadEvent_only ..)
    | with_reducible apply Only.step (Dev.setLoadCh_only ..)
    | with_reducible apply Only.step (Dev.setLoadFlag_only ..)
    | with_reducible intro _

theorem channelOffOp_only (n : Nat) (v : Nat) (d : Dev) : Only Foot.channelOff d (channelOffOp n v d) := by
  unfold channelOffOp
  repeat' first
    | with_reducible exact Only.refl
    | with_reducible apply Foot.Sub.mk; decide +kernel
    | with_reducible apply Only.ite
    | with_reducible apply Only.step (Dev.loadCommand_only ..)

theorem channelOnOp_only (n : Nat) (v : Nat) (d : Dev) : Only Foot.channelOn d (channelOnOp n v d) := by
  unfold channelOnOp
  repeat' first
    | with_reducible exact Only.refl
    | with_reducible apply Foot.Sub.mk; decide +kernel
    | with_reducible apply Only.ite
    | with_reducible apply Only.step (Dev.loadCommand_only ..)

theorem channelPwmSetOp_only (n : Nat) (v : Nat) (d : Dev) : Only Foot.channelPwmSet d (channelPwmSetOp n v d) := by
  unfold channelPwmSetOp
  repeat' first
    | with_reducible exact Only.refl
    | with_reducible apply Foot.Sub.mk; decide +kernel
    | with_reducible apply Only.ite
    | with_reducible apply Only.step (Dev.loadCommand_only ..)

theorem clampDetectOp_only (n : Nat) (d : Dev) : Only Foot.clampDetect d (clampDetectOp n d) := by
  unfold clampDetectOp
  repeat' first
    | with_reducible exact Only.refl
    | with_reducible apply Foot.Sub.mk; decide +kernel
    | with_reducible apply Only.count (has_loadCounter_6 ..)
    | with_reducible apply Only.step (Dev.loadEvent_only ..)

theorem clkTripOp_only (s : Nat) (cause : Nat) (d : Dev) : Only Foot.clkTrip d (clkTripOp s cause d) := by
  unfold clkTripOp
  repeat' first
    | with_reducible exact Only.refl
    | with_reducible apply Foot.Sub.mk; decide +kernel
    | with_reducible apply Only.ite
    | with_reducible apply Only.count (has_clockCounter_0 ..)
    | with_reducible apply Only.count (has_clockCounter_1 ..)
    | with_reducible apply Only.step (Dev.clockEvent_only ..)
    | with_reducible apply Only.step (Dev.raiseM0_only ..)
    | with_reducible apply Only.step (Dev.setClk_only ..)
    | with_reducible apply Only.step (Dev.sourceGone_only ..)

theorem concourseTransactionOp_only (t : Txn) (d : Dev) : Only Foot.concourseTransaction d (concourseTransactionOp t d) := by
  unfold concourseTransactionOp
  repeat' first
    | with_reducible exact Only.refl
    | with_reducible apply Foot.Sub.mk; decide +kernel
    | with_reducible apply Only.step (Dev.transact_only ..)

theorem copySentOp_only (p : Nat) (ecc : Bool) (col : Nat) (d : Dev) : Only Foot.copySent d (copySentOp p ecc col d) := by
  unfold copySentOp
  repeat' first
    | with_reducible exact Only.refl
    | with_reducible apply Foot.Sub.mk; decide +kernel
    | with_reducible apply Only.ite
    | with_reducible apply Only.emit
    | with_reducible apply Only.count (has_collisions ..)
    | with_reducible apply Only.count (has_copiesSent ..)
    | with_reducible apply Only.count (has_queueCounter_7 ..)
    | with_reducible apply Only.count (has_txBytes ..)
    | with_reducible apply Only.count (has_txFrames ..)
    | with_reducible apply Only.step (Dev.abortTx_only ..)
    | with_reducible apply Only.step (Dev.endTx_only ..)
    | with_reducible apply Only.step (Dev.putFrame_only ..)
    | with_reducible apply Only.step (Dev.setSw_only ..)
    | dsimp only
    | split

theorem counterHighWriteOp_only (idx : Nat) (sub : Nat) (v : Nat) (d : Dev) : Only Foot.counterHighWrite d (counterHighWriteOp idx sub v d) := by
  have h_ctrStage : Part.In .ctrStage Foot.counterHighWrite := ⟨by decide +kernel⟩
  unfold counterHighWriteOp
  repeat' first
    | with_reducible exact Only.refl
    | with_reducible apply Foot.Sub.mk; decide +kernel
    | with_reducible apply Only.answer
    | with_reducible apply Only.step (Dev.clearCounter_only ..)
    | simp only [Only.set_ctrStage_eq h_ctrStage]

theorem counterLowReadOp_only (i : Initiator) (idx : Nat) (sub : Nat) (high : Bool) (d : Dev) : Only Foot.counterLowRead d (counterLowReadOp i idx sub high d) := by
  have h_ctrLatch : Part.In .ctrLatch Foot.counterLowRead := ⟨by decide +kernel⟩
  unfold counterLowReadOp
  repeat' first
    | with_reducible exact Only.refl
    | with_reducible apply Only.ite
    | with_reducible apply Only.answer
    | simp only [Only.set_ctrLatch_eq h_ctrLatch]
    | split

theorem counterLowWriteOp_only (idx : Nat) (sub : Nat) (v : Nat) (d : Dev) : Only Foot.counterLowWrite d (counterLowWriteOp idx sub v d) := by
  have h_ctrStage : Part.In .ctrStage Foot.counterLowWrite := ⟨by decide +kernel⟩
  unfold counterLowWriteOp
  repeat' first
    | with_reducible exact Only.refl
    | with_reducible apply Only.answer
    | simp only [Only.set_ctrStage_eq h_ctrStage]

theorem coupledRestartOp_only (n : Nat) (d : Dev) : Only Foot.coupledRestart d (coupledRestartOp n d) := by
  unfold coupledRestartOp
  repeat' first
    | with_reducible exact Only.refl
    | with_reducible apply Foot.Sub.mk; decide +kernel
    | with_reducible apply Only.ite
    | with_reducible apply Only.step (Dev.enterLoad_only ..)

theorem coupledTimeoutOp_only (n : Nat) (d : Dev) : Only Foot.coupledTimeout d (coupledTimeoutOp n d) := by
  unfold coupledTimeoutOp
  repeat' first
    | with_reducible exact Only.refl
    | with_reducible apply Foot.Sub.mk; decide +kernel
    | with_reducible apply Only.ite
    | with_reducible apply Only.step (Dev.latchLoad_only ..)

theorem cryptoCopyOp_only (d : Dev) : Only Foot.cryptoCopy d (cryptoCopyOp d) := by
  unfold cryptoCopyOp
  repeat' first
    | with_reducible exact Only.refl
    | with_reducible apply Foot.Sub.mk; decide +kernel
    | with_reducible apply Only.perform
    | with_reducible intro _

theorem cryptoGcmDecryptOp_only (d : Dev) : Only Foot.cryptoGcmDecrypt d (cryptoGcmDecryptOp d) := by
  unfold cryptoGcmDecryptOp
  repeat' first
    | with_reducible exact Only.refl
    | with_reducible apply Foot.Sub.mk; decide +kernel
    | with_reducible apply Only.perform
    | with_reducible intro _
    | dsimp only
    | split

theorem cryptoGcmEncryptOp_only (d : Dev) : Only Foot.cryptoGcmEncrypt d (cryptoGcmEncryptOp d) := by
  unfold cryptoGcmEncryptOp
  repeat' first
    | with_reducible exact Only.refl
    | with_reducible apply Foot.Sub.mk; decide +kernel
    | with_reducible apply Only.perform
    | with_reducible intro _

theorem cryptoHmacOp_only (d : Dev) : Only Foot.cryptoHmac d (cryptoHmacOp d) := by
  unfold cryptoHmacOp
  repeat' first
    | with_reducible exact Only.refl
    | with_reducible apply Foot.Sub.mk; decide +kernel
    | with_reducible apply Only.perform
    | with_reducible intro _

theorem cryptoJobStartOp_only (d : Dev) : Only Foot.cryptoJobStart d (cryptoJobStartOp d) := by
  unfold cryptoJobStartOp
  repeat' first
    | with_reducible exact Only.refl
    | with_reducible apply Foot.Sub.mk; decide +kernel
    | with_reducible apply Only.ite
    | with_reducible apply Only.setFld (has_Cry_BUSY ..)
    | with_reducible apply Only.step (Dev.setMezz_only ..)

theorem cryptoP256SignOp_only (d : Dev) : Only Foot.cryptoP256Sign d (cryptoP256SignOp d) := by
  unfold cryptoP256SignOp
  repeat' first
    | with_reducible exact Only.refl
    | with_reducible apply Foot.Sub.mk; decide +kernel
    | with_reducible apply Only.step (Dev.crySign_only ..)

theorem cryptoP256VerifyOp_only (d : Dev) : Only Foot.cryptoP256Verify d (cryptoP256VerifyOp d) := by
  unfold cryptoP256VerifyOp
  repeat' first
    | with_reducible exact Only.refl
    | with_reducible apply Foot.Sub.mk; decide +kernel
    | with_reducible apply Only.step (Dev.cryVerify_only ..)

theorem cryptoP384SignOp_only (d : Dev) : Only Foot.cryptoP384Sign d (cryptoP384SignOp d) := by
  unfold cryptoP384SignOp
  repeat' first
    | with_reducible exact Only.refl
    | with_reducible apply Foot.Sub.mk; decide +kernel
    | with_reducible apply Only.step (Dev.crySign_only ..)

theorem cryptoP384VerifyOp_only (d : Dev) : Only Foot.cryptoP384Verify d (cryptoP384VerifyOp d) := by
  unfold cryptoP384VerifyOp
  repeat' first
    | with_reducible exact Only.refl
    | with_reducible apply Foot.Sub.mk; decide +kernel
    | with_reducible apply Only.step (Dev.cryVerify_only ..)

theorem cryptoRandomOp_only (d : Dev) : Only Foot.cryptoRandom d (cryptoRandomOp d) := by
  unfold cryptoRandomOp
  repeat' first
    | with_reducible exact Only.refl
    | with_reducible apply Foot.Sub.mk; decide +kernel
    | with_reducible apply Only.step (Dev.draw_only ..)
    | with_reducible apply Only.perform
    | with_reducible intro _

theorem cryptoSha256Op_only (d : Dev) : Only Foot.cryptoSha256 d (cryptoSha256Op d) := by
  unfold cryptoSha256Op
  repeat' first
    | with_reducible exact Only.refl
    | with_reducible apply Foot.Sub.mk; decide +kernel
    | with_reducible apply Only.perform
    | with_reducible intro _

theorem cryptoSha384Op_only (d : Dev) : Only Foot.cryptoSha384 d (cryptoSha384Op d) := by
  unfold cryptoSha384Op
  repeat' first
    | with_reducible exact Only.refl
    | with_reducible apply Foot.Sub.mk; decide +kernel
    | with_reducible apply Only.perform
    | with_reducible intro _

theorem deadlineOverrunOp_only (ts : List Nat) (d : Dev) : Only Foot.deadlineOverrun d (deadlineOverrunOp ts d) := by
  unfold deadlineOverrunOp
  repeat' first
    | with_reducible exact Only.refl
    | with_reducible apply Foot.Sub.mk; decide +kernel
    | with_reducible apply Only.step (Dev.overrun_only ..)

theorem debugHaltOp_only (k : Nat) (d : Dev) : Only Foot.debugHalt d (debugHaltOp k d) := by
  unfold debugHaltOp
  repeat' first
    | with_reducible exact Only.refl
    | with_reducible apply Foot.Sub.mk; decide +kernel
    | with_reducible apply Only.ite
    | with_reducible apply Only.emit
    | with_reducible apply Only.step (Dev.setHart_only ..)
    | with_reducible apply Only.step (Dev.swdtFollow_only ..)

theorem debugResumeOp_only (k : Nat) (d : Dev) : Only Foot.debugResume d (debugResumeOp k d) := by
  unfold debugResumeOp
  repeat' first
    | with_reducible exact Only.refl
    | with_reducible apply Foot.Sub.mk; decide +kernel
    | with_reducible apply Only.ite
    | with_reducible apply Only.emit
    | with_reducible apply Only.step (Dev.setHart_only ..)
    | with_reducible apply Only.step (Dev.swdtFollow_only ..)

theorem debugStepOp_only (k : Nat) (d : Dev) : Only Foot.debugStep d (debugStepOp k d) := by
  unfold debugStepOp
  repeat' first
    | with_reducible exact Only.refl
    | with_reducible apply Foot.Sub.mk; decide +kernel
    | with_reducible apply Only.ite
    | with_reducible apply Only.emit
    | with_reducible apply Only.step (Dev.setHart_only ..)

theorem detachReceiveOp_only (d : Dev) : Only Foot.detachReceive d (detachReceiveOp d) := by
  unfold detachReceiveOp
  repeat' first
    | with_reducible exact Only.refl
    | with_reducible apply Foot.Sub.mk; decide +kernel
    | with_reducible apply Only.ite
    | with_reducible apply Only.step (Dev.leavePair_only ..)
    | with_reducible apply Only.step (Dev.setTwin_only ..)
    | with_reducible apply Only.step (Dev.toSolo_only ..)

theorem dictReadExecOp_only (d : Dev) : Only Foot.dictReadExec d (dictReadExecOp d) := by
  unfold dictReadExecOp
  repeat' first
    | with_reducible exact Only.refl
    | with_reducible apply Foot.Sub.mk; decide +kernel
    | with_reducible apply Only.executeFront
    | with_reducible apply Only.step (Dev.readExec_only ..)
    | with_reducible intro _

theorem dictWriteExecOp_only (env : WriteEnv) (d : Dev) : Only Foot.dictWriteExec d (dictWriteExecOp env d) := by
  unfold dictWriteExecOp
  repeat' first
    | with_reducible exact Only.refl
    | with_reducible apply Foot.Sub.mk; decide +kernel
    | with_reducible apply Only.executeFront
    | with_reducible apply Only.step (Dev.writeExec_only ..)
    | with_reducible intro _

theorem dictWriteGenericOp_only (t : Option Txn) (d : Dev) : Only Foot.dictWriteGeneric d (dictWriteGenericOp t d) := by
  unfold dictWriteGenericOp
  repeat' first
    | with_reducible exact Only.refl
    | with_reducible apply Foot.Sub.mk; decide +kernel
    | with_reducible apply Only.executeFront
    | with_reducible apply Only.step (Dev.registerWrite_only ..)
    | with_reducible apply Only.step (Dev.writeExec_only ..)
    | with_reducible intro _
    | split

theorem dieLinkReturnOp_only (g : Nat) (d : Dev) : Only Foot.dieLinkReturn d (dieLinkReturnOp g d) := by
  unfold dieLinkReturnOp
  repeat' first
    | with_reducible exact Only.refl
    | with_reducible apply Foot.Sub.mk; decide +kernel
    | with_reducible apply Only.step (Dev.loadEvent_only ..)
    | with_reducible apply Only.step (Dev.setLoad_only ..)
    | split

theorem dieLinkTimeoutOp_only (g : Nat) (d : Dev) : Only Foot.dieLinkTimeout d (dieLinkTimeoutOp g d) := by
  unfold dieLinkTimeoutOp
  repeat' first
    | with_reducible exact Only.refl
    | with_reducible apply Foot.Sub.mk; decide +kernel
    | with_reducible apply Only.ite
    | with_reducible apply Only.step (Dev.applySafeGroup_only ..)
    | with_reducible apply Only.step (Dev.setLoad_only ..)

theorem dmaBurstOp_only (d : Dev) : Only Foot.dmaBurst d (dmaBurstOp d) :=
  Only.burstBoundary ⟨by decide +kernel⟩ (fun c p d => (Dev.dmaTxn_only c .read p.1 p.2 0 d).mono ⟨by decide +kernel⟩)
    (fun c p d => (Dev.dmaTxn_only c .write p.1 4 p.2 d).mono ⟨by decide +kernel⟩) Only.refl

theorem dmaDescriptorCompleteOp_only (c : Nat) (d : Dev) : Only Foot.dmaDescriptorComplete d (dmaDescriptorCompleteOp c d) := by
  unfold dmaDescriptorCompleteOp
  repeat' first
    | with_reducible exact Only.refl
    | with_reducible apply Foot.Sub.mk; decide +kernel
    | with_reducible apply Only.ite
    | with_reducible apply Only.step (Dev.dmaComplete_only ..)
    | with_reducible apply Only.step (Dev.dmaWalkRing_only ..)
    | dsimp only
    | split

theorem dmaDescriptorFetchOp_only (c : Nat) (d : Dev) : Only Foot.dmaDescriptorFetch d (dmaDescriptorFetchOp c d) := by
  unfold dmaDescriptorFetchOp
  repeat' first
    | with_reducible exact Only.refl
    | with_reducible apply Foot.Sub.mk; decide +kernel
    | with_reducible apply Only.ite
    | with_reducible apply Only.setFld (has_Dmar_ACTIVE ..)
    | with_reducible apply Only.step (Dev.dmaStop_only ..)
    | with_reducible apply Only.step (Dev.setCh_only ..)
    | dsimp only
    | split

theorem dmaInvalCompleteOp_only (c : Nat) (d : Dev) : Only Foot.dmaInvalComplete d (dmaInvalCompleteOp c d) := by
  unfold dmaInvalCompleteOp
  repeat' first
    | with_reducible exact Only.refl
    | with_reducible apply Foot.Sub.mk; decide +kernel
    | with_reducible apply Only.ite
    | with_reducible apply Only.setFld (has_Dmar_INVAL_BUSY ..)
    | with_reducible apply Only.step (Dev.setCh_only ..)

theorem domainSwitchCompleteOp_only (k : Nat) (d : Dev) : Only Foot.domainSwitchComplete d (domainSwitchCompleteOp k d) := by
  unfold domainSwitchCompleteOp
  repeat' first
    | with_reducible exact Only.refl
    | with_reducible apply Foot.Sub.mk; decide +kernel
    | with_reducible apply Only.ite
    | with_reducible apply Only.step (Dev.domRestarts_only ..)
    | with_reducible apply Only.step (Dev.setTime_only ..)
    | dsimp only
    | split

theorem domainSwitchOp_only (k : Nat) (d : Dev) : Only Foot.domainSwitch d (domainSwitchOp k d) := by
  unfold domainSwitchOp
  repeat' first
    | with_reducible exact Only.refl
    | with_reducible apply Foot.Sub.mk; decide +kernel
    | with_reducible apply Only.ite
    | with_reducible apply Only.step (Dev.switchStart_only ..)
    | split

theorem domainTransferTimeoutOp_only (i : Nat) (s : Nat) (d : Dev) : Only Foot.domainTransferTimeout d (domainTransferTimeoutOp i s d) := by
  unfold domainTransferTimeoutOp
  repeat' first
    | with_reducible exact Only.refl
    | with_reducible apply Foot.Sub.mk; decide +kernel
    | with_reducible apply Only.ite
    | with_reducible apply Only.step (Dev.setD0_only ..)
    | with_reducible apply Only.step (Dev.stagingEmpty_only ..)
    | dsimp only
    | split

theorem dominantTimeoutOp_only (n : Nat) (d : Dev) : Only Foot.dominantTimeout d (dominantTimeoutOp n d) := by
  unfold dominantTimeoutOp
  repeat' first
    | with_reducible exact Only.refl
    | with_reducible apply Foot.Sub.mk; decide +kernel
    | with_reducible apply Only.ite
    | with_reducible apply Only.step (Dev.setCan_only ..)

theorem drainDoneOp_only (x : UnitId) (d : Dev) : Only Foot.drainDone d (drainDoneOp x d) := by
  unfold drainDoneOp
  repeat' first
    | with_reducible exact Only.refl
    | with_reducible apply Foot.Sub.mk; decide +kernel
    | with_reducible apply Only.ite
    | with_reducible apply Only.step (Dev.drainDone_only ..)

theorem drainTimeoutOp_only (x : UnitId) (d : Dev) : Only Foot.drainTimeout d (drainTimeoutOp x d) := by
  unfold drainTimeoutOp
  repeat' first
    | with_reducible exact Only.refl
    | with_reducible apply Foot.Sub.mk; decide +kernel
    | with_reducible apply Only.ite
    | with_reducible apply Only.step (Dev.drainCut_only ..)

theorem dramIdleSelfRefreshOp_only (d : Dev) : Only Foot.dramIdleSelfRefresh d (dramIdleSelfRefreshOp d) := by
  unfold dramIdleSelfRefreshOp
  repeat' first
    | with_reducible exact Only.refl
    | with_reducible apply Foot.Sub.mk; decide +kernel
    | with_reducible apply Only.ite
    | with_reducible apply Only.step (Dev.setClk_only ..)

theorem endpointPollOp_only (u : Nat) (e : Nat) (d : Dev) : Only Foot.endpointPoll d (endpointPollOp u e d) := by
  unfold endpointPollOp
  repeat' first
    | with_reducible exact Only.refl
    | with_reducible apply Foot.Sub.mk; decide +kernel
    | with_reducible apply Only.ite
    | with_reducible apply Only.count (has_buCounter_3 ..)
    | with_reducible apply Only.step (Dev.queueReq_only ..)

theorem eventLogCommitOp_only (d : Dev) : Only Foot.eventLogCommit d (eventLogCommitOp d) := by
  unfold eventLogCommitOp
  repeat' first
    | with_reducible exact Only.refl
    | with_reducible apply Foot.Sub.mk; decide +kernel
    | with_reducible apply Only.ite
    | with_reducible apply Only.step (Dev.commitEvents_only ..)

theorem falseWakeOp_only (s : Nat) (d : Dev) : Only Foot.falseWake d (falseWakeOp s d) := by
  unfold falseWakeOp
  repeat' first
    | with_reducible exact Only.refl
    | with_reducible apply Foot.Sub.mk; decide +kernel
    | with_reducible apply Only.ite
    | with_reducible apply Only.step (Dev.wakeFalse_only ..)

theorem fatalFaultOp_only (detail : Nat) (rail : Nat) (mv : Nat) (env : BootEnv) (d : Dev) : Only Foot.fatalFault d (fatalFaultOp detail rail mv env d) := by
  unfold fatalFaultOp
  repeat' first
    | with_reducible exact Only.refl
    | with_reducible apply Foot.Sub.mk; decide +kernel
    | with_reducible apply Only.ite
    | with_reducible apply Only.step (Dev.chipReset_only ..)
    | with_reducible apply Only.step (Dev.chipRestart_only ..)
    | with_reducible apply Only.step (setPhase_only ..)

theorem fdbAgingOp_only (mac : Nat) (vid : Nat) (d : Dev) : Only Foot.fdbAging d (fdbAgingOp mac vid d) := by
  unfold fdbAgingOp
  repeat' first
    | with_reducible exact Only.refl
    | with_reducible apply Foot.Sub.mk; decide +kernel
    | with_reducible apply Only.step (Dev.forget_only ..)

theorem fenceCompleteOp_only (u : Nat) (k : Nat) (d : Dev) : Only Foot.fenceComplete d (fenceCompleteOp u k d) := by
  unfold fenceCompleteOp
  repeat' first
    | with_reducible exact Only.refl
    | with_reducible apply Foot.Sub.mk; decide +kernel
    | with_reducible apply Only.ite
    | with_reducible apply Only.step (Dev.fenceComplete_only ..)

theorem forcedSwitchOp_only (k : Nat) (d : Dev) : Only Foot.forcedSwitch d (forcedSwitchOp k d) := by
  unfold forcedSwitchOp
  repeat' first
    | with_reducible exact Only.refl
    | with_reducible apply Foot.Sub.mk; decide +kernel
    | with_reducible apply Only.ite
    | with_reducible apply Only.put (has_Dom_CLKSW_FORCED ..)
    | with_reducible apply Only.put (has_Dom_UNCERTAIN ..)
    | with_reducible apply Only.count (has_clockCounter_1 ..)
    | with_reducible apply Only.step (Dev.domRestarts_only ..)
    | with_reducible apply Only.step (Dev.setQuality_only ..)
    | dsimp only
    | split

theorem forcesReceiveOp_only (q : Nat) (gen : Nat) (b : Bytes) (d : Dev) : Only Foot.forcesReceive d (forcesReceiveOp q gen b d) := by
  unfold forcesReceiveOp
  repeat' first
    | with_reducible exact Only.refl
    | with_reducible apply Foot.Sub.mk; decide +kernel
    | with_reducible apply Only.ite
    | with_reducible apply Only.step (Dev.postedBad_only ..)
    | with_reducible apply Only.step (Dev.takeForces_only ..)

theorem frameClassifyOp_only (p : Nat) (f : Frame) (len : Nat) (fcs : Bool) (landed : Nat) (d : Dev) : Only Foot.frameClassify d (frameClassifyOp p f len fcs landed d) := by
  unfold frameClassifyOp
  repeat' first
    | with_reducible exact Only.refl
    | with_reducible apply Foot.Sub.mk; decide +kernel
    | with_reducible apply Only.ite
    | with_reducible apply Only.count (has_rxFcs ..)
    | with_reducible apply Only.count (has_rxLength ..)
    | with_reducible apply Only.step (Dev.beginRx_only ..)
    | with_reducible apply Only.step (Dev.classify_only ..)
    | with_reducible refine Only.snd (by assumption) ?_
    | split

theorem frameLandedOp_only (p : Nat) (d : Dev) : Only Foot.frameLanded d (frameLandedOp p d) := by
  have h_sw : Part.In .sw Foot.frameLanded := ⟨by decide +kernel⟩
  unfold frameLandedOp
  repeat' first
    | with_reducible exact Only.refl
    | with_reducible apply Foot.Sub.mk; decide +kernel
    | with_reducible apply Only.ite
    | with_reducible apply Only.foldl
    | with_reducible apply Only.count (has_ingOvf ..)
    | with_reducible apply Only.count (has_rxBytes ..)
    | with_reducible apply Only.count (has_rxFrames ..)
    | with_reducible apply Only.step (Dev.admitAll_only ..)
    | with_reducible apply Only.step (Dev.setSw_only ..)
    | with_reducible apply Only.step (Dev.settleCut_only ..)
    | with_reducible intro _
    | simp only [Only.set_sw_eq h_sw]
    | split

theorem galleryAckReceiveOp_only (q : Nat) (map : Nat) (d : Dev) : Only Foot.galleryAckReceive d (galleryAckReceiveOp q map d) := by
  unfold galleryAckReceiveOp
  repeat' first
    | with_reducible exact Only.refl
    | with_reducible apply Foot.Sub.mk; decide +kernel
    | with_reducible apply Only.ite
    | with_reducible apply Only.foldl
    | with_reducible apply Only.step (Dev.postFailed_only ..)
    | with_reducible apply Only.step (Dev.setTwin_only ..)
    | with_reducible intro _

theorem galleryAckSendOp_only (d : Dev) : Only Foot.galleryAckSend d (galleryAckSendOp d) := by
  unfold galleryAckSendOp
  repeat' first
    | with_reducible exact Only.refl
    | with_reducible apply Foot.Sub.mk; decide +kernel
    | with_reducible apply Only.ite
    | with_reducible apply Only.step (Dev.ctrl_only ..)
    | with_reducible apply Only.step (Dev.setTwin_only ..)
    | split

theorem galleryDataReceiveOp_only (n : Nat) (w : Bytes) (d : Dev) : Only Foot.galleryDataReceive d (galleryDataReceiveOp n w d) := by
  unfold galleryDataReceiveOp
  repeat' first
    | with_reducible exact Only.refl
    | with_reducible apply Foot.Sub.mk; decide +kernel
    | with_reducible apply Only.ite
    | with_reducible apply Only.emit
    | with_reducible apply Only.step (Dev.galleryAuthFail_only ..)
    | with_reducible apply Only.step (Dev.laneCrcBad_only ..)
    | with_reducible apply Only.step (Dev.laneUp_only ..)
    | with_reducible apply Only.step (Dev.migEndSeen_only ..)
    | with_reducible apply Only.step (Dev.postedSeen_only ..)
    | with_reducible apply Only.step (Dev.setLane_only ..)
    | dsimp only
    | split

theorem galleryDictRequestOp_only (b : Bytes) (d : Dev) : Only Foot.galleryDictRequest d (galleryDictRequestOp b d) := by
  unfold galleryDictRequestOp
  repeat' first
    | with_reducible exact Only.refl
    | with_reducible apply Foot.Sub.mk; decide +kernel
    | with_reducible apply Only.ite
    | with_reducible apply Only.step (Dev.ctrl_only ..)
    | with_reducible apply Only.step (Dev.submit_only ..)
    | dsimp only
    | split

theorem galleryHelloReceiveOp_only (n : Nat) (w : Bytes) (d : Dev) : Only Foot.galleryHelloReceive d (galleryHelloReceiveOp n w d) := by
  unfold galleryHelloReceiveOp
  repeat' first
    | with_reducible exact Only.refl
    | with_reducible apply Foot.Sub.mk; decide +kernel
    | with_reducible apply Only.ite
    | with_reducible apply Only.step (Dev.galleryAuthFail_only ..)
    | with_reducible apply Only.step (Dev.laneCrcBad_only ..)
    | with_reducible apply Only.step (Dev.laneKey_only ..)
    | with_reducible apply Only.step (Dev.setLane_only ..)
    | with_reducible apply Only.step (Dev.setTwin_only ..)
    | dsimp only
    | split

theorem galleryHelloSendOp_only (n : Nat) (d : Dev) : Only Foot.galleryHelloSend d (galleryHelloSendOp n d) := by
  unfold galleryHelloSendOp
  repeat' first
    | with_reducible exact Only.refl
    | with_reducible apply Foot.Sub.mk; decide +kernel
    | with_reducible apply Only.ite
    | with_reducible apply Only.step (Dev.draw_only ..)
    | with_reducible apply Only.step (Dev.laneHello_only ..)
    | with_reducible apply Only.step (Dev.setLane_only ..)
    | dsimp only
    | split

theorem galleryOutcomeTimeoutOp_only (d : Dev) : Only Foot.galleryOutcomeTimeout d (galleryOutcomeTimeoutOp d) := by
  unfold galleryOutcomeTimeoutOp
  repeat' first
    | with_reducible exact Only.refl
    | with_reducible apply Foot.Sub.mk; decide +kernel
    | with_reducible apply Only.ite
    | with_reducible apply Only.step (Dev.postFailed_only ..)
    | with_reducible apply Only.step (Dev.setTwin_only ..)
    | split

theorem gateIntervalEndOp_only (p : Nat) (d : Dev) : Only Foot.gateIntervalEnd d (gateIntervalEndOp p d) := by
  unfold gateIntervalEndOp
  repeat' first
    | with_reducible exact Only.refl
    | with_reducible apply Foot.Sub.mk; decide +kernel
    | with_reducible apply Only.ite
    | with_reducible apply Only.step (Dev.setGates_only ..)
    | with_reducible apply Only.step (Dev.setSched_only ..)
    | dsimp only
    | split

theorem gateParkOp_only (g : Nat) (d : Dev) : Only Foot.gatePark d (gateParkOp g d) := by
  unfold gateParkOp
  repeat' first
    | with_reducible exact Only.refl
    | with_reducible apply Foot.Sub.mk; decide +kernel
    | with_reducible apply Only.ite
    | with_reducible apply Only.step (Dev.setGateState_only ..)

theorem gateUnparkOp_only (g : Nat) (d : Dev) : Only Foot.gateUnpark d (gateUnparkOp g d) := by
  unfold gateUnparkOp
  repeat' first
    | with_reducible exact Only.refl
    | with_reducible apply Foot.Sub.mk; decide +kernel
    | with_reducible apply Only.ite
    | with_reducible apply Only.foldl
    | with_reducible apply Only.step (Dev.setGateState_only ..)
    | with_reducible intro _

theorem gclChangeOp_only (p : Nat) (d : Dev) : Only Foot.gclChange d (gclChangeOp p d) := by
  unfold gclChangeOp
  repeat' first
    | with_reducible exact Only.refl
    | with_reducible apply Foot.Sub.mk; decide +kernel
    | with_reducible apply Only.step (Dev.gclPromoted_only ..)
    | with_reducible apply Only.step (Dev.setGates_only ..)
    | split

theorem goToSleepTimeoutOp_only (n : Nat) (d : Dev) : Only Foot.goToSleepTimeout d (goToSleepTimeoutOp n d) := by
  unfold goToSleepTimeoutOp
  repeat' first
    | with_reducible exact Only.refl
    | with_reducible apply Foot.Sub.mk; decide +kernel
    | with_reducible apply Only.ite
    | with_reducible apply Only.step (Dev.refreshEntry_only ..)
    | with_reducible apply Only.step (Dev.setTrx_only ..)

theorem hallAtRestOp_only (h : Nat) (d : Dev) : Only Foot.hallAtRest d (hallAtRestOp h d) := by
  unfold hallAtRestOp
  repeat' first
    | with_reducible exact Only.refl
    | with_reducible apply Foot.Sub.mk; decide +kernel
    | with_reducible apply Only.ite
    | with_reducible apply Only.emit
    | with_reducible apply Only.step (Dev.hallDone_only ..)
    | with_reducible apply Only.step (Dev.hallRecord_only ..)
    | with_reducible apply Only.step (Dev.migSend_only ..)
    | with_reducible apply Only.step (Dev.setHalls_only ..)
    | dsimp only
    | split

theorem hallWdtExpiryOp_only (h : Nat) (d : Dev) : Only Foot.hallWdtExpiry d (hallWdtExpiryOp h d) := by
  unfold hallWdtExpiryOp
  repeat' first
    | with_reducible exact Only.refl
    | with_reducible apply Foot.Sub.mk; decide +kernel
    | with_reducible apply Only.ite
    | with_reducible apply Only.step (Dev.hallFault_only ..)

theorem handoverAcceptTimeoutOp_only (d : Dev) : Only Foot.handoverAcceptTimeout d (handoverAcceptTimeoutOp d) := by
  unfold handoverAcceptTimeoutOp
  repeat' first
    | with_reducible exact Only.refl
    | with_reducible apply Foot.Sub.mk; decide +kernel
    | with_reducible apply Only.ite
    | with_reducible apply Only.step (Dev.handEnd_only ..)
    | split

theorem handoverReceiveOp_only (step : Nat) (instant : Nat) (d : Dev) : Only Foot.handoverReceive d (handoverReceiveOp step instant d) := by
  unfold handoverReceiveOp
  repeat' first
    | with_reducible exact Only.refl
    | with_reducible apply Foot.Sub.mk; decide +kernel
    | with_reducible apply Only.ite
    | with_reducible apply Only.step (Dev.ctrl_only ..)
    | with_reducible apply Only.step (Dev.decideOn_only ..)
    | with_reducible apply Only.step (Dev.handEnd_only ..)
    | with_reducible apply Only.step (Dev.setRole_only ..)
    | with_reducible apply Only.step (Dev.setTwin_only ..)
    | split

theorem handoverTimeoutOp_only (d : Dev) : Only Foot.handoverTimeout d (handoverTimeoutOp d) := by
  unfold handoverTimeoutOp
  repeat' first
    | with_reducible exact Only.refl
    | with_reducible apply Foot.Sub.mk; decide +kernel
    | with_reducible apply Only.ite
    | with_reducible apply Only.put (has_Tws_ROLE_EPOCH ..)
    | with_reducible apply Only.step (Dev.firstAgain_only ..)
    | with_reducible apply Only.step (Dev.handEnd_only ..)
    | with_reducible apply Only.step (Dev.setRole_only ..)
    | split

theorem hbLostOp_only (i : Nat) (d : Dev) : Only Foot.hbLost d (hbLostOp i d) := by
  unfold hbLostOp
  repeat' first
    | with_reducible exact Only.refl
    | with_reducible apply Foot.Sub.mk; decide +kernel
    | with_reducible apply Only.ite
    | with_reducible apply Only.step (Dev.event_only ..)
    | with_reducible apply Only.step (Dev.eventRing_only ..)

theorem heartbeatLostOp_only (d : Dev) : Only Foot.heartbeatLost d (heartbeatLostOp d) := by
  unfold heartbeatLostOp
  repeat' first
    | with_reducible exact Only.refl
    | with_reducible apply Foot.Sub.mk; decide +kernel
    | with_reducible apply Only.ite
    | with_reducible apply Only.put (has_Tws_PEER_ROLE ..)
    | with_reducible apply Only.step (Dev.attachEnd_only ..)
    | with_reducible apply Only.step (Dev.bothAbsent_only ..)
    | with_reducible apply Only.step (Dev.migLinkLost_only ..)
    | with_reducible apply Only.step (Dev.setPath_only ..)
    | with_reducible apply Only.step (Dev.setRole_only ..)
    | with_reducible apply Only.step (Dev.setTwin_only ..)

theorem heartbeatProduceOp_only (d : Dev) : Only Foot.heartbeatProduce d (heartbeatProduceOp d) := by
  unfold heartbeatProduceOp
  repeat' first
    | with_reducible exact Only.refl
    | with_reducible apply Foot.Sub.mk; decide +kernel
    | with_reducible apply Only.ite
    | with_reducible apply Only.foldl
    | with_reducible apply Only.step (Dev.svcSend_only ..)
    | with_reducible intro _

theorem heartbeatReceiveOp_only (n : Nat) (epoch : Nat) (role : Nat) (flags : Nat) (state : Nat) (change : Nat) (activeId : Nat) (forceGen : Nat) (d : Dev) : Only Foot.heartbeatReceive d (heartbeatReceiveOp n epoch role flags state change activeId forceGen d) := by
  unfold heartbeatReceiveOp
  repeat' first
    | with_reducible exact Only.refl
    | with_reducible apply Foot.Sub.mk; decide +kernel
    | with_reducible apply Only.ite
    | with_reducible apply Only.put (has_Tws_PEER_EPOCH ..)
    | with_reducible apply Only.put (has_Tws_PEER_ROLE ..)
    | with_reducible apply Only.step (Dev.beatAfterFall_only ..)
    | with_reducible apply Only.step (Dev.beatRole_only ..)
    | with_reducible apply Only.step (Dev.pathBack_only ..)
    | with_reducible apply Only.step (Dev.setPath_only ..)
    | with_reducible apply Only.step (Dev.setTwin_only ..)
    | with_reducible apply Only.step (Dev.wiringFault_only ..)

theorem heartbeatSendOp_only (d : Dev) : Only Foot.heartbeatSend d (heartbeatSendOp d) := by
  unfold heartbeatSendOp
  repeat' first
    | with_reducible exact Only.refl
    | with_reducible apply Foot.Sub.mk; decide +kernel
    | with_reducible apply Only.ite
    | with_reducible apply Only.step (Dev.heartbeats_only ..)

theorem holdExpiryOp_only (p : Nat) (d : Dev) : Only Foot.holdExpiry d (holdExpiryOp p d) := by
  unfold holdExpiryOp
  repeat' first
    | with_reducible exact Only.refl
    | with_reducible apply Foot.Sub.mk; decide +kernel
    | with_reducible apply Only.ite
    | with_reducible apply Only.step (Dev.holdFlush_only ..)

theorem holdoverTimeoutOp_only (d : Dev) : Only Foot.holdoverTimeout d (holdoverTimeoutOp d) := by
  unfold holdoverTimeoutOp
  repeat' first
    | with_reducible exact Only.refl
    | with_reducible apply Foot.Sub.mk; decide +kernel
    | with_reducible apply Only.ite
    | with_reducible apply Only.step (Dev.setQuality_only ..)

theorem inDoubtAnswerOp_only (h : Nat) (committed : Bool) (d : Dev) : Only Foot.inDoubtAnswer d (inDoubtAnswerOp h committed d) := by
  unfold inDoubtAnswerOp
  repeat' first
    | with_reducible exact Only.refl
    | with_reducible apply Foot.Sub.mk; decide +kernel
    | with_reducible apply Only.ite
    | with_reducible apply Only.step (Dev.migArrived_only ..)
    | with_reducible apply Only.step (Dev.migDiscard_only ..)

theorem inputsReceiveOp_only (q : Nat) (t : Nat) (cycle : Nat) (startNs : Nat) (off : Nat) (last : Bool) (b : Bytes) (d : Dev) : Only Foot.inputsReceive d (inputsReceiveOp q t cycle startNs off last b d) := by
  unfold inputsReceiveOp
  repeat' first
    | with_reducible exact Only.refl
    | with_reducible apply Foot.Sub.mk; decide +kernel
    | with_reducible apply Only.ite
    | with_reducible apply Only.step (Dev.postedBad_only ..)
    | with_reducible apply Only.step (Dev.setTwinRun_only ..)
    | with_reducible apply Only.step (Dev.startReplica_only ..)

theorem inrushEndOp_only (n : Nat) (d : Dev) : Only Foot.inrushEnd d (inrushEndOp n d) := by
  unfold inrushEndOp
  repeat' first
    | with_reducible exact Only.refl
    | with_reducible apply Foot.Sub.mk; decide +kernel
    | with_reducible apply Only.ite
    | with_reducible apply Only.step (Dev.enterLoad_only ..)
    | with_reducible apply Only.step (Dev.setLoadCh_only ..)

theorem interruptSourceAssertOp_only (n : Nat) (d : Dev) : Only Foot.interruptSourceAssert d (interruptSourceAssertOp n d) := by
  unfold interruptSourceAssertOp
  repeat' first
    | with_reducible exact Only.refl
    | with_reducible apply Foot.Sub.mk; decide +kernel
    | with_reducible apply Only.ite
    | with_reducible apply Only.step (Dev.evalLine_only ..)
    | with_reducible apply Only.step (Dev.raise_only ..)

theorem issueWindowAtomicOp_only (t : Txn) (d : Dev) : Only Foot.bridgeWindowAtomic d (issueWindowAtomicOp t d) := by
  unfold issueWindowAtomicOp
  repeat' first
    | with_reducible exact Only.refl
    | with_reducible apply Foot.Sub.mk; decide +kernel
    | with_reducible apply Only.issued
    | with_reducible apply Only.step (bridgeWindowAtomicOp_only ..)
    | with_reducible intro _

theorem issueWindowPostedWriteOp_only (t : Txn) (d : Dev) : Only Foot.bridgeWindowPostedWrite d (issueWindowPostedWriteOp t d) := by
  unfold issueWindowPostedWriteOp
  repeat' first
    | with_reducible exact Only.refl
    | with_reducible apply Foot.Sub.mk; decide +kernel
    | with_reducible apply Only.issued
    | with_reducible apply Only.step (bridgeWindowPostedWriteOp_only ..)
    | with_reducible intro _

theorem issueWindowReadOp_only (t : Txn) (d : Dev) : Only Foot.bridgeWindowRead d (issueWindowReadOp t d) := by
  unfold issueWindowReadOp
  repeat' first
    | with_reducible exact Only.refl
    | with_reducible apply Foot.Sub.mk; decide +kernel
    | with_reducible apply Only.issued
    | with_reducible apply Only.step (bridgeWindowReadOp_only ..)
    | with_reducible intro _

theorem issueWindowWriteOp_only (t : Txn) (d : Dev) : Only Foot.bridgeWindowWrite d (issueWindowWriteOp t d) := by
  unfold issueWindowWriteOp
  repeat' first
    | with_reducible exact Only.refl
    | with_reducible apply Foot.Sub.mk; decide +kernel
    | with_reducible apply Only.issued
    | with_reducible apply Only.step (bridgeWindowWriteOp_only ..)
    | with_reducible intro _

theorem keepaliveSendOp_only (k : Nat) (d : Dev) : Only Foot.keepaliveSend d (keepaliveSendOp k d) := by
  unfold keepaliveSendOp
  repeat' first
    | with_reducible exact Only.refl
    | with_reducible apply Foot.Sub.mk; decide +kernel
    | with_reducible apply Only.ite
    | with_reducible apply Only.step (Dev.sendKeepalive_only ..)

theorem limitEntryOp_only (n : Nat) (d : Dev) : Only Foot.limitEntry d (limitEntryOp n d) := by
  unfold limitEntryOp
  repeat' first
    | with_reducible exact Only.refl
    | with_reducible apply Foot.Sub.mk; decide +kernel
    | with_reducible apply Only.ite
    | with_reducible apply Only.count (has_loadCounter_3 ..)
    | with_reducible apply Only.step (Dev.setLoadFlag_only ..)

theorem limitingEndOp_only (n : Nat) (d : Dev) : Only Foot.limitingEnd d (limitingEndOp n d) := by
  unfold limitingEndOp
  repeat' first
    | with_reducible exact Only.refl
    | with_reducible apply Foot.Sub.mk; decide +kernel
    | with_reducible apply Only.step (Dev.setLoadFlag_only ..)

theorem linkDownOp_only (p : Nat) (pins : Nat) (d : Dev) : Only Foot.linkDown d (linkDownOp p pins d) := by
  unfold linkDownOp
  repeat' first
    | with_reducible exact Only.refl
    | with_reducible apply Foot.Sub.mk; decide +kernel
    | with_reducible apply Only.ite
    | with_reducible apply Only.step (Dev.portDown_only ..)
    | with_reducible apply Only.step (Dev.setLink_only ..)

theorem linkQualifyStartOp_only (p : Nat) (d : Dev) : Only Foot.linkQualifyStart d (linkQualifyStartOp p d) := by
  unfold linkQualifyStartOp
  repeat' first
    | with_reducible exact Only.refl
    | with_reducible apply Foot.Sub.mk; decide +kernel
    | with_reducible apply Only.ite
    | with_reducible apply Only.step (Dev.setLink_only ..)

theorem linkUpOp_only (p : Nat) (d : Dev) : Only Foot.linkUp d (linkUpOp p d) := by
  unfold linkUpOp
  repeat' first
    | with_reducible exact Only.refl
    | with_reducible apply Foot.Sub.mk; decide +kernel
    | with_reducible apply Only.ite
    | with_reducible apply Only.step (Dev.event_only ..)
    | with_reducible apply Only.step (Dev.setLink_only ..)

theorem livenessTimeoutOp_only (d : Dev) : Only Foot.livenessTimeout d (livenessTimeoutOp d) := by
  unfold livenessTimeoutOp
  repeat' first
    | with_reducible exact Only.refl
    | with_reducible apply Foot.Sub.mk; decide +kernel
    | with_reducible apply Only.ite
    | with_reducible apply Only.step (Dev.faultRefresh_only ..)
    | with_reducible apply Only.step (Dev.setTwin_only ..)

theorem lockExpiredOp_only (n : Nat) (k : Nat) (d : Dev) : Only Foot.lockExpiry d (lockExpiredOp n k d) := by
  unfold lockExpiredOp
  repeat' first
    | with_reducible exact Only.refl
    | with_reducible apply Foot.Sub.mk; decide +kernel
    | with_reducible apply Only.step (Dev.lockExpired_only ..)

theorem lockstepMismatchOp_only (p : Nat) (kind : Nat) (pc : Nat) (d : Dev) : Only Foot.lockstepMismatch d (lockstepMismatchOp p kind pc d) := by
  unfold lockstepMismatchOp
  repeat' first
    | with_reducible exact Only.refl
    | with_reducible apply Foot.Sub.mk; decide +kernel
    | with_reducible apply Only.ite
    | with_reducible apply Only.foldl
    | with_reducible apply Only.put (has_Pair_STATE ..)
    | with_reducible apply Only.countMk (has_Pair_MISMATCHES ..) (has_Pair_COUNTER_SAT ..)
    | with_reducible apply Only.step (Dev.event_only ..)
    | with_reducible apply Only.step (Dev.eventRing_only ..)
    | with_reducible apply Only.step (Dev.executorFault_only ..)
    | with_reducible apply Only.step (Dev.hallFault_only ..)
    | with_reducible apply Only.step (Dev.setHart_only ..)
    | with_reducible apply Only.step (Dev.sysIrq_only ..)
    | with_reducible intro _

theorem lossHighOp_only (d : Dev) : Only Foot.lossHigh d (lossHighOp d) := by
  unfold lossHighOp
  repeat' first
    | with_reducible exact Only.refl
    | with_reducible apply Foot.Sub.mk; decide +kernel
    | with_reducible apply Only.ite
    | with_reducible apply Only.step (Dev.loadEvent_only ..)
    | with_reducible apply Only.step (Dev.setLoad_only ..)

theorem migAcceptOp_only (h : Nat) (insts : List (Nat × Nat)) (ccores : Nat) (windows : Bytes) (d : Dev) : Only Foot.migAccept d (migAcceptOp h insts ccores windows d) := by
  unfold migAcceptOp
  repeat' first
    | with_reducible exact Only.refl
    | with_reducible apply Foot.Sub.mk; decide +kernel
    | with_reducible apply Only.ite
    | with_reducible apply Only.step (Dev.migSend_only ..)
    | with_reducible apply Only.step (Dev.setHall_only ..)
    | with_reducible apply Only.step (Dev.setHalls_only ..)

theorem migCommitReceiveOp_only (h : Nat) (d : Dev) : Only Foot.migCommitReceive d (migCommitReceiveOp h d) := by
  unfold migCommitReceiveOp
  repeat' first
    | with_reducible exact Only.refl
    | with_reducible apply Foot.Sub.mk; decide +kernel
    | with_reducible apply Only.ite
    | with_reducible apply Only.step (Dev.migArrived_only ..)

theorem migCommitTimeoutOp_only (h : Nat) (sent : Bool) (d : Dev) : Only Foot.migCommitTimeout d (migCommitTimeoutOp h sent d) := by
  unfold migCommitTimeoutOp
  repeat' first
    | with_reducible exact Only.refl
    | with_reducible apply Foot.Sub.mk; decide +kernel
    | with_reducible apply Only.ite
    | with_reducible apply Only.step (Dev.migDiscard_only ..)
    | with_reducible apply Only.step (Dev.setHall_only ..)

theorem migPassCompleteOp_only (d : Dev) : Only Foot.migPassComplete d (migPassCompleteOp d) := by
  unfold migPassCompleteOp
  repeat' first
    | with_reducible exact Only.refl
    | with_reducible apply Foot.Sub.mk; decide +kernel
    | with_reducible apply Only.ite
    | with_reducible apply Only.emit
    | with_reducible apply Only.step (Dev.hallEvent_only ..)
    | with_reducible apply Only.step (Dev.migEnd_only ..)
    | with_reducible apply Only.step (Dev.setHalls_only ..)
    | dsimp only
    | split

theorem migReadyReceiveOp_only (s : Status) (d : Dev) : Only Foot.migReadyReceive d (migReadyReceiveOp s d) := by
  unfold migReadyReceiveOp
  repeat' first
    | with_reducible exact Only.refl
    | with_reducible apply Foot.Sub.mk; decide +kernel
    | with_reducible apply Only.ite
    | with_reducible apply Only.count (has_hallCounter_2 ..)
    | with_reducible apply Only.step (Dev.hallDone_only ..)
    | with_reducible apply Only.step (Dev.hallGone_only ..)
    | with_reducible apply Only.step (Dev.migDone_only ..)
    | with_reducible apply Only.step (Dev.migEnd_only ..)
    | with_reducible apply Only.step (Dev.migSend_only ..)
    | with_reducible apply Only.step (Dev.setHalls_only ..)
    | dsimp only
    | split

theorem migStateReceivedOp_only (h : Nat) (pages : List (Nat × Bytes)) (record : Bytes) (d : Dev) : Only Foot.migStateReceived d (migStateReceivedOp h pages record d) := by
  unfold migStateReceivedOp
  repeat' first
    | with_reducible exact Only.refl
    | with_reducible apply Foot.Sub.mk; decide +kernel
    | with_reducible apply Only.ite
    | with_reducible apply Only.foldl
    | with_reducible apply Only.step (Dev.migDiscard_only ..)
    | with_reducible apply Only.step (Dev.migSend_only ..)
    | with_reducible apply Only.step (Dev.restoreRecord_only ..)
    | with_reducible apply Only.step (Dev.setHalls_only ..)
    | with_reducible apply Only.step (Dev.writeMem_only ..)
    | with_reducible intro _
    | with_reducible refine Only.snd2 (by assumption) ?_
    | dsimp only
    | split

theorem migrateAcceptTimeoutOp_only (d : Dev) : Only Foot.migrateAcceptTimeout d (migrateAcceptTimeoutOp d) := by
  unfold migrateAcceptTimeoutOp
  repeat' first
    | with_reducible exact Only.refl
    | with_reducible apply Foot.Sub.mk; decide +kernel
    | with_reducible apply Only.ite
    | with_reducible apply Only.step (Dev.migEnd_only ..)
    | split

theorem moderationExpiryOp_only (n : Nat) (m0 : Bool) (d : Dev) : Only Foot.moderationExpiry d (moderationExpiryOp n m0 d) := by
  have h_held : Part.In .held Foot.moderationExpiry := ⟨by decide +kernel⟩
  unfold moderationExpiryOp
  repeat' first
    | with_reducible exact Only.refl
    | with_reducible apply Foot.Sub.mk; decide +kernel
    | with_reducible apply Only.ite
    | with_reducible apply Only.step (Dev.evalLine_only ..)
    | simp only [Only.set_held_eq h_held]

theorem ndpCloseOp_only (m : NdpMsg) (d : Dev) : Only Foot.ndpClose d (ndpCloseOp m d) := by
  unfold ndpCloseOp
  repeat' first
    | with_reducible exact Only.refl
    | with_reducible apply Foot.Sub.mk; decide +kernel
    | with_reducible apply Only.ite
    | with_reducible apply Only.step (Dev.ndpTake_only ..)

theorem ndpNopOp_only (m : NdpMsg) (d : Dev) : Only Foot.ndpNop d (ndpNopOp m d) := by
  unfold ndpNopOp
  repeat' first
    | with_reducible exact Only.refl
    | with_reducible apply Foot.Sub.mk; decide +kernel
    | with_reducible apply Only.ite
    | with_reducible apply Only.step (Dev.ndpTake_only ..)

theorem ndpOpenOp_only (m : NdpMsg) (d : Dev) : Only Foot.ndpOpen d (ndpOpenOp m d) := by
  unfold ndpOpenOp
  repeat' first
    | with_reducible exact Only.refl
    | with_reducible apply Foot.Sub.mk; decide +kernel
    | with_reducible apply Only.ite
    | with_reducible apply Only.count (has_ndpCounter_0 ..)
    | with_reducible apply Only.step (Dev.authFail_only ..)
    | with_reducible apply Only.step (Dev.draw_only ..)
    | with_reducible apply Only.step (Dev.ndpBare_only ..)
    | with_reducible apply Only.ndpIntake
    | with_reducible apply Only.step (Dev.ndpSend_only ..)
    | with_reducible apply Only.step (Dev.setD0_only ..)
    | with_reducible intro _
    | dsimp only
    | split

theorem ndpReadOp_only (m : NdpMsg) (d : Dev) : Only Foot.ndpRead d (ndpReadOp m d) := by
  unfold ndpReadOp
  repeat' first
    | with_reducible exact Only.refl
    | with_reducible apply Foot.Sub.mk; decide +kernel
    | with_reducible apply Only.ite
    | with_reducible apply Only.step (Dev.ndpTake_only ..)

theorem ndpWriteOp_only (m : NdpMsg) (d : Dev) : Only Foot.ndpWrite d (ndpWriteOp m d) := by
  unfold ndpWriteOp
  repeat' first
    | with_reducible exact Only.refl
    | with_reducible apply Foot.Sub.mk; decide +kernel
    | with_reducible apply Only.ite
    | with_reducible apply Only.step (Dev.ndpTake_only ..)

theorem nhallWriteOp_only (k : Nat) (mode : Mode) (v : Nat) (d : Dev) : Only Foot.nhallWrite d (nhallWriteOp k mode v d) := by
  unfold nhallWriteOp
  repeat' first
    | with_reducible exact Only.refl
    | with_reducible apply Foot.Sub.mk; decide +kernel
    | with_reducible apply Only.ite
    | with_reducible apply Only.emit
    | with_reducible apply Only.step (Dev.setHart_only ..)
    | split

theorem offStateCheckOp_only (n : Nat) (short : Bool) (mv1 : Nat) (isOpen : Bool) (mv2 : Nat) (d : Dev) : Only Foot.offStateCheck d (offStateCheckOp n short mv1 isOpen mv2 d) := by
  unfold offStateCheckOp
  repeat' first
    | with_reducible exact Only.refl
    | with_reducible apply Foot.Sub.mk; decide +kernel
    | with_reducible apply Only.ite
    | with_reducible apply Only.count (has_loadCounter_4 ..)
    | with_reducible apply Only.count (has_loadCounter_5 ..)
    | with_reducible apply Only.step (Dev.loadEvent_only ..)
    | with_reducible apply Only.step (Dev.setLoadCh_only ..)
    | with_reducible apply Only.step (Dev.setLoadFlag_only ..)

theorem outputCrcReceiveOp_only (t : Nat) (cycle : Nat) (crc : Nat) (d : Dev) : Only Foot.outputCrcReceive d (outputCrcReceiveOp t cycle crc d) := by
  unfold outputCrcReceiveOp
  repeat' first
    | with_reducible exact Only.refl
    | with_reducible apply Foot.Sub.mk; decide +kernel
    | with_reducible apply Only.ite
    | with_reducible apply Only.step (Dev.compareCrc_only ..)
    | with_reducible apply Only.step (Dev.setTwinRun_only ..)

theorem overtempClearOp_only (env : BootEnv) (d : Dev) : Only Foot.overtempClear d (overtempClearOp env d) := by
  unfold overtempClearOp
  repeat' first
    | with_reducible exact Only.refl
    | with_reducible apply Foot.Sub.mk; decide +kernel
    | with_reducible apply Only.step (Dev.startUp_only ..)
    | with_reducible apply Only.step (setPhase_only ..)
    | split

theorem paceFaultEndOp_only (d : Dev) : Only Foot.paceFaultEnd d (paceFaultEndOp d) := by
  unfold paceFaultEndOp
  repeat' first
    | with_reducible exact Only.refl
    | with_reducible apply Foot.Sub.mk; decide +kernel
    | with_reducible apply Only.ite
    | with_reducible apply Only.step (Dev.faultRefresh_only ..)
    | with_reducible apply Only.step (Dev.setSupply_only ..)

theorem paceFaultOp_only (d : Dev) : Only Foot.paceFault d (paceFaultOp d) := by
  unfold paceFaultOp
  repeat' first
    | with_reducible exact Only.refl
    | with_reducible apply Foot.Sub.mk; decide +kernel
    | with_reducible apply Only.ite
    | with_reducible apply Only.step (Dev.faultRefresh_only ..)
    | with_reducible apply Only.step (Dev.paceEvent_only ..)
    | with_reducible apply Only.step (Dev.setSupply_only ..)

theorem paceSampleOp_only (code : Nat) (d : Dev) : Only Foot.paceSample d (paceSampleOp code d) := by
  unfold paceSampleOp
  repeat' first
    | with_reducible exact Only.refl
    | with_reducible apply Foot.Sub.mk; decide +kernel
    | with_reducible apply Only.ite
    | with_reducible apply Only.put (has_Pace_PACE_CODE ..)
    | with_reducible apply Only.put (has_Pace_PACE_TARGET ..)
    | with_reducible apply Only.countCtr (has_Pace_PACE_SHORT_COUNT ..) (has_Pace_COUNTER_SAT ..)
    | with_reducible apply Only.step (Dev.paceEvent_only ..)
    | with_reducible apply Only.step (Dev.setSupply_only ..)

theorem partnerQueryOp_only (d : Dev) : Only Foot.partnerQuery d (partnerQueryOp d) := by
  unfold partnerQueryOp
  repeat' first
    | with_reducible exact Only.refl
    | with_reducible apply Foot.Sub.mk; decide +kernel
    | with_reducible apply Only.ite
    | with_reducible apply Only.step (Dev.decideOn_only ..)
    | with_reducible apply Only.step (Dev.queryDone_only ..)
    | with_reducible apply Only.step (Dev.queueReq_only ..)
    | with_reducible apply Only.step (Dev.setTwin_only ..)

theorem partnerQueryResultOp_only (ok : Bool) (v : Nat) (d : Dev) : Only Foot.partnerQueryResult d (partnerQueryResultOp ok v d) := by
  unfold partnerQueryResultOp
  repeat' first
    | with_reducible exact Only.refl
    | with_reducible apply Foot.Sub.mk; decide +kernel
    | with_reducible apply Only.ite
    | with_reducible apply Only.count (has_twinCounter_4 ..)
    | with_reducible apply Only.step (Dev.decideOn_only ..)
    | with_reducible apply Only.step (Dev.setPath_only ..)
    | with_reducible apply Only.step (Dev.setRole_only ..)
    | with_reducible apply Only.step (Dev.setTwin_only ..)
    | with_reducible apply Only.step (Dev.twinEvent_only ..)

theorem patrolScrubOp_only (a : Nat) (err : Nat) (d : Dev) : Only Foot.patrolScrub d (patrolScrubOp a err d) := by
  unfold patrolScrubOp
  repeat' first
    | with_reducible exact Only.refl
    | with_reducible apply Foot.Sub.mk; decide +kernel
    | with_reducible apply Only.ite
    | with_reducible apply Only.put (has_Mem_CE_LAST ..)
    | with_reducible apply Only.count (has_memCounter ..)
    | with_reducible apply Only.step (Dev.eccFound_only ..)
    | with_reducible apply Only.step (Dev.eventSys_only ..)
    | with_reducible apply Only.limited
    | with_reducible apply Only.step (Dev.setDma_only ..)
    | with_reducible intro _
    | dsimp only
    | split

theorem pllLockOp_only (k : Nat) (d : Dev) : Only Foot.pllLock d (pllLockOp k d) := by
  unfold pllLockOp
  repeat' first
    | with_reducible exact Only.refl
    | with_reducible apply Foot.Sub.mk; decide +kernel
    | with_reducible apply Only.ite
    | with_reducible apply Only.step (Dev.setDom_only ..)
    | with_reducible apply Only.step (Dev.sscSet_only ..)

theorem pollResultOp_only (u : Nat) (m : BMsg) (d : Dev) : Only Foot.pollResult d (pollResultOp u m d) := by
  unfold pollResultOp
  repeat' first
    | with_reducible exact Only.refl
    | with_reducible apply Foot.Sub.mk; decide +kernel
    | with_reducible apply Only.ite
    | with_reducible apply Only.step (Dev.bridgeResponse_only ..)

theorem powerFailOp_only (d : Dev) : Only Foot.powerFail d (powerFailOp d) := by
  have h_power : Part.In .power Foot.powerFail := ⟨by decide +kernel⟩
  unfold powerFailOp
  repeat' first
    | with_reducible exact Only.refl
    | with_reducible apply Foot.Sub.mk; decide +kernel
    | with_reducible apply Only.ite
    | with_reducible apply Only.foldl
    | with_reducible apply Only.put (has_Pwr_PF_STATE ..)
    | with_reducible apply Only.count (has_powerCounter_0 ..)
    | with_reducible apply Only.step (Dev.engineLost_only ..)
    | with_reducible apply Only.step (Dev.faultRefresh_only ..)
    | with_reducible apply Only.step (Dev.portDown_only ..)
    | with_reducible apply Only.step (Dev.powerEvent_only ..)
    | with_reducible apply Only.step (Dev.raiseM0_only ..)
    | with_reducible apply Only.step (Dev.retainSave_only ..)
    | with_reducible apply Only.step (Dev.setSupply_only ..)
    | with_reducible intro _
    | simp only [Only.set_power_eq h_power]

theorem powerReqSleepOp_only (d : Dev) : Only Foot.powerReqSleep d (powerReqSleepOp d) := by
  unfold powerReqSleepOp
  repeat' first
    | with_reducible exact Only.refl
    | with_reducible apply Foot.Sub.mk; decide +kernel
    | with_reducible apply Only.step (powerReq_only ..)

theorem powerReqStandbyOp_only (d : Dev) : Only Foot.powerReqStandby d (powerReqStandbyOp d) := by
  unfold powerReqStandbyOp
  repeat' first
    | with_reducible exact Only.refl
    | with_reducible apply Foot.Sub.mk; decide +kernel
    | with_reducible apply Only.step (powerReq_only ..)

theorem powerRestoredOp_only (d : Dev) : Only Foot.powerRestored d (powerRestoredOp d) := by
  unfold powerRestoredOp
  repeat' first
    | with_reducible exact Only.refl
    | with_reducible apply Foot.Sub.mk; decide +kernel
    | with_reducible apply Only.ite
    | with_reducible apply Only.foldl
    | with_reducible apply Only.put (has_Pwr_PF_STATE ..)
    | with_reducible apply Only.count (has_powerCounter_1 ..)
    | with_reducible apply Only.setFld (has_Ch_BUS ..)
    | with_reducible apply Only.step (Dev.faultRefresh_only ..)
    | with_reducible apply Only.step (Dev.powerEvent_only ..)
    | with_reducible apply Only.step (Dev.setSupply_only ..)
    | with_reducible intro _

theorem promoteCompleteOp_only (d : Dev) : Only Foot.promoteComplete d (promoteCompleteOp d) := by
  unfold promoteCompleteOp
  repeat' first
    | with_reducible exact Only.refl
    | with_reducible apply Foot.Sub.mk; decide +kernel
    | with_reducible apply Only.ite
    | with_reducible apply Only.count (has_twinCounter_0 ..)
    | with_reducible apply Only.count (has_twinCounter_1 ..)
    | with_reducible apply Only.step (Dev.firstAgain_only ..)
    | with_reducible apply Only.step (Dev.safeReturns_only ..)
    | with_reducible apply Only.step (Dev.setRole_only ..)
    | with_reducible apply Only.step (Dev.setTwin_only ..)
    | with_reducible apply Only.step (Dev.startEngine_only ..)
    | with_reducible apply Only.step (Dev.streamsResume_only ..)
    | with_reducible apply Only.step (Dev.twinEvent_only ..)
    | dsimp only
    | split

theorem promoteOp_only (d : Dev) : Only Foot.promote d (promoteOp d) := by
  unfold promoteOp
  repeat' first
    | with_reducible exact Only.refl
    | with_reducible apply Foot.Sub.mk; decide +kernel
    | with_reducible apply Only.ite
    | with_reducible apply Only.put (has_Tws_ROLE_EPOCH ..)
    | with_reducible apply Only.step (Dev.dropChange_only ..)
    | with_reducible apply Only.step (Dev.setTwin_only ..)
    | dsimp only
    | split

theorem promoteWaitTimeoutOp_only (d : Dev) : Only Foot.promoteWaitTimeout d (promoteWaitTimeoutOp d) := by
  unfold promoteWaitTimeoutOp
  repeat' first
    | with_reducible exact Only.refl
    | with_reducible apply Foot.Sub.mk; decide +kernel
    | with_reducible apply Only.ite
    | with_reducible apply Only.step (Dev.decideOn_only ..)

theorem ptpMessageReceiveOp_only (p : Nat) (dom : Nat) (m : PtpMsg) (d : Dev) : Only Foot.ptpMessageReceive d (ptpMessageReceiveOp p dom m d) := by
  unfold ptpMessageReceiveOp
  repeat' first
    | with_reducible exact Only.refl
    | with_reducible apply Foot.Sub.mk; decide +kernel
    | with_reducible apply Only.ite
    | with_reducible apply Only.count (has_rxStamps ..)
    | with_reducible apply Only.count (has_txStamps ..)
    | with_reducible apply Only.step (Dev.ptpOut_only ..)
    | with_reducible apply Only.step (Dev.servo_only ..)
    | with_reducible apply Only.step (Dev.setDelay_only ..)
    | with_reducible apply Only.step (Dev.setGrandmaster_only ..)
    | with_reducible apply Only.step (Dev.setPtpState_only ..)
    | with_reducible apply Only.step (Dev.setQuality_only ..)
    | with_reducible apply Only.step (Dev.setTime_only ..)
    | dsimp only
    | split

theorem ptpMessageSendOp_only (p : Nat) (m : PtpSend) (phase : Nat) (latency : Nat) (d : Dev) : Only Foot.ptpMessageSend d (ptpMessageSendOp p m phase latency d) := by
  unfold ptpMessageSendOp
  repeat' first
    | with_reducible exact Only.refl
    | with_reducible apply Foot.Sub.mk; decide +kernel
    | with_reducible apply Only.ite
    | with_reducible apply Only.count (has_txStamps ..)
    | with_reducible apply Only.step (Dev.ptpOut_only ..)
    | with_reducible apply Only.step (Dev.ptpSync_only ..)
    | with_reducible apply Only.step (Dev.setTime_only ..)
    | dsimp only
    | split

theorem pwmPeriodStartOp_only (n : Nat) (d : Dev) : Only Foot.pwmPeriodStart d (pwmPeriodStartOp n d) := by
  unfold pwmPeriodStartOp
  repeat' first
    | with_reducible exact Only.refl
    | with_reducible apply Foot.Sub.mk; decide +kernel
    | with_reducible apply Only.step (Dev.pwmRestart_only ..)

theorem qpRxFrameOp_only (p : Nat) (d : Dev) : Only Foot.qpRxFrame d (qpRxFrameOp p d) := by
  unfold qpRxFrameOp
  repeat' first
    | with_reducible exact Only.refl
    | with_reducible apply Foot.Sub.mk; decide +kernel
    | with_reducible apply Only.ite
    | with_reducible apply Only.count (has_qpCounter_1 ..)
    | with_reducible apply Only.count (has_qpCounter_3 ..)
    | with_reducible apply Only.count (has_qpCounter_4 ..)
    | with_reducible apply Only.step (Dev.descError_only ..)
    | with_reducible apply Only.step (Dev.dropped_only ..)
    | with_reducible apply Only.step (Dev.endTx_only ..)
    | with_reducible apply Only.step (Dev.hallWrite_only ..)
    | with_reducible apply Only.step (Dev.rxComplete_only ..)
    | with_reducible apply Only.step (Dev.setSw_only ..)
    | with_reducible refine Only.snd (by assumption) ?_
    | dsimp only
    | split

theorem qpTxFrameOp_only (n : Nat) (d : Dev) : Only Foot.qpTxFrame d (qpTxFrameOp n d) := by
  unfold qpTxFrameOp
  repeat' first
    | with_reducible exact Only.refl
    | with_reducible apply Foot.Sub.mk; decide +kernel
    | with_reducible apply Only.ite
    | with_reducible apply Only.emit
    | with_reducible apply Only.step (Dev.setDma_only ..)
    | with_reducible apply Only.step (Dev.txComplete_only ..)
    | dsimp only
    | split

theorem qualitySetOp_only (d : Dev) : Only Foot.qualitySet d (qualitySetOp d) := by
  unfold qualitySetOp
  repeat' first
    | with_reducible exact Only.refl
    | with_reducible apply Foot.Sub.mk; decide +kernel
    | with_reducible apply Only.step (Dev.adjustTick_only ..)

theorem quietTimeoutOp_only (k : Nat) (d : Dev) : Only Foot.quietTimeout d (quietTimeoutOp k d) := by
  unfold quietTimeoutOp
  repeat' first
    | with_reducible exact Only.refl
    | with_reducible apply Foot.Sub.mk; decide +kernel
    | with_reducible apply Only.ite
    | with_reducible apply Only.step (Dev.enterDomain_only ..)

theorem rcoTrimOp_only (err : Int) (d : Dev) : Only Foot.rcoTrim d (rcoTrimOp err d) := by
  unfold rcoTrimOp
  repeat' first
    | with_reducible exact Only.refl
    | with_reducible apply Foot.Sub.mk; decide +kernel
    | with_reducible apply Only.ite
    | with_reducible apply Only.putInt (has_Clk_RCO_ERR_PPM ..)
    | with_reducible apply Only.putBit (has_Clk_SRC_STATUS ..)
    | with_reducible apply Only.put (has_Clk_TRIM_IN_USE ..)
    | with_reducible apply Only.step (Dev.clockEvent_only ..)

theorem recoveryResetTimeoutOp_only (s : Nat) (d : Dev) : Only Foot.recoveryResetTimeout d (recoveryResetTimeoutOp s d) := by
  unfold recoveryResetTimeoutOp
  repeat' first
    | with_reducible exact Only.refl
    | with_reducible apply Foot.Sub.mk; decide +kernel
    | with_reducible apply Only.step (Dev.setStream_only ..)

theorem refLossEndOp_only (d : Dev) : Only Foot.refLossEnd d (refLossEndOp d) := by
  unfold refLossEndOp
  repeat' first
    | with_reducible exact Only.refl
    | with_reducible apply Foot.Sub.mk; decide +kernel
    | with_reducible apply Only.ite
    | with_reducible apply Only.ite2
    | with_reducible apply Only.foldl
    | with_reducible apply Only.emit
    | with_reducible apply Only.put (has_Clk_REF_LOSS ..)
    | with_reducible apply Only.step (Dev.clockEvent_only ..)
    | with_reducible apply Only.step (Dev.domStarts_only ..)
    | with_reducible apply Only.step (Dev.draw_only ..)
    | with_reducible apply Only.step (Dev.faultRefresh_only ..)
    | with_reducible apply Only.step (Dev.integrate_only ..)
    | with_reducible apply Only.step (Dev.setClk_only ..)
    | with_reducible intro _

theorem refLossOp_only (d : Dev) : Only Foot.refLoss d (refLossOp d) := by
  unfold refLossOp
  repeat' first
    | with_reducible exact Only.refl
    | with_reducible apply Foot.Sub.mk; decide +kernel
    | with_reducible apply Only.ite
    | with_reducible apply Only.foldl
    | with_reducible apply Only.emit
    | with_reducible apply Only.put (has_Clk_REF_LOSS ..)
    | with_reducible apply Only.count (has_clockCounter_2 ..)
    | with_reducible apply Only.step (Dev.applySafeGroup_only ..)
    | with_reducible apply Only.step (Dev.clockEvent_only ..)
    | with_reducible apply Only.step (Dev.engineLost_only ..)
    | with_reducible apply Only.step (Dev.faultRefresh_only ..)
    | with_reducible apply Only.step (Dev.holdFlush_only ..)
    | with_reducible apply Only.step (Dev.portDown_only ..)
    | with_reducible apply Only.step (Dev.setClk_only ..)
    | with_reducible apply Only.step (Dev.setQuality_only ..)
    | with_reducible intro _

theorem refillCompleteOp_only (p : Nat) (c : Nat) (err : Option Nat) (d : Dev) : Only Foot.refillComplete d (refillCompleteOp p c err d) := by
  unfold refillCompleteOp
  repeat' first
    | with_reducible exact Only.refl
    | with_reducible apply Foot.Sub.mk; decide +kernel
    | with_reducible apply Only.ite
    | with_reducible apply Only.step (Dev.dropped_only ..)
    | with_reducible apply Only.step (Dev.event_only ..)
    | with_reducible apply Only.step (Dev.setSw_only ..)
    | with_reducible apply Only.step (Dev.stwMoved_only ..)
    | dsimp only
    | split

theorem refillStartOp_only (p : Nat) (c : Nat) (d : Dev) : Only Foot.refillStart d (refillStartOp p c d) := by
  have h_sw : Part.In .sw Foot.refillStart := ⟨by decide +kernel⟩
  unfold refillStartOp
  repeat' first
    | with_reducible exact Only.refl
    | simp only [Only.set_sw_eq h_sw]
    | split

theorem resetNHighOp_only (env : BootEnv) (d : Dev) : Only Foot.resetNHigh d (resetNHighOp env d) := by
  unfold resetNHighOp
  repeat' first
    | with_reducible exact Only.refl
    | with_reducible apply Foot.Sub.mk; decide +kernel
    | with_reducible apply Only.step (Dev.startUp_only ..)
    | with_reducible apply Only.step (setPhase_only ..)
    | split

theorem resetNLowOp_only (d : Dev) : Only Foot.resetNLow d (resetNLowOp d) := by
  unfold resetNLowOp
  repeat' first
    | with_reducible exact Only.refl
    | with_reducible apply Foot.Sub.mk; decide +kernel
    | with_reducible apply Only.step (Dev.chipReset_only ..)
    | with_reducible apply Only.step (setPhase_only ..)
    | split

theorem restoreDefaultsOp_only (d : Dev) : Only Foot.restoreDefaults d (restoreDefaultsOp d) := by
  unfold restoreDefaultsOp
  repeat' first
    | with_reducible exact Only.refl
    | with_reducible apply Foot.Sub.mk; decide +kernel
    | with_reducible apply Only.executeFront
    | with_reducible apply Only.step (Dev.writeExec_only ..)
    | with_reducible intro _

theorem retainReceiveOp_only (q : Nat) (b : Bytes) (d : Dev) : Only Foot.retainReceive d (retainReceiveOp q b d) := by
  unfold retainReceiveOp
  repeat' first
    | with_reducible exact Only.refl
    | with_reducible apply Foot.Sub.mk; decide +kernel
    | with_reducible apply Only.ite
    | with_reducible apply Only.foldl
    | with_reducible apply Only.step (Dev.applyLines_only ..)
    | with_reducible apply Only.step (Dev.postedBad_only ..)
    | with_reducible apply Only.step (Dev.setTwin_only ..)
    | with_reducible intro _

theorem retainSaveCompleteOp_only (d : Dev) : Only Foot.retainSaveComplete d (retainSaveCompleteOp d) := by
  unfold retainSaveCompleteOp
  repeat' first
    | with_reducible exact Only.refl
    | with_reducible apply Foot.Sub.mk; decide +kernel
    | with_reducible apply Only.ite
    | with_reducible apply Only.put (has_Pwr_PF_STATE ..)
    | with_reducible apply Only.step (Dev.commitEvents_only ..)
    | with_reducible apply Only.step (Dev.retainSaved_only ..)
    | with_reducible apply Only.step (Dev.setSupply_only ..)
    | with_reducible apply Only.step (Dev.stoDurable_only ..)

theorem retentionScrubOp_only (refresh : Bool) (w : NandWork) (d : Dev) : Only Foot.retentionScrub d (retentionScrubOp refresh w d) := by
  unfold retentionScrubOp
  repeat' first
    | with_reducible exact Only.refl
    | with_reducible apply Foot.Sub.mk; decide +kernel
    | with_reducible apply Only.ite
    | with_reducible apply Only.foldl
    | with_reducible apply Only.count (has_stoCounter_5 ..)
    | with_reducible apply Only.step (Dev.nand_only ..)
    | with_reducible apply Only.step (Dev.sectorBad_only ..)
    | with_reducible intro _

theorem retryBudgetResetOp_only (n : Nat) (d : Dev) : Only Foot.retryBudgetReset d (retryBudgetResetOp n d) := by
  unfold retryBudgetResetOp
  repeat' first
    | with_reducible exact Only.refl
    | with_reducible apply Foot.Sub.mk; decide +kernel
    | with_reducible apply Only.ite
    | with_reducible apply Only.step (Dev.refillRetries_only ..)

theorem retryRestartOp_only (n : Nat) (d : Dev) : Only Foot.retryRestart d (retryRestartOp n d) := by
  unfold retryRestartOp
  repeat' first
    | with_reducible exact Only.refl
    | with_reducible apply Foot.Sub.mk; decide +kernel
    | with_reducible apply Only.ite
    | with_reducible apply Only.put (has_Lc_RETRIES_LEFT ..)
    | with_reducible apply Only.step (Dev.enterLoad_only ..)

theorem revertTimeoutOp_only (k : Nat) (d : Dev) : Only Foot.revertTimeout d (revertTimeoutOp k d) := by
  unfold revertTimeoutOp
  repeat' first
    | with_reducible exact Only.refl
    | with_reducible apply Foot.Sub.mk; decide +kernel
    | with_reducible apply Only.ite
    | with_reducible apply Only.step (Dev.switchStart_only ..)

theorem safeStateLineOp_only (g : Nat) (asserted : Bool) (d : Dev) : Only Foot.safeStateLine d (safeStateLineOp g asserted d) := by
  unfold safeStateLineOp
  repeat' first
    | with_reducible exact Only.refl
    | with_reducible apply Foot.Sub.mk; decide +kernel
    | with_reducible apply Only.ite
    | with_reducible apply Only.emit
    | with_reducible apply Only.step (Dev.applySafeGroup_only ..)
    | with_reducible apply Only.step (Dev.setLoad_only ..)

theorem sdoTimeoutOp_only (n : Nat) (d : Dev) : Only Foot.sdoTimeout d (sdoTimeoutOp n d) := by
  unfold sdoTimeoutOp
  repeat' first
    | with_reducible exact Only.refl
    | with_reducible apply Foot.Sub.mk; decide +kernel
    | with_reducible apply Only.ite
    | with_reducible apply Only.step (Dev.sdoAbort_only ..)
    | split

theorem senseStepOp_only (p0 : SensePin) (p1 : SensePin) (p2 : SensePin) (d : Dev) : Only Foot.senseStep d (senseStepOp p0 p1 p2 d) := by
  unfold senseStepOp
  repeat' first
    | with_reducible exact Only.refl
    | with_reducible apply Foot.Sub.mk; decide +kernel
    | with_reducible apply Only.ite
    | with_reducible apply Only.foldl
    | with_reducible apply Only.emit
    | with_reducible apply Only.put (has_Lc_LOSS_MW ..)
    | with_reducible apply Only.step (Dev.draw_only ..)
    | with_reducible apply Only.step (Dev.lossJudged_only ..)
    | with_reducible apply Only.step (Dev.senseAges_only ..)
    | with_reducible apply Only.step (Dev.senseExternal_only ..)
    | with_reducible apply Only.step (Dev.sensePin_only ..)
    | with_reducible apply Only.step (Dev.senseStopped_only ..)
    | with_reducible apply Only.step (Dev.setLoad_only ..)
    | with_reducible intro _

theorem sessionIdleTimeoutOp_only (id : Nat) (d : Dev) : Only Foot.sessionIdleTimeout d (sessionIdleTimeoutOp id d) := by
  unfold sessionIdleTimeoutOp
  repeat' first
    | with_reducible exact Only.refl
    | with_reducible apply Foot.Sub.mk; decide +kernel
    | with_reducible apply Only.ite
    | with_reducible apply Only.step (Dev.closeSession_only ..)

theorem shadowTimeoutOp_only (i : Nat) (d : Dev) : Only Foot.shadowTimeout d (shadowTimeoutOp i d) := by
  unfold shadowTimeoutOp
  repeat' first
    | with_reducible exact Only.refl
    | with_reducible apply Foot.Sub.mk; decide +kernel
    | with_reducible apply Only.ite
    | with_reducible apply Only.step (Dev.setD0_only ..)

theorem shuntCloseOp_only (i : Nat) (d : Dev) : Only Foot.shuntClose d (shuntCloseOp i d) := by
  unfold shuntCloseOp
  repeat' first
    | with_reducible exact Only.refl
    | with_reducible apply Foot.Sub.mk; decide +kernel
    | with_reducible apply Only.ite
    | with_reducible apply Only.step (Dev.setAdc_only ..)

theorem shuntOpenOp_only (i : Nat) (d : Dev) : Only Foot.shuntOpen d (shuntOpenOp i d) := by
  unfold shuntOpenOp
  repeat' first
    | with_reducible exact Only.refl
    | with_reducible apply Foot.Sub.mk; decide +kernel
    | with_reducible apply Only.ite
    | with_reducible apply Only.step (Dev.inputFlags_only ..)
    | with_reducible apply Only.step (Dev.setAdc_only ..)

theorem sleepArmOp_only (d : Dev) : Only Foot.sleepArm d (sleepArmOp d) := by
  unfold sleepArmOp
  repeat' first
    | with_reducible exact Only.refl
    | with_reducible apply Foot.Sub.mk; decide +kernel
    | with_reducible apply Only.ite
    | with_reducible apply Only.put (has_Slp_ENTRY ..)
    | with_reducible apply Only.step (Dev.commitEvents_only ..)
    | with_reducible apply Only.step (Dev.pllsStop_only ..)
    | with_reducible apply Only.step (Dev.setClk_only ..)
    | with_reducible apply Only.step (Dev.setSleep_only ..)
    | with_reducible apply Only.step (Dev.stoDurable_only ..)

end Sys2Proof
end

