-- ==== Sys2Proof/Laws/Frames6.lean ====
section
/-! SUPPORT. What each function on the device may change, part 6 of 6: one lemma per function, in an order in which callees come first. -/

set_option maxRecDepth 4000
set_option Elab.async false

namespace Sys2Proof

open Sys2Proof.Machine



theorem sleepCommitOp_only (d : Dev) : Only Foot.sleepCommit d (sleepCommitOp d) := by
  unfold sleepCommitOp
  repeat' first
    | with_reducible exact Only.refl
    | with_reducible apply Foot.Sub.mk; decide +kernel
    | with_reducible apply Only.ite
    | with_reducible apply Only.emit
    | with_reducible apply Only.put (has_Pwr_VIO_STATUS ..)
    | with_reducible apply Only.putOct (has_Slp_WAKE_RECORD ..)
    | with_reducible apply Only.count (has_sleepCounter_0 ..)
    | with_reducible apply Only.step (Dev.setTime_only ..)
    | with_reducible apply Only.step (setPhase_only ..)

theorem sleepEntryOp_only (d : Dev) : Only Foot.sleepEntry d (sleepEntryOp d) := by
  unfold sleepEntryOp
  repeat' first
    | with_reducible exact Only.refl
    | with_reducible apply Foot.Sub.mk; decide +kernel
    | with_reducible apply Only.foldl
    | with_reducible apply Only.put (has_Slp_ENTRY ..)
    | with_reducible apply Only.step (Dev.loadGroupReset_only ..)
    | with_reducible apply Only.step (Dev.setSleep_only ..)
    | with_reducible apply Only.step (Dev.sleepEvent_only ..)
    | with_reducible apply Only.step (Dev.unitPauses_only ..)
    | with_reducible apply Only.step (Dev.wakesFalse_only ..)
    | with_reducible intro _
    | dsimp only
    | split

theorem sourceStableOp_only (s : Nat) (d : Dev) : Only Foot.sourceStable d (sourceStableOp s d) := by
  unfold sourceStableOp
  repeat' first
    | with_reducible exact Only.refl
    | with_reducible apply Foot.Sub.mk; decide +kernel
    | with_reducible apply Only.ite
    | with_reducible apply Only.foldl
    | with_reducible apply Only.putBit (has_Clk_SRC_STATUS ..)
    | with_reducible apply Only.step (Dev.setClk_only ..)
    | with_reducible apply Only.step (Dev.setDom_only ..)
    | with_reducible intro _

theorem spReadFrameOp_only (whole : Bool) (d : Dev) : Only Foot.spReadFrame d (spReadFrameOp whole d) := by
  unfold spReadFrameOp
  repeat' first
    | with_reducible exact Only.refl
    | with_reducible apply Foot.Sub.mk; decide +kernel
    | with_reducible apply Only.ite
    | with_reducible apply Only.emit
    | with_reducible apply Only.step (Dev.setSp_only ..)
    | dsimp only
    | split

theorem spReadStatusOp_only (d : Dev) : Only Foot.spReadStatus d (spReadStatusOp d) := by
  unfold spReadStatusOp
  repeat' first
    | with_reducible exact Only.refl
    | with_reducible apply Only.answer
    | split

theorem spWriteFrameOp_only (len : Nat) (b : Bytes) (env : WakeEnv) (d : Dev) : Only Foot.spWriteFrame d (spWriteFrameOp len b env d) := by
  unfold spWriteFrameOp
  repeat' first
    | with_reducible exact Only.refl
    | with_reducible apply Foot.Sub.mk; decide +kernel
    | with_reducible apply Only.ite
    | with_reducible apply Only.count (has_powerCounter_5 ..)
    | with_reducible apply Only.step (Dev.setSp_only ..)
    | with_reducible apply Only.step (Dev.spReply_only ..)
    | with_reducible apply Only.step (Dev.submit_only ..)
    | with_reducible apply Only.step (Dev.vestibuleServe_only ..)
    | dsimp only
    | split

theorem sscEndOp_only (d : Dev) : Only Foot.sscEnd d (sscEndOp d) := by
  unfold sscEndOp
  repeat' first
    | with_reducible exact Only.refl
    | with_reducible apply Foot.Sub.mk; decide +kernel
    | with_reducible apply Only.ite
    | with_reducible apply Only.step (Dev.sscEnds_only ..)

theorem standbyChangeReceiveOp_only (word : Nat) (img : Bytes) (d : Dev) : Only Foot.standbyChangeReceive d (standbyChangeReceiveOp word img d) := by
  unfold standbyChangeReceiveOp
  repeat' first
    | with_reducible exact Only.refl
    | with_reducible apply Foot.Sub.mk; decide +kernel
    | with_reducible apply Only.ite
    | with_reducible apply Only.step (Dev.prepareChange_only ..)
    | with_reducible apply Only.step (Dev.sendReady_only ..)
    | split

theorem standbyReadyTimeoutOp_only (d : Dev) : Only Foot.standbyReadyTimeout d (standbyReadyTimeoutOp d) := by
  unfold standbyReadyTimeoutOp
  repeat' first
    | with_reducible exact Only.refl
    | with_reducible apply Foot.Sub.mk; decide +kernel
    | with_reducible apply Only.ite
    | with_reducible apply Only.step (Dev.dropChange_only ..)

theorem stateMessageReceiveOp_only (q : Nat) (kind : Nat) (epoch : Nat) (off : Nat) (last : Bool) (b : Bytes) (d : Dev) : Only Foot.stateMessageReceive d (stateMessageReceiveOp q kind epoch off last b d) := by
  unfold stateMessageReceiveOp
  repeat' first
    | with_reducible exact Only.refl
    | with_reducible apply Foot.Sub.mk; decide +kernel
    | with_reducible apply Only.ite
    | with_reducible apply Only.put (has_Tws_ROLE_EPOCH ..)
    | with_reducible apply Only.step (Dev.abandonTasks_only ..)
    | with_reducible apply Only.step (Dev.attachEnd_only ..)
    | with_reducible apply Only.step (Dev.attachEvent_only ..)
    | with_reducible apply Only.step (Dev.dropChange_only ..)
    | with_reducible apply Only.step (Dev.loadImage_only ..)
    | with_reducible apply Only.step (Dev.postedBad_only ..)
    | with_reducible apply Only.step (Dev.setRole_only ..)
    | with_reducible apply Only.step (Dev.setTwin_only ..)
    | with_reducible apply Only.step (Dev.takeSnapshot_only ..)
    | with_reducible apply Only.step (Dev.twinDone_only ..)
    | dsimp only
    | split

theorem stationFrameReceiveOp_only (src : Nat) (b : Bytes) (d : Dev) : Only Foot.stationFrameReceive d (stationFrameReceiveOp src b d) := by
  unfold stationFrameReceiveOp
  repeat' first
    | with_reducible exact Only.refl
    | with_reducible apply Foot.Sub.mk; decide +kernel
    | with_reducible apply Only.ite
    | with_reducible apply Only.count (has_slotCounter_0 ..)
    | with_reducible apply Only.count (has_slotCounter_1 ..)
    | with_reducible apply Only.count (has_slotCounter_2 ..)
    | with_reducible apply Only.countMk (has_Se_STN_UNKNOWN ..) (has_Se_COUNTER_SAT ..)
    | with_reducible apply Only.step (Dev.setSlot_only ..)
    | with_reducible apply Only.step (Dev.slotBack_only ..)
    | with_reducible apply Only.step (Dev.staleReject_only ..)
    | dsimp only
    | split

theorem storageAppendOp_only (i : Nat) (n : Nat) (w : NandWork) (d : Dev) : Only Foot.storageAppend d (storageAppendOp i n w d) := by
  unfold storageAppendOp
  repeat' first
    | with_reducible exact Only.refl
    | with_reducible apply Foot.Sub.mk; decide +kernel
    | with_reducible apply Only.ite
    | with_reducible apply Only.ite2
    | with_reducible apply Only.put (has_Stlog_LOG_NEXT ..)
    | with_reducible apply Only.step (Dev.logRoom_only ..)
    | with_reducible apply Only.step (Dev.nand_only ..)
    | with_reducible apply Only.step (Dev.stgEnd_only ..)
    | with_reducible apply Only.step (Dev.writeSectors_only ..)
    | dsimp only
    | split

theorem storageCmdCompleteOp_only (h : Nat) (i : Nat) (d : Dev) : Only Foot.storageCmdComplete d (storageCmdCompleteOp h i d) := by
  unfold storageCmdCompleteOp
  repeat' first
    | with_reducible exact Only.refl
    | with_reducible apply Foot.Sub.mk; decide +kernel
    | with_reducible apply Only.ite
    | with_reducible apply Only.ite2
    | with_reducible apply Only.count (has_partCounter_2 ..)
    | with_reducible apply Only.setFld (has_Stg_CODE ..)
    | with_reducible apply Only.step (Dev.hallWrite_only ..)
    | with_reducible apply Only.step (Dev.headPass_only ..)
    | with_reducible apply Only.step (Dev.setCmd_only ..)
    | with_reducible apply Only.step (Dev.staleReject_only ..)
    | with_reducible apply Only.step (Dev.stgIrq_only ..)
    | with_reducible apply Only.step (Dev.stgStop_only ..)
    | dsimp only
    | split

theorem storageDescriptorFetchOp_only (h : Nat) (d : Dev) : Only Foot.storageDescriptorFetch d (storageDescriptorFetchOp h d) := by
  unfold storageDescriptorFetchOp
  repeat' first
    | with_reducible exact Only.refl
    | with_reducible apply Foot.Sub.mk; decide +kernel
    | with_reducible apply Only.ite
    | with_reducible apply Only.step (Dev.setRing_only ..)
    | with_reducible apply Only.step (Dev.stgStop_only ..)
    | dsimp only
    | split

theorem storageFlushOp_only (h : Nat) (i : Nat) (d : Dev) : Only Foot.storageFlush d (storageFlushOp h i d) := by
  unfold storageFlushOp
  repeat' first
    | with_reducible exact Only.refl
    | with_reducible apply Foot.Sub.mk; decide +kernel
    | with_reducible apply Only.step (Dev.stgEnd_only ..)
    | with_reducible apply Only.step (Dev.stoDurable_only ..)
    | split

theorem storageLogReadOp_only (i : Nat) (n : Nat) (w : NandWork) (d : Dev) : Only Foot.storageLogRead d (storageLogReadOp i n w d) := by
  unfold storageLogReadOp
  repeat' first
    | with_reducible exact Only.refl
    | with_reducible apply Foot.Sub.mk; decide +kernel
    | with_reducible apply Only.ite
    | with_reducible apply Only.step (Dev.nand_only ..)
    | with_reducible apply Only.step (Dev.readSectors_only ..)
    | with_reducible apply Only.step (Dev.stgEnd_only ..)
    | split

theorem storageReadOp_only (h : Nat) (i : Nat) (n : Nat) (w : NandWork) (d : Dev) : Only Foot.storageRead d (storageReadOp h i n w d) := by
  unfold storageReadOp
  repeat' first
    | with_reducible exact Only.refl
    | with_reducible apply Foot.Sub.mk; decide +kernel
    | with_reducible apply Only.ite
    | with_reducible apply Only.step (Dev.nand_only ..)
    | with_reducible apply Only.step (Dev.readSectors_only ..)
    | with_reducible apply Only.step (Dev.stgEnd_only ..)
    | split

theorem storageTrimOp_only (h : Nat) (i : Nat) (d : Dev) : Only Foot.storageTrim d (storageTrimOp h i d) := by
  unfold storageTrimOp
  repeat' first
    | with_reducible exact Only.refl
    | with_reducible apply Foot.Sub.mk; decide +kernel
    | with_reducible apply Only.step (Dev.putSectors_only ..)
    | with_reducible apply Only.step (Dev.stgEnd_only ..)
    | split

theorem storageWriteOp_only (h : Nat) (i : Nat) (n : Nat) (w : NandWork) (d : Dev) : Only Foot.storageWrite d (storageWriteOp h i n w d) := by
  unfold storageWriteOp
  repeat' first
    | with_reducible exact Only.refl
    | with_reducible apply Foot.Sub.mk; decide +kernel
    | with_reducible apply Only.ite
    | with_reducible apply Only.step (Dev.nand_only ..)
    | with_reducible apply Only.step (Dev.stgEnd_only ..)
    | with_reducible apply Only.step (Dev.writeAtomic_only ..)
    | with_reducible apply Only.step (Dev.writeSectors_only ..)
    | dsimp only
    | split

theorem storeCommitOp_only (d : Dev) : Only Foot.storeCommit d (storeCommitOp d) := by
  unfold storeCommitOp
  repeat' first
    | with_reducible exact Only.refl
    | with_reducible apply Foot.Sub.mk; decide +kernel
    | with_reducible apply Only.step (Dev.serveResume_only ..)
    | with_reducible apply Only.step (Dev.storeCommit_only ..)

theorem storeParametersOp_only (d : Dev) : Only Foot.storeParameters d (storeParametersOp d) := by
  unfold storeParametersOp
  repeat' first
    | with_reducible exact Only.refl
    | with_reducible apply Foot.Sub.mk; decide +kernel
    | with_reducible apply Only.executeFront
    | with_reducible apply Only.step (Dev.writeExec_only ..)
    | with_reducible intro _

theorem streamsReceiveOp_only (q : Nat) (b : Bytes) (d : Dev) : Only Foot.streamsReceive d (streamsReceiveOp q b d) := by
  unfold streamsReceiveOp
  repeat' first
    | with_reducible exact Only.refl
    | with_reducible apply Foot.Sub.mk; decide +kernel
    | with_reducible apply Only.ite
    | with_reducible apply Only.step (Dev.postedBad_only ..)
    | with_reducible apply Only.step (Dev.takeStreams_only ..)

theorem stwWriteCompleteOp_only (p : Nat) (c : Nat) (d : Dev) : Only Foot.stwWriteComplete d (stwWriteCompleteOp p c d) := by
  unfold stwWriteCompleteOp
  repeat' first
    | with_reducible exact Only.refl
    | with_reducible apply Foot.Sub.mk; decide +kernel
    | with_reducible apply Only.step (Dev.setSw_only ..)
    | with_reducible apply Only.step (Dev.stwMoved_only ..)
    | dsimp only
    | split

theorem swdtExpiredOp_only (env : BootEnv) (d : Dev) : Only Foot.swdtExpired d (swdtExpiredOp env d) := by
  unfold swdtExpiredOp
  repeat' first
    | with_reducible exact Only.refl
    | with_reducible apply Foot.Sub.mk; decide +kernel
    | with_reducible apply Only.ite
    | with_reducible apply Only.step (Dev.chipRestart_only ..)

theorem swdtHalfPeriodOp_only (d : Dev) : Only Foot.swdtHalfPeriod d (swdtHalfPeriodOp d) := by
  unfold swdtHalfPeriodOp
  repeat' first
    | with_reducible exact Only.refl
    | with_reducible apply Foot.Sub.mk; decide +kernel
    | with_reducible apply Only.ite
    | with_reducible apply Only.step (Dev.raiseM0_only ..)

theorem syncTimeoutOp_only (d : Dev) : Only Foot.syncTimeout d (syncTimeoutOp d) := by
  unfold syncTimeoutOp
  repeat' first
    | with_reducible exact Only.refl
    | with_reducible apply Foot.Sub.mk; decide +kernel
    | with_reducible apply Only.ite
    | with_reducible apply Only.step (Dev.setQuality_only ..)

theorem systemBusAccessOp_only (addr : Nat) (size : Nat) (write : Option Nat) (d : Dev) : Only Foot.systemBusAccess d (systemBusAccessOp addr size write d) := by
  unfold systemBusAccessOp
  repeat' first
    | with_reducible exact Only.refl
    | with_reducible apply Foot.Sub.mk; decide +kernel
    | with_reducible apply Only.ite
    | with_reducible apply Only.emit
    | with_reducible apply Only.step (Dev.access_only ..)

theorem thermalShutdownOp_only (m : Nat) (tj : Int) (delta : Nat) (d : Dev) : Only Foot.thermalShutdown d (thermalShutdownOp m tj delta d) := by
  unfold thermalShutdownOp
  repeat' first
    | with_reducible exact Only.refl
    | with_reducible apply Foot.Sub.mk; decide +kernel
    | with_reducible apply Only.ite
    | with_reducible apply Only.putInt (has_Lc_TJ_C ..)
    | with_reducible apply Only.put (has_Lcg_DELTA_T_K ..)
    | with_reducible apply Only.count (has_loadCounter_0 ..)
    | with_reducible apply Only.count (has_loadCounter_1 ..)
    | with_reducible apply Only.step (Dev.enterLoad_only ..)
    | with_reducible apply Only.step (Dev.latchLoad_only ..)
    | with_reducible apply Only.step (Dev.loadEventRing_only ..)
    | dsimp only
    | split

theorem timeRateChangeOp_only (d : Dev) : Only Foot.timeRateChange d (timeRateChangeOp d) := by
  unfold timeRateChangeOp
  repeat' first
    | with_reducible exact Only.refl
    | with_reducible apply Foot.Sub.mk; decide +kernel
    | with_reducible apply Only.step (Dev.adjustTick_only ..)

theorem timeStepOp_only (d : Dev) : Only Foot.timeStep d (timeStepOp d) := by
  unfold timeStepOp
  repeat' first
    | with_reducible exact Only.refl
    | with_reducible apply Foot.Sub.mk; decide +kernel
    | with_reducible apply Only.step (Dev.adjustTick_only ..)

theorem tpdoEventTimerOp_only (k : Nat) (d : Dev) : Only Foot.tpdoEventTimer d (tpdoEventTimerOp k d) := by
  unfold tpdoEventTimerOp
  repeat' first
    | with_reducible exact Only.refl
    | with_reducible apply Foot.Sub.mk; decide +kernel
    | with_reducible apply Only.ite
    | with_reducible apply Only.count (has_slotCounter_3 ..)
    | with_reducible apply Only.count (has_slotCounter_4 ..)
    | with_reducible apply Only.step (Dev.tpdoSend_only ..)

theorem trigEdgeCaptureOp_only (n : Nat) (rising : Bool) (phase : Nat) (d : Dev) : Only Foot.trigEdgeCapture d (trigEdgeCaptureOp n rising phase d) := by
  unfold trigEdgeCaptureOp
  repeat' first
    | with_reducible exact Only.refl
    | with_reducible apply Foot.Sub.mk; decide +kernel
    | with_reducible apply Only.ite
    | with_reducible apply Only.count (has_captureLost ..)
    | with_reducible apply Only.setFld (has_Tb_OVF ..)
    | with_reducible apply Only.step (Dev.setTime_only ..)

theorem triggerFireOp_only (u : Nat) (d : Dev) : Only Foot.triggerFire d (triggerFireOp u d) := by
  unfold triggerFireOp
  repeat' first
    | with_reducible exact Only.refl
    | with_reducible apply Foot.Sub.mk; decide +kernel
    | with_reducible apply Only.step (Dev.fireUnit_only ..)

theorem triggerPulseEndOp_only (n : Nat) (d : Dev) : Only Foot.triggerPulseEnd d (triggerPulseEndOp n d) := by
  unfold triggerPulseEndOp
  repeat' first
    | with_reducible exact Only.refl
    | with_reducible apply Foot.Sub.mk; decide +kernel
    | with_reducible apply Only.ite
    | with_reducible apply Only.step (Dev.pinOut_only ..)
    | with_reducible apply Only.step (Dev.setTime_only ..)

theorem trimStepOp_only (up : Bool) (d : Dev) : Only Foot.trimStep d (trimStepOp up d) := by
  unfold trimStepOp
  repeat' first
    | with_reducible exact Only.refl
    | with_reducible apply Foot.Sub.mk; decide +kernel
    | with_reducible apply Only.ite
    | with_reducible apply Only.put (has_Pace_RAIL_MV ..)
    | with_reducible apply Only.step (Dev.setSupply_only ..)

theorem tunnelPduReceiveOp_only (u : Nat) (b : Bytes) (d : Dev) : Only Foot.tunnelPduReceive d (tunnelPduReceiveOp u b d) := by
  unfold tunnelPduReceiveOp
  repeat' first
    | with_reducible exact Only.refl
    | with_reducible apply Foot.Sub.mk; decide +kernel
    | with_reducible apply Only.ite
    | with_reducible apply Only.foldl
    | with_reducible apply Only.count (has_tunCounter_1 ..)
    | with_reducible apply Only.count (has_tunCounter_2 ..)
    | with_reducible apply Only.step (Dev.event_only ..)
    | with_reducible apply Only.limited
    | with_reducible apply Only.step (Dev.setCan_only ..)
    | with_reducible intro _

theorem tunnelPduSendOp_only (t : Nat) (d : Dev) : Only Foot.tunnelPduSend d (tunnelPduSendOp t d) := by
  unfold tunnelPduSendOp
  repeat' first
    | with_reducible exact Only.refl
    | with_reducible apply Foot.Sub.mk; decide +kernel
    | with_reducible apply Only.ite
    | with_reducible apply Only.count (has_tunCounter_0 ..)
    | with_reducible apply Only.step (Dev.setTunnel_only ..)
    | with_reducible apply Only.step (Dev.unitFrame_only ..)

theorem twinAliveEdgeOp_only (d : Dev) : Only Foot.twinAliveEdge d (twinAliveEdgeOp d) := by
  unfold twinAliveEdgeOp
  repeat' first
    | with_reducible exact Only.refl
    | with_reducible apply Foot.Sub.mk; decide +kernel
    | with_reducible apply Only.ite
    | with_reducible apply Only.step (Dev.pathBack_only ..)
    | with_reducible apply Only.step (Dev.setPath_only ..)
    | with_reducible apply Only.step (Dev.setTwin_only ..)

theorem twinAliveLostOp_only (d : Dev) : Only Foot.twinAliveLost d (twinAliveLostOp d) := by
  unfold twinAliveLostOp
  repeat' first
    | with_reducible exact Only.refl
    | with_reducible apply Foot.Sub.mk; decide +kernel
    | with_reducible apply Only.ite
    | with_reducible apply Only.step (Dev.bothAbsent_only ..)
    | with_reducible apply Only.step (Dev.setPath_only ..)
    | with_reducible apply Only.step (Dev.wiringFault_only ..)

theorem twinAliveToggleOp_only (d : Dev) : Only Foot.twinAliveToggle d (twinAliveToggleOp d) := by
  unfold twinAliveToggleOp
  repeat' first
    | with_reducible exact Only.refl
    | with_reducible apply Foot.Sub.mk; decide +kernel
    | with_reducible apply Only.ite
    | with_reducible apply Only.emit
    | with_reducible apply Only.step (Dev.setTwin_only ..)

theorem twinFltHighOp_only (d : Dev) : Only Foot.twinFltHigh d (twinFltHighOp d) := by
  unfold twinFltHighOp
  repeat' first
    | with_reducible exact Only.refl
    | with_reducible apply Foot.Sub.mk; decide +kernel
    | with_reducible apply Only.ite
    | with_reducible apply Only.step (Dev.setPath_only ..)
    | with_reducible apply Only.step (Dev.setTwin_only ..)

theorem twinFltLowOp_only (d : Dev) : Only Foot.twinFltLow d (twinFltLowOp d) := by
  unfold twinFltLowOp
  repeat' first
    | with_reducible exact Only.refl
    | with_reducible apply Foot.Sub.mk; decide +kernel
    | with_reducible apply Only.ite
    | with_reducible apply Only.step (Dev.attachEnd_only ..)
    | with_reducible apply Only.step (Dev.setPath_only ..)
    | with_reducible apply Only.step (Dev.setTwin_only ..)
    | with_reducible apply Only.step (Dev.toSolo_only ..)

theorem txSelectOp_only (p : Nat) (d : Dev) : Only Foot.txSelect d (txSelectOp p d) := by
  unfold txSelectOp
  repeat' first
    | with_reducible exact Only.refl
    | with_reducible apply Foot.Sub.mk; decide +kernel
    | with_reducible apply Only.ite
    | with_reducible apply Only.step (Dev.selectTx_only ..)

theorem vauxOnOp_only (env : BootEnv) (d : Dev) : Only Foot.vauxOn d (vauxOnOp env d) := by
  unfold vauxOnOp
  repeat' first
    | with_reducible exact Only.refl
    | with_reducible apply Foot.Sub.mk; decide +kernel
    | with_reducible apply Only.ite
    | with_reducible apply Only.step (Dev.startUp_only ..)

theorem vauxPorOp_only (d : Dev) : Only Foot.vauxPor d (vauxPorOp d) := by
  unfold vauxPorOp
  repeat' first
    | with_reducible exact Only.refl
    | with_reducible apply Foot.Sub.mk; decide +kernel
    | with_reducible apply Only.ite
    | with_reducible apply Only.step (Dev.supplyLost_only ..)

theorem vbatRecoverOp_only (g : Nat) (mv : Nat) (d : Dev) : Only Foot.vbatRecover d (vbatRecoverOp g mv d) := by
  unfold vbatRecoverOp
  repeat' first
    | with_reducible exact Only.refl
    | with_reducible apply Foot.Sub.mk; decide +kernel
    | with_reducible apply Only.ite
    | with_reducible apply Only.foldl
    | with_reducible apply Only.put (has_Lcg_VBAT_MV ..)
    | with_reducible apply Only.step (Dev.setLoad_only ..)
    | with_reducible apply Only.step (Dev.setLoadCh_only ..)
    | with_reducible apply Only.step (Dev.setLoadFlag_only ..)
    | with_reducible apply Only.step (Dev.startInrush_only ..)
    | with_reducible intro _

theorem vbatUndervoltageOp_only (g : Nat) (mv : Nat) (d : Dev) : Only Foot.vbatUndervoltage d (vbatUndervoltageOp g mv d) := by
  unfold vbatUndervoltageOp
  repeat' first
    | with_reducible exact Only.refl
    | with_reducible apply Foot.Sub.mk; decide +kernel
    | with_reducible apply Only.ite
    | with_reducible apply Only.foldl
    | with_reducible apply Only.put (has_Lcg_VBAT_MV ..)
    | with_reducible apply Only.step (Dev.loadEvent_only ..)
    | with_reducible apply Only.step (Dev.setLoad_only ..)
    | with_reducible apply Only.step (Dev.setLoadFlag_only ..)
    | with_reducible intro _

theorem waitTimeoutOp_only (k : Nat) (d : Dev) : Only Foot.waitTimeout d (waitTimeoutOp k d) := by
  unfold waitTimeoutOp
  repeat' first
    | with_reducible exact Only.refl
    | with_reducible apply Foot.Sub.mk; decide +kernel
    | with_reducible apply Only.ite
    | with_reducible apply Only.step (Dev.enterDomain_only ..)

theorem wakeFrameOp_only (n : Nat) (rate : Nat) (f : Option CanFrame) (env : WakeEnv) (d : Dev) : Only Foot.wakeFrame d (wakeFrameOp n rate f env d) := by
  unfold wakeFrameOp
  repeat' first
    | with_reducible exact Only.refl
    | with_reducible apply Foot.Sub.mk; decide +kernel
    | with_reducible apply Only.ite
    | with_reducible apply Only.step (Dev.setSleep_only ..)
    | with_reducible apply Only.step (Dev.woken_only ..)
    | dsimp only
    | split

theorem wakePatternOp_only (n : Nat) (env : WakeEnv) (d : Dev) : Only Foot.wakePattern d (wakePatternOp n env d) := by
  unfold wakePatternOp
  repeat' first
    | with_reducible exact Only.refl
    | with_reducible apply Foot.Sub.mk; decide +kernel
    | with_reducible apply Only.ite
    | with_reducible apply Only.setFld (has_Slpr_WAKE ..)
    | with_reducible apply Only.step (Dev.refreshEntry_only ..)
    | with_reducible apply Only.step (Dev.setTrx_only ..)
    | with_reducible apply Only.step (Dev.woken_only ..)

theorem wakePinOp_only (w : Nat) (high : Bool) (env : WakeEnv) (d : Dev) : Only Foot.wakePin d (wakePinOp w high env d) := by
  unfold wakePinOp
  repeat' first
    | with_reducible exact Only.refl
    | with_reducible apply Foot.Sub.mk; decide +kernel
    | with_reducible apply Only.ite
    | with_reducible apply Only.step (Dev.woken_only ..)

theorem watchWakeOp_only (i : Nat) (env : WakeEnv) (d : Dev) : Only Foot.watchWake d (watchWakeOp i env d) := by
  unfold watchWakeOp
  repeat' first
    | with_reducible exact Only.refl
    | with_reducible apply Foot.Sub.mk; decide +kernel
    | with_reducible apply Only.ite
    | with_reducible apply Only.foldl
    | with_reducible apply Only.step (Dev.entryAborts_only ..)
    | with_reducible apply Only.step (Dev.gateUp_only ..)
    | with_reducible apply Only.step (Dev.woken_only ..)
    | with_reducible intro _
    | dsimp only
    | split

theorem wfiEnterOp_only (k : Nat) (d : Dev) : Only Foot.wfiEnter d (wfiEnterOp k d) := by
  have h_held : Part.In .held Foot.wfiEnter := ⟨by decide +kernel⟩
  unfold wfiEnterOp
  repeat' first
    | with_reducible exact Only.refl
    | with_reducible apply Foot.Sub.mk; decide +kernel
    | with_reducible apply Only.setFld (has_pgWfi ..)
    | with_reducible apply Only.step (Dev.evalLine_only ..)
    | simp only [Only.set_held_eq h_held]

theorem xtxdisReleaseOp_only (p : Nat) (d : Dev) : Only Foot.xtxdisRelease d (xtxdisReleaseOp p d) := by
  unfold xtxdisReleaseOp
  repeat' first
    | with_reducible exact Only.refl
    | with_reducible apply Foot.Sub.mk; decide +kernel
    | with_reducible apply Only.ite
    | with_reducible apply Only.step (Dev.driveXtxdis_only ..)
    | with_reducible apply Only.step (Dev.setLink_only ..)

end Sys2Proof
end

