-- ==== Sys2Proof/Laws/Units.lean ====
section
/-! SUPPORT. One lemma per field of the device, and per read, per unit update: an update of one unit's part leaves the others alone. -/

namespace Sys2Proof.Machine

@[simp] theorem Dev.setD0_d0 (d : Dev) (f : DictUnit → DictUnit) : (d.setD0 f).d0 = f d.d0 := rfl
@[simp] theorem Dev.setD0_dict (d : Dev) (f : DictUnit → DictUnit) : (d.setD0 f).dict = d.dict := rfl
@[simp] theorem Dev.setD0_blobs (d : Dev) (f : DictUnit → DictUnit) : (d.setD0 f).blobs = d.blobs := rfl
@[simp] theorem Dev.setD0_regs (d : Dev) (f : DictUnit → DictUnit) : (d.setD0 f).regs = d.regs := rfl
@[simp] theorem Dev.setD0_mem (d : Dev) (f : DictUnit → DictUnit) : (d.setD0 f).mem = d.mem := rfl
@[simp] theorem Dev.setD0_epochs (d : Dev) (f : DictUnit → DictUnit) : (d.setD0 f).epochs = d.epochs := rfl
@[simp] theorem Dev.setD0_free (d : Dev) (f : DictUnit → DictUnit) : (d.setD0 f).free = d.free := rfl
@[simp] theorem Dev.setD0_out (d : Dev) (f : DictUnit → DictUnit) : (d.setD0 f).out = d.out := rfl
@[simp] theorem Dev.setD0_logs (d : Dev) (f : DictUnit → DictUnit) : (d.setD0 f).logs = d.logs := rfl
@[simp] theorem Dev.setD0_limits (d : Dev) (f : DictUnit → DictUnit) : (d.setD0 f).limits = d.limits := rfl
@[simp] theorem Dev.setD0_ctrLatch (d : Dev) (f : DictUnit → DictUnit) : (d.setD0 f).ctrLatch = d.ctrLatch := rfl
@[simp] theorem Dev.setD0_ctrStage (d : Dev) (f : DictUnit → DictUnit) : (d.setD0 f).ctrStage = d.ctrStage := rfl
@[simp] theorem Dev.setD0_drains (d : Dev) (f : DictUnit → DictUnit) : (d.setD0 f).drains = d.drains := rfl
@[simp] theorem Dev.setD0_supply (d : Dev) (f : DictUnit → DictUnit) : (d.setD0 f).supply = d.supply := rfl
@[simp] theorem Dev.setD0_time (d : Dev) (f : DictUnit → DictUnit) : (d.setD0 f).time = d.time := rfl
@[simp] theorem Dev.setD0_sw (d : Dev) (f : DictUnit → DictUnit) : (d.setD0 f).sw = d.sw := rfl
@[simp] theorem Dev.setD0_can (d : Dev) (f : DictUnit → DictUnit) : (d.setD0 f).can = d.can := rfl
@[simp] theorem Dev.setD0_sleep (d : Dev) (f : DictUnit → DictUnit) : (d.setD0 f).sleep = d.sleep := rfl
@[simp] theorem Dev.setD0_power (d : Dev) (f : DictUnit → DictUnit) : (d.setD0 f).power = d.power := rfl
@[simp] theorem Dev.setD0_br (d : Dev) (f : DictUnit → DictUnit) : (d.setD0 f).br = d.br := rfl
@[simp] theorem Dev.setD0_load (d : Dev) (f : DictUnit → DictUnit) : (d.setD0 f).load = d.load := rfl
@[simp] theorem Dev.setD0_adc (d : Dev) (f : DictUnit → DictUnit) : (d.setD0 f).adc = d.adc := rfl
@[simp] theorem Dev.setD0_scan (d : Dev) (f : DictUnit → DictUnit) : (d.setD0 f).scan = d.scan := rfl
@[simp] theorem Dev.setD0_dma (d : Dev) (f : DictUnit → DictUnit) : (d.setD0 f).dma = d.dma := rfl
@[simp] theorem Dev.setD0_tenants (d : Dev) (f : DictUnit → DictUnit) : (d.setD0 f).tenants = d.tenants := rfl
@[simp] theorem Dev.setD0_mezz (d : Dev) (f : DictUnit → DictUnit) : (d.setD0 f).mezz = d.mezz := rfl
@[simp] theorem Dev.setD0_clk (d : Dev) (f : DictUnit → DictUnit) : (d.setD0 f).clk = d.clk := rfl
@[simp] theorem Dev.setD0_sto (d : Dev) (f : DictUnit → DictUnit) : (d.setD0 f).sto = d.sto := rfl
@[simp] theorem Dev.setD0_upd (d : Dev) (f : DictUnit → DictUnit) : (d.setD0 f).upd = d.upd := rfl
@[simp] theorem Dev.setD0_held (d : Dev) (f : DictUnit → DictUnit) : (d.setD0 f).held = d.held := rfl
@[simp] theorem Dev.setD0_harts (d : Dev) (f : DictUnit → DictUnit) : (d.setD0 f).harts = d.harts := rfl
@[simp] theorem Dev.setD0_twin (d : Dev) (f : DictUnit → DictUnit) : (d.setD0 f).twin = d.twin := rfl
@[simp] theorem Dev.setD0_board (d : Dev) (f : DictUnit → DictUnit) : (d.setD0 f).board = d.board := rfl
@[simp] theorem Dev.get_setD0 (d : Dev) (f : DictUnit → DictUnit) (y : Entry) : (d.setD0 f).get y = d.get y := rfl
@[simp] theorem Dev.getInt_setD0 (d : Dev) (f : DictUnit → DictUnit) (y : Entry) : (d.setD0 f).getInt y = d.getInt y := rfl
@[simp] theorem Dev.flag_setD0 (d : Dev) (f : DictUnit → DictUnit) (y : Entry) : (d.setD0 f).flag y = d.flag y := rfl
@[simp] theorem Dev.oct_setD0 (d : Dev) (f : DictUnit → DictUnit) (y : Entry) : (d.setD0 f).oct y = d.oct y := rfl
@[simp] theorem Dev.word_setD0 (d : Dev) (f : DictUnit → DictUnit) (y z : Nat) : (d.setD0 f).word y z = d.word y z := rfl
@[simp] theorem Dev.fld_setD0 (d : Dev) (f : DictUnit → DictUnit) (y : Field) : (d.setD0 f).fld y = d.fld y := rfl
@[simp] theorem Dev.isSet_setD0 (d : Dev) (f : DictUnit → DictUnit) (y : Field) : (d.setD0 f).isSet y = d.isSet y := rfl
@[simp] theorem Dev.byte_setD0 (d : Dev) (f : DictUnit → DictUnit) (y : Nat) : (d.setD0 f).byte y = d.byte y := rfl
@[simp] theorem Dev.epoch_setD0 (d : Dev) (f : DictUnit → DictUnit) (y : EpochUnit) : (d.setD0 f).epoch y = d.epoch y := rfl

@[simp] theorem Dev.setClk_clk (d : Dev) (f : ClockSt → ClockSt) : (d.setClk f).clk = f d.clk := rfl
@[simp] theorem Dev.setClk_dict (d : Dev) (f : ClockSt → ClockSt) : (d.setClk f).dict = d.dict := rfl
@[simp] theorem Dev.setClk_blobs (d : Dev) (f : ClockSt → ClockSt) : (d.setClk f).blobs = d.blobs := rfl
@[simp] theorem Dev.setClk_regs (d : Dev) (f : ClockSt → ClockSt) : (d.setClk f).regs = d.regs := rfl
@[simp] theorem Dev.setClk_mem (d : Dev) (f : ClockSt → ClockSt) : (d.setClk f).mem = d.mem := rfl
@[simp] theorem Dev.setClk_epochs (d : Dev) (f : ClockSt → ClockSt) : (d.setClk f).epochs = d.epochs := rfl
@[simp] theorem Dev.setClk_free (d : Dev) (f : ClockSt → ClockSt) : (d.setClk f).free = d.free := rfl
@[simp] theorem Dev.setClk_out (d : Dev) (f : ClockSt → ClockSt) : (d.setClk f).out = d.out := rfl
@[simp] theorem Dev.setClk_logs (d : Dev) (f : ClockSt → ClockSt) : (d.setClk f).logs = d.logs := rfl
@[simp] theorem Dev.setClk_limits (d : Dev) (f : ClockSt → ClockSt) : (d.setClk f).limits = d.limits := rfl
@[simp] theorem Dev.setClk_ctrLatch (d : Dev) (f : ClockSt → ClockSt) : (d.setClk f).ctrLatch = d.ctrLatch := rfl
@[simp] theorem Dev.setClk_ctrStage (d : Dev) (f : ClockSt → ClockSt) : (d.setClk f).ctrStage = d.ctrStage := rfl
@[simp] theorem Dev.setClk_drains (d : Dev) (f : ClockSt → ClockSt) : (d.setClk f).drains = d.drains := rfl
@[simp] theorem Dev.setClk_supply (d : Dev) (f : ClockSt → ClockSt) : (d.setClk f).supply = d.supply := rfl
@[simp] theorem Dev.setClk_time (d : Dev) (f : ClockSt → ClockSt) : (d.setClk f).time = d.time := rfl
@[simp] theorem Dev.setClk_d0 (d : Dev) (f : ClockSt → ClockSt) : (d.setClk f).d0 = d.d0 := rfl
@[simp] theorem Dev.setClk_sw (d : Dev) (f : ClockSt → ClockSt) : (d.setClk f).sw = d.sw := rfl
@[simp] theorem Dev.setClk_can (d : Dev) (f : ClockSt → ClockSt) : (d.setClk f).can = d.can := rfl
@[simp] theorem Dev.setClk_sleep (d : Dev) (f : ClockSt → ClockSt) : (d.setClk f).sleep = d.sleep := rfl
@[simp] theorem Dev.setClk_power (d : Dev) (f : ClockSt → ClockSt) : (d.setClk f).power = d.power := rfl
@[simp] theorem Dev.setClk_br (d : Dev) (f : ClockSt → ClockSt) : (d.setClk f).br = d.br := rfl
@[simp] theorem Dev.setClk_load (d : Dev) (f : ClockSt → ClockSt) : (d.setClk f).load = d.load := rfl
@[simp] theorem Dev.setClk_adc (d : Dev) (f : ClockSt → ClockSt) : (d.setClk f).adc = d.adc := rfl
@[simp] theorem Dev.setClk_scan (d : Dev) (f : ClockSt → ClockSt) : (d.setClk f).scan = d.scan := rfl
@[simp] theorem Dev.setClk_dma (d : Dev) (f : ClockSt → ClockSt) : (d.setClk f).dma = d.dma := rfl
@[simp] theorem Dev.setClk_tenants (d : Dev) (f : ClockSt → ClockSt) : (d.setClk f).tenants = d.tenants := rfl
@[simp] theorem Dev.setClk_mezz (d : Dev) (f : ClockSt → ClockSt) : (d.setClk f).mezz = d.mezz := rfl
@[simp] theorem Dev.setClk_sto (d : Dev) (f : ClockSt → ClockSt) : (d.setClk f).sto = d.sto := rfl
@[simp] theorem Dev.setClk_upd (d : Dev) (f : ClockSt → ClockSt) : (d.setClk f).upd = d.upd := rfl
@[simp] theorem Dev.setClk_held (d : Dev) (f : ClockSt → ClockSt) : (d.setClk f).held = d.held := rfl
@[simp] theorem Dev.setClk_harts (d : Dev) (f : ClockSt → ClockSt) : (d.setClk f).harts = d.harts := rfl
@[simp] theorem Dev.setClk_twin (d : Dev) (f : ClockSt → ClockSt) : (d.setClk f).twin = d.twin := rfl
@[simp] theorem Dev.setClk_board (d : Dev) (f : ClockSt → ClockSt) : (d.setClk f).board = d.board := rfl
@[simp] theorem Dev.get_setClk (d : Dev) (f : ClockSt → ClockSt) (y : Entry) : (d.setClk f).get y = d.get y := rfl
@[simp] theorem Dev.getInt_setClk (d : Dev) (f : ClockSt → ClockSt) (y : Entry) : (d.setClk f).getInt y = d.getInt y := rfl
@[simp] theorem Dev.flag_setClk (d : Dev) (f : ClockSt → ClockSt) (y : Entry) : (d.setClk f).flag y = d.flag y := rfl
@[simp] theorem Dev.oct_setClk (d : Dev) (f : ClockSt → ClockSt) (y : Entry) : (d.setClk f).oct y = d.oct y := rfl
@[simp] theorem Dev.word_setClk (d : Dev) (f : ClockSt → ClockSt) (y z : Nat) : (d.setClk f).word y z = d.word y z := rfl
@[simp] theorem Dev.fld_setClk (d : Dev) (f : ClockSt → ClockSt) (y : Field) : (d.setClk f).fld y = d.fld y := rfl
@[simp] theorem Dev.isSet_setClk (d : Dev) (f : ClockSt → ClockSt) (y : Field) : (d.setClk f).isSet y = d.isSet y := rfl
@[simp] theorem Dev.byte_setClk (d : Dev) (f : ClockSt → ClockSt) (y : Nat) : (d.setClk f).byte y = d.byte y := rfl
@[simp] theorem Dev.epoch_setClk (d : Dev) (f : ClockSt → ClockSt) (y : EpochUnit) : (d.setClk f).epoch y = d.epoch y := rfl

@[simp] theorem Dev.setDma_dma (d : Dev) (f : MemSt → MemSt) : (d.setDma f).dma = f d.dma := rfl
@[simp] theorem Dev.setDma_dict (d : Dev) (f : MemSt → MemSt) : (d.setDma f).dict = d.dict := rfl
@[simp] theorem Dev.setDma_blobs (d : Dev) (f : MemSt → MemSt) : (d.setDma f).blobs = d.blobs := rfl
@[simp] theorem Dev.setDma_regs (d : Dev) (f : MemSt → MemSt) : (d.setDma f).regs = d.regs := rfl
@[simp] theorem Dev.setDma_mem (d : Dev) (f : MemSt → MemSt) : (d.setDma f).mem = d.mem := rfl
@[simp] theorem Dev.setDma_epochs (d : Dev) (f : MemSt → MemSt) : (d.setDma f).epochs = d.epochs := rfl
@[simp] theorem Dev.setDma_free (d : Dev) (f : MemSt → MemSt) : (d.setDma f).free = d.free := rfl
@[simp] theorem Dev.setDma_out (d : Dev) (f : MemSt → MemSt) : (d.setDma f).out = d.out := rfl
@[simp] theorem Dev.setDma_logs (d : Dev) (f : MemSt → MemSt) : (d.setDma f).logs = d.logs := rfl
@[simp] theorem Dev.setDma_limits (d : Dev) (f : MemSt → MemSt) : (d.setDma f).limits = d.limits := rfl
@[simp] theorem Dev.setDma_ctrLatch (d : Dev) (f : MemSt → MemSt) : (d.setDma f).ctrLatch = d.ctrLatch := rfl
@[simp] theorem Dev.setDma_ctrStage (d : Dev) (f : MemSt → MemSt) : (d.setDma f).ctrStage = d.ctrStage := rfl
@[simp] theorem Dev.setDma_drains (d : Dev) (f : MemSt → MemSt) : (d.setDma f).drains = d.drains := rfl
@[simp] theorem Dev.setDma_supply (d : Dev) (f : MemSt → MemSt) : (d.setDma f).supply = d.supply := rfl
@[simp] theorem Dev.setDma_time (d : Dev) (f : MemSt → MemSt) : (d.setDma f).time = d.time := rfl
@[simp] theorem Dev.setDma_d0 (d : Dev) (f : MemSt → MemSt) : (d.setDma f).d0 = d.d0 := rfl
@[simp] theorem Dev.setDma_sw (d : Dev) (f : MemSt → MemSt) : (d.setDma f).sw = d.sw := rfl
@[simp] theorem Dev.setDma_can (d : Dev) (f : MemSt → MemSt) : (d.setDma f).can = d.can := rfl
@[simp] theorem Dev.setDma_sleep (d : Dev) (f : MemSt → MemSt) : (d.setDma f).sleep = d.sleep := rfl
@[simp] theorem Dev.setDma_power (d : Dev) (f : MemSt → MemSt) : (d.setDma f).power = d.power := rfl
@[simp] theorem Dev.setDma_br (d : Dev) (f : MemSt → MemSt) : (d.setDma f).br = d.br := rfl
@[simp] theorem Dev.setDma_load (d : Dev) (f : MemSt → MemSt) : (d.setDma f).load = d.load := rfl
@[simp] theorem Dev.setDma_adc (d : Dev) (f : MemSt → MemSt) : (d.setDma f).adc = d.adc := rfl
@[simp] theorem Dev.setDma_scan (d : Dev) (f : MemSt → MemSt) : (d.setDma f).scan = d.scan := rfl
@[simp] theorem Dev.setDma_tenants (d : Dev) (f : MemSt → MemSt) : (d.setDma f).tenants = d.tenants := rfl
@[simp] theorem Dev.setDma_mezz (d : Dev) (f : MemSt → MemSt) : (d.setDma f).mezz = d.mezz := rfl
@[simp] theorem Dev.setDma_clk (d : Dev) (f : MemSt → MemSt) : (d.setDma f).clk = d.clk := rfl
@[simp] theorem Dev.setDma_sto (d : Dev) (f : MemSt → MemSt) : (d.setDma f).sto = d.sto := rfl
@[simp] theorem Dev.setDma_upd (d : Dev) (f : MemSt → MemSt) : (d.setDma f).upd = d.upd := rfl
@[simp] theorem Dev.setDma_held (d : Dev) (f : MemSt → MemSt) : (d.setDma f).held = d.held := rfl
@[simp] theorem Dev.setDma_harts (d : Dev) (f : MemSt → MemSt) : (d.setDma f).harts = d.harts := rfl
@[simp] theorem Dev.setDma_twin (d : Dev) (f : MemSt → MemSt) : (d.setDma f).twin = d.twin := rfl
@[simp] theorem Dev.setDma_board (d : Dev) (f : MemSt → MemSt) : (d.setDma f).board = d.board := rfl
@[simp] theorem Dev.get_setDma (d : Dev) (f : MemSt → MemSt) (y : Entry) : (d.setDma f).get y = d.get y := rfl
@[simp] theorem Dev.getInt_setDma (d : Dev) (f : MemSt → MemSt) (y : Entry) : (d.setDma f).getInt y = d.getInt y := rfl
@[simp] theorem Dev.flag_setDma (d : Dev) (f : MemSt → MemSt) (y : Entry) : (d.setDma f).flag y = d.flag y := rfl
@[simp] theorem Dev.oct_setDma (d : Dev) (f : MemSt → MemSt) (y : Entry) : (d.setDma f).oct y = d.oct y := rfl
@[simp] theorem Dev.word_setDma (d : Dev) (f : MemSt → MemSt) (y z : Nat) : (d.setDma f).word y z = d.word y z := rfl
@[simp] theorem Dev.fld_setDma (d : Dev) (f : MemSt → MemSt) (y : Field) : (d.setDma f).fld y = d.fld y := rfl
@[simp] theorem Dev.isSet_setDma (d : Dev) (f : MemSt → MemSt) (y : Field) : (d.setDma f).isSet y = d.isSet y := rfl
@[simp] theorem Dev.byte_setDma (d : Dev) (f : MemSt → MemSt) (y : Nat) : (d.setDma f).byte y = d.byte y := rfl
@[simp] theorem Dev.epoch_setDma (d : Dev) (f : MemSt → MemSt) (y : EpochUnit) : (d.setDma f).epoch y = d.epoch y := rfl

@[simp] theorem Dev.setUpd_upd (d : Dev) (f : UpdSt → UpdSt) : (d.setUpd f).upd = f d.upd := rfl
@[simp] theorem Dev.setUpd_dict (d : Dev) (f : UpdSt → UpdSt) : (d.setUpd f).dict = d.dict := rfl
@[simp] theorem Dev.setUpd_blobs (d : Dev) (f : UpdSt → UpdSt) : (d.setUpd f).blobs = d.blobs := rfl
@[simp] theorem Dev.setUpd_regs (d : Dev) (f : UpdSt → UpdSt) : (d.setUpd f).regs = d.regs := rfl
@[simp] theorem Dev.setUpd_mem (d : Dev) (f : UpdSt → UpdSt) : (d.setUpd f).mem = d.mem := rfl
@[simp] theorem Dev.setUpd_epochs (d : Dev) (f : UpdSt → UpdSt) : (d.setUpd f).epochs = d.epochs := rfl
@[simp] theorem Dev.setUpd_free (d : Dev) (f : UpdSt → UpdSt) : (d.setUpd f).free = d.free := rfl
@[simp] theorem Dev.setUpd_out (d : Dev) (f : UpdSt → UpdSt) : (d.setUpd f).out = d.out := rfl
@[simp] theorem Dev.setUpd_logs (d : Dev) (f : UpdSt → UpdSt) : (d.setUpd f).logs = d.logs := rfl
@[simp] theorem Dev.setUpd_limits (d : Dev) (f : UpdSt → UpdSt) : (d.setUpd f).limits = d.limits := rfl
@[simp] theorem Dev.setUpd_ctrLatch (d : Dev) (f : UpdSt → UpdSt) : (d.setUpd f).ctrLatch = d.ctrLatch := rfl
@[simp] theorem Dev.setUpd_ctrStage (d : Dev) (f : UpdSt → UpdSt) : (d.setUpd f).ctrStage = d.ctrStage := rfl
@[simp] theorem Dev.setUpd_drains (d : Dev) (f : UpdSt → UpdSt) : (d.setUpd f).drains = d.drains := rfl
@[simp] theorem Dev.setUpd_supply (d : Dev) (f : UpdSt → UpdSt) : (d.setUpd f).supply = d.supply := rfl
@[simp] theorem Dev.setUpd_time (d : Dev) (f : UpdSt → UpdSt) : (d.setUpd f).time = d.time := rfl
@[simp] theorem Dev.setUpd_d0 (d : Dev) (f : UpdSt → UpdSt) : (d.setUpd f).d0 = d.d0 := rfl
@[simp] theorem Dev.setUpd_sw (d : Dev) (f : UpdSt → UpdSt) : (d.setUpd f).sw = d.sw := rfl
@[simp] theorem Dev.setUpd_can (d : Dev) (f : UpdSt → UpdSt) : (d.setUpd f).can = d.can := rfl
@[simp] theorem Dev.setUpd_sleep (d : Dev) (f : UpdSt → UpdSt) : (d.setUpd f).sleep = d.sleep := rfl
@[simp] theorem Dev.setUpd_power (d : Dev) (f : UpdSt → UpdSt) : (d.setUpd f).power = d.power := rfl
@[simp] theorem Dev.setUpd_br (d : Dev) (f : UpdSt → UpdSt) : (d.setUpd f).br = d.br := rfl
@[simp] theorem Dev.setUpd_load (d : Dev) (f : UpdSt → UpdSt) : (d.setUpd f).load = d.load := rfl
@[simp] theorem Dev.setUpd_adc (d : Dev) (f : UpdSt → UpdSt) : (d.setUpd f).adc = d.adc := rfl
@[simp] theorem Dev.setUpd_scan (d : Dev) (f : UpdSt → UpdSt) : (d.setUpd f).scan = d.scan := rfl
@[simp] theorem Dev.setUpd_dma (d : Dev) (f : UpdSt → UpdSt) : (d.setUpd f).dma = d.dma := rfl
@[simp] theorem Dev.setUpd_tenants (d : Dev) (f : UpdSt → UpdSt) : (d.setUpd f).tenants = d.tenants := rfl
@[simp] theorem Dev.setUpd_mezz (d : Dev) (f : UpdSt → UpdSt) : (d.setUpd f).mezz = d.mezz := rfl
@[simp] theorem Dev.setUpd_clk (d : Dev) (f : UpdSt → UpdSt) : (d.setUpd f).clk = d.clk := rfl
@[simp] theorem Dev.setUpd_sto (d : Dev) (f : UpdSt → UpdSt) : (d.setUpd f).sto = d.sto := rfl
@[simp] theorem Dev.setUpd_held (d : Dev) (f : UpdSt → UpdSt) : (d.setUpd f).held = d.held := rfl
@[simp] theorem Dev.setUpd_harts (d : Dev) (f : UpdSt → UpdSt) : (d.setUpd f).harts = d.harts := rfl
@[simp] theorem Dev.setUpd_twin (d : Dev) (f : UpdSt → UpdSt) : (d.setUpd f).twin = d.twin := rfl
@[simp] theorem Dev.setUpd_board (d : Dev) (f : UpdSt → UpdSt) : (d.setUpd f).board = d.board := rfl
@[simp] theorem Dev.get_setUpd (d : Dev) (f : UpdSt → UpdSt) (y : Entry) : (d.setUpd f).get y = d.get y := rfl
@[simp] theorem Dev.getInt_setUpd (d : Dev) (f : UpdSt → UpdSt) (y : Entry) : (d.setUpd f).getInt y = d.getInt y := rfl
@[simp] theorem Dev.flag_setUpd (d : Dev) (f : UpdSt → UpdSt) (y : Entry) : (d.setUpd f).flag y = d.flag y := rfl
@[simp] theorem Dev.oct_setUpd (d : Dev) (f : UpdSt → UpdSt) (y : Entry) : (d.setUpd f).oct y = d.oct y := rfl
@[simp] theorem Dev.word_setUpd (d : Dev) (f : UpdSt → UpdSt) (y z : Nat) : (d.setUpd f).word y z = d.word y z := rfl
@[simp] theorem Dev.fld_setUpd (d : Dev) (f : UpdSt → UpdSt) (y : Field) : (d.setUpd f).fld y = d.fld y := rfl
@[simp] theorem Dev.isSet_setUpd (d : Dev) (f : UpdSt → UpdSt) (y : Field) : (d.setUpd f).isSet y = d.isSet y := rfl
@[simp] theorem Dev.byte_setUpd (d : Dev) (f : UpdSt → UpdSt) (y : Nat) : (d.setUpd f).byte y = d.byte y := rfl
@[simp] theorem Dev.epoch_setUpd (d : Dev) (f : UpdSt → UpdSt) (y : EpochUnit) : (d.setUpd f).epoch y = d.epoch y := rfl

@[simp] theorem Dev.setBr_br (d : Dev) (f : Bridge → Bridge) : (d.setBr f).br = f d.br := rfl
@[simp] theorem Dev.setBr_dict (d : Dev) (f : Bridge → Bridge) : (d.setBr f).dict = d.dict := rfl
@[simp] theorem Dev.setBr_blobs (d : Dev) (f : Bridge → Bridge) : (d.setBr f).blobs = d.blobs := rfl
@[simp] theorem Dev.setBr_regs (d : Dev) (f : Bridge → Bridge) : (d.setBr f).regs = d.regs := rfl
@[simp] theorem Dev.setBr_mem (d : Dev) (f : Bridge → Bridge) : (d.setBr f).mem = d.mem := rfl
@[simp] theorem Dev.setBr_epochs (d : Dev) (f : Bridge → Bridge) : (d.setBr f).epochs = d.epochs := rfl
@[simp] theorem Dev.setBr_free (d : Dev) (f : Bridge → Bridge) : (d.setBr f).free = d.free := rfl
@[simp] theorem Dev.setBr_out (d : Dev) (f : Bridge → Bridge) : (d.setBr f).out = d.out := rfl
@[simp] theorem Dev.setBr_logs (d : Dev) (f : Bridge → Bridge) : (d.setBr f).logs = d.logs := rfl
@[simp] theorem Dev.setBr_limits (d : Dev) (f : Bridge → Bridge) : (d.setBr f).limits = d.limits := rfl
@[simp] theorem Dev.setBr_ctrLatch (d : Dev) (f : Bridge → Bridge) : (d.setBr f).ctrLatch = d.ctrLatch := rfl
@[simp] theorem Dev.setBr_ctrStage (d : Dev) (f : Bridge → Bridge) : (d.setBr f).ctrStage = d.ctrStage := rfl
@[simp] theorem Dev.setBr_drains (d : Dev) (f : Bridge → Bridge) : (d.setBr f).drains = d.drains := rfl
@[simp] theorem Dev.setBr_supply (d : Dev) (f : Bridge → Bridge) : (d.setBr f).supply = d.supply := rfl
@[simp] theorem Dev.setBr_time (d : Dev) (f : Bridge → Bridge) : (d.setBr f).time = d.time := rfl
@[simp] theorem Dev.setBr_d0 (d : Dev) (f : Bridge → Bridge) : (d.setBr f).d0 = d.d0 := rfl
@[simp] theorem Dev.setBr_sw (d : Dev) (f : Bridge → Bridge) : (d.setBr f).sw = d.sw := rfl
@[simp] theorem Dev.setBr_can (d : Dev) (f : Bridge → Bridge) : (d.setBr f).can = d.can := rfl
@[simp] theorem Dev.setBr_sleep (d : Dev) (f : Bridge → Bridge) : (d.setBr f).sleep = d.sleep := rfl
@[simp] theorem Dev.setBr_power (d : Dev) (f : Bridge → Bridge) : (d.setBr f).power = d.power := rfl
@[simp] theorem Dev.setBr_load (d : Dev) (f : Bridge → Bridge) : (d.setBr f).load = d.load := rfl
@[simp] theorem Dev.setBr_adc (d : Dev) (f : Bridge → Bridge) : (d.setBr f).adc = d.adc := rfl
@[simp] theorem Dev.setBr_scan (d : Dev) (f : Bridge → Bridge) : (d.setBr f).scan = d.scan := rfl
@[simp] theorem Dev.setBr_dma (d : Dev) (f : Bridge → Bridge) : (d.setBr f).dma = d.dma := rfl
@[simp] theorem Dev.setBr_tenants (d : Dev) (f : Bridge → Bridge) : (d.setBr f).tenants = d.tenants := rfl
@[simp] theorem Dev.setBr_mezz (d : Dev) (f : Bridge → Bridge) : (d.setBr f).mezz = d.mezz := rfl
@[simp] theorem Dev.setBr_clk (d : Dev) (f : Bridge → Bridge) : (d.setBr f).clk = d.clk := rfl
@[simp] theorem Dev.setBr_sto (d : Dev) (f : Bridge → Bridge) : (d.setBr f).sto = d.sto := rfl
@[simp] theorem Dev.setBr_upd (d : Dev) (f : Bridge → Bridge) : (d.setBr f).upd = d.upd := rfl
@[simp] theorem Dev.setBr_held (d : Dev) (f : Bridge → Bridge) : (d.setBr f).held = d.held := rfl
@[simp] theorem Dev.setBr_harts (d : Dev) (f : Bridge → Bridge) : (d.setBr f).harts = d.harts := rfl
@[simp] theorem Dev.setBr_twin (d : Dev) (f : Bridge → Bridge) : (d.setBr f).twin = d.twin := rfl
@[simp] theorem Dev.setBr_board (d : Dev) (f : Bridge → Bridge) : (d.setBr f).board = d.board := rfl
@[simp] theorem Dev.get_setBr (d : Dev) (f : Bridge → Bridge) (y : Entry) : (d.setBr f).get y = d.get y := rfl
@[simp] theorem Dev.getInt_setBr (d : Dev) (f : Bridge → Bridge) (y : Entry) : (d.setBr f).getInt y = d.getInt y := rfl
@[simp] theorem Dev.flag_setBr (d : Dev) (f : Bridge → Bridge) (y : Entry) : (d.setBr f).flag y = d.flag y := rfl
@[simp] theorem Dev.oct_setBr (d : Dev) (f : Bridge → Bridge) (y : Entry) : (d.setBr f).oct y = d.oct y := rfl
@[simp] theorem Dev.word_setBr (d : Dev) (f : Bridge → Bridge) (y z : Nat) : (d.setBr f).word y z = d.word y z := rfl
@[simp] theorem Dev.fld_setBr (d : Dev) (f : Bridge → Bridge) (y : Field) : (d.setBr f).fld y = d.fld y := rfl
@[simp] theorem Dev.isSet_setBr (d : Dev) (f : Bridge → Bridge) (y : Field) : (d.setBr f).isSet y = d.isSet y := rfl
@[simp] theorem Dev.byte_setBr (d : Dev) (f : Bridge → Bridge) (y : Nat) : (d.setBr f).byte y = d.byte y := rfl
@[simp] theorem Dev.epoch_setBr (d : Dev) (f : Bridge → Bridge) (y : EpochUnit) : (d.setBr f).epoch y = d.epoch y := rfl

@[simp] theorem Dev.setSw_sw (d : Dev) (f : Switch → Switch) : (d.setSw f).sw = f d.sw := rfl
@[simp] theorem Dev.setSw_dict (d : Dev) (f : Switch → Switch) : (d.setSw f).dict = d.dict := rfl
@[simp] theorem Dev.setSw_blobs (d : Dev) (f : Switch → Switch) : (d.setSw f).blobs = d.blobs := rfl
@[simp] theorem Dev.setSw_regs (d : Dev) (f : Switch → Switch) : (d.setSw f).regs = d.regs := rfl
@[simp] theorem Dev.setSw_mem (d : Dev) (f : Switch → Switch) : (d.setSw f).mem = d.mem := rfl
@[simp] theorem Dev.setSw_epochs (d : Dev) (f : Switch → Switch) : (d.setSw f).epochs = d.epochs := rfl
@[simp] theorem Dev.setSw_free (d : Dev) (f : Switch → Switch) : (d.setSw f).free = d.free := rfl
@[simp] theorem Dev.setSw_out (d : Dev) (f : Switch → Switch) : (d.setSw f).out = d.out := rfl
@[simp] theorem Dev.setSw_logs (d : Dev) (f : Switch → Switch) : (d.setSw f).logs = d.logs := rfl
@[simp] theorem Dev.setSw_limits (d : Dev) (f : Switch → Switch) : (d.setSw f).limits = d.limits := rfl
@[simp] theorem Dev.setSw_ctrLatch (d : Dev) (f : Switch → Switch) : (d.setSw f).ctrLatch = d.ctrLatch := rfl
@[simp] theorem Dev.setSw_ctrStage (d : Dev) (f : Switch → Switch) : (d.setSw f).ctrStage = d.ctrStage := rfl
@[simp] theorem Dev.setSw_drains (d : Dev) (f : Switch → Switch) : (d.setSw f).drains = d.drains := rfl
@[simp] theorem Dev.setSw_supply (d : Dev) (f : Switch → Switch) : (d.setSw f).supply = d.supply := rfl
@[simp] theorem Dev.setSw_time (d : Dev) (f : Switch → Switch) : (d.setSw f).time = d.time := rfl
@[simp] theorem Dev.setSw_d0 (d : Dev) (f : Switch → Switch) : (d.setSw f).d0 = d.d0 := rfl
@[simp] theorem Dev.setSw_can (d : Dev) (f : Switch → Switch) : (d.setSw f).can = d.can := rfl
@[simp] theorem Dev.setSw_sleep (d : Dev) (f : Switch → Switch) : (d.setSw f).sleep = d.sleep := rfl
@[simp] theorem Dev.setSw_power (d : Dev) (f : Switch → Switch) : (d.setSw f).power = d.power := rfl
@[simp] theorem Dev.setSw_br (d : Dev) (f : Switch → Switch) : (d.setSw f).br = d.br := rfl
@[simp] theorem Dev.setSw_load (d : Dev) (f : Switch → Switch) : (d.setSw f).load = d.load := rfl
@[simp] theorem Dev.setSw_adc (d : Dev) (f : Switch → Switch) : (d.setSw f).adc = d.adc := rfl
@[simp] theorem Dev.setSw_scan (d : Dev) (f : Switch → Switch) : (d.setSw f).scan = d.scan := rfl
@[simp] theorem Dev.setSw_dma (d : Dev) (f : Switch → Switch) : (d.setSw f).dma = d.dma := rfl
@[simp] theorem Dev.setSw_tenants (d : Dev) (f : Switch → Switch) : (d.setSw f).tenants = d.tenants := rfl
@[simp] theorem Dev.setSw_mezz (d : Dev) (f : Switch → Switch) : (d.setSw f).mezz = d.mezz := rfl
@[simp] theorem Dev.setSw_clk (d : Dev) (f : Switch → Switch) : (d.setSw f).clk = d.clk := rfl
@[simp] theorem Dev.setSw_sto (d : Dev) (f : Switch → Switch) : (d.setSw f).sto = d.sto := rfl
@[simp] theorem Dev.setSw_upd (d : Dev) (f : Switch → Switch) : (d.setSw f).upd = d.upd := rfl
@[simp] theorem Dev.setSw_held (d : Dev) (f : Switch → Switch) : (d.setSw f).held = d.held := rfl
@[simp] theorem Dev.setSw_harts (d : Dev) (f : Switch → Switch) : (d.setSw f).harts = d.harts := rfl
@[simp] theorem Dev.setSw_twin (d : Dev) (f : Switch → Switch) : (d.setSw f).twin = d.twin := rfl
@[simp] theorem Dev.setSw_board (d : Dev) (f : Switch → Switch) : (d.setSw f).board = d.board := rfl
@[simp] theorem Dev.get_setSw (d : Dev) (f : Switch → Switch) (y : Entry) : (d.setSw f).get y = d.get y := rfl
@[simp] theorem Dev.getInt_setSw (d : Dev) (f : Switch → Switch) (y : Entry) : (d.setSw f).getInt y = d.getInt y := rfl
@[simp] theorem Dev.flag_setSw (d : Dev) (f : Switch → Switch) (y : Entry) : (d.setSw f).flag y = d.flag y := rfl
@[simp] theorem Dev.oct_setSw (d : Dev) (f : Switch → Switch) (y : Entry) : (d.setSw f).oct y = d.oct y := rfl
@[simp] theorem Dev.word_setSw (d : Dev) (f : Switch → Switch) (y z : Nat) : (d.setSw f).word y z = d.word y z := rfl
@[simp] theorem Dev.fld_setSw (d : Dev) (f : Switch → Switch) (y : Field) : (d.setSw f).fld y = d.fld y := rfl
@[simp] theorem Dev.isSet_setSw (d : Dev) (f : Switch → Switch) (y : Field) : (d.setSw f).isSet y = d.isSet y := rfl
@[simp] theorem Dev.byte_setSw (d : Dev) (f : Switch → Switch) (y : Nat) : (d.setSw f).byte y = d.byte y := rfl
@[simp] theorem Dev.epoch_setSw (d : Dev) (f : Switch → Switch) (y : EpochUnit) : (d.setSw f).epoch y = d.epoch y := rfl

@[simp] theorem Dev.setSto_sto (d : Dev) (f : StoSt → StoSt) : (d.setSto f).sto = f d.sto := rfl
@[simp] theorem Dev.setSto_dict (d : Dev) (f : StoSt → StoSt) : (d.setSto f).dict = d.dict := rfl
@[simp] theorem Dev.setSto_blobs (d : Dev) (f : StoSt → StoSt) : (d.setSto f).blobs = d.blobs := rfl
@[simp] theorem Dev.setSto_regs (d : Dev) (f : StoSt → StoSt) : (d.setSto f).regs = d.regs := rfl
@[simp] theorem Dev.setSto_mem (d : Dev) (f : StoSt → StoSt) : (d.setSto f).mem = d.mem := rfl
@[simp] theorem Dev.setSto_epochs (d : Dev) (f : StoSt → StoSt) : (d.setSto f).epochs = d.epochs := rfl
@[simp] theorem Dev.setSto_free (d : Dev) (f : StoSt → StoSt) : (d.setSto f).free = d.free := rfl
@[simp] theorem Dev.setSto_out (d : Dev) (f : StoSt → StoSt) : (d.setSto f).out = d.out := rfl
@[simp] theorem Dev.setSto_logs (d : Dev) (f : StoSt → StoSt) : (d.setSto f).logs = d.logs := rfl
@[simp] theorem Dev.setSto_limits (d : Dev) (f : StoSt → StoSt) : (d.setSto f).limits = d.limits := rfl
@[simp] theorem Dev.setSto_ctrLatch (d : Dev) (f : StoSt → StoSt) : (d.setSto f).ctrLatch = d.ctrLatch := rfl
@[simp] theorem Dev.setSto_ctrStage (d : Dev) (f : StoSt → StoSt) : (d.setSto f).ctrStage = d.ctrStage := rfl
@[simp] theorem Dev.setSto_drains (d : Dev) (f : StoSt → StoSt) : (d.setSto f).drains = d.drains := rfl
@[simp] theorem Dev.setSto_supply (d : Dev) (f : StoSt → StoSt) : (d.setSto f).supply = d.supply := rfl
@[simp] theorem Dev.setSto_time (d : Dev) (f : StoSt → StoSt) : (d.setSto f).time = d.time := rfl
@[simp] theorem Dev.setSto_d0 (d : Dev) (f : StoSt → StoSt) : (d.setSto f).d0 = d.d0 := rfl
@[simp] theorem Dev.setSto_sw (d : Dev) (f : StoSt → StoSt) : (d.setSto f).sw = d.sw := rfl
@[simp] theorem Dev.setSto_can (d : Dev) (f : StoSt → StoSt) : (d.setSto f).can = d.can := rfl
@[simp] theorem Dev.setSto_sleep (d : Dev) (f : StoSt → StoSt) : (d.setSto f).sleep = d.sleep := rfl
@[simp] theorem Dev.setSto_power (d : Dev) (f : StoSt → StoSt) : (d.setSto f).power = d.power := rfl
@[simp] theorem Dev.setSto_br (d : Dev) (f : StoSt → StoSt) : (d.setSto f).br = d.br := rfl
@[simp] theorem Dev.setSto_load (d : Dev) (f : StoSt → StoSt) : (d.setSto f).load = d.load := rfl
@[simp] theorem Dev.setSto_adc (d : Dev) (f : StoSt → StoSt) : (d.setSto f).adc = d.adc := rfl
@[simp] theorem Dev.setSto_scan (d : Dev) (f : StoSt → StoSt) : (d.setSto f).scan = d.scan := rfl
@[simp] theorem Dev.setSto_dma (d : Dev) (f : StoSt → StoSt) : (d.setSto f).dma = d.dma := rfl
@[simp] theorem Dev.setSto_tenants (d : Dev) (f : StoSt → StoSt) : (d.setSto f).tenants = d.tenants := rfl
@[simp] theorem Dev.setSto_mezz (d : Dev) (f : StoSt → StoSt) : (d.setSto f).mezz = d.mezz := rfl
@[simp] theorem Dev.setSto_clk (d : Dev) (f : StoSt → StoSt) : (d.setSto f).clk = d.clk := rfl
@[simp] theorem Dev.setSto_upd (d : Dev) (f : StoSt → StoSt) : (d.setSto f).upd = d.upd := rfl
@[simp] theorem Dev.setSto_held (d : Dev) (f : StoSt → StoSt) : (d.setSto f).held = d.held := rfl
@[simp] theorem Dev.setSto_harts (d : Dev) (f : StoSt → StoSt) : (d.setSto f).harts = d.harts := rfl
@[simp] theorem Dev.setSto_twin (d : Dev) (f : StoSt → StoSt) : (d.setSto f).twin = d.twin := rfl
@[simp] theorem Dev.setSto_board (d : Dev) (f : StoSt → StoSt) : (d.setSto f).board = d.board := rfl
@[simp] theorem Dev.get_setSto (d : Dev) (f : StoSt → StoSt) (y : Entry) : (d.setSto f).get y = d.get y := rfl
@[simp] theorem Dev.getInt_setSto (d : Dev) (f : StoSt → StoSt) (y : Entry) : (d.setSto f).getInt y = d.getInt y := rfl
@[simp] theorem Dev.flag_setSto (d : Dev) (f : StoSt → StoSt) (y : Entry) : (d.setSto f).flag y = d.flag y := rfl
@[simp] theorem Dev.oct_setSto (d : Dev) (f : StoSt → StoSt) (y : Entry) : (d.setSto f).oct y = d.oct y := rfl
@[simp] theorem Dev.word_setSto (d : Dev) (f : StoSt → StoSt) (y z : Nat) : (d.setSto f).word y z = d.word y z := rfl
@[simp] theorem Dev.fld_setSto (d : Dev) (f : StoSt → StoSt) (y : Field) : (d.setSto f).fld y = d.fld y := rfl
@[simp] theorem Dev.isSet_setSto (d : Dev) (f : StoSt → StoSt) (y : Field) : (d.setSto f).isSet y = d.isSet y := rfl
@[simp] theorem Dev.byte_setSto (d : Dev) (f : StoSt → StoSt) (y : Nat) : (d.setSto f).byte y = d.byte y := rfl
@[simp] theorem Dev.epoch_setSto (d : Dev) (f : StoSt → StoSt) (y : EpochUnit) : (d.setSto f).epoch y = d.epoch y := rfl

@[simp] theorem Dev.setTwin_twin (d : Dev) (f : TwinSt → TwinSt) : (d.setTwin f).twin = f d.twin := rfl
@[simp] theorem Dev.setTwin_dict (d : Dev) (f : TwinSt → TwinSt) : (d.setTwin f).dict = d.dict := rfl
@[simp] theorem Dev.setTwin_blobs (d : Dev) (f : TwinSt → TwinSt) : (d.setTwin f).blobs = d.blobs := rfl
@[simp] theorem Dev.setTwin_regs (d : Dev) (f : TwinSt → TwinSt) : (d.setTwin f).regs = d.regs := rfl
@[simp] theorem Dev.setTwin_mem (d : Dev) (f : TwinSt → TwinSt) : (d.setTwin f).mem = d.mem := rfl
@[simp] theorem Dev.setTwin_epochs (d : Dev) (f : TwinSt → TwinSt) : (d.setTwin f).epochs = d.epochs := rfl
@[simp] theorem Dev.setTwin_free (d : Dev) (f : TwinSt → TwinSt) : (d.setTwin f).free = d.free := rfl
@[simp] theorem Dev.setTwin_out (d : Dev) (f : TwinSt → TwinSt) : (d.setTwin f).out = d.out := rfl
@[simp] theorem Dev.setTwin_logs (d : Dev) (f : TwinSt → TwinSt) : (d.setTwin f).logs = d.logs := rfl
@[simp] theorem Dev.setTwin_limits (d : Dev) (f : TwinSt → TwinSt) : (d.setTwin f).limits = d.limits := rfl
@[simp] theorem Dev.setTwin_ctrLatch (d : Dev) (f : TwinSt → TwinSt) : (d.setTwin f).ctrLatch = d.ctrLatch := rfl
@[simp] theorem Dev.setTwin_ctrStage (d : Dev) (f : TwinSt → TwinSt) : (d.setTwin f).ctrStage = d.ctrStage := rfl
@[simp] theorem Dev.setTwin_drains (d : Dev) (f : TwinSt → TwinSt) : (d.setTwin f).drains = d.drains := rfl
@[simp] theorem Dev.setTwin_supply (d : Dev) (f : TwinSt → TwinSt) : (d.setTwin f).supply = d.supply := rfl
@[simp] theorem Dev.setTwin_time (d : Dev) (f : TwinSt → TwinSt) : (d.setTwin f).time = d.time := rfl
@[simp] theorem Dev.setTwin_d0 (d : Dev) (f : TwinSt → TwinSt) : (d.setTwin f).d0 = d.d0 := rfl
@[simp] theorem Dev.setTwin_sw (d : Dev) (f : TwinSt → TwinSt) : (d.setTwin f).sw = d.sw := rfl
@[simp] theorem Dev.setTwin_can (d : Dev) (f : TwinSt → TwinSt) : (d.setTwin f).can = d.can := rfl
@[simp] theorem Dev.setTwin_sleep (d : Dev) (f : TwinSt → TwinSt) : (d.setTwin f).sleep = d.sleep := rfl
@[simp] theorem Dev.setTwin_power (d : Dev) (f : TwinSt → TwinSt) : (d.setTwin f).power = d.power := rfl
@[simp] theorem Dev.setTwin_br (d : Dev) (f : TwinSt → TwinSt) : (d.setTwin f).br = d.br := rfl
@[simp] theorem Dev.setTwin_load (d : Dev) (f : TwinSt → TwinSt) : (d.setTwin f).load = d.load := rfl
@[simp] theorem Dev.setTwin_adc (d : Dev) (f : TwinSt → TwinSt) : (d.setTwin f).adc = d.adc := rfl
@[simp] theorem Dev.setTwin_scan (d : Dev) (f : TwinSt → TwinSt) : (d.setTwin f).scan = d.scan := rfl
@[simp] theorem Dev.setTwin_dma (d : Dev) (f : TwinSt → TwinSt) : (d.setTwin f).dma = d.dma := rfl
@[simp] theorem Dev.setTwin_tenants (d : Dev) (f : TwinSt → TwinSt) : (d.setTwin f).tenants = d.tenants := rfl
@[simp] theorem Dev.setTwin_mezz (d : Dev) (f : TwinSt → TwinSt) : (d.setTwin f).mezz = d.mezz := rfl
@[simp] theorem Dev.setTwin_clk (d : Dev) (f : TwinSt → TwinSt) : (d.setTwin f).clk = d.clk := rfl
@[simp] theorem Dev.setTwin_sto (d : Dev) (f : TwinSt → TwinSt) : (d.setTwin f).sto = d.sto := rfl
@[simp] theorem Dev.setTwin_upd (d : Dev) (f : TwinSt → TwinSt) : (d.setTwin f).upd = d.upd := rfl
@[simp] theorem Dev.setTwin_held (d : Dev) (f : TwinSt → TwinSt) : (d.setTwin f).held = d.held := rfl
@[simp] theorem Dev.setTwin_harts (d : Dev) (f : TwinSt → TwinSt) : (d.setTwin f).harts = d.harts := rfl
@[simp] theorem Dev.setTwin_board (d : Dev) (f : TwinSt → TwinSt) : (d.setTwin f).board = d.board := rfl
@[simp] theorem Dev.get_setTwin (d : Dev) (f : TwinSt → TwinSt) (y : Entry) : (d.setTwin f).get y = d.get y := rfl
@[simp] theorem Dev.getInt_setTwin (d : Dev) (f : TwinSt → TwinSt) (y : Entry) : (d.setTwin f).getInt y = d.getInt y := rfl
@[simp] theorem Dev.flag_setTwin (d : Dev) (f : TwinSt → TwinSt) (y : Entry) : (d.setTwin f).flag y = d.flag y := rfl
@[simp] theorem Dev.oct_setTwin (d : Dev) (f : TwinSt → TwinSt) (y : Entry) : (d.setTwin f).oct y = d.oct y := rfl
@[simp] theorem Dev.word_setTwin (d : Dev) (f : TwinSt → TwinSt) (y z : Nat) : (d.setTwin f).word y z = d.word y z := rfl
@[simp] theorem Dev.fld_setTwin (d : Dev) (f : TwinSt → TwinSt) (y : Field) : (d.setTwin f).fld y = d.fld y := rfl
@[simp] theorem Dev.isSet_setTwin (d : Dev) (f : TwinSt → TwinSt) (y : Field) : (d.setTwin f).isSet y = d.isSet y := rfl
@[simp] theorem Dev.byte_setTwin (d : Dev) (f : TwinSt → TwinSt) (y : Nat) : (d.setTwin f).byte y = d.byte y := rfl
@[simp] theorem Dev.epoch_setTwin (d : Dev) (f : TwinSt → TwinSt) (y : EpochUnit) : (d.setTwin f).epoch y = d.epoch y := rfl

@[simp] theorem Dev.setScan_scan (d : Dev) (f : ScanSt → ScanSt) : (d.setScan f).scan = f d.scan := rfl
@[simp] theorem Dev.setScan_dict (d : Dev) (f : ScanSt → ScanSt) : (d.setScan f).dict = d.dict := rfl
@[simp] theorem Dev.setScan_blobs (d : Dev) (f : ScanSt → ScanSt) : (d.setScan f).blobs = d.blobs := rfl
@[simp] theorem Dev.setScan_regs (d : Dev) (f : ScanSt → ScanSt) : (d.setScan f).regs = d.regs := rfl
@[simp] theorem Dev.setScan_mem (d : Dev) (f : ScanSt → ScanSt) : (d.setScan f).mem = d.mem := rfl
@[simp] theorem Dev.setScan_epochs (d : Dev) (f : ScanSt → ScanSt) : (d.setScan f).epochs = d.epochs := rfl
@[simp] theorem Dev.setScan_free (d : Dev) (f : ScanSt → ScanSt) : (d.setScan f).free = d.free := rfl
@[simp] theorem Dev.setScan_out (d : Dev) (f : ScanSt → ScanSt) : (d.setScan f).out = d.out := rfl
@[simp] theorem Dev.setScan_logs (d : Dev) (f : ScanSt → ScanSt) : (d.setScan f).logs = d.logs := rfl
@[simp] theorem Dev.setScan_limits (d : Dev) (f : ScanSt → ScanSt) : (d.setScan f).limits = d.limits := rfl
@[simp] theorem Dev.setScan_ctrLatch (d : Dev) (f : ScanSt → ScanSt) : (d.setScan f).ctrLatch = d.ctrLatch := rfl
@[simp] theorem Dev.setScan_ctrStage (d : Dev) (f : ScanSt → ScanSt) : (d.setScan f).ctrStage = d.ctrStage := rfl
@[simp] theorem Dev.setScan_drains (d : Dev) (f : ScanSt → ScanSt) : (d.setScan f).drains = d.drains := rfl
@[simp] theorem Dev.setScan_supply (d : Dev) (f : ScanSt → ScanSt) : (d.setScan f).supply = d.supply := rfl
@[simp] theorem Dev.setScan_time (d : Dev) (f : ScanSt → ScanSt) : (d.setScan f).time = d.time := rfl
@[simp] theorem Dev.setScan_d0 (d : Dev) (f : ScanSt → ScanSt) : (d.setScan f).d0 = d.d0 := rfl
@[simp] theorem Dev.setScan_sw (d : Dev) (f : ScanSt → ScanSt) : (d.setScan f).sw = d.sw := rfl
@[simp] theorem Dev.setScan_can (d : Dev) (f : ScanSt → ScanSt) : (d.setScan f).can = d.can := rfl
@[simp] theorem Dev.setScan_sleep (d : Dev) (f : ScanSt → ScanSt) : (d.setScan f).sleep = d.sleep := rfl
@[simp] theorem Dev.setScan_power (d : Dev) (f : ScanSt → ScanSt) : (d.setScan f).power = d.power := rfl
@[simp] theorem Dev.setScan_br (d : Dev) (f : ScanSt → ScanSt) : (d.setScan f).br = d.br := rfl
@[simp] theorem Dev.setScan_load (d : Dev) (f : ScanSt → ScanSt) : (d.setScan f).load = d.load := rfl
@[simp] theorem Dev.setScan_adc (d : Dev) (f : ScanSt → ScanSt) : (d.setScan f).adc = d.adc := rfl
@[simp] theorem Dev.setScan_dma (d : Dev) (f : ScanSt → ScanSt) : (d.setScan f).dma = d.dma := rfl
@[simp] theorem Dev.setScan_tenants (d : Dev) (f : ScanSt → ScanSt) : (d.setScan f).tenants = d.tenants := rfl
@[simp] theorem Dev.setScan_mezz (d : Dev) (f : ScanSt → ScanSt) : (d.setScan f).mezz = d.mezz := rfl
@[simp] theorem Dev.setScan_clk (d : Dev) (f : ScanSt → ScanSt) : (d.setScan f).clk = d.clk := rfl
@[simp] theorem Dev.setScan_sto (d : Dev) (f : ScanSt → ScanSt) : (d.setScan f).sto = d.sto := rfl
@[simp] theorem Dev.setScan_upd (d : Dev) (f : ScanSt → ScanSt) : (d.setScan f).upd = d.upd := rfl
@[simp] theorem Dev.setScan_held (d : Dev) (f : ScanSt → ScanSt) : (d.setScan f).held = d.held := rfl
@[simp] theorem Dev.setScan_harts (d : Dev) (f : ScanSt → ScanSt) : (d.setScan f).harts = d.harts := rfl
@[simp] theorem Dev.setScan_twin (d : Dev) (f : ScanSt → ScanSt) : (d.setScan f).twin = d.twin := rfl
@[simp] theorem Dev.setScan_board (d : Dev) (f : ScanSt → ScanSt) : (d.setScan f).board = d.board := rfl
@[simp] theorem Dev.get_setScan (d : Dev) (f : ScanSt → ScanSt) (y : Entry) : (d.setScan f).get y = d.get y := rfl
@[simp] theorem Dev.getInt_setScan (d : Dev) (f : ScanSt → ScanSt) (y : Entry) : (d.setScan f).getInt y = d.getInt y := rfl
@[simp] theorem Dev.flag_setScan (d : Dev) (f : ScanSt → ScanSt) (y : Entry) : (d.setScan f).flag y = d.flag y := rfl
@[simp] theorem Dev.oct_setScan (d : Dev) (f : ScanSt → ScanSt) (y : Entry) : (d.setScan f).oct y = d.oct y := rfl
@[simp] theorem Dev.word_setScan (d : Dev) (f : ScanSt → ScanSt) (y z : Nat) : (d.setScan f).word y z = d.word y z := rfl
@[simp] theorem Dev.fld_setScan (d : Dev) (f : ScanSt → ScanSt) (y : Field) : (d.setScan f).fld y = d.fld y := rfl
@[simp] theorem Dev.isSet_setScan (d : Dev) (f : ScanSt → ScanSt) (y : Field) : (d.setScan f).isSet y = d.isSet y := rfl
@[simp] theorem Dev.byte_setScan (d : Dev) (f : ScanSt → ScanSt) (y : Nat) : (d.setScan f).byte y = d.byte y := rfl
@[simp] theorem Dev.epoch_setScan (d : Dev) (f : ScanSt → ScanSt) (y : EpochUnit) : (d.setScan f).epoch y = d.epoch y := rfl

@[simp] theorem Dev.setAdc_adc (d : Dev) (f : AnalogSt → AnalogSt) : (d.setAdc f).adc = f d.adc := rfl
@[simp] theorem Dev.setAdc_dict (d : Dev) (f : AnalogSt → AnalogSt) : (d.setAdc f).dict = d.dict := rfl
@[simp] theorem Dev.setAdc_blobs (d : Dev) (f : AnalogSt → AnalogSt) : (d.setAdc f).blobs = d.blobs := rfl
@[simp] theorem Dev.setAdc_regs (d : Dev) (f : AnalogSt → AnalogSt) : (d.setAdc f).regs = d.regs := rfl
@[simp] theorem Dev.setAdc_mem (d : Dev) (f : AnalogSt → AnalogSt) : (d.setAdc f).mem = d.mem := rfl
@[simp] theorem Dev.setAdc_epochs (d : Dev) (f : AnalogSt → AnalogSt) : (d.setAdc f).epochs = d.epochs := rfl
@[simp] theorem Dev.setAdc_free (d : Dev) (f : AnalogSt → AnalogSt) : (d.setAdc f).free = d.free := rfl
@[simp] theorem Dev.setAdc_out (d : Dev) (f : AnalogSt → AnalogSt) : (d.setAdc f).out = d.out := rfl
@[simp] theorem Dev.setAdc_logs (d : Dev) (f : AnalogSt → AnalogSt) : (d.setAdc f).logs = d.logs := rfl
@[simp] theorem Dev.setAdc_limits (d : Dev) (f : AnalogSt → AnalogSt) : (d.setAdc f).limits = d.limits := rfl
@[simp] theorem Dev.setAdc_ctrLatch (d : Dev) (f : AnalogSt → AnalogSt) : (d.setAdc f).ctrLatch = d.ctrLatch := rfl
@[simp] theorem Dev.setAdc_ctrStage (d : Dev) (f : AnalogSt → AnalogSt) : (d.setAdc f).ctrStage = d.ctrStage := rfl
@[simp] theorem Dev.setAdc_drains (d : Dev) (f : AnalogSt → AnalogSt) : (d.setAdc f).drains = d.drains := rfl
@[simp] theorem Dev.setAdc_supply (d : Dev) (f : AnalogSt → AnalogSt) : (d.setAdc f).supply = d.supply := rfl
@[simp] theorem Dev.setAdc_time (d : Dev) (f : AnalogSt → AnalogSt) : (d.setAdc f).time = d.time := rfl
@[simp] theorem Dev.setAdc_d0 (d : Dev) (f : AnalogSt → AnalogSt) : (d.setAdc f).d0 = d.d0 := rfl
@[simp] theorem Dev.setAdc_sw (d : Dev) (f : AnalogSt → AnalogSt) : (d.setAdc f).sw = d.sw := rfl
@[simp] theorem Dev.setAdc_can (d : Dev) (f : AnalogSt → AnalogSt) : (d.setAdc f).can = d.can := rfl
@[simp] theorem Dev.setAdc_sleep (d : Dev) (f : AnalogSt → AnalogSt) : (d.setAdc f).sleep = d.sleep := rfl
@[simp] theorem Dev.setAdc_power (d : Dev) (f : AnalogSt → AnalogSt) : (d.setAdc f).power = d.power := rfl
@[simp] theorem Dev.setAdc_br (d : Dev) (f : AnalogSt → AnalogSt) : (d.setAdc f).br = d.br := rfl
@[simp] theorem Dev.setAdc_load (d : Dev) (f : AnalogSt → AnalogSt) : (d.setAdc f).load = d.load := rfl
@[simp] theorem Dev.setAdc_scan (d : Dev) (f : AnalogSt → AnalogSt) : (d.setAdc f).scan = d.scan := rfl
@[simp] theorem Dev.setAdc_dma (d : Dev) (f : AnalogSt → AnalogSt) : (d.setAdc f).dma = d.dma := rfl
@[simp] theorem Dev.setAdc_tenants (d : Dev) (f : AnalogSt → AnalogSt) : (d.setAdc f).tenants = d.tenants := rfl
@[simp] theorem Dev.setAdc_mezz (d : Dev) (f : AnalogSt → AnalogSt) : (d.setAdc f).mezz = d.mezz := rfl
@[simp] theorem Dev.setAdc_clk (d : Dev) (f : AnalogSt → AnalogSt) : (d.setAdc f).clk = d.clk := rfl
@[simp] theorem Dev.setAdc_sto (d : Dev) (f : AnalogSt → AnalogSt) : (d.setAdc f).sto = d.sto := rfl
@[simp] theorem Dev.setAdc_upd (d : Dev) (f : AnalogSt → AnalogSt) : (d.setAdc f).upd = d.upd := rfl
@[simp] theorem Dev.setAdc_held (d : Dev) (f : AnalogSt → AnalogSt) : (d.setAdc f).held = d.held := rfl
@[simp] theorem Dev.setAdc_harts (d : Dev) (f : AnalogSt → AnalogSt) : (d.setAdc f).harts = d.harts := rfl
@[simp] theorem Dev.setAdc_twin (d : Dev) (f : AnalogSt → AnalogSt) : (d.setAdc f).twin = d.twin := rfl
@[simp] theorem Dev.setAdc_board (d : Dev) (f : AnalogSt → AnalogSt) : (d.setAdc f).board = d.board := rfl
@[simp] theorem Dev.get_setAdc (d : Dev) (f : AnalogSt → AnalogSt) (y : Entry) : (d.setAdc f).get y = d.get y := rfl
@[simp] theorem Dev.getInt_setAdc (d : Dev) (f : AnalogSt → AnalogSt) (y : Entry) : (d.setAdc f).getInt y = d.getInt y := rfl
@[simp] theorem Dev.flag_setAdc (d : Dev) (f : AnalogSt → AnalogSt) (y : Entry) : (d.setAdc f).flag y = d.flag y := rfl
@[simp] theorem Dev.oct_setAdc (d : Dev) (f : AnalogSt → AnalogSt) (y : Entry) : (d.setAdc f).oct y = d.oct y := rfl
@[simp] theorem Dev.word_setAdc (d : Dev) (f : AnalogSt → AnalogSt) (y z : Nat) : (d.setAdc f).word y z = d.word y z := rfl
@[simp] theorem Dev.fld_setAdc (d : Dev) (f : AnalogSt → AnalogSt) (y : Field) : (d.setAdc f).fld y = d.fld y := rfl
@[simp] theorem Dev.isSet_setAdc (d : Dev) (f : AnalogSt → AnalogSt) (y : Field) : (d.setAdc f).isSet y = d.isSet y := rfl
@[simp] theorem Dev.byte_setAdc (d : Dev) (f : AnalogSt → AnalogSt) (y : Nat) : (d.setAdc f).byte y = d.byte y := rfl
@[simp] theorem Dev.epoch_setAdc (d : Dev) (f : AnalogSt → AnalogSt) (y : EpochUnit) : (d.setAdc f).epoch y = d.epoch y := rfl

@[simp] theorem Dev.setSupply_supply (d : Dev) (f : Supply → Supply) : (d.setSupply f).supply = f d.supply := rfl
@[simp] theorem Dev.setSupply_dict (d : Dev) (f : Supply → Supply) : (d.setSupply f).dict = d.dict := rfl
@[simp] theorem Dev.setSupply_blobs (d : Dev) (f : Supply → Supply) : (d.setSupply f).blobs = d.blobs := rfl
@[simp] theorem Dev.setSupply_regs (d : Dev) (f : Supply → Supply) : (d.setSupply f).regs = d.regs := rfl
@[simp] theorem Dev.setSupply_mem (d : Dev) (f : Supply → Supply) : (d.setSupply f).mem = d.mem := rfl
@[simp] theorem Dev.setSupply_epochs (d : Dev) (f : Supply → Supply) : (d.setSupply f).epochs = d.epochs := rfl
@[simp] theorem Dev.setSupply_free (d : Dev) (f : Supply → Supply) : (d.setSupply f).free = d.free := rfl
@[simp] theorem Dev.setSupply_out (d : Dev) (f : Supply → Supply) : (d.setSupply f).out = d.out := rfl
@[simp] theorem Dev.setSupply_logs (d : Dev) (f : Supply → Supply) : (d.setSupply f).logs = d.logs := rfl
@[simp] theorem Dev.setSupply_limits (d : Dev) (f : Supply → Supply) : (d.setSupply f).limits = d.limits := rfl
@[simp] theorem Dev.setSupply_ctrLatch (d : Dev) (f : Supply → Supply) : (d.setSupply f).ctrLatch = d.ctrLatch := rfl
@[simp] theorem Dev.setSupply_ctrStage (d : Dev) (f : Supply → Supply) : (d.setSupply f).ctrStage = d.ctrStage := rfl
@[simp] theorem Dev.setSupply_drains (d : Dev) (f : Supply → Supply) : (d.setSupply f).drains = d.drains := rfl
@[simp] theorem Dev.setSupply_time (d : Dev) (f : Supply → Supply) : (d.setSupply f).time = d.time := rfl
@[simp] theorem Dev.setSupply_d0 (d : Dev) (f : Supply → Supply) : (d.setSupply f).d0 = d.d0 := rfl
@[simp] theorem Dev.setSupply_sw (d : Dev) (f : Supply → Supply) : (d.setSupply f).sw = d.sw := rfl
@[simp] theorem Dev.setSupply_can (d : Dev) (f : Supply → Supply) : (d.setSupply f).can = d.can := rfl
@[simp] theorem Dev.setSupply_sleep (d : Dev) (f : Supply → Supply) : (d.setSupply f).sleep = d.sleep := rfl
@[simp] theorem Dev.setSupply_power (d : Dev) (f : Supply → Supply) : (d.setSupply f).power = d.power := rfl
@[simp] theorem Dev.setSupply_br (d : Dev) (f : Supply → Supply) : (d.setSupply f).br = d.br := rfl
@[simp] theorem Dev.setSupply_load (d : Dev) (f : Supply → Supply) : (d.setSupply f).load = d.load := rfl
@[simp] theorem Dev.setSupply_adc (d : Dev) (f : Supply → Supply) : (d.setSupply f).adc = d.adc := rfl
@[simp] theorem Dev.setSupply_scan (d : Dev) (f : Supply → Supply) : (d.setSupply f).scan = d.scan := rfl
@[simp] theorem Dev.setSupply_dma (d : Dev) (f : Supply → Supply) : (d.setSupply f).dma = d.dma := rfl
@[simp] theorem Dev.setSupply_tenants (d : Dev) (f : Supply → Supply) : (d.setSupply f).tenants = d.tenants := rfl
@[simp] theorem Dev.setSupply_mezz (d : Dev) (f : Supply → Supply) : (d.setSupply f).mezz = d.mezz := rfl
@[simp] theorem Dev.setSupply_clk (d : Dev) (f : Supply → Supply) : (d.setSupply f).clk = d.clk := rfl
@[simp] theorem Dev.setSupply_sto (d : Dev) (f : Supply → Supply) : (d.setSupply f).sto = d.sto := rfl
@[simp] theorem Dev.setSupply_upd (d : Dev) (f : Supply → Supply) : (d.setSupply f).upd = d.upd := rfl
@[simp] theorem Dev.setSupply_held (d : Dev) (f : Supply → Supply) : (d.setSupply f).held = d.held := rfl
@[simp] theorem Dev.setSupply_harts (d : Dev) (f : Supply → Supply) : (d.setSupply f).harts = d.harts := rfl
@[simp] theorem Dev.setSupply_twin (d : Dev) (f : Supply → Supply) : (d.setSupply f).twin = d.twin := rfl
@[simp] theorem Dev.setSupply_board (d : Dev) (f : Supply → Supply) : (d.setSupply f).board = d.board := rfl
@[simp] theorem Dev.get_setSupply (d : Dev) (f : Supply → Supply) (y : Entry) : (d.setSupply f).get y = d.get y := rfl
@[simp] theorem Dev.getInt_setSupply (d : Dev) (f : Supply → Supply) (y : Entry) : (d.setSupply f).getInt y = d.getInt y := rfl
@[simp] theorem Dev.flag_setSupply (d : Dev) (f : Supply → Supply) (y : Entry) : (d.setSupply f).flag y = d.flag y := rfl
@[simp] theorem Dev.oct_setSupply (d : Dev) (f : Supply → Supply) (y : Entry) : (d.setSupply f).oct y = d.oct y := rfl
@[simp] theorem Dev.word_setSupply (d : Dev) (f : Supply → Supply) (y z : Nat) : (d.setSupply f).word y z = d.word y z := rfl
@[simp] theorem Dev.fld_setSupply (d : Dev) (f : Supply → Supply) (y : Field) : (d.setSupply f).fld y = d.fld y := rfl
@[simp] theorem Dev.isSet_setSupply (d : Dev) (f : Supply → Supply) (y : Field) : (d.setSupply f).isSet y = d.isSet y := rfl
@[simp] theorem Dev.byte_setSupply (d : Dev) (f : Supply → Supply) (y : Nat) : (d.setSupply f).byte y = d.byte y := rfl
@[simp] theorem Dev.epoch_setSupply (d : Dev) (f : Supply → Supply) (y : EpochUnit) : (d.setSupply f).epoch y = d.epoch y := rfl

@[simp] theorem Dev.setSleep_sleep (d : Dev) (f : SleepSt → SleepSt) : (d.setSleep f).sleep = f d.sleep := rfl
@[simp] theorem Dev.setSleep_dict (d : Dev) (f : SleepSt → SleepSt) : (d.setSleep f).dict = d.dict := rfl
@[simp] theorem Dev.setSleep_blobs (d : Dev) (f : SleepSt → SleepSt) : (d.setSleep f).blobs = d.blobs := rfl
@[simp] theorem Dev.setSleep_regs (d : Dev) (f : SleepSt → SleepSt) : (d.setSleep f).regs = d.regs := rfl
@[simp] theorem Dev.setSleep_mem (d : Dev) (f : SleepSt → SleepSt) : (d.setSleep f).mem = d.mem := rfl
@[simp] theorem Dev.setSleep_epochs (d : Dev) (f : SleepSt → SleepSt) : (d.setSleep f).epochs = d.epochs := rfl
@[simp] theorem Dev.setSleep_free (d : Dev) (f : SleepSt → SleepSt) : (d.setSleep f).free = d.free := rfl
@[simp] theorem Dev.setSleep_out (d : Dev) (f : SleepSt → SleepSt) : (d.setSleep f).out = d.out := rfl
@[simp] theorem Dev.setSleep_logs (d : Dev) (f : SleepSt → SleepSt) : (d.setSleep f).logs = d.logs := rfl
@[simp] theorem Dev.setSleep_limits (d : Dev) (f : SleepSt → SleepSt) : (d.setSleep f).limits = d.limits := rfl
@[simp] theorem Dev.setSleep_ctrLatch (d : Dev) (f : SleepSt → SleepSt) : (d.setSleep f).ctrLatch = d.ctrLatch := rfl
@[simp] theorem Dev.setSleep_ctrStage (d : Dev) (f : SleepSt → SleepSt) : (d.setSleep f).ctrStage = d.ctrStage := rfl
@[simp] theorem Dev.setSleep_drains (d : Dev) (f : SleepSt → SleepSt) : (d.setSleep f).drains = d.drains := rfl
@[simp] theorem Dev.setSleep_supply (d : Dev) (f : SleepSt → SleepSt) : (d.setSleep f).supply = d.supply := rfl
@[simp] theorem Dev.setSleep_time (d : Dev) (f : SleepSt → SleepSt) : (d.setSleep f).time = d.time := rfl
@[simp] theorem Dev.setSleep_d0 (d : Dev) (f : SleepSt → SleepSt) : (d.setSleep f).d0 = d.d0 := rfl
@[simp] theorem Dev.setSleep_sw (d : Dev) (f : SleepSt → SleepSt) : (d.setSleep f).sw = d.sw := rfl
@[simp] theorem Dev.setSleep_can (d : Dev) (f : SleepSt → SleepSt) : (d.setSleep f).can = d.can := rfl
@[simp] theorem Dev.setSleep_power (d : Dev) (f : SleepSt → SleepSt) : (d.setSleep f).power = d.power := rfl
@[simp] theorem Dev.setSleep_br (d : Dev) (f : SleepSt → SleepSt) : (d.setSleep f).br = d.br := rfl
@[simp] theorem Dev.setSleep_load (d : Dev) (f : SleepSt → SleepSt) : (d.setSleep f).load = d.load := rfl
@[simp] theorem Dev.setSleep_adc (d : Dev) (f : SleepSt → SleepSt) : (d.setSleep f).adc = d.adc := rfl
@[simp] theorem Dev.setSleep_scan (d : Dev) (f : SleepSt → SleepSt) : (d.setSleep f).scan = d.scan := rfl
@[simp] theorem Dev.setSleep_dma (d : Dev) (f : SleepSt → SleepSt) : (d.setSleep f).dma = d.dma := rfl
@[simp] theorem Dev.setSleep_tenants (d : Dev) (f : SleepSt → SleepSt) : (d.setSleep f).tenants = d.tenants := rfl
@[simp] theorem Dev.setSleep_mezz (d : Dev) (f : SleepSt → SleepSt) : (d.setSleep f).mezz = d.mezz := rfl
@[simp] theorem Dev.setSleep_clk (d : Dev) (f : SleepSt → SleepSt) : (d.setSleep f).clk = d.clk := rfl
@[simp] theorem Dev.setSleep_sto (d : Dev) (f : SleepSt → SleepSt) : (d.setSleep f).sto = d.sto := rfl
@[simp] theorem Dev.setSleep_upd (d : Dev) (f : SleepSt → SleepSt) : (d.setSleep f).upd = d.upd := rfl
@[simp] theorem Dev.setSleep_held (d : Dev) (f : SleepSt → SleepSt) : (d.setSleep f).held = d.held := rfl
@[simp] theorem Dev.setSleep_harts (d : Dev) (f : SleepSt → SleepSt) : (d.setSleep f).harts = d.harts := rfl
@[simp] theorem Dev.setSleep_twin (d : Dev) (f : SleepSt → SleepSt) : (d.setSleep f).twin = d.twin := rfl
@[simp] theorem Dev.setSleep_board (d : Dev) (f : SleepSt → SleepSt) : (d.setSleep f).board = d.board := rfl
@[simp] theorem Dev.get_setSleep (d : Dev) (f : SleepSt → SleepSt) (y : Entry) : (d.setSleep f).get y = d.get y := rfl
@[simp] theorem Dev.getInt_setSleep (d : Dev) (f : SleepSt → SleepSt) (y : Entry) : (d.setSleep f).getInt y = d.getInt y := rfl
@[simp] theorem Dev.flag_setSleep (d : Dev) (f : SleepSt → SleepSt) (y : Entry) : (d.setSleep f).flag y = d.flag y := rfl
@[simp] theorem Dev.oct_setSleep (d : Dev) (f : SleepSt → SleepSt) (y : Entry) : (d.setSleep f).oct y = d.oct y := rfl
@[simp] theorem Dev.word_setSleep (d : Dev) (f : SleepSt → SleepSt) (y z : Nat) : (d.setSleep f).word y z = d.word y z := rfl
@[simp] theorem Dev.fld_setSleep (d : Dev) (f : SleepSt → SleepSt) (y : Field) : (d.setSleep f).fld y = d.fld y := rfl
@[simp] theorem Dev.isSet_setSleep (d : Dev) (f : SleepSt → SleepSt) (y : Field) : (d.setSleep f).isSet y = d.isSet y := rfl
@[simp] theorem Dev.byte_setSleep (d : Dev) (f : SleepSt → SleepSt) (y : Nat) : (d.setSleep f).byte y = d.byte y := rfl
@[simp] theorem Dev.epoch_setSleep (d : Dev) (f : SleepSt → SleepSt) (y : EpochUnit) : (d.setSleep f).epoch y = d.epoch y := rfl

@[simp] theorem Dev.setMezz_mezz (d : Dev) (f : MezzSt → MezzSt) : (d.setMezz f).mezz = f d.mezz := rfl
@[simp] theorem Dev.setMezz_dict (d : Dev) (f : MezzSt → MezzSt) : (d.setMezz f).dict = d.dict := rfl
@[simp] theorem Dev.setMezz_blobs (d : Dev) (f : MezzSt → MezzSt) : (d.setMezz f).blobs = d.blobs := rfl
@[simp] theorem Dev.setMezz_regs (d : Dev) (f : MezzSt → MezzSt) : (d.setMezz f).regs = d.regs := rfl
@[simp] theorem Dev.setMezz_mem (d : Dev) (f : MezzSt → MezzSt) : (d.setMezz f).mem = d.mem := rfl
@[simp] theorem Dev.setMezz_epochs (d : Dev) (f : MezzSt → MezzSt) : (d.setMezz f).epochs = d.epochs := rfl
@[simp] theorem Dev.setMezz_free (d : Dev) (f : MezzSt → MezzSt) : (d.setMezz f).free = d.free := rfl
@[simp] theorem Dev.setMezz_out (d : Dev) (f : MezzSt → MezzSt) : (d.setMezz f).out = d.out := rfl
@[simp] theorem Dev.setMezz_logs (d : Dev) (f : MezzSt → MezzSt) : (d.setMezz f).logs = d.logs := rfl
@[simp] theorem Dev.setMezz_limits (d : Dev) (f : MezzSt → MezzSt) : (d.setMezz f).limits = d.limits := rfl
@[simp] theorem Dev.setMezz_ctrLatch (d : Dev) (f : MezzSt → MezzSt) : (d.setMezz f).ctrLatch = d.ctrLatch := rfl
@[simp] theorem Dev.setMezz_ctrStage (d : Dev) (f : MezzSt → MezzSt) : (d.setMezz f).ctrStage = d.ctrStage := rfl
@[simp] theorem Dev.setMezz_drains (d : Dev) (f : MezzSt → MezzSt) : (d.setMezz f).drains = d.drains := rfl
@[simp] theorem Dev.setMezz_supply (d : Dev) (f : MezzSt → MezzSt) : (d.setMezz f).supply = d.supply := rfl
@[simp] theorem Dev.setMezz_time (d : Dev) (f : MezzSt → MezzSt) : (d.setMezz f).time = d.time := rfl
@[simp] theorem Dev.setMezz_d0 (d : Dev) (f : MezzSt → MezzSt) : (d.setMezz f).d0 = d.d0 := rfl
@[simp] theorem Dev.setMezz_sw (d : Dev) (f : MezzSt → MezzSt) : (d.setMezz f).sw = d.sw := rfl
@[simp] theorem Dev.setMezz_can (d : Dev) (f : MezzSt → MezzSt) : (d.setMezz f).can = d.can := rfl
@[simp] theorem Dev.setMezz_sleep (d : Dev) (f : MezzSt → MezzSt) : (d.setMezz f).sleep = d.sleep := rfl
@[simp] theorem Dev.setMezz_power (d : Dev) (f : MezzSt → MezzSt) : (d.setMezz f).power = d.power := rfl
@[simp] theorem Dev.setMezz_br (d : Dev) (f : MezzSt → MezzSt) : (d.setMezz f).br = d.br := rfl
@[simp] theorem Dev.setMezz_load (d : Dev) (f : MezzSt → MezzSt) : (d.setMezz f).load = d.load := rfl
@[simp] theorem Dev.setMezz_adc (d : Dev) (f : MezzSt → MezzSt) : (d.setMezz f).adc = d.adc := rfl
@[simp] theorem Dev.setMezz_scan (d : Dev) (f : MezzSt → MezzSt) : (d.setMezz f).scan = d.scan := rfl
@[simp] theorem Dev.setMezz_dma (d : Dev) (f : MezzSt → MezzSt) : (d.setMezz f).dma = d.dma := rfl
@[simp] theorem Dev.setMezz_tenants (d : Dev) (f : MezzSt → MezzSt) : (d.setMezz f).tenants = d.tenants := rfl
@[simp] theorem Dev.setMezz_clk (d : Dev) (f : MezzSt → MezzSt) : (d.setMezz f).clk = d.clk := rfl
@[simp] theorem Dev.setMezz_sto (d : Dev) (f : MezzSt → MezzSt) : (d.setMezz f).sto = d.sto := rfl
@[simp] theorem Dev.setMezz_upd (d : Dev) (f : MezzSt → MezzSt) : (d.setMezz f).upd = d.upd := rfl
@[simp] theorem Dev.setMezz_held (d : Dev) (f : MezzSt → MezzSt) : (d.setMezz f).held = d.held := rfl
@[simp] theorem Dev.setMezz_harts (d : Dev) (f : MezzSt → MezzSt) : (d.setMezz f).harts = d.harts := rfl
@[simp] theorem Dev.setMezz_twin (d : Dev) (f : MezzSt → MezzSt) : (d.setMezz f).twin = d.twin := rfl
@[simp] theorem Dev.setMezz_board (d : Dev) (f : MezzSt → MezzSt) : (d.setMezz f).board = d.board := rfl
@[simp] theorem Dev.get_setMezz (d : Dev) (f : MezzSt → MezzSt) (y : Entry) : (d.setMezz f).get y = d.get y := rfl
@[simp] theorem Dev.getInt_setMezz (d : Dev) (f : MezzSt → MezzSt) (y : Entry) : (d.setMezz f).getInt y = d.getInt y := rfl
@[simp] theorem Dev.flag_setMezz (d : Dev) (f : MezzSt → MezzSt) (y : Entry) : (d.setMezz f).flag y = d.flag y := rfl
@[simp] theorem Dev.oct_setMezz (d : Dev) (f : MezzSt → MezzSt) (y : Entry) : (d.setMezz f).oct y = d.oct y := rfl
@[simp] theorem Dev.word_setMezz (d : Dev) (f : MezzSt → MezzSt) (y z : Nat) : (d.setMezz f).word y z = d.word y z := rfl
@[simp] theorem Dev.fld_setMezz (d : Dev) (f : MezzSt → MezzSt) (y : Field) : (d.setMezz f).fld y = d.fld y := rfl
@[simp] theorem Dev.isSet_setMezz (d : Dev) (f : MezzSt → MezzSt) (y : Field) : (d.setMezz f).isSet y = d.isSet y := rfl
@[simp] theorem Dev.byte_setMezz (d : Dev) (f : MezzSt → MezzSt) (y : Nat) : (d.setMezz f).byte y = d.byte y := rfl
@[simp] theorem Dev.epoch_setMezz (d : Dev) (f : MezzSt → MezzSt) (y : EpochUnit) : (d.setMezz f).epoch y = d.epoch y := rfl

@[simp] theorem Dev.setHalls_tenants (d : Dev) (f : HallSt → HallSt) : (d.setHalls f).tenants = f d.tenants := rfl
@[simp] theorem Dev.setHalls_dict (d : Dev) (f : HallSt → HallSt) : (d.setHalls f).dict = d.dict := rfl
@[simp] theorem Dev.setHalls_blobs (d : Dev) (f : HallSt → HallSt) : (d.setHalls f).blobs = d.blobs := rfl
@[simp] theorem Dev.setHalls_regs (d : Dev) (f : HallSt → HallSt) : (d.setHalls f).regs = d.regs := rfl
@[simp] theorem Dev.setHalls_mem (d : Dev) (f : HallSt → HallSt) : (d.setHalls f).mem = d.mem := rfl
@[simp] theorem Dev.setHalls_epochs (d : Dev) (f : HallSt → HallSt) : (d.setHalls f).epochs = d.epochs := rfl
@[simp] theorem Dev.setHalls_free (d : Dev) (f : HallSt → HallSt) : (d.setHalls f).free = d.free := rfl
@[simp] theorem Dev.setHalls_out (d : Dev) (f : HallSt → HallSt) : (d.setHalls f).out = d.out := rfl
@[simp] theorem Dev.setHalls_logs (d : Dev) (f : HallSt → HallSt) : (d.setHalls f).logs = d.logs := rfl
@[simp] theorem Dev.setHalls_limits (d : Dev) (f : HallSt → HallSt) : (d.setHalls f).limits = d.limits := rfl
@[simp] theorem Dev.setHalls_ctrLatch (d : Dev) (f : HallSt → HallSt) : (d.setHalls f).ctrLatch = d.ctrLatch := rfl
@[simp] theorem Dev.setHalls_ctrStage (d : Dev) (f : HallSt → HallSt) : (d.setHalls f).ctrStage = d.ctrStage := rfl
@[simp] theorem Dev.setHalls_drains (d : Dev) (f : HallSt → HallSt) : (d.setHalls f).drains = d.drains := rfl
@[simp] theorem Dev.setHalls_supply (d : Dev) (f : HallSt → HallSt) : (d.setHalls f).supply = d.supply := rfl
@[simp] theorem Dev.setHalls_time (d : Dev) (f : HallSt → HallSt) : (d.setHalls f).time = d.time := rfl
@[simp] theorem Dev.setHalls_d0 (d : Dev) (f : HallSt → HallSt) : (d.setHalls f).d0 = d.d0 := rfl
@[simp] theorem Dev.setHalls_sw (d : Dev) (f : HallSt → HallSt) : (d.setHalls f).sw = d.sw := rfl
@[simp] theorem Dev.setHalls_can (d : Dev) (f : HallSt → HallSt) : (d.setHalls f).can = d.can := rfl
@[simp] theorem Dev.setHalls_sleep (d : Dev) (f : HallSt → HallSt) : (d.setHalls f).sleep = d.sleep := rfl
@[simp] theorem Dev.setHalls_power (d : Dev) (f : HallSt → HallSt) : (d.setHalls f).power = d.power := rfl
@[simp] theorem Dev.setHalls_br (d : Dev) (f : HallSt → HallSt) : (d.setHalls f).br = d.br := rfl
@[simp] theorem Dev.setHalls_load (d : Dev) (f : HallSt → HallSt) : (d.setHalls f).load = d.load := rfl
@[simp] theorem Dev.setHalls_adc (d : Dev) (f : HallSt → HallSt) : (d.setHalls f).adc = d.adc := rfl
@[simp] theorem Dev.setHalls_scan (d : Dev) (f : HallSt → HallSt) : (d.setHalls f).scan = d.scan := rfl
@[simp] theorem Dev.setHalls_dma (d : Dev) (f : HallSt → HallSt) : (d.setHalls f).dma = d.dma := rfl
@[simp] theorem Dev.setHalls_mezz (d : Dev) (f : HallSt → HallSt) : (d.setHalls f).mezz = d.mezz := rfl
@[simp] theorem Dev.setHalls_clk (d : Dev) (f : HallSt → HallSt) : (d.setHalls f).clk = d.clk := rfl
@[simp] theorem Dev.setHalls_sto (d : Dev) (f : HallSt → HallSt) : (d.setHalls f).sto = d.sto := rfl
@[simp] theorem Dev.setHalls_upd (d : Dev) (f : HallSt → HallSt) : (d.setHalls f).upd = d.upd := rfl
@[simp] theorem Dev.setHalls_held (d : Dev) (f : HallSt → HallSt) : (d.setHalls f).held = d.held := rfl
@[simp] theorem Dev.setHalls_harts (d : Dev) (f : HallSt → HallSt) : (d.setHalls f).harts = d.harts := rfl
@[simp] theorem Dev.setHalls_twin (d : Dev) (f : HallSt → HallSt) : (d.setHalls f).twin = d.twin := rfl
@[simp] theorem Dev.setHalls_board (d : Dev) (f : HallSt → HallSt) : (d.setHalls f).board = d.board := rfl
@[simp] theorem Dev.get_setHalls (d : Dev) (f : HallSt → HallSt) (y : Entry) : (d.setHalls f).get y = d.get y := rfl
@[simp] theorem Dev.getInt_setHalls (d : Dev) (f : HallSt → HallSt) (y : Entry) : (d.setHalls f).getInt y = d.getInt y := rfl
@[simp] theorem Dev.flag_setHalls (d : Dev) (f : HallSt → HallSt) (y : Entry) : (d.setHalls f).flag y = d.flag y := rfl
@[simp] theorem Dev.oct_setHalls (d : Dev) (f : HallSt → HallSt) (y : Entry) : (d.setHalls f).oct y = d.oct y := rfl
@[simp] theorem Dev.word_setHalls (d : Dev) (f : HallSt → HallSt) (y z : Nat) : (d.setHalls f).word y z = d.word y z := rfl
@[simp] theorem Dev.fld_setHalls (d : Dev) (f : HallSt → HallSt) (y : Field) : (d.setHalls f).fld y = d.fld y := rfl
@[simp] theorem Dev.isSet_setHalls (d : Dev) (f : HallSt → HallSt) (y : Field) : (d.setHalls f).isSet y = d.isSet y := rfl
@[simp] theorem Dev.byte_setHalls (d : Dev) (f : HallSt → HallSt) (y : Nat) : (d.setHalls f).byte y = d.byte y := rfl
@[simp] theorem Dev.epoch_setHalls (d : Dev) (f : HallSt → HallSt) (y : EpochUnit) : (d.setHalls f).epoch y = d.epoch y := rfl

@[simp] theorem Dev.setLoad_load (d : Dev) (f : LoadSt → LoadSt) : (d.setLoad f).load = f d.load := rfl
@[simp] theorem Dev.setLoad_dict (d : Dev) (f : LoadSt → LoadSt) : (d.setLoad f).dict = d.dict := rfl
@[simp] theorem Dev.setLoad_blobs (d : Dev) (f : LoadSt → LoadSt) : (d.setLoad f).blobs = d.blobs := rfl
@[simp] theorem Dev.setLoad_regs (d : Dev) (f : LoadSt → LoadSt) : (d.setLoad f).regs = d.regs := rfl
@[simp] theorem Dev.setLoad_mem (d : Dev) (f : LoadSt → LoadSt) : (d.setLoad f).mem = d.mem := rfl
@[simp] theorem Dev.setLoad_epochs (d : Dev) (f : LoadSt → LoadSt) : (d.setLoad f).epochs = d.epochs := rfl
@[simp] theorem Dev.setLoad_free (d : Dev) (f : LoadSt → LoadSt) : (d.setLoad f).free = d.free := rfl
@[simp] theorem Dev.setLoad_out (d : Dev) (f : LoadSt → LoadSt) : (d.setLoad f).out = d.out := rfl
@[simp] theorem Dev.setLoad_logs (d : Dev) (f : LoadSt → LoadSt) : (d.setLoad f).logs = d.logs := rfl
@[simp] theorem Dev.setLoad_limits (d : Dev) (f : LoadSt → LoadSt) : (d.setLoad f).limits = d.limits := rfl
@[simp] theorem Dev.setLoad_ctrLatch (d : Dev) (f : LoadSt → LoadSt) : (d.setLoad f).ctrLatch = d.ctrLatch := rfl
@[simp] theorem Dev.setLoad_ctrStage (d : Dev) (f : LoadSt → LoadSt) : (d.setLoad f).ctrStage = d.ctrStage := rfl
@[simp] theorem Dev.setLoad_drains (d : Dev) (f : LoadSt → LoadSt) : (d.setLoad f).drains = d.drains := rfl
@[simp] theorem Dev.setLoad_supply (d : Dev) (f : LoadSt → LoadSt) : (d.setLoad f).supply = d.supply := rfl
@[simp] theorem Dev.setLoad_time (d : Dev) (f : LoadSt → LoadSt) : (d.setLoad f).time = d.time := rfl
@[simp] theorem Dev.setLoad_d0 (d : Dev) (f : LoadSt → LoadSt) : (d.setLoad f).d0 = d.d0 := rfl
@[simp] theorem Dev.setLoad_sw (d : Dev) (f : LoadSt → LoadSt) : (d.setLoad f).sw = d.sw := rfl
@[simp] theorem Dev.setLoad_can (d : Dev) (f : LoadSt → LoadSt) : (d.setLoad f).can = d.can := rfl
@[simp] theorem Dev.setLoad_sleep (d : Dev) (f : LoadSt → LoadSt) : (d.setLoad f).sleep = d.sleep := rfl
@[simp] theorem Dev.setLoad_power (d : Dev) (f : LoadSt → LoadSt) : (d.setLoad f).power = d.power := rfl
@[simp] theorem Dev.setLoad_br (d : Dev) (f : LoadSt → LoadSt) : (d.setLoad f).br = d.br := rfl
@[simp] theorem Dev.setLoad_adc (d : Dev) (f : LoadSt → LoadSt) : (d.setLoad f).adc = d.adc := rfl
@[simp] theorem Dev.setLoad_scan (d : Dev) (f : LoadSt → LoadSt) : (d.setLoad f).scan = d.scan := rfl
@[simp] theorem Dev.setLoad_dma (d : Dev) (f : LoadSt → LoadSt) : (d.setLoad f).dma = d.dma := rfl
@[simp] theorem Dev.setLoad_tenants (d : Dev) (f : LoadSt → LoadSt) : (d.setLoad f).tenants = d.tenants := rfl
@[simp] theorem Dev.setLoad_mezz (d : Dev) (f : LoadSt → LoadSt) : (d.setLoad f).mezz = d.mezz := rfl
@[simp] theorem Dev.setLoad_clk (d : Dev) (f : LoadSt → LoadSt) : (d.setLoad f).clk = d.clk := rfl
@[simp] theorem Dev.setLoad_sto (d : Dev) (f : LoadSt → LoadSt) : (d.setLoad f).sto = d.sto := rfl
@[simp] theorem Dev.setLoad_upd (d : Dev) (f : LoadSt → LoadSt) : (d.setLoad f).upd = d.upd := rfl
@[simp] theorem Dev.setLoad_held (d : Dev) (f : LoadSt → LoadSt) : (d.setLoad f).held = d.held := rfl
@[simp] theorem Dev.setLoad_harts (d : Dev) (f : LoadSt → LoadSt) : (d.setLoad f).harts = d.harts := rfl
@[simp] theorem Dev.setLoad_twin (d : Dev) (f : LoadSt → LoadSt) : (d.setLoad f).twin = d.twin := rfl
@[simp] theorem Dev.setLoad_board (d : Dev) (f : LoadSt → LoadSt) : (d.setLoad f).board = d.board := rfl
@[simp] theorem Dev.get_setLoad (d : Dev) (f : LoadSt → LoadSt) (y : Entry) : (d.setLoad f).get y = d.get y := rfl
@[simp] theorem Dev.getInt_setLoad (d : Dev) (f : LoadSt → LoadSt) (y : Entry) : (d.setLoad f).getInt y = d.getInt y := rfl
@[simp] theorem Dev.flag_setLoad (d : Dev) (f : LoadSt → LoadSt) (y : Entry) : (d.setLoad f).flag y = d.flag y := rfl
@[simp] theorem Dev.oct_setLoad (d : Dev) (f : LoadSt → LoadSt) (y : Entry) : (d.setLoad f).oct y = d.oct y := rfl
@[simp] theorem Dev.word_setLoad (d : Dev) (f : LoadSt → LoadSt) (y z : Nat) : (d.setLoad f).word y z = d.word y z := rfl
@[simp] theorem Dev.fld_setLoad (d : Dev) (f : LoadSt → LoadSt) (y : Field) : (d.setLoad f).fld y = d.fld y := rfl
@[simp] theorem Dev.isSet_setLoad (d : Dev) (f : LoadSt → LoadSt) (y : Field) : (d.setLoad f).isSet y = d.isSet y := rfl
@[simp] theorem Dev.byte_setLoad (d : Dev) (f : LoadSt → LoadSt) (y : Nat) : (d.setLoad f).byte y = d.byte y := rfl
@[simp] theorem Dev.epoch_setLoad (d : Dev) (f : LoadSt → LoadSt) (y : EpochUnit) : (d.setLoad f).epoch y = d.epoch y := rfl

@[simp] theorem Dev.setCan_dict (d : Dev) (n : Nat) (f : CanCh → CanCh) : (d.setCan n f).dict = d.dict := rfl
@[simp] theorem Dev.setCan_blobs (d : Dev) (n : Nat) (f : CanCh → CanCh) : (d.setCan n f).blobs = d.blobs := rfl
@[simp] theorem Dev.setCan_regs (d : Dev) (n : Nat) (f : CanCh → CanCh) : (d.setCan n f).regs = d.regs := rfl
@[simp] theorem Dev.setCan_mem (d : Dev) (n : Nat) (f : CanCh → CanCh) : (d.setCan n f).mem = d.mem := rfl
@[simp] theorem Dev.setCan_epochs (d : Dev) (n : Nat) (f : CanCh → CanCh) : (d.setCan n f).epochs = d.epochs := rfl
@[simp] theorem Dev.setCan_free (d : Dev) (n : Nat) (f : CanCh → CanCh) : (d.setCan n f).free = d.free := rfl
@[simp] theorem Dev.setCan_out (d : Dev) (n : Nat) (f : CanCh → CanCh) : (d.setCan n f).out = d.out := rfl
@[simp] theorem Dev.setCan_logs (d : Dev) (n : Nat) (f : CanCh → CanCh) : (d.setCan n f).logs = d.logs := rfl
@[simp] theorem Dev.setCan_limits (d : Dev) (n : Nat) (f : CanCh → CanCh) : (d.setCan n f).limits = d.limits := rfl
@[simp] theorem Dev.setCan_ctrLatch (d : Dev) (n : Nat) (f : CanCh → CanCh) : (d.setCan n f).ctrLatch = d.ctrLatch := rfl
@[simp] theorem Dev.setCan_ctrStage (d : Dev) (n : Nat) (f : CanCh → CanCh) : (d.setCan n f).ctrStage = d.ctrStage := rfl
@[simp] theorem Dev.setCan_drains (d : Dev) (n : Nat) (f : CanCh → CanCh) : (d.setCan n f).drains = d.drains := rfl
@[simp] theorem Dev.setCan_supply (d : Dev) (n : Nat) (f : CanCh → CanCh) : (d.setCan n f).supply = d.supply := rfl
@[simp] theorem Dev.setCan_time (d : Dev) (n : Nat) (f : CanCh → CanCh) : (d.setCan n f).time = d.time := rfl
@[simp] theorem Dev.setCan_d0 (d : Dev) (n : Nat) (f : CanCh → CanCh) : (d.setCan n f).d0 = d.d0 := rfl
@[simp] theorem Dev.setCan_sw (d : Dev) (n : Nat) (f : CanCh → CanCh) : (d.setCan n f).sw = d.sw := rfl
@[simp] theorem Dev.setCan_sleep (d : Dev) (n : Nat) (f : CanCh → CanCh) : (d.setCan n f).sleep = d.sleep := rfl
@[simp] theorem Dev.setCan_power (d : Dev) (n : Nat) (f : CanCh → CanCh) : (d.setCan n f).power = d.power := rfl
@[simp] theorem Dev.setCan_br (d : Dev) (n : Nat) (f : CanCh → CanCh) : (d.setCan n f).br = d.br := rfl
@[simp] theorem Dev.setCan_load (d : Dev) (n : Nat) (f : CanCh → CanCh) : (d.setCan n f).load = d.load := rfl
@[simp] theorem Dev.setCan_adc (d : Dev) (n : Nat) (f : CanCh → CanCh) : (d.setCan n f).adc = d.adc := rfl
@[simp] theorem Dev.setCan_scan (d : Dev) (n : Nat) (f : CanCh → CanCh) : (d.setCan n f).scan = d.scan := rfl
@[simp] theorem Dev.setCan_dma (d : Dev) (n : Nat) (f : CanCh → CanCh) : (d.setCan n f).dma = d.dma := rfl
@[simp] theorem Dev.setCan_tenants (d : Dev) (n : Nat) (f : CanCh → CanCh) : (d.setCan n f).tenants = d.tenants := rfl
@[simp] theorem Dev.setCan_mezz (d : Dev) (n : Nat) (f : CanCh → CanCh) : (d.setCan n f).mezz = d.mezz := rfl
@[simp] theorem Dev.setCan_clk (d : Dev) (n : Nat) (f : CanCh → CanCh) : (d.setCan n f).clk = d.clk := rfl
@[simp] theorem Dev.setCan_sto (d : Dev) (n : Nat) (f : CanCh → CanCh) : (d.setCan n f).sto = d.sto := rfl
@[simp] theorem Dev.setCan_upd (d : Dev) (n : Nat) (f : CanCh → CanCh) : (d.setCan n f).upd = d.upd := rfl
@[simp] theorem Dev.setCan_held (d : Dev) (n : Nat) (f : CanCh → CanCh) : (d.setCan n f).held = d.held := rfl
@[simp] theorem Dev.setCan_harts (d : Dev) (n : Nat) (f : CanCh → CanCh) : (d.setCan n f).harts = d.harts := rfl
@[simp] theorem Dev.setCan_twin (d : Dev) (n : Nat) (f : CanCh → CanCh) : (d.setCan n f).twin = d.twin := rfl
@[simp] theorem Dev.setCan_board (d : Dev) (n : Nat) (f : CanCh → CanCh) : (d.setCan n f).board = d.board := rfl
@[simp] theorem Dev.get_setCan (d : Dev) (n : Nat) (f : CanCh → CanCh) (y : Entry) : (d.setCan n f).get y = d.get y := rfl
@[simp] theorem Dev.getInt_setCan (d : Dev) (n : Nat) (f : CanCh → CanCh) (y : Entry) : (d.setCan n f).getInt y = d.getInt y := rfl
@[simp] theorem Dev.flag_setCan (d : Dev) (n : Nat) (f : CanCh → CanCh) (y : Entry) : (d.setCan n f).flag y = d.flag y := rfl
@[simp] theorem Dev.oct_setCan (d : Dev) (n : Nat) (f : CanCh → CanCh) (y : Entry) : (d.setCan n f).oct y = d.oct y := rfl
@[simp] theorem Dev.word_setCan (d : Dev) (n : Nat) (f : CanCh → CanCh) (y z : Nat) : (d.setCan n f).word y z = d.word y z := rfl
@[simp] theorem Dev.fld_setCan (d : Dev) (n : Nat) (f : CanCh → CanCh) (y : Field) : (d.setCan n f).fld y = d.fld y := rfl
@[simp] theorem Dev.isSet_setCan (d : Dev) (n : Nat) (f : CanCh → CanCh) (y : Field) : (d.setCan n f).isSet y = d.isSet y := rfl
@[simp] theorem Dev.byte_setCan (d : Dev) (n : Nat) (f : CanCh → CanCh) (y : Nat) : (d.setCan n f).byte y = d.byte y := rfl
@[simp] theorem Dev.epoch_setCan (d : Dev) (n : Nat) (f : CanCh → CanCh) (y : EpochUnit) : (d.setCan n f).epoch y = d.epoch y := rfl

@[simp] theorem Dev.setHart_dict (d : Dev) (k : Nat) (f : Hart → Hart) : (d.setHart k f).dict = d.dict := rfl
@[simp] theorem Dev.setHart_blobs (d : Dev) (k : Nat) (f : Hart → Hart) : (d.setHart k f).blobs = d.blobs := rfl
@[simp] theorem Dev.setHart_regs (d : Dev) (k : Nat) (f : Hart → Hart) : (d.setHart k f).regs = d.regs := rfl
@[simp] theorem Dev.setHart_mem (d : Dev) (k : Nat) (f : Hart → Hart) : (d.setHart k f).mem = d.mem := rfl
@[simp] theorem Dev.setHart_epochs (d : Dev) (k : Nat) (f : Hart → Hart) : (d.setHart k f).epochs = d.epochs := rfl
@[simp] theorem Dev.setHart_free (d : Dev) (k : Nat) (f : Hart → Hart) : (d.setHart k f).free = d.free := rfl
@[simp] theorem Dev.setHart_out (d : Dev) (k : Nat) (f : Hart → Hart) : (d.setHart k f).out = d.out := rfl
@[simp] theorem Dev.setHart_logs (d : Dev) (k : Nat) (f : Hart → Hart) : (d.setHart k f).logs = d.logs := rfl
@[simp] theorem Dev.setHart_limits (d : Dev) (k : Nat) (f : Hart → Hart) : (d.setHart k f).limits = d.limits := rfl
@[simp] theorem Dev.setHart_ctrLatch (d : Dev) (k : Nat) (f : Hart → Hart) : (d.setHart k f).ctrLatch = d.ctrLatch := rfl
@[simp] theorem Dev.setHart_ctrStage (d : Dev) (k : Nat) (f : Hart → Hart) : (d.setHart k f).ctrStage = d.ctrStage := rfl
@[simp] theorem Dev.setHart_drains (d : Dev) (k : Nat) (f : Hart → Hart) : (d.setHart k f).drains = d.drains := rfl
@[simp] theorem Dev.setHart_supply (d : Dev) (k : Nat) (f : Hart → Hart) : (d.setHart k f).supply = d.supply := rfl
@[simp] theorem Dev.setHart_time (d : Dev) (k : Nat) (f : Hart → Hart) : (d.setHart k f).time = d.time := rfl
@[simp] theorem Dev.setHart_d0 (d : Dev) (k : Nat) (f : Hart → Hart) : (d.setHart k f).d0 = d.d0 := rfl
@[simp] theorem Dev.setHart_sw (d : Dev) (k : Nat) (f : Hart → Hart) : (d.setHart k f).sw = d.sw := rfl
@[simp] theorem Dev.setHart_can (d : Dev) (k : Nat) (f : Hart → Hart) : (d.setHart k f).can = d.can := rfl
@[simp] theorem Dev.setHart_sleep (d : Dev) (k : Nat) (f : Hart → Hart) : (d.setHart k f).sleep = d.sleep := rfl
@[simp] theorem Dev.setHart_power (d : Dev) (k : Nat) (f : Hart → Hart) : (d.setHart k f).power = d.power := rfl
@[simp] theorem Dev.setHart_br (d : Dev) (k : Nat) (f : Hart → Hart) : (d.setHart k f).br = d.br := rfl
@[simp] theorem Dev.setHart_load (d : Dev) (k : Nat) (f : Hart → Hart) : (d.setHart k f).load = d.load := rfl
@[simp] theorem Dev.setHart_adc (d : Dev) (k : Nat) (f : Hart → Hart) : (d.setHart k f).adc = d.adc := rfl
@[simp] theorem Dev.setHart_scan (d : Dev) (k : Nat) (f : Hart → Hart) : (d.setHart k f).scan = d.scan := rfl
@[simp] theorem Dev.setHart_dma (d : Dev) (k : Nat) (f : Hart → Hart) : (d.setHart k f).dma = d.dma := rfl
@[simp] theorem Dev.setHart_tenants (d : Dev) (k : Nat) (f : Hart → Hart) : (d.setHart k f).tenants = d.tenants := rfl
@[simp] theorem Dev.setHart_mezz (d : Dev) (k : Nat) (f : Hart → Hart) : (d.setHart k f).mezz = d.mezz := rfl
@[simp] theorem Dev.setHart_clk (d : Dev) (k : Nat) (f : Hart → Hart) : (d.setHart k f).clk = d.clk := rfl
@[simp] theorem Dev.setHart_sto (d : Dev) (k : Nat) (f : Hart → Hart) : (d.setHart k f).sto = d.sto := rfl
@[simp] theorem Dev.setHart_upd (d : Dev) (k : Nat) (f : Hart → Hart) : (d.setHart k f).upd = d.upd := rfl
@[simp] theorem Dev.setHart_held (d : Dev) (k : Nat) (f : Hart → Hart) : (d.setHart k f).held = d.held := rfl
@[simp] theorem Dev.setHart_twin (d : Dev) (k : Nat) (f : Hart → Hart) : (d.setHart k f).twin = d.twin := rfl
@[simp] theorem Dev.setHart_board (d : Dev) (k : Nat) (f : Hart → Hart) : (d.setHart k f).board = d.board := rfl
@[simp] theorem Dev.get_setHart (d : Dev) (k : Nat) (f : Hart → Hart) (y : Entry) : (d.setHart k f).get y = d.get y := rfl
@[simp] theorem Dev.getInt_setHart (d : Dev) (k : Nat) (f : Hart → Hart) (y : Entry) : (d.setHart k f).getInt y = d.getInt y := rfl
@[simp] theorem Dev.flag_setHart (d : Dev) (k : Nat) (f : Hart → Hart) (y : Entry) : (d.setHart k f).flag y = d.flag y := rfl
@[simp] theorem Dev.oct_setHart (d : Dev) (k : Nat) (f : Hart → Hart) (y : Entry) : (d.setHart k f).oct y = d.oct y := rfl
@[simp] theorem Dev.word_setHart (d : Dev) (k : Nat) (f : Hart → Hart) (y z : Nat) : (d.setHart k f).word y z = d.word y z := rfl
@[simp] theorem Dev.fld_setHart (d : Dev) (k : Nat) (f : Hart → Hart) (y : Field) : (d.setHart k f).fld y = d.fld y := rfl
@[simp] theorem Dev.isSet_setHart (d : Dev) (k : Nat) (f : Hart → Hart) (y : Field) : (d.setHart k f).isSet y = d.isSet y := rfl
@[simp] theorem Dev.byte_setHart (d : Dev) (k : Nat) (f : Hart → Hart) (y : Nat) : (d.setHart k f).byte y = d.byte y := rfl
@[simp] theorem Dev.epoch_setHart (d : Dev) (k : Nat) (f : Hart → Hart) (y : EpochUnit) : (d.setHart k f).epoch y = d.epoch y := rfl

@[simp] theorem Dev.setSp_dict (d : Dev) (f : ServicePort → ServicePort) : (d.setSp f).dict = d.dict := rfl
@[simp] theorem Dev.setSp_blobs (d : Dev) (f : ServicePort → ServicePort) : (d.setSp f).blobs = d.blobs := rfl
@[simp] theorem Dev.setSp_regs (d : Dev) (f : ServicePort → ServicePort) : (d.setSp f).regs = d.regs := rfl
@[simp] theorem Dev.setSp_mem (d : Dev) (f : ServicePort → ServicePort) : (d.setSp f).mem = d.mem := rfl
@[simp] theorem Dev.setSp_epochs (d : Dev) (f : ServicePort → ServicePort) : (d.setSp f).epochs = d.epochs := rfl
@[simp] theorem Dev.setSp_free (d : Dev) (f : ServicePort → ServicePort) : (d.setSp f).free = d.free := rfl
@[simp] theorem Dev.setSp_out (d : Dev) (f : ServicePort → ServicePort) : (d.setSp f).out = d.out := rfl
@[simp] theorem Dev.setSp_logs (d : Dev) (f : ServicePort → ServicePort) : (d.setSp f).logs = d.logs := rfl
@[simp] theorem Dev.setSp_limits (d : Dev) (f : ServicePort → ServicePort) : (d.setSp f).limits = d.limits := rfl
@[simp] theorem Dev.setSp_ctrLatch (d : Dev) (f : ServicePort → ServicePort) : (d.setSp f).ctrLatch = d.ctrLatch := rfl
@[simp] theorem Dev.setSp_ctrStage (d : Dev) (f : ServicePort → ServicePort) : (d.setSp f).ctrStage = d.ctrStage := rfl
@[simp] theorem Dev.setSp_drains (d : Dev) (f : ServicePort → ServicePort) : (d.setSp f).drains = d.drains := rfl
@[simp] theorem Dev.setSp_supply (d : Dev) (f : ServicePort → ServicePort) : (d.setSp f).supply = d.supply := rfl
@[simp] theorem Dev.setSp_time (d : Dev) (f : ServicePort → ServicePort) : (d.setSp f).time = d.time := rfl
@[simp] theorem Dev.setSp_d0 (d : Dev) (f : ServicePort → ServicePort) : (d.setSp f).d0 = d.d0 := rfl
@[simp] theorem Dev.setSp_sw (d : Dev) (f : ServicePort → ServicePort) : (d.setSp f).sw = d.sw := rfl
@[simp] theorem Dev.setSp_can (d : Dev) (f : ServicePort → ServicePort) : (d.setSp f).can = d.can := rfl
@[simp] theorem Dev.setSp_sleep (d : Dev) (f : ServicePort → ServicePort) : (d.setSp f).sleep = d.sleep := rfl
@[simp] theorem Dev.setSp_br (d : Dev) (f : ServicePort → ServicePort) : (d.setSp f).br = d.br := rfl
@[simp] theorem Dev.setSp_load (d : Dev) (f : ServicePort → ServicePort) : (d.setSp f).load = d.load := rfl
@[simp] theorem Dev.setSp_adc (d : Dev) (f : ServicePort → ServicePort) : (d.setSp f).adc = d.adc := rfl
@[simp] theorem Dev.setSp_scan (d : Dev) (f : ServicePort → ServicePort) : (d.setSp f).scan = d.scan := rfl
@[simp] theorem Dev.setSp_dma (d : Dev) (f : ServicePort → ServicePort) : (d.setSp f).dma = d.dma := rfl
@[simp] theorem Dev.setSp_tenants (d : Dev) (f : ServicePort → ServicePort) : (d.setSp f).tenants = d.tenants := rfl
@[simp] theorem Dev.setSp_mezz (d : Dev) (f : ServicePort → ServicePort) : (d.setSp f).mezz = d.mezz := rfl
@[simp] theorem Dev.setSp_clk (d : Dev) (f : ServicePort → ServicePort) : (d.setSp f).clk = d.clk := rfl
@[simp] theorem Dev.setSp_sto (d : Dev) (f : ServicePort → ServicePort) : (d.setSp f).sto = d.sto := rfl
@[simp] theorem Dev.setSp_upd (d : Dev) (f : ServicePort → ServicePort) : (d.setSp f).upd = d.upd := rfl
@[simp] theorem Dev.setSp_held (d : Dev) (f : ServicePort → ServicePort) : (d.setSp f).held = d.held := rfl
@[simp] theorem Dev.setSp_harts (d : Dev) (f : ServicePort → ServicePort) : (d.setSp f).harts = d.harts := rfl
@[simp] theorem Dev.setSp_twin (d : Dev) (f : ServicePort → ServicePort) : (d.setSp f).twin = d.twin := rfl
@[simp] theorem Dev.setSp_board (d : Dev) (f : ServicePort → ServicePort) : (d.setSp f).board = d.board := rfl
@[simp] theorem Dev.get_setSp (d : Dev) (f : ServicePort → ServicePort) (y : Entry) : (d.setSp f).get y = d.get y := rfl
@[simp] theorem Dev.getInt_setSp (d : Dev) (f : ServicePort → ServicePort) (y : Entry) : (d.setSp f).getInt y = d.getInt y := rfl
@[simp] theorem Dev.flag_setSp (d : Dev) (f : ServicePort → ServicePort) (y : Entry) : (d.setSp f).flag y = d.flag y := rfl
@[simp] theorem Dev.oct_setSp (d : Dev) (f : ServicePort → ServicePort) (y : Entry) : (d.setSp f).oct y = d.oct y := rfl
@[simp] theorem Dev.word_setSp (d : Dev) (f : ServicePort → ServicePort) (y z : Nat) : (d.setSp f).word y z = d.word y z := rfl
@[simp] theorem Dev.fld_setSp (d : Dev) (f : ServicePort → ServicePort) (y : Field) : (d.setSp f).fld y = d.fld y := rfl
@[simp] theorem Dev.isSet_setSp (d : Dev) (f : ServicePort → ServicePort) (y : Field) : (d.setSp f).isSet y = d.isSet y := rfl
@[simp] theorem Dev.byte_setSp (d : Dev) (f : ServicePort → ServicePort) (y : Nat) : (d.setSp f).byte y = d.byte y := rfl
@[simp] theorem Dev.epoch_setSp (d : Dev) (f : ServicePort → ServicePort) (y : EpochUnit) : (d.setSp f).epoch y = d.epoch y := rfl

end Sys2Proof.Machine
end

