-- ==== Sys2Proof/WellFormed.lean ====
section
/-! DEFINITION. When a command is one that the device can be given: every operand names an instance that exists and fits the width its table gives. -/

namespace Sys2Proof

/-- The initiator exists (Table 1.2). -/
def Initiator.wf : Initiator → Bool
  | .aCore n => decide (n < 4)
  | .cCore n => decide (n < 8)
  | .executor x => decide (x < 12)
  | .engine n => decide (n < 2)
  | .dma c => decide (c < 64)
  | .bridge u => decide (u < 4)
  | .hostEngine n => decide (n < 4)
  | .se | .m0 | .mezzDma | .crypto | .switchCore | .d0 | .debug | .storage => true

/-- The attributes fit Table 1.3, the address the 40-bit space, the data the size. -/
def Txn.wf (t : Txn) : Bool :=
  t.initiator.wf && decide (t.hall < 256) && decide (t.epoch < 65536) && decide (t.addr < 2 ^ 40) && [1, 2, 4, 8, 16, 32, 64].contains t.size &&
  decide (t.data < 2 ^ (8 * t.size)) &&
  match t.kind with
  | .atomic fn => decide (fn < 16)
  | .read | .write | .posted => true

/-- Addresses, identifiers and EtherType fit their fields. -/
def Frame.wf (f : Frame) : Bool :=
  decide (f.dst < 2 ^ 48) && decide (f.src < 2 ^ 48) && decide (f.etype < 65536) && f.tags.all fun t => decide (t.vid < 4096) && decide (t.pcp < 8)

/-- ISO 11898-1 allows the frame. -/
def CanFrame.wf (f : CanFrame) : Bool :=
  decide (f.id < (if f.ide then 2 ^ 29 else 2 ^ 11)) && decide (f.dlc < 16) && decide (f.data.length ≤ (if f.fdf then 64 else 8)) &&
  !(f.fdf && f.rtr)

/-- The fields fit Table 9.1. -/
def BMsg.wf (m : BMsg) : Bool :=
  decide (m.ty < 256) && decide (m.op < 256) && decide (m.srcNode < 4096) && decide (m.srcUnit < 4) && decide (m.dst < 4096) && decide (m.sid < 2048) &&
  decide (m.epoch < 65536) && decide (m.seq < 2 ^ 32) && decide (m.tag < 2 ^ 32) && decide (m.addr < 2 ^ 40) && decide (m.size < 256) &&
  decide (m.status < 65536) && decide (m.data.length ≤ 1040) && m.auth.length == 16

/-- The fields fit Table 3.4. -/
def NdpMsg.wf (m : NdpMsg) : Bool :=
  decide (m.version < 256) && decide (m.op < 256) && decide (m.flags < 65536) && decide (m.session < 2 ^ 32) && decide (m.seq < 2 ^ 32) &&
  decide (m.node < 65536) && decide (m.status < 65536) && decide (m.epoch < 65536) && decide (m.srcMac < 2 ^ 48) && decide (m.vlan < 4096) && decide (m.srcPort < 65536) &&
  decide (m.dstPort < 65536) && decide (m.sum < 65536) && decide (m.srcIp < 2 ^ 128) && decide (m.dstIp < 2 ^ 128)

/-- The unit exists (Table 2.8). -/
def UnitId.wf : UnitId → Bool
  | .port p => decide (p < 54)
  | .queue p c => decide (p < 54) && decide (c < 9)
  | .can n => decide (n < 16)
  | .adc a => decide (a < 2)
  | .bridge u k => decide (u < 4) && decide (k < 64)
  | .dma c => decide (c < 64)
  | .hostEngine n => decide (n < 4)
  | .queuePair q => decide (q < 256)

/-- The path exists (Table 3.3). -/
def Path.wf : Path → Bool
  | .sdo n => decide (n < 16)
  | .mailbox h => decide (h < 256)
  | .udp | .gallery | .servicePort | .secureMailbox => true

/-- The command can be given. -/
def Instr.wf : Instr → Bool
  | .concourseTransaction t | .atomicTransaction t | .bridgeWindowRead t | .bridgeWindowPostedWrite t | .bridgeWindowWrite t
  | .bridgeWindowAtomic t => t.wf
  | .safeStateLine g _ | .vbatUndervoltage g _ | .vbatRecover g _ | .dieLinkTimeout g | .dieLinkReturn g => decide (g < 3)
  | .paceSample code => decide (code < 0x10000)
  | .trimStep _ | .paceFault | .paceFaultEnd | .dictReadExec | .dictWriteExec _ | .apply | .applyDiscard | .sessionIdleTimeout _
  | .storeParameters | .restoreDefaults | .storeCommit | .fdbFlush _ | .timeRateChange | .timeStep | .qualitySet | .setTime _ | .syncTimeout
  | .holdoverTimeout | .heartbeatProduce | .keepaliveReceive _ _ _ _ _ | .powerReqStandby | .powerReqSleep | .powerReqCancel | .sleepEntry
  | .sleepArm | .sleepCommit | .wakeReq _ | .engineStart | .engineStop | .engineAckFault | .engineLoad | .evtFire _ | .deadlineOverrun _
  | .stationFrameReceive _ _ | .retainSaveComplete | .changeStart _ | .changeCancel | .changeSwitch | .changeCommit | .changeWindowTimeout
  | .changeStandbyReady _ | .standbyReadyTimeout | .changeCommitReceive _ | .forceSet _ | .forceRelease _ | .forceReleaseAll | .senseStep _ _ _
  | .channelHoldExpiry | .lossHigh | .systemBusAccess _ _ _ | .dmaBurst | .migPassComplete | .migReadyReceive _ | .cryptoJobStart
  | .cryptoGcmEncrypt | .cryptoGcmDecrypt | .cryptoSha256 | .cryptoSha384 | .cryptoHmac | .cryptoP256Verify | .cryptoP384Verify
  | .cryptoP256Sign | .cryptoP384Sign | .cryptoRandom | .cryptoCopy | .cryptoJobComplete | .lcAdvance | .returnToken _ _ | .debugToken _ _
  | .swdtHalfPeriod | .swdtExpired _ | .rcoTrim _ | .sscEnd | .refLoss | .refLossEnd | .vauxOn _ | .vauxPor | .resetNLow | .resetNHigh _
  | .fatalFault _ _ _ _ | .overtempClear _ | .warmReset _ _ | .unitReset _ _ | .powerFail | .powerRestored | .spWriteFrame _ _ _
  | .spReadFrame _ | .spReadStatus | .storageAppend _ _ _ | .storageLogRead _ _ _ | .eventLogCommit | .blockRefresh _ | .retentionScrub _ _
  | .storageMount _ _ | .stagingArm | .stagingDiscard | .imageConfirm | .retryActive | .twinAliveToggle | .twinAliveLost | .twinFltLow
  | .liveKick | .livenessTimeout | .heartbeatSend | .heartbeatReceive _ _ _ _ _ _ _ _ | .heartbeatLost | .promoteWaitTimeout | .twinCmdAttach
  | .twinCmdDetach | .twinCmdHandover | .attachSnapshot | .stateMessageReceive _ _ _ _ _ _ | .inputsReceive _ _ _ _ _ _ _
  | .outputCrcReceive _ _ _ | .retainReceive _ _ | .streamsReceive _ _ | .forcesReceive _ _ _ | .detachReceive | .handoverReceive _ _
  | .handoverTimeout | .beaconSend | .partnerQuery | .partnerQueryResult _ _ | .promote | .promoteComplete | .migrateAcceptTimeout
  | .attachRetry | .attachWindowTimeout | .standbyChangeReceive _ _ | .handoverAcceptTimeout | .galleryDictRequest _ | .galleryAckReceive _ _
  | .galleryAckSend | .galleryOutcomeTimeout | .twinAliveEdge | .twinFltHigh | .arpRequest _ _ _ _ _ | .dramIdleSelfRefresh => true
  | .counterLowRead i idx sub _ => i.wf && decide (idx < 0x10000) && decide (sub < 256)
  | .counterLowWrite idx sub v | .counterHighWrite idx sub v => decide (idx < 0x10000) && decide (sub < 256) && decide (v < 0x100000000)
  | .unitEnable x _ | .unitDisable x _ | .drainDone x | .drainTimeout x => x.wf
  | .fence u k hall v | .rslotClear u k hall v | .evtSend u k hall v | .sidebandOutWrite u k hall v | .remoteMbGo u k hall v => decide (u < 4) && decide (k < 64) && decide (hall < 256) && decide (v < 0x100000000)
  | .fenceComplete u k => decide (u < 4) && decide (k < 64)
  | .dictWriteGeneric t => t.all (·.wf)
  | .applyTakeEffect i | .shadowTimeout i => decide (i < 0x10000)
  | .domainTransferTimeout i sub => decide (i < 0x10000) && decide (sub < 256)
  | .ndpOpen m | .ndpClose m | .ndpRead m | .ndpWrite m | .ndpNop m => m.wf
  | .mbGo p v => p.wf && decide (v < 0x100000000)
  | .frameClassify p f _ _ _ => decide (p < 54) && f.wf
  | .frameLanded p | .txSelect p | .copySent p _ _ | .linkQualifyStart p | .linkUp p | .holdExpiry p | .xtxdisRelease p | .gateIntervalEnd p
  | .gclChange p | .ptpMessageSend p _ _ _ | .qpRxFrame p => decide (p < 54)
  | .stwWriteComplete p c | .refillStart p c | .refillComplete p c _ | .queueFlush p c => decide (p < 54) && decide (c < 8)
  | .fdbAging mac vid => decide (mac < 0x1000000000000) && decide (vid < 4096)
  | .streamUnblock n | .streamClear n => decide (n < 0x10000)
  | .recoveryResetTimeout n => decide (n < 2048)
  | .linkDown p pins => decide (p < 54) && decide (pins < 4)
  | .triggerFire u => decide (u < 32)
  | .triggerPulseEnd n | .trigEdgeCapture n _ _ | .capturePop n | .qpTxFrame n => decide (n < 4)
  | .snapCapture i => i.wf
  | .adjGo hall v | .doorbell hall v => decide (hall < 256) && decide (v < 0x100000000)
  | .ptpMessageReceive p dom _ => decide (p < 54) && decide (dom < 256)
  | .canSend n k v => decide (n < 16) && decide (k < 3) && decide (v < 0x100000000)
  | .canAbort n k => decide (n < 16) && decide (k < 3)
  | .canTxStart n _ | .canArbitrationLost n | .canTxComplete n | .canError n _ _ | .canRestart n | .canBusRecovered n | .dominantTimeout n
  | .nmtCommand n _ _ | .sdoRequest n _ | .sdoTimeout n | .wakePattern n _ | .trxCmdNormal n | .trxCmdRxOnly n | .trxCmdStandby n
  | .trxCmdGoToSleep n | .goToSleepTimeout n | .canIntegrationEnd n => decide (n < 16)
  | .canFrameReceive n f _ _ _ => decide (n < 16) && f.wf
  | .objHdrRead n k i | .objTailRead n k i => decide (n < 16) && decide (k < 65) && i.wf
  | .lockExpiry n k => decide (n < 16) && decide (k < 65)
  | .hbLost i => decide (i < 128)
  | .tpdoEventTimer k => decide (k < 128)
  | .keepaliveSend k | .quietTimeout k | .waitTimeout k | .keyClear k => decide (k < 32)
  | .domReqWrite v | .wakeConfirm v | .swdtKick v => decide (v < 0x100000000)
  | .wakeFrame n rate _ _ => decide (n < 16) && decide (rate < 4)
  | .wakePin w _ _ => decide (w < 2)
  | .watchWake i _ | .shuntOpen i | .shuntClose i => decide (i < 32)
  | .falseWake n | .fwCountClear n _ => decide (n < 18)
  | .bridgeConnect u m _ | .bridgeRead u m _ | .bridgePostedWrite u m _ | .bridgeWrite u m _ | .bridgeAtomic u m _ | .bridgeDictRead u m _
  | .bridgeDictWrite u m _ | .bridgeEvent u m _ | .bridgeStatusRead u m _ | .bridgeAckRequest u m _ | .bridgeResponse u m
  | .bridgeAckReceive u m | .pollResult u m => decide (u < 4) && m.wf
  | .bridgeAckSend u node unit sid => decide (u < 4) && decide (node < 4096) && decide (unit < 4) && decide (sid < 2048)
  | .bridgeRetry u sid => decide (u < 4) && decide (sid < 2048)
  | .endpointPoll u e => decide (u < 4) && decide (e < 1024)
  | .tunnelPduSend t => decide (t < 16)
  | .tunnelPduReceive u _ => decide (u < 4)
  | .taskDone x t => decide (x < 12) && decide (t < 64)
  | .taskFault x v => decide (x < 12) && decide (v < 0x10000)
  | .channelOn n _ | .channelOff n _ | .channelClear n | .channelPwmSet n _ | .pwmPeriodStart n | .inrushEnd n | .limitEntry n
  | .thermalShutdown n _ _ | .retryRestart n | .coupledRestart n | .coupledTimeout n | .retryBudgetReset n | .clampDetect n
  | .offStateCheck n _ _ _ _ | .limitingEnd n => decide (n < 24)
  | .adcStart a v => decide (a < 2) && decide (v < 256)
  | .adcRunComplete a _ => decide (a < 2)
  | .interruptSourceAssert n | .moderationExpiry n _ => decide (n < 512)
  | .claim k i => decide (k < 13) && i.wf
  | .complete k i v => decide (k < 13) && i.wf && decide (v < 0x100000000)
  | .wfiEnter k | .debugHalt k | .debugResume k | .debugStep k | .accessRegister k _ _ | .accessMemory k _ _ _ => decide (k < 13)
  | .nhallWrite k _ _ | .pllLock k | .domainSwitch k | .domainSwitchComplete k | .forcedSwitch k | .revertTimeout k => decide (k < 4)
  | .lockstepMismatch p _ _ | .pairReset p => decide (p < 4)
  | .patrolScrub _ err => decide (err < 3)
  | .dmaTailWrite c hall v => decide (c < 64) && decide (hall < 256) && decide (v < 0x100000000)
  | .dmaDescriptorFetch c | .dmaDescriptorComplete c | .dmaInvalComplete c => decide (c < 64)
  | .dmaResume c hall | .dmaAbort c hall | .dmaInval c hall => decide (c < 64) && decide (hall < 256)
  | .hallCreate h | .hallDestroy h | .hallReset h | .hallFreeze h | .hallAtRest h | .hallThaw h | .hallSave h | .hallRestore h
  | .hallMigrate h _ | .hallGo h | .hallCancel h | .hallFaultCmd h | .hallWdtExpiry h | .migAccept h _ _ _ | .migStateReceived h _ _
  | .migCommitReceive h | .migCommitTimeout h _ | .storageDescriptorFetch h | .storageRead h _ _ _ | .storageWrite h _ _ _ | .storageTrim h _
  | .storageFlush h _ | .storageCmdComplete h _ | .partitionErase h | .inDoubtAnswer h _ => decide (h < 256)
  | .hallWdtKick h hall v | .hallDoorbell h hall v => decide (h < 256) && decide (hall < 256) && decide (v < 0x100000000)
  | .watermarkWrite i v _ => decide (i < 3) && decide (v < 0x100000)
  | .leaseTake i g _ => decide (i < 64) && decide (g < 768)
  | .leaseRelease i _ => decide (i < 64)
  | .keyRevoke i => decide (i < 4)
  | .rollbackSet n => decide (n < 256)
  | .sourceStable src | .clkTrip src _ => decide (src < 3)
  | .gateOn g v _ | .gateOff g v _ => decide (g < 256) && decide (v < 1024)
  | .gatePark g | .gateUnpark g => decide (g < 256)
  | .aCoreFatal core _ => decide (core < 4)
  | .galleryHelloSend n | .galleryHelloReceive n _ | .galleryDataReceive n _ => decide (n < 2)
  | .attachReqReceive node _ _ _ _ | .attachRspReceive node _ | .beaconReceive node _ _ => decide (node < 4096)

end Sys2Proof
end

