-- ==== Sys2Proof/Tests/Slice0.lean ====
section
/-! SUPPORT. Tests: an ill-formed command for each check of WellFormed, worked examples of the spec, single commands on small states, and for
every statement with hypotheses a state and operands that meet them. -/

set_option maxRecDepth 100000
set_option Elab.async false

namespace Sys2Proof.Tests

open Sys2Proof Sys2Proof.Machine

/-! ### States the tests start from -/

/-- The reset state with a changed device. -/
def live (f : Dev → Dev) : State := ⟨[], f Dev.reset⟩

/-- The device when its raw counter reads 100 s. -/
def later (d : Dev) : Dev := { d with time := { d.time with raw := 100000000000 } }
/-- A request in the mailbox of hall 0. -/
def mbReq (w : Bool) (i s : Nat) (b : Bytes) : QReq := ⟨⟨w, i, s, 0, none, 0, false, false, false, 0, b⟩, ⟨.mailbox 0, 0, 0, []⟩, false⟩
/-- The row of FIXED_MV. -/
def fixedMv : DictRow := ⟨0x2108, 1, 1, 2, 1, 1, .u16, .rw, 800, [(720, 880)], 5, []⟩
/-- A session of binding 0 that waits for request 1. -/
def sess0 : Session := ⟨0, 0, List.replicate 32 7#8, 0, [], [], 0, false⟩
/-- A request of session 9 with a valid tag. -/
def sealed (op : Nat) (p : Bytes) : NdpMsg :=
  let m : NdpMsg := ⟨1, op, 0, 9, 1, 0, 0, 0, p, [], 0x20000000001, 1, 0xC0A80001, 40000, false, 0xC0A80101, 48211, false, 0⟩
  { m with tag := gcmTag sess0.key (le 4 9 ++ le 4 1 ++ zeros 4) (m.header ++ p) [] }
/-- A running device with that session. -/
def withSess : State := live fun d => ((d.put (Ent.Bind.MODE 0) 0).put Ent.Ndp.IPV4_ADDR 0xC0A80101).setD0 fun u => { u with sessions := [(9, sess0)] }
/-- An OPEN request under binding 0 with a valid tag. -/
def opening : NdpMsg :=
  let m : NdpMsg := ⟨1, 1, 0, 0, 0, 0, 0, 0, le 4 0 ++ zeros 16, [], 0x20000000001, 1, 0xC0A80001, 40000, false, 0xC0A80101, 48211, false, 0⟩
  { m with tag := (hmacSha256 (zeros 32) (m.header ++ m.payload)).take 16 }
/-- A frame of R79: header, payload, CRC. -/
def spReq (op seq : Nat) (p : Bytes) : Bytes :=
  let b := le 1 1 ++ le 1 op ++ le 2 0 ++ le 4 0 ++ le 4 seq ++ le 2 0 ++ le 2 0 ++ le 2 0 ++ le 2 p.length ++ p
  b ++ le 4 (crc32 b)
/-- A broadcast frame of 64 bytes. -/
def bcast : Frame := ⟨0xFFFFFFFFFFFF, 0x20000000005, [], none, 0x1234, zeros 46⟩
/-- The device with a link up at port 3 and one at port 7. -/
def linked (f : Dev → Dev) : State := live fun d => f ((d.setLink 3 fun l => { l with up := true }).setLink 7 fun l => { l with up := true })
/-- A copy of `bcast` from port 3 in a state. -/
def copyIn (st : CopyState) (k : Option Nat) : Copy := ⟨1, k, st, 1, 1, 0, 0, 0, false, none, false, bcast, 1, 3, false, false⟩
/-- Queue 2 of port 7 holds that copy. -/
def queued (st : CopyState) (k : Option Nat) (latched : Bool) : State :=
  linked fun d => d.setSw fun w => { w with queues := KV.insert (qKey 7 2) ⟨[copyIn st k], latched, 0, false⟩ w.queues, stores := [(5, ⟨1, 1, true, false⟩)], nextStore := 6 }
/-- A session key of a bridge. -/
def brKey : Bytes := List.replicate 32 9#8
/-- A session that unit 0 serves, of unit 0 of node 5. -/
def brX : BServe := ⟨0x20000000009, 0, brKey, 0, [], [], 1, none, 0, 0, none, 0⟩
/-- A message whose tag is right. -/
def tagged (m : BMsg) : BMsg := { m with auth := (gcmSeal brKey m.nonce (m.header ++ m.data) []).2 }
/-- A request of that session, with a right tag. -/
def brReq (op addr size tag : Nat) (data : Bytes) : BMsg :=
  tagged { ty := 3, op, spec := false, enc := false, srcNode := 5, srcUnit := 0, dst := 1, sid := 3, epoch := 0, seq := 1, tag, addr, size, status := 0, data, auth := [] }
/-- Unit 0 with its address and an export of all rights for that requester. -/
def exporting (f : Dev → Dev) : State := live fun d =>
  f ((d.putOct (Ent.Bu.BU_MAC 0) (bytesOf [2, 0, 0, 0, 0, 9])).putOct (Ent.Bu.EXPORTS 0) (le 2 0x8005 ++ bytesOf [0, 0x3F, 0, 0, 0, 0] ++ le 4 0x1200 ++ le 4 16 ++ zeros 1008))
/-- Unit 0 serves the session. -/
def serving : State := exporting fun d => (d.putOct (Ent.Bu.ENDPOINTS 0) (le 2 0x8005 ++ le 2 3 ++ zeros 8188)).setBr fun b => { b with serve := KV.insert (5 * 2048 + 3) brX b.serve }
/-- Context 2 of unit 0 has a window and an open session with these requests unresolved. -/
def requester (l : List BReq) : State := live fun d =>
  (((((d.putOct (Ent.Bu.BU_MAC 0) (bytesOf [2, 0, 0, 0, 0, 9])).put (Ent.Bctx.STATE 2) 1).put (Ent.Bctx.WIN_SIZE 2) 65536).put (Ent.Bctx.PREFETCH 2) 0).put (Ent.Bctx.MODE 2) 0).setBrSess 0 2 fun s => { s with state := 2, key := brKey, sent := l }
/-- A request of context 2 that is unresolved. -/
def asked (op : Nat) : BReq := ⟨{ ty := 3, op, spec := false, enc := false, srcNode := 0, srcUnit := 0, dst := 5, sid := 2, epoch := 0, seq := 1, tag := 7, addr := 0, size := 2, status := 0, data := [], auth := [] }, 4, 0, 1, 0x40000000, false, none⟩
/-- The response to request 1 of context 2. -/
def brRsp (op sid tag : Nat) (data : Bytes) : BMsg := tagged { ty := 4, op, spec := false, enc := false, srcNode := 0, srcUnit := 0, dst := 5, sid, epoch := 0, seq := 1, tag, addr := 0, size := 2, status := 0, data, auth := [] }
/-- An encrypted response, and what it says. -/
def hiddenRsp (op sid tag : Nat) (c : Bytes) : BMsg :=
  let m : BMsg := { ty := 4, op, spec := false, enc := true, srcNode := 0, srcUnit := 0, dst := 5, sid, epoch := 0, seq := 1, tag, addr := 0, size := 2, status := 0, data := c, auth := [] }
  { m with auth := gcmTag brKey m.nonce m.header c }
def shownRsp (op sid tag : Nat) (c : Bytes) : BMsg := { hiddenRsp op sid tag c with data := gcmCtr brKey (hiddenRsp op sid tag c).nonce c }
/-- A scan image of the given sections (kind, content), in Table 10.11's layout with a right hash. -/
def mkImage (id base : Nat) (l : List (Nat × Bytes)) : Bytes :=
  let pad (b : Bytes) : Bytes := b ++ zeros ((16 - b.length % 16) % 16)
  let off0 := 64 + 16 * l.length
  let offs := (l.foldl (fun (a : Nat × List Nat) s => (a.1 + (pad s.2).length, a.2 ++ [a.1])) (off0, [])).2
  let table := (l.zip offs).flatMap fun x => le 2 x.1.1 ++ bytesOf [0xFF, 0] ++ le 4 x.2 ++ le 4 x.1.2.length ++ zeros 4
  let body := table ++ l.flatMap fun s => pad s.2
  bytesOf [0x4E, 0x53, 0x43, 0x4E] ++ le 2 1 ++ le 2 l.length ++ le 4 (64 + body.length) ++ le 4 id ++ le 4 base ++ zeros 12 ++ sha256 body ++ body
/-- A cyclic task 0 with unit 3, an event task 16 of kind 2, a variable 7 of 4 bytes in the input image, and station slot 9. -/
def imageA (id base : Nat) : Bytes :=
  mkImage id base
    [(3, bytesOf [0, 1, 5, 3] ++ le 4 1000 ++ le 4 500 ++ zeros 4 ++ le 4 0x02020000 ++ le 4 0x02040000 ++ zeros 8 ++
        bytesOf [16, 1, 4, 0xFF] ++ zeros 4 ++ le 4 500 ++ zeros 4 ++ le 4 0x02020000 ++ le 4 0x02040000 ++ bytesOf [2, 0, 0, 0] ++ zeros 4),
     (4, []), (5, []), (6, bytesOf [9, 0] ++ le 2 4 ++ le 2 0 ++ bytesOf [0, 3] ++ le 4 16 ++ le 4 0 ++ zeros 4),
     (7, le 4 7 ++ le 2 7 ++ bytesOf [0, 0xFF] ++ le 4 0 ++ le 4 4 ++ zeros 8)]
/-- The device holds that image as the active one, its engine in a state. -/
def scanning (st : Nat) (f : Dev → Dev) : State := live fun d =>
  f (((d.put Ent.Se.STATE st).putOct Ent.Seimg.ACTIVE_IMAGE (imageA 5 0)).put Ent.Se.ACTIVE_ID 5)
/-- An online change to a second image is at a point. -/
def changing : Change := ⟨imageA 6 5, none, 1, 0, false, none, 5, 0, 0, 0, 0, [], 0⟩
/-- Source 25 is enabled with priority 3 for core page 4 and pending. -/
def interrupting : State := live fun d =>
  ((((d.setFld (Rg.Src.ENABLE 40) 1).setFld (Rg.Src.PRIORITY 40) 3).setFld (Rg.Src.TARGET 40) 4).setFld (Rg.Src.PENDING 40) 1)
/-- A descriptor of a channel: copy, or fill, of some bytes. -/
def dmaDesc (op len src dst : Nat) : Bytes := le 4 (2 ^ 31 + op) ++ le 4 len ++ le 8 src ++ le 8 dst ++ zeros 8
/-- Channel 2 is ENABLED, its ring of 4 at 0x0120_0000 holds one descriptor. -/
def dmaState (f : Dev → Dev) : State := live fun d =>
  f ((((d.put (Ent.Dma.STATE 2) 1).setFld (Rg.Dmar.RING_LO 2) (0x1200000 / 32)).setFld (Rg.Dmar.TAIL 2) 1).writeMem 0x1200000 (dmaDesc 1 64 0x1201000 0x1202000))
/-- It is executing it. -/
def dmaActive (f : Dev → Dev) : State := dmaState fun d =>
  f ((d.setFld (Rg.Dmar.ACTIVE 2) 1).setCh 2 fun x => { x with desc := dmaDesc 1 64 0x1201000 0x1202000 })
/-- Hall 3 is in a state. -/
def hallAt (st : Nat) (f : Dev → Dev) : State := live fun d => f (d.put (Ent.Hall.STATE 3) st)
/-- A migration of hall 3. -/
def moving : Migration := ⟨3, true, 1, false, none, false, 1024, 8, false, 0⟩
/-- A crypto descriptor: input at 0x0120_1000, output at 0x0120_2000, the rest beyond. -/
def cryBytes (op flags len : Nat) : Bytes :=
  bytesOf [op, flags, 4, 0] ++ le 4 len ++ le 8 0x1201000 ++ le 8 0x1202000 ++ le 8 0x1203000 ++ le 4 0 ++ le 8 0x1204000 ++ le 8 0x1205000 ++ le 8 0x1206000
/-- The crypto unit runs such a job; slot 4 holds a key of a usage. -/
def crypting (b : Bytes) (usage : Nat) (f : Dev → Dev) : State := live fun d =>
  f ((((d.put (Ent.Key.LOADED 4) 1).put (Ent.Key.USAGE 4) usage).putOct (Ent.Key.KEY 4) (zeros 31 ++ [5#8] ++ zeros 16)).setMezz fun m => { m with job := some ⟨b, none⟩ })
/-- The NAND had nothing to do. -/
def noWork : NandWork := ⟨0, [], [], 0, 0, 0⟩
/-- Hall 0's storage ring runs one command. -/
def stoJob (c : StCmd) : State := live fun d => d.setRing 0 [c]
/-- A device of a pair in a role, with heartbeats and lane 0 up under a key. -/
def twinned (role : Nat) (f : Dev → Dev) : State := live fun d =>
  f ((((d.put Ent.Twc.TWIN_EN 1).put Ent.Tws.ROLE role).setLane 0 fun l => { l with up := true, key := some (zeros 32) }).put Ent.Tws.PATHS 9)
/-- The gallery key is loaded in slot 0; lane 0 has sent its nonce. -/
def galleryKeyed (f : Dev → Dev) : State := live fun d =>
  f (((d.put (Ent.Key.LOADED 0) 1).putOct (Ent.Key.KEY 0) (zeros 32)).put (Ent.Port.STATE 52) 1)
/-- A HELLO of the partner at position 1, on lane 0. -/
def helloWire : Bytes :=
  let b := laneHeader 1 2 32 1 ++ List.replicate 16 7#8 ++ be 6 0x20000000002 ++ le 2 1 ++ le 2 0 ++ zeros 6
  laneWire (b ++ (hmacSha256 (zeros 32) b).take 16)

/-! ### Protected messages

Their tags are right by their definitions, so nothing here computes a cipher. -/

theorem gcmOpen_tag (k n a : Bytes) : gcmOpen k n a [] (gcmTag k n a []) = some [] := by simp [gcmOpen, gcmCtr, blocks16]

theorem gcmSeal_nil (k n a : Bytes) : (gcmSeal k n a []).2 = gcmTag k n a [] := by simp [gcmSeal, gcmCtr, blocks16]

theorem sealed_opens (op : Nat) (p : Bytes) : withSess.dev.ndpOpened sess0 (sealed op p) = some p := by
  have h : withSess.dev.sessionMode sess0 = 0 := by decide +kernel
  rw [Dev.ndpOpened, h]
  show (if (bit 0 1 != (0 == 1)) = true then none else if 0 = 1 then _ else _) = _
  rw [if_neg (by decide), if_neg (by decide)]
  exact congrArg (Option.map fun _ => p) (gcmOpen_tag sess0.key (le 4 9 ++ le 4 1 ++ zeros 4) _)

/-- A sealed request is the session's next one. -/
theorem sealed_next (op : Nat) (p : Bytes) : NextInSession withSess.dev (sealed op p) sess0 p :=
  ⟨rfl, by decide +kernel, rfl, rfl, rfl, rfl, rfl, sealed_opens op p, rfl, (by decide +kernel : withSess.dev.ndpQueued 9 < 8),
    (by decide +kernel : 1 = seqAfter (withSess.dev.ndpQueued 9 + 1) sess0.last), rfl, rfl⟩

theorem tagged_opens (m : BMsg) (h : m.enc = false) : (tagged m).openUnder brKey = some (tagged m) := by
  have e : (tagged m).auth = gcmTag brKey m.nonce (m.header ++ m.data) [] := gcmSeal_nil brKey m.nonce (m.header ++ m.data)
  have he : (tagged m).enc = false := h
  rw [BMsg.openUnder, he, e]
  exact congrArg (Option.map fun _ => tagged m) (gcmOpen_tag brKey m.nonce (m.header ++ m.data))

theorem request_opens (op addr size tag : Nat) (data : Bytes) : (brReq op addr size tag data).openUnder brKey = some (brReq op addr size tag data) := by
  unfold brReq
  exact tagged_opens _ rfl

/-- A request of the session that the unit serves is its next one. -/
theorem served_next (op addr size tag : Nat) (data : Bytes)
    (h : serving.dev.exportCheck (serving.dev.exportFor 0 ((brReq op addr size tag data).srcNode + (brReq op addr size tag data).srcUnit * 4096)) (brReq op addr size tag data) = .ok) :
    NextServed serving.dev 0 op (brReq op addr size tag data) brX (brReq op addr size tag data) :=
  ⟨by decide +kernel, rfl, rfl, (by decide : 0 < 4), (by decide : 5 < 4096), (by decide : 3 < 2048), (by decide +kernel : KV.find (serveKey 0 (brReq 2 0 0 0 [])) serving.dev.br.serve = some brX),
    rfl, rfl, rfl,
    (by decide +kernel : false = (leAt ((serving.dev.exportFor 0 (5 + 0 * 4096)).getD []) 5 1 == 1)), request_opens op addr size tag data, h⟩

/-- A response to the one unresolved request of a requester's session resolves it. -/
theorem response_resolves (r : BReq) (op sid tag : Nat) (data : Bytes) (s : BSess) (d : Dev) (hs : d.brSess 0 sid = s)
    (h : s.key = brKey ∧ s.waiting = [] ∧ s.fresh 1 = true ∧ s.sent.find? (fun x => x.msg.seq == tag) = some r ∧ d.board.nodeId = 0 ∧
      false = (d.sessMode 0 sid == 1)) (hg : r.gone = false) (ho : op ≠ 1 ∧ op ≠ 0x0A) :
    Resolves d 0 (brRsp op sid tag data) (brRsp op sid tag data) r := by
  have e : (d.brSess 0 (brRsp op sid tag data).sid) = s := hs
  obtain ⟨hk, hw, hf, hr, hn, he⟩ := h
  refine ⟨rfl, hn.symm, rfl, fun _ => rfl, ho.1, ho.2, ?_, he, ?_, ?_, ?_, hg, ?_⟩
  all_goals rw [e]
  · rw [hk]; decide
  · rw [hk]; exact tagged_opens _ rfl
  · exact hf
  · exact hr
  · exact hw

theorem hidden_opens (op sid tag : Nat) (c : Bytes) : (hiddenRsp op sid tag c).openUnder brKey = some (shownRsp op sid tag c) := by
  have g : gcmOpen brKey (hiddenRsp op sid tag c).nonce (hiddenRsp op sid tag c).header c (hiddenRsp op sid tag c).auth =
      some (gcmCtr brKey (hiddenRsp op sid tag c).nonce c) := if_pos rfl
  exact congrArg (Option.map fun p => { hiddenRsp op sid tag c with data := p }) g

/-- An encrypted response of a poll's session resolves its request. -/
theorem hidden_resolves (r : BReq) (op sid tag : Nat) (c : Bytes) (s : BSess) (d : Dev) (hs : d.brSess 0 sid = s)
    (h : s.key = brKey ∧ s.waiting = [] ∧ s.fresh 1 = true ∧ s.sent.find? (fun x => x.msg.seq == tag) = some r ∧ d.board.nodeId = 0 ∧
      true = (d.sessMode 0 sid == 1)) (hg : r.gone = false) (ho : op ≠ 1 ∧ op ≠ 0x0A) :
    Resolves d 0 (hiddenRsp op sid tag c) (shownRsp op sid tag c) r := by
  have e : (d.brSess 0 (hiddenRsp op sid tag c).sid) = s := hs
  obtain ⟨hk, hw, hf, hr, hn, he⟩ := h
  refine ⟨rfl, hn.symm, rfl, fun _ => rfl, ho.1, ho.2, ?_, he, ?_, ?_, ?_, hg, ?_⟩
  all_goals rw [e]
  · rw [hk]; decide
  · rw [hk]; exact hidden_opens op sid tag c
  · exact hf
  · exact hr
  · exact hw

/-- Reading what was stored. -/
theorem readMem_writeMem (d : Dev) (a : Nat) (b : Bytes) : (d.writeMem a b).readMem a b.length = b := by
  have h : ∀ (n : Nat) (e : Dev) (x : Nat) (z : Bytes), z.length = n → (∀ i (hi : i < z.length), e.byte (x + i) = z[i]) → e.readMem x n = z := by
    intro n
    induction n with
    | zero => intro e x z hc _; rw [List.length_eq_zero_iff.mp hc]; rfl
    | succ n ih =>
      intro e x z hc hb
      match z, hc with
      | y :: r, hc =>
        rw [Dev.readMem, ih e (x + 1) r (by simpa using hc) fun i hi => by
          rw [show x + 1 + i = x + (i + 1) by omega, hb (i + 1) (by simpa using hi)]; rfl]
        exact congrArg (· :: r) (hb 0 (by simp))
  exact h b.length _ _ _ rfl fun i hi => Dev.byte_writeMem_same d a b i hi

theorem response_opens (op sid tag : Nat) (data : Bytes) (d : Dev) (hk : (d.brSess 0 sid).key = brKey) :
    (brRsp op sid tag data).openUnder (d.brSess 0 (brRsp op sid tag data).sid).key = some (brRsp op sid tag data) := by
  show (brRsp op sid tag data).openUnder (d.brSess 0 sid).key = _
  rw [hk]
  exact tagged_opens _ rfl

/-- A GCM decryption of nothing whose tag stands in memory. -/
def tagStored (t : Bytes) : State := crypting (cryBytes 2 1 0) 1 fun d => { d with mem := (List.range 16).map fun i => (0x1206000 + i, t.getD i 0#8) }

/-- What a unit's access meets does not depend on what memory holds. -/
theorem rangeStatus_mem (d : Dev) (m : List Host.Cell) (secure write : Bool) (a n : Nat) :
    ({ d with mem := m } : Dev).rangeStatus secure write a n = d.rangeStatus secure write a n := rfl

theorem tagStored_status (t : Bytes) (w : Bool) (a n : Nat) (h : (crypting (cryBytes 2 1 0) 1 id).dev.rangeStatus false w a n = .ok) :
    (tagStored t).dev.rangeStatus (cryDesc (cryBytes 2 1 0)).secure w a n = .ok :=
  (rangeStatus_mem _ _ _ w a n).trans h

theorem tagStored_reads (t : Bytes) : (tagStored t).dev.cryReads (cryDesc (cryBytes 2 1 0)) [(0x1201000, 0), (0x1203000, 0), (0x1204000, 12), (0x1206000, 16)] =
    (.ok, [[], [], zeros 12, (List.range 16).map fun i => t.getD i 0#8]) := by
  have e : ∀ a n, (crypting (cryBytes 2 1 0) 1 id).dev.rangeStatus false false a n = .ok →
      (tagStored t).dev.cryRead (cryDesc (cryBytes 2 1 0)) a n = (.ok, (tagStored t).dev.readMem a n) := fun a n h => by
    rw [Dev.cryRead, tagStored_status t false a n h]
  simp only [Dev.cryReads, e 0x1201000 0 (by decide +kernel), e 0x1203000 0 (by decide +kernel), e 0x1204000 12 (by decide +kernel), e 0x1206000 16 (by decide +kernel)]
  rfl

/-- The key of that decryption, and its tag. -/
def openKey : Bytes := (crypting (cryBytes 2 1 0) 1 id).dev.cryKey (cryDesc (cryBytes 2 1 0)) 32 []
def openTag : Bytes := gcmTag openKey (zeros 12) [] []

theorem openTag_bytes : ((List.range 16).map fun i => openTag.getD i 0#8) = openTag := by
  have h : openTag.length = 16 := by decide +kernel
  refine List.ext_getElem (by simp [h]) fun i h1 h2 => ?_
  simp [List.getD, h2]

theorem openTag_opens : gcmOpen ((tagStored openTag).dev.cryKey (cryDesc (cryBytes 2 1 0)) 32 [[], [], zeros 12, (List.range 16).map fun i => openTag.getD i 0#8])
    (zeros 12) [] [] ((List.range 16).map fun i => openTag.getD i 0#8) = some [] := by
  have k : (tagStored openTag).dev.cryKey (cryDesc (cryBytes 2 1 0)) 32 [[], [], zeros 12, (List.range 16).map fun i => openTag.getD i 0#8] = openKey := by
    have f : (cryDesc (cryBytes 2 1 0)).inlineKey = false := by decide +kernel
    simp only [Dev.cryKey, openKey, f, Bool.false_eq_true, if_false]
    rfl
  rw [k, openTag_bytes]
  exact gcmOpen_tag openKey (zeros 12) []

theorem tagStored_job (t : Bytes) : let c := cryDesc (cryBytes 2 1 0)
    (tagStored t).dev.cryReads c (Dev.cryKeyAt c 32 ++ [(c.input, c.len), (c.aad, c.aadLen), (c.aux, 12), (c.tag, 16)]) =
      (.ok, [[], [], zeros 12, (List.range 16).map fun i => t.getD i 0#8]) := by
  intro c
  have e : Dev.cryKeyAt c 32 ++ [(c.input, c.len), (c.aad, c.aadLen), (c.aux, 12), (c.tag, 16)] =
      [(0x1201000, 0), (0x1203000, 0), (0x1204000, 12), (0x1206000, 16)] := by decide +kernel
  rw [e]
  exact tagStored_reads t

theorem openTag_job : let c := cryDesc (cryBytes 2 1 0)
    let l := [[], [], zeros 12, (List.range 16).map fun i => openTag.getD i 0#8]
    gcmOpen ((tagStored openTag).dev.cryKey c 32 l) (nth (afterKey c l) 2) (nth (afterKey c l) 1) (nth (afterKey c l) 0) (nth (afterKey c l) 3) = some [] := by
  intro c l
  have f : afterKey c l = l := by
    have g : c.inlineKey = false := by decide +kernel
    simp only [afterKey, g, Bool.false_eq_true, if_false]
  rw [f]
  exact openTag_opens

/-- A signature has the length of its two numbers. -/
theorem sign_length (c : Curve) (hash : Bytes → Bytes) (blk priv : Nat) (digest : Bytes) : (c.sign hash blk priv digest).length = 2 * c.bytes := by
  unfold Curve.sign
  dsimp only
  split <;> simp [be, zeros] <;> omega

theorem laneWire_ok (b : Bytes) (h : 32 ≤ b.length) : wireOk (laneWire b) = true := by
  have c : crc32 b < 2 ^ 32 := by unfold crc32; exact BitVec.isLt _
  have l : (laneWire b).length = b.length + 4 := by simp [laneWire]
  have e : slice (laneWire b) b.length 4 = le 4 (crc32 b) := by simp [slice, laneWire]
  have t : (laneWire b).take b.length = b := by simp [laneWire]
  rw [wireOk, l, Nat.add_sub_cancel, leAt, e, t, ofLe_le]
  simp only [Bool.and_eq_true, decide_eq_true_eq, beq_iff_eq]
  omega

/-- The header of a DATA frame of nothing, its tag, the frame. -/
def dataHead : Bytes := laneHeader 2 2 0 1
def dataTag : Bytes := gcmTag (zeros 32) (laneNonce 2 1) dataHead []
def dataWire : Bytes := laneWire (dataHead ++ dataTag)

theorem dataTag_length : dataTag.length = 16 := by decide +kernel

theorem dataWire_ok : wireOk dataWire = true := laneWire_ok _ (by decide +kernel)

theorem dataWire_opens : gcmOpen (zeros 32) (laneNonce (leAt dataWire 1 1) (leAt dataWire 8 8)) (dataWire.take 16) (slice dataWire 16 (leAt dataWire 2 2))
    (slice dataWire (dataWire.length - 20) 16) = some [] := by
  have l : dataWire.length - 20 = dataHead.length := by decide +kernel
  have n : laneNonce (leAt dataWire 1 1) (leAt dataWire 8 8) = laneNonce 2 1 := by decide +kernel
  have h : dataWire.take 16 = dataHead := by decide +kernel
  have z : slice dataWire 16 (leAt dataWire 2 2) = [] := by decide +kernel
  have t : slice dataWire dataHead.length 16 = dataTag := by
    have k : List.take 16 (dataTag ++ le 4 (crc32 (dataHead ++ dataTag))) = dataTag := by rw [← dataTag_length, List.take_left]
    simp [slice, dataWire, laneWire, k, dataTag_length]
  rw [l, n, h, z, t]
  exact gcmOpen_tag (zeros 32) (laneNonce 2 1) dataHead

/-- A token with LIFECYCLE 1, key slot 0 and both numbers of its signature equal to its digest, so that its key is the point of that
x-coordinate less the base point (FIPS 186-5). -/
structure Token where
  head : Bytes
  e : Nat
  x : Nat
  y : Nat

def Token.pub (t : Token) : Bytes := be 48 t.x ++ be 48 t.y
def Token.bytes (t : Token) : Bytes := t.head ++ (be 48 t.e ++ be 48 t.e)
def Token.state (t : Token) : State := live fun d =>
  { (d.putOct Ent.Sec.DBG_CHALLENGE (slice t.head 16 16)).put Ent.Sec.LIFECYCLE 1 with board := { d.board with keyHashes := [sha384 t.pub] } }

/-- A return token and a debug token; the digests and points were computed outside Lean. -/
def returnToken : Token :=
  ⟨bytesOf [0x4E, 0x52, 0x54, 0x4E, 1, 0] ++ zeros 10 ++ [1#8] ++ zeros 15,
   0x934cb710a74b4bb9a43c22baadddf95ebc91dfc5aea99ff8e0311e2fd343465a0c8e6f645aecf07e493b3b4646c1a38c,
   0x61ce0ba1eccd9986485c2c0571a90b220e0f3cbb3df72fcc7ffbfc9da8405cf8a7d0b24c303e7ad4f243439c14a42dd7,
   0x5cd34345107c2b88cd7256bc3fdc43c60418d5e8bb9ffb1b593ea4aaef7cbee358730ce77ac81f04584b511e7e9a60d0⟩
def debugToken : Token :=
  ⟨bytesOf [0x4E, 0x44, 0x42, 0x54, 1, 0, 5] ++ zeros 9 ++ [2#8] ++ zeros 15,
   0x2c0f9da048a4214505c8981478ebd955525fea8986cfa8c76be7f1eb292435696e8af652c72ad27c8ec5155a4475ade8,
   0xcab4abfac1669c0970406ee856941a5c54b347e41d729c87d1ee6f2a1cb3abc4bace69d677cc62c95414fdb1ce166fb0,
   0xb7f51dbe872e54ad7041fbd4a2114e7ca3f2c58eb0ac9150f1915ad5715bd4f939420a801059442731c74084c050c5b6⟩

theorem Token.ok (t : Token) (magic : Bytes)
    (h : (t.bytes.length == 128 && slice t.bytes 0 4 == magic && leAt t.bytes 4 2 == 1 && leAt t.bytes 8 4 == t.state.dev.board.serial &&
      slice t.bytes 16 16 == t.state.dev.oct Ent.Sec.DBG_CHALLENGE) = true)
    (f : (leAt t.bytes 7 1 = 0 ∧ bit (t.state.dev.get Ent.Sec.KEY_REVOKED) 0 = false ∧ t.pub.length = 96))
    (hs : t.bytes.take 32 = t.head) (hg : slice t.bytes 32 96 = be 48 t.e ++ be 48 t.e)
    (hd : sha384 t.head = be 48 t.e) (hv : p384.verify t.pub (be 48 t.e) (be 48 t.e ++ be 48 t.e) = true) :
    t.state.dev.tokenOk magic t.bytes t.pub = true := by
  have k : t.state.dev.fuseKey (leAt t.bytes 7 1) t.pub = true := by
    have b : t.state.dev.board.keyHashes = [sha384 t.pub] := rfl
    simp [Dev.fuseKey, f.1, f.2.1, f.2.2, b]
  rw [Dev.tokenOk, hs, hg, hd, hv, k, h]
  rfl

theorem returnToken_ok : returnToken.state.dev.tokenOk (bytesOf [0x4E, 0x52, 0x54, 0x4E]) returnToken.bytes returnToken.pub = true :=
  Token.ok _ _ (by decide +kernel) (by decide +kernel) (by decide +kernel) (by decide +kernel) (by decide +kernel) (by decide +kernel)

theorem debugToken_ok : debugToken.state.dev.tokenOk (bytesOf [0x4E, 0x44, 0x42, 0x54]) debugToken.bytes debugToken.pub = true :=
  Token.ok _ _ (by decide +kernel) (by decide +kernel) (by decide +kernel) (by decide +kernel) (by decide +kernel) (by decide +kernel)

theorem attach_passes (s : State) (compat pos node : Nat) (h : ¬ (1 < s.dev.role ∨ s.dev.engine ≠ 2 ∨ s.dev.get Ent.Chg.CHANGE_STATE ≠ 0 ∨ s.dev.tenants.mig.isSome))
    (g : compat = s.dev.get Ent.Upd.TWIN_COMPAT ∧ pos ≠ s.dev.get Ent.Tws.POSITION ∧ node = s.dev.get Ent.Twc.PEER_NODE) :
    s.dev.attachCheck node compat pos s.dev.configDigest = .ok := by
  rw [Dev.attachCheck, if_neg h, if_neg (by simp [g.1, g.2.1, g.2.2])]

/-- A hall's record without sections: 64 bytes whose digest is that of the empty string (FIPS 180-4). -/
def emptyRecord : Bytes :=
  bytesOf [0x4E, 0x48, 0x53, 0x54, 1, 0, 3, 0, 64, 0, 0, 0] ++ zeros 20 ++
    be 32 0xe3b0c44298fc1c149afbf4c8996fb92427ae41e4649b934ca495991b7852b855

theorem sha256_empty : sha256 [] = be 32 0xe3b0c44298fc1c149afbf4c8996fb92427ae41e4649b934ca495991b7852b855 := by decide +kernel

/-- A record without sections restores where nothing is in its way. -/
theorem emptyRecord_restores (d : Dev) (h : d.restoredFits 3 [] = true) : (d.restoreRecord 3 emptyRecord).1 = .ok := by
  have b : emptyRecord.drop 64 = [] := by decide +kernel
  have s : sha256 [] = slice emptyRecord 32 32 := by rw [sha256_empty]; decide +kernel
  have p : parseSections (([] : Bytes).length / 16 + 1) 0 [] = (0, some []) := rfl
  rw [Dev.restoreRecord, if_neg (by decide +kernel), b, if_neg (not_not.mpr s), p]
  have e : leAt emptyRecord 24 2 = 0 := by decide +kernel
  simp [Dev.firstIndex, e, h]

/-- No endpoint belongs to a hall but hall 0 where no record is written. -/
theorem epOf_none (d : Dev) (h : Nat) (h0 : h ≠ 0) (o : ∀ u ∈ List.range 4, d.oct (Ent.Bu.ENDPOINTS u) = zeros 8192) : d.epOf h = [] := by
  have s : ∀ i, slice (zeros 8192) i 8 = zeros 8 := fun i => by
    simp only [slice, zeros, List.drop_replicate, List.take_replicate, List.length_replicate, List.replicate_append_replicate]
    congr 1; omega
  have z : ∀ i, epHall (slice (zeros 8192) i 8) = 0 := fun i => by rw [s]; decide
  rw [Dev.epOf, List.flatMap_eq_nil_iff]
  intro u hu
  rw [List.map_eq_nil_iff, List.filter_eq_nil_iff]
  intro e _
  simp [Dev.endpoint, o u hu, z, Ne.symm h0]

/-- A hall without instances and without sections fits. -/
theorem restoredFits_none (d : Dev) (o : ∀ u ∈ List.range 4, d.oct (Ent.Bu.ENDPOINTS u) = zeros 8192)
    (q : ∀ i ∈ List.range 6, d.hallUse 3 i ≤ d.quota 3 i) (p : d.dmaOf 3 = []) (w : windowsFault d 3 = none) (c : d.get (Ent.Hall.CCORES 3) = 0) :
    d.restoredFits 3 [] = true := by
  have r : List.range 7 = List.range 6 ++ [6] := rfl
  have z : ∀ i, bit 0 i = false := fun i => by simp [bit]
  have e : d.hallUse 3 6 = 0 := by simp [Dev.hallUse, epOf_none d 3 (by decide) o]
  have a : ∀ i ∈ List.range 7, d.hallUse 3 i ≤ d.quota 3 i := fun i hi => by
    rw [r, List.mem_append, List.mem_singleton] at hi
    rcases hi with hi | rfl
    · exact q i hi
    · omega
  simp only [Dev.restoredFits, p, w, c, z, Bool.and_eq_true, List.all_eq_true, decide_eq_true_eq]
  exact ⟨⟨⟨a, by simp⟩, rfl⟩, by simp⟩

/-! ### Witnesses of the statements -/

/-- The hypotheses of SupplyAndPaceCommands are met. -/
theorem witness_SupplyAndPaceCommands :
    (∃ (s : State), Live s ∧ s.dev.supply.frozen = false ∧ s.dev.trimDue = true ∧ s.dev.get Ent.Pace.PACE_TARGET ≠ 0 ∧ s.dev.get Ent.Pace.PACE_CODE < s.dev.get Ent.Pace.PACE_TARGET ∧ 715 ≤ s.dev.get Ent.Pace.RAIL_MV ∧ s.dev.get Ent.Pace.RAIL_MV ≤ 875) ∧
    (∃ (s : State), Live s ∧ s.dev.supply.frozen = false ∧ s.dev.trimDue = true ∧ s.dev.get Ent.Pace.PACE_TARGET ≠ 0 ∧ s.dev.get Ent.Pace.PACE_TARGET ≤ s.dev.get Ent.Pace.PACE_CODE ∧ 725 ≤ s.dev.get Ent.Pace.RAIL_MV ∧ s.dev.get Ent.Pace.RAIL_MV ≤ 885) ∧
    (∃ (s : State) (up : Bool), Live s ∧ s.dev.supply.frozen = false ∧ s.dev.trimDue = true ∧ s.dev.get Ent.Pace.PACE_TARGET = 0 ∧ s.dev.get Ent.Pace.RAIL_MV < s.dev.get Ent.Pace.FIXED_MV ∧ 715 ≤ s.dev.get Ent.Pace.RAIL_MV ∧ s.dev.get Ent.Pace.RAIL_MV ≤ 875) ∧
    (∃ (s : State), Live s ∧ s.dev.get Ent.Pace.PACE_TARGET = 4096 ∧ 20 < s.dev.supply.low ∧ s.dev.supply.fault = false) ∧
    (∃ (s : State), Live s ∧ s.dev.supply.fault = true ∧ 1000 ≤ s.dev.supply.good) :=
  ⟨⟨live fun d => (d.put Ent.Pace.PACE_TARGET 4096).put Ent.Pace.RAIL_MV 800, by decide +kernel⟩,
   ⟨live fun d => ((d.put Ent.Pace.PACE_CODE 5000).put Ent.Pace.RAIL_MV 725).put Ent.Pace.PACE_TARGET 4096, by decide +kernel⟩,
   ⟨live fun d => ((d.put Ent.Pace.PACE_TARGET 0).put Ent.Pace.FIXED_MV 880).put Ent.Pace.RAIL_MV 875, false, by decide +kernel⟩,
   ⟨live fun d => d.setSupply fun x => { x with low := 21 }, by decide +kernel⟩,
   ⟨live fun d => d.setSupply fun x => { x with fault := true, good := 1000 }, by decide +kernel⟩⟩

/-- The hypotheses of CounterWordAccess are met. -/
theorem witness_CounterWordAccess :
    (∃ (s : State) (i : Initiator) (idx sub high : Nat), Live s ∧ KV.find (latchKey i idx) s.dev.ctrLatch = some ⟨idx * 256 + sub, high⟩) ∧
    (∃ (s : State) (idx sub v : Nat), Live s ∧ (counterSat idx sub = none ∨ ∃ e b, counterSat idx sub = some (e, b) ∧ e.key ≠ idx * 256 + sub)) :=
  ⟨⟨live fun d => { d with ctrLatch := [(latchKey .m0 0x2010, ⟨0x2010 * 256 + 8, 3⟩)] }, .m0, 0x2010, 8, 3, by decide +kernel⟩,
   ⟨State.reset, 0x2010, 8, 9, rfl, .inr ⟨_, _, rfl, by decide +kernel⟩⟩⟩

/-- The hypotheses of UnitLifeCommands are met. -/
theorem witness_UnitLifeCommands :
    (∃ (s : State) (x : UnitId) (secure : Bool), Live s ∧ x.valid = true ∧ s.dev.unitLeased x secure = false ∧ s.dev.unitState x = 0) ∧
    (∃ (s : State) (x : UnitId) (secure : Bool), Live s ∧ x.valid = true ∧ s.dev.unitLeased x secure = false ∧ s.dev.unitState x = 1) ∧
    (∃ (s : State) (x : UnitId), Live s ∧ x.valid = true ∧ s.dev.unitState x = 2 ∧ s.dev.unitQuiet x = true) ∧
    (∃ (s : State) (x : UnitId), Live s ∧ x.valid = true ∧ s.dev.unitState x = 2 ∧ s.dev.unitQuiet x = false ∧ s.dev.drainStart x + s.dev.drainLimit x * 1000000 ≤ s.dev.time.raw) ∧
    (∃ (s : State) (u k hall v : Nat), Live s ∧ u < 4 ∧ k < 64 ∧ s.dev.get (Ent.Bctx.HALL (bctx u k)) = hall ∧ s.dev.ctxCommand u k v true = .ok ∧ s.dev.isSet (Rg.Ctx.BUSY u k) = false) ∧
    (∃ (s : State) (u k q : Nat), Live s ∧ u < 4 ∧ k < 64 ∧ (s.dev.brCtx u k).fence = some q ∧ ((((s.dev.brSess u k).sent ++ (s.dev.brSess u k).waiting).any fun r => (r.msg.op == 3 || r.msg.op == 8) && before 32 r.msg.tag q) = false)) :=
  ⟨⟨State.reset, .bridge 3 63, 0, by decide +kernel⟩,
   ⟨live fun d => (d.put (Ent.CanSt.STATE 3) 1).put (Ent.CanSt.ENABLE 3) 1, .can 3, 0, by decide +kernel⟩,
   ⟨live fun d => d.put (Ent.CanSt.STATE 3) 2, .can 3, by decide +kernel⟩,
   ⟨live fun d => ((d.put (Ent.CanSt.STATE 3) 2).put (Ent.CanSt.DRAIN_MS 3) 0).setCan 3 fun c => { c with onBus := some ⟨some 0, ⟨1, false, false, false, false, false, 0, []⟩, 0, 0, 0⟩ }, .can 3, by decide +kernel⟩,
   ⟨live fun d => d.put (Ent.Bctx.STATE (bctx 3 63)) 1, 3, 63, 0, 1, by decide +kernel⟩,
   ⟨live fun d => d.setBrCtx 3 5 fun c => { c with fence := some 7, failed := true }, 3, 5, 7, by decide +kernel⟩⟩

/-- The hypotheses of MemoryTransactions are met. -/
theorem witness_MemoryTransactions :
    (∃ (s : State) (t : Txn) (a : Nat), Live s ∧ inMemory t.addr = true ∧ t.kind = .read ∧ s.dev.physical (s.dev.attributed t) = some a ∧ s.dev.memCheck (s.dev.attributed t) a = .ok) ∧
    (∃ (s : State) (t : Txn) (a : Nat), Live s ∧ inMemory t.addr = true ∧ (t.kind = .write ∨ t.kind = .posted) ∧ s.dev.physical (s.dev.attributed t) = some a ∧ s.dev.memCheck (s.dev.attributed t) a = .ok) ∧
    (∃ (s : State) (t : Txn) (fn a : Nat), Live s ∧ inMemory t.addr = true ∧ t.kind = .atomic fn ∧ issuesAtomics t.initiator = true ∧ s.dev.physical (s.dev.attributed t) = some a ∧ s.dev.memCheck (s.dev.attributed t) a = .ok) ∧
    (∃ (s : State) (k addr size a : Nat), Live s ∧ inMemory addr = true ∧ s.dev.mayAct k = true ∧ (s.dev.hart k).halted = true ∧ s.dev.physical (hartAccess s.dev k addr size none) = some a ∧ s.dev.memCheck (hartAccess s.dev k addr size none) a = .ok) ∧
    (∃ (s : State) (k addr size v a : Nat), Live s ∧ inMemory addr = true ∧ s.dev.mayAct k = true ∧ (s.dev.hart k).halted = true ∧ s.dev.physical (hartAccess s.dev k addr size (some v)) = some a ∧ s.dev.memCheck (hartAccess s.dev k addr size (some v)) a = .ok) ∧
    (∃ (s : State) (addr size : Nat), Live s ∧ inMemory addr = true ∧ region addr ≠ some .dramWindow ∧ size ≤ 8 ∧ (bit s.dev.dbgActive (if s.dev.debugSecure addr then 3 else 1) = true) ∧ s.dev.memCheck ⟨.debug, bit s.dev.dbgActive 3, 0, false, 0, .read, addr, size, 0⟩ addr = .ok) ∧
    (∃ (s : State) (addr size v : Nat), Live s ∧ inMemory addr = true ∧ region addr ≠ some .dramWindow ∧ size ≤ 8 ∧ (bit s.dev.dbgActive (if s.dev.debugSecure addr then 3 else 1) = true) ∧ s.dev.memCheck ⟨.debug, bit s.dev.dbgActive 3, 0, false, 0, .write, addr, size, v⟩ addr = .ok) :=
  ⟨⟨live fun d => d.writeMem 0x1200010 [7#8, 1#8], ⟨.aCore 1, false, 0, false, 0, .read, 0x1200010, 2, 0⟩, 0x1200010, by decide +kernel⟩,
   ⟨State.reset, ⟨.aCore 1, false, 0, false, 0, .posted, 0x110000010, 4, 77⟩, 0x110000010, by decide +kernel⟩,
   ⟨State.reset, ⟨.aCore 1, false, 0, false, 0, .atomic 5, 0x1200010, 4, 0xFFFFFFFF⟩, 5, 0x1200010, by decide +kernel⟩,
   ⟨live fun d => (d.put Ent.Sec.DBG_EN 3).setHart 4 fun h => { h with halted := true }, 4, 0x1200010, 4, 0x1200010, by decide +kernel⟩,
   ⟨live fun d => (d.put Ent.Sec.DBG_EN 3).setHart 4 fun h => { h with halted := true }, 4, 0x1200010, 4, 5, 0x1200010, by decide +kernel⟩,
   ⟨live fun d => d.put Ent.Sec.DBG_EN 3, 0x1200010, 4, by decide +kernel⟩,
   ⟨live fun d => d.put Ent.Sec.DBG_EN 3, 0x1200010, 4, 5, by decide +kernel⟩⟩

/-- The hypotheses of DictionaryExecutionCommands are met. -/
theorem witness_DictionaryExecutionCommands :
    (∃ (s : State) (q : QReq) (r : DictRow) (h n : Nat), Live s ∧ MailboxRequest s.dev q h ∧ q.req.write = false ∧ s.dev.checkEntry (s.dev.asker q.origin) q.req = .ok r ∧ q.req.shadow = false ∧ r.ty.bytes = some n) ∧
    (∃ (s : State) (env : WriteEnv) (q : QReq) (r : DictRow) (h : Nat), Live s ∧ MailboxRequest s.dev q h ∧ q.req.write = true ∧ PlainEntryWrite s.dev q r) ∧
    (∃ (s : State) (q : QReq) (r : DictRow) (h : Nat), Live s ∧ MailboxRequest s.dev q h ∧ q.isGeneric = true ∧ PlainEntryWrite s.dev q r) ∧
    (∃ (s : State) (t : Txn) (p : Page) (off : Nat), Live s ∧ region t.addr = some .units ∧ pageOf t.addr = some (p, off) ∧ ((∃ n, p = .storage n) ∨ (∃ n, p = .qp n)) ∧ (t.kind = .write ∨ t.kind = .posted) ∧ t.size = 4 ∧ s.dev.pageCheck (s.dev.attributed t) p off = .ok) ∧
    (∃ (s : State) (q : QReq) (r : DictRow) (h : Nat) (sh : Shadow), Live s ∧ MailboxRequest s.dev q h ∧ q.isApply 1 = true ∧ PassesChecks s.dev q r ∧ KV.find q.req.index s.dev.d0.applying = none ∧ KV.find q.req.index s.dev.d0.shadows = some sh ∧ sh.owner = (s.dev.asker q.origin).owner ∧ sh.values ≠ [] ∧ (s.dev.groupState (s.dev.withValues sh.values sh.blobs) q.req.index ((sh.values.map fun e => e.1 % 256) ++ sh.blobs.map fun e => e.1 % 256) (s.dev.asker q.origin).secure = .ok) ∧ groupFault s.dev (s.dev.withValues sh.values sh.blobs) q.req.index = none ∧ s.dev.allocs q.req.index = []) ∧
    (∃ (s : State) (q : QReq) (r : DictRow) (h : Nat), Live s ∧ MailboxRequest s.dev q h ∧ q.isApply 2 = true ∧ PassesChecks s.dev q r ∧ KV.find q.req.index s.dev.d0.applying = none ∧ (((KV.find q.req.index s.dev.d0.shadows).any fun x => x.owner != (s.dev.asker q.origin).owner) = false)) ∧
    (∃ (s : State) (i c h v : Nat) (x : Applying), Live s ∧ i = 0x3402 + c ∧ c < 9 ∧ KV.find i s.dev.d0.applying = some x ∧ x.origin.path = .mailbox h ∧ x.origin.session = 0 ∧ s.dev.tenants.mute.contains h = false ∧ s.dev.br.serve = [] ∧ x.values = [(i * 256 + 2, v)] ∧ v < 65536) ∧
    (∃ (s : State) (i : Nat) (x : Shadow), Live s ∧ KV.find i s.dev.d0.shadows = some x ∧ s.dev.passed x.since 10000000000 = true ∧ KV.find i s.dev.d0.applying = none) ∧
    (∃ (s : State) (i sub : Nat) (x : Transfer), Live s ∧ KV.find (i * 256 + sub) s.dev.d0.transfers = some x ∧ s.dev.passed x.since 10000000000 = true) ∧
    (∃ (s : State) (q : QReq) (r : DictRow) (h : Nat), Live s ∧ MailboxRequest s.dev q h ∧ q.isStore 0x1010 = true ∧ PassesChecks s.dev q r) ∧
    (∃ (s : State) (q : QReq) (r : DictRow) (h : Nat), Live s ∧ MailboxRequest s.dev q h ∧ q.isStore 0x1011 = true ∧ PassesChecks s.dev q r) ∧
    (∃ (s : State) (j : StoreJob) (h : Nat), Live s ∧ s.dev.d0.store = some j ∧ j.origin.path = .mailbox h ∧ j.origin.session = 0 ∧ s.dev.tenants.mute.contains h = false ∧ s.dev.br.serve = []) :=
  ⟨⟨live fun d => (d.put Ent.Pace.FIXED_MV 755).submit (mbReq false 0x2108 2 []), mbReq false 0x2108 2 [], fixedMv, 0, 2, by decide +kernel⟩,
   ⟨live fun d => d.submit (mbReq true 0x2108 2 (le 2 755)), plainEnv, mbReq true 0x2108 2 (le 2 755), fixedMv, 0, by decide +kernel⟩,
   ⟨live fun d => d.submit (mbReq true 0x2108 2 (le 2 755)), mbReq true 0x2108 2 (le 2 755), fixedMv, 0, by decide +kernel⟩,
   ⟨State.reset, ⟨.aCore 0, false, 0, false, 0, .write, 0x10F00000, 4, 0x1230⟩, Page.storage 0, 0, by decide +kernel, by decide +kernel, by decide +kernel, .inl ⟨0, rfl⟩, by decide +kernel⟩,
   ⟨live fun d => (d.submit (mbReq true 0x3402 0xFE [1#8])).setD0 fun u => { u with shadows := [(0x3402, ⟨(32, 0), [(0x340202, 60)], [], 0⟩)] }, mbReq true 0x3402 0xFE [1#8], ⟨0x3402, 9, 1, 0xFE, 1, 1, .u8, .wo, 0, [(1, 2)], 1, []⟩, 0, ⟨(32, 0), [(0x340202, 60)], [], 0⟩, by decide +kernel⟩,
   ⟨live fun d => (d.submit (mbReq true 0x3402 0xFE [2#8])).setD0 fun u => { u with shadows := [(0x3402, ⟨(32, 0), [(0x340202, 60)], [], 0⟩)] }, mbReq true 0x3402 0xFE [2#8], ⟨0x3402, 9, 1, 0xFE, 1, 1, .u8, .wo, 0, [(1, 2)], 1, []⟩, 0, by decide +kernel⟩,
   ⟨live fun d => d.setD0 fun u => { u with applying := [(0x3402, ⟨⟨.mailbox 0, 0, 0, []⟩, (32, 0), [(0x340202, 60)], []⟩)] }, 0x3402, 0, 0, 60, ⟨⟨.mailbox 0, 0, 0, []⟩, (32, 0), [(0x340202, 60)], []⟩, by decide +kernel⟩,
   ⟨live fun d => later (d.setD0 fun u => { u with shadows := [(0x3402, ⟨(32, 0), [(0x340202, 60)], [], 0⟩)] }), 0x3402, ⟨(32, 0), [(0x340202, 60)], [], 0⟩, by decide +kernel⟩,
   ⟨live fun d => later (d.setD0 fun u => { u with transfers := [(0x2A0101, ⟨(32, 0), 2048, [], 0⟩)] }), 0x2A01, 1, ⟨(32, 0), 2048, [], 0⟩, by decide +kernel⟩,
   ⟨live fun d => d.submit (mbReq true 0x1010 1 (le 4 0x65766173)), mbReq true 0x1010 1 (le 4 0x65766173), ⟨0x1010, 1, 1, 0x1, 4, 1, .u32, .rw, 1, [(0, 4294967295)], 1, [.volatile]⟩, 0, by decide +kernel⟩,
   ⟨live fun d => d.submit (mbReq true 0x1011 2 (le 4 0x64616F6C)), mbReq true 0x1011 2 (le 4 0x64616F6C), ⟨0x1011, 1, 1, 0x1, 4, 1, .u32, .rw, 1, [(0, 4294967295)], 1, [.volatile]⟩, 0, by decide +kernel⟩,
   ⟨live fun d => d.setD0 fun u => { u with store := some ⟨false, 1, ⟨.mailbox 0, 0, 0, []⟩⟩ }, ⟨false, 1, ⟨.mailbox 0, 0, 0, []⟩⟩, 0, by decide +kernel⟩⟩

/-- The hypotheses of NetworkDictionaryPath are met. -/
theorem witness_NetworkDictionaryPath :
    (∃ (s : State) (m : NdpMsg) (b : Nat) (k : Bytes), Live s ∧ m.op = 1 ∧ s.dev.ndpFits m = true ∧ m.version = 1 ∧ m.node = s.dev.board.nodeId ∧ s.dev.d0.running = true ∧ s.dev.flag Ent.Clk.REF_LOSS = false ∧ b = leAt m.payload 0 1 ∧ b < 16 ∧ m.payload.length = 20 ∧ s.dev.flag (Ent.Bind.ENABLE b) = true ∧ s.dev.hmacKey (s.dev.get (Ent.Bind.KEY_SLOT b)) = some k ∧ (hmacSha256 k (m.header ++ m.payload)).take 16 = m.tag ∧ ((s.dev.d0.sessions.filter fun x => x.2.binding == b).length < s.dev.get (Ent.Bind.MAX_SESSIONS b)) ∧ s.dev.d0.sessions.length < 64) ∧
    (∃ (s : State) (m : NdpMsg) (x : Session) (p : Bytes) (q : DictReq), Live s ∧ m.op = 3 ∧ NextInSession s.dev m x p ∧ ndpRequest 3 m.flags m.epoch p = .dict q ∧ s.dev.pathCount .udp < 16) ∧
    (∃ (s : State) (m : NdpMsg) (x : Session) (p : Bytes) (q : DictReq), Live s ∧ m.op = 4 ∧ NextInSession s.dev m x p ∧ ndpRequest 4 m.flags m.epoch p = .dict q ∧ s.dev.pathCount .udp < 16) ∧
    (∃ (s : State) (m : NdpMsg) (x : Session) (p : Bytes), Live s ∧ m.op = 5 ∧ NextInSession s.dev m x p ∧ s.dev.ndpQueued m.session = 0 ∧ s.dev.pathCount .udp < 16) ∧
    (∃ (s : State) (m : NdpMsg) (x : Session) (p : Bytes), Live s ∧ m.op = 2 ∧ NextInSession s.dev m x p ∧ ((s.dev.d0.queue.any fun q => q.origin.path == .udp && q.origin.session == m.session) = false) ∧ s.dev.pathCount .udp < 16) ∧
    (∃ (s : State) (id : Nat), Live s ∧ s.dev.sessionIdle id = true) ∧
    (∃ (s : State) (p : Path) (v a : Nat), Live s ∧ mbBase p = some a ∧ bit v 31 = true ∧ s.dev.fld ⟨a + 0x18, 30, 30, 0⟩ = 0 ∧ (bits (s.dev.word a 0) 31 24 = 3 ∨ bits (s.dev.word a 0) 31 24 = 4) ∧ s.dev.pathCount p < 16) ∧
    (∃ (s : State) (v6 : Bool) (target mac vlan ip : Nat), Live s ∧ s.dev.d0.running = true ∧ s.dev.flag Ent.Clk.REF_LOSS = false ∧ target ≠ 0 ∧ (target = if v6 then ofBe (s.dev.oct Ent.Ndp.IPV6_ADDR) else s.dev.get Ent.Ndp.IPV4_ADDR)) :=
  ⟨⟨live fun d => (((d.put (Ent.Bind.ENABLE 0) 1).put (Ent.Key.LOADED 0) 1).put (Ent.Bind.MAX_SESSIONS 0) 4).put Ent.Ndp.IPV4_ADDR 0xC0A80101, opening, 0, zeros 32, rfl, rfl, by decide +kernel, rfl, rfl, rfl, by decide +kernel, rfl, by decide, rfl, by decide +kernel, by decide +kernel, by simp only [NdpMsg.header, opening], by decide +kernel, by decide +kernel⟩,
   ⟨withSess, sealed 3 (le 2 0x2108 ++ le 14 2), sess0, le 2 0x2108 ++ le 14 2, ⟨false, 0x2108, 2, 0, some 0, 0, false, false, false, 0, []⟩, rfl, rfl, sealed_next 3 _, by decide +kernel, by decide +kernel⟩,
   ⟨withSess, sealed 4 (le 2 0x2108 ++ le 14 2 ++ le 2 755), sess0, le 2 0x2108 ++ le 14 2 ++ le 2 755, ⟨true, 0x2108, 2, 0, some 0, 0, false, false, false, 0, le 2 755⟩, rfl, rfl, sealed_next 4 _, by decide +kernel, by decide +kernel⟩,
   ⟨withSess, sealed 5 [], sess0, [], rfl, rfl, sealed_next 5 _, by decide +kernel, by decide +kernel⟩,
   ⟨withSess, sealed 2 [], sess0, [], rfl, rfl, sealed_next 2 _, by decide +kernel, by decide +kernel⟩,
   ⟨live fun d => later (withSess.dev), 9, by decide +kernel⟩,
   ⟨live fun d => d.putWord 0x1EF03000 0 0x03022108, Path.mailbox 3, 0x80000000, 0x1EF03000, by decide +kernel⟩,
   ⟨live fun d => d.put Ent.Ndp.IPV4_ADDR 0xC0A80002, false, 0xC0A80002, 5, 1, 0xC0A80001, by decide +kernel⟩⟩

/-- The hypotheses of ServicePortAndGalleryPath are met. -/
theorem witness_ServicePortAndGalleryPath :
    (∃ (s : State) (len op seq : Nat) (b : Bytes) (env : WakeEnv) (q : DictReq), s.dev.power.phase = .running ∧ s.dev.entering = false ∧ s.dev.power.sp.rxFree = true ∧ 24 ≤ len ∧ len ≤ 1064 ∧ b.length = len ∧ leAt b (len - 4) 4 = crc32 (b.take (len - 4)) ∧ leAt b 0 1 = 1 ∧ frameRequest (b.take (len - 4)) = (op, seq, .dict q) ∧ s.dev.d0.spCache = none ∧ s.dev.pathCount .servicePort < 16) ∧
    (∃ (s : State) (len op seq t : Nat) (b : Bytes) (env : WakeEnv) (q : DictReq) (r : DictRow), s.dev.power.phase = .asleep t ∧ s.dev.power.sp.rxFree = true ∧ 24 ≤ len ∧ len ≤ 1064 ∧ b.length = len ∧ leAt b (len - 4) 4 = crc32 (b.take (len - 4)) ∧ leAt b 0 1 = 1 ∧ frameRequest (b.take (len - 4)) = (op, seq, .dict q) ∧ s.dev.d0.spCache = none ∧ q.write = false ∧ ((rowOf q.index q.sub).any (fun r => r.notes.contains .vestibule) = true) ∧ s.dev.checkEntry ⟨0, false, (Path.servicePort.id, 0)⟩ q = .ok r) ∧
    (∃ (s : State) (whole : Bool) (w : Bytes), (s.dev.power.phase = .running ∨ s.dev.power.phase = .asleep 2 ∨ s.dev.power.phase = .asleep 3) ∧ s.dev.power.sp.response = some w) ∧
    (∃ (s : State), s.dev.power.phase = .running) ∧
    (∃ (s : State) (b : Bytes) (op seq : Nat) (q : DictReq), s.dev.power.phase = .running ∧ s.dev.d0.running = true ∧ s.dev.flag Ent.Clk.REF_LOSS = false ∧ 20 ≤ b.length ∧ leAt b 0 1 = 1 ∧ bit (leAt b 2 2) 0 = false ∧ frameRequest b = (op, seq, .dict q) ∧ ((s.dev.d0.galCache.filter fun x => x.1 == seq) = none) ∧ ((s.dev.d0.queue.any fun q => q.origin.path == .gallery && q.origin.seq == seq) = false) ∧ s.dev.pathCount .gallery < 16) :=
  ⟨⟨State.reset, 40, 3, 77, spReq 3 77 (le 2 0x2108 ++ le 14 2), noWake, ⟨false, 0x2108, 2, 0, some 0, 0, false, false, false, 0, []⟩, by decide +kernel⟩,
   ⟨live fun d => { d with power := { d.power with phase := .asleep 3 } }, 40, 3, 77, 3, spReq 3 77 (le 2 0x2100 ++ le 14 2), noWake, ⟨false, 0x2100, 2, 0, some 0, 0, false, false, false, 0, []⟩, (rowOf 0x2100 2).getD fixedMv, by decide +kernel⟩,
   ⟨live fun d => { d with power := { d.power with sp := { d.power.sp with response := some [1#8, 2#8] } } }, true, [1#8, 2#8], by decide +kernel⟩,
   ⟨State.reset, by decide +kernel⟩,
   ⟨State.reset, (spReq 3 77 (le 2 0x2108 ++ le 14 2)).take 36, 3, 77, ⟨false, 0x2108, 2, 0, some 0, 0, false, false, false, 0, []⟩, by decide +kernel⟩⟩

/-- The hypotheses of SwitchCoreCommands are met. -/
theorem witness_SwitchCoreCommands :
    (∃ (s : State) (p len landed : Nat) (f : Frame) (dec : Decision), Live s ∧ p < 54 ∧ KV.find p s.dev.sw.rx = none ∧ (s.dev.sw.link p).up = true ∧ 64 ≤ len ∧ len ≤ s.dev.get (Ent.Pcfg.MAX_FRAME p) ∧ cellsOf len ≤ s.dev.get (Ent.Pbuf.ING_RES p) ∧ (s.dev.fresh.classify p len f).1 = some dec) ∧
    (∃ (s : State) (p : Nat) (rx : Rx), Live s ∧ p < 54 ∧ KV.find p s.dev.sw.rx = some rx ∧ rx.cuts = [] ∧ rx.store = none ∧ rx.cls < 9 ∧ ((rx.dests.all fun x => decide (x.port < 54)) = true)) ∧
    (∃ (s : State) (p c : Nat) (x : Copy), Live s ∧ ((s.dev.sw.queue p c).copies.find? (fun x => x.state == .staged) = some x)) ∧
    (∃ (s : State) (p c r m : Nat) (x : Copy), Live s ∧ s.dev.refillNext p c = some (x, r, m)) ∧
    (∃ (s : State) (p c : Nat) (x : Copy), Live s ∧ ((s.dev.sw.queue p c).copies.find? (fun x => x.state == .refill) = some x) ∧ x.doomed = none ∧ s.dev.expired p c x = false) ∧
    (∃ (s : State) (p c : Nat) (x : Copy), Live s ∧ s.dev.sw.txOf p = none ∧ (s.dev.sw.link p).up = true ∧ s.dev.get (Ent.Port.STATE p) ≠ 0 ∧ s.dev.pickCopy p [8, 7, 6, 5, 4, 3, 2, 1, 0] = .start c x) ∧
    (∃ (s : State) (p c k col : Nat) (x : Copy) (st : Stored), Live s ∧ p < 54 ∧ s.dev.sw.txOf p = some (c, x) ∧ x.store = some k ∧ KV.find k s.dev.sw.stores = some st ∧ st.whole = true ∧ st.bad = false ∧ (p < 48 ∨ 52 ≤ p ∨ x.handed = true ∨ s.dev.unitOfHost p x.frame ≠ none)) :=
  ⟨⟨linked id, 3, 64, 1, bcast, ((live id).dev.classify 3 64 bcast).1.getD ⟨0, 1, [], true, false⟩, by decide +kernel⟩,
   ⟨linked fun d => d.setSw fun w => { w with rx := [(3, ⟨64, true, 1, 2, 1, [⟨7, bcast⟩], false, false, [], none, 0⟩)] }, 3, ⟨64, true, 1, 2, 1, [⟨7, bcast⟩], false, false, [], none, 0⟩, by decide +kernel⟩,
   ⟨queued .staged (some 5) true, 7, 2, copyIn .staged (some 5), by decide +kernel⟩,
   ⟨queued .stairwell none true, 7, 2, 1, 0, copyIn .stairwell none, by decide +kernel⟩,
   ⟨queued .refill (some 5) true, 7, 2, copyIn .refill (some 5), by decide +kernel⟩,
   ⟨queued .landed (some 5) false, 7, 2, copyIn .landed (some 5), by decide +kernel⟩,
   ⟨queued .tx (some 5) false, 7, 2, 5, 0, copyIn .tx (some 5), ⟨1, 1, true, false⟩, by decide +kernel⟩⟩

/-- The hypotheses of ForwardingAndPortCommands are met. -/
theorem witness_ForwardingAndPortCommands :
    (∃ (s : State) (n k : Nat), Live s ∧ (n = k ∨ n = 0xFFFF)) ∧
    (∃ (s : State) (n k : Nat), Live s ∧ (n = k ∨ n = 0xFFFF)) ∧
    (∃ (s : State) (p : Nat), Live s ∧ p < 54 ∧ s.dev.linkAllowed p = true ∧ (s.dev.sw.link p).up = false) ∧
    (∃ (s : State) (p : Nat), Live s ∧ (s.dev.sw.link p).qualifying = true ∧ (s.dev.sw.link p).up = false ∧ s.dev.linkAllowed p = true) ∧
    (∃ (s : State) (p pins : Nat), Live s ∧ p < 54 ∧ (s.dev.sw.link p).up = true) ∧
    (∃ (s : State) (p : Nat), Live s ∧ (s.dev.sw.link p).held = true) ∧
    (∃ (s : State) (p : Nat), Live s ∧ 40 ≤ p ∧ p ≤ 47 ∧ (s.dev.sw.link p).modeWait = true) ∧
    (∃ (s : State) (p : Nat) (l : GateList), Live s ∧ (s.dev.sw.sched p).oper = some l ∧ (s.dev.sw.sched p).pending = none) ∧
    (∃ (s : State) (p : Nat) (m : GateList), Live s ∧ (s.dev.sw.sched p).pending = some m) :=
  ⟨⟨live fun d => d.setStream 9 fun x => { x with blocked := true }, 0xFFFF, 9, by decide +kernel⟩,
   ⟨live fun d => d.setStream 9 fun x => { x with sat := 3 }, 9, 9, by decide +kernel⟩,
   ⟨State.reset, 24, by decide +kernel⟩,
   ⟨live fun d => d.setLink 24 fun l => { l with qualifying := true }, 24, by decide +kernel⟩,
   ⟨linked id, 3, 0, by decide +kernel⟩,
   ⟨live fun d => d.setLink 24 fun l => { l with held := true }, 24, by decide +kernel⟩,
   ⟨live fun d => d.setLink 40 fun l => { l with modeWait := true }, 40, by decide +kernel⟩,
   ⟨live fun d => d.setSched 24 fun x => { x with oper := some ⟨0, 2000, 0, 0, [(1, 1000), (2, 1000)]⟩ }, 24, ⟨0, 2000, 0, 0, [(1, 1000), (2, 1000)]⟩, by decide +kernel⟩,
   ⟨live fun d => d.setSched 24 fun x => { x with pending := some ⟨0, 2000, 0, 5000, [(1, 1000), (2, 1000)]⟩ }, 24, ⟨0, 2000, 0, 5000, [(1, 1000), (2, 1000)]⟩, by decide +kernel⟩⟩

/-- The hypotheses of TimebaseCommands are met. -/
theorem witness_TimebaseCommands :
    (∃ (s : State) (v : Nat), Live s ∧ s.dev.time.pending = none ∧ bit v 31 = true) ∧
    (∃ (s : State) (a : Adjust), Live s ∧ s.dev.time.pending = some a ∧ a.rate.isSome = true ∧ ((a.quality.all fun q => decide (q < 4)) = true)) ∧
    (∃ (s : State) (a : Adjust), Live s ∧ s.dev.time.pending = some a ∧ a.step.isSome = true ∧ ((a.quality.all fun q => decide (q < 4)) = true)) ∧
    (∃ (s : State) (a : Adjust), Live s ∧ s.dev.time.pending = some a ∧ a.quality.isSome = true ∧ ((a.quality.all fun q => decide (q < 4)) = true)) ∧
    (∃ (s : State) (v : Nat), Live s ∧ s.dev.get Ent.Prof.PROFILE = 4) ∧
    (∃ (s : State) (n phase : Nat) (rising : Bool), Live s ∧ s.dev.get (Ent.Trgp.DIR n) = 0 ∧ (bit (s.dev.get (Ent.Trgp.EDGE n)) (if rising then 0 else 1) = true) ∧ (KV.get [] n s.dev.time.captures).length < 4) ∧
    (∃ (s : State) (n : Nat) (c : Capture) (r : List Capture), Live s ∧ KV.get [] n s.dev.time.captures = c :: r) ∧
    (∃ (s : State) (p dom gm st : Nat) (self : Bool), Live s ∧ s.dev.ptpOn p = true ∧ dom = s.dev.get Ent.Prof.DOMAIN ∧ s.dev.ptpPortState p st < 256) ∧
    (∃ (s : State) (p dom t1 t2 t3 : Nat) (corr : Int) (rx : FrameStamp), Live s ∧ s.dev.ptpOn p = true ∧ s.dev.peerDelay p = true ∧ dom = s.dev.get Ent.Prof.DOMAIN ∧ KV.find (2 * p) s.dev.time.sent = some t1) ∧
    (∃ (s : State) (p phase latency : Nat), Live s ∧ s.dev.ptpOn p = true ∧ s.dev.flag Ent.Prof.ONE_STEP = true) ∧
    (∃ (s : State), Live s ∧ s.dev.time.quality = 2 ∧ s.dev.time.grandmaster = false ∧ s.dev.syncLost = true) ∧
    (∃ (s : State), Live s ∧ s.dev.time.quality = 3 ∧ ((s.dev.time.holdoverAt.all fun t => s.dev.passed t (s.dev.get Ent.Prof.HOLDOVER_S * 1000000000)) = true)) :=
  ⟨⟨live fun d => d.setFld Rg.Tb.ADJ_RATE 500, 0x80000073, by decide +kernel⟩,
   ⟨live fun d => d.setTime fun t => { t with pending := some ⟨some 5, some (-7), none⟩ }, ⟨some 5, some (-7), none⟩, by decide +kernel⟩,
   ⟨live fun d => d.setTime fun t => { t with pending := some ⟨none, some (-5), some 1⟩ }, ⟨none, some (-5), some 1⟩, by decide +kernel⟩,
   ⟨live fun d => d.setTime fun t => { t with pending := some ⟨none, none, some 2⟩ }, ⟨none, none, some 2⟩, by decide +kernel⟩,
   ⟨live fun d => d.put Ent.Prof.PROFILE 4, 1000000, by decide +kernel⟩,
   ⟨live fun d => d.put (Ent.Trgp.EDGE 2) 3, 2, 17, true, by decide +kernel⟩,
   ⟨live fun d => d.setTime fun t => { t with captures := [(2, [⟨9, 0, 0, true⟩])] }, 2, ⟨9, 0, 0, true⟩, [], by decide +kernel⟩,
   ⟨live fun d => d.put (Ent.Ptime.PTP_ENABLE 3) 1, 3, 0, 77, 3, false, by decide +kernel⟩,
   ⟨live fun d => (d.put (Ent.Ptime.PTP_ENABLE 3) 1).setTime fun t => { t with raw := 5000, sent := [(6, 100)] }, 3, 0, 100, 10, 12, 0, ⟨4000, 9, 3⟩, by decide +kernel⟩,
   ⟨live fun d => (d.put (Ent.Ptime.PTP_ENABLE 3) 1).put Ent.Prof.ONE_STEP 1, 3, 7, 3, by decide +kernel⟩,
   ⟨live fun d => d.setTime fun t => { t with quality := 2 }, by decide +kernel⟩,
   ⟨live fun d => d.setTime fun t => { t with quality := 3 }, by decide +kernel⟩⟩

/-- The hypotheses of TriggerCommands are met. -/
theorem witness_TriggerCommands :
    (∃ (s : State) (u : Nat), Live s ∧ u < 32 ∧ s.dev.flag (Ent.Trgu.ENABLE u) = true ∧ s.dev.get (Ent.Trgu.OWNER u) = 0 ∧ s.dev.get (Ent.Trgu.TARGET u) / 4096 ≠ 1 ∧ s.dev.get (Ent.Trgu.COUNT u) = 0 ∧ s.dev.get (Ent.Trgu.PERIOD_NS u) ≠ 0 ∧ ofInt 64 ((s.dev.now : Int) - s.dev.get (Ent.Trgu.NEXT_NS u)) < 2 ^ 63) ∧
    (∃ (s : State) (n x : Nat), Live s ∧ KV.find n s.dev.time.pulses = some x ∧ x ≤ s.dev.time.raw) :=
  ⟨⟨live fun d => ((d.put (Ent.Trgu.ENABLE 4) 1).put (Ent.Trgu.PERIOD_NS 4) 1000000).put (Ent.Trgu.TARGET 4) 0x5000, 4, by decide +kernel⟩,
   ⟨live fun d => d.setTime fun t => { t with raw := 600, pulses := [(1, 500)] }, 1, 500, by decide +kernel⟩⟩

/-- The hypotheses of CanTransmission are met. -/
theorem witness_CanTransmission :
    (∃ (s : State) (n k v : Nat), Live s ∧ s.dev.isSet (Rg.Txb.PENDING n k) = false ∧ bit v 30 = false ∧ (((s.dev.setFld (Rg.Txb.ONESHOT n k) (bits v 29 29)).setFld (Rg.Txb.EPV n k) (bits v 28 28)).setFld (Rg.Txb.EPOCH n k) (bits v 15 0)).sendCheck n k = .ok) ∧
    (∃ (s : State) (n k v : Nat), Live s ∧ s.dev.isSet (Rg.Txb.PENDING n k) = true ∧ bit v 30 = false) ∧
    (∃ (s : State) (n k : Nat), Live s ∧ s.dev.isSet (Rg.Txb.PENDING n k) = true ∧ (((s.dev.canCh n).onBus.any fun b => b.txb == some k) = false)) ∧
    (∃ (s : State) (n phase k : Nat), Live s ∧ s.dev.get (Ent.CanSt.STATE n) ≠ 0 ∧ s.dev.fld (Rg.Ch.BUS n) < 2 ∧ s.dev.flag (Ent.Can.LISTEN_ONLY n) = false ∧ (s.dev.canCh n).onBus = none ∧ s.dev.trxOnBus n = true ∧ s.dev.txCandidate n = some k ∧ (((s.dev.canCh n).service.head?.all fun x => arbKey (s.dev.txbFrame n k).ide (s.dev.txbFrame n k).id < arbKey (s.dev.svcFrame n x).ide (s.dev.svcFrame n x).id) = true)) ∧
    (∃ (s : State) (n k : Nat) (b : OnBus), Live s ∧ (s.dev.canCh n).onBus = some b ∧ b.txb = some k ∧ (s.dev.canCh n).aborts = [] ∧ s.dev.get (Ent.CanSt.STATE n) ≠ 2) ∧
    (∃ (s : State) (n k : Nat) (b : OnBus), Live s ∧ n < 16 ∧ (s.dev.canCh n).onBus = some b ∧ (s.dev.canCh n).released = false ∧ b.txb = some k ∧ k < 3) ∧
    (∃ (s : State) (n lec : Nat) (at_ : CanErrorAt), Live s ∧ n < 16 ∧ lec < 8 ∧ s.dev.get (Ent.CanSt.STATE n) ≠ 0 ∧ s.dev.fld (Rg.Ch.BUS n) < 2 ∧ s.dev.trxOnBus n = true ∧ s.dev.fld (Rg.Ch.TEC n) + (s.dev.errorSteps n lec at_).1 ≤ 255) ∧
    (∃ (s : State) (n : Nat), Live s ∧ s.dev.fld (Rg.Ch.BUS n) = 2) ∧
    (∃ (s : State) (n : Nat), Live s ∧ s.dev.fld (Rg.Ch.BUS n) = 2 ∧ (s.dev.canCh n).recovering = true ∧ s.dev.get (Ent.CanSt.STATE n) ≠ 0) ∧
    (∃ (s : State) (n : Nat), Live s ∧ s.dev.fld (Rg.Ch.BUS n) = 3 ∧ s.dev.get (Ent.CanSt.STATE n) ≠ 0) ∧
    (∃ (s : State) (n : Nat), Live s ∧ (s.dev.canCh n).onBus.isSome = true) :=
  ⟨⟨live fun d => (d.put (Ent.CanSt.STATE 2) 1).setFld (Rg.Ch.BUS 2) 0, 2, 1, 0xA0000000, by decide +kernel⟩,
   ⟨live fun d => d.setFld (Rg.Txb.PENDING 2 1) 1, 2, 1, 0x80000000, by decide +kernel⟩,
   ⟨live fun d => d.setFld (Rg.Txb.PENDING 2 1) 1, 2, 1, by decide +kernel⟩,
   ⟨live fun d => ((d.put (Ent.CanSt.STATE 2) 1).setFld (Rg.Ch.BUS 2) 0).setFld (Rg.Txb.PENDING 2 1) 1, 2, 3, 1, by decide +kernel⟩,
   ⟨live fun d => (d.setFld (Rg.Txb.PENDING 2 1) 1).setCan 2 fun c => { c with onBus := some ⟨some 1, ⟨5, false, false, false, false, false, 0, []⟩, 1, 2, 3⟩ }, 2, 1, ⟨some 1, ⟨5, false, false, false, false, false, 0, []⟩, 1, 2, 3⟩, by decide +kernel⟩,
   ⟨live fun d => (d.setFld (Rg.Txb.PENDING 2 1) 1).setCan 2 fun c => { c with onBus := some ⟨some 1, ⟨5, false, false, false, false, false, 0, []⟩, 1, 2, 3⟩ }, 2, 1, ⟨some 1, ⟨5, false, false, false, false, false, 0, []⟩, 1, 2, 3⟩, by decide +kernel⟩,
   ⟨live fun d => ((d.put (Ent.CanSt.STATE 2) 1).setFld (Rg.Ch.BUS 2) 0).setCan 2 fun c => { c with onBus := some ⟨some 1, ⟨5, false, false, false, false, false, 0, []⟩, 1, 2, 3⟩ }, 2, 3, .quietAck, by decide +kernel⟩,
   ⟨live fun d => d.setFld (Rg.Ch.BUS 2) 2, 2, by decide +kernel⟩,
   ⟨live fun d => ((d.setFld (Rg.Ch.BUS 2) 2).put (Ent.CanSt.STATE 2) 1).setCan 2 fun c => { c with recovering := true }, 2, by decide +kernel⟩,
   ⟨live fun d => (d.put (Ent.CanSt.STATE 2) 1).setFld (Rg.Ch.BUS 2) 3, 2, by decide +kernel⟩,
   ⟨live fun d => d.setCan 2 fun c => { c with onBus := some ⟨some 1, ⟨5, false, false, false, false, false, 0, []⟩, 1, 2, 3⟩ }, 2, by decide +kernel⟩⟩

/-- The hypotheses of CanReceptionAndServices are met. -/
theorem witness_CanReceptionAndServices :
    (∃ (s : State) (n k sof phase : Nat) (f : CanFrame) (res : Bool), Live s ∧ s.dev.canReceives n sof = true ∧ s.dev.formError n f res = false ∧ s.dev.get (Ent.CanRef.REF_ROLE n) < 2 ∧ s.dev.serves n f = false ∧ s.dev.rpdoFor n f = none ∧ f.rtr = false ∧ f.id < 2 ^ 29 ∧ k < 64 ∧ s.dev.objFor n f = some k ∧ KV.find k (s.dev.canCh n).locks = none) ∧
    (∃ (s : State) (n k : Nat) (i : Initiator), Live s ∧ k < 64 ∧ KV.find k (s.dev.canCh n).locks = none) ∧
    (∃ (s : State) (n k : Nat) (i : Initiator) (l : ObjLock), Live s ∧ k < 64 ∧ KV.find k (s.dev.canCh n).locks = some l ∧ l.holder = i.id ∧ (s.dev.canCh n).shadow = none) ∧
    (∃ (s : State) (n k : Nat) (l : ObjLock), Live s ∧ k < 64 ∧ KV.find k (s.dev.canCh n).locks = some l ∧ (s.dev.canCh n).shadow = none) ∧
    (∃ (s : State) (n node : Nat), Live s ∧ n < 16 ∧ s.dev.flag (Ent.CanCo.CO_ENABLE n) = true ∧ (node = 0 ∨ node = s.dev.get (Ent.CanCo.NODE_ID n))) ∧
    (∃ (s : State) (n idx sub : Nat) (b : Bytes), Live s ∧ s.dev.sdoRuns n = true ∧ s.dev.get (Ent.CanSt.STATE n) = 1 ∧ b = le 1 0x40 ++ le 2 idx ++ le 1 sub ++ zeros 4 ∧ idx < 2 ^ 16 ∧ sub < 2 ^ 8 ∧ (s.dev.canCh n).sdo = .idle ∧ s.dev.pathCount (.sdo n) < 16) ∧
    (∃ (s : State) (n i sub t : Nat) (b : Bytes), Live s ∧ n < 16 ∧ (s.dev.canCh n).sdo = .upload i sub t b ∧ s.dev.passed (s.dev.canCh n).sdoAt 1000000000 = true) ∧
    (∃ (s : State) (n : Nat), Live s ∧ n < 16 ∧ s.dev.get Ent.Co.PRODUCER_HB ≠ 0 ∧ s.dev.flag (Ent.CanCo.CO_ENABLE n) = true ∧ s.dev.get (Ent.CanSt.STATE n) = 1 ∧ s.dev.fld (Rg.Ch.BUS n) ≠ 2) ∧
    (∃ (s : State) (i : Nat), Live s ∧ i < 32 ∧ s.dev.get (Ent.Co.CONSUMER_HB i) % 65536 ≠ 0 ∧ takesEvent (s.dev.ev (srcCan (bits (s.dev.get (Ent.Co.CONSUMER_HB i)) 27 24)) 0x0025 (bits (s.dev.get (Ent.Co.CONSUMER_HB i)) 23 16)) s.dev) ∧
    (∃ (s : State) (k n : Nat), Live s ∧ k < 128 ∧ s.dev.get (Ent.Co.TPDO_TYPE k) = 0xFF ∧ s.dev.pdoMap false k ≠ [] ∧ s.dev.standby = false ∧ 256 ≤ s.dev.get (Ent.Co.TPDO_SLOT k) ∧ bit (s.dev.get (Ent.Co.TPDO_COB k)) 31 = false ∧ s.dev.get (Ent.Co.TPDO_CHANNEL k) = n ∧ s.dev.flag (Ent.CanCo.CO_ENABLE n) = true ∧ s.dev.get (Ent.CanCo.NMT n) = 5 ∧ s.dev.get (Ent.CanSt.STATE n) = 1 ∧ s.dev.fld (Rg.Ch.BUS n) ≠ 2) :=
  ⟨⟨live fun d => ((d.put (Ent.CanSt.STATE 2) 1).setFld (Rg.Ch.BUS 2) 0).putOct (Ent.CanObj.OBJ_TABLE 2) (le 4 (2 ^ 31 + 0x123) ++ zeros 508), 2, 0, 5, 3, ⟨0x123, false, false, false, false, false, 2, [1#8, 2#8]⟩, 0, by decide +kernel⟩,
   ⟨State.reset, 2, 5, .m0, by decide +kernel⟩,
   ⟨live fun d => d.setCan 2 fun c => { c with locks := [(5, ⟨Initiator.m0.id, 0⟩)] }, 2, 5, .m0, ⟨Initiator.m0.id, 0⟩, by decide +kernel⟩,
   ⟨live fun d => d.setCan 2 fun c => { c with locks := [(5, ⟨3, 0⟩)] }, 2, 5, ⟨3, 0⟩, by decide +kernel⟩,
   ⟨live fun d => d.put (Ent.CanCo.CO_ENABLE 2) 1, 2, 0, by decide +kernel⟩,
   ⟨live fun d => (((d.put (Ent.CanSt.STATE 2) 1).put (Ent.CanCo.CO_ENABLE 2) 1).put (Ent.CanCo.SDO_ENABLE 2) 1).put (Ent.CanCo.NMT 2) 5, 2, 0x1018, 1, le 1 0x40 ++ le 2 0x1018 ++ le 1 1 ++ zeros 4, by decide +kernel⟩,
   ⟨live fun d => later (d.setCan 2 fun c => { c with sdo := .upload 0x1018 1 0 [1#8] }), 2, 0x1018, 1, 0, [1#8], by decide +kernel⟩,
   ⟨live fun d => (((d.put (Ent.CanSt.STATE 2) 1).setFld (Rg.Ch.BUS 2) 0).put (Ent.CanCo.CO_ENABLE 2) 1).put Ent.Co.PRODUCER_HB 100, 2, by decide +kernel⟩,
   ⟨live fun d => d.put (Ent.Co.CONSUMER_HB 3) (5 * 2 ^ 16 + 100), 3, by decide +kernel⟩,
   ⟨live fun d => ((((((((d.put (Ent.CanSt.STATE 2) 1).setFld (Rg.Ch.BUS 2) 0).put (Ent.CanCo.CO_ENABLE 2) 1).put (Ent.CanCo.NMT 2) 5).put (Ent.Co.TPDO_TYPE 3) 0xFF).put (Ent.Co.TPDO_CHANNEL 3) 2).put (Ent.Co.TPDO_COB 3) 0x183).put (Ent.Co.TPDO_MAP_COUNT 3) 1).put (Ent.Co.TPDO_MAP 3 0) (16 * 65536 + 0xFE * 256 + 32), 3, 2, by decide +kernel⟩⟩

/-- The hypotheses of DomainAndTransceiverCommands are met. -/
theorem witness_DomainAndTransceiverCommands :
    (∃ (s : State) (v k : Nat), Live s ∧ k < 32 ∧ v < 2 ^ 32 ∧ bit v k = true ∧ s.dev.requested k = false ∧ (s.dev.domain k).state ≠ 0) ∧
    (∃ (s : State) (k : Nat), Live s ∧ 16 ≤ k ∧ ((s.dev.domain k).state = 1 ∨ (s.dev.domain k).state = 2) ∧ s.dev.get Ent.Slp.ENTRY < 2 ∧ s.dev.timerEnded (s.dev.domain k).sent (s.dev.get (Ent.Sdom.KA_PERIOD_MS k)) = true) ∧
    (∃ (s : State) (k : Nat), Live s ∧ (s.dev.domain k).state = 2 ∧ s.dev.timerEnded (s.dev.domain k).timer (s.dev.get (Ent.Sdom.QUIET_MS k)) = true) ∧
    (∃ (s : State) (k : Nat), Live s ∧ (s.dev.domain k).state = 3 ∧ s.dev.timerEnded (s.dev.domain k).timer (s.dev.get (Ent.Sdom.WAIT_MS k)) = true) ∧
    (∃ (s : State) (k node : Nat), Live s ∧ 16 ≤ k ∧ k < 32 ∧ node ≠ s.dev.board.nodeId ∧ s.dev.listens k = true ∧ s.dev.flag (Ent.Sdom.KA_EN k) = true ∧ ((s.dev.domain k).state = 3 ∨ (s.dev.domain k).state = 4) ∧ s.dev.get Ent.Slp.ENTRY < 2) ∧
    (∃ (s : State) (n : Nat), Live s ∧ s.dev.get Ent.Slpm.MODEL = 1 ∧ s.dev.get Ent.Slp.ENTRY < 2) ∧
    (∃ (s : State) (n : Nat), Live s ∧ s.dev.get Ent.Slpm.MODEL = 1 ∧ s.dev.get Ent.Slp.ENTRY < 2) ∧
    (∃ (s : State) (n : Nat), Live s ∧ s.dev.get Ent.Slpm.MODEL = 1 ∧ KV.get 0 n s.dev.sleep.trx = 3 ∧ s.dev.passed ((KV.find n s.dev.sleep.trxAt).getD s.dev.time.raw) 49900 = true) ∧
    (∃ (s : State) (v n : Nat), Live s ∧ n < 18 ∧ bit v n = true ∧ s.dev.windowRuns n = true) ∧
    (∃ (s : State) (n : Nat), Live s ∧ s.dev.windowRuns n = true ∧ s.dev.passed ((KV.find n s.dev.sleep.opened).getD 0) (s.dev.get (Ent.Wsrc.FW_WINDOW_MS n) * 1000000) = true ∧ s.dev.get (Ent.Wsrc.FW_COUNT n) < s.dev.get (Ent.Wsrc.FW_THRESH n)) ∧
    (∃ (s : State) (n v : Nat), Live s ∧ n < 18) :=
  ⟨⟨live fun d => d.setDomain 3 fun x => { x with state := 2 }, 8, 3, by decide +kernel⟩,
   ⟨live fun d => later (d.setDomain 19 fun x => { x with state := 1 }), 19, by decide +kernel⟩,
   ⟨live fun d => later (d.setDomain 19 fun x => { x with state := 2 }), 19, by decide +kernel⟩,
   ⟨live fun d => later (d.setDomain 19 fun x => { x with state := 3 }), 19, by decide +kernel⟩,
   ⟨live fun d => ((d.put (Ent.Port.STATE 27) 1).put (Ent.Sdom.KA_EN 19) 1).setDomain 19 fun x => { x with state := 4 }, 19, 5, by decide +kernel⟩,
   ⟨live fun d => (d.put Ent.Slpm.MODEL 1).setTrx 2 3, 2, by decide +kernel⟩,
   ⟨live fun d => d.put Ent.Slpm.MODEL 1, 2, by decide +kernel⟩,
   ⟨live fun d => later ((d.put Ent.Slpm.MODEL 1).setTrx 2 3), 2, by decide +kernel⟩,
   ⟨live fun d => d.setFldBit Rg.Slpr.FW_PENDING 3 true, 8, 3, by decide +kernel⟩,
   ⟨live fun d => later ((d.put (Ent.Wsrc.FW_THRESH 3) 9).windowOpens 3), 3, by decide +kernel⟩,
   ⟨live fun d => d.put (Ent.Wsrc.FW_COUNT 3) 7, 3, 5, by decide +kernel⟩⟩

/-- The hypotheses of SleepEntryAndWakeCommands are met. -/
theorem witness_SleepEntryAndWakeCommands :
    (∃ (s : State), Live s ∧ s.dev.get Ent.Slpm.MODEL = 0 ∧ s.dev.running = false ∧ s.dev.role = 0 ∧ s.dev.get Ent.Slp.ENTRY < 2) ∧
    (∃ (s : State), Live s ∧ s.dev.get Ent.Slpm.MODEL = 0 ∧ s.dev.running = false ∧ s.dev.role = 0 ∧ s.dev.get Ent.Slp.ENTRY < 2) ∧
    (∃ (s : State), Live s ∧ s.dev.get Ent.Slpm.MODEL = 0 ∧ s.dev.get Ent.Slp.ENTRY < 2) ∧
    (∃ (s : State) (t : Nat), Live s ∧ s.dev.entryTarget = some t) ∧
    (∃ (s : State), Live s ∧ s.dev.get Ent.Slp.ENTRY = 2 ∧ ((entryUnits.any fun x => s.dev.unitState x != 0) = false)) ∧
    (∃ (s : State), Live s ∧ s.dev.get Ent.Slp.ENTRY = 3) ∧
    (∃ (s : State) (n t : Nat) (env : WakeEnv), n < 16 ∧ s.dev.power.phase = .asleep t ∧ s.dev.get Ent.Slpm.MODEL = 0 ∧ s.dev.trxState n = 3) ∧
    (∃ (s : State) (n t rate : Nat) (f : CanFrame) (env : WakeEnv), n < 16 ∧ s.dev.power.phase = .asleep t ∧ s.dev.get Ent.Slpm.MODEL = 0 ∧ s.dev.trxState n = 4 ∧ s.dev.wakeFrameMatches n f = true ∧ rate = s.dev.get (Ent.Wsrc.SW_RATE n)) ∧
    (∃ (s : State) (n t : Nat) (high : Bool) (env : WakeEnv), n ≤ 1 ∧ s.dev.power.phase = .asleep t ∧ (s.dev.wakeMode (16 + n) = if high then 1 else 2)) ∧
    (∃ (s : State) (t : Nat) (env : WakeEnv), s.dev.power.phase = .asleep t) ∧
    (∃ (s : State) (i : Nat) (env : WakeEnv), i < 32 ∧ s.dev.power.phase = .asleep 2 ∧ s.dev.watched i ≠ 0 ∧ s.dev.fld (Rg.Src.PRIORITY (s.dev.watched i)) ≠ 0) :=
  ⟨⟨State.reset, by decide +kernel⟩,
   ⟨State.reset, by decide +kernel⟩,
   ⟨live fun d => (d.put Ent.Slp.POWER_REQ 2).put Ent.Slp.ENTRY 1, by decide +kernel⟩,
   ⟨live fun d => (d.put Ent.Slp.POWER_REQ 2).put Ent.Slp.ENTRY 1, 2, by decide +kernel⟩,
   ⟨live fun d => entryUnits.foldl (fun d x => d.put (unitStateEntry x) 0) (d.put Ent.Slp.ENTRY 2), by decide +kernel⟩,
   ⟨live fun d => (d.put Ent.Slp.ENTRY 3).setSleep fun x => { x with target := 3 }, by decide +kernel⟩,
   ⟨live fun d => (setPhase (.asleep 3) d).setSleep fun x => { x with armed := some ⟨[0, 0, 1], [], []⟩ }, 2, 3, ⟨false, 0, 0, 0, ⟨[], 0, 12000, 1, 0, 0, 0, false, 0⟩⟩, by decide +kernel⟩,
   ⟨live fun d => (setPhase (.asleep 2) d).setSleep fun x => { x with armed := some ⟨[0, 0, 2], [], []⟩ }, 2, 2, 2, ⟨0, false, false, false, false, false, 0, []⟩, ⟨false, 0, 0, 0, ⟨[], 0, 12000, 1, 0, 0, 0, false, 0⟩⟩, by decide +kernel⟩,
   ⟨live fun d => (setPhase (.asleep 3) d).setSleep fun x => { x with armed := some ⟨List.replicate 16 0 ++ [2, 0], [], []⟩ }, 0, 3, false, ⟨false, 0, 0, 0, ⟨[], 0, 12000, 1, 0, 0, 0, false, 0⟩⟩, by decide +kernel⟩,
   ⟨live fun d => setPhase (.asleep 3) d, 3, ⟨false, 0, 0, 0, ⟨[], 0, 12000, 1, 0, 0, 0, false, 0⟩⟩, by decide +kernel⟩,
   ⟨live fun d => (setPhase (.asleep 2) (d.setFld (Rg.Src.PRIORITY 40) 3)).setSleep fun x => { x with armed := some ⟨[], [], [40]⟩ }, 0, ⟨false, 0, 0, 0, ⟨[], 0, 12000, 1, 0, 0, 0, false, 0⟩⟩, by decide +kernel⟩⟩

/-- The hypotheses of BridgeResponderCommands are met. -/
theorem witness_BridgeResponderCommands :
    (∃ (s : State) (u mac : Nat) (m : BMsg) (r key : Bytes), Live s ∧ s.dev.bridgeOn u = true ∧ m.ty = 3 ∧ m.op = 1 ∧ s.dev.exportFor u (m.srcNode + m.srcUnit * 4096) = some r ∧ s.dev.hmacKey (leAt r 4 1) = some key ∧ m.auth = m.connectTag key ∧ s.dev.servedBy u < 256) ∧
    (∃ (s : State) (u mac a : Nat) (m p : BMsg) (x : BServe), Live s ∧ NextServed s.dev u 2 m x p ∧ inMemory p.addr = true ∧ s.dev.physical (servedTxn s.dev u .read p) = some a ∧ s.dev.memCheck (servedTxn s.dev u .read p) a = .ok) ∧
    (∃ (s : State) (u mac a : Nat) (m p : BMsg) (x : BServe), Live s ∧ NextServed s.dev u 3 m x p ∧ inMemory p.addr = true ∧ x.uncovered < 15 ∧ s.dev.physical (servedTxn s.dev u .write p) = some a ∧ s.dev.memCheck (servedTxn s.dev u .write p) a = .ok) ∧
    (∃ (s : State) (u mac a : Nat) (m p : BMsg) (x : BServe), Live s ∧ NextServed s.dev u 4 m x p ∧ inMemory p.addr = true ∧ s.dev.physical (servedTxn s.dev u .write p) = some a ∧ s.dev.memCheck (servedTxn s.dev u .write p) a = .ok) ∧
    (∃ (s : State) (u mac a : Nat) (m p : BMsg) (x : BServe), Live s ∧ NextServed s.dev u 5 m x p ∧ inMemory p.addr = true ∧ s.dev.physical (servedTxn s.dev u (.atomic (p.size / 16)) p) = some a ∧ s.dev.memCheck (servedTxn s.dev u (.atomic (p.size / 16)) p) a = .ok) ∧
    (∃ (s : State) (u mac hall : Nat) (m p : BMsg) (x : BServe), Live s ∧ NextServed s.dev u 6 m x p ∧ hall = leAt ((s.dev.exportFor u (m.srcNode + m.srcUnit * 4096)).getD []) 2 1 ∧ s.dev.pathCount (.mailbox hall) < 16) ∧
    (∃ (s : State) (u mac hall : Nat) (m p : BMsg) (x : BServe), Live s ∧ NextServed s.dev u 7 m x p ∧ hall = leAt ((s.dev.exportFor u (m.srcNode + m.srcUnit * 4096)).getD []) 2 1 ∧ s.dev.pathCount (.mailbox hall) < 16) ∧
    (∃ (s : State) (u mac e : Nat) (m p : BMsg) (x : BServe), Live s ∧ NextServed s.dev u 8 m x p ∧ x.uncovered < 15 ∧ s.dev.get (Ent.Bu.EVT_MODE u) = 0 ∧ (((List.range 1024).find? fun e => epValid (s.dev.endpoint u e) && epNode (s.dev.endpoint u e) == p.srcNode && epUnit (s.dev.endpoint u e) == p.srcUnit && epSid (s.dev.endpoint u e) == p.sid) = some e)) ∧
    (∃ (s : State) (u mac : Nat) (m p : BMsg) (x : BServe), Live s ∧ NextServed s.dev u 9 m x p) ∧
    (∃ (s : State) (u mac : Nat) (m p : BMsg) (x : BServe), Live s ∧ NextServed s.dev u 0x0A m x p) ∧
    (∃ (s : State) (u node unit sid : Nat) (x : BServe), Live s ∧ s.dev.bridgeOn u = true ∧ unit < 4 ∧ node < 4096 ∧ sid < 2048 ∧ KV.find (((u * 4 + unit) * 4096 + node) * 2048 + sid) s.dev.br.serve = some x ∧ x.uncovered ≠ 0) :=
  ⟨⟨exporting fun d => ((d.put (Ent.Key.LOADED 0) 1).put (Ent.Key.USAGE 0) 0), 0, 0x20000000009, (let q : BMsg := { ty := 3, op := 1, spec := false, enc := false, srcNode := 5, srcUnit := 0, dst := 1, sid := 3, epoch := 0, seq := 0, tag := 0, addr := 0, size := 0, status := 0, data := zeros 16, auth := [] }; { q with auth := q.connectTag (zeros 32) }), (le 2 0x8005 ++ bytesOf [0, 0x3F, 0, 0, 0, 0] ++ le 4 0x1200 ++ le 4 16), zeros 32, by decide +kernel⟩,
   ⟨serving, 0, 0, 0x1200010, brReq 2 0x1200010 2 0 [], brReq 2 0x1200010 2 0 [], brX, by decide +kernel, served_next _ _ _ _ _ (by decide +kernel), by decide +kernel⟩,
   ⟨serving, 0, 0, 0x1200010, brReq 3 0x1200010 2 7 (le 4 99), brReq 3 0x1200010 2 7 (le 4 99), brX, by decide +kernel, served_next _ _ _ _ _ (by decide +kernel), by decide +kernel⟩,
   ⟨serving, 0, 0, 0x1200010, brReq 4 0x1200010 2 7 (le 4 99), brReq 4 0x1200010 2 7 (le 4 99), brX, by decide +kernel, served_next _ _ _ _ _ (by decide +kernel), by decide +kernel⟩,
   ⟨serving, 0, 0, 0x1200010, brReq 5 0x1200010 0x52 7 (le 4 99), brReq 5 0x1200010 0x52 7 (le 4 99), brX, by decide +kernel, served_next _ _ _ _ _ (by decide +kernel), by decide +kernel⟩,
   ⟨serving, 0, 0, 0, brReq 6 0 0 0 (descriptor 0x1018 1 0 0 0), brReq 6 0 0 0 (descriptor 0x1018 1 0 0 0), brX, by decide +kernel, served_next _ _ _ _ _ (by decide +kernel), by decide +kernel⟩,
   ⟨serving, 0, 0, 0, brReq 7 0 0 0 (descriptor 0x1018 1 0 0 4 ++ le 4 7), brReq 7 0 0 0 (descriptor 0x1018 1 0 0 4 ++ le 4 7), brX, by decide +kernel, served_next _ _ _ _ _ (by decide +kernel), by decide +kernel⟩,
   ⟨serving, 0, 0, 0, brReq 8 0 0 7 (le 4 6 ++ le 4 99), brReq 8 0 0 7 (le 4 6 ++ le 4 99), brX, by decide +kernel, served_next _ _ _ _ _ (by decide +kernel), by decide +kernel⟩,
   ⟨serving, 0, 0, brReq 9 2 0 0 [], brReq 9 2 0 0 [], brX, by decide +kernel, served_next _ _ _ _ _ (by decide +kernel)⟩,
   ⟨serving, 0, 0, brReq 0x0A 0 0 0 [], brReq 0x0A 0 0 0 [], brX, by decide +kernel, served_next _ _ _ _ _ (by decide +kernel)⟩,
   ⟨exporting fun d => d.setBr fun b => { b with serve := KV.insert (5 * 2048 + 3) { brX with uncovered := 3, ackSeq := some 7 } b.serve }, 0, 5, 0, 3, { brX with uncovered := 3, ackSeq := some 7 }, by decide +kernel⟩⟩

/-- The hypotheses of BridgeRequesterCommands are met. -/
theorem witness_BridgeRequesterCommands :
    (∃ (s : State) (t : Txn) (u k : Nat), Live s ∧ s.dev.windowCheck (s.dev.attributed { t with kind := .read, data := 0 }) = (.ok, u, k) ∧ SessionOpen s.dev u k) ∧
    (∃ (s : State) (t : Txn) (u k : Nat), Live s ∧ s.dev.windowCheck (s.dev.attributed { t with kind := .posted }) = (.ok, u, k) ∧ SessionOpen s.dev u k) ∧
    (∃ (s : State) (t : Txn) (u k : Nat), Live s ∧ s.dev.windowCheck (s.dev.attributed { t with kind := .write }) = (.ok, u, k) ∧ SessionOpen s.dev u k) ∧
    (∃ (s : State) (t : Txn) (u k fn : Nat), Live s ∧ t.kind = .atomic fn ∧ issuesAtomics t.initiator = true ∧ s.dev.windowCheck (s.dev.attributed t) = (.ok, u, k) ∧ SessionOpen s.dev u k) ∧
    (∃ (s : State) (u : Nat) (m p : BMsg) (r : BReq), Live s ∧ Resolves s.dev u m p r ∧ r.back = none ∧ (r.msg.op = 2 ∨ r.msg.op = 5) ∧ p.status = 0) ∧
    (∃ (s : State) (u : Nat) (m p : BMsg) (r : BReq), Live s ∧ Resolves s.dev u m p r ∧ r.back = none ∧ r.msg.op = 4 ∧ p.status = 0) ∧
    (∃ (s : State) (u : Nat) (m p : BMsg) (r : BReq), Live s ∧ m.ty = 4 ∧ m.op = 0x0A ∧ m.srcNode = s.dev.board.nodeId ∧ m.srcUnit = u ∧ (s.dev.brSess u m.sid).state = 2 ∧ (s.dev.brSess u m.sid).fresh m.seq = true ∧ m.enc = (s.dev.sessMode u m.sid == 1) ∧ m.openUnder (s.dev.brSess u m.sid).key = some p ∧ (s.dev.brSess u m.sid).waiting = [] ∧ r ∈ (s.dev.brSess u m.sid).sent ∧ (r.msg.op = 3 ∨ r.msg.op = 8) ∧ (p.tag + 2 ^ 32 - r.msg.tag) % 2 ^ 32 < 2 ^ 31) ∧
    (∃ (s : State) (u sid : Nat), Live s ∧ (s.dev.brSess u sid).state = 2 ∧ (s.dev.brSess u sid).sent ≠ [] ∧ (s.dev.brSess u sid).tries < s.dev.get (Ent.Bu.RETRIES u)) ∧
    (∃ (s : State) (u k hall v : Nat), Live s ∧ s.dev.get (Ent.Bctx.HALL (bctx u k)) = hall ∧ s.dev.ctxCommand u k v false = .ok) ∧
    (∃ (s : State) (u k hall v i : Nat), Live s ∧ i < 32 ∧ v = 2 ^ i ∧ s.dev.get (Ent.Bctx.HALL (bctx u k)) = hall ∧ s.dev.get (Ent.Bctx.STATE (bctx u k)) = 1 ∧ s.dev.get (Ent.Bctx.EVT_DELIVERY (bctx u k)) = 0 ∧ SessionOpen s.dev u k) ∧
    (∃ (s : State) (u k hall v : Nat), Live s ∧ v < 2 ^ 32 ∧ s.dev.get (Ent.Bctx.HALL (bctx u k)) = hall ∧ s.dev.get (Ent.Bctx.STATE (bctx u k)) = 1 ∧ s.dev.get (Ent.Bctx.EVT_DELIVERY (bctx u k)) = 0 ∧ s.dev.fld (Rg.Ctx.SIDEBAND_OUT u k) ≠ v ∧ SessionOpen s.dev u k) :=
  ⟨⟨requester [], ⟨.aCore 1, false, 0, false, 0, .read, 0x40000010, 4, 0⟩, 0, 2, by decide +kernel⟩,
   ⟨requester [], ⟨.aCore 1, false, 0, false, 0, .posted, 0x40000010, 4, 9⟩, 0, 2, by decide +kernel⟩,
   ⟨requester [], ⟨.aCore 1, false, 0, false, 0, .write, 0x40000010, 4, 9⟩, 0, 2, by decide +kernel⟩,
   ⟨requester [], ⟨.aCore 1, false, 0, false, 0, .atomic 5, 0x40000010, 4, 9⟩, 0, 2, 5, by decide +kernel⟩,
   ⟨requester [asked 2], 0, brRsp 2 2 1 (le 4 77), brRsp 2 2 1 (le 4 77), asked 2, by decide +kernel, response_resolves _ _ 2 _ _ _ _ rfl (by decide +kernel) rfl (by decide), by decide +kernel⟩,
   ⟨requester [asked 4], 0, brRsp 4 2 1 [], brRsp 4 2 1 [], asked 4, by decide +kernel, response_resolves _ _ 2 _ _ _ _ rfl (by decide +kernel) rfl (by decide), by decide +kernel⟩,
   ⟨requester [asked 3], 0, brRsp 0x0A 2 8 (zeros 8), brRsp 0x0A 2 8 (zeros 8), asked 3, by decide +kernel, rfl, rfl, rfl, rfl, by decide +kernel, by decide +kernel, by decide +kernel, response_opens _ _ _ _ _ (by decide +kernel), by decide +kernel⟩,
   ⟨requester [asked 2], 0, 2, by decide +kernel⟩,
   ⟨requester [], 0, 2, 0, 0x40000000, by decide +kernel⟩,
   ⟨requester [], 0, 2, 0, 8, 3, by decide +kernel⟩,
   ⟨requester [], 0, 2, 0, 8, by decide +kernel⟩⟩

/-- The hypotheses of BridgePollAndTunnelCommands are met. -/
theorem witness_BridgePollAndTunnelCommands :
    (∃ (s : State) (u k hall v : Nat), Live s ∧ u < 4 ∧ k < 64 ∧ s.dev.get (Ent.Bctx.HALL (bctx u k)) = hall ∧ s.dev.get (Ent.Bctx.STATE (bctx u k)) = 1 ∧ s.dev.isSet (rmb u k Rg.Mb.BUSY) = false ∧ s.dev.fld (rmb u k Rg.Mb.OP) = 3 ∧ SessionOpen s.dev u k) ∧
    (∃ (s : State) (u e : Nat), Live s ∧ u < 4 ∧ e < 1024 ∧ s.dev.get (Ent.Bu.EVT_MODE u) = 1 ∧ epValid (s.dev.endpoint u e) = true ∧ s.dev.bridgeOn u = true ∧ SessionOpen s.dev u (0x400 + e)) ∧
    (∃ (s : State) (u : Nat) (m p : BMsg) (r : BReq), Live s ∧ Resolves s.dev u m p r ∧ 0x400 ≤ m.sid ∧ m.op = 9 ∧ r.msg.op = 9 ∧ p.status = 0) ∧
    (∃ (s : State) (t : Nat), Live s ∧ s.dev.flag (Ent.Tun.ENABLE t) = true ∧ s.dev.bridgeOn (s.dev.get (Ent.Tun.UNIT t)) = true ∧ (s.dev.tunnel t).pdu ≠ []) ∧
    (∃ (s : State) (u t n : Nat) (b : Bytes) (f : CanFrame), Live s ∧ t < 16 ∧ s.dev.bridgeOn u = true ∧ leAt b 0 1 = 0x82 ∧ s.dev.flag (Ent.Tun.ENABLE t) = true ∧ s.dev.get (Ent.Tun.UNIT t) = u ∧ s.dev.get (Ent.Tun.DIR t) ≠ 1 ∧ slice (s.dev.oct (Ent.Tun.STREAM_ID t)) 0 8 = slice b 4 8 ∧ acfMessages 256 ((b.drop 12).take (ofBe (slice b 1 2) % 2048)) = [(s.dev.get (Ent.Tun.BUS_ID t), f)] ∧ s.dev.get (Ent.Tun.CHANNEL t) = n ∧ (((s.dev.canCh n).service.filter fun x => x.tunnel.isSome).length < 32) ∧ (f.fdf = false ∨ s.dev.get (Ent.Can.MODE n) ≠ 0) ∧ s.dev.get Ent.Tws.ROLE < 2 ∧ s.dev.get (Ent.CanSt.STATE n) = 1) :=
  ⟨⟨{ requester [] with dev := (requester []).dev.setFld (rmb 0 2 Rg.Mb.OP) 3 }, 0, 2, 0, 0x80000000, by decide +kernel⟩,
   ⟨live fun d => (((d.put (Ent.Bu.EVT_MODE 0) 1).putOct (Ent.Bu.BU_MAC 0) (bytesOf [2, 0, 0, 0, 0, 9])).putOct (Ent.Bu.ENDPOINTS 0) (le 2 0x8005 ++ le 2 3 ++ zeros 8188)).setBrSess 0 0x400 fun s => { s with state := 2, key := brKey }, 0, 0, by decide +kernel⟩,
   ⟨live fun d => d.setBrSess 0 0x400 fun s => { s with state := 2, key := brKey, sent := [{ asked 9 with initiator := 0 }] }, 0, hiddenRsp 9 0x400 1 (zeros 16), shownRsp 9 0x400 1 (zeros 16), { asked 9 with initiator := 0 }, by decide +kernel, hidden_resolves _ _ 0x400 _ _ _ _ rfl (by decide +kernel) rfl (by decide), by decide +kernel⟩,
   ⟨exporting fun d => (d.put (Ent.Tun.ENABLE 3) 1).setTunnel 3 fun x => { x with pdu := [acfCan 1 ⟨5, false, false, false, false, false, 1, [7#8]⟩ 99] }, 3, by decide +kernel⟩,
   ⟨exporting fun d => ((d.put (Ent.Tun.ENABLE 3) 1).put (Ent.Tun.BUS_ID 3) 1).put (Ent.CanSt.STATE 0) 1, 0, 3, 0, bytesOf [0x82] ++ be 2 (0x8000 + 20) ++ le 1 0 ++ zeros 8 ++ acfCan 1 ⟨5, false, false, false, false, false, 1, [7#8]⟩ 99, ⟨5, false, false, false, false, false, 1, [7#8]⟩, by decide +kernel⟩⟩

/-- The hypotheses of ScanEngineCommands are met. -/
theorem witness_ScanEngineCommands :
    (∃ (s : State) (img : Bytes), Live s ∧ s.dev.engine < 2 ∧ s.dev.rescue = false ∧ KV.find Ent.Seimg.ALT_IMAGE.key s.dev.blobs = some img ∧ imageFault s.dev img (imgCores img) = none) ∧
    (∃ (s : State) (r : TaskRec), Live s ∧ s.dev.engine = 1 ∧ r ∈ imgCyclic s.dev.image ∧ r.unit < 32) ∧
    (∃ (s : State), Live s ∧ s.dev.engine = 2) ∧
    (∃ (s : State), Live s ∧ s.dev.engine = 3) ∧
    (∃ (s : State) (v : Nat) (r : TaskRec), Live s ∧ s.dev.engine = 2 ∧ s.dev.role < 2 ∧ r ∈ s.dev.eventTasks ∧ r.evtKind = 2 ∧ bit v (r.task - 16) = true ∧ (s.dev.run r.task).phase = 0) ∧
    (∃ (s : State) (x t : Nat) (rest : List Nat), Live s ∧ t < 48 ∧ s.dev.engine = 2 ∧ s.dev.role < 2 ∧ s.dev.twin.hand = none ∧ KV.get [] x s.dev.scan.stackOf = t :: rest ∧ (s.dev.run t).pending = none) ∧
    (∃ (s : State) (x v t : Nat) (rest : List Nat), Live s ∧ s.dev.running = true ∧ KV.get [] x s.dev.scan.stackOf = t :: rest) ∧
    (∃ (s : State) (ts : List Nat) (t : Nat), Live s ∧ s.dev.running = true ∧ (((List.range 48).find? fun u => ts.contains u && s.dev.overdue u) = some t)) ∧
    (∃ (s : State) (src n : Nat) (b : Bytes) (r : StnRec), Live s ∧ n < 256 ∧ leAt b 4 1 = n ∧ s.dev.slotFits n src = true ∧ imgStation s.dev.image n = some r ∧ leAt b 0 1 = 6 ∧ leAt b 1 1 = 1 ∧ leAt b 2 2 = s.dev.board.nodeId ∧ leAt b 16 2 = r.inLen ∧ 24 + r.inLen ≤ b.length ∧ s.dev.engine ≠ 0 ∧ leAt b 6 2 = s.dev.epoch (.station n)) ∧
    (∃ (s : State) (t : Nat) (r : Retain), Live s ∧ s.dev.scan.saving = some (t, r)) :=
  ⟨⟨live fun d => (d.put (Ent.Stn.KIND 9) 1).putOct Ent.Seimg.ALT_IMAGE (imageA 6 0), imageA 6 0, by decide +kernel⟩,
   ⟨scanning 1 id, ⟨0, 1, 5, 3, 1000, 500, 0, 0x02020000, 0x02040000, 0, 0, 0, 0⟩, by decide +kernel⟩,
   ⟨scanning 2 id, by decide +kernel⟩,
   ⟨scanning 3 id, by decide +kernel⟩,
   ⟨scanning 2 id, 1, ⟨16, 1, 4, 0xFF, 0, 500, 0, 0x02020000, 0x02040000, 2, 0, 0, 0⟩, by decide +kernel⟩,
   ⟨scanning 2 fun d => (d.setScan fun c => { c with stackOf := [(1, [16])] }).setRun 16 fun r => { r with phase := 2 }, 1, 16, [], by decide +kernel⟩,
   ⟨scanning 2 fun d => (d.setScan fun c => { c with stackOf := [(1, [16])] }).setRun 16 fun r => { r with phase := 2 }, 1, 9, 16, [], by decide +kernel⟩,
   ⟨scanning 2 fun d => later (d.setRun 16 fun r => { r with phase := 2 }), [0, 16], 16, by decide +kernel⟩,
   ⟨scanning 2 fun d => ((d.put (Ent.Stn.KIND 9) 1).putOct (Ent.Stn.MAC 9) (bytesOf [2, 0, 0, 0, 0, 9])).put (Ent.Stn.STATE 9) 1, 0x20000000009, 9, bytesOf [6, 1, 0, 0, 9, 0, 1, 1] ++ zeros 8 ++ le 2 4 ++ zeros 6 ++ bytesOf [1, 2, 3, 4], ⟨9, 0, 4, 0, 0, 3, 16, 0⟩, by decide +kernel⟩,
   ⟨live fun d => d.setScan fun c => { c with saving := some (0, ⟨[], 5, 0, 0, 0⟩) }, 0, ⟨[], 5, 0, 0, 0⟩, by decide +kernel⟩⟩

theorem witness_OnlineChangeAndForceCommands_1 : ∃ (s : State) (v : Nat) (img : Bytes), Live s ∧ bits v 3 0 = 1 ∧ bits v 7 4 = 0 ∧ bits v 15 9 = 0 ∧ s.dev.role = 0 ∧ KV.find Ent.Seimg.ALT_IMAGE.key s.dev.blobs = some img ∧ s.dev.changeCheck (some img) (bit v 8) false = none :=
  ⟨scanning 2 fun d => (d.put (Ent.Stn.KIND 9) 1).putOct Ent.Seimg.ALT_IMAGE (imageA 6 5), 1, imageA 6 5, by decide +kernel⟩

theorem witness_OnlineChangeAndForceCommands_2 : ∃ (s : State) (c : Change), Live s ∧ 1 ≤ s.dev.get Ent.Chg.CHANGE_STATE ∧ s.dev.get Ent.Chg.CHANGE_STATE ≤ 3 ∧ s.dev.scan.change = some c :=
  ⟨scanning 5 fun d => (d.put Ent.Chg.CHANGE_STATE 3).setScan fun x => { x with change := some changing }, changing, by decide +kernel⟩

theorem witness_OnlineChangeAndForceCommands_3 : ∃ (s : State) (c : Change), Live s ∧ s.dev.scan.change = some c ∧ s.dev.get Ent.Chg.CHANGE_STATE = 3 ∧ s.dev.role < 2 ∧ s.dev.boundary (changeEst s.dev.image c.image) = true :=
  ⟨scanning 5 fun d => (d.put Ent.Chg.CHANGE_STATE 3).setScan fun x => { x with change := some changing }, changing, by decide +kernel⟩

theorem witness_OnlineChangeAndForceCommands_4 : ∃ (s : State) (c : Change), Live s ∧ s.dev.scan.change = some c ∧ s.dev.get Ent.Chg.CHANGE_STATE = 4 :=
  ⟨scanning 2 fun d => (d.put Ent.Chg.CHANGE_STATE 4).setScan fun x => { x with change := some changing }, changing, by decide +kernel⟩

theorem witness_OnlineChangeAndForceCommands_5 : ∃ (s : State) (c : Change), Live s ∧ s.dev.scan.change = some c ∧ s.dev.get Ent.Chg.CHANGE_STATE = 3 ∧ s.dev.passed c.since s.dev.changeWindow = true :=
  ⟨scanning 5 fun d => later ((d.put Ent.Chg.CHANGE_STATE 3).setScan fun x => { x with change := some changing }), changing, by decide +kernel⟩

theorem witness_OnlineChangeAndForceCommands_6 : ∃ (s : State), Live s ∧ s.dev.get Ent.Chg.CHANGE_STATE = 2 :=
  ⟨scanning 5 fun d => d.put Ent.Chg.CHANGE_STATE 2, by decide +kernel⟩

theorem witness_OnlineChangeAndForceCommands_7 : ∃ (s : State) (c : Change), Live s ∧ s.dev.scan.change = some c ∧ s.dev.get Ent.Chg.CHANGE_STATE = 2 ∧ s.dev.passed c.since (s.dev.get Ent.Chg.STANDBY_READY_MS * 1000000) = true :=
  ⟨scanning 5 fun d => later ((d.put Ent.Chg.CHANGE_STATE 2).setScan fun x => { x with change := some changing }), changing, by decide +kernel⟩

theorem witness_OnlineChangeAndForceCommands_8 : ∃ (s : State) (i : Nat) (c : Change), Live s ∧ s.dev.scan.change = some c ∧ s.dev.get Ent.Chg.CHANGE_STATE = 3 ∧ s.dev.role = 2 ∧ s.dev.allIdle = true ∧ s.dev.now + changeEst s.dev.image c.image ≤ i :=
  ⟨scanning 5 fun d => ((d.put Ent.Chg.CHANGE_STATE 3).put Ent.Tws.ROLE 2).setScan fun x => { x with change := some changing }, 10000000000, changing, by decide +kernel⟩

theorem witness_OnlineChangeAndForceCommands_9 : ∃ (s : State) (word : Nat) (img : Bytes), Live s ∧ s.dev.role = 2 ∧ s.dev.changeCheck (some img) (bit word 8) true = none :=
  ⟨scanning 2 fun d => (d.put (Ent.Stn.KIND 9) 1).put Ent.Tws.ROLE 2, 1, imageA 6 5, by decide +kernel⟩

theorem witness_OnlineChangeAndForceCommands_10 : ∃ (s : State) (b : Bytes) (v : VarRec), Live s ∧ s.dev.role < 2 ∧ s.dev.engine ≠ 0 ∧ s.dev.get Ent.Chg.CHANGE_STATE = 0 ∧ leAt b 0 4 ≠ 0 ∧ (((imgVars s.dev.image).find? fun x => x.tag == leAt b 0 4) = some v) ∧ v.ty = leAt b 4 2 ∧ v.size ≤ 64 ∧ leAt b 6 2 = v.size ∧ s.dev.scan.forces.length < 256 :=
  ⟨scanning 2 id, le 4 7 ++ le 2 7 ++ le 2 4 ++ bytesOf [1, 2, 3, 4], ⟨7, 7, 0, 0xFF, 0, 4, 0, 0⟩, by decide +kernel⟩

theorem witness_OnlineChangeAndForceCommands_11 : ∃ (s : State) (tag : Nat), Live s ∧ s.dev.role < 2 ∧ (KV.find tag s.dev.scan.forces).isSome = true :=
  ⟨scanning 2 fun d => d.setScan fun c => { c with forces := [(7, (7, [1#8]))] }, 7, by decide +kernel⟩

theorem witness_OnlineChangeAndForceCommands_12 : ∃ (s : State), Live s ∧ s.dev.role < 2 :=
  ⟨scanning 2 fun d => d.setScan fun c => { c with forces := [(7, (7, [1#8]))] }, by decide +kernel⟩

/-- The hypotheses of OnlineChangeAndForceCommands are met. -/
theorem witness_OnlineChangeAndForceCommands :
    (∃ (s : State) (v : Nat) (img : Bytes), Live s ∧ bits v 3 0 = 1 ∧ bits v 7 4 = 0 ∧ bits v 15 9 = 0 ∧ s.dev.role = 0 ∧ KV.find Ent.Seimg.ALT_IMAGE.key s.dev.blobs = some img ∧ s.dev.changeCheck (some img) (bit v 8) false = none) ∧
    (∃ (s : State) (c : Change), Live s ∧ 1 ≤ s.dev.get Ent.Chg.CHANGE_STATE ∧ s.dev.get Ent.Chg.CHANGE_STATE ≤ 3 ∧ s.dev.scan.change = some c) ∧
    (∃ (s : State) (c : Change), Live s ∧ s.dev.scan.change = some c ∧ s.dev.get Ent.Chg.CHANGE_STATE = 3 ∧ s.dev.role < 2 ∧ s.dev.boundary (changeEst s.dev.image c.image) = true) ∧
    (∃ (s : State) (c : Change), Live s ∧ s.dev.scan.change = some c ∧ s.dev.get Ent.Chg.CHANGE_STATE = 4) ∧
    (∃ (s : State) (c : Change), Live s ∧ s.dev.scan.change = some c ∧ s.dev.get Ent.Chg.CHANGE_STATE = 3 ∧ s.dev.passed c.since s.dev.changeWindow = true) ∧
    (∃ (s : State), Live s ∧ s.dev.get Ent.Chg.CHANGE_STATE = 2) ∧
    (∃ (s : State) (c : Change), Live s ∧ s.dev.scan.change = some c ∧ s.dev.get Ent.Chg.CHANGE_STATE = 2 ∧ s.dev.passed c.since (s.dev.get Ent.Chg.STANDBY_READY_MS * 1000000) = true) ∧
    (∃ (s : State) (i : Nat) (c : Change), Live s ∧ s.dev.scan.change = some c ∧ s.dev.get Ent.Chg.CHANGE_STATE = 3 ∧ s.dev.role = 2 ∧ s.dev.allIdle = true ∧ s.dev.now + changeEst s.dev.image c.image ≤ i) ∧
    (∃ (s : State) (word : Nat) (img : Bytes), Live s ∧ s.dev.role = 2 ∧ s.dev.changeCheck (some img) (bit word 8) true = none) ∧
    (∃ (s : State) (b : Bytes) (v : VarRec), Live s ∧ s.dev.role < 2 ∧ s.dev.engine ≠ 0 ∧ s.dev.get Ent.Chg.CHANGE_STATE = 0 ∧ leAt b 0 4 ≠ 0 ∧ (((imgVars s.dev.image).find? fun x => x.tag == leAt b 0 4) = some v) ∧ v.ty = leAt b 4 2 ∧ v.size ≤ 64 ∧ leAt b 6 2 = v.size ∧ s.dev.scan.forces.length < 256) ∧
    (∃ (s : State) (tag : Nat), Live s ∧ s.dev.role < 2 ∧ (KV.find tag s.dev.scan.forces).isSome = true) ∧
    (∃ (s : State), Live s ∧ s.dev.role < 2) :=
  ⟨witness_OnlineChangeAndForceCommands_1,
   witness_OnlineChangeAndForceCommands_2,
   witness_OnlineChangeAndForceCommands_3,
   witness_OnlineChangeAndForceCommands_4,
   witness_OnlineChangeAndForceCommands_5,
   witness_OnlineChangeAndForceCommands_6,
   witness_OnlineChangeAndForceCommands_7,
   witness_OnlineChangeAndForceCommands_8,
   witness_OnlineChangeAndForceCommands_9,
   witness_OnlineChangeAndForceCommands_10,
   witness_OnlineChangeAndForceCommands_11,
   witness_OnlineChangeAndForceCommands_12⟩

/-- The hypotheses of LoadCommandsAndStates are met. -/
theorem witness_LoadCommandsAndStates :
    (∃ (s : State) (n v : Nat), Live s ∧ n < 24 ∧ bit v 0 = true ∧ s.dev.pairUpper n = false ∧ s.dev.safeHeld n = false ∧ s.dev.loadState n = 0) ∧
    (∃ (s : State) (n v : Nat), Live s ∧ n < 24 ∧ bit v 0 = false ∧ bit v 1 = false ∧ s.dev.pairUpper n = false ∧ s.dev.safeHeld n = false ∧ s.dev.loadState n ≠ 5) ∧
    (∃ (s : State) (n v : Nat), Live s ∧ n < 24 ∧ bit v 2 = true ∧ bit (s.dev.loadCh n).cmd 2 = false ∧ s.dev.pairUpper n = false ∧ s.dev.safeHeld n = false) ∧
    (∃ (s : State) (n : Nat), Live s ∧ bit (s.dev.loadCh (s.dev.loadSelf n)).cmd 2 = true) ∧
    (∃ (s : State) (n : Nat), Live s ∧ n < 24 ∧ s.dev.loadState (s.dev.loadSelf n) = 5 ∧ bit (s.dev.loadCh (s.dev.loadSelf n)).cmd 0 = false) ∧
    (∃ (s : State) (n : Nat), Live s ∧ n < 24 ∧ s.dev.inrushOver n = true) ∧
    (∃ (s : State) (n : Nat), Live s ∧ n < 24 ∧ (s.dev.loadState (s.dev.loadSelf n) = 1 ∨ s.dev.loadState (s.dev.loadSelf n) = 2) ∧ s.dev.loadFlag (s.dev.loadSelf n) 3 = false ∧ s.dev.loadFlag (s.dev.loadSelf n) 0 = false) ∧
    (∃ (s : State) (n : Nat), Live s ∧ n < 24) ∧
    (∃ (s : State) (n delta : Nat) (tj : Int), Live s ∧ n < 24 ∧ s.dev.loadState (s.dev.loadSelf n) = 2 ∧ s.dev.inInrush (s.dev.loadSelf n) = false) ∧
    (∃ (s : State) (n : Nat), Live s ∧ n < 24 ∧ s.dev.retryDue n = true) ∧
    (∃ (s : State) (n : Nat), Live s ∧ n < 24 ∧ s.dev.loadState n = 4) ∧
    (∃ (s : State) (n : Nat), Live s ∧ n < 24 ∧ s.dev.loadState n = 4 ∧ s.dev.loadAged n (s.dev.get (Ent.Lc.COUPLED_MAX_MS n)) = true) :=
  ⟨⟨State.reset, 3, 1, by decide +kernel⟩,
   ⟨live fun d => d.put (Ent.Lc.STATE 3) 2, 3, 0, by decide +kernel⟩,
   ⟨State.reset, 3, 0x13880005, by decide +kernel⟩,
   ⟨live fun d => d.setLoadCh 3 fun c => { c with cmd := 0x13880005 }, 3, by decide +kernel⟩,
   ⟨live fun d => d.put (Ent.Lc.STATE 3) 5, 3, by decide +kernel⟩,
   ⟨live fun d => later (d.put (Ent.Lc.STATE 3) 1), 3, by decide +kernel⟩,
   ⟨live fun d => d.put (Ent.Lc.STATE 3) 2, 3, by decide +kernel⟩,
   ⟨live fun d => d.setLoadFlag 3 0 true, 3, by decide +kernel⟩,
   ⟨live fun d => d.put (Ent.Lc.STATE 3) 2, 3, 60, 175, by decide +kernel⟩,
   ⟨live fun d => later ((d.put (Ent.Lc.STATE 3) 3).setLoadCh 3 fun c => { c with cmd := 1 }), 3, by decide +kernel⟩,
   ⟨live fun d => (d.put (Ent.Lc.STATE 3) 4).setLoadCh 3 fun c => { c with cmd := 1 }, 3, by decide +kernel⟩,
   ⟨live fun d => later (d.put (Ent.Lc.STATE 3) 4), 3, by decide +kernel⟩⟩

/-- The hypotheses of LoadSupplySenseAndSafeCommands are met. -/
theorem witness_LoadSupplySenseAndSafeCommands :
    (∃ (s : State) (n : Nat), Live s ∧ n < 24 ∧ s.dev.loadState n = 2 ∧ s.dev.loadAged n (s.dev.get (Ent.Lc.RETRY_CLEAR_MS n)) = true) ∧
    (∃ (s : State) (g mv n : Nat), Live s ∧ g < 3 ∧ n / 8 = g ∧ mv < 2 ^ 16 ∧ KV.find g s.dev.load.uvAt = none) ∧
    (∃ (s : State) (g mv n : Nat), Live s ∧ g < 3 ∧ n / 8 = g ∧ mv < 2 ^ 16) ∧
    (∃ (s : State) (n : Nat), Live s ∧ n < 24) ∧
    (∃ (s : State) (n mv1 mv2 : Nat) (isOpen : Bool), Live s ∧ n < 24 ∧ s.dev.flag (Ent.Lc.OL_EN (s.dev.loadSelf n)) = true ∧ s.dev.loadState (s.dev.loadSelf n) = 0 ∧ s.dev.loadFlag (s.dev.loadSelf n) 3 = false ∧ s.dev.loadFlag (s.dev.loadSelf n) 2 = false ∧ s.dev.checkDue (s.dev.loadSelf n) = true ∧ s.dev.standby = false) ∧
    (∃ (s : State) (p0 p1 p2 : SensePin), Live s ∧ s.dev.get (Ent.Adc.STATE 1) = 1 ∧ s.dev.flag Ent.Lc.SELEXT = false ∧ s.dev.load.sel < 7 ∧ bit (s.dev.loadCh s.dev.load.sel).cmd 2 = false ∧ s.dev.get (Ent.Lcg.R_SENSE_OHM 0) ≠ 0 ∧ s.dev.sensePinCode s.dev.load.sel p0.code ≤ 38400) ∧
    (∃ (s : State), Live s ∧ s.dev.get Ent.Lc.LOSS_LIMIT_MW < s.dev.get Ent.Lc.LOSS_MW ∧ s.dev.load.lossHigh = false ∧ s.dev.load.lossAt.any (s.dev.passed · 1000000000) = true) ∧
    (∃ (s : State) (n : Nat), Live s ∧ n < 24 ∧ s.dev.loadFlag n 4 = true ∧ s.dev.get Ent.Pwr.PF_STATE = 0 ∧ s.dev.passed s.dev.load.heldAt (s.dev.get Ent.Lc.HOLD_MS * 1000000) = true) ∧
    (∃ (s : State) (g n : Nat), Live s ∧ g < 3 ∧ n / 8 = g ∧ (((groupChannels g).any fun k => s.dev.loadFlag k 4) = false) ∧ KV.find g s.dev.load.linkLost = none ∧ s.dev.pairUpper n = false) ∧
    (∃ (s : State) (g r : Nat), Live s ∧ KV.find g s.dev.load.linkLost = some r) ∧
    (∃ (s : State) (g n : Nat), Live s ∧ g < 3 ∧ n / 8 = g ∧ s.dev.pairUpper n = false) :=
  ⟨⟨live fun d => later (d.put (Ent.Lc.STATE 3) 2), 3, by decide +kernel⟩,
   ⟨State.reset, 1, 5000, 11, by decide +kernel⟩,
   ⟨live fun d => (d.put (Ent.Lc.STATE 11) 2).put (Ent.Lc.INRUSH_MS 11) 5, 1, 9000, 11, by decide +kernel⟩,
   ⟨State.reset, 3, by decide +kernel⟩,
   ⟨live fun d => later (d.put (Ent.Lc.OL_EN 3) 1), 3, 9000, 0, false, by decide +kernel⟩,
   ⟨live fun d => d.put (Ent.Adc.STATE 1) 1, ⟨400, 0, true, 25, 25, 0, 12000⟩, ⟨0, 0, true, 25, 25, 0, 12000⟩, ⟨0, 0, true, 25, 25, 0, 12000⟩, by decide +kernel⟩,
   ⟨live fun d => later (((d.put Ent.Lc.LOSS_MW 5000).put Ent.Lc.LOSS_LIMIT_MW 100).setLoad fun x => { x with lossAt := some 0 }), by decide +kernel⟩,
   ⟨live fun d => later ((d.setLoadFlag 3 4 true).put (Ent.Lc.STATE 3) 2), 3, by decide +kernel⟩,
   ⟨State.reset, 1, 11, by decide +kernel⟩,
   ⟨live fun d => d.setLoad fun x => { x with linkLost := [(1, 5)] }, 1, 5, by decide +kernel⟩,
   ⟨State.reset, 1, 11, by decide +kernel⟩⟩

/-- The hypotheses of InterruptCommands are met. -/
theorem witness_InterruptCommands :
    (∃ (s : State) (n : Nat), Live s ∧ isEdge n = true ∧ srcReserved n = false) ∧
    (∃ (s : State) (k n : Nat) (i : Initiator), Live s ∧ k ≤ 12 ∧ coreOf i = some k ∧ s.dev.fld (pgDepth k) < 8 ∧ s.dev.bestSource k = n ∧ n ≠ 0) ∧
    (∃ (s : State) (k v : Nat) (i : Initiator), Live s ∧ k ≤ 12 ∧ coreOf i = some k ∧ 0 < s.dev.fld (pgDepth k) ∧ s.dev.fld (pgDepth k) ≤ 8 ∧ s.dev.fld (pgSrc k (s.dev.fld (pgDepth k) - 1)) = v) ∧
    (∃ (s : State) (v : Nat), Live s ∧ v % 16 ≤ 11) ∧
    (∃ (s : State) (n : Nat) (m0 : Bool), Live s ∧ s.dev.holdOver n m0 = true) ∧
    (∃ (s : State) (k n : Nat), Live s ∧ k ≤ 12 ∧ n < 512 ∧ (k = 12 ∨ s.dev.srcTarget n = k)) ∧
    (∃ (s : State) (k v : Nat), Live s ∧ k < 4 ∧ (s.dev.hart k).nhall = 0) ∧
    (∃ (s : State) (p kind pc : Nat), Live s ∧ p < 4 ∧ s.dev.get (Ent.Pair.STATE p) = 1) ∧
    (∃ (s : State) (p : Nat), Live s ∧ p < 4 ∧ s.dev.get (Ent.Pair.STATE p) = 2) :=
  ⟨⟨State.reset, 40, by decide +kernel⟩,
   ⟨interrupting, 4, 40, .cCore 0, by decide +kernel⟩,
   ⟨live fun d => ((d.setFld (Rg.Cpg.DEPTH 4) 1).setFld (Rg.Cpg.STK_SRC 4 0) 40).setFld (Rg.Src.ACTIVE 40) 1, 4, 40, .cCore 0, by decide +kernel⟩,
   ⟨State.reset, 5, by decide +kernel⟩,
   ⟨live fun d => later { d with held := [(40, 0)] }, 40, false, by decide +kernel⟩,
   ⟨live fun d => ({ d with held := [(40, 0)] } : Dev).setFld (Rg.Src.TARGET 40) 4, 4, 40, by decide +kernel⟩,
   ⟨State.reset, 2, 7, by decide +kernel⟩,
   ⟨live fun d => d.put (Ent.Pair.STATE 1) 1, 1, 2, 100, by decide +kernel⟩,
   ⟨live fun d => (d.put (Ent.Pair.STATE 1) 2).setHart 6 fun h => { h with halted := true }, 1, by decide +kernel⟩⟩

/-- The hypotheses of AnalogAndDebugCommands are met. -/
theorem witness_AnalogAndDebugCommands :
    (∃ (s : State) (a v i : Nat), Live s ∧ a < 2 ∧ i < 8 ∧ v = 2 ^ i ∧ s.dev.get (Ent.Adc.STATE a) = 1 ∧ s.dev.conv a = ⟨none, []⟩) ∧
    (∃ (s : State) (a c : Nat) (codes : List Nat) (r : AdcRun), Live s ∧ a < 2 ∧ (s.dev.conv a).run = some r ∧ (s.dev.conv a).pending = [] ∧ r.seq < 8 ∧ r.list.head? = some c ∧ r.list.length ≤ 24 ∧ (((List.range 48).all fun i => (KV.find (0x4110 + i) s.dev.d0.applying).isNone) = true)) ∧
    (∃ (s : State) (i : Nat), Live s ∧ i < 16 ∧ s.dev.get (Ent.Ain.RANGE i) = 2 ∧ KV.find i s.dev.adc.shuntOpen = none) ∧
    (∃ (s : State) (i t : Nat), Live s ∧ KV.find i s.dev.adc.shuntOpen = some t ∧ s.dev.passed t 1000000000 = true) ∧
    (∃ (s : State) (k : Nat), Live s ∧ s.dev.mayAct k = true) ∧
    (∃ (s : State) (k : Nat), Live s ∧ s.dev.mayAct k = true) ∧
    (∃ (s : State) (k : Nat), Live s ∧ s.dev.mayAct k = true ∧ (s.dev.hart k).halted = true) ∧
    (∃ (s : State) (k reg v : Nat), Live s ∧ s.dev.mayAct k = true ∧ (s.dev.hart k).halted = true) ∧
    (∃ (s : State) (k reg v : Nat), Live s ∧ s.dev.mayAct k = true ∧ (s.dev.hart k).halted = true ∧ KV.find reg (s.dev.hart k).regs = some v) :=
  ⟨⟨live fun d => d.put (Ent.Adc.STATE 1) 1, 1, 8, 3, by decide +kernel⟩,
   ⟨live fun d => d.setConv 1 fun x => { x with run := some ⟨3, [16, 2], 77, 1, false, 0⟩ }, 1, 16, [500, 600], ⟨3, [16, 2], 77, 1, false, 0⟩, by decide +kernel⟩,
   ⟨live fun d => d.put (Ent.Ain.RANGE 3) 2, 3, by decide +kernel⟩,
   ⟨live fun d => later (d.setAdc fun x => { x with shuntOpen := [(3, 0)] }), 3, 0, by decide +kernel⟩,
   ⟨live fun d => d.put Ent.Sec.DBG_EN 3, 4, by decide +kernel⟩,
   ⟨live fun d => (d.put Ent.Sec.DBG_EN 3).setHart 4 fun h => { h with halted := true }, 4, by decide +kernel⟩,
   ⟨live fun d => (d.put Ent.Sec.DBG_EN 3).setHart 4 fun h => { h with halted := true }, 4, by decide +kernel⟩,
   ⟨live fun d => (d.put Ent.Sec.DBG_EN 3).setHart 4 fun h => { h with halted := true }, 4, 5, 9, by decide +kernel⟩,
   ⟨live fun d => (d.put Ent.Sec.DBG_EN 3).setHart 4 fun h => { h with halted := true, regs := [(5, 9)] }, 4, 5, 9, by decide +kernel⟩⟩

/-- The hypotheses of DmaAndQueuePairCommands are met. -/
theorem witness_DmaAndQueuePairCommands :
    (∃ (s : State) (a : Nat), Live s ∧ (region a = some .sysSram ∨ region a = some .tcm ∨ region a = some .image)) ∧
    (∃ (s : State) (c hall v : Nat), Live s ∧ (hall = 0 ∨ hall = s.dev.dmaOwner c)) ∧
    (∃ (s : State) (c : Nat) (b : Bytes), Live s ∧ s.dev.get (Ent.Dma.STATE c) = 1 ∧ s.dev.isSet (Rg.Dmar.ACTIVE c) = false ∧ s.dev.isSet (Rg.Dmar.STOPPED c) = false ∧ (s.dev.ch c).waits = false ∧ s.dev.hallStopped (s.dev.dmaOwner c) = false ∧ s.dev.fld (Rg.Dmar.HEAD c) ≠ s.dev.fld (Rg.Dmar.TAIL c) % s.dev.dmaRingSize c ∧ s.dev.dmaRead c (s.dev.dmaRing c (s.dev.fld (Rg.Dmar.HEAD c))) 32 = (.ok, b) ∧ bit (leAt b 0 4) 31 = true) ∧
    (∃ (s : State) (c n src dst sp dp : Nat), Live s ∧ s.dev.dmaWinner = some c ∧ leAt (s.dev.ch c).desc 0 1 % 16 = 1 ∧ (s.dev.ch c).done = 0 ∧ n = leAt (s.dev.ch c).desc 4 4 ∧ src = leAt (s.dev.ch c).desc 8 8 ∧ dst = leAt (s.dev.ch c).desc 16 8 ∧ n ≤ 512 ∧ src % 4096 + n ≤ 4096 ∧ dst % 4096 + n ≤ 4096 ∧ s.dev.dmaWalk c src false = .page sp ∧ s.dev.dmaWalk c dst true = .page dp ∧ inMemory (sp + src % 4096) = true ∧ inMemory (dp + dst % 4096) = true ∧ s.dev.rangeStatus (s.dev.dmaSecure c) false (sp + src % 4096) n = .ok ∧ s.dev.rangeStatus (s.dev.dmaSecure c) true (dp + dst % 4096) n = .ok) ∧
    (∃ (s : State) (c at_ : Nat) (e : Status), Live s ∧ (s.dev.ch c).ended = some e ∧ s.dev.isSet (Rg.Dmar.ACTIVE c) = true ∧ s.dev.get (Ent.Dma.STATE c) ≠ 2 ∧ (s.dev.ch c).await = [] ∧ at_ = s.dev.dmaRing c (s.dev.fld (Rg.Dmar.HEAD c)) ∧ (s.dev.dmaWrite c (at_ + 26) (le 2 e.code ++ le 4 (s.dev.ch c).done)).1 = .ok ∧ ((s.dev.dmaWrite c (at_ + 26) (le 2 e.code ++ le 4 (s.dev.ch c).done)).2.dmaWrite c at_ (le 4 (setBit (leAt (s.dev.ch c).desc 0 4) 31 false))).1 = .ok) ∧
    (∃ (s : State) (c hall : Nat), Live s ∧ (hall = 0 ∨ hall = s.dev.dmaOwner c) ∧ s.dev.isSet (Rg.Dmar.FAULTED c) = true) ∧
    (∃ (s : State) (c hall : Nat), Live s ∧ (hall = 0 ∨ hall = s.dev.dmaOwner c) ∧ s.dev.isSet (Rg.Dmar.FAULTED c) = true ∧ c < 64) ∧
    (∃ (s : State) (c hall : Nat), Live s ∧ (hall = 0 ∨ hall = s.dev.dmaOwner c) ∧ s.dev.get (Ent.Dma.STATE c) ≠ 0) ∧
    (∃ (s : State) (c : Nat), Live s ∧ s.dev.isSet (Rg.Dmar.INVAL_BUSY c) = true ∧ (s.dev.ch c).await = []) ∧
    (∃ (s : State) (n q : Nat) (b f : Bytes), Live s ∧ n < 4 ∧ s.dev.get (Ent.Heng.STATE n) = 1 ∧ s.dev.txNext n = some q ∧ s.dev.txPosted q = some b ∧ s.dev.txFault n q b = none ∧ s.dev.hostRoom (48 + n) (leAt b 8 2) = true ∧ s.dev.hallRead (s.dev.qpOwner q) (leAt b 0 8) (leAt b 8 2) = (.ok, f)) ∧
    (∃ (s : State) (p c q h : Nat) (x : Copy) (b f : Bytes), Live s ∧ 48 ≤ p ∧ p ≤ 51 ∧ s.dev.sw.txOf p = some (c, x) ∧ x.handed = false ∧ s.dev.unitOfHost p x.frame = none ∧ s.dev.pickQp p x.hall0 x.frame.dst = some q ∧ h = s.dev.qpOwner q ∧ s.dev.hallStopped h = false ∧ s.dev.rxReady q = true ∧ b = (s.dev.hallRead h (s.dev.rxRecord q) 16).2 ∧ f = frameBytes x.frame ++ zeros (60 - (frameBytes x.frame).length) ∧ (s.dev.hallWrite h (leAt b 0 8) (f.take (leAt b 8 2))).1 = .ok ∧ q < 256) :=
  ⟨⟨State.reset, 0x1200010, by decide +kernel⟩,
   ⟨State.reset, 2, 0, 1, by decide +kernel⟩,
   ⟨dmaState id, 2, dmaDesc 1 64 0x1201000 0x1202000, by decide +kernel⟩,
   ⟨dmaActive id, 2, 64, 0x1201000, 0x1202000, 0x1201000, 0x1202000, by decide +kernel⟩,
   ⟨dmaActive fun d => d.setCh 2 fun x => { x with done := 64, ended := some .ok }, 2, 0x1200000, .ok, by decide +kernel⟩,
   ⟨live fun d => d.setFld (Rg.Dmar.FAULTED 2) 1, 2, 0, by decide +kernel⟩,
   ⟨dmaActive fun d => d.setFld (Rg.Dmar.FAULTED 2) 1, 2, 0, by decide +kernel⟩,
   ⟨live fun d => d.put (Ent.Dma.STATE 2) 1, 2, 0, by decide +kernel⟩,
   ⟨live fun d => (d.setFld (Rg.Dmar.INVAL_BUSY 2) 1).setCh 2 fun x => { x with tlb := [(5, 6)] }, 2, by decide +kernel⟩,
   ⟨live fun d => (((((d.put (Ent.Heng.STATE 1) 1).put (Ent.Qp.STATE 5) 1).put (Ent.Qp.PORT 5) 49).setFld (Rg.Qpr.TX_BASE_LO 5) (0x1200000 / 16)).setFld (Rg.Qpr.TX_TAIL 5) 1).writeMem 0x1200000 (le 8 0x1201000 ++ le 2 60 ++ bytesOf [0x80, 0] ++ zeros 4), 1, 5, le 8 0x1201000 ++ le 2 60 ++ bytesOf [0x80, 0] ++ zeros 4, zeros 60, by decide +kernel⟩,
   ⟨(linked fun d => ((((d.put (Ent.Heng.DEF_QP 1) 5).put (Ent.Qp.STATE 5) 1).put (Ent.Qp.PORT 5) 49).setFld (Rg.Qpr.RX_BASE_LO 5) (0x1200000 / 16)).setFld (Rg.Qpr.RX_TAIL 5) 1 |>.writeMem 0x1200000 (le 8 0x1201000 ++ le 2 1024 ++ bytesOf [0x80, 0] ++ zeros 4) |>.setSw fun w => { w with queues := KV.insert (qKey 49 2) ⟨[copyIn .tx (some 5)], false, 0, false⟩ w.queues, stores := [(5, ⟨1, 1, true, false⟩)], nextStore := 6 }), 49, 2, 5, 0, copyIn .tx (some 5), le 8 0x1201000 ++ le 2 1024 ++ bytesOf [0x80, 0] ++ zeros 4, frameBytes bcast ++ zeros (60 - (frameBytes bcast).length), by decide +kernel⟩⟩

/-- The hypotheses of HallCommands are met. -/
theorem witness_HallCommands :
    (∃ (s : State) (n : Nat), Live s ∧ 0 < n ∧ n < 256 ∧ s.dev.tenants.freezing.contains n = false ∧ s.dev.hallState n = 0 ∧ s.dev.rescue = false) ∧
    (∃ (s : State) (n : Nat), Live s ∧ 0 < n ∧ n < 256 ∧ s.dev.tenants.freezing.contains n = false ∧ [1, 2, 3, 4, 7].contains (s.dev.hallState n) = true) ∧
    (∃ (s : State) (n : Nat), Live s ∧ 0 < n ∧ n < 256 ∧ s.dev.tenants.freezing.contains n = false ∧ [1, 2, 3, 4].contains (s.dev.hallState n) = true) ∧
    (∃ (s : State) (n : Nat), Live s ∧ 0 < n ∧ n < 256 ∧ s.dev.tenants.freezing.contains n = false ∧ s.dev.hallState n = 1 ∧ s.dev.guestOn n = false) ∧
    (∃ (s : State) (n : Nat), Live s ∧ s.dev.hallAtRest n = true ∧ s.dev.tenants.freezing.contains n = true) ∧
    (∃ (s : State) (n : Nat), Live s ∧ 0 < n ∧ n < 256 ∧ s.dev.tenants.freezing.contains n = false ∧ (s.dev.hallState n = 2 ∨ s.dev.hallState n = 7)) ∧
    (∃ (s : State) (n : Nat), Live s ∧ 0 < n ∧ n < 256 ∧ s.dev.tenants.freezing.contains n = false ∧ (s.dev.hallState n = 2 ∨ s.dev.hallState n = 3)) ∧
    (∃ (s : State) (n : Nat), Live s ∧ 0 < n ∧ n < 256 ∧ s.dev.tenants.freezing.contains n = false ∧ s.dev.hallState n = 0 ∧ s.dev.oct (Ent.Hall.HALL_STATE n) ≠ [] ∧ (s.dev.restoreRecord n (s.dev.oct (Ent.Hall.HALL_STATE n))).1 = .ok) ∧
    (∃ (s : State) (n : Nat), Live s ∧ 0 < n ∧ n < 256 ∧ s.dev.tenants.freezing.contains n = false ∧ (s.dev.hallState n = 1 ∨ s.dev.hallState n = 4)) ∧
    (∃ (s : State) (n hall v : Nat), Live s ∧ s.dev.pageStatus n hall = .ok ∧ bit v 0 = true) ∧
    (∃ (s : State) (n : Nat), Live s ∧ 0 < n ∧ n < 256 ∧ s.dev.get (Ent.Hall.WDT_MS n) ≠ 0 ∧ (s.dev.hallState n = 1 ∨ s.dev.hallState n = 4) ∧ KV.get 0 n s.dev.tenants.kicked + s.dev.get (Ent.Hall.WDT_MS n) * 1000000 ≤ s.dev.time.raw) ∧
    (∃ (s : State) (n v : Nat), Live s ∧ bit v 0 = true) :=
  ⟨⟨State.reset, 3, by decide +kernel⟩,
   ⟨hallAt 1 id, 3, by decide +kernel⟩,
   ⟨hallAt 3 id, 3, by decide +kernel⟩,
   ⟨hallAt 1 id, 3, by decide +kernel⟩,
   ⟨hallAt 2 fun d => d.setHalls fun x => { x with freezing := [3] }, 3, by decide +kernel⟩,
   ⟨hallAt 2 id, 3, by decide +kernel⟩,
   ⟨hallAt 2 id, 3, by decide +kernel⟩,
   ⟨live fun d => d.putOct (Ent.Hall.HALL_STATE 3) emptyRecord, 3, by decide +kernel, by decide +kernel, by decide +kernel, by decide +kernel, by decide +kernel, by decide +kernel, emptyRecord_restores _ (restoredFits_none _ (by decide +kernel) (by decide +kernel) (by decide +kernel) (by decide +kernel) (by decide +kernel))⟩,
   ⟨hallAt 1 id, 3, by decide +kernel⟩,
   ⟨hallAt 1 id, 3, 3, 1, by decide +kernel⟩,
   ⟨hallAt 1 fun d => (d.put (Ent.Hall.WDT_MS 3) 1).setTime fun t => { t with raw := 5000000 }, 3, by decide +kernel⟩,
   ⟨hallAt 1 id, 3, 1, by decide +kernel⟩⟩

/-- The hypotheses of HallMigrationCommands are met. -/
theorem witness_HallMigrationCommands :
    (∃ (s : State) (n : Nat), Live s ∧ 0 < n ∧ n < 256 ∧ s.dev.tenants.freezing.contains n = false ∧ s.dev.hallState n = 1 ∧ s.dev.tenants.mig = none ∧ (s.dev.role = 1 ∨ s.dev.role = 2) ∧ s.dev.upLane ≠ none ∧ (s.dev.mappedPages n).length ≤ 524288) ∧
    (∃ (s : State) (m : Migration), Live s ∧ s.dev.tenants.mig = some m ∧ m.accepted = false ∧ s.dev.passed m.since 100000000 = true ∧ m.hall < 256) ∧
    (∃ (s : State) (m : Migration), Live s ∧ s.dev.tenants.mig = some m ∧ m.accepted = true ∧ m.goAt = none ∧ m.ready = false ∧ 4 * (s.dev.dirtyPages m.hall).length ≤ m.dirtyMax) ∧
    (∃ (s : State) (n : Nat) (m : Migration), Live s ∧ 0 < n ∧ n < 256 ∧ s.dev.tenants.freezing.contains n = false ∧ s.dev.hallState n = 4 ∧ s.dev.tenants.mig = some m ∧ m.hall = n ∧ m.ready = true ∧ s.dev.guestOn n = false ∧ s.dev.stgStarted n = false) ∧
    (∃ (s : State) (n : Nat) (m : Migration), Live s ∧ 0 < n ∧ n < 256 ∧ s.dev.tenants.freezing.contains n = false ∧ s.dev.hallState n = 4 ∧ s.dev.tenants.mig = some m ∧ m.hall = n ∧ m.accepted = true) ∧
    (∃ (s : State) (m : Migration), Live s ∧ s.dev.tenants.mig = some m ∧ m.sent = true ∧ 0 < m.hall ∧ m.hall < 256) ∧
    (∃ (s : State) (n ccores : Nat) (insts : List (Nat × Nat)) (windows : Bytes), Live s ∧ 0 < n ∧ n < 256 ∧ s.dev.migFits n insts ccores windows = true) ∧
    (∃ (s : State) (n : Nat) (pages : List (Nat × Bytes)) (record : Bytes), Live s ∧ 0 < n ∧ n < 256 ∧ s.dev.hallState n = 6 ∧ s.dev.tenants.arrived.contains n = false ∧ (((pages.foldl (fun d x => d.writeMem (x.1 * 4096) (slice x.2 0 4096)) s.dev).restoreRecord n record).1 = .ok)) ∧
    (∃ (s : State) (n : Nat), Live s ∧ 0 < n ∧ n < 256 ∧ s.dev.hallState n = 6 ∧ s.dev.tenants.arrived.contains n = true) ∧
    (∃ (s : State) (n t : Nat), Live s ∧ s.dev.tenants.lostAt = some t ∧ s.dev.passed t 10000000 = true ∧ 0 < n ∧ n < 256 ∧ s.dev.hallState n = 6 ∧ s.dev.tenants.arrived.contains n = true) ∧
    (∃ (s : State) (n : Nat) (committed : Bool), Live s ∧ 0 < n ∧ n < 256 ∧ s.dev.hallState n = 7) :=
  ⟨⟨hallAt 1 fun d => (d.put Ent.Tws.ROLE 1).setLane 0 fun l => { l with up := true }, 3, by decide +kernel⟩,
   ⟨hallAt 1 fun d => later (d.setHalls fun x => { x with mig := some { moving with accepted := false } }), { moving with accepted := false }, by decide +kernel⟩,
   ⟨hallAt 4 fun d => d.setHalls fun x => { x with mig := some moving }, moving, by decide +kernel⟩,
   ⟨hallAt 4 fun d => d.setHalls fun x => { x with mig := some { moving with ready := true } }, 3, { moving with ready := true }, by decide +kernel⟩,
   ⟨hallAt 4 fun d => d.setHalls fun x => { x with mig := some moving }, 3, moving, by decide +kernel⟩,
   ⟨hallAt 5 fun d => d.setHalls fun x => { x with mig := some { moving with sent := true, goAt := some 0 } }, { moving with sent := true, goAt := some 0 }, by decide +kernel⟩,
   ⟨State.reset, 3, 0, [(6, 7)], [], by decide +kernel⟩,
   ⟨hallAt 6 id, 3, [], emptyRecord, by decide +kernel, by decide +kernel, by decide +kernel, by decide +kernel, by decide +kernel, emptyRecord_restores _ (restoredFits_none _ (by decide +kernel) (by decide +kernel) (by decide +kernel) (by decide +kernel) (by decide +kernel))⟩,
   ⟨hallAt 6 fun d => d.setHalls fun x => { x with arrived := [3] }, 3, by decide +kernel⟩,
   ⟨hallAt 6 fun d => later (d.setHalls fun x => { x with arrived := [3], lostAt := some 0 }), 3, 0, by decide +kernel⟩,
   ⟨hallAt 7 id, 3, true, by decide +kernel⟩⟩

theorem witness_CryptoJobCommands_1 : ∃ (s : State) (i a : Nat) (b : Bytes), Live s ∧ i = s.dev.fld Rg.Cry.HEAD % s.dev.crySize ∧ a = s.dev.cryRing + 64 * i ∧ s.dev.mezz.job = none ∧ i ≠ s.dev.fld Rg.Cry.TAIL % s.dev.crySize ∧ s.dev.cryRingOk a = true ∧ s.dev.rangeStatus true false a 64 = .ok ∧ b = s.dev.readMem a 64 ∧ bit (leAt b 1 1) 0 = true :=
  ⟨live fun d => ((d.setFld Rg.Cry.RING_LO (0x20000 / 64)).setFld Rg.Cry.TAIL 1).writeMem 0x20000 (cryBytes 3 1 8), 0, 0x20000, cryBytes 3 1 8 ++ zeros 4, by decide +kernel⟩

theorem witness_CryptoJobCommands_2 : ∃ (s : State) (j : CryptoJob) (c : CryDesc) (l : List Bytes) (r : Bytes × Bytes), Live s ∧ JobRuns s.dev 1 j c ∧ s.dev.cryReads c (Dev.cryKeyAt c 32 ++ [(c.input, c.len), (c.aad, c.aadLen), (c.aux, 12)]) = (.ok, l) ∧ r = gcmSeal (s.dev.cryKey c 32 l) (nth (afterKey c l) 2) (nth (afterKey c l) 1) (nth (afterKey c l) 0) ∧ s.dev.rangeStatus c.secure true c.output r.1.length = .ok ∧ s.dev.rangeStatus c.secure true c.tag r.2.length = .ok :=
  ⟨crypting (cryBytes 1 1 8) 1 id, ⟨cryBytes 1 1 8, none⟩, cryDesc (cryBytes 1 1 8), [zeros 8, [], zeros 12], _, by decide +kernel, by decide +kernel, by decide +kernel, rfl, by decide +kernel⟩

theorem witness_CryptoJobCommands_3 : ∃ (s : State) (j : CryptoJob) (c : CryDesc) (l : List Bytes) (t : Bytes), Live s ∧ JobRuns s.dev 2 j c ∧ s.dev.cryReads c (Dev.cryKeyAt c 32 ++ [(c.input, c.len), (c.aad, c.aadLen), (c.aux, 12), (c.tag, 16)]) = (.ok, l) ∧ gcmOpen (s.dev.cryKey c 32 l) (nth (afterKey c l) 2) (nth (afterKey c l) 1) (nth (afterKey c l) 0) (nth (afterKey c l) 3) = some t ∧ s.dev.rangeStatus c.secure true c.output t.length = .ok :=
  ⟨tagStored openTag, ⟨cryBytes 2 1 0, none⟩, cryDesc (cryBytes 2 1 0), [[], [], zeros 12, (List.range 16).map fun i => openTag.getD i 0#8], [], by decide +kernel, by decide +kernel, tagStored_job openTag, openTag_job, by decide +kernel⟩

theorem witness_CryptoJobCommands_4 : ∃ (s : State) (j : CryptoJob) (c : CryDesc) (b : Bytes), Live s ∧ JobRuns s.dev 3 j c ∧ s.dev.cryRead c c.input c.len = (.ok, b) ∧ s.dev.rangeStatus c.secure true c.output (sha256 b).length = .ok :=
  ⟨crypting (cryBytes 3 1 8) 1 id, ⟨cryBytes 3 1 8, none⟩, cryDesc (cryBytes 3 1 8), zeros 8, by decide +kernel⟩

theorem witness_CryptoJobCommands_5 : ∃ (s : State) (j : CryptoJob) (c : CryDesc) (b : Bytes), Live s ∧ JobRuns s.dev 4 j c ∧ s.dev.cryRead c c.input c.len = (.ok, b) ∧ s.dev.rangeStatus c.secure true c.output (sha384 b).length = .ok :=
  ⟨crypting (cryBytes 4 1 8) 1 id, ⟨cryBytes 4 1 8, none⟩, cryDesc (cryBytes 4 1 8), zeros 8, by decide +kernel⟩

theorem witness_CryptoJobCommands_6 : ∃ (s : State) (j : CryptoJob) (c : CryDesc) (l : List Bytes) (t : Bytes), Live s ∧ JobRuns s.dev 5 j c ∧ s.dev.cryReads c (Dev.cryKeyAt c 32 ++ [(c.input, c.len)]) = (.ok, l) ∧ t = hmacSha256 (s.dev.cryKey c 32 l) (nth (afterKey c l) 0) ∧ s.dev.rangeStatus c.secure true c.output t.length = .ok :=
  ⟨crypting (cryBytes 5 1 8) 0 id, ⟨cryBytes 5 1 8, none⟩, cryDesc (cryBytes 5 1 8), [zeros 8], hmacSha256 (zeros 31 ++ [5#8]) (zeros 8), by decide +kernel⟩

theorem witness_CryptoJobCommands_7 : ∃ (s : State) (j : CryptoJob) (c : CryDesc) (l : List Bytes), Live s ∧ JobRuns s.dev 6 j c ∧ s.dev.cryReads c [(c.aux, 32), (c.aad, 64), (c.key, 64)] = (.ok, l) :=
  ⟨crypting (cryBytes 6 1 0) 0 id, ⟨cryBytes 6 1 0, none⟩, cryDesc (cryBytes 6 1 0), [zeros 32, zeros 64, zeros 64], by decide +kernel⟩

theorem witness_CryptoJobCommands_8 : ∃ (s : State) (j : CryptoJob) (c : CryDesc) (l : List Bytes), Live s ∧ JobRuns s.dev 7 j c ∧ s.dev.cryReads c [(c.aux, 48), (c.aad, 96), (c.key, 96)] = (.ok, l) :=
  ⟨crypting (cryBytes 7 1 0) 0 id, ⟨cryBytes 7 1 0, none⟩, cryDesc (cryBytes 7 1 0), [zeros 48, zeros 96, zeros 96], by decide +kernel⟩

theorem witness_CryptoJobCommands_9 : ∃ (s : State) (j : CryptoJob) (c : CryDesc) (l : List Bytes) (k : Nat), Live s ∧ JobRuns s.dev 8 j c ∧ s.dev.cryReads c (Dev.cryKeyAt c 32 ++ [(c.aux, 32)]) = (.ok, l) ∧ k = ofBe (s.dev.cryKey c 32 l) ∧ 0 < k ∧ k < p256.n ∧ s.dev.rangeStatus c.secure true c.output (p256.sign sha256 64 k (nth (afterKey c l) 0)).length = .ok :=
  ⟨crypting (cryBytes 8 1 0) 2 id, ⟨cryBytes 8 1 0, none⟩, cryDesc (cryBytes 8 1 0), [zeros 32], 5, by decide +kernel, by decide +kernel, by decide +kernel, by decide +kernel, by decide +kernel, by decide +kernel, by rw [sign_length]; decide +kernel⟩

theorem witness_CryptoJobCommands_10 : ∃ (s : State) (j : CryptoJob) (c : CryDesc) (l : List Bytes) (k : Nat), Live s ∧ JobRuns s.dev 9 j c ∧ s.dev.cryReads c (Dev.cryKeyAt c 48 ++ [(c.aux, 48)]) = (.ok, l) ∧ k = ofBe (s.dev.cryKey c 48 l) ∧ 0 < k ∧ k < p384.n ∧ s.dev.rangeStatus c.secure true c.output (p384.sign sha384 128 k (nth (afterKey c l) 0)).length = .ok :=
  ⟨crypting (cryBytes 9 1 0) 3 id, ⟨cryBytes 9 1 0, none⟩, cryDesc (cryBytes 9 1 0), [zeros 48], 5 * 2 ^ 128, by decide +kernel, by decide +kernel, by decide +kernel, by decide +kernel, by decide +kernel, by decide +kernel, by rw [sign_length]; decide +kernel⟩

theorem witness_CryptoJobCommands_11 : ∃ (s : State) (j : CryptoJob) (c : CryDesc), Live s ∧ JobRuns s.dev 10 j c ∧ s.dev.rangeStatus c.secure true c.output c.len = .ok :=
  ⟨crypting (cryBytes 10 1 8) 0 id, ⟨cryBytes 10 1 8, none⟩, cryDesc (cryBytes 10 1 8), by decide +kernel⟩

theorem witness_CryptoJobCommands_12 : ∃ (s : State) (j : CryptoJob) (c : CryDesc) (b : Bytes), Live s ∧ JobRuns s.dev 11 j c ∧ s.dev.cryRead c c.input c.len = (.ok, b) ∧ s.dev.rangeStatus c.secure true c.output b.length = .ok :=
  ⟨crypting (cryBytes 11 1 8) 1 id, ⟨cryBytes 11 1 8, none⟩, cryDesc (cryBytes 11 1 8), zeros 8, by decide +kernel⟩

theorem witness_CryptoJobCommands_13 : ∃ (s : State) (b : Bytes) (e : Status), Live s ∧ s.dev.mezz.job = some ⟨b, some e⟩ ∧ s.dev.mezz.clearing = [] :=
  ⟨live fun d => d.setMezz fun m => { m with job := some ⟨cryBytes 3 1 8, some .ok⟩ }, cryBytes 3 1 8, .ok, by decide +kernel⟩

/-- The hypotheses of CryptoJobCommands are met. -/
theorem witness_CryptoJobCommands :
    (∃ (s : State) (i a : Nat) (b : Bytes), Live s ∧ i = s.dev.fld Rg.Cry.HEAD % s.dev.crySize ∧ a = s.dev.cryRing + 64 * i ∧ s.dev.mezz.job = none ∧ i ≠ s.dev.fld Rg.Cry.TAIL % s.dev.crySize ∧ s.dev.cryRingOk a = true ∧ s.dev.rangeStatus true false a 64 = .ok ∧ b = s.dev.readMem a 64 ∧ bit (leAt b 1 1) 0 = true) ∧
    (∃ (s : State) (j : CryptoJob) (c : CryDesc) (l : List Bytes) (r : Bytes × Bytes), Live s ∧ JobRuns s.dev 1 j c ∧ s.dev.cryReads c (Dev.cryKeyAt c 32 ++ [(c.input, c.len), (c.aad, c.aadLen), (c.aux, 12)]) = (.ok, l) ∧ r = gcmSeal (s.dev.cryKey c 32 l) (nth (afterKey c l) 2) (nth (afterKey c l) 1) (nth (afterKey c l) 0) ∧ s.dev.rangeStatus c.secure true c.output r.1.length = .ok ∧ s.dev.rangeStatus c.secure true c.tag r.2.length = .ok) ∧
    (∃ (s : State) (j : CryptoJob) (c : CryDesc) (l : List Bytes) (t : Bytes), Live s ∧ JobRuns s.dev 2 j c ∧ s.dev.cryReads c (Dev.cryKeyAt c 32 ++ [(c.input, c.len), (c.aad, c.aadLen), (c.aux, 12), (c.tag, 16)]) = (.ok, l) ∧ gcmOpen (s.dev.cryKey c 32 l) (nth (afterKey c l) 2) (nth (afterKey c l) 1) (nth (afterKey c l) 0) (nth (afterKey c l) 3) = some t ∧ s.dev.rangeStatus c.secure true c.output t.length = .ok) ∧
    (∃ (s : State) (j : CryptoJob) (c : CryDesc) (b : Bytes), Live s ∧ JobRuns s.dev 3 j c ∧ s.dev.cryRead c c.input c.len = (.ok, b) ∧ s.dev.rangeStatus c.secure true c.output (sha256 b).length = .ok) ∧
    (∃ (s : State) (j : CryptoJob) (c : CryDesc) (b : Bytes), Live s ∧ JobRuns s.dev 4 j c ∧ s.dev.cryRead c c.input c.len = (.ok, b) ∧ s.dev.rangeStatus c.secure true c.output (sha384 b).length = .ok) ∧
    (∃ (s : State) (j : CryptoJob) (c : CryDesc) (l : List Bytes) (t : Bytes), Live s ∧ JobRuns s.dev 5 j c ∧ s.dev.cryReads c (Dev.cryKeyAt c 32 ++ [(c.input, c.len)]) = (.ok, l) ∧ t = hmacSha256 (s.dev.cryKey c 32 l) (nth (afterKey c l) 0) ∧ s.dev.rangeStatus c.secure true c.output t.length = .ok) ∧
    (∃ (s : State) (j : CryptoJob) (c : CryDesc) (l : List Bytes), Live s ∧ JobRuns s.dev 6 j c ∧ s.dev.cryReads c [(c.aux, 32), (c.aad, 64), (c.key, 64)] = (.ok, l)) ∧
    (∃ (s : State) (j : CryptoJob) (c : CryDesc) (l : List Bytes), Live s ∧ JobRuns s.dev 7 j c ∧ s.dev.cryReads c [(c.aux, 48), (c.aad, 96), (c.key, 96)] = (.ok, l)) ∧
    (∃ (s : State) (j : CryptoJob) (c : CryDesc) (l : List Bytes) (k : Nat), Live s ∧ JobRuns s.dev 8 j c ∧ s.dev.cryReads c (Dev.cryKeyAt c 32 ++ [(c.aux, 32)]) = (.ok, l) ∧ k = ofBe (s.dev.cryKey c 32 l) ∧ 0 < k ∧ k < p256.n ∧ s.dev.rangeStatus c.secure true c.output (p256.sign sha256 64 k (nth (afterKey c l) 0)).length = .ok) ∧
    (∃ (s : State) (j : CryptoJob) (c : CryDesc) (l : List Bytes) (k : Nat), Live s ∧ JobRuns s.dev 9 j c ∧ s.dev.cryReads c (Dev.cryKeyAt c 48 ++ [(c.aux, 48)]) = (.ok, l) ∧ k = ofBe (s.dev.cryKey c 48 l) ∧ 0 < k ∧ k < p384.n ∧ s.dev.rangeStatus c.secure true c.output (p384.sign sha384 128 k (nth (afterKey c l) 0)).length = .ok) ∧
    (∃ (s : State) (j : CryptoJob) (c : CryDesc), Live s ∧ JobRuns s.dev 10 j c ∧ s.dev.rangeStatus c.secure true c.output c.len = .ok) ∧
    (∃ (s : State) (j : CryptoJob) (c : CryDesc) (b : Bytes), Live s ∧ JobRuns s.dev 11 j c ∧ s.dev.cryRead c c.input c.len = (.ok, b) ∧ s.dev.rangeStatus c.secure true c.output b.length = .ok) ∧
    (∃ (s : State) (b : Bytes) (e : Status), Live s ∧ s.dev.mezz.job = some ⟨b, some e⟩ ∧ s.dev.mezz.clearing = []) :=
  ⟨witness_CryptoJobCommands_1,
   witness_CryptoJobCommands_2,
   witness_CryptoJobCommands_3,
   witness_CryptoJobCommands_4,
   witness_CryptoJobCommands_5,
   witness_CryptoJobCommands_6,
   witness_CryptoJobCommands_7,
   witness_CryptoJobCommands_8,
   witness_CryptoJobCommands_9,
   witness_CryptoJobCommands_10,
   witness_CryptoJobCommands_11,
   witness_CryptoJobCommands_12,
   witness_CryptoJobCommands_13⟩

/-- The hypotheses of MezzanineCommands are met. -/
theorem witness_MezzanineCommands :
    (∃ (s : State) (i v : Nat) (reg : Bool), Live s ∧ i ≤ 2 ∧ s.dev.isSet (Rg.Wm.LOCKED i) = false ∧ v ≤ s.dev.watermarkMax i ∧ v < 2 ^ 20) ∧
    (∃ (s : State) (i g : Nat) (reg : Bool), Live s ∧ i ≤ 63 ∧ g ≤ 767 ∧ s.dev.leaseFault i g = none) ∧
    (∃ (s : State) (i : Nat) (reg : Bool), Live s ∧ i ≤ 63) ∧
    (∃ (s : State) (k : Nat), Live s ∧ k ≤ 31 ∧ s.dev.keyBusy k = false) ∧
    (∃ (s : State), Live s ∧ s.dev.get Ent.Sec.LIFECYCLE = 0) ∧
    (∃ (s : State) (b pub : Bytes), Live s ∧ s.dev.get Ent.Sec.LIFECYCLE = 1 ∧ s.dev.tokenOk (bytesOf [0x4E, 0x52, 0x54, 0x4E]) b pub = true ∧ leAt b 6 1 = 0) ∧
    (∃ (s : State) (b pub : Bytes), Live s ∧ s.dev.tokenOk (bytesOf [0x4E, 0x44, 0x42, 0x54]) b pub = true) ∧
    (∃ (s : State) (i : Nat), Live s ∧ i ≤ 3 ∧ setBit (s.dev.get Ent.Sec.KEY_REVOKED) i true % 16 ≠ 15) ∧
    (∃ (s : State) (n : Nat), Live s ∧ s.dev.get Ent.Sec.ROLLBACK ≤ n ∧ n ≤ 64) ∧
    (∃ (s : State), Live s ∧ s.dev.swdtRuns = true ∧ s.dev.swdtAged (s.dev.mezz.period * 500) = true) ∧
    (∃ (s : State) (env : BootEnv), Live s ∧ s.dev.swdtRuns = true ∧ s.dev.swdtAged (s.dev.mezz.period * 1000) = true) :=
  ⟨⟨live fun d => d.setFld (Rg.Wm.LOCKED 0) 0, 0, 16, false, by decide +kernel⟩,
   ⟨State.reset, 5, 200, true, by decide +kernel⟩,
   ⟨live fun d => (d.setFld (Rg.Lsr.GATE 5) 200).setFld (Rg.Lsr.VALID 5) 1, 5, true, by decide +kernel⟩,
   ⟨live fun d => (d.put (Ent.Key.LOADED 4) 1).put (Ent.Key.USAGE 4) 1, 4, by decide +kernel⟩,
   ⟨State.reset, by decide +kernel⟩,
   ⟨returnToken.state, returnToken.bytes, returnToken.pub, by decide +kernel, by decide +kernel, returnToken_ok, by decide +kernel⟩,
   ⟨debugToken.state, debugToken.bytes, debugToken.pub, by decide +kernel, debugToken_ok⟩,
   ⟨State.reset, 2, by decide +kernel⟩,
   ⟨State.reset, 9, by decide +kernel⟩,
   ⟨live fun d => later (d.setFld Rg.Swd.EN 1), by decide +kernel⟩,
   ⟨live fun d => later (d.setFld Rg.Swd.EN 1), ⟨[], 0, 12000, 1, 0, 0, 0, false, 0⟩, by decide +kernel⟩⟩

/-- The hypotheses of ClockSourceAndSwitchCommands are met. -/
theorem witness_ClockSourceAndSwitchCommands :
    (∃ (s : State) (src : Nat), Live s ∧ src ≤ 2 ∧ s.dev.sourceEnabled src = true ∧ s.dev.sourceStable src = false) ∧
    (∃ (s : State) (k : Nat), Live s ∧ k ≤ 3 ∧ s.dev.domStopped k = false ∧ (s.dev.dom k).locked = false) ∧
    (∃ (s : State) (src cause k : Nat), Live s ∧ src ≤ 2 ∧ k ≤ 3 ∧ s.dev.sourceEnabled src = true ∧ s.dev.sourceStable src = true ∧ s.dev.domSource k = src) ∧
    (∃ (s : State) (k t : Nat), Live s ∧ k ≤ 3 ∧ s.dev.switchAsked k = some t ∧ s.dev.maySwitch k t = true) ∧
    (∃ (s : State) (k r : Nat), Live s ∧ k ≤ 3 ∧ 0 < s.dev.get (Ent.Dom.REVERT_S k) ∧ KV.find (s.dev.get (Ent.Dom.REF_SEL k)) s.dev.clk.since = some r ∧ r + s.dev.get (Ent.Dom.REVERT_S k) * 1000000000 ≤ s.dev.time.raw ∧ s.dev.maySwitch k (s.dev.get (Ent.Dom.REF_SEL k)) = true) ∧
    (∃ (s : State) (k t : Nat), Live s ∧ k ≤ 3 ∧ s.dev.domStopped k = true ∧ (s.dev.dom k).target = some t ∧ s.dev.sourceStable (s.dev.dom k).old = true) ∧
    (∃ (s : State) (k t : Nat), Live s ∧ k ≤ 3 ∧ s.dev.domStopped k = true ∧ (s.dev.dom k).target = some t ∧ s.dev.sourceStable (s.dev.dom k).old = false) ∧
    (∃ (s : State) (k : Nat), Live s ∧ k ≤ 3 ∧ s.dev.flag Ent.Clk.REF_LOSS = false ∧ s.dev.sleep.target = 0 ∧ s.dev.domStopped k = true ∧ (s.dev.dom k).target = none ∧ s.dev.aged s.dev.clk.waitAt 40000 = true) ∧
    (∃ (s : State) (src r : Nat), Live s ∧ s.dev.flag Ent.Clk.REF_LOSS = true ∧ src ≤ 2 ∧ s.dev.sourceEnabled src = true ∧ s.dev.sourceStable src = true ∧ KV.find src s.dev.clk.since = some r ∧ r + 100000 ≤ s.dev.time.raw) ∧
    (∃ (s : State), Live s ∧ s.dev.idle = true ∧ s.dev.passed s.dev.clk.dramAt 10000 = true ∧ bit (s.dev.get (gateEntry 5)) 7 = true) :=
  ⟨⟨live fun d => d.put Ent.Clk.REFIN_EN 1, 1, by decide +kernel⟩,
   ⟨live fun d => d.setDom 2 fun x => { x with locked := false }, 2, by decide +kernel⟩,
   ⟨State.reset, 0, 1, 2, by decide +kernel⟩,
   ⟨live fun d => ((d.put Ent.Clk.REFIN_EN 1).putBit Ent.Clk.SRC_STATUS 1 true).setD0 fun u => { u with applying := [(0x2212, ⟨⟨.mailbox 0, 0, 0, []⟩, (0, 0), [((Ent.Dom.REF_SEL 2).key, 1)], []⟩)] }, 2, 1, by decide +kernel⟩,
   ⟨live fun d => (((d.put (Ent.Dom.SOURCE 2) 2).put (Ent.Dom.REVERT_S 2) 1).setClk fun c => { c with since := [(0, 0)] }).setTime fun t => { t with raw := 2000000000 }, 2, 0, by decide +kernel⟩,
   ⟨live fun d => (d.put (Ent.Dom.SOURCE 2) 0xFF).setDom 2 fun x => { x with old := 0, target := some 1 }, 2, 1, by decide +kernel⟩,
   ⟨live fun d => (d.put (Ent.Dom.SOURCE 2) 0xFF).setDom 2 fun x => { x with old := 1, target := some 2 }, 2, 2, by decide +kernel⟩,
   ⟨live fun d => later ((d.put (Ent.Dom.SOURCE 2) 0xFF).setDom 2 fun x => { x with target := none }), 2, by decide +kernel⟩,
   ⟨live fun d => ((((d.put Ent.Clk.REF_LOSS 1).put (Ent.Dom.SOURCE 2) 0xFF)).setClk fun c => { c with since := [(0, 0)] }).setTime fun t => { t with raw := 2000000000 }, 0, 0, by decide +kernel⟩,
   ⟨live fun d => later (([17, 18, 19, 20, 25, 26, 27, 28, 29, 30, 31, 32] : List Nat).foldl (fun d g => d.setGateState g 2) d), by decide +kernel⟩⟩

/-- The hypotheses of GateAndUnitResetCommands are met. -/
theorem witness_GateAndUnitResetCommands :
    (∃ (s : State) (g v : Nat) (secure : Bool), Live s ∧ gateListed g = true ∧ gateWriteOk g v = true ∧ s.dev.lowers g v secure = false ∧ s.dev.flag Ent.Clk.REF_LOSS = false ∧ s.dev.gateState g ≤ 2) ∧
    (∃ (s : State) (g v : Nat) (secure : Bool), Live s ∧ gateListed g = true ∧ gateWriteOk g v = true ∧ s.dev.gateOffFault g secure = .ok ∧ s.dev.lowers g v secure = false) ∧
    (∃ (s : State) (g v : Nat) (secure : Bool) (st : Status), Live s ∧ gateListed g = true ∧ gateWriteOk g v = true ∧ s.dev.gateOffFault g secure = st ∧ st ≠ .ok) ∧
    (∃ (s : State) (g : Nat), Live s ∧ gateListed g = true ∧ 10 < g ∧ s.dev.gateState g = 1 ∧ bit (s.dev.get (gateEntry g)) 3 = true ∧ s.dev.gateIdle g = true) ∧
    (∃ (s : State) (g : Nat), Live s ∧ gateListed g = true ∧ s.dev.gateState g = 2) ∧
    (∃ (s : State) (v : Nat) (secure : Bool), Live s ∧ 160 ≤ v ∧ v ≤ 191 ∧ (secure = true ∨ s.dev.leased v = false)) ∧
    (∃ (s : State) (v : Nat) (secure : Bool), Live s ∧ gateListed v = false ∧ (v < 0x1000 ∨ 0x1002 < v) ∧ KV.find Ent.Pwr.UNIT_RESET.key s.dev.d0.waits = none) :=
  ⟨⟨live fun d => d.setGateState 130 0, 130, 1, 0, by decide +kernel⟩,
   ⟨State.reset, 163, 0, 0, by decide +kernel⟩,
   ⟨State.reset, 3, 0, 0, .writeProtected, by decide +kernel⟩,
   ⟨live fun d => d.putBit (gateEntry 163) 3 true, 163, by decide +kernel⟩,
   ⟨live fun d => d.setGateState 130 2, 130, by decide +kernel⟩,
   ⟨live fun d => d.put (Ent.Trgu.ENABLE 3) 1, 163, 0, by decide +kernel⟩,
   ⟨State.reset, 300, 0, by decide +kernel⟩⟩

/-- The hypotheses of SupplyAndResetCommands are met. -/
theorem witness_SupplyAndResetCommands :
    (∃ (s : State) (env : BootEnv), s.dev.power.phase = .off) ∧
    (∃ (s : State), s.dev.power.phase ≠ .off) ∧
    (∃ (s : State), s.dev.power.phase = .running) ∧
    (∃ (s : State) (env : BootEnv), s.dev.power.phase = .held true false) ∧
    (∃ (s : State) (rail mv : Nat) (env : BootEnv), s.dev.awake = true) ∧
    (∃ (s : State) (detail rail mv : Nat) (env : BootEnv), s.dev.awake = true ∧ (detail = 1 ∨ detail = 3 ∨ detail = 4)) ∧
    (∃ (s : State) (env : BootEnv), s.dev.power.phase = .held false true) :=
  ⟨⟨{ State.reset with dev := Dev.off }, ⟨[], 0, 12000, 1, 0, 0, 0, false, 0⟩, by decide +kernel⟩,
   ⟨State.reset, by decide +kernel⟩,
   ⟨State.reset, by decide +kernel⟩,
   ⟨{ State.reset with dev := setPhase (.held true false) Dev.reset }, ⟨[], 0, 12000, 1, 0, 0, 0, false, 0⟩, by decide +kernel⟩,
   ⟨State.reset, 0, 0, ⟨[], 0, 12000, 1, 0, 0, 0, false, 0⟩, by decide +kernel⟩,
   ⟨State.reset, 3, 0, 0, ⟨[], 0, 12000, 1, 0, 0, 0, false, 0⟩, by decide +kernel⟩,
   ⟨{ State.reset with dev := setPhase (.held false true) Dev.reset }, ⟨[], 0, 12000, 1, 0, 0, 0, false, 0⟩, by decide +kernel⟩⟩

/-- The hypotheses of WarmResetCommands are met. -/
theorem witness_WarmResetCommands :
    (∃ (s : State) (secure : Bool) (ms : Nat), Live s ∧ s.dev.warmAllowed = true ∧ s.dev.get Ent.Pwr.PF_STATE = 0) ∧
    (∃ (s : State) (core ms : Nat), Live s ∧ core ≤ 3 ∧ s.dev.warmAllowed = true ∧ s.dev.get Ent.Pwr.PF_STATE = 0) ∧
    (∃ (s : State) (secure : Bool) (ms : Nat), Live s ∧ s.dev.get Ent.Pwr.PF_STATE ≠ 0 ∧ KV.find Ent.Pwr.WARM_RESET.key s.dev.d0.waits = none) :=
  ⟨⟨State.reset, 0, 0, by decide +kernel⟩,
   ⟨State.reset, 0, 0, by decide +kernel⟩,
   ⟨live fun d => d.put Ent.Pwr.PF_STATE 1, 0, 0, by decide +kernel⟩⟩

/-- The hypotheses of PowerFailCommands are met. -/
theorem witness_PowerFailCommands :
    (∃ (s : State), Live s ∧ s.dev.get Ent.Pwr.PF_STATE = 0) ∧
    (∃ (s : State), Live s ∧ s.dev.get Ent.Pwr.PF_STATE ≠ 0 ∧ s.dev.scan.saving = none ∧ s.dev.aged s.dev.power.pfSince (s.dev.get Ent.Pf.PF_RECOVER_MS * 1000000) = true) :=
  ⟨⟨State.reset, by decide +kernel⟩,
   ⟨live fun d => later ((d.put Ent.Pwr.PF_STATE 2).put (Ent.CanSt.STATE 2) 1), by decide +kernel⟩⟩

/-- The hypotheses of StorageRingCommands are met. -/
theorem witness_StorageRingCommands :
    (∃ (s : State) (h i : Nat) (x : Bytes) (c : StCmd), Live s ∧ s.dev.nandOn = true ∧ s.dev.isSet (Rg.Stg.STOPPED h) = false ∧ s.dev.hallStopped h = false ∧ s.dev.hallExists h = true ∧ (((s.dev.ring h).filter fun c => !c.back).length < 8) ∧ i = (s.dev.fld (Rg.Stg.HEAD h) + (s.dev.ring h).length) % s.dev.stgSize h ∧ i ≠ s.dev.fld (Rg.Stg.TAIL h) % s.dev.stgSize h ∧ ((s.dev.translate h false (s.dev.stgRing h i) 32).all (fun a => !s.dev.isD a) = true) ∧ s.dev.hallRead h (s.dev.stgRing h i) 32 = (.ok, x) ∧ c = ⟨i, leAt x 0 2, leAt x 4 4, leAt x 8 8, leAt x 16 8, 0, none, false⟩ ∧ bit c.ctrl 15 = true ∧ (c.op = 4 → (s.dev.ring h).all (·.back) = true)) ∧
    (∃ (s : State) (i n : Nat) (w : NandWork) (c : StCmd), Live s ∧ s.dev.stgCmd 0 i 1 = some c ∧ s.dev.writeAhead 0 c = false ∧ 1 ≤ n ∧ c.done = 0 ∧ c.count = 1 ∧ c.addr % 4096 = 0 ∧ s.dev.isD c.addr = false ∧ s.dev.rangeStatus false true c.addr 4096 = .ok ∧ s.dev.sto.bad.contains (partKey 0 c.lba) = false ∧ w.bad.contains 0 = false ∧ (s.dev.sector (partKey 0 c.lba)).length = 4096) ∧
    (∃ (s : State) (h i n : Nat) (w : NandWork) (c : StCmd) (x : Bytes), Live s ∧ s.dev.stgCmd h i 2 = some c ∧ 1 ≤ n ∧ c.done = 0 ∧ c.count = 1 ∧ c.addr % 4096 = 0 ∧ s.dev.bufferOk h c = true ∧ s.dev.hallRead h c.addr 4096 = (.ok, x)) ∧
    (∃ (s : State) (h i j : Nat) (c : StCmd), Live s ∧ s.dev.stgCmd h i 3 = some c ∧ j < c.count) ∧
    (∃ (s : State) (h i : Nat) (c : StCmd), Live s ∧ s.dev.stgCmd h i 4 = some c) ∧
    (∃ (s : State) (i n : Nat) (w : NandWork) (c : StCmd) (x : Bytes), Live s ∧ s.dev.stgCmd 0 i 5 = some c ∧ 1 ≤ n ∧ c.done = 0 ∧ c.count = 1 ∧ bit c.ctrl 31 = false ∧ c.addr % 4096 = 0 ∧ s.dev.bufferOk 0 c = true ∧ s.dev.hallRead 0 c.addr 4096 = (.ok, x) ∧ s.dev.get Ent.Stlog.LOG_MIB ≠ 0 ∧ s.dev.get Ent.Stlog.LOG_NEXT + 4096 ≤ s.dev.get Ent.Stlog.LOG_OLDEST + s.dev.get Ent.Stlog.LOG_MIB * 1048576 ∧ s.dev.get Ent.Stlog.LOG_NEXT + 4096 < 2 ^ 64) ∧
    (∃ (s : State) (i n : Nat) (w : NandWork) (c : StCmd), Live s ∧ s.dev.stgCmd 0 i 6 = some c ∧ 1 ≤ n ∧ c.done = 0 ∧ c.count = 1 ∧ c.addr % 4096 = 0 ∧ s.dev.isD c.addr = false ∧ s.dev.rangeStatus false true c.addr 4096 = .ok ∧ s.dev.get Ent.Stlog.LOG_OLDEST ≤ c.lba ∧ s.dev.sto.bad.contains (logKey c.lba) = false ∧ w.bad.contains 0 = false ∧ (s.dev.sector (logKey c.lba)).length = 4096) ∧
    (∃ (s : State) (i : Nat) (c : StCmd) (st : Status), Live s ∧ s.dev.hallStopped 0 = false ∧ s.dev.isSet (Rg.Stg.STOPPED 0) = false ∧ s.dev.ring 0 = [c] ∧ c.idx = i ∧ c.back = false ∧ c.ended = some st ∧ c.op ≠ 5 ∧ s.dev.rangeStatus false true (s.dev.stgRing 0 i + 24) 8 = .ok ∧ s.dev.rangeStatus false true (s.dev.stgRing 0 i) 2 = .ok) :=
  ⟨⟨live fun d => (((d.setFld (Rg.Stg.RING_LO 0) (0x1200000 / 32)).setFld (Rg.Stg.TAIL 0) 1).writeMem 0x1200000 (le 2 0x8004 ++ zeros 30)), 0, 0, le 2 0x8004 ++ zeros 30, ⟨0, 0x8004, 0, 0, 0, 0, none, false⟩, by decide +kernel⟩,
   ⟨stoJob ⟨0, 0x8001, 1, 0, 0x1200000, 0, none, false⟩, 0, 1, noWork, ⟨0, 0x8001, 1, 0, 0x1200000, 0, none, false⟩, by decide +kernel⟩,
   ⟨stoJob ⟨0, 0x8002, 1, 0, 0x1200000, 0, none, false⟩, 0, 0, 1, noWork, ⟨0, 0x8002, 1, 0, 0x1200000, 0, none, false⟩, zeros 4096, by decide +kernel⟩,
   ⟨stoJob ⟨0, 0x8003, 1, 0, 0x1200000, 0, none, false⟩, 0, 0, 0, ⟨0, 0x8003, 1, 0, 0x1200000, 0, none, false⟩, by decide +kernel⟩,
   ⟨stoJob ⟨0, 0x8004, 0, 0, 0x1200000, 0, none, false⟩, 0, 0, ⟨0, 0x8004, 0, 0, 0x1200000, 0, none, false⟩, by decide +kernel⟩,
   ⟨stoJob ⟨0, 0x8005, 1, 0, 0x1200000, 0, none, false⟩, 0, 1, noWork, ⟨0, 0x8005, 1, 0, 0x1200000, 0, none, false⟩, zeros 4096, by decide +kernel⟩,
   ⟨stoJob ⟨0, 0x8006, 1, 0, 0x1200000, 0, none, false⟩, 0, 1, noWork, ⟨0, 0x8006, 1, 0, 0x1200000, 0, none, false⟩, by decide +kernel⟩,
   ⟨live fun d => (stoJob ⟨0, 0x8001, 1, 0, 0x1201000, 1, some .ok, false⟩).dev.setFld (Rg.Stg.RING_LO 0) (0x1200000 / 32), 0, ⟨0, 0x8001, 1, 0, 0x1201000, 1, some .ok, false⟩, .ok, by decide +kernel⟩⟩

/-- The hypotheses of StorageUpkeepAndUpdateCommands are met. -/
theorem witness_StorageUpkeepAndUpdateCommands :
    (∃ (s : State), Live s ∧ s.dev.nandOn = true ∧ s.dev.commitDue = true ∧ s.dev.logs.events.length + s.dev.logs.waiting.length ≤ 33554432) ∧
    (∃ (s : State) (w : NandWork), Live s ∧ s.dev.nandOn = true ∧ s.dev.get Ent.Sto.REFRESHES < 2 ^ 64 - 1) ∧
    (∃ (s : State) (refresh : Bool) (w : NandWork) (k : Nat), Live s ∧ s.dev.nandOn = true ∧ k ∈ w.bad) ∧
    (∃ (s : State) (ms : Nat) (unclean : Bool), Live s ∧ s.dev.sto.mounted = false ∧ s.dev.get Ent.Sto.MOUNTS_UNCLEAN < 2 ^ 64 - 1) ∧
    (∃ (s : State) (h k : Nat), Live s ∧ (h = 0 ∨ s.dev.hallExists h = false) ∧ k < 2 ^ 22) ∧
    (∃ (s : State) (h : Nat), Live s ∧ h ≠ 0 ∧ s.dev.hallExists h = true) ∧
    (∃ (s : State), Live s ∧ s.dev.get Ent.Upd.STAGING_STATE = 2 ∧ KV.find Ent.Upd.STAGING_CMD.key s.dev.d0.waits = none) ∧
    (∃ (s : State), Live s ∧ s.dev.get Ent.Upd.STAGING_STATE < 2 ∧ KV.find Ent.Upd.STAGING_CMD.key s.dev.d0.waits = none) ∧
    (∃ (s : State), Live s ∧ KV.find Ent.Upd.STAGING_CMD.key s.dev.d0.waits = none) ∧
    (∃ (s : State), Live s ∧ s.dev.get Ent.Upd.IMAGE_STATE = 1) ∧
    (∃ (s : State), Live s ∧ s.dev.get Ent.Upd.IMAGE_STATE = 2 ∧ KV.find Ent.Upd.RETRY_ACTIVE.key s.dev.d0.waits = none) :=
  ⟨⟨live later, by decide +kernel⟩,
   ⟨State.reset, noWork, by decide +kernel⟩,
   ⟨State.reset, false, { noWork with bad := [7] }, 7, by decide +kernel⟩,
   ⟨live fun d => d.setSto fun x => { x with mounted := false }, 0, 0, by decide +kernel⟩,
   ⟨live fun d => d.setSto fun x => { x with sectors := [(partKey 0 5, le 4096 1)] }, 0, 5, by decide +kernel⟩,
   ⟨live fun d => d.setHall 5 1, 5, by decide +kernel⟩,
   ⟨live fun d => d.put Ent.Upd.STAGING_STATE 2, by decide +kernel⟩,
   ⟨State.reset, by decide +kernel⟩,
   ⟨live fun d => d.put Ent.Upd.STAGING_STATE 2, by decide +kernel⟩,
   ⟨live fun d => d.put Ent.Upd.IMAGE_STATE 1, by decide +kernel⟩,
   ⟨live fun d => (d.put Ent.Upd.IMAGE_STATE 2).put Ent.Upd.FAILED_STARTS 3, by decide +kernel⟩⟩

/-- The hypotheses of GalleryLinkCommands are met. -/
theorem witness_GalleryLinkCommands :
    (∃ (s : State), Live s ∧ s.dev.twinOn = true ∧ s.dev.twin.low = false) ∧
    (∃ (s : State), Live s ∧ s.dev.get Ent.Twc.LIVE_MS ≠ 0 ∧ s.dev.aged s.dev.twin.kickAt (s.dev.get Ent.Twc.LIVE_MS * 1000000) = true) ∧
    (∃ (s : State) (n : Nat) (key : Bytes), Live s ∧ s.dev.galleryKey = some key ∧ n < 2 ∧ (s.dev.lane n).up = false ∧ s.dev.get (Ent.Port.STATE (52 + n)) = 1 ∧ s.dev.get Ent.Pwr.PF_STATE = 0) ∧
    (∃ (s : State) (n : Nat) (w key : Bytes), Live s ∧ s.dev.galleryKey = some key ∧ n < 2 ∧ wireOk w = true ∧ leAt w 0 1 = 1 ∧ wireFits w = true ∧ leAt w 2 2 = 32 ∧ leAt w 1 1 % 2 = n ∧ slice w (w.length - 20) 16 = (hmacSha256 key (w.take (w.length - 20))).take 16 ∧ (s.dev.lane n).up = false ∧ (s.dev.lane n).nonce ≠ [] ∧ s.dev.get Ent.Tws.POSITION ≠ leAt w 1 1 / 2 % 2) ∧
    (∃ (s : State) (n : Nat) (w k b : Bytes), Live s ∧ n < 2 ∧ wireOk w = true ∧ leAt w 0 1 = 2 ∧ wireFits w = true ∧ leAt w 1 1 = laneFlags n (s.dev.lane n).pos ∧ before64 (s.dev.lane n).rx (leAt w 8 8) = true ∧ (s.dev.lane n).key = some k ∧ gcmOpen k (laneNonce (leAt w 1 1) (leAt w 8 8)) (w.take 16) (slice w 16 (leAt w 2 2)) (slice w (w.length - 20) 16) = some b) ∧
    (∃ (s : State) (q n : Nat), Live s ∧ s.dev.twin.rxSeq = some q ∧ 0 < s.dev.twin.rxOpen ∧ s.dev.upLane = some n) ∧
    (∃ (s : State) (x : GPost) (r : List GPost), Live s ∧ s.dev.twin.posts = x :: r ∧ s.dev.aged x.sent (s.dev.get Ent.Twc.GAL_TIMEOUT_US * 1000) = true) ∧
    (∃ (s : State) (n : Nat), Live s ∧ s.dev.twinOn = true ∧ n < 2 ∧ (s.dev.lane n).key.isSome = true) ∧
    (∃ (s : State) (mac : Nat), Live s ∧ s.dev.twinOn = true ∧ mac = ofBe (s.dev.oct Ent.Twc.BLOCK_MAC) ∧ mac ≠ 0) ∧
    (∃ (s : State) (node role epoch : Nat), Live s ∧ s.dev.get Ent.Twc.BLOCK_ROLE = 1 ∧ node < 4096) :=
  ⟨⟨twinned 0 fun d => d, by decide +kernel⟩,
   ⟨twinned 0 fun d => later (d.put Ent.Twc.LIVE_MS 5), by decide +kernel⟩,
   ⟨galleryKeyed fun d => d.setLane 0 fun l => { l with nonce := zeros 16 }, 0, zeros 32, by decide +kernel⟩,
   ⟨galleryKeyed fun d => d.setLane 0 fun l => { l with nonce := zeros 16 }, 0, helloWire, zeros 32, by decide +kernel⟩,
   ⟨galleryKeyed fun d => d.setLane 0 fun l => { l with key := some (zeros 32), pos := 1 }, 0, dataWire, zeros 32, [], by decide +kernel, by decide +kernel, dataWire_ok, by decide +kernel, by decide +kernel, by decide +kernel, by decide +kernel, by decide +kernel, dataWire_opens⟩,
   ⟨twinned 1 fun d => d.setTwin fun t => { t with rxSeq := some 7, rxOpen := 1 }, 7, 0, by decide +kernel⟩,
   ⟨twinned 1 fun d => later (d.setTwin fun t => { t with posts := [⟨4, 0, 257, 0, false⟩] }), ⟨4, 0, 257, 0, false⟩, [], by decide +kernel⟩,
   ⟨twinned 1 fun d => d, 0, by decide +kernel⟩,
   ⟨twinned 1 fun d => d.putOct Ent.Twc.BLOCK_MAC (be 6 0x20000000005), 0x20000000005, by decide +kernel⟩,
   ⟨live fun d => d.put Ent.Twc.BLOCK_ROLE 1, 0, 0, 0, by decide +kernel⟩⟩

/-- The hypotheses of PartnerWatchAndPromotionCommands are met. -/
theorem witness_PartnerWatchAndPromotionCommands :
    (∃ (s : State), Live s ∧ s.dev.twinOn = true ∧ s.dev.path 0 = true ∧ s.dev.path 1 = true ∧ s.dev.aged s.dev.twin.edgeAt 1000000 = true) ∧
    (∃ (s : State), Live s ∧ s.dev.twinOn = true ∧ s.dev.spare = true) ∧
    (∃ (s : State) (n epoch role flags state change activeId forceGen : Nat), Live s ∧ n < 2 ∧ epoch < 65536 ∧ role < 256) ∧
    (∃ (s : State), Live s ∧ s.dev.twinOn = true ∧ s.dev.aged s.dev.twin.beatAt 1000000 = true ∧ s.dev.path 1 = false ∧ s.dev.role = 1) ∧
    (∃ (s : State), Live s ∧ s.dev.twinOn = true ∧ s.dev.aged s.dev.twin.beatAt 1000000 = true ∧ s.dev.path 1 = true ∧ s.dev.role = 2) ∧
    (∃ (s : State) (t : Nat), Live s ∧ s.dev.twinOn = true ∧ s.dev.spare = true ∧ s.dev.twin.fell = some t ∧ s.dev.aged t 200000 = true ∧ s.dev.twin.promote = none) ∧
    (∃ (s : State), Live s ∧ s.dev.twinOn = true ∧ s.dev.spare = true ∧ s.dev.path 0 = false ∧ s.dev.path 1 = false ∧ s.dev.twin.promote = none ∧ s.dev.twin.fell = none ∧ s.dev.twin.query = false ∧ (s.dev.path 6 = false ∨ s.dev.aged s.dev.twin.queryAt 500000 = true)) ∧
    (∃ (s : State) (v : Nat), Live s ∧ s.dev.twin.query = true ∧ s.dev.twin.answer = some (true, v) ∧ s.dev.twin.promote = none) ∧
    (∃ (s : State) (c : Nat), Live s ∧ s.dev.twin.promote = some (c, false)) ∧
    (∃ (s : State) (c : Nat), Live s ∧ s.dev.twin.promote = some (c, true)) :=
  ⟨⟨twinned 2 fun d => later (d.setPath 1 true), by decide +kernel⟩,
   ⟨twinned 2 fun d => d, by decide +kernel⟩,
   ⟨twinned 2 fun d => d, 0, 0, 1, 0, 0, 0, 0, 0, by decide +kernel⟩,
   ⟨twinned 1 later, by decide +kernel⟩,
   ⟨twinned 2 fun d => later (d.setPath 1 true), by decide +kernel⟩,
   ⟨twinned 2 fun d => later (d.setTwin fun t => { t with fell := some 0 }), 0, by decide +kernel⟩,
   ⟨twinned 2 fun d => d.setPath 0 false, by decide +kernel⟩,
   ⟨twinned 2 fun d => d.setTwin fun t => { t with query := true, answer := some (true, 0) }, 0, by decide +kernel⟩,
   ⟨twinned 2 fun d => d.setTwin fun t => { t with promote := some (1, false) }, 1, by decide +kernel⟩,
   ⟨twinned 2 fun d => d.setTwin fun t => { t with promote := some (1, true) }, 1, by decide +kernel⟩⟩

/-- The hypotheses of AttachAndReplicationCommands are met. -/
theorem witness_AttachAndReplicationCommands :
    (∃ (s : State) (node compat pos activeId : Nat) (digest : Bytes), Live s ∧ s.dev.attachCheck node compat pos digest = .ok) ∧
    (∃ (s : State) (node : Nat) (a : Attach), Live s ∧ s.dev.twin.attach = some a ∧ a.step ≤ 2 ∧ node = s.dev.get Ent.Twc.PEER_NODE) ∧
    (∃ (s : State) (a : Attach), Live s ∧ s.dev.twin.attach = some a ∧ a.step = 3 ∧ s.dev.twinBoundary = true) ∧
    (∃ (s : State), Live s ∧ s.dev.twinOn = true ∧ s.dev.role = 5 ∧ s.dev.twin.refused = true ∧ s.dev.flag Ent.Twc.AUTO_ATTACH = true ∧ s.dev.peerDrives = true ∧ s.dev.aged s.dev.twin.refusedAt 1000000000 = true) ∧
    (∃ (s : State) (a : Attach), Live s ∧ s.dev.twin.attach = some a ∧ a.step ≠ 5 ∧ s.dev.aged a.since s.dev.changeWindow = true) ∧
    (∃ (s : State) (q epoch off : Nat) (b : Bytes) (a : Attach), Live s ∧ s.dev.twin.attach = some a ∧ a.step = 2 ∧ off = a.image.length) ∧
    (∃ (s : State) (q epoch off : Nat) (b : Bytes) (a : Attach), Live s ∧ s.dev.twin.attach = some a ∧ a.step = 2 ∧ off = a.snap.length ∧ epoch < 65536) ∧
    (∃ (s : State) (q t cycle startNs : Nat) (last : Bool) (b : Bytes), Live s ∧ s.dev.role = 2 ∧ (imgTask s.dev.image t).isSome = true ∧ (last = false ∨ (s.dev.run t).phase ≠ 0)) ∧
    (∃ (s : State) (t cycle crc x : Nat), Live s ∧ s.dev.role = 2 ∧ (s.dev.twinRun t).own = some (cycle, x) ∧ x ≠ crc ∧ (s.dev.twinRun t).wrong + 1 < s.dev.get Ent.Twc.MISMATCH_LIMIT) ∧
    (∃ (s : State) (q i : Nat) (b x : Bytes), Live s ∧ s.dev.role = 2 ∧ s.dev.allIdle = true ∧ s.dev.twin.lines = [] ∧ i < 4096 ∧ x.length = 64 ∧ b = le 4 i ++ x) ∧
    (∃ (s : State) (q st v : Nat) (b : Bytes), Live s ∧ s.dev.role = 2 ∧ st < 2048 ∧ v < 65536 ∧ b = le 2 st ++ le 2 v) ∧
    (∃ (s : State) (q gen : Nat) (b : Bytes), Live s ∧ s.dev.role = 2) :=
  ⟨⟨twinned 0 fun d => d.put Ent.Se.STATE 2, 0, 0, 1, 0, (twinned 0 fun d => d.put Ent.Se.STATE 2).dev.configDigest, by decide +kernel, attach_passes _ _ _ _ (by decide +kernel) (by decide +kernel)⟩,
   ⟨twinned 4 fun d => d.setTwin fun t => { t with attach := some ⟨1, 0, [], [], false⟩ }, 0, ⟨1, 0, [], [], false⟩, by decide +kernel⟩,
   ⟨twinned 0 fun d => d.setTwin fun t => { t with attach := some ⟨3, 0, [], [], false⟩ }, ⟨3, 0, [], [], false⟩, by decide +kernel⟩,
   ⟨twinned 5 fun d => later ((d.put Ent.Tws.PEER_ROLE 0).setTwin fun t => { t with refused := true }), by decide +kernel⟩,
   ⟨twinned 4 fun d => later (d.setTwin fun t => { t with attach := some ⟨1, 0, [], [], false⟩ }), ⟨1, 0, [], [], false⟩, by decide +kernel⟩,
   ⟨twinned 4 fun d => d.setTwin fun t => { t with attach := some ⟨2, 0, [], [], false⟩ }, 0, 0, 0, zeros 4, ⟨2, 0, [], [], false⟩, by decide +kernel⟩,
   ⟨twinned 4 fun d => d.setTwin fun t => { t with attach := some ⟨2, 0, [], [], false⟩ }, 0, 5, 0, [], ⟨2, 0, [], [], false⟩, by decide +kernel⟩,
   ⟨scanning 2 fun d => (d.put Ent.Tws.ROLE 2).put Ent.Twc.TWIN_EN 1, 0, 0, 0, 0, false, zeros 4, by decide +kernel⟩,
   ⟨twinned 2 fun d => d.setTwinRun 1 fun r => { r with own := some (3, 9) }, 1, 3, 0, 9, by decide +kernel⟩,
   ⟨twinned 2 fun d => d, 0, 3, le 4 3 ++ List.replicate 64 5#8, List.replicate 64 5#8, by decide +kernel⟩,
   ⟨twinned 2 fun d => d, 0, 7, 300, le 2 7 ++ le 2 300, by decide +kernel⟩,
   ⟨twinned 2 fun d => d, 0, 4, [], by decide +kernel⟩⟩

/-- The hypotheses of TwinCommandAndHandoverCommands are met. -/
theorem witness_TwinCommandAndHandoverCommands :
    (∃ (s : State), Live s ∧ s.dev.twinOn = true ∧ s.dev.role = 5 ∧ s.dev.peerDrives = true ∧ s.dev.twin.promote = none) ∧
    (∃ (s : State), Live s ∧ (s.dev.role = 2 ∨ s.dev.role = 3 ∨ s.dev.role = 4)) ∧
    (∃ (s : State), Live s ∧ s.dev.role = 1) ∧
    (∃ (s : State), Live s ∧ s.dev.role = 1) ∧
    (∃ (s : State), Live s ∧ s.dev.role = 1 ∧ s.dev.get Ent.Tws.PEER_ROLE = 2 ∧ s.dev.twin.hand = none) ∧
    (∃ (s : State) (instant n : Nat), Live s ∧ s.dev.role = 2 ∧ s.dev.upLane = some n) ∧
    (∃ (s : State) (instant : Nat), Live s ∧ s.dev.role = 1 ∧ s.dev.twin.hand = some ⟨1, instant⟩ ∧ s.dev.now + 50000 < instant) ∧
    (∃ (s : State) (instant : Nat), Live s ∧ s.dev.role = 2 ∧ s.dev.twin.hand = some ⟨4, instant⟩ ∧ s.dev.now < instant ∧ s.dev.twin.promote = none) ∧
    (∃ (s : State) (x : Handover), Live s ∧ s.dev.twin.hand = some x ∧ x.step = 3 ∧ s.dev.get Ent.Tws.PEER_ROLE = 2 ∧ x.instant + 1000000 ≤ s.dev.now) ∧
    (∃ (s : State) (x : Handover), Live s ∧ s.dev.twin.hand = some x ∧ x.step = 1 ∧ x.instant ≤ s.dev.now + 50000) :=
  ⟨⟨twinned 5 fun d => d.put Ent.Tws.PEER_ROLE 0, by decide +kernel⟩,
   ⟨twinned 2 fun d => d, by decide +kernel⟩,
   ⟨twinned 1 fun d => d, by decide +kernel⟩,
   ⟨twinned 1 fun d => d, by decide +kernel⟩,
   ⟨twinned 1 fun d => d.put Ent.Tws.PEER_ROLE 2, by decide +kernel⟩,
   ⟨twinned 2 fun d => d, 5, 0, by decide +kernel⟩,
   ⟨twinned 1 fun d => d.setTwin fun t => { t with hand := some ⟨1, 1000000⟩ }, 1000000, by decide +kernel⟩,
   ⟨twinned 2 fun d => d.setTwin fun t => { t with hand := some ⟨4, 1000000⟩ }, 1000000, by decide +kernel⟩,
   ⟨twinned 2 fun d => later ((d.put Ent.Tws.PEER_ROLE 2).setTwin fun t => { t with hand := some ⟨3, 5⟩ }), ⟨3, 5⟩, by decide +kernel⟩,
   ⟨twinned 1 fun d => d.setTwin fun t => { t with hand := some ⟨1, 5⟩ }, ⟨1, 5⟩, by decide +kernel⟩⟩

theorem witness_StepRunsTheFrontCommand :
    ({ State.reset with pending := [Instr.resetNLow] } : State).pending = Instr.resetNLow :: [] ∧
    ∃ t, step { State.reset with pending := [.resetNLow] } = .next t := ⟨rfl, _, rfl⟩

theorem witness_IdleStepCountsOneTick : (State.reset.pending = [] ∧ State.reset.dev.time.running = true) ∧
    ((⟨[], Dev.off⟩ : State).pending = [] ∧ (⟨[], Dev.off⟩ : State).dev.time.running = false) := by decide +kernel

theorem witness_StoppedDevice : (⟨[], Dev.off⟩ : State).dev.power.phase = .off ∧ (⟨[], Dev.off⟩ : State).dev.power.phase ≠ .running := by decide +kernel

theorem witness_EccStoreRefused :
    (∃ (s : State) (t : Txn) (a : Nat), Live s ∧ s.dev.physical t = some a ∧ (region t.addr = some .dram ∨ region t.addr = some .dramWindow) ∧ 0x100000000 ≤ a ∧ s.dev.stairwellBase ≤ a + s.dev.dramSize / 32 ∧
      (a < s.dev.stairwellBase ∨ t.initiator ≠ .switchCore) ∧ issuesAtomics t.initiator = true) ∧
    (∃ (d : Dev) (a n : Nat), 0 < n ∧ 0x100000000 ≤ a ∧ a ≤ 0x2FFFFFFFF ∧ d.stairwellBase ≤ a + d.dramSize / 32) ∧
    (∃ (d : Dev) (a n : Nat), 0 < n ∧ d.memStatus true true a = .ok ∧ 0x100000000 ≤ a + n - 1 ∧ d.stairwellBase ≤ a + n - 1 + d.dramSize / 32) :=
  ⟨⟨State.reset, ⟨.aCore 0, true, 0, false, 0, .read, 0x2FFFFFFF8, 8, 0⟩, 0x2FFFFFFF8, by decide +kernel⟩, ⟨Dev.reset, 0x2FFFFFFFF, 1, by decide +kernel⟩,
   ⟨Dev.reset, Dev.reset.stairwellBase - Dev.reset.dramSize / 32 - 1, 2, by decide +kernel⟩⟩

theorem witness_UnmappedRefused : Live State.reset ∧ issuesAtomics (.aCore 0) = true ∧ region 0x50000 = none ∧ (region 0x1E000000 = some .units ∧ pageOf 0x1E000000 = none) ∧
    (region 0x80000000 = some .dramWindow ∧ Dev.reset.physical ⟨.aCore 0, true, 0, false, 0, .read, 0x80000000, 4, 0⟩ = none) := by decide +kernel

theorem witness_GateOffRefused :
    (∃ (s : State) (t u : Txn) (p : Page) (off : Nat), Live s ∧ u = s.dev.attributed t ∧ (region t.addr = some .units ∨ region t.addr = some .mezzRegs) ∧ pageOf t.addr = some (p, off) ∧
      off + t.size ≤ pageSize p ∧ (s.dev.pageSecure p t.addr = true → u.secure = true) ∧ s.dev.hallMay u p off = true ∧ s.dev.epochMay u p off = true ∧
      (t.kind = .read ∨ t.kind = .write ∨ t.kind = .posted) ∧ t.addr % t.size = 0 ∧ s.dev.pageOn p = false) ∧
    (∃ (s : State) (t u : Txn) (a : Nat), Live s ∧ u = s.dev.attributed t ∧ s.dev.physical t = some a ∧ region t.addr ≠ none ∧ region t.addr ≠ some .units ∧ region t.addr ≠ some .mezzRegs ∧
      region t.addr ≠ some .bridgeWindow ∧ s.dev.memMapped t.initiator a = true ∧ s.dev.memMapped t.initiator (a + t.size - 1) = true ∧ region a = region (a + t.size - 1) ∧
      (s.dev.needsSecure a = true ∨ s.dev.needsSecure (a + t.size - 1) = true → u.secure = true) ∧
      (t.kind = .read ∨ (region a ≠ some .bootRom ∧ s.dev.coversUpper a t.size = false)) ∧ atomicOk t = true ∧ t.kind = .read ∧ a % t.size = 0 ∧ s.dev.memOff a = true) ∧
    (∃ (s : State) (t v : Txn) (u k : Nat), Live s ∧ v = s.dev.attributed t ∧ region t.addr = some .bridgeWindow ∧ s.dev.windowAt t.addr = some (u, k) ∧ t.kind = .read ∧
      s.dev.get (Ent.Bctx.HALL (bctx u k)) = v.hall ∧ t.initiator = .aCore 0 ∧ t.addr % t.size = 0 ∧ s.dev.gateOn (gateBridge u) = false) ∧
    (∃ (d : Dev) (a : Nat), region a = some .sysSram ∧ (d.needsSecure a = true → true = true) ∧ d.pairTcm a 1 = false ∧ d.memOff a = true) :=
  ⟨⟨live fun d => d.setGateState 3 0, ⟨.aCore 0, false, 0, false, 0, .read, 0x10100000, 4, 0⟩, ⟨.aCore 0, false, 0, false, 0, .read, 0x10100000, 4, 0⟩, .timebase, 0, by decide +kernel⟩,
   ⟨live fun d => d.setGateState 51 0, ⟨.aCore 0, false, 0, false, 0, .read, 0x1200000, 4, 0⟩, ⟨.aCore 0, false, 0, false, 0, .read, 0x1200000, 4, 0⟩, 0x1200000, by decide +kernel⟩,
   ⟨live fun d => (((d.put (Ent.Bctx.STATE 2) 1).put (Ent.Bctx.WIN_SIZE 2) 65536).put (Ent.Bctx.WIN_OFFSET 2) 0).setGateState (gateBridge 0) 0,
    ⟨.aCore 0, false, 0, false, 0, .read, 0x40000000, 4, 0⟩, ⟨.aCore 0, false, 0, false, 0, .read, 0x40000000, 4, 0⟩, 0, 2, by decide +kernel⟩,
   ⟨(Dev.reset).setGateState 51 0, 0x1200000, by decide +kernel⟩⟩

theorem witness_GateNumbers : Live State.reset ∧ gateListed 6 = false ∧ gateListed 149 = false ∧ gateListed 256 = false := by decide +kernel

theorem witness_ReceiveObjectStores : (15 < 16 ∧ 63 < 64 ∧ KV.find 63 (Dev.reset.canCh 15).locks = none ∧ Dev.reset.isSet (Rg.Obj.NEW 15 63) = false) ∧
    (KV.find 0 ((Dev.reset.setFld (Rg.Obj.NEW 0 0) 1).canCh 0).locks = none ∧ (Dev.reset.setFld (Rg.Obj.NEW 0 0) 1).isSet (Rg.Obj.NEW 0 0) = true) := by decide +kernel

theorem witness_DoorbellRings : Live State.reset ∧ 11 ≤ 11 ∧ 3 ≠ 0 := by decide +kernel

theorem witness_BoardFactsNeverChange : ∃ t, step State.reset = .next t := ⟨_, rfl⟩

theorem witness_FirmwareStateWriters : ∃ t, exec .resetNLow State.reset = .next t := ⟨_, rfl⟩

theorem witness_EveryStepKeepsCanonical : Canonical State.reset.dev ∧ ∃ t, step State.reset = .next t := ⟨⟨by decide +kernel, by decide +kernel, by decide +kernel, by decide +kernel⟩, _, rfl⟩

/-! ### Well-formedness

One ill-formed command for each check. -/

def okTxn : Txn := ⟨.m0, false, 0, false, 0, .read, 0, 4, 0⟩
def okCan : CanFrame := ⟨5, false, false, false, false, false, 8, zeros 8⟩
def okMsg : BMsg := { ty := 3, op := 2, spec := false, enc := false, srcNode := 5, srcUnit := 0, dst := 1, sid := 3, epoch := 0, seq := 1, tag := 0, addr := 0, size := 2, status := 0, data := [], auth := zeros 16 }
def okNdp : NdpMsg := ⟨1, 5, 0, 9, 1, 0, 0, 0, [], zeros 16, 0x20000000001, 1, 0xC0A80001, 40000, false, 0xC0A80101, 48211, false, 0⟩

def okEnv : WakeEnv := ⟨false, 0, 0, 0, ⟨[], 0, 12000, 1, 0, 0, 0, false, 0⟩⟩

theorem test_well_formed_operands : (okTxn.wf && okCan.wf && okMsg.wf && okNdp.wf && bcast.wf) = true := by decide +kernel

theorem test_ill_formed_transactions :
    ([{ okTxn with initiator := .cCore 8 }, { okTxn with initiator := .executor 12 }, { okTxn with initiator := .engine 2 }, { okTxn with initiator := .dma 64 },
      { okTxn with initiator := .bridge 4 }, { okTxn with initiator := .hostEngine 4 }, { okTxn with epoch := 65536 }, { okTxn with addr := 2 ^ 40 },
      { okTxn with size := 3 }, { okTxn with data := 2 ^ 32 }, { okTxn with kind := .atomic 16 }] : List Txn).all (fun t => !t.wf) = true := by decide +kernel

theorem test_ill_formed_frames :
    (([{ bcast with dst := 2 ^ 48 }, { bcast with src := 2 ^ 48 }, { bcast with tags := [⟨0x8100, 0, false, 4096⟩] }] : List Frame).all (fun f => !f.wf) &&
      ([{ okCan with id := 2048 }, { okCan with ide := true, id := 2 ^ 29 }, { okCan with data := zeros 9 }, { okCan with fdf := true, rtr := true }] : List CanFrame).all
        (fun f => !f.wf)) = true := by decide +kernel

theorem test_ill_formed_messages :
    (([{ okMsg with ty := 256 }, { okMsg with op := 256 }, { okMsg with srcNode := 4096 }, { okMsg with srcUnit := 4 }, { okMsg with dst := 4096 },
        { okMsg with epoch := 65536 }, { okMsg with seq := 2 ^ 32 }, { okMsg with tag := 2 ^ 32 }, { okMsg with addr := 2 ^ 40 }, { okMsg with size := 256 },
        { okMsg with status := 65536 }, { okMsg with data := zeros 1041 }, { okMsg with auth := [] }] : List BMsg).all (fun m => !m.wf) &&
      ([{ okNdp with op := 256 }, { okNdp with flags := 65536 }, { okNdp with session := 2 ^ 32 }, { okNdp with seq := 2 ^ 32 }, { okNdp with node := 65536 },
        { okNdp with status := 65536 }, { okNdp with srcMac := 2 ^ 48 }, { okNdp with vlan := 4096 }, { okNdp with srcPort := 65536 }, { okNdp with dstPort := 65536 },
        { okNdp with sum := 65536 }, { okNdp with epoch := 65536 }, { okNdp with srcIp := 2 ^ 128 }, { okNdp with dstIp := 2 ^ 128 }] : List NdpMsg).all (fun m => !m.wf)) =
      true := by decide +kernel

theorem test_ill_formed_units :
    (([.port 54, .queue 54 0, .queue 0 9, .can 16, .bridge 4 0, .bridge 0 64, .dma 64, .hostEngine 4, .queuePair 256] : List UnitId).all (fun x => !x.wf) &&
      !(Path.mailbox 256).wf && !(Instr.wakePin 2 false okEnv).wf && !(Instr.wakeFrame 0 4 none okEnv).wf) = true := by decide +kernel

theorem test_ill_formed_operands_1 : ([.concourseTransaction { okTxn with hall := 256 }, .safeStateLine 3 false, .paceSample 65536, .counterLowRead (.aCore 4) 0 0 false,
    .counterLowRead .m0 65536 0 false, .counterLowRead .m0 0 256 false, .counterLowWrite 0 0 4294967296, .unitEnable (.adc 2) false,
    .fence 4 0 0 0, .fence 0 64 0 0, .fence 0 0 256 0, .applyTakeEffect 65536, .ndpOpen { okNdp with version := 256 }, .mbGo (.sdo 16) 0,
    .frameClassify 54 bcast 0 false 0, .frameClassify 0 { bcast with etype := 65536 } 0 false 0, .stwWriteComplete 0 8,
    .fdbAging 281474976710656 0, .fdbAging 0 4096, .streamUnblock 65536, .recoveryResetTimeout 2048, .linkDown 0 4, .triggerFire 32,
    .triggerPulseEnd 4, .canSend 16 0 0, .canSend 0 3 0, .canFrameReceive 0 { okCan with dlc := 16 } false 0 0, .objHdrRead 0 65 .m0,
    .hbLost 128, .tpdoEventTimer 128] : List Instr).all (fun x => !x.wf) = true := by decide +kernel

theorem test_ill_formed_operands_2 : ([.keepaliveSend 32, .falseWake 18, .bridgeConnect 0 { okMsg with sid := 2048 } 0, .bridgeAckSend 0 4096 0 0, .bridgeAckSend 0 0 4 0,
    .bridgeAckSend 0 0 0 2048, .endpointPoll 0 1024, .tunnelPduSend 16, .taskDone 12 0, .taskDone 0 64, .taskFault 0 65536,
    .channelOn 24 0, .adcStart 2 0, .adcStart 0 256, .shuntOpen 32, .interruptSourceAssert 512, .claim 13 .m0, .nhallWrite 4 .m 0,
    .lockstepMismatch 4 0 0, .patrolScrub 0 3, .dmaTailWrite 64 0 0, .hallCreate 256, .watermarkWrite 3 0 false,
    .watermarkWrite 0 1048576 false, .leaseTake 64 0 false, .leaseTake 0 768 false, .keyRevoke 4, .rollbackSet 256, .sourceStable 3,
    .gateOn 256 0 false] : List Instr).all (fun x => !x.wf) = true := by decide +kernel

theorem test_ill_formed_operands_3 : ([.gateOn 0 1024 false, .aCoreFatal 4 0, .galleryHelloSend 2] : List Instr).all (fun x => !x.wf) = true := by decide +kernel

/-! ### Worked examples of the spec -/

/-- The example of R2: where an instance's entries lie. -/
theorem test_example_indices : (Ent.Hall.STATE 37).idx = 0x2625 ∧ (Ent.Can.MODE 5).idx = 0x3850 ∧ (Ent.Lc.STATE 20).idx = 0x4014 := by decide +kernel

/-- The example of shifts and rounding: a rate of about −1 ppm over 10⁹ ns corrects by −1,001 ns. -/
theorem test_example_rate :
    ({ Dev.reset.time with offset := 0, rateEpoch := 0, rate := 2 ^ 32 - 1099512 } : TimeBase).correctedAt 1000000000 = 1000000000 - 1001 := by decide +kernel

/-- The example of R30: C3's window at 0x1_9000_0000. -/
theorem test_example_dram_window :
    (Dev.reset.put (Ent.Dwin.DRAM_WIN 3) 0x190000000).physical ⟨.cCore 3, false, 0, false, 0, .read, 0x81234560, 4, 0⟩ = some 0x191234560 := by decide +kernel

/-- The example of R351: 8 GiB with a stairwell of 256 MiB; the ECC store begins at 0x2_E000_0000. -/
theorem test_example_memory_map :
    let d := (Dev.reset.put Ent.Mem.DRAM_SIZE_MIB 8192).put Ent.Mem.STW_MIB_ACTIVE 256
    d.stairwellBase = 0x2F0000000 ∧ d.dramMapped 0x2DFFFFFFF = true ∧ d.dramMapped 0x2E0000000 = false ∧ d.dramMapped 0x2EFFFFFFF = false := by decide +kernel

/-- The example of the counters of a queue: TC3 of port P12. -/
theorem test_example_queue_counter :
    (queueCounter 12 3 8).entry.idx = 0x348C ∧ (queueCounter 12 3 8).entry.sub = 0x38 ∧ (queueCounter 12 3 8).satBit = 22 ∧ srcQueue 12 3 = 0x086F := by decide +kernel

/-- The example of the network dictionary protocol: the header and the nonce of the write of 0x2023:02. -/
theorem test_example_ndp_header :
    ({ okNdp with op := 4, flags := 2, session := 0xA31, seq := 5, node := 0x12, payload := zeros 17 } : NdpMsg).header =
      bytesOf [1, 4, 2, 0, 0x31, 0x0A, 0, 0, 5, 0, 0, 0, 0x12, 0, 0, 0, 0, 0, 0x11, 0] := by decide +kernel

/-- The example of R213: the window of context 2 of BU1 at 0x00_5020_0000. -/
theorem test_example_bridge_window :
    let d := (((Dev.reset.put (Ent.Bctx.STATE (bctx 1 2)) 1).put (Ent.Bctx.WIN_OFFSET (bctx 1 2)) 0x200000).put (Ent.Bctx.WIN_SIZE (bctx 1 2)) 0x100000)
    d.windowAt 0x50200A40 = some (1, 2) ∧ d.windowAt 0x50300000 = none := by decide +kernel

/-- The check value of the CRC-32 of IEEE 802.3 over "123456789". -/
theorem test_crc32 : crc32 (bytesOf [0x31, 0x32, 0x33, 0x34, 0x35, 0x36, 0x37, 0x38, 0x39]) = 0xCBF43926 := by decide +kernel

/-! ### Single commands -/

/-- The device after a command, if it answered a next state. -/
def after (o : Host.Outcome State Fault Refusal) : Dev :=
  match o with
  | .next s => s.dev
  | _ => Dev.off

/-- A write of 9 to DOORBELL makes source 10 pending (R337). -/
theorem test_doorbell : (after (execDoorbell 0 9 State.reset)).fld (Rg.Src.PENDING 10) = 1 := by decide +kernel

/-- A 16-bit read returns the low byte first (R7). -/
theorem test_read_little_endian :
    (after (execConcourseTransaction ⟨.aCore 1, false, 0, false, 0, .read, 0x1200010, 2, 0⟩ (live fun d => d.writeMem 0x1200010 [7#8, 1#8]))).out = [.answer .ok 0x107] := by
  decide +kernel

/-- A signed minimum keeps −1 against 5 and answers the old value (R547). -/
theorem test_atomic_min : let d := after (execAtomicTransaction ⟨.aCore 1, false, 0, false, 0, .atomic 5, 0x1200010, 4, 0xFFFFFFFF⟩ (live fun d => d.writeMem 0x1200010 (le 4 5)))
    d.readMem 0x1200010 4 = le 4 0xFFFFFFFF ∧ d.out = [.answer .ok 5] := by decide +kernel

/-- Without supply nothing but VAUX acts (R438). -/
theorem test_no_supply : after (execDoorbell 0 9 ⟨[], Dev.off⟩) = Dev.off := by decide +kernel

/-- The reset state's interrupt controller has nothing pending, hall 0 is running, the timebase is unsynchronized. -/
theorem test_reset : Dev.reset.fld (Rg.Src.PENDING 10) = 0 ∧ Dev.reset.time.quality = 0 ∧ Dev.reset.get (Ent.Hall.STATE 3) = 0 := by decide +kernel

end Sys2Proof.Tests
end

/-! SUPPORT. D0 executes a write that came by a mailbox page. A store asked for while a store or restore runs is refused (R83), so the clause on
STORE_PARAMETERS of `Obligations.DictionaryExecutionCommands`, which does not ask that none runs, fails. -/

namespace Sys2Proof

open Sys2Proof.Machine

/-! ### What a command of the interior gives -/

/-- A command of the interior gives what holds of its operation's device, in a running device. -/
theorem gives_iff_of_onDev {c : Instr} {s : State} {f : Dev → Dev} {P : Dev → Prop} (hc : exec c s = onDev s f) (hlive : Live s) :
    Gives c s P ↔ P (f s.dev.fresh) := by
  rw [onDev_running f hlive] at hc
  constructor
  · rintro ⟨t, hexec, -, hp⟩
    rw [hc] at hexec
    cases hexec
    exact hp
  · exact fun hp => ⟨_, hc, rfl, hp⟩

/-! ### D0 executes a write of a mailbox page -/

theorem Dev.fresh_of_out_nil {d : Dev} (h : d.out = []) : d.fresh = d := by
  cases d
  cases h
  rfl

/-- Without a served bridge session nothing is resumed (R219). -/
theorem Dev.serveResume_of_serve_nil {d : Dev} (h : d.br.serve = []) : d.serveResume = d := by
  simp [Dev.serveResume, h]

/-- Around a request of a mailbox page D0 does nothing else: no session's order moves on, no bridge session is resumed (R75, R219). -/
theorem Dev.executeFront_mailbox {d : Dev} {q : QReq} {h : Nat} {p : QReq → Bool} {f : QReq → Dev → Dev} (hq : MailboxRequest d q h)
    (hp : p q = true) (hf : (f q d).br.serve = []) : d.executeFront p f = f q d := by
  obtain ⟨hnext, hpath, -⟩ := hq
  simp [Dev.executeFront, Dev.executing, hnext, hp, hpath, Dev.serveResume_of_serve_nil hf]

/-- A write that passes the checks of Table 3.2 comes to its effect (R60). -/
theorem Dev.writeExec_of_passesChecks {d : Dev} {q : QReq} {r : DictRow} (env : WriteEnv) (h : PassesChecks d q r) :
    d.writeExec q env = d.writeWhole q (d.asker q.origin) r env := by
  obtain ⟨hentry, hbytes, haccepts, hvalue, hawake, hlease⟩ := h
  have hguard : d.writeGuard q (d.asker q.origin) = (.ok, d) := by simp [Dev.writeGuard, hawake, hlease]
  have hlength : lengthFits r q.req.data.length = true := by
    cases hty : r.ty <;> simp_all [lengthFits, Ty.bytes]
  cases hty : r.ty <;> simp_all [Dev.writeExec, Ty.bytes]

/-- A write of a mailbox page that is not muted is answered by CODE, then BUSY and DONE (R81). -/
theorem Dev.respond_mailbox_write {d : Dev} {o : Origin} {h : Nat} (st : Status) (hpath : o.path = .mailbox h) (hsession : o.session = 0)
    (hmute : d.tenants.mute.contains h = false) :
    d.respond o false st [] 0 [] = (((d.setD0 fun u => { u with queue := Dev.respond.dropOne o u.queue }).setFld (Rg.Mb.CODE h) st.code).setFld
      (Rg.Mb.BUSY h) 0).setFld (Rg.Mb.DONE h) 1 := by
  have hunmuted : ¬ h ∈ d.tenants.mute := by simpa using hmute
  simp [Dev.respond, Dev.mbDone, hpath, hsession, hunmuted]

/-- Its answer leaves the bridges alone. -/
theorem Dev.respond_mailbox_write_br {d : Dev} {o : Origin} {h : Nat} (st : Status) (hpath : o.path = .mailbox h) (hsession : o.session = 0)
    (hmute : d.tenants.mute.contains h = false) : (d.respond o false st [] 0 []).br = d.br := by
  rw [Dev.respond_mailbox_write st hpath hsession hmute, Dev.setFld_br, Dev.setFld_br, Dev.setFld_br, Dev.setD0_br]

/-- Its answer changes D0's queue only. -/
theorem Dev.respond_mailbox_write_d0 {d : Dev} {o : Origin} {h : Nat} (st : Status) (hpath : o.path = .mailbox h) (hsession : o.session = 0)
    (hmute : d.tenants.mute.contains h = false) :
    (d.respond o false st [] 0 []).d0 = { d.d0 with queue := Dev.respond.dropOne o d.d0.queue } := by
  rw [Dev.respond_mailbox_write st hpath hsession hmute, Dev.setFld_d0, Dev.setFld_d0, Dev.setFld_d0, Dev.setD0_d0]

/-! ### A store or restore while a job runs (R83) -/

theorem QReq.index_of_isStore {q : QReq} {i : Nat} (h : q.isStore i = true) : q.req.index = i := by
  simp only [QReq.isStore, Bool.and_eq_true, beq_iff_eq] at h
  exact h.1.2

/-- Neither a store's index nor a restore's is a group. -/
theorem isGroup_store_index {i : Nat} (h : i = 0x1010 ∨ i = 0x1011) : isGroup i = false := by
  rcases h with rfl | rfl <;> decide +kernel

theorem Dev.writeWhole_of_store_index {d : Dev} {q : QReq} (a : Asker) (r : DictRow) (env : WriteEnv)
    (h : q.req.index = 0x1010 ∨ q.req.index = 0x1011) :
    d.writeWhole q a r env = d.storeStart q.origin (q.req.index == 0x1011) q.req.sub := by
  simp [Dev.writeWhole, isGroup_store_index h, h]

theorem Dev.storeStart_of_running {d : Dev} {j : StoreJob} (o : Origin) (restore : Bool) (n : Nat) (h : d.d0.store = some j) :
    d.storeStart o restore n = d.respond o false .busy [] 0 [] := by
  simp [Dev.storeStart, h]

/-- STORE_PARAMETERS while a store or restore runs is refused, and the job goes on (R83). -/
theorem storeParametersOp_keeps_running {d : Dev} {q : QReq} {r : DictRow} {h : Nat} {j : StoreJob} (hq : MailboxRequest d q h)
    (hstore : q.isStore 0x1010 = true) (hchecks : PassesChecks d q r) (hj : d.d0.store = some j) :
    (storeParametersOp d).d0.store = some j := by
  have ⟨_, hpath, hsession, hmute, hserve⟩ := hq
  have hindex := QReq.index_of_isStore hstore
  have heffect : d.writeExec q plainEnv = d.respond q.origin false .busy [] 0 [] := by
    rw [Dev.writeExec_of_passesChecks plainEnv hchecks, Dev.writeWhole_of_store_index _ _ _ (.inl hindex), Dev.storeStart_of_running _ _ _ hj]
  have hunserved : (d.writeExec q plainEnv).br.serve = [] := by
    rw [heffect, Dev.respond_mailbox_write_br .busy hpath hsession hmute, hserve]
  have hop : storeParametersOp d = d.writeExec q plainEnv := Dev.executeFront_mailbox hq hstore hunserved
  rw [hop, heffect, Dev.respond_mailbox_write_d0 .busy hpath hsession hmute, hj]

/-! ### The counterexample -/

/-- A request of hall 0's own mailbox page. -/
def hall0Page : Origin := ⟨.mailbox 0, 0, 0, []⟩

/-- "save" written to 0x1010:01 by that page: store every class. -/
def saveRequest : QReq := ⟨⟨true, 0x1010, 1, 0, none, 0, false, false, false, 0, le 4 0x65766173⟩, hall0Page, false⟩

/-- The restore of class 2 that runs. -/
def restoreJob : StoreJob := ⟨true, 2, hall0Page⟩

/-- The row of 0x1010:01 to :04 (Table 3.11). -/
def storeRow : DictRow := ⟨0x1010, 1, 1, 1, 4, 1, .u32, .rw, 1, [(0, 4294967295)], 1, [.volatile]⟩

/-- The device after reset with that request at D0's front while that restore runs. -/
def savingWhileRestoring : State :=
  ⟨[], { Dev.reset with d0 := { Dev.reset.d0 with queue := [saveRequest], store := some restoreJob } }⟩

theorem savingWhileRestoring_request :
    MailboxRequest savingWhileRestoring.dev saveRequest 0 ∧ PassesChecks savingWhileRestoring.dev saveRequest storeRow := by
  decide +kernel

/-- Refutes O5: a store that arrives while a restore runs is refused with BUSY (R83), so no store of its class starts. -/
theorem not_dictionaryExecutionCommands : ¬ Obligations.DictionaryExecutionCommands := by
  unfold Obligations.DictionaryExecutionCommands
  intro hall
  obtain ⟨-, -, -, -, -, -, -, -, -, hstores, -⟩ := hall savingWhileRestoring rfl
  obtain ⟨hrequest, hchecks⟩ := savingWhileRestoring_request
  obtain ⟨hstarted, -⟩ := (gives_iff_of_onDev (f := storeParametersOp) rfl rfl).1 (hstores saveRequest storeRow 0 hrequest rfl hchecks)
  rw [Dev.fresh_of_out_nil rfl, storeParametersOp_keeps_running hrequest rfl hchecks rfl] at hstarted
  exact absurd hstarted (by decide)

end Sys2Proof

/-! SUPPORT. What running a command is (R15, R28): the outputs of the command before go, one operation runs on the device, and the operation keeps to a
footprint. So every command answers, no command touches the queue, and every step keeps the stores in canonical form. -/

namespace Sys2Proof

open Sys2Proof.Machine

/-! ### A command runs one framed operation -/

/-- A run drops the outputs of the command before, then does one operation on the device, which keeps to a footprint. -/
def RunsFramed (run : State → Host.Outcome State Fault Refusal) : Prop :=
  ∃ (F : Foot) (f : Dev → Dev), (∀ s, run s = onVest s f) ∧ ∀ d, Only F d (f d)

theorem RunsFramed.onVest {F : Foot} {f : Dev → Dev} (h : ∀ d, Only F d (f d)) : RunsFramed fun s => Machine.onVest s f :=
  ⟨F, f, fun _ => rfl, h⟩

/-- A device that does not run stays as it is. -/
theorem RunsFramed.onDev {F : Foot} {f : Dev → Dev} (h : ∀ d, Only F d (f d)) : RunsFramed fun s => Machine.onDev s f :=
  .onVest fun d => (h d).ite .refl

/-- A device without supply stays as it is. -/
theorem RunsFramed.onVaux {F : Foot} {f : Dev → Dev} (h : ∀ d, Only F d (f d)) : RunsFramed fun s => Machine.onVaux s f :=
  .onVest fun d => .ite .refl (h d)

theorem Only.answered {F : Foot} {a : Dev} {r : Status × Dev} (h : Only F a r.2) : Only F a (answered r) :=
  h.answer

/-- Every command is one operation of Laws/Frames1 to Frames6, in the phases in which the command acts. -/
theorem exec_runsFramed (c : Instr) : RunsFramed (exec c) := by
  cases c with
  | concourseTransaction t => exact .onDev (concourseTransactionOp_only t)
  | atomicTransaction t => exact .onDev (atomicTransactionOp_only t)
  | safeStateLine g asserted => exact .onVest (safeStateLineOp_only g asserted)
  | paceSample code => exact .onDev (paceSampleOp_only code)
  | trimStep up => exact .onDev (trimStepOp_only up)
  | paceFault => exact .onDev paceFaultOp_only
  | paceFaultEnd => exact .onDev paceFaultEndOp_only
  | counterLowRead i idx sub high => exact .onDev (counterLowReadOp_only i idx sub high)
  | counterLowWrite idx sub v => exact .onDev (counterLowWriteOp_only idx sub v)
  | counterHighWrite idx sub v => exact .onDev (counterHighWriteOp_only idx sub v)
  | unitEnable x secure => exact .onDev (unitEnableOp_only x secure)
  | unitDisable x secure => exact .onDev (unitDisableOp_only x secure)
  | drainDone x => exact .onDev (drainDoneOp_only x)
  | drainTimeout x => exact .onDev (drainTimeoutOp_only x)
  | fence u k hall v => exact .onDev (fenceOp_only u k hall v)
  | fenceComplete u k => exact .onDev (fenceCompleteOp_only u k)
  | dictReadExec => exact .onDev dictReadExecOp_only
  | dictWriteExec env => exact .onDev (dictWriteExecOp_only env)
  | dictWriteGeneric t => exact .onDev (dictWriteGenericOp_only t)
  | apply => exact .onDev applyOp_only
  | applyDiscard => exact .onDev applyDiscardOp_only
  | applyTakeEffect i => exact .onDev (applyTakeEffectOp_only i)
  | shadowTimeout i => exact .onDev (shadowTimeoutOp_only i)
  | domainTransferTimeout i sub => exact .onDev (domainTransferTimeoutOp_only i sub)
  | ndpOpen m => exact .onDev (ndpOpenOp_only m)
  | ndpClose m => exact .onDev (ndpCloseOp_only m)
  | ndpRead m => exact .onDev (ndpReadOp_only m)
  | ndpWrite m => exact .onDev (ndpWriteOp_only m)
  | ndpNop m => exact .onDev (ndpNopOp_only m)
  | sessionIdleTimeout id => exact .onDev (sessionIdleTimeoutOp_only id)
  | mbGo p v => exact .onDev (mbGoOp_only p v)
  | storeParameters => exact .onDev storeParametersOp_only
  | restoreDefaults => exact .onDev restoreDefaultsOp_only
  | storeCommit => exact .onDev storeCommitOp_only
  | frameClassify p f len fcs landed => exact .onDev (frameClassifyOp_only p f len fcs landed)
  | frameLanded p => exact .onDev (frameLandedOp_only p)
  | stwWriteComplete p c => exact .onDev (stwWriteCompleteOp_only p c)
  | refillStart p c => exact .onDev (refillStartOp_only p c)
  | refillComplete p c err => exact .onDev (refillCompleteOp_only p c err)
  | txSelect p => exact .onDev (txSelectOp_only p)
  | copySent p ecc col => exact .onDev (copySentOp_only p ecc col)
  | queueFlush p c => exact .onDev (queueFlushOp_only p c)
  | fdbFlush v => exact .onDev (fdbFlushOp_only v)
  | fdbAging mac vid => exact .onDev (fdbAgingOp_only mac vid)
  | streamUnblock n => exact .onDev (streamUnblockOp_only n)
  | streamClear n => exact .onDev (streamClearOp_only n)
  | recoveryResetTimeout n => exact .onDev (recoveryResetTimeoutOp_only n)
  | linkQualifyStart p => exact .onDev (linkQualifyStartOp_only p)
  | linkUp p => exact .onDev (linkUpOp_only p)
  | linkDown p pins => exact .onDev (linkDownOp_only p pins)
  | holdExpiry p => exact .onDev (holdExpiryOp_only p)
  | xtxdisRelease p => exact .onDev (xtxdisReleaseOp_only p)
  | gateIntervalEnd p => exact .onDev (gateIntervalEndOp_only p)
  | gclChange p => exact .onDev (gclChangeOp_only p)
  | triggerFire u => exact .onDev (triggerFireOp_only u)
  | triggerPulseEnd n => exact .onDev (triggerPulseEndOp_only n)
  | snapCapture i => exact .onDev (snapCaptureOp_only i)
  | adjGo hall v => exact .onDev (adjGoOp_only hall v)
  | timeRateChange => exact .onDev timeRateChangeOp_only
  | timeStep => exact .onDev timeStepOp_only
  | qualitySet => exact .onDev qualitySetOp_only
  | setTime v => exact .onDev (setTimeOp_only v)
  | trigEdgeCapture n rising phase => exact .onDev (trigEdgeCaptureOp_only n rising phase)
  | capturePop n => exact .onDev (capturePopOp_only n)
  | ptpMessageReceive p dom m => exact .onDev (ptpMessageReceiveOp_only p dom m)
  | ptpMessageSend p m phase latency => exact .onDev (ptpMessageSendOp_only p m phase latency)
  | syncTimeout => exact .onDev syncTimeoutOp_only
  | holdoverTimeout => exact .onDev holdoverTimeoutOp_only
  | canSend n k v => exact .onDev (canSendOp_only n k v)
  | canAbort n k => exact .onDev (canAbortOp_only n k)
  | canTxStart n phase => exact .onDev (canTxStartOp_only n phase)
  | canArbitrationLost n => exact .onDev (canArbitrationLostOp_only n)
  | canTxComplete n => exact .onDev (canTxCompleteOp_only n)
  | canError n lec at_ => exact .onDev (canErrorOp_only n lec at_)
  | canRestart n => exact .onDev (canRestartOp_only n)
  | canBusRecovered n => exact .onDev (canBusRecoveredOp_only n)
  | dominantTimeout n => exact .onDev (dominantTimeoutOp_only n)
  | canFrameReceive n f res sof phase => exact .onDev (canFrameReceiveOp_only n f res sof phase)
  | objHdrRead n k i => exact .onDev (objHdrReadOp_only n k i)
  | objTailRead n k i => exact .onDev (objTailTakenOp_only n k i)
  | lockExpiry n k => exact .onDev (lockExpiredOp_only n k)
  | nmtCommand n cs node => exact .onDev (nmtCommandOp_only n cs node)
  | sdoRequest n b => exact .onDev (sdoRequestOp_only n b)
  | sdoTimeout n => exact .onDev (sdoTimeoutOp_only n)
  | heartbeatProduce => exact .onDev heartbeatProduceOp_only
  | hbLost i => exact .onDev (hbLostOp_only i)
  | tpdoEventTimer k => exact .onDev (tpdoEventTimerOp_only k)
  | keepaliveReceive k ty version node flags => exact .onDev (keepaliveReceiveOp_only k ty version node flags)
  | keepaliveSend k => exact .onDev (keepaliveSendOp_only k)
  | quietTimeout k => exact .onDev (quietTimeoutOp_only k)
  | waitTimeout k => exact .onDev (waitTimeoutOp_only k)
  | domReqWrite v => exact .onDev (domReqWriteOp_only v)
  | powerReqStandby => exact .onDev powerReqStandbyOp_only
  | powerReqSleep => exact .onDev powerReqSleepOp_only
  | powerReqCancel => exact .onDev powerReqCancelOp_only
  | sleepEntry => exact .onDev sleepEntryOp_only
  | sleepArm => exact .onDev sleepArmOp_only
  | sleepCommit => exact .onDev sleepCommitOp_only
  | wakePattern n env => exact .onVaux (wakePatternOp_only n env)
  | wakeFrame n rate f env => exact .onVaux (wakeFrameOp_only n rate f env)
  | wakePin w high env => exact .onVaux (wakePinOp_only w high env)
  | wakeReq env => exact .onVaux (wakeReqOp_only env)
  | watchWake i env => exact .onVaux (watchWakeOp_only i env)
  | wakeConfirm v => exact .onDev (wakeConfirmOp_only v)
  | falseWake n => exact .onDev (falseWakeOp_only n)
  | fwCountClear n v => exact .onDev (fwCountClearOp_only n v)
  | trxCmdNormal n => exact .onDev (trxCmdNormalOp_only n)
  | trxCmdRxOnly n => exact .onDev (trxCmdRxOnlyOp_only n)
  | trxCmdStandby n => exact .onDev (trxCmdStandbyOp_only n)
  | trxCmdGoToSleep n => exact .onDev (trxCmdGoToSleepOp_only n)
  | goToSleepTimeout n => exact .onDev (goToSleepTimeoutOp_only n)
  | bridgeWindowRead t => exact .onDev (issueWindowReadOp_only t)
  | bridgeWindowPostedWrite t => exact .onDev (issueWindowPostedWriteOp_only t)
  | bridgeWindowWrite t => exact .onDev (issueWindowWriteOp_only t)
  | bridgeWindowAtomic t => exact .onDev (issueWindowAtomicOp_only t)
  | bridgeConnect u m mac => exact .onDev (bridgeConnectRxOp_only u m mac)
  | bridgeRead u m mac => exact .onDev (bridgeReadOp_only u m mac)
  | bridgePostedWrite u m mac => exact .onDev (bridgePostedWriteOp_only u m mac)
  | bridgeWrite u m mac => exact .onDev (bridgeWriteOp_only u m mac)
  | bridgeAtomic u m mac => exact .onDev (bridgeAtomicOp_only u m mac)
  | bridgeDictRead u m mac => exact .onDev (bridgeDictReadOp_only u m mac)
  | bridgeDictWrite u m mac => exact .onDev (bridgeDictWriteOp_only u m mac)
  | bridgeEvent u m mac => exact .onDev (bridgeEventOp_only u m mac)
  | bridgeStatusRead u m mac => exact .onDev (bridgeStatusReadOp_only u m mac)
  | bridgeAckRequest u m mac => exact .onDev (bridgeAckRequestOp_only u m mac)
  | bridgeAckSend u node unit sid => exact .onDev (bridgeAckSendOp_only u node unit sid)
  | bridgeResponse u m => exact .onDev (bridgeResponseServedOp_only u m)
  | bridgeAckReceive u m => exact .onDev (bridgeAckReceiveOp_only u m)
  | bridgeRetry u sid => exact .onDev (bridgeRetryServedOp_only u sid)
  | rslotClear u k hall v => exact .onDev (rslotClearOp_only u k hall v)
  | evtSend u k hall v => exact .onDev (evtSendOp_only u k hall v)
  | sidebandOutWrite u k hall v => exact .onDev (sidebandOutWriteOp_only u k hall v)
  | remoteMbGo u k hall v => exact .onDev (remoteMbGoOp_only u k hall v)
  | endpointPoll u e => exact .onDev (endpointPollOp_only u e)
  | pollResult u m => exact .onDev (pollResultOp_only u m)
  | tunnelPduSend t => exact .onDev (tunnelPduSendOp_only t)
  | tunnelPduReceive u b => exact .onDev (tunnelPduReceiveOp_only u b)
  | engineStart => exact .onDev engineStartOp_only
  | engineStop => exact .onDev engineStopOp_only
  | engineAckFault => exact .onDev engineAckFaultOp_only
  | engineLoad => exact .onDev engineLoadOp_only
  | evtFire v => exact .onDev (evtFireOp_only v)
  | taskDone x t => exact .onDev (taskEndOp_only x t)
  | taskFault x v => exact .onDev (taskFaultOp_only x v)
  | deadlineOverrun ts => exact .onDev (deadlineOverrunOp_only ts)
  | stationFrameReceive src b => exact .onDev (stationFrameReceiveOp_only src b)
  | retainSaveComplete => exact .onDev retainSaveCompleteOp_only
  | changeStart v => exact .onDev (changeStartOp_only v)
  | changeCancel => exact .onDev changeCancelOp_only
  | changeSwitch => exact .onDev changeSwitchOp_only
  | changeCommit => exact .onDev changeCommitOp_only
  | changeWindowTimeout => exact .onDev changeWindowTimeoutOp_only
  | changeStandbyReady ready => exact .onDev (changeStandbyReadyOp_only ready)
  | standbyReadyTimeout => exact .onDev standbyReadyTimeoutOp_only
  | changeCommitReceive i => exact .onDev (changeCommitReceiveOp_only i)
  | forceSet b => exact .onDev (fun d => (Dev.forceSet_only d b).answered)
  | forceRelease tag => exact .onDev (fun d => (Dev.forceRelease_only d tag).answered)
  | forceReleaseAll => exact .onDev (fun d => (Dev.forceReleaseAll_only d).answered)
  | channelOn n v => exact .onDev (channelOnOp_only n v)
  | channelOff n v => exact .onDev (channelOffOp_only n v)
  | channelClear n => exact .onDev (channelClearOp_only n)
  | channelPwmSet n v => exact .onDev (channelPwmSetOp_only n v)
  | pwmPeriodStart n => exact .onDev (pwmPeriodStartOp_only n)
  | inrushEnd n => exact .onDev (inrushEndOp_only n)
  | limitEntry n => exact .onDev (limitEntryOp_only n)
  | thermalShutdown n tj delta => exact .onDev (thermalShutdownOp_only n tj delta)
  | retryRestart n => exact .onDev (retryRestartOp_only n)
  | coupledRestart n => exact .onDev (coupledRestartOp_only n)
  | coupledTimeout n => exact .onDev (coupledTimeoutOp_only n)
  | retryBudgetReset n => exact .onDev (retryBudgetResetOp_only n)
  | vbatUndervoltage g mv => exact .onDev (vbatUndervoltageOp_only g mv)
  | vbatRecover g mv => exact .onDev (vbatRecoverOp_only g mv)
  | clampDetect n => exact .onDev (clampDetectOp_only n)
  | offStateCheck n short mv1 isOpen mv2 => exact .onDev (offStateCheckOp_only n short mv1 isOpen mv2)
  | senseStep p0 p1 p2 => exact .onDev (senseStepOp_only p0 p1 p2)
  | channelHoldExpiry => exact .onDev channelHoldExpiryOp_only
  | dieLinkTimeout g => exact .onDev (dieLinkTimeoutOp_only g)
  | dieLinkReturn g => exact .onDev (dieLinkReturnOp_only g)
  | lossHigh => exact .onDev lossHighOp_only
  | adcStart a v => exact .onDev (adcStartOp_only a v)
  | adcRunComplete a codes => exact .onDev (adcRunCompleteOp_only a codes)
  | shuntOpen i => exact .onDev (shuntOpenOp_only i)
  | shuntClose i => exact .onDev (shuntCloseOp_only i)
  | interruptSourceAssert n => exact .onDev (interruptSourceAssertOp_only n)
  | claim k i => exact .onDev (claimOp_only k i)
  | complete k i v => exact .onDev (completeOp_only k i v)
  | doorbell hall v => exact .onDev (doorbellOp_only hall v)
  | moderationExpiry n m0 => exact .onDev (moderationExpiryOp_only n m0)
  | wfiEnter k => exact .onDev (wfiEnterOp_only k)
  | nhallWrite k mode v => exact .onDev (nhallWriteOp_only k mode v)
  | lockstepMismatch p kind pc => exact .onDev (lockstepMismatchOp_only p kind pc)
  | pairReset p => exact .onDev (pairResetOp_only p)
  | debugHalt k => exact .onDev (debugHaltOp_only k)
  | debugResume k => exact .onDev (debugResumeOp_only k)
  | debugStep k => exact .onDev (debugStepOp_only k)
  | accessRegister k reg write => exact .onDev (accessRegisterOp_only k reg write)
  | accessMemory k addr size write => exact .onDev (accessMemoryOp_only k addr size write)
  | systemBusAccess addr size write => exact .onDev (systemBusAccessOp_only addr size write)
  | patrolScrub a err => exact .onDev (patrolScrubOp_only a err)
  | dmaTailWrite c hall v => exact .onDev (dmaTailWriteOp_only c hall v)
  | dmaDescriptorFetch c => exact .onDev (dmaDescriptorFetchOp_only c)
  | dmaBurst => exact .onDev dmaBurstOp_only
  | dmaDescriptorComplete c => exact .onDev (dmaDescriptorCompleteOp_only c)
  | dmaResume c hall => exact .onDev (dmaResumeOp_only c hall)
  | dmaAbort c hall => exact .onDev (dmaAbortOp_only c hall)
  | dmaInval c hall => exact .onDev (dmaInvalOp_only c hall)
  | dmaInvalComplete c => exact .onDev (dmaInvalCompleteOp_only c)
  | qpRxFrame p => exact .onDev (qpRxFrameOp_only p)
  | qpTxFrame n => exact .onDev (qpTxFrameOp_only n)
  | hallCreate h => exact .onDev (hallCreateOp_only h)
  | hallDestroy h => exact .onDev (hallDestroyOp_only h)
  | hallReset h => exact .onDev (hallResetOp_only h)
  | hallFreeze h => exact .onDev (hallFreezeOp_only h)
  | hallAtRest h => exact .onDev (hallAtRestOp_only h)
  | hallThaw h => exact .onDev (hallThawOp_only h)
  | hallSave h => exact .onDev (hallSaveOp_only h)
  | hallRestore h => exact .onDev (hallRestoreOp_only h)
  | hallMigrate h rsp => exact .onDev (hallMigrateOp_only h rsp)
  | hallGo h => exact .onDev (hallGoOp_only h)
  | hallCancel h => exact .onDev (hallCancelOp_only h)
  | hallFaultCmd h => exact .onDev (hallFaultCmdOp_only h)
  | hallWdtKick h hall v => exact .onDev (hallWdtKickOp_only h hall v)
  | hallWdtExpiry h => exact .onDev (hallWdtExpiryOp_only h)
  | hallDoorbell h hall v => exact .onDev (hallDoorbellOp_only h hall v)
  | migAccept h insts ccores windows => exact .onDev (migAcceptOp_only h insts ccores windows)
  | migPassComplete => exact .onDev migPassCompleteOp_only
  | migStateReceived h pages record => exact .onDev (migStateReceivedOp_only h pages record)
  | migReadyReceive st => exact .onDev (migReadyReceiveOp_only st)
  | migCommitReceive h => exact .onDev (migCommitReceiveOp_only h)
  | migCommitTimeout h sent => exact .onDev (migCommitTimeoutOp_only h sent)
  | watermarkWrite i v reg => exact .onDev (watermarkWriteOp_only i v reg)
  | leaseTake i g reg => exact .onDev (leaseTakeOp_only i g reg)
  | leaseRelease i reg => exact .onDev (leaseReleaseOp_only i reg)
  | keyClear k => exact .onDev (keyClearOp_only k)
  | cryptoJobStart => exact .onDev cryptoJobStartOp_only
  | cryptoGcmEncrypt => exact .onDev cryptoGcmEncryptOp_only
  | cryptoGcmDecrypt => exact .onDev cryptoGcmDecryptOp_only
  | cryptoSha256 => exact .onDev cryptoSha256Op_only
  | cryptoSha384 => exact .onDev cryptoSha384Op_only
  | cryptoHmac => exact .onDev cryptoHmacOp_only
  | cryptoP256Verify => exact .onDev cryptoP256VerifyOp_only
  | cryptoP384Verify => exact .onDev cryptoP384VerifyOp_only
  | cryptoP256Sign => exact .onDev cryptoP256SignOp_only
  | cryptoP384Sign => exact .onDev cryptoP384SignOp_only
  | cryptoRandom => exact .onDev cryptoRandomOp_only
  | cryptoCopy => exact .onDev cryptoCopyOp_only
  | cryptoJobComplete => exact .onDev cryptoJobCompleteOp_only
  | lcAdvance => exact .onDev lcAdvanceOp_only
  | returnToken b pub => exact .onDev (returnTokenOp_only b pub)
  | debugToken b pub => exact .onDev (debugTokenOp_only b pub)
  | keyRevoke i => exact .onDev (keyRevokeOp_only i)
  | rollbackSet n => exact .onDev (rollbackSetOp_only n)
  | swdtKick v => exact .onDev (swdtKickOp_only v)
  | swdtHalfPeriod => exact .onDev swdtHalfPeriodOp_only
  | swdtExpired env => exact .onDev (swdtExpiredOp_only env)
  | sourceStable src => exact .onDev (sourceStableOp_only src)
  | pllLock k => exact .onDev (pllLockOp_only k)
  | rcoTrim err => exact .onDev (rcoTrimOp_only err)
  | sscEnd => exact .onDev sscEndOp_only
  | clkTrip src cause => exact .onDev (clkTripOp_only src cause)
  | domainSwitch k => exact .onDev (domainSwitchOp_only k)
  | domainSwitchComplete k => exact .onDev (domainSwitchCompleteOp_only k)
  | forcedSwitch k => exact .onDev (forcedSwitchOp_only k)
  | revertTimeout k => exact .onDev (revertTimeoutOp_only k)
  | refLoss => exact .onDev refLossOp_only
  | refLossEnd => exact .onDev refLossEndOp_only
  | gateOn g v secure => exact .onDev (gateOnOp_only g v secure)
  | gateOff g v secure => exact .onDev (gateOffOp_only g v secure)
  | gatePark g => exact .onDev (gateParkOp_only g)
  | gateUnpark g => exact .onDev (gateUnparkOp_only g)
  | vauxOn env => exact .onVest (vauxOnOp_only env)
  | vauxPor => exact .onVaux vauxPorOp_only
  | resetNLow => exact .onVaux resetNLowOp_only
  | resetNHigh env => exact .onVaux (resetNHighOp_only env)
  | fatalFault detail rail mv env => exact .onVaux (fatalFaultOp_only detail rail mv env)
  | overtempClear env => exact .onVaux (overtempClearOp_only env)
  | warmReset secure ms => exact .onDev (warmResetOp_only secure ms)
  | aCoreFatal core ms => exact .onDev (aCoreFatalOp_only core ms)
  | unitReset v secure => exact .onDev (unitResetOp_only v secure)
  | powerFail => exact .onDev powerFailOp_only
  | powerRestored => exact .onDev powerRestoredOp_only
  | spWriteFrame len b env => exact .onVaux (spWriteFrameOp_only len b env)
  | spReadFrame whole => exact .onVaux (spReadFrameOp_only whole)
  | spReadStatus => exact .onVaux spReadStatusOp_only
  | storageDescriptorFetch h => exact .onDev (storageDescriptorFetchOp_only h)
  | storageRead h i n w => exact .onDev (storageReadOp_only h i n w)
  | storageWrite h i n w => exact .onDev (storageWriteOp_only h i n w)
  | storageTrim h i => exact .onDev (storageTrimOp_only h i)
  | storageFlush h i => exact .onDev (storageFlushOp_only h i)
  | storageAppend i n w => exact .onDev (storageAppendOp_only i n w)
  | storageLogRead i n w => exact .onDev (storageLogReadOp_only i n w)
  | storageCmdComplete h i => exact .onDev (storageCmdCompleteOp_only h i)
  | eventLogCommit => exact .onDev eventLogCommitOp_only
  | blockRefresh w => exact .onDev (blockRefreshOp_only w)
  | retentionScrub refresh w => exact .onDev (retentionScrubOp_only refresh w)
  | storageMount ms unclean => exact .onDev (storageMountOp_only ms unclean)
  | partitionErase h => exact .onDev (fun d => (Dev.partitionErase_only d h).answered)
  | stagingArm => exact .onDev stagingArmOp_only
  | stagingDiscard => exact .onDev stagingDiscardOp_only
  | imageConfirm => exact .onDev imageConfirmOp_only
  | retryActive => exact .onDev retryActiveOp_only
  | twinAliveToggle => exact .onDev twinAliveToggleOp_only
  | twinAliveLost => exact .onDev twinAliveLostOp_only
  | twinFltLow => exact .onDev twinFltLowOp_only
  | liveKick => exact .onDev liveKickOp_only
  | livenessTimeout => exact .onDev livenessTimeoutOp_only
  | galleryHelloSend n => exact .onDev (galleryHelloSendOp_only n)
  | galleryHelloReceive n w => exact .onDev (galleryHelloReceiveOp_only n w)
  | galleryDataReceive n w => exact .onDev (galleryDataReceiveOp_only n w)
  | heartbeatSend => exact .onDev heartbeatSendOp_only
  | heartbeatReceive n epoch role flags state change activeId forceGen => exact .onDev (heartbeatReceiveOp_only n epoch role flags state change activeId forceGen)
  | heartbeatLost => exact .onDev heartbeatLostOp_only
  | promoteWaitTimeout => exact .onDev promoteWaitTimeoutOp_only
  | twinCmdAttach => exact .onDev twinCmdAttachOp_only
  | twinCmdDetach => exact .onDev twinCmdDetachOp_only
  | twinCmdHandover => exact .onDev twinCmdHandoverOp_only
  | attachReqReceive node compat pos activeId digest => exact .onDev (attachReqReceiveOp_only node compat pos activeId digest)
  | attachRspReceive node status => exact .onDev (attachRspReceiveOp_only node status)
  | attachSnapshot => exact .onDev attachSnapshotOp_only
  | stateMessageReceive q kind epoch off last b => exact .onDev (stateMessageReceiveOp_only q kind epoch off last b)
  | inputsReceive q t cycle startNs off last b => exact .onDev (inputsReceiveOp_only q t cycle startNs off last b)
  | outputCrcReceive t cycle crc => exact .onDev (outputCrcReceiveOp_only t cycle crc)
  | retainReceive q b => exact .onDev (retainReceiveOp_only q b)
  | streamsReceive q b => exact .onDev (streamsReceiveOp_only q b)
  | forcesReceive q gen b => exact .onDev (forcesReceiveOp_only q gen b)
  | detachReceive => exact .onDev detachReceiveOp_only
  | handoverReceive step instant => exact .onDev (handoverReceiveOp_only step instant)
  | handoverTimeout => exact .onDev handoverTimeoutOp_only
  | beaconSend => exact .onDev beaconSendOp_only
  | beaconReceive node role epoch => exact .onDev (beaconReceiveOp_only node role epoch)
  | partnerQuery => exact .onDev partnerQueryOp_only
  | partnerQueryResult ok v => exact .onDev (partnerQueryResultOp_only ok v)
  | promote => exact .onDev promoteOp_only
  | promoteComplete => exact .onDev promoteCompleteOp_only
  | canIntegrationEnd n => exact .onDev (canIntegrationEndOp_only n)
  | limitingEnd n => exact .onDev (limitingEndOp_only n)
  | migrateAcceptTimeout => exact .onDev migrateAcceptTimeoutOp_only
  | inDoubtAnswer h committed => exact .onDev (inDoubtAnswerOp_only h committed)
  | attachRetry => exact .onDev attachRetryOp_only
  | attachWindowTimeout => exact .onDev attachWindowTimeoutOp_only
  | standbyChangeReceive word img => exact .onDev (standbyChangeReceiveOp_only word img)
  | handoverAcceptTimeout => exact .onDev handoverAcceptTimeoutOp_only
  | galleryDictRequest b => exact .onDev (galleryDictRequestOp_only b)
  | galleryAckReceive q map => exact .onDev (galleryAckReceiveOp_only q map)
  | galleryAckSend => exact .onDev galleryAckSendOp_only
  | galleryOutcomeTimeout => exact .onDev galleryOutcomeTimeoutOp_only
  | twinAliveEdge => exact .onDev twinAliveEdgeOp_only
  | twinFltHigh => exact .onDev twinFltHighOp_only
  | arpRequest v6 target mac vlan ip => exact .onDev (arpRequestOp_only v6 target mac vlan ip)
  | dramIdleSelfRefresh => exact .onDev dramIdleSelfRefreshOp_only

/-! ### Steps -/

theorem Canonical.fresh {d : Dev} (h : Canonical d) : Canonical d.fresh :=
  ⟨h.mem, h.dict, h.blobs, h.regs⟩

/-- The next state of a command: the queue is left alone, and the device stays canonical. -/
theorem exec_eq_next (c : Instr) (s : State) :
    ∃ d, exec c s = .next { s with dev := d } ∧ (Canonical s.dev → Canonical d) := by
  obtain ⟨F, f, hrun, honly⟩ := exec_runsFramed c
  exact ⟨f s.dev.fresh, hrun s, fun h => (honly _).canon h.fresh⟩

theorem pending_of_exec {c : Instr} {s t : State} (h : exec c s = .next t) : t.pending = s.pending := by
  obtain ⟨d, hnext, -⟩ := exec_eq_next c s
  cases hnext.symm.trans h
  rfl

theorem exec_keeps_canonical {c : Instr} {s t : State} (hs : Canonical s.dev) (h : exec c s = .next t) : Canonical t.dev := by
  obtain ⟨d, hnext, hkeeps⟩ := exec_eq_next c s
  cases hnext.symm.trans h
  exact hkeeps hs

theorem step_of_pending_nil {s : State} (h : s.pending = []) : step s = .next (idleTick s) := by
  simp [step, h]

theorem step_of_pending_cons {c : Instr} {r : List Instr} {s : State} (h : s.pending = c :: r) : step s = exec c { s with pending := r } := by
  simp [step, h]

/-- An idle tick moves the raw counter only. -/
theorem idleTick_keeps_canonical {s : State} (h : Canonical s.dev) : Canonical (idleTick s).dev := by
  unfold idleTick
  split
  · exact ⟨h.mem, h.dict, h.blobs, h.regs⟩
  · exact h

/-! ### The obligations -/

/-- Settles O56: a step is an idle tick or the front command, and each command's operation keeps the canonical form. -/
theorem everyStepKeepsCanonical : Obligations.EveryStepKeepsCanonical := by
  unfold Obligations.EveryStepKeepsCanonical
  intro s t hs hstep
  cases hqueue : s.pending with
  | nil =>
    rw [step_of_pending_nil hqueue] at hstep
    cases hstep
    exact idleTick_keeps_canonical hs
  | cons c r =>
    rw [step_of_pending_cons hqueue] at hstep
    exact exec_keeps_canonical (s := { s with pending := r }) hs hstep

/-- Settles O41: a step hands the front command the queue's rest, and no operation sees the queue. -/
theorem stepRunsTheFrontCommand : Obligations.StepRunsTheFrontCommand := by
  unfold Obligations.StepRunsTheFrontCommand
  refine ⟨fun c r s hqueue => step_of_pending_cons hqueue, fun c r s t hqueue hstep => ?_⟩
  rw [step_of_pending_cons hqueue] at hstep
  exact pending_of_exec hstep

/-- Settles O57: no arm of `exec` is a fault or a refusal. -/
theorem everyCommandAnswers : Obligations.EveryCommandAnswers := by
  unfold Obligations.EveryCommandAnswers
  intro c s
  obtain ⟨d, hnext, -⟩ := exec_eq_next c s
  exact ⟨_, hnext, rfl⟩

/-- The reset state's memory is empty, and its other stores are short lists of rising keys. -/
theorem reset_canonical : Canonical Dev.reset where
  mem := ⟨rfl, rfl⟩
  dict := by decide
  blobs := by decide
  regs := by decide

/-- Settles O45: each of the reset state's stores is written out. -/
theorem canonicalAtReset : Obligations.CanonicalAtReset := by
  unfold Obligations.CanonicalAtReset
  exact reset_canonical

theorem decodeTableWord_eq_none (n w : Nat) : decodeTableWord n w = none := rfl

/-- Settles O44: no row of the table has bits (log entry 2). -/
theorem noWordSpellsACommand : Obligations.NoWordSpellsACommand := by
  unfold Obligations.NoWordSpellsACommand
  intro n w s
  refine ⟨decodeTableWord_eq_none n w, ?_⟩
  simp [State.withFetchWord, decodeTableWord_eq_none]

end Sys2Proof

/-! SUPPORT. Transactions on the concourse (R15, R16, R18, R21): what an initiator's hardware sets, and what becomes of a transaction that its target refuses. A
refusal is answered with its status and leaves a trace in the initiating core's fault record only. -/

namespace Sys2Proof

open Sys2Proof.Machine

/-! ### What an initiator's hardware sets (Table 1.2) -/

@[simp] theorem Dev.attributed_initiator (d : Dev) (t : Txn) : (d.attributed t).initiator = t.initiator := by
  unfold Dev.attributed; split <;> rfl

@[simp] theorem Dev.attributed_kind (d : Dev) (t : Txn) : (d.attributed t).kind = t.kind := by
  unfold Dev.attributed; split <;> rfl

@[simp] theorem Dev.attributed_addr (d : Dev) (t : Txn) : (d.attributed t).addr = t.addr := by
  unfold Dev.attributed; split <;> rfl

@[simp] theorem Dev.attributed_size (d : Dev) (t : Txn) : (d.attributed t).size = t.size := by
  unfold Dev.attributed; split <;> rfl

@[simp] theorem Dev.attributed_data (d : Dev) (t : Txn) : (d.attributed t).data = t.data := by
  unfold Dev.attributed; split <;> rfl

/-- The address a transaction means rests on its initiator and its address alone. -/
@[simp] theorem Dev.physical_attributed (d e : Dev) (t : Txn) : d.physical (e.attributed t) = d.physical t := by
  simp [Dev.physical]

@[simp] theorem Dev.physical_fresh (d : Dev) (t : Txn) : d.fresh.physical t = d.physical t := rfl

/-! ### Issuing a transaction -/

@[simp] theorem Dev.fresh_fresh (d : Dev) : d.fresh.fresh = d.fresh := rfl

/-- An operation that puts out its answer alone. -/
theorem Dev.taken_of_out {d : Dev} {f : Dev → Dev} {st : Status} {v : Nat} (hf : (f d.fresh).out = [.answer st v]) :
    d.taken f = (some (st, v), { f d.fresh with out := d.out }) := by
  have hf' : (f { d with out := [] }).out = [.answer st v] := hf
  simp [Dev.taken, hf', Dev.fresh]

/-- The initiator issues the transaction: it is no atomic, or the initiator is one that issues atomics (R547). -/
abbrev Issues (t : Txn) : Prop := ∀ fn, t.kind = .atomic fn → issuesAtomics t.initiator = true

/-- An issued transaction's answer: OK goes to the initiator, and a refusal is a core's access fault besides (R21, R324). -/
theorem Dev.issued_of_out {d : Dev} {t : Txn} {f : Txn → Dev → Dev} {st : Status} {v : Nat} (hissue : Issues t)
    (hf : (f (d.attributed t) d.fresh).out = [.answer st v]) :
    d.issued t f = if st = .ok then ({ f (d.attributed t) d.fresh with out := d.out } : Dev).answer .ok v
      else (({ f (d.attributed t) d.fresh with out := d.out } : Dev).answer st v).accessFault t.initiator (d.attributed t).hall st := by
  simp only [Dev.issued, Dev.attributed_kind, Dev.attributed_initiator, Dev.taken_of_out hf]
  cases hkind : t.kind with
  | atomic fn => cases st <;> simp [hissue fn hkind]
  | _ => cases st <;> simp

/-! ### Refusals -/

@[simp] theorem Dev.setHart_out (d : Dev) (k : Nat) (f : Hart → Hart) : (d.setHart k f).out = d.out := rfl

theorem Dev.mem_accessFault_out {d : Dev} {o : Out} (i : Initiator) (hall : Nat) (st : Status) (h : o ∈ d.out) : o ∈ (d.accessFault i hall st).out := by
  cases hcore : coreOf i with
  | none => simpa [Dev.accessFault, hcore] using h
  | some k =>
    simp only [Dev.accessFault, hcore, Dev.emit_out]
    split
    · simp [h]
    · split <;> simp [h]

/-- A transaction that its target refuses, without effect on the device: the answer, and at most the core's fault record. -/
theorem gives_refusal {c : Instr} {s : State} {t : Txn} {f : Txn → Dev → Dev} {st : Status} (hlive : Live s)
    (hc : exec c s = onDev s fun d => d.issued t f) (hissue : Issues t) (hst : st ≠ .ok)
    (hf : f (s.dev.fresh.attributed t) s.dev.fresh = s.dev.fresh.answer st) :
    Gives c s fun d => Out.answer st 0 ∈ d.out ∧ Only ⟨[.harts], [], []⟩ s.dev d := by
  have hout : (f (s.dev.fresh.attributed t) s.dev.fresh.fresh).out = [.answer st 0] := by
    rw [Dev.fresh_fresh, hf]
    rfl
  rw [gives_iff_of_onDev hc hlive, Dev.issued_of_out hissue hout, if_neg hst, Dev.fresh_fresh, hf]
  refine ⟨Dev.mem_accessFault_out _ _ _ (by simp), Only.of_fresh ?_⟩
  exact (Dev.accessFault_only _ _ _ _).trans Only.refl.answer

/-! ### Addresses that nothing answers at (R28) -/

/-- The transaction's address is of no region, of no unit's page, or in a window that its initiator does not have. -/
abbrev Unmapped (d : Dev) (t : Txn) : Prop :=
  region t.addr = none ∨ ((region t.addr = some .units ∨ region t.addr = some .mezzRegs) ∧ pageOf t.addr = none) ∨
    (region t.addr = some .dramWindow ∧ d.physical t = none)

theorem Dev.access_of_unmapped {d : Dev} {t : Txn} (h : Unmapped d t) : d.access t = d.answer .accessAttr := by
  rcases h with hnone | ⟨hunits | hmezz, hpage⟩ | ⟨hwindow, hphysical⟩
  · simp [Dev.access, hnone]
  · simp [Dev.access, hunits, Dev.pageTxn, hpage]
  · simp [Dev.access, hmezz, Dev.pageTxn, hpage]
  · simp [Dev.access, hwindow, Dev.memTxn, hphysical]

theorem unmapped_attributed {d : Dev} {t : Txn} (h : Unmapped d t) : Unmapped d.fresh (d.fresh.attributed t) := by
  simpa only [Unmapped, Dev.attributed_addr, Dev.physical_attributed, Dev.physical_fresh] using h

/-- A transaction or an atomic whose access to its target is refused. -/
theorem gives_access_refusal {c : Instr} {s : State} {t : Txn} {st : Status} (hlive : Live s) (hc : exec c s = onDev s fun d => d.transact t)
    (hissue : Issues t) (hst : st ≠ .ok) (h : s.dev.fresh.access (s.dev.fresh.attributed t) = s.dev.fresh.answer st) :
    Gives c s fun d => Out.answer st 0 ∈ d.out ∧ Only ⟨[.harts], [], []⟩ s.dev d :=
  gives_refusal (f := fun t d => d.access t) hlive hc hissue hst h

/-- Settles O48: the access of an unmapped transaction is a refusal, whatever its initiator sets. -/
theorem unmappedRefused : Obligations.UnmappedRefused := by
  unfold Obligations.UnmappedRefused
  intro s hlive t hunmapped
  refine ⟨fun hissue => ?_, fun hissue => ?_⟩
  · exact gives_access_refusal hlive rfl hissue (by decide) (Dev.access_of_unmapped (unmapped_attributed hunmapped))
  · have hatomic : Unmapped s.dev { t with kind := match t.kind with | .atomic f => .atomic f | _ => .atomic 0 } := hunmapped
    exact gives_access_refusal hlive rfl (fun _ _ => hissue) (by decide) (Dev.access_of_unmapped (unmapped_attributed hatomic))

/-! ### Targets whose gate is off (check 7 of Table 1.4, R18) -/

/-- A transaction to a page that passes the checks before check 7, where the unit's gate is off. -/
theorem Dev.pageCheck_of_gate_off {d : Dev} {u : Txn} {p : Page} {off : Nat} (hend : off + u.size ≤ pageSize p)
    (hworld : d.pageSecure p u.addr = true → u.secure = true) (hhall : d.hallMay u p off = true) (hepoch : d.epochMay u p off = true)
    (hkind : u.kind = .read ∨ u.kind = .write ∨ u.kind = .posted) (halign : u.addr % u.size = 0) (hoff : d.pageOn p = false) :
    d.pageCheck u p off = .wrongState := by
  have hworld' : (d.pageSecure p u.addr && !u.secure) = false := by
    cases h : d.pageSecure p u.addr with
    | false => rfl
    | true => simp [hworld h]
  rcases hkind with hkind | hkind | hkind <;>
    simp [Dev.pageCheck, Nat.not_lt.2 hend, hworld', hhall, hepoch, hkind, halign, hoff]

theorem Dev.access_of_pageCheck {d : Dev} {t : Txn} {p : Page} {off : Nat} (hregion : region t.addr = some .units ∨ region t.addr = some .mezzRegs)
    (hpage : pageOf t.addr = some (p, off)) (hcheck : d.pageCheck t p off = .wrongState) : d.access t = d.answer .wrongState := by
  rcases hregion with hregion | hregion <;> simp [Dev.access, hregion, Dev.pageTxn, hpage, hcheck]

/-- A transaction to memory that passes the checks before check 7, where the memory's gate is off. -/
theorem Dev.memCheck_of_gate_off {d : Dev} {u : Txn} {a : Nat} (hfirst : d.memMapped u.initiator a = true)
    (hlast : d.memMapped u.initiator (a + u.size - 1) = true) (hregion : region a = region (a + u.size - 1))
    (hworld : d.needsSecure a = true ∨ d.needsSecure (a + u.size - 1) = true → u.secure = true)
    (hwrite : u.kind = .read ∨ (region a ≠ some .bootRom ∧ d.coversUpper a u.size = false)) (hatomic : atomicOk u = true)
    (halign : a % u.size = 0) (hoff : d.memOff a = true) : d.memCheck u a = .wrongState := by
  have hworld' : ((d.needsSecure a || d.needsSecure (a + u.size - 1)) && !u.secure) = false := by
    cases h : d.needsSecure a || d.needsSecure (a + u.size - 1) with
    | false => rfl
    | true => simp [hworld (by simpa using h)]
  have hwrite' : (u.kind != .read && (region a == some .bootRom || d.coversUpper a u.size)) = false := by
    rcases hwrite with hread | ⟨hrom, hupper⟩
    · simp [hread]
    · simp [hrom, hupper]
  simp [Dev.memCheck, hfirst, hlast, ← hregion, hworld', hwrite', hatomic, halign, hoff]

@[simp] theorem atomicOk_attributed (d : Dev) (t : Txn) : atomicOk (d.attributed t) = atomicOk t := by
  simp [atomicOk]

theorem Dev.access_of_inMemory {d : Dev} {t : Txn} (h : inMemory t.addr = true) : d.access t = d.memTxn t := by
  unfold inMemory at h
  cases hregion : region t.addr with
  | none => simp [hregion] at h
  | some r => cases r <;> simp_all [Dev.access]

theorem Dev.memTxn_of_wrongState {d : Dev} {t : Txn} {a : Nat} (hphysical : d.physical t = some a) (hcheck : d.memCheck t a = .wrongState) :
    d.memTxn t = d.answer .wrongState := by
  simp [Dev.memTxn, hphysical, hcheck]

/-- A read of a bridge window that passes the checks before check 7, where the bridge's gate is off. -/
theorem Dev.windowCheck_of_gate_off {d : Dev} {t : Txn} {u k : Nat} (hwindow : d.windowAt t.addr = some (u, k)) (hread : t.kind = .read)
    (hhall : d.get (Ent.Bctx.HALL (bctx u k)) = t.hall)
    (hprefetch : d.flag (Ent.Bctx.PREFETCH (bctx u k)) = true ∨
      ((∀ c, t.initiator ≠ .dma c ∧ t.initiator ≠ .hostEngine c) ∧ t.initiator ≠ .mezzDma))
    (halign : t.addr % t.size = 0) (hoff : d.gateOn (gateBridge u) = false) : d.windowCheck t = (.wrongState, u, k) := by
  have hatomic : atomicOk t = true := by simp [atomicOk, hread]
  rcases hprefetch with hflag | ⟨hdma, hmezz⟩
  · simp [Dev.windowCheck, hwindow, hhall, hread, hflag, hatomic, halign, hoff]
  · cases hinit : t.initiator <;> simp_all [Dev.windowCheck]

theorem Dev.access_of_windowCheck {d : Dev} {t : Txn} {u k : Nat} (hregion : region t.addr = some .bridgeWindow) (hread : t.kind = .read)
    (hcheck : d.windowCheck { t with kind := .read, data := 0 } = (.wrongState, u, k)) : d.access t = d.answer .wrongState := by
  simp [Dev.access, hregion, hread, bridgeWindowReadOp, Dev.windowOp, hcheck]

/-- A unit's own access to a memory whose gate is off, in its world. -/
theorem Dev.memStatus_of_gate_off {d : Dev} {secure write : Bool} {a : Nat} (hmapped : region a = some .dram → d.dramMapped a = true)
    (hregion : region a = some .dram ∨ region a = some .sysSram ∨ region a = some .tcm ∨ region a = some .image)
    (hworld : d.needsSecure a = true → secure = true) (hpair : write = true → d.pairTcm a 1 = false) (hoff : d.memOff a = true) :
    d.memStatus secure write a = .wrongState := by
  have hworld' : (d.needsSecure a && !secure) = false := by
    cases h : d.needsSecure a with
    | false => rfl
    | true => simp [hworld h]
  have hpair' : (write && d.pairTcm a 1) = false := by
    cases h : write with
    | false => rfl
    | true => simp [hpair h]
  rcases hregion with hregion | hregion | hregion | hregion
  · simp [Dev.memStatus, hregion, hmapped hregion, hworld', hoff]
  all_goals simp [Dev.memStatus, hregion, hworld', hpair', hoff]

theorem inMemory_of_region {a : Nat} (hnone : region a ≠ none) (hunits : region a ≠ some .units) (hmezz : region a ≠ some .mezzRegs)
    (hwindow : region a ≠ some .bridgeWindow) : inMemory a = true := by
  unfold inMemory
  cases hregion : region a with
  | none => exact absurd hregion hnone
  | some r => cases r <;> simp_all

/-- Settles O49: each target's checks come to check 7, and a refused access turns no gate on. -/
theorem gateOffRefused : Obligations.GateOffRefused := by
  unfold Obligations.GateOffRefused
  refine ⟨?page, ?memory, ?window, fun _ _ _ _ hmapped hregion hworld hpair hoff => Dev.memStatus_of_gate_off hmapped hregion hworld hpair hoff⟩
  case page =>
    intro s hlive t u p off rfl hregion hpage hend hworld hhall hepoch hkind halign hoff
    have hcheck : s.dev.pageCheck (s.dev.attributed t) p off = .wrongState :=
      Dev.pageCheck_of_gate_off (by simpa using hend) (by simpa using hworld) hhall hepoch (by simpa using hkind) (by simpa using halign) hoff
    have hissue : Issues t := by rintro fn hatomic; simp [hatomic] at hkind
    exact gives_access_refusal hlive rfl hissue (by decide) (Dev.access_of_pageCheck (by simpa using hregion) (by simpa using hpage) hcheck)
  case memory =>
    intro s hlive t u a rfl hphysical hnone hunits hmezz hwindow hfirst hlast hregion hworld hwrite hatomic hissue halign hoff
    have hcheck : s.dev.memCheck (s.dev.attributed t) a = .wrongState :=
      Dev.memCheck_of_gate_off (by simpa using hfirst) (by simpa using hlast) (by simpa using hregion) (by simpa using hworld)
        (by simpa using hwrite) (by simpa using hatomic) (by simpa using halign) hoff
    have hmemory := inMemory_of_region hnone hunits hmezz hwindow
    refine gives_access_refusal hlive rfl hissue (by decide) ?_
    rw [Dev.access_of_inMemory (by simpa using hmemory)]
    exact Dev.memTxn_of_wrongState (by simpa using hphysical) hcheck
  case window =>
    intro s hlive t v u k rfl hregion hwindow hread hhall hprefetch halign hoff
    have hcheck : s.dev.windowCheck { s.dev.attributed t with kind := .read, data := 0 } = (.wrongState, u, k) :=
      Dev.windowCheck_of_gate_off (by simpa using hwindow) rfl hhall (by simpa using hprefetch) (by simpa using halign) hoff
    have hissue : Issues t := by rintro fn hatomic; simp [hatomic] at hread
    exact gives_access_refusal hlive rfl hissue (by decide) (Dev.access_of_windowCheck (by simpa using hregion) (by simpa using hread) hcheck)
end Sys2Proof

/-! SUPPORT. Memory transactions that pass the checks (R16, R346, R353, R547): what a store leaves in memory, with the copy that a lockstep pair's upper core takes
(R327), and what the four ways to memory answer: an initiator's transaction, an atomic, a halted hart's access and the debug module's bus master. -/

namespace Sys2Proof

open Sys2Proof.Machine

/-! ### Reading what was stored -/

theorem Dev.readMem_congr {d e : Dev} {a n : Nat} (h : ∀ i, i < n → e.byte (a + i) = d.byte (a + i)) : e.readMem a n = d.readMem a n := by
  induction n generalizing a with
  | zero => rfl
  | succ n ih =>
    have hrest : ∀ i, i < n → e.byte (a + 1 + i) = d.byte (a + 1 + i) := fun i hi => by
      simpa [Nat.add_assoc, Nat.add_comm 1] using h (i + 1) (by omega)
    simp only [Dev.readMem, ih hrest]
    rw [show e.byte a = d.byte a from h 0 (by omega)]

theorem Dev.readMem_eq_of_bytes {d : Dev} {a : Nat} {b : Bytes} (h : ∀ i, (hi : i < b.length) → d.byte (a + i) = b[i]) :
    d.readMem a b.length = b := by
  induction b generalizing a with
  | nil => rfl
  | cons c r ih =>
    have hrest : ∀ i, (hi : i < r.length) → d.byte (a + 1 + i) = r[i] := fun i hi => by
      rw [Nat.add_assoc, Nat.add_comm 1]
      exact h (i + 1) (by simpa using hi)
    simp only [List.length_cons, Dev.readMem, ih hrest]
    rw [show d.byte a = c from h 0 (by simp)]

/-! ### The copy in a pair's upper core (R327) -/

/-- Byte `x` of the upper core of pair `k`, running as one hart, has its lower core's byte among the `n` from `a`. -/
abbrev MirroredBy (d : Dev) (a n x k : Nat) : Prop :=
  d.get (Ent.Pair.STATE k) ≠ 0 ∧ (tcmPart a n (0x2000000 + 0x40000 * k)).1 + 0x20000 ≤ x ∧ x < (tcmPart a n (0x2000000 + 0x40000 * k)).2 + 0x20000

/-- What a store does for pair `k`: the lower core's part goes to the upper core too. -/
def mirrorStep (a : Nat) (b : Bytes) (d : Dev) (k : Nat) : Dev :=
  let p := tcmPart a b.length (0x2000000 + 0x40000 * k)
  if p.1 < p.2 ∧ d.get (Ent.Pair.STATE k) ≠ 0 then d.writeMem (p.1 + 0x20000) (slice b (p.1 - a) (p.2 - p.1)) else d

theorem Dev.storeMem_eq (d : Dev) (a : Nat) (b : Bytes) : d.storeMem a b = (List.range 4).foldl (mirrorStep a b) (d.writeMem a b) := rfl

theorem slice_eq_of_le {b : Bytes} {i n : Nat} (h : i + n ≤ b.length) : slice b i n = (b.drop i).take n := by
  have hlength : ((b.drop i).take n).length = n := by simp; omega
  simp [slice, hlength]

@[simp] theorem mirrorStep_get (a : Nat) (b : Bytes) (d : Dev) (k : Nat) (e : Entry) : (mirrorStep a b d k).get e = d.get e := by
  unfold mirrorStep
  extract_lets p
  split
  · simp [Dev.get]
  · rfl

theorem byte_mirrorStep (a : Nat) (b : Bytes) (d : Dev) (k x : Nat) :
    (mirrorStep a b d k).byte x = if MirroredBy d a b.length x k then b.getD (x - 0x20000 - a) 0 else d.byte x := by
  unfold mirrorStep
  extract_lets p
  have hfirst : a ≤ p.1 := Nat.le_max_left ..
  have hlast : p.2 ≤ a + b.length := Nat.min_le_left ..
  have hslice : p.1 < p.2 → slice b (p.1 - a) (p.2 - p.1) = (b.drop (p.1 - a)).take (p.2 - p.1) := fun h => slice_eq_of_le (by omega)
  by_cases hm : MirroredBy d a b.length x k
  · rw [if_pos hm]
    obtain ⟨hpair, hlo, hhi⟩ : d.get (Ent.Pair.STATE k) ≠ 0 ∧ p.1 + 0x20000 ≤ x ∧ x < p.2 + 0x20000 := hm
    have hlt : p.1 < p.2 := by omega
    rw [if_pos ⟨hlt, hpair⟩, hslice hlt]
    obtain ⟨i, rfl⟩ : ∃ i, x = p.1 + 0x20000 + i := ⟨x - (p.1 + 0x20000), by omega⟩
    rw [Dev.byte_writeMem_same _ _ _ _ (by simp; omega)]
    have hindex : p.1 + 0x20000 + i - 0x20000 - a = p.1 - a + i := by omega
    simp [hindex, List.getElem?_eq_getElem (show p.1 - a + i < b.length by omega)]
  · rw [if_neg hm]
    have hm' : ¬(d.get (Ent.Pair.STATE k) ≠ 0 ∧ p.1 + 0x20000 ≤ x ∧ x < p.2 + 0x20000) := hm
    split
    next hstep =>
      obtain ⟨hlt, hpair⟩ := hstep
      apply Dev.byte_writeMem_other
      have hlength : (slice b (p.1 - a) (p.2 - p.1)).length = p.2 - p.1 := by rw [hslice hlt]; simp; omega
      by_contra hinside
      exact hm' ⟨hpair, by omega, by omega⟩
    next => rfl

/-- The copies of all pairs: a byte that a pair mirrors has the lower core's byte, every other byte is kept. -/
theorem byte_foldl_mirrorStep (a : Nat) (b : Bytes) (l : List Nat) (d : Dev) (x : Nat) :
    (l.foldl (mirrorStep a b) d).byte x =
      if ∃ k ∈ l, MirroredBy d a b.length x k then b.getD (x - 0x20000 - a) 0 else d.byte x := by
  induction l generalizing d with
  | nil => simp
  | cons k l ih =>
    have hsame : ∀ j, MirroredBy (mirrorStep a b d k) a b.length x j ↔ MirroredBy d a b.length x j := fun j => by
      simp only [MirroredBy, mirrorStep_get]
    simp only [List.foldl_cons, ih, hsame, byte_mirrorStep, List.exists_mem_cons_iff]
    by_cases hl : ∃ j ∈ l, MirroredBy d a b.length x j
    · rw [if_pos hl, if_pos (.inr hl)]
    · rw [if_neg hl]
      exact if_congr (or_iff_left hl).symm rfl rfl

/-! ### What a store leaves in memory -/

/-- Some pair mirrors byte `x` exactly where it lies in its upper core's TCM and its lower core's byte was written. -/
theorem mirroredBy_iff (d : Dev) (a n x : Nat) :
    (∃ k ∈ List.range 4, MirroredBy d a n x k) ↔ d.pairTcm (x - 0x20000) 0 = true ∧ a ≤ x - 0x20000 ∧ x - 0x20000 < a + n := by
  simp only [MirroredBy, Dev.pairTcm, tcmPart, List.mem_range, Bool.and_eq_true, decide_eq_true_eq, beq_iff_eq, bne_iff_ne]
  constructor
  · rintro ⟨k, hk, hpair, hlo, hhi⟩
    have hnumber : (x - 0x20000 - 0x2000000) / 0x40000 = k := by omega
    exact ⟨⟨⟨⟨by omega, by omega⟩, by omega⟩, hnumber ▸ hpair⟩, by omega, by omega⟩
  · rintro ⟨⟨⟨⟨hlo, hhi⟩, hlower⟩, hpair⟩, hfirst, hlast⟩
    exact ⟨(x - 0x20000 - 0x2000000) / 0x40000, by omega, hpair, by omega, by omega⟩

/-- A store that covers no upper core's TCM of a pair mirrors none of its own bytes. -/
theorem not_mirroredBy_of_coversUpper {d : Dev} {a n x : Nat} (h : d.coversUpper a n = false) (hlo : a ≤ x) (hhi : x < a + n) :
    ¬∃ k ∈ List.range 4, MirroredBy d a n x k := by
  rintro ⟨k, hk, hpair, hfirst, hlast⟩
  simp only [Dev.coversUpper, List.any_eq_false, Bool.and_eq_true, decide_eq_true_eq, bne_iff_ne, not_and, not_not] at h
  simp only [tcmPart] at hfirst hlast h
  exact hpair (h k hk (by omega))

theorem Dev.byte_storeMem (d : Dev) (a : Nat) (b : Bytes) (x : Nat) :
    (d.storeMem a b).byte x =
      if ∃ k ∈ List.range 4, MirroredBy d a b.length x k then b.getD (x - 0x20000 - a) 0 else (d.writeMem a b).byte x := by
  rw [Dev.storeMem_eq, byte_foldl_mirrorStep]
  simp [MirroredBy, Dev.get]

theorem Dev.byte_storeMem_same {d : Dev} {a : Nat} {b : Bytes} (h : d.coversUpper a b.length = false) {i : Nat} (hi : i < b.length) :
    (d.storeMem a b).byte (a + i) = b[i] := by
  rw [Dev.byte_storeMem, if_neg (not_mirroredBy_of_coversUpper h (by omega) (by omega)), Dev.byte_writeMem_same _ _ _ _ hi]

/-- A store leaves its bytes, the upper core's copy of them, and every other byte as it was. -/
theorem storedAt_storeMem {d : Dev} {a n : Nat} (v : Nat) (h : d.coversUpper a n = false) : StoredAt a n v d (d.storeMem a (le n v)) := by
  have hupper : d.coversUpper a (le n v).length = false := by simpa using h
  refine ⟨?_, fun x hx => ?_⟩
  · have hbytes := Dev.readMem_eq_of_bytes fun i hi => Dev.byte_storeMem_same hupper (i := i) hi
    simpa using hbytes
  · rw [Dev.byte_storeMem, le_length]
    by_cases hm : ∃ k ∈ List.range 4, MirroredBy d a n x k
    · have hcopy := (mirroredBy_iff d a n x).1 hm
      obtain ⟨-, hlo, hhi⟩ := hcopy
      obtain ⟨i, hi⟩ : ∃ i, x - 0x20000 = a + i := ⟨x - 0x20000 - a, by omega⟩
      have hlength : i < (le n v).length := by simp; omega
      rw [if_pos hm, if_pos ((mirroredBy_iff d a n x).1 hm), hi, Dev.byte_storeMem_same hupper hlength, Nat.add_sub_cancel_left,
        List.getD_eq_getElem _ _ hlength]
    · rw [if_neg hm, if_neg (mt (mirroredBy_iff d a n x).2 hm)]
      exact Dev.byte_writeMem_other _ _ _ _ (by simpa using hx)

/-! ### Accesses that pass the checks of Table 1.4 -/

@[simp] theorem Dev.readMem_fresh (d : Dev) (a n : Nat) : d.fresh.readMem a n = d.readMem a n :=
  Dev.readMem_congr fun _ _ => rfl

@[simp] theorem Dev.readMem_answer (d : Dev) (st : Status) (v a n : Nat) : (d.answer st v).readMem a n = d.readMem a n :=
  Dev.readMem_congr fun _ _ => rfl

/-- DRAM that is used leaves self-refresh: a change of the clock unit only. -/
theorem Dev.dramUsed_eq (d : Dev) (a : Nat) : ∃ k, d.dramUsed a = { d with clk := k } := by
  unfold Dev.dramUsed
  split
  · exact ⟨_, rfl⟩
  · exact ⟨d.clk, rfl⟩

theorem mirrorStep_out (a : Nat) (b : Bytes) (d : Dev) (k : Nat) : (mirrorStep a b d k).out = d.out := by
  unfold mirrorStep
  extract_lets p
  split
  · simp
  · rfl

theorem Dev.storeMem_out (d : Dev) (a : Nat) (b : Bytes) : (d.storeMem a b).out = d.out := by
  have hcopies : ∀ (l : List Nat) (e : Dev), (l.foldl (mirrorStep a b) e).out = e.out := fun l => by
    induction l with
    | nil => exact fun _ => rfl
    | cons k l ih => exact fun e => (ih _).trans (mirrorStep_out a b e k)
  rw [Dev.storeMem_eq, hcopies, Dev.writeMem_out]

/-- A write that passes the checks covers no upper core's TCM of a pair (R327). -/
theorem Dev.coversUpper_of_memCheck {d : Dev} {t : Txn} {a : Nat} (hcheck : d.memCheck t a = .ok) (hwrite : t.kind ≠ .read) :
    d.coversUpper a t.size = false := by
  by_contra hcovers
  rw [Bool.not_eq_false] at hcovers
  have hrefused : (t.kind != .read && (region a == some .bootRom || d.coversUpper a t.size) || !atomicOk t) = true := by
    simp [hwrite, hcovers]
  simp only [Dev.memCheck, hrefused, if_true] at hcheck
  split_ifs at hcheck

/-- The access answered the `n` bytes from `a` and did nothing else but use DRAM. -/
abbrev Loaded (a n : Nat) (d r : Dev) : Prop := r.out = [.answer .ok (ofLe (d.readMem a n))] ∧ Only ⟨[.clk], [], []⟩ d r

/-- The access stored `w` in the `n` bytes from `a`, answered `v` and did nothing else. -/
abbrev Stored (a n w v : Nat) (d r : Dev) : Prop :=
  r.out = [.answer .ok v] ∧ StoredAt a n w d r ∧ Only ⟨[.mem, .dma, .tenants, .clk], [], []⟩ d r

theorem loaded_dramUsed {d : Dev} (hout : d.out = []) (a n : Nat) : Loaded a n d ((d.dramUsed a).answer .ok (ofLe (d.readMem a n))) := by
  refine ⟨?_, (Dev.dramUsed_only d a).answer⟩
  obtain ⟨k, hk⟩ := Dev.dramUsed_eq d a
  simp [hk, hout]

theorem storedAt_answer {d r : Dev} {a n w v : Nat} {st : Status} (h : StoredAt a n w d r) : StoredAt a n w d (r.answer st v) :=
  ⟨(Dev.readMem_answer r st v a n).trans h.1, h.2⟩

theorem stored_storeMem {d : Dev} {a n : Nat} (w v : Nat) (hout : d.out = []) (hupper : d.coversUpper a n = false) :
    Stored a n w v d (((d.dramUsed a).storeMem a (le n w)).answer .ok v) := by
  refine ⟨?_, ?_, ?_⟩
  · obtain ⟨k, hk⟩ := Dev.dramUsed_eq d a
    simp [hk, hout, Dev.storeMem_out]
  · obtain ⟨k, hk⟩ := Dev.dramUsed_eq d a
    rw [hk]
    exact storedAt_answer (storedAt_storeMem (d := { d with clk := k }) w hupper)
  · have hused : Only ⟨[.mem, .dma, .tenants, .clk], [], []⟩ d (d.dramUsed a) := (Dev.dramUsed_only d a).mono ⟨by decide⟩
    exact ((Dev.storeMem_only _ a (le n w)).step ⟨by decide⟩ hused).answer

theorem Dev.memTxn_of_read {d : Dev} {t : Txn} {a : Nat} (hread : t.kind = .read) (hphysical : d.physical t = some a)
    (hcheck : d.memCheck t a = .ok) : d.memTxn t = (d.dramUsed a).answer .ok (ofLe (d.readMem a t.size)) := by
  obtain ⟨k, hk⟩ := Dev.dramUsed_eq d a
  have hbytes : (d.dramUsed a).readMem a t.size = d.readMem a t.size := Dev.readMem_congr fun _ _ => by rw [hk]; rfl
  simp [Dev.memTxn, hphysical, hcheck, hread, hbytes]

theorem Dev.memTxn_of_write {d : Dev} {t : Txn} {a : Nat} (hwrite : t.kind = .write ∨ t.kind = .posted) (hphysical : d.physical t = some a)
    (hcheck : d.memCheck t a = .ok) :
    d.memTxn t = ((d.dramUsed a).storeMem a (le t.size (t.data % 2 ^ (8 * t.size)))).answer .ok := by
  rcases hwrite with hkind | hkind <;> simp [Dev.memTxn, hphysical, hcheck, hkind]

theorem Dev.memTxn_of_atomic {d : Dev} {t : Txn} {a fn : Nat} (hatomic : t.kind = .atomic fn) (hphysical : d.physical t = some a)
    (hcheck : d.memCheck t a = .ok) :
    d.memTxn t = ((d.dramUsed a).storeMem a (le t.size (amo fn (8 * t.size) (ofLe (d.readMem a t.size)) (t.data % 2 ^ (8 * t.size))))).answer .ok
      (ofLe (d.readMem a t.size)) := by
  obtain ⟨k, hk⟩ := Dev.dramUsed_eq d a
  have hbytes : (d.dramUsed a).readMem a t.size = d.readMem a t.size := Dev.readMem_congr fun _ _ => by rw [hk]; rfl
  simp [Dev.memTxn, hphysical, hcheck, hatomic, hbytes]

/-- The checks that let a transaction through to the memory at `a`. -/
structure PassesAt (d : Dev) (t : Txn) (a : Nat) : Prop where
  out : d.out = []
  mem : inMemory t.addr = true
  physical : d.physical t = some a
  check : d.memCheck t a = .ok

theorem PassesAt.loaded {d : Dev} {t : Txn} {a : Nat} (h : PassesAt d t a) (hread : t.kind = .read) : Loaded a t.size d (d.access t) := by
  rw [Dev.access_of_inMemory h.mem, Dev.memTxn_of_read hread h.physical h.check]
  exact loaded_dramUsed h.out a t.size

theorem PassesAt.stored {d : Dev} {t : Txn} {a : Nat} (h : PassesAt d t a) (hwrite : t.kind = .write ∨ t.kind = .posted) :
    Stored a t.size (t.data % 2 ^ (8 * t.size)) 0 d (d.access t) := by
  rw [Dev.access_of_inMemory h.mem, Dev.memTxn_of_write hwrite h.physical h.check]
  exact stored_storeMem _ _ h.out (Dev.coversUpper_of_memCheck h.check (by rcases hwrite with hkind | hkind <;> simp [hkind]))

theorem PassesAt.swapped {d : Dev} {t : Txn} {a fn : Nat} (h : PassesAt d t a) (hatomic : t.kind = .atomic fn) :
    Stored a t.size (amo fn (8 * t.size) (ofLe (d.readMem a t.size)) (t.data % 2 ^ (8 * t.size))) (ofLe (d.readMem a t.size)) d (d.access t) := by
  rw [Dev.access_of_inMemory h.mem, Dev.memTxn_of_atomic hatomic h.physical h.check]
  exact stored_storeMem _ _ h.out (Dev.coversUpper_of_memCheck h.check (by simp [hatomic]))

/-! ### The four ways to memory -/

theorem Dev.answer_of_out {d : Dev} {st : Status} {v : Nat} (h : d.out = [.answer st v]) : ({ d with out := [] } : Dev).answer st v = d := by
  cases d
  cases h
  rfl

/-- An initiator's transaction that is answered OK is its access. -/
theorem Dev.transact_of_ok {d : Dev} {t : Txn} {v : Nat} (hd : d.out = []) (hissue : Issues t)
    (hok : (d.access (d.attributed t)).out = [.answer .ok v]) : d.transact t = d.access (d.attributed t) := by
  have hfresh := Dev.fresh_of_out_nil hd
  have hissued := Dev.issued_of_out (d := d) (f := fun t d => d.access t) hissue (by rw [hfresh]; exact hok)
  rw [if_pos rfl, hfresh, hd] at hissued
  exact hissued.trans (Dev.answer_of_out hok)

@[simp] theorem Dev.addressed_kind (d : Dev) (t : Txn) : (d.addressed t).kind = t.kind := by
  unfold Dev.addressed; split <;> rfl

@[simp] theorem Dev.addressed_size (d : Dev) (t : Txn) : (d.addressed t).size = t.size := by
  unfold Dev.addressed; split <;> rfl

@[simp] theorem Dev.addressed_data (d : Dev) (t : Txn) : (d.addressed t).data = t.data := by
  unfold Dev.addressed; split <;> rfl

/-- A transaction that the device builds itself differs in its epoch only. -/
theorem PassesAt.addressed {d : Dev} {t : Txn} {a : Nat} (h : PassesAt d t a) : PassesAt d (d.addressed t) a := by
  unfold Dev.addressed
  split
  · exact ⟨h.out, h.mem, h.physical, h.check⟩
  · exact h

/-- Halted, a hart that debug may act on accesses memory for it (R341). -/
theorem accessMemoryOp_of_halted {d : Dev} {k : Nat} (addr size : Nat) (write : Option Nat) (hact : d.mayAct k = true)
    (hhalted : (d.hart k).halted = true) : accessMemoryOp k addr size write d = d.access (d.addressed (hartAccess d k addr size write)) := by
  simp only [accessMemoryOp, hact, hhalted, Bool.and_self, if_true]
  rfl

/-- The access of the debug module's bus master. -/
def busAccess (d : Dev) (addr size : Nat) (write : Option Nat) : Txn :=
  ⟨.debug, bit d.dbgActive 3, 0, false, 0, if write.isSome then .write else .read, addr, size, write.getD 0⟩

/-- The bus master accesses up to 8 bytes while the debug enable of the address's world is active (R408). -/
theorem systemBusAccessOp_of_enabled {d : Dev} {addr size : Nat} (write : Option Nat) (hsize : size ≤ 8)
    (henabled : bit d.dbgActive (if d.debugSecure addr then 3 else 1) = true) :
    systemBusAccessOp addr size write d = d.access (d.addressed (busAccess d addr size write)) := by
  simp only [systemBusAccessOp, Nat.not_lt.2 hsize, henabled, Bool.not_true, Bool.false_eq_true, or_self, if_false]
  rfl

theorem physical_busAccess {d : Dev} {addr : Nat} (size : Nat) (write : Option Nat) (h : region addr ≠ some .dramWindow) :
    d.physical (busAccess d addr size write) = some addr := by
  simp [Dev.physical, busAccess, h]

/-! ### The obligation -/

/-- What the last command put out does not bear on the next one's access. -/
theorem Loaded.of_fresh {d r : Dev} {a n : Nat} (h : Loaded a n d.fresh r) : Loaded a n d r :=
  ⟨by simpa using h.1, Only.of_fresh h.2⟩

theorem Stored.of_fresh {d r : Dev} {a n w v : Nat} (h : Stored a n w v d.fresh r) : Stored a n w v d r :=
  ⟨h.1, h.2.1, Only.of_fresh h.2.2⟩

theorem issues_of_not_atomic {t : Txn} (h : t.kind = .read ∨ t.kind = .write ∨ t.kind = .posted) : Issues t := by
  intro fn hatomic
  simp [hatomic] at h

/-- Settles O4: all four ways to memory are the access of a transaction that passes the checks. -/
theorem memoryTransactions : Obligations.MemoryTransactions := by
  unfold Obligations.MemoryTransactions
  intro s hlive
  refine ⟨?load, ?store, ?swap, ?hartLoad, ?hartStore, ?busLoad, ?busStore⟩
  case load =>
    intro t a hmem hread hphysical hcheck
    have hpasses : PassesAt s.dev.fresh (s.dev.fresh.attributed t) a := ⟨rfl, by simpa using hmem, hphysical, hcheck⟩
    have hloaded := hpasses.loaded (by simpa using hread)
    rw [gives_iff_of_onDev (f := fun d => d.transact t) rfl hlive, Dev.transact_of_ok rfl (issues_of_not_atomic (.inl hread)) hloaded.1]
    simpa using Loaded.of_fresh hloaded
  case store =>
    intro t a hmem hwrite hphysical hcheck
    have hpasses : PassesAt s.dev.fresh (s.dev.fresh.attributed t) a := ⟨rfl, by simpa using hmem, hphysical, hcheck⟩
    have hstored := hpasses.stored (by simpa using hwrite)
    rw [gives_iff_of_onDev (f := fun d => d.transact t) rfl hlive, Dev.transact_of_ok rfl (issues_of_not_atomic (.inr hwrite)) hstored.1]
    simpa using Stored.of_fresh hstored
  case swap =>
    intro t fn a hmem hatomic hissues hphysical hcheck
    have hpasses : PassesAt s.dev.fresh (s.dev.fresh.attributed t) a := ⟨rfl, by simpa using hmem, hphysical, hcheck⟩
    have hstored := hpasses.swapped (by simpa using hatomic)
    have hop : atomicTransactionOp t = fun d => d.transact t := by
      cases t
      cases hatomic
      rfl
    rw [gives_iff_of_onDev (f := atomicTransactionOp t) rfl hlive, hop]
    dsimp only
    rw [Dev.transact_of_ok rfl (fun _ _ => hissues) hstored.1]
    simpa using Stored.of_fresh hstored
  case hartLoad =>
    intro k addr size a hmem hact hhalted hphysical hcheck
    have hpasses : PassesAt s.dev.fresh (hartAccess s.dev.fresh k addr size none) a := ⟨rfl, hmem, hphysical, hcheck⟩
    rw [gives_iff_of_onDev rfl hlive, accessMemoryOp_of_halted (d := s.dev.fresh) addr size none hact hhalted]
    simpa [hartAccess] using Loaded.of_fresh (hpasses.addressed.loaded (by simp [hartAccess]))
  case hartStore =>
    intro k addr size v a hmem hact hhalted hphysical hcheck
    have hpasses : PassesAt s.dev.fresh (hartAccess s.dev.fresh k addr size (some v)) a := ⟨rfl, hmem, hphysical, hcheck⟩
    rw [gives_iff_of_onDev rfl hlive, accessMemoryOp_of_halted (d := s.dev.fresh) addr size (some v) hact hhalted]
    simpa [hartAccess] using Stored.of_fresh (hpasses.addressed.stored (by simp [hartAccess]))
  case busLoad =>
    intro addr size hmem hwindow hsize henabled hcheck
    have hpasses : PassesAt s.dev.fresh (busAccess s.dev.fresh addr size none) addr := ⟨rfl, hmem, physical_busAccess size none hwindow, hcheck⟩
    rw [gives_iff_of_onDev rfl hlive, systemBusAccessOp_of_enabled (d := s.dev.fresh) none hsize henabled]
    simpa [busAccess] using Loaded.of_fresh (hpasses.addressed.loaded (by simp [busAccess]))
  case busStore =>
    intro addr size v hmem hwindow hsize henabled hcheck
    have hpasses : PassesAt s.dev.fresh (busAccess s.dev.fresh addr size (some v)) addr :=
      ⟨rfl, hmem, physical_busAccess size (some v) hwindow, hcheck⟩
    rw [gives_iff_of_onDev rfl hlive, systemBusAccessOp_of_enabled (d := s.dev.fresh) (some v) hsize henabled]
    simpa [busAccess] using Stored.of_fresh (hpasses.addressed.stored (by simp [busAccess]))

end Sys2Proof

/-! SUPPORT. The core supply (R24, R26): what a pace sample stores and counts, where a trim step moves the rail, and how a pace fault comes and goes. -/

namespace Sys2Proof

open Sys2Proof.Machine

/-! ### Pace samples -/

theorem Dev.paceEvent_get {d : Dev} (code : Nat) {e : Entry} (h : e.key ∉ logKeys) : (d.paceEvent code).get e = d.get e := by
  unfold Dev.paceEvent
  exact (Dev.eventSys_get _ _ _ _ _ _ h).trans (Dev.draw_get d 32 e)

@[simp] theorem Dev.paceEvent_supply (d : Dev) (code : Nat) : (d.paceEvent code).supply = d.supply := by
  simp [Dev.paceEvent]

/-- The entries that a pace sample stores. -/
def Dev.paceStored (d : Dev) (code : Nat) : Dev :=
  (d.put Ent.Pace.PACE_CODE (min code 65535)).put Ent.Pace.PACE_TARGET (paceTarget (d.get Ent.Pace.PACE_MODE))

/-- The device after a short pace sample: PACE_SHORT is counted and reported. -/
def Dev.paceShort (d : Dev) : Dev :=
  (d.count (ctr Ent.Pace.PACE_SHORT_COUNT Ent.Pace.COUNTER_SAT 0 (srcPower 0))).paceEvent 0x0031

@[simp] theorem Dev.paceStored_supply (d : Dev) (code : Nat) : (Dev.paceStored d code).supply = d.supply := rfl

@[simp] theorem Dev.paceShort_supply (d : Dev) : (Dev.paceShort d).supply = d.supply := by
  simp [Dev.paceShort]

theorem Dev.paceShort_get {d : Dev} {e : Entry} (hcount : e.key ≠ Ent.Pace.PACE_SHORT_COUNT.key) (hsat : e.key ≠ Ent.Pace.COUNTER_SAT.key)
    (hlog : e.key ∉ logKeys) : (Dev.paceShort d).get e = d.get e :=
  (Dev.paceEvent_get 0x0031 hlog).trans (Dev.count_get_other _ _ _ _ _ _ hcount hsat hlog)

theorem Dev.paceStored_code (d : Dev) (code : Nat) : (Dev.paceStored d code).get Ent.Pace.PACE_CODE = min code 65535 := by
  rw [Dev.paceStored, Dev.get_put_other _ _ (by decide), Dev.get_put_same]
  exact Nat.mod_eq_of_lt (by simp [Ent.Pace.PACE_CODE])

theorem Dev.paceStored_target (d : Dev) (code : Nat) : (Dev.paceStored d code).get Ent.Pace.PACE_TARGET = paceTarget (d.get Ent.Pace.PACE_MODE) := by
  rw [Dev.paceStored, Dev.get_put_same]
  refine Nat.mod_eq_of_lt ?_
  unfold paceTarget
  split_ifs <;> decide

theorem Dev.paceStored_rail (d : Dev) (code : Nat) : (Dev.paceStored d code).get Ent.Pace.RAIL_MV = d.get Ent.Pace.RAIL_MV := by
  rw [Dev.paceStored, Dev.get_put_other _ _ (by decide), Dev.get_put_other _ _ (by decide)]

/-- What a pace sample leaves: the stored entries, perhaps a short pace counted and reported, and how long the code has been low or good. -/
theorem paceSampleOp_spec (code : Nat) (d : Dev) :
    ∃ e : Dev, (e = Dev.paceStored d code ∨ e = Dev.paceShort (Dev.paceStored d code)) ∧ ∃ episode : Bool, paceSampleOp code d = e.setSupply fun s =>
      { s with episode,
               low := if d.get Ent.Pace.PACE_MODE = 0 ∧ d.get Ent.Pace.RAIL_MV = 880 ∧ code < 4096 then s.low + 1 else 0,
               good := if 4096 ≤ code then s.good + 1 else 0 } := by
  unfold paceSampleOp
  extract_lets mode target stored top short reported
  refine ⟨reported, ?_, if target ≤ code then false else reported.supply.episode || short, ?_⟩
  · by_cases hshort : short && !stored.supply.episode
    · exact .inr (if_pos hshort)
    · exact .inl (if_neg hshort)
  · have htop : top = (d.get Ent.Pace.RAIL_MV == 880) := congrArg (· == 880) (Dev.paceStored_rail d code)
    simp [Dev.setSupply, htop, mode]

/-- A pace sample, as the rules say it. -/
theorem paceSampleOp_result (code : Nat) (d : Dev) :
    (paceSampleOp code d).get Ent.Pace.PACE_CODE = min code 65535 ∧
    (paceSampleOp code d).get Ent.Pace.PACE_TARGET = paceTarget (d.get Ent.Pace.PACE_MODE) ∧
    (paceSampleOp code d).supply.low =
      (if d.get Ent.Pace.PACE_MODE = 0 ∧ d.get Ent.Pace.RAIL_MV = 880 ∧ code < 4096 then d.supply.low + 1 else 0) ∧
    (paceSampleOp code d).supply.good = if 4096 ≤ code then d.supply.good + 1 else 0 := by
  obtain ⟨e, he, episode, hop⟩ := paceSampleOp_spec code d
  have hsupply : e.supply = d.supply := by
    rcases he with rfl | rfl
    · simp
    · simp
  have hget : ∀ x : Entry, x.key ≠ Ent.Pace.PACE_SHORT_COUNT.key → x.key ≠ Ent.Pace.COUNTER_SAT.key → x.key ∉ logKeys →
      (paceSampleOp code d).get x = (Dev.paceStored d code).get x := by
    intro x hcount hsat hlog
    rw [hop, Dev.get_setSupply]
    rcases he with rfl | rfl
    · rfl
    · exact Dev.paceShort_get hcount hsat hlog
  refine ⟨?_, ?_, ?_, ?_⟩
  · rw [hget _ (by decide) (by decide) (by decide), Dev.paceStored_code]
  · rw [hget _ (by decide) (by decide) (by decide), Dev.paceStored_target]
  · simp [hop, Dev.setSupply, hsupply]
  · simp [hop, Dev.setSupply, hsupply]

/-! ### Trim steps -/

/-- Where a step moves the rail (R24, R26): toward FIXED_MV while no target stands, else up below the target or down from it. -/
def Dev.trimNext (d : Dev) (up : Bool) : Nat :=
  let rail := d.get Ent.Pace.RAIL_MV
  if d.get Ent.Pace.PACE_TARGET = 0 then
    if rail < d.get Ent.Pace.FIXED_MV then rail + 5 else if d.get Ent.Pace.FIXED_MV < rail then rail - 5 else rail
  else if up then (if d.get Ent.Pace.PACE_CODE < d.get Ent.Pace.PACE_TARGET then rail + 5 else rail)
  else (if d.get Ent.Pace.PACE_TARGET ≤ d.get Ent.Pace.PACE_CODE then rail - 5 else rail)

theorem trimStepOp_eq (up : Bool) (d : Dev) :
    trimStepOp up d =
      if d.trimDue = false ∨ d.supply.frozen ∨ Dev.trimNext d up < 720 ∨ 880 < Dev.trimNext d up ∨ Dev.trimNext d up = d.get Ent.Pace.RAIL_MV then d
      else (d.put Ent.Pace.RAIL_MV (Dev.trimNext d up)).setSupply fun s => { s with stepAt := some d.time.raw } := rfl

/-- A step that is due, on a supply that is not frozen, moves the rail within 720 mV to 880 mV. -/
theorem trimStepOp_of_due {up : Bool} {d : Dev} {next : Nat} (hnext : Dev.trimNext d up = next) (hdue : d.trimDue = true)
    (hfrozen : d.supply.frozen = false) (hlo : 720 ≤ next) (hhi : next ≤ 880) (hmoves : next ≠ d.get Ent.Pace.RAIL_MV) :
    (trimStepOp up d).get Ent.Pace.RAIL_MV = next ∧ (trimStepOp up d).supply.stepAt = some d.time.raw := by
  have hop : ¬(d.trimDue = false ∨ d.supply.frozen ∨ next < 720 ∨ 880 < next ∨ next = d.get Ent.Pace.RAIL_MV) := by
    simp only [hdue, hfrozen, hmoves, Bool.true_eq_false, Bool.false_eq_true, false_or, or_false]
    omega
  have hfits : next % 2 ^ Ent.Pace.RAIL_MV.bits = next := Nat.mod_eq_of_lt (Nat.lt_of_le_of_lt hhi (by decide))
  rw [trimStepOp_eq, hnext, if_neg hop]
  simp [hfits]

/-! ### Pace faults -/

theorem Dev.faultRefresh_supply (d : Dev) : d.faultRefresh.supply = d.supply :=
  (Dev.faultRefresh_only d).keep .supply (by decide)

/-- Stepping down leaves the twin unit's lines as they are. -/
theorem Dev.stepDown_twin (d : Dev) (row : Nat) : (((d.setRole 5).engineSafe).twinEvent 0x0027 row).twin = d.twin :=
  ((Dev.twinEvent_only _ 0x0027 row).keep .twin (by decide)).trans
    (((Dev.engineSafe_only _ false).keep .twin (by decide)).trans ((Dev.setRole_only d 5).keep .twin (by decide)))

/-- While a pace fault stands, FAULT_N is low (Table 22.2). -/
theorem Dev.faultRefresh_low {d : Dev} (h : d.supply.fault = true) : d.faultRefresh.twin.low = true := by
  unfold Dev.faultRefresh
  split
  next hnone => simp [Dev.faultStands, h] at hnone
  next row _ =>
    split
    next hlow => exact hlow
    next =>
      extract_lets lowered
      split
      · rw [Dev.stepDown_twin]; rfl
      · rfl

/-! ### The obligation -/

/-- Settles O1, command by command: what the operation leaves, and its frame. -/
theorem supplyAndPaceCommands : Obligations.SupplyAndPaceCommands := by
  unfold Obligations.SupplyAndPaceCommands
  intro s hlive
  refine ⟨?sample, ?up, ?down, ?fixed, ?fault, ?faultEnd⟩
  case sample =>
    intro code
    rw [gives_iff_of_onDev (f := paceSampleOp code) rfl hlive]
    obtain ⟨hcode, htarget, hlow, hgood⟩ := paceSampleOp_result code s.dev.fresh
    exact ⟨hcode, htarget, hlow, hgood, Only.of_fresh (paceSampleOp_only code _)⟩
  case up =>
    intro hfrozen hdue htarget hcode hlo hhi
    rw [gives_iff_of_onDev (f := trimStepOp true) rfl hlive]
    have hnext : Dev.trimNext s.dev.fresh true = s.dev.get Ent.Pace.RAIL_MV + 5 := by simp [Dev.trimNext, htarget, hcode]
    obtain ⟨hrail, hat⟩ := trimStepOp_of_due hnext hdue hfrozen (by omega) (by omega) (by simp)
    exact ⟨hrail, hat, Only.of_fresh (trimStepOp_only true _)⟩
  case down =>
    intro hfrozen hdue htarget hcode hlo hhi
    rw [gives_iff_of_onDev (f := trimStepOp false) rfl hlive]
    have hnext : Dev.trimNext s.dev.fresh false = s.dev.get Ent.Pace.RAIL_MV - 5 := by simp [Dev.trimNext, htarget, hcode]
    obtain ⟨hrail, hat⟩ := trimStepOp_of_due hnext hdue hfrozen (by omega) (by omega) (by simp; omega)
    exact ⟨hrail, hat, Only.of_fresh (trimStepOp_only false _)⟩
  case fixed =>
    intro up hfrozen hdue htarget hbelow hlo hhi
    rw [gives_iff_of_onDev (f := trimStepOp up) rfl hlive]
    have hnext : Dev.trimNext s.dev.fresh up = s.dev.get Ent.Pace.RAIL_MV + 5 := by simp [Dev.trimNext, htarget, hbelow]
    obtain ⟨hrail, -⟩ := trimStepOp_of_due hnext hdue hfrozen (by omega) (by omega) (by simp)
    exact ⟨hrail, Only.of_fresh (trimStepOp_only up _)⟩
  case fault =>
    intro htarget hlow hnone
    rw [gives_iff_of_onDev (f := paceFaultOp) rfl hlive]
    have hop : paceFaultOp s.dev.fresh = ((s.dev.fresh.setSupply fun x => { x with fault := true }).paceEvent 0x0032).faultRefresh :=
      if_pos ⟨htarget, hlow, hnone⟩
    refine ⟨?_, ?_, Only.of_fresh (paceFaultOp_only _)⟩
    · rw [hop, Dev.faultRefresh_supply]
      simp
    · rw [hop]
      exact Dev.faultRefresh_low (by simp)
  case faultEnd =>
    intro hstands hgood
    rw [gives_iff_of_onDev (f := paceFaultEndOp) rfl hlive]
    have hop : paceFaultEndOp s.dev.fresh = (s.dev.fresh.setSupply fun x => { x with fault := false }).faultRefresh :=
      if_pos ⟨hstands, hgood⟩
    refine ⟨?_, Only.of_fresh (paceFaultEndOp_only _)⟩
    rw [hop, Dev.faultRefresh_supply]
    simp

end Sys2Proof

/-! SUPPORT. 64-bit counters by 32-bit words (R47, R48): what a low-word read latches, a high-word read empties, a low-word write stages, and what the
high-word write clears with the staged word. -/

namespace Sys2Proof

open Sys2Proof.Machine

/-! ### The accesses -/

theorem clearBits_lt (w x m : Nat) : clearBits w x m < 2 ^ w :=
  (BitVec.ofNat w x &&& ~~~BitVec.ofNat w m).isLt

theorem counterLowReadOp_low (i : Initiator) (idx sub : Nat) (d : Dev) :
    counterLowReadOp i idx sub false d =
      ({ d with ctrLatch := KV.insert (latchKey i idx) ⟨idx * 256 + sub, d.get ⟨idx, sub, 64, 0⟩ / 2 ^ 32⟩ d.ctrLatch } : Dev).answer .ok
        (d.get ⟨idx, sub, 64, 0⟩ % 2 ^ 32) := rfl

/-- A high-word read answers what the latch holds for the counter and empties it. -/
theorem counterLowReadOp_latched {i : Initiator} {idx sub high : Nat} {d : Dev}
    (h : KV.find (latchKey i idx) d.ctrLatch = some ⟨idx * 256 + sub, high⟩) :
    counterLowReadOp i idx sub true d = ({ d with ctrLatch := KV.erase (latchKey i idx) d.ctrLatch } : Dev).answer .ok high := by
  simp [counterLowReadOp, h]

/-- Clearing bits of a counter whose saturation field is another entry (R47). -/
theorem Dev.clearCounter_get {d : Dev} {idx sub : Nat} (v : Nat)
    (hsat : counterSat idx sub = none ∨ ∃ e b, counterSat idx sub = some (e, b) ∧ e.key ≠ idx * 256 + sub) :
    (d.clearCounter idx sub v).get ⟨idx, sub, 64, 0⟩ = clearBits 64 (d.get ⟨idx, sub, 64, 0⟩) v := by
  have hput : (d.put ⟨idx, sub, 64, 0⟩ (clearBits 64 (d.get ⟨idx, sub, 64, 0⟩) v)).get ⟨idx, sub, 64, 0⟩ =
      clearBits 64 (d.get ⟨idx, sub, 64, 0⟩) v :=
    (Dev.get_put_same _ _ _).trans (Nat.mod_eq_of_lt (clearBits_lt 64 _ _))
  rcases hsat with hnone | ⟨e, b, hsome, hkey⟩
  · simpa only [Dev.clearCounter, hnone] using hput
  · simp only [Dev.clearCounter, hsome]
    split
    · have hother : (⟨idx, sub, 64, 0⟩ : Entry).key ≠ e.key := hkey.symm
      rw [Dev.putBit, Dev.get_put_other _ _ hother, hput]
    · exact hput

theorem Dev.clearCounter_ctrStage (d : Dev) (idx sub v : Nat) : (d.clearCounter idx sub v).ctrStage = d.ctrStage :=
  (Dev.clearCounter_only d idx sub v).keep .ctrStage (by decide)

/-! ### The obligation -/

/-- Settles O2, access by access: the latch, the stage and the joint effect of a high-word write. -/
theorem counterWordAccess : Obligations.CounterWordAccess := by
  unfold Obligations.CounterWordAccess
  intro s hlive
  refine ⟨?lowRead, ?highRead, ?lowWrite, ?highWrite⟩
  case lowRead =>
    intro i idx sub
    rw [gives_iff_of_onDev (f := counterLowReadOp i idx sub false) rfl hlive]
    refine ⟨?_, ?_, Only.of_fresh (counterLowReadOp_only i idx sub false _)⟩
    · simp [counterLowReadOp_low]
    · simp [counterLowReadOp_low]
  case highRead =>
    intro i idx sub high hlatch
    rw [gives_iff_of_onDev (f := counterLowReadOp i idx sub true) rfl hlive]
    have hop := counterLowReadOp_latched (d := s.dev.fresh) hlatch
    refine ⟨?_, ?_, Only.of_fresh (counterLowReadOp_only i idx sub true _)⟩
    · simp [hop]
    · simp [hop]
  case lowWrite =>
    intro idx sub v
    rw [gives_iff_of_onDev (f := counterLowWriteOp idx sub v) rfl hlive]
    refine ⟨?_, ?_, Only.of_fresh (counterLowWriteOp_only idx sub v _)⟩
    · simp [counterLowWriteOp]
    · simp [counterLowWriteOp]
  case highWrite =>
    intro idx sub v hsat
    rw [gives_iff_of_onDev (f := counterHighWriteOp idx sub v) rfl hlive]
    refine ⟨Dev.clearCounter_get _ hsat, ?_, Only.of_fresh (counterHighWriteOp_only idx sub v _)⟩
    simp [counterHighWriteOp, Dev.clearCounter_ctrStage]

end Sys2Proof

/-! SUPPORT. Units that are disabled (R52): a port whose drain is cut off takes its link down, on a gallery port with it a migration (R390). The thaw of
its hall writes an entry that its number picks, so the clause on a write of 0 to ENABLE of `Obligations.UnitLifeCommands`, which does not ask that the
hall exists, fails. -/

namespace Sys2Proof

open Sys2Proof.Machine

/-! ### The counterexample -/

/-- The number at which the entry STATE of a hall, 0x2600 + hall : 01, is the entry ENABLE of port 52, 0x35B4:01. Halls are numbered 0 to 255. -/
def strayHall : Nat := (Ent.Port.ENABLE 52).idx - 0x2600

/-- A migration under way of that hall, which the partner has accepted. -/
def strayMigration : Migration := ⟨strayHall, true, 1, false, none, false, 0, 0, false, 0⟩

/-- A frame that a port is receiving. -/
def frameUnderWay : Rx := ⟨64, true, 0, 0, 0, [], false, false, [], none, 0⟩

/-- Gallery port 52 receives a frame with a drain timeout of 0, lane 0 alone is up, and that migration runs. -/
def receivingWhileMigrating : State :=
  ⟨[], (((Dev.reset.put (Ent.Port.DRAIN_MS 52) 0).setSw fun w => { w with rx := [(52, frameUnderWay)] }).setLane 0 fun l => { l with up := true }).setHalls
    fun x => { x with mig := some strayMigration }⟩

/-- The port is ENABLED and not leased. -/
theorem receivingWhileMigrating_enabled :
    receivingWhileMigrating.dev.unitLeased (.port 52) false = false ∧ receivingWhileMigrating.dev.unitState (.port 52) = 1 := by
  decide +kernel

/-- The drain is cut off at once, the gallery link is lost with the lane, the migration ends, and RUNNING (1) of the thawed hall is written. -/
theorem unitDisableOp_receivingWhileMigrating :
    (unitDisableOp (.port 52) false receivingWhileMigrating.dev.fresh).get (unitEnableEntry (.port 52)) = 1 := by
  decide +kernel

/-- Refutes O3, in its clause on a write of 0 to ENABLE: the state may hold a migration of a hall that does not exist (`Migration.hall` is any number),
whose thaw at the loss of the gallery link (R390) writes 1 to the ENABLE that was just cleared. -/
theorem not_unitLifeCommands : ¬ Obligations.UnitLifeCommands := by
  unfold Obligations.UnitLifeCommands
  intro hall
  obtain ⟨-, hdisable, -⟩ := hall receivingWhileMigrating rfl
  obtain ⟨hleased, hstate⟩ := receivingWhileMigrating_enabled
  obtain ⟨hcleared, -⟩ := (gives_iff_of_onDev (f := unitDisableOp (.port 52) false) rfl rfl).1 (hdisable (.port 52) false rfl hleased hstate)
  rw [unitDisableOp_receivingWhileMigrating] at hcleared
  exact absurd hcleared (by decide)

end Sys2Proof

/-! SUPPORT. What the paths to D0 do with a request (R70 to R75, R80, R81): a session opens and closes, its requests move on in order, a mailbox page
queues one, and a request for an address is answered. -/

namespace Sys2Proof

open Sys2Proof.Machine

/-! ### Frames that the device sends: nothing but the switch and its counters change (R92, R109) -/

theorem Dev.countDrop_out (d : Dev) (p c i : Nat) (w : Drop) : (d.countDrop p c i w).out = d.out := by
  cases w <;> simp [Dev.countDrop]

theorem Dev.sendTcm_out (d : Dev) (p : Nat) (f : Frame) : (d.sendTcm p f).out = d.out := by
  unfold Dev.sendTcm
  extract_lets n
  split
  · rfl
  · exact Dev.countDrop_out ..
  · rfl

theorem foldl_keeps_out {α : Type} {f : Dev → α → Dev} (hf : ∀ d x, (f d x).out = d.out) (l : List α) (d : Dev) :
    (l.foldl f d).out = d.out := by
  induction l generalizing d with
  | nil => rfl
  | cons x l ih => rw [List.foldl_cons, ih, hf]

theorem Dev.sendSwitched_out (d : Dev) (vid : Nat) (f : Frame) (n : Nat) : (d.sendSwitched vid f n).out = d.out := by
  unfold Dev.sendSwitched
  extract_lets v ports
  split
  · rfl
  · exact foldl_keeps_out (fun d q => Dev.sendTcm_out d q _) _ _

@[simp] theorem Dev.ndpSend_out (d : Dev) (session seq : Nat) (net : List Nat) (s : Status) (w : Bytes) :
    (d.ndpSend session seq net s w).out = d.out ++ [.dict .udp session seq net s w] :=
  Dev.sendSwitched_out ..

@[simp] theorem Dev.ndpSend_d0 (d : Dev) (session seq : Nat) (net : List Nat) (s : Status) (w : Bytes) :
    (d.ndpSend session seq net s w).d0 = d.d0 :=
  (Dev.ndpSend_only d session seq net s w).keep .d0 (by decide)

/-! ### A datagram that is for the device (R69 to R71) -/

theorem Dev.ndpIntake_of_addressed {d : Dev} {m : NdpMsg} (f : Dev → Dev) (hruns : d.d0.running = true) (href : d.flag Ent.Clk.REF_LOSS = false)
    (hfits : d.ndpFits m = true) (hversion : m.version = 1) (hnode : m.node = d.board.nodeId) : d.ndpIntake m f = f d := by
  simp [Dev.ndpIntake, hruns, href, hfits, hversion, hnode]

/-! ### OPEN (R72) -/

/-- A statistics counter of the protocol leaves the bindings' entries alone. -/
theorem Dev.count_ndp_get {d : Dev} {i : Nat} {e : Entry} (hi : i < 2) (he : 0x202000 ≤ e.key ∧ e.key < 0x203000) :
    (d.count (ndpCounter i)).get e = d.get e := by
  have hlog : e.key ∉ logKeys := by
    simp only [logKeys, Ent.Evlog.LAST_SEQ, Ent.Evlog.LOG_LOST, Entry.key, List.mem_cons, List.not_mem_nil, or_false] at he ⊢
    omega
  refine Dev.count_get _ _ _ _ _ ?_ ?_ hlog
  · simp only [ndpCounter, Entry.key] at he ⊢
    omega
  · simp only [ndpCounter, Ent.Ndp.COUNTER_SAT, Entry.key] at he ⊢
    omega

/-- An OPEN that passes the checks of its binding opens a session of it and answers it. -/
theorem ndpOpenOp_opens {d : Dev} {m : NdpMsg} {b : Nat} {k : Bytes} (hop : m.op = 1) (hfits : d.ndpFits m = true) (hversion : m.version = 1)
    (hnode : m.node = d.board.nodeId) (hruns : d.d0.running = true) (href : d.flag Ent.Clk.REF_LOSS = false) (hb : b = leAt m.payload 0 1)
    (hb16 : b < 16) (hlen : m.payload.length = 20) (henable : d.flag (Ent.Bind.ENABLE b) = true)
    (hkey : d.hmacKey (d.get (Ent.Bind.KEY_SLOT b)) = some k) (htag : (hmacSha256 k (m.header ++ m.payload)).take 16 = m.tag)
    (hroom : (d.d0.sessions.filter fun x => x.2.binding == b).length < d.get (Ent.Bind.MAX_SESSIONS b)) (hdevice : d.d0.sessions.length < 64) :
    ∃ id key w, KV.find id (ndpOpenOp m d).d0.sessions = some ⟨b, d.get (Ent.Bind.KEY_SLOT b), key, 0, [], [], d.time.raw, false⟩ ∧
      (ndpOpenOp m d).out = d.out ++ [.dict .udp id 0 m.net .ok w] := by
  have hslot : (((d.count (ndpCounter 0)).draw 128).2.draw 32).2.get (Ent.Bind.KEY_SLOT b) = d.get (Ent.Bind.KEY_SLOT b) :=
    Dev.count_ndp_get (by decide) (by simp only [Ent.Bind.KEY_SLOT, Entry.key]; omega)
  have hmax : (d.count (ndpCounter 0)).get (Ent.Bind.MAX_SESSIONS b) = d.get (Ent.Bind.MAX_SESSIONS b) :=
    Dev.count_ndp_get (by decide) (by simp only [Ent.Bind.MAX_SESSIONS, Entry.key]; omega)
  have htime : (((d.count (ndpCounter 0)).draw 128).2.draw 32).2.time = d.time := Dev.count_time ..
  have hfull : ¬(d.get (Ent.Bind.MAX_SESSIONS b) ≤ (d.d0.sessions.filter fun x => x.2.binding == b).length ∨ 64 ≤ d.d0.sessions.length) := by
    omega
  have hanswers : ∃ id key w, ndpOpenOp m d = ((((d.count (ndpCounter 0)).draw 128).2.draw 32).2.setD0 fun u =>
      { u with sessions := KV.insert id ⟨b, d.get (Ent.Bind.KEY_SLOT b), key, 0, [], [], d.time.raw, false⟩ u.sessions }).ndpSend id 0 m.net .ok w := by
    unfold ndpOpenOp
    rw [if_neg (by simp [hop]), Dev.ndpIntake_of_addressed _ hruns href hfits hversion hnode]
    simp only [← hb, hb16, hlen, henable, hkey, htag, hmax, hfull, hslot, htime, and_self, ite_true, ite_false, not_true_eq_false, ne_eq, Dev.count_d0]
    exact ⟨_, _, _, rfl⟩
  obtain ⟨id, key, w, hanswer⟩ := hanswers
  refine ⟨id, key, w, ?_, ?_⟩
  · rw [hanswer, Dev.ndpSend_d0]
    exact KV.find_insert_same ..
  · rw [hanswer, Dev.ndpSend_out]
    exact congrArg (· ++ _) (Dev.count_out ..)

/-! ### Room in a path's queue (R63) -/

/-- What a path's queue holds is D0's own state. -/
theorem Dev.pathCount_of_d0 {d e : Dev} {p : Path} (h : e.d0 = d.d0) : e.pathCount p = d.pathCount p := by
  simp only [Dev.pathCount, h]

/-! ### Requests of an open session (R73 to R75) -/

/-- A session that holds the request of `m`, which opened to `r`, until its turn comes. -/
def holding (x : Session) (m : NdpMsg) (r : SessReq) (now : Nat) : Session :=
  { x with early := KV.insert m.seq (r, m.net) x.early, idleSince := now }

/-- The device while session `x` holds that request. -/
def ndpHeld (d : Dev) (m : NdpMsg) (x : Session) (r : SessReq) : Dev :=
  (d.count (ndpCounter 0)).setD0 fun u => { u with sessions := KV.insert m.session (holding x m r d.time.raw) u.sessions }

/-- The requests that may be sent ahead are the 8 that follow the last one executed (R75). -/
theorem seqAfter_in_window {n last : Nat} (h : n < 8) : ((List.range 8).all fun k => seqAfter (k + 1) last != seqAfter (n + 1) last) = false := by
  rw [List.all_eq_false]
  exact ⟨n, List.mem_range.2 h, by simp⟩

/-- The next request of a session joins those held, and all whose turn has come move on. -/
theorem Dev.ndpTake_of_next {d : Dev} {m : NdpMsg} {x : Session} {p : Bytes} (f : Bytes → SessReq) (hnext : NextInSession d m x p)
    (hroom : d.pathCount .udp < 16) : d.ndpTake m f = (ndpHeld d m x (f p)).ndpAdvance m.session 9 := by
  obtain ⟨hruns, href, hfits, hversion, hnode, hfind, hopen, hpayload, hcache, hqueued, hseq, hearly, hnew⟩ := hnext
  have hpath : ¬ 16 ≤ (d.count (ndpCounter 0)).pathCount .udp := by
    rw [Dev.pathCount_of_d0 (Dev.count_d0 ..)]
    omega
  have hwindow := seqAfter_in_window (last := x.last) hqueued
  rw [← hseq] at hwindow
  unfold Dev.ndpTake
  rw [Dev.ndpIntake_of_addressed _ hruns href hfits hversion hnode]
  simp [hfind, hopen, hpayload, hcache, hwindow, hearly, hnew, hpath, ndpHeld, holding]

/-! ### A session's requests move on (R75) -/

/-- A held request of session `id` leaves its place. -/
def ndpTaken (d : Dev) (id : Nat) (s : Session) (seq : Nat) : Dev :=
  d.setD0 fun u => { u with sessions := KV.insert id { s with early := KV.erase seq s.early } u.sessions }

section
variable {d : Dev} {id seq : Nat} {s : Session} {net : List Nat} (n : Nat) (hs : KV.find id d.d0.sessions = some s)
  (hseq : seqAfter (d.ndpQueued id + 1) s.last = seq)
include hs hseq

/-- The turn of a dictionary request: it goes into D0's queue. -/
theorem Dev.ndpAdvance_dict {q : DictReq} (hr : KV.find seq s.early = some (.dict q, net)) :
    d.ndpAdvance id (n + 1) = ((ndpTaken d id s seq).submit ⟨q, ⟨.udp, id, seq, net⟩, false⟩).ndpAdvance id n := by
  simp [Dev.ndpAdvance, hs, hseq, hr, ndpTaken]

/-- The turn of a request that D0 does not execute: it is answered when nothing is queued before it. -/
theorem Dev.ndpAdvance_reply {op : Nat} {st : Status} (hr : KV.find seq s.early = some (.reply op st, net)) :
    d.ndpAdvance id (n + 1) = if d.ndpQueued id ≠ 0 then d
      else (((ndpTaken d id s seq).ndpExecuted id seq).ndpRespond ⟨.udp, id, seq, net⟩ op st []).ndpAdvance id n := by
  simp [Dev.ndpAdvance, hs, hseq, hr, ndpTaken]

/-- The turn of a CLOSE: it is answered and the session closes when nothing is queued before it. -/
theorem Dev.ndpAdvance_close (hr : KV.find seq s.early = some (.close, net)) :
    d.ndpAdvance id (n + 1) = if d.ndpQueued id ≠ 0 then d
      else (((ndpTaken d id s seq).ndpExecuted id seq).ndpRespond ⟨.udp, id, seq, net⟩ 2 .ok []).closeSession id := by
  simp [Dev.ndpAdvance, hs, hseq, hr, ndpTaken]

end

/-- One step of the requests of a session: nothing moves, or the next held request does. -/
theorem Dev.ndpAdvance_step (d : Dev) (id n : Nat) :
    d.ndpAdvance id (n + 1) = d ∨
    (∃ (d' : Dev) (q : QReq), d'.out = d.out ∧ d'.d0.queue = d.d0.queue ++ [q] ∧ d.ndpAdvance id (n + 1) = d'.ndpAdvance id n) ∨
    (d.ndpQueued id = 0 ∧ ∃ (d' : Dev) (o : Origin) (op : Nat) (st : Status), d'.out = d.out ∧
      d.ndpAdvance id (n + 1) = (d'.ndpRespond o op st []).ndpAdvance id n) ∨
    (d.ndpQueued id = 0 ∧ ∃ (d' : Dev) (o : Origin), d'.out = d.out ∧ d.ndpAdvance id (n + 1) = (d'.ndpRespond o 2 .ok []).closeSession id) := by
  cases hs : KV.find id d.d0.sessions with
  | none => exact .inl (by simp [Dev.ndpAdvance, hs])
  | some s =>
    cases hr : KV.find (seqAfter (d.ndpQueued id + 1) s.last) s.early with
    | none => exact .inl (by simp [Dev.ndpAdvance, hs, hr])
    | some e =>
      obtain ⟨r, net⟩ := e
      cases r with
      | dict q =>
        refine .inr (.inl ⟨_, ⟨q, ⟨.udp, id, seqAfter (d.ndpQueued id + 1) s.last, net⟩, false⟩, ?_, ?_, Dev.ndpAdvance_dict n hs rfl hr⟩)
        · rfl
        · rfl
      | reply op st =>
        by_cases hq : d.ndpQueued id = 0
        · refine .inr (.inr (.inl ⟨hq, _, _, _, _, ?_, (Dev.ndpAdvance_reply n hs rfl hr).trans (if_neg (not_not_intro hq))⟩))
          rfl
        · exact .inl ((Dev.ndpAdvance_reply n hs rfl hr).trans (if_pos hq))
      | close =>
        by_cases hq : d.ndpQueued id = 0
        · refine .inr (.inr (.inr ⟨hq, _, _, ?_, (Dev.ndpAdvance_close n hs rfl hr).trans (if_neg (not_not_intro hq))⟩))
          rfl
        · exact .inl ((Dev.ndpAdvance_close n hs rfl hr).trans (if_pos hq))

/-- What has been put out stays put out when a session answers. -/
theorem Dev.mem_ndpRespond_out {d : Dev} {x : Out} (o : Origin) (op : Nat) (st : Status) (b : Bytes) (hx : x ∈ d.out) :
    x ∈ (d.ndpRespond o op st b).out := by
  unfold Dev.ndpRespond
  split
  · exact hx
  · simp [hx]

theorem Dev.closeSession_out (d : Dev) (id : Nat) : (d.closeSession id).out = d.out := by
  unfold Dev.closeSession
  split <;> rfl

theorem Dev.mem_ndpAdvance_out {x : Out} (id n : Nat) {d : Dev} (hx : x ∈ d.out) : x ∈ (d.ndpAdvance id n).out := by
  induction n generalizing d with
  | zero => exact hx
  | succ n ih =>
    obtain h | ⟨d', q, hout, -, h⟩ | ⟨-, d', o, op, st, hout, h⟩ | ⟨-, d', o, hout, h⟩ := Dev.ndpAdvance_step d id n
    · rwa [h]
    · rw [h]
      exact ih (hout ▸ hx)
    · rw [h]
      exact ih (Dev.mem_ndpRespond_out o op st [] (hout ▸ hx))
    · rw [h, Dev.closeSession_out]
      exact Dev.mem_ndpRespond_out o 2 .ok [] (hout ▸ hx)

/-- A request of the session in D0's queue, not executed yet, stays there. -/
theorem Dev.mem_ndpAdvance_queue {q : QReq} {id : Nat} (hpath : q.origin.path = .udp) (hsession : q.origin.session = id) (hwaits : q.waits = false)
    (n : Nat) {d : Dev} (hq : q ∈ d.d0.queue) : q ∈ (d.ndpAdvance id n).d0.queue := by
  induction n generalizing d with
  | zero => exact hq
  | succ n ih =>
    have hwaiting : d.ndpQueued id ≠ 0 :=
      (List.length_pos_of_mem (List.mem_filter.2 ⟨hq, by simp [hpath, hsession, hwaits]⟩)).ne'
    obtain h | ⟨d', q', -, hqueue, h⟩ | ⟨hnone, -⟩ | ⟨hnone, -⟩ := Dev.ndpAdvance_step d id n
    · rwa [h]
    · rw [h]
      exact ih (hqueue ▸ List.mem_append_left _ hq)
    · exact absurd hnone hwaiting
    · exact absurd hnone hwaiting

/-! ### The requests of a session, each on its turn -/

theorem ndpHeld_find (d : Dev) (m : NdpMsg) (x : Session) (r : SessReq) : KV.find m.session (ndpHeld d m x r).d0.sessions =
    some (holding x m r d.time.raw) :=
  KV.find_insert_same ..

theorem ndpHeld_queue (d : Dev) (m : NdpMsg) (x : Session) (r : SessReq) : (ndpHeld d m x r).d0.queue = d.d0.queue := by
  rw [ndpHeld, Dev.setD0_d0, Dev.count_d0]

theorem ndpHeld_queued (d : Dev) (m : NdpMsg) (x : Session) (r : SessReq) (id : Nat) : (ndpHeld d m x r).ndpQueued id = d.ndpQueued id := by
  rw [Dev.ndpQueued, ndpHeld_queue, Dev.ndpQueued]

/-- A session that answers a request puts the answer out. -/
theorem Dev.ndpRespond_out {d : Dev} {o : Origin} {s : Session} (op : Nat) (st : Status) (b : Bytes) (hs : KV.find o.session d.d0.sessions = some s) :
    ∃ w, (d.ndpRespond o op st b).out = d.out ++ [.dict .udp o.session o.seq o.net st w] := by
  simp [Dev.ndpRespond, hs]

/-- Answering a request leaves D0's queue alone. -/
theorem Dev.ndpRespond_queue (d : Dev) (o : Origin) (op : Nat) (st : Status) (b : Bytes) : (d.ndpRespond o op st b).d0.queue = d.d0.queue := by
  unfold Dev.ndpRespond
  split
  · rfl
  · simp

theorem KV.find_mapVal {α : Type} (f : Nat → α → α) (k : Nat) (l : KV α) : KV.find k (KV.mapVal f l) = (KV.find k l).map (f k) := by
  induction l with
  | nil => rfl
  | cons e l ih =>
    obtain ⟨j, v⟩ := e
    by_cases h : j = k
    · simp [KV.mapVal, KV.find, h]
    · simp [KV.mapVal, KV.find, h, ih]

/-- The session whose request is executed stays open. -/
theorem ndpTaken_executed_find (d : Dev) (id : Nat) (s : Session) (seq : Nat) :
    ∃ s', KV.find id ((ndpTaken d id s seq).ndpExecuted id seq).d0.sessions = some s' := by
  simp [Dev.ndpExecuted, ndpTaken, KV.find_mapVal]

/-- A session with no request in D0's queue is gone once it closes (R74). -/
theorem Dev.closeSession_find {d : Dev} {id : Nat} (h : (d.d0.queue.any fun q => q.origin.path == .udp && q.origin.session == id) = false) :
    KV.find id (d.closeSession id).d0.sessions = none := by
  unfold Dev.closeSession
  cases hs : KV.find id d.d0.sessions with
  | none => exact hs
  | some s =>
    have hleft : ((d.d0.queue.filter fun q => q.waits || !(q.origin.path == .udp && q.origin.session == id)).any
        fun q => q.origin.path == .udp && q.origin.session == id) = false := by
      rw [List.any_eq_false] at h ⊢
      exact fun q hq => h q (List.mem_filter.1 hq).1
    exact (congrArg (KV.find id) (if_neg (ne_true_of_eq_false hleft))).trans (KV.find_erase_same ..)

theorem holding_find (x : Session) (m : NdpMsg) (r : SessReq) (now : Nat) : KV.find m.seq (holding x m r now).early = some (r, m.net) :=
  KV.find_insert_same ..

/-- The request that is held is the one whose turn it is. -/
theorem ndpHeld_turn {d : Dev} {m : NdpMsg} {x : Session} {p : Bytes} (hnext : NextInSession d m x p) (r : SessReq) :
    seqAfter ((ndpHeld d m x r).ndpQueued m.session + 1) (holding x m r d.time.raw).last = m.seq := by
  obtain ⟨-, -, -, -, -, -, -, -, -, -, hturn, -, -⟩ := hnext
  rw [ndpHeld_queued, hturn]
  rfl

section
variable {d : Dev} {m : NdpMsg} {x : Session} {p : Bytes} {f : Bytes → SessReq} (hnext : NextInSession d m x p) (hroom : d.pathCount .udp < 16)
include hnext hroom

/-- The next request of a session, for the dictionary, is queued for D0. -/
theorem Dev.ndpTake_queues {q : DictReq} (hf : f p = .dict q) : ⟨q, ⟨.udp, m.session, m.seq, m.net⟩, false⟩ ∈ (d.ndpTake m f).d0.queue := by
  rw [Dev.ndpTake_of_next f hnext hroom, hf, Dev.ndpAdvance_dict 8 (ndpHeld_find ..) (ndpHeld_turn hnext _) (holding_find ..)]
  exact Dev.mem_ndpAdvance_queue rfl rfl rfl 8 (by simp)

/-- The next request of a session, when it is not for the dictionary and nothing of the session is queued before it, is answered. -/
theorem Dev.ndpTake_answers {op : Nat} {st : Status} (hf : f p = .reply op st) (hnone : d.ndpQueued m.session = 0) :
    ∃ w, Out.dict .udp m.session m.seq m.net st w ∈ (d.ndpTake m f).out := by
  have hwaiting : ¬(ndpHeld d m x (.reply op st)).ndpQueued m.session ≠ 0 := by simp [ndpHeld_queued, hnone]
  rw [Dev.ndpTake_of_next f hnext hroom, hf, Dev.ndpAdvance_reply 8 (ndpHeld_find ..) (ndpHeld_turn hnext _) (holding_find ..),
    if_neg hwaiting]
  obtain ⟨s', hs'⟩ := ndpTaken_executed_find (ndpHeld d m x (.reply op st)) m.session (holding x m (.reply op st) d.time.raw) m.seq
  obtain ⟨w, hw⟩ := Dev.ndpRespond_out (o := ⟨.udp, m.session, m.seq, m.net⟩) op st [] hs'
  exact ⟨w, Dev.mem_ndpAdvance_out _ _ (by simp [hw])⟩

/-- A CLOSE whose session has no request in D0's queue is answered, and the session is gone. -/
theorem Dev.ndpTake_closes (hf : f p = .close) (hnone : (d.d0.queue.any fun q => q.origin.path == .udp && q.origin.session == m.session) = false) :
    KV.find m.session (d.ndpTake m f).d0.sessions = none ∧ ∃ w, Out.dict .udp m.session m.seq m.net .ok w ∈ (d.ndpTake m f).out := by
  have hwaiting : ¬(ndpHeld d m x .close).ndpQueued m.session ≠ 0 := by
    rw [ndpHeld_queued, Dev.ndpQueued, not_not, List.length_eq_zero_iff, List.filter_eq_nil_iff]
    rw [List.any_eq_false] at hnone
    exact fun q hq hmine => hnone q hq (Bool.and_eq_true _ _ ▸ hmine).1
  rw [Dev.ndpTake_of_next f hnext hroom, hf, Dev.ndpAdvance_close 8 (ndpHeld_find ..) (ndpHeld_turn hnext _) (holding_find ..),
    if_neg hwaiting]
  obtain ⟨s', hs'⟩ := ndpTaken_executed_find (ndpHeld d m x .close) m.session (holding x m .close d.time.raw) m.seq
  obtain ⟨w, hw⟩ := Dev.ndpRespond_out (o := ⟨.udp, m.session, m.seq, m.net⟩) 2 .ok [] hs'
  refine ⟨Dev.closeSession_find ?_, w, ?_⟩
  · rw [Dev.ndpRespond_queue]
    exact (congrArg (List.any · _) (ndpHeld_queue d m x .close)).trans hnone
  · rw [Dev.closeSession_out, hw]
    exact List.mem_append_right _ (List.mem_singleton_self _)

end

/-! ### A session is idle (R74) -/

theorem sessionIdleTimeoutOp_closes {d : Dev} {id : Nat} (hidle : d.sessionIdle id = true) :
    KV.find id (sessionIdleTimeoutOp id d).d0.sessions = none := by
  rw [sessionIdleTimeoutOp, if_pos hidle]
  simp only [Dev.sessionIdle, Bool.and_eq_true, Bool.not_eq_true'] at hidle
  exact Dev.closeSession_find hidle.1

/-! ### Mailbox pages (R80, R81) -/

/-- GO in a page at `a` that is not BUSY, with OP READ or WRITE, and room in the page's queue: BUSY is set and the request submitted. -/
theorem mbGoOp_eq {d : Dev} {p : Path} {v a : Nat} (hpage : mbBase p = some a) (hgo : bit v 31 = true) (hidle : d.fld ⟨a + 0x18, 30, 30, 0⟩ = 0)
    (hop : bits (d.word a 0) 31 24 = 3 ∨ bits (d.word a 0) 31 24 = 4) (hroom : d.pathCount p < 16) : ∃ (w : Nat) (q : DictReq),
      mbGoOp p v d = ((d.setFld ⟨a + 4, 31, 0, 0⟩ w).setFld ⟨a + 0x18, 30, 30, 0⟩ 1).submit ⟨q, ⟨p, 0, 0, []⟩, false⟩ ∧
        q.write = (bits (d.word a 0) 31 24 == 4) ∧ q.index = bits (d.word a 0) 15 0 ∧ q.sub = bits (d.word a 0) 23 16 := by
  have hbusy : ∀ w, (d.setFld ⟨a + 4, 31, 0, 0⟩ w).isSet ⟨a + 0x18, 30, 30, 0⟩ = false := by
    intro w
    have hkept := Dev.fld_setFld_other d (f := ⟨a + 4, 31, 0, 0⟩) (g := ⟨a + 0x18, 30, 30, 0⟩) w (by simp)
    simp [Dev.isSet, hkept, hidle]
  have hfull : ∀ w, ¬ 16 ≤ (d.setFld ⟨a + 4, 31, 0, 0⟩ w).pathCount p := by
    intro w
    rw [Dev.pathCount_of_d0 (Dev.setFld_d0 d _ w)]
    omega
  unfold mbGoOp
  rw [hpage]
  dsimp only
  rw [if_neg (by simp [hgo]), if_neg (by simp [hbusy]), if_neg (by rw [Nat.add_zero]; omega), if_neg (hfull _)]
  exact ⟨_, _, rfl, rfl, rfl, rfl⟩

theorem mbGoOp_queues {d : Dev} {p : Path} {v a : Nat} (hpage : mbBase p = some a) (hgo : bit v 31 = true) (hidle : d.fld ⟨a + 0x18, 30, 30, 0⟩ = 0)
    (hop : bits (d.word a 0) 31 24 = 3 ∨ bits (d.word a 0) 31 24 = 4) (hroom : d.pathCount p < 16) :
    (mbGoOp p v d).fld ⟨a + 0x18, 30, 30, 0⟩ = 1 ∧
      ∃ q : DictReq, (mbGoOp p v d).d0.queue = d.d0.queue ++ [⟨q, ⟨p, 0, 0, []⟩, false⟩] ∧ q.write = (bits (d.word a 0) 31 24 == 4) ∧
        q.index = bits (d.word a 0) 15 0 ∧ q.sub = bits (d.word a 0) 23 16 := by
  obtain ⟨w, q, hgives, hq⟩ := mbGoOp_eq hpage hgo hidle hop hroom
  rw [hgives]
  refine ⟨?_, q, ?_, hq⟩
  · rw [Dev.fld_submit]
    exact Dev.fld_setFld_same _ (f := ⟨a + 0x18, 30, 30, 0⟩) 1 (by simp) (by simp)
  · rw [Dev.submit_queue, Dev.setFld_d0, Dev.setFld_d0]

/-! ### Addresses (R70) -/

theorem arpRequestOp_answers {d : Dev} {v6 : Bool} {target : Nat} (mac vlan ip : Nat) (hruns : d.d0.running = true)
    (href : d.flag Ent.Clk.REF_LOSS = false) (hset : target ≠ 0) (hown : target = d.ndpAddr v6) :
    (arpRequestOp v6 target mac vlan ip d).out = d.out ++ [.send (if v6 then "NA" else "ARP") vlan mac
      (be 6 d.board.deviceMac ++ (if v6 then be 16 target ++ be 16 ip else be 4 target ++ be 4 ip))] := by
  rw [arpRequestOp, if_pos (by simp [hruns, href, hset, ← hown]), Dev.sendSwitched_out]
  rfl

/-! ### The obligation -/

/-- Settles O6, path by path: what the request finds when it arrives, and what the operation then leaves. -/
theorem networkDictionaryPath : Obligations.NetworkDictionaryPath := by
  unfold Obligations.NetworkDictionaryPath
  intro s hlive
  refine ⟨?opens, ?read, ?write, ?nop, ?close, ?idle, ?mailbox, ?address⟩
  case opens =>
    intro m b k hop hfits hversion hnode hruns href hb hb16 hlen henable hkey htag hroom hdevice
    rw [gives_iff_of_onDev (f := ndpOpenOp m) rfl hlive]
    exact ⟨ndpOpenOp_opens (d := s.dev.fresh) hop hfits hversion hnode hruns href hb hb16 hlen henable hkey htag hroom hdevice,
      Only.of_fresh (ndpOpenOp_only m _)⟩
  case read =>
    intro m x p q hop hnext hrequest hroom
    rw [gives_iff_of_onDev (f := ndpReadOp m) rfl hlive]
    refine ⟨?_, Only.of_fresh (ndpReadOp_only m _)⟩
    rw [ndpReadOp, if_pos hop]
    exact Dev.ndpTake_queues (d := s.dev.fresh) hnext hroom hrequest
  case write =>
    intro m x p q hop hnext hrequest hroom
    rw [gives_iff_of_onDev (f := ndpWriteOp m) rfl hlive]
    refine ⟨?_, Only.of_fresh (ndpWriteOp_only m _)⟩
    rw [ndpWriteOp, if_pos hop]
    exact Dev.ndpTake_queues (d := s.dev.fresh) hnext hroom hrequest
  case nop =>
    intro m x p hop hnext hnone hroom
    rw [gives_iff_of_onDev (f := ndpNopOp m) rfl hlive]
    refine ⟨?_, Only.of_fresh (ndpNopOp_only m _)⟩
    rw [ndpNopOp, if_neg (by omega), if_pos hop]
    exact Dev.ndpTake_answers (d := s.dev.fresh) hnext hroom rfl hnone
  case close =>
    intro m x p hop hnext hnone hroom
    rw [gives_iff_of_onDev (f := ndpCloseOp m) rfl hlive, ndpCloseOp, if_pos hop]
    obtain ⟨hgone, hanswer⟩ := Dev.ndpTake_closes (d := s.dev.fresh) (f := fun _ => .close) hnext hroom rfl hnone
    refine ⟨hgone, hanswer, ?_⟩
    have honly := ndpCloseOp_only m s.dev.fresh
    rw [ndpCloseOp, if_pos hop] at honly
    exact Only.of_fresh honly
  case idle =>
    intro id hidle
    rw [gives_iff_of_onDev (f := sessionIdleTimeoutOp id) rfl hlive]
    exact ⟨sessionIdleTimeoutOp_closes (d := s.dev.fresh) hidle, Only.of_fresh (sessionIdleTimeoutOp_only id _)⟩
  case mailbox =>
    intro p v a hpage hgo hidle hop hroom
    rw [gives_iff_of_onDev (f := mbGoOp p v) rfl hlive]
    obtain ⟨hbusy, hqueued⟩ := mbGoOp_queues (d := s.dev.fresh) hpage hgo hidle hop hroom
    exact ⟨hbusy, hqueued, Only.of_fresh (mbGoOp_only p v _)⟩
  case address =>
    intro v6 target mac vlan ip hruns href hset hown
    rw [gives_iff_of_onDev (f := arpRequestOp v6 target mac vlan ip) rfl hlive]
    exact ⟨arpRequestOp_answers (d := s.dev.fresh) mac vlan ip hruns href hset hown, Only.of_fresh (arpRequestOp_only v6 target mac vlan ip _)⟩

end Sys2Proof

/-! SUPPORT. The service port (R79, R453, R454) and the gallery (R497): a valid frame that has not been answered before is queued for D0, or answered by the
vestibule while D0's interior is off. -/

namespace Sys2Proof

open Sys2Proof.Machine

/-! ### Commands that act while the device sleeps too (R438) -/

/-- A command of the vestibule gives what holds of its operation's device, in a device with supply. -/
theorem gives_iff_of_onVaux {c : Instr} {s : State} {f : Dev → Dev} {P : Dev → Prop} (hc : exec c s = onVaux s f) (hsupply : s.dev.power.phase ≠ .off) :
    Gives c s P ↔ P (f s.dev.fresh) := by
  rw [onVaux_on f hsupply] at hc
  constructor
  · rintro ⟨t, hexec, -, hp⟩
    rw [hc] at hexec
    cases hexec
    exact hp
  · exact fun hp => ⟨_, hc, rfl, hp⟩

/-! ### No entry shows the service port's own state -/

theorem Dev.liveEntry_setSp (d : Dev) (f : ServicePort → ServicePort) (i s : Nat) : (d.setSp f).liveEntry i s = d.liveEntry i s := by
  unfold Dev.liveEntry
  extract_lets
  repeat' refine ite_congr rfl (fun _ => rfl) fun _ => ?_
  rfl

theorem Dev.value_setSp (d : Dev) (f : ServicePort → ServicePort) (e : Entry) : (d.setSp f).value e = d.value e := by
  rw [Dev.value, Dev.liveEntry_setSp, Dev.get_setSp, Dev.value]

theorem Dev.liveOct_setSp (d : Dev) (f : ServicePort → ServicePort) (i s : Nat) : (d.setSp f).liveOct i s = d.liveOct i s := rfl

theorem Dev.entryBytes_setSp (d : Dev) (f : ServicePort → ServicePort) (r : DictRow) (i s : Nat) :
    (d.setSp f).entryBytes r i s = d.entryBytes r i s := by
  simp only [Dev.entryBytes, Dev.value_setSp, Dev.liveOct_setSp, Dev.oct_setSp]

theorem Dev.checkEntry_setSp (d : Dev) (f : ServicePort → ServicePort) (a : Asker) (q : DictReq) : (d.setSp f).checkEntry a q = d.checkEntry a q := rfl

/-! ### Who serves the port (R454) -/

theorem Dev.vestibuleServes_of_running {d : Dev} (hphase : d.power.phase = .running) (hentry : d.entering = false) : d.vestibuleServes = false := by
  simp [Dev.vestibuleServes, Dev.awake, hphase, hentry]

theorem Dev.vestibuleServes_of_asleep {d : Dev} {t : Nat} (hphase : d.power.phase = .asleep t) : d.vestibuleServes = true := by
  simp [Dev.vestibuleServes, Dev.awake, hphase]

/-- The port once it has taken a frame: it is not free, and the request is in execution (R453). -/
def spTaken (d : Dev) : Dev := d.setSp fun p => { p with rxFree := false, frameErr := false, busy := true }

/-- The port is free for the frame `b` of `len` bytes, whose length and CRC are right, and which asks for `q` under a number `seq` that has not been
answered (R79, R453). -/
structure SpRequest (d : Dev) (len op seq : Nat) (b : Bytes) (q : DictReq) : Prop where
  free : d.power.sp.rxFree = true
  least : 24 ≤ len
  most : len ≤ 1064
  whole : b.length = len
  crc : leAt b (len - 4) 4 = crc32 (b.take (len - 4))
  version : leAt b 0 1 = 1
  request : frameRequest (b.take (len - 4)) = (op, seq, .dict q)
  fresh : d.d0.spCache = none

section
variable {d : Dev} {len op seq : Nat} {b : Bytes} {q : DictReq} (env : WakeEnv) (hframe : SpRequest d len op seq b q)
include hframe

/-- The request of such a frame goes to whoever serves the port. -/
theorem spWriteFrameOp_of_request (hphase : d.power.phase = .running ∨ ∃ t, d.power.phase = .asleep t) :
    spWriteFrameOp len b env d =
      if (spTaken d).vestibuleServes then (spTaken d).vestibuleServe op seq q env
      else if 16 ≤ (spTaken d).pathCount .servicePort then (spTaken d).spReply op seq .busy [] false
      else (spTaken d).submit ⟨q, ⟨.servicePort, 0, seq, []⟩, false⟩ := by
  obtain ⟨hfree, hleast, hmost, hwhole, hcrc, hversion, hrequest, hfresh⟩ := hframe
  have hfits : (!d.power.sp.rxFree || decide (len < 24) || decide (1064 < len) || b.length != len) = false := by
    simp [hfree, hleast, hmost, hwhole]
  obtain hphase | ⟨t, hphase⟩ := hphase
  · simp only [spWriteFrameOp, hphase, hfits, hrequest, hcrc, hversion, hfresh, Dev.setSp_d0, Option.filter_none, Bool.false_eq_true, ne_eq,
      not_true_eq_false, ite_false]
    rfl
  · simp only [spWriteFrameOp, hphase, hfits, hrequest, hcrc, hversion, hfresh, Dev.setSp_d0, Option.filter_none, Bool.false_eq_true, ne_eq,
      not_true_eq_false, ite_false]
    rfl

/-- In a running device with no sleep entry it is queued for D0. -/
theorem spWriteFrameOp_queues (hphase : d.power.phase = .running) (hentry : d.entering = false) (hroom : d.pathCount .servicePort < 16) :
    spWriteFrameOp len b env d = (spTaken d).submit ⟨q, ⟨.servicePort, 0, seq, []⟩, false⟩ := by
  have hserves : (spTaken d).vestibuleServes = false := Dev.vestibuleServes_of_running hphase hentry
  have hfull : ¬ 16 ≤ (spTaken d).pathCount .servicePort := Nat.not_le.2 hroom
  rw [spWriteFrameOp_of_request env hframe (.inl hphase), hserves, if_neg Bool.false_ne_true, if_neg hfull]

/-- In a device that sleeps the vestibule answers a read of an entry that it serves. -/
theorem spWriteFrameOp_vestibule {t : Nat} {r : DictRow} (hphase : d.power.phase = .asleep t) (hread : q.write = false)
    (hserved : (rowOf q.index q.sub).any (fun r => r.notes.contains .vestibule) = true)
    (hrow : d.checkEntry ⟨0, false, (Path.servicePort.id, 0)⟩ q = .ok r) :
    spWriteFrameOp len b env d = (spTaken d).spReply op seq .ok
      (descriptorOf r q (d.entryBytes r q.index q.sub).length ++ d.entryBytes r q.index q.sub) true := by
  have hserves : (spTaken d).vestibuleServes = true := Dev.vestibuleServes_of_asleep hphase
  have hbytes : (spTaken d).entryBytes r q.index q.sub = d.entryBytes r q.index q.sub := Dev.entryBytes_setSp ..
  have hcheck : (spTaken d).checkEntry ⟨0, false, (Path.servicePort.id, 0)⟩ q = .ok r := (Dev.checkEntry_setSp ..).trans hrow
  rw [spWriteFrameOp_of_request env hframe (.inr ⟨t, hphase⟩), hserves, if_pos rfl]
  simp only [Dev.vestibuleServe, hserved, hcheck, hread, hbytes, Bool.not_true, Bool.false_eq_true, ite_false]

end

/-! ### READ_FRAME and READ_STATUS (R453) -/

/-- In a device that runs or sleeps the response that waits is put out, and it is gone once it has been clocked out whole. -/
theorem spReadFrameOp_response {d : Dev} {w : Bytes} (whole : Bool) (hphase : d.power.phase = .running ∨ ∃ t, d.power.phase = .asleep t)
    (hresponse : d.power.sp.response = some w) :
    (spReadFrameOp whole d).out = d.out ++ [.bytes .ok w.length w] ∧
      (spReadFrameOp whole d).power.sp.response = if whole then none else some w := by
  have hop : spReadFrameOp whole d = if whole then (d.emit (.bytes .ok w.length w)).setSp fun p => { p with response := none, rxFree := p.rxFree || !p.busy }
      else d.emit (.bytes .ok w.length w) := by
    obtain hphase | ⟨t, hphase⟩ := hphase
    · simp [spReadFrameOp, hphase, hresponse]
    · simp [spReadFrameOp, hphase, hresponse]
  rw [hop]
  cases whole
  · exact ⟨rfl, hresponse⟩
  · exact ⟨rfl, rfl⟩

theorem spReadStatusOp_running {d : Dev} (hphase : d.power.phase = .running) : spReadStatusOp d = d.answer .ok
    ((if d.entering then 16 else 0) + b2n d.power.sp.frameErr * 8 + b2n d.power.sp.rxFree * 2 + b2n d.power.sp.response.isSome) := by
  simp [spReadStatusOp, Dev.spStatus, hphase, ite_mul]

/-! ### The partner's requests (R497) -/

theorem galleryDictRequestOp_queues {d : Dev} {b : Bytes} {op seq : Nat} {q : DictReq} (hruns : d.d0.running = true) (href : d.flag Ent.Clk.REF_LOSS = false)
    (hlen : 20 ≤ b.length) (hversion : leAt b 0 1 = 1) (hrequest : bit (leAt b 2 2) 0 = false) (hdict : frameRequest b = (op, seq, .dict q))
    (hcache : (d.d0.galCache.filter fun x => x.1 == seq) = none)
    (hnew : (d.d0.queue.any fun q => q.origin.path == .gallery && q.origin.seq == seq) = false) (hroom : d.pathCount .gallery < 16) :
    galleryDictRequestOp b d = d.submit ⟨q, ⟨.gallery, 0, seq, []⟩, false⟩ := by
  have hfull : ¬ 16 ≤ d.pathCount .gallery := by omega
  have hbad : ¬(b.length < 20 ∨ leAt b 0 1 ≠ 1 ∨ bit (leAt b 2 2) 0 = true ∨ d.d0.running = false ∨ d.flag Ent.Clk.REF_LOSS = true) := by
    simp [hlen, hversion, hrequest, hruns, href]
  simp only [galleryDictRequestOp, hdict, if_neg hbad, hcache, hnew, if_neg hfull, Bool.false_eq_true, ite_false]

/-! ### The obligation -/

/-- Settles O7, path by path: who serves the request, and what it then leaves. -/
theorem servicePortAndGalleryPath : Obligations.ServicePortAndGalleryPath := by
  unfold Obligations.ServicePortAndGalleryPath
  intro s
  refine ⟨?queues, ?vestibule, ?readFrame, ?readStatus, ?gallery⟩
  case queues =>
    intro len op seq b env q hphase hentry hfree hleast hmost hwhole hcrc hversion hrequest hnew hroom
    rw [gives_iff_of_onVaux (f := spWriteFrameOp len b env) rfl (by simp [hphase]),
      spWriteFrameOp_queues (d := s.dev.fresh) env ⟨hfree, hleast, hmost, hwhole, hcrc, hversion, hrequest, hnew⟩ hphase hentry hroom]
    exact ⟨rfl, rfl, rfl, Only.of_fresh ((Only.refl.set_power ⟨by decide⟩).set_d0 ⟨by decide⟩)⟩
  case vestibule =>
    intro len op seq t b env q r hphase hfree hleast hmost hwhole hcrc hversion hrequest hnew hread hserved hrow
    rw [gives_iff_of_onVaux (f := spWriteFrameOp len b env) rfl (by simp [hphase]),
      spWriteFrameOp_vestibule (d := s.dev.fresh) env ⟨hfree, hleast, hmost, hwhole, hcrc, hversion, hrequest, hnew⟩ hphase hread hserved hrow]
    exact ⟨rfl, rfl, Only.of_fresh (((Only.refl.set_power ⟨by decide⟩).set_d0 ⟨by decide⟩).set_power ⟨by decide⟩)⟩
  case readFrame =>
    intro whole w hphase hresponse
    have hserved : s.dev.power.phase = .running ∨ ∃ t, s.dev.power.phase = .asleep t := hphase.imp_right fun h => h.elim (⟨2, ·⟩) (⟨3, ·⟩)
    have hsupply : s.dev.power.phase ≠ .off := by
      obtain h | ⟨t, h⟩ := hserved
      · simp [h]
      · simp [h]
    rw [gives_iff_of_onVaux (f := spReadFrameOp whole) rfl hsupply]
    obtain ⟨hout, hleft⟩ := spReadFrameOp_response (d := s.dev.fresh) whole hserved hresponse
    exact ⟨hout, hleft, Only.of_fresh (spReadFrameOp_only whole _)⟩
  case readStatus =>
    intro hphase
    rw [gives_iff_of_onVaux (f := spReadStatusOp) rfl (by simp [hphase]), spReadStatusOp_running (d := s.dev.fresh) hphase]
    exact ⟨rfl, Only.of_fresh Only.refl.answer⟩
  case gallery =>
    intro b op seq q hphase hruns href hlen hversion hrequest hdict hcache hnew hroom
    have hop := galleryDictRequestOp_queues (d := s.dev.fresh) hruns href hlen hversion hrequest hdict hcache hnew hroom
    rw [gives_iff_of_onDev (f := galleryDictRequestOp b) rfl hphase]
    refine ⟨?_, Only.of_fresh (galleryDictRequestOp_only b _)⟩
    rw [hop]
    rfl

end Sys2Proof

/-! SUPPORT. Heartbeats (Table 7.7): the identifier is 0x700 + NODE_ID, and bit 29 of a COB-ID says that it has 29 bits (CiA 301). NODE_ID is an entry of 8
bits, but a state may list any number under its key; one that reaches bit 29 makes the heartbeat an extended frame, so the clause on heartbeats of
`Obligations.CanReceptionAndServices`, which does not ask that NODE_ID lies within its width, fails. -/

namespace Sys2Proof

open Sys2Proof.Machine

/-! ### The frame of a COB-ID -/

/-- A COB-ID with bit 29 set is sent as an extended identifier (CiA 301). -/
theorem cobFrame_ide (cob : Nat) (b : Bytes) : (cobFrame cob b).ide = bit cob 29 := rfl

/-! ### The counterexample -/

/-- Channel 0 is enabled with CO_ENABLE 1 and its NODE_ID, an entry of 8 bits, holds 2 to the 29; heartbeats are produced every 100 ms. -/
def wideNodeId : State :=
  let d := ((Dev.reset.put Ent.Co.PRODUCER_HB 100).put (Ent.CanCo.CO_ENABLE 0) 1).put (Ent.CanSt.STATE 0) 1
  ⟨[], { d with dict := KV.insert (Ent.CanCo.NODE_ID 0).key (2 ^ 29) d.dict }⟩

/-- The channel produces heartbeats: it is ENABLED and not bus-off, and no frame waits in front of its service transmitter. -/
theorem wideNodeId_produces :
    wideNodeId.dev.get Ent.Co.PRODUCER_HB ≠ 0 ∧ wideNodeId.dev.flag (Ent.CanCo.CO_ENABLE 0) = true ∧ wideNodeId.dev.get (Ent.CanSt.STATE 0) = 1 ∧
    wideNodeId.dev.fld (Rg.Ch.BUS 0) ≠ 2 ∧ (wideNodeId.dev.canCh 0).service = [] := by
  decide +kernel

/-- Its heartbeat is one extended frame. -/
theorem heartbeatProduceOp_wideNodeId :
    ((heartbeatProduceOp wideNodeId.dev.fresh).canCh 0).service = [⟨cobFrame (0x700 + 2 ^ 29) [0#8], none, none⟩] := by
  decide +kernel

/-- Refutes O13, in its clause on heartbeats: the clause takes the identifier for one of 11 bits whatever NODE_ID holds, and a state whose NODE_ID holds more
than its 8 bits sends the heartbeat with an identifier of 29. -/
theorem not_canReceptionAndServices : ¬ Obligations.CanReceptionAndServices := by
  unfold Obligations.CanReceptionAndServices
  intro hall
  obtain ⟨-, -, -, -, -, -, -, hheartbeat, -⟩ := hall wideNodeId rfl
  obtain ⟨hperiod, hservices, hstate, hbus, hempty⟩ := wideNodeId_produces
  obtain ⟨hsent, -⟩ := (gives_iff_of_onDev (f := heartbeatProduceOp) rfl rfl).1 (hheartbeat 0 (by decide) hperiod hservices hstate hbus)
  rw [heartbeatProduceOp_wideNodeId, hempty, List.nil_append, List.singleton_inj] at hsent
  have hextended : (cobFrame (0x700 + 2 ^ 29) [0#8]).ide = false := congrArg (fun x : SvcFrame => x.frame.ide) hsent
  rw [cobFrame_ide] at hextended
  exact absurd hextended (by decide)

end Sys2Proof

/-! SUPPORT. Tunnels that name the same stream (R231): a PDU is for each of them, and their messages share the queue of 32 in front of the channel's
service transmitter. Where one place is left, the first tunnel takes it, so the clause on received PDUs of `Obligations.BridgePollAndTunnelCommands`, which
does not ask that no other tunnel takes the message, fails. -/

namespace Sys2Proof

open Sys2Proof.Machine

/-! ### The counterexample -/

/-- A classical frame of one byte. -/
def tunnelledFrame : CanFrame := ⟨5, false, false, false, false, false, 1, [7#8]⟩

/-- An NTSCF PDU of stream 0 that carries the frame as one message of bus 1. -/
def streamPdu : Bytes := bytesOf [0x82] ++ be 2 (0x8000 + 20) ++ le 1 0 ++ zeros 8 ++ acfCan 1 tunnelledFrame 99

/-- Tunnels 0 and 1 of unit 0 are enabled for channel 0 and bus 1 of the same stream, and 31 messages of tunnel 0 wait in front of the channel's service
transmitter. -/
def sharedStream : State :=
  ⟨[], ((((((Dev.reset.putOct (Ent.Bu.BU_MAC 0) (bytesOf [2, 0, 0, 0, 0, 9])).put (Ent.Tun.ENABLE 0) 1).put (Ent.Tun.ENABLE 1) 1).put
    (Ent.Tun.BUS_ID 0) 1).put (Ent.Tun.BUS_ID 1) 1).put (Ent.CanSt.STATE 0) 1).setCan 0
      fun c => { c with service := List.replicate 31 ⟨tunnelledFrame, none, some 0⟩ }⟩

/-- The PDU is for tunnel 1, whose one message it carries: the unit works, the stream is the tunnel's, and the queue has room. -/
theorem sharedStream_receives :
    sharedStream.dev.bridgeOn 0 = true ∧ leAt streamPdu 0 1 = 0x82 ∧ sharedStream.dev.flag (Ent.Tun.ENABLE 1) = true ∧
    sharedStream.dev.get (Ent.Tun.UNIT 1) = 0 ∧ sharedStream.dev.get (Ent.Tun.DIR 1) ≠ 1 ∧
    slice (sharedStream.dev.oct (Ent.Tun.STREAM_ID 1)) 0 8 = slice streamPdu 4 8 ∧
    acfMessages 256 ((streamPdu.drop 12).take (ofBe (slice streamPdu 1 2) % 2048)) = [(sharedStream.dev.get (Ent.Tun.BUS_ID 1), tunnelledFrame)] ∧
    sharedStream.dev.get (Ent.Tun.CHANNEL 1) = 0 ∧ ((sharedStream.dev.canCh 0).service.filter fun x => x.tunnel.isSome).length < 32 ∧
    sharedStream.dev.get Ent.Tws.ROLE < 2 ∧ sharedStream.dev.get (Ent.CanSt.STATE 0) = 1 := by
  decide +kernel

/-- Tunnel 0 takes the last place; the message of tunnel 1 is dropped. -/
theorem tunnelPduReceiveOp_sharedStream :
    ⟨tunnelledFrame, none, some 1⟩ ∉ ((tunnelPduReceiveOp 0 streamPdu sharedStream.dev.fresh).canCh 0).service := by
  decide +kernel

/-- Refutes O18, in its clause on received PDUs: a PDU is for every tunnel that names its stream (R231), and the tunnels of a channel share one queue, so a
message may find full the queue that had one place when the PDU arrived. -/
theorem not_bridgePollAndTunnelCommands : ¬ Obligations.BridgePollAndTunnelCommands := by
  unfold Obligations.BridgePollAndTunnelCommands
  intro hall
  obtain ⟨-, -, -, -, hreceive⟩ := hall sharedStream rfl
  obtain ⟨hon, hntscf, henabled, hunit, hdir, hstream, hmessage, hchannel, hroom, hrole, hstate⟩ := sharedStream_receives
  obtain ⟨hqueued, -⟩ := (gives_iff_of_onDev (f := tunnelPduReceiveOp 0 streamPdu) rfl rfl).1
    (hreceive 0 1 0 streamPdu tunnelledFrame (by decide) hon hntscf henabled hunit hdir hstream hmessage hchannel hroom (.inl rfl) hrole hstate)
  exact tunnelPduReceiveOp_sharedStream hqueued

end Sys2Proof

/-! SUPPORT. The switch core (R86 to R112, R126): what its operations leave of a queue's copies, of the frames being received and of the port's counters. -/

namespace Sys2Proof

open Sys2Proof.Machine

/-! ### What a footprint leaves alone -/

theorem Only.sw_eq {F : Foot} {a b : Dev} (h : Only F a b) (hsw : Part.sw ∉ F.parts) : b.sw = a.sw := h.keep .sw hsw

/-- The keys of a family agree modulo this number; it divides 256, so they agree in as much of the subindex. -/
def Fam.grid (f : Fam) : Nat := Nat.gcd 256 (Nat.gcd f.s1 (Nat.gcd f.s2 f.s3))

/-- No key of the family has the subindex. -/
def Fam.misses (f : Fam) (sub : Nat) : Bool := f.base % f.grid != sub % f.grid

theorem Fam.not_has_of_misses {f : Fam} {e : Entry} (h : f.misses e.sub = true) : ¬ f.has e.key := by
  rintro ⟨a, b, c, hkey⟩
  have hpage : f.grid ∣ 256 := Nat.gcd_dvd_left ..
  have hsteps : f.grid ∣ Nat.gcd f.s1 (Nat.gcd f.s2 f.s3) := Nat.gcd_dvd_right ..
  have hrest : f.grid ∣ Nat.gcd f.s2 f.s3 := hsteps.trans (Nat.gcd_dvd_right ..)
  have h1 : f.grid ∣ a * f.s1 := (hsteps.trans (Nat.gcd_dvd_left ..)).mul_left a
  have h2 : f.grid ∣ b * f.s2 := (hrest.trans (Nat.gcd_dvd_left ..)).mul_left b
  have h3 : f.grid ∣ c * f.s3 := (hrest.trans (Nat.gcd_dvd_right ..)).mul_left c
  have hbase : f.base ≡ e.key [MOD f.grid] := by
    rw [hkey, Nat.add_assoc, Nat.add_assoc]
    exact ((Nat.modEq_zero_iff_dvd.2 (h1.add (h2.add h3))).add_left f.base).symm
  have hsub : e.key ≡ e.sub [MOD f.grid] := by
    have := (Nat.modEq_zero_iff_dvd.2 (hpage.mul_left e.idx)).add_right e.sub
    rwa [Nat.zero_add] at this
  rw [Fam.misses, bne_iff_ne] at h
  exact h (hbase.trans hsub)

/-- An entry whose subindex no listed family has stays as it is. -/
theorem Only.get_eq {F : Foot} {a b : Dev} {e : Entry} {sub : Nat} (h : Only F a b) (hdict : Part.dict ∉ F.parts) (hsub : e.sub = sub)
    (hents : F.ents.all (·.misses sub) = true) : b.get e = a.get e := by
  subst hsub
  have hfind : KV.find e.key b.dict = KV.find e.key a.dict :=
    h.keep .dict hdict e.key fun f hf => Fam.not_has_of_misses (List.all_eq_true.1 hents f hf)
  simp only [Dev.get, KV.get, hfind]

/-- What no step of a fold changes, the fold does not change. -/
theorem foldl_keeps {σ α β : Type} {g : σ → β} {f : σ → α → σ} (hf : ∀ d x, g (f d x) = g d) (l : List α) (d : σ) : g (l.foldl f d) = g d := by
  induction l generalizing d with
  | nil => rfl
  | cons x l ih => rw [List.foldl_cons, ih, hf]

theorem Dev.limited_sw {d : Dev} {scope n : Nat} {f : Dev → Nat → Dev} (hf : ∀ d k, (f d k).sw = d.sw) : (d.limited scope n f).sw = d.sw := by
  unfold Dev.limited
  split
  · exact hf _ _
  · rfl

/-! ### Queues -/

@[simp] theorem Switch.setQueue_copies (w : Switch) (p c : Nat) (q : Queue) : ((w.setQueue p c q).queue p c).copies = q.copies := by
  simp [Switch.queue, Switch.setQueue]

@[simp] theorem Switch.mapCopies_copies (w : Switch) (p c : Nat) (f : Copy → Bool) (g : Copy → Copy) :
    ((w.mapCopies p c f g).queue p c).copies = (w.queue p c).copies.map fun x => if f x then g x else x :=
  Switch.setQueue_copies ..

/-- A reference that ends changes the landing cells only. -/
theorem Switch.unref_eq (w : Switch) (k : Option Nat) : ∃ l, w.unref k = { w with stores := l } := by
  unfold Switch.unref
  repeat' split
  all_goals exact ⟨_, rfl⟩

@[simp] theorem Switch.unref_links (w : Switch) (k : Option Nat) : (w.unref k).links = w.links := by
  obtain ⟨l, h⟩ := Switch.unref_eq w k
  rw [h]

@[simp] theorem Switch.unref_fdb (w : Switch) (k : Option Nat) : (w.unref k).fdb = w.fdb := by
  obtain ⟨l, h⟩ := Switch.unref_eq w k
  rw [h]

@[simp] theorem Dev.dropped_sw (d : Dev) (p c i : Nat) (multi : Bool) (w : Drop) : (d.dropped p c i multi w).sw = d.sw :=
  (Dev.dropped_only d p c i multi w).sw_eq (by decide)

/-! ### A frame arrives (R90, R120) -/

/-- The frame being received on the port is recorded with what the classification decided. -/
theorem Dev.beginRx_rx (d : Dev) (p len landed : Nat) (fcs : Bool) (dec : Decision) :
    (KV.find p (d.beginRx p len landed fcs dec).sw.rx).map (fun r => (r.len, r.fcs, r.cls, r.dests)) = some (len, fcs, dec.cls, dec.dests) := by
  unfold Dev.beginRx
  extract_lets n
  split
  split
  · simp
  · simp

/-- A frame of valid length and FCS that fits the headroom is recorded as Table 5.5 decides. -/
theorem frameClassifyOp_of_valid {d : Dev} {p len landed : Nat} {f : Frame} {dec : Decision} (hp : p < 54) (hidle : KV.find p d.sw.rx = none)
    (hup : (d.sw.link p).up = true) (hleast : 64 ≤ len) (hmost : len ≤ d.get (Ent.Pcfg.MAX_FRAME p)) (hroom : cellsOf len ≤ d.get (Ent.Pbuf.ING_RES p))
    (hdec : (d.classify p len f).1 = some dec) :
    frameClassifyOp p f len true landed d = (d.classify p len f).2.beginRx p len landed true dec := by
  have hclassify : d.classify p len f = (some dec, (d.classify p len f).2) := Prod.ext hdec rfl
  unfold frameClassifyOp
  rw [hclassify]
  simp [hp, hidle, hup, Nat.not_lt.2 hleast, Nat.not_lt.2 hmost, Nat.not_lt.2 hroom]

/-! ### Counters of a port (Table 5.17) -/

theorem portCounter_key_notMem_logKeys {i : Nat} (p : Nat) (hi : i < 15) : (portCounter p i).entry.key ∉ logKeys := by
  simp only [portCounter, ctr, logKeys, Ent.Evlog.LAST_SEQ, Ent.Evlog.LOG_LOST, Entry.key, List.mem_cons, List.not_mem_nil, or_false]
  omega

/-- A counter of a port counts, and stops at all ones (R47). -/
theorem Dev.count_portCounter {i : Nat} (d : Dev) (p n : Nat) (hi : i < 15 := by decide) :
    (d.count (portCounter p i) n).get (portCounter p i).entry = min (d.get (portCounter p i).entry + n) (2 ^ 64 - 1) := by
  refine Dev.count_same d _ n rfl ?_ (portCounter_key_notMem_logKeys p hi)
  simp only [portCounter, ctr, Ent.Port.PORT_SAT, Entry.key]
  omega

/-- The counter and its saturation field stand in other columns than column `i`, of sixteen columns of subindices. -/
def Counter.Avoids (c : Counter) (i : Nat) : Prop := c.entry.sub % 16 ≠ i ∧ c.satEntry.sub % 16 ≠ i

/-- A counter of another column leaves it alone. -/
theorem Dev.count_get_portCounter {i : Nat} (d : Dev) (p : Nat) {c : Counter} (n : Nat) (havoids : Counter.Avoids c i) (hi : i < 15 := by decide) :
    (d.count c n).get (portCounter p i).entry = d.get (portCounter p i).entry := by
  obtain ⟨hentry, hsat⟩ := havoids
  refine Dev.count_get d c n _ _ ?_ ?_ (portCounter_key_notMem_logKeys p hi)
  · simp only [portCounter, ctr, Entry.key]
    omega
  · simp only [portCounter, ctr, Entry.key]
    omega

theorem portCounter_avoids (q : Nat) {i j : Nat} (hij : j ≠ i ∧ i < 15 ∧ j < 15 := by decide) : Counter.Avoids (portCounter q j) i := by
  simp only [Counter.Avoids, portCounter, ctr, Ent.Port.PORT_SAT]
  omega

theorem coreCounter_avoids (q : Nat) {i j : Nat} (hij : i < 3 ∧ j < 7 := by decide) : Counter.Avoids (coreCounter q j) i := by
  simp only [Counter.Avoids, coreCounter, ctr, Ent.Pq.PORT_SAT]
  omega

theorem queueCounter_avoids (q c : Nat) {i j : Nat} (hij : 1 < i ∧ i < 7 ∧ 7 ≤ j ∧ j < 14 := by decide) : Counter.Avoids (queueCounter q c j) i := by
  simp only [Counter.Avoids, queueCounter, ctr, Ent.Pq.Q_SAT]
  omega

/-! ### The last cell of a frame lands (R90, R549) -/

@[simp] theorem Dev.latchQueue_rx (d : Dev) (p c : Nat) : (d.latchQueue p c).sw.rx = d.sw.rx := by
  unfold Dev.latchQueue
  split
  · rfl
  · rw [Dev.limited_sw fun d k => Dev.event_sw ..]
    rfl

@[simp] theorem Dev.enqueue_rx (d : Dev) (p c : Nat) (x : Copy) : (d.enqueue p c x).sw.rx = d.sw.rx := rfl

theorem Dev.admitCopy_rx (d : Dev) (k : Nat) (rx : Rx) (i n : Nat) (x : Dest) : (d.admitCopy k rx i n x).2.sw.rx = d.sw.rx := by
  unfold Dev.admitCopy
  split
  · simp
  · rfl
  · simp

@[simp] theorem Switch.landed_rx (w : Switch) (k n : Nat) (failed : Bool) : (w.landed k n failed).rx = w.rx := by
  unfold Switch.landed
  split <;> rfl

@[simp] theorem Switch.addRefs_rx (w : Switch) (k m : Nat) : (w.addRefs k m).rx = w.rx := by
  unfold Switch.addRefs
  split <;> rfl

/-- From `a` to `b` nothing changes in the frames being received, nor in what port `p` has counted of them. -/
structure KeepsReceived (p : Nat) (a b : Dev) : Prop where
  rx : b.sw.rx = a.sw.rx
  frames : b.get (rxFrames p).entry = a.get (rxFrames p).entry
  bytes : b.get (rxBytes p).entry = a.get (rxBytes p).entry

theorem KeepsReceived.trans {p : Nat} {a b c : Dev} (hab : KeepsReceived p a b) (hbc : KeepsReceived p b c) : KeepsReceived p a c :=
  ⟨hbc.rx.trans hab.rx, hbc.frames.trans hab.frames, hbc.bytes.trans hab.bytes⟩

theorem KeepsReceived.setSw {p : Nat} {a : Dev} {f : Switch → Switch} (h : (f a.sw).rx = a.sw.rx) : KeepsReceived p a (a.setSw f) := ⟨h, rfl, rfl⟩

theorem KeepsReceived.ingOvf (p : Nat) (a : Dev) : KeepsReceived p a (a.count (ingOvf p)) where
  rx := by rw [Dev.count_sw]
  frames := Dev.count_get_portCounter a p 1 (coreCounter_avoids _)
  bytes := Dev.count_get_portCounter a p 1 (coreCounter_avoids _)

/-- Admission counts copies, not received frames. -/
theorem KeepsReceived.admitAll (p : Nat) (a : Dev) (k : Nat) (rx : Rx) (i n : Nat) (l : List Dest) : KeepsReceived p a (a.admitAll k rx i n l).2 where
  rx := by
    induction l generalizing a with
    | nil => rfl
    | cons x l ih => exact (ih _).trans (Dev.admitCopy_rx ..)
  frames := (Dev.admitAll_only a k rx i n l).get_eq (sub := 0x10) (by decide) rfl (by decide +kernel)
  bytes := (Dev.admitAll_only a k rx i n l).get_eq (sub := 0x11) (by decide) rfl (by decide +kernel)

/-- The frame is received no more, and the port has counted it. -/
def frameCounted (p : Nat) (rx : Rx) (d : Dev) : Dev :=
  ((d.setSw fun w => { w with rx := KV.erase p w.rx }).count (rxFrames p)).count (rxBytes p) rx.len

/-- The frame takes its cells and, where it is good, each destination's copy is admitted or dropped. -/
def admitFrame (p : Nat) (rx : Rx) (good : Bool) (d : Dev) : Dev :=
  let n := cellsOf rx.len
  let k := d.sw.nextStore
  let r := (d.setSw fun w => (w.store ⟨n, 0, true, false⟩).2.landed k n (!good)).admitAll k rx p n (if good then rx.dests else [])
  r.2.setSw (·.addRefs k r.1)

/-- Without cut-through copies a frame that lands is counted, and then admission decides its destinations. -/
theorem frameLandedOp_eq {p : Nat} {rx : Rx} {d : Dev} (hrx : KV.find p d.sw.rx = some rx) (hcuts : rx.cuts = []) (hstore : rx.store = none) :
    frameLandedOp p d = if (frameCounted p rx d).get (Ent.Pbuf.ING_RES p) < cellsOf rx.len
      then admitFrame p rx false ((frameCounted p rx d).count (ingOvf p)) else admitFrame p rx rx.fcs (frameCounted p rx d) := by
  have hrest : (rx.dests.filter fun x => !([] : List Nat).contains x.port) = rx.dests := by simp
  unfold frameLandedOp
  simp only [hrx, hstore, hrest, hcuts, List.foldl_nil, ite_self]
  by_cases hcut : (frameCounted p rx d).get (Ent.Pbuf.ING_RES p) < cellsOf rx.len
  · rw [if_pos hcut]
    simp only [frameCounted] at hcut
    simp only [hcut, decide_true, Bool.not_true, Bool.and_false, ite_true]
    rfl
  · rw [if_neg hcut]
    simp only [frameCounted] at hcut
    simp only [hcut, decide_false, Bool.not_false, Bool.and_true, Bool.false_eq_true, ite_false]
    rfl

theorem KeepsReceived.admitFrame (p : Nat) (rx : Rx) (good : Bool) (d : Dev) : KeepsReceived p d (admitFrame p rx good d) := by
  have hcells : KeepsReceived p d (d.setSw fun w => (w.store ⟨cellsOf rx.len, 0, true, false⟩).2.landed w.nextStore (cellsOf rx.len) (!good)) :=
    .setSw (Switch.landed_rx ..)
  unfold Sys2Proof.admitFrame
  exact (hcells.trans (.admitAll ..)).trans (.setSw (Switch.addRefs_rx ..))

/-- What follows the count is the admission of copies. -/
theorem frameLandedOp_keeps {p : Nat} {rx : Rx} {d : Dev} (hrx : KV.find p d.sw.rx = some rx) (hcuts : rx.cuts = []) (hstore : rx.store = none) :
    KeepsReceived p (frameCounted p rx d) (frameLandedOp p d) := by
  rw [frameLandedOp_eq hrx hcuts hstore]
  split
  · exact (KeepsReceived.ingOvf p _).trans (.admitFrame ..)
  · exact .admitFrame ..

theorem frameCounted_rx (p : Nat) (rx : Rx) (d : Dev) : KV.find p (frameCounted p rx d).sw.rx = none := by
  simp [frameCounted]

theorem frameCounted_frames (p : Nat) (rx : Rx) (d : Dev) :
    (frameCounted p rx d).get (rxFrames p).entry = min (d.get (rxFrames p).entry + 1) (2 ^ 64 - 1) :=
  calc (frameCounted p rx d).get (rxFrames p).entry
    _ = ((d.setSw fun w => { w with rx := KV.erase p w.rx }).count (rxFrames p)).get (rxFrames p).entry :=
      Dev.count_get_portCounter _ p _ (portCounter_avoids _)
    _ = _ := Dev.count_portCounter _ p 1

theorem frameCounted_bytes (p : Nat) (rx : Rx) (d : Dev) :
    (frameCounted p rx d).get (rxBytes p).entry = min (d.get (rxBytes p).entry + rx.len) (2 ^ 64 - 1) := by
  have hframes : ((d.setSw fun w => { w with rx := KV.erase p w.rx }).count (rxFrames p)).get (rxBytes p).entry = d.get (rxBytes p).entry :=
    Dev.count_get_portCounter _ p 1 (portCounter_avoids _)
  rw [← hframes]
  exact Dev.count_portCounter _ p rx.len

/-! ### Stairwell (R98 to R101) -/

theorem stwWriteCompleteOp_copies {d : Dev} {p c : Nat} {x : Copy} (hx : (d.sw.queue p c).copies.find? (fun x => x.state == .staged) = some x) :
    ((stwWriteCompleteOp p c d).sw.queue p c).copies =
      (d.sw.queue p c).copies.map fun y => if y = x then { y with state := .stairwell, store := none } else y := by
  simp [stwWriteCompleteOp, hx]

theorem refillStartOp_queue {d : Dev} {p c r m : Nat} {x : Copy} (hnext : d.refillNext p c = some (x, r, m)) :
    ((refillStartOp p c d).sw.queue p c).copies =
      (d.sw.queue p c).copies.map fun y => if y = x then { y with state := .refill, store := some d.sw.nextStore, r := r, s := m } else y := by
  simp only [refillStartOp, hnext]
  exact Switch.setQueue_copies ..

/-- The refilled copy has landing cells of its own, all of them there. -/
theorem refillStartOp_stores {d : Dev} {p c r m : Nat} {x : Copy} (hnext : d.refillNext p c = some (x, r, m)) :
    KV.find d.sw.nextStore (refillStartOp p c d).sw.stores = some ⟨x.n, 1, true, false⟩ := by
  simp only [refillStartOp, hnext]
  exact KV.find_insert_same ..

theorem refillCompleteOp_landed {d : Dev} {p c : Nat} {x : Copy} (hx : (d.sw.queue p c).copies.find? (fun x => x.state == .refill) = some x)
    (hkept : x.doomed = none) (htime : d.expired p c x = false) :
    ((refillCompleteOp p c none d).sw.queue p c).copies = (d.sw.queue p c).copies.map fun y => if y = x then { y with state := .landed } else y := by
  have htime' : (d.stwMoved (x.n + 1)).expired p c x = false := htime
  simp only [refillCompleteOp, hx, hkept, htime', Bool.false_eq_true, ite_false]
  exact Switch.setQueue_copies ..

/-! ### Transmission (R95, R96, R126) -/

theorem Dev.pickCopy_fresh (d : Dev) (p : Nat) (l : List Nat) : d.fresh.pickCopy p l = d.pickCopy p l := by
  induction l with
  | nil => rfl
  | cons c l ih =>
    unfold Dev.pickCopy
    rw [ih]
    rfl

/-- An idle port whose selection picks a copy puts it into TX, with its charge released. -/
theorem txSelectOp_start {d : Dev} {p c : Nat} {x : Copy} (hidle : d.sw.txOf p = none) (hup : (d.sw.link p).up = true)
    (hstate : d.get (Ent.Port.STATE p) ≠ 0) (hpick : d.pickCopy p [8, 7, 6, 5, 4, 3, 2, 1, 0] = .start c x) :
    ((txSelectOp p d).sw.queue p c).copies =
      (d.sw.queue p c).copies.map fun y => if y == x then { y with state := .tx, r := 0, s := 0 } else y := by
  simp only [txSelectOp, hidle, hup, hstate, Option.isSome_none, Bool.not_true, Bool.false_eq_true, or_self, ite_false, Dev.selectTx, hpick]
  exact Switch.mapCopies_copies ..

/-- A gallery port wraps the frame once more; it comes out of the port all the same. -/
theorem Dev.mem_putFrame_out (d : Dev) (p : Nat) (f : Frame) (bad : Bool) : Out.frame p f bad ∈ (d.putFrame p f bad).out := by
  have hemit : Out.frame p f bad ∈ (d.emit (.frame p f bad)).out := by simp
  unfold Dev.putFrame Dev.laneData
  extract_lets d' l
  split
  · split
    · exact hemit
    · exact List.mem_append_left _ hemit
  · exact hemit

@[simp] theorem Dev.putFrame_sw (d : Dev) (p : Nat) (f : Frame) (bad : Bool) : (d.putFrame p f bad).sw = d.sw :=
  (Dev.putFrame_only d p f bad).sw_eq (by decide)

@[simp] theorem Dev.get_putFrame (d : Dev) (p : Nat) (f : Frame) (bad : Bool) (e : Entry) : (d.putFrame p f bad).get e = d.get e :=
  (Dev.putFrame_only d p f bad).get_eq (by decide) rfl rfl

theorem Dev.endTx_copies (d : Dev) (p c : Nat) (x : Copy) :
    ((d.endTx p c x).sw.queue p c).copies = (d.sw.queue p c).copies.filter fun y => y ≠ x := by
  unfold Dev.endTx
  rw [Dev.setSw_sw, Switch.setQueue_copies]

theorem Dev.get_endTx (d : Dev) (p c : Nat) (x : Copy) (e : Entry) : (d.endTx p c x).get e = d.get e := rfl

/-- What comes before the copy leaves: its collisions count (R141), and a unit of the device may take its frame. -/
def copyLeaving (p col : Nat) (x : Copy) (d : Dev) : Dev :=
  let d := if col ≠ 0 ∧ d.get (Ent.Pcfg.MODE p) = 4 then d.count (collisions p) col else d
  match d.unitOfHost p x.frame with
  | some u => d.emit (.deliver u p x.frame)
  | none => d

@[simp] theorem copyLeaving_sw (p col : Nat) (x : Copy) (d : Dev) : (copyLeaving p col x d).sw = d.sw := by
  unfold copyLeaving
  extract_lets d'
  have hd' : d'.sw = d.sw := by
    unfold d'
    split <;> simp
  split
  · exact hd'
  · exact hd'

theorem copyLeaving_get_txFrames (p col : Nat) (x : Copy) (d : Dev) : (copyLeaving p col x d).get (txFrames p).entry = d.get (txFrames p).entry := by
  unfold copyLeaving
  extract_lets d'
  have hd' : d'.get (txFrames p).entry = d.get (txFrames p).entry := by
    unfold d'
    split
    · exact Dev.count_get_portCounter d p col (portCounter_avoids _)
    · rfl
  split
  · exact hd'
  · exact hd'

/-- What comes after: the queue and the port count the copy, and the ingress port that of a frame of several destinations (R96). -/
def copyCounted (p c : Nat) (x : Copy) (d : Dev) : Dev :=
  let d := ((d.count (queueCounter p c 7)).count (txFrames p)).count (txBytes p) x.frame.len
  if x.multi then d.count (copiesSent x.ingress) else d

@[simp] theorem copyCounted_sw (p c : Nat) (x : Copy) (d : Dev) : (copyCounted p c x d).sw = d.sw := by
  unfold copyCounted
  split <;> simp

@[simp] theorem copyCounted_out (p c : Nat) (x : Copy) (d : Dev) : (copyCounted p c x d).out = d.out := by
  unfold copyCounted
  split <;> simp

theorem copyCounted_txFrames (p c : Nat) (x : Copy) (d : Dev) :
    (copyCounted p c x d).get (txFrames p).entry = min (d.get (txFrames p).entry + 1) (2 ^ 64 - 1) := by
  have hqueue : (d.count (queueCounter p c 7)).get (txFrames p).entry = d.get (txFrames p).entry :=
    Dev.count_get_portCounter d p 1 (queueCounter_avoids p c)
  have hsent : (((d.count (queueCounter p c 7)).count (txFrames p)).count (txBytes p) x.frame.len).get (txFrames p).entry =
      min (d.get (txFrames p).entry + 1) (2 ^ 64 - 1) := by
    rw [← hqueue]
    exact (Dev.count_get_portCounter _ p _ (portCounter_avoids _)).trans
      (Dev.count_portCounter _ p 1)
  unfold copyCounted
  split
  · exact (Dev.count_get_portCounter _ p 1 (coreCounter_avoids _)).trans hsent
  · exact hsent

/-- A copy whose frame has landed well leaves its queue and its port, unless it waits for its ring. -/
theorem copySentOp_eq {d : Dev} {p c k : Nat} (col : Nat) {x : Copy} {st : Machine.Stored} (htx : d.sw.txOf p = some (c, x)) (hstore : x.store = some k)
    (hst : KV.find k d.sw.stores = some st) (hwhole : st.whole = true) (hgood : st.bad = false)
    (hgoes : p < 48 ∨ 52 ≤ p ∨ x.handed = true ∨ d.unitOfHost p x.frame ≠ none) :
    copySentOp p false col d = copyCounted p c x (((copyLeaving p col x d).endTx p c x).putFrame p x.frame false) := by
  have hring : ¬(48 ≤ p ∧ p ≤ 51 ∧ (!x.handed) = true ∧ d.unitOfHost p x.frame = none) := by
    rintro ⟨hfirst, hlast, hhanded, hunit⟩
    obtain h | h | h | h := hgoes
    · omega
    · omega
    · simp [h] at hhanded
    · exact h hunit
  simp only [copySentOp, htx, hstore, hst, Option.bind_some, Option.getD_some, hwhole, hgood, Bool.not_true, Bool.or_false, Bool.false_eq_true,
    if_neg hring, ite_false]
  rfl

/-! ### Drops and flushes (R96, R101, R107) -/

theorem Dev.dropWhere_copies (d : Dev) (p c : Nat) (w : Drop) (f : Copy → Bool) :
    ((d.dropWhere p c w f).sw.queue p c).copies = ((d.sw.queue p c).copies.filter fun x => !(f x && x.state != .refill)).map fun x =>
      if f x && x.state == .refill && x.doomed.isNone then { x with doomed := some w } else x := by
  unfold Dev.dropWhere
  extract_lets q out keep d'
  rw [foldl_keeps (g := Dev.sw) fun d x => Dev.dropped_sw ..]
  exact Switch.setQueue_copies ..

/-- What stays in a cleared queue is in TX, or in a refill that ends in a drop. -/
theorem Dev.clearQueue_all (d : Dev) (p c : Nat) (w : Drop) :
    ((d.clearQueue p c w).sw.queue p c).copies.all (fun x => x.state == .tx || x.state == .refill && x.doomed.isSome) = true := by
  rw [Dev.clearQueue, Dev.dropWhere_copies, List.all_eq_true]
  intro y hy
  obtain ⟨x, hx, rfl⟩ := List.mem_map.1 hy
  obtain ⟨-, hkeep⟩ := List.mem_filter.1 hx
  by_cases htx : x.state = .tx
  · simp [htx]
  · have hrefill : x.state = .refill := by simpa [htx] using hkeep
    cases hdoomed : x.doomed with
    | none => simp [hrefill]
    | some v => simp [hrefill, hdoomed]

/-- FLUSH clears the latch. -/
theorem queueFlushOp_queue (p c : Nat) (d : Dev) :
    (queueFlushOp p c d).sw.queue p c = { (d.clearQueue p c .disabled).sw.queue p c with latched := false } :=
  KV.get_put_same ..

/-! ### The obligation -/

/-- Settles O8, command by command along a frame's way: reception, stairwell, transmission, flush. -/
theorem switchCoreCommands : Obligations.SwitchCoreCommands := by
  unfold Obligations.SwitchCoreCommands
  intro s hlive
  refine ⟨?classify, ?landed, ?spill, ?refillStart, ?refillComplete, ?select, ?sent, ?flush⟩
  case classify =>
    intro p len landed f dec hp hidle hup hleast hmost hroom hdec
    rw [gives_iff_of_onDev (f := frameClassifyOp p f len true landed) rfl hlive]
    refine ⟨?_, Only.of_fresh (frameClassifyOp_only ..)⟩
    rw [frameClassifyOp_of_valid (d := s.dev.fresh) hp hidle hup hleast hmost hroom hdec]
    exact Dev.beginRx_rx ..
  case landed =>
    intro p rx hp hrx hcuts hstore hcls hdests
    rw [gives_iff_of_onDev (f := frameLandedOp p) rfl hlive]
    obtain ⟨hgone, hframes, hbytes⟩ := frameLandedOp_keeps (d := s.dev.fresh) hrx hcuts hstore
    exact ⟨by rw [hgone, frameCounted_rx], hframes.trans (frameCounted_frames ..), hbytes.trans (frameCounted_bytes ..), Only.of_fresh (frameLandedOp_only p _)⟩
  case spill =>
    intro p c x hx
    rw [gives_iff_of_onDev (f := stwWriteCompleteOp p c) rfl hlive]
    exact ⟨stwWriteCompleteOp_copies (d := s.dev.fresh) hx, Only.of_fresh (stwWriteCompleteOp_only p c _)⟩
  case refillStart =>
    intro p c r m x hnext
    rw [gives_iff_of_onDev (f := refillStartOp p c) rfl hlive]
    exact ⟨refillStartOp_queue (d := s.dev.fresh) hnext, refillStartOp_stores (d := s.dev.fresh) hnext, Only.of_fresh (refillStartOp_only p c _)⟩
  case refillComplete =>
    intro p c x hx hkept htime
    rw [gives_iff_of_onDev (f := refillCompleteOp p c none) rfl hlive]
    exact ⟨refillCompleteOp_landed (d := s.dev.fresh) hx hkept htime, Only.of_fresh (refillCompleteOp_only p c none _)⟩
  case select =>
    intro p c x hidle hup hstate hpick
    rw [gives_iff_of_onDev (f := txSelectOp p) rfl hlive]
    exact ⟨txSelectOp_start (d := s.dev.fresh) hidle hup hstate ((Dev.pickCopy_fresh ..).trans hpick), Only.of_fresh (txSelectOp_only p _)⟩
  case sent =>
    intro p c k col x st hp htx hstore hst hwhole hgood hgoes
    rw [gives_iff_of_onDev (f := copySentOp p false col) rfl hlive]
    have hop := copySentOp_eq (d := s.dev.fresh) col htx hstore hst hwhole hgood hgoes
    refine ⟨?_, ?_, ?_, Only.of_fresh (copySentOp_only p false col _)⟩
    · rw [hop, copyCounted_sw, Dev.putFrame_sw, Dev.endTx_copies, copyLeaving_sw]
      rfl
    · rw [hop, copyCounted_out]
      exact Dev.mem_putFrame_out ..
    · rw [hop, copyCounted_txFrames, Dev.get_putFrame, Dev.get_endTx, copyLeaving_get_txFrames]
      rfl
  case flush =>
    intro p c
    rw [gives_iff_of_onDev (f := queueFlushOp p c) rfl hlive, queueFlushOp_queue]
    exact ⟨rfl, Dev.clearQueue_all .., Only.of_fresh (queueFlushOp_only p c _)⟩

end Sys2Proof

/-! SUPPORT. Forwarding tables, links and gate schedules (R105, R106, R116 to R118, R127, R132 to R138): what the commands about them leave of a stream, of a
port's link and of its schedule. -/

namespace Sys2Proof

open Sys2Proof.Machine

/-! ### Streams (R132, R135, R136) -/

@[simp] theorem Dev.setStream_stream (d : Dev) (n : Nat) (f : StreamSt → StreamSt) : (d.setStream n f).sw.stream n = f (d.sw.stream n) :=
  KV.get_put_same ..

/-- A change of every listed stream is one of every stream, where it leaves a stream at its reset as it is. -/
theorem Switch.stream_mapVal {w : Switch} {f : StreamSt → StreamSt} (hreset : f streamReset = streamReset) (k : Nat) :
    Switch.stream { w with streams := KV.mapVal (fun _ x => f x) w.streams } k = f (w.stream k) := by
  simp only [Switch.stream, KV.get, KV.find_mapVal]
  cases KV.find k w.streams with
  | none => exact hreset.symm
  | some x => rfl

theorem streamUnblockOp_stream {n k : Nat} (hn : n = k ∨ n = 0xFFFF) (d : Dev) :
    (streamUnblockOp n d).sw.stream k = { d.sw.stream k with blocked := false } := by
  unfold streamUnblockOp
  split
  · exact Switch.stream_mapVal (f := fun x => { x with blocked := false }) rfl k
  · rename_i hone
    rw [hn.resolve_right hone]
    exact Dev.setStream_stream ..

theorem streamClearOp_stream {n k : Nat} (hn : n = k ∨ n = 0xFFFF) (d : Dev) :
    (streamClearOp n d).sw.stream k = { d.sw.stream k with counts := [0, 0, 0, 0, 0, 0, 0], sat := 0 } := by
  unfold streamClearOp
  extract_lets z
  split
  · exact Switch.stream_mapVal (f := z) rfl k
  · rename_i hone
    rw [hn.resolve_right hone]
    exact Dev.setStream_stream ..

/-! ### Links (R106, R116, R117) -/

@[simp] theorem Dev.setLink_link (d : Dev) (p : Nat) (f : PortLink → PortLink) : (d.setLink p f).sw.link p = f (d.sw.link p) :=
  KV.get_put_same ..

theorem Switch.link_congr {v w : Switch} (h : w.links = v.links) (p : Nat) : w.link p = v.link p := by
  rw [Switch.link, h, Switch.link]

theorem linkQualifyStartOp_eq {d : Dev} {p : Nat} (hp : p < 54) (hallowed : d.linkAllowed p = true) (hdown : (d.sw.link p).up = false) :
    linkQualifyStartOp p d = d.setLink p fun l => { l with qualifying := true } := by
  have hpins : (d.sw.link p).pins = 0 := by
    have := hallowed
    simp only [Dev.linkAllowed, Bool.and_eq_true, beq_iff_eq] at this
    tauto
  simp [linkQualifyStartOp, hp, hallowed, hdown, hpins]

theorem linkUpOp_link {d : Dev} {p : Nat} (hqualified : (d.sw.link p).qualifying = true) (hdown : (d.sw.link p).up = false)
    (hallowed : d.linkAllowed p = true) :
    (linkUpOp p d).sw.link p = { d.sw.link p with up := true, qualifying := false, held := false } := by
  have hcond : (d.sw.link p).qualifying = true ∧ (!(d.sw.link p).up) = true ∧ d.linkAllowed p = true := ⟨hqualified, by simp [hdown], hallowed⟩
  simp only [linkUpOp, if_pos hcond]
  split
  · simp
  · simp

/-! ### What drops leave of links and learned entries -/

/-- From `a` to `b` no link and no learned entry changes. -/
structure KeepsLinks (a b : Dev) : Prop where
  links : b.sw.links = a.sw.links
  fdb : b.sw.fdb = a.sw.fdb

theorem KeepsLinks.trans {a b c : Dev} (hab : KeepsLinks a b) (hbc : KeepsLinks b c) : KeepsLinks a c :=
  ⟨hbc.links.trans hab.links, hbc.fdb.trans hab.fdb⟩
theorem KeepsLinks.of_sw {a b : Dev} (h : b.sw = a.sw) : KeepsLinks a b := ⟨by rw [h], by rw [h]⟩
theorem KeepsLinks.link {a b : Dev} (h : KeepsLinks a b) (p : Nat) : b.sw.link p = a.sw.link p := Switch.link_congr h.links p

theorem KeepsLinks.foldl {α : Type} {f : Dev → α → Dev} (hf : ∀ d x, KeepsLinks d (f d x)) (l : List α) (d : Dev) : KeepsLinks d (l.foldl f d) :=
  ⟨foldl_keeps (g := fun d => d.sw.links) (fun d x => (hf d x).links) l d, foldl_keeps (g := fun d => d.sw.fdb) (fun d x => (hf d x).fdb) l d⟩

theorem KeepsLinks.dropWhere (d : Dev) (p c : Nat) (w : Drop) (f : Copy → Bool) : KeepsLinks d (d.dropWhere p c w f) := by
  unfold Dev.dropWhere
  extract_lets q out keep d'
  have hcells : KeepsLinks d d' :=
    ⟨foldl_keeps (g := Switch.links) (fun w x => Switch.unref_links ..) out d.sw, foldl_keeps (g := Switch.fdb) (fun w x => Switch.unref_fdb ..) out d.sw⟩
  exact hcells.trans (.of_sw (foldl_keeps (g := Dev.sw) (fun d x => Dev.dropped_sw ..) out d'))

theorem KeepsLinks.setSw {d : Dev} {f : Switch → Switch} (hlinks : (f d.sw).links = d.sw.links) (hfdb : (f d.sw).fdb = d.sw.fdb) :
    KeepsLinks d (d.setSw f) := ⟨hlinks, hfdb⟩

theorem KeepsLinks.flushPort (d : Dev) (p : Nat) (w : Drop) : KeepsLinks d (d.flushPort p w) := by
  unfold Dev.flushPort
  exact .foldl (fun d c => (KeepsLinks.dropWhere d p c w _).trans (.setSw rfl rfl)) _ _

/-- The end of a hold: the port is not held, and what it has learned is gone (R106, R118). -/
theorem Dev.holdFlush_eq (d : Dev) (p : Nat) :
    ∃ e, KeepsLinks (d.setLink p fun l => { l with held := false }) e ∧ d.holdFlush p = e.forget fun e => e.port == p :=
  ⟨((d.setLink p fun l => { l with held := false }).flushPort p .down).event (srcPort p) 0x0060 (min (d.waitingCopies p) 0xFFFFFFFF),
    (KeepsLinks.flushPort ..).trans (.of_sw (Dev.event_sw ..)), rfl⟩

theorem Dev.holdFlush_link (d : Dev) (p : Nat) : (d.holdFlush p).sw.link p = { d.sw.link p with held := false } := by
  obtain ⟨e, hkeeps, he⟩ := Dev.holdFlush_eq d p
  rw [he]
  exact (hkeeps.link p).trans (Dev.setLink_link ..)

theorem Dev.holdFlush_fdb (d : Dev) (p : Nat) : (d.holdFlush p).sw.fdb.all (fun e => e.port != p) = true := by
  obtain ⟨e, -, he⟩ := Dev.holdFlush_eq d p
  rw [he, List.all_eq_true]
  intro x hx
  exact (List.mem_filter.1 hx).2

/-! ### A link goes down (R117) -/

/-- The link is not reported up, and it does not qualify. -/
def LinkDown (d : Dev) (p : Nat) : Prop := (d.sw.link p).up = false ∧ (d.sw.link p).qualifying = false

theorem LinkDown.of_link {a b : Dev} {p : Nat} (h : LinkDown a p) (hlink : b.sw.link p = a.sw.link p) : LinkDown b p := by
  rw [LinkDown, hlink]
  exact h

theorem Dev.linkDown_linkDown (d : Dev) (p : Nat) : LinkDown (d.linkDown p) p := by
  unfold Dev.linkDown
  split
  · extract_lets a b e
    have ha : LinkDown a p := by simp [LinkDown, a]
    have hb : LinkDown b p := ha.of_link ((KeepsLinks.foldl (fun d c => KeepsLinks.dropWhere ..) _ a).link p)
    have he : LinkDown e p := hb.of_link (by simp only [e, Dev.event_sw, Dev.count_sw])
    split
    · exact he
    · split
      · simpa [LinkDown, Dev.holdFlush_link] using he
      · simpa [LinkDown] using he
  · rename_i hup
    simpa [LinkDown] using hup

/-! ### The gallery link is lost: frames of the device may leave (R69, R390) -/

theorem Dev.sendTcm_links (d : Dev) (p : Nat) (f : Frame) : (d.sendTcm p f).sw.links = d.sw.links := by
  unfold Dev.sendTcm
  extract_lets n
  split
  · rfl
  · rw [(Dev.countDrop_only ..).sw_eq (by decide)]
  · rfl

theorem Dev.sendSwitched_links (d : Dev) (vid : Nat) (f : Frame) (n : Nat) : (d.sendSwitched vid f n).sw.links = d.sw.links := by
  unfold Dev.sendSwitched
  extract_lets v ports
  split
  · rfl
  · exact foldl_keeps (g := fun d => d.sw.links) (fun d q => Dev.sendTcm_links d q _) _ _

theorem Dev.ndpRespond_links (d : Dev) (o : Origin) (op : Nat) (status : Status) (payload : Bytes) :
    (d.ndpRespond o op status payload).sw.links = d.sw.links := by
  unfold Dev.ndpRespond
  split
  · rfl
  · exact Dev.sendSwitched_links ..

theorem Dev.setMbBytes_sw (d : Dev) (w : Nat → Field) (b : Bytes) : (d.setMbBytes w b).sw = d.sw := by
  unfold Dev.setMbBytes
  exact foldl_keeps (g := Dev.sw) (fun d x => by simp) _ _

theorem Dev.mbDone_sw (d : Dev) (len total code busy done : Field) (data : Nat → Field) (read : Bool) (status : Status) (tot : Nat) (b : Bytes) :
    (d.mbDone len total code busy done data read status tot b).sw = d.sw := by
  unfold Dev.mbDone
  split
  · simp [Dev.setMbBytes_sw]
  · simp

/-- A response changes the switch only where it leaves as a datagram. -/
theorem Dev.respond_links (d : Dev) (o : Origin) (read : Bool) (status : Status) (desc : Bytes) (total : Nat) (b : Bytes) :
    (d.respond o read status desc total b).sw.links = d.sw.links := by
  unfold Dev.respond
  extract_lets d' body
  split
  · exact congrArg Switch.links ((Dev.sdoAnswer_only ..).sw_eq (by decide))
  · exact Dev.ndpRespond_links ..
  · exact congrArg Switch.links ((Dev.ctrl_only ..).sw_eq (by decide))
  · rfl
  · split
    · exact congrArg Switch.links ((Dev.bridgeDictDone_only ..).sw_eq (by decide))
    · split
      · rfl
      · exact congrArg Switch.links (Dev.mbDone_sw ..)
  · exact congrArg Switch.links (Dev.mbDone_sw ..)

theorem Dev.finish_links (d : Dev) (key : Nat) (status : Status) : (d.finish key status).sw.links = d.sw.links := by
  unfold Dev.finish
  split
  · rfl
  · exact Dev.respond_links ..

theorem Dev.hallDone_links (d : Dev) (h : Nat) (s : Status) (detail : Nat) : (d.hallDone h s detail).sw.links = d.sw.links :=
  Dev.finish_links ..

theorem Dev.migEnd_links (d : Dev) (s : Status) : (d.migEnd s).sw.links = d.sw.links := by
  unfold Dev.migEnd
  split
  · rfl
  · rename_i m hm
    extract_lets h us a b
    have ha : a.sw = d.sw := (Dev.migSend_only ..).sw_eq (by decide)
    have hb : b.sw = d.sw := ((Dev.migDone_only ..).sw_eq (by decide)).trans (((Dev.hallThaw_only ..).sw_eq (by decide)).trans ha)
    split
    · rw [Dev.hallDone_links, ha]
    · split
      · rw [Dev.hallDone_links, hb]
      · rw [hb]

theorem Dev.galleryLaneDown_links (d : Dev) (n : Nat) : (d.galleryLaneDown n).sw.links = d.sw.links := by
  unfold Dev.galleryLaneDown
  extract_lets was a b
  have ha : a.sw = d.sw := (Dev.laneDown_only ..).sw_eq (by decide)
  have hb : b.sw.links = d.sw.links := (Dev.migEnd_links ..).trans (by rw [ha])
  split
  · split
    · rw [(Dev.setRole_only ..).sw_eq (by decide), hb]
    · exact hb
  · rw [ha]

/-- A port's link is down with it, whatever its stations and a gallery port's lane lose (R118, R495). -/
theorem Dev.portDown_linkDown (d : Dev) (p : Nat) : LinkDown (d.portDown p) p := by
  unfold Dev.portDown
  extract_lets a
  have ha : LinkDown a p := by
    unfold a
    split
    · exact (Dev.linkDown_linkDown d p).of_link (by rw [(Dev.portSlotsLost_only ..).sw_eq (by decide)])
    · exact Dev.linkDown_linkDown d p
  split
  · exact ha.of_link (Switch.link_congr (Dev.galleryLaneDown_links ..) p)
  · exact ha

/-! ### Transmit disable (R116) -/

/-- XTXDIS follows the port's STATE alone once the wait has ended. -/
theorem xtxdisReleaseOp_eq {d : Dev} {p : Nat} (hfirst : 40 ≤ p) (hlast : p ≤ 47) (hwait : (d.sw.link p).modeWait = true) :
    xtxdisReleaseOp p d =
      (d.setLink p fun l => { l with modeWait := false }).emit (.line "XTXDIS" (p - 40) (d.get (Ent.Port.STATE p) == 0)) := by
  have hlevel : (d.setLink p fun l => { l with modeWait := false }).xtxdis p = (d.get (Ent.Port.STATE p) == 0) := by
    rw [Dev.xtxdis, Dev.setLink_link, Bool.or_false]
    rfl
  rw [xtxdisReleaseOp, if_pos ⟨hfirst, hlast, hwait⟩, Dev.driveXtxdis, if_pos ⟨hfirst, hlast⟩, hlevel]

/-! ### Gate schedules (R105, R137, R138) -/

@[simp] theorem Dev.setSched_sched (d : Dev) (p : Nat) (f : Sched → Sched) : (d.setSched p f).sw.sched p = f (d.sw.sched p) :=
  KV.get_put_same ..

/-- The gates take their new state; what closes is counted in queues and counters (R105, R139). -/
theorem Dev.setGates_sched (d : Dev) (p g : Nat) : (d.setGates p g).sw.sched p = { d.sw.sched p with gates := g } := by
  unfold Dev.setGates
  extract_lets old shut a
  have ha : a.sw.sched p = { d.sw.sched p with gates := g } := Dev.setSched_sched ..
  refine (foldl_keeps (g := fun d => d.sw.sched p) (fun d k => ?_) _ a).trans ha
  dsimp only
  split
  · split
    · split
      · rw [Dev.count_sw]
        rfl
      · rfl
    · rfl
  · rfl

theorem gateIntervalEndOp_next {d : Dev} {p g e : Nat} {l : GateList} (hoper : (d.sw.sched p).oper = some l)
    (hnext : l.steps[(d.sw.sched p).pos + 1]? = some (g, e)) :
    (gateIntervalEndOp p d).sw.sched p = { d.sw.sched p with pos := (d.sw.sched p).pos + 1, gates := g } := by
  simp only [gateIntervalEndOp, hoper, hnext, Dev.setGates_sched, Dev.setSched_sched]

/-- After the last entry the next cycle begins, where no change time is pending that could leave it out. -/
theorem gateIntervalEndOp_cycle {d : Dev} {p : Nat} {l : GateList} (hoper : (d.sw.sched p).oper = some l) (hpending : (d.sw.sched p).pending = none)
    (hlast : l.steps[(d.sw.sched p).pos + 1]? = none) :
    (gateIntervalEndOp p d).sw.sched p = { d.sw.sched p with
      pos := 0, start := (d.sw.sched p).start + l.cycle, gates := ((l.steps[0]?).map (·.1)).getD (d.sw.sched p).gates } := by
  have hextended : (d.sw.sched p).extendedAt ((d.sw.sched p).start + l.cycle) = false := by simp [Sched.extendedAt, hoper, hpending]
  simp only [gateIntervalEndOp, hoper, hlast, hextended, Bool.false_eq_true, ite_false, Dev.setGates_sched, Dev.setSched_sched]

theorem gclChangeOp_sched {d : Dev} {p : Nat} {m : GateList} (hpending : (d.sw.sched p).pending = some m) :
    (gclChangeOp p d).sw.sched p = { d.sw.sched p with
      oper := some m, pending := none, pos := 0, start := m.ct, changeNs := m.ct, gates := ((m.steps[0]?).map (·.1)).getD 0xFF } := by
  simp only [gclChangeOp, hpending, Dev.setGates_sched, Dev.gclPromoted, Dev.event_sw, Dev.setSched_sched]

/-! ### The obligation -/

/-- Settles O9, command by command: tables, links, gate schedules. -/
theorem forwardingAndPortCommands : Obligations.ForwardingAndPortCommands := by
  unfold Obligations.ForwardingAndPortCommands
  intro s hlive
  refine ⟨?fdbFlush, ?fdbAging, ?unblock, ?clear, ?recovery, ?qualify, ?up, ?down, ?hold, ?xtxdis, ?interval, ?change⟩
  case fdbFlush =>
    intro v
    rw [gives_iff_of_onDev (f := fdbFlushOp v) rfl hlive]
    exact ⟨rfl, Only.of_fresh (fdbFlushOp_only v _)⟩
  case fdbAging =>
    intro mac vid
    rw [gives_iff_of_onDev (f := fdbAgingOp mac vid) rfl hlive]
    exact ⟨rfl, Only.of_fresh (fdbAgingOp_only mac vid _)⟩
  case unblock =>
    intro n k hn
    rw [gives_iff_of_onDev (f := streamUnblockOp n) rfl hlive]
    exact ⟨streamUnblockOp_stream hn _, Only.of_fresh (streamUnblockOp_only n _)⟩
  case clear =>
    intro n k hn
    rw [gives_iff_of_onDev (f := streamClearOp n) rfl hlive]
    exact ⟨streamClearOp_stream hn _, Only.of_fresh (streamClearOp_only n _)⟩
  case recovery =>
    intro n
    rw [gives_iff_of_onDev (f := recoveryResetTimeoutOp n) rfl hlive]
    exact ⟨Dev.setStream_stream .., Only.of_fresh (recoveryResetTimeoutOp_only n _)⟩
  case qualify =>
    intro p hp hallowed hdown
    rw [gives_iff_of_onDev (f := linkQualifyStartOp p) rfl hlive]
    refine ⟨?_, Only.of_fresh (linkQualifyStartOp_only p _)⟩
    rw [linkQualifyStartOp_eq (d := s.dev.fresh) hp hallowed hdown]
    exact Dev.setLink_link ..
  case up =>
    intro p hqualified hdown hallowed
    rw [gives_iff_of_onDev (f := linkUpOp p) rfl hlive]
    exact ⟨linkUpOp_link (d := s.dev.fresh) hqualified hdown hallowed, Only.of_fresh (linkUpOp_only p _)⟩
  case down =>
    intro p pins hp hup
    rw [gives_iff_of_onDev (f := linkDownOp p pins) rfl hlive]
    have hdown : LinkDown (linkDownOp p pins s.dev.fresh) p := by
      rw [linkDownOp, if_pos hp]
      exact Dev.portDown_linkDown ..
    exact ⟨hdown.1, hdown.2, Only.of_fresh (linkDownOp_only p pins _)⟩
  case hold =>
    intro p hheld
    rw [gives_iff_of_onDev (f := holdExpiryOp p) rfl hlive]
    have hop : holdExpiryOp p s.dev.fresh = s.dev.fresh.holdFlush p := if_pos hheld
    refine ⟨?_, ?_, Only.of_fresh (holdExpiryOp_only p _)⟩
    · rw [hop, Dev.holdFlush_link]
    · rw [hop]
      exact Dev.holdFlush_fdb ..
  case xtxdis =>
    intro p hfirst hlast hwait
    rw [gives_iff_of_onDev (f := xtxdisReleaseOp p) rfl hlive]
    have hop := xtxdisReleaseOp_eq (d := s.dev.fresh) hfirst hlast hwait
    refine ⟨?_, ?_, Only.of_fresh (xtxdisReleaseOp_only p _)⟩
    · rw [hop, Dev.emit_sw, Dev.setLink_link]
      rfl
    · rw [hop]
      rfl
  case interval =>
    intro p l hoper hpending
    rw [gives_iff_of_onDev (f := gateIntervalEndOp p) rfl hlive]
    refine ⟨?_, Only.of_fresh (gateIntervalEndOp_only p _)⟩
    split
    · rename_i g e hnext
      exact gateIntervalEndOp_next (d := s.dev.fresh) hoper hnext
    · rename_i hlast
      exact gateIntervalEndOp_cycle (d := s.dev.fresh) hoper hpending hlast
  case change =>
    intro p m hpending
    rw [gives_iff_of_onDev (f := gclChangeOp p) rfl hlive]
    exact ⟨gclChangeOp_sched (d := s.dev.fresh) hpending, Only.of_fresh (gclChangeOp_only p _)⟩

end Sys2Proof

/-! SUPPORT. The idle block: what a step does on an empty queue. The raw counter counts 1 ns ticks while PLL_TB runs and holds its value while it stands
still (R143). -/

namespace Sys2Proof

open Machine

/-! ### The idle tick (R143; log entry 1) -/

theorem idleTick_of_running {s : State} (h : s.dev.time.running = true) :
    idleTick s = { s with dev := { s.dev with time := { s.dev.time with raw := (s.dev.time.raw + 1) % 2 ^ 64 } } } :=
  if_pos h

theorem idleTick_of_stopped {s : State} (h : s.dev.time.running = false) : idleTick s = s :=
  if_neg (Bool.eq_false_iff.mp h)

/-! ### The obligation -/

/-- Settles O42: a step on an empty queue is an idle tick, which depends on the timebase alone. -/
theorem idleStepCountsOneTick : Obligations.IdleStepCountsOneTick := by
  unfold Obligations.IdleStepCountsOneTick
  refine ⟨fun s hempty hrunning => ?running, fun s hempty hstopped => ?stopped⟩
  case running => rw [step_of_pending_nil hempty, idleTick_of_running hrunning]
  case stopped => rw [step_of_pending_nil hempty, idleTick_of_stopped hstopped]

end Sys2Proof

/-! SUPPORT. The timebase over resets (R145): a cold or chip reset begins from a timebase at zero, the start-up after it writes no part of the adjustment, and
neither does a warm reset. -/

namespace Sys2Proof

open Sys2Proof.Machine

/-! ### The adjustment of the timebase -/

/-- What adjusts corrected time, and its quality: OFFSET, RATE, RATE_EPOCH, TGEN and the time quality (R144, R145, R155). -/
def Machine.TimeBase.adjustment (t : TimeBase) : Nat × Nat × Nat × Nat × Nat := (t.offset, t.rate, t.rateEpoch, t.tgen, t.quality)

theorem TimeBase.adjustment_eq_iff {t : TimeBase} {o r e g q : Nat} :
    t.adjustment = (o, r, e, g, q) ↔ t.offset = o ∧ t.rate = r ∧ t.rateEpoch = e ∧ t.tgen = g ∧ t.quality = q := by
  simp only [TimeBase.adjustment, Prod.mk.injEq]

/-- Whether the raw counter runs is no part of the adjustment. -/
@[simp] theorem TimeBase.adjustment_running (t : TimeBase) (v : Bool) : TimeBase.adjustment { t with running := v } = t.adjustment := rfl

/-! ### Operations that leave the timebase alone -/

theorem Only.time_eq {F : Foot} {a b : Dev} (h : Only F a b) (htime : Part.time ∉ F.parts) : b.time = a.time := h.keep .time htime

@[simp] theorem Dev.setDom_time (d : Dev) (k : Nat) (f : ClkDom → ClkDom) : (d.setDom k f).time = d.time := rfl
@[simp] theorem Dev.keptSat_time (d : Dev) : d.keptSat.time = d.time := (Dev.keptSat_only d).time_eq (by decide)
@[simp] theorem Dev.bootFailed_time (d : Dev) (f : BootFail) : (d.bootFailed f).time = d.time := (Dev.bootFailed_only d f).time_eq (by decide)
@[simp] theorem Dev.restoreStored_time (d : Dev) (cold : Bool) : (d.restoreStored cold).time = d.time := (Dev.restoreStored_only d cold).time_eq (by decide)
@[simp] theorem Dev.bootRom_time (d : Dev) : d.bootRom.2.time = d.time := (Dev.bootRom_only d).time_eq (by decide)
@[simp] theorem Dev.sscSet_time (d : Dev) (on : Bool) : (d.sscSet on).time = d.time := (Dev.sscSet_only d on).time_eq (by decide)
@[simp] theorem Dev.strapsRead_time (d : Dev) (env : BootEnv) : (d.strapsRead env).time = d.time := (Dev.strapsRead_only d env).time_eq (by decide)
@[simp] theorem Dev.dramStart_time (d : Dev) (env : BootEnv) : (d.dramStart env).time = d.time := (Dev.dramStart_only d env).time_eq (by decide)
@[simp] theorem Dev.mezzStart_time (d : Dev) : d.mezzStart.time = d.time := (Dev.mezzStart_only d).time_eq (by decide)
@[simp] theorem Dev.causeEvents_time (d : Dev) (r : ResetCause) : (d.causeEvents r).time = d.time := (Dev.causeEvents_only d r).time_eq (by decide)
@[simp] theorem Dev.migrateSettings_time (d : Dev) : d.migrateSettings.2.time = d.time := (Dev.migrateSettings_only d).time_eq (by decide)
@[simp] theorem storageMountOp_time (ms : Nat) (unclean : Bool) (d : Dev) : (storageMountOp ms unclean d).time = d.time :=
  (storageMountOp_only ms unclean d).time_eq (by decide)
@[simp] theorem Dev.logsOpen_time (d : Dev) (r : ResetCause) (wake : Bool) (strap : Nat) (boot : List (Nat × Nat)) :
    (d.logsOpen r wake strap boot).time = d.time := (Dev.logsOpen_only d r wake strap boot).time_eq (by decide)
@[simp] theorem Dev.hallsAbsent_time (d : Dev) : d.hallsAbsent.time = d.time := (Dev.hallsAbsent_only d).time_eq (by decide)
@[simp] theorem Dev.hallsStart_time (d : Dev) : d.hallsStart.time = d.time := (Dev.hallsStart_only d).time_eq (by decide)
@[simp] theorem Dev.unitsStart_time (d : Dev) (cold : Bool) : (d.unitsStart cold).time = d.time := (Dev.unitsStart_only d cold).time_eq (by decide)
@[simp] theorem Dev.loadImage_time (d : Dev) (i : Bytes) (warm : Bool) : (d.loadImage i warm).time = d.time := (Dev.loadImage_only ..).time_eq (by decide)
@[simp] theorem Dev.clearTasks_time (d : Dev) : d.clearTasks.time = d.time := (Dev.clearTasks_only d).time_eq (by decide)
@[simp] theorem Dev.setEngine_time (d : Dev) (st : Nat) : (d.setEngine st).time = d.time := (Dev.setEngine_only d st).time_eq (by decide)
@[simp] theorem Dev.sscEnds_time (d : Dev) : d.sscEnds.time = d.time := (Dev.sscEnds_only d).time_eq (by decide)
@[simp] theorem Dev.wakesFalse_time (d : Dev) : d.wakesFalse.time = d.time := (Dev.wakesFalse_only d).time_eq (by decide)
@[simp] theorem Dev.newChallenge_time (d : Dev) : d.newChallenge.time = d.time := (Dev.newChallenge_only d).time_eq (by decide)
@[simp] theorem Dev.holdChannels_time (d : Dev) : d.holdChannels.time = d.time := (Dev.holdChannels_only d).time_eq (by decide)
@[simp] theorem Dev.faultRefresh_time (d : Dev) : d.faultRefresh.time = d.time := (Dev.faultRefresh_only d).time_eq (by decide)
@[simp] theorem Dev.dictEmptied_time (d : Dev) : d.dictEmptied.time = d.time := (Dev.dictEmptied_only d).time_eq (by decide)
@[simp] theorem Dev.coresReset_time (d : Dev) : d.coresReset.time = d.time := (Dev.coresReset_only d).time_eq (by decide)
@[simp] theorem Dev.switchReset_time (d : Dev) : d.switchReset.time = d.time := (Dev.switchReset_only d).time_eq (by decide)
@[simp] theorem Dev.unitsReset_time (d : Dev) : d.unitsReset.time = d.time := (Dev.unitsReset_only d).time_eq (by decide)
@[simp] theorem Dev.twinReset_time (d : Dev) : d.twinReset.time = d.time := (Dev.twinReset_only d).time_eq (by decide)
@[simp] theorem Dev.defaultMarked_time (d : Dev) : d.defaultMarked.time = d.time := (Dev.defaultMarked_only d).time_eq (by decide)
@[simp] theorem Dev.hallsReset_time (d : Dev) : d.hallsReset.time = d.time := (Dev.hallsReset_only d).time_eq (by decide)
@[simp] theorem Dev.sharedSizeSet_time (d : Dev) : d.sharedSizeSet.time = d.time := (Dev.sharedSizeSet_only d).time_eq (by decide)
@[simp] theorem Dev.partsApplied_time (d : Dev) : d.partsApplied.time = d.time := (Dev.partsApplied_only d).time_eq (by decide)
@[simp] theorem Dev.hallsMibApplied_time (d : Dev) : d.hallsMibApplied.time = d.time := (Dev.hallsMibApplied_only d).time_eq (by decide)
@[simp] theorem Dev.nodesStart_time (d : Dev) : d.nodesStart.time = d.time := (Dev.nodesStart_only d).time_eq (by decide)
@[simp] theorem Dev.gclApplied_time (d : Dev) (p : Nat) : (d.gclApplied p).time = d.time := (Dev.gclApplied_only d p).time_eq (by decide)
@[simp] theorem Dev.unitStarts_time (d : Dev) (x : UnitId) : (d.unitStarts x).time = d.time := (Dev.unitStarts_only d x).time_eq (by decide)
@[simp] theorem Dev.setRole_time (d : Dev) (r : Nat) : (d.setRole r).time = d.time := (Dev.setRole_only d r).time_eq (by decide)
@[simp] theorem Dev.changeEnd_time (d : Dev) (st : Status) : (d.changeEnd st).time = d.time := (Dev.changeEnd_only d st).time_eq (by decide)
@[simp] theorem setPhase_time (p : Phase) (d : Dev) : (setPhase p d).time = d.time := rfl
@[simp] theorem Dev.warmRegs_time (d : Dev) : d.warmRegs.time = d.time := rfl

/-! ### Cold and chip resets (R441, R442) -/

theorem Dev.cleared_adjustment (d : Dev) (cold dram : Bool) : (d.cleared cold dram).time.adjustment = (0, 0, 0, 0, 0) := rfl

theorem Dev.afterReset_adjustment (d : Dev) (cold dram : Bool) : (d.afterReset cold dram).time.adjustment = (0, 0, 0, 0, 0) := by
  unfold Dev.afterReset
  extract_lets img result e n n1 n2 n3
  clear_value img result e
  have h1 : n1.time = n.time := by
    unfold n1
    split
    · exact Dev.putOct_time ..
    · rfl
  have h2 : n2.time = n1.time := by
    unfold n2
    split
    · rfl
    · exact Dev.putOct_time ..
  have h3 : n3.time.adjustment = (0, 0, 0, 0, 0) := by
    rw [Dev.keptSat_time, h2, h1]
    exact Dev.cleared_adjustment e cold dram
  split
  · rw [Dev.put_time, h3]
  · exact h3

theorem Dev.supplyLost_adjustment (d : Dev) : d.supplyLost.time.adjustment = (0, 0, 0, 0, 0) := by
  simp only [Dev.supplyLost, Dev.emit_time, Dev.afterReset_adjustment]

theorem Dev.chipReset_adjustment (d : Dev) (r : ResetCause) (dram : Bool) : (d.chipReset r dram).time.adjustment = (0, 0, 0, 0, 0) := by
  unfold Dev.chipReset
  extract_lets a b
  have hb : b.time = a.time := by
    unfold b
    split
    · exact Dev.count_time ..
    · rfl
  rw [Dev.emit_time, Dev.count_time, hb, Dev.put_time, Dev.afterReset_adjustment]

/-! ### The start-up (Table 19.8) -/

/-- A domain that starts lets the raw counter run, if it is TB's (R423). -/
@[simp] theorem Dev.domStarts_adjustment (d : Dev) (k : Nat) : (d.domStarts k).time.adjustment = d.time.adjustment := by
  unfold Dev.domStarts Dev.islandsRun Dev.tbRuns
  extract_lets sel
  repeat' split
  all_goals rfl

theorem Dev.clocksStart_adjustment (d : Dev) (env : BootEnv) : (d.clocksStart env).time.adjustment = d.time.adjustment := by
  have hdoms (e : Dev) : ((List.range 4).foldl (fun d k => (d.domStarts k).setDom k fun x => { x with locked := true, word := true }) e).time.adjustment =
      e.time.adjustment := foldl_keeps (g := fun d => d.time.adjustment) (fun d k => by simp) _ e
  simp only [Dev.clocksStart, apply_ite Dev.time, Dev.sscSet_time, ite_self, Dev.setTime_time, TimeBase.adjustment_running, hdoms]
  rfl

theorem Dev.armTask_adjustment (d : Dev) (r : TaskRec) (first : Nat) : (d.armTask r first).time.adjustment = d.time.adjustment := rfl

/-- A start of the engine arms trigger units; their counts are the timebase's only change. -/
theorem Dev.startEngine_adjustment (d : Dev) : d.startEngine.time.adjustment = d.time.adjustment := by
  simp only [Dev.startEngine, Dev.setEngine_time, Dev.clearTasks_time]
  exact foldl_keeps (g := fun d => d.time.adjustment) (fun d r => Dev.armTask_adjustment ..) _ d

theorem Dev.engineBoots_adjustment (d : Dev) (env : BootEnv) : (d.engineBoots env).time.adjustment = d.time.adjustment := by
  simp only [Dev.engineBoots, Dev.put_time, Dev.sscEnds_time]
  repeat' split
  all_goals simp [Dev.startEngine_adjustment]

/-- Of the steps of the start-up only the clocks and the engine touch the timebase at all. -/
theorem Dev.startUp_adjustment (d : Dev) (r : ResetCause) (wake : Bool) (env : BootEnv) : (d.startUp r wake env).time.adjustment = d.time.adjustment := by
  have hfails : (env.fails.foldl Dev.bootFailed d).time = d.time := foldl_keeps (g := Dev.time) Dev.bootFailed_time _ d
  have hmoved (l : List (Nat × Nat)) (e : Dev) : (l.foldl (fun d e => d.event srcUpdate e.1 e.2) e).time = e.time :=
    foldl_keeps (g := Dev.time) (fun d x => Dev.event_time ..) l e
  simp only [Dev.startUp, Dev.engineBoots_adjustment, Dev.unitsStart_time, apply_ite Dev.time, Dev.hallsAbsent_time, Dev.hallsStart_time, ite_self,
    Dev.logsOpen_time, storageMountOp_time, hmoved, Dev.migrateSettings_time, Dev.put_time, Dev.causeEvents_time, Dev.mezzStart_time, Dev.dramStart_time,
    Dev.strapsRead_time, Dev.clocksStart_adjustment, Dev.bootRom_time, Dev.restoreStored_time, hfails]

/-! ### Warm resets (R443) -/

/-- The engine's start is the only part of a warm reset that touches the timebase. -/
theorem Dev.engineReset_adjustment (d : Dev) (ms : Nat) : (d.engineReset ms).time.adjustment = d.time.adjustment := by
  unfold Dev.engineReset
  extract_lets old e a tasks b f g h
  have he : e.time = d.time := Dev.changeEnd_time ..
  clear_value old
  have ha : a.time = d.time := by
    unfold a
    split
    · rfl
    · split
      · rw [Dev.putOct_time, he]
      · exact he
  have hf : f.time = d.time := ha
  have hg : g.time = d.time := by
    unfold g
    split
    · exact hf
    · rw [Dev.loadImage_time, hf]
  have hh : h.time.adjustment = g.time.adjustment := by
    unfold h
    split
    · exact Dev.startEngine_adjustment g
    · rfl
  rw [Dev.put_time, hh, hg]

theorem Dev.warmReset_adjustment (d : Dev) (cause detail ms : Nat) : (d.warmReset cause detail ms).time.adjustment = d.time.adjustment := by
  have hgcl (l : List Nat) (e : Dev) : (l.foldl Dev.gclApplied e).time = e.time := foldl_keeps (g := Dev.time) Dev.gclApplied_time l e
  have hunits (l : List UnitId) (e : Dev) : (l.foldl Dev.unitStarts e).time = e.time := foldl_keeps (g := Dev.time) Dev.unitStarts_time l e
  unfold Dev.warmReset
  extract_lets record a held b c e f g h
  have ha : a.time = d.time := by
    rw [Dev.newChallenge_time, Dev.put_time, Dev.count_time, Dev.wakesFalse_time]
  clear_value a
  have hheld : held.time = a.time := by
    rw [Dev.faultRefresh_time, setPhase_time, Dev.holdChannels_time]
  clear_value held
  have hb : b.time = held.time := by
    rw [Dev.unitsReset_time, Dev.switchReset_time, Dev.coresReset_time, Dev.dictEmptied_time]
  clear_value b
  have hc : c.time = b.time := by
    rw [Dev.defaultMarked_time, setPhase_time, Dev.twinReset_time, Dev.warmRegs_time]
  clear_value c
  have he : e.time = c.time := by
    rw [Dev.hallsReset_time, Dev.eventSys_time]
  clear_value e
  have hf : f.time = e.time := by
    rw [hgcl, Dev.setD0_time, Dev.hallsMibApplied_time, Dev.partsApplied_time, Dev.sharedSizeSet_time]
  clear_value f
  have hg : g.time = f.time := by
    rw [Dev.nodesStart_time, hunits]
  have hh : h.time = g.time := by
    unfold h
    split
    · rfl
    · exact Dev.setRole_time ..
  rw [Dev.engineReset_adjustment, Dev.faultRefresh_time, hh, hg, hf, he, hc, hb, hheld, ha]

/-! ### The obligation -/

/-- Settles O53: resets that lose the supply or restart the chip begin at zero, and what follows a reset writes none of the five values. -/
theorem timebaseAtResets : Obligations.TimebaseAtResets := by
  unfold Obligations.TimebaseAtResets
  refine ⟨fun d r dram l wake env => ?zero, fun d cause detail ms => ?kept⟩
  case zero =>
    have hstarted : (d.supplyLost.startUp l wake env).time.adjustment = (0, 0, 0, 0, 0) := by
      rw [Dev.startUp_adjustment, Dev.supplyLost_adjustment]
    have hrestarted : (d.chipRestart r wake dram env).time.adjustment = (0, 0, 0, 0, 0) := by
      rw [Dev.chipRestart, Dev.startUp_adjustment, Dev.chipReset_adjustment]
    simp only [← TimeBase.adjustment_eq_iff, List.forall_mem_cons]
    exact ⟨Dev.supplyLost_adjustment d, Dev.chipReset_adjustment d r dram, hrestarted, hstarted, List.forall_mem_nil _⟩
  case kept => exact TimeBase.adjustment_eq_iff.1 (Dev.warmReset_adjustment d cause detail ms)

end Sys2Proof

/-! SUPPORT. Trigger units and steps of time (R146, R158, R159, R161): a unit of software that fires counts and is armed again, whatever its target does; of the
timebase a firing moves pulses and counts only, so a step of time moves OFFSET and TGEN alone, whatever units it passes. -/

namespace Sys2Proof

open Sys2Proof.Machine

/-! ### What a firing leaves of the timebase (R158, R159) -/

/-- The timebase without what its trigger units have running: the pulses of the pins and the firings counted against COUNT. -/
def Machine.TimeBase.untriggered (t : TimeBase) : TimeBase := { t with pulses := [], trigCount := [] }

@[simp] theorem TimeBase.untriggered_pulses (t : TimeBase) (m : KV Nat) : TimeBase.untriggered { t with pulses := m } = t.untriggered := rfl
@[simp] theorem TimeBase.untriggered_trigCount (t : TimeBase) (m : KV Nat) : TimeBase.untriggered { t with trigCount := m } = t.untriggered := rfl

theorem TimeBase.adjustment_of_untriggered {t u : TimeBase} (h : t.untriggered = u.untriggered) : t.adjustment = u.adjustment :=
  show t.untriggered.adjustment = u.untriggered.adjustment by rw [h]

theorem TimeBase.pending_of_untriggered {t u : TimeBase} (h : t.untriggered = u.untriggered) : t.pending = u.pending :=
  show t.untriggered.pending = u.untriggered.pending by rw [h]

@[simp] theorem Dev.pinOut_time (d : Dev) (n : Nat) (pulse : Bool) : (d.pinOut n pulse).time = d.time := rfl
@[simp] theorem Dev.standbyInstant_time (d : Dev) (t at_ : Nat) : (d.standbyInstant t at_).time = d.time := (Dev.standbyInstant_only ..).time_eq (by decide)
@[simp] theorem Dev.taskInstant_time (d : Dev) (t at_ missed : Nat) : (d.taskInstant t at_ missed).time = d.time :=
  (Dev.taskInstant_only ..).time_eq (by decide)
@[simp] theorem Dev.startSeq_time (d : Dev) (a s : Nat) : (d.startSeq a s).time = d.time := (Dev.startSeq_only ..).time_eq (by decide)
@[simp] theorem Dev.pwmRestart_time (d : Dev) (n : Nat) : (d.pwmRestart n).time = d.time := (Dev.pwmRestart_only ..).time_eq (by decide)
@[simp] theorem Dev.refSend_time (d : Dev) (n fired period : Nat) (standby : Bool) : (d.refSend n fired period standby).time = d.time :=
  (Dev.refSend_only ..).time_eq (by decide)
@[simp] theorem Dev.unitEvent_time (d : Dev) (u at_ : Nat) : (d.unitEvent u at_).time = d.time := (Dev.unitEvent_only ..).time_eq (by decide)
@[simp] theorem Dev.schedStepped_time (d : Dev) (p : Nat) : (d.schedStepped p).time = d.time := (Dev.schedStepped_only d p).time_eq (by decide)

theorem Dev.limited_time {d : Dev} {scope n : Nat} {f : Dev → Nat → Dev} (hf : ∀ d k, (f d k).time = d.time) : (d.limited scope n f).time = d.time := by
  unfold Dev.limited
  split
  · exact hf _ _
  · rfl

theorem Dev.startPulse_untriggered (d : Dev) (n : Nat) : (d.startPulse n).time.untriggered = d.time.untriggered := by
  unfold Dev.startPulse
  extract_lets was e
  have he : e.time.untriggered = d.time.untriggered := rfl
  split
  · rfl
  · split
    · exact he
    · exact he

theorem Dev.trigTarget_untriggered (d : Dev) (u at_ missed period : Nat) : (d.trigTarget u at_ missed period).time.untriggered = d.time.untriggered := by
  unfold Dev.trigTarget
  extract_lets k n
  clear_value k
  split
  · split <;> simp
  · split <;> simp
  · split <;> simp
  · split <;> simp
  · split
    · exact Dev.startPulse_untriggered d n
    · rfl
  · rfl

theorem Dev.fireUnit_untriggered (d : Dev) (u : Nat) (step : Bool) : (d.fireUnit u step).time.untriggered = d.time.untriggered := by
  unfold Dev.fireUnit
  extract_lets nxt per own fired counted
  have hcounted : counted.time.untriggered = d.time.untriggered := by
    simp only [counted, Dev.setTime_time, Dev.count_time, TimeBase.untriggered_trigCount]
  split
  · rfl
  split
  · rfl
  extract_lets n missed stepped limit rearmed armed target
  have hstepped : stepped.time = counted.time := by
    unfold stepped
    split
    · rfl
    · rw [Dev.limited_time fun d k => Dev.event_time ..]
      split
      · rfl
      · exact Dev.count_time ..
  have harmed : armed.time = stepped.time := by
    unfold armed
    split
    · rfl
    · split <;> rfl
  have htarget : target.time.untriggered = d.time.untriggered := by
    rw [Dev.trigTarget_untriggered, Dev.raise_time, harmed, hstepped, hcounted]
  split
  · rw [Dev.unitEvent_time, htarget]
  · exact htarget

/-! ### Steps of time (R146) -/

theorem Dev.moveTime_time (d : Dev) (s : Int) :
    (d.moveTime s).time = { d.time.noted with offset := ofInt 64 ((d.time.offset : Int) + s), tgen := (d.time.tgen + 1) % 256 } := by
  simp only [Dev.moveTime, Dev.eventSys_time, Dev.count_time, Dev.setTime_time]

/-- A step moves OFFSET and counts TGEN; what it passes and what it makes late changes nothing more of the timebase but triggers (R140, R161). -/
theorem Dev.stepTime_untriggered (d : Dev) (s : Int) : (d.stepTime s).time.untriggered = (d.moveTime s).time.untriggered := by
  unfold Dev.stepTime
  extract_lets moved fired
  have hfired : fired.time.untriggered = moved.time.untriggered := by
    unfold fired
    split
    · exact foldl_keeps (g := fun d => d.time.untriggered) (fun d u => Dev.fireUnit_untriggered d u true) _ moved
    · rfl
  rw [foldl_keeps (g := Dev.time) Dev.schedStepped_time, hfired]

theorem Dev.stepTime_adjustment (d : Dev) (s : Int) : (d.stepTime s).time.adjustment =
    (ofInt 64 ((d.time.offset : Int) + s), d.time.rate, d.time.rateEpoch, (d.time.tgen + 1) % 256, d.time.quality) := by
  rw [TimeBase.adjustment_of_untriggered (Dev.stepTime_untriggered d s), Dev.moveTime_time]
  rfl

theorem Dev.stepTime_pending (d : Dev) (s : Int) : (d.stepTime s).time.pending = d.time.pending := by
  rw [TimeBase.pending_of_untriggered (Dev.stepTime_untriggered d s), Dev.moveTime_time]
  rfl

/-! ### What a firing leaves of the unit's entries (R158) -/

theorem Fam.base_le_of_has {f : Fam} {k : Nat} (h : f.has k) : f.base ≤ k := by
  obtain ⟨a, b, c, hkey⟩ := h
  omega

/-- An entry stays as it is where every listed family has another subindex or begins after it. -/
theorem Only.get_eq_before {F : Foot} {a b : Dev} {e : Entry} {sub bound : Nat} (h : Only F a b) (hdict : Part.dict ∉ F.parts) (hsub : e.sub = sub)
    (hbound : e.key < bound) (hents : F.ents.all (fun f => f.misses sub || decide (bound ≤ f.base)) = true) : b.get e = a.get e := by
  subst hsub
  have hfind : KV.find e.key b.dict = KV.find e.key a.dict := by
    refine h.keep .dict hdict e.key fun f hf hhas => ?_
    have hcase := List.all_eq_true.1 hents f hf
    rw [Bool.or_eq_true, decide_eq_true_eq] at hcase
    rcases hcase with hmiss | hlater
    · exact Fam.not_has_of_misses hmiss hhas
    · exact absurd (Fam.base_le_of_has hhas) (by omega)
  simp only [Dev.get, KV.get, hfind]

/-- The entry shows what a trigger unit is to do next, or has done: NEXT_NS or FIRED (Table 6.9). -/
abbrev UnitShows (u : Nat) (e : Entry) : Prop := u < 32 ∧ (e = Ent.Trgu.NEXT_NS u ∨ e = Ent.Trgu.FIRED u)

theorem UnitShows.key_lt {u : Nat} {e : Entry} (h : UnitShows u e) : e.key < 0x3720 * 256 := by
  obtain ⟨hu, rfl | rfl⟩ := h
  · simp only [Entry.key, Ent.Trgu.NEXT_NS]
    omega
  · simp only [Entry.key, Ent.Trgu.FIRED]
    omega

theorem Only.get_unitShows {F : Foot} {a b : Dev} {u : Nat} {e : Entry} (h : Only F a b) (he : UnitShows u e) (hdict : Part.dict ∉ F.parts)
    (hnext : F.ents.all (fun f => f.misses 0x10 || decide (0x3720 * 256 ≤ f.base)) = true)
    (hfired : F.ents.all (fun f => f.misses 0x11 || decide (0x3720 * 256 ≤ f.base)) = true) : b.get e = a.get e := by
  have hkey := he.key_lt
  obtain ⟨-, rfl | rfl⟩ := he
  · exact h.get_eq_before hdict rfl hkey hnext
  · exact h.get_eq_before hdict rfl hkey hfired

/-- A target that is no scan task leaves the unit's own entries alone (Table 6.5). -/
theorem Dev.trigTarget_get {d : Dev} {u : Nat} {e : Entry} (he : UnitShows u e) (htarget : d.get (Ent.Trgu.TARGET u) / 4096 ≠ 1)
    (at_ missed period : Nat) : (d.trigTarget u at_ missed period).get e = d.get e := by
  unfold Dev.trigTarget
  extract_lets k n
  have hk : k ≠ 1 := htarget
  clear_value k
  split
  · contradiction
  · split
    · exact (Dev.startSeq_only ..).get_unitShows he (by decide) (by decide) (by decide)
    · rfl
  · split
    · exact (Dev.pwmRestart_only ..).get_unitShows he (by decide) (by decide) (by decide)
    · rfl
  · split
    · exact (Dev.refSend_only ..).get_unitShows he (by decide) (by decide) (by decide)
    · rfl
  · split
    · exact (Dev.startPulse_only ..).get_unitShows he (by decide) (by decide) (by decide)
    · rfl
  · rfl

theorem Dev.unitEvent_get {d : Dev} {u : Nat} {e : Entry} (he : UnitShows u e) (at_ : Nat) : (d.unitEvent u at_).get e = d.get e :=
  (Dev.unitEvent_only ..).get_unitShows he (by decide) (by decide) (by decide)

theorem Dev.count_fired_get (d : Dev) {u : Nat} (hu : u < 32) :
    (d.count (trigUnitCounter u 0)).get (Ent.Trgu.FIRED u) = min (d.get (Ent.Trgu.FIRED u) + 1) (2 ^ 64 - 1) := by
  refine Dev.count_same d (trigUnitCounter u 0) 1 rfl ?_ ?_
  · simp only [trigUnitCounter, Entry.key, Ent.Trgu.COUNTER_SAT]
    omega
  · simp only [trigUnitCounter, Entry.key, logKeys, Ent.Evlog.LAST_SEQ, Ent.Evlog.LOG_LOST, List.mem_cons, List.not_mem_nil, or_false]
    omega

/-- The settings of a unit stand before its counters (Table 6.9): counting leaves them alone. -/
theorem Dev.count_fired_get_setting (d : Dev) {u : Nat} (hu : u < 32) {e : Entry} (hidx : e.idx = 0x3700 + u) (hsub : e.sub < 0x11) :
    (d.count (trigUnitCounter u 0)).get e = d.get e := by
  refine Dev.count_get d (trigUnitCounter u 0) 1 _ _ ?_ ?_ ?_
  · simp only [trigUnitCounter, Entry.key]
    omega
  · simp only [trigUnitCounter, Entry.key, Ent.Trgu.COUNTER_SAT]
    omega
  · simp only [Entry.key, logKeys, Ent.Evlog.LAST_SEQ, Ent.Evlog.LOG_LOST, List.mem_cons, List.not_mem_nil, or_false]
    omega

/-- A unit of software with a period and no count limit fires, in time, and is armed again: it counts, and NEXT_NS moves by whole periods. -/
theorem triggerFireOp_of_software {d : Dev} {u late : Nat} (hu : u < 32) (henabled : d.flag (Ent.Trgu.ENABLE u) = true)
    (howner : d.get (Ent.Trgu.OWNER u) = 0) (htarget : d.get (Ent.Trgu.TARGET u) / 4096 ≠ 1) (hcount : d.get (Ent.Trgu.COUNT u) = 0)
    (hperiod : d.get (Ent.Trgu.PERIOD_NS u) ≠ 0) (hlate : d.behind (d.get (Ent.Trgu.NEXT_NS u)) = some late) {e : Entry} (he : UnitShows u e) :
    (triggerFireOp u d).get e = ((d.count (trigUnitCounter u 0)).put (Ent.Trgu.NEXT_NS u)
      (d.get (Ent.Trgu.NEXT_NS u) + (late / d.get (Ent.Trgu.PERIOD_NS u) + 1) * d.get (Ent.Trgu.PERIOD_NS u))).get e := by
  unfold triggerFireOp Dev.fireUnit
  extract_lets nxt per own fired counted
  have hper : per = d.get (Ent.Trgu.PERIOD_NS u) := by simp [per, Dev.trigPeriod, howner]
  have hsettings {x : Entry} (hidx : x.idx = 0x3700 + u) (hsub : x.sub < 0x11) : counted.get x = d.get x :=
    Dev.count_fired_get_setting d hu hidx hsub
  have hkept : (counted.put (Ent.Trgu.NEXT_NS u) (nxt + (late / per + 1) * per)).get e =
      ((d.count (trigUnitCounter u 0)).put (Ent.Trgu.NEXT_NS u) (nxt + (late / per + 1) * per)).get e := rfl
  rw [if_neg (by simp [henabled, hu])]
  split
  case h_1 hnone => exact absurd (hnone.symm.trans hlate) (by simp)
  case h_2 x hsome =>
    obtain rfl : x = late := Option.some.inj (hsome.symm.trans hlate)
    extract_lets n missed stepped limit rearmed armed target
    have hn : n = x / per := if_neg (by rw [hper]; exact hperiod)
    have hlimit : limit = 0 := (hsettings rfl (by simp [Ent.Trgu.COUNT])).trans hcount
    have harmed : armed = rearmed := by
      unfold armed
      rw [if_neg (by simp [hlimit, hper, hperiod]), if_neg (by simp [own, howner])]
    have hsame : (armed.raise (32 + u)).get (Ent.Trgu.TARGET u) = d.get (Ent.Trgu.TARGET u) := by
      rw [Dev.raise_get, harmed, Dev.get_put_other _ _ (by simp [Entry.key, Ent.Trgu.TARGET, Ent.Trgu.NEXT_NS])]
      exact hsettings rfl (by simp [Ent.Trgu.TARGET])
    have hfired : target.get e = rearmed.get e := by
      rw [Dev.trigTarget_get he (by rw [hsame]; exact htarget), Dev.raise_get, harmed]
    rw [if_pos howner, Dev.unitEvent_get he, hfired, ← hper]
    simp only [rearmed, hn]
    exact hkept

/-! ### The obligation -/

theorem triggerPulseEndOp_of_ended {d : Dev} {n x : Nat} (hpulse : KV.find n d.time.pulses = some x) (hend : x ≤ d.time.raw) :
    triggerPulseEndOp n d = (d.setTime fun t => { t with pulses := KV.erase n t.pulses }).pinOut n false := by
  rw [triggerPulseEndOp, if_pos (by simp [hpulse, hend])]

/-- Settles O11: a firing counts and re-arms the unit, and its target leaves the unit's entries alone; a pulse ends at its level. -/
theorem triggerCommands : Obligations.TriggerCommands := by
  unfold Obligations.TriggerCommands
  intro s hlive
  refine ⟨?fire, ?pulse⟩
  case fire =>
    intro u hu henabled howner htarget hcount hperiod hdue
    rw [gives_iff_of_onDev (f := triggerFireOp u) rfl hlive]
    have hentry {e : Entry} (he : UnitShows u e) := triggerFireOp_of_software (d := s.dev.fresh) hu henabled howner htarget hcount hperiod
      (if_pos hdue) he
    refine ⟨?_, ?_, Only.of_fresh (triggerFireOp_only u _)⟩
    · rw [hentry ⟨hu, .inr rfl⟩, Dev.get_put_other _ _ (by simp [Entry.key, Ent.Trgu.FIRED, Ent.Trgu.NEXT_NS]), Dev.count_fired_get _ hu]
      rfl
    · rw [hentry ⟨hu, .inl rfl⟩, Dev.get_put_same]
      rfl
  case pulse =>
    intro n x hpulse hend
    rw [gives_iff_of_onDev (f := triggerPulseEndOp n) rfl hlive]
    have hop := triggerPulseEndOp_of_ended (d := s.dev.fresh) hpulse hend
    refine ⟨?_, ?_, Only.of_fresh (triggerPulseEndOp_only n _)⟩
    · rw [hop]
      exact KV.find_erase_same ..
    · rw [hop]
      simp [Dev.pinOut]

end Sys2Proof

/-! SUPPORT. The timebase's commands (R144 to R155): snapshots and captures, adjustments taken at one tick, the time quality, PTP messages. -/

namespace Sys2Proof

open Sys2Proof.Machine

/-! ### The time quality (R155) -/

theorem Dev.setQuality_time (d : Dev) (q : Nat) : (d.setQuality q).time =
    if d.time.quality = q then d.time
    else { d.time with quality := q % 4, goodSyncs := 0, holdoverAt := if q = 3 then some d.time.raw else none } := by
  unfold Dev.setQuality
  split
  · rfl
  · simp only [Dev.eventSys_time, Dev.setTime_time]

theorem Dev.setQuality_quality (d : Dev) {q : Nat} (hq : q < 4) : (d.setQuality q).time.quality = q := by
  rw [Dev.setQuality_time]
  split
  · assumption
  · exact Nat.mod_eq_of_lt hq

theorem Dev.setQuality_adjustment (d : Dev) {q : Nat} (hq : q < 4) :
    (d.setQuality q).time.adjustment = (d.time.offset, d.time.rate, d.time.rateEpoch, d.time.tgen, q) := by
  rw [Dev.setQuality_time]
  split
  case isTrue hsame =>
    rw [← hsame]
    rfl
  case isFalse => rw [TimeBase.adjustment, Nat.mod_eq_of_lt hq]

theorem Dev.setQuality_pending (d : Dev) (q : Nat) : (d.setQuality q).time.pending = d.time.pending := by
  rw [Dev.setQuality_time]
  split <;> rfl

theorem Dev.setQuality_grandmaster (d : Dev) (q : Nat) : (d.setQuality q).time.grandmaster = d.time.grandmaster := by
  rw [Dev.setQuality_time]
  split <;> rfl

/-- A change of the quality is an event: of the entries it writes the log's own. -/
theorem Dev.setQuality_get (d : Dev) (q : Nat) {e : Entry} (hlog : e.key ∉ logKeys) : (d.setQuality q).get e = d.get e := by
  unfold Dev.setQuality
  extract_lets old
  split
  · rfl
  · exact Dev.eventSys_get _ _ _ _ _ none hlog

/-! ### Adjustments (R146) -/

/-- The adjustment once all parts of `a` are taken together: the old rate folded into OFFSET, then the step, then the quality. -/
def Machine.TimeBase.taken (t : TimeBase) (a : Adjust) : Nat × Nat × Nat × Nat × Nat :=
  (a.step.elim (foldedOffset t a.rate) fun x => ofInt 64 ((foldedOffset t a.rate : Int) + x), a.rate.elim t.rate (ofInt 32),
    a.rate.elim t.rateEpoch fun _ => t.raw, a.step.elim t.tgen fun _ => (t.tgen + 1) % 256, a.quality.getD t.quality)

/-- The timebase when the rate of an adjustment is taken. -/
def Machine.TimeBase.rated (t : TimeBase) (rate : Option Int) : TimeBase := { rate.elim t t.newRate with pending := none }

theorem TimeBase.rated_adjustment (t : TimeBase) (rate : Option Int) : (t.rated rate).adjustment =
    (foldedOffset t rate, rate.elim t.rate (ofInt 32), rate.elim t.rateEpoch fun _ => t.raw, t.tgen, t.quality) := by
  cases rate <;> rfl

/-- A step at the tick of a rate: the quality still stands. -/
theorem Dev.stepTime_of_rated {d : Dev} {t : TimeBase} {rate : Option Int} (hrated : d.time = t.rated rate) (x : Int) :
    (d.stepTime x).time.adjustment = t.taken ⟨rate, some x, none⟩ ∧ (d.stepTime x).time.pending = none := by
  have hadjustment := TimeBase.rated_adjustment t rate
  rw [← hrated, TimeBase.adjustment_eq_iff] at hadjustment
  obtain ⟨hoffset, hrate, hepoch, htgen, hquality⟩ := hadjustment
  constructor
  · rw [Dev.stepTime_adjustment, hoffset, hrate, hepoch, htgen, hquality, TimeBase.taken, Option.elim_some, Option.elim_some, Option.getD_none]
  · rw [Dev.stepTime_pending, hrated, TimeBase.rated]

theorem Dev.takeAdjust_time (d : Dev) {a : Adjust} (hquality : (a.quality.all fun q => decide (q < 4)) = true) :
    (d.takeAdjust a).time.adjustment = d.time.taken a ∧ (d.takeAdjust a).time.pending = none := by
  obtain ⟨rate, step, quality⟩ := a
  unfold Dev.takeAdjust
  extract_lets rated stepped
  have hrated : rated.time = d.time.rated rate := by cases rate <;> rfl
  have hstepped : stepped.time.adjustment = d.time.taken ⟨rate, step, none⟩ ∧ stepped.time.pending = none := by
    cases step with
    | none =>
      simp only [stepped, hrated]
      exact ⟨TimeBase.rated_adjustment d.time rate, rfl⟩
    | some x =>
      simp only [stepped]
      exact Dev.stepTime_of_rated hrated x
  clear_value stepped
  obtain ⟨hadjustment, hpending⟩ := hstepped
  cases quality with
  | none => exact ⟨hadjustment, hpending⟩
  | some q =>
    obtain ⟨hoffset, hrate, hepoch, htgen, -⟩ := TimeBase.adjustment_eq_iff.1 hadjustment
    have hq : q < 4 := of_decide_eq_true hquality
    refine ⟨?_, (Dev.setQuality_pending stepped q).trans hpending⟩
    rw [Dev.setQuality_adjustment stepped hq, hoffset, hrate, hepoch, htgen]
    rfl

/-- What the statement says of each of the three ticks, and the tick's own footprint. -/
theorem adjustTick_taken {d : Dev} {a : Adjust} {p : Adjust → Bool} (hpending : d.time.pending = some a) (hp : p a = true)
    (hquality : (a.quality.all fun q => decide (q < 4)) = true) :
    (d.adjustTick p).time.adjustment = d.time.taken a ∧ (d.adjustTick p).time.pending = none := by
  have htick : d.adjustTick p = d.takeAdjust a := by simp [Dev.adjustTick, hpending, hp]
  rw [htick]
  exact Dev.takeAdjust_time d hquality

/-- A clear of OVERRUN, if the word written asks for it. -/
def Machine.Dev.adjCleared (d : Dev) (v : Nat) : Dev := if bit v 30 then d.setFld Rg.Tb.OVERRUN 0 else d

/-- The device when a write of `v` to ADJ_CTRL has set its fields, the clear of OVERRUN first. -/
def Machine.Dev.adjWritten (d : Dev) (v : Nat) : Dev :=
  ((((d.adjCleared v).setFld Rg.Tb.DO_QUALITY (bits v 6 6)).setFld Rg.Tb.QUALITY_NEW (bits v 5 4)).setFld Rg.Tb.DO_STEP (bits v 1 1)).setFld
    Rg.Tb.DO_RATE (bits v 0 0)

/-- The adjustment that a write of `v` with GO asks for. -/
def Machine.Dev.adjAsked (d : Dev) (v : Nat) : Adjust where
  rate := if bit v 0 then some (toInt 32 (d.fld Rg.Tb.ADJ_RATE)) else none
  step := if bit v 1 then some (toInt 64 (d.fld Rg.Tb.ADJ_STEP_LO + d.fld Rg.Tb.ADJ_STEP_HI * 2 ^ 32)) else none
  quality := if bit v 6 then some (bits v 5 4) else none

theorem Dev.adjCleared_time (d : Dev) (v : Nat) : (d.adjCleared v).time = d.time := by
  unfold Dev.adjCleared
  split
  · exact Dev.setFld_time ..
  · rfl

theorem Dev.adjCleared_out (d : Dev) (v : Nat) : (d.adjCleared v).out = d.out := by
  unfold Dev.adjCleared
  split
  · exact Dev.setFld_out ..
  · rfl

theorem Dev.adjWritten_out (d : Dev) (v : Nat) : (d.adjWritten v).out = d.out := by
  rw [Dev.adjWritten, Dev.setFld_out, Dev.setFld_out, Dev.setFld_out, Dev.setFld_out, Dev.adjCleared_out]

/-- The fields of ADJ_CTRL stand in one word; the words of the parts are others. -/
theorem Dev.adjWritten_fld (d : Dev) (v : Nat) {f : Machine.Field} (hf : f.addr ≠ Rg.Tb.OVERRUN.addr) : (d.adjWritten v).fld f = d.fld f := by
  rw [Dev.adjWritten, Dev.fld_setFld_other (f := Rg.Tb.DO_RATE) _ _ hf, Dev.fld_setFld_other (f := Rg.Tb.DO_STEP) _ _ hf,
    Dev.fld_setFld_other (f := Rg.Tb.QUALITY_NEW) _ _ hf, Dev.fld_setFld_other (f := Rg.Tb.DO_QUALITY) _ _ hf, Dev.adjCleared]
  split
  · exact Dev.fld_setFld_other _ _ hf
  · rfl

theorem Dev.adjWritten_adjAsked (d : Dev) (v : Nat) : (d.adjWritten v).adjAsked v = d.adjAsked v := by
  rw [Dev.adjAsked, Dev.adjAsked, Dev.adjWritten_fld d v (f := Rg.Tb.ADJ_RATE) (by decide), Dev.adjWritten_fld d v (f := Rg.Tb.ADJ_STEP_LO) (by decide),
    Dev.adjWritten_fld d v (f := Rg.Tb.ADJ_STEP_HI) (by decide)]

theorem adjGoOp_of_go {d : Dev} {v : Nat} (hpending : d.time.pending = none) (hgo : bit v 31 = true) :
    adjGoOp 0 v d = ((d.adjWritten v).setTime fun t => { t with pending := (d.adjAsked v).rest }).answer .ok := by
  rw [← Dev.adjWritten_adjAsked]
  unfold adjGoOp
  rw [if_neg (not_not_intro rfl)]
  extract_lets cleared fields a pended
  have hcleared : cleared.time.pending = none := (congrArg TimeBase.pending (Dev.adjCleared_time d v)).trans hpending
  have hpended : pended = fields.setTime fun t => { t with pending := a.rest } := if_pos hgo
  rw [hcleared, hpended]
  rfl

/-! ### Captures (R149, R150) -/

theorem trigEdgeCaptureOp_captures {d : Dev} {n phase : Nat} {rising : Bool} (hdir : d.get (Ent.Trgp.DIR n) = 0)
    (hedge : bit (d.get (Ent.Trgp.EDGE n)) (if rising then 0 else 1) = true) (hroom : (KV.get [] n d.time.captures).length < 4) :
    KV.get [] n (trigEdgeCaptureOp n rising phase d).time.captures = KV.get [] n d.time.captures ++
      [⟨d.time.corrected256 d.time.raw phase / 256 % 2 ^ 32, d.time.corrected256 d.time.raw phase % 256, d.time.tgen, rising⟩] := by
  unfold trigEdgeCaptureOp
  extract_lets e q c
  rw [if_pos ⟨hdir, hedge⟩, if_pos hroom]
  exact KV.get_insert_same ..

theorem capturePopOp_of_cons {d : Dev} {n : Nat} {c : Capture} {r : List Capture} (hfifo : KV.get [] n d.time.captures = c :: r) :
    capturePopOp n d = (d.setTime fun t => { t with captures := KV.put [] n r t.captures }).answer .ok c.time := by
  rw [capturePopOp, hfifo]

/-! ### PTP messages: what their stamps leave alone (R151) -/

@[simp] theorem Dev.sendTcm_time (d : Dev) (p : Nat) (f : Frame) : (d.sendTcm p f).time = d.time := (Dev.sendTcm_only d p f).time_eq (by decide)
@[simp] theorem Dev.setPtpState_time (d : Dev) (p st : Nat) : (d.setPtpState p st).time = d.time := (Dev.setPtpState_only d p st).time_eq (by decide)
@[simp] theorem Dev.setGrandmaster_time (d : Dev) (gm : Nat) : (d.setGrandmaster gm).time = d.time := (Dev.setGrandmaster_only d gm).time_eq (by decide)

/-- The entry is none of the log's, and it stands before a port's stamp counters in its index (Table 6.7). -/
abbrev StampFree (e : Entry) : Prop := e.idx < 0x5000 ∧ e.sub < 0x12

theorem StampFree.notMem_logKeys {e : Entry} (h : StampFree e) : e.key ∉ logKeys := by
  obtain ⟨hidx, hsub⟩ := h
  simp only [logKeys, Ent.Evlog.LAST_SEQ, Ent.Evlog.LOG_LOST, Entry.key, List.mem_cons, List.not_mem_nil, or_false]
  omega

theorem stampFree_of_port {e : Entry} {p : Nat} (hp : p < 48) (hidx : e.idx = 0x3640 + p) (hsub : e.sub < 0x12) : StampFree e := ⟨by omega, hsub⟩

theorem Dev.count_rxStamps_get (d : Dev) (p : Nat) {e : Entry} (h : StampFree e) : (d.count (rxStamps p)).get e = d.get e := by
  have hlog := h.notMem_logKeys
  obtain ⟨hidx, hsub⟩ := h
  refine Dev.count_get_other d _ _ _ _ _ ?_ ?_ hlog
  · simp only [Entry.key, Ent.Ptime.RX_STAMPS]
    omega
  · simp only [Entry.key, Ent.Ptime.COUNTER_SAT]
    omega

theorem Dev.count_txStamps_get (d : Dev) (p : Nat) {e : Entry} (h : StampFree e) : (d.count (txStamps p)).get e = d.get e := by
  have hlog := h.notMem_logKeys
  obtain ⟨hidx, hsub⟩ := h
  refine Dev.count_get_other d _ _ _ _ _ ?_ ?_ hlog
  · simp only [Entry.key, Ent.Ptime.TX_STAMPS]
    omega
  · simp only [Entry.key, Ent.Ptime.COUNTER_SAT]
    omega

theorem Dev.ptpOn_port {d : Dev} {p : Nat} (h : d.ptpOn p = true) : p < 48 := by
  simp only [Dev.ptpOn, Bool.and_eq_true, decide_eq_true_eq] at h
  omega

/-! ### PTP messages received (R151 to R153) -/

theorem Dev.setPtpState_get (d : Dev) {p st : Nat} (hp : p < 48) (hst : st < 256) : (d.setPtpState p st).get (Ent.Ptime.PORT_STATE p) = st := by
  unfold Dev.setPtpState
  split
  · assumption
  · have hfree : StampFree (Ent.Ptime.PORT_STATE p) := stampFree_of_port hp rfl (by simp [Ent.Ptime.PORT_STATE])
    rw [Dev.event_get _ _ _ _ none hfree.notMem_logKeys, Dev.get_put_same]
    exact Nat.mod_eq_of_lt hst

theorem Dev.setGrandmaster_get (d : Dev) (gm : Nat) {e : Entry} (hlog : e.key ∉ logKeys) : (d.setGrandmaster gm).get e = d.get e := by
  unfold Dev.setGrandmaster
  split
  · rfl
  · exact Dev.eventSys_get _ _ _ _ _ none hlog

theorem ptpMessageReceiveOp_announce_eq {d : Dev} {p dom gm st : Nat} {self : Bool} (hon : d.ptpOn p = true) (hdom : dom = d.get Ent.Prof.DOMAIN) :
    ptpMessageReceiveOp p dom (.announce gm st self) d =
      let e := ((d.setPtpState p (d.ptpPortState p st)).setGrandmaster gm).setTime fun t => { t with grandmaster := self && !d.flag Ent.Prof.SLAVE_ONLY }
      if (self && !d.flag Ent.Prof.SLAVE_ONLY) = true ∧ (!d.time.grandmaster) = true then e.setQuality 2 else e := by
  subst hdom
  simp [ptpMessageReceiveOp, hon, ptpRx]

/-- An Announce is taken: the port has the state that the selection gives it, and the device is grandmaster if it is selected (R153). -/
theorem ptpMessageReceiveOp_announce {d : Dev} {p dom gm st : Nat} {self : Bool} (hon : d.ptpOn p = true) (hdom : dom = d.get Ent.Prof.DOMAIN)
    (hst : d.ptpPortState p st < 256) :
    (ptpMessageReceiveOp p dom (.announce gm st self) d).get (Ent.Ptime.PORT_STATE p) = d.ptpPortState p st ∧
      (ptpMessageReceiveOp p dom (.announce gm st self) d).time.grandmaster = (self && !d.flag Ent.Prof.SLAVE_ONLY) := by
  have hp := Dev.ptpOn_port hon
  have hfree : StampFree (Ent.Ptime.PORT_STATE p) := stampFree_of_port hp rfl (by simp [Ent.Ptime.PORT_STATE])
  rw [ptpMessageReceiveOp_announce_eq hon hdom]
  extract_lets e
  have hstate : e.get (Ent.Ptime.PORT_STATE p) = d.ptpPortState p st :=
    (Dev.setGrandmaster_get _ gm hfree.notMem_logKeys).trans (Dev.setPtpState_get d hp hst)
  split
  · exact ⟨(Dev.setQuality_get e 2 hfree.notMem_logKeys).trans hstate, Dev.setQuality_grandmaster e 2⟩
  · exact ⟨hstate, rfl⟩

/-- The receive stamp does not depend on how many stamps the port has taken. -/
theorem Dev.rxStampAt_count_rxStamps (d : Dev) {p : Nat} (hp : p < 48) (x : FrameStamp) : (d.count (rxStamps p)).rxStampAt p x = d.rxStampAt p x := by
  have hfree : StampFree (Ent.Ptime.RX_ADJ p) := stampFree_of_port hp rfl (by simp [Ent.Ptime.RX_ADJ])
  rw [Dev.rxStampAt, Dev.getInt, Dev.count_time, Dev.count_rxStamps_get d p hfree]
  rfl

theorem Dev.peerDelay_count_rxStamps (d : Dev) (p : Nat) : (d.count (rxStamps p)).peerDelay p = d.peerDelay p := by
  have hfree : StampFree Ent.Prof.PROFILE := by decide
  rw [Dev.peerDelay, Dev.fixedDelay, Dev.count_rxStamps_get d p hfree]
  rfl

theorem ptpMessageReceiveOp_pdelayResp {d : Dev} {p dom t1 t2 t3 : Nat} {corr : Int} {x : FrameStamp} (hon : d.ptpOn p = true)
    (hpeer : d.peerDelay p = true) (hdom : dom = d.get Ent.Prof.DOMAIN) (hsent : KV.find (2 * p) d.time.sent = some t1) :
    ptpMessageReceiveOp p dom (.pdelayResp t2 t3 corr x) d =
      (d.count (rxStamps p)).setDelay p ((stampDiff (d.rxStampAt p x) t1 - ((t3 : Int) - t2) * 256 - corr / 256) / 2) := by
  have hfree : StampFree Ent.Prof.DOMAIN := by decide
  have hdomain : ¬ dom ≠ (d.count (rxStamps p)).get Ent.Prof.DOMAIN := by
    rw [Dev.count_rxStamps_get d p hfree, hdom]
    exact not_not_intro rfl
  have hrx : (ptpRx (.pdelayResp t2 t3 corr x)).isSome = true := rfl
  unfold ptpMessageReceiveOp
  rw [if_neg (by simp [hon]), if_pos hrx, if_neg hdomain]
  simp only [Dev.count_time, hsent, Dev.peerDelay_count_rxStamps, hpeer, if_true, Dev.rxStampAt_count_rxStamps d (Dev.ptpOn_port hon)]

theorem Dev.setDelay_get (d : Dev) (p : Nat) (v : Int) : (d.setDelay p v).get (Ent.Ptime.MEAN_LINK_DELAY p) = min v.toNat (2 ^ 32 - 1) := by
  rw [Dev.setDelay, Dev.get_put_same]
  exact Nat.mod_eq_of_lt (Nat.lt_of_le_of_lt (Nat.min_le_right ..) (by simp [Ent.Ptime.MEAN_LINK_DELAY]))

/-! ### PTP messages sent (R152) -/

@[simp] theorem Dev.ptpOut_out (d : Dev) (p : Nat) (k : PtpKind) (seq : Nat) (twoStep : Bool) (corr : Int) (body : Bytes) :
    (d.ptpOut p k seq twoStep corr body).out = d.out ++ [.send k.name p 0 (d.ptpWire p k seq twoStep corr body)] :=
  Dev.sendTcm_out ..

@[simp] theorem Dev.ptpOut_time (d : Dev) (p : Nat) (k : PtpKind) (seq : Nat) (twoStep : Bool) (corr : Int) (body : Bytes) :
    (d.ptpOut p k seq twoStep corr body).time = d.time :=
  Dev.sendTcm_time ..

theorem Dev.ptpWire_count_txStamps (d : Dev) (q p : Nat) (k : PtpKind) (seq : Nat) (twoStep : Bool) (corr : Int) (body : Bytes) :
    (d.count (txStamps q)).ptpWire p k seq twoStep corr body = d.ptpWire p k seq twoStep corr body := by
  have hprofile : StampFree Ent.Prof.PROFILE := by decide
  have hdomain : StampFree Ent.Prof.DOMAIN := by decide
  have hsync : StampFree Ent.Prof.LOG_SYNC := by decide
  rw [Dev.ptpWire, Dev.clockId, Dev.getInt, Dev.count_txStamps_get d q hprofile, Dev.count_txStamps_get d q hdomain, Dev.count_txStamps_get d q hsync,
    Dev.count_board]
  rfl

/-- The timebase counts one more message sent. -/
def Machine.Dev.ptpNumbered (d : Dev) : Dev := d.setTime fun t => { t with ptpSeq := (t.ptpSeq + 1) % 65536 }

theorem ptpMessageSendOp_syncOrigin {d : Dev} {p phase latency : Nat} (hon : d.ptpOn p = true) (hone : d.flag Ent.Prof.ONE_STEP = true) :
    ptpMessageSendOp p .syncOrigin phase latency d = (d.ptpNumbered.count (txStamps p)).ptpOut p .sync d.time.ptpSeq false 0
      (stampBytes (d.txStampAt p ⟨d.time.raw, phase, latency⟩)) := by
  have hfree : StampFree Ent.Prof.ONE_STEP := by decide
  have hflag : (d.ptpNumbered.count (txStamps p)).flag Ent.Prof.ONE_STEP = true := by
    rw [Dev.flag, Dev.count_txStamps_get _ p hfree]
    exact hone
  unfold ptpMessageSendOp
  extract_lets peer t seq e stamped noted
  rw [if_neg (by simp [hon, peer])]
  exact if_pos hflag

/-! ### Timeouts of the quality (R155) -/

theorem syncTimeoutOp_time {d : Dev} (hquality : d.time.quality = 2) (hmaster : d.time.grandmaster = false) (hlost : d.syncLost = true) :
    (syncTimeoutOp d).time = { d.time with quality := 3, goodSyncs := 0, holdoverAt := some d.time.raw } := by
  rw [syncTimeoutOp, if_pos ⟨hquality, hmaster, hlost⟩, Dev.setQuality_time, if_neg (by omega), if_pos rfl]

theorem holdoverTimeoutOp_quality {d : Dev} (hquality : d.time.quality = 3)
    (hlong : (d.time.holdoverAt.all fun t => d.passed t (d.get Ent.Prof.HOLDOVER_S * 1000000000)) = true) : (holdoverTimeoutOp d).time.quality = 0 := by
  rw [holdoverTimeoutOp, if_pos ⟨hquality, hlong⟩]
  exact Dev.setQuality_quality d (by decide)

/-! ### SET_TIME (R154) -/

theorem setTimeOp_profile4 {d : Dev} (v : Nat) (hprofile : d.get Ent.Prof.PROFILE = 4) :
    setTimeOp v d = (d.stepTime (toInt 64 (ofInt 64 ((v : Int) - d.now)))).answer .ok := by
  rw [setTimeOp, if_neg (not_not_intro hprofile)]

/-! ### The obligation -/

/-- What each of the three ticks of an adjustment is stated to leave. -/
theorem taken_of_adjustTick {s d : Dev} {a : Adjust} (h : d.time.adjustment = s.time.taken a ∧ d.time.pending = none) {P : Prop} (hp : P) :
    d.time.rate = a.rate.elim s.time.rate (ofInt 32) ∧ (d.time.rateEpoch = a.rate.elim s.time.rateEpoch fun _ => s.time.raw) ∧
      (d.time.offset = a.step.elim (foldedOffset s.time a.rate) fun x => ofInt 64 ((foldedOffset s.time a.rate : Int) + x)) ∧
      (d.time.tgen = a.step.elim s.time.tgen fun _ => (s.time.tgen + 1) % 256) ∧ d.time.quality = a.quality.getD s.time.quality ∧
      d.time.pending = none ∧ P := by
  obtain ⟨hadjustment, hpending⟩ := h
  obtain ⟨hoffset, hrate, hepoch, htgen, hquality⟩ := TimeBase.adjustment_eq_iff.1 hadjustment
  exact ⟨hrate, hepoch, hoffset, htgen, hquality, hpending, hp⟩

/-- Settles O10, command by command: snapshots and adjustments, captures, PTP messages, timeouts. -/
theorem timebaseCommands : Obligations.TimebaseCommands := by
  unfold Obligations.TimebaseCommands
  intro s hlive
  refine ⟨?snapshot, ?go, ?rate, ?step, ?quality, ?set, ?edge, ?pop, ?announce, ?delay, ?sync, ?lost, ?holdover⟩
  case snapshot =>
    intro i
    rw [gives_iff_of_onDev (f := snapCaptureOp i) rfl hlive]
    exact ⟨rfl, KV.find_insert_same .., Only.of_fresh (snapCaptureOp_only i _)⟩
  case go =>
    intro v hpending hgo
    rw [gives_iff_of_onDev (f := adjGoOp 0 v) rfl hlive]
    have hop := adjGoOp_of_go (d := s.dev.fresh) hpending hgo
    refine ⟨?_, ?_, Only.of_fresh (adjGoOp_only 0 v _)⟩
    · rw [hop]
      rfl
    · rw [hop, Dev.answer_out, Dev.setTime_out, Dev.adjWritten_out]
      rfl
  case rate =>
    intro a hpending hsome hquality
    rw [gives_iff_of_onDev (f := timeRateChangeOp) rfl hlive]
    exact taken_of_adjustTick (s := s.dev.fresh) (adjustTick_taken hpending hsome hquality) (Only.of_fresh (timeRateChangeOp_only _))
  case step =>
    intro a hpending hsome hquality
    rw [gives_iff_of_onDev (f := timeStepOp) rfl hlive]
    exact taken_of_adjustTick (s := s.dev.fresh) (adjustTick_taken hpending hsome hquality) (Only.of_fresh (timeStepOp_only _))
  case quality =>
    intro a hpending hsome hquality
    rw [gives_iff_of_onDev (f := qualitySetOp) rfl hlive]
    exact taken_of_adjustTick (s := s.dev.fresh) (adjustTick_taken hpending hsome hquality) (Only.of_fresh (qualitySetOp_only _))
  case set =>
    intro v hprofile
    rw [gives_iff_of_onDev (f := setTimeOp v) rfl hlive]
    have hop := setTimeOp_profile4 (d := s.dev.fresh) v hprofile
    obtain ⟨hoffset, -, -, htgen, -⟩ := TimeBase.adjustment_eq_iff.1
      (Dev.stepTime_adjustment s.dev.fresh (toInt 64 (ofInt 64 ((v : Int) - s.dev.fresh.now))))
    refine ⟨?_, ?_, ?_, Only.of_fresh (setTimeOp_only v _)⟩
    · rw [hop, Dev.answer_time, hoffset]
      rfl
    · rw [hop, Dev.answer_time, htgen]
      rfl
    · rw [hop, Dev.answer_out]
      exact List.mem_append_right _ (List.mem_singleton.2 rfl)
  case edge =>
    intro n phase rising hdir hedge hroom
    rw [gives_iff_of_onDev (f := trigEdgeCaptureOp n rising phase) rfl hlive]
    exact ⟨trigEdgeCaptureOp_captures (d := s.dev.fresh) hdir hedge hroom, Only.of_fresh (trigEdgeCaptureOp_only n rising phase _)⟩
  case pop =>
    intro n c r hfifo
    rw [gives_iff_of_onDev (f := capturePopOp n) rfl hlive]
    have hop := capturePopOp_of_cons (d := s.dev.fresh) hfifo
    refine ⟨?_, ?_, Only.of_fresh (capturePopOp_only n _)⟩
    · rw [hop]
      rfl
    · rw [hop]
      exact KV.get_put_same ..
  case announce =>
    intro p dom gm st self hon hdom hst
    rw [gives_iff_of_onDev (f := ptpMessageReceiveOp p dom (.announce gm st self)) rfl hlive]
    obtain ⟨hstate, hmaster⟩ := ptpMessageReceiveOp_announce (d := s.dev.fresh) (gm := gm) (self := self) hon hdom hst
    exact ⟨hstate, hmaster, Only.of_fresh (ptpMessageReceiveOp_only p dom _ _)⟩
  case delay =>
    intro p dom t1 t2 t3 corr rx hon hpeer hdom hsent
    rw [gives_iff_of_onDev (f := ptpMessageReceiveOp p dom (.pdelayResp t2 t3 corr rx)) rfl hlive]
    refine ⟨?_, Only.of_fresh (ptpMessageReceiveOp_only p dom _ _)⟩
    rw [ptpMessageReceiveOp_pdelayResp (d := s.dev.fresh) hon hpeer hdom hsent, Dev.setDelay_get]
    rfl
  case sync =>
    intro p phase latency hon hone
    rw [gives_iff_of_onDev (f := ptpMessageSendOp p .syncOrigin phase latency) rfl hlive]
    have hop := ptpMessageSendOp_syncOrigin (d := s.dev.fresh) (phase := phase) (latency := latency) hon hone
    refine ⟨?_, ?_, Only.of_fresh (ptpMessageSendOp_only p _ phase latency _)⟩
    · rw [hop, Dev.ptpOut_time, Dev.count_time]
      rfl
    · rw [hop, Dev.ptpOut_out, Dev.ptpWire_count_txStamps, Dev.count_out]
      rfl
  case lost =>
    intro hquality hmaster hlost
    rw [gives_iff_of_onDev (f := syncTimeoutOp) rfl hlive]
    have htime := syncTimeoutOp_time (d := s.dev.fresh) hquality hmaster hlost
    refine ⟨?_, ?_, Only.of_fresh (syncTimeoutOp_only _)⟩
    · rw [htime]
    · rw [htime]
      rfl
  case holdover =>
    intro hquality hlong
    rw [gives_iff_of_onDev (f := holdoverTimeoutOp) rfl hlive]
    exact ⟨holdoverTimeoutOp_quality (d := s.dev.fresh) hquality hlong, Only.of_fresh (holdoverTimeoutOp_only _)⟩

end Sys2Proof

/-! SUPPORT. The register words of a CAN channel: what a field reads beside the fields and words that are written, and what an announcement (a bit of
the channel's interrupt word, a record of an event) leaves alone. -/

namespace Sys2Proof

open Sys2Proof.Machine

/-! ### Fields of one word -/

/-- Two fields of one word of 32 bits that share no bit. Of two fields of a register table it holds by computation. -/
structure Beside (f g : Field) : Prop where
  addr : g.addr = f.addr
  reset : g.wordReset = f.wordReset
  bits : (Nat.ble f.lo f.hi && Nat.ble g.lo g.hi && Nat.blt g.hi 32 && (Nat.blt f.hi g.lo || Nat.blt g.hi f.lo)) = true

theorem Dev.fld_setFld_of_beside (d : Dev) {f g : Field} (v : Nat) (h : Beside f g) : (d.setFld f v).fld g = d.fld g := by
  obtain ⟨haddr, hreset, hbits⟩ := h
  simp only [Bool.and_eq_true, Bool.or_eq_true, Nat.ble_eq, Nat.blt_eq] at hbits
  obtain ⟨⟨⟨hf, hg⟩, hword⟩, hapart⟩ := hbits
  exact Dev.fld_setFld_beside d v haddr hreset hf hg hword hapart

/-- A field of `w` bits in a word of 32. -/
structure Fits (f : Field) (w : Nat) : Prop where
  width : f.hi + 1 - f.lo = w
  bits : (Nat.ble f.lo f.hi && Nat.blt f.hi 32) = true

theorem Dev.fld_setFld_of_fits (d : Dev) {f : Field} {w : Nat} (v : Nat) (h : Fits f w) : (d.setFld f v).fld f = v % 2 ^ w := by
  obtain ⟨hwidth, hbits⟩ := h
  simp only [Bool.and_eq_true, Nat.ble_eq, Nat.blt_eq] at hbits
  rw [← hwidth]
  exact Dev.fld_setFld_same d v hbits.2 hbits.1

/-- A field of one bit that is set is 1. -/
theorem Dev.fld_eq_one_of_isSet {d : Dev} {f : Field} (hbit : Fits f 1) (hset : d.isSet f = true) : d.fld f = 1 := by
  have hlt : d.fld f < 2 ^ 1 := by
    rw [← hbit.width]
    exact Nat.mod_lt _ (Nat.two_pow_pos _)
  have hne : d.fld f ≠ 0 := bne_iff_ne.1 hset
  omega

/-! ### Words that stay as they are -/

/-- What a key reads after it was stored does not depend on the list it was stored in, whatever the list's default. -/
theorem KV.get_put_congr {α : Type} [DecidableEq α] (r d v : α) (k : Nat) (l m : KV α) :
    KV.get r k (KV.put d k v l) = KV.get r k (KV.put d k v m) := by
  unfold KV.put
  split
  · simp [KV.get]
  · simp [KV.get]

namespace WordsBut

theorem of_regs_eq {as : List Nat} {a b : Dev} (h : b.regs = a.regs) : WordsBut as a b := by
  intro x r _
  rw [Dev.word, Dev.word, h]

theorem setFld {as : List Nat} {a b : Dev} {f : Field} {v : Nat} (h : WordsBut as a b) (hf : f.addr ∈ as) : WordsBut as a (b.setFld f v) :=
  fun x r hx => (Dev.word_putWord_other b _ _ _ fun hxf : x = f.addr => hx (hxf ▸ hf)).trans (h x r hx)

theorem trans {as bs : List Nat} {a b c : Dev} (hab : WordsBut as a b) (hbc : WordsBut bs b c) (hsub : bs ⊆ as) : WordsBut as a c :=
  fun x r hx => (hbc x r fun hxb => hx (hsub hxb)).trans (hab x r hx)

theorem mono {as bs : List Nat} {a b : Dev} (h : WordsBut bs a b) (hsub : bs ⊆ as) : WordsBut as a b :=
  fun x r hx => h x r fun hxb => hx (hsub hxb)

/-- A word written on both sides agrees on both sides. -/
theorem setFld_both {as : List Nat} {a b : Dev} {f : Field} (h : WordsBut as a b) (v : Nat) (hf : f.addr ∉ as) :
    WordsBut as (a.setFld f v) (b.setFld f v) := by
  intro x r hx
  by_cases hxf : x = f.addr
  case pos =>
    subst hxf
    rw [Dev.setFld, Dev.setFld, h _ _ hf]
    exact KV.get_put_congr ..
  case neg => exact (Dev.word_putWord_other b _ _ _ hxf).trans ((h x r hx).trans (Dev.word_putWord_other a _ _ _ hxf).symm)

theorem fld {as : List Nat} {a b : Dev} (h : WordsBut as a b) {g : Field} (hg : g.addr ∉ as) : b.fld g = a.fld g := by
  rw [Dev.fld, Dev.fld, h g.addr g.wordReset hg]

end WordsBut

/-! ### The state and the interrupt word of a channel -/

@[simp] theorem Dev.canCh_setCan (d : Dev) (n : Nat) (f : CanCh → CanCh) : (d.setCan n f).canCh n = f (d.canCh n) := by
  simp [Dev.canCh, Dev.setCan]

/-- From `a` to `b` channel `n` only announces: bits of its interrupt word and records of events. -/
structure Announces (n : Nat) (a b : Dev) : Prop where
  words : WordsBut [(Rg.Ch.IRQ n).addr] a b
  get : ∀ e : Entry, e.key ∉ logKeys → b.get e = a.get e
  can : b.can = a.can

namespace Announces

variable {n : Nat} {a b c : Dev}

theorem refl (n : Nat) (a : Dev) : Announces n a a := ⟨.of_regs_eq rfl, fun _ _ => rfl, rfl⟩

theorem trans (hab : Announces n a b) (hbc : Announces n b c) : Announces n a c :=
  ⟨hab.words.trans hbc.words (List.Subset.refl _), fun e he => (hbc.get e he).trans (hab.get e he), hbc.can.trans hab.can⟩

theorem canIrq (n : Nat) (a : Dev) (i : Nat) : Announces n a (a.canIrq n i) :=
  ⟨WordsBut.setFld (.of_regs_eq rfl) (List.mem_singleton.2 rfl), fun _ _ => rfl, Dev.setFldBit_can ..⟩

theorem event (n : Nat) (a : Dev) (source code data : Nat) : Announces n a (a.event source code data) :=
  ⟨.of_regs_eq (Dev.event_regs ..), fun _ he => Dev.event_get a source code data none he, Dev.event_can ..⟩

/-- An event of a limited scope (R548). -/
theorem limited (n : Nat) (a : Dev) (scope count source code : Nat) (data : Nat → Nat) :
    Announces n a (a.limited scope count fun d c => d.event source code (data c)) := by
  unfold Dev.limited
  split
  · exact ⟨.of_regs_eq (Dev.event_regs ..), fun _ he => Dev.event_get _ source code _ none he, Dev.event_can ..⟩
  · exact ⟨.of_regs_eq rfl, fun _ _ => rfl, rfl⟩

theorem ite {p : Prop} [Decidable p] (h : Announces n a b) : Announces n a (if p then b else a) := by
  split
  · exact h
  · exact refl n a

theorem setFld {f : Field} (h : Announces n a b) (v : Nat) (hf : f.addr ≠ (Rg.Ch.IRQ n).addr) :
    Announces n (a.setFld f v) (b.setFld f v) :=
  ⟨h.words.setFld_both v (mt List.mem_singleton.1 hf), h.get, h.can⟩

theorem fld (h : Announces n a b) {g : Field} (hg : g.addr ≠ (Rg.Ch.IRQ n).addr) : b.fld g = a.fld g :=
  h.words.fld (mt List.mem_singleton.1 hg)

theorem canCh (h : Announces n a b) (m : Nat) : b.canCh m = a.canCh m := by
  rw [Dev.canCh, Dev.canCh, h.can]

end Announces

/-! ### Counters of a channel (Table 7.9) -/

theorem canCounter_key_notMem_logKeys (n : Nat) {i : Nat} (hi : i < 10) : (canCounter n i).entry.key ∉ logKeys := by
  simp only [canCounter, ctr, logKeys, Ent.Evlog.LAST_SEQ, Ent.Evlog.LOG_LOST, Entry.key, List.mem_cons, List.not_mem_nil, or_false]
  omega

/-- A counter of a channel counts, and stops at all ones (R47). -/
theorem Dev.count_canCounter (d : Dev) (n m : Nat) {i : Nat} (hi : i < 10) :
    (d.count (canCounter n i) m).get (canCounter n i).entry = min (d.get (canCounter n i).entry + m) (2 ^ 64 - 1) := by
  refine Dev.count_same d _ m rfl ?_ (canCounter_key_notMem_logKeys n hi)
  simp only [canCounter, ctr, Ent.CanSt.COUNTER_SAT, Entry.key]
  omega

end Sys2Proof

/-! SUPPORT. Receive objects (R175): a frame for an object that is not locked is stored in its words, and a frame that nobody has read is lost. -/

namespace Sys2Proof

open Sys2Proof.Machine

/-! ### The words of an object (Table 7.3) -/

def objDataAddrs (n k : Nat) : List Nat := (List.range 16).map fun i => (Rg.Obj.DATA n k i).addr

/-- The words that a stored frame takes: header, identifier, stamps, sequence number and data. -/
def objAddrs (n k : Nat) : List Nat :=
  [(Rg.Obj.NEW n k).addr, (Rg.Obj.ID n k).addr, (Rg.Obj.STAMP n k).addr, (Rg.Obj.TGEN n k).addr, (Rg.Obj.RXSEQ n k).addr] ++ objDataAddrs n k

theorem mem_objDataAddrs {n k a : Nat} : a ∈ objDataAddrs n k ↔ ∃ i, i < 16 ∧ a = (Rg.Obj.NEW n k).addr + 4 * i + 0x10 := by
  simp [objDataAddrs, Rg.Obj.DATA, Rg.Obj.NEW, eq_comm]

/-- An object's words lie in its own 128 bytes. -/
theorem objAddrs_bounds {n k a : Nat} (h : a ∈ objAddrs n k) : (Rg.Obj.NEW n k).addr ≤ a ∧ a < (Rg.Obj.NEW n k).addr + 0x80 := by
  rw [objAddrs, List.mem_append, mem_objDataAddrs] at h
  obtain hfixed | ⟨i, hi, rfl⟩ := h
  · simp only [Rg.Obj.NEW, Rg.Obj.ID, Rg.Obj.STAMP, Rg.Obj.TGEN, Rg.Obj.RXSEQ, List.mem_cons, List.not_mem_nil, or_false] at hfixed ⊢
    omega
  · omega

/-- No word of an object is a word of another object of the channel. -/
theorem notMem_objAddrs_of_ne {n j k a : Nat} (hjk : j ≠ k) (h : a ∈ objAddrs n j) : a ∉ objAddrs n k := by
  intro hk
  have hj := objAddrs_bounds h
  have hk := objAddrs_bounds hk
  simp only [Rg.Obj.NEW] at hj hk
  omega

/-- No word of an object is the channel's interrupt word. -/
theorem irq_notMem_objAddrs (n k : Nat) : (Rg.Ch.IRQ n).addr ∉ objAddrs n k := by
  intro h
  have hbounds := objAddrs_bounds h
  simp only [Rg.Obj.NEW, Rg.Ch.IRQ] at hbounds
  omega

theorem objAddrs_ne_irq {n k a : Nat} (h : a ∈ objAddrs n k) : a ≠ (Rg.Ch.IRQ n).addr :=
  fun ha => irq_notMem_objAddrs n k (ha ▸ h)

/-- The header is the first word alone. -/
theorem new_notMem_tail (n k : Nat) : (Rg.Obj.NEW n k).addr ∉ (objAddrs n k).tail := by
  intro h
  rw [objAddrs, List.cons_append, List.tail_cons, List.mem_append, mem_objDataAddrs] at h
  simp only [Rg.Obj.NEW, Rg.Obj.ID, Rg.Obj.STAMP, Rg.Obj.TGEN, Rg.Obj.RXSEQ, List.mem_cons, List.not_mem_nil, or_false] at h
  omega

theorem objData_mem_objAddrs {n k i : Nat} (hi : i < 16) : (Rg.Obj.DATA n k i).addr ∈ objAddrs n k :=
  List.mem_append_right _ (List.mem_map_of_mem (List.mem_range.2 hi))

/-! ### A frame's words -/

/-- The object's words hold the frame and its stamp. -/
structure ObjHolds (n k : Nat) (x : RxFrame) (e : Dev) : Prop where
  ide : e.fld (Rg.Obj.IDE n k) = b2n x.frame.ide
  fdf : e.fld (Rg.Obj.FDF n k) = b2n x.frame.fdf
  brs : e.fld (Rg.Obj.BRS n k) = b2n x.frame.brs
  esi : e.fld (Rg.Obj.ESI n k) = b2n x.frame.esi
  dlc : e.fld (Rg.Obj.DLC n k) = x.frame.dlc % 16
  id : e.fld (Rg.Obj.ID n k) = x.frame.id % 2 ^ 29
  stamp : e.fld (Rg.Obj.STAMP n k) = x.stamp % 2 ^ 32
  tgen : e.fld (Rg.Obj.TGEN n k) = x.tgen % 256
  frac : e.fld (Rg.Obj.FRAC n k) = x.frac % 256
  data : ∀ i, i < 16 → e.fld (Rg.Obj.DATA n k i) = leAt x.frame.data (4 * i) 4 % 2 ^ 32

/-- The first `m` words of an object's data take the values of `v`. -/
def Dev.objData (d : Dev) (n k : Nat) (v : Nat → Nat) (m : Nat) : Dev :=
  (List.range m).foldl (fun d i => d.setFld (Rg.Obj.DATA n k i) (v i)) d

theorem Dev.objData_succ (d : Dev) (n k : Nat) (v : Nat → Nat) (m : Nat) :
    Dev.objData d n k v (m + 1) = (Dev.objData d n k v m).setFld (Rg.Obj.DATA n k m) (v m) := by
  rw [Dev.objData, List.range_succ, List.foldl_append, List.foldl_cons, List.foldl_nil, ← Dev.objData]

/-- The header takes the frame's flags and length. -/
def Dev.objHeader (d : Dev) (n k : Nat) (x : RxFrame) : Dev :=
  ((((d.setFld (Rg.Obj.FDF n k) (b2n x.frame.fdf)).setFld (Rg.Obj.BRS n k) (b2n x.frame.brs)).setFld (Rg.Obj.ESI n k) (b2n x.frame.esi)).setFld
    (Rg.Obj.IDE n k) (b2n x.frame.ide)).setFld (Rg.Obj.DLC n k) x.frame.dlc

/-- The words behind the header take the frame's identifier and stamp. -/
def Dev.objStamps (d : Dev) (n k : Nat) (x : RxFrame) : Dev :=
  (((d.setFld (Rg.Obj.ID n k) x.frame.id).setFld (Rg.Obj.STAMP n k) x.stamp).setFld (Rg.Obj.TGEN n k) x.tgen).setFld (Rg.Obj.FRAC n k) x.frac

theorem Dev.objWords_eq (d : Dev) (n k : Nat) (x : RxFrame) :
    d.objWords n k x = Dev.objData (Dev.objStamps (Dev.objHeader d n k x) n k x) n k (fun i => leAt x.frame.data (4 * i) 4) 16 := rfl

theorem Dev.objData_wordsBut (d : Dev) (n k : Nat) (v : Nat → Nat) {m : Nat} (hm : m ≤ 16) :
    WordsBut (objDataAddrs n k) d (Dev.objData d n k v m) := by
  induction m with
  | zero => exact .of_regs_eq rfl
  | succ m ih =>
    rw [Dev.objData_succ]
    exact (ih (Nat.le_of_lt hm)).setFld (List.mem_map_of_mem (List.mem_range.2 hm))

theorem Dev.objData_dict_can (d : Dev) (n k : Nat) (v : Nat → Nat) (m : Nat) :
    (Dev.objData d n k v m).dict = d.dict ∧ (Dev.objData d n k v m).can = d.can := by
  induction m with
  | zero => exact ⟨rfl, rfl⟩
  | succ m ih =>
    rw [Dev.objData_succ, Dev.setFld_dict, Dev.setFld_can]
    exact ih

/-- Each word of data reads as it was stored. -/
theorem Dev.objData_fld (d : Dev) (n k : Nat) (v : Nat → Nat) {m i : Nat} (hi : i < m) :
    (Dev.objData d n k v m).fld (Rg.Obj.DATA n k i) = v i % 2 ^ 32 := by
  induction m with
  | zero => exact absurd hi (Nat.not_lt_zero i)
  | succ m ih =>
    rw [Dev.objData_succ]
    by_cases him : i = m
    case pos =>
      subst him
      exact Dev.fld_setFld_of_fits _ _ ⟨rfl, rfl⟩
    case neg =>
      rw [Dev.fld_setFld_other _ _ (by simp only [Rg.Obj.DATA]; omega)]
      exact ih (by omega)

theorem Dev.objStamps_objHeader_dict (d : Dev) (n k : Nat) (x : RxFrame) : (Dev.objStamps (Dev.objHeader d n k x) n k x).dict = d.dict := by
  rw [Dev.objStamps, Dev.objHeader]
  repeat rw [Dev.setFld_dict]

theorem Dev.objStamps_objHeader_can (d : Dev) (n k : Nat) (x : RxFrame) : (Dev.objStamps (Dev.objHeader d n k x) n k x).can = d.can := by
  rw [Dev.objStamps, Dev.objHeader]
  repeat rw [Dev.setFld_can]

theorem Dev.objWords_dict (d : Dev) (n k : Nat) (x : RxFrame) : (d.objWords n k x).dict = d.dict := by
  rw [Dev.objWords_eq, (Dev.objData_dict_can ..).1, Dev.objStamps_objHeader_dict]

theorem Dev.objWords_can (d : Dev) (n k : Nat) (x : RxFrame) : (d.objWords n k x).can = d.can := by
  rw [Dev.objWords_eq, (Dev.objData_dict_can ..).2, Dev.objStamps_objHeader_can]

theorem Dev.objHeader_wordsBut (d : Dev) (n k : Nat) (x : RxFrame) : WordsBut [(Rg.Obj.NEW n k).addr] d (Dev.objHeader d n k x) := by
  have hstart : WordsBut [(Rg.Obj.NEW n k).addr] d d := .of_regs_eq rfl
  unfold Dev.objHeader
  refine .setFld (.setFld (.setFld (.setFld (.setFld hstart ?_) ?_) ?_) ?_) ?_
  all_goals exact List.mem_singleton.2 rfl

theorem Dev.objStamps_wordsBut (d : Dev) (n k : Nat) (x : RxFrame) :
    WordsBut [(Rg.Obj.ID n k).addr, (Rg.Obj.STAMP n k).addr, (Rg.Obj.TGEN n k).addr] d (Dev.objStamps d n k x) := by
  have hinfo : (Rg.Obj.TGEN n k).addr ∈ [(Rg.Obj.ID n k).addr, (Rg.Obj.STAMP n k).addr, (Rg.Obj.TGEN n k).addr] := by simp
  unfold Dev.objStamps
  exact .setFld (.setFld (.setFld (.setFld (.of_regs_eq rfl) (by simp)) (by simp)) hinfo) hinfo

/-- A stored frame's identifier, stamps and data leave the header as the frame's flags and length left it. -/
theorem Dev.objWords_header (d : Dev) (n k : Nat) (x : RxFrame) :
    WordsBut ((objAddrs n k).tail) (Dev.objHeader d n k x) (d.objWords n k x) := by
  rw [Dev.objWords_eq]
  exact (WordsBut.mono (Dev.objStamps_wordsBut _ n k x) (by simp [objAddrs])).trans (Dev.objData_wordsBut _ n k _ (Nat.le_refl 16))
    (List.subset_append_right [(Rg.Obj.ID n k).addr, (Rg.Obj.STAMP n k).addr, (Rg.Obj.TGEN n k).addr, (Rg.Obj.RXSEQ n k).addr] _)

theorem Dev.objWords_wordsBut (d : Dev) (n k : Nat) (x : RxFrame) : WordsBut (objAddrs n k) d (d.objWords n k x) :=
  ((Dev.objHeader_wordsBut d n k x).mono (by simp [objAddrs])).trans (Dev.objWords_header d n k x) (List.tail_subset _)

/-- The header's fields, once NEW is written too: the frame's flags and length, and LOSTCNT as it was. -/
theorem Dev.objHeader_flds (d : Dev) (n k : Nat) (x : RxFrame) (v : Nat) :
    let e := (Dev.objHeader d n k x).setFld (Rg.Obj.NEW n k) v
    e.fld (Rg.Obj.IDE n k) = b2n x.frame.ide ∧ e.fld (Rg.Obj.FDF n k) = b2n x.frame.fdf ∧ e.fld (Rg.Obj.BRS n k) = b2n x.frame.brs ∧
      e.fld (Rg.Obj.ESI n k) = b2n x.frame.esi ∧ e.fld (Rg.Obj.DLC n k) = x.frame.dlc % 2 ^ 4 ∧
      e.fld (Rg.Obj.LOSTCNT n k) = d.fld (Rg.Obj.LOSTCNT n k) := by
  have hflag : ∀ b, b2n b % 2 ^ 1 = b2n b := by decide
  intro e
  refine ⟨?ide, ?fdf, ?brs, ?esi, ?dlc, ?lostcnt⟩
  all_goals simp (disch := exact ⟨rfl, rfl, rfl⟩) only [e, Dev.objHeader, Dev.fld_setFld_of_beside]
  case dlc => exact Dev.fld_setFld_of_fits _ _ ⟨rfl, rfl⟩
  all_goals exact (Dev.fld_setFld_of_fits _ _ ⟨rfl, rfl⟩).trans (hflag _)

theorem Dev.objStamps_flds (d : Dev) (n k : Nat) (x : RxFrame) :
    let e := Dev.objStamps d n k x
    e.fld (Rg.Obj.ID n k) = x.frame.id % 2 ^ 29 ∧ e.fld (Rg.Obj.STAMP n k) = x.stamp % 2 ^ 32 ∧ e.fld (Rg.Obj.TGEN n k) = x.tgen % 2 ^ 8 ∧
      e.fld (Rg.Obj.FRAC n k) = x.frac % 2 ^ 8 := by
  have hid : ∀ f : Field, f.addr = (Rg.Obj.STAMP n k).addr ∨ f.addr = (Rg.Obj.TGEN n k).addr → (Rg.Obj.ID n k).addr ≠ f.addr := by
    simp only [Rg.Obj.ID, Rg.Obj.STAMP, Rg.Obj.TGEN]
    omega
  have hstamp : (Rg.Obj.STAMP n k).addr ≠ (Rg.Obj.TGEN n k).addr := by simp [Rg.Obj.STAMP, Rg.Obj.TGEN]
  refine ⟨?id, ?stamp, ?tgen, ?frac⟩
  case id =>
    rw [Dev.objStamps, Dev.fld_setFld_other (f := Rg.Obj.FRAC n k) _ _ (hid _ (.inr rfl)), Dev.fld_setFld_other _ _ (hid _ (.inr rfl)),
      Dev.fld_setFld_other _ _ (hid _ (.inl rfl))]
    exact Dev.fld_setFld_of_fits _ _ ⟨rfl, rfl⟩
  case stamp =>
    rw [Dev.objStamps, Dev.fld_setFld_other (f := Rg.Obj.FRAC n k) _ _ hstamp, Dev.fld_setFld_other _ _ hstamp]
    exact Dev.fld_setFld_of_fits _ _ ⟨rfl, rfl⟩
  case tgen =>
    simp (disch := exact ⟨rfl, rfl, rfl⟩) only [Dev.objStamps, Dev.fld_setFld_of_beside]
    exact Dev.fld_setFld_of_fits _ _ ⟨rfl, rfl⟩
  case frac => exact Dev.fld_setFld_of_fits _ _ ⟨rfl, rfl⟩

/-! ### A frame is stored (R175) -/

/-- The words written and the sequence number counted, storing a frame only announces it. -/
theorem Dev.objStore_announces (d : Dev) (n k : Nat) (x : RxFrame) :
    Announces n (((d.objWords n k x).setFld (Rg.Obj.NEW n k) 1).setFld (Rg.Obj.RXSEQ n k) (d.fld (Rg.Obj.RXSEQ n k) + 1)) (d.objStore n k x) := by
  unfold Dev.objStore
  extract_lets was e r
  exact .ite (.canIrq n e 3)

theorem Dev.objStore_can (d : Dev) (n k : Nat) (x : RxFrame) : (d.objStore n k x).can = d.can := by
  rw [(Dev.objStore_announces d n k x).can, Dev.setFld_can, Dev.setFld_can, Dev.objWords_can]

theorem Dev.objStore_get (d : Dev) (n k : Nat) (x : RxFrame) {e : Entry} (he : e.key ∉ logKeys) : (d.objStore n k x).get e = d.get e := by
  rw [(Dev.objStore_announces d n k x).get e he, Dev.get_setFld, Dev.get_setFld, Dev.get, Dev.objWords_dict, ← Dev.get]

/-- Storing writes NEW and the sequence number beside the frame's words. -/
theorem Dev.objStore_words (d : Dev) (n k : Nat) (x : RxFrame) :
    WordsBut [(Rg.Obj.NEW n k).addr, (Rg.Obj.RXSEQ n k).addr, (Rg.Ch.IRQ n).addr] (d.objWords n k x) (d.objStore n k x) := by
  have hwritten : WordsBut [(Rg.Obj.NEW n k).addr, (Rg.Obj.RXSEQ n k).addr, (Rg.Ch.IRQ n).addr] (d.objWords n k x)
      (((d.objWords n k x).setFld (Rg.Obj.NEW n k) 1).setFld (Rg.Obj.RXSEQ n k) (d.fld (Rg.Obj.RXSEQ n k) + 1)) :=
    .setFld (.setFld (.of_regs_eq rfl) (by simp)) (by simp)
  exact hwritten.trans (Dev.objStore_announces d n k x).words (by simp)

/-- Storing a frame in an object writes that object's words and the interrupt word. -/
theorem Dev.objStore_wordsBut (d : Dev) (n k : Nat) (x : RxFrame) : WordsBut ((Rg.Ch.IRQ n).addr :: objAddrs n k) d (d.objStore n k x) :=
  ((Dev.objWords_wordsBut d n k x).mono (List.subset_cons_self ..)).trans (Dev.objStore_words d n k x) (by simp [objAddrs])

/-- The header is the frame's, with NEW. -/
theorem Dev.objStore_header (d : Dev) (n k : Nat) (x : RxFrame) {g : Field} (hg : g.addr = (Rg.Obj.NEW n k).addr) :
    (d.objStore n k x).fld g = ((Dev.objHeader d n k x).setFld (Rg.Obj.NEW n k) 1).fld g := by
  have hseq : (Rg.Obj.NEW n k).addr ≠ (Rg.Obj.RXSEQ n k).addr := by simp [Rg.Obj.NEW, Rg.Obj.RXSEQ]
  have hirq : (Rg.Obj.NEW n k).addr ≠ (Rg.Ch.IRQ n).addr := objAddrs_ne_irq (List.mem_cons_self ..)
  rw [(Dev.objStore_announces d n k x).fld (hg ▸ hirq), Dev.fld_setFld_other _ _ (hg ▸ hseq)]
  exact ((Dev.objWords_header d n k x).setFld_both 1 (new_notMem_tail n k)).fld (hg ▸ new_notMem_tail n k)

/-- A field of the words between the header and the sequence number reads as the frame's words. -/
theorem Dev.objStore_fld (d : Dev) {n k : Nat} (x : RxFrame) {g : Field} (hlow : (Rg.Obj.NEW n k).addr < g.addr)
    (hhigh : g.addr < (Rg.Obj.RXSEQ n k).addr) : (d.objStore n k x).fld g = (d.objWords n k x).fld g := by
  refine (Dev.objStore_words d n k x).fld ?_
  simp only [Rg.Obj.NEW, Rg.Obj.RXSEQ, Rg.Ch.IRQ, List.mem_cons, List.not_mem_nil, or_false] at hlow hhigh ⊢
  omega

/-- Identifier and stamps read as they were stored. -/
theorem Dev.objStore_stamps (d : Dev) {n k : Nat} (x : RxFrame) {g : Field} (hlow : (Rg.Obj.NEW n k).addr < g.addr)
    (hhigh : g.addr < (Rg.Obj.DATA n k 0).addr) : (d.objStore n k x).fld g = (Dev.objStamps (Dev.objHeader d n k x) n k x).fld g := by
  have hdata : g.addr ∉ objDataAddrs n k := by
    intro h
    obtain ⟨i, -, hi⟩ := mem_objDataAddrs.1 h
    simp only [Rg.Obj.NEW, Rg.Obj.DATA] at hi hhigh
    omega
  rw [Dev.objStore_fld d x hlow (hhigh.trans (by simp [Rg.Obj.DATA, Rg.Obj.RXSEQ])), Dev.objWords_eq]
  exact (Dev.objData_wordsBut _ n k _ (Nat.le_refl 16)).fld hdata

/-- The words of a stored frame hold it. -/
theorem Dev.objStore_holds (d : Dev) (n k : Nat) (x : RxFrame) : ObjHolds n k x (d.objStore n k x) := by
  obtain ⟨hide, hfdf, hbrs, hesi, hdlc, -⟩ := Dev.objHeader_flds d n k x 1
  obtain ⟨hid, hstamp, htgen, hfrac⟩ := Dev.objStamps_flds (Dev.objHeader d n k x) n k x
  constructor
  case ide => exact (Dev.objStore_header d n k x (by rfl)).trans hide
  case fdf => exact (Dev.objStore_header d n k x (by rfl)).trans hfdf
  case brs => exact (Dev.objStore_header d n k x (by rfl)).trans hbrs
  case esi => exact (Dev.objStore_header d n k x (by rfl)).trans hesi
  case dlc => exact (Dev.objStore_header d n k x (by rfl)).trans hdlc
  case id => exact (Dev.objStore_stamps d x (by simp [Rg.Obj.NEW, Rg.Obj.ID]) (by simp [Rg.Obj.ID, Rg.Obj.DATA])).trans hid
  case stamp => exact (Dev.objStore_stamps d x (by simp [Rg.Obj.NEW, Rg.Obj.STAMP]) (by simp [Rg.Obj.STAMP, Rg.Obj.DATA])).trans hstamp
  case tgen => exact (Dev.objStore_stamps d x (by simp [Rg.Obj.NEW, Rg.Obj.TGEN]) (by simp [Rg.Obj.TGEN, Rg.Obj.DATA])).trans htgen
  case frac => exact (Dev.objStore_stamps d x (by simp [Rg.Obj.NEW, Rg.Obj.FRAC]) (by simp [Rg.Obj.FRAC, Rg.Obj.DATA])).trans hfrac
  case data =>
    intro i hi
    rw [Dev.objStore_fld d x (by simp only [Rg.Obj.NEW, Rg.Obj.DATA]; omega) (by simp only [Rg.Obj.DATA, Rg.Obj.RXSEQ]; omega), Dev.objWords_eq]
    exact Dev.objData_fld _ n k _ hi

theorem Dev.objStore_new (d : Dev) (n k : Nat) (x : RxFrame) : (d.objStore n k x).fld (Rg.Obj.NEW n k) = 1 :=
  (Dev.objStore_header d n k x rfl).trans (Dev.fld_setFld_of_fits _ _ ⟨rfl, rfl⟩)

theorem Dev.objStore_lostcnt (d : Dev) (n k : Nat) (x : RxFrame) : (d.objStore n k x).fld (Rg.Obj.LOSTCNT n k) = d.fld (Rg.Obj.LOSTCNT n k) := by
  obtain ⟨-, -, -, -, -, hlostcnt⟩ := Dev.objHeader_flds d n k x 1
  exact (Dev.objStore_header d n k x (by rfl)).trans hlostcnt

theorem Dev.objStore_rxseq (d : Dev) (n k : Nat) (x : RxFrame) :
    (d.objStore n k x).fld (Rg.Obj.RXSEQ n k) = (d.fld (Rg.Obj.RXSEQ n k) + 1) % 2 ^ 16 := by
  rw [(Dev.objStore_announces d n k x).fld (objAddrs_ne_irq (n := n) (k := k) (by simp [objAddrs]))]
  exact Dev.fld_setFld_of_fits _ _ ⟨rfl, rfl⟩

/-! ### An unread frame is lost (R175) -/

/-- LOSTCNT and RX_LOST counted, a loss is only announced. -/
theorem Dev.rxLost_announces (d : Dev) (n k : Nat) :
    Announces n ((d.setFld (Rg.Obj.LOSTCNT n k) (min 255 (d.fld (Rg.Obj.LOSTCNT n k) + 1))).count (canCounter n 2)) (d.rxLost n k) :=
  (Announces.canIrq n _ 13).trans (Announces.limited n _ _ 1 (srcCan n) 0x0023 fun c => min c 0xFFFFFFFF)

theorem Dev.rxLost_can (d : Dev) (n k : Nat) : (d.rxLost n k).can = d.can := by
  rw [(Dev.rxLost_announces d n k).can, Dev.count_can, Dev.setFld_can]

theorem Dev.rxLost_lostcnt (d : Dev) (n k : Nat) :
    (d.rxLost n k).fld (Rg.Obj.LOSTCNT n k) = min 255 (d.fld (Rg.Obj.LOSTCNT n k) + 1) := by
  rw [(Dev.rxLost_announces d n k).fld (objAddrs_ne_irq (a := (Rg.Obj.LOSTCNT n k).addr) (k := k) (List.mem_cons_self ..)), Dev.count_fld,
    Dev.fld_setFld_of_fits (w := 8) _ _ ⟨rfl, rfl⟩]
  exact Nat.mod_eq_of_lt (Nat.lt_of_le_of_lt (Nat.min_le_left ..) (by decide))

theorem Dev.rxLost_count (d : Dev) (n k : Nat) :
    (d.rxLost n k).get (canCounter n 2).entry = min (d.get (canCounter n 2).entry + 1) (2 ^ 64 - 1) := by
  rw [(Dev.rxLost_announces d n k).get _ (canCounter_key_notMem_logKeys n (by decide)), Dev.count_canCounter _ n 1 (by decide), Dev.get_setFld]

theorem Dev.rxLost_wordsBut (d : Dev) (n k : Nat) : WordsBut [(Rg.Obj.LOSTCNT n k).addr, (Rg.Ch.IRQ n).addr] d (d.rxLost n k) := by
  have hcounted : WordsBut [(Rg.Obj.LOSTCNT n k).addr, (Rg.Ch.IRQ n).addr] d
      ((d.setFld (Rg.Obj.LOSTCNT n k) (min 255 (d.fld (Rg.Obj.LOSTCNT n k) + 1))).count (canCounter n 2)) :=
    (WordsBut.setFld (.of_regs_eq rfl) (List.mem_cons_self ..)).trans (.of_regs_eq (Dev.count_regs ..)) (List.nil_subset _)
  exact hcounted.trans (Dev.rxLost_announces d n k).words (List.subset_cons_self ..)

/-- The device whose object takes the frame: an unread frame in it has been lost. -/
def Dev.lostUnread (d : Dev) (n k : Nat) : Dev := if d.isSet (Rg.Obj.NEW n k) then d.rxLost n k else d

theorem Dev.objReceive_of_unlocked {d : Dev} {n k : Nat} (x : RxFrame) (h : KV.find k (d.canCh n).locks = none) :
    d.objReceive n k x = (Dev.lostUnread d n k).objStore n k x := by
  rw [Dev.objReceive, h]
  rfl

theorem Dev.lostUnread_can (d : Dev) (n k : Nat) : (Dev.lostUnread d n k).can = d.can := by
  unfold Dev.lostUnread
  split
  · exact Dev.rxLost_can d n k
  · rfl

theorem Dev.lostUnread_wordsBut (d : Dev) (n k : Nat) : WordsBut [(Rg.Obj.LOSTCNT n k).addr, (Rg.Ch.IRQ n).addr] d (Dev.lostUnread d n k) := by
  unfold Dev.lostUnread
  split
  · exact Dev.rxLost_wordsBut d n k
  · exact .of_regs_eq rfl

/-- No word of another object changes. -/
theorem Dev.objReceive_fld_other {d : Dev} {n j k : Nat} (x : RxFrame) {g : Field} (h : KV.find k (d.canCh n).locks = none) (hjk : j ≠ k)
    (hg : g.addr ∈ objAddrs n j) : (d.objReceive n k x).fld g = d.fld g := by
  have hlost : [(Rg.Obj.LOSTCNT n k).addr, (Rg.Ch.IRQ n).addr] ⊆ (Rg.Ch.IRQ n).addr :: objAddrs n k := by
    simp [objAddrs, Rg.Obj.LOSTCNT, Rg.Obj.NEW]
  rw [Dev.objReceive_of_unlocked x h]
  exact (((Dev.lostUnread_wordsBut d n k).mono hlost).trans (Dev.objStore_wordsBut _ n k x) (List.Subset.refl _)).fld
    (List.not_mem_cons_of_ne_of_not_mem (objAddrs_ne_irq hg) (notMem_objAddrs_of_ne hjk hg))

/-! ### The obligation -/

/-- Settles O51: the object's words are the frame's, and what was lost was counted before. -/
theorem receiveObjectStores : Obligations.ReceiveObjectStores := by
  unfold Obligations.ReceiveObjectStores
  intro d n k x _ _ hunlocked e
  have he : e = (Dev.lostUnread d n k).objStore n k x := Dev.objReceive_of_unlocked x hunlocked
  have hcounter : (canCounter n 2).entry.key ∉ logKeys := canCounter_key_notMem_logKeys n (by decide)
  obtain ⟨hide, hfdf, hbrs, hesi, hdlc, hid, hstamp, htgen, hfrac, hdata⟩ := Dev.objStore_holds (Dev.lostUnread d n k) n k x
  rw [he]
  refine ⟨Dev.objStore_new .., ?rxseq, hide, hfdf, hbrs, hesi, hdlc, hid, hstamp, htgen, hfrac, hdata, ?lost, ?kept, ?others, ?locks⟩
  case rxseq =>
    have hseq : (Rg.Obj.RXSEQ n k).addr ∉ [(Rg.Obj.LOSTCNT n k).addr, (Rg.Ch.IRQ n).addr] := by
      simp only [Rg.Obj.RXSEQ, Rg.Obj.LOSTCNT, Rg.Ch.IRQ, List.mem_cons, List.not_mem_nil, or_false]
      omega
    rw [Dev.objStore_rxseq, (Dev.lostUnread_wordsBut d n k).fld hseq]
  case lost =>
    intro hnew
    rw [Dev.objStore_lostcnt, Dev.objStore_get _ n k x hcounter, Dev.lostUnread, if_pos hnew]
    exact ⟨Dev.rxLost_lostcnt d n k, Dev.rxLost_count d n k⟩
  case kept =>
    intro hread
    rw [Dev.objStore_lostcnt, Dev.objStore_get _ n k x hcounter, Dev.lostUnread, if_neg (Bool.eq_false_iff.1 hread)]
    exact ⟨rfl, rfl⟩
  case others =>
    intro j _ hjk i hi
    rw [← he]
    exact ⟨Dev.objReceive_fld_other x hunlocked hjk (by simp [objAddrs]), Dev.objReceive_fld_other x hunlocked hjk (objData_mem_objAddrs hi)⟩
  case locks => rw [Dev.canCh, Dev.objStore_can, Dev.lostUnread_can, ← Dev.canCh]

end Sys2Proof

/-! SUPPORT. CAN transmission (R168 to R172) and fault confinement (R181, R182, R192): what a buffer's status shows when it is sent, aborted, started and
completed, and what the error counters and the channel's state show after an error. -/

namespace Sys2Proof

open Sys2Proof.Machine

/-! ### A buffer completes (R170) -/

/-- The buffer has completed with a status and a reason. -/
structure TxbCompleted (n k : Nat) (s : Status) (reason : Nat) (d : Dev) : Prop where
  code : d.fld (Rg.Txb.CODE n k) = s.code
  reason : d.fld (Rg.Txb.REASON n k) = reason % 16
  done : d.fld (Rg.Txb.DONE n k) = 1
  pending : d.fld (Rg.Txb.PENDING n k) = 0

/-- What leaves the buffer's status word alone leaves it completed. -/
theorem TxbCompleted.of_wordsBut {n k reason : Nat} {s : Status} {as : List Nat} {a b : Dev} (h : TxbCompleted n k s reason a)
    (hab : WordsBut as a b) (has : (Rg.Txb.CODE n k).addr ∉ as) : TxbCompleted n k s reason b := by
  obtain ⟨hcode, hreason, hdone, hpending⟩ := h
  constructor
  case code => rw [hab.fld has, hcode]
  case reason => rw [hab.fld (g := Rg.Txb.REASON n k) has, hreason]
  case done => rw [hab.fld (g := Rg.Txb.DONE n k) has, hdone]
  case pending => rw [hab.fld (g := Rg.Txb.PENDING n k) has, hpending]

theorem Status.code_lt (s : Status) : s.code < 2 ^ 16 := by cases s <;> decide

theorem txbStatus_ne_irq (n k : Nat) : (Rg.Txb.CODE n k).addr ≠ (Rg.Ch.IRQ n).addr := by
  simp only [Rg.Txb.CODE, Rg.Ch.IRQ]
  omega

/-- The status word of a completion is written. -/
def Dev.txbStatus (d : Dev) (n k : Nat) (s : Status) (reason : Nat) : Dev :=
  (((d.setFld (Rg.Txb.CODE n k) s.code).setFld (Rg.Txb.REASON n k) reason).setFld (Rg.Txb.DONE n k) 1).setFld (Rg.Txb.PENDING n k) 0

theorem Dev.txbStatus_completed (d : Dev) (n k : Nat) (s : Status) (reason : Nat) : TxbCompleted n k s reason (Dev.txbStatus d n k s reason) := by
  constructor
  all_goals simp (disch := exact ⟨rfl, rfl, rfl⟩) only [Dev.txbStatus, Dev.fld_setFld_of_beside]
  case code => exact (Dev.fld_setFld_of_fits _ _ ⟨rfl, rfl⟩).trans (Nat.mod_eq_of_lt (Status.code_lt s))
  all_goals exact Dev.fld_setFld_of_fits _ _ ⟨rfl, rfl⟩

/-- The status word written and the ABORT forgotten, a completion only announces. -/
theorem Dev.txbDone_announces (d : Dev) (n k : Nat) (s : Status) (reason : Nat) :
    Announces n ((Dev.txbStatus d n k s reason).setCan n fun c => { c with aborts := c.aborts.filter (· ≠ k) }) (d.txbDone n k s reason) :=
  .canIrq ..

theorem Dev.txbDone_completed (d : Dev) (n k : Nat) (s : Status) (reason : Nat) : TxbCompleted n k s reason (d.txbDone n k s reason) := by
  have hstatus : WordsBut [] (Dev.txbStatus d n k s reason)
      ((Dev.txbStatus d n k s reason).setCan n fun c => { c with aborts := c.aborts.filter (· ≠ k) }) := .of_regs_eq (Dev.setCan_regs ..)
  exact ((Dev.txbStatus_completed d n k s reason).of_wordsBut hstatus List.not_mem_nil).of_wordsBut (Dev.txbDone_announces ..).words
    (mt List.mem_singleton.1 (txbStatus_ne_irq n k))

theorem Dev.txbDone_wordsBut (d : Dev) (n k : Nat) (s : Status) (reason : Nat) :
    WordsBut [(Rg.Txb.CODE n k).addr, (Rg.Ch.IRQ n).addr] d (d.txbDone n k s reason) := by
  have hstatus : WordsBut [(Rg.Txb.CODE n k).addr, (Rg.Ch.IRQ n).addr] d (Dev.txbStatus d n k s reason) := by
    unfold Dev.txbStatus
    refine .setFld (.setFld (.setFld (.setFld (.of_regs_eq rfl) ?_) ?_) ?_) ?_
    all_goals exact List.mem_cons_self ..
  exact (hstatus.trans (bs := []) (.of_regs_eq (Dev.setCan_regs ..)) (List.nil_subset _)).trans (Dev.txbDone_announces d n k s reason).words
    (List.subset_cons_self ..)

theorem Dev.txbStatus_dict_can (d : Dev) (n k : Nat) (s : Status) (reason : Nat) :
    (Dev.txbStatus d n k s reason).dict = d.dict ∧ (Dev.txbStatus d n k s reason).can = d.can := by
  unfold Dev.txbStatus
  repeat rw [Dev.setFld_dict, Dev.setFld_can]
  exact ⟨rfl, rfl⟩

theorem Dev.txbDone_get (d : Dev) (n k : Nat) (s : Status) (reason : Nat) {e : Entry} (he : e.key ∉ logKeys) :
    (d.txbDone n k s reason).get e = d.get e := by
  rw [(Dev.txbDone_announces d n k s reason).get e he, Dev.get_setCan, Dev.get, (Dev.txbStatus_dict_can ..).1, ← Dev.get]

theorem Dev.txbDone_onBus (d : Dev) (n k : Nat) (s : Status) (reason : Nat) : ((d.txbDone n k s reason).canCh n).onBus = (d.canCh n).onBus := by
  rw [(Dev.txbDone_announces d n k s reason).canCh, Dev.canCh_setCan, Dev.canCh, (Dev.txbStatus_dict_can ..).2, ← Dev.canCh]

/-! ### SEND and ABORT (R169, R171) -/

/-- The control word that SEND writes. -/
def Dev.txbControl (d : Dev) (n k v : Nat) : Dev :=
  ((d.setFld (Rg.Txb.ONESHOT n k) (bits v 29 29)).setFld (Rg.Txb.EPV n k) (bits v 28 28)).setFld (Rg.Txb.EPOCH n k) (bits v 15 0)

/-- The status word of a buffer that SEND has taken. -/
def Dev.txbPending (d : Dev) (n k : Nat) : Dev :=
  (((d.setFld (Rg.Txb.PENDING n k) 1).setFld (Rg.Txb.DONE n k) 0).setFld (Rg.Txb.CODE n k) 0).setFld (Rg.Txb.ATTEMPTS n k) 0

theorem canSendOp_of_idle {d : Dev} {n k v : Nat} (hidle : d.isSet (Rg.Txb.PENDING n k) = false) (habort : bit v 30 = false)
    (hcheck : (Dev.txbControl d n k v).sendCheck n k = .ok) :
    canSendOp n k v d = (Dev.txbPending (Dev.txbControl d n k v) n k).answer .ok := by
  rw [canSendOp, hidle, habort]
  simp only [Bool.false_eq_true, if_false]
  rw [← Dev.txbControl, hcheck]
  rfl

theorem canSendOp_of_pending {d : Dev} {n k v : Nat} (hpending : d.isSet (Rg.Txb.PENDING n k) = true) (habort : bit v 30 = false) :
    canSendOp n k v d = (d.setFld (Rg.Txb.OVERRUN n k) 1).answer .ok := by
  simp only [canSendOp, hpending, habort, Bool.false_eq_true, if_true, if_false]

theorem canAbortOp_of_waiting {d : Dev} {n k : Nat} (hpending : d.isSet (Rg.Txb.PENDING n k) = true)
    (hbus : ((d.canCh n).onBus.any fun b => b.txb == some k) = false) : canAbortOp n k d = d.txbDone n k .aborted 7 := by
  simp only [canAbortOp, hpending, hbus, Bool.false_eq_true, if_true, if_false]

theorem Dev.txbPending_flds (d : Dev) (n k : Nat) :
    let e := Dev.txbPending d n k
    e.fld (Rg.Txb.PENDING n k) = 1 ∧ e.fld (Rg.Txb.DONE n k) = 0 ∧ e.fld (Rg.Txb.CODE n k) = 0 ∧ e.fld (Rg.Txb.ATTEMPTS n k) = 0 := by
  refine ⟨?_, ?_, ?_, ?_⟩
  all_goals
    simp (disch := exact ⟨rfl, rfl, rfl⟩) only [Dev.txbPending, Dev.fld_setFld_of_beside]
    exact Dev.fld_setFld_of_fits _ _ ⟨rfl, rfl⟩

theorem Dev.txbPending_wordsBut (d : Dev) (n k : Nat) : WordsBut [(Rg.Txb.CODE n k).addr] d (Dev.txbPending d n k) := by
  unfold Dev.txbPending
  refine .setFld (.setFld (.setFld (.setFld (.of_regs_eq rfl) ?_) ?_) ?_) ?_
  all_goals exact List.mem_singleton.2 rfl

theorem Dev.txbControl_wordsBut (d : Dev) (n k v : Nat) : WordsBut [(Rg.Txb.SEND n k).addr] d (Dev.txbControl d n k v) := by
  unfold Dev.txbControl
  refine .setFld (.setFld (.setFld (.of_regs_eq rfl) ?_) ?_) ?_
  all_goals exact List.mem_singleton.2 rfl

theorem Dev.txbControl_oneshot (d : Dev) (n k v : Nat) : (Dev.txbControl d n k v).fld (Rg.Txb.ONESHOT n k) = bits v 29 29 := by
  simp (disch := exact ⟨rfl, rfl, rfl⟩) only [Dev.txbControl, Dev.fld_setFld_of_beside]
  rw [Dev.fld_setFld_of_fits (w := 1) _ _ ⟨rfl, rfl⟩]
  exact Nat.mod_mod ..

theorem Dev.txbPending_txbControl_only (d : Dev) (n k v : Nat) :
    Only ⟨[.regs], [], []⟩ d (Dev.txbPending (Dev.txbControl d n k v) n k) := by
  unfold Dev.txbPending Dev.txbControl
  repeat refine Only.setFld_all ⟨rfl⟩ ?_
  exact .refl

theorem Dev.txbPending_out (d : Dev) (n k : Nat) : (Dev.txbPending d n k).out = d.out := by
  unfold Dev.txbPending
  repeat rw [Dev.setFld_out]

theorem Dev.txbControl_out (d : Dev) (n k v : Nat) : (Dev.txbControl d n k v).out = d.out := by
  unfold Dev.txbControl
  repeat rw [Dev.setFld_out]

/-- A SEND that passes the checks (R169): the buffer is pending, with DONE, CODE and ATTEMPTS 0. -/
theorem canSendOp_takes {d : Dev} {n k v : Nat} (hidle : d.isSet (Rg.Txb.PENDING n k) = false) (habort : bit v 30 = false)
    (hcheck : (Dev.txbControl d n k v).sendCheck n k = .ok) :
    let e := canSendOp n k v d
    e.fld (Rg.Txb.PENDING n k) = 1 ∧ e.fld (Rg.Txb.DONE n k) = 0 ∧ e.fld (Rg.Txb.CODE n k) = 0 ∧ e.fld (Rg.Txb.ATTEMPTS n k) = 0 ∧
      e.fld (Rg.Txb.ONESHOT n k) = bits v 29 29 ∧ e.out = d.out ++ [.answer .ok 0] ∧
      WordsBut [(Rg.Txb.SEND n k).addr, (Rg.Txb.CODE n k).addr] d e ∧ Only ⟨[.regs], [], []⟩ d e := by
  obtain ⟨hpending, hdone, hcode, hattempts⟩ := Dev.txbPending_flds (Dev.txbControl d n k v) n k
  have hcontrol : (Rg.Txb.ONESHOT n k).addr ∉ [(Rg.Txb.CODE n k).addr] := by simp [Rg.Txb.ONESHOT, Rg.Txb.CODE]
  have hwritten : WordsBut [(Rg.Txb.SEND n k).addr, (Rg.Txb.CODE n k).addr] d (Dev.txbPending (Dev.txbControl d n k v) n k) :=
    ((Dev.txbControl_wordsBut d n k v).mono (by simp)).trans (Dev.txbPending_wordsBut _ n k) (by simp)
  rw [canSendOp_of_idle hidle habort hcheck]
  refine ⟨?pending, ?done, ?code, ?attempts, ?oneshot, ?out, hwritten.trans (bs := []) (.of_regs_eq (Dev.answer_regs ..)) (List.nil_subset _),
    .set_out (Dev.txbPending_txbControl_only d n k v)⟩
  case pending => rw [Dev.fld_answer, hpending]
  case done => rw [Dev.fld_answer, hdone]
  case code => rw [Dev.fld_answer, hcode]
  case attempts => rw [Dev.fld_answer, hattempts]
  case oneshot => rw [Dev.fld_answer, (Dev.txbPending_wordsBut _ n k).fld hcontrol, Dev.txbControl_oneshot]
  case out => rw [Dev.answer_out, Dev.txbPending_out, Dev.txbControl_out]

/-- A SEND to a pending buffer (R169): OVERRUN, and the buffer stays pending. -/
theorem canSendOp_overruns {d : Dev} {n k v : Nat} (hpending : d.isSet (Rg.Txb.PENDING n k) = true) (habort : bit v 30 = false) :
    let e := canSendOp n k v d
    e.fld (Rg.Txb.OVERRUN n k) = 1 ∧ e.fld (Rg.Txb.PENDING n k) = 1 ∧ e.out = d.out ++ [.answer .ok 0] ∧
      WordsBut [(Rg.Txb.CODE n k).addr] d e ∧ Only ⟨[.regs], [], []⟩ d e := by
  have hwritten : WordsBut [(Rg.Txb.CODE n k).addr] d (d.setFld (Rg.Txb.OVERRUN n k) 1) := .setFld (.of_regs_eq rfl) (List.mem_singleton.2 rfl)
  rw [canSendOp_of_pending hpending habort]
  refine ⟨?overrun, ?pending, by rw [Dev.answer_out, Dev.setFld_out],
    hwritten.trans (bs := []) (.of_regs_eq (Dev.answer_regs ..)) (List.nil_subset _), .set_out (.setFld_all ⟨rfl⟩ .refl)⟩
  case overrun =>
    rw [Dev.fld_answer]
    exact Dev.fld_setFld_of_fits _ _ ⟨rfl, rfl⟩
  case pending =>
    rw [Dev.fld_answer, Dev.fld_setFld_of_beside (g := Rg.Txb.PENDING n k) (f := Rg.Txb.OVERRUN n k) _ _ ⟨rfl, rfl, rfl⟩]
    exact Dev.fld_eq_one_of_isSet ⟨rfl, rfl⟩ hpending

/-! ### A frame starts (R168) -/

/-- The buffer's frame goes on the bus: the attempt is counted and the frame is stamped. -/
def Dev.txbStarted (d : Dev) (n k phase : Nat) : Dev :=
  let s := d.stampAt d.time.raw phase
  ((d.setFld (Rg.Txb.ATTEMPTS n k) (min 255 (d.fld (Rg.Txb.ATTEMPTS n k) + 1))).setCan n fun c =>
    { c with onBus := some ⟨some k, d.txbFrame n k, s.1, s.2.1, s.2.2⟩ }).emit (.can n (d.txbFrame n k))

theorem Dev.txbStarted_shows (d : Dev) (n k phase : Nat) :
    let e := Dev.txbStarted d n k phase
    (e.canCh n).onBus.map (fun b => (b.txb, b.frame)) = some (some k, d.txbFrame n k) ∧
      e.fld (Rg.Txb.ATTEMPTS n k) = min 255 (d.fld (Rg.Txb.ATTEMPTS n k) + 1) ∧ e.out = d.out ++ [.can n (d.txbFrame n k)] := by
  have hbyte : ∀ x, min 255 x % 2 ^ 8 = min 255 x := fun x => Nat.mod_eq_of_lt (Nat.lt_of_le_of_lt (Nat.min_le_left ..) (by decide))
  unfold Dev.txbStarted
  refine ⟨?bus, ?attempts, ?out⟩
  case bus => rw [Dev.canCh, Dev.emit_can, ← Dev.canCh, Dev.canCh_setCan, Option.map_some]
  case attempts => rw [Dev.fld_emit, Dev.fld_setCan, Dev.fld_setFld_of_fits (w := 8) _ _ ⟨rfl, rfl⟩, hbyte]
  case out => rw [Dev.emit_out, Dev.setCan_out, Dev.setFld_out]

/-- The picked buffer starts where the bus allows and no service frame has a lower identifier. -/
theorem canTxStartOp_of_candidate {d : Dev} {n phase k : Nat} (hstate : d.get (Ent.CanSt.STATE n) ≠ 0) (hbus : d.fld (Rg.Ch.BUS n) < 2)
    (hactive : d.flag (Ent.Can.LISTEN_ONLY n) = false) (hfree : (d.canCh n).onBus = none) (htrx : d.trxOnBus n = true)
    (hcand : d.txCandidate n = some k)
    (hfirst : ((d.canCh n).service.head?.all fun x =>
      arbKey (d.txbFrame n k).ide (d.txbFrame n k).id < arbKey (d.svcFrame n x).ide (d.svcFrame n x).id) = true) :
    canTxStartOp n phase d = Dev.txbStarted d n k phase := by
  have hallowed : ¬ (d.get (Ent.CanSt.STATE n) = 0 ∨ 2 ≤ d.fld (Rg.Ch.BUS n) ∨ d.flag (Ent.Can.LISTEN_ONLY n) ∨ (d.canCh n).onBus.isSome ∨
      !d.trxOnBus n) := by
    simp [hstate, hbus, hactive, hfree, htrx]
  unfold canTxStartOp
  rw [if_neg hallowed, hcand]
  cases hhead : (d.canCh n).service.head? with
  | none => rfl
  | some x =>
    rw [hhead, Option.all_some, decide_eq_true_eq] at hfirst
    simp only [Option.map_some, if_pos hfirst]
    rfl

/-! ### An attempt fails (R170) -/

/-- The frame leaves the bus. -/
def Dev.offBus (d : Dev) (n : Nat) : Dev := d.setCan n fun c => { c with onBus := none, released := false, late := false }

theorem Dev.attemptFailed_of_txb {d : Dev} {n k : Nat} {b : OnBus} (reason : Nat) (hbus : (d.canCh n).onBus = some b) (htxb : b.txb = some k)
    (haborts : (d.canCh n).aborts = []) (hstate : d.get (Ent.CanSt.STATE n) ≠ 2) :
    d.attemptFailed n reason =
      if d.isSet (Rg.Txb.ONESHOT n k) then (Dev.offBus d n).txbDone n k .aborted reason else Dev.offBus d n := by
  have hdrain : (d.get (Ent.CanSt.STATE n) == 2) = false := beq_eq_false_iff_ne.2 hstate
  simp only [Dev.attemptFailed, hbus, htxb, haborts, hdrain, List.contains_nil, Bool.false_eq_true, if_false]
  rfl

/-- A failed attempt leaves the channel's error word alone: a buffer's status lies behind it. -/
theorem Dev.attemptFailed_wordsBut (d : Dev) (n reason : Nat) :
    ∃ as, (∀ a ∈ as, (Rg.Ch.TEC n).addr < a) ∧ WordsBut as d (d.attemptFailed n reason) := by
  have hstatus : ∀ k, ∀ a ∈ [(Rg.Txb.CODE n k).addr, (Rg.Ch.IRQ n).addr], (Rg.Ch.TEC n).addr < a := by
    simp only [Rg.Txb.CODE, Rg.Ch.IRQ, Rg.Ch.TEC, List.mem_cons, List.not_mem_nil, or_false]
    omega
  have hnone : ∀ a ∈ ([] : List Nat), (Rg.Ch.TEC n).addr < a := fun a ha => absurd ha List.not_mem_nil
  have hoff : WordsBut [] d (Dev.offBus d n) := .of_regs_eq rfl
  unfold Dev.attemptFailed
  split
  case h_1 => exact ⟨[], hnone, .of_regs_eq rfl⟩
  case h_2 b hb =>
    extract_lets ab drain late e
    split
    case h_1 k hk =>
      have hdone : ∀ r, WordsBut [(Rg.Txb.CODE n k).addr, (Rg.Ch.IRQ n).addr] d (e.txbDone n k .aborted r) := fun r =>
        (hoff.mono (List.nil_subset _)).trans (Dev.txbDone_wordsBut (Dev.offBus d n) n k .aborted r) (List.Subset.refl _)
      repeat' split
      · exact ⟨_, hstatus k, hdone 7⟩
      · exact ⟨_, hstatus k, hdone 8⟩
      · exact ⟨_, hstatus k, hdone reason⟩
      · exact ⟨[], hnone, hoff⟩
    case h_2 =>
      repeat' split
      · exact ⟨[], hnone, .of_regs_eq (Dev.count_regs ..)⟩
      · exact ⟨[], hnone, .of_regs_eq rfl⟩
      · exact ⟨[], hnone, hoff⟩

/-! ### Fault confinement (R181, R182) -/

theorem passiveOf_le_one (tec rec : Nat) : passiveOf tec rec ≤ 1 := by
  unfold passiveOf
  split
  · exact Nat.le_refl 1
  · exact Nat.zero_le 1

/-- The error counters are written. -/
def Dev.errWritten (d : Dev) (n tec rec : Nat) : Dev := (d.setFld (Rg.Ch.TEC n) (min tec 255)).setFld (Rg.Ch.REC n) (min rec 255)

theorem errWord_ne_irq (n : Nat) : (Rg.Ch.TEC n).addr ≠ (Rg.Ch.IRQ n).addr := by simp [Rg.Ch.TEC, Rg.Ch.IRQ]

/-- The counters written, with the error state they have in a channel on the bus, new counters are only announced: thresholds, and the step to
error-passive. -/
theorem Dev.setErrCounters_announces (d : Dev) (n tec rec : Nat) :
    Announces n (if 2 ≤ d.fld (Rg.Ch.BUS n) then Dev.errWritten d n tec rec else (Dev.errWritten d n tec rec).setFld (Rg.Ch.BUS n) (passiveOf tec rec))
      (d.setErrCounters n tec rec) := by
  unfold Dev.setErrCounters
  extract_lets t0 r0 e warn e1 e2 e3 e4 p was e5
  have hwarn : ∀ a b old new th, Announces n a (warn a b old new th) := fun a b _ _ _ => .ite (.canIrq n a b)
  have hwarned : Announces n e e4 := (hwarn ..).trans ((hwarn ..).trans ((hwarn ..).trans (hwarn ..)))
  have hbus : e4.fld (Rg.Ch.BUS n) = d.fld (Rg.Ch.BUS n) := by
    rw [hwarned.fld (g := Rg.Ch.BUS n) (errWord_ne_irq n)]
    simp (disch := exact ⟨rfl, rfl, rfl⟩) only [e, Dev.fld_setFld_of_beside]
  rw [hbus]
  split
  · exact hwarned
  · have hstate : Announces n (e.setFld (Rg.Ch.BUS n) p) e5 := hwarned.setFld p (errWord_ne_irq n)
    exact hstate.trans (.ite ((Announces.canIrq n e5 10).trans (.event n _ _ _ _)))

/-- Of a channel on the bus the error word shows the counters and the state they have. -/
theorem Dev.setErrCounters_flds {d : Dev} {n : Nat} (tec rec : Nat) (hbus : d.fld (Rg.Ch.BUS n) < 2) :
    let e := d.setErrCounters n tec rec
    e.fld (Rg.Ch.TEC n) = min tec 255 ∧ e.fld (Rg.Ch.REC n) = min rec 255 ∧ e.fld (Rg.Ch.BUS n) = passiveOf tec rec ∧
      e.fld (Rg.Ch.LEC n) = d.fld (Rg.Ch.LEC n) := by
  have hannounces := Dev.setErrCounters_announces d n tec rec
  rw [if_neg (Nat.not_le.2 hbus)] at hannounces
  have hbyte : ∀ x, min x 255 % 2 ^ 8 = min x 255 := fun x => Nat.mod_eq_of_lt (Nat.lt_of_le_of_lt (Nat.min_le_right ..) (by decide))
  intro e
  refine ⟨(hannounces.fld (errWord_ne_irq n)).trans ?tec, (hannounces.fld (by exact errWord_ne_irq n)).trans ?rec,
    (hannounces.fld (by exact errWord_ne_irq n)).trans ?bus, (hannounces.fld (by exact errWord_ne_irq n)).trans ?lec⟩
  all_goals simp (disch := exact ⟨rfl, rfl, rfl⟩) only [Dev.errWritten, Dev.fld_setFld_of_beside]
  case tec => exact (Dev.fld_setFld_of_fits _ _ ⟨rfl, rfl⟩).trans (hbyte tec)
  case rec => exact (Dev.fld_setFld_of_fits _ _ ⟨rfl, rfl⟩).trans (hbyte rec)
  case bus =>
    exact (Dev.fld_setFld_of_fits (w := 2) _ _ ⟨rfl, rfl⟩).trans
      (Nat.mod_eq_of_lt (Nat.lt_of_le_of_lt (passiveOf_le_one tec rec) (by decide)))

theorem Dev.errWritten_wordsBut (d : Dev) (n tec rec : Nat) : WordsBut [(Rg.Ch.TEC n).addr] d (Dev.errWritten d n tec rec) :=
  .setFld (.setFld (.of_regs_eq rfl) (List.mem_singleton.2 rfl)) (List.mem_singleton.2 rfl)

theorem Dev.errWritten_dict_can (d : Dev) (n tec rec : Nat) :
    (Dev.errWritten d n tec rec).dict = d.dict ∧ (Dev.errWritten d n tec rec).can = d.can := by
  rw [Dev.errWritten, Dev.setFld_dict, Dev.setFld_dict, Dev.setFld_can, Dev.setFld_can]
  exact ⟨rfl, rfl⟩

/-- New counters write the error word and the interrupt word; the entries and the channels stay. -/
theorem Dev.setErrCounters_keeps (d : Dev) (n tec rec : Nat) :
    WordsBut [(Rg.Ch.TEC n).addr, (Rg.Ch.IRQ n).addr] d (d.setErrCounters n tec rec) ∧
      (∀ e : Entry, e.key ∉ logKeys → (d.setErrCounters n tec rec).get e = d.get e) ∧ (d.setErrCounters n tec rec).can = d.can := by
  obtain ⟨hwords, hget, hcan⟩ := Dev.setErrCounters_announces d n tec rec
  obtain ⟨hdict, hcan'⟩ := Dev.errWritten_dict_can d n tec rec
  have hwritten := Dev.errWritten_wordsBut d n tec rec
  split at hwords
  case isTrue hoff =>
    simp only [if_pos hoff] at hget hcan
    refine ⟨(hwritten.mono (by simp)).trans hwords (by simp), fun e he => (hget e he).trans ?_, hcan.trans hcan'⟩
    rw [Dev.get, hdict, ← Dev.get]
  case isFalse hon =>
    simp only [if_neg hon] at hget hcan
    have hstate := WordsBut.setFld (f := Rg.Ch.BUS n) (v := passiveOf tec rec) hwritten (List.mem_singleton.2 rfl)
    refine ⟨(hstate.mono (by simp)).trans hwords (by simp), fun e he => (hget e he).trans ?_, ?_⟩
    · rw [Dev.get_setFld, Dev.get, hdict, ← Dev.get]
    · rw [hcan, Dev.setFld_can, hcan']

/-- An error of a channel on the bus that stays on it: the kind is noted, the attempt fails, the counters rise. -/
theorem canErrorCore_of_onBus {d : Dev} {n lec : Nat} {at_ : CanErrorAt} (hstate : d.get (Ent.CanSt.STATE n) ≠ 0) (hbus : d.fld (Rg.Ch.BUS n) < 2)
    (htrx : d.trxOnBus n = true) (htec : d.fld (Rg.Ch.TEC n) + (d.errorSteps n lec at_).1 ≤ 255) :
    canErrorCore n lec at_ d = (((d.setFld (Rg.Ch.LEC n) lec).count (canCounter n 5)).attemptFailed n (errReason lec)).setErrCounters n
      (d.fld (Rg.Ch.TEC n) + (d.errorSteps n lec at_).1) (d.fld (Rg.Ch.REC n) + (d.errorSteps n lec at_).2) := by
  have hheard : ¬ (d.get (Ent.CanSt.STATE n) = 0 ∨ 2 ≤ d.fld (Rg.Ch.BUS n) ∨ !d.trxOnBus n) := by simp [hstate, hbus, htrx]
  unfold canErrorCore
  rw [if_neg hheard]
  exact if_neg (Nat.not_lt.2 htec)

/-- Such an error's marks on the error word (R181). -/
theorem canErrorOp_flds {d : Dev} {n lec : Nat} {at_ : CanErrorAt} (hlec : lec < 8) (hstate : d.get (Ent.CanSt.STATE n) ≠ 0)
    (hbus : d.fld (Rg.Ch.BUS n) < 2) (htrx : d.trxOnBus n = true) (htec : d.fld (Rg.Ch.TEC n) + (d.errorSteps n lec at_).1 ≤ 255) :
    let e := canErrorOp n lec at_ d
    e.fld (Rg.Ch.LEC n) = lec ∧ e.fld (Rg.Ch.TEC n) = d.fld (Rg.Ch.TEC n) + (d.errorSteps n lec at_).1 ∧
      e.fld (Rg.Ch.REC n) = min (d.fld (Rg.Ch.REC n) + (d.errorSteps n lec at_).2) 255 ∧
      e.fld (Rg.Ch.BUS n) = passiveOf (d.fld (Rg.Ch.TEC n) + (d.errorSteps n lec at_).1) (d.fld (Rg.Ch.REC n) + (d.errorSteps n lec at_).2) := by
  let failed := ((d.setFld (Rg.Ch.LEC n) lec).count (canCounter n 5)).attemptFailed n (errReason lec)
  have herror : ∀ g : Field, g.addr = (Rg.Ch.TEC n).addr → failed.fld g = (d.setFld (Rg.Ch.LEC n) lec).fld g := by
    intro g hg
    obtain ⟨as, hbehind, hwords⟩ := Dev.attemptFailed_wordsBut ((d.setFld (Rg.Ch.LEC n) lec).count (canCounter n 5)) n (errReason lec)
    rw [hwords.fld fun h => Nat.lt_irrefl _ (hbehind _ (hg ▸ h)), Dev.count_fld]
  have hfailedBus : failed.fld (Rg.Ch.BUS n) < 2 := by
    rw [herror (Rg.Ch.BUS n) rfl, Dev.fld_setFld_of_beside (f := Rg.Ch.LEC n) (g := Rg.Ch.BUS n) _ _ ⟨rfl, rfl, rfl⟩]
    exact hbus
  have hfailedLec : failed.fld (Rg.Ch.LEC n) = lec := by
    rw [herror (Rg.Ch.LEC n) rfl, Dev.fld_setFld_of_fits (w := 4) _ _ ⟨rfl, rfl⟩]
    exact Nat.mod_eq_of_lt (by omega)
  obtain ⟨htec', hrec', hbus', hlec'⟩ := Dev.setErrCounters_flds (d.fld (Rg.Ch.TEC n) + (d.errorSteps n lec at_).1)
    (d.fld (Rg.Ch.REC n) + (d.errorSteps n lec at_).2) hfailedBus
  have hcore := canErrorCore_of_onBus hstate hbus htrx htec
  have hstays : ¬ (d.fld (Rg.Ch.BUS n) ≠ 2 ∧ (canErrorCore n lec at_ d).fld (Rg.Ch.BUS n) = 2) := by
    rw [hcore, hbus']
    have := passiveOf_le_one (d.fld (Rg.Ch.TEC n) + (d.errorSteps n lec at_).1) (d.fld (Rg.Ch.REC n) + (d.errorSteps n lec at_).2)
    omega
  have hop : canErrorOp n lec at_ d = canErrorCore n lec at_ d := if_neg hstays
  rw [hop, hcore]
  exact ⟨hlec'.trans hfailedLec, htec'.trans (Nat.min_eq_left htec), hrec', hbus'⟩

/-! ### Recovery and integration (R182, R192) -/

/-- A recovered channel's counters and state are written, and the recovery is over. -/
def Dev.recovered (d : Dev) (n : Nat) : Dev :=
  (((d.setFld (Rg.Ch.BUS n) 0).setFld (Rg.Ch.TEC n) 0).setFld (Rg.Ch.REC n) 0).setCan n fun c => { c with recovering := false }

theorem canBusRecoveredOp_announces {d : Dev} {n : Nat} (hoff : d.fld (Rg.Ch.BUS n) = 2) (hrec : (d.canCh n).recovering = true)
    (hstate : d.get (Ent.CanSt.STATE n) ≠ 0) : Announces n (Dev.recovered d n) (canBusRecoveredOp n d) := by
  unfold canBusRecoveredOp
  rw [if_pos ⟨hoff, hrec, hstate⟩]
  exact (Announces.canIrq n _ 12).trans (.event ..)

theorem Dev.recovered_flds (d : Dev) (n : Nat) :
    (Dev.recovered d n).fld (Rg.Ch.BUS n) = 0 ∧ (Dev.recovered d n).fld (Rg.Ch.TEC n) = 0 ∧ (Dev.recovered d n).fld (Rg.Ch.REC n) = 0 := by
  rw [Dev.recovered, Dev.fld_setCan, Dev.fld_setCan, Dev.fld_setCan]
  refine ⟨?bus, ?tec, ?rec⟩
  case bus =>
    simp (disch := exact ⟨rfl, rfl, rfl⟩) only [Dev.fld_setFld_of_beside]
    exact Dev.fld_setFld_of_fits _ _ ⟨rfl, rfl⟩
  case tec =>
    simp (disch := exact ⟨rfl, rfl, rfl⟩) only [Dev.fld_setFld_of_beside]
    exact Dev.fld_setFld_of_fits _ _ ⟨rfl, rfl⟩
  case rec => exact Dev.fld_setFld_of_fits _ _ ⟨rfl, rfl⟩

/-! ### A frame is sent (R170) -/

/-- The frame leaves the bus, is counted, and its buffer takes the stamp. -/
def Dev.txbStamped (d : Dev) (n k : Nat) (b : OnBus) : Dev :=
  ((((d.setCan n fun c => { c with onBus := none, late := false }).count (canCounter n 1)).setFld (Rg.Txb.STAMP n k) b.stamp).setFld
    (Rg.Txb.TGEN n k) b.tgen).setFld (Rg.Txb.FRAC n k) b.frac

/-- A buffer's frame that is sent stamps the buffer and completes it; TEC falls. -/
theorem canTxCompleteOp_of_txb {d : Dev} {n k : Nat} {b : OnBus} (hbus : (d.canCh n).onBus = some b) (hreleased : (d.canCh n).released = false)
    (htxb : b.txb = some k) :
    canTxCompleteOp n d = ((Dev.txbStamped d n k b).txbDone n k .ok 0).setErrCounters n
      (((Dev.txbStamped d n k b).txbDone n k .ok 0).fld (Rg.Ch.TEC n) - 1) (((Dev.txbStamped d n k b).txbDone n k .ok 0).fld (Rg.Ch.REC n)) := by
  simp only [canTxCompleteOp, hbus, hreleased, htxb, Bool.false_eq_true, if_false]
  rfl

theorem Dev.txbStamped_stamp (d : Dev) (n k : Nat) (b : OnBus) : (Dev.txbStamped d n k b).fld (Rg.Txb.STAMP n k) = b.stamp % 2 ^ 32 := by
  have hinfo : (Rg.Txb.STAMP n k).addr ≠ (Rg.Txb.TGEN n k).addr := by simp [Rg.Txb.STAMP, Rg.Txb.TGEN]
  rw [Dev.txbStamped, Dev.fld_setFld_other (f := Rg.Txb.FRAC n k) _ _ hinfo, Dev.fld_setFld_other _ _ hinfo]
  exact Dev.fld_setFld_of_fits _ _ ⟨rfl, rfl⟩

theorem Dev.txbStamped_count (d : Dev) (n k : Nat) (b : OnBus) :
    (Dev.txbStamped d n k b).get (canCounter n 1).entry = min (d.get (canCounter n 1).entry + 1) (2 ^ 64 - 1) := by
  rw [Dev.txbStamped, Dev.get_setFld, Dev.get_setFld, Dev.get_setFld, Dev.count_canCounter _ n 1 (by decide), Dev.get_setCan]

theorem Dev.txbStamped_onBus (d : Dev) (n k : Nat) (b : OnBus) : ((Dev.txbStamped d n k b).canCh n).onBus = none := by
  rw [Dev.txbStamped, Dev.canCh, Dev.setFld_can, Dev.setFld_can, Dev.setFld_can, Dev.count_can, ← Dev.canCh, Dev.canCh_setCan]

/-- What a frame that is sent leaves (R170): a free bus, the buffer completed with OK and its stamp, TX_FRAMES counted. -/
theorem canTxCompleteOp_sent {d : Dev} {n k : Nat} {b : OnBus} (hbus : (d.canCh n).onBus = some b) (hreleased : (d.canCh n).released = false)
    (htxb : b.txb = some k) :
    let e := canTxCompleteOp n d
    (e.canCh n).onBus = none ∧ TxbCompleted n k .ok 0 e ∧ e.fld (Rg.Txb.STAMP n k) = b.stamp % 2 ^ 32 ∧
      e.get (canCounter n 1).entry = min (d.get (canCounter n 1).entry + 1) (2 ^ 64 - 1) := by
  have hlog : (canCounter n 1).entry.key ∉ logKeys := canCounter_key_notMem_logKeys n (by decide)
  have hbuffer : ∀ i < 0x80, (Rg.Txb.SEND n k).addr + i ∉ [(Rg.Ch.TEC n).addr, (Rg.Ch.IRQ n).addr] := by
    simp only [Rg.Txb.SEND, Rg.Ch.TEC, Rg.Ch.IRQ, List.mem_cons, List.not_mem_nil, or_false]
    omega
  have hstamp : (Rg.Txb.STAMP n k).addr ∉ [(Rg.Txb.CODE n k).addr, (Rg.Ch.IRQ n).addr] := by
    simp only [Rg.Txb.STAMP, Rg.Txb.CODE, Rg.Ch.IRQ, List.mem_cons, List.not_mem_nil, or_false]
    omega
  rw [canTxCompleteOp_of_txb hbus hreleased htxb]
  generalize hdone : (Dev.txbStamped d n k b).txbDone n k .ok 0 = done
  obtain ⟨hwords, hget, hcan⟩ := Dev.setErrCounters_keeps done n (done.fld (Rg.Ch.TEC n) - 1) (done.fld (Rg.Ch.REC n))
  have hcompleted : TxbCompleted n k .ok 0 done := hdone ▸ Dev.txbDone_completed ..
  refine ⟨?bus, hcompleted.of_wordsBut hwords (hbuffer 0xC (by decide)), ?stamp, ?count⟩
  case bus => rw [Dev.canCh, hcan, ← Dev.canCh, ← hdone, Dev.txbDone_onBus, Dev.txbStamped_onBus]
  case stamp =>
    rw [hwords.fld (hbuffer 0x10 (by decide)), ← hdone, (Dev.txbDone_wordsBut _ n k .ok 0).fld hstamp, Dev.txbStamped_stamp]
  case count => rw [hget _ hlog, ← hdone, Dev.txbDone_get _ n k .ok 0 hlog, Dev.txbStamped_count]

/-! ### The obligation -/

theorem WordsBut.of_fresh {as : List Nat} {a b : Dev} (h : WordsBut as a.fresh b) : WordsBut as a b := h

/-- Settles O12, command by command: SEND and ABORT, a frame's way over the bus, errors and recovery. -/
theorem canTransmission : Obligations.CanTransmission := by
  unfold Obligations.CanTransmission
  intro s hlive
  refine ⟨?send, ?overrun, ?abort, ?start, ?arbitration, ?sent, ?error, ?restart, ?recovered, ?integration, ?dominant⟩
  case send =>
    intro n k v hidle habort hcheck
    rw [gives_iff_of_onDev (f := canSendOp n k v) rfl hlive]
    obtain ⟨hpending, hdone, hcode, hattempts, honeshot, hout, hwords, honly⟩ := canSendOp_takes (d := s.dev.fresh) hidle habort hcheck
    exact ⟨hpending, hdone, hcode, hattempts, honeshot, hout, .of_fresh hwords, .of_fresh honly⟩
  case overrun =>
    intro n k v hpending habort
    rw [gives_iff_of_onDev (f := canSendOp n k v) rfl hlive]
    obtain ⟨hoverrun, hstays, hout, hwords, honly⟩ := canSendOp_overruns (d := s.dev.fresh) hpending habort
    exact ⟨hoverrun, hstays, hout, .of_fresh hwords, .of_fresh honly⟩
  case abort =>
    intro n k hpending hbus
    rw [gives_iff_of_onDev (f := canAbortOp n k) rfl hlive]
    have hop := canAbortOp_of_waiting (d := s.dev.fresh) hpending hbus
    have honly := canAbortOp_only n k s.dev.fresh
    rw [hop] at honly ⊢
    obtain ⟨hcode, hreason, hdone, hidle⟩ := Dev.txbDone_completed s.dev.fresh n k .aborted 7
    exact ⟨hcode, hreason, hdone, hidle, .of_fresh (Dev.txbDone_wordsBut s.dev.fresh n k .aborted 7), .of_fresh honly⟩
  case start =>
    intro n phase k hstate hbus hactive hfree htrx hcand hfirst
    rw [gives_iff_of_onDev (f := canTxStartOp n phase) rfl hlive]
    have hop := canTxStartOp_of_candidate (d := s.dev.fresh) (phase := phase) hstate hbus hactive hfree htrx hcand hfirst
    have honly := canTxStartOp_only n phase s.dev.fresh
    obtain ⟨honBus, hattempts, hout⟩ := Dev.txbStarted_shows s.dev.fresh n k phase
    rw [hop] at honly ⊢
    exact ⟨honBus, hattempts, hout, .of_fresh honly⟩
  case arbitration =>
    intro n k b hbus htxb haborts hstate
    rw [gives_iff_of_onDev (f := canArbitrationLostOp n) rfl hlive]
    have honly := canArbitrationLostOp_only n s.dev.fresh
    have hop : canArbitrationLostOp n s.dev.fresh = _ := Dev.attemptFailed_of_txb (d := s.dev.fresh) 1 hbus htxb haborts hstate
    have hoff : ((Dev.offBus s.dev.fresh n).canCh n).onBus = none := by rw [Dev.offBus, Dev.canCh_setCan]
    by_cases honeshot : s.dev.isSet (Rg.Txb.ONESHOT n k) = true
    case pos =>
      rw [if_pos honeshot]
      obtain ⟨hcode, hreason, hdone, hidle⟩ := Dev.txbDone_completed (Dev.offBus s.dev.fresh n) n k .aborted 1
      rw [hop.trans (if_pos honeshot)] at honly ⊢
      exact ⟨(Dev.txbDone_onBus ..).trans hoff, ⟨hcode, hreason, hdone, hidle⟩, .of_fresh honly⟩
    case neg =>
      rw [if_neg honeshot]
      rw [hop.trans (if_neg honeshot)] at honly ⊢
      exact ⟨hoff, rfl, .of_fresh honly⟩
  case sent =>
    intro n k b _ hbus hreleased htxb _
    rw [gives_iff_of_onDev (f := canTxCompleteOp n) rfl hlive]
    obtain ⟨hfree, ⟨hcode, -, hdone, hidle⟩, hstamp, hcount⟩ := canTxCompleteOp_sent (d := s.dev.fresh) hbus hreleased htxb
    exact ⟨hfree, hcode, hdone, hidle, hstamp, hcount, .of_fresh (canTxCompleteOp_only n _)⟩
  case error =>
    intro n lec at_ _ hlec hstate hbus htrx htec
    rw [gives_iff_of_onDev (f := canErrorOp n lec at_) rfl hlive]
    obtain ⟨hlec', htec', hrec', hbus'⟩ := canErrorOp_flds (d := s.dev.fresh) (at_ := at_) hlec hstate hbus htrx htec
    exact ⟨hlec', htec', hrec', hbus', .of_fresh (canErrorOp_only n lec at_ _)⟩
  case restart =>
    intro n hoff
    rw [gives_iff_of_onDev (f := canRestartOp n) rfl hlive]
    have hop : canRestartOp n s.dev.fresh = (s.dev.fresh.setCan n fun c => { c with recovering := true }).answer .ok :=
      congrArg (Dev.answer · .ok) (if_pos hoff)
    refine ⟨?_, ?_, .of_fresh (canRestartOp_only n _)⟩
    · rw [hop, Dev.canCh, Dev.answer_can, ← Dev.canCh, Dev.canCh_setCan]
    · rw [hop]
      rfl
  case recovered =>
    intro n hoff hrec hstate
    rw [gives_iff_of_onDev (f := canBusRecoveredOp n) rfl hlive]
    have hannounces := canBusRecoveredOp_announces (d := s.dev.fresh) hoff hrec hstate
    obtain ⟨hbus, htec, hrec⟩ := Dev.recovered_flds s.dev.fresh n
    refine ⟨?_, ?_, ?_, ?_, .of_fresh (canBusRecoveredOp_only n _)⟩
    · rw [hannounces.fld (g := Rg.Ch.BUS n) (errWord_ne_irq n), hbus]
    · rw [hannounces.fld (g := Rg.Ch.TEC n) (errWord_ne_irq n), htec]
    · rw [hannounces.fld (g := Rg.Ch.REC n) (errWord_ne_irq n), hrec]
    · rw [hannounces.canCh, Dev.recovered, Dev.canCh_setCan]
  case integration =>
    intro n hwait hstate
    rw [gives_iff_of_onDev (f := canIntegrationEndOp n) rfl hlive]
    have honly := canIntegrationEndOp_only n s.dev.fresh
    have hop : canIntegrationEndOp n s.dev.fresh = _ := if_pos ⟨hwait, hstate⟩
    rw [hop] at honly ⊢
    refine ⟨?_, .of_fresh (.setFld (.of_regs_eq rfl) (List.mem_singleton.2 rfl)), .of_fresh honly⟩
    rw [Dev.fld_setFld_of_fits (w := 2) _ _ ⟨rfl, rfl⟩]
    exact Nat.mod_eq_of_lt (Nat.lt_of_le_of_lt (passiveOf_le_one ..) (by decide))
  case dominant =>
    intro n hsends
    rw [gives_iff_of_onDev (f := dominantTimeoutOp n) rfl hlive]
    have hop : dominantTimeoutOp n s.dev.fresh = s.dev.fresh.setCan n fun c => { c with released := true } := if_pos hsends
    refine ⟨?_, .of_fresh (dominantTimeoutOp_only n _)⟩
    rw [hop, Dev.canCh_setCan]
    rfl

end Sys2Proof

/-! SUPPORT. The filter of a wake source (R208, R209): FILTER_CUR returns to FILTER_BASE. Both are entries of 32 bits, but a state may list any number under
the key of FILTER_BASE; FILTER_CUR takes what fits its width, so the clause on a write to FW_COUNT of `Obligations.DomainAndTransceiverCommands`, which does
not ask that FILTER_BASE lies within its width, fails. -/

namespace Sys2Proof

open Sys2Proof.Machine

/-! ### The counterexample -/

/-- The FILTER_BASE of source 0, an entry of 32 bits, holds 2 to the 32. -/
def wideFilterBase : State :=
  ⟨[], { Dev.reset with dict := KV.insert (Ent.Wsrc.FILTER_BASE 0).key (2 ^ 32) Dev.reset.dict }⟩

/-- FW_COUNT is 0 and stays so under a write of 0. -/
theorem wideFilterBase_count : clearBits 8 (wideFilterBase.dev.get (Ent.Wsrc.FW_COUNT 0)) 0 = 0 := by
  decide +kernel

theorem wideFilterBase_filter : wideFilterBase.dev.get (Ent.Wsrc.FILTER_BASE 0) = 2 ^ 32 := by
  decide +kernel

/-- The write takes FILTER_CUR to the low 32 bits of FILTER_BASE, to 0. -/
theorem fwCountClearOp_wideFilterBase : (fwCountClearOp 0 0 wideFilterBase.dev.fresh).get (Ent.Wsrc.FILTER_CUR 0) = 0 := by
  decide +kernel

/-- Refutes O14, in its clause on a write to FW_COUNT: a state whose FILTER_BASE holds more than its 32 bits leaves FILTER_CUR at another value when the
count becomes 0. -/
theorem not_domainAndTransceiverCommands : ¬ Obligations.DomainAndTransceiverCommands := by
  unfold Obligations.DomainAndTransceiverCommands
  intro hall
  obtain ⟨-, -, -, -, -, -, -, -, -, -, -, -, hclear⟩ := hall wideFilterBase rfl
  obtain ⟨-, hfilter, -⟩ := (gives_iff_of_onDev (f := fwCountClearOp 0 0) rfl rfl).1 (hclear 0 0 (by decide))
  rw [if_pos wideFilterBase_count, fwCountClearOp_wideFilterBase, wideFilterBase_filter] at hfilter
  exact absurd hfilter.1 (by decide)

end Sys2Proof

/-! SUPPORT. Sleep and wake (R198 to R210): what a request for sleep sets, how an entry goes from step to step, and that a wake starts the device. -/

namespace Sys2Proof

open Sys2Proof.Machine

/-! ### The phase of the supply (R440 to R442) -/

theorem Only.power_eq {F : Foot} {a b : Dev} (h : Only F a b) (hpower : Part.power ∉ F.parts) : b.power = a.power := h.keep .power hpower

theorem Dev.setMbBytes_power (d : Dev) (w : Nat → Field) (b : Bytes) : (d.setMbBytes w b).power = d.power := by
  unfold Dev.setMbBytes
  exact foldl_keeps (g := Dev.power) (fun d i => Dev.setFld_power ..) _ d

theorem Dev.mbDone_power (d : Dev) (len total code busy done : Field) (data : Nat → Field) (read : Bool) (st : Status) (tot : Nat) (b : Bytes) :
    (d.mbDone len total code busy done data read st tot b).power = d.power := by
  unfold Dev.mbDone
  split
  · simp only [Dev.setFld_power, Dev.setMbBytes_power]
  · simp only [Dev.setFld_power]

/-- An answer may leave by the service port, whose response is kept beside the phase. -/
theorem Dev.respond_phase (d : Dev) (o : Origin) (read : Bool) (st : Status) (desc : Bytes) (total : Nat) (b : Bytes) :
    (d.respond o read st desc total b).power.phase = d.power.phase := by
  unfold Dev.respond
  extract_lets a body
  split
  · rw [(Dev.sdoAnswer_only ..).power_eq (by decide)]
    rfl
  · rw [(Dev.ndpRespond_only ..).power_eq (by decide)]
    rfl
  · rw [(Dev.ctrl_only ..).power_eq (by decide)]
    rfl
  · rfl
  · split
    · rw [(Dev.bridgeDictDone_only ..).power_eq (by decide)]
      rfl
    · split
      · rfl
      · rw [Dev.mbDone_power]
        rfl
  · rw [Dev.mbDone_power]
    rfl

@[simp] theorem Dev.finish_phase (d : Dev) (key : Nat) (st : Status) : (d.finish key st).power.phase = d.power.phase := by
  unfold Dev.finish
  split
  · rfl
  · rw [Dev.respond_phase, Dev.setD0_power]

theorem Dev.awake_of_asleep {d : Dev} {t : Nat} (h : d.power.phase = .asleep t) : d.awake = false := by
  simp [Dev.awake, h]

/-! ### The start-up ends in a running device (Table 19.8) -/

theorem Dev.refusal_reg_power (d : Dev) (key : Nat) (st : Status) : (d.refusal true key st).power = d.power := by
  rw [Dev.refusal, if_pos rfl, Dev.answer_power]

/-- A watermark that the firmware fixes by register is no request that waits. -/
theorem watermarkWriteOp_power (i v : Nat) (d : Dev) : (watermarkWriteOp i v true d).power = d.power := by
  unfold watermarkWriteOp
  extract_lets key fixed
  have hfixed : fixed.power = d.power := by
    unfold fixed
    rw [Dev.setFld_power, Dev.setFld_power]
  clear_value key fixed
  split
  · rfl
  split
  · rw [Dev.refusal_reg_power]
  split
  · rw [Dev.refusal_reg_power, if_pos rfl, Dev.setFld_power]
  · rw [Dev.refusal_reg_power, Dev.eventBoth_power, hfixed]

theorem Dev.mezzStart_power (d : Dev) : d.mezzStart.power = d.power := by
  simp only [Dev.mezzStart, Dev.swdtRestart, Dev.setMezz_power, Dev.setFld_power, (Dev.newChallenge_only _).power_eq (by decide),
    watermarkWriteOp_power, (Dev.keysRestored_only _).power_eq (by decide)]

/-- After the supplies rise no step of the start-up changes the phase. -/
theorem Dev.startUp_running (d : Dev) (r : ResetCause) (wake : Bool) (env : BootEnv) : (d.startUp r wake env).power.phase = .running := by
  have hmoved (l : List (Nat × Nat)) (e : Dev) : (l.foldl (fun d e => d.event srcUpdate e.1 e.2) e).power = e.power :=
    foldl_keeps (g := Dev.power) (fun d x => Dev.event_power ..) l e
  simp only [Dev.startUp, (Dev.engineBoots_only ..).power_eq (by decide), (Dev.unitsStart_only ..).power_eq (by decide), apply_ite Dev.power,
    (Dev.hallsAbsent_only _).power_eq (by decide), (Dev.hallsStart_only _).power_eq (by decide), ite_self, (Dev.logsOpen_only ..).power_eq (by decide),
    (storageMountOp_only ..).power_eq (by decide), hmoved, (Dev.migrateSettings_only _).power_eq (by decide), Dev.put_power,
    (Dev.causeEvents_only ..).power_eq (by decide), Dev.mezzStart_power, (Dev.dramStart_only ..).power_eq (by decide),
    (Dev.strapsRead_only ..).power_eq (by decide), (Dev.clocksStart_only ..).power_eq (by decide), (Dev.bootRom_only _).power_eq (by decide),
    (Dev.restoreStored_only ..).power_eq (by decide)]

/-! ### Wakes of a device that sleeps (R201) -/

theorem Dev.vestibuleWake_running {d : Dev} {t : Nat} (s fl watch : Nat) (env : WakeEnv) (h : d.power.phase = .asleep t) :
    (d.vestibuleWake s fl watch env).power.phase = .running := by
  simp only [Dev.vestibuleWake, h, Dev.startUp_running]

theorem Dev.woken_running {d : Dev} {t : Nat} (s fl watch : Nat) (env : WakeEnv) (h : d.power.phase = .asleep t) :
    (d.woken s fl watch env).power.phase = .running := by
  have hentering : d.entering = false := by simp [Dev.entering, Dev.awake_of_asleep h]
  rw [Dev.woken, hentering, if_neg Bool.false_ne_true, Dev.vestibuleWake_running s fl watch env h]

theorem Dev.lowPower_of_asleep {d : Dev} {t : Nat} (h : d.power.phase = .asleep t) : d.lowPower = some t := by
  simp only [Dev.lowPower, h]

theorem wakePatternOp_running {d : Dev} {n t : Nat} (env : WakeEnv) (hn : n < 16) (hasleep : d.power.phase = .asleep t)
    (hmodel : d.get Ent.Slpm.MODEL = 0) (hpattern : d.trxState n = 3) : (wakePatternOp n env d).power.phase = .running := by
  have hop : wakePatternOp n env d = d.woken n 0 0xFF env := by
    simp [wakePatternOp, Nat.le_of_lt_succ hn, hmodel, hpattern, Dev.lowPower_of_asleep hasleep]
  rw [hop, Dev.woken_running _ _ _ env hasleep]

/-- The wake-up frame is a classical one (R207). -/
theorem Dev.not_fdf_of_wakeFrameMatches {d : Dev} {n : Nat} {f : CanFrame} (h : d.wakeFrameMatches n f = true) : f.fdf = false := by
  simp only [Dev.wakeFrameMatches, Bool.and_eq_true, Bool.not_eq_true'] at h
  tauto

theorem wakeFrameOp_running {d : Dev} {n t rate : Nat} {f : CanFrame} (env : WakeEnv) (hn : n < 16) (hasleep : d.power.phase = .asleep t)
    (hmodel : d.get Ent.Slpm.MODEL = 0) (hselective : d.trxState n = 4) (hmatch : d.wakeFrameMatches n f = true)
    (hrate : rate = d.get (Ent.Wsrc.SW_RATE n)) : (wakeFrameOp n rate (some f) env d).power.phase = .running := by
  have hop : wakeFrameOp n rate (some f) env d = d.woken n 2 0xFF env := by
    simp [wakeFrameOp, Nat.le_of_lt_succ hn, hmodel, hselective, Dev.lowPower_of_asleep hasleep, hrate, Dev.not_fdf_of_wakeFrameMatches hmatch, hmatch]
  rw [hop, Dev.woken_running _ _ _ env hasleep]

theorem wakePinOp_running {d : Dev} {w t : Nat} {high : Bool} (env : WakeEnv) (hw : w ≤ 1) (hasleep : d.power.phase = .asleep t)
    (hmode : d.wakeMode (16 + w) = if high then 1 else 2) : (wakePinOp w high env d).power.phase = .running := by
  have hop : wakePinOp w high env d = d.woken (16 + w) 0 0xFF env := by
    cases high <;> simp [wakePinOp, hw, hmode]
  rw [hop, Dev.woken_running _ _ _ env hasleep]

theorem wakeReqOp_running {d : Dev} {t : Nat} (env : WakeEnv) (hasleep : d.power.phase = .asleep t) : (wakeReqOp env d).power.phase = .running := by
  have hop : wakeReqOp env d = (d.finish Ent.Slp.WAKE_REQ.key .ok).woken 18 0 0xFF env := by simp only [wakeReqOp, hasleep]
  rw [hop, Dev.woken_running (t := t) _ _ _ env (by rw [Dev.finish_phase, hasleep])]

theorem watchWakeOp_running {d : Dev} {i : Nat} (env : WakeEnv) (hi : i < 32) (hstandby : d.power.phase = .asleep 2) (hwatched : d.watched i ≠ 0)
    (hpriority : d.fld (Rg.Src.PRIORITY (d.watched i)) ≠ 0) : (watchWakeOp i env d).power.phase = .running := by
  have hop : watchWakeOp i env d = d.woken 19 0 i env := by
    simp [watchWakeOp, Nat.le_of_lt_succ hi, hwatched, hpriority, hstandby]
  rw [hop, Dev.woken_running _ _ _ env hstandby]

/-! ### Requests for sleep (R198) -/

/-- ENTRY is 0x3C00:02. The entries of the device log, which most operations write, come after it. -/
theorem Only.entry_eq {F : Foot} {a b : Dev} (h : Only F a b) (hdict : Part.dict ∉ F.parts)
    (hents : F.ents.all (fun f => f.misses 2 || decide (0x500000 ≤ f.base)) = true) : b.get Ent.Slp.ENTRY = a.get Ent.Slp.ENTRY :=
  h.get_eq_before hdict rfl (by decide) hents

theorem Dev.finish_entry (d : Dev) (key : Nat) (st : Status) : (d.finish key st).get Ent.Slp.ENTRY = d.get Ent.Slp.ENTRY :=
  (Dev.finish_only d key st).entry_eq (by decide) (by decide)

/-- The answer to a request may leave by any path; of what the paths count nothing shares the subindex of POWER_REQ. -/
theorem Dev.finish_powerReq (d : Dev) (key : Nat) (st : Status) : (d.finish key st).get Ent.Slp.POWER_REQ = d.get Ent.Slp.POWER_REQ :=
  (Dev.finish_only d key st).get_eq_before (bound := 0x500000) (by decide) rfl (by decide) (by decide)

theorem powerReq_of_idle {d : Dev} {v : Nat} (hv : v < 256) (hmodel : d.get Ent.Slpm.MODEL = 0) (hstopped : d.running = false) (hrole : d.role = 0)
    (hentry : d.get Ent.Slp.ENTRY < 2) : (powerReq v d).get Ent.Slp.POWER_REQ = v ∧ (powerReq v d).get Ent.Slp.ENTRY = 1 := by
  have hop : powerReq v d = ((d.put Ent.Slp.POWER_REQ v).put Ent.Slp.ENTRY 1).finish Ent.Slp.POWER_REQ.key .ok := by
    simp [powerReq, hmodel, hstopped, hrole, hentry]
  rw [hop, Dev.finish_powerReq, Dev.finish_entry, Dev.get_put_same, Dev.get_put_other _ _ (by decide), Dev.get_put_same]
  exact ⟨Nat.mod_eq_of_lt hv, rfl⟩

theorem powerReqCancelOp_of_waiting {d : Dev} (hmodel : d.get Ent.Slpm.MODEL = 0) (hentry : d.get Ent.Slp.ENTRY < 2) :
    (powerReqCancelOp d).get Ent.Slp.POWER_REQ = 0 ∧ (powerReqCancelOp d).get Ent.Slp.ENTRY = 0 := by
  have hentering : d.entering = false := by simp [Dev.entering, hentry]
  have hkeep : ((d.put Ent.Slp.POWER_REQ 0).put Ent.Slp.ENTRY 0).refreshEntry = (d.put Ent.Slp.POWER_REQ 0).put Ent.Slp.ENTRY 0 := by
    have hnative : ((d.put Ent.Slp.POWER_REQ 0).put Ent.Slp.ENTRY 0).get Ent.Slpm.MODEL = 0 := by
      rw [Dev.get_put_other _ _ (by decide), Dev.get_put_other _ _ (by decide), hmodel]
    simp [Dev.refreshEntry, hnative]
  have hop : powerReqCancelOp d = ((d.put Ent.Slp.POWER_REQ 0).put Ent.Slp.ENTRY 0).finish Ent.Slp.POWER_REQ.key .ok := by
    rw [powerReqCancelOp, hentering, if_neg Bool.false_ne_true, hkeep]
  rw [hop, Dev.finish_powerReq, Dev.finish_entry, Dev.get_put_same, Dev.get_put_other _ _ (by decide), Dev.get_put_same]
  exact ⟨rfl, rfl⟩

/-! ### An entry starts: its units drain (Table 8.4 step 1) -/

/-- What the start of an entry sets: ENTRY and the state it leads to. -/
def Machine.Dev.entrySet (d : Dev) : Nat × Nat := (d.get Ent.Slp.ENTRY, d.sleep.target)

theorem Only.entrySet_eq {F : Foot} {a b : Dev} (h : Only F a b) (hdict : Part.dict ∉ F.parts)
    (hents : F.ents.all (fun f => f.misses 2 || decide (0x500000 ≤ f.base)) = true) (hsleep : Part.sleep ∉ F.parts) : b.entrySet = a.entrySet := by
  rw [Dev.entrySet, h.entry_eq hdict hents, show b.sleep = a.sleep from h.keep .sleep hsleep]
  rfl

/-- A keep-alive changes its domain, not what an entry leads to. -/
theorem Dev.sendKeepalive_target (d : Dev) (k : Nat) : (d.sendKeepalive k).sleep.target = d.sleep.target := by
  unfold Dev.sendKeepalive
  extract_lets x fl e f b
  split
  · rfl
  split
  · rw [show (e.svcQueue k ⟨f, none, none⟩).sleep = e.sleep from (Dev.svcQueue_only ..).keep .sleep (by decide)]
    rfl
  · rw [show (Dev.sendTcm ..).sleep = _ from (Dev.sendTcm_only ..).keep .sleep (by decide)]
    rfl

theorem Dev.refreshDomain_target (d : Dev) (k : Nat) : (d.refreshDomain k).sleep.target = d.sleep.target := by
  unfold Dev.refreshDomain
  extract_lets on st
  split
  · rw [Dev.enterDomain, Dev.sendKeepalive_target]
    rfl
  split
  · rfl
  · rfl

theorem Dev.unitDomains_entrySet (d : Dev) (x : UnitId) : (d.unitDomains x).entrySet = d.entrySet := by
  have htarget : (d.unitDomains x).sleep.target = d.sleep.target := by
    unfold Dev.unitDomains
    split
    · exact Dev.refreshDomain_target ..
    · rfl
  rw [Dev.entrySet, (Dev.unitDomains_only d x).entry_eq (by decide) (by decide), htarget]
  rfl

/-- The STATE of a unit is another entry than ENTRY. -/
theorem Dev.put_state_entrySet (d : Dev) {x : UnitId} (hx : Ent.Slp.ENTRY.key ≠ (unitStateEntry x).key) (v : Nat) :
    (d.put (unitStateEntry x) v).entrySet = d.entrySet := by
  rw [Dev.entrySet, Dev.get_put_other _ _ hx]
  rfl

theorem Dev.toDisabled_entrySet (d : Dev) {x : UnitId} (hx : Ent.Slp.ENTRY.key ≠ (unitStateEntry x).key) : (d.toDisabled x).entrySet = d.entrySet := by
  rw [Dev.toDisabled, Dev.unitDomains_entrySet, (Dev.unitDisabled_only ..).entrySet_eq (by decide) (by decide) (by decide), Dev.put_state_entrySet _ hx]
  rfl

theorem Dev.drainCut_entrySet (d : Dev) {x : UnitId} (hx : Ent.Slp.ENTRY.key ≠ (unitStateEntry x).key) : (d.drainCut x).entrySet = d.entrySet := by
  have hop : d.drainCut x = ((d.unitCut x).2.toDisabled x).event (unitSource x) 0x0005 (d.unitCut x).1 := rfl
  rw [hop, (Dev.event_only ..).entrySet_eq (by decide) (by decide) (by decide), Dev.toDisabled_entrySet _ hx,
    (Dev.unitCut_only ..).entrySet_eq (by decide) (by decide) (by decide)]

theorem Dev.unitPauses_entrySet (d : Dev) {x : UnitId} (hx : Ent.Slp.ENTRY.key ≠ (unitStateEntry x).key) : (d.unitPauses x).entrySet = d.entrySet := by
  unfold Dev.unitPauses
  extract_lets f e
  have he : e.entrySet = d.entrySet := by
    unfold e
    rw [(Dev.unitDraining_only ..).entrySet_eq (by decide) (by decide) (by decide)]
    exact Dev.put_state_entrySet d hx 2
  split
  · rw [Dev.drainCut_entrySet e hx, he]
  · exact he

/-- No unit that an entry drains has ENTRY for its STATE. -/
theorem entryUnits_state_ne_entry {x : UnitId} (h : x ∈ entryUnits) : Ent.Slp.ENTRY.key ≠ (unitStateEntry x).key := by
  have hnone : Ent.Slp.ENTRY.key ∉ entryUnits.map fun x => (unitStateEntry x).key := by decide +kernel
  exact fun he => hnone (List.mem_map.2 ⟨x, h, he.symm⟩)

theorem Dev.loadGroupReset_entry (d : Dev) (g : Nat) : (d.loadGroupReset g).get Ent.Slp.ENTRY = d.get Ent.Slp.ENTRY :=
  (Dev.loadGroupReset_only d g).entry_eq (by decide) (by decide)

theorem foldl_unitPauses_entrySet {units : List UnitId} (h : units ⊆ entryUnits) (d : Dev) : (units.foldl Dev.unitPauses d).entrySet = d.entrySet := by
  induction units generalizing d with
  | nil => rfl
  | cons x l ih =>
    obtain ⟨hx, hl⟩ := List.cons_subset.1 h
    rw [List.foldl_cons, ih hl, Dev.unitPauses_entrySet d (entryUnits_state_ne_entry hx)]

/-- Before the units drain, the wakes that nothing confirmed are false (R208) and the load channels are reset; neither writes ENTRY. -/
theorem Dev.entryJudged_entry (d : Dev) (t : Nat) :
    ((((((d.put Ent.Slp.ENTRY 2).sleepEvent 0x0020 t).wakesFalse).loadGroupReset 0).loadGroupReset 1).loadGroupReset 2).get Ent.Slp.ENTRY = 2 := by
  rw [Dev.loadGroupReset_entry, Dev.loadGroupReset_entry, Dev.loadGroupReset_entry, (Dev.wakesFalse_only _).entry_eq (by decide) (by decide),
    Dev.sleepEvent, Dev.eventSys_get _ _ _ _ _ none (by decide), Dev.get_put_same]
  rfl

theorem sleepEntryOp_starts {d : Dev} {t : Nat} (htarget : d.entryTarget = some t) : (sleepEntryOp d).entrySet = (2, t) := by
  have hjudged := Dev.entryJudged_entry d t
  simp only [sleepEntryOp, htarget]
  generalize Dev.loadGroupReset _ 2 = e at hjudged ⊢
  generalize hunits : entryUnits.filter _ = units
  have hsub : units ⊆ entryUnits := hunits ▸ List.filter_subset_self entryUnits
  rw [foldl_unitPauses_entrySet hsub, Dev.entrySet, Dev.get_setSleep, Dev.setSleep_sleep, hjudged]

/-! ### The vestibule arms (Table 8.4 steps 2 to 4) -/

theorem Dev.islandsRun_selfRefresh {d : Dev} (k : Nat) (h : d.clk.selfRefresh = true) : (d.islandsRun k false).clk.selfRefresh = true := by
  have hruns : (d.tbRuns k false).clk = d.clk := by
    unfold Dev.tbRuns
    split <;> rfl
  simp only [Dev.islandsRun, apply_ite Dev.clk, Dev.setClk_clk, hruns]
  split
  · rfl
  · exact h

/-- DRAM stays in self-refresh as the PLLs stop, that of SYS among them (R427). -/
theorem Dev.pllsStop_selfRefresh {d : Dev} (h : d.clk.selfRefresh = true) : d.pllsStop.clk.selfRefresh = true := by
  unfold Dev.pllsStop
  refine List.foldlRecOn (motive := fun e : Dev => e.clk.selfRefresh = true) _ _ ?ssc ?stops
  case ssc => rwa [show (d.sscSet false).clk = d.clk from (Dev.sscSet_only d false).keep .clk (by decide)]
  case stops =>
    intro e he k _
    split
    · exact he
    · exact Dev.islandsRun_selfRefresh k he

/-- What storage programs and the records it commits leave WAKE_MODE alone. -/
theorem Dev.committed_wakeMode (d : Dev) {n : Nat} (hn : n < 18) : d.stoDurable.commitEvents.get (Ent.Wsrc.WAKE_MODE n) = d.get (Ent.Wsrc.WAKE_MODE n) := by
  have hkey : (Ent.Wsrc.WAKE_MODE n).key < 0x400000 := by
    simp only [Entry.key, Ent.Wsrc.WAKE_MODE]
    omega
  rw [(Dev.commitEvents_only _).get_eq_before (sub := 1) (by decide) rfl hkey (by decide), 
    (Dev.stoDurable_only d).get_eq_before (sub := 1) (by decide) rfl hkey (by decide)]

theorem sleepArmOp_arms {d : Dev} (hentry : d.get Ent.Slp.ENTRY = 2) (hdrained : (entryUnits.any fun x => d.unitState x != 0) = false) :
    (sleepArmOp d).get Ent.Slp.ENTRY = 3 ∧ (sleepArmOp d).clk.selfRefresh = true ∧
      (sleepArmOp d).sleep.armed.map (fun a => a.modes) = some ((List.range 18).map fun n => d.get (Ent.Wsrc.WAKE_MODE n)) := by
  have hrefused : ¬ (d.get Ent.Slp.ENTRY ≠ 2 ∨ (entryUnits.any fun x => d.unitState x != 0) = true) := by simp [hentry, hdrained]
  unfold sleepArmOp
  rw [if_neg hrefused]
  extract_lets e a
  have hmodes : a.modes = (List.range 18).map fun n => d.get (Ent.Wsrc.WAKE_MODE n) := by
    refine List.map_congr_left fun n hn => ?_
    unfold e
    split
    · exact Dev.committed_wakeMode d (List.mem_range.1 hn)
    · rfl
  clear_value a e
  refine ⟨Dev.get_put_same .., ?refresh, ?modes⟩
  case refresh =>
    rw [Dev.put_clk, Dev.setSleep_clk]
    exact Dev.pllsStop_selfRefresh rfl
  case modes => rw [Dev.put_sleep, Dev.setSleep_sleep, Option.map_some, hmodes]

/-! ### The commit (Table 8.4 steps 5 and 6) -/

theorem sleepCommitOp_commits {d : Dev} (hentry : d.get Ent.Slp.ENTRY = 3) :
    (sleepCommitOp d).power.phase = .asleep d.sleep.target ∧
    (sleepCommitOp d).oct Ent.Slp.WAKE_RECORD = wakeRecord 0 0xFF 0 d.sleep.target 0xFF d.now ∧
    (sleepCommitOp d).get (sleepCounter 0).entry = min (d.get (sleepCounter 0).entry + 1) (2 ^ 64 - 1) ∧
    Out.line "REGEN" 0 false ∈ (sleepCommitOp d).out := by
  unfold sleepCommitOp
  rw [if_neg (not_not.2 hentry)]
  extract_lets t recorded fallen supplied
  have hcount : recorded.get (sleepCounter 0).entry = min (d.get (sleepCounter 0).entry + 1) (2 ^ 64 - 1) :=
    Dev.count_same _ (sleepCounter 0) 1 rfl (by decide) (by decide)
  have hoct : recorded.oct Ent.Slp.WAKE_RECORD = wakeRecord 0 0xFF 0 d.sleep.target 0xFF d.now := by
    unfold recorded
    rw [Dev.oct, Dev.count_blobs, ← Dev.oct, Dev.oct_putOct_same]
  have hsupplied : supplied.dict = fallen.dict ∧ supplied.blobs = fallen.blobs ∧ Out.line "REGEN" 0 false ∈ supplied.out := by
    unfold supplied
    split
    all_goals exact ⟨rfl, rfl, by simp [fallen]⟩
  obtain ⟨hdict, hblobs, hline⟩ := hsupplied
  have hget : supplied.get (sleepCounter 0).entry = recorded.get (sleepCounter 0).entry := by
    rw [Dev.get, hdict, ← Dev.get]
    exact Dev.get_put_other _ _ (by decide)
  refine ⟨rfl, ?_, hget.trans hcount, hline⟩
  rw [← hoct]
  exact congrArg (fun b => (KV.find Ent.Slp.WAKE_RECORD.key b).getD (blobDefault Ent.Slp.WAKE_RECORD.key Ent.Slp.WAKE_RECORD.bits)) hblobs

/-! ### The obligation -/

/-- Settles O15, command by command: requests, the steps of an entry, and the wakes, each of which ends in the start-up. -/
theorem sleepEntryAndWakeCommands : Obligations.SleepEntryAndWakeCommands := by
  unfold Obligations.SleepEntryAndWakeCommands
  intro s
  have hsupply {t : Nat} (hasleep : s.dev.power.phase = .asleep t) : s.dev.power.phase ≠ .off := by simp [hasleep]
  refine ⟨?standby, ?sleep, ?cancel, ?entry, ?arm, ?commit, ?pattern, ?frame, ?pin, ?request, ?watch⟩
  case standby =>
    intro hlive hmodel hstopped hrole hentry
    rw [gives_iff_of_onDev (f := powerReqStandbyOp) rfl hlive]
    obtain ⟨hrequest, hset⟩ := powerReq_of_idle (d := s.dev.fresh) (v := 2) (by decide) hmodel hstopped hrole hentry
    exact ⟨hrequest, hset, .of_fresh (powerReqStandbyOp_only _)⟩
  case sleep =>
    intro hlive hmodel hstopped hrole hentry
    rw [gives_iff_of_onDev (f := powerReqSleepOp) rfl hlive]
    obtain ⟨hrequest, hset⟩ := powerReq_of_idle (d := s.dev.fresh) (v := 3) (by decide) hmodel hstopped hrole hentry
    exact ⟨hrequest, hset, .of_fresh (powerReqSleepOp_only _)⟩
  case cancel =>
    intro hlive hmodel hentry
    rw [gives_iff_of_onDev (f := powerReqCancelOp) rfl hlive]
    obtain ⟨hrequest, hset⟩ := powerReqCancelOp_of_waiting (d := s.dev.fresh) hmodel hentry
    exact ⟨hrequest, hset, .of_fresh (powerReqCancelOp_only _)⟩
  case entry =>
    intro t hlive htarget
    rw [gives_iff_of_onDev (f := sleepEntryOp) rfl hlive]
    obtain ⟨hentry, hleads⟩ := Prod.ext_iff.1 (sleepEntryOp_starts (d := s.dev.fresh) htarget)
    exact ⟨hentry, hleads, .of_fresh (sleepEntryOp_only _)⟩
  case arm =>
    intro hlive hentry hdrained
    rw [gives_iff_of_onDev (f := sleepArmOp) rfl hlive]
    obtain ⟨harmed, hrefresh, hmodes⟩ := sleepArmOp_arms (d := s.dev.fresh) hentry hdrained
    exact ⟨harmed, hrefresh, hmodes, .of_fresh (sleepArmOp_only _)⟩
  case commit =>
    intro hlive hentry
    rw [gives_iff_of_onDev (f := sleepCommitOp) rfl hlive]
    obtain ⟨hphase, hrecord, hcount, hline⟩ := sleepCommitOp_commits (d := s.dev.fresh) hentry
    exact ⟨hphase, hrecord, hcount, hline, .of_fresh (sleepCommitOp_only _)⟩
  case pattern =>
    intro n t env hn hasleep hmodel hpattern
    rw [gives_iff_of_onVaux (f := wakePatternOp n env) rfl (hsupply hasleep)]
    exact ⟨wakePatternOp_running (d := s.dev.fresh) env hn hasleep hmodel hpattern, .of_fresh (wakePatternOp_only ..)⟩
  case frame =>
    intro n t rate f env hn hasleep hmodel hselective hmatch hrate
    rw [gives_iff_of_onVaux (f := wakeFrameOp n rate (some f) env) rfl (hsupply hasleep)]
    exact ⟨wakeFrameOp_running (d := s.dev.fresh) env hn hasleep hmodel hselective hmatch hrate, .of_fresh (wakeFrameOp_only ..)⟩
  case pin =>
    intro n t high env hn hasleep hmode
    rw [gives_iff_of_onVaux (f := wakePinOp n high env) rfl (hsupply hasleep)]
    exact ⟨wakePinOp_running (d := s.dev.fresh) env hn hasleep hmode, .of_fresh (wakePinOp_only ..)⟩
  case request =>
    intro t env hasleep
    rw [gives_iff_of_onVaux (f := wakeReqOp env) rfl (hsupply hasleep)]
    exact ⟨wakeReqOp_running (d := s.dev.fresh) env hasleep, .of_fresh (wakeReqOp_only ..)⟩
  case watch =>
    intro i env hi hstandby hwatched hpriority
    rw [gives_iff_of_onVaux (f := watchWakeOp i env) rfl (hsupply hstandby)]
    exact ⟨watchWakeOp_running (d := s.dev.fresh) env hi hstandby hwatched hpriority, .of_fresh (watchWakeOp_only ..)⟩

end Sys2Proof

/-! SUPPORT. Retries of a bridge requester (R220): after a retry the sessions that this device serves go on with the requests they hold (R219, R226). A held
dictionary request then goes to D0's queue, which is no part of a retry's footprint, so the clause on retries of `Obligations.BridgeRequesterCommands`, which
does not ask that no served session holds a request, fails. -/

namespace Sys2Proof

open Sys2Proof.Machine

/-! ### The counterexample -/

/-- Unit 0's export to unit 0 of node 5 (Table 9.5): hall 0, the right to its dictionary alone, sessions of MODE 0, no memory. -/
def dictExport : Bytes := le 2 0x8005 ++ bytesOf [0, 0x08, 0, 0] ++ zeros 10

/-- The second request of that requester's session 3: a DICT_READ of 0x1000:00. -/
def heldDictRead : BMsg :=
  { ty := 3, op := 6, spec := false, enc := false, srcNode := 5, srcUnit := 0, dst := 0, sid := 3, epoch := 0, seq := 2, tag := 0, addr := 0, size := 0,
    status := 0, data := descriptor 0x1000 0 0 0 0, auth := [] }

/-- The served session has performed request 1, waits for no answer and holds request 2. A drain timeout leaves a session so when it cuts off the window access that
was its request 1: `Dev.bctxCut` answers the request and resumes nothing. -/
def servedHolding : BServe := ⟨0x20000000009, 0, [], 1, [], [(2, heldDictRead)], 2, none, 0, 0, none, 0⟩

/-- The requester's session of context 2 waits for the response to a READ, with no retry made. -/
def unansweredRead : BSess :=
  { BSess.none with
    state := 2
    sent := [⟨{ heldDictRead with op := 2, srcNode := 0, dst := 5, sid := 2, seq := 1, size := 2, data := [] }, 4, 0, 0, 0x40000000, false, none⟩] }

/-- Unit 0 works, serves the session that holds a request, and has that READ unresolved. -/
def retryingWhileServing : State :=
  ⟨[], (((Dev.reset.putOct (Ent.Bu.BU_MAC 0) (bytesOf [2, 0, 0, 0, 0, 9])).putOct (Ent.Bu.EXPORTS 0) (dictExport ++ zeros 1008)).setBr fun b =>
    { b with serve := [(serveKey 0 heldDictRead, servedHolding)] }).setBrSess 0 2 fun _ => unansweredRead⟩

/-- The session of context 2 is open with an unresolved request, and a retry is left. -/
theorem retryingWhileServing_retries :
    (retryingWhileServing.dev.brSess 0 2).state = 2 ∧ (retryingWhileServing.dev.brSess 0 2).sent ≠ [] ∧
    (retryingWhileServing.dev.brSess 0 2).tries < retryingWhileServing.dev.get (Ent.Bu.RETRIES 0) := by
  decide +kernel

/-- The retry lets the served session go on, and D0 has its dictionary request. -/
theorem bridgeRetryServedOp_retryingWhileServing : (bridgeRetryServedOp 0 2 retryingWhileServing.dev.fresh).d0.queue.length = 1 := by
  decide +kernel

/-- Refutes O17, in its clause on retries: after a retry the sessions that the device serves go on (R219), and a DICT_READ that one of them holds enters D0's
queue (R227), while `Foot.bridgeRetry` leaves D0 alone. -/
theorem not_bridgeRequesterCommands : ¬ Obligations.BridgeRequesterCommands := by
  unfold Obligations.BridgeRequesterCommands
  intro hall
  obtain ⟨-, -, -, -, -, -, -, hretry, -⟩ := hall retryingWhileServing rfl
  obtain ⟨hopen, hsent, htries⟩ := retryingWhileServing_retries
  obtain ⟨-, honly⟩ := (gives_iff_of_onDev (f := bridgeRetryServedOp 0 2) rfl rfl).1 (hretry 0 2 hopen hsent htries)
  have hd0 : (bridgeRetryServedOp 0 2 retryingWhileServing.dev.fresh).d0 = retryingWhileServing.dev.d0 := honly.keep .d0 (by decide)
  have hqueued := bridgeRetryServedOp_retryingWhileServing
  rw [hd0] at hqueued
  exact absurd hqueued (by decide +kernel)

end Sys2Proof

/-! SUPPORT. Task faults (R247): FAULT_CAUSE takes cause, task and value in its 32 bits, the task in bits 23 to 16 (Table 10.19). A state's stack of an
executor may list any number, so the clause on task faults of `Obligations.ScanEngineCommands`, which unlike that on DONE does not ask that the innermost
task is one of an image's tasks 0 to 47, fails. -/

namespace Sys2Proof

open Sys2Proof.Machine

/-! ### The counterexample -/

/-- The engine is in RUN, and executor 1 runs a task with the number 2 to the 16. -/
def runningUnknownTask : State :=
  ⟨[], (Dev.reset.put Ent.Se.STATE 2).setScan fun s => { s with stackOf := [(1, [2 ^ 16])] }⟩

theorem runningUnknownTask_runs :
    runningUnknownTask.dev.running = true ∧ KV.get [] 1 runningUnknownTask.dev.scan.stackOf = [2 ^ 16] := by
  decide +kernel

/-- The task's number lies beyond the 32 bits of FAULT_CAUSE, which shows task 0. -/
theorem taskFaultOp_runningUnknownTask : (taskFaultOp 1 9 runningUnknownTask.dev.fresh).get Ent.Se.FAULT_CAUSE = 2 * 2 ^ 24 + 9 := by
  decide +kernel

/-- Refutes O19, in its clause on task faults: a task number that FAULT_CAUSE cannot hold is cut to its width. -/
theorem not_scanEngineCommands : ¬ Obligations.ScanEngineCommands := by
  unfold Obligations.ScanEngineCommands
  intro hall
  obtain ⟨-, -, -, -, -, -, htaskFault, -⟩ := hall runningUnknownTask rfl
  obtain ⟨hruns, hstack⟩ := runningUnknownTask_runs
  obtain ⟨-, hcause, -⟩ := (gives_iff_of_onDev (f := taskFaultOp 1 9) rfl rfl).1 (htaskFault 1 9 (2 ^ 16) [] hruns hstack)
  rw [taskFaultOp_runningUnknownTask] at hcause
  exact absurd hcause (by decide)

end Sys2Proof

section

set_option Elab.async false

/-! SUPPORT. The retry budget of a load channel (R287): RETRIES_LEFT returns to RETRY_MAX. Both are entries of 8 bits, but a state may list any number under the
key of RETRY_MAX; RETRIES_LEFT takes what fits its width, so the clauses on CLEAR and on the refill, which do not ask that RETRY_MAX lies within its width,
fail. -/

namespace Sys2Proof

open Sys2Proof.Machine

/-! ### The counterexample -/

/-- RETRY_MAX of channel 0, an entry of 8 bits, holds 2 to the 8, and the channel is in this state, with its command off. -/
def wideRetryMax (state : Nat) : State :=
  ⟨[], { Dev.reset with dict := KV.insert (Ent.Lc.RETRY_MAX 0).key (2 ^ 8) (KV.insert (Ent.Lc.STATE 0).key state Dev.reset.dict) }⟩

theorem wideRetryMax_budget (state : Nat) : (wideRetryMax state).dev.get (Ent.Lc.RETRY_MAX 0) = 2 ^ 8 := by
  simp [wideRetryMax, Dev.get]

/-- LATCHED, CLEAR empties the budget. -/
theorem channelClearOp_wideRetryMax :
    (channelClearOp 0 (wideRetryMax 5).dev.fresh).get (Ent.Lc.RETRIES_LEFT ((wideRetryMax 5).dev.loadSelf 0)) = 0 ∧
      (wideRetryMax 5).dev.loadSelf 0 = 0 := by
  decide +kernel

/-- ON, with RETRY_CLEAR_MS at 0, the refill empties the budget. -/
def idleBudget : State := ⟨[], (wideRetryMax 2).dev.put (Ent.Lc.RETRY_CLEAR_MS 0) 0⟩

theorem idleBudget_due :
    idleBudget.dev.loadState 0 = 2 ∧ idleBudget.dev.loadAged 0 (idleBudget.dev.get (Ent.Lc.RETRY_CLEAR_MS 0)) = true := by
  decide +kernel

theorem retryBudgetResetOp_idleBudget :
    (retryBudgetResetOp 0 idleBudget.dev.fresh).get (Ent.Lc.RETRIES_LEFT 0) = 0 ∧ idleBudget.dev.get (Ent.Lc.RETRY_MAX 0) = 2 ^ 8 := by
  decide +kernel

/-- Refutes O21, in its clause on CLEAR: a RETRY_MAX above 8 bits is cut to the width of RETRIES_LEFT. -/
theorem not_loadCommandsAndStates : ¬ Obligations.LoadCommandsAndStates := by
  unfold Obligations.LoadCommandsAndStates
  intro hall
  obtain ⟨-, -, -, -, hclear, -⟩ := hall (wideRetryMax 5) rfl
  obtain ⟨-, hbudget, -⟩ := (gives_iff_of_onDev (f := channelClearOp 0) rfl rfl).1 (hclear 0 (by decide) (by decide +kernel) (by decide +kernel))
  rw [channelClearOp_wideRetryMax.1, channelClearOp_wideRetryMax.2, wideRetryMax_budget] at hbudget
  exact absurd hbudget (by decide)

/-- Refutes O22, in its clause on the retry budget: a RETRY_MAX above 8 bits is cut to the width of RETRIES_LEFT. -/
theorem not_loadSupplySenseAndSafeCommands : ¬ Obligations.LoadSupplySenseAndSafeCommands := by
  unfold Obligations.LoadSupplySenseAndSafeCommands
  intro hall
  obtain ⟨hrefill, -⟩ := hall idleBudget rfl
  obtain ⟨hstate, haged⟩ := idleBudget_due
  obtain ⟨hbudget, -⟩ := (gives_iff_of_onDev (f := retryBudgetResetOp 0) rfl rfl).1 (hrefill 0 (by decide) hstate haged)
  rw [retryBudgetResetOp_idleBudget.1, retryBudgetResetOp_idleBudget.2] at hbudget
  exact absurd hbudget (by decide)

end Sys2Proof

/-! SUPPORT. The interrupt controller and the pages of the cores (R330 to R340): what a raised source, an evaluated request line, a claim, a completion and
an entry to WFI do to the register words. -/

namespace Sys2Proof

open Sys2Proof.Machine

/-! ### The request line -/

/-- The words of the core pages lie from here on; the source words lie below. -/
theorem pgWfi_addr_ge (k : Nat) : 0x10010000 ≤ (pgWfi k).addr := by
  unfold pgWfi
  split
  · decide
  · simp only [Rg.Cpg.WFI]; omega

theorem Dev.fld_evalLine (d : Dev) {k : Nat} {g : Field} (h : g.addr ≠ (pgWfi k).addr) : (d.evalLine k).fld g = d.fld g := by
  unfold Dev.evalLine
  dsimp only
  split
  · rw [Dev.fld_emit, Dev.fld_setFld_other _ _ h]
  · exact Dev.fld_emit ..

/-- What stands before the core pages, as the words of the sources do, an evaluation leaves. -/
theorem Dev.fld_evalLine_below (d : Dev) (k : Nat) {g : Field} (h : g.addr < 0x10010000) : (d.evalLine k).fld g = d.fld g :=
  Dev.fld_evalLine d (Nat.ne_of_lt (Nat.lt_of_lt_of_le h (pgWfi_addr_ge k)))

theorem Dev.mem_out_evalLine {d : Dev} {o : Out} (k : Nat) (h : o ∈ d.out) : o ∈ (d.evalLine k).out := by
  unfold Dev.evalLine
  dsimp only
  split <;> exact List.mem_append_left _ h

theorem Dev.mem_out_answer (d : Dev) (s : Status) (v : Nat) : Out.answer s v ∈ (d.answer s v).out :=
  List.mem_append_right _ (List.mem_singleton.2 rfl)

@[simp] theorem Dev.fld_raise_same (d : Dev) (n : Nat) : (d.raise n).fld (Rg.Src.PENDING n) = 1 :=
  Dev.fld_setFld_of_fits d 1 ⟨rfl, rfl⟩

theorem Dev.fld_raise_other (d : Dev) {n j : Nat} (h : j ≠ n) : (d.raise n).fld (Rg.Src.PENDING j) = d.fld (Rg.Src.PENDING j) :=
  Dev.fld_setFld_other d 1 (by simp only [Rg.Src.PENDING]; omega)

/-! ### The doorbell of the cores (R337) -/

theorem doorbellOp_of_core {v : Nat} (hv : v % 16 ≤ 11) (d : Dev) :
    doorbellOp 0 v d = ((d.raise (v % 16 + 1)).answer .ok).evalLine (v % 16) := by
  rw [doorbellOp, if_neg (by simp), if_neg (by omega)]

/-- A source's word, below those of the core pages. -/
theorem srcPending_addr_lt {n : Nat} (h : n < 512) : (Rg.Src.PENDING n).addr < 0x10010000 := by
  simp only [Rg.Src.PENDING]; omega

theorem doorbellOp_pending {v : Nat} (hv : v % 16 ≤ 11) (d : Dev) : (doorbellOp 0 v d).fld (Rg.Src.PENDING (v % 16 + 1)) = 1 := by
  rw [doorbellOp_of_core hv, Dev.fld_evalLine_below _ _ (srcPending_addr_lt (by omega)), Dev.fld_answer, Dev.fld_raise_same]

theorem doorbellOp_pending_other {v j : Nat} (hv : v % 16 ≤ 11) (hj : j < 512) (hne : j ≠ v % 16 + 1) (d : Dev) :
    (doorbellOp 0 v d).fld (Rg.Src.PENDING j) = d.fld (Rg.Src.PENDING j) := by
  rw [doorbellOp_of_core hv, Dev.fld_evalLine_below _ _ (srcPending_addr_lt hj), Dev.fld_answer, Dev.fld_raise_other d hne]

theorem doorbellOp_answers {v : Nat} (hv : v % 16 ≤ 11) (d : Dev) : Out.answer .ok 0 ∈ (doorbellOp 0 v d).out := by
  rw [doorbellOp_of_core hv]
  exact Dev.mem_out_evalLine _ (Dev.mem_out_answer ..)

/-- Settles O52. -/
theorem doorbellRings : Obligations.DoorbellRings := by
  unfold Obligations.DoorbellRings
  intro s hlive
  refine ⟨fun k hk => ?_, fun hall v hhall => ?_⟩
  · have hmod : k % 16 = k := Nat.mod_eq_of_lt (by omega)
    refine (gives_iff_of_onDev (f := doorbellOp 0 k) rfl hlive).2 ⟨?_, doorbellOp_answers (by omega) _, fun j hj hne => ?_,
      Only.of_fresh (doorbellOp_only ..)⟩
    · have := doorbellOp_pending (v := k) (by omega) s.dev.fresh
      rwa [hmod] at this
    · rw [doorbellOp_pending_other (by omega) hj (by omega), Dev.fld_fresh]
  · exact (gives_iff_of_onDev (f := doorbellOp hall v) rfl hlive).2 (if_pos hhall)

/-! ### The lockstep pairs (R328, R329) -/

/-- The entries of the device log have subindex 1 and 2. -/
theorem key_notMem_logKeys {e : Entry} {sub : Nat} (hsub : e.sub = sub) (h : sub % 256 ≠ 1 ∧ sub % 256 ≠ 2) : e.key ∉ logKeys := by
  subst hsub
  simp only [logKeys, Entry.key, Ent.Evlog.LAST_SEQ, Ent.Evlog.LOG_LOST, List.mem_cons, List.not_mem_nil, or_false, not_or]
  omega

/-- A command's completion writes its CMD_STATUS, of subindex 3, and no other entry of that subindex. -/
theorem Dev.get_hallDone (d : Dev) {h : Nat} (s : Status) (t : Nat) {e : Entry} (hsub : e.sub = 3) (hkey : e.key ≠ (Ent.Hall.CMD_STATUS h).key) :
    (d.hallDone h s t).get e = d.get e := by
  rw [Dev.hallDone, (Dev.finish_only ..).get_eq (by decide) hsub (by decide), Dev.get_put_other _ _ hkey]

theorem Dev.get_migEnd {d : Dev} (s : Status) {e : Entry} (hsub : e.sub = 3)
    (hkey : ∀ m, d.tenants.mig = some m → e.key ≠ (Ent.Hall.CMD_STATUS m.hall).key) : (d.migEnd s).get e = d.get e := by
  unfold Dev.migEnd
  split
  case h_1 => rfl
  case h_2 m hm =>
    have hsend := fun (x : Dev) (b : Bytes) => (Dev.migSend_only x 6 m.hall b).get_eq (e := e) (by decide) hsub (by decide)
    have hthaw := fun (x : Dev) => (Dev.hallThaw_only x m.hall).get_eq (e := e) (by decide) hsub (by decide)
    have htold := fun (x : Dev) (us : Nat) => (Dev.migDone_only x m.hall s us).get_eq (e := e) (by decide) hsub (by decide)
    have hdone := fun (x : Dev) => Dev.get_hallDone x s 0 hsub (hkey m hm)
    dsimp only
    split
    · rw [hdone, hsend, Dev.get_setHalls]
    · split
      · rw [hdone, htold, hthaw, hsend, Dev.get_setHalls]
      · rw [htold, hthaw, hsend, Dev.get_setHalls]

theorem Dev.get_migAbort (d : Dev) {h : Nat} {e : Entry} (hsub : e.sub = 3) (hkey : e.key ≠ (Ent.Hall.CMD_STATUS h).key) :
    (d.migAbort h).get e = d.get e := by
  unfold Dev.migAbort
  split
  next hmine =>
    refine Dev.get_migEnd _ hsub fun m hm => ?_
    rw [hm, Bool.and_eq_true] at hmine
    rwa [beq_iff_eq.1 hmine.1]
  next => rfl

theorem Dev.get_hallFault (d : Dev) {h : Nat} (cause : Nat) {e : Entry} (hsub : e.sub = 3) (hkey : e.key ≠ (Ent.Hall.CMD_STATUS h).key) :
    (d.hallFault h cause).get e = d.get e := by
  have hput := fun (x : Dev) => Dev.get_put_other x cause (e := Ent.Hall.FAULT_CAUSE h) (x := e) (by
    simp only [Entry.key, Ent.Hall.FAULT_CAUSE, hsub]; omega)
  have hcount (x : Dev) : (x.count (hallCounter h 0)).get e = x.get e :=
    Dev.count_get_other x _ _ _ _ 1 (by simp only [Entry.key, hsub]; omega) (by simp only [Entry.key, Ent.Hall.COUNTER_SAT, hsub]; omega)
      (key_notMem_logKeys hsub (by decide))
  have hevent := fun (x : Dev) => (Dev.hallEvent_only x h 0x21 cause).get_eq (e := e) (by decide) hsub (by decide)
  have hreset := fun (x : Dev) => (Dev.hallReset_only x h).get_eq (e := e) (by decide) hsub (by decide)
  have hset := fun (x : Dev) (s : Nat) => (Dev.setHall_only x h s).get_eq (e := e) (by decide) hsub (by decide)
  have hhalt := fun (x : Dev) => (Dev.coresHalt_only x h true).get_eq (e := e) (by decide) hsub (by decide)
  have hbefore := fun (x : Dev) => Dev.get_migAbort x hsub hkey
  have hdone := fun (x : Dev) => Dev.get_hallDone x .wrongState 0 hsub hkey
  unfold Dev.hallFault
  dsimp only
  split_ifs <;> simp only [hput, hcount, hevent, hreset, hset, hhalt, hbefore, hdone, Dev.get_setHalls]


theorem pairState_key_ne_cmdStatus {p h : Nat} (hh : h < 256) : (Ent.Pair.STATE p).key ≠ (Ent.Hall.CMD_STATUS h).key := by
  simp only [Entry.key, Ent.Pair.STATE, Ent.Hall.CMD_STATUS]; omega

/-- The faults of the halls that the pair runs leave its state. -/
theorem Dev.get_pairState_hallFaults (d : Dev) (p c : Nat) :
    ((List.range 255).foldl (fun d h => if bit (d.get (Ent.Hall.CCORES (h + 1))) c then d.hallFault (h + 1) 1 else d) d).get (Ent.Pair.STATE p) =
      d.get (Ent.Pair.STATE p) := by
  refine List.foldlRecOn (motive := fun x : Dev => x.get (Ent.Pair.STATE p) = d.get (Ent.Pair.STATE p)) _ _ rfl fun x hx h hh => ?_
  rw [List.mem_range] at hh
  split
  · rw [Dev.get_hallFault x 1 rfl (pairState_key_ne_cmdStatus (by omega)), hx]
  · exact hx

/-- The checker finds a mismatch (R329): the pair is halted. -/
theorem lockstepMismatchOp_state {d : Dev} {p : Nat} (hp : p < 4) (kind pc : Nat) (hlock : d.get (Ent.Pair.STATE p) = 1) :
    (lockstepMismatchOp p kind pc d).get (Ent.Pair.STATE p) = 2 := by
  have hring (x : Dev) (v : Nat) := (Dev.eventRing_only x 0 (srcCore (2 * p)) 0x0021 v none).get_eq (e := Ent.Pair.STATE p) (sub := 3) (by decide) rfl (by decide)
  have hirq (x : Dev) := (Dev.sysIrq_only x 8 p).get_eq (e := Ent.Pair.STATE p) (sub := 3) (by decide) rfl (by decide)
  have hexec (x : Dev) := (Dev.executorFault_only x (8 + p) 3 0).get_eq_before (e := Ent.Pair.STATE p) (bound := 0x4400 * 256)
    (sub := 3) (by decide) rfl (by simp only [Entry.key, Ent.Pair.STATE]; omega) (by decide)
  have hevent (x : Dev) (v : Nat) := Dev.event_get x (srcCore (2 * p)) 0x0021 v none (e := Ent.Pair.STATE p) (key_notMem_logKeys (sub := 3) rfl (by decide))
  have hcount (x : Dev) : (x.count ⟨Ent.Pair.MISMATCHES p, Ent.Pair.COUNTER_SAT p, 0, srcCore (2 * p)⟩).get (Ent.Pair.STATE p) = x.get (Ent.Pair.STATE p) :=
    Dev.count_get_other x _ _ _ _ 1 (by simp only [Entry.key, Ent.Pair.STATE, Ent.Pair.MISMATCHES]; omega)
      (by simp only [Entry.key, Ent.Pair.STATE, Ent.Pair.COUNTER_SAT]; omega) (key_notMem_logKeys (sub := 3) rfl (by decide))
  unfold lockstepMismatchOp
  dsimp only
  rw [if_neg (not_not.2 hlock)]
  split_ifs <;> simp only [hexec, Dev.get_pairState_hallFaults, hirq, hring, hevent, Dev.get_setHart, hcount, Dev.get_put_same] <;> rfl

@[simp] theorem Dev.hart_setHart_same (d : Dev) (k : Nat) (f : Hart → Hart) : (d.setHart k f).hart k = f (d.hart k) := KV.get_put_same ..

theorem Only.hart_eq {F : Foot} {a b : Dev} (h : Only F a b) (hharts : Part.harts ∉ F.parts) (k : Nat) : b.hart k = a.hart k :=
  congrArg (KV.get Hart.fresh k) (h.keep .harts hharts)

/-- What a reset makes of core `k` (R340). -/
def Machine.Hart.afterReset (k : Nat) (h : Hart) : Hart := if k < 4 then Hart.fresh else { Hart.fresh with nhall := h.nhall }

theorem Hart.afterReset_halted (k : Nat) (h : Hart) : (h.afterReset k).halted = false := by
  unfold Hart.afterReset
  split <;> rfl

/-- A reset of a core changes that core alone. -/
theorem Dev.hart_resetCore (d : Dev) (k j : Nat) : (d.resetCore k).hart j = if j = k then (d.hart k).afterReset k else d.hart j := by
  have hstack (x : Dev) : ((List.range 8).foldl (fun d i => (d.setFld (pgSrc k i) 0).setFld (pgSaved k i) 0) x).harts = x.harts := by
    refine foldl_keeps (g := Dev.harts) (fun x i => ?_) _ _
    rw [Dev.setFld_harts, Dev.setFld_harts]
  have hactive (x : Dev) : ((srcNumbers k).foldl (fun d n => if k = 12 || d.srcTarget n == k then d.setFld (sActive k n) 0 else d) x).harts = x.harts := by
    refine foldl_keeps (g := Dev.harts) (fun x n => ?_) _ _
    split <;> rfl
  have hgone : (if k < 4 then d.leftBehind (.aCore k) else if k < 12 then d.leftBehind (.cCore (k - 4)) else d.leftBehind .m0).harts = d.harts := by
    split_ifs <;> exact (Dev.leftBehind_only ..).keep .harts (by decide)
  unfold Dev.resetCore
  rw [(Dev.swdtFollow_only _).hart_eq (by decide)]
  simp only [Dev.hart, Dev.setHart, hactive, Dev.setFld_harts, hstack, hgone]
  by_cases h : j = k
  · rw [if_pos h, h, KV.get_put_same]
    rfl
  · rw [if_neg h, KV.get_put_other h]

/-- RESET of a halted pair (R329): both cores go on. -/
theorem pairResetOp_harts {d : Dev} {p : Nat} (hhalt : d.get (Ent.Pair.STATE p) = 2) :
    ((pairResetOp p d).hart (4 + 2 * p)).halted = false ∧ ((pairResetOp p d).hart (5 + 2 * p)).halted = false := by
  rw [pairResetOp, if_neg (not_not.2 hhalt)]
  have hput (x : Dev) (j : Nat) : ((x.put (Ent.Pair.STATE p) 1).answer .ok).hart j = x.hart j := rfl
  rw [hput, hput, Dev.hart_resetCore, if_neg (by omega), Dev.hart_resetCore, if_pos rfl, Dev.hart_resetCore, if_pos rfl]
  exact ⟨Hart.afterReset_halted .., Hart.afterReset_halted ..⟩

theorem pairResetOp_state {d : Dev} {p : Nat} (hhalt : d.get (Ent.Pair.STATE p) = 2) :
    (pairResetOp p d).get (Ent.Pair.STATE p) = 1 ∧ Out.answer .ok 0 ∈ (pairResetOp p d).out := by
  rw [pairResetOp, if_neg (not_not.2 hhalt)]
  exact ⟨(Dev.get_answer ..).trans (Dev.get_put_same ..), Dev.mem_out_answer ..⟩

/-! ### The page of a core (Table 14.4) -/

/-- Where the page of core `k` begins, and where the words of its sources begin. -/
def pgBase (k : Nat) : Nat := if k = 12 then 0x1F051000 else 0x10010000 + 0x1000 * k
def srcBase (k : Nat) : Nat := if k = 12 then 0x1F050000 else 0x10000000

theorem pgDepth_addr (k : Nat) : (pgDepth k).addr = pgBase k + 0xC := by unfold pgDepth pgBase; split <;> rfl
theorem pgPrio_addr (k : Nat) : (pgPrio k).addr = pgBase k + 0xC := by unfold pgPrio pgBase; split <;> rfl
theorem pgWfi_addr (k : Nat) : (pgWfi k).addr = pgBase k + 0x8 := by unfold pgWfi pgBase; split <;> rfl
theorem pgSrc_addr (k i : Nat) : (pgSrc k i).addr = pgBase k + 0x4 * i + 0x10 := by unfold pgSrc pgBase; split <;> rfl
theorem pgSaved_addr (k i : Nat) : (pgSaved k i).addr = pgBase k + 0x4 * i + 0x10 := by unfold pgSaved pgBase; split <;> rfl
theorem sActive_addr (k n : Nat) : (sActive k n).addr = srcBase k + 0x4 * n := by unfold sActive srcBase; split <;> rfl

/-- The source words of a controller lie below its core pages. -/
theorem srcBase_below (k : Nat) : srcBase k + 0x4 * 512 < pgBase k := by
  unfold srcBase pgBase
  split <;> omega

theorem beside_pgPrio_pgDepth (k : Nat) : Beside (pgPrio k) (pgDepth k) := by unfold pgPrio pgDepth; split <;> exact ⟨rfl, rfl, rfl⟩
theorem beside_pgSaved_pgSrc (k i : Nat) : Beside (pgSaved k i) (pgSrc k i) := by unfold pgSaved pgSrc; split <;> exact ⟨rfl, rfl, rfl⟩
theorem fits_pgDepth (k : Nat) : Fits (pgDepth k) 4 := by unfold pgDepth; split <;> exact ⟨rfl, rfl⟩
theorem fits_pgPrio (k : Nat) : Fits (pgPrio k) 4 := by unfold pgPrio; split <;> exact ⟨rfl, rfl⟩
theorem fits_pgSrc (k i : Nat) : Fits (pgSrc k i) 9 := by unfold pgSrc; split <;> exact ⟨rfl, rfl⟩
theorem fits_sActive (k n : Nat) : Fits (sActive k n) 1 := by unfold sActive; split <;> exact ⟨rfl, rfl⟩
theorem fits_pgWfi (k : Nat) : Fits (pgWfi k) 1 := by unfold pgWfi; split <;> exact ⟨rfl, rfl⟩

theorem Machine.Dev.fld_lt (d : Dev) {f : Field} {w : Nat} (h : Fits f w) : d.fld f < 2 ^ w := by
  rw [← h.width]
  exact Nat.mod_lt _ (Nat.two_pow_pos _)

/-! ### CLAIM (R335) -/

theorem Machine.Dev.bestSource_lt (d : Dev) (k : Nat) : d.bestSource k < 512 := by
  refine List.foldlRecOn (motive := fun b : Nat × Nat => b.1 < 512) _ _ (by decide) fun b hb n hn => ?_
  have hlt : n < 512 := by
    unfold srcNumbers at hn
    split at hn <;> obtain ⟨m, hm, rfl⟩ := List.mem_map.1 hn <;> rw [List.mem_range] at hm <;> omega
  split
  · exact hlt
  · exact hb

/-- Counting at a core writes no register. -/
theorem Dev.fld_countCore (d : Dev) (k i : Nat) (g : Field) : (d.countCore k i).fld g = d.fld g := by
  unfold Dev.countCore
  split
  · rfl
  · exact Dev.count_fld ..

/-- A started task may leave its dispatch source pending; no other field changes. -/
theorem Dev.fld_startTask (d : Dev) (x : Nat) {g : Field} (h : g.addr ≠ (Rg.Src.PENDING (13 + x)).addr ∨ Beside (Rg.Src.PENDING (13 + x)) g) :
    (d.startTask x).fld g = d.fld g := by
  have hraise (y : Dev) : (y.raise (13 + x)).fld g = y.fld g := by
    rcases h with h | h
    · exact Dev.fld_setFld_other y 1 h
    · exact Dev.fld_setFld_of_beside y 1 h
  unfold Dev.startTask
  dsimp only
  split
  · rfl
  · split
    · rfl
    · rw [hraise]
      rfl

/-- The words that a claim writes, before its count and the start of a task. -/
def Machine.Dev.claimWords (d : Dev) (k n : Nat) : Dev :=
  ((((((d.setFld (sPending k n) 0).setFld (sActive k n) 1).setFld (pgSrc k (d.fld (pgDepth k))) n).setFld (pgSaved k (d.fld (pgDepth k)))
    (d.runPrio k)).setFld (pgDepth k) (d.fld (pgDepth k) + 1)).setFld (pgPrio k) (d.prioOf k n)).setFld (pgWfi k) 0

theorem Dev.fld_claimSource (d : Dev) {k n : Nat} {g : Field}
    (h : 12 < n ∧ k ≠ 12 → g.addr ≠ (Rg.Src.PENDING n).addr ∨ Beside (Rg.Src.PENDING n) g) :
    (d.claimSource k n).fld g = (d.claimWords k n).fld g := by
  have hheld (x : Dev) : (if x.fld (sMod k n) = 0 then x else { x with held := KV.insert (heldKey k n) x.time.raw x.held }).fld g = x.fld g := by
    split <;> rfl
  unfold Dev.claimSource
  dsimp only
  split
  next htask =>
    obtain ⟨hk, hlo, hhi⟩ := htask
    have hn : 13 + (n - 13) = n := by omega
    rw [Dev.fld_startTask _ _ (by rw [hn]; exact h ⟨by omega, hk⟩), Dev.fld_countCore, hheld]
    rfl
  next =>
    rw [Dev.fld_countCore, hheld]
    rfl

/-- A claim with room on the stack takes the best source. -/
theorem claimOp_of_best {d : Dev} {k n : Nat} {i : Initiator} (hcore : coreOf i = some k) (hroom : d.fld (pgDepth k) < 8)
    (hbest : d.bestSource k = n) (hn : n ≠ 0) : claimOp k i d = ((d.claimSource k n).answer .ok n).evalLine k := by
  rw [claimOp, if_neg (by simp [hcore]), if_neg (by omega)]
  split
  next h => exact absurd (hbest.symm.trans h) hn
  next => rw [hbest]

/-- The word of a source beside its PENDING bit. -/
theorem beside_pending_active (n : Nat) : Beside (Rg.Src.PENDING n) (Rg.Src.ACTIVE n) := ⟨rfl, rfl, rfl⟩

theorem claimOp_fields {d : Dev} {k n : Nat} {i : Initiator} (hk : k ≤ 12) (hcore : coreOf i = some k) (hroom : d.fld (pgDepth k) < 8)
    (hbest : d.bestSource k = n) (hn : n ≠ 0) :
    (claimOp k i d).fld (sActive k n) = 1 ∧ (claimOp k i d).fld (pgDepth k) = d.fld (pgDepth k) + 1 ∧
      (claimOp k i d).fld (pgSrc k (d.fld (pgDepth k))) = n ∧ (claimOp k i d).fld (pgPrio k) = d.prioOf k n % 16 ∧
      Out.answer .ok n ∈ (claimOp k i d).out := by
  have hlt : n < 512 := hbest ▸ d.bestSource_lt k
  have hbelow := srcBase_below k
  have hpage : 0x10010000 ≤ pgBase k := by unfold pgBase; split <;> omega
  have hline {g : Field} (h : g.addr ≠ pgBase k + 0x8) (hp : 12 < n ∧ k ≠ 12 → g.addr ≠ (Rg.Src.PENDING n).addr ∨ Beside (Rg.Src.PENDING n) g) :
      (claimOp k i d).fld g = (d.claimWords k n).fld g := by
    rw [claimOp_of_best hcore hroom hbest hn, Dev.fld_evalLine _ (by rwa [pgWfi_addr]), Dev.fld_answer, Dev.fld_claimSource d hp]
  have hcorePage {g : Field} (h : pgBase k ≤ g.addr) : g.addr ≠ (Rg.Src.PENDING n).addr := by
    simp only [Rg.Src.PENDING]; omega
  have hother {x : Dev} {f g : Field} (v : Nat) (h : g.addr ≠ f.addr) := Dev.fld_setFld_other x (f := f) (g := g) v h
  refine ⟨?_, ?_, ?_, ?_, ?_⟩
  · rw [hline (by rw [sActive_addr]; omega) fun ⟨_, h12⟩ => .inr (by rw [sActive, if_neg h12]; exact beside_pending_active n), Dev.claimWords]
    rw [hother, hother, hother, hother, hother, Dev.fld_setFld_of_fits _ _ (fits_sActive k n)]
    · rfl
    all_goals simp only [sActive_addr, pgWfi_addr, pgPrio_addr, pgDepth_addr, pgSaved_addr, pgSrc_addr]; omega
  · rw [hline (by rw [pgDepth_addr]; omega) fun _ => .inl (hcorePage (by rw [pgDepth_addr]; omega)), Dev.claimWords, hother,
      Dev.fld_setFld_of_beside _ _ (beside_pgPrio_pgDepth k), Dev.fld_setFld_of_fits _ _ (fits_pgDepth k), Nat.mod_eq_of_lt (by omega)]
    simp only [pgWfi_addr, pgDepth_addr]; omega
  · rw [hline (by rw [pgSrc_addr]; omega) fun _ => .inl (hcorePage (by rw [pgSrc_addr]; omega)), Dev.claimWords]
    rw [hother, hother, hother, Dev.fld_setFld_of_beside _ _ (beside_pgSaved_pgSrc ..), Dev.fld_setFld_of_fits _ _ (fits_pgSrc ..), Nat.mod_eq_of_lt (by omega)]
    all_goals simp only [pgSrc_addr, pgWfi_addr, pgPrio_addr, pgDepth_addr]; omega
  · rw [hline (by rw [pgPrio_addr]; omega) fun _ => .inl (hcorePage (by rw [pgPrio_addr]; omega)), Dev.claimWords, hother,
      Dev.fld_setFld_of_fits _ _ (fits_pgPrio k)]
    · rfl
    simp only [pgWfi_addr, pgPrio_addr]; omega
  · rw [claimOp_of_best hcore hroom hbest hn]
    exact Dev.mem_out_evalLine _ (Dev.mem_out_answer ..)

/-! ### COMPLETE (R336) -/

theorem completeOp_fields {d : Dev} {k v : Nat} {i : Initiator} (hcore : coreOf i = some k) (hlo : 0 < d.fld (pgDepth k))
    (hhi : d.fld (pgDepth k) ≤ 8) (htop : d.fld (pgSrc k (d.fld (pgDepth k) - 1)) = v) :
    (completeOp k i v d).fld (pgDepth k) = d.fld (pgDepth k) - 1 ∧
      (((List.range (d.fld (pgDepth k) - 1)).any fun j => d.fld (pgSrc k j) == v) = false → (completeOp k i v d).fld (sActive k v) = 0) ∧
      Out.answer .ok 0 ∈ (completeOp k i v d).out := by
  have hlt : v < 512 := htop ▸ d.fld_lt (fits_pgSrc ..)
  have hbelow := srcBase_below k
  have hother {x : Dev} {f g : Field} (v : Nat) (h : g.addr ≠ f.addr) := Dev.fld_setFld_other x (f := f) (g := g) v h
  rw [completeOp, if_neg (by simp [hcore]), if_pos ⟨by omega, htop⟩]
  refine ⟨?_, fun hlast => ?_, Dev.mem_out_evalLine _ (Dev.mem_out_answer ..)⟩
  · rw [Dev.fld_evalLine _ (by rw [pgDepth_addr, pgWfi_addr]; omega), Dev.fld_answer, Dev.fld_setFld_of_beside _ _ (beside_pgPrio_pgDepth k),
      Dev.fld_setFld_of_fits _ _ (fits_pgDepth k), Nat.mod_eq_of_lt (by omega)]
  · rw [Dev.fld_evalLine _ (by rw [sActive_addr, pgWfi_addr]; omega), Dev.fld_answer, hother, hother, hother, hother, hlast, if_neg Bool.false_ne_true,
      Dev.fld_setFld_of_fits _ _ (fits_sActive k v)]
    · rfl
    all_goals simp only [sActive_addr, pgPrio_addr, pgDepth_addr, pgSaved_addr, pgSrc_addr]; omega

/-! ### Holds and WFI (R339) -/

theorem KV.find_keep_none {α : Type} {p : Nat → α → Bool} {k : Nat} (h : ∀ v, p k v = false) (m : KV α) : KV.find k (KV.keep p m) = none := by
  induction m with
  | nil => rfl
  | cons x m ih =>
    obtain ⟨j, v⟩ := x
    rw [KV.keep]
    split
    next hp =>
      rw [KV.find, if_neg (by rintro rfl; simp [h] at hp), ih]
    next => exact ih

theorem Dev.evalLine_held (d : Dev) (k : Nat) : (d.evalLine k).held = d.held := (Dev.evalLine_only d k).keep .held (by decide)

theorem moderationExpiryOp_held {d : Dev} {n : Nat} {m0 : Bool} (hover : d.holdOver n m0 = true) :
    KV.find (if m0 then 512 + n else n) (moderationExpiryOp n m0 d).held = none := by
  rw [moderationExpiryOp, if_pos hover, Dev.evalLine_held]
  exact KV.find_erase_same ..

/-! ### What the request line reads (R334) -/

/-- From `a` to `b` nothing changes that the request line of core `k` reads: of the registers, the word of its WFI bit alone. -/
structure SameLine (k : Nat) (a b : Dev) : Prop where
  words : WordsBut [(pgWfi k).addr] a b
  dict : b.dict = a.dict
  blobs : b.blobs = a.blobs
  scan : b.scan = a.scan
  time : b.time = a.time
  held : b.held = a.held

namespace SameLine

variable {k : Nat} {a b : Dev}

theorem fld (h : SameLine k a b) {g : Field} (hg : g.addr ≠ pgBase k + 0x8) : b.fld g = a.fld g :=
  h.words.fld (by rwa [List.mem_singleton, pgWfi_addr])

theorem get (h : SameLine k a b) (e : Entry) : b.get e = a.get e := by rw [Dev.get, Dev.get, h.dict]

theorem oct (h : SameLine k a b) (e : Entry) : b.oct e = a.oct e := by rw [Dev.oct, Dev.oct, h.blobs]

/-- The registers of the units lie above the pages of the cores other than M0. -/
theorem far (h : SameLine k a b) (hk : k < 12) {g : Field} (hg : 0x10200000 ≤ g.addr) : b.fld g = a.fld g :=
  h.fld (by rw [pgBase, if_neg (by omega)]; omega)

/-- The words of the sources and of the platform lie below them. -/
theorem near (h : SameLine k a b) (hk : k < 12) {g : Field} (hg : g.addr < 0x10010000) : b.fld g = a.fld g :=
  h.fld (by rw [pgBase, if_neg (by omega)]; omega)

theorem irqOn (h : SameLine k a b) (hk : k < 12) {f g : Field} (hf : 0x10200000 ≤ f.addr) (hg : 0x10200000 ≤ g.addr) : b.irqOn f g = a.irqOn f g := by
  rw [Dev.irqOn, Dev.irqOn, h.far hk hf, h.far hk hg]

theorem irqOn_near (h : SameLine k a b) (hk : k < 12) {f g : Field} (hf : f.addr < 0x10010000) (hg : g.addr < 0x10010000) :
    b.irqOn f g = a.irqOn f g := by
  rw [Dev.irqOn, Dev.irqOn, h.near hk hf, h.near hk hg]

theorem hallState (h : SameLine k a b) (n : Nat) : b.hallState n = a.hallState n := by rw [Dev.hallState, Dev.hallState, h.get]

theorem qpIrq (h : SameLine k a b) (hk : k < 12) (q : Nat) : b.irqOn (Rg.Qpr.IRQ q) (Rg.Qpr.IRQ_EN q) = a.irqOn (Rg.Qpr.IRQ q) (Rg.Qpr.IRQ_EN q) :=
  h.irqOn hk (by simp only [Rg.Qpr.IRQ]; omega) (by simp only [Rg.Qpr.IRQ_EN]; omega)

theorem dmaIrq (h : SameLine k a b) (hk : k < 12) (c : Nat) :
    b.irqOn (Rg.Dmar.IRQ c) (Rg.Dmar.IRQ_EN c) = a.irqOn (Rg.Dmar.IRQ c) (Rg.Dmar.IRQ_EN c) :=
  h.irqOn hk (by simp only [Rg.Dmar.IRQ]; omega) (by simp only [Rg.Dmar.IRQ_EN]; omega)

theorem ctxIrq (h : SameLine k a b) (hk : k < 12) (u c : Nat) :
    b.irqOn (Rg.Ctx.IRQ u c) (Rg.Ctx.IRQ_EN u c) = a.irqOn (Rg.Ctx.IRQ u c) (Rg.Ctx.IRQ_EN u c) :=
  h.irqOn hk (by simp only [Rg.Ctx.IRQ]; omega) (by simp only [Rg.Ctx.IRQ_EN]; omega)

/-- A line of a hall's interrupt word (Table 16.4). -/
theorem hallLine (h : SameLine k a b) (hk : k < 12) (n i : Nat) : b.hallLine n i = a.hallLine n i := by
  have hmail : b.fld (Rg.Mb.DONE n) = a.fld (Rg.Mb.DONE n) ∧ b.fld (Rg.Mb.IE n) = a.fld (Rg.Mb.IE n) :=
    ⟨h.far hk (by simp only [Rg.Mb.DONE]; omega), h.far hk (by simp only [Rg.Mb.IE]; omega)⟩
  have hring : b.fld (Rg.Hpg.RING_HEAD n) = a.fld (Rg.Hpg.RING_HEAD n) ∧ b.fld (Rg.Hpg.RING_TAIL n) = a.fld (Rg.Hpg.RING_TAIL n) :=
    ⟨h.far hk (by simp only [Rg.Hpg.RING_HEAD]; omega), h.far hk (by simp only [Rg.Hpg.RING_TAIL]; omega)⟩
  have hlines : b.fld (Rg.Hpg.LINES_SET n) = a.fld (Rg.Hpg.LINES_SET n) := h.far hk (by simp only [Rg.Hpg.LINES_SET]; omega)
  have hobj (c j : Nat) : b.fld (Rg.Obj.NEW c j) = a.fld (Rg.Obj.NEW c j) := h.far hk (by simp only [Rg.Obj.NEW]; omega)
  have htxb (c j : Nat) : b.fld (Rg.Txb.DONE c j) = a.fld (Rg.Txb.DONE c j) := h.far hk (by simp only [Rg.Txb.DONE]; omega)
  have hevent (u e : Nat) : b.fld (Rg.Ep.EVT_PENDING u e) = a.fld (Rg.Ep.EVT_PENDING u e) := h.far hk (by simp only [Rg.Ep.EVT_PENDING]; omega)
  have hmerged (u e : Nat) : b.fld (Rg.Ep.MERGED u e) = a.fld (Rg.Ep.MERGED u e) := h.far hk (by simp only [Rg.Ep.MERGED]; omega)
  have hpoll (u e : Nat) : b.fld (Rg.Ep.POLL_FAIL u e) = a.fld (Rg.Ep.POLL_FAIL u e) := h.far hk (by simp only [Rg.Ep.POLL_FAIL]; omega)
  simp only [Dev.hallLine, Dev.isSet, Dev.objRec, Dev.txbHall, Dev.endpoint, h.get, h.oct, hmail.1, hmail.2, hring.1, hring.2, hlines, hobj, htxb,
    hevent, hmerged, hpoll, h.qpIrq hk, h.dmaIrq hk, h.ctxIrq hk]

theorem hallPending (h : SameLine k a b) (hk : k < 12) (n : Nat) : b.hallPending n = a.hallPending n := by
  have henable : b.fld (Rg.Hpg.LINE_EN n) = a.fld (Rg.Hpg.LINE_EN n) := h.far hk (by simp only [Rg.Hpg.LINE_EN]; omega)
  simp only [Dev.hallPending, h.hallState, h.hallLine hk, henable]

theorem srcPending (h : SameLine k a b) (hk : k < 12) {n : Nat} (hn : n < 512) : b.srcPending n = a.srcPending n := by
  have hlatch : b.fld (Rg.Src.PENDING n) = a.fld (Rg.Src.PENDING n) := h.near hk (srcPending_addr_lt hn)
  have hplat {j : Nat} (hj : j < 512) : b.irqOn (Rg.Plat.SYS_IRQ j) (Rg.Plat.SYS_IRQ_EN j) = a.irqOn (Rg.Plat.SYS_IRQ j) (Rg.Plat.SYS_IRQ_EN j) :=
    h.irqOn_near hk (by simp only [Rg.Plat.SYS_IRQ]; omega) (by simp only [Rg.Plat.SYS_IRQ_EN]; omega)
  have hstorage : b.irqOn (Rg.Stg.IRQ 0) (Rg.Stg.IRQ_EN 0) = a.irqOn (Rg.Stg.IRQ 0) (Rg.Stg.IRQ_EN 0) := h.irqOn hk (by decide) (by decide)
  have hadc (j : Nat) : b.irqOn (Rg.Adcr.IRQ j) (Rg.Adcr.IRQ_EN j) = a.irqOn (Rg.Adcr.IRQ j) (Rg.Adcr.IRQ_EN j) :=
    h.irqOn hk (by simp only [Rg.Adcr.IRQ]; omega) (by simp only [Rg.Adcr.IRQ_EN]; omega)
  have hcan (j : Nat) : b.irqOn (Rg.Ch.IRQ j) (Rg.Ch.IRQ_EN j) = a.irqOn (Rg.Ch.IRQ j) (Rg.Ch.IRQ_EN j) :=
    h.irqOn hk (by simp only [Rg.Ch.IRQ]; omega) (by simp only [Rg.Ch.IRQ_EN]; omega)
  simp only [Dev.srcPending, Dev.isSet, Dev.storageIrq, h.get, h.time, hlatch, h.hallPending hk, h.hallState, hplat (j := 0) (by decide), hplat (j := 1) (by decide),
    hplat (j := n - 69) (by omega), hstorage, hadc, hcan, h.dmaIrq hk, h.ctxIrq hk]

/-- M0's sources are asserted by the crypto unit and the secure mailbox, or latched (R414). -/
theorem m0Pending (h : SameLine 12 a b) {n : Nat} (hn : n < 512) : b.m0Pending n = a.m0Pending n := by
  have hwords {g : Field} (hg : g.addr < 0x1F051000 ∨ 0x1F051008 < g.addr) : b.fld g = a.fld g := h.fld (by rw [pgBase, if_pos rfl]; omega)
  have hlatch : b.fld (Rg.M0Src.PENDING n) = a.fld (Rg.M0Src.PENDING n) := hwords (by simp only [Rg.M0Src.PENDING]; omega)
  have hcry : b.irqOn Rg.Cry.IRQ Rg.Cry.IRQ_EN = a.irqOn Rg.Cry.IRQ Rg.Cry.IRQ_EN := by
    rw [Dev.irqOn, Dev.irqOn, hwords (by decide), hwords (g := Rg.Cry.IRQ_EN) (by decide)]
  have hdone : b.fld Rg.Smb.DONE = a.fld Rg.Smb.DONE := hwords (by decide)
  have henable : b.fld Rg.Smb.IE = a.fld Rg.Smb.IE := hwords (by decide)
  simp only [Dev.m0Pending, Dev.isSet, hlatch, hcry, hdone, henable]

theorem runPrio (h : SameLine k a b) : b.runPrio k = a.runPrio k := by
  have hdepth : b.fld (pgDepth k) = a.fld (pgDepth k) := h.fld (by rw [pgDepth_addr]; omega)
  have hprio : b.fld (pgPrio k) = a.fld (pgPrio k) := h.fld (by rw [pgPrio_addr]; omega)
  have hthreshold : b.threshold k = a.threshold k := by
    unfold Dev.threshold
    split
    next h12 => exact h.fld (by rw [pgBase, if_pos h12]; decide)
    next => exact h.get _
  rw [Dev.runPrio, Dev.runPrio, hdepth, hprio, hthreshold]

/-- A field of the word of source `n` of the controller. -/
theorem source (h : SameLine k a b) {n : Nat} (hn : n < 512) {g : Field} (hg : g.addr = srcBase k + 0x4 * n) : b.fld g = a.fld g :=
  h.fld (by have := srcBase_below k; omega)

theorem srcPriority (h : SameLine k a b) (hk : k ≠ 12) {n : Nat} (hn : n < 512) : b.srcPriority n = a.srcPriority n := by
  have hprio : b.fld (Rg.Src.PRIORITY n) = a.fld (Rg.Src.PRIORITY n) := h.source hn (by rw [srcBase, if_neg hk]; rfl)
  simp only [Dev.srcPriority, Dev.dispatchPrio, h.scan, h.oct, hprio]

theorem prioOf (h : SameLine k a b) {n : Nat} (hn : n < 512) : b.prioOf k n = a.prioOf k n := by
  unfold Dev.prioOf
  split
  next h12 => exact h.source hn (by rw [srcBase, if_pos h12]; rfl)
  next hk => exact h.srcPriority hk hn

theorem deliverable (h : SameLine k a b) (hk : k ≤ 12) {n : Nat} (hn : n < 512) : b.deliverable k n = a.deliverable k n := by
  have henable : b.fld (sEnable k n) = a.fld (sEnable k n) := h.source hn (by unfold sEnable srcBase; split <;> rfl)
  have hactive : b.fld (sActive k n) = a.fld (sActive k n) := h.source hn (sActive_addr k n)
  have htarget : (k == 12 || b.srcTarget n == k) = (k == 12 || a.srcTarget n == k) := by
    by_cases h12 : k = 12
    case pos => simp [h12]
    case neg =>
      have hfield : b.fld (Rg.Src.TARGET n) = a.fld (Rg.Src.TARGET n) := h.source hn (by rw [srcBase, if_neg h12]; rfl)
      rw [Dev.srcTarget, Dev.srcTarget, hfield]
  have hpending : (if k = 12 then b.m0Pending n else b.srcPending n) = if k = 12 then a.m0Pending n else a.srcPending n := by
    split
    next h12 => subst h12; exact h.m0Pending hn
    next h12 => exact h.srcPending (by omega) hn
  have hreach : b.mayReach k n = a.mayReach k n := by
    simp only [Dev.mayReach, Dev.gateOn, Dev.gateState, Dev.engineCore, h.get, h.oct]
  simp only [Dev.deliverable, Dev.isSet, henable, hactive, htarget, h.runPrio, h.prioOf hn, h.held, hpending, hreach]

theorem bestSource (h : SameLine k a b) (hk : k ≤ 12) : b.bestSource k = a.bestSource k := by
  have hnumbers {n : Nat} (hn : n ∈ srcNumbers k) : n < 512 := by
    unfold srcNumbers at hn
    split at hn <;> obtain ⟨m, hm, rfl⟩ := List.mem_map.1 hn <;> rw [List.mem_range] at hm <;> omega
  unfold Dev.bestSource
  congr 1
  refine List.foldl_ext _ _ _ fun x n hn => ?_
  rw [h.deliverable hk (hnumbers hn), h.prioOf (hnumbers hn)]

theorem requestLine (h : SameLine k a b) (hk : k ≤ 12) : b.requestLine k = a.requestLine k := by
  rw [Dev.requestLine, Dev.requestLine, h.bestSource hk, h.fld (by rw [pgDepth_addr]; omega)]

/-- The WFI bit and what is put out are not read. -/
theorem of_evalLine (d : Dev) (k : Nat) : SameLine k d (d.evalLine k) := by
  have hset : WordsBut [(pgWfi k).addr] d (d.setFld (pgWfi k) 0) := WordsBut.setFld (.of_regs_eq rfl) (List.mem_singleton.2 rfl)
  unfold Dev.evalLine
  dsimp only
  split
  · exact ⟨hset, rfl, rfl, rfl, rfl, rfl⟩
  · exact ⟨.of_regs_eq rfl, rfl, rfl, rfl, rfl, rfl⟩

end SameLine

/-- After an evaluation the WFI bit shows whether the line is asserted. -/
theorem Dev.evalLine_wfi (d : Dev) {k : Nat} (hk : k ≤ 12) :
    (d.evalLine k).fld (pgWfi k) = if (d.evalLine k).requestLine k then 0 else d.fld (pgWfi k) := by
  rw [(SameLine.of_evalLine d k).requestLine hk]
  unfold Dev.evalLine
  dsimp only
  split
  · rw [Dev.fld_emit, Dev.fld_setFld_of_fits _ _ (fits_pgWfi k)]
    rfl
  · exact Dev.fld_emit ..

/-- A core that enters WFI (R339): it waits unless its line is asserted, and its sources are held no longer. -/
theorem wfiEnterOp_wfi (d : Dev) {k : Nat} (hk : k ≤ 12) :
    (wfiEnterOp k d).fld (pgWfi k) = if (wfiEnterOp k d).requestLine k then 0 else 1 := by
  rw [wfiEnterOp, Dev.evalLine_wfi _ hk, Dev.fld_setFld_of_fits _ _ (fits_pgWfi k)]
  rfl

theorem wfiEnterOp_held (d : Dev) {k n : Nat} (hn : n < 512) (hmine : k = 12 ∨ d.srcTarget n = k) :
    KV.find (heldKey k n) (wfiEnterOp k d).held = none := by
  rw [wfiEnterOp, Dev.evalLine_held]
  refine KV.find_keep_none (fun v => ?_) _
  unfold heldKey
  by_cases h12 : k = 12
  · simp [h12]
  · simp [h12, hn, hmine.resolve_left h12]

/-- Settles O23. -/
theorem interruptCommands : Obligations.InterruptCommands := by
  unfold Obligations.InterruptCommands
  intro s hlive
  refine ⟨fun n hedge hfree => ?_, fun k n i hk hcore hroom hbest hn => ?_, fun k v i hk hcore hlo hhi htop => ?_, fun v hv => ?_,
    fun n m0 hover => ?_, fun k n hk hn hmine => ?_, fun k v hk hnone => ?_, fun p kind pc hp hlock => ?_, fun p hp hhalt => ?_⟩
  · refine (gives_iff_of_onDev (f := interruptSourceAssertOp n) rfl hlive).2 ⟨?_, Only.of_fresh (interruptSourceAssertOp_only ..)⟩
    have hlt : n < 512 := by
      simp only [isEdge, Bool.or_eq_true, Bool.and_eq_true, decide_eq_true_eq] at hedge
      omega
    rw [interruptSourceAssertOp, if_neg (by simp [hfree]; omega), if_pos hedge, Dev.fld_evalLine_below _ _ (srcPending_addr_lt hlt),
      Dev.fld_raise_same]
  · obtain ⟨hactive, hdepth, hsrc, hprio, hout⟩ := claimOp_fields (d := s.dev.fresh) hk hcore hroom hbest hn
    exact (gives_iff_of_onDev (f := claimOp k i) rfl hlive).2 ⟨hactive, hdepth, hsrc, hprio, hout, Only.of_fresh (claimOp_only ..)⟩
  · obtain ⟨hdepth, hactive, hout⟩ := completeOp_fields (d := s.dev.fresh) hcore hlo hhi htop
    exact (gives_iff_of_onDev (f := completeOp k i v) rfl hlive).2 ⟨hdepth, hactive, hout, Only.of_fresh (completeOp_only ..)⟩
  · exact (gives_iff_of_onDev (f := doorbellOp 0 v) rfl hlive).2
      ⟨doorbellOp_pending hv _, doorbellOp_answers hv _, Only.of_fresh (doorbellOp_only ..)⟩
  · exact (gives_iff_of_onDev (f := moderationExpiryOp n m0) rfl hlive).2
      ⟨moderationExpiryOp_held hover, Only.of_fresh (moderationExpiryOp_only ..)⟩
  · exact (gives_iff_of_onDev (f := wfiEnterOp k) rfl hlive).2
      ⟨wfiEnterOp_wfi _ hk, wfiEnterOp_held _ hn hmine, Only.of_fresh (wfiEnterOp_only ..)⟩
  · refine (gives_iff_of_onDev (f := nhallWriteOp k .hs v) rfl hlive).2 ⟨?_, Only.of_fresh (nhallWriteOp_only ..)⟩
    have hwrites : nhallWriteOp k .hs v s.dev.fresh = s.dev.fresh.setHart k fun h => { h with nhall := v % 256 } := by
      rw [nhallWriteOp, if_neg (by omega)]
      exact if_pos hnone
    rw [hwrites, Dev.hart_setHart_same]
    rfl
  · exact (gives_iff_of_onDev (f := lockstepMismatchOp p kind pc) rfl hlive).2
      ⟨lockstepMismatchOp_state hp kind pc hlock, Only.of_fresh (lockstepMismatchOp_only ..)⟩
  · obtain ⟨hlower, hupper⟩ := pairResetOp_harts (d := s.dev.fresh) hhalt
    obtain ⟨hstate, hout⟩ := pairResetOp_state (d := s.dev.fresh) hhalt
    exact (gives_iff_of_onDev (f := pairResetOp p) rfl hlive).2 ⟨hstate, hlower, hupper, hout, Only.of_fresh (pairResetOp_only ..)⟩

end Sys2Proof

/-! SUPPORT. The ECC store (R350): no initiator's address maps there, the switch core's beyond it excepted, and no unit's range does. -/

namespace Sys2Proof

open Sys2Proof.Machine

/-- The DRAM address lies in the ECC store or beyond it. -/
abbrev Machine.Dev.pastGeneral (d : Dev) (a : Nat) : Prop := d.stairwellBase ≤ a + d.dramSize / 32

theorem Dev.dramMapped_of_pastGeneral {d : Dev} {a : Nat} (h : d.pastGeneral a) : d.dramMapped a = false := by
  simp [Dev.dramMapped, Nat.not_lt.2 h]

theorem region_of_dram {a : Nat} (hlo : 0x100000000 ≤ a) (hhi : a ≤ 0x2FFFFFFFF) : region a = some .dram := by
  unfold region
  simp only [show ¬ a ≤ 0xFFFF by omega, show ¬ a ≤ 0x4FFFF by omega, show ¬ (0x1000000 ≤ a ∧ a ≤ 0x17FFFFF) by omega,
    show ¬ (0x2000000 ≤ a ∧ a ≤ 0x20FFFFF) by omega, show ¬ (0x3000000 ≤ a ∧ a ≤ 0x305FFFF) by omega,
    show ¬ (0x10000000 ≤ a ∧ a ≤ 0x1EFFFFFF) by omega, show ¬ (0x1F000000 ≤ a ∧ a ≤ 0x1FFFFFFF) by omega,
    show ¬ (0x40000000 ≤ a ∧ a ≤ 0x7FFFFFFF) by omega, show ¬ (0x80000000 ≤ a ∧ a ≤ 0xFFFFFFFF) by omega, if_false, hlo, hhi, and_self, if_true]

/-- Above the windows there is DRAM or nothing. -/
theorem region_above {a : Nat} (hlo : 0x100000000 ≤ a) : region a = some .dram ∨ region a = none := by
  by_cases hhi : a ≤ 0x2FFFFFFFF
  · exact .inl (region_of_dram hlo hhi)
  · right
    unfold region
    simp only [show ¬ a ≤ 0xFFFF by omega, show ¬ a ≤ 0x4FFFF by omega, show ¬ (0x1000000 ≤ a ∧ a ≤ 0x17FFFFF) by omega,
      show ¬ (0x2000000 ≤ a ∧ a ≤ 0x20FFFFF) by omega, show ¬ (0x3000000 ≤ a ∧ a ≤ 0x305FFFF) by omega,
      show ¬ (0x10000000 ≤ a ∧ a ≤ 0x1EFFFFFF) by omega, show ¬ (0x1F000000 ≤ a ∧ a ≤ 0x1FFFFFFF) by omega,
      show ¬ (0x40000000 ≤ a ∧ a ≤ 0x7FFFFFFF) by omega, show ¬ (0x80000000 ≤ a ∧ a ≤ 0xFFFFFFFF) by omega, if_false, hhi, and_false]

/-- The switch core alone reaches past the ECC store, to the stairwell. -/
theorem Dev.memMapped_of_pastGeneral {d : Dev} {i : Initiator} {a : Nat} (hdram : 0x100000000 ≤ a) (h : d.pastGeneral a)
    (hi : a < d.stairwellBase ∨ i ≠ .switchCore) : d.memMapped i a = false := by
  have hstairwell : (i == .switchCore && decide (d.stairwellBase ≤ a)) = false := by
    rcases hi with hbelow | hother
    · simp [Nat.not_le.2 hbelow]
    · simp [hother]
  rcases region_above hdram with hregion | hregion
  · simp only [Dev.memMapped, hregion, Dev.dramMapped_of_pastGeneral h, hstairwell, Bool.false_and, Bool.or_false]
  · simp only [Dev.memMapped, hregion]

/-- A unit's access there is refused, in DRAM and where nothing is. -/
theorem Dev.memStatus_of_pastGeneral {d : Dev} (secure write : Bool) {a : Nat} (hlo : 0x100000000 ≤ a) (h : d.pastGeneral a) :
    d.memStatus secure write a = .accessAttr := by
  rcases region_above hlo with hregion | hregion
  · simp [Dev.memStatus, hregion, Dev.dramMapped_of_pastGeneral h]
  · simp [Dev.memStatus, hregion]

/-- A range that begins there. -/
theorem Dev.rangeStatus_of_start {d : Dev} {secure write : Bool} {a n : Nat} (hn : 0 < n) (h : d.memStatus secure write a = .accessAttr) :
    d.rangeStatus secure write a n = .accessAttr := by
  simp [Dev.rangeStatus, Nat.ne_of_gt hn, h]

/-- A range that ends there: its end is refused, or lies in another region than its beginning. -/
theorem Dev.rangeStatus_of_end {d : Dev} {secure write : Bool} {a n : Nat} (hn : 0 < n) (hstart : d.memStatus secure write a = .ok)
    (h : d.memStatus secure write (a + n - 1) = .accessAttr) : d.rangeStatus secure write a n = .accessAttr := by
  simp [Dev.rangeStatus, Nat.ne_of_gt hn, hstart, h]

theorem Dev.memTxn_of_unmapped {d : Dev} {t : Txn} {a : Nat} (hphysical : d.physical t = some a) (h : d.memMapped t.initiator a = false) :
    d.memTxn t = d.answer .accessAttr := by
  simp [Dev.memTxn, hphysical, Dev.memCheck, h]

/-- A transaction whose address is in DRAM or the DRAM window, and means one in the ECC store or, for others than the switch core, beyond. -/
structure HitsEcc (d : Dev) (t : Txn) (a : Nat) : Prop where
  physical : d.physical t = some a
  target : region t.addr = some .dram ∨ region t.addr = some .dramWindow
  dram : 0x100000000 ≤ a
  past : d.pastGeneral a
  stairwell : a < d.stairwellBase ∨ t.initiator ≠ .switchCore

theorem HitsEcc.access {d : Dev} {t : Txn} {a : Nat} (h : HitsEcc d t a) : d.fresh.access (d.fresh.attributed t) = d.fresh.answer .accessAttr := by
  obtain ⟨hphysical, htarget, hdram, hpast, hstairwell⟩ := h
  have hmemory : inMemory (d.fresh.attributed t).addr = true := by
    rw [Dev.attributed_addr]
    rcases htarget with h | h <;> exact inMemory_of_region (by simp [h]) (by simp [h]) (by simp [h]) (by simp [h])
  rw [Dev.access_of_inMemory hmemory]
  refine Dev.memTxn_of_unmapped (a := a) (by rwa [Dev.physical_attributed]) ?_
  rw [Dev.attributed_initiator]
  exact Dev.memMapped_of_pastGeneral hdram hpast hstairwell

/-- Settles O47. -/
theorem eccStoreRefused : Obligations.EccStoreRefused := by
  unfold Obligations.EccStoreRefused
  refine ⟨fun s hlive t a hphysical htarget hdram hpast hstairwell => ⟨fun hissue => ?_, fun hissue => ?_⟩, fun d secure write a n hn hlo hhi hpast => ?_,
    fun d secure write a n hn hstart hlo hpast => ?_⟩
  · exact gives_access_refusal hlive rfl hissue (by decide) (HitsEcc.access ⟨hphysical, htarget, hdram, hpast, hstairwell⟩)
  · have hatomic : HitsEcc s.dev { t with kind := match t.kind with | .atomic f => .atomic f | _ => .atomic 0 } a :=
      ⟨hphysical, htarget, hdram, hpast, hstairwell⟩
    exact gives_access_refusal hlive rfl (fun _ _ => hissue) (by decide) hatomic.access
  · exact Dev.rangeStatus_of_start hn (Dev.memStatus_of_pastGeneral secure write hlo hpast)
  · exact Dev.rangeStatus_of_end hn hstart (Dev.memStatus_of_pastGeneral secure write hlo hpast)

end Sys2Proof

/-! SUPPORT. The gates of Table 18.7 (R430, R432). -/

namespace Sys2Proof

open Sys2Proof.Machine

/-- No gate has a number beyond those of the DMA channels. -/
theorem gateListed_of_ge {g : Nat} (h : 256 ≤ g) : gateListed g = false := by
  unfold gateListed gateParent
  rw [if_neg (by omega), if_neg (by omega), if_neg (by omega), if_neg (by omega), if_neg (by omega), if_neg (by omega), if_neg (by omega),
    if_neg (by omega), if_neg (by omega), if_neg (by omega), if_neg (by omega), if_neg (by omega)]
  rfl

/-- The numbers that Table 18.7 lists. -/
abbrev InTable (g : Nat) : Prop :=
  g ∈ [0, 1, 2, 3, 4, 5, 8, 9, 10, 16, 24, 33, 40, 41, 42, 48, 49, 50, 51, 56, 57, 112, 113, 144, 145, 146, 147, 148] ∨ (17 ≤ g ∧ g ≤ 20) ∨
    (25 ≤ g ∧ g ≤ 32) ∨ (43 ≤ g ∧ g ≤ 46) ∨ (52 ≤ g ∧ g ≤ 55) ∨ (64 ≤ g ∧ g ≤ 111) ∨ (128 ≤ g ∧ g ≤ 143) ∨ (160 ≤ g ∧ g ≤ 191) ∨ (192 ≤ g ∧ g ≤ 255)

theorem gateListed_iff_inTable (g : Nat) : gateListed g = true ↔ InTable g := by
  by_cases hg : g < 256
  case pos => exact (show ∀ g < 256, (gateListed g = true ↔ InTable g) by decide +kernel) g hg
  case neg =>
    rw [gateListed_of_ge (by omega)]
    simp only [InTable, List.mem_cons, List.not_mem_nil, or_false, Bool.false_eq_true, false_iff]
    omega

/-- Settles O50. -/
theorem gateNumbers : Obligations.GateNumbers := by
  unfold Obligations.GateNumbers
  refine ⟨gateListed_iff_inTable, fun s hlive g v secure hfree => ⟨?_, ?_⟩⟩
  · exact (gives_iff_of_onDev (f := gateOnOp g v secure) rfl hlive).2 (if_pos hfree)
  · exact (gives_iff_of_onDev (f := gateOffOp g v secure) rfl hlive).2 (if_pos hfree)

end Sys2Proof

/-! SUPPORT. The start-up of Table 19.8, run (log entry 57). -/

namespace Sys2Proof

open Sys2Proof.Machine

set_option maxRecDepth 100000 in
/-- Settles O43: the start-up of the device without supply, evaluated; CHALLENGE's free value stays what it is. -/
theorem resetIsAColdStart : Obligations.ResetIsAColdStart := by
  unfold Obligations.ResetIsAColdStart
  refine ⟨rfl, ?_⟩
  with_unfolding_all rfl

end Sys2Proof

/-! SUPPORT. The parts of the device that a command's footprint leaves out: the board's facts for every command, and the update unit for every command that
is not one of its writers. -/

namespace Sys2Proof

open Sys2Proof.Machine

/-! ### Writers of the update unit -/

/-- The commands that may change the update unit's images, what a start-up would do with them, and records. -/
def writesImages : Instr → Bool
  | .dictWriteExec .. | .dictWriteGeneric .. | .apply .. | .applyDiscard .. | .storeParameters .. | .restoreDefaults .. | .wakePattern ..
  | .wakeFrame .. | .wakePin .. | .wakeReq .. | .watchWake .. | .swdtExpired .. | .vauxOn .. | .resetNHigh .. | .fatalFault .. | .overtempClear ..
  | .spWriteFrame .. | .imageConfirm .. => true
  | _ => false

/-- The commands that may change the versions of the records besides. -/
def writesRecords : Instr → Bool
  | .applyTakeEffect .. | .storeCommit .. | .engineLoad .. | .changeSwitch .. | .changeCommitReceive .. | .adcRunComplete .. | .keyClear ..
  | .cryptoJobComplete .. | .returnToken .. | .gateOn .. | .warmReset .. | .aCoreFatal .. | .unitReset .. | .stateMessageReceive .. => true
  | _ => false

/-- The parts that a command's footprint leaves out: the board's facts, and the update unit where the command is none of its writers. -/
def Leaves (c : Instr) (F : Foot) : Bool := !F.parts.contains .board && (writesImages c || writesRecords c || !F.parts.contains .upd)

/-- The command runs one operation on the device, which leaves those parts. -/
def RunsLeaving (c : Instr) : Prop :=
  ∃ (F : Foot) (f : Dev → Dev), (∀ s, exec c s = onVest s f) ∧ (∀ d, Only F d (f d)) ∧ Leaves c F = true

theorem RunsLeaving.onVest {c : Instr} {F : Foot} {f : Dev → Dev} (h : ∀ d, Only F d (f d)) (hc : exec c = fun s => Machine.onVest s f := by rfl)
    (hparts : Leaves c F = true := by rfl) : RunsLeaving c :=
  ⟨F, f, fun s => by rw [hc], h, hparts⟩

theorem RunsLeaving.onDev {c : Instr} {F : Foot} {f : Dev → Dev} (h : ∀ d, Only F d (f d)) (hc : exec c = fun s => Machine.onDev s f := by rfl)
    (hparts : Leaves c F = true := by rfl) : RunsLeaving c :=
  .onVest (fun d => (h d).ite .refl) hc hparts

theorem RunsLeaving.onVaux {c : Instr} {F : Foot} {f : Dev → Dev} (h : ∀ d, Only F d (f d)) (hc : exec c = fun s => Machine.onVaux s f := by rfl)
    (hparts : Leaves c F = true := by rfl) : RunsLeaving c :=
  .onVest (fun d => .ite .refl (h d)) hc hparts

/-- Every command by its operation's footprint (Laws/Frames1 to Frames6). -/
theorem exec_runsLeaving (c : Instr) : RunsLeaving c := by
  cases c with
  | concourseTransaction t => exact .onDev (concourseTransactionOp_only t)
  | atomicTransaction t => exact .onDev (atomicTransactionOp_only t)
  | safeStateLine g asserted => exact .onVest (safeStateLineOp_only g asserted)
  | paceSample code => exact .onDev (paceSampleOp_only code)
  | trimStep up => exact .onDev (trimStepOp_only up)
  | paceFault => exact .onDev paceFaultOp_only
  | paceFaultEnd => exact .onDev paceFaultEndOp_only
  | counterLowRead i idx sub high => exact .onDev (counterLowReadOp_only i idx sub high)
  | counterLowWrite idx sub v => exact .onDev (counterLowWriteOp_only idx sub v)
  | counterHighWrite idx sub v => exact .onDev (counterHighWriteOp_only idx sub v)
  | unitEnable x secure => exact .onDev (unitEnableOp_only x secure)
  | unitDisable x secure => exact .onDev (unitDisableOp_only x secure)
  | drainDone x => exact .onDev (drainDoneOp_only x)
  | drainTimeout x => exact .onDev (drainTimeoutOp_only x)
  | fence u k hall v => exact .onDev (fenceOp_only u k hall v)
  | fenceComplete u k => exact .onDev (fenceCompleteOp_only u k)
  | dictReadExec => exact .onDev dictReadExecOp_only
  | dictWriteExec env => exact .onDev (dictWriteExecOp_only env)
  | dictWriteGeneric t => exact .onDev (dictWriteGenericOp_only t)
  | apply => exact .onDev applyOp_only
  | applyDiscard => exact .onDev applyDiscardOp_only
  | applyTakeEffect i => exact .onDev (applyTakeEffectOp_only i)
  | shadowTimeout i => exact .onDev (shadowTimeoutOp_only i)
  | domainTransferTimeout i sub => exact .onDev (domainTransferTimeoutOp_only i sub)
  | ndpOpen m => exact .onDev (ndpOpenOp_only m)
  | ndpClose m => exact .onDev (ndpCloseOp_only m)
  | ndpRead m => exact .onDev (ndpReadOp_only m)
  | ndpWrite m => exact .onDev (ndpWriteOp_only m)
  | ndpNop m => exact .onDev (ndpNopOp_only m)
  | sessionIdleTimeout id => exact .onDev (sessionIdleTimeoutOp_only id)
  | mbGo p v => exact .onDev (mbGoOp_only p v)
  | storeParameters => exact .onDev storeParametersOp_only
  | restoreDefaults => exact .onDev restoreDefaultsOp_only
  | storeCommit => exact .onDev storeCommitOp_only
  | frameClassify p f len fcs landed => exact .onDev (frameClassifyOp_only p f len fcs landed)
  | frameLanded p => exact .onDev (frameLandedOp_only p)
  | stwWriteComplete p c => exact .onDev (stwWriteCompleteOp_only p c)
  | refillStart p c => exact .onDev (refillStartOp_only p c)
  | refillComplete p c err => exact .onDev (refillCompleteOp_only p c err)
  | txSelect p => exact .onDev (txSelectOp_only p)
  | copySent p ecc col => exact .onDev (copySentOp_only p ecc col)
  | queueFlush p c => exact .onDev (queueFlushOp_only p c)
  | fdbFlush v => exact .onDev (fdbFlushOp_only v)
  | fdbAging mac vid => exact .onDev (fdbAgingOp_only mac vid)
  | streamUnblock n => exact .onDev (streamUnblockOp_only n)
  | streamClear n => exact .onDev (streamClearOp_only n)
  | recoveryResetTimeout n => exact .onDev (recoveryResetTimeoutOp_only n)
  | linkQualifyStart p => exact .onDev (linkQualifyStartOp_only p)
  | linkUp p => exact .onDev (linkUpOp_only p)
  | linkDown p pins => exact .onDev (linkDownOp_only p pins)
  | holdExpiry p => exact .onDev (holdExpiryOp_only p)
  | xtxdisRelease p => exact .onDev (xtxdisReleaseOp_only p)
  | gateIntervalEnd p => exact .onDev (gateIntervalEndOp_only p)
  | gclChange p => exact .onDev (gclChangeOp_only p)
  | triggerFire u => exact .onDev (triggerFireOp_only u)
  | triggerPulseEnd n => exact .onDev (triggerPulseEndOp_only n)
  | snapCapture i => exact .onDev (snapCaptureOp_only i)
  | adjGo hall v => exact .onDev (adjGoOp_only hall v)
  | timeRateChange => exact .onDev timeRateChangeOp_only
  | timeStep => exact .onDev timeStepOp_only
  | qualitySet => exact .onDev qualitySetOp_only
  | setTime v => exact .onDev (setTimeOp_only v)
  | trigEdgeCapture n rising phase => exact .onDev (trigEdgeCaptureOp_only n rising phase)
  | capturePop n => exact .onDev (capturePopOp_only n)
  | ptpMessageReceive p dom m => exact .onDev (ptpMessageReceiveOp_only p dom m)
  | ptpMessageSend p m phase latency => exact .onDev (ptpMessageSendOp_only p m phase latency)
  | syncTimeout => exact .onDev syncTimeoutOp_only
  | holdoverTimeout => exact .onDev holdoverTimeoutOp_only
  | canSend n k v => exact .onDev (canSendOp_only n k v)
  | canAbort n k => exact .onDev (canAbortOp_only n k)
  | canTxStart n phase => exact .onDev (canTxStartOp_only n phase)
  | canArbitrationLost n => exact .onDev (canArbitrationLostOp_only n)
  | canTxComplete n => exact .onDev (canTxCompleteOp_only n)
  | canError n lec at_ => exact .onDev (canErrorOp_only n lec at_)
  | canRestart n => exact .onDev (canRestartOp_only n)
  | canBusRecovered n => exact .onDev (canBusRecoveredOp_only n)
  | dominantTimeout n => exact .onDev (dominantTimeoutOp_only n)
  | canFrameReceive n f res sof phase => exact .onDev (canFrameReceiveOp_only n f res sof phase)
  | objHdrRead n k i => exact .onDev (objHdrReadOp_only n k i)
  | objTailRead n k i => exact .onDev (objTailTakenOp_only n k i)
  | lockExpiry n k => exact .onDev (lockExpiredOp_only n k)
  | nmtCommand n cs node => exact .onDev (nmtCommandOp_only n cs node)
  | sdoRequest n b => exact .onDev (sdoRequestOp_only n b)
  | sdoTimeout n => exact .onDev (sdoTimeoutOp_only n)
  | heartbeatProduce => exact .onDev heartbeatProduceOp_only
  | hbLost i => exact .onDev (hbLostOp_only i)
  | tpdoEventTimer k => exact .onDev (tpdoEventTimerOp_only k)
  | keepaliveReceive k ty version node flags => exact .onDev (keepaliveReceiveOp_only k ty version node flags)
  | keepaliveSend k => exact .onDev (keepaliveSendOp_only k)
  | quietTimeout k => exact .onDev (quietTimeoutOp_only k)
  | waitTimeout k => exact .onDev (waitTimeoutOp_only k)
  | domReqWrite v => exact .onDev (domReqWriteOp_only v)
  | powerReqStandby => exact .onDev powerReqStandbyOp_only
  | powerReqSleep => exact .onDev powerReqSleepOp_only
  | powerReqCancel => exact .onDev powerReqCancelOp_only
  | sleepEntry => exact .onDev sleepEntryOp_only
  | sleepArm => exact .onDev sleepArmOp_only
  | sleepCommit => exact .onDev sleepCommitOp_only
  | wakePattern n env => exact .onVaux (wakePatternOp_only n env)
  | wakeFrame n rate f env => exact .onVaux (wakeFrameOp_only n rate f env)
  | wakePin w high env => exact .onVaux (wakePinOp_only w high env)
  | wakeReq env => exact .onVaux (wakeReqOp_only env)
  | watchWake i env => exact .onVaux (watchWakeOp_only i env)
  | wakeConfirm v => exact .onDev (wakeConfirmOp_only v)
  | falseWake n => exact .onDev (falseWakeOp_only n)
  | fwCountClear n v => exact .onDev (fwCountClearOp_only n v)
  | trxCmdNormal n => exact .onDev (trxCmdNormalOp_only n)
  | trxCmdRxOnly n => exact .onDev (trxCmdRxOnlyOp_only n)
  | trxCmdStandby n => exact .onDev (trxCmdStandbyOp_only n)
  | trxCmdGoToSleep n => exact .onDev (trxCmdGoToSleepOp_only n)
  | goToSleepTimeout n => exact .onDev (goToSleepTimeoutOp_only n)
  | bridgeWindowRead t => exact .onDev (issueWindowReadOp_only t)
  | bridgeWindowPostedWrite t => exact .onDev (issueWindowPostedWriteOp_only t)
  | bridgeWindowWrite t => exact .onDev (issueWindowWriteOp_only t)
  | bridgeWindowAtomic t => exact .onDev (issueWindowAtomicOp_only t)
  | bridgeConnect u m mac => exact .onDev (bridgeConnectRxOp_only u m mac)
  | bridgeRead u m mac => exact .onDev (bridgeReadOp_only u m mac)
  | bridgePostedWrite u m mac => exact .onDev (bridgePostedWriteOp_only u m mac)
  | bridgeWrite u m mac => exact .onDev (bridgeWriteOp_only u m mac)
  | bridgeAtomic u m mac => exact .onDev (bridgeAtomicOp_only u m mac)
  | bridgeDictRead u m mac => exact .onDev (bridgeDictReadOp_only u m mac)
  | bridgeDictWrite u m mac => exact .onDev (bridgeDictWriteOp_only u m mac)
  | bridgeEvent u m mac => exact .onDev (bridgeEventOp_only u m mac)
  | bridgeStatusRead u m mac => exact .onDev (bridgeStatusReadOp_only u m mac)
  | bridgeAckRequest u m mac => exact .onDev (bridgeAckRequestOp_only u m mac)
  | bridgeAckSend u node unit sid => exact .onDev (bridgeAckSendOp_only u node unit sid)
  | bridgeResponse u m => exact .onDev (bridgeResponseServedOp_only u m)
  | bridgeAckReceive u m => exact .onDev (bridgeAckReceiveOp_only u m)
  | bridgeRetry u sid => exact .onDev (bridgeRetryServedOp_only u sid)
  | rslotClear u k hall v => exact .onDev (rslotClearOp_only u k hall v)
  | evtSend u k hall v => exact .onDev (evtSendOp_only u k hall v)
  | sidebandOutWrite u k hall v => exact .onDev (sidebandOutWriteOp_only u k hall v)
  | remoteMbGo u k hall v => exact .onDev (remoteMbGoOp_only u k hall v)
  | endpointPoll u e => exact .onDev (endpointPollOp_only u e)
  | pollResult u m => exact .onDev (pollResultOp_only u m)
  | tunnelPduSend t => exact .onDev (tunnelPduSendOp_only t)
  | tunnelPduReceive u b => exact .onDev (tunnelPduReceiveOp_only u b)
  | engineStart => exact .onDev engineStartOp_only
  | engineStop => exact .onDev engineStopOp_only
  | engineAckFault => exact .onDev engineAckFaultOp_only
  | engineLoad => exact .onDev engineLoadOp_only
  | evtFire v => exact .onDev (evtFireOp_only v)
  | taskDone x t => exact .onDev (taskEndOp_only x t)
  | taskFault x v => exact .onDev (taskFaultOp_only x v)
  | deadlineOverrun ts => exact .onDev (deadlineOverrunOp_only ts)
  | stationFrameReceive src b => exact .onDev (stationFrameReceiveOp_only src b)
  | retainSaveComplete => exact .onDev retainSaveCompleteOp_only
  | changeStart v => exact .onDev (changeStartOp_only v)
  | changeCancel => exact .onDev changeCancelOp_only
  | changeSwitch => exact .onDev changeSwitchOp_only
  | changeCommit => exact .onDev changeCommitOp_only
  | changeWindowTimeout => exact .onDev changeWindowTimeoutOp_only
  | changeStandbyReady ready => exact .onDev (changeStandbyReadyOp_only ready)
  | standbyReadyTimeout => exact .onDev standbyReadyTimeoutOp_only
  | changeCommitReceive i => exact .onDev (changeCommitReceiveOp_only i)
  | forceSet b => exact .onDev (fun d => (Dev.forceSet_only d b).answered)
  | forceRelease tag => exact .onDev (fun d => (Dev.forceRelease_only d tag).answered)
  | forceReleaseAll => exact .onDev (fun d => (Dev.forceReleaseAll_only d).answered)
  | channelOn n v => exact .onDev (channelOnOp_only n v)
  | channelOff n v => exact .onDev (channelOffOp_only n v)
  | channelClear n => exact .onDev (channelClearOp_only n)
  | channelPwmSet n v => exact .onDev (channelPwmSetOp_only n v)
  | pwmPeriodStart n => exact .onDev (pwmPeriodStartOp_only n)
  | inrushEnd n => exact .onDev (inrushEndOp_only n)
  | limitEntry n => exact .onDev (limitEntryOp_only n)
  | thermalShutdown n tj delta => exact .onDev (thermalShutdownOp_only n tj delta)
  | retryRestart n => exact .onDev (retryRestartOp_only n)
  | coupledRestart n => exact .onDev (coupledRestartOp_only n)
  | coupledTimeout n => exact .onDev (coupledTimeoutOp_only n)
  | retryBudgetReset n => exact .onDev (retryBudgetResetOp_only n)
  | vbatUndervoltage g mv => exact .onDev (vbatUndervoltageOp_only g mv)
  | vbatRecover g mv => exact .onDev (vbatRecoverOp_only g mv)
  | clampDetect n => exact .onDev (clampDetectOp_only n)
  | offStateCheck n short mv1 isOpen mv2 => exact .onDev (offStateCheckOp_only n short mv1 isOpen mv2)
  | senseStep p0 p1 p2 => exact .onDev (senseStepOp_only p0 p1 p2)
  | channelHoldExpiry => exact .onDev channelHoldExpiryOp_only
  | dieLinkTimeout g => exact .onDev (dieLinkTimeoutOp_only g)
  | dieLinkReturn g => exact .onDev (dieLinkReturnOp_only g)
  | lossHigh => exact .onDev lossHighOp_only
  | adcStart a v => exact .onDev (adcStartOp_only a v)
  | adcRunComplete a codes => exact .onDev (adcRunCompleteOp_only a codes)
  | shuntOpen i => exact .onDev (shuntOpenOp_only i)
  | shuntClose i => exact .onDev (shuntCloseOp_only i)
  | interruptSourceAssert n => exact .onDev (interruptSourceAssertOp_only n)
  | claim k i => exact .onDev (claimOp_only k i)
  | complete k i v => exact .onDev (completeOp_only k i v)
  | doorbell hall v => exact .onDev (doorbellOp_only hall v)
  | moderationExpiry n m0 => exact .onDev (moderationExpiryOp_only n m0)
  | wfiEnter k => exact .onDev (wfiEnterOp_only k)
  | nhallWrite k mode v => exact .onDev (nhallWriteOp_only k mode v)
  | lockstepMismatch p kind pc => exact .onDev (lockstepMismatchOp_only p kind pc)
  | pairReset p => exact .onDev (pairResetOp_only p)
  | debugHalt k => exact .onDev (debugHaltOp_only k)
  | debugResume k => exact .onDev (debugResumeOp_only k)
  | debugStep k => exact .onDev (debugStepOp_only k)
  | accessRegister k reg write => exact .onDev (accessRegisterOp_only k reg write)
  | accessMemory k addr size write => exact .onDev (accessMemoryOp_only k addr size write)
  | systemBusAccess addr size write => exact .onDev (systemBusAccessOp_only addr size write)
  | patrolScrub a err => exact .onDev (patrolScrubOp_only a err)
  | dmaTailWrite c hall v => exact .onDev (dmaTailWriteOp_only c hall v)
  | dmaDescriptorFetch c => exact .onDev (dmaDescriptorFetchOp_only c)
  | dmaBurst => exact .onDev dmaBurstOp_only
  | dmaDescriptorComplete c => exact .onDev (dmaDescriptorCompleteOp_only c)
  | dmaResume c hall => exact .onDev (dmaResumeOp_only c hall)
  | dmaAbort c hall => exact .onDev (dmaAbortOp_only c hall)
  | dmaInval c hall => exact .onDev (dmaInvalOp_only c hall)
  | dmaInvalComplete c => exact .onDev (dmaInvalCompleteOp_only c)
  | qpRxFrame p => exact .onDev (qpRxFrameOp_only p)
  | qpTxFrame n => exact .onDev (qpTxFrameOp_only n)
  | hallCreate h => exact .onDev (hallCreateOp_only h)
  | hallDestroy h => exact .onDev (hallDestroyOp_only h)
  | hallReset h => exact .onDev (hallResetOp_only h)
  | hallFreeze h => exact .onDev (hallFreezeOp_only h)
  | hallAtRest h => exact .onDev (hallAtRestOp_only h)
  | hallThaw h => exact .onDev (hallThawOp_only h)
  | hallSave h => exact .onDev (hallSaveOp_only h)
  | hallRestore h => exact .onDev (hallRestoreOp_only h)
  | hallMigrate h rsp => exact .onDev (hallMigrateOp_only h rsp)
  | hallGo h => exact .onDev (hallGoOp_only h)
  | hallCancel h => exact .onDev (hallCancelOp_only h)
  | hallFaultCmd h => exact .onDev (hallFaultCmdOp_only h)
  | hallWdtKick h hall v => exact .onDev (hallWdtKickOp_only h hall v)
  | hallWdtExpiry h => exact .onDev (hallWdtExpiryOp_only h)
  | hallDoorbell h hall v => exact .onDev (hallDoorbellOp_only h hall v)
  | migAccept h insts ccores windows => exact .onDev (migAcceptOp_only h insts ccores windows)
  | migPassComplete => exact .onDev migPassCompleteOp_only
  | migStateReceived h pages record => exact .onDev (migStateReceivedOp_only h pages record)
  | migReadyReceive st => exact .onDev (migReadyReceiveOp_only st)
  | migCommitReceive h => exact .onDev (migCommitReceiveOp_only h)
  | migCommitTimeout h sent => exact .onDev (migCommitTimeoutOp_only h sent)
  | watermarkWrite i v reg => exact .onDev (watermarkWriteOp_only i v reg)
  | leaseTake i g reg => exact .onDev (leaseTakeOp_only i g reg)
  | leaseRelease i reg => exact .onDev (leaseReleaseOp_only i reg)
  | keyClear k => exact .onDev (keyClearOp_only k)
  | cryptoJobStart => exact .onDev cryptoJobStartOp_only
  | cryptoGcmEncrypt => exact .onDev cryptoGcmEncryptOp_only
  | cryptoGcmDecrypt => exact .onDev cryptoGcmDecryptOp_only
  | cryptoSha256 => exact .onDev cryptoSha256Op_only
  | cryptoSha384 => exact .onDev cryptoSha384Op_only
  | cryptoHmac => exact .onDev cryptoHmacOp_only
  | cryptoP256Verify => exact .onDev cryptoP256VerifyOp_only
  | cryptoP384Verify => exact .onDev cryptoP384VerifyOp_only
  | cryptoP256Sign => exact .onDev cryptoP256SignOp_only
  | cryptoP384Sign => exact .onDev cryptoP384SignOp_only
  | cryptoRandom => exact .onDev cryptoRandomOp_only
  | cryptoCopy => exact .onDev cryptoCopyOp_only
  | cryptoJobComplete => exact .onDev cryptoJobCompleteOp_only
  | lcAdvance => exact .onDev lcAdvanceOp_only
  | returnToken b pub => exact .onDev (returnTokenOp_only b pub)
  | debugToken b pub => exact .onDev (debugTokenOp_only b pub)
  | keyRevoke i => exact .onDev (keyRevokeOp_only i)
  | rollbackSet n => exact .onDev (rollbackSetOp_only n)
  | swdtKick v => exact .onDev (swdtKickOp_only v)
  | swdtHalfPeriod => exact .onDev swdtHalfPeriodOp_only
  | swdtExpired env => exact .onDev (swdtExpiredOp_only env)
  | sourceStable src => exact .onDev (sourceStableOp_only src)
  | pllLock k => exact .onDev (pllLockOp_only k)
  | rcoTrim err => exact .onDev (rcoTrimOp_only err)
  | sscEnd => exact .onDev sscEndOp_only
  | clkTrip src cause => exact .onDev (clkTripOp_only src cause)
  | domainSwitch k => exact .onDev (domainSwitchOp_only k)
  | domainSwitchComplete k => exact .onDev (domainSwitchCompleteOp_only k)
  | forcedSwitch k => exact .onDev (forcedSwitchOp_only k)
  | revertTimeout k => exact .onDev (revertTimeoutOp_only k)
  | refLoss => exact .onDev refLossOp_only
  | refLossEnd => exact .onDev refLossEndOp_only
  | gateOn g v secure => exact .onDev (gateOnOp_only g v secure)
  | gateOff g v secure => exact .onDev (gateOffOp_only g v secure)
  | gatePark g => exact .onDev (gateParkOp_only g)
  | gateUnpark g => exact .onDev (gateUnparkOp_only g)
  | vauxOn env => exact .onVest (vauxOnOp_only env)
  | vauxPor => exact .onVaux vauxPorOp_only
  | resetNLow => exact .onVaux resetNLowOp_only
  | resetNHigh env => exact .onVaux (resetNHighOp_only env)
  | fatalFault detail rail mv env => exact .onVaux (fatalFaultOp_only detail rail mv env)
  | overtempClear env => exact .onVaux (overtempClearOp_only env)
  | warmReset secure ms => exact .onDev (warmResetOp_only secure ms)
  | aCoreFatal core ms => exact .onDev (aCoreFatalOp_only core ms)
  | unitReset v secure => exact .onDev (unitResetOp_only v secure)
  | powerFail => exact .onDev powerFailOp_only
  | powerRestored => exact .onDev powerRestoredOp_only
  | spWriteFrame len b env => exact .onVaux (spWriteFrameOp_only len b env)
  | spReadFrame whole => exact .onVaux (spReadFrameOp_only whole)
  | spReadStatus => exact .onVaux spReadStatusOp_only
  | storageDescriptorFetch h => exact .onDev (storageDescriptorFetchOp_only h)
  | storageRead h i n w => exact .onDev (storageReadOp_only h i n w)
  | storageWrite h i n w => exact .onDev (storageWriteOp_only h i n w)
  | storageTrim h i => exact .onDev (storageTrimOp_only h i)
  | storageFlush h i => exact .onDev (storageFlushOp_only h i)
  | storageAppend i n w => exact .onDev (storageAppendOp_only i n w)
  | storageLogRead i n w => exact .onDev (storageLogReadOp_only i n w)
  | storageCmdComplete h i => exact .onDev (storageCmdCompleteOp_only h i)
  | eventLogCommit => exact .onDev eventLogCommitOp_only
  | blockRefresh w => exact .onDev (blockRefreshOp_only w)
  | retentionScrub refresh w => exact .onDev (retentionScrubOp_only refresh w)
  | storageMount ms unclean => exact .onDev (storageMountOp_only ms unclean)
  | partitionErase h => exact .onDev (fun d => (Dev.partitionErase_only d h).answered)
  | stagingArm => exact .onDev stagingArmOp_only
  | stagingDiscard => exact .onDev stagingDiscardOp_only
  | imageConfirm => exact .onDev imageConfirmOp_only
  | retryActive => exact .onDev retryActiveOp_only
  | twinAliveToggle => exact .onDev twinAliveToggleOp_only
  | twinAliveLost => exact .onDev twinAliveLostOp_only
  | twinFltLow => exact .onDev twinFltLowOp_only
  | liveKick => exact .onDev liveKickOp_only
  | livenessTimeout => exact .onDev livenessTimeoutOp_only
  | galleryHelloSend n => exact .onDev (galleryHelloSendOp_only n)
  | galleryHelloReceive n w => exact .onDev (galleryHelloReceiveOp_only n w)
  | galleryDataReceive n w => exact .onDev (galleryDataReceiveOp_only n w)
  | heartbeatSend => exact .onDev heartbeatSendOp_only
  | heartbeatReceive n epoch role flags state change activeId forceGen => exact .onDev (heartbeatReceiveOp_only n epoch role flags state change activeId forceGen)
  | heartbeatLost => exact .onDev heartbeatLostOp_only
  | promoteWaitTimeout => exact .onDev promoteWaitTimeoutOp_only
  | twinCmdAttach => exact .onDev twinCmdAttachOp_only
  | twinCmdDetach => exact .onDev twinCmdDetachOp_only
  | twinCmdHandover => exact .onDev twinCmdHandoverOp_only
  | attachReqReceive node compat pos activeId digest => exact .onDev (attachReqReceiveOp_only node compat pos activeId digest)
  | attachRspReceive node status => exact .onDev (attachRspReceiveOp_only node status)
  | attachSnapshot => exact .onDev attachSnapshotOp_only
  | stateMessageReceive q kind epoch off last b => exact .onDev (stateMessageReceiveOp_only q kind epoch off last b)
  | inputsReceive q t cycle startNs off last b => exact .onDev (inputsReceiveOp_only q t cycle startNs off last b)
  | outputCrcReceive t cycle crc => exact .onDev (outputCrcReceiveOp_only t cycle crc)
  | retainReceive q b => exact .onDev (retainReceiveOp_only q b)
  | streamsReceive q b => exact .onDev (streamsReceiveOp_only q b)
  | forcesReceive q gen b => exact .onDev (forcesReceiveOp_only q gen b)
  | detachReceive => exact .onDev detachReceiveOp_only
  | handoverReceive step instant => exact .onDev (handoverReceiveOp_only step instant)
  | handoverTimeout => exact .onDev handoverTimeoutOp_only
  | beaconSend => exact .onDev beaconSendOp_only
  | beaconReceive node role epoch => exact .onDev (beaconReceiveOp_only node role epoch)
  | partnerQuery => exact .onDev partnerQueryOp_only
  | partnerQueryResult ok v => exact .onDev (partnerQueryResultOp_only ok v)
  | promote => exact .onDev promoteOp_only
  | promoteComplete => exact .onDev promoteCompleteOp_only
  | canIntegrationEnd n => exact .onDev (canIntegrationEndOp_only n)
  | limitingEnd n => exact .onDev (limitingEndOp_only n)
  | migrateAcceptTimeout => exact .onDev migrateAcceptTimeoutOp_only
  | inDoubtAnswer h committed => exact .onDev (inDoubtAnswerOp_only h committed)
  | attachRetry => exact .onDev attachRetryOp_only
  | attachWindowTimeout => exact .onDev attachWindowTimeoutOp_only
  | standbyChangeReceive word img => exact .onDev (standbyChangeReceiveOp_only word img)
  | handoverAcceptTimeout => exact .onDev handoverAcceptTimeoutOp_only
  | galleryDictRequest b => exact .onDev (galleryDictRequestOp_only b)
  | galleryAckReceive q map => exact .onDev (galleryAckReceiveOp_only q map)
  | galleryAckSend => exact .onDev galleryAckSendOp_only
  | galleryOutcomeTimeout => exact .onDev galleryOutcomeTimeoutOp_only
  | twinAliveEdge => exact .onDev twinAliveEdgeOp_only
  | twinFltHigh => exact .onDev twinFltHighOp_only
  | arpRequest v6 target mac vlan ip => exact .onDev (arpRequestOp_only v6 target mac vlan ip)
  | dramIdleSelfRefresh => exact .onDev dramIdleSelfRefreshOp_only

theorem runsLeaving_of_next {c : Instr} {s t : State} (h : exec c s = .next t) : ∃ F, Only F s.dev t.dev ∧ Leaves c F = true := by
  obtain ⟨F, f, hrun, honly, hparts⟩ := exec_runsLeaving c
  cases (hrun s).symm.trans h
  exact ⟨F, Only.of_fresh (honly _), hparts⟩

/-- A command changes nothing of the board's facts. -/
theorem board_of_exec {c : Instr} {s t : State} (h : exec c s = .next t) : t.dev.board = s.dev.board := by
  obtain ⟨F, honly, hparts⟩ := runsLeaving_of_next h
  have hboard : Part.board ∉ F.parts := by
    rw [Leaves, Bool.and_eq_true] at hparts
    simpa using hparts.1
  exact honly.keep .board hboard

/-- A command that writes neither images nor records leaves the update unit. -/
theorem upd_of_exec {c : Instr} {s t : State} (h : exec c s = .next t) (hc : (writesImages c || writesRecords c) = false) : t.dev.upd = s.dev.upd := by
  obtain ⟨F, honly, hparts⟩ := runsLeaving_of_next h
  have hupd : Part.upd ∉ F.parts := by
    rw [Leaves, hc, Bool.false_or, Bool.and_eq_true] at hparts
    simpa using hparts.2
  exact honly.keep .upd hupd

theorem idleTick_board (s : State) : (idleTick s).dev.board = s.dev.board := by
  unfold idleTick
  split <;> rfl

/-- Settles O54: a step is an idle tick or the front command. -/
theorem boardFactsNeverChange : Obligations.BoardFactsNeverChange := by
  unfold Obligations.BoardFactsNeverChange
  intro s t hstep
  cases hqueue : s.pending with
  | nil =>
    rw [step_of_pending_nil hqueue] at hstep
    cases hstep
    exact idleTick_board s
  | cons c r =>
    rw [step_of_pending_cons hqueue] at hstep
    exact board_of_exec (s := { s with pending := r }) hstep

end Sys2Proof

/-! SUPPORT. The images of the update unit (R472, R477, R481): what stands in it beside the versions of the SETTINGS records. An image's load or switch, a key
slot, a commit of stored values write a record and leave the rest. -/

namespace Sys2Proof

open Sys2Proof.Machine

/-- The update unit without the versions of its records. -/
def Machine.Dev.images (d : Dev) : UpdSt := { d.upd with records := [] }

theorem records_only_of_images {a b : Dev} (h : b.images = a.images) : { b.upd with records := a.upd.records } = a.upd := by
  have := congrArg (fun u : UpdSt => { u with records := a.upd.records }) h
  exact this

theorem Only.images {F : Foot} {a b : Dev} (h : Only F a b) (hupd : Part.upd ∉ F.parts := by decide) : b.images = a.images :=
  congrArg (fun u : UpdSt => { u with records := [] }) (h.keep .upd hupd)

theorem Dev.images_foldl {α : Type} {f : Dev → α → Dev} (hf : ∀ d x, (f d x).images = d.images) (l : List α) (d : Dev) :
    (l.foldl f d).images = d.images :=
  foldl_keeps (g := Dev.images) hf l d

theorem Dev.images_ite {p : Prop} [Decidable p] {a b c : Dev} (ha : a.images = c.images) (hb : b.images = c.images) :
    (if p then a else b).images = c.images := by
  split <;> assumption

/-! ### Steps that many operations share -/

@[simp] theorem Dev.recordWritten_images (d : Dev) (kind key : Nat) : (d.recordWritten kind key).images = d.images := rfl
@[simp] theorem Dev.recordGone_images (d : Dev) (kind key : Nat) : (d.recordGone kind key).images = d.images := rfl
@[simp] theorem Dev.put_images (d : Dev) (e : Entry) (v : Nat) : (d.put e v).images = d.images := rfl
@[simp] theorem Dev.putOct_images (d : Dev) (e : Entry) (b : Bytes) : (d.putOct e b).images = d.images := rfl
@[simp] theorem Dev.setFld_images (d : Dev) (f : Field) (v : Nat) : (d.setFld f v).images = d.images := rfl
@[simp] theorem Dev.setScan_images (d : Dev) (f : ScanSt → ScanSt) : (d.setScan f).images = d.images := rfl
@[simp] theorem Dev.setTwin_images (d : Dev) (f : TwinSt → TwinSt) : (d.setTwin f).images = d.images := rfl
@[simp] theorem Dev.setMezz_images (d : Dev) (f : MezzSt → MezzSt) : (d.setMezz f).images = d.images := rfl
@[simp] theorem Dev.setD0_images (d : Dev) (f : DictUnit → DictUnit) : (d.setD0 f).images = d.images := rfl
@[simp] theorem Dev.finish_images (d : Dev) (key : Nat) (s : Status) : (d.finish key s).images = d.images := (Dev.finish_only d key s).images
@[simp] theorem Dev.count_images (d : Dev) (c : Counter) (n : Nat) : (d.count c n).images = d.images :=
  congrArg (fun u : UpdSt => { u with records := [] }) (Dev.count_upd ..)
@[simp] theorem Dev.setEngine_images (d : Dev) (n : Nat) : (d.setEngine n).images = d.images := (Dev.setEngine_only d n).images
@[simp] theorem Dev.setRole_images (d : Dev) (n : Nat) : (d.setRole n).images = d.images := (Dev.setRole_only d n).images
@[simp] theorem Dev.dropChange_images (d : Dev) (s : Status) : (d.dropChange s).images = d.images := (Dev.dropChange_only d s).images

/-! ### The engine's image -/

@[simp] theorem Dev.loadImage_images (d : Dev) (img : Bytes) (warm : Bool) : (d.loadImage img warm).images = d.images := by
  have hrelease (l : List TaskRec) (x : Dev) (c : Bool) : (l.foldl (fun d r => if c then d.releaseUnit r.unit else d) x).images = x.images := by
    refine Dev.images_foldl (fun d r => ?_) l x
    split
    · exact (Dev.releaseUnit_only ..).images
    · rfl
  have hdata (l : List Nat) (x : Dev) : (l.foldl (fun d x => d.loadData img x) x).images = x.images :=
    Dev.images_foldl (fun d r => (Dev.loadData_only ..).images) l x
  unfold Dev.loadImage
  rw [Dev.setEngine_images, (Dev.engineSafe_only ..).images, (Dev.seEvent_only ..).images, (Dev.clearForces_only ..).images, Dev.setScan_images,
    (Dev.loadSlots_only ..).images, Dev.put_images, Dev.putOct_images]
  have hretain (x : Dev) (b c : Bool) : (if b then x.retainStatus 3 else if c then x.retainRestore img else x).images = x.images := by
    split_ifs <;> [exact (Dev.retainStatus_only ..).images; exact (Dev.retainRestore_only ..).images; rfl]
  have hrecord (x : Dev) (b : Bool) : (if b then x else x.recordWritten 2 0).images = x.images := by
    split <;> rfl
  rw [hrecord, hretain, (Dev.exchangeBanks_only ..).images, hdata, (Dev.loadBanks_only ..).images, hrelease]

@[simp] theorem Dev.engineReset_images (d : Dev) (ms : Nat) : (d.engineReset ms).images = d.images := by
  have hload (x : Dev) (p : Prop) [Decidable p] : (if p then x else x.loadImage x.image true).images = x.images := by
    split <;> [rfl; exact Dev.loadImage_images ..]
  have hstart (x : Dev) (p : Prop) [Decidable p] : (if p then x.startEngine else x).images = x.images := by
    split <;> [exact (Dev.startEngine_only _).images; rfl]
  have hchange : (if d.get Ent.Chg.CHANGE_STATE = 0 then d else
      match d.scan.change.bind (·.old) with
      | some b => (d.changeEnd .aborted).putOct Ent.Seimg.ACTIVE_IMAGE b
      | none => d.changeEnd .aborted).images = d.images := by
    split
    · rfl
    · split <;> exact (Dev.changeEnd_only d .aborted).images
  unfold Dev.engineReset
  rw [Dev.put_images, hstart, hload, Dev.setScan_images]
  exact hchange

theorem engineLoadOp_images (d : Dev) : (engineLoadOp d).images = d.images := by
  unfold engineLoadOp
  split
  · exact (Dev.cmdRefused_only d).images
  · split
    · exact (Dev.cmdDone_only ..).images
    · split
      · exact (Dev.cmdDone_only ..).images
      · rw [(Dev.cmdDone_only ..).images, Dev.loadImage_images]

@[simp] theorem Dev.switchImage_images (d : Dev) (c : Change) : (d.switchImage c).images = d.images := by
  have hone (x : Dev) (p : Nat × Nat) : (x.snapshot p.1 p.2).images = x.images := (Dev.snapshot_only x p.1 p.2).images
  have hsnapshot (l : List (Nat × Nat)) (x : Dev) := Dev.images_foldl hone l x
  unfold Dev.switchImage
  dsimp only
  rw [hsnapshot, Dev.put_images, Dev.setEngine_images, Dev.setScan_images, Dev.put_images, Dev.putOct_images,
    Dev.recordWritten_images, (Dev.switchSlots_only ..).images, (Dev.switchTasks_only ..).images, (Dev.exchangeBanks_only ..).images,
    (Dev.switchForces_only ..).images, (Dev.switchData_only ..).images]
  rfl

@[simp] theorem changeSwitchOp_images (d : Dev) : (changeSwitchOp d).images = d.images := by
  unfold changeSwitchOp
  split
  case h_1 => rfl
  case h_2 c hc =>
    split
    · rfl
    · split
      · cases c.commitAt with
        | none => rfl
        | some i =>
          dsimp only
          split_ifs <;> simp
      · split
        · rw [Dev.switchImage_images]
          split <;> [exact (Dev.sendCommit_only ..).images; rfl]
        · rfl

theorem changeCommitReceiveOp_images (i : Nat) (d : Dev) : (changeCommitReceiveOp i d).images = d.images := by
  unfold changeCommitReceiveOp
  split
  · split <;> simp
  · split
    · rfl
    · rw [changeSwitchOp_images]
      split <;> simp

theorem stateMessageReceiveOp_images (q kind epoch off : Nat) (last : Bool) (b : Bytes) (d : Dev) :
    (stateMessageReceiveOp q kind epoch off last b d).images = d.images := by
  have hbad (x : Dev) : (x.postedBad q).images = x.images := (Dev.postedBad_only x q).images
  unfold stateMessageReceiveOp
  split
  · exact hbad d
  · dsimp only
    have hsnap (x : Dev) (l : Bytes) : ((((x.takeSnapshot l).put Ent.Tws.ROLE_EPOCH epoch).setRole 2).attachEvent 0).images = x.images := by
      rw [(Dev.attachEvent_only ..).images, Dev.setRole_images, Dev.put_images, (Dev.takeSnapshot_only ..).images]
    by_cases hkind : kind = 1
    case pos =>
      simp only [if_pos hkind]
      split
      · exact hbad d
      · split
        · rfl
        · split
          · rw [(Dev.attachEnd_only ..).images, hbad, Dev.setTwin_images]
          · rw [Dev.loadImage_images, (Dev.abandonTasks_only ..).images, Dev.dropChange_images, Dev.setTwin_images]
    case neg =>
      simp only [if_neg hkind]
      split
      · exact hbad d
      · split
        · rfl
        · split
          · rw [(Dev.twinDone_only ..).images, hsnap, Dev.setTwin_images, Dev.setTwin_images]
          · rw [hsnap, Dev.setTwin_images, Dev.setTwin_images]

/-! ### Key slots and the crypto unit -/

@[simp] theorem Dev.emptySlot_images (d : Dev) (k : Nat) : (d.emptySlot k).images = d.images := by
  unfold Dev.emptySlot
  rw [(Dev.slotSessionsEnd_only ..).images]
  rfl

@[simp] theorem Dev.clearSlot_images (d : Dev) (k : Nat) : (d.clearSlot k).images = d.images := by
  unfold Dev.clearSlot
  rw [Dev.finish_images, (Dev.eventSecure_only ..).images, Dev.emptySlot_images, Dev.setMezz_images]

theorem keyClearOp_images (k : Nat) (d : Dev) : (keyClearOp k d).images = d.images := by
  unfold keyClearOp
  split_ifs <;> simp

@[simp] theorem cryptoJobCompleteOp_images (d : Dev) : (cryptoJobCompleteOp d).images = d.images := by
  have hclear (l : List Nat) (x : Dev) := Dev.images_foldl Dev.clearSlot_images l x
  have hbit (x : Dev) (p : Prop) [Decidable p] (i : Nat) : (if p then x else x.setFldBit Rg.Cry.IRQ i true).images = x.images := by split <;> rfl
  have hset (x : Dev) (p : Prop) [Decidable p] (i : Nat) : (if p then x.setFldBit Rg.Cry.IRQ i true else x).images = x.images := by split <;> rfl
  have hwrite (x : Dev) (p : Prop) [Decidable p] (a b : Nat) (l m : Bytes) : (if p then (x.writeMem a l).writeMem b m else x).images = x.images := by
    split <;> [rw [(Dev.writeMem_only ..).images, (Dev.writeMem_only ..).images]; rfl]
  unfold cryptoJobCompleteOp
  split
  · dsimp only
    rw [hclear, Dev.setMezz_images, hbit, hset, Dev.setFld_images, Dev.setFld_images, Dev.setFld_images, hwrite]
  · rfl

theorem Dev.enterReturned_images (d : Dev) : d.enterReturned.images = d.images := by
  have hempty (l : List Nat) (x : Dev) := Dev.images_foldl Dev.emptySlot_images l x
  have hzero (x : Dev) (a n : Nat) : (x.zeroMem a n).images = x.images := (Dev.zeroMem_only ..).images
  unfold Dev.enterReturned
  dsimp only
  rw [(Dev.enterLifecycle_only ..).images, hzero, hzero, hzero, (Dev.draw_only ..).images, Dev.setMezz_images, hempty]

theorem returnTokenOp_images (b pub : Bytes) (d : Dev) : (returnTokenOp b pub d).images = d.images := by
  have hdone (x : Dev) (s : Status) : (x.tokenDone Ent.Sec.RETURN_TOKEN.key s).images = x.images := (Dev.tokenDone_only ..).images
  unfold returnTokenOp
  split_ifs <;> rw [hdone]
  exact Dev.enterReturned_images d

theorem Dev.keyApplied_images (d : Dev) (k : Nat) : (d.keyApplied k).images = d.images := by
  unfold Dev.keyApplied
  rw [(Dev.eventSecure_only ..).images, Dev.recordWritten_images, Dev.setMezz_images, Dev.put_images, (Dev.slotSessionsEnd_only ..).images]

/-! ### Values that take effect, and the commit -/

/-- Of the groups, a key slot alone writes a record when its values take effect. -/
theorem Dev.groupApplied_images (d old : Dev) (i : Nat) : (d.groupApplied old i).images = d.images := by
  have hlines := (Dev.allocLines_only d old i).images
  have hleaves {F : Foot} {b : Dev} (h : Only F (d.allocLines old i) b) (hupd : Part.upd ∉ F.parts) : b.images = d.images :=
    (h.images hupd).trans hlines
  unfold Dev.groupApplied
  refine Dev.images_ite (Dev.images_ite hlines (hleaves (Dev.closeSessions_only ..) (by decide))) ?_
  refine Dev.images_ite (hleaves (Dev.clkApplied_only ..) (by decide)) ?_
  refine Dev.images_ite ((Dev.keyApplied_images ..).trans hlines) ?_
  refine Dev.images_ite (hleaves (Dev.hallGroupApplied_only ..) (by decide)) ?_
  refine Dev.images_ite (hleaves (Dev.srcConfigApplied_only ..) (by decide)) ?_
  refine Dev.images_ite (hleaves (Dev.pairApplied_only ..) (by decide)) ?_
  refine Dev.images_ite (hleaves (Dev.dmaApplied_only ..) (by decide)) ?_
  refine Dev.images_ite ((Dev.quotaLine_only ..).images.trans (hleaves (Dev.windowsApplied_only ..) (by decide))) ?_
  refine Dev.images_ite (hleaves (Dev.qpApplied_only ..) (by decide)) ?_
  refine Dev.images_ite (hleaves (Dev.portApplied_only ..) (by decide)) ?_
  refine Dev.images_ite (hleaves (Dev.sharedSizeSet_only ..) (by decide)) ?_
  refine Dev.images_ite (hleaves (Dev.tablesSwitched_only ..) (by decide)) ?_
  refine Dev.images_ite (hleaves (Dev.gclApplied_only ..) (by decide)) ?_
  refine Dev.images_ite (Dev.images_ite (hleaves (Dev.ptpRoles_only ..) (by decide)) (hleaves (Dev.ptpRestart_only ..) (by decide))) ?_
  refine Dev.images_ite (hleaves (Dev.ptpRoles_only ..) (by decide)) ?_
  refine Dev.images_ite (hleaves (Dev.trigApplied_only ..) (by decide)) ?_
  exact hleaves (Dev.groupApplied.second_only ..) (by decide)

theorem Dev.applyEffect_images (d : Dev) (i : Nat) (x : Applying) : (d.applyEffect i x).images = d.images := by
  have hends (y : Dev) : (y.applyEnds x.origin i .ok 0).images = y.images := (Dev.applyEnds_only ..).images
  have hvalues (y : Dev) : (y.withValues x.values x.blobs).images = y.images := (Dev.withValues_only ..).images
  have hfire : (if within i 0x3700 32 then d.fireUnit (i - 0x3700) false else d).images = d.images := by
    split <;> [exact (Dev.fireUnit_only ..).images; rfl]
  unfold Dev.applyEffect
  dsimp only
  split
  · rw [Dev.setD0_images, Dev.groupApplied_images, hvalues, hends, hfire]
  · rw [hends, Dev.setD0_images, Dev.groupApplied_images, hvalues, hfire]

@[simp] theorem applyTakeEffectOp_images (i : Nat) (d : Dev) : (applyTakeEffectOp i d).images = d.images := by
  unfold applyTakeEffectOp
  split
  · split
    · rw [(Dev.serveResume_only _).images, Dev.applyEffect_images]
    · rfl
  · rfl

theorem adcRunCompleteOp_images (a : Nat) (codes : List Nat) (d : Dev) : (adcRunCompleteOp a codes d).images = d.images := by
  have htake (l : List Nat) (x : Dev) := Dev.images_foldl (fun x i => applyTakeEffectOp_images i x) l x
  unfold adcRunCompleteOp
  split
  · rfl
  · rw [(Dev.nextRun_only ..).images, htake, (Dev.runEnds_only ..).images]

theorem storeCommitOp_images (d : Dev) : (storeCommitOp d).images = d.images := by
  have hrecords (l : List Nat) (x : Dev) := Dev.images_foldl (fun x k => Dev.recordWritten_images x 1 (k / 256)) l x
  unfold storeCommitOp
  rw [(Dev.serveResume_only _).images]
  unfold Dev.storeCommit
  split
  · rfl
  · dsimp only
    rw [(Dev.respond_only ..).images, Dev.setD0_images, hrecords]

/-! ### Resets and gates -/

@[simp] theorem Dev.cryptoUnitReset_images (d : Dev) : d.cryptoUnitReset.images = d.images := by
  unfold Dev.cryptoUnitReset
  rw [(Dev.resetPage_only ..).images, cryptoJobCompleteOp_images, Dev.setMezz_images]

/-- Of the units, the crypto unit alone may perform a CLEAR when it is reset. -/
@[simp] theorem Dev.unitResetState_images (d : Dev) (g : Nat) : (d.unitResetState g).images = d.images := by
  unfold Dev.unitResetState
  refine Dev.images_ite (Dev.resetCore_only ..).images ?_
  refine Dev.images_ite (Dev.resetCore_only ..).images ?_
  refine Dev.images_ite (Dev.seUnitReset_only ..).images ?_
  refine Dev.images_ite (Dev.engineUnitReset_only ..).images ?_
  refine Dev.images_ite (Dev.dictUnitReset_only ..).images ?_
  refine Dev.images_ite (Dev.resetPage_only d 0x10000000 0x1C000).images ?_
  refine Dev.images_ite rfl ?_
  refine Dev.images_ite (Dev.bridgeUnitReset_only ..).images ?_
  refine Dev.images_ite (Dev.cryptoUnitReset_images d) ?_
  refine Dev.images_ite (Dev.portUnitReset_only ..).images ?_
  refine Dev.images_ite (Dev.portUnitReset_only ..).images ?_
  refine Dev.images_ite (Dev.canUnitReset_only ..).images ?_
  refine Dev.images_ite (Dev.images_foldl (fun x h => (Dev.stgReset_only x h).images) _ _) ?_
  refine Dev.images_ite rfl ?_
  refine Dev.images_ite ((Dev.resetPage_only ..).images.trans (Dev.unitRestarts_only ..).images) ?_
  exact Dev.images_ite (Dev.dmaUnitReset_only ..).images rfl

theorem unitResetOp_images (v : Nat) (secure : Bool) (d : Dev) : (unitResetOp v secure d).images = d.images := by
  have hrefused (s : Status) : (if s = .leased then d.leaseRefused v s else d).images = d.images := by
    split <;> [exact (Dev.leaseRefused_only ..).images; rfl]
  unfold unitResetOp
  split
  · dsimp only
    rw [Dev.finish_images, (Dev.eventSys_only ..).images, Dev.count_images]
    split <;> [exact (Dev.loadGroupReset_only ..).images; exact Dev.unitResetState_images ..]
  · rw [Dev.finish_images, hrefused]

@[simp] theorem Dev.gateUp_images (d : Dev) (g : Nat) : (d.gateUp g).images = d.images := by
  unfold Dev.gateUp
  split_ifs
  · rw [Dev.unitResetState_images, (Dev.pllGate_only ..).images]
    exact (Dev.setGateState_only d g 1).images
  · exact (Dev.setGateState_only d g 1).images
  · rfl

theorem gateOnOp_images (g v : Nat) (secure : Bool) (d : Dev) : (gateOnOp g v secure d).images = d.images := by
  have hdone (x : Dev) (s : Status) : (x.gateDone g s).images = x.images := (Dev.gateDone_only ..).images
  have hup (l : List Nat) (x : Dev) := Dev.images_foldl Dev.gateUp_images l x
  unfold gateOnOp
  split_ifs
  · exact Dev.finish_images ..
  · exact hdone ..
  · exact hdone ..
  · exact hdone ..
  · rw [hdone, (Dev.gateBits_only ..).images, hup]

@[simp] theorem Dev.defaultMarked_images (d : Dev) : d.defaultMarked.images = d.images := by
  unfold Dev.defaultMarked Dev.eraseMarked
  exact (Dev.defaulted_only d d.marked).images

@[simp] theorem Dev.warmReset_images (d : Dev) (cause detail ms : Nat) : (d.warmReset cause detail ms).images = d.images := by
  have hphase (x : Dev) (p : Phase) : (setPhase p x).images = x.images := rfl
  have hstarts (l : List UnitId) (x : Dev) := Dev.images_foldl (fun x u => (Dev.unitStarts_only x u).images) l x
  have hgates (l : List Nat) (x : Dev) := Dev.images_foldl (fun x p => (Dev.gclApplied_only x p).images) l x
  have hrole (x : Dev) (p : Prop) [Decidable p] (n : Nat) : (if p then x else x.setRole n).images = x.images := Dev.images_ite rfl (Dev.setRole_images ..)
  unfold Dev.warmReset
  dsimp only
  rw [Dev.engineReset_images, (Dev.faultRefresh_only _).images, hrole, (Dev.nodesStart_only _).images, hstarts, hgates, Dev.setD0_images,
    (Dev.hallsMibApplied_only _).images, (Dev.partsApplied_only _).images, (Dev.sharedSizeSet_only _).images, (Dev.hallsReset_only _).images,
    (Dev.eventSys_only ..).images, Dev.defaultMarked_images, hphase, (Dev.twinReset_only _).images, (Dev.warmRegs_only _).images,
    (Dev.unitsReset_only _).images, (Dev.switchReset_only _).images, (Dev.coresReset_only _).images, (Dev.dictEmptied_only _).images,
    (Dev.faultRefresh_only _).images, hphase, (Dev.holdChannels_only _).images, (Dev.newChallenge_only _).images, Dev.put_images, Dev.count_images,
    (Dev.wakesFalse_only _).images]

theorem Dev.responseFirst_images (d : Dev) (o : Option Origin) {f : Dev → Dev} (hf : ∀ x, (f x).images = x.images) :
    (d.responseFirst o f).images = d.images := by
  unfold Dev.responseFirst
  split
  · rw [hf, (Dev.sendQueued_only ..).images]
  · exact hf d
  · exact hf d

theorem warmResetOp_images (secure : Bool) (ms : Nat) (d : Dev) : (warmResetOp secure ms d).images = d.images := by
  unfold warmResetOp
  dsimp only
  split
  · exact Dev.finish_images ..
  · rw [Dev.responseFirst_images _ _ fun x => Dev.warmReset_images x 7 (b2n secure) ms, Dev.finish_images]

theorem aCoreFatalOp_images (core ms : Nat) (d : Dev) : (aCoreFatalOp core ms d).images = d.images := by
  unfold aCoreFatalOp
  split <;> simp

/-! ### The obligation -/

/-- A command that acts in a running device, and whose operation keeps the images. -/
theorem records_only_of_onDev {c : Instr} {f : Dev → Dev} (hc : ∀ s, exec c s = onDev s f) (hf : ∀ d, (f d).images = d.images) {s t : State}
    (h : exec c s = .next t) : { t.dev.upd with records := s.dev.upd.records } = s.dev.upd := by
  refine records_only_of_images ?_
  cases (hc s).symm.trans h
  exact Dev.images_ite (hf s.dev.fresh) rfl

/-- Settles O55: a footprint without the update unit, or an operation that keeps its images. -/
theorem firmwareStateWriters : Obligations.FirmwareStateWriters := by
  unfold Obligations.FirmwareStateWriters
  intro c s t h
  cases c
  case dictWriteExec | dictWriteGeneric | apply | applyDiscard | storeParameters | restoreDefaults | wakePattern | wakeFrame | wakePin | wakeReq
    | watchWake | swdtExpired | vauxOn | resetNHigh | fatalFault | overtempClear | spWriteFrame | imageConfirm => trivial
  case applyTakeEffect i => exact records_only_of_onDev (fun _ => rfl) (applyTakeEffectOp_images i) h
  case storeCommit => exact records_only_of_onDev (fun _ => rfl) storeCommitOp_images h
  case engineLoad => exact records_only_of_onDev (fun _ => rfl) engineLoadOp_images h
  case changeSwitch => exact records_only_of_onDev (fun _ => rfl) changeSwitchOp_images h
  case changeCommitReceive i => exact records_only_of_onDev (fun _ => rfl) (changeCommitReceiveOp_images i) h
  case adcRunComplete a codes => exact records_only_of_onDev (fun _ => rfl) (adcRunCompleteOp_images a codes) h
  case keyClear k => exact records_only_of_onDev (fun _ => rfl) (keyClearOp_images k) h
  case cryptoJobComplete => exact records_only_of_onDev (fun _ => rfl) cryptoJobCompleteOp_images h
  case returnToken b pub => exact records_only_of_onDev (fun _ => rfl) (returnTokenOp_images b pub) h
  case gateOn g v secure => exact records_only_of_onDev (fun _ => rfl) (gateOnOp_images g v secure) h
  case warmReset secure ms => exact records_only_of_onDev (fun _ => rfl) (warmResetOp_images secure ms) h
  case aCoreFatal core ms => exact records_only_of_onDev (fun _ => rfl) (aCoreFatalOp_images core ms) h
  case unitReset v secure => exact records_only_of_onDev (fun _ => rfl) (unitResetOp_images v secure) h
  case stateMessageReceive q kind epoch off last b =>
    exact records_only_of_onDev (fun _ => rfl) (stateMessageReceiveOp_images q kind epoch off last b) h
  all_goals exact upd_of_exec h rfl

end Sys2Proof

/-! SUPPORT. The converters (R313 to R320): a run that begins, what its end shows, the shunts; and what debug does to a hart (R341). -/

namespace Sys2Proof

open Sys2Proof.Machine

/-! ### Converters -/

@[simp] theorem Dev.conv_setConv_same (d : Dev) (a : Nat) (f : Conv → Conv) : (d.setConv a f).conv a = f (d.conv a) := KV.get_put_same ..

@[simp] theorem Dev.fld_setConv (d : Dev) (a : Nat) (f : Conv → Conv) (g : Field) : (d.setConv a f).fld g = d.fld g := rfl

@[simp] theorem Dev.setConv_codes (d : Dev) (a : Nat) (f : Conv → Conv) : (d.setConv a f).adc.codes = d.adc.codes := rfl

@[simp] theorem Dev.conv_answer (d : Dev) (s : Status) (v a : Nat) : (d.answer s v).conv a = d.conv a := rfl

@[simp] theorem Dev.showConv_adc (d : Dev) (a : Nat) : (d.showConv a).adc = d.adc := (Dev.showConv_only d a).keep .adc (by decide)

theorem Dev.conv_congr {b c : Dev} (h : b.adc = c.adc) (a : Nat) : b.conv a = c.conv a := by rw [Dev.conv, Dev.conv, h]

/-- BUSY and RUNNING show the run. -/
theorem Dev.showConv_busy (d : Dev) (a : Nat) : (d.showConv a).fld (Rg.Adcr.BUSY a) = b2n (d.conv a).run.isSome := by
  have hbit : b2n (d.conv a).run.isSome < 2 := by cases (d.conv a).run.isSome <;> decide
  unfold Dev.showConv
  dsimp only
  rw [Dev.fld_setFld_of_beside (f := Rg.Adcr.PENDING a) (g := Rg.Adcr.BUSY a) _ _ ⟨rfl, rfl, rfl⟩,
    Dev.fld_setFld_of_beside (f := Rg.Adcr.RUNNING a) (g := Rg.Adcr.BUSY a) _ _ ⟨rfl, rfl, rfl⟩,
    Dev.fld_setFld_of_fits (f := Rg.Adcr.BUSY a) (w := 1) _ _ ⟨rfl, rfl⟩, Nat.mod_eq_of_lt (by omega)]

theorem Dev.showConv_running (d : Dev) (a : Nat) : (d.showConv a).fld (Rg.Adcr.RUNNING a) = ((d.conv a).run.elim 0 (·.seq)) % 8 := by
  unfold Dev.showConv
  dsimp only
  rw [Dev.fld_setFld_of_beside (f := Rg.Adcr.PENDING a) (g := Rg.Adcr.RUNNING a) _ _ ⟨rfl, rfl, rfl⟩,
    Dev.fld_setFld_of_fits (f := Rg.Adcr.RUNNING a) (w := 3) _ _ ⟨rfl, rfl⟩]
  rfl

/-- Every other word. -/
theorem Dev.fld_showConv (d : Dev) {a : Nat} {g : Field} (h : g.addr ≠ (Rg.Adcr.BUSY a).addr) : (d.showConv a).fld g = d.fld g := by
  unfold Dev.showConv
  dsimp only
  rw [Dev.fld_setFld_other (f := Rg.Adcr.PENDING a) _ _ h, Dev.fld_setFld_other (f := Rg.Adcr.RUNNING a) _ _ h, Dev.fld_setFld_other _ _ h]

/-! ### A start (R314, R315) -/

/-- The run that a start of sequence `s` begins. -/
def Machine.Dev.started (d : Dev) (a s : Nat) : AdcRun := ⟨s, d.seqList a s, d.now % 2 ^ 32, d.time.tgen, false, d.time.raw⟩

theorem Dev.startSeq_of_idle {d : Dev} {a : Nat} (s : Nat) (hon : d.get (Ent.Adc.STATE a) = 1) (hidle : d.conv a = ⟨none, []⟩) :
    d.startSeq a s = d.beginRun a s false := by
  rw [Dev.startSeq, if_neg (not_not.2 hon)]
  simp [hidle]

theorem Dev.beginRun_conv (d : Dev) (a s : Nat) : ((d.beginRun a s false).conv a).run = some (d.started a s) := by
  rw [Dev.beginRun, Dev.conv_congr (Dev.showConv_adc ..), Dev.conv_setConv_same]
  rfl

theorem Dev.beginRun_shows (d : Dev) (a : Nat) {s : Nat} (hs : s < 8) :
    (d.beginRun a s false).fld (Rg.Adcr.BUSY a) = 1 ∧ (d.beginRun a s false).fld (Rg.Adcr.RUNNING a) = s := by
  rw [Dev.beginRun, Dev.showConv_busy, Dev.showConv_running, Dev.conv_setConv_same]
  exact ⟨rfl, Nat.mod_eq_of_lt hs⟩

/-- A start that the write does not name does nothing. -/
theorem foldl_starts_of_not_mem {i a : Nat} (hi : i < 8) {l : List Nat} (hl : ∀ s ∈ l, s < 8 ∧ s ≠ i) (d : Dev) :
    l.foldl (fun d s => if bit (2 ^ i) s then d.startSeq a s else d) d = d := by
  have hbits : ∀ i < 8, ∀ s < 8, s ≠ i → bit (2 ^ i) s = false := by decide
  refine List.foldlRecOn (motive := fun x => x = d) l _ rfl fun x hx s hs => ?_
  obtain ⟨hlt, hne⟩ := hl s hs
  rw [hbits i hi s hlt hne, hx]
  rfl

/-- A write of one bit to START. -/
theorem adcStartOp_of_one {i : Nat} (hi : i < 8) (a : Nat) (d : Dev) : adcStartOp a (2 ^ i) d = (d.startSeq a i).answer .ok := by
  have hself : bit (2 ^ i) i = true := (show ∀ i < 8, bit (2 ^ i) i = true by decide) i hi
  have hsplit : List.range 8 = List.range i ++ i :: (List.range (7 - i)).map (· + (i + 1)) :=
    (show ∀ i < 8, List.range 8 = List.range i ++ i :: (List.range (7 - i)).map (· + (i + 1)) by decide) i hi
  rw [adcStartOp, hsplit, List.foldl_append, List.foldl_cons, foldl_starts_of_not_mem hi, if_pos hself, foldl_starts_of_not_mem hi]
  · intro s hs
    rw [List.mem_range] at hs
    omega
  · intro s hs
    obtain ⟨m, hm, rfl⟩ := List.mem_map.1 hs
    rw [List.mem_range] at hm
    omega

/-! ### The end of a run (R317) -/

/-- The registers before `bound`, where no word of the footprint lies. -/
theorem Only.fld_eq_before {F : Foot} {a b : Dev} {g : Field} {bound : Nat} (h : Only F a b) (hregs : Part.regs ∉ F.parts) (hbound : g.addr < bound)
    (hwords : F.words.all (fun f => decide (bound ≤ f.base)) = true) : b.fld g = a.fld g := by
  have hfind : KV.find g.addr b.regs = KV.find g.addr a.regs := by
    refine h.keep .regs hregs g.addr fun f hf hhas => ?_
    have := Fam.base_le_of_has hhas
    have := of_decide_eq_true (List.all_eq_true.1 hwords f hf)
    omega
  simp only [Dev.fld, Dev.word, KV.get, hfind]

theorem Dev.inputFlags_adc (d : Dev) (a i new : Nat) : (d.inputFlags a i new).adc = d.adc := (Dev.inputFlags_only d a i new).keep .adc (by decide)

/-- A conversion changes codes, not the converters. -/
theorem Dev.converted_convs (d : Dev) (a c code : Nat) (late : Bool) (at_ : Nat) : (d.converted a c code late at_).adc.convs = d.adc.convs := by
  unfold Dev.converted
  dsimp only
  split
  · split <;> rfl
  · rw [Dev.inputFlags_adc]
    rfl

/-- The field of result `i` of a sequence. -/
def resultField (a s i : Nat) : Field := if i % 2 = 0 then Rg.Adcr.RESULT_EVEN a s (i / 2) else Rg.Adcr.RESULT_ODD a s (i / 2)

theorem resultField_addr (a s i : Nat) : (resultField a s i).addr = 0x10C00000 + 0x1000 * a + 0x40 * s + 0x4 * (i / 2) + 0x110 := by
  unfold resultField
  split <;> rfl

/-- The results of a run, in order. -/
def showResults (a s n : Nat) (v : Nat → Nat) (d : Dev) : Dev := (List.range n).foldl (fun d i => d.setFld (resultField a s i) (v i)) d

theorem showResults_succ (a s n : Nat) (v : Nat → Nat) (d : Dev) :
    showResults a s (n + 1) v d = (showResults a s n v d).setFld (resultField a s n) (v n) := by
  simp [showResults, List.range_succ]

theorem showResults_first (a s n : Nat) (v : Nat → Nat) (d : Dev) : (showResults a s (n + 1) v d).fld (Rg.Adcr.RESULT_EVEN a s 0) = v 0 % 2 ^ 16 := by
  induction n with
  | zero => exact Dev.fld_setFld_of_fits (f := Rg.Adcr.RESULT_EVEN a s 0) (w := 16) d _ ⟨rfl, rfl⟩
  | succ n ih =>
    rw [showResults_succ]
    by_cases hodd : n = 0
    · subst hodd
      exact (Dev.fld_setFld_of_beside (f := Rg.Adcr.RESULT_ODD a s 0) (g := Rg.Adcr.RESULT_EVEN a s 0) _ _ ⟨rfl, rfl, rfl⟩).trans ih
    · rw [Dev.fld_setFld_other, ih]
      rw [resultField_addr]
      simp only [Rg.Adcr.RESULT_EVEN]
      omega

/-- The words before the results stay. -/
theorem fld_showResults (a s n : Nat) (v : Nat → Nat) (d : Dev) {g : Field} (h : g.addr < 0x10C00000 + 0x1000 * a + 0x40 * s + 0x110) :
    (showResults a s n v d).fld g = d.fld g := by
  refine foldl_keeps (g := fun d : Dev => d.fld g) (fun x i => ?_) _ _
  exact Dev.fld_setFld_other _ _ (by rw [resultField_addr]; omega)

@[simp] theorem showResults_adc (a s n : Nat) (v : Nat → Nat) (d : Dev) : (showResults a s n v d).adc = d.adc :=
  foldl_keeps (g := Dev.adc) (fun _ _ => Dev.setFld_adc ..) _ _

/-- What the conversions of a run leave: its codes are taken, in order. -/
def Machine.Dev.runConverted (d : Dev) (a : Nat) (codes : List Nat) (r : AdcRun) : Dev :=
  ((List.range r.list.length).zip r.list).foldl
    (fun d x => d.converted a x.2 (min ((codes[x.1]?).getD 0) 65535) r.late (r.at_ + 500 * x.1)) d

theorem Dev.runConverted_convs (d : Dev) (a : Nat) (codes : List Nat) (r : AdcRun) : (d.runConverted a codes r).adc.convs = d.adc.convs :=
  foldl_keeps (g := fun d : Dev => d.adc.convs) (fun _ _ => Dev.converted_convs ..) _ _

theorem Dev.fld_runConverted (d : Dev) (a : Nat) (codes : List Nat) (r : AdcRun) {g : Field} (h : g.addr < 0x10E00000) :
    (d.runConverted a codes r).fld g = d.fld g :=
  foldl_keeps (g := fun d : Dev => d.fld g) (fun _ _ => (Dev.converted_only ..).fld_eq_before (by decide) h (by decide)) _ _

/-- Its results are shown. -/
def Machine.Dev.runShown (d : Dev) (a : Nat) (codes : List Nat) (r : AdcRun) : Dev :=
  showResults a r.seq r.list.length (fun i => KV.get 0 ((r.list[i]?).getD 0) (d.runConverted a codes r).adc.codes) (d.runConverted a codes r)

/-- The words of the sequence: SEQ_COUNT with LATE, LEN and TGEN, and STAMP. -/
def Machine.Dev.runCounted (d : Dev) (a : Nat) (r : AdcRun) : Dev :=
  ((((d.setFld (Rg.Adcr.SEQ_COUNT a r.seq) ((d.fld (Rg.Adcr.SEQ_COUNT a r.seq) + 1) % 65536)).setFld (Rg.Adcr.LATE a r.seq) (b2n r.late)).setFld
    (Rg.Adcr.LEN a r.seq) r.list.length).setFld (Rg.Adcr.TGEN a r.seq) r.tgen).setFld (Rg.Adcr.STAMP a r.seq) r.stamp

theorem Dev.runEnds_eq (d : Dev) (a : Nat) (codes : List Nat) (r : AdcRun) :
    d.runEnds a codes r =
      ((((d.runShown a codes r).runCounted a r).setFldBit (Rg.Adcr.IRQ a) r.seq true).setConv a fun c => { c with run := none }).showConv a := rfl

theorem Dev.fld_setFldBit_other (d : Dev) {f g : Field} (i : Nat) (b : Bool) (h : g.addr ≠ f.addr) : (d.setFldBit f i b).fld g = d.fld g := by
  unfold Dev.setFldBit
  exact Dev.fld_setFld_other _ _ h

/-- The interrupt word and the converter's state stand before the words of the sequences. -/
theorem Dev.fld_runEnds (d : Dev) (a : Nat) (codes : List Nat) (r : AdcRun) {g : Field} (h : 0x10C00100 + 0x1000 * a ≤ g.addr) :
    (d.runEnds a codes r).fld g = ((d.runShown a codes r).runCounted a r).fld g := by
  rw [Dev.runEnds_eq, Dev.fld_showConv _ (by simp only [Rg.Adcr.BUSY]; omega)]
  rw [Dev.fld_setConv, Dev.fld_setFldBit_other _ _ _ (by simp only [Rg.Adcr.IRQ]; omega)]

theorem Dev.runCounted_flds (d : Dev) (a : Nat) (r : AdcRun) :
    (d.runCounted a r).fld (Rg.Adcr.SEQ_COUNT a r.seq) = (d.fld (Rg.Adcr.SEQ_COUNT a r.seq) + 1) % 65536 ∧
      (d.runCounted a r).fld (Rg.Adcr.LEN a r.seq) = r.list.length % 2 ^ 5 ∧ (d.runCounted a r).fld (Rg.Adcr.STAMP a r.seq) = r.stamp % 2 ^ 32 := by
  have hstamp (x : Dev) (g : Field) (hg : g.addr = (Rg.Adcr.LEN a r.seq).addr) : (x.setFld (Rg.Adcr.STAMP a r.seq) r.stamp).fld g = x.fld g :=
    Dev.fld_setFld_other _ _ (by rw [hg]; simp only [Rg.Adcr.STAMP, Rg.Adcr.LEN]; omega)
  have hgen (x : Dev) (g : Field) (hg : Beside (Rg.Adcr.TGEN a r.seq) g) := Dev.fld_setFld_of_beside x r.tgen hg
  have hlen (x : Dev) (g : Field) (hg : Beside (Rg.Adcr.LEN a r.seq) g) := Dev.fld_setFld_of_beside x r.list.length hg
  have hlate (x : Dev) (g : Field) (hg : Beside (Rg.Adcr.LATE a r.seq) g) := Dev.fld_setFld_of_beside x (b2n r.late) hg
  unfold Dev.runCounted
  refine ⟨?_, ?_, Dev.fld_setFld_of_fits _ _ ⟨rfl, rfl⟩⟩
  · rw [hstamp _ (Rg.Adcr.SEQ_COUNT a r.seq) rfl, hgen _ (Rg.Adcr.SEQ_COUNT a r.seq) ⟨rfl, rfl, rfl⟩,
      hlen _ (Rg.Adcr.SEQ_COUNT a r.seq) ⟨rfl, rfl, rfl⟩, hlate _ (Rg.Adcr.SEQ_COUNT a r.seq) ⟨rfl, rfl, rfl⟩,
      Dev.fld_setFld_of_fits (f := Rg.Adcr.SEQ_COUNT a r.seq) (w := 16) _ _ ⟨rfl, rfl⟩]
    exact Nat.mod_mod ..
  · rw [hstamp _ (Rg.Adcr.LEN a r.seq) rfl, hgen _ (Rg.Adcr.LEN a r.seq) ⟨rfl, rfl, rfl⟩,
      Dev.fld_setFld_of_fits (f := Rg.Adcr.LEN a r.seq) (w := 5) _ _ ⟨rfl, rfl⟩]

theorem Dev.fld_runCounted (d : Dev) (a : Nat) (r : AdcRun) {g : Field} (h : (Rg.Adcr.STAMP a r.seq).addr < g.addr) :
    (d.runCounted a r).fld g = d.fld g := by
  simp only [Rg.Adcr.STAMP] at h
  unfold Dev.runCounted
  rw [Dev.fld_setFld_other, Dev.fld_setFld_other, Dev.fld_setFld_other, Dev.fld_setFld_other, Dev.fld_setFld_other]
  all_goals simp only [Rg.Adcr.STAMP, Rg.Adcr.TGEN, Rg.Adcr.LEN, Rg.Adcr.LATE, Rg.Adcr.SEQ_COUNT]; omega

/-- The run's end: the converter is idle unless a start waits, the sequence's words count and show the run. -/
theorem Dev.runEnds_adc (d : Dev) (a : Nat) (codes : List Nat) (r : AdcRun) :
    (d.runEnds a codes r).conv a = ⟨none, (d.conv a).pending⟩ ∧ (d.runEnds a codes r).adc.codes = (d.runConverted a codes r).adc.codes := by
  have hshown : (d.runShown a codes r).adc = (d.runConverted a codes r).adc := showResults_adc ..
  have hadc : (((d.runShown a codes r).runCounted a r).setFldBit (Rg.Adcr.IRQ a) r.seq true).adc = (d.runConverted a codes r).adc := by
    rw [Dev.setFldBit_adc, Dev.runCounted, Dev.setFld_adc, Dev.setFld_adc, Dev.setFld_adc, Dev.setFld_adc, Dev.setFld_adc, hshown]
  have hconv : (((d.runShown a codes r).runCounted a r).setFldBit (Rg.Adcr.IRQ a) r.seq true).conv a = d.conv a := by
    rw [Dev.conv, hadc, Dev.runConverted_convs]
    rfl
  rw [Dev.runEnds_eq]
  refine ⟨?_, ?_⟩
  · rw [Dev.conv_congr (Dev.showConv_adc ..), Dev.conv_setConv_same, hconv]
  · rw [Dev.showConv_adc, Dev.setConv_codes, hadc]

theorem Dev.runEnds_flds {d : Dev} {a : Nat} {r : AdcRun} (codes : List Nat) {c : Nat} (ha : a < 2) (hs : r.seq < 8) (hhead : r.list.head? = some c)
    (hlen : r.list.length ≤ 24) :
    (d.runEnds a codes r).fld (Rg.Adcr.BUSY a) = 0 ∧
      (d.runEnds a codes r).fld (Rg.Adcr.SEQ_COUNT a r.seq) = (d.fld (Rg.Adcr.SEQ_COUNT a r.seq) + 1) % 65536 ∧
      (d.runEnds a codes r).fld (Rg.Adcr.LEN a r.seq) = r.list.length ∧ (d.runEnds a codes r).fld (Rg.Adcr.STAMP a r.seq) = r.stamp % 2 ^ 32 ∧
      (d.runEnds a codes r).fld (Rg.Adcr.RESULT_EVEN a r.seq 0) = KV.get 0 c (d.runEnds a codes r).adc.codes % 65536 := by
  obtain ⟨hcount, hlength, hstamp⟩ := Dev.runCounted_flds (d.runShown a codes r) a r
  have hcountBefore : (d.runShown a codes r).fld (Rg.Adcr.SEQ_COUNT a r.seq) = d.fld (Rg.Adcr.SEQ_COUNT a r.seq) := by
    rw [Dev.runShown, fld_showResults _ _ _ _ _ (by simp only [Rg.Adcr.SEQ_COUNT]; omega),
      Dev.fld_runConverted _ _ _ _ (by simp only [Rg.Adcr.SEQ_COUNT]; omega)]
  obtain ⟨rest, hlist⟩ : ∃ rest, r.list = c :: rest := List.head?_eq_some_iff.1 hhead
  refine ⟨?_, ?_, ?_, ?_, ?_⟩
  · rw [Dev.runEnds_eq, Dev.showConv_busy, Dev.conv_setConv_same]
    rfl
  · rw [Dev.fld_runEnds _ _ _ _ (by simp only [Rg.Adcr.SEQ_COUNT]; omega), hcount, hcountBefore]
  · rw [Dev.fld_runEnds _ _ _ _ (by simp only [Rg.Adcr.LEN]; omega), hlength, Nat.mod_eq_of_lt (by omega)]
  · rw [Dev.fld_runEnds _ _ _ _ (by simp only [Rg.Adcr.STAMP]; omega), hstamp]
  · rw [Dev.fld_runEnds _ _ _ _ (by simp only [Rg.Adcr.RESULT_EVEN]; omega),
      Dev.fld_runCounted _ _ _ (by simp only [Rg.Adcr.STAMP, Rg.Adcr.RESULT_EVEN]; omega), (Dev.runEnds_adc d a codes r).2, Dev.runShown, hlist,
      List.length_cons, showResults_first]
    rfl

/-- Nothing waits for the end of the run, and no start waits. -/
theorem adcRunCompleteOp_of_quiet {d : Dev} {a : Nat} {codes : List Nat} {r : AdcRun} (ha : a < 2) (hrun : (d.conv a).run = some r)
    (hpending : (d.conv a).pending = []) (hquiet : ((List.range 48).all fun i => (KV.find (0x4110 + i) d.d0.applying).isNone) = true) :
    adcRunCompleteOp a codes d = d.runEnds a codes r := by
  have hnone {i : Nat} (hi : i < 48) : KV.find (0x4110 + i) d.d0.applying = none :=
    Option.isNone_iff_eq_none.1 (List.all_eq_true.1 hquiet i (List.mem_range.2 hi))
  have hd0 : (d.runEnds a codes r).d0 = d.d0 := (Dev.runEnds_only ..).keep .d0 (by decide)
  have htake : ((((List.range 8).map (0x4110 + 8 * a + ·)) ++ (List.range 16).map (0x4130 + ·)).foldl (fun d i => applyTakeEffectOp i d)
      (d.runEnds a codes r)) = d.runEnds a codes r := by
    refine List.foldlRecOn (motive := fun x => x = d.runEnds a codes r) _ _ rfl fun x hx i hi => ?_
    obtain ⟨j, hj, rfl⟩ : ∃ j < 48, i = 0x4110 + j := by
      simp only [List.mem_append, List.mem_map, List.mem_range] at hi
      rcases hi with ⟨j, hj, rfl⟩ | ⟨j, hj, rfl⟩
      · exact ⟨8 * a + j, by omega, by omega⟩
      · exact ⟨0x20 + j, by omega, by omega⟩
    rw [hx, applyTakeEffectOp, hd0, hnone hj]
  rw [adcRunCompleteOp, hrun]
  dsimp only
  rw [htake, Dev.nextRun, (Dev.runEnds_adc ..).1, hpending]

/-! ### Shunts (R313) -/

theorem bit_setBit_true (x i : Nat) : bit (setBit x i true) i = true := by
  have h := bits_setBits_same (x := x) (hi := i) (lo := i) (v := 1) (Nat.le_refl i)
  have hone : i + 1 - i = 1 := by omega
  rw [bits, hone] at h
  rw [bit, setBit, if_pos rfl]
  exact beq_iff_eq.2 h

/-- The flags of an input are those of the last conversion, cut to their width. -/
theorem Dev.inputFlags_get (d : Dev) (a i new : Nat) : (d.inputFlags a i new).get (Ent.Ain.FLAGS i) = new % 2 ^ 8 := by
  have hkey : (Ent.Ain.FLAGS i).key ∉ logKeys := key_notMem_logKeys (sub := 3) rfl (by decide)
  unfold Dev.inputFlags
  dsimp only
  split
  · exact Dev.get_put_same ..
  · exact ((Announces.limited 0 _ _ _ _ _ _).get _ hkey).trans (Dev.get_put_same ..)

theorem shuntOpenOp_opens {d : Dev} {i : Nat} (hrange : d.get (Ent.Ain.RANGE i) = 2) (hclosed : KV.find i d.adc.shuntOpen = none) :
    KV.find i (shuntOpenOp i d).adc.shuntOpen = some d.time.raw ∧ bit ((shuntOpenOp i d).get (Ent.Ain.FLAGS i)) 2 = true := by
  rw [shuntOpenOp, if_pos ⟨hrange, by rw [hclosed]; rfl⟩]
  refine ⟨?_, ?_⟩
  · rw [Dev.inputFlags_adc]
    exact KV.find_insert_same ..
  · rw [Dev.inputFlags_get]
    have hbit := bit_setBit_true (d.get (Ent.Ain.FLAGS i)) 2
    simp only [bit, beq_iff_eq] at hbit ⊢
    omega

theorem shuntCloseOp_closes {d : Dev} {i t : Nat} (hopen : KV.find i d.adc.shuntOpen = some t) (hpast : d.passed t 1000000000 = true) :
    KV.find i (shuntCloseOp i d).adc.shuntOpen = none := by
  have hdue : (KV.find i d.adc.shuntOpen).any (d.passed · 1000000000) = true := by
    rw [hopen, Option.any_some, hpast]
  rw [shuntCloseOp, if_pos hdue]
  exact KV.find_erase_same ..

/-! ### Debug (R341) -/

theorem Dev.hart_swdtFollow (d : Dev) (k : Nat) : d.swdtFollow.hart k = d.hart k := (Dev.swdtFollow_only d).hart_eq (by decide) k

theorem debugHaltOp_hart {d : Dev} {k : Nat} (hact : d.mayAct k = true) : (debugHaltOp k d).hart k = { d.hart k with halted := true } := by
  rw [debugHaltOp, if_pos hact, Dev.hart_swdtFollow, Dev.hart_setHart_same]

theorem debugResumeOp_hart {d : Dev} {k : Nat} (hact : d.mayAct k = true) :
    (debugResumeOp k d).hart k = { d.hart k with halted := false, regs := [] } := by
  rw [debugResumeOp, if_pos hact, Dev.hart_swdtFollow, Dev.hart_setHart_same]

theorem debugStepOp_hart {d : Dev} {k : Nat} (hact : d.mayAct k = true) (hhalt : (d.hart k).halted = true) :
    (debugStepOp k d).hart k = { d.hart k with regs := [] } := by
  rw [debugStepOp, if_pos (by rw [hact, hhalt]; rfl), Dev.hart_setHart_same]

theorem accessRegisterOp_write {d : Dev} {k : Nat} (reg v : Nat) (hact : d.mayAct k = true) (hhalt : (d.hart k).halted = true) :
    KV.find reg ((accessRegisterOp k reg (some v) d).hart k).regs = some (v % 2 ^ (if k < 4 then 64 else 32)) ∧
      (accessRegisterOp k reg (some v) d).out = d.out ++ [.answer .ok 0] := by
  rw [accessRegisterOp, if_pos (by rw [hact, hhalt]; rfl)]
  refine ⟨?_, rfl⟩
  have hanswer (x : Dev) : (x.answer .ok).hart k = x.hart k := rfl
  dsimp only
  rw [hanswer, Dev.hart_setHart_same]
  exact KV.find_insert_same ..

theorem accessRegisterOp_read {d : Dev} {k reg v : Nat} (hact : d.mayAct k = true) (hhalt : (d.hart k).halted = true)
    (hknown : KV.find reg (d.hart k).regs = some v) : accessRegisterOp k reg none d = d.answer .ok v := by
  rw [accessRegisterOp, if_pos (by rw [hact, hhalt]; rfl)]
  dsimp only
  rw [hknown]

/-- Settles O24. -/
theorem analogAndDebugCommands : Obligations.AnalogAndDebugCommands := by
  unfold Obligations.AnalogAndDebugCommands
  intro s hlive
  refine ⟨?start, ?complete, ?shuntOpen, ?shuntClose, ?halt, ?resume, ?step, ?write, ?read⟩
  case start =>
    rintro a v i ha hi rfl hon hidle
    have heq : adcStartOp a (2 ^ i) s.dev.fresh = (s.dev.fresh.beginRun a i false).answer .ok := by
      rw [adcStartOp_of_one hi, Dev.startSeq_of_idle (d := s.dev.fresh) i hon hidle]
    obtain ⟨hbusy, hrunning⟩ := Dev.beginRun_shows s.dev.fresh a hi
    have hrun : ((((s.dev.fresh.beginRun a i false).answer .ok).conv a).run) = some (s.dev.fresh.started a i) := by
      rw [Dev.conv_answer, Dev.beginRun_conv]
    refine (gives_iff_of_onDev (f := adcStartOp a (2 ^ i)) rfl hlive).2 ⟨?_, ?_, ?_, ?_, Only.of_fresh (adcStartOp_only ..)⟩
    · rw [heq, hrun]
      rfl
    · rw [heq, Dev.fld_answer, hbusy]
    · rw [heq, Dev.fld_answer, hrunning]
    · rw [heq]
      exact Dev.mem_out_answer ..
  case complete =>
    intro a c codes r ha hrun hpending hs hhead hlen hquiet
    have heq : adcRunCompleteOp a codes s.dev.fresh = s.dev.fresh.runEnds a codes r := adcRunCompleteOp_of_quiet ha hrun hpending hquiet
    obtain ⟨hbusy, hcount, hlength, hstamp, hresult⟩ := Dev.runEnds_flds (d := s.dev.fresh) codes ha hs hhead hlen
    refine (gives_iff_of_onDev (f := adcRunCompleteOp a codes) rfl hlive).2 ?_
    rw [heq]
    refine ⟨?_, hbusy, hcount, hlength, hstamp, hresult, heq ▸ Only.of_fresh (adcRunCompleteOp_only ..)⟩
    rw [(Dev.runEnds_adc ..).1]
    exact congrArg _ hpending
  case shuntOpen =>
    intro i hi hrange hclosed
    obtain ⟨hopen, hflag⟩ := shuntOpenOp_opens (d := s.dev.fresh) hrange hclosed
    exact (gives_iff_of_onDev (f := shuntOpenOp i) rfl hlive).2 ⟨hopen, hflag, Only.of_fresh (shuntOpenOp_only ..)⟩
  case shuntClose =>
    intro i t hopen hpast
    exact (gives_iff_of_onDev (f := shuntCloseOp i) rfl hlive).2
      ⟨shuntCloseOp_closes (d := s.dev.fresh) hopen hpast, Only.of_fresh (shuntCloseOp_only ..)⟩
  case halt =>
    intro k hact
    exact (gives_iff_of_onDev (f := debugHaltOp k) rfl hlive).2 ⟨debugHaltOp_hart (d := s.dev.fresh) hact, Only.of_fresh (debugHaltOp_only ..)⟩
  case resume =>
    intro k hact
    exact (gives_iff_of_onDev (f := debugResumeOp k) rfl hlive).2
      ⟨debugResumeOp_hart (d := s.dev.fresh) hact, Only.of_fresh (debugResumeOp_only ..)⟩
  case step =>
    intro k hact hhalt
    exact (gives_iff_of_onDev (f := debugStepOp k) rfl hlive).2
      ⟨debugStepOp_hart (d := s.dev.fresh) hact hhalt, Only.of_fresh (debugStepOp_only ..)⟩
  case write =>
    intro k reg v hact hhalt
    obtain ⟨hreg, hout⟩ := accessRegisterOp_write (d := s.dev.fresh) reg v hact hhalt
    exact (gives_iff_of_onDev (f := accessRegisterOp k reg (some v)) rfl hlive).2 ⟨hreg, hout, Only.of_fresh (accessRegisterOp_only ..)⟩
  case read =>
    intro k reg v hact hhalt hknown
    have heq : accessRegisterOp k reg none s.dev.fresh = s.dev.fresh.answer .ok v := accessRegisterOp_read hact hhalt hknown
    refine (gives_iff_of_onDev (f := accessRegisterOp k reg none) rfl hlive).2 ⟨?_, Only.of_fresh (accessRegisterOp_only ..)⟩
    rw [heq]
    rfl

end Sys2Proof

/-! SUPPORT. Online changes and forces (R261 to R277): what each step shows of the engine, and which change it keeps. -/

namespace Sys2Proof

open Sys2Proof.Machine

/-! ### What the engine shows -/

/-- The entries in which an online change and the forces show themselves. -/
def engineShows : List Entry := [Ent.Chg.CHANGE_STATE, Ent.Chg.CHANGE_STATUS, Ent.Se.STATE, Ent.Frc.FORCE_COUNT]

/-- Steps whose footprint names none of them: messages, events, answers. -/
theorem Only.get_engineShows {F : Foot} {a b : Dev} {e : Entry} (h : Only F a b) (he : e ∈ engineShows) (hdict : Part.dict ∉ F.parts := by decide)
    (hents : (engineShows.all fun e => F.ents.all fun f => f.misses e.sub || decide (0x5000 * 256 ≤ f.base)) = true := by decide) :
    b.get e = a.get e :=
  h.get_eq_before hdict rfl (of_decide_eq_true (List.all_eq_true.1 (by decide : engineShows.all (fun e => decide (e.key < 0x5000 * 256)) = true) e he))
    (List.all_eq_true.1 hents e he)

theorem Only.scan_eq {F : Foot} {a b : Dev} (h : Only F a b) (hscan : Part.scan ∉ F.parts := by decide) : b.scan = a.scan := h.keep .scan hscan

/-- Two devices show the same of the engine and keep the same change and forces. -/
structure SameEngine (a b : Dev) : Prop where
  get : ∀ e ∈ engineShows, b.get e = a.get e
  scan : b.scan = a.scan

theorem SameEngine.refl (a : Dev) : SameEngine a a := ⟨fun _ _ => rfl, rfl⟩

theorem SameEngine.trans {a b c : Dev} (hab : SameEngine a b) (hbc : SameEngine b c) : SameEngine a c :=
  ⟨fun e he => (hbc.get e he).trans (hab.get e he), hbc.scan.trans hab.scan⟩

theorem Only.sameEngine {F : Foot} {a b : Dev} (h : Only F a b) (hdict : Part.dict ∉ F.parts := by decide)
    (hents : (engineShows.all fun e => F.ents.all fun f => f.misses e.sub || decide (0x5000 * 256 ≤ f.base)) = true := by decide)
    (hscan : Part.scan ∉ F.parts := by decide) : SameEngine a b :=
  ⟨fun _ he => h.get_engineShows he hdict hents, h.scan_eq hscan⟩

theorem SameEngine.state {a b : Dev} (h : SameEngine a b) : b.get Ent.Chg.CHANGE_STATE = a.get Ent.Chg.CHANGE_STATE := h.get _ (by decide)
theorem SameEngine.status {a b : Dev} (h : SameEngine a b) : b.get Ent.Chg.CHANGE_STATUS = a.get Ent.Chg.CHANGE_STATUS := h.get _ (by decide)
theorem SameEngine.engine {a b : Dev} (h : SameEngine a b) : b.engine = a.engine := h.get Ent.Se.STATE (by decide)
theorem SameEngine.forceCount {a b : Dev} (h : SameEngine a b) : b.get Ent.Frc.FORCE_COUNT = a.get Ent.Frc.FORCE_COUNT := h.get _ (by decide)

theorem Dev.seEvent_sameEngine (d : Dev) (source code data : Nat) : SameEngine d (d.seEvent source code data) := (Dev.seEvent_only ..).sameEngine
theorem Dev.finish_sameEngine (d : Dev) (key : Nat) (s : Status) : SameEngine d (d.finish key s) := (Dev.finish_only ..).sameEngine

/-! ### Transitions of the engine -/

theorem Dev.setEngine_engine (d : Dev) {st : Nat} (h : st < 256) : (d.setEngine st).engine = st := by
  unfold Dev.setEngine
  dsimp only
  split
  · assumption
  · have hput : ((d.put Ent.Se.STATE st).seEvent srcEngine 0x0020 (d.engine * 256 + st)).engine = st := by
      rw [(Dev.seEvent_sameEngine ..).engine, Dev.engine, Dev.get_put_same]
      exact Nat.mod_eq_of_lt h
    split
    · rw [((Dev.eventRing_only ..).sameEngine).engine, hput]
    · exact hput

/-- A transition leaves the other entries. -/
theorem Dev.get_setEngine (d : Dev) (st : Nat) {e : Entry} (he : e ∈ engineShows) (hne : e.key ≠ Ent.Se.STATE.key) : (d.setEngine st).get e = d.get e := by
  unfold Dev.setEngine
  dsimp only
  split
  · rfl
  · split
    · rw [((Dev.eventRing_only ..).sameEngine).get e he, (Dev.seEvent_sameEngine ..).get e he, Dev.get_put_other _ _ hne]
    · rw [(Dev.seEvent_sameEngine ..).get e he, Dev.get_put_other _ _ hne]

theorem Dev.scan_setEngine (d : Dev) (st : Nat) : (d.setEngine st).scan = d.scan := (Dev.setEngine_only d st).scan_eq

/-! ### The end of a change -/

theorem changeCounter_get (d : Dev) {i : Nat} (hi : i < 2) {e : Entry} (he : e ∈ engineShows) : (d.count (changeCounter i)).get e = d.get e := by
  have hkeys : ∀ i < 2, ∀ e ∈ engineShows, e.key ≠ (changeCounter i).entry.key ∧ e.key ≠ (changeCounter i).satEntry.key ∧ e.key ∉ logKeys := by
    decide
  obtain ⟨hentry, hsat, hlog⟩ := hkeys i hi e he
  exact Dev.count_get_other d _ _ _ _ 1 hentry hsat hlog

theorem Dev.count_scan (d : Dev) (c : Counter) (n : Nat) : (d.count c n).scan = d.scan := by
  obtain ⟨k, l, h⟩ := d.count_logged c n
  rw [h]

theorem Dev.changeEnd_flds {d : Dev} {c : Change} (s : Status) (hc : d.scan.change = some c) :
    (d.changeEnd s).get Ent.Chg.CHANGE_STATE = 0 ∧ (d.changeEnd s).get Ent.Chg.CHANGE_STATUS = s.code * 65536 % 2 ^ 32 ∧
      (d.changeEnd s).scan.change = none := by
  have hi : (if s = .ok then 0 else 1) < 2 := by split <;> decide
  have hring (x : Dev) (v : Nat) := (Dev.eventRing_only x 0 srcEngine 0x002A v none).sameEngine
  unfold Dev.changeEnd
  rw [hc]
  dsimp only
  refine ⟨?_, ?_, ?_⟩
  · rw [(hring ..).state, (Dev.seEvent_sameEngine ..).state, changeCounter_get _ hi (by decide), Dev.get_put_other _ _ (by decide), Dev.get_put_same]
    rfl
  · rw [(hring ..).status, (Dev.seEvent_sameEngine ..).status, changeCounter_get _ hi (by decide), Dev.get_put_same]
    rfl
  · rw [(hring ..).scan, (Dev.seEvent_sameEngine ..).scan, Dev.count_scan]
    rfl

/-- A change before its switch is dropped: the engine runs on. -/
theorem Dev.dropChange_flds {d : Dev} {c : Change} (s : Status) (hc : d.scan.change = some c) (hlo : 1 ≤ d.get Ent.Chg.CHANGE_STATE)
    (hhi : d.get Ent.Chg.CHANGE_STATE ≤ 3) :
    (d.dropChange s).get Ent.Chg.CHANGE_STATE = 0 ∧ (d.dropChange s).get Ent.Chg.CHANGE_STATUS = s.code * 65536 % 2 ^ 32 ∧ (d.dropChange s).engine = 2 ∧
      (d.dropChange s).scan.change = none := by
  obtain ⟨hstate, hstatus, hchange⟩ := Dev.changeEnd_flds s hc
  rw [Dev.dropChange, if_pos ⟨hlo, hhi⟩, Dev.get_setEngine _ _ (by decide) (by decide), Dev.get_setEngine _ _ (by decide) (by decide),
    Dev.setEngine_engine _ (by decide), Dev.scan_setEngine]
  exact ⟨hstate, hstatus, rfl, hchange⟩

/-! ### The preparation (R263) -/

theorem Dev.prepareChange_flds (d : Dev) (new : Bytes) (word : Nat) (twin : Bool) {st : Nat} (hst : st < 256) :
    (d.prepareChange new word twin st).get Ent.Chg.CHANGE_STATE = st ∧ (d.prepareChange new word twin st).engine = 5 ∧
      (d.prepareChange new word twin st).scan.change.map (fun c => (c.image, c.word)) = some (new, word) := by
  unfold Dev.prepareChange
  dsimp only
  refine ⟨?_, ?_, ?_⟩
  · rw [(Dev.seEvent_sameEngine ..).state, Dev.get_put_same]
    exact Nat.mod_eq_of_lt hst
  · rw [(Dev.seEvent_sameEngine ..).engine, Dev.engine, Dev.get_put_other _ _ (by decide)]
    exact Dev.setEngine_engine _ (by decide)
  · rw [(Dev.seEvent_sameEngine ..).scan, Dev.put_scan, Dev.scan_setEngine]
    rfl

theorem changeStartOp_flds {d : Dev} {v : Nat} {img : Bytes} (hop : bits v 3 0 = 1) (hlow : bits v 7 4 = 0) (hhigh : bits v 15 9 = 0) (hrole : d.role = 0)
    (himg : KV.find Ent.Seimg.ALT_IMAGE.key d.blobs = some img) (hcheck : d.changeCheck (some img) (bit v 8) false = none) :
    (changeStartOp v d).get Ent.Chg.CHANGE_STATE = 3 ∧ (changeStartOp v d).engine = 5 ∧
      (changeStartOp v d).scan.change.map (fun c => (c.image, c.word)) = some (img, v) := by
  have hsolo : (d.role = 1) = False := by simp [hrole]
  obtain ⟨hstate, hengine, hchange⟩ :=
    Dev.prepareChange_flds ((d.put Ent.Chg.CHANGE_STATUS 0).putOct Ent.Chg.CHANGE_RESULT []) img v false (st := 3) (by decide)
  have heq : changeStartOp v d =
      ((((d.put Ent.Chg.CHANGE_STATUS 0).putOct Ent.Chg.CHANGE_RESULT []).prepareChange img v false 3).finish Ent.Chg.CHANGE.key .ok) := by
    rw [changeStartOp, if_neg (by simp [hop, hlow, hhigh]), himg]
    dsimp only
    rw [hcheck]
    simp only [hsolo, decide_false, if_false, Option.getD_some]
  rw [heq, (Dev.finish_sameEngine ..).state, (Dev.finish_sameEngine ..).engine, (Dev.finish_sameEngine ..).scan]
  exact ⟨hstate, hengine, hchange⟩

theorem standbyChangeReceiveOp_flds {d : Dev} {word : Nat} {img : Bytes} (hrole : d.role = 2)
    (hcheck : d.changeCheck (some img) (bit word 8) true = none) :
    (standbyChangeReceiveOp word img d).get Ent.Chg.CHANGE_STATE = 3 ∧ (standbyChangeReceiveOp word img d).engine = 5 ∧
      (standbyChangeReceiveOp word img d).scan.change.map (fun c => (c.image, c.word)) = some (img, word) := by
  obtain ⟨hstate, hengine, hchange⟩ := Dev.prepareChange_flds d img word true (st := 3) (by decide)
  have hready : SameEngine (d.prepareChange img word true 3) ((d.prepareChange img word true 3).sendReady .ok) := (Dev.sendReady_only ..).sameEngine
  have heq : standbyChangeReceiveOp word img d = (d.prepareChange img word true 3).sendReady .ok := by
    rw [standbyChangeReceiveOp, if_neg (not_not.2 hrole), hcheck]
  rw [heq, hready.state, hready.engine, hready.scan]
  exact ⟨hstate, hengine, hchange⟩

/-! ### The switch (R267) -/

theorem Only.oct_eq_before {F : Foot} {a b : Dev} {e : Entry} {sub bound : Nat} (h : Only F a b) (hblobs : Part.blobs ∉ F.parts) (hsub : e.sub = sub)
    (hbound : e.key < bound) (hents : F.ents.all (fun f => f.misses sub || decide (bound ≤ f.base)) = true) : b.oct e = a.oct e := by
  subst hsub
  have hfind : KV.find e.key b.blobs = KV.find e.key a.blobs := by
    refine h.keep .blobs hblobs e.key fun f hf hhas => ?_
    have hcase := List.all_eq_true.1 hents f hf
    rw [Bool.or_eq_true, decide_eq_true_eq] at hcase
    rcases hcase with hmiss | hlater
    · exact Fam.not_has_of_misses hmiss hhas
    · exact absurd (Fam.base_le_of_has hhas) (by omega)
  rw [Dev.oct, Dev.oct, hfind]

/-- What the switch leaves to be seen: the new image, its ID, RUN and CHANGE_STATE 4. -/
structure Switched (c : Change) (d : Dev) : Prop where
  image : d.image = c.image
  id : d.get Ent.Se.ACTIVE_ID = imgId c.image
  engine : d.engine = 2
  state : d.get Ent.Chg.CHANGE_STATE = 4

/-- The run of a task whose event trigger waited begins. -/
theorem Switched.snapshot {c : Change} {d : Dev} (h : Switched c d) (t n : Nat) : Switched c (d.snapshot t n) := by
  have hkeeps := Dev.snapshot_only d t n
  have hget {e : Entry} (sub : Nat) (hsub : e.sub = sub) (hkey : e.key < 0x5000 * 256)
      (hents : foot31.ents.all (fun f => f.misses sub || decide (0x5000 * 256 ≤ f.base)) = true) : (d.snapshot t n).get e = d.get e :=
    hkeeps.get_eq_before (by decide) hsub hkey hents
  obtain ⟨himage, hid, hengine, hstate⟩ := h
  exact ⟨(hkeeps.oct_eq_before (sub := 2) (bound := 0x5000 * 256) (by decide) rfl (by decide) (by decide)).trans himage,
    (hget 5 rfl (by decide) (by decide)).trans hid, (hget 2 rfl (by decide) (by decide)).trans hengine,
    (hget 2 rfl (by decide) (by decide)).trans hstate⟩

theorem ofLe_lt (b : Bytes) : ofLe b < 256 ^ b.length := by
  induction b with
  | nil => decide
  | cons x b ih =>
    have hx : x.toNat < 2 ^ 8 := x.isLt
    rw [ofLe, List.length_cons, pow_succ]
    omega

theorem imgId_lt (b : Bytes) : imgId b < 2 ^ 32 := by
  have hlen : (slice b 12 4).length = 4 := by simp [slice]
  have := ofLe_lt (slice b 12 4)
  rw [hlen] at this
  exact this

/-- A transition writes no image. -/
theorem Dev.image_setEngine (d : Dev) (st : Nat) : (d.setEngine st).image = d.image := by
  have hevent (x : Dev) (v : Nat) : (x.seEvent srcEngine 0x0020 v).image = x.image :=
    (Dev.seEvent_only ..).oct_eq_before (sub := 2) (bound := 0x5000 * 256) (by decide) rfl (by decide) (by decide)
  have hring (x : Dev) (v : Nat) : (x.eventRing 0 srcEngine 0x0020 v).image = x.image :=
    (Dev.eventRing_only ..).oct_eq_before (sub := 2) (bound := 0x5000 * 256) (by decide) rfl (by decide) (by decide)
  unfold Dev.setEngine
  dsimp only
  split
  · rfl
  · split
    · rw [hring, hevent]
      rfl
    · rw [hevent]
      rfl

theorem Dev.switchImage_switched (d : Dev) (c : Change) : Switched c (d.switchImage c) := by
  unfold Dev.switchImage
  dsimp only
  refine List.foldlRecOn (motive := Switched c) _ _ ⟨?_, ?_, ?_, ?_⟩ fun x hx p _ => hx.snapshot p.1 p.2
  · have hput (x : Dev) (e : Entry) (v : Nat) : (x.put e v).image = x.image := rfl
    have hscan (x : Dev) (f : ScanSt → ScanSt) : (x.setScan f).image = x.image := rfl
    rw [hput, Dev.image_setEngine, hscan, hput]
    exact Dev.oct_putOct_same ..
  · have hset (x : Dev) : (x.setEngine 2).get Ent.Se.ACTIVE_ID = x.get Ent.Se.ACTIVE_ID :=
      (Dev.setEngine_only x 2).get_eq_before (sub := 5) (bound := 0x5000 * 256) (by decide) rfl (by decide) (by decide)
    rw [Dev.get_put_other _ _ (by decide), hset, Dev.get_setScan, Dev.get_put_same]
    exact Nat.mod_eq_of_lt (imgId_lt _)
  · rw [Dev.engine, Dev.get_put_other _ _ (by decide)]
    exact Dev.setEngine_engine _ (by decide)
  · exact Dev.get_put_same ..

/-- The active switches at a common boundary (R264). -/
theorem changeSwitchOp_of_boundary {d : Dev} {c : Change} (hc : d.scan.change = some c) (hstate : d.get Ent.Chg.CHANGE_STATE = 3) (hrole : d.role < 2)
    (hboundary : d.boundary (changeEst d.image c.image) = true) :
    changeSwitchOp d = (if c.twin then d.sendCommit d.nextInstant else d).switchImage c := by
  rw [changeSwitchOp, hc]
  dsimp only
  rw [if_neg (not_not.2 hstate), if_neg (by omega), if_pos hboundary]

/-- The standby switches once COMMIT has named an instant that it meets (R276). -/
theorem changeSwitchOp_of_commit {d : Dev} {c : Change} {i : Nat} (hc : d.scan.change = some c) (hi : c.commitAt = some i)
    (hstate : d.get Ent.Chg.CHANGE_STATE = 3) (hrole : d.role = 2) (hidle : d.allIdle = true) (hmeets : d.now + changeEst d.image c.image ≤ i) :
    changeSwitchOp d = d.switchImage c := by
  rw [changeSwitchOp, hc]
  dsimp only
  rw [if_neg (not_not.2 hstate), if_pos (.inl hrole), hi]
  dsimp only
  rw [hidle, if_neg (by decide), if_neg (Nat.not_lt.2 hmeets)]

theorem changeCommitReceiveOp_of_idle {d : Dev} {c : Change} {i : Nat} (hc : d.scan.change = some c) (hstate : d.get Ent.Chg.CHANGE_STATE = 3)
    (hrole : d.role = 2) (hidle : d.allIdle = true) (hmeets : d.now + changeEst d.image c.image ≤ i) :
    changeCommitReceiveOp i d =
      (d.setScan fun s => { s with change := some { c with commitAt := some i } }).switchImage { c with commitAt := some i } := by
  rw [changeCommitReceiveOp, hc]
  dsimp only
  rw [if_neg (by simp [hrole, hstate]), if_neg (Nat.not_lt.2 hmeets)]
  exact changeSwitchOp_of_commit rfl rfl hstate hrole hidle hmeets

/-! ### Forces (R271, R272) -/

/-- The force table has changed: its length is counted, and the forces are those that were set. -/
theorem Dev.forcesChanged_flds (d : Dev) (source code data : Nat) :
    ((d.forcesChanged).seEvent source code data).get Ent.Frc.FORCE_COUNT = d.scan.forces.length % 2 ^ 16 ∧
      ((d.forcesChanged).seEvent source code data).scan = d.scan := by
  have hput : ((d.put Ent.Frc.FORCE_COUNT d.scan.forces.length).put Ent.Frc.FORCE_GEN (d.get Ent.Frc.FORCE_GEN + 1)).get Ent.Frc.FORCE_COUNT =
      d.scan.forces.length % 2 ^ 16 := by
    rw [Dev.get_put_other _ _ (by decide), Dev.get_put_same]
    rfl
  refine ⟨?_, ?_⟩
  · rw [(Dev.seEvent_sameEngine ..).forceCount]
    unfold Dev.forcesChanged
    dsimp only
    split
    · rw [((Dev.post_only ..).sameEngine).forceCount]
      exact hput
    · exact hput
  · rw [(Dev.seEvent_sameEngine ..).scan, (Dev.forcesChanged_only d).scan_eq]

theorem KV.length_insert_le {α : Type} (k : Nat) (v : α) (m : KV α) : (KV.insert k v m).length ≤ m.length + 1 := by
  induction m with
  | nil => exact Nat.le_refl 1
  | cons x m ih =>
    obtain ⟨j, w⟩ := x
    rw [KV.insert]
    split_ifs <;> simp only [List.length_cons] <;> omega

theorem Dev.forceSet_takes {d : Dev} {b : Bytes} {v : VarRec} (hrole : d.role < 2) (hengine : d.engine ≠ 0) (hidle : d.get Ent.Chg.CHANGE_STATE = 0)
    (htag : leAt b 0 4 ≠ 0) (hv : ((imgVars d.image).find? fun x => x.tag == leAt b 0 4) = some v) (hty : v.ty = leAt b 4 2) (hsize : v.size ≤ 64)
    (hlen : leAt b 6 2 = v.size) (hroom : d.scan.forces.length < 256) :
    d.forceSet b = (.ok, ((d.setScan fun s => { s with forces := KV.insert (leAt b 0 4) (leAt b 4 2, slice b 8 v.size) s.forces }).forcesChanged).seEvent
      srcEngine 0x002B (leAt b 0 4)) := by
  have hopen : (d.forceClosed || d.engine == 0 || d.get Ent.Chg.CHANGE_STATE != 0) = false := by
    have h2 : d.role ≠ 2 := by omega
    have h3 : d.role ≠ 3 := by omega
    simp [Dev.forceClosed, h2, h3, hengine, hidle]
  rw [Dev.forceSet, hopen, if_neg Bool.false_ne_true, hv]
  dsimp only
  rw [if_neg htag, if_neg (not_not.2 hty), if_neg (by omega), if_neg (not_not.2 hlen), if_neg (by omega), hlen]

theorem Dev.forceClosed_of_role {d : Dev} (hrole : d.role < 2) : d.forceClosed = false := by
  have h2 : d.role ≠ 2 := by omega
  have h3 : d.role ≠ 3 := by omega
  simp [Dev.forceClosed, h2, h3]

theorem Dev.forceRelease_takes {d : Dev} {tag : Nat} (hrole : d.role < 2) (hforced : (KV.find tag d.scan.forces).isSome = true) :
    d.forceRelease tag = (.ok, ((d.setScan fun s => { s with forces := KV.erase tag s.forces }).forcesChanged).seEvent srcEngine 0x002C tag) := by
  have hsome : (KV.find tag d.scan.forces).isNone = false := by rw [← Option.not_isSome, hforced]; rfl
  rw [Dev.forceRelease, Dev.forceClosed_of_role hrole, if_neg Bool.false_ne_true, hsome, if_neg Bool.false_ne_true]

theorem Dev.forceReleaseAll_empties {d : Dev} (hrole : d.role < 2) : d.forceReleaseAll.2.scan.forces = [] ∧ d.forceReleaseAll.1 = .ok := by
  rw [Dev.forceReleaseAll, Dev.forceClosed_of_role hrole, if_neg Bool.false_ne_true]
  refine ⟨?_, rfl⟩
  dsimp only
  split
  · rw [(Dev.seEvent_sameEngine ..).scan]
    exact List.length_eq_zero_iff.1 ‹_›
  · rw [(Dev.forcesChanged_flds ..).2]
    rfl

/-! ### Timeouts (R270, R275) -/

theorem Dev.changeAged_of_passed {d : Dev} {c : Change} {ns : Nat} (hc : d.scan.change = some c) (hpast : d.passed c.since ns = true) :
    d.changeAged ns = true := by
  rw [Dev.changeAged, hc, Option.any_some, hpast]

theorem changeWindowTimeoutOp_drops {d : Dev} {c : Change} (hc : d.scan.change = some c) (hstate : d.get Ent.Chg.CHANGE_STATE = 3)
    (hpast : d.passed c.since d.changeWindow = true) : changeWindowTimeoutOp d = d.dropChange .wrongState :=
  if_pos ⟨hstate, Dev.changeAged_of_passed hc hpast⟩

theorem standbyReadyTimeoutOp_drops {d : Dev} {c : Change} (hc : d.scan.change = some c) (hstate : d.get Ent.Chg.CHANGE_STATE = 2)
    (hpast : d.passed c.since (d.get Ent.Chg.STANDBY_READY_MS * 1000000) = true) : standbyReadyTimeoutOp d = d.dropChange .remoteTimeout :=
  if_pos ⟨hstate, Dev.changeAged_of_passed hc hpast⟩

theorem changeStandbyReadyOp_state {d : Dev} (hstate : d.get Ent.Chg.CHANGE_STATE = 2) : (changeStandbyReadyOp true d).get Ent.Chg.CHANGE_STATE = 3 := by
  rw [changeStandbyReadyOp, if_neg (not_not.2 hstate), if_pos rfl, Dev.get_setScan, Dev.get_put_same]
  rfl

/-! ### The obligation -/

theorem answered_shows (r : Status × Dev) {e : Entry} : (answered r).get e = r.2.get e ∧ (answered r).scan = r.2.scan ∧ Out.answer r.1 0 ∈ (answered r).out :=
  ⟨rfl, rfl, Dev.mem_out_answer ..⟩

theorem forceSet_shows {d : Dev} {b : Bytes} {v : VarRec} (hrole : d.role < 2) (hengine : d.engine ≠ 0) (hidle : d.get Ent.Chg.CHANGE_STATE = 0)
    (htag : leAt b 0 4 ≠ 0) (hv : ((imgVars d.image).find? fun x => x.tag == leAt b 0 4) = some v) (hty : v.ty = leAt b 4 2) (hsize : v.size ≤ 64)
    (hlen : leAt b 6 2 = v.size) (hroom : d.scan.forces.length < 256) :
    KV.find (leAt b 0 4) (answered (d.forceSet b)).scan.forces = some (leAt b 4 2, slice b 8 v.size) ∧
      (answered (d.forceSet b)).get Ent.Frc.FORCE_COUNT = (answered (d.forceSet b)).scan.forces.length ∧
      Out.answer .ok 0 ∈ (answered (d.forceSet b)).out := by
  have hlength := KV.length_insert_le (leAt b 0 4) (leAt b 4 2, slice b 8 v.size) d.scan.forces
  obtain ⟨hcount, hscan⟩ := Dev.forcesChanged_flds
    (d.setScan fun x => { x with forces := KV.insert (leAt b 0 4) (leAt b 4 2, slice b 8 v.size) x.forces }) srcEngine 0x002B (leAt b 0 4)
  obtain ⟨hget, hkeep, hout⟩ := answered_shows (d.forceSet b) (e := Ent.Frc.FORCE_COUNT)
  rw [hget, hkeep]
  rw [Dev.forceSet_takes hrole hengine hidle htag hv hty hsize hlen hroom] at hout ⊢
  refine ⟨?_, ?_, hout⟩
  · rw [hscan]
    exact KV.find_insert_same ..
  · rw [hcount, hscan]
    exact Nat.mod_eq_of_lt (Nat.lt_of_le_of_lt hlength (by omega))

theorem forceRelease_shows {d : Dev} {tag : Nat} (hrole : d.role < 2) (hforced : (KV.find tag d.scan.forces).isSome = true) :
    KV.find tag (answered (d.forceRelease tag)).scan.forces = none ∧ Out.answer .ok 0 ∈ (answered (d.forceRelease tag)).out := by
  obtain ⟨-, hkeep, hout⟩ := answered_shows (d.forceRelease tag) (e := Ent.Frc.FORCE_COUNT)
  rw [hkeep]
  rw [Dev.forceRelease_takes hrole hforced] at hout ⊢
  refine ⟨?_, hout⟩
  rw [(Dev.forcesChanged_flds ..).2]
  exact KV.find_erase_same ..

theorem forceReleaseAll_shows {d : Dev} (hrole : d.role < 2) :
    (answered d.forceReleaseAll).scan.forces = [] ∧ Out.answer .ok 0 ∈ (answered d.forceReleaseAll).out := by
  obtain ⟨-, hkeep, hout⟩ := answered_shows d.forceReleaseAll (e := Ent.Frc.FORCE_COUNT)
  obtain ⟨hforces, hstatus⟩ := Dev.forceReleaseAll_empties hrole
  rw [hkeep]
  rw [hstatus] at hout
  exact ⟨hforces, hout⟩

/-- Settles O20. -/
theorem onlineChangeAndForceCommands : Obligations.OnlineChangeAndForceCommands := by
  unfold Obligations.OnlineChangeAndForceCommands
  intro s hlive
  refine ⟨?start, ?cancel, ?switch, ?commit, ?window, ?ready, ?late, ?receive, ?standby, ?forceSet, ?release, ?releaseAll⟩
  case start =>
    intro v img hop hlow hhigh hrole himg hcheck
    obtain ⟨hstate, hengine, hchange⟩ := changeStartOp_flds (d := s.dev.fresh) hop hlow hhigh hrole himg hcheck
    exact (gives_iff_of_onDev (f := changeStartOp v) rfl hlive).2 ⟨hstate, hengine, hchange, Only.of_fresh (changeStartOp_only ..)⟩
  case cancel =>
    intro c hlo hhi hc
    obtain ⟨hstate, hstatus, hengine, hchange⟩ := Dev.dropChange_flds (d := s.dev.fresh) .aborted hc hlo hhi
    have heq : changeCancelOp s.dev.fresh = (s.dev.fresh.dropChange .aborted).answer .ok := if_pos ⟨hlo, hhi⟩
    refine (gives_iff_of_onDev (f := changeCancelOp) rfl hlive).2 ?_
    refine ⟨?_, ?_, ?_, ?_, Only.of_fresh (changeCancelOp_only _)⟩ <;> rw [heq]
    · exact hstate
    · exact hstatus
    · exact hengine
    · exact hchange
  case switch =>
    intro c hc hstate hrole hboundary
    have heq := changeSwitchOp_of_boundary (d := s.dev.fresh) hc hstate hrole hboundary
    obtain ⟨himage, hid, hengine, hswitched⟩ := Dev.switchImage_switched (if c.twin then s.dev.fresh.sendCommit s.dev.fresh.nextInstant else s.dev.fresh) c
    rw [← heq] at himage hid hengine hswitched
    exact (gives_iff_of_onDev (f := changeSwitchOp) rfl hlive).2 ⟨himage, hid, hengine, hswitched, Only.of_fresh (changeSwitchOp_only _)⟩
  case commit =>
    intro c hc hstate
    obtain ⟨hended, hstatus, hchange⟩ := Dev.changeEnd_flds (d := s.dev.fresh) .ok hc
    have heq : changeCommitOp s.dev.fresh = s.dev.fresh.changeEnd .ok := if_pos hstate
    rw [← heq] at hended hstatus hchange
    exact (gives_iff_of_onDev (f := changeCommitOp) rfl hlive).2 ⟨hended, hstatus, hchange, Only.of_fresh (changeCommitOp_only _)⟩
  case window =>
    intro c hc hstate hpast
    obtain ⟨hended, hstatus, hengine, -⟩ :=
      Dev.dropChange_flds (d := s.dev.fresh) .wrongState hc (by rw [Dev.get_fresh, hstate]; decide) (by rw [Dev.get_fresh, hstate])
    rw [← changeWindowTimeoutOp_drops (d := s.dev.fresh) hc hstate hpast] at hended hstatus hengine
    exact (gives_iff_of_onDev (f := changeWindowTimeoutOp) rfl hlive).2 ⟨hended, hstatus, hengine, Only.of_fresh (changeWindowTimeoutOp_only _)⟩
  case ready =>
    intro hstate
    exact (gives_iff_of_onDev (f := changeStandbyReadyOp true) rfl hlive).2
      ⟨changeStandbyReadyOp_state (d := s.dev.fresh) hstate, Only.of_fresh (changeStandbyReadyOp_only ..)⟩
  case late =>
    intro c hc hstate hpast
    obtain ⟨hended, hstatus, hengine, -⟩ :=
      Dev.dropChange_flds (d := s.dev.fresh) .remoteTimeout hc (by rw [Dev.get_fresh, hstate]; decide) (by rw [Dev.get_fresh, hstate]; decide)
    rw [← standbyReadyTimeoutOp_drops (d := s.dev.fresh) hc hstate hpast] at hended hstatus hengine
    exact (gives_iff_of_onDev (f := standbyReadyTimeoutOp) rfl hlive).2 ⟨hended, hstatus, hengine, Only.of_fresh (standbyReadyTimeoutOp_only _)⟩
  case receive =>
    intro i c hc hstate hrole hidle hmeets
    have heq := changeCommitReceiveOp_of_idle (d := s.dev.fresh) hc hstate hrole hidle hmeets
    obtain ⟨himage, -, -, hswitched⟩ :=
      Dev.switchImage_switched (s.dev.fresh.setScan fun x => { x with change := some { c with commitAt := some i } }) { c with commitAt := some i }
    rw [← heq] at himage hswitched
    exact (gives_iff_of_onDev (f := changeCommitReceiveOp i) rfl hlive).2 ⟨himage, hswitched, Only.of_fresh (changeCommitReceiveOp_only ..)⟩
  case standby =>
    intro word img hrole hcheck
    obtain ⟨hstate, hengine, hchange⟩ := standbyChangeReceiveOp_flds (d := s.dev.fresh) hrole hcheck
    exact (gives_iff_of_onDev (f := standbyChangeReceiveOp word img) rfl hlive).2 ⟨hstate, hengine, hchange, Only.of_fresh (standbyChangeReceiveOp_only ..)⟩
  case forceSet =>
    intro b v hrole hengine hidle htag hv hty hsize hlen hroom
    obtain ⟨hforced, hcount, hout⟩ := forceSet_shows (d := s.dev.fresh) hrole hengine hidle htag hv hty hsize hlen hroom
    exact (gives_iff_of_onDev (f := fun d => answered (d.forceSet b)) rfl hlive).2
      ⟨hforced, hcount, hout, Only.of_fresh (Dev.forceSet_only _ b).answered⟩
  case release =>
    intro tag hrole hforced
    obtain ⟨hgone, hout⟩ := forceRelease_shows (d := s.dev.fresh) hrole hforced
    exact (gives_iff_of_onDev (f := fun d => answered (d.forceRelease tag)) rfl hlive).2
      ⟨hgone, hout, Only.of_fresh (Dev.forceRelease_only _ tag).answered⟩
  case releaseAll =>
    intro hrole
    obtain ⟨hgone, hout⟩ := forceReleaseAll_shows (d := s.dev.fresh) hrole
    exact (gives_iff_of_onDev (f := fun d => answered d.forceReleaseAll) rfl hlive).2
      ⟨hgone, hout, Only.of_fresh (Dev.forceReleaseAll_only _).answered⟩

/-! ### The restart of TB (R427) -/

/-- TB stands between XO, which is stable, and XO again, and the raw counter is 480 below its end. -/
def counterAtItsEnd : State :=
  let d := (Dev.reset.put (Ent.Dom.SOURCE 2) 0xFF).setDom 2 fun x => { x with old := 0, target := some 0 }
  ⟨[], { d with time := { d.time with raw := 2 ^ 64 - 480 } }⟩

theorem counterAtItsEnd_switches :
    counterAtItsEnd.dev.domStopped 2 = true ∧ (counterAtItsEnd.dev.dom 2).target = some 0 ∧
      counterAtItsEnd.dev.sourceStable (counterAtItsEnd.dev.dom 2).old = true := by
  decide +kernel

/-- The 480 that the restart adds bring the raw counter back to 0. -/
theorem domainSwitchCompleteOp_counterAtItsEnd : (domainSwitchCompleteOp 2 counterAtItsEnd.dev.fresh).time.raw = 0 := by
  decide +kernel

/-- Refutes O30, in its clause on the restart: the raw counter counts modulo 2 to the 64, the clause adds 480 without it. -/
theorem not_clockSourceAndSwitchCommands : ¬ Obligations.ClockSourceAndSwitchCommands := by
  unfold Obligations.ClockSourceAndSwitchCommands
  intro hall
  obtain ⟨-, -, -, -, -, -, -, hrestart, -⟩ := hall counterAtItsEnd rfl
  obtain ⟨hstopped, htarget, hstable⟩ := counterAtItsEnd_switches
  obtain ⟨-, -, -, hraw, -⟩ := (gives_iff_of_onDev (f := domainSwitchCompleteOp 2) rfl rfl).1 (hrestart 2 0 (by decide) hstopped htarget hstable)
  rw [domainSwitchCompleteOp_counterAtItsEnd, if_pos rfl] at hraw
  exact absurd hraw (Nat.succ_ne_zero _).symm

/-! ### A migration of a hall that is none (R390, R504) -/

/-- A STANDBY hears no heartbeat any more while TWIN_ALIVE_IN has edges, and a migration of "hall" 0x2601 is in progress: STATE of that hall would have the
index and subindex of ROLE. -/
def farMigration : State :=
  let d := ((Dev.reset.put Ent.Tws.ROLE 2).put Ent.Twc.TWIN_EN 1).setPath 1 true
  let d := d.setHalls fun x => { x with mig := some ⟨0x2601, true, 1, false, none, false, 0, 0, false, 0⟩ }
  ⟨[], { d with time := { d.time with raw := 1000000 } }⟩

theorem farMigration_beatsLost :
    farMigration.dev.twinOn = true ∧ farMigration.dev.aged farMigration.dev.twin.beatAt 1000000 = true ∧ farMigration.dev.path 1 = true ∧
      farMigration.dev.role = 2 := by
  decide +kernel

/-- The hall that the end of the migration thaws writes 1, RUNNING, over the role. -/
theorem heartbeatLostOp_farMigration : (heartbeatLostOp farMigration.dev.fresh).role = 1 := by
  decide +kernel

/-- Refutes O38, in its clause on a standby that loses its heartbeats: the migration that ends with the partner may name a hall beyond 255, whose STATE is
ROLE. -/
theorem not_partnerWatchAndPromotionCommands : ¬ Obligations.PartnerWatchAndPromotionCommands := by
  unfold Obligations.PartnerWatchAndPromotionCommands
  intro hall
  obtain ⟨-, -, -, -, -, -, hlost, -⟩ := hall farMigration rfl
  obtain ⟨hon, haged, hpath, hrole⟩ := farMigration_beatsLost
  obtain ⟨-, hdegraded, -⟩ := (gives_iff_of_onDev (f := heartbeatLostOp) rfl rfl).1 (hlost hon haged hpath hrole)
  rw [heartbeatLostOp_farMigration] at hdegraded
  exact absurd hdegraded (by decide)

/-! ### A wear-out during a READ (R461, R474) -/

/-- A READ of one sector of hall 0 into system SRAM. -/
def plainRead : StCmd := ⟨0, 0x8001, 1, 0, 0x1200000, 0, none, false⟩

/-- After the READ the die is at its rated number of erasures. -/
def wornOut : NandWork := ⟨0, [], [], 0, 30000, 30000⟩

/-- The READ runs, and hall 0's ring, in system SRAM too, is on. -/
def ringOn : State := ⟨[], ((Dev.reset.setRing 0 [plainRead]).setFld (Rg.Hpg.RING_LO 0) (0x1100000 / 16)).setFld (Rg.Hpg.RING_EN 0) 1⟩

theorem ringOn_reads :
    ringOn.dev.stgCmd 0 0 1 = some plainRead ∧ ringOn.dev.writeAhead 0 plainRead = false ∧ ringOn.dev.isD plainRead.addr = false ∧
      ringOn.dev.rangeStatus false true plainRead.addr 4096 = .ok ∧ ringOn.dev.sto.bad.contains (partKey 0 plainRead.lba) = false := by
  decide +kernel

theorem ringOn_sector_length : (ringOn.dev.sector (partKey 0 plainRead.lba)).length = 4096 := by
  decide +kernel

/-- A byte of the ring, before. -/
theorem ringOn_byte : ringOn.dev.byte 0x1100009 = 0x00#8 ∧ ringOn.dev.pairTcm (0x1100009 - 0x20000) 0 = false := by
  decide +kernel

set_option maxRecDepth 100000 in
/-- HEALTH_CHANGE puts a record into the ring. -/
theorem storageReadOp_ringOn : (storageReadOp 0 0 1 wornOut ringOn.dev.fresh).byte 0x1100009 = 0x38#8 := by
  decide +kernel

/-- Refutes O35, in its clause on READ: a READ that brings HEALTH to another state also writes HEALTH_CHANGE to hall 0's ring, outside its buffer. -/
theorem not_storageRingCommands : ¬ Obligations.StorageRingCommands := by
  unfold Obligations.StorageRingCommands
  intro hall
  obtain ⟨-, hread, -⟩ := hall ringOn rfl
  obtain ⟨hcmd, hahead, hplain, hrange, hgood⟩ := ringOn_reads
  obtain ⟨⟨-, hbeside⟩, -, -⟩ := (gives_iff_of_onDev (f := storageReadOp 0 0 1 wornOut) rfl rfl).1
    (hread 0 1 wornOut plainRead hcmd hahead (by decide) rfl rfl rfl hplain hrange hgood rfl ringOn_sector_length)
  have hbyte := hbeside 0x1100009 (.inl (by decide))
  rw [if_neg (by simp [ringOn_byte.2]), storageReadOp_ringOn, ringOn_byte.1] at hbyte
  exact absurd hbyte (by decide)

/-! ### A DMA channel beyond 63 (R361) -/

/-- The number with which STATE of a DMA channel has the index and subindex of LOG_LOST. -/
def farChannel : Nat := 0x5000 - 0x2C40

/-- The channel's descriptor has ended with NOT_ALIGNED, the next one is posted with OWN 1, LOG_LOST is 1, and the device log is full. -/
def farDescriptor : State :=
  let d := (Dev.reset.put Ent.Evlog.LOG_LOST 1).setCh farChannel fun x => { x with desc := zeros 32, ended := some .notAligned }
  let d := ((d.setFld (Rg.Dmar.ACTIVE farChannel) 1).setFld (Rg.Dmar.TAIL farChannel) 2).setFld (Rg.Dmar.RING_LO farChannel) (0x1200000 / 32)
  let d := d.writeMem (0x1200000 + 32 + 3) [0x80#8]
  ⟨[], { d with logs := { d.logs with waiting := List.replicate 8192 (.base 0 0 0 0 0) } }⟩

theorem farDescriptor_ended :
    (farDescriptor.dev.ch farChannel).ended = some .notAligned ∧ farDescriptor.dev.isSet (Rg.Dmar.ACTIVE farChannel) = true ∧
      farDescriptor.dev.get (Ent.Dma.STATE farChannel) ≠ 2 ∧ (farDescriptor.dev.ch farChannel).await = [] ∧
      farDescriptor.dev.fld (Rg.Dmar.HEAD farChannel) = 0 ∧ farDescriptor.dev.dmaRingSize farChannel = 4 := by
  decide +kernel

theorem farDescriptor_writes (at_ : Nat) (h : at_ = farDescriptor.dev.dmaRing farChannel (farDescriptor.dev.fld (Rg.Dmar.HEAD farChannel))) :
    let stored := farDescriptor.dev.dmaWrite farChannel (at_ + 26) (le 2 Status.notAligned.code ++ le 4 (farDescriptor.dev.ch farChannel).done)
    stored.1 = .ok ∧ (stored.2.dmaWrite farChannel at_ (le 4 (setBit (leAt (farDescriptor.dev.ch farChannel).desc 0 4) 31 false))).1 = .ok := by
  subst h
  decide +kernel

set_option maxRecDepth 100000 in
/-- DESC_ERROR is lost, LOG_LOST is 2, and the channel counts as DRAINING: the next descriptor completes as well. -/
theorem dmaDescriptorCompleteOp_farDescriptor :
    (dmaDescriptorCompleteOp farChannel farDescriptor.dev.fresh).fld (Rg.Dmar.HEAD farChannel) = 2 := by
  decide +kernel

/-- Refutes O25, in its clause on the completion of a descriptor, which bounds the channel's number by nothing: with the number of `farChannel` STATE is
LOG_LOST, which the completion itself may change. -/
theorem not_dmaAndQueuePairCommands : ¬ Obligations.DmaAndQueuePairCommands := by
  unfold Obligations.DmaAndQueuePairCommands
  intro hall
  obtain ⟨-, -, -, -, hcomplete, -⟩ := hall farDescriptor rfl
  obtain ⟨hended, hactive, hstate, hawait, hhead, hsize⟩ := farDescriptor_ended
  obtain ⟨hstatus, hctrl⟩ := farDescriptor_writes _ rfl
  obtain ⟨-, hnext, -⟩ := (gives_iff_of_onDev (f := dmaDescriptorCompleteOp farChannel) rfl rfl).1
    (hcomplete farChannel _ .notAligned hended hactive hstate hawait rfl hstatus hctrl)
  rw [dmaDescriptorCompleteOp_farDescriptor, hhead, hsize] at hnext
  exact absurd hnext (by decide)

end Sys2Proof

/-! SUPPORT. Storage upkeep (R458, R463, R465) and the update commands (R477, R481, R482). -/

namespace Sys2Proof

open Sys2Proof.Machine

/-! ### One entry beside a footprint -/

/-- No key of the family is this one: it lies below the first, or off the family's steps. -/
def Fam.lacks (f : Fam) (key : Nat) : Bool :=
  f.base % Nat.gcd f.s1 (Nat.gcd f.s2 f.s3) != key % Nat.gcd f.s1 (Nat.gcd f.s2 f.s3) || decide (key < f.base)

theorem Fam.not_has_of_lacks {f : Fam} {key : Nat} (h : f.lacks key = true) : ¬ f.has key := by
  intro hhas
  have hbase := Fam.base_le_of_has hhas
  obtain ⟨a, b, c, hkey⟩ := hhas
  have hrest : Nat.gcd f.s1 (Nat.gcd f.s2 f.s3) ∣ Nat.gcd f.s2 f.s3 := Nat.gcd_dvd_right ..
  have h1 := (Nat.gcd_dvd_left f.s1 (Nat.gcd f.s2 f.s3)).mul_left a
  have h2 := (hrest.trans (Nat.gcd_dvd_left ..)).mul_left b
  have h3 := (hrest.trans (Nat.gcd_dvd_right ..)).mul_left c
  have hsteps : f.base ≡ key [MOD Nat.gcd f.s1 (Nat.gcd f.s2 f.s3)] := by
    rw [hkey, Nat.add_assoc, Nat.add_assoc]
    exact ((Nat.modEq_zero_iff_dvd.2 (h1.add (h2.add h3))).add_left f.base).symm
  rw [Fam.lacks, Bool.or_eq_true, bne_iff_ne, decide_eq_true_eq] at h
  rcases h with hoff | hbelow
  · exact hoff hsteps
  · omega

/-- An entry in no listed family stays as it is. -/
theorem Only.get_of_lacks {F : Foot} {a b : Dev} (h : Only F a b) {e : Entry} (hents : F.ents.all (·.lacks e.key) = true)
    (hdict : Part.dict ∉ F.parts) : b.get e = a.get e := by
  have hfind : KV.find e.key b.dict = KV.find e.key a.dict :=
    h.keep .dict hdict e.key fun f hf => Fam.not_has_of_lacks (List.all_eq_true.1 hents f hf)
  rw [Dev.get, Dev.get, KV.get, KV.get, hfind]

/-! ### The event log (R465) -/

/-- While EVENTS has room, a commit moves what waits behind what stands. -/
theorem eventLogCommitOp_commits {d : Dev} (hon : d.nandOn = true) (hdue : d.commitDue = true)
    (hroom : d.logs.events.length + d.logs.waiting.length ≤ 33554432) :
    (eventLogCommitOp d).logs.waiting = [] ∧ (eventLogCommitOp d).logs.events = d.logs.events ++ d.logs.waiting ∧
      (eventLogCommitOp d).get Ent.Evl.EVENT_NEXT = (d.get Ent.Evl.EVENT_NEXT + d.logs.waiting.length) % 2 ^ Ent.Evl.EVENT_NEXT.bits := by
  have hdrop : (d.logs.events.length + d.logs.waiting.length - 33554432 + 131071) / 131072 * 131072 = 0 := by
    rw [Nat.sub_eq_zero_of_le hroom]
  rw [eventLogCommitOp, hon, hdue, Bool.and_self, if_pos rfl]
  unfold Dev.commitEvents
  dsimp only
  rw [hdrop, Dev.get_put_same, Dev.put_logs, Dev.put_logs]
  exact ⟨rfl, rfl, rfl⟩

/-! ### Upkeep of the NAND (R458, R461 to R463) -/

theorem Dev.nand_get_refreshes (d : Dev) (w : NandWork) : (d.nand w).get Ent.Sto.REFRESHES = d.get Ent.Sto.REFRESHES :=
  (Dev.nand_only d w).get_eq (sub := 0x15) (by decide) rfl (by decide)

theorem Dev.healthCheck_get (d : Dev) {e : Entry} (he : e ∈ [Ent.Sto.ERASE_MEAN, Ent.Sto.ERASE_MAX]) : d.healthCheck.get e = d.get e := by
  have hsubs : ∀ e ∈ [Ent.Sto.ERASE_MEAN, Ent.Sto.ERASE_MAX], foot331.ents.all (·.misses e.sub) = true := by decide
  exact (Dev.healthCheck_only d).get_eq (by decide) rfl (hsubs e he)

/-- The wear that the die reports is what shows. -/
theorem Dev.nand_get_wear (d : Dev) (w : NandWork) :
    (d.nand w).get Ent.Sto.ERASE_MEAN = w.mean % 2 ^ 32 ∧ (d.nand w).get Ent.Sto.ERASE_MAX = w.max % 2 ^ 32 := by
  unfold Dev.nand
  dsimp only
  rw [Dev.healthCheck_get _ (by decide), Dev.healthCheck_get _ (by decide), Dev.get_put_other _ _ (by decide), Dev.get_put_other _ _ (by decide),
    Dev.get_put_same, Dev.get_put_other _ _ (by decide), Dev.get_put_same]
  exact ⟨rfl, rfl⟩

theorem blockRefreshOp_counts {d : Dev} (w : NandWork) (hon : d.nandOn = true) (htop : d.get Ent.Sto.REFRESHES < 2 ^ 64 - 1) :
    (blockRefreshOp w d).get Ent.Sto.REFRESHES = d.get Ent.Sto.REFRESHES + 1 ∧ (blockRefreshOp w d).get Ent.Sto.ERASE_MEAN = w.mean % 2 ^ 32 ∧
      (blockRefreshOp w d).get Ent.Sto.ERASE_MAX = w.max % 2 ^ 32 := by
  have hcount : (d.count (stoCounter 5)).get Ent.Sto.REFRESHES = min (d.get Ent.Sto.REFRESHES + 1) (2 ^ 64 - 1) :=
    Dev.count_get_same d Ent.Sto.REFRESHES _ _ _ 1 rfl (by decide) (by decide)
  rw [blockRefreshOp, if_pos hon, Dev.nand_get_refreshes, hcount]
  exact ⟨by omega, Dev.nand_get_wear ..⟩

/-- A sector found uncorrectable is listed, and those listed before stay so. -/
theorem Dev.sectorBad_bad (d : Dev) (k : Nat) : (d.sectorBad k).sto.bad.contains k = true ∧ ∀ j, d.sto.bad.contains j = true → (d.sectorBad k).sto.bad.contains j = true := by
  unfold Dev.sectorBad
  split
  · exact ⟨by assumption, fun _ h => h⟩
  · dsimp only
    rw [(Dev.stoEvent_only ..).keep .sto (by decide), Dev.count_sto, Dev.draw_sto]
    refine ⟨?_, fun j hj => ?_⟩
    · simp [Dev.setSto]
    · simp only [Dev.setSto, List.contains_eq_mem, decide_eq_true_eq, List.mem_append] at hj ⊢
      exact .inl hj

theorem Dev.foldl_sectorBad_bad (l : List Nat) (d : Dev) {k : Nat} (h : k ∈ l ∨ d.sto.bad.contains k = true) :
    (l.foldl (fun d k => d.sectorBad k) d).sto.bad.contains k = true := by
  induction l generalizing d with
  | nil => exact h.resolve_left List.not_mem_nil
  | cons x l ih =>
    obtain ⟨hnew, hold⟩ := Dev.sectorBad_bad d x
    refine ih _ ?_
    rcases h with hmem | hbad
    · rcases List.mem_cons.1 hmem with rfl | hmem
      · exact .inr hnew
      · exact .inl hmem
    · exact .inr (hold k hbad)

theorem retentionScrubOp_bad {d : Dev} (refresh : Bool) {w : NandWork} {k : Nat} (hon : d.nandOn = true) (hk : k ∈ w.bad) :
    (retentionScrubOp refresh w d).sto.bad.contains k = true := by
  have hbad := Dev.foldl_sectorBad_bad w.bad (d.nand w) (.inl hk)
  rw [retentionScrubOp, if_pos hon]
  dsimp only
  split
  · rwa [Dev.count_sto]
  · exact hbad

/-! ### Mount and partitions (R466, R472) -/

theorem storageMountOp_mounts {d : Dev} (ms : Nat) (unclean : Bool) (hoff : d.sto.mounted = false) (htop : d.get Ent.Sto.MOUNTS_UNCLEAN < 2 ^ 64 - 1) :
    (storageMountOp ms unclean d).sto.mounted = true ∧
      (storageMountOp ms unclean d).get Ent.Sto.MOUNTS_UNCLEAN = d.get Ent.Sto.MOUNTS_UNCLEAN + b2n unclean := by
  have hevent (x : Dev) (v : Nat) := Dev.stoEvent_only x 0x23 v
  have hget (x : Dev) (v : Nat) : (x.stoEvent 0x23 v).get Ent.Sto.MOUNTS_UNCLEAN = x.get Ent.Sto.MOUNTS_UNCLEAN :=
    (hevent x v).get_eq (sub := 0x16) (by decide) rfl (by decide)
  rw [storageMountOp, hoff, if_neg Bool.false_ne_true]
  dsimp only
  rw [(hevent ..).keep .sto (by decide), hget]
  cases unclean with
  | false => exact ⟨rfl, rfl⟩
  | true =>
    have hcount (x : Dev) : (x.count (stoCounter 6)).get Ent.Sto.MOUNTS_UNCLEAN = min (x.get Ent.Sto.MOUNTS_UNCLEAN + 1) (2 ^ 64 - 1) :=
      Dev.count_get_same x Ent.Sto.MOUNTS_UNCLEAN _ _ _ 1 rfl (by decide) (by decide)
    rw [if_pos rfl, Dev.count_sto, hcount]
    refine ⟨rfl, ?_⟩
    change min (d.get Ent.Sto.MOUNTS_UNCLEAN + 1) (2 ^ 64 - 1) = d.get Ent.Sto.MOUNTS_UNCLEAN + 1
    omega

/-- A trimmed sector reads as zeros. -/
theorem Dev.trimFrom_sector (d : Dev) (h : Nat) {k : Nat} (hk : k < 2 ^ 22) : (d.trimFrom h 0).sector (partKey h k) = zeros 4096 := by
  have hin : partKey h 0 ≤ partKey h k ∧ partKey h k < partKey (h + 1) 0 := by
    unfold partKey
    omega
  have hgone : KV.find (partKey h k) (d.trimFrom h 0).sto.sectors = none :=
    KV.find_keep_none (fun _ => by simp [hin.1, hin.2]) d.sto.sectors
  rw [Dev.sector, KV.get, hgone]
  rfl

/-! ### Update commands (R477, R481, R482) -/

/-- Without a request that waits, the end of an operation is answered to the command. -/
theorem Dev.finish_of_none {d : Dev} {key : Nat} (s : Status) (h : KV.find key d.d0.waits = none) : d.finish key s = d.answer s := by
  rw [Dev.finish, h]

/-- What no step of a fold over these elements changes, the fold does not change. -/
theorem foldl_keeps_of_mem {σ α β : Type} {g : σ → β} {f : σ → α → σ} (l : List α) (hf : ∀ d, ∀ x ∈ l, g (f d x) = g d) (d : σ) : g (l.foldl f d) = g d := by
  induction l generalizing d with
  | nil => rfl
  | cons x l ih =>
    rw [List.foldl_cons, ih (fun d y hy => hf d y (List.mem_cons_of_mem x hy)), hf d x List.mem_cons_self]

/-- A frame of the device that a queue cannot take is counted beside the update unit's entries. -/
theorem Dev.countDrop_imageState (d : Dev) {p : Nat} (w : Drop) (hp : p < 54) :
    (d.countDrop p 8 p w).get Ent.Upd.IMAGE_STATE = d.get Ent.Upd.IMAGE_STATE := by
  have hcount (d : Dev) {c : Counter} (hentry : Ent.Upd.IMAGE_STATE.key ≠ c.entry.key) (hsat : Ent.Upd.IMAGE_STATE.key ≠ c.satEntry.key) :
      (d.count c).get Ent.Upd.IMAGE_STATE = d.get Ent.Upd.IMAGE_STATE :=
    Dev.count_get d c 1 Ent.Upd.IMAGE_STATE.dflt _ hentry hsat (by decide)
  have hqueue (d : Dev) : ∀ i ∈ [8, 9, 10, 11, 12], (d.count (queueCounter p 8 i)).get Ent.Upd.IMAGE_STATE = d.get Ent.Upd.IMAGE_STATE := by
    intro i hi
    have hsmall : i < 13 := (by decide : ∀ i ∈ [8, 9, 10, 11, 12], i < 13) i hi
    apply hcount <;> simp only [queueCounter, ctr, Entry.key, Ent.Upd.IMAGE_STATE, Ent.Pq.Q_SAT] <;> omega
  unfold Dev.countDrop
  split
  case h_1 => exact hqueue d 8 (by decide)
  case h_2 => exact hqueue d 9 (by decide)
  case h_3 => exact hqueue d 10 (by decide)
  case h_4 => exact hqueue d 11 (by decide)
  case h_5 => exact hqueue d 12 (by decide)
  case h_6 => rw [hcount _ (by decide) (by decide), hqueue d 9 (by decide)]
  case h_12 h =>
    apply hcount <;> simp only [Entry.key, Ent.Upd.IMAGE_STATE, Ent.Hall.FROZEN_DROPS, Ent.Hall.COUNTER_SAT] <;> omega
  all_goals
    apply hcount <;>
      simp only [ctAborted, noDesc, oversize, noQp, egressFiltered, coreCounter, portCounter, ctr, Entry.key, Ent.Upd.IMAGE_STATE, Ent.Pq.PORT_SAT,
        Ent.Heng.NO_QP, Ent.Heng.COUNTER_SAT, Ent.Port.PORT_SAT] <;> omega

theorem Dev.sendTcm_imageState (d : Dev) {p : Nat} (f : Frame) (hp : p < 54) : (d.sendTcm p f).get Ent.Upd.IMAGE_STATE = d.get Ent.Upd.IMAGE_STATE := by
  unfold Dev.sendTcm
  extract_lets n
  split
  · rfl
  · exact Dev.countDrop_imageState d _ hp
  · rfl

theorem Dev.sendSwitched_imageState (d : Dev) (vid : Nat) (f : Frame) : (d.sendSwitched vid f).get Ent.Upd.IMAGE_STATE = d.get Ent.Upd.IMAGE_STATE := by
  unfold Dev.sendSwitched
  extract_lets v ports
  split
  · rfl
  · refine foldl_keeps_of_mem (g := fun d => d.get Ent.Upd.IMAGE_STATE) _ (fun d q hq => Dev.sendTcm_imageState d _ ?_) _
    have hfilter := (List.mem_filter.1 hq).2
    rw [Bool.and_eq_true, decide_eq_true_eq] at hfilter
    exact hfilter.1

theorem Dev.mbDone_get (d : Dev) (len total code busy done : Field) (data : Nat → Field) (read : Bool) (status : Status) (tot : Nat) (b : Bytes) (e : Entry) :
    (d.mbDone len total code busy done data read status tot b).get e = d.get e := by
  have hbytes (d : Dev) (w : Nat → Field) (b : Bytes) : (d.setMbBytes w b).get e = d.get e := by
    unfold Dev.setMbBytes
    exact foldl_keeps (g := fun d : Dev => d.get e) (fun d x => by simp) _ _
  unfold Dev.mbDone
  split <;> simp [hbytes]

/-- A response leaves the update unit's entries, on whichever path. -/
theorem Dev.respond_imageState (d : Dev) (o : Origin) (read : Bool) (status : Status) (desc : Bytes) (total : Nat) (b : Bytes) :
    (d.respond o read status desc total b).get Ent.Upd.IMAGE_STATE = d.get Ent.Upd.IMAGE_STATE := by
  unfold Dev.respond
  extract_lets d' body
  split
  · exact (Dev.sdoAnswer_only ..).get_of_lacks (by decide) (by decide)
  · unfold Dev.ndpRespond
    split
    · rfl
    · exact Dev.sendSwitched_imageState ..
  · exact (Dev.ctrl_only ..).get_of_lacks (by decide) (by decide)
  · rfl
  · split
    · exact (Dev.bridgeDictDone_only ..).get_of_lacks (by decide) (by decide)
    · split
      · rfl
      · exact Dev.mbDone_get ..
  · exact Dev.mbDone_get ..

theorem Dev.finish_get_imageState (d : Dev) (key : Nat) (s : Status) : (d.finish key s).get Ent.Upd.IMAGE_STATE = d.get Ent.Upd.IMAGE_STATE := by
  unfold Dev.finish
  split
  · rfl
  · exact Dev.respond_imageState ..

theorem imageConfirmOp_confirms {d : Dev} (h : d.get Ent.Upd.IMAGE_STATE = 1) :
    (imageConfirmOp d).get Ent.Upd.IMAGE_STATE = 0 ∧ (imageConfirmOp d).upd.trial = false := by
  unfold imageConfirmOp
  split
  case h_1 h0 => exact absurd (h.symm.trans h0) (by decide)
  case h_2 =>
    dsimp only
    rw [Dev.finish_get_imageState, Dev.event_get _ _ _ _ _ (by decide), Dev.get_put_same, (Dev.finish_only ..).keep .upd (by decide), Dev.event_upd,
      Dev.put_upd]
    exact ⟨rfl, rfl⟩
  case h_3 hother => exact absurd h hother

/-- A staged image that is whole, or armed already, is armed. -/
theorem stagingArmOp_of_whole {d : Dev} (h : d.get Ent.Upd.STAGING_STATE = 2) (hwaits : KV.find Ent.Upd.STAGING_CMD.key d.d0.waits = none) :
    stagingArmOp d = (d.put Ent.Upd.STAGING_STATE 3).answer .ok := by
  unfold stagingArmOp
  dsimp only
  rw [if_pos (.inl h), Dev.finish_of_none .ok (d := d.put Ent.Upd.STAGING_STATE 3) hwaits]

theorem stagingArmOp_of_less {d : Dev} (h : d.get Ent.Upd.STAGING_STATE < 2) (hwaits : KV.find Ent.Upd.STAGING_CMD.key d.d0.waits = none) :
    stagingArmOp d = d.answer .notConfigured := by
  unfold stagingArmOp
  dsimp only
  rw [if_neg (by omega), Dev.finish_of_none _ hwaits]

theorem stagingDiscardOp_of_none {d : Dev} (h : KV.find Ent.Upd.STAGING_CMD.key d.d0.waits = none) :
    stagingDiscardOp d = (d.setD0 fun u => { u with transfers := KV.erase Ent.Stg.STAGING.key u.transfers }).stagingEmpty.answer .ok :=
  Dev.finish_of_none .ok (d := (d.setD0 fun u => { u with transfers := KV.erase Ent.Stg.STAGING.key u.transfers }).stagingEmpty) h

/-- An empty staging area. -/
theorem Dev.stagingEmpty_shows (d : Dev) :
    d.stagingEmpty.get Ent.Upd.STAGING_STATE = 0 ∧ d.stagingEmpty.get Ent.Upd.STAGED_VERSION = 0 ∧ d.stagingEmpty.oct Ent.Stg.STAGING = [] := by
  unfold Dev.stagingEmpty
  rw [Dev.get_putOct, Dev.get_putOct, Dev.get_put_other _ _ (by decide), Dev.get_put_same, Dev.get_put_same, Dev.oct_putOct_same]
  exact ⟨rfl, rfl, rfl⟩

theorem retryActiveOp_of_rescue {d : Dev} (h : d.get Ent.Upd.IMAGE_STATE = 2) (hwaits : KV.find Ent.Upd.RETRY_ACTIVE.key d.d0.waits = none) :
    retryActiveOp d = (d.put Ent.Upd.FAILED_STARTS 0).answer .ok := by
  rw [retryActiveOp, if_pos h, Dev.finish_of_none .ok (d := d.put Ent.Upd.FAILED_STARTS 0) hwaits]

/-- Settles O36, command by command. -/
theorem storageUpkeepAndUpdateCommands : Obligations.StorageUpkeepAndUpdateCommands := by
  unfold Obligations.StorageUpkeepAndUpdateCommands
  intro s hlive
  refine ⟨?_, ?_, ?_, ?_, ?_, ?_, ?_, ?_, ?_, ?_, ?_⟩
  · intro hon hdue hroom
    obtain ⟨hwaiting, hevents, hnext⟩ := eventLogCommitOp_commits (d := s.dev.fresh) hon hdue hroom
    exact (gives_iff_of_onDev (f := eventLogCommitOp) rfl hlive).2 ⟨hwaiting, hevents, hnext, Only.of_fresh (eventLogCommitOp_only _)⟩
  · intro w hon htop
    obtain ⟨hcount, hmean, hmax⟩ := blockRefreshOp_counts (d := s.dev.fresh) w hon htop
    exact (gives_iff_of_onDev (f := blockRefreshOp w) rfl hlive).2 ⟨hcount, hmean, hmax, Only.of_fresh (blockRefreshOp_only ..)⟩
  · intro refresh w k hon hk
    exact (gives_iff_of_onDev (f := retentionScrubOp refresh w) rfl hlive).2
      ⟨retentionScrubOp_bad (d := s.dev.fresh) refresh hon hk, Only.of_fresh (retentionScrubOp_only ..)⟩
  · intro ms unclean hoff htop
    obtain ⟨hmounted, hcount⟩ := storageMountOp_mounts (d := s.dev.fresh) ms unclean hoff htop
    exact (gives_iff_of_onDev (f := storageMountOp ms unclean) rfl hlive).2 ⟨hmounted, hcount, Only.of_fresh (storageMountOp_only ..)⟩
  · intro h k hfree hk
    have heq : s.dev.fresh.partitionErase h = (.ok, s.dev.fresh.trimFrom h 0) := by
      have hnot : ¬ (h ≠ 0 ∧ s.dev.fresh.hallExists h = true) := fun ⟨hne, hex⟩ => by
        rcases hfree with h0 | hgone
        · exact hne h0
        · exact Bool.false_ne_true (hgone.symm.trans hex)
      rw [Dev.partitionErase, if_neg hnot]
    refine (gives_iff_of_onDev (f := fun d => answered (d.partitionErase h)) rfl hlive).2 ⟨?_, ?_, Only.of_fresh (Dev.partitionErase_only _ h).answered⟩
    · rw [heq]
      exact Dev.trimFrom_sector s.dev.fresh h hk
    · rw [heq]
      rfl
  · intro h hne hex
    have heq : s.dev.fresh.partitionErase h = (.wrongState, s.dev.fresh) := by
      rw [Dev.partitionErase, if_pos ⟨hne, hex⟩]
    refine (gives_iff_of_onDev (f := fun d => answered (d.partitionErase h)) rfl hlive).2 ?_
    rw [heq]
    exact ⟨rfl, Only.of_fresh Only.refl.answer⟩
  · intro hwhole hwaits
    have honly : Only Foot.stagingArm s.dev (stagingArmOp s.dev.fresh) := Only.of_fresh (stagingArmOp_only _)
    rw [stagingArmOp_of_whole (d := s.dev.fresh) hwhole hwaits] at honly
    refine (gives_iff_of_onDev (f := stagingArmOp) rfl hlive).2 ?_
    rw [stagingArmOp_of_whole (d := s.dev.fresh) hwhole hwaits]
    exact ⟨Dev.get_put_same s.dev.fresh Ent.Upd.STAGING_STATE 3, rfl, honly⟩
  · intro hless hwaits
    refine (gives_iff_of_onDev (f := stagingArmOp) rfl hlive).2 ?_
    rw [stagingArmOp_of_less (d := s.dev.fresh) hless hwaits]
    exact ⟨rfl, Only.of_fresh Only.refl.answer⟩
  · intro hwaits
    have honly : Only Foot.stagingDiscard s.dev (stagingDiscardOp s.dev.fresh) := Only.of_fresh (stagingDiscardOp_only _)
    rw [stagingDiscardOp_of_none (d := s.dev.fresh) hwaits] at honly
    refine (gives_iff_of_onDev (f := stagingDiscardOp) rfl hlive).2 ?_
    rw [stagingDiscardOp_of_none (d := s.dev.fresh) hwaits]
    obtain ⟨hstate, hversion, hstaged⟩ :=
      Dev.stagingEmpty_shows (s.dev.fresh.setD0 fun u => { u with transfers := KV.erase Ent.Stg.STAGING.key u.transfers })
    exact ⟨hstate, hversion, hstaged, rfl, honly⟩
  · intro htrial
    obtain ⟨hstate, hend⟩ := imageConfirmOp_confirms (d := s.dev.fresh) htrial
    exact (gives_iff_of_onDev (f := imageConfirmOp) rfl hlive).2 ⟨hstate, hend, Only.of_fresh (imageConfirmOp_only _)⟩
  · intro hrescue hwaits
    have honly : Only Foot.retryActive s.dev (retryActiveOp s.dev.fresh) := Only.of_fresh (retryActiveOp_only _)
    rw [retryActiveOp_of_rescue (d := s.dev.fresh) hrescue hwaits] at honly
    refine (gives_iff_of_onDev (f := retryActiveOp) rfl hlive).2 ?_
    rw [retryActiveOp_of_rescue (d := s.dev.fresh) hrescue hwaits]
    exact ⟨Dev.get_put_same s.dev.fresh Ent.Upd.FAILED_STARTS 0, rfl, honly⟩

end Sys2Proof

/-! SUPPORT. The twin unit (R498 to R502, R509, R510): what its steps show and keep. -/

namespace Sys2Proof

open Sys2Proof.Machine

/-! ### The entries of the pair -/

/-- The entries in which the pair shows itself. -/
def pairShows : List Entry := [Ent.Tws.ROLE, Ent.Tws.ROLE_EPOCH, Ent.Tws.PEER_ROLE, Ent.Tws.CMD_STATUS]

/-- Steps whose footprint names none of them. -/
theorem Only.get_pairShows {F : Foot} {a b : Dev} {e : Entry} (h : Only F a b) (he : e ∈ pairShows)
    (hents : (pairShows.all fun e => F.ents.all (·.lacks e.key)) = true := by decide) (hdict : Part.dict ∉ F.parts := by decide) : b.get e = a.get e :=
  h.get_of_lacks (List.all_eq_true.1 hents e he) hdict

theorem Dev.finish_get (d : Dev) (key : Nat) (s : Status) {e : Entry} (he : e ∈ pairShows) : (d.finish key s).get e = d.get e :=
  (Dev.finish_only d key s).get_pairShows he

theorem Dev.twinEvent_get (d : Dev) (code data : Nat) {e : Entry} (he : e ∈ pairShows) : (d.twinEvent code data).get e = d.get e :=
  (Dev.twinEvent_only d code data).get_pairShows he

theorem Dev.attachEvent_get (d : Dev) (code : Nat) {e : Entry} (he : e ∈ pairShows) : (d.attachEvent code).get e = d.get e := Dev.twinEvent_get d _ _ he

/-- CMD's outcome shows, and nothing else of the pair changes. -/
theorem Dev.twinDone_status (d : Dev) (s : Status) : (d.twinDone s).get Ent.Tws.CMD_STATUS = s.code % 2 ^ 16 := by
  rw [Dev.twinDone, Dev.finish_get _ _ _ (by decide), Dev.get_put_same]
  rfl

theorem Dev.twinDone_get (d : Dev) (s : Status) {e : Entry} (he : e ∈ [Ent.Tws.ROLE, Ent.Tws.ROLE_EPOCH, Ent.Tws.PEER_ROLE]) :
    (d.twinDone s).get e = d.get e := by
  have hall : ∀ e ∈ [Ent.Tws.ROLE, Ent.Tws.ROLE_EPOCH, Ent.Tws.PEER_ROLE], e ∈ pairShows ∧ e.key ≠ Ent.Tws.CMD_STATUS.key := by decide
  obtain ⟨hshow, hkey⟩ := hall e he
  rw [Dev.twinDone, Dev.finish_get _ _ _ hshow, Dev.get_put_other _ _ hkey]

theorem Dev.twinDone_role (d : Dev) (s : Status) : (d.twinDone s).role = d.role := Dev.twinDone_get d s (by decide)

theorem Dev.setRole_role (d : Dev) {r : Nat} (h : r < 256) : (d.setRole r).role = r := by
  unfold Dev.setRole
  split
  · assumption
  · rw [Dev.role, Dev.twinEvent_get _ _ _ (by decide), Dev.get_put_same]
    exact Nat.mod_eq_of_lt h

theorem Dev.setRole_get (d : Dev) (r : Nat) {e : Entry} (he : e ∈ pairShows) (hne : e.key ≠ Ent.Tws.ROLE.key) : (d.setRole r).get e = d.get e := by
  unfold Dev.setRole
  split
  · rfl
  · rw [Dev.twinEvent_get _ _ _ he, Dev.get_put_other _ _ hne]

/-! ### The twin unit beside its lanes -/

/-- The twin unit, but for its lanes: a message that leaves changes those alone. -/
def Machine.Dev.pair (d : Dev) : TwinSt := { d.twin with lanes := [] }

theorem Dev.pair_of_twin {a b : Dev} (h : b.twin = a.twin) : b.pair = a.pair := by rw [Dev.pair, Dev.pair, h]
theorem Dev.attach_of_pair {a b : Dev} (h : b.pair = a.pair) : b.twin.attach = a.twin.attach := by
  have hattach : b.pair.attach = a.pair.attach := by rw [h]
  exact hattach

theorem Only.pair_eq {F : Foot} {a b : Dev} (h : Only F a b) (htwin : Part.twin ∉ F.parts := by decide) : b.pair = a.pair :=
  Dev.pair_of_twin (h.keep .twin htwin)

theorem Dev.laneData_pair (d : Dev) (n : Nat) (b : Bytes) : (d.laneData n b).pair = d.pair := by
  unfold Dev.laneData
  extract_lets l
  split <;> rfl

theorem Dev.ctrlOn_pair (d : Dev) (n msg q : Nat) (body : Bytes) : (d.ctrlOn n msg q body).pair = d.pair := by
  unfold Dev.ctrlOn
  extract_lets f
  rw [Dev.pair_of_twin (Dev.count_twin ..), Dev.pair_of_twin (Dev.count_twin ..)]
  unfold Dev.putFrame
  extract_lets d'
  split
  · exact (Dev.laneData_pair ..).trans rfl
  · rfl

theorem Dev.ctrl_pair (d : Dev) (msg : Nat) (body : Bytes) (q : Nat) : (d.ctrl msg body q).pair = d.pair := by
  unfold Dev.ctrl
  split
  · rfl
  · exact Dev.ctrlOn_pair ..

theorem Dev.mbDone_twin (d : Dev) (len total code busy done : Field) (data : Nat → Field) (read : Bool) (status : Status) (tot : Nat) (b : Bytes) :
    (d.mbDone len total code busy done data read status tot b).twin = d.twin := by
  have hbytes (d : Dev) (w : Nat → Field) (b : Bytes) : (d.setMbBytes w b).twin = d.twin := by
    unfold Dev.setMbBytes
    exact foldl_keeps (g := Dev.twin) (fun d x => by simp) _ _
  unfold Dev.mbDone
  split <;> simp [hbytes]

/-- A response leaves the twin unit, but for the lane that carries it. -/
theorem Dev.respond_pair (d : Dev) (o : Origin) (read : Bool) (status : Status) (desc : Bytes) (total : Nat) (b : Bytes) :
    (d.respond o read status desc total b).pair = d.pair := by
  unfold Dev.respond
  extract_lets d' body
  split
  · exact (Dev.sdoAnswer_only ..).pair_eq
  · exact (Dev.ndpRespond_only ..).pair_eq
  · exact Dev.ctrl_pair ..
  · rfl
  · split
    · exact (Dev.bridgeDictDone_only ..).pair_eq
    · split
      · rfl
      · exact Dev.pair_of_twin (Dev.mbDone_twin ..)
  · exact Dev.pair_of_twin (Dev.mbDone_twin ..)

theorem Dev.twinDone_pair (d : Dev) (s : Status) : (d.twinDone s).pair = d.pair := by
  unfold Dev.twinDone Dev.finish
  split
  · rfl
  · exact Dev.respond_pair ..

theorem Dev.setRole_twin (d : Dev) (r : Nat) : (d.setRole r).twin = d.twin := (Dev.setRole_only d r).keep .twin (by decide)

/-! ### The end of a handover -/

theorem Dev.handEnd_role (d : Dev) (s : Status) : (d.handEnd s).role = d.role := (Dev.handEnd_only d s).get_of_lacks (by decide) (by decide)

theorem Dev.handEnd_epoch (d : Dev) (s : Status) : (d.handEnd s).get Ent.Tws.ROLE_EPOCH = d.get Ent.Tws.ROLE_EPOCH :=
  (Dev.handEnd_only d s).get_of_lacks (by decide) (by decide)

theorem Dev.handEnd_pair (d : Dev) (s : Status) : (d.handEnd s).pair = { d.pair with hand := none } := by
  unfold Dev.handEnd
  split
  · rename_i h
    rw [Dev.pair, ← h]
  · dsimp only
    split
    · exact Dev.twinDone_pair ..
    · rfl

theorem Dev.handEnd_hand (d : Dev) (s : Status) : (d.handEnd s).twin.hand = none := by
  have hhand : (d.handEnd s).pair.hand = none := by rw [Dev.handEnd_pair]
  exact hhand

theorem Dev.toSolo_role (d : Dev) : d.toSolo.role = 0 := Dev.setRole_role _ (by decide)

theorem Dev.toSolo_attach (d : Dev) : d.toSolo.twin.attach = d.twin.attach := by
  have hattach : (d.handEnd .aborted).pair.attach = d.pair.attach := by rw [Dev.handEnd_pair]
  rw [Dev.toSolo, Dev.setRole_twin]
  exact hattach

/-! ### CMD (R498, R502, R510) -/

/-- A request to attach is on its way, and the device is JOINING. -/
theorem Dev.attachRequest_joins (d : Dev) (byCmd : Bool) :
    (d.attachRequest byCmd).role = 4 ∧ (d.attachRequest byCmd).twin.attach = some ⟨1, d.time.raw, [], [], byCmd⟩ ∧
      (d.attachRequest byCmd).twin.refused = false := by
  unfold Dev.attachRequest
  dsimp only
  rw [Dev.setRole_role _ (by decide), Dev.setRole_twin, Dev.setTwin_twin, (Dev.ctrl_only ..).keep .time (by decide)]
  exact ⟨rfl, rfl, rfl⟩

theorem Dev.detach_leaves (d : Dev) : d.detach.role = 5 ∧ d.detach.twin.attach = none := by
  unfold Dev.detach
  dsimp only
  rw [Dev.setRole_role _ (by decide), Dev.setRole_twin]
  exact ⟨rfl, rfl⟩

theorem Dev.leavePair_leaves (d : Dev) : d.leavePair.role = 5 ∧ d.leavePair.twin.attach = none := by
  obtain ⟨hrole, hattach⟩ := Dev.detach_leaves (d.handEnd .aborted)
  unfold Dev.leavePair
  dsimp only
  split
  · exact ⟨(Dev.twinDone_role ..).trans hrole, (Dev.attach_of_pair (Dev.twinDone_pair ..)).trans hattach⟩
  · exact ⟨hrole, hattach⟩

theorem twinCmdDetachOp_of_spare {d : Dev} (h : d.role = 2 ∨ d.role = 3 ∨ d.role = 4) :
    (twinCmdDetachOp d).role = 5 ∧ (twinCmdDetachOp d).twin.attach = none ∧ (twinCmdDetachOp d).get Ent.Tws.CMD_STATUS = Status.ok.code := by
  obtain ⟨hrole, hattach⟩ := Dev.leavePair_leaves d
  rw [twinCmdDetachOp, if_pos h, Dev.twinDone_role, Dev.attach_of_pair (Dev.twinDone_pair ..), Dev.twinDone_status]
  exact ⟨hrole, hattach, rfl⟩

theorem twinCmdDetachOp_of_active {d : Dev} (h : d.role = 1) :
    (twinCmdDetachOp d).role = 0 ∧ (twinCmdDetachOp d).get Ent.Tws.CMD_STATUS = Status.ok.code := by
  rw [twinCmdDetachOp, if_neg (by omega), if_pos h]
  dsimp only
  rw [Dev.twinDone_role, Dev.twinDone_status]
  exact ⟨Dev.toSolo_role _, rfl⟩

theorem detachReceiveOp_of_active {d : Dev} (h : d.role = 1) : (detachReceiveOp d).role = 0 ∧ (detachReceiveOp d).twin.attach = none := by
  rw [detachReceiveOp, if_neg (by omega), if_pos h]
  exact ⟨Dev.toSolo_role _, Dev.toSolo_attach _⟩

/-! ### The handover (R509) -/

/-- The device with another twin unit and other outputs. -/
def Machine.Dev.withTwin (d : Dev) (t : TwinSt) (o : List Out) : Dev := { d with twin := t, out := o }

theorem Dev.nextInstant_withTwin (d : Dev) (t : TwinSt) (o : List Out) : (d.withTwin t o).nextInstant = d.nextInstant := rfl

/-- The snapshot holds nothing of the twin unit. -/
theorem Dev.twinSnapshot_withTwin (d : Dev) (t : TwinSt) (o : List Out) : (d.withTwin t o).twinSnapshot = d.twinSnapshot := by
  have himage : (d.withTwin t o).image = d.image := rfl
  have hget (e : Entry) : (d.withTwin t o).get e = d.get e := rfl
  have hscan : (d.withTwin t o).scan = d.scan := rfl
  have hread (a n : Nat) : (d.withTwin t o).readMem a n = d.readMem a n := Dev.readMem_congr fun _ _ => rfl
  have hforces : (d.withTwin t o).forceTable = d.forceTable := rfl
  have hslots : (d.withTwin t o).slotSnap = d.slotSnap := rfl
  have hruns (k : Nat) : (d.withTwin t o).run k = d.run k := rfl
  have hstreams : (d.withTwin t o).streamSnap = d.streamSnap := rfl
  simp only [Dev.twinSnapshot, Dev.nextInstant_withTwin, himage, hget, hscan, hread, hforces, hslots, hruns, hstreams]

/-- The common boundary says nothing of the twin unit. -/
theorem Dev.twinBoundary_withTwin (d : Dev) (t : TwinSt) (o : List Out) : (d.withTwin t o).twinBoundary = d.twinBoundary := by
  have himage : (d.withTwin t o).image = d.image := rfl
  have hquiet : (d.withTwin t o).quiet = d.quiet := rfl
  have hclear (n : Nat) : (d.withTwin t o).clearFor n = d.clearFor n := rfl
  rw [Dev.twinBoundary, Dev.twinBoundary, Dev.twinSnapshot_withTwin, himage, hquiet, hclear]

theorem Dev.twinBoundary_fresh (d : Dev) : d.fresh.twinBoundary = d.twinBoundary := Dev.twinBoundary_withTwin d d.twin []

theorem twinCmdHandoverOp_offers {d : Dev} (hrole : d.role = 1) (hpeer : d.get Ent.Tws.PEER_ROLE = 2) (hhand : d.twin.hand = none) :
    (twinCmdHandoverOp d).twin.hand = some (if d.twinBoundary then ⟨1, d.nextInstant⟩ else ⟨0, d.time.raw⟩) := by
  have hseeks : (d.setTwin fun t => { t with hand := some ⟨0, d.time.raw⟩ }).role = 1 := hrole
  have hboundary : (d.setTwin fun t => { t with hand := some ⟨0, d.time.raw⟩ }).twinBoundary = d.twinBoundary := Dev.twinBoundary_withTwin d _ d.out
  have hinstant : (d.setTwin fun t => { t with hand := some ⟨0, d.time.raw⟩ }).nextInstant = d.nextInstant := Dev.nextInstant_withTwin d _ d.out
  rw [twinCmdHandoverOp, if_pos ⟨hrole, hpeer, hhand⟩, Dev.handoverSeek, Dev.setTwin_twin]
  dsimp only
  rw [hseeks, hboundary, hinstant]
  cases d.twinBoundary <;> rfl

theorem Dev.mem_out_count {d : Dev} {o : Out} (c : Counter) (n : Nat) (h : o ∈ d.out) : o ∈ (d.count c n).out := by
  obtain ⟨k, l, hlogged⟩ := d.count_logged c n
  rw [hlogged]
  exact h

/-- A message that leaves on the lane that is up. -/
theorem Dev.mem_out_ctrl {d : Dev} {n : Nat} (msg : Nat) (body : Bytes) (h : d.upLane = some n) :
    Out.frame (52 + n) (d.ctrlFrame d.twin.peerMac msg 0 body) false ∈ (d.ctrl msg body).out := by
  unfold Dev.ctrl
  rw [h]
  refine Dev.mem_out_count _ _ (Dev.mem_out_count _ _ ?_)
  have hemitted (x : Dev) (o : Out) : o ∈ (x.emit o).out := List.mem_append_right _ List.mem_cons_self
  unfold Dev.putFrame
  extract_lets d'
  split
  · unfold Dev.laneData
    extract_lets l
    split
    · exact hemitted ..
    · exact List.mem_append_left _ (hemitted ..)
  · exact hemitted ..

theorem Dev.ctrlFrame_fresh (d : Dev) (dst msg q : Nat) (body : Bytes) : d.fresh.ctrlFrame dst msg q body = d.ctrlFrame dst msg q body := rfl

theorem handoverReceiveOp_one (instant : Nat) {d : Dev} (h : d.role = 2) :
    handoverReceiveOp 1 instant d = (d.ctrl 0x0B (le 1 2 ++ zeros 3 ++ le 8 instant)).setTwin fun t => { t with hand := some ⟨4, instant⟩ } :=
  if_pos h

theorem handoverReceiveOp_two {d : Dev} {instant : Nat} (hrole : d.role = 1) (hhand : d.twin.hand = some ⟨1, instant⟩) (htime : d.now + 50000 < instant) :
    handoverReceiveOp 2 instant d =
      ((d.ctrl 0x0B (le 1 3 ++ zeros 3 ++ le 8 instant)).setTwin fun t => { t with hand := some ⟨3, instant⟩ }).setRole 2 := by
  have hmine : ¬ ((1 : Nat) ≠ 1 ∨ d.role ≠ 1 ∨ instant ≠ instant) := by simp [hrole]
  unfold handoverReceiveOp
  rw [hhand]
  exact (if_neg hmine).trans (if_pos htime)

theorem handoverReceiveOp_three {d : Dev} {instant : Nat} (hrole : d.role = 2) (hhand : d.twin.hand = some ⟨4, instant⟩) (htime : d.now < instant) :
    handoverReceiveOp 3 instant d = (d.setTwin fun t => { t with hand := none }).decideOn 3 := by
  have hmine : ¬ ((4 : Nat) ≠ 4 ∨ d.role ≠ 2 ∨ instant ≠ instant ∨ instant ≤ d.now) := by simp [hrole, htime]
  unfold handoverReceiveOp
  rw [hhand]
  exact if_neg hmine

theorem handoverReceiveOp_accepts {d : Dev} {n : Nat} (instant : Nat) (hrole : d.role = 2) (hlane : d.upLane = some n) :
    (handoverReceiveOp 1 instant d).twin.hand = some ⟨4, instant⟩ ∧
      Out.frame (52 + n) (d.ctrlFrame d.twin.peerMac 0x0B 0 (le 1 2 ++ zeros 3 ++ le 8 instant)) false ∈ (handoverReceiveOp 1 instant d).out := by
  rw [handoverReceiveOp_one instant hrole]
  exact ⟨rfl, Dev.mem_out_ctrl _ _ hlane⟩

theorem handoverReceiveOp_stepsDown {d : Dev} {instant : Nat} (hrole : d.role = 1) (hhand : d.twin.hand = some ⟨1, instant⟩) (htime : d.now + 50000 < instant) :
    (handoverReceiveOp 2 instant d).role = 2 ∧ (handoverReceiveOp 2 instant d).twin.hand = some ⟨3, instant⟩ := by
  rw [handoverReceiveOp_two hrole hhand htime, Dev.setRole_role _ (by decide), Dev.setRole_twin]
  exact ⟨rfl, rfl⟩

theorem handoverReceiveOp_decides {d : Dev} {instant : Nat} (hrole : d.role = 2) (hhand : d.twin.hand = some ⟨4, instant⟩) (htime : d.now < instant)
    (hpromote : d.twin.promote = none) :
    (handoverReceiveOp 3 instant d).twin.hand = none ∧ (handoverReceiveOp 3 instant d).twin.promote = some (3, false) := by
  have hfree : ((d.setTwin fun t => { t with hand := none }).twin.promote).isSome = false := by rw [Dev.setTwin_twin, hpromote]; rfl
  rw [handoverReceiveOp_three hrole hhand htime, Dev.decideOn, hfree]
  exact ⟨rfl, rfl⟩

theorem nextEpoch_lt (e : Nat) : nextEpoch e < 2 ^ 16 := by
  unfold nextEpoch
  split <;> omega

theorem handoverTimeoutOp_returns {d : Dev} {x : Handover} (hhand : d.twin.hand = some x) (hstep : x.step = 3) (hpeer : d.get Ent.Tws.PEER_ROLE = 2)
    (htime : x.instant + 1000000 ≤ d.now) :
    (handoverTimeoutOp d).role = 1 ∧ (handoverTimeoutOp d).twin.hand = none ∧
      (handoverTimeoutOp d).get Ent.Tws.ROLE_EPOCH = nextEpoch (d.get Ent.Tws.ROLE_EPOCH) := by
  have hfirst (x : Dev) := Dev.firstAgain_only x
  have heq : handoverTimeoutOp d =
      ((d.put Ent.Tws.ROLE_EPOCH (nextEpoch (d.get Ent.Tws.ROLE_EPOCH))).setRole 1).firstAgain.handEnd .remoteFailed := by
    unfold handoverTimeoutOp
    rw [hhand]
    exact if_pos ⟨hstep, hpeer, htime⟩
  rw [heq, Dev.handEnd_role, Dev.handEnd_hand, Dev.handEnd_epoch, (hfirst _).get_pairShows (by decide),
    Dev.setRole_get _ _ (by decide) (by decide), Dev.get_put_same]
  refine ⟨?_, rfl, Nat.mod_eq_of_lt (nextEpoch_lt _)⟩
  rw [Dev.role, (hfirst _).get_pairShows (by decide)]
  exact Dev.setRole_role _ (by decide)

/-- Settles O40, command by command. -/
theorem twinCommandAndHandoverCommands : Obligations.TwinCommandAndHandoverCommands := by
  unfold Obligations.TwinCommandAndHandoverCommands
  intro s hlive
  refine ⟨?_, ?_, ?_, ?_, ?_, ?_, ?_, ?_, ?_, ?_⟩
  · intro hon hrole hdrives hfree
    have heq : twinCmdAttachOp s.dev.fresh = s.dev.fresh.attachRequest true := if_pos ⟨hon, hrole, hdrives, hfree⟩
    obtain ⟨hjoining, hattach, -⟩ := Dev.attachRequest_joins s.dev.fresh true
    have honly : Only Foot.twinCmdAttach s.dev (twinCmdAttachOp s.dev.fresh) := Only.of_fresh (twinCmdAttachOp_only _)
    rw [heq] at honly
    refine (gives_iff_of_onDev (f := twinCmdAttachOp) rfl hlive).2 ?_
    rw [heq]
    exact ⟨hjoining, hattach, honly⟩
  · intro hrole
    obtain ⟨hdetached, hattach, hstatus⟩ := twinCmdDetachOp_of_spare (d := s.dev.fresh) hrole
    exact (gives_iff_of_onDev (f := twinCmdDetachOp) rfl hlive).2 ⟨hdetached, hattach, hstatus, Only.of_fresh (twinCmdDetachOp_only _)⟩
  · intro hrole
    obtain ⟨hsolo, hstatus⟩ := twinCmdDetachOp_of_active (d := s.dev.fresh) hrole
    exact (gives_iff_of_onDev (f := twinCmdDetachOp) rfl hlive).2 ⟨hsolo, hstatus, Only.of_fresh (twinCmdDetachOp_only _)⟩
  · intro hrole
    obtain ⟨hsolo, hattach⟩ := detachReceiveOp_of_active (d := s.dev.fresh) hrole
    exact (gives_iff_of_onDev (f := detachReceiveOp) rfl hlive).2 ⟨hsolo, hattach, Only.of_fresh (detachReceiveOp_only _)⟩
  · intro hrole hpeer hhand
    have hoffer := twinCmdHandoverOp_offers (d := s.dev.fresh) hrole hpeer hhand
    rw [Dev.twinBoundary_fresh] at hoffer
    exact (gives_iff_of_onDev (f := twinCmdHandoverOp) rfl hlive).2 ⟨hoffer, Only.of_fresh (twinCmdHandoverOp_only _)⟩
  · intro instant n hrole hlane
    obtain ⟨hhand, hframe⟩ := handoverReceiveOp_accepts (d := s.dev.fresh) instant hrole hlane
    rw [Dev.ctrlFrame_fresh, Dev.fresh_twin] at hframe
    exact (gives_iff_of_onDev (f := handoverReceiveOp 1 instant) rfl hlive).2 ⟨hhand, hframe, Only.of_fresh (handoverReceiveOp_only ..)⟩
  · intro instant hrole hhand htime
    obtain ⟨hstandby, hstep⟩ := handoverReceiveOp_stepsDown (d := s.dev.fresh) hrole hhand htime
    exact (gives_iff_of_onDev (f := handoverReceiveOp 2 instant) rfl hlive).2 ⟨hstandby, hstep, Only.of_fresh (handoverReceiveOp_only ..)⟩
  · intro instant hrole hhand htime hfree
    obtain ⟨hover, hdecided⟩ := handoverReceiveOp_decides (d := s.dev.fresh) hrole hhand htime hfree
    exact (gives_iff_of_onDev (f := handoverReceiveOp 3 instant) rfl hlive).2 ⟨hover, hdecided, Only.of_fresh (handoverReceiveOp_only ..)⟩
  · intro x hhand hstep hpeer htime
    obtain ⟨hactive, hover, hepoch⟩ := handoverTimeoutOp_returns (d := s.dev.fresh) hhand hstep hpeer htime
    exact (gives_iff_of_onDev (f := handoverTimeoutOp) rfl hlive).2 ⟨hactive, hover, hepoch, Only.of_fresh (handoverTimeoutOp_only _)⟩
  · intro x hhand hstep htime
    have heq : handoverAcceptTimeoutOp s.dev.fresh = s.dev.fresh.handEnd .remoteTimeout := by
      unfold handoverAcceptTimeoutOp
      rw [show s.dev.fresh.twin.hand = some x from hhand]
      exact if_pos ⟨hstep, htime⟩
    have honly : Only Foot.handoverAcceptTimeout s.dev (handoverAcceptTimeoutOp s.dev.fresh) := Only.of_fresh (handoverAcceptTimeoutOp_only _)
    rw [heq] at honly
    refine (gives_iff_of_onDev (f := handoverAcceptTimeoutOp) rfl hlive).2 ?_
    rw [heq]
    exact ⟨Dev.handEnd_hand .., honly⟩

end Sys2Proof

/-! SUPPORT. The attach and what a standby takes (R496, R499 to R502). -/

namespace Sys2Proof

open Sys2Proof.Machine

/-! ### Messages -/

theorem Only.attach_eq {F : Foot} {a b : Dev} (h : Only F a b) (htwin : Part.twin ∉ F.parts := by decide) : b.twin.attach = a.twin.attach :=
  Dev.attach_of_pair (h.pair_eq htwin)

theorem Dev.post_attach (d : Dev) (hall msg : Nat) (body : Bytes) (attach : Bool) : (d.post hall msg body attach).twin.attach = d.twin.attach :=
  (Dev.attach_of_pair (Dev.ctrl_pair ..)).trans rfl

/-- STATE messages leave the attach as it is. -/
theorem Dev.sendState_attach (d : Dev) (kind : Nat) (b : Bytes) : (d.sendState kind b).twin.attach = d.twin.attach :=
  foldl_keeps (g := fun d : Dev => d.twin.attach) (fun d _ => Dev.post_attach d ..) _ d

theorem Dev.ctrl_mem (d : Dev) (msg : Nat) (body : Bytes) (q : Nat) : (d.ctrl msg body q).mem = d.mem := by
  have hlane (d : Dev) (n : Nat) (b : Bytes) : (d.laneData n b).mem = d.mem := by
    unfold Dev.laneData
    extract_lets l
    split <;> rfl
  have hframe (d : Dev) (p : Nat) (f : Frame) : (d.putFrame p f false).mem = d.mem := by
    unfold Dev.putFrame
    extract_lets d'
    split
    · exact hlane ..
    · rfl
  unfold Dev.ctrl
  split
  · rfl
  · rw [Dev.ctrlOn, Dev.count_mem, Dev.count_mem, hframe]

theorem Dev.post_mem (d : Dev) (hall msg : Nat) (body : Bytes) (attach : Bool) : (d.post hall msg body attach).mem = d.mem := (Dev.ctrl_mem ..).trans rfl

/-- What leaves for the partner stores nothing here. -/
theorem Dev.sendState_mem (d : Dev) (kind : Nat) (b : Bytes) : (d.sendState kind b).mem = d.mem :=
  foldl_keeps (g := Dev.mem) (fun d _ => Dev.post_mem d ..) _ d

theorem Dev.retainCells_congr {a b : Dev} (h : b.mem = a.mem) : b.retainCells = a.retainCells := by rw [Dev.retainCells, Dev.retainCells, h]

/-! ### The attach -/

theorem Dev.attachEvent_twin (d : Dev) (code : Nat) : (d.attachEvent code).twin = d.twin := (Dev.attachEvent_only d code).keep .twin (by decide)

theorem Dev.attachEnds_attach (d : Dev) (s : Status) (code : Nat) : (d.attachEnds s code).twin.attach = none := by
  unfold Dev.attachEnds
  split
  · assumption
  · have hended (d : Dev) : ((d.setTwin fun t => { t with attach := none }).attachEvent code).twin.attach = none := by rw [Dev.attachEvent_twin]; rfl
    have hrole (d : Dev) (r : Nat) : (d.setRole r).twin.attach = d.twin.attach := by rw [Dev.setRole_twin]
    have hdone (d : Dev) (s : Status) : (d.twinDone s).twin.attach = d.twin.attach := Dev.attach_of_pair (Dev.twinDone_pair ..)
    have hctrl (d : Dev) (msg : Nat) (body : Bytes) : (d.ctrl msg body).twin.attach = d.twin.attach := Dev.attach_of_pair (Dev.ctrl_pair ..)
    dsimp only
    split
    · split <;> split <;> simp only [hdone, hrole, Dev.setTwin_twin, hended]
    · split <;> simp only [hrole, hctrl, hended]

theorem Dev.handEnd_attach (d : Dev) (s : Status) : (d.handEnd s).twin.attach = d.twin.attach := by
  have hattach : (d.handEnd s).pair.attach = d.pair.attach := by rw [Dev.handEnd_pair]
  exact hattach

theorem attachReqReceiveOp_begins {node compat pos activeId : Nat} {digest : Bytes} {d : Dev} (h : d.attachCheck node compat pos digest = .ok) :
    (attachReqReceiveOp node compat pos activeId digest d).twin.attach = some ⟨3, d.time.raw, [], [], false⟩ := by
  have hfree : ¬ d.attachCheck node compat pos digest ≠ .ok := by simp [h]
  unfold attachReqReceiveOp
  dsimp only
  rw [if_neg hfree]
  split
  · rw [Dev.sendState_attach, Dev.setTwin_twin, (Dev.ctrl_only ..).keep .time (by decide)]
  · rw [Dev.setTwin_twin, (Dev.ctrl_only ..).keep .time (by decide)]

theorem attachRspReceiveOp_of_ok {node : Nat} {a : Attach} {d : Dev} (ha : d.twin.attach = some a) (hstep : a.step ≤ 2)
    (hnode : node = d.get Ent.Twc.PEER_NODE) : attachRspReceiveOp node 0 d = d.setTwin fun t => { t with attach := some { a with step := 2 } } := by
  unfold attachRspReceiveOp
  rw [ha]
  exact (if_neg (by omega)).trans ((if_pos rfl).trans (if_neg (by simp [hnode])))

theorem attachSnapshotOp_of_ready {a : Attach} {d : Dev} (ha : d.twin.attach = some a) (hstep : a.step = 3) (hboundary : d.twinBoundary = true) :
    attachSnapshotOp d = (((d.sendState 2 d.twinSnapshot).setTwin fun t =>
      { t with attach := some { a with step := 5 }, sent := (d.sendState 2 d.twinSnapshot).retainCells }).setRole 1) := by
  have hready : ¬ (a.step ≠ 3 ∨ (!d.twinBoundary) = true) := by simp [hstep, hboundary]
  unfold attachSnapshotOp
  rw [ha]
  exact if_neg hready

theorem attachSnapshotOp_sends {a : Attach} {d : Dev} (ha : d.twin.attach = some a) (hstep : a.step = 3) (hboundary : d.twinBoundary = true) :
    (attachSnapshotOp d).role = 1 ∧ (attachSnapshotOp d).twin.attach = some { a with step := 5 } ∧ (attachSnapshotOp d).twin.sent = d.retainCells := by
  rw [attachSnapshotOp_of_ready ha hstep hboundary, Dev.setRole_role _ (by decide), Dev.setRole_twin, Dev.setTwin_twin]
  have hcells := Dev.retainCells_congr (Dev.sendState_mem d 2 d.twinSnapshot)
  generalize d.sendState 2 d.twinSnapshot = x at hcells
  exact ⟨rfl, rfl, hcells⟩

theorem attachWindowTimeoutOp_ends {a : Attach} {d : Dev} (ha : d.twin.attach = some a) (hstep : a.step ≠ 5) (haged : d.aged a.since d.changeWindow = true) :
    (attachWindowTimeoutOp d).twin.attach = none := by
  have hdue : ¬ (a.step = 5 ∨ (!d.aged a.since d.changeWindow) = true) := by simp [hstep, haged]
  have hended : (d.attachEnd .wrongState).twin.attach = none := Dev.attachEnds_attach ..
  unfold attachWindowTimeoutOp
  rw [ha]
  dsimp only
  rw [if_neg hdue]
  split
  · split
    · rw [Dev.handEnd_attach, hended]
    · exact hended
  · exact hended

/-! ### STATE: the image and the snapshot (R500) -/

theorem stateMessageReceiveOp_gathers {q epoch off : Nat} {b : Bytes} {a : Attach} {d : Dev} (ha : d.twin.attach = some a) (hstep : a.step = 2)
    (hoff : off = a.image.length) :
    stateMessageReceiveOp q 1 epoch off false b d = d.setTwin fun t => { t with attach := some { a with image := a.image ++ b } } := by
  have hnext : ¬ (a.step ≠ 2 ∨ ((1 : Nat) ≠ 1 ∧ (1 : Nat) ≠ 2) ∨ off ≠ a.image.length) := by simp [hstep, hoff]
  unfold stateMessageReceiveOp
  rw [ha]
  exact (if_neg hnext).trans rfl

theorem Dev.takeStreams_attach (d : Dev) (n : Nat) (b : Bytes) : (d.takeStreams n b).twin.attach = d.twin.attach :=
  foldl_keeps (g := fun d : Dev => d.twin.attach) (fun d _ => (Dev.setStream_only d _ _).attach_eq) _ _

/-- A snapshot touches the twin unit in its tasks' runs alone. -/
theorem Dev.takeSnapshot_attach (d : Dev) (b : Bytes) : (d.takeSnapshot b).twin.attach = d.twin.attach := by
  have htcm (s : Bytes × Dev) (x : Nat) : (s.2.writeTcm x 0 (s.1.take 0x10000)).twin.attach = s.2.twin.attach := (Dev.writeTcm_only ..).attach_eq
  have hslots (d : Dev) (b : Bytes) (l : List StnRec) : (d.takeSlots b l).2.twin.attach = d.twin.attach := (Dev.takeSlots_only ..).attach_eq
  unfold Dev.takeSnapshot
  dsimp only
  refine (Dev.setEngine_only ..).attach_eq.trans ?_
  refine (foldl_keeps (g := fun d : Dev => d.twin.attach) (fun d r => (Dev.armTask_only ..).attach_eq) _ _).trans ?_
  refine (Dev.takeStreams_attach ..).trans ?_
  refine (foldl_keeps (g := fun d : Dev => d.twin.attach) (fun d i => ?_) _ _).trans ?_
  · split <;> rfl
  refine (Dev.setScan_only ..).attach_eq.trans ?_
  refine (hslots ..).trans ((Dev.takeForces_only ..).attach_eq.trans ?_)
  refine ((Dev.writeMem_only ..).attach_eq.trans ((Dev.writeMem_only ..).attach_eq.trans ?_))
  refine (foldl_keeps (g := fun s : Bytes × Dev => s.2.twin.attach) htcm _ _).trans ?_
  exact (Dev.abandonTasks_only d).attach_eq

end Sys2Proof

/-! SUPPORT. What a joiner and a standby take (R500, R501). -/

namespace Sys2Proof

open Sys2Proof.Machine

/-! ### The snapshot's end -/

/-- The device that has loaded the snapshot becomes STANDBY. -/
def Machine.Dev.joined (d : Dev) (epoch : Nat) (byCmd : Bool) : Dev :=
  let d := ((d.put Ent.Tws.ROLE_EPOCH epoch).setRole 2).attachEvent 0
  if byCmd then d.twinDone .ok else d

theorem Dev.joined_shows (d : Dev) {epoch : Nat} (byCmd : Bool) (h : epoch < 65536) :
    (d.joined epoch byCmd).role = 2 ∧ (d.joined epoch byCmd).get Ent.Tws.ROLE_EPOCH = epoch := by
  have hrole : (((d.put Ent.Tws.ROLE_EPOCH epoch).setRole 2).attachEvent 0).role = 2 := by
    rw [Dev.role, Dev.attachEvent_get _ _ (by decide)]
    exact Dev.setRole_role _ (by decide)
  have hepoch : (((d.put Ent.Tws.ROLE_EPOCH epoch).setRole 2).attachEvent 0).get Ent.Tws.ROLE_EPOCH = epoch := by
    rw [Dev.attachEvent_get _ _ (by decide), Dev.setRole_get _ _ (by decide) (by decide), Dev.get_put_same]
    exact Nat.mod_eq_of_lt h
  unfold Dev.joined
  dsimp only
  split
  · rw [Dev.twinDone_role, Dev.twinDone_get _ _ (by decide)]
    exact ⟨hrole, hepoch⟩
  · exact ⟨hrole, hepoch⟩

theorem Dev.joined_attach (d : Dev) (epoch : Nat) (byCmd : Bool) : (d.joined epoch byCmd).twin.attach = d.twin.attach := by
  have hattach : (((d.put Ent.Tws.ROLE_EPOCH epoch).setRole 2).attachEvent 0).twin.attach = d.twin.attach := by
    rw [Dev.attachEvent_twin, Dev.setRole_twin, Dev.put_twin]
  unfold Dev.joined
  dsimp only
  split
  · rw [Dev.attach_of_pair (Dev.twinDone_pair ..), hattach]
  · exact hattach

theorem stateMessageReceiveOp_joins {q epoch off : Nat} {b : Bytes} {a : Attach} {d : Dev} (ha : d.twin.attach = some a) (hstep : a.step = 2)
    (hoff : off = a.snap.length) :
    stateMessageReceiveOp q 2 epoch off true b d =
      ((((d.setTwin fun t => { t with attach := some { a with snap := a.snap ++ b } }).setTwin fun t =>
        { t with attach := none, runs := [], lines := [] }).takeSnapshot (a.snap ++ b)).joined epoch a.byCmd) := by
  have hnext : ¬ (a.step ≠ 2 ∨ ((2 : Nat) ≠ 1 ∧ (2 : Nat) ≠ 2) ∨ off ≠ a.snap.length) := by simp [hstep, hoff]
  unfold stateMessageReceiveOp
  rw [ha]
  exact if_neg hnext

theorem stateMessageReceiveOp_standby {q epoch off : Nat} {b : Bytes} {a : Attach} {d : Dev} (ha : d.twin.attach = some a) (hstep : a.step = 2)
    (hoff : off = a.snap.length) (hepoch : epoch < 65536) :
    (stateMessageReceiveOp q 2 epoch off true b d).role = 2 ∧ (stateMessageReceiveOp q 2 epoch off true b d).get Ent.Tws.ROLE_EPOCH = epoch ∧
      (stateMessageReceiveOp q 2 epoch off true b d).twin.attach = none := by
  rw [stateMessageReceiveOp_joins ha hstep hoff]
  refine ⟨(Dev.joined_shows _ _ hepoch).1, (Dev.joined_shows _ _ hepoch).2, ?_⟩
  rw [Dev.joined_attach, Dev.takeSnapshot_attach]
  rfl

/-! ### INPUTS and OUTPUT_CRC -/

theorem Dev.twinRun_setTwinRun (d : Dev) (t : Nat) (f : TwinRun → TwinRun) : (d.setTwinRun t f).twinRun t = f (d.twinRun t) := KV.get_put_same ..

theorem Dev.twinRun_congr {a b : Dev} (t : Nat) (h : b.twin = a.twin) : b.twinRun t = a.twinRun t := by rw [Dev.twinRun, Dev.twinRun, h]

/-- A task whose bytes are not complete, or that runs, does not start. -/
theorem Dev.startReplica_waits (d : Dev) (t : Nat) (h : (d.twinRun t).full = false ∨ (d.run t).phase ≠ 0) : d.startReplica t = d := by
  have hwaits : (!(d.twinRun t).full) = true ∨ (d.run t).phase ≠ 0 ∨ d.role ≠ 2 ∨ (!d.running) = true := by
    rcases h with h | h <;> simp [h]
  unfold Dev.startReplica
  dsimp only
  split
  · rfl
  · exact if_pos hwaits

/-- What the standby knows of a run whose bytes come from the start. -/
def inputsRun (x : TwinRun) (cycle startNs : Nat) (last : Bool) (b : Bytes) : TwinRun :=
  { x with cycle, startNs, data := [] ++ b, full := last, last := if last then startNs else x.last, late := if last then 0 else x.late }

theorem inputsReceiveOp_gathers {q t cycle startNs : Nat} {last : Bool} {b : Bytes} {d : Dev} (hrole : d.role = 2)
    (htask : (imgTask d.image t).isSome = true) (hwait : last = false ∨ (d.run t).phase ≠ 0) :
    inputsReceiveOp q t cycle startNs 0 last b d = d.setTwinRun t fun _ => inputsRun (d.twinRun t) cycle startNs last b := by
  have hnone : (imgTask d.image t).isNone = false := by simpa using htask
  have hnext : ¬ (d.role ≠ 2 ∨ (imgTask d.image t).isNone = true ∨ (0 : Nat) ≠ ([] : Bytes).length ∨ ((0 : Nat) ≠ 0 ∧ cycle ≠ (d.twinRun t).cycle)) := by
    simp [hrole, hnone]
  have hwaits : (((d.setTwinRun t fun _ => inputsRun (d.twinRun t) cycle startNs last b).twinRun t).full = false ∨
      ((d.setTwinRun t fun _ => inputsRun (d.twinRun t) cycle startNs last b).run t).phase ≠ 0) := by
    rw [Dev.twinRun_setTwinRun]
    exact hwait
  unfold inputsReceiveOp
  exact (if_neg hnext).trans (Dev.startReplica_waits _ t hwaits)

/-- MISMATCH_LIMIT stands outside what an event changes. -/
theorem Dev.twinEvent_limit (d : Dev) (code data : Nat) : (d.twinEvent code data).get Ent.Twc.MISMATCH_LIMIT = d.get Ent.Twc.MISMATCH_LIMIT :=
  (Dev.twinEvent_only d code data).get_of_lacks (by decide) (by decide)

theorem Dev.limited_keeps {β : Type} {g : Dev → β} {d : Dev} {scope n : Nat} {f : Dev → Nat → Dev} (hf : ∀ d k, g (f d k) = g d)
    (hlimits : ∀ (d : Dev) l, g { d with limits := l } = g d) : g (d.limited scope n f) = g d := by
  unfold Dev.limited
  split
  · exact (hf _ _).trans (hlimits ..)
  · exact hlimits ..

/-- The device that has noted a run whose outputs differ. -/
def Machine.Dev.mismatch (d : Dev) (t c : Nat) : Dev :=
  ((d.setTwinRun t fun r => { r with own := none, peer := none, wrong := r.wrong + 1 }).count (twinCounter 2)).limited (scopeOf srcTwin 0x0022 * 64 + t) 1
    fun d _ => d.twinEvent 0x0022 (t * 65536 + c % 65536)

theorem Dev.mismatch_twin (d : Dev) (t c : Nat) :
    (d.mismatch t c).twin = (d.setTwinRun t fun r => { r with own := none, peer := none, wrong := r.wrong + 1 }).twin :=
  (Dev.limited_keeps (g := Dev.twin) (fun d _ => (Dev.twinEvent_only d _ _).keep .twin (by decide)) fun _ _ => rfl).trans (Dev.count_twin ..)

theorem Dev.mismatch_limit (d : Dev) (t c : Nat) : (d.mismatch t c).get Ent.Twc.MISMATCH_LIMIT = d.get Ent.Twc.MISMATCH_LIMIT :=
  (Dev.limited_keeps (g := fun d : Dev => d.get Ent.Twc.MISMATCH_LIMIT) (fun d _ => Dev.twinEvent_limit d _ _) fun _ _ => rfl).trans
    (Dev.count_get_other (y := Ent.Twc.MISMATCH_LIMIT) _ _ _ _ _ _ (by decide) (by decide) (by decide))

theorem Dev.compareCrc_of_ne {d : Dev} {t c x y : Nat} (hown : (d.twinRun t).own = some (c, x)) (hpeer : (d.twinRun t).peer = some (c, y)) (hne : x ≠ y)
    (hlimit : (d.twinRun t).wrong + 1 < d.get Ent.Twc.MISMATCH_LIMIT) : d.compareCrc t = d.mismatch t c := by
  have hwrong : ((d.mismatch t c).twinRun t).wrong = (d.twinRun t).wrong + 1 := by
    rw [Dev.twinRun_congr t (Dev.mismatch_twin d t c), Dev.twinRun_setTwinRun]
  have hfew : ¬ (d.mismatch t c).get Ent.Twc.MISMATCH_LIMIT ≤ ((d.mismatch t c).twinRun t).wrong := by
    rw [hwrong, Dev.mismatch_limit]
    omega
  unfold Dev.compareCrc
  extract_lets r
  rw [show r.own = _ from hown, show r.peer = _ from hpeer]
  exact (if_neg (by simp)).trans ((if_neg hne).trans (if_neg hfew))

theorem outputCrcReceiveOp_counts {t cycle crc x : Nat} {d : Dev} (hrole : d.role = 2) (hown : (d.twinRun t).own = some (cycle, x)) (hne : x ≠ crc)
    (hlimit : (d.twinRun t).wrong + 1 < d.get Ent.Twc.MISMATCH_LIMIT) :
    ((outputCrcReceiveOp t cycle crc d).twinRun t).wrong = (d.twinRun t).wrong + 1 ∧ ((outputCrcReceiveOp t cycle crc d).twinRun t).own = none := by
  have hrun : (d.setTwinRun t fun r => { r with peer := some (cycle, crc) }).twinRun t = { d.twinRun t with peer := some (cycle, crc) } :=
    Dev.twinRun_setTwinRun ..
  have heq : outputCrcReceiveOp t cycle crc d = (d.setTwinRun t fun r => { r with peer := some (cycle, crc) }).mismatch t cycle :=
    (if_pos hrole).trans (Dev.compareCrc_of_ne (by rw [hrun]; exact hown) (by rw [hrun]) hne (by rw [hrun]; exact hlimit))
  rw [heq, Dev.twinRun_congr t (Dev.mismatch_twin ..), Dev.twinRun_setTwinRun, hrun]
  exact ⟨rfl, rfl⟩

/-! ### RETAIN, STREAMS and FORCES -/

theorem leAt_le_append (n x : Nat) (b : Bytes) : leAt (le n x ++ b) 0 n = x % 256 ^ n := by
  rw [leAt, slice_eq_of_le (by simp), List.drop_zero, List.take_left' (le_length n x), ofLe_le]

theorem slice_append_right (a b : Bytes) : slice (a ++ b) a.length b.length = b := by
  rw [slice_eq_of_le (by simp), List.drop_left' rfl, List.take_length]

theorem Dev.allIdle_setTwin (d : Dev) (f : TwinSt → TwinSt) : (d.setTwin f).allIdle = d.allIdle := rfl

/-- One line of 64 bytes with every task idle. -/
theorem retainReceiveOp_line {q i : Nat} {x : Bytes} {d : Dev} (hrole : d.role = 2) (hidle : d.allIdle = true) (hlines : d.twin.lines = [])
    (hi : i < 4096) (hx : x.length = 64) :
    retainReceiveOp q (le 4 i ++ x) d =
      ((d.setTwin fun t => { t with lines := [(i, x)] }).writeMem (0x03020000 + 64 * i) x).setTwin fun t => { t with lines := [] } := by
  have hcount : (le 4 i ++ x).length / 68 = 1 := by simp [hx]
  have hline : leAt (le 4 i ++ x) (68 * 0) 4 = i := by
    rw [Nat.mul_zero, leAt_le_append]
    exact Nat.mod_eq_of_lt (by omega)
  have hbytes : slice (le 4 i ++ x) (68 * 0 + 4) 64 = x := by
    have h := slice_append_right (le 4 i) x
    rw [le_length, hx] at h
    exact h
  have hwhole : slice x 0 64 = x := by
    have h := slice_append_right [] x
    rw [hx] at h
    exact h
  have hnoted : (d.setTwin fun t => { t with lines := KV.insert i x t.lines }) = d.setTwin fun t => { t with lines := [(i, x)] } := by
    rw [Dev.setTwin, Dev.setTwin, hlines]
    rfl
  unfold retainReceiveOp
  rw [if_neg (by simp [hrole]), hcount]
  simp only [List.range_one, List.foldl_cons, List.foldl_nil, hline, hbytes, if_pos hi, hnoted, Dev.allIdle_setTwin, hidle, if_true]
  rw [Dev.applyLines, Dev.setTwin_twin]
  simp only [List.foldl_cons, List.foldl_nil, hwhole]

/-- No address of the retentive area lies above a TCM's. -/
theorem Dev.pairTcm_of_retain (d : Dev) {i x : Nat} (h : 0x03020000 + 64 * i ≤ x - 0x20000) : d.pairTcm (x - 0x20000) 0 = false := by
  have hhigh : ¬ x - 0x20000 < 0x2100000 := by omega
  simp [Dev.pairTcm, hhigh]

theorem retainReceiveOp_stores {q i : Nat} {x : Bytes} {d : Dev} (hrole : d.role = 2) (hidle : d.allIdle = true) (hlines : d.twin.lines = [])
    (hi : i < 4096) (hx : x.length = 64) :
    BytesAt (0x03020000 + 64 * i) x d (retainReceiveOp q (le 4 i ++ x) d) ∧ (retainReceiveOp q (le 4 i ++ x) d).twin.lines = [] := by
  rw [retainReceiveOp_line hrole hidle hlines hi hx]
  refine ⟨⟨?_, fun y hy => ?_⟩, rfl⟩
  · exact Dev.readMem_eq_of_bytes fun j hj => Dev.byte_writeMem_same (d.setTwin fun t => { t with lines := [(i, x)] }) _ _ j hj
  · have hpair : ¬ (d.pairTcm (y - 0x20000) 0 = true ∧ 0x03020000 + 64 * i ≤ y - 0x20000 ∧ y - 0x20000 < 0x03020000 + 64 * i + x.length) := by
      rintro ⟨htcm, hlow, -⟩
      rw [Dev.pairTcm_of_retain d hlow] at htcm
      exact absurd htcm (by decide)
    rw [if_neg hpair]
    exact Dev.byte_writeMem_other (d.setTwin fun t => { t with lines := [(i, x)] }) _ _ _ hy

theorem streamsReceiveOp_one {q st v : Nat} {d : Dev} (hrole : d.role = 2) (hst : st < 2048) (hv : v < 65536) :
    streamsReceiveOp q (le 2 st ++ le 2 v) d = d.setStream st fun x => { x with next := v } := by
  have hcount : (le 2 st ++ le 2 v).length / 4 = 1 := by simp
  have hstream : leAt (le 2 st ++ le 2 v) (4 * 0) 2 = st := by
    rw [Nat.mul_zero, leAt_le_append]
    exact Nat.mod_eq_of_lt (by omega)
  have hnext : leAt (le 2 st ++ le 2 v) (4 * 0 + 2) 2 = v := by
    have h := slice_append_right (le 2 st) (le 2 v)
    rw [le_length, le_length] at h
    rw [leAt, Nat.mul_zero, Nat.zero_add, h, ofLe_le]
    exact Nat.mod_eq_of_lt (by omega)
  rw [streamsReceiveOp, if_neg (by simp [hrole]), hcount, Dev.takeStreams]
  simp only [List.range_one, List.foldl_cons, List.foldl_nil, hstream, hnext]

theorem Dev.attachCheck_fresh (d : Dev) (node compat pos : Nat) (digest : Bytes) :
    d.fresh.attachCheck node compat pos digest = d.attachCheck node compat pos digest := rfl

theorem Dev.takeForces_shows (d : Dev) (gen n : Nat) (b : Bytes) :
    (d.takeForces gen n b).scan.forces = (forceRecords n b).foldl (fun kv r => KV.insert r.1 r.2 kv) [] ∧
      (d.takeForces gen n b).get Ent.Frc.FORCE_GEN = gen % 2 ^ 32 := by
  unfold Dev.takeForces
  dsimp only
  rw [Dev.get_put_same]
  exact ⟨rfl, rfl⟩

theorem forcesReceiveOp_of_standby {q gen : Nat} {b : Bytes} {d : Dev} (h : d.role = 2) : forcesReceiveOp q gen b d = d.takeForces gen (b.length / 72) b :=
  if_neg (by simp [h])

/-- Settles O39, command by command. -/
theorem attachAndReplicationCommands : Obligations.AttachAndReplicationCommands := by
  unfold Obligations.AttachAndReplicationCommands
  intro s hlive
  refine ⟨?_, ?_, ?_, ?_, ?_, ?_, ?_, ?_, ?_, ?_, ?_, ?_⟩
  · intro node compat pos activeId digest hcheck
    have hattach := attachReqReceiveOp_begins (activeId := activeId) (d := s.dev.fresh) ((Dev.attachCheck_fresh ..).trans hcheck)
    exact (gives_iff_of_onDev (f := attachReqReceiveOp node compat pos activeId digest) rfl hlive).2 ⟨hattach, Only.of_fresh (attachReqReceiveOp_only ..)⟩
  · intro node a ha hstep hnode
    have heq := attachRspReceiveOp_of_ok (d := s.dev.fresh) ha hstep hnode
    have honly : Only Foot.attachRspReceive s.dev (attachRspReceiveOp node 0 s.dev.fresh) := Only.of_fresh (attachRspReceiveOp_only ..)
    rw [heq] at honly
    refine (gives_iff_of_onDev (f := attachRspReceiveOp node 0) rfl hlive).2 ?_
    rw [heq]
    exact ⟨rfl, honly⟩
  · intro a ha hstep hboundary
    obtain ⟨hrole, hattach, hsent⟩ := attachSnapshotOp_sends (d := s.dev.fresh) ha hstep ((Dev.twinBoundary_fresh _).trans hboundary)
    have hcells : s.dev.fresh.retainCells = s.dev.retainCells := Dev.retainCells_congr (Dev.fresh_mem _)
    rw [hcells] at hsent
    exact (gives_iff_of_onDev (f := attachSnapshotOp) rfl hlive).2 ⟨hrole, hattach, hsent, Only.of_fresh (attachSnapshotOp_only _)⟩
  · intro hon hrole hrefused hauto hdrives haged
    have heq : attachRetryOp s.dev.fresh = s.dev.fresh.attachRequest false := if_pos ⟨hon, hrole, hrefused, hauto, hdrives, haged⟩
    obtain ⟨hjoining, hattach, hclear⟩ := Dev.attachRequest_joins s.dev.fresh false
    have honly : Only Foot.attachRetry s.dev (attachRetryOp s.dev.fresh) := Only.of_fresh (attachRetryOp_only _)
    rw [heq] at honly
    refine (gives_iff_of_onDev (f := attachRetryOp) rfl hlive).2 ?_
    rw [heq]
    exact ⟨hjoining, hattach, hclear, honly⟩
  · intro a ha hstep haged
    have hended := attachWindowTimeoutOp_ends (d := s.dev.fresh) ha hstep haged
    exact (gives_iff_of_onDev (f := attachWindowTimeoutOp) rfl hlive).2 ⟨hended, Only.of_fresh (attachWindowTimeoutOp_only _)⟩
  · intro q epoch off b a ha hstep hoff
    have heq := stateMessageReceiveOp_gathers (q := q) (epoch := epoch) (b := b) (d := s.dev.fresh) ha hstep hoff
    have honly : Only Foot.stateMessageReceive s.dev (stateMessageReceiveOp q 1 epoch off false b s.dev.fresh) :=
      Only.of_fresh (stateMessageReceiveOp_only ..)
    rw [heq] at honly
    refine (gives_iff_of_onDev (f := stateMessageReceiveOp q 1 epoch off false b) rfl hlive).2 ?_
    rw [heq]
    exact ⟨rfl, honly⟩
  · intro q epoch off b a ha hstep hoff hepoch
    obtain ⟨hrole, hshown, hattach⟩ := stateMessageReceiveOp_standby (q := q) (b := b) (d := s.dev.fresh) ha hstep hoff hepoch
    exact (gives_iff_of_onDev (f := stateMessageReceiveOp q 2 epoch off true b) rfl hlive).2
      ⟨hrole, hshown, hattach, Only.of_fresh (stateMessageReceiveOp_only ..)⟩
  · intro q t cycle startNs last b hrole htask hwait
    have heq := inputsReceiveOp_gathers (q := q) (cycle := cycle) (startNs := startNs) (b := b) (d := s.dev.fresh) hrole htask hwait
    have honly : Only Foot.inputsReceive s.dev (inputsReceiveOp q t cycle startNs 0 last b s.dev.fresh) := Only.of_fresh (inputsReceiveOp_only ..)
    rw [heq] at honly
    refine (gives_iff_of_onDev (f := inputsReceiveOp q t cycle startNs 0 last b) rfl hlive).2 ?_
    rw [heq, Dev.twinRun_setTwinRun]
    exact ⟨rfl, rfl, rfl, honly⟩
  · intro t cycle crc x hrole hown hne hlimit
    obtain ⟨hwrong, hcleared⟩ := outputCrcReceiveOp_counts (d := s.dev.fresh) hrole hown hne hlimit
    exact (gives_iff_of_onDev (f := outputCrcReceiveOp t cycle crc) rfl hlive).2 ⟨hwrong, hcleared, Only.of_fresh (outputCrcReceiveOp_only ..)⟩
  · intro q i b x hrole hidle hlines hi hx hb
    subst hb
    obtain ⟨hbytes, hcleared⟩ := retainReceiveOp_stores (q := q) (d := s.dev.fresh) hrole hidle hlines hi hx
    exact (gives_iff_of_onDev (f := retainReceiveOp q (le 4 i ++ x)) rfl hlive).2 ⟨hbytes, hcleared, Only.of_fresh (retainReceiveOp_only ..)⟩
  · intro q st v b hrole hst hv hb
    subst hb
    have heq := streamsReceiveOp_one (q := q) (d := s.dev.fresh) hrole hst hv
    have honly : Only Foot.streamsReceive s.dev (streamsReceiveOp q (le 2 st ++ le 2 v) s.dev.fresh) := Only.of_fresh (streamsReceiveOp_only ..)
    rw [heq] at honly
    refine (gives_iff_of_onDev (f := streamsReceiveOp q (le 2 st ++ le 2 v)) rfl hlive).2 ?_
    rw [heq, Dev.setStream_stream]
    exact ⟨rfl, honly⟩
  · intro q gen b hrole
    obtain ⟨hforces, hgen⟩ := Dev.takeForces_shows s.dev.fresh gen (b.length / 72) b
    have heq := forcesReceiveOp_of_standby (q := q) (gen := gen) (b := b) (d := s.dev.fresh) hrole
    have honly : Only Foot.forcesReceive s.dev (forcesReceiveOp q gen b s.dev.fresh) := Only.of_fresh (forcesReceiveOp_only ..)
    rw [heq] at honly
    refine (gives_iff_of_onDev (f := forcesReceiveOp q gen b) rfl hlive).2 ?_
    rw [heq]
    exact ⟨hforces, hgen, honly⟩

end Sys2Proof

/-! SUPPORT. Gates: what their entries show and what leaves them (R430 to R432, R444). -/

namespace Sys2Proof

open Sys2Proof.Machine

/-! ### Bits of a number -/

theorem bits_setBit_of_lt {x i h l : Nat} (b : Bool) (hlow : i < l) : bits (setBit x i b) h l = bits x h l := bits_setBits_above (Nat.le_refl i) hlow
theorem bits_setBit_of_gt {x i h l : Nat} (b : Bool) (hhigh : h < i) : bits (setBit x i b) h l = bits x h l := bits_setBits_below (Nat.le_refl i) hhigh

/-! ### The entries of the gates -/

/-- A footprint that names no gate. -/
def Foot.sparesGates (F : Foot) : Bool := (List.range 256).all fun g => !gateListed g || F.ents.all (·.lacks (gateEntry g).key)

theorem lt_of_gateListed {g : Nat} (h : gateListed g = true) : g < 256 := by
  by_contra hge
  rw [gateListed_of_ge (by omega)] at h
  exact absurd h (by decide)

theorem Only.get_gate {F : Foot} {a b : Dev} {g : Nat} (h : Only F a b) (hlisted : gateListed g = true) (hspares : F.sparesGates = true)
    (hdict : Part.dict ∉ F.parts := by decide) : b.get (gateEntry g) = a.get (gateEntry g) := by
  have hg := List.all_eq_true.1 hspares g (List.mem_range.2 (lt_of_gateListed hlisted))
  rw [hlisted] at hg
  exact h.get_of_lacks hg hdict

theorem gateEntry_key (g : Nat) : (gateEntry g).key = 2293761 + 256 * (g / 128) + g % 128 := by
  simp only [Entry.key, gateEntry, Ent.Gate.GATE]
  omega

theorem gateEntry_key_ne {g k : Nat} (hne : k ≠ g) : (gateEntry g).key ≠ (gateEntry k).key := by
  rw [gateEntry_key, gateEntry_key]
  omega

theorem Dev.gateState_congr {a b : Dev} {g : Nat} (h : b.get (gateEntry g) = a.get (gateEntry g)) : b.gateState g = a.gateState g := by
  rw [Dev.gateState, Dev.gateState, h]

theorem Dev.gateState_put (d : Dev) (g w : Nat) : (d.put (gateEntry g) w).gateState g = bits w 2 1 := by
  rw [Dev.gateState, Dev.get_put_same]
  exact bits_mod (n := 32) (by decide) (by decide)

theorem Dev.gateState_setGateState (d : Dev) (g : Nat) {st : Nat} (h : st < 4) : (d.setGateState g st).gateState g = st := by
  rw [Dev.setGateState, Dev.gateState_put, bits_setBits_same (by decide)]
  exact Nat.mod_eq_of_lt h

theorem Dev.get_setGateState_other (d : Dev) {g k : Nat} (st : Nat) (hne : k ≠ g) : (d.setGateState k st).get (gateEntry g) = d.get (gateEntry g) :=
  Dev.get_put_other _ _ (gateEntry_key_ne hne)

theorem Dev.gateState_putBit (d : Dev) (g : Nat) (b : Bool) : (d.putBit (gateEntry g) 0 b).gateState g = d.gateState g := by
  rw [Dev.putBit, Dev.gateState_put, bits_setBit_of_lt b (by decide)]
  rfl

/-! ### CODE and the answer -/

theorem Dev.finish_gate (d : Dev) (key : Nat) (s : Status) {g : Nat} (hlisted : gateListed g = true) :
    (d.finish key s).get (gateEntry g) = d.get (gateEntry g) := (Dev.finish_only d key s).get_gate hlisted (by decide +kernel)

theorem Dev.leaseRefused_gate (d : Dev) (k : Nat) (s : Status) {g : Nat} (hlisted : gateListed g = true) :
    (d.leaseRefused k s).get (gateEntry g) = d.get (gateEntry g) := (Dev.leaseRefused_only d k s).get_gate hlisted (by decide +kernel)

/-- A gate write ends with its code in the gate's entry, and its state as it was. -/
theorem Dev.gateDone_shows (d : Dev) {g : Nat} (s : Status) (hlisted : gateListed g = true) :
    (d.gateDone g s).gateState g = d.gateState g ∧ bits ((d.gateDone g s).get (gateEntry g)) 31 16 = s.code := by
  have hset (x : Dev) (hx : x.get (gateEntry g) = d.get (gateEntry g)) :
      (x.setGateCode g s).gateState g = d.gateState g ∧ bits ((x.setGateCode g s).get (gateEntry g)) 31 16 = s.code := by
    have hcode := s.code_lt
    constructor
    · rw [Dev.setGateCode, Dev.gateState_put, bits_setBits_below (by decide) (by decide), hx]
      rfl
    · rw [Dev.setGateCode, Dev.get_put_same]
      exact (bits_mod (n := 32) (by decide) (by decide)).trans ((bits_setBits_same (by decide)).trans (Nat.mod_eq_of_lt hcode))
  unfold Dev.gateDone
  dsimp only
  rw [Dev.gateState_congr (Dev.finish_gate _ _ _ hlisted), Dev.finish_gate _ _ _ hlisted]
  split
  · exact hset _ (Dev.leaseRefused_gate _ _ _ hlisted)
  · exact hset _ rfl

/-- What a write sets beside STATE: REQ, AUTO and the enables of Table 18.9. -/
theorem Dev.gateBits_state (d : Dev) (g v : Nat) : (d.gateBits g v).gateState g = d.gateState g := by
  have henables (w : Nat) : bits ((gateEnables g).foldl (fun w i => setBit w i (bit v i)) w) 2 1 = bits w 2 1 := by
    refine foldl_keeps_of_mem (g := fun w => bits w 2 1) _ (fun w i hi => ?_) w
    have hover : 2 < i := by
      unfold gateEnables at hi
      split at hi
      · simp only [List.mem_singleton] at hi; omega
      · split at hi
        · simp only [List.mem_singleton] at hi; omega
        · exact absurd hi (by simp)
    exact bits_setBit_of_gt _ hover
  unfold Dev.gateBits
  dsimp only
  rw [Dev.gateState_put, henables, bits_setBit_of_lt _ (by decide)]
  split
  · rfl
  · rw [bits_setBit_of_gt _ (by decide)]
    rfl

/-! ### Gates going on and off -/

theorem domSource_key_ne {g k : Nat} (hlisted : gateListed g = true) (hk : k ≤ 3) : (gateEntry g).key ≠ (Ent.Dom.SOURCE k).key := by
  have hg := lt_of_gateListed hlisted
  rw [gateEntry_key]
  simp only [Entry.key, Ent.Dom.SOURCE]
  omega

theorem Dev.domStarts_gate (d : Dev) {g k : Nat} (hlisted : gateListed g = true) (hk : k ≤ 3) :
    (d.domStarts k).get (gateEntry g) = d.get (gateEntry g) := by
  unfold Dev.domStarts
  dsimp only
  split
  · rfl
  · exact ((Dev.islandsRun_only ..).get_gate hlisted (by decide +kernel)).trans (Dev.get_put_other _ _ (domSource_key_ne hlisted hk))

/-- A PLL that stops or starts leaves the gates. -/
theorem Dev.pllGate_gate (d : Dev) (k : Nat) (on : Bool) {g : Nat} (hlisted : gateListed g = true) :
    (d.pllGate k on).get (gateEntry g) = d.get (gateEntry g) := by
  unfold Dev.pllGate
  split
  next hpll =>
    extract_lets k'
    have hk : k' ≤ 3 := by
      simp only [k']
      split <;> omega
    have hset (x : Dev) (f : ClkDom → ClkDom) : (x.setDom k' f).get (gateEntry g) = x.get (gateEntry g) := rfl
    split
    · exact Dev.domStarts_gate d hlisted hk
    · rw [(Dev.domLinksDown_only ..).get_gate hlisted (by decide +kernel), hset, Dev.get_put_other _ _ (domSource_key_ne hlisted hk)]
  next => rfl

theorem Dev.unitResetState_gate (d : Dev) (k : Nat) {g : Nat} (hlisted : gateListed g = true) :
    (d.unitResetState k).get (gateEntry g) = d.get (gateEntry g) := (Dev.unitResetState_only d k).get_gate hlisted (by decide +kernel)

theorem Dev.gateUp_other (d : Dev) {g k : Nat} (hlisted : gateListed g = true) (hne : k ≠ g) : (d.gateUp k).get (gateEntry g) = d.get (gateEntry g) := by
  unfold Dev.gateUp
  split
  · rw [Dev.unitResetState_gate _ _ hlisted, Dev.pllGate_gate _ _ _ hlisted, Dev.putBit, Dev.get_put_other _ _ (gateEntry_key_ne hne),
      Dev.get_setGateState_other _ _ hne]
  · split
    · exact Dev.get_setGateState_other _ _ hne
    · rfl

theorem Dev.gateUp_on (d : Dev) {g : Nat} (hlisted : gateListed g = true) (h : d.gateState g ≤ 2) : (d.gateUp g).gateState g = 1 := by
  unfold Dev.gateUp
  split
  · rw [Dev.gateState_congr (Dev.unitResetState_gate _ _ hlisted), Dev.gateState_congr (Dev.pllGate_gate _ _ _ hlisted), Dev.gateState_putBit,
      Dev.gateState_setGateState _ _ (by decide)]
  · split
    · exact Dev.gateState_setGateState _ _ (by decide)
    · omega

/-- The gates above a gate, from the root down. -/
def gatesAbove (g : Nat) : List Nat := (gateLine g).dropLast

theorem gateLine_eq (g : Nat) : gateLine g = gatesAbove g ++ [g] := by
  unfold gatesAbove gateLine
  extract_lets up a b c
  rw [List.dropLast_concat]

theorem ne_of_mem_gatesAbove {g k : Nat} (hlisted : gateListed g = true) (h : k ∈ gatesAbove g) : k ≠ g :=
  (show ∀ g < 256, gateListed g = true → ∀ k ∈ gatesAbove g, k ≠ g by decide +kernel) g (lt_of_gateListed hlisted) hlisted k h

/-- A step over a gate's line that leaves other gates comes to the gate with its entry as it was. -/
theorem gateLine_foldl {g : Nat} (hlisted : gateListed g = true) {f : Dev → Nat → Dev}
    (hf : ∀ d k, k ≠ g → (f d k).get (gateEntry g) = d.get (gateEntry g)) (d : Dev) :
    ∃ x, (gateLine g).foldl f d = f x g ∧ x.get (gateEntry g) = d.get (gateEntry g) := by
  refine ⟨(gatesAbove g).foldl f d, ?_, ?_⟩
  · rw [gateLine_eq, List.foldl_append]
    rfl
  · exact foldl_keeps_of_mem (g := fun d : Dev => d.get (gateEntry g)) _ (fun d k hk => hf d k (ne_of_mem_gatesAbove hlisted hk)) d

theorem Dev.gateDown_off (d : Dev) {g : Nat} (hlisted : gateListed g = true) : (d.gateDown g).gateState g = 0 := by
  have hoff : ((d.setGateState g 0).pllGate g false).gateState g = 0 :=
    (Dev.gateState_congr (Dev.pllGate_gate _ _ _ hlisted)).trans (Dev.gateState_setGateState _ _ (by decide))
  have hzero (x : Dev) (a n : Nat) : (x.zeroMem a n).gateState g = x.gateState g :=
    Dev.gateState_congr ((Dev.zeroMem_only x a n).get_gate hlisted (by decide +kernel))
  unfold Dev.gateDown
  extract_lets x
  split
  · exact (hzero ..).trans hoff
  · split
    · exact (hzero ..).trans hoff
    · exact hoff

/-! ### The gate commands -/

theorem gateOnOp_on {g v : Nat} {secure : Bool} {d : Dev} (hlisted : gateListed g = true) (hvalue : gateWriteOk g v = true)
    (hlowers : d.lowers g v secure = false) (hloss : d.flag Ent.Clk.REF_LOSS = false) (hstate : d.gateState g ≤ 2) :
    (gateOnOp g v secure d).gateState g = 1 ∧ bits ((gateOnOp g v secure d).get (gateEntry g)) 31 16 = Status.ok.code := by
  obtain ⟨x, hline, hx⟩ := gateLine_foldl hlisted (f := Dev.gateUp) (fun d k hne => Dev.gateUp_other d hlisted hne) d
  have hon : ((gateLine g).foldl Dev.gateUp d).gateState g = 1 := by
    rw [hline]
    exact Dev.gateUp_on x hlisted ((Dev.gateState_congr hx).trans_le hstate)
  have heq : gateOnOp g v secure d = (((gateLine g).foldl Dev.gateUp d).gateBits g (setBit v 0 true)).gateDone g .ok := by
    rw [gateOnOp, if_neg (by simp [hlisted]), if_neg (by simp [hvalue]), if_neg (by simp [hlowers]), if_neg (by simp [hloss])]
  obtain ⟨hkept, hcode⟩ := Dev.gateDone_shows (((gateLine g).foldl Dev.gateUp d).gateBits g (setBit v 0 true)) .ok hlisted
  rw [heq]
  exact ⟨hkept.trans ((Dev.gateBits_state ..).trans hon), hcode⟩

theorem gateOffOp_off {g v : Nat} {secure : Bool} {d : Dev} (hlisted : gateListed g = true) (hvalue : gateWriteOk g v = true)
    (hfault : d.gateOffFault g secure = .ok) (hlowers : d.lowers g v secure = false) :
    (gateOffOp g v secure d).gateState g = 0 ∧ bits ((gateOffOp g v secure d).get (gateEntry g)) 31 16 = Status.ok.code := by
  have heq : gateOffOp g v secure d = ((d.gateDown g).gateBits g (setBit v 0 false)).gateDone g .ok := by
    rw [gateOffOp, if_neg (by simp [hlisted]), if_neg (by simp [hvalue]), hfault]
    exact if_neg (by simp [hlowers])
  obtain ⟨hkept, hcode⟩ := Dev.gateDone_shows ((d.gateDown g).gateBits g (setBit v 0 false)) .ok hlisted
  rw [heq]
  exact ⟨hkept.trans ((Dev.gateBits_state ..).trans (Dev.gateDown_off d hlisted)), hcode⟩

theorem gateOffOp_refused {g v : Nat} {secure : Bool} {st : Status} {d : Dev} (hlisted : gateListed g = true) (hvalue : gateWriteOk g v = true)
    (hfault : d.gateOffFault g secure = st) (hst : st ≠ .ok) : gateOffOp g v secure d = d.gateDone g st := by
  rw [gateOffOp, if_neg (by simp [hlisted]), if_neg (by simp [hvalue]), hfault]
  split
  · exact absurd rfl hst
  · rfl

theorem gateUnparkOp_on {g : Nat} {d : Dev} (hlisted : gateListed g = true) (hstate : d.gateState g = 2) : (gateUnparkOp g d).gateState g = 1 := by
  have hother (d : Dev) (k : Nat) (hne : k ≠ g) : (if d.gateState k = 2 then d.setGateState k 1 else d).get (gateEntry g) = d.get (gateEntry g) := by
    split
    · exact Dev.get_setGateState_other _ _ hne
    · rfl
  obtain ⟨x, hline, hx⟩ := gateLine_foldl hlisted hother d
  rw [gateUnparkOp, if_pos ⟨hlisted, hstate⟩, hline, if_pos ((Dev.gateState_congr hx).trans hstate)]
  exact Dev.gateState_setGateState _ _ (by decide)

/-! ### UNIT_RESET -/

theorem unitResetOp_trigger {v : Nat} {secure : Bool} {d : Dev} (hlow : 160 ≤ v) (hhigh : v ≤ 191) (hfree : secure = true ∨ d.leased v = false) :
    unitResetOp v secure d = ((d.count (powerCounter 4)).eventSys 6 (srcPower 0) 0x0024 v).finish Ent.Pwr.UNIT_RESET.key .ok := by
  have hlisted : gateListed v = true := (gateListed_iff_inTable v).2 (by simp only [InTable]; omega)
  have hcore : gateCoreOf v = none := by rw [gateCoreOf, if_neg (by omega), if_neg (by omega)]
  have hlease : ¬ (!secure && d.leased v) = true := by rcases hfree with h | h <;> simp [h]
  have hok : d.unitResetFault v secure = .ok := by
    rw [Dev.unitResetFault, if_neg (by omega), if_neg (by simp [hlisted]), if_neg (by omega), hcore, if_neg (by simp), if_neg hlease]
  have hstate : d.unitResetState v = d := by
    unfold Dev.unitResetState
    repeat rw [if_neg (by omega)]
  have hgroup : ¬ 0x1000 ≤ v := by omega
  unfold unitResetOp
  rw [hok]
  dsimp only
  rw [if_neg hgroup, hstate]

/-- The entries of a trigger unit that UNIT_RESET leaves. -/
theorem Dev.unitReset_counts (d : Dev) (v : Nat) {e : Entry} (hfoot : foot109.ents.all (·.lacks e.key) = true) (hlog : e.key ∉ logKeys) :
    (((d.count (powerCounter 4)).eventSys 6 (srcPower 0) 0x0024 v).finish Ent.Pwr.UNIT_RESET.key .ok).get e = (d.count (powerCounter 4)).get e := by
  rw [(Dev.finish_only ..).get_of_lacks hfoot (by decide), Dev.eventSys_get _ _ _ _ _ _ hlog]

theorem unitResetOp_refused {v : Nat} {secure : Bool} {d : Dev} (hlisted : gateListed v = false) (hgroup : v < 0x1000 ∨ 0x1002 < v)
    (hwaits : KV.find Ent.Pwr.UNIT_RESET.key d.d0.waits = none) :
    unitResetOp v secure d = d.answer (if v ≤ 767 then .noSubindex else .outOfRange) := by
  have hother : ¬ (0x1000 ≤ v ∧ v ≤ 0x1002) := by omega
  by_cases hv : v ≤ 767
  case pos =>
    have hfault : d.unitResetFault v secure = .noSubindex := by rw [Dev.unitResetFault, if_neg hother, if_pos ⟨hv, hlisted⟩]
    rw [if_pos hv, unitResetOp, hfault]
    exact Dev.finish_of_none _ hwaits
  case neg =>
    have hfault : d.unitResetFault v secure = .outOfRange := by
      rw [Dev.unitResetFault, if_neg hother, if_neg (fun h => hv h.1), if_pos (by omega)]
    rw [if_neg hv, unitResetOp, hfault]
    exact Dev.finish_of_none _ hwaits

theorem trigger_spared {v : Nat} (hlow : 160 ≤ v) (hhigh : v ≤ 191) :
    ∀ e ∈ [Ent.Trgu.ENABLE (v - 160), Ent.Trgu.NEXT_NS (v - 160)], foot109.ents.all (·.lacks e.key) = true ∧ e.key ∉ logKeys ∧
      e.key ≠ (powerCounter 4).entry.key ∧ e.key ≠ (powerCounter 4).satEntry.key := by
  have hall : ∀ i < 32, ∀ e ∈ [Ent.Trgu.ENABLE i, Ent.Trgu.NEXT_NS i], foot109.ents.all (·.lacks e.key) = true ∧ e.key ∉ logKeys ∧
      e.key ≠ (powerCounter 4).entry.key ∧ e.key ≠ (powerCounter 4).satEntry.key := by decide +kernel
  exact hall (v - 160) (by omega)

theorem unitResetOp_trigger_shows {v : Nat} {secure : Bool} {d : Dev} (hlow : 160 ≤ v) (hhigh : v ≤ 191) (hfree : secure = true ∨ d.leased v = false) :
    (∀ e ∈ [Ent.Trgu.ENABLE (v - 160), Ent.Trgu.NEXT_NS (v - 160)], (unitResetOp v secure d).get e = d.get e) ∧
      (unitResetOp v secure d).get (powerCounter 4).entry = min (d.get (powerCounter 4).entry + 1) (2 ^ 64 - 1) := by
  rw [unitResetOp_trigger hlow hhigh hfree]
  constructor
  · intro e he
    obtain ⟨hfoot, hlog, hcount, hsat⟩ := trigger_spared hlow hhigh e he
    rw [Dev.unitReset_counts d v hfoot hlog]
    exact Dev.count_get_other d _ _ _ _ 1 hcount hsat hlog
  · rw [Dev.unitReset_counts d v (by decide) (by decide)]
    exact Dev.count_get_same d _ _ _ _ 1 rfl (by decide) (by decide)

/-- Settles O31, command by command. -/
theorem gateAndUnitResetCommands : Obligations.GateAndUnitResetCommands := by
  unfold Obligations.GateAndUnitResetCommands
  intro s hlive
  refine ⟨?_, ?_, ?_, ?_, ?_, ?_, ?_⟩
  · intro g v secure hlisted hvalue hlowers hloss hstate
    obtain ⟨hon, hcode⟩ := gateOnOp_on (d := s.dev.fresh) hlisted hvalue hlowers hloss hstate
    exact (gives_iff_of_onDev (f := gateOnOp g v secure) rfl hlive).2 ⟨hon, hcode, Only.of_fresh (gateOnOp_only ..)⟩
  · intro g v secure hlisted hvalue hfault hlowers
    obtain ⟨hoff, hcode⟩ := gateOffOp_off (d := s.dev.fresh) hlisted hvalue hfault hlowers
    exact (gives_iff_of_onDev (f := gateOffOp g v secure) rfl hlive).2 ⟨hoff, hcode, Only.of_fresh (gateOffOp_only ..)⟩
  · intro g v secure st hlisted hvalue hfault hst
    have heq := gateOffOp_refused (d := s.dev.fresh) hlisted hvalue hfault hst
    obtain ⟨hkept, hcode⟩ := Dev.gateDone_shows s.dev.fresh st hlisted
    have honly : Only Foot.gateOff s.dev (gateOffOp g v secure s.dev.fresh) := Only.of_fresh (gateOffOp_only ..)
    rw [heq] at honly
    refine (gives_iff_of_onDev (f := gateOffOp g v secure) rfl hlive).2 ?_
    rw [heq]
    exact ⟨hkept, hcode, honly⟩
  · intro g hlisted hunit hstate hauto hidle
    have heq : gateParkOp g s.dev.fresh = s.dev.fresh.setGateState g 2 := if_pos ⟨hlisted, hunit, hstate, hauto, hidle⟩
    have honly : Only Foot.gatePark s.dev (gateParkOp g s.dev.fresh) := Only.of_fresh (gateParkOp_only ..)
    rw [heq] at honly
    refine (gives_iff_of_onDev (f := gateParkOp g) rfl hlive).2 ?_
    rw [heq]
    exact ⟨Dev.gateState_setGateState _ _ (by decide), honly⟩
  · intro g hlisted hstate
    have hon := gateUnparkOp_on (d := s.dev.fresh) hlisted hstate
    exact (gives_iff_of_onDev (f := gateUnparkOp g) rfl hlive).2 ⟨hon, Only.of_fresh (gateUnparkOp_only ..)⟩
  · intro v secure hlow hhigh hfree
    obtain ⟨hkept, hcount⟩ := unitResetOp_trigger_shows (d := s.dev.fresh) hlow hhigh hfree
    exact (gives_iff_of_onDev (f := unitResetOp v secure) rfl hlive).2
      ⟨hkept _ (by simp), hkept _ (by simp), hcount, Only.of_fresh (unitResetOp_only ..)⟩
  · intro v secure hlisted hgroup hwaits
    have heq := unitResetOp_refused (secure := secure) (d := s.dev.fresh) hlisted hgroup hwaits
    refine (gives_iff_of_onDev (f := unitResetOp v secure) rfl hlive).2 ?_
    rw [heq]
    exact ⟨rfl, Only.of_fresh (Only.refl.answer ..)⟩

end Sys2Proof

/-! SUPPORT. Which halls move, freeze or arrive: what events, messages and answers leave of it (R384, R387 to R390). -/

namespace Sys2Proof

open Sys2Proof.Machine

/-- The migration under way, the halls that a FREEZE brings to rest, and those that arrive. Stores touch beside it the dirty pages, answers the mailboxes that
are mute. -/
def Machine.Dev.moves (d : Dev) : Option Migration × List Nat × List (Nat × List (Nat × Nat)) × List Nat :=
  (d.tenants.mig, d.tenants.freezing, d.tenants.reserved, d.tenants.arrived)

theorem Dev.moves_of_tenants {a b : Dev} (h : b.tenants = a.tenants) : b.moves = a.moves := by rw [Dev.moves, Dev.moves, h]

theorem Only.moves_eq {F : Foot} {a b : Dev} (h : Only F a b) (htenants : Part.tenants ∉ F.parts := by decide) : b.moves = a.moves :=
  Dev.moves_of_tenants (h.keep .tenants htenants)

theorem Dev.mig_of_moves {a b : Dev} (h : b.moves = a.moves) : b.tenants.mig = a.tenants.mig := congrArg Prod.fst h
theorem Dev.freezing_of_moves {a b : Dev} (h : b.moves = a.moves) : b.tenants.freezing = a.tenants.freezing := congrArg (·.2.1) h
theorem Dev.reserved_of_moves {a b : Dev} (h : b.moves = a.moves) : b.tenants.reserved = a.tenants.reserved := congrArg (·.2.2.1) h
theorem Dev.arrived_of_moves {a b : Dev} (h : b.moves = a.moves) : b.tenants.arrived = a.tenants.arrived := congrArg (·.2.2.2) h

@[simp] theorem Dev.setFld_moves (d : Dev) (f : Field) (v : Nat) : (d.setFld f v).moves = d.moves := Dev.moves_of_tenants (Dev.setFld_tenants ..)
@[simp] theorem Dev.put_moves (d : Dev) (e : Entry) (v : Nat) : (d.put e v).moves = d.moves := Dev.moves_of_tenants (Dev.put_tenants ..)
@[simp] theorem Dev.putBit_moves (d : Dev) (e : Entry) (i : Nat) (b : Bool) : (d.putBit e i b).moves = d.moves := Dev.moves_of_tenants (Dev.putBit_tenants ..)
@[simp] theorem Dev.count_moves (d : Dev) (c : Counter) (n : Nat) : (d.count c n).moves = d.moves := Dev.moves_of_tenants (Dev.count_tenants ..)
@[simp] theorem Dev.event_moves (d : Dev) (source code data : Nat) : (d.event source code data).moves = d.moves := Dev.moves_of_tenants (Dev.event_tenants ..)

/-! ### Stores -/

theorem Dev.writeMem_moves (d : Dev) (a : Nat) (b : Bytes) : (d.writeMem a b).moves = d.moves := by
  have htouch (x : Dev) (a n : Nat) : (x.touch a n).moves = x.moves := by
    unfold Dev.touch
    split <;> rfl
  have hcure (x : Dev) (a n : Nat) : (x.cure a n).moves = x.moves := by
    unfold Dev.cure
    split <;> rfl
  rw [Dev.writeMem, htouch, hcure]
  exact Dev.moves_of_tenants (Dev.putBytes_keeps_tenants ..)

theorem Dev.storeMem_moves (d : Dev) (a : Nat) (b : Bytes) : (d.storeMem a b).moves = d.moves := by
  unfold Dev.storeMem
  refine (foldl_keeps (g := Dev.moves) (fun d k => ?_) _ _).trans (Dev.writeMem_moves ..)
  dsimp only
  split
  · exact Dev.writeMem_moves ..
  · rfl

theorem Dev.hallWrite_moves (d : Dev) (h a : Nat) (b : Bytes) : (d.hallWrite h a b).2.moves = d.moves := by
  unfold Dev.hallWrite
  split
  · rfl
  · split
    · exact Dev.storeMem_moves ..
    · rfl

/-! ### Records -/

theorem Dev.ringPut_moves (d : Dev) (h : Nat) (l : List LogRec) : (d.ringPut h l).2.moves = d.moves := by
  induction l generalizing d with
  | nil => rfl
  | cons r rest ih =>
    have hwrite := Dev.hallWrite_moves d h (d.ringBase h + 16 * d.fld (Rg.Hpg.RING_HEAD h)) r.bytes
    unfold Dev.ringPut
    split
    next d' hd' =>
      rw [hd'] at hwrite
      exact (ih _).trans hwrite
    next s d' _ hd' =>
      rw [hd'] at hwrite
      exact hwrite

theorem Dev.loseRecs_moves (d : Dev) (k : SinkId) (n : Nat) : (d.loseRecs k n).moves = d.moves := by
  unfold Dev.loseRecs Dev.setSinkMeta
  cases k with
  | device => exact (Dev.put_moves ..).trans rfl
  | secure => rfl
  | ring h => exact (Dev.put_moves ..).trans rfl

theorem Dev.writeGroup_moves (d : Dev) (k : SinkId) (e : Ev) : (d.writeGroup k e).2.moves = d.moves := by
  have hmeta (x : Dev) (k : SinkId) (m : SinkMeta) : (x.setSinkMeta k m).moves = x.moves := by cases k <;> rfl
  have hput (l : List LogRec) : (d.sinkPut k l).2.moves = d.moves := by
    cases k with
    | device => rfl
    | secure => rfl
    | ring h => exact Dev.ringPut_moves ..
  unfold Dev.writeGroup
  dsimp only
  generalize numberRecs d.logs.seq (d.group k e) = l
  split
  · have hg := hput l
    split
    next d' hd' =>
      rw [hd'] at hg
      rw [hmeta, Dev.put_moves]
      exact hg
    next => exact (Dev.loseRecs_moves ..).trans rfl
  · exact (Dev.loseRecs_moves ..).trans rfl

theorem Dev.logDevice_moves (d : Dev) (e : Ev) : (d.logDevice e).moves = d.moves := by
  unfold Dev.logDevice
  split
  · dsimp only
    split
    · exact (Dev.writeGroup_moves ..).trans (Dev.writeGroup_moves ..)
    · exact Dev.writeGroup_moves ..
  · rfl

theorem Dev.ringSat_moves (d old : Dev) (h : Nat) : (d.ringSat old h).moves = d.moves := by
  unfold Dev.ringSat
  split
  · rw [Dev.logDevice_moves, Dev.putBit_moves]
  · rfl

theorem Dev.logRing0_moves (d : Dev) (e : Ev) : (d.logRing0 e).moves = d.moves := by
  have hgroup := Dev.writeGroup_moves d (.ring 0) e
  unfold Dev.logRing0
  split
  next d' hd' =>
    rw [hd'] at hgroup
    exact (Dev.ringSat_moves ..).trans hgroup
  next s d' _ hd' =>
    rw [hd'] at hgroup
    rw [Dev.ringSat_moves, Dev.logDevice_moves, Dev.setFld_moves, hgroup]

theorem Dev.holdRecord_moves (d : Dev) (h : Nat) (e : Ev) : (d.holdRecord h e).moves = d.moves := by
  unfold Dev.holdRecord
  extract_lets l n consumed
  split
  · rfl
  · rw [Dev.ringSat_moves, Dev.loseRecs_moves]
    rfl

theorem Dev.logRing_moves (d : Dev) (h : Nat) (e : Ev) : (d.logRing h e).moves = d.moves := by
  have hgroup := Dev.writeGroup_moves d (.ring h) e
  unfold Dev.logRing
  split
  · rfl
  · split
    · exact Dev.logRing0_moves ..
    · split
      · exact Dev.holdRecord_moves ..
      · split
        next d' hd' =>
          rw [hd'] at hgroup
          exact (Dev.ringSat_moves ..).trans hgroup
        next s d' _ hd' =>
          rw [hd'] at hgroup
          rw [Dev.ringSat_moves, Dev.logRing0_moves, Dev.logDevice_moves, Dev.setFld_moves, hgroup]

theorem Dev.eventRing_moves (d : Dev) (h source code data : Nat) (ext : Option Bytes) : (d.eventRing h source code data ext).moves = d.moves :=
  Dev.logRing_moves ..

/-! ### Messages to the partner -/

theorem Dev.ctrl_moves (d : Dev) (msg : Nat) (body : Bytes) (q : Nat) : (d.ctrl msg body q).moves = d.moves := by
  unfold Dev.ctrl
  split
  · rfl
  · rw [Dev.ctrlOn, Dev.count_moves, Dev.count_moves, (Dev.putFrame_only ..).moves_eq]

theorem Dev.migSend_moves (d : Dev) (k h : Nat) (b : Bytes) : (d.migSend k h b).moves = d.moves := (Dev.ctrl_moves ..).trans rfl

/-! ### Answers -/

theorem Dev.sdoSend_moves (d : Dev) (n : Nat) (s : Status) (b : Bytes) : (d.sdoSend n s b).moves = d.moves := by
  unfold Dev.sdoSend Dev.svcSend Dev.svcQueue
  split
  · rfl
  · split
    · exact (Dev.count_moves ..).trans rfl
    · rfl

theorem Dev.sdoAnswer_moves (d : Dev) (n : Nat) (s : Status) (b : Bytes) : (d.sdoAnswer n s b).moves = d.moves := by
  have hsdo (x : Dev) (n : Nat) (y : SdoState) : (x.setSdo n y).moves = x.moves := (Dev.setSdo_only ..).moves_eq
  unfold Dev.sdoAnswer
  split
  · split
    · rw [Dev.sdoAbort, Dev.sdoSend_moves, hsdo]
    · dsimp only
      split
      · rw [Dev.sdoSend_moves, hsdo]
      · split <;> rw [Dev.sdoSend_moves, hsdo]
  · rfl

theorem Dev.countDrop_moves (d : Dev) (p c i : Nat) (w : Drop) : (d.countDrop p c i w).moves = d.moves := by
  cases w with
  | ecc => exact (Dev.count_moves ..).trans (Dev.count_moves ..)
  | _ => exact Dev.count_moves ..

theorem Dev.sendTcm_moves (d : Dev) (p : Nat) (f : Frame) : (d.sendTcm p f).moves = d.moves := by
  unfold Dev.sendTcm
  dsimp only
  split
  · exact (Dev.enqueue_only ..).moves_eq.trans rfl
  · exact Dev.countDrop_moves ..
  · rfl

theorem Dev.sendSwitched_moves (d : Dev) (vid : Nat) (f : Frame) (n : Nat) : (d.sendSwitched vid f n).moves = d.moves := by
  unfold Dev.sendSwitched
  extract_lets v ports
  split
  · rfl
  · exact foldl_keeps (g := Dev.moves) (fun d q => Dev.sendTcm_moves ..) _ _

theorem Dev.ndpRespond_moves (d : Dev) (o : Origin) (op : Nat) (status : Status) (payload : Bytes) :
    (d.ndpRespond o op status payload).moves = d.moves := by
  unfold Dev.ndpRespond
  split
  · rfl
  · unfold Dev.ndpSend
    exact (Dev.sendSwitched_moves ..).trans rfl

theorem Dev.mbDone_moves (d : Dev) (len total code busy done : Field) (data : Nat → Field) (read : Bool) (status : Status) (tot : Nat) (b : Bytes) :
    (d.mbDone len total code busy done data read status tot b).moves = d.moves := by
  have hbytes (d : Dev) (w : Nat → Field) (b : Bytes) : (d.setMbBytes w b).moves = d.moves := by
    unfold Dev.setMbBytes
    exact foldl_keeps (g := Dev.moves) (fun d x => Dev.setFld_moves ..) _ _
  unfold Dev.mbDone
  split <;> simp [hbytes]

/-- An answer leaves the halls that move. -/
theorem Dev.respond_moves (d : Dev) (o : Origin) (read : Bool) (status : Status) (desc : Bytes) (total : Nat) (b : Bytes) :
    (d.respond o read status desc total b).moves = d.moves := by
  unfold Dev.respond
  extract_lets d' body
  split
  · exact (Dev.sdoAnswer_moves ..).trans rfl
  · exact (Dev.ndpRespond_moves ..).trans rfl
  · exact (Dev.ctrl_moves ..).trans rfl
  · rfl
  · split
    · exact (Dev.bridgeDictDone_only ..).moves_eq.trans rfl
    · split
      · rfl
      · exact (Dev.mbDone_moves ..).trans rfl
  · exact (Dev.mbDone_moves ..).trans rfl

theorem Dev.finish_moves (d : Dev) (key : Nat) (s : Status) : (d.finish key s).moves = d.moves := by
  unfold Dev.finish
  split
  · rfl
  · exact (Dev.respond_moves ..).trans rfl

/-! ### Bridge sessions -/

theorem Dev.limited_moves {d : Dev} {scope n : Nat} {f : Dev → Nat → Dev} (hf : ∀ d k, (f d k).moves = d.moves) : (d.limited scope n f).moves = d.moves :=
  Dev.limited_keeps hf fun _ _ => rfl

theorem Dev.ctxCount_moves (d : Dev) (u sid i n : Nat) : (d.ctxCount u sid i n).moves = d.moves := by
  unfold Dev.ctxCount
  split
  · exact Dev.count_moves ..
  · rfl

theorem Dev.pollFailed_moves (d : Dev) (u e : Nat) (s : Status) (far : Nat) : (d.pollFailed u e s far).moves = d.moves := by
  unfold Dev.pollFailed
  dsimp only
  rw [Dev.limited_moves fun x k => (Dev.eventRing_moves ..).trans (Dev.event_moves ..), Dev.setFld_moves, Dev.setFld_moves]

theorem Dev.settleFail_moves (d : Dev) (u sid : Nat) (r : BReq) (s : Status) (far : Nat) : (d.settleFail u sid r s far).moves = d.moves := by
  have hbst (x : Dev) (u k c f a : Nat) : (x.bstFail u k c f a).moves = x.moves := (Dev.bstFail_only ..).moves_eq
  have hreq (x : Dev) (r : BReq) (s : Status) (v : Nat) : (x.completeReq r s v).moves = x.moves := (Dev.completeReq_only ..).moves_eq
  have hctx (x : Dev) (f : BCtx → BCtx) : (x.setBrCtx u sid f).moves = x.moves := (Dev.setBrCtx_only ..).moves_eq
  have hquery (x : Dev) (s : Status) (v : Nat) : (x.queryDone s v).moves = x.moves := (Dev.queryDone_only ..).moves_eq
  have hremote (x : Dev) (s : Status) (f : Option Nat) : (x.remoteMbDone u sid s f none).moves = x.moves := (Dev.remoteMbDone_only ..).moves_eq
  have hposted (x : Dev) (a b c e f g : Nat) : (x.postedFail a b c e f g).moves = x.moves := Dev.eventRing_moves ..
  have hcount : ((if s = .remoteTimeout then d.ctxCount u sid 3 else d.ctxCount u sid 2) : Dev).moves = d.moves := by
    split <;> exact Dev.ctxCount_moves ..
  have hread (x : Dev) (v : Nat) (hx : x.moves = d.moves) : ((if s = .aborted then x.completeReq r .aborted v
      else if (r.gone && r.msg.spec) = true then x else (x.bstFail u sid s.code far r.addr).completeReq r .ok v) : Dev).moves = d.moves := by
    split
    · rw [hreq, hx]
    · split
      · exact hx
      · rw [hreq, hbst, hx]
  have hpost (x : Dev) (hx : x.moves = d.moves) :
      ((x.setBrCtx u sid fun c => c.postFailed r.msg.tag (s == .remoteTimeout)).postedFail (srcBridge u sid) r.hall r.epoch r.msg.tag r.msg.addr
        s.code).moves = d.moves := by rw [hposted, hctx, hx]
  have hmailbox (x : Dev) (hx : x.moves = d.moves) : ((if r.initiator = srcTwin then x.queryDone s far else
      x.remoteMbDone u sid s (if s = .remoteFailed ∨ s = .remoteTimeout then some far else none) none) : Dev).moves = d.moves := by
    split
    · rw [hquery, hx]
    · rw [hremote, hx]
  unfold Dev.settleFail
  dsimp only
  split
  · exact hread _ _ hcount
  · exact hread _ _ hcount
  · exact hread _ _ hcount
  · exact hpost _ hcount
  · exact hpost _ hcount
  · exact hmailbox _ hcount
  · exact hmailbox _ hcount
  · split
    · exact (Dev.pollFailed_moves ..).trans hcount
    · exact hcount
  · exact hcount

theorem Dev.bridgeConnect_moves (d : Dev) (u sid : Nat) : (d.bridgeConnect u sid).moves = d.moves := by
  have hsess (x : Dev) (f : BSess → BSess) : (x.setBrSess u sid f).moves = x.moves := (Dev.setBrSess_only ..).moves_eq
  unfold Dev.bridgeConnect
  dsimp only
  split
  · exact (foldl_keeps (g := Dev.moves) (fun d r => Dev.settleFail_moves ..) _ _).trans (hsess ..)
  · rw [(Dev.showSession_only ..).moves_eq, (Dev.sessSend_only ..).moves_eq, hsess]
    exact (Dev.draw_only d 128).moves_eq

theorem Dev.pump_moves (d : Dev) (u sid : Nat) : (d.pump u sid).moves = d.moves := by
  have hdone (x : Dev) : (if sid < 64 then x.refreshPwDone u sid else x).moves = x.moves := by
    split
    · exact (Dev.refreshPwDone_only ..).moves_eq
    · rfl
  unfold Dev.pump
  extract_lets s x
  refine (hdone x).trans ?_
  simp only [x]
  split
  · rfl
  · split
    · exact Dev.bridgeConnect_moves ..
    · exact (Dev.issueWaiting_only ..).moves_eq

/-! ### Halls -/

theorem Dev.hallEvent_moves (d : Dev) (h code data : Nat) : (d.hallEvent h code data).moves = d.moves :=
  (Dev.eventRing_moves ..).trans (Dev.event_moves ..)

theorem Dev.writeHeld_moves (d : Dev) (h : Nat) : (d.writeHeld h).moves = d.moves :=
  (foldl_keeps (g := Dev.moves) (fun d e => Dev.logRing_moves d h e) _ _).trans rfl

theorem Dev.setHall_moves (d : Dev) (h s : Nat) : (d.setHall h s).moves = d.moves := by
  have hshown : ((d.put (Ent.Hall.STATE h) s).hallEvent h 0x20 (d.hallState h * 256 + s)).moves = d.moves := by rw [Dev.hallEvent_moves, Dev.put_moves]
  unfold Dev.setHall
  dsimp only
  split
  · exact (Dev.writeHeld_moves ..).trans hshown
  · exact hshown

theorem Dev.hallDone_moves (d : Dev) (h : Nat) (s : Status) (detail : Nat) : (d.hallDone h s detail).moves = d.moves := by
  rw [Dev.hallDone, Dev.finish_moves, Dev.put_moves]

theorem Dev.coresHalt_moves (d : Dev) (h : Nat) (on : Bool) : (d.coresHalt h on).moves = d.moves := (Dev.coresHalt_only ..).moves_eq

theorem Dev.hallThaw_moves (d : Dev) (h : Nat) : (d.hallThaw h).moves = d.moves := by
  unfold Dev.hallThaw
  exact (foldl_keeps (g := Dev.moves) (fun d c => Dev.pump_moves ..) _ _).trans ((Dev.coresHalt_moves ..).trans (Dev.setHall_moves ..))

theorem Dev.hallGone_moves (d : Dev) (h : Nat) : (d.hallGone h).moves = d.moves := by
  unfold Dev.hallGone
  dsimp only
  rw [Dev.setHall_moves, (Dev.bumpEpoch_only ..).moves_eq, (Dev.trimFrom_only ..).moves_eq]
  refine (show _ = _ from Dev.moves_of_tenants (Dev.putOct_tenants ..)).trans ?_
  refine (foldl_keeps (g := Dev.moves) (fun d c => (Dev.coreLeaves_only ..).moves_eq) _ _).trans ?_
  rw [Dev.put_moves]
  exact (Dev.instancesReturn_only d h).moves_eq

/-- A migration that has ended is none. -/
theorem Dev.migEnd_mig (d : Dev) (s : Status) : (d.migEnd s).tenants.mig = none := by
  unfold Dev.migEnd
  split
  · assumption
  · extract_lets h us x
    have hx : x.moves.1 = none := by rw [show x.moves = _ from Dev.migSend_moves ..]; rfl
    have hthawed : ((x.hallThaw h).migDone h s us).moves = x.moves := (Dev.hallEvent_moves ..).trans (Dev.hallThaw_moves ..)
    have hdone (y : Dev) (hy : y.moves = x.moves) : (y.hallDone h s).tenants.mig = none := by
      rw [Dev.mig_of_moves ((Dev.hallDone_moves ..).trans hy)]
      exact hx
    split
    · exact hdone x rfl
    · split
      · exact hdone _ hthawed
      · rw [Dev.mig_of_moves hthawed]
        exact hx

end Sys2Proof

/-! SUPPORT. A hall's record, and the load of one, say nothing of the outputs of the command before (R385, R386). -/

namespace Sys2Proof

open Sys2Proof.Machine

/-! ### Images -/

theorem Dev.liveEntry_fresh (d : Dev) (idx sub : Nat) : d.fresh.liveEntry idx sub = d.liveEntry idx sub := by
  have herror : d.fresh.errorRegister = d.errorRegister := rfl
  have hpower : d.fresh.powerState = d.powerState := rfl
  have hdebug : d.fresh.dbgActive = d.dbgActive := rfl
  have hgate : d.fresh.gateValue = d.gateValue := rfl
  have huse (i j : Nat) : d.fresh.hallUse i j = d.hallUse i j := rfl
  have hmig (i : Nat) : d.fresh.migStatus i = d.migStatus i := rfl
  have hprio (i : Nat) : d.fresh.runPrio i = d.runPrio i := rfl
  have hcells : d.fresh.freeCells = d.freeCells := rfl
  have hdesc : d.fresh.descFree = d.descFree := rfl
  have hstw : d.fresh.stwRate = d.stwRate := rfl
  have hingress (i : Nat) : d.fresh.ingCells i = d.ingCells i := rfl
  have hqueue (i j k : Nat) : d.fresh.queueValue i j k = d.queueValue i j k := rfl
  have hstatics : d.fresh.statics = d.statics := rfl
  have hlink (i : Nat) : d.fresh.linkValue i = d.linkValue i := rfl
  have hrate (i : Nat) : d.fresh.lineRate i = d.lineRate i := rfl
  have hdelay (i : Nat) : d.fresh.linkDelay i = d.linkDelay i := rfl
  have hused (i : Nat) : d.fresh.usedMib i = d.usedMib i := rfl
  have hrepl : d.fresh.replMbps = d.replMbps := rfl
  have hnow : d.fresh.now = d.now := rfl
  have hfld (f : Field) : d.fresh.fld f = d.fld f := rfl
  have hget (e : Entry) : d.fresh.get e = d.get e := rfl
  have hepoch (u : EpochUnit) : d.fresh.epoch u = d.epoch u := rfl
  have hstate (i : Nat) : d.fresh.hallState i = d.hallState i := rfl
  unfold Dev.liveEntry
  simp only [herror, hpower, hdebug, hgate, huse, hmig, hprio, hcells, hdesc, hstw, hingress, hqueue, hstatics, hlink, hrate, hdelay, hused,
    hrepl, hnow, hfld, hget, hepoch, hstate, Dev.fresh_board, Dev.fresh_d0, Dev.fresh_sw, Dev.fresh_time, Dev.fresh_scan, Dev.fresh_logs]

theorem Dev.entryBytes_fresh (d : Dev) (r : DictRow) (idx sub : Nat) : d.fresh.entryBytes r idx sub = d.entryBytes r idx sub := by
  have hget (e : Entry) : d.fresh.get e = d.get e := rfl
  have hlive : d.fresh.liveOct idx sub = d.liveOct idx sub := rfl
  have hoct (e : Entry) : d.fresh.oct e = d.oct e := rfl
  simp only [Dev.entryBytes, Dev.value, Dev.liveEntry_fresh, hget, hlive, hoct]

theorem Dev.entriesImage_fresh (d : Dev) (idx lo hi : Nat) : d.fresh.entriesImage idx lo hi = d.entriesImage idx lo hi := by
  simp only [Dev.entriesImage, Dev.entryBytes_fresh]

theorem Dev.dmaImage_fresh (d : Dev) (c : Nat) : d.fresh.dmaImage c = d.dmaImage c := by
  have hpage (a n : Nat) : d.fresh.pageImage a n = d.pageImage a n := rfl
  have hch : d.fresh.ch c = d.ch c := rfl
  simp only [Dev.dmaImage, Dev.entriesImage_fresh, hpage, hch]

/-! ### The record -/

/-- A fold that carries a device along, and says nothing of its outputs. -/
theorem foldl_fresh {α β : Type} {f : β × Dev → α → β × Dev} (hf : ∀ b d a, f (b, d.fresh) a = ((f (b, d) a).1, (f (b, d) a).2.fresh)) (l : List α)
    (b : β) (d : Dev) : l.foldl f (b, d.fresh) = ((l.foldl f (b, d)).1, (l.foldl f (b, d)).2.fresh) := by
  induction l generalizing b d with
  | nil => rfl
  | cons a l ih =>
    rw [List.foldl_cons, List.foldl_cons, hf]
    exact ih _ _

theorem Dev.coreImage_fresh (d : Dev) (c : Nat) : d.fresh.coreImage c = ((d.coreImage c).1, (d.coreImage c).2.fresh) := by
  have hhart : d.fresh.hart (4 + c) = d.hart (4 + c) := rfl
  have hreg (b : Bytes) (x : Dev) (r : Nat) :
      (match KV.find r (d.hart (4 + c)).regs with
      | some v => ((b ++ le 4 v, x.fresh) : Bytes × Dev)
      | none => (b ++ le 4 (x.fresh.draw 32).1.toNat, (x.fresh.draw 32).2)) =
        ((match KV.find r (d.hart (4 + c)).regs with
          | some v => ((b ++ le 4 v, x) : Bytes × Dev)
          | none => (b ++ le 4 (x.draw 32).1.toNat, (x.draw 32).2)).1,
         (match KV.find r (d.hart (4 + c)).regs with
          | some v => ((b ++ le 4 v, x) : Bytes × Dev)
          | none => (b ++ le 4 (x.draw 32).1.toNat, (x.draw 32).2)).2.fresh) := by
    split <;> rfl
  unfold Dev.coreImage
  dsimp only
  rw [hhart, foldl_fresh hreg]
  simp only [Dev.readMem_fresh]

theorem Dev.hallSections_fresh (d : Dev) (h : Nat) : d.fresh.hallSections h = ((d.hallSections h).1, (d.hallSections h).2.fresh) := by
  have hobjs (h : Nat) : d.fresh.objOf h = d.objOf h := rfl
  have hdmas (h : Nat) : d.fresh.dmaOf h = d.dmaOf h := rfl
  have hqps (h : Nat) : d.fresh.qpOf h = d.qpOf h := rfl
  have htxbs (h : Nat) : d.fresh.txbOf h = d.txbOf h := rfl
  have hctxs (h : Nat) : d.fresh.ctxOf h = d.ctxOf h := rfl
  have heps (h : Nat) : d.fresh.epOf h = d.epOf h := rfl
  have hbinds (h : Nat) : d.fresh.bindOf h = d.bindOf h := rfl
  have hcores (h : Nat) : d.fresh.coresOf h = d.coresOf h := rfl
  have hoct (e : Entry) : d.fresh.oct e = d.oct e := rfl
  have hpage (a n : Nat) : d.fresh.pageImage a n = d.pageImage a n := rfl
  have hobj (h n : Nat) : d.fresh.objImage h n = d.objImage h n := rfl
  have hepoch (u : EpochUnit) : d.fresh.epoch u = d.epoch u := rfl
  have hep (i j : Nat) : d.fresh.endpoint i j = d.endpoint i j := rfl
  have hcore (l : List HSect) (x : Dev) (c : Nat) :
      (l ++ [(⟨0xC, c, 0, (x.fresh.coreImage c).1⟩ : HSect)], (x.fresh.coreImage c).2) =
        ((l ++ [(⟨0xC, c, 0, (x.coreImage c).1⟩ : HSect)], (x.coreImage c).2).1,
          (l ++ [(⟨0xC, c, 0, (x.coreImage c).1⟩ : HSect)], (x.coreImage c).2).2.fresh) := by
    rw [Dev.coreImage_fresh]
  unfold Dev.hallSections
  dsimp only
  rw [hcores, foldl_fresh hcore]
  simp only [hobjs, hdmas, hqps, htxbs, hctxs, heps, hbinds, hoct, hpage, hobj, hepoch, hep, Dev.fresh_logs, Dev.entriesImage_fresh, Dev.dmaImage_fresh]
  rfl

theorem Dev.hallRecord_fresh (d : Dev) (h : Nat) : (d.fresh.hallRecord h).1 = (d.hallRecord h).1 := by
  have hstate (x : Dev) (h : Nat) : x.fresh.hallState h = x.hallState h := rfl
  have hepoch (x : Dev) (u : EpochUnit) : x.fresh.epoch u = x.epoch u := rfl
  have hnow (x : Dev) : x.fresh.now = x.now := rfl
  unfold Dev.hallRecord
  rw [Dev.hallSections_fresh]
  simp only [hstate, hepoch, hnow, Dev.fresh_board]

/-! ### The load of a record -/

theorem Dev.sectionValid_fresh (d : Dev) (s : HSect) : d.fresh.sectionValid s = d.sectionValid s := by
  have hshape : d.fresh.sectionShape s = d.sectionShape s := by simp only [Dev.sectionShape, Dev.entriesImage_fresh]
  rw [Dev.sectionValid, Dev.sectionValid, hshape]

theorem Dev.sectionFree_fresh (d : Dev) (s : HSect) : d.fresh.sectionFree s = d.sectionFree s := rfl

theorem Dev.restoredFits_fresh (d : Dev) (h : Nat) (l : List HSect) : d.fresh.restoredFits h l = d.restoredFits h l := rfl

theorem Dev.loadEntries_fresh (idx : Nat) (rows : List (DictRow × Nat)) (d : Dev) (b : Bytes) :
    d.fresh.loadEntries idx rows b = ((d.loadEntries idx rows b).1.fresh, (d.loadEntries idx rows b).2) := by
  induction rows generalizing d b with
  | nil => rfl
  | cons x rest ih =>
    obtain ⟨r, sub⟩ := x
    have hput (skip : Bool) (e : Entry) (v : Nat) : (if skip = true then d.fresh else d.fresh.put e v) = ((if skip = true then d else d.put e v) : Dev).fresh := by
      split <;> rfl
    have hputOct (skip : Bool) (e : Entry) (v : Bytes) :
        (if skip = true then d.fresh else d.fresh.putOct e v) = ((if skip = true then d else d.putOct e v) : Dev).fresh := by
      split <;> rfl
    unfold Dev.loadEntries
    rw [Dev.liveEntry_fresh, Dev.entryBytes_fresh]
    dsimp only
    split
    · rw [hput]
      exact ih _ _
    · rw [hputOct]
      exact ih _ _

/-- A fold of steps that say nothing of the outputs. -/
theorem foldl_dev_fresh {α : Type} {f : Dev → α → Dev} (hf : ∀ d a, f d.fresh a = (f d a).fresh) (l : List α) (d : Dev) :
    l.foldl f d.fresh = (l.foldl f d).fresh := by
  induction l generalizing d with
  | nil => rfl
  | cons a l ih =>
    rw [List.foldl_cons, List.foldl_cons, hf]
    exact ih _

theorem Dev.loadPage_fresh (d : Dev) (base n : Nat) (b : Bytes) : d.fresh.loadPage base n b = (d.loadPage base n b).fresh :=
  foldl_dev_fresh (fun _ _ => rfl) _ _

theorem Dev.writeMem_fresh (d : Dev) (a : Nat) (b : Bytes) : d.fresh.writeMem a b = (d.writeMem a b).fresh := by
  have hput (b : Bytes) (d : Dev) (a : Nat) : d.fresh.putBytes a b = (d.putBytes a b).fresh := by
    induction b generalizing d a with
    | nil => rfl
    | cons x b ih => exact ih (d.setByte a x) (a + 1)
  have htouch (x : Dev) (a n : Nat) : x.fresh.touch a n = (x.touch a n).fresh := by
    unfold Dev.touch
    rw [Dev.fresh_tenants]
    split <;> rfl
  have hcure (x : Dev) (a n : Nat) : x.fresh.cure a n = (x.cure a n).fresh := by
    unfold Dev.cure
    rw [Dev.fresh_dma]
    split <;> rfl
  rw [Dev.writeMem, Dev.writeMem, hput, hcure, htouch]

theorem Dev.loadObjects_fresh (d : Dev) (h n : Nat) (b : Bytes) : d.fresh.loadObjects h n b = (d.loadObjects h n b).fresh := by
  have hobj (k : Nat) : d.fresh.objRec n k = d.objRec n k := rfl
  have hput (x : Dev) (e : Entry) (v : Bytes) : x.fresh.putOct e v = (x.putOct e v).fresh := rfl
  have hepoch (x : Dev) (u : EpochUnit) (e : Nat) : x.fresh.setEpoch u e = (x.setEpoch u e).fresh := rfl
  unfold Dev.loadObjects
  simp only [hobj, hput]
  exact foldl_dev_fresh (fun x i => by rw [Dev.loadPage_fresh, hepoch]) _ _

theorem Dev.loadSection_fresh (d : Dev) (h : Nat) (s : HSect) : d.fresh.loadSection h s = (d.loadSection h s).fresh := by
  have hput (x : Dev) (e : Entry) (v : Nat) : x.fresh.put e v = (x.put e v).fresh := rfl
  have hputOct (x : Dev) (e : Entry) (v : Bytes) : x.fresh.putOct e v = (x.putOct e v).fresh := rfl
  have hepoch (x : Dev) (u : EpochUnit) (e : Nat) : x.fresh.setEpoch u e = (x.setEpoch u e).fresh := rfl
  have hch (x : Dev) (c : Nat) (f : DmaCh → DmaCh) : x.fresh.setCh c f = (x.setCh c f).fresh := rfl
  have hhart (x : Dev) (c : Nat) (f : Hart → Hart) : x.fresh.setHart c f = (x.setHart c f).fresh := rfl
  have hisSet (x : Dev) (f : Field) : x.fresh.isSet f = x.isSet f := rfl
  have hoct (x : Dev) (e : Entry) : x.fresh.oct e = x.oct e := rfl
  have hclose (x : Dev) (u k : Nat) : x.fresh.closeBridge u k = (x.closeBridge u k).fresh := by
    unfold Dev.closeBridge Dev.showSession
    split <;> rfl
  unfold Dev.loadSection
  simp only [Dev.loadEntries_fresh, Dev.loadPage_fresh, Dev.loadObjects_fresh, Dev.writeMem_fresh, hput, hputOct, hepoch, hch, hhart, hisSet, hoct, hclose]
  split
  case h_4 => exact (apply_ite Dev.fresh _ _ _).symm
  all_goals rfl

theorem Dev.restoreRecord_fresh (d : Dev) (h : Nat) (b : Bytes) : (d.fresh.restoreRecord h b).1 = (d.restoreRecord h b).1 := by
  have hload (l : List HSect) : l.foldl (fun d s => d.loadSection h s) d.fresh = (l.foldl (fun d s => d.loadSection h s) d).fresh :=
    foldl_dev_fresh (fun x s => Dev.loadSection_fresh x h s) _ _
  unfold Dev.restoreRecord
  simp only [Dev.sectionValid_fresh, Dev.sectionFree_fresh, hload, Dev.restoredFits_fresh]
  split
  · rfl
  · split
    · rfl
    · split
      · rfl
      · split
        · rfl
        · split
          · rfl
          · split
            · rfl
            · split <;> rfl

end Sys2Proof

/-! SUPPORT. The entries of a hall, and its transitions (R374 to R376, R382 to R386). -/

namespace Sys2Proof

open Sys2Proof.Machine

/-! ### Entries of halls -/

/-- A footprint that names no hall's instance of an entry. -/
def Foot.spares (F : Foot) (e : Nat → Entry) : Bool := (List.range 256).all fun n => F.ents.all (·.lacks (e n).key)

theorem Only.get_hall {F : Foot} {a b : Dev} (h : Only F a b) {e : Nat → Entry} {n : Nat} (hn : n < 256) (hspares : F.spares e = true)
    (hdict : Part.dict ∉ F.parts := by decide) : b.get (e n) = a.get (e n) :=
  h.get_of_lacks (List.all_eq_true.1 hspares n (List.mem_range.2 hn)) hdict

theorem Only.oct_of_lacks {F : Foot} {a b : Dev} (h : Only F a b) {e : Entry} (hents : F.ents.all (·.lacks e.key) = true) (hblobs : Part.blobs ∉ F.parts) :
    b.oct e = a.oct e := by
  have hfind : KV.find e.key b.blobs = KV.find e.key a.blobs :=
    h.keep .blobs hblobs e.key fun f hf => Fam.not_has_of_lacks (List.all_eq_true.1 hents f hf)
  rw [Dev.oct, Dev.oct, hfind]

theorem Only.epoch_eq {F : Foot} {a b : Dev} (h : Only F a b) (u : EpochUnit) (hents : F.ents.all (·.lacks Ent.Evlog.BOOT_COUNT.key) = true)
    (hepochs : Part.epochs ∉ F.parts := by decide) (hdict : Part.dict ∉ F.parts := by decide) : b.epoch u = a.epoch u := by
  rw [Dev.epoch, Dev.epoch, Dev.epochStart, Dev.epochStart, h.get_of_lacks hents hdict, show b.epochs = a.epochs from h.keep .epochs hepochs]

theorem Dev.hallState_of_get {a b : Dev} {n : Nat} (h : b.get (Ent.Hall.STATE n) = a.get (Ent.Hall.STATE n)) : b.hallState n = a.hallState n := by
  rw [Dev.hallState, Dev.hallState, h]

/-- The entries that a hall's commands and faults show, beside STATE and CMD_STATUS. -/
def hallShows : List (Nat → Entry) := [Ent.Hall.FAULT_CAUSE, Ent.Hall.FAULT_ACTION, fun n => (hallCounter n 2).entry]

/-- A footprint with STATE and CMD_STATUS at most. -/
def Foot.quietHalls (F : Foot) : Bool := hallShows.all F.spares

theorem Only.get_shown {F : Foot} {a b : Dev} (h : Only F a b) {e : Nat → Entry} (he : e ∈ hallShows) {n : Nat} (hn : n < 256)
    (hquiet : F.quietHalls = true) (hdict : Part.dict ∉ F.parts := by decide) : b.get (e n) = a.get (e n) :=
  h.get_hall hn (List.all_eq_true.1 hquiet e he) hdict

theorem shown_sub {e : Nat → Entry} (he : e ∈ hallShows) (n : Nat) : (e n).idx = 0x2600 + n ∧ ((e n).sub = 5 ∨ (e n).sub = 0x1C ∨ (e n).sub = 0x2A) := by
  simp only [hallShows, List.mem_cons, List.not_mem_nil, or_false] at he
  rcases he with rfl | rfl | rfl
  · exact ⟨rfl, .inl rfl⟩
  · exact ⟨rfl, .inr (.inl rfl)⟩
  · exact ⟨rfl, .inr (.inr rfl)⟩

/-! ### Events, answers, cores -/

theorem Dev.hallEvent_state (d : Dev) (h code data : Nat) {n : Nat} (hn : n < 256) : (d.hallEvent h code data).hallState n = d.hallState n :=
  Dev.hallState_of_get ((Dev.hallEvent_only ..).get_hall hn (by decide +kernel))

theorem Dev.finish_state (d : Dev) (key : Nat) (s : Status) {n : Nat} (hn : n < 256) : (d.finish key s).hallState n = d.hallState n :=
  Dev.hallState_of_get ((Dev.finish_only ..).get_hall hn (by decide +kernel))

theorem Dev.hallDone_state (d : Dev) (h : Nat) (s : Status) (t : Nat) {n : Nat} (hn : n < 256) : (d.hallDone h s t).hallState n = d.hallState n := by
  rw [Dev.hallDone, Dev.finish_state _ _ _ hn]
  exact Dev.hallState_of_get (Dev.get_put_other _ _ (by simp only [Entry.key, Ent.Hall.STATE, Ent.Hall.CMD_STATUS]; omega))

theorem Dev.hallDone_status (d : Dev) (h : Nat) (s : Status) (t : Nat) :
    (d.hallDone h s t).get (Ent.Hall.CMD_STATUS h) = (s.code * 65536 + t % 65536) % 2 ^ 32 := by
  rw [Dev.hallDone, (Dev.finish_only ..).get_eq (sub := 3) (by decide) rfl (by decide), Dev.get_put_same]
  rfl

theorem Dev.hallDone_ok (d : Dev) (h : Nat) : (d.hallDone h .ok).get (Ent.Hall.CMD_STATUS h) = 0 := Dev.hallDone_status ..

theorem Dev.hallDone_shown (d : Dev) (h : Nat) (s : Status) (t : Nat) {e : Nat → Entry} (he : e ∈ hallShows) {n : Nat} (hn : n < 256) :
    (d.hallDone h s t).get (e n) = d.get (e n) := (Dev.hallDone_only ..).get_shown he hn (by decide +kernel)

theorem Dev.coresHalt_state (d : Dev) (h : Nat) (on : Bool) (n : Nat) : (d.coresHalt h on).hallState n = d.hallState n :=
  Dev.hallState_of_get ((Dev.coresHalt_only ..).get_of_lacks rfl (by decide))

/-! ### Transitions (Table 16.1) -/

theorem Dev.setHall_state (d : Dev) {h s : Nat} (h0 : 0 < h) (hh : h < 256) (hs : s < 256) : (d.setHall h s).hallState h = s := by
  have hput : (d.put (Ent.Hall.STATE h) s).hallState h = s := by
    rw [Dev.hallState, if_neg (by omega), Dev.get_put_same]
    exact Nat.mod_eq_of_lt hs
  have hshown : ((d.put (Ent.Hall.STATE h) s).hallEvent h 0x20 (d.hallState h * 256 + s)).hallState h = s :=
    (Dev.hallEvent_state _ _ _ _ hh).trans hput
  unfold Dev.setHall
  dsimp only
  split
  · rw [Dev.hallState_of_get ((Dev.writeHeld_only ..).get_hall (n := h) hh (by decide +kernel))]
    exact hshown
  · exact hshown

theorem Dev.setHall_shown (d : Dev) (h s : Nat) {e : Nat → Entry} (he : e ∈ hallShows) {n : Nat} (hn : n < 256) :
    (d.setHall h s).get (e n) = d.get (e n) := (Dev.setHall_only ..).get_shown he hn (by decide +kernel)

theorem Dev.hallThaw_state (d : Dev) {h : Nat} (h0 : 0 < h) (hh : h < 256) : (d.hallThaw h).hallState h = 1 := by
  unfold Dev.hallThaw
  refine (foldl_keeps (g := fun d : Dev => d.hallState h) (fun d c => Dev.hallState_of_get ((Dev.pump_only ..).get_hall hh (by decide +kernel))) _ _).trans ?_
  rw [Dev.coresHalt_state]
  exact Dev.setHall_state d h0 hh (by decide)

theorem Dev.hallGone_state (d : Dev) {h : Nat} (h0 : 0 < h) (hh : h < 256) : (d.hallGone h).hallState h = 0 := Dev.setHall_state _ h0 hh (by decide)

theorem Dev.migDone_state (d : Dev) (h : Nat) (s : Status) (us : Nat) {n : Nat} (hn : n < 256) : (d.migDone h s us).hallState n = d.hallState n :=
  Dev.hallEvent_state _ _ _ _ hn

theorem Dev.migDiscard_state (d : Dev) {h : Nat} (s : Status) (h0 : 0 < h) (hh : h < 256) : (d.migDiscard h s).hallState h = 0 :=
  (Dev.migDone_state _ _ _ _ hh).trans (Dev.hallGone_state _ h0 hh)

theorem state_notMem_logKeys {n : Nat} (hn : n < 256) : (Ent.Hall.STATE n).key ∉ logKeys := by
  simp only [logKeys, Entry.key, Ent.Hall.STATE, Ent.Evlog.LAST_SEQ, Ent.Evlog.LOG_LOST, List.mem_cons, List.not_mem_nil, or_false]
  omega

theorem Dev.migArrived_state (d : Dev) {h : Nat} (h0 : 0 < h) (hh : h < 256) : (d.migArrived h).hallState h = 1 := by
  have hcount (x : Dev) : (x.count (hallCounter h 2)).hallState h = x.hallState h :=
    Dev.hallState_of_get (Dev.count_get_other (y := Ent.Hall.STATE h) x _ _ _ _ 1 (by simp only [Entry.key, Ent.Hall.STATE]; omega)
      (by simp only [Entry.key, Ent.Hall.STATE, Ent.Hall.COUNTER_SAT]; omega) (state_notMem_logKeys hh))
  have hdraw (x : Dev) : (x.draw 16).2.hallState h = x.hallState h := rfl
  unfold Dev.migArrived
  dsimp only
  rw [Dev.migDone_state _ _ _ _ hh, hdraw, hcount]
  exact Dev.hallThaw_state _ h0 hh

/-- A reset ends in RUNNING. -/
theorem Dev.runs_state (d : Dev) {h : Nat} (h0 : 0 < h) (hh : h < 256) : ((if d.hallState h = 1 then d else d.setHall h 1 : Dev)).hallState h = 1 := by
  split
  · assumption
  · exact Dev.setHall_state d h0 hh (by decide)

/-! ### Faults (R382) -/

theorem Dev.count_shown (d : Dev) {n : Nat} {e : Nat → Entry} (he : e ∈ hallShows) : (d.count (hallCounter n 0)).get (e n) = d.get (e n) := by
  obtain ⟨hidx, hsub⟩ := shown_sub he n
  have hlog : (e n).key ∉ logKeys := by
    rcases hsub with h | h | h <;> exact key_notMem_logKeys h (by decide)
  refine Dev.count_get_other d _ _ _ _ 1 ?_ ?_ hlog
  · simp only [Entry.key, hidx]
    omega
  · simp only [Entry.key, hidx, Ent.Hall.COUNTER_SAT]
    omega

/-- The hall that has a fault: its cause and count, its event, no migration and no FREEZE of it any more. -/
def Machine.Dev.faulted (d : Dev) (h cause : Nat) : Dev :=
  ((((d.put (Ent.Hall.FAULT_CAUSE h) cause).count (hallCounter h 0)).hallEvent h 0x21 cause).migAbort h).setHalls fun x =>
    { x with freezing := x.freezing.erase h }

/-- FAULT_ACTION: the hall is reset, or FAULTED. -/
def Machine.Dev.faultActs (d : Dev) (h : Nat) : Dev :=
  if d.get (Ent.Hall.FAULT_ACTION h) = 1 then (if (d.hallReset h).hallState h = 1 then d.hallReset h else (d.hallReset h).setHall h 1)
  else (d.setHall h 3).coresHalt h true

theorem Dev.hallFault_of_running {d : Dev} {h : Nat} (cause : Nat) (h0 : 0 < h) (hruns : hallRuns (d.hallState h) = true) :
    d.hallFault h cause =
      if d.tenants.freezing.contains h = true then ((d.faulted h cause).faultActs h).hallDone h .wrongState else (d.faulted h cause).faultActs h := by
  have hrunning : ¬ (h = 0 ∨ (!(hallRuns (d.hallState h) || d.tenants.freezing.contains h)) = true) := by
    simp only [hruns, Bool.true_or, Bool.not_true, Bool.false_eq_true, or_false]
    omega
  unfold Dev.hallFault
  exact if_neg hrunning

theorem Dev.faulted_shown (d : Dev) {h : Nat} (cause : Nat) (hh : h < 256) {e : Nat → Entry} (he : e ∈ hallShows) :
    (d.faulted h cause).get (e h) = (d.put (Ent.Hall.FAULT_CAUSE h) cause).get (e h) := by
  have hevent (x : Dev) : ((x.count (hallCounter h 0)).hallEvent h 0x21 cause).get (e h) = x.get (e h) :=
    ((Dev.hallEvent_only ..).get_shown he hh (by decide +kernel)).trans (Dev.count_shown x he)
  unfold Dev.faulted
  exact ((Dev.migAbort_only ..).get_shown he hh (by decide +kernel)).trans (hevent _)

theorem Dev.faultActs_state (d : Dev) {h : Nat} (h0 : 0 < h) (hh : h < 256) :
    (d.faultActs h).hallState h = if d.get (Ent.Hall.FAULT_ACTION h) = 1 then 1 else 3 := by
  unfold Dev.faultActs
  split
  · exact Dev.runs_state _ h0 hh
  · rw [Dev.coresHalt_state]
    exact Dev.setHall_state d h0 hh (by decide)

theorem Dev.faultActs_shown (d : Dev) (h : Nat) {e : Nat → Entry} (he : e ∈ hallShows) {n : Nat} (hn : n < 256) :
    (d.faultActs h).get (e n) = d.get (e n) := by
  have hreset : (d.hallReset h).get (e n) = d.get (e n) := (Dev.hallReset_only d h).get_shown he hn (by decide +kernel)
  unfold Dev.faultActs
  split
  · split
    · exact hreset
    · exact (Dev.setHall_shown _ _ _ he hn).trans hreset
  · exact ((Dev.coresHalt_only ..).get_shown he hn (by decide +kernel)).trans (Dev.setHall_shown _ _ _ he hn)

theorem Dev.hallFault_shows {d : Dev} {h cause : Nat} (h0 : 0 < h) (hh : h < 256) (hcause : cause < 256) (hruns : hallRuns (d.hallState h) = true) :
    ((d.hallFault h cause).hallState h = if d.get (Ent.Hall.FAULT_ACTION h) = 1 then 1 else 3) ∧ (d.hallFault h cause).get (Ent.Hall.FAULT_CAUSE h) = cause := by
  have haction : (d.faulted h cause).get (Ent.Hall.FAULT_ACTION h) = d.get (Ent.Hall.FAULT_ACTION h) := by
    rw [Dev.faulted_shown d (e := Ent.Hall.FAULT_ACTION) cause hh (by simp [hallShows]),
      Dev.get_put_other _ _ (by simp only [Entry.key, Ent.Hall.FAULT_ACTION, Ent.Hall.FAULT_CAUSE]; omega)]
  have hcaused : ((d.faulted h cause).faultActs h).get (Ent.Hall.FAULT_CAUSE h) = cause := by
    rw [Dev.faultActs_shown _ (e := Ent.Hall.FAULT_CAUSE) _ (by simp [hallShows]) hh,
      Dev.faulted_shown d (e := Ent.Hall.FAULT_CAUSE) cause hh (by simp [hallShows]), Dev.get_put_same]
    exact Nat.mod_eq_of_lt hcause
  have hstate := Dev.faultActs_state (d.faulted h cause) h0 hh
  rw [haction] at hstate
  rw [Dev.hallFault_of_running cause h0 hruns]
  split
  · rw [Dev.hallDone_state _ _ _ _ hh, Dev.hallDone_shown _ _ _ _ (e := Ent.Hall.FAULT_CAUSE) (by simp [hallShows]) hh]
    exact ⟨hstate, hcaused⟩
  · exact ⟨hstate, hcaused⟩

/-! ### Commands -/

theorem Dev.hallCmd_of_ready {d : Dev} {n : Nat} {states : List Nat} {f : Dev → Dev} (h0 : 0 < n) (hn : n < 256)
    (hrest : d.tenants.freezing.contains n = false) (hstate : states.contains (d.hallState n) = true) : d.hallCmd n states f = f d := by
  rw [Dev.hallCmd, if_neg (by omega), if_neg (by rw [hrest]; decide), if_pos hstate]

/-- A command that completes with OK after a transition. -/
theorem Dev.hallDone_shows (d : Dev) {n : Nat} (hn : n < 256) :
    (d.hallDone n .ok).hallState n = d.hallState n ∧ (d.hallDone n .ok).get (Ent.Hall.CMD_STATUS n) = 0 :=
  ⟨Dev.hallDone_state _ _ _ _ hn, Dev.hallDone_ok ..⟩

theorem hallCreateOp_of_absent {d : Dev} {n : Nat} (h0 : 0 < n) (hn : n < 256) (hrest : d.tenants.freezing.contains n = false) (hstate : d.hallState n = 0)
    (hrescue : d.rescue = false) : hallCreateOp n d = ((d.bumpEpoch (.hall n)).setHall n 1).hallDone n .ok := by
  rw [hallCreateOp, Dev.hallCmd_of_ready h0 hn hrest (by simp [hstate])]
  exact if_neg (by simp [hrescue])

theorem Dev.hallDone_epoch (d : Dev) {n : Nat} (s : Status) (t : Nat) (u : EpochUnit) (hn : n < 256) : (d.hallDone n s t).epoch u = d.epoch u := by
  have hboot : (d.put (Ent.Hall.CMD_STATUS n) (s.code * 65536 + t % 65536)).get Ent.Evlog.BOOT_COUNT = d.get Ent.Evlog.BOOT_COUNT :=
    Dev.get_put_other _ _ (by simp only [Entry.key, Ent.Evlog.BOOT_COUNT, Ent.Hall.CMD_STATUS]; omega)
  rw [Dev.hallDone, (Dev.finish_only ..).epoch_eq _ (by decide), Dev.epoch, Dev.epoch, Dev.epochStart, Dev.epochStart, hboot]
  rfl

theorem hallCreateOp_epoch {d : Dev} {n : Nat} (h0 : 0 < n) (hn : n < 256) (hrest : d.tenants.freezing.contains n = false) (hstate : d.hallState n = 0)
    (hrescue : d.rescue = false) : (hallCreateOp n d).epoch (.hall n) = nextEpoch (d.epoch (.hall n)) := by
  have hbump : (d.bumpEpoch (.hall n)).epoch (.hall n) = nextEpoch (d.epoch (.hall n)) := KV.get_put_same ..
  rw [hallCreateOp_of_absent h0 hn hrest hstate hrescue, Dev.hallDone_epoch _ _ _ _ hn, (Dev.setHall_only ..).epoch_eq _ (by decide), hbump]

theorem hallDestroyOp_absent {d : Dev} {n : Nat} (h0 : 0 < n) (hn : n < 256) (hrest : d.tenants.freezing.contains n = false)
    (hstate : [1, 2, 3, 4, 7].contains (d.hallState n) = true) :
    (hallDestroyOp n d).hallState n = 0 ∧ (hallDestroyOp n d).get (Ent.Hall.CMD_STATUS n) = 0 := by
  rw [hallDestroyOp, Dev.hallCmd_of_ready h0 hn hrest hstate]
  refine ⟨(Dev.hallDone_shows _ hn).1.trans ?_, (Dev.hallDone_shows _ hn).2⟩
  split
  · exact Dev.migDiscard_state _ _ h0 hn
  · exact Dev.hallGone_state _ h0 hn

theorem hallResetOp_runs {d : Dev} {n : Nat} (h0 : 0 < n) (hn : n < 256) (hrest : d.tenants.freezing.contains n = false)
    (hstate : [1, 2, 3, 4].contains (d.hallState n) = true) :
    (hallResetOp n d).hallState n = 1 ∧ (hallResetOp n d).get (Ent.Hall.CMD_STATUS n) = 0 := by
  rw [hallResetOp, Dev.hallCmd_of_ready h0 hn hrest hstate]
  exact ⟨(Dev.hallDone_shows _ hn).1.trans (Dev.runs_state _ h0 hn), (Dev.hallDone_shows _ hn).2⟩

theorem hallFreezeOp_of_running {d : Dev} {n : Nat} (h0 : 0 < n) (hn : n < 256) (hrest : d.tenants.freezing.contains n = false) (hstate : d.hallState n = 1)
    (hguest : d.guestOn n = false) :
    hallFreezeOp n d = ((d.setHall n 2).coresHalt n true).setHalls fun x => { x with freezing := x.freezing ++ [n] } := by
  rw [hallFreezeOp, Dev.hallCmd_of_ready h0 hn hrest (by simp [hstate])]
  exact if_neg (by simp [hguest])

theorem hallFreezeOp_frozen {d : Dev} {n : Nat} (h0 : 0 < n) (hn : n < 256) (hrest : d.tenants.freezing.contains n = false) (hstate : d.hallState n = 1)
    (hguest : d.guestOn n = false) : (hallFreezeOp n d).hallState n = 2 ∧ (hallFreezeOp n d).tenants.freezing.contains n = true := by
  have hset (x : Dev) (f : HallSt → HallSt) : (x.setHalls f).hallState n = x.hallState n := rfl
  rw [hallFreezeOp_of_running h0 hn hrest hstate hguest, hset, Dev.coresHalt_state]
  exact ⟨Dev.setHall_state d h0 hn (by decide), by simp [Dev.setHalls]⟩

theorem hallAtRestOp_completes {d : Dev} {n : Nat} (hrest : d.hallAtRest n = true) (hfreezing : d.tenants.freezing.contains n = true) :
    (hallAtRestOp n d).tenants.freezing = d.tenants.freezing.erase n ∧ (hallAtRestOp n d).get (Ent.Hall.CMD_STATUS n) = 0 := by
  have heq : hallAtRestOp n d = (d.setHalls fun x => { x with freezing := x.freezing.erase n }).hallDone n .ok := by
    rw [hallAtRestOp, if_neg (by simp [hrest]), if_pos hfreezing]
  rw [heq, Dev.freezing_of_moves (Dev.hallDone_moves ..), Dev.hallDone_ok]
  exact ⟨rfl, rfl⟩

theorem hallThawOp_runs {d : Dev} {n : Nat} (h0 : 0 < n) (hn : n < 256) (hrest : d.tenants.freezing.contains n = false)
    (hstate : d.hallState n = 2 ∨ d.hallState n = 7) : (hallThawOp n d).hallState n = 1 ∧ (hallThawOp n d).get (Ent.Hall.CMD_STATUS n) = 0 := by
  rw [hallThawOp, Dev.hallCmd_of_ready h0 hn hrest (by rcases hstate with h | h <;> simp [h])]
  refine ⟨(Dev.hallDone_shows _ hn).1.trans ?_, (Dev.hallDone_shows _ hn).2⟩
  split
  · exact Dev.migArrived_state _ h0 hn
  · exact Dev.hallThaw_state _ h0 hn

theorem hallState_record_spared : (List.range 256).all (fun n => foot137.ents.all (·.lacks (Ent.Hall.HALL_STATE n).key)) = true := by decide +kernel

theorem hallSaveOp_stores {d : Dev} {n : Nat} (h0 : 0 < n) (hn : n < 256) (hrest : d.tenants.freezing.contains n = false)
    (hstate : d.hallState n = 2 ∨ d.hallState n = 3) :
    (hallSaveOp n d).oct (Ent.Hall.HALL_STATE n) = (d.hallRecord n).1 ∧ (hallSaveOp n d).get (Ent.Hall.CMD_STATUS n) = 0 := by
  have hlacks := List.all_eq_true.1 hallState_record_spared n (List.mem_range.2 hn)
  rw [hallSaveOp, Dev.hallCmd_of_ready h0 hn hrest (by rcases hstate with h | h <;> simp [h])]
  dsimp only
  rw [(Dev.hallDone_only ..).oct_of_lacks hlacks (by decide), Dev.oct_putOct_same, Dev.hallDone_ok]
  exact ⟨rfl, rfl⟩

theorem hallRestoreOp_of_valid {d : Dev} {n : Nat} (h0 : 0 < n) (hn : n < 256) (hrest : d.tenants.freezing.contains n = false) (hstate : d.hallState n = 0)
    (hrecord : d.oct (Ent.Hall.HALL_STATE n) ≠ []) (hvalid : (d.restoreRecord n (d.oct (Ent.Hall.HALL_STATE n))).1 = .ok) :
    ∃ x : Dev, hallRestoreOp n d = (x.setHall n 2).hallDone n .ok := by
  rw [hallRestoreOp, Dev.hallCmd_of_ready h0 hn hrest (by simp [hstate])]
  dsimp only
  rw [if_neg hrecord]
  split
  next x _ => exact ⟨_, rfl⟩
  next hother heq =>
    rw [heq] at hvalid
    exact (hother hvalid).elim

theorem hallFaultCmdOp_shows {d : Dev} {n : Nat} (h0 : 0 < n) (hn : n < 256) (hrest : d.tenants.freezing.contains n = false)
    (hstate : d.hallState n = 1 ∨ d.hallState n = 4) :
    ((hallFaultCmdOp n d).hallState n = if d.get (Ent.Hall.FAULT_ACTION n) = 1 then 1 else 3) ∧ (hallFaultCmdOp n d).get (Ent.Hall.FAULT_CAUSE n) = 3 ∧
      (hallFaultCmdOp n d).get (Ent.Hall.CMD_STATUS n) = 0 := by
  have hruns : hallRuns (d.hallState n) = true := by rcases hstate with h | h <;> rw [h] <;> rfl
  obtain ⟨hfaulted, hcause⟩ := Dev.hallFault_shows h0 hn (cause := 3) (by decide) hruns
  rw [hallFaultCmdOp, Dev.hallCmd_of_ready h0 hn hrest (by rcases hstate with h | h <;> simp [h])]
  rw [Dev.hallDone_state _ _ _ _ hn, Dev.hallDone_shown _ _ _ _ (e := Ent.Hall.FAULT_CAUSE) (by simp [hallShows]) hn, Dev.hallDone_ok]
  exact ⟨hfaulted, hcause, rfl⟩

theorem hallWdtExpiryOp_of_late {d : Dev} {n : Nat} (h0 : 0 < n) (hms : d.get (Ent.Hall.WDT_MS n) ≠ 0) (hstate : d.hallState n = 1 ∨ d.hallState n = 4)
    (hlate : KV.get 0 n d.tenants.kicked + d.get (Ent.Hall.WDT_MS n) * 1000000 ≤ d.time.raw) : hallWdtExpiryOp n d = d.hallFault n 2 := by
  have hruns : hallRuns (d.hallState n) = true := by rcases hstate with h | h <;> rw [h] <;> rfl
  exact if_pos ⟨h0, hms, hruns, hlate⟩

theorem Dev.lines_setFldBit (d : Dev) (n : Nat) : bit ((d.setFldBit (Rg.Hpg.LINES_SET n) 0 true).fld (Rg.Hpg.LINES_SET n)) 0 = true := by
  rw [Dev.setFldBit, Dev.fld_setFld_same _ _ (show 9 < 32 by decide) (show 8 ≤ 9 by decide)]
  have h := bit_setBit_true (d.fld (Rg.Hpg.LINES_SET n)) 0
  rw [bit, beq_iff_eq, Nat.pow_zero, Nat.div_one] at h ⊢
  exact (Nat.mod_mod_of_dvd _ (show 2 ∣ 2 ^ 2 by decide)).trans h

theorem hallRestoreOp_freezes {d : Dev} {n : Nat} (h0 : 0 < n) (hn : n < 256) (hrest : d.tenants.freezing.contains n = false) (hstate : d.hallState n = 0)
    (hrecord : d.oct (Ent.Hall.HALL_STATE n) ≠ []) (hvalid : (d.restoreRecord n (d.oct (Ent.Hall.HALL_STATE n))).1 = .ok) :
    (hallRestoreOp n d).hallState n = 2 ∧ (hallRestoreOp n d).get (Ent.Hall.CMD_STATUS n) = 0 := by
  obtain ⟨x, hx⟩ := hallRestoreOp_of_valid h0 hn hrest hstate hrecord hvalid
  rw [hx]
  exact ⟨(Dev.hallDone_shows _ hn).1.trans (Dev.setHall_state x h0 hn (by decide)), (Dev.hallDone_shows _ hn).2⟩

theorem hallCreateOp_runs {d : Dev} {n : Nat} (h0 : 0 < n) (hn : n < 256) (hrest : d.tenants.freezing.contains n = false) (hstate : d.hallState n = 0)
    (hrescue : d.rescue = false) : (hallCreateOp n d).hallState n = 1 ∧ (hallCreateOp n d).get (Ent.Hall.CMD_STATUS n) = 0 := by
  rw [hallCreateOp_of_absent h0 hn hrest hstate hrescue]
  exact ⟨(Dev.hallDone_shows _ hn).1.trans (Dev.setHall_state _ h0 hn (by decide)), (Dev.hallDone_shows _ hn).2⟩

theorem hallWdtKickOp_restarts {d : Dev} {n hall v : Nat} (hpage : d.pageStatus n hall = .ok) (hv : bit v 0 = true) :
    hallWdtKickOp n hall v d = (d.setHalls fun x => { x with kicked := KV.insert n d.time.raw x.kicked }).answer .ok := by
  unfold hallWdtKickOp
  rw [hpage, hv]
  rfl

theorem hallDoorbellOp_rings (n : Nat) {v : Nat} (d : Dev) (hv : bit v 0 = true) :
    hallDoorbellOp n 0 v d = (d.setFldBit (Rg.Hpg.LINES_SET n) 0 true).answer .ok := by
  unfold hallDoorbellOp
  rw [show d.pageStatus n 0 = .ok from if_pos rfl, hv]
  rfl

/-- Settles O26, command by command. -/
theorem hallCommands : Obligations.HallCommands := by
  unfold Obligations.HallCommands
  intro s hlive
  refine ⟨?_, ?_, ?_, ?_, ?_, ?_, ?_, ?_, ?_, ?_, ?_, ?_⟩
  · intro n h0 hn hrest hstate hrescue
    obtain ⟨hruns, hstatus⟩ := hallCreateOp_runs (d := s.dev.fresh) h0 hn hrest hstate hrescue
    have hepoch := hallCreateOp_epoch (d := s.dev.fresh) h0 hn hrest hstate hrescue
    exact (gives_iff_of_onDev (f := hallCreateOp n) rfl hlive).2 ⟨hruns, hepoch, hstatus, Only.of_fresh (hallCreateOp_only ..)⟩
  · intro n h0 hn hrest hstate
    obtain ⟨habsent, hstatus⟩ := hallDestroyOp_absent (d := s.dev.fresh) h0 hn hrest hstate
    exact (gives_iff_of_onDev (f := hallDestroyOp n) rfl hlive).2 ⟨habsent, hstatus, Only.of_fresh (hallDestroyOp_only ..)⟩
  · intro n h0 hn hrest hstate
    obtain ⟨hruns, hstatus⟩ := hallResetOp_runs (d := s.dev.fresh) h0 hn hrest hstate
    exact (gives_iff_of_onDev (f := hallResetOp n) rfl hlive).2 ⟨hruns, hstatus, Only.of_fresh (hallResetOp_only ..)⟩
  · intro n h0 hn hrest hstate hguest
    obtain ⟨hfrozen, hfreezing⟩ := hallFreezeOp_frozen (d := s.dev.fresh) h0 hn hrest hstate hguest
    exact (gives_iff_of_onDev (f := hallFreezeOp n) rfl hlive).2 ⟨hfrozen, hfreezing, Only.of_fresh (hallFreezeOp_only ..)⟩
  · intro n hrest hfreezing
    obtain ⟨herased, hstatus⟩ := hallAtRestOp_completes (d := s.dev.fresh) hrest hfreezing
    exact (gives_iff_of_onDev (f := hallAtRestOp n) rfl hlive).2 ⟨herased, hstatus, Only.of_fresh (hallAtRestOp_only ..)⟩
  · intro n h0 hn hrest hstate
    obtain ⟨hruns, hstatus⟩ := hallThawOp_runs (d := s.dev.fresh) h0 hn hrest hstate
    exact (gives_iff_of_onDev (f := hallThawOp n) rfl hlive).2 ⟨hruns, hstatus, Only.of_fresh (hallThawOp_only ..)⟩
  · intro n h0 hn hrest hstate
    obtain ⟨hstored, hstatus⟩ := hallSaveOp_stores (d := s.dev.fresh) h0 hn hrest hstate
    rw [Dev.hallRecord_fresh] at hstored
    exact (gives_iff_of_onDev (f := hallSaveOp n) rfl hlive).2 ⟨hstored, hstatus, Only.of_fresh (hallSaveOp_only ..)⟩
  · intro n h0 hn hrest hstate hrecord hvalid
    obtain ⟨hfrozen, hstatus⟩ := hallRestoreOp_freezes (d := s.dev.fresh) h0 hn hrest hstate hrecord ((Dev.restoreRecord_fresh ..).trans hvalid)
    exact (gives_iff_of_onDev (f := hallRestoreOp n) rfl hlive).2 ⟨hfrozen, hstatus, Only.of_fresh (hallRestoreOp_only ..)⟩
  · intro n h0 hn hrest hstate
    obtain ⟨hfaulted, hcause, hstatus⟩ := hallFaultCmdOp_shows (d := s.dev.fresh) h0 hn hrest hstate
    exact (gives_iff_of_onDev (f := hallFaultCmdOp n) rfl hlive).2 ⟨hfaulted, hcause, hstatus, Only.of_fresh (hallFaultCmdOp_only ..)⟩
  · intro n hall v hpage hv
    have heq := hallWdtKickOp_restarts (d := s.dev.fresh) hpage hv
    have honly : Only Foot.hallWdtKick s.dev (hallWdtKickOp n hall v s.dev.fresh) := Only.of_fresh (hallWdtKickOp_only ..)
    rw [heq] at honly
    refine (gives_iff_of_onDev (f := hallWdtKickOp n hall v) rfl hlive).2 ?_
    rw [heq]
    exact ⟨KV.find_insert_same .., rfl, honly⟩
  · intro n h0 hn hms hstate hlate
    have heq := hallWdtExpiryOp_of_late (d := s.dev.fresh) h0 hms hstate hlate
    have hruns : hallRuns (s.dev.fresh.hallState n) = true := by rcases hstate with h | h <;> rw [show s.dev.fresh.hallState n = _ from h] <;> rfl
    obtain ⟨hfaulted, hcause⟩ := Dev.hallFault_shows (d := s.dev.fresh) h0 hn (cause := 2) (by decide) hruns
    have honly : Only Foot.hallWdtExpiry s.dev (hallWdtExpiryOp n s.dev.fresh) := Only.of_fresh (hallWdtExpiryOp_only ..)
    rw [heq] at honly
    refine (gives_iff_of_onDev (f := hallWdtExpiryOp n) rfl hlive).2 ?_
    rw [heq]
    exact ⟨hfaulted, hcause, honly⟩
  · intro n v hv
    have heq := hallDoorbellOp_rings n s.dev.fresh hv
    have honly : Only Foot.hallDoorbell s.dev (hallDoorbellOp n 0 v s.dev.fresh) := Only.of_fresh (hallDoorbellOp_only ..)
    rw [heq] at honly
    refine (gives_iff_of_onDev (f := hallDoorbellOp n 0 v) rfl hlive).2 ?_
    rw [heq]
    exact ⟨Dev.lines_setFldBit s.dev.fresh n, rfl, honly⟩

end Sys2Proof

/-! SUPPORT. Migrations (R387 to R390). -/

namespace Sys2Proof

open Sys2Proof.Machine

/-! ### The source -/

/-- MIGRATE that the partner accepts: its message, PRECOPY, the first pass. -/
theorem hallMigrateOp_of_accepted {d : Dev} {n : Nat} (h0 : 0 < n) (hn : n < 256) (hrest : d.tenants.freezing.contains n = false) (hstate : d.hallState n = 1)
    (hmig : d.tenants.mig = none) (hrole : d.role = 1 ∨ d.role = 2) (hlane : d.upLane ≠ none) (hpages : (d.mappedPages n).length ≤ 524288) :
    ∃ (x : Dev) (m : Migration) (o : Out), m.hall = n ∧ m.accepted = true ∧ m.ready = false ∧
      hallMigrateOp n (some .ok) d = ((((x.setHalls fun y => { y with mig := some m, dirty := [] }).setHall n 4).emit o).hallDone n .ok) := by
  have hpair : ¬ ((!(d.role == 1 || d.role == 2)) || d.upLane.isNone) = true := by
    have hup : d.upLane.isNone = false := by
      rw [Option.isNone_eq_false_iff, Option.isSome_iff_ne_none]
      exact hlane
    rcases hrole with h | h <;> simp [h, hup]
  rw [hallMigrateOp, Dev.hallCmd_of_ready h0 hn hrest (by simp [hstate]), if_neg (by simp [hmig]), if_neg hpair, if_neg (by omega)]
  exact ⟨d.migSend 1 n [], _, _, rfl, rfl, rfl, rfl⟩

theorem hallMigrateOp_copies {d : Dev} {n : Nat} (h0 : 0 < n) (hn : n < 256) (hrest : d.tenants.freezing.contains n = false) (hstate : d.hallState n = 1)
    (hmig : d.tenants.mig = none) (hrole : d.role = 1 ∨ d.role = 2) (hlane : d.upLane ≠ none) (hpages : (d.mappedPages n).length ≤ 524288) :
    (hallMigrateOp n (some .ok) d).hallState n = 4 ∧
      (hallMigrateOp n (some .ok) d).tenants.mig.map (fun m => (m.hall, m.accepted, m.ready)) = some (n, true, false) ∧
      (hallMigrateOp n (some .ok) d).get (Ent.Hall.CMD_STATUS n) = 0 := by
  obtain ⟨x, m, o, hhall, haccepted, hready, heq⟩ := hallMigrateOp_of_accepted h0 hn hrest hstate hmig hrole hlane hpages
  have hemit (y : Dev) : (y.emit o).hallState n = y.hallState n := rfl
  have hmoves (y : Dev) : ((y.setHall n 4).emit o).moves = y.moves := (show _ = (y.setHall n 4).moves from rfl).trans (Dev.setHall_moves ..)
  rw [heq, Dev.hallDone_state _ _ _ _ hn, hemit, Dev.setHall_state _ h0 hn (by decide), Dev.hallDone_ok,
    Dev.mig_of_moves ((Dev.hallDone_moves ..).trans (hmoves _))]
  refine ⟨rfl, ?_, rfl⟩
  rw [← hhall, ← haccepted, ← hready]
  rfl

theorem Dev.migEnd_of_waiting {d : Dev} {m : Migration} (s : Status) (hm : d.tenants.mig = some m) (hwaits : m.accepted = false) :
    d.migEnd s = ((d.setHalls fun x => { x with mig := none, dirty := [] }).migSend 6 m.hall (le 2 s.code)).hallDone m.hall s := by
  unfold Dev.migEnd
  rw [hm]
  exact if_pos (by simp [hwaits])

/-- The end of a migration under way: the hall runs here. -/
theorem Dev.migEnd_state {d : Dev} {m : Migration} (s : Status) (hm : d.tenants.mig = some m) (haccepted : m.accepted = true) (h0 : 0 < m.hall)
    (hh : m.hall < 256) : (d.migEnd s).hallState m.hall = 1 := by
  unfold Dev.migEnd
  rw [hm]
  dsimp only
  rw [if_neg (by simp [haccepted])]
  split
  · rw [Dev.hallDone_state _ _ _ _ hh, Dev.migDone_state _ _ _ _ hh]
    exact Dev.hallThaw_state _ h0 hh
  · rw [Dev.migDone_state _ _ _ _ hh]
    exact Dev.hallThaw_state _ h0 hh

theorem migrateAcceptTimeoutOp_ends {d : Dev} {m : Migration} (hm : d.tenants.mig = some m) (hwaits : m.accepted = false)
    (hpassed : d.passed m.since 100000000 = true) :
    (migrateAcceptTimeoutOp d).tenants.mig = none ∧ (migrateAcceptTimeoutOp d).get (Ent.Hall.CMD_STATUS m.hall) = Status.remoteTimeout.code * 65536 := by
  have heq : migrateAcceptTimeoutOp d = d.migEnd .remoteTimeout := by
    unfold migrateAcceptTimeoutOp
    rw [hm]
    exact if_pos (by simp [hwaits, hpassed])
  rw [heq, Dev.migEnd_mig, Dev.migEnd_of_waiting _ hm hwaits, Dev.hallDone_status]
  exact ⟨rfl, rfl⟩

theorem migPassCompleteOp_ready {d : Dev} {m : Migration} (hm : d.tenants.mig = some m) (haccepted : m.accepted = true) (hgo : m.goAt = none)
    (hready : m.ready = false) (hfew : 4 * (d.dirtyPages m.hall).length ≤ m.dirtyMax) :
    (migPassCompleteOp d).tenants.mig = some { m with ready := true } := by
  have hmoves (h code data : Nat) : ((d.setHalls fun x => { x with mig := some { m with ready := true } }).hallEvent h code data).tenants.mig =
      some { m with ready := true } := Dev.mig_of_moves (Dev.hallEvent_moves ..)
  have hmuch : decide (m.dirtyMax < 4 * (d.dirtyPages m.hall).length) = false := decide_eq_false (by omega)
  unfold migPassCompleteOp
  rw [hm]
  dsimp only
  rw [if_neg (by simp [haccepted, hgo]), hmuch, if_pos (show (!false) = true from rfl), if_neg (by simp [hready])]
  exact hmoves ..

theorem hallGoOp_of_ready {d : Dev} {n : Nat} {m : Migration} (h0 : 0 < n) (hn : n < 256) (hrest : d.tenants.freezing.contains n = false)
    (hstate : d.hallState n = 4) (hm : d.tenants.mig = some m) (hhall : m.hall = n) (hready : m.ready = true) (hguest : d.guestOn n = false)
    (hstarted : d.stgStarted n = false) :
    hallGoOp n d = ((d.setHalls fun x => { x with mig := some { m with goAt := some d.time.raw } }).setHall n 5).coresHalt n true := by
  rw [hallGoOp, Dev.hallCmd_of_ready h0 hn hrest (by simp [hstate]), hm]
  exact (if_neg (by simp [hhall, hready])).trans (if_neg (by simp [hguest, hstarted]))

theorem hallGoOp_stops {d : Dev} {n : Nat} {m : Migration} (h0 : 0 < n) (hn : n < 256) (hrest : d.tenants.freezing.contains n = false)
    (hstate : d.hallState n = 4) (hm : d.tenants.mig = some m) (hhall : m.hall = n) (hready : m.ready = true) (hguest : d.guestOn n = false)
    (hstarted : d.stgStarted n = false) :
    (hallGoOp n d).hallState n = 5 ∧ (hallGoOp n d).tenants.mig = some { m with goAt := some d.time.raw } := by
  rw [hallGoOp_of_ready h0 hn hrest hstate hm hhall hready hguest hstarted, Dev.coresHalt_state]
  exact ⟨Dev.setHall_state _ h0 hn (by decide), Dev.mig_of_moves ((Dev.coresHalt_moves ..).trans (Dev.setHall_moves ..))⟩

theorem hallCancelOp_runs {d : Dev} {m : Migration} (h0 : 0 < m.hall) (hn : m.hall < 256) (hrest : d.tenants.freezing.contains m.hall = false)
    (hstate : d.hallState m.hall = 4) (hm : d.tenants.mig = some m) (haccepted : m.accepted = true) :
    (hallCancelOp m.hall d).hallState m.hall = 1 ∧ (hallCancelOp m.hall d).tenants.mig = none ∧
      (hallCancelOp m.hall d).get (Ent.Hall.CMD_STATUS m.hall) = 0 := by
  rw [hallCancelOp, Dev.hallCmd_of_ready h0 hn hrest (by simp [hstate]), Dev.hallDone_state _ _ _ _ hn, Dev.hallDone_ok,
    Dev.mig_of_moves (Dev.hallDone_moves ..)]
  exact ⟨Dev.migEnd_state _ hm haccepted h0 hn, Dev.migEnd_mig .., rfl⟩

theorem Dev.count_state (d : Dev) {n : Nat} (hn : n < 256) : (d.count (hallCounter n 2)).hallState n = d.hallState n :=
  Dev.hallState_of_get (Dev.count_get_other (y := Ent.Hall.STATE n) d _ _ _ _ 1 (by simp only [Entry.key, Ent.Hall.STATE]; omega)
    (by simp only [Entry.key, Ent.Hall.STATE, Ent.Hall.COUNTER_SAT]; omega) (state_notMem_logKeys hn))

theorem migReadyReceiveOp_leaves {d : Dev} {m : Migration} (hm : d.tenants.mig = some m) (hsent : m.sent = true) (h0 : 0 < m.hall) (hh : m.hall < 256) :
    (migReadyReceiveOp .ok d).hallState m.hall = 0 ∧ (migReadyReceiveOp .ok d).tenants.mig = none ∧
      (migReadyReceiveOp .ok d).get (Ent.Hall.CMD_STATUS m.hall) = 0 := by
  unfold migReadyReceiveOp
  rw [hm]
  dsimp only
  rw [if_neg (by simp [hsent]), if_neg (by simp), Dev.hallDone_state _ _ _ _ hh, Dev.migDone_state _ _ _ _ hh, Dev.count_state _ hh, Dev.hallDone_ok]
  refine ⟨Dev.hallGone_state _ h0 hh, ?_, rfl⟩
  exact Dev.mig_of_moves ((Dev.hallDone_moves ..).trans ((Dev.hallEvent_moves ..).trans ((Dev.count_moves ..).trans (Dev.hallGone_moves ..))))

/-! ### The partner -/

theorem Dev.migSend_state (d : Dev) (k h : Nat) (b : Bytes) {n : Nat} (hn : n < 256) : (d.migSend k h b).hallState n = d.hallState n :=
  Dev.hallState_of_get ((Dev.migSend_only ..).get_hall hn (by decide +kernel))

theorem migAcceptOp_arrives {d : Dev} {n ccores : Nat} {insts : List (Nat × Nat)} {windows : Bytes} (h0 : 0 < n) (hn : n < 256)
    (hfits : d.migFits n insts ccores windows = true) :
    (migAcceptOp n insts ccores windows d).hallState n = 6 ∧ KV.find n (migAcceptOp n insts ccores windows d).tenants.reserved = some insts := by
  have hset (x : Dev) (f : HallSt → HallSt) : (x.setHalls f).hallState n = x.hallState n := rfl
  rw [migAcceptOp, if_neg (by omega), if_pos hfits]
  dsimp only
  rw [Dev.migSend_state _ _ _ _ hn, hset, Dev.setHall_state d h0 hn (by decide), Dev.reserved_of_moves (Dev.migSend_moves ..)]
  exact ⟨rfl, KV.find_insert_same ..⟩

theorem migStateReceivedOp_restores {d : Dev} {n : Nat} {pages : List (Nat × Bytes)} {record : Bytes} (h0 : 0 < n) (hstate : d.hallState n = 6)
    (hwaits : d.tenants.arrived.contains n = false)
    (hvalid : ((pages.foldl (fun d x => d.writeMem (x.1 * 4096) (slice x.2 0 4096)) d).restoreRecord n record).1 = .ok) :
    (migStateReceivedOp n pages record d).tenants.arrived.contains n = true ∧ KV.find n (migStateReceivedOp n pages record d).tenants.reserved = none := by
  have harriving : ¬ (d.hallState n ≠ 6 ∨ n = 0 ∨ d.tenants.arrived.contains n = true) := by
    rw [hstate, hwaits]
    simp only [ne_eq, not_true_eq_false, Bool.false_eq_true, or_false, false_or]
    omega
  rw [migStateReceivedOp, if_neg harriving]
  dsimp only
  split
  · rw [Dev.arrived_of_moves (Dev.migSend_moves ..), Dev.reserved_of_moves (Dev.migSend_moves ..)]
    exact ⟨by simp [Dev.setHalls], KV.find_erase_same ..⟩
  next hother heq =>
    rw [heq] at hvalid
    exact (hother hvalid).elim

theorem Dev.migArrived_counts (d : Dev) {n : Nat} (hn : n < 256) :
    (d.migArrived n).get (hallCounter n 2).entry = min (d.get (hallCounter n 2).entry + 1) (2 ^ 64 - 1) := by
  have he : (fun n => (hallCounter n 2).entry) ∈ hallShows := by simp [hallShows]
  have hevent (x : Dev) (v : Nat) : (x.migDone n .ok v).get (hallCounter n 2).entry = x.get (hallCounter n 2).entry :=
    (Dev.hallEvent_only ..).get_shown he hn (by decide +kernel)
  have hthaw (x : Dev) : (x.hallThaw n).get (hallCounter n 2).entry = x.get (hallCounter n 2).entry :=
    (Dev.hallThaw_only ..).get_shown he hn (by decide +kernel)
  have hdraw (x : Dev) : (x.draw 16).2.get (hallCounter n 2).entry = x.get (hallCounter n 2).entry := rfl
  unfold Dev.migArrived
  dsimp only
  rw [hevent, hdraw]
  refine (Dev.count_get_same _ _ _ _ _ 1 rfl ?_ (key_notMem_logKeys (sub := 0x2A) rfl (by decide))).trans ?_
  · simp only [Entry.key, Ent.Hall.COUNTER_SAT]
    omega
  · rw [show (⟨0x2600 + n, 0x28 + 2, 64, 0⟩ : Entry) = (hallCounter n 2).entry from rfl, hthaw]
    rfl

theorem migCommitReceiveOp_of_arrived {d : Dev} {n : Nat} (h0 : 0 < n) (hstate : d.hallState n = 6) (harrived : d.tenants.arrived.contains n = true) :
    migCommitReceiveOp n d = d.migArrived n := if_pos ⟨hstate, by omega, harrived⟩

theorem migCommitTimeoutOp_of_sent {d : Dev} {n t : Nat} (h0 : 0 < n) (hlost : d.tenants.lostAt = some t) (hpassed : d.passed t 10000000 = true)
    (hstate : d.hallState n = 6) (harrived : d.tenants.arrived.contains n = true) : migCommitTimeoutOp n true d = d.setHall n 7 := by
  have hdue : (d.tenants.lostAt.any fun t => d.passed t 10000000) = true := by
    rw [hlost, Option.any_some, hpassed]
  unfold migCommitTimeoutOp
  split
  next hno => exact absurd hno (by rw [hstate, hdue]; simp; omega)
  next => exact if_pos ⟨rfl, harrived⟩

theorem inDoubtAnswerOp_answers {d : Dev} {n : Nat} (committed : Bool) (h0 : 0 < n) (hn : n < 256) (hstate : d.hallState n = 7) :
    (inDoubtAnswerOp n committed d).hallState n = if committed then 1 else 0 := by
  rw [inDoubtAnswerOp, if_neg (by omega)]
  split
  · exact Dev.migArrived_state _ h0 hn
  · exact Dev.migDiscard_state _ _ h0 hn

/-- Settles O27, command by command. -/
theorem hallMigrationCommands : Obligations.HallMigrationCommands := by
  unfold Obligations.HallMigrationCommands
  intro s hlive
  refine ⟨?_, ?_, ?_, ?_, ?_, ?_, ?_, ?_, ?_, ?_, ?_⟩
  · intro n h0 hn hrest hstate hmig hrole hlane hpages
    obtain ⟨hprecopy, hnew, hstatus⟩ := hallMigrateOp_copies (d := s.dev.fresh) h0 hn hrest hstate hmig hrole hlane hpages
    exact (gives_iff_of_onDev (f := hallMigrateOp n (some .ok)) rfl hlive).2 ⟨hprecopy, hnew, hstatus, Only.of_fresh (hallMigrateOp_only ..)⟩
  · intro m hm hwaits hpassed _
    obtain ⟨hnone, hstatus⟩ := migrateAcceptTimeoutOp_ends (d := s.dev.fresh) hm hwaits hpassed
    exact (gives_iff_of_onDev (f := migrateAcceptTimeoutOp) rfl hlive).2 ⟨hnone, hstatus, Only.of_fresh (migrateAcceptTimeoutOp_only ..)⟩
  · intro m hm haccepted hgo hready hfew
    have hnew := migPassCompleteOp_ready (d := s.dev.fresh) hm haccepted hgo hready hfew
    exact (gives_iff_of_onDev (f := migPassCompleteOp) rfl hlive).2 ⟨hnew, Only.of_fresh (migPassCompleteOp_only ..)⟩
  · intro n m h0 hn hrest hstate hm hhall hready hguest hstarted
    obtain ⟨hblackout, hnew⟩ := hallGoOp_stops (d := s.dev.fresh) h0 hn hrest hstate hm hhall hready hguest hstarted
    exact (gives_iff_of_onDev (f := hallGoOp n) rfl hlive).2 ⟨hblackout, hnew, Only.of_fresh (hallGoOp_only ..)⟩
  · intro n m h0 hn hrest hstate hm hhall haccepted
    subst hhall
    obtain ⟨hruns, hnone, hstatus⟩ := hallCancelOp_runs (d := s.dev.fresh) h0 hn hrest hstate hm haccepted
    exact (gives_iff_of_onDev (f := hallCancelOp m.hall) rfl hlive).2 ⟨hruns, hnone, hstatus, Only.of_fresh (hallCancelOp_only ..)⟩
  · intro m hm hsent h0 hh
    obtain ⟨habsent, hnone, hstatus⟩ := migReadyReceiveOp_leaves (d := s.dev.fresh) hm hsent h0 hh
    exact (gives_iff_of_onDev (f := migReadyReceiveOp .ok) rfl hlive).2 ⟨habsent, hnone, hstatus, Only.of_fresh (migReadyReceiveOp_only ..)⟩
  · intro n ccores insts windows h0 hn hfits
    obtain ⟨harriving, hreserved⟩ := migAcceptOp_arrives (d := s.dev.fresh) h0 hn hfits
    exact (gives_iff_of_onDev (f := migAcceptOp n insts ccores windows) rfl hlive).2 ⟨harriving, hreserved, Only.of_fresh (migAcceptOp_only ..)⟩
  · intro n pages record h0 hn hstate hwaits hvalid
    have hpages : pages.foldl (fun d x => d.writeMem (x.1 * 4096) (slice x.2 0 4096)) s.dev.fresh =
        (pages.foldl (fun d x => d.writeMem (x.1 * 4096) (slice x.2 0 4096)) s.dev).fresh := foldl_dev_fresh (fun _ _ => Dev.writeMem_fresh ..) _ _
    rw [← Dev.restoreRecord_fresh, ← hpages] at hvalid
    obtain ⟨harrived, hreserved⟩ := migStateReceivedOp_restores (d := s.dev.fresh) h0 hstate hwaits hvalid
    exact (gives_iff_of_onDev (f := migStateReceivedOp n pages record) rfl hlive).2 ⟨harrived, hreserved, Only.of_fresh (migStateReceivedOp_only ..)⟩
  · intro n h0 hn hstate harrived
    have heq := migCommitReceiveOp_of_arrived (d := s.dev.fresh) h0 hstate harrived
    have honly : Only Foot.migCommitReceive s.dev (migCommitReceiveOp n s.dev.fresh) := Only.of_fresh (migCommitReceiveOp_only ..)
    rw [heq] at honly
    refine (gives_iff_of_onDev (f := migCommitReceiveOp n) rfl hlive).2 ?_
    rw [heq]
    exact ⟨Dev.migArrived_state _ h0 hn, Dev.migArrived_counts _ hn, honly⟩
  · intro n t hlost hpassed h0 hn hstate harrived
    have heq := migCommitTimeoutOp_of_sent (d := s.dev.fresh) h0 hlost hpassed hstate harrived
    have honly : Only Foot.migCommitTimeout s.dev (migCommitTimeoutOp n true s.dev.fresh) := Only.of_fresh (migCommitTimeoutOp_only ..)
    rw [heq] at honly
    refine (gives_iff_of_onDev (f := migCommitTimeoutOp n true) rfl hlive).2 ?_
    rw [heq]
    exact ⟨Dev.setHall_state _ h0 hn (by decide), honly⟩
  · intro n committed h0 hn hstate
    have hanswer := inDoubtAnswerOp_answers (d := s.dev.fresh) committed h0 hn hstate
    exact (gives_iff_of_onDev (f := inDoubtAnswerOp n committed) rfl hlive).2 ⟨hanswer, Only.of_fresh (inDoubtAnswerOp_only ..)⟩

end Sys2Proof

/-! SUPPORT. The warm reset (R443, R446). -/

namespace Sys2Proof

open Sys2Proof.Machine

/-! ### The record and the count of warm resets -/

/-- The entries in which a warm reset shows. -/
def resetShows : List Entry := [Ent.Pwr.RESET_REASON, (powerCounter 3).entry]

/-- A footprint that names neither. -/
def Foot.sparesReset (F : Foot) : Bool := resetShows.all fun e => F.ents.all (·.lacks e.key)

theorem Only.get_resetShows {F : Foot} {a b : Dev} (h : Only F a b) {e : Entry} (he : e ∈ resetShows) (hspares : F.sparesReset = true := by decide)
    (hdict : Part.dict ∉ F.parts := by decide) : b.get e = a.get e := h.get_of_lacks (List.all_eq_true.1 hspares e he) hdict

theorem resetShows_key {e : Entry} (he : e ∈ resetShows) : 0x210000 ≤ e.key ∧ e.key < 0x210200 ∧ e.key ≠ Ent.Ndp.SESSIONS_OPEN.key ∧ e.key ∉ logKeys ∧
    persistentKey e.key = false :=
  (show ∀ e ∈ resetShows, 0x210000 ≤ e.key ∧ e.key < 0x210200 ∧ e.key ≠ Ent.Ndp.SESSIONS_OPEN.key ∧ e.key ∉ logKeys ∧ persistentKey e.key = false by
    decide +kernel) e he

theorem Dev.foldl_get {α : Type} {e : Entry} {f : Dev → α → Dev} {l : List α} (hf : ∀ d, ∀ x ∈ l, (f d x).get e = d.get e) (d : Dev) :
    (l.foldl f d).get e = d.get e := foldl_keeps_of_mem (g := fun d : Dev => d.get e) l hf d

theorem KV.find_keep_same {α : Type} {p : Nat → α → Bool} {k : Nat} (h : ∀ v, p k v = true) (m : KV α) : KV.find k (KV.keep p m) = KV.find k m := by
  induction m with
  | nil => rfl
  | cons x m ih =>
    obtain ⟨j, w⟩ := x
    unfold KV.keep
    by_cases hj : j = k
    · subst hj
      rw [if_pos (h w)]
      simp [KV.find]
    · split <;> simp [KV.find, hj, ih]

/-! ### Nodes of CANopen -/

theorem Dev.restoreEntry_get (d : Dev) {e x : Entry} (h : e.key ≠ x.key) : (d.restoreEntry x).get e = d.get e := by
  unfold Dev.restoreEntry Dev.get KV.get
  split
  · rw [KV.find_insert_other h]
  · rw [KV.find_erase_other h]

/-- The communication entries lie below index 0x2000. -/
theorem commEntries_below {d : Dev} {n : Nat} (hn : n < 16) {e : Entry} (he : e ∈ d.commEntries n) : e.key < 0x200000 := by
  have hsdo : ∀ n < 16, ∀ e ∈ [Ent.Co.SDO_RX_COB n, Ent.Co.SDO_TX_COB n], e.key < 0x200000 := by decide +kernel
  have hbeat : ∀ e ∈ (List.range 32).map Ent.Co.CONSUMER_HB, e.key < 0x200000 := by decide +kernel
  have hrx : ∀ k < 128, ∀ e ∈ [Ent.Co.RPDO_COB k, Ent.Co.RPDO_TYPE k, Ent.Co.RPDO_INHIBIT k, Ent.Co.RPDO_EVENT_TIMER k, Ent.Co.RPDO_CHANNEL k,
      Ent.Co.RPDO_SLOT k, Ent.Co.RPDO_MAP_COUNT k] ++ (List.range 8).map (Ent.Co.RPDO_MAP k), e.key < 0x200000 := by decide +kernel
  have htx : ∀ k < 128, ∀ e ∈ [Ent.Co.TPDO_COB k, Ent.Co.TPDO_TYPE k, Ent.Co.TPDO_INHIBIT k, Ent.Co.TPDO_EVENT_TIMER k, Ent.Co.TPDO_CHANNEL k,
      Ent.Co.TPDO_SLOT k, Ent.Co.TPDO_MAP_COUNT k] ++ (List.range 8).map (Ent.Co.TPDO_MAP k), e.key < 0x200000 := by decide +kernel
  unfold Dev.commEntries at he
  dsimp only at he
  rcases List.mem_append.1 he with he | he
  · rcases List.mem_append.1 he with he | he
    · rcases List.mem_append.1 he with he | he
      · exact hsdo n hn e he
      · exact hbeat e (List.mem_of_mem_filter he)
    · obtain ⟨k, hk, he⟩ := List.mem_flatMap.1 he
      rw [if_pos rfl, if_pos rfl] at he
      split at he
      · exact hrx k (List.mem_range.1 hk) e he
      · exact absurd he List.not_mem_nil
  · obtain ⟨k, hk, he⟩ := List.mem_flatMap.1 he
    simp only [Bool.false_eq_true, if_false] at he
    split at he
    · exact htx k (List.mem_range.1 hk) e he
    · exact absurd he List.not_mem_nil

theorem Dev.resetComm_get (d : Dev) {n : Nat} (hn : n < 16) {e : Entry} (he : e ∈ resetShows) : (d.resetComm n).get e = d.get e := by
  obtain ⟨hlow, -⟩ := resetShows_key he
  have hnmt (x : Dev) (st : Nat) : (x.setNmt n st).get e = x.get e := (Dev.setNmt_only ..).get_resetShows he
  have hsend (x : Dev) (c : Nat) (b : Bytes) : (x.svcSend n c b).get e = x.get e := (Dev.svcSend_only ..).get_resetShows he
  have hcan (x : Dev) (f : CanCh → CanCh) : (x.setCan n f).get e = x.get e := rfl
  have hentries : ((d.commEntries n).foldl Dev.restoreEntry d).get e = d.get e :=
    Dev.foldl_get (fun y x hx => Dev.restoreEntry_get y (by have := commEntries_below hn hx; omega)) d
  unfold Dev.resetComm
  dsimp only
  split
  · rw [hnmt, hnmt, hsend, hnmt, hcan, hentries]
  · rw [hnmt, hsend, hnmt, hcan, hentries]

theorem Dev.nodesStart_get (d : Dev) {e : Entry} (he : e ∈ resetShows) : d.nodesStart.get e = d.get e := by
  refine Dev.foldl_get (fun d n hn => ?_) d
  split
  · exact Dev.resetComm_get d (List.mem_range.1 hn) he
  · rfl

/-! ### Halls -/

/-- Instances of halls that are gone go to hall 0; no such entry is the device's own. -/
theorem Dev.hallsAbsent_get (d : Dev) {e : Entry} (he : e ∈ resetShows) : d.hallsAbsent.get e = d.get e := by
  obtain ⟨hlow, hhigh, -⟩ := resetShows_key he
  have hfix (f : Nat → Entry) (n : Nat) (hne : ∀ i < n, e.key ≠ (f i).key) (x : Dev) :
      ((List.range n).foldl (fun d i => if d.noHall (d.get (f i)) then d.put (f i) 0 else d) x).get e = x.get e := by
    refine Dev.foldl_get (fun d i hi => ?_) x
    split
    · exact Dev.get_put_other _ _ (hne i (List.mem_range.1 hi))
    · rfl
  have hblob (f : Nat → Entry) (n off stride : Nat) (x : Dev) :
      ((List.range n).foldl (fun d i => if (KV.find (f i).key d.blobs).isSome then d.putOct (f i) (d.hallBytes off stride (d.oct (f i))) else d) x).get e =
        x.get e := by
    refine Dev.foldl_get (fun d i _ => ?_) x
    split <;> rfl
  unfold Dev.hallsAbsent
  extract_lets fix x blob
  refine (hblob ..).trans ((hblob ..).trans ((hblob ..).trans ?_))
  refine (hfix _ _ (fun i hi => ?_) _).trans ((hfix _ _ (fun i hi => ?_) _).trans ((hfix _ _ (fun i hi => ?_) _).trans (hfix _ _ (fun i hi => ?_) _)))
  · simp only [Entry.key, Ent.Bind.HALL] at hlow hhigh ⊢; omega
  · simp only [Entry.key, Ent.Bctx.HALL] at hlow hhigh ⊢; omega
  · simp only [Entry.key, Ent.Qp.HALL] at hlow hhigh ⊢; omega
  · simp only [Entry.key, Ent.Dma.HALL] at hlow hhigh ⊢; omega

theorem Dev.hallsStart_get (d : Dev) {e : Entry} (he : e ∈ resetShows) : d.hallsStart.get e = d.get e := by
  have hset (x : Dev) (h : Nat) : (x.setHall h 1).get e = x.get e := (Dev.setHall_only ..).get_resetShows he
  unfold Dev.hallsStart
  rw [Dev.hallsAbsent_get _ he]
  refine Dev.foldl_get (fun d h _ => ?_) d
  split
  · exact (hset ..).trans rfl
  · rfl

theorem Dev.hallsReset_get (d : Dev) {e : Entry} (he : e ∈ resetShows) : d.hallsReset.get e = d.get e := by
  obtain ⟨hlow, hhigh, -⟩ := resetShows_key he
  unfold Dev.hallsReset
  dsimp only
  have hbctx (old x : Dev) (l : List Nat) : (l.foldl (fun d c => d.bctxApplied old (c / 64) (c % 64)) x).get e = x.get e :=
    Dev.foldl_get (fun d c _ => (Dev.bctxApplied_only d old (c / 64) (c % 64)).get_resetShows he) x
  have hcan (old x : Dev) (l : List Nat) : (l.foldl (fun d n => d.canObjApplied old n) x).get e = x.get e :=
    Dev.foldl_get (fun d n _ => (Dev.canObjApplied_only d old n).get_resetShows he) x
  have hqp (old x : Dev) (l : List Nat) : (l.foldl (fun d q => d.qpApplied old q) x).get e = x.get e :=
    Dev.foldl_get (fun d q _ => (Dev.qpApplied_only d old q).get_resetShows he) x
  have hdma (old x : Dev) (l : List Nat) : (l.foldl (fun d c => d.dmaApplied old c) x).get e = x.get e :=
    Dev.foldl_get (fun d c _ => (Dev.dmaApplied_only d old c).get_resetShows he) x
  have hgone (x : Dev) (l : List Nat) : (l.foldl (fun d h => if d.hallExists (h + 1) then d.put (Ent.Hall.STATE (h + 1)) 0 else d) x).get e = x.get e := by
    refine Dev.foldl_get (fun d h _ => ?_) x
    split
    · exact Dev.get_put_other _ _ (by simp only [Entry.key, Ent.Hall.STATE] at hlow hhigh ⊢; omega)
    · rfl
  have hemptied (x : Dev) (t : HallSt) (r : KV (List Ev)) : ({ x with tenants := t, logs := { x.logs with ringHeld := r } } : Dev).get e = x.get e := rfl
  rw [hbctx, hcan, hqp, hdma, Dev.hallsStart_get _ he, hemptied, hgone]

/-! ### The reset -/

theorem Dev.defaulted_get (d : Dev) (p : Nat → Bool) {e : Entry} (he : e ∈ resetShows) : (d.defaulted p).get e = d.get e := by
  obtain ⟨-, -, -, -, hvolatile⟩ := resetShows_key he
  have hkept : KV.find e.key (d.defaulted p).dict = KV.find e.key d.dict :=
    KV.find_keep_same (p := fun k _ => !(p k && persistentKey k)) (fun v => by rw [hvolatile, Bool.and_false, Bool.not_false]) d.dict
  unfold Dev.get KV.get
  rw [hkept]

theorem Dev.defaultMarked_get (d : Dev) {e : Entry} (he : e ∈ resetShows) : d.defaultMarked.get e = d.get e := Dev.defaulted_get d d.marked he

theorem Dev.dictEmptied_get (d : Dev) {e : Entry} (he : e ∈ resetShows) : d.dictEmptied.get e = d.get e := (Dev.dictEmptied_only d).get_resetShows he

/-- From the record and the count on, the reset leaves both. -/
theorem Dev.warmReset_get (d : Dev) (cause detail ms : Nat) {e : Entry} (he : e ∈ resetShows) :
    (d.warmReset cause detail ms).get e = ((d.wakesFalse.count (powerCounter 3)).put Ent.Pwr.RESET_REASON (⟨2, cause, detail, 0, 0⟩ : ResetCause).record).get e := by
  have hphase (x : Dev) (p : Phase) : (setPhase p x).get e = x.get e := rfl
  have hd0 (x : Dev) (f : DictUnit → DictUnit) : (x.setD0 f).get e = x.get e := rfl
  have hstarts (l : List UnitId) (x : Dev) : (l.foldl Dev.unitStarts x).get e = x.get e :=
    Dev.foldl_get (fun d u _ => (Dev.unitStarts_only d u).get_resetShows he) x
  have hgates (l : List Nat) (x : Dev) : (l.foldl Dev.gclApplied x).get e = x.get e :=
    Dev.foldl_get (fun d p _ => (Dev.gclApplied_only d p).get_resetShows he) x
  have hrole (x : Dev) (p : Prop) [Decidable p] (n : Nat) : (if p then x else x.setRole n).get e = x.get e := by
    split
    · rfl
    · exact (Dev.setRole_only ..).get_resetShows he
  unfold Dev.warmReset
  dsimp only
  rw [(Dev.engineReset_only ..).get_resetShows he, (Dev.faultRefresh_only _).get_resetShows he, hrole, Dev.nodesStart_get _ he, hstarts, hgates, hd0,
    (Dev.hallsMibApplied_only _).get_resetShows he, (Dev.partsApplied_only _).get_resetShows he, (Dev.sharedSizeSet_only _).get_resetShows he,
    Dev.hallsReset_get _ he, (Dev.eventSys_only ..).get_resetShows he, Dev.defaultMarked_get _ he, hphase, (Dev.twinReset_only _).get_resetShows he,
    (Dev.warmRegs_only _).get_resetShows he, (Dev.unitsReset_only _).get_resetShows he, (Dev.switchReset_only _).get_resetShows he,
    (Dev.coresReset_only _).get_resetShows he, Dev.dictEmptied_get _ he, (Dev.faultRefresh_only _).get_resetShows he, hphase,
    (Dev.holdChannels_only _).get_resetShows he, (Dev.newChallenge_only _).get_resetShows he]


/-- What the reset's last steps, after its start in RUNNING, leave as it is. -/
theorem Dev.warmReset_phase (d : Dev) (cause detail ms : Nat) : (d.warmReset cause detail ms).power.phase = .running := by
  have hphase (x : Dev) (p : Phase) : (setPhase p x).power.phase = p := rfl
  have hset (x : Dev) (f : DictUnit → DictUnit) : (x.setD0 f).power = x.power := rfl
  have hstarts (l : List UnitId) (x : Dev) : (l.foldl Dev.unitStarts x).power = x.power :=
    foldl_keeps (g := Dev.power) (fun x u => (Dev.unitStarts_only x u).power_eq (by decide)) l x
  have hgates (l : List Nat) (x : Dev) : (l.foldl Dev.gclApplied x).power = x.power :=
    foldl_keeps (g := Dev.power) (fun x p => (Dev.gclApplied_only x p).power_eq (by decide)) l x
  have hrole (x : Dev) (p : Prop) [Decidable p] (n : Nat) : (if p then x else x.setRole n).power = x.power := by
    split
    · rfl
    · exact (Dev.setRole_only ..).power_eq (by decide)
  unfold Dev.warmReset
  dsimp only
  rw [(Dev.engineReset_only ..).power_eq (by decide), (Dev.faultRefresh_only _).power_eq (by decide), hrole,
    (Dev.nodesStart_only _).power_eq (by decide), hstarts, hgates, hset, (Dev.hallsMibApplied_only _).power_eq (by decide),
    (Dev.partsApplied_only _).power_eq (by decide), (Dev.sharedSizeSet_only _).power_eq (by decide), (Dev.hallsReset_only _).power_eq (by decide),
    (Dev.eventSys_only ..).power_eq (by decide), (Dev.defaultMarked_only _).power_eq (by decide), hphase]

theorem Dev.warmReset_answers (d : Dev) (cause detail ms : Nat) : (d.warmReset cause detail ms).d0.running = true := by
  have hset (x : Dev) : (x.setD0 fun u => { u with running := true }).d0.running = true := rfl
  have hstarts (l : List UnitId) (x : Dev) : (l.foldl Dev.unitStarts x).d0 = x.d0 :=
    foldl_keeps (g := Dev.d0) (fun x u => (Dev.unitStarts_only x u).keep .d0 (by decide)) l x
  have hgates (l : List Nat) (x : Dev) : (l.foldl Dev.gclApplied x).d0 = x.d0 :=
    foldl_keeps (g := Dev.d0) (fun x p => (Dev.gclApplied_only x p).keep .d0 (by decide)) l x
  have hrole (x : Dev) (p : Prop) [Decidable p] (n : Nat) : (if p then x else x.setRole n).d0 = x.d0 := by
    split
    · rfl
    · exact (Dev.setRole_only ..).keep .d0 (by decide)
  unfold Dev.warmReset
  dsimp only
  rw [(Dev.engineReset_only ..).keep .d0 (by decide), (Dev.faultRefresh_only _).keep .d0 (by decide), hrole,
    (Dev.nodesStart_only _).keep .d0 (by decide), hstarts, hgates, hset]

/-- What a warm reset with CAUSE `cause` and DETAIL `detail` shows of a device `d`. -/
def WarmlyReset (d : Dev) (cause detail : Nat) (e : Dev) : Prop :=
  e.power.phase = .running ∧ e.d0.running = true ∧ e.get Ent.Pwr.RESET_REASON = 2 * 2 ^ 24 + cause * 2 ^ 16 + detail ∧
    e.get (powerCounter 3).entry = min (d.get (powerCounter 3).entry + 1) (2 ^ 64 - 1)

theorem Dev.warmReset_shows (d : Dev) {cause detail : Nat} (ms : Nat) (hcause : cause < 256) (hdetail : detail < 2 ^ 16) :
    WarmlyReset d cause detail (d.warmReset cause detail ms) := by
  have hwakes : d.wakesFalse.get (powerCounter 3).entry = d.get (powerCounter 3).entry :=
    (Dev.wakesFalse_only d).get_resetShows (List.mem_cons_of_mem _ (List.mem_singleton.2 rfl))
  refine ⟨Dev.warmReset_phase .., Dev.warmReset_answers .., ?_, ?_⟩
  · rw [Dev.warmReset_get _ _ _ _ (List.mem_cons_self ..), Dev.get_put_same]
    refine Nat.mod_eq_of_lt (?_ : 2 * 2 ^ 24 + cause * 2 ^ 16 + detail < 2 ^ 32)
    omega
  · rw [Dev.warmReset_get _ _ _ _ (List.mem_cons_of_mem _ (List.mem_singleton.2 rfl)), Dev.get_put_other _ _ (by decide), ← hwakes]
    exact Dev.count_get_same _ _ _ _ _ _ rfl (by decide) (by decide)

theorem WarmlyReset.congr {a b e : Dev} {cause detail : Nat} (h : WarmlyReset a cause detail e)
    (hcount : a.get (powerCounter 3).entry = b.get (powerCounter 3).entry) : WarmlyReset b cause detail e := by
  unfold WarmlyReset at h ⊢
  rwa [← hcount]

/-- The service port's own state is no part of it. -/
theorem WarmlyReset.servicePort {d e : Dev} {cause detail : Nat} (h : WarmlyReset d cause detail e) (v : ServicePort) :
    WarmlyReset d cause detail { e with power := { e.power with sp := v } } := by
  obtain ⟨hphase, hanswers, hreason, hcount⟩ := h
  exact ⟨hphase, hanswers, hreason, hcount⟩

/-! ### The commands -/

theorem Dev.responseFirst_warmlyReset (d : Dev) (o : Option Origin) {cause detail : Nat} (ms : Nat) (hcause : cause < 256) (hdetail : detail < 2 ^ 16) :
    WarmlyReset d cause detail (d.responseFirst o fun d => d.warmReset cause detail ms) := by
  have hreset (x : Dev) := Dev.warmReset_shows x ms hcause hdetail
  unfold Dev.responseFirst
  split
  next n _ =>
    have hsent : (d.sendQueued n).get (powerCounter 3).entry = d.get (powerCounter 3).entry :=
      (Dev.sendQueued_only d n).get_resetShows (List.mem_cons_of_mem _ (List.mem_singleton.2 rfl))
    exact (hreset (d.sendQueued n)).congr hsent
  next => exact (hreset d).servicePort _
  next => exact hreset d

theorem warmResetOp_allowed {d : Dev} (secure : Bool) (ms : Nat) (hallowed : d.warmAllowed = true) (hpf : d.get Ent.Pwr.PF_STATE = 0) :
    warmResetOp secure ms d = (d.finish Ent.Pwr.WARM_RESET.key .ok).responseFirst (KV.find Ent.Pwr.WARM_RESET.key d.d0.waits)
      fun d => d.warmReset 7 (b2n secure) ms :=
  if_neg (by rw [hallowed, hpf]; decide)

theorem warmResetOp_resets {d : Dev} (secure : Bool) (ms : Nat) (hallowed : d.warmAllowed = true) (hpf : d.get Ent.Pwr.PF_STATE = 0) :
    WarmlyReset d 7 (b2n secure) (warmResetOp secure ms d) := by
  rw [warmResetOp_allowed secure ms hallowed hpf]
  refine (Dev.responseFirst_warmlyReset _ _ ms (by decide) (by cases secure <;> decide)).congr ?_
  exact (Dev.finish_only ..).get_resetShows (List.mem_cons_of_mem _ (List.mem_singleton.2 rfl))

/-- In a power fail the write is answered and does nothing else (R443). -/
theorem warmResetOp_powerFail {d : Dev} (secure : Bool) (ms : Nat) (hpf : d.get Ent.Pwr.PF_STATE ≠ 0)
    (hwait : KV.find Ent.Pwr.WARM_RESET.key d.d0.waits = none) : warmResetOp secure ms d = d.answer .wrongState :=
  (if_pos (.inr hpf)).trans (Dev.finish_of_none _ hwait)

theorem aCoreFatalOp_resets {d : Dev} {core : Nat} (ms : Nat) (hcore : core ≤ 3) (hallowed : d.warmAllowed = true) (hpf : d.get Ent.Pwr.PF_STATE = 0) :
    WarmlyReset d 8 core (aCoreFatalOp core ms d) := by
  have hresets : aCoreFatalOp core ms d = d.warmReset 8 core ms := if_neg (by rw [hallowed, hpf]; simp; omega)
  rw [hresets]
  exact Dev.warmReset_shows d ms (by decide) (by omega)

/-- Settles O33: the record and the count of a warm reset, set before anything is reset, stay through it, and its later steps leave the phase. -/
theorem warmResetCommands : Obligations.WarmResetCommands := by
  unfold Obligations.WarmResetCommands
  intro s hlive
  refine ⟨fun secure ms hallowed hpf => ?_, fun core ms hcore hallowed hpf => ?_, fun secure ms hpf hwait => ?_⟩
  · rw [gives_iff_of_onDev (f := warmResetOp secure ms) rfl hlive]
    obtain ⟨hphase, hanswers, hreason, hcount⟩ := warmResetOp_resets (d := s.dev.fresh) secure ms hallowed hpf
    exact ⟨hphase, hanswers, hreason, hcount, Only.of_fresh (warmResetOp_only ..)⟩
  · rw [gives_iff_of_onDev (f := aCoreFatalOp core ms) rfl hlive]
    obtain ⟨hphase, hanswers, hreason, hcount⟩ := aCoreFatalOp_resets (d := s.dev.fresh) ms hcore hallowed hpf
    exact ⟨hphase, hanswers, hreason, hcount, Only.of_fresh (aCoreFatalOp_only ..)⟩
  · rw [gives_iff_of_onDev (f := warmResetOp secure ms) rfl hlive, warmResetOp_powerFail (d := s.dev.fresh) secure ms hpf hwait]
    exact ⟨rfl, Only.of_fresh Only.refl.answer⟩

end Sys2Proof

/-! SUPPORT. The log once it is open (R37): no event, no message and no step of a unit's start closes it. -/

namespace Sys2Proof

open Sys2Proof.Machine

/-- Whether the logs take records: what nothing but a reset and the start-up's step 9 changes. -/
def Machine.Dev.logOpen (d : Dev) : Bool := d.logs.isOpen

theorem Dev.logOpen_of_logs {a b : Dev} (h : b.logs = a.logs) : b.logOpen = a.logOpen := congrArg Logs.isOpen h

theorem Only.logOpen_eq {F : Foot} {a b : Dev} (h : Only F a b) (hlogs : Part.logs ∉ F.parts := by decide) : b.logOpen = a.logOpen :=
  Dev.logOpen_of_logs (h.keep .logs hlogs)

theorem Dev.foldl_logOpen {α : Type} {f : Dev → α → Dev} (hf : ∀ d x, (f d x).logOpen = d.logOpen) (l : List α) (d : Dev) : (l.foldl f d).logOpen = d.logOpen :=
  foldl_keeps (g := Machine.Dev.logOpen) hf l d

theorem Dev.ite_logOpen {p : Prop} [Decidable p] {a b d : Dev} (ha : a.logOpen = d.logOpen) (hb : b.logOpen = d.logOpen) :
    (if p then a else b).logOpen = d.logOpen := by
  split
  · exact ha
  · exact hb

@[simp] theorem Dev.put_logOpen (d : Dev) (e : Entry) (v : Nat) : (d.put e v).logOpen = d.logOpen := rfl
@[simp] theorem Dev.putBit_logOpen (d : Dev) (e : Entry) (i : Nat) (b : Bool) : (d.putBit e i b).logOpen = d.logOpen := rfl
@[simp] theorem Dev.putOct_logOpen (d : Dev) (e : Entry) (b : Bytes) : (d.putOct e b).logOpen = d.logOpen := rfl
@[simp] theorem Dev.setFld_logOpen (d : Dev) (f : Field) (v : Nat) : (d.setFld f v).logOpen = d.logOpen := rfl
@[simp] theorem Dev.setCan_logOpen (d : Dev) (n : Nat) (f : CanCh → CanCh) : (d.setCan n f).logOpen = d.logOpen := rfl

/-! ### Records -/

theorem Dev.setSinkMeta_logOpen (d : Dev) (k : SinkId) (m : SinkMeta) : (d.setSinkMeta k m).logOpen = d.logOpen := by cases k <;> rfl

theorem Dev.loseRecs_logOpen (d : Dev) (k : SinkId) (n : Nat) : (d.loseRecs k n).logOpen = d.logOpen := by cases k <;> rfl

theorem Dev.sinkPut_logOpen (d : Dev) (k : SinkId) (l : List LogRec) : (d.sinkPut k l).2.logOpen = d.logOpen := by
  cases k with
  | device => rfl
  | secure => rfl
  | ring h => exact (Dev.ringPut_only ..).logOpen_eq

theorem Dev.writeGroup_logOpen (d : Dev) (k : SinkId) (e : Ev) : (d.writeGroup k e).2.logOpen = d.logOpen := by
  unfold Dev.writeGroup
  dsimp only
  generalize numberRecs d.logs.seq (d.group k e) = l
  split
  · have hput := Dev.sinkPut_logOpen d k l
    split
    next d' hd' =>
      rw [hd'] at hput
      rw [Dev.setSinkMeta_logOpen, Dev.put_logOpen]
      exact hput
    next => exact (Dev.loseRecs_logOpen ..).trans rfl
  · exact (Dev.loseRecs_logOpen ..).trans rfl

theorem Dev.logDevice_logOpen (d : Dev) (e : Ev) : (d.logDevice e).logOpen = d.logOpen := by
  unfold Dev.logDevice
  split
  · exact Dev.ite_logOpen ((Dev.writeGroup_logOpen ..).trans (Dev.writeGroup_logOpen ..)) (Dev.writeGroup_logOpen ..)
  · rfl

theorem Dev.event_logOpen (d : Dev) (source code data : Nat) (ext : Option Bytes) : (d.event source code data ext).logOpen = d.logOpen :=
  Dev.logDevice_logOpen ..

theorem Dev.count_logOpen (d : Dev) (c : Counter) (n : Nat) : (d.count c n).logOpen = d.logOpen := by
  unfold Dev.count
  dsimp only
  split
  · rw [Dev.event_logOpen, Dev.putBit_logOpen, Dev.put_logOpen]
  · rfl

theorem Dev.eventSys_logOpen (d : Dev) (i source code data : Nat) (ext : Option Bytes) : (d.eventSys i source code data ext).logOpen = d.logOpen :=
  (Dev.logOpen_of_logs (Dev.sysIrq_logs ..)).trans (Dev.event_logOpen ..)

theorem Dev.ringSat_logOpen (d old : Dev) (h : Nat) : (d.ringSat old h).logOpen = d.logOpen := by
  unfold Dev.ringSat
  split
  · rw [Dev.logDevice_logOpen, Dev.putBit_logOpen]
  · rfl

theorem Dev.logRing0_logOpen (d : Dev) (e : Ev) : (d.logRing0 e).logOpen = d.logOpen := by
  have hgroup := Dev.writeGroup_logOpen d (.ring 0) e
  unfold Dev.logRing0
  split
  next d' hd' =>
    rw [hd'] at hgroup
    exact (Dev.ringSat_logOpen ..).trans hgroup
  next s d' _ hd' =>
    rw [hd'] at hgroup
    rw [Dev.ringSat_logOpen, Dev.logDevice_logOpen, Dev.setFld_logOpen, hgroup]

theorem Dev.holdRecord_logOpen (d : Dev) (h : Nat) (e : Ev) : (d.holdRecord h e).logOpen = d.logOpen := by
  unfold Dev.holdRecord
  extract_lets l n consumed
  split
  · rfl
  · rw [Dev.ringSat_logOpen, Dev.loseRecs_logOpen]
    rfl

theorem Dev.logRing_logOpen (d : Dev) (h : Nat) (e : Ev) : (d.logRing h e).logOpen = d.logOpen := by
  have hgroup := Dev.writeGroup_logOpen d (.ring h) e
  unfold Dev.logRing
  split
  · rfl
  · split
    · exact Dev.logRing0_logOpen ..
    · split
      · exact Dev.holdRecord_logOpen ..
      · split
        next d' hd' =>
          rw [hd'] at hgroup
          exact (Dev.ringSat_logOpen ..).trans hgroup
        next s d' _ hd' =>
          rw [hd'] at hgroup
          rw [Dev.ringSat_logOpen, Dev.logRing0_logOpen, Dev.logDevice_logOpen, Dev.setFld_logOpen, hgroup]

theorem Dev.eventRing_logOpen (d : Dev) (h source code data : Nat) (ext : Option Bytes) : (d.eventRing h source code data ext).logOpen = d.logOpen :=
  Dev.logRing_logOpen ..

theorem Dev.logSecure_logOpen (d : Dev) (e : Ev) : (d.logSecure e).logOpen = d.logOpen := by
  unfold Dev.logSecure
  dsimp only
  split
  · rfl
  · split
    · exact (Dev.logOpen_of_logs (Dev.raiseM0_logs ..)).trans (Dev.writeGroup_logOpen ..)
    · exact Dev.writeGroup_logOpen ..

theorem Dev.logTo_logOpen (d : Dev) (k : SinkId) (e : Ev) : (d.logTo k e).logOpen = d.logOpen := by
  cases k with
  | device => exact Dev.logDevice_logOpen ..
  | secure => exact Dev.logSecure_logOpen ..
  | ring h => exact Dev.logRing_logOpen ..

/-- What is written once the log opens leaves it open. -/
theorem Dev.logsOpen_logOpen (d : Dev) (r : ResetCause) (wake : Bool) (strap : Nat) (boot : List (Nat × Nat)) :
    (d.logsOpen r wake strap boot).logOpen = true := by
  have hdevice (l : List Ev) (x : Dev) := Dev.foldl_logOpen Dev.logDevice_logOpen l x
  have hother (l : List (SinkId × Ev)) (x : Dev) := Dev.foldl_logOpen (f := fun d x => d.logTo x.1 x.2) (fun d x => Dev.logTo_logOpen d x.1 x.2) l x
  have hboot (l : List (Nat × Nat)) (x : Dev) :=
    Dev.foldl_logOpen (f := fun d (e : Nat × Nat) => if e.1 = 0x22 then d else d.eventRing 0 srcUpdate e.1 e.2)
      (fun d e => Dev.ite_logOpen rfl (Dev.eventRing_logOpen ..)) l x
  unfold Dev.logsOpen
  dsimp only
  rw [hboot, hother, hdevice]
  rfl

/-! ### Answers and messages -/

theorem Dev.svcQueue_logOpen (d : Dev) (n : Nat) (x : SvcFrame) : (d.svcQueue n x).logOpen = d.logOpen := by
  unfold Dev.svcQueue
  exact Dev.ite_logOpen rfl (Dev.ite_logOpen (Dev.count_logOpen ..) rfl)

theorem Dev.countDrop_logOpen (d : Dev) (p c i : Nat) (w : Drop) : (d.countDrop p c i w).logOpen = d.logOpen := by
  cases w with
  | ecc => exact (Dev.count_logOpen ..).trans (Dev.count_logOpen ..)
  | _ => exact Dev.count_logOpen ..

theorem Dev.sendTcm_logOpen (d : Dev) (p : Nat) (f : Frame) : (d.sendTcm p f).logOpen = d.logOpen := by
  unfold Dev.sendTcm
  dsimp only
  split
  · exact (Dev.enqueue_only ..).logOpen_eq.trans rfl
  · exact Dev.countDrop_logOpen ..
  · rfl

theorem Dev.ctrl_logOpen (d : Dev) (msg : Nat) (body : Bytes) (q : Nat) : (d.ctrl msg body q).logOpen = d.logOpen := by
  unfold Dev.ctrl
  split
  · rfl
  · rw [Dev.ctrlOn, Dev.count_logOpen, Dev.count_logOpen, (Dev.putFrame_only ..).logOpen_eq]

theorem Dev.post_logOpen (d : Dev) (hall msg : Nat) (body : Bytes) (attach : Bool) : (d.post hall msg body attach).logOpen = d.logOpen := Dev.ctrl_logOpen ..

/-! ### Bridge sessions -/

theorem Dev.limited_logOpen {d : Dev} {scope n : Nat} {f : Dev → Nat → Dev} (hf : ∀ d k, (f d k).logOpen = d.logOpen) :
    (d.limited scope n f).logOpen = d.logOpen := Dev.limited_keeps hf fun _ _ => rfl

theorem Dev.ctxCount_logOpen (d : Dev) (u sid i n : Nat) : (d.ctxCount u sid i n).logOpen = d.logOpen := by
  unfold Dev.ctxCount
  split
  · exact Dev.count_logOpen ..
  · rfl

theorem Dev.pollFailed_logOpen (d : Dev) (u e : Nat) (s : Status) (far : Nat) : (d.pollFailed u e s far).logOpen = d.logOpen := by
  unfold Dev.pollFailed
  dsimp only
  rw [Dev.limited_logOpen fun x k => (Dev.eventRing_logOpen ..).trans (Dev.event_logOpen ..), Dev.setFld_logOpen, Dev.setFld_logOpen]

theorem Dev.settleFail_logOpen (d : Dev) (u sid : Nat) (r : BReq) (s : Status) (far : Nat) : (d.settleFail u sid r s far).logOpen = d.logOpen := by
  have hbst (x : Dev) (u k c f a : Nat) : (x.bstFail u k c f a).logOpen = x.logOpen := (Dev.bstFail_only ..).logOpen_eq
  have hreq (x : Dev) (r : BReq) (s : Status) (v : Nat) : (x.completeReq r s v).logOpen = x.logOpen := (Dev.completeReq_only ..).logOpen_eq
  have hctx (x : Dev) (f : BCtx → BCtx) : (x.setBrCtx u sid f).logOpen = x.logOpen := (Dev.setBrCtx_only ..).logOpen_eq
  have hquery (x : Dev) (s : Status) (v : Nat) : (x.queryDone s v).logOpen = x.logOpen := (Dev.queryDone_only ..).logOpen_eq
  have hremote (x : Dev) (s : Status) (f : Option Nat) : (x.remoteMbDone u sid s f none).logOpen = x.logOpen := (Dev.remoteMbDone_only ..).logOpen_eq
  have hposted (x : Dev) (a b c e f g : Nat) : (x.postedFail a b c e f g).logOpen = x.logOpen := Dev.eventRing_logOpen ..
  have hcount : ((if s = .remoteTimeout then d.ctxCount u sid 3 else d.ctxCount u sid 2) : Dev).logOpen = d.logOpen :=
    Dev.ite_logOpen (Dev.ctxCount_logOpen ..) (Dev.ctxCount_logOpen ..)
  have hread (x : Dev) (v : Nat) (hx : x.logOpen = d.logOpen) : ((if s = .aborted then x.completeReq r .aborted v
      else if (r.gone && r.msg.spec) = true then x else (x.bstFail u sid s.code far r.addr).completeReq r .ok v) : Dev).logOpen = d.logOpen :=
    Dev.ite_logOpen (by rw [hreq, hx]) (Dev.ite_logOpen hx (by rw [hreq, hbst, hx]))
  have hpost (x : Dev) (hx : x.logOpen = d.logOpen) :
      ((x.setBrCtx u sid fun c => c.postFailed r.msg.tag (s == .remoteTimeout)).postedFail (srcBridge u sid) r.hall r.epoch r.msg.tag r.msg.addr
        s.code).logOpen = d.logOpen := by rw [hposted, hctx, hx]
  have hmailbox (x : Dev) (hx : x.logOpen = d.logOpen) : ((if r.initiator = srcTwin then x.queryDone s far else
      x.remoteMbDone u sid s (if s = .remoteFailed ∨ s = .remoteTimeout then some far else none) none) : Dev).logOpen = d.logOpen :=
    Dev.ite_logOpen (by rw [hquery, hx]) (by rw [hremote, hx])
  unfold Dev.settleFail
  dsimp only
  split
  · exact hread _ _ hcount
  · exact hread _ _ hcount
  · exact hread _ _ hcount
  · exact hpost _ hcount
  · exact hpost _ hcount
  · exact hmailbox _ hcount
  · exact hmailbox _ hcount
  · split
    · exact (Dev.pollFailed_logOpen ..).trans hcount
    · exact hcount
  · exact hcount

theorem Dev.bridgeConnect_logOpen (d : Dev) (u sid : Nat) : (d.bridgeConnect u sid).logOpen = d.logOpen := by
  have hsess (x : Dev) (f : BSess → BSess) : (x.setBrSess u sid f).logOpen = x.logOpen := (Dev.setBrSess_only ..).logOpen_eq
  unfold Dev.bridgeConnect
  dsimp only
  split
  · exact (Dev.foldl_logOpen (fun d r => Dev.settleFail_logOpen ..) _ _).trans (hsess ..)
  · rw [(Dev.showSession_only ..).logOpen_eq, (Dev.sessSend_only ..).logOpen_eq, hsess]
    exact (Dev.draw_only d 128).logOpen_eq

/-! ### Halls -/

theorem Dev.writeHeld_logOpen (d : Dev) (h : Nat) : (d.writeHeld h).logOpen = d.logOpen :=
  (Dev.foldl_logOpen (fun d e => Dev.logRing_logOpen d h e) _ _).trans rfl

theorem Dev.hallEvent_logOpen (d : Dev) (h code data : Nat) : (d.hallEvent h code data).logOpen = d.logOpen :=
  (Dev.eventRing_logOpen ..).trans (Dev.event_logOpen ..)

theorem Dev.setHall_logOpen (d : Dev) (h s : Nat) : (d.setHall h s).logOpen = d.logOpen := by
  have hshown : ((d.put (Ent.Hall.STATE h) s).hallEvent h 0x20 (d.hallState h * 256 + s)).logOpen = d.logOpen := by
    rw [Dev.hallEvent_logOpen, Dev.put_logOpen]
  unfold Dev.setHall
  exact Dev.ite_logOpen ((Dev.writeHeld_logOpen ..).trans hshown) hshown

theorem Dev.hallsStart_logOpen (d : Dev) : d.hallsStart.logOpen = d.logOpen := by
  have hbump (x : Dev) (u : EpochUnit) : (x.bumpEpoch u).logOpen = x.logOpen := rfl
  unfold Dev.hallsStart
  rw [(Dev.hallsAbsent_only _).logOpen_eq]
  exact Dev.foldl_logOpen (fun d h => Dev.ite_logOpen (by rw [Dev.setHall_logOpen, hbump]) rfl) _ d

/-! ### Roles, loads and the engine -/

theorem Dev.twinEvent_logOpen (d : Dev) (code data : Nat) : (d.twinEvent code data).logOpen = d.logOpen :=
  (Dev.eventRing_logOpen ..).trans (Dev.eventSys_logOpen ..)

theorem Dev.setRole_logOpen (d : Dev) (r : Nat) : (d.setRole r).logOpen = d.logOpen := by
  unfold Dev.setRole
  exact Dev.ite_logOpen rfl (by rw [Dev.twinEvent_logOpen, Dev.put_logOpen])

theorem Dev.sscSet_logOpen (d : Dev) (on : Bool) : (d.sscSet on).logOpen = d.logOpen := by
  unfold Dev.sscSet
  exact Dev.ite_logOpen rfl (by rw [Dev.clockEvent, Dev.eventSys_logOpen, Dev.put_logOpen])

theorem Dev.sscEnds_logOpen (d : Dev) : d.sscEnds.logOpen = d.logOpen := by
  unfold Dev.sscEnds
  exact Dev.ite_logOpen rfl ((Dev.sscSet_logOpen ..).trans rfl)

theorem Dev.applySafe_logOpen (d : Dev) (n : Nat) : (d.applySafe n).logOpen = d.logOpen := by
  have hflag (x : Dev) (i : Nat) (b : Bool) : (x.setLoadFlag n i b).logOpen = x.logOpen := (Dev.setLoadFlag_only ..).logOpen_eq
  have hch (x : Dev) (f : LoadCh → LoadCh) : (x.setLoadCh n f).logOpen = x.logOpen := rfl
  have hpwm : (if (bit (d.safeCommand n) 2 && !bit (d.loadCh n).cmd 2) = true then d.sscEnds else d).logOpen = d.logOpen :=
    Dev.ite_logOpen (Dev.sscEnds_logOpen d) rfl
  unfold Dev.applySafe
  dsimp only
  split
  · rfl
  · split
    · rw [(Dev.followOn_only ..).logOpen_eq, hch, hflag, hflag, (Dev.windowGoesOn_only ..).logOpen_eq, hpwm]
    · refine Dev.ite_logOpen ?_ ?_
      · rw [(Dev.enterLoad_only ..).logOpen_eq, hch, hflag, hflag, (Dev.windowGoesOn_only ..).logOpen_eq, hpwm]
      · rw [hch, hflag, hflag, (Dev.windowGoesOn_only ..).logOpen_eq, hpwm]

theorem Dev.engineSafe_logOpen (d : Dev) (fault : Bool) : (d.engineSafe fault).logOpen = d.logOpen :=
  Dev.foldl_logOpen (fun _ _ => Dev.ite_logOpen (Dev.applySafe_logOpen ..) rfl) _ d

theorem Dev.faultRefresh_logOpen (d : Dev) : d.faultRefresh.logOpen = d.logOpen := by
  have hlow (b : Bool) (o : Out) : (((d.setTwin fun t => { t with low := b }).emit o : Dev)).logOpen = d.logOpen := rfl
  unfold Dev.faultRefresh
  split
  · exact Dev.ite_logOpen (hlow ..) rfl
  · refine Dev.ite_logOpen rfl (Dev.ite_logOpen ?_ (hlow ..))
    rw [Dev.twinEvent_logOpen, Dev.engineSafe_logOpen, Dev.setRole_logOpen, hlow]

theorem Dev.seEvent_logOpen (d : Dev) (source code data : Nat) : (d.seEvent source code data).logOpen = d.logOpen := Dev.eventSys_logOpen ..

theorem Dev.setEngine_logOpen (d : Dev) (st : Nat) : (d.setEngine st).logOpen = d.logOpen := by
  have hshown : ((d.put Ent.Se.STATE st).seEvent srcEngine 0x0020 (d.engine * 256 + st)).logOpen = d.logOpen := by
    rw [Dev.seEvent_logOpen, Dev.put_logOpen]
  unfold Dev.setEngine
  exact Dev.ite_logOpen rfl (Dev.ite_logOpen ((Dev.eventRing_logOpen ..).trans hshown) hshown)

theorem Dev.retainStatus_logOpen (d : Dev) (v : Nat) : (d.retainStatus v).logOpen = d.logOpen := by
  rw [Dev.retainStatus, Dev.seEvent_logOpen, Dev.put_logOpen]

theorem Dev.retainRestore_logOpen (d : Dev) (img : Bytes) : (d.retainRestore img).logOpen = d.logOpen := by
  unfold Dev.retainRestore
  split
  · exact (Dev.retainStatus_logOpen ..).trans (Dev.setRegion_only ..).logOpen_eq
  · exact (Dev.retainStatus_logOpen ..).trans (Dev.retainInit_only ..).logOpen_eq

theorem Dev.forcesChanged_logOpen (d : Dev) : d.forcesChanged.logOpen = d.logOpen := by
  unfold Dev.forcesChanged
  exact Dev.ite_logOpen ((Dev.post_logOpen ..).trans rfl) rfl

theorem Dev.clearForces_logOpen (d : Dev) : d.clearForces.logOpen = d.logOpen := by
  unfold Dev.clearForces
  exact Dev.ite_logOpen rfl ((Dev.seEvent_logOpen ..).trans ((Dev.forcesChanged_logOpen _).trans rfl))

end Sys2Proof

/-! SUPPORT. A start-up opens the log and leaves it open (Table 19.8). -/

namespace Sys2Proof

open Sys2Proof.Machine

/-! ### The engine's start -/

theorem Dev.loadImage_logOpen (d : Dev) (img : Bytes) (warm : Bool) : (d.loadImage img warm).logOpen = d.logOpen := by
  have hrelease (x : Dev) : ((imgCyclic d.image).foldl (fun x r => if (d.engine != 0 && !warm) = true then x.releaseUnit r.unit else x) x).logOpen = x.logOpen :=
    Dev.foldl_logOpen (fun _ _ => Dev.ite_logOpen (Dev.releaseUnit_only ..).logOpen_eq rfl) _ x
  have hdata (x : Dev) : ((imgExecs img).foldl (fun d y => d.loadData img y) x).logOpen = x.logOpen :=
    Dev.foldl_logOpen (fun _ _ => (Dev.loadData_only ..).logOpen_eq) _ x
  have hretain (x : Dev) : (if warm = true then x.retainStatus 3 else if (!(d.engine != 0) || imgRetain d.image != imgRetain img) = true then x.retainRestore img
      else x).logOpen = x.logOpen :=
    Dev.ite_logOpen (Dev.retainStatus_logOpen ..) (Dev.ite_logOpen (Dev.retainRestore_logOpen ..) rfl)
  have hrecord (x : Dev) : (if warm = true then x else x.recordWritten 2 0).logOpen = x.logOpen :=
    Dev.ite_logOpen rfl (Dev.recordWritten_only ..).logOpen_eq
  have hscan (x : Dev) (f : ScanSt → ScanSt) : (x.setScan f).logOpen = x.logOpen := rfl
  unfold Dev.loadImage
  dsimp only
  rw [Dev.setEngine_logOpen, Dev.engineSafe_logOpen, Dev.seEvent_logOpen, Dev.clearForces_logOpen, hscan, (Dev.loadSlots_only ..).logOpen_eq,
    Dev.put_logOpen, Dev.putOct_logOpen, hrecord, hretain, (Dev.exchangeBanks_only ..).logOpen_eq, hdata, (Dev.loadBanks_only ..).logOpen_eq, hrelease]

theorem Dev.startEngine_logOpen (d : Dev) : d.startEngine.logOpen = d.logOpen := by
  unfold Dev.startEngine
  dsimp only
  rw [Dev.setEngine_logOpen, (Dev.clearTasks_only _).logOpen_eq]
  exact Dev.foldl_logOpen (fun _ _ => (Dev.armTask_only ..).logOpen_eq) _ d

theorem Dev.engineBoots_logOpen (d : Dev) (env : BootEnv) : (d.engineBoots env).logOpen = d.logOpen := by
  unfold Dev.engineBoots
  dsimp only
  rw [Dev.put_logOpen, Dev.sscEnds_logOpen]
  have hload : (if d.rescue = true ∨ d.image = [] then d else d.loadImage d.image).logOpen = d.logOpen := Dev.ite_logOpen rfl (Dev.loadImage_logOpen ..)
  exact (Dev.ite_logOpen (Dev.startEngine_logOpen _) rfl).trans hload

/-! ### The units' start -/

theorem Dev.setGates_logOpen (d : Dev) (p g : Nat) : (d.setGates p g).logOpen = d.logOpen := by
  unfold Dev.setGates
  dsimp only
  refine (Dev.foldl_logOpen (fun x k => Dev.ite_logOpen ?_ rfl) _ _).trans rfl
  split
  · exact Dev.ite_logOpen ((Dev.count_logOpen ..).trans rfl) rfl
  · rfl

theorem Dev.gclApplied_logOpen (d : Dev) (p : Nat) : (d.gclApplied p).logOpen = d.logOpen := by
  unfold Dev.gclApplied
  exact Dev.ite_logOpen rfl ((Dev.setGates_logOpen ..).trans rfl)

theorem Dev.setPtpState_logOpen (d : Dev) (p st : Nat) : (d.setPtpState p st).logOpen = d.logOpen := by
  unfold Dev.setPtpState
  exact Dev.ite_logOpen rfl (by rw [Dev.event_logOpen, Dev.put_logOpen])

theorem Dev.ptpRoles_logOpen (d : Dev) : d.ptpRoles.logOpen = d.logOpen :=
  Dev.foldl_logOpen (fun _ _ => Dev.ite_logOpen (Dev.setPtpState_logOpen ..) (Dev.ite_logOpen (Dev.setPtpState_logOpen ..) rfl)) _ d

theorem Dev.settingsInForce_logOpen (d : Dev) (cold : Bool) : (d.settingsInForce cold).logOpen = d.logOpen := by
  have hpairs (l : List Nat) (x : Dev) : (l.foldl (fun d p => d.put (Ent.Pair.STATE p) (d.get (Ent.Pair.LOCKSTEP p))) x).logOpen = x.logOpen :=
    Dev.foldl_logOpen (fun _ _ => Dev.put_logOpen ..) l x
  have hfilters (l : List Nat) (x : Dev) : (l.foldl (fun d s => d.put (Ent.Wsrc.FILTER_CUR s) (d.get (Ent.Wsrc.FILTER_BASE s))) x).logOpen = x.logOpen :=
    Dev.foldl_logOpen (fun _ _ => Dev.put_logOpen ..) l x
  have hretries (l : List Nat) (x : Dev) : (l.foldl Dev.refillRetries x).logOpen = x.logOpen :=
    Dev.foldl_logOpen (fun _ _ => (Dev.refillRetries_only ..).logOpen_eq) l x
  unfold Dev.settingsInForce
  dsimp only
  refine (Dev.ite_logOpen (hfilters ..) rfl).trans ?_
  rw [hpairs, hretries, Dev.foldl_logOpen Dev.gclApplied_logOpen, (Dev.hallsMibApplied_only _).logOpen_eq, (Dev.partsApplied_only _).logOpen_eq,
    Dev.ptpRoles_logOpen, (Dev.sharedSizeSet_only _).logOpen_eq]

theorem Dev.unitEnabled_logOpen (d : Dev) (x : UnitId) : (d.unitEnabled x).logOpen = d.logOpen := by
  cases x with
  | port p => exact (Dev.driveXtxdis_only ..).logOpen_eq
  | can n =>
    refine (Dev.wakeWindow_only ..).logOpen_eq.trans ((Dev.integrate_only ..).logOpen_eq.trans ?_)
    rw [Dev.setCan_logOpen, Dev.sscEnds_logOpen]
  | bridge u k => exact Dev.bridgeConnect_logOpen ..
  | dma c => exact (Dev.dmaEnabled_only ..).logOpen_eq
  | _ => rfl

theorem Dev.sendKeepalive_logOpen (d : Dev) (k : Nat) : (d.sendKeepalive k).logOpen = d.logOpen := by
  unfold Dev.sendKeepalive
  dsimp only
  exact Dev.ite_logOpen rfl (Dev.ite_logOpen ((Dev.svcQueue_logOpen ..).trans rfl) ((Dev.sendTcm_logOpen ..).trans rfl))

theorem Dev.refreshDomain_logOpen (d : Dev) (k : Nat) : (d.refreshDomain k).logOpen = d.logOpen := by
  unfold Dev.refreshDomain
  exact Dev.ite_logOpen ((Dev.sendKeepalive_logOpen ..).trans rfl) (Dev.ite_logOpen rfl rfl)

theorem Dev.unitDomains_logOpen (d : Dev) (x : UnitId) : (d.unitDomains x).logOpen = d.logOpen := by
  unfold Dev.unitDomains
  split
  · exact Dev.refreshDomain_logOpen ..
  · rfl

theorem Dev.unitStarts_logOpen (d : Dev) (x : UnitId) : (d.unitStarts x).logOpen = d.logOpen := by
  unfold Dev.unitStarts
  exact Dev.ite_logOpen rfl (by rw [Dev.unitDomains_logOpen, Dev.unitEnabled_logOpen, Dev.put_logOpen])

theorem Dev.setNmt_logOpen (d : Dev) (n st : Nat) : (d.setNmt n st).logOpen = d.logOpen := by
  unfold Dev.setNmt
  exact Dev.ite_logOpen rfl (by rw [Dev.event_logOpen, Dev.put_logOpen])

theorem Dev.resetComm_logOpen (d : Dev) (n : Nat) : (d.resetComm n).logOpen = d.logOpen := by
  have hentries : ((d.commEntries n).foldl Dev.restoreEntry d).logOpen = d.logOpen :=
    Dev.foldl_logOpen (fun x e => (rfl : (x.restoreEntry e).logOpen = x.logOpen)) _ d
  have hboot : ∀ c b, ((((((d.commEntries n).foldl Dev.restoreEntry d).setCan n fun c => { c with sdo := .idle }).setNmt n 0).svcSend n c b).setNmt n 127).logOpen =
      d.logOpen := fun c b => by
    rw [Dev.setNmt_logOpen, Dev.svcSend, Dev.svcQueue_logOpen, Dev.setNmt_logOpen, Dev.setCan_logOpen, hentries]
  unfold Dev.resetComm
  exact Dev.ite_logOpen ((Dev.setNmt_logOpen ..).trans (hboot ..)) (hboot ..)

theorem Dev.nodesStart_logOpen (d : Dev) : d.nodesStart.logOpen = d.logOpen :=
  Dev.foldl_logOpen (fun _ _ => Dev.ite_logOpen (Dev.resetComm_logOpen ..) rfl) _ d

theorem Dev.unitsStart_logOpen (d : Dev) (cold : Bool) : (d.unitsStart cold).logOpen = d.logOpen := by
  have hset (x : Dev) (f : DictUnit → DictUnit) : (x.setD0 f).logOpen = x.logOpen := rfl
  unfold Dev.unitsStart
  dsimp only
  rw [Dev.faultRefresh_logOpen]
  refine (Dev.ite_logOpen (Dev.put_logOpen ..) rfl).trans ?_
  rw [Dev.nodesStart_logOpen, Dev.foldl_logOpen Dev.unitStarts_logOpen, hset, Dev.settingsInForce_logOpen]

theorem Dev.stepsAfterLog_logOpen (d : Dev) (p cold : Bool) (env : BootEnv) :
    (((if p = true then d.hallsAbsent else d.hallsStart).unitsStart cold).engineBoots env).logOpen = d.logOpen := by
  rw [Dev.engineBoots_logOpen, Dev.unitsStart_logOpen]
  exact Dev.ite_logOpen (Dev.hallsAbsent_only _).logOpen_eq (Dev.hallsStart_logOpen _)

/-- Step 9 of Table 19.8, at which the log opens, and the steps after it. -/
theorem Dev.startUp_eq (d : Dev) (r : ResetCause) (wake : Bool) (env : BootEnv) : ∃ (x : Dev) (last : ResetCause) (woken : Bool) (strap : Nat)
    (boot : List (Nat × Nat)), d.startUp r wake env =
      ((if (x.logsOpen last woken strap boot).rescue then (x.logsOpen last woken strap boot).hallsAbsent
        else (x.logsOpen last woken strap boot).hallsStart).unitsStart (r.kind == 0)).engineBoots env :=
  ⟨_, _, _, _, _, rfl⟩

/-- From step 9 on the log is open. -/
theorem Dev.startUp_logOpen (d : Dev) (r : ResetCause) (wake : Bool) (env : BootEnv) : (d.startUp r wake env).logOpen = true := by
  obtain ⟨x, last, woken, strap, boot, hsteps⟩ := Dev.startUp_eq d r wake env
  rw [hsteps, Dev.stepsAfterLog_logOpen, Dev.logsOpen_logOpen]

/-- Once the units have started, nodes and FAULT_N follow, and a twin unit takes its role. -/
theorem Dev.unitsStart_eq (d : Dev) (cold : Bool) : ∃ x : Dev,
    x = (allUnits.foldl Dev.unitStarts ((d.settingsInForce cold).setD0 fun u => { u with running := true })).nodesStart ∧
      d.unitsStart cold = (if x.twinOn ∧ !x.rescue then x.put Ent.Tws.ROLE 5 else x).faultRefresh := ⟨_, rfl, rfl⟩

theorem Dev.unitsStart_answers (d : Dev) (cold : Bool) : (d.unitsStart cold).d0.running = true := by
  have hset (x : Dev) : (x.setD0 fun u => { u with running := true }).d0.running = true := rfl
  have hstarts (l : List UnitId) (x : Dev) : (l.foldl Dev.unitStarts x).d0 = x.d0 :=
    foldl_keeps (g := Dev.d0) (fun x u => (Dev.unitStarts_only x u).keep .d0 (by decide)) l x
  have hrole (x : Dev) (p : Prop) [Decidable p] : (if p then x.put Ent.Tws.ROLE 5 else x).d0 = x.d0 := by split <;> rfl
  obtain ⟨x, hx, hstarted⟩ := Dev.unitsStart_eq d cold
  rw [hstarted, (Dev.faultRefresh_only _).keep .d0 (by decide), hrole, hx, (Dev.nodesStart_only _).keep .d0 (by decide), hstarts, hset]

/-- The dictionary answers from the units' start on. -/
theorem Dev.startUp_answers (d : Dev) (r : ResetCause) (wake : Bool) (env : BootEnv) : (d.startUp r wake env).d0.running = true := by
  obtain ⟨x, last, woken, strap, boot, hsteps⟩ := Dev.startUp_eq d r wake env
  rw [hsteps, (Dev.engineBoots_only ..).keep .d0 (by decide), Dev.unitsStart_answers]

end Sys2Proof

/-! SUPPORT. The supply, RESET_N and fatal faults (R437 to R442, R450). -/

namespace Sys2Proof

open Sys2Proof.Machine

theorem gives_iff_of_onVest {c : Instr} {s : State} {f : Dev → Dev} {P : Dev → Prop} (hc : exec c s = onVest s f) : Gives c s P ↔ P (f s.dev.fresh) := by
  constructor
  · rintro ⟨t, hexec, -, hp⟩
    rw [hc] at hexec
    cases hexec
    exact hp
  · exact fun hp => ⟨_, hc, rfl, hp⟩

/-! ### What a reset keeps (Table 19.6) -/

/-- Without supply DRAM is empty. -/
theorem Dev.afterReset_mem (d : Dev) : (d.afterReset true false).mem = [] := by
  have hcleared (x : Dev) : (x.cleared true false).mem = [] := rfl
  have himage (x : Dev) (p : Prop) [Decidable p] (b : Bytes) : (if p then x else x.putOct Ent.Seimg.ACTIVE_IMAGE b).mem = x.mem := by split <;> rfl
  unfold Dev.afterReset
  dsimp only
  rw [if_pos rfl, Dev.put_mem, (Dev.keptSat_only _).keep .mem (by decide), himage]
  split
  · rw [Dev.putOct_mem, hcleared]
  · rw [hcleared]

theorem Dev.supplyLost_shows (d : Dev) : d.supplyLost.power.phase = .off ∧ d.supplyLost.mem = [] ∧ Out.line "REGEN" 0 false ∈ d.supplyLost.out := by
  have hlines (x : Dev) (a b c : Out) : ((((x.emit a).emit b).emit c).power.phase = x.power.phase ∧ (((x.emit a).emit b).emit c).mem = x.mem ∧
      a ∈ (((x.emit a).emit b).emit c).out) := ⟨rfl, rfl, by simp [Dev.emit]⟩
  have hlost : ∃ x : Dev, d.supplyLost = ((x.emit (.line "REGEN" 0 false)).emit (.line "DRAM_EN" 0 false)).emit (.line "FAULT_N" 0 false) ∧
      x.power.phase = .off ∧ x.mem = (d.afterReset true false).mem := ⟨_, rfl, rfl, rfl⟩
  obtain ⟨x, heq, hoff, hempty⟩ := hlost
  obtain ⟨hphase, hmem, hout⟩ := hlines x (.line "REGEN" 0 false) (.line "DRAM_EN" 0 false) (.line "FAULT_N" 0 false)
  rw [heq]
  exact ⟨hphase.trans hoff, hmem.trans (hempty.trans (Dev.afterReset_mem d)), hout⟩

theorem Dev.chipReset_eq (d : Dev) {r : ResetCause} (dram : Bool) (hcause : r.cause ≠ 3) :
    d.chipReset r dram = (((d.wakesFalse.afterReset false dram).put Ent.Pwr.RESET_REASON r.record).count (powerCounter 2)).emit (.line "FAULT_N" 0 false) := by
  unfold Dev.chipReset
  exact congrArg (fun x : Dev => (x.count (powerCounter 2)).emit (.line "FAULT_N" 0 false)) (if_neg hcause)

/-- A chip reset that the secure watchdog does not cause holds its record and drives FAULT_N low. -/
theorem Dev.chipReset_shows (d : Dev) (r : ResetCause) (dram : Bool) {v : Nat} (hcause : r.cause ≠ 3) (hrecord : r.record % 2 ^ 32 = v) :
    (d.chipReset r dram).get Ent.Pwr.RESET_REASON = v ∧ Out.line "FAULT_N" 0 false ∈ (d.chipReset r dram).out := by
  have hcount (x : Dev) : (x.count (powerCounter 2)).get Ent.Pwr.RESET_REASON = x.get Ent.Pwr.RESET_REASON :=
    Dev.count_get_other x _ _ _ _ _ (by decide) (by decide) (by decide)
  rw [Dev.chipReset_eq d dram hcause, Dev.get_emit, hcount, Dev.get_put_same, Dev.emit_out]
  exact ⟨hrecord, List.mem_append_right _ (List.mem_singleton.2 rfl)⟩

/-- The phase that a hold gives. -/
theorem setPhase_shows {d : Dev} {v : Nat} {o : Out} (p : Phase) (h : d.get Ent.Pwr.RESET_REASON = v ∧ o ∈ d.out) :
    (setPhase p d).power.phase = p ∧ (setPhase p d).get Ent.Pwr.RESET_REASON = v ∧ o ∈ (setPhase p d).out := ⟨rfl, h⟩

/-- What a start-up shows. -/
def Started (d : Dev) : Prop := d.power.phase = .running ∧ d.d0.running = true ∧ d.logs.isOpen = true

theorem Started.intro {d : Dev} (hphase : d.power.phase = .running) (hanswers : d.d0.running = true) (hopen : d.logOpen = true) : Started d :=
  ⟨hphase, hanswers, hopen⟩

theorem Dev.startUp_started (d : Dev) (r : ResetCause) (wake : Bool) (env : BootEnv) : Started (d.startUp r wake env) :=
  .intro (Dev.startUp_running ..) (Dev.startUp_answers ..) (Dev.startUp_logOpen ..)

/-! ### The commands -/

theorem vauxOnOp_starts {d : Dev} (env : BootEnv) (h : d.power.phase = .off) : Started (vauxOnOp env d) := by
  rw [vauxOnOp, if_pos h]
  exact Dev.startUp_started ..

theorem vauxPorOp_of_supply {d : Dev} (h : d.power.phase ≠ .off) : vauxPorOp d = d.supplyLost := if_neg h

theorem resetNLowOp_of_running {d : Dev} (h : d.power.phase = .running) :
    resetNLowOp d = setPhase (.held true false) (d.chipReset ⟨1, 2, 0, 0, 0⟩ false) := by
  rw [resetNLowOp, h]

theorem resetNHighOp_starts {d : Dev} (env : BootEnv) (h : d.power.phase = .held true false) : Started (resetNHighOp env d) := by
  rw [resetNHighOp, h]
  exact Dev.startUp_started ..

theorem fatalFaultOp_hot {d : Dev} (rail mv : Nat) (env : BootEnv) (h : d.awake = true) :
    fatalFaultOp 2 rail mv env d = setPhase (.held false true) (d.chipReset ⟨1, 4, 2, 0, 0⟩ false) := by
  rw [fatalFaultOp, if_neg (by simp [h]), if_pos rfl]

theorem fatalFaultOp_restarts {d : Dev} {detail : Nat} (rail mv : Nat) (env : BootEnv) (h : d.awake = true) (hdetail : detail = 1 ∨ detail = 3 ∨ detail = 4) :
    Started (fatalFaultOp detail rail mv env d) := by
  rw [fatalFaultOp, if_neg (by simp [h]; omega), if_neg (by omega)]
  exact Dev.startUp_started ..

theorem overtempClearOp_starts {d : Dev} (env : BootEnv) (h : d.power.phase = .held false true) : Started (overtempClearOp env d) := by
  rw [overtempClearOp, h]
  exact Dev.startUp_started ..

/-- Settles O32: every start is the start-up, whose steps keep phase, dictionary and log as they are set; a reset that holds keeps its record. -/
theorem supplyAndResetCommands : Obligations.SupplyAndResetCommands := by
  unfold Obligations.SupplyAndResetCommands
  intro s
  have hsupply {p : Phase} (hp : p ≠ .off) (h : s.dev.power.phase = p) : s.dev.power.phase ≠ .off := h ▸ hp
  refine ⟨fun env h => ?_, fun h => ?_, fun h => ?_, fun env h => ?_, fun rail mv env h => ?_, fun detail rail mv env h hdetail => ?_, fun env h => ?_⟩
  · rw [gives_iff_of_onVest (f := vauxOnOp env) rfl]
    obtain ⟨hphase, hanswers, hopen⟩ := vauxOnOp_starts (d := s.dev.fresh) env h
    exact ⟨hphase, hanswers, hopen, Only.of_fresh (vauxOnOp_only ..)⟩
  · rw [gives_iff_of_onVaux (f := vauxPorOp) rfl h]
    have honly := vauxPorOp_only s.dev.fresh
    rw [vauxPorOp_of_supply (d := s.dev.fresh) h] at honly ⊢
    obtain ⟨hphase, hmem, hout⟩ := Dev.supplyLost_shows s.dev.fresh
    exact ⟨hphase, hmem, hout, Only.of_fresh honly⟩
  · rw [gives_iff_of_onVaux (f := resetNLowOp) rfl (hsupply Phase.noConfusion h)]
    have honly := resetNLowOp_only s.dev.fresh
    rw [resetNLowOp_of_running (d := s.dev.fresh) h] at honly ⊢
    obtain ⟨hphase, hreason, hout⟩ := setPhase_shows (.held true false) (Dev.chipReset_shows (v := 0x01020000) s.dev.fresh ⟨1, 2, 0, 0, 0⟩ false (by decide) (by decide))
    exact ⟨hphase, hreason, hout, Only.of_fresh honly⟩
  · rw [gives_iff_of_onVaux (f := resetNHighOp env) rfl (hsupply Phase.noConfusion h)]
    obtain ⟨hphase, hanswers, hopen⟩ := resetNHighOp_starts (d := s.dev.fresh) env h
    exact ⟨hphase, hanswers, hopen, Only.of_fresh (resetNHighOp_only ..)⟩
  · have hrunning : s.dev.power.phase = .running := by simpa [Dev.awake] using h
    rw [gives_iff_of_onVaux (f := fatalFaultOp 2 rail mv env) rfl (hsupply Phase.noConfusion hrunning)]
    have honly := fatalFaultOp_only 2 rail mv env s.dev.fresh
    rw [fatalFaultOp_hot (d := s.dev.fresh) rail mv env h] at honly ⊢
    obtain ⟨hphase, hreason, -⟩ := setPhase_shows (.held false true) (Dev.chipReset_shows (v := 0x01040002) s.dev.fresh ⟨1, 4, 2, 0, 0⟩ false (by decide) (by decide))
    exact ⟨hphase, hreason, Only.of_fresh honly⟩
  · have hrunning : s.dev.power.phase = .running := by simpa [Dev.awake] using h
    rw [gives_iff_of_onVaux (f := fatalFaultOp detail rail mv env) rfl (hsupply Phase.noConfusion hrunning)]
    obtain ⟨hphase, hanswers, hopen⟩ := fatalFaultOp_restarts (d := s.dev.fresh) rail mv env h hdetail
    exact ⟨hphase, hanswers, hopen, Only.of_fresh (fatalFaultOp_only ..)⟩
  · rw [gives_iff_of_onVaux (f := overtempClearOp env) rfl (hsupply Phase.noConfusion h)]
    obtain ⟨hphase, hanswers, hopen⟩ := overtempClearOp_starts (d := s.dev.fresh) env h
    exact ⟨hphase, hanswers, hopen, Only.of_fresh (overtempClearOp_only ..)⟩

end Sys2Proof

/-! SUPPORT. What shows a power fail (R448, R450) stays as it is through events, answers, safe values, links that go down and migrations that end. -/

namespace Sys2Proof

open Sys2Proof.Machine

/-- The entries in which a power fail shows. -/
def failShows : List Entry := [Ent.Pwr.PF_STATE, (powerCounter 0).entry, (powerCounter 1).entry]

/-- From `a` to `b` all that shows a power fail stays: the entries, the loads' freeze, its instant, the buses of the CAN channels, and, once it is pending,
M0's source 6. -/
structure FailKept (a b : Dev) : Prop where
  entry : ∀ e ∈ failShows, b.get e = a.get e
  frozen : b.supply.frozen = a.supply.frozen
  since : b.power.pfSince = a.power.pfSince
  bus : ∀ n < 16, b.fld (Rg.Ch.BUS n) = a.fld (Rg.Ch.BUS n)
  pending : a.fld (Rg.M0Src.PENDING 6) = 1 → b.fld (Rg.M0Src.PENDING 6) = 1

namespace FailKept

theorem refl {a : Dev} : FailKept a a := ⟨fun _ _ => rfl, rfl, rfl, fun _ _ => rfl, id⟩

theorem trans {a b c : Dev} (hbc : FailKept b c) (hab : FailKept a b) : FailKept a c :=
  ⟨fun e he => (hbc.entry e he).trans (hab.entry e he), hbc.frozen.trans hab.frozen, hbc.since.trans hab.since,
    fun n hn => (hbc.bus n hn).trans (hab.bus n hn), fun h => hbc.pending (hab.pending h)⟩

theorem ite {p : Prop} [Decidable p] {a b d : Dev} (ha : FailKept d a) (hb : FailKept d b) : FailKept d (if p then a else b) := by
  split
  · exact ha
  · exact hb

theorem foldl_of_mem {α : Type} {f : Dev → α → Dev} (l : List α) (hf : ∀ d, ∀ x ∈ l, FailKept d (f d x)) (d : Dev) : FailKept d (l.foldl f d) := by
  induction l generalizing d with
  | nil => exact refl
  | cons x l ih => exact (ih (fun d y hy => hf d y (List.mem_cons_of_mem _ hy)) _).trans (hf d x List.mem_cons_self)

theorem foldl {α : Type} {f : Dev → α → Dev} (hf : ∀ d x, FailKept d (f d x)) (l : List α) (d : Dev) : FailKept d (l.foldl f d) :=
  foldl_of_mem l (fun d x _ => hf d x) d

/-- Parts that show no power fail. -/
theorem of_parts {a b : Dev} (hdict : b.dict = a.dict) (hregs : b.regs = a.regs) (hsupply : b.supply = a.supply)
    (hsince : b.power.pfSince = a.power.pfSince) : FailKept a b :=
  have hfld (f : Field) : b.fld f = a.fld f := by simp only [Dev.fld, Dev.word, hregs]
  ⟨fun e _ => by simp only [Dev.get, hdict], by rw [hsupply], hsince, fun n _ => hfld _, fun h => (hfld _).trans h⟩

end FailKept

/-- A footprint that holds nothing of a power fail. -/
def Foot.keepsFail (F : Foot) : Bool :=
  (failShows.all fun e => F.ents.all (·.lacks e.key)) && F.words.all (·.lacks (Rg.M0Src.PENDING 6).addr) &&
    ((List.range 16).all fun n => F.words.all (·.lacks (Rg.Ch.BUS n).addr)) && [Part.dict, .regs, .supply, .power].all fun p => decide (p ∉ F.parts)

theorem Only.fld_of_lacks {F : Foot} {a b : Dev} (h : Only F a b) {g : Field} (hwords : F.words.all (·.lacks g.addr) = true) (hregs : Part.regs ∉ F.parts) :
    b.fld g = a.fld g := by
  have hfind : KV.find g.addr b.regs = KV.find g.addr a.regs :=
    h.keep .regs hregs g.addr fun f hf => Fam.not_has_of_lacks (List.all_eq_true.1 hwords f hf)
  simp only [Dev.fld, Dev.word, KV.get, hfind]

theorem Only.failKept {F : Foot} {a b : Dev} (h : Only F a b) (hkeeps : F.keepsFail = true := by decide +kernel) : FailKept a b := by
  obtain ⟨⟨⟨hents, hpending⟩, hbus⟩, hparts⟩ := by simpa only [Foot.keepsFail, Bool.and_eq_true] using hkeeps
  have hpart {p : Part} (hp : p ∈ [Part.dict, .regs, .supply, .power]) : p ∉ F.parts := of_decide_eq_true (List.all_eq_true.1 hparts p hp)
  refine ⟨fun e he => h.get_of_lacks (List.all_eq_true.1 hents e he) (hpart (by decide)), congrArg Supply.frozen (h.keep .supply (hpart (by decide))),
    congrArg PowerSt.pfSince (h.keep .power (hpart (by decide))), fun n hn => ?_, fun hset => ?_⟩
  · exact h.fld_of_lacks (List.all_eq_true.1 hbus n (List.mem_range.2 hn)) (hpart (by decide))
  · rw [h.fld_of_lacks hpending (hpart (by decide)), hset]

/-! ### Entries and registers -/

theorem failShows_index {e : Entry} (he : e ∈ failShows) : e.key / 256 = 0x2100 :=
  (show ∀ e ∈ failShows, e.key / 256 = 0x2100 by decide) e he

theorem Dev.put_failKept (d : Dev) {e : Entry} (v : Nat) (h : e.key / 256 ≠ 0x2100 := by decide) : FailKept d (d.put e v) :=
  ⟨fun _ hx => Dev.get_put_other _ _ fun heq => h (heq ▸ failShows_index hx), rfl, rfl, fun _ _ => rfl, id⟩

theorem Dev.event_failKept (d : Dev) (source code data : Nat) (ext : Option Bytes) : FailKept d (d.event source code data ext) := by
  unfold Dev.event
  exact (Dev.logDevice_only ..).failKept

theorem Dev.eventRing_failKept (d : Dev) (h source code data : Nat) (ext : Option Bytes) : FailKept d (d.eventRing h source code data ext) :=
  (Dev.eventRing_only ..).failKept

theorem Dev.count_failKept (d : Dev) {c : Counter} (n : Nat) (hentry : c.entry.key / 256 ≠ 0x2100) (hsat : c.satEntry.key / 256 ≠ 0x2100) :
    FailKept d (d.count c n) := by
  unfold Dev.count
  dsimp only
  refine .ite ?_ (Dev.put_failKept _ _ hentry)
  exact (Dev.event_failKept ..).trans ((Dev.put_failKept _ _ hsat).trans (Dev.put_failKept _ _ hentry))

/-- A write to a field that is in no CAN channel's bus word, and leaves M0's source 6 pending. -/
def FieldKeepsFail (f : Field) (v : Nat) : Prop :=
  (f.addr < 0x10400000 ∨ 0x10440000 ≤ f.addr) ∧
    (f.addr = 0x1F050018 → f.wordReset = 0 ∧ f.lo ≤ f.hi ∧ (f.hi < 31 ∨ f.hi = 31 ∧ f.lo = 31 ∧ v = 1))

theorem Dev.setFld_failKept (d : Dev) {f : Field} {v : Nat} (h : FieldKeepsFail f v) : FailKept d (d.setFld f v) := by
  obtain ⟨hbus, hpending⟩ := h
  refine ⟨fun _ _ => rfl, rfl, rfl, fun n hn => Dev.fld_setFld_other _ _ ?_, fun hset => ?_⟩
  · simp only [Rg.Ch.BUS]
    omega
  · by_cases haddr : f.addr = 0x1F050018
    · obtain ⟨hreset, hwidth, hbits⟩ := hpending haddr
      rcases hbits with hlow | ⟨hhi, hlo, rfl⟩
      · rw [Dev.fld_setFld_beside _ _ haddr.symm hreset.symm hwidth (by decide) (by decide) (.inl hlow), hset]
      · have hfield : f = Rg.M0Src.PENDING 6 := by
          obtain ⟨a, hi, lo, r⟩ := f
          simp only at haddr hhi hlo hreset
          subst haddr hhi hlo hreset
          rfl
        rw [hfield, Dev.fld_setFld_same _ _ (by decide) (by decide)]
        rfl
    · rw [Dev.fld_setFld_other _ _ (Ne.symm haddr), hset]

/-- SYS_IRQ of a unit stands before both. -/
theorem Dev.eventSys_failKept (d : Dev) {i : Nat} (source code data : Nat) (ext : Option Bytes) (hi : i < 16) :
    FailKept d (d.eventSys i source code data ext) := by
  unfold Dev.eventSys Dev.sysIrq Dev.setFldBit
  refine (Dev.setFld_failKept _ ⟨.inl ?_, fun haddr => ?_⟩).trans (Dev.event_failKept ..)
  · simp only [Rg.Plat.SYS_IRQ]
    omega
  · simp only [Rg.Plat.SYS_IRQ] at haddr
    omega

theorem Dev.seEvent_failKept (d : Dev) (source code data : Nat) : FailKept d (d.seEvent source code data) := Dev.eventSys_failKept _ _ _ _ _ (by decide)

theorem Dev.twinEvent_failKept (d : Dev) (code data : Nat) : FailKept d (d.twinEvent code data) :=
  (Dev.eventRing_failKept ..).trans (Dev.eventSys_failKept _ _ _ _ _ (by decide))

theorem Dev.powerEvent_failKept (d : Dev) (code data : Nat) : FailKept d (d.powerEvent code data) :=
  (Dev.eventRing_failKept ..).trans (Dev.eventSys_failKept _ _ _ _ _ (by decide))

theorem Dev.hallEvent_failKept (d : Dev) (h code data : Nat) : FailKept d (d.hallEvent h code data) := (Dev.hallEvent_only ..).failKept

/-! ### Answers -/

theorem Dev.mbDone_failKept (d : Dev) {len total code busy done : Field} (data : Nat → Field) (s : Status) (tot : Nat) (b : Bytes)
    (hcode : FieldKeepsFail code s.code) (hbusy : FieldKeepsFail busy 0) (hdone : FieldKeepsFail done 1) :
    FailKept d (d.mbDone len total code busy done data false s tot b) := by
  unfold Dev.mbDone
  exact (Dev.setFld_failKept _ hdone).trans ((Dev.setFld_failKept _ hbusy).trans (Dev.setFld_failKept _ hcode))

theorem fieldKeepsFail_mailbox (h v : Nat) : FieldKeepsFail (Rg.Mb.CODE h) v ∧ FieldKeepsFail (Rg.Mb.BUSY h) v ∧ FieldKeepsFail (Rg.Mb.DONE h) 1 := by
  have habove : 0x10440000 ≤ 0x1EF00000 + 0x1000 * h + 0x18 := by omega
  exact ⟨⟨.inr habove, fun _ => ⟨rfl, Nat.zero_le _, .inl (show 15 < 31 by decide)⟩⟩, ⟨.inr habove, fun _ => ⟨rfl, Nat.le_refl _, .inl (show 30 < 31 by decide)⟩⟩,
    .inr habove, fun _ => ⟨rfl, Nat.le_refl _, .inr ⟨rfl, rfl, rfl⟩⟩⟩

theorem fieldKeepsFail_secureMailbox (v : Nat) : FieldKeepsFail Rg.Smb.CODE v ∧ FieldKeepsFail Rg.Smb.BUSY v ∧ FieldKeepsFail Rg.Smb.DONE 1 :=
  have hother {f : Field} {w : Nat} (hf : f.addr = 0x1FF00018) : FieldKeepsFail f w := ⟨.inr (by omega), fun h => by omega⟩
  ⟨hother rfl, hother rfl, hother rfl⟩

/-- An answer without data. -/
theorem Dev.respond_failKept (d : Dev) (o : Origin) (s : Status) (b : Bytes) : FailKept d (d.respond o false s [] 0 b) := by
  have hset (x : Dev) (f : DictUnit → DictUnit) : FailKept x (x.setD0 f) := .of_parts rfl rfl rfl rfl
  unfold Dev.respond
  extract_lets a body
  have ha : FailKept d a := hset ..
  refine FailKept.trans ?_ ha
  clear_value a body
  split
  · exact (Dev.sdoAnswer_only ..).failKept
  · exact (Dev.ndpRespond_only ..).failKept
  · exact (Dev.ctrl_only ..).failKept.trans (hset ..)
  · exact .of_parts rfl rfl rfl rfl
  · refine .ite (Dev.bridgeDictDone_only ..).failKept (.ite (.of_parts rfl rfl rfl rfl) ?_)
    obtain ⟨hcode, -, hdone⟩ := fieldKeepsFail_mailbox _ s.code
    exact Dev.mbDone_failKept _ _ _ _ _ hcode (fieldKeepsFail_mailbox _ 0).2.1 hdone
  · obtain ⟨hcode, -, hdone⟩ := fieldKeepsFail_secureMailbox s.code
    exact Dev.mbDone_failKept _ _ _ _ _ hcode (fieldKeepsFail_secureMailbox 0).2.1 hdone

theorem Dev.finish_failKept (d : Dev) (key : Nat) (s : Status) : FailKept d (d.finish key s) := by
  unfold Dev.finish
  split
  · exact .of_parts rfl rfl rfl rfl
  · exact (Dev.respond_failKept ..).trans (.of_parts rfl rfl rfl rfl)

end Sys2Proof

/-! SUPPORT. What shows a power fail stays through the engine's loss, links that go down and migrations that end (R390, R448). -/

namespace Sys2Proof

open Sys2Proof.Machine

/-! ### Bridge sessions -/

theorem Dev.limited_failKept {d : Dev} {scope n : Nat} {f : Dev → Nat → Dev} (hf : ∀ d k, FailKept d (f d k)) : FailKept d (d.limited scope n f) := by
  unfold Dev.limited
  split
  · exact (hf ..).trans (.of_parts rfl rfl rfl rfl)
  · exact .of_parts rfl rfl rfl rfl

theorem fieldKeepsFail_endpoint (u e v w : Nat) : FieldKeepsFail (Rg.Ep.POLL_FAIL u e) v ∧ FieldKeepsFail (Rg.Ep.CODE u e) w := by
  have habove : 0x10440000 ≤ 0x10900000 + 0x4000 * u + 0x10 * e + 0x8 := by omega
  exact ⟨⟨.inr habove, fun _ => ⟨rfl, Nat.le_refl _, .inl (show 30 < 31 by decide)⟩⟩, .inr habove,
    fun _ => ⟨rfl, Nat.zero_le _, .inl (show 15 < 31 by decide)⟩⟩

theorem Dev.pollFailed_failKept (d : Dev) (u e : Nat) (s : Status) (far : Nat) : FailKept d (d.pollFailed u e s far) := by
  obtain ⟨hfail, hcode⟩ := fieldKeepsFail_endpoint u e 1 s.code
  unfold Dev.pollFailed
  exact (Dev.limited_failKept fun _ _ => (Dev.eventRing_failKept ..).trans (Dev.event_failKept ..)).trans
    ((Dev.setFld_failKept _ hcode).trans (Dev.setFld_failKept _ hfail))

/-- The remote mailbox's own registers stand in the context's page, M0's sources in none (Table 3.8). -/
theorem Dev.remoteMbDone_failKept (d : Dev) (u k : Nat) (s : Status) (far : Option Nat) : FailKept d (d.remoteMbDone u k s far none) := by
  have hstatus (v : Nat) : FieldKeepsFail (rmb u k Rg.Mb.CODE) v ∧ FieldKeepsFail (rmb u k Rg.Mb.BUSY) v ∧ FieldKeepsFail (rmb u k Rg.Mb.DONE) v := by
    have habove : 0x10440000 ≤ 0x10800800 + 0x18 + u * 0x40000 + k * 0x1000 ∧ 0x10800800 + 0x18 + u * 0x40000 + k * 0x1000 ≠ 0x1F050018 := by omega
    have hother {f : Field} (hf : f.addr = 0x10800800 + 0x18 + u * 0x40000 + k * 0x1000) : FieldKeepsFail f v :=
      ⟨.inr (hf ▸ habove.1), fun h => absurd (hf.symm.trans h) habove.2⟩
    exact ⟨hother (rmb_addr u k 0x18 _ rfl), hother (rmb_addr u k 0x18 _ rfl), hother (rmb_addr u k 0x18 _ rfl)⟩
  have hfar (v : Nat) : FieldKeepsFail (Rg.Ctx.FAR_CODE u k) v :=
    ⟨.inr (by simp only [Rg.Ctx.FAR_CODE]; omega), fun h => by simp only [Rg.Ctx.FAR_CODE] at h; omega⟩
  obtain ⟨hcode, -, -⟩ := hstatus s.code
  obtain ⟨-, hbusy, -⟩ := hstatus 0
  obtain ⟨-, -, hdone⟩ := hstatus 1
  have hcompletes (x : Dev) (hx : FailKept d x) :
      FailKept d (((x.setFld (rmb u k Rg.Mb.CODE) s.code).setFld (rmb u k Rg.Mb.BUSY) 0).setFld (rmb u k Rg.Mb.DONE) 1) :=
    (Dev.setFld_failKept _ hdone).trans ((Dev.setFld_failKept _ hbusy).trans ((Dev.setFld_failKept _ hcode).trans hx))
  cases far with
  | none => exact hcompletes d .refl
  | some f => exact hcompletes _ (Dev.setFld_failKept _ (hfar f))

theorem Dev.ctxCount_failKept (d : Dev) (u sid n : Nat) {i : Nat} (hi : i < 16) : FailKept d (d.ctxCount u sid i n) := by
  unfold Dev.ctxCount
  refine .ite (Dev.count_failKept _ _ ?_ ?_) .refl
  · simp only [Entry.key, bctxCounter, Ent.Bctx.READS]
    omega
  · simp only [Entry.key, bctxCounter, Ent.Bctx.COUNTER_SAT]
    omega

theorem Dev.settleFail_failKept (d : Dev) (u sid : Nat) (r : BReq) (s : Status) (far : Nat) : FailKept d (d.settleFail u sid r s far) := by
  have hctx (x : Dev) (f : BCtx → BCtx) : FailKept x (x.setBrCtx u sid f) := (Dev.setBrCtx_only ..).failKept
  have hcount : FailKept d (if s = .remoteTimeout then d.ctxCount u sid 3 else d.ctxCount u sid 2) :=
    .ite (Dev.ctxCount_failKept _ _ _ _ (by decide)) (Dev.ctxCount_failKept _ _ _ _ (by decide))
  have hread (x : Dev) (v : Nat) (hx : FailKept d x) : FailKept d (if s = .aborted then x.completeReq r .aborted v
      else if (r.gone && r.msg.spec) = true then x else (x.bstFail u sid s.code far r.addr).completeReq r .ok v) :=
    .ite ((Dev.completeReq_only ..).failKept.trans hx)
      (.ite hx ((Dev.completeReq_only ..).failKept.trans ((Dev.bstFail_only ..).failKept.trans hx)))
  have hpost (x : Dev) (hx : FailKept d x) :
      FailKept d ((x.setBrCtx u sid fun c => c.postFailed r.msg.tag (s == .remoteTimeout)).postedFail (srcBridge u sid) r.hall r.epoch r.msg.tag r.msg.addr
        s.code) := (Dev.eventRing_failKept ..).trans ((hctx ..).trans hx)
  have hmailbox (x : Dev) (hx : FailKept d x) : FailKept d (if r.initiator = srcTwin then x.queryDone s far else
      x.remoteMbDone u sid s (if s = .remoteFailed ∨ s = .remoteTimeout then some far else none) none) :=
    .ite ((Dev.queryDone_only ..).failKept.trans hx) ((Dev.remoteMbDone_failKept ..).trans hx)
  unfold Dev.settleFail
  dsimp only
  split
  · exact hread _ _ hcount
  · exact hread _ _ hcount
  · exact hread _ _ hcount
  · exact hpost _ hcount
  · exact hpost _ hcount
  · exact hmailbox _ hcount
  · exact hmailbox _ hcount
  · exact .ite ((Dev.pollFailed_failKept ..).trans hcount) hcount
  · exact hcount

theorem Dev.bridgeConnect_failKept (d : Dev) (u sid : Nat) : FailKept d (d.bridgeConnect u sid) := by
  have hsess (x : Dev) (f : BSess → BSess) : FailKept x (x.setBrSess u sid f) := (Dev.setBrSess_only ..).failKept
  unfold Dev.bridgeConnect
  dsimp only
  split
  · exact (FailKept.foldl (fun _ _ => Dev.settleFail_failKept ..) _ _).trans (hsess ..)
  · exact (Dev.showSession_only ..).failKept.trans ((Dev.sessSend_only ..).failKept.trans ((hsess ..).trans (Dev.draw_only d 128).failKept))

theorem Dev.pump_failKept (d : Dev) (u sid : Nat) : FailKept d (d.pump u sid) := by
  have hdone (x : Dev) : FailKept x (if sid < 64 then x.refreshPwDone u sid else x) := .ite (Dev.refreshPwDone_only ..).failKept .refl
  unfold Dev.pump
  extract_lets s x
  refine (hdone x).trans ?_
  exact .ite .refl (.ite (Dev.bridgeConnect_failKept ..) (Dev.issueWaiting_only ..).failKept)

/-! ### Migrations -/

theorem Dev.hallDone_failKept (d : Dev) (h : Nat) (s : Status) (detail : Nat) : FailKept d (d.hallDone h s detail) := by
  unfold Dev.hallDone
  refine (Dev.finish_failKept ..).trans (Dev.put_failKept _ _ ?_)
  simp only [Entry.key, Ent.Hall.CMD_STATUS]
  omega

theorem Dev.hallThaw_failKept (d : Dev) (h : Nat) : FailKept d (d.hallThaw h) := by
  unfold Dev.hallThaw
  exact (FailKept.foldl (fun _ _ => Dev.pump_failKept ..) _ _).trans ((Dev.coresHalt_only ..).failKept.trans (Dev.setHall_only ..).failKept)

theorem Dev.migEnd_failKept (d : Dev) (s : Status) : FailKept d (d.migEnd s) := by
  unfold Dev.migEnd
  split
  · exact .refl
  · extract_lets h us x
    have hx : FailKept d x := (Dev.migSend_only ..).failKept.trans (.of_parts rfl rfl rfl rfl)
    have hthawed : FailKept d ((x.hallThaw h).migDone h s us) := (Dev.hallEvent_failKept ..).trans ((Dev.hallThaw_failKept ..).trans hx)
    exact .ite ((Dev.hallDone_failKept ..).trans hx) (.ite ((Dev.hallDone_failKept ..).trans hthawed) hthawed)

/-! ### Roles and loads -/

theorem Dev.setRole_failKept (d : Dev) (r : Nat) : FailKept d (d.setRole r) := by
  unfold Dev.setRole
  exact .ite .refl ((Dev.twinEvent_failKept ..).trans (Dev.put_failKept _ _))

theorem Dev.sscEnds_failKept (d : Dev) : FailKept d d.sscEnds := by
  have hset (x : Dev) : FailKept x (x.sscSet false) := by
    unfold Dev.sscSet Dev.clockEvent
    exact .ite .refl ((Dev.eventSys_failKept _ _ _ _ _ (by decide)).trans (Dev.put_failKept _ _))
  have hopen : FailKept d (d.setClk fun c => { c with sscOpen := false }) := .of_parts rfl rfl rfl rfl
  unfold Dev.sscEnds
  exact .ite hopen ((hset _).trans hopen)

theorem Dev.applySafe_failKept (d : Dev) (n : Nat) : FailKept d (d.applySafe n) := by
  have hflag (x : Dev) (i : Nat) (b : Bool) : FailKept x (x.setLoadFlag n i b) := (Dev.setLoadFlag_only ..).failKept
  have hpwm : FailKept d (if (bit (d.safeCommand n) 2 && !bit (d.loadCh n).cmd 2) = true then d.sscEnds else d) := .ite (Dev.sscEnds_failKept d) .refl
  have hch (x : Dev) (f : LoadCh → LoadCh) : FailKept x (x.setLoadCh n f) := .of_parts rfl rfl rfl rfl
  have hset (x : Dev) (f : LoadCh → LoadCh) (hx : FailKept d x) :
      FailKept d ((((x.windowGoesOn n).setLoadFlag n 6 true).setLoadFlag n 4 false).setLoadCh n f) :=
    (hch ..).trans ((hflag ..).trans ((hflag ..).trans ((Dev.windowGoesOn_only ..).failKept.trans hx)))
  unfold Dev.applySafe
  dsimp only
  refine .ite .refl (.ite ?_ (.ite ?_ ?_))
  · exact (Dev.followOn_only ..).failKept.trans (hset _ _ hpwm)
  · exact (Dev.enterLoad_only ..).failKept.trans (hset _ _ hpwm)
  · exact hset _ _ hpwm

theorem Dev.engineSafe_failKept (d : Dev) (fault : Bool) : FailKept d (d.engineSafe fault) :=
  .foldl (fun _ _ => .ite (Dev.applySafe_failKept ..) .refl) _ d

theorem Dev.faultRefresh_failKept (d : Dev) : FailKept d d.faultRefresh := by
  have hlow (b : Bool) (o : Out) : FailKept d ((d.setTwin fun t => { t with low := b }).emit o) := .of_parts rfl rfl rfl rfl
  unfold Dev.faultRefresh
  split
  · exact .ite (hlow ..) .refl
  · exact .ite .refl (.ite ((Dev.twinEvent_failKept ..).trans ((Dev.engineSafe_failKept ..).trans ((Dev.setRole_failKept ..).trans (hlow ..)))) (hlow ..))

/-! ### The engine's loss -/

theorem Dev.setEngine_failKept (d : Dev) (st : Nat) : FailKept d (d.setEngine st) := by
  have hshown : FailKept d ((d.put Ent.Se.STATE st).seEvent srcEngine 0x0020 (d.engine * 256 + st)) :=
    (Dev.seEvent_failKept ..).trans (Dev.put_failKept _ _)
  unfold Dev.setEngine
  exact .ite .refl (.ite ((Dev.eventRing_failKept ..).trans hshown) hshown)

theorem Dev.cmdDone_failKept (d : Dev) (s : Status) (sect rec_ : Nat) : FailKept d (d.cmdDone s sect rec_) :=
  (Dev.finish_failKept ..).trans (Dev.put_failKept _ _)

theorem Dev.changeEnd_failKept (d : Dev) (s : Status) : FailKept d (d.changeEnd s) := by
  have hcount (x : Dev) (i : Nat) (hi : i < 16) : FailKept x (x.count (changeCounter i)) :=
    Dev.count_failKept _ _ (by simp only [Entry.key, changeCounter]; omega) (show Ent.Chg.COUNTER_SAT.key / 256 ≠ 0x2100 by decide)
  unfold Dev.changeEnd
  split
  · exact .refl
  · dsimp only
    refine (Dev.eventRing_failKept ..).trans ((Dev.seEvent_failKept ..).trans ((hcount _ _ (by split <;> decide)).trans ?_))
    exact (Dev.put_failKept _ _).trans ((Dev.put_failKept _ _).trans (.of_parts rfl rfl rfl rfl))

theorem Dev.detach_failKept (d : Dev) : FailKept d d.detach := by
  have htwin (x : Dev) (f : TwinSt → TwinSt) : FailKept x (x.setTwin f) := .of_parts rfl rfl rfl rfl
  unfold Dev.detach
  dsimp only
  refine (Dev.setRole_failKept ..).trans ((htwin ..).trans ((Dev.ctrl_only ..).failKept.trans ?_))
  exact (Dev.draw_only d 16).failKept

end Sys2Proof

/-! SUPPORT. A power fail and the recovery of VAUX (R448, R450). -/

namespace Sys2Proof

open Sys2Proof.Machine

/-! ### The tasks -/

theorem fieldKeepsFail_of_below {f : Field} (v : Nat) (h : f.addr < 0x10400000) : FieldKeepsFail f v := ⟨.inl h, fun haddr => by omega⟩

/-- The pages of the executors' cores stand below the CAN channels. -/
theorem executorPage_below {x : Nat} (hx : x < 12) : pgBase (4 + execLead x) + 0x30 < 0x10400000 := by
  have hlead : execLead x < 8 := by
    unfold execLead
    split <;> omega
  unfold pgBase
  split
  · omega
  · omega

theorem Dev.abandonTasks_failKept (d : Dev) : FailKept d d.abandonTasks := by
  have hexecutor (d : Dev) (x : Nat) (hx : x ∈ List.range 12) : FailKept d (
      if (d.setFld (Rg.Src.PENDING (13 + x)) 0).isSet (Rg.Src.ACTIVE (13 + x)) = true then
        (((((List.range 8).foldl (fun d i => (d.setFld (pgSrc (4 + execLead x) i) 0).setFld (pgSaved (4 + execLead x) i) 0)
          (d.setFld (Rg.Src.PENDING (13 + x)) 0)).setFld (pgDepth (4 + execLead x)) 0).setFld (pgPrio (4 + execLead x)) 0).setFld (Rg.Src.ACTIVE (13 + x)) 0)
      else d.setFld (Rg.Src.PENDING (13 + x)) 0) := by
    have hlow := executorPage_below (List.mem_range.1 hx)
    have hx := List.mem_range.1 hx
    have hset {f : Field} (y : Dev) (h : f.addr < 0x10400000) : FailKept y (y.setFld f 0) := Dev.setFld_failKept _ (fieldKeepsFail_of_below _ h)
    have hpending : FailKept d (d.setFld (Rg.Src.PENDING (13 + x)) 0) := hset _ (by simp only [Rg.Src.PENDING]; omega)
    refine .ite ?_ hpending
    refine (hset _ (by simp only [Rg.Src.ACTIVE]; omega)).trans ((hset _ (by rw [pgPrio_addr]; omega)).trans ((hset _ (by rw [pgDepth_addr]; omega)).trans ?_))
    refine (FailKept.foldl_of_mem _ (fun y i hi => ?_) _).trans hpending
    have hi := List.mem_range.1 hi
    exact (hset _ (by rw [pgSaved_addr]; omega)).trans (hset _ (by rw [pgSrc_addr]; omega))
  unfold Dev.abandonTasks
  exact (FailKept.foldl_of_mem _ hexecutor _).trans (.of_parts rfl rfl rfl rfl)

theorem Dev.retainSave_failKept (d : Dev) : FailKept d d.retainSave := by
  have hscan (x : Dev) (f : ScanSt → ScanSt) : FailKept x (x.setScan f) := .of_parts rfl rfl rfl rfl
  unfold Dev.retainSave
  exact (hscan ..).trans (Dev.abandonTasks_failKept d)

/-- The engine's loss ends a change and a STOP that waits, and takes a standby out of its pair. -/
theorem Dev.engineLost_failKept (d : Dev) (cause : Nat) : FailKept d (d.engineLost cause) := by
  have hfault (x : Dev) : FailKept x (x.setTwin fun t => { t with scan := true }) := .of_parts rfl rfl rfl rfl
  unfold Dev.engineLost Dev.scanFault
  refine .ite .refl ?_
  extract_lets was a chg b c e f g
  have ha : FailKept d a := (Dev.abandonTasks_failKept _).trans (Dev.put_failKept _ _)
  have hb : FailKept d b := (Dev.engineSafe_failKept ..).trans ha
  have hc : FailKept d c := .ite ((Dev.changeEnd_failKept ..).trans hb) hb
  have he : FailKept d e := (Dev.setEngine_failKept ..).trans hc
  have hf : FailKept d f := .ite ((Dev.cmdDone_failKept ..).trans he) he
  have hg : FailKept d g := .ite ((Dev.faultRefresh_failKept _).trans ((hfault _).trans hf)) hf
  exact .ite ((Dev.detach_failKept _).trans hg) hg

/-! ### Links that go down -/

theorem Dev.slotLost_failKept (d : Dev) (s cause : Nat) : FailKept d (d.slotLost s cause) := by
  have hcount (x : Dev) : FailKept x (x.count (slotCounter s 5)) :=
    Dev.count_failKept _ _ (by simp only [Entry.key, slotCounter]; omega) (by simp only [Entry.key, slotCounter, Ent.Stn.COUNTER_SAT]; omega)
  have hslot (x : Dev) (f : Slot → Slot) : FailKept x (x.setSlot s f) := .of_parts rfl rfl rfl rfl
  unfold Dev.slotLost
  refine .ite ((Dev.seEvent_failKept ..).trans ((hcount _).trans ((hslot ..).trans (Dev.put_failKept _ _ ?_)))) .refl
  simp only [Entry.key, Ent.Stn.STATE]
  omega

theorem Dev.laneDown_failKept (d : Dev) (n : Nat) : FailKept d (d.laneDown n) := by
  have hlane : FailKept d (d.setLane n fun _ => Lane.down) := .of_parts rfl rfl rfl rfl
  unfold Dev.laneDown
  exact .ite ((Dev.twinEvent_failKept ..).trans ((Dev.put_failKept _ _).trans hlane)) hlane

theorem Dev.galleryLaneDown_failKept (d : Dev) (n : Nat) : FailKept d (d.galleryLaneDown n) := by
  have hhalls (x : Dev) (f : HallSt → HallSt) : FailKept x (x.setHalls f) := .of_parts rfl rfl rfl rfl
  have hlost (x : Dev) : FailKept x x.migLinkLost := (hhalls ..).trans (Dev.migEnd_failKept x _)
  have hboth : FailKept d (d.laneDown n).migLinkLost := (hlost _).trans (Dev.laneDown_failKept d n)
  unfold Dev.galleryLaneDown
  exact .ite (.ite ((Dev.setRole_failKept ..).trans hboth) hboth) (Dev.laneDown_failKept d n)

theorem Dev.portDown_failKept (d : Dev) (p : Nat) : FailKept d (d.portDown p) := by
  have hdown : FailKept d (d.linkDown p) := (Dev.linkDown_only ..).failKept
  have hslots (x : Dev) : FailKept x (x.portSlotsLost p) := .foldl (fun _ _ => .ite (Dev.slotLost_failKept ..) .refl) _ x
  have hlink : FailKept d (if (d.sw.link p).up then (d.linkDown p).portSlotsLost p else d.linkDown p) := .ite ((hslots _).trans hdown) hdown
  unfold Dev.portDown
  exact .ite ((Dev.galleryLaneDown_failKept ..).trans hlink) hlink

/-! ### A power fail begins -/

/-- The first records of a power fail: PF_STATE, POWER_FAILS and M0's source (Table 19.9). -/
def Machine.Dev.failBegun (d : Dev) : Dev :=
  ((({ d with power := { d.power with pfSince := d.time.raw } } : Dev).put Ent.Pwr.PF_STATE 1).count (powerCounter 0)).raiseM0 6

theorem Dev.failBegun_shows (d : Dev) : d.failBegun.get Ent.Pwr.PF_STATE = 1 ∧ d.failBegun.power.pfSince = d.time.raw ∧
    d.failBegun.fld (Rg.M0Src.PENDING 6) = 1 ∧ d.failBegun.get (powerCounter 0).entry = min (d.get (powerCounter 0).entry + 1) (2 ^ 64 - 1) := by
  have hstate (x : Dev) : (x.count (powerCounter 0)).get Ent.Pwr.PF_STATE = x.get Ent.Pwr.PF_STATE :=
    Dev.count_get_other x _ _ _ _ _ (by decide) (by decide) (by decide)
  have hcount (x : Dev) : (x.count (powerCounter 0)).get (powerCounter 0).entry = min (x.get (powerCounter 0).entry + 1) (2 ^ 64 - 1) :=
    Dev.count_get_same x _ _ _ _ 1 rfl (by decide) (by decide)
  have hsince (x : Dev) : ((x.count (powerCounter 0)).raiseM0 6).power = x.power := (Dev.raiseM0_power ..).trans (Dev.count_power ..)
  have hother (x : Dev) : (x.put Ent.Pwr.PF_STATE 1).get (powerCounter 0).entry = x.get (powerCounter 0).entry := Dev.get_put_other _ _ (by decide)
  have hset (p : PowerSt) (e : Entry) : ({ d with power := p } : Dev).get e = d.get e := rfl
  unfold Machine.Dev.failBegun
  refine ⟨?_, ?_, ?_, ?_⟩
  · rw [Dev.raiseM0_get, hstate, Dev.get_put_same]
    rfl
  · rw [hsince, Dev.put_power]
  · rw [Dev.raiseM0, Dev.fld_setFld_same _ _ (by decide) (by decide)]
    rfl
  · rw [Dev.raiseM0_get, hcount, hother, hset]

/-- The steps after: the loads freeze when the engine is lost, then the ports go down. -/
theorem powerFailOp_eq {d : Dev} (hphase : d.power.phase = .running) (hpf : d.get Ent.Pwr.PF_STATE = 0) : ∃ x : Dev, FailKept d.failBegun x ∧
    powerFailOp d = (List.range 54).foldl (fun d p => if (portDomain p).isSome then d.portDown p else d) (x.setSupply fun s => { s with frozen := true }) := by
  have hop : powerFailOp d = (List.range 54).foldl (fun d p => if (portDomain p).isSome then d.portDown p else d)
      (((if d.saveApplies then (d.failBegun.powerEvent 0x0020 (d.failBegun.get Ent.Pf.PF_THRESH_MV)).faultRefresh.retainSave
        else (d.failBegun.powerEvent 0x0020 (d.failBegun.get Ent.Pf.PF_THRESH_MV)).faultRefresh).engineLost 5).setSupply fun s => { s with frozen := true }) :=
    if_neg (by rw [hphase, hpf]; simp)
  have hrecorded : FailKept d.failBegun (d.failBegun.powerEvent 0x0020 (d.failBegun.get Ent.Pf.PF_THRESH_MV)).faultRefresh :=
    (Dev.faultRefresh_failKept _).trans (Dev.powerEvent_failKept ..)
  exact ⟨_, (Dev.engineLost_failKept ..).trans (.ite ((Dev.retainSave_failKept _).trans hrecorded) hrecorded), hop⟩

theorem powerFailOp_shows {d : Dev} (hphase : d.power.phase = .running) (hpf : d.get Ent.Pwr.PF_STATE = 0) :
    (powerFailOp d).get Ent.Pwr.PF_STATE = 1 ∧ (powerFailOp d).supply.frozen = true ∧ (powerFailOp d).power.pfSince = d.time.raw ∧
      (powerFailOp d).fld (Rg.M0Src.PENDING 6) = 1 ∧ (powerFailOp d).get (powerCounter 0).entry = min (d.get (powerCounter 0).entry + 1) (2 ^ 64 - 1) := by
  obtain ⟨hstate, hsince, hpending, hcount⟩ := Dev.failBegun_shows d
  obtain ⟨x, hkept, hop⟩ := powerFailOp_eq hphase hpf
  have hports (y : Dev) : FailKept y ((List.range 54).foldl (fun d p => if (portDomain p).isSome then d.portDown p else d) y) :=
    .foldl (fun _ _ => .ite (Dev.portDown_failKept ..) .refl) _ y
  have hfrozen (y : Dev) : (y.setSupply fun s => { s with frozen := true }).supply.frozen = true := rfl
  have hget (y : Dev) (f : Supply → Supply) (e : Entry) : (y.setSupply f).get e = y.get e := rfl
  have hpower (y : Dev) (f : Supply → Supply) : (y.setSupply f).power = y.power := rfl
  have hfld (y : Dev) (f : Supply → Supply) (g : Field) : (y.setSupply f).fld g = y.fld g := rfl
  rw [hop]
  refine ⟨?_, ?_, ?_, ?_, ?_⟩
  · rw [(hports _).entry _ (by decide), hget, hkept.entry _ (by decide), hstate]
  · rw [(hports _).frozen, hfrozen]
  · rw [(hports _).since, hpower, hkept.since, hsince]
  · exact (hports _).pending (by rw [hfld, hkept.pending hpending])
  · rw [(hports _).entry _ (by decide), hget, hkept.entry _ (by decide), hcount]

/-! ### VAUX recovers -/

/-- Every enabled CAN channel waits for its bus. -/
def Machine.Dev.busesWait (d : Dev) (k : Nat) : Dev :=
  (List.range k).foldl (fun d n => if d.get (Ent.CanSt.STATE n) = 1 then d.setFld (Rg.Ch.BUS n) 3 else d) d

theorem Dev.busesWait_succ (d : Dev) (k : Nat) : d.busesWait (k + 1) =
    if (d.busesWait k).get (Ent.CanSt.STATE k) = 1 then (d.busesWait k).setFld (Rg.Ch.BUS k) 3 else d.busesWait k := by
  rw [Machine.Dev.busesWait, List.range_succ, List.foldl_append]
  rfl

theorem Dev.busesWait_get (d : Dev) (k : Nat) (e : Entry) : (d.busesWait k).get e = d.get e := by
  refine foldl_keeps (g := fun x : Dev => x.get e) (fun x n => ?_) _ d
  split <;> rfl

theorem Dev.busesWait_supply (d : Dev) (k : Nat) : (d.busesWait k).supply = d.supply := by
  refine foldl_keeps (g := Dev.supply) (fun x n => ?_) _ d
  split <;> rfl

theorem Dev.busesWait_bus (d : Dev) {k n : Nat} (hn : n < k) (hstate : d.get (Ent.CanSt.STATE n) = 1) : (d.busesWait k).fld (Rg.Ch.BUS n) = 3 := by
  induction k with
  | zero => omega
  | succ k ih =>
    rw [Dev.busesWait_succ]
    by_cases hk : n = k
    · subst hk
      rw [Dev.busesWait_get, if_pos hstate, Dev.fld_setFld_same _ _ (show 9 < 32 by decide) (show 8 ≤ 9 by decide)]
      rfl
    · have hkept := ih (by omega)
      split
      · rw [Dev.fld_setFld_other _ _ (by simp only [Rg.Ch.BUS]; omega), hkept]
      · exact hkept

/-- PF_STATE, RECOVERIES and the loads, once VAUX has recovered. -/
def Machine.Dev.failEnded (d : Dev) : Dev := ((d.put Ent.Pwr.PF_STATE 0).count (powerCounter 1)).setSupply fun s => { s with frozen := false }

theorem Dev.failEnded_shows (d : Dev) : d.failEnded.get Ent.Pwr.PF_STATE = 0 ∧ d.failEnded.supply.frozen = false ∧
    d.failEnded.get (powerCounter 1).entry = min (d.get (powerCounter 1).entry + 1) (2 ^ 64 - 1) ∧
      ∀ n < 16, d.failEnded.get (Ent.CanSt.STATE n) = d.get (Ent.CanSt.STATE n) := by
  have hset (x : Dev) (f : Supply → Supply) (e : Entry) : (x.setSupply f).get e = x.get e := rfl
  have hcount (x : Dev) : (x.count (powerCounter 1)).get (powerCounter 1).entry = min (x.get (powerCounter 1).entry + 1) (2 ^ 64 - 1) :=
    Dev.count_get_same x _ _ _ _ 1 rfl (by decide) (by decide)
  have hother (x : Dev) {e : Entry} (hentry : e.key ≠ (powerCounter 1).entry.key) (hsat : e.key ≠ Ent.Pwr.COUNTER_SAT.key) (hlog : e.key ∉ logKeys) :
      (x.count (powerCounter 1)).get e = x.get e := Dev.count_get_other x _ _ _ _ _ hentry hsat hlog
  have hcan : ∀ n < 16, (Ent.CanSt.STATE n).key ≠ (powerCounter 1).entry.key ∧ (Ent.CanSt.STATE n).key ≠ Ent.Pwr.COUNTER_SAT.key ∧
      (Ent.CanSt.STATE n).key ∉ logKeys ∧ (Ent.CanSt.STATE n).key ≠ Ent.Pwr.PF_STATE.key := by decide +kernel
  unfold Machine.Dev.failEnded
  refine ⟨?_, rfl, ?_, fun n hn => ?_⟩
  · rw [hset, hother _ (by decide) (by decide) (by decide), Dev.get_put_same]
    rfl
  · rw [hset, hcount, Dev.get_put_other _ _ (by decide)]
  · obtain ⟨hentry, hsat, hlog, hstate⟩ := hcan n hn
    rw [hset, hother _ hentry hsat hlog, Dev.get_put_other _ _ hstate]

theorem powerRestoredOp_kept {d : Dev} (hpf : d.get Ent.Pwr.PF_STATE ≠ 0) (hsaving : d.scan.saving = none)
    (hdue : d.aged d.power.pfSince (d.get Ent.Pf.PF_RECOVER_MS * 1000000) = true) : FailKept (d.failEnded.busesWait 16) (powerRestoredOp d) := by
  have hop : powerRestoredOp d =
      ((d.failEnded.busesWait 16).powerEvent 0x0021 (min ((d.time.raw - d.power.pfSince) / 1000) 0xFFFFFFFF)).faultRefresh :=
    if_neg (by simp [hpf, hsaving, hdue])
  rw [hop]
  exact (Dev.faultRefresh_failKept _).trans (Dev.powerEvent_failKept ..)

theorem powerRestoredOp_shows {d : Dev} (hpf : d.get Ent.Pwr.PF_STATE ≠ 0) (hsaving : d.scan.saving = none)
    (hdue : d.aged d.power.pfSince (d.get Ent.Pf.PF_RECOVER_MS * 1000000) = true) :
    (powerRestoredOp d).get Ent.Pwr.PF_STATE = 0 ∧ (powerRestoredOp d).supply.frozen = false ∧
      (powerRestoredOp d).get (powerCounter 1).entry = min (d.get (powerCounter 1).entry + 1) (2 ^ 64 - 1) ∧
        ∀ n < 16, d.get (Ent.CanSt.STATE n) = 1 → (powerRestoredOp d).fld (Rg.Ch.BUS n) = 3 := by
  obtain ⟨hstate, hfrozen, hcount, hcan⟩ := Dev.failEnded_shows d
  have hkept := powerRestoredOp_kept hpf hsaving hdue
  refine ⟨?_, ?_, ?_, fun n hn hon => ?_⟩
  · rw [hkept.entry _ (by decide), Dev.busesWait_get, hstate]
  · rw [hkept.frozen, Dev.busesWait_supply, hfrozen]
  · rw [hkept.entry _ (by decide), Dev.busesWait_get, hcount]
  · rw [hkept.bus n hn, Dev.busesWait_bus _ hn (by rw [hcan n hn, hon])]

/-- Settles O34: what a power fail and its end set at first stays through the events, the engine's loss and the links that go down. -/
theorem powerFailCommands : Obligations.PowerFailCommands := by
  unfold Obligations.PowerFailCommands
  intro s hlive
  refine ⟨fun hpf => ?_, fun hpf hsaving hdue => ?_⟩
  · rw [gives_iff_of_onDev (f := powerFailOp) rfl hlive]
    obtain ⟨hstate, hfrozen, hsince, hpending, hcount⟩ := powerFailOp_shows (d := s.dev.fresh) hlive hpf
    exact ⟨hstate, hfrozen, hsince, hpending, hcount, Only.of_fresh (powerFailOp_only ..)⟩
  · rw [gives_iff_of_onDev (f := powerRestoredOp) rfl hlive]
    obtain ⟨hstate, hfrozen, hcount, hbus⟩ := powerRestoredOp_shows (d := s.dev.fresh) hpf hsaving hdue
    refine ⟨hstate, hfrozen, hcount, List.all_eq_true.2 fun n hn => ?_, Only.of_fresh (powerRestoredOp_only ..)⟩
    by_cases hon : s.dev.get (Ent.CanSt.STATE n) = 1
    · rw [hbus n (List.mem_range.1 hn) hon, beq_self_eq_true, Bool.or_true]
    · rw [bne_iff_ne.2 hon, Bool.true_or]

end Sys2Proof

end
